-- ==== Sys2Proof/Word.lean ====
section
/-! DEFINITION. The word types of the MK880 (R8, R11): bytes, and words of 16, 32 and 64 bits. -/

namespace Sys2Proof

/-- One byte: of user memory, of a Frond image, of a check field. -/
abbrev Byte := BitVec 8
/-- A 32-bit register or half of a 64-bit one (R8, R11). -/
abbrev Word32 := BitVec 32
/-- A 64-bit register, table word or memory word. -/
abbrev Word64 := BitVec 64

end Sys2Proof
end

