-- ==== Sys2Proof/Syntax.lean ====
section
/-! DEFINITION. The commands of the MK880: one constructor per row of spec/opcode_table.json, with the operands a command
carries. The table gives no row any bits, so a command is data, not an encoding. -/

namespace Sys2Proof

/-- A firing as it reaches its target (R83, R88): the entry index, target, arg and sheet_tag of the entry, its delivered
time, whether it is late, and whether an encoder triggered it. -/
structure Firing where
  idx       : Nat
  target    : Nat
  arg       : Nat
  tag       : Nat
  delivered : Nat
  late      : Bool
  enc       : Bool
  deriving DecidableEq, Repr

/-- A filtered input (R289): a limit of stepper n, or DINk. -/
inductive InputId where
  | limf (n : Fin 16)
  | limr (n : Fin 16)
  | din (k : Fin 32)
  deriving DecidableEq, Repr

/-- How a read of host memory ends (R183), or that the rearranging datapaths disagree on its data (R168). -/
inductive CplStatus where
  | ok | unsupported | abort | poisoned | mismatch
  deriving DecidableEq, Repr

/-- Completion data of a DMA read (R177). -/
structure ReadCompletion where
  status : CplStatus
  data   : List Word64
  deriving DecidableEq, Repr

/-- What a receive lane shows at lock (R124-R126, R128, R129): how many valid sync headers (RL-3) have come one after the other or
how many K28.5 commas (RL-1, RL-2) at one boundary, the 14 bytes of the training sequence as they arrive on it, the widest
error-free run of taps and its centre. -/
structure LaneSeen where
  good : Nat
  ts  : List Byte
  eye : Nat
  tap : Nat
  deriving DecidableEq, Repr

/-- The used receive lanes at lock (R134). -/
structure LaneReport where
  lanes : List LaneSeen
  deriving DecidableEq, Repr

/-- The end of deskew (R133): each lane's skew in units of 0.25 ns, and how often in a row the alignment units agreed on every
lane. -/
structure DeskewReport where
  skews  : List Nat
  agreed : Nat
  deriving DecidableEq, Repr

/-- What a used receive lane has lost (R125, R126, R133, R134): its signal; its block lock, by the invalid sync headers within 64
blocks; its word lock, by the invalid code groups and disparity errors within 256 code groups; its alignment, by a misaligned
alignment unit. -/
inductive LockLoss where
  | signal
  | headers (invalid : Nat)
  | codes (invalid : Nat)
  | misaligned
  deriving DecidableEq, Repr

/-- How a frame ends (R143, R146): EOF, EOFS, or cut short by an invalid unit, a second SOF or a loss of lock. -/
inductive FrameEnd where
  | eof (u : List Byte)
  | eofs (u : List Byte)
  | cut
  deriving DecidableEq, Repr

/-- A frame on the Raster Ring (R143): its SOF, header and payload units of 8 bytes, control units left out, and its end. -/
structure RingFrame where
  units : List (List Byte)
  fin   : FrameEnd
  deriving DecidableEq, Repr

/-- A message on a lane of the twin link (R383): its frame as it arrives, and the eighth of the present tick in which the SOF
reaches the pins (R386). -/
structure TwinFrame where
  lane  : Fin 2
  frame : RingFrame
  at8   : Fin 8
  deriving DecidableEq, Repr

/-- An input unit on a lane of the twin link (R384): its 8 bytes. -/
structure TwinUnit where
  lane  : Fin 2
  bytes : List Byte
  deriving DecidableEq, Repr

/-! `same`, in the commands that clear a W1C or RC bit by a write or a read: the bits of that register that hardware events set in
the very clock of the access (R10). -/

/-- A command. Each constructor is a row of spec/opcode_table.json; the rule it follows stands before it. -/
inductive Instr where
  /-- REGISTER_WRITE (R8) -/
  | registerWrite (off : Nat) (v : Word64) (wide : Bool) (same : Word64)
  /-- LOW_HALF_READ (R11) -/
  | lowHalfRead (off : Nat) (wide : Bool)
  /-- HIGH_HALF_READ (R11) -/
  | highHalfRead (off : Nat)
  /-- LOW_HALF_WRITE (R11) -/
  | lowHalfWrite (off : Nat) (v : Word32)
  /-- HIGH_HALF_WRITE (R11) -/
  | highHalfWrite (off : Nat) (v : Word32) (inTransfer : Bool) (same : Word64)
  /-- SHADOW_WRITE (R12) -/
  | shadowWrite (off : Nat) (v : Word64) (inTransfer : Bool)
  /-- GROUP_COMMIT (R12) -/
  | groupCommit (off : Nat) (v : Word32) (inTransfer : Bool)
  /-- BAR_ACCESS_MISALIGNED (R19) -/
  | barAccessMisaligned (bar : Fin 3) (off : Nat) (size : Nat) (write : Bool) (data : List Byte)
  /-- OFF_DOMAIN_ACCESS (R20) -/
  | offDomainAccess (off : Nat) (size : Nat) (write : Bool)
  /-- UNSUPPORTED_REQUEST (R412) -/
  | unsupportedRequest (addr : Word64) (write : Bool)
  /-- BAR2_WRITE (R22) -/
  | bar2Write (off : Nat) (v : Word64) (wide : Bool) (inTransfer : Bool)
  /-- BAR2_READ (R21) -/
  | bar2Read (off : Nat) (wide : Bool)
  /-- BAR4_READ (R24) -/
  | bar4Read (off : Nat) (wide : Bool)
  /-- BAR4_WRITE (R24) -/
  | bar4Write (off : Nat) (v : Word64) (wide : Bool)
  /-- POISONED_WRITE (R415) -/
  | poisonedWrite (bar : Fin 3) (off : Nat) (data : List Word32)
  /-- MSIX_UNMASK (R410) -/
  | msixUnmask (v : Fin 64)
  /-- PORST_ASSERT (R67) -/
  | porstAssert
  /-- AON_POWER_ON (R67) -/
  | aonPowerOn
  /-- PHASE1_START (R60) -/
  | phase1Start
  /-- STRAP_SAMPLE (R59) -/
  | strapSample (pers twsel bootsrc : Bool)
  /-- PHASE_COMPLETE (R61) -/
  | phaseComplete (phase : Fin 16) (fallback : Option Word32)
  /-- PHASE_TIMEOUT (R62) -/
  | phaseTimeout (phase : Fin 16) (cause : Byte) (crc : Word32)
  /-- ENGINE_GO (R65) -/
  | engineGo
  /-- RETRY (R63) -/
  | retry
  /-- SW_FULL_RESET (R71) -/
  | swFullReset (force : Bool)
  /-- SW_HOST_RESET (R67) -/
  | swHostReset
  /-- PERST_ASSERT (R67) -/
  | perstAssert
  /-- PCIE_HOT_RESET (R67) -/
  | pcieHotReset
  /-- PCIE_LINK_DOWN (R67) -/
  | pcieLinkDown (linkStatus : BitVec 16)
  /-- FUNCTION_LEVEL_RESET (R67) -/
  | functionLevelReset
  /-- HOST_RESET (R68) -/
  | hostReset
  /-- FULL_RESET (R70) -/
  | fullReset
  /-- CORE_OFF_HOLD_END (R70) -/
  | coreOffHoldEnd
  /-- HOST_WDOG_KICK (R73) -/
  | hostWdogKick
  /-- HOST_WDOG_EXPIRE (R73) -/
  | hostWdogExpire
  /-- FRD_PUSH_START (R55) -/
  | frdPushStart
  /-- FRD_PUSH_DATA (R55) -/
  | frdPushData (v : Word32)
  /-- FRD_PUSH_DONE (R55) -/
  | frdPushDone
  /-- FRD_PUSH_ABORT (R55) -/
  | frdPushAbort
  /-- FRD_HEADER_COMPLETE (R51) -/
  | frdHeaderComplete (hdr : List Byte)
  /-- QSPI_IMAGE_READ_DONE (R55) -/
  | qspiImageReadDone (rest : List Byte)
  /-- IMAGE_CHECK_DONE (R51) -/
  | imageCheckDone
  /-- IMAGE_DISTRIBUTED (R55) -/
  | imageDistributed (ue : Option Nat)
  /-- FRD_PUSH_TIMEOUT (R54) -/
  | frdPushTimeout
  /-- FRD_RETAINED_UE (R56) -/
  | frdRetainedUe (off : Nat)
  /-- SCHEDULER_SLOT (R80) -/
  | schedulerSlot (t : Nat)
  /-- TIME_TRIGGER_FIRE (R86) -/
  | timeTriggerFire
  /-- DEFERRED_DISPATCH (R88) -/
  | deferredDispatch
  /-- NONE (R83) -/
  | noneAction (f : Firing)
  /-- MOVE_START (R83) -/
  | moveStart (f : Firing)
  /-- MOVE_STOP (R83) -/
  | moveStop (f : Firing)
  /-- MOVE_RESUME (R83) -/
  | moveResume (f : Firing)
  /-- SPEED_SET (R274) -/
  | speedSet (f : Firing)
  /-- LOOP_SETPOINT (R312) -/
  | loopSetpoint (f : Firing)
  /-- LOOP_ENABLE (R312) -/
  | loopEnable (f : Firing)
  /-- LOOP_RELEASE (R312) -/
  | loopRelease (f : Firing)
  /-- IMAGE_START (R110) -/
  | imageStart (f : Firing)
  /-- DOUT (R83) -/
  | dout (f : Firing)
  /-- DOUT_PULSE_END (R83) -/
  | doutPulseEnd (k : Fin 32)
  /-- SHEET_MARK (R121) -/
  | sheetMark (f : Firing)
  /-- ARM (R83) -/
  | arm (f : Firing)
  /-- DISARM (R83) -/
  | disarm (f : Firing)
  /-- EDIT_WRITE (R92) -/
  | editWrite (i : Fin 4096)
  /-- EDIT_ARM (R92) -/
  | editArm (i : Fin 4096)
  /-- EDIT_DISARM (R92) -/
  | editDisarm (i : Fin 4096)
  /-- EDIT_READ (R92) -/
  | editRead (i : Fin 4096)
  /-- TIME_CAPTURE (R78) -/
  | timeCapture
  /-- TALLY_MARK (R101) -/
  | tallyMark (v : Word32)
  /-- ENCODER_EDGE_QUALIFY (R95) -/
  | encoderEdgeQualify (n : Fin 4) (a b : Bool)
  /-- ENCODER_EDGE_APPLY (R96) -/
  | encoderEdgeApply (n : Fin 4)
  /-- ENCODER_INDEX (R99) -/
  | encoderIndex (n : Fin 4) (rising : Bool)
  /-- ENCODER_REBASE (R100) -/
  | encoderRebase (n : Fin 4)
  /-- DESCRIPTOR_WRITE (R103) -/
  | descriptorWrite (off : Nat) (v : Word64) (wide : Bool)
  /-- OPEN (R104) -/
  | sheetOpen (d : Fin 32)
  /-- ADMIT (R106) -/
  | sheetAdmit (d : Fin 32)
  /-- CANCEL (R116) -/
  | sheetCancel (d : Fin 32)
  /-- SPOIL (R116) -/
  | sheetSpoil (d : Fin 32)
  /-- RELEASE (R116) -/
  | sheetRelease (d : Fin 32)
  /-- RUNOUT_EXPIRE (R115) -/
  | runoutExpire (d : Fin 32)
  /-- POST_RESET_REARM (R118) -/
  | postResetRearm
  /-- RX_SIGNAL_DETECT (R134) -/
  | rxSignalDetect
  /-- RX_LANES_LOCKED (R134) -/
  | rxLanesLocked (r : LaneReport)
  /-- RX_DESKEW_DONE (R133) -/
  | rxDeskewDone (r : DeskewReport)
  /-- RX_LOCK_LOST (R134) -/
  | rxLockLost (cause : LockLoss)
  /-- TS_RECEIVED (R130) -/
  | tsReceived (ts : List Byte)
  /-- EQUALISER_ADAPT_DONE (R125) -/
  | equaliserAdaptDone
  /-- EYE_REMEASURE (R124) -/
  | eyeRemeasure (lane : Fin 8) (eye : Nat) (centre : Int)
  /-- TX_RECEIVER_DETECT (R135) -/
  | txReceiverDetect (present : BitVec 8)
  /-- TS3_SENT (R135) -/
  | ts3Sent
  /-- ELASTIC_ERROR (R127) -/
  | elasticError (lane : Fin 8) (overflow : Bool)
  /-- RX_RETRAIN (R136) -/
  | rxRetrain (force : Bool)
  /-- TX_RETRAIN (R136) -/
  | txRetrain (force : Bool)
  /-- RX_SLEEP (R137) -/
  | rxSleep (force : Bool)
  /-- TX_SLEEP (R137) -/
  | txSleep (force : Bool)
  /-- RX_WAKE (R134) -/
  | rxWake
  /-- TX_WAKE (R135) -/
  | txWake
  /-- RX_TEST (R136) -/
  | rxTest (force : Bool)
  /-- TX_TEST (R136) -/
  | txTest (force : Bool)
  /-- TEST_EXIT (R134) -/
  | testExit
  /-- MANUAL_DONE (R139) -/
  | manualDone
  /-- CHECKER_CLEAR (R138) -/
  | checkerClear (lane : Fin 8)
  /-- INJECT_SINGLE (R140) -/
  | injectSingle (lane : Fin 8)
  /-- INJECT_PERIODIC (R140) -/
  | injectPeriodic (lane : Fin 8)
  /-- RING_FRAME_RECEIVED (R148, R151): the frame, and the control units inside it, each after so many units since the last. -/
  | ringFrameReceived (f : RingFrame) (ctls : List (Nat × List Byte))
  /-- QUERY (R150) -/
  | query (stream : Byte)
  /-- NOTE (R150) -/
  | note (stream : Byte) (v : BitVec 24)
  /-- CONTROL_UNIT_RECEIVED (R150) -/
  | controlUnitReceived (u : List Byte)
  /-- NOTE_TX (R159) -/
  | noteTx (v : BitVec 24)
  /-- ACK_INTERVAL (R149) -/
  | ackInterval
  /-- OWN_SYMBOL_INSERT (R151) -/
  | ownSymbolInsert
  /-- FORWARD_BUFFER_OVERFLOW (R152): the units of the frame in progress that have been forwarded, none outside a frame. -/
  | forwardBufferOverflow (part : List (List Byte))
  /-- QUEUE_ENABLE (R181) -/
  | queueEnable (q : Fin 16) (cfg : Word32)
  /-- QUEUE_DISABLE (R184) -/
  | queueDisable (q : Fin 16)
  /-- DMA_ENABLE (R174) -/
  | dmaEnable
  /-- DMA_DISABLE (R184) -/
  | dmaDisable
  /-- START (R181) -/
  | dmaStart (q : Fin 16) (addr : Word64)
  /-- APPEND (R180) -/
  | dmaAppend (q : Fin 16) (v : Word32)
  /-- ABORT (R182) -/
  | dmaAbort (q : Fin 16)
  /-- QUEUE_GRANT (R174) -/
  | queueGrant
  /-- DESCRIPTOR_FETCHED (R177) -/
  | descriptorFetched (q : Fin 16) (words : List Word64)
  /-- DMA_READ_COMPLETION (R177) -/
  | dmaReadCompletion (q : Fin 16) (c : ReadCompletion)
  /-- DESCRIPTOR_COMPLETE (R175) -/
  | descriptorComplete (q : Fin 16)
  /-- RING_FRAME_MOVED (R179) -/
  | ringFrameMoved (q : Fin 16)
  /-- GUARD_STALL_RELEASE (R163) -/
  | guardStallRelease (q : Fin 16)
  /-- GUARD_TIMEOUT (R163) -/
  | guardTimeout (q : Fin 16)
  /-- DMA_REGION_WRITE (R162) -/
  | dmaRegionWrite (off : Nat) (v : Word32)
  /-- READ_PORT_WORD (R168) -/
  | readPortWord (n : Fin 8) (word : Nat)
  /-- SCRUB_WORD (R169) -/
  | scrubWord
  /-- CE_WINDOW_RESTART (R170) -/
  | ceWindowRestart
  /-- INJECT_ARM (R172) -/
  | injectArm
  /-- SCREEN_SCAN (R202) -/
  | screenScan (n : Fin 8) (bad : List (Nat × Nat))
  /-- DIGEST_DONE (R206) -/
  | digestDone (n : Fin 8)
  /-- PROBE_START (R207) -/
  | probeStart (n : Fin 8) (v : Word64)
  /-- PROBE_DONE (R207) -/
  | probeDone (n : Fin 8) (mismatch : Bool)
  /-- TABLE_SCRUB (R200) -/
  | tableScrub (n : Fin 8) (word : Nat)
  /-- SCAN_START (R208) -/
  | scanStart (n : Fin 8)
  /-- BD_EDGE (R210) -/
  | bdEdge (n : Fin 8) (t64 : Nat) (rising : Bool)
  /-- BD_WINDOW_CLOSE (R211) -/
  | bdWindowClose (n : Fin 8)
  /-- SCT_ENABLE (R211) -/
  | sctEnable (n : Fin 8) (on : Bool)
  /-- GRID_WRITE (R213) -/
  | gridWrite (n : Fin 8) (period : Bool) (v : Word64)
  /-- PXS_FREQ_WRITE (R214) -/
  | pxsFreqWrite (n : Fin 8) (m : Word32)
  /-- MAP_COPY_DONE (R224) -/
  | mapCopyDone (n : Fin 8)
  /-- SLOT_FRAMES_SEND (R233) -/
  | slotFramesSend (n : Fin 8)
  /-- MARK_SEND (R234) -/
  | markSend (n : Fin 8)
  /-- PERMIT_UNIT_PERIODIC (R235) -/
  | permitUnitPeriodic (n : Fin 8)
  /-- HELLO (R239) -/
  | hello (n : Fin 8) (u : List Byte)
  /-- TS_ACK (R239) -/
  | tsAck (n : Fin 8) (u : List Byte)
  /-- PROBE_SEND (R237) -/
  | probeSend (n : Fin 8)
  /-- ECHO (R237) -/
  | echo (n : Fin 8) (u : List Byte) (rtt : Nat)
  /-- ECHO_TIMEOUT (R239) -/
  | echoTimeout (n : Fin 8)
  /-- READY (R239) -/
  | ready (n : Fin 8)
  /-- READY_TIMEOUT (R239) -/
  | readyTimeout (n : Fin 8)
  /-- STATUS (R236) -/
  | status (n : Fin 8) (u : List Byte)
  /-- ALERT (R246) -/
  | alert (n : Fin 8) (u : List Byte)
  /-- BACK_CHANNEL_TIMEOUT (R239) -/
  | backChannelTimeout (n : Fin 8)
  /-- RETRAIN (R259) -/
  | retrain (v : Word32)
  /-- CHANNEL_DISABLE (R256) -/
  | channelDisable (n : Fin 8) (force : Bool)
  /-- CHANNEL_ENABLE (R256) -/
  | channelEnable (n : Fin 8)
  /-- PERMIT_REQ_WRITE (R252) -/
  | permitReqWrite (n : Fin 8) (v : Bool)
  /-- INTERLOCK_OPEN (R253) -/
  | interlockOpen (n : Fin 8) (src : Nat)
  /-- STROBE_WATCHDOG_TRIP (R254) -/
  | strobeWatchdogTrip (n : Fin 8)
  /-- DMO_STUCK (R254) -/
  | dmoStuck (n : Fin 8) (high : Bool)
  /-- PWM_PERIOD_START (R260) -/
  | pwmPeriodStart (a : Fin 16)
  /-- CURRENT_SAMPLE (R261) -/
  | currentSample (a : Fin 16) (iu iv : Int)
  /-- ALIGN_DONE (R273) -/
  | alignDone (a : Fin 16)
  /-- RAMP_TIMEOUT (R273) -/
  | rampTimeout (a : Fin 16)
  /-- BRAKE_TIMEOUT (R271) -/
  | brakeTimeout (a : Fin 16)
  /-- CATCH_TIMEOUT (R272) -/
  | catchTimeout (a : Fin 16)
  /-- RESTART_DELAY (R267) -/
  | restartDelay (a : Fin 16)
  /-- SLEW_DONE (R278) -/
  | slewDone (a : Fin 16)
  /-- SETPOINT_WRITE (R274) -/
  | setpointWrite (a : Fin 16) (v : Word32)
  /-- BLD_ENABLE (R271) -/
  | bldEnable (a : Fin 16)
  /-- BLD_DISABLE (R271) -/
  | bldDisable (a : Fin 16)
  /-- BLD_CLEAR_FAULT (R271) -/
  | bldClearFault (a : Fin 16)
  /-- DCB_SAMPLE (R280) -/
  | dcbSample (m : Fin 2) (v : BitVec 12)
  /-- DCB_OVERVOLTAGE_TRIP (R281) -/
  | dcbOvervoltageTrip (m : Fin 2)
  /-- DCB_COMPARATOR_CLEAR (R281) -/
  | dcbComparatorClear (m : Fin 2)
  /-- PROFILE_PERIOD (R284) -/
  | profilePeriod (m : Fin 16)
  /-- CHOPPER_PERIOD_START (R297) -/
  | chopperPeriodStart (m : Fin 16)
  /-- CHOPPER_COMPARATOR_TRIP (R297) -/
  | chopperComparatorTrip (m : Fin 16) (coilB : Bool)
  /-- CHOPPER_OFF_END (R297) -/
  | chopperOffEnd (m : Fin 16) (coilB : Bool)
  /-- HOLD_DELAY_EXPIRE (R297) -/
  | holdDelayExpire (m : Fin 16)
  /-- INPUT_QUALIFY (R289) -/
  | inputQualify (i : InputId) (level : Bool)
  /-- LIMIT_APPLY (R290) -/
  | limitApply (m : Fin 16)
  /-- STP_START (R287) -/
  | stpStart (m : Fin 16) (r : Fin 8)
  /-- STP_STOP (R288) -/
  | stpStop (m : Fin 16)
  /-- STP_RESUME (R288) -/
  | stpResume (m : Fin 16)
  /-- HOME (R292) -/
  | home (m : Fin 16)
  /-- STP_ENABLE (R303) -/
  | stpEnable (m : Fin 16)
  /-- STP_DISABLE (R303) -/
  | stpDisable (m : Fin 16)
  /-- STP_CLEAR_FAULT (R303) -/
  | stpClearFault (m : Fin 16)
  /-- SAMPLE_BOUNDARY (R306) -/
  | sampleBoundary (k : Fin 64) (code : Int)
  /-- OUTPUT_HANDOVER (R306) -/
  | outputHandover (k : Fin 64)
  /-- OUTPUT_PERIOD_START (R315) -/
  | outputPeriodStart (o : Fin 16)
  /-- SAT_TIMEOUT (R318) -/
  | satTimeout (k : Fin 64)
  /-- LOOP_CMD_ENABLE (R312) -/
  | loopCmdEnable (k : Fin 64)
  /-- LOOP_CMD_RELEASE (R312) -/
  | loopCmdRelease (k : Fin 64)
  /-- LOOP_CMD_APPLY_RECORD (R312) -/
  | loopCmdApplyRecord (k : Fin 64) (r : Fin 8)
  /-- LOOP_SETPOINT_WRITE (R312) -/
  | loopSetpointWrite (k : Fin 64) (v : Word32)
  /-- LOOP_OUTPUT_CFG_WRITE (R315) -/
  | loopOutputCfgWrite (o : Fin 16) (v : Word32)
  /-- CONVERSION_BOUNDARY (R321) -/
  | conversionBoundary
  /-- CONVERSION_END (R321) -/
  | conversionEnd (code : BitVec 14) (onDie : Int)
  /-- CLEAR_MAX (R332) -/
  | clearMax
  /-- POWER_STEP_DONE (R333) -/
  | powerStepDone
  /-- POWER_STEP_TIMEOUT (R334) -/
  | powerStepTimeout
  /-- PG_LOST (R336) -/
  | pgLost (kind : Bool) (index : Fin 16)
  /-- STANDBY (R340) -/
  | standby
  /-- WAKE (R340) -/
  | wake
  /-- CHANNEL_POWER_OFF (R341) -/
  | channelPowerOff (mask : Byte) (force : Bool)
  /-- CHANNEL_POWER_ON (R341) -/
  | channelPowerOn (mask : Byte)
  /-- POWER_FAIL_WARNING (R342) -/
  | powerFailWarning
  /-- PFAIL_CLEAR (R342) -/
  | pfailClear
  /-- HOLDUP_EXPIRE (R343) -/
  | holdupExpire
  /-- PARK_RESTART (R344) -/
  | parkRestart
  /-- INPUT_COLLAPSE (R345) -/
  | inputCollapse
  /-- SUPPLY_RECOVERY (R345) -/
  | supplyRecovery
  /-- REFCLK_GOOD (R350) -/
  | refclkGood
  /-- REFCLK_LOST (R350) -/
  | refclkLost (missing : Bool) (count : Word32)
  /-- CLK_REF_CFG_WRITE (R351) -/
  | clkRefCfgWrite (v : Word32)
  /-- LOOP_LOCK (R353) -/
  | loopLock (i : Fin 24)
  /-- LOOP_UNLOCK (R356) -/
  | loopUnlock (i : Fin 24)
  /-- CLOCK_MONITOR_TRIP (R355) -/
  | clockMonitorTrip (i : Fin 24)
  /-- RELOCK_TIMEOUT (R358) -/
  | relockTimeout (i : Fin 24)
  /-- FAULT_RECORD (R365) -/
  | faultRecord
  /-- SHADOW_END (R371) -/
  | shadowEnd
  /-- FLT_ACK (R373) -/
  | fltAck (v : Word64)
  /-- QUIET_EXPIRE (R374) -/
  | quietExpire (i : Fin 42)
  /-- ALIVE_TOGGLE (R375) -/
  | aliveToggle
  /-- COLLECTOR_REFRESH (R375) -/
  | collectorRefresh
  /-- LATCH_CLEAR (R377) -/
  | latchClear
  /-- ESTOP_OPEN (R423) -/
  | estopOpen
  /-- ESTOP_CLOSE (R423) -/
  | estopClose
  /-- URG_DMA_HALT (R422) -/
  | urgDmaHalt
  /-- URG_PERMIT_OFF (R422) -/
  | urgPermitOff
  /-- URG_ENGINE_STOP (R422) -/
  | urgEngineStop
  /-- URG_DOORBELL_REFUSED (R422) -/
  | urgDoorbellRefused (v : Word32) (full : Bool)
  /-- QSPI_COMMAND (R427) -/
  | qspiCommand (v : Word32)
  /-- QSPI_COMMAND_DONE (R427) -/
  | qspiCommandDone (data : List Byte)
  /-- BEAT_SEND (R383) -/
  | beatSend
  /-- BEAT (R386) -/
  | beat (m : TwinFrame)
  /-- TWIN_HELLO (R401) -/
  | twinHello (m : TwinFrame)
  /-- INPUT_UNIT (R384) -/
  | inputUnit (u : TwinUnit)
  /-- HOST (R388) -/
  | hostMsg (m : TwinFrame)
  /-- AGREED_INPUT_APPLY (R388) -/
  | agreedInputApply
  /-- TURN (R398) -/
  | turn (m : Option TwinFrame)
  /-- TURN_REQUEST (R398) -/
  | turnRequest
  /-- SCHEDULED_TURN (R398) -/
  | scheduledTurn
  /-- EPOCH_REQUEST (R399) -/
  | epochRequest
  /-- EPOCH_START (R399) -/
  | epochStart
  /-- EPOCH_DATA (R399) -/
  | epochData (m : TwinFrame)
  /-- EPOCH_END (R399) -/
  | epochEnd (m : TwinFrame)
  /-- EPOCH_ACK (R400) -/
  | epochAck (m : TwinFrame)
  /-- ADOPT (R400) -/
  | adopt (m : Option TwinFrame)
  /-- EPOCH_DISCARD (R400) -/
  | epochDiscard
  /-- JOIN_POINT (R402) -/
  | joinPoint
  /-- SNAP (R402) -/
  | snap (m : TwinFrame)
  /-- SNAPSHOT_APPLY (R402) -/
  | snapshotApply
  /-- PARTNER_ABSENT (R385) -/
  | partnerAbsent
  /-- TWIN_LANE_DOWN (R385) -/
  | twinLaneDown (lane : Fin 2)
  /-- TWIN_SOLO_TIMEOUT (R64) -/
  | twinSoloTimeout
  /-- TOKEN_REFRESH (R394) -/
  | tokenRefresh
  /-- TOKEN_LATCH_TIMEOUT (R394) -/
  | tokenLatchTimeout
  /-- AUTH_PIN_CHANGE (R396) -/
  | authPinChange (a b : Bool)
  /-- DISAGREEMENT_RESOLVE (R397) -/
  | disagreementResolve
  /-- HOLD_LIMIT (R396) -/
  | holdLimit
  /-- LHB_READ (R434); `early`: the host ends the cycle before the device has answered (R435) -/
  | lhbRead (off : Nat) (same : BitVec 16) (early : Bool)
  /-- LHB_WRITE (R435) -/
  | lhbWrite (off : Nat) (v : BitVec 16)
  /-- LEGACY_RUN (R432) -/
  | legacyRun
  /-- LEGACY_RUN_CLEAR (R432) -/
  | legacyRunClear
  /-- SOFT_RESET (R438) -/
  | softReset
  /-- LEGACY_WDOG_KICK (R438) -/
  | legacyWdogKick
  /-- VIDEO_EN_WRITE (R440) -/
  | videoEnWrite (on : Bool)
  /-- LOAD (R444) -/
  | load (sheet : Byte)
  /-- GO (R444) -/
  | go (sheet : Byte)
  /-- LEGACY_CANCEL (R444) -/
  | legacyCancel (sheet : Byte)
  /-- TOP (R445) -/
  | top
  /-- LEGACY_FRAME (R447) -/
  | legacyFrame (f : List Byte)
  /-- LG_FAULT_READ (R442) -/
  | lgFaultRead (same : BitVec 16)
  /-- LG_TIMER_LO_READ (R443) -/
  | lgTimerLoRead
  /-- RELOAD (R462) -/
  | reload
  /-- CAL_WALK_DONE (R462) -/
  | calWalkDone (bankA bankB : List Byte)
  /-- CAL_RECORD_APPLY (R461) -/
  | calRecordApply
  /-- COMPLETION_TIMEOUT (R183) -/
  | completionTimeout (q : Fin 16)
  /-- TWIN_LANE_UP (R382) -/
  | twinLaneUp (lane : Fin 2)
  /-- PCIE_LINK_UP (R407) -/
  | pcieLinkUp (speed width : Nat)
  /-- JOIN (R402) -/
  | join (m : TwinFrame)
  /-- CONVERTER_SELF_TEST (R403) -/
  | converterSelfTest (off : BitVec 16)
  /-- HOME_LIMIT_RAW_EDGE (R293) -/
  | homeLimitRawEdge (m : Fin 16)
  deriving DecidableEq, Repr

end Sys2Proof
end

