-- ==== Sys2Proof/Decode.lean ====
section
/-! DEFINITION. The command that a word spells. spec/opcode_table.json gives no row any bits: a command reaches the block as a
cycle of a bus, an event on a pin or a moment of a unit, never as an encoded word, so no word spells one. -/

namespace Sys2Proof

/-- The command that the low `nbits` bits of a word spell: none, for no row of the table has bits. -/
def decodeTableWord (_nbits _w : Nat) : Option Instr := none

end Sys2Proof
end

