-- ==== Sys2Proof/Config.lean ====
section
/-! DEFINITION. What the spec leaves to one piece of silicon, and the free values: constants without a body, so that no
proof can see a value of them. -/

namespace Sys2Proof

/-- SYS_ID.revision: the spec's reset column says "silicon" (R66). -/
opaque Config.revision : BitVec 8
/-- FRD_FUSE.sig_required (R53): programmed by the board maker. -/
opaque Config.fuseSigRequired : BitVec 1
/-- FRD_FUSE.key_revoked (R53). -/
opaque Config.fuseKeyRevoked : BitVec 4
/-- FRD_FUSE.key_programmed (R53). -/
opaque Config.fuseKeyProgrammed : BitVec 4
/-- The SHA-256 key hash of each key slot (R53). -/
opaque Config.fuseKeyHash : Nat → BitVec 256
/-- What the observer of a brushless axis holds (R266): the current estimate and the back-EMF estimate in the stationary
frame, in 2^-16 of Q1.15, and the outputs of its tracker: the angle, the speed in mechanical 1/16 rpm and the back-EMF magnitude,
Q1.15; `trk` and `ph` are the tracker's electrical speed and angle, in 2^-48 turn per period and 2^-48 turn. -/
structure ObsSt where
  iA : Int := 0
  iB : Int := 0
  eA : Int := 0
  eB : Int := 0
  theta : Nat := 0
  omega : Int := 0
  emag : Nat := 0
  trk : Int := 0
  ph : Nat := 0
  deriving DecidableEq, Repr, Inhabited
/-- The current model with ls = 0, where R266's T / ls has no value. -/
opaque Config.modelOpen (i e s v : Int) : Int
/-- Counts per mechanical revolution of the encoder of a brushless axis: no field of the image gives it (R42, R276). -/
opaque Config.encPerRev (axis : Nat) : Nat
/-- The angle of (0, 0), which has none: R300 states no load angle for sums that are both 0. -/
opaque Config.atan2Zero : Int
/-- The ROM image of Personality C (R430): pole pairs of polygon s, PWM frequency, pg_timeout_ms and settle_us of its DOMAIN
entries, standby set-point of its loops. R430 gives none of them. -/
opaque Config.romPolePairs : Nat → Nat
opaque Config.romPwmKhz : Nat
opaque Config.romTimeoutMs : Nat
opaque Config.romSettleUs : Nat
opaque Config.romStandby : Nat
/-- The quiet time of sources 19, 21 and 26 in the ROM image, which R430 does not give. -/
opaque Config.romQuietMs : Nat → Nat
/-- Which of its two neighbouring integers an inexact quotient or root takes where the spec states no rounding: by place and
operands. -/
opaque Config.roundsUp (place : Nat) (num : Int) (den : Nat) : Bool
/-- The bits in error of the words received since the last look, of a lane in fixed-word mode (R138), by a counter of State, CHK_WORD
and the slip: the bits on the wire are no operand of the model, so which of them differ from the word is free. -/
opaque Config.wordErrors (free word slip : Nat) : BitVec 64
/-- A value the spec leaves open: applied to a counter of State, nothing constrains it. -/
opaque Config.freeValue : Nat → BitVec 64

end Sys2Proof
end

