-- ==== Sys2Proof/Machine/Reg.lean ====
section
/-! DEFINITION. Sparse stores, registers and fields: how the register file of State is read and written. -/

namespace Sys2Proof.Machine

/-- A sparse store: (key, value) pairs with strictly rising keys; an unlisted key holds the default. -/
abbrev Store (β : Type) := List (Nat × β)

/-- The value at a key, `dflt` where the key is not listed. -/
def Store.get {β : Type} (dflt : β) : Store β → Nat → β
  | [], _ => dflt
  | (a, b) :: m, k => if k = a then b else Store.get dflt m k

/-- Put a value at a key that is to be listed. -/
def Store.ins {β : Type} : Store β → Nat → β → Store β
  | [], k, v => [(k, v)]
  | (a, b) :: m, k, v =>
    if k < a then (k, v) :: (a, b) :: m
    else if k = a then (k, v) :: m
    else (a, b) :: Store.ins m k v

/-- Write one key; writing the default removes the entry, so equal stores are equal lists. -/
def Store.set {β : Type} [DecidableEq β] (dflt : β) (m : Store β) (k : Nat) (v : β) : Store β :=
  if v = dflt then m.filter fun p => !(p.1 == k) else Store.ins m k v

/-- Drop every key in [lo, hi): those keys hold their default again. -/
def Store.dropRange {β : Type} (m : Store β) (lo hi : Nat) : Store β :=
  m.filter fun p => p.1 < lo || hi ≤ p.1

/-- The canonical form: keys strictly rising, no entry equal to the default. -/
def Store.wf {β : Type} [DecidableEq β] (dflt : β) : Store β → Bool
  | [] => true
  | [(_, b)] => b ≠ dflt
  | (a, b) :: (a', b') :: m => decide (b ≠ dflt) && decide (a < a') && Store.wf dflt ((a', b') :: m)

/-- A register: its place (BAR0 byte offset; the legacy bus at 0x0100_0000 and configuration space at 0x0200_0000
above it), its width in bits and its reset value. -/
structure Reg where
  off : Nat
  w   : Nat
  rst : Nat
  deriving DecidableEq, Repr

/-- A field of a register: bits hi down to lo. -/
structure Fld where
  reg : Reg
  hi  : Nat
  lo  : Nat
  deriving DecidableEq, Repr

/-- Access codes (R8). -/
inductive Acc where
  | rw | ro | wo | w1c | w1s | rc | rwg
  deriving DecidableEq, Repr

/-- One field as a host access sees it. -/
structure FSpec where
  hi  : Nat
  lo  : Nat
  acc : Acc
  deriving DecidableEq, Repr

/-- A class of registers of one layout: base offset, (stride, count) per index, width, reset value, fields. -/
structure RegClass where
  base : Nat
  dims : List (Nat × Nat)
  w    : Nat
  rst  : Nat
  flds : List FSpec
  deriving DecidableEq, Repr

/-- The bits hi:lo of a value. -/
def bits (v hi lo : Nat) : Nat := (v >>> lo) % 2 ^ (hi + 1 - lo)

/-- Replace the bits hi:lo of a value by the low bits of `x`. -/
def putBits (v hi lo x : Nat) : Nat :=
  (v >>> (hi + 1)) <<< (hi + 1) + (x % 2 ^ (hi + 1 - lo)) <<< lo + v % 2 ^ lo

/-- One bit of a value. -/
def bit (v k : Nat) : Bool := (v >>> k) % 2 = 1

/-- A Bool as a bit. -/
def b2n (b : Bool) : Nat := if b then 1 else 0

/-- Two's complement reading of the low w bits. -/
def sext (w v : Nat) : Int := let x := v % 2 ^ w; if x < 2 ^ (w - 1) then (x : Int) else (x : Int) - (2 ^ w : Nat)

/-- Two's complement encoding in w bits. -/
def enc (w : Nat) (i : Int) : Nat := (i % ((2 ^ w : Nat) : Int)).toNat

/-- Clamp an integer to [lo, hi]. -/
def clampI (lo hi x : Int) : Int := if x < lo then lo else if hi < x then hi else x

/-- Saturating increment of an n-bit counter. -/
def satAdd (w v n : Nat) : Nat := min (v + n) (2 ^ w - 1)

end Sys2Proof.Machine
end

