-- ==== Sys2Proof/Machine/Crc.lean ====
section
/-! DEFINITION. The checks on byte strings: CRC-32C (R52), CRC-16 (R129), CRC-8 (R150), little-endian fields (R37). -/

namespace Sys2Proof.Machine

/-- One bit step of a reflected CRC of 32 bits. -/
def crc32cBit (c : Nat) : Nat := if c % 2 = 1 then (c / 2) ^^^ 0x82F63B78 else c / 2

/-- One byte of CRC-32C: the reflected polynomial of 0x1EDC_6F41. -/
def crc32cByte (c b : Nat) : Nat :=
  crc32cBit (crc32cBit (crc32cBit (crc32cBit (crc32cBit (crc32cBit (crc32cBit (crc32cBit (c ^^^ b))))))))

/-- CRC-32C of a byte string (R52). -/
def crc32c (bs : List Nat) : Nat := (bs.foldl crc32cByte 0xFFFFFFFF) ^^^ 0xFFFFFFFF

/-- One bit step of an unreflected CRC of w bits with polynomial `poly`. -/
def crcBit (w poly c : Nat) : Nat :=
  if bit c (w - 1) then ((c * 2) % 2 ^ w) ^^^ poly else (c * 2) % 2 ^ w

/-- Eight bit steps. -/
def crcByte (w poly c b : Nat) : Nat :=
  let c := c ^^^ (b <<< (w - 8))
  crcBit w poly (crcBit w poly (crcBit w poly (crcBit w poly
    (crcBit w poly (crcBit w poly (crcBit w poly (crcBit w poly c)))))))

/-- CRC-16: polynomial 0x1021, initial value 0xFFFF (R129). -/
def crc16 (bs : List Nat) : Nat := bs.foldl (crcByte 16 0x1021) 0xFFFF

/-- CRC-8: polynomial 0x07, initial value 0 (R150). -/
def crc8 (bs : List Nat) : Nat := bs.foldl (crcByte 8 0x07) 0

/-- The n bytes of a value, low byte first (R37). -/
def leBytes : Nat → Nat → List Nat
  | 0, _ => []
  | n + 1, v => v % 256 :: leBytes n (v / 256)

/-- The value of a byte string, low byte first. -/
def leVal : List Nat → Nat
  | [] => 0
  | b :: bs => b + 256 * leVal bs

/-- The value of a byte string, high byte first. -/
def beVal (bs : List Nat) : Nat := bs.foldl (fun a b => a * 256 + b) 0

/-- The CRC-32C of a frame over its units from SOF on, the type byte left out (R143). -/
def frameCrc (us : List (List Nat)) : Nat := crc32c ((us.headD []).drop 1 ++ (us.drop 1).flatten)

/-- A frame of the twin link (R143, R383): SOF with kind and number, the data units, EOF with the CRC-32C. -/
def twinFrame (kind mseq : Nat) (units : List Nat) : List (List Nat) :=
  let us := ([0xA3, kind] ++ leBytes 2 mseq ++ [0, 0, 0, 0]) :: units.map (leBytes 8)
  us ++ [[0xB4] ++ leBytes 4 (frameCrc us) ++ [0, 0, 0]]

end Sys2Proof.Machine
end

