-- ==== Sys2Proof/Machine/RegsData.lean ====
section
/-! DEFINITION. Registers of the blocks RNG, DMA, MEM, BLK, CHn: one `Reg` per register of the spec's offset tables, one `Fld` per field of its
field tables (same names), and per block the list of register classes that a host access is looked up in. -/

namespace Sys2Proof.Machine

/-- Reset contents of CHn_FGT_DMO_WIDTH0..3 (R250, FGT field table). -/
def dmoWidthReset (c : Nat) : Nat :=
  if c = 0 then 0x0D090400 else if c = 1 then 0x1E1A1511 else if c = 2 then 0x2F2B2622 else 0x403C3733

/-! Registers placed by R141 of 06_raster_lanes.md. -/
def R.RNG_LANE_CFG : Reg := ⟨0x60000, 32, 0x28000001⟩
def F.RNG_LANE_CFG.adapt_ms : Fld := ⟨R.RNG_LANE_CFG, 31, 24⟩
def F.RNG_LANE_CFG.max_rate : Fld := ⟨R.RNG_LANE_CFG, 19, 16⟩
def F.RNG_LANE_CFG.manual_align : Fld := ⟨R.RNG_LANE_CFG, 1, 1⟩
def F.RNG_LANE_CFG.drift_track : Fld := ⟨R.RNG_LANE_CFG, 0, 0⟩

def R.RNG_LANE_CMD : Reg := ⟨0x60004, 32, 0⟩
def F.RNG_LANE_CMD.force : Fld := ⟨R.RNG_LANE_CMD, 15, 15⟩
def F.RNG_LANE_CMD.manual_done : Fld := ⟨R.RNG_LANE_CMD, 9, 9⟩
def F.RNG_LANE_CMD.test_exit : Fld := ⟨R.RNG_LANE_CMD, 8, 8⟩
def F.RNG_LANE_CMD.tx_test : Fld := ⟨R.RNG_LANE_CMD, 7, 7⟩
def F.RNG_LANE_CMD.rx_test : Fld := ⟨R.RNG_LANE_CMD, 6, 6⟩
def F.RNG_LANE_CMD.tx_wake : Fld := ⟨R.RNG_LANE_CMD, 5, 5⟩
def F.RNG_LANE_CMD.tx_sleep : Fld := ⟨R.RNG_LANE_CMD, 4, 4⟩
def F.RNG_LANE_CMD.rx_wake : Fld := ⟨R.RNG_LANE_CMD, 3, 3⟩
def F.RNG_LANE_CMD.rx_sleep : Fld := ⟨R.RNG_LANE_CMD, 2, 2⟩
def F.RNG_LANE_CMD.tx_retrain : Fld := ⟨R.RNG_LANE_CMD, 1, 1⟩
def F.RNG_LANE_CMD.rx_retrain : Fld := ⟨R.RNG_LANE_CMD, 0, 0⟩

def R.RNG_LANE_STATUS : Reg := ⟨0x60008, 32, 0⟩
def F.RNG_LANE_STATUS.rx_state : Fld := ⟨R.RNG_LANE_STATUS, 31, 28⟩
def F.RNG_LANE_STATUS.tx_state : Fld := ⟨R.RNG_LANE_STATUS, 27, 24⟩
def F.RNG_LANE_STATUS.rate : Fld := ⟨R.RNG_LANE_STATUS, 23, 20⟩
def F.RNG_LANE_STATUS.committed : Fld := ⟨R.RNG_LANE_STATUS, 19, 19⟩
def F.RNG_LANE_STATUS.reversed : Fld := ⟨R.RNG_LANE_STATUS, 18, 18⟩
def F.RNG_LANE_STATUS.byp_driven : Fld := ⟨R.RNG_LANE_STATUS, 17, 17⟩
def F.RNG_LANE_STATUS.polarity : Fld := ⟨R.RNG_LANE_STATUS, 15, 8⟩
def F.RNG_LANE_STATUS.detail : Fld := ⟨R.RNG_LANE_STATUS, 7, 0⟩

def R.RNG_LANE_MAP : Reg := ⟨0x6000c, 32, 0⟩
def F.RNG_LANE_MAP.force : Fld := ⟨R.RNG_LANE_MAP, 31, 31⟩
def F.RNG_LANE_MAP.reversed : Fld := ⟨R.RNG_LANE_MAP, 16, 16⟩
def F.RNG_LANE_MAP.polarity : Fld := ⟨R.RNG_LANE_MAP, 7, 0⟩

def R.RNG_POSITION : Reg := ⟨0x60010, 32, 0xff⟩
def F.RNG_POSITION.members : Fld := ⟨R.RNG_POSITION, 15, 8⟩
def F.RNG_POSITION.hop : Fld := ⟨R.RNG_POSITION, 7, 0⟩

def R.RNG_LANE_IRQ_STATUS : Reg := ⟨0x60014, 32, 0⟩
def F.RNG_LANE_IRQ_STATUS.elastic_error : Fld := ⟨R.RNG_LANE_IRQ_STATUS, 5, 5⟩
def F.RNG_LANE_IRQ_STATUS.checker_error : Fld := ⟨R.RNG_LANE_IRQ_STATUS, 4, 4⟩
def F.RNG_LANE_IRQ_STATUS.train_failed : Fld := ⟨R.RNG_LANE_IRQ_STATUS, 3, 3⟩
def F.RNG_LANE_IRQ_STATUS.rx_lost : Fld := ⟨R.RNG_LANE_IRQ_STATUS, 2, 2⟩
def F.RNG_LANE_IRQ_STATUS.tx_forward : Fld := ⟨R.RNG_LANE_IRQ_STATUS, 1, 1⟩
def F.RNG_LANE_IRQ_STATUS.rx_aligned : Fld := ⟨R.RNG_LANE_IRQ_STATUS, 0, 0⟩

def R.RNG_LANE_IRQ_EN : Reg := ⟨0x60018, 32, 0⟩
def F.RNG_LANE_IRQ_EN.enable : Fld := ⟨R.RNG_LANE_IRQ_EN, 31, 0⟩

def R.RNG_LANE_COUNTS : Reg := ⟨0x6001c, 32, 0⟩
def F.RNG_LANE_COUNTS.rx_losses : Fld := ⟨R.RNG_LANE_COUNTS, 31, 16⟩
def F.RNG_LANE_COUNTS.elastic : Fld := ⟨R.RNG_LANE_COUNTS, 15, 0⟩

def R.RNG_LANE_REJECT : Reg := ⟨0x60020, 32, 0⟩
def F.RNG_LANE_REJECT.count : Fld := ⟨R.RNG_LANE_REJECT, 15, 0⟩

def R.RNG_RXl_STATUS (l : Nat) : Reg := ⟨0x60100 + l * 0x40, 32, 0⟩
def F.RNG_RXl_STATUS.locked (l : Nat) : Fld := ⟨(R.RNG_RXl_STATUS l), 31, 31⟩
def F.RNG_RXl_STATUS.inverted (l : Nat) : Fld := ⟨(R.RNG_RXl_STATUS l), 30, 30⟩
def F.RNG_RXl_STATUS.logical (l : Nat) : Fld := ⟨(R.RNG_RXl_STATUS l), 29, 27⟩
def F.RNG_RXl_STATUS.pattern_locked (l : Nat) : Fld := ⟨(R.RNG_RXl_STATUS l), 26, 26⟩
def F.RNG_RXl_STATUS.eye (l : Nat) : Fld := ⟨(R.RNG_RXl_STATUS l), 23, 16⟩
def F.RNG_RXl_STATUS.skew (l : Nat) : Fld := ⟨(R.RNG_RXl_STATUS l), 15, 8⟩
def F.RNG_RXl_STATUS.tap (l : Nat) : Fld := ⟨(R.RNG_RXl_STATUS l), 7, 0⟩

def R.RNG_RXl_SLIP (l : Nat) : Reg := ⟨0x60104 + l * 0x40, 32, 0⟩
def F.RNG_RXl_SLIP.slip (l : Nat) : Fld := ⟨(R.RNG_RXl_SLIP l), 3, 0⟩

def R.RNG_RXl_CHK_CTRL (l : Nat) : Reg := ⟨0x60108 + l * 0x40, 32, 0⟩
def F.RNG_RXl_CHK_CTRL.clear (l : Nat) : Fld := ⟨(R.RNG_RXl_CHK_CTRL l), 7, 7⟩
def F.RNG_RXl_CHK_CTRL.mode (l : Nat) : Fld := ⟨(R.RNG_RXl_CHK_CTRL l), 3, 0⟩

def R.RNG_RXl_CHK_WORD (l : Nat) : Reg := ⟨0x6010c + l * 0x40, 32, 0⟩
def F.RNG_RXl_CHK_WORD.word (l : Nat) : Fld := ⟨(R.RNG_RXl_CHK_WORD l), 19, 0⟩

def R.RNG_RXl_BITS (l : Nat) : Reg := ⟨0x60118 + l * 0x40, 64, 0⟩
def F.RNG_RXl_BITS.bits (l : Nat) : Fld := ⟨(R.RNG_RXl_BITS l), 63, 0⟩

def R.RNG_RXl_ERRS (l : Nat) : Reg := ⟨0x60120 + l * 0x40, 32, 0⟩
def F.RNG_RXl_ERRS.errors (l : Nat) : Fld := ⟨(R.RNG_RXl_ERRS l), 31, 0⟩

def R.RNG_TXl_GEN_CTRL (l : Nat) : Reg := ⟨0x60400 + l * 0x40, 32, 0⟩
def F.RNG_TXl_GEN_CTRL.mode (l : Nat) : Fld := ⟨(R.RNG_TXl_GEN_CTRL l), 3, 0⟩

def R.RNG_TXl_GEN_WORD (l : Nat) : Reg := ⟨0x60404 + l * 0x40, 32, 0⟩
def F.RNG_TXl_GEN_WORD.word (l : Nat) : Fld := ⟨(R.RNG_TXl_GEN_WORD l), 19, 0⟩

def R.RNG_TXl_INJECT (l : Nat) : Reg := ⟨0x60408 + l * 0x40, 32, 0x100000⟩
def F.RNG_TXl_INJECT.single (l : Nat) : Fld := ⟨(R.RNG_TXl_INJECT l), 31, 31⟩
def F.RNG_TXl_INJECT.periodic (l : Nat) : Fld := ⟨(R.RNG_TXl_INJECT l), 30, 30⟩
def F.RNG_TXl_INJECT.target (l : Nat) : Fld := ⟨(R.RNG_TXl_INJECT l), 29, 28⟩
def F.RNG_TXl_INJECT.interval (l : Nat) : Fld := ⟨(R.RNG_TXl_INJECT l), 20, 16⟩

def R.RNG_TXl_INJECT_COUNT (l : Nat) : Reg := ⟨0x6040c + l * 0x40, 32, 0⟩
def F.RNG_TXl_INJECT_COUNT.count (l : Nat) : Fld := ⟨(R.RNG_TXl_INJECT_COUNT l), 31, 0⟩

/-! Registers placed by R159 of 07_raster_ring.md. -/
def R.RNG_PROTO_CFG : Reg := ⟨0x61000, 32, 0xa100801⟩
def F.RNG_PROTO_CFG.ack_interval_us : Fld := ⟨R.RNG_PROTO_CFG, 31, 24⟩
def F.RNG_PROTO_CFG.credit_step : Fld := ⟨R.RNG_PROTO_CFG, 23, 16⟩
def F.RNG_PROTO_CFG.own_share : Fld := ⟨R.RNG_PROTO_CFG, 11, 8⟩
def F.RNG_PROTO_CFG.check_required : Fld := ⟨R.RNG_PROTO_CFG, 1, 1⟩
def F.RNG_PROTO_CFG.stomp_enable : Fld := ⟨R.RNG_PROTO_CFG, 0, 0⟩

def R.RNG_PROTO_STATUS : Reg := ⟨0x61004, 32, 0x20000000⟩
def F.RNG_PROTO_STATUS.own_synced : Fld := ⟨R.RNG_PROTO_STATUS, 31, 31⟩
def F.RNG_PROTO_STATUS.grp_synced : Fld := ⟨R.RNG_PROTO_STATUS, 30, 30⟩
def F.RNG_PROTO_STATUS.fresh_pending : Fld := ⟨R.RNG_PROTO_STATUS, 29, 29⟩
def F.RNG_PROTO_STATUS.sym_queue : Fld := ⟨R.RNG_PROTO_STATUS, 4, 0⟩

def R.RNG_RX_EXPECT_OWN : Reg := ⟨0x61008, 32, 0⟩
def F.RNG_RX_EXPECT_OWN.expect : Fld := ⟨R.RNG_RX_EXPECT_OWN, 23, 0⟩

def R.RNG_RX_EXPECT_GRP : Reg := ⟨0x6100c, 32, 0⟩
def F.RNG_RX_EXPECT_GRP.expect : Fld := ⟨R.RNG_RX_EXPECT_GRP, 23, 0⟩

def R.RNG_CREDIT_OWN : Reg := ⟨0x61010, 32, 0⟩
def F.RNG_CREDIT_OWN.limit : Fld := ⟨R.RNG_CREDIT_OWN, 23, 0⟩

def R.RNG_CREDIT_GRP : Reg := ⟨0x61014, 32, 0⟩
def F.RNG_CREDIT_GRP.limit : Fld := ⟨R.RNG_CREDIT_GRP, 23, 0⟩

def R.RNG_INGRESS_FILL : Reg := ⟨0x61018, 32, 0⟩
def F.RNG_INGRESS_FILL.grp : Fld := ⟨R.RNG_INGRESS_FILL, 28, 16⟩
def F.RNG_INGRESS_FILL.own : Fld := ⟨R.RNG_INGRESS_FILL, 12, 0⟩

def R.RNG_PROTO_IRQ_STATUS : Reg := ⟨0x61020, 32, 0⟩
def F.RNG_PROTO_IRQ_STATUS.fifo_overflow : Fld := ⟨R.RNG_PROTO_IRQ_STATUS, 7, 7⟩
def F.RNG_PROTO_IRQ_STATUS.unsynced_frame : Fld := ⟨R.RNG_PROTO_IRQ_STATUS, 6, 6⟩
def F.RNG_PROTO_IRQ_STATUS.ctrl_crc : Fld := ⟨R.RNG_PROTO_IRQ_STATUS, 5, 5⟩
def F.RNG_PROTO_IRQ_STATUS.uncorrectable : Fld := ⟨R.RNG_PROTO_IRQ_STATUS, 4, 4⟩
def F.RNG_PROTO_IRQ_STATUS.credit_violation : Fld := ⟨R.RNG_PROTO_IRQ_STATUS, 3, 3⟩
def F.RNG_PROTO_IRQ_STATUS.gap : Fld := ⟨R.RNG_PROTO_IRQ_STATUS, 2, 2⟩
def F.RNG_PROTO_IRQ_STATUS.crc_error : Fld := ⟨R.RNG_PROTO_IRQ_STATUS, 1, 1⟩
def F.RNG_PROTO_IRQ_STATUS.note_rx : Fld := ⟨R.RNG_PROTO_IRQ_STATUS, 0, 0⟩

def R.RNG_PROTO_IRQ_EN : Reg := ⟨0x61024, 32, 0⟩
def F.RNG_PROTO_IRQ_EN.enable : Fld := ⟨R.RNG_PROTO_IRQ_EN, 31, 0⟩

def R.RNG_NOTE_RX : Reg := ⟨0x61028, 32, 0⟩
def F.RNG_NOTE_RX.value : Fld := ⟨R.RNG_NOTE_RX, 23, 0⟩

def R.RNG_NOTE_TX : Reg := ⟨0x6102c, 32, 0⟩
def F.RNG_NOTE_TX.value : Fld := ⟨R.RNG_NOTE_TX, 23, 0⟩

def R.RNG_CNT_c (c : Nat) : Reg := ⟨0x61040 + c * 4, 32, 0⟩
def F.RNG_CNT_c.count (c : Nat) : Fld := ⟨(R.RNG_CNT_c c), 31, 0⟩

/-! Registers placed by R185 of 08_dma_and_memory.md. -/
def R.DMA_CTRL : Reg := ⟨0x40000, 32, 0⟩
def F.DMA_CTRL.enable : Fld := ⟨R.DMA_CTRL, 0, 0⟩

def R.DMA_CFG : Reg := ⟨0x40004, 32, 0x3e80000⟩
def F.DMA_CFG.guard_timeout_ms : Fld := ⟨R.DMA_CFG, 31, 16⟩

def R.DMA_STATUS : Reg := ⟨0x40008, 32, 0x1f0000⟩
def F.DMA_STATUS.busy : Fld := ⟨R.DMA_STATUS, 31, 31⟩
def F.DMA_STATUS.active : Fld := ⟨R.DMA_STATUS, 20, 16⟩
def F.DMA_STATUS.waiting : Fld := ⟨R.DMA_STATUS, 15, 0⟩

def R.DMA_QDONE : Reg := ⟨0x40010, 32, 0⟩
def F.DMA_QDONE.done : Fld := ⟨R.DMA_QDONE, 15, 0⟩

def R.DMA_QERR : Reg := ⟨0x40014, 32, 0⟩
def F.DMA_QERR.error : Fld := ⟨R.DMA_QERR, 15, 0⟩

def R.DMA_IRQ_EN : Reg := ⟨0x40018, 32, 0⟩
def F.DMA_IRQ_EN.err_en : Fld := ⟨R.DMA_IRQ_EN, 31, 16⟩
def F.DMA_IRQ_EN.done_en : Fld := ⟨R.DMA_IRQ_EN, 15, 0⟩

def R.DMA_BYTES : Reg := ⟨0x40020, 64, 0⟩
def F.DMA_BYTES.bytes : Fld := ⟨R.DMA_BYTES, 63, 0⟩

def R.DMA_REJECT : Reg := ⟨0x40028, 32, 0⟩
def F.DMA_REJECT.count : Fld := ⟨R.DMA_REJECT, 15, 0⟩

def R.DMA_REGr_BASE (r : Nat) : Reg := ⟨0x40080 + r * 8, 32, 0⟩
def F.DMA_REGr_BASE.base (r : Nat) : Fld := ⟨(R.DMA_REGr_BASE r), 31, 12⟩

def R.DMA_REGr_SIZE (r : Nat) : Reg := ⟨0x40084 + r * 8, 32, 0⟩
def F.DMA_REGr_SIZE.size (r : Nat) : Fld := ⟨(R.DMA_REGr_SIZE r), 31, 12⟩

def R.DMA_Qq_CFG (q : Nat) : Reg := ⟨0x40100 + q * 0x40, 32, 0⟩
def F.DMA_Qq_CFG.mode (q : Nat) : Fld := ⟨(R.DMA_Qq_CFG q), 7, 6⟩
def F.DMA_Qq_CFG.enable (q : Nat) : Fld := ⟨(R.DMA_Qq_CFG q), 0, 0⟩

def R.DMA_Qq_START (q : Nat) : Reg := ⟨0x40108 + q * 0x40, 64, 0⟩
def F.DMA_Qq_START.address (q : Nat) : Fld := ⟨(R.DMA_Qq_START q), 63, 6⟩

def R.DMA_Qq_APPEND (q : Nat) : Reg := ⟨0x40110 + q * 0x40, 32, 0⟩
def F.DMA_Qq_APPEND.append (q : Nat) : Fld := ⟨(R.DMA_Qq_APPEND q), 0, 0⟩

def R.DMA_Qq_CMD (q : Nat) : Reg := ⟨0x40114 + q * 0x40, 32, 0⟩
def F.DMA_Qq_CMD.abort (q : Nat) : Fld := ⟨(R.DMA_Qq_CMD q), 0, 0⟩

def R.DMA_Qq_STATUS (q : Nat) : Reg := ⟨0x40118 + q * 0x40, 32, 0⟩
def F.DMA_Qq_STATUS.result (q : Nat) : Fld := ⟨(R.DMA_Qq_STATUS q), 31, 24⟩
def F.DMA_Qq_STATUS.append_count (q : Nat) : Fld := ⟨(R.DMA_Qq_STATUS q), 15, 8⟩
def F.DMA_Qq_STATUS.state (q : Nat) : Fld := ⟨(R.DMA_Qq_STATUS q), 2, 0⟩

def R.DMA_Qq_CURRENT (q : Nat) : Reg := ⟨0x40120 + q * 0x40, 64, 0⟩
def F.DMA_Qq_CURRENT.address (q : Nat) : Fld := ⟨(R.DMA_Qq_CURRENT q), 63, 0⟩

def R.DMA_Qq_DONE_COUNT (q : Nat) : Reg := ⟨0x40128 + q * 0x40, 32, 0⟩
def F.DMA_Qq_DONE_COUNT.count (q : Nat) : Fld := ⟨(R.DMA_Qq_DONE_COUNT q), 31, 0⟩

/-! Registers placed by R186 of 08_dma_and_memory.md. -/
def R.MEM_STATUS : Reg := ⟨0x50000, 32, 0⟩
def F.MEM_STATUS.scrubbed : Fld := ⟨R.MEM_STATUS, 2, 2⟩
def F.MEM_STATUS.initialised : Fld := ⟨R.MEM_STATUS, 1, 1⟩
def F.MEM_STATUS.trained : Fld := ⟨R.MEM_STATUS, 0, 0⟩

def R.MEM_SCRUB_CFG : Reg := ⟨0x50004, 32, 0xe100001⟩
def F.MEM_SCRUB_CFG.period_s : Fld := ⟨R.MEM_SCRUB_CFG, 31, 16⟩
def F.MEM_SCRUB_CFG.enable : Fld := ⟨R.MEM_SCRUB_CFG, 0, 0⟩

def R.MEM_SCRUB_STATUS : Reg := ⟨0x50008, 32, 0⟩
def F.MEM_SCRUB_STATUS.passes : Fld := ⟨R.MEM_SCRUB_STATUS, 31, 16⟩
def F.MEM_SCRUB_STATUS.progress : Fld := ⟨R.MEM_SCRUB_STATUS, 15, 0⟩

def R.MEM_CE_CFG : Reg := ⟨0x5000c, 32, 0x3c0010⟩
def F.MEM_CE_CFG.window_s : Fld := ⟨R.MEM_CE_CFG, 31, 16⟩
def F.MEM_CE_CFG.threshold : Fld := ⟨R.MEM_CE_CFG, 15, 0⟩

def R.MEM_CE_WINDOW : Reg := ⟨0x50010, 32, 0⟩
def F.MEM_CE_WINDOW.count : Fld := ⟨R.MEM_CE_WINDOW, 31, 0⟩

def R.MEM_CE_TOTAL : Reg := ⟨0x50014, 32, 0⟩
def F.MEM_CE_TOTAL.count : Fld := ⟨R.MEM_CE_TOTAL, 31, 0⟩

def R.MEM_UE_TOTAL : Reg := ⟨0x50018, 32, 0⟩
def F.MEM_UE_TOTAL.count : Fld := ⟨R.MEM_UE_TOTAL, 31, 0⟩

def R.MEM_ERR_LAST_CE : Reg := ⟨0x50020, 64, 0⟩
def F.MEM_ERR_LAST_CE.syndrome : Fld := ⟨R.MEM_ERR_LAST_CE, 47, 40⟩
def F.MEM_ERR_LAST_CE.reader : Fld := ⟨R.MEM_ERR_LAST_CE, 39, 36⟩
def F.MEM_ERR_LAST_CE.channel : Fld := ⟨R.MEM_ERR_LAST_CE, 35, 32⟩
def F.MEM_ERR_LAST_CE.word : Fld := ⟨R.MEM_ERR_LAST_CE, 26, 0⟩

def R.MEM_ERR_LAST_UE : Reg := ⟨0x50028, 64, 0⟩
def F.MEM_ERR_LAST_UE.syndrome : Fld := ⟨R.MEM_ERR_LAST_UE, 47, 40⟩
def F.MEM_ERR_LAST_UE.reader : Fld := ⟨R.MEM_ERR_LAST_UE, 39, 36⟩
def F.MEM_ERR_LAST_UE.channel : Fld := ⟨R.MEM_ERR_LAST_UE, 35, 32⟩
def F.MEM_ERR_LAST_UE.word : Fld := ⟨R.MEM_ERR_LAST_UE, 26, 0⟩

def R.MEM_INJECT_ADDR : Reg := ⟨0x50030, 32, 0⟩
def F.MEM_INJECT_ADDR.word : Fld := ⟨R.MEM_INJECT_ADDR, 26, 0⟩

def R.MEM_INJECT_CTRL : Reg := ⟨0x50034, 32, 0⟩
def F.MEM_INJECT_CTRL.arm : Fld := ⟨R.MEM_INJECT_CTRL, 31, 31⟩
def F.MEM_INJECT_CTRL.mask : Fld := ⟨R.MEM_INJECT_CTRL, 7, 0⟩

def R.MEM_BAD_COUNT : Reg := ⟨0x50038, 32, 0⟩
def F.MEM_BAD_COUNT.entries : Fld := ⟨R.MEM_BAD_COUNT, 6, 0⟩

/-! Registers placed by R207 of 09_screening.md. -/
def R.CHn_SCR_CTRL (n : Nat) : Reg := ⟨0x200000 + n * 0x20000, 32, 0xe400⟩
def F.CHn_SCR_CTRL.tile_tag3 (n : Nat) : Fld := ⟨(R.CHn_SCR_CTRL n), 15, 14⟩
def F.CHn_SCR_CTRL.tile_tag2 (n : Nat) : Fld := ⟨(R.CHn_SCR_CTRL n), 13, 12⟩
def F.CHn_SCR_CTRL.tile_tag1 (n : Nat) : Fld := ⟨(R.CHn_SCR_CTRL n), 11, 10⟩
def F.CHn_SCR_CTRL.tile_tag0 (n : Nat) : Fld := ⟨(R.CHn_SCR_CTRL n), 9, 8⟩
def F.CHn_SCR_CTRL.tone_bank (n : Nat) : Fld := ⟨(R.CHn_SCR_CTRL n), 4, 4⟩
def F.CHn_SCR_CTRL.default_tag (n : Nat) : Fld := ⟨(R.CHn_SCR_CTRL n), 1, 0⟩

def R.CHn_SCR_COMMIT (n : Nat) : Reg := ⟨0x200004 + n * 0x20000, 32, 0⟩
def F.CHn_SCR_COMMIT.commit (n : Nat) : Fld := ⟨(R.CHn_SCR_COMMIT n), 0, 0⟩

def R.CHn_SCR_STATUS (n : Nat) : Reg := ⟨0x200008 + n * 0x20000, 32, 0⟩
def F.CHn_SCR_STATUS.shadow_pending (n : Nat) : Fld := ⟨(R.CHn_SCR_STATUS n), 31, 31⟩
def F.CHn_SCR_STATUS.locked (n : Nat) : Fld := ⟨(R.CHn_SCR_STATUS n), 30, 30⟩
def F.CHn_SCR_STATUS.digest_valid (n : Nat) : Fld := ⟨(R.CHn_SCR_STATUS n), 29, 29⟩
def F.CHn_SCR_STATUS.active_bank (n : Nat) : Fld := ⟨(R.CHn_SCR_STATUS n), 28, 28⟩
def F.CHn_SCR_STATUS.probe_busy (n : Nat) : Fld := ⟨(R.CHn_SCR_STATUS n), 27, 27⟩
def F.CHn_SCR_STATUS.sheet_tag (n : Nat) : Fld := ⟨(R.CHn_SCR_STATUS n), 15, 0⟩

def R.CHn_SCR_DIGEST (n : Nat) : Reg := ⟨0x20000c + n * 0x20000, 32, 0⟩
def F.CHn_SCR_DIGEST.crc (n : Nat) : Fld := ⟨(R.CHn_SCR_DIGEST n), 31, 0⟩

def R.CHn_SCR_TRIMt (n t : Nat) : Reg := ⟨0x200010 + n * 0x20000 + t * 4, 32, 0x10000000⟩
def F.CHn_SCR_TRIMt.gain (n t : Nat) : Fld := ⟨(R.CHn_SCR_TRIMt n t), 31, 16⟩
def F.CHn_SCR_TRIMt.offset (n t : Nat) : Fld := ⟨(R.CHn_SCR_TRIMt n t), 15, 0⟩

def R.CHn_SCR_TILEk_GEOM (n k : Nat) : Reg := ⟨0x200020 + n * 0x20000 + k * 8, 32, 0xffff⟩
def F.CHn_SCR_TILEk_GEOM.shift (n k : Nat) : Fld := ⟨(R.CHn_SCR_TILEk_GEOM n k), 23, 16⟩
def F.CHn_SCR_TILEk_GEOM.height_m1 (n k : Nat) : Fld := ⟨(R.CHn_SCR_TILEk_GEOM n k), 15, 8⟩
def F.CHn_SCR_TILEk_GEOM.width_m1 (n k : Nat) : Fld := ⟨(R.CHn_SCR_TILEk_GEOM n k), 7, 0⟩

def R.CHn_SCR_TILEk_PHASE (n k : Nat) : Reg := ⟨0x200024 + n * 0x20000 + k * 8, 32, 0⟩
def F.CHn_SCR_TILEk_PHASE.phase_y (n k : Nat) : Fld := ⟨(R.CHn_SCR_TILEk_PHASE n k), 31, 16⟩
def F.CHn_SCR_TILEk_PHASE.phase_x (n k : Nat) : Fld := ⟨(R.CHn_SCR_TILEk_PHASE n k), 15, 0⟩

def R.CHn_SCR_PS_MAP (n : Nat) : Reg := ⟨0x200040 + n * 0x20000, 64, 0xfedcba9876543210⟩
def F.CHn_SCR_PS_MAP.map (n : Nat) : Fld := ⟨(R.CHn_SCR_PS_MAP n), 63, 0⟩

def R.CHn_SCR_IRQ_STATUS (n : Nat) : Reg := ⟨0x200050 + n * 0x20000, 32, 0⟩
def F.CHn_SCR_IRQ_STATUS.late (n : Nat) : Fld := ⟨(R.CHn_SCR_IRQ_STATUS n), 4, 4⟩
def F.CHn_SCR_IRQ_STATUS.mismatch (n : Nat) : Fld := ⟨(R.CHn_SCR_IRQ_STATUS n), 3, 3⟩
def F.CHn_SCR_IRQ_STATUS.table_ue (n : Nat) : Fld := ⟨(R.CHn_SCR_IRQ_STATUS n), 2, 2⟩
def F.CHn_SCR_IRQ_STATUS.digest_ready (n : Nat) : Fld := ⟨(R.CHn_SCR_IRQ_STATUS n), 1, 1⟩
def F.CHn_SCR_IRQ_STATUS.transferred (n : Nat) : Fld := ⟨(R.CHn_SCR_IRQ_STATUS n), 0, 0⟩

def R.CHn_SCR_IRQ_EN (n : Nat) : Reg := ⟨0x200054 + n * 0x20000, 32, 0⟩
def F.CHn_SCR_IRQ_EN.enable (n : Nat) : Fld := ⟨(R.CHn_SCR_IRQ_EN n), 31, 0⟩

def R.CHn_SCR_PROBE_IN (n : Nat) : Reg := ⟨0x200060 + n * 0x20000, 64, 0⟩
def F.CHn_SCR_PROBE_IN.y (n : Nat) : Fld := ⟨(R.CHn_SCR_PROBE_IN n), 49, 32⟩
def F.CHn_SCR_PROBE_IN.x (n : Nat) : Fld := ⟨(R.CHn_SCR_PROBE_IN n), 30, 16⟩
def F.CHn_SCR_PROBE_IN.tag (n : Nat) : Fld := ⟨(R.CHn_SCR_PROBE_IN n), 9, 8⟩
def F.CHn_SCR_PROBE_IN.value (n : Nat) : Fld := ⟨(R.CHn_SCR_PROBE_IN n), 7, 0⟩

def R.CHn_SCR_PROBE_OUT (n : Nat) : Reg := ⟨0x200068 + n * 0x20000, 32, 0⟩
def F.CHn_SCR_PROBE_OUT.code (n : Nat) : Fld := ⟨(R.CHn_SCR_PROBE_OUT n), 31, 28⟩
def F.CHn_SCR_PROBE_OUT.tone (n : Nat) : Fld := ⟨(R.CHn_SCR_PROBE_OUT n), 27, 16⟩
def F.CHn_SCR_PROBE_OUT.base (n : Nat) : Fld := ⟨(R.CHn_SCR_PROBE_OUT n), 15, 8⟩
def F.CHn_SCR_PROBE_OUT.slope (n : Nat) : Fld := ⟨(R.CHn_SCR_PROBE_OUT n), 7, 0⟩

def R.CHn_SCR_CE_COUNT (n : Nat) : Reg := ⟨0x200070 + n * 0x20000, 32, 0⟩
def F.CHn_SCR_CE_COUNT.count (n : Nat) : Fld := ⟨(R.CHn_SCR_CE_COUNT n), 31, 0⟩

def R.CHn_SCR_UE_COUNT (n : Nat) : Reg := ⟨0x200074 + n * 0x20000, 32, 0⟩
def F.CHn_SCR_UE_COUNT.count (n : Nat) : Fld := ⟨(R.CHn_SCR_UE_COUNT n), 31, 0⟩

def R.CHn_SCR_MISMATCH_COUNT (n : Nat) : Reg := ⟨0x200078 + n * 0x20000, 32, 0⟩
def F.CHn_SCR_MISMATCH_COUNT.count (n : Nat) : Fld := ⟨(R.CHn_SCR_MISMATCH_COUNT n), 31, 0⟩

def R.CHn_SCR_LATE_COUNT (n : Nat) : Reg := ⟨0x20007c + n * 0x20000, 32, 0⟩
def F.CHn_SCR_LATE_COUNT.count (n : Nat) : Fld := ⟨(R.CHn_SCR_LATE_COUNT n), 31, 0⟩

def R.CHn_SCR_SHEETS (n : Nat) : Reg := ⟨0x200080 + n * 0x20000, 32, 0⟩
def F.CHn_SCR_SHEETS.count (n : Nat) : Fld := ⟨(R.CHn_SCR_SHEETS n), 31, 0⟩

/-! Registers placed by R227 of 10_scan_timing_and_placement.md. -/
def R.CHn_SCT_CTRL (n : Nat) : Reg := ⟨0x20a000 + n * 0x20000, 32, 0x4404020⟩
def F.CHn_SCT_CTRL.miss_limit (n : Nat) : Fld := ⟨(R.CHn_SCT_CTRL n), 27, 24⟩
def F.CHn_SCT_CTRL.bd_window (n : Nat) : Fld := ⟨(R.CHn_SCT_CTRL n), 23, 16⟩
def F.CHn_SCT_CTRL.lock_tol (n : Nat) : Fld := ⟨(R.CHn_SCT_CTRL n), 15, 8⟩
def F.CHn_SCT_CTRL.bd_filter (n : Nat) : Fld := ⟨(R.CHn_SCT_CTRL n), 7, 4⟩
def F.CHn_SCT_CTRL.facet_mode (n : Nat) : Fld := ⟨(R.CHn_SCT_CTRL n), 2, 2⟩
def F.CHn_SCT_CTRL.enable (n : Nat) : Fld := ⟨(R.CHn_SCT_CTRL n), 0, 0⟩

def R.CHn_SCT_STATUS (n : Nat) : Reg := ⟨0x20a004 + n * 0x20000, 32, 0⟩
def F.CHn_SCT_STATUS.state (n : Nat) : Fld := ⟨(R.CHn_SCT_STATUS n), 31, 30⟩
def F.CHn_SCT_STATUS.facet_rot (n : Nat) : Fld := ⟨(R.CHn_SCT_STATUS n), 29, 26⟩
def F.CHn_SCT_STATUS.facet (n : Nat) : Fld := ⟨(R.CHn_SCT_STATUS n), 25, 22⟩
def F.CHn_SCT_STATUS.lock_count (n : Nat) : Fld := ⟨(R.CHn_SCT_STATUS n), 6, 0⟩

def R.CHn_SCT_PHASE_ERR (n : Nat) : Reg := ⟨0x20a008 + n * 0x20000, 32, 0⟩
def F.CHn_SCT_PHASE_ERR.e (n : Nat) : Fld := ⟨(R.CHn_SCT_PHASE_ERR n), 31, 0⟩

def R.CHn_SCT_COUNTS (n : Nat) : Reg := ⟨0x20a00c + n * 0x20000, 32, 0⟩
def F.CHn_SCT_COUNTS.missed (n : Nat) : Fld := ⟨(R.CHn_SCT_COUNTS n), 31, 16⟩
def F.CHn_SCT_COUNTS.extra (n : Nat) : Fld := ⟨(R.CHn_SCT_COUNTS n), 15, 0⟩

def R.CHn_SCT_REF_TIME (n : Nat) : Reg := ⟨0x20a010 + n * 0x20000, 64, 0⟩
def F.CHn_SCT_REF_TIME.t_ref (n : Nat) : Fld := ⟨(R.CHn_SCT_REF_TIME n), 63, 0⟩

def R.CHn_SCT_FACET_PERIOD (n : Nat) : Reg := ⟨0x20a018 + n * 0x20000, 64, 0⟩
def F.CHn_SCT_FACET_PERIOD.period (n : Nat) : Fld := ⟨(R.CHn_SCT_FACET_PERIOD n), 47, 0⟩

def R.CHn_SCT_LAST_BD (n : Nat) : Reg := ⟨0x20a020 + n * 0x20000, 64, 0⟩
def F.CHn_SCT_LAST_BD.t_bd64 (n : Nat) : Fld := ⟨(R.CHn_SCT_LAST_BD n), 63, 0⟩

def R.CHn_SCT_SLOT (n : Nat) : Reg := ⟨0x20a028 + n * 0x20000, 64, 0⟩
def F.CHn_SCT_SLOT.k (n : Nat) : Fld := ⟨(R.CHn_SCT_SLOT n), 47, 0⟩

def R.CHn_SCT_IRQ_STATUS (n : Nat) : Reg := ⟨0x20a030 + n * 0x20000, 32, 0⟩
def F.CHn_SCT_IRQ_STATUS.ident_done (n : Nat) : Fld := ⟨(R.CHn_SCT_IRQ_STATUS n), 4, 4⟩
def F.CHn_SCT_IRQ_STATUS.ident_fail (n : Nat) : Fld := ⟨(R.CHn_SCT_IRQ_STATUS n), 3, 3⟩
def F.CHn_SCT_IRQ_STATUS.bd_missed (n : Nat) : Fld := ⟨(R.CHn_SCT_IRQ_STATUS n), 2, 2⟩
def F.CHn_SCT_IRQ_STATUS.phase_lost (n : Nat) : Fld := ⟨(R.CHn_SCT_IRQ_STATUS n), 1, 1⟩
def F.CHn_SCT_IRQ_STATUS.in_phase (n : Nat) : Fld := ⟨(R.CHn_SCT_IRQ_STATUS n), 0, 0⟩

def R.CHn_SCT_IRQ_EN (n : Nat) : Reg := ⟨0x20a034 + n * 0x20000, 32, 0⟩
def F.CHn_SCT_IRQ_EN.enable (n : Nat) : Fld := ⟨(R.CHn_SCT_IRQ_EN n), 31, 0⟩

def R.CHn_SCT_FACET_SIGf (n f : Nat) : Reg := ⟨0x20a040 + n * 0x20000 + f * 4, 32, 0⟩
def F.CHn_SCT_FACET_SIGf.sig (n f : Nat) : Fld := ⟨(R.CHn_SCT_FACET_SIGf n f), 15, 0⟩

def R.CHn_SCT_FACET_DEVg (n g : Nat) : Reg := ⟨0x20a080 + n * 0x20000 + g * 4, 32, 0⟩
def F.CHn_SCT_FACET_DEVg.dev (n g : Nat) : Fld := ⟨(R.CHn_SCT_FACET_DEVg n g), 15, 0⟩

def R.CHn_PXS_CTRL (n : Nat) : Reg := ⟨0x208000 + n * 0x20000, 32, 0⟩
def F.CHn_PXS_CTRL.align_shift (n : Nat) : Fld := ⟨(R.CHn_PXS_CTRL n), 3, 1⟩

def R.CHn_PXS_FREQ (n : Nat) : Reg := ⟨0x208004 + n * 0x20000, 32, 0⟩
def F.CHn_PXS_FREQ.m (n : Nat) : Fld := ⟨(R.CHn_PXS_FREQ n), 31, 0⟩

def R.CHn_PXS_STATUS (n : Nat) : Reg := ⟨0x208008 + n * 0x20000, 32, 0⟩
def F.CHn_PXS_STATUS.locked (n : Nat) : Fld := ⟨(R.CHn_PXS_STATUS n), 31, 31⟩
def F.CHn_PXS_STATUS.lock_lost (n : Nat) : Fld := ⟨(R.CHn_PXS_STATUS n), 30, 30⟩
def F.CHn_PXS_STATUS.relocks (n : Nat) : Fld := ⟨(R.CHn_PXS_STATUS n), 15, 0⟩

def R.CHn_PXS_ALIGN (n : Nat) : Reg := ⟨0x20800c + n * 0x20000, 32, 0⟩
def F.CHn_PXS_ALIGN.phi (n : Nat) : Fld := ⟨(R.CHn_PXS_ALIGN n), 31, 0⟩

def R.CHn_PLC_CTRL (n : Nat) : Reg := ⟨0x204000 + n * 0x20000, 32, 0x1000⟩
def F.CHn_PLC_CTRL.slip_tol (n : Nat) : Fld := ⟨(R.CHn_PLC_CTRL n), 15, 10⟩
def F.CHn_PLC_CTRL.enc_sel (n : Nat) : Fld := ⟨(R.CHn_PLC_CTRL n), 9, 8⟩
def F.CHn_PLC_CTRL.enc_en (n : Nat) : Fld := ⟨(R.CHn_PLC_CTRL n), 7, 7⟩
def F.CHn_PLC_CTRL.beam_reverse (n : Nat) : Fld := ⟨(R.CHn_PLC_CTRL n), 0, 0⟩

def R.CHn_PLC_COMMIT (n : Nat) : Reg := ⟨0x204004 + n * 0x20000, 32, 0⟩
def F.CHn_PLC_COMMIT.commit (n : Nat) : Fld := ⟨(R.CHn_PLC_COMMIT n), 0, 0⟩

def R.CHn_PLC_STATUS (n : Nat) : Reg := ⟨0x204008 + n * 0x20000, 32, 0⟩
def F.CHn_PLC_STATUS.shadow_pending (n : Nat) : Fld := ⟨(R.CHn_PLC_STATUS n), 31, 31⟩
def F.CHn_PLC_STATUS.map_copy (n : Nat) : Fld := ⟨(R.CHn_PLC_STATUS n), 30, 30⟩
def F.CHn_PLC_STATUS.check (n : Nat) : Fld := ⟨(R.CHn_PLC_STATUS n), 23, 16⟩
def F.CHn_PLC_STATUS.reach_fwd (n : Nat) : Fld := ⟨(R.CHn_PLC_STATUS n), 4, 0⟩

def R.CHn_PLC_START (n : Nat) : Reg := ⟨0x20400c + n * 0x20000, 32, 0xfa0⟩
def F.CHn_PLC_START.start_delay (n : Nat) : Fld := ⟨(R.CHn_PLC_START n), 15, 0⟩

def R.CHn_PLC_IMAGE_DELAY (n : Nat) : Reg := ⟨0x204010 + n * 0x20000, 32, 0⟩
def F.CHn_PLC_IMAGE_DELAY.ticks (n : Nat) : Fld := ⟨(R.CHn_PLC_IMAGE_DELAY n), 31, 0⟩

def R.CHn_PLC_LINE_RATIO (n : Nat) : Reg := ⟨0x204014 + n * 0x20000, 32, 0x1000⟩
def F.CHn_PLC_LINE_RATIO.ratio (n : Nat) : Fld := ⟨(R.CHn_PLC_LINE_RATIO n), 19, 0⟩

def R.CHn_PLC_SLIP (n : Nat) : Reg := ⟨0x204018 + n * 0x20000, 32, 0⟩
def F.CHn_PLC_SLIP.lines (n : Nat) : Fld := ⟨(R.CHn_PLC_SLIP n), 31, 0⟩

def R.CHn_PLC_CE_COUNT (n : Nat) : Reg := ⟨0x20401c + n * 0x20000, 32, 0⟩
def F.CHn_PLC_CE_COUNT.count (n : Nat) : Fld := ⟨(R.CHn_PLC_CE_COUNT n), 31, 0⟩

def R.CHn_PLC_UE_COUNT (n : Nat) : Reg := ⟨0x204020 + n * 0x20000, 32, 0⟩
def F.CHn_PLC_UE_COUNT.count (n : Nat) : Fld := ⟨(R.CHn_PLC_UE_COUNT n), 31, 0⟩

def R.CHn_PLC_IRQ_STATUS (n : Nat) : Reg := ⟨0x204024 + n * 0x20000, 32, 0⟩
def F.CHn_PLC_IRQ_STATUS.late_start (n : Nat) : Fld := ⟨(R.CHn_PLC_IRQ_STATUS n), 4, 4⟩
def F.CHn_PLC_IRQ_STATUS.code_ue (n : Nat) : Fld := ⟨(R.CHn_PLC_IRQ_STATUS n), 3, 3⟩
def F.CHn_PLC_IRQ_STATUS.slip (n : Nat) : Fld := ⟨(R.CHn_PLC_IRQ_STATUS n), 2, 2⟩
def F.CHn_PLC_IRQ_STATUS.refused (n : Nat) : Fld := ⟨(R.CHn_PLC_IRQ_STATUS n), 1, 1⟩
def F.CHn_PLC_IRQ_STATUS.transferred (n : Nat) : Fld := ⟨(R.CHn_PLC_IRQ_STATUS n), 0, 0⟩

def R.CHn_PLC_IRQ_EN (n : Nat) : Reg := ⟨0x204028 + n * 0x20000, 32, 0⟩
def F.CHn_PLC_IRQ_EN.enable (n : Nat) : Fld := ⟨(R.CHn_PLC_IRQ_EN n), 31, 0⟩

def R.CHn_PLC_BEAM_DELAYb (n b : Nat) : Reg := ⟨0x204100 + n * 0x20000 + b * 4, 32, 0⟩
def F.CHn_PLC_BEAM_DELAYb.delay (n b : Nat) : Fld := ⟨(R.CHn_PLC_BEAM_DELAYb n b), 15, 0⟩

def R.CHn_PLC_FACET_DELAYf (n f : Nat) : Reg := ⟨0x204200 + n * 0x20000 + f * 8, 32, 0⟩
def F.CHn_PLC_FACET_DELAYf.trim (n f : Nat) : Fld := ⟨(R.CHn_PLC_FACET_DELAYf n f), 31, 16⟩
def F.CHn_PLC_FACET_DELAYf.delay (n f : Nat) : Fld := ⟨(R.CHn_PLC_FACET_DELAYf n f), 15, 0⟩

def R.CHn_PLC_FACET_YOFFf (n f : Nat) : Reg := ⟨0x204204 + n * 0x20000 + f * 8, 32, 0⟩
def F.CHn_PLC_FACET_YOFFf.yoff (n f : Nat) : Fld := ⟨(R.CHn_PLC_FACET_YOFFf n f), 15, 0⟩

/-! Registers placed by R258 of 11_beam_link_and_firing.md. -/
def R.BLK_PORTS : Reg := ⟨0x70000, 32, 0⟩
def F.BLK_PORTS.failed : Fld := ⟨R.BLK_PORTS, 31, 24⟩
def F.BLK_PORTS.withdrawn : Fld := ⟨R.BLK_PORTS, 23, 16⟩
def F.BLK_PORTS.active : Fld := ⟨R.BLK_PORTS, 7, 0⟩

def R.BLK_CMD : Reg := ⟨0x70004, 32, 0⟩
def F.BLK_CMD.force : Fld := ⟨R.BLK_CMD, 15, 15⟩
def F.BLK_CMD.retrain : Fld := ⟨R.BLK_CMD, 7, 0⟩

def R.BLK_REJECT : Reg := ⟨0x70008, 32, 0⟩
def F.BLK_REJECT.count : Fld := ⟨R.BLK_REJECT, 15, 0⟩

def R.CHn_BLP_CTRL (n : Nat) : Reg := ⟨0x210000 + n * 0x20000, 32, 0x20000000⟩
def F.CHn_BLP_CTRL.max_rate (n : Nat) : Fld := ⟨(R.CHn_BLP_CTRL n), 31, 28⟩
def F.CHn_BLP_CTRL.flight_adj (n : Nat) : Fld := ⟨(R.CHn_BLP_CTRL n), 15, 0⟩

def R.CHn_BLP_STATUS (n : Nat) : Reg := ⟨0x210004 + n * 0x20000, 32, 0⟩
def F.CHn_BLP_STATUS.state (n : Nat) : Fld := ⟨(R.CHn_BLP_STATUS n), 31, 28⟩
def F.CHn_BLP_STATUS.rate (n : Nat) : Fld := ⟨(R.CHn_BLP_STATUS n), 27, 24⟩
def F.CHn_BLP_STATUS.lanes (n : Nat) : Fld := ⟨(R.CHn_BLP_STATUS n), 23, 20⟩
def F.CHn_BLP_STATUS.withdraw_cause (n : Nat) : Fld := ⟨(R.CHn_BLP_STATUS n), 19, 16⟩
def F.CHn_BLP_STATUS.detail (n : Nat) : Fld := ⟨(R.CHn_BLP_STATUS n), 7, 0⟩

def R.CHn_BLP_HEAD (n : Nat) : Reg := ⟨0x210008 + n * 0x20000, 32, 0⟩
def F.CHn_BLP_HEAD.tau (n : Nat) : Fld := ⟨(R.CHn_BLP_HEAD n), 31, 16⟩
def F.CHn_BLP_HEAD.max_beams (n : Nat) : Fld := ⟨(R.CHn_BLP_HEAD n), 15, 8⟩
def F.CHn_BLP_HEAD.max_rate (n : Nat) : Fld := ⟨(R.CHn_BLP_HEAD n), 7, 4⟩
def F.CHn_BLP_HEAD.modes (n : Nat) : Fld := ⟨(R.CHn_BLP_HEAD n), 3, 0⟩

def R.CHn_BLP_LATENCY (n : Nat) : Reg := ⟨0x21000c + n * 0x20000, 32, 0⟩
def F.CHn_BLP_LATENCY.spread (n : Nat) : Fld := ⟨(R.CHn_BLP_LATENCY n), 31, 24⟩
def F.CHn_BLP_LATENCY.l (n : Nat) : Fld := ⟨(R.CHn_BLP_LATENCY n), 15, 0⟩

def R.CHn_BLP_SEQ (n : Nat) : Reg := ⟨0x210010 + n * 0x20000, 32, 0⟩
def F.CHn_BLP_SEQ.next_q (n : Nat) : Fld := ⟨(R.CHn_BLP_SEQ n), 31, 16⟩
def F.CHn_BLP_SEQ.n_scan (n : Nat) : Fld := ⟨(R.CHn_BLP_SEQ n), 10, 0⟩

def R.CHn_BLP_HEAD_STATUS (n : Nat) : Reg := ⟨0x210014 + n * 0x20000, 32, 0⟩
def F.CHn_BLP_HEAD_STATUS.last_seq (n : Nat) : Fld := ⟨(R.CHn_BLP_HEAD_STATUS n), 31, 16⟩
def F.CHn_BLP_HEAD_STATUS.flags (n : Nat) : Fld := ⟨(R.CHn_BLP_HEAD_STATUS n), 5, 0⟩

def R.CHn_BLP_IRQ_STATUS (n : Nat) : Reg := ⟨0x210018 + n * 0x20000, 32, 0⟩
def F.CHn_BLP_IRQ_STATUS.head_fault (n : Nat) : Fld := ⟨(R.CHn_BLP_IRQ_STATUS n), 5, 5⟩
def F.CHn_BLP_IRQ_STATUS.gap (n : Nat) : Fld := ⟨(R.CHn_BLP_IRQ_STATUS n), 4, 4⟩
def F.CHn_BLP_IRQ_STATUS.withdrawn (n : Nat) : Fld := ⟨(R.CHn_BLP_IRQ_STATUS n), 3, 3⟩
def F.CHn_BLP_IRQ_STATUS.lost (n : Nat) : Fld := ⟨(R.CHn_BLP_IRQ_STATUS n), 2, 2⟩
def F.CHn_BLP_IRQ_STATUS.failed (n : Nat) : Fld := ⟨(R.CHn_BLP_IRQ_STATUS n), 1, 1⟩
def F.CHn_BLP_IRQ_STATUS.active (n : Nat) : Fld := ⟨(R.CHn_BLP_IRQ_STATUS n), 0, 0⟩

def R.CHn_BLP_IRQ_EN (n : Nat) : Reg := ⟨0x21001c + n * 0x20000, 32, 0⟩
def F.CHn_BLP_IRQ_EN.enable (n : Nat) : Fld := ⟨(R.CHn_BLP_IRQ_EN n), 31, 0⟩

def R.CHn_BLP_FRAMES (n : Nat) : Reg := ⟨0x210020 + n * 0x20000, 64, 0⟩
def F.CHn_BLP_FRAMES.frames (n : Nat) : Fld := ⟨(R.CHn_BLP_FRAMES n), 63, 0⟩

def R.CHn_BLP_COUNTS (n : Nat) : Reg := ⟨0x210028 + n * 0x20000, 32, 0⟩
def F.CHn_BLP_COUNTS.gaps (n : Nat) : Fld := ⟨(R.CHn_BLP_COUNTS n), 31, 16⟩
def F.CHn_BLP_COUNTS.retrains (n : Nat) : Fld := ⟨(R.CHn_BLP_COUNTS n), 15, 8⟩
def F.CHn_BLP_COUNTS.bc_crc (n : Nat) : Fld := ⟨(R.CHn_BLP_COUNTS n), 7, 0⟩

def R.CHn_FGT_CTRL (n : Nat) : Reg := ⟨0x20c000 + n * 0x20000, 32, 0⟩
def F.CHn_FGT_CTRL.permit_req (n : Nat) : Fld := ⟨(R.CHn_FGT_CTRL n), 0, 0⟩

def R.CHn_FGT_STATUS (n : Nat) : Reg := ⟨0x20c004 + n * 0x20000, 32, 0x780⟩
def F.CHn_FGT_STATUS.permit (n : Nat) : Fld := ⟨(R.CHn_FGT_STATUS n), 31, 31⟩
def F.CHn_FGT_STATUS.closable (n : Nat) : Fld := ⟨(R.CHn_FGT_STATUS n), 30, 30⟩
def F.CHn_FGT_STATUS.disabled (n : Nat) : Fld := ⟨(R.CHn_FGT_STATUS n), 11, 11⟩
def F.CHn_FGT_STATUS.polygon (n : Nat) : Fld := ⟨(R.CHn_FGT_STATUS n), 10, 10⟩
def F.CHn_FGT_STATUS.pxs (n : Nat) : Fld := ⟨(R.CHn_FGT_STATUS n), 9, 9⟩
def F.CHn_FGT_STATUS.port (n : Nat) : Fld := ⟨(R.CHn_FGT_STATUS n), 8, 8⟩
def F.CHn_FGT_STATUS.host_state (n : Nat) : Fld := ⟨(R.CHn_FGT_STATUS n), 7, 7⟩
def F.CHn_FGT_STATUS.latched_reaction (n : Nat) : Fld := ⟨(R.CHn_FGT_STATUS n), 6, 6⟩
def F.CHn_FGT_STATUS.latched_stuck (n : Nat) : Fld := ⟨(R.CHn_FGT_STATUS n), 5, 5⟩
def F.CHn_FGT_STATUS.latched_unscanned (n : Nat) : Fld := ⟨(R.CHn_FGT_STATUS n), 4, 4⟩
def F.CHn_FGT_STATUS.latched_interlock (n : Nat) : Fld := ⟨(R.CHn_FGT_STATUS n), 3, 3⟩
def F.CHn_FGT_STATUS.ilk_din (n : Nat) : Fld := ⟨(R.CHn_FGT_STATUS n), 2, 2⟩
def F.CHn_FGT_STATUS.ilk_head (n : Nat) : Fld := ⟨(R.CHn_FGT_STATUS n), 1, 1⟩
def F.CHn_FGT_STATUS.ilk_estop (n : Nat) : Fld := ⟨(R.CHn_FGT_STATUS n), 0, 0⟩

def R.CHn_FGT_WDOG (n : Nat) : Reg := ⟨0x20c008 + n * 0x20000, 32, 0x3e80010⟩
def F.CHn_FGT_WDOG.timeout_us (n : Nat) : Fld := ⟨(R.CHn_FGT_WDOG n), 31, 16⟩
def F.CHn_FGT_WDOG.stuck_ticks (n : Nat) : Fld := ⟨(R.CHn_FGT_WDOG n), 7, 0⟩

def R.CHn_FGT_DMO_CFG (n : Nat) : Reg := ⟨0x20c00c + n * 0x20000, 32, 0x10c⟩
def F.CHn_FGT_DMO_CFG.justify (n : Nat) : Fld := ⟨(R.CHn_FGT_DMO_CFG n), 9, 8⟩
def F.CHn_FGT_DMO_CFG.min_width (n : Nat) : Fld := ⟨(R.CHn_FGT_DMO_CFG n), 7, 0⟩

def R.CHn_FGT_DMO_WIDTHc (n c : Nat) : Reg := ⟨0x20c010 + n * 0x20000 + c * 4, 32, dmoWidthReset c⟩
def F.CHn_FGT_DMO_WIDTHc.w (n c : Nat) : Fld := ⟨(R.CHn_FGT_DMO_WIDTHc n c), 31, 0⟩

def R.CHn_FGT_IRQ_STATUS (n : Nat) : Reg := ⟨0x20c020 + n * 0x20000, 32, 0⟩
def F.CHn_FGT_IRQ_STATUS.permit_rose (n : Nat) : Fld := ⟨(R.CHn_FGT_IRQ_STATUS n), 3, 3⟩
def F.CHn_FGT_IRQ_STATUS.permit_fell (n : Nat) : Fld := ⟨(R.CHn_FGT_IRQ_STATUS n), 2, 2⟩
def F.CHn_FGT_IRQ_STATUS.watchdog (n : Nat) : Fld := ⟨(R.CHn_FGT_IRQ_STATUS n), 1, 1⟩
def F.CHn_FGT_IRQ_STATUS.interlock (n : Nat) : Fld := ⟨(R.CHn_FGT_IRQ_STATUS n), 0, 0⟩

def R.CHn_FGT_IRQ_EN (n : Nat) : Reg := ⟨0x20c024 + n * 0x20000, 32, 0⟩
def F.CHn_FGT_IRQ_EN.enable (n : Nat) : Fld := ⟨(R.CHn_FGT_IRQ_EN n), 31, 0⟩

def R.CHn_FGT_COUNTS (n : Nat) : Reg := ⟨0x20c028 + n * 0x20000, 32, 0⟩
def F.CHn_FGT_COUNTS.drops (n : Nat) : Fld := ⟨(R.CHn_FGT_COUNTS n), 31, 16⟩
def F.CHn_FGT_COUNTS.suppressed (n : Nat) : Fld := ⟨(R.CHn_FGT_COUNTS n), 15, 0⟩

def R.CHn_FGT_CMD (n : Nat) : Reg := ⟨0x20c030 + n * 0x20000, 32, 0⟩
def F.CHn_FGT_CMD.force (n : Nat) : Fld := ⟨(R.CHn_FGT_CMD n), 15, 15⟩
def F.CHn_FGT_CMD.enable (n : Nat) : Fld := ⟨(R.CHn_FGT_CMD n), 1, 1⟩
def F.CHn_FGT_CMD.disable (n : Nat) : Fld := ⟨(R.CHn_FGT_CMD n), 0, 0⟩

def R.CHn_FGT_REJECT (n : Nat) : Reg := ⟨0x20c034 + n * 0x20000, 32, 0⟩
def F.CHn_FGT_REJECT.count (n : Nat) : Fld := ⟨(R.CHn_FGT_REJECT n), 15, 0⟩

/-- Register classes of RNG. -/
def regTableRNG : List RegClass := [
  ⟨0x60000, [], 32, 0x28000001, [⟨31, 24, .rw⟩, ⟨19, 16, .rw⟩, ⟨1, 1, .rw⟩, ⟨0, 0, .rw⟩]⟩,
  ⟨0x60004, [], 32, 0, [⟨15, 15, .wo⟩, ⟨9, 9, .wo⟩, ⟨8, 8, .wo⟩, ⟨7, 7, .wo⟩, ⟨6, 6, .wo⟩, ⟨5, 5, .wo⟩, ⟨4, 4, .wo⟩, ⟨3, 3, .wo⟩, ⟨2, 2, .wo⟩, ⟨1, 1, .wo⟩, ⟨0, 0, .wo⟩]⟩,
  ⟨0x60008, [], 32, 0, [⟨31, 28, .ro⟩, ⟨27, 24, .ro⟩, ⟨23, 20, .ro⟩, ⟨19, 19, .ro⟩, ⟨18, 18, .ro⟩, ⟨17, 17, .ro⟩, ⟨15, 8, .ro⟩, ⟨7, 0, .ro⟩]⟩,
  ⟨0x6000c, [], 32, 0, [⟨31, 31, .rw⟩, ⟨16, 16, .rw⟩, ⟨7, 0, .rw⟩]⟩,
  ⟨0x60010, [], 32, 0xff, [⟨15, 8, .ro⟩, ⟨7, 0, .ro⟩]⟩,
  ⟨0x60014, [], 32, 0, [⟨5, 5, .w1c⟩, ⟨4, 4, .w1c⟩, ⟨3, 3, .w1c⟩, ⟨2, 2, .w1c⟩, ⟨1, 1, .w1c⟩, ⟨0, 0, .w1c⟩]⟩,
  ⟨0x60018, [], 32, 0, [⟨31, 0, .rw⟩]⟩,
  ⟨0x6001c, [], 32, 0, [⟨31, 16, .ro⟩, ⟨15, 0, .ro⟩]⟩,
  ⟨0x60020, [], 32, 0, [⟨15, 0, .ro⟩]⟩,
  ⟨0x60100, [(0x40, 8)], 32, 0, [⟨31, 31, .ro⟩, ⟨30, 30, .ro⟩, ⟨29, 27, .ro⟩, ⟨26, 26, .ro⟩, ⟨23, 16, .ro⟩, ⟨15, 8, .ro⟩, ⟨7, 0, .ro⟩]⟩,
  ⟨0x60104, [(0x40, 8)], 32, 0, [⟨3, 0, .rw⟩]⟩,
  ⟨0x60108, [(0x40, 8)], 32, 0, [⟨7, 7, .wo⟩, ⟨3, 0, .rw⟩]⟩,
  ⟨0x6010c, [(0x40, 8)], 32, 0, [⟨19, 0, .rw⟩]⟩,
  ⟨0x60118, [(0x40, 8)], 64, 0, [⟨63, 0, .ro⟩]⟩,
  ⟨0x60120, [(0x40, 8)], 32, 0, [⟨31, 0, .ro⟩]⟩,
  ⟨0x60400, [(0x40, 8)], 32, 0, [⟨3, 0, .rw⟩]⟩,
  ⟨0x60404, [(0x40, 8)], 32, 0, [⟨19, 0, .rw⟩]⟩,
  ⟨0x60408, [(0x40, 8)], 32, 0x100000, [⟨31, 31, .wo⟩, ⟨30, 30, .rw⟩, ⟨29, 28, .rw⟩, ⟨20, 16, .rw⟩]⟩,
  ⟨0x6040c, [(0x40, 8)], 32, 0, [⟨31, 0, .ro⟩]⟩,
  ⟨0x61000, [], 32, 0xa100801, [⟨31, 24, .rw⟩, ⟨23, 16, .rw⟩, ⟨11, 8, .rw⟩, ⟨1, 1, .rw⟩, ⟨0, 0, .rw⟩]⟩,
  ⟨0x61004, [], 32, 0x20000000, [⟨31, 31, .ro⟩, ⟨30, 30, .ro⟩, ⟨29, 29, .ro⟩, ⟨4, 0, .ro⟩]⟩,
  ⟨0x61008, [], 32, 0, [⟨23, 0, .ro⟩]⟩,
  ⟨0x6100c, [], 32, 0, [⟨23, 0, .ro⟩]⟩,
  ⟨0x61010, [], 32, 0, [⟨23, 0, .ro⟩]⟩,
  ⟨0x61014, [], 32, 0, [⟨23, 0, .ro⟩]⟩,
  ⟨0x61018, [], 32, 0, [⟨28, 16, .ro⟩, ⟨12, 0, .ro⟩]⟩,
  ⟨0x61020, [], 32, 0, [⟨7, 7, .w1c⟩, ⟨6, 6, .w1c⟩, ⟨5, 5, .w1c⟩, ⟨4, 4, .w1c⟩, ⟨3, 3, .w1c⟩, ⟨2, 2, .w1c⟩, ⟨1, 1, .w1c⟩, ⟨0, 0, .w1c⟩]⟩,
  ⟨0x61024, [], 32, 0, [⟨31, 0, .rw⟩]⟩,
  ⟨0x61028, [], 32, 0, [⟨23, 0, .ro⟩]⟩,
  ⟨0x6102c, [], 32, 0, [⟨23, 0, .wo⟩]⟩,
  ⟨0x61040, [(4, 11)], 32, 0, [⟨31, 0, .ro⟩]⟩]

/-- Register classes of DMA. -/
def regTableDMA : List RegClass := [
  ⟨0x40000, [], 32, 0, [⟨0, 0, .rw⟩]⟩,
  ⟨0x40004, [], 32, 0x3e80000, [⟨31, 16, .rw⟩]⟩,
  ⟨0x40008, [], 32, 0x1f0000, [⟨31, 31, .ro⟩, ⟨20, 16, .ro⟩, ⟨15, 0, .ro⟩]⟩,
  ⟨0x40010, [], 32, 0, [⟨15, 0, .w1c⟩]⟩,
  ⟨0x40014, [], 32, 0, [⟨15, 0, .w1c⟩]⟩,
  ⟨0x40018, [], 32, 0, [⟨31, 16, .rw⟩, ⟨15, 0, .rw⟩]⟩,
  ⟨0x40020, [], 64, 0, [⟨63, 0, .ro⟩]⟩,
  ⟨0x40028, [], 32, 0, [⟨15, 0, .ro⟩]⟩,
  ⟨0x40080, [(8, 16)], 32, 0, [⟨31, 12, .rw⟩]⟩,
  ⟨0x40084, [(8, 16)], 32, 0, [⟨31, 12, .rw⟩]⟩,
  ⟨0x40100, [(0x40, 16)], 32, 0, [⟨7, 6, .rw⟩, ⟨0, 0, .rw⟩]⟩,
  ⟨0x40108, [(0x40, 16)], 64, 0, [⟨63, 6, .wo⟩]⟩,
  ⟨0x40110, [(0x40, 16)], 32, 0, [⟨0, 0, .wo⟩]⟩,
  ⟨0x40114, [(0x40, 16)], 32, 0, [⟨0, 0, .wo⟩]⟩,
  ⟨0x40118, [(0x40, 16)], 32, 0, [⟨31, 24, .ro⟩, ⟨15, 8, .ro⟩, ⟨2, 0, .ro⟩]⟩,
  ⟨0x40120, [(0x40, 16)], 64, 0, [⟨63, 0, .ro⟩]⟩,
  ⟨0x40128, [(0x40, 16)], 32, 0, [⟨31, 0, .ro⟩]⟩]

/-- Register classes of MEM. -/
def regTableMEM : List RegClass := [
  ⟨0x50000, [], 32, 0, [⟨2, 2, .ro⟩, ⟨1, 1, .ro⟩, ⟨0, 0, .ro⟩]⟩,
  ⟨0x50004, [], 32, 0xe100001, [⟨31, 16, .rw⟩, ⟨0, 0, .rw⟩]⟩,
  ⟨0x50008, [], 32, 0, [⟨31, 16, .ro⟩, ⟨15, 0, .ro⟩]⟩,
  ⟨0x5000c, [], 32, 0x3c0010, [⟨31, 16, .rw⟩, ⟨15, 0, .rw⟩]⟩,
  ⟨0x50010, [], 32, 0, [⟨31, 0, .ro⟩]⟩,
  ⟨0x50014, [], 32, 0, [⟨31, 0, .ro⟩]⟩,
  ⟨0x50018, [], 32, 0, [⟨31, 0, .ro⟩]⟩,
  ⟨0x50020, [], 64, 0, [⟨47, 40, .ro⟩, ⟨39, 36, .ro⟩, ⟨35, 32, .ro⟩, ⟨26, 0, .ro⟩]⟩,
  ⟨0x50028, [], 64, 0, [⟨47, 40, .ro⟩, ⟨39, 36, .ro⟩, ⟨35, 32, .ro⟩, ⟨26, 0, .ro⟩]⟩,
  ⟨0x50030, [], 32, 0, [⟨26, 0, .rw⟩]⟩,
  ⟨0x50034, [], 32, 0, [⟨31, 31, .w1s⟩, ⟨7, 0, .rw⟩]⟩,
  ⟨0x50038, [], 32, 0, [⟨6, 0, .ro⟩]⟩]

/-- Register classes of SCR. -/
def regTableSCR : List RegClass := [
  ⟨0x200000, [(0x20000, 8)], 32, 0xe400, [⟨15, 14, .rw⟩, ⟨13, 12, .rw⟩, ⟨11, 10, .rw⟩, ⟨9, 8, .rw⟩, ⟨4, 4, .rw⟩, ⟨1, 0, .rw⟩]⟩,
  ⟨0x200004, [(0x20000, 8)], 32, 0, [⟨0, 0, .wo⟩]⟩,
  ⟨0x200008, [(0x20000, 8)], 32, 0, [⟨31, 31, .ro⟩, ⟨30, 30, .ro⟩, ⟨29, 29, .ro⟩, ⟨28, 28, .ro⟩, ⟨27, 27, .ro⟩, ⟨15, 0, .ro⟩]⟩,
  ⟨0x20000c, [(0x20000, 8)], 32, 0, [⟨31, 0, .ro⟩]⟩,
  ⟨0x200010, [(0x20000, 8), (4, 4)], 32, 0x10000000, [⟨31, 16, .rw⟩, ⟨15, 0, .rw⟩]⟩,
  ⟨0x200020, [(0x20000, 8), (8, 4)], 32, 0xffff, [⟨23, 16, .rw⟩, ⟨15, 8, .rw⟩, ⟨7, 0, .rw⟩]⟩,
  ⟨0x200024, [(0x20000, 8), (8, 4)], 32, 0, [⟨31, 16, .rw⟩, ⟨15, 0, .rw⟩]⟩,
  ⟨0x200040, [(0x20000, 8)], 64, 0xfedcba9876543210, [⟨63, 0, .rw⟩]⟩,
  ⟨0x200050, [(0x20000, 8)], 32, 0, [⟨4, 4, .w1c⟩, ⟨3, 3, .w1c⟩, ⟨2, 2, .w1c⟩, ⟨1, 1, .w1c⟩, ⟨0, 0, .w1c⟩]⟩,
  ⟨0x200054, [(0x20000, 8)], 32, 0, [⟨31, 0, .rw⟩]⟩,
  ⟨0x200060, [(0x20000, 8)], 64, 0, [⟨49, 32, .rw⟩, ⟨30, 16, .rw⟩, ⟨9, 8, .rw⟩, ⟨7, 0, .rw⟩]⟩,
  ⟨0x200068, [(0x20000, 8)], 32, 0, [⟨31, 28, .ro⟩, ⟨27, 16, .ro⟩, ⟨15, 8, .ro⟩, ⟨7, 0, .ro⟩]⟩,
  ⟨0x200070, [(0x20000, 8)], 32, 0, [⟨31, 0, .ro⟩]⟩,
  ⟨0x200074, [(0x20000, 8)], 32, 0, [⟨31, 0, .ro⟩]⟩,
  ⟨0x200078, [(0x20000, 8)], 32, 0, [⟨31, 0, .ro⟩]⟩,
  ⟨0x20007c, [(0x20000, 8)], 32, 0, [⟨31, 0, .ro⟩]⟩,
  ⟨0x200080, [(0x20000, 8)], 32, 0, [⟨31, 0, .ro⟩]⟩]

/-- Register classes of SCT. -/
def regTableSCT : List RegClass := [
  ⟨0x20a000, [(0x20000, 8)], 32, 0x4404020, [⟨27, 24, .rw⟩, ⟨23, 16, .rw⟩, ⟨15, 8, .rw⟩, ⟨7, 4, .rw⟩, ⟨2, 2, .rw⟩, ⟨0, 0, .rw⟩]⟩,
  ⟨0x20a004, [(0x20000, 8)], 32, 0, [⟨31, 30, .ro⟩, ⟨29, 26, .ro⟩, ⟨25, 22, .ro⟩, ⟨6, 0, .ro⟩]⟩,
  ⟨0x20a008, [(0x20000, 8)], 32, 0, [⟨31, 0, .ro⟩]⟩,
  ⟨0x20a00c, [(0x20000, 8)], 32, 0, [⟨31, 16, .ro⟩, ⟨15, 0, .ro⟩]⟩,
  ⟨0x20a010, [(0x20000, 8)], 64, 0, [⟨63, 0, .rwg⟩]⟩,
  ⟨0x20a018, [(0x20000, 8)], 64, 0, [⟨47, 0, .rwg⟩]⟩,
  ⟨0x20a020, [(0x20000, 8)], 64, 0, [⟨63, 0, .ro⟩]⟩,
  ⟨0x20a028, [(0x20000, 8)], 64, 0, [⟨47, 0, .ro⟩]⟩,
  ⟨0x20a030, [(0x20000, 8)], 32, 0, [⟨4, 4, .w1c⟩, ⟨3, 3, .w1c⟩, ⟨2, 2, .w1c⟩, ⟨1, 1, .w1c⟩, ⟨0, 0, .w1c⟩]⟩,
  ⟨0x20a034, [(0x20000, 8)], 32, 0, [⟨31, 0, .rw⟩]⟩,
  ⟨0x20a040, [(0x20000, 8), (4, 12)], 32, 0, [⟨15, 0, .rw⟩]⟩,
  ⟨0x20a080, [(0x20000, 8), (4, 12)], 32, 0, [⟨15, 0, .ro⟩]⟩]

/-- Register classes of PXS. -/
def regTablePXS : List RegClass := [
  ⟨0x208000, [(0x20000, 8)], 32, 0, [⟨3, 1, .rw⟩]⟩,
  ⟨0x208004, [(0x20000, 8)], 32, 0, [⟨31, 0, .rwg⟩]⟩,
  ⟨0x208008, [(0x20000, 8)], 32, 0, [⟨31, 31, .ro⟩, ⟨30, 30, .w1c⟩, ⟨15, 0, .ro⟩]⟩,
  ⟨0x20800c, [(0x20000, 8)], 32, 0, [⟨31, 0, .ro⟩]⟩]

/-- Register classes of PLC. -/
def regTablePLC : List RegClass := [
  ⟨0x204000, [(0x20000, 8)], 32, 0x1000, [⟨15, 10, .rw⟩, ⟨9, 8, .rw⟩, ⟨7, 7, .rw⟩, ⟨0, 0, .rw⟩]⟩,
  ⟨0x204004, [(0x20000, 8)], 32, 0, [⟨0, 0, .wo⟩]⟩,
  ⟨0x204008, [(0x20000, 8)], 32, 0, [⟨31, 31, .ro⟩, ⟨30, 30, .ro⟩, ⟨23, 16, .ro⟩, ⟨4, 0, .ro⟩]⟩,
  ⟨0x20400c, [(0x20000, 8)], 32, 0xfa0, [⟨15, 0, .rw⟩]⟩,
  ⟨0x204010, [(0x20000, 8)], 32, 0, [⟨31, 0, .rw⟩]⟩,
  ⟨0x204014, [(0x20000, 8)], 32, 0x1000, [⟨19, 0, .rw⟩]⟩,
  ⟨0x204018, [(0x20000, 8)], 32, 0, [⟨31, 0, .ro⟩]⟩,
  ⟨0x20401c, [(0x20000, 8)], 32, 0, [⟨31, 0, .ro⟩]⟩,
  ⟨0x204020, [(0x20000, 8)], 32, 0, [⟨31, 0, .ro⟩]⟩,
  ⟨0x204024, [(0x20000, 8)], 32, 0, [⟨4, 4, .w1c⟩, ⟨3, 3, .w1c⟩, ⟨2, 2, .w1c⟩, ⟨1, 1, .w1c⟩, ⟨0, 0, .w1c⟩]⟩,
  ⟨0x204028, [(0x20000, 8)], 32, 0, [⟨31, 0, .rw⟩]⟩,
  ⟨0x204100, [(0x20000, 8), (4, 64)], 32, 0, [⟨15, 0, .rw⟩]⟩,
  ⟨0x204200, [(0x20000, 8), (8, 12)], 32, 0, [⟨31, 16, .rw⟩, ⟨15, 0, .rw⟩]⟩,
  ⟨0x204204, [(0x20000, 8), (8, 12)], 32, 0, [⟨15, 0, .rw⟩]⟩]

/-- Register classes of BLK. -/
def regTableBLK : List RegClass := [
  ⟨0x70000, [], 32, 0, [⟨31, 24, .ro⟩, ⟨23, 16, .ro⟩, ⟨7, 0, .ro⟩]⟩,
  ⟨0x70004, [], 32, 0, [⟨15, 15, .wo⟩, ⟨7, 0, .wo⟩]⟩,
  ⟨0x70008, [], 32, 0, [⟨15, 0, .ro⟩]⟩]

/-- Register classes of BLP. -/
def regTableBLP : List RegClass := [
  ⟨0x210000, [(0x20000, 8)], 32, 0x20000000, [⟨31, 28, .rw⟩, ⟨15, 0, .rw⟩]⟩,
  ⟨0x210004, [(0x20000, 8)], 32, 0, [⟨31, 28, .ro⟩, ⟨27, 24, .ro⟩, ⟨23, 20, .ro⟩, ⟨19, 16, .ro⟩, ⟨7, 0, .ro⟩]⟩,
  ⟨0x210008, [(0x20000, 8)], 32, 0, [⟨31, 16, .ro⟩, ⟨15, 8, .ro⟩, ⟨7, 4, .ro⟩, ⟨3, 0, .ro⟩]⟩,
  ⟨0x21000c, [(0x20000, 8)], 32, 0, [⟨31, 24, .ro⟩, ⟨15, 0, .ro⟩]⟩,
  ⟨0x210010, [(0x20000, 8)], 32, 0, [⟨31, 16, .ro⟩, ⟨10, 0, .ro⟩]⟩,
  ⟨0x210014, [(0x20000, 8)], 32, 0, [⟨31, 16, .ro⟩, ⟨5, 0, .ro⟩]⟩,
  ⟨0x210018, [(0x20000, 8)], 32, 0, [⟨5, 5, .w1c⟩, ⟨4, 4, .w1c⟩, ⟨3, 3, .w1c⟩, ⟨2, 2, .w1c⟩, ⟨1, 1, .w1c⟩, ⟨0, 0, .w1c⟩]⟩,
  ⟨0x21001c, [(0x20000, 8)], 32, 0, [⟨31, 0, .rw⟩]⟩,
  ⟨0x210020, [(0x20000, 8)], 64, 0, [⟨63, 0, .ro⟩]⟩,
  ⟨0x210028, [(0x20000, 8)], 32, 0, [⟨31, 16, .ro⟩, ⟨15, 8, .ro⟩, ⟨7, 0, .ro⟩]⟩]

/-- Register classes of FGT. -/
def regTableFGT : List RegClass := [
  ⟨0x20c000, [(0x20000, 8)], 32, 0, [⟨0, 0, .rw⟩]⟩,
  ⟨0x20c004, [(0x20000, 8)], 32, 0x780, [⟨31, 31, .ro⟩, ⟨30, 30, .ro⟩, ⟨11, 11, .ro⟩, ⟨10, 10, .ro⟩, ⟨9, 9, .ro⟩, ⟨8, 8, .ro⟩, ⟨7, 7, .ro⟩, ⟨6, 6, .ro⟩, ⟨5, 5, .ro⟩, ⟨4, 4, .ro⟩, ⟨3, 3, .ro⟩, ⟨2, 2, .ro⟩, ⟨1, 1, .ro⟩, ⟨0, 0, .ro⟩]⟩,
  ⟨0x20c008, [(0x20000, 8)], 32, 0x3e80010, [⟨31, 16, .rw⟩, ⟨7, 0, .rw⟩]⟩,
  ⟨0x20c00c, [(0x20000, 8)], 32, 0x10c, [⟨9, 8, .rwg⟩, ⟨7, 0, .rwg⟩]⟩,
  ⟨0x20c010, [(0x20000, 8)], 32, 0xd090400, [⟨31, 0, .rwg⟩]⟩,
  ⟨0x20c014, [(0x20000, 8)], 32, 0x1e1a1511, [⟨31, 0, .rwg⟩]⟩,
  ⟨0x20c018, [(0x20000, 8)], 32, 0x2f2b2622, [⟨31, 0, .rwg⟩]⟩,
  ⟨0x20c01c, [(0x20000, 8)], 32, 0x403c3733, [⟨31, 0, .rwg⟩]⟩,
  ⟨0x20c020, [(0x20000, 8)], 32, 0, [⟨3, 3, .w1c⟩, ⟨2, 2, .w1c⟩, ⟨1, 1, .w1c⟩, ⟨0, 0, .w1c⟩]⟩,
  ⟨0x20c024, [(0x20000, 8)], 32, 0, [⟨31, 0, .rw⟩]⟩,
  ⟨0x20c028, [(0x20000, 8)], 32, 0, [⟨31, 16, .ro⟩, ⟨15, 0, .ro⟩]⟩,
  ⟨0x20c030, [(0x20000, 8)], 32, 0, [⟨15, 15, .wo⟩, ⟨1, 1, .wo⟩, ⟨0, 0, .wo⟩]⟩,
  ⟨0x20c034, [(0x20000, 8)], 32, 0, [⟨15, 0, .ro⟩]⟩]

end Sys2Proof.Machine
end

