-- ==== Sys2Proof/Machine/RegsDrive.lean ====
section
/-! DEFINITION. Registers of the blocks BLD, STP, LOOP, TMP, PWR, CLK, TWN, CAL, LG: one `Reg` per register of the spec's offset tables, one `Fld` per field of its
field tables (same names), and per block the list of register classes that a host access is looked up in. -/

namespace Sys2Proof.Machine

/-! Registers placed by R283 of 12_brushless_drives.md. -/
def R.BLD_STATE : Reg := ⟨0x80000, 32, 0⟩
def F.BLD_STATE.fault : Fld := ⟨R.BLD_STATE, 31, 16⟩
def F.BLD_STATE.running : Fld := ⟨R.BLD_STATE, 15, 0⟩

def R.BLD_REJECT : Reg := ⟨0x80004, 32, 0⟩
def F.BLD_REJECT.count : Fld := ⟨R.BLD_REJECT, 15, 0⟩

def R.BLD_IRQ_STATUS : Reg := ⟨0x80008, 32, 0⟩
def F.BLD_IRQ_STATUS.bus_trip : Fld := ⟨R.BLD_IRQ_STATUS, 17, 16⟩
def F.BLD_IRQ_STATUS.axis : Fld := ⟨R.BLD_IRQ_STATUS, 15, 0⟩

def R.BLD_IRQ_EN : Reg := ⟨0x8000c, 32, 0⟩
def F.BLD_IRQ_EN.bus_trip : Fld := ⟨R.BLD_IRQ_EN, 17, 16⟩

def R.BLD_DCBm_CFG (m : Nat) : Reg := ⟨0x80010 + m * 0x10, 32, 0xfff0000⟩
def F.BLD_DCBm_CFG.ov_level (m : Nat) : Fld := ⟨(R.BLD_DCBm_CFG m), 27, 16⟩
def F.BLD_DCBm_CFG.uv_level (m : Nat) : Fld := ⟨(R.BLD_DCBm_CFG m), 11, 0⟩

def R.BLD_DCBm_NOM (m : Nat) : Reg := ⟨0x80014 + m * 0x10, 32, 0x800⟩
def F.BLD_DCBm_NOM.dcb_nom (m : Nat) : Fld := ⟨(R.BLD_DCBm_NOM m), 11, 0⟩

def R.BLD_DCBm_STATUS (m : Nat) : Reg := ⟨0x80018 + m * 0x10, 32, 0⟩
def F.BLD_DCBm_STATUS.over (m : Nat) : Fld := ⟨(R.BLD_DCBm_STATUS m), 31, 31⟩
def F.BLD_DCBm_STATUS.latched (m : Nat) : Fld := ⟨(R.BLD_DCBm_STATUS m), 30, 30⟩
def F.BLD_DCBm_STATUS.under (m : Nat) : Fld := ⟨(R.BLD_DCBm_STATUS m), 29, 29⟩
def F.BLD_DCBm_STATUS.reading (m : Nat) : Fld := ⟨(R.BLD_DCBm_STATUS m), 11, 0⟩

def R.BLD_AXa_CTRL (a : Nat) : Reg := ⟨0x81000 + a * 0x400, 32, 8⟩
def F.BLD_AXa_CTRL.pos_src (a : Nat) : Fld := ⟨(R.BLD_AXa_CTRL a), 7, 7⟩
def F.BLD_AXa_CTRL.phase_en (a : Nat) : Fld := ⟨(R.BLD_AXa_CTRL a), 6, 6⟩
def F.BLD_AXa_CTRL.fw_en (a : Nat) : Fld := ⟨(R.BLD_AXa_CTRL a), 5, 5⟩
def F.BLD_AXa_CTRL.decouple (a : Nat) : Fld := ⟨(R.BLD_AXa_CTRL a), 4, 4⟩
def F.BLD_AXa_CTRL.dt_comp (a : Nat) : Fld := ⟨(R.BLD_AXa_CTRL a), 3, 3⟩
def F.BLD_AXa_CTRL.auto_restart (a : Nat) : Fld := ⟨(R.BLD_AXa_CTRL a), 2, 2⟩

def R.BLD_AXa_CMD (a : Nat) : Reg := ⟨0x81004 + a * 0x400, 32, 0⟩
def F.BLD_AXa_CMD.clear_fault (a : Nat) : Fld := ⟨(R.BLD_AXa_CMD a), 2, 2⟩
def F.BLD_AXa_CMD.enable (a : Nat) : Fld := ⟨(R.BLD_AXa_CMD a), 1, 1⟩
def F.BLD_AXa_CMD.disable (a : Nat) : Fld := ⟨(R.BLD_AXa_CMD a), 0, 0⟩

def R.BLD_AXa_STATUS (a : Nat) : Reg := ⟨0x81008 + a * 0x400, 32, 0⟩
def F.BLD_AXa_STATUS.state (a : Nat) : Fld := ⟨(R.BLD_AXa_STATUS a), 31, 28⟩
def F.BLD_AXa_STATUS.at_speed (a : Nat) : Fld := ⟨(R.BLD_AXa_STATUS a), 27, 27⟩
def F.BLD_AXa_STATUS.slewing (a : Nat) : Fld := ⟨(R.BLD_AXa_STATUS a), 26, 26⟩
def F.BLD_AXa_STATUS.shadow_pending (a : Nat) : Fld := ⟨(R.BLD_AXa_STATUS a), 25, 25⟩
def F.BLD_AXa_STATUS.move_active (a : Nat) : Fld := ⟨(R.BLD_AXa_STATUS a), 24, 24⟩
def F.BLD_AXa_STATUS.too_late_to_abort (a : Nat) : Fld := ⟨(R.BLD_AXa_STATUS a), 23, 23⟩
def F.BLD_AXa_STATUS.restarts (a : Nat) : Fld := ⟨(R.BLD_AXa_STATUS a), 18, 16⟩

def R.BLD_AXa_COMMIT (a : Nat) : Reg := ⟨0x8100c + a * 0x400, 32, 0⟩
def F.BLD_AXa_COMMIT.commit (a : Nat) : Fld := ⟨(R.BLD_AXa_COMMIT a), 0, 0⟩

def R.BLD_AXa_SETPOINT (a : Nat) : Reg := ⟨0x81010 + a * 0x400, 32, 0⟩
def F.BLD_AXa_SETPOINT.speed (a : Nat) : Fld := ⟨(R.BLD_AXa_SETPOINT a), 31, 0⟩

def R.BLD_AXa_RATES (a : Nat) : Reg := ⟨0x81014 + a * 0x400, 32, 0x1f403e8⟩
def F.BLD_AXa_RATES.accel (a : Nat) : Fld := ⟨(R.BLD_AXa_RATES a), 31, 16⟩
def F.BLD_AXa_RATES.stop_rate (a : Nat) : Fld := ⟨(R.BLD_AXa_RATES a), 15, 0⟩

def R.BLD_AXa_SPEED (a : Nat) : Reg := ⟨0x81018 + a * 0x400, 32, 0⟩
def F.BLD_AXa_SPEED.speed (a : Nat) : Fld := ⟨(R.BLD_AXa_SPEED a), 31, 0⟩

def R.BLD_AXa_ANGLE (a : Nat) : Reg := ⟨0x8101c + a * 0x400, 32, 0⟩
def F.BLD_AXa_ANGLE.theta (a : Nat) : Fld := ⟨(R.BLD_AXa_ANGLE a), 15, 0⟩

def R.BLD_AXa_IDQ (a : Nat) : Reg := ⟨0x81020 + a * 0x400, 32, 0⟩
def F.BLD_AXa_IDQ.iq (a : Nat) : Fld := ⟨(R.BLD_AXa_IDQ a), 31, 16⟩
def F.BLD_AXa_IDQ.id (a : Nat) : Fld := ⟨(R.BLD_AXa_IDQ a), 15, 0⟩

def R.BLD_AXa_VDQ (a : Nat) : Reg := ⟨0x81024 + a * 0x400, 32, 0⟩
def F.BLD_AXa_VDQ.vq (a : Nat) : Fld := ⟨(R.BLD_AXa_VDQ a), 31, 16⟩
def F.BLD_AXa_VDQ.vd (a : Nat) : Fld := ⟨(R.BLD_AXa_VDQ a), 15, 0⟩

def R.BLD_AXa_POS (a : Nat) : Reg := ⟨0x81028 + a * 0x400, 64, 0⟩
def F.BLD_AXa_POS.pos (a : Nat) : Fld := ⟨(R.BLD_AXa_POS a), 63, 0⟩

def R.BLD_AXa_REMAIN (a : Nat) : Reg := ⟨0x81030 + a * 0x400, 32, 0⟩
def F.BLD_AXa_REMAIN.remain (a : Nat) : Fld := ⟨(R.BLD_AXa_REMAIN a), 31, 0⟩

def R.BLD_AXa_ILOOP (a : Nat) : Reg := ⟨0x81034 + a * 0x400, 32, 0⟩
def F.BLD_AXa_ILOOP.kp_i (a : Nat) : Fld := ⟨(R.BLD_AXa_ILOOP a), 31, 16⟩
def F.BLD_AXa_ILOOP.ki_i (a : Nat) : Fld := ⟨(R.BLD_AXa_ILOOP a), 15, 0⟩

def R.BLD_AXa_MOTOR1 (a : Nat) : Reg := ⟨0x81038 + a * 0x400, 32, 0⟩
def F.BLD_AXa_MOTOR1.rs (a : Nat) : Fld := ⟨(R.BLD_AXa_MOTOR1 a), 31, 16⟩
def F.BLD_AXa_MOTOR1.ls (a : Nat) : Fld := ⟨(R.BLD_AXa_MOTOR1 a), 15, 0⟩

def R.BLD_AXa_MOTOR2 (a : Nat) : Reg := ⟨0x8103c + a * 0x400, 32, 0x4000⟩
def F.BLD_AXa_MOTOR2.ke (a : Nat) : Fld := ⟨(R.BLD_AXa_MOTOR2 a), 31, 16⟩
def F.BLD_AXa_MOTOR2.i_max (a : Nat) : Fld := ⟨(R.BLD_AXa_MOTOR2 a), 15, 0⟩

def R.BLD_AXa_OBS (a : Nat) : Reg := ⟨0x81040 + a * 0x400, 32, 0xbb800c8⟩
def F.BLD_AXa_OBS.obs_bw (a : Nat) : Fld := ⟨(R.BLD_AXa_OBS a), 31, 16⟩
def F.BLD_AXa_OBS.pll_bw (a : Nat) : Fld := ⟨(R.BLD_AXa_OBS a), 15, 0⟩

def R.BLD_AXa_WLOOP (a : Nat) : Reg := ⟨0x81044 + a * 0x400, 32, 0⟩
def F.BLD_AXa_WLOOP.kp_w (a : Nat) : Fld := ⟨(R.BLD_AXa_WLOOP a), 31, 16⟩
def F.BLD_AXa_WLOOP.ki_w (a : Nat) : Fld := ⟨(R.BLD_AXa_WLOOP a), 15, 0⟩

def R.BLD_AXa_FW (a : Nat) : Reg := ⟨0x81048 + a * 0x400, 32, 0x79990000⟩
def F.BLD_AXa_FW.v_fw (a : Nat) : Fld := ⟨(R.BLD_AXa_FW a), 31, 16⟩
def F.BLD_AXa_FW.id_min (a : Nat) : Fld := ⟨(R.BLD_AXa_FW a), 15, 0⟩

def R.BLD_AXa_FW2 (a : Nat) : Reg := ⟨0x8104c + a * 0x400, 32, 9⟩
def F.BLD_AXa_FW2.fw_ki (a : Nat) : Fld := ⟨(R.BLD_AXa_FW2 a), 31, 16⟩
def F.BLD_AXa_FW2.speed_div_m1 (a : Nat) : Fld := ⟨(R.BLD_AXa_FW2 a), 3, 0⟩

def R.BLD_AXa_START1 (a : Nat) : Reg := ⟨0x81050 + a * 0x400, 32, 0x10001000⟩
def F.BLD_AXa_START1.align_current (a : Nat) : Fld := ⟨(R.BLD_AXa_START1 a), 31, 16⟩
def F.BLD_AXa_START1.ramp_current (a : Nat) : Fld := ⟨(R.BLD_AXa_START1 a), 15, 0⟩

def R.BLD_AXa_START2 (a : Nat) : Reg := ⟨0x81054 + a * 0x400, 32, 0x5dc012c⟩
def F.BLD_AXa_START2.handover_rpm (a : Nat) : Fld := ⟨(R.BLD_AXa_START2 a), 31, 16⟩
def F.BLD_AXa_START2.align_rpm (a : Nat) : Fld := ⟨(R.BLD_AXa_START2 a), 15, 0⟩

def R.BLD_AXa_START3 (a : Nat) : Reg := ⟨0x81058 + a * 0x400, 32, 0x12c32a2⟩
def F.BLD_AXa_START3.ramp_rate (a : Nat) : Fld := ⟨(R.BLD_AXa_START3 a), 31, 16⟩
def F.BLD_AXa_START3.align_ms (a : Nat) : Fld := ⟨(R.BLD_AXa_START3 a), 15, 8⟩
def F.BLD_AXa_START3.brake_max (a : Nat) : Fld := ⟨(R.BLD_AXa_START3 a), 7, 3⟩
def F.BLD_AXa_START3.start_retries (a : Nat) : Fld := ⟨(R.BLD_AXa_START3 a), 2, 0⟩

def R.BLD_AXa_LOS (a : Nat) : Reg := ⟨0x8105c + a * 0x400, 32, 0x4020⟩
def F.BLD_AXa_LOS.los_emf (a : Nat) : Fld := ⟨(R.BLD_AXa_LOS a), 15, 8⟩
def F.BLD_AXa_LOS.los_count (a : Nat) : Fld := ⟨(R.BLD_AXa_LOS a), 7, 0⟩

def R.BLD_AXa_PWM (a : Nat) : Reg := ⟨0x81060 + a * 0x400, 32, 0x190003e8⟩
def F.BLD_AXa_PWM.dead (a : Nat) : Fld := ⟨(R.BLD_AXa_PWM a), 31, 24⟩
def F.BLD_AXa_PWM.sample_ns (a : Nat) : Fld := ⟨(R.BLD_AXa_PWM a), 15, 0⟩

def R.BLD_AXa_PHASE (a : Nat) : Reg := ⟨0x81064 + a * 0x400, 32, 0⟩
def F.BLD_AXa_PHASE.kp_ph (a : Nat) : Fld := ⟨(R.BLD_AXa_PHASE a), 31, 16⟩
def F.BLD_AXa_PHASE.ki_ph (a : Nat) : Fld := ⟨(R.BLD_AXa_PHASE a), 15, 0⟩

def R.BLD_AXa_PHASE2 (a : Nat) : Reg := ⟨0x81068 + a * 0x400, 32, 0x100⟩
def F.BLD_AXa_PHASE2.ph_lim (a : Nat) : Fld := ⟨(R.BLD_AXa_PHASE2 a), 31, 16⟩
def F.BLD_AXa_PHASE2.at_speed_tol (a : Nat) : Fld := ⟨(R.BLD_AXa_PHASE2 a), 15, 0⟩

def R.BLD_AXa_POSGAIN (a : Nat) : Reg := ⟨0x8106c + a * 0x400, 32, 0⟩
def F.BLD_AXa_POSGAIN.kp_pos (a : Nat) : Fld := ⟨(R.BLD_AXa_POSGAIN a), 15, 0⟩

def R.BLD_AXa_IRQ_STATUS (a : Nat) : Reg := ⟨0x81074 + a * 0x400, 32, 0⟩
def F.BLD_AXa_IRQ_STATUS.refused (a : Nat) : Fld := ⟨(R.BLD_AXa_IRQ_STATUS a), 7, 7⟩
def F.BLD_AXa_IRQ_STATUS.bus_cut (a : Nat) : Fld := ⟨(R.BLD_AXa_IRQ_STATUS a), 6, 6⟩
def F.BLD_AXa_IRQ_STATUS.fault (a : Nat) : Fld := ⟨(R.BLD_AXa_IRQ_STATUS a), 5, 5⟩
def F.BLD_AXa_IRQ_STATUS.los (a : Nat) : Fld := ⟨(R.BLD_AXa_IRQ_STATUS a), 4, 4⟩
def F.BLD_AXa_IRQ_STATUS.speed_lost (a : Nat) : Fld := ⟨(R.BLD_AXa_IRQ_STATUS a), 3, 3⟩
def F.BLD_AXa_IRQ_STATUS.at_speed (a : Nat) : Fld := ⟨(R.BLD_AXa_IRQ_STATUS a), 2, 2⟩
def F.BLD_AXa_IRQ_STATUS.move_done (a : Nat) : Fld := ⟨(R.BLD_AXa_IRQ_STATUS a), 1, 1⟩
def F.BLD_AXa_IRQ_STATUS.transferred (a : Nat) : Fld := ⟨(R.BLD_AXa_IRQ_STATUS a), 0, 0⟩

def R.BLD_AXa_IRQ_EN (a : Nat) : Reg := ⟨0x81078 + a * 0x400, 32, 0⟩
def F.BLD_AXa_IRQ_EN.enable (a : Nat) : Fld := ⟨(R.BLD_AXa_IRQ_EN a), 31, 0⟩

def R.BLD_AXa_COUNTS (a : Nat) : Reg := ⟨0x8107c + a * 0x400, 32, 0⟩
def F.BLD_AXa_COUNTS.los (a : Nat) : Fld := ⟨(R.BLD_AXa_COUNTS a), 31, 24⟩
def F.BLD_AXa_COUNTS.start_fail (a : Nat) : Fld := ⟨(R.BLD_AXa_COUNTS a), 23, 16⟩
def F.BLD_AXa_COUNTS.saturated (a : Nat) : Fld := ⟨(R.BLD_AXa_COUNTS a), 15, 0⟩

def R.BLD_AXa_REFUSE (a : Nat) : Reg := ⟨0x81080 + a * 0x400, 32, 0⟩
def F.BLD_AXa_REFUSE.code (a : Nat) : Fld := ⟨(R.BLD_AXa_REFUSE a), 7, 0⟩

def R.BLD_AXa_SRECr (a r : Nat) : Reg := ⟨0x81100 + a * 0x400 + r * 8, 64, 0⟩
def F.BLD_AXa_SRECr.accel (a r : Nat) : Fld := ⟨(R.BLD_AXa_SRECr a r), 47, 32⟩
def F.BLD_AXa_SRECr.speed (a r : Nat) : Fld := ⟨(R.BLD_AXa_SRECr a r), 31, 0⟩

def R.BLD_AXa_MRECr (a r w : Nat) : Reg := ⟨0x81200 + a * 0x400 + r * 0x10 + w * 8, 64, 0⟩
def F.BLD_AXa_MRECr.speed (a r : Nat) : Fld := ⟨(R.BLD_AXa_MRECr a r 0), 63, 32⟩
def F.BLD_AXa_MRECr.distance (a r : Nat) : Fld := ⟨(R.BLD_AXa_MRECr a r 0), 31, 0⟩
def F.BLD_AXa_MRECr.decel (a r : Nat) : Fld := ⟨(R.BLD_AXa_MRECr a r 1), 31, 16⟩
def F.BLD_AXa_MRECr.accel (a r : Nat) : Fld := ⟨(R.BLD_AXa_MRECr a r 1), 15, 0⟩

/-! Registers placed by R305 of 13_steppers_and_motion.md. -/
def R.STP_STATE : Reg := ⟨0x90000, 32, 0⟩
def F.STP_STATE.fault : Fld := ⟨R.STP_STATE, 31, 16⟩
def F.STP_STATE.moving : Fld := ⟨R.STP_STATE, 15, 0⟩

def R.STP_REJECT : Reg := ⟨0x90004, 32, 0⟩
def F.STP_REJECT.count : Fld := ⟨R.STP_REJECT, 15, 0⟩

def R.STP_IRQ_SUMMARY : Reg := ⟨0x90008, 32, 0⟩
def F.STP_IRQ_SUMMARY.axis : Fld := ⟨R.STP_IRQ_SUMMARY, 15, 0⟩

def R.STP_DIN_QUALk (k : Nat) : Reg := ⟨0x90100 + k * 4, 32, 0x4e2⟩
def F.STP_DIN_QUALk.qual_ticks (k : Nat) : Fld := ⟨(R.STP_DIN_QUALk k), 19, 0⟩

def R.STP_AXm_CTRL (m : Nat) : Reg := ⟨0x91000 + m * 0x400, 32, 0⟩
def F.STP_AXm_CTRL.stall_en (m : Nat) : Fld := ⟨(R.STP_AXm_CTRL m), 3, 3⟩
def F.STP_AXm_CTRL.stall_action (m : Nat) : Fld := ⟨(R.STP_AXm_CTRL m), 2, 2⟩
def F.STP_AXm_CTRL.invert (m : Nat) : Fld := ⟨(R.STP_AXm_CTRL m), 0, 0⟩

def R.STP_AXm_CMD (m : Nat) : Reg := ⟨0x91004 + m * 0x400, 32, 0⟩
def F.STP_AXm_CMD.op (m : Nat) : Fld := ⟨(R.STP_AXm_CMD m), 31, 28⟩
def F.STP_AXm_CMD.record (m : Nat) : Fld := ⟨(R.STP_AXm_CMD m), 2, 0⟩

def R.STP_AXm_STATUS (m : Nat) : Reg := ⟨0x91008 + m * 0x400, 32, 0x80000⟩
def F.STP_AXm_STATUS.state (m : Nat) : Fld := ⟨(R.STP_AXm_STATUS m), 31, 28⟩
def F.STP_AXm_STATUS.shadow_pending (m : Nat) : Fld := ⟨(R.STP_AXm_STATUS m), 27, 27⟩
def F.STP_AXm_STATUS.move_active (m : Nat) : Fld := ⟨(R.STP_AXm_STATUS m), 26, 26⟩
def F.STP_AXm_STATUS.too_late_to_abort (m : Nat) : Fld := ⟨(R.STP_AXm_STATUS m), 25, 25⟩
def F.STP_AXm_STATUS.pos_lost (m : Nat) : Fld := ⟨(R.STP_AXm_STATUS m), 24, 24⟩
def F.STP_AXm_STATUS.homed (m : Nat) : Fld := ⟨(R.STP_AXm_STATUS m), 23, 23⟩
def F.STP_AXm_STATUS.at_limf (m : Nat) : Fld := ⟨(R.STP_AXm_STATUS m), 22, 22⟩
def F.STP_AXm_STATUS.at_limr (m : Nat) : Fld := ⟨(R.STP_AXm_STATUS m), 21, 21⟩
def F.STP_AXm_STATUS.latched (m : Nat) : Fld := ⟨(R.STP_AXm_STATUS m), 20, 20⟩
def F.STP_AXm_STATUS.res (m : Nat) : Fld := ⟨(R.STP_AXm_STATUS m), 19, 16⟩
def F.STP_AXm_STATUS.home_phase (m : Nat) : Fld := ⟨(R.STP_AXm_STATUS m), 15, 14⟩

def R.STP_AXm_COMMIT (m : Nat) : Reg := ⟨0x9100c + m * 0x400, 32, 0⟩
def F.STP_AXm_COMMIT.commit (m : Nat) : Fld := ⟨(R.STP_AXm_COMMIT m), 0, 0⟩

def R.STP_AXm_POS (m : Nat) : Reg := ⟨0x91010 + m * 0x400, 64, 0⟩
def F.STP_AXm_POS.pos (m : Nat) : Fld := ⟨(R.STP_AXm_POS m), 63, 0⟩

def R.STP_AXm_TARGET (m : Nat) : Reg := ⟨0x91018 + m * 0x400, 64, 0⟩
def F.STP_AXm_TARGET.t_c (m : Nat) : Fld := ⟨(R.STP_AXm_TARGET m), 63, 0⟩

def R.STP_AXm_REMAIN (m : Nat) : Reg := ⟨0x91020 + m * 0x400, 32, 0⟩
def F.STP_AXm_REMAIN.remain (m : Nat) : Fld := ⟨(R.STP_AXm_REMAIN m), 31, 0⟩

def R.STP_AXm_SPEED (m : Nat) : Reg := ⟨0x91024 + m * 0x400, 32, 0⟩
def F.STP_AXm_SPEED.speed (m : Nat) : Fld := ⟨(R.STP_AXm_SPEED m), 31, 0⟩

def R.STP_AXm_LOAD (m : Nat) : Reg := ⟨0x91028 + m * 0x400, 32, 0⟩
def F.STP_AXm_LOAD.valid (m : Nat) : Fld := ⟨(R.STP_AXm_LOAD m), 31, 31⟩
def F.STP_AXm_LOAD.delta (m : Nat) : Fld := ⟨(R.STP_AXm_LOAD m), 15, 0⟩

def R.STP_AXm_CURRENT (m : Nat) : Reg := ⟨0x9102c + m * 0x400, 32, 0x2000100⟩
def F.STP_AXm_CURRENT.run_current (m : Nat) : Fld := ⟨(R.STP_AXm_CURRENT m), 25, 16⟩
def F.STP_AXm_CURRENT.hold_current (m : Nat) : Fld := ⟨(R.STP_AXm_CURRENT m), 9, 0⟩

def R.STP_AXm_CHOP (m : Nat) : Reg := ⟨0x91030 + m * 0x400, 32, 0x50642832⟩
def F.STP_AXm_CHOP.t_off (m : Nat) : Fld := ⟨(R.STP_AXm_CHOP m), 31, 24⟩
def F.STP_AXm_CHOP.t_blank (m : Nat) : Fld := ⟨(R.STP_AXm_CHOP m), 23, 16⟩
def F.STP_AXm_CHOP.mix_rise (m : Nat) : Fld := ⟨(R.STP_AXm_CHOP m), 15, 12⟩
def F.STP_AXm_CHOP.mix_fall (m : Nat) : Fld := ⟨(R.STP_AXm_CHOP m), 11, 8⟩
def F.STP_AXm_CHOP.hold_delay (m : Nat) : Fld := ⟨(R.STP_AXm_CHOP m), 7, 0⟩

def R.STP_AXm_USTEP (m : Nat) : Reg := ⟨0x91034 + m * 0x400, 32, 0x80⟩
def F.STP_AXm_USTEP.ustep_max (m : Nat) : Fld := ⟨(R.STP_AXm_USTEP m), 31, 8⟩
def F.STP_AXm_USTEP.res_max (m : Nat) : Fld := ⟨(R.STP_AXm_USTEP m), 7, 4⟩
def F.STP_AXm_USTEP.res_min (m : Nat) : Fld := ⟨(R.STP_AXm_USTEP m), 3, 0⟩

def R.STP_AXm_MOTOR (m : Nat) : Reg := ⟨0x91038 + m * 0x400, 32, 0⟩
def F.STP_AXm_MOTOR.rs (m : Nat) : Fld := ⟨(R.STP_AXm_MOTOR m), 31, 16⟩
def F.STP_AXm_MOTOR.ls (m : Nat) : Fld := ⟨(R.STP_AXm_MOTOR m), 15, 0⟩

def R.STP_AXm_STALL (m : Nat) : Reg := ⟨0x9103c + m * 0x400, 32, 0x31c71440⟩
def F.STP_AXm_STALL.stall_angle (m : Nat) : Fld := ⟨(R.STP_AXm_STALL m), 31, 16⟩
def F.STP_AXm_STALL.stall_min (m : Nat) : Fld := ⟨(R.STP_AXm_STALL m), 15, 8⟩
def F.STP_AXm_STALL.stall_count (m : Nat) : Fld := ⟨(R.STP_AXm_STALL m), 7, 4⟩

def R.STP_AXm_LIMCFG (m : Nat) : Reg := ⟨0x91040 + m * 0x400, 32, 0x3d090⟩
def F.STP_AXm_LIMCFG.limr_level (m : Nat) : Fld := ⟨(R.STP_AXm_LIMCFG m), 21, 21⟩
def F.STP_AXm_LIMCFG.limf_level (m : Nat) : Fld := ⟨(R.STP_AXm_LIMCFG m), 20, 20⟩
def F.STP_AXm_LIMCFG.qual_ticks (m : Nat) : Fld := ⟨(R.STP_AXm_LIMCFG m), 19, 0⟩

def R.STP_AXm_HOMECFG (m : Nat) : Reg := ⟨0x91044 + m * 0x400, 32, 0x80640200⟩
def F.STP_AXm_HOMECFG.home_dir (m : Nat) : Fld := ⟨(R.STP_AXm_HOMECFG m), 31, 31⟩
def F.STP_AXm_HOMECFG.home_speed (m : Nat) : Fld := ⟨(R.STP_AXm_HOMECFG m), 30, 16⟩
def F.STP_AXm_HOMECFG.release (m : Nat) : Fld := ⟨(R.STP_AXm_HOMECFG m), 15, 0⟩

def R.STP_AXm_HOMEPOS (m : Nat) : Reg := ⟨0x91048 + m * 0x400, 32, 0⟩
def F.STP_AXm_HOMEPOS.home_pos (m : Nat) : Fld := ⟨(R.STP_AXm_HOMEPOS m), 31, 0⟩

def R.STP_AXm_HOMEMAX (m : Nat) : Reg := ⟨0x9104c + m * 0x400, 32, 0x100000⟩
def F.STP_AXm_HOMEMAX.home_max (m : Nat) : Fld := ⟨(R.STP_AXm_HOMEMAX m), 31, 0⟩

def R.STP_AXm_RATES (m : Nat) : Reg := ⟨0x91050 + m * 0x400, 32, 0x6407d0⟩
def F.STP_AXm_RATES.home_accel (m : Nat) : Fld := ⟨(R.STP_AXm_RATES m), 31, 16⟩
def F.STP_AXm_RATES.stop_rate (m : Nat) : Fld := ⟨(R.STP_AXm_RATES m), 15, 0⟩

def R.STP_AXm_LATCH_POS (m : Nat) : Reg := ⟨0x91060 + m * 0x400, 64, 0⟩
def F.STP_AXm_LATCH_POS.pos (m : Nat) : Fld := ⟨(R.STP_AXm_LATCH_POS m), 63, 0⟩

def R.STP_AXm_LATCH_TIME (m : Nat) : Reg := ⟨0x91068 + m * 0x400, 64, 0⟩
def F.STP_AXm_LATCH_TIME.ticks (m : Nat) : Fld := ⟨(R.STP_AXm_LATCH_TIME m), 63, 0⟩

def R.STP_AXm_IRQ_STATUS (m : Nat) : Reg := ⟨0x91070 + m * 0x400, 32, 0⟩
def F.STP_AXm_IRQ_STATUS.refused (m : Nat) : Fld := ⟨(R.STP_AXm_IRQ_STATUS m), 8, 8⟩
def F.STP_AXm_IRQ_STATUS.coil_fault (m : Nat) : Fld := ⟨(R.STP_AXm_IRQ_STATUS m), 7, 7⟩
def F.STP_AXm_IRQ_STATUS.limit (m : Nat) : Fld := ⟨(R.STP_AXm_IRQ_STATUS m), 6, 6⟩
def F.STP_AXm_IRQ_STATUS.stall (m : Nat) : Fld := ⟨(R.STP_AXm_IRQ_STATUS m), 5, 5⟩
def F.STP_AXm_IRQ_STATUS.home_failed (m : Nat) : Fld := ⟨(R.STP_AXm_IRQ_STATUS m), 4, 4⟩
def F.STP_AXm_IRQ_STATUS.homed (m : Nat) : Fld := ⟨(R.STP_AXm_IRQ_STATUS m), 3, 3⟩
def F.STP_AXm_IRQ_STATUS.stopped (m : Nat) : Fld := ⟨(R.STP_AXm_IRQ_STATUS m), 2, 2⟩
def F.STP_AXm_IRQ_STATUS.move_done (m : Nat) : Fld := ⟨(R.STP_AXm_IRQ_STATUS m), 1, 1⟩
def F.STP_AXm_IRQ_STATUS.transferred (m : Nat) : Fld := ⟨(R.STP_AXm_IRQ_STATUS m), 0, 0⟩

def R.STP_AXm_IRQ_EN (m : Nat) : Reg := ⟨0x91074 + m * 0x400, 32, 0⟩
def F.STP_AXm_IRQ_EN.enable (m : Nat) : Fld := ⟨(R.STP_AXm_IRQ_EN m), 31, 0⟩

def R.STP_AXm_COUNTS (m : Nat) : Reg := ⟨0x91078 + m * 0x400, 32, 0⟩
def F.STP_AXm_COUNTS.stalls (m : Nat) : Fld := ⟨(R.STP_AXm_COUNTS m), 31, 24⟩
def F.STP_AXm_COUNTS.chatter (m : Nat) : Fld := ⟨(R.STP_AXm_COUNTS m), 23, 8⟩
def F.STP_AXm_COUNTS.coil (m : Nat) : Fld := ⟨(R.STP_AXm_COUNTS m), 7, 0⟩

def R.STP_AXm_REFUSE (m : Nat) : Reg := ⟨0x9107c + m * 0x400, 32, 0⟩
def F.STP_AXm_REFUSE.code (m : Nat) : Fld := ⟨(R.STP_AXm_REFUSE m), 7, 0⟩

def R.STP_AXm_MRECr (m r w : Nat) : Reg := ⟨0x91200 + m * 0x400 + r * 0x10 + w * 8, 64, 0⟩
def F.STP_AXm_MRECr.speed (m r : Nat) : Fld := ⟨(R.STP_AXm_MRECr m r 0), 63, 32⟩
def F.STP_AXm_MRECr.distance (m r : Nat) : Fld := ⟨(R.STP_AXm_MRECr m r 0), 31, 0⟩
def F.STP_AXm_MRECr.absolute (m r : Nat) : Fld := ⟨(R.STP_AXm_MRECr m r 1), 32, 32⟩
def F.STP_AXm_MRECr.decel (m r : Nat) : Fld := ⟨(R.STP_AXm_MRECr m r 1), 31, 16⟩
def F.STP_AXm_MRECr.accel (m r : Nat) : Fld := ⟨(R.STP_AXm_MRECr m r 1), 15, 0⟩

/-! Registers placed by R319 of 14_control_engine.md. -/
def R.LOOP_RUNNING : Reg := ⟨0xa0000, 64, 0⟩
def F.LOOP_RUNNING.slots : Fld := ⟨R.LOOP_RUNNING, 63, 0⟩

def R.LOOP_INBAND : Reg := ⟨0xa0008, 64, 0⟩
def F.LOOP_INBAND.slots : Fld := ⟨R.LOOP_INBAND, 63, 0⟩

def R.LOOP_SATURATED : Reg := ⟨0xa0010, 64, 0⟩
def F.LOOP_SATURATED.slots : Fld := ⟨R.LOOP_SATURATED, 63, 0⟩

def R.LOOP_IRQ_SUMMARY : Reg := ⟨0xa0018, 64, 0⟩
def F.LOOP_IRQ_SUMMARY.slots : Fld := ⟨R.LOOP_IRQ_SUMMARY, 63, 0⟩

def R.LOOP_REJECT : Reg := ⟨0xa0020, 32, 0⟩
def F.LOOP_REJECT.count : Fld := ⟨R.LOOP_REJECT, 15, 0⟩

def R.LOOP_GRPg_STATUS (g : Nat) : Reg := ⟨0xa0040 + g * 4, 32, 0x3f0000⟩
def F.LOOP_GRPg_STATUS.valid (g : Nat) : Fld := ⟨(R.LOOP_GRPg_STATUS g), 31, 31⟩
def F.LOOP_GRPg_STATUS.winner (g : Nat) : Fld := ⟨(R.LOOP_GRPg_STATUS g), 21, 16⟩
def F.LOOP_GRPg_STATUS.applied (g : Nat) : Fld := ⟨(R.LOOP_GRPg_STATUS g), 15, 0⟩

def R.LOOP_OUTo_CFG (o : Nat) : Reg := ⟨0xa0080 + o * 4, 32, 0x32⟩
def F.LOOP_OUTo_CFG.invert (o : Nat) : Fld := ⟨(R.LOOP_OUTo_CFG o), 31, 31⟩
def F.LOOP_OUTo_CFG.period_us (o : Nat) : Fld := ⟨(R.LOOP_OUTo_CFG o), 15, 0⟩

def R.LOOP_OUTo_VALUE (o : Nat) : Reg := ⟨0xa00c0 + o * 4, 32, 0x80000000⟩
def F.LOOP_OUTo_VALUE.source (o : Nat) : Fld := ⟨(R.LOOP_OUTo_VALUE o), 31, 30⟩
def F.LOOP_OUTo_VALUE.value (o : Nat) : Fld := ⟨(R.LOOP_OUTo_VALUE o), 15, 0⟩

def R.LOOP_Sk_CMD (k : Nat) : Reg := ⟨0xa1000 + k * 0x40, 32, 0⟩
def F.LOOP_Sk_CMD.op (k : Nat) : Fld := ⟨(R.LOOP_Sk_CMD k), 31, 28⟩
def F.LOOP_Sk_CMD.record (k : Nat) : Fld := ⟨(R.LOOP_Sk_CMD k), 2, 0⟩

def R.LOOP_Sk_STATUS (k : Nat) : Reg := ⟨0xa1004 + k * 0x40, 32, 0⟩
def F.LOOP_Sk_STATUS.state (k : Nat) : Fld := ⟨(R.LOOP_Sk_STATUS k), 31, 28⟩
def F.LOOP_Sk_STATUS.shadow_pending (k : Nat) : Fld := ⟨(R.LOOP_Sk_STATUS k), 27, 27⟩
def F.LOOP_Sk_STATUS.in_band (k : Nat) : Fld := ⟨(R.LOOP_Sk_STATUS k), 26, 26⟩
def F.LOOP_Sk_STATUS.ramp_done (k : Nat) : Fld := ⟨(R.LOOP_Sk_STATUS k), 25, 25⟩
def F.LOOP_Sk_STATUS.sat_high (k : Nat) : Fld := ⟨(R.LOOP_Sk_STATUS k), 24, 24⟩
def F.LOOP_Sk_STATUS.sat_low (k : Nat) : Fld := ⟨(R.LOOP_Sk_STATUS k), 23, 23⟩
def F.LOOP_Sk_STATUS.loser (k : Nat) : Fld := ⟨(R.LOOP_Sk_STATUS k), 22, 22⟩
def F.LOOP_Sk_STATUS.implausible (k : Nat) : Fld := ⟨(R.LOOP_Sk_STATUS k), 21, 21⟩

def R.LOOP_Sk_COMMIT (k : Nat) : Reg := ⟨0xa1008 + k * 0x40, 32, 0⟩
def F.LOOP_Sk_COMMIT.commit (k : Nat) : Fld := ⟨(R.LOOP_Sk_COMMIT k), 0, 0⟩

def R.LOOP_Sk_SETPOINT (k : Nat) : Reg := ⟨0xa100c + k * 0x40, 32, 0⟩
def F.LOOP_Sk_SETPOINT.rate (k : Nat) : Fld := ⟨(R.LOOP_Sk_SETPOINT k), 31, 16⟩
def F.LOOP_Sk_SETPOINT.target (k : Nat) : Fld := ⟨(R.LOOP_Sk_SETPOINT k), 15, 0⟩

def R.LOOP_Sk_WORKING (k : Nat) : Reg := ⟨0xa1010 + k * 0x40, 32, 0⟩
def F.LOOP_Sk_WORKING.rw (k : Nat) : Fld := ⟨(R.LOOP_Sk_WORKING k), 23, 0⟩

def R.LOOP_Sk_FEEDBACK (k : Nat) : Reg := ⟨0xa1014 + k * 0x40, 32, 0⟩
def F.LOOP_Sk_FEEDBACK.yf (k : Nat) : Fld := ⟨(R.LOOP_Sk_FEEDBACK k), 31, 16⟩
def F.LOOP_Sk_FEEDBACK.y (k : Nat) : Fld := ⟨(R.LOOP_Sk_FEEDBACK k), 15, 0⟩

def R.LOOP_Sk_OUTPUT (k : Nat) : Reg := ⟨0xa1018 + k * 0x40, 32, 0⟩
def F.LOOP_Sk_OUTPUT.applied (k : Nat) : Fld := ⟨(R.LOOP_Sk_OUTPUT k), 31, 16⟩
def F.LOOP_Sk_OUTPUT.u (k : Nat) : Fld := ⟨(R.LOOP_Sk_OUTPUT k), 15, 0⟩

def R.LOOP_Sk_MODEL (k : Nat) : Reg := ⟨0xa101c + k * 0x40, 32, 0⟩
def F.LOOP_Sk_MODEL.residual (k : Nat) : Fld := ⟨(R.LOOP_Sk_MODEL k), 31, 16⟩
def F.LOOP_Sk_MODEL.yhat (k : Nat) : Fld := ⟨(R.LOOP_Sk_MODEL k), 15, 0⟩

def R.LOOP_Sk_IRQ_STATUS (k : Nat) : Reg := ⟨0xa1020 + k * 0x40, 32, 0⟩
def F.LOOP_Sk_IRQ_STATUS.refused (k : Nat) : Fld := ⟨(R.LOOP_Sk_IRQ_STATUS k), 5, 5⟩
def F.LOOP_Sk_IRQ_STATUS.saturation (k : Nat) : Fld := ⟨(R.LOOP_Sk_IRQ_STATUS k), 4, 4⟩
def F.LOOP_Sk_IRQ_STATUS.implausible (k : Nat) : Fld := ⟨(R.LOOP_Sk_IRQ_STATUS k), 3, 3⟩
def F.LOOP_Sk_IRQ_STATUS.left_band (k : Nat) : Fld := ⟨(R.LOOP_Sk_IRQ_STATUS k), 2, 2⟩
def F.LOOP_Sk_IRQ_STATUS.in_band (k : Nat) : Fld := ⟨(R.LOOP_Sk_IRQ_STATUS k), 1, 1⟩
def F.LOOP_Sk_IRQ_STATUS.transferred (k : Nat) : Fld := ⟨(R.LOOP_Sk_IRQ_STATUS k), 0, 0⟩

def R.LOOP_Sk_IRQ_EN (k : Nat) : Reg := ⟨0xa1024 + k * 0x40, 32, 0⟩
def F.LOOP_Sk_IRQ_EN.enable (k : Nat) : Fld := ⟨(R.LOOP_Sk_IRQ_EN k), 31, 0⟩

def R.LOOP_Sk_COUNTS (k : Nat) : Reg := ⟨0xa1028 + k * 0x40, 32, 0⟩
def F.LOOP_Sk_COUNTS.implausible (k : Nat) : Fld := ⟨(R.LOOP_Sk_COUNTS k), 31, 16⟩
def F.LOOP_Sk_COUNTS.saturation (k : Nat) : Fld := ⟨(R.LOOP_Sk_COUNTS k), 15, 0⟩

def R.LOOP_Sk_REFUSE (k : Nat) : Reg := ⟨0xa102c + k * 0x40, 32, 0⟩
def F.LOOP_Sk_REFUSE.code (k : Nat) : Fld := ⟨(R.LOOP_Sk_REFUSE k), 7, 0⟩

/-! Registers placed by R332 of 15_thermal.md. -/
def R.TMP_CMD : Reg := ⟨0xb0000, 32, 0⟩
def F.TMP_CMD.clear_max : Fld := ⟨R.TMP_CMD, 0, 0⟩

def R.TMP_STATUS : Reg := ⟨0xb0004, 32, 0⟩
def F.TMP_STATUS.cut_latched : Fld := ⟨R.TMP_STATUS, 31, 31⟩
def F.TMP_STATUS.throttled : Fld := ⟨R.TMP_STATUS, 30, 30⟩

def R.TMP_WARN : Reg := ⟨0xb0008, 32, 0⟩
def F.TMP_WARN.sensors : Fld := ⟨R.TMP_WARN, 23, 0⟩

def R.TMP_THROTTLE : Reg := ⟨0xb000c, 32, 0⟩
def F.TMP_THROTTLE.sensors : Fld := ⟨R.TMP_THROTTLE, 23, 0⟩

def R.TMP_SHUTDOWN : Reg := ⟨0xb0010, 32, 0⟩
def F.TMP_SHUTDOWN.sensors : Fld := ⟨R.TMP_SHUTDOWN, 23, 0⟩

def R.TMP_FAULTED : Reg := ⟨0xb0014, 32, 0⟩
def F.TMP_FAULTED.sensors : Fld := ⟨R.TMP_FAULTED, 23, 0⟩

def R.TMP_IRQ_STATUS : Reg := ⟨0xb0018, 32, 0⟩
def F.TMP_IRQ_STATUS.pair : Fld := ⟨R.TMP_IRQ_STATUS, 5, 5⟩
def F.TMP_IRQ_STATUS.fault : Fld := ⟨R.TMP_IRQ_STATUS, 4, 4⟩
def F.TMP_IRQ_STATUS.shutdown : Fld := ⟨R.TMP_IRQ_STATUS, 3, 3⟩
def F.TMP_IRQ_STATUS.throttle : Fld := ⟨R.TMP_IRQ_STATUS, 2, 2⟩
def F.TMP_IRQ_STATUS.warn : Fld := ⟨R.TMP_IRQ_STATUS, 1, 1⟩
def F.TMP_IRQ_STATUS.normal : Fld := ⟨R.TMP_IRQ_STATUS, 0, 0⟩

def R.TMP_IRQ_EN : Reg := ⟨0xb001c, 32, 0⟩
def F.TMP_IRQ_EN.enable : Fld := ⟨R.TMP_IRQ_EN, 31, 0⟩

def R.TMP_PAIR_BAD : Reg := ⟨0xb0020, 64, 0⟩
def F.TMP_PAIR_BAD.pairs : Fld := ⟨R.TMP_PAIR_BAD, 63, 0⟩

def R.TMP_Ss_CFG (s : Nat) : Reg := ⟨0xb0100 + s * 0x20, 32, 0x3214⟩
def F.TMP_Ss_CFG.enable (s : Nat) : Fld := ⟨(R.TMP_Ss_CFG s), 31, 31⟩
def F.TMP_Ss_CFG.cut_en (s : Nat) : Fld := ⟨(R.TMP_Ss_CFG s), 30, 30⟩
def F.TMP_Ss_CFG.fault_as_shutdown (s : Nat) : Fld := ⟨(R.TMP_Ss_CFG s), 29, 29⟩
def F.TMP_Ss_CFG.throttle_chan (s : Nat) : Fld := ⟨(R.TMP_Ss_CFG s), 23, 16⟩
def F.TMP_Ss_CFG.near_margin (s : Nat) : Fld := ⟨(R.TMP_Ss_CFG s), 15, 8⟩
def F.TMP_Ss_CFG.hyst (s : Nat) : Fld := ⟨(R.TMP_Ss_CFG s), 7, 0⟩

def R.TMP_Ss_LEVELS (s : Nat) : Reg := ⟨0xb0104 + s * 0x20, 32, if s < 8 then 0x3e803b6 else 0x7fff7fff⟩
def F.TMP_Ss_LEVELS.throttle (s : Nat) : Fld := ⟨(R.TMP_Ss_LEVELS s), 31, 16⟩
def F.TMP_Ss_LEVELS.warn (s : Nat) : Fld := ⟨(R.TMP_Ss_LEVELS s), 15, 0⟩

def R.TMP_Ss_LIMIT (s : Nat) : Reg := ⟨0xb0108 + s * 0x20, 32, if s < 8 then 0xa041a else 0xa7fff⟩
def F.TMP_Ss_LIMIT.slow_ms (s : Nat) : Fld := ⟨(R.TMP_Ss_LIMIT s), 31, 16⟩
def F.TMP_Ss_LIMIT.shutdown (s : Nat) : Fld := ⟨(R.TMP_Ss_LIMIT s), 15, 0⟩

def R.TMP_Ss_VALUE (s : Nat) : Reg := ⟨0xb010c + s * 0x20, 32, 0x80000000⟩
def F.TMP_Ss_VALUE.max (s : Nat) : Fld := ⟨(R.TMP_Ss_VALUE s), 31, 16⟩
def F.TMP_Ss_VALUE.temp (s : Nat) : Fld := ⟨(R.TMP_Ss_VALUE s), 15, 0⟩

def R.TMP_Ss_STATE (s : Nat) : Reg := ⟨0xb0110 + s * 0x20, 32, 0⟩
def F.TMP_Ss_STATE.state (s : Nat) : Fld := ⟨(R.TMP_Ss_STATE s), 31, 29⟩
def F.TMP_Ss_STATE.fast (s : Nat) : Fld := ⟨(R.TMP_Ss_STATE s), 28, 28⟩
def F.TMP_Ss_STATE.code (s : Nat) : Fld := ⟨(R.TMP_Ss_STATE s), 13, 0⟩

def R.TMP_Ss_COUNTS (s : Nat) : Reg := ⟨0xb0114 + s * 0x20, 32, 0⟩
def F.TMP_Ss_COUNTS.shutdowns (s : Nat) : Fld := ⟨(R.TMP_Ss_COUNTS s), 31, 24⟩
def F.TMP_Ss_COUNTS.throttles (s : Nat) : Fld := ⟨(R.TMP_Ss_COUNTS s), 23, 16⟩
def F.TMP_Ss_COUNTS.warnings (s : Nat) : Fld := ⟨(R.TMP_Ss_COUNTS s), 15, 8⟩
def F.TMP_Ss_COUNTS.faults (s : Nat) : Fld := ⟨(R.TMP_Ss_COUNTS s), 7, 0⟩

def R.TMP_TINj_LUTi (j i : Nat) : Reg := ⟨0xb1000 + j * 0x80 + i * 4, 32, 0⟩
def F.TMP_TINj_LUTi.knot (j i : Nat) : Fld := ⟨(R.TMP_TINj_LUTi j i), 15, 0⟩

/-! Registers placed by R348 of 16_power.md. -/
def R.PWR_CMD : Reg := ⟨0xc0000, 32, 0⟩
def F.PWR_CMD.key : Fld := ⟨R.PWR_CMD, 31, 16⟩
def F.PWR_CMD.wake : Fld := ⟨R.PWR_CMD, 1, 1⟩
def F.PWR_CMD.standby : Fld := ⟨R.PWR_CMD, 0, 0⟩

def R.PWR_STATE : Reg := ⟨0xc0004, 32, 0x101f0000⟩
def F.PWR_STATE.state : Fld := ⟨R.PWR_STATE, 31, 28⟩
def F.PWR_STATE.purpose : Fld := ⟨R.PWR_STATE, 27, 26⟩
def F.PWR_STATE.pending : Fld := ⟨R.PWR_STATE, 25, 25⟩
def F.PWR_STATE.entry : Fld := ⟨R.PWR_STATE, 20, 16⟩
def F.PWR_STATE.elapsed_us : Fld := ⟨R.PWR_STATE, 15, 0⟩

def R.PWR_STATUS : Reg := ⟨0xc0008, 32, 0x10000000⟩
def F.PWR_STATUS.pfail_active : Fld := ⟨R.PWR_STATUS, 31, 31⟩
def F.PWR_STATUS.shutdown : Fld := ⟨R.PWR_STATUS, 30, 30⟩
def F.PWR_STATUS.park_restart : Fld := ⟨R.PWR_STATUS, 29, 29⟩
def F.PWR_STATUS.pfail_pin : Fld := ⟨R.PWR_STATUS, 28, 28⟩
def F.PWR_STATUS.pg : Fld := ⟨R.PWR_STATUS, 15, 8⟩
def F.PWR_STATUS.seq_en : Fld := ⟨R.PWR_STATUS, 7, 0⟩

def R.PWR_PFAIL_CFG : Reg := ⟨0xc000c, 32, 0xc00a0064⟩
def F.PWR_PFAIL_CFG.pfail_en : Fld := ⟨R.PWR_PFAIL_CFG, 31, 31⟩
def F.PWR_PFAIL_CFG.start_on_idle : Fld := ⟨R.PWR_PFAIL_CFG, 30, 30⟩
def F.PWR_PFAIL_CFG.pfail_qual_us : Fld := ⟨R.PWR_PFAIL_CFG, 23, 16⟩
def F.PWR_PFAIL_CFG.holdup_ms : Fld := ⟨R.PWR_PFAIL_CFG, 15, 0⟩

def R.PWR_CHAN_CMD : Reg := ⟨0xc0010, 32, 0⟩
def F.PWR_CHAN_CMD.force : Fld := ⟨R.PWR_CHAN_CMD, 16, 16⟩
def F.PWR_CHAN_CMD.off : Fld := ⟨R.PWR_CHAN_CMD, 15, 8⟩
def F.PWR_CHAN_CMD.on : Fld := ⟨R.PWR_CHAN_CMD, 7, 0⟩

def R.PWR_IRQ_STATUS : Reg := ⟨0xc0014, 32, 0⟩
def F.PWR_IRQ_STATUS.refused : Fld := ⟨R.PWR_IRQ_STATUS, 6, 6⟩
def F.PWR_IRQ_STATUS.step_failed : Fld := ⟨R.PWR_IRQ_STATUS, 5, 5⟩
def F.PWR_IRQ_STATUS.pg_lost : Fld := ⟨R.PWR_IRQ_STATUS, 4, 4⟩
def F.PWR_IRQ_STATUS.shutdown : Fld := ⟨R.PWR_IRQ_STATUS, 3, 3⟩
def F.PWR_IRQ_STATUS.pfail_clear : Fld := ⟨R.PWR_IRQ_STATUS, 2, 2⟩
def F.PWR_IRQ_STATUS.pfail : Fld := ⟨R.PWR_IRQ_STATUS, 1, 1⟩
def F.PWR_IRQ_STATUS.sequence_done : Fld := ⟨R.PWR_IRQ_STATUS, 0, 0⟩

def R.PWR_IRQ_EN : Reg := ⟨0xc0018, 32, 0⟩
def F.PWR_IRQ_EN.enable : Fld := ⟨R.PWR_IRQ_EN, 31, 0⟩

def R.PWR_COUNTS : Reg := ⟨0xc001c, 32, 0⟩
def F.PWR_COUNTS.pfail : Fld := ⟨R.PWR_COUNTS, 31, 24⟩
def F.PWR_COUNTS.shutdowns : Fld := ⟨R.PWR_COUNTS, 23, 16⟩
def F.PWR_COUNTS.step_fail : Fld := ⟨R.PWR_COUNTS, 15, 8⟩
def F.PWR_COUNTS.reject : Fld := ⟨R.PWR_COUNTS, 7, 0⟩

def R.PWR_LAST_SHUTDOWN : Reg := ⟨0xc0020, 32, 0⟩
def F.PWR_LAST_SHUTDOWN.us : Fld := ⟨R.PWR_LAST_SHUTDOWN, 31, 0⟩

def R.PWR_DOMAINS : Reg := ⟨0xc0024, 32, 0⟩
def F.PWR_DOMAINS.rails : Fld := ⟨R.PWR_DOMAINS, 23, 16⟩
def F.PWR_DOMAINS.domains : Fld := ⟨R.PWR_DOMAINS, 11, 0⟩

def R.PWR_PFAIL_RETURN : Reg := ⟨0xc0028, 32, 0x64⟩
def F.PWR_PFAIL_RETURN.pfail_return_ms : Fld := ⟨R.PWR_PFAIL_RETURN, 15, 0⟩

def R.PWR_STEP_TIMEi (i : Nat) : Reg := ⟨0xc0040 + i * 4, 32, 0xffffffff⟩
def F.PWR_STEP_TIMEi.us (i : Nat) : Fld := ⟨(R.PWR_STEP_TIMEi i), 31, 0⟩

/-! Registers placed by R362 of 17_clocks.md. -/
def R.CLK_STATUS : Reg := ⟨0xd0000, 32, 0x40070000⟩
def F.CLK_STATUS.refclk_good : Fld := ⟨R.CLK_STATUS, 31, 31⟩
def F.CLK_STATUS.on_rc : Fld := ⟨R.CLK_STATUS, 30, 30⟩
def F.CLK_STATUS.motion_fb : Fld := ⟨R.CLK_STATUS, 18, 18⟩
def F.CLK_STATUS.tbase_fb : Fld := ⟨R.CLK_STATUS, 17, 17⟩
def F.CLK_STATUS.core_fb : Fld := ⟨R.CLK_STATUS, 16, 16⟩
def F.CLK_STATUS.locked : Fld := ⟨R.CLK_STATUS, 4, 0⟩

def R.CLK_REF_CFG : Reg := ⟨0xd0004, 32, 0⟩
def F.CLK_REF_CFG.serdes_mode : Fld := ⟨R.CLK_REF_CFG, 7, 6⟩
def F.CLK_REF_CFG.mem_mode : Fld := ⟨R.CLK_REF_CFG, 5, 4⟩
def F.CLK_REF_CFG.tbase_mode : Fld := ⟨R.CLK_REF_CFG, 3, 2⟩
def F.CLK_REF_CFG.core_mode : Fld := ⟨R.CLK_REF_CFG, 1, 0⟩

def R.CLK_EVENTS : Reg := ⟨0xd0008, 32, 0⟩
def F.CLK_EVENTS.relock_slow : Fld := ⟨R.CLK_EVENTS, 5, 5⟩
def F.CLK_EVENTS.monitor : Fld := ⟨R.CLK_EVENTS, 4, 4⟩
def F.CLK_EVENTS.refclk_lost : Fld := ⟨R.CLK_EVENTS, 3, 3⟩
def F.CLK_EVENTS.fallback : Fld := ⟨R.CLK_EVENTS, 2, 2⟩
def F.CLK_EVENTS.relocked : Fld := ⟨R.CLK_EVENTS, 1, 1⟩
def F.CLK_EVENTS.refclk_up : Fld := ⟨R.CLK_EVENTS, 0, 0⟩

def R.CLK_LKMON_CFG : Reg := ⟨0xd000c, 32, 0⟩
def F.CLK_LKMON_CFG.enable : Fld := ⟨R.CLK_LKMON_CFG, 31, 31⟩
def F.CLK_LKMON_CFG.select : Fld := ⟨R.CLK_LKMON_CFG, 4, 0⟩

def R.CLK_MON_STATUS : Reg := ⟨0xd0010, 32, 1⟩
def F.CLK_MON_STATUS.pixel : Fld := ⟨R.CLK_MON_STATUS, 14, 7⟩
def F.CLK_MON_STATUS.pcie : Fld := ⟨R.CLK_MON_STATUS, 6, 6⟩
def F.CLK_MON_STATUS.serdes : Fld := ⟨R.CLK_MON_STATUS, 5, 5⟩
def F.CLK_MON_STATUS.mem : Fld := ⟨R.CLK_MON_STATUS, 4, 4⟩
def F.CLK_MON_STATUS.motion : Fld := ⟨R.CLK_MON_STATUS, 3, 3⟩
def F.CLK_MON_STATUS.tbase : Fld := ⟨R.CLK_MON_STATUS, 2, 2⟩
def F.CLK_MON_STATUS.core : Fld := ⟨R.CLK_MON_STATUS, 1, 1⟩
def F.CLK_MON_STATUS.refclk : Fld := ⟨R.CLK_MON_STATUS, 0, 0⟩

def R.CLK_REJECT : Reg := ⟨0xd0014, 32, 0⟩
def F.CLK_REJECT.count : Fld := ⟨R.CLK_REJECT, 15, 0⟩

def R.CLK_LOOPi_COUNTS (i : Nat) : Reg := ⟨0xd0040 + i * 4, 32, 0⟩
def F.CLK_LOOPi_COUNTS.losses (i : Nat) : Fld := ⟨(R.CLK_LOOPi_COUNTS i), 31, 16⟩
def F.CLK_LOOPi_COUNTS.last_fb_us (i : Nat) : Fld := ⟨(R.CLK_LOOPi_COUNTS i), 15, 0⟩

/-! Registers placed by R405 of 19_twin_operation.md. -/
def R.TWN_CFG : Reg := ⟨0xf0000, 32, 0xa14ffff⟩
def F.TWN_CFG.agree_us : Fld := ⟨R.TWN_CFG, 31, 24⟩
def F.TWN_CFG.hold_limit_us : Fld := ⟨R.TWN_CFG, 23, 16⟩
def F.TWN_CFG.fit_mask : Fld := ⟨R.TWN_CFG, 15, 0⟩

def R.TWN_CMD : Reg := ⟨0xf0004, 32, 0⟩
def F.TWN_CMD.key : Fld := ⟨R.TWN_CMD, 31, 16⟩
def F.TWN_CMD.epoch : Fld := ⟨R.TWN_CMD, 1, 1⟩
def F.TWN_CMD.turn : Fld := ⟨R.TWN_CMD, 0, 0⟩

def R.TWN_STATUS : Reg := ⟨0xf0008, 32, 0⟩
def F.TWN_STATUS.state : Fld := ⟨R.TWN_STATUS, 31, 28⟩
def F.TWN_STATUS.partner_present : Fld := ⟨R.TWN_STATUS, 27, 27⟩
def F.TWN_STATUS.lanes_up : Fld := ⟨R.TWN_STATUS, 26, 25⟩
def F.TWN_STATUS.time_synced : Fld := ⟨R.TWN_STATUS, 24, 24⟩
def F.TWN_STATUS.staged_dirty : Fld := ⟨R.TWN_STATUS, 23, 23⟩
def F.TWN_STATUS.epoch_busy : Fld := ⟨R.TWN_STATUS, 22, 22⟩
def F.TWN_STATUS.join_wait : Fld := ⟨R.TWN_STATUS, 21, 21⟩
def F.TWN_STATUS.fit : Fld := ⟨R.TWN_STATUS, 20, 20⟩
def F.TWN_STATUS.partner_fit : Fld := ⟨R.TWN_STATUS, 19, 19⟩

def R.TWN_TOKEN_STATE : Reg := ⟨0xf000c, 32, 0⟩
def F.TWN_TOKEN_STATE.latch : Fld := ⟨R.TWN_TOKEN_STATE, 7, 7⟩
def F.TWN_TOKEN_STATE.drive : Fld := ⟨R.TWN_TOKEN_STATE, 6, 6⟩
def F.TWN_TOKEN_STATE.auth_b : Fld := ⟨R.TWN_TOKEN_STATE, 5, 5⟩
def F.TWN_TOKEN_STATE.auth_a : Fld := ⟨R.TWN_TOKEN_STATE, 4, 4⟩
def F.TWN_TOKEN_STATE.named : Fld := ⟨R.TWN_TOKEN_STATE, 3, 2⟩
def F.TWN_TOKEN_STATE.agree : Fld := ⟨R.TWN_TOKEN_STATE, 1, 1⟩
def F.TWN_TOKEN_STATE.frozen : Fld := ⟨R.TWN_TOKEN_STATE, 0, 0⟩

def R.TWN_HEALTH : Reg := ⟨0xf0010, 32, 0⟩
def F.TWN_HEALTH.health : Fld := ⟨R.TWN_HEALTH, 15, 0⟩

def R.TWN_PARTNER_HEALTH : Reg := ⟨0xf0014, 32, 0⟩
def F.TWN_PARTNER_HEALTH.health : Fld := ⟨R.TWN_PARTNER_HEALTH, 15, 0⟩

def R.TWN_TIME : Reg := ⟨0xf0018, 32, 0⟩
def F.TWN_TIME.offset : Fld := ⟨R.TWN_TIME, 31, 16⟩
def F.TWN_TIME.delay : Fld := ⟨R.TWN_TIME, 15, 0⟩

def R.TWN_NEXT_TURN : Reg := ⟨0xf0020, 64, 0xffffffffffffffff⟩
def F.TWN_NEXT_TURN.ticks : Fld := ⟨R.TWN_NEXT_TURN, 63, 0⟩

def R.TWN_EPOCH : Reg := ⟨0xf0028, 32, 0⟩
def F.TWN_EPOCH.adopted : Fld := ⟨R.TWN_EPOCH, 31, 16⟩
def F.TWN_EPOCH.current : Fld := ⟨R.TWN_EPOCH, 15, 0⟩

def R.TWN_EPOCH_PROGRESS : Reg := ⟨0xf002c, 32, 0⟩
def F.TWN_EPOCH_PROGRESS.blocks : Fld := ⟨R.TWN_EPOCH_PROGRESS, 23, 0⟩

def R.TWN_IRQ_STATUS : Reg := ⟨0xf0030, 32, 0⟩
def F.TWN_IRQ_STATUS.refused : Fld := ⟨R.TWN_IRQ_STATUS, 9, 9⟩
def F.TWN_IRQ_STATUS.disagreement : Fld := ⟨R.TWN_IRQ_STATUS, 8, 8⟩
def F.TWN_IRQ_STATUS.partner_found : Fld := ⟨R.TWN_IRQ_STATUS, 7, 7⟩
def F.TWN_IRQ_STATUS.partner_lost : Fld := ⟨R.TWN_IRQ_STATUS, 6, 6⟩
def F.TWN_IRQ_STATUS.epoch_discarded : Fld := ⟨R.TWN_IRQ_STATUS, 5, 5⟩
def F.TWN_IRQ_STATUS.epoch_adopted : Fld := ⟨R.TWN_IRQ_STATUS, 4, 4⟩
def F.TWN_IRQ_STATUS.token_lost : Fld := ⟨R.TWN_IRQ_STATUS, 3, 3⟩
def F.TWN_IRQ_STATUS.token_gained : Fld := ⟨R.TWN_IRQ_STATUS, 2, 2⟩
def F.TWN_IRQ_STATUS.lockstep_left : Fld := ⟨R.TWN_IRQ_STATUS, 1, 1⟩
def F.TWN_IRQ_STATUS.lockstep : Fld := ⟨R.TWN_IRQ_STATUS, 0, 0⟩

def R.TWN_IRQ_EN : Reg := ⟨0xf0034, 32, 0⟩
def F.TWN_IRQ_EN.enable : Fld := ⟨R.TWN_IRQ_EN, 31, 0⟩

def R.TWN_COUNTS : Reg := ⟨0xf0038, 32, 0⟩
def F.TWN_COUNTS.turns : Fld := ⟨R.TWN_COUNTS, 31, 24⟩
def F.TWN_COUNTS.takeovers : Fld := ⟨R.TWN_COUNTS, 23, 16⟩
def F.TWN_COUNTS.disagreements : Fld := ⟨R.TWN_COUNTS, 15, 8⟩
def F.TWN_COUNTS.discarded : Fld := ⟨R.TWN_COUNTS, 7, 0⟩

def R.TWN_LANE_COUNTS : Reg := ⟨0xf003c, 32, 0⟩
def F.TWN_LANE_COUNTS.lane1 : Fld := ⟨R.TWN_LANE_COUNTS, 31, 16⟩
def F.TWN_LANE_COUNTS.lane0 : Fld := ⟨R.TWN_LANE_COUNTS, 15, 0⟩

def R.TWN_REJECT : Reg := ⟨0xf0040, 32, 0⟩
def F.TWN_REJECT.count : Fld := ⟨R.TWN_REJECT, 15, 0⟩

/-! Registers placed by R439 of 21_compatibility.md. -/
def R.LG_ID : Reg := ⟨0x1000000, 16, 0x4410⟩
def F.LG_ID.id : Fld := ⟨R.LG_ID, 15, 0⟩

def R.LG_REV : Reg := ⟨0x1000002, 16, 3⟩
def F.LG_REV.rev : Fld := ⟨R.LG_REV, 7, 0⟩

def R.LG_CTRL : Reg := ⟨0x1000004, 16, 4⟩
def F.LG_CTRL.soft_reset : Fld := ⟨R.LG_CTRL, 15, 15⟩
def F.LG_CTRL.run : Fld := ⟨R.LG_CTRL, 3, 3⟩
def F.LG_CTRL.video_en : Fld := ⟨R.LG_CTRL, 2, 2⟩
def F.LG_CTRL.irq_en : Fld := ⟨R.LG_CTRL, 1, 1⟩
def F.LG_CTRL.fuser_en : Fld := ⟨R.LG_CTRL, 0, 0⟩

def R.LG_STATUS : Reg := ⟨0x1000006, 16, 0⟩
def F.LG_STATUS.wdog : Fld := ⟨R.LG_STATUS, 8, 8⟩
def F.LG_STATUS.fault : Fld := ⟨R.LG_STATUS, 7, 7⟩
def F.LG_STATUS.fuser_ready : Fld := ⟨R.LG_STATUS, 6, 6⟩
def F.LG_STATUS.poly_ready : Fld := ⟨R.LG_STATUS, 5, 5⟩
def F.LG_STATUS.sheet_done : Fld := ⟨R.LG_STATUS, 4, 4⟩
def F.LG_STATUS.sheet_refused : Fld := ⟨R.LG_STATUS, 3, 3⟩
def F.LG_STATUS.top_seen : Fld := ⟨R.LG_STATUS, 2, 2⟩
def F.LG_STATUS.video : Fld := ⟨R.LG_STATUS, 1, 1⟩
def F.LG_STATUS.station : Fld := ⟨R.LG_STATUS, 0, 0⟩

def R.LG_IRQ_MASK : Reg := ⟨0x1000008, 16, 0⟩
def F.LG_IRQ_MASK.mask : Fld := ⟨R.LG_IRQ_MASK, 8, 0⟩

def R.LG_FAULT : Reg := ⟨0x100000a, 16, 0⟩
def F.LG_FAULT.faults : Fld := ⟨R.LG_FAULT, 7, 0⟩

def R.LG_TIMER_LO : Reg := ⟨0x100000c, 16, 0⟩
def F.LG_TIMER_LO.low : Fld := ⟨R.LG_TIMER_LO, 15, 0⟩

def R.LG_TIMER_HI : Reg := ⟨0x100000e, 16, 0⟩
def F.LG_TIMER_HI.high : Fld := ⟨R.LG_TIMER_HI, 15, 0⟩

def R.LG_WDOG : Reg := ⟨0x1000010, 16, 0⟩
def F.LG_WDOG.kick : Fld := ⟨R.LG_WDOG, 15, 0⟩

def R.LG_SHEET_CMD : Reg := ⟨0x1000012, 16, 0⟩
def F.LG_SHEET_CMD.op : Fld := ⟨R.LG_SHEET_CMD, 15, 12⟩
def F.LG_SHEET_CMD.sheet : Fld := ⟨R.LG_SHEET_CMD, 7, 0⟩

def R.LG_SHEET_STAT : Reg := ⟨0x1000014, 16, 0⟩
def F.LG_SHEET_STAT.sheet : Fld := ⟨R.LG_SHEET_STAT, 15, 8⟩
def F.LG_SHEET_STAT.busy : Fld := ⟨R.LG_SHEET_STAT, 7, 7⟩
def F.LG_SHEET_STAT.result : Fld := ⟨R.LG_SHEET_STAT, 6, 4⟩
def F.LG_SHEET_STAT.loaded : Fld := ⟨R.LG_SHEET_STAT, 3, 0⟩

def R.LG_POLY_CFG : Reg := ⟨0x1000016, 16, 0x6000⟩
def F.LG_POLY_CFG.facets : Fld := ⟨R.LG_POLY_CFG, 15, 12⟩
def F.LG_POLY_CFG.enable : Fld := ⟨R.LG_POLY_CFG, 3, 0⟩

def R.LG_POLY_SPEED : Reg := ⟨0x1000018, 16, 0⟩
def F.LG_POLY_SPEED.rpm : Fld := ⟨R.LG_POLY_SPEED, 15, 0⟩

def R.LG_POLY_STAT : Reg := ⟨0x100001a, 16, 0⟩
def F.LG_POLY_STAT.fault : Fld := ⟨R.LG_POLY_STAT, 15, 12⟩
def F.LG_POLY_STAT.locked : Fld := ⟨R.LG_POLY_STAT, 7, 4⟩
def F.LG_POLY_STAT.at_speed : Fld := ⟨R.LG_POLY_STAT, 3, 0⟩

def R.LG_GPI : Reg := ⟨0x100001c, 16, 0⟩
def F.LG_GPI.level : Fld := ⟨R.LG_GPI, 7, 0⟩

def R.LG_GPO : Reg := ⟨0x100001e, 16, 0⟩
def F.LG_GPO.level : Fld := ⟨R.LG_GPO, 7, 0⟩

def R.LG_FUSER_SETf (f : Nat) : Reg := ⟨0x1000020 + f * 2, 16, 0⟩
def F.LG_FUSER_SETf.target (f : Nat) : Fld := ⟨(R.LG_FUSER_SETf f), 15, 0⟩

def R.LG_FUSER_TEMPf (f : Nat) : Reg := ⟨0x1000024 + f * 2, 16, 0⟩
def F.LG_FUSER_TEMPf.temp (f : Nat) : Fld := ⟨(R.LG_FUSER_TEMPf f), 15, 0⟩

def R.LG_VID_STAT : Reg := ⟨0x1000028, 16, 0⟩
def F.LG_VID_STAT.format : Fld := ⟨R.LG_VID_STAT, 3, 3⟩
def F.LG_VID_STAT.crc : Fld := ⟨R.LG_VID_STAT, 2, 2⟩
def F.LG_VID_STAT.order : Fld := ⟨R.LG_VID_STAT, 1, 1⟩
def F.LG_VID_STAT.lock_lost : Fld := ⟨R.LG_VID_STAT, 0, 0⟩

def R.LG_VID_ERRS : Reg := ⟨0x100002a, 16, 0⟩
def F.LG_VID_ERRS.crc : Fld := ⟨R.LG_VID_ERRS, 15, 8⟩
def F.LG_VID_ERRS.order : Fld := ⟨R.LG_VID_ERRS, 7, 0⟩

def R.LG_VENDOR : Reg := ⟨0x100002c, 16, 0xa103⟩
def F.LG_VENDOR.vendor : Fld := ⟨R.LG_VENDOR, 15, 8⟩
def F.LG_VENDOR.rev : Fld := ⟨R.LG_VENDOR, 7, 0⟩

def R.LG_Ss_CTRL (s : Nat) : Reg := ⟨0x1000100 + s * 0x20, 16, 4⟩
def F.LG_Ss_CTRL.enable (s : Nat) : Fld := ⟨(R.LG_Ss_CTRL s), 15, 15⟩
def F.LG_Ss_CTRL.permit (s : Nat) : Fld := ⟨(R.LG_Ss_CTRL s), 14, 14⟩
def F.LG_Ss_CTRL.justify (s : Nat) : Fld := ⟨(R.LG_Ss_CTRL s), 3, 2⟩
def F.LG_Ss_CTRL.bd_edge (s : Nat) : Fld := ⟨(R.LG_Ss_CTRL s), 1, 1⟩

def R.LG_Ss_STAT (s : Nat) : Reg := ⟨0x1000102 + s * 0x20, 16, 4⟩
def F.LG_Ss_STAT.underrun (s : Nat) : Fld := ⟨(R.LG_Ss_STAT s), 3, 3⟩
def F.LG_Ss_STAT.bd_lost (s : Nat) : Fld := ⟨(R.LG_Ss_STAT s), 2, 2⟩
def F.LG_Ss_STAT.started (s : Nat) : Fld := ⟨(R.LG_Ss_STAT s), 1, 1⟩
def F.LG_Ss_STAT.ended (s : Nat) : Fld := ⟨(R.LG_Ss_STAT s), 0, 0⟩

def R.LG_Ss_OFFSET (s : Nat) : Reg := ⟨0x1000104 + s * 0x20, 16, 0⟩
def F.LG_Ss_OFFSET.counts (s : Nat) : Fld := ⟨(R.LG_Ss_OFFSET s), 15, 0⟩

def R.LG_Ss_LINES (s : Nat) : Reg := ⟨0x1000106 + s * 0x20, 16, 0⟩
def F.LG_Ss_LINES.lines (s : Nat) : Fld := ⟨(R.LG_Ss_LINES s), 15, 0⟩

def R.LG_Ss_PIXELS (s : Nat) : Reg := ⟨0x1000108 + s * 0x20, 16, 0x1000⟩
def F.LG_Ss_PIXELS.pixels (s : Nat) : Fld := ⟨(R.LG_Ss_PIXELS s), 15, 0⟩

def R.LG_Ss_PIXCLK (s : Nat) : Reg := ⟨0x100010a + s * 0x20, 16, 0x1f40⟩
def F.LG_Ss_PIXCLK.clk (s : Nat) : Fld := ⟨(R.LG_Ss_PIXCLK s), 15, 0⟩

def R.LG_Ss_START (s : Nat) : Reg := ⟨0x100010c + s * 0x20, 16, 0xfa0⟩
def F.LG_Ss_START.start (s : Nat) : Fld := ⟨(R.LG_Ss_START s), 15, 0⟩

def R.LG_Ss_WIDTH (s : Nat) : Reg := ⟨0x100010e + s * 0x20, 16, 0x40⟩
def F.LG_Ss_WIDTH.width (s : Nat) : Fld := ⟨(R.LG_Ss_WIDTH s), 6, 0⟩

def R.LG_Ss_MATw (s w : Nat) : Reg := ⟨0x1000400 + s * 0x100 + w * 2, 16, 0xffff⟩
def F.LG_Ss_MATw.th_odd (s w : Nat) : Fld := ⟨(R.LG_Ss_MATw s w), 15, 8⟩
def F.LG_Ss_MATw.th_even (s w : Nat) : Fld := ⟨(R.LG_Ss_MATw s w), 7, 0⟩

/-! Registers placed by R465 of 22_calibration.md. -/
def R.CAL_CTRL : Reg := ⟨0x100000, 32, 2⟩
def F.CAL_CTRL.auto_reapply : Fld := ⟨R.CAL_CTRL, 1, 1⟩
def F.CAL_CTRL.reload : Fld := ⟨R.CAL_CTRL, 0, 0⟩

def R.CAL_STATUS : Reg := ⟨0x100004, 32, 0⟩
def F.CAL_STATUS.busy : Fld := ⟨R.CAL_STATUS, 31, 31⟩
def F.CAL_STATUS.pending : Fld := ⟨R.CAL_STATUS, 30, 30⟩
def F.CAL_STATUS.bank : Fld := ⟨R.CAL_STATUS, 29, 28⟩
def F.CAL_STATUS.trim_copy : Fld := ⟨R.CAL_STATUS, 27, 26⟩
def F.CAL_STATUS.applied : Fld := ⟨R.CAL_STATUS, 10, 0⟩

def R.CAL_GENERATION : Reg := ⟨0x100008, 32, 0⟩
def F.CAL_GENERATION.generation : Fld := ⟨R.CAL_GENERATION, 31, 0⟩

def R.CAL_COUNT : Reg := ⟨0x10000c, 32, 0⟩
def F.CAL_COUNT.count : Fld := ⟨R.CAL_COUNT, 31, 0⟩

def R.CAL_TIME : Reg := ⟨0x100010, 32, 0⟩
def F.CAL_TIME.seconds : Fld := ⟨R.CAL_TIME, 31, 0⟩

def R.CAL_APPLIED_SECONDS : Reg := ⟨0x100014, 32, 0⟩
def F.CAL_APPLIED_SECONDS.seconds : Fld := ⟨R.CAL_APPLIED_SECONDS, 31, 0⟩

def R.CAL_COUNTS : Reg := ⟨0x100018, 32, 0⟩
def F.CAL_COUNTS.bad : Fld := ⟨R.CAL_COUNTS, 31, 24⟩
def F.CAL_COUNTS.skipped : Fld := ⟨R.CAL_COUNTS, 23, 16⟩
def F.CAL_COUNTS.rejected : Fld := ⟨R.CAL_COUNTS, 15, 8⟩
def F.CAL_COUNTS.walks : Fld := ⟨R.CAL_COUNTS, 7, 0⟩

def R.CAL_IRQ_STATUS : Reg := ⟨0x10001c, 32, 0⟩
def F.CAL_IRQ_STATUS.bad : Fld := ⟨R.CAL_IRQ_STATUS, 2, 2⟩
def F.CAL_IRQ_STATUS.all_applied : Fld := ⟨R.CAL_IRQ_STATUS, 1, 1⟩
def F.CAL_IRQ_STATUS.walk_done : Fld := ⟨R.CAL_IRQ_STATUS, 0, 0⟩

def R.CAL_IRQ_EN : Reg := ⟨0x100020, 32, 0⟩
def F.CAL_IRQ_EN.enable : Fld := ⟨R.CAL_IRQ_EN, 31, 0⟩

/-- Register classes of BLD. -/
def regTableBLD : List RegClass := [
  ⟨0x80000, [], 32, 0, [⟨31, 16, .ro⟩, ⟨15, 0, .ro⟩]⟩,
  ⟨0x80004, [], 32, 0, [⟨15, 0, .ro⟩]⟩,
  ⟨0x80008, [], 32, 0, [⟨17, 16, .w1c⟩, ⟨15, 0, .ro⟩]⟩,
  ⟨0x8000c, [], 32, 0, [⟨17, 16, .rw⟩]⟩,
  ⟨0x80010, [(0x10, 2)], 32, 0xfff0000, [⟨27, 16, .rw⟩, ⟨11, 0, .rw⟩]⟩,
  ⟨0x80014, [(0x10, 2)], 32, 0x800, [⟨11, 0, .rw⟩]⟩,
  ⟨0x80018, [(0x10, 2)], 32, 0, [⟨31, 31, .ro⟩, ⟨30, 30, .ro⟩, ⟨29, 29, .ro⟩, ⟨11, 0, .ro⟩]⟩,
  ⟨0x81000, [(0x400, 16)], 32, 8, [⟨7, 7, .rw⟩, ⟨6, 6, .rw⟩, ⟨5, 5, .rw⟩, ⟨4, 4, .rw⟩, ⟨3, 3, .rw⟩, ⟨2, 2, .rw⟩]⟩,
  ⟨0x81004, [(0x400, 16)], 32, 0, [⟨2, 2, .wo⟩, ⟨1, 1, .wo⟩, ⟨0, 0, .wo⟩]⟩,
  ⟨0x81008, [(0x400, 16)], 32, 0, [⟨31, 28, .ro⟩, ⟨27, 27, .ro⟩, ⟨26, 26, .ro⟩, ⟨25, 25, .ro⟩, ⟨24, 24, .ro⟩, ⟨23, 23, .ro⟩, ⟨18, 16, .ro⟩]⟩,
  ⟨0x8100c, [(0x400, 16)], 32, 0, [⟨0, 0, .wo⟩]⟩,
  ⟨0x81010, [(0x400, 16)], 32, 0, [⟨31, 0, .rw⟩]⟩,
  ⟨0x81014, [(0x400, 16)], 32, 0x1f403e8, [⟨31, 16, .rw⟩, ⟨15, 0, .rw⟩]⟩,
  ⟨0x81018, [(0x400, 16)], 32, 0, [⟨31, 0, .ro⟩]⟩,
  ⟨0x8101c, [(0x400, 16)], 32, 0, [⟨15, 0, .ro⟩]⟩,
  ⟨0x81020, [(0x400, 16)], 32, 0, [⟨31, 16, .ro⟩, ⟨15, 0, .ro⟩]⟩,
  ⟨0x81024, [(0x400, 16)], 32, 0, [⟨31, 16, .ro⟩, ⟨15, 0, .ro⟩]⟩,
  ⟨0x81028, [(0x400, 16)], 64, 0, [⟨63, 0, .ro⟩]⟩,
  ⟨0x81030, [(0x400, 16)], 32, 0, [⟨31, 0, .ro⟩]⟩,
  ⟨0x81034, [(0x400, 16)], 32, 0, [⟨31, 16, .rw⟩, ⟨15, 0, .rw⟩]⟩,
  ⟨0x81038, [(0x400, 16)], 32, 0, [⟨31, 16, .rw⟩, ⟨15, 0, .rw⟩]⟩,
  ⟨0x8103c, [(0x400, 16)], 32, 0x4000, [⟨31, 16, .rw⟩, ⟨15, 0, .rw⟩]⟩,
  ⟨0x81040, [(0x400, 16)], 32, 0xbb800c8, [⟨31, 16, .rw⟩, ⟨15, 0, .rw⟩]⟩,
  ⟨0x81044, [(0x400, 16)], 32, 0, [⟨31, 16, .rw⟩, ⟨15, 0, .rw⟩]⟩,
  ⟨0x81048, [(0x400, 16)], 32, 0x79990000, [⟨31, 16, .rw⟩, ⟨15, 0, .rw⟩]⟩,
  ⟨0x8104c, [(0x400, 16)], 32, 9, [⟨31, 16, .rw⟩, ⟨3, 0, .rw⟩]⟩,
  ⟨0x81050, [(0x400, 16)], 32, 0x10001000, [⟨31, 16, .rw⟩, ⟨15, 0, .rw⟩]⟩,
  ⟨0x81054, [(0x400, 16)], 32, 0x5dc012c, [⟨31, 16, .rw⟩, ⟨15, 0, .rw⟩]⟩,
  ⟨0x81058, [(0x400, 16)], 32, 0x12c32a2, [⟨31, 16, .rw⟩, ⟨15, 8, .rw⟩, ⟨7, 3, .rw⟩, ⟨2, 0, .rw⟩]⟩,
  ⟨0x8105c, [(0x400, 16)], 32, 0x4020, [⟨15, 8, .rw⟩, ⟨7, 0, .rw⟩]⟩,
  ⟨0x81060, [(0x400, 16)], 32, 0x190003e8, [⟨31, 24, .rw⟩, ⟨15, 0, .rw⟩]⟩,
  ⟨0x81064, [(0x400, 16)], 32, 0, [⟨31, 16, .rw⟩, ⟨15, 0, .rw⟩]⟩,
  ⟨0x81068, [(0x400, 16)], 32, 0x100, [⟨31, 16, .rw⟩, ⟨15, 0, .rw⟩]⟩,
  ⟨0x8106c, [(0x400, 16)], 32, 0, [⟨15, 0, .rw⟩]⟩,
  ⟨0x81074, [(0x400, 16)], 32, 0, [⟨7, 7, .w1c⟩, ⟨6, 6, .w1c⟩, ⟨5, 5, .w1c⟩, ⟨4, 4, .w1c⟩, ⟨3, 3, .w1c⟩, ⟨2, 2, .w1c⟩, ⟨1, 1, .w1c⟩, ⟨0, 0, .w1c⟩]⟩,
  ⟨0x81078, [(0x400, 16)], 32, 0, [⟨31, 0, .rw⟩]⟩,
  ⟨0x8107c, [(0x400, 16)], 32, 0, [⟨31, 24, .ro⟩, ⟨23, 16, .ro⟩, ⟨15, 0, .ro⟩]⟩,
  ⟨0x81080, [(0x400, 16)], 32, 0, [⟨7, 0, .ro⟩]⟩,
  ⟨0x81100, [(0x400, 16), (8, 16)], 64, 0, [⟨47, 32, .rw⟩, ⟨31, 0, .rw⟩]⟩,
  ⟨0x81200, [(0x400, 16), (0x10, 8)], 64, 0, [⟨63, 32, .rw⟩, ⟨31, 0, .rw⟩]⟩,
  ⟨0x81208, [(0x400, 16), (0x10, 8)], 64, 0, [⟨31, 16, .rw⟩, ⟨15, 0, .rw⟩]⟩]

/-- Register classes of STP. -/
def regTableSTP : List RegClass := [
  ⟨0x90000, [], 32, 0, [⟨31, 16, .ro⟩, ⟨15, 0, .ro⟩]⟩,
  ⟨0x90004, [], 32, 0, [⟨15, 0, .ro⟩]⟩,
  ⟨0x90008, [], 32, 0, [⟨15, 0, .ro⟩]⟩,
  ⟨0x90100, [(4, 32)], 32, 0x4e2, [⟨19, 0, .rw⟩]⟩,
  ⟨0x91000, [(0x400, 16)], 32, 0, [⟨3, 3, .rw⟩, ⟨2, 2, .rw⟩, ⟨0, 0, .rw⟩]⟩,
  ⟨0x91004, [(0x400, 16)], 32, 0, [⟨31, 28, .wo⟩, ⟨2, 0, .wo⟩]⟩,
  ⟨0x91008, [(0x400, 16)], 32, 0x80000, [⟨31, 28, .ro⟩, ⟨27, 27, .ro⟩, ⟨26, 26, .ro⟩, ⟨25, 25, .ro⟩, ⟨24, 24, .ro⟩, ⟨23, 23, .ro⟩, ⟨22, 22, .ro⟩, ⟨21, 21, .ro⟩, ⟨20, 20, .ro⟩, ⟨19, 16, .ro⟩, ⟨15, 14, .ro⟩]⟩,
  ⟨0x9100c, [(0x400, 16)], 32, 0, [⟨0, 0, .wo⟩]⟩,
  ⟨0x91010, [(0x400, 16)], 64, 0, [⟨63, 0, .ro⟩]⟩,
  ⟨0x91018, [(0x400, 16)], 64, 0, [⟨63, 0, .ro⟩]⟩,
  ⟨0x91020, [(0x400, 16)], 32, 0, [⟨31, 0, .ro⟩]⟩,
  ⟨0x91024, [(0x400, 16)], 32, 0, [⟨31, 0, .ro⟩]⟩,
  ⟨0x91028, [(0x400, 16)], 32, 0, [⟨31, 31, .ro⟩, ⟨15, 0, .ro⟩]⟩,
  ⟨0x9102c, [(0x400, 16)], 32, 0x2000100, [⟨25, 16, .rw⟩, ⟨9, 0, .rw⟩]⟩,
  ⟨0x91030, [(0x400, 16)], 32, 0x50642832, [⟨31, 24, .rw⟩, ⟨23, 16, .rw⟩, ⟨15, 12, .rw⟩, ⟨11, 8, .rw⟩, ⟨7, 0, .rw⟩]⟩,
  ⟨0x91034, [(0x400, 16)], 32, 0x80, [⟨31, 8, .rw⟩, ⟨7, 4, .rw⟩, ⟨3, 0, .rw⟩]⟩,
  ⟨0x91038, [(0x400, 16)], 32, 0, [⟨31, 16, .rw⟩, ⟨15, 0, .rw⟩]⟩,
  ⟨0x9103c, [(0x400, 16)], 32, 0x31c71440, [⟨31, 16, .rw⟩, ⟨15, 8, .rw⟩, ⟨7, 4, .rw⟩]⟩,
  ⟨0x91040, [(0x400, 16)], 32, 0x3d090, [⟨21, 21, .rw⟩, ⟨20, 20, .rw⟩, ⟨19, 0, .rw⟩]⟩,
  ⟨0x91044, [(0x400, 16)], 32, 0x80640200, [⟨31, 31, .rw⟩, ⟨30, 16, .rw⟩, ⟨15, 0, .rw⟩]⟩,
  ⟨0x91048, [(0x400, 16)], 32, 0, [⟨31, 0, .rw⟩]⟩,
  ⟨0x9104c, [(0x400, 16)], 32, 0x100000, [⟨31, 0, .rw⟩]⟩,
  ⟨0x91050, [(0x400, 16)], 32, 0x6407d0, [⟨31, 16, .rw⟩, ⟨15, 0, .rw⟩]⟩,
  ⟨0x91060, [(0x400, 16)], 64, 0, [⟨63, 0, .ro⟩]⟩,
  ⟨0x91068, [(0x400, 16)], 64, 0, [⟨63, 0, .ro⟩]⟩,
  ⟨0x91070, [(0x400, 16)], 32, 0, [⟨8, 8, .w1c⟩, ⟨7, 7, .w1c⟩, ⟨6, 6, .w1c⟩, ⟨5, 5, .w1c⟩, ⟨4, 4, .w1c⟩, ⟨3, 3, .w1c⟩, ⟨2, 2, .w1c⟩, ⟨1, 1, .w1c⟩, ⟨0, 0, .w1c⟩]⟩,
  ⟨0x91074, [(0x400, 16)], 32, 0, [⟨31, 0, .rw⟩]⟩,
  ⟨0x91078, [(0x400, 16)], 32, 0, [⟨31, 24, .ro⟩, ⟨23, 8, .ro⟩, ⟨7, 0, .ro⟩]⟩,
  ⟨0x9107c, [(0x400, 16)], 32, 0, [⟨7, 0, .ro⟩]⟩,
  ⟨0x91200, [(0x400, 16), (0x10, 8)], 64, 0, [⟨63, 32, .rw⟩, ⟨31, 0, .rw⟩]⟩,
  ⟨0x91208, [(0x400, 16), (0x10, 8)], 64, 0, [⟨32, 32, .rw⟩, ⟨31, 16, .rw⟩, ⟨15, 0, .rw⟩]⟩]

/-- Register classes of LOOP. -/
def regTableLOOP : List RegClass := [
  ⟨0xa0000, [], 64, 0, [⟨63, 0, .ro⟩]⟩,
  ⟨0xa0008, [], 64, 0, [⟨63, 0, .ro⟩]⟩,
  ⟨0xa0010, [], 64, 0, [⟨63, 0, .ro⟩]⟩,
  ⟨0xa0018, [], 64, 0, [⟨63, 0, .ro⟩]⟩,
  ⟨0xa0020, [], 32, 0, [⟨15, 0, .ro⟩]⟩,
  ⟨0xa0040, [(4, 8)], 32, 0x3f0000, [⟨31, 31, .ro⟩, ⟨21, 16, .ro⟩, ⟨15, 0, .ro⟩]⟩,
  ⟨0xa0080, [(4, 16)], 32, 0x32, [⟨31, 31, .rw⟩, ⟨15, 0, .rw⟩]⟩,
  ⟨0xa00c0, [(4, 16)], 32, 0x80000000, [⟨31, 30, .ro⟩, ⟨15, 0, .ro⟩]⟩,
  ⟨0xa1000, [(0x40, 64)], 32, 0, [⟨31, 28, .wo⟩, ⟨2, 0, .wo⟩]⟩,
  ⟨0xa1004, [(0x40, 64)], 32, 0, [⟨31, 28, .ro⟩, ⟨27, 27, .ro⟩, ⟨26, 26, .ro⟩, ⟨25, 25, .ro⟩, ⟨24, 24, .ro⟩, ⟨23, 23, .ro⟩, ⟨22, 22, .ro⟩, ⟨21, 21, .ro⟩]⟩,
  ⟨0xa1008, [(0x40, 64)], 32, 0, [⟨0, 0, .wo⟩]⟩,
  ⟨0xa100c, [(0x40, 64)], 32, 0, [⟨31, 16, .rw⟩, ⟨15, 0, .rw⟩]⟩,
  ⟨0xa1010, [(0x40, 64)], 32, 0, [⟨23, 0, .ro⟩]⟩,
  ⟨0xa1014, [(0x40, 64)], 32, 0, [⟨31, 16, .ro⟩, ⟨15, 0, .ro⟩]⟩,
  ⟨0xa1018, [(0x40, 64)], 32, 0, [⟨31, 16, .ro⟩, ⟨15, 0, .ro⟩]⟩,
  ⟨0xa101c, [(0x40, 64)], 32, 0, [⟨31, 16, .ro⟩, ⟨15, 0, .ro⟩]⟩,
  ⟨0xa1020, [(0x40, 64)], 32, 0, [⟨5, 5, .w1c⟩, ⟨4, 4, .w1c⟩, ⟨3, 3, .w1c⟩, ⟨2, 2, .w1c⟩, ⟨1, 1, .w1c⟩, ⟨0, 0, .w1c⟩]⟩,
  ⟨0xa1024, [(0x40, 64)], 32, 0, [⟨31, 0, .rw⟩]⟩,
  ⟨0xa1028, [(0x40, 64)], 32, 0, [⟨31, 16, .ro⟩, ⟨15, 0, .ro⟩]⟩,
  ⟨0xa102c, [(0x40, 64)], 32, 0, [⟨7, 0, .ro⟩]⟩]

/-- Register classes of TMP. -/
def regTableTMP : List RegClass := [
  ⟨0xb0000, [], 32, 0, [⟨0, 0, .wo⟩]⟩,
  ⟨0xb0004, [], 32, 0, [⟨31, 31, .ro⟩, ⟨30, 30, .ro⟩]⟩,
  ⟨0xb0008, [], 32, 0, [⟨23, 0, .ro⟩]⟩,
  ⟨0xb000c, [], 32, 0, [⟨23, 0, .ro⟩]⟩,
  ⟨0xb0010, [], 32, 0, [⟨23, 0, .ro⟩]⟩,
  ⟨0xb0014, [], 32, 0, [⟨23, 0, .ro⟩]⟩,
  ⟨0xb0018, [], 32, 0, [⟨5, 5, .w1c⟩, ⟨4, 4, .w1c⟩, ⟨3, 3, .w1c⟩, ⟨2, 2, .w1c⟩, ⟨1, 1, .w1c⟩, ⟨0, 0, .w1c⟩]⟩,
  ⟨0xb001c, [], 32, 0, [⟨31, 0, .rw⟩]⟩,
  ⟨0xb0020, [], 64, 0, [⟨63, 0, .ro⟩]⟩,
  ⟨0xb0100, [(0x20, 24)], 32, 0x3214, [⟨31, 31, .rw⟩, ⟨30, 30, .rw⟩, ⟨29, 29, .rw⟩, ⟨23, 16, .rw⟩, ⟨15, 8, .rw⟩, ⟨7, 0, .rw⟩]⟩,
  ⟨0xb0104, [(0x20, 8)], 32, 0x3e803b6, [⟨31, 16, .rw⟩, ⟨15, 0, .rw⟩]⟩,
  ⟨0xb0204, [(0x20, 16)], 32, 0x7fff7fff, [⟨31, 16, .rw⟩, ⟨15, 0, .rw⟩]⟩,
  ⟨0xb0108, [(0x20, 8)], 32, 0xa041a, [⟨31, 16, .rw⟩, ⟨15, 0, .rw⟩]⟩,
  ⟨0xb0208, [(0x20, 16)], 32, 0xa7fff, [⟨31, 16, .rw⟩, ⟨15, 0, .rw⟩]⟩,
  ⟨0xb010c, [(0x20, 24)], 32, 0x80000000, [⟨31, 16, .ro⟩, ⟨15, 0, .ro⟩]⟩,
  ⟨0xb0110, [(0x20, 24)], 32, 0, [⟨31, 29, .ro⟩, ⟨28, 28, .ro⟩, ⟨13, 0, .ro⟩]⟩,
  ⟨0xb0114, [(0x20, 24)], 32, 0, [⟨31, 24, .ro⟩, ⟨23, 16, .ro⟩, ⟨15, 8, .ro⟩, ⟨7, 0, .ro⟩]⟩,
  ⟨0xb1000, [(0x80, 16), (4, 17)], 32, 0, [⟨15, 0, .rw⟩]⟩]

/-- Register classes of PWR. -/
def regTablePWR : List RegClass := [
  ⟨0xc0000, [], 32, 0, [⟨31, 16, .wo⟩, ⟨1, 1, .wo⟩, ⟨0, 0, .wo⟩]⟩,
  ⟨0xc0004, [], 32, 0x101f0000, [⟨31, 28, .ro⟩, ⟨27, 26, .ro⟩, ⟨25, 25, .ro⟩, ⟨20, 16, .ro⟩, ⟨15, 0, .ro⟩]⟩,
  ⟨0xc0008, [], 32, 0x10000000, [⟨31, 31, .ro⟩, ⟨30, 30, .ro⟩, ⟨29, 29, .ro⟩, ⟨28, 28, .ro⟩, ⟨15, 8, .ro⟩, ⟨7, 0, .ro⟩]⟩,
  ⟨0xc000c, [], 32, 0xc00a0064, [⟨31, 31, .rw⟩, ⟨30, 30, .rw⟩, ⟨23, 16, .rw⟩, ⟨15, 0, .rw⟩]⟩,
  ⟨0xc0010, [], 32, 0, [⟨16, 16, .wo⟩, ⟨15, 8, .wo⟩, ⟨7, 0, .wo⟩]⟩,
  ⟨0xc0014, [], 32, 0, [⟨6, 6, .w1c⟩, ⟨5, 5, .w1c⟩, ⟨4, 4, .w1c⟩, ⟨3, 3, .w1c⟩, ⟨2, 2, .w1c⟩, ⟨1, 1, .w1c⟩, ⟨0, 0, .w1c⟩]⟩,
  ⟨0xc0018, [], 32, 0, [⟨31, 0, .rw⟩]⟩,
  ⟨0xc001c, [], 32, 0, [⟨31, 24, .ro⟩, ⟨23, 16, .ro⟩, ⟨15, 8, .ro⟩, ⟨7, 0, .ro⟩]⟩,
  ⟨0xc0020, [], 32, 0, [⟨31, 0, .ro⟩]⟩,
  ⟨0xc0024, [], 32, 0, [⟨23, 16, .ro⟩, ⟨11, 0, .ro⟩]⟩,
  ⟨0xc0028, [], 32, 0x64, [⟨15, 0, .rw⟩]⟩,
  ⟨0xc0040, [(4, 19)], 32, 0xffffffff, [⟨31, 0, .ro⟩]⟩]

/-- Register classes of CLK. -/
def regTableCLK : List RegClass := [
  ⟨0xd0000, [], 32, 0x40070000, [⟨31, 31, .ro⟩, ⟨30, 30, .ro⟩, ⟨18, 18, .ro⟩, ⟨17, 17, .ro⟩, ⟨16, 16, .ro⟩, ⟨4, 0, .ro⟩]⟩,
  ⟨0xd0004, [], 32, 0, [⟨7, 6, .rw⟩, ⟨5, 4, .rw⟩, ⟨3, 2, .rw⟩, ⟨1, 0, .rw⟩]⟩,
  ⟨0xd0008, [], 32, 0, [⟨5, 5, .w1c⟩, ⟨4, 4, .w1c⟩, ⟨3, 3, .w1c⟩, ⟨2, 2, .w1c⟩, ⟨1, 1, .w1c⟩, ⟨0, 0, .w1c⟩]⟩,
  ⟨0xd000c, [], 32, 0, [⟨31, 31, .rw⟩, ⟨4, 0, .rw⟩]⟩,
  ⟨0xd0010, [], 32, 1, [⟨14, 7, .ro⟩, ⟨6, 6, .ro⟩, ⟨5, 5, .ro⟩, ⟨4, 4, .ro⟩, ⟨3, 3, .ro⟩, ⟨2, 2, .ro⟩, ⟨1, 1, .ro⟩, ⟨0, 0, .ro⟩]⟩,
  ⟨0xd0014, [], 32, 0, [⟨15, 0, .ro⟩]⟩,
  ⟨0xd0040, [(4, 5)], 32, 0, [⟨31, 16, .ro⟩, ⟨15, 0, .ro⟩]⟩]

/-- Register classes of TWN. -/
def regTableTWN : List RegClass := [
  ⟨0xf0000, [], 32, 0xa14ffff, [⟨31, 24, .rw⟩, ⟨23, 16, .rw⟩, ⟨15, 0, .rw⟩]⟩,
  ⟨0xf0004, [], 32, 0, [⟨31, 16, .wo⟩, ⟨1, 1, .wo⟩, ⟨0, 0, .wo⟩]⟩,
  ⟨0xf0008, [], 32, 0, [⟨31, 28, .ro⟩, ⟨27, 27, .ro⟩, ⟨26, 25, .ro⟩, ⟨24, 24, .ro⟩, ⟨23, 23, .ro⟩, ⟨22, 22, .ro⟩, ⟨21, 21, .ro⟩, ⟨20, 20, .ro⟩, ⟨19, 19, .ro⟩]⟩,
  ⟨0xf000c, [], 32, 0, [⟨7, 7, .ro⟩, ⟨6, 6, .ro⟩, ⟨5, 5, .ro⟩, ⟨4, 4, .ro⟩, ⟨3, 2, .ro⟩, ⟨1, 1, .ro⟩, ⟨0, 0, .ro⟩]⟩,
  ⟨0xf0010, [], 32, 0, [⟨15, 0, .ro⟩]⟩,
  ⟨0xf0014, [], 32, 0, [⟨15, 0, .ro⟩]⟩,
  ⟨0xf0018, [], 32, 0, [⟨31, 16, .ro⟩, ⟨15, 0, .ro⟩]⟩,
  ⟨0xf0020, [], 64, 0xffffffffffffffff, [⟨63, 0, .ro⟩]⟩,
  ⟨0xf0028, [], 32, 0, [⟨31, 16, .ro⟩, ⟨15, 0, .ro⟩]⟩,
  ⟨0xf002c, [], 32, 0, [⟨23, 0, .ro⟩]⟩,
  ⟨0xf0030, [], 32, 0, [⟨9, 9, .w1c⟩, ⟨8, 8, .w1c⟩, ⟨7, 7, .w1c⟩, ⟨6, 6, .w1c⟩, ⟨5, 5, .w1c⟩, ⟨4, 4, .w1c⟩, ⟨3, 3, .w1c⟩, ⟨2, 2, .w1c⟩, ⟨1, 1, .w1c⟩, ⟨0, 0, .w1c⟩]⟩,
  ⟨0xf0034, [], 32, 0, [⟨31, 0, .rw⟩]⟩,
  ⟨0xf0038, [], 32, 0, [⟨31, 24, .ro⟩, ⟨23, 16, .ro⟩, ⟨15, 8, .ro⟩, ⟨7, 0, .ro⟩]⟩,
  ⟨0xf003c, [], 32, 0, [⟨31, 16, .ro⟩, ⟨15, 0, .ro⟩]⟩,
  ⟨0xf0040, [], 32, 0, [⟨15, 0, .ro⟩]⟩]

/-- Register classes of LG. -/
def regTableLG : List RegClass := [
  ⟨0x1000000, [], 16, 0x4410, [⟨15, 0, .ro⟩]⟩,
  ⟨0x1000002, [], 16, 3, [⟨7, 0, .ro⟩]⟩,
  ⟨0x1000004, [], 16, 4, [⟨15, 15, .wo⟩, ⟨3, 3, .rw⟩, ⟨2, 2, .rw⟩, ⟨1, 1, .rw⟩, ⟨0, 0, .rw⟩]⟩,
  ⟨0x1000006, [], 16, 0, [⟨8, 8, .rc⟩, ⟨7, 7, .rc⟩, ⟨6, 6, .rc⟩, ⟨5, 5, .rc⟩, ⟨4, 4, .rc⟩, ⟨3, 3, .rc⟩, ⟨2, 2, .rc⟩, ⟨1, 1, .rc⟩, ⟨0, 0, .rc⟩]⟩,
  ⟨0x1000008, [], 16, 0, [⟨8, 0, .rw⟩]⟩,
  ⟨0x100000a, [], 16, 0, [⟨7, 0, .rc⟩]⟩,
  ⟨0x100000c, [], 16, 0, [⟨15, 0, .ro⟩]⟩,
  ⟨0x100000e, [], 16, 0, [⟨15, 0, .ro⟩]⟩,
  ⟨0x1000010, [], 16, 0, [⟨15, 0, .wo⟩]⟩,
  ⟨0x1000012, [], 16, 0, [⟨15, 12, .wo⟩, ⟨7, 0, .wo⟩]⟩,
  ⟨0x1000014, [], 16, 0, [⟨15, 8, .ro⟩, ⟨7, 7, .ro⟩, ⟨6, 4, .ro⟩, ⟨3, 0, .ro⟩]⟩,
  ⟨0x1000016, [], 16, 0x6000, [⟨15, 12, .rw⟩, ⟨3, 0, .rw⟩]⟩,
  ⟨0x1000018, [], 16, 0, [⟨15, 0, .rw⟩]⟩,
  ⟨0x100001a, [], 16, 0, [⟨15, 12, .ro⟩, ⟨7, 4, .ro⟩, ⟨3, 0, .ro⟩]⟩,
  ⟨0x100001c, [], 16, 0, [⟨7, 0, .ro⟩]⟩,
  ⟨0x100001e, [], 16, 0, [⟨7, 0, .rw⟩]⟩,
  ⟨0x1000020, [(2, 2)], 16, 0, [⟨15, 0, .rw⟩]⟩,
  ⟨0x1000024, [(2, 2)], 16, 0, [⟨15, 0, .ro⟩]⟩,
  ⟨0x1000028, [], 16, 0, [⟨3, 3, .rc⟩, ⟨2, 2, .rc⟩, ⟨1, 1, .rc⟩, ⟨0, 0, .rc⟩]⟩,
  ⟨0x100002a, [], 16, 0, [⟨15, 8, .ro⟩, ⟨7, 0, .ro⟩]⟩,
  ⟨0x100002c, [], 16, 0xa103, [⟨15, 8, .ro⟩, ⟨7, 0, .ro⟩]⟩,
  ⟨0x1000100, [(0x20, 4)], 16, 4, [⟨15, 15, .rw⟩, ⟨14, 14, .rw⟩, ⟨3, 2, .rw⟩, ⟨1, 1, .rw⟩]⟩,
  ⟨0x1000102, [(0x20, 4)], 16, 4, [⟨3, 3, .rc⟩, ⟨2, 2, .rc⟩, ⟨1, 1, .rc⟩, ⟨0, 0, .rc⟩]⟩,
  ⟨0x1000104, [(0x20, 4)], 16, 0, [⟨15, 0, .rw⟩]⟩,
  ⟨0x1000106, [(0x20, 4)], 16, 0, [⟨15, 0, .rw⟩]⟩,
  ⟨0x1000108, [(0x20, 4)], 16, 0x1000, [⟨15, 0, .rw⟩]⟩,
  ⟨0x100010a, [(0x20, 4)], 16, 0x1f40, [⟨15, 0, .rw⟩]⟩,
  ⟨0x100010c, [(0x20, 4)], 16, 0xfa0, [⟨15, 0, .rw⟩]⟩,
  ⟨0x100010e, [(0x20, 4)], 16, 0x40, [⟨6, 0, .rw⟩]⟩,
  ⟨0x1000400, [(0x100, 4), (2, 128)], 16, 0xffff, [⟨15, 8, .rw⟩, ⟨7, 0, .rw⟩]⟩]

/-- Register classes of CAL. -/
def regTableCAL : List RegClass := [
  ⟨0x100000, [], 32, 2, [⟨1, 1, .rw⟩, ⟨0, 0, .wo⟩]⟩,
  ⟨0x100004, [], 32, 0, [⟨31, 31, .ro⟩, ⟨30, 30, .ro⟩, ⟨29, 28, .ro⟩, ⟨27, 26, .ro⟩, ⟨10, 0, .ro⟩]⟩,
  ⟨0x100008, [], 32, 0, [⟨31, 0, .ro⟩]⟩,
  ⟨0x10000c, [], 32, 0, [⟨31, 0, .ro⟩]⟩,
  ⟨0x100010, [], 32, 0, [⟨31, 0, .ro⟩]⟩,
  ⟨0x100014, [], 32, 0, [⟨31, 0, .ro⟩]⟩,
  ⟨0x100018, [], 32, 0, [⟨31, 24, .ro⟩, ⟨23, 16, .ro⟩, ⟨15, 8, .ro⟩, ⟨7, 0, .ro⟩]⟩,
  ⟨0x10001c, [], 32, 0, [⟨2, 2, .w1c⟩, ⟨1, 1, .w1c⟩, ⟨0, 0, .w1c⟩]⟩,
  ⟨0x100020, [], 32, 0, [⟨31, 0, .rw⟩]⟩]

end Sys2Proof.Machine
end

