-- ==== Sys2Proof/Machine/RegsSys.lean ====
section
/-! DEFINITION. Registers of the blocks SYS, MSIX, FRD, EVT, SHT, URG, FLT: one `Reg` per register of the spec's offset tables, one `Fld` per field of its
field tables (same names), and per block the list of register classes that a host access is looked up in. -/

namespace Sys2Proof.Machine

/-! Registers placed by R54 of 02_frond_image.md. -/
def R.FRD_CTRL : Reg := ⟨0x10000, 32, 0⟩
def F.FRD_CTRL.push_abort : Fld := ⟨R.FRD_CTRL, 2, 2⟩
def F.FRD_CTRL.push_done : Fld := ⟨R.FRD_CTRL, 1, 1⟩
def F.FRD_CTRL.push_start : Fld := ⟨R.FRD_CTRL, 0, 0⟩

def R.FRD_STATUS : Reg := ⟨0x10004, 32, 0⟩
def F.FRD_STATUS.code : Fld := ⟨R.FRD_STATUS, 15, 8⟩
def F.FRD_STATUS.state : Fld := ⟨R.FRD_STATUS, 2, 0⟩

def R.FRD_ERR_OFFSET : Reg := ⟨0x10008, 32, 0xffffffff⟩
def F.FRD_ERR_OFFSET.offset : Fld := ⟨R.FRD_ERR_OFFSET, 31, 0⟩

def R.FRD_PUSH_DATA : Reg := ⟨0x1000c, 32, 0⟩
def F.FRD_PUSH_DATA.data : Fld := ⟨R.FRD_PUSH_DATA, 31, 0⟩

def R.FRD_PUSH_COUNT : Reg := ⟨0x10010, 32, 0⟩
def F.FRD_PUSH_COUNT.bytes : Fld := ⟨R.FRD_PUSH_COUNT, 31, 0⟩

def R.FRD_IMAGE_SERIAL : Reg := ⟨0x10014, 32, 0⟩
def F.FRD_IMAGE_SERIAL.serial : Fld := ⟨R.FRD_IMAGE_SERIAL, 31, 0⟩

def R.FRD_IMAGE_CRC : Reg := ⟨0x10018, 32, 0⟩
def F.FRD_IMAGE_CRC.crc : Fld := ⟨R.FRD_IMAGE_CRC, 31, 0⟩

def R.FRD_FUSE : Reg := ⟨0x1001c, 32, 0 + Config.fuseSigRequired.toNat <<< 8 + Config.fuseKeyRevoked.toNat <<< 4 + Config.fuseKeyProgrammed.toNat <<< 0⟩
def F.FRD_FUSE.sig_required : Fld := ⟨R.FRD_FUSE, 8, 8⟩
def F.FRD_FUSE.key_revoked : Fld := ⟨R.FRD_FUSE, 7, 4⟩
def F.FRD_FUSE.key_programmed : Fld := ⟨R.FRD_FUSE, 3, 0⟩

def R.FRD_PINNA_MAP : Reg := ⟨0x10020, 32, 0⟩
def F.FRD_PINNA_MAP.present : Fld := ⟨R.FRD_PINNA_MAP, 9, 1⟩

def R.FRD_PUSH_REJECT : Reg := ⟨0x10024, 32, 0⟩
def F.FRD_PUSH_REJECT.count : Fld := ⟨R.FRD_PUSH_REJECT, 15, 0⟩

/-! Registers placed by R66 of 03_bring_up_and_reset.md. -/
def R.SYS_ID : Reg := ⟨0, 32, 0x8800000 + Config.revision.toNat <<< 0⟩
def F.SYS_ID.device : Fld := ⟨R.SYS_ID, 31, 16⟩
def F.SYS_ID.revision : Fld := ⟨R.SYS_ID, 7, 0⟩

def R.SYS_STRAPS : Reg := ⟨4, 32, 0⟩
def F.SYS_STRAPS.bootsrc : Fld := ⟨R.SYS_STRAPS, 2, 2⟩
def F.SYS_STRAPS.twsel : Fld := ⟨R.SYS_STRAPS, 1, 1⟩
def F.SYS_STRAPS.pers : Fld := ⟨R.SYS_STRAPS, 0, 0⟩

def R.SYS_PHASE : Reg := ⟨0x10, 32, 0x10003⟩
def F.SYS_PHASE.cause : Fld := ⟨R.SYS_PHASE, 31, 24⟩
def F.SYS_PHASE.state : Fld := ⟨R.SYS_PHASE, 19, 16⟩
def F.SYS_PHASE.phase : Fld := ⟨R.SYS_PHASE, 7, 0⟩

def R.SYS_BRINGUP_CTRL : Reg := ⟨0x14, 32, 0⟩
def F.SYS_BRINGUP_CTRL.retry : Fld := ⟨R.SYS_BRINGUP_CTRL, 1, 1⟩
def F.SYS_BRINGUP_CTRL.engine_go : Fld := ⟨R.SYS_BRINGUP_CTRL, 0, 0⟩

def R.SYS_BRINGUP_REJECT : Reg := ⟨0x18, 32, 0⟩
def F.SYS_BRINGUP_REJECT.count : Fld := ⟨R.SYS_BRINGUP_REJECT, 15, 0⟩

def R.SYS_RESET : Reg := ⟨0x20, 32, 0⟩
def F.SYS_RESET.key : Fld := ⟨R.SYS_RESET, 31, 16⟩
def F.SYS_RESET.force : Fld := ⟨R.SYS_RESET, 2, 2⟩
def F.SYS_RESET.full_reset : Fld := ⟨R.SYS_RESET, 1, 1⟩
def F.SYS_RESET.host_reset : Fld := ⟨R.SYS_RESET, 0, 0⟩

def R.SYS_RESET_CAUSE : Reg := ⟨0x24, 32, 1⟩
def F.SYS_RESET_CAUSE.full_refused : Fld := ⟨R.SYS_RESET_CAUSE, 9, 9⟩
def F.SYS_RESET_CAUSE.orphan_seen : Fld := ⟨R.SYS_RESET_CAUSE, 8, 8⟩
def F.SYS_RESET_CAUSE.flr : Fld := ⟨R.SYS_RESET_CAUSE, 7, 7⟩
def F.SYS_RESET_CAUSE.link_down : Fld := ⟨R.SYS_RESET_CAUSE, 6, 6⟩
def F.SYS_RESET_CAUSE.hot_reset : Fld := ⟨R.SYS_RESET_CAUSE, 5, 5⟩
def F.SYS_RESET_CAUSE.perst : Fld := ⟨R.SYS_RESET_CAUSE, 4, 4⟩
def F.SYS_RESET_CAUSE.sw_host : Fld := ⟨R.SYS_RESET_CAUSE, 3, 3⟩
def F.SYS_RESET_CAUSE.sw_full : Fld := ⟨R.SYS_RESET_CAUSE, 2, 2⟩
def F.SYS_RESET_CAUSE.porst_pin : Fld := ⟨R.SYS_RESET_CAUSE, 1, 1⟩
def F.SYS_RESET_CAUSE.aon_por : Fld := ⟨R.SYS_RESET_CAUSE, 0, 0⟩

def R.SYS_RESET_COUNT : Reg := ⟨0x28, 32, 0⟩
def F.SYS_RESET_COUNT.full : Fld := ⟨R.SYS_RESET_COUNT, 31, 16⟩
def F.SYS_RESET_COUNT.host : Fld := ⟨R.SYS_RESET_COUNT, 15, 0⟩

def R.SYS_HOST_WDOG : Reg := ⟨0x30, 32, 0⟩
def F.SYS_HOST_WDOG.kick : Fld := ⟨R.SYS_HOST_WDOG, 0, 0⟩

def R.SYS_HOST_STATE : Reg := ⟨0x34, 32, 4⟩
def F.SYS_HOST_STATE.in_flight : Fld := ⟨R.SYS_HOST_STATE, 15, 8⟩
def F.SYS_HOST_STATE.state : Fld := ⟨R.SYS_HOST_STATE, 2, 0⟩

def R.SYS_READY : Reg := ⟨0x40, 32, 0⟩
def F.SYS_READY.engine_ready : Fld := ⟨R.SYS_READY, 31, 31⟩
def F.SYS_READY.chan_ready : Fld := ⟨R.SYS_READY, 23, 16⟩
def F.SYS_READY.twin_ready : Fld := ⟨R.SYS_READY, 15, 15⟩
def F.SYS_READY.fuser_ready : Fld := ⟨R.SYS_READY, 14, 14⟩
def F.SYS_READY.hv_ready : Fld := ⟨R.SYS_READY, 13, 13⟩
def F.SYS_READY.process_ready : Fld := ⟨R.SYS_READY, 12, 12⟩
def F.SYS_READY.thermal_ok : Fld := ⟨R.SYS_READY, 11, 11⟩
def F.SYS_READY.no_stop_fault : Fld := ⟨R.SYS_READY, 10, 10⟩
def F.SYS_READY.ring_ready : Fld := ⟨R.SYS_READY, 9, 9⟩
def F.SYS_READY.mem_ready : Fld := ⟨R.SYS_READY, 8, 8⟩
def F.SYS_READY.tbase_locked : Fld := ⟨R.SYS_READY, 7, 7⟩
def F.SYS_READY.core_locked : Fld := ⟨R.SYS_READY, 6, 6⟩
def F.SYS_READY.frond_ok : Fld := ⟨R.SYS_READY, 5, 5⟩

def R.SYS_SECONDS : Reg := ⟨0x48, 32, 0⟩
def F.SYS_SECONDS.seconds : Fld := ⟨R.SYS_SECONDS, 31, 0⟩

def R.SYS_BAR2_REJECT : Reg := ⟨0x50, 32, 0⟩
def F.SYS_BAR2_REJECT.count : Fld := ⟨R.SYS_BAR2_REJECT, 15, 0⟩

def R.SYS_PHASE_TIMEk (k : Nat) : Reg := ⟨0x80 + k * 4, 32, 0xffffffff⟩
def F.SYS_PHASE_TIMEk.us (k : Nat) : Fld := ⟨(R.SYS_PHASE_TIMEk k), 31, 0⟩

/-! Registers placed by R101 of 04_engine_time_and_events.md. -/
def R.EVT_TIME : Reg := ⟨0x20000, 64, 0⟩
def F.EVT_TIME.ticks : Fld := ⟨R.EVT_TIME, 63, 0⟩

def R.EVT_CAPTURE_TIME : Reg := ⟨0x20008, 64, 0⟩
def F.EVT_CAPTURE_TIME.ticks : Fld := ⟨R.EVT_CAPTURE_TIME, 63, 0⟩

def R.EVT_CAPTURE_CTRL : Reg := ⟨0x20010, 32, 0⟩
def F.EVT_CAPTURE_CTRL.capture : Fld := ⟨R.EVT_CAPTURE_CTRL, 0, 0⟩

def R.EVT_CAPTURE_SECONDS : Reg := ⟨0x20014, 32, 0⟩
def F.EVT_CAPTURE_SECONDS.seconds : Fld := ⟨R.EVT_CAPTURE_SECONDS, 31, 0⟩

def R.EVT_ESN : Reg := ⟨0x20018, 32, 0⟩
def F.EVT_ESN.next : Fld := ⟨R.EVT_ESN, 31, 0⟩

def R.EVT_TALLY_LOST : Reg := ⟨0x2001c, 32, 0⟩
def F.EVT_TALLY_LOST.count : Fld := ⟨R.EVT_TALLY_LOST, 31, 0⟩

def R.EVT_TALLY_MARK : Reg := ⟨0x20020, 32, 0⟩
def F.EVT_TALLY_MARK.value : Fld := ⟨R.EVT_TALLY_MARK, 31, 0⟩

def R.EVT_ARMED_COUNT : Reg := ⟨0x20024, 32, 0⟩
def F.EVT_ARMED_COUNT.count : Fld := ⟨R.EVT_ARMED_COUNT, 12, 0⟩

def R.EVT_LATE_COUNT : Reg := ⟨0x20028, 32, 0⟩
def F.EVT_LATE_COUNT.count : Fld := ⟨R.EVT_LATE_COUNT, 31, 0⟩

def R.EVT_STATUS : Reg := ⟨0x20030, 32, 0⟩
def F.EVT_STATUS.irq_overrun : Fld := ⟨R.EVT_STATUS, 5, 5⟩
def F.EVT_STATUS.enc_error : Fld := ⟨R.EVT_STATUS, 4, 4⟩
def F.EVT_STATUS.reversal : Fld := ⟨R.EVT_STATUS, 3, 3⟩
def F.EVT_STATUS.refused : Fld := ⟨R.EVT_STATUS, 2, 2⟩
def F.EVT_STATUS.late : Fld := ⟨R.EVT_STATUS, 1, 1⟩
def F.EVT_STATUS.edit_done : Fld := ⟨R.EVT_STATUS, 0, 0⟩

def R.EVT_IRQ_EN : Reg := ⟨0x20034, 32, 0⟩
def F.EVT_IRQ_EN.irq_overrun : Fld := ⟨R.EVT_IRQ_EN, 5, 5⟩
def F.EVT_IRQ_EN.enc_error : Fld := ⟨R.EVT_IRQ_EN, 4, 4⟩
def F.EVT_IRQ_EN.reversal : Fld := ⟨R.EVT_IRQ_EN, 3, 3⟩
def F.EVT_IRQ_EN.refused : Fld := ⟨R.EVT_IRQ_EN, 2, 2⟩
def F.EVT_IRQ_EN.late : Fld := ⟨R.EVT_IRQ_EN, 1, 1⟩
def F.EVT_IRQ_EN.edit_done : Fld := ⟨R.EVT_IRQ_EN, 0, 0⟩

def R.EVT_IRQ_PEND : Reg := ⟨0x20040, 64, 0⟩
def F.EVT_IRQ_PEND.pending : Fld := ⟨R.EVT_IRQ_PEND, 63, 20⟩

def R.EVT_IRQ_OVERRUN : Reg := ⟨0x20048, 64, 0⟩
def F.EVT_IRQ_OVERRUN.overrun : Fld := ⟨R.EVT_IRQ_OVERRUN, 63, 20⟩

def R.EVT_EDIT_CTRL : Reg := ⟨0x20050, 32, 0⟩
def F.EVT_EDIT_CTRL.op : Fld := ⟨R.EVT_EDIT_CTRL, 31, 30⟩
def F.EVT_EDIT_CTRL.index : Fld := ⟨R.EVT_EDIT_CTRL, 11, 0⟩

def R.EVT_EDIT_RESULT : Reg := ⟨0x20054, 32, 0⟩
def F.EVT_EDIT_RESULT.busy : Fld := ⟨R.EVT_EDIT_RESULT, 31, 31⟩
def F.EVT_EDIT_RESULT.result : Fld := ⟨R.EVT_EDIT_RESULT, 27, 24⟩
def F.EVT_EDIT_RESULT.check : Fld := ⟨R.EVT_EDIT_RESULT, 23, 16⟩
def F.EVT_EDIT_RESULT.index : Fld := ⟨R.EVT_EDIT_RESULT, 11, 0⟩

def R.EVT_EDIT_DATAj (j : Nat) : Reg := ⟨0x20060 + j * 4, 32, 0⟩
def F.EVT_EDIT_DATAj.data (j : Nat) : Fld := ⟨(R.EVT_EDIT_DATAj j), 31, 0⟩

def R.EVT_ENCn_CTRL (n : Nat) : Reg := ⟨0x20100 + n * 0x40, 32, 0x4020001⟩
def F.EVT_ENCn_CTRL.filter_ticks (n : Nat) : Fld := ⟨(R.EVT_ENCn_CTRL n), 31, 24⟩
def F.EVT_ENCn_CTRL.deadband (n : Nat) : Fld := ⟨(R.EVT_ENCn_CTRL n), 18, 16⟩
def F.EVT_ENCn_CTRL.z_edge (n : Nat) : Fld := ⟨(R.EVT_ENCn_CTRL n), 3, 3⟩
def F.EVT_ENCn_CTRL.invert (n : Nat) : Fld := ⟨(R.EVT_ENCn_CTRL n), 2, 2⟩
def F.EVT_ENCn_CTRL.rebase (n : Nat) : Fld := ⟨(R.EVT_ENCn_CTRL n), 1, 1⟩
def F.EVT_ENCn_CTRL.enable (n : Nat) : Fld := ⟨(R.EVT_ENCn_CTRL n), 0, 0⟩

def R.EVT_ENCn_STATUS (n : Nat) : Reg := ⟨0x20104 + n * 0x40, 32, 0⟩
def F.EVT_ENCn_STATUS.saturated (n : Nat) : Fld := ⟨(R.EVT_ENCn_STATUS n), 4, 4⟩
def F.EVT_ENCn_STATUS.rebase_refused (n : Nat) : Fld := ⟨(R.EVT_ENCn_STATUS n), 3, 3⟩
def F.EVT_ENCn_STATUS.illegal (n : Nat) : Fld := ⟨(R.EVT_ENCn_STATUS n), 2, 2⟩
def F.EVT_ENCn_STATUS.reversing (n : Nat) : Fld := ⟨(R.EVT_ENCn_STATUS n), 1, 1⟩
def F.EVT_ENCn_STATUS.index_seen (n : Nat) : Fld := ⟨(R.EVT_ENCn_STATUS n), 0, 0⟩

def R.EVT_ENCn_JITTER (n : Nat) : Reg := ⟨0x20108 + n * 0x40, 32, 0⟩
def F.EVT_ENCn_JITTER.count (n : Nat) : Fld := ⟨(R.EVT_ENCn_JITTER n), 31, 0⟩

def R.EVT_ENCn_COUNTS (n : Nat) : Reg := ⟨0x2010c + n * 0x40, 32, 0⟩
def F.EVT_ENCn_COUNTS.reversals (n : Nat) : Fld := ⟨(R.EVT_ENCn_COUNTS n), 31, 16⟩
def F.EVT_ENCn_COUNTS.illegal (n : Nat) : Fld := ⟨(R.EVT_ENCn_COUNTS n), 15, 0⟩

def R.EVT_ENCn_RAW (n : Nat) : Reg := ⟨0x20110 + n * 0x40, 64, 0⟩
def F.EVT_ENCn_RAW.raw (n : Nat) : Fld := ⟨(R.EVT_ENCn_RAW n), 63, 0⟩

def R.EVT_ENCn_HWM (n : Nat) : Reg := ⟨0x20118 + n * 0x40, 64, 0⟩
def F.EVT_ENCn_HWM.hwm (n : Nat) : Fld := ⟨(R.EVT_ENCn_HWM n), 63, 0⟩

def R.EVT_ENCn_INDEX_POS (n : Nat) : Reg := ⟨0x20120 + n * 0x40, 64, 0⟩
def F.EVT_ENCn_INDEX_POS.pos (n : Nat) : Fld := ⟨(R.EVT_ENCn_INDEX_POS n), 63, 0⟩

def R.EVT_ENCn_INDEX_TIME (n : Nat) : Reg := ⟨0x20128 + n * 0x40, 64, 0⟩
def F.EVT_ENCn_INDEX_TIME.ticks (n : Nat) : Fld := ⟨(R.EVT_ENCn_INDEX_TIME n), 63, 0⟩

def R.EVT_TALLY (w : Nat) : Reg := ⟨0x28000 + w * 8, 64, 0⟩
def F.EVT_TALLY.word (w : Nat) : Fld := ⟨(R.EVT_TALLY w), 63, 0⟩

/-! Registers placed by R102 of 05_sheets_and_admission.md. -/
def R.SHT_Dd_HEAD (d : Nat) : Reg := ⟨0x34000 + d * 0x200, 32, 0⟩
def F.SHT_Dd_HEAD.sheet_tag (d : Nat) : Fld := ⟨(R.SHT_Dd_HEAD d), 31, 16⟩
def F.SHT_Dd_HEAD.chan_mask (d : Nat) : Fld := ⟨(R.SHT_Dd_HEAD d), 15, 8⟩
def F.SHT_Dd_HEAD.blank_on_spoil (d : Nat) : Fld := ⟨(R.SHT_Dd_HEAD d), 2, 2⟩
def F.SHT_Dd_HEAD.rule (d : Nat) : Fld := ⟨(R.SHT_Dd_HEAD d), 1, 0⟩

def R.SHT_Dd_LINES (d : Nat) : Reg := ⟨0x34004 + d * 0x200, 32, 0⟩
def F.SHT_Dd_LINES.lead_lines (d : Nat) : Fld := ⟨(R.SHT_Dd_LINES d), 31, 16⟩
def F.SHT_Dd_LINES.input_lines (d : Nat) : Fld := ⟨(R.SHT_Dd_LINES d), 15, 0⟩

def R.SHT_Dd_RUNOUT (d : Nat) : Reg := ⟨0x34008 + d * 0x200, 32, 0⟩
def F.SHT_Dd_RUNOUT.runout_ms (d : Nat) : Fld := ⟨(R.SHT_Dd_RUNOUT d), 15, 0⟩

def R.SHT_Dd_STATE (d : Nat) : Reg := ⟨0x3400c + d * 0x200, 32, 0⟩
def F.SHT_Dd_STATE.spoiled (d : Nat) : Fld := ⟨(R.SHT_Dd_STATE d), 31, 31⟩
def F.SHT_Dd_STATE.overrun (d : Nat) : Fld := ⟨(R.SHT_Dd_STATE d), 30, 30⟩
def F.SHT_Dd_STATE.exit_seen (d : Nat) : Fld := ⟨(R.SHT_Dd_STATE d), 29, 29⟩
def F.SHT_Dd_STATE.cause (d : Nat) : Fld := ⟨(R.SHT_Dd_STATE d), 23, 16⟩
def F.SHT_Dd_STATE.dropped (d : Nat) : Fld := ⟨(R.SHT_Dd_STATE d), 15, 8⟩
def F.SHT_Dd_STATE.state (d : Nat) : Fld := ⟨(R.SHT_Dd_STATE d), 2, 0⟩

def R.SHT_Dd_CHAN (d : Nat) : Reg := ⟨0x34010 + d * 0x200, 32, 0⟩
def F.SHT_Dd_CHAN.ended (d : Nat) : Fld := ⟨(R.SHT_Dd_CHAN d), 15, 8⟩
def F.SHT_Dd_CHAN.started (d : Nat) : Fld := ⟨(R.SHT_Dd_CHAN d), 7, 0⟩

def R.SHT_Dd_BASEn (d n : Nat) : Reg := ⟨0x34040 + d * 0x200 + n * 8, 32, 0⟩
def F.SHT_Dd_BASEn.base (d n : Nat) : Fld := ⟨(R.SHT_Dd_BASEn d n), 31, 0⟩

def R.SHT_Dd_TAGBASEn (d n : Nat) : Reg := ⟨0x34044 + d * 0x200 + n * 8, 32, 0⟩
def F.SHT_Dd_TAGBASEn.base (d n : Nat) : Fld := ⟨(R.SHT_Dd_TAGBASEn d n), 31, 0⟩

def R.SHT_Dd_ARMk (d k : Nat) : Reg := ⟨0x34080 + d * 0x200 + k * 4, 32, 0⟩
def F.SHT_Dd_ARMk.valid (d k : Nat) : Fld := ⟨(R.SHT_Dd_ARMk d k), 31, 31⟩
def F.SHT_Dd_ARMk.index (d k : Nat) : Fld := ⟨(R.SHT_Dd_ARMk d k), 11, 0⟩

def R.SHT_Dd_TRIGk (d k : Nat) : Reg := ⟨0x340c0 + d * 0x200 + k * 8, 64, 0⟩
def F.SHT_Dd_TRIGk.trigger (d k : Nat) : Fld := ⟨(R.SHT_Dd_TRIGk d k), 63, 0⟩

def R.SHT_Dd_FILLn (d n : Nat) : Reg := ⟨0x34140 + d * 0x200 + n * 4, 32, 0⟩
def F.SHT_Dd_FILLn.lines (d n : Nat) : Fld := ⟨(R.SHT_Dd_FILLn d n), 15, 0⟩

def R.SHT_Dd_PROGn (d n : Nat) : Reg := ⟨0x34160 + d * 0x200 + n * 4, 32, 0⟩
def F.SHT_Dd_PROGn.slipped (d n : Nat) : Fld := ⟨(R.SHT_Dd_PROGn d n), 31, 16⟩
def F.SHT_Dd_PROGn.requested (d n : Nat) : Fld := ⟨(R.SHT_Dd_PROGn d n), 15, 0⟩

def R.SHT_Dd_PICK_TIME (d : Nat) : Reg := ⟨0x34180 + d * 0x200, 64, 0⟩
def F.SHT_Dd_PICK_TIME.ticks (d : Nat) : Fld := ⟨(R.SHT_Dd_PICK_TIME d), 63, 0⟩

def R.SHT_Dd_DONE_TIME (d : Nat) : Reg := ⟨0x34188 + d * 0x200, 64, 0⟩
def F.SHT_Dd_DONE_TIME.ticks (d : Nat) : Fld := ⟨(R.SHT_Dd_DONE_TIME d), 63, 0⟩

/-! Registers placed by R122 of 05_sheets_and_admission.md. -/
def R.SHT_CMD : Reg := ⟨0x30000, 32, 0⟩
def F.SHT_CMD.op : Fld := ⟨R.SHT_CMD, 31, 28⟩
def F.SHT_CMD.desc : Fld := ⟨R.SHT_CMD, 4, 0⟩

def R.SHT_RESULT : Reg := ⟨0x30004, 32, 0xff00⟩
def F.SHT_RESULT.busy : Fld := ⟨R.SHT_RESULT, 31, 31⟩
def F.SHT_RESULT.result : Fld := ⟨R.SHT_RESULT, 27, 24⟩
def F.SHT_RESULT.cause : Fld := ⟨R.SHT_RESULT, 23, 16⟩
def F.SHT_RESULT.channel : Fld := ⟨R.SHT_RESULT, 15, 8⟩
def F.SHT_RESULT.desc : Fld := ⟨R.SHT_RESULT, 4, 0⟩

def R.SHT_STATUS : Reg := ⟨0x30008, 32, 0⟩
def F.SHT_STATUS.credit_error : Fld := ⟨R.SHT_STATUS, 7, 7⟩
def F.SHT_STATUS.completed : Fld := ⟨R.SHT_STATUS, 6, 6⟩
def F.SHT_STATUS.spoiled : Fld := ⟨R.SHT_STATUS, 5, 5⟩
def F.SHT_STATUS.cancelled : Fld := ⟨R.SHT_STATUS, 4, 4⟩
def F.SHT_STATUS.picked : Fld := ⟨R.SHT_STATUS, 3, 3⟩
def F.SHT_STATUS.refused : Fld := ⟨R.SHT_STATUS, 2, 2⟩
def F.SHT_STATUS.admitted : Fld := ⟨R.SHT_STATUS, 1, 1⟩
def F.SHT_STATUS.cmd_done : Fld := ⟨R.SHT_STATUS, 0, 0⟩

def R.SHT_IRQ_EN : Reg := ⟨0x3000c, 32, 0⟩
def F.SHT_IRQ_EN.enable : Fld := ⟨R.SHT_IRQ_EN, 31, 0⟩

def R.SHT_ACTIVE : Reg := ⟨0x30010, 32, 0⟩
def F.SHT_ACTIVE.busy : Fld := ⟨R.SHT_ACTIVE, 31, 0⟩

def R.SHT_ADMITTED : Reg := ⟨0x30014, 32, 0⟩
def F.SHT_ADMITTED.count : Fld := ⟨R.SHT_ADMITTED, 31, 0⟩

def R.SHT_SPOILED : Reg := ⟨0x30018, 32, 0⟩
def F.SHT_SPOILED.count : Fld := ⟨R.SHT_SPOILED, 31, 0⟩

def R.SHT_CANCELLED : Reg := ⟨0x3001c, 32, 0⟩
def F.SHT_CANCELLED.count : Fld := ⟨R.SHT_CANCELLED, 31, 0⟩

def R.SHT_CREDIT_ERR : Reg := ⟨0x30020, 32, 0⟩
def F.SHT_CREDIT_ERR.count : Fld := ⟨R.SHT_CREDIT_ERR, 31, 0⟩

/-! Registers placed by R381 of 18_faults.md. -/
def R.FLT_FSW : Reg := ⟨0xe0000, 64, 0⟩
def F.FLT_FSW.open : Fld := ⟨R.FLT_FSW, 40, 0⟩

def R.FLT_ACTIVE : Reg := ⟨0xe0008, 64, 0⟩
def F.FLT_ACTIVE.active : Fld := ⟨R.FLT_ACTIVE, 40, 0⟩

def R.FLT_ACK : Reg := ⟨0xe0010, 64, 0⟩
def F.FLT_ACK.all : Fld := ⟨R.FLT_ACK, 63, 63⟩
def F.FLT_ACK.index : Fld := ⟨R.FLT_ACK, 37, 32⟩
def F.FLT_ACK.esn_upto : Fld := ⟨R.FLT_ACK, 31, 0⟩

def R.FLT_STATUS : Reg := ⟨0xe0018, 32, 0⟩
def F.FLT_STATUS.alive_running : Fld := ⟨R.FLT_STATUS, 31, 31⟩
def F.FLT_STATUS.alive_level : Fld := ⟨R.FLT_STATUS, 30, 30⟩
def F.FLT_STATUS.beat_ok : Fld := ⟨R.FLT_STATUS, 29, 29⟩
def F.FLT_STATUS.shadow_open : Fld := ⟨R.FLT_STATUS, 28, 28⟩
def F.FLT_STATUS.admissions_held : Fld := ⟨R.FLT_STATUS, 27, 27⟩
def F.FLT_STATUS.estop_open : Fld := ⟨R.FLT_STATUS, 26, 26⟩

def R.FLT_OPEN : Reg := ⟨0xe001c, 32, 0⟩
def F.FLT_OPEN.class4 : Fld := ⟨R.FLT_OPEN, 29, 24⟩
def F.FLT_OPEN.class3 : Fld := ⟨R.FLT_OPEN, 23, 18⟩
def F.FLT_OPEN.class2 : Fld := ⟨R.FLT_OPEN, 17, 12⟩
def F.FLT_OPEN.class1 : Fld := ⟨R.FLT_OPEN, 11, 6⟩
def F.FLT_OPEN.class0 : Fld := ⟨R.FLT_OPEN, 5, 0⟩

def R.FLT_COUNT : Reg := ⟨0xe0020, 32, 0⟩
def F.FLT_COUNT.next : Fld := ⟨R.FLT_COUNT, 31, 0⟩

def R.FLT_LOST : Reg := ⟨0xe0024, 32, 0⟩
def F.FLT_LOST.rejected : Fld := ⟨R.FLT_LOST, 31, 16⟩
def F.FLT_LOST.overwritten : Fld := ⟨R.FLT_LOST, 15, 0⟩

def R.FLT_IRQ_STATUS : Reg := ⟨0xe0028, 32, 0⟩
def F.FLT_IRQ_STATUS.lost : Fld := ⟨R.FLT_IRQ_STATUS, 4, 4⟩
def F.FLT_IRQ_STATUS.recovered : Fld := ⟨R.FLT_IRQ_STATUS, 3, 3⟩
def F.FLT_IRQ_STATUS.consequential : Fld := ⟨R.FLT_IRQ_STATUS, 2, 2⟩
def F.FLT_IRQ_STATUS.host : Fld := ⟨R.FLT_IRQ_STATUS, 1, 1⟩
def F.FLT_IRQ_STATUS.record : Fld := ⟨R.FLT_IRQ_STATUS, 0, 0⟩

def R.FLT_IRQ_EN : Reg := ⟨0xe002c, 32, 0⟩
def F.FLT_IRQ_EN.enable : Fld := ⟨R.FLT_IRQ_EN, 4, 2⟩

def R.FLT_RECOVERYc (c : Nat) : Reg := ⟨0xe0040 + c * 4, 32, 0⟩
def F.FLT_RECOVERYc.count (c : Nat) : Fld := ⟨(R.FLT_RECOVERYc c), 31, 0⟩

def R.FLT_SRCi_STATE (i : Nat) : Reg := ⟨0xe0100 + i * 8, 32, 0⟩
def F.FLT_SRCi_STATE.open (i : Nat) : Fld := ⟨(R.FLT_SRCi_STATE i), 31, 24⟩
def F.FLT_SRCi_STATE.active (i : Nat) : Fld := ⟨(R.FLT_SRCi_STATE i), 23, 23⟩
def F.FLT_SRCi_STATE.quiet_running (i : Nat) : Fld := ⟨(R.FLT_SRCi_STATE i), 22, 22⟩
def F.FLT_SRCi_STATE.holds_admission (i : Nat) : Fld := ⟨(R.FLT_SRCi_STATE i), 21, 21⟩
def F.FLT_SRCi_STATE.max_class (i : Nat) : Fld := ⟨(R.FLT_SRCi_STATE i), 20, 18⟩
def F.FLT_SRCi_STATE.merged (i : Nat) : Fld := ⟨(R.FLT_SRCi_STATE i), 15, 0⟩

def R.FLT_SRCi_ESN (i : Nat) : Reg := ⟨0xe0104 + i * 8, 32, 0⟩
def F.FLT_SRCi_ESN.last (i : Nat) : Fld := ⟨(R.FLT_SRCi_ESN i), 31, 0⟩

def R.FLT_LATCH_CTRL : Reg := ⟨0xe0400, 32, 0⟩
def F.FLT_LATCH_CTRL.clear : Fld := ⟨R.FLT_LATCH_CTRL, 0, 0⟩

def R.FLT_LATCH_INFO : Reg := ⟨0xe0404, 32, 0⟩
def F.FLT_LATCH_INFO.reason : Fld := ⟨R.FLT_LATCH_INFO, 31, 30⟩
def F.FLT_LATCH_INFO.complete : Fld := ⟨R.FLT_LATCH_INFO, 29, 29⟩
def F.FLT_LATCH_INFO.records : Fld := ⟨R.FLT_LATCH_INFO, 3, 0⟩

def R.FLT_LATCH_SECONDS : Reg := ⟨0xe0408, 32, 0⟩
def F.FLT_LATCH_SECONDS.seconds : Fld := ⟨R.FLT_LATCH_SECONDS, 31, 0⟩

def R.FLT_LATCH_FSW : Reg := ⟨0xe0410, 64, 0⟩
def F.FLT_LATCH_FSW.fsw : Fld := ⟨R.FLT_LATCH_FSW, 63, 0⟩

def R.FLT_LATCH_OPEN : Reg := ⟨0xe0418, 32, 0⟩
def F.FLT_LATCH_OPEN.open : Fld := ⟨R.FLT_LATCH_OPEN, 31, 0⟩

def R.FLT_LATCH_RECj (j w : Nat) : Reg := ⟨0xe0600 + j * 0x20 + w * 8, 64, 0⟩
def F.FLT_LATCH_RECj.word (j w : Nat) : Fld := ⟨(R.FLT_LATCH_RECj j w), 63, 0⟩

def R.FLT_HISTORY (w : Nat) : Reg := ⟨0xe1000 + w * 8, 64, 0⟩
def F.FLT_HISTORY.word (w : Nat) : Fld := ⟨(R.FLT_HISTORY w), 63, 0⟩

/-! Registers placed by R411 of 20_host_port.md. -/
def R.SYS_CFG_HOST_ERR : Reg := ⟨0x2000408, 32, 0⟩
def F.SYS_CFG_HOST_ERR.poisoned_rx : Fld := ⟨R.SYS_CFG_HOST_ERR, 7, 7⟩
def F.SYS_CFG_HOST_ERR.cpl_timeout : Fld := ⟨R.SYS_CFG_HOST_ERR, 6, 6⟩
def F.SYS_CFG_HOST_ERR.ur_sent : Fld := ⟨R.SYS_CFG_HOST_ERR, 5, 5⟩
def F.SYS_CFG_HOST_ERR.link_down : Fld := ⟨R.SYS_CFG_HOST_ERR, 4, 4⟩
def F.SYS_CFG_HOST_ERR.urg_dropped : Fld := ⟨R.SYS_CFG_HOST_ERR, 3, 3⟩
def F.SYS_CFG_HOST_ERR.discarded : Fld := ⟨R.SYS_CFG_HOST_ERR, 2, 2⟩
def F.SYS_CFG_HOST_ERR.off_domain : Fld := ⟨R.SYS_CFG_HOST_ERR, 1, 1⟩
def F.SYS_CFG_HOST_ERR.misaligned : Fld := ⟨R.SYS_CFG_HOST_ERR, 0, 0⟩

def R.SYS_CFG_HOST_COUNTS : Reg := ⟨0x200040c, 32, 0⟩
def F.SYS_CFG_HOST_COUNTS.link_downs : Fld := ⟨R.SYS_CFG_HOST_COUNTS, 31, 16⟩
def F.SYS_CFG_HOST_COUNTS.errors : Fld := ⟨R.SYS_CFG_HOST_COUNTS, 15, 0⟩

/-! Registers placed by R424 of 20_host_port.md. -/
def R.URG_CMD : Reg := ⟨0x110000, 32, 0⟩
def F.URG_CMD.key : Fld := ⟨R.URG_CMD, 31, 16⟩
def F.URG_CMD.dma_halt : Fld := ⟨R.URG_CMD, 2, 2⟩
def F.URG_CMD.permit_off : Fld := ⟨R.URG_CMD, 1, 1⟩
def F.URG_CMD.engine_stop : Fld := ⟨R.URG_CMD, 0, 0⟩

def R.URG_STATUS : Reg := ⟨0x110004, 32, 0⟩
def F.URG_STATUS.estop_level : Fld := ⟨R.URG_STATUS, 31, 31⟩
def F.URG_STATUS.estop_closed : Fld := ⟨R.URG_STATUS, 6, 6⟩
def F.URG_STATUS.estop_opened : Fld := ⟨R.URG_STATUS, 5, 5⟩
def F.URG_STATUS.refused : Fld := ⟨R.URG_STATUS, 4, 4⟩
def F.URG_STATUS.dma_done : Fld := ⟨R.URG_STATUS, 2, 2⟩
def F.URG_STATUS.permit_done : Fld := ⟨R.URG_STATUS, 1, 1⟩
def F.URG_STATUS.stop_done : Fld := ⟨R.URG_STATUS, 0, 0⟩

def R.URG_IRQ_EN : Reg := ⟨0x110008, 32, 0⟩
def F.URG_IRQ_EN.enable : Fld := ⟨R.URG_IRQ_EN, 6, 5⟩

def R.URG_COUNTS : Reg := ⟨0x11000c, 32, 0⟩
def F.URG_COUNTS.estops : Fld := ⟨R.URG_COUNTS, 31, 16⟩
def F.URG_COUNTS.doorbells : Fld := ⟨R.URG_COUNTS, 15, 0⟩

/-! Registers placed by R427 of 20_host_port.md. -/
def R.FRD_QSPI_CTRL : Reg := ⟨0x10100, 32, 0⟩
def F.FRD_QSPI_CTRL.go : Fld := ⟨R.FRD_QSPI_CTRL, 31, 31⟩
def F.FRD_QSPI_CTRL.dir : Fld := ⟨R.FRD_QSPI_CTRL, 30, 29⟩
def F.FRD_QSPI_CTRL.quad : Fld := ⟨R.FRD_QSPI_CTRL, 28, 28⟩
def F.FRD_QSPI_CTRL.addr : Fld := ⟨R.FRD_QSPI_CTRL, 27, 27⟩
def F.FRD_QSPI_CTRL.dummy : Fld := ⟨R.FRD_QSPI_CTRL, 23, 16⟩
def F.FRD_QSPI_CTRL.len : Fld := ⟨R.FRD_QSPI_CTRL, 15, 8⟩
def F.FRD_QSPI_CTRL.opcode : Fld := ⟨R.FRD_QSPI_CTRL, 7, 0⟩

def R.FRD_QSPI_ADDR : Reg := ⟨0x10104, 32, 0⟩
def F.FRD_QSPI_ADDR.address : Fld := ⟨R.FRD_QSPI_ADDR, 23, 0⟩

def R.FRD_QSPI_STATUS : Reg := ⟨0x10108, 32, 0⟩
def F.FRD_QSPI_STATUS.busy : Fld := ⟨R.FRD_QSPI_STATUS, 31, 31⟩
def F.FRD_QSPI_STATUS.done : Fld := ⟨R.FRD_QSPI_STATUS, 30, 30⟩
def F.FRD_QSPI_STATUS.refused : Fld := ⟨R.FRD_QSPI_STATUS, 29, 29⟩
def F.FRD_QSPI_STATUS.count : Fld := ⟨R.FRD_QSPI_STATUS, 15, 0⟩

def R.FRD_QSPI_CFG : Reg := ⟨0x1010c, 32, 7⟩
def F.FRD_QSPI_CFG.div : Fld := ⟨R.FRD_QSPI_CFG, 3, 0⟩

def R.FRD_QSPI_DATA (i : Nat) : Reg := ⟨0x10200 + i * 4, 32, 0⟩
def F.FRD_QSPI_DATA.data (i : Nat) : Fld := ⟨(R.FRD_QSPI_DATA i), 31, 0⟩

/-! Registers placed by R410 of 20_host_port.md. -/
def R.MSIX_ADDR (v : Nat) : Reg := ⟨0x8000 + v * 0x10, 64, 0⟩
def F.MSIX_ADDR.addr (v : Nat) : Fld := ⟨(R.MSIX_ADDR v), 63, 0⟩

def R.MSIX_DATA (v : Nat) : Reg := ⟨0x8008 + v * 0x10, 32, 0⟩
def F.MSIX_DATA.data (v : Nat) : Fld := ⟨(R.MSIX_DATA v), 31, 0⟩

def R.MSIX_CTRL (v : Nat) : Reg := ⟨0x800c + v * 0x10, 32, 1⟩
def F.MSIX_CTRL.mask (v : Nat) : Fld := ⟨(R.MSIX_CTRL v), 0, 0⟩

def R.MSIX_PBA : Reg := ⟨0x9000, 64, 0⟩
def F.MSIX_PBA.pending : Fld := ⟨R.MSIX_PBA, 63, 0⟩

/-- Register classes of FRD. -/
def regTableFRD : List RegClass := [
  ⟨0x10000, [], 32, 0, [⟨2, 2, .wo⟩, ⟨1, 1, .wo⟩, ⟨0, 0, .wo⟩]⟩,
  ⟨0x10004, [], 32, 0, [⟨15, 8, .ro⟩, ⟨2, 0, .ro⟩]⟩,
  ⟨0x10008, [], 32, 0xffffffff, [⟨31, 0, .ro⟩]⟩,
  ⟨0x1000c, [], 32, 0, [⟨31, 0, .wo⟩]⟩,
  ⟨0x10010, [], 32, 0, [⟨31, 0, .ro⟩]⟩,
  ⟨0x10014, [], 32, 0, [⟨31, 0, .ro⟩]⟩,
  ⟨0x10018, [], 32, 0, [⟨31, 0, .ro⟩]⟩,
  ⟨0x1001c, [], 32, 0 + Config.fuseSigRequired.toNat <<< 8 + Config.fuseKeyRevoked.toNat <<< 4 + Config.fuseKeyProgrammed.toNat <<< 0, [⟨8, 8, .ro⟩, ⟨7, 4, .ro⟩, ⟨3, 0, .ro⟩]⟩,
  ⟨0x10020, [], 32, 0, [⟨9, 1, .ro⟩]⟩,
  ⟨0x10024, [], 32, 0, [⟨15, 0, .ro⟩]⟩,
  ⟨0x10100, [], 32, 0, [⟨31, 31, .wo⟩, ⟨30, 29, .wo⟩, ⟨28, 28, .wo⟩, ⟨27, 27, .wo⟩, ⟨23, 16, .wo⟩, ⟨15, 8, .wo⟩, ⟨7, 0, .wo⟩]⟩,
  ⟨0x10104, [], 32, 0, [⟨23, 0, .rw⟩]⟩,
  ⟨0x10108, [], 32, 0, [⟨31, 31, .ro⟩, ⟨30, 30, .w1c⟩, ⟨29, 29, .w1c⟩, ⟨15, 0, .ro⟩]⟩,
  ⟨0x1010c, [], 32, 7, [⟨3, 0, .rw⟩]⟩,
  ⟨0x10200, [(4, 64)], 32, 0, [⟨31, 0, .rw⟩]⟩]

/-- Register classes of SYS. -/
def regTableSYS : List RegClass := [
  ⟨0, [], 32, 0x8800000 + Config.revision.toNat <<< 0, [⟨31, 16, .ro⟩, ⟨7, 0, .ro⟩]⟩,
  ⟨4, [], 32, 0, [⟨2, 2, .ro⟩, ⟨1, 1, .ro⟩, ⟨0, 0, .ro⟩]⟩,
  ⟨0x10, [], 32, 0x10003, [⟨31, 24, .ro⟩, ⟨19, 16, .ro⟩, ⟨7, 0, .ro⟩]⟩,
  ⟨0x14, [], 32, 0, [⟨1, 1, .wo⟩, ⟨0, 0, .wo⟩]⟩,
  ⟨0x18, [], 32, 0, [⟨15, 0, .ro⟩]⟩,
  ⟨0x20, [], 32, 0, [⟨31, 16, .wo⟩, ⟨2, 2, .wo⟩, ⟨1, 1, .wo⟩, ⟨0, 0, .wo⟩]⟩,
  ⟨0x24, [], 32, 1, [⟨9, 9, .w1c⟩, ⟨8, 8, .ro⟩, ⟨7, 7, .ro⟩, ⟨6, 6, .ro⟩, ⟨5, 5, .ro⟩, ⟨4, 4, .ro⟩, ⟨3, 3, .ro⟩, ⟨2, 2, .ro⟩, ⟨1, 1, .ro⟩, ⟨0, 0, .ro⟩]⟩,
  ⟨0x28, [], 32, 0, [⟨31, 16, .ro⟩, ⟨15, 0, .ro⟩]⟩,
  ⟨0x30, [], 32, 0, [⟨0, 0, .wo⟩]⟩,
  ⟨0x34, [], 32, 4, [⟨15, 8, .ro⟩, ⟨2, 0, .ro⟩]⟩,
  ⟨0x40, [], 32, 0, [⟨31, 31, .ro⟩, ⟨23, 16, .ro⟩, ⟨15, 15, .ro⟩, ⟨14, 14, .ro⟩, ⟨13, 13, .ro⟩, ⟨12, 12, .ro⟩, ⟨11, 11, .ro⟩, ⟨10, 10, .ro⟩, ⟨9, 9, .ro⟩, ⟨8, 8, .ro⟩, ⟨7, 7, .ro⟩, ⟨6, 6, .ro⟩, ⟨5, 5, .ro⟩]⟩,
  ⟨0x48, [], 32, 0, [⟨31, 0, .ro⟩]⟩,
  ⟨0x50, [], 32, 0, [⟨15, 0, .ro⟩]⟩,
  ⟨0x80, [(4, 12)], 32, 0xffffffff, [⟨31, 0, .ro⟩]⟩,
  ⟨0x2000408, [], 32, 0, [⟨7, 7, .w1c⟩, ⟨6, 6, .w1c⟩, ⟨5, 5, .w1c⟩, ⟨4, 4, .w1c⟩, ⟨3, 3, .w1c⟩, ⟨2, 2, .w1c⟩, ⟨1, 1, .w1c⟩, ⟨0, 0, .w1c⟩]⟩,
  ⟨0x200040c, [], 32, 0, [⟨31, 16, .ro⟩, ⟨15, 0, .ro⟩]⟩]

/-- Register classes of EVT. -/
def regTableEVT : List RegClass := [
  ⟨0x20000, [], 64, 0, [⟨63, 0, .ro⟩]⟩,
  ⟨0x20008, [], 64, 0, [⟨63, 0, .ro⟩]⟩,
  ⟨0x20010, [], 32, 0, [⟨0, 0, .wo⟩]⟩,
  ⟨0x20014, [], 32, 0, [⟨31, 0, .ro⟩]⟩,
  ⟨0x20018, [], 32, 0, [⟨31, 0, .ro⟩]⟩,
  ⟨0x2001c, [], 32, 0, [⟨31, 0, .ro⟩]⟩,
  ⟨0x20020, [], 32, 0, [⟨31, 0, .wo⟩]⟩,
  ⟨0x20024, [], 32, 0, [⟨12, 0, .ro⟩]⟩,
  ⟨0x20028, [], 32, 0, [⟨31, 0, .ro⟩]⟩,
  ⟨0x20030, [], 32, 0, [⟨5, 5, .w1c⟩, ⟨4, 4, .w1c⟩, ⟨3, 3, .w1c⟩, ⟨2, 2, .w1c⟩, ⟨1, 1, .w1c⟩, ⟨0, 0, .w1c⟩]⟩,
  ⟨0x20034, [], 32, 0, [⟨5, 5, .rw⟩, ⟨4, 4, .rw⟩, ⟨3, 3, .rw⟩, ⟨2, 2, .rw⟩, ⟨1, 1, .rw⟩, ⟨0, 0, .rw⟩]⟩,
  ⟨0x20040, [], 64, 0, [⟨63, 20, .w1c⟩]⟩,
  ⟨0x20048, [], 64, 0, [⟨63, 20, .w1c⟩]⟩,
  ⟨0x20050, [], 32, 0, [⟨31, 30, .wo⟩, ⟨11, 0, .wo⟩]⟩,
  ⟨0x20054, [], 32, 0, [⟨31, 31, .ro⟩, ⟨27, 24, .ro⟩, ⟨23, 16, .ro⟩, ⟨11, 0, .ro⟩]⟩,
  ⟨0x20060, [(4, 4)], 32, 0, [⟨31, 0, .rw⟩]⟩,
  ⟨0x20100, [(0x40, 4)], 32, 0x4020001, [⟨31, 24, .rw⟩, ⟨18, 16, .rw⟩, ⟨3, 3, .rw⟩, ⟨2, 2, .rw⟩, ⟨1, 1, .wo⟩, ⟨0, 0, .rw⟩]⟩,
  ⟨0x20104, [(0x40, 4)], 32, 0, [⟨4, 4, .ro⟩, ⟨3, 3, .w1c⟩, ⟨2, 2, .w1c⟩, ⟨1, 1, .ro⟩, ⟨0, 0, .w1c⟩]⟩,
  ⟨0x20108, [(0x40, 4)], 32, 0, [⟨31, 0, .ro⟩]⟩,
  ⟨0x2010c, [(0x40, 4)], 32, 0, [⟨31, 16, .ro⟩, ⟨15, 0, .ro⟩]⟩,
  ⟨0x20110, [(0x40, 4)], 64, 0, [⟨63, 0, .ro⟩]⟩,
  ⟨0x20118, [(0x40, 4)], 64, 0, [⟨63, 0, .ro⟩]⟩,
  ⟨0x20120, [(0x40, 4)], 64, 0, [⟨63, 0, .ro⟩]⟩,
  ⟨0x20128, [(0x40, 4)], 64, 0, [⟨63, 0, .ro⟩]⟩,
  ⟨0x28000, [(8, 4096)], 64, 0, [⟨63, 0, .ro⟩]⟩]

/-- Register classes of SHT. -/
def regTableSHT : List RegClass := [
  ⟨0x34000, [(0x200, 32)], 32, 0, [⟨31, 16, .rw⟩, ⟨15, 8, .rw⟩, ⟨2, 2, .rw⟩, ⟨1, 0, .rw⟩]⟩,
  ⟨0x34004, [(0x200, 32)], 32, 0, [⟨31, 16, .rw⟩, ⟨15, 0, .rw⟩]⟩,
  ⟨0x34008, [(0x200, 32)], 32, 0, [⟨15, 0, .rw⟩]⟩,
  ⟨0x3400c, [(0x200, 32)], 32, 0, [⟨31, 31, .ro⟩, ⟨30, 30, .ro⟩, ⟨29, 29, .ro⟩, ⟨23, 16, .ro⟩, ⟨15, 8, .ro⟩, ⟨2, 0, .ro⟩]⟩,
  ⟨0x34010, [(0x200, 32)], 32, 0, [⟨15, 8, .ro⟩, ⟨7, 0, .ro⟩]⟩,
  ⟨0x34040, [(0x200, 32), (8, 8)], 32, 0, [⟨31, 0, .rw⟩]⟩,
  ⟨0x34044, [(0x200, 32), (8, 8)], 32, 0, [⟨31, 0, .rw⟩]⟩,
  ⟨0x34080, [(0x200, 32), (4, 16)], 32, 0, [⟨31, 31, .rw⟩, ⟨11, 0, .rw⟩]⟩,
  ⟨0x340c0, [(0x200, 32), (8, 16)], 64, 0, [⟨63, 0, .rw⟩]⟩,
  ⟨0x34140, [(0x200, 32), (4, 8)], 32, 0, [⟨15, 0, .ro⟩]⟩,
  ⟨0x34160, [(0x200, 32), (4, 8)], 32, 0, [⟨31, 16, .ro⟩, ⟨15, 0, .ro⟩]⟩,
  ⟨0x34180, [(0x200, 32)], 64, 0, [⟨63, 0, .ro⟩]⟩,
  ⟨0x34188, [(0x200, 32)], 64, 0, [⟨63, 0, .ro⟩]⟩,
  ⟨0x30000, [], 32, 0, [⟨31, 28, .wo⟩, ⟨4, 0, .wo⟩]⟩,
  ⟨0x30004, [], 32, 0xff00, [⟨31, 31, .ro⟩, ⟨27, 24, .ro⟩, ⟨23, 16, .ro⟩, ⟨15, 8, .ro⟩, ⟨4, 0, .ro⟩]⟩,
  ⟨0x30008, [], 32, 0, [⟨7, 7, .w1c⟩, ⟨6, 6, .w1c⟩, ⟨5, 5, .w1c⟩, ⟨4, 4, .w1c⟩, ⟨3, 3, .w1c⟩, ⟨2, 2, .w1c⟩, ⟨1, 1, .w1c⟩, ⟨0, 0, .w1c⟩]⟩,
  ⟨0x3000c, [], 32, 0, [⟨31, 0, .rw⟩]⟩,
  ⟨0x30010, [], 32, 0, [⟨31, 0, .ro⟩]⟩,
  ⟨0x30014, [], 32, 0, [⟨31, 0, .ro⟩]⟩,
  ⟨0x30018, [], 32, 0, [⟨31, 0, .ro⟩]⟩,
  ⟨0x3001c, [], 32, 0, [⟨31, 0, .ro⟩]⟩,
  ⟨0x30020, [], 32, 0, [⟨31, 0, .ro⟩]⟩]

/-- Register classes of FLT. -/
def regTableFLT : List RegClass := [
  ⟨0xe0000, [], 64, 0, [⟨40, 0, .ro⟩]⟩,
  ⟨0xe0008, [], 64, 0, [⟨40, 0, .ro⟩]⟩,
  ⟨0xe0010, [], 64, 0, [⟨63, 63, .wo⟩, ⟨37, 32, .wo⟩, ⟨31, 0, .wo⟩]⟩,
  ⟨0xe0018, [], 32, 0, [⟨31, 31, .ro⟩, ⟨30, 30, .ro⟩, ⟨29, 29, .ro⟩, ⟨28, 28, .ro⟩, ⟨27, 27, .ro⟩, ⟨26, 26, .ro⟩]⟩,
  ⟨0xe001c, [], 32, 0, [⟨29, 24, .ro⟩, ⟨23, 18, .ro⟩, ⟨17, 12, .ro⟩, ⟨11, 6, .ro⟩, ⟨5, 0, .ro⟩]⟩,
  ⟨0xe0020, [], 32, 0, [⟨31, 0, .ro⟩]⟩,
  ⟨0xe0024, [], 32, 0, [⟨31, 16, .ro⟩, ⟨15, 0, .ro⟩]⟩,
  ⟨0xe0028, [], 32, 0, [⟨4, 4, .w1c⟩, ⟨3, 3, .w1c⟩, ⟨2, 2, .w1c⟩, ⟨1, 1, .w1c⟩, ⟨0, 0, .w1c⟩]⟩,
  ⟨0xe002c, [], 32, 0, [⟨4, 2, .rw⟩]⟩,
  ⟨0xe0040, [(4, 5)], 32, 0, [⟨31, 0, .ro⟩]⟩,
  ⟨0xe0100, [(8, 42)], 32, 0, [⟨31, 24, .ro⟩, ⟨23, 23, .ro⟩, ⟨22, 22, .ro⟩, ⟨21, 21, .ro⟩, ⟨20, 18, .ro⟩, ⟨15, 0, .ro⟩]⟩,
  ⟨0xe0104, [(8, 42)], 32, 0, [⟨31, 0, .ro⟩]⟩,
  ⟨0xe0400, [], 32, 0, [⟨0, 0, .wo⟩]⟩,
  ⟨0xe0404, [], 32, 0, [⟨31, 30, .ro⟩, ⟨29, 29, .ro⟩, ⟨3, 0, .ro⟩]⟩,
  ⟨0xe0408, [], 32, 0, [⟨31, 0, .ro⟩]⟩,
  ⟨0xe0410, [], 64, 0, [⟨63, 0, .ro⟩]⟩,
  ⟨0xe0418, [], 32, 0, [⟨31, 0, .ro⟩]⟩,
  ⟨0xe0600, [(0x20, 8), (8, 4)], 64, 0, [⟨63, 0, .ro⟩]⟩,
  ⟨0xe1000, [(8, 128)], 64, 0, [⟨63, 0, .ro⟩]⟩]

/-- Register classes of URG. -/
def regTableURG : List RegClass := [
  ⟨0x110000, [], 32, 0, [⟨31, 16, .wo⟩, ⟨2, 2, .wo⟩, ⟨1, 1, .wo⟩, ⟨0, 0, .wo⟩]⟩,
  ⟨0x110004, [], 32, 0, [⟨31, 31, .ro⟩, ⟨6, 6, .w1c⟩, ⟨5, 5, .w1c⟩, ⟨4, 4, .w1c⟩, ⟨2, 2, .w1c⟩, ⟨1, 1, .w1c⟩, ⟨0, 0, .w1c⟩]⟩,
  ⟨0x110008, [], 32, 0, [⟨6, 5, .rw⟩]⟩,
  ⟨0x11000c, [], 32, 0, [⟨31, 16, .ro⟩, ⟨15, 0, .ro⟩]⟩]

/-- Register classes of MSIX. -/
def regTableMSIX : List RegClass := [
  ⟨0x8000, [(0x10, 64)], 64, 0, [⟨63, 0, .rw⟩]⟩,
  ⟨0x8008, [(0x10, 64)], 32, 0, [⟨31, 0, .rw⟩]⟩,
  ⟨0x800c, [(0x10, 64)], 32, 1, [⟨0, 0, .rw⟩]⟩,
  ⟨0x9000, [], 64, 0, [⟨63, 0, .ro⟩]⟩]

end Sys2Proof.Machine
end

