-- ==== Sys2Proof/Machine/State.lean ====
section
/-! DEFINITION. The state of the MK880: the register file, the tables, user memory, what the spec gives each unit beside its
registers, the pins, the queue of commands; the reasons a step stops; the state after reset. -/

namespace Sys2Proof.Machine

/-! ### The engine configuration: the pinnae of the loaded Frond image (R38-R49), or the on-die ROM of Personality C -/

/-- ROLE (R38, R39). -/
structure Role where
  grade        : Nat := 0
  aliveClass   : Nat := 0
  dataSource   : Nat := 0
  ringGen      : Nat := 1
  ringLanes    : Nat := 4
  addrA        : Nat := 0
  addrB        : Nat := 0
  addrGroup    : Nat := 0
  turnIntervalS : Nat := 0
  hostWdogMs   : Nat := 0
  admissionRules : Nat := 0
  deriving DecidableEq, Repr

/-- CHAN entry (R40, R41). -/
structure Chan where
  channel     : Nat
  beams       : Nat := 1
  crossDpi    : Nat := 0
  inputFormat : Nat := 0
  tagPlane    : Nat := 0
  blMode      : Nat := 0
  blLanes     : Nat := 0
  facets      : Nat := 1
  pixels      : Nat := 1
  polygonAxis : Nat := 0
  gateFlags   : Nat := 0
  dinInterlock : Nat := 0
  clockKhz    : Nat := 1000
  deriving DecidableEq, Repr

/-- AXIS entry (R42). -/
structure Axis where
  axis     : Nat
  role     : Nat := 6
  direction : Nat := 0
  dcBus    : Nat := 0xFF
  polePairs : Nat := 0
  encoder  : Nat := 0xFF
  stepsPerRev : Nat := 0
  maxSpeed : Nat := 0
  setpoint : Nat := 0
  idle     : Nat := 0
  pwmKhz   : Nat := 8
  idleSpeed : Nat := 0
  limits   : Nat := 0
  deriving DecidableEq, Repr

/-- PINMUX entry (R43): group, index, function, k, invert. -/
structure Pin where
  group : Nat
  index : Nat
  func  : Nat
  k     : Nat
  invert : Bool
  deriving DecidableEq, Repr

/-- DOMAIN entry (R44). -/
structure DomEntry where
  kind  : Nat
  index : Nat
  pgUsed : Bool
  timeoutMs : Nat
  settleUs : Nat
  deriving DecidableEq, Repr

/-- EVTT entry (R45). -/
structure EvttEntry where
  index : Nat
  gated : Bool
  armed : Bool
  lo    : Word64
  hi    : Word64
  deriving DecidableEq, Repr

/-- REACT entry (R46). -/
structure React where
  source : Nat
  cls    : Nat := 0
  reactions : Nat := 0
  shadowUs : Nat := 0
  quietMs : Nat := 0
  dependents : Nat := 0
  deriving DecidableEq, Repr

/-- LOOPT entry (R48). -/
structure LoopT where
  slot : Nat
  kind : Nat := 6
  feedback : Nat := 0
  output : Nat := 0
  sampleHz : Nat := 1000
  group : Nat := 0xFF
  ready : Bool := false
  safeValue : Nat := 0
  standby : Nat := 0
  deriving DecidableEq, Repr

/-- SENS entry (R49). -/
structure Sens where
  a : Nat
  b : Nat
  maxDiff : Nat
  persistMs : Nat
  deriving DecidableEq, Repr

/-- What the image fixes (R58). -/
structure Cfg where
  role  : Role := {}
  chans : List Chan := []
  axes  : List Axis := []
  pins  : List Pin := []
  doms  : List DomEntry := []
  evtt  : List EvttEntry := []
  reacts : List React := []
  loops : List LoopT := []
  sens  : List Sens := []
  serial : Nat := 0
  crc   : Nat := 0
  deriving DecidableEq, Repr

/-! ### What each unit holds beside its registers -/

/-- What a pattern generator sends (R138): each bit the sum modulo 2 of the bits a and b places before it, or a 20-bit word again
and again. -/
inductive Pattern where
  | prbs (a b : Nat)
  | fixed (word : Nat)
  deriving DecidableEq, Repr

/-- What leaves the device: the log of outputs, newest first. -/
inductive Out where
  /-- An MSI-X message (R30, R410). -/
  | msix (vector : Nat) (addr data : Nat)
  /-- Completion data of a host read, one 64-bit word each, and whether it is marked poisoned (R24). -/
  | read (words : List Nat) (poisoned : Bool)
  /-- Unsupported Request (R412). -/
  | unsupported
  /-- A write to host memory (R175, R418). -/
  | hostWrite (addr : Nat) (words : List Nat)
  /-- A read request to host memory: address and bytes (R177). -/
  | hostRead (addr len : Nat)
  /-- Bytes sent on the Raster Ring: a control symbol, or a frame forwarded. -/
  | ring (unit : List Nat)
  /-- A training sequence sent on the used ring lanes, its 14 bytes on each (R129, R131): so many copies, 0 for as long as the
  transmit direction sends nothing else. -/
  | train (copies : Nat) (lanes : List (List Nat))
  /-- A pattern runs on a transmit lane of the ring (R138). -/
  | pattern (lane : Nat) (p : Pattern)
  /-- One bit of a transmit lane of the ring leaves inverted (R140): target 0 payload or pattern bit, 1 sync header or control
  position of the next block or code group. -/
  | invert (lane target : Nat)
  /-- The elastic buffer of a forwarded lane loses a unit, or repeats it (R127). -/
  | slip (lane : Nat) (repeated : Bool)
  /-- BLn_CK of a BL-F port for the slot that begins (R235): it runs at f_f of M_f `m`, with rising edges at R_k + i / f_f, where
  R_k lies `start` periods after `origin` (G_k, in 1/64 tick). Single periods change by at most 1/8 on the way there. -/
  | blClock (n m : Nat) (origin : Int) (start : Nat)
  /-- A unit or frame sent on Beam Link port n. The units of its stream stripe over the port's lanes as R142 states, unit k on lane
  k modulo the lane count from ACTIVE on; idle and alignment units stand between them and are not listed (R228, R229). -/
  | beam (n : Nat) (unit : List Nat)
  /-- Pulses of a slot for DMOn (R250): first unit and width, in 1/64 pixel period from R. They reach the pin while the channel's
  DMO output is open (Dev.dmoOpen). -/
  | dmo (n : Nat) (slot : Nat) (pulses : List (Int × Nat))
  /-- The units of a frame, or an input unit, sent on a lane of the twin link (R383, R384). -/
  | twin (lane : Nat) (units : List (List Nat))
  /-- A flash command put on the QSPI bus. -/
  | qspi (opcode : Nat) (addr : Option Nat) (dummy div : Nat) (quad : Bool) (data : List Nat) (len : Nat)
  /-- A word returned on the legacy host bus. -/
  | lhb (word : Nat)
  deriving DecidableEq, Repr

/-- A record strobe waiting for the collector (R364). -/
structure Strobe where
  src : Nat
  d0  : Nat
  d1  : Nat
  t   : Nat
  fix : Nat := 0                   -- a class that stands whatever the REACT entry says, plus 1 (R62, R64)
  deriving DecidableEq, Repr

/-- An open or shadow-relevant fault record (R365, R366). -/
structure FRec where
  src   : Nat
  esn   : Nat
  num   : Nat
  cls   : Nat
  base  : Nat
  conseq : Bool
  link  : Nat
  escalated : Bool
  bits  : Nat
  d0    : Nat := 0
  blocked : Bool := false          -- bits of the entry that R392 keeps from acting
  early   : Bool := false          -- made before the loader reached LOADED (R368)
  at8     : Nat := 0               -- tick at which it was made, plus 1 (R373)
  deriving DecidableEq, Repr

/-- The recovery of a source in the present clock (R374): its tick, plus 1, its counter's class and whether it counted, its records. -/
structure Recov where
  at8  : Nat
  cls  : Nat
  inc  : Bool
  recs : List FRec
  deriving DecidableEq, Repr

/-- An open reaction shadow (R371). `closed`: 0 cause open, 1 cause acknowledged, 2 cause recovered. -/
structure Shadow where
  src    : Nat
  deps   : Nat
  esn    : Nat
  start  : Nat
  until_ : Nat
  closed : Nat
  deriving DecidableEq, Repr

/-- Fault collector (R364-R380). -/
structure FltSt where
  strobes : List Strobe := []
  opens   : List FRec := []
  quietFrom : Store Nat := []      -- source -> engine time of the timer's start, plus 1; 0 while it does not run
  shadows : List Shadow := []
  refreshed : Nat := 0             -- time of the last ALIVE refresh (ticks since power-on), plus 1
  aliveAt : Nat := 0               -- tick from which the present hold of ALIVE is timed (R375)
  latchK  : Nat := 0               -- records written to the latch since it was cleared
  hitSlot : Nat := 0               -- slot in which reactions were applied last, plus 1, and the units they reached (R80):
  recov : List Recov := []         -- recoveries of the clock of the last one
  pairHold : Nat := 0              -- sources of the partner's records that hold admissions by an agreed input (R392)
  hitUnits : Nat := 0              -- bits 0-7 CHn, 8 axes and loops, 9 brushless axes, 10 steppers, 11 loops, 12 SHT, 13 EVT
  deriving DecidableEq, Repr

/-- A record of the present slot that waits for its ESN (R80). -/
structure SlotRec where
  cls  : Nat
  k1   : Nat
  k2   : Nat
  k3   : Nat
  kind : Nat
  src  : Nat
  tag  : Nat
  d0   : Nat
  d1   : Nat
  time : Nat
  deriving DecidableEq, Repr

/-- A firing decided for this slot or deferred from an earlier one (R80, R88). -/
structure Due where
  idx : Nat
  delivered : Nat
  late : Bool                      -- judged late under R89
  enc : Bool
  hi  : Nat                        -- the entry's upper word at the decision
  spill : Bool := false            -- beyond the eight of its slot (R88)
  deriving DecidableEq, Repr

/-- A qualified encoder edge waiting for its apply time (R96). kind: 0 forward, 1 backward, 2 index; the deadband of its time. -/
structure EncEdge where
  ts   : Nat
  kind : Nat
  deadband : Nat
  late : Bool := false             -- queued after its apply time (R390)
  deriving DecidableEq, Repr

/-- One encoder's inputs (R95). -/
structure EncSt where
  a : Bool := false                -- this member's own qualified levels
  b : Bool := false
  z : Bool := false
  qualAt : Nat := 0                -- engine time at which this member's last edge of A or B qualified, plus 1; and of Z
  zAt : Nat := 0
  last : Nat := 0                  -- levels after the last edge of the stream in use: [2] Z, [1] B, [0] A (R384)
  edges : List EncEdge := []
  stop : Nat := 0                  -- directions in which counting has stopped (R100): bit 0 forward, bit 1 backward
  deriving DecidableEq, Repr

/-- Event scheduler (R76-R100). -/
structure EvtSt where
  running : Bool := false          -- engine time counts (R76)
  due     : List Due := []
  deferred : List Due := []
  slotAt  : Nat := 0               -- the slot whose firings were decided last, plus 1
  newArm  : List (Nat × Nat) := [] -- entries armed, and the slot: the arming counts from the next one
  newDis  : List (Nat × Nat × Nat × Nat) := []   -- entries disarmed, the slot, their two words: still armed for its firings
  armFor  : Store Nat := []        -- entry -> descriptor it is armed for, plus 1
  pend    : List (Nat × Nat) := [] -- (entry, descriptor) armings pending, oldest first (R107)
  rearm   : List (Nat × Nat) := [] -- (entry, descriptor) to re-arm in the slot after a host reset (R118)
  recs    : List (Nat × SlotRec) := []   -- slot in which it was made, record
  dispatched : Nat := 0            -- firings dispatched in this slot (R88)
  enc     : Store EncSt := []
  dout    : Store Bool := []       -- DOUTk levels
  pulse   : Store Nat := []        -- DOUTk in a pulse: level to return to, plus 1
  pulseEnd : Store Nat := []       -- and the engine time of its end
  pickNow : List (Nat × Nat) := [] -- descriptors whose pick was judged, and the slot (R109)
  deriving DecidableEq, Repr

/-- Sheet admission unit (R102-R122): what no register shows. -/
structure ShtSt where
  seq   : Store Nat := []          -- order in which the descriptors were opened (R163)
  next  : Nat := 1
  freed : Store Nat := []          -- lines freed by reading, by 8 x descriptor + channel (R163)
  deriving DecidableEq, Repr

/-- Bring-up, resets, host state (R59-R75). -/
structure SysSt where
  now8   : Nat := 0                -- 8 ns ticks since always-on power-on
  porst8 : Nat := 0                -- their value at the last PORST_n rise
  inReset : Bool := true           -- held before phase 1 (R60)
  ph     : Store Nat := []         -- phase code -> state (0 not started .. 5 waiting)
  phAt   : Store Nat := []         -- phase code -> tick of its start, plus 1
  hostReq : List Nat := []         -- host resets requested, by SYS_RESET_CAUSE bit
  fullReq : List Nat := []         -- full resets requested, by SYS_RESET_CAUSE bit
  wdogArmed : Bool := false
  wdogKick : Nat := 0
  cut    : Bool := false           -- permits low, actuator outputs released (R70, R343)
  remark9 : Nat := 0               -- the remark with which phase 9 was done, 0 none (R64)
  deriving DecidableEq, Repr

/-- Frond loader (R51-R57). -/
structure FrdSt where
  rx     : List Byte := []         -- bytes read or pushed so far
  image  : List Byte := []         -- retained image
  cfg    : Cfg := {}               -- its pinnae, once distributed
  damaged : List Nat := []         -- pinna types with an uncorrectable error in the retained copy
  checked : Bool := false          -- header checks of this image are done
  pushed : Bool := false           -- phase 4 is timed as a host push (R61)
  deriving DecidableEq, Repr

/-- Host port (R407-R428). -/
structure HostSt where
  linkUp : Bool := false
  speed  : Nat := 0
  width  : Nat := 0
  d3     : Bool := false
  lastErr : Store Nat := []        -- bit-34 subcode -> tick of its last record, plus 1 (R428)
  qspiBusy : Bool := false
  estop  : Bool := false           -- ESTOP_n qualified level, true = high (closed)
  latchHi : Store Nat := []        -- high-half read latch of a 64-bit register, plus 1 (R11)
  bufLo  : Store Nat := []         -- low-half write buffer of a 64-bit register, plus 1 (R11)
  urg    : List Nat := []          -- ticks at which the doorbells of the last 1 µs arrived (R414, R421)
  deriving DecidableEq, Repr

/-- A latched permit drop (R255). kind: 0 interlock, 1 unscanned trip, 2 stuck DMOn, 3 stuck reported by the head, 4 reaction.
`esn` is the record's ESN plus 1, 0 until the collector has made the record; `closed`: that record is closed. -/
structure Latch where
  kind : Nat
  src  : Nat
  esn  : Nat
  closed : Bool
  deriving DecidableEq, Repr

/-- The scan sequence of a sheet on a channel (R216-R218): its tag, first slot, nominal lines, fraction, base lines of scan 0
and of the scan planned last, that scan, the encoder position at scan 0, the lowest nominal line and the number of input lines
requested; the scan from which codes are 0, and whether a slip has been recorded. -/
structure Seq where
  tag  : Nat := 0
  k0   : Nat := 0
  lines : Nat := 0
  frac : Nat := 0
  b0   : Int := 0
  b    : Int := 0
  last : Option Nat := none
  h0   : List Int := []            -- h(0) of each encoder (R217)
  req  : Nat := 0
  reqIn : Nat := 0
  under : Option Nat := none
  slipRep : Bool := false
  deriving DecidableEq, Repr

/-- A scan on its slot: scan number, base line, whether it is the last one (R217). -/
structure Scan where
  s    : Nat
  b    : Int
  last : Bool
  deriving DecidableEq, Repr

/-- One channel slice (R187-R259): what no register shows. -/
structure ChSt where
  latches : List Latch := []
  reqEnd  : Bool := false          -- a permit_req = 0 waits for CHANNEL_END (R252)
  dropped : Bool := false          -- dropped from its sheet: permit low for the rest of it (R113)
  tripUn  : Bool := false          -- unscanned excursion already recorded (R254)
  tripSt  : Bool := false          -- stuck excursion already recorded (R254)
  wdFrom  : Nat := 0               -- from when the strobe watchdog counts (R254)
  ilkDin  : Nat := 0               -- named DINk that are open now, bit per k (R253)
  desc   : Option Nat := none      -- the sheet whose scan sequence runs on the channel (R110, R113)
  placed : Nat := 0                -- scans placed for it
  sq : Seq := {}
  next : Option Scan := none       -- the scan of the slot to come, requested (R218)
  cur  : Option Scan := none       -- the scan of the slot in progress
  screenQ : List (Nat × Nat × Nat) := []   -- requests not screened yet: scan, first and last nominal line
  codes : Store (List (Nat × Nat)) := []   -- code store (R197, R201): nominal line -> code words, each with its syndrome and forced-code bits
  digestDue : Bool := false
  slot : Nat := 0                  -- slot of the next scan start (R208)
  judged : Nat := 0                -- the next slot to be judged (R210)
  edge : Option (Nat × Nat) := none        -- nearest edge so far of the slot to be judged: slot, timestamp in 1/64 tick
  prevEdge : Option (Nat × Nat) := none    -- edge of the last judged slot
  outN : Nat := 0
  missN : Nat := 0
  idSum : List Int := []           -- identification (R212), in 2^-16 tick / 16: sums, counts, slots
  idCnt : List Nat := []
  idN  : Nat := 0
  phi  : Store (Option Int) := []  -- aligner state per facet (R215)
  gapPend : Bool := false          -- RWG writes wait for the gap (R213)
  gridPend : Bool := false         -- a write of the grid is among them
  q    : Nat := 0                  -- Q of the slot in progress (R232)
  curM : Nat := 0                  -- M_f and start_delay of the slot in progress
  curSd : Nat := 0
  sent : Nat := 0                  -- the frames of slots below this have left
  marked : Nat := 0
  permAt : Nat := 0                -- tick of the last periodic PERMIT unit
  hello : List Nat := []           -- last HELLO or TS_ACK, and how many alike (R239)
  helloN : Nat := 0
  rtt  : List Nat := []            -- round trips of the PROBEs answered (R237)
  probe : Nat := 0                 -- PROBEs sent
  probeAt : Nat := 0               -- tick of the last PROBE, or of ACTIVE sent
  locked : Nat := 0                -- TRAIN: 1 lanes locked, 2 deskewed
  lostLoop : Bool := false         -- DETECT waits until the SerDes loop has locked
  bcAt : Nat := 0                  -- tick of the last valid back-channel unit (R239)
  dark : Bool := false             -- held dark by a sensor at its throttle level (R326)
  deriving DecidableEq, Repr

/-- The profile generator (R284-R286): position in 2^-32 unit, speed per 10 µs period, target, rates, peak; `rev` is the
direction a reversal accelerates in, 0 when none runs. -/
structure Prof where
  p : Int := 0
  v : Int := 0
  target : Int := 0
  acc : Nat := 1
  dec : Nat := 1
  peak : Nat := 1
  rev : Int := 0
  deriving DecidableEq, Repr

/-- One brushless axis (R260-R279): what no register shows. -/
structure BldAx where
  target : Int := 0                -- target speed, 1/16 rpm
  rate   : Nat := 1                -- rate in force, 10 rpm/s
  runtime : Bool := false          -- the target is the runtime target, not idle_speed (R277)
  wref   : Int := 0                -- ω_ref, 1/16 rpm x 10^9
  obs    : ObsSt := {}
  vA     : Int := 0                -- voltage applied in the previous period
  vB     : Int := 0
  intD   : Int := 0
  intQ   : Int := 0
  intW   : Int := 0
  iqRef  : Int := 0
  fwX    : Int := 0
  forced : Int := 0                -- forced speed of RAMP, 1/16 rpm x 10^9
  forcedTh : Int := 0              -- forced angle, electrical turn / (65536 x 9.6 x 10^20)
  per    : Nat := 0                -- periods since the last speed sample
  atN    : Nat := 0
  losN   : Nat := 0
  hoN    : Nat := 0
  stN    : Nat := 0                -- periods over which ω_obs has varied by less than 2 % (R272)
  stRef  : Int := 0
  since  : Nat := 0                -- tick at which the state was entered
  seenE  : Bool := false           -- e_mag has been above e_exp at handover_rpm / 2 since then (R271)
  perSt  : Nat := 0                -- state at the last PWM period start, plus 1; a start, a loss since then (R281)
  startPer : Bool := false
  losPer : Bool := false
  startDue : Option (Int × Nat × Bool) := none
  offPend : Bool := false
  restartAt : Nat := 0             -- tick of a restart that waits, plus 1
  restarts : List Nat := []        -- ticks of the restarts of the last 10 s (R267)
  tries : Nat := 0                 -- ramp time-outs of the start in progress (R271)
  cPh    : Int := 0
  iPh    : Int := 0
  slewEnd : Nat := 0               -- engine time at which a slew ends, plus 1
  move   : Option Prof := none
  moving : Bool := false
  moveDone : Nat := 0              -- tick at which the last move completed, plus 1
  posE   : Int := 0                -- unwrapped electrical angle, 1/65536 turn
  profT  : Nat := 0                -- last engine time the profile was advanced to
  satAt  : Nat := 0                -- tick of the last saturation record, plus 1
  satTs  : List Nat := []          -- ticks of the saturated samples of the last second (R282)
  cmp    : List Nat := [0, 0, 0]   -- compare values in force (R260)
  cmpNext : List Nat := [0, 0, 0]
  cmpLast : List Nat := [0, 0, 0]  -- those of the period before, whose high sides reach over the valley
  deriving DecidableEq, Repr

/-- One DC bus (R280, R281): the record of its trip, ESN plus 1 once made, and whether it is closed. -/
structure DcbSt where
  esn : Nat := 0
  at_ : Nat := 0                   -- slot of the trip, plus 1
  closed : Bool := false
  deriving DecidableEq, Repr

/-- One coil's chopper (R297-R300). phase: 0 on, 1 fast decay then slow, 2 no reference. -/
structure Coil where
  ref  : Nat := 0
  prev : Nat := 0
  neg  : Bool := false
  phase : Nat := 2
  prevNeg : Bool := false          -- polarity of the period before
  onSince : Nat := 0               -- tick at which the on-phase began
  onFrom : Nat := 0                -- from when its time counts in this period
  fastEnd : Nat := 0               -- tick at which the fast decay ends
  offEnd : Nat := 0
  onTicks : Nat := 0               -- on-time and fast-decay time of this period
  fastTicks : Nat := 0
  early : Nat := 0                 -- consecutive on-phases tripped at the end of blanking
  noTrip : Nat := 0                -- consecutive periods On throughout, without a trip
  whole : Bool := false            -- the period began On
  tripped : Bool := false
  openRep : Bool := false
  deriving DecidableEq, Repr

/-- One stepper axis (R284-R303): what no register shows. -/
structure StpAx where
  prof  : Prof := {}
  recNo : Option Nat := none       -- record of the move in force, none while homing
  interrupted : Bool := false      -- remaining distance kept, resumable
  offPend : Bool := false
  moveDone : Nat := 0
  ran   : Nat := 0                 -- number of the profile period run last, plus 1 (R284)
  searchLeft : Bool := false       -- homing was stopped before its search began: the whole search remains (R294)
  histP : List (Nat × Int) := []   -- (profile period, p) of recent periods, newest first
  released : Bool := false         -- back-off has seen the switch inactive
  homeFail : Bool := false
  stallReported : Bool := false
  stallN : Nat := 0
  fullOk : Bool := true            -- both comparators tripped in every period of this full step
  sumP  : Int := 0
  sumQ  : Int := 0
  lastStep : Int := 0
  resNext : Nat := 8
  stoppedAt : Nat := 0             -- tick of the last standstill
  held : Bool := false             -- idle kind applied
  a : Coil := {}
  b : Coil := {}
  deriving DecidableEq, Repr

/-- A filtered input (R289): raw level, since when, and the qualified level. -/
structure InSt where
  raw : Bool := false
  since : Nat := 0                 -- engine time of the raw edge that began the stable run
  qual : Bool := false
  apply : List (Nat × Nat × Bool) := []  -- (apply time, edge time, level), oldest first
  deriving DecidableEq, Repr

/-- One loop slot (R306-R318): what no register shows. -/
structure LoopSlot where
  target : Int := 0
  rate : Nat := 0
  rw : Int := 0
  y1 : Int := 0
  y2 : Int := 0
  f1 : Int := 0
  f2 : Int := 0
  yfPrev : Int := 0
  i : Int := 0
  d : Int := 0
  u : Nat := 0
  held : Nat := 0
  due : List (Nat × Nat × Nat) := []  -- commands that wait for a boundary, with operand and the engine time they took effect: 1 enable, 2 release, 3 set-point written, 4 set-point record, 5 safe-idle entry, 6 engine_go, 7 engine stop
  sampled : Nat := 0               -- number of the last sample taken, plus 1
  hand : Option (Nat × Nat) := none -- (hand-over time, value)
  conv : Option (Nat × Int) := none -- boundary and code of its last AIN conversion (R307)
  yhat : Int := 0                  -- 32 fraction bits
  uHist : List Nat := []
  outN : Nat := 0                  -- consecutive samples beyond tol, and within it
  inN : Nat := 0
  impRep : Bool := false
  entered : Nat := 0               -- what this sample begins: 1 filters preset, 2 integrator too; 4 ramp from measured
  fresh : Bool := false            -- the model starts in this sample
  inBandN : Nat := 0
  satSince : Nat := 0              -- engine time since which sat holds, plus 1
  satDir : Nat := 0
  satRep : Bool := false
  deriving DecidableEq, Repr

/-- A loop output (R306, R315): the value handed over last, and the number of the period run last, plus 1. -/
structure OutSt where
  u : Nat := 0
  ran : Nat := 0
  deriving DecidableEq, Repr

/-- An agreed command that waits for its time (R388): t_a, mseq, the epoch it waits for, kind (0 write 32, 1 write 64, 2
urgent doorbell, 3 pair reaction), BAR0 offset or source, data. -/
structure Agreed where
  ta   : Nat
  mseq : Nat
  wait : Option Nat
  kind : Nat
  off  : Nat
  data : Nat
  deriving DecidableEq, Repr

/-- A block of staged storage (R399): BAR0 (true) or BAR2, its offset. -/
structure Blk where
  bar0 : Bool
  off  : Nat
  deriving DecidableEq, Repr

/-- An input of the Token holder that waits for its apply time (R384, R390): code, index, timestamp, value. -/
structure TwIn where
  code : Nat
  index : Nat
  ts   : Nat
  value : Nat
  deriving DecidableEq, Repr

/-- What the outputs of a frozen member hold (R396): compare values of each brushless axis, chopper references and polarities,
LOUT values, DOUT levels. -/
structure Held where
  cmp  : List (List Nat)
  refs : List (Nat × Bool × Nat × Bool)
  lout : List Nat
  dout : Nat
  deriving DecidableEq, Repr

/-- A decision vector (R389): t_tx in ticks, BEAT units 4 and 5, whether this member sent it, and whether its sender held the Token
at t_tx. -/
structure DecVec where
  at_  : Nat
  v4   : Nat
  v5   : Nat
  own  : Bool
  held : Bool
  deriving DecidableEq, Repr

/-- The twin unit (R382-R406): what no register shows. Members: 1 Twin A, 2 Twin B. -/
structure TwnSt where
  queue  : List Agreed := []
  mseqTx : Nat := 0
  iseqTx : Nat := 0
  vecs   : List DecVec := []       -- decision vectors of both members, newest first (R389)
  latchCopy : Bool := false        -- the second copy of the Token latch (R394)
  secAt  : Nat := 0                -- second of engine time of the last input unit received, and how many came in it (R385)
  secN   : Nat := 0
  beatAt : Nat := 0                -- tick of the last valid BEAT, plus 1 (R385)
  beatTx : Nat := 0                -- its t_tx and its arrival, 1/8 tick
  beatRx : Nat := 0
  sentAt : Nat := 0                -- engine time of the last BEAT sent, plus 1
  wdog   : Bool := false           -- the host watchdog expired since the last BEAT
  pState : Nat := 0                -- partner's state and latch, from its last BEAT or HELLO
  pLatch : Bool := false
  thetas : List Int := []          -- offsets not yet averaged, in 1/16 tick
  syncN  : Nat := 0
  offN   : Nat := 0
  stepped : Bool := false          -- the joining member has stepped its engine time
  lastNamed : Nat := 1
  disAt  : Nat := 0                -- tick at which a disagreement began, plus 1
  said98 : Bool := false
  liveAt : Nat := 0                -- tick from which outputs are live again
  relOut : Bool := false           -- the hold limit has released the outputs
  held   : Option Held := none
  solo   : Bool := false           -- the latch was set because the partner became absent
  turn   : Option (Nat × Nat) := none    -- t_h and kind of a Turn to come
  turnNew : Bool := false          -- this member takes the Token at the end of the Turn
  turnAt : Nat := 0                -- t_h of the last Turn, plus 1
  nextAt : Nat := 0                -- engine time from which the Turn interval counts
  freshAt : Nat := 0               -- tick of the last refresh of the latch (R394)
  mseqRx : Option Nat := none
  iseqRx : Option Nat := none
  inputs : List TwIn := []
  levels : Store Nat := []         -- level last applied for an input of codes 0, 2, 3, 4, by code x 32 + index, plus 1
  dirty  : List Blk := []          -- blocks written and not adopted; those below that an epoch has sent
  sent   : List Blk := []
  dirtyAt : Nat := 0               -- tick of the last staged write, plus 1
  endAt  : Nat := 0                -- tick at which the running epoch was closed, plus 1
  adoptAt : Option Nat := none     -- t_adopt
  rx     : List (Blk × List Nat) := []   -- staging area (R399)
  rxEpoch : Nat := 0
  full   : Nat := 0                -- donor: 1 the full epoch is due or running, 2 waiting for a join point, 3 JOIN sent, 4 SNAP sent
  join   : Option (Nat × Nat) := none    -- t_j, t_lock
  snap   : List (Blk × List Nat) := []
  joinIn : List TwIn := []         -- inputs of the holder that a joining member holds until t_lock (R402)
  lockAt : Nat := 0                -- t_lock of the last lock
  said95 : Bool := false
  selfBad : Bool := false          -- converter self-test off by more than 16 codes (R403)
  active9 : Bool := false          -- a lane has been up since phase 9 began (R64)
  slots  : List TwIn := []         -- beam-detect slots and identifications of the pair that wait for their apply time (R387)
  wasHolder : Bool := false        -- this member held the Token before the last Turn (R390)
  joinAt : Nat := 0                -- tick at which JOINING, or a retry of phase 9 in it, began, plus 1 (R386)
  corrAt : Nat := 0                -- tick of the last correction of engine time, plus 1 (R77)
  deriving DecidableEq, Repr

/-- User memory beside its registers (R169-R172): the scrubber's word, the window's report, the list of R171. -/
structure MemSt where
  scrub : Nat := 0
  winStart : Nat := 0              -- tick at which the correction window began
  ceRep : Bool := false
  lost  : Bool := false            -- the memory PHY loop has lost lock (R356): contents unreadable until a full reset
  bad   : List Nat := []
  mismatch : Nat := 0              -- tick of the last datapath mismatch, plus 1 (R403)
  deriving DecidableEq, Repr

/-- One DMA queue (R173-R184). fetch: 0 none outstanding, 1 a descriptor, 2 a re-read of word 0. -/
structure DmaQ where
  fetch  : Nat := 0
  reread : Bool := false
  run    : Bool := false           -- a descriptor is in service
  desc   : List Nat := []          -- its words 0x00 to 0x28
  got    : Nat := 0                -- source words taken
  buf    : List Nat := []          -- source bytes of the line that is arriving (ops 2 and 3)
  line   : Nat := 0
  pend   : List (Nat × Nat × Bool) := []  -- writes that wait: address, word, poisoned
  bytes  : Nat := 0
  stall  : Nat := 0                -- engine time a write stalled at, plus 1
  doneAt : Nat := 0                -- tick of the last completion, plus 1; its CURRENT, its refusal, its write-back
  donePrev : Nat := 0
  doneRef : Bool := false
  doneWb : Bool := false
  doneBytes : Nat := 0
  frames : Nat := 0                -- ring mode: frames of the grant still to move
  hold   : Bool := false           -- SAFE_IDLE or ORPHAN_HOLD has begun in this RUN (R174)
  set    : List Nat := []          -- the region registers and DMA_CFG as the fetch found them (R419)
  deriving DecidableEq, Repr

/-- A frame in the ingress buffer (R143, R153, R154): its header, its words and whether each is poisoned. -/
structure RxFrame where
  tag   : Nat
  plane : Nat
  offset : Nat
  first : Nat
  lines : Nat
  words : List (Nat × Bool)
  deriving DecidableEq, Repr

/-- One receive stream (R148, R153): the frames held, the last NAK and RESYNC (tick plus 1), the limit last sent. -/
structure RxStream where
  frames : List RxFrame := []
  nakE  : Nat := 0
  nakAt : Nat := 0
  resyncAt : Nat := 0
  sent  : Nat := 0
  deriving DecidableEq, Repr

/-- A control symbol that waits (R151). -/
structure Sym where
  code  : Nat
  stream : Nat
  value : Nat
  deriving DecidableEq, Repr

/-- The Raster Ring unit (R123-R159): what no register shows. Times are device ticks. -/
structure RngSt where
  own   : RxStream := {}
  grp   : RxStream := {}
  syms  : List Sym := []
  insAt : Nat := 0                 -- the next own symbol may leave at this tick
  ackAt : Nat := 0
  share : Nat := 8                 -- own_share in force (R153)
  commit : Nat := 0                -- committed rate recorded, 0 none
  rxDet : Nat := 0
  txDet : Nat := 0
  adapting : Bool := false
  lockAt : Nat := 0
  detAt : Nat := 0
  ts3At : Nat := 0
  txSeen : Bool := false           -- RL-1: every used ROUT lane sees a receiver
  tsLast : List Nat := []
  tsN   : Nat := 0
  tsAct : List Nat := []           -- kind, rate and round of the training sequence acted upon last (R130)
  chkPrev : List Nat := []         -- checker modes before TEST
  chkAt : Store Nat := []          -- tick up to which a running checker has counted, plus 1 (R138)
  injAt : Store Nat := []          -- tick of a lane's last periodic injection (R140)
  ts2   : List Nat := []           -- bytes 0-11 of the TS2 that a recorded committed rate has it send (R131)
  txRate : Nat := 0                -- rate code of the transmit direction
  fwd   : Nat := 0                 -- units the forwarding buffer holds (R152)
  drop  : Nat := 0                 -- received units are dropped after an overflow (R152): 1 up to the next SOF, 2 with the frame in progress
  eyeAt : Store Nat := []
  deriving DecidableEq, Repr

/-- A fuser cut's record (R330): its detail word 0, its ESN plus 1 (0 until the collector has made it), closed. -/
structure CutRec where
  d0 : Nat
  esn : Nat
  closed : Bool
  deriving DecidableEq, Repr

/-- The thermal unit (R320-R330): what no register shows. -/
structure TmpSt where
  conv  : List Nat := []           -- sensors whose conversions are to end, in order
  start : Nat := 0                 -- engine time at which the first of them started
  snap  : List Nat := []           -- its settings at that time (R323): CFG, LEVELS, LIMIT, 17 knots
  bound : Nat := 0                 -- last boundary, in ms of engine time, plus 1
  dueMs : Store Nat := []          -- boundary, in ms, at which a sensor's slow period ends (R321, R327)
  pub   : Nat := 0                 -- sensors that have published a value
  near  : Nat := 0                 -- sensors near their warning level (R327)
  badN  : Store Nat := []
  goodN : Store Nat := []
  since : Store Nat := []          -- SENS entry -> engine time since which its difference stands, plus 1
  cuts  : List CutRec := []
  skip  : Nat := 0                 -- sensors disabled during the conversion in progress (R323)
  stood : Nat := 0                 -- since the fuser cut: sensors that stood at shut-down, and those FAULTED as shut-down not in range since (R330)
  stoodF : Nat := 0
  cool  : Nat := 0                 -- sensors whose last value lay below shutdown - hyst
  deriving DecidableEq, Repr

/-- The clock unit (R350-R363): what no register shows. -/
structure ClkSt where
  lostAt : Store Nat := []         -- tick of a loop's last loss, plus 1
  slow   : Nat := 0                -- loops whose slow re-lock has been recorded
  blLocked : Nat := 0              -- Beam Link SerDes loops in lock
  said   : Nat := 0                -- loops, and at bit 24 REFCLK, whose loss or slow re-lock is recorded and still stands (R358, R364)
  blLosses : Store Nat := []
  deriving DecidableEq, Repr

/-- The power sequencer (R333-R349): what no register shows. -/
structure PwrSt where
  up     : Bool := false           -- an up request waits for the step in progress
  down   : Nat := 0                -- purpose of a down request that waits
  stepAt : Nat := 0                -- tick of the first action of the step in progress
  chanQ  : List (Nat × Bool) := [] -- channel steps of one write, in order: channel, on
  warnAt : Nat := 0                -- tick of the warning, plus 1
  shutAt : Nat := 0                -- tick of step 1 of a timed shut-down, plus 1
  collapsed : Bool := false
  parkAt : Nat := 0                -- tick at which PARKED was reached
  closed : Nat := 0                -- domains whose switches are closed and whose step up has not ended (R333, R334)
  deriving DecidableEq, Repr

/-- A calibration record that waits (R459, R461): type, index, flash address, payload. -/
structure CalRec where
  kind : Nat
  idx  : Nat
  addr : Nat
  payload : List Nat
  deriving DecidableEq, Repr

/-- The calibration block (R456-R466): what no register shows. -/
structure CalSt where
  walks : List (Option Nat) := []  -- walks that run or wait: the whole partition, or one channel's records
  waits : List CalRec := []        -- pending records, in walk order
  sent  : List (Nat × Nat × Nat) := []   -- committed and not yet transferred: type, index, flash address
  deriving DecidableEq, Repr

/-- Personality C (R429-R455): what no register shows. -/
structure LgSt where
  queue : List Nat := []           -- descriptors of the sheets queued for a TOP, oldest first (R444)
  ends  : Store Nat := []          -- station -> offset in its region where the last plane ended (R444)
  grid  : Store (Nat × Nat) := []  -- station -> speed and facets its grid was set from, plus 1 (R450)
  loopRec : Nat := 0               -- slots with a valid loop record (R451)
  deriving DecidableEq, Repr


/-- The device but for user memory and the queue. -/
structure Dev where
  regs  : Store Word64 := []       -- every register (Regs*.lean): BAR0, legacy bus, configuration space
  active : Store Word64 := []      -- active copies of shadowed registers; `regs` holds what was written (R12)
  ready  : Store Bool := []        -- shadow groups marked ready, by commit register offset (R12)
  actTbl : Store Word64 := []      -- active copies of placement maps and coefficient blocks (R224, R307)
  tbl   : Store Word64 := []       -- BAR2 table words by BAR2 byte offset of the word (R21)
  tblChk : Store Byte := []        -- check byte of a table word XOR the check byte its data calls for
  out   : List Out := []
  free  : Nat := 0
  sys   : SysSt := {}
  frd   : FrdSt := {}
  evt   : EvtSt := {}
  sht   : ShtSt := {}
  flt   : FltSt := {}
  host  : HostSt := {}
  ch    : Store ChSt := []
  bld   : Store BldAx := []
  dcb   : Store DcbSt := []
  stp   : Store StpAx := []
  inp   : Store InSt := []         -- limits and DINk by input code (R384): 2, 3 x 32 + axis; 4 x 32 + k
  loop  : Store LoopSlot := []
  outU  : Store OutSt := []        -- each loop output
  twn   : TwnSt := {}
  memx  : MemSt := {}
  dmaq  : Store DmaQ := []
  dmaLast : Nat := 15              -- the queue served last (R174)
  rng   : RngSt := {}
  tblMark : List Nat := []         -- table words marked uncorrectable (R200)
  tmp : TmpSt := {}
  clk : ClkSt := {}
  pwr : PwrSt := {}
  cal : CalSt := {}
  lg : LgSt := {}
  deriving DecidableEq, Repr

/-- User memory: bytes, and per 64-bit word its stored check byte XOR the one its data calls for (R164-R167). -/
structure Memory where
  data : List Host.Cell := []
  chk  : List Host.Cell := []
  deriving DecidableEq, Repr

/-- The state of the MK880 and the queue of the commands that wait. -/
structure State where
  dev     : Dev := {}
  mem     : Memory := {}
  pending : List Instr := []
  deriving DecidableEq, Repr

/-- Why a step ends in a fault. No command of the spec's table stops the device in this way: the type has one
constructor so that it is not empty. -/
inductive Fault where
  /-- Raised by no command (safe). -/
  | halted
  deriving DecidableEq, Repr

/-- Why a step has no answer. -/
inductive Refusal where
  /-- A command without a meaning in this model (safe). -/
  | notModelled (mnemonic : String)
  deriving DecidableEq, Repr

/-- The machine right after always-on power-on: PORST_n low or not yet released, every register at its reset value,
every unit at rest, no command waiting (R60, R67). -/
def State.reset : State := {}

end Sys2Proof.Machine
end

