-- ==== Sys2Proof/Machine/Ops.lean ====
section
/-! DEFINITION. The named operations every unit uses: registers and fields, the output log, free values, time, record strobes
and Tally records, interrupts. -/

namespace Sys2Proof.Machine

/-! ### Registers -/

/-- The value of a register. -/
def Dev.rd (d : Dev) (r : Reg) : Nat := (Store.get (BitVec.ofNat 64 r.rst) d.regs r.off).toNat

/-- Give a register a value (its low r.w bits). -/
def Dev.wr (d : Dev) (r : Reg) (v : Nat) : Dev :=
  { d with regs := Store.set (BitVec.ofNat 64 r.rst) d.regs r.off (BitVec.ofNat 64 (v % 2 ^ r.w)) }

/-- The value of a field. -/
def Dev.get (d : Dev) (f : Fld) : Nat := bits (d.rd f.reg) f.hi f.lo

/-- Give a field a value. -/
def Dev.put (d : Dev) (f : Fld) (v : Nat) : Dev := d.wr f.reg (putBits (d.rd f.reg) f.hi f.lo v)

/-- Whether a field is not zero. -/
def Dev.on (d : Dev) (f : Fld) : Bool := d.get f ≠ 0

/-- Give a one-bit field a truth value. -/
def Dev.putB (d : Dev) (f : Fld) (b : Bool) : Dev := d.put f (b2n b)

/-- Add to a counter field, saturating at the field's largest value. -/
def Dev.count (d : Dev) (f : Fld) (n : Nat := 1) : Dev := d.put f (satAdd (f.hi + 1 - f.lo) (d.get f) n)

/-- Add to a counter field that wraps. -/
def Dev.countW (d : Dev) (f : Fld) (n : Nat := 1) : Dev := d.put f (d.get f + n)

/-- One bit of a field. -/
def Dev.getBit (d : Dev) (f : Fld) (k : Nat) : Bool := bit (d.get f) k

/-- Set or clear one bit of a field. -/
def Dev.putBit (d : Dev) (f : Fld) (k : Nat) (b : Bool) : Dev := d.put f (putBits (d.get f) k k (b2n b))

/-- Return every register in [lo, hi) to its reset value. -/
def Dev.resetRegs (d : Dev) (lo hi : Nat) : Dev := { d with regs := d.regs.dropRange lo hi }

/-- Apply an update under a condition. -/
def Dev.when (d : Dev) (c : Bool) (f : Dev → Dev) : Dev := if c then f d else d

/-- Do something for each element of a list. -/
def Dev.each {α : Type} (d : Dev) (l : List α) (f : Dev → α → Dev) : Dev := l.foldl f d

/-! ### Outputs and free values -/

/-- Log something that leaves the device. -/
def Dev.emit (d : Dev) (o : Out) : Dev := { d with out := o :: d.out }

/-- The next free value (a number nothing constrains, below 2^w) and the device that has used it. -/
def Dev.freeVal (d : Dev) (w : Nat) : Nat × Dev :=
  ((Config.freeValue d.free).toNat % 2 ^ w, { d with free := d.free + 1 })

/-! ### Words of configuration space that other units read (R407) -/

/-- Device Control: Max_Payload_Size 128, Max_Read_Request_Size 512 at reset. -/
def devCtl : Reg := ⟨0x2000068, 32, 0x2100⟩
/-- Device Control 2. -/
def devCtl2 : Reg := ⟨0x2000088, 32, 0⟩
/-- The most bytes of one read request of the device: Max_Read_Request_Size, at most 512. -/
def Dev.readMax (d : Dev) : Nat := min 512 (128 * 2 ^ bits (d.rd devCtl) 14 12)
/-- Software has disabled completion timeouts. -/
def Dev.cplForever (d : Dev) : Bool := bit (d.rd devCtl2) 4

/-! ### Time -/

/-- Engine time in ticks (R76). -/
def Dev.now (d : Dev) : Nat := d.rd R.EVT_TIME

/-- What feeds engine time (R77, R354): 0 the time base, 1 REFCLK, 2 the Rhizoid's 16 MHz clock. -/
def Dev.timeSource (d : Dev) : Nat := if !d.on F.CLK_STATUS.tbase_fb then 0 else if !d.on F.CLK_STATUS.on_rc then 1 else 2

/-- Engine time counted by a source in the first t ticks of 8 ns (R77): 1 a tick; 5 a cycle of 40 ns; 125 in 16 cycles of
62.5 ns, 7 or 8 a cycle. -/
def timeCount (src t : Nat) : Nat :=
  match src with
  | 0 => t
  | 1 => t / 5 * 5
  | _ => 16 * t / 125 * 125 / 16

/-- The first tick by which a source has counted c. -/
def timeTick (src c : Nat) : Nat :=
  match src with
  | 0 => c
  | 1 => (c + 4) / 5 * 5
  | _ => ((16 * c + 124) / 125 * 125 + 15) / 16

/-- What engine time gains in the n ticks to come. -/
def Dev.timeGain (d : Dev) (n : Nat) : Nat :=
  timeCount d.timeSource (d.sys.now8 + n) - timeCount d.timeSource d.sys.now8

/-- The ticks in which engine time gains c. -/
def Dev.timeTicks (d : Dev) (c : Nat) : Nat :=
  timeTick d.timeSource (timeCount d.timeSource d.sys.now8 + c) - d.sys.now8

/-- The engine time at which t is reached: t itself on the time base, the end of the cycle that passes it on a fallback clock. -/
def Dev.timeAt (d : Dev) (t : Nat) : Nat := if d.now < t then d.now + d.timeGain (d.timeTicks (t - d.now)) else d.now

/-- What engine time gained in its last cycle. -/
def Dev.lastGain (d : Dev) : Nat :=
  match d.timeSource with
  | 0 => 1
  | 1 => 5
  | _ => let j := 16 * d.sys.now8 / 125; j * 125 / 16 - (j - 1) * 125 / 16

/-- The number of the multiple of p at which engine time stands, or the next one where it has been served: its number plus 1 is
`served`. On a fallback clock engine time stands at each multiple that its last cycle reached (R77). -/
def Dev.multiple (d : Dev) (p served : Nat) : Nat :=
  let m := d.now / p
  if d.now < m * p + d.lastGain && served ≠ m + 1 then m else if served = m + 2 then m + 2 else m + 1

/-- Let n ticks of 8 ns pass: engine time advances while it runs (R76, R77), and so do the seconds since power-on (R66). -/
def Dev.advance (d : Dev) (n : Nat) : Dev :=
  let t := d.sys.now8 + n
  let gain := d.timeGain n
  let d := { d with sys := { d.sys with now8 := t } }
  let d := d.put F.SYS_SECONDS.seconds (t / 125000000)
  if d.evt.running then d.wr R.EVT_TIME (d.now + gain) else d

/-- Let time pass until engine time reaches t; nothing where it is there already or does not run. -/
def Dev.advanceTo (d : Dev) (t : Nat) : Dev :=
  if d.evt.running && d.now < t then d.advance (d.timeTicks (t - d.now)) else d

/-- The 64 ns slot that holds the present engine time (R80). -/
def Dev.slot (d : Dev) : Nat := d.now / 8

/-! ### Configuration -/

/-- Personality C (R1): the latched PERS strap. -/
def Dev.persC (d : Dev) : Bool := d.on F.SYS_STRAPS.pers

def Dev.cfg (d : Dev) : Cfg := d.frd.cfg
def Dev.role (d : Dev) : Role := d.frd.cfg.role
/-- Twin grade (R38). -/
def Dev.twin (d : Dev) : Bool := d.frd.cfg.role.grade = 1
/-- The CHAN entry of channel n: present exactly when the channel is in use (R40). -/
def Dev.chan (d : Dev) (n : Nat) : Option Chan := d.frd.cfg.chans.find? fun c => c.channel = n
/-- The AXIS entry of an axis (R42). -/
def Dev.axis (d : Dev) (a : Nat) : Option Axis := d.frd.cfg.axes.find? fun c => c.axis = a
/-- The LOOPT entry of a slot (R48). -/
def Dev.loopT (d : Dev) (k : Nat) : Option LoopT := d.frd.cfg.loops.find? fun c => c.slot = k
/-- The PINMUX function of a pin (R43): 0 where no entry names it. -/
def Dev.pinFunc (d : Dev) (group index : Nat) : Nat :=
  ((d.frd.cfg.pins.find? fun p => p.group = group && p.index = index).map Pin.func).getD 0
/-- The channels in use, lowest first. -/
def Dev.chansInUse (d : Dev) : List Nat := (List.range 8).filter fun n => (d.chan n).isSome

/-- The REACT entry that governs a source (R46, R368): the loaded image's, class 3 and no reaction before LOADED (R54),
class 0 and no reaction for an ESTOP_n without an entry. -/
def Dev.react (d : Dev) (src : Nat) : React :=
  if d.get F.FRD_STATUS.state = 5 then
    (d.frd.cfg.reacts.find? fun r => r.source = src).getD { source := src }
  else { source := src, cls := 3 }

/-! ### Power domains (R25): the bits of PWR_DOMAINS -/

/-- Whether an internal domain is on: 0 Rhizoid and CORE as one, 1 MEM, 2 LINK, 3 DRIVE, 4-11 CH0-CH7 (R44 numbering). -/
def Dev.domOn (d : Dev) (k : Nat) : Bool := bit (d.rd R.PWR_DOMAINS) k

/-! ### Interrupts (R30, R410) -/

/-- MSI-X Enable and Function Mask of the MSI-X capability. -/
def Dev.msixOn (d : Dev) : Bool := bit (Store.get 0#64 d.regs 0x2001000).toNat 0
def Dev.msixMasked (d : Dev) : Bool := bit (Store.get 0#64 d.regs 0x2001000).toNat 1

/-- Post MSI-X vector v: nothing while MSI-X is disabled or the function is in D3hot (R30, R408); while its entry or the whole
function is masked its pending bit sets (R410). -/
def Dev.post (d : Dev) (v : Nat) : Dev :=
  if d.persC || !d.msixOn || d.host.d3 then d
  else if d.msixMasked || d.on (F.MSIX_CTRL.mask v) then d.putBit F.MSIX_PBA.pending v true
  else d.emit (.msix v (d.rd (R.MSIX_ADDR v)) (d.rd (R.MSIX_DATA v)))

/-! ### Shadowed registers (R12-R14) -/

/-- The active copy of a shadowed register. -/
def Dev.act (d : Dev) (r : Reg) : Nat := (Store.get (BitVec.ofNat 64 r.rst) d.active r.off).toNat

/-- A field of the active copy. -/
def Dev.ga (d : Dev) (f : Fld) : Nat := bits (d.act f.reg) f.hi f.lo

/-- A field of the active copy is not zero. -/
def Dev.gaOn (d : Dev) (f : Fld) : Bool := d.ga f ≠ 0

/-- A group is ready: committed and not yet transferred. -/
def Dev.isReady (d : Dev) (commit : Reg) : Bool := Store.get false d.ready commit.off

/-- Mark a group ready or not. -/
def Dev.setReady (d : Dev) (commit : Reg) (b : Bool) : Dev := { d with ready := Store.set false d.ready commit.off b }

/-- Copy the shadow copy of a register to its active copy. -/
def Dev.activate (d : Dev) (r : Reg) : Dev :=
  { d with active := Store.set (BitVec.ofNat 64 r.rst) d.active r.off (BitVec.ofNat 64 (d.rd r)) }

/-- Transfer a ready group (R12): all its shadow copies in one clock; its pending bit clears. The flag of the unit is the
caller's. -/
def Dev.transfer (d : Dev) (commit : Reg) (pending : Fld) (regs : List Reg) : Dev :=
  ((d.each regs Dev.activate).setReady commit false).put pending 0

/-! ### Records -/

/-- A record strobe (R364): a second strobe of the source in the same 64 ns slot is merged into the first and counted. -/
def Dev.strobe (d : Dev) (x : Strobe) : Dev :=
  if d.flt.strobes.any (fun s => s.src = x.src && s.t / 8 = x.t / 8) then d.count (F.FLT_SRCi_STATE.merged x.src)
  else { d with flt := { d.flt with strobes := d.flt.strobes ++ [x] } }

/-- Strobe a record of a source with two detail words at engine time t. -/
def Dev.reportAt (d : Dev) (src d0 d1 t : Nat) : Dev := d.strobe ⟨src, d0, d1, t, 0⟩

/-- Strobe a record at the present engine time. -/
def Dev.report (d : Dev) (src d0 d1 : Nat) : Dev := d.reportAt src d0 d1 d.now

/-- Strobe a record that takes the given class (R62, R64). -/
def Dev.reportClass (d : Dev) (cls src d0 d1 : Nat) : Dev := d.strobe ⟨src, d0, d1, d.now, cls + 1⟩

/-- Strobe a record whose detail words no chapter lays down: both are free values. -/
def Dev.reportOpen (d : Dev) (src : Nat) : Dev :=
  let (a, d) := d.freeVal 32
  let (b, d) := d.freeVal 32
  d.report src a b

/-- A record that takes the given class and whose detail words no chapter lays down. -/
def Dev.reportClassOpen (d : Dev) (cls src : Nat) : Dev :=
  let (a, d) := d.freeVal 32
  let (b, d) := d.freeVal 32
  d.reportClass cls src a b

/-- Drive the active level of a source (R364); index 41 is ESTOP_n. A fall starts the quiet timer (R374). -/
def Dev.setActive (d : Dev) (src : Nat) (b : Bool) : Dev :=
  let was := d.on (F.FLT_SRCi_STATE.active src)
  let d := if was && !b then { d with flt := { d.flt with quietFrom := Store.set 0 d.flt.quietFrom src (d.now + 1) } } else d
  let d := d.put (F.FLT_SRCi_STATE.active src) (b2n b)
  if src < 41 then d.putBit F.FLT_ACTIVE.active src b else d

/-- Queue a Tally record of the present slot under its class of R80 and its order within it. -/
def Dev.tally (d : Dev) (r : SlotRec) : Dev := { d with evt := { d.evt with recs := d.evt.recs ++ [(d.slot, r)] } }

/-- A sheet milestone (R121). -/
def Dev.milestone (d : Dev) (code tag cause channel desc detail1 : Nat) : Dev :=
  d.tally ⟨4, 0, 0, 0, 7, code, tag, cause <<< 24 + channel <<< 16 + desc, detail1, d.now⟩

/-- A record of the fifth class of R80: authority events, time steps, reset records, software marks. -/
def Dev.mark (d : Dev) (kind src d0 d1 : Nat) : Dev := d.tally ⟨5, 0, 0, 0, kind, src, 0, d0, d1, d.now⟩

/-! ### Stops the step function makes from a function of the device -/

/-- The next state, in which only the device differs. -/
def State.onDev (s : State) (f : Dev → Dev) : Host.Outcome State Fault Refusal := .next { s with dev := f s.dev }

/-! ### Host-port errors (R428) and the twin's agreed inputs (R388) -/

/-- Detail word 0 [23:0] of a host-port record: the BAR and the offset (R428). -/
def hostPlace (bar off : Nat) : Nat := (bar / 2 % 4) <<< 22 + off / 4 % 2 ^ 22

/-- The SYS_CFG_HOST_ERR bit of a subcode (R411). -/
def hostErrBit (sub : Nat) : Nat := match sub with | 0xA0 => 0 | 0xA1 => 1 | 0xA2 => 2 | 0xA3 => 7 | 0xA4 => 3 | _ => 4

/-- Report a host-port event under bit 34: its error bit, its count, one record per subcode per 1 ms (R411, R428). -/
def Dev.hostErr (d : Dev) (sub d0 d1 : Nat) : Dev :=
  let d := (d.wr R.SYS_CFG_HOST_ERR (putBits (d.rd R.SYS_CFG_HOST_ERR) (hostErrBit sub) (hostErrBit sub) 1)).count F.SYS_CFG_HOST_COUNTS.errors
  let last := Store.get 0 d.host.lastErr sub
  if last ≠ 0 && d.sys.now8 < last - 1 + 125000 then d
  else
    let d := { d with host := { d.host with lastErr := Store.set 0 d.host.lastErr sub (d.sys.now8 + 1) } }
    d.report 34 (sub <<< 24 + d0 % 2 ^ 24) d1

/-- Refuse or discard something on the twin unit (R405): counted, status bit 9. -/
def Dev.twnReject (d : Dev) : Dev :=
  let d := d.count F.TWN_REJECT.count
  let was := d.on F.TWN_IRQ_STATUS.refused
  let d := d.put F.TWN_IRQ_STATUS.refused 1
  if !was && bit (d.rd R.TWN_IRQ_EN) 9 then d.post 18 else d

/-- agree_us of TWN_CFG in ticks: values below 4 act as 4 (R405). -/
def Dev.agreeTicks (d : Dev) : Nat := max 4 (d.get F.TWN_CFG.agree_us) * 125

/-- A partner that takes epochs: present, in JOINING or LOCKSTEP by its last message. -/
def Dev.paired (d : Dev) : Bool :=
  d.twin && d.on F.TWN_STATUS.partner_present && (d.twn.pState = 2 || d.twn.pState = 3)

/-- The epoch number an agreed command accepted now waits for (R400): the one that carries the last dirty block, which is the next one
while blocks wait for it, else the running one. -/
def Dev.waitEpoch (d : Dev) : Option Nat :=
  if !d.paired then none
  else if !d.twn.dirty.isEmpty then some ((d.get F.TWN_EPOCH.current + 1) % 65536)
  else if d.on F.TWN_STATUS.epoch_busy then some (d.get F.TWN_EPOCH.current) else none

/-- The data units of a HOST message (R383). -/
def hostUnits (a : Agreed) : List Nat :=
  [a.ta, (match a.wait with | some e => e | none => 0xFFFF) <<< 48 + a.kind <<< 40 + a.off <<< 16, a.data]

/-- Put units on every lane of the twin link that is up. -/
def Dev.onLanes (d : Dev) (us : List (List Nat)) : Dev :=
  d.each ([0, 1].filter fun l => bit (d.get F.TWN_STATUS.lanes_up) l) fun d l => d.emit (.twin l us)

/-- Send a message (R383): kind, number, data units; on every lane that is up. -/
def Dev.sendTwin (d : Dev) (kind : Nat) (units : List Nat) : Dev :=
  let m := d.twn.mseqTx
  let d := { d with twn := { d.twn with mseqTx := (m + 1) % 65536 } }
  d.onLanes (twinFrame kind m units)

/-- Queue an agreed input and send it (R388). -/
def Dev.sendAgreed (d : Dev) (delay kind off data : Nat) : Dev :=
  let a : Agreed := ⟨d.now + delay, d.twn.mseqTx, d.waitEpoch, kind, off, data⟩
  (({ d with twn := { d.twn with queue := d.twn.queue ++ [a] } } : Dev)).sendTwin 0x03 (hostUnits a)

/-- The power domain of an offset in BAR0 (R17, R20): the bit of PWR_DOMAINS. -/
def domainOf (off : Nat) : Nat :=
  if 0x200000 ≤ off && off < 0x300000 then 4 + (off - 0x200000) / 0x20000
  else match off / 0x10000 with
    | 5 => 1
    | 6 => 2
    | 15 => if off = R.TWN_TOKEN_STATE.off then 0 else 2
    | 8 | 9 => 3
    | _ => 0

/-- The PCI Express endpoint answers: Personality N with CORE on, from the end of phase 3 (R409), be it done or failed. -/
def Dev.endpoint (d : Dev) : Bool :=
  !d.persC && d.domOn 0 && (d.host.linkUp || [2, 3, 4].contains (Store.get 0 d.sys.ph 3))

/-- Unsupported Request (R408, R412). -/
def Dev.unsupported (d : Dev) : Dev := (d.put F.SYS_CFG_HOST_ERR.ur_sent 1).emit .unsupported

/-- A host access to BAR0 that reaches no register: without the endpoint nothing takes it, in D3hot it is an Unsupported Request
(R408), and one to a block whose domain is off is reported (R20). None where it reaches its register. -/
def Dev.barred (d : Dev) (off : Nat) : Option Dev :=
  if !d.endpoint then some d
  else if d.host.d3 then some d.unsupported
  else if d.domOn (domainOf off) then none
  else some (d.hostErr 0xA1 (hostPlace 0 off) (d.rd R.PWR_DOMAINS))

/-- A host access to a register, carried out where it reaches it. -/
def Dev.reach (d : Dev) (off : Nat) (f : Dev → Dev) : Dev := (d.barred off).getD (f d)

/-- A host access to a register whose effect reaches beyond Dev. -/
def State.reach (s : State) (off : Nat) (f : State → State) : State :=
  match s.dev.barred off with
  | some d => { s with dev := d }
  | none => f s

/-- An agreed write (R388), from the host or from a unit of the device: in Twin grade the Token holder of a pair queues it for t_a
and sends it, a member without the Token discards it; every other device, and a member not yet in a pair, acts at once. -/
def Dev.agreed (d : Dev) (r : Reg) (v : Nat) (f : Dev → Dev) : Dev :=
  if !d.twin || d.get F.TWN_STATUS.state < 2 then f d
  else if d.on F.TWN_TOKEN_STATE.latch then d.sendAgreed d.agreeTicks (if r.w = 64 then 1 else 0) r.off v
  else d.twnReject.hostErr 0xA2 (hostPlace 0 r.off) 388

/-- A host write of an agreed command. -/
def Dev.agree (d : Dev) (r : Reg) (v : Nat) (f : Dev → Dev) : Dev := d.reach r.off (·.agreed r v f)

/-- A host write of an agreed command whose effect reaches beyond Dev. -/
def State.agree (s : State) (r : Reg) (v : Nat) (f : State → State) : State :=
  s.reach r.off fun s =>
  if !s.dev.twin || s.dev.get F.TWN_STATUS.state < 2 then f s else { s with dev := s.dev.agreed r v id }

/-- Advance the device clock to t. -/
def Dev.advance8To (d : Dev) (t : Nat) : Dev := if d.sys.now8 < t then d.advance (t - d.sys.now8) else d

/-! ### Table memories (R21) -/

/-- A table word as stored. -/
def Dev.tw (d : Dev) (off : Nat) : Nat := (Store.get 0#64 d.tbl off).toNat

/-- Store a table word with its check byte regenerated (R22); a mark on it goes (R200). -/
def Dev.putTw (d : Dev) (off v : Nat) : Dev :=
  { d with
    tbl := Store.set 0#64 d.tbl off (BitVec.ofNat 64 v)
    tblChk := Store.set 0#8 d.tblChk off 0#8
    tblMark := d.tblMark.filter (· ≠ off) }

end Sys2Proof.Machine
end

