-- ==== Sys2Proof/Machine/Prof.lean ====
section
/-! DEFINITION. The profile generator of stepper and brushless moves (R284-R286), in exact integers. -/

namespace Sys2Proof.Machine

/-- -1, 0 or 1. -/
def sgn (x : Int) : Int := if x < 0 then -1 else if 0 < x then 1 else 0

/-- floor(V² / (2D)), the distance to slow from V to `vEnd` (R285; vEnd is 0 but for a brushless move, R276). -/
def stopDist (v : Int) (vEnd dec : Nat) : Int := (v * v - (vEnd * vEnd : Nat)) / (2 * (max dec 1 : Nat))

/-- The direction of travel. -/
def Prof.dir (x : Prof) : Int := if x.rev ≠ 0 then x.rev else if x.v ≠ 0 then sgn x.v else sgn (x.target - x.p)

/-- Advance to the speed v' (R284). -/
def Prof.move (x : Prof) (v' : Int) : Prof := { x with p := x.p + (x.v + v') / 2, v := v' }

/-- One profile period of a running move (R285, and R286 while a reversal runs): the generator after it and whether the move
ended in it. `vEnd` is the speed the move ends at. -/
def Prof.step (x : Prof) (vEnd : Nat) : Prof × Bool :=
  let q := x.dir
  let r := (x.target - x.p) * q
  let v := x.v * q
  let d : Int := (x.dec : Nat)
  if x.rev ≠ 0 && v ≤ 0 then (x.move ((v + d) * q), false)
  else if r ≤ max v d then ({ x with p := x.target, v := 0, rev := 0 }, true)
  else if r - v ≤ stopDist v vEnd x.dec then (({ x with rev := 0 }).move (max (v - d) (max d (vEnd : Nat)) * q), false)
  else if v < (x.peak : Nat) then
    (x.move (min (v + (if x.rev ≠ 0 then d else (x.acc : Nat))) (x.peak : Nat) * q), false)
  else if (x.peak : Nat) < v then (({ x with rev := 0 }).move (max (v - d) (x.peak : Nat) * q), false)
  else (({ x with rev := 0 }).move x.v, false)

/-- One profile period of a stop (R288) at `rate`, or at the move's own decel when that is greater: the generator after it
and whether the target was reached in it. A stop never passes the target, also one that ends a reversal. -/
def Prof.stop (x : Prof) (rate : Nat) : Prof × Bool :=
  let q := if x.v ≠ 0 then sgn x.v else 1
  let v := x.v * q
  let d : Int := (max rate x.dec : Nat)
  let v' := max (v - d) 0
  let x' := ({ x with rev := 0 }).move (v' * q)
  let r := (x.target - x.p) * q
  let gone := (x'.p - x.p) * q
  if 0 ≤ r && r ≤ gone then ({ x' with p := x.target, v := 0 }, true) else (x', false)

/-- One profile period of a stop at exactly `rate` that knows no target (R292, settle). -/
def Prof.halt (x : Prof) (rate : Nat) : Prof :=
  let q := sgn x.v
  ({ x with rev := 0 }).move (max (x.v * q - (rate : Nat)) 0 * q)

/-- Replan from the present position and speed toward a new target (R286). Answers none where the target lies behind and the
axis is unidirectional: `some code` then carries the refusal. -/
def Prof.replan (x : Prof) (target : Int) (acc dec peak : Nat) (uni : Bool) : Prof × Option Nat :=
  let y : Prof := { x with target := target, acc := acc, dec := dec, peak := peak, rev := 0 }
  if x.v = 0 then
    if target < x.p && uni then (x, some 2) else (y, none)
  else
    let q := sgn x.v
    let r := (target - x.p) * q
    if r < stopDist x.v 0 dec then
      if uni then (x, some 1) else ({ y with rev := -q }, none)
    else (y, none)

/-- Round a / b to the nearest integer. -/
def roundDiv (a b : Nat) : Nat := (2 * a + b) / (2 * b)

/-- floor of a square root, bit by bit. -/
def isqrtAux : Nat → Nat → Nat → Nat
  | 0, _, r => r
  | k + 1, n, r => let t := r + 2 ^ k; if t * t ≤ n then isqrtAux k n t else isqrtAux k n r

/-- floor of the square root of a number below 2^128. -/
def isqrt (n : Nat) : Nat := isqrtAux 64 n 0

/-- A quotient whose rounding no rule states: exact where it divides, else one of the two neighbouring integers, left free. -/
def openDiv (place : Nat) (a : Int) (b : Nat) : Int := a / b + (if a % b ≠ 0 && Config.roundsUp place a b then 1 else 0)

/-- The square root of num / den, its rounding free in the same way. -/
def openSqrt (place num den : Nat) : Nat :=
  let r := isqrt (num / den)
  r + (if r * r * den ≠ num && Config.roundsUp place num den then 1 else 0)

end Sys2Proof.Machine
end

