-- ==== Sys2Proof/Machine/Foc.lean ====
section
/-! DEFINITION. The transforms of the brushless current loop, its modulation and the observer's recurrence (R262-R264, R266): the
values the rules give, each up to the choice of one of the two integers next to it. -/

namespace Sys2Proof.Machine

/-- 2π and √3 in 2^-60. -/
def tau60 : Int := 7244019458077122842
def sqrt3 : Nat := 1996918623117814387

/-- A power series in 2^-60 whose next term is the last one times -x² over the next divisor. -/
def series (x2 first : Int) (divs : List Nat) : Int :=
  (divs.foldl (fun (p : Int × Int) k => let t := -(p.1 * x2 / 2 ^ 60 / (k : Nat)); (t, p.2 + t)) (first, first)).2

/-- Sine and cosine in 2^-60 of an angle in the first quadrant, 65,536 per turn. -/
def sinCosQ (r : Nat) : Int × Int :=
  let x := tau60 * (r : Nat) / 65536
  let x2 := x * x / 2 ^ 60
  (series x2 x ((List.range 14).map fun k => (2 * k + 2) * (2 * k + 3)),
   series x2 (2 ^ 60) ((List.range 14).map fun k => (2 * k + 1) * (2 * k + 2)))

/-- Sine and cosine in 2^-60 of an angle of 65,536 per turn. -/
def sinCos (θ : Nat) : Int × Int :=
  let (s, c) := sinCosQ (θ % 16384)
  match θ / 16384 % 4 with
  | 0 => (s, c)
  | 1 => (c, -s)
  | 2 => (-s, -c)
  | _ => (-c, s)

/-- Rotation of (x, y) by θ (R263, R264). -/
def rotate (place θ : Nat) (x y : Int) : Int × Int :=
  let (s, c) := sinCos θ
  (openDiv place (x * c - y * s) (2 ^ 60), openDiv (place + 1) (x * s + y * c) (2 ^ 60))

/-- The Clarke transform of two phase currents, the third being -i_U - i_V (R261, R263): amplitudes are kept, as R264's relation of
|v| to the linear range asks. -/
def clarke (iu iv : Int) : Int × Int := (iu, openDiv 26 ((iu + 2 * iv) * 2 ^ 60) sqrt3)

/-- The inverse Clarke transform (R264). -/
def invClarke (vA vB : Int) : Int × Int × Int :=
  (vA, openDiv 27 (vB * (sqrt3 : Nat) - vA * 2 ^ 60) (2 ^ 61), openDiv 28 (-vB * (sqrt3 : Nat) - vA * 2 ^ 60) (2 ^ 61))

/-- The 2^-60 Q1.15 that ω_e x ls x i is in R263, ω in mechanical 1/16 rpm: ω_e = 2π x ω x pole_pairs / 960 per second, ls in 0.1 µs. -/
def crossTerm (place : Nat) (omega : Int) (ls polePairs : Nat) (i : Int) : Int :=
  openDiv place (tau60 * omega * (polePairs : Nat) * (ls : Nat) * i) (9600000000 * 2 ^ 60)

/-- The decoupling terms for v_d and v_q (R263). -/
def decouple (omega : Int) (ls polePairs : Nat) (id iq : Int) (ke : Nat) : Int × Int :=
  (-crossTerm 29 omega ls polePairs iq,
   crossTerm 30 omega ls polePairs id + openDiv 31 (ke * omega.natAbs * polePairs : Nat) 120000)

/-- A 12-bit current code, signed, as Q1.15 of I_fs (R262): 2,047 is +I_fs. -/
def curQ15 (c : Int) : Int := clampI (-32768) 32767 (openDiv 18 (c * 32767) 2047)

/-- round(N x (1/2 + v x vNom / (√3 x 32,767 x vMeas))) (R264), exactly. -/
def compareCount (n : Nat) (v : Int) (vNom vMeas : Nat) : Int :=
  let q := 32767 * max vMeas 1
  let p := 2 * n * v.natAbs * vNom
  let w2 : Int := (isqrt (p * p / (3 * q * q)) : Nat)
  if v < 0 then ((n : Int) - w2 - 1 + 1) / 2 else ((n : Int) + w2 + 1) / 2

/-- The phase voltages, common mode removed (R264). -/
def modulate (vA vB : Int) : Int × Int × Int :=
  let (u, v, w) := invClarke vA vB
  let cm := openDiv 3 (max u (max v w) + min u (min v w)) 2
  (u - cm, v - cm, w - cm)

/-- Dead-time compensation of one phase (R264). -/
def deadComp (on : Bool) (dead : Nat) (i : Int) : Int := if on && 128 ≤ i.natAbs then sgn i * (((dead + 1) / 2 : Nat) : Int) else 0

/-- One component of the current model and of the back-EMF estimate (R266), kept in 2^-16 of Q1.15 (DESIGN CHOICE, see the assumption
log): i, e are the estimates, s the sample, v the applied voltage; T / ls is 2N / (25 ls), rs is Q4.12. With ls = 0 the recurrence
has no value. -/
def observeAxis (i e s v : Int) (rs ls n : Nat) (g : Int × Int) : Int × Int :=
  let err := s * 65536 - i
  let den := 25 * ls * 4096 * 2 ^ 32
  let i' := if ls = 0 then Config.modelOpen i e s v
    else i + openDiv 19 (2 * (n : Nat) * (4096 * (v * 65536) - (rs : Nat) * i - 4096 * e) * 2 ^ 32 + (25 * ls * 4096 : Nat) * g.1 * err) den
  (i', e - openDiv 20 (g.2 * err) (2 ^ 32))

/-- atan(y / x) in 2^-60 for 0 ≤ y ≤ x, 0 < x: three halvings of the angle, then its power series. -/
def atan60 (y x : Nat) : Int :=
  let half := fun (t : Nat) => t * 2 ^ 60 / (2 ^ 60 + isqrt (2 ^ 120 + t * t))
  let t : Int := (half (half (half (y * 2 ^ 60 / x))) : Nat)
  let t2 := t * t / 2 ^ 60
  8 * ((List.range 14).foldl (fun (p : Int × Int) k =>
    let q := -(p.1 * t2 / 2 ^ 60); (q, p.2 + q / ((2 * k + 3 : Nat) : Int))) (t, t)).2

/-- atan2(y, x) in units of 65,536 per turn, up to the choice of one of the two integers next to it (R300). -/
def atan2 (y x : Int) : Int :=
  let ax := x.natAbs
  let ay := y.natAbs
  if ax = 0 && ay = 0 then Config.atan2Zero
  else
    let a := if ay = ax then 8192
      else if ay < ax then openDiv 37 (atan60 ay ax * 65536) tau60.toNat
      else 16384 - openDiv 37 (atan60 ax ay * 65536) tau60.toNat
    let b := if x < 0 then 32768 - a else a
    if y < 0 then -b else b

/-- ln 2 in 2^-60. -/
def ln2 : Nat := 799144290325165978

/-- exp(-x) in 2^-60 for x in 2^-60. -/
def expNeg (x : Nat) : Int :=
  let r : Int := (x % ln2 : Nat)
  (((List.range 24).foldl (fun (p : Int × Int) k => let t := -(p.1 * r / 2 ^ 60 / ((k + 1 : Nat) : Int)); (t, p.2 + t)) ((2 ^ 60 : Int), (2 ^ 60 : Int))).2)
    / (2 ^ (x / ln2) : Nat)

/-- 2π x f x T in 2^-60, f in Hz, T = 8 N ns one PWM period. -/
def angle60 (f n : Nat) : Nat := tau60.toNat * f * 8 * n / 10 ^ 9

/-- The gains g1 and g2 of the observer in 2^-32 (R266): with them both roots of the recurrence's error lie at z = p = exp(-2π obs_bw T),
so g1 = 2 - T rs / ls - 2p and g2 = (1 - p)² ls / T (DEDUCED, see the assumption log). -/
def observerGains (rs ls obsBw n : Nat) : Int × Int :=
  let p := expNeg (angle60 obsBw n)
  let a : Int := (2 * n * rs * 2 ^ 32 / (max 1 (25 * ls * 4096)) : Nat)
  (2 ^ 33 - a - 2 * p / 2 ^ 28, (2 ^ 60 - p) * (2 ^ 60 - p) / 2 ^ 88 * (25 * ls : Nat) / (max 1 (2 * n) : Nat))

/-- The tracker's phase error in 2^-60: the sine of the angle from θ to the rotor as ê shows it, ê = (-sin, cos) times the signed
back-EMF. -/
def trackError (o : ObsSt) (eA eB : Int) : Int :=
  let m : Int := (isqrt (eA * eA + eB * eB).toNat : Nat)
  let (s, c) := sinCos (o.theta % 65536)
  if m = 0 then 0 else (-(eA * c) - eB * s) / m * (if o.omega < 0 then -1 else 1)

/-- One period of the tracker (R266): a second-order loop of natural frequency pll_bw and damping 0.707, a step per period (DESIGN
CHOICE, see the assumption log). Angle in 2^-48 turn, speed in 2^-48 turn per period. -/
def track (o : ObsSt) (eA eB : Int) (pllBw n : Nat) : Nat × Int :=
  let x : Int := (angle60 pllBw n : Nat)
  let err := trackError o eA eB
  let w := o.trk + openDiv 34 (x * x * err * 2 ^ 48) (2 ^ 120 * tau60.toNat)
  let step := w + openDiv 35 (1414 * x * err * 2 ^ 48) (1000 * 2 ^ 60 * tau60.toNat)
  ((((o.ph : Int) + step) % 2 ^ 48).toNat, w)

/-- One period of the observer and its tracker (R266). -/
def observer (o : ObsSt) (iA iB vA vB : Int) (rs ls obsBw pllBw n polePairs : Nat) : ObsSt :=
  let g := observerGains rs ls obsBw n
  let (mA, eA) := observeAxis o.iA o.eA iA vA rs ls n g
  let (mB, eB) := observeAxis o.iB o.eB iB vB rs ls n g
  let (ph, w) := track o eA eB pllBw n
  let ω := openDiv 36 (w * 960000000000) (2 ^ 48 * max 1 (8 * n * polePairs))
  { iA := mA, iB := mB, eA := eA, eB := eB, theta := ph / 2 ^ 32, omega := ω, emag := openSqrt 21 (eA * eA + eB * eB).toNat (2 ^ 32), trk := w, ph := ph }

end Sys2Proof.Machine
end

