-- ==== Sys2Proof/Machine/Flags.lean ====
section
/-! DEFINITION. Status flags and the interrupts they post: a status bit that sets while its enable bit is 1 posts the unit's
vector (R94, R122, R227 and alike). -/

namespace Sys2Proof.Machine

/-- Set bit k of a status register; when it was 0 and bit k of the enable register is 1, post the vector. -/
def Dev.flag (d : Dev) (st en : Reg) (k vector : Nat) : Dev :=
  let was := bit (d.rd st) k
  let d := d.wr st (putBits (d.rd st) k k 1)
  if !was && bit (d.rd en) k then d.post vector else d

/-- Set bit k of a status register and post the vector, each time and whatever is enabled. -/
def Dev.flagAlways (d : Dev) (st : Reg) (k vector : Nat) : Dev := (d.wr st (putBits (d.rd st) k k 1)).post vector

/-- Clear bit k of a register. -/
def Dev.clearBit (d : Dev) (r : Reg) (k : Nat) : Dev := d.wr r (putBits (d.rd r) k k 0)

/-- Event-scheduler status bit (R94, vector 13). -/
def Dev.evtFlag (d : Dev) (k : Nat) : Dev := d.flag R.EVT_STATUS R.EVT_IRQ_EN k 13

/-- Sheet status bit (R122, vector 10). -/
def Dev.shtFlag (d : Dev) (k : Nat) : Dev := d.flag R.SHT_STATUS R.SHT_IRQ_EN k 10

/-- Fault-collector status bit (R378, vector 0): bits 0 and 1 always post. -/
def Dev.fltFlag (d : Dev) (k : Nat) : Dev :=
  if k < 2 then d.flagAlways R.FLT_IRQ_STATUS k 0 else d.flag R.FLT_IRQ_STATUS R.FLT_IRQ_EN k 0

/-- Set bit k of CLK_EVENTS (R362). -/
def Dev.clkEvent (d : Dev) (k : Nat) : Dev := d.wr R.CLK_EVENTS (putBits (d.rd R.CLK_EVENTS) k k 1)

/-! ### Held admissions (R366, R369, R392) -/

/-- Source i holds admissions: an open record with reaction bit 2, or one of the partner by an agreed input. -/
def Dev.holds (d : Dev) (i : Nat) : Bool := d.flt.opens.any (fun r => r.src = i && bit r.bits 2) || bit d.flt.pairHold i

/-- Show which sources hold admissions. -/
def Dev.holdShow (d : Dev) : Dev :=
  (d.each (List.range 42) fun d i => d.putB (F.FLT_SRCi_STATE.holds_admission i) (d.holds i)).putB F.FLT_STATUS.admissions_held
    ((List.range 42).any d.holds)

/-- The partner's records hold admissions no more (R392). -/
def Dev.pairFree (d : Dev) : Dev :=
  if d.flt.pairHold = 0 then d else ({ d with flt := { d.flt with pairHold := 0 } } : Dev).holdShow

/-! ### The calibration block's flags and counters, and what other units tell it (R459-R466) -/

/-- Calibration status bit (R465, vector 19). -/
def Dev.calFlag (d : Dev) (k : Nat) : Dev := d.flag R.CAL_IRQ_STATUS R.CAL_IRQ_EN k 19

/-- A record is bad: counted, flagged, recorded with subcode 0xB1 (R460, R466). -/
def Dev.calBad (d : Dev) (kind idx addr : Nat) : Dev :=
  ((d.count F.CAL_COUNTS.bad).calFlag 2).report 35 (0xB1 <<< 24 + kind <<< 16 + idx <<< 8) addr

/-- This member follows a partner (R463). -/
def Dev.follows (d : Dev) : Bool := d.twin && d.get F.TWN_STATUS.state = 3 && !d.on F.TWN_TOKEN_STATE.latch

/-- A read of the flash by the loader or the calibration store (R425, R427): quad-output fast read at 50 MHz. -/
def Dev.flashRead (d : Dev) (addr len : Nat) : Dev := d.emit (.qspi 0x6B (some addr) 8 7 true [] len)

/-- The QSPI bus is free of the last command of its owner: the loader goes first, the calibration store second (R426). -/
def Dev.flashNext (d : Dev) : Dev :=
  if d.host.qspiBusy then d
  else if d.get F.FRD_STATUS.state = 1 then (if d.frd.checked then d else d.flashRead 0 64)
  else if d.cal.walks.isEmpty then d
  else d.flashRead 0x40000 0x40000

/-- A walk starts, or waits behind the one that runs (R462); the follower makes none (R463). -/
def Dev.walkStart (d : Dev) (scope : Option Nat) : Dev :=
  if d.follows then d
  else
    let e := (({ d with cal := { d.cal with walks := d.cal.walks ++ [scope] } } : Dev)).put F.CAL_STATUS.busy 1
    if d.cal.walks.isEmpty && d.get F.FRD_STATUS.state ≠ 1 then e.flashNext else e

/-- Show whether records wait; when the last of them has gone, all_applied (R465). -/
def Dev.calShow (d : Dev) : Dev :=
  let was := d.on F.CAL_STATUS.pending
  let now := !d.cal.waits.isEmpty
  let d := d.putB F.CAL_STATUS.pending now
  if was && !now then d.calFlag 1 else d

/-- A channel is switched off: its pending records are discarded (R461). -/
def Dev.calDrop (d : Dev) (n : Nat) : Dev :=
  let keep := d.cal.waits.filter fun r => !((r.kind = 1 || r.kind = 2) && r.idx = n || r.kind = 3 && r.idx / 2 = n)
  (({ d with cal := { d.cal with waits := keep } } : Dev)).calShow

/-- The unit has taken or refused a committed record (R460). -/
def Dev.calOutcome (d : Dev) (kind idx : Nat) (refused : Bool) : Dev :=
  match d.cal.sent.find? fun r => r.1 = kind && r.2.1 = idx with
  | none => d
  | some r =>
    let d := { d with cal := { d.cal with sent := d.cal.sent.filter fun x => !(x.1 = kind && x.2.1 = idx) } }
    if refused then
      let d := if kind = 6 then { d with lg := { d.lg with loopRec := putBits d.lg.loopRec idx idx 0 } } else d
      d.calBad kind idx r.2.2
    else d

/-! ### What Personality C shows (R439-R442) -/

/-- Set a bit of LG_STATUS. -/
def Dev.lgEvent (d : Dev) (k : Nat) : Dev := if d.persC then d.wr R.LG_STATUS (putBits (d.rd R.LG_STATUS) k k 1) else d

/-- Set a bit of LG_Ss_STAT: bit 0 of LG_STATUS follows. -/
def Dev.lgStation (d : Dev) (s k : Nat) : Dev :=
  if d.persC && s < 4 then (d.wr (R.LG_Ss_STAT s) (putBits (d.rd (R.LG_Ss_STAT s)) k k 1)).lgEvent 0 else d

/-- Set a bit of LG_VID_STAT: bit 1 of LG_STATUS follows. -/
def Dev.lgVideo (d : Dev) (k : Nat) : Dev :=
  if d.persC then (d.wr R.LG_VID_STAT (putBits (d.rd R.LG_VID_STAT) k k 1)).lgEvent 1 else d

/-- Every enabled polygon is locked (R450): at speed, its channel IN_PHASE. -/
def Dev.lgLocked (d : Dev) : Bool :=
  let en := d.get F.LG_POLY_CFG.enable
  en ≠ 0 && (List.range 4).all fun s =>
    !bit en s || (d.on (F.BLD_AXa_STATUS.at_speed s) && d.get (F.CHn_SCT_STATUS.state s) = 3)

/-- An update after which every enabled polygon is locked, when that was not so before, sets poly_ready (R440). -/
def Dev.lgWatch (d : Dev) (f : Dev → Dev) : Dev :=
  let e := f d
  if !d.lgLocked && e.lgLocked then e.lgEvent 5 else e

/-! ### Staged storage (R388, R399) -/

/-- A staged write of a host or of the calibration block: the holder of a pair marks its 64-byte block dirty. -/
def Dev.stage (d : Dev) (bar0 : Bool) (off : Nat) : Dev :=
  if d.paired && 2 ≤ d.get F.TWN_STATUS.state && d.on F.TWN_TOKEN_STATE.latch then
    let b : Blk := ⟨bar0, off / 64 * 64⟩
    let ds := if d.twn.dirty.contains b then d.twn.dirty else b :: d.twn.dirty
    (({ d with twn := { d.twn with dirty := ds, dirtyAt := d.sys.now8 + 1 } } : Dev)).put F.TWN_STATUS.staged_dirty 1
  else d

/-- Mark a group ready (R12): its commit register is written. -/
def Dev.commit (d : Dev) (c : Reg) (pending : Fld) : Dev := (d.setReady c true).put pending 1

end Sys2Proof.Machine
end

