-- ==== Sys2Proof/Machine/Gate.lean ====
section
/-! DEFINITION. Input units of the twin link (R384), and the firing gate: the laser permit of a channel, its interlocks and its latched drops (R252-R256), and the
control units that carry the permit on the Beam Link (R235). -/

namespace Sys2Proof.Machine

/-- This member's own qualified inputs count (R387, R390): Single grade, or the Token holder of a pair. -/
def Dev.ownInputs (d : Dev) : Bool := !d.twin || d.get F.TWN_STATUS.state < 2 || d.on F.TWN_TOKEN_STATE.latch || d.twn.turnNew

/-- The member's outputs are frozen (R396): it disagrees, or agreement returned less than 0.5 µs ago. -/
def Dev.twnFrozen (d : Dev) : Bool :=
  d.twin && 2 ≤ d.get F.TWN_STATUS.state && (!d.on F.TWN_TOKEN_STATE.agree || d.sys.now8 < d.twn.liveAt)

/-- TWN_TOKEN_STATE as it reads: frozen is shown as it stands. -/
def Dev.tokenState (d : Dev) : Nat :=
  putBits (d.rd R.TWN_TOKEN_STATE) F.TWN_TOKEN_STATE.frozen.hi F.TWN_TOKEN_STATE.frozen.lo (b2n d.twnFrozen)

/-- Write the Token latch: both copies, and the member's own pin (R394). -/
def Dev.putLatch (d : Dev) (on : Bool) : Dev :=
  let d := (d.putB F.TWN_TOKEN_STATE.latch on).putB F.TWN_TOKEN_STATE.drive on
  { d with twn := { d.twn with latchCopy := on } }

/-- What frozen outputs hold (R396); none while they are live. -/
def Dev.heldOut (d : Dev) : Option Held := if d.twnFrozen then d.twn.held else none
/-- The outputs are released to their R31 states: a full reset or a shut-down cut them (R70, R343), or a freeze reached the hold
limit (R396). -/
def Dev.released (d : Dev) : Bool := d.sys.cut || (d.twnFrozen && d.twn.relOut)

/-- Send an input unit (R384). -/
def Dev.putInput (d : Dev) (code index ts value : Nat) : Dev :=
  if d.twin && 2 ≤ d.get F.TWN_STATUS.state then
    let b := [0x99, code <<< 5 + index, d.twn.iseqTx] ++ leBytes 2 ts ++ leBytes 2 value
    (({ d with twn := { d.twn with iseqTx := (d.twn.iseqTx + 1) % 256 } } : Dev)).onLanes [b ++ [crc8 b]]
  else d

/-- The Token holder of a pair sends its inputs. -/
def Dev.sendInput (d : Dev) (code index ts value : Nat) : Dev := d.when d.ownInputs (·.putInput code index ts value)

/-- Keep an input of this member for a take-over (R390). -/
def Dev.keepInput (d : Dev) (u : TwIn) : Dev := { d with twn := { d.twn with inputs := d.twn.inputs ++ [u] } }

/-- This member held the Token at engine time t (R390). -/
def Dev.heldAt (d : Dev) (t : Nat) : Bool := if d.twn.turnAt ≠ 0 && t + 1 < d.twn.turnAt then d.twn.wasHolder else d.ownInputs

/-- The level last applied of an input of codes 0, 2, 3 and 4 (R390). -/
def Dev.noteLevel (d : Dev) (code index value : Nat) : Dev :=
  if d.twin then { d with twn := { d.twn with levels := Store.set 0 d.twn.levels (code * 32 + index) (value + 1) } } else d

/-- A qualified input of this member (R387, R390): it acts and is sent where its inputs count, and is kept for a take-over
where they do not. -/
def Dev.ownInput (d : Dev) (code index ts value : Nat) (act : Dev → Dev) : Dev :=
  if d.ownInputs then (act (d.noteLevel code index value)).sendInput code index ts value
  else d.keepInput ⟨code, index, ts, value⟩

def Dev.chS (d : Dev) (n : Nat) : ChSt := Store.get {} d.ch n
def Dev.putCh (d : Dev) (n : Nat) (c : ChSt) : Dev := { d with ch := Store.set {} d.ch n c }
def Dev.modCh (d : Dev) (n : Nat) (f : ChSt → ChSt) : Dev := d.putCh n (f (d.chS n))

/-- bl_mode of a channel, 2 for one not in use. -/
def Dev.blMode (d : Dev) (n : Nat) : Nat := ((d.chan n).map Chan.blMode).getD 2

/-- The SCT, PXS, PLC, SCR, BLP and FGT status bits of CHn post vector 2 + n (R227, R257). -/
def Dev.chFlag (d : Dev) (n : Nat) (st en : Reg) (k : Nat) : Dev := d.flag st en k (2 + n)

def Dev.fgtFlag (d : Dev) (n k : Nat) : Dev := d.chFlag n (R.CHn_FGT_IRQ_STATUS n) (R.CHn_FGT_IRQ_EN n) k
def Dev.blpFlag (d : Dev) (n k : Nat) : Dev := d.chFlag n (R.CHn_BLP_IRQ_STATUS n) (R.CHn_BLP_IRQ_EN n) k

/-- First byte of a control unit: type 0xC5 in BL-E, code group K28.2 in BL-F (R229). -/
def Dev.ctlByte (d : Dev) (n : Nat) : Nat := if d.blMode n = 1 then 0xC5 else 0x5C

/-- Send a control unit on port n: code, permit bit, Q of the current slot, value, CRC-8 (R235). -/
def Dev.sendCtl (d : Dev) (n code value : Nat) : Dev :=
  let b := [d.ctlByte n, code <<< 4 + d.get (F.CHn_FGT_STATUS.permit n)]
    ++ leBytes 2 (d.chS n).q ++ leBytes 3 value
  d.emit (.beam n (b ++ [crc8 b]))

/-- Port states (R239). -/
def Dev.port (d : Dev) (n : Nat) : Nat := d.get (F.CHn_BLP_STATUS.state n)

/-- The polygon axis of a channel reports at speed (R252, R270). -/
def Dev.polyAtSpeed (d : Dev) (n : Nat) : Bool :=
  match d.chan n with
  | some c => d.on (F.BLD_AXa_STATUS.at_speed c.polygonAxis)
  | none => false

/-- The head's interlock_open is an interlock of the channel: gate_flags bit 1 (R253). -/
def Dev.headNamed (d : Dev) (n : Nat) : Bool := match d.chan n with | some c => bit c.gateFlags 1 | none => false

/-- Whether an interlock of the channel is open (R253). -/
def Dev.ilkOpen (d : Dev) (n : Nat) : Bool :=
  d.on (F.CHn_FGT_STATUS.ilk_din n) || (d.headNamed n && d.on (F.CHn_FGT_STATUS.ilk_head n)) || d.on (F.CHn_FGT_STATUS.ilk_estop n)

/-- The REACT entry of a source arms a reaction bit (R16). -/
def Dev.armed (d : Dev) (src k : Nat) : Bool := bit (d.react src).reactions k

/-- What a filtered input holds (R289), by its input code of R384: key code x 32 + index. -/
def Dev.inpS (d : Dev) (key : Nat) : InSt := Store.get {} d.inp key
def Dev.putInp (d : Dev) (key : Nat) (x : InSt) : Dev := { d with inp := Store.set {} d.inp key x }

/-- The qualified level of DINk. -/
def Dev.dinLevel (d : Dev) (k : Nat) : Bool := (d.inpS (128 + k)).qual

/-- DINk is an interlock of channel n (R40, R253). -/
def Dev.dinNamed (d : Dev) (n k : Nat) : Bool := match d.chan n with | some c => bit c.dinInterlock k | none => false

/-- Refresh the levels of FGT_STATUS that R252 reads. -/
def Dev.gateLevels (d : Dev) (n : Nat) : Dev :=
  let g := match d.chan n with | some c => c.gateFlags | none => 0
  let st := d.get F.SYS_HOST_STATE.state
  let ls := (d.chS n).latches
  let d := d.putB (F.CHn_FGT_STATUS.polygon n) (!d.polyAtSpeed n)
  let d := d.putB (F.CHn_FGT_STATUS.pxs n) (!d.on (F.CHn_PXS_STATUS.locked n))
  let d := d.putB (F.CHn_FGT_STATUS.port n) (d.blMode n ≠ 2 && d.port n ≠ 5)
  let d := d.putB (F.CHn_FGT_STATUS.host_state n) (st = 4 || st = 2)
  let d := d.putB (F.CHn_FGT_STATUS.latched_reaction n) (ls.any fun l => l.kind = 4)
  let d := d.putB (F.CHn_FGT_STATUS.latched_stuck n) (ls.any fun l => l.kind = 2 || l.kind = 3)
  let d := d.putB (F.CHn_FGT_STATUS.latched_unscanned n) (ls.any fun l => l.kind = 1)
  let d := d.putB (F.CHn_FGT_STATUS.latched_interlock n) (ls.any fun l => l.kind = 0)
  let d := d.putB (F.CHn_FGT_STATUS.ilk_din n) ((List.range 32).any fun k => d.dinNamed n k && !d.dinLevel k)
  d.putB (F.CHn_FGT_STATUS.ilk_estop n) (bit g 0 && !d.host.estop)

/-- Every condition of R252 but permit_req and the drop for the rest of a sheet. -/
def Dev.closable (d : Dev) (n : Nat) : Bool :=
  (d.chan n).isSome && d.domOn (4 + n) && !d.on (F.CHn_FGT_STATUS.disabled n) && !d.on (F.CHn_FGT_STATUS.port n)
    && !d.on (F.CHn_FGT_STATUS.pxs n) && !d.on (F.CHn_FGT_STATUS.polygon n)
    && !d.sys.cut && !(d.ilkOpen n && d.armed 36 0) && (d.chS n).latches.isEmpty && !d.on (F.CHn_FGT_STATUS.host_state n)

/-- Judge the permit of channel n anew (R252): drive LPERMITn, count and flag a change, send a PERMIT unit (R235), and start
the strobe watchdog at a rise (R254). -/
def Dev.gate (d : Dev) (n : Nat) : Dev :=
  let d := d.gateLevels n
  let was := d.on (F.CHn_FGT_STATUS.permit n)
  let cl := d.closable n
  let now := cl && d.on (F.CHn_FGT_CTRL.permit_req n) && !(d.chS n).dropped && !(d.chS n).dark
  let d := d.putB (F.CHn_FGT_STATUS.closable n) cl
  let d := d.putB (F.CHn_FGT_STATUS.permit n) now
  if was = now then d
  else
    let d := if d.port n = 5 then d.sendCtl n 2 0 else d
    if now then (d.fgtFlag n 3).modCh n fun c => { c with tripUn := false, wdFrom := d.now }
    else (d.count (F.CHn_FGT_COUNTS.drops n)).fgtFlag n 2

/-- A sensor at its throttle level, or faulted, names CHn in throttle_chan (R326). -/
def Dev.darkWanted (d : Dev) (n : Nat) : Bool :=
  (List.range 24).any fun k =>
    (bit (d.get F.TMP_THROTTLE.sensors) k || bit (d.get F.TMP_FAULTED.sensors) k) && bit (d.get (F.TMP_Ss_CFG.throttle_chan k)) n

/-- CHn is held dark at a gap, and released when no sensor names it (R326). -/
def Dev.darken (d : Dev) (n : Nat) : Dev :=
  let w := d.darkWanted n
  let c := d.chS n
  if w && c.desc.isSome && !c.dark then d
  else if w = c.dark then d
  else (d.modCh n fun c => { c with dark := w }).gate n

/-- Judge every permit anew. -/
def Dev.gateAll (d : Dev) : Dev := d.each (List.range 8) Dev.gate

/-- Latch a permit drop of channel n (R255) and judge the permit. -/
def Dev.latchDrop (d : Dev) (n kind src esn : Nat) : Dev :=
  (d.modCh n fun c => { c with latches := ⟨kind, src, esn, false⟩ :: c.latches }).gate n

/-- The active level of source 36 (R364): an interlock of a channel in use is open. -/
def Dev.ilkActive (d : Dev) : Dev := d.setActive 36 (d.chansInUse.any d.ilkOpen)

/-- An interlock opens (R253): kind 1 ESTOP_n, 2 head flag, 3 DINk, for the channels named. One record under bit 36; with
reaction bit 0 of source 36 armed, the permit of each channel drops and stays latched. -/
def Dev.ilkOpened (d : Dev) (kind k : Nat) (chans : List Nat) : Dev :=
  if chans.isEmpty then d
  else
    let cut := d.armed 36 0
    let mask := if cut then chans.foldl (fun m n => m + 2 ^ n) 0 else 0
    let d := (d.each chans Dev.gateLevels).ilkActive
    let d := d.report 36 (kind <<< 24 + k <<< 16 + mask) (d.now % 2 ^ 32)
    let d := d.each chans fun d n => d.fgtFlag n 0
    if cut then d.each chans fun d n => d.latchDrop n 0 36 0 else d.each chans Dev.gate

/-- The cause of a latched drop is gone (R255). -/
def Dev.causeGone (d : Dev) (n : Nat) (l : Latch) : Bool :=
  match l.kind with
  | 0 => !d.ilkOpen n
  | 3 => !bit (d.get (F.CHn_BLP_HEAD_STATUS.flags n)) 1
  | _ => true

/-- Drop the latches whose cause is gone, by the levels as they now are, and whose record is closed (R255), and judge the
permit. -/
def Dev.releaseLatches (d : Dev) (n : Nat) : Dev :=
  let d := d.gateLevels n
  (d.modCh n fun c => { c with latches := c.latches.filter fun l => !(l.closed && d.causeGone n l) }).gate n

/-- The qualified level of DINk changes (R253, R255): an interlock of the channels that name it opens at a low level; at a high
one their latched drops may clear. -/
def Dev.dinChange (d : Dev) (k : Nat) (level : Bool) : Dev :=
  let was := d.dinLevel k
  let d := d.putInp (128 + k) { (d.inpS (128 + k)) with qual := level }
  let chans := d.chansInUse.filter fun n => d.dinNamed n k
  if was && !level then d.ilkOpened 3 k chans else (d.each chans Dev.releaseLatches).ilkActive

/-- The collector has given the record of a source its ESN: the drops of that source that wait for it take it. -/
def Dev.nameLatches (d : Dev) (src esn : Nat) : Dev :=
  d.each (List.range 8) fun d n => d.modCh n fun c =>
    { c with latches := c.latches.map fun l => if l.src = src && l.esn = 0 then { l with esn := esn + 1 } else l }

/-- Records with the given ESNs have closed: their latched drops may clear (R255). -/
def Dev.closeLatches (d : Dev) (esns : List Nat) : Dev :=
  d.each (List.range 8) fun d n =>
    (d.modCh n fun c => { c with latches := c.latches.map fun l =>
      if l.esn ≠ 0 && esns.contains (l.esn - 1) then { l with closed := true } else l }).releaseLatches n

end Sys2Proof.Machine
end

