-- ==== Sys2Proof/Machine/Bld.lean ====
section
/-! DEFINITION. Brushless axes (R260-R283): PWM, current loop, observer, speed loop, axis states, moves, polygon phase loop, DC
buses. -/

namespace Sys2Proof.Machine

/-! ### State, registers and status of one axis -/

def Dev.bldS (d : Dev) (a : Nat) : BldAx := Store.get {} d.bld a
def Dev.putBld (d : Dev) (a : Nat) (x : BldAx) : Dev := { d with bld := Store.set {} d.bld a x }
def Dev.modBld (d : Dev) (a : Nat) (f : BldAx → BldAx) : Dev := d.putBld a (f (d.bldS a))
def Dev.dcbS (d : Dev) (m : Nat) : DcbSt := Store.get {} d.dcb m
def Dev.putDcb (d : Dev) (m : Nat) (x : DcbSt) : Dev := { d with dcb := Store.set {} d.dcb m x }

/-- Axis states (R283): 0 OFF, 1 COAST, 2 SHORT, 3 CATCH, 4 BRAKE, 5 ALIGN, 6 RAMP, 7 RUN, 8 STOPPING, 9 BUS_COAST, 10 FAULT. -/
def Dev.bldState (d : Dev) (a : Nat) : Nat := d.get (F.BLD_AXa_STATUS.state a)

/-- Set bit k of BLD_AXa_IRQ_STATUS (R283, vector 14). -/
def Dev.bldFlag (d : Dev) (a k : Nat) : Dev := d.flag (R.BLD_AXa_IRQ_STATUS a) (R.BLD_AXa_IRQ_EN a) k 14

/-- The phase loop leaves its conditions: c and I_ph return to 0 (R277). -/
def BldAx.noPhase (x : BldAx) : BldAx := { x with cPh := 0, iPh := 0 }

/-- The phase loop leaves its conditions while a slew runs: the slew keeps its c (R277, R278). -/
def BldAx.endPhase (x : BldAx) : BldAx := { x with iPh := 0 }

/-- The axis has lost or left its speed (R270); the phase loop ends (R277), a slew runs its time (R278). -/
def Dev.bldSpeedLost (d : Dev) (a : Nat) : Dev :=
  let was := d.on (F.BLD_AXa_STATUS.at_speed a)
  let slews := d.on (F.BLD_AXa_STATUS.slewing a)
  let d := (d.modBld a fun x => { (if slews then x.endPhase else x.noPhase) with atN := 0 }).put (F.BLD_AXa_STATUS.at_speed a) 0
  if was then (d.bldFlag a 3).gateAll else d

/-- The axis states in which a current loop runs. -/
def bldLoops (st : Nat) : Bool := [3, 5, 6, 7, 8, 9].contains st

/-- A current loop starts: no compare value is in force until its first sample has given one, so no gate is on (R272). -/
def BldAx.fresh (x : BldAx) : BldAx := { x with cmp := [], cmpNext := [], cmpLast := [], intD := 0, intQ := 0, vA := 0, vB := 0 }

/-- Enter an axis state; the phase loop ends and, outside RUN, so do a slew and being at speed (R270, R277). -/
def Dev.bldEnter (d : Dev) (a st : Nat) : Dev :=
  let was := d.bldState a
  let d := d.when (bldLoops st && !bldLoops was) (·.modBld a BldAx.fresh)
  let d := d.put (F.BLD_AXa_STATUS.state a) st
  let d := d.modBld a fun x => { x.noPhase with since := d.sys.now8, stN := 0, hoN := 0, losN := 0, seenE := false }
  let d := d.put (F.BLD_AXa_STATUS.slewing a) 0
  let d := if st = 9 then d.bldFlag a 6 else d
  let d := if st = 10 then d.bldFlag a 5 else d
  let d := d.when (st = 10 || was = 10) fun d => d.setActive 26 ((List.range 16).any fun b => d.bldState b = 10)
  if st = 7 then d else d.bldSpeedLost a

/-- The idle state of an axis (R271). -/
def Dev.bldIdleState (d : Dev) (a : Nat) : Nat :=
  match d.axis a with | some c => if c.idle = 1 then 2 else 1 | none => 1

/-- Direction 1, unidirectional: the default of roles 1-5 (R42). -/
def Dev.uni (d : Dev) (ax : Nat) : Bool :=
  match d.axis ax with | some c => c.direction = 1 || (c.direction = 0 && c.role ≠ 6) | none => true

/-- A refused command (R271). -/
def Dev.bldRefuse (d : Dev) (a code : Nat) : Dev := (d.put (F.BLD_AXa_REFUSE.code a) code).bldFlag a 7

/-- The bus of an axis whose cut is latched (R281). -/
def Dev.busCut (d : Dev) (ax : Nat) : Bool :=
  match d.axis ax with | some c => c.dcBus < 2 && d.on (F.BLD_DCBm_STATUS.latched c.dcBus) | none => false

/-- N of R260: half the PWM period in counts of 4 ns. -/
def Dev.pwmN (d : Dev) (a : Nat) : Nat := roundDiv 125000 (match d.axis a with | some c => max c.pwmKhz 1 | none => 8)

/-- Pole pairs of an axis. -/
def Dev.polePairs (d : Dev) (a : Nat) : Nat := match d.axis a with | some c => c.polePairs | none => 1

/-- V_meas and V_nom of an axis's bus; an axis that names no bus has V_meas = V_nom (R262, R280). -/
def Dev.busV (d : Dev) (a : Nat) : Nat × Nat :=
  match d.axis a with
  | some c => if c.dcBus < 2 then (d.get (F.BLD_DCBm_STATUS.reading c.dcBus), max 1 (d.get (F.BLD_DCBm_NOM.dcb_nom c.dcBus))) else (1, 1)
  | none => (1, 1)

/-- handover_rpm in 1/16 rpm. -/
def Dev.handover (d : Dev) (a : Nat) : Int := (16 * d.ga (F.BLD_AXa_START2.handover_rpm a) : Nat)
/-- align_rpm in 1/16 rpm. -/
def Dev.alignRpm (d : Dev) (a : Nat) : Int := (16 * d.ga (F.BLD_AXa_START2.align_rpm a) : Nat)

/-- Clamp a target to max_speed (R274). -/
def Dev.clampTarget (d : Dev) (a : Nat) (t : Int) : Int :=
  match d.axis a with | some c => clampI (-(16 * c.maxSpeed : Nat)) (16 * c.maxSpeed : Nat) t | none => t

/-! ### Position and moves (R276) -/

/-- Units of the position source per mechanical revolution: 4,096, or the encoder's counts with pos_src = 1. -/
def Dev.bldUpr (d : Dev) (a : Nat) : Nat := if d.gaOn (F.BLD_AXa_CTRL.pos_src a) then Config.encPerRev a else 4096

/-- The position of an axis (R276). -/
def Dev.bldPos (d : Dev) (a : Nat) : Int :=
  match d.axis a with
  | some c =>
    if d.gaOn (F.BLD_AXa_CTRL.pos_src a) && c.encoder < 4 then sext 48 (d.rd (R.EVT_ENCn_RAW c.encoder))
    else openDiv 1 ((d.bldS a).posE * 4096) (65536 * max c.polePairs 1)
  | none => 0

/-- A speed of 1/16 rpm in 2^-32 unit per profile period (R284, R276). -/
def bldV (upr s : Nat) : Nat := roundDiv (s * upr * 2 ^ 32) 96000000
/-- A rate of 10 rpm/s in 2^-32 unit per profile period squared. -/
def bldA (upr r : Nat) : Nat := roundDiv (max r 1 * upr * 2 ^ 32) 60000000000

/-- BLD_AXa_REMAIN takes the distance an interrupted move has left (R276). -/
def Dev.bldRemain (d : Dev) (a : Nat) : Dev :=
  match (d.bldS a).move with
  | some m => if (d.bldS a).moving then d else d.put (F.BLD_AXa_REMAIN.remain a) (enc 32 (m.target / 2 ^ 32 - d.bldPos a))
  | none => d

/-- Stop the running move and keep its remaining distance (R276), which counts down until the axis has slowed. -/
def Dev.bldHoldMove (d : Dev) (a : Nat) : Dev :=
  if (d.bldS a).moving then (d.modBld a fun x => { x with moving := false }).bldRemain a else d

/-- A move has reached its target (R276): idle state, move_done. -/
def Dev.bldMoveDone (d : Dev) (a : Nat) : Dev :=
  let d := d.bldEnter a (if (d.bldS a).offPend then 0 else d.bldIdleState a)
  let d := d.modBld a fun x => { x with move := none, moving := false, target := 0, moveDone := d.sys.now8 + 1, offPend := false }
  ((d.put (F.BLD_AXa_STATUS.move_active a) 0).put (F.BLD_AXa_REMAIN.remain a) 0).bldFlag a 1

/-! ### Starts and stops (R271, R274, R275) -/

/-- The direction an axis runs in. -/
def BldAx.running (x : BldAx) : Int := if x.wref ≠ 0 then sgn x.wref else sgn x.obs.omega

/-- What refuses a start (R271, R281): the code, where one of these conditions holds. -/
def Dev.bldBlocked (d : Dev) (a : Nat) : Option Nat :=
  if d.bldState a = 10 then some 4
  else if d.busCut a || d.sys.cut then some 3
  else if d.ga (F.BLD_AXa_ILOOP.kp_i a) = 0 then some 6
  else none

/-- A start with a non-zero target (R271). Answers the device and whether the start was turned away. -/
def Dev.bldStart (d : Dev) (a : Nat) (target : Int) (rate : Nat) (runtime : Bool) : Dev × Bool :=
  let st := d.bldState a
  if st = 0 || (d.axis a).isNone then (d.count F.BLD_REJECT.count, true)
  else match d.bldBlocked a with
  | some c => (d.bldRefuse a c, true)
  | none =>
    let x := d.bldS a
    let t := d.clampTarget a target
    let y := { x with target := t, rate := rate, runtime := runtime, startDue := none, offPend := false }
    let y := if runtime then y else if d.on (F.BLD_AXa_STATUS.slewing a) then y.endPhase else y.noPhase
    let y := { y with startPer := true }
    -- the direction an axis runs in, or is being started in
    let q := if st = 7 || st = 8 then x.running else if 3 ≤ st && st ≤ 6 then sgn x.target else 0
    if q ≠ 0 && sgn t ≠ q then
      if d.uni a then (d.bldRefuse a 2, true)
      else if st = 7 || st = 8 then
        let d := d.putBld a { x with target := 0, rate := rate, startDue := some (t, rate, runtime), startPer := true }
        (if st = 7 then d.bldEnter a 8 else d, false)
      else (((d.putBld a { y with tries := 0 }).bldEnter a (d.bldIdleState a)).bldEnter a 3, false)
    else if st = 7 || st = 8 then
      let d := d.putBld a y
      (if st = 8 then d.bldEnter a 7 else d.modBld a fun x => { x with atN := 0 }, false)
    else if st = 1 || st = 2 || st = 9 then ((d.putBld a { y with tries := 0, restartAt := 0 }).bldEnter a 3, false)
    else (d.putBld a y, false)

/-- A start by a set-point (R271): one that is accepted ends a running move, a refused one leaves the old motion going (R275). -/
def Dev.bldStartSpeed (d : Dev) (a : Nat) (target : Int) (rate : Nat) (runtime : Bool) : Dev × Bool :=
  let (d', no) := d.bldStart a target rate runtime
  if no then (d', true) else (d'.bldHoldMove a, false)

/-- The speed of a waiting move, in the direction in which its target lies now (R275). -/
def Dev.towardMove (d : Dev) (a : Nat) (t : Int) : Int :=
  match (d.bldS a).move with
  | some m => if m.target / 2 ^ 32 < d.bldPos a then -(t.natAbs : Int) else (t.natAbs : Int)
  | none => t

/-- Enter the idle state, or OFF after a disable; a start or move that waits applies at once (R271). -/
def Dev.bldToIdle (d : Dev) (a : Nat) : Dev :=
  let x := d.bldS a
  let d := d.bldRemain a
  if x.offPend then (d.putBld a { x with offPend := false, startDue := none, wref := 0 }).bldEnter a 0
  else
    let d := (d.putBld a { x with startDue := none, wref := 0 }).bldEnter a (d.bldIdleState a)
    match x.startDue with
    | some (t, r, rt) => (d.bldStart a (if x.moving then d.towardMove a t else t) r rt).1
    | none => d

/-- A stop in the tick in which a move completes leaves it complete, and says that it came too late (R276). -/
def Dev.bldTooLate (d : Dev) (a : Nat) : Dev :=
  d.when ((d.bldS a).moveDone = d.sys.now8 + 1) (·.put (F.BLD_AXa_STATUS.too_late_to_abort a) 1)

/-- A stop (R271). -/
def Dev.bldStop (d : Dev) (a : Nat) : Dev :=
  let st := d.bldState a
  let d := d.bldTooLate a
  if st = 0 then d.count F.BLD_REJECT.count
  else if st = 9 || st = 10 then d
  else
    let d := (d.bldHoldMove a).modBld a fun x =>
      { x with target := 0, rate := d.get (F.BLD_AXa_RATES.stop_rate a), startDue := none, restartAt := 0, tries := 0 }
    if st = 7 then d.bldEnter a 8
    else if st = 3 || st = 4 || st = 5 || st = 6 then d.bldToIdle a
    else d

/-- Entry of a host state that idles the engine (R72, R271). -/
def Dev.bldIdle (d : Dev) (a : Nat) : Dev :=
  match d.axis a with
  | some c =>
    if c.idle = 3 && c.idleSpeed ≠ 0 then (d.bldStartSpeed a (16 * c.idleSpeed : Nat) (d.get (F.BLD_AXa_RATES.accel a)) false).1
    else d.bldStop a
  | none => d

/-- Leave OFF (R271): the idle state; a start that is due applies at once. -/
def Dev.bldLeaveOff (d : Dev) (a : Nat) : Dev :=
  let d := d.bldEnter a (d.bldIdleState a)
  let hs := d.get F.SYS_HOST_STATE.state
  if hs = 4 || hs = 2 then d.bldIdle a else d

/-- The end of phase 9 enables the axis, as an entry into the host state in force (R271). -/
def Dev.bldPhase9 (d : Dev) (a : Nat) : Dev :=
  if (d.axis a).isSome && d.bldState a = 0 then (d.bldEnter a (d.bldIdleState a)).bldIdle a else d

/-- The host state holds every axis in its idle kind (R72). -/
def Dev.idled (d : Dev) : Bool := let hs := d.get F.SYS_HOST_STATE.state; hs = 4 || hs = 2

/-- A SETPOINT write (R274): a start or a stop as R271 names it. In SAFE_IDLE and ORPHAN_HOLD the axis stays in its idle kind (R72): the
value waits for engine_go (DEDUCED, see the assumption log). -/
def Dev.bldSetpoint (d : Dev) (a v : Nat) : Dev :=
  let d := d.put (F.BLD_AXa_SETPOINT.speed a) v
  let t := sext 32 v
  if d.idled then d.when (d.bldState a = 0) (·.count F.BLD_REJECT.count)
  else if t = 0 then d.bldStop a
  else (d.bldStartSpeed a t (d.get (F.BLD_AXa_RATES.accel a)) true).1

/-- engine_go (R65): run toward the runtime set-point; it ends a running move as a set-point does. -/
def Dev.bldGo (d : Dev) (a : Nat) : Dev :=
  let t := sext 32 (d.get (F.BLD_AXa_SETPOINT.speed a))
  if t ≠ 0 && (d.axis a).isSome then (d.bldStartSpeed a t (d.get (F.BLD_AXa_RATES.accel a)) true).1 else d

/-- SPEED_SET with record r (R274). Answers whether it was refused. -/
def Dev.bldSpeedSet (d : Dev) (a r : Nat) : Dev × Bool :=
  if d.bldState a = 0 || d.idled then (d.count F.BLD_REJECT.count, true)
  else if 16 ≤ r || d.rd (R.BLD_AXa_SRECr a r) / 2 ^ 48 ≠ 0 then (d.bldRefuse a 5, true)
  else
    let t := sext 32 (d.get (F.BLD_AXa_SRECr.speed a r))
    let acc := max 1 (d.get (F.BLD_AXa_SRECr.accel a r))
    if t = 0 then (d.bldStop a, false) else d.bldStartSpeed a t acc true

/-- The generator at the present position and speed (R276). -/
def Dev.bldNow (d : Dev) (a : Nat) : Prof :=
  let w := if d.bldState a = 7 || d.bldState a = 8 then (d.bldS a).obs.omega else 0
  { p := d.bldPos a * 2 ^ 32, v := sgn w * (bldV (d.bldUpr a) w.natAbs : Nat) }

/-- The generator of move record r from the present position and speed, and a refusal code (R276). -/
def Dev.bldPlan (d : Dev) (a r : Nat) : Prof × Option Nat :=
  let u := d.bldUpr a
  let cap := match d.axis a with | some c => 16 * c.maxSpeed | none => 0
  (d.bldNow a).replan ((d.bldPos a + sext 32 (d.get (F.BLD_AXa_MRECr.distance a r))) * 2 ^ 32)
    (bldA u (d.get (F.BLD_AXa_MRECr.accel a r))) (bldA u (d.get (F.BLD_AXa_MRECr.decel a r)))
    (bldV u (min cap (d.get (F.BLD_AXa_MRECr.speed a r)))) (d.uni a)

/-- A planned move begins, at a peak speed in 1/16 rpm and rates in 10 rpm/s (R275, R276): at once, or where its target lies behind a
bidirectional axis, through the idle state and a new start. Answers whether it was refused. -/
def Dev.bldMove (d : Dev) (a : Nat) (m : Prof) (speed : Int) (acc dec : Nat) : Dev × Bool :=
  let s := if m.target < m.p then -speed else speed
  if m.rev ≠ 0 then
    let d := d.modBld a fun x => { x with
      move := some m, moving := true, target := 0, rate := dec, startDue := some (s, acc, true) }
    ((if d.bldState a = 7 then d.bldEnter a 8 else d).put (F.BLD_AXa_STATUS.move_active a) 1, false)
  else
    let (d, no) := d.bldStart a s acc true
    if no then (d, true)
    else ((d.modBld a fun x => { x with move := some m, moving := true, profT := d.now }).put (F.BLD_AXa_STATUS.move_active a) 1, false)

/-- MOVE_START with record r (R274-R276). Answers whether it was refused. -/
def Dev.bldMoveStart (d : Dev) (a r : Nat) : Dev × Bool :=
  if d.bldState a = 0 || d.idled then (d.count F.BLD_REJECT.count, true)
  else if 8 ≤ r || d.rd (R.BLD_AXa_MRECr a r 1) / 2 ^ 32 ≠ 0 then (d.bldRefuse a 5, true)
  else match d.bldBlocked a with
  | some c => (d.bldRefuse a c, true)
  | none =>
    match d.bldPlan a r with
    | (_, some c) => (d.bldRefuse a c, true)
    | (m, none) =>
      d.bldMove a m (d.get (F.BLD_AXa_MRECr.speed a r) : Nat) (max 1 (d.get (F.BLD_AXa_MRECr.accel a r)))
        (max 1 (d.get (F.BLD_AXa_MRECr.decel a r)))

/-- MOVE_STOP (R276): the remaining distance is kept. -/
def Dev.bldMoveStop (d : Dev) (a : Nat) : Dev × Bool := (d.bldStop a, d.bldState a = 0)

/-- MOVE_RESUME (R276): continue toward the original target, from the position and speed the axis has. With no interrupted move there
is nothing to run: ignored. -/
def Dev.bldMoveResume (d : Dev) (a : Nat) : Dev × Bool :=
  if d.bldState a = 0 || d.idled then (d.count F.BLD_REJECT.count, true)
  else
    let x := d.bldS a
    match x.move with
    | some m =>
      if x.moving || m.target / 2 ^ 32 = d.bldPos a then (d, true)
      else match d.bldBlocked a with
      | some c => (d.bldRefuse a c, true)
      | none =>
        match (d.bldNow a).replan m.target m.acc m.dec m.peak (d.uni a) with
        | (_, some c) => (d.bldRefuse a c, true)
        | (m, none) =>
          let u := max 1 (d.bldUpr a * 2 ^ 32)
          d.bldMove a m (roundDiv (m.peak * 96000000) u : Nat) (max 1 (roundDiv (m.acc * 60000000000) u))
            (max 1 (roundDiv (m.dec * 60000000000) u))
    | none => (d, true)

/-- disable (R271). -/
def Dev.bldDisable (d : Dev) (a : Nat) : Dev :=
  let st := d.bldState a
  if st = 0 then d.count F.BLD_REJECT.count
  else
    let d := ((d.bldTooLate a).bldHoldMove a).modBld a fun x => { x with offPend := true, startDue := none, restartAt := 0, tries := 0 }
    if st = 9 then d
    else if st = 7 || st = 8 then
      let d := d.modBld a fun x => { x with target := 0, rate := d.get (F.BLD_AXa_RATES.stop_rate a) }
      if st = 7 then d.bldEnter a 8 else d
    else d.bldToIdle a

/-- enable (R271). -/
def Dev.bldEnable (d : Dev) (a : Nat) : Dev :=
  if d.bldState a = 0 && (d.axis a).isSome then d.bldLeaveOff a else d.count F.BLD_REJECT.count

/-- clear_fault (R271). -/
def Dev.bldClearFault (d : Dev) (a : Nat) : Dev :=
  if d.bldState a = 10 then (d.modBld a fun x => { x with restarts := [], tries := 0, startDue := none }).bldToIdle a
  else d.count F.BLD_REJECT.count

/-! ### Failures (R267, R273, R282) -/

/-- A brushless record (R282). -/
def Dev.bldReport (d : Dev) (sub a v d1 : Nat) : Dev := d.report 26 (sub <<< 24 + a <<< 16 + v % 65536) d1

/-- Restarts within the last 10 s. -/
def recent (now : Nat) (l : List Nat) : List Nat := l.filter fun t => now < t + 1250000000

/-- Wait 100 ms for a restart, or go to FAULT after start_retries within 10 s (R267, R271). Answers whether it faulted. -/
def Dev.bldRetry (d : Dev) (a : Nat) : Dev × Bool :=
  let rs := recent d.sys.now8 (d.bldS a).restarts
  if d.ga (F.BLD_AXa_START3.start_retries a) ≤ rs.length then ((d.modBld a fun x => { x with restarts := rs }).bldEnter a 10, true)
  else ((d.modBld a fun x => { x with restarts := rs, restartAt := d.sys.now8 + 12500001 }).bldEnter a 1, false)

/-- Loss of synchronism (R267); `cond` 1 emf, 2 sign, 3 over-speed. -/
def Dev.bldLos (d : Dev) (a cond : Nat) : Dev :=
  let x := d.bldS a
  let again := d.gaOn (F.BLD_AXa_CTRL.auto_restart a) && x.target ≠ 0
  let d := ((d.bldHoldMove a).modBld a fun x => { x with losPer := true }).bldReport 0x31 a cond (enc 32 x.obs.omega)
  let d := (d.count (F.BLD_AXa_COUNTS.los a)).bldFlag a 4
  if again then (d.bldRetry a).1 else d.bldEnter a 1

/-- RAMP_TIMEOUT (R271, R273): no hand-over 1.5 x handover_rpm / ramp_rate after the ramp began. Up to start_retries such ramps of one
start are tried again after 100 ms, however long they take. -/
def Dev.bldRampTimeout (d : Dev) (a : Nat) : Dev :=
  if d.bldState a ≠ 6 then d
  else
    let x := d.bldS a
    let rate := max 1 (10 * d.ga (F.BLD_AXa_START3.ramp_rate a))
    let d := d.advance8To (x.since + 187500000 * d.ga (F.BLD_AXa_START2.handover_rpm a) / rate)
    let d := d.count (F.BLD_AXa_COUNTS.start_fail a)
    if d.ga (F.BLD_AXa_START3.start_retries a) ≤ x.tries then
      (d.bldReport 0x30 a x.tries (enc 32 (openDiv 2 x.forced 1000000000))).bldEnter a 10
    else (d.modBld a fun x => { x with tries := x.tries + 1, restartAt := d.sys.now8 + 12500001 }).bldEnter a 1

/-- BRAKE_TIMEOUT (R271). -/
def Dev.bldBrakeTimeout (d : Dev) (a : Nat) : Dev :=
  if d.bldState a ≠ 4 then d
  else
    let d := d.advance8To ((d.bldS a).since + max 1 (d.ga (F.BLD_AXa_START3.brake_max a)) * 12500000)
    (d.bldReport 0x34 a 0 (enc 32 (d.bldS a).obs.omega)).bldEnter a 10

/-- CATCH_TIMEOUT (R271, R272): 20 ms in which e_mag has not been above e_exp at handover_rpm / 2. Where it has been, the axis listens
on. -/
def Dev.bldCatchTimeout (d : Dev) (a : Nat) : Dev :=
  if d.bldState a ≠ 3 || (d.bldS a).seenE then d else (d.advance8To ((d.bldS a).since + 2500000)).bldEnter a 5

/-- ALIGN_DONE (R273): align_ms in units of 4 ms has passed. -/
def Dev.bldAlignDone (d : Dev) (a : Nat) : Dev :=
  if d.bldState a ≠ 5 then d
  else
    let d := d.advance8To ((d.bldS a).since + max 1 (d.ga (F.BLD_AXa_START3.align_ms a)) * 500000)
    (d.modBld a fun x => { x with forced := 0, forcedTh := 0 }).bldEnter a 6

/-- RESTART_DELAY (R267, R271): the 100 ms are over. A restart after a loss of synchronism counts among those of 10 s. -/
def Dev.bldRestart (d : Dev) (a : Nat) : Dev :=
  let x := d.bldS a
  if x.restartAt = 0 || d.bldState a ≠ 1 then d
  else
    let d := d.advance8To (x.restartAt - 1)
    let rs := recent d.sys.now8 x.restarts
    if x.tries ≠ 0 then (d.modBld a fun x => { x with restartAt := 0 }).bldEnter a 3
    else if d.ga (F.BLD_AXa_START3.start_retries a) ≤ rs.length then
      (d.modBld a fun x => { x with restartAt := 0, restarts := rs }).bldEnter a 10
    else
      let rs := rs ++ [d.sys.now8]
      (d.modBld a fun x => { x with restartAt := 0, restarts := rs }).bldEnter a 3

/-- Restarts in the current 10 s, as STATUS shows them (R283). -/
def Dev.bldRestarts (d : Dev) (a : Nat) : Nat := min 7 (recent d.sys.now8 (d.bldS a).restarts).length

/-! ### DC buses (R280, R281) -/

/-- DCB_SAMPLE (R280). -/
def Dev.dcbSample (d : Dev) (m v : Nat) : Dev :=
  if !d.domOn 3 then d
  else
  let d := d.put (F.BLD_DCBm_STATUS.reading m) v
  let low : Bool := v < d.get (F.BLD_DCBm_CFG.uv_level m)
  let was := d.on (F.BLD_DCBm_STATUS.under m)
  let d := d.putB (F.BLD_DCBm_STATUS.under m) low
  if low && !was then d.report 26 (0x33 <<< 24 + m) v else d

/-- The brushless axes on a bus that a cut acts on (R281): CATCH to STOPPING, but for BRAKE, which R271 leaves as it is. -/
def Dev.axesToCut (d : Dev) (m : Nat) : List Nat :=
  (List.range 16).filter fun a =>
    (match d.axis a with | some c => c.dcBus = m | none => false) && [3, 5, 6, 7, 8].contains (d.bldState a)

/-- Set bit m of BLD_IRQ_STATUS.bus_trip (R283). -/
def Dev.busTripFlag (d : Dev) (m : Nat) : Dev := d.flag R.BLD_IRQ_STATUS R.BLD_IRQ_EN (16 + m) 14

/-- The compare values that apply a stationary-frame voltage (R264), with the dead-time terms of the phase currents i. -/
def Dev.compares (d : Dev) (a : Nat) (vA vB : Int) (i : Int × Int × Int) : List Nat :=
  let (vm, vn) := d.busV a
  let n := d.pwmN a
  let (pu, pv, pw) := modulate vA vB
  let dt := d.gaOn (F.BLD_AXa_CTRL.dt_comp a)
  let dead := d.ga (F.BLD_AXa_PWM.dead a)
  let cmax : Int := (n - (d.ga (F.BLD_AXa_PWM.sample_ns a) + 7) / 8 : Nat)
  let c := fun p i => (clampI 0 cmax (compareCount n p vn vm + deadComp dt dead i)).toNat
  [c pu i.1, c pv i.2.1, c pw i.2.2]

/-- The bus cut of one axis (R281): compare values that apply ê at once, then i_q regulated to 0 with I_q preset to ê. -/
def Dev.bldCut (d : Dev) (a : Nat) : Dev :=
  let o := (d.bldS a).obs
  let cs := d.compares a (openDiv 32 o.eA 65536) (openDiv 33 o.eB 65536) (0, 0, 0)
  ((d.bldHoldMove a).modBld a fun y =>
    { y with target := 0, startDue := none, restartAt := 0, tries := 0, cmp := cs, cmpNext := cs,
             intQ := (o.emag : Nat) * sgn o.omega, iqRef := 0 }).bldEnter a 9

/-- A cut takes precedence over what came before it in the same PWM period (R281): a start is refused, a loss of synchronism not
evaluated. Its record goes where it has not been made (DEDUCED, see the assumption log). -/
def Dev.cutPrecedes (d : Dev) (a : Nat) : Dev :=
  let x := d.bldS a
  let st := d.bldState a
  let d := if x.losPer && (st = 1 || st = 10) then
      let mine := fun (s : Strobe) => s.src = 26 && s.d0 / 65536 = 0x31 * 256 + a
      let d := { d with flt := { d.flt with strobes := d.flt.strobes.filter fun s => !mine s } }
      (((d.put (F.BLD_AXa_COUNTS.los a) (d.get (F.BLD_AXa_COUNTS.los a) - 1)).modBld a fun x => { x with restartAt := 0 })).bldEnter a 7
    else d
  if !x.startPer then d
  else
    let d := d.bldRefuse a 3
    if st = 3 && (x.perSt = 2 || x.perSt = 3) then (d.modBld a fun x => { x with target := 0 }).bldEnter a (x.perSt - 1) else d

/-- DCB_OVERVOLTAGE_TRIP (R281). -/
def Dev.dcbTrip (d : Dev) (m : Nat) : Dev :=
  if !d.domOn 3 then d
  else
  let cut := d.armed 38 4
  let d := if cut then d.each ((List.range 16).filter fun a => match d.axis a with | some c => c.dcBus = m | none => false) Dev.cutPrecedes else d
  let axes := if cut then d.axesToCut m else []
  let mask := axes.foldl (fun n a => n + 2 ^ a) 0
  let d := (d.put (F.BLD_DCBm_STATUS.over m) 1).busTripFlag m
  let d := (d.setActive 38 true).report 38 (m <<< 24 + mask) (d.get (F.BLD_DCBm_STATUS.reading m))
  if cut then
    let d := (d.put (F.BLD_DCBm_STATUS.latched m) 1).putDcb m { at_ := d.now / 8 + 1 }
    d.each axes Dev.bldCut
  else d

/-- The cut latch clears once the comparator has cleared and the record is closed (R281). -/
def Dev.dcbRelease (d : Dev) (m : Nat) : Dev :=
  if d.on (F.BLD_DCBm_STATUS.latched m) && !d.on (F.BLD_DCBm_STATUS.over m) && (d.dcbS m).closed then
    d.put (F.BLD_DCBm_STATUS.latched m) 0
  else d

/-- DCB_COMPARATOR_CLEAR (R281): the input is below ov_level - 32. -/
def Dev.dcbClear (d : Dev) (m : Nat) : Dev :=
  if !d.domOn 3 then d
  else
  let d := d.put (F.BLD_DCBm_STATUS.over m) 0
  (d.setActive 38 (d.on (F.BLD_DCBm_STATUS.over 0) || d.on (F.BLD_DCBm_STATUS.over 1))).dcbRelease m

/-- The record of source 38 has its ESN: every bus that tripped in its slot and waits for it takes it. -/
def Dev.dcbName (d : Dev) (slot esn : Nat) : Dev :=
  d.each [0, 1] fun d m =>
    if d.on (F.BLD_DCBm_STATUS.latched m) && (d.dcbS m).esn = 0 && (d.dcbS m).at_ = slot + 1 then d.putDcb m { (d.dcbS m) with esn := esn + 1 } else d

/-- Records have closed: bus latches may clear (R281). -/
def Dev.dcbClose (d : Dev) (esns : List Nat) : Dev :=
  d.each [0, 1] fun d m =>
    let s := d.dcbS m
    if s.esn ≠ 0 && esns.contains (s.esn - 1) then (d.putDcb m { s with closed := true }).dcbRelease m else d

/-! ### Polygons (R277, R278) -/

/-- The phase loop of a polygon axis at a slot edge (R277): e in 1/64 tick, wrapped by the caller. A slew runs on (R278). -/
def Dev.phaseLoop (d : Dev) (a n : Nat) (e : Int) : Dev :=
  let x := d.bldS a
  let ok : Bool := d.gaOn (F.BLD_AXa_CTRL.phase_en a) && d.bldState a = 7 && x.runtime && d.on (F.BLD_AXa_STATUS.at_speed a)
    && d.get (F.CHn_SCT_STATUS.state n) ≠ 0
  if d.on (F.BLD_AXa_STATUS.slewing a) then (if ok then d else d.putBld a x.endPhase)
  else if !ok then d.putBld a x.noPhase
  else
    let lim : Int := (d.ga (F.BLD_AXa_PHASE2.ph_lim a) : Nat)
    let raw := ((d.ga (F.BLD_AXa_PHASE.kp_ph a) : Nat) * e + x.iPh) / 65536
    let c := clampI (-lim) lim raw
    d.putBld a { x with cPh := c, iPh := if c ≠ raw then x.iPh else x.iPh + (d.ga (F.BLD_AXa_PHASE.ki_ph a) : Nat) * e }

/-- Fall back by r facets (R278): c = -ph_lim for r x P16 / 65,536 x |target| / ph_lim ticks. -/
def Dev.slewStart (d : Dev) (a r p16 : Nat) : Dev :=
  let x := d.bldS a
  let lim := d.ga (F.BLD_AXa_PHASE2.ph_lim a)
  (d.putBld a { x with cPh := -(lim : Nat), slewEnd := d.now + r * p16 * x.target.natAbs / (65536 * max 1 lim) + 1 }).put
    (F.BLD_AXa_STATUS.slewing a) 1

/-- e wrapped into half a facet period either side (R277). -/
def Dev.wrapE (d : Dev) (n : Nat) (e : Int) : Int :=
  let half : Int := (d.ga (F.CHn_SCT_FACET_PERIOD.period n) / 2048 : Nat)
  if half = 0 then e else (e + half) % (2 * half) - half

/-- A beam-detect slot or an identification of the pair acts on the polygon axis of its channel (R277, R278, R384). -/
def Dev.slotAct (d : Dev) (u : TwIn) : Dev :=
  match d.chan u.index with
  | none => d
  | some c =>
    if u.code = 1 then d.phaseLoop c.polygonAxis u.index (d.wrapE u.index (sext 16 u.value))
    else d.slewStart c.polygonAxis (u.value / 16) (d.ga (F.CHn_SCT_FACET_PERIOD.period u.index))

/-- The inputs of codes 1 and 6 wait for their apply time in both members of a pair (R387); a slot counts once (R390). -/
def Dev.slotQueue (d : Dev) (u : TwIn) : Dev :=
  let key := 32 + u.index
  if u.code = 1 && u.ts < Store.get 0 d.twn.levels key then d
  else { d with twn := { d.twn with
    slots := d.twn.slots ++ [u]
    levels := if u.code = 1 then Store.set 0 d.twn.levels key (u.ts + 1) else d.twn.levels } }

/-- Those whose apply time, 128 ticks after the timestamp (R96), has come act. -/
def Dev.slotsDue (d : Dev) : Dev :=
  let due := fun (u : TwIn) => decide (u.ts + 128 ≤ d.now)
  let l := d.twn.slots.filter due
  ({ d with twn := { d.twn with slots := d.twn.slots.filter fun u => !due u } } : Dev).each l Dev.slotAct

/-! ### The PWM period (R260) and the current sample (R261-R270) -/

/-- The registers of the shadowed group of an axis (R283). -/
def bldGroup (a : Nat) : List Reg :=
  [R.BLD_AXa_CTRL a, R.BLD_AXa_ILOOP a, R.BLD_AXa_MOTOR1 a, R.BLD_AXa_MOTOR2 a, R.BLD_AXa_OBS a, R.BLD_AXa_WLOOP a,
   R.BLD_AXa_FW a, R.BLD_AXa_FW2 a, R.BLD_AXa_START1 a, R.BLD_AXa_START2 a, R.BLD_AXa_START3 a, R.BLD_AXa_LOS a,
   R.BLD_AXa_PWM a, R.BLD_AXa_PHASE a, R.BLD_AXa_PHASE2 a, R.BLD_AXa_POSGAIN a]

/-- PWM_PERIOD_START (R260, R12): compare values load, a ready group transfers; a group that clears phase_en ends the phase loop
(R277). -/
def Dev.bldPeriod (d : Dev) (a : Nat) : Dev :=
  if (d.axis a).isNone || !d.domOn 3 then d
  else
    let d := d.modBld a fun x => { x with cmp := x.cmpNext, cmpLast := x.cmp, perSt := d.bldState a + 1, startPer := false, losPer := false }
    let d := d.slotsDue
    if d.isReady (R.BLD_AXa_COMMIT a) then
      let d := (d.transfer (R.BLD_AXa_COMMIT a) (F.BLD_AXa_STATUS.shadow_pending a) (bldGroup a)).bldFlag a 0
      d.when (!d.gaOn (F.BLD_AXa_CTRL.phase_en a)) (·.modBld a (if d.on (F.BLD_AXa_STATUS.slewing a) then BldAx.endPhase else BldAx.noPhase))
    else d

/-- The counts of the motion clock that its clock in use resolves (R354): every count of 4 ns; on REFCLK every tenth; on the
Rhizoid clock 250 counts in 16 cycles, in steps of 16 and 15. The last such count at or before t. -/
def Dev.motionFloor (d : Dev) (t : Nat) : Nat :=
  if !d.on F.CLK_STATUS.motion_fb then t
  else if d.on F.CLK_STATUS.on_rc then (16 * t + 15) / 250 * 250 / 16
  else t / 10 * 10
/-- The tick of 8 ns at which the motion clock in use reaches tick t (R354). -/
def Dev.motionTick (d : Dev) (t : Nat) : Nat :=
  timeTick (if !d.on F.CLK_STATUS.motion_fb then 0 else if d.on F.CLK_STATUS.on_rc then 2 else 1) t
/-- A dead time rounded up to the cycles of the clock in use (R354). -/
def Dev.motionCeil (d : Dev) (dead : Nat) : Nat :=
  if !d.on F.CLK_STATUS.motion_fb then dead
  else if d.on F.CLK_STATUS.on_rc then ((16 * dead + 249) / 250 * 250 + 15) / 16
  else (dead + 9) / 10 * 10

/-- The gates of phase x at count t of the PWM period, 0 to 2N, valley to valley: high side, low side (R260, R271). The high side is
commanded on below C_x and the low side at or above it; a gate turns on `dead` counts after its command. The high side's command
reaches over the valley from the period before. On a fallback clock t and the dead time have its resolution (R354). Frozen outputs
keep the compare values held (R396). Without compare values no gate is on (R272). COAST, OFF and FAULT turn all gates off, SHORT and BRAKE turn the low sides on. -/
def Dev.gates (d : Dev) (a x t : Nat) : Bool × Bool :=
  let st := d.bldState a
  if !d.domOn 3 || d.released || st ≤ 1 || st = 10 then (false, false)
  else if st = 2 || st = 4 then (false, true)
  else
    let n := d.pwmN a
    let held := d.heldOut.map fun h => h.cmp.getD a []
    let cs := held.getD (d.bldS a).cmp
    if cs.isEmpty then (false, false) else
    let c := cs.getD x 0
    let p := (held.getD (d.bldS a).cmpLast).getD x 0
    let dead := d.motionCeil (d.ga (F.BLD_AXa_PWM.dead a))
    let t := d.motionFloor t
    let count := if t ≤ n then t else 2 * n - t
    if count < c then (if t ≤ n then dead ≤ t + (p - 1) else dead + 2 * n + 1 ≤ t + c, false)
    else (false, if c = 0 then p = 0 || dead ≤ t else c + dead ≤ t)

/-- The sample is at converter full scale (R261). -/
def fullScale (c : Int) : Bool := c ≤ -2048 || 2047 ≤ c

/-- Count and report a saturated sample (R261). -/
def Dev.bldSaturated (d : Dev) (a phase : Nat) : Dev :=
  let d := (d.count (F.BLD_AXa_COUNTS.saturated a)).modBld a fun x =>
    { x with satTs := d.sys.now8 :: x.satTs.filter fun t => d.sys.now8 < t + 125000000 }
  let x := d.bldS a
  if x.satAt = 0 || x.satAt - 1 + 125000000 ≤ d.sys.now8 then
    (d.bldReport 0x32 a x.satTs.length phase).modBld a fun x => { x with satAt := d.sys.now8 + 1 }
  else d

/-- The angle in use (R263). -/
def Dev.bldTheta (d : Dev) (a : Nat) : Nat :=
  let x := d.bldS a
  match d.bldState a with
  | 5 => 0
  | 6 => (x.forcedTh / 960000000000000000000 % 65536).toNat
  | _ => x.obs.theta % 65536

/-- References i_d and i_q of the present state (R263, R265, R269, R272, R273, R281). -/
def Dev.bldRefs (d : Dev) (a : Nat) : Int × Int :=
  let x := d.bldS a
  let idr := if d.gaOn (F.BLD_AXa_CTRL.fw_en a) then -x.fwX else 0
  match d.bldState a with
  | 5 =>
    let full := max 1 (d.ga (F.BLD_AXa_START3.align_ms a)) * 500000
    let t := d.sys.now8 - x.since
    let i : Int := (d.ga (F.BLD_AXa_START1.align_current a) : Nat)
    (if 4 * t < full then openDiv 4 (i * ((4 * t : Nat) : Int)) full else i, 0)
  | 6 => (0, sgn x.target * (d.ga (F.BLD_AXa_START1.ramp_current a) : Nat))
  | 7 => (idr, x.iqRef)
  | 8 => (idr, x.iqRef)
  | 9 => (idr, 0)
  | _ => (0, 0)

/-- The q-axis limit of R265. -/
def Dev.iqLim (d : Dev) (a : Nat) (idr : Int) : Int :=
  let m := d.ga (F.BLD_AXa_MOTOR2.i_max a)
  (openSqrt 5 (m * m - idr.natAbs * idr.natAbs) 1 : Nat)

/-- The current loop of one period (R263-R265, R269): voltages, integrators, compare values for the next valley. -/
def Dev.bldCurrentLoop (d : Dev) (a : Nat) (iA iB iu iv : Int) : Dev :=
  let x := d.bldS a
  let th := d.bldTheta a
  let (vm, vn) := d.busV a
  let n := d.pwmN a
  let pp := d.polePairs a
  let (id, iq) := rotate 22 ((65536 - th) % 65536) iA iB
  let (idr, iqr0) := d.bldRefs a
  let lim := d.iqLim a idr
  let iqr := clampI (-lim) lim iqr0
  let kp : Int := (d.ga (F.BLD_AXa_ILOOP.kp_i a) : Nat)
  let ki : Int := (d.ga (F.BLD_AXa_ILOOP.ki_i a) : Nat)
  let (dd, dq) := if d.gaOn (F.BLD_AXa_CTRL.decouple a) then
      decouple x.obs.omega (d.ga (F.BLD_AXa_MOTOR1.ls a)) pp id iq (d.ga (F.BLD_AXa_MOTOR2.ke a)) else (0, 0)
  let vd0 := (kp * (idr - id)) / 256 + x.intD + dd
  let vq0 := (kp * (iqr - iq)) / 256 + x.intQ + dq
  let vl : Int := openDiv 6 (32767 * vm : Nat) vn
  let isOver : Bool := vl * vl < vd0 * vd0 + vq0 * vq0
  let vd := if isOver then clampI (-vl) vl vd0 else vd0
  let vqMax : Int := (openSqrt 7 (vl * vl - vd * vd).toNat 1 : Nat)
  let vq := if isOver then clampI (-vqMax) vqMax vq0 else vq0
  let intD := if vd ≠ vd0 then x.intD else x.intD + (ki * (idr - id)) / 65536
  let intQ := if vq ≠ vq0 then x.intQ else x.intQ + (ki * (iqr - iq)) / 65536
  -- R269
  let u : Int := if vl = 0 then 32767 else (openSqrt 8 ((vd0 * vd0 + vq0 * vq0).toNat * 32767 ^ 2) (vl.natAbs ^ 2) : Nat)
  let idMin := sext 16 (d.ga (F.BLD_AXa_FW.id_min a))
  let fx := clampI 0 (max 0 (-idMin))
    (x.fwX + ((d.ga (F.BLD_AXa_FW2.fw_ki a) : Nat) * (u - (d.ga (F.BLD_AXa_FW.v_fw a) : Nat))) / 65536)
  let fx := if d.gaOn (F.BLD_AXa_CTRL.fw_en a) then fx else x.fwX
  -- R264: the angle advanced by 1.5 electrical periods of the PWM
  let adv := openDiv 9 (3 * x.obs.omega * (pp : Nat) * (n : Nat) * 65536) 240000000000
  let thv := ((th : Int) + adv) % 65536
  let (vA, vB) := rotate 24 thv.toNat vd vq
  let d := d.putBld a { x with
    intD := intD, intQ := intQ, fwX := fx, vA := vA, vB := vB, cmpNext := d.compares a vA vB (iu, iv, -iu - iv) }
  let d := d.wr (R.BLD_AXa_IDQ a) (enc 16 iq * 65536 + enc 16 id)
  let d := d.wr (R.BLD_AXa_VDQ a) (enc 16 vq * 65536 + enc 16 vd)
  d.put (F.BLD_AXa_ANGLE.theta a) th

/-- The observer of one period (R266). -/
def Dev.bldObserve (d : Dev) (a : Nat) (iA iB : Int) : Dev :=
  let x := d.bldS a
  let (vm, vn) := d.busV a
  let o := observer x.obs iA iB (openDiv 10 (x.vA * (vm : Nat)) vn) (openDiv 10 (x.vB * (vm : Nat)) vn) (d.ga (F.BLD_AXa_MOTOR1.rs a)) (d.ga (F.BLD_AXa_MOTOR1.ls a))
    (d.ga (F.BLD_AXa_OBS.obs_bw a)) (d.ga (F.BLD_AXa_OBS.pll_bw a)) (d.pwmN a) (d.polePairs a)
  let st := d.bldState a
  let dθ := ((o.theta : Int) - (x.obs.theta : Int) + 32768) % 65536 - 32768
  let d := d.putBld a { x with obs := o, posE := if st = 7 || st = 8 then x.posE + dθ else x.posE }
  let d := d.wr (R.BLD_AXa_SPEED a) (enc 32 o.omega)
  d.wr (R.BLD_AXa_POS a) (enc 64 (d.bldPos a))

/-- Where no current loop runs (COAST, SHORT, BRAKE, FAULT) the axis applies no voltage, and the angle is the observer's. -/
def Dev.bldNoLoop (d : Dev) (a : Nat) : Dev :=
  (d.modBld a fun x => { x with vA := 0, vB := 0 }).put (F.BLD_AXa_ANGLE.theta a) ((d.bldS a).obs.theta % 65536)

/-- e_mag against e_exp (R266): e_exp = ke x f_e / 1 kHz in Q1.15 is expNum / 120,000. -/
def Dev.expNum (d : Dev) (a : Nat) (w : Int) : Nat := d.ga (F.BLD_AXa_MOTOR2.ke a) * w.natAbs * d.polePairs a

/-- Which condition of R267 makes the observer output implausible: 0 none, 1 emf, 2 sign, 3 over-speed. -/
def Dev.bldImplausible (d : Dev) (a : Nat) : Nat :=
  let x := d.bldS a
  let e := d.expNum a x.obs.omega
  let mx := match d.axis a with | some c => 16 * c.maxSpeed | none => 0
  if d.ga (F.BLD_AXa_LOS.los_emf a) * e < (((x.obs.emag * 120000 : Nat) : Int) - (e : Nat)).natAbs * 128 then 1
  else if x.wref ≠ 0 && sgn x.obs.omega = -(sgn x.wref) then 2
  else if 5 * mx < 4 * x.obs.omega.natAbs then 3
  else 0

/-- The target in ω_ref: the target with the phase correction c (R277), in 1/16 rpm x 10^9. -/
def BldAx.goal (x : BldAx) : Int := (x.target + x.cPh) * 1000000000

/-- Move toward a goal by a step, never past it. -/
def toward (x goal step : Int) : Int := if x < goal then min (x + step) goal else max (x - step) goal

/-- Advance the profile of a running move through the profile periods that have passed (R276). -/
def profRun (vEnd : Nat) : Nat → Prof → Prof × Bool
  | 0, m => (m, false)
  | n + 1, m => let (m, e) := m.step vEnd; if e then (m, true) else profRun vEnd n m

/-- The speed loop at a speed sample (R268), the profile of a move (R276), at speed (R270). -/
def Dev.bldSpeedLoop (d : Dev) (a : Nat) : Dev :=
  let x := d.bldS a
  let n := x.per
  let step : Int := (max x.rate 1 * 1280 * n * d.pwmN a : Nat)
  let upr := d.bldUpr a
  let run := x.moving && d.bldState a = 7
  let k := if run then d.now / 1250 - x.profT / 1250 else 0
  let (m, ended) := match x.move with
    | some m => profRun (bldV upr (d.handover a).natAbs) k m
    | none => ({}, false)
  let wprof := openDiv 11 (m.v * 96000000) (max 1 (upr * 2 ^ 32))
  let wref := if run then
      (wprof + ((d.ga (F.BLD_AXa_POSGAIN.kp_pos a) : Nat) * (m.p / 2 ^ 32 - d.bldPos a)) / 256) * 1000000000
    else toward x.wref x.goal step
  let e := openDiv 12 wref 1000000000 - x.obs.omega
  let lim := d.iqLim a (d.bldRefs a).1
  let raw := ((d.ga (F.BLD_AXa_WLOOP.kp_w a) : Nat) * e) / 4096 + x.intW
  let out := clampI (-lim) lim raw
  let intW := if (raw ≠ out) && sgn e = sgn raw then x.intW else x.intW + (d.ga (F.BLD_AXa_WLOOP.ki_w a) : Nat) * e
  let tol : Int := (d.ga (F.BLD_AXa_PHASE2.at_speed_tol a) : Nat)
  -- at the target, or held there by the phase loop, whose corrections are part of ω_ref
  let there : Bool := wref = x.goal || (!run && 0 < x.atN)
  let good : Bool := there && x.target ≠ 0 && ((x.obs.omega * 1000000000 - wref).natAbs : Nat) ≤ tol * 1000000000 && d.bldState a = 7
  let atN := if good then x.atN + 1 else 0
  let d := d.putBld a { x with
    wref := wref, iqRef := out, intW := intW, atN := atN, per := 0,
    move := if run then some m else x.move, profT := if run then d.now else x.profT }
  if run && ended then d.bldMoveDone a
  else
    let was := d.on (F.BLD_AXa_STATUS.at_speed a)
    if good && !was && 256 ≤ atN then ((d.lgWatch (·.put (F.BLD_AXa_STATUS.at_speed a) 1)).bldFlag a 2).gateAll
    else if !good && was then d.bldSpeedLost a
    else d

/-- Enter RUN from CATCH or RAMP (R271): I_w preset, ω_ref = ω_obs. -/
def Dev.bldToRun (d : Dev) (a : Nat) (iw : Int) : Dev :=
  let p := d.bldPos a
  (d.modBld a fun x => { x with
    intW := iw, wref := x.obs.omega * 1000000000, iqRef := iw, per := 0, atN := 0, startDue := none, tries := 0,
    profT := d.now, move := x.move.map fun m =>
      if x.moving then { m with p := p * 2 ^ 32, v := sgn x.obs.omega * (bldV (d.bldUpr a) x.obs.omega.natAbs : Nat), rev := 0 } else m }).bldEnter a 7

/-- The state hand-overs evaluated at each sample (R271-R273). -/
def Dev.bldHandover (d : Dev) (a : Nat) : Dev :=
  let x := d.bldS a
  let w := x.obs.omega
  let fwd := w * sgn x.target
  let ho := d.handover a
  let al := d.alignRpm a
  match d.bldState a with
  | 3 =>
    let steady : Bool := 50 * (w - x.stRef).natAbs < max 1 x.stRef.natAbs && x.stRef ≠ 0
    let x' := if steady then { x with stN := x.stN + 1 } else { x with stN := 0, stRef := w }
    let d := d.putBld a { x' with seenE := x.seenE || d.expNum a ho < 2 * (x.obs.emag * 120000) }
    if x'.stN < 64 then d
    else if ho ≤ fwd then d.bldToRun a (sext 16 (d.get (F.BLD_AXa_IDQ.iq a)))
    else if al ≤ (w.natAbs : Int) then d.bldEnter a 4
    else d.bldEnter a 5
  | 4 => if (w.natAbs : Int) < al then d.bldEnter a 5 else d
  | 6 =>
    let f := x.forced
    let e := d.expNum a w
    let ok : Bool := ho * 1000000000 ≤ (f.natAbs : Int) && 8 * (w * 1000000000 - f).natAbs ≤ f.natAbs && e ≤ 2 * (x.obs.emag * 120000)
    let d := d.modBld a fun x => { x with hoN := if ok then x.hoN + 1 else 0 }
    if ok && 32 ≤ x.hoN + 1 then d.bldToRun a (sgn x.target * (d.ga (F.BLD_AXa_START1.ramp_current a) : Nat)) else d
  | 8 => if (x.wref.natAbs : Int) ≤ ho * 1000000000 then d.bldToIdle a else d
  | 9 => if (w.natAbs : Int) < ho then
      (if x.offPend then (d.putBld a { x with offPend := false }).bldEnter a 0 else d.bldEnter a 1) else d
  | _ => d

/-- Advance the forced angle and speed of RAMP by one period (R273). -/
def Dev.bldForce (d : Dev) (a : Nat) : Dev :=
  if d.bldState a ≠ 6 then d
  else
    let n := d.pwmN a
    d.modBld a fun x =>
      { x with forced := x.forced + sgn x.target * ((d.ga (F.BLD_AXa_START3.ramp_rate a) * 1280 * n : Nat) : Int)
               forcedTh := x.forcedTh + x.forced * ((d.polePairs a * n * 524288 : Nat) : Int) }

/-- CURRENT_SAMPLE (R261): the whole work of the peak of one PWM period. -/
def Dev.bldSample (d : Dev) (a : Nat) (cu cv : Int) : Dev :=
  if (d.axis a).isNone || d.bldState a = 0 || !d.domOn 3 then d
  else
    let d := if fullScale cu then d.bldSaturated a 0 else d
    let d := if fullScale cv then d.bldSaturated a 1 else d
    let iu := curQ15 cu
    let iv := curQ15 cv
    let (iA, iB) := clarke iu iv
    let d := d.bldObserve a iA iB
    let st := d.bldState a
    let d := if 3 ≤ st && st ≤ 9 && st ≠ 4 then d.bldCurrentLoop a iA iB iu iv else d.bldNoLoop a
    let d := d.bldForce a
    let d := d.modBld a fun x => { x with per := x.per + 1 }
    let due : Bool := d.ga (F.BLD_AXa_FW2.speed_div_m1 a) + 1 ≤ (d.bldS a).per
    if (st = 7 || st = 8) && due then
      let c := d.bldImplausible a
      let n := if c = 0 then 0 else (d.bldS a).losN + 1
      let d := d.modBld a fun x => { x with losN := n }
      if c ≠ 0 && max 1 (d.ga (F.BLD_AXa_LOS.los_count a)) ≤ n then d.bldLos a c
      else (d.bldSpeedLoop a).bldHandover a
    else d.bldHandover a

/-- The channels whose polygon_axis an axis is. -/
def Dev.polygonChans (d : Dev) (a : Nat) : List Nat :=
  (d.cfg.chans.filter fun c => c.polygonAxis = a).map Chan.channel

/-- SLEW_DONE (R278). -/
def Dev.slewDone (d : Dev) (a : Nat) : Dev :=
  if !d.on (F.BLD_AXa_STATUS.slewing a) then d
  else
    let d := d.advanceTo ((d.bldS a).slewEnd - 1)
    (d.modBld a fun x => { x with cPh := 0, slewEnd := 0 }).put (F.BLD_AXa_STATUS.slewing a) 0

/-! ### The commands -/

/-- PWM_PERIOD_START (R260). -/
def execPwmPeriodStart (a : Fin 16) (s : State) : Host.Outcome State Fault Refusal := s.onDev (·.bldPeriod a)
/-- CURRENT_SAMPLE (R261): the operands are the two 12-bit converter codes, signed. -/
def execCurrentSample (a : Fin 16) (iu iv : Int) (s : State) : Host.Outcome State Fault Refusal := s.onDev (·.bldSample a iu iv)
/-- ALIGN_DONE (R273). -/
def execAlignDone (a : Fin 16) (s : State) : Host.Outcome State Fault Refusal := s.onDev (·.bldAlignDone a)
/-- RAMP_TIMEOUT (R273). -/
def execRampTimeout (a : Fin 16) (s : State) : Host.Outcome State Fault Refusal := s.onDev (·.bldRampTimeout a)
/-- BRAKE_TIMEOUT (R271). -/
def execBrakeTimeout (a : Fin 16) (s : State) : Host.Outcome State Fault Refusal := s.onDev (·.bldBrakeTimeout a)
/-- CATCH_TIMEOUT (R272). -/
def execCatchTimeout (a : Fin 16) (s : State) : Host.Outcome State Fault Refusal := s.onDev (·.bldCatchTimeout a)
/-- RESTART_DELAY (R267). -/
def execRestartDelay (a : Fin 16) (s : State) : Host.Outcome State Fault Refusal := s.onDev (·.bldRestart a)
/-- SLEW_DONE (R278). -/
def execSlewDone (a : Fin 16) (s : State) : Host.Outcome State Fault Refusal := s.onDev (·.slewDone a)
/-- SETPOINT_WRITE (R274). -/
def execSetpointWrite (a : Fin 16) (v : Word32) (s : State) : Host.Outcome State Fault Refusal :=
  s.onDev fun d => d.agree (R.BLD_AXa_SETPOINT a) v.toNat (·.bldSetpoint a v.toNat)
/-- BLD_ENABLE (R271). -/
def execBldEnable (a : Fin 16) (s : State) : Host.Outcome State Fault Refusal :=
  s.onDev fun d => d.agree (R.BLD_AXa_CMD a) 2 (·.bldEnable a)
/-- BLD_DISABLE (R271). -/
def execBldDisable (a : Fin 16) (s : State) : Host.Outcome State Fault Refusal :=
  s.onDev fun d => d.agree (R.BLD_AXa_CMD a) 1 (·.bldDisable a)
/-- BLD_CLEAR_FAULT (R271). -/
def execBldClearFault (a : Fin 16) (s : State) : Host.Outcome State Fault Refusal :=
  s.onDev fun d => d.agree (R.BLD_AXa_CMD a) 4 (·.bldClearFault a)
/-- DCB_SAMPLE (R280). -/
def execDcbSample (m : Fin 2) (v : BitVec 12) (s : State) : Host.Outcome State Fault Refusal := s.onDev (·.dcbSample m v.toNat)
/-- DCB_OVERVOLTAGE_TRIP (R281). -/
def execDcbOvervoltageTrip (m : Fin 2) (s : State) : Host.Outcome State Fault Refusal := s.onDev (·.dcbTrip m)
/-- DCB_COMPARATOR_CLEAR (R281). -/
def execDcbComparatorClear (m : Fin 2) (s : State) : Host.Outcome State Fault Refusal := s.onDev (·.dcbClear m)

end Sys2Proof.Machine
end

