-- ==== Sys2Proof/Machine/Stp.lean ====
section
/-! DEFINITION. Stepper axes (R284-R305): moves, limits and homing, the sine table, the choppers, load angle and stall, axis
states; the qualification of limit and DINk inputs (R289, R290). -/

namespace Sys2Proof.Machine

def Dev.stpS (d : Dev) (m : Nat) : StpAx := Store.get {} d.stp m
def Dev.putStp (d : Dev) (m : Nat) (x : StpAx) : Dev := { d with stp := Store.set {} d.stp m x }
def Dev.modStp (d : Dev) (m : Nat) (f : StpAx → StpAx) : Dev := d.putStp m (f (d.stpS m))

/-- Axis states (R305): 0 OFF, 1 STANDSTILL, 2 MOVING, 3 STOPPING, 4 HOMING, 5 FAULT. -/
def Dev.stpState (d : Dev) (m : Nat) : Nat := d.get (F.STP_AXm_STATUS.state m)
def Dev.stpEnter (d : Dev) (m st : Nat) : Dev :=
  let e := d.put (F.STP_AXm_STATUS.state m) st
  e.when (st = 5 || d.stpState m = 5) fun e => e.setActive 27 ((List.range 16).any fun b => e.stpState b = 5)
/-- The AXIS entry of STm. -/
def Dev.stpAxis (d : Dev) (m : Nat) : Option Axis := d.axis (16 + m)
/-- Set bit k of STP_AXm_IRQ_STATUS (R305, vector 14). -/
def Dev.stpFlag (d : Dev) (m k : Nat) : Dev := d.flag (R.STP_AXm_IRQ_STATUS m) (R.STP_AXm_IRQ_EN m) k 14
/-- A refused command (R303). -/
def Dev.stpRefuse (d : Dev) (m code : Nat) : Dev := (d.put (F.STP_AXm_REFUSE.code m) code).stpFlag m 8
/-- A command ignored in OFF (R303). -/
def Dev.stpReject (d : Dev) : Dev := d.count F.STP_REJECT.count
/-- A stepper record (R304). -/
def Dev.stpReport (d : Dev) (sub m v d1 : Nat) : Dev := d.report 27 (sub <<< 24 + m <<< 16 + v % 65536) (d1 % 2 ^ 32)

/-! ### Units (R284, R287) -/

/-- A speed of s/den full steps/s as V. -/
def stpV (s den : Nat) : Nat := roundDiv (s * 2 ^ 40) (den * 100000)
/-- A rate of r x 10 full steps/s² as A; 0 acts as 1. -/
def stpA (r : Nat) : Nat := roundDiv (max r 1 * 10 * 2 ^ 40) 10000000000
/-- max_speed of the axis as V. -/
def Dev.stpCap (d : Dev) (m : Nat) : Nat := match d.stpAxis m with | some c => stpV c.maxSpeed 1 | none => 0
/-- A limit is flagged in the AXIS entry (R42): 0 LIMF, 1 LIMR. -/
def Dev.limUsed (d : Dev) (m side : Nat) : Bool := match d.stpAxis m with | some c => bit c.limits side | none => false
/-- The active level of a limit. -/
def Dev.limLevel (d : Dev) (m side : Nat) : Bool :=
  if side = 0 then d.gaOn (F.STP_AXm_LIMCFG.limf_level m) else d.gaOn (F.STP_AXm_LIMCFG.limr_level m)
/-- A limit is qualified active. -/
def Dev.limActive (d : Dev) (m side : Nat) : Bool := (d.inpS ((2 + side) * 32 + m)).qual = d.limLevel m side
/-- The side homing goes to: 0 LIMF (forward), 1 LIMR. -/
def Dev.homeSide (d : Dev) (m : Nat) : Nat := d.ga (F.STP_AXm_HOMECFG.home_dir m)
/-- The direction of a side. -/
def sideDir (side : Nat) : Int := if side = 0 then 1 else -1
/-- A word of the sine table of STm (R295). -/
def Dev.sine (d : Dev) (m i : Nat) : Nat :=
  if 256 ≤ i then 65535 else bits (d.tw (0x300000 + m * 0x200 + 8 * (i / 4))) (16 * (i % 4) + 15) (16 * (i % 4))

/-- |v| is below stall_min, in units of 10 full steps/s (R299, R300). -/
def Dev.stpSlow (d : Dev) (m : Nat) : Bool :=
  (d.stpS m).prof.v.natAbs * 100000 < d.ga (F.STP_AXm_STALL.stall_min m) * 10 * 2 ^ 40

/-- Publish position and speed (R284, R305); below stall_min no load angle is valid (R300). -/
def Dev.stpPublish (d : Dev) (m : Nat) : Dev :=
  let x := (d.stpS m).prof
  let d := d.when (d.stpSlow m) (·.put (F.STP_AXm_LOAD.valid m) 0)
  (d.wr (R.STP_AXm_POS m) (enc 64 (x.p / 2 ^ 32))).wr (R.STP_AXm_SPEED m) (enc 32 (openDiv 17 (x.v * 1600000) (2 ^ 40)))

/-! ### Commands (R287, R288, R292, R303): each answers whether it was turned away -/

/-- What refuses a start, a resume or HOME whatever it asks for: the state (R303) or an empty sine table (R295). -/
def Dev.stpBlocked (d : Dev) (m : Nat) : Option Nat :=
  if d.stpState m = 5 then some 4
  else if d.stpState m = 3 || d.stpState m = 4 || d.sys.cut then some 3
  else if d.sine m 255 = 0 then some 6
  else none

/-- A start toward a limit whose flag is set (R291). -/
def Dev.towardLimit (d : Dev) (m : Nat) (dir : Int) : Bool :=
  (0 < dir && d.on (F.STP_AXm_STATUS.at_limf m)) || (dir < 0 && d.on (F.STP_AXm_STATUS.at_limr m))

/-- A move or a standstill begins: an open coil may be reported again (R299). -/
def Coil.newMove (c : Coil) : Coil := { c with openRep := false, noTrip := 0 }

/-- Begin a move whose plan is made. -/
def Dev.stpRun (d : Dev) (m : Nat) (x : Prof) (r : Nat) : Dev :=
  ((d.modStp m fun s => { s with
                                 prof := x, recNo := some r, interrupted := false, held := false, stallReported := false,
                                 stallN := 0, homeFail := false, a := s.a.newMove, b := s.b.newMove }).put
    (F.STP_AXm_STATUS.move_active m) 1).stpEnter m 2

/-- Start of record r (R286, R287). In SAFE_IDLE and ORPHAN_HOLD an axis stays in its idle kind (R72): a start, a resume or HOME is
ignored there and counted (DEDUCED, see the assumption log). -/
def Dev.stpStart (d : Dev) (m r : Nat) : Dev × Bool :=
  if d.stpState m = 0 || d.idled then (d.stpReject, true)
  else match d.stpBlocked m with
  | some c => (d.stpRefuse m c, true)
  | none =>
    if 8 ≤ r || d.get (F.STP_AXm_MRECr.speed m r) = 0 || d.rd (R.STP_AXm_MRECr m r 1) / 2 ^ 33 ≠ 0 then (d.stpRefuse m 5, true)
    else
      let x := (d.stpS m).prof
      let dist := sext 32 (d.get (F.STP_AXm_MRECr.distance m r))
      let tc := if d.on (F.STP_AXm_MRECr.absolute m r) then dist else sext 64 (d.rd (R.STP_AXm_TARGET m)) + dist
      let t := tc * 2 ^ 32
      if d.towardLimit m (sgn (t - x.p)) then (d.stpRefuse m 7, true)
      else
        let (y, code) := x.replan t (stpA (d.get (F.STP_AXm_MRECr.accel m r))) (stpA (d.get (F.STP_AXm_MRECr.decel m r)))
          (min (d.stpCap m) (stpV (d.get (F.STP_AXm_MRECr.speed m r)) 16)) (d.uni (16 + m))
        match code with
        | some c => (d.stpRefuse m c, true)
        | none => ((d.wr (R.STP_AXm_TARGET m) (enc 64 tc)).stpRun m y r, false)

/-- A stop of an axis that stands: in the clock in which its move completed it comes too late (R288). -/
def Dev.stpLate (d : Dev) (m : Nat) : Dev :=
  if (d.stpS m).moveDone = d.sys.now8 + 1 then d.put (F.STP_AXm_STATUS.too_late_to_abort m) 1 else d

/-- A stop (R288). -/
def Dev.stpStop (d : Dev) (m : Nat) : Dev :=
  match d.stpState m with
  | 0 => d.stpReject
  | 1 => d.stpLate m
  | 2 => (d.modStp m fun s => { s with interrupted := true }).stpEnter m 3
  | 4 =>
    let early : Bool := d.get (F.STP_AXm_STATUS.home_phase m) = 1
    ((d.modStp m fun s => { s with homeFail := true, recNo := none, interrupted := true, searchLeft := early }).put
      (F.STP_AXm_STATUS.home_phase m) 0).stpEnter m 3
  | _ => d

/-- Resume (R288). -/
def Dev.stpResume (d : Dev) (m : Nat) : Dev × Bool :=
  let s := d.stpS m
  if d.stpState m = 0 || d.idled then (d.stpReject, true)
  else if d.stpState m = 2 then (d.stpRefuse m 8, true)
  else match d.stpBlocked m with
  | some c => (d.stpRefuse m c, true)
  | none => match s.recNo with
    | none => (d.stpRefuse m 8, true)
    | some r =>
      if !s.interrupted || (s.prof.target - s.prof.p) / 2 ^ 32 = 0 then (d.stpRefuse m 8, true)
      else if d.towardLimit m (sgn (s.prof.target - s.prof.p)) then (d.stpRefuse m 7, true)
      else (d.stpRun m { s.prof with v := 0, rev := 0 } r, false)

/-- A distance no axis comes to the end of: R292 bounds the search alone, not the back-off. -/
def homeFar : Int := 2 ^ 96

/-- HOME (R292): back-off when the home limit is already active, otherwise the search. -/
def Dev.stpHome (d : Dev) (m : Nat) : Dev × Bool :=
  if d.stpState m = 0 || d.idled then (d.stpReject, true)
  else if d.stpState m ≠ 1 then (d.stpRefuse m 3, true)
  else if !d.limUsed m (d.homeSide m) then (d.stpRefuse m 5, true)
  else if d.sine m 255 = 0 then (d.stpRefuse m 6, true)
  else
    let side := d.homeSide m
    let back := d.limActive m side
    let acc := stpA (d.ga (F.STP_AXm_RATES.home_accel m))
    let len : Int := (d.ga (F.STP_AXm_HOMEMAX.home_max m) : Nat)
    let d := d.modStp m fun s =>
      { s with
        prof := { s.prof with
                              target := if back then s.prof.p - sideDir side * homeFar else s.prof.p + sideDir side * len * 2 ^ 32, acc := acc, dec := acc, rev := 0,
                              peak := min (d.stpCap m) (stpV (max 1 (d.ga (F.STP_AXm_HOMECFG.home_speed m))) 1) }
        recNo := none, interrupted := false, homeFail := false, searchLeft := false, released := false, held := false
        stallReported := false, stallN := 0, a := s.a.newMove, b := s.b.newMove }
    (((d.put (F.STP_AXm_STATUS.home_phase m) (if back then 1 else 2)).put (F.STP_AXm_STATUS.move_active m) 1).stpEnter m 4, false)

/-- enable (R303). -/
def Dev.stpEnable (d : Dev) (m : Nat) : Dev :=
  if d.stpState m = 0 && (d.stpAxis m).isSome then (d.modStp m fun s => { s with held := true, offPend := false }).stpEnter m 1
  else d.stpReject

/-- The end of phase 9 (R303). -/
def Dev.stpPhase9 (d : Dev) (m : Nat) : Dev :=
  if d.stpState m = 0 && (d.stpAxis m).isSome then (d.modStp m fun s => { s with held := true }).stpEnter m 1 else d

/-- disable (R303). -/
def Dev.stpDisable (d : Dev) (m : Nat) : Dev :=
  match d.stpState m with
  | 0 => d.stpReject
  | 1 => (d.stpLate m).stpEnter m 0
  | 5 => (d.modStp m fun s => { s with offPend := false }).stpEnter m 0
  | _ => (d.modStp m fun s => { s with offPend := true }).stpStop m

/-- clear_fault (R303). -/
def Dev.stpClearFault (d : Dev) (m : Nat) : Dev :=
  if d.stpState m = 5 then
    (d.modStp m fun s => { s with held := true, offPend := false, prof := { s.prof with v := 0, rev := 0 }, a := {}, b := {} }).stpEnter m 1
  else if d.stpState m = 0 then d.stpReject else d

/-- Entry of SAFE_IDLE or ORPHAN_HOLD (R72, R298): a stop, or at standstill the idle kind at once. -/
def Dev.stpIdle (d : Dev) (m : Nat) : Dev :=
  match d.stpState m with
  | 0 => d.when (d.stpAxis m).isSome Dev.stpReject
  | 1 => (d.stpLate m).modStp m fun s => { s with held := true }
  | _ => d.stpStop m

/-! ### Profile periods (R284, R285, R288, R292-R296) -/

/-- Reach standstill. -/
def Dev.stpStand (d : Dev) (m : Nat) : Dev :=
  let off := (d.stpS m).offPend
  let hs := d.get F.SYS_HOST_STATE.state
  (d.modStp m fun s => { s with
    offPend := false, stoppedAt := d.sys.now8, held := hs = 4 || hs = 2, a := s.a.newMove, b := s.b.newMove }).stpEnter m (if off then 0 else 1)

/-- A move completes (R288, R303). -/
def Dev.stpDone (d : Dev) (m : Nat) : Dev :=
  let d := (d.modStp m fun s => { s with interrupted := false, recNo := none, moveDone := d.sys.now8 + 1 }).stpStand m
  ((d.put (F.STP_AXm_STATUS.move_active m) 0).put (F.STP_AXm_REMAIN.remain m) 0).stpFlag m 1

/-- Report a failed homing (R294): 1 far_limit, 2 not_found. -/
def Dev.homeFailed (d : Dev) (m why : Nat) (left : Int) : Dev := (d.stpReport 0x44 m why (enc 32 left)).stpFlag m 4

/-- What is left of the move or of the search, in microsteps: the whole search where homing has not begun it (R288, R294). -/
def Dev.stpLeft (d : Dev) (m : Nat) (whole : Bool) : Int :=
  let x := (d.stpS m).prof
  if whole then sideDir (d.homeSide m) * (d.ga (F.STP_AXm_HOMEMAX.home_max m) : Nat) else (x.target - x.p) / 2 ^ 32

/-- Standstill after a stop: the remaining distance is kept (R288). -/
def Dev.stpStopped (d : Dev) (m : Nat) : Dev :=
  let left := d.stpLeft m ((d.stpS m).homeFail && (d.stpS m).searchLeft)
  let d := (d.put (F.STP_AXm_REMAIN.remain m) (enc 32 left)).stpStand m
  (d.putB (F.STP_AXm_STATUS.move_active m) (left ≠ 0)).when (left ≠ 0) (·.stpFlag m 2)

/-- Standstill after the latch ends homing (R292). -/
def Dev.homeDone (d : Dev) (m : Nat) : Dev :=
  let x := (d.stpS m).prof
  let d := d.wr (R.STP_AXm_TARGET m) (enc 64 (x.p / 2 ^ 32))
  let d := (((d.put (F.STP_AXm_STATUS.homed m) 1).put (F.STP_AXm_STATUS.pos_lost m) 0).put (F.STP_AXm_STATUS.home_phase m) 0).put
    (F.STP_AXm_STATUS.move_active m) 0
  (d.stpStand m).stpFlag m 3

/-- The homing move ran its length without an edge (R294): standstill, nothing left to run. -/
def Dev.homeNotFound (d : Dev) (m : Nat) : Dev :=
  (((d.homeFailed m 2 0).put (F.STP_AXm_STATUS.home_phase m) 0).put (F.STP_AXm_STATUS.move_active m) 0).stpStand m

/-- One period of homing (R292, R294). -/
def Dev.homePeriod (d : Dev) (m : Nat) : Dev :=
  let s := d.stpS m
  match d.get (F.STP_AXm_STATUS.home_phase m) with
  | 3 =>
    let x := s.prof.halt (stpA (d.ga (F.STP_AXm_RATES.stop_rate m)))
    let d := d.putStp m { s with prof := x }
    if x.v = 0 then d.homeDone m else d
  | 1 =>
    let (x, e) := s.prof.step 0
    if e && s.released then
      let dir := sideDir (d.homeSide m)
      (d.putStp m { s with prof := { x with target := x.p + dir * (d.ga (F.STP_AXm_HOMEMAX.home_max m) : Nat) * 2 ^ 32 } }).put
        (F.STP_AXm_STATUS.home_phase m) 2
    else d.putStp m { s with prof := x }
  | _ =>
    let (x, e) := s.prof.step 0
    let d := d.putStp m { s with prof := x, homeFail := e }
    if e then d.homeNotFound m else d

/-- f_u of R296: ustep_max, or the chopper frequency in Hz. -/
def Dev.stpFu (d : Dev) (m : Nat) : Nat :=
  let u := d.ga (F.STP_AXm_USTEP.ustep_max m)
  if u = 0 then 1000 * (match d.stpAxis m with | some c => c.pwmKhz | none => 8) else u

/-- The resolution chosen at a profile period (R296): |v| x 2^k against f_u, exactly in V; one outside res_min to res_max is
brought to the nearer of the two. -/
def Dev.stpPickRes (d : Dev) (m : Nat) : Nat :=
  let k := d.get (F.STP_AXm_STATUS.res m)
  let v := (d.stpS m).prof.v.natAbs * 100000
  let fu := d.stpFu m * 2 ^ 40
  let lo := min 8 (d.ga (F.STP_AXm_USTEP.res_min m))
  let hi := min 8 (d.ga (F.STP_AXm_USTEP.res_max m))
  if hi < k then hi
  else if k < lo then lo
  else if fu < v * 2 ^ k && lo < k then k - 1
  else if 8 * (v * 2 ^ (k + 1)) ≤ 7 * fu && k < hi then k + 1
  else k

/-- The chatter window of R293 ends: the switch inactive and p at least `release` beyond home_pos on the far side. -/
def Dev.homeRearm (d : Dev) (m : Nat) : Dev :=
  let side := d.homeSide m
  let away := ((d.stpS m).prof.p - sext 32 (d.ga (F.STP_AXm_HOMEPOS.home_pos m)) * 2 ^ 32) * -sideDir side
  if d.on (F.STP_AXm_STATUS.latched m) && !d.limActive m side && (d.ga (F.STP_AXm_HOMECFG.release m) : Int) * 2 ^ 32 ≤ away then
    d.put (F.STP_AXm_STATUS.latched m) 0
  else d

/-- The number of the profile period of STm to come: the first multiple of 1,250 ticks, from the one at which engine time stands, that
it has not run. -/
def Dev.nextPeriod (d : Dev) (m : Nat) : Nat := d.multiple 1250 (d.stpS m).ran

/-- The work of one profile period of STm. -/
def Dev.stpRunPeriod (d : Dev) (m : Nat) : Dev :=
  let s := d.stpS m
  let d := match d.stpState m with
    | 2 =>
      let (x, e) := s.prof.step 0
      let d := d.putStp m { s with prof := x }
      if e then d.stpDone m else d
    | 3 =>
      let (x, e) := s.prof.stop (stpA (d.ga (F.STP_AXm_RATES.stop_rate m)))
      let d := d.putStp m { s with prof := x }
      if e && !s.homeFail then d.stpDone m else if x.v = 0 then d.stpStopped m else d
    | 4 => d.homePeriod m
    | _ => d
  let d := d.modStp m fun s =>
    { s with resNext := d.stpPickRes m, histP := (d.now / 1250, s.prof.p) :: s.histP.take 1023 }
  (d.homeRearm m).stpPublish m

/-- PROFILE_PERIOD (R284): one profile period of STm, in the clock of a multiple of 1,250 ticks. -/
def Dev.stpPeriod (d : Dev) (m : Nat) : Dev :=
  if !d.domOn 3 || !d.evt.running then d
  else
    let n := d.nextPeriod m
    ((d.advanceTo (n * 1250)).modStp m fun s => { s with ran := n + 1 }).stpRunPeriod m

/-! ### Inputs (R289-R291, R293) -/

/-- The qualification time of an input in ticks. -/
def Dev.qualTicks (d : Dev) (i : InputId) : Nat :=
  match i with
  | .limf n => d.ga (F.STP_AXm_LIMCFG.qual_ticks n)
  | .limr n => d.ga (F.STP_AXm_LIMCFG.qual_ticks n)
  | .din k => d.get (F.STP_DIN_QUALk.qual_ticks k)

/-- The code and the index of an input in an input unit (R384). -/
def inputCode : InputId → Nat × Nat
  | .limf n => (2, n)
  | .limr n => (3, n)
  | .din k => (4, k)

/-- A limit edge waits for its apply time (R290), in order of that time. -/
def Dev.limQueue (d : Dev) (code n ts qt : Nat) (level : Bool) : Dev :=
  let k := code * 32 + n
  let x := d.inpS k
  d.putInp k { x with apply := x.apply ++ [(ts + 128, ts - qt, level)] }

/-- A pin of a DINk exists: its PINMUX entry is applied, for a limit pin with DRIVE (R56). -/
def Dev.dinOn (d : Dev) (k : Nat) : Bool := d.cfg.pins.any fun p => p.func = 1 && p.k = k && (p.group = 3 || d.domOn 3)

/-- The pin of an input is there to be filtered. -/
def Dev.inputOn (d : Dev) (i : InputId) : Bool := match i with | .din k => d.dinOn k | _ => d.domOn 3

/-- A qualified level of the stream in use: a limit waits for its apply time, a DINk acts on the firing gate at once. -/
def Dev.inputTaken (d : Dev) (code n ts qt : Nat) (level : Bool) : Dev :=
  if code = 4 then d.dinChange n level else d.limQueue code n ts qt level

/-- INPUT_QUALIFY (R289): the level has been stable for qual_ticks. Motion waits for the apply time (R290); a DINk acts on
this member's own firing gate at once (R253, R290). In a pair the holder sends the edge and the follower's own limits do not
count (R390). -/
def Dev.inputQualify (d : Dev) (i : InputId) (pin : Bool) : Dev :=
  let inv := match i with
    | .din k => d.cfg.pins.any fun p => p.func = 1 && p.k = k && p.invert
    | _ => false
  let level := pin != inv
  let (code, n) := inputCode i
  let key := code * 32 + n
  if !d.inputOn i || (d.inpS key).raw = level then d
  else
    let d := d.putInp key { (d.inpS key) with raw := level, since := d.now - d.qualTicks i }
    let d := if code = 4 then d.dinChange n level else d
    d.ownInput code n d.now (b2n level) fun d => if code = 4 then d else d.inputTaken code n d.now (d.qualTicks i) level

/-- The position p of the profile period that holds an engine time (R292). -/
def StpAx.posAt (s : StpAx) (t : Nat) : Int :=
  match s.histP.find? (fun h => h.1 ≤ t / 1250) with
  | some h => h.2
  | none => s.prof.p

/-- The first active edge of the home limit in the search (R292): latch time and position, redefine p, settle. -/
def Dev.homeLatch (d : Dev) (m edge : Nat) : Dev :=
  let s := d.stpS m
  let pl := s.posAt edge
  let sh := sext 32 (d.ga (F.STP_AXm_HOMEPOS.home_pos m)) * 2 ^ 32 - pl
  let d := (d.wr (R.STP_AXm_LATCH_TIME m) edge).wr (R.STP_AXm_LATCH_POS m) (enc 64 (pl / 2 ^ 32))
  let d := d.putStp m
    { s with
      prof := { s.prof with p := s.prof.p + sh, target := s.prof.target + sh, rev := 0 }
      histP := s.histP.map fun h => (h.1, h.2 + sh) }
  (d.put (F.STP_AXm_STATUS.latched m) 1).put (F.STP_AXm_STATUS.home_phase m) 3

/-- A qualified limit edge acts (R291-R294). -/
def Dev.limEdge (d : Dev) (m side edge : Nat) (level : Bool) : Dev :=
  let key := (2 + side) * 32 + m
  let d := d.putInp key { (d.inpS key) with qual := level }
  let act := level = d.limLevel m side
  let flagF := if side = 0 then F.STP_AXm_STATUS.at_limf m else F.STP_AXm_STATUS.at_limr m
  let s := d.stpS m
  let st := d.stpState m
  if !d.limUsed m side then d
  else if !act then
    let d := (d.put flagF 0).homeRearm m
    if st = 4 && side = d.homeSide m && d.get (F.STP_AXm_STATUS.home_phase m) = 1 && !s.released then
      d.putStp m { s with
        released := true
        prof := { s.prof with target := s.prof.p - sideDir side * (d.ga (F.STP_AXm_HOMECFG.release m) : Nat) * 2 ^ 32 } }
    else d
  else if st = 4 then
    if side = d.homeSide m then
      if d.get (F.STP_AXm_STATUS.home_phase m) = 2 then d.homeLatch m edge else d
    else
      (d.homeFailed m 1 (d.stpLeft m (d.get (F.STP_AXm_STATUS.home_phase m) = 1))).stpStop m
  else if side = d.homeSide m && d.on (F.STP_AXm_STATUS.latched m) then d
  else if sgn s.prof.v = sideDir side then
    ((((d.put flagF 1).stpReport 0x41 m (side + 1) (enc 32 (s.prof.p / 2 ^ 32))).stpFlag m 6).stpStop m)
  else d

/-- The earliest edge of STm that waits for its apply time: code 2, 3, or 5 for a stall decision. -/
def Dev.nextApply (d : Dev) (m : Nat) : Option (Nat × Nat × Nat × Bool) :=
  [2, 3, 5].foldl (fun best c =>
    match (d.inpS (c * 32 + m)).apply with
    | [] => best
    | (t, e, l) :: _ => match best with
      | some (_, t', _, _) => if t < t' then some (c, t, e, l) else best
      | none => some (c, t, e, l)) none

/-- LIMIT_APPLY (R290): the earliest waiting edge of STm acts at its apply time. -/
def Dev.limitApply (d : Dev) (m : Nat) : Dev :=
  match d.nextApply m with
  | none => d
  | some (c, t, e, l) =>
    let d := d.advanceTo t
    let x := d.inpS (c * 32 + m)
    let d := d.putInp (c * 32 + m) { x with apply := x.apply.drop 1 }
    if c = 5 then (if d.gaOn (F.STP_AXm_CTRL.stall_action m) then d.stpStop m else d)
    else d.limEdge m (c - 2) e l

/-- HOME_LIMIT_RAW_EDGE (R293): a raw edge of the home limit after the latch is counted. -/
def Dev.homeRawEdge (d : Dev) (m : Nat) : Dev :=
  if d.on (F.STP_AXm_STATUS.latched m) then d.count (F.STP_AXm_COUNTS.chatter m) else d

/-! ### The choppers (R295-R301) -/

/-- The registers of the shadowed group of an axis (R305). -/
def stpGroup (m : Nat) : List Reg :=
  [R.STP_AXm_CTRL m, R.STP_AXm_CURRENT m, R.STP_AXm_CHOP m, R.STP_AXm_USTEP m, R.STP_AXm_MOTOR m, R.STP_AXm_STALL m,
   R.STP_AXm_LIMCFG m, R.STP_AXm_HOMECFG m, R.STP_AXm_HOMEPOS m, R.STP_AXm_HOMEMAX m, R.STP_AXm_RATES m]

/-- Coil magnitudes with their signs by quadrant (R295). -/
def Dev.coilMag (d : Dev) (m θ : Nat) : Int × Int :=
  let i := θ % 256
  let s : Int := (d.sine m i : Nat)
  let c : Int := (d.sine m (256 - i) : Nat)
  match θ / 256 % 4 with
  | 0 => (s, c)
  | 1 => (c, -s)
  | 2 => (-s, -c)
  | _ => (-c, s)

/-- cur of R297, or 0 while the idle kind turns the chopper off (R298). -/
def Dev.stpCur (d : Dev) (m : Nat) : Nat :=
  let idle := match d.stpAxis m with | some c => c.idle | none => 0
  if d.stpState m = 0 || d.stpState m = 5 then 0
  else if d.stpState m = 1 && (d.stpS m).held then (if idle = 2 then d.ga (F.STP_AXm_CURRENT.hold_current m) else 0)
  else d.ga (F.STP_AXm_CURRENT.run_current m)

/-- What is left of a fast decay in progress: it belongs to the period to come. -/
def Coil.fastLeft (c : Coil) (now : Nat) : Nat := if c.phase = 1 then c.fastEnd - now else 0

/-- On-time less fast-decay time of the period that ends now (R300). -/
def Coil.drive (c : Coil) (now : Nat) : Int :=
  ((c.onTicks + (if c.phase = 0 then now - c.onFrom else 0) : Nat) : Int) - ((c.fastTicks - c.fastLeft now : Nat) : Int)

/-- Load the reference and the polarity of a coil (R297): counts of the period before start anew; an off-time in progress runs
on, also where the new reference is 0. `slow`: |v| is below stall_min
(R299). -/
def Coil.load (c : Coil) (mag : Int) (cur now : Nat) (slow : Bool) : Coil :=
  let r := (mag.natAbs * cur + 32768) / 65536
  { c with
    prev := c.ref, prevNeg := c.neg, ref := r, neg := mag < 0
    phase := if c.phase = 1 then 1 else if r = 0 then 2 else 0
    onSince := if c.phase = 2 then now else c.onSince
    onFrom := now
    onTicks := 0, fastTicks := c.fastLeft now
    noTrip := if c.whole && !c.tripped && 256 ≤ c.ref && slow then c.noTrip + 1 else 0
    whole := c.phase ≠ 1 && r ≠ 0
    tripped := false }

/-- Back-EMF of one coil (R300) times 2 x 4,096 x 1,023 x V_nom x 125,000, the chopper period being 125,000 / khz ticks. -/
def coilEmf (c : Coil) (now rs ls vm vn khz : Nat) : Int :=
  let i : Int := if c.neg then -(c.ref : Int) else c.ref
  let ip : Int := if c.prevNeg then -(c.prev : Int) else c.prev
  (if c.neg then -c.drive now else c.drive now) * ((vm * 8380416 * khz : Nat) : Int) - ((rs * 250000 * vn : Nat) : Int) * i
    - ((ls * 25 * vn * 4096 * khz : Nat) : Int) * (i - ip)

/-- A stall is decided (R301): report, count, pos_lost; its stop waits for the apply time (R290). -/
def Dev.stallDecide (d : Dev) (m δ : Nat) : Dev :=
  let d := (d.modStp m fun s => { s with stallReported := true }).stpReport 0x40 m δ (enc 32 ((d.stpS m).prof.p / 2 ^ 32))
  let d := ((d.count (F.STP_AXm_COUNTS.stalls m)).put (F.STP_AXm_STATUS.pos_lost m) 1).stpFlag m 5
  let d := d.sendInput 5 m d.now δ
  if d.ownInputs then d.limQueue 5 m d.now 0 true else d

/-- The end of a full step (R300, R301): publish the load angle, judge a stall. -/
def Dev.fullStep (d : Dev) (m : Nat) : Dev :=
  let s := d.stpS m
  let sp := sext 32 (d.get (F.STP_AXm_SPEED.speed m))
  let valid := s.fullOk && !d.stpSlow m
  let δ := 16384 - atan2 (s.sumQ * sgn sp) s.sumP
  let hit := valid && (d.ga (F.STP_AXm_STALL.stall_angle m) : Int) ≤ δ && d.gaOn (F.STP_AXm_CTRL.stall_en m)
  let n := if hit then s.stallN + 1 else 0
  let d := d.putStp m { s with sumP := 0, sumQ := 0, fullOk := true, stallN := n, lastStep := s.prof.p / 2 ^ 40 }
  let d := (d.putB (F.STP_AXm_LOAD.valid m) valid).put (F.STP_AXm_LOAD.delta m) (enc 16 δ)
  if hit && max 1 (d.ga (F.STP_AXm_STALL.stall_count m)) ≤ n && !s.stallReported then d.stallDecide m (enc 16 δ) else d

/-- A coil that stays on through 64 chopper periods counts as open (R299): reported once per move or standstill. -/
def Dev.coilOpen (d : Dev) (m coil : Nat) (c : Coil) : Dev :=
  if 64 ≤ c.noTrip && !c.openRep then
    ((d.stpReport 0x43 m coil c.prev).count (F.STP_AXm_COUNTS.coil m)).stpFlag m 7
  else d

/-- CHOPPER_PERIOD_START (R297, R12): transfer, resolution, references, load angle. -/
def Dev.chopPeriod (d : Dev) (m : Nat) : Dev :=
  let d := if d.isReady (R.STP_AXm_COMMIT m) then
      (d.transfer (R.STP_AXm_COMMIT m) (F.STP_AXm_STATUS.shadow_pending m) (stpGroup m)).stpFlag m 0 else d
  if (d.stpAxis m).isNone || d.stpState m = 0 then d
  else
    let s := d.stpS m
    let khz := match d.stpAxis m with | some c => max 1 c.pwmKhz | none => 8
    let now := d.sys.now8
    let slow := d.stpSlow m
    let (vm, vn) := d.busV (16 + m)
    let rs := d.ga (F.STP_AXm_MOTOR.rs m)
    let ls := d.ga (F.STP_AXm_MOTOR.ls m)
    let ea := coilEmf s.a now rs ls vm vn khz
    let eb := coilEmf s.b now rs ls vm vn khz
    let ia : Int := if s.a.neg then -(s.a.ref : Int) else s.a.ref
    let ib : Int := if s.b.neg then -(s.b.ref : Int) else s.b.ref
    let k := d.get (F.STP_AXm_STATUS.res m)
    let gNow : Int := (256 / 2 ^ k : Nat)
    let onGrid : Bool := ((s.prof.p / 2 ^ 32) / gNow * gNow) % (256 / 2 ^ s.resNext : Nat) = 0
    let k := if s.resNext < k then (if onGrid then s.resNext else k) else s.resNext
    let g : Int := (256 / 2 ^ k : Nat)
    let θ := ((s.prof.p / 2 ^ 32) / g * g % 1024).toNat
    let (ma, mb) := d.coilMag m θ
    let mb := if d.gaOn (F.STP_AXm_CTRL.invert m) then -mb else mb
    let cur := d.stpCur m
    let a := s.a.load ma cur now slow
    let b := s.b.load mb cur now slow
    let d := d.putStp m
      { s with
        sumP := s.sumP + ea * ia + eb * ib, sumQ := s.sumQ + ia * eb - ib * ea
        fullOk := s.fullOk && s.a.tripped && s.b.tripped
        a := a, b := b }
    let d := d.put (F.STP_AXm_STATUS.res m) k
    let d := d.coilOpen m 0 a
    let d := d.coilOpen m 1 b
    let d := d.modStp m fun s => { s with a := { s.a with openRep := s.a.openRep || 64 ≤ s.a.noTrip }, b := { s.b with openRep := s.b.openRep || 64 ≤ s.b.noTrip } }
    if (d.stpS m).prof.p / 2 ^ 40 ≠ s.lastStep then d.fullStep m else d

/-- Turn both bridges off and enter FAULT (R299). -/
def Dev.coilShort (d : Dev) (m coil ref : Nat) : Dev :=
  let d := ((d.stpReport 0x42 m coil ref).count (F.STP_AXm_COUNTS.coil m)).stpFlag m 7
  (((d.modStp m fun s =>
    { s with
      a := { s.a with ref := 0, phase := 2, early := 0 }, b := { s.b with ref := 0, phase := 2, early := 0 }
      prof := { s.prof with v := 0, rev := 0 }, interrupted := false, offPend := false }).put
    (F.STP_AXm_STATUS.move_active m) 0).put (F.STP_AXm_STATUS.home_phase m) 0).stpEnter m 5

/-- CHOPPER_COMPARATOR_TRIP (R297, R299): after blanking, decay for t_off; a trip at the end of blanking counts toward a short. On a
fallback clock each edge has its resolution (R354). -/
def Dev.chopTrip (d : Dev) (m : Nat) (coilB : Bool) : Dev :=
  let s := d.stpS m
  let c := if coilB then s.b else s.a
  if c.phase ≠ 0 || c.ref = 0 || d.stpState m = 0 || d.stpState m = 5 then d
  else
    let blankEnd := d.motionTick (c.onSince + d.ga (F.STP_AXm_CHOP.t_blank m))
    let early : Bool := d.sys.now8 ≤ blankEnd
    let d := d.advance8To blankEnd
    let mix := if c.ref < c.prev then d.ga (F.STP_AXm_CHOP.mix_fall m) else d.ga (F.STP_AXm_CHOP.mix_rise m)
    let off := max 1 (d.ga (F.STP_AXm_CHOP.t_off m)) * 25
    let n := if early && 64 ≤ c.ref then c.early + 1 else 0
    let fastEnd := d.motionTick (d.sys.now8 + mix * off / 32)
    let c' : Coil :=
      { c with
        phase := 1, offEnd := d.motionTick (d.sys.now8 + off / 2), onTicks := c.onTicks + (d.sys.now8 - c.onFrom)
        fastTicks := c.fastTicks + (fastEnd - d.sys.now8), fastEnd := fastEnd, early := n, tripped := true, noTrip := 0 }
    let d := d.putStp m (if coilB then { s with b := c' } else { s with a := c' })
    if 8 ≤ n then d.coilShort m (b2n coilB) c.ref else d

/-- CHOPPER_OFF_END (R297). -/
def Dev.chopOffEnd (d : Dev) (m : Nat) (coilB : Bool) : Dev :=
  let s := d.stpS m
  let c := if coilB then s.b else s.a
  if c.phase ≠ 1 then d
  else
    let d := d.advance8To c.offEnd
    let c' : Coil := { c with phase := if c.ref = 0 then 2 else 0, onSince := d.sys.now8, onFrom := d.sys.now8 }
    d.putStp m (if coilB then { s with b := c' } else { s with a := c' })

/-- What a coil's bridge does (R297, R298): off; drives, with the polarity negative or not; both low-side switches on. -/
inductive Bridge where
  | off
  | drive (neg : Bool)
  | low
  deriving DecidableEq, Repr

/-- The bridge of a coil: off in OFF and FAULT and while outputs are released; by the idle kind at rest; else by the chopper's cycle,
whose fast decay drives in reverse. A frozen output keeps its polarity (R396). -/
def Dev.bridge (d : Dev) (m : Nat) (coilB : Bool) : Bridge :=
  let s := d.stpS m
  let c := if coilB then s.b else s.a
  let idle := match d.stpAxis m with | some c => c.idle | none => 0
  if !d.domOn 3 || d.released || d.stpState m = 0 || d.stpState m = 5 then .off
  else if d.stpState m = 1 && s.held && idle ≠ 2 then (if idle = 1 then .low else .off)
  else
    let neg := match d.heldOut with
      | some h => let x := h.refs.getD m (0, false, 0, false); if coilB then x.2.2.2 else x.2.1
      | none => c.neg
    match c.phase with
  | 0 => .drive neg
  | 1 => if d.sys.now8 < c.fastEnd then .drive (!neg) else .low
  | _ => .low

/-- HOLD_DELAY_EXPIRE (R297, R298). -/
def Dev.holdExpire (d : Dev) (m : Nat) : Dev :=
  if d.stpState m ≠ 1 || (d.stpS m).held then d
  else
    (d.advance8To ((d.stpS m).stoppedAt + d.ga (F.STP_AXm_CHOP.hold_delay m) * 1250000)).modStp m fun s => { s with held := true }

/-! ### The commands -/

/-- PROFILE_PERIOD (R284). -/
def execProfilePeriod (m : Fin 16) (s : State) : Host.Outcome State Fault Refusal := s.onDev (·.stpPeriod m)
/-- CHOPPER_PERIOD_START (R297). -/
def execChopperPeriodStart (m : Fin 16) (s : State) : Host.Outcome State Fault Refusal := s.onDev (·.chopPeriod m)
/-- CHOPPER_COMPARATOR_TRIP (R297). -/
def execChopperComparatorTrip (m : Fin 16) (coilB : Bool) (s : State) : Host.Outcome State Fault Refusal := s.onDev (·.chopTrip m coilB)
/-- CHOPPER_OFF_END (R297). -/
def execChopperOffEnd (m : Fin 16) (coilB : Bool) (s : State) : Host.Outcome State Fault Refusal := s.onDev (·.chopOffEnd m coilB)
/-- HOLD_DELAY_EXPIRE (R297). -/
def execHoldDelayExpire (m : Fin 16) (s : State) : Host.Outcome State Fault Refusal := s.onDev (·.holdExpire m)
/-- INPUT_QUALIFY (R289). -/
def execInputQualify (i : InputId) (level : Bool) (s : State) : Host.Outcome State Fault Refusal := s.onDev (·.inputQualify i level)
/-- LIMIT_APPLY (R290). -/
def execLimitApply (m : Fin 16) (s : State) : Host.Outcome State Fault Refusal := s.onDev (·.limitApply m)
/-- STP_START (R287). -/
def execStpStart (m : Fin 16) (r : Fin 8) (s : State) : Host.Outcome State Fault Refusal :=
  s.onDev fun d => d.agree (R.STP_AXm_CMD m) (0x10000000 + r) fun d => (d.stpStart m r).1
/-- STP_STOP (R288). -/
def execStpStop (m : Fin 16) (s : State) : Host.Outcome State Fault Refusal :=
  s.onDev fun d => d.agree (R.STP_AXm_CMD m) 0x20000000 (·.stpStop m)
/-- STP_RESUME (R288). -/
def execStpResume (m : Fin 16) (s : State) : Host.Outcome State Fault Refusal :=
  s.onDev fun d => d.agree (R.STP_AXm_CMD m) 0x30000000 fun d => (d.stpResume m).1
/-- HOME (R292). -/
def execHome (m : Fin 16) (s : State) : Host.Outcome State Fault Refusal :=
  s.onDev fun d => d.agree (R.STP_AXm_CMD m) 0x40000000 fun d => (d.stpHome m).1
/-- STP_ENABLE (R303). -/
def execStpEnable (m : Fin 16) (s : State) : Host.Outcome State Fault Refusal :=
  s.onDev fun d => d.agree (R.STP_AXm_CMD m) 0x50000000 (·.stpEnable m)
/-- STP_DISABLE (R303). -/
def execStpDisable (m : Fin 16) (s : State) : Host.Outcome State Fault Refusal :=
  s.onDev fun d => d.agree (R.STP_AXm_CMD m) 0x60000000 (·.stpDisable m)
/-- STP_CLEAR_FAULT (R303). -/
def execStpClearFault (m : Fin 16) (s : State) : Host.Outcome State Fault Refusal :=
  s.onDev fun d => d.agree (R.STP_AXm_CMD m) 0x70000000 (·.stpClearFault m)
/-- HOME_LIMIT_RAW_EDGE (R293). -/
def execHomeLimitRawEdge (m : Fin 16) (s : State) : Host.Outcome State Fault Refusal := s.onDev (·.homeRawEdge m)

end Sys2Proof.Machine
end

