-- ==== Sys2Proof/Machine/Loop.lean ====
section
/-! DEFINITION. The control engine (R306-R319): one slot's sample, the min-select groups, slot states, the output stage,
supervision. -/

namespace Sys2Proof.Machine

def Dev.loopS (d : Dev) (k : Nat) : LoopSlot := Store.get {} d.loop k
def Dev.putLoop (d : Dev) (k : Nat) (x : LoopSlot) : Dev := { d with loop := Store.set {} d.loop k x }
def Dev.modLoop (d : Dev) (k : Nat) (f : LoopSlot → LoopSlot) : Dev := d.putLoop k (f (d.loopS k))
def Dev.outS (d : Dev) (o : Nat) : OutSt := Store.get {} d.outU o
def Dev.modOut (d : Dev) (o : Nat) (f : OutSt → OutSt) : Dev := { d with outU := Store.set {} d.outU o (f (d.outS o)) }

/-- Slot states (R319): 0 OFF, 1 RELEASED, 2 RUN, 3 HOLD, 4 STANDBY, 5 FORCED. -/
def Dev.loopState (d : Dev) (k : Nat) : Nat := d.get (F.LOOP_Sk_STATUS.state k)
/-- Set bit b of LOOP_Sk_IRQ_STATUS (R319, vector 15). -/
def Dev.loopFlag (d : Dev) (k b : Nat) : Dev := d.flag (R.LOOP_Sk_IRQ_STATUS k) (R.LOOP_Sk_IRQ_EN k) b 15
/-- A refused command (R312). -/
def Dev.loopRefuse (d : Dev) (k code : Nat) : Dev := (d.put (F.LOOP_Sk_REFUSE.code k) code).loopFlag k 5
/-- A command ignored in OFF (R312). -/
def Dev.loopReject (d : Dev) : Dev := d.count F.LOOP_REJECT.count
/-- A record under bit 28 or 29 (R318). -/
def Dev.loopReport (d : Dev) (src sub k v d1 : Nat) : Dev := d.report src (sub <<< 24 + k <<< 16 + v % 65536) d1

/-- The slot's LOOPT entry with the defaults of an absent one. -/
def Dev.loopC (d : Dev) (k : Nat) : LoopT := (d.loopT k).getD { slot := k }
/-- Kinds 1 and 2, which regulate in standby and take the fuser cut (R312, R313). -/
def Dev.heaterSlot (d : Dev) (k : Nat) : Bool := (d.loopC k).kind = 1 || (d.loopC k).kind = 2
/-- The host state holds the engine idle (R72). -/
def Dev.hostIdle (d : Dev) : Bool := d.get F.SYS_HOST_STATE.state = 4 || d.get F.SYS_HOST_STATE.state = 2

/-! ### The active coefficient block (R314) -/

/-- The active word at offset o of the block of slot k. -/
def Dev.coef (d : Dev) (k o : Nat) : Nat := (Store.get 0#64 d.actTbl (0x310000 + k * 0x100 + o)).toNat
/-- Bits hi:lo of the active word at offset o. -/
def Dev.cf (d : Dev) (k o hi lo : Nat) : Nat := bits (d.coef k o) hi lo
/-- The same, signed. -/
def Dev.cfi (d : Dev) (k o hi lo : Nat) : Int := sext (hi + 1 - lo) (d.cf k o hi lo)

/-- The check of a block at its transfer (R314): refused when u_min > u_max, |a2| ≥ 16,384, or |a1| ≥ 16,384 + a2 with the
notch on. Reads the shadow copy. -/
def Dev.blockBad (d : Dev) (k : Nat) : Bool :=
  let w := fun o => d.tw (0x310000 + k * 0x100 + o)
  let a1 := sext 16 (bits (w 0x10) 63 48)
  let a2 := sext 16 (bits (w 0x18) 15 0)
  let notch := bit (w 0x18) 16
  bits (w 0x20) 31 16 < bits (w 0x20) 15 0 || 16384 ≤ a2.natAbs || (notch && 16384 + a2 ≤ (a1.natAbs : Int))

/-- The transfer of a ready block at a sample boundary (R12, R314). -/
def Dev.blockTransfer (d : Dev) (k : Nat) : Dev :=
  if !d.isReady (R.LOOP_Sk_COMMIT k) then d
  else
    let bad := d.blockBad k
    let d := (d.setReady (R.LOOP_Sk_COMMIT k) false).put (F.LOOP_Sk_STATUS.shadow_pending k) 0
    let d := d.calOutcome 6 k bad
    if bad then d.loopRefuse k 4
    else
      (d.each (List.range 32) fun d i =>
        let o := 0x310000 + k * 0x100 + 8 * i
        { d with actTbl := Store.set 0#64 d.actTbl o (BitVec.ofNat 64 (d.tw o)) }).loopFlag k 0

/-! ### States (R312) -/

/-- Leave the band (R317). -/
def Dev.leaveBand (d : Dev) (k : Nat) : Dev :=
  let was := d.on (F.LOOP_Sk_STATUS.in_band k)
  let d := (d.modLoop k fun x => { x with inBandN := 0 }).put (F.LOOP_Sk_STATUS.in_band k) 0
  if was then d.loopFlag k 2 else d

/-- The active levels of sources 28 and 29 (R364): a residual beyond tol, a saturation that has been reported and lasts. -/
def Dev.loopActive (d : Dev) : Dev :=
  let any := fun (f : Nat → Bool) => d.cfg.loops.any fun l => f l.slot
  (d.setActive 28 (any fun k => d.on (F.LOOP_Sk_STATUS.implausible k))).setActive 29 (any fun k => (d.loopS k).satRep)

/-- Enter a slot state. -/
def Dev.loopEnter (d : Dev) (k st : Nat) : Dev :=
  let d := d.put (F.LOOP_Sk_STATUS.state k) st
  let d := if st = 2 || st = 4 then d.modLoop k fun x => { x with fresh := true } else (d.put (F.LOOP_Sk_STATUS.implausible k) 0).loopActive
  if st = 2 then d else ((d.leaveBand k).modLoop k fun x => { x with satSince := 0, satRep := false }).loopActive

/-- Start a ramp toward a target (R309, R312), from r_w or from the measured value. -/
def Dev.loopRamp (d : Dev) (k : Nat) (target : Int) (rate : Nat) (fromMeas : Bool) : Dev :=
  (d.leaveBand k).modLoop k fun x =>
    { x with target := target, rate := rate, entered := if fromMeas && x.entered < 4 then x.entered + 4 else x.entered }

/-- Target and rate of LOOP_Sk_SETPOINT. -/
def Dev.loopSp (d : Dev) (k : Nat) : Int × Nat :=
  (sext 16 (d.get (F.LOOP_Sk_SETPOINT.target k)), d.get (F.LOOP_Sk_SETPOINT.rate k))

/-- Enter RUN from RELEASED, HOLD or STANDBY (R310). -/
def Dev.loopRun (d : Dev) (k : Nat) : Dev :=
  let st := d.loopState k
  let (t, r) := d.loopSp k
  let d := d.modLoop k fun x => { x with entered := if st = 4 then 0 else 2, held := if st = 3 then x.held else (d.loopC k).safeValue }
  (d.loopEnter k 2).loopRamp k t r true

/-- Enter STANDBY (R312): toward standby_setpoint at the stored rate. -/
def Dev.loopStandby (d : Dev) (k : Nat) (fromMeas : Bool) : Dev :=
  let (_, r) := d.loopSp k
  let d := if fromMeas then d.modLoop k fun x => { x with entered := 1 } else d
  (d.loopEnter k 4).loopRamp k (sext 16 (d.loopC k).standby) r fromMeas

/-- One command at the boundary at which it acts (R312). -/
def Dev.loopAct (d : Dev) (k : Nat) (c : Nat × Nat × Nat) : Dev :=
  let st := d.loopState k
  match c.1 with
  | 1 =>
    if st = 1 || st = 3 then (if d.hostIdle then d.loopRefuse k 1 else d.loopRun k)
    else if st = 4 then d.loopRefuse k 1 else if st = 5 then d.loopRefuse k 2 else d
  | 2 =>
    if st = 2 then (d.modLoop k fun x => { x with held := x.u }).loopEnter k 3
    else if st = 4 then d.loopRefuse k 1 else d
  | 5 =>
    if d.heaterSlot k then (if st = 1 then d.loopStandby k true else if st = 2 || st = 3 then d.loopStandby k false else d)
    else if st = 2 then (d.modLoop k fun x => { x with held := x.u }).loopEnter k 3
    else d
  | 6 =>
    if st = 1 || st = 3 || st = 4 then d.loopRun k else if st = 5 then d.loopRefuse k 2 else d
  | 7 => if st = 2 || st = 3 || st = 4 then d.loopEnter k 1 else d
  | _ =>
    if st = 4 then d.loopRefuse k 1
    else if st = 5 then d.loopRefuse k 2
    else
      let w := d.coef k (0x40 + 8 * c.2.1)
      let d := if c.1 = 4 then d.wr (R.LOOP_Sk_SETPOINT k) (w % 2 ^ 32) else d
      let (t, r) := d.loopSp k
      if st = 2 then d.loopRamp k t r (c.1 = 4 && bit w 32) else d

/-- What takes effect now waits for the slot's next sample boundary (R312). -/
def Dev.loopWait (d : Dev) (k op arg : Nat) : Dev := d.modLoop k fun x => { x with due := x.due ++ [(op, arg, d.now)] }

/-- A command takes effect: it acts at the slot's next sample boundary (R312). In OFF it is ignored and counted. -/
def Dev.loopCmd (d : Dev) (k op arg : Nat) : Dev :=
  if d.loopState k = 0 then d.loopReject else d.loopWait k op arg

/-- Whether a command is turned away, as the slot stands: refused (R312) or ignored in OFF. -/
def Dev.loopTurnedAway (d : Dev) (k op : Nat) : Bool :=
  match d.loopState k with
  | 0 => true
  | 1 => op = 1 && d.hostIdle
  | 3 => op = 1 && d.hostIdle
  | 4 => true
  | 5 => op ≠ 2
  | _ => false

/-- Apply a set-point record (R314): an argument above 7 or reserved bits refuse it with code 3. -/
def Dev.loopRecord (d : Dev) (k r : Nat) : Dev × Bool :=
  if d.loopState k = 0 then (d.loopReject, true)
  else if 8 ≤ r || d.coef k (0x40 + 8 * r) / 2 ^ 33 ≠ 0 then (d.loopRefuse k 3, true)
  else (d.loopCmd k 4 r, d.loopTurnedAway k 4)

/-- LOOP_SETPOINT_WRITE (R312): the register takes the value; the command acts at the boundary. -/
def Dev.loopSetpoint (d : Dev) (k v : Nat) : Dev := (d.wr (R.LOOP_Sk_SETPOINT k) v).loopCmd k 3 0

/-- Safe-idle entry (R312): in OFF it is ignored and counted. -/
def Dev.loopIdle (d : Dev) (k : Nat) : Dev :=
  if d.loopState k = 0 then d.loopReject else d.loopWait k 5 0

/-- The end of phase 9 (R312): RELEASED, with a safe-idle entry due. -/
def Dev.loopPhase9 (d : Dev) (k : Nat) : Dev :=
  if (d.loopT k).isSome && d.loopState k = 0 then (d.loopEnter k 1).loopIdle k else d

/-- An engine stop reaction (R312). -/
def Dev.loopStop (d : Dev) (k : Nat) : Dev :=
  if d.loopState k = 0 then d.loopReject else if d.loopState k = 5 then d else d.loopWait k 7 0

/-! ### The computation of one sample (R309) -/

/-- The feedback of a slot (R307): the converter's code, or the last temperature published. -/
def Dev.loopY (d : Dev) (k : Nat) (code : Int) : Int :=
  let f := (d.loopC k).feedback
  if f < 0x20 then clampI 0 16383 code
  else sext 16 (d.get (F.TMP_Ss_VALUE.temp (if f < 0x50 then f - 0x40 else f - 0x50 + 8)))

/-- The y_f at which the notch rests under a steady y (R310): the history that starts it without a transient. -/
def Dev.notchRest (d : Dev) (k : Nat) (y : Int) : Int :=
  let n := (d.cfi k 0x10 15 0 + d.cfi k 0x10 31 16 + d.cfi k 0x10 47 32) * y
  let m := 16384 + d.cfi k 0x10 63 48 + d.cfi k 0x18 15 0
  clampI (-32768) 32767 ((2 * n + m) / (2 * m))

/-- Steps 1 to 5 of R309 with the presets of R310: the filtered feedback, the working set-point, the demand. -/
def Dev.loopDemand (d : Dev) (k : Nat) (y : Int) : Dev :=
  let x := d.loopS k
  let notch := d.cf k 0x18 16 16 = 1
  let f0 := if notch then d.notchRest k y else y
  let x := if x.entered % 4 ≠ 0 then { x with y1 := y, y2 := y, f1 := f0, f2 := f0 } else x
  let yf := if notch then
      clampI (-32768) 32767 ((d.cfi k 0x10 15 0 * y + d.cfi k 0x10 31 16 * x.y1 + d.cfi k 0x10 47 32 * x.y2
        - d.cfi k 0x10 63 48 * x.f1 - d.cfi k 0x18 15 0 * x.f2 + 8192) / 16384)
    else y
  let ff := d.cfi k 0x08 15 0
  let x := { x with y2 := x.y1, y1 := y, f2 := x.f1, f1 := yf }
  let x := if x.entered % 4 ≠ 0 then { x with yfPrev := yf } else x
  let x := if x.entered % 4 = 2 then { x with i := ((x.held : Int) - ff) * 65536, d := 0 } else x
  let x := if 4 ≤ x.entered then { x with rw := yf * 256 } else x
  let t := x.target * 256
  let rw := if x.rate = 0 then t else toward x.rw t (x.rate : Nat)
  let e := rw / 256 - yf
  let dr := d.cfi k 0x08 63 32 * (x.yfPrev - yf)
  let dd := x.d + (dr - x.d) / (2 ^ d.cf k 0x08 19 16 : Nat)
  let v := (d.cfi k 0x00 31 0 * e + x.i + dd + ff * 65536 + 32768) / 65536
  let umax : Int := (d.cf k 0x20 31 16 : Nat)
  let umin : Int := (d.cf k 0x20 15 0 : Nat)
  let hi : Bool := umax < v
  let lo : Bool := v < umin
  let u := (if hi then umax else if lo then umin else v).toNat
  let st := d.loopState k
  let d := d.putLoop k { x with rw := rw, d := dd, yfPrev := yf, u := if st = 3 then x.held else u, entered := 0 }
  let d := d.wr (R.LOOP_Sk_FEEDBACK k) (enc 16 yf * 65536 + enc 16 y)
  let d := d.wr (R.LOOP_Sk_WORKING k) (enc 24 rw)
  let d := d.putB (F.LOOP_Sk_STATUS.ramp_done k) (rw = t)
  (d.putB (F.LOOP_Sk_STATUS.sat_high k) hi).putB (F.LOOP_Sk_STATUS.sat_low k) lo

/-- The members of the slot's min-select group; the slot alone where it belongs to none (R311). -/
def Dev.groupOf (d : Dev) (k : Nat) : List Nat :=
  let g := (d.loopC k).group
  if g = 0xFF then [k] else (d.cfg.loops.filter fun l => l.group = g).map LoopT.slot

/-- RUN, HOLD or STANDBY. -/
def Dev.participates (d : Dev) (k : Nat) : Bool := 2 ≤ d.loopState k && d.loopState k ≤ 4

/-- The least of a list, 0 for none. -/
def least (l : List Nat) : Nat := match l with | [] => 0 | x :: xs => xs.foldl min x

/-- The lowest demand and, among those who present it, the lowest slot (R311). -/
def Dev.winner (d : Dev) (ms : List Nat) : Option (Nat × Nat) :=
  let l := ms.filter d.participates
  let u := least (l.map fun k => (d.loopS k).u)
  (l.filter fun k => (d.loopS k).u = u).foldl
    (fun b k => match b with | none => some (k, u) | some (j, _) => if k < j then some (k, u) else b) none

/-- The safe value a fuser cut drives an output to (R313): the lowest among its slots of kinds 1 and 2. -/
def Dev.cutValue (d : Dev) (o : Nat) : Nat :=
  least ((d.cfg.loops.filter fun l => l.output = o && (l.kind = 1 || l.kind = 2)).map LoopT.safeValue)

/-- An output with a FORCED slot (R313). -/
def Dev.outForced (d : Dev) (o : Nat) : Bool :=
  d.cfg.loops.any fun l => l.output = o && d.loopState l.slot = 5

/-- The applied value of a group (R311, R313). -/
def Dev.applied (d : Dev) (o : Nat) (ms : List Nat) : Nat :=
  if d.outForced o then d.cutValue o
  else match d.winner ms with
  | some (_, u) => u
  | none => least ((ms.filter fun k => d.loopState k = 1).map fun k => (d.loopC k).safeValue)

/-- The band and saturation checks of one sample (R317, R318). -/
def Dev.loopBand (d : Dev) (k : Nat) : Dev :=
  let x := d.loopS k
  let yf := sext 16 (d.get (F.LOOP_Sk_FEEDBACK.yf k))
  let band := d.cf k 0x28 47 32
  let err := (yf - x.target).natAbs
  let run : Bool := d.loopState k = 2
  let n := if run && d.on (F.LOOP_Sk_STATUS.ramp_done k) && err ≤ band then x.inBandN + 1 else 0
  let d := d.modLoop k fun x => { x with inBandN := n }
  let was := d.on (F.LOOP_Sk_STATUS.in_band k)
  let d := if !was && max 1 (d.cf k 0x28 63 48) ≤ n then
      let d := (d.put (F.LOOP_Sk_STATUS.in_band k) 1).loopFlag k 1
      -- fuser_ready of SYS_READY has risen (R34, R440)
      if (d.loopC k).kind = 1 && (d.loopC k).ready
          && d.cfg.loops.all (fun l => !(l.ready && l.kind = 1) || d.on (F.LOOP_Sk_STATUS.in_band l.slot)) then d.lgEvent 6 else d
    else if was && (2 * band < err || !run) then d.leaveBand k else d
  let dir := if d.on (F.LOOP_Sk_STATUS.sat_high k) then 1 else if d.on (F.LOOP_Sk_STATUS.sat_low k) then 2 else 0
  let d := d.modLoop k fun x =>
    if dir = 0 || !run then { x with satSince := 0, satDir := 0, satRep := false }
    else if x.satSince = 0 || x.satDir ≠ dir then { x with satSince := d.now + 1, satDir := dir, satRep := false }
    else x
  d.loopActive

/-- The model and the plausibility check of one sample (R316); u is the applied value. -/
def Dev.loopModel (d : Dev) (k u : Nat) : Dev :=
  let x := d.loopS k
  let yf := sext 16 (d.get (F.LOOP_Sk_FEEDBACK.yf k))
  let tol := d.cf k 0x38 31 16
  let x := { x with uHist := (u :: x.uHist).take 256 }
  let x := if x.fresh then { x with yhat := yf * 2 ^ 32, uHist := List.replicate 256 u, fresh := false } else x
  if tol = 0 || d.loopState k = 3 then ((d.putLoop k x).put (F.LOOP_Sk_STATUS.implausible k) 0).loopActive
  else
    let ua : Int := (x.uHist.getD (d.cf k 0x38 47 40) u : Nat)
    let goal := d.cfi k 0x38 63 48 * 2 ^ 32 + d.cfi k 0x30 63 32 * ua * 65536
    let yh := x.yhat + openDiv 13 ((d.cf k 0x30 31 0 : Nat) * (goal - x.yhat)) (2 ^ 32)
    let res := yf * 2 ^ 32 - yh
    let out : Bool := ((tol * 2 ^ 32 : Nat) : Int) < (res.natAbs : Int)
    let per := max 1 (d.cf k 0x38 15 0)
    let on := if out then x.outN + 1 else 0
    let inn := if out then 0 else x.inN + 1
    let rep := out && per ≤ on && !x.impRep
    let d := d.putLoop k { x with yhat := yh, outN := on, inN := inn, impRep := if rep then true else if per ≤ inn then false else x.impRep }
    let d := d.wr (R.LOOP_Sk_MODEL k) (enc 16 (clampI (-32768) 32767 (openDiv 14 res (2 ^ 32))) * 65536 + enc 16 (yh / 2 ^ 32))
    let d := (d.putB (F.LOOP_Sk_STATUS.implausible k) out).loopActive
    if rep then
      ((d.loopReport 28 0x50 k (enc 16 yf) (enc 16 (yh / 2 ^ 32) * 65536 + u)).count (F.LOOP_Sk_COUNTS.implausible k)).loopFlag k 3
    else d

/-- Steps 6 to 8 of one participant (R309) once the applied value is known. -/
def Dev.loopFinish (d : Dev) (k win u : Nat) : Dev :=
  let x := d.loopS k
  let lost : Bool := k ≠ win
  let yf := sext 16 (d.get (F.LOOP_Sk_FEEDBACK.yf k))
  let di := d.cfi k 0x00 63 32 * (x.rw / 256 - yf)
  let skip : Bool := (0 < di && (d.on (F.LOOP_Sk_STATUS.sat_high k) || lost)) || (di < 0 && d.on (F.LOOP_Sk_STATUS.sat_low k))
  let d := d.putLoop k { x with i := if skip then x.i else clampI (-(2 ^ 47)) (2 ^ 47 - 1) (x.i + di) }
  let d := d.putB (F.LOOP_Sk_STATUS.loser k) lost
  let d := d.wr (R.LOOP_Sk_OUTPUT k) (u * 65536 + x.u)
  (d.loopModel k u).loopBand k

/-- P_k (R306). -/
def Dev.loopP (d : Dev) (k : Nat) : Nat := max 1 (roundDiv 125000000 (max 1 (d.loopC k).sampleHz))

/-- Finish a boundary of a group whose members have all had it (R311), and schedule the hand-over of R306. -/
def Dev.groupFinish (d : Dev) (k n : Nat) : Dev :=
  let ms := d.groupOf k
  let ps := ms.filter d.participates
  if !(ms.all fun j => (d.loopS j).sampled = n + 1 || d.loopState j = 0) then d
  else
    let c := d.loopC k
    let u := d.applied c.output ms
    let w := match d.winner ms with | some (j, _) => j | none => 0x3F
    let d := d.each ps fun d j => d.loopFinish j w u
    let d := d.each (ms.filter fun j => !d.participates j && d.loopState j ≠ 0) fun d j => d.put (F.LOOP_Sk_OUTPUT.applied j) u
    let d := if c.group < 8 then
        (d.put (F.LOOP_GRPg_STATUS.winner c.group) w).put (F.LOOP_GRPg_STATUS.applied c.group) u else d
    d.each ms fun d j => d.modLoop j fun x => { x with hand := some (n * d.loopP k + 750, u) }

/-- The number of the boundary of slot k to come (R306): the first multiple of P_k from now on that it has not had. -/
def Dev.nextBoundary (d : Dev) (k : Nat) : Nat :=
  d.multiple (d.loopP k) (d.loopS k).sampled

/-- The code slot k takes from its converter (R307): the operand, or the conversion that another slot of the same AINj has had at
this boundary. -/
def Dev.loopCode (d : Dev) (k : Nat) (code : Int) : Int :=
  let f := (d.loopC k).feedback
  match d.cfg.loops.findSome? fun l =>
      if l.feedback = f && l.slot ≠ k then (d.loopS l.slot).conv.bind fun c => if c.1 = d.now then some c.2 else none else none with
  | some c => c
  | none => clampI 0 16383 code

/-- SAMPLE_BOUNDARY (R306), in the clock of the slot's next boundary: transfer, the commands that took effect before it, the feedback, and in RUN, HOLD and
STANDBY one sample. A
slot of the image that is OFF has its boundaries too, and transfers a ready block at them (R12). -/
def Dev.loopSample (d : Dev) (k : Nat) (code : Int) : Dev :=
  if (d.loopT k).isNone || !d.evt.running then d
  else
    let n := d.nextBoundary k
    let d := ((d.advanceTo (n * d.loopP k)).modLoop k fun x => { x with sampled := n + 1 }).blockTransfer k
    if d.loopState k = 0 then d
    else
      let was := d.loopState k
      let due := (d.loopS k).due.filter fun c => c.2.2 < d.now
      let d := (d.modLoop k fun x => { x with due := x.due.filter fun c => d.now ≤ c.2.2 }).each due fun d c => d.loopAct k c
      let d := if was = 3 && d.loopState k = 3 then d.loopEnter k 1 else d
      let c := d.loopCode k code
      let d := d.modLoop k fun x => { x with conv := some (d.now, c) }
      let d := if d.participates k then d.loopDemand k (d.loopY k c) else d.put (F.LOOP_Sk_FEEDBACK.y k) (enc 16 (d.loopY k c))
      d.groupFinish k n

/-! ### Output stage (R306, R315), fuser cut (R313), saturation (R318) -/

/-- OUTPUT_HANDOVER (R306): at t_b + 750 ticks the value reaches the output stage. -/
def Dev.loopHandover (d : Dev) (k : Nat) : Dev :=
  match (d.loopS k).hand with
  | none => d
  | some (t, u) =>
    ((d.advanceTo t).modLoop k fun x => { x with hand := none }).modOut (d.loopC k).output fun x => { x with u := u }

/-- An output is driven by a slot of the image (R315). -/
def Dev.outNamed (d : Dev) (o : Nat) : Bool := d.cfg.loops.any fun l => l.output = o && d.loopState l.slot ≠ 0

/-- Load the latest applied value; released to the board pull where no slot names the output (R315). -/
def Dev.outLoad (d : Dev) (o : Nat) : Dev :=
  if !d.outNamed o || !d.domOn 0 || d.sys.cut then (d.put (F.LOOP_OUTo_VALUE.source o) 2).put (F.LOOP_OUTo_VALUE.value o) 0
  else if d.outForced o then (d.put (F.LOOP_OUTo_VALUE.source o) 1).put (F.LOOP_OUTo_VALUE.value o) (d.cutValue o)
  else (d.put (F.LOOP_OUTo_VALUE.source o) 0).put (F.LOOP_OUTo_VALUE.value o) (d.outS o).u

/-- The period of an output in ticks (R315). -/
def Dev.outTicks (d : Dev) (o : Nat) : Nat := max 1 (d.get (F.LOOP_OUTo_CFG.period_us o)) * 125

/-- OUTPUT_PERIOD_START (R315), in the clock of the output's next period: the first multiple of its period from now on that has not
started. -/
def Dev.outPeriod (d : Dev) (o : Nat) : Dev :=
  if !d.evt.running then d
  else
    let n := d.multiple (d.outTicks o) (d.outS o).ran
    ((d.advanceTo (n * d.outTicks o)).modOut o fun x => { x with ran := n + 1 }).outLoad o

/-- Ticks for which an output stays high in one period (R315); frozen outputs keep their value (R396). -/
def Dev.outHigh (d : Dev) (o : Nat) : Nat :=
  let v := match d.heldOut with
    | some h => h.lout.getD o 0
    | none => d.get (F.LOOP_OUTo_VALUE.value o)
  v * d.outTicks o / 65536

/-- The level of LOUTo at tick t of its period, or none where it is released to its board pull (R315, R396). On a fallback clock its
edges have the resolution of engine time (R77, R354). -/
def Dev.outPin (d : Dev) (o t : Nat) : Option Bool :=
  if d.released || d.get (F.LOOP_OUTo_VALUE.source o) = 2 then none else some (decide (timeCount d.timeSource t < d.outHigh o) != d.on (F.LOOP_OUTo_CFG.invert o))

/-- The fuser cut (R313): every slot of kinds 1 and 2 enters FORCED, its output goes to the cut value at once. -/
def Dev.fuserCut (d : Dev) : Dev :=
  d.each (List.range 64) fun d k =>
    if d.heaterSlot k && 1 ≤ d.loopState k && d.loopState k ≤ 4 then
      let o := (d.loopC k).output
      let d := (d.loopEnter k 5).put (F.LOOP_Sk_OUTPUT.applied k) (d.cutValue o)
      ((d.put (F.LOOP_OUTo_VALUE.source o) 1).put (F.LOOP_OUTo_VALUE.value o) (d.cutValue o)).modOut o fun x => { x with u := d.cutValue o }
    else if d.heaterSlot k && d.loopState k = 0 then d.loopReject
    else d

/-- The cut latch clears (R312, R313). -/
def Dev.fuserRelease (d : Dev) : Dev :=
  d.each (List.range 64) fun d k =>
    if d.loopState k = 5 then (if d.hostIdle then d.loopStandby k true else d.loopEnter k 1) else d

/-- SAT_TIMEOUT (R318): saturation has held for sat_timeout_ms, reported once per excursion. -/
def Dev.satTimeout (d : Dev) (k : Nat) : Dev :=
  let x := d.loopS k
  let ms := d.cf k 0x28 31 16
  if ms = 0 || x.satSince = 0 || x.satRep || d.loopState k ≠ 2 then d
  else
    let d := d.advanceTo (x.satSince - 1 + ms * 125000)
    let d := (d.modLoop k fun x => { x with satRep := true }).loopActive
    let yf := d.get (F.LOOP_Sk_FEEDBACK.yf k)
    ((d.loopReport 29 0x51 k x.satDir (enc 16 x.target * 65536 + yf)).count (F.LOOP_Sk_COUNTS.saturation k)).loopFlag k 4

/-- LOOP_OUTPUT_CFG_WRITE (R315): only while every slot that names the output is RELEASED. -/
def Dev.outCfgWrite (d : Dev) (o v : Nat) : Dev :=
  if d.cfg.loops.all fun l => l.output ≠ o || d.loopState l.slot = 1 then
    (d.put (F.LOOP_OUTo_CFG.invert o) (v / 2 ^ 31)).put (F.LOOP_OUTo_CFG.period_us o) v
  else d.loopReject

/-! ### The commands -/

/-- SAMPLE_BOUNDARY (R306): the operand is the converter's code for an AIN feedback. -/
def execSampleBoundary (k : Fin 64) (code : Int) (s : State) : Host.Outcome State Fault Refusal := s.onDev (·.loopSample k code)
/-- OUTPUT_HANDOVER (R306). -/
def execOutputHandover (k : Fin 64) (s : State) : Host.Outcome State Fault Refusal := s.onDev (·.loopHandover k)
/-- OUTPUT_PERIOD_START (R315). -/
def execOutputPeriodStart (o : Fin 16) (s : State) : Host.Outcome State Fault Refusal := s.onDev (·.outPeriod o)
/-- SAT_TIMEOUT (R318). -/
def execSatTimeout (k : Fin 64) (s : State) : Host.Outcome State Fault Refusal := s.onDev (·.satTimeout k)
/-- LOOP_CMD_ENABLE (R312). -/
def execLoopCmdEnable (k : Fin 64) (s : State) : Host.Outcome State Fault Refusal :=
  s.onDev fun d => d.agree (R.LOOP_Sk_CMD k) 0x10000000 (·.loopCmd k 1 0)
/-- LOOP_CMD_RELEASE (R312). -/
def execLoopCmdRelease (k : Fin 64) (s : State) : Host.Outcome State Fault Refusal :=
  s.onDev fun d => d.agree (R.LOOP_Sk_CMD k) 0x20000000 (·.loopCmd k 2 0)
/-- LOOP_CMD_APPLY_RECORD (R312). -/
def execLoopCmdApplyRecord (k : Fin 64) (r : Fin 8) (s : State) : Host.Outcome State Fault Refusal :=
  s.onDev fun d => d.agree (R.LOOP_Sk_CMD k) (0x30000000 + r) fun d => (d.loopRecord k r).1
/-- LOOP_SETPOINT_WRITE (R312). -/
def execLoopSetpointWrite (k : Fin 64) (v : Word32) (s : State) : Host.Outcome State Fault Refusal :=
  s.onDev fun d => d.agree (R.LOOP_Sk_SETPOINT k) v.toNat (·.loopSetpoint k v.toNat)
/-- LOOP_OUTPUT_CFG_WRITE (R315). -/
def execLoopOutputCfgWrite (o : Fin 16) (v : Word32) (s : State) : Host.Outcome State Fault Refusal :=
  s.onDev fun d => d.agree (R.LOOP_OUTo_CFG o) v.toNat (·.outCfgWrite o v.toNat)

end Sys2Proof.Machine
end

