-- ==== Sys2Proof/Machine/Entry.lean ====
section
/-! DEFINITION. Event-table entries (R83-R85, R90), the readiness summary (R34), the decision vector (R389), Tally writing
(R79-R82). -/

namespace Sys2Proof.Machine

/-! ### Entries (R83) -/

/-- Lower and upper word of entry i. -/
def Dev.entLo (d : Dev) (i : Nat) : Nat := d.tw (16 * i)
def Dev.entHi (d : Dev) (i : Nat) : Nat := d.tw (16 * i + 8)
def entArmed (h : Nat) : Bool := bit h 63
def entGated (h : Nat) : Bool := bit h 62
def entKind (h : Nat) : Nat := bits h 61 60
def entEnc (h : Nat) : Nat := bits h 59 58
def entIrq (h : Nat) : Bool := bit h 57
def entVector (h : Nat) : Nat := bits h 56 51
def entPick (h : Nat) : Bool := bit h 50
def entLateDiscard (h : Nat) : Bool := bit h 49
def entTag (h : Nat) : Nat := bits h 47 32
def entAction (h : Nat) : Nat := bits h 31 24
def entTarget (h : Nat) : Nat := bits h 23 16
def entArg (h : Nat) : Nat := bits h 15 0

/-- The armed entries, in ascending order. -/
def Dev.armedEntries (d : Dev) : List Nat :=
  (d.tbl.filter fun p => p.1 < 0x10000 && p.1 % 16 = 8 && bit p.2.toNat 63).map (·.1 / 16)

/-- The largest target of an action (R83). -/
def maxTarget (action : Nat) : Nat :=
  match action with
  | 1 => 0x1F | 2 => 0x1F | 3 => 0x1F | 4 => 0x0F | 5 => 63 | 6 => 63 | 7 => 63 | 8 => 7 | 9 => 31 | _ => 0

/-- The arming check of R85 on an entry's words: 0 where it passes, otherwise the check code, the lowest where several checks
fail (DESIGN CHOICE, see the assumption log). -/
def Dev.armCheck (d : Dev) (lo hi : Nat) : Nat :=
  if entKind hi = 0 || entKind hi = 3 then 1
  else if entKind hi = 2 && d.pinFunc 4 (entEnc hi) = 3 then 2
  else if entIrq hi && entVector hi < 20 then 3
  else if 0x0C < entAction hi then 4
  else if maxTarget (entAction hi) < entTarget hi then 5
  else if entKind hi = 2 && bits lo 63 48 ≠ 0 then 6
  else if 0x0B ≤ entAction hi && entArg hi < 4096 && entGated (d.entHi (entArg hi)) then 7
  else if 0x0B ≤ entAction hi && 4096 ≤ entArg hi then 8
  else 0

/-- Arming refused (R85): kind 0x03 record, status, bit 22. The record stands among firings and discards, keyed by the present
time, with sheet_tag 0 (DESIGN CHOICES, see the assumption log). -/
def Dev.armRefused (d : Dev) (i code : Nat) : Dev :=
  ((d.tally ⟨3, d.now, 0, i, 3, 0, 0, i, code, d.now⟩).evtFlag 2).report 22 (0x04 <<< 24 + i) code

/-- Arm entry i, from the next slot (R80). -/
def Dev.armEntry (d : Dev) (i : Nat) : Dev :=
  let h := d.entHi i
  if entArmed h then d
  else
    let d := (d.putTw (16 * i + 8) (h + 2 ^ 63)).countW F.EVT_ARMED_COUNT.count
    { d with evt := { d.evt with newArm := d.evt.newArm ++ [(i, d.slot)] } }

/-- Clear the armed bit of entry i: it cannot fire any more. -/
def Dev.clearArmed (d : Dev) (i : Nat) : Dev :=
  let h := d.entHi i
  if entArmed h then
    let d := (d.putTw (16 * i + 8) (h - 2 ^ 63)).put F.EVT_ARMED_COUNT.count (d.get F.EVT_ARMED_COUNT.count - 1)
    { d with evt := { d.evt with newArm := d.evt.newArm.filter (·.1 ≠ i), armFor := Store.set 0 d.evt.armFor i 0 } }
  else d

/-- Disarm entry i (R80): it still fires in this slot when it was armed at the slot's start. -/
def Dev.disarmEntry (d : Dev) (i : Nat) : Dev :=
  if entArmed (d.entHi i) && !d.evt.newArm.contains (i, d.slot) then
    let was := (i, d.slot, d.entLo i, d.entHi i)
    let d := d.clearArmed i
    { d with evt := { d.evt with newDis := was :: d.evt.newDis } }
  else d.clearArmed i

/-! ### Readiness (R34) -/

/-- The channel is ready: on, synthesizer locked, port ACTIVE or DMO, polygon in phase, and its permit closable (R34, R252). -/
def Dev.chanReady (d : Dev) (n : Nat) : Bool :=
  d.domOn (4 + n) && d.on (F.CHn_PXS_STATUS.locked n) && (d.blMode n = 2 || d.port n = 5) && d.get (F.CHn_SCT_STATUS.state n) = 3
    && d.on (F.CHn_FGT_STATUS.closable n)

/-- Every LOOPT slot with the ready flag of a set of kinds is in band. -/
def Dev.loopsReady (d : Dev) (kinds : List Nat) : Bool :=
  d.cfg.loops.all fun l => !(l.ready && kinds.contains l.kind) || d.on (F.LOOP_Sk_STATUS.in_band l.slot)

/-- Every axis of role 2 or 3 has a target and is at speed (R270). -/
def Dev.processReady (d : Dev) : Bool :=
  d.cfg.axes.all fun c => !(c.axis < 16 && (c.role = 2 || c.role = 3)) ||
    ((d.bldS c.axis).target ≠ 0 && d.on (F.BLD_AXa_STATUS.at_speed c.axis))

/-- ring_ready: trained and forwarding; 1 where the image declares host memory as the only source (R34). -/
def Dev.ringReady (d : Dev) : Bool :=
  d.role.dataSource = 1 || (d.get F.RNG_LANE_STATUS.rx_state = 4 && d.get F.RNG_LANE_STATUS.tx_state = 4)

/-- SYS_READY as the units stand (R34): bits 5 to 15 and chan_ready; engine_ready is their AND over the channels in use; in
Personality C without ring_ready (R432). -/
def Dev.sysReady (d : Dev) : Nat :=
  let b := [(5, d.get F.FRD_STATUS.state = 5 || d.persC),
    (6, bit (d.get F.CLK_STATUS.locked) 0 && !d.on F.CLK_STATUS.core_fb),
    (7, bit (d.get F.CLK_STATUS.locked) 1),
    (8, d.on F.MEM_STATUS.trained && d.on F.MEM_STATUS.initialised && d.on F.MEM_STATUS.scrubbed),
    (9, d.ringReady),
    (10, d.flt.opens.all fun r => r.conseq || r.cls < 3),
    (11, d.get F.TMP_THROTTLE.sensors = 0 && d.get F.TMP_FAULTED.sensors = 0),
    (12, d.processReady), (13, d.loopsReady [3, 4, 5]), (14, d.loopsReady [1]),
    (15, !d.twin || (d.get F.TWN_TOKEN_STATE.named ≠ 0 && d.on F.TWN_TOKEN_STATE.agree))]
  let low := b.foldl (fun n p => if p.2 then n + 2 ^ p.1 else n) 0
  let ch := (List.range 8).foldl (fun n k => if d.chanReady k then n + 2 ^ (16 + k) else n) 0
  let all := b.all (fun p => p.2 || (d.persC && p.1 = 9)) && d.chansInUse.all d.chanReady
  low + ch + (if all then 2 ^ 31 else 0)

/-! ### Residency and the decision vector (R106, R389) -/

/-- State of a descriptor (R102): 0 FREE, 1 LOADING, 2 ADMITTED, 3 PICKED, 4 DONE, 5 CANCELLED. -/
def Dev.shtState (d : Dev) (k : Nat) : Nat := d.get (F.SHT_Dd_STATE.state k)
/-- The channels of a sheet. -/
def Dev.sheetChans (d : Dev) (k : Nat) : List Nat :=
  (List.range 8).filter fun n => bit (d.get (F.SHT_Dd_HEAD.chan_mask k)) n

/-- The first channel that is short of data (R106 step 9), lowest first. -/
def Dev.shortChan (d : Dev) (k : Nat) : Option Nat :=
  let lines := d.get (F.SHT_Dd_LINES.input_lines k)
  (d.sheetChans k).find? fun n =>
    let f := d.get (F.SHT_Dd_FILLn.lines k n)
    if d.get (F.SHT_Dd_HEAD.rule k) = 0 then f ≠ lines else f < d.get (F.SHT_Dd_LINES.lead_lines k)

/-- BEAT unit 4 as this member stands (R383). -/
def Dev.vec4 (d : Dev) : Nat :=
  d.sysReady * 2 ^ 32 + (List.range 32).foldl (fun n k => if (d.shortChan k).isNone then n + 2 ^ k else n) 0

/-- BEAT unit 5 as this member stands (R383). -/
def Dev.vec5 (d : Dev) : Nat :=
  b2n (d.on F.PWR_STATUS.pfail_active) <<< 7 + b2n (d.on F.FLT_STATUS.admissions_held) <<< 6 + d.get F.SYS_HOST_STATE.state

/-- The vector in force (R389): in LOCKSTEP or ALONE the last one sent agree_us ago by the Token holder; this member's own
otherwise. -/
def Dev.vector (d : Dev) : Nat × Nat :=
  if d.twin && (d.get F.TWN_STATUS.state = 3 || d.get F.TWN_STATUS.state = 4) then
    match d.twn.vecs.find? fun v => v.held && v.at_ + d.agreeTicks ≤ d.now with
    | some v => (v.v4, v.v5)
    | none => (d.vec4, d.vec5)
  else (d.vec4, d.vec5)

/-- SYS_READY for a decision. -/
def Dev.decReady (d : Dev) : Nat := d.vector.1 / 2 ^ 32

/-! ### The Tally (R79-R82) -/

/-- Give a record its ESN and write its four words into the Tally window. -/
def Dev.writeRec (d : Dev) (r : SlotRec) : Dev :=
  let e := d.rd R.EVT_ESN
  let k := 4 * (e % 1024)
  let d := if bits (d.rd (R.EVT_TALLY k)) 39 32 ≠ 0 then d.count F.EVT_TALLY_LOST.count else d
  let d := d.wr (R.EVT_TALLY k) (r.tag % 65536 * 2 ^ 48 + r.src % 256 * 2 ^ 40 + r.kind % 256 * 2 ^ 32 + e)
  let d := d.wr (R.EVT_TALLY (k + 1)) r.time
  let d := d.wr (R.EVT_TALLY (k + 2)) (r.d1 % 2 ^ 32 * 2 ^ 32 + r.d0 % 2 ^ 32)
  let d := d.wr (R.EVT_TALLY (k + 3)) (e * 2 ^ 32)
  d.wr R.EVT_ESN (e + 1)

/-- The order of R80 within a slot: class, then the keys of the class. -/
def SlotRec.before (a b : SlotRec) : Bool :=
  if a.cls ≠ b.cls then a.cls < b.cls
  else if a.k1 ≠ b.k1 then a.k1 < b.k1
  else if a.k2 ≠ b.k2 then a.k2 < b.k2
  else a.k3 ≤ b.k3

/-- Insert into a sorted list, after its equals. -/
def insertBy {α : Type} (le : α → α → Bool) (x : α) : List α → List α
  | [] => [x]
  | y :: ys => if le y x then y :: insertBy le x ys else x :: y :: ys

/-- Stable insertion sort. -/
def sortBy {α : Type} (le : α → α → Bool) (l : List α) : List α := l.foldl (fun s x => insertBy le x s) []

/-- The records of the slots before slot k take their ESNs, slot by slot in the order of R80. -/
def Dev.flushBefore (d : Dev) (k : Nat) : Dev :=
  let rs := sortBy (fun a b => if a.1 ≠ b.1 then a.1 < b.1 else a.2.before b.2) (d.evt.recs.filter (·.1 < k))
  ({ d with evt := { d.evt with recs := d.evt.recs.filter fun r => !(r.1 < k) } } : Dev).each rs fun d r => d.writeRec r.2

/-- Every record that waits takes its ESN. -/
def Dev.flushRecs (d : Dev) : Dev := d.flushBefore (d.evt.recs.foldl (fun m r => max m (r.1 + 1)) 0)

end Sys2Proof.Machine
end

