-- ==== Sys2Proof/Machine/Sheets.lean ====
section
/-! DEFINITION. Sheets and admission (R102-R122), the plane layout (R161, R162), the host states that follow the sheets (R72,
R73). -/

namespace Sys2Proof.Machine

/-! ### Planes (R161, R162) -/

/-- P: pixels per input line of a channel. -/
def planeP (c : Chan) : Nat :=
  if c.inputFormat = 0 then (c.pixels + 3) / 4 else if c.inputFormat = 1 then (c.pixels + 1) / 2 else c.pixels

/-- Bits per pixel of pre-screened input; 0 for contone. -/
def planeBits (c : Chan) : Nat :=
  match c.inputFormat with | 2 => 1 | 3 => 2 | 4 => 4 | _ => 0

/-- The least multiple of 64 that is at least x. -/
def roundup64 (x : Nat) : Nat := (x + 63) / 64 * 64

/-- Stride of a data plane, or of the tag plane. -/
def stride (c : Chan) (tag : Bool) : Nat :=
  if tag then roundup64 ((planeP c + 3) / 4)
  else if planeBits c = 0 then roundup64 (planeP c) else planeBits c * roundup64 ((planeP c + 7) / 8)

/-- The used region that holds a base: its base and size. -/
def Dev.regionOf (d : Dev) (base : Nat) : Option (Nat × Nat) :=
  ((List.range 16).map fun r => (d.rd (R.DMA_REGr_BASE r), d.rd (R.DMA_REGr_SIZE r))).find? fun r =>
    r.2 ≠ 0 && r.1 ≤ base && base < r.1 + r.2

/-- The end of the memory a plane may use: in Twin grade the last 8 MiB are the staging area (R399). -/
def Dev.planeEnd (d : Dev) : Nat := if d.twin then 2 ^ 30 - 2 ^ 23 else 2 ^ 30

/-- A plane is aligned, fits its region where it has one, and its bytes lie inside user memory (R104, R162). -/
def Dev.planeOk (d : Dev) (base len : Nat) : Bool :=
  base % 4096 = 0 && (match d.regionOf base with
    | some (b, sz) => len ≤ sz && min (base + len) (b + sz) ≤ d.planeEnd
    | none => base + len ≤ d.planeEnd)

/-- The user-memory address of byte k of a plane at `base` (R162). -/
def Dev.planeAddr (d : Dev) (base k : Nat) : Nat :=
  match d.regionOf base with
  | some (b, sz) => b + (base - b + k) % sz
  | none => base + k

/-! ### Host state (R72, R73) -/

/-- Apply R72: permits, axes, loops; the DMA engine grants no queue (R174). -/
def Dev.enterIdle (d : Dev) : Dev :=
  let d := d.gateAll
  let d := d.each (List.range 16) Dev.bldIdle
  let d := d.each (List.range 16) Dev.stpIdle
  d.each (List.range 64) Dev.loopIdle

/-- SAFE_IDLE or ORPHAN_HOLD begins: the queue in RUN leaves it after what is in service (R174). -/
def Dev.dmaHold (d : Dev) : Dev :=
  match (List.range 16).find? fun q => d.get (F.DMA_Qq_STATUS.state q) = 3 with
  | none => d
  | some q => { d with dmaq := Store.set {} d.dmaq q { (Store.get {} d.dmaq q) with hold := true } }

/-- Set the host state (0 NORMAL, 1 DRAIN_ORPHAN, 2 ORPHAN_HOLD, 3 DRAIN_RESET, 4 SAFE_IDLE); the two that hold the engine apply
R72. -/
def Dev.setHost (d : Dev) (st : Nat) : Dev :=
  let d := d.put F.SYS_HOST_STATE.state st
  if st = 4 || st = 2 then d.enterIdle.dmaHold else d.gateAll

/-- in_flight counts the descriptors that are ADMITTED or PICKED (R115). -/
def Dev.countFlight (d : Dev) : Dev :=
  d.put F.SYS_HOST_STATE.in_flight ((List.range 32).filter fun k => d.shtState k = 2 || d.shtState k = 3).length

/-- DRAIN_RESET with no sheet past its pick is over. -/
def Dev.drainEnd (d : Dev) : Dev :=
  if d.get F.SYS_HOST_STATE.state = 3 && (List.range 32).all (fun k => d.shtState k ≠ 3) then d.setHost 4 else d

/-- A sheet has left ADMITTED, or PICKED where it is `done`: the host state that waited for it follows (R73). -/
def Dev.drain (d : Dev) (done : Bool) : Dev :=
  let d := d.countFlight
  if d.get F.SYS_HOST_STATE.state = 1 && d.get F.SYS_HOST_STATE.in_flight = 0 then d.setHost 2
  else if done then d.drainEnd
  else d

/-! ### Descriptors -/

def Dev.shtEnter (d : Dev) (k st : Nat) : Dev :=
  (d.put (F.SHT_Dd_STATE.state k) st).putBit F.SHT_ACTIVE.busy k (st ≠ 0)

/-- sheet_tag of a descriptor. -/
def Dev.tagOf (d : Dev) (k : Nat) : Nat := d.get (F.SHT_Dd_HEAD.sheet_tag k)

/-- The descriptor that is not FREE and holds a tag. -/
def Dev.descOf (d : Dev) (tag : Nat) : Option Nat :=
  if tag = 0 then none else (List.range 32).find? fun k => d.shtState k ≠ 0 && d.tagOf k = tag

/-- The arming list: (position, entry index) of each valid ARMk. -/
def Dev.armList (d : Dev) (k : Nat) : List (Nat × Nat) :=
  ((List.range 16).filter fun j => d.on (F.SHT_Dd_ARMk.valid k j)).map fun j => (j, d.get (F.SHT_Dd_ARMk.index k j))

/-- An entry stands on the arming list of a descriptor. -/
def Dev.listed (d : Dev) (k i : Nat) : Bool := (d.armList k).any fun e => e.2 = i

/-- detail0 of a milestone (R121). -/
def msDetail (cause ch k : Nat) : Nat := cause <<< 24 + ch <<< 16 + k

/-- A record under bit 21 with the details of a milestone (R490). -/
def Dev.shtReport (d : Dev) (cause ch k d1 : Nat) : Dev := d.report 21 (msDetail cause ch k) d1

/-- Store the first cancel or spoil cause. -/
def Dev.firstCause (d : Dev) (k cause : Nat) : Dev :=
  if d.get (F.SHT_Dd_STATE.cause k) = 0 then d.put (F.SHT_Dd_STATE.cause k) cause else d

/-- Spoil a sheet (R114): the first cause stays; every cause makes its milestone and its record (R119). -/
def Dev.spoil (d : Dev) (k cause ch d1 : Nat) : Dev :=
  let was := d.on (F.SHT_Dd_STATE.spoiled k)
  let d := (d.firstCause k cause).put (F.SHT_Dd_STATE.spoiled k) 1
  let d := if was then d else d.count F.SHT_SPOILED.count
  ((d.milestone 0x08 (d.tagOf k) cause ch k d1).shtReport cause ch k d1).shtFlag 5

/-! ### Arming and passing on (R107) -/

/-- Arm an entry for a descriptor: trigger and tag are written, every other bit stays. The arming check decides. -/
def Dev.armFor (d : Dev) (k j i : Nat) : Dev × Bool :=
  let lo := d.rd (R.SHT_Dd_TRIGk k j)
  let hi := putBits (d.entHi i) 47 32 (d.tagOf k)
  let code := d.armCheck lo hi
  if code ≠ 0 then (d.armRefused i code, false)
  else
    let d := ((d.putTw (16 * i) lo).putTw (16 * i + 8) hi).armEntry i
    ({ d with evt := { d.evt with armFor := Store.set 0 d.evt.armFor i (k + 1) } }, true)

/-- The place of an entry on an arming list. -/
def Dev.armPos (d : Dev) (k i : Nat) : Nat := (((d.armList k).find? fun e => e.2 = i).map (·.1)).getD 0

/-- An arming of entry i has ended: arm it for the oldest sheet that is pending on it; the sheets whose deferred arming fails
lose it (R107). -/
def Dev.passOn : Nat → Dev → Nat → Dev × List (Nat × Nat)
  | 0, d, _ => (d, [])
  | n + 1, d, i =>
    match d.evt.pend.find? fun p => p.1 = i with
    | none => (d, [])
    | some (_, k) =>
      let d := { d with evt := { d.evt with pend := d.evt.pend.erase (i, k) } }
      let (d, ok) := d.armFor k (d.armPos k i) i
      if ok then (d, [])
      else
        let (d, l) := Dev.passOn n d i
        (d, (k, i) :: l)

/-- Withdraw a descriptor's pending armings, disarm its armed entries and pass them on. -/
def Dev.withdraw (d : Dev) (k : Nat) : Dev × List (Nat × Nat) :=
  let d := { d with evt := { d.evt with pend := d.evt.pend.filter fun p => p.2 ≠ k } }
  let mine := (d.armList k).map (·.2) |>.filter fun i => entArmed (d.entHi i) && Store.get 0 d.evt.armFor i = k + 1
  mine.foldl (fun (d, l) i =>
    let (d, l') := Dev.passOn 33 (d.disarmEntry i) i
    (d, l ++ l')) (d, [])

/-- Leave a command's outcome in SHT_RESULT and set cmd_done (R116). -/
def Dev.shtResult (d : Dev) (res cause ch k : Nat) : Dev :=
  (d.wr R.SHT_RESULT (res <<< 24 + cause <<< 16 + ch <<< 8 + k)).shtFlag 0

/-- RELEASE (R116): the descriptor is FREE; its record of the sheet stays to be read until the next OPEN. -/
def Dev.shtRelease (d : Dev) (k : Nat) : Dev :=
  if d.shtState k = 4 || d.shtState k = 5 then
    let d := d.milestone 0x0A (d.tagOf k) 0 0xFF k 0
    (d.shtEnter k 0).shtResult 0 0 0xFF k
  else d.shtResult 2 0 0xFF k

/-- A sheet of Personality C is over: its descriptor is FREE again (R444). -/
def Dev.lgOver (d : Dev) (k : Nat) : Dev :=
  if d.persC then ({ d with lg := { d.lg with queue := d.lg.queue.filter (· ≠ k) } } : Dev).shtRelease k else d

/-- Cancel a sheet (R117): cause, milestone, its entries passed on; the answer names the sheets that lost an entry. -/
def Dev.cancelOne (d : Dev) (k cause d1 : Nat) : Dev × List (Nat × Nat) :=
  let d := (d.firstCause k cause).shtEnter k 5
  let d := (d.wr (R.SHT_Dd_DONE_TIME k) d.now).count F.SHT_CANCELLED.count
  let d := (d.milestone 0x04 (d.tagOf k) cause 0xFF k d1).shtFlag 4
  let (d, lost) := d.withdraw k
  ((d.drain false).lgOver k, lost)

/-- What becomes of sheets that lost a listed entry (R117): before the pick cancelled with cause 0x23, after it spoiled with
cause 0x4C. -/
def Dev.settle : Nat → Dev → List (Nat × Nat) → Dev
  | 0, d, _ => d
  | _, d, [] => d
  | n + 1, d, (k, i) :: w =>
    if d.shtState k = 2 then
      let (d, lost) := d.cancelOne k 0x23 i
      Dev.settle n d (w ++ lost)
    else if d.shtState k = 3 then Dev.settle n (d.spoil k 0x4C 0xFF i) w
    else Dev.settle n d w

/-- Cancel a sheet and settle what follows. -/
def Dev.cancel (d : Dev) (k cause d1 : Nat) : Dev :=
  let (d, lost) := d.cancelOne k cause d1
  Dev.settle 600 d lost

/-- Pass an entry on and settle what follows. -/
def Dev.passOnAll (d : Dev) (i : Nat) : Dev :=
  let (d, lost) := Dev.passOn 33 d i
  Dev.settle 600 d lost

/-- A PICKED sheet has dropped CHn: its permit is low for the rest of that sheet (R113). -/
def Dev.holdsDrop (d : Dev) (n : Nat) : Bool :=
  (List.range 32).any fun j => d.shtState j = 3 && bit (d.get (F.SHT_Dd_STATE.dropped j)) n

/-- CHn stays dropped as a sheet completes: it has still to run out the scans of a sheet, or another PICKED sheet has dropped it
(R113). -/
def Dev.stillDropped (d : Dev) (n : Nat) : Bool := (d.chS n).dropped && ((d.chS n).desc.isSome || d.holdsDrop n)

/-- Complete a PICKED sheet (R115). -/
def Dev.complete (d : Dev) (k : Nat) : Dev :=
  let d := (d.shtEnter k 4).wr (R.SHT_Dd_DONE_TIME k) d.now
  let (d, lost) := d.withdraw k
  let d := (d.milestone 0x09 (d.tagOf k) 0 0xFF k 0).shtFlag 6
  let d := d.each (d.sheetChans k) fun d n => (d.modCh n fun c => { c with dropped := d.stillDropped n }).gate n
  ((Dev.settle 600 (d.drain true) lost).lgEvent 4).lgOver k

/-- Complete it when every channel has ended and EXIT has fired; Personality C writes EXIT itself (R444). -/
def Dev.tryComplete (d : Dev) (k : Nat) : Dev :=
  let d := if d.persC && d.shtState k = 3 && !d.on (F.SHT_Dd_STATE.exit_seen k)
      && (d.sheetChans k).all (fun n => bit (d.get (F.SHT_Dd_CHAN.ended k)) n) then
      (d.milestone 0x10 (d.tagOf k) 0 0xFF k 0).put (F.SHT_Dd_STATE.exit_seen k) 1 else d
  if d.shtState k = 3 && d.on (F.SHT_Dd_STATE.exit_seen k)
      && (d.sheetChans k).all (fun n => bit (d.get (F.SHT_Dd_CHAN.ended k)) n) then d.complete k else d

/-- CHn ends a sheet (R113): ended bit, CHANNEL_END milestone. -/
def Dev.chanEnd (d : Dev) (k n : Nat) : Dev :=
  let pl := if (d.chS n).desc = some k then (d.chS n).placed else 0
  ((d.putBit (F.SHT_Dd_CHAN.ended k) n true).milestone 0x07 (d.tagOf k) 0 n k pl).lgStation n 0

/-- Whether the tables are locked now (R203): until CHANNEL_END and the digest; never those of a pre-screened channel (R196). -/
def Dev.scrLock (d : Dev) (n : Nat) (imaging : Bool) : Dev :=
  d.putB (F.CHn_SCR_STATUS.locked n) ((imaging || (d.chS n).digestDue) && ((d.chan n).map planeBits).getD 0 = 0)

/-- Drop CHn from a PICKED sheet (R113): it ends in the clock of the drop and holds its permit low for the rest of the sheet. -/
def Dev.dropChan (d : Dev) (k n : Nat) : Dev :=
  if d.shtState k ≠ 3 || !(d.sheetChans k).contains n || bit (d.get (F.SHT_Dd_CHAN.ended k)) n then d
  else
    let d := (d.putBit (F.SHT_Dd_STATE.dropped k) n true).chanEnd k n
    -- a permit request of 0 that waits for CHANNEL_END acts now (R252)
    let d := if (d.chS n).desc = some k && (d.chS n).reqEnd then
        (d.put (F.CHn_FGT_CTRL.permit_req n) 0).modCh n fun c => { c with reqEnd := false } else d
    if (d.chS n).desc = some k || (d.chS n).desc = none then ((d.modCh n fun c => { c with dropped := true }).scrLock n false).gate n else d

/-- Drop CHn from every PICKED sheet it belongs to and has not ended, spoiling each (R119); then sheets may complete. -/
def Dev.dropFromSheets (d : Dev) (n cause d1 : Nat) : Dev :=
  let ks := (List.range 32).filter fun k =>
    d.shtState k = 3 && (d.sheetChans k).contains n && !bit (d.get (F.SHT_Dd_CHAN.ended k)) n
  d.each ks fun d k => ((d.spoil k cause n d1).dropChan k n).tryComplete k

/-- Spoil every PICKED sheet (R119). -/
def Dev.spoilPicked (d : Dev) (cause d1 : Nat) : Dev :=
  d.each ((List.range 32).filter fun k => d.shtState k = 3) fun d k => d.spoil k cause 0xFF d1

/-- An engine stop or the timed shut-down on the sheets (R117, R119): ADMITTED sheets are cancelled with the cause when
`cancelToo`; PICKED ones spoiled, every channel dropped, completed at once. -/
def Dev.stopSheets (d : Dev) (cause d1 : Nat) (cancelToo : Bool) : Dev :=
  let d := if cancelToo then
      d.each ((List.range 32).filter fun k => d.shtState k = 2) fun d k => if d.shtState k = 2 then d.cancel k cause d1 else d
    else d
  d.each ((List.range 32).filter fun k => d.shtState k = 3) fun d k =>
    let d := d.spoil k cause 0xFF d1
    (d.each (d.sheetChans k) fun d n => d.dropChan k n).complete k

/-! ### Credits (R105) -/

/-- A credit of `count` lines from line `first` of a channel to the sheet that holds `tag`. Answers whether it was applied. -/
def Dev.credit (d : Dev) (tag n first cnt : Nat) : Dev × Bool :=
  let bad := fun (d : Dev) =>
    (((d.count F.SHT_CREDIT_ERR.count).shtFlag 7).report 21 (0xF0 <<< 24 + n <<< 16 + tag) (first <<< 16 + cnt), false)
  match d.descOf tag with
  | none => bad d
  | some k =>
    let st := d.shtState k
    let f := d.get (F.SHT_Dd_FILLn.lines k n)
    if 1 ≤ st && st ≤ 3 && n < 8 && first = f && first + cnt ≤ d.get (F.SHT_Dd_LINES.input_lines k) then
      (d.put (F.SHT_Dd_FILLn.lines k n) (f + cnt), true)
    else bad d

/-! ### Commands (R104, R106, R116) -/

/-- What is wrong with a plane of channel n of a descriptor (R104, cause 0x13). -/
def Dev.planeBad (d : Dev) (k n : Nat) : Bool :=
  match d.chan n with
  | none => true
  | some c =>
    let lines := d.get (F.SHT_Dd_LINES.input_lines k)
    let tb := d.rd (R.SHT_Dd_TAGBASEn k n)
    !d.planeOk (d.rd (R.SHT_Dd_BASEn k n)) (stride c false * lines) ||
      (if c.tagPlane = 1 then !d.planeOk tb (stride c true * lines) else tb ≠ 0)

/-- An arming list is empty, repeats an index or names an entry that is not gated (R104, cause 0x14): the index. -/
def Dev.armListBad (d : Dev) (k : Nat) : Option Nat :=
  let l := (d.armList k).map (·.2)
  if l.isEmpty then some 0
  else l.find? fun i => 2 ≤ l.count i || !entGated (d.entHi i)

/-- The checks of OPEN in their order (R104): cause, channel. -/
def Dev.openCheck (d : Dev) (k : Nat) : Option (Nat × Nat) :=
  let tag := d.tagOf k
  let mask := d.sheetChans k
  let rule := d.get (F.SHT_Dd_HEAD.rule k)
  let lines := d.get (F.SHT_Dd_LINES.input_lines k)
  let lead := d.get (F.SHT_Dd_LINES.lead_lines k)
  if tag = 0 || (d.descOf tag).isSome then some (0x10, 0xFF)
  else if mask.isEmpty || mask.any (fun n => (d.chan n).isNone) then some (0x11, 0xFF)
  else if 2 ≤ rule || !bit d.role.admissionRules rule then some (0x05, 0xFF)
  else if lines = 0 || d.get (F.SHT_Dd_RUNOUT.runout_ms k) = 0 || (rule = 1 && (lead = 0 || lines < lead)) then some (0x12, 0xFF)
  else match mask.find? (d.planeBad k) with
  | some n => some (0x13, n)
  | none => (d.armListBad k).map fun _ => (0x14, 0xFF)

/-- OPEN (R104). -/
def Dev.shtOpen (d : Dev) (k : Nat) : Dev :=
  if d.shtState k ≠ 0 then d.shtResult 2 0 0xFF k
  else match d.openCheck k with
  | some (cause, ch) => d.shtResult 1 cause ch k
  | none =>
    let d := (((d.wr (R.SHT_Dd_STATE k) 0).wr (R.SHT_Dd_CHAN k) 0).wr (R.SHT_Dd_PICK_TIME k) 0).wr (R.SHT_Dd_DONE_TIME k) 0
    let d := d.each (List.range 8) fun d n =>
      let d := (d.wr (R.SHT_Dd_FILLn k n) 0).wr (R.SHT_Dd_PROGn k n) 0
      { d with sht := { d.sht with freed := Store.set 0 d.sht.freed (8 * k + n) 0 } }
    let d := { d with sht := { d.sht with seq := Store.set 0 d.sht.seq k d.sht.next, next := d.sht.next + 1 } }
    ((d.shtEnter k 1).milestone 0x01 (d.tagOf k) 0 0xFF k 0).shtResult 0 0 0xFF k

/-- The lowest source whose open record holds admissions stopped (R369 bit 2). -/
def Dev.holdSource (d : Dev) : Nat :=
  ((List.range 42).find? fun i => d.on (F.FLT_SRCi_STATE.holds_admission i)).getD 0

/-- Number of listed IMAGE_START entries that target channel n. -/
def Dev.startsFor (d : Dev) (k n : Nat) : Nat :=
  ((d.armList k).filter fun e => entAction (d.entHi e.2) = 8 && entTarget (d.entHi e.2) = n).length

/-- The first listed entry that fails its arming check: index and code (R106 step 8). -/
def Dev.listCheck (d : Dev) (k : Nat) : Option (Nat × Nat) :=
  (d.armList k).findSome? fun (j, i) =>
    let c := d.armCheck (d.rd (R.SHT_Dd_TRIGk k j)) (d.entHi i)
    if c = 0 then none else some (i, c)

/-- Checks 2 to 9 of ADMIT (R106), in their order: cause, channel, detail1. Steps 2 to 5 and 9 take the vector in force (R389). -/
def Dev.admitCheck (d : Dev) (k : Nat) : Option (Nat × Nat × Nat) :=
  let (v4, v5) := d.vector
  let rdy := v4 / 2 ^ 32
  let picks := ((d.armList k).filter fun e => entPick (d.entHi e.2)).length
  let chBad := (List.range 8).find? fun n => d.startsFor k n ≠ (if (d.sheetChans k).contains n then 1 else 0)
  if v5 % 8 ≠ 0 then some (0x02, 0xFF, v5 % 8)
  else if !bit rdy 31 then some (0x01, 0xFF, rdy)
  else if bit v5 6 then some (0x03, 0xFF, d.holdSource)
  else if bit v5 7 then some (0x09, 0xFF, 0)
  else if picks ≠ 1 then some (0x07, 0xFF, picks)
  else match chBad with
  | some n => some (0x08, n, n)
  | none => match d.listCheck k with
    | some (i, c) => some (0x06, 0xFF, i <<< 16 + c)
    | none =>
      if bit v4 k then none
      else
        let n := (d.shortChan k).getD ((d.sheetChans k).head?.getD 0)
        some (0x04, n, d.get (F.SHT_Dd_FILLn.lines k n))

/-- Arm one listed entry of an admitted sheet, or make it pending (R107). -/
def Dev.armListed (d : Dev) (k j i : Nat) : Dev :=
  if entArmed (d.entHi i) then { d with evt := { d.evt with pend := d.evt.pend ++ [(i, k)] } }
  else (d.armFor k j i).1

/-- ADMIT (R106, R107). -/
def Dev.shtAdmit (d : Dev) (k : Nat) : Dev :=
  if d.shtState k ≠ 1 then d.shtResult 2 0 0xFF k
  else match d.admitCheck k with
  | some (cause, ch, d1) =>
    let d := if cause = 0x06 then d.armRefused (d1 / 65536) (d1 % 256) else d
    ((d.milestone 0x03 (d.tagOf k) cause ch k d1).shtFlag 2).shtResult 1 cause (if cause = 4 || cause = 8 then ch else 0xFF) k
  | none =>
    let d := d.each (d.armList k) fun d e => d.armListed k e.1 e.2
    let d := ((d.shtEnter k 2).count F.SHT_ADMITTED.count).countFlight
    ((d.milestone 0x02 (d.tagOf k) 0 0xFF k 0).shtFlag 1).shtResult 0 0 0xFF k

/-- CANCEL, once the pick firings of this slot have been judged (R109, R116). -/
def Dev.shtCancel (d : Dev) (k : Nat) : Dev :=
  match d.shtState k with
  | 1 => (d.cancel k 0x20 0).shtResult 0 0 0xFF k
  | 2 => (d.cancel k 0x20 0).shtResult 0 0 0xFF k
  | 3 => if d.evt.pickNow.contains (k, d.slot) then d.shtResult 3 0 0xFF k else d.shtResult 1 0x24 0xFF k
  | _ => d.shtResult 2 0 0xFF k

/-- SPOIL (R116). -/
def Dev.shtSpoil (d : Dev) (k : Nat) : Dev :=
  if d.shtState k = 3 then (d.spoil k 0x4B 0xFF 0).shtResult 0 0 0xFF k else d.shtResult 2 0 0xFF k

/-- RUNOUT_EXPIRE (R115). -/
def Dev.runout (d : Dev) (k : Nat) : Dev :=
  if d.shtState k ≠ 3 then d
  else
    let d := d.advanceTo (d.rd (R.SHT_Dd_PICK_TIME k) + d.get (F.SHT_Dd_RUNOUT.runout_ms k) * 125000)
    (d.spoil k 0x4A 0xFF 0).complete k

/-! ### The pick (R108, R109) -/

/-- The first failing condition of the pick check, in the order of R108: a SYS_READY bit number, 0x40 residency, 0x41 power-fail
warning. In Twin grade each member takes its own fills for the whole-plane test (DESIGN CHOICE, see the assumption log). -/
def Dev.pickCheck (d : Dev) (k : Nat) : Option Nat :=
  let (v4, v5) := d.vector
  let rdy := v4 / 2 ^ 32
  let whole := (d.sheetChans k).all fun n => d.get (F.SHT_Dd_FILLn.lines k n) = d.get (F.SHT_Dd_LINES.input_lines k)
  let need := [5, 7, 8, 9, 10, 11, 12, 13, 14, 15] ++ (d.sheetChans k).map (16 + ·) ++ (if whole then [] else [6])
  match need.find? fun b => !bit rdy b with
  | some b => some b
  | none => if !bit v4 k then some 0x40 else if bit v5 7 then some 0x41 else none

/-- The pick entry of a sheet fires (R108, R109). Answers whether the pick was refused. -/
def Dev.pick (d : Dev) (k delivered : Nat) : Dev × Bool :=
  let d := { d with evt := { d.evt with pickNow := [(k, d.slot)] ++ d.evt.pickNow.filter (·.2 = d.slot) } }
  if d.shtState k ≠ 2 then (d, true)
  else match d.pickCheck k with
  | some c => ((d.cancel k 0x22 c).shtReport 0x22 0xFF k c, true)
  | none =>
    let d := ((d.shtEnter k 3).wr (R.SHT_Dd_PICK_TIME k) delivered).countFlight
    ((d.milestone 0x05 (d.tagOf k) 0 0xFF k 0).shtFlag 3, false)

/-! ### The commands (CANCEL stands with the scheduler, which judges a pick of the same slot first) -/

/-- OPEN (R104). -/
def execSheetOpen (k : Fin 32) (s : State) : Host.Outcome State Fault Refusal :=
  s.onDev fun d => d.agree R.SHT_CMD (0x10000000 + k) (·.shtOpen k)
/-- ADMIT (R106). -/
def execSheetAdmit (k : Fin 32) (s : State) : Host.Outcome State Fault Refusal :=
  s.onDev fun d => d.agree R.SHT_CMD (0x20000000 + k) (·.shtAdmit k)
/-- SPOIL (R116). -/
def execSheetSpoil (k : Fin 32) (s : State) : Host.Outcome State Fault Refusal :=
  s.onDev fun d => d.agree R.SHT_CMD (0x40000000 + k) (·.shtSpoil k)
/-- RELEASE (R116). -/
def execSheetRelease (k : Fin 32) (s : State) : Host.Outcome State Fault Refusal :=
  s.onDev fun d => d.agree R.SHT_CMD (0x50000000 + k) (·.shtRelease k)

end Sys2Proof.Machine
end

