-- ==== Sys2Proof/Machine/Mem.lean ====
section
/-! DEFINITION. User memory and the (72,64) code (R160, R164-R172). -/

namespace Sys2Proof.Machine

/-! ### The code (R164-R167) -/

/-- The columns of H of the data bits d0 to d63 (R164). -/
def hColumns : List Nat :=
  [0x31, 0x32, 0x54, 0x68, 0x51, 0x52, 0x94, 0xC8, 0x61, 0x62, 0xC4, 0xA8, 0x91, 0x92, 0x64, 0xF8]
  ++ [0xA1, 0xA2, 0x34, 0x98, 0xC1, 0xC2, 0xF4, 0x38, 0xF1, 0xF2, 0xA4, 0x58, 0x13, 0x23, 0x45, 0x86]
  ++ [0x15, 0x25, 0x49, 0x8C, 0x16, 0x26, 0x4C, 0x8A, 0x19, 0x29, 0x46, 0x8F, 0x1A, 0x2A, 0x43, 0x89]
  ++ [0x1C, 0x2C, 0x4F, 0x83, 0x1F, 0x2F, 0x4A, 0x85, 0x3E, 0x3D, 0xE3, 0xD3, 0x5E, 0x5D, 0xE5, 0xD5]

/-- XOR of the columns of the data bits that are 1 (R165). -/
def checkAux : List Nat → Nat → Nat → Nat
  | [], _, c => c
  | h :: hs, v, c => checkAux hs (v / 2) (if v % 2 = 1 then c ^^^ h else c)

/-- The check byte of a data word (R165). -/
def checkByte (v : Nat) : Nat := checkAux hColumns v 0

/-- What a decoder finds (R166). -/
inductive Decoded where
  | clean
  | corrected
  | uncorrectable
  deriving DecidableEq, Repr

/-- The data bit whose column a syndrome is. -/
def columnOf (s : Nat) : Option Nat := hColumns.findIdx? (· = s)

/-- Decode a word with its syndrome (R166): the data out and the outcome. -/
def decodeWord (v syn : Nat) : Nat × Decoded :=
  if syn = 0 then (v, .clean)
  else match columnOf syn with
  | some j => (v ^^^ 2 ^ j, .corrected)
  | none => if [1, 2, 4, 8, 16, 32, 64, 128].contains syn then (v, .corrected) else (v, .uncorrectable)

/-! ### Bytes and words -/

/-- The byte at an address; an unlisted one reads zero (R160: phase 6 writes zero everywhere). -/
def Memory.byte (m : Memory) (a : Nat) : Nat := (Store.get 0#8 m.data a).toNat

/-- Write one byte; the check fields are the word's own. -/
def Memory.setByte (m : Memory) (a v : Nat) : Memory := { m with data := Store.set 0#8 m.data a (BitVec.ofNat 8 v) }

/-- The stored check byte of word w XOR the one its data calls for: the syndrome (R165). -/
def Memory.syn (m : Memory) (w : Nat) : Nat := (Store.get 0#8 m.chk w).toNat
def Memory.setSyn (m : Memory) (w v : Nat) : Memory := { m with chk := Store.set 0#8 m.chk w (BitVec.ofNat 8 v) }

/-- The 64-bit word w, bytes 8w to 8w + 7, low byte first. -/
def Memory.word (m : Memory) (w : Nat) : Nat := leVal ((List.range 8).map fun i => m.byte (8 * w + i))

/-- Store the bytes of a word. -/
def Memory.setBytes (m : Memory) (a : Nat) (bs : List Nat) : Memory :=
  (bs.foldl (fun (p : Memory × Nat) b => (p.1.setByte p.2 b, p.2 + 1)) (m, a)).1

/-- Store a word with a syndrome: 0 consistent, 0xFF poisoned (R167). -/
def Memory.setWord (m : Memory) (w v syn : Nat) : Memory := (m.setBytes (8 * w) (leBytes 8 v)).setSyn w syn

/-- Memory in canonical form: both lists are. -/
def Memory.wf (m : Memory) : Bool := Store.wf 0#8 m.data && Store.wf 0#8 m.chk

/-! ### Errors (R170, R171) -/

/-- A corrected decode (R170). -/
def Dev.ceFound (d : Dev) (reader ch w syn : Nat) : Dev :=
  let d := (d.count F.MEM_CE_WINDOW.count).count F.MEM_CE_TOTAL.count
  let d := d.wr R.MEM_ERR_LAST_CE (syn * 2 ^ 40 + reader * 2 ^ 36 + ch * 2 ^ 32 + w)
  if max 1 (d.get F.MEM_CE_CFG.threshold) ≤ d.get F.MEM_CE_WINDOW.count && !d.memx.ceRep then
    ({ d with memx := { d.memx with ceRep := true } } : Dev).report 20 (d.get F.MEM_CE_WINDOW.count) (d.rd R.MEM_ERR_LAST_CE % 2 ^ 32)
  else d

/-- An uncorrectable decode (R171): the scrubber does not report a listed word again. -/
def Dev.ueFound (d : Dev) (reader ch w syn : Nat) : Dev :=
  let d := d.count F.MEM_UE_TOTAL.count
  let d := d.wr R.MEM_ERR_LAST_UE (syn * 2 ^ 40 + reader * 2 ^ 36 + ch * 2 ^ 32 + w)
  let listed := reader = 2 && d.memx.bad.contains w
  let d := if reader = 2 && !listed && d.memx.bad.length < 64 then
      ({ d with memx := { d.memx with bad := d.memx.bad ++ [w] } } : Dev).put F.MEM_BAD_COUNT.entries (d.memx.bad.length + 1) else d
  if listed then d else d.report 19 (reader <<< 28 + w) (ch <<< 8 + syn)

/-- Read word w for a reader: 1 slice, 2 scrubber, 3 BAR4, 4 partial write (R171). Data, uncorrectable, and the state that has
counted; with the memory PHY unlocked nothing can be read (R356). -/
def State.readMem (s : State) (reader ch w : Nat) : Nat × Bool × State :=
  let (v, o) := decodeWord (s.mem.word w) (s.mem.syn w)
  if s.dev.memx.lost then (0, true, s)
  else match o with
  | .clean => (v, false, s)
  | .corrected => (v, false, { s with dev := s.dev.ceFound reader ch w (s.mem.syn w) })
  | .uncorrectable => (v, true, { s with dev := s.dev.ueFound reader ch w (s.mem.syn w) })

/-- Write word w (R172): a pending injection XORs its check byte; the word leaves the list of R171. With the memory PHY unlocked the
write is dropped (R356). -/
def State.writeMem (s : State) (w v : Nat) (poisoned : Bool) : State :=
  if s.dev.memx.lost then s
  else
  let d := s.dev
  let inj := d.on F.MEM_INJECT_CTRL.arm && d.get F.MEM_INJECT_ADDR.word = w
  let syn := (if poisoned then 0xFF else 0) ^^^ (if inj then d.get F.MEM_INJECT_CTRL.mask else 0)
  let d := if inj then d.put F.MEM_INJECT_CTRL.arm 0 else d
  let d := if d.memx.bad.contains w then
      ({ d with memx := { d.memx with bad := d.memx.bad.erase w } } : Dev).put F.MEM_BAD_COUNT.entries (d.memx.bad.length - 1) else d
  { s with dev := d, mem := s.mem.setWord w v syn }

/-- The scrubber reads word w and writes a corrected one back (R169). -/
def State.scrubWord (s : State) (w : Nat) : State :=
  let fix := (decodeWord (s.mem.word w) (s.mem.syn w)).2 = .corrected
  let r := s.readMem 2 0 w
  if fix then r.2.2.writeMem w r.1 false else r.2.2

/-- The scrubber goes on from word w; after the last one a pass is over (R169). -/
def Dev.scrubNext (d : Dev) (w : Nat) : Dev :=
  let last : Bool := w + 1 = 2 ^ 27
  let d := { d with memx := { d.memx with scrub := if last then 0 else w + 1 } }
  let d := d.put F.MEM_SCRUB_STATUS.progress ((if last then 0 else w + 1) / 2048)
  if last then (d.count F.MEM_SCRUB_STATUS.passes).put F.MEM_STATUS.scrubbed 1 else d

/-- SCRUB_WORD (R169): one word of the pass. -/
def State.scrub (s : State) : State :=
  if !s.dev.on F.MEM_SCRUB_CFG.enable || !s.dev.domOn 1 || s.dev.memx.lost then s
  else
    let t := s.scrubWord s.dev.memx.scrub
    { t with dev := t.dev.scrubNext s.dev.memx.scrub }

/-- CE_WINDOW_RESTART (R170). -/
def Dev.ceWindow (d : Dev) : Dev :=
  let d := d.advance8To (d.memx.winStart + max 1 (d.get F.MEM_CE_CFG.window_s) * 125000000)
  ({ d with memx := { d.memx with winStart := d.sys.now8, ceRep := false } } : Dev).wr R.MEM_CE_WINDOW 0

/-- Source block reset of sources 19 and 20 (R370). -/
def Dev.memReset (d : Dev) : Dev :=
  let d := { d with memx := { d.memx with scrub := 0, winStart := d.sys.now8, ceRep := false, bad := [] } }
  ((d.put F.MEM_SCRUB_STATUS.progress 0).wr R.MEM_CE_WINDOW 0).wr R.MEM_BAD_COUNT 0

/-- INJECT_ARM (R172). -/
def Dev.injectArm (d : Dev) : Dev := d.put F.MEM_INJECT_CTRL.arm 1

/-! ### The commands -/

/-- SCRUB_WORD (R169). -/
def execScrubWord (s : State) : Host.Outcome State Fault Refusal := .next s.scrub
/-- CE_WINDOW_RESTART (R170). -/
def execCeWindowRestart (s : State) : Host.Outcome State Fault Refusal := s.onDev (·.ceWindow)
/-- INJECT_ARM (R172). -/
def execInjectArm (s : State) : Host.Outcome State Fault Refusal := s.onDev (·.reach R.MEM_INJECT_CTRL.off Dev.injectArm)
/-- READ_PORT_WORD (R168): CHn's read port decodes one word of its plane. -/
def execReadPortWord (n : Fin 8) (word : Nat) (s : State) : Host.Outcome State Fault Refusal :=
  .next (s.readMem 1 n (word % 2 ^ 27)).2.2

end Sys2Proof.Machine
end

