-- ==== Sys2Proof/Machine/Rng.lean ====
section
/-! DEFINITION. The Raster Ring: lanes and training (R123-R141), frames, sequence numbers, credits and control symbols
(R142-R159). -/

namespace Sys2Proof.Machine

/-! ### The generation (R123) -/

def Dev.ringGen (d : Dev) : Nat := d.role.ringGen
/-- Used lanes. -/
def Dev.ringW (d : Dev) : Nat := if d.ringGen = 1 then 4 else if d.ringGen = 3 then 8 else d.role.ringLanes
/-- Rate code of training. -/
def Dev.trainRate (d : Dev) : Nat := if d.ringGen = 3 then 4 else 1
/-- This member's ring address (R39, R145). -/
def Dev.ringAddr (d : Dev) : Nat := if d.twin && d.on F.SYS_STRAPS.twsel then d.role.addrB else d.role.addrA
/-- First byte of a control unit by coding (R142). -/
def Dev.unitType (d : Dev) (b66 kcode : Nat) : Nat := if d.ringGen = 3 then b66 else kcode
/-- Line rate of a rate code, Mbit/s. -/
def lineRate (code : Nat) : Nat :=
  match code with | 1 => 1250 | 2 => 2500 | 3 => 5000 | 4 => 6250 | _ => 12500
/-- Payload of a lane at a rate code, Mbit/s, after coding, skip and alignment units. -/
def lanePayload (code : Nat) : Nat :=
  match code with | 1 => 999 | 2 => 1998 | 3 => 3996 | 4 => 6054 | _ => 12109

def Dev.rngFlag (d : Dev) (k : Nat) : Dev := d.flag R.RNG_LANE_IRQ_STATUS R.RNG_LANE_IRQ_EN k 12
def Dev.protoFlag (d : Dev) (k : Nat) : Dev := d.flag R.RNG_PROTO_IRQ_STATUS R.RNG_PROTO_IRQ_EN k 12
def Dev.modRng (d : Dev) (f : RngSt → RngSt) : Dev := { d with rng := f d.rng }
def Dev.rxSt (d : Dev) : Nat := d.get F.RNG_LANE_STATUS.rx_state
def Dev.txSt (d : Dev) : Nat := d.get F.RNG_LANE_STATUS.tx_state
/-- Phase 7 is running (R61). -/
def Dev.phase7 (d : Dev) : Bool := Store.get 0 d.sys.ph 7 = 1

/-! ### Own control symbols (R150, R151) -/

/-- A control unit: type, code, origin, stream, 24-bit value, CRC-8 (R150). -/
def Dev.ctlUnit (d : Dev) (code origin stream value : Nat) : List Nat :=
  let b := [d.unitType 0xC5 0x5C, code, origin, stream] ++ leBytes 3 value
  b ++ [crc8 b]

/-- Queue an own symbol: the queue holds 16; a symbol that finds it full replaces the oldest of its code and stream, or is
dropped. -/
def Dev.sendSym (d : Dev) (code stream value : Nat) : Dev :=
  let q := d.rng.syms
  let q' := if q.length < 16 then q ++ [⟨code, stream, value⟩]
    else match q.findIdx? fun y => y.code = code && y.stream = stream with
    | some i => q.set i ⟨code, stream, value⟩
    | none => q
  (d.modRng fun r => { r with syms := q' }).put F.RNG_PROTO_STATUS.sym_queue q'.length

/-- The receive streams: own (false) and group (true); the group stream exists in Twin grade (R145). -/
def Dev.rxS (d : Dev) (g : Bool) : RxStream := if g then d.rng.grp else d.rng.own
def Dev.modRx (d : Dev) (g : Bool) (f : RxStream → RxStream) : Dev :=
  d.modRng fun r => if g then { r with grp := f r.grp } else { r with own := f r.own }
def Dev.streamAddr (d : Dev) (g : Bool) : Nat := if g then d.role.addrGroup else d.ringAddr
def expectF (g : Bool) : Fld := if g then F.RNG_RX_EXPECT_GRP.expect else F.RNG_RX_EXPECT_OWN.expect
def limitF (g : Bool) : Fld := if g then F.RNG_CREDIT_GRP.limit else F.RNG_CREDIT_OWN.limit
def syncedF (g : Bool) : Fld := if g then F.RNG_PROTO_STATUS.grp_synced else F.RNG_PROTO_STATUS.own_synced
def fillF (g : Bool) : Fld := if g then F.RNG_INGRESS_FILL.grp else F.RNG_INGRESS_FILL.own
/-- The streams this member holds. -/
def Dev.streams (d : Dev) : List Bool := if d.twin then [false, true] else [false]

/-- Credits of a stream's share of the 1 MiB buffer (R153). -/
def Dev.shareCredits (d : Dev) (g : Bool) : Nat :=
  if !d.twin then (if g then 0 else 4096)
  else let own := max 1 d.rng.share * 256; if g then 4096 - own else own

/-- Send CREDIT with the present limit. -/
def Dev.sendCredit (d : Dev) (g : Bool) : Dev :=
  let l := d.get (limitF g)
  (d.sendSym 0x03 (d.streamAddr g) l).modRx g fun x => { x with sent := l }

/-- The limit grows by credits that the buffer has got back (R153). -/
def Dev.growCredit (d : Dev) (g : Bool) (n : Nat) : Dev :=
  let d := d.put (limitF g) (d.get (limitF g) + n)
  let grown := (d.get (limitF g) + 2 ^ 24 - (d.rxS g).sent) % 2 ^ 24
  if max 1 (d.get F.RNG_PROTO_CFG.credit_step) ≤ grown then d.sendCredit g else d

/-- ACK(E - 1), for a synchronised stream (R149). -/
def Dev.sendAck (d : Dev) (g : Bool) : Dev :=
  if d.on (syncedF g) then d.sendSym 0x01 (d.streamAddr g) ((d.get (expectF g) + 2 ^ 24 - 1) % 2 ^ 24) else d

/-- The holdoff of R148 in ticks. -/
def Dev.holdoff (d : Dev) : Nat := 4 * max 1 (d.get F.RNG_PROTO_CFG.ack_interval_us) * 125

/-- NAK(E), at most one for a given E within the holdoff. -/
def Dev.sendNak (d : Dev) (g : Bool) : Dev :=
  let x := d.rxS g
  let e := d.get (expectF g)
  if x.nakAt ≠ 0 && x.nakE = e && d.sys.now8 < x.nakAt - 1 + d.holdoff then d
  else (d.sendSym 0x02 (d.streamAddr g) e).modRx g fun x => { x with nakE := e, nakAt := d.sys.now8 + 1 }

/-- RESYNC, at most one per stream within the holdoff. -/
def Dev.sendResync (d : Dev) (g : Bool) : Dev :=
  let x := d.rxS g
  if x.resyncAt ≠ 0 && d.sys.now8 < x.resyncAt - 1 + d.holdoff then d
  else (d.sendSym 0x04 (d.streamAddr g) 0).modRx g fun x => { x with resyncAt := d.sys.now8 + 1 }

/-- Send bytes downstream: nothing leaves unless the transmit direction forwards. -/
def Dev.ringOut (d : Dev) (u : List Nat) : Dev := if d.txSt = 4 then d.emit (.ring u) else d

/-! ### Lane states (R134, R135) -/

/-- The pattern of a generator or checker mode (R138): the fixed word exists in RL-1 and RL-2 only. -/
def Dev.patternOf (d : Dev) (mode word : Nat) : Option Pattern :=
  match mode with
  | 2 => some (.prbs 7 6)
  | 3 => some (.prbs 15 14)
  | 4 => some (.prbs 23 18)
  | 5 => some (.prbs 31 28)
  | 6 => if d.ringGen = 3 then none else some (.fixed word)
  | _ => none

/-- The pattern generator of a used lane sends in TEST what its mode names. -/
def Dev.genSend (d : Dev) (l : Nat) : Dev :=
  if d.txSt ≠ 5 || d.ringW ≤ l then d
  else match d.patternOf (d.get (F.RNG_TXl_GEN_CTRL.mode l)) (d.get (F.RNG_TXl_GEN_WORD.word l)) with
  | some p => d.emit (.pattern l p)
  | none => d

/-- Put the transmit direction in a state at the rate of that state; BYP_n is driven exactly in FORWARD (R33), the generators run
in TEST (R138). -/
def Dev.txEnter (d : Dev) (st : Nat) : Dev :=
  let d := (d.put F.RNG_LANE_STATUS.tx_state st).putB F.RNG_LANE_STATUS.byp_driven (st = 4)
  let d := d.modRng fun r => { r with txRate := if st = 1 || st = 2 then d.trainRate else if st = 3 then d.get F.RNG_LANE_STATUS.rate else r.txRate }
  if st = 5 then d.each (List.range 8) Dev.genSend else d

/-- Entering FORWARD (R150): JOIN, CREDIT, and ACK for each synchronised stream. R150 gives JOIN and NOTE no stream address: they
carry 0xFF (DESIGN CHOICE, see the log). -/
def Dev.txForward (d : Dev) : Dev :=
  let d := ((d.modRng fun r => { r with fwd := 0, drop := 0 }).txEnter 4).rngFlag 1
  let fresh := d.get F.RNG_PROTO_STATUS.fresh_pending
  let d := d.sendSym 0x05 0xFF (d.get F.RNG_POSITION.hop <<< 16 + d.get F.RNG_POSITION.members <<< 8 + fresh)
  let d := d.put F.RNG_PROTO_STATUS.fresh_pending 0
  let d := d.each d.streams Dev.sendCredit
  d.each d.streams Dev.sendAck

/-- Send a training sequence on every used lane, each with its own lane number and CRC (R129). -/
def Dev.sendTs (d : Dev) (copies : Nat) (b : List Nat) : Dev :=
  d.emit (.train copies ((List.range d.ringW).map fun l =>
    let b := (b.take 12).set 1 l
    b ++ [crc16 b / 256, crc16 b % 256]))

/-- Filler TS1 of R131 step 1. -/
def Dev.fillerTs (d : Dev) : Dev :=
  if d.ringGen = 1 then d
  else d.sendTs 0 [1, 0, 0x5A, d.ringGen, d.get F.RNG_LANE_CFG.max_rate, 0, d.ringW, 0xFF, 0, 0, 0, 0]

/-- What BASE sends when the receive direction changes stage (R131): TS2 once a committed rate is recorded, filler TS1 before. -/
def Dev.baseSend (d : Dev) : Dev :=
  if d.ringGen ≠ 1 && d.rng.commit ≠ 0 then d.sendTs 0 d.rng.ts2 else d.fillerTs

/-- BASE ends where the receive direction is ALIGNED at the committed rate: 1,024 TS3 at that rate (R131, R135). -/
def Dev.baseDone (d : Dev) : Dev :=
  if d.txSt = 2 && d.rxSt = 4 && d.on F.RNG_LANE_STATUS.committed && d.ringGen ≠ 1 then
    ((d.modRng fun r => { r with ts3At := d.sys.now8 }).txEnter 3).sendTs 1024 (d.rng.ts2.set 0 3)
  else d

/-- Transmit to BASE. -/
def Dev.txBase (d : Dev) : Dev := ((d.txEnter 2).baseSend).baseDone

/-- The recorded committed rate is forgotten. -/
def Dev.forget (d : Dev) : Dev := d.modRng fun r => { r with commit := 0, ts2 := [] }

/-- The receive direction has left ALIGNED: TS3 and FORWARD fall back with filler TS1, BASE sends per R131 (R135). The way back
in RL-1, which has no committed rate, is a reading (DEDUCED, see the log). -/
def Dev.rxLeft (d : Dev) : Dev :=
  let d := (d.rngFlag 2).lgVideo 0
  match d.txSt with
  | 4 => ((d.forget.txEnter 2).fillerTs).reportOpen 17
  | 3 => (d.forget.txEnter 2).fillerTs
  | 2 => d.baseSend
  | _ => d

/-- Lower of the two details that are not zero. -/
def Dev.setDetail (d : Dev) (rx tx : Nat) : Dev :=
  let d := d.modRng fun r => { r with rxDet := rx, txDet := tx }
  d.put F.RNG_LANE_STATUS.detail (if rx = 0 then tx else if tx = 0 then rx else min rx tx)

/-- The manual alignment of R139 is in force: ignored in RL-3. -/
def Dev.manual (d : Dev) : Bool := d.on F.RNG_LANE_CFG.manual_align && d.ringGen ≠ 3

/-- The checker of a lane runs (R138): in TEST, in LOCK under manual alignment, and in live mode while ALIGNED. -/
def Dev.chkRuns (d : Dev) (l : Nat) : Bool :=
  let m := d.get (F.RNG_RXl_CHK_CTRL.mode l)
  l < d.ringW && match d.rxSt with
  | 2 => d.manual && (d.patternOf m 0).isSome
  | 4 => m = 1
  | 5 => (d.patternOf m 0).isSome
  | _ => false

/-- The bits of a lane that its checker finds wrong (R138), a free value: with the fixed word it depends on the word and on the slip
at which the bits are taken; slips above 9 act as 9 (R139, R141). -/
def Dev.chkErrors (d : Dev) (l : Nat) : Nat × Dev :=
  if d.get (F.RNG_RXl_CHK_CTRL.mode l) = 6 then
    ((Config.wordErrors d.free (d.get (F.RNG_RXl_CHK_WORD.word l)) (min 9 (d.get (F.RNG_RXl_SLIP.slip l)))).toNat,
      { d with free := d.free + 1 })
  else d.freeVal 64

/-- pattern_locked of a PRBS checker after n bits with e errors (R138): set by 64 bits without an error, kept below 16 errors; else it
depends on where they stood, which no command says (a free value). -/
def Dev.patternLock (d : Dev) (l n e : Nat) : Dev :=
  let m := d.get (F.RNG_RXl_CHK_CTRL.mode l)
  if d.rxSt = 4 || m < 2 || 5 < m then d
  else if e = 0 && 64 ≤ n then d.put (F.RNG_RXl_STATUS.pattern_locked l) 1
  else if d.on (F.RNG_RXl_STATUS.pattern_locked l) && e < 16 then d
  else let (p, d) := d.freeVal 1; d.put (F.RNG_RXl_STATUS.pattern_locked l) p

/-- Bring a lane's checker up to the present tick (R138): the bits compared since it last counted, and the wrong ones among them. -/
def Dev.chkUpdate (d : Dev) (l : Nat) : Dev :=
  let at_ := Store.get 0 d.rng.chkAt l
  let n := (d.sys.now8 + 1 - at_) * lineRate (d.get F.RNG_LANE_STATUS.rate) * 8 / 1000
  let d := if at_ = 0 || n = 0 then d
    else
      let (e, d) := d.chkErrors l
      let e := e % (n + 1)
      let d := (d.wr (R.RNG_RXl_BITS l) (d.rd (R.RNG_RXl_BITS l) + n)).count (F.RNG_RXl_ERRS.errors l) e
      let d := d.patternLock l n e
      if e = 0 then d else d.rngFlag 4
  d.modRng fun r => { r with chkAt := Store.set 0 r.chkAt l (if d.chkRuns l then d.sys.now8 + 1 else 0) }

/-- Bring every lane's checker up to the present tick. -/
def Dev.chkAll (d : Dev) : Dev := d.each (List.range 8) Dev.chkUpdate

/-- What a sleeping receive direction turns off (R137). -/
def Dev.rxOff (d : Dev) : Dev :=
  let d := (d.put F.RNG_LANE_STATUS.rate 0).put F.RNG_LANE_STATUS.committed 0
  d.each (List.range 8) fun d l => (d.put (F.RNG_RXl_STATUS.locked l) 0).put (F.RNG_RXl_STATUS.pattern_locked l) 0

/-- Put the receive direction in a state. In SLEEP and TEST a recorded committed rate goes as in DETECT: it stays only while BASE
sends its TS2 (R131, R137). -/
def Dev.rxEnter (d : Dev) (st : Nat) : Dev :=
  let was := d.rxSt
  let d := d.when ((st = 0 || st = 5) && d.txSt ≠ 2) Dev.forget
  let d := d.chkAll.put F.RNG_LANE_STATUS.rx_state st
  let d := (if st = 0 then d.rxOff else d).chkAll
  if was = 4 && st ≠ 4 then d.rxLeft else d

/-- DETECT at the training rate. A recorded committed rate stays while BASE sends its TS2 (R131), else it is forgotten. -/
def Dev.rxDetect (d : Dev) : Dev :=
  let d := (d.when (d.txSt ≠ 2) Dev.forget).modRng fun r => { r with adapting := false, tsLast := [], tsN := 0, tsAct := [] }
  let d := d.chkAll
  let d := (d.put F.RNG_LANE_STATUS.rate d.trainRate).put F.RNG_LANE_STATUS.committed 0
  let d := d.each (List.range 8) fun d l => d.put (F.RNG_RXl_STATUS.locked l) 0
  d.rxEnter 1

/-- Receive to FAILED. -/
def Dev.rxFail (d : Dev) (det : Nat) : Dev := ((d.rxEnter 6).setDetail det d.rng.txDet).rngFlag 3
/-- Transmit to FAILED. -/
def Dev.txFail (d : Dev) (det : Nat) : Dev := ((d.txEnter 6).setDetail d.rng.rxDet det).rngFlag 3

/-- A lock or deskew failure (R134): FAILED during phase 7, DETECT and a record under bit 16 outside it. -/
def Dev.rxFailure (d : Dev) (det : Nat) : Dev :=
  let d := if d.rxSt = 4 then d.count F.RNG_LANE_COUNTS.rx_losses else d
  if d.phase7 then d.rxFail det else ((d.setDetail det d.rng.txDet).rxDetect).reportOpen 16

/-- Lock lost while ALIGNED (R134). -/
def Dev.rxLost (d : Dev) : Dev :=
  if d.rng.commit ≠ 0 && !d.on F.RNG_LANE_STATUS.committed then
    let r := d.rng.commit
    let d := (d.modRng fun x => { x with adapting := r = 5, lockAt := d.sys.now8 }).chkAll
    let d := d.each (List.range 8) fun d l => d.put (F.RNG_RXl_STATUS.locked l) 0
    ((d.put F.RNG_LANE_STATUS.rate r).put F.RNG_LANE_STATUS.committed 1).rxEnter 2
  else (d.count F.RNG_LANE_COUNTS.rx_losses).rxDetect.reportOpen 16

/-- RX_SIGNAL_DETECT. -/
def Dev.rxSignal (d : Dev) : Dev :=
  if d.rxSt = 1 && Store.get 0 d.clk.lostAt 3 = 0 then (d.modRng fun r => { r with lockAt := d.sys.now8 }).rxEnter 2 else d

/-- The bytes of a training sequence with the lane's inversion undone. -/
def LaneSeen.bytes (l : LaneSeen) : List Nat :=
  let b := l.ts.map BitVec.toNat
  if b.getD 2 0 = 0xA5 then b.map (255 - ·) else b

/-- CRC-16 of a training sequence matches (R129). -/
def tsCrcOk (b : List Nat) : Bool := b.length = 14 && crc16 (b.take 12) = b.getD 12 0 * 256 + b.getD 13 0

/-- What R130 calls inconsistent in one training sequence. -/
def Dev.tsBad (d : Dev) (b : List Nat) : Bool :=
  b.getD 3 0 ≠ d.ringGen || b.getD 6 0 ≠ d.ringW
    || (b.getD 0 0 ≠ 1 && d.get F.RNG_LANE_CFG.max_rate < b.getD 5 0)

/-- A training sequence without its lane number and CRC. -/
def tsCore (b : List Nat) : List Nat := b.take 1 ++ (b.drop 2).take 10

/-- A rate code that the generation has (R123). -/
def Dev.rateOk (d : Dev) (code : Nat) : Bool := if d.ringGen = 3 then code = 4 || code = 5 else 1 ≤ code && code ≤ 3

/-- The lock failure of a training sequence by itself (R130, R141): 7 inconsistent, 6 a rate the generation lacks, 0 none. -/
def Dev.tsFault (d : Dev) (b : List Nat) : Nat :=
  if d.tsBad b then 7 else if b.getD 0 0 ≠ 1 && !d.rateOk (b.getD 5 0) then 6 else 0

/-- Every used lane has locked: 64 valid sync headers in a row (R125), or a comma (R126) where alignment is not manual. -/
def Dev.lanesLocked (d : Dev) (r : LaneReport) : Bool :=
  r.lanes.length = d.ringW && r.lanes.all fun l => if d.ringGen = 3 then 64 ≤ l.good else d.manual || 1 ≤ l.good

/-- Accepted training sequences stand on every lane of a report (R130). -/
def reportTsOk (r : LaneReport) : Bool := r.lanes.all fun l => tsCrcOk (LaneSeen.bytes l)

/-- The lock failure of a report: 0 none (R124, R128, R130). A training sequence is judged where it is accepted. Of several failures
the first of 3, 5, 7 and 6 is given: R134 orders none of them (DESIGN CHOICE, see the log). -/
def Dev.lockFailure (d : Dev) (r : LaneReport) : Nat :=
  let bs := r.lanes.map LaneSeen.bytes
  let order := bs.map fun b => b.getD 1 0
  let straight := List.range d.ringW
  let ts := d.ringGen ≠ 1 && reportTsOk r
  if ts && order ≠ straight && order ≠ straight.reverse then 3
  else if d.ringGen ≠ 3 && r.lanes.any (fun l => l.eye < 16) then 5
  else if ts && !(bs.all fun b => d.tsFault b ≠ 7 && tsCore b = tsCore (bs.headD [])) then 7
  else if ts && bs.any (fun b => d.tsFault b = 6) then 6
  else 0

/-- The used lanes run in an order and with inversions (R128). -/
def Dev.laneApply (d : Dev) (rev : Bool) (inv : Nat → Bool) : Dev :=
  let w := d.ringW
  let d := d.putB F.RNG_LANE_STATUS.reversed rev
  let d := d.put F.RNG_LANE_STATUS.polarity ((List.range w).foldl (fun n l => if inv l then n + 2 ^ l else n) 0)
  d.each (List.range w) fun d l =>
    ((d.put (F.RNG_RXl_STATUS.locked l) 1).putB (F.RNG_RXl_STATUS.inverted l) (inv l)).put
      (F.RNG_RXl_STATUS.logical l) (if rev then w - 1 - l else l)

/-- The order and inversions of RL-1: those of RNG_LANE_MAP where it forces them, straight and none otherwise (R128). -/
def Dev.laneMapped (d : Dev) : Dev :=
  let forced := d.on F.RNG_LANE_MAP.force
  d.laneApply (forced && d.on F.RNG_LANE_MAP.reversed) fun l => forced && d.getBit F.RNG_LANE_MAP.polarity l

/-- The order and inversions that the training sequences of a report show (R128). -/
def Dev.laneDetected (d : Dev) (r : LaneReport) : Dev :=
  d.laneApply (d.ringW ≠ 1 && ((r.lanes.map LaneSeen.bytes).headD []).getD 1 0 = d.ringW - 1) fun l =>
    (((r.lanes.map LaneSeen.ts).getD l []).map BitVec.toNat).getD 2 0 = 0xA5

/-- The eyes and taps of a report (R124): none in RL-3. -/
def Dev.laneEyes (d : Dev) (r : LaneReport) : Dev :=
  d.each (List.range d.ringW) fun d l =>
    let x := r.lanes.getD l ⟨0, [], 0, 0⟩
    if d.ringGen = 3 then (d.put (F.RNG_RXl_STATUS.eye l) 0).put (F.RNG_RXl_STATUS.tap l) 0
    else
      let d := d.modRng fun y => { y with eyeAt := Store.set 0 y.eyeAt l d.sys.now8 }
      (d.put (F.RNG_RXl_STATUS.eye l) x.eye).put (F.RNG_RXl_STATUS.tap l) x.tap

/-- RX_LANES_LOCKED (R134): eyes, order and polarity recorded, or a lock failure; manual alignment waits for manual_done (R139). -/
def Dev.rxLocked (d : Dev) (r : LaneReport) : Dev :=
  if d.rxSt ≠ 2 || d.rng.adapting || !d.lanesLocked r then d
  else if d.lockFailure r ≠ 0 then d.rxFailure (d.lockFailure r)
  else if d.ringGen = 1 then
    if d.manual then d.laneEyes r else ((d.laneEyes r).laneMapped).rxEnter 3
  else if reportTsOk r then
    let d := (d.laneEyes r).laneDetected r
    if d.manual then d else d.rxEnter 3
  else if d.manual then d.laneEyes r else d

/-- Alignment units that must agree in a row (R133). -/
def Dev.agreeNeed (d : Dev) : Nat := if d.ringGen = 1 then 64 else 4096

/-- RX_DESKEW_DONE (R133): ALIGNED with the skews recorded, or a deskew failure. RL-1 forwards at once where every ROUT lane sees a
receiver, also after a loss (R135, R158). -/
def Dev.rxDeskew (d : Dev) (r : DeskewReport) : Dev :=
  if d.rxSt ≠ 3 then d
  else if r.skews.any (192 < ·) then d.rxFailure 8
  else if r.agreed < d.agreeNeed then d.rxFailure 9
  else
    let d := d.each (List.range d.ringW) fun d l => d.put (F.RNG_RXl_STATUS.skew l) (r.skews.getD l 0)
    let d := (d.rxEnter 4).rngFlag 0
    if d.ringGen = 1 then (if (d.txSt = 1 || d.txSt = 2) && d.rng.txSeen then d.txForward else d) else d.baseDone

/-- A loss as R125, R126, R133 and R134 judge it. -/
def Dev.lossCounts (d : Dev) : LockLoss → Bool
  | .signal => true
  | .headers n => d.ringGen = 3 && 16 ≤ n
  | .codes n => d.ringGen ≠ 3 && 8 ≤ n
  | .misaligned => d.rxSt = 4

/-- RX_LOCK_LOST (R134). -/
def Dev.rxLockLost (d : Dev) (cause : LockLoss) : Dev :=
  if !d.lossCounts cause then d
  else match d.rxSt with
  | 2 => if cause = .signal then d.rxDetect else d
  | 3 => d.rxFailure 9
  | 4 => d.rxLost
  | _ => d

/-- TS1 goes on with this member's hop and rate (R131 step 2), unless BASE sends TS2 already. -/
def Dev.passTs1 (d : Dev) (b : List Nat) : Dev :=
  if d.txSt = 2 && d.rng.commit ≠ 0 then d
  else
    let hop := if b.getD 7 0 = 0xFF then 0xFF else b.getD 7 0 + 1
    let d := d.put F.RNG_POSITION.hop hop
    if d.txSt = 2 then d.sendTs 0 ((b.set 7 hop).set 4 (min (b.getD 4 0) (d.get F.RNG_LANE_CFG.max_rate))) else d

/-- TS2 records the committed rate and the member count, and goes on (R131 step 3). -/
def Dev.recordTs2 (d : Dev) (b : List Nat) : Dev :=
  let d := d.modRng fun r => { r with commit := b.getD 5 0, ts2 := (b.take 12).set 7 (d.get F.RNG_POSITION.hop) }
  let d := d.put F.RNG_POSITION.members (b.getD 10 0)
  if d.txSt = 2 then d.baseSend else d

/-- Kind, rate and round of a training sequence. -/
def tsKey (b : List Nat) : List Nat := [b.getD 0 0, b.getD 5 0, b.getD 9 0]

/-- TS_RECEIVED (R130, R131): an accepted training sequence, the same on every used lane. A change of kind, rate or round acts after 8
alike, anything else at once. One that is inconsistent by itself, or whose rate is too high, fails lock at its first copy: R130 does
not say whether the 8 copies come first (DESIGN CHOICE, see the log). -/
def Dev.tsReceived (d : Dev) (ts : List Byte) : Dev :=
  let b := ts.map BitVec.toNat
  if d.rxSt ≠ 4 || d.ringGen = 1 || !tsCrcOk b then d
  else if d.tsFault b ≠ 0 then d.rxFailure (d.tsFault b)
  else
    let key := tsCore b
    let n := if d.rng.tsLast = key then min 8 (d.rng.tsN + 1) else 1
    let d := d.modRng fun r => { r with tsLast := key, tsN := n }
    if (n < 8 && d.rng.tsAct ≠ tsKey b) || d.on F.RNG_LANE_STATUS.committed then d
    else
      let d := d.modRng fun r => { r with tsAct := tsKey b }
      if b.getD 0 0 = 1 then d.passTs1 b
      else if b.getD 0 0 = 2 then d.recordTs2 b
      else d

/-- A new max_rate takes part in the TS1 that BASE sends next (R131). -/
def Dev.rateWritten (d : Dev) : Dev :=
  if d.txSt ≠ 2 || d.ringGen = 1 || d.rng.commit ≠ 0 then d
  else if d.rxSt = 4 && d.rng.tsAct.headD 0 = 1 && d.rng.tsLast.headD 0 = 1 then
    d.passTs1 (d.rng.tsLast.take 1 ++ [0] ++ d.rng.tsLast.drop 1)
  else d.fillerTs

/-- EQUALISER_ADAPT_DONE (R125). -/
def Dev.adaptDone (d : Dev) : Dev :=
  if d.rxSt = 2 && d.rng.adapting then
    (d.advance8To (d.rng.lockAt + max 4 (d.get F.RNG_LANE_CFG.adapt_ms) * 125000)).modRng fun r => { r with adapting := false }
  else d

/-- EYE_REMEASURE (R124): one step toward the new centre every 10 ms; a centre outside 0 to 127 loses lock. -/
def Dev.eyeMeasure (d : Dev) (l eye : Nat) (centre : Int) : Dev :=
  if d.rxSt ≠ 4 || d.ringGen = 3 || !d.on F.RNG_LANE_CFG.drift_track || d.ringW ≤ l then d
  else
    let d := d.advance8To (Store.get 0 d.rng.eyeAt l + 1250000)
    let d := d.modRng fun r => { r with eyeAt := Store.set 0 r.eyeAt l d.sys.now8 }
    if centre < 0 || 127 < centre then (d.put (F.RNG_RXl_STATUS.locked l) 0).rxLost
    else
      let t : Nat := d.get (F.RNG_RXl_STATUS.tap l)
      let t' := if (t : Int) < centre then t + 1 else if centre < (t : Int) then t - 1 else t
      (d.put (F.RNG_RXl_STATUS.tap l) t').put (F.RNG_RXl_STATUS.eye l) eye

/-- TX_RECEIVER_DETECT (R135): every 100 µs in DETECT, not while the SerDes loop is lost (R356). -/
def Dev.txDetect (d : Dev) (present : Nat) : Dev :=
  if d.txSt ≠ 1 || Store.get 0 d.clk.lostAt 3 ≠ 0 then d
  else
    let d := d.advance8To (d.rng.detAt + 12500)
    let d := d.modRng fun r => { r with detAt := d.sys.now8 }
    let all := (List.range d.ringW).all fun l => bit present l
    if d.ringGen = 1 then
      let d := d.modRng fun r => { r with txSeen := all }
      if all && d.rxSt = 4 then d.txForward else d
    else if all then d.txBase else d

/-- TS3_SENT (R135): 1,024 TS3 of 160 or 132 bits have left. -/
def Dev.ts3Sent (d : Dev) : Dev :=
  if d.txSt ≠ 3 then d
  else
    let bitsN := 1024 * (if d.ringGen = 3 then 132 else 160) * 1000
    let r := lineRate (d.get F.RNG_LANE_STATUS.rate) * 8
    (d.advance8To (d.rng.ts3At + (bitsN + r - 1) / r)).txForward

/-- ELASTIC_ERROR (R127) of a forwarded lane: an overflow loses a unit, an underflow repeats one. -/
def Dev.elastic (d : Dev) (l : Nat) (overflow : Bool) : Dev :=
  if d.txSt = 4 && l < d.ringW then (((d.emit (.slip l !overflow)).count F.RNG_LANE_COUNTS.elastic).rngFlag 5).reportOpen 17 else d

/-! ### Commands (R134-R140) -/

/-- A refused command (R136). Commands in a state whose table has no row for them, rx_wake or tx_wake outside SLEEP, test_exit
outside TEST and manual_done outside LOCK or without manual alignment, are refused and counted too (DESIGN CHOICE, see the log). -/
def Dev.laneReject (d : Dev) : Dev := d.count F.RNG_LANE_REJECT.count

/-- R136: the sleep, test and retrain commands are refused. -/
def Dev.laneRefused (d : Dev) (force : Bool) : Bool :=
  d.phase7 || (!force && (d.get F.SYS_HOST_STATE.in_flight ≠ 0 || (List.range 32).any fun k => d.shtState k = 1))

/-- Enter TEST: the checker modes are kept for its end. -/
def Dev.rxTestEnter (d : Dev) : Dev :=
  (d.modRng fun r => { r with chkPrev := (List.range 8).map fun l => d.get (F.RNG_RXl_CHK_CTRL.mode l) }).rxEnter 5

/-- rx_retrain, rx_sleep, rx_test: the state it leads to from each receive state. -/
def Dev.rxCmd (d : Dev) (force : Bool) (dest : Nat) : Dev :=
  let ok := match d.rxSt with
    | 0 => false
    | 5 => dest = 0
    | 6 => dest = 0 || dest = 1
    | _ => true
  if d.laneRefused force || !ok then d.laneReject
  else
    let d := if d.rxSt = 6 && dest = 1 then d.setDetail 0 d.rng.txDet else d
    if dest = 1 then d.rxDetect else if dest = 5 then d.rxTestEnter else d.rxEnter 0

/-- tx_retrain, tx_sleep, tx_test. -/
def Dev.txCmd (d : Dev) (force : Bool) (dest : Nat) : Dev :=
  let ok := match d.txSt with
    | 0 => false
    | 5 => dest = 0
    | 6 => dest = 0 || dest = 1
    | _ => true
  if d.laneRefused force || !ok then d.laneReject
  else
    -- a committed rate recorded for a receive direction that trains anew goes with the TS2 that it had BASE send (R131)
    let d := d.when (!([2, 3, 4].contains d.rxSt)) Dev.forget
    (d.modRng fun r => { r with txDet := if d.txSt = 6 then 0 else r.txDet, txSeen := false, detAt := d.sys.now8 }).txEnter dest

def Dev.rxWake (d : Dev) : Dev := if d.rxSt = 0 then d.rxDetect else d.laneReject
def Dev.txWake (d : Dev) : Dev :=
  if d.txSt = 0 then (d.modRng fun r => { r with txSeen := false, detAt := d.sys.now8 }).txEnter 1 else d.laneReject

/-- test_exit: both directions leave TEST; the checkers return to their modes, the generators stop: "Generator off" of R135 is taken as
mode 0 of RNG_TXl_GEN_CTRL (DESIGN CHOICE, see the log). -/
def Dev.testExit (d : Dev) : Dev :=
  if d.rxSt ≠ 5 && d.txSt ≠ 5 then d.laneReject
  else
    let d := if d.rxSt = 5 then
        (d.each (List.range 8) fun d l => d.put (F.RNG_RXl_CHK_CTRL.mode l) (d.rng.chkPrev.getD l 0)).rxDetect else d
    if d.txSt = 5 then
      (d.each (List.range 8) fun d l => d.put (F.RNG_TXl_GEN_CTRL.mode l) 0).txEnter 1 else d

/-- manual_done (R139): every used lane is locked at its slip; RL-1 takes its order and polarity from RNG_LANE_MAP, RL-2 what its
training sequences showed. -/
def Dev.manualDone (d : Dev) : Dev :=
  if d.rxSt = 2 && d.manual then
    (if d.ringGen = 1 then d.laneMapped
      else d.laneApply (d.on F.RNG_LANE_STATUS.reversed) fun l => d.getBit F.RNG_LANE_STATUS.polarity l).rxEnter 3
  else d.laneReject

/-- CHECKER_CLEAR (R138): what the checker has counted goes. -/
def Dev.chkClear (d : Dev) (l : Nat) : Dev :=
  let d := d.chkUpdate l
  ((d.wr (R.RNG_RXl_BITS l) 0).wr (R.RNG_RXl_ERRS l) 0).put (F.RNG_RXl_STATUS.pattern_locked l) 0

/-- One inverted bit of a used transmit lane, of the pattern in TEST or of the traffic in FORWARD (R140). -/
def Dev.inject (d : Dev) (l : Nat) : Dev :=
  if (d.txSt = 4 || d.txSt = 5) && l < d.ringW then
    (d.emit (.invert l (if d.txSt = 4 && d.get (F.RNG_TXl_INJECT.target l) = 1 then 1 else 0))).count (F.RNG_TXl_INJECT_COUNT.count l)
  else d

/-- INJECT_PERIODIC (R140): 2^interval bits of the lane after the one before. -/
def Dev.injectNext (d : Dev) (l : Nat) : Dev :=
  if !d.on (F.RNG_TXl_INJECT.periodic l) || !(d.txSt = 4 || d.txSt = 5) || d.ringW ≤ l then d
  else
    let rate := lineRate d.rng.txRate * 8
    let d := d.advance8To (Store.get 0 d.rng.injAt l + (2 ^ max 10 (d.get (F.RNG_TXl_INJECT.interval l)) * 1000 + rate - 1) / rate)
    (d.modRng fun r => { r with injAt := Store.set 0 r.injAt l d.sys.now8 }).inject l

/-- LINK has come on after a full reset, the image being distributed: maximum rate, limits, DETECT or SLEEP (R123, R137, R153). -/
def Dev.rngInit (d : Dev) : Dev :=
  let d := d.put F.RNG_LANE_CFG.max_rate (if d.ringGen = 1 then 1 else if d.ringGen = 2 then 3 else 5)
  let d := d.put (limitF false) (d.shareCredits false)
  let d := if d.twin then d.put (limitF true) (d.shareCredits true) else d
  d.each [false, true] fun d g => d.modRx g fun x => { x with sent := d.get (limitF g) }

/-- Phase 7 starts: both directions in DETECT (R137, the table of R61). -/
def Dev.rngStart (d : Dev) : Dev :=
  let d := d.rxDetect
  (d.modRng fun r => { r with commit := 0, ts2 := [], txSeen := false, detAt := d.sys.now8 }).txEnter 1

/-- Phase 7 is done (R135). -/
def Dev.rngDone (d : Dev) : Bool :=
  d.rxSt = 4 && (d.ringGen = 1 || d.on F.RNG_LANE_STATUS.committed) && d.txSt = 4

/-- The phase-7 timeout (R134, R135). Answers the cause: 0 where no direction fails. -/
def Dev.rngTimeout (d : Dev) : Dev × Nat :=
  let rx := match d.rxSt with | 1 => 1 | 2 => 4 | 3 => 9 | 6 => d.rng.rxDet | _ => 0
  let d := if d.rxSt = 6 || rx = 0 then d else d.rxFail rx
  let tx := match d.txSt with | 1 => 2 | 2 => if rx = 0 then 4 else rx | 6 => d.rng.txDet | _ => 0
  let d := if d.txSt = 6 || tx = 0 then d else d.txFail tx
  let det := if rx = 0 then tx else if tx = 0 then rx else min rx tx
  (d, if det = 0 then 3 else if det ≤ 2 then det else if det ≤ 7 then 3 else 4)

/-- SYS_BRINGUP_CTRL.retry of phase 7 (R63): each failed direction returns to DETECT. -/
def Dev.rngRetry (d : Dev) : Dev :=
  let d := if d.rxSt = 6 then (d.setDetail 0 d.rng.txDet).rxDetect else d
  if d.txSt = 6 then
    (d.modRng fun r => { r with txDet := 0, txSeen := false, detAt := d.sys.now8 }).txEnter 1 else d

/-- The source block resets of sources 16 and 17 (R370). -/
def Dev.rngRxReset (d : Dev) : Dev := d.rxCmd true 1
def Dev.rngTxReset (d : Dev) : Dev := d.txCmd true 1

/-- A host reset discards the frames that the DMA engine has not taken; their credits return (R153, R155). -/
def Dev.rngHostReset (d : Dev) : Dev :=
  d.each d.streams fun d g =>
    let n := d.get (fillF g)
    let d := (d.modRx g fun x => { x with frames := [] }).put (fillF g) 0
    if n = 0 then d else d.growCredit g n

/-- Byte i of a unit. -/
def ub (u : List Nat) (i : Nat) : Nat := u.getD i 0

/-! ### Control symbols (R145, R150) -/

/-- The streams that a stream address names: own, group, or both for 0xFF. -/
def Dev.named (d : Dev) (stream : Nat) : List Bool :=
  if stream = 0xFF then d.streams
  else if stream = d.ringAddr then [false]
  else if d.twin && stream = d.role.addrGroup then [true] else []

/-- Send a received unit on: after an overflow of the forwarding buffer it is dropped, up to the next SOF (R152). -/
def Dev.fwdOut (d : Dev) (u : List Nat) : Dev := if d.rng.drop = 0 then d.ringOut u else d

/-- Forward a symbol of the RIP unless it carries the own ring address (R145). -/
def Dev.passSym (d : Dev) (stream : Nat) (u : List Nat) : Dev := if stream = d.ringAddr then d else d.fwdOut u

/-- An idle unit: dropped in place of an inserted one while the forwarding buffer is not empty (R152), else sent on. -/
def Dev.idleUnit (d : Dev) : Dev :=
  if d.rng.fwd ≠ 0 then d.modRng fun r => { r with fwd := r.fwd - 1 } else d.fwdOut (d.unitType 0x1E 0xBC :: List.replicate 7 0)

/-- QUERY: ACK and CREDIT for the stream at once. -/
def Dev.ringQuery (d : Dev) (stream v : Nat) : Dev :=
  if d.rxSt ≠ 4 then d
  else
    let d := d.each (d.named stream) fun d g => (d.sendAck g).sendCredit g
    d.passSym stream (d.ctlUnit 0x20 0 stream v)

/-- NOTE from the RIP. -/
def Dev.ringNote (d : Dev) (stream v : Nat) : Dev :=
  if d.rxSt ≠ 4 then d
  else
    let d := if (d.named stream).isEmpty then d else (d.put F.RNG_NOTE_RX.value v).protoFlag 0
    d.passSym stream (d.ctlUnit 0x21 0 stream v)

/-- A control unit as it arrives: its type (R142; any other is treated as idle), its CRC, then its code, origin and stream. -/
def Dev.ringCtl (d : Dev) (u : List Byte) : Dev :=
  let b := u.map BitVec.toNat
  let v := leVal ((b.drop 4).take 3)
  if d.rxSt ≠ 4 then d
  else if ub b 0 ≠ d.unitType 0xC5 0x5C then d.idleUnit
  else if b.length ≠ 8 || crc8 (b.take 7) ≠ ub b 7 then
    (((d.count (F.RNG_CNT_c.count 9)).protoFlag 5).reportOpen 16).fwdOut (d.unitType 0x1E 0xBC :: List.replicate 7 0)
  else if ub b 2 ≠ 0 then d.fwdOut b
  else if ub b 1 = 0x20 then d.ringQuery (ub b 3) v
  else if ub b 1 = 0x21 then d.ringNote (ub b 3) v
  else d.passSym (ub b 3) b

/-! ### Frames (R143-R148, R154) -/

/-- The fields of a frame. -/
structure FrameFields where
  dest  : Nat
  kind  : Nat
  seq   : Nat
  flags : Nat
  nwords : Nat
  hdr   : RxFrame
  payload : List (List Nat)
  resOk : Bool

/-- Read the SOF and the header units (R143). -/
def frameFields (us : List (List Nat)) : FrameFields :=
  let sof := us.headD []
  let h1 := us.getD 1 []
  let h2 := us.getD 2 []
  let w := ub sof 7 + 1
  { dest := ub sof 1, kind := ub sof 2, seq := leVal ((sof.drop 3).take 3), flags := ub sof 6
    nwords := if bit (ub h1 2) 4 then 2 * w else w
    hdr := ⟨leVal (h1.take 2), ub h1 2 % 16, leVal ((h1.drop 4).take 4), leVal (h2.take 2), leVal ((h2.drop 2).take 2), []⟩
    payload := us.drop 3
    resOk := ub sof 6 < 4 && ub h1 2 < 32 && ub h1 3 = 0 && leVal ((h2.drop 4).take 4) = 0 && 3 ≤ us.length }

/-- The open descriptor that holds a tag (R105): LOADING, ADMITTED or PICKED. -/
def Dev.openDesc (d : Dev) (tag : Nat) : Option Nat :=
  (List.range 32).find? fun k => 1 ≤ d.shtState k && d.shtState k ≤ 3 && d.tagOf k = tag && tag ≠ 0

/-- The bytes [offset, offset + len) lie inside the plane that a frame names (R144): its lines are those of the open sheet. -/
def Dev.frameInPlane (d : Dev) (f : RxFrame) (len : Nat) : Bool :=
  let tag := bit f.plane 3
  match d.chan (f.plane % 8) with
  | none => false
  | some c => (!tag || c.tagPlane = 1) && (match d.openDesc f.tag with
    | none => true
    | some k => f.offset + len ≤ stride c tag * d.get (F.SHT_Dd_LINES.input_lines k))

/-- A malformed frame (R144); one of a reserved kind (R143) is taken as one (DESIGN CHOICE, see the log). -/
def Dev.malformed (d : Dev) (f : FrameFields) (fin : List Nat) : Bool :=
  let carried := bit f.flags 1
  f.kind ≠ 1 || !f.resOk || ub fin 5 ≠ 0 || ub fin 6 ≠ 0 || ub fin 7 ≠ 0 || f.hdr.offset % 8 ≠ 0
    || (carried && f.nwords % 8 ≠ 0) || f.payload.length ≠ (if carried then f.nwords + f.nwords / 8 else f.nwords)
    || !d.frameInPlane f.hdr (8 * f.nwords)

/-- A failure of R146 or a malformed frame: counted, status bit 1, reported under bit 16. -/
def Dev.frameFail (d : Dev) : Dev := ((d.count (F.RNG_CNT_c.count 1)).protoFlag 1).reportOpen 16

/-- Take the payload into the buffer (R154): carried words are decoded against their check bytes. -/
def Dev.takeWords (d : Dev) (carried : Bool) : Nat → List (List Nat) → List (Nat × Bool) → Dev × List (Nat × Bool)
  | 0, _, acc => (d, acc)
  | n + 1, us, acc =>
    if !carried then (d, us.map fun u => (leVal u, false))
    else if us.isEmpty then (d, acc)
    else
      let chk := us.getD 8 []
      let (d, ws) := ((us.take 8).zipIdx).foldl (fun (d, ws) (u, i) =>
        let v := leVal u
        let (v', o) := decodeWord v (ub chk i ^^^ checkByte v)
        match o with
        | .clean => (d, ws ++ [(v, false)])
        | .corrected => (d.count (F.RNG_CNT_c.count 6), ws ++ [(v', false)])
        | .uncorrectable => (((d.count (F.RNG_CNT_c.count 7)).protoFlag 4).reportOpen 16, ws ++ [(v, true)])) (d, [])
      d.takeWords carried n (us.drop 9) (acc ++ ws)

/-- Credits of a frame of W words (R153). -/
def frameCredits (w : Nat) : Nat := (w + 31) / 32

/-- Accept a frame into a stream (R148, R153). -/
def Dev.acceptFrame (d : Dev) (g : Bool) (f : FrameFields) : Dev :=
  let (d, ws) := d.takeWords (bit f.flags 1) 65 f.payload []
  let d := d.modRx g fun x => { x with frames := x.frames ++ [{ f.hdr with words := ws }] }
  let d := d.put (fillF g) (d.get (fillF g) + frameCredits f.nwords)
  ((d.put (expectF g) (f.seq + 1)).put (syncedF g) 1).count (F.RNG_CNT_c.count 0)

/-- The receive decisions of R148 for a frame that has passed R146. A frame that is malformed and lacks a required check too counts
as malformed: R154 orders the two nowhere (DESIGN CHOICE, see the log). -/
def Dev.judgeFrame (d : Dev) (g : Bool) (f : FrameFields) (fin : List Nat) : Dev :=
  if d.malformed f fin then d.frameFail
  else if d.on F.RNG_PROTO_CFG.check_required && !bit f.flags 1 then (d.count (F.RNG_CNT_c.count 8)).reportOpen 16
  else
    let room : Bool := d.get (fillF g) + frameCredits f.nwords ≤ d.shareCredits g
    let overrun := fun (d : Dev) => ((d.count (F.RNG_CNT_c.count 4)).protoFlag 3).reportOpen 16
    if !d.on (syncedF g) then
      if !bit f.flags 0 then ((d.protoFlag 6).reportOpen 16).sendResync g
      else if room then d.acceptFrame g f
      else (overrun d).sendResync g
    else
      let dist := (f.seq + 2 ^ 24 - d.get (expectF g)) % 2 ^ 24
      if dist = 0 then (if room then d.acceptFrame g f else (overrun d).sendNak g)
      else if dist < 2 ^ 23 then (((d.count (F.RNG_CNT_c.count 2)).protoFlag 2).reportOpen 16).sendNak g
      else d.count (F.RNG_CNT_c.count 3)

/-- NAK or RESYNC for a failed or stomped frame of a stream (R148). -/
def Dev.nakFailed (d : Dev) (g : Bool) : Dev := if d.on (syncedF g) then d.sendNak g else d.sendResync g

/-- FORWARD_BUFFER_OVERFLOW (R152): EOFS at the point of overflow in the frame in progress, whose units forwarded so far are
`part`; the units that the buffer holds are dropped, and those that arrive up to the next SOF. -/
def Dev.fwdOverflow (d : Dev) (part : List (List Nat)) : Dev :=
  if d.txSt ≠ 4 then d
  else
    let d := if part.isEmpty then d
      else d.emit (.ring (d.unitType 0xB7 0xFE :: leBytes 4 (frameCrc part) ++ [d.get F.RNG_POSITION.hop, 0, 0]))
    (((d.modRng fun r => { r with fwd := 0, drop := if part.isEmpty then 1 else 2 }).count (F.RNG_CNT_c.count 10)).protoFlag 7).reportOpen 17

/-- An own symbol may leave at the next boundary: one waits, and 256 unit times have passed since the last (R151). -/
def Dev.symReady (d : Dev) : Bool := d.txSt = 4 && !d.rng.syms.isEmpty && d.rng.insAt ≤ d.sys.now8

/-- The oldest own symbol leaves (R151, R152): the forwarding buffer holds one unit more, and overflows where it is full, in the frame
whose units forwarded so far are `part`. -/
def Dev.symSend (d : Dev) (part : List (List Nat)) : Dev :=
  match d.rng.syms with
  | [] => d
  | y :: ys =>
    let rate := lanePayload (d.get F.RNG_LANE_STATUS.rate) * d.ringW * 8
    let full : Bool := 64 ≤ d.rng.fwd
    let d := d.modRng fun r => { r with syms := ys, fwd := min 64 (r.fwd + 1), insAt := d.sys.now8 + (256 * 64 * 1000 + rate - 1) / rate }
    let d := (d.put F.RNG_PROTO_STATUS.sym_queue ys.length).emit (.ring (d.ctlUnit y.code d.ringAddr y.stream y.value))
    if full then d.fwdOverflow part else d

/-- OWN_SYMBOL_INSERT (R151): the oldest symbol leaves between two frames, at most one in 256 unit times. -/
def Dev.symInsert (d : Dev) : Dev :=
  if d.rng.syms.isEmpty || d.txSt ≠ 4 then d else (d.advance8To d.rng.insAt).symSend []

/-- The units of a frame leave, unless it is consumed, with the control units inside it in their received order (R145, R151). Where no
more of those are to come, an own symbol that may leave does so after the next unit. `sent` are the units sent so far. -/
def Dev.passFrame (d : Dev) (own : Bool) (sent us : List (List Nat)) (ctls : List (Nat × List Byte)) (fin : List Nat) : Dev :=
  match ctls with
  | [] =>
    if !d.symReady then (if own then d else d.fwdOut (us.flatten ++ fin))
    else if own then d.symSend []
    else
      let d := if us.isEmpty then d else d.fwdOut (us.headD [])
      (d.symSend (sent ++ us.take 1)).fwdOut ((us.drop 1).flatten ++ fin)
  | c :: cs =>
    let d := if own || c.1 = 0 then d else d.fwdOut (us.take c.1).flatten
    (d.ringCtl c.2).passFrame own (sent ++ us.take c.1) (us.drop c.1) cs fin

/-- A frame that starts with its SOF and holds units and control units in order (R142, R145-R148): forwarded by dest, stomped where it
fails, accepted or discarded. A unit of another type where an end stands cuts the frame short. -/
def Dev.wholeFrame (d : Dev) (us : List (List Nat)) (ctls : List (Nat × List Byte)) (end_ : FrameEnd) : Dev :=
  let d := d.modRng fun r => { r with drop := if r.drop = 2 then 2 else 0 }
  let f := frameFields us
  let own : Bool := f.dest = d.ringAddr
  let grp := d.twin && f.dest = d.role.addrGroup
  let strm : Option Bool := if own then some false else if grp then some true else none
  let eofs := d.unitType 0xB7 0xFE :: leBytes 4 (frameCrc us) ++ [d.get F.RNG_POSITION.hop, 0, 0]
  let last := match end_ with
    | .eof u => some (u.map BitVec.toNat)
    | .eofs u => some (u.map BitVec.toNat)
    | .cut => none
  let fin := last.getD eofs
  let stomped : Bool := ub fin 0 = d.unitType 0xB7 0xFE && last.isSome
  let cut : Bool := !stomped && ub fin 0 ≠ d.unitType 0xB4 0xDC
  let failed : Bool := !stomped && (cut || us.length > 581 || leVal ((fin.drop 1).take 4) ≠ frameCrc us)
  let out := if failed && (cut || d.on F.RNG_PROTO_CFG.stomp_enable) then eofs else fin
  let d := (d.passFrame own [] us ctls out).modRng fun r => { r with drop := min 1 r.drop }
  if failed then
    let d := d.frameFail
    match strm with | some g => d.nakFailed g | none => d
  else if stomped then
    let d := d.count (F.RNG_CNT_c.count 5)
    match strm with | some g => d.nakFailed g | none => d
  else match strm with
  | some g => d.judgeFrame g f fin
  | none => d

/-- RING_FRAME_RECEIVED (R142, R143, R146): a unit of another type where a SOF stands starts no frame. An idle, SOF or invalid unit
among the inner ones cuts the frame short; a SOF starts the next frame there, and behind another unit what follows belongs to no
frame and leaves as received (DEDUCED, see the log). -/
def Dev.ringFrame (d : Dev) (us : List (List Nat)) (ctls before : List (Nat × List Byte)) (end_ : FrameEnd) : Dev :=
  if d.rxSt ≠ 4 then d
  else if ub (us.headD []) 0 ≠ d.unitType 0xA3 0xFB then d.idleUnit
  else match ctls with
  | [] => d.wholeFrame us before end_
  | c :: cs =>
    let b := c.2.map BitVec.toNat
    if ub b 0 = d.unitType 0xC5 0x5C then d.ringFrame us cs (before ++ [c]) end_
    else
      let at_ := ((before ++ [c]).map Prod.fst).foldl (· + ·) 0
      let d := d.wholeFrame (us.take at_) before .cut
      if ub b 0 = d.unitType 0xA3 0xFB then d.ringFrame (b :: us.drop at_) cs [] end_
      else
        let fin := match end_ with
          | .eof u => u.map BitVec.toNat
          | .eofs u => u.map BitVec.toNat
          | .cut => []
        d.idleUnit.passFrame false [] (us.drop at_) cs fin

/-- ACK_INTERVAL (R149). -/
def Dev.ackInterval (d : Dev) : Dev :=
  if d.txSt ≠ 4 then d
  else
    let d := d.advance8To (d.rng.ackAt + max 1 (d.get F.RNG_PROTO_CFG.ack_interval_us) * 125)
    (d.modRng fun r => { r with ackAt := d.sys.now8 }).each d.streams Dev.sendAck

/-! ### The commands -/

/-- RX_SIGNAL_DETECT (R134). -/
def execRxSignalDetect (s : State) : Host.Outcome State Fault Refusal := s.onDev (·.rxSignal)
/-- RX_LANES_LOCKED (R134). -/
def execRxLanesLocked (r : LaneReport) (s : State) : Host.Outcome State Fault Refusal := s.onDev (·.rxLocked r)
/-- RX_DESKEW_DONE (R133). -/
def execRxDeskewDone (r : DeskewReport) (s : State) : Host.Outcome State Fault Refusal := s.onDev (·.rxDeskew r)
/-- RX_LOCK_LOST (R134). -/
def execRxLockLost (cause : LockLoss) (s : State) : Host.Outcome State Fault Refusal := s.onDev (·.rxLockLost cause)
/-- TS_RECEIVED (R130). -/
def execTsReceived (ts : List Byte) (s : State) : Host.Outcome State Fault Refusal := s.onDev (·.tsReceived ts)
/-- EQUALISER_ADAPT_DONE (R125). -/
def execEqualiserAdaptDone (s : State) : Host.Outcome State Fault Refusal := s.onDev (·.adaptDone)
/-- EYE_REMEASURE (R124). -/
def execEyeRemeasure (lane : Fin 8) (eye : Nat) (centre : Int) (s : State) : Host.Outcome State Fault Refusal :=
  s.onDev (·.eyeMeasure lane eye centre)
/-- TX_RECEIVER_DETECT (R135). -/
def execTxReceiverDetect (present : BitVec 8) (s : State) : Host.Outcome State Fault Refusal := s.onDev (·.txDetect present.toNat)
/-- TS3_SENT (R135). -/
def execTs3Sent (s : State) : Host.Outcome State Fault Refusal := s.onDev (·.ts3Sent)
/-- ELASTIC_ERROR (R127). -/
def execElasticError (lane : Fin 8) (overflow : Bool) (s : State) : Host.Outcome State Fault Refusal := s.onDev (·.elastic lane overflow)
/-- RX_RETRAIN (R136). -/
def execRxRetrain (force : Bool) (s : State) : Host.Outcome State Fault Refusal := s.onDev fun d => d.reach R.RNG_LANE_CMD.off (·.rxCmd force 1)
/-- TX_RETRAIN (R136). -/
def execTxRetrain (force : Bool) (s : State) : Host.Outcome State Fault Refusal := s.onDev fun d => d.reach R.RNG_LANE_CMD.off (·.txCmd force 1)
/-- RX_SLEEP (R137). -/
def execRxSleep (force : Bool) (s : State) : Host.Outcome State Fault Refusal := s.onDev fun d => d.reach R.RNG_LANE_CMD.off (·.rxCmd force 0)
/-- TX_SLEEP (R137). -/
def execTxSleep (force : Bool) (s : State) : Host.Outcome State Fault Refusal := s.onDev fun d => d.reach R.RNG_LANE_CMD.off (·.txCmd force 0)
/-- RX_WAKE (R134). -/
def execRxWake (s : State) : Host.Outcome State Fault Refusal := s.onDev fun d => d.reach R.RNG_LANE_CMD.off (·.rxWake)
/-- TX_WAKE (R135). -/
def execTxWake (s : State) : Host.Outcome State Fault Refusal := s.onDev fun d => d.reach R.RNG_LANE_CMD.off (·.txWake)
/-- RX_TEST (R136). -/
def execRxTest (force : Bool) (s : State) : Host.Outcome State Fault Refusal := s.onDev fun d => d.reach R.RNG_LANE_CMD.off (·.rxCmd force 5)
/-- TX_TEST (R136). -/
def execTxTest (force : Bool) (s : State) : Host.Outcome State Fault Refusal := s.onDev fun d => d.reach R.RNG_LANE_CMD.off (·.txCmd force 5)
/-- TEST_EXIT (R134). -/
def execTestExit (s : State) : Host.Outcome State Fault Refusal := s.onDev fun d => d.reach R.RNG_LANE_CMD.off (·.testExit)
/-- MANUAL_DONE (R139). -/
def execManualDone (s : State) : Host.Outcome State Fault Refusal := s.onDev fun d => d.reach R.RNG_LANE_CMD.off (·.manualDone)
/-- CHECKER_CLEAR (R138). -/
def execCheckerClear (lane : Fin 8) (s : State) : Host.Outcome State Fault Refusal := s.onDev fun d => d.reach (R.RNG_RXl_CHK_CTRL lane).off (·.chkClear lane)
/-- INJECT_SINGLE (R140). -/
def execInjectSingle (lane : Fin 8) (s : State) : Host.Outcome State Fault Refusal := s.onDev fun d => d.reach (R.RNG_TXl_INJECT lane).off (·.inject lane)
/-- INJECT_PERIODIC (R140). -/
def execInjectPeriodic (lane : Fin 8) (s : State) : Host.Outcome State Fault Refusal :=
  s.onDev (·.injectNext lane)
/-- RING_FRAME_RECEIVED (R148). -/
def execRingFrameReceived (f : RingFrame) (ctls : List (Nat × List Byte)) (s : State) : Host.Outcome State Fault Refusal :=
  s.onDev (·.ringFrame (f.units.map fun u => u.map BitVec.toNat) ctls [] f.fin)
/-- QUERY (R150). -/
def execQuery (stream : Byte) (s : State) : Host.Outcome State Fault Refusal := s.onDev (·.ringQuery stream.toNat 0)
/-- NOTE (R150). -/
def execNote (stream : Byte) (v : BitVec 24) (s : State) : Host.Outcome State Fault Refusal :=
  s.onDev (·.ringNote stream.toNat v.toNat)
/-- CONTROL_UNIT_RECEIVED (R150). -/
def execControlUnitReceived (u : List Byte) (s : State) : Host.Outcome State Fault Refusal := s.onDev (·.ringCtl u)
/-- NOTE_TX (R159). -/
def execNoteTx (v : BitVec 24) (s : State) : Host.Outcome State Fault Refusal := s.onDev fun d => d.reach R.RNG_NOTE_TX.off (·.sendSym 0x06 0xFF v.toNat)
/-- ACK_INTERVAL (R149). -/
def execAckInterval (s : State) : Host.Outcome State Fault Refusal := s.onDev (·.ackInterval)
/-- OWN_SYMBOL_INSERT (R151). -/
def execOwnSymbolInsert (s : State) : Host.Outcome State Fault Refusal := s.onDev (·.symInsert)
/-- FORWARD_BUFFER_OVERFLOW (R152). -/
def execForwardBufferOverflow (part : List (List Byte)) (s : State) : Host.Outcome State Fault Refusal :=
  s.onDev (·.fwdOverflow (part.map fun u => u.map BitVec.toNat))

end Sys2Proof.Machine
end

