-- ==== Sys2Proof/Machine/Dma.lean ====
section
/-! DEFINITION. The DMA engine: queues, descriptors, the region guard, ring-mode queues (R161-R163, R173-R185). -/

namespace Sys2Proof.Machine

/-! ### Queues -/

def Dev.dq (d : Dev) (q : Nat) : DmaQ := Store.get {} d.dmaq q
def Dev.putDq (d : Dev) (q : Nat) (x : DmaQ) : Dev := { d with dmaq := Store.set {} d.dmaq q x }
def Dev.modDq (d : Dev) (q : Nat) (f : DmaQ → DmaQ) : Dev := d.putDq q (f (d.dq q))

/-- The ring stream a queue moves: none in chain mode; mode 3 acts as 0. -/
def Dev.ringMode (d : Dev) (q : Nat) : Option Bool :=
  match d.get (F.DMA_Qq_CFG.mode q) with | 1 => some false | 2 => some true | _ => none

/-- State of a queue (R181): a ring-mode queue is in WAIT while its stream holds a frame and in IDLE otherwise (R179). -/
def Dev.qSt (d : Dev) (q : Nat) : Nat :=
  let st := d.get (F.DMA_Qq_STATUS.state q)
  if st = 1 || st = 2 then
    match d.ringMode q with
    | some g => if (d.rxS g).frames.isEmpty then 1 else 2
    | none => st
  else st

def Dev.qEnter (d : Dev) (q st : Nat) : Dev := d.put (F.DMA_Qq_STATUS.state q) st
/-- The queue in RUN. -/
def Dev.qRunning (d : Dev) : Option Nat := (List.range 16).find? fun q => d.qSt q = 3
def Dev.dmaReject (d : Dev) : Dev := d.count F.DMA_REJECT.count
/-- SAFE_IDLE or ORPHAN_HOLD: no queue is granted (R174). -/
def Dev.dmaHeld (d : Dev) : Bool := d.get F.SYS_HOST_STATE.state = 4 || d.get F.SYS_HOST_STATE.state = 2

/-- Set bit q of DMA_QDONE or DMA_QERR; vector 11 with its enable (R185). -/
def Dev.qDone (d : Dev) (q : Nat) : Dev :=
  let was := d.getBit F.DMA_QDONE.done q
  let d := d.putBit F.DMA_QDONE.done q true
  if !was && d.getBit F.DMA_IRQ_EN.done_en q then d.post 11 else d
def Dev.qErr (d : Dev) (q : Nat) : Dev :=
  let was := d.getBit F.DMA_QERR.error q
  let d := d.putBit F.DMA_QERR.error q true
  if !was && d.getBit F.DMA_IRQ_EN.err_en q then d.post 11 else d

/-! ### Descriptors (R176) -/

/-- A descriptor's fields. -/
structure Desc where
  next  : Nat
  eoc   : Bool
  src   : Nat
  op    : Nat
  irq   : Bool
  wb    : Bool
  tagDest : Bool
  chan  : Nat
  comps : Nat
  len   : Nat
  tag   : Nat
  first : Nat
  lines : Nat
  dst   : Nat
  map   : Nat

/-- Read a descriptor's six words. -/
def descOfWords (w : List Nat) : Desc :=
  let a := w.getD 0 0; let c := w.getD 2 0; let e := w.getD 3 0
  { next := a / 64 * 64, eoc := bit a 0, src := w.getD 1 0, op := bits c 63 60, irq := bit c 58, wb := bit c 57
    tagDest := bit c 56, chan := bits c 50 48, comps := bits c 47 45 + 1, len := bits c 31 0, tag := bits e 63 48
    first := bits e 47 32, lines := bits e 31 16, dst := w.getD 4 0, map := bits (w.getD 5 0) 31 0 }

/-- The reserved fields of a descriptor are zero (R176). -/
def descReserved (w : List Nat) : Bool :=
  bits (w.getD 0 0) 5 1 = 0 && bits (w.getD 2 0) 55 51 = 0 && bits (w.getD 2 0) 44 32 = 0 && bits (w.getD 3 0) 15 0 = 0
    && bits (w.getD 5 0) 63 32 = 0

/-- Components mapped by op 2: (component, channel). -/
def Desc.mapped (x : Desc) : List (Nat × Nat) :=
  (List.range x.comps).filterMap fun c =>
    let n := x.map / 16 ^ c % 16
    if 8 ≤ n then some (c, n % 8) else none

/-- P and content of a channel, 0 where it is not in use. -/
def Dev.chanP (d : Dev) (n : Nat) : Nat := ((d.chan n).map planeP).getD 0
def Dev.chanB (d : Dev) (n : Nat) : Nat := ((d.chan n).map planeBits).getD 0
def Dev.chanStride (d : Dev) (n : Nat) (tag : Bool) : Nat := ((d.chan n).map fun c => stride c tag).getD 0

/-- Stage 1 of R177. -/
def descStage1 (w : List Nat) (x : Desc) : Bool :=
  descReserved w && x.op < 4 && x.src % 8 = 0 && (x.op = 2 || x.map = 0) &&
  (if x.op < 2 then x.len % 8 = 0 && 8 ≤ x.len && x.dst % 8 = 0 else x.len % 8 = 0 && x.dst = 0 && 1 ≤ x.lines) &&
  (x.op ≠ 0 || (x.tag = 0 && decide (x.dst + x.len ≤ 2 ^ 30))) && !(x.op = 1 && x.tagDest && x.lines ≠ 0)

/-- The channels that the valid nibbles of chan_map name, those beyond the pixel's components too. -/
def Desc.named (x : Desc) : List Nat :=
  (List.range 8).filterMap fun c =>
    let n := x.map / 16 ^ c % 16
    if 8 ≤ n then some (n % 8) else none

/-- Stage 3 of R177, against the sheet of descriptor k. -/
def Dev.descStage3 (d : Dev) (x : Desc) (k : Nat) : Bool :=
  let cs := d.sheetChans k
  let lines := d.get (F.SHT_Dd_LINES.input_lines k)
  let p := d.chanP ((x.mapped.map (·.2)).headD 0)
  x.first + x.lines ≤ lines && (match x.op with
    | 1 => cs.contains x.chan && x.dst + x.len ≤
        (if x.tagDest && ((d.chan x.chan).map Chan.tagPlane).getD 0 = 0 then 0 else d.chanStride x.chan x.tagDest * lines)
    | 2 => x.named.all (fun n => cs.contains n) && x.mapped.all (fun m => d.chanB m.2 = 0 && d.chanP m.2 = p) &&
        (x.mapped.isEmpty || x.comps * p ≤ x.len)
    | _ => cs.contains x.chan && d.chanB x.chan ≠ 0 && (d.chanB x.chan * d.chanP x.chan + 7) / 8 ≤ x.len)

/-- What the three stages find: a result code, 0 where the descriptor passes. -/
def Dev.descCheck (d : Dev) (w : List Nat) (x : Desc) : Nat :=
  if !descStage1 w x then 0x14
  else if x.op = 0 then 0
  else match d.openDesc x.tag with
  | none => 0x18
  | some k => if d.descStage3 x k then 0 else 0x14

/-! ### Writes (R161-R163) -/

/-- Byte j of a plane is line content, not padding (R161). -/
def contentByte (c : Chan) (tag : Bool) (j : Nat) : Bool :=
  let r := j % max 1 (stride c tag)
  if tag then r < (planeP c + 3) / 4
  else if planeBits c = 0 then r < planeP c
  else let b := (planeP c + 7) / 8; r % max 1 (roundup64 b) < b

/-- A word of plane data with its padding bytes zero. -/
def padWord (c : Chan) (tag : Bool) (j v : Nat) : Nat :=
  leVal (((leBytes 8 v).zipIdx).map fun (b, i) => if contentByte c tag (j + i) then b else 0)

/-- The plane of channel n of descriptor e covers the byte at address a in region (b, sz) with an unfreed line (R163): a plane based
in the region follows it around, one based outside every region runs straight on. -/
def Dev.unfreedAt (d : Dev) (e n : Nat) (tag : Bool) (a b sz : Nat) : Bool :=
  match d.chan n with
  | none => false
  | some c =>
    let base := d.rd (if tag then R.SHT_Dd_TAGBASEn e n else R.SHT_Dd_BASEn e n)
    let st := stride c tag
    let ring : Bool := b ≤ base && base < b + sz
    if (tag && c.tagPlane = 0) || st = 0 || (!ring && ((d.regionOf base).isSome || a < base)) then false
    else
      let line := (if ring then (a - b + sz - (base - b)) % sz else a - base) / st
      line < d.get (F.SHT_Dd_LINES.input_lines e) && Store.get 0 d.sht.freed (8 * e + n) ≤ line

/-- The guard stalls a write of descriptor k at address a (R163). -/
def Dev.guarded (d : Dev) (k a : Nat) : Bool :=
  match d.regionOf a with
  | none => false
  | some (b, sz) => (List.range 32).any fun e =>
      1 ≤ d.shtState e && d.shtState e ≤ 3 && Store.get 0 d.sht.seq e < Store.get 0 d.sht.seq k &&
      (d.sheetChans e).any fun n => d.unfreedAt e n false a b sz || d.unfreedAt e n true a b sz

/-- The registers that a descriptor takes as they are when it is fetched (R419): the regions and DMA_CFG. -/
def Dev.dmaSet (d : Dev) : List Nat :=
  ((List.range 16).map fun r => d.rd (R.DMA_REGr_BASE r)) ++ ((List.range 16).map fun r => d.rd (R.DMA_REGr_SIZE r)) ++ [d.rd R.DMA_CFG]

/-- The device with those registers as the descriptor of queue q found them. -/
def Dev.asFetched (d : Dev) (q : Nat) : Dev :=
  d.each (d.dq q).set.zipIdx fun d p =>
    if p.2 < 16 then d.wr (R.DMA_REGr_BASE p.2) p.1 else if p.2 < 32 then d.wr (R.DMA_REGr_SIZE (p.2 - 16)) p.1 else d.wr R.DMA_CFG p.1

/-- Write words in order until the guard stalls one; `sheet` is the descriptor that must stay open, none for op 0. Answers the
words that remain and whether the sheet has closed. -/
def State.dmaWrite (s : State) (q : Nat) (tag : Option Nat) : List (Nat × Nat × Bool) → Nat → State × List (Nat × Nat × Bool) × Bool × Nat
  | [], n => (s, [], false, n)
  | (a, v, p) :: ws, n =>
    match tag with
    | none => ({ s.writeMem (a / 8) v p with dev := (s.writeMem (a / 8) v p).dev.countW F.DMA_BYTES.bytes 8 } : State).dmaWrite q tag ws (n + 8)
    | some t =>
      match s.dev.openDesc t with
      | none => (s, [], true, n)
      | some k =>
        if (s.dev.asFetched q).guarded k a then (s, (a, v, p) :: ws, false, n)
        else
          let s := s.writeMem (a / 8) v p
          ({ s with dev := s.dev.countW F.DMA_BYTES.bytes 8 } : State).dmaWrite q tag ws (n + 8)

/-! ### Failure (R183) -/

/-- Write a status word back (R176). -/
def Dev.writeBack (d : Dev) (addr res bytes : Nat) : Dev := d.emit (.hostWrite (addr + 0x38) [res <<< 56 + bytes % 2 ^ 32])

/-- The queue leaves its descriptor. -/
def Dev.qClear (d : Dev) (q : Nat) : Dev :=
  d.modDq q fun x => { x with fetch := 0, run := false, desc := [], got := 0, buf := [], line := 0, pend := [], bytes := 0, stall := 0, set := [] }

/-- A descriptor fails: status written back where it was fetched, whatever its writeback bit, STOP, DMA_QERR, a record under bit 18. -/
def Dev.dmaFail (d : Dev) (q res : Nat) : Dev :=
  let x := d.dq q
  let cur := d.rd (R.DMA_Qq_CURRENT q)
  let d := if x.run then d.writeBack cur res x.bytes else d
  let d := ((d.qClear q).put (F.DMA_Qq_STATUS.result q) res).qEnter q 5
  (d.qErr q).report 18 (res <<< 24 + q) (cur % 2 ^ 32)

/-- Try the writes that wait; a stall is timed from the first one that the guard holds. -/
def State.dmaFlush (s : State) (q : Nat) (tag : Option Nat) : State × Bool :=
  let (s, rest, closed, n) := s.dmaWrite q tag (s.dev.dq q).pend 0
  let d := s.dev.modDq q fun x =>
    { x with pend := rest, bytes := x.bytes + n
             stall := if rest.isEmpty then 0 else if n = 0 && x.stall ≠ 0 then x.stall else s.dev.now + 1 }
  ({ s with dev := d }, closed)

/-- Try the writes that wait; `gone` where their sheet has closed (R163, R183). -/
def State.flushOr (s : State) (q : Nat) (tag : Option Nat) (gone : Dev → Dev) : State :=
  let r := s.dmaFlush q tag
  if r.2 then { r.1 with dev := gone r.1.dev } else r.1

/-! ### Grant and fetch (R174, R180, R181) -/

/-- Fetch at CURRENT, or re-read its word 0. -/
def Dev.qFetch (d : Dev) (q : Nat) (reread : Bool) : Dev :=
  let set := if reread then [] else d.dmaSet
  let d := d.modDq q fun x => { x with fetch := if reread then 2 else 1, reread := false, set := set }
  d.emit (.hostRead (d.rd (R.DMA_Qq_CURRENT q)) (if reread then 8 else 48))

/-- QUEUE_GRANT. -/
def Dev.qGrant (d : Dev) : Dev :=
  if !d.on F.DMA_CTRL.enable || d.dmaHeld || d.qRunning.isSome then d
  else match ((List.range 16).map fun i => (d.dmaLast + 1 + i) % 16).find? fun q => d.qSt q = 2 with
  | none => d
  | some q =>
    let d := ({ d with dmaLast := q } : Dev).modDq q fun x => { x with hold := false }
    match d.ringMode q with
    | some g => (d.modDq q fun x => { x with frames := (d.rxS g).frames.length, run := false, pend := [], stall := 0 }).qEnter q 3
    | none => (d.qEnter q 3).qFetch q (d.dq q).reread

/-- The queue leaves RUN after what is in service: the host state holds the engine, or began to in this RUN (R174). -/
def Dev.qHeld (d : Dev) (q : Nat) : Bool := d.dmaHeld || (d.dq q).hold

/-- What follows a completion, or a re-read, of a descriptor whose word 0 is w (R181). -/
def Dev.qNext (d : Dev) (q w : Nat) : Dev :=
  if !bit w 0 then
    let d := d.wr (R.DMA_Qq_CURRENT q) (w / 64 * 64)
    if d.qHeld q then d.qEnter q 2 else d.qFetch q false
  else if d.get (F.DMA_Qq_STATUS.append_count q) ≠ 0 then
    let d := d.put (F.DMA_Qq_STATUS.append_count q) 0
    if d.qHeld q then (d.modDq q fun x => { x with reread := true }).qEnter q 2 else d.qFetch q true
  else d.qEnter q 4

/-- The read requests for len bytes at an address (R407): each of at most m bytes and inside one 4 KiB block. -/
def readPieces (m : Nat) : Nat → Nat → Nat → List (Nat × Nat)
  | 0, _, _ => []
  | fuel + 1, a, len =>
    let n := min len (min m (4096 - a % 4096))
    if n = 0 then [] else (a, n) :: readPieces m fuel (a + n) (len - n)

/-- Ask host memory for len bytes. -/
def Dev.askHostMem (d : Dev) (a len : Nat) : Dev := d.each (readPieces d.readMax len a len) fun d p => d.emit (.hostRead p.1 p.2)

/-- The reads of a descriptor's data (R176, R177). -/
def Dev.dataReads (d : Dev) (x : Desc) : Dev :=
  if x.op < 2 then d.askHostMem x.src x.len
  else
    let p := if x.op = 2 then d.chanP ((x.mapped.map (·.2)).headD 0) * x.comps else (d.chanB x.chan * d.chanP x.chan + 7) / 8
    d.each (List.range x.lines) fun d i => d.askHostMem (x.src + i * x.len) ((p + 7) / 8 * 8)

/-- DESCRIPTOR_FETCHED (R177), and the answer to a re-read (R180). -/
def Dev.descFetched (d : Dev) (q : Nat) (words : List Nat) : Dev :=
  let f := (d.dq q).fetch
  if d.qSt q ≠ 3 || f = 0 then d
  else
    let d := d.modDq q fun x => { x with fetch := 0 }
    if f = 2 then d.qNext q (words.getD 0 0)
    else
      let x := descOfWords words
      let d := d.modDq q fun y => { y with run := true, desc := words.take 6, got := 0, buf := [], line := 0, pend := [], bytes := 0, stall := 0 }
      match d.descCheck words x with
      | 0 => d.dataReads x
      | r => d.dmaFail q r

/-! ### Data (R168, R176, R177) -/

/-- Words of source that a descriptor reads: in all for ops 0 and 1, per line for ops 2 and 3. -/
def Dev.srcWords (d : Dev) (x : Desc) : Nat :=
  if x.op < 2 then x.len / 8
  else if x.op = 2 then (d.chanP ((x.mapped.map (·.2)).headD 0) * x.comps + 7) / 8
  else (d.chanB x.chan * d.chanP x.chan + 63) / 64

/-- The words of a run of bytes. -/
def wordsOf : Nat → List Nat → List Nat
  | 0, _ => []
  | n + 1, bs => leVal (bs.take 8) :: wordsOf n (bs.drop 8)

/-- A whole line of plane bytes at line `ln` of channel n of descriptor k, as writes; the rest of the stride is zero. -/
def Dev.lineWrites (d : Dev) (k n ln : Nat) (content : List Nat) : List (Nat × Nat × Bool) :=
  let st := d.chanStride n false
  let base := d.rd (R.SHT_Dd_BASEn k n)
  ((wordsOf (st / 8) (content ++ List.replicate (st - content.length) 0)).zipIdx).map fun (w, i) =>
    (d.planeAddr base (ln * st + 8 * i), w, false)

/-- Sub-line i of P pixels of b bits (R161): bit i of every pixel, 8 pixels a byte. -/
def subLine (src : List Nat) (p b i : Nat) : List Nat :=
  (List.range ((p + 7) / 8)).map fun j =>
    (List.range 8).foldl (fun v t =>
      let pos := b * (8 * j + t) + i
      if 8 * j + t < p && bit (src.getD (pos / 8) 0) (pos % 8) then v + 2 ^ t else v) 0

/-- The writes that one source line of op 2 or 3 makes. -/
def Dev.convertLine (d : Dev) (x : Desc) (k i : Nat) (src : List Nat) : List (Nat × Nat × Bool) :=
  if x.op = 2 then
    x.mapped.flatMap fun (c, n) =>
      d.lineWrites k n (x.first + i) ((List.range (d.chanP n)).map fun p => src.getD (p * x.comps + c) 0)
  else
    let b := d.chanB x.chan; let p := d.chanP x.chan
    let gap := roundup64 ((p + 7) / 8) - (p + 7) / 8
    d.lineWrites k x.chan (x.first + i)
      ((List.range b).flatMap fun j => subLine src p b j ++ List.replicate gap 0)

/-- The writes that source word number i of op 0 or 1 makes. -/
def Dev.copyWord (d : Dev) (x : Desc) (k : Option Nat) (i v : Nat) : Nat × Nat × Bool :=
  let j := x.dst + 8 * i
  match k, d.chan x.chan with
  | some k, some c =>
    let base := d.rd (if x.tagDest then R.SHT_Dd_TAGBASEn k x.chan else R.SHT_Dd_BASEn k x.chan)
    (d.planeAddr base j, padWord c x.tagDest j v, false)
  | _, _ => (j, v, false)

/-- Take one source word: it joins the writes that wait. -/
def Dev.takeWord (d : Dev) (q : Nat) (x : Desc) (k : Option Nat) (v : Nat) : Dev :=
  let y := d.dq q
  let m := d.asFetched q
  let n := d.srcWords x
  if x.op < 2 then
    if n ≤ y.got then d else d.putDq q { y with got := y.got + 1, pend := y.pend ++ [m.copyWord x k y.got v] }
  else if x.lines ≤ y.line then d
  else
    let buf := y.buf ++ leBytes 8 v
    if y.got + 1 < n then d.putDq q { y with got := y.got + 1, buf := buf }
    else d.putDq q { y with got := 0, buf := [], line := y.line + 1, pend := y.pend ++ m.convertLine x (k.getD 0) y.line buf }

/-- Every source word has arrived. -/
def Dev.srcDone (d : Dev) (q : Nat) (x : Desc) : Bool :=
  let y := d.dq q
  if x.op < 2 then d.srcWords x ≤ y.got else x.lines ≤ y.line || d.srcWords x = 0

/-- The answer to a fetch goes wrong (R183). -/
def Dev.fetchBad (d : Dev) (q : Nat) : CplStatus → Dev
  | .ok => d
  | .poisoned => d.dmaFail q 0x13
  | _ => d.dmaFail q 0x11

/-- A read of data goes wrong (R168, R183). -/
def Dev.dataBad (d : Dev) (q : Nat) : CplStatus → Dev
  | .ok => d
  | .poisoned => d.dmaFail q 0x13
  | .mismatch => ({ d with memx := { d.memx with mismatch := d.sys.now8 + 1 } } : Dev).dmaFail q 0x17
  | _ => d.dmaFail q 0x12

/-- The sheet of a descriptor's writes: none for op 0. -/
def Desc.sheet (x : Desc) : Option Nat := if x.op = 0 then none else some x.tag

/-- Data arrives (R177): its words join the writes that wait, and these go on. -/
def State.takeData (s : State) (q : Nat) (x : Desc) (vs : List Nat) : State :=
  if x.op ≠ 0 && (s.dev.openDesc x.tag).isNone then { s with dev := s.dev.dmaFail q 0x18 }
  else
    let d := s.dev.each vs fun d v => d.takeWord q x (x.sheet.bind s.dev.openDesc) v
    if d.memx.lost then { s with dev := d.dmaFail q 0x12 }
    else ({ s with dev := d } : State).flushOr q x.sheet (·.dmaFail q 0x18)

/-- DMA_READ_COMPLETION (R177, R183). -/
def State.dmaData (s : State) (q : Nat) (c : ReadCompletion) : State :=
  let y := s.dev.dq q
  if s.dev.qSt q ≠ 3 || (s.dev.ringMode q).isSome then s
  else if y.fetch ≠ 0 then { s with dev := s.dev.fetchBad q c.status }
  else if !y.run || s.dev.srcDone q (descOfWords y.desc) then s
  else if c.status = .ok then s.takeData q (descOfWords y.desc) (c.data.map BitVec.toNat)
  else { s with dev := s.dev.dataBad q c.status }

/-! ### Completion (R105, R175) -/

/-- The credits of a completed descriptor: channels, each with first_line and lines. -/
def Desc.creditChans (x : Desc) : List Nat :=
  match x.op with
  | 1 => if x.lines = 0 then [] else [x.chan]
  | 2 => (x.mapped.map (·.2)).eraseDups
  | 3 => [x.chan]
  | _ => []

/-- DESCRIPTOR_COMPLETE (R175). -/
def Dev.descComplete (d : Dev) (q : Nat) : Dev :=
  let y := d.dq q
  let x := descOfWords y.desc
  if d.qSt q ≠ 3 || !y.run || !d.srcDone q x || !y.pend.isEmpty then d
  else
    let cur := d.rd (R.DMA_Qq_CURRENT q)
    let (d, ok) := x.creditChans.foldl (fun (d, ok) n =>
      let (d, o) := d.credit x.tag n x.first x.lines
      (d, ok && o)) (d, true)
    let res := if ok then 0 else 2
    let d := if x.wb then d.writeBack cur res y.bytes else d
    let d := d.countW (F.DMA_Qq_DONE_COUNT.count q)
    let d := d.put (F.DMA_Qq_STATUS.result q) res
    let d := if x.irq then d.qDone q else d
    let d := (d.qClear q).modDq q fun z =>
      { z with doneAt := d.sys.now8 + 1, donePrev := cur, doneRef := !ok, doneWb := x.wb, doneBytes := y.bytes }
    d.qNext q (y.desc.getD 0 0)

/-! ### Ring-mode queues (R163, R179) -/

/-- A ring frame has been dealt with: it leaves the buffer, its credits return; the grant ends with its last frame. -/
def Dev.frameDone (d : Dev) (q : Nat) (g : Bool) (f : RxFrame) : Dev :=
  let c := frameCredits f.words.length
  let d := (d.modRx g fun x => { x with frames := x.frames.drop 1 }).put (fillF g) (d.get (fillF g) - c)
  let d := d.growCredit g c
  let d := (d.qClear q).modDq q fun x => { x with frames := x.frames - 1 }
  if (d.dq q).frames = 0 || d.qHeld q then d.qEnter q 1 else d

/-- The credit of a frame is refused (R105). -/
def Dev.frameRefused (d : Dev) (f : RxFrame) : Dev :=
  if f.lines = 0 then d
  else ((d.count F.SHT_CREDIT_ERR.count).shtFlag 7).report 21 (0xF0 <<< 24 + (f.plane % 8) <<< 16 + f.tag)
    (f.first <<< 16 + f.lines)

/-- The words of a frame as writes into the plane its header names. -/
def Dev.frameWrites (d : Dev) (k : Nat) (f : RxFrame) : List (Nat × Nat × Bool) :=
  let n := f.plane % 8
  let tag := bit f.plane 3
  match d.chan n with
  | none => []
  | some c =>
    let base := d.rd (if tag then R.SHT_Dd_TAGBASEn k n else R.SHT_Dd_BASEn k n)
    (f.words.zipIdx).map fun ((v, p), i) => (d.planeAddr base (f.offset + 8 * i), padWord c tag (f.offset + 8 * i) v, p)

/-- The credit of a frame whose words are in memory (R105, R179). -/
def Dev.frameCredit (d : Dev) (f : RxFrame) : Dev :=
  if f.lines = 0 then d
  else if bit f.plane 3 then d.frameRefused f
  else (d.credit f.tag (f.plane % 8) f.first f.lines).1

/-- RING_FRAME_MOVED (R179). With the memory lost the frame's writes are dropped, and so is its credit (R356). -/
def State.frameMoved (s : State) (q : Nat) : State :=
  match s.dev.ringMode q with
  | none => s
  | some g =>
    match (s.dev.rxS g).frames with
    | [] => s
    | f :: _ =>
      if s.dev.qSt q ≠ 3 then s
      else if s.dev.memx.lost then { s with dev := (s.dev.frameRefused f).frameDone q g f }
      else match s.dev.openDesc f.tag with
      | none => { s with dev := (s.dev.frameRefused f).frameDone q g f }
      | some k =>
        if !(s.dev.sheetChans k).contains (f.plane % 8) || !s.dev.frameInPlane f (8 * f.words.length) then
          { s with dev := (s.dev.frameRefused f).frameDone q g f }
        else
          let d := if (s.dev.dq q).run then s.dev
            else s.dev.modDq q fun x => { x with run := true, pend := s.dev.frameWrites k f }
          let r := ({ s with dev := d } : State).dmaFlush q (some f.tag)
          if r.2 then { r.1 with dev := (r.1.dev.frameRefused f).frameDone q g f }
          else if !(r.1.dev.dq q).pend.isEmpty then r.1
          else { r.1 with dev := (r.1.dev.frameCredit f).frameDone q g f }

/-- GUARD_STALL_RELEASE (R163): the writes that wait go on as far as the guard lets them. -/
def State.guardRelease (s : State) (q : Nat) : State :=
  let y := s.dev.dq q
  if s.dev.qSt q ≠ 3 || y.stall = 0 then s
  else match s.dev.ringMode q with
  | some g => match (s.dev.rxS g).frames with
    | [] => s
    | f :: _ =>
      if s.dev.memx.lost then { s with dev := (s.dev.frameRefused f).frameDone q g f }
      else s.flushOr q (some f.tag) fun d => (d.frameRefused f).frameDone q g f
  | none => if s.dev.memx.lost then { s with dev := s.dev.dmaFail q 0x12 } else s.flushOr q (some (descOfWords y.desc).tag) (·.dmaFail q 0x18)

/-- GUARD_TIMEOUT (R163). -/
def Dev.guardTimeout (d : Dev) (q : Nat) : Dev :=
  let y := d.dq q
  if d.qSt q ≠ 3 || y.stall = 0 then d
  else
    let d := d.advanceTo (y.stall - 1 + max 1 ((d.asFetched q).get F.DMA_CFG.guard_timeout_ms) * 125000)
    match d.ringMode q with
    | none => d.dmaFail q 0x16
    | some g => match (d.rxS g).frames with
      | [] => d
      | f :: _ => ((d.frameRefused f).frameDone q g f).report 18 (0x16 <<< 24 + q) (d.rd (R.DMA_Qq_CURRENT q) % 2 ^ 32)

/-- COMPLETION_TIMEOUT (R183), unless software has disabled it (R407). -/
def Dev.cplTimeout (d : Dev) (q : Nat) : Dev :=
  let y := d.dq q
  if d.qSt q ≠ 3 || (d.ringMode q).isSome || d.cplForever then d
  else
    let e := d.put F.SYS_CFG_HOST_ERR.cpl_timeout 1
    if y.fetch ≠ 0 then e.dmaFail q 0x11
    else if y.run && !d.srcDone q (descOfWords y.desc) then e.dmaFail q 0x12
    else d

/-! ### Commands (R173, R180-R184) -/

/-- START. -/
def Dev.dmaStart (d : Dev) (q addr : Nat) : Dev :=
  let st := d.qSt q
  if (d.ringMode q).isNone && (st = 1 || st = 4 || st = 5) then
    let d := d.wr (R.DMA_Qq_CURRENT q) (addr / 64 * 64)
    ((d.put (F.DMA_Qq_STATUS.append_count q) 0).modDq q fun x => { x with reread := false }).qEnter q 2
  else d.dmaReject

/-- APPEND. -/
def Dev.dmaAppend (d : Dev) (q : Nat) : Dev :=
  let st := d.qSt q
  if (d.ringMode q).isSome then d.dmaReject
  else if st = 2 || st = 3 then d.count (F.DMA_Qq_STATUS.append_count q)
  else if st = 4 then (d.modDq q fun x => { x with reread := true }).qEnter q 2
  else d.dmaReject

/-- Abort (R182): a completion that commits in the same clock stands. -/
def Dev.dmaAbort (d : Dev) (q : Nat) : Dev :=
  let st := d.qSt q
  let x := d.dq q
  if (d.ringMode q).isSome then d.dmaReject
  else if x.doneAt = d.sys.now8 + 1 && (st = 2 || st = 3 || st = 4) then
    let res := if x.doneRef then 2 else 1
    let d := if x.doneWb then d.writeBack x.donePrev res x.doneBytes else d
    (((d.qClear q).wr (R.DMA_Qq_CURRENT q) x.donePrev).put (F.DMA_Qq_STATUS.result q) res).qEnter q 5
  else if st = 2 then (d.put (F.DMA_Qq_STATUS.result q) 0x10).qEnter q 5
  else if st = 3 then
    let d := if x.run && (descOfWords x.desc).wb then d.writeBack (d.rd (R.DMA_Qq_CURRENT q)) 0x10 x.bytes else d
    ((d.qClear q).put (F.DMA_Qq_STATUS.result q) 0x10).qEnter q 5
  else d.dmaReject

/-- QUEUE_ENABLE (R173, R181): the mode is written while the queue is not enabled. -/
def Dev.qEnable (d : Dev) (q cfg : Nat) : Dev :=
  if d.on (F.DMA_Qq_CFG.enable q) then d
  else
    let d := d.put (F.DMA_Qq_CFG.mode q) (bits cfg 7 6)
    let taken := match d.ringMode q with
      | none => false
      | some g => (List.range 16).any fun p => p ≠ q && d.on (F.DMA_Qq_CFG.enable p) && d.ringMode p = some g
    if taken then d.dmaReject else (d.put (F.DMA_Qq_CFG.enable q) 1).qEnter q 1

/-- A write in flight at a disable lands or not, by a free value (R184). -/
def State.landOrNot (s : State) (x : Nat × Nat × Bool) : State :=
  let r := s.dev.freeVal 1
  let s := { s with dev := r.2 }
  if r.1 = 1 then s.writeMem (x.1 / 8) x.2.1 x.2.2 else s

/-- Disable a queue (R184): writes in flight land or not, each by a free value; counts are undefined; a ring frame is lost. -/
def State.qDisable (s : State) (q : Nat) : State :=
  if s.dev.qSt q = 0 then { s with dev := s.dev.put (F.DMA_Qq_CFG.enable q) 0 }
  else
    let s := (s.dev.dq q).pend.foldl State.landOrNot s
    let d := s.dev
    let d := match d.ringMode q, d.qSt q with
      | some g, 3 => match (d.rxS g).frames with
        | f :: _ => if (d.dq q).run then d.frameDone q g f else d
        | [] => d
      | _, _ => d
    let (a, d) := d.freeVal 64
    let (b, d) := d.freeVal 32
    let (c, d) := d.freeVal 8
    let d := (d.wr R.DMA_BYTES a).wr (R.DMA_Qq_DONE_COUNT q) b
    let d := (d.put (F.DMA_Qq_STATUS.append_count q) c).put (F.DMA_Qq_CFG.enable q) 0
    { s with dev := ((d.putDq q {})).qEnter q 0 }

/-- DMA_CTRL.enable = 0: every queue. -/
def State.dmaDisable (s : State) : State :=
  let s := (List.range 16).foldl (fun s q => s.qDisable q) s
  { s with dev := s.dev.put F.DMA_CTRL.enable 0 }

/-- DMA_CTRL.enable = 1. -/
def Dev.dmaEnable (d : Dev) : Dev :=
  if d.on F.DMA_CTRL.enable then d else ({ d with dmaLast := 15 } : Dev).put F.DMA_CTRL.enable 1

/-- The source block reset of source 18 (R370). -/
def State.dmaBlockReset (s : State) : State := let s := s.dmaDisable; { s with dev := s.dev.dmaEnable }

/-- A host reset (R184): as DMA_CTRL.enable = 0, and every DMA register but the regions returns to its reset value. -/
def State.dmaHostReset (s : State) : State :=
  let s := s.dmaDisable
  let d := (s.dev.resetRegs 0x40000 0x40080).resetRegs 0x40100 0x50000
  { s with dev := { d with dmaLast := 15 } }

/-- DMA_REGION_WRITE (R162): discarded and reported where a live plane lies in the region or two used regions overlap. -/
def Dev.regionWrite (d : Dev) (off v : Nat) : Dev :=
  let r := (off - 0x40080) / 8
  if off < 0x40080 || 0x40100 ≤ off || off % 4 ≠ 0 then d
  else
    let reg := if off % 8 = 0 then R.DMA_REGr_BASE r else R.DMA_REGr_SIZE r
    let d' := d.wr reg (v / 4096 * 4096)
    let b := d.rd (R.DMA_REGr_BASE r); let z := d.rd (R.DMA_REGr_SIZE r)
    let live := (List.range 32).any fun k => d.shtState k ≠ 0 && (d.sheetChans k).any fun n =>
      let inR := fun (x : Nat) => b ≤ x && x < b + z
      inR (d.rd (R.SHT_Dd_BASEn k n)) ||
        (((d.chan n).map Chan.tagPlane).getD 0 = 1 && inR (d.rd (R.SHT_Dd_TAGBASEn k n)))
    let b' := d'.rd (R.DMA_REGr_BASE r); let z' := d'.rd (R.DMA_REGr_SIZE r)
    let overlap := z' ≠ 0 && (List.range 16).any fun p =>
      let y := d.rd (R.DMA_REGr_BASE p); let w := d.rd (R.DMA_REGr_SIZE p)
      p ≠ r && w ≠ 0 && b' < y + w && y < b' + z'
    if live || overlap then d.hostErr 0xA2 (hostPlace 0 off) 162 else d'

/-! ### The commands -/

/-- QUEUE_ENABLE (R181). -/
def execQueueEnable (q : Fin 16) (cfg : Word32) (s : State) : Host.Outcome State Fault Refusal := s.onDev (·.reach (R.DMA_Qq_CFG q).off (·.qEnable q cfg.toNat))
/-- QUEUE_DISABLE (R184). -/
def execQueueDisable (q : Fin 16) (s : State) : Host.Outcome State Fault Refusal := .next (s.reach (R.DMA_Qq_CFG q).off (·.qDisable q))
/-- DMA_ENABLE (R174). -/
def execDmaEnable (s : State) : Host.Outcome State Fault Refusal := s.onDev (·.reach R.DMA_CTRL.off Dev.dmaEnable)
/-- DMA_DISABLE (R184). -/
def execDmaDisable (s : State) : Host.Outcome State Fault Refusal := .next (s.reach R.DMA_CTRL.off State.dmaDisable)
/-- START (R181). -/
def execDmaStart (q : Fin 16) (addr : Word64) (s : State) : Host.Outcome State Fault Refusal := s.onDev (·.reach (R.DMA_Qq_START q).off (·.dmaStart q addr.toNat))
/-- APPEND (R180): the write acts with bit 0 set. -/
def execDmaAppend (q : Fin 16) (v : Word32) (s : State) : Host.Outcome State Fault Refusal :=
  s.onDev fun d => d.reach (R.DMA_Qq_APPEND q).off fun d => if bit v.toNat 0 then d.dmaAppend q else d
/-- ABORT (R182). -/
def execDmaAbort (q : Fin 16) (s : State) : Host.Outcome State Fault Refusal := s.onDev (·.reach (R.DMA_Qq_CMD q).off (·.dmaAbort q))
/-- QUEUE_GRANT (R174). -/
def execQueueGrant (s : State) : Host.Outcome State Fault Refusal := s.onDev (·.qGrant)
/-- DESCRIPTOR_FETCHED (R177). -/
def execDescriptorFetched (q : Fin 16) (words : List Word64) (s : State) : Host.Outcome State Fault Refusal :=
  s.onDev (·.descFetched q (words.map BitVec.toNat))
/-- DMA_READ_COMPLETION (R177). -/
def execDmaReadCompletion (q : Fin 16) (c : ReadCompletion) (s : State) : Host.Outcome State Fault Refusal := .next (s.dmaData q c)
/-- DESCRIPTOR_COMPLETE (R175). -/
def execDescriptorComplete (q : Fin 16) (s : State) : Host.Outcome State Fault Refusal := s.onDev (·.descComplete q)
/-- RING_FRAME_MOVED (R179). -/
def execRingFrameMoved (q : Fin 16) (s : State) : Host.Outcome State Fault Refusal := .next (s.frameMoved q)
/-- GUARD_STALL_RELEASE (R163). -/
def execGuardStallRelease (q : Fin 16) (s : State) : Host.Outcome State Fault Refusal := .next (s.guardRelease q)
/-- GUARD_TIMEOUT (R163). -/
def execGuardTimeout (q : Fin 16) (s : State) : Host.Outcome State Fault Refusal := s.onDev (·.guardTimeout q)
/-- COMPLETION_TIMEOUT (R183). -/
def execCompletionTimeout (q : Fin 16) (s : State) : Host.Outcome State Fault Refusal := s.onDev (·.cplTimeout q)
/-- DMA_REGION_WRITE (R162). -/
def execDmaRegionWrite (off : Nat) (v : Word32) (s : State) : Host.Outcome State Fault Refusal := s.onDev (·.reach off (·.regionWrite off v.toNat))

end Sys2Proof.Machine
end

