-- ==== Sys2Proof/Machine/Scr.lean ====
section
/-! DEFINITION. Screening (R187-R207): the code of a device pixel, the code store, table errors, the digest, the probe. -/

namespace Sys2Proof.Machine

/-! ### Inputs (R187, R188) -/

/-- Cross-scan resolution of a channel. -/
def crossDpi (c : Chan) : Nat := match c.crossDpi with | 0 => 600 | 1 => 1200 | _ => 2400
/-- Input resolution. -/
def inputDpi (c : Chan) : Nat := match c.inputFormat with | 0 => 600 | 1 => 1200 | _ => 2400
/-- Input line of nominal line y. -/
def inputLine (c : Chan) (y : Nat) : Nat := y * inputDpi c / crossDpi c
/-- Nominal scan lines of a sheet of `lines` input lines. -/
def nominalLines (c : Chan) (lines : Nat) : Nat := (lines * crossDpi c + inputDpi c - 1) / inputDpi c
/-- Input pixel of device pixel x. -/
def inputPixel (c : Chan) (x : Nat) : Nat := match c.inputFormat with | 0 => x / 4 | 1 => x / 2 | _ => x

/-! ### Tables (R199, R200) -/

/-- The 16-bit table entry at a BAR2 address: its value as decoded, and whether its word is uncorrectable. -/
def Dev.tblEntry (d : Dev) (a : Nat) : Nat × Bool :=
  let w := a / 8 * 8
  let (v, o) := decodeWord (d.tw w) (Store.get 0#8 d.tblChk w).toNat
  (v / 2 ^ (16 * (a / 2 % 4)) % 65536, o = .uncorrectable)

/-- BAR2 address of tone entry j of bank b and tag t. -/
def toneAddr (n b t j : Nat) : Nat := 0x200000 + n * 0x1000 + b * 0x800 + t * 0x200 + 2 * j
/-- BAR2 address of a tile entry. -/
def tileAddr (n k ty tx : Nat) : Nat := 0x1000000 + n * 0x80000 + k * 0x20000 + 2 * (256 * ty + tx)

/-! ### The code of a pixel (R189-R196) -/

/-- What screening makes of one pixel: code, tone, base and slope, whether a table word was uncorrectable, and the table words
used. -/
structure Screened where
  code  : Nat
  tone  : Nat
  base  : Nat
  slope : Nat
  bad   : Bool
  words : List Nat

/-- The tile that a tag selects in the active copies (R189). -/
def Dev.tileOf (d : Dev) (n t : Nat) : Nat :=
  d.ga (match t with
    | 0 => F.CHn_SCR_CTRL.tile_tag0 n | 1 => F.CHn_SCR_CTRL.tile_tag1 n | 2 => F.CHn_SCR_CTRL.tile_tag2 n
    | _ => F.CHn_SCR_CTRL.tile_tag3 n)

/-- The trimmed input u (R190). -/
def trimInput (v gain : Nat) (offset : Int) : Nat := (clampI 0 0xFF00 ((((v * gain + 8) / 16 : Nat) : Int) + offset)).toNat

/-- The tone T between entries e0 and e1 at fraction f (R191). -/
def toneAt (e0 e1 f : Nat) : Nat := ((e0 : Int) + (((e1 : Int) - e0) * f + 128) / 256).toNat

/-- The code of tone T at a tile entry (R192). -/
def rampCode (t e : Nat) : Nat :=
  let b := e / 256
  if t ≤ 16 * b then 0 else min (((t - 16 * b) * (e % 256) + 128) / 256) 15

/-- Row and column of a tile at (x, y) (R193). -/
def tilePos (tw th sh px py x y : Nat) : Nat × Nat :=
  let yy := y + py
  (yy % th, (x + px + yy / th * sh) % tw)

/-- The reference computation for a contone pixel (R195). -/
def Dev.screenContone (d : Dev) (n x y v t : Nat) : Screened :=
  let u := trimInput v (d.ga (F.CHn_SCR_TRIMt.gain n t)) (sext 16 (d.ga (F.CHn_SCR_TRIMt.offset n t)))
  let i := u / 256; let f := u % 256
  let bank := d.ga (F.CHn_SCR_CTRL.tone_bank n)
  let a0 := toneAddr n bank t i
  let (e0, bad0) := d.tblEntry a0
  let (tone, bad1, ws) :=
    if f = 0 then (e0 % 4096, false, [a0 / 8 * 8])
    else
      let (e1, b1) := d.tblEntry (toneAddr n bank t (i + 1))
      (toneAt (e0 % 4096) (e1 % 4096) f, b1, [a0 / 8 * 8, toneAddr n bank t (i + 1) / 8 * 8])
  let k := d.tileOf n t
  let (ty, tx) := tilePos (d.ga (F.CHn_SCR_TILEk_GEOM.width_m1 n k) + 1) (d.ga (F.CHn_SCR_TILEk_GEOM.height_m1 n k) + 1)
    (d.ga (F.CHn_SCR_TILEk_GEOM.shift n k)) (d.ga (F.CHn_SCR_TILEk_PHASE.phase_x n k)) (d.ga (F.CHn_SCR_TILEk_PHASE.phase_y n k)) x y
  let ta := tileAddr n k ty tx
  let (e, bad2) := d.tblEntry ta
  let bad := bad0 || bad1 || bad2
  ⟨if bad then 0 else rampCode tone e, tone, e / 256, e % 256, bad, ws ++ [ta / 8 * 8]⟩

/-- The code of a pre-screened sample of b bits (R196). -/
def Dev.screenPs (d : Dev) (n s b : Nat) : Nat :=
  let j := match b with | 1 => 15 * (s % 2) | 2 => 5 * (s % 4) | _ => s % 16
  d.ga (F.CHn_SCR_PS_MAP.map n) / 16 ^ j % 16

/-! ### Lines (R188, R189, R197, R198) -/

/-- A plane byte as the read port delivers it, and whether its word is uncorrectable (R168). -/
def State.planeByte (s : State) (base j : Nat) : Nat × Bool :=
  let a := s.dev.planeAddr base j
  let (v, o) := decodeWord (s.mem.word (a / 8)) (s.mem.syn (a / 8))
  (v / 256 ^ (a % 8) % 256, s.dev.memx.lost || o = .uncorrectable)

/-- Value and tag of device pixel x on input line L of a sheet's planes, and whether a plane word failed. -/
def State.pixelInput (s : State) (c : Chan) (n k x ln : Nat) : Nat × Nat × Bool :=
  let base := s.dev.rd (R.SHT_Dd_BASEn k n)
  let p := inputPixel c x
  let st := stride c false
  if planeBits c = 0 then
    let (v, b) := s.planeByte base (ln * st + p)
    if c.tagPlane = 1 then
      let (t, b') := s.planeByte (s.dev.rd (R.SHT_Dd_TAGBASEn k n)) (ln * stride c true + p / 4)
      (v, t / 4 ^ (p % 4) % 4, b || b')
    else (v, s.dev.ga (F.CHn_SCR_CTRL.default_tag n), b)
  else
    let sub := roundup64 ((planeP c + 7) / 8)
    let (v, b) := (List.range (planeBits c)).foldl (fun (v, b) i =>
      let (y, b') := s.planeByte base (ln * st + i * sub + p / 8)
      (v + y / 2 ^ (p % 8) % 2 * 2 ^ i, b || b')) (0, false)
    (v, 0, b)

/-- Pixel (x, y) of a sheet. -/
def State.screenPixel (s : State) (c : Chan) (n k x y : Nat) : Screened :=
  let (v, t, bad) := s.pixelInput c n k x (inputLine c y)
  let r := if planeBits c = 0 then s.dev.screenContone n x y v t else ⟨s.dev.screenPs n v (planeBits c), 0, 0, 0, false, []⟩
  if bad then { r with code := 0, bad := true } else r

/-- The code words of nominal line y (R197): 16 codes a word, a word on which the datapaths disagree all 0. Beside the word
stands its syndrome (R223) and, above the 8 bits of that, one bit per code that conditions 3 to 5 of R198 forced to 0 (R391). -/
def State.screenLine (s : State) (c : Chan) (n k y : Nat) (bad : List (Nat × Nat)) : List (Nat × Nat) :=
  (List.range ((c.pixels + 15) / 16)).map fun j =>
    if bad.contains (y, j) then (0, 0xFFFF * 256)
    else (List.range 16).foldl (fun v m =>
      if 16 * j + m < c.pixels then
        let r := s.screenPixel c n k (16 * j + m) y
        (v.1 + r.code * 16 ^ m, v.2 + b2n r.bad * 2 ^ (8 + m))
      else v) (0, 0)

/-! ### Table errors (R200) -/

/-- Channel n status bit k of the screening unit. -/
def Dev.scrFlag (d : Dev) (n k : Nat) : Dev := d.chFlag n (R.CHn_SCR_IRQ_STATUS n) (R.CHn_SCR_IRQ_EN n) k

/-- A decode of a table word: corrected ones count, an uncorrectable one is counted, marked and reported once. -/
def Dev.tableDecode (d : Dev) (n off : Nat) : Dev :=
  let syn := (Store.get 0#8 d.tblChk off).toNat
  match (decodeWord (d.tw off) syn).2 with
  | .clean => d
  | .corrected => d.count (F.CHn_SCR_CE_COUNT.count n)
  | .uncorrectable =>
    if d.tblMark.contains off then d
    else
      let d := (({ d with tblMark := d.tblMark ++ [off] } : Dev).count (F.CHn_SCR_UE_COUNT.count n)).scrFlag n 2
      d.report 35 off syn

/-- Table words of a channel. -/
def tableWords : Nat := 512 + 65536

/-- A table word of CHn: the tone banks, then the tiles. -/
def tableWordOff (n word : Nat) : Nat :=
  let w := word % tableWords
  if w < 512 then 0x200000 + n * 0x1000 + 8 * w else 0x1000000 + n * 0x80000 + 8 * (w - 512)

/-- TABLE_SCRUB: a corrected word is written back. -/
def Dev.tableScrub (d : Dev) (n word : Nat) : Dev :=
  if !d.domOn (4 + n) then d
  else
    let off := tableWordOff n word
    let (v, o) := decodeWord (d.tw off) (Store.get 0#8 d.tblChk off).toNat
    let d := d.tableDecode n off
    if o = .corrected then d.putTw off v else d

/-- Faulty table words of CHn. -/
def Dev.faultyWords (d : Dev) (n : Nat) : List Nat :=
  (d.tblChk.map (·.1)).filter fun a =>
    (0x200000 + n * 0x1000 ≤ a && a < 0x200000 + (n + 1) * 0x1000) ||
    (0x1000000 + n * 0x80000 ≤ a && a < 0x1000000 + (n + 1) * 0x80000)

/-! ### SCREEN_SCAN (R197, R201) -/

/-- The engine finishes the oldest request: its codes enter the code store, disagreements of the datapaths count, faulty table
words it used count, and the input lines that no later line needs are freed (R163). -/
def State.screenScan (s : State) (n : Nat) (bad : List (Nat × Nat)) : State :=
  let ch := s.dev.chS n
  match ch.screenQ, ch.desc, s.dev.chan n with
  | (sc, lo, hi) :: rest, some k, some c =>
    let ys := (List.range (hi + 1 - lo)).map (lo + ·)
    let lines := ys.map fun y => (y, s.screenLine c n k y bad)
    let used := (s.dev.faultyWords n).filter fun w =>
      ys.any fun y => (List.range c.pixels).any fun x => (s.screenPixel c n k x y).words.contains w
    let d := s.dev.modCh n fun x =>
      { x with screenQ := rest, codes := lines.foldl (fun m (y, ws) => Store.set [] m y ws) x.codes }
    let d := d.each used fun d w => d.tableDecode n w
    let d := d.each (bad.filter fun p => lo ≤ p.1 && p.1 ≤ hi && p.2 < (c.pixels + 15) / 16) fun d p =>
      let d := { d with memx := { d.memx with mismatch := d.sys.now8 + 1 } }
      ((d.count (F.CHn_SCR_MISMATCH_COUNT.count n)).scrFlag n 3).report n (0x01 <<< 24 + sc % 2 ^ 24) (ch.sq.tag <<< 16 + 16 * p.2)
    let inLines := d.get (F.SHT_Dd_LINES.input_lines k)
    let upTo := if ch.sq.under.isSome then min (inputLine c (hi + 1)) (d.get (F.SHT_Dd_FILLn.lines k n))
      else if hi + 1 = ch.sq.lines then inLines else inputLine c (hi + 1)
    let old := Store.get 0 d.sht.freed (8 * k + n)
    { s with dev := { d with sht := { d.sht with freed := Store.set 0 d.sht.freed (8 * k + n) (max old upTo) } } }
  | _, _, _ => s

/-! ### The shadowed group, the lock and the digest (R203, R204, R206) -/

/-- The group of R204. -/
def scrGroup (n : Nat) : List Reg :=
  [R.CHn_SCR_CTRL n] ++ (List.range 4).map (R.CHn_SCR_TRIMt n) ++
    (List.range 4).flatMap (fun k => [R.CHn_SCR_TILEk_GEOM n k, R.CHn_SCR_TILEk_PHASE n k]) ++ [R.CHn_SCR_PS_MAP n]

/-- IMAGE_START accepted (R204, R206): a ready group transfers, the lock and the digest begin. -/
def Dev.scrStart (d : Dev) (n tag : Nat) : Dev :=
  let d := if d.isReady (R.CHn_SCR_COMMIT n) then
      (d.transfer (R.CHn_SCR_COMMIT n) (F.CHn_SCR_STATUS.shadow_pending n) (scrGroup n)).scrFlag n 0 else d
  let d := d.put (F.CHn_SCR_STATUS.active_bank n) (d.ga (F.CHn_SCR_CTRL.tone_bank n))
  let d := (d.put (F.CHn_SCR_STATUS.sheet_tag n) tag).put (F.CHn_SCR_STATUS.digest_valid n) 0
  let d := d.modCh n fun c => { c with digestDue := true }
  (d.count (F.CHn_SCR_SHEETS.count n)).scrLock n true

/-- A table word as the digest takes it (R206): a correctable word corrected (R200), an uncorrectable one as stored. -/
def Dev.tblWord (d : Dev) (off : Nat) : Nat :=
  match decodeWord (d.tw off) (Store.get 0#8 d.tblChk off).toNat with
  | (v, .corrected) => v
  | _ => d.tw off

/-- Bytes of table memory. -/
def Dev.tblBytes (d : Dev) (a len : Nat) : List Nat := (List.range (len / 8)).flatMap fun i => leBytes 8 (d.tblWord (a + 8 * i))

/-- The 526,396 bytes of the digest (R206). -/
def Dev.digestBytes (d : Dev) (n : Nat) : List Nat :=
  (((scrGroup n).take 13).flatMap fun r => leBytes 4 (d.act r)) ++ leBytes 8 (d.act (R.CHn_SCR_PS_MAP n)) ++
    d.tblBytes (toneAddr n (d.ga (F.CHn_SCR_CTRL.tone_bank n)) 0 0) 2048 ++ d.tblBytes (0x1000000 + n * 0x80000) 524288

/-- The faulty table words that the digest decodes. -/
def Dev.digestFaulty (d : Dev) (n : Nat) : List Nat :=
  let a := toneAddr n (d.ga (F.CHn_SCR_CTRL.tone_bank n)) 0 0
  (d.faultyWords n).filter fun w => (a ≤ w && w < a + 2048) || 0x1000000 ≤ w

/-- DIGEST_DONE (R206): the words it decodes count as R200 says. -/
def Dev.digestDone (d : Dev) (n : Nat) : Dev :=
  if !(d.chS n).digestDue then d
  else
    let d := d.wr (R.CHn_SCR_DIGEST n) (crc32c (d.digestBytes n))
    let d := (d.put (F.CHn_SCR_STATUS.digest_valid n) 1).modCh n fun c => { c with digestDue := false }
    let d := d.each (d.digestFaulty n) fun d w => d.tableDecode n w
    (d.scrFlag n 1).scrLock n ((d.chS n).desc.isSome && !(d.chS n).dropped)

/-! ### The probe (R207) -/

/-- PROBE_START. -/
def Dev.probeStart (d : Dev) (n v : Nat) : Dev :=
  if d.on (F.CHn_SCR_STATUS.probe_busy n) then d
  else (d.wr (R.CHn_SCR_PROBE_IN n) (bits v 49 32 <<< 32 + bits v 30 16 <<< 16 + bits v 9 0)).put (F.CHn_SCR_STATUS.probe_busy n) 1

/-- PROBE_DONE; `mismatch`: the two datapaths disagreed on its code, which is then 0 (R198). -/
def Dev.probeDone (d : Dev) (n : Nat) (mismatch : Bool) : Dev :=
  if !d.on (F.CHn_SCR_STATUS.probe_busy n) then d
  else
    let v := d.get (F.CHn_SCR_PROBE_IN.value n)
    let b := d.chanB n
    let r := if b = 0 then d.screenContone n (d.get (F.CHn_SCR_PROBE_IN.x n)) (d.get (F.CHn_SCR_PROBE_IN.y n)) v (d.get (F.CHn_SCR_PROBE_IN.tag n))
      else ⟨d.screenPs n v b, 0, 0, 0, false, []⟩
    (d.wr (R.CHn_SCR_PROBE_OUT n) ((if mismatch then 0 else r.code) <<< 28 + r.tone <<< 16 + r.base <<< 8 + r.slope)).put (F.CHn_SCR_STATUS.probe_busy n) 0

/-! ### The commands -/

/-- SCREEN_SCAN (R202): the operand names the code words, by nominal line and word, on which the two datapaths disagree. -/
def execScreenScan (n : Fin 8) (bad : List (Nat × Nat)) (s : State) : Host.Outcome State Fault Refusal := .next (s.screenScan n bad)
/-- DIGEST_DONE (R206). -/
def execDigestDone (n : Fin 8) (s : State) : Host.Outcome State Fault Refusal := s.onDev (·.digestDone n)
/-- PROBE_START (R207): a member register. -/
def execProbeStart (n : Fin 8) (v : Word64) (s : State) : Host.Outcome State Fault Refusal :=
  s.onDev (·.reach (R.CHn_SCR_PROBE_IN n).off (·.probeStart n v.toNat))
/-- PROBE_DONE (R207). -/
def execProbeDone (n : Fin 8) (mismatch : Bool) (s : State) : Host.Outcome State Fault Refusal := s.onDev (·.probeDone n mismatch)
/-- TABLE_SCRUB (R200). -/
def execTableScrub (n : Fin 8) (word : Nat) (s : State) : Host.Outcome State Fault Refusal := s.onDev (·.tableScrub n word)

end Sys2Proof.Machine
end

