-- ==== Sys2Proof/Machine/Sct.lean ====
section
/-! DEFINITION. Scan timing and the phase aligner (R208-R215). -/

namespace Sys2Proof.Machine

/-! ### The grid (R208, R209, R213) -/

/-- P16 of the active grid; 0 stops it. -/
def Dev.gridP (d : Dev) (n : Nat) : Nat := d.ga (F.CHn_SCT_FACET_PERIOD.period n)
def Dev.gridRef (d : Dev) (n : Nat) : Nat := d.act (R.CHn_SCT_REF_TIME n)
/-- T16_k and T_k. -/
def Dev.slotT16 (d : Dev) (n k : Nat) : Nat := 65536 * d.gridRef n + k * d.gridP n
def Dev.slotT (d : Dev) (n k : Nat) : Nat := d.slotT16 n k / 65536
/-- F: facets of a channel, and the facet of slot k. -/
def Dev.facetsOf (d : Dev) (n : Nat) : Nat := max 1 (((d.chan n).map Chan.facets).getD 1)
def Dev.facetOf (d : Dev) (n k : Nat) : Nat := k % d.facetsOf n
/-- The first slot at or after engine time t. -/
def Dev.slotFrom (d : Dev) (n t : Nat) : Nat :=
  let p := d.gridP n
  if p = 0 then 0 else (65536 * (t - d.gridRef n) + p - 1) / p

def Dev.sctSt (d : Dev) (n : Nat) : Nat := d.get (F.CHn_SCT_STATUS.state n)
def Dev.sctFlag (d : Dev) (n k : Nat) : Dev := d.chFlag n (R.CHn_SCT_IRQ_STATUS n) (R.CHn_SCT_IRQ_EN n) k

/-- The channel's tag: the sheet that images, or 0. -/
def Dev.chTag (d : Dev) (n : Nat) : Nat := if (d.chS n).desc.isSome then (d.chS n).sq.tag else 0

/-- Scan timing of CHn goes OFF: the phase loop of its polygon axis leaves its conditions (R277). -/
def Dev.phaseLoopEnd (d : Dev) (n : Nat) : Dev :=
  match d.chan n with
  | some c => d.modBld c.polygonAxis (if d.on (F.BLD_AXa_STATUS.slewing c.polygonAxis) then BldAx.endPhase else BldAx.noPhase)
  | none => d

/-- Enter a state; the Token holder sends the scan-timing result (R384, code 6): its facet_rot is that of an identification
which has just matched, otherwise 0. -/
def Dev.sctEnter (d : Dev) (n st : Nat) (rot : Nat := 0) : Dev :=
  let d := d.put (F.CHn_SCT_STATUS.state n) st
  if st = 0 then d.phaseLoopEnd n else d.sendInput 6 n d.now (rot <<< 4 + (if st = 1 then 0 else st))

/-- SEARCH with the lock count at 0. -/
def Dev.sctSearch (d : Dev) (n : Nat) (rot : Nat := 0) : Dev :=
  let d := d.modCh n fun c => { c with outN := 0, missN := 0, idSum := [], idCnt := [], idN := 0 }
  (d.put (F.CHn_SCT_STATUS.lock_count n) 0).sctEnter n 1 rot

/-- IN_PHASE: the aligner starts from the edges measured from now on (R215). -/
def Dev.sctInPhase (d : Dev) (n : Nat) : Dev :=
  ((d.modCh n fun c => { c with phi := [], outN := 0, missN := 0 }).lgWatch (·.sctEnter n 3)).sctFlag n 0

/-- Judging starts at the first slot that is not past. -/
def Dev.judgeRestart (d : Dev) (n : Nat) : Dev :=
  d.modCh n fun c => { c with judged := d.slotFrom n d.now, edge := none, prevEdge := none }

/-- A slot of CHn has begun in the present tick. -/
def Dev.slotBegun (d : Dev) (n : Nat) : Bool := (d.chS n).slot ≠ 0 && d.gridP n ≠ 0 && d.slotT n ((d.chS n).slot - 1) = d.now

/-- The grid as it now stands: its next slot is the first one at or after engine time t. -/
def Dev.gridRestart (d : Dev) (n t : Nat) : Dev :=
  let k := d.slotFrom n t
  (d.judgeRestart n).modCh n fun c => { c with slot := k, sent := k, marked := k }

/-- A grid transfer (R211, R213). A slot that has begun in this tick is not begun again. -/
def Dev.gridTransfer (d : Dev) (n : Nat) : Dev :=
  let t := d.now + b2n (d.slotBegun n)
  let d := (d.activate (R.CHn_SCT_REF_TIME n)).activate (R.CHn_SCT_FACET_PERIOD n)
  let d := d.gridRestart n t
  if d.sctSt n = 0 then d else d.sctSearch n

/-- The channel is at a gap (R213): no scan sequence runs on it. -/
def Dev.atGap (d : Dev) (n : Nat) : Bool := (d.chS n).desc.isNone

/-! ### The pixel synthesizer (R214) -/

/-- M of 160 MHz. -/
def maxM : Nat := 343597383
/-- M_f of facet f from M and the facet trim. -/
def mFacet (m : Nat) (trim : Int) : Nat := min maxM (max 0 ((m : Int) + ((m : Int) * trim + 2 ^ 19) / 2 ^ 20)).toNat
/-- The M of the safe clock 125 MHz / ceil(125 MHz / f) for a target M (R354). -/
def mSafe (m : Nat) : Nat := if m = 0 then 0 else 2 ^ 28 / ((2 ^ 28 + m - 1) / m)
/-- M_f of a facet in the active group (R214). -/
def Dev.mNom (d : Dev) (n f : Nat) : Nat :=
  mFacet (d.act (R.CHn_PXS_FREQ n)) (sext 16 (d.ga (F.CHn_PLC_FACET_DELAYf.trim n f)))
/-- The pixel clock of a facet, as M_f; while the synthesizer is unlocked the slice runs on its safe clock (R354). -/
def Dev.mOf (d : Dev) (n f : Nat) : Nat := if d.on (F.CHn_PXS_STATUS.locked n) then d.mNom n f else mSafe (d.mNom n f)

/-- The moment of a loop's loss (R358). -/
def Dev.lossNoted (d : Dev) (i : Nat) : Dev :=
  { d with clk := { d.clk with lostAt := Store.set 0 d.clk.lostAt i (d.sys.now8 + 1), slow := putBits d.clk.slow i i 0 } }

/-- The active M takes the written one; a step above 0.5 % makes the loop re-lock (R353): the channel is dropped from its PICKED
sheets (R119, R356). -/
def Dev.freqTransfer (d : Dev) (n : Nat) : Dev :=
  let old := d.act (R.CHn_PXS_FREQ n)
  let d := d.activate (R.CHn_PXS_FREQ n)
  let new := d.act (R.CHn_PXS_FREQ n)
  let diff := if old < new then new - old else old - new
  if old < 200 * diff then
    (((((d.put (F.CHn_PXS_STATUS.locked n) 0).count (F.CHn_PXS_STATUS.relocks n)).lossNoted (8 + n)).clkEvent 2).gate n).dropFromSheets n 0x44 0
  else d

/-- M of a pixel clock in kHz against 125 MHz, in 2^-28 (R214). -/
def mOfKhz (khz : Nat) : Nat := roundDiv (khz * 2 ^ 28) 125000

/-- The pixel clock of station n (R441): taken as CHn_PXS_FREQ. -/
def Dev.lgClock (d : Dev) (n : Nat) : Dev :=
  let m := mOfKhz (10 * d.get (F.LG_Ss_PIXCLK.clk n))
  if d.act (R.CHn_PXS_FREQ n) = m then d else (d.wr (R.CHn_PXS_FREQ n) m).freqTransfer n

/-- Change the CHAN entry of channel n: only the structure that R430 leaves to the legacy registers changes after loading. -/
def Dev.modChan (d : Dev) (n : Nat) (f : Chan → Chan) : Dev :=
  let l := d.frd
  let c := l.cfg
  { d with frd := { l with cfg := { c with chans := c.chans.map fun x => if x.channel = n then f x else x } } }

/-- DMO width, justification, beam-detect edge and start delay of station n (R441, R448). -/
def Dev.lgDmo (d : Dev) (n : Nat) : Dev :=
  let d := d.put (F.CHn_FGT_DMO_CFG.justify n) (d.get (F.LG_Ss_CTRL.justify n))
  let w := R.CHn_FGT_DMO_WIDTHc n 3
  let d := d.wr w (putBits (d.rd w) 31 24 (d.get (F.LG_Ss_WIDTH.width n)))
  let d := (d.activate (R.CHn_FGT_DMO_CFG n)).activate w
  let edge := d.get (F.LG_Ss_CTRL.bd_edge n)
  let d := d.modChan n fun c => { c with gateFlags := putBits c.gateFlags 3 3 edge }
  let sd := d.get (F.LG_Ss_START.start n)
  if d.ga (F.CHn_PLC_START.start_delay n) = sd then d
  else (d.put (F.CHn_PLC_START.start_delay n) sd).commit (R.CHn_PLC_COMMIT n) (F.CHn_PLC_STATUS.shadow_pending n)

/-- The word of tile 0 that holds entries 4j to 4j + 3 of station n's matrix (R449). -/
def Dev.lgMatWord (d : Dev) (n j : Nat) : Nat :=
  (List.range 4).foldl (fun v i =>
    let e := 4 * j + i
    v + (bits (d.rd (R.LG_Ss_MATw n (e / 2))) (8 * (e % 2) + 7) (8 * (e % 2)) * 256 + 0xFF) * 65536 ^ i) 0

/-- The matrix of station n as tile 0 (R449). -/
def Dev.lgMatrix (d : Dev) (n : Nat) : Dev :=
  d.each (List.range 64) fun d j =>
    let a := tileAddr n 0 (j / 4) (4 * (j % 4))
    let v := d.lgMatWord n j
    if d.tw a = v then d else d.putTw a v

/-- The facet grid of station n from speed and facet count (R450, the formula of R209); the phase of its reference time is
open. -/
def Dev.lgGrid (d : Dev) (n : Nat) : Dev :=
  let rpm := d.get F.LG_POLY_SPEED.rpm
  let f := d.get F.LG_POLY_CFG.facets
  if Store.get (0, 0) d.lg.grid n = (rpm + 1, f) then d
  else
    let p := if rpm = 0 then 0 else roundDiv (65536 * 7500000000) (rpm * max 1 f)
    let (v, d) := d.freeVal 32
    let d := { d with lg := { d.lg with grid := Store.set (0, 0) d.lg.grid n (rpm + 1, f) } }
    let d := (d.wr (R.CHn_SCT_FACET_PERIOD n) p).wr (R.CHn_SCT_REF_TIME n) (d.now + (if p < 65536 then 0 else v % (p / 65536)))
    d.gridTransfer n

/-- Personality C at a gap of station n: the settings taken at the sheet gap take effect (R441, R448-R450). -/
def Dev.lgGap (d : Dev) (n : Nat) : Dev :=
  if d.persC && n < 4 && d.domOn (4 + n) then (((d.lgClock n).lgDmo n).lgMatrix n).lgGrid n else d

/-- RWG writes that waited transfer at the start of a gap (R213, R250). -/
def Dev.gapBegins (d : Dev) (n : Nat) : Dev :=
  let d := d.lgGap n
  if !(d.chS n).gapPend then d
  else
    let moved := (d.chS n).gridPend
    let d := d.modCh n fun c => { c with gapPend := false, gridPend := false }
    let d := d.freqTransfer n
    let d := d.each ([R.CHn_FGT_DMO_CFG n] ++ (List.range 4).map (R.CHn_FGT_DMO_WIDTHc n)) Dev.activate
    if moved then d.gridTransfer n else d

/-- A write of an RWG register of CHn: at a gap at once, by `act`; else with the next gap. -/
def Dev.rwgWrite (d : Dev) (n : Nat) (r : Reg) (v : Nat) (act : Dev → Dev) : Dev :=
  let d := d.wr r v
  if d.atGap n then act d else d.modCh n fun c => { c with gapPend := true }

/-- A write of a register of the grid (R213): the transfer that it makes, now or at the gap, is a grid transfer whatever value
it carries. -/
def Dev.gridWrite (d : Dev) (n : Nat) (r : Reg) (v : Nat) : Dev :=
  (d.when (!d.atGap n) (·.modCh n fun c => { c with gridPend := true })).rwgWrite n r v (·.gridTransfer n)

/-! ### Judging slots (R210-R212, R215) -/

/-- lock_tol, with 0 acting as 1. -/
def Dev.lockTol (d : Dev) (n : Nat) : Nat := max 1 (d.get (F.CHn_SCT_CTRL.lock_tol n))
def Dev.missLimit (d : Dev) (n : Nat) : Nat := max 1 (d.get (F.CHn_SCT_CTRL.miss_limit n))

/-- φ_k of a slot as the aligner has it (R215): what its facet holds, or 0 where it holds none. It is φ_k itself once the slot has
been judged, and the held phase on which a scan without an edge fires (R211). -/
def Dev.phiOf (d : Dev) (n k : Nat) : Int := (Store.get none (d.chS n).phi (d.facetOf n k)).getD 0

/-- The aligner takes slot k, with its edge or without (R215). -/
def Dev.aligner (d : Dev) (n k : Nat) (e : Option Int) : Dev :=
  let f := d.facetOf n k
  let a := min 4 (d.get (F.CHn_PXS_CTRL.align_shift n))
  let held := Store.get none (d.chS n).phi f
  let (phi, keep) := match e, held with
    | some e, none => (e, some e)
    | some e, some p => (p + (e - p) / 2 ^ a, some (p + (e - p) / 2 ^ a))
    | none, some p => (p, some p)
    | none, none => (0, none)
  (d.put (F.CHn_PXS_ALIGN.phi n) (enc 32 phi)).modCh n fun c => { c with phi := Store.set none c.phi f keep }

/-- Sum of |M[(f + r) mod F] - SIG[f]|. -/
def sigSum (m sig : List Int) (f r : Nat) : Nat :=
  (List.range f).foldl (fun s i => s + (m.getD ((i + r) % f) 0 - sig.getD i 0).natAbs) 0

/-- The average of a residue, rounded toward zero, in 1/64 tick: sums are in 1/1024 of it. -/
def idAverage (sum : Int) (cnt : Nat) : Int :=
  if cnt = 0 then 0 else let q : Int := (sum.natAbs / (1024 * cnt) : Nat); if sum < 0 then -q else q

/-- Identification ends (R212). -/
def Dev.identify (d : Dev) (n : Nat) : Dev :=
  let ch := d.chS n
  let f := d.facetsOf n
  let m := (List.range f).map fun g => idAverage (ch.idSum.getD g 0) (ch.idCnt.getD g 0)
  let d := d.each (List.range f) fun d g => d.put (F.CHn_SCT_FACET_DEVg.dev n g) (enc 16 (m.getD g 0))
  let sig := (List.range f).map fun g => sext 16 (d.get (F.CHn_SCT_FACET_SIGf.sig n g))
  let ss := (List.range f).map (sigSum m sig f)
  let lo := ss.foldl min (ss.headD 0)
  let best := (ss.findIdx? (· = lo)).getD 0
  let rest := ss.eraseIdx best
  let second := rest.foldl min (rest.headD 0)
  if f = 1 || (2 * lo ≤ second && lo ≤ 64 * f) then
    let d := (d.put (F.CHn_SCT_STATUS.facet_rot n) best).sctFlag n 4
    if best = 0 then d.sctInPhase n
    else
      let d := d.sctSearch n best
      if d.ownInputs then
        match d.chan n with
        | some c =>
          if d.twin && 2 ≤ d.get F.TWN_STATUS.state then d.slotQueue ⟨6, n, d.now, best <<< 4⟩
          else d.slewStart c.polygonAxis best (d.gridP n)
        | none => d
      else d
  else ((d.sctFlag n 3).report n (0x12 <<< 24 + best) (lo % 2 ^ 32)).sctSearch n

/-- One slot of identification. -/
def Dev.identSlot (d : Dev) (n k : Nat) (t : Option Nat) : Dev :=
  let ch := d.chS n
  let f := d.facetsOf n
  let g := k % f
  let pad := fun (l : List Int) => if l.isEmpty then List.replicate f 0 else l
  let padN := fun (l : List Nat) => if l.isEmpty then List.replicate f 0 else l
  let sums := pad ch.idSum; let cnts := padN ch.idCnt
  let (sums, cnts) := match t, ch.prevEdge with
    | some t, some (k', t') =>
      if k' + 1 = k then (sums.set g (sums.getD g 0 + ((t : Int) - t') * 1024 - d.gridP n), cnts.set g (cnts.getD g 0 + 1)) else (sums, cnts)
    | _, _ => (sums, cnts)
  let d := d.modCh n fun c => { c with idSum := sums, idCnt := cnts, idN := ch.idN + 1 }
  if 64 * f ≤ ch.idN + 1 && cnts.all (64 ≤ ·) then d.identify n else d

/-- IN_PHASE is lost (R211). -/
def Dev.phaseLost (d : Dev) (n k : Nat) : Dev :=
  (((d.sctFlag n 1).report n (0x11 <<< 24 + k % 2 ^ 24) (d.get (F.CHn_SCT_PHASE_ERR.e n))).sctSearch n).lgStation n 2

/-- Judge slot k with its edge, or as a missed slot (R211). -/
def Dev.judgeSlot (d : Dev) (n k : Nat) (t : Option Nat) : Dev :=
  let e : Option Int := t.map fun t => (t : Int) - (d.slotT16 n k / 1024 : Nat)
  let tol := d.lockTol n
  let d := match e, t with
    | some e, some t => (d.put (F.CHn_SCT_PHASE_ERR.e n) (enc 32 e)).wr (R.CHn_SCT_LAST_BD n) t
    | _, _ => d
  let inTol : Bool := match e with | some e => e.natAbs ≤ tol | none => false
  let lock := if inTol then min 64 (d.get (F.CHn_SCT_STATUS.lock_count n) + 1) else 0
  let d := d.put (F.CHn_SCT_STATUS.lock_count n) lock
  let ch := d.chS n
  let out := match e with | some e => if 4 * tol < e.natAbs then ch.outN + 1 else 0 | none => ch.outN
  let miss := if e.isSome then 0 else ch.missN + 1
  let d := d.modCh n fun c => { c with outN := out, missN := miss }
  -- outside IN_PHASE no edge moves the aligner: the slot takes the held phase (R211)
  let d := d.when (d.sctSt n = 1 || d.sctSt n = 2) (·.aligner n k none)
  let d := match d.sctSt n with
    | 1 =>
      if lock < 64 then d
      else if d.on (F.CHn_SCT_CTRL.facet_mode n) then
        ((d.modCh n fun c => { c with outN := 0, missN := 0, idSum := [], idCnt := [], idN := 0 })).sctEnter n 2
      else ((d.put (F.CHn_SCT_STATUS.facet_rot n) 0)).sctInPhase n
    | 2 => if 4 ≤ out || d.missLimit n ≤ miss then d.sctSearch n else d.identSlot n k t
    | 3 =>
      match e with
      | some _ =>
        let d := d.aligner n k e
        if 4 ≤ out then d.phaseLost n k else d
      | none =>
        let d := (d.count (F.CHn_SCT_COUNTS.missed n)).aligner n k none
        if d.missLimit n ≤ miss then d.phaseLost n k
        else (d.sctFlag n 2).report n (0x10 <<< 24 + k % 2 ^ 24) (d.chTag n <<< 16 + min miss 0xFFFF)
    | _ => d
  -- the polygon's phase loop takes e_k (R277); in a pair both members take, clamped, that of the member that held the Token at T_k
  let d := match e, d.chan n with
    | some e, some c =>
      if d.twin && 2 ≤ d.get F.TWN_STATUS.state then
        let u : TwIn := ⟨1, n, d.slotT n k, enc 16 (clampI (-32767) 32767 e)⟩
        if d.heldAt u.ts then (d.putInput 1 n u.ts u.value).slotQueue u else d.keepInput u
      else d.phaseLoop c.polygonAxis n (d.wrapE n e)
    | _, _ => d
  d.modCh n fun c => { c with judged := k + 1, edge := none, prevEdge := t.map fun t => (k, t) }

/-- Judge the slots from the next one up to, not including, slot k: the one with a pending edge by it, the others missed. -/
def Dev.settleSlots : Nat → Dev → Nat → Nat → Dev
  | 0, d, _, _ => d
  | i + 1, d, n, k =>
    let j := (d.chS n).judged
    if k ≤ j then d
    else
      let t := match (d.chS n).edge with | some (j', t) => if j' = j then some t else none | none => none
      Dev.settleSlots i (d.judgeSlot n j t) n k

/-- Timing is measured: CHn is on, not OFF, its grid runs. -/
def Dev.sctRuns (d : Dev) (n : Nat) : Bool := d.domOn (4 + n) && d.sctSt n ≠ 0 && d.gridP n ≠ 0 && d.evt.running

/-- The strobe watchdog sees an edge (R254). -/
def Dev.wdEdge (d : Dev) (n : Nat) : Dev := d.modCh n fun c => { c with wdFrom := d.now, tripUn := false }

/-- The timestamp, in 1/64 tick, lies in the range of slot k (R210): T_k − P16 / 131,072 to T_k + P16 / 131,072 ticks, half open. -/
def Dev.inRange (d : Dev) (n k t : Nat) : Bool :=
  131072 * d.slotT n k ≤ 2048 * t + d.gridP n && 2048 * t < 131072 * d.slotT n k + d.gridP n

/-- The slot in whose range an edge lies: T_k is rounded down, so ranges of neighbours can meet in more than a point, or leave a
tick between them. In two ranges the nearer slot takes the edge, of two equally near the earlier (DESIGN CHOICE, see the
assumption log). -/
def Dev.bdSlot (d : Dev) (n t : Nat) : Option Nat :=
  let k := (t * 1024 + d.gridP n / 2 - 65536 * d.gridRef n) / d.gridP n
  if d.inRange n k t && (!d.inRange n (k + 1) t || 2 * t ≤ 64 * (d.slotT n k + d.slotT n (k + 1))) then some k
  else if d.inRange n (k + 1) t then some (k + 1)
  else none

/-- The edge that CHn's gate_flags bit 3 selects (R210). -/
def Dev.bdSelected (d : Dev) (n : Nat) (rising : Bool) : Bool :=
  match d.chan n with | some c => rising ≠ bit c.gateFlags 3 | none => rising

/-- BD_EDGE (R210): outside IN_PHASE the nearest edge of a slot counts, and the slot is judged once its range is over; in
IN_PHASE the first edge in the window is judged at once. An edge of the other polarity is none. -/
def Dev.bdEdge (d : Dev) (n t : Nat) (rising : Bool) : Dev :=
  if !d.domOn (4 + n) || !d.bdSelected n rising then d
  else
    let d := (d.advanceTo (t / 64 + d.get (F.CHn_SCT_CTRL.bd_filter n))).wdEdge n
    if !d.sctRuns n || t * 1024 + d.gridP n / 2 < 65536 * d.gridRef n then d
    else match d.bdSlot n t with
    | none => d.count (F.CHn_SCT_COUNTS.extra n)
    | some k =>
      let d := if (d.chS n).judged < k then d.settleSlots (k - (d.chS n).judged) n k else d
      let extra := d.count (F.CHn_SCT_COUNTS.extra n)
      if k < (d.chS n).judged then extra
      else if d.sctSt n = 3 then
        let w := max 1 (d.get (F.CHn_SCT_CTRL.bd_window n))
        let tk := d.slotT n k
        if 64 * tk ≤ t + 64 * w && t ≤ 64 * (tk + w) then d.judgeSlot n k (some t) else extra
      else
        match (d.chS n).edge with
        | none => d.modCh n fun c => { c with edge := some (k, t) }
        | some (_, t0) =>
          let tk : Int := (d.slotT n k * 64 : Nat)
          if ((t : Int) - tk).natAbs < ((t0 : Int) - tk).natAbs then extra.modCh n fun c => { c with edge := some (k, t) } else extra

/-- BD_WINDOW_CLOSE (R210): the window or the range of the next slot to be judged is over. -/
def Dev.bdClose (d : Dev) (n : Nat) : Dev :=
  if !d.sctRuns n then d
  else
    let k := (d.chS n).judged
    let w := if d.sctSt n = 3 then max 1 (d.get (F.CHn_SCT_CTRL.bd_window n)) else d.gridP n / 131072
    let d := d.advanceTo (d.slotT n k + w + d.get (F.CHn_SCT_CTRL.bd_filter n))
    d.settleSlots 1 n (k + 1)

/-- SCT_ENABLE (R211): the grid's slots have gone on whether or not they were measured. -/
def Dev.sctEnable (d : Dev) (n : Nat) (on : Bool) : Dev :=
  let d := d.putB (F.CHn_SCT_CTRL.enable n) on
  if on then (if d.sctSt n = 0 && d.domOn (4 + n) then (d.judgeRestart n).sctSearch n else d)
  else if d.sctSt n = 0 then d else (d.put (F.CHn_SCT_STATUS.lock_count n) 0).sctEnter n 0

/-- CHn is switched off: OFF (R211). -/
def Dev.sctOff (d : Dev) (n : Nat) : Dev := d.sctEnter n 0

/-! ### The commands -/

/-- BD_EDGE (R210). -/
def execBdEdge (n : Fin 8) (t64 : Nat) (rising : Bool) (s : State) : Host.Outcome State Fault Refusal :=
  s.onDev (·.bdEdge n t64 rising)
/-- BD_WINDOW_CLOSE (R211). -/
def execBdWindowClose (n : Fin 8) (s : State) : Host.Outcome State Fault Refusal := s.onDev (·.bdClose n)
/-- SCT_ENABLE (R211). -/
def execSctEnable (n : Fin 8) (on : Bool) (s : State) : Host.Outcome State Fault Refusal :=
  s.onDev fun d => d.agree (R.CHn_SCT_CTRL n) (putBits (d.rd (R.CHn_SCT_CTRL n)) 0 0 (b2n on)) (·.sctEnable n on)
/-- GRID_WRITE (R213). -/
def execGridWrite (n : Fin 8) (period : Bool) (v : Word64) (s : State) : Host.Outcome State Fault Refusal :=
  let r := if period then R.CHn_SCT_FACET_PERIOD n else R.CHn_SCT_REF_TIME n
  let x := if period then v.toNat % 2 ^ 48 else v.toNat
  s.onDev fun d => d.agree r x (·.gridWrite n r x)

end Sys2Proof.Machine
end

