-- ==== Sys2Proof/Machine/Plc.lean ====
section
/-! DEFINITION. Where scans start, the placement group and map, line reassignment and in-scan placement, the scan start
(R110-R113, R216-R226, R250). -/

namespace Sys2Proof.Machine

def Dev.plcFlag (d : Dev) (n k : Nat) : Dev := d.chFlag n (R.CHn_PLC_IRQ_STATUS n) (R.CHn_PLC_IRQ_EN n) k
def Dev.beamsOf (d : Dev) (n : Nat) : Nat := ((d.chan n).map Chan.beams).getD 1
def Dev.pixelsOf (d : Dev) (n : Nat) : Nat := ((d.chan n).map Chan.pixels).getD 1

/-! ### The map and the group (R219, R220, R224) -/

/-- BAR2 address of knot j. -/
def knotAddr (n j : Nat) : Nat := 0x100000 + n * 0x2000 + 8 * j
/-- kx and ky of a knot word. -/
def knotX (w : Nat) : Int := sext 16 w
def knotY (w : Nat) : Int := sext 16 (w / 2 ^ 32)
/-- A knot of the active map, and of the shadow map. -/
def Dev.knot (d : Dev) (n j : Nat) : Nat := (Store.get 0#64 d.actTbl (knotAddr n j)).toNat
def Dev.shadowKnot (d : Dev) (n j : Nat) : Nat := d.tw (knotAddr n j)

/-- dy at pixel x from knots (R219). -/
def dyAt (ky : Nat → Int) (x : Nat) : Int :=
  let j := x / 32; let r := x % 32
  if 1023 ≤ j then ky 1023 else ky j + ((ky (j + 1) - ky j) * r + 16) / 32

/-- The correction C of R220. -/
def corrC (dy yoff : Int) (frac : Nat) : Int := clampI (-256) 255 ((dy + yoff + 8) / 16 + frac)

/-- The group of R224. -/
def plcGroup (n : Nat) : List Reg :=
  [R.CHn_PLC_CTRL n, R.CHn_PLC_START n, R.CHn_PLC_IMAGE_DELAY n, R.CHn_PLC_LINE_RATIO n] ++
    (List.range 64).map (R.CHn_PLC_BEAM_DELAYb n) ++
    (List.range 12).flatMap fun f => [R.CHn_PLC_FACET_DELAYf n f, R.CHn_PLC_FACET_YOFFf n f]

/-- The checks of R224 on the written group: code and the knot or facet concerned. -/
def Dev.plcCheck (d : Dev) (n : Nat) : Option (Nat × Nat) :=
  let sd := d.get (F.CHn_PLC_START.start_delay n)
  let m := d.act (R.CHn_PXS_FREQ n)
  let f := d.facetsOf n
  let trim := fun (i : Nat) => sext 16 (d.get (F.CHn_PLC_FACET_DELAYf.trim n i))
  let ms := (List.range f).map fun i => mFacet m (trim i)
  let lo := ms.foldl min (ms.headD 0)
  if sd * 2 ^ 28 < 500 * m then some (1, 0)
  else if d.gridP n * lo ≤ (sd + d.pixelsOf n + 512) * 2 ^ 44 then some (2, (ms.findIdx? (· = lo)).getD 0)
  else match (List.range 1023).find? fun j => 63 < (knotX (d.shadowKnot n (j + 1)) - knotX (d.shadowKnot n j)).natAbs with
  | some j => some (3, j)
  | none => match (List.range f).find? fun i => 5242 < (trim i - trim ((i + 1) % f)).natAbs with
    | some i => some (4, i)
    | none => if d.on (F.CHn_PLC_CTRL.enc_en n) && d.pinFunc 4 (d.get (F.CHn_PLC_CTRL.enc_sel n)) ≠ 0 then some (5, 0) else none

/-- reach_fwd of the written group (R224). -/
def Dev.reachFwd (d : Dev) (n : Nat) : Nat :=
  let ky := fun (j : Nat) => knotY (d.shadowKnot n j)
  let px := d.pixelsOf n - 1
  let dys := dyAt ky px :: (List.range (min 1023 (px / 32) + 1)).map ky
  let cs := dys.flatMap fun dy => (List.range (d.facetsOf n)).map fun f => corrC dy (sext 16 (d.get (F.CHn_PLC_FACET_YOFFf.yoff n f))) 15
  let cmax := cs.foldl max (-256)
  min 16 (max 0 ((cmax + 15) / 16)).toNat

/-- The transfer at a scan start (R224): refused with a check code, or the whole group and the map in one clock. -/
def Dev.plcTransfer (d : Dev) (n : Nat) : Dev :=
  if !d.isReady (R.CHn_PLC_COMMIT n) then d
  else match d.plcCheck n with
  | some (code, i) =>
    let d := ((d.setReady (R.CHn_PLC_COMMIT n) false).put (F.CHn_PLC_STATUS.shadow_pending n) 0).put (F.CHn_PLC_STATUS.check n) code
    ((d.plcFlag n 1).report n (0x13 <<< 24 + code) i).calOutcome 2 n true
  | none =>
    let reach := d.reachFwd n
    let d := d.transfer (R.CHn_PLC_COMMIT n) (F.CHn_PLC_STATUS.shadow_pending n) (plcGroup n)
    let shadow := d.tbl.filter fun (p : Nat × Word64) => knotAddr n 0 ≤ p.1 && p.1 < knotAddr (n + 1) 0
    let d := { d with
      actTbl := shadow.foldl (fun (m : Store Word64) (p : Nat × Word64) => Store.set 0#64 m p.1 p.2) (d.actTbl.dropRange (knotAddr n 0) (knotAddr (n + 1) 0)) }
    (((d.put (F.CHn_PLC_STATUS.reach_fwd n) reach).put (F.CHn_PLC_STATUS.map_copy n) 1).plcFlag n 0).calOutcome 2 n false

/-- MAP_COPY_DONE (R224): the shadow map holds what was transferred and the writes made since. -/
def Dev.mapCopyDone (d : Dev) (n : Nat) : Dev := d.put (F.CHn_PLC_STATUS.map_copy n) 0

/-! ### Requests and slips (R111, R112, R217, R218) -/

/-- The applied high-water position of encoder e (R96). -/
def Dev.encHwm (d : Dev) (e : Nat) : Int := sext 48 (d.rd (R.EVT_ENCn_HWM e))

/-- h(s) − h(0) of the encoder that the active group names (R217): a group that changes the encoder within a sheet counts from
where the new one stood at scan 0. -/
def Dev.encMoved (d : Dev) (n : Nat) (q : Seq) : Int :=
  let e := d.ga (F.CHn_PLC_CTRL.enc_sel n)
  d.encHwm e - q.h0.getD e 0

/-- slip_s and the encoder's part in it (R217). -/
def Dev.slipOf (d : Dev) (n : Nat) (q : Seq) : Nat :=
  if !d.gaOn (F.CHn_PLC_CTRL.enc_en n) then 0
  else
    let y16 := d.encMoved n q * (d.ga (F.CHn_PLC_LINE_RATIO.ratio n) : Nat) / 256
    let ahead := y16 - 16 * (q.b - q.b0 + d.beamsOf n)
    let tol : Int := (max 1 (d.ga (F.CHn_PLC_CTRL.slip_tol n)) : Nat)
    if 16 * tol ≤ ahead then (ahead / 16).toNat else 0

/-- Withdraw a port for a cause of this member alone (R239, R249). -/
def Dev.withdraw_ (d : Dev) (n cause : Nat) : Dev :=
  if d.port n ≠ 5 then d
  else
    let d := (d.sendCtl n 3 cause).put (F.CHn_BLP_STATUS.state n) 6
    ((d.put (F.CHn_BLP_STATUS.withdraw_cause n) cause).blpFlag n 3).gate n

/-- A loss that R249 calls a member's own: in Twin grade the port withdraws. -/
def Dev.ownLoss (d : Dev) (n cause : Nat) : Dev := if d.twin then d.withdraw_ n cause else d

/-- A member in neither LOCKSTEP nor ALONE (R401). -/
def Dev.outOfStep (d : Dev) : Bool := d.twin && d.get F.TWN_STATUS.state ≠ 3 && d.get F.TWN_STATUS.state ≠ 4

/-- Such a member withdraws every ACTIVE port, recorded once (R401). -/
def Dev.twnPorts (d : Dev) : Dev :=
  let ps := (List.range 8).filter fun n => d.port n = 5
  if !d.outOfStep || ps.isEmpty then d
  else
    let d := d.each ps fun d n => d.withdraw_ n 3
    if d.twn.said95 then d
    else ({ d with twn := { d.twn with said95 := true } } : Dev).report 32 (0x95 <<< 24 + d.get F.TWN_STATUS.state) 0

/-- Request the nominal lines up to `hi` for scan s (R111, R218): the input lines that are not resident underrun it. -/
def Dev.request (d : Dev) (n s : Nat) (hi : Int) : Dev :=
  let q := (d.chS n).sq
  match (d.chS n).desc, d.chan n with
  | some k, some c =>
    let top := (clampI (-1) ((q.lines : Int) - 1) hi + 1).toNat
    if top ≤ q.req then d
    else
      let ins := ((List.range (top - q.req)).map fun i => inputLine c (q.req + i)).eraseDups
      let lastIn := inputLine c (top - 1) + 1
      let d := d.modCh n fun x => { x with sq := { q with req := top, reqIn := lastIn }, screenQ := x.screenQ ++ [(s, q.req, top - 1)] }
      if (d.chS n).dropped || d.shtState k ≠ 3 then d
      else
        let d := d.put (F.SHT_Dd_PROGn.requested k n) lastIn
        match ins.find? fun l => d.get (F.SHT_Dd_FILLn.lines k n) ≤ l with
        | some l =>
          if q.under.isSome then d
          else
            let d := d.modCh n fun x => { x with sq := { x.sq with under := some s } }
            ((d.spoil k 0x40 n l).ownLoss n 1).lgStation n 3
        | none => d
  | _, _ => d

/-- A slip of scan s (R112, R217): the lines passed over, those of the sheet only, are counted; one record per channel and
sheet. -/
def Dev.slipped (d : Dev) (n k s slip lines : Nat) : Dev :=
  if lines = 0 then d
  else
    let d := if d.shtState k = 3 then
        (d.count (F.SHT_Dd_PROGn.slipped k n) lines).put (F.SHT_Dd_STATE.overrun k) 1 else d
    let d := (d.count (F.CHn_PLC_SLIP.lines n) lines).plcFlag n 2
    if (d.chS n).sq.slipRep then d
    else
      let d := d.modCh n fun x => { x with sq := { x.sq with slipRep := true } }
      d.report 40 (n <<< 29 + s % 2 ^ 24) ((d.chS n).sq.tag <<< 16 + min slip 0xFFFF)

/-- Plan the scan of the slot to come (R217, R218): base line, slip, request; none where the sheet has no further line. A slip that
passes the last line is a slip all the same. -/
def Dev.planScan (d : Dev) (n : Nat) : Dev :=
  let ch := d.chS n
  match ch.desc with
  | none => d
  | some k =>
    let q := ch.sq
    let bm : Int := (d.beamsOf n : Nat)
    let (s, b, slip) := match q.last with
      | none => (0, q.b0, 0)
      | some l => let sl := d.slipOf n q; (l + 1, q.b + bm + (sl : Nat), sl)
    let passed := (min b (q.lines : Int) - (b - (slip : Nat))).toNat
    if (q.lines : Int) ≤ b then (d.modCh n fun x => { x with next := none }).slipped n k s slip (min slip passed)
    else
      let h0 := if s = 0 then (List.range 4).map d.encHwm else q.h0
      let d := d.modCh n fun x =>
        { x with sq := { q with b := b, last := some s, h0 := h0 }, next := some ⟨s, b, (q.lines : Int) ≤ b + bm⟩ }
      let d := d.slipped n k s slip slip
      d.request n s (b + bm - 1 + (d.get (F.CHn_PLC_STATUS.reach_fwd n) : Nat))

/-! ### IMAGE_START (R110, R216) -/

/-- The first slot, q and whether the start is late (R216). -/
def Dev.firstSlot (d : Dev) (n td : Nat) : Nat × Nat × Bool :=
  let timg := td + d.ga (F.CHn_PLC_IMAGE_DELAY.ticks n)
  let p := max 1 (d.gridP n); let r := 65536 * d.gridRef n
  let kmin := (65536 * td - r + p - 1) / p + 1
  if r < 65536 * (timg + 1) && kmin ≤ (65536 * (timg + 1) - 1 - r) / p then
    let k0 := (65536 * (timg + 1) - 1 - r) / p
    (k0, 16 * d.beamsOf n * (65536 * timg - d.slotT16 n k0) / p, false)
  else (kmin, 0, true)

/-- A refused IMAGE_START of an entry on the arming list of a PICKED sheet spoils the sheet; a channel of the sheet that has not
started it is dropped (R110, R117). -/
def Dev.startRefused (d : Dev) (n idx tag : Nat) : Dev :=
  match d.descOf tag with
  | some k =>
    if d.shtState k = 3 && d.listed k idx then
      let d := d.spoil k 0x4C n idx
      if (d.sheetChans k).contains n && !bit (d.get (F.SHT_Dd_CHAN.started k)) n then (d.dropChan k n).tryComplete k else d
    else d
  | none => d

/-- An IMAGE_START firing at CHn (R110): accepted or refused. A channel dropped before its start runs out the scans it would have
had, dark (R113, R232). An earlier sheet that still runs on CHn loses the channel to this one (DESIGN CHOICE, see the assumption
log). -/
def Dev.imageStart (d : Dev) (n idx tag td : Nat) : Dev × Bool :=
  match d.descOf tag, d.chan n with
  | some k, some c =>
    let member := (d.sheetChans k).contains n
    let fresh := !bit (d.get (F.SHT_Dd_CHAN.started k)) n
    if d.shtState k = 3 && member && fresh && d.gridP n ≠ 0 && d.domOn (4 + n) then
      let d := ((d.putBit (F.SHT_Dd_CHAN.started k) n true).milestone 0x06 tag 0 n k 0).lgStation n 1
      let d := d.scrStart n tag
      let (k0, q, late) := d.firstSlot n td
      let d := if late then
          (d.plcFlag n 4).report n (0x15 <<< 24 + min (d.slotT n k0 - (td + d.ga (F.CHn_PLC_IMAGE_DELAY.ticks n))) 0xFFFFFF) (tag <<< 16)
        else d
      let b0 : Int := -(((q + 15) / 16 : Nat) : Int)
      let sq : Seq := { tag := tag, k0 := k0, lines := nominalLines c (d.get (F.SHT_Dd_LINES.input_lines k)), frac := (16 - q % 16) % 16, b0 := b0, b := b0 }
      let d := d.modCh n fun x =>
        { x with desc := some k, placed := 0, dropped := bit (d.get (F.SHT_Dd_CHAN.ended k)) n, sq := sq, next := none, cur := none,
                 screenQ := [], codes := [] }
      let d := d.gate n
      (if (d.chS n).slot = k0 then d.planScan n else d, false)
    else (d.startRefused n idx tag, true)
  | _, _ => (d.startRefused n idx tag, true)

/-! ### Codes and segment records (R220-R223) -/

/-- The codes of a scan are 0 (R198 conditions 1, 2; a dropped permit is the port's). -/
def Dev.blanked (d : Dev) (n s : Nat) : Bool :=
  let ch := d.chS n
  (match ch.sq.under with | some u => u ≤ s | none => false) ||
    (match ch.desc with
      | some k => d.on (F.SHT_Dd_STATE.spoiled k) && d.tagOf k = ch.sq.tag && d.on (F.SHT_Dd_HEAD.blank_on_spoil k)
      | none => false)

/-- The word of the code store that holds pixel x of nominal line y, with its syndrome. -/
def ChSt.codeWord (c : ChSt) (y x : Nat) : Nat × Nat := (Store.get [] c.codes y).getD (x / 16) (0, 0)

/-- S(y, x) after the decode of R223. -/
def ChSt.codeAt (c : ChSt) (y : Int) (x : Nat) : Nat :=
  if y < 0 then 0
  else
    let (w, syn) := c.codeWord y.toNat x
    let (v, o) := decodeWord w (syn % 256)
    if o = .uncorrectable then 0 else v / 16 ^ (x % 16) % 16

/-- C of pixel x on facet f in the active group. -/
def Dev.corrAt (d : Dev) (n f x : Nat) : Int :=
  corrC (dyAt (fun j => knotY (d.knot n j)) x) (sext 16 (d.ga (F.CHn_PLC_FACET_YOFFf.yoff n f))) (d.chS n).sq.frac

/-- Nominal line of beam b in a scan of base line bs (R220). -/
def Dev.beamLine (d : Dev) (n : Nat) (bs : Int) (b : Nat) : Int :=
  if d.gaOn (F.CHn_PLC_CTRL.beam_reverse n) then bs + (d.beamsOf n : Nat) - 1 - (b : Nat) else bs + (b : Nat)

/-- The code that beam b carries at pixel x (R220). -/
def Dev.beamCode (d : Dev) (n f : Nat) (sc : Scan) (b x : Nat) : Nat :=
  if d.pixelsOf n ≤ x || d.blanked n sc.s then 0
  else
    let c := d.corrAt n f x
    let a := c / 16; let w := (c % 16).toNat
    let y := d.beamLine n sc.b b
    ((16 - w) * (d.chS n).codeAt (y + a) x + w * (d.chS n).codeAt (y + a + 1) x + 8) / 16

/-- The placement offset O (R221). -/
def Dev.placeO (d : Dev) (n f b j : Nat) : Int :=
  clampI (-32767) 32767 (sext 16 (d.ga (F.CHn_PLC_BEAM_DELAYb.delay n b)) + sext 16 (d.ga (F.CHn_PLC_FACET_DELAYf.delay n f))
    - knotX (d.knot n j))

/-- Segments of a line. -/
def Dev.segments (d : Dev) (n : Nat) : Nat := (d.pixelsOf n + 31) / 32

/-- A segment record (R222, R231): 16 bytes of codes, then step and fine phase. -/
def Dev.segRecord (d : Dev) (n f : Nat) (sc : Scan) (b j : Nat) (zero : Bool) : List Nat :=
  let o := d.placeO n f b j
  let step : Int := if j = 0 then 0 else o / 64 - d.placeO n f b (j - 1) / 64
  let code := fun (m : Nat) => if zero then 0 else d.beamCode n f sc b (32 * j + m)
  (List.range 16).map (fun i => code (2 * i) + 16 * code (2 * i + 1)) ++ [(step % 4).toNat * 64 + (o % 64).toNat]

/-- Beam b reads word w of nominal line y in a scan on facet f (R220, R223): some pixel of the word takes the line as S(Y + a, x),
or as S(Y + a + 1, x) with a weight. -/
def Dev.beamReads (d : Dev) (n f : Nat) (sc : Scan) (y : Int) (w b : Nat) : Bool :=
  (List.range 16).any fun i =>
    let x := 16 * w + i
    let c := d.corrAt n f x
    let l := d.beamLine n sc.b b + c / 16
    x < d.pixelsOf n && (l = y || (c % 16 ≠ 0 && l + 1 = y))

/-- Code-store words that the scan reads with a syndrome (R223): each read is decoded and counted on its own; an uncorrectable word
is reported once per word and scan. -/
def Dev.codeErrors (d : Dev) (n f : Nat) (sc : Scan) : Dev :=
  let ch := d.chS n
  let bm : Int := (d.beamsOf n : Nat)
  let near := ch.codes.filter fun p => sc.b - 16 ≤ (p.1 : Int) && (p.1 : Int) ≤ sc.b + bm + 16
  d.each near fun d p => d.each (p.2.zipIdx.filter fun w => w.1.2 % 256 ≠ 0) fun d w =>
    let reads := (List.range (d.beamsOf n)).countP (d.beamReads n f sc p.1 w.2)
    if reads = 0 then d
    else match (decodeWord w.1.1 (w.1.2 % 256)).2 with
    | .clean => d
    | .corrected => d.count (F.CHn_PLC_CE_COUNT.count n) reads
    | .uncorrectable =>
      ((d.count (F.CHn_PLC_UE_COUNT.count n) reads).plcFlag n 3).report n (0x14 <<< 24 + sc.s % 2 ^ 24) (ch.sq.tag <<< 16 + w.2)

/-! ### Direct modulation (R250) -/

/-- Merge with the pulse p the pulses of a list that touch or overlap it, and one another: they come in rising order of start. -/
def mergeInto : Int × Nat → List (Int × Nat) → List (Int × Nat)
  | p, [] => [p]
  | p, r :: rs => if r.1 ≤ p.1 + (p.2 : Nat) then mergeInto (p.1, max p.2 (r.1 + (r.2 : Nat) - p.1).toNat) rs else p :: mergeInto r rs
def mergePulses : List (Int × Nat) → List (Int × Nat)
  | [] => []
  | p :: ps => mergeInto p ps

/-- The pulses of a scan on DMOn: those wide enough, and how many are suppressed. -/
def Dev.dmoPulses (d : Dev) (n f m : Nat) (sc : Scan) : List (Int × Nat) × Nat :=
  let just := d.ga (F.CHn_FGT_DMO_CFG.justify n)
  let all := (List.range (d.pixelsOf n)).filterMap fun x =>
    let c := d.beamCode n f sc 0 x
    if c = 0 then none
    else
      let w := min 64 (d.act (R.CHn_FGT_DMO_WIDTHc n (c / 4)) / 256 ^ (c % 4) % 256)
      let sh : Int := if just = 0 then 0 else if just = 2 then (64 - w : Nat) else ((64 - w) / 2 : Nat)
      some ((64 * x : Nat) + d.placeO n f 0 (x / 32) + sh, w)
  let all := mergePulses (sortBy (fun a b => a.1 ≤ b.1) all)
  -- w/64 pixel is w x 2^28 / M_f units of 125 ps
  let wide := fun (p : Int × Nat) => d.ga (F.CHn_FGT_DMO_CFG.min_width n) * m ≤ p.2 * 2 ^ 28
  (all.filter fun p => wide p && p.2 ≠ 0, (all.filter fun p => !wide p).length)

/-- DMOn is driven by the pulses of its slot, at this moment (R250, R251): held low while the permit is dropped; in Twin grade the
Token holder alone drives it, and not while its outputs are frozen or released (R396). -/
def Dev.dmoOpen (d : Dev) (n : Nat) : Bool :=
  d.blMode n = 2 && d.on (F.CHn_FGT_STATUS.permit n) &&
    (!d.twin || (d.on F.TWN_TOKEN_STATE.latch && !d.twnFrozen))

/-- The pulses of a scan for DMOn (R250), whatever gates the pin while they run. -/
def Dev.driveDmo (d : Dev) (n k f m : Nat) (sc : Scan) : Dev :=
  if d.blMode n ≠ 2 then d
  else
    let (ps, sup) := d.dmoPulses n f m sc
    (d.when (d.dmoOpen n) (·.count (F.CHn_FGT_COUNTS.suppressed n) sup)).emit (.dmo n k ps)

/-! ### The scan start (R208, R224, R232) -/

/-- N_k of an imaging slot (R232). -/
def Dev.nScan (d : Dev) (n : Nat) : Nat := 1 + d.beamsOf n * ((d.segments n + 63) / 64)

/-- The scan sequence of a channel is over (R113): CHANNEL_END, unless the channel was dropped; the gap begins. -/
def Dev.seqEnd (d : Dev) (n : Nat) : Dev :=
  match (d.chS n).desc with
  | none => d
  | some k =>
    let isOver := (d.chS n).dropped || d.shtState k ≠ 3 || bit (d.get (F.SHT_Dd_CHAN.ended k)) n
    let d := if isOver then d else d.chanEnd k n
    let held := d.holdsDrop n
    let d := d.modCh n fun x => { x with desc := none, dropped := held, next := none, cur := none, screenQ := [], codes := [], sq := {} }
    let d := if isOver then d else d.tryComplete k
    let d := if (d.chS n).reqEnd then (d.put (F.CHn_FGT_CTRL.permit_req n) 0).modCh n fun x => { x with reqEnd := false } else d
    (((d.scrLock n false).darken n).gate n).gapBegins n

/-- Codes of a scan that starts unscreened are late (R202). -/
def Dev.lateScan (d : Dev) (n s : Nat) : Dev :=
  match (d.chS n).screenQ.filter fun r => r.1 ≤ s with
  | [] => d
  | rs =>
    let px := rs.foldl (fun a r => a + (r.2.2 + 1 - r.2.1) * d.pixelsOf n) 0
    let d := d.modCh n fun x => { x with screenQ := x.screenQ.filter fun r => s < r.1 }
    ((d.count (F.CHn_SCR_LATE_COUNT.count n)).scrFlag n 4).report n (0x02 <<< 24 + s % 2 ^ 24) ((d.chS n).sq.tag <<< 16 + min px 0xFFFF)

/-- A withdrawn port rejoins at the first slot after CHANNEL_END with its cause cleared (R239). -/
def Dev.rejoin (d : Dev) (n : Nat) : Dev :=
  let ch := d.chS n
  let cleared := match d.get (F.CHn_BLP_STATUS.withdraw_cause n) with
    | 2 => d.on (F.CHn_PXS_STATUS.locked n)
    | 3 => !(ch.latches.any fun l => l.kind = 4) && !d.outOfStep
    | 4 => !d.on (F.CHn_FGT_STATUS.disabled n)
    | _ => true
  if d.port n = 6 && (ch.desc.isNone || ch.dropped) && cleared then
    ((((d.put (F.CHn_BLP_STATUS.state n) 5).put (F.CHn_BLP_STATUS.withdraw_cause n) 0).sendCtl n 4 0).blpFlag n 0).gate n
  else d

/-! ### Frames (R229-R233, R391) -/

/-- A frame (R230): SOF, header and payload bytes, EOF with the CRC-32C of all but the SOF's and the EOF's type bytes. -/
def blFrame (ble : Bool) (kind seq permit : Nat) (body : List Nat) : List Nat :=
  let head := [kind] ++ leBytes 2 seq ++ [permit, 0, 0, 0]
  [if ble then 0xA3 else 0xFB] ++ head ++ body ++ [if ble then 0xB4 else 0xDC] ++ leBytes 4 (crc32c (head ++ body)) ++ [0, 0, 0]

/-- Zero bytes up to the next multiple of 8. -/
def pad8 (l : List Nat) : List Nat := l ++ List.replicate ((8 - l.length % 8) % 8) 0

/-- A code that S(y, x) takes was forced to 0 on this member: conditions 3 to 6 of R198, or R223. -/
def ChSt.forcedAt (c : ChSt) (y : Int) (x : Nat) : Bool :=
  if y < 0 || (c.sq.lines : Int) ≤ y then false
  else
    let ws := Store.get [] c.codes y.toNat
    let (w, syn) := ws.getD (x / 16) (0, 0)
    ws.isEmpty || bit syn (8 + x % 16) || (decodeWord w (syn % 256)).2 = .uncorrectable

/-- A SEGMENTS frame of records j0 to j0 + cnt - 1 carries a forced code (R391). -/
def Dev.frameForced (d : Dev) (n f : Nat) (sc : Scan) (b j0 cnt : Nat) : Bool :=
  let ch := d.chS n
  (match ch.sq.under with | some u => u ≤ sc.s | none => false) ||
    (List.range (32 * cnt)).any fun i =>
      let x := 32 * j0 + i
      if d.pixelsOf n ≤ x then false
      else
        let c := d.corrAt n f x
        let y := d.beamLine n sc.b b + c / 16
        ch.forcedAt y x || (c % 16 ≠ 0 && ch.forcedAt (y + 1) x)

/-- A SEGMENTS frame (R230, R231). -/
def Dev.segFrame (d : Dev) (n f q : Nat) (sc : Scan) (b j0 cnt seq : Nat) : List Nat :=
  let permit := d.get (F.CHn_FGT_STATUS.permit n)
  let head := leBytes 2 q ++ [b, cnt - 1] ++ leBytes 2 j0 ++ leBytes 2 (enc 16 (d.placeO n f b j0 / 64))
  let recs := (List.range cnt).flatMap fun i => d.segRecord n f sc b (j0 + i) (permit = 0)
  blFrame (d.blMode n = 1) 2 (seq % 65536) permit (head ++ pad8 recs)

/-- The SCAN_HEAD of slot k (R230). -/
def Dev.scanHead (d : Dev) (n k q : Nat) (sc : Option Scan) (skip : Bool) : List Nat :=
  let f := d.facetOf n k
  let flags := match sc with
    | some sc => b2n (!skip) + 2 * b2n (decide (sc.s = 0)) + 4 * b2n sc.last + 8 * b2n skip
    | none => 0
  let head := leBytes 2 (if sc.isSome then (d.chS n).sq.tag else 0) ++ [f, flags]
    ++ leBytes 2 (if sc.isSome then d.nScan n - 1 else 0) ++ [0, 0]
  let body := leBytes 4 (d.mNom n f) ++ leBytes 2 (d.ga (F.CHn_PLC_START.start_delay n)) ++ [d.beamsOf n, 0]
  blFrame (d.blMode n = 1) 1 (q % 65536) (d.get (F.CHn_FGT_STATUS.permit n)) (head ++ body)

/-- The frames of slot k leave an ACTIVE port in seq order (R233): a dropped channel skips its segments (R232), a member in
LOCKSTEP omits those that carry a code forced to 0 on it alone (R391). -/
def Dev.sendFrames (d : Dev) (n k q : Nat) (sc : Option Scan) : Dev :=
  if d.port n ≠ 5 || d.on (F.CHn_FGT_STATUS.disabled n) then d
  else
    let f := d.facetOf n k
    let skip := sc.isSome && (d.chS n).dropped
    let d := d.modCh n fun c => { c with sent := k + 1 }
    let d := (d.emit (.beam n (d.scanHead n k q sc skip))).count (F.CHn_BLP_FRAMES.frames n)
    match sc with
    | none => d
    | some sc =>
      if skip then d
      else
        let segs := d.segments n
        let per := (segs + 63) / 64
        let lockstep := d.twin && d.get F.TWN_STATUS.state = 3
        d.each (List.range (d.beamsOf n * per)) fun d i =>
          let b := i / per; let j0 := 64 * (i % per); let cnt := min 64 (segs - j0)
          if lockstep && d.frameForced n f sc b j0 cnt then d
          else (d.emit (.beam n (d.segFrame n f q sc b j0 cnt (q + 1 + i)))).count (F.CHn_BLP_FRAMES.frames n)

/-- SCAN_START: the next slot of CHn begins. -/
def Dev.scanStart (d : Dev) (n : Nat) : Dev :=
  let ok := d.domOn (4 + n) && (d.chan n).isSome && d.gridP n ≠ 0 && d.evt.running
  if !ok then d
  else
    let k := (d.chS n).slot
    let d := d.advanceTo (d.slotT n k)
    let f := d.facetOf n k
    let ch := d.chS n
    -- the slot that begins keeps the group its scan was requested under
    let nk := if ch.next.isSome then d.nScan n else 1
    let q := d.get (F.CHn_BLP_SEQ.next_q n)
    let d := (d.wr (R.CHn_SCT_SLOT n) k).put (F.CHn_SCT_STATUS.facet n) f
    let d := (d.put (F.CHn_BLP_SEQ.next_q n) (q + nk)).put (F.CHn_BLP_SEQ.n_scan n) (d.nScan n)
    let d := d.modCh n fun x =>
      { x with slot := k + 1, q := q, cur := ch.next, next := none, curM := d.mOf n f, curSd := d.ga (F.CHn_PLC_START.start_delay n) }
    let d := match ch.next with
      | some sc =>
        let d := d.lateScan n sc.s
        let d := if ch.dropped then d else d.modCh n fun x => { x with placed := x.placed + 1 }
        let d := if ch.dropped then d else (d.codeErrors n f sc).driveDmo n k f (d.mOf n f) sc
        d.modCh n fun x => { x with codes := x.codes.filter fun p => sc.b - 16 ≤ (p.1 : Int) }
      | none => d
    let d := d.rejoin n
    let d := if (d.chS n).sent ≤ k then d.sendFrames n k q ch.next else d
    let d := d.plcTransfer n
    if ch.desc.isSome && ch.next.isNone && ch.sq.last.isSome then d.seqEnd n
    else if ch.desc.isSome && ch.sq.k0 ≤ k + 1 then d.planScan n
    else d

/-! ### The commands -/

/-- MAP_COPY_DONE (R224). -/
def execMapCopyDone (n : Fin 8) (s : State) : Host.Outcome State Fault Refusal := s.onDev (·.mapCopyDone n)

end Sys2Proof.Machine
end

