-- ==== Sys2Proof/Machine/Blp.lean ====
section
/-! DEFINITION. The Beam Link ports: frames and control units sent, the back channel, training and losses (R228-R240, R257, R259),
and the commands of the firing gate (R252-R256). Port states: 0 OFF, 1 DETECT, 2 TRAIN, 3 LATENCY, 4 CHECK, 5 ACTIVE, 6 WITHDRAWN,
7 FAILED. -/

namespace Sys2Proof.Machine

def Dev.phase8 (d : Dev) : Bool := Store.get 0 d.sys.ph 8 = 1
/-- The channel is in use with a port: bl_mode 0 (BL-F) or 1 (BL-E). -/
def Dev.hasPort (d : Dev) (n : Nat) : Bool := (d.chan n).isSome && d.blMode n < 2
def Dev.blLanes (d : Dev) (n : Nat) : Nat := ((d.chan n).map Chan.blLanes).getD 1
/-- CHn is in chan_mask of an ADMITTED or PICKED sheet (R256, R259). -/
def Dev.chanBusy (d : Dev) (n : Nat) : Bool :=
  (List.range 32).any fun k => (d.shtState k = 2 || d.shtState k = 3) && (d.sheetChans k).contains n
/-- What a forward pin pair of a port carries (R228, R229, R239): nothing in OFF; the stream of units, training sequences or idle
units on a used lane; the facet's pixel clock on BLn_CK of BL-F; electrical idle on an unused lane and on BLn_CK of BL-E. -/
inductive BlPin where
  | highZ
  | idle
  | stream
  | clock
  deriving DecidableEq, Repr
def Dev.blTx (d : Dev) (n lane : Nat) : BlPin :=
  if !d.hasPort n || d.get (F.CHn_BLP_STATUS.state n) = 0 then .highZ else if lane < d.blLanes n then .stream else .idle
def Dev.blCk (d : Dev) (n : Nat) : BlPin :=
  if !d.hasPort n || d.get (F.CHn_BLP_STATUS.state n) = 0 then .highZ else if d.blMode n = 0 then .clock else .idle
def Dev.blpDetail (d : Dev) (n v : Nat) : Dev := d.put (F.CHn_BLP_STATUS.detail n) v
def Dev.blpEnter (d : Dev) (n st : Nat) : Dev := (d.put (F.CHn_BLP_STATUS.state n) st).gate n

/-! ### Changes of state (R239, R240, R257) -/

/-- To DETECT. -/
def Dev.blpDetect (d : Dev) (n : Nat) : Dev :=
  let from5 := d.port n = 5 || d.port n = 6
  let d := if from5 then d.count (F.CHn_BLP_COUNTS.retrains n) else d
  let d := d.modCh n fun c => { c with hello := [], helloN := 0, rtt := [], probe := 0, locked := 0 }
  (d.put (F.CHn_BLP_STATUS.withdraw_cause n) 0).blpEnter n 1

/-- To FAILED (subcode 0x20): class 3 as a failure of phase 8 (R62), else the class of the REACT entry (R257). -/
def Dev.blpFail (d : Dev) (n detail : Nat) : Dev :=
  let d := if d.phase8 then d.reportClass 3 (8 + n) (0x20 <<< 24 + detail) (d.port n)
    else d.report (8 + n) (0x20 <<< 24 + detail) (d.port n)
  ((d.blpDetail n detail).blpEnter n 7).blpFlag n 1

/-- A trigger that fails the port in phase 8 and makes it train again outside. -/
def Dev.blpFailOrDetect (d : Dev) (n detail : Nat) : Dev :=
  if d.phase8 then d.blpFail n detail
  else ((d.report (8 + n) (0x20 <<< 24 + detail) (d.port n)).blpDetail n detail).blpDetect n

/-- The loss of an ACTIVE or WITHDRAWN port (subcode 0x21). -/
def Dev.blpLost (d : Dev) (n detail : Nat) : Dev :=
  let d := d.report (8 + n) (0x21 <<< 24 + detail) (d.chTag n <<< 16 + (d.chS n).q)
  ((d.blpDetail n detail).blpDetect n).blpFlag n 2

/-- The port's SerDes loop unlocks (R239, R356), and locks again. -/
def Dev.blpLoopLost (d : Dev) (n : Nat) : Dev :=
  let st := d.port n
  let d := if 2 ≤ st && st ≤ 6 then d.modCh n fun c => { c with lostLoop := true } else d
  if st = 5 || st = 6 then d.blpLost n 0x0E
  else if 2 ≤ st && st ≤ 4 then (d.blpDetail n 0x0E).blpDetect n
  else d
def Dev.blpLoopLocked (d : Dev) (n : Nat) : Dev := d.modCh n fun c => { c with lostLoop := false }

/-- Phase 8 starts, or CHn comes on after it: an OFF port enters DETECT. -/
def Dev.blpOn (d : Dev) (n : Nat) : Dev :=
  if d.hasPort n && d.domOn (4 + n) && d.port n = 0 && Store.get 0 d.sys.ph 8 ≠ 0 then d.blpDetect n else d
/-- CHn is switched off. -/
def Dev.blpOff (d : Dev) (n : Nat) : Dev := ((d.blpDetail n 0).put (F.CHn_BLP_STATUS.withdraw_cause n) 0).blpEnter n 0
def Dev.blpStart (d : Dev) : Dev := d.each d.chansInUse Dev.blpOn
/-- The ports of phase 8. -/
def Dev.ports8 (d : Dev) : List Nat := d.chansInUse.filter fun n => d.hasPort n && d.domOn (4 + n)
/-- Phase 8 is done; a port that has become ACTIVE and was withdrawn by R401 is trained. -/
def Dev.blpDone (d : Dev) : Bool := d.ports8.all fun n => d.port n = 5 || d.port n = 6
/-- The phase-8 timeout: the mask of the ports that are not ACTIVE. -/
def Dev.blpTimeout (d : Dev) : Dev × Nat :=
  let bad := d.ports8.filter fun n => d.port n ≠ 5 && d.port n ≠ 6
  (d.each bad fun d n => match d.port n with
    | 1 => d.blpFail n 0x01
    | 2 => d.blpFail n (if (d.chS n).locked = 1 then 0x06 else 0x05)
    | 3 => d.blpFail n 0x07
    | 4 => d.blpFail n 0x0B
    | _ => d,
   bad.foldl (fun m n => m + 2 ^ n) 0)
/-- The retry of phase 8 (R63). -/
def Dev.blpRetry (d : Dev) : Dev :=
  d.each d.chansInUse fun d n => if d.port n = 7 then (d.blpDetail n 0).blpDetect n else d

/-! ### Units of the device (R233-R235, R237) -/

/-- SLOT_FRAMES_SEND: the frames of the slot to come, once its codes are screened. -/
def Dev.slotFrames (d : Dev) (n : Nat) : Dev :=
  let ch := d.chS n
  let ready := match ch.next with | some sc => !ch.screenQ.any fun r => r.1 ≤ sc.s | none => true
  if d.domOn (4 + n) && d.gridP n ≠ 0 && d.evt.running && ch.sent ≤ ch.slot && ready then
    d.sendFrames n ch.slot (d.get (F.CHn_BLP_SEQ.next_q n)) ch.next
  else d

/-- The lead of a MARK that would leave `late` units of 125 ps after T_k + bd_window (R234). In BL-F the first bit is put back by up
to 1/4 period, so that it stands 1/4 to 3/4 of a period before the edge which the lead counts as edge 1. -/
def Dev.markLead (d : Dev) (n late : Nat) : Int :=
  let ch := d.chS n
  let m := max 1 ch.curM
  let phi := d.phiOf n (ch.slot - 1)
  let w := max 1 (d.get (F.CHn_SCT_CTRL.bd_window n))
  if d.blMode n = 1 then
    let l := sext 16 (d.get (F.CHn_BLP_LATENCY.l n))
    (2 * ((phi - 64 * (w : Nat) - (late : Nat) - l) * (m : Nat) + (ch.curSd * 2 ^ 34 : Nat)) + (m : Nat)) / (2 * (m : Nat) : Nat)
  else ((phi - 64 * (w : Nat) - (late : Nat)) * (m : Nat) + (ch.curSd * 2 ^ 34 : Nat) - (2 ^ 32 : Nat)) / (2 ^ 34 : Nat) + 1

/-- MARK_SEND: the MARK of the slot in progress; in BL-F BLn_CK has taken the slot's phase and frequency before it (R235). The time of its first bit within 1.0 µs is a free value. -/
def Dev.markSend (d : Dev) (n : Nat) : Dev :=
  let ch := d.chS n
  if d.port n ≠ 5 || ch.slot = 0 || ch.slot ≤ ch.marked || d.on (F.CHn_FGT_STATUS.disabled n) then d
  else
    let d := d.advanceTo (d.slotT n (ch.slot - 1) + max 1 (d.get (F.CHn_SCT_CTRL.bd_window n)))
    let (v, d) := d.freeVal 64
    let late := v % 8001
    let d := d.when (d.blMode n = 0)
      (·.emit (.blClock n (max 1 ch.curM) (64 * (d.slotT n (ch.slot - 1) : Nat) + d.phiOf n (ch.slot - 1)) ch.curSd))
    (d.modCh n fun c => { c with marked := c.slot }).sendCtl n 1 (enc 24 (d.markLead n late))

/-- PERMIT_UNIT_PERIODIC. -/
def Dev.permitUnit (d : Dev) (n : Nat) : Dev :=
  if d.port n ≠ 5 || d.on (F.CHn_FGT_STATUS.disabled n) then d
  else
    let d := d.advance8To ((d.chS n).permAt + 1250)
    (d.modCh n fun c => { c with permAt := d.sys.now8 }).sendCtl n 2 0

/-- BTS1 on each used lane (R237). -/
def Dev.sendBts (d : Dev) (n : Nat) : Dev :=
  match d.chan n with
  | none => d
  | some c =>
    let member := if d.twin then (if d.on F.SYS_STRAPS.twsel then 2 else 1) else 0
    d.each (List.range c.blLanes) fun d lane =>
      let b := [0x11, lane, 0x5A, c.blMode, d.get (F.CHn_BLP_STATUS.rate n), c.blLanes, member, n, c.beams, c.facets, 0, 0]
      d.emit (.beam n (b ++ [crc16 b / 256, crc16 b % 256]))

/-- PROBE_SEND. -/
def Dev.probeSend (d : Dev) (n : Nat) : Dev :=
  let ch := d.chS n
  if d.port n ≠ 3 || 16 ≤ ch.probe then d
  else
    let d := if ch.probe = 0 then d else d.advance8To (ch.probeAt + 125)
    (d.sendCtl n 5 ch.probe).modCh n fun c => { c with probe := c.probe + 1, probeAt := d.sys.now8 }

/-! ### CHECK (R238) -/

/-- Units of the largest slot: SCAN_HEAD, SEGMENTS frames, one MARK, one PERMIT unit. -/
def Dev.slotUnits (d : Dev) (n : Nat) : Nat :=
  let segs := d.segments n
  let rem := segs % 64
  let per := segs / 64 * 139 + (if rem = 0 then 0 else 3 + (17 * rem + 7) / 8)
  4 + d.beamsOf n * per + 2

/-- The check passes (R238); with P16 = 0 no slot fits. -/
def Dev.capacityOk (d : Dev) (n : Nat) : Bool :=
  let p := d.gridP n
  let u := d.slotUnits n
  let w := d.blLanes n
  let room : Int := (8 * p : Nat) - 8000 * 65536
  if d.blMode n = 1 then
    (u * 66 * 4096 * 65536 : Nat) ≤ room * (w * 4 * d.get (F.CHn_BLP_STATUS.rate n) * 4095 : Nat)
  else
    let ms := (List.range (d.facetsOf n)).map (d.mNom n)
    let lo := ms.foldl min (ms.headD 0)
    (u * 80 * 4096 * 65536 * 2 ^ 28 : Nat) ≤ room * (w * 4 * lo * 4095 : Nat)

/-- Entry into CHECK: ACTIVE is sent where the check passes. -/
def Dev.blpCheck (d : Dev) (n : Nat) : Dev :=
  let d := d.blpEnter n 4
  if d.capacityOk n then (d.sendCtl n 6 0).modCh n fun c => { c with probeAt := d.sys.now8 } else d.blpFail n 0x0A

/-! ### The back channel (R236, R239) -/

/-- The unit of a row arrives: its CRC is checked, and its code is the row's. A unit with a bad CRC or an unknown code counts
(R236). -/
def Dev.backUnit (d : Dev) (n code : Nat) (u : List Nat) (f : Dev → Dev) : Dev :=
  if !d.hasPort n || !d.domOn (4 + n) || d.port n = 0 then d
  else if u.length ≠ 8 || u.getD 0 0 ≠ 0x5C || crc8 (u.take 7) ≠ u.getD 7 0 then d.count (F.CHn_BLP_COUNTS.bc_crc n)
  else if u.getD 1 0 ≠ code then d.when (u.getD 1 0 = 0 || 6 < u.getD 1 0) (·.count (F.CHn_BLP_COUNTS.bc_crc n))
  else f (d.modCh n fun c => { c with bcAt := d.sys.now8 })

/-- The head's HELLO suits the channel: the detail code, or none. -/
def Dev.helloBad (d : Dev) (n : Nat) (u : List Nat) : Option Nat :=
  let modes := u.getD 2 0
  if !bit modes (d.blMode n) then some 0x02
  else if u.getD 4 0 < d.beamsOf n then some 0x03
  else if d.twin && !bit modes 2 then some 0x04
  else none

/-- HELLO (R239): an incompatible one fails the port; 8 identical compatible ones in a row train it. -/
def Dev.hello (d : Dev) (n : Nat) (u : List Nat) : Dev :=
  if d.port n ≠ 1 || (d.chS n).lostLoop || d.on (F.CHn_FGT_STATUS.disabled n) then d
  else
    let d := (d.put (F.CHn_BLP_HEAD.tau n) (leVal ((u.drop 5).take 2))).put (F.CHn_BLP_HEAD.max_beams n) (u.getD 4 0)
    let d := (d.put (F.CHn_BLP_HEAD.max_rate n) (u.getD 3 0)).put (F.CHn_BLP_HEAD.modes n) (u.getD 2 0)
    let ch := d.chS n
    let k := if ch.hello = u then ch.helloN + 1 else 1
    let d := d.modCh n fun c => { c with hello := u, helloN := k }
    match d.helloBad n u with
    | some det => d.blpFail n det
    | none =>
      if k < 8 then d
      else
      let rate := if d.blMode n = 1 then max 1 (min 2 (min (u.getD 3 0 % 16) (d.get (F.CHn_BLP_CTRL.max_rate n)))) else 0
      let d := (d.put (F.CHn_BLP_STATUS.rate n) rate).put (F.CHn_BLP_STATUS.lanes n) (d.blLanes n)
      ((d.blpEnter n 2).modCh n fun c => { c with hello := [], helloN := 0, locked := 0 }).sendBts n

/-- TS_ACK. -/
def Dev.tsAck (d : Dev) (n : Nat) (u : List Nat) : Dev :=
  if d.port n ≠ 2 then d
  else
    let w := 2 ^ d.blLanes n
    let lanes := u.getD 2 0 % w = w - 1
    let desk := bit (u.getD 3 0) 0
    let k := if lanes && desk then (d.chS n).helloN + 1 else 0
    let d := d.modCh n fun c => { c with helloN := k, locked := if !lanes then 0 else if desk then 2 else 1 }
    if k < 8 then d
    else if d.blMode n = 1 then (d.blpEnter n 3).modCh n fun c => { c with rtt := [], probe := 0, probeAt := d.sys.now8 }
    else d.blpCheck n

/-- ECHO with its measured round trip in 125 ps. -/
def Dev.echo (d : Dev) (n : Nat) (u : List Nat) (rtt : Nat) : Dev :=
  let ch := d.chS n
  if d.port n ≠ 3 || ch.probe ≤ ch.rtt.length || u.getD 2 0 ≠ ch.rtt.length then d
  else
    let rs := ch.rtt ++ [rtt]
    let d := d.modCh n fun c => { c with rtt := rs }
    if rs.length < 16 then d
    else
      let spread := rs.foldl max 0 - rs.foldl min rtt
      let sum : Nat := rs.foldl (· + ·) 0
      let l : Int := ((sum : Int) - 16 * (d.get (F.CHn_BLP_HEAD.tau n) : Nat) + 16 * sext 16 (d.get (F.CHn_BLP_CTRL.flight_adj n)) + 16) / 32
      if 4 < spread then d.blpFail n 0x08
      else if 800 < l then d.blpFail n 0x09
      else
        ((d.put (F.CHn_BLP_LATENCY.spread n) spread).put (F.CHn_BLP_LATENCY.l n) (enc 16 l)).blpCheck n

/-- ECHO_TIMEOUT: 10 µs after the oldest PROBE without its ECHO. -/
def Dev.echoTimeout (d : Dev) (n : Nat) : Dev :=
  let ch := d.chS n
  if d.port n ≠ 3 || ch.probe ≤ ch.rtt.length then d
  else (d.advance8To (ch.probeAt + 1250 - 125 * (ch.probe - 1 - ch.rtt.length))).blpFailOrDetect n 0x07

/-- READY. -/
def Dev.ready_ (d : Dev) (n : Nat) : Dev :=
  if d.port n ≠ 4 then d
  else
    let d := d.modCh n fun c =>
      { c with bcAt := d.sys.now8, permAt := d.sys.now8, sent := max c.sent c.slot, marked := max c.marked c.slot }
    (((d.blpDetail n 0).blpEnter n 5).blpFlag n 0).twnPorts

/-- READY_TIMEOUT. -/
def Dev.readyTimeout (d : Dev) (n : Nat) : Dev :=
  if d.port n ≠ 4 then d else (d.advance8To ((d.chS n).probeAt + 125000)).blpFailOrDetect n 0x0B

/-- A watchdog trip (R254): kind 1 unscanned, 2 stuck; `latch` is the kind of the drop (R255). -/
def Dev.trip (d : Dev) (n kind latch : Nat) : Dev :=
  let d := d.report 37 (kind <<< 24 + n) (d.get (F.CHn_SCT_SLOT.k n) % 2 ^ 32)
  let d := (d.fgtFlag n 1).lgStation n 2
  if d.armed 37 0 then d.latchDrop n latch 37 0 else d

/-- The watchdog of a channel runs. -/
def Dev.wdRuns (d : Dev) (n : Nat) : Bool :=
  (match d.chan n with | some c => bit c.gateFlags 2 | none => false) && d.on (F.CHn_FGT_STATUS.permit n)

/-- The head's interlock flag (R253): FGT_STATUS shows it, and it is an interlock of the channel where gate_flags bit 1 is set. -/
def Dev.headIlk (d : Dev) (n : Nat) (opened : Bool) : Dev :=
  let was := d.on (F.CHn_FGT_STATUS.ilk_head n)
  let d := d.putB (F.CHn_FGT_STATUS.ilk_head n) opened
  if !d.headNamed n then d
  else
    if opened && !was then d.ilkOpened 2 0 [n]
    else if was && !opened then (d.releaseLatches n).ilkActive
    else d

/-- STATUS or ALERT (R236, R246, R257). -/
def Dev.headStatus (d : Dev) (n : Nat) (u : List Nat) : Dev :=
  let old := d.get (F.CHn_BLP_HEAD_STATUS.flags n)
  let flags := u.getD 2 0 % 64
  let seq := leVal ((u.drop 3).take 2)
  let gaps := leVal ((u.drop 5).take 2)
  let d := (d.put (F.CHn_BLP_HEAD_STATUS.flags n) flags).put (F.CHn_BLP_HEAD_STATUS.last_seq n) seq
  let inc := (gaps + 65536 - d.get (F.CHn_BLP_COUNTS.gaps n)) % 65536
  let d := d.put (F.CHn_BLP_COUNTS.gaps n) gaps
  let d := if inc ≠ 0 && inc < 0x8000 then (d.blpFlag n 4).report (8 + n) (0x22 <<< 24 + inc) seq else d
  let d := if bit flags 2 && !bit old 2 then (d.blpFlag n 5).report (8 + n) (0x23 <<< 24) (leVal ((u.drop 2).take 4)) else d
  let d := d.headIlk n (bit flags 0)
  let d := if bit flags 1 then
      if d.wdRuns n && !(d.chS n).tripSt then (d.modCh n fun c => { c with tripSt := true }).trip n 2 3 else d
    else (d.modCh n fun c => { c with tripSt := false }).releaseLatches n
  if bit flags 5 && (d.port n = 5 || d.port n = 6) then d.blpLost n 0x0D else d

/-- BACK_CHANNEL_TIMEOUT. -/
def Dev.backTimeout (d : Dev) (n : Nat) : Dev :=
  if d.port n = 5 || d.port n = 6 then (d.advance8To ((d.chS n).bcAt + 2500)).blpLost n 0x0C else d

/-! ### Commands of the host (R252, R256, R259) -/

/-- BLK_CMD.retrain. -/
def Dev.retrain (d : Dev) (v : Nat) : Dev :=
  d.each ((List.range 8).filter fun n => bit v n) fun d n =>
    if d.phase8 || (d.chanBusy n && !bit v 15) then d.count F.BLK_REJECT.count
    else match d.port n with
    | 0 => d
    | 6 => d
    | 7 => (d.blpDetail n 0).blpDetect n
    | _ => d.blpDetect n

/-- CHn_FGT_CMD.disable. -/
def Dev.chanDisable (d : Dev) (n : Nat) (force : Bool) : Dev :=
  if (d.chan n).isNone || !d.domOn (4 + n) then d
  else if d.chanBusy n && !force then d.count (F.CHn_FGT_REJECT.count n)
  else
    let d := d.put (F.CHn_FGT_STATUS.disabled n) 1
    let d := if d.twin && force && d.port n = 5 then d.withdraw_ n 4
      else if d.port n ≠ 0 && d.port n ≠ 7 then d.blpDetect n else d
    (d.gate n).dropFromSheets n 0x49 0

/-- CHn_FGT_CMD.enable. -/
def Dev.chanEnable (d : Dev) (n : Nat) : Dev :=
  if !d.on (F.CHn_FGT_STATUS.disabled n) then d
  else
    let d := d.put (F.CHn_FGT_STATUS.disabled n) 0
    if d.port n = 0 || d.port n = 7 then d.gate n else d.blpDetect n

/-- A write of CHn_FGT_CTRL.permit_req. -/
def Dev.permitReq (d : Dev) (n : Nat) (v : Bool) : Dev :=
  let images := match (d.chS n).desc with | some k => d.shtState k = 3 && !(d.chS n).dropped | none => false
  if !v && images then d.modCh n fun c => { c with reqEnd := true }
  else ((d.modCh n fun c => { c with reqEnd := false }).putB (F.CHn_FGT_CTRL.permit_req n) v).gate n

/-- ESTOP_n goes low, for the interlocks it makes. -/
def Dev.estopIlk (d : Dev) : Dev :=
  if !d.host.estop then d
  else
    let d := { d with host := { d.host with estop := false } }
    d.ilkOpened 1 0 (d.chansInUse.filter fun n => match d.chan n with | some c => bit c.gateFlags 0 | none => false)

/-- STROBE_WATCHDOG_TRIP: no edge for timeout_us. -/
def Dev.wdTrip (d : Dev) (n : Nat) : Dev :=
  if !d.wdRuns n || (d.chS n).tripUn then d
  else
    let d := d.advanceTo ((d.chS n).wdFrom + max 10 (d.get (F.CHn_FGT_WDOG.timeout_us n)) * 125)
    (d.modCh n fun c => { c with tripUn := true }).trip n 1 1

/-- DMO_STUCK (R254): DMOn reads back high outside the reference window for more than stuck_ticks, which trips once per excursion;
or it reads back low, which ends the excursion. -/
def Dev.dmoStuck (d : Dev) (n : Nat) (high : Bool) : Dev :=
  if d.blMode n ≠ 2 then d
  else if !high then d.modCh n fun c => { c with tripSt := false }
  else if !d.wdRuns n || (d.chS n).tripSt then d
  else
    ((d.advance (max 1 (d.get (F.CHn_FGT_WDOG.stuck_ticks n)) + 1)).modCh n fun c => { c with tripSt := true }).trip n 2 2

/-! ### The commands -/

/-- The bytes of a unit. -/
def unitBytes (u : List Byte) : List Nat := u.map BitVec.toNat

/-- SLOT_FRAMES_SEND (R233). -/
def execSlotFramesSend (n : Fin 8) (s : State) : Host.Outcome State Fault Refusal := s.onDev (·.slotFrames n)
/-- MARK_SEND (R234). -/
def execMarkSend (n : Fin 8) (s : State) : Host.Outcome State Fault Refusal := s.onDev (·.markSend n)
/-- PERMIT_UNIT_PERIODIC (R235). -/
def execPermitUnitPeriodic (n : Fin 8) (s : State) : Host.Outcome State Fault Refusal := s.onDev (·.permitUnit n)
/-- HELLO (R239). -/
def execHello (n : Fin 8) (u : List Byte) (s : State) : Host.Outcome State Fault Refusal :=
  s.onDev fun d => d.backUnit n 1 (unitBytes u) (·.hello n (unitBytes u))
/-- TS_ACK (R239). -/
def execTsAck (n : Fin 8) (u : List Byte) (s : State) : Host.Outcome State Fault Refusal :=
  s.onDev fun d => d.backUnit n 2 (unitBytes u) (·.tsAck n (unitBytes u))
/-- PROBE_SEND (R237). -/
def execProbeSend (n : Fin 8) (s : State) : Host.Outcome State Fault Refusal := s.onDev (·.probeSend n)
/-- ECHO (R237). -/
def execEcho (n : Fin 8) (u : List Byte) (rtt : Nat) (s : State) : Host.Outcome State Fault Refusal :=
  s.onDev fun d => d.backUnit n 3 (unitBytes u) (·.echo n (unitBytes u) rtt)
/-- ECHO_TIMEOUT (R239). -/
def execEchoTimeout (n : Fin 8) (s : State) : Host.Outcome State Fault Refusal := s.onDev (·.echoTimeout n)
/-- READY (R239). -/
def execReady (n : Fin 8) (s : State) : Host.Outcome State Fault Refusal := s.onDev (·.ready_ n)
/-- READY_TIMEOUT (R239). -/
def execReadyTimeout (n : Fin 8) (s : State) : Host.Outcome State Fault Refusal := s.onDev (·.readyTimeout n)
/-- STATUS (R236). -/
def execStatus (n : Fin 8) (u : List Byte) (s : State) : Host.Outcome State Fault Refusal :=
  s.onDev fun d => d.backUnit n 4 (unitBytes u) (·.headStatus n (unitBytes u))
/-- ALERT (R246). -/
def execAlert (n : Fin 8) (u : List Byte) (s : State) : Host.Outcome State Fault Refusal :=
  s.onDev fun d => d.backUnit n 5 (unitBytes u) (·.headStatus n (unitBytes u))
/-- BACK_CHANNEL_TIMEOUT (R239). -/
def execBackChannelTimeout (n : Fin 8) (s : State) : Host.Outcome State Fault Refusal := s.onDev (·.backTimeout n)
/-- RETRAIN (R259). -/
def execRetrain (v : Word32) (s : State) : Host.Outcome State Fault Refusal :=
  s.onDev fun d => d.agree R.BLK_CMD v.toNat (·.retrain v.toNat)
/-- CHANNEL_ENABLE (R256). -/
def execChannelEnable (n : Fin 8) (s : State) : Host.Outcome State Fault Refusal :=
  s.onDev fun d => d.agree (R.CHn_FGT_CMD n) 2 (·.chanEnable n)
/-- PERMIT_REQ_WRITE (R252). -/
def execPermitReqWrite (n : Fin 8) (v : Bool) (s : State) : Host.Outcome State Fault Refusal :=
  s.onDev fun d => d.agree (R.CHn_FGT_CTRL n) (b2n v) (·.permitReq n v)
/-- STROBE_WATCHDOG_TRIP (R254). -/
def execStrobeWatchdogTrip (n : Fin 8) (s : State) : Host.Outcome State Fault Refusal := s.onDev (·.wdTrip n)
/-- DMO_STUCK (R254). -/
def execDmoStuck (n : Fin 8) (high : Bool) (s : State) : Host.Outcome State Fault Refusal := s.onDev (·.dmoStuck n high)

end Sys2Proof.Machine
end

