-- ==== Sys2Proof/Machine/Operands.lean ====
section
/-! DEFINITION. The operand forms of a host access: which register an offset names (R17, R18), what a write of a register stores
field by field, what a read of it shows (R8, R9). -/

namespace Sys2Proof.Machine

/-- A remainder is reached by the strides and counts of a register class. -/
def inDims : List (Nat × Nat) → Nat → Bool
  | [], r => r = 0
  | (s, c) :: ds, r => decide (r / s < c) && inDims ds (r % s)

/-- The register of a class at an offset. -/
def RegClass.at_ (c : RegClass) (off : Nat) : Option (Reg × List FSpec) :=
  if c.base ≤ off && inDims c.dims (off - c.base) then some (⟨off, c.w, c.rst⟩, c.flds) else none

/-- The first class of a table that holds the offset. -/
def findIn (off : Nat) : List RegClass → Option (Reg × List FSpec)
  | [] => none
  | c :: cs => match c.at_ off with | some r => some r | none => findIn off cs

/-- The register classes of the block that holds an offset (R17, R18). -/
def tableOf (off : Nat) : List RegClass :=
  if off < 0x200000 then
    match off / 0x10000 with
    | 0 => if off < 0x8000 then regTableSYS else regTableMSIX
    | 1 => regTableFRD | 2 => regTableEVT | 3 => regTableSHT | 4 => regTableDMA | 5 => regTableMEM | 6 => regTableRNG
    | 7 => regTableBLK | 8 => regTableBLD | 9 => regTableSTP | 10 => regTableLOOP | 11 => regTableTMP | 12 => regTablePWR
    | 13 => regTableCLK | 14 => regTableFLT | 15 => regTableTWN | 16 => regTableCAL | 17 => regTableURG | _ => []
  else if off < 0x300000 then
    let u := off % 0x20000
    if u < 0x4000 then regTableSCR else if u < 0x8000 then regTablePLC else if u < 0xA000 then regTablePXS
    else if u < 0xC000 then regTableSCT else if u < 0x10000 then regTableFGT else regTableBLP
  else if 0x1000000 ≤ off && off < 0x1001000 then regTableLG
  else []

/-- The register at an offset, with its fields; `none` where no register stands (R9). -/
def findReg (off : Nat) : Option (Reg × List FSpec) := findIn off (tableOf off)

/-- What a write stores in one field: plain fields take the data, W1C bits clear and W1S bits set where the data has 1; the
rest keep their value (R8). -/
def putField (old v : Nat) (f : FSpec) : Nat :=
  let o := bits old f.hi f.lo
  let x := bits v f.hi f.lo
  match f.acc with
  | .rw | .rwg => putBits old f.hi f.lo x
  | .w1c => putBits old f.hi f.lo (o - (o &&& x))
  | .w1s => putBits old f.hi f.lo (o ||| x)
  | .ro | .wo | .rc => old

/-- The value a register holds after a host write. -/
def putFields (flds : List FSpec) (old v : Nat) : Nat := flds.foldl (fun o f => putField o v f) old

/-- What a read of a register shows: its fields but for write-only ones; reserved bits read zero (R8, R9). -/
def shownBits (flds : List FSpec) (v : Nat) : Nat :=
  flds.foldl (fun r f => match f.acc with | .wo => r | _ => putBits r f.hi f.lo (bits v f.hi f.lo)) 0

/-- A write of a register, field by field, with nothing else to it. -/
def Dev.hostPut (d : Dev) (r : Reg) (v : Nat) : Dev :=
  match findReg r.off with
  | some (_, flds) => d.wr r (putFields flds (d.rd r) v)
  | none => d

end Sys2Proof.Machine
end

