-- ==== Sys2Proof/Machine/Tmp.lean ====
section
/-! DEFINITION. Temperatures (R320-R332): conversions, levels, sensor faults, neighbour checks, the fuser cut latch. -/

namespace Sys2Proof.Machine

/-- Set bit k of TMP_IRQ_STATUS (R332, vector 16). -/
def Dev.tmpFlag (d : Dev) (k : Nat) : Dev := d.flag R.TMP_IRQ_STATUS R.TMP_IRQ_EN k 16
/-- Sensor index of a LOOPT or SENS code (R320). -/
def sensorOf (code : Nat) : Nat := if code < 0x50 then code - 0x40 else code - 0x50 + 8
def Dev.sensorOn (d : Dev) (s : Nat) : Bool := d.on (F.TMP_Ss_CFG.enable s)
def Dev.faulted (d : Dev) (s : Nat) : Bool := bit (d.get F.TMP_FAULTED.sensors) s
def Dev.modTmp (d : Dev) (f : TmpSt → TmpSt) : Dev := { d with tmp := f d.tmp }
/-- SENS entries with their numbers. -/
def Dev.pairs (d : Dev) : List (Sens × Nat) := d.cfg.sens.zipIdx

/-- The sensor samples fast for a reason of its own (R327). -/
def Dev.ownFast (d : Dev) (s : Nat) : Bool := d.sensorOn s && (bit d.tmp.near s || d.faulted s)
/-- The sensor samples fast (R327). -/
def Dev.fastNow (d : Dev) (s : Nat) : Bool :=
  d.ownFast s || d.cfg.sens.any fun p =>
    (sensorOf p.a = s && d.ownFast (sensorOf p.b)) || (sensorOf p.b = s && d.ownFast (sensorOf p.a))
/-- Show which sensors sample fast. -/
def Dev.showFast (d : Dev) : Dev := d.each (List.range 24) fun d s => d.putB (F.TMP_Ss_STATE.fast s) (d.sensorOn s && d.fastNow s)

/-- The highest level at which the sensor stands (R324, R325). -/
def Dev.sensorState (d : Dev) (s : Nat) : Nat :=
  if !d.sensorOn s then 0
  else if d.faulted s then 5
  else if bit (d.get F.TMP_SHUTDOWN.sensors) s then 4
  else if bit (d.get F.TMP_THROTTLE.sensors) s then 3
  else if bit (d.get F.TMP_WARN.sensors) s then 2
  else 1

/-- The effects of the throttle level (R326). -/
def Dev.tmpEffects (d : Dev) : Dev :=
  let d := d.putB F.TMP_STATUS.throttled (d.get F.TMP_THROTTLE.sensors ≠ 0 || d.get F.TMP_FAULTED.sensors ≠ 0)
  d.each (List.range 8) Dev.darken

/-- The active level of source 30 (R364): a sensor at shut-down or FAULTED, or a pair beyond max_diff. -/
def Dev.tmpActive (d : Dev) : Dev :=
  d.setActive 30 (d.get F.TMP_SHUTDOWN.sensors ≠ 0 || d.get F.TMP_FAULTED.sensors ≠ 0 || d.get F.TMP_PAIR_BAD.pairs ≠ 0)

/-- Enable or disable a sensor (R323). Its state stays OFF until its next conversion, which is the first it has a part in. -/
def Dev.sensorEnable (d : Dev) (s : Nat) (on : Bool) : Dev :=
  let d := d.putB (F.TMP_Ss_CFG.enable s) on
  if on then d
  else
    let ps := (d.pairs.filter fun p => sensorOf p.1.a = s || sensorOf p.1.b = s).map (·.2)
    let d := [F.TMP_WARN.sensors, F.TMP_THROTTLE.sensors, F.TMP_SHUTDOWN.sensors, F.TMP_FAULTED.sensors].foldl
      (fun d f => d.putBit f s false) d
    let d := d.modTmp fun t =>
      { t with
        near := putBits t.near s s 0, pub := putBits t.pub s s 0, skip := putBits t.skip s s 1
        badN := Store.set 0 t.badN s 0, goodN := Store.set 0 t.goodN s 0, dueMs := Store.set 0 t.dueMs s 0
        since := ps.foldl (fun m i => Store.set 0 m i 0) t.since }
    ((d.put (F.TMP_Ss_STATE.state s) 0).showFast).tmpEffects.tmpActive

/-- Every on-die sensor is enabled from full reset (R323). -/
def Dev.tmpInit (d : Dev) : Dev := d.each (List.range 8) fun d s => d.sensorEnable s true

/-- The sensors that LOOPT and SENS name are enabled with the image (R323). -/
def Dev.tmpNamed (d : Dev) : Dev :=
  let named := (d.cfg.loops.filterMap fun l => if 0x40 ≤ l.feedback then some (sensorOf l.feedback) else none)
    ++ d.cfg.sens.flatMap fun p => [sensorOf p.a, sensorOf p.b]
  d.each (List.range 24) fun d s => if named.contains s then d.sensorEnable s true else d

/-- The settings that a conversion which starts now uses (R323). -/
def Dev.tmpSnap (d : Dev) (s : Nat) : List Nat :=
  [d.rd (R.TMP_Ss_CFG s), d.rd (R.TMP_Ss_LEVELS s), d.rd (R.TMP_Ss_LIMIT s)] ++
    (if s < 8 then [] else (List.range 17).map fun i => d.get (F.TMP_TINj_LUTi.knot (s - 8) i))

/-- The next conversion of the boundary starts at engine time t. -/
def Dev.convStart (d : Dev) (t : Nat) : Dev :=
  match d.tmp.conv with
  | [] => d
  | s :: _ => d.modTmp fun x => { x with start := t, snap := d.tmpSnap s, skip := putBits x.skip s s 0 }

/-- A sensor is due at boundary ms (R321, R327). -/
def Dev.sensorDue (d : Dev) (s ms : Nat) : Bool := d.sensorOn s && (d.fastNow s || Store.get 0 d.tmp.dueMs s ≤ ms)

/-- CONVERSION_BOUNDARY: the next multiple of 1 ms. -/
def Dev.convBoundary (d : Dev) : Dev :=
  if !d.evt.running || !d.domOn 0 || d.tmp.conv ≠ [] then d
  else
    let ms := max (d.multiple 125000 0) d.tmp.bound
    let d := d.advanceTo (ms * 125000)
    (d.modTmp fun t => { t with bound := ms + 1, conv := (List.range 24).filter fun s => d.sensorDue s ms }).convStart (ms * 125000)

/-- The temperature of code c in a table (R322). -/
def lutTemp (knots : List Nat) (c : Nat) : Int :=
  let i := min (c / 1024) 15
  let k0 := sext 16 (knots.getD i 0); let k1 := sext 16 (knots.getD (i + 1) 0)
  clampI (-32767) 32767 (k0 + ((k1 - k0) * ((c : Int) - 1024 * (i : Nat)) + 512) / 1024)

/-- A sensor's crossing of one level (R324): the device and whether it reached the level now. -/
def Dev.crossLevel (d : Dev) (s : Nat) (f : Fld) (t level : Int) (hyst : Nat) : Dev × Bool :=
  if bit (d.get f) s then (if t < level - (hyst : Nat) then (d.putBit f s false, false) else (d, false))
  else if level ≤ t then (d.putBit f s true, true) else (d, false)

/-- A record of source 30 (R329): those of one conversion keep their order and are not merged. -/
def Dev.tmpReport (d : Dev) (sub s v d1 : Nat) : Dev :=
  { d with flt := { d.flt with strobes := d.flt.strobes ++ [⟨30, sub <<< 24 + s <<< 16 + v % 65536, d1, d.now, 0⟩] } }

/-- The fuser cut (R313, R326, R330) by a condition whose record carries detail word d0. -/
def Dev.tmpCut (d : Dev) (d0 : Nat) : Dev :=
  let d := ((d.fuserCut).put F.TMP_STATUS.cut_latched 1).modTmp fun t => { t with cuts := t.cuts ++ [⟨d0, 0, false⟩] }
  d.spoilPicked 0x48 0

/-- The sensors FAULTED that count as standing at shut-down (R325). -/
def Dev.faultStood (d : Dev) : Nat :=
  (List.range 24).foldl (fun m s => if d.faulted s && d.on (F.TMP_Ss_CFG.fault_as_shutdown s) then m ||| 2 ^ s else m) 0

/-- A sensor holds the cut (R330): it has stood at shut-down since the cut and its last value does not lie below shutdown - hyst, or
it was FAULTED as shut-down and has not been in range since. -/
def Dev.holdsCut (d : Dev) (s : Nat) : Bool :=
  d.on (F.TMP_Ss_CFG.cut_en s) && ((bit d.tmp.stood s && !bit d.tmp.cool s) || bit d.tmp.stoodF s)

/-- Judge the cut latch (R330). -/
def Dev.tmpLatch (d : Dev) : Dev :=
  if !d.on F.TMP_STATUS.cut_latched then d
  else
    let d := d.modTmp fun t => { t with stood := t.stood ||| d.get F.TMP_SHUTDOWN.sensors, stoodF := t.stoodF ||| d.faultStood }
    if !(List.range 24).any d.holdsCut && d.tmp.cuts.all (·.closed) then
      ((d.put F.TMP_STATUS.cut_latched 0).modTmp fun t => { t with cuts := [], stood := 0, stoodF := 0 }).fuserRelease
    else d

/-- The collector has made the record of a cut; records of the given ESNs have closed. -/
def Dev.nameCut (d : Dev) (d0 esn : Nat) : Dev :=
  d.modTmp fun t => { t with cuts := t.cuts.map fun c => if c.d0 = d0 && c.esn = 0 then { c with esn := esn + 1 } else c }
def Dev.closeCuts (d : Dev) (esns : List Nat) : Dev :=
  (d.modTmp fun t => { t with cuts := t.cuts.map fun c => if c.esn ≠ 0 && esns.contains (c.esn - 1) then { c with closed := true } else c }).tmpLatch

/-- Publish and judge a temperature (R324, R326, R327). -/
def Dev.tmpJudge (d : Dev) (s : Nat) (t : Int) : Dev :=
  let cfg := d.tmp.snap.getD 0 0; let lev := d.tmp.snap.getD 1 0; let lim := d.tmp.snap.getD 2 0
  let hyst := bits cfg 7 0; let margin := bits cfg 15 8
  let warn := sext 16 lev; let thr := sext 16 (lev / 65536); let shut := sext 16 lim
  let d := d.put (F.TMP_Ss_VALUE.temp s) (enc 16 t)
  let d := if sext 16 (d.get (F.TMP_Ss_VALUE.max s)) < t then d.put (F.TMP_Ss_VALUE.max s) (enc 16 t) else d
  let d := d.modTmp fun x => { x with
    pub := putBits x.pub s s 1, cool := putBits x.cool s s (b2n (t < shut - (hyst : Nat))), stoodF := putBits x.stoodF s s 0 }
  let d := if warn - (margin : Nat) ≤ t then d.modTmp fun x => { x with near := putBits x.near s s 1 }
    else if t < warn - (margin : Nat) - (hyst : Nat) then d.modTmp fun x => { x with near := putBits x.near s s 0 }
    else d
  let (d, w) := d.crossLevel s F.TMP_WARN.sensors t warn hyst
  let d := if w then (d.count (F.TMP_Ss_COUNTS.warnings s)).tmpFlag 1 else d
  let (d, h) := d.crossLevel s F.TMP_THROTTLE.sensors t thr hyst
  let d := if h then (d.count (F.TMP_Ss_COUNTS.throttles s)).tmpFlag 2 else d
  let (d, x) := d.crossLevel s F.TMP_SHUTDOWN.sensors t shut hyst
  if x then
    let d := (d.count (F.TMP_Ss_COUNTS.shutdowns s)).tmpFlag 3
    let cut := d.on (F.TMP_Ss_CFG.cut_en s) && d.armed 30 5
    let d := d.tmpReport 0x60 s (enc 16 t) (enc 16 shut * 65536 + b2n cut)
    if cut then d.tmpCut (0x60 <<< 24 + s <<< 16 + enc 16 t) else d
  else d

/-- Entry into FAULTED (R325). -/
def Dev.tmpFault (d : Dev) (s code : Nat) : Dev :=
  let fas := d.on (F.TMP_Ss_CFG.fault_as_shutdown s)
  let d := ((d.putBit F.TMP_FAULTED.sensors s true).count (F.TMP_Ss_COUNTS.faults s)).tmpFlag 4
  let d := d.modTmp fun x => { x with goodN := Store.set 0 x.goodN s 0 }
  let d := d.tmpReport 0x61 s code (b2n fas)
  if fas && d.on (F.TMP_Ss_CFG.cut_en s) && d.armed 30 5 then d.tmpCut (0x61 <<< 24 + s <<< 16 + code) else d

/-- One SENS entry's comparison (R328): a sensor is OFF for it until it has published a value since it was enabled. -/
def Dev.tmpPair (d : Dev) (p : Sens) (i : Nat) : Dev :=
  let a := sensorOf p.a; let b := sensorOf p.b
  let since := Store.get 0 d.tmp.since i
  let put := fun (d : Dev) v => d.modTmp fun x => { x with since := Store.set 0 x.since i v }
  if !d.sensorOn a || !d.sensorOn b || !bit d.tmp.pub a || !bit d.tmp.pub b || d.faulted a || d.faulted b then put d 0
  else
    let ta := d.get (F.TMP_Ss_VALUE.temp a)
    let diff := (sext 16 ta - sext 16 (d.get (F.TMP_Ss_VALUE.temp b))).natAbs
    let bad := bit (d.get F.TMP_PAIR_BAD.pairs) i
    if decide (p.maxDiff < diff) = bad then put d 0
    else
      let from_ := if since = 0 then d.now + 1 else since
      if d.now < from_ - 1 + p.persistMs * 125000 then put d from_
      else
        let d := (put d 0).putBit F.TMP_PAIR_BAD.pairs i (!bad)
        if bad then d else (d.tmpFlag 5).tmpReport 0x62 a ta (b * 65536 + min diff 0xFFFF)

/-- CONVERSION_END of the next sensor: its code, and for an on-die sensor the trimmed temperature. -/
def Dev.convEnd (d : Dev) (code : Nat) (onDie : Int) : Dev :=
  match d.tmp.conv with
  | [] => d
  | s :: rest =>
    let t0 := d.tmp.start
    let d := d.advanceTo (t0 + 1250)
    let next := fun (d : Dev) => (d.modTmp fun x => { x with conv := rest }).convStart (t0 + 1250)
    if !d.sensorOn s || !bit (d.tmp.snap.getD 0 0) 31 || bit d.tmp.skip s then next d
    else
      let old := d.sensorState s
      let d := d.put (F.TMP_Ss_STATE.code s) code
      let slow := max 1 (min 1000 (d.tmp.snap.getD 2 0 / 65536 % 65536))
      let d := d.modTmp fun x => { x with dueMs := Store.set 0 x.dueMs s (x.bound - 1 + slow) }
      let temp := if s < 8 then clampI (-32767) 32767 onDie else lutTemp (d.tmp.snap.drop 3) code
      let d :=
        if code ≤ 16 || 16367 ≤ code then
          let n := Store.get 0 d.tmp.badN s + 1
          let d := d.modTmp fun x => { x with badN := Store.set 0 x.badN s n, goodN := Store.set 0 x.goodN s 0 }
          if n = 3 && !d.faulted s then d.tmpFault s code else d
        else
          let d := d.modTmp fun x => { x with badN := Store.set 0 x.badN s 0 }
          if d.faulted s then
            let n := Store.get 0 d.tmp.goodN s + 1
            let d := d.modTmp fun x => { x with goodN := Store.set 0 x.goodN s n }
            if n < 3 then d else (d.putBit F.TMP_FAULTED.sensors s false).tmpJudge s temp
          else d.tmpJudge s temp
      let d := d.each (d.pairs.filter fun p => sensorOf p.1.a = s || sensorOf p.1.b = s) fun d p => d.tmpPair p.1 p.2
      let st := d.sensorState s
      let d := d.put (F.TMP_Ss_STATE.state s) st
      let d := if st = 1 && 2 ≤ old then d.tmpFlag 0 else d
      next (d.showFast.tmpEffects.tmpActive.tmpLatch)

/-- TMP_CMD.clear_max. -/
def Dev.clearMax (d : Dev) : Dev :=
  d.each (List.range 24) fun d s => d.put (F.TMP_Ss_VALUE.max s) (d.get (F.TMP_Ss_VALUE.temp s))

/-! ### The commands -/

/-- CONVERSION_BOUNDARY (R321). -/
def execConversionBoundary (s : State) : Host.Outcome State Fault Refusal := s.onDev Dev.convBoundary
/-- CONVERSION_END (R321). -/
def execConversionEnd (code : BitVec 14) (onDie : Int) (s : State) : Host.Outcome State Fault Refusal :=
  s.onDev (·.convEnd code.toNat onDie)
/-- CLEAR_MAX (R332). -/
def execClearMax (s : State) : Host.Outcome State Fault Refusal := s.onDev fun d => d.agree R.TMP_CMD 1 Dev.clearMax

end Sys2Proof.Machine
end

