-- ==== Sys2Proof/Machine/Twl.lean ====
section
/-! DEFINITION. The twin link's lanes, the Token latch and the authority pins, membership states, the health word
(R382-R406). -/

namespace Sys2Proof.Machine

/-- Twin status bit k (R405, vector 18). -/
def Dev.twnFlag (d : Dev) (k : Nat) : Dev := d.flag R.TWN_IRQ_STATUS R.TWN_IRQ_EN k 18
def Dev.modTwn (d : Dev) (f : TwnSt → TwnSt) : Dev := { d with twn := f d.twn }
/-- Membership states (R401): 0 OFF, 1 TRAIN, 2 JOINING, 3 LOCKSTEP, 4 ALONE, 5 OUT. -/
def Dev.twnSt (d : Dev) : Nat := d.get F.TWN_STATUS.state
/-- 1 Twin A, 2 Twin B (TWSEL). -/
def Dev.member (d : Dev) : Nat := if d.on F.SYS_STRAPS.twsel then 2 else 1
def Dev.latch (d : Dev) : Bool := d.on F.TWN_TOKEN_STATE.latch
def Dev.lane (d : Dev) (l : Nat) : Bool := bit (d.get F.TWN_STATUS.lanes_up) l
def Dev.present (d : Dev) : Bool := d.on F.TWN_STATUS.partner_present
/-- A record of the twin unit (R406). -/
def Dev.twnReport (d : Dev) (src sub v d1 : Nat) : Dev := d.report src (sub <<< 24 + v % 65536) d1
/-- A Tally record of kind 0x0B (R398). -/
def Dev.tokenMark (d : Dev) (source named d1 : Nat) : Dev := d.mark 0x0B source named d1

/-! ### Health (R403) -/

/-- The health word. -/
def Dev.health (d : Dev) : Nat :=
  let lk := d.get F.CLK_STATUS.locked
  let own := if d.member = 1 then d.on F.TWN_TOKEN_STATE.auth_a else d.on F.TWN_TOKEN_STATE.auth_b
  let memReady := d.on F.MEM_STATUS.trained && d.on F.MEM_STATUS.initialised && d.on F.MEM_STATUS.scrubbed
  let bs := [d.on F.CLK_STATUS.refclk_good, bit lk 0, bit lk 1 && !d.on F.CLK_STATUS.tbase_fb,
    memReady && d.flt.opens.all (fun r => r.src ≠ 19), d.get F.TWN_STATUS.lanes_up ≠ 0, d.latch = d.twn.latchCopy,
    own = d.on F.TWN_TOKEN_STATE.drive, d.flt.refreshed ≠ 0 && d.sys.now8 ≤ d.flt.refreshed - 1 + 25000,
    d.chansInUse.all fun n => d.port n ≠ 7, d.chansInUse.all fun n => d.on (F.CHn_PXS_STATUS.locked n),
    !d.twn.selfBad, d.get F.TMP_FAULTED.sensors = 0, d.flt.opens.all fun r => !(r.src = 31 && r.d0 / 2 ^ 24 = 0x72),
    d.flt.opens.all fun r => !r.blocked, d.memx.mismatch = 0 || d.memx.mismatch - 1 + 125000000 < d.sys.now8,
    d.on F.TWN_STATUS.time_synced && d.flt.opens.all fun r => !(r.src = 32 && r.d0 / 2 ^ 24 = 0x94)]
  (bs.zipIdx.foldl (fun v p => v + b2n p.1 * 2 ^ p.2) 0)

/-- A health word is fit. -/
def Dev.fitWord (d : Dev) (h : Nat) : Bool := let m := d.get F.TWN_CFG.fit_mask; h &&& m = m
def Dev.fit (d : Dev) : Bool := d.fitWord d.health
def Dev.partnerFit (d : Dev) : Bool := d.present && d.fitWord (d.get F.TWN_PARTNER_HEALTH.health)

/-! ### The pins (R394-R396) -/

/-- What the outputs hold at this moment. -/
def Dev.outputsNow (d : Dev) : Held :=
  { cmp := (List.range 16).map fun a => (d.bldS a).cmp
    refs := (List.range 16).map fun m => let x := d.stpS m; (x.a.ref, x.a.neg, x.b.ref, x.b.neg)
    lout := (List.range 16).map fun o => d.get (F.LOOP_OUTo_VALUE.value o)
    dout := (List.range 32).foldl (fun v k => if Store.get false d.evt.dout k then v + 2 ^ k else v) 0 }

/-- Judge agreement anew: a member that stops agreeing freezes its outputs, one that agrees again is live after 0.5 µs, until
when the outputs stay held or released. -/
def Dev.twnAgree (d : Dev) : Dev :=
  let a := d.on F.TWN_TOKEN_STATE.auth_a
  let b := d.on F.TWN_TOKEN_STATE.auth_b
  let named := if b then 2 else if a then 1 else 0
  let frozen := d.twnFrozen
  let d := d.put F.TWN_TOKEN_STATE.named named
  let d := if named = 0 then d else d.modTwn fun t => { t with lastNamed := named }
  let ok := if d.latch then named = d.member else named = 3 - d.member
  let was := d.on F.TWN_TOKEN_STATE.agree
  let d := d.putB F.TWN_TOKEN_STATE.agree ok
  if ok && !was then
    (d.modTwn fun t => { t with disAt := 0, said98 := false, solo := false, liveAt := d.sys.now8 + 63 }).setActive 33 false
  else if !ok && (was || d.twn.disAt = 0) then
    let h := d.outputsNow
    d.modTwn fun t => { t with
      disAt := d.sys.now8 + 1
      held := if frozen && t.held.isSome then t.held else some h
      relOut := frozen && t.relOut }
  else d

/-- Set or clear the Token latch; the member's own pin follows it. The holder is the time reference (R386). -/
def Dev.setLatch (d : Dev) (on : Bool) : Dev :=
  let was := d.latch
  let d := d.putLatch on
  let d := if was = on then d else d.twnFlag (if on then 2 else 3)
  let d := if on then d.put F.TWN_STATUS.time_synced 1 else d
  (if on then d.modTwn fun t => { t with freshAt := d.sys.now8 } else d).twnAgree

/-- Keep a decision vector, newest first (R389). -/
def Dev.keepVector (d : Dev) (v : DecVec) : Dev :=
  d.modTwn fun t => { t with
    vecs := (t.vecs.takeWhile (fun w => v.at_ < w.at_) ++ [v] ++ t.vecs.dropWhile fun w => v.at_ < w.at_).take 600 }

/-- A member that takes the Token outside a Turn: its own vector governs from then on (R397). -/
def Dev.ownVectors (d : Dev) : Dev :=
  d.modTwn fun t => { t with vecs := (t.vecs.filter DecVec.own).map fun v => { v with held := true } }

/-- AUTH_PIN_CHANGE: both pins as read. -/
def Dev.authPins (d : Dev) (a b : Bool) : Dev :=
  ((d.putB F.TWN_TOKEN_STATE.auth_a a).putB F.TWN_TOKEN_STATE.auth_b b).twnAgree

/-! ### Membership (R401) -/

/-- Enter a state. -/
def Dev.twnEnter (d : Dev) (st : Nat) : Dev :=
  let was := d.twnSt
  let d := d.put F.TWN_STATUS.state st
  let d := if st = 2 && was ≠ 2 then d.modTwn fun t => { t with joinAt := d.sys.now8 + 1 } else d
  let d := if was < 2 && 2 ≤ st then
      let h := d.outputsNow
      d.modTwn fun t => { t with held := some h, relOut := false }
    else d
  let d := if was = 3 && st ≠ 3 then (d.pairFree.twnFlag 1).wr R.TWN_NEXT_TURN (2 ^ 64 - 1) else d
  let d := if st = 3 && was ≠ 3 then
      let t := d.role.turnIntervalS * 125000000
      ((d.twnFlag 0).modTwn fun x => { x with nextAt := d.now, said95 := false }).wr R.TWN_NEXT_TURN
        (if t = 0 then 2 ^ 64 - 1 else d.now + t)
    else if st = 4 then d.modTwn fun x => { x with said95 := false } else d
  d.twnPorts

/-- A divergence (R385, R401): 1 late message, 2 sequence gap, 3 overflow, 4 epoch check failed. -/
def Dev.diverged (d : Dev) (kind which : Nat) : Dev :=
  if d.twnSt ≠ 3 then d
  else
    let d := d.twnReport 32 0x94 kind which
    if d.latch then d else d.twnEnter 5

/-- The time offset has gone, or the time base (R386). -/
def Dev.desync (d : Dev) : Dev :=
  let d := d.put F.TWN_STATUS.time_synced 0
  if d.twnSt = 3 && !d.latch then
    (d.twnReport 32 0x93 (d.get F.TWN_TIME.offset) d.health).twnEnter 5
  else d

/-! ### Lanes (R382, R385) -/

/-- TWIN_LANE_UP. -/
def Dev.twnLaneUp (d : Dev) (l : Nat) : Dev :=
  if !d.twin || !d.domOn 2 || d.twnSt = 0 || !bit (d.get F.CLK_STATUS.locked) 3 then d
  else (d.modTwn fun t => { t with active9 := true }).putBit F.TWN_STATUS.lanes_up l true

/-- TWIN_LANE_DOWN. -/
def Dev.twnLaneDown (d : Dev) (l : Nat) : Dev :=
  if !d.lane l then d
  else
    let d := (d.putBit F.TWN_STATUS.lanes_up l false).twnReport 32 0x91 l (d.now % 2 ^ 32)
    if d.get F.TWN_STATUS.lanes_up = 0 then d.modTwn fun t => { t with mseqRx := none, iseqRx := none } else d

/-! ### The Token over time (R394, R396, R397) -/

/-- TOKEN_REFRESH: every 1 µs while CORE and LINK are on. -/
def Dev.tokenRefresh (d : Dev) : Dev :=
  if !d.twin || !d.domOn 0 || !d.domOn 2 then d
  else
    let d := d.advance8To (d.twn.freshAt + 125)
    d.modTwn fun t => { t with freshAt := d.sys.now8 }

/-- TOKEN_LATCH_TIMEOUT: 4 µs without a refresh. -/
def Dev.latchTimeout (d : Dev) : Dev :=
  if !d.latch then d else (d.advance8To (d.twn.freshAt + 500)).setLatch false

/-- HOLD_LIMIT: a freeze of hold_limit_us releases the outputs. -/
def Dev.holdLimit (d : Dev) : Dev :=
  if !d.twin || d.twnSt < 2 || d.on F.TWN_TOKEN_STATE.agree || d.twn.disAt = 0 || d.twn.relOut then d
  else
    let us := max 1 (d.get F.TWN_CFG.hold_limit_us)
    let d := d.advance8To (d.twn.disAt - 1 + us * 125)
    let ran := (d.sys.now8 - (d.twn.disAt - 1)) / 125
    ((d.modTwn fun t => { t with relOut := true }).twnFlag 8).twnReport 33 0x9A d.tokenState ran

/-- CONVERTER_SELF_TEST: the result of the on-die reference lies `off` codes from what it should be. -/
def Dev.selfTest (d : Dev) (off : Int) : Dev := if d.twin then d.modTwn fun t => { t with selfBad := decide (16 < off.natAbs) } else d

/-! ### The commands -/

/-- TWIN_LANE_UP (R382). -/
def execTwinLaneUp (lane : Fin 2) (s : State) : Host.Outcome State Fault Refusal := s.onDev (·.twnLaneUp lane)
/-- TWIN_LANE_DOWN (R385). -/
def execTwinLaneDown (lane : Fin 2) (s : State) : Host.Outcome State Fault Refusal := s.onDev (·.twnLaneDown lane)
/-- TOKEN_REFRESH (R394). -/
def execTokenRefresh (s : State) : Host.Outcome State Fault Refusal := s.onDev Dev.tokenRefresh
/-- TOKEN_LATCH_TIMEOUT (R394). -/
def execTokenLatchTimeout (s : State) : Host.Outcome State Fault Refusal := s.onDev Dev.latchTimeout
/-- AUTH_PIN_CHANGE (R396). -/
def execAuthPinChange (a b : Bool) (s : State) : Host.Outcome State Fault Refusal := s.onDev (·.authPins a b)
/-- HOLD_LIMIT (R396). -/
def execHoldLimit (s : State) : Host.Outcome State Fault Refusal := s.onDev Dev.holdLimit
/-- CONVERTER_SELF_TEST (R403). -/
def execConverterSelfTest (off : BitVec 16) (s : State) : Host.Outcome State Fault Refusal := s.onDev (·.selfTest off.toInt)

end Sys2Proof.Machine
end

