-- ==== Sys2Proof/Machine/Clk.lean ====
section
/-! DEFINITION. The reference and the phase-locked loops: lock, loss and its consequences, monitors, slow re-locks (R350-R363).
Loops: 0 core, 1 time base, 2 memory PHY, 3 ring SerDes, 4 PCIe, 8 + n pixel synthesizer n, 16 + n Beam Link SerDes n. -/

namespace Sys2Proof.Machine

/-- The domain of a loop is on. -/
def Dev.loopPowered (d : Dev) (i : Nat) : Bool :=
  if i = 2 then d.domOn 1 else if i = 3 then d.domOn 2 else if i < 5 then d.domOn 0
  else if i < 8 then false else if i < 16 then d.domOn (4 + (i - 8)) else if i < 24 then d.domOn (4 + (i - 16)) else false

/-- A loop is locked. -/
def Dev.loopLocked (d : Dev) (i : Nat) : Bool :=
  if i < 5 then bit (d.get F.CLK_STATUS.locked) i
  else if i < 8 then false
  else if i < 16 then d.on (F.CHn_PXS_STATUS.locked (i - 8))
  else bit d.clk.blLocked (i - 16)

/-- A loop's reference is there (R352). -/
def Dev.loopRef (d : Dev) (i : Nat) : Bool :=
  if i < 4 then d.on F.CLK_STATUS.refclk_good else if i = 4 then true else d.loopLocked 1

/-- Bit of CLK_MON_STATUS for a loop's monitor; loops without one: 15. -/
def monBit (i : Nat) : Nat :=
  match i with | 0 => 1 | 1 => 2 | 2 => 4 | 3 => 5 | 4 => 6 | i => if 8 ≤ i && i < 16 then 7 + (i - 8) else 15

/-- Losses of a loop so far. -/
def Dev.lossesOf (d : Dev) (i : Nat) : Nat :=
  if i < 5 then d.get (F.CLK_LOOPi_COUNTS.losses i)
  else if i < 16 then d.get (F.CHn_PXS_STATUS.relocks (i - 8))
  else Store.get 0 d.clk.blLosses (i - 16)

/-- The source of a loop's records (R358). -/
def lockSource (i : Nat) : Nat :=
  match i with | 0 => 23 | 1 => 24 | 2 => 19 | 3 => 16 | 4 => 34 | 24 => 23 | i => if i < 16 then 25 else 8 + (i - 16)

/-- The recorded loss of a loop, or at index 24 of REFCLK, stands or is over: the active level of its source follows (R358, R364). -/
def Dev.lockSaid (d : Dev) (i : Nat) (b : Bool) : Dev :=
  let d := { d with clk := { d.clk with said := putBits d.clk.said i i (b2n b) } }
  d.setActive (lockSource i) ((List.range 25).any fun j => bit d.clk.said j && lockSource j = lockSource i)

/-- What a re-lock on purpose leaves unrecorded (R351): the strobes of the loss, and their merged counts. -/
def Dev.unrecorded (d e : Dev) : Dev :=
  ({ e with flt := { e.flt with strobes := d.flt.strobes } } : Dev).each (List.range 42) fun e i =>
    e.put (F.FLT_SRCi_STATE.merged i) (d.get (F.FLT_SRCi_STATE.merged i))

/-- The link goes down (R67, R411, R428): counted, reported with the Link Status at the loss, a host reset is requested. -/
def Dev.linkDown (d : Dev) (status : Nat) : Dev :=
  if !d.host.linkUp then d
  else
    let d := { d with host := { d.host with linkUp := false } }
    let d := { d with sys := { d.sys with hostReq := if d.sys.hostReq.contains 6 then d.sys.hostReq else d.sys.hostReq ++ [6] } }
    let d := d.count F.SYS_CFG_HOST_COUNTS.link_downs
    d.hostErr 0xA5 status (d.get F.SYS_CFG_HOST_COUNTS.link_downs)

/-- The Link Status register while the link is up: its speed and width (R407). -/
def Dev.linkStatus (d : Dev) : Nat := if d.host.linkUp then d.host.speed + 16 * d.host.width else 0

/-- The loss of a pixel synthesizer (R249, R256, R356). -/
def Dev.pxsLost (d : Dev) (n cause : Nat) (said : Bool) : Dev :=
  let d := (((d.put (F.CHn_PXS_STATUS.locked n) 0).count (F.CHn_PXS_STATUS.relocks n)).lossNoted (8 + n)).clkEvent 2
  let d := if said then
      ((d.put (F.CHn_PXS_STATUS.lock_lost n) 1).report 25 (0x80 <<< 24 + (8 + n) <<< 16 + cause) (d.now % 2 ^ 32)).ownLoss n 2
    else d
  let d := d.lockSaid (8 + n) said
  (d.gate n).dropFromSheets n 0x44 0

/-- The loss of a Beam Link SerDes loop (R356). -/
def Dev.blLoopLost (d : Dev) (n : Nat) : Dev :=
  let c := { d.clk with
    blLocked := putBits d.clk.blLocked n n 0
    blLosses := Store.set 0 d.clk.blLosses n (satAdd 16 (Store.get 0 d.clk.blLosses n) 1) }
  (({ d with clk := c }.lossNoted (16 + n)).lockSaid (16 + n) true).blpLoopLost n

/-- A loop's loss of lock and what follows (R353, R356); `said` false for a requested re-lock. -/
def Dev.loopLost (d : Dev) (i cause : Nat) (said : Bool) : Dev :=
  if !d.loopLocked i then d
  else if 16 ≤ i then d.blLoopLost (i - 16)
  else if 8 ≤ i then d.pxsLost (i - 8) cause said
  else
    let d := ((d.putBit F.CLK_STATUS.locked i false).count (F.CLK_LOOPi_COUNTS.losses i)).lossNoted i
    let say := fun (d : Dev) (src : Nat) =>
      if said then (d.lockSaid i true).report src (0x80 <<< 24 + i <<< 16 + cause) (d.now % 2 ^ 32) else d
    match i with
    | 0 =>
      let d := say ((d.put F.CLK_STATUS.core_fb 1).clkEvent 2) 23
      let hurt := (List.range 32).filter fun k => d.shtState k = 3 && !((d.sheetChans k).all fun n =>
        d.on (F.CHn_PXS_STATUS.locked n) && d.get (F.SHT_Dd_FILLn.lines k n) = d.get (F.SHT_Dd_LINES.input_lines k))
      d.each hurt fun d k => d.spoil k 0x45 0xFF 0
    | 1 =>
      let d := say (((d.put F.CLK_STATUS.tbase_fb 1).put F.CLK_STATUS.motion_fb 1).clkEvent 2) 24
      let d := d.spoilPicked 0x46 0
      let d := d.each (List.range 8) fun d n =>
        let d := if d.on (F.CHn_PXS_STATUS.locked n) then d.pxsLost n 3 said else d
        if bit d.clk.blLocked n then d.blLoopLost n else d
      d.desync
    | 2 =>
      let d := { d with memx := { d.memx with lost := true } }
      let d := d.put F.MEM_STATUS.trained 0
      if said then (d.lockSaid 2 true).report 19 0 0 else d
    | 3 =>
      let d := match d.rxSt with | 4 => d.rxLockLost .signal | 2 => d.rxDetect | 3 => d.rxDetect | _ => d
      (d.twnLaneDown 0).twnLaneDown 1
    | _ => (d.lockSaid 4 true).linkDown d.linkStatus

/-- A loop loses lock: cause 1 phase error, 2 monitor, 3 reference lost; a requested re-lock is counted and not recorded (R351). -/
def Dev.loopLoss (d : Dev) (i cause : Nat) (said : Bool) : Dev :=
  let e := d.loopLost i cause said
  if said then e else d.unrecorded e

/-- The loop that LKMON shows (R359). -/
def Dev.lkmonLoop (d : Dev) : Nat :=
  let i := d.get F.CLK_LKMON_CFG.select
  if i < 5 || (8 ≤ i && i < 24) then i else 0
/-- LKMON in a reference cycle of its loop, `out`: the phase error of that cycle lies out of window (R359). -/
def Dev.lkmon (d : Dev) (out : Bool) : Bool := d.domOn 0 && !d.sys.inReset && d.on F.CLK_LKMON_CFG.enable && out

/-- LOOP_LOCK: the loop declares lock; its domains leave the safe clock (R354). The first lock of the time base starts engine
time (R76). -/
def Dev.loopLock (d : Dev) (i : Nat) : Dev :=
  if !d.loopPowered i || d.loopLocked i || !d.loopRef i then d
  else
    let us := if Store.get 0 d.clk.lostAt i = 0 then 0 else (d.sys.now8 + 1 - Store.get 0 d.clk.lostAt i) / 125
    let d := { d with clk := { d.clk with lostAt := Store.set 0 d.clk.lostAt i 0, slow := putBits d.clk.slow i i 0 } }.lockSaid i false
    let d := if monBit i < 15 then d.wr R.CLK_MON_STATUS (putBits (d.rd R.CLK_MON_STATUS) (monBit i) (monBit i) 0) else d
    if 16 ≤ i then
      let n := i - 16
      ({ d with clk := { d.clk with blLocked := putBits d.clk.blLocked n n 1 } } : Dev).blpLoopLocked n
    else if 8 ≤ i then ((d.put (F.CHn_PXS_STATUS.locked (i - 8)) 1).clkEvent 1).gate (i - 8)
    else
      let d := d.putBit F.CLK_STATUS.locked i true
      match i with
      | 0 => ((d.put F.CLK_STATUS.core_fb 0).clkEvent 1).put (F.CLK_LOOPi_COUNTS.last_fb_us 0) (min us 0xFFFF)
      | 1 =>
        let d := { d with evt := { d.evt with running := true } }
        let d := d.put F.CLK_MON_STATUS.motion 0
        (((d.put F.CLK_STATUS.tbase_fb 0).put F.CLK_STATUS.motion_fb 0).clkEvent 1).put (F.CLK_LOOPi_COUNTS.last_fb_us 1) (min us 0xFFFF)
      | _ => d

/-- LOOP_UNLOCK: the phase error stays out of window. -/
def Dev.loopUnlock (d : Dev) (i : Nat) : Dev := if d.loopPowered i then d.loopLoss i 1 true else d

/-- CLOCK_MONITOR_TRIP: a monitor whose checking clock is there makes its loop unlocked (R355). -/
def Dev.monTrip (d : Dev) (i : Nat) : Dev :=
  let checked := if i < 5 then d.on F.CLK_STATUS.refclk_good else d.loopLocked 1
  if 15 ≤ monBit i || !d.loopPowered i || !checked then d
  else
    let d := (d.wr R.CLK_MON_STATUS (putBits (d.rd R.CLK_MON_STATUS) (monBit i) (monBit i) 1)).clkEvent 4
    let d := if i = 1 then d.put F.CLK_MON_STATUS.motion 1 else d
    d.loopLoss i 2 true

/-- RELOCK_TIMEOUT: 20 ms without lock after a loss, recorded once (R358); a record under bit 34 counts with those of the host port
(R411). -/
def Dev.relockTimeout (d : Dev) (i : Nat) : Dev :=
  let from_ := Store.get 0 d.clk.lostAt i
  if !d.loopPowered i || d.loopLocked i || from_ = 0 || bit d.clk.slow i then d
  else
    let d := d.advance8To (from_ - 1 + 2500000)
    let d := { d with clk := { d.clk with slow := putBits d.clk.slow i i 1 } }
    let d := (d.clkEvent 5).when (i = 4) (·.count F.SYS_CFG_HOST_COUNTS.errors)
    (d.lockSaid i true).report (lockSource i) (0x83 <<< 24 + i <<< 16 + min (d.lossesOf i) 0xFFFF) (d.rd R.CLK_STATUS)

/-- REFCLK_GOOD: four windows within 5 % (R350). -/
def Dev.refGood (d : Dev) : Dev :=
  if d.sys.inReset || d.on F.CLK_STATUS.refclk_good then d
  else ((((d.lockSaid 24 false).put F.CLK_STATUS.refclk_good 1).put F.CLK_STATUS.on_rc 0).put F.CLK_MON_STATUS.refclk 0).clkEvent 0

/-- REFCLK_LOST: a window outside 5 % or missing edges (R350, R356). -/
def Dev.refLost (d : Dev) (missing : Bool) (cnt : Nat) : Dev :=
  if !d.on F.CLK_STATUS.refclk_good then d
  else
    let d := (((d.put F.CLK_STATUS.refclk_good 0).put F.CLK_STATUS.on_rc 1).put F.CLK_MON_STATUS.refclk 1).clkEvent 3
    let d := (d.lockSaid 24 true).report 23 (0x82 <<< 24 + (if missing then 2 else 1)) cnt
    (d.each (List.range 4) fun d i => d.loopLoss i 3 true).desync

/-- A reference-stage mode: 3 acts as 0 (R351). -/
def refMode (v i : Nat) : Nat := let m := v / 4 ^ i % 4; if m = 3 then 0 else m

/-- CLK_REF_CFG_WRITE. -/
def Dev.refCfg (d : Dev) (v : Nat) : Dev :=
  let between := Store.get 0 d.sys.ph 3 ≠ 0 && Store.get 0 d.sys.ph 9 ≠ 2 && Store.get 0 d.sys.ph 9 ≠ 4
  if d.get F.SYS_HOST_STATE.state ≠ 4 || between then d.count F.CLK_REJECT.count
  else
    let old := d.rd R.CLK_REF_CFG
    let d := d.wr R.CLK_REF_CFG (v % 256)
    d.each ((List.range 4).filter fun i => refMode old i ≠ refMode v i) fun d i => d.loopLoss i 3 false

/-! ### The commands -/

/-- REFCLK_GOOD (R350). -/
def execRefclkGood (s : State) : Host.Outcome State Fault Refusal := s.onDev Dev.refGood
/-- LOOP_LOCK (R353). -/
def execLoopLock (i : Fin 24) (s : State) : Host.Outcome State Fault Refusal := s.onDev (·.loopLock i)
/-- RELOCK_TIMEOUT (R358). -/
def execRelockTimeout (i : Fin 24) (s : State) : Host.Outcome State Fault Refusal := s.onDev (·.relockTimeout i)

end Sys2Proof.Machine
end

