-- ==== Sys2Proof/Machine/Flt.lean ====
section
/-! DEFINITION. Fault collection and reaction: records, classes, reactions, shadows, acknowledgement, recovery, ALIVE, the fault
latch (R364-R381). -/

namespace Sys2Proof.Machine

/-- REACT source code of a source index (R364): 0x80 for index 41. -/
def srcCode (i : Nat) : Nat := if i = 41 then 0x80 else i

/-- The reaction bits that are hardware cuts for a source (R45, R369): bits 4 to 6, and bit 0 for 36, 37 and ESTOP_n. -/
def cutMask (i : Nat) : Nat := 0x70 + b2n (i = 36 || i = 37 || i = 41)

/-- Sources whose records are of one member alone (R392). -/
def aloneSource (i : Nat) : Bool := !(i = 21 || i = 22 || i = 33 || 36 ≤ i)

/-- The image is loaded (R368). -/
def Dev.loaded (d : Dev) : Bool := d.get F.FRD_STATUS.state = 5

/-- The REACT entry of a source index. -/
def Dev.reactOf (d : Dev) (i : Nat) : React := d.react (srcCode i)

/-- The collector has refreshed the ALIVE generator within 200 µs. -/
def Dev.beatOk (d : Dev) : Bool := d.flt.refreshed ≠ 0 && d.sys.now8 ≤ d.flt.refreshed - 1 + 25000

/-- ALIVE toggles (R375). -/
def Dev.aliveOk (d : Dev) : Bool :=
  d.domOn 0 && d.loaded && d.beatOk && d.flt.opens.all fun r => r.conseq || r.cls < d.role.aliveClass

/-! ### What the registers show (R366, R381) -/

/-- The open records of source i. -/
def Dev.openOf (d : Dev) (i : Nat) : List FRec := d.flt.opens.filter (·.src = i)

/-- The quiet timer of source i runs (R374). -/
def Dev.quietRuns (d : Dev) (i : Nat) : Bool :=
  (d.reactOf i).quietMs ≠ 0 && !d.on (F.FLT_SRCi_STATE.active i) && (d.openOf i).any fun r => !r.conseq && !r.early

/-- Number of open records of a class that are not consequential. -/
def Dev.openClass (d : Dev) (c : Nat) : Nat := (d.flt.opens.filter fun r => !r.conseq && r.cls = c).length

/-- The state registers of one source. -/
def Dev.srcShow (d : Dev) (i : Nat) : Dev :=
  let rs := d.openOf i
  let d := d.put (F.FLT_SRCi_STATE.open i) (min rs.length 255)
  let d := d.putB (F.FLT_SRCi_STATE.quiet_running i) (d.quietRuns i)
  let d := d.put (F.FLT_SRCi_STATE.max_class i) (rs.foldl (fun m r => if r.conseq then m else max m r.cls) 0)
  if i < 41 then d.putBit F.FLT_FSW.open i (!rs.isEmpty) else d

/-- Bring every derived register up to date; ALIVE stops, or starts to be timed anew. -/
def Dev.fltShow (d : Dev) : Dev :=
  let d := d.each (List.range 42) Dev.srcShow
  let n := fun c => min 63 (d.openClass c)
  let d := d.wr R.FLT_OPEN (n 0 + n 1 * 2 ^ 6 + n 2 * 2 ^ 12 + n 3 * 2 ^ 18 + n 4 * 2 ^ 24)
  let d := d.putB F.FLT_STATUS.beat_ok d.beatOk
  let d := d.putB F.FLT_STATUS.shadow_open (!d.flt.shadows.isEmpty)
  let d := d.holdShow
  let d := d.putB F.FLT_STATUS.estop_open (!(d.openOf 41).isEmpty)
  let was := d.on F.FLT_STATUS.alive_running
  let ok := d.aliveOk
  let d := d.putB F.FLT_STATUS.alive_running ok
  if ok && !was then { d with flt := { d.flt with aliveAt := d.sys.now8 } } else d

/-! ### Closing records (R372-R374) -/

/-- The records with these ESNs are closed: latched cuts that wait for it may clear (R255, R281, R330). -/
def Dev.closedHooks (d : Dev) (esns : List Nat) : Dev := ((d.closeLatches esns).dcbClose esns).closeCuts esns

/-- Set the acknowledged flag of a record still in the history window, or its recovered flag: one or the other. -/
def Dev.markClosed (d : Dev) (ack : Bool) (r : FRec) : Dev :=
  if (d.rd R.FLT_COUNT + 2 ^ 32 - r.num) % 2 ^ 32 ≤ 32 then
    let w := R.FLT_HISTORY (4 * (r.num % 32) + 3)
    d.wr w (putBits (d.rd w) 47 46 (if ack then 2 else 1))
  else d

/-- A record is among those a choice of causes closes: chosen itself, or the consequence of a chosen cause. An acknowledgement leaves
a record made in its own clock open (R373). -/
def Dev.chosen (d : Dev) (rs : List FRec) (sel : FRec → Bool) (ack : Bool) (r : FRec) : Bool :=
  let old := fun (r : FRec) => !(ack && r.at8 = d.sys.now8 + 1)
  old r && (sel r || r.conseq && rs.any fun c => sel c && old c && !c.conseq && c.esn = r.link)

/-- The highest class of the causes among recovered records. -/
def topClass (rs : List FRec) : Nat := rs.foldl (fun m r => if r.conseq then m else max m r.cls) 0

/-- An acknowledgement in the clock of a recovery that names the same records (R374): they are acknowledged, and nothing is counted
for them. -/
def Dev.ackRecov (d : Dev) (sel : FRec → Bool) : Dev :=
  d.each (d.flt.recov.zipIdx.filter fun p => p.1.at8 = d.sys.now8 + 1) fun d p =>
    let named := p.1.recs.filter (d.chosen p.1.recs sel true)
    let left := p.1.recs.filter fun r => !named.contains r
    if named.isEmpty then d
    else
      let c := topClass left
      let d := d.each named (Dev.markClosed · true)
      let d := if p.1.inc then d.put (F.FLT_RECOVERYc.count p.1.cls) (d.get (F.FLT_RECOVERYc.count p.1.cls) - 1) else d
      let was := d.get (F.FLT_RECOVERYc.count c)
      let more := left.any fun r => !r.conseq
      let d := d.when more (·.count (F.FLT_RECOVERYc.count c))
      let esns := named.map FRec.esn
      { d with flt := { d.flt with
          recov := d.flt.recov.set p.2 ⟨p.1.at8, c, more && d.get (F.FLT_RECOVERYc.count c) ≠ was, left⟩
          shadows := d.flt.shadows.map fun x => if esns.contains x.esn then { x with closed := 1 } else x } }

/-- Close the chosen records, and with each cause its consequential records. -/
def Dev.closeRecs (d : Dev) (sel : FRec → Bool) (ack : Bool) : Dev :=
  let causes := ((d.flt.opens.filter fun r => d.chosen d.flt.opens sel ack r && !r.conseq).map FRec.esn)
  let gone := d.chosen d.flt.opens sel ack
  let closed := d.flt.opens.filter gone
  let d := d.each closed fun d r => d.markClosed ack r
  let flt := { d.flt with
    opens := d.flt.opens.filter fun r => !gone r
    shadows := d.flt.shadows.map fun x => if causes.contains x.esn then { x with closed := if ack then 1 else 2 } else x }
  (({ d with flt := flt } : Dev).closedHooks (closed.map FRec.esn)).fltShow

/-- FLT_ACK (R373). -/
def Dev.fltAck (d : Dev) (v : Nat) : Dev :=
  let all := bit v 63
  let i := bits v 37 32
  if !all && 41 < i then d.count F.FLT_LOST.rejected
  else
    let sel := fun (r : FRec) => (all || r.src = i) && (v % 2 ^ 32 + 2 ^ 32 - r.esn) % 2 ^ 32 < 2 ^ 31
    (d.ackRecov sel).closeRecs sel true

/-- QUIET_EXPIRE (R374): every open record of the source recovers. -/
def Dev.quietExpire (d : Dev) (i : Nat) : Dev :=
  if !d.quietRuns i then d
  else
    let d := d.advanceTo (Store.get 0 d.flt.quietFrom i - 1 + (d.reactOf i).quietMs * 125000)
    let sel := fun (r : FRec) => r.src = i && !r.early
    let recs := d.flt.opens.filter (d.chosen d.flt.opens sel false)
    let c := topClass (recs.filter (·.src = i))
    let e := (d.closeRecs sel false).count (F.FLT_RECOVERYc.count c)
    let x : Recov := ⟨d.sys.now8 + 1, c, e.get (F.FLT_RECOVERYc.count c) ≠ d.get (F.FLT_RECOVERYc.count c), recs⟩
    ({ e with flt := { e.flt with recov := e.flt.recov.filter (fun y => y.at8 = d.sys.now8 + 1) ++ [x] } } : Dev).fltFlag 3

/-! ### Reactions (R369, R370) -/

/-- The engine stop (R369 bits 6 and 7): axes as for MOVE_STOP, loops released, sheets per R117 and R119. -/
def Dev.engineStop (d : Dev) (code : Nat) : Dev :=
  let d := d.each (List.range 16) fun d a => if (d.axis a).isSome then (d.bldMoveStop a).1 else d
  let d := d.each (List.range 16) fun d m => if (d.stpAxis m).isSome then d.stpStop m else d
  let d := d.each (List.range 64) Dev.loopStop
  d.stopSheets 0x47 code true

/-- The channels whose permit reaction bit 0 of a source drops (R46). -/
def Dev.permitChans (d : Dev) (i : Nat) : List Nat :=
  if i < 8 then [i] else if i < 16 then [i - 8] else d.chansInUse

/-- The channels a hardware cut has dropped, from the record's detail word 0 (R253, R254, R423). -/
def Dev.cutChans (d : Dev) (i d0 : Nat) : List Nat :=
  if i = 36 then (List.range 8).filter fun n => bit d0 n
  else if i = 37 then [d0 % 8]
  else if i = 41 then d.chansInUse else []

/-- The channel and the line of a sheet whose planes hold word w of user memory (R369, bit 1 for source 19). -/
def Dev.planeHit (d : Dev) (k w : Nat) : Option (Nat × Nat) :=
  let lines := d.get (F.SHT_Dd_LINES.input_lines k)
  (d.sheetChans k).findSome? fun n => match d.chan n with
    | none => none
    | some c =>
      let hit := fun (tag : Bool) =>
        let base := d.rd (if tag then R.SHT_Dd_TAGBASEn k n else R.SHT_Dd_BASEn k n)
        let st := stride c tag
        let o := match d.regionOf base with
          | some (b, sz) => if b ≤ 8 * w && 8 * w < b + sz then (8 * w - b + sz - (base - b)) % sz else st * lines
          | none => if base ≤ 8 * w then 8 * w - base else st * lines
        if (tag && c.tagPlane = 0) || st = 0 || st * lines ≤ o then none else some (n, o / st)
      (hit false).orElse fun _ => hit true

/-- Reaction bit 1 (R369). -/
def Dev.spoilReaction (d : Dev) (i d0 d1 : Nat) : Dev :=
  if i = 19 then
    let reader := d0 / 2 ^ 28
    if reader < 1 || 4 < reader then d
    else d.each (List.range 32) fun d k =>
      if d.shtState k ≠ 3 then d
      else match d.planeHit k (d0 % 2 ^ 27) with
        | some (n, line) => d.spoil k 0x42 n line
        | none => d
  else if i = 40 then
    match d.descOf (d1 / 2 ^ 16) with
    | some k => if d.shtState k = 3 then d.spoil k 0x41 (d0 / 2 ^ 29) (d1 % 2 ^ 16) else d
    | none => d
  else d.spoilPicked 0x4D (srcCode i)

/-- Disarm every armed entry that is not gated (R370, source 22). -/
def Dev.disarmFree (d : Dev) : Dev :=
  d.each (d.armedEntries.filter fun i => !entGated (d.entHi i)) Dev.disarmEntry

/-- The source block reset (R370) of every source but 18. -/
def Dev.blockReset (d : Dev) (i d0 : Nat) : Dev :=
  if i < 8 then (d.chanDisable i true).chanEnable i
  else if i < 16 then d.retrain (2 ^ (i - 8) + 2 ^ 15)
  else match i with
  | 16 => d.rngRxReset
  | 17 => d.rngTxReset
  | 19 => d.memReset
  | 20 => d.memReset
  | 21 => (d.wr R.SHT_STATUS 0).put F.SHT_RESULT.busy 0
  | 22 => (d.put F.EVT_EDIT_RESULT.busy 0).disarmFree
  | 26 => d.each (List.range 16) fun d a => if d.bldState a = 10 then d.bldClearFault a else d
  | 27 => d.each (List.range 16) fun d m => if d.stpState m = 5 then d.stpClearFault m else d
  | 28 => d.loopCmd (d0 / 2 ^ 16 % 64) 2 0
  | 29 => d.loopCmd (d0 / 2 ^ 16 % 64) 2 0
  | 32 => d.each [0, 1] Dev.twnLaneDown
  | 34 => d.wr R.SYS_CFG_HOST_ERR 0
  | _ => d

/-- The source block reset (R370). -/
def State.blockReset (s : State) (i d0 : Nat) : State :=
  if i = 18 then s.dmaBlockReset else { s with dev := s.dev.blockReset i d0 }

/-- The units that the reactions of source i reach (R80). -/
def Dev.hitUnits (d : Dev) (i bitsApplied : Nat) : Nat :=
  let chans := if bit bitsApplied 0 then (d.permitChans i).foldl (fun m n => m ||| 2 ^ n) 0 else 0
  let stop := if bit bitsApplied 7 then 256 else 0
  let block := if !bit bitsApplied 3 then 0
    else if i < 8 then 2 ^ i else if i = 26 then 512 else if i = 27 then 1024 else if i = 28 || i = 29 then 2048
    else if i = 21 then 2 ^ 12 else if i = 22 then 2 ^ 13 else 0
  chans ||| stop ||| block

/-- Note them for the firings of this slot. -/
def Dev.noteHits (d : Dev) (i bitsApplied : Nat) : Dev :=
  let old := if d.flt.hitSlot = d.slot + 1 then d.flt.hitUnits else 0
  { d with flt := { d.flt with hitSlot := d.slot + 1, hitUnits := old ||| d.hitUnits i bitsApplied } }

/-- Reaction bits 0 and 1 (R369): the permits drop, the sheets are spoiled. -/
def Dev.reactBefore (d : Dev) (i esn bitsApplied d0 d1 : Nat) : Dev :=
  let own := d.twin && 2 ≤ d.twnSt && aloneSource i
  let d := (d.noteHits i bitsApplied).when (bit bitsApplied 0 && i ≠ 41) fun d =>
    d.each (d.permitChans i) fun d n =>
      let d := if own then d.withdraw_ n 3 else d
      (d.latchDrop n 4 i (esn + 1)).dropFromSheets n 0x43 (srcCode i)
  d.when (bit bitsApplied 1) fun d => d.spoilReaction i d0 d1

/-- Apply the reactions of a record (R369). The hardware cuts act on their own paths; a record of source 36 or 37 then drops
every channel in use besides (R46, R253). -/
def State.applyReactions (s : State) (i esn bitsApplied d0 d1 : Nat) : State :=
  let d := s.dev.reactBefore i esn bitsApplied d0 d1
  let s := { s with dev := d }
  let s := if bit bitsApplied 3 then s.blockReset i d0 else s
  { s with dev := s.dev.when (bit bitsApplied 7) (·.engineStop (srcCode i)) }

/-- An agreed input of kind 3 holds admissions (R392): by the open records it stands for, or on the partner's behalf. -/
def Dev.pairHolds (d : Dev) (i : Nat) : Dev :=
  let mine := d.flt.opens.any fun r => r.src = i && r.blocked
  let opens := d.flt.opens.map fun r => if r.src = i && r.blocked then { r with bits := r.bits ||| 4 } else r
  let hold := if mine then d.flt.pairHold else d.flt.pairHold ||| 2 ^ i
  ({ d with flt := { d.flt with opens := opens, pairHold := hold } } : Dev).holdShow

/-- The LG_FAULT bit of a record (R442). -/
def lgFaultBit (src d0 : Nat) : Nat :=
  match src with
  | 30 => 7 | 36 => 6 | 41 => 5 | 37 => 4 | 26 => 3 | 38 => 3 | 21 => 2 | 19 => 1 | 20 => 1
  | _ => if src < 4 && (d0 / 2 ^ 24 % 256 = 0x10 || d0 / 2 ^ 24 % 256 = 0x11) then 4 else 0

/-- A record shows in LG_FAULT and LG_STATUS (R440, R442). -/
def Dev.lgFault (d : Dev) (src d0 : Nat) : Dev :=
  if d.persC then (d.putBit F.LG_FAULT.faults (lgFaultBit src d0) true).lgEvent 7 else d

/-! ### Making a record (R364-R372, R377, R392) -/

/-- The strobe that takes the next ESN (R80, R329): the lowest slot, then the lowest source. -/
def Dev.nextStrobe (d : Dev) : Option Strobe :=
  (sortBy (fun a b => a.t / 8 < b.t / 8 || (a.t / 8 = b.t / 8 && a.src ≤ b.src)) d.flt.strobes).head?

/-- The shadow that covers a record: the one opened last (R371, R372). -/
def Dev.coveredBy (d : Dev) (i t : Nat) : Option Shadow :=
  if i = 41 || !d.loaded then none
  else d.flt.shadows.find? fun x => t < x.until_ && (x.src = i || bit x.deps i)

/-- The class that replaces the REACT entry's: R62, R64 and R357. -/
def givenClass (base : Nat) (x : Strobe) : Nat :=
  if x.fix ≠ 0 then x.fix - 1 else if x.src = 24 && x.d0 / 2 ^ 24 = 0x80 then max base 3 else base

/-- Write a record into the history window (R365) and, for an effective class of 2 to 4, into the fault latch (R377). -/
def Dev.writeHistory (d : Dev) (num : Nat) (ws : List Nat) (latched : Bool) : Dev :=
  let d := d.each ws.zipIdx fun d p => d.wr (R.FLT_HISTORY (4 * (num % 32) + p.2)) p.1
  if latched then
    let k := d.flt.latchK
    let d := d.each ws.zipIdx fun d p => d.wr (R.FLT_LATCH_RECj (k % 8) p.2) p.1
    ({ d with flt := { d.flt with latchK := k + 1 } } : Dev).put F.FLT_LATCH_INFO.records (min (k + 1) 8)
  else d

/-- The reaction bits that a record of source i of one member alone asks of the pair (R392). -/
def Dev.blockedBits (d : Dev) (i : Nat) : Nat :=
  if d.twin && d.twnSt = 3 && aloneSource i then (d.reactOf i).reactions &&& 0x86 else 0

/-- The reaction bits that a record applies: its hardware cuts alone where it is consequential (R369, R371, R392), and the fuser cut
only where its own condition made one, `cut` (R326). -/
def appliedBits (i reactions blocked : Nat) (cons cut : Bool) : Nat :=
  let re := if i = 30 && !cut then putBits reactions 5 5 0 else reactions
  if cons then re &&& cutMask i else (re % 512) ^^^ blocked

/-- FAULT_RECORD: the collector makes the next record and applies its reactions, once the slot of its strobe is over: every
record of that slot is then known, and the lowest source takes the lowest ESN (R80, R364). Its Tally record carries sheet_tag 0, also
where the fault concerns a sheet (R82; DESIGN CHOICE, see the log). -/
def State.faultRecord (s : State) : State :=
  match s.dev.nextStrobe with
  | none => s
  | some x =>
    let d := s.dev.advanceTo (8 * (x.t / 8 + 1))
    let d := { d with flt := { d.flt with strobes := d.flt.strobes.erase x } }
    let d := d.flushBefore (x.t / 8)
    let i := x.src
    let re := d.reactOf i
    let esn := d.rd R.EVT_ESN
    let given := if d.loaded then givenClass re.cls x else 3
    let cover := d.coveredBy i x.t
    let cons := cover.isSome
    let esc := d.loaded && !cons && given < 4 && 0 < d.openClass given
    let cls := if esc then given + 1 else given
    let blocked := d.blockedBits i
    let applied := appliedBits i re.reactions blocked cons (d.tmp.cuts.any fun c => c.d0 = x.d0 && c.esn = 0)
    let closed := match cover with | some y => y.closed | none => 0
    let num := d.rd R.FLT_COUNT
    let link := match cover with | some y => y.esn | none => 0
    let d := d.writeRec ⟨1, i, 0, 0, 6, srcCode i, 0, x.d0, x.d1, x.t⟩
    let lost := d.flt.opens.any fun r => r.num = (num + 2 ^ 32 - 32) % 2 ^ 32
    let d := if lost then (d.count F.FLT_LOST.overwritten).fltFlag 4 else d
    let w3 := srcCode i * 2 ^ 56 + cls * 2 ^ 53 + re.cls * 2 ^ 50 + b2n cons * 2 ^ 49 + b2n esc * 2 ^ 48
      + b2n (closed = 1) * 2 ^ 47 + b2n (closed = 2) * 2 ^ 46 + applied * 2 ^ 37 + esn
    let d := d.writeHistory num [link * 2 ^ 32 + esn, x.t, x.d1 % 2 ^ 32 * 2 ^ 32 + x.d0 % 2 ^ 32, w3] (!cons && 2 ≤ cls)
    let d := (d.wr R.FLT_COUNT (num + 1)).wr (R.FLT_SRCi_ESN i) esn
    let r : FRec := { src := i, esn := esn, num := num, cls := cls, base := re.cls, conseq := cons, link := link,
                      escalated := esc, bits := applied, d0 := x.d0, blocked := blocked ≠ 0, early := !d.loaded,
                      at8 := d.sys.now8 + 1 }
    let d := if closed = 0 then { d with flt := { d.flt with opens := d.flt.opens ++ [r] } } else d
    let d := if cons || !d.loaded || d.on (F.FLT_SRCi_STATE.active i) then d
      else { d with flt := { d.flt with quietFrom := Store.set 0 d.flt.quietFrom i (max (x.t + 1) (Store.get 0 d.flt.quietFrom i)) } }
    let d := (if cons then d.fltFlag 2 else d).lgFault i x.d0
    let d := d.nameLatches i esn
    let d := if i = 38 then d.dcbName (x.t / 8) esn else d
    let d := if i = 30 then d.nameCut x.d0 esn else d
    let d := if closed = 0 then d else d.closedHooks [esn]
    let d := if !cons && applied &&& 0xFF ≠ 0 then
        let us := if re.shadowUs = 0 then 50 else re.shadowUs
        { d with flt := { d.flt with shadows := ⟨i, re.dependents, esn, x.t, x.t + us * 125, 0⟩ :: d.flt.shadows } }
      else d
    let d := if blocked ≠ 0 && !cons && d.latch && !d.partnerFit then
        d.sendAgreed (x.t + d.agreeTicks - d.now) 3 (srcCode i) blocked else d
    let d := if bit applied 0 && bit (cutMask i) 0 then
        d.each (d.cutChans i x.d0) fun d n => d.dropFromSheets n 0x43 (srcCode i) else d
    let s := { s with dev := d }
    let s := if cons then s else s.applyReactions i esn applied x.d0 x.d1
    let d := s.dev
    let d := if !cons && bit applied 8 then (d.fltFlag 0).lgEvent 7 else d
    { s with dev := d.fltShow }

/-- SHADOW_END: the reaction shadow that ends first closes to new records. -/
def Dev.shadowEnd (d : Dev) : Dev :=
  match d.flt.shadows.map Shadow.until_ with
  | [] => d
  | u :: us =>
    let e := us.foldl min u
    let d := d.advanceTo e
    let ended := fun (x : Shadow) => x.until_ ≤ d.now && d.flt.strobes.all fun y => x.until_ ≤ y.t
    (({ d with flt := { d.flt with shadows := d.flt.shadows.filter fun x => !ended x } } : Dev)).fltShow

/-! ### ALIVE and the latch (R375, R377) -/

/-- ALIVE_TOGGLE: a level has been held for 500 µs within 3 %: the length is open within that. -/
def Dev.aliveToggle (d : Dev) : Dev :=
  let d := d.fltShow
  if !d.on F.FLT_STATUS.alive_running then d
  else
    let (v, d) := d.freeVal 12
    let d := (d.advance8To (d.flt.aliveAt + 60625 + v % 3751)).fltShow
    if !d.on F.FLT_STATUS.alive_running then d
    else
      let d := { d with flt := { d.flt with aliveAt := d.sys.now8 } }
      d.put F.FLT_STATUS.alive_level (1 - d.get F.FLT_STATUS.alive_level)

/-- COLLECTOR_REFRESH: every 50 µs while CORE runs. -/
def Dev.collectorRefresh (d : Dev) : Dev :=
  if !d.domOn 0 then d
  else
    let d := if d.flt.refreshed = 0 then d else d.advance8To (d.flt.refreshed - 1 + 6250)
    let d := d.fltShow
    (({ d with flt := { d.flt with refreshed := d.sys.now8 + 1 } } : Dev)).fltShow

/-- FLT_LATCH_CTRL.clear. -/
def Dev.latchClear (d : Dev) : Dev :=
  let d := d.resetRegs 0xE0400 0xE0700
  { d with flt := { d.flt with latchK := 0 } }

/-- The snapshot of the fault latch: reason 1 timed shut-down, 2 full reset, 3 hold-up trip (abandoned). -/
def Dev.latchSnap (d : Dev) (reason : Nat) (complete : Bool) : Dev :=
  let d := (d.put F.FLT_LATCH_INFO.reason reason).putB F.FLT_LATCH_INFO.complete complete
  if complete then
    ((d.wr R.FLT_LATCH_SECONDS (d.rd R.SYS_SECONDS)).wr R.FLT_LATCH_FSW (d.rd R.FLT_FSW)).wr R.FLT_LATCH_OPEN (d.rd R.FLT_OPEN)
  else d

/-- The collector makes the records of the strobes it holds, before a complete snapshot copies them (R343 steps 2 and 4). -/
def State.collectStrobes : Nat → State → State
  | 0, s => s
  | n + 1, s => State.collectStrobes n s.faultRecord

/-- A complete snapshot: the records strobed so far are collected first. -/
def State.snapshot (s : State) (reason : Nat) : State :=
  let s := State.collectStrobes s.dev.flt.strobes.length s
  { s with dev := s.dev.latchSnap reason true }

/-! ### The commands -/

/-- SHADOW_END (R371). -/
def execShadowEnd (s : State) : Host.Outcome State Fault Refusal := s.onDev Dev.shadowEnd
/-- FLT_ACK (R373). -/
def execFltAck (v : Word64) (s : State) : Host.Outcome State Fault Refusal := s.onDev (·.reach R.FLT_ACK.off (·.fltAck v.toNat))
/-- QUIET_EXPIRE (R374). -/
def execQuietExpire (i : Fin 42) (s : State) : Host.Outcome State Fault Refusal := s.onDev (·.quietExpire i)
/-- ALIVE_TOGGLE (R375). -/
def execAliveToggle (s : State) : Host.Outcome State Fault Refusal := s.onDev Dev.aliveToggle
/-- COLLECTOR_REFRESH (R375). -/
def execCollectorRefresh (s : State) : Host.Outcome State Fault Refusal := s.onDev Dev.collectorRefresh
/-- FLT_LATCH_CTRL.clear (R377). -/
def execLatchClear (s : State) : Host.Outcome State Fault Refusal := s.onDev (·.reach R.FLT_LATCH_CTRL.off Dev.latchClear)

end Sys2Proof.Machine
end

