-- ==== Sys2Proof/Machine/Pwr.lean ====
section
/-! DEFINITION. Bring-up phases as SYS_PHASE shows them (R61, R66), power domains and the sequencer, standby, channel switching,
the power-fail warning and the timed shut-down (R333-R349). -/

namespace Sys2Proof.Machine

/-! ### Phases -/

/-- State of a phase: 0 not started, 1 running, 2 done, 3 failed, 4 skipped, 5 waiting. -/
def Dev.phaseSt (d : Dev) (p : Nat) : Nat := Store.get 0 d.sys.ph p
def Dev.setPhase (d : Dev) (p st : Nat) : Dev := { d with sys := { d.sys with ph := Store.set 0 d.sys.ph p st } }

/-- Show a phase in SYS_PHASE. -/
def Dev.showPhase (d : Dev) (p st cause : Nat) : Dev :=
  ((d.put F.SYS_PHASE.phase p).put F.SYS_PHASE.state st).put F.SYS_PHASE.cause cause

/-- A phase has not ended (any more): its state, and SYS_PHASE_TIME at its reset value (R66). -/
def Dev.phaseUndo (d : Dev) (p st : Nat) : Dev := (d.setPhase p st).put (F.SYS_PHASE_TIMEk.us (p - 1)) 0xFFFFFFFF

/-- A phase runs from now, whether or not SYS_PHASE shows it. -/
def Dev.phaseRun (d : Dev) (p : Nat) : Dev :=
  let d := d.phaseUndo p 1
  { d with sys := { d.sys with phAt := Store.set 0 d.sys.phAt p (d.sys.now8 + 1) } }

/-- A phase starts. -/
def Dev.phaseBegin (d : Dev) (p : Nat) : Dev := (d.phaseRun p).showPhase p 1 0

/-- A phase ends without SYS_PHASE showing it; SYS_PHASE_TIME holds when. -/
def Dev.phaseNote (d : Dev) (p st : Nat) : Dev :=
  (d.setPhase p st).put (F.SYS_PHASE_TIMEk.us (p - 1)) ((d.sys.now8 - d.sys.porst8) / 125)

/-- A phase ends: done, failed or skipped, with its cause; SYS_PHASE_TIME holds when. -/
def Dev.phaseEnd (d : Dev) (p st cause : Nat) : Dev :=
  (d.phaseNote p st).showPhase p st cause

/-! ### Registers and records of the sequencer -/

def Dev.pwrFlag (d : Dev) (k : Nat) : Dev := d.flag R.PWR_IRQ_STATUS R.PWR_IRQ_EN k 17
def Dev.modPwr (d : Dev) (f : PwrSt → PwrSt) : Dev := { d with pwr := f d.pwr }
def Dev.pwrSt (d : Dev) : Nat := d.get F.PWR_STATE.state
/-- A request or a channel command is refused. -/
def Dev.pwrRefuse (d : Dev) : Dev := (d.count F.PWR_COUNTS.reject).pwrFlag 6
/-- Detail word 0 of R349. -/
def pwrDetail (sub entry v : Nat) : Nat := sub <<< 24 + entry <<< 16 + v
def DomEntry.code (e : DomEntry) : Nat := (if e.kind = 1 then 256 else 0) + e.index

/-- The sequence list (R333). -/
def Dev.doms (d : Dev) : List DomEntry := d.cfg.doms
/-- An entry is in the on state. -/
def Dev.entryOn (d : Dev) (e : DomEntry) : Bool :=
  if e.kind = 1 then bit (d.get F.PWR_DOMAINS.rails) e.index else d.domOn e.index

/-- An entry that may be switched on: a CHn without a CHAN entry stays off (R40). -/
def Dev.mayRise (d : Dev) (e : DomEntry) : Bool := e.kind = 1 || e.index < 4 || (d.chan (e.index - 4)).isSome
/-- The next entry at or above i that is off and may be switched on. -/
def Dev.nextOff (d : Dev) (i : Nat) : Option (Nat × DomEntry) :=
  ((d.doms.zipIdx.map fun p => (p.2, p.1)).filter fun p => i ≤ p.1 && !d.entryOn p.2 && d.mayRise p.2).head?
/-- An entry is switched on, be its step up ended or failed (R334). -/
def Dev.entryClosed (d : Dev) (e : DomEntry) : Bool := d.entryOn e || (e.kind ≠ 1 && bit d.pwr.closed e.index)
/-- The next entry below i that is switched on. -/
def Dev.nextOn (d : Dev) (i : Nat) : Option (Nat × DomEntry) :=
  ((d.doms.zipIdx.map fun p => (p.2, p.1)).filter fun p => p.1 < i && d.entryClosed p.2).getLast?

/-- The active level of source 31 (R364): a power-fail warning, a sequencer that has halted, or power good lost while ON (R336). -/
def Dev.pwrActive (d : Dev) : Dev :=
  d.setActive 31 (d.on F.PWR_STATUS.pfail_active || d.pwrSt = 5 ||
    d.pwrSt = 3 && d.doms.any fun e => e.kind = 1 && e.pgUsed && d.entryOn e && !bit (d.get F.PWR_STATUS.pg) e.index)

/-- A step failed: by its time-out or by R56. While phase 5 runs this is its failure (R62, R334). -/
def Dev.stepFailed (d : Dev) (sub i : Nat) (e : DomEntry) (d1 : Nat) : Dev :=
  let d := (d.count F.PWR_COUNTS.step_fail).pwrFlag 5
  let d0 := pwrDetail sub i e.code
  if d.phaseSt 5 = 1 && sub ≠ 0x73 then (d.reportClass 3 31 d0 d1).phaseEnd 5 3 (i + 1) else d.report 31 d0 d1

/-! ### What a domain's power does -/

/-- Registers of [lo, hi) return to reset, active copies and commits with them. -/
def Dev.dropBlock (d : Dev) (lo hi : Nat) : Dev :=
  { d with regs := d.regs.dropRange lo hi, active := d.active.dropRange lo hi, ready := d.ready.dropRange lo hi }

/-- BAR2 tables of [lo, hi) return to zero. -/
def Dev.dropTable (d : Dev) (lo hi : Nat) : Dev :=
  { d with
    tbl := d.tbl.dropRange lo hi
    tblChk := d.tblChk.dropRange lo hi
    actTbl := d.actTbl.dropRange lo hi
    tblMark := d.tblMark.filter fun o => o < lo || hi ≤ o }

/-- A loop of an unpowered domain is not locked. -/
def Dev.loopOff (d : Dev) (i : Nat) : Dev :=
  let d := (if i < 5 then d.putBit F.CLK_STATUS.locked i false else d).lockSaid i false
  let c := d.clk
  { d with clk := { c with
    lostAt := Store.set 0 c.lostAt i 0
    slow := putBits c.slow i i 0
    blLocked := if 16 ≤ i then putBits c.blLocked (i - 16) (i - 16) 0 else c.blLocked
    blLosses := if 16 ≤ i then Store.set 0 c.blLosses (i - 16) 0 else c.blLosses } }

/-- DINk of the multiplexed limit pins (R43). -/
def Dev.driveDins (d : Dev) : List Nat :=
  ((d.cfg.pins.filter fun p => p.func = 1 && (p.group = 1 || p.group = 2)).map Pin.k)

/-- own_share comes into force at a full reset (R153): it is taken as the reset begins, while LINK still holds it. -/
def Dev.takeShare (d : Dev) : Dev :=
  if d.domOn 2 then d.modRng fun r => { r with share := max 1 (d.get F.RNG_PROTO_CFG.own_share) } else d

/-- An internal domain goes off (R25, R333): 1 MEM, 2 LINK, 3 DRIVE, 4 + n CHn. -/
def State.domOff (s : State) (k : Nat) : State :=
  let d := (s.dev.modPwr fun p => { p with closed := putBits p.closed k k 0 }).putBit F.PWR_DOMAINS.domains k false
  match k with
  | 1 => { s with dev := { (d.dropBlock 0x50000 0x60000).loopOff 2 with memx := {} }, mem := {} }
  | 2 =>
    let t := R.TWN_TOKEN_STATE.off
    let d := ((((d.dropBlock 0x60000 0x70000).dropBlock 0xF0000 t).dropBlock (t + 4) 0x100000).loopOff 3)
    { s with dev := { d with rng := { share := d.rng.share }, twn := { latchCopy := d.twn.latchCopy } } }
  | 3 =>
    let d := d.each d.driveDins fun d j => (d.dinChange j false).putInp (128 + j) {}
    let d := (d.dropBlock 0x80000 0xA0000).dropTable 0x300000 0x302000
    let d := [26, 27, 38].foldl (fun d i => d.setActive i false) d
    { s with dev := { d with bld := [], stp := [], dcb := [], inp := d.inp.dropRange 64 128 } }
  | k =>
    let n := k - 4
    let d := (d.dropFromSheets n 0x49 0).calDrop n
    let d := { d with lg := { d.lg with grid := Store.set (0, 0) d.lg.grid n (0, 0) } }
    let d := d.dropBlock (0x200000 + n * 0x20000) (0x220000 + n * 0x20000)
    let d := d.dropTable (0x100000 + n * 0x2000) (0x102000 + n * 0x2000)
    let d := d.dropTable (0x200000 + n * 0x1000) (0x201000 + n * 0x1000)
    let d := d.dropTable (0x1000000 + n * 0x80000) (0x1080000 + n * 0x80000)
    let douts := (d.cfg.pins.filter fun p => p.func = 2 && p.group = 6 && p.index = n).map Pin.k
    let evt := { d.evt with
      dout := douts.foldl (fun m j => Store.set false m j false) d.evt.dout
      pulse := douts.foldl (fun m j => Store.set 0 m j 0) d.evt.pulse }
    { s with dev := (({ d with ch := Store.set {} d.ch n { dropped := d.holdsDrop n }, evt := evt } : Dev).ilkActive.loopOff (8 + n)).loopOff (16 + n) }

/-- The image's M of a channel (R214): pixel_clock_khz. -/
def pixelM (c : Chan) : Nat := mOfKhz c.clockKhz

/-- Screening of a station of Personality C as its channel powers up (R449): tile 0 is 16 x 16 with shift 0 and phase 0, every
tag uses it and tone bank 0, whose entries are 16j. -/
def Dev.lgScreen (d : Dev) (n : Nat) : Dev :=
  let d := (d.put (F.CHn_SCR_TILEk_GEOM.width_m1 n 0) 15).put (F.CHn_SCR_TILEk_GEOM.height_m1 n 0) 15
  let d := d.put (F.CHn_SCR_TILEk_GEOM.shift n 0) 0
  let d := ((d.wr (R.CHn_SCR_TILEk_PHASE n 0) 0).wr (R.CHn_SCR_CTRL n) 0).each
    [R.CHn_SCR_TILEk_GEOM n 0, R.CHn_SCR_TILEk_PHASE n 0, R.CHn_SCR_CTRL n] Dev.activate
  d.each (List.range 4) fun d t => d.each (List.range 64) fun d j =>
    d.putTw (toneAddr n 0 t (4 * j)) ((List.range 4).foldl (fun v i => v + 16 * (4 * j + i) * 65536 ^ i) 0)

/-- An internal domain comes on with its pinnae applied (R56). -/
def Dev.domUp (d : Dev) (k : Nat) : Dev :=
  let d := d.putBit F.PWR_DOMAINS.domains k true
  match k with
  | 1 => d
  | 2 => d.rngInit
  | 3 => d.each d.cfg.axes fun d c =>
      if c.axis < 16 then d.put (F.BLD_AXa_SETPOINT.speed c.axis) (16 * c.setpoint) else d
  | k =>
    let n := k - 4
    match d.chan n with
    | none => d
    | some c =>
      let d := (d.wr (R.CHn_PXS_FREQ n) (pixelM c)).activate (R.CHn_PXS_FREQ n)
      let d := if d.persC then (d.lgScreen n).lgGap n else d
      ((d.blpOn n).gate n).ilkActive

/-- The retained pinnae that a domain needs (R56): CHAN 2 for CHn, AXIS 3 for DRIVE, and for both PINMUX 4, whose entries for
their pins are applied with them. -/
def neededPinnae (k : Nat) : List Nat := if 4 ≤ k then [2, 4] else if k = 3 then [3, 4] else []

/-- A retained pinna that the domain needs is damaged. -/
def Dev.pinnaLost (d : Dev) (k : Nat) : Bool := (neededPinnae k).any fun t => d.frd.damaged.contains t

/-- CORE goes off, or the device returns to its power-on state but for the Rhizoid (R68, R377): straps, reset cause and counts,
seconds, the PWR block, the recovery counters, the fault latch, the Token register, the level of ALIVE (R31) and the own_share in
force (R153) stay. -/
def State.coreReset (s : State) : State :=
  let d := s.dev
  let keep := fun (a : Nat) => a = 4 || a = 0x24 || a = 0x28 || a = 0x48 || (0xC0000 ≤ a && a < 0xD0000) ||
    (0xE0040 ≤ a && a < 0xE0060) || (0xE0400 ≤ a && a < 0xE0700) || a = R.TWN_TOKEN_STATE.off
  { s with
    dev := ({
      regs := d.regs.filter fun p => keep p.1
      out := d.out
      free := d.free
      sys := { now8 := d.sys.now8, porst8 := d.sys.porst8, inReset := d.sys.inReset }
      rng := { share := d.rng.share }
      flt := { latchK := d.flt.latchK }
      pwr := { warnAt := d.pwr.warnAt, shutAt := d.pwr.shutAt, collapsed := d.pwr.collapsed }
      host := { estop := d.host.estop, qspiBusy := d.host.qspiBusy } } : Dev).put F.FLT_STATUS.alive_level (d.get F.FLT_STATUS.alive_level)
    mem := {} }

/-- CORE's own step down begins, the last of a power-down (R339): its switches open. SYS_PHASE and the host port go with it. -/
def State.coreOff (s : State) : State :=
  let at_ := s.dev.sys.now8
  let s := s.coreReset
  let d := ((s.dev.putBit F.PWR_DOMAINS.domains 0 false).put F.PWR_STATE.state 4).put F.PWR_STATE.entry 0x1F
  { s with dev := d.modPwr fun p => { p with stepAt := at_ } }

/-- CORE's step down runs. -/
def Dev.coreFalls (d : Dev) : Bool := d.pwrSt = 4 && d.get F.PWR_STATE.entry = 0x1F && !d.domOn 0

/-- CORE's step down ends: PARKED (R339). -/
def Dev.parked (d : Dev) : Dev :=
  let us := (d.sys.now8 + 1 - d.pwr.shutAt) / 125
  let e := (d.put F.PWR_STATE.state 0).modPwr fun p => { p with shutAt := 0, parkAt := d.sys.now8 }
  if d.pwr.shutAt = 0 then e else e.put F.PWR_LAST_SHUTDOWN.us (min us (2 ^ 32 - 1))

/-! ### Steps (R333-R337) -/

/-- The entry of a domain on the list. -/
def Dev.chanEntry (d : Dev) (n : Nat) : Option (Nat × DomEntry) :=
  ((d.doms.zipIdx.map fun p => (p.2, p.1)).find? fun p => p.2.kind = 0 && p.2.index = 4 + n)

/-- First actions of a step: SEQ_ENk moves, or the domain's switches close or open. -/
def State.stepBegin (s : State) (i : Nat) (e : DomEntry) (up : Bool) : State :=
  let d := (s.dev.put F.PWR_STATE.entry i).modPwr fun p => { p with stepAt := s.dev.sys.now8 }
  if e.kind = 1 then { s with dev := (d.putBit F.PWR_STATUS.seq_en e.index up).putBit F.PWR_DOMAINS.rails e.index up }
  else if up then { s with dev := d.modPwr fun p => { p with closed := putBits p.closed e.index e.index 1 } }
  else ({ s with dev := d } : State).domOff e.index

/-- A power-up starts: no entry has run in it (R348). -/
def Dev.stepTimes (d : Dev) : Dev := d.each (List.range 19) fun d i => d.put (F.PWR_STEP_TIMEi.us i) 0xFFFFFFFF

/-- The next step of a power-up at or above entry i, or ON (true). -/
def State.upNext (s : State) (i : Nat) : State × Bool :=
  match s.dev.nextOff i with
  | none => ({ s with dev := (s.dev.put F.PWR_STATE.state 3).pwrActive.pwrFlag 0 }, true)
  | some (j, e) => (s.stepBegin j e true, false)

/-- Go on with the power-up from entry i; true when ON is reached. -/
def State.upFrom (s : State) (i : Nat) : State × Bool := ({ s with dev := s.dev.put F.PWR_STATE.state 2 } : State).upNext i

/-- The next step of a power-down below entry i, standby (R340), or CORE's own step. -/
def State.downNext (s : State) (i : Nat) : State :=
  match s.dev.nextOn i with
  | some (j, e) => s.stepBegin j e false
  | none =>
    if s.dev.get F.PWR_STATE.purpose = 1 then
      let d := ((s.dev.put F.PWR_STATE.state 1).pwrFlag 0).phaseUndo 5 5
      { s with dev := (d.each [6, 7, 8, 9] fun d p => d.phaseUndo p 0).showPhase 5 5 0 }
    else s.coreOff

/-- Go on with the power-down below entry i. -/
def State.downFrom (s : State) (i : Nat) : State := ({ s with dev := (s.dev.put F.PWR_STATE.state 4).pwrActive } : State).downNext i

/-- Take a down request that waited, at the end of the step in progress. -/
def State.downNow (s : State) (p i : Nat) : State :=
  let d := (s.dev.put F.PWR_STATE.purpose p).put F.PWR_STATE.pending 0
  ({ s with dev := d.modPwr fun x => { x with down := 0, up := false, chanQ := [] } } : State).downFrom i

/-- Begin the channel step at the head of the queue. -/
def State.chanBegin : Nat → State → State
  | 0, s => s
  | fuel + 1, s =>
    match s.dev.pwr.chanQ with
    | [] => s
    | (n, on) :: rest =>
      let skip := { s with dev := s.dev.modPwr fun p => { p with chanQ := rest } }
      match s.dev.chanEntry n with
      | none => State.chanBegin fuel skip
      | some (i, e) =>
        if s.dev.entryOn e = on || on && !s.dev.mayRise e then State.chanBegin fuel skip
        else s.stepBegin i e on

/-- The step in progress ends; `fell` is false where a power-down has timed out and PGk has stayed high (R335). -/
def Dev.stepDone (d : Dev) (i : Nat) (e : DomEntry) (up fell : Bool) : Dev :=
  let us := (d.sys.now8 - d.pwr.stepAt) / 125
  let d := d.put F.PWR_STATE.elapsed_us (min us 0xFFFF)
  let d := if e.kind = 1 then
      if e.pgUsed && (up || fell) then d.putBit F.PWR_STATUS.pg e.index up else d
    else if up then
      let d := (d.modPwr fun p => { p with closed := putBits p.closed e.index e.index 0 }).domUp e.index
      if d.pwrSt = 3 && 4 ≤ e.index && d.on F.CAL_CTRL.auto_reapply then d.walkStart (some (e.index - 4)) else d
    else d
  if up then d.put (F.PWR_STEP_TIMEi.us i) us else d

/-- What follows the end of a step; true when a power-up has reached ON. -/
def State.stepNext (s : State) (i : Nat) : State × Bool :=
  let p := s.dev.pwr
  match s.dev.pwrSt with
  | 2 => if p.down ≠ 0 then (s.downNow p.down (i + 1), false) else s.upFrom (i + 1)
  | 4 =>
    if p.up then
      let d := (s.dev.put F.PWR_STATE.purpose 0).put F.PWR_STATE.pending 0
      ({ s with dev := d.stepTimes.modPwr fun x => { x with up := false } } : State).upFrom i
    else (s.downFrom i, false)
  | _ =>
    if p.down ≠ 0 then (s.downNow p.down s.dev.doms.length, false)
    else (({ s with dev := s.dev.modPwr fun x => { x with chanQ := x.chanQ.drop 1 } } : State).chanBegin 8, false)

/-- The step in progress: its entry and its direction. -/
def Dev.stepNow (d : Dev) : Option (Nat × DomEntry × Bool) :=
  let i := d.get F.PWR_STATE.entry
  match d.pwrSt with
  | 2 => d.doms[i]?.map fun e => (i, e, true)
  | 4 => d.doms[i]?.map fun e => (i, e, false)
  | 3 => match d.pwr.chanQ with
    | [] => none
    | (n, on) :: _ => (d.chanEntry n).map fun p => (p.1, p.2, on)
  | _ => none

/-- The shortest wait of a step before it settles (R333): a soft start of 20 µs, or the 10 µs in which PGk qualifies. -/
def stepWait (e : DomEntry) (up : Bool) : Nat :=
  if e.kind = 1 then (if e.pgUsed then 1250 else 0) else if up then 2500 else 0

/-- A step up fails: the sequencer halts, with the failing entry as its step left it (R334). -/
def State.stepHalt (s : State) (sub i : Nat) (e : DomEntry) (d1 : Nat) : State × Bool :=
  let d := s.dev.stepFailed sub i e d1
  let d := (d.put F.PWR_STATE.state 5).pwrActive.modPwr fun x => { x with chanQ := [] }
  let s := { s with dev := d }
  (if d.pwr.down ≠ 0 then s.downNow d.pwr.down s.dev.doms.length else s, false)

/-- POWER_STEP_DONE: the wait has ended and settle_us has run; a domain whose pinnae are damaged stops before it settles (R56,
R333). CORE has no settle time (R339). -/
def State.powerStepDone (s : State) : State × Bool :=
  if s.dev.coreFalls then ({ s with dev := s.dev.parked }, false)
  else match s.dev.stepNow with
  | none => (s, false)
  | some (i, e, up) =>
    let waited := s.dev.pwr.stepAt + stepWait e up
    if up && e.kind ≠ 1 && s.dev.pinnaLost e.index then
      ({ s with dev := s.dev.advance8To waited } : State).stepHalt 0x74 i e 0
    else
      let d := s.dev.advance8To (waited + e.settleUs * 125)
      ({ s with dev := d.stepDone i e up true } : State).stepNext i

/-- POWER_STEP_TIMEOUT (R334, R335). The collector falls with CORE and makes no record of CORE's own time-out of 20 ms (R339). -/
def State.powerStepTimeout (s : State) : State × Bool :=
  if s.dev.coreFalls then
    ({ s with dev := (((s.dev.advance8To (s.dev.pwr.stepAt + 2500000)).count F.PWR_COUNTS.step_fail).pwrFlag 5).parked }, false)
  else match s.dev.stepNow with
  | none => (s, false)
  | some (i, e, up) =>
    if e.kind = 1 && !e.pgUsed then (s, false)
    else
      let d := s.dev.advance8To (s.dev.pwr.stepAt + e.timeoutMs * 125000)
      if up then ({ s with dev := d } : State).stepHalt 0x70 i e (d.rd R.PWR_STATUS)
      else
        let d := d.stepFailed 0x73 i e (d.rd R.PWR_STATUS)
        ({ s with dev := d.stepDone i e false false } : State).stepNext i

/-! ### Requests (R337, R338) -/

/-- A down request waits for the step in progress; the latest one wins, but a timed shut-down is not cancelled (R337, R343). -/
def Dev.downWaits (d : Dev) (p : Nat) : Dev :=
  (d.put F.PWR_STATE.pending 1).modPwr fun x => { x with down := if x.down = 3 then 3 else p, up := false }

/-- A down request: purpose 1 standby, 2 full reset, 3 timed shut-down. -/
def State.downRequest (s : State) (p : Nat) : State :=
  let d := s.dev
  match d.pwrSt with
  | 0 => s
  | 1 => if p = 1 then { s with dev := d.pwrRefuse } else ({ s with dev := d.put F.PWR_STATE.purpose p } : State).coreOff
  | 2 => { s with dev := d.downWaits p }
  | 3 => if d.pwr.chanQ.isEmpty then s.downNow p d.doms.length else { s with dev := d.downWaits p }
  | 4 =>
    let d := (d.put F.PWR_STATE.purpose (max p (d.get F.PWR_STATE.purpose))).put F.PWR_STATE.pending 0
    { s with dev := d.modPwr fun x => { x with up := false } }
  | _ => s.downNow p d.doms.length

/-- An up request; true when ON is reached at once. -/
def State.upRequest (s : State) : State × Bool :=
  let d := s.dev
  match d.pwrSt with
  | 1 => ({ s with dev := d.stepTimes } : State).upFrom 0
  | 4 =>
    if d.get F.PWR_STATE.purpose = 1 then
      ({ s with dev := (d.put F.PWR_STATE.pending 1).modPwr fun x => { x with up := true } }, false)
    else ({ s with dev := d.pwrRefuse }, false)
  | 5 => ({ s with dev := d.pwrRefuse }, false)
  | _ => (s, false)

/-- PWR_CMD.standby is accepted (R340). -/
def Dev.standbyOk (d : Dev) : Bool := d.get F.SYS_HOST_STATE.state = 4 && (d.pwrSt = 3 || d.pwrSt = 5)

/-- PWR_CMD.standby (R340). -/
def State.standby (s : State) : State := if s.dev.standbyOk then s.downRequest 1 else { s with dev := s.dev.pwrRefuse }

/-- PWR_CMD.wake (R340): phase 5 runs again; true when ON is reached at once. In RISING and ON it is ignored (R338). -/
def State.wake (s : State) : State × Bool :=
  let st := s.dev.pwrSt
  if st = 2 || st = 3 then (s, false)
  else if (st = 1 && s.dev.phaseSt 5 = 5) || (st = 4 && s.dev.get F.PWR_STATE.purpose = 1) then
    ({ s with dev := if st = 1 then (s.dev.put F.PWR_STATE.purpose 0).phaseBegin 5 else s.dev.setPhase 5 1 } : State).upRequest
  else ({ s with dev := s.dev.pwrRefuse }, false)

/-! ### One channel (R341) -/

/-- Queue channel steps; those of a queue that runs already wait behind it. -/
def State.chanQueue (s : State) (l : List (Nat × Bool)) : State :=
  let idle := s.dev.pwr.chanQ.isEmpty
  let s := { s with dev := s.dev.modPwr fun p => { p with chanQ := p.chanQ ++ l } }
  if idle then s.chanBegin 8 else s

/-- A channel step of PWR_CHAN_CMD is refused: off of a busy channel without force; on of one that is not on the list, or not in
use (R40). -/
def Dev.chanRefused (d : Dev) (force : Bool) (p : Nat × Bool) : Bool :=
  if p.2 then (d.chanEntry p.1).isNone || (d.chan p.1).isNone else d.chanBusy p.1 && !force

/-- PWR_CHAN_CMD: the channels named in one write, in ascending n; `on` is ignored for one also named in `off` (R348). -/
def State.chanSwitch (s : State) (off on : Nat) (force : Bool) : State :=
  if s.dev.pwrSt ≠ 3 then { s with dev := s.dev.pwrRefuse }
  else
    let steps := ((List.range 8).filter fun n => bit off n || bit on n).map fun n => (n, !bit off n)
    let d := s.dev
    ({ s with dev := d.when (steps.any (d.chanRefused force)) Dev.pwrRefuse } : State).chanQueue
      (steps.filter fun p => !d.chanRefused force p)

/-- PG_LOST: a level is low for 10 µs while ON (R336). -/
def Dev.pgLost (d : Dev) (external : Bool) (k : Nat) : Dev :=
  let hit := (d.doms.zipIdx.map fun p => (p.2, p.1)).find? fun p =>
    (p.2.kind = 1) = external && p.2.index = k && (!external || p.2.pgUsed) && d.entryOn p.2
  match hit with
  | some (i, e) =>
    if d.pwrSt ≠ 3 then d
    else
      let d := d.advance 1250
      let d := if external then d.putBit F.PWR_STATUS.pg k false else d
      (d.pwrActive.pwrFlag 4).report 31 (pwrDetail 0x72 i e.code) (d.rd R.PWR_STATUS)
  | none =>
    if d.pwrSt = 3 && !external && k = 0 then
      let d := d.advance 1250
      (d.pwrFlag 4).report 31 (pwrDetail 0x72 0x1F 0) (d.rd R.PWR_STATUS)
    else d

/-! ### Power fail (R342, R343) -/

/-- Permits low and actuator outputs released to R31 (R70, R343): a DOUTk pin carries no level and no pulse any more. -/
def Dev.cutOutputs (d : Dev) : Dev :=
  let d := { d with sys := { d.sys with cut := true }, evt := { d.evt with dout := [], pulse := [], pulseEnd := [] } }
  let d := d.gateAll
  let d := d.each (List.range 16) fun d a =>
    if d.bldState a = 0 then d else ((d.bldHoldMove a).modBld a fun x => { x with startDue := none }).bldEnter a 0
  let d := d.each (List.range 16) fun d m =>
    if d.stpState m = 0 then d else (d.modStp m fun x => { x with a := {}, b := {} }).stpEnter m 0
  d.each (List.range 16) Dev.outLoad

/-- The timed shut-down starts: detail 1 holdup elapsed, 2 idle. Step 1 takes 64 ns to 2 µs, a free length: the record of step 2
stands in a slot of its own (R343, R364). -/
def State.shutdown (s : State) (why : Nat) : State :=
  let d := s.dev
  let ms := (d.sys.now8 + 1 - d.pwr.warnAt) / 125000
  let d := d.modPwr fun x => { x with shutAt := d.sys.now8 + 1 }
  let d := (((d.put F.PWR_STATUS.shutdown 1).pwrFlag 3).count F.PWR_COUNTS.shutdowns).takeShare.cutOutputs
  let (v, d) := d.freeVal 8
  let d := d.advance (8 + v % 243)
  let d := (d.stopSheets 0x4E 0 true).report 31 (pwrDetail 0x75 0x1F why) ms
  let s := ({ s with dev := d } : State).dmaDisable
  (s.snapshot 1).downRequest 3

/-- The warning stands and the shut-down has not started. -/
def Dev.warned (d : Dev) : Bool := d.on F.PWR_STATUS.pfail_active && !d.on F.PWR_STATUS.shutdown

/-- No sheet is in flight and start_on_idle is set (R343). -/
def Dev.idleStart (d : Dev) : Bool := d.warned && d.get F.SYS_HOST_STATE.in_flight = 0 && d.on F.PWR_PFAIL_CFG.start_on_idle

/-- The timed shut-down starts where the last sheet has gone (R343). -/
def State.idleCheck (s : State) : State := if s.dev.idleStart then s.shutdown 2 else s

/-- The next state of a command that may complete or cancel sheets: the timed shut-down that waits for the last one begins. -/
def State.onSheets (s : State) (f : Dev → Dev) : Host.Outcome State Fault Refusal :=
  .next ({ s with dev := f s.dev } : State).idleCheck

/-- POWER_FAIL_WARNING. -/
def State.pfail (s : State) : State :=
  let d := s.dev.put F.PWR_STATUS.pfail_pin 0
  if !d.on F.PWR_PFAIL_CFG.pfail_en || d.on F.PWR_STATUS.pfail_active || !d.domOn 0 then { s with dev := d }
  else
    let d := d.advance (max 1 (d.get F.PWR_PFAIL_CFG.pfail_qual_us) * 125)
    let d := (d.put F.PWR_STATUS.pfail_active 1).modPwr fun x => { x with warnAt := d.sys.now8 + 1 }
    let d := (d.pwrActive.flagAlways R.PWR_IRQ_STATUS 1 17).count F.PWR_COUNTS.pfail
    let d := d.report 31 (pwrDetail 0x71 0x1F 0) (d.get F.SYS_HOST_STATE.in_flight)
    ({ s with dev := d } : State).idleCheck

/-- The tick at which holdup_ms have elapsed since the warning. -/
def Dev.holdupAt (d : Dev) : Nat := d.pwr.warnAt - 1 + d.get F.PWR_PFAIL_CFG.holdup_ms * 125000

/-- HOLDUP_EXPIRE. -/
def State.holdupExpire (s : State) : State :=
  if !s.dev.warned then s
  else if s.dev.idleStart then s.shutdown 2
  else ({ s with dev := s.dev.advance8To s.dev.holdupAt } : State).shutdown 1

/-- PFAIL_CLEAR: PFAIL_n has held high for pfail_return_ms. The warning clears unless the shut-down starts first (R342, R343). -/
def State.pfailClear (s : State) : State :=
  let s := { s with dev := s.dev.put F.PWR_STATUS.pfail_pin 1 }
  let d := s.dev
  if !d.warned then s
  else
    let clear := max d.sys.now8 (d.pwr.warnAt - 1 + max 1 (d.get F.PWR_PFAIL_RETURN.pfail_return_ms) * 125000)
    if d.idleStart || d.holdupAt ≤ clear then s.holdupExpire
    else { s with dev := (((d.advance8To clear).put F.PWR_STATUS.pfail_active 0).modPwr fun x => { x with warnAt := 0 }).pwrActive.pwrFlag 2 }

/-! ### The commands -/

/-- PG_LOST (R336). -/
def execPgLost (kind : Bool) (index : Fin 16) (s : State) : Host.Outcome State Fault Refusal := s.onDev (·.pgLost kind index)
/-- PWR_CMD.standby (R340). -/
def execStandby (s : State) : Host.Outcome State Fault Refusal := .next (s.reach R.PWR_CMD.off State.standby)
/-- PWR_CHAN_CMD.off (R341). -/
def execChannelPowerOff (mask : Byte) (force : Bool) (s : State) : Host.Outcome State Fault Refusal :=
  .next (s.reach R.PWR_CHAN_CMD.off (·.chanSwitch mask.toNat 0 force)).idleCheck
/-- PWR_CHAN_CMD.on (R341). -/
def execChannelPowerOn (mask : Byte) (s : State) : Host.Outcome State Fault Refusal :=
  .next (s.reach R.PWR_CHAN_CMD.off (·.chanSwitch 0 mask.toNat false))
/-- POWER_FAIL_WARNING (R342). -/
def execPowerFailWarning (s : State) : Host.Outcome State Fault Refusal := .next s.pfail
/-- PFAIL_CLEAR (R342). -/
def execPfailClear (s : State) : Host.Outcome State Fault Refusal := .next s.pfailClear
/-- FAULT_RECORD (R365). -/
def execFaultRecord (s : State) : Host.Outcome State Fault Refusal := .next s.faultRecord.idleCheck
/-- REFCLK_LOST (R350). -/
def execRefclkLost (missing : Bool) (count : Word32) (s : State) : Host.Outcome State Fault Refusal :=
  s.onSheets (·.refLost missing count.toNat)
/-- CLK_REF_CFG_WRITE (R351). -/
def execClkRefCfgWrite (v : Word32) (s : State) : Host.Outcome State Fault Refusal := s.onSheets (·.reach R.CLK_REF_CFG.off (·.refCfg v.toNat))
/-- LOOP_UNLOCK (R356). -/
def execLoopUnlock (i : Fin 24) (s : State) : Host.Outcome State Fault Refusal := s.onSheets (·.loopUnlock i)
/-- CLOCK_MONITOR_TRIP (R355). -/
def execClockMonitorTrip (i : Fin 24) (s : State) : Host.Outcome State Fault Refusal := s.onSheets (·.monTrip i)
/-- PXS_FREQ_WRITE (R214). -/
def execPxsFreqWrite (n : Fin 8) (m : Word32) (s : State) : Host.Outcome State Fault Refusal :=
  s.onSheets fun d => d.agree (R.CHn_PXS_FREQ n) m.toNat fun d => d.rwgWrite n (R.CHn_PXS_FREQ n) m.toNat (·.freqTransfer n)
/-- CHANNEL_DISABLE (R256). -/
def execChannelDisable (n : Fin 8) (force : Bool) (s : State) : Host.Outcome State Fault Refusal :=
  s.onSheets fun d => d.agree (R.CHn_FGT_CMD n) (1 + 0x8000 * b2n force) (·.chanDisable n force)
/-- RUNOUT_EXPIRE (R115). -/
def execRunoutExpire (k : Fin 32) (s : State) : Host.Outcome State Fault Refusal := s.onSheets (·.runout k)
/-- SCAN_START (R208). -/
def execScanStart (n : Fin 8) (s : State) : Host.Outcome State Fault Refusal := s.onSheets (·.scanStart n)
/-- HOLDUP_EXPIRE (R343). -/
def execHoldupExpire (s : State) : Host.Outcome State Fault Refusal := .next s.holdupExpire

end Sys2Proof.Machine
end

