-- ==== Sys2Proof/Machine/Cal.lean ====
section
/-! DEFINITION. The calibration block: banks, the walk, the moments of application, reload (R456-R466). -/

namespace Sys2Proof.Machine

/-! ### Banks (R457, R458) -/

/-- Byte o of a bank as read; what a read does not deliver counts as erased flash. -/
def bankByte (b : List Nat) (o : Nat) : Nat := b.getD o 0xFF
/-- The n bytes of a bank from offset o. -/
def bankBytes (b : List Nat) (o n : Nat) : List Nat := (List.range n).map fun i => bankByte b (o + i)
/-- A little-endian field of a bank. -/
def bankField (b : List Nat) (o n : Nat) : Nat := leVal (bankBytes b o n)

/-- Magic, format, device_id, reserved bytes and crc32c are correct (R458). -/
def bankSound (b : List Nat) : Bool :=
  bankBytes b 0 4 = [0x43, 0x41, 0x4C, 0x50] && bankField b 4 2 = 1 && bankField b 6 2 = 0x880 && bankField b 0x16 2 = 0 &&
    (bankBytes b 0x20 28).all (· = 0) && crc32c (bankBytes b 0 0x3C ++ [0, 0, 0, 0]) = bankField b 0x3C 4

/-- The image_serial of a bank matches (R457, R464). -/
def Dev.serialOk (d : Dev) (b : List Nat) : Bool :=
  let s := bankField b 0x1C 4
  if d.persC then s = 0 else s = 0 || s = d.get F.FRD_IMAGE_SERIAL.serial

/-- Generation x comes later than y in serial order (R79). -/
def serialLater (x y : Nat) : Bool := let q := (x + 2 ^ 32 - y) % 2 ^ 32; 0 < q && q < 2 ^ 31

/-- Record a bank that fails only the image_serial check. -/
def Dev.bankJudge (d : Dev) (k : Nat) (b : List Nat) : Dev × Bool :=
  if !bankSound b then (d, false)
  else if d.serialOk b then (d, true)
  else (d.report 35 (0xB5 <<< 24 + k) (bankField b 0x1C 4), false)

/-! ### Records (R459, R460) -/

/-- The payload length of a record type; `none` for an unknown one. -/
def calLength (kind : Nat) : Option Nat :=
  match kind with
  | 1 => some 24 | 2 => some 8416 | 3 => some 2048 | 4 => some 64 | 5 => some 560 | 6 => some 256 | 7 => some 56 | 8 => some 8
  | _ => none

/-- What the record names exists: an image entry, a sensor; Personality C takes the records of R464 only. -/
def Dev.calNamed (d : Dev) (kind idx : Nat) : Bool :=
  match kind with
  | 1 | 2 => !d.persC && idx < 8 && (d.chan idx).isSome
  | 3 => !d.persC && idx < 16 && (d.chan (idx / 2)).isSome
  | 4 => idx < (if d.persC then 4 else 16) && (d.axis idx).isSome
  | 5 => !d.persC && idx < 16 && (d.axis (16 + idx)).isSome
  | 6 => idx < (if d.persC then 2 else 64) && (d.loopT idx).isSome
  | 7 => idx < 24
  | 8 => d.persC && idx = 0
  | _ => false

/-- The record at offset o of a bank fails its own checks (R460): check, version, length, a reserved field. -/
def recordBad (b : List Nat) (o len : Nat) : Bool :=
  let kind := bankByte b o
  calLength kind ≠ some len || bankByte b (o + 2) ≠ 1 || bankByte b (o + 3) ≠ 0 || bankField b (o + 12) 4 ≠ 0 ||
    crc32c (bankBytes b o 8 ++ bankBytes b (o + 16) len) ≠ bankField b (o + 8) 4 ||
    (kind = 5 && bankField b (o + 16 + 44) 4 ≠ 0) || (kind = 7 && bankField b (o + 16 + 34) 10 ≠ 0)

/-- A walk of one channel takes its SCAN_SIG, PLACE and TONE records only (R462). -/
def inScope (scope : Option Nat) (kind idx : Nat) : Bool :=
  match scope with
  | none => true
  | some n => ((kind = 1 || kind = 2) && idx = n) || (kind = 3 && idx / 2 = n)

/-- Walk the records from offset o: at most `fuel` of them, to the end of the body; `base` is the bank's flash address,
`got` the records read so far. -/
def Dev.walk (b : List Nat) (base fin : Nat) (scope : Option Nat) : Nat → Dev → Nat → Nat → Dev
  | 0, d, _, _ => d
  | fuel + 1, d, o, got =>
    if fin ≤ o then d
    else
      let len := bankField b (o + 4) 4
      if fin < o + 16 || len % 8 ≠ 0 || fin < o + 16 + len then
        (d.calFlag 2).report 35 (0xB2 <<< 24 + got) (base + o)
      else
        let kind := bankByte b o
        let idx := bankByte b (o + 1)
        let d :=
          if (calLength kind).isNone || !d.calNamed kind idx then d.count F.CAL_COUNTS.skipped
          else if recordBad b o len then d.calBad kind idx (base + o)
          else if inScope scope kind idx then
            { d with cal := { d.cal with waits := d.cal.waits ++ [⟨kind, idx, base + o, bankBytes b (o + 16) len⟩] } }
          else d
        Dev.walk b base fin scope fuel d (o + 16 + len) (got + 1)

/-! ### Application (R461, R463) -/

/-- The moment that the record's target allows is now. A target without power allows none. -/
def Dev.calMoment (d : Dev) (r : CalRec) : Bool :=
  match r.kind with
  | 1 => d.domOn (4 + r.idx)
  | 2 => d.domOn (4 + r.idx) && d.atGap r.idx
  | 3 =>
    let n := r.idx / 2
    d.domOn (4 + n) && !(d.on (F.CHn_SCR_STATUS.locked n) && d.ga (F.CHn_SCR_CTRL.tone_bank n) = r.idx % 2)
  | 4 => d.domOn 3 && [0, 1, 2, 10].contains (d.bldState r.idx)
  | 5 => d.domOn 3 && [0, 1, 5].contains (d.stpState r.idx)
  | 6 => d.loopState r.idx < 2
  | _ => true

/-- A write of a register: an agreed one in a pair (R388). -/
def Dev.calReg (d : Dev) (r : Reg) (v : Nat) : Dev := d.agreed r v (·.hostPut r v)
/-- A write of a shadow copy: staged storage (R388). -/
def Dev.calShadow (d : Dev) (r : Reg) (v : Nat) : Dev := (d.hostPut r v).stage true r.off
/-- A write of a table word: staged storage. -/
def Dev.calWord (d : Dev) (off v : Nat) : Dev := (d.putTw off v).stage false off
/-- Table words from a payload, from byte o of it. -/
def Dev.calWords (d : Dev) (p : List Nat) (o off n : Nat) : Dev :=
  d.each (List.range n) fun d i => d.calWord (off + 8 * i) (bankField p (o + 8 * i) 8)
/-- Shadow copies from a payload, 32 bits each. -/
def Dev.calGroup (d : Dev) (p : List Nat) (o : Nat) (rs : List Reg) : Dev :=
  d.each rs.zipIdx fun d x => d.calShadow x.1 (bankField p (o + 4 * x.2) 4)
/-- The commit of a record's group or block; its outcome is followed. -/
def Dev.calCommit (d : Dev) (r : CalRec) (c : Reg) (pending : Fld) : Dev :=
  let d := d.agreed c 1 (·.commit c pending)
  { d with cal := { d.cal with sent := d.cal.sent.filter (fun x => !(x.1 = r.kind && x.2.1 = r.idx)) ++ [(r.kind, r.idx, r.addr)] } }

/-- TMP_Ss_CFG takes a value: its settings, then its enable bit (R323). -/
def Dev.tmpCfg (d : Dev) (s v : Nat) : Dev :=
  let f := R.TMP_Ss_CFG s
  let d := d.hostPut f (putBits v 31 31 (d.get (F.TMP_Ss_CFG.enable s)))
  ((d.sensorEnable s (bit v 31)).tmpEffects).tmpLatch

/-- One record is written, every value in one clock, and committed where R461 says so. -/
def Dev.calApply (d : Dev) (r : CalRec) : Dev :=
  let p := r.payload
  let n := r.idx
  match r.kind with
  | 1 => d.each (List.range 12) fun d f => d.calReg (R.CHn_SCT_FACET_SIGf n f) (bankField p (2 * f) 2)
  | 2 =>
    let d := d.each (List.range 64) fun d b => d.calShadow (R.CHn_PLC_BEAM_DELAYb n b) (bankField p (2 * b) 2)
    let d := d.calGroup p 128 ((List.range 12).flatMap fun f => [R.CHn_PLC_FACET_DELAYf n f, R.CHn_PLC_FACET_YOFFf n f])
    (d.calWords p 224 (knotAddr n 0) 1024).calCommit r (R.CHn_PLC_COMMIT n) (F.CHn_PLC_STATUS.shadow_pending n)
  | 3 => d.calWords p 0 (toneAddr (n / 2) (n % 2) 0 0) 256
  | 4 => (d.calGroup p 0 (bldGroup n)).calCommit r (R.BLD_AXa_COMMIT n) (F.BLD_AXa_STATUS.shadow_pending n)
  | 5 => ((d.calGroup p 0 (stpGroup n)).calWords p 48 (0x300000 + n * 0x200) 64).calCommit r (R.STP_AXm_COMMIT n)
      (F.STP_AXm_STATUS.shadow_pending n)
  | 6 =>
    let d := { d with lg := { d.lg with loopRec := putBits d.lg.loopRec n n 1 } }
    (d.calWords p 0 (0x310000 + n * 0x100) 32).calCommit r (R.LOOP_Sk_COMMIT n) (F.LOOP_Sk_STATUS.shadow_pending n)
  | 7 =>
    let d := if n < 8 then d else d.each (List.range 17) fun d i => d.calReg (R.TMP_TINj_LUTi (n - 8) i) (bankField p (2 * i) 2)
    let d := d.calReg (R.TMP_Ss_LEVELS n) (bankField p 48 4)
    let d := d.calReg (R.TMP_Ss_LIMIT n) (bankField p 52 4)
    d.agreed (R.TMP_Ss_CFG n) (bankField p 44 4) (·.tmpCfg n (bankField p 44 4))
  | _ =>
    let e : Sens := ⟨bankField p 0 1, bankField p 1 1, bankField p 2 2, bankField p 4 2⟩
    { d with frd := { d.frd with cfg := { d.frd.cfg with sens := [e] } } }

/-- Apply the records of a list whose moment is now, in order; the others stay pending. A follower applies none (R463). -/
def Dev.calApplyAll (d : Dev) : Dev :=
  if d.follows then d
  else
    d.each d.cal.waits fun d r =>
      if d.calMoment r then
        let d := { d with cal := { d.cal with waits := d.cal.waits.erase r } }
        (d.calApply r).count F.CAL_STATUS.applied
      else d

/-- What the registers show after an application; the time of the last one (R465). -/
def Dev.calSettle (d : Dev) : Dev :=
  let was := d.on F.CAL_STATUS.pending
  let d := d.putB F.CAL_STATUS.pending (!d.cal.waits.isEmpty)
  if d.cal.waits.isEmpty then
    let d := d.put F.CAL_APPLIED_SECONDS.seconds (d.get F.SYS_SECONDS.seconds)
    if was then d.calFlag 1 else d
  else d

/-! ### The commands -/

/-- CAL_WALK_DONE: the walk that runs has read both banks; while the bus has another owner it reads nothing (R426). -/
def Dev.walkDone (d : Dev) (a b : List Nat) : Dev :=
  match d.cal.walks with
  | [] => d
  | scope :: rest =>
    if d.host.qspiBusy || d.get F.FRD_STATUS.state = 1 then d else
    let d := ({ d with cal := { d.cal with walks := rest } } : Dev).flashNext
    let d := (d.putB F.CAL_STATUS.busy (!rest.isEmpty)).put F.CAL_STATUS.applied 0
    let (d, okA) := d.bankJudge 1 a
    let (d, okB) := d.bankJudge 2 b
    let useB := okB && (!okA || serialLater (bankField b 8 4) (bankField a 8 4))
    let d :=
      if !okA && !okB then (d.put F.CAL_STATUS.bank 0).report 35 (0xB4 <<< 24 + 3) 0
      else
        let x := if useB then b else a
        let d := d.put F.CAL_STATUS.bank (if useB then 2 else 1)
        let d := (d.wr R.CAL_GENERATION (bankField x 8 4)).wr R.CAL_COUNT (bankField x 0xC 4)
        let d := d.wr R.CAL_TIME (bankField x 0x10 4)
        Dev.walk x (if useB then 0x60000 else 0x40000) (0x40 + min (bankField x 0x18 4) 131008) scope (bankField x 0x14 2) d 0x40 0
    let d := d.calApplyAll
    let d := (d.count F.CAL_COUNTS.walks).calFlag 0
    let d := if d.cal.waits.isEmpty then d.calFlag 1 else d
    d.calSettle

/-- CAL_CTRL.reload (R462, R463): refused while a walk runs and on the follower. -/
def Dev.reload (d : Dev) : Dev :=
  if d.on F.CAL_STATUS.busy || d.follows then d.count F.CAL_COUNTS.rejected
  else (({ d with cal := { d.cal with waits := [] } } : Dev).walkStart none).put F.CAL_STATUS.pending 0

/-- CAL_RECORD_APPLY: the first pending record whose moment is now. -/
def Dev.calOne (d : Dev) : Dev :=
  if d.follows then d
  else match d.cal.waits.find? d.calMoment with
  | none => d
  | some r =>
    let d := { d with cal := { d.cal with waits := d.cal.waits.erase r } }
    ((d.calApply r).count F.CAL_STATUS.applied).calSettle

/-- CAL_CTRL.reload (R462). -/
def execReload (s : State) : Host.Outcome State Fault Refusal := s.onDev (·.reach R.CAL_CTRL.off Dev.reload)
/-- CAL_WALK_DONE (R462): what the walk read of the two banks. -/
def execCalWalkDone (bankA bankB : List Byte) (s : State) : Host.Outcome State Fault Refusal :=
  s.onDev (·.walkDone (bankA.map BitVec.toNat) (bankB.map BitVec.toNat))
/-- CAL_RECORD_APPLY (R461). -/
def execCalRecordApply (s : State) : Host.Outcome State Fault Refusal := s.onDev Dev.calOne

end Sys2Proof.Machine
end

