-- ==== Sys2Proof/Machine/Sig.lean ====
section
/-! DEFINITION. The signature of a Frond image (R53): SHA-256 and the ECDSA P-256 verification. -/

namespace Sys2Proof.Machine

/-! ### SHA-256 -/

/-- The round constants. -/
def shaK : List Nat :=
  [0x428A2F98, 0x71374491, 0xB5C0FBCF, 0xE9B5DBA5, 0x3956C25B, 0x59F111F1, 0x923F82A4, 0xAB1C5ED5] ++
  [0xD807AA98, 0x12835B01, 0x243185BE, 0x550C7DC3, 0x72BE5D74, 0x80DEB1FE, 0x9BDC06A7, 0xC19BF174] ++
  [0xE49B69C1, 0xEFBE4786, 0x0FC19DC6, 0x240CA1CC, 0x2DE92C6F, 0x4A7484AA, 0x5CB0A9DC, 0x76F988DA] ++
  [0x983E5152, 0xA831C66D, 0xB00327C8, 0xBF597FC7, 0xC6E00BF3, 0xD5A79147, 0x06CA6351, 0x14292967] ++
  [0x27B70A85, 0x2E1B2138, 0x4D2C6DFC, 0x53380D13, 0x650A7354, 0x766A0ABB, 0x81C2C92E, 0x92722C85] ++
  [0xA2BFE8A1, 0xA81A664B, 0xC24B8B70, 0xC76C51A3, 0xD192E819, 0xD6990624, 0xF40E3585, 0x106AA070] ++
  [0x19A4C116, 0x1E376C08, 0x2748774C, 0x34B0BCB5, 0x391C0CB3, 0x4ED8AA4A, 0x5B9CCA4F, 0x682E6FF3] ++
  [0x748F82EE, 0x78A5636F, 0x84C87814, 0x8CC70208, 0x90BEFFFA, 0xA4506CEB, 0xBEF9A3F7, 0xC67178F2]

/-- The initial hash value. -/
def shaInit : List Nat := [0x6A09E667, 0xBB67AE85, 0x3C6EF372, 0xA54FF53A, 0x510E527F, 0x9B05688C, 0x1F83D9AB, 0x5BE0CD19]

/-- Rotate a 32-bit word right. -/
def rotr32 (x n : Nat) : Nat := x / 2 ^ n + x % 2 ^ n * 2 ^ (32 - n)

/-- The next word of the message schedule from the sixteen before it, newest first. -/
def shaNext (w : List Nat) : Nat :=
  let a := w.getD 1 0
  let b := w.getD 14 0
  let s1 := (rotr32 a 17 ^^^ rotr32 a 19) ^^^ a / 2 ^ 10
  let s0 := (rotr32 b 7 ^^^ rotr32 b 18) ^^^ b / 2 ^ 3
  (s1 + w.getD 6 0 + s0 + w.getD 15 0) % 2 ^ 32

/-- One round on the eight working words. -/
def shaRound (v : List Nat) (k w : Nat) : List Nat :=
  match v with
  | [a, b, c, d, e, f, g, h] =>
    let s1 := (rotr32 e 6 ^^^ rotr32 e 11) ^^^ rotr32 e 25
    let ch := (e &&& f) ^^^ ((2 ^ 32 - 1 - e) &&& g)
    let t1 := h + s1 + ch + k + w
    let s0 := (rotr32 a 2 ^^^ rotr32 a 13) ^^^ rotr32 a 22
    let maj := ((a &&& b) ^^^ (a &&& c)) ^^^ (b &&& c)
    [(t1 + s0 + maj) % 2 ^ 32, a, b, c, (d + t1) % 2 ^ 32, e, f, g]
  | v => v

/-- The rounds of a block: constants left, the sixteen schedule words to come (oldest first). -/
def shaRounds : List Nat → List Nat → List Nat → List Nat
  | [], _, v => v
  | k :: ks, w, v => shaRounds ks (w.drop 1 ++ [shaNext w.reverse]) (shaRound v k (w.headD 0))

/-- One block of 64 bytes. -/
def shaBlock (h : List Nat) (block : List Nat) : List Nat :=
  let w := (List.range 16).map fun i => beVal ((block.drop (4 * i)).take 4)
  List.zipWith (fun a b => (a + b) % 2 ^ 32) h (shaRounds shaK w h)

/-- The blocks of a padded message. -/
def shaBlocks : Nat → List Nat → List Nat → List Nat
  | 0, h, _ => h
  | n + 1, h, m => shaBlocks n (shaBlock h (m.take 64)) (m.drop 64)

/-- SHA-256 of a byte string, as a number, high byte first. -/
def sha256 (m : List Nat) : Nat :=
  let pad := 0x80 :: List.replicate ((119 - m.length % 64) % 64) 0
  let len := (leBytes 8 (8 * m.length)).reverse
  let m := m ++ pad ++ len
  (shaBlocks (m.length / 64) shaInit m).foldl (fun a w => a * 2 ^ 32 + w) 0

/-! ### P-256 -/

def p256P : Nat := 0xFFFFFFFF00000001000000000000000000000000FFFFFFFFFFFFFFFFFFFFFFFF
def p256N : Nat := 0xFFFFFFFF00000000FFFFFFFFFFFFFFFFBCE6FAADA7179E84F3B9CAC2FC632551
def p256B : Nat := 0x5AC635D8AA3A93E7B3EBBD55769886BC651D06B0CC53B0F63BCE3C3E27D2604B
def p256Gx : Nat := 0x6B17D1F2E12C4247F8BCE6E563A440F277037D812DEB33A0F4A13945D898C296
def p256Gy : Nat := 0x4FE342E2FE1A7F9B8EE7EB4A7C0F9E162BCE33576B315ECECBB6406837BF51F5

/-- b^e mod m by squaring, over the low `n` bits of e. -/
def powMod (m : Nat) : Nat → Nat → Nat → Nat
  | 0, _, _ => 1 % m
  | n + 1, b, e => let h := powMod m n (b * b % m) (e / 2); if e % 2 = 1 then h * b % m else h

/-- The inverse modulo a prime below 2^256. -/
def invMod (m a : Nat) : Nat := powMod m 256 (a % m) (m - 2)

/-- Add two points of the curve; `none` is the point at infinity. -/
def p256Add (p q : Option (Nat × Nat)) : Option (Nat × Nat) :=
  match p, q with
  | none, q => q
  | p, none => p
  | some (x1, y1), some (x2, y2) =>
    if x1 = x2 && (y1 + y2) % p256P = 0 then none
    else
      let l := if x1 = x2 then (3 * x1 * x1 + p256P - 3) * invMod p256P (2 * y1) % p256P
        else (y2 + p256P - y1) * invMod p256P (x2 + p256P - x1) % p256P
      let x3 := (l * l + 2 * p256P - x1 - x2) % p256P
      some (x3, (l * (x1 + p256P - x3) + p256P - y1) % p256P)

/-- k times a point, over the low `n` bits of k. -/
def p256Mul : Nat → Nat → Option (Nat × Nat) → Option (Nat × Nat)
  | 0, _, _ => none
  | n + 1, k, p => let h := p256Mul n (k / 2) (p256Add p p); if k % 2 = 1 then p256Add h p else h

/-- A public key is a point of the curve. -/
def p256On (x y : Nat) : Bool :=
  x < p256P && y < p256P && y * y % p256P = (x * x * x + (p256P - 3) * x + p256B) % p256P

/-- ECDSA verification of (r, s) over a hash under the key (x, y). -/
def ecdsaOk (x y r s hash : Nat) : Bool :=
  if !p256On x y || r = 0 || s = 0 || p256N ≤ r || p256N ≤ s then false
  else
    let w := invMod p256N s
    match p256Add (p256Mul 256 (hash * w % p256N) (some (p256Gx, p256Gy))) (p256Mul 256 (r * w % p256N) (some (x, y))) with
    | none => false
    | some (px, _) => px % p256N = r

end Sys2Proof.Machine
end

