-- ==== Sys2Proof/Machine/Image.lean ====
section
/-! DEFINITION. The Frond image as bytes: its ordered checks (R36-R53), the configuration it spells (R38-R49), and the ROM image
of Personality C (R430). -/

namespace Sys2Proof.Machine

/-! ### Bytes and the header -/

/-- Byte o of an image. -/
def ib (m : List Nat) (o : Nat) : Nat := m.getD o 0
/-- The n-byte little-endian field at o (R37). -/
def iw (m : List Nat) (o n : Nat) : Nat := leVal ((m.drop o).take n)
/-- Fields of the header (R37). -/
def imageLength (m : List Nat) : Nat := iw m 0x0C 4
def bodyLength (m : List Nat) : Nat := iw m 0x10 4
def pinnaCount (m : List Nat) : Nat := ib m 0x0A
def imageSigned (m : List Nat) : Bool := bit (ib m 9) 0
/-- The end of the directory. -/
def dirEnd (m : List Nat) : Nat := 0x40 + 16 * pinnaCount m

/-- The first failing check of a list: its code and offset. -/
def firstFail (l : List (Bool × Nat × Nat)) : Option (Nat × Nat) := (l.find? fun c => c.1).map (·.2)

/-- Step 1 of R51, with min_revision judged against `rev`. -/
def headerFail (rev : Nat) (m : List Nat) : Option (Nat × Nat) :=
  firstFail (([
    (m.take 4 ≠ [0x46, 0x52, 0x4E, 0x44], 0x10, 0), (iw m 4 2 ≠ 1, 0x11, 4), (iw m 6 2 ≠ 0x880, 0x12, 6),
    (decide (rev < ib m 8), 0x13, 8), (1 < ib m 9, 0x14, 9),
    (pinnaCount m < 4 || 9 < pinnaCount m, 0x14, 0xA), (ib m 0xB ≠ 0, 0x14, 0xB),
    (decide (262144 < imageLength m), 0x14, 0xC),
    (bodyLength m % 8 ≠ 0 || bodyLength m < dirEnd m, 0x14, 0x10),
    (imageLength m ≠ bodyLength m + (if imageSigned m then 136 else 0), 0x14, 0xC)] : List (Bool × Nat × Nat))
    ++ (List.range 16).map fun i => (decide (ib m (0x2C + i) ≠ 0), 0x14, 0x2C + i))

/-- Step 2 of R51 (R52). -/
def crcFail (m : List Nat) : Option (Nat × Nat) :=
  if crc32c (m.take 0x3C ++ [0, 0, 0, 0] ++ (m.take (bodyLength m)).drop 0x40) = iw m 0x3C 4 then none else some (0x15, 0x3C)

/-- Step 3 of R51 (R53), under the fuses. -/
def signFail (m : List Nat) : Option (Nat × Nat) :=
  let b := bodyLength m
  if !imageSigned m then (if Config.fuseSigRequired.toNat = 1 then some (0x20, 9) else none)
  else
    let slot := ib m b
    let pub := (m.drop (b + 8)).take 64
    firstFail ((List.range 7).map (fun i => (decide (ib m (b + 1 + i) ≠ 0), 0x14, b + 1 + i)) ++ [(decide (3 < slot), 0x14, b),
      (!bit Config.fuseKeyProgrammed.toNat slot, 0x21, b), (bit Config.fuseKeyRevoked.toNat slot, 0x22, b),
      (sha256 pub ≠ (Config.fuseKeyHash slot).toNat, 0x23, b + 8),
      (!ecdsaOk (beVal (pub.take 32)) (beVal (pub.drop 32)) (beVal ((m.drop (b + 72)).take 32)) (beVal ((m.drop (b + 104)).take 32))
        (sha256 (m.take b)), 0x24, b + 72)])

/-! ### The directory (R37, R38) -/

/-- A directory entry: its own offset, type, entry_size, entry_count, offset, length. -/
structure DirEnt where
  at_    : Nat
  kind   : Nat
  size   : Nat
  count  : Nat
  off    : Nat
  len    : Nat
  deriving DecidableEq, Repr

def dirEnt (m : List Nat) (i : Nat) : DirEnt :=
  let a := 0x40 + 16 * i
  ⟨a, ib m a, iw m (a + 2) 2, iw m (a + 4) 2, iw m (a + 8) 4, iw m (a + 12) 4⟩
def dirEnts (m : List Nat) : List DirEnt := (List.range (pinnaCount m)).map (dirEnt m)

/-- entry_size, least and largest entry_count of a pinna type (R38). -/
def pinnaShape (kind : Nat) : Nat × Nat × Nat :=
  match kind with
  | 1 => (32, 1, 1) | 2 => (32, 1, 8) | 3 => (24, 0, 32) | 4 => (4, 0, 96) | 5 => (8, 1, 19) | 6 => (24, 0, 4096)
  | 7 => (16, 41, 42) | 8 => (16, 0, 64) | 9 => (8, 0, 64) | _ => (0, 1, 0)

/-- The check of one entry against those before it. -/
def entFail (m : List Nat) (before : List DirEnt) (e : DirEnt) : Option (Nat × Nat) :=
  let (sz, lo, hi) := pinnaShape e.kind
  firstFail [
    (e.kind = 0 || 9 < e.kind || before.any (fun x => x.kind = e.kind), 0x30, e.at_),
    (ib m (e.at_ + 1) ≠ 1 || e.size ≠ sz || e.count < lo || hi < e.count || e.len ≠ e.size * e.count, 0x32, e.at_),
    (e.off % 8 ≠ 0 || e.off < dirEnd m || bodyLength m < e.off + e.len ||
      before.any (fun x => 0 < e.len && 0 < x.len && e.off < x.off + x.len && x.off < e.off + e.len), 0x31, e.at_)]

/-- Entries in directory order. -/
def entsFail (m : List Nat) : List DirEnt → List DirEnt → Option (Nat × Nat)
  | _, [] => none
  | before, e :: es => match entFail m before e with | some x => some x | none => entsFail m (before ++ [e]) es

/-- Step 4 of R51. -/
def boundsFail (m : List Nat) : Option (Nat × Nat) :=
  match entsFail m [] (dirEnts m) with
  | some x => some x
  | none => if [1, 2, 5, 7].all fun t => (dirEnts m).any fun e => e.kind = t then none else some (0x33, 0x40)

/-- The offsets of the entries of a pinna type, in order. -/
def entries (m : List Nat) (kind : Nat) : List Nat :=
  match (dirEnts m).find? fun e => e.kind = kind with
  | none => []
  | some e => (List.range e.count).map fun i => e.off + i * e.size

/-! ### Fields (R51 step 5): the offsets that fail, entry by entry -/

/-- Offsets of the checks of an entry at o that fail. -/
def badAt (o : Nat) (l : List (Bool × Nat)) : List Nat := (l.filter (·.1)).map fun c => o + c.2
/-- Reserved bytes that are not zero. -/
def badZero (m : List Nat) (o n : Nat) : List Nat := ((List.range n).map (o + ·)).filter fun a => ib m a ≠ 0
/-- Outside [lo, hi]. -/
def outside (x lo hi : Nat) : Bool := x < lo || hi < x
/-- The entries of a pinna, each with those before it. -/
def withBefore (l : List Nat) : List (Nat × List Nat) := l.zipIdx.map fun x => (x.1, l.take x.2)

/-- The ROLE pinna's fields out of their values (R38, R50, code 0x34). In Single grade a twin_group_address of 0x01 to 0xFE is left to
the cross-check of the grade, code 0x35, and 0xFF is out of range here (DESIGN CHOICE, see the log). -/
def roleBad (m : List Nat) (o : Nat) : List Nat :=
  let ring := ib m (o + 2) ≠ 1
  let gen := ib m (o + 3)
  let lanes := ib m (o + 4)
  badAt o [(1 < ib m o, 0), (4 < ib m (o + 1), 1), (2 < ib m (o + 2), 2), (ring && outside gen 1 3, 3),
    (ring && (outside lanes 1 8 || gen = 1 && lanes ≠ 4 || gen = 3 && lanes ≠ 8), 4), (outside (ib m (o + 5)) 1 0xFE, 5),
    (ib m o = 1 && outside (ib m (o + 6)) 1 0xFE, 6),
    (0xFE < ib m (o + 7) || ib m o = 1 && ib m (o + 7) = 0, 7), (outside (ib m (o + 12)) 1 3, 12)] ++ badZero m (o + 13) 19

def chanBad (m : List Nat) (o : Nat) (before : List Nat) : List Nat :=
  let mode := ib m (o + 5)
  let lanes := ib m (o + 6)
  badAt o [(7 < ib m o || before.any (fun p => ib m p = ib m o), 0), (outside (ib m (o + 1)) 1 64, 1), (2 < ib m (o + 2), 2),
    (4 < ib m (o + 3), 3), (1 < ib m (o + 4) || 2 ≤ ib m (o + 3) && ib m (o + 4) ≠ 0, 4), (2 < mode, 5),
    (mode = 0 && lanes ≠ 2 || mode = 1 && !([1, 2, 4].contains lanes) || mode = 2 && lanes ≠ 0, 6), (outside (ib m (o + 7)) 1 12, 7),
    (outside (iw m (o + 8) 2) 1 32768, 8), (15 < ib m (o + 10), 10), (15 < ib m (o + 11), 11),
    (outside (iw m (o + 16) 4) 1000 160000, 16)] ++ badZero m (o + 20) 12

def axisBad (m : List Nat) (o : Nat) (before : List Nat) : List Nat :=
  let bx := ib m o < 16
  let idle := ib m (o + 16)
  badAt o [(0x1F < ib m o || before.any (fun p => ib m p = ib m o), 0), (outside (ib m (o + 1)) 1 6 || !bx && ib m (o + 1) = 1, 1),
    (2 < ib m (o + 2), 2), (!([0, 1, 0xFF].contains (ib m (o + 3))), 3),
    (if bx then outside (ib m (o + 4)) 1 32 else ib m (o + 4) ≠ 0, 4), (3 < ib m (o + 5) && ib m (o + 5) ≠ 0xFF, 5),
    (if bx then iw m (o + 6) 2 ≠ 0 else outside (iw m (o + 6) 2) 4 1000, 6), (bx && 60000 < iw m (o + 8) 4, 8),
    (3 < idle || idle = 2 && bx || idle = 3 && !bx, 16), (outside (ib m (o + 17)) 8 (if bx then 100 else 50), 17),
    (idle ≠ 3 && iw m (o + 18) 2 ≠ 0, 18), (if bx then ib m (o + 20) ≠ 0 else 3 < ib m (o + 20), 20)] ++ badZero m (o + 21) 3

/-- Pins of a PINMUX group and the functions it allows (R43). -/
def pinGroup (g : Nat) : Nat × List Nat :=
  match g with
  | 1 => (16, [0, 1, 3]) | 2 => (16, [0, 1, 3]) | 3 => (4, [0, 1, 3]) | 4 => (4, [0, 3]) | 6 => (8, [0, 2, 3]) | 7 => (16, [0, 2, 3])
  | _ => (0, [0, 1, 2, 3])

def pinBad (m : List Nat) (o : Nat) : List Nat :=
  let (n, fs) := pinGroup (ib m (o + 1))
  badAt o [(n ≤ ib m o, 0), (!fs.contains (ib m (o + 2)), 2), (ib m (o + 3) &&& 0x60 ≠ 0, 3)]

def domBad (m : List Nat) (o : Nat) (before : List Nat) : List Nat :=
  badAt o [(1 < ib m o || before.any (fun p => ib m p = ib m o && ib m (p + 1) = ib m (o + 1)), 0),
    (if ib m o = 0 then outside (ib m (o + 1)) 1 11 else ib m o = 1 && 7 < ib m (o + 1), 1), (1 < ib m (o + 2), 2),
    (outside (iw m (o + 4) 2) 1 1000, 4)] ++ badZero m (o + 3) 1

def evttBad (m : List Nat) (o : Nat) (before : List Nat) : List Nat :=
  badAt o [(4095 < iw m o 2 || before.any (fun p => iw m p 2 = iw m o 2), 0), (2 < ib m (o + 2), 2),
    (bit (ib m (o + 22)) 0, 22)] ++ badZero m (o + 3) 5

/-- The reaction bits that a source may arm (R46). -/
def reactMask (src : Nat) : Nat :=
  0x187 + (if src ≤ 22 || (26 ≤ src && src ≤ 29) || src = 32 || src = 34 then 8 else 0) + (if src = 38 then 16 else 0) +
    (if src = 30 then 32 else 0) + (if src = 0x80 then 64 else 0)

def reactBad (m : List Nat) (n : Nat) (o : Nat) (before : List Nat) : List Nat :=
  let src := ib m o
  let r := iw m (o + 2) 2
  badAt o [(!(src ≤ 40 || src = 0x80 && n = 42) || before.any (fun p => ib m p = src), 0), (4 < ib m (o + 1), 1),
    (r % 512 &&& reactMask src ≠ r % 512, 2), (2 ≤ ib m (o + 3), 3), (2 ^ 41 ≤ iw m (o + 8) 8, 8)]

/-- A temperature sensor's code. -/
def sensorCode (c : Nat) : Bool := (0x40 ≤ c && c ≤ 0x47) || (0x50 ≤ c && c ≤ 0x5F)

def looptBad (m : List Nat) (o : Nat) (before : List Nat) : List Nat :=
  badAt o [(63 < ib m o || before.any (fun p => ib m p = ib m o), 0), (outside (ib m (o + 1)) 1 6, 1),
    (0x1F < ib m (o + 2) && !sensorCode (ib m (o + 2)), 2), (0xF < ib m (o + 3), 3), (outside (iw m (o + 4) 4) 1000 100000, 4),
    (7 < ib m (o + 8) && ib m (o + 8) ≠ 0xFF, 8), (1 < ib m (o + 9), 9)] ++ badZero m (o + 14) 2

def sensBad (m : List Nat) (o : Nat) (before : List Nat) : List Nat :=
  let a := ib m o
  let b := ib m (o + 1)
  let same := fun p => (ib m p = a && ib m (p + 1) = b) || (ib m p = b && ib m (p + 1) = a)
  badAt o [(!sensorCode a || before.any same, 0), (!sensorCode b || a = b, 1), (outside (iw m (o + 2) 2) 1 1000, 2),
    (outside (iw m (o + 4) 2) 1 10000, 4)] ++ badZero m (o + 6) 2

/-- Padding: bytes of the body behind the directory that no pinna holds (R38). -/
def paddingBad (m : List Nat) : List Nat :=
  let es := dirEnts m
  ((List.range (bodyLength m - dirEnd m)).map (dirEnd m + ·)).filter fun a =>
    ib m a ≠ 0 && !es.any fun e => e.off ≤ a && a < e.off + e.len

/-- Every failing offset of step 5. -/
def fieldsBad (m : List Nat) : List Nat :=
  (dirEnts m).flatMap (fun e => badZero m (e.at_ + 6) 2) ++ paddingBad m ++ (entries m 1).flatMap (roleBad m) ++
  (withBefore (entries m 2)).flatMap (fun p => chanBad m p.1 p.2) ++ (withBefore (entries m 3)).flatMap (fun p => axisBad m p.1 p.2) ++
  (entries m 4).flatMap (pinBad m) ++ (withBefore (entries m 5)).flatMap (fun p => domBad m p.1 p.2) ++
  (withBefore (entries m 6)).flatMap (fun p => evttBad m p.1 p.2) ++
  (withBefore (entries m 7)).flatMap (fun p => reactBad m (entries m 7).length p.1 p.2) ++
  (withBefore (entries m 8)).flatMap (fun p => looptBad m p.1 p.2) ++ (withBefore (entries m 9)).flatMap (fun p => sensBad m p.1 p.2)

/-- Step 5 of R51: the failing offset that is lowest. -/
def fieldFail (m : List Nat) : Option (Nat × Nat) :=
  match fieldsBad m with
  | [] => none
  | x :: xs => some (0x34, xs.foldl min x)

/-! ### Cross-checks (R50) -/

/-- The AXIS entry of an axis. -/
def axisAt (m : List Nat) (a : Nat) : Option Nat := (entries m 3).find? fun p => ib m p = a
/-- speed_setpoint of a channel's polygon. -/
def polySpeed (m : List Nat) (o : Nat) : Nat := match axisAt m (ib m (o + 10)) with | some p => iw m (p + 12) 4 | none => 0
/-- The DOMAIN entries of internal domains, in order. -/
def innerDoms (m : List Nat) : List Nat := (entries m 5).filter fun p => ib m p = 0
def listsDom (m : List Nat) (k : Nat) : Bool := (innerDoms m).any fun p => ib m (p + 1) = k

/-- A pin that the image uses natively (R43). The native function of a bound or named encoder is its A and B pins; its Z pin
may be an input or unused (R99: an encoder then has no index): DESIGN CHOICE, see the assumption log. -/
def nativePin (m : List Nat) (g i : Nat) : Bool :=
  ((g = 1 || g = 2) && (entries m 3).any fun p => ib m p = 16 + i && bit (ib m (p + 20)) (g - 1)) ||
  (g = 4 && ((entries m 3).any (fun p => ib m (p + 5) = i) ||
    (entries m 6).any fun p => bits (ib m (p + 23)) 5 4 = 2 && bits (ib m (p + 23)) 3 2 = i)) ||
  (g = 6 && (entries m 2).any fun p => ib m p = i && ib m (p + 5) = 2) ||
  (g = 7 && (entries m 8).any fun p => ib m (p + 3) = i)

/-- A PINMUX entry repeats a pin, a DINk or a DOUTk, or takes a native pin away (R43). -/
def pinClash (m : List Nat) (o : Nat) (before : List Nat) : Bool :=
  let f := ib m (o + 2)
  let k := ib m (o + 3) % 32
  before.any (fun p => iw m p 2 = iw m o 2 || ((f = 1 || f = 2) && ib m (p + 2) = f && ib m (p + 3) % 32 = k)) ||
    (f ≠ 0 && nativePin m (ib m (o + 1)) (ib m o))

/-- A LOOPT entry breaks R48. -/
def groupBad (m : List Nat) (o : Nat) : Bool :=
  let ls := entries m 8
  let g := ib m (o + 8)
  let out := ib m (o + 3)
  let mem := ls.filter fun p => ib m (p + 8) = g
  ls.any (fun p => p ≠ o && ib m (p + 3) = out && (g = 0xFF || ib m (p + 8) ≠ g)) ||
    (g ≠ 0xFF && (outside mem.length 2 4 || mem.any fun p => ib m (p + 3) ≠ out || iw m (p + 4) 4 ≠ iw m (o + 4) 4))

/-- The entries that fail, check by check, in the order of the table. -/
def crossBad (m : List Nat) : List Nat :=
  let cs := entries m 2
  let role := ((entries m 1).headD 0)
  let twin := ib m role = 1
  let ds := ib m (role + 2)
  let users := entries m 3 ++ entries m 8
  let dins := ((entries m 4).filter fun p => ib m (p + 2) = 1).map fun p => ib m (p + 3) % 32
  (withBefore cs).filterMap (fun p =>
    let poly := ib m (p.1 + 10)
    let ok := match axisAt m poly with | some a => ib m (a + 1) = 1 | none => false
    if ok && !p.2.any (fun q => ib m (q + 10) = poly) then none else some p.1) ++
  cs.filter (fun p => 9000000 < polySpeed m p * ib m (p + 7) * ib m (p + 1)) ++
  cs.filter (fun p => 60000 * iw m (p + 16) 4 ≤ iw m (p + 8) 2 * polySpeed m p * ib m (p + 7)) ++
  cs.filter (fun p => ib m (p + 5) = 2 && ib m (p + 1) ≠ 1) ++
  cs.filter (fun p => !listsDom m (4 + ib m p)) ++
  (withBefore (innerDoms m)).filterMap (fun p =>
    if 4 ≤ ib m (p.1 + 1) && !p.2.any (fun q => ib m (q + 1) = 1) then some p.1 else none) ++
  (if users ≠ [] && !listsDom m 3 then [users.foldl min (users.headD 0)] else []) ++
  (if (ds ≠ 1 || twin) && !listsDom m 2 then [role] else []) ++
  cs.filter (fun p => (List.range 32).any fun k => bit (iw m (p + 12) 4) k && !dins.contains k) ++
  (let a := ib m (role + 5); let b := ib m (role + 6); let g := ib m (role + 7)
   if twin && (a = b || a = g || b = g) || !twin && g ≠ 0 then [role] else []) ++
  (withBefore (entries m 4)).filterMap (fun p => if pinClash m p.1 p.2 then some p.1 else none) ++
  (entries m 8).filter (groupBad m)

/-- Step 6 of R51. -/
def crossFail (m : List Nat) : Option (Nat × Nat) := (crossBad m).head?.map fun o => (0x35, o)

/-- Steps 2 to 6, in order; `none` where the image passes. -/
def imageFail (m : List Nat) : Option (Nat × Nat) :=
  match crcFail m with
  | some x => some x
  | none => match signFail m with
  | some x => some x
  | none => match boundsFail m with
  | some x => some x
  | none => match fieldFail m with
  | some x => some x
  | none => crossFail m

/-! ### What an accepted image spells (R38-R49) -/

def readRole (m : List Nat) (o : Nat) : Role :=
  { grade := ib m o, aliveClass := ib m (o + 1), dataSource := ib m (o + 2), ringGen := ib m (o + 3), ringLanes := ib m (o + 4)
    addrA := ib m (o + 5), addrB := ib m (o + 6), addrGroup := ib m (o + 7), turnIntervalS := iw m (o + 8) 2
    hostWdogMs := iw m (o + 10) 2, admissionRules := ib m (o + 12) }
def readChan (m : List Nat) (o : Nat) : Chan :=
  { channel := ib m o, beams := ib m (o + 1), crossDpi := ib m (o + 2), inputFormat := ib m (o + 3), tagPlane := ib m (o + 4)
    blMode := ib m (o + 5), blLanes := ib m (o + 6), facets := ib m (o + 7), pixels := iw m (o + 8) 2, polygonAxis := ib m (o + 10)
    gateFlags := ib m (o + 11), dinInterlock := iw m (o + 12) 4, clockKhz := iw m (o + 16) 4 }
def readAxis (m : List Nat) (o : Nat) : Axis :=
  { axis := ib m o, role := ib m (o + 1), direction := ib m (o + 2), dcBus := ib m (o + 3), polePairs := ib m (o + 4)
    encoder := ib m (o + 5), stepsPerRev := iw m (o + 6) 2, maxSpeed := iw m (o + 8) 4, setpoint := iw m (o + 12) 4
    idle := ib m (o + 16), pwmKhz := ib m (o + 17), idleSpeed := iw m (o + 18) 2, limits := ib m (o + 20) }
def readPin (m : List Nat) (o : Nat) : Pin := ⟨ib m (o + 1), ib m o, ib m (o + 2), ib m (o + 3) % 32, bit (ib m (o + 3)) 7⟩
def readDom (m : List Nat) (o : Nat) : DomEntry := ⟨ib m o, ib m (o + 1), bit (ib m (o + 2)) 0, iw m (o + 4) 2, iw m (o + 6) 2⟩
def readEvtt (m : List Nat) (o : Nat) : EvttEntry :=
  ⟨iw m o 2, bit (ib m (o + 2)) 0, bit (ib m (o + 2)) 1, BitVec.ofNat 64 (iw m (o + 8) 8), BitVec.ofNat 64 (iw m (o + 16) 8)⟩
def readReact (m : List Nat) (o : Nat) : React :=
  ⟨ib m o, ib m (o + 1), iw m (o + 2) 2, iw m (o + 4) 2, iw m (o + 6) 2, iw m (o + 8) 8⟩
def readLoop (m : List Nat) (o : Nat) : LoopT :=
  { slot := ib m o, kind := ib m (o + 1), feedback := ib m (o + 2), output := ib m (o + 3), sampleHz := iw m (o + 4) 4
    group := ib m (o + 8), ready := bit (ib m (o + 9)) 0, safeValue := iw m (o + 10) 2, standby := iw m (o + 12) 2 }
def readSens (m : List Nat) (o : Nat) : Sens := ⟨ib m o, ib m (o + 1), iw m (o + 2) 2, iw m (o + 4) 2⟩

/-- The configuration of an image. -/
def readCfg (m : List Nat) : Cfg :=
  { role := readRole m ((entries m 1).headD 0)
    chans := (entries m 2).map (readChan m), axes := (entries m 3).map (readAxis m), pins := (entries m 4).map (readPin m)
    doms := (entries m 5).map (readDom m), evtt := (entries m 6).map (readEvtt m), reacts := (entries m 7).map (readReact m)
    loops := (entries m 8).map (readLoop m), sens := (entries m 9).map (readSens m)
    serial := iw m 0x14 4, crc := iw m 0x3C 4 }

/-- Bit t set for each pinna type the image holds. -/
def pinnaMap (m : List Nat) : Nat := (dirEnts m).foldl (fun n e => n + 2 ^ e.kind) 0

/-! ### The ROM image of Personality C (R430) -/

/-- A reaction of the ROM image: class, reactions, quiet period. -/
def romReact (src : Nat) : React :=
  let (cls, r, q) :=
    if src = 36 || src = 37 then (4, 0x003, 0) else if src = 30 then (3, 0x024, 0) else if src = 38 then (3, 0x090, 0)
    else if src = 0x80 then (4, 0x041, 0) else if src = 19 || src = 21 || src = 26 then (2, 0x002, Config.romQuietMs src) else (1, 0, 1000)
  { source := src, cls := cls, reactions := r + 0x100, shadowUs := 50, quietMs := q }

/-- The ROM image with the structure that LG_CTRL.run fixes at the registers' reset values (R432). What the spec leaves to it
(rotor and PWM data, step times, the standby set-point) are constants of Config. -/
def romCfg : Cfg :=
  { role := { grade := 0, aliveClass := 3, dataSource := 0, ringGen := 1, ringLanes := 4, hostWdogMs := 250, admissionRules := 2 }
    chans := (List.range 4).map fun s =>
      { channel := s, blMode := 2, facets := 6, pixels := 0x4000, polygonAxis := s, gateFlags := 5, dinInterlock := 256, clockKhz := 80000 }
    axes := (List.range 4).map fun s =>
      { axis := s, role := 1, direction := 1, dcBus := 0, polePairs := Config.romPolePairs s, maxSpeed := 60000, idle := 0
        pwmKhz := Config.romPwmKhz }
    pins := (List.range 4).map (fun i => ⟨1, i, 1, i, false⟩) ++ (List.range 4).map (fun i => ⟨2, i, 1, 4 + i, false⟩) ++
      [⟨1, 4, 1, 8, false⟩] ++ (List.range 8).map (fun i => ⟨7, 8 + i, 2, i, false⟩)
    doms := [1, 2, 3, 4, 5, 6, 7].map fun k => ⟨0, k, false, Config.romTimeoutMs, Config.romSettleUs⟩
    reacts := (List.range 41).map romReact ++ [romReact 0x80]
    loops := [0, 1].map fun f =>
      { slot := f, kind := 1, feedback := 0x50 + f, output := f, sampleHz := 1000, ready := true, standby := Config.romStandby } }

end Sys2Proof.Machine
end

