-- ==== Sys2Proof/Machine/Sys.lean ====
section
/-! DEFINITION. Bring-up phases, retries, engine_go, the resets of both kinds, the host watchdog (R59-R74), the restarts of the
power sequencer (R344, R345). -/

namespace Sys2Proof.Machine

/-! ### The chain of phases (R61) -/

/-- A phase is done or skipped. -/
def Dev.phaseOver (d : Dev) (p : Nat) : Bool := d.phaseSt p = 2 || d.phaseSt p = 4

/-- The tick at which a phase started. -/
def Dev.phaseAt (d : Dev) (p : Nat) : Nat := Store.get 0 d.sys.phAt p - 1

/-- One EVTT template (R45): its words with the gated bit; an armed one passes the arming check or is refused. -/
def Dev.loadEvtt (d : Dev) (e : EvttEntry) : Dev :=
  let hi := e.hi.toNat % 2 ^ 62 + b2n e.gated * 2 ^ 62
  let d := (d.putTw (16 * e.index) e.lo.toNat).putTw (16 * e.index + 8) hi
  if !e.armed then d
  else
    let c := d.armCheck e.lo.toNat hi
    if c = 0 then d.armEntry e.index else d.armRefused e.index c

/-- The event table holds nothing: the entries that no template names load as zero (R45). -/
def Dev.evtZero (d : Dev) : Dev := (d.each d.armedEntries Dev.clearArmed).dropTable 0 0x10000

/-- The pinnae that CORE uses are applied (R56). The templates are loaded, and the armed ones armed, one by one in entry order: check 7
of R85 on an armed ARM or DISARM template sees a gated entry of an earlier template, not of a later one (DESIGN CHOICE, see the log). -/
def Dev.loadCfg (d : Dev) (c : Cfg) : Dev :=
  (({ d.evtZero with frd := { d.frd with cfg := c } } : Dev).each c.evtt Dev.loadEvtt).tmpNamed

/-- The end of phase 9, done or skipped: the actuators are in safe idle, the device waits for engine_go (R61). -/
def Dev.after9 (d : Dev) (cause : Nat) : Dev :=
  let d := d.each (List.range 16) Dev.bldPhase9
  let d := d.each (List.range 16) Dev.stpPhase9
  let d := d.each (List.range 64) Dev.loopPhase9
  { d with sys := { d.sys with remark9 := cause } }.showPhase 9 5 cause

/-- Phase 9 begins: what it has seen of the link is what stands now (R64). -/
def Dev.begin9 (d : Dev) : Dev :=
  (d.phaseBegin 9).modTwn fun t => { t with active9 := d.get F.TWN_STATUS.lanes_up ≠ 0, joinAt := d.sys.now8 + 1 }

def Dev.start9 (d : Dev) : Dev :=
  if d.twin then d.begin9.twnEnter 1 else (d.phaseEnd 9 4 0).after9 0

def Dev.start8 (d : Dev) : Dev :=
  if d.chansInUse.all fun n => d.blMode n = 2 then (d.phaseEnd 8 4 0).start9 else (d.phaseBegin 8).blpStart

/-- Phase 7; in Personality C it runs beside the later phases (R431). -/
def Dev.start7 (d : Dev) : Dev :=
  if d.persC then (d.phaseBegin 7).rxDetect.start8
  else if d.role.dataSource = 1 then (d.phaseEnd 7 4 0).start8
  else (d.phaseBegin 7).rngStart

/-- Phase 6, with the walk of the calibration partition (R462). -/
def Dev.start6 (d : Dev) : Dev := (d.phaseBegin 6).walkStart none

/-- Phase 5 is done: ON is reached. -/
def Dev.end5 (d : Dev) : Dev := (d.phaseEnd 5 2 0).start6

/-- The power-up of phase 5; it ends at once where every entry is on. -/
def State.run5 (s : State) : State :=
  let (s, on) := s.upRequest
  if on then { s with dev := s.dev.end5 } else s

def State.start5 (s : State) : State := ({ s with dev := s.dev.phaseBegin 5 } : State).run5

/-- The regions of Personality C (R430). -/
def Dev.romRegions (d : Dev) : Dev :=
  d.each (List.range 4) fun d s => (d.wr (R.DMA_REGr_BASE s) (s * 0x10000000)).wr (R.DMA_REGr_SIZE s) 0x10000000

/-- Phase 4: the ROM image of Personality C is there at once (R431); BOOTSRC low reads the flash (R425), high waits for a push (R55). -/
def State.start4 (s : State) : State :=
  let d := s.dev.phaseBegin 4
  let d := { d with frd := { d.frd with pushed := d.on F.SYS_STRAPS.bootsrc } }
  if d.persC then ({ s with dev := ((d.loadCfg romCfg).romRegions.put F.FRD_STATUS.state 5).phaseEnd 4 2 0 } : State).start5
  else if d.on F.SYS_STRAPS.bootsrc then { s with dev := (d.setPhase 4 5).showPhase 4 5 0 }
  else { s with dev := (d.put F.FRD_STATUS.state 1).flashNext }

/-- Phase 3: CORE powers up. -/
def Dev.start3 (d : Dev) : Dev := (((d.putBit F.PWR_DOMAINS.domains 0 true).put F.PWR_STATE.state 1).tmpInit).phaseBegin 3

/-! ### Phases 1 and 2 (R59, R60) -/

/-- PHASE1_START. -/
def Dev.phase1Start (d : Dev) : Dev :=
  if !d.sys.inReset then d
  else ({ d with sys := { d.sys with inReset := false, porst8 := d.sys.now8 } } : Dev).phaseRun 1

/-- STRAP_SAMPLE: 4 µs after phase 2 began. -/
def Dev.strapSample (d : Dev) (pers twsel bootsrc : Bool) : Dev :=
  if d.phaseSt 2 ≠ 1 then d
  else
    let d := d.advance8To (d.phaseAt 2 + 500)
    let d := ((d.putB F.SYS_STRAPS.pers pers).putB F.SYS_STRAPS.twsel twsel).putB F.SYS_STRAPS.bootsrc bootsrc
    (d.phaseNote 2 2).start3

/-! ### Phases 10 to 12 -/

/-- The polygon axes (R61). -/
def Dev.polygons (d : Dev) : List Nat := (d.cfg.axes.filter fun c => c.axis < 16 && c.role = 1).map Axis.axis

/-- A polygon axis is at speed at its runtime target, and its channels are in phase; one that no channel names needs
only to be at speed (R277). -/
def Dev.polygonOk (d : Dev) (a : Nat) : Bool :=
  let ns := d.polygonChans a
  d.on (F.BLD_AXa_STATUS.at_speed a) && (ns.isEmpty || ((d.bldS a).runtime && ns.all fun n => d.sctSt n = 3))

/-- A slot with the ready flag is within its band. -/
def Dev.slotOk (d : Dev) (l : LoopT) : Bool := !l.ready || d.on (F.LOOP_Sk_STATUS.in_band l.slot)

/-- Phase 12 starts when phases 10 and 11 are over. -/
def Dev.start12 (d : Dev) : Dev :=
  if d.phaseOver 10 && d.phaseOver 11 && d.phaseSt 12 = 0 then d.phaseBegin 12 else d

/-- Phase 10 ends: SYS_PHASE shows phase 11. -/
def Dev.end10 (d : Dev) (st : Nat) : Dev := ((d.phaseEnd 10 st 0).showPhase 11 (d.phaseSt 11) 0).start12

/-- Phase 11 ends. -/
def Dev.end11 (d : Dev) (st : Nat) : Dev :=
  (if d.phaseSt 10 = 1 then d.phaseNote 11 st else d.phaseEnd 11 st 0).start12

/-- Phases 10 and 11 start together. -/
def Dev.start10 (d : Dev) : Dev :=
  let d := ((d.phaseUndo 12 0).phaseRun 11).phaseBegin 10
  let d := if d.polygons.isEmpty then d.end10 4 else d
  if d.cfg.loops.any LoopT.ready then d else d.end11 4

/-- engine_go at a loop slot; in Personality C a slot without a valid loop record is not enabled, and fuser_en = 0 releases it
again (R451). -/
def Dev.loopGo (d : Dev) (k : Nat) : Dev :=
  if !d.persC then d.loopCmd k 6 0
  else if !bit d.lg.loopRec k then d
  else
    let d := d.loopCmd k 6 0
    if d.on F.LG_CTRL.fuser_en then d else d.loopCmd k 2 0

/-- engine_go is accepted (R65): the host state is that of the decision vector (R389). -/
def Dev.engineGo (d : Dev) : Dev :=
  if d.vector.2 % 8 = 4 && d.phaseOver 9 && (List.range 10).all fun p => d.phaseSt p ≠ 3 then
    let d := d.setHost 0
    let d := d.each (List.range 16) Dev.bldGo
    (d.each (List.range 64) fun d k => d.loopGo k).start10
  else d.count F.SYS_BRINGUP_REJECT.count

/-! ### A phase is done (R61) -/

/-- Phase 6 ends well; `fallback` is the CRC computed over trim copy 0 when copy 1 is used (R456). -/
def State.end6 (s : State) (fallback : Option Nat) : State :=
  let d := match fallback with
    | some crc => (s.dev.report 35 (0xB0 <<< 24) crc).put F.CAL_STATUS.trim_copy 2
    | none => s.dev.put F.CAL_STATUS.trim_copy 1
  let d := ((d.put F.MEM_STATUS.trained 1).put F.MEM_STATUS.initialised 1).put F.MEM_STATUS.scrubbed 1
  { s with dev := (d.phaseEnd 6 2 0).start7, mem := {} }

/-- PHASE_COMPLETE for phase p. Phase 2 ends by the strap sample. -/
def State.phaseComplete (s : State) (p : Nat) (fallback : Option Nat) : State :=
  let d := s.dev
  let on := fun (c : Bool) (f : Dev → Dev) => if d.phaseSt p = 1 && c then { s with dev := f d } else s
  match p with
  | 1 => on true fun d => (d.phaseNote 1 2).phaseRun 2
  | 3 =>
    if d.phaseSt 3 = 1 && d.on F.CLK_STATUS.refclk_good && bit (d.get F.CLK_STATUS.locked) 0 && bit (d.get F.CLK_STATUS.locked) 1
    then ({ s with dev := d.phaseEnd 3 2 0 } : State).start4 else s
  | 5 => on (d.pwrSt = 3) Dev.end5
  | 6 => if d.phaseSt 6 = 1 && d.domOn 1 then s.end6 fallback else s
  | 7 =>
    if d.persC then on (d.rxSt = 4) fun d => d.phaseNote 7 2
    else on d.rngDone fun d => (d.phaseEnd 7 2 0).start8
  | 8 => on d.blpDone fun d => (d.phaseEnd 8 2 0).start9
  | 9 => on (d.twnSt = 3 || d.twnSt = 4) fun d => (d.phaseEnd 9 2 0).after9 0
  | 10 => on (d.polygons.all d.polygonOk) fun d => d.end10 2
  | 11 => on (d.cfg.loops.all d.slotOk) fun d => d.end11 2
  | 12 => on (bit d.sysReady 31) fun d => d.phaseEnd 12 2 0
  | _ => s

/-! ### Phase 9 ends (R64, R401) -/

/-- Phase 9 is done, where it runs. -/
def Dev.done9 (d : Dev) (cause : Nat) : Dev := if d.phaseSt 9 = 1 then (d.phaseEnd 9 2 cause).after9 cause else d

/-- ALONE with the Token, from phase 9. -/
def Dev.goAlone (d : Dev) (cause : Nat) : Dev := ((d.setLatch true).ownVectors.twnEnter 4).done9 cause

/-- Phase 9 has seen no activity: no lane has been up since it began, and so no message has arrived (R64). -/
def Dev.quiet9 (d : Dev) : Bool := d.twnSt = 1 && d.get F.TWN_STATUS.lanes_up = 0 && !d.twn.active9

/-- TWIN_SOLO_TIMEOUT: 2 s of phase 9 without activity (R64). -/
def Dev.soloTimeout (d : Dev) : Dev :=
  if !d.quiet9 || d.phaseSt 9 ≠ 1 then d
  else
    let d := d.advance8To (d.phaseAt 9 + 250000000)
    (d.reportClassOpen 1 32).goAlone 1

/-! ### A phase fails (R62, R63) -/

/-- Phases 10 to 12 fail: the actuators return to safe idle. -/
def Dev.runFailed (d : Dev) (p cause : Nat) : Dev :=
  let d := d.phaseEnd p 3 cause
  let d := d.each [10, 11, 12] fun d q => if q ≠ p && d.phaseSt q = 1 then d.phaseUndo q 0 else d
  d.setHost 4

/-- The sources of the directions of the ring that failed; where neither has, that of the direction that is not ready. -/
def Dev.ringFailed (d : Dev) : Dev :=
  let rx := d.rxSt = 6 || (d.txSt ≠ 6 && d.txSt = 4)
  let tx := d.txSt = 6 || (d.rxSt ≠ 6 && d.txSt ≠ 4)
  let d := if rx then d.reportClassOpen 3 16 else d
  if tx then d.reportClassOpen 3 17 else d

/-- The bit of the unit that owns a SYS_READY condition (R61): stated for bits 9, 11 to 16 and above. -/
def Dev.readyOwner (d : Dev) (b : Nat) : Nat :=
  match b with
  | 5 => 35 | 6 => 23 | 7 => 24 | 8 => 19 | 9 => 16 | 11 => 30 | 12 => 26 | 13 => 28 | 14 => 28 | 15 => 32
  | 10 => ((d.flt.opens.filter fun r => !r.conseq && 3 ≤ r.cls).map FRec.src).foldl min 41
  | _ => b - 16

/-- The lowest SYS_READY bit that is required and still 0. -/
def Dev.readyMissing (d : Dev) : Option Nat :=
  (((List.range 11).map (· + 5)) ++ (d.chansInUse.map (· + 16))).find? fun b =>
    !bit d.sysReady b && !(d.persC && b = 9)

/-- PHASE_TIMEOUT for phase p; `cause` and `crc` say which failure of phase 6 it is: 1 to 4 where the failure itself is found,
0x81 to 0x84 where its step has not ended within the phase's 200 ms (R61, R62). -/
def Dev.phaseTimeout (d : Dev) (p cause crc : Nat) : Dev :=
  if d.phaseSt p ≠ 1 then d
  else
    let at_ := fun (us : Nat) => d.advance8To (d.phaseAt p + us * 125)
    match p with
    | 3 =>
      let d := at_ 20000
      if !d.on F.CLK_STATUS.refclk_good then (d.reportClassOpen 3 23).phaseEnd 3 3 1
      else if !bit (d.get F.CLK_STATUS.locked) 0 then (d.reportClassOpen 3 23).phaseEnd 3 3 2
      else if !bit (d.get F.CLK_STATUS.locked) 1 then (d.reportClassOpen 3 24).phaseEnd 3 3 3
      else (d.reportClassOpen 3 31).phaseEnd 3 3 4
    | 4 =>
      -- the QSPI read; a push has its own 60 s (FRD_PUSH_TIMEOUT). The loader stays in its state, with its standing code
      -- (DESIGN CHOICE, see the assumption log)
      if d.frd.pushed then d
      else
        let d := at_ 100000
        let c := d.get F.FRD_STATUS.code
        ((d.reportClass 3 35 (0xB8 <<< 24 + c) (d.rd R.FRD_ERR_OFFSET)).post 19).phaseEnd 4 3 c
    | 6 =>
      let d := if 0x80 ≤ cause then at_ 200000 else d
      match cause % 128 with
      | 1 => (d.reportClass 3 35 (0xB3 <<< 24) crc).phaseEnd 6 3 1
      | 2 => (d.reportClassOpen 3 19).phaseEnd 6 3 2
      | 3 => (d.reportClassOpen 3 19).phaseEnd 6 3 3
      | 4 => (d.reportClassOpen 3 35).phaseEnd 6 3 4
      | _ => d
    | 7 =>
      if d.persC then d
      else
        let (d, c) := (at_ 1000000).rngTimeout
        d.ringFailed.phaseEnd 7 3 c
    | 8 =>
      let (d, mask) := (at_ 250000).blpTimeout
      d.phaseEnd 8 3 mask
    | 9 =>
      if d.twnSt = 2 && !d.on F.TWN_STATUS.time_synced then
        ((d.advance8To (d.twn.joinAt - 1 + 125000000)).reportClassOpen 3 32).phaseEnd 9 3 3
      else if d.twnSt = 2 && d.twn.join.isNone then d
      else if d.quiet9 then d.soloTimeout
      else
      let d := at_ 2000000
      (d.reportClassOpen 3 32).phaseEnd 9 3 4
    | 10 =>
      let d := at_ 60000000
      match d.polygons.filter fun a => !d.polygonOk a with
      | [] => d
      | a :: as => (d.reportClassOpen 3 26).runFailed 10 (as.foldl min a + 1)
    | 11 =>
      let d := at_ 900000000
      match sortBy (fun a b => a.slot ≤ b.slot) (d.cfg.loops.filter fun l => !d.slotOk l) with
      | [] => d
      | l :: _ =>
        let k := l.slot
        let d1 := enc 16 (d.loopS k).target * 65536 + d.cf k 0x28 47 32
        ((d.reportClass 3 29 (0x52 <<< 24 + k <<< 16 + d.get (F.LOOP_Sk_FEEDBACK.yf k)) d1).count (F.LOOP_Sk_COUNTS.saturation k)).runFailed 11 (k + 1)
    | 12 =>
      let d := at_ 120000000
      match d.readyMissing with
      | none => d
      | some b => (d.reportClassOpen 3 (d.readyOwner b)).runFailed 12 b
    | _ => d

/-- SYS_BRINGUP_CTRL.retry (R63). -/
def Dev.retry (d : Dev) : Dev :=
  if d.phaseSt 7 = 3 then (d.phaseBegin 7).rngRetry
  else if d.phaseSt 8 = 3 then (d.phaseBegin 8).blpRetry
  else if d.phaseSt 9 = 3 then d.begin9
  else d.count F.SYS_BRINGUP_REJECT.count

/-! ### Full resets (R67, R68, R70, R71) -/

/-- Set the cause of a reset, `clear` the others it clears. -/
def Dev.resetCause (d : Dev) (own : Option Nat) (lo hi : Nat) : Dev :=
  d.wr R.SYS_RESET_CAUSE (putBits (d.rd R.SYS_RESET_CAUSE) hi lo 0 ||| (match own with | some k => 2 ^ k | none => 0))

/-- PWR registers at a full reset (R348). -/
def Dev.pwrReset (d : Dev) : Dev :=
  let pin := d.get F.PWR_STATUS.pfail_pin
  let c := d.rd R.PWR_COUNTS
  let l := d.rd R.PWR_LAST_SHUTDOWN
  let d := ((d.resetRegs 0xC0000 0xD0000).wr R.PWR_COUNTS c).wr R.PWR_LAST_SHUTDOWN l
  ((d.put F.PWR_STATUS.pfail_pin pin).put F.PWR_STATE.state 0).modPwr fun x => { parkAt := x.parkAt, collapsed := x.collapsed }

/-- Bring-up restarts at phase 1 or 2. -/
def Dev.restart (d : Dev) (p : Nat) : Dev := d.pwrReset.phaseRun p

/-- The Token latch clears at a full reset or a hold-up trip (R394). -/
def Dev.dropToken (d : Dev) : Dev := d.putLatch false

/-- Everything goes off at once (R60, R345). -/
def State.allOff (s : State) : State :=
  let s := ({ s with dev := s.dev.cutOutputs } : State).coreReset
  let d := s.dev.dropToken.putBit F.PWR_DOMAINS.domains 0 false
  { s with dev := d }

/-- SEQ_ENk is released on input collapse only (R31): outside it a reset leaves the rails as they were. -/
def Dev.keepRails (d was : Dev) : Dev :=
  ((d.put F.PWR_STATUS.seq_en (was.get F.PWR_STATUS.seq_en)).put F.PWR_STATUS.pg (was.get F.PWR_STATUS.pg)).put
    F.PWR_DOMAINS.rails (was.get F.PWR_DOMAINS.rails)

/-- PORST_n goes low: a full reset. -/
def State.porst (s : State) : State :=
  let s := ({ s with dev := s.dev.takeShare } : State).allOff
  let d := (s.dev.pwrReset.keepRails s.dev).resetCause (some 1) 0 8 |>.count F.SYS_RESET_COUNT.full
  { s with dev := { d with sys := { d.sys with inReset := true } } }

/-- SYS_RESET.full_reset with its key (R71). -/
def Dev.askFull (d : Dev) (force : Bool) : Dev :=
  if !d.domOn 0 then d
  else if !force && (List.range 32).any fun k => d.shtState k = 3 then d.put F.SYS_RESET_CAUSE.full_refused 1
  else if d.sys.fullReq.contains 2 then d
  else { d with sys := { d.sys with fullReq := d.sys.fullReq ++ [2] } }

/-- A full reset at once (R68, R70, R157): the request and the watchdog are gone, own_share is taken, the outputs are cut. -/
def Dev.fullCut (d : Dev) : Dev :=
  ({ d with sys := { d.sys with fullReq := [], wdogArmed := false } } : Dev).takeShare.cutOutputs

/-- What a full reset clears before the domains go down: Token, twin lanes and transmit lanes silent, event table disarmed, sheets
abandoned. -/
def Dev.fullClear (d : Dev) : Dev :=
  let d := ((d.dropToken.put F.TWN_STATUS.lanes_up 0).put F.TWN_STATUS.state 0).put F.SYS_HOST_STATE.state 4
  let d := (if d.domOn 2 then d.txEnter 0 else d).modTwn fun t => { t with wdog := false }
  let d := (d.each d.armedEntries Dev.clearArmed).resetRegs 0x30000 0x40000
  let d := { d with sht := {}, evt := { d.evt with pend := [], armFor := [], rearm := [], due := [], deferred := [], newDis := [] } }
  let d := d.countFlight
  let d := d.each (List.range 8) fun d n => d.modCh n fun c => { c with desc := none, next := none, cur := none }
  (d.resetCause (some 2) 0 8).count F.SYS_RESET_COUNT.full

/-- FULL_RESET: it takes effect; CORE goes off when the list is down. -/
def State.fullReset (s : State) : State :=
  if s.dev.sys.fullReq.isEmpty then s
  else
    let s := ({ s with dev := s.dev.fullCut } : State).snapshot 2
    ({ s with dev := s.dev.fullClear } : State).downRequest 2

/-- CORE_OFF_HOLD_END: 1 ms after CORE went off. -/
def Dev.holdEnd (d : Dev) : Dev :=
  if d.pwrSt = 0 && d.get F.PWR_STATE.purpose = 2 && !d.sys.inReset && !d.pwr.collapsed then
    (d.advance8To (d.pwr.parkAt + 125000)).restart 2
  else d

/-- PARK_RESTART (R344): PFAIL_n has held high for pfail_return_ms. -/
def Dev.parkRestart (d : Dev) : Dev :=
  if d.pwrSt = 0 && d.get F.PWR_STATE.purpose = 3 && !d.sys.inReset && !d.pwr.collapsed then
    let d := d.advance (max 1 (d.get F.PWR_PFAIL_RETURN.pfail_return_ms) * 125000)
    let d := ((d.put F.PWR_STATUS.pfail_pin 1).resetCause none 0 8).count F.SYS_RESET_COUNT.full
    (d.restart 2).put F.PWR_STATUS.park_restart 1
  else d

/-- INPUT_COLLAPSE (R345): the hold-up monitors trip. -/
def State.collapse (s : State) : State :=
  if s.dev.sys.inReset || s.dev.pwr.collapsed then s
  else
    let s := ({ s with dev := (s.dev.latchSnap 3 false).takeShare } : State).allOff
    { s with dev := s.dev.pwrReset.modPwr fun x => { x with collapsed := true } }

/-- SUPPLY_RECOVERY (R345): 1 ms above the hold-up threshold. -/
def Dev.recover (d : Dev) : Dev :=
  if !d.pwr.collapsed then d
  else
    let d := ((d.advance 125000).resetCause none 0 8).count F.SYS_RESET_COUNT.full
    (d.restart 1).modPwr fun x => { x with collapsed := false }

/-! ### Host resets (R67-R69) -/

/-- Request a host reset by the bit of its cause. -/
def Dev.askHost (d : Dev) (k : Nat) : Dev :=
  if !d.domOn 0 || d.sys.hostReq.contains k then d else { d with sys := { d.sys with hostReq := d.sys.hostReq ++ [k] } }

/-- Interrupt status bits of every block but FLT, PWR and CLK clear. -/
def Dev.clearStatus (d : Dev) : Dev :=
  let rs := [R.EVT_STATUS, R.SHT_STATUS, R.RNG_LANE_IRQ_STATUS, R.RNG_PROTO_IRQ_STATUS, R.BLD_IRQ_STATUS,
      R.TMP_IRQ_STATUS, R.TWN_IRQ_STATUS, R.CAL_IRQ_STATUS, R.DMA_QDONE, R.DMA_QERR, R.EVT_IRQ_PEND, R.EVT_IRQ_OVERRUN]
    ++ (List.range 16).flatMap (fun a => [R.BLD_AXa_IRQ_STATUS a, R.STP_AXm_IRQ_STATUS a])
    ++ (List.range 64).map R.LOOP_Sk_IRQ_STATUS
    ++ (List.range 8).flatMap fun n => [R.CHn_SCR_IRQ_STATUS n, R.CHn_PLC_IRQ_STATUS n, R.CHn_SCT_IRQ_STATUS n,
        R.CHn_BLP_IRQ_STATUS n, R.CHn_FGT_IRQ_STATUS n]
  let d := d.each rs fun d r => d.wr r 0
  d.wr R.URG_STATUS (putBits (d.rd R.URG_STATUS) 6 0 0)

/-- Shadow copies of a group that is not committed return to the active ones. -/
def Dev.revert (d : Dev) (c : Reg) (rs : List Reg) : Dev :=
  if d.isReady c then d else d.each rs fun d r => d.wr r (d.act r)

/-- The same for a map or coefficient block in [lo, hi). -/
def Dev.revertTable (d : Dev) (c : Reg) (lo hi : Nat) : Dev :=
  if d.isReady c then d
  else
    { d with
      tbl := d.tbl.filter (fun p => p.1 < lo) ++ d.actTbl.filter (fun p => lo ≤ p.1 && p.1 < hi) ++ d.tbl.filter (fun p => hi ≤ p.1)
      tblChk := d.tblChk.dropRange lo hi }

/-- Every group and block. -/
def Dev.revertAll (d : Dev) : Dev :=
  let d := d.each (List.range 8) fun d n =>
    let d := (d.revert (R.CHn_SCR_COMMIT n) (scrGroup n)).revertTable (R.CHn_PLC_COMMIT n) (knotAddr n 0) (knotAddr n 0 + 0x2000)
    d.revert (R.CHn_PLC_COMMIT n) (plcGroup n)
  let d := d.each (List.range 16) fun d a => (d.revert (R.BLD_AXa_COMMIT a) (bldGroup a)).revert (R.STP_AXm_COMMIT a) (stpGroup a)
  d.each (List.range 64) fun d k => d.revertTable (R.LOOP_Sk_COMMIT k) (0x310000 + k * 0x100) (0x310100 + k * 0x100)

/-- Event entries and sheets at a host reset (R68, R117, R118). -/
def Dev.resetSheets (d : Dev) : Dev :=
  let kept := fun (k : Nat) => decide (d.shtState k = 3)
  let armed := d.armedEntries
  let owner := fun (i : Nat) => Store.get 0 d.evt.armFor i
  let again := armed.filterMap fun i => if owner i ≠ 0 && kept (owner i - 1) then some (i, owner i - 1) else none
  let d := { d with evt := { d.evt with pend := d.evt.pend.filter fun p => kept p.2 } }
  let d := d.each armed Dev.disarmEntry
  let d := { d with evt := { d.evt with rearm := again } }
  d.each (List.range 32) fun d k => if d.shtState k = 1 || d.shtState k = 2 then d.cancel k 0x21 0 else d

/-- Configuration space and the MSI-X table at a reset that comes from PCI Express (R67); R411 keeps the error registers. -/
def Dev.configReset (d : Dev) : Dev :=
  let e := d.rd R.SYS_CFG_HOST_ERR
  let c := d.rd R.SYS_CFG_HOST_COUNTS
  let d := (d.resetRegs 0x2000000 0x2001004).resetRegs 0x8000 0x9008
  let d := (d.wr R.SYS_CFG_HOST_ERR e).wr R.SYS_CFG_HOST_COUNTS c
  { d with host := { d.host with d3 := false } }

/-- Low halves that wait and doorbells that wait are gone; the read latches hold reset values again (R11). -/
def Dev.hostDrop (d : Dev) : Dev :=
  let d := { d with host := { d.host with bufLo := [], latchHi := [], urg := [] } }
  let d := d.modTwn fun t => { t with queue := t.queue.filter fun a => a.kind ≠ 2 }
  d.modTwn fun t => { t with wdog := false }

/-- A push in progress is abandoned (R55). -/
def Dev.pushDrop (d : Dev) : Dev :=
  let d := d.put F.SYS_BRINGUP_REJECT.count 0
  if d.get F.FRD_STATUS.state = 2 then
    ((d.put F.FRD_STATUS.state 0).put F.FRD_STATUS.code 0x18).wr R.FRD_ERR_OFFSET (d.rd R.FRD_PUSH_COUNT)
  else d

/-- What a host reset discards beside sheets and DMA. -/
def Dev.hostDiscard (d : Dev) : Dev := d.rngHostReset.clearStatus.revertAll.hostDrop.pushDrop

/-- SYS_PHASE after a host reset: phase 9 done, waiting, where phases 1 to 9 succeeded. -/
def Dev.hostPhase (d : Dev) : Dev :=
  if (List.range 9).all fun p => d.phaseOver (p + 1) || (d.persC && p = 6) then
    (((d.phaseUndo 10 0).phaseUndo 11 0).phaseUndo 12 0).showPhase 9 5 d.sys.remark9
  else d

/-- The cause, the count and the record of a host reset; one from PCI Express resets configuration space. -/
def Dev.hostCause (d : Dev) (k : Nat) : Dev :=
  let d := (d.resetCause (some k) 3 8).count F.SYS_RESET_COUNT.host
  let d := d.mark 0x08 0 (d.rd R.SYS_RESET_CAUSE) 0
  let d := if 4 ≤ k then d.configReset else d
  if d.persC then
    let slept := !d.on F.LG_CTRL.video_en
    let d := ((d.wr R.LG_CTRL R.LG_CTRL.rst).wr R.LG_IRQ_MASK 0).wr R.LG_SHEET_STAT 0
    if slept && d.rxSt = 0 then d.rxDetect else d
  else d

/-! ### The host watchdog (R73, R74) -/

/-- A kick. -/
def Dev.wdogKick (d : Dev) : Dev := { d with sys := { d.sys with wdogArmed := true, wdogKick := d.now } }

/-- What the expiry does to the host state (R73). -/
def Dev.wdogAct (d : Dev) : Dev :=
  let st := d.get F.SYS_HOST_STATE.state
  let seen := fun (d : Dev) => ((d.put F.SYS_RESET_CAUSE.orphan_seen 1).fltFlag 1).lgEvent 8
  if st = 0 then (seen d).setHost (if d.get F.SYS_HOST_STATE.in_flight = 0 then 2 else 1)
  else if st = 4 then (seen d).setHost 2
  else d

/-- HOST_WDOG_EXPIRE: host_watchdog_ms after the last kick; in a pair the Token holder alone decides (R74). -/
def Dev.wdogExpire (d : Dev) : Dev :=
  let ms := d.role.hostWdogMs
  if !d.sys.wdogArmed || ms = 0 then d
  else
    let d := d.advanceTo (d.sys.wdogKick + ms * 125000)
    let d := { d with sys := { d.sys with wdogArmed := false } }
    if d.twin && (d.twnSt = 3 || d.twnSt = 4) then
      if d.latch then d.modTwn fun t => { t with wdog := true } else d
    else d.wdogAct

/-- PWR_CMD.wake (R340): phase 5 ends where ON is reached at once. -/
def State.wakeCmd (s : State) : State :=
  let (s, on) := s.wake
  if on && s.dev.phaseSt 5 = 1 then { s with dev := s.dev.end5 } else s

/-! ### The commands -/

/-- PORST_ASSERT (R67). -/
def execPorstAssert (s : State) : Host.Outcome State Fault Refusal := .next s.porst
/-- AON_POWER_ON (R67). -/
def execAonPowerOn (s : State) : Host.Outcome State Fault Refusal :=
  .next { s with dev := { out := s.dev.out, free := s.dev.free, host := { estop := s.dev.host.estop } }, mem := {} }
/-- PHASE1_START (R60). -/
def execPhase1Start (s : State) : Host.Outcome State Fault Refusal := s.onDev Dev.phase1Start
/-- STRAP_SAMPLE (R59). -/
def execStrapSample (pers twsel bootsrc : Bool) (s : State) : Host.Outcome State Fault Refusal := s.onDev (·.strapSample pers twsel bootsrc)
/-- PHASE_COMPLETE (R61). -/
def execPhaseComplete (phase : Fin 16) (fallback : Option Word32) (s : State) : Host.Outcome State Fault Refusal :=
  .next (s.phaseComplete phase (fallback.map (·.toNat)))
/-- PHASE_TIMEOUT (R62). -/
def execPhaseTimeout (phase : Fin 16) (cause : Byte) (crc : Word32) (s : State) : Host.Outcome State Fault Refusal :=
  s.onDev (·.phaseTimeout phase cause.toNat crc.toNat)
/-- ENGINE_GO (R65). -/
def execEngineGo (s : State) : Host.Outcome State Fault Refusal := s.onDev fun d => d.agree R.SYS_BRINGUP_CTRL 1 Dev.engineGo
/-- RETRY (R63). -/
def execRetry (s : State) : Host.Outcome State Fault Refusal := s.onDev (·.reach R.SYS_BRINGUP_CTRL.off Dev.retry)
/-- SW_FULL_RESET (R71). -/
def execSwFullReset (force : Bool) (s : State) : Host.Outcome State Fault Refusal := s.onDev (·.reach R.SYS_RESET.off (·.askFull force))
/-- SW_HOST_RESET (R67). -/
def execSwHostReset (s : State) : Host.Outcome State Fault Refusal := s.onDev (·.reach R.SYS_RESET.off (·.askHost 3))
/-- PERST_ASSERT (R67); Personality C ignores PERST_n (R429). -/
def execPerstAssert (s : State) : Host.Outcome State Fault Refusal := s.onDev fun d => if d.persC then d else d.askHost 4
/-- PCIE_HOT_RESET (R67). -/
def execPcieHotReset (s : State) : Host.Outcome State Fault Refusal := s.onDev (·.askHost 5)
/-- PCIE_LINK_DOWN (R67). -/
def execPcieLinkDown (linkStatus : BitVec 16) (s : State) : Host.Outcome State Fault Refusal := s.onDev (·.linkDown linkStatus.toNat)
/-- FUNCTION_LEVEL_RESET (R67). -/
def execFunctionLevelReset (s : State) : Host.Outcome State Fault Refusal := s.onDev (·.askHost 7)
/-- FULL_RESET (R70). -/
def execFullReset (s : State) : Host.Outcome State Fault Refusal := .next s.fullReset
/-- CORE_OFF_HOLD_END (R70). -/
def execCoreOffHoldEnd (s : State) : Host.Outcome State Fault Refusal := s.onDev Dev.holdEnd
/-- HOST_WDOG_KICK (R73). -/
def execHostWdogKick (s : State) : Host.Outcome State Fault Refusal := s.onDev fun d => d.agree R.SYS_HOST_WDOG 1 Dev.wdogKick
/-- HOST_WDOG_EXPIRE (R73, R74). -/
def execHostWdogExpire (s : State) : Host.Outcome State Fault Refusal := s.onDev Dev.wdogExpire
/-- POWER_STEP_DONE (R333). -/
def execPowerStepDone (s : State) : Host.Outcome State Fault Refusal :=
  let (s, on) := s.powerStepDone
  .next (if on && s.dev.phaseSt 5 = 1 then { s with dev := s.dev.end5 } else s : State).idleCheck
/-- POWER_STEP_TIMEOUT (R334, R335). -/
def execPowerStepTimeout (s : State) : Host.Outcome State Fault Refusal :=
  let (s, on) := s.powerStepTimeout
  .next (if on && s.dev.phaseSt 5 = 1 then { s with dev := s.dev.end5 } else s : State).idleCheck
/-- WAKE (R340). -/
def execWake (s : State) : Host.Outcome State Fault Refusal :=
  .next (s.reach R.PWR_CMD.off State.wakeCmd)
/-- PARK_RESTART (R344). -/
def execParkRestart (s : State) : Host.Outcome State Fault Refusal := s.onDev Dev.parkRestart
/-- INPUT_COLLAPSE (R345). -/
def execInputCollapse (s : State) : Host.Outcome State Fault Refusal := .next s.collapse
/-- SUPPLY_RECOVERY (R345). -/
def execSupplyRecovery (s : State) : Host.Outcome State Fault Refusal := s.onDev Dev.recover

end Sys2Proof.Machine
end

