-- ==== Sys2Proof/Machine/Frd.lean ====
section
/-! DEFINITION. The Frond loader: reading, pushing, checking and distributing an image, its retained copy (R51-R56). -/

namespace Sys2Proof.Machine

def Dev.frdSt (d : Dev) : Nat := d.get F.FRD_STATUS.state
def Dev.frdReject (d : Dev) : Dev := d.count F.FRD_PUSH_REJECT.count
def Dev.modFrd (d : Dev) (f : FrdSt → FrdSt) : Dev := { d with frd := f d.frd }

/-- Phase 4 runs or waits for a push. -/
def Dev.phase4 (d : Dev) : Bool := d.phaseSt 4 = 1 || d.phaseSt 4 = 5

/-- Loader state, code and offset. -/
def Dev.frdEnter (d : Dev) (st code off : Nat) : Dev :=
  ((d.put F.FRD_STATUS.state st).put F.FRD_STATUS.code code).wr R.FRD_ERR_OFFSET off

/-- The image is rejected (R54). -/
def Dev.frdFail (d : Dev) (code off : Nat) : Dev :=
  let d := (d.frdEnter 6 code off).modFrd fun f => { f with rx := [], checked := false }
  let d := (d.reportClass 3 35 (0xB8 <<< 24 + code) off).post 19
  if d.phase4 then d.phaseEnd 4 3 code else d

/-- The header checks, once 64 bytes are there. -/
def Dev.frdHeader (d : Dev) : Dev :=
  if d.frd.checked || d.frd.rx.length < 64 then d
  else match headerFail Config.revision.toNat (d.frd.rx.map (·.toNat)) with
    | some (c, o) => d.frdFail c o
    | none => d.modFrd fun f => { f with checked := true }

/-- image_length of the image that is arriving. -/
def Dev.rxLength (d : Dev) : Nat := imageLength (d.frd.rx.map (·.toNat))

/-! ### Commands of a push (R55) -/

/-- push_start: phase 4 runs again, timed as a push from now (R61). -/
def Dev.pushStart (d : Dev) : Dev :=
  if d.frdSt = 0 || d.frdSt = 6 then
    let d := ((d.frdEnter 2 0 0xFFFFFFFF).wr R.FRD_PUSH_COUNT 0).modFrd fun f => { f with rx := [], checked := false, pushed := true }
    if d.phase4 || d.phaseSt 4 = 3 then d.phaseBegin 4 else d
  else d.frdReject

/-- FRD_PUSH_DATA. -/
def Dev.pushData (d : Dev) (v : Nat) : Dev :=
  if d.frdSt ≠ 2 then d.frdReject
  else if d.frd.checked && d.rxLength < d.frd.rx.length + 4 then d.frdFail 0x17 d.rxLength
  else
    let d := d.modFrd fun f => { f with rx := f.rx ++ (leBytes 4 v).map (BitVec.ofNat 8) }
    (d.wr R.FRD_PUSH_COUNT d.frd.rx.length).frdHeader

/-- push_done. -/
def Dev.pushDone (d : Dev) : Dev :=
  if d.frdSt ≠ 2 then d.frdReject
  else if d.frd.checked && d.frd.rx.length = d.rxLength then d.put F.FRD_STATUS.state 3
  else d.frdFail 0x16 d.frd.rx.length

/-- push_abort. SYS_PHASE goes on showing a phase 4 that runs (state 1), not one that waits: DESIGN CHOICE, see the assumption
log. -/
def Dev.pushAbort (d : Dev) : Dev :=
  if d.frdSt ≠ 2 then d.frdReject
  else (d.frdEnter 0 0x18 (d.rd R.FRD_PUSH_COUNT)).modFrd fun f => { f with rx := [], checked := false }

/-- A write of FRD_CTRL. -/
def Dev.frdCtrl (d : Dev) (v : Nat) : Dev :=
  match v % 8 with
  | 0 => d
  | 1 => d.pushStart
  | 2 => d.pushDone
  | 4 => d.pushAbort
  | _ => d.frdReject

/-! ### Reading, checking, distributing -/

/-- FRD_HEADER_COMPLETE: in READING the header arrives, once a host command on the bus has ended (R426); what is left of the image
is read next. -/
def Dev.headerComplete (d : Dev) (hdr : List Byte) : Dev :=
  if d.frdSt = 1 && !d.frd.checked && !d.host.qspiBusy then
    let d := (d.modFrd fun f => { f with rx := (hdr ++ List.replicate 64 0xFF#8).take 64 }).frdHeader
    if d.frd.checked then d.flashRead 64 (d.rxLength - 64) else d.flashNext
  else if d.frdSt = 2 then d.frdHeader
  else d

/-- QSPI_IMAGE_READ_DONE: the rest has been read; flash bytes not delivered read as erased. -/
def Dev.imageRead (d : Dev) (rest : List Byte) : Dev :=
  if d.frdSt ≠ 1 || !d.frd.checked then d
  else
    let n := d.rxLength
    let d := d.modFrd fun f => { f with rx := f.rx ++ (rest ++ List.replicate n 0xFF#8).take (n - 64) }
    (d.put F.FRD_STATUS.state 3).flashNext

/-- IMAGE_CHECK_DONE: steps 2 to 6 of R51. -/
def Dev.imageChecked (d : Dev) : Dev :=
  if d.frdSt ≠ 3 then d
  else match imageFail (d.frd.rx.map (·.toNat)) with
    | some (c, o) => d.frdFail c o
    | none => d.put F.FRD_STATUS.state 4

/-- IMAGE_DISTRIBUTED: the loader holds the image and its CORE pinnae are applied, or a table SRAM error at an entry. -/
def State.distributed (s : State) (ue : Option Nat) : State :=
  let d := s.dev
  if d.frdSt ≠ 4 then s
  else match ue with
    | some o => { s with dev := d.frdFail 0x40 o }
    | none =>
      let m := d.frd.rx.map (·.toNat)
      let c := readCfg m
      let d := d.modFrd fun f => { f with image := f.rx, rx := [], checked := false, damaged := [] }
      let d := ((d.wr R.FRD_IMAGE_SERIAL c.serial).wr R.FRD_IMAGE_CRC c.crc).wr R.FRD_PINNA_MAP (pinnaMap m)
      let d := (((d.loadCfg c).frdEnter 5 1 0xFFFFFFFF).post 19).fltShow
      if d.phase4 then ({ s with dev := d.phaseEnd 4 2 0 } : State).start5 else { s with dev := d }

/-- FRD_PUSH_TIMEOUT: 60 s after phase 3 or the latest push_start phase 4 still waits for its pushed image, whatever the state
of the loader, which stays as it is (R54, R61). -/
def Dev.pushTimeout (d : Dev) : Dev :=
  if d.phase4 && d.frd.pushed then
    let d := d.advance8To (d.phaseAt 4 + 7500000000)
    ((d.reportClass 3 35 0xB80000F0 (d.rd R.FRD_PUSH_COUNT)).post 19).phaseEnd 4 3 0xF0
  else d

/-- FRD_RETAINED_UE: an error in the retained copy at a byte offset: the pinna there is damaged (R56). -/
def Dev.retainedUe (d : Dev) (off : Nat) : Dev :=
  if d.frdSt ≠ 5 || d.frd.image.isEmpty then d
  else
    let m := d.frd.image.map (·.toNat)
    let kinds := ((dirEnts m).filter fun e => e.off ≤ off && off < e.off + e.len).map DirEnt.kind
    (d.modFrd fun f => { f with damaged := kinds ++ f.damaged }).reportOpen 35

/-! ### The commands -/

/-- FRD_PUSH_START (R55). -/
def execFrdPushStart (s : State) : Host.Outcome State Fault Refusal := s.onDev (·.reach R.FRD_CTRL.off Dev.pushStart)
/-- FRD_PUSH_DATA (R55). -/
def execFrdPushData (v : Word32) (s : State) : Host.Outcome State Fault Refusal := s.onDev (·.reach R.FRD_PUSH_DATA.off (·.pushData v.toNat))
/-- FRD_PUSH_DONE (R55). -/
def execFrdPushDone (s : State) : Host.Outcome State Fault Refusal := s.onDev (·.reach R.FRD_CTRL.off Dev.pushDone)
/-- FRD_PUSH_ABORT (R55). -/
def execFrdPushAbort (s : State) : Host.Outcome State Fault Refusal := s.onDev (·.reach R.FRD_CTRL.off Dev.pushAbort)
/-- FRD_HEADER_COMPLETE (R51). -/
def execFrdHeaderComplete (hdr : List Byte) (s : State) : Host.Outcome State Fault Refusal := s.onDev (·.headerComplete hdr)
/-- QSPI_IMAGE_READ_DONE (R55). -/
def execQspiImageReadDone (rest : List Byte) (s : State) : Host.Outcome State Fault Refusal := s.onDev (·.imageRead rest)
/-- IMAGE_CHECK_DONE (R51). -/
def execImageCheckDone (s : State) : Host.Outcome State Fault Refusal := s.onDev Dev.imageChecked
/-- IMAGE_DISTRIBUTED (R55). -/
def execImageDistributed (ue : Option Nat) (s : State) : Host.Outcome State Fault Refusal := .next (s.distributed ue)
/-- FRD_PUSH_TIMEOUT (R54). -/
def execFrdPushTimeout (s : State) : Host.Outcome State Fault Refusal := s.onDev Dev.pushTimeout
/-- FRD_RETAINED_UE (R56). -/
def execFrdRetainedUe (off : Nat) (s : State) : Host.Outcome State Fault Refusal := s.onDev (·.retainedUe off)

end Sys2Proof.Machine
end

