-- ==== Sys2Proof/Machine/Evt.lean ====
section
/-! DEFINITION. The event scheduler: slots, firings, actions, the event-table editor, encoders (R76-R101, R488, R489). -/

namespace Sys2Proof.Machine

def Dev.modEvt (d : Dev) (f : EvtSt → EvtSt) : Dev := { d with evt := f d.evt }

/-! ### Deciding a slot (R80, R86, R89) -/

/-- The trigger of a position entry and the high-water position of its encoder. -/
def entPos (lo : Nat) : Int := sext 48 lo
def Dev.hwm (d : Dev) (n : Nat) : Int := sext 48 (d.rd (R.EVT_ENCn_HWM n))

/-- Count and flag a firing that is late, or a discard. -/
def Dev.evtLate (d : Dev) : Dev := (d.count F.EVT_LATE_COUNT.count).evtFlag 1

/-- A listed entry is discarded or refused at its target (R117). -/
def Dev.listedLost (d : Dev) (k i hi : Nat) : Dev :=
  if d.shtState k = 2 then Dev.settle 600 d [(k, i)]
  else if d.shtState k = 3 then
    if entAction hi = 8 then ((d.spoil k 0x4C (entTarget hi) i).dropChan k (entTarget hi)).tryComplete k
    else d.spoil k 0x4C 0xFF i
  else d

/-- R89 discards an entry. -/
def Dev.discard (d : Dev) (i at_ : Nat) (enc : Bool) : Dev :=
  let hi := d.entHi i
  let trig := d.entLo i % 2 ^ 32
  let own := Store.get 0 d.evt.armFor i
  let d := ((d.clearArmed i).tally ⟨3, at_, b2n enc, i, 2, 0, entTag hi, i, trig, d.now⟩).evtLate
  let d := (d.report 22 (0x03 <<< 24 + i) trig).passOnAll i
  if own = 0 then d else d.listedLost (own - 1) i hi

/-- The trigger of a newly armed entry has passed at slot `first` (R89). -/
def Dev.passed (d : Dev) (i first : Nat) : Bool :=
  if entKind (d.entHi i) = 2 then entPos (d.entLo i) ≤ d.hwm (entEnc (d.entHi i)) else d.entLo i < 8 * first

/-- Judge one newly armed entry: late, discarded or as it stands. R80 and R89 give a discard no delivered time: it is ordered by the
first engine time of its slot (DESIGN CHOICE, see the assumption log). -/
def Dev.judgeNew (d : Dev) (i first : Nat) : Dev :=
  let hi := d.entHi i
  if !entArmed hi || !d.passed i first then d
  else if entLateDiscard hi then d.discard i (8 * first) (entKind hi = 2)
  else d.modEvt fun e => { e with due := e.due ++ [{ idx := i, delivered := 8 * first, late := true, enc := entKind hi = 2, hi := hi }] }

/-- The order of R80 within a slot; a pick is judged first (R109). -/
def Due.before (a b : Due) : Bool :=
  let p := fun (x : Due) => entPick x.hi && entGated x.hi
  if p a ≠ p b then p a
  else if a.delivered ≠ b.delivered then a.delivered < b.delivered
  else if a.enc ≠ b.enc then !a.enc
  else a.idx ≤ b.idx

/-- A firing of an entry with irq = 1 (R93). -/
def Dev.evtIrq (d : Dev) (v : Nat) : Dev :=
  if v < 20 then d
  else if bit (d.rd R.EVT_IRQ_PEND) v then
    (d.wr R.EVT_IRQ_OVERRUN (putBits (d.rd R.EVT_IRQ_OVERRUN) v v 1)).evtFlag 5
  else (d.wr R.EVT_IRQ_PEND (putBits (d.rd R.EVT_IRQ_PEND) v v 1)).post v

/-- The entry fires: its interrupt posted, disarmed, passed on to the oldest sheet pending (R84, R93, R107). An entry armed again
since its firing was decided has been passed on already: that arming stays. -/
def Dev.fireStart (d : Dev) (x : Due) : Dev :=
  let d := if entIrq x.hi then d.evtIrq (entVector x.hi) else d
  if d.evt.newArm.any (·.1 = x.idx) then d else (d.clearArmed x.idx).passOnAll x.idx

/-- The words with which an entry stands for the firings of this slot, where it was armed at the slot's start (R80): those of
its disarming, or those it has. -/
def Dev.slotEntries (d : Dev) : List (Nat × Nat × Nat) :=
  let off := d.evt.newDis.filterMap fun p => if p.2.1 = d.slot then some (p.1, p.2.2) else none
  let on := d.armedEntries.filter fun i => !d.evt.newArm.any (·.1 = i)
  off ++ (on.filter fun i => !off.any (·.1 = i)).map fun i => (i, d.entLo i, d.entHi i)

/-- SCHEDULER_SLOT for the slot that holds the present engine time. Firings of the slot before that nothing has dispatched wait
as deferred ones do; their entries fire now. -/
def Dev.slotBegin (d : Dev) : Dev :=
  let d := d.flushBefore d.slot
  let rest := d.evt.due
  let d := (d.modEvt fun e => { e with due := [] }).each rest Dev.fireStart
  let old := rest.zipIdx.map fun p => { p.1 with spill := 8 ≤ d.evt.dispatched + d.evt.deferred.length + p.2 }
  let new := d.evt.newArm.filter fun p => p.2 < d.slot
  let d := d.modEvt fun e => { e with
    slotAt := d.slot + 1
    deferred := e.deferred ++ old
    newArm := e.newArm.filter fun p => !(p.2 < d.slot)
    newDis := e.newDis.filter fun p => !(p.2.1 < d.slot)
    dispatched := 0 }
  let d := d.each new fun d p => d.judgeNew p.1 (p.2 + 1)
  let on := d.slotEntries.filter fun p =>
    entKind p.2.2 = 1 && p.2.1 ≤ 8 * d.slot + 7 && !d.evt.due.any (·.idx = p.1)
  let fires := on.map fun p => { idx := p.1, delivered := p.2.1, late := false, enc := false, hi := p.2.2 : Due }
  d.modEvt fun e => { e with due := sortBy Due.before (e.due ++ fires) }

/-- The strobes of the slots that are over become records. -/
def State.collect : Nat → State → State
  | 0, s => s
  | n + 1, s => if s.dev.flt.strobes.any (fun x => x.t / 8 < s.dev.slot) then State.collect n s.faultRecord else s

/-- The slot of the present engine time begins, once. -/
def State.slotRoll (s : State) : State :=
  if !s.dev.evt.running || s.dev.evt.slotAt = s.dev.slot + 1 then s
  else
    let s := State.collect s.dev.flt.strobes.length s
    { s with dev := s.dev.slotBegin }

/-- SCHEDULER_SLOT: the slot of engine time t, or the next one where that has begun already. -/
def State.schedSlot (s : State) (t : Nat) : State :=
  let cur := s.dev.slot
  let k := max (t / 8) (if s.dev.evt.slotAt = cur + 1 then cur + 1 else cur)
  ({ s with dev := s.dev.advanceTo (8 * k) } : State).slotRoll

/-! ### Actions (R83) -/

/-- A reaction of this slot has reached the unit that an action targets (R80). -/
def Dev.actionHit (d : Dev) (code target : Nat) : Bool :=
  if d.flt.hitSlot ≠ d.slot + 1 then false
  else
    let u := d.flt.hitUnits
    if 1 ≤ code && code ≤ 4 then bit u 8 || bit u (if target < 16 then 9 else 10)
    else if 5 ≤ code && code ≤ 7 then bit u 8 || bit u 11
    else (code = 8 && bit u target) || (code = 0x0A && bit u 12) || ((code = 0x0B || code = 0x0C) && bit u 13)

/-- DOUTk is assigned by PINMUX, its pin's domain is on (R56) and the outputs are not cut (R70, R343). -/
def Dev.doutOn (d : Dev) (k : Nat) : Bool :=
  !d.sys.cut && d.cfg.pins.any fun p => p.func = 2 && p.k = k && (p.group ≠ 6 || d.domOn (4 + p.index))

/-- The PINMUX entry of DOUTk inverts its level (R43, R56). -/
def Dev.doutInvert (d : Dev) (k : Nat) : Bool := d.cfg.pins.any fun p => p.func = 2 && p.k = k && p.invert

/-- The level of DOUTk's pin; none where it is released (R31, R396). -/
def Dev.doutPin (d : Dev) (k : Nat) : Option Bool :=
  if d.released || !d.doutOn k then none
  else match d.heldOut with
  | some h => some (bit h.dout k != d.doutInvert k)
  | none => some (Store.get false d.evt.dout k != d.doutInvert k)

/-- Set DOUTk to a level, or drive it for a pulse. -/
def Dev.doutSet (d : Dev) (k arg delivered : Nat) : Dev :=
  let was := Store.get false d.evt.dout k
  let ret := if Store.get 0 d.evt.pulse k = 0 then b2n was + 1 else Store.get 0 d.evt.pulse k
  let us := arg / 2
  d.modEvt fun e => { e with
    dout := Store.set false e.dout k (bit arg 0)
    pulse := Store.set 0 e.pulse k (if us = 0 then 0 else ret)
    pulseEnd := Store.set 0 e.pulseEnd k (if us = 0 then 0 else delivered + us * 125) }

/-- SHEET_MARK (R121). -/
def Dev.sheetMark (d : Dev) (arg tag : Nat) : Dev × Bool :=
  if arg < 0x10 || 0x1F < arg then (d, true)
  else match d.descOf tag with
  | none => (d, true)
  | some k =>
    let st := d.shtState k
    if st = 3 then
      let d := d.milestone arg tag 0 0xFF k 0
      (if arg = 0x10 then (d.put (F.SHT_Dd_STATE.exit_seen k) 1).tryComplete k else d, false)
    else if (st = 1 || st = 2) && arg ≠ 0x10 then (d.milestone arg tag 0 0xFF k 0, false)
    else (d, true)

/-- ARM: a gated entry is refused; an entry that fails the check stays disarmed (R85). -/
def Dev.armAction (d : Dev) (i : Nat) : Dev × Bool :=
  if 4096 ≤ i || entGated (d.entHi i) then (d, true)
  else if entArmed (d.entHi i) then (d, false)
  else
    let c := d.armCheck (d.entLo i) (d.entHi i)
    (if c = 0 then d.armEntry i else d.armRefused i c, false)

/-- DISARM. -/
def Dev.disarmAction (d : Dev) (i : Nat) : Dev × Bool :=
  if 4096 ≤ i || entGated (d.entHi i) then (d, true) else (d.disarmEntry i, false)

/-- An action at its target; true where the target refuses it. -/
def Dev.action (d : Dev) (code : Nat) (f : Firing) : Dev × Bool :=
  let t := f.target
  if d.actionHit code t then (if code = 8 then (d.startRefused t f.idx f.tag, true) else (d, true))
  else match code with
  | 0x00 => (d, false)
  | 0x01 => if t < 16 then d.bldMoveStart t f.arg else d.stpStart (t - 16) f.arg
  | 0x02 => if t < 16 then d.bldMoveStop t else (d.stpStop (t - 16), d.stpState (t - 16) = 0)
  | 0x03 => if t < 16 then d.bldMoveResume t else d.stpResume (t - 16)
  | 0x04 => d.bldSpeedSet t f.arg
  | 0x05 => d.loopRecord t f.arg
  | 0x06 => (d.loopCmd t 1 0, d.loopTurnedAway t 1)
  | 0x07 => (d.loopCmd t 2 0, d.loopTurnedAway t 2)
  | 0x08 => d.imageStart t f.idx f.tag f.delivered
  | 0x09 => if d.doutOn t then (d.doutSet t f.arg f.delivered, false) else (d, true)
  | 0x0A => d.sheetMark f.arg f.tag
  | 0x0B => d.armAction f.arg
  | 0x0C => d.disarmAction f.arg
  | _ => (d, true)

/-- The sheet that a refused firing is listed for loses it; an IMAGE_START has dealt with it at its channel. -/
def Dev.refusedListed (d : Dev) (code : Nat) (f : Firing) : Dev :=
  match d.descOf f.tag with
  | none => d
  | some k =>
    if !d.listed k f.idx then d
    else if d.shtState k = 2 then Dev.settle 600 d [(k, f.idx)]
    else if d.shtState k = 3 && code ≠ 8 then d.spoil k 0x4C 0xFF f.idx
    else d

/-- A firing reaches its target (R83, R108): pick check, action, record, flags, reports (R488). -/
def Dev.deliver (d : Dev) (code : Nat) (f : Firing) (pick late89 : Bool) : Dev :=
  let (d, turned) := if pick then match d.descOf f.tag with
      | some k => d.pick k f.delivered
      | none => (d, true)
    else (d, false)
  let (d, refused) := if turned then (d, true) else d.action code f
  let d1 := b2n refused * 2 ^ 18 + b2n f.enc * 2 ^ 17 + b2n f.late * 2 ^ 16 + f.arg
  let d := d.tally ⟨3, f.delivered, b2n f.enc, f.idx, 1, 0, f.tag, f.target <<< 24 + code <<< 16 + f.idx, d1, f.delivered⟩
  let d := if f.late then d.evtLate else d
  if refused then
    let d := (d.evtFlag 2).report 22 (0x01 <<< 24 + f.idx) d1
    if turned then d else d.refusedListed code f
  else if late89 then d.report 22 (0x02 <<< 24 + f.idx) d1
  else d

/-! ### Firing (R84, R88, R93) -/


/-- Its action is dispatched. -/
def Dev.dispatch (d : Dev) (x : Due) (late : Bool) : Dev :=
  let d := d.modEvt fun e => { e with dispatched := e.dispatched + 1 }
  d.deliver (entAction x.hi) ⟨x.idx, entTarget x.hi, entArg x.hi, entTag x.hi, x.delivered, late, x.enc⟩
    (entPick x.hi && entGated x.hi) x.late

/-- One firing of this slot: dispatched, or deferred beyond eight; a pick is judged in its slot (R109). -/
def Dev.fire (d : Dev) (x : Due) : Dev :=
  let full := 8 ≤ d.evt.dispatched + d.evt.deferred.length && !(entPick x.hi && entGated x.hi)
  let d := d.fireStart x
  if full then d.modEvt fun e => { e with deferred := e.deferred ++ [{ x with spill := true }] } else d.dispatch x x.late

/-- TIME_TRIGGER_FIRE: the next firing of the slot. -/
def Dev.timeFire (d : Dev) : Dev :=
  match d.evt.due with
  | [] => d
  | x :: rest => (d.modEvt fun e => { e with due := rest }).fire x

/-- DEFERRED_DISPATCH: the oldest firing that was deferred, late where its slot had eight before it (R88). -/
def Dev.deferredDispatch (d : Dev) : Dev :=
  match d.evt.deferred with
  | [] => d
  | x :: rest => if 8 ≤ d.evt.dispatched then d else (d.modEvt fun e => { e with deferred := rest }).dispatch x (x.late || x.spill)

/-- Fire what is due for an entry, before an operation of the same clock (R92). -/
def Dev.fireDue (d : Dev) (sel : Due → Bool) : Dev × Bool :=
  match d.evt.due.find? sel with
  | none => (d, false)
  | some x => ((d.modEvt fun e => { e with due := e.due.erase x }).fire x, true)

/-! ### EVT_EDIT (R92) -/

/-- The outcome of an operation. -/
def Dev.editResult (d : Dev) (i res check : Nat) : Dev :=
  (d.wr R.EVT_EDIT_RESULT (res <<< 24 + check <<< 16 + i)).evtFlag 0

/-- op 0. -/
def Dev.editWrite (d : Dev) (i : Nat) : Dev :=
  let (d, _) := d.fireDue fun x => x.idx = i
  let w := fun (j : Nat) => d.rd (R.EVT_EDIT_DATAj j)
  let lo := w 0 + w 1 * 2 ^ 32
  let data := w 2 + w 3 * 2 ^ 32
  let hi := data % 2 ^ 48 + bits data 61 49 * 2 ^ 49 + b2n (entGated (d.entHi i)) * 2 ^ 62
  let arm := bit data 63
  if entGated (d.entHi i) && arm then d.editResult i 2 0
  else if entArmed (d.entHi i) then d.editResult i 1 0
  else
    let c := if arm then d.armCheck lo hi else 0
    if c ≠ 0 then (d.armRefused i c).editResult i 4 c
    else
      let d := (d.putTw (16 * i) lo).putTw (16 * i + 8) hi
      (if arm then d.armEntry i else d).editResult i 0 0

/-- op 1. -/
def Dev.editArm (d : Dev) (i : Nat) : Dev :=
  let (d, _) := d.fireDue fun x => x.idx = i
  if entGated (d.entHi i) then d.editResult i 2 0
  else if entArmed (d.entHi i) then d.editResult i 0 0
  else
    let c := d.armCheck (d.entLo i) (d.entHi i)
    if c ≠ 0 then (d.armRefused i c).editResult i 4 c else (d.armEntry i).editResult i 0 0

/-- op 2. -/
def Dev.editDisarm (d : Dev) (i : Nat) : Dev :=
  let (d, fired) := d.fireDue fun x => x.idx = i
  if entGated (d.entHi i) then d.editResult i 2 0
  else (d.disarmEntry i).editResult i (if fired then 3 else 0) 0

/-- op 3. -/
def Dev.editRead (d : Dev) (i : Nat) : Dev :=
  let (d, _) := d.fireDue fun x => x.idx = i
  let d := (d.wr (R.EVT_EDIT_DATAj 0) (d.entLo i)).wr (R.EVT_EDIT_DATAj 1) (d.entLo i / 2 ^ 32)
  ((d.wr (R.EVT_EDIT_DATAj 2) (d.entHi i)).wr (R.EVT_EDIT_DATAj 3) (d.entHi i / 2 ^ 32)).editResult i 0 0

/-- A write of EVT_EDIT_CTRL. -/
def Dev.editCtrl (d : Dev) (v : Nat) : Dev :=
  let i := v % 4096
  match bits v 31 30 with
  | 0 => d.editWrite i
  | 1 => d.editArm i
  | 2 => d.editDisarm i
  | _ => d.editRead i


/-- POST_RESET_REARM (R118). -/
def Dev.rearmAll (d : Dev) : Dev :=
  let l := d.evt.rearm
  let d := d.modEvt fun e => { e with rearm := [] }
  d.each l fun d p =>
    if d.shtState p.2 = 3 then
      (d.armEntry p.1).modEvt fun e => { e with armFor := Store.set 0 e.armFor p.1 (p.2 + 1) }
    else d

/-- EVT_CAPTURE_CTRL.capture (R78). -/
def Dev.capture (d : Dev) : Dev := (d.wr R.EVT_CAPTURE_TIME d.now).wr R.EVT_CAPTURE_SECONDS (d.rd R.SYS_SECONDS)

/-- DOUT_PULSE_END. -/
def Dev.pulseOver (d : Dev) (k : Nat) : Dev :=
  let r := Store.get 0 d.evt.pulse k
  if r = 0 then d
  else (d.advanceTo (Store.get 0 d.evt.pulseEnd k)).modEvt fun e => { e with
    dout := Store.set false e.dout k (r = 2)
    pulse := Store.set 0 e.pulse k 0
    pulseEnd := Store.set 0 e.pulseEnd k 0 }

/-! ### Encoders (R95-R100) -/

def Dev.encS (d : Dev) (n : Nat) : EncSt := Store.get {} d.evt.enc n
def Dev.putEnc (d : Dev) (n : Nat) (x : EncSt) : Dev := d.modEvt fun e => { e with enc := Store.set {} e.enc n x }
def Dev.encRaw (d : Dev) (n : Nat) : Int := sext 48 (d.rd (R.EVT_ENCn_RAW n))

/-- A record under bit 39 (R489), with EVT_STATUS.enc_error where it is one. -/
def Dev.encReport (d : Dev) (n sub v d1 : Nat) : Dev := d.report 39 (sub <<< 24 + n <<< 16 + v % 65536) (d1 % 2 ^ 32)

/-- The direction of a quarter cycle from levels `x` to `y` ([1] B, [0] A): forward where A leads B. -/
def encForward (x y : Nat) : Bool := (x, y) = (0, 1) || (x, y) = (1, 3) || (x, y) = (3, 2) || (x, y) = (2, 0)

/-- New levels of the stream in use (R95, R384) at a timestamp: edges wait for their apply time; a change of both is illegal. With
CORE off nothing is taken (R25). -/
def Dev.encLevels (d : Dev) (n ts v : Nat) : Dev :=
  if !d.domOn 0 then d else
  let e := d.encS n
  let x := e.last % 4
  let y := v % 4
  let d := d.putEnc n { e with last := v % 8 }
  let add := fun (d : Dev) (kind : Nat) =>
    d.putEnc n { (d.encS n) with edges := (d.encS n).edges ++ [⟨ts, kind, max 1 (d.get (F.EVT_ENCn_CTRL.deadband n)), decide (ts + 128 < d.now)⟩] }
  let d := if x = y then d
    else if x ^^^ y = 3 then
      if d.on (F.EVT_ENCn_CTRL.enable n) then
        let d := (d.count (F.EVT_ENCn_COUNTS.illegal n)).put (F.EVT_ENCn_STATUS.illegal n) 1
        (d.evtFlag 4).encReport n 0xC0 (d.get (F.EVT_ENCn_COUNTS.illegal n)) (d.rd (R.EVT_ENCn_RAW n))
      else d
    else add d (if encForward x y = d.on (F.EVT_ENCn_CTRL.invert n) then 1 else 0)
  let z := bit v 2
  if z ≠ bit e.last 2 && z ≠ d.on (F.EVT_ENCn_CTRL.z_edge n) then add d 2 else d

/-- ENCODER_EDGE_QUALIFY: levels of this member's own A and B pins have been stable for filter_ticks + 2 ticks. An edge comes
filter_ticks + 3 ticks or more after the one before it (R95): earlier levels qualify at that time (DESIGN CHOICE, see the
assumption log). -/
def Dev.encQualify (d : Dev) (n : Nat) (a b : Bool) : Dev :=
  let e := d.encS n
  if !d.domOn 0 || d.pinFunc 4 n = 3 || (e.a = a && e.b = b) then d
  else
    let d := if e.qualAt = 0 then d else d.advanceTo (e.qualAt - 1 + d.get (F.EVT_ENCn_CTRL.filter_ticks n) + 3)
    let d := d.putEnc n { e with a := a, b := b, qualAt := d.now + 1 }
    let v := b2n e.z * 4 + b2n b * 2 + b2n a
    d.ownInput 0 n d.now v fun d => d.encLevels n d.now v

/-- The last count position in each direction. -/
def encMax : Int := 0x7FFFFFFFFFFF

/-- Counting stops in a direction (R100): 1 forward, 2 backward. -/
def Dev.encSaturate (d : Dev) (n way : Nat) : Dev :=
  let e := d.encS n
  if bit e.stop (way - 1) then d
  else
    let d := (d.putEnc n { e with stop := e.stop + way }).put (F.EVT_ENCn_STATUS.saturated n) 1
    (d.evtFlag 4).encReport n 0xC2 way (d.rd (R.EVT_ENCn_RAW n))

/-- A forward count (R97, R98); the answer holds the new high-water position where it moved. -/
def Dev.encFwd (d : Dev) (n : Nat) : Dev × Option Int :=
  if bit (d.encS n).stop 0 then (d, none)
  else
    let h := d.hwm n
    let r := d.encRaw n + 1
    let d := d.wr (R.EVT_ENCn_RAW n) (enc 64 r)
    let d := if h ≤ r then d.put (F.EVT_ENCn_STATUS.reversing n) 0 else d
    let d := if h < r then d.wr (R.EVT_ENCn_HWM n) (enc 64 r) else d
    (if r = encMax then d.encSaturate n 1 else d, if h < r then some r else none)

/-- A backward count (R97, R98). -/
def Dev.encBack (d : Dev) (n db t : Nat) : Dev :=
  if bit (d.encS n).stop 1 then d
  else
    let h := d.hwm n
    let r := d.encRaw n - 1
    let d := d.wr (R.EVT_ENCn_RAW n) (enc 64 r)
    let d := if h - r ≤ (db : Int) then d.count (F.EVT_ENCn_JITTER.count n)
      else if d.on (F.EVT_ENCn_STATUS.reversing n) then d
      else
        let d := (d.put (F.EVT_ENCn_STATUS.reversing n) 1).count (F.EVT_ENCn_COUNTS.reversals n)
        let d := (d.tally ⟨2, n, 0, 0, 4, n, 0, d.rd (R.EVT_ENCn_HWM n) % 2 ^ 32, d.rd (R.EVT_ENCn_RAW n) % 2 ^ 32, t⟩).evtFlag 3
        d.encReport n 0xC1 (d.get (F.EVT_ENCn_COUNTS.reversals n)) (d.rd (R.EVT_ENCn_HWM n))
    if r = -encMax then d.encSaturate n 2 else d

/-- A Z edge acts (R99); its record comes after a reversal of the same slot (DESIGN CHOICE, R80 is silent). -/
def Dev.encIndex (d : Dev) (n t : Nat) : Dev :=
  let d := ((d.wr (R.EVT_ENCn_INDEX_POS n) (d.rd (R.EVT_ENCn_RAW n))).wr (R.EVT_ENCn_INDEX_TIME n) t).put (F.EVT_ENCn_STATUS.index_seen n) 1
  d.tally ⟨2, n, 1, 0, 5, n, 0, d.rd (R.EVT_ENCn_RAW n) % 2 ^ 32, 0, t⟩

/-- The position entries that the high-water position of encoder n has just reached (R87). -/
def Dev.encFires (d : Dev) (n t : Nat) (old new : Int) : List Due :=
  let hit := d.slotEntries.filter fun p =>
    entKind p.2.2 = 2 && entEnc p.2.2 = n && old < entPos p.2.1 && entPos p.2.1 ≤ new
  sortBy Due.before (hit.map fun p => { idx := p.1, delivered := t, late := false, enc := true, hi := p.2.2 })

/-- Fire what an edge reached, in order. An edge that was queued after its apply time takes effect at once, and its firings are late as
R89 has them (R390). -/
def Dev.encFireAll (d : Dev) (late : Bool) (fires : List Due) : Dev :=
  if !late then fires.foldl Dev.fire d
  else fires.foldl (fun d x =>
    if entLateDiscard x.hi then d.discard x.idx (8 * d.slot) true else d.fire { x with delivered := 8 * d.slot, late := true }) d

/-- The oldest edge of encoder n takes effect at its apply time (R96). -/
def State.encApply (s : State) (n : Nat) : State :=
  if !s.dev.domOn 0 then s else
  match (s.dev.encS n).edges with
  | [] => s
  | x :: rest =>
    let d := s.dev.putEnc n { (s.dev.encS n) with edges := rest }
    let s := ({ s with dev := d.advanceTo (x.ts + 128) } : State).slotRoll
    let d := s.dev
    let d := if x.kind = 2 then d.encIndex n (x.ts + 128)
      else if !d.on (F.EVT_ENCn_CTRL.enable n) then d
      else if x.kind = 1 then d.encBack n x.deadband (x.ts + 128)
      else
        let old := d.hwm n
        match d.encFwd n with
        | (d, none) => d
        | (d, some new) => d.encFireAll x.late (d.encFires n (x.ts + 128) old new)
    { s with dev := d }

/-- ENCODER_INDEX: a Z level of this member's own pin has been stable for filter_ticks + 2 ticks; the edge waits with those of A
and B and takes effect 128 ticks later (R95, R96, R99: ENCODER_EDGE_APPLY). -/
def Dev.encZ (d : Dev) (n : Nat) (rising : Bool) : Dev :=
  let e := d.encS n
  if !d.domOn 0 || d.pinFunc 3 n ≠ 0 || e.z = rising then d
  else
    let d := if e.zAt = 0 then d else d.advanceTo (e.zAt - 1 + d.get (F.EVT_ENCn_CTRL.filter_ticks n) + 2)
    let d := d.putEnc n { e with z := rising, zAt := d.now + 1 }
    let v := b2n rising * 4 + b2n e.b * 2 + b2n e.a
    d.ownInput 0 n d.now v fun d => d.encLevels n d.now v

/-! ### A command in the slot of a pick (R69, R109) -/

/-- Apply the edges of encoder n whose apply time lies in the slot of engine time t, at most fuel of them. -/
def State.edgesIn : Nat → State → Nat → Nat → State
  | 0, s, _, _ => s
  | k + 1, s, n, t =>
    match (s.dev.encS n).edges.head? with
    | some x => if x.ts + 128 < 8 * (t / 8 + 1) then State.edgesIn k (s.encApply n) n t else s
    | none => s

/-- The due firings of a selection, one after the other. -/
def Dev.fireAll : Nat → Dev → (Due → Bool) → Dev
  | 0, d, _ => d
  | k + 1, d, sel => Dev.fireAll k (d.fireDue sel).1 sel

/-- The pick firings of the present slot are judged before a command of that slot: the slot begins, the edges that apply in it
and may fire a pick apply, due picks fire. `sel` selects by the upper word of the entry. -/
def State.pickFirst (s : State) (sel : Nat → Bool) : State :=
  let pick := fun (h : Nat) => entPick h && entGated h && sel h
  let s := s.slotRoll
  let t := s.dev.now
  let s := (List.range 4).foldl (fun s n =>
    if s.dev.armedEntries.any fun i => let h := s.dev.entHi i; pick h && entKind h = 2 && entEnc h = n
    then State.edgesIn (s.dev.encS n).edges.length s n t else s) s
  { s with dev := Dev.fireAll s.dev.evt.due.length s.dev fun x => pick x.hi }

/-- CANCEL: a pick of the sheet that fires in the same slot is judged first (R109). -/
def State.cancelCmd (s : State) (k : Nat) : State :=
  let tag := s.dev.tagOf k
  let s := if s.dev.shtState k = 2 then s.pickFirst fun h => entTag h = tag else s
  ({ s with dev := s.dev.shtCancel k } : State).idleCheck

/-- The host state after a host reset (R73). A drain goes on as DRAIN_RESET also where no sheet is past its pick; that one ends at the
next tick (DEDUCED, see the assumption log). -/
def Dev.resetHostState (d : Dev) : Nat :=
  match d.get F.SYS_HOST_STATE.state with
  | 0 => if (List.range 32).any fun j => d.shtState j = 3 then 3 else 4
  | 1 => 3
  | 3 => 3
  | _ => 4

/-- HOST_RESET (R68): the oldest request takes effect. A pick that fires in the same clock is judged first (R69). -/
def State.hostReset (s : State) : State :=
  match s.dev.sys.hostReq with
  | [] => s
  | k :: rest =>
    let s := s.pickFirst fun _ => true
    let d := s.dev
    let d := ({ d with sys := { d.sys with hostReq := rest, wdogArmed := false } } : Dev).setHost d.resetHostState
    let s := ({ s with dev := d.resetSheets } : State).dmaHostReset
    { s with dev := (s.dev.hostDiscard.hostPhase).hostCause k }

/-- EVT_ENCn_CTRL.rebase (R100). -/
def Dev.encRebase (d : Dev) (n : Nat) : Dev :=
  if d.armedEntries.any fun i => entKind (d.entHi i) = 2 && entEnc (d.entHi i) = n then
    d.put (F.EVT_ENCn_STATUS.rebase_refused n) 1
  else
    let d := ((d.wr (R.EVT_ENCn_RAW n) 0).wr (R.EVT_ENCn_HWM n) 0).put (F.EVT_ENCn_STATUS.reversing n) 0
    (d.putEnc n { (d.encS n) with stop := 0 }).put (F.EVT_ENCn_STATUS.saturated n) 0

/-- A write of EVT_ENCn_CTRL; deadband 0 leaves that field. -/
def Dev.encCtrl (d : Dev) (n v : Nat) : Dev :=
  let db := d.get (F.EVT_ENCn_CTRL.deadband n)
  let d := d.wr (R.EVT_ENCn_CTRL n) (v &&& 0xFF07000D)
  let d := if d.get (F.EVT_ENCn_CTRL.deadband n) = 0 then d.put (F.EVT_ENCn_CTRL.deadband n) db else d
  if bit v 1 then d.encRebase n else d

/-! ### The commands -/

/-- SCHEDULER_SLOT (R80). -/
def execSchedulerSlot (t : Nat) (s : State) : Host.Outcome State Fault Refusal := .next (s.schedSlot t).idleCheck
/-- TIME_TRIGGER_FIRE (R86). -/
def execTimeTriggerFire (s : State) : Host.Outcome State Fault Refusal := s.onSheets Dev.timeFire
/-- DEFERRED_DISPATCH (R88). -/
def execDeferredDispatch (s : State) : Host.Outcome State Fault Refusal := s.onSheets Dev.deferredDispatch
/-- Action NONE (R83). -/
def execNoneAction (f : Firing) (s : State) : Host.Outcome State Fault Refusal := s.onDev (·.deliver 0x00 f false false)
/-- Action MOVE_START (R83). -/
def execMoveStart (f : Firing) (s : State) : Host.Outcome State Fault Refusal := s.onDev (·.deliver 0x01 f false false)
/-- Action MOVE_STOP (R83). -/
def execMoveStop (f : Firing) (s : State) : Host.Outcome State Fault Refusal := s.onDev (·.deliver 0x02 f false false)
/-- Action MOVE_RESUME (R83). -/
def execMoveResume (f : Firing) (s : State) : Host.Outcome State Fault Refusal := s.onDev (·.deliver 0x03 f false false)
/-- Action SPEED_SET (R83, R274). -/
def execSpeedSet (f : Firing) (s : State) : Host.Outcome State Fault Refusal := s.onDev (·.deliver 0x04 f false false)
/-- Action LOOP_SETPOINT (R83, R312). -/
def execLoopSetpoint (f : Firing) (s : State) : Host.Outcome State Fault Refusal := s.onDev (·.deliver 0x05 f false false)
/-- Action LOOP_ENABLE (R83, R312). -/
def execLoopEnable (f : Firing) (s : State) : Host.Outcome State Fault Refusal := s.onDev (·.deliver 0x06 f false false)
/-- Action LOOP_RELEASE (R83, R312). -/
def execLoopRelease (f : Firing) (s : State) : Host.Outcome State Fault Refusal := s.onDev (·.deliver 0x07 f false false)
/-- Action IMAGE_START (R110). -/
def execImageStart (f : Firing) (s : State) : Host.Outcome State Fault Refusal := s.onDev (·.deliver 0x08 f false false)
/-- Action DOUT (R83). -/
def execDout (f : Firing) (s : State) : Host.Outcome State Fault Refusal := s.onDev (·.deliver 0x09 f false false)
/-- DOUT_PULSE_END (R83). -/
def execDoutPulseEnd (k : Fin 32) (s : State) : Host.Outcome State Fault Refusal := s.onDev (·.pulseOver k)
/-- Action SHEET_MARK (R121). -/
def execSheetMark (f : Firing) (s : State) : Host.Outcome State Fault Refusal := s.onSheets (·.deliver 0x0A f false false)
/-- Action ARM (R83, R85). -/
def execArm (f : Firing) (s : State) : Host.Outcome State Fault Refusal := s.onDev (·.deliver 0x0B f false false)
/-- Action DISARM (R83). -/
def execDisarm (f : Firing) (s : State) : Host.Outcome State Fault Refusal := s.onDev (·.deliver 0x0C f false false)
/-- EVT_EDIT op 0 (R92). -/
def execEditWrite (i : Fin 4096) (s : State) : Host.Outcome State Fault Refusal := s.onDev fun d => d.agree R.EVT_EDIT_CTRL i (·.editWrite i)
/-- EVT_EDIT op 1 (R92). -/
def execEditArm (i : Fin 4096) (s : State) : Host.Outcome State Fault Refusal :=
  s.onDev fun d => d.agree R.EVT_EDIT_CTRL (2 ^ 30 + i) (·.editArm i)
/-- EVT_EDIT op 2 (R92). -/
def execEditDisarm (i : Fin 4096) (s : State) : Host.Outcome State Fault Refusal :=
  s.onDev fun d => d.agree R.EVT_EDIT_CTRL (2 * 2 ^ 30 + i) (·.editDisarm i)
/-- EVT_EDIT op 3 (R92). -/
def execEditRead (i : Fin 4096) (s : State) : Host.Outcome State Fault Refusal :=
  s.onDev fun d => d.agree R.EVT_EDIT_CTRL (3 * 2 ^ 30 + i) (·.editRead i)
/-- TIME_CAPTURE (R78). -/
def execTimeCapture (s : State) : Host.Outcome State Fault Refusal :=
  s.onDev (·.reach R.EVT_CAPTURE_CTRL.off Dev.capture)
/-- TALLY_MARK (R101). -/
def execTallyMark (v : Word32) (s : State) : Host.Outcome State Fault Refusal :=
  s.onDev (·.reach R.EVT_TALLY_MARK.off (·.mark 0x0A 0 v.toNat 0))
/-- ENCODER_EDGE_QUALIFY (R95). -/
def execEncoderEdgeQualify (n : Fin 4) (a b : Bool) (s : State) : Host.Outcome State Fault Refusal := s.onDev (·.encQualify n a b)
/-- ENCODER_EDGE_APPLY (R96). -/
def execEncoderEdgeApply (n : Fin 4) (s : State) : Host.Outcome State Fault Refusal :=
  .next (s.encApply n).idleCheck
/-- ENCODER_INDEX (R99). -/
def execEncoderIndex (n : Fin 4) (rising : Bool) (s : State) : Host.Outcome State Fault Refusal := s.onDev (·.encZ n rising)
/-- ENCODER_REBASE (R100): EVT_ENCn_CTRL is written with its other fields as they are. -/
def execEncoderRebase (n : Fin 4) (s : State) : Host.Outcome State Fault Refusal :=
  s.onDev fun d => d.agree (R.EVT_ENCn_CTRL n) (d.rd (R.EVT_ENCn_CTRL n) + 2) (·.encRebase n)
/-- CANCEL (R109, R116). -/
def execSheetCancel (k : Fin 32) (s : State) : Host.Outcome State Fault Refusal :=
  .next (s.agree R.SHT_CMD (0x30000000 + k) (·.cancelCmd k))
/-- HOST_RESET (R68). -/
def execHostReset (s : State) : Host.Outcome State Fault Refusal := .next s.hostReset.idleCheck
/-- POST_RESET_REARM (R118). -/
def execPostResetRearm (s : State) : Host.Outcome State Fault Refusal := s.onDev Dev.rearmAll

end Sys2Proof.Machine
end

