-- ==== Sys2Proof/Machine/Urg.lean ====
section
/-! DEFINITION. The urgent doorbells and ESTOP_n (R421-R424), and host commands on the QSPI bus (R425-R427). -/

namespace Sys2Proof.Machine

/-- The doorbell action permit_off (R422). -/
def Dev.permitOff (d : Dev) : Dev :=
  let d := d.each (List.range 8) fun d n =>
    if d.domOn (4 + n) then
      ((d.put (F.CHn_FGT_CTRL.permit_req n) 0).modCh n fun c => { c with reqEnd := false }).gate n
    else d
  let hit := fun (n : Nat) => (List.range 32).any fun k => d.shtState k = 3 && (d.sheetChans k).contains n
  d.each ((List.range 8).filter hit) fun d n => d.dropFromSheets n 0x43 0x81

/-- A doorbell takes effect: its action bits in the order of R422; one without an action bit is refused. -/
def State.ring (s : State) (v : Nat) : State :=
  if v % 8 = 0 then { s with dev := s.dev.flagAlways R.URG_STATUS 4 1 }
  else
    let s := { s with dev := s.dev.count F.URG_COUNTS.doorbells }
    let s := if bit v 2 then s.dmaDisable else s
    let d := s.dev
    let d := if bit v 2 then d.flagAlways R.URG_STATUS 2 1 else d
    let d := if bit v 1 then d.permitOff.flagAlways R.URG_STATUS 1 1 else d
    let d := if bit v 0 then (d.engineStop 0x81).flagAlways R.URG_STATUS 0 1 else d
    ({ s with dev := d } : State).idleCheck

/-- The doorbells that the URG queue may still hold: those of the last 1 µs, within which each takes effect (R421). -/
def Dev.urgHeld (d : Dev) : List Nat := d.host.urg.filter fun t => d.sys.now8 < t + 125

/-- A doorbell arrives in the URG queue. -/
def Dev.urgArrive (d : Dev) : Dev := { d with host := { d.host with urg := d.urgHeld ++ [d.sys.now8] } }

/-- A write of URG_CMD (R421): the key, the pair's holder and its follower. -/
def State.doorbell (s : State) (v : Nat) : State :=
  if v / 2 ^ 16 ≠ 0x5547 then s
  else
  let s := { s with dev := s.dev.urgArrive }
  let d := s.dev
  if !d.twin || d.get F.TWN_STATUS.state < 2 then s.ring v
  else if d.on F.TWN_TOKEN_STATE.latch then { s with dev := d.sendAgreed 250 2 R.URG_CMD.off v }
  else { s with dev := d.twnReject.hostErr 0xA2 (hostPlace 0 R.URG_CMD.off) 388 }

/-- A doorbell that finds the URG queue full (R421). -/
def Dev.urgFull (d : Dev) (v : Nat) : Dev := d.hostErr 0xA4 0 v

/-- The record of ESTOP_n at engine time t (R423): none while one is open or waits; its details are not laid down. -/
def Dev.estopRecord (d : Dev) (t : Nat) : Dev :=
  if d.flt.opens.any (fun r => r.src = 41) || d.flt.strobes.any (fun r => r.src = 41) then d
  else
    let (a, d) := d.freeVal 32
    let (b, d) := d.freeVal 32
    d.reportAt 41 a b t

/-- ESTOP_n has been low for 4 Rhizoid samples, 250 ns (R423): the record carries the first low sample's time. -/
def Dev.estopOpen (d : Dev) : Dev :=
  if !d.host.estop then d
  else
    let t := d.now
    let d := ((d.advance 31).put F.URG_STATUS.estop_level 0).flag R.URG_STATUS R.URG_IRQ_EN 5 1
    let d := ((d.count F.URG_COUNTS.estops).setActive 41 true).estopRecord t
    let esn := ((d.flt.opens.find? fun r => r.src = 41).map fun r => r.esn + 1).getD 0
    let d := if d.armed 0x80 0 then d.each d.chansInUse fun d n => d.latchDrop n 4 41 esn else d
    let d := d.estopIlk
    if d.armed 0x80 6 then d.engineStop 0x80 else d

/-- An interlock of CHn opens (R253): 1 ESTOP_n, whose edge opens it in every channel that names it (R423), 2 the head's flag,
3 + k DINk. -/
def Dev.interlockOpen (d : Dev) (n src : Nat) : Dev :=
  match src with
  | 0 => d
  | 1 => d.estopOpen
  | 2 => d.headIlk n true
  | k + 3 => if d.dinNamed n k && k < 32 then d.dinChange k false else d

/-- ESTOP_n has been high for 1 ms (R423). -/
def Dev.estopClose (d : Dev) : Dev :=
  if d.host.estop then d
  else
    let d := d.advance 125000
    let d := { d with host := { d.host with estop := true } }
    let d := ((d.put F.URG_STATUS.estop_level 1).flag R.URG_STATUS R.URG_IRQ_EN 6 1).setActive 41 false
    (d.each (List.range 8) Dev.releaseLatches).ilkActive

/-! ### Host commands on the QSPI bus -/

/-- Byte k of the FRD_QSPI_DATA window. -/
def Dev.qspiByte (d : Dev) (k : Nat) : Nat := bits (d.rd (R.FRD_QSPI_DATA (k / 4))) (8 * (k % 4) + 7) (8 * (k % 4))

/-- A write of FRD_QSPI_CTRL: ignored while busy, refused while another owner holds the bus (R426), else the command goes out
(R427). -/
def Dev.qspiStart (d : Dev) (v : Nat) : Dev :=
  if d.on F.FRD_QSPI_STATUS.busy || !bit v 31 then d
  else if d.get F.FRD_STATUS.state = 1 || !d.cal.walks.isEmpty || d.host.qspiBusy then d.put F.FRD_QSPI_STATUS.refused 1
  else
    let d := (d.wr R.FRD_QSPI_CTRL v).put F.FRD_QSPI_STATUS.busy 1
    let dir := d.get F.FRD_QSPI_CTRL.dir
    let len := d.get F.FRD_QSPI_CTRL.len + 1
    let out := if dir = 2 then (List.range len).map d.qspiByte else []
    let addr := if d.on F.FRD_QSPI_CTRL.addr then some (d.get F.FRD_QSPI_ADDR.address) else none
    (({ d with host := { d.host with qspiBusy := true } } : Dev)).emit
      (.qspi (d.get F.FRD_QSPI_CTRL.opcode) addr (d.get F.FRD_QSPI_CTRL.dummy) (max 7 (d.get F.FRD_QSPI_CFG.div)) (d.on F.FRD_QSPI_CTRL.quad)
        out (if dir = 1 || dir = 2 then len else 0))

/-- The command on the bus ends (R426, R427): the owner that waits reads next; read data lands in the window, but a full reset since
then has dropped the result. -/
def Dev.qspiDone (d : Dev) (data : List Byte) : Dev :=
  if !d.host.qspiBusy then d
  else
    let d := ({ d with host := { d.host with qspiBusy := false } } : Dev).flashNext
    if !d.on F.FRD_QSPI_STATUS.busy then d
    else
      let len := d.get F.FRD_QSPI_CTRL.len + 1
      let got := if d.get F.FRD_QSPI_CTRL.dir = 1 then (List.range len).map fun k => (data[k]?.map (·.toNat)).getD 0xFF else []
      let d := d.each got.zipIdx fun d p =>
        let r := R.FRD_QSPI_DATA (p.2 / 4)
        d.wr r (putBits (d.rd r) (8 * (p.2 % 4) + 7) (8 * (p.2 % 4)) p.1)
      (((d.put F.FRD_QSPI_STATUS.busy 0).countW F.FRD_QSPI_STATUS.count).put F.FRD_QSPI_STATUS.done 1).post 19

/-! ### The commands -/

/-- INTERLOCK_OPEN (R253). -/
def execInterlockOpen (n : Fin 8) (src : Nat) (s : State) : Host.Outcome State Fault Refusal := s.onSheets (·.interlockOpen n src)
/-- ESTOP_OPEN (R423). -/
def execEstopOpen (s : State) : Host.Outcome State Fault Refusal := s.onSheets Dev.estopOpen
/-- ESTOP_CLOSE (R423). -/
def execEstopClose (s : State) : Host.Outcome State Fault Refusal := s.onDev Dev.estopClose
/-- A doorbell with dma_halt (R422). -/
def execUrgDmaHalt (s : State) : Host.Outcome State Fault Refusal := .next (s.reach R.URG_CMD.off (·.doorbell 0x55470004))
/-- A doorbell with permit_off (R422). -/
def execUrgPermitOff (s : State) : Host.Outcome State Fault Refusal :=
  .next (s.reach R.URG_CMD.off (·.doorbell 0x55470002))
/-- A doorbell with engine_stop (R422). -/
def execUrgEngineStop (s : State) : Host.Outcome State Fault Refusal :=
  .next (s.reach R.URG_CMD.off (·.doorbell 0x55470001))
/-- A doorbell that finds the queue full, which it can only where four others arrived within the last 1 µs (R421), or one with no
action bit (R422). -/
def execUrgDoorbellRefused (v : Word32) (full : Bool) (s : State) : Host.Outcome State Fault Refusal :=
  .next (s.reach R.URG_CMD.off fun s =>
    if v.toNat / 2 ^ 16 ≠ 0x5547 then s
    else if full then (if 4 ≤ s.dev.urgHeld.length then { s with dev := s.dev.urgFull v.toNat } else s.doorbell v.toNat)
    else s.doorbell (v.toNat / 8 * 8))
/-- A write of FRD_QSPI_CTRL (R427). -/
def execQspiCommand (v : Word32) (s : State) : Host.Outcome State Fault Refusal := s.onDev (·.reach R.FRD_QSPI_CTRL.off (·.qspiStart v.toNat))
/-- A host command on the bus ends (R427). -/
def execQspiCommandDone (data : List Byte) (s : State) : Host.Outcome State Fault Refusal := s.onDev (·.qspiDone data)

end Sys2Proof.Machine
end

