-- ==== Sys2Proof/Machine/Twc.lean ====
section
/-! DEFINITION. What the Token holder of a pair starts: Turns (R398), and epochs of staged storage (R399, R400); staged
blocks, the recorded inputs of a take-over (R390, R397). -/

namespace Sys2Proof.Machine

/-! ### Turns (R398) -/

/-- Announce a Turn of a kind at t_h: 1 scheduled, 2 requested, 3 forced. -/
def Dev.turnBegin (d : Dev) (th kind : Nat) : Dev := (d.sendTwin 0x04 [th]).modTwn fun t => { t with turn := some (th, kind) }

/-- This member may start a Turn now: it holds the Token in LOCKSTEP and no Turn is under way. -/
def Dev.mayTurn (d : Dev) : Bool := d.latch && d.twnSt = 3 && d.twn.turn.isNone

/-- TWN_CMD.turn: refused on the follower and while the partner is unfit. -/
def Dev.turnAsk (d : Dev) : Dev :=
  if d.mayTurn && d.partnerFit then d.turnBegin (d.now + d.agreeTicks) 2 else d.twnReject

/-- A holder that is unfit beside a fit partner forces a Turn. -/
def Dev.turnForce (d : Dev) : Dev :=
  if d.mayTurn && !d.fit && d.partnerFit then d.turnBegin (d.now + 500) 3 else d

/-- SCHEDULED_TURN: announced 4 µs ahead; skipped and counted beside an unfit partner. On the follower the time passes without a TURN:
its interval restarts as the holder's does. -/
def Dev.turnSched (d : Dev) : Dev :=
  let th := d.rd R.TWN_NEXT_TURN
  let next := th + d.role.turnIntervalS * 125000000
  if th = 2 ^ 64 - 1 then d
  else if !d.latch && d.twnSt = 3 && d.twn.turn.isNone then (d.advanceTo th).wr R.TWN_NEXT_TURN next
  else if !d.mayTurn then d
  else
    let d := d.advanceTo (th - 500)
    if d.partnerFit then d.turnBegin (max th (d.now + 500)) 1
    else (d.count F.TWN_REJECT.count).wr R.TWN_NEXT_TURN next

/-! ### Staged storage (R388, R399) -/

/-- A register of a shadow group. -/
def shadowReg (off : Nat) : Bool :=
  if 0x200000 ≤ off && off < 0x300000 then
    let n := (off - 0x200000) / 0x20000
    ((scrGroup n) ++ (plcGroup n)).any fun r => r.off = off
  else if 0x81000 ≤ off && off < 0x85000 then (bldGroup ((off - 0x81000) / 0x400)).any fun r => r.off = off
  else if 0x91000 ≤ off && off < 0x95000 then (stpGroup ((off - 0x91000) / 0x400)).any fun r => r.off = off
  else false

/-- An offset inside a sheet descriptor. -/
def descOff (off : Nat) : Bool := 0x34000 ≤ off && off < 0x38000

/-- A BAR0 offset of staged storage. -/
def stagedOff (off : Nat) : Bool := shadowReg off || descOff off

/-- Every BAR2 region of R21, as (offset, bytes). -/
def tableRegions : List (Nat × Nat) :=
  [(0, 0x10000), (0x100000, 0x10000), (0x200000, 0x8000), (0x300000, 0x2000), (0x310000, 0x4000), (0x1000000, 0x400000)]

/-- The 64-byte blocks of [lo, lo + len). -/
def blocksOf (bar0 : Bool) (lo len : Nat) : List Blk := (List.range (len / 64)).map fun i => ⟨bar0, lo + 64 * i⟩

/-- Every block of staged storage: the descriptors, the shadow groups, the tables. -/
def allBlocks : List Blk :=
  (blocksOf true 0x34000 0x4000 ++ (List.range 16).flatMap (fun a => blocksOf true (0x81000 + 0x400 * a) 0x100)
    ++ (List.range 16).flatMap (fun a => blocksOf true (0x91000 + 0x400 * a) 0x100)
    ++ (List.range 8).flatMap (fun n => blocksOf true (0x200000 + 0x20000 * n) 0x8000))
    ++ tableRegions.flatMap fun p => blocksOf false p.1 p.2

/-- One 64-bit word of BAR0 as it is written: a 64-bit register or two 32-bit ones. -/
def Dev.bar0Word (d : Dev) (off : Nat) : Nat :=
  match findReg off with
  | some (r, _) => if r.w = 64 then d.rd r
    else d.rd r + (match findReg (off + 4) with | some (h, _) => d.rd h | none => 0) <<< 32
  | none => (match findReg (off + 4) with | some (h, _) => if h.w = 64 then 0 else d.rd h | none => 0) <<< 32

/-- The eight words of a staged block. -/
def Dev.blkRead (d : Dev) (b : Blk) : List Nat :=
  (List.range 8).map fun i => if b.bar0 then d.bar0Word (b.off + 8 * i) else d.tw (b.off + 8 * i)

/-- A word of an adopted block reaches a table: the armed and gated bits of an event entry stay (R90, R91). -/
def Dev.tableAdopt (d : Dev) (off v : Nat) : Dev :=
  if off < 0x10000 && off % 16 = 8 then d.putTw off (putBits v 63 62 (bits (d.tw off) 63 62)) else d.putTw off v

/-- A half of an adopted block reaches a staged register. -/
def Dev.regAdopt (d : Dev) (off v : Nat) : Dev :=
  if !stagedOff off then d
  else match findReg off with
  | some (r, flds) => d.wr r (putFields flds (d.rd r) v)
  | none => d

/-- An adopted block is copied into storage (R400). -/
def Dev.blkWrite (d : Dev) (b : Blk) (ws : List Nat) : Dev :=
  d.each ws.zipIdx fun d p =>
    let off := b.off + 8 * p.2
    if !b.bar0 then d.tableAdopt off p.1
    else match findReg off with
      | some (r, _) => if r.w = 64 then d.regAdopt off p.1 else (d.regAdopt off (p.1 % 2 ^ 32)).regAdopt (off + 4) (p.1 / 2 ^ 32)
      | none => d.regAdopt (off + 4) (p.1 / 2 ^ 32)

/-! ### Epochs (R399, R400) -/

/-- The data units of an EPOCH_DATA or SNAP frame (R383). -/
def blkUnits (epoch : Nat) (b : Blk) (ws : List Nat) : List Nat := (epoch <<< 48 + b2n b.bar0 <<< 47 + b.off) :: ws

/-- The data units of EPOCH_END (R383): epoch and count, CRC, t_end, the check bytes of the three. -/
def endUnits (epoch count crc tEnd : Nat) : List Nat :=
  let us := [epoch <<< 48 + count, crc, tEnd]
  us ++ [leVal (us.map checkByte)]

/-- Show whether dirty blocks exist. -/
def Dev.showDirty (d : Dev) : Dev := d.putB F.TWN_STATUS.staged_dirty (!d.twn.dirty.isEmpty || !d.twn.sent.isEmpty)

/-- The holder runs an epoch over its dirty blocks (R399). -/
def Dev.epochBegin (d : Dev) : Dev :=
  let n := (d.get F.TWN_EPOCH.current + 1) % 65536
  let ds := d.twn.dirty.reverse
  let bs := ds.take 131072
  let d := (d.put F.TWN_EPOCH.current n).put F.TWN_STATUS.epoch_busy 1
  let frames := bs.map fun b => blkUnits n b (d.blkRead b)
  let d := d.each frames fun d us => d.sendTwin 0x05 us
  let crc := crc32c ((frames.flatten).flatMap (leBytes 8))
  let d := d.sendTwin 0x06 (endUnits n bs.length crc d.now)
  let d := d.put F.TWN_EPOCH_PROGRESS.blocks bs.length
  (d.modTwn fun t => { t with sent := bs, dirty := (ds.drop 131072).reverse, endAt := d.sys.now8 + 1, adoptAt := none }).showDirty

/-- The holder may start an epoch: it has dirty blocks, a partner that takes them, and none runs. -/
def Dev.mayEpoch (d : Dev) : Bool := d.latch && d.paired && !d.on F.TWN_STATUS.epoch_busy && !d.twn.dirty.isEmpty

/-- TWN_CMD.epoch. -/
def Dev.epochAsk (d : Dev) : Dev := if !d.latch then d.twnReject else if d.mayEpoch then d.epochBegin else d

/-- EPOCH_START: the full epoch of a donor, at once where a command waits, else 10 µs after the last staged write. -/
def Dev.epochStart (d : Dev) : Dev :=
  if d.latch && d.paired && !d.on F.TWN_STATUS.epoch_busy && d.twn.full = 1 then
    (d.modTwn fun t => { t with dirty := allBlocks.reverse }).epochBegin
  else if !d.mayEpoch then d
  else if d.twn.queue.any fun a => a.wait.isSome then d.epochBegin
  else (d.advance8To (d.twn.dirtyAt - 1 + 1250)).epochBegin

/-- An epoch is adopted on this member (R400): the commands that wait for it or an earlier one are released. -/
def Dev.epochAdopted (d : Dev) : Dev :=
  let n := d.get F.TWN_EPOCH.current
  let d := ((d.put F.TWN_EPOCH.adopted n).put F.TWN_STATUS.epoch_busy 0).twnFlag 4
  let free := fun (a : Agreed) => match a.wait with
    | some e => if (n + 65536 - e) % 65536 < 32768 then { a with wait := none } else a
    | none => a
  let full := if d.twn.full = 1 then 2 else d.twn.full
  let d := d.modTwn fun t =>
    { t with queue := t.queue.map free, adoptAt := none, endAt := 0, sent := [], rx := [], full := full }
  (d.putB F.TWN_STATUS.join_wait (full = 2)).showDirty

/-- The running epoch is discarded (R400): the holder's blocks stay dirty, the follower drops what it was sent. -/
def Dev.epochDrop (d : Dev) : Dev :=
  if !d.on F.TWN_STATUS.epoch_busy then d
  else
    let d := ((d.put F.TWN_STATUS.epoch_busy 0).count F.TWN_COUNTS.discarded).twnFlag 5
    let back := d.twn.sent.filter fun b => !d.twn.dirty.contains b
    (d.modTwn fun t => { t with dirty := t.dirty ++ back.reverse, sent := [], rx := [], endAt := 0, adoptAt := none }).showDirty

/-- A member that takes the Token drops the commands that wait on an epoch it cannot complete (R400). -/
def Dev.dropWaiting (d : Dev) : Dev :=
  match (d.twn.queue.filterMap Agreed.wait) with
  | [] => d
  | e :: es =>
    let d := d.modTwn fun t => { t with queue := t.queue.filter fun a => a.wait.isNone }
    d.twnReport 32 0x96 e (es.length + 1)

/-! ### The inputs of a take-over (R390) -/

/-- The filtered input that an input code and index name (R384). -/
def inputId (code index : Nat) : InputId :=
  let i : Fin 16 := ⟨index % 16, Nat.mod_lt _ (by decide)⟩
  match code with
  | 2 => .limf i
  | 3 => .limr i
  | _ => .din ⟨index % 32, Nat.mod_lt _ (by decide)⟩

/-- One input takes its place in the input stream, by its code (R384): timestamp, value. -/
def Dev.inputAct (d : Dev) (u : TwIn) : Dev :=
  let d := if u.code = 1 || 4 < u.code then d else d.noteLevel u.code u.index u.value
  match u.code with
  | 0 => if u.index < 4 then d.encLevels u.index u.ts u.value else d
  | 1 => if u.index < 8 then d.slotQueue u else d
  | 2 | 3 => if u.index < 16 then d.inputTaken u.code u.index u.ts (d.qualTicks (inputId u.code u.index)) (bit u.value 0) else d
  -- this member's own low level keeps its firing gate dropped (R290)
  | 4 => d.inputTaken 4 u.index u.ts (d.qualTicks (inputId 4 u.index)) (bit u.value 0 && (d.inpS (128 + u.index)).raw)
  | 5 => if u.index < 16 then d.limQueue 5 u.index u.ts 0 (bit u.value 0) else d
  | 6 =>
    let key := 6 * 32 + u.index
    let was := Store.get 0 d.twn.levels key
    let d := d.modTwn fun t => { t with levels := Store.set 0 t.levels key (u.value + 1) }
    d.when (was % 4 = 3 && u.value % 4 = 0 && u.value / 16 ≠ 0) (·.slotQueue u)
  | _ => d

/-- The level rule (R390): an input equal to the level last applied is dropped. -/
def Dev.inputStale (d : Dev) (u : TwIn) : Bool :=
  (u.code = 0 || 2 ≤ u.code && u.code ≤ 4) && Store.get 0 d.twn.levels (u.code * 32 + u.index) = u.value + 1

/-- This member's own inputs since the last one of the old source act now and are sent; at a Turn, its beam-detect slots from t_h on
(R390). -/
def Dev.replayInputs (d : Dev) (since : Nat) : Dev :=
  let l := d.twn.inputs.filter fun u => since ≤ u.ts && (u.code ≠ 1 || since = 0 || since + 64 ≤ u.ts)
  let d := d.modTwn fun t => { t with inputs := [] }
  d.each l fun d u => if d.inputStale u then d else (d.inputAct u).sendInput u.code u.index u.ts u.value

/-- The member takes the Token outside a Turn (R397): it is the input source from the last timestamp it applied. -/
def Dev.takeOver (d : Dev) : Dev := ((((d.setLatch true).ownVectors).epochDrop).replayInputs 0).dropWaiting

/-! ### Resolving a disagreement (R397) -/

/-- Record a disagreement once (R396), and beside it an absent partner that is still named (R397). -/
def Dev.disagreed (d : Dev) (absent : Bool) : Dev :=
  if d.twn.said98 then d
  else
    let d := (d.modTwn fun t => { t with said98 := true }).count F.TWN_COUNTS.disagreements
    let d := ((d.twnFlag 8).setActive 33 true).twnReport 33 0x98 d.tokenState (d.now % 2 ^ 32)
    if absent then d.twnReport 33 0x99 d.tokenState 0 else d

/-- DISAGREEMENT_RESOLVE: 2 µs of disagreement outside a Turn window. -/
def Dev.resolve (d : Dev) : Dev :=
  if !d.twin || d.twnSt < 2 || d.on F.TWN_TOKEN_STATE.agree || d.twn.disAt = 0 then d
  else
    let d := d.advance8To (d.twn.disAt - 1 + 250)
    let d := if d.twn.turnAt ≠ 0 then d.advanceTo (d.twn.turnAt - 1 + 250) else d
    let named := d.get F.TWN_TOKEN_STATE.named
    let me := d.member
    let tok := d.tokenState
    if d.twn.solo && named = 3 - me then d.disagreed true
    else
      let d := d.disagreed false
      if d.twnSt ≠ 3 && d.twnSt ≠ 4 then d
      else if named = me then (d.takeOver.count F.TWN_COUNTS.takeovers).tokenMark 3 me tok
      else if named = 3 - me then
        let d := (d.setLatch false).tokenMark 3 named tok
        if d.present && d.twnSt = 3 then d else d.twnEnter 5
      else if me ≠ d.twn.lastNamed then (d.takeOver.count F.TWN_COUNTS.takeovers).tokenMark 2 me 1
      else
        let held := d.latch
        (d.setLatch false).when (held && d.twnSt = 4) (·.twnEnter 5)

/-! ### The commands -/

/-- TWN_CMD.turn (R398). -/
def execTurnRequest (s : State) : Host.Outcome State Fault Refusal := s.onDev (·.reach R.TWN_CMD.off Dev.turnAsk)
/-- SCHEDULED_TURN (R398). -/
def execScheduledTurn (s : State) : Host.Outcome State Fault Refusal := s.onDev Dev.turnSched
/-- TWN_CMD.epoch (R399). -/
def execEpochRequest (s : State) : Host.Outcome State Fault Refusal := s.onDev (·.reach R.TWN_CMD.off Dev.epochAsk)
/-- EPOCH_START (R399). -/
def execEpochStart (s : State) : Host.Outcome State Fault Refusal := s.onDev Dev.epochStart
/-- DISAGREEMENT_RESOLVE (R397). -/
def execDisagreementResolve (s : State) : Host.Outcome State Fault Refusal := s.onDev Dev.resolve

end Sys2Proof.Machine
end

