-- ==== Sys2Proof/Machine/Write.lean ====
section
/-! DEFINITION. What a write of a register does, block by block (R8, R11-R14 and the register tables), as though written now;
which writes are staged, which are a member's own and which are agreed (R388). -/

namespace Sys2Proof.Machine

/-! ### Shadow groups (R12, R13) -/

/-- The commit register and the pending bit of the group that a shadow register belongs to. -/
def groupOfReg (off : Nat) : Option (Reg × Fld) :=
  if 0x200000 ≤ off && off < 0x300000 then
    let n := (off - 0x200000) / 0x20000
    if (scrGroup n).any fun r => r.off = off then some (R.CHn_SCR_COMMIT n, F.CHn_SCR_STATUS.shadow_pending n)
    else if (plcGroup n).any fun r => r.off = off then some (R.CHn_PLC_COMMIT n, F.CHn_PLC_STATUS.shadow_pending n)
    else none
  else if 0x81000 ≤ off && off < 0x85000 then
    let a := (off - 0x81000) / 0x400
    if (bldGroup a).any fun r => r.off = off then some (R.BLD_AXa_COMMIT a, F.BLD_AXa_STATUS.shadow_pending a) else none
  else if 0x91000 ≤ off && off < 0x95000 then
    let m := (off - 0x91000) / 0x400
    if (stpGroup m).any fun r => r.off = off then some (R.STP_AXm_COMMIT m, F.STP_AXm_STATUS.shadow_pending m) else none
  else none

/-- The pending bit of a commit register. -/
def commitOf (off : Nat) : Option Fld :=
  if 0x200000 ≤ off && off < 0x300000 then
    let n := (off - 0x200000) / 0x20000
    if off = (R.CHn_SCR_COMMIT n).off then some (F.CHn_SCR_STATUS.shadow_pending n)
    else if off = (R.CHn_PLC_COMMIT n).off then some (F.CHn_PLC_STATUS.shadow_pending n) else none
  else if 0x81000 ≤ off && off < 0x85000 then
    let a := (off - 0x81000) / 0x400
    if off = (R.BLD_AXa_COMMIT a).off then some (F.BLD_AXa_STATUS.shadow_pending a) else none
  else if 0x91000 ≤ off && off < 0x95000 then
    let m := (off - 0x91000) / 0x400
    if off = (R.STP_AXm_COMMIT m).off then some (F.STP_AXm_STATUS.shadow_pending m) else none
  else if 0xA1000 ≤ off && off < 0xA2000 then
    let k := (off - 0xA1000) / 0x40
    if off = (R.LOOP_Sk_COMMIT k).off then some (F.LOOP_Sk_STATUS.shadow_pending k) else none
  else none

/-! ### The blocks -/

/-- MSIX_UNMASK (R410): the entry is unmasked; a message that waits leaves where MSI-X can send. -/
def Dev.msixUnmask (d : Dev) (v : Nat) : Dev :=
  let d := d.put (F.MSIX_CTRL.mask v) 0
  if d.getBit F.MSIX_PBA.pending v && d.msixOn && !d.msixMasked && !d.host.d3 && !d.persC then
    (d.putBit F.MSIX_PBA.pending v false).post v
  else d

/-- The SYS block (R66) and the MSI-X table. -/
def Dev.sysTake (d : Dev) (r : Reg) (v : Nat) : Dev :=
  let off := r.off
  if 0x8000 ≤ off then
    let e := (off - 0x8000) / 16
    if e < 64 && off = (R.MSIX_CTRL e).off then (if bit v 0 then d.put (F.MSIX_CTRL.mask e) 1 else d.msixUnmask e)
    else d.hostPut r v
  else if off = R.SYS_BRINGUP_CTRL.off then
    let d := if bit v 1 then d.retry else d
    if bit v 0 then d.engineGo else d
  else if off = R.SYS_RESET.off then
    if v / 2 ^ 16 = 0x4652 then (if bit v 1 then d.askFull (bit v 2) else d)
    else if v / 2 ^ 16 = 0x4852 then (if bit v 0 then d.askHost 3 else d)
    else d.count F.SYS_BRINGUP_REJECT.count
  else if off = R.SYS_HOST_WDOG.off then (if bit v 0 then d.wdogKick else d)
  else d.hostPut r v

/-- The FRD block (R54, R427). -/
def Dev.frdTake (d : Dev) (r : Reg) (v : Nat) : Dev :=
  let off := r.off
  let busy := d.on F.FRD_QSPI_STATUS.busy
  if off = R.FRD_CTRL.off then d.frdCtrl v
  else if off = R.FRD_PUSH_DATA.off then d.pushData v
  else if off = R.FRD_QSPI_CTRL.off then d.qspiStart v
  else if busy && (off = R.FRD_QSPI_ADDR.off || (0x10200 ≤ off && off < 0x10300)) then d
  else d.hostPut r v

/-- The EVT block (R101). -/
def Dev.evtTake (d : Dev) (r : Reg) (v : Nat) : Dev :=
  let off := r.off
  let n := (off - 0x20100) / 64
  if off = R.EVT_CAPTURE_CTRL.off then (if bit v 0 then d.capture else d)
  else if off = R.EVT_TALLY_MARK.off then d.mark 0x0A 0 v 0
  else if off = R.EVT_EDIT_CTRL.off then d.editCtrl v
  else if 0x20100 ≤ off && n < 4 && off = (R.EVT_ENCn_CTRL n).off then d.encCtrl n v
  else d.hostPut r v

/-- SHT_CMD (R116, R122): op and descriptor. -/
def State.shtCmd (s : State) (v : Nat) : State :=
  let k := v % 32
  let d := s.dev
  match v / 2 ^ 28 with
  | 1 => { s with dev := d.shtOpen k }
  | 2 => { s with dev := d.shtAdmit k }
  | 3 => s.cancelCmd k
  | 4 => { s with dev := d.shtSpoil k }
  | 5 => { s with dev := d.shtRelease k }
  | _ => { s with dev := d.shtResult 2 0 0xFF k }

/-- A write of a descriptor (R103): only of RW fields and only while it is FREE, otherwise discarded and reported. -/
def Dev.descTake (d : Dev) (r : Reg) (flds : List FSpec) (v : Nat) : Dev :=
  let k := (r.off - 0x34000) / 0x200
  if d.shtState k = 0 && flds.any fun f => f.acc = .rw then d.hostPut r v
  else d.hostErr 0xA2 (hostPlace 0 r.off) 103

/-- The lane commands of RNG_LANE_CMD, from bit 0 up (R134-R137, R141). -/
def Dev.laneCmd (d : Dev) (v : Nat) : Dev :=
  let force := bit v 15
  let acts : List (Dev → Dev) := [(·.rxCmd force 1), (·.txCmd force 1), (·.rxCmd force 0), Dev.rxWake, (·.txCmd force 0), Dev.txWake,
    (·.rxCmd force 5), (·.txCmd force 5), Dev.testExit, Dev.manualDone]
  d.each acts.zipIdx fun d p => if bit v p.2 then p.1 d else d

/-- The RNG block (R141, R159). -/
def Dev.rngTake (d : Dev) (r : Reg) (v : Nat) : Dev :=
  let off := r.off
  let l := off / 64 % 8
  if off = R.RNG_LANE_CMD.off then d.laneCmd v
  else if off = (R.RNG_RXl_CHK_CTRL ((off - 0x60100) / 64)).off && off < 0x60300 then
    let l := (off - 0x60100) / 64
    let d := ((d.chkUpdate l).hostPut r v).chkUpdate l
    if bit v 7 then d.chkClear l else d
  else if off = (R.RNG_TXl_GEN_CTRL ((off - 0x60400) / 64)).off && 0x60400 ≤ off && off < 0x60600 then
    (d.hostPut r v).genSend ((off - 0x60400) / 64)
  else if off = (R.RNG_TXl_INJECT ((off - 0x60400) / 64)).off && 0x60400 ≤ off && off < 0x60600 then
    let d := d.hostPut r v
    if bit v 31 then d.inject l else d
  else if off = (R.RNG_TXl_GEN_WORD ((off - 0x60400) / 64)).off && 0x60400 ≤ off && off < 0x60600 then
    let d := d.hostPut r v
    if d.get (F.RNG_TXl_GEN_CTRL.mode l) = 6 then d.genSend l else d
  else if off = R.RNG_LANE_CFG.off then (d.hostPut r v).rateWritten
  else if off = R.RNG_NOTE_TX.off then d.sendSym 0x06 0xFF (v % 2 ^ 24)
  else d.hostPut r v

/-- The BLD block (R260-R283). Of several commands in one write the lowest bit acts first. -/
def Dev.bldTake (d : Dev) (r : Reg) (v : Nat) : Dev :=
  let a := (r.off - 0x81000) / 0x400
  if r.off < 0x81000 || 0x85000 ≤ r.off then d.hostPut r v
  else if r.off = (R.BLD_AXa_CMD a).off then
    let d := if bit v 0 then d.bldDisable a else d
    let d := if bit v 1 then d.bldEnable a else d
    if bit v 2 then d.bldClearFault a else d
  else if r.off = (R.BLD_AXa_COMMIT a).off then (if bit v 0 then d.commit r (F.BLD_AXa_STATUS.shadow_pending a) else d)
  else if r.off = (R.BLD_AXa_SETPOINT a).off then d.bldSetpoint a v
  else d.hostPut r v

/-- The STP block (R303). -/
def Dev.stpTake (d : Dev) (r : Reg) (v : Nat) : Dev :=
  let m := (r.off - 0x91000) / 0x400
  if r.off < 0x91000 || 0x95000 ≤ r.off then d.hostPut r v
  else if r.off = (R.STP_AXm_CMD m).off then
    match v / 2 ^ 28 with
    | 1 => (d.stpStart m (v % 8)).1
    | 2 => d.stpStop m
    | 3 => (d.stpResume m).1
    | 4 => (d.stpHome m).1
    | 5 => d.stpEnable m
    | 6 => d.stpDisable m
    | 7 => d.stpClearFault m
    | _ => d
  else if r.off = (R.STP_AXm_COMMIT m).off then (if bit v 0 then d.commit r (F.STP_AXm_STATUS.shadow_pending m) else d)
  else d.hostPut r v

/-- The LOOP block (R319). -/
def Dev.loopTake (d : Dev) (r : Reg) (v : Nat) : Dev :=
  let k := (r.off - 0xA1000) / 0x40
  match (List.range 16).find? fun o => (R.LOOP_OUTo_CFG o).off = r.off with
  | some o => d.outCfgWrite o v
  | none =>
    if r.off < 0xA1000 || 0xA2000 ≤ r.off then d.hostPut r v
    else if r.off = (R.LOOP_Sk_CMD k).off then
      match v / 2 ^ 28 with
      | 1 => d.loopCmd k 1 0
      | 2 => d.loopCmd k 2 0
      | 3 => (d.loopRecord k (v % 8)).1
      | _ => d
    else if r.off = (R.LOOP_Sk_COMMIT k).off then (if bit v 0 then d.commit r (F.LOOP_Sk_STATUS.shadow_pending k) else d)
    else if r.off = (R.LOOP_Sk_SETPOINT k).off then d.loopSetpoint k v
    else d.hostPut r v

/-- The TMP block (R332). -/
def Dev.tmpTake (d : Dev) (r : Reg) (v : Nat) : Dev :=
  if r.off = R.TMP_CMD.off then (if bit v 0 then d.clearMax else d)
  else match (List.range 24).find? fun k => (R.TMP_Ss_CFG k).off = r.off with
  | some k => d.tmpCfg k v
  | none => d.hostPut r v

/-- The FLT block (R373, R377-R380). -/
def Dev.fltTake (d : Dev) (r : Reg) (v : Nat) : Dev :=
  if r.off = R.FLT_ACK.off then d.fltAck v
  else if r.off = R.FLT_LATCH_CTRL.off then (if bit v 0 then d.latchClear else d)
  else d.hostPut r v

/-- The TWN block (R405): TWN_CMD needs its key. -/
def Dev.twnTake (d : Dev) (r : Reg) (v : Nat) : Dev :=
  if r.off = R.TWN_CMD.off then
    if v / 2 ^ 16 ≠ 0x5457 then d
    else
      let d := if bit v 0 then d.turnAsk else d
      if bit v 1 then d.epochAsk else d
  else d.hostPut r v

/-- A channel slice: SCR, PLC, PXS, SCT, FGT, BLP. -/
def Dev.chTake (d : Dev) (r : Reg) (v : Nat) : Dev :=
  let n := (r.off - 0x200000) / 0x20000
  let off := r.off
  if off = (R.CHn_SCR_COMMIT n).off then (if bit v 0 then d.commit r (F.CHn_SCR_STATUS.shadow_pending n) else d)
  else if off = (R.CHn_PLC_COMMIT n).off then (if bit v 0 then d.commit r (F.CHn_PLC_STATUS.shadow_pending n) else d)
  else if off = (R.CHn_SCR_PROBE_IN n).off then d.probeStart n v
  else if off = (R.CHn_SCT_CTRL n).off then
    (d.hostPut r (putBits v 0 0 (d.get (F.CHn_SCT_CTRL.enable n)))).sctEnable n (bit v 0)
  else if off = (R.CHn_SCT_REF_TIME n).off then d.gridWrite n r v
  else if off = (R.CHn_SCT_FACET_PERIOD n).off then d.gridWrite n r (v % 2 ^ 48)
  else if off = (R.CHn_PXS_FREQ n).off then d.rwgWrite n r v (·.freqTransfer n)
  else if off = (R.CHn_FGT_CTRL n).off then d.permitReq n (bit v 0)
  else if off = (R.CHn_FGT_CMD n).off then
    let d := if bit v 0 then d.chanDisable n (bit v 15) else d
    if bit v 1 then d.chanEnable n else d
  else if off = (R.CHn_FGT_DMO_CFG n).off then d.rwgWrite n r (v % 2 ^ 10) (·.activate r)
  else if (List.range 4).any fun c => (R.CHn_FGT_DMO_WIDTHc n c).off = off then d.rwgWrite n r v (·.activate r)
  else d.hostPut r v

/-- A register of a unit that lives in Dev alone takes a value. -/
def Dev.regTake (d : Dev) (r : Reg) (v : Nat) : Dev :=
  if 0x200000 ≤ r.off then d.chTake r v
  else match r.off / 0x10000 with
  | 0 => d.sysTake r v
  | 1 => d.frdTake r v
  | 2 => d.evtTake r v
  | 3 => if descOff r.off then (match findReg r.off with | some (_, flds) => d.descTake r flds v | none => d) else d.hostPut r v
  | 6 => d.rngTake r v
  | 7 => if r.off = R.BLK_CMD.off then d.retrain v else d.hostPut r v
  | 8 => d.bldTake r v
  | 9 => d.stpTake r v
  | 10 => d.loopTake r v
  | 11 => d.tmpTake r v
  | 13 => if r.off = R.CLK_REF_CFG.off then d.refCfg v else d.hostPut r v
  | 14 => d.fltTake r v
  | 15 => d.twnTake r v
  | 16 => let d := d.hostPut r v; if r.off = R.CAL_CTRL.off && bit v 0 then d.reload else d
  | _ => d.hostPut r v

/-- The DMA block (R173-R185). -/
def State.dmaTake (s : State) (r : Reg) (v : Nat) : State :=
  let d := s.dev
  let q := (r.off - 0x40100) / 0x40
  if r.off = R.DMA_CTRL.off then (if bit v 0 then { s with dev := d.dmaEnable } else s.dmaDisable)
  else if 0x40080 ≤ r.off && r.off < 0x40100 then { s with dev := d.regionWrite r.off v }
  else if r.off < 0x40100 || 0x40500 ≤ r.off then { s with dev := d.hostPut r v }
  else if r.off = (R.DMA_Qq_CFG q).off then
    if bit v 0 then { s with dev := d.qEnable q v }
    else if d.on (F.DMA_Qq_CFG.enable q) then s.qDisable q
    else { s with dev := d.put (F.DMA_Qq_CFG.mode q) (bits v 7 6) }
  else if r.off = (R.DMA_Qq_START q).off then { s with dev := d.dmaStart q v }
  else if r.off = (R.DMA_Qq_APPEND q).off then (if bit v 0 then { s with dev := d.dmaAppend q } else s)
  else if r.off = (R.DMA_Qq_CMD q).off then (if bit v 0 then { s with dev := d.dmaAbort q } else s)
  else { s with dev := d.hostPut r v }

/-- The PWR block (R340, R341, R349). -/
def State.pwrTake (s : State) (r : Reg) (v : Nat) : State :=
  if r.off = R.PWR_CMD.off then
    if v / 2 ^ 16 ≠ 0x5057 then s
    else
      -- of two requests in the same clock the down request wins (R337)
      if bit v 0 && (s.dev.standbyOk || !bit v 1) then s.standby
      else
        let s := if bit v 0 then s.standby else s
        if bit v 1 then s.wakeCmd else s
  else if r.off = R.PWR_CHAN_CMD.off then
    if v % 2 ^ 16 = 0 then s else s.chanSwitch (bits v 15 8) (v % 2 ^ 8) (bit v 16)
  else { s with dev := s.dev.hostPut r v }

/-- A register takes a value. -/
def State.regTake (s : State) (r : Reg) (v : Nat) : State :=
  match (if 0x200000 ≤ r.off then 0 else r.off / 0x10000) with
  | 3 => if r.off = R.SHT_CMD.off then s.shtCmd v else { s with dev := s.dev.regTake r v }
  | 4 => s.dmaTake r v
  | 12 => s.pwrTake r v
  | 17 => if r.off = R.URG_CMD.off then (if v / 2 ^ 16 = 0x5547 then s.ring v else s) else { s with dev := s.dev.hostPut r v }
  | _ => ({ s with dev := s.dev.regTake r v } : State).idleCheck

/-! ### Halves (R11) -/

/-- The low half of a 64-bit register, buffered, or as it stands. -/
def Dev.lowHalf (d : Dev) (r : Reg) : Nat :=
  let b := Store.get 0 d.host.bufLo r.off
  if b = 0 then d.rd r % 2 ^ 32 else b - 1

def Dev.modHost (d : Dev) (f : HostSt → HostSt) : Dev := { d with host := f d.host }

/-- A 32-bit write of an offset takes effect (R8, R9, R11): a 32-bit register takes it, a low half is buffered, a high half
makes the register take both. -/
def State.write32 (s : State) (off v : Nat) : State :=
  match findReg off with
  | some (r, _) =>
    if r.w = 64 then { s with dev := s.dev.modHost fun h => { h with bufLo := Store.set 0 h.bufLo off (v + 1) } }
    else s.regTake r (v % 2 ^ r.w)
  | none =>
    match (if off < 4 then none else findReg (off - 4)) with
    | some (r, _) =>
      if r.w = 64 then
        let x := v <<< 32 + s.dev.lowHalf r
        let s := { s with dev := s.dev.modHost fun h => { h with bufLo := Store.set 0 h.bufLo r.off 0 } }
        s.regTake r x
      else s
    | none => s

/-- A 64-bit write of an offset takes effect (R11): a 64-bit register takes it whole and loses its buffered half; two 32-bit
registers take their halves, the lower offset first. -/
def State.write64 (s : State) (off v : Nat) : State :=
  match findReg off with
  | some (r, _) =>
    if r.w = 64 then
      ({ s with dev := s.dev.modHost fun h => { h with bufLo := Store.set 0 h.bufLo off 0 } } : State).regTake r v
    else (s.write32 off (v % 2 ^ 32)).write32 (off + 4) (v / 2 ^ 32)
  | none => s.write32 (off + 4) (v / 2 ^ 32)

/-- A half of CHn_SCR_PROBE_IN while its probe is busy: a write is ignored (R207). -/
def Dev.probeBusyAt (d : Dev) (off : Nat) : Bool :=
  0x200000 ≤ off && off < 0x300000 && (off % 0x20000 = 0x60 || off % 0x20000 = 0x64)
    && d.on (F.CHn_SCR_STATUS.probe_busy ((off - 0x200000) / 0x20000))

/-- A write of a BAR0 offset as though written now: nothing where no block is reached (R20). -/
def State.writeNow (s : State) (off v : Nat) (wide : Bool) : State :=
  if !s.dev.domOn 0 then s
  else if !s.dev.domOn (domainOf off) then { s with dev := s.dev.hostErr 0xA1 (hostPlace 0 off) (s.dev.rd R.PWR_DOMAINS) }
  else if s.dev.probeBusyAt off then s
  else if wide then s.write64 off v else s.write32 off v

/-! ### The classes of R388 -/

/-- An interrupt-enable register. -/
def irqEnOff (off : Nat) : Bool :=
  if 0x200000 ≤ off && off < 0x300000 then
    [0x54, 0xA034, 0x4028, 0x1001C, 0xC024].contains (off % 0x20000)
  else [R.BLD_IRQ_EN.off, R.TMP_IRQ_EN.off, R.EVT_IRQ_EN.off, R.SHT_IRQ_EN.off, R.URG_IRQ_EN.off].contains off
    || (0x81000 ≤ off && off < 0x85000 && off % 0x400 = 0x78)
    || (0x91000 ≤ off && off < 0x95000 && off % 0x400 = 0x74)
    || (0xA1000 ≤ off && off < 0xA2000 && off % 0x40 = 0x24)

/-- The register that holds an offset, as its own or as its high half. -/
def regAt (off : Nat) : Option (Reg × List FSpec) :=
  match findReg off with
  | some p => some p
  | none => match (if off < 4 then none else findReg (off - 4)) with
    | some (r, f) => if r.w = 64 then some (r, f) else none
    | none => none

/-- A member register (R388). -/
def memberOff (off : Nat) : Bool :=
  (off < 0x120000 && [1, 4, 5, 6, 12, 13, 14, 15, 16].contains (off / 0x10000))
    || [R.SYS_RESET.off, R.EVT_CAPTURE_CTRL.off, R.EVT_TALLY_MARK.off].contains off
    || (0x200000 ≤ off && off < 0x300000 && (off % 0x20000 = 0x60 || off % 0x20000 = 0x64))
    || irqEnOff off
    || (match regAt off with | some (_, fs) => fs.any fun f => f.acc = .w1c | none => false)

end Sys2Proof.Machine
end

