-- ==== Sys2Proof/Machine/Twn.lean ====
section
/-! DEFINITION. The messages and input units of the twin link (R383-R386), agreed inputs (R388), Turns (R398), epochs at the
follower (R399, R400), membership (R401) and joining (R402). -/

namespace Sys2Proof.Machine

/-! ### Receiving a message (R383) -/

/-- A frame or unit of a lane that fails its check is counted (R405). -/
def Dev.laneBad (d : Dev) (l : Nat) : Dev := d.count (if l = 0 then F.TWN_LANE_COUNTS.lane0 else F.TWN_LANE_COUNTS.lane1)

/-- The link can carry something on a lane: Twin grade, LINK on, the lane up. -/
def Dev.linkOn (d : Dev) (l : Nat) : Bool := d.twin && d.domOn 2 && d.twnSt ≠ 0 && d.lane l

/-- A valid message: its number and its data units. -/
structure TwinMsg where
  mseq  : Nat
  units : List Nat
  deriving DecidableEq, Repr

/-- The reserved bits of the data units of a message kind (R383). -/
def reservedOf (kind : Nat) : List Nat :=
  match kind with
  | 1 => [0, 2 ^ 40 - 1 + 0xF000000000000]
  | 2 => [0, 0, 0, 0xFFFF000001FF0000, 0, 2 ^ 64 - 0x100 + 0x18]
  | 3 => [0, 0x0000FC000000FFFF, 0]
  | 6 => [0xFFFF00000000, 0xFFFFFFFF00000000, 0, 0]
  | 7 => [0xFFFFFFFFFFFE]
  | 8 => [2 ^ 48 - 1, 0]
  | _ => []

/-- The checks of R242 on a frame as a message of a kind with n data units. -/
def twinMsg (kind n : Nat) (fr : RingFrame) : Option TwinMsg :=
  let us := fr.units.map fun u => u.map BitVec.toNat
  let sof := us.headD []
  let body := (us.drop 1).map leVal
  match fr.fin with
  | .eof e =>
    let e := e.map BitVec.toNat
    let ok := us.all (fun u => u.length = 8) && us.length = n + 1 && sof.getD 0 0 = 0xA3 && sof.getD 1 0 = kind && (sof.drop 4).all (· = 0)
      && e.length = 8 && e.getD 0 0 = 0xB4 && leVal ((e.drop 1).take 4) = frameCrc us && (e.drop 5).all (· = 0)
      && (body.zip (reservedOf kind)).all fun p => p.1 &&& p.2 = 0
    if ok then some ⟨leVal ((sof.drop 2).take 2), body⟩ else none
  | _ => none

/-- A message arrives: checked, the first copy of its number taken, a gap in the numbers a divergence (R383, R385). -/
def Dev.twinCheck (d : Dev) (kind n : Nat) (m : TwinFrame) : Dev × Option TwinMsg :=
  if !d.linkOn m.lane then (d, none)
  else match twinMsg kind n m.frame with
  | none => (d.laneBad m.lane, none)
  | some x =>
    let next := some ((x.mseq + 1) % 65536)
    match d.twn.mseqRx with
    | none => (d.modTwn fun t => { t with mseqRx := next }, some x)
    | some e =>
      let gap := (x.mseq + 65536 - e) % 65536
      if 32768 ≤ gap then (d, none)
      else
        let d := d.modTwn fun t => { t with mseqRx := next }
        (if gap = 0 then d else d.diverged 2 x.mseq, some x)

/-- What a message that passes its checks does. -/
def Dev.twinTake (d : Dev) (kind n : Nat) (m : TwinFrame) (f : Dev → TwinMsg → Dev) : Dev :=
  match d.twinCheck kind n m with
  | (d, some x) => f d x
  | (d, none) => d

/-- This member follows a holder, or joins one: it takes the holder's inputs. -/
def Dev.takesInputs (d : Dev) : Bool := !d.latch && (d.twnSt = 2 || d.twnSt = 3)

/-- A beam-detect slot from before the last Turn, sent by the member that held the Token then (R390). -/
def Dev.oldSlot (d : Dev) (u : TwIn) : Bool :=
  d.twnSt = 3 && u.code = 1 && u.index < 8 && d.twn.turnAt ≠ 0 && u.ts + 1 < d.twn.turnAt && !d.twn.wasHolder

/-! ### Membership (R401) -/

/-- No partner takes epochs any more: nothing waits and nothing is dirty; a donor starts anew (R402). -/
def Dev.unpair (d : Dev) : Dev :=
  let d := d.epochDrop
  let d := d.modTwn fun t =>
    { t with queue := t.queue.map fun a => { a with wait := none }, dirty := [], full := 0, join := none, snap := [], joinIn := [] }
  (d.put F.TWN_STATUS.join_wait 0).showDirty

/-- A HELLO (R401): units 0 and 1. -/
def Dev.helloTake (d : Dev) (x : TwinMsg) : Dev :=
  let equal : Bool := x.units.headD 0 = d.rd R.FRD_IMAGE_CRC <<< 32 + d.rd R.FRD_IMAGE_SERIAL
  let pst := bits (x.units.getD 1 0) 55 52
  let d := d.modTwn fun t => { t with pState := pst }
  match d.twnSt with
  | 1 =>
    if !equal then (if d.phaseSt 9 = 1 then (d.reportClassOpen 3 32).phaseEnd 9 3 2 else d)
    else if pst = 1 && d.member = 1 then
      let d := (d.setLatch true).tokenMark 4 1 0
      ((d.modTwn fun t => { t with full := 1 }).twnEnter 4).done9 0
    else if pst = 1 || pst = 4 then d.twnEnter 2
    else d
  | 4 => if equal && pst = 1 && d.twn.full = 0 then d.modTwn fun t => { t with full := 1 } else d
  | _ => d

/-- PARTNER_ABSENT: 16 µs without a valid BEAT (R385, R397, R401). -/
def Dev.partnerGone (d : Dev) : Dev :=
  if !d.present then d
  else
    let d := d.advance8To (d.twn.beatAt - 1 + 2000)
    let d := (d.put F.TWN_STATUS.partner_present 0).twnFlag 6
    let d := d.twnReport 32 0x90 (d.get F.TWN_STATUS.lanes_up) (d.twn.beatTx / 8 % 2 ^ 32)
    let d := d.modTwn fun t => { t with mseqRx := none, iseqRx := none, pState := 0, pLatch := false }
    match d.twnSt with
    | 2 => d.unpair.goAlone 1
    | 3 =>
      let d := if d.latch then d
        else ((d.takeOver.modTwn fun t => { t with solo := true }).count F.TWN_COUNTS.takeovers).tokenMark 2 d.member 2
      d.unpair.twnEnter 4
    | 4 => d.unpair
    | _ => d

/-! ### BEATs (R383, R386, R389) -/

/-- BEAT_SEND: at the next multiple of 125 ticks; in TRAIN and JOINING a HELLO every 10 µs. -/
def Dev.beatSend (d : Dev) : Dev :=
  if !d.twin || d.twnSt = 0 || !d.domOn 2 || !d.evt.running then d
  else
    let t := max ((d.now + 124) / 125) (d.twn.sentAt / 125 + b2n (d.twn.sentAt ≠ 0)) * 125
    let d := d.advanceTo t
    let v4 := d.vec4
    let v5 := d.vec5 + b2n (d.latch && d.twn.wdog) <<< 5
    let h := d.health <<< 32 + d.twnSt <<< 28 + b2n d.latch <<< 27 + d.get F.TWN_TOKEN_STATE.auth_b <<< 26
      + d.get F.TWN_TOKEN_STATE.auth_a <<< 25 + d.get F.TWN_EPOCH.adopted
    let d := d.sendTwin 0x02 [8 * d.now, d.twn.beatTx, d.twn.beatRx, h, v4, v5]
    let d := d.modTwn fun x => { x with sentAt := d.now + 1 }
    let d := d.keepVector ⟨d.now, v4, v5, true, d.latch⟩
    let d := if d.latch then
        let q := if d.twn.wdog then [(⟨d.now + d.agreeTicks, 0, none, 4, 0, 0⟩ : Agreed)] else []
        d.modTwn fun x => { x with queue := x.queue ++ q, wdog := false }
      else d
    if (d.twnSt = 1 || d.twnSt = 2) && d.now % 1250 = 0 then
      d.sendTwin 0x01 [d.rd R.FRD_IMAGE_CRC <<< 32 + d.rd R.FRD_IMAGE_SERIAL,
        d.member <<< 56 + d.twnSt <<< 52 + d.get F.SYS_ID.revision <<< 40]
    else d

/-- The correction of an average takes one cycle of the time base: engine time gains 2 in it, or nothing (`extra` 0); at most one
in any 1,024 cycles (R77, R386). -/
def Dev.correct (d : Dev) (extra : Nat) : Dev :=
  if !d.evt.running || (d.twn.corrAt ≠ 0 && d.sys.now8 < d.twn.corrAt - 1 + 1024) then d
  else
    let t := d.now + 2 * extra
    ((d.modTwn fun x => { x with corrAt := d.sys.now8 + 1 }).advance 1).wr R.EVT_TIME t

/-- The average of 16 offsets, as their sum in 1/32 ns (R386): the joining member steps its engine time once; then one
correction of a tick per average, time_synced after 16 averages within 4 ns, lost after 4 beyond 8 ns. -/
def Dev.thetaAverage (d : Dev) (sum : Int) : Dev :=
  let d := d.put F.TWN_TIME.offset (enc 16 (openDiv 15 sum 32))
  let d := d.modTwn fun t => { t with thetas := [] }
  if d.twnSt = 2 && !d.twn.stepped then
    let step := (sum + 128) / 256
    let d := d.wr R.EVT_TIME ((d.now : Int) + step).toNat
    (d.modTwn fun t => { t with stepped := true }).mark 0x09 0 (enc 64 step % 2 ^ 32) (enc 64 step / 2 ^ 32)
  else
    let inside : Bool := -128 ≤ sum && sum ≤ 128
    let far : Bool := sum < -256 || 256 < sum
    let d := if 128 < sum then d.correct 1 else if sum < -128 then d.correct 0 else d
    let d := d.modTwn fun t => { t with syncN := if inside then t.syncN + 1 else 0, offN := if far then t.offN + 1 else 0 }
    let d := if 16 ≤ d.twn.syncN then d.put F.TWN_STATUS.time_synced 1 else d
    if 4 ≤ d.twn.offN && d.on F.TWN_STATUS.time_synced then (d.modTwn fun t => { t with offN := 0, syncN := 0 }).desync else d

/-- One offset of the follower or the joining member (R386): t1 to t4 in 1/8 tick, which is 1 ns. -/
def Dev.thetaTake (d : Dev) (t1 t2 t3 t4 : Nat) : Dev :=
  if !d.takesInputs || t1 = 0 then d
  else
    let th : Int := ((t2 : Int) - t1) + ((t3 : Int) - t4)
    let delay := openDiv 16 (((t4 : Int) - t1) - ((t3 : Int) - t2)) 2
    let d := d.put F.TWN_TIME.delay (enc 16 delay)
    let l := th :: d.twn.thetas
    if l.length < 16 then d.modTwn fun t => { t with thetas := l } else d.thetaAverage (l.foldl (· + ·) 0)

/-- A BEAT (R385, R386, R389, R401, R403). -/
def Dev.beatTake (d : Dev) (at8 : Nat) (x : TwinMsg) : Dev :=
  let u := fun i => x.units.getD i 0
  let t4 := 8 * d.now + at8
  let was := d.present
  let d := (d.put F.TWN_STATUS.partner_present 1).put F.TWN_PARTNER_HEALTH.health (bits (u 3) 47 32)
  let d := d.when (bit (bits (u 3) 47 32) 13) Dev.pairFree
  let d := if was then d else d.twnFlag 7
  let pst := bits (u 3) 31 28
  let d := d.modTwn fun t =>
    { t with beatAt := d.sys.now8 + 1, beatTx := u 0, beatRx := t4, pState := pst, pLatch := bit (u 3) 27 }
  let d := d.putB F.TWN_STATUS.partner_fit d.partnerFit
  let d := d.keepVector ⟨u 0 / 8, u 4, u 5, false, bit (u 3) 27⟩
  let d := if bit (u 3) 27 && bit (u 5) 5 then
      d.modTwn fun t => { t with queue := t.queue ++ [⟨u 0 / 8 + d.agreeTicks, 0, none, 4, 0, 0⟩] }
    else d
  let d := d.thetaTake (u 1) (u 2) (u 0) t4
  let d := if d.twnSt = 3 && pst ≠ 3 && 8 * d.twn.lockAt ≤ u 0 then d.unpair.twnEnter 4
    else if d.twnSt = 4 && d.twn.full ≠ 0 && (pst = 0 || pst = 5) then d.unpair else d
  d.turnForce

/-! ### Input units (R384, R385, R390) -/

/-- The engine time nearest to now that ends in the given 16 bits. -/
def Dev.nearest (d : Dev) (ts : Nat) : Nat := ((d.now : Int) + sext 16 (ts + 65536 - d.now % 65536)).toNat

/-- An input of the holder is taken (R390): at the joining member it waits for t_lock, at the follower it takes its place, and
what this member saw itself up to then is forgotten. -/
def Dev.inputFromHolder (d : Dev) (iseq : Nat) (u : TwIn) : Dev :=
  if d.twnSt = 2 then d.modTwn fun t => { t with joinIn := t.joinIn ++ [u] }
  else if d.twn.turnAt ≠ 0 && d.twn.turnNew && d.twn.turnAt - 1 ≤ u.ts then d
  else
    let d := if (u.ts + 128) / 8 < d.slot then d.diverged 1 iseq else d
    if d.twnSt ≠ 3 then d
    else (d.inputAct u).modTwn fun t => { t with
      inputs := t.inputs.filter fun v => u.ts < v.ts || (v.code = 1 && (u.code ≠ 1 || u.index ≠ v.index)) }

/-- Count an input unit of the partner (R385): more than 8 million in one second overflow the link. Seconds of engine time are taken
(DESIGN CHOICE, see the assumption log). -/
def Dev.unitRate (d : Dev) (iseq : Nat) : Dev :=
  let sec := d.now / 125000000
  let d := d.modTwn fun t => { t with secAt := sec, secN := if t.secAt = sec then t.secN + 1 else 1 }
  if d.twn.secN = 8000001 then d.diverged 3 iseq else d

/-- INPUT_UNIT. -/
def Dev.inputUnit (d : Dev) (u : TwinUnit) : Dev :=
  let b := u.bytes.map BitVec.toNat
  if !d.linkOn u.lane then d
  else if b.length ≠ 8 || b.getD 0 0 ≠ 0x99 || crc8 (b.take 7) ≠ b.getD 7 0 then d.laneBad u.lane
  else
    let iseq := b.getD 2 0
    let gap := match d.twn.iseqRx with | none => 0 | some e => (iseq + 256 - e) % 256
    if 128 ≤ gap then d
    else
      let d := d.modTwn fun t => { t with iseqRx := some ((iseq + 1) % 256) }
      let d := (if gap = 0 then d else d.diverged 2 iseq).unitRate iseq
      let u : TwIn := ⟨b.getD 1 0 / 32, b.getD 1 0 % 32, d.nearest (leVal ((b.drop 3).take 2)), leVal ((b.drop 5).take 2)⟩
      if d.oldSlot u then d.slotQueue u
      else if !d.takesInputs then d
      else d.inputFromHolder iseq u

/-! ### Agreed inputs (R388) -/

/-- A HOST message: queued for t_a. -/
def Dev.hostTake (d : Dev) (x : TwinMsg) : Dev :=
  if !d.takesInputs then d
  else
    let ta := x.units.headD 0
    let w := x.units.getD 1 0
    let e := bits w 63 48
    let d := if d.twnSt = 3 && ta / 8 < d.slot then d.diverged 1 x.mseq else d
    let a : Agreed := ⟨ta, x.mseq, if e = 0xFFFF then none else some e, bits w 41 40, bits w 39 16, x.units.getD 2 0⟩
    if d.takesInputs then d.modTwn fun t => { t with queue := t.queue ++ [a] } else d

/-- When an agreed input acts: one due in [t_j, t_lock) acts at t_lock (R402). -/
def Dev.agreedAt (d : Dev) (a : Agreed) : Nat :=
  match d.twn.join with
  | some (tj, tl) => if tj ≤ a.ta && a.ta < tl then tl else a.ta
  | none => a.ta

/-- The agreed input to apply next: of those that wait for no epoch the earliest, in the order of mseq where equal. -/
def Dev.nextAgreed (d : Dev) : Option Agreed :=
  let key := fun (a : Agreed) => max (d.agreedAt a) d.now
  (d.twn.queue.filter fun a => a.wait.isNone).foldl (fun best a =>
    match best with
    | none => some a
    | some b => if key a < key b then some a else some b) none

/-- An agreed input acts, as though written now. -/
def State.agreedAct (s : State) (a : Agreed) : State :=
  match a.kind with
  | 0 => s.writeNow a.off (if a.off = R.SYS_BRINGUP_CTRL.off then a.data % 2 else a.data % 2 ^ 32) false
  | 1 => s.writeNow a.off a.data true
  | 2 => if a.data / 2 ^ 16 = 0x5547 then s.ring a.data else s
  | 3 =>
    let src := a.off % 256
    let i := if src = 0x80 then 41 else src
    if i < 42 then ({ s with dev := s.dev.when (bit a.data 2) (·.pairHolds i) } : State).applyReactions i 0 a.data 0 0 |>.idleCheck else s
  | _ => { s with dev := s.dev.wdogAct }

/-- AGREED_INPUT_APPLY: the joining member waits for its lock. -/
def State.agreedApply (s : State) : State :=
  if s.dev.twnSt < 3 then s
  else match s.dev.nextAgreed with
  | none => s
  | some a =>
    let d := s.dev.advanceTo (s.dev.agreedAt a)
    ({ s with dev := d.modTwn fun t => { t with queue := t.queue.erase a } } : State).agreedAct a

/-! ### Turns (R398) -/

/-- A TURN message reaches the follower. -/
def Dev.turnTake (d : Dev) (x : TwinMsg) : Dev :=
  if d.latch || d.twnSt ≠ 3 then d
  else
    let th := x.units.headD 0
    let kind := if th = d.rd R.TWN_NEXT_TURN then 1 else if d.partnerFit then 2 else 3
    d.modTwn fun t => { t with turn := some (th, kind) }

/-- The Token passes at t_h. -/
def Dev.turnPass (d : Dev) : Dev :=
  match d.twn.turn with
  | none => d
  | some (th, kind) =>
    if d.twnSt ≠ 3 then d.modTwn fun t => { t with turn := none }
    else
      let d := (d.advanceTo th).modTwn fun t => { t with turn := none, turnAt := th + 1 }
      let holder := d.latch
      let d := d.modTwn fun t => { t with wasHolder := holder }
      let d := if holder then (d.setLatch false).advanceTo (th + 125)
        else
          let d := (d.modTwn fun t => { t with turnNew := true }).replayInputs (th - 64)
          ((d.advanceTo (th + 125)).setLatch true).modTwn fun t => { t with turnNew := false }
      let ti := d.role.turnIntervalS * 125000000
      let d := (d.count F.TWN_COUNTS.turns).wr R.TWN_NEXT_TURN (if ti = 0 then 2 ^ 64 - 1 else th + ti)
      d.tokenMark 1 (if holder then 3 - d.member else d.member) kind

/-! ### Epochs at the follower (R399, R400) -/

/-- The first word of block k of the staging area, the last 8 MiB of user memory: the blocks lie in it in the order received (R399;
DESIGN CHOICE, see the assumption log). -/
def stageWord (k : Nat) : Nat := (2 ^ 30 - 2 ^ 23) / 8 + 8 * k

/-- EPOCH_DATA: the header of one block, and its data for the CRC. -/
def Dev.epochDataTake (d : Dev) (x : TwinMsg) : Dev :=
  if !d.takesInputs then d
  else
    let h := x.units.headD 0
    let n := bits h 63 48
    let d := if d.on F.TWN_STATUS.epoch_busy && d.twn.rxEpoch = n then d
      else ((d.modTwn fun t => { t with rx := [], rxEpoch := n, endAt := 0, adoptAt := none }).put F.TWN_STATUS.epoch_busy 1).put
        F.TWN_EPOCH.current n
    let d := d.modTwn fun t => { t with rx := t.rx ++ [(⟨bit h 47, h % 2 ^ 47⟩, x.units.drop 1)] }
    d.put F.TWN_EPOCH_PROGRESS.blocks d.twn.rx.length

/-- EPOCH_DATA: one block into the staging area. -/
def State.epochDataTake (s : State) (x : TwinMsg) : State :=
  let s' := { s with dev := s.dev.epochDataTake x }
  let k := s'.dev.twn.rx.length - 1
  if !s.dev.takesInputs || s.dev.memx.lost || !s.dev.domOn 1 || 131072 ≤ k then s'
  else (x.units.drop 1).zipIdx.foldl (fun s p => s.writeMem (stageWord k + p.2) p.1 false) s'

/-- EPOCH_END: the closing record is decoded, count and CRC are checked, the answer goes out. -/
def Dev.epochEndTake (d : Dev) (x : TwinMsg) : Dev :=
  if !d.takesInputs then d
  else
    let chk := leBytes 8 (x.units.getD 3 0)
    let dec := ((x.units.take 3).zipIdx).map fun p => decodeWord p.1 (checkByte p.1 ^^^ chk.getD p.2 0)
    let v := fun i => (dec.map (·.1)).getD i 0
    let frames := d.twn.rx.map fun b => blkUnits d.twn.rxEpoch b.1 b.2
    let crc := crc32c (frames.flatten.flatMap (leBytes 8))
    let ok := dec.all (fun p => p.2 ≠ .uncorrectable) && d.on F.TWN_STATUS.epoch_busy
      && d.twn.rxEpoch = bits (v 0) 63 48 && v 0 % 2 ^ 32 = d.twn.rx.length && v 1 = crc
    let d := d.modTwn fun t => { t with endAt := d.sys.now8 + 1 }
    let d := if ok || d.twnSt ≠ 3 then d else d.twnReport 32 0x94 4 x.mseq
    d.sendTwin 0x07 [bits (v 0) 63 48 <<< 48 + b2n ok]

/-- EPOCH_ACK reaches the holder: ADOPT, or the epoch is discarded. -/
def Dev.epochAckTake (d : Dev) (x : TwinMsg) : Dev :=
  let h := x.units.headD 0
  let n := bits h 63 48
  if !d.latch || !d.on F.TWN_STATUS.epoch_busy || d.get F.TWN_EPOCH.current ≠ n || d.twn.adoptAt.isSome then d
  else if !bit h 0 then d.epochDrop
  else
    let t := d.now + d.agreeTicks + (5 * d.twn.sent.length + 3) / 4
    (d.sendTwin 0x08 [n <<< 48, t]).modTwn fun x => { x with adoptAt := some t }

/-- ADOPT reaches the follower. -/
def Dev.adoptTake (d : Dev) (x : TwinMsg) : Dev :=
  if d.takesInputs && d.on F.TWN_STATUS.epoch_busy && d.twn.rxEpoch = bits (x.units.headD 0) 63 48 then
    d.modTwn fun t => { t with adoptAt := some (x.units.getD 1 0) }
  else d

/-- The data of block k as the staging area gives it: undefined once the memory has been lost (R356). -/
def Dev.staged (d : Dev) (m : Memory) (k : Nat) : Dev × List Nat :=
  (List.range 8).foldl (fun (d, ws) i =>
    if d.memx.lost then let (v, d) := d.freeVal 64; (d, ws ++ [v])
    else (d, ws ++ [(decodeWord (m.word (stageWord k + i)) (m.syn (stageWord k + i))).1])) (d, [])

/-- t_adopt: the follower copies the blocks into its storage, both record the adoption. -/
def Dev.adoptNow (d : Dev) (m : Memory) : Dev :=
  match d.twn.adoptAt with
  | none => d
  | some t =>
    let d := d.advanceTo t
    (if d.latch then d else d.each d.twn.rx.zipIdx fun d b => let (d, ws) := d.staged m b.2; d.blkWrite b.1.1 ws).epochAdopted

/-- EPOCH_DISCARD: no ADOPT within 100 ms of EPOCH_END. -/
def Dev.epochTimeout (d : Dev) : Dev :=
  if !d.on F.TWN_STATUS.epoch_busy || d.twn.endAt = 0 || d.twn.adoptAt.isSome then d
  else (d.advance8To (d.twn.endAt - 1 + 12500000)).epochDrop

end Sys2Proof.Machine
end

