-- ==== Sys2Proof/Machine/Join.lean ====
section
/-! DEFINITION. Joining a pair: the join point, the snapshot and its application (R402). The spec names what the snapshot
holds; how its words are laid into SNAP frames is this model's (the log says so). -/

namespace Sys2Proof.Machine

/-! ### The join point -/

/-- An armed entry that keeps a join from starting: a position trigger, or a time trigger less than 1 ms ahead. -/
def Dev.nearEntry (d : Dev) : Bool :=
  d.armedEntries.any fun i => entKind (d.entHi i) = 2 || (entKind (d.entHi i) = 1 && d.entLo i < d.now + 125000)

/-- The conditions of a join point. -/
def Dev.joinReady (d : Dev) : Bool :=
  d.rd R.SHT_ACTIVE = 0 && !d.on F.TWN_STATUS.epoch_busy && !d.nearEntry
    && ((List.range 16).all fun m => d.stpState m = 0 || d.stpState m = 1 || d.stpState m = 5)
    && ((List.range 16).all fun a => (d.bldS a).wref = (d.bldS a).goal && !d.on (F.BLD_AXa_STATUS.move_active a))
    && d.ready.isEmpty

/-! ### The snapshot -/

/-- The registers whose active copies it holds: every shadow group. -/
def snapRegs : List Reg :=
  (List.range 8).flatMap (fun n => scrGroup n ++ plcGroup n) ++ (List.range 16).flatMap bldGroup ++ (List.range 16).flatMap stpGroup

/-- The table words whose active copies it holds: placement maps and coefficient blocks. -/
def snapTbl : List Nat :=
  (List.range 8192).map (fun i => 0x100000 + 8 * i) ++ (List.range 2048).map fun i => 0x310000 + 8 * i

/-- 64 armed bits. -/
def Dev.armedWord (d : Dev) (j : Nat) : Nat :=
  (List.range 64).foldl (fun v i => if entArmed (d.entHi (64 * j + i)) then v + 2 ^ i else v) 0

/-- Host state and watchdog; the event table's armed bits; the encoders; each port's Q; the scan grids. -/
def Dev.snapHead (d : Dev) : List Nat :=
  [d.get F.SYS_HOST_STATE.state, b2n d.sys.wdogArmed, d.sys.wdogKick] ++ (List.range 64).map d.armedWord
    ++ (List.range 4).flatMap (fun n => [d.rd (R.EVT_ENCn_RAW n), d.rd (R.EVT_ENCn_HWM n), d.rd (R.EVT_ENCn_INDEX_POS n),
      d.rd (R.EVT_ENCn_INDEX_TIME n), d.rd (R.EVT_ENCn_STATUS n), d.rd (R.EVT_ENCn_COUNTS n), d.rd (R.EVT_ENCn_JITTER n),
      (d.encS n).last, (d.encS n).stop])
    ++ (List.range 8).map (fun n => d.get (F.CHn_BLP_SEQ.next_q n))
    ++ (List.range 8).flatMap fun n => [d.act (R.CHn_SCT_REF_TIME n), d.act (R.CHn_SCT_FACET_PERIOD n)]

/-- Steppers, brushless axes, loop slots, the firing gates. -/
def Dev.snapMotion (d : Dev) : List Nat :=
  (List.range 16).flatMap (fun m =>
    let x := (d.stpS m).prof
    [enc 64 x.p, enc 64 x.target,
      d.stpState m + d.get (F.STP_AXm_STATUS.homed m) <<< 8 + d.get (F.STP_AXm_STATUS.pos_lost m) <<< 9])
  ++ (List.range 16).flatMap (fun a =>
    let x := d.bldS a
    [enc 64 x.target, enc 64 x.wref, d.bldState a + b2n x.runtime <<< 8 + x.rate <<< 16])
  ++ (List.range 64).flatMap (fun k =>
    let x := d.loopS k
    [enc 64 x.target, enc 64 x.rw, d.loopState k + x.rate <<< 8])
  ++ (List.range 8).map fun n => d.get (F.CHn_FGT_CTRL.permit_req n) + 2 * d.get (F.CHn_FGT_STATUS.disabled n)

/-- The words of the snapshot, after their number. -/
def Dev.snapWords (d : Dev) : List Nat :=
  let ws := d.snapHead ++ d.snapMotion ++ snapRegs.map d.act ++ snapTbl.map (fun o => (Store.get 0#64 d.actTbl o).toNat)
    ++ d.evt.pend.map fun p => p.1 * 32 + p.2
  (ws.length + 1) :: ws

/-- The snapshot's words, eight to a frame. -/
def snapBlocks (ws : List Nat) : List (Blk × List Nat) :=
  (List.range ((ws.length + 7) / 8)).map fun i => (⟨true, 64 * i⟩, pad8 ((ws.drop (8 * i)).take 8))

/-- The words of a received snapshot, where all of it has arrived. -/
def snapGather (bs : List (Blk × List Nat)) : Option (List Nat) :=
  let ws := bs.flatMap (·.2)
  let inOrder := bs.zipIdx.all fun p => p.1.1 = ⟨true, 64 * p.2⟩
  let n := ws.headD 0
  if inOrder && n ≠ 0 && n ≤ ws.length then some ((ws.take n).drop 1) else none

/-- The event table, host state, encoders, grids of a snapshot are put in place. -/
def Dev.putHead (d : Dev) (w : Nat → Nat) : Dev :=
  let d := d.put F.SYS_HOST_STATE.state (w 0)
  let d := { d with sys := { d.sys with wdogArmed := w 1 = 1, wdogKick := w 2 } }
  let armed := fun i => bit (w (3 + i / 64)) (i % 64)
  let d := d.each (List.range 4096) fun d i =>
    if entArmed (d.entHi i) = armed i then d else d.putTw (16 * i + 8) (putBits (d.entHi i) 63 63 (b2n (armed i)))
  let d := d.wr R.EVT_ARMED_COUNT (((List.range 4096).filter armed).length)
  let d := d.each (List.range 4) fun d n =>
    let e := fun i => w (67 + 9 * n + i)
    let d := ((d.wr (R.EVT_ENCn_RAW n) (e 0)).wr (R.EVT_ENCn_HWM n) (e 1)).wr (R.EVT_ENCn_INDEX_POS n) (e 2)
    let d := ((d.wr (R.EVT_ENCn_INDEX_TIME n) (e 3)).wr (R.EVT_ENCn_STATUS n) (e 4)).wr (R.EVT_ENCn_COUNTS n) (e 5)
    let d := d.wr (R.EVT_ENCn_JITTER n) (e 6)
    d.putEnc n { (d.encS n) with last := e 7, stop := e 8, edges := [] }
  d.each (List.range 8) fun d n =>
    let d := (d.wr (R.CHn_SCT_REF_TIME n) (w (111 + 2 * n))).wr (R.CHn_SCT_FACET_PERIOD n) (w (112 + 2 * n))
    let d := if d.domOn (4 + n) then d.gridTransfer n else d
    d.put (F.CHn_BLP_SEQ.next_q n) (w (103 + n))

/-- A brushless axis takes up a turning motor by catch-spin (R272), or the state it has at rest. -/
def Dev.joinAxis (d : Dev) (a : Nat) (target wref : Int) (st : Nat) (runtime : Bool) (rate : Nat) : Dev :=
  if (d.axis a).isNone then d
  else if 3 ≤ st && st ≤ 8 then
    let d := if d.bldState a = 0 then d.bldEnter a (d.bldIdleState a) else d
    (d.bldStart a target rate runtime).1
  else (d.modBld a fun x => { x with target := target, wref := wref, runtime := runtime, rate := rate }).bldEnter a st

/-- Motion, loops and gates of a snapshot, from its word 0. -/
def Dev.putMotion (d : Dev) (w : Nat → Nat) : Dev :=
  let d := d.each (List.range 16) fun d m =>
    let f := w (3 * m + 2)
    let d := d.modStp m fun x =>
      { x with prof := { x.prof with p := sext 64 (w (3 * m)), target := sext 64 (w (3 * m + 1)), v := 0 } }
    let d := ((d.stpEnter m (f % 256)).putB (F.STP_AXm_STATUS.homed m) (bit f 8)).putB (F.STP_AXm_STATUS.pos_lost m) (bit f 9)
    d.stpPublish m
  let d := d.each (List.range 16) fun d a =>
    let o := 48 + 3 * a
    d.joinAxis a (sext 64 (w o)) (sext 64 (w (o + 1))) (w (o + 2) % 256) (bit (w (o + 2)) 8) (w (o + 2) / 2 ^ 16)
  let d := d.each (List.range 64) fun d k =>
    let o := 96 + 3 * k
    let d := d.modLoop k fun x =>
      { x with target := sext 64 (w o), rw := sext 64 (w (o + 1)), rate := w (o + 2) / 256, entered := 2 }
    d.put (F.LOOP_Sk_STATUS.state k) (w (o + 2) % 256)
  d.each (List.range 8) fun d n =>
    let f := w (288 + n)
    (d.putB (F.CHn_FGT_CTRL.permit_req n) (bit f 0)).putB (F.CHn_FGT_STATUS.disabled n) (bit f 1)

/-- The active copies and the pending armings of a snapshot. -/
def Dev.putActive (d : Dev) (ws : List Nat) : Dev :=
  let d := d.each (snapRegs.zip ws) fun d p =>
    { d with active := Store.set (BitVec.ofNat 64 p.1.rst) d.active p.1.off (BitVec.ofNat 64 p.2) }
  let d := d.each (List.range 8) fun d n => d.put (F.CHn_SCR_STATUS.active_bank n) (d.ga (F.CHn_SCR_CTRL.tone_bank n))
  let ws := ws.drop snapRegs.length
  let d := d.each (snapTbl.zip ws) fun d p => { d with actTbl := Store.set 0#64 d.actTbl p.1 (BitVec.ofNat 64 p.2) }
  d.modEvt fun e => { e with pend := (ws.drop snapTbl.length).map fun p => (p / 32, p % 32) }

/-- The whole snapshot: 127 words of head, 296 of motion, the rest. -/
def Dev.snapPut (d : Dev) (ws : List Nat) : Dev :=
  let w := fun i => ws.getD i 0
  ((d.putHead w).putActive (ws.drop 423)).putMotion fun i => w (127 + i)

/-! ### The join -/

/-- JOIN_POINT: the donor announces the join; then, at t_j, it captures and sends the snapshot. -/
def Dev.joinPoint (d : Dev) : Dev :=
  if d.twnSt ≠ 4 || !d.paired then d
  else match d.twn.full, d.twn.join with
  | 2, _ =>
    if !d.joinReady then d
    else
      let tj := d.now + d.agreeTicks
      ((d.sendTwin 0x09 [tj, tj + 62500]).modTwn fun t => { t with full := 3, join := some (tj, tj + 62500) }).put
        F.TWN_STATUS.join_wait 0
  | 3, some (tj, _) =>
    let d := d.advanceTo tj
    (d.each (snapBlocks d.snapWords) fun d b => d.sendTwin 0x0A (blkUnits 0xFFFF b.1 b.2)).modTwn fun t => { t with full := 4 }
  | _, _ => d

/-- JOIN reaches the joining member: phase 9 is timed from here (R402). -/
def Dev.joinTake (d : Dev) (x : TwinMsg) : Dev :=
  if d.twnSt ≠ 2 then d
  else
    let d := d.modTwn fun t => { t with join := some (x.units.headD 0, x.units.getD 1 0), snap := [] }
    if d.phaseSt 9 = 1 then { d with sys := { d.sys with phAt := Store.set 0 d.sys.phAt 9 (d.sys.now8 + 1) } } else d

/-- SNAP: one block of the snapshot. -/
def Dev.snapTake (d : Dev) (x : TwinMsg) : Dev :=
  let h := x.units.headD 0
  if d.twnSt ≠ 2 || d.twn.join.isNone || bits h 63 48 ≠ 0xFFFF then d
  else d.modTwn fun t => { t with snap := t.snap ++ [(⟨bit h 47, h % 2 ^ 47⟩, x.units.drop 1)] }

/-- t_lock: the joining member applies the snapshot, then in order what came after t_j, and enters LOCKSTEP; so does the
donor. A member whose time is not synchronised does not join: its phase 9 fails at its 1 s (R64, R386). -/
def Dev.snapApply (d : Dev) : Dev :=
  match d.twnSt, d.twn.join with
  | 2, some (tj, tl) =>
    match snapGather d.twn.snap, d.on F.TWN_STATUS.time_synced with
    | none, _ => d
    | _, false => d
    | some ws, true =>
      let d := (d.advanceTo tl).snapPut ws
      let late := d.twn.joinIn.filter fun u => tj < u.ts + 128
      let d := d.modTwn fun t => { t with joinIn := [], snap := [], lockAt := tl, inputs := [] }
      let d := d.each late Dev.inputAct
      let d := d.each d.chansInUse fun d n =>
        let q := (d.get (F.CHn_BLP_SEQ.next_q n) + (if d.gridP n = 0 then 0 else d.slotFrom n tl - d.slotFrom n tj)) % 65536
        (d.put (F.CHn_BLP_SEQ.next_q n) q).modCh n fun c => { c with q := (q + 65535) % 65536 }
      let keep := d.twn.queue.filter fun a => tj ≤ a.ta
      ((d.modTwn fun t => { t with queue := keep }).twnEnter 3).done9 0
  | 4, some (_, tl) =>
    if d.twn.full ≠ 4 || !d.paired then d
    else ((d.advanceTo tl).modTwn fun t => { t with full := 0, lockAt := tl }).twnEnter 3
  | _, _ => d

/-! ### The commands -/

/-- BEAT_SEND (R383). -/
def execBeatSend (s : State) : Host.Outcome State Fault Refusal := s.onDev Dev.beatSend
/-- BEAT (R386). -/
def execBeat (m : TwinFrame) (s : State) : Host.Outcome State Fault Refusal :=
  s.onDev fun d => d.twinTake 0x02 6 m fun d x => d.beatTake m.at8 x
/-- TWIN_HELLO (R401). -/
def execTwinHello (m : TwinFrame) (s : State) : Host.Outcome State Fault Refusal := s.onDev fun d => d.twinTake 0x01 2 m Dev.helloTake
/-- INPUT_UNIT (R384). -/
def execInputUnit (u : TwinUnit) (s : State) : Host.Outcome State Fault Refusal := s.onDev (·.inputUnit u)
/-- HOST (R388). -/
def execHostMsg (m : TwinFrame) (s : State) : Host.Outcome State Fault Refusal := s.onDev fun d => d.twinTake 0x03 3 m Dev.hostTake
/-- AGREED_INPUT_APPLY (R388). -/
def execAgreedInputApply (s : State) : Host.Outcome State Fault Refusal := .next s.agreedApply
/-- TURN (R398): the message reaches the follower, or the Token passes at t_h. -/
def execTurn (m : Option TwinFrame) (s : State) : Host.Outcome State Fault Refusal :=
  s.onDev fun d => match m with
  | some m => d.twinTake 0x04 1 m Dev.turnTake
  | none => d.turnPass
/-- EPOCH_DATA (R399). -/
def execEpochData (m : TwinFrame) (s : State) : Host.Outcome State Fault Refusal :=
  .next (match s.dev.twinCheck 0x05 9 m with
    | (d, some x) => State.epochDataTake { s with dev := d } x
    | (d, none) => { s with dev := d })
/-- EPOCH_END (R399). -/
def execEpochEnd (m : TwinFrame) (s : State) : Host.Outcome State Fault Refusal := s.onDev fun d => d.twinTake 0x06 4 m Dev.epochEndTake
/-- EPOCH_ACK (R400). -/
def execEpochAck (m : TwinFrame) (s : State) : Host.Outcome State Fault Refusal := s.onDev fun d => d.twinTake 0x07 1 m Dev.epochAckTake
/-- ADOPT (R400): the message reaches the follower, or t_adopt comes. -/
def execAdopt (m : Option TwinFrame) (s : State) : Host.Outcome State Fault Refusal :=
  s.onDev fun d => match m with
  | some m => d.twinTake 0x08 2 m Dev.adoptTake
  | none => d.adoptNow s.mem
/-- EPOCH_DISCARD (R400). -/
def execEpochDiscard (s : State) : Host.Outcome State Fault Refusal := s.onDev Dev.epochTimeout
/-- JOIN_POINT (R402). -/
def execJoinPoint (s : State) : Host.Outcome State Fault Refusal := s.onDev Dev.joinPoint
/-- JOIN (R402). -/
def execJoin (m : TwinFrame) (s : State) : Host.Outcome State Fault Refusal := s.onDev fun d => d.twinTake 0x09 2 m Dev.joinTake
/-- SNAP (R402). -/
def execSnap (m : TwinFrame) (s : State) : Host.Outcome State Fault Refusal := s.onDev fun d => d.twinTake 0x0A 9 m Dev.snapTake
/-- SNAPSHOT_APPLY (R402). -/
def execSnapshotApply (s : State) : Host.Outcome State Fault Refusal := s.onDev Dev.snapApply
/-- PARTNER_ABSENT (R385). -/
def execPartnerAbsent (s : State) : Host.Outcome State Fault Refusal := s.onDev Dev.partnerGone
/-- TWIN_SOLO_TIMEOUT (R64). -/
def execTwinSoloTimeout (s : State) : Host.Outcome State Fault Refusal := s.onDev Dev.soloTimeout

end Sys2Proof.Machine
end

