-- ==== Sys2Proof/Machine/Host.lean ====
section
/-! DEFINITION. The host port: writes and reads of BAR0, BAR2 and BAR4, configuration space, MSI-X, the link (R8-R24, R388,
R407-R420). -/

namespace Sys2Proof.Machine

/-! ### What a read of BAR0 shows -/

/-- The mask of the indices below n that satisfy p. -/
def maskOf (n : Nat) (p : Nat → Bool) : Nat := (List.range n).foldl (fun m k => if p k then m + 2 ^ k else m) 0

/-- An enabled status bit is set. -/
def Dev.irqUp (d : Dev) (st en : Reg) : Bool := d.rd st &&& d.rd en ≠ 0

/-- Summary registers of BLD, STP and LOOP as the axes and slots stand. -/
def Dev.liveDrive (d : Dev) (r : Reg) : Nat :=
  let off := r.off
  if off = R.BLD_STATE.off then
    maskOf 16 (fun a => d.get (F.BLD_AXa_STATUS.state a) = 7) + maskOf 16 (fun a => d.get (F.BLD_AXa_STATUS.state a) = 10) <<< 16
  else if off = R.BLD_IRQ_STATUS.off then
    putBits (d.rd r) 15 0 (maskOf 16 fun a => d.irqUp (R.BLD_AXa_IRQ_STATUS a) (R.BLD_AXa_IRQ_EN a))
  else if off = R.STP_STATE.off then
    maskOf 16 (fun m => let x := d.get (F.STP_AXm_STATUS.state m); 2 ≤ x && x ≤ 4)
      + maskOf 16 (fun m => d.get (F.STP_AXm_STATUS.state m) = 5) <<< 16
  else if off = R.STP_IRQ_SUMMARY.off then maskOf 16 fun m => d.irqUp (R.STP_AXm_IRQ_STATUS m) (R.STP_AXm_IRQ_EN m)
  else if off = R.LOOP_RUNNING.off then
    maskOf 64 fun k => let x := d.get (F.LOOP_Sk_STATUS.state k); x = 2 || x = 4
  else if off = R.LOOP_INBAND.off then maskOf 64 fun k => d.on (F.LOOP_Sk_STATUS.in_band k)
  else if off = R.LOOP_SATURATED.off then
    maskOf 64 fun k => d.on (F.LOOP_Sk_STATUS.sat_high k) || d.on (F.LOOP_Sk_STATUS.sat_low k)
  else if off = R.LOOP_IRQ_SUMMARY.off then maskOf 64 fun k => d.irqUp (R.LOOP_Sk_IRQ_STATUS k) (R.LOOP_Sk_IRQ_EN k)
  else match (List.range 8).find? fun g => (R.LOOP_GRPg_STATUS g).off = off with
  | some g => putBits (d.rd r) 31 31 (b2n (d.cfg.loops.any fun l => l.group = g))
  | none => match (List.range 16).find? fun a => (R.BLD_AXa_STATUS a).off = off with
    | some a => putBits (d.rd r) (F.BLD_AXa_STATUS.restarts a).hi (F.BLD_AXa_STATUS.restarts a).lo (d.bldRestarts a)
    | none => d.rd r

/-- DMA summary and queue states (R181, R185). -/
def Dev.liveDma (d : Dev) (r : Reg) : Nat :=
  if r.off = R.DMA_STATUS.off then
    let v := putBits (d.rd r) F.DMA_STATUS.busy.hi F.DMA_STATUS.busy.lo (b2n d.qRunning.isSome)
    let v := putBits v F.DMA_STATUS.active.hi F.DMA_STATUS.active.lo (d.qRunning.getD 0x1F)
    putBits v F.DMA_STATUS.waiting.hi F.DMA_STATUS.waiting.lo (maskOf 16 fun q => d.qSt q = 2)
  else match (List.range 16).find? fun q => (R.DMA_Qq_STATUS q).off = r.off with
  | some q => putBits (d.rd r) (F.DMA_Qq_STATUS.state q).hi (F.DMA_Qq_STATUS.state q).lo (d.qSt q)
  | none => d.rd r

/-- The level registers: a faulted sensor stands at its throttle level and, with fault_as_shutdown, at its shutdown level (R325). -/
def Dev.liveTmp (d : Dev) (r : Reg) : Nat :=
  let f := d.rd R.TMP_FAULTED
  if r.off = R.TMP_THROTTLE.off then d.rd r ||| f
  else if r.off = R.TMP_SHUTDOWN.off then d.rd r ||| maskOf 24 fun s => bit f s && d.on (F.TMP_Ss_CFG.fault_as_shutdown s)
  else d.rd r

/-- What a register holds at a read: summaries are made of what they sum up. -/
def Dev.live (d : Dev) (r : Reg) : Nat :=
  let off := r.off
  if off = R.SYS_READY.off then d.sysReady
  else if off = R.BLK_PORTS.off then
    maskOf 8 (fun n => d.port n = 5) + maskOf 8 (fun n => d.port n = 6) <<< 16 + maskOf 8 (fun n => d.port n = 7) <<< 24
  else if off = R.TWN_HEALTH.off then d.health
  else if off = R.URG_STATUS.off then putBits (d.rd r) F.URG_STATUS.estop_level.hi F.URG_STATUS.estop_level.lo (b2n d.host.estop)
  else if off = R.TWN_STATUS.off then putBits (d.rd r) F.TWN_STATUS.fit.hi F.TWN_STATUS.fit.lo (b2n d.fit)
  else if off = R.TWN_TOKEN_STATE.off then
    d.tokenState
  else if 0x200000 ≤ off then
    let n := (off - 0x200000) / 0x20000
    if off = (R.CHn_BLP_SEQ n).off then putBits (d.rd r) (F.CHn_BLP_SEQ.n_scan n).hi (F.CHn_BLP_SEQ.n_scan n).lo (d.nScan n) else d.rd r
  else match off / 0x10000 with
  | 4 => d.liveDma r
  | 8 | 9 | 10 => d.liveDrive r
  | 11 => d.liveTmp r
  | 12 =>
    if off = R.PWR_STATE.off && d.stepNow.isSome then
      putBits (d.rd r) F.PWR_STATE.elapsed_us.hi F.PWR_STATE.elapsed_us.lo (min ((d.sys.now8 - d.pwr.stepAt) / 125) 0xFFFF)
    else d.rd r
  | 14 => d.fltShow.rd r
  | _ => d.rd r

/-- What a read of a register returns (R8, R9). -/
def Dev.shown (d : Dev) (r : Reg) (flds : List FSpec) : Nat := shownBits flds (d.live r)

/-! ### Requests -/

/-- Answer a read. -/
def Dev.answer (d : Dev) (ws : List Nat) : Dev := d.emit (.read ws false)

/-- A word of a request as R19 judges it. -/
def aligned (off size : Nat) : Bool := (size = 4 && off % 4 = 0) || (size = 8 && off % 8 = 0)

/-- A memory request to a BAR: nothing answers without the endpoint, Unsupported Request in D3hot (R408); a word that is not
naturally aligned completes with zero or is discarded and is reported (R19). -/
def State.request (s : State) (bar off : Nat) (size : Nat) (write : Bool) (f : State → State) : State :=
  let d := s.dev
  if !d.endpoint then s
  else if d.host.d3 then { s with dev := d.unsupported }
  else if !aligned off size then { s with dev := (d.hostErr 0xA0 (hostPlace bar off) size).when (!write) (·.answer [0]) }
  else f s

/-- A block whose domain is off: the access is reported, a read returns zero (R20). -/
def Dev.offDomain (d : Dev) (bar off : Nat) (write : Bool) : Dev :=
  (d.hostErr 0xA1 (hostPlace bar off) (d.rd R.PWR_DOMAINS)).when (!write) (·.answer [0])

/-! ### Reads of BAR0 (R11) -/

/-- A read of a ring lane's receive registers finds its checker up to date (R138). -/
def Dev.readPrep (d : Dev) (off : Nat) : Dev := if 0x60100 ≤ off && off < 0x60300 then d.chkUpdate ((off - 0x60100) / 64) else d

/-- The 32-bit word at an offset as a read that uses no latch sees it. -/
def Dev.word32 (d : Dev) (off : Nat) : Nat :=
  match findReg off with
  | some (r, flds) => d.shown r flds % 2 ^ 32
  | none => 0

/-- A 64-bit read: a 64-bit register whole, its latch neither used nor changed; else the two words. -/
def Dev.read64 (d : Dev) (off : Nat) : Dev :=
  if !d.domOn (domainOf off) then d.offDomain 0 off false
  else
  let d := d.readPrep off
  match findReg off with
  | some (r, flds) =>
    if r.w = 64 then d.answer [d.shown r flds] else d.answer [d.word32 off + d.word32 (off + 4) * 2 ^ 32]
  | none => d.answer [d.word32 (off + 4) * 2 ^ 32]

/-- A 32-bit read: a low half latches the high half of its register, a high half is the latch; a 32-bit register reads plainly. -/
def Dev.read32 (d : Dev) (off : Nat) : Dev :=
  if !d.domOn (domainOf off) then d.offDomain 0 off false
  else
  let d := d.readPrep off
  match regAt off with
  | none => d.answer [0]
  | some (r, flds) =>
    if r.w ≠ 64 then d.answer [d.shown r flds % 2 ^ 32]
    else if r.off = off then
      let v := d.shown r flds
      (d.modHost fun h => { h with latchHi := Store.set 0 h.latchHi off (v / 2 ^ 32 + 1) }).answer [v % 2 ^ 32]
    else
      let l := Store.get 0 d.host.latchHi r.off
      d.answer [if l = 0 then r.rst / 2 ^ 32 else l - 1]

/-- The address bits of a base address register that software may write, and its fixed low bits: 64-bit BARs of 16 MiB, 64 MiB
and, prefetchable, 1 GiB (R17, the configuration header's table). -/
def barMask (k : Nat) : Nat × Nat :=
  match k with
  | 0 => (2 ^ 32 - 2 ^ 24, 4)
  | 2 => (2 ^ 32 - 2 ^ 26, 4)
  | 4 => (2 ^ 32 - 2 ^ 30, 0xC)
  | _ => (2 ^ 32 - 1, 0)

/-- A word of configuration space with its value at reset and the bits that software may write. -/
structure CfgWord where
  off  : Nat
  rst  : Nat
  mask : Nat

/-- Configuration space (the configuration header's table, R407, R411) but for what other words of State hold: the header, and the
capabilities at offsets the model chose (PRESUMED, see the assumption log): power management 0x40, MSI-X 0x50, PCI Express 0x60,
AER 0x100, lane margining 0x150, the vendor-specific one 0x400. Control bits of absent features are 0 and stay 0. -/
def cfgWords : List CfgWord :=
  [⟨0x00, 0x08801E5F, 0⟩, ⟨0x04, 0x00100000, 0x146⟩, ⟨0x0C, 0, 0xFF⟩, ⟨0x2C, 0x08801E5F, 0⟩, ⟨0x34, 0x40, 0⟩, ⟨0x3C, 0, 0xFF⟩,
    -- power management: version 3, no D1, no D2, no PME
    ⟨0x40, 0x00035001, 0⟩,
    -- the MSI-X table and its pending bits lie in BAR0 (R410)
    ⟨0x54, 0x8000, 0⟩, ⟨0x58, 0x9000, 0⟩,
    -- endpoint; payloads of 512 bytes, extended tags, function-level reset
    ⟨0x60, 0x00020010, 0⟩, ⟨0x64, 0x10008022, 0⟩,
    -- Device Control: error reporting, Max_Payload_Size, extended tags, Max_Read_Request_Size
    ⟨0x68, devCtl.rst, 0x71EF⟩,
    -- 16 GT/s, four lanes
    ⟨0x6C, 0x00400044, 0⟩,
    -- completion timeout: ranges B and C, disable
    ⟨0x84, 0x16, 0⟩, ⟨0x88, 0, 0x1F⟩, ⟨0x8C, 0x1E, 0⟩, ⟨0x90, 4, 0xF⟩,
    ⟨0x100, 0x15020001, 0⟩, ⟨0x108, 0, 0x03FDF030⟩, ⟨0x10C, 0x00462030, 0x03FDF030⟩, ⟨0x114, 0x2000, 0xF1C1⟩,
    ⟨0x150, 0x40010027, 0⟩, ⟨0x400, 0x0001000B, 0⟩, ⟨0x404, 0x01010001, 0⟩]

/-- The register that holds a word of configuration space. -/
def CfgWord.reg (c : CfgWord) : Reg := ⟨0x2000000 + c.off, 32, c.rst⟩

/-- The word at byte o of configuration space. -/
def Dev.cfgWord (d : Dev) (o : Nat) : Nat :=
  if o = 8 then 0x0B400000 + d.get F.SYS_ID.revision
  else if 0x10 ≤ o && o < 0x28 then
    (Store.get 0#64 d.regs (0x2000000 + o)).toNat + (barMask ((o - 0x10) / 4)).2
  else if o = 0x44 then 8 + (if d.host.d3 then 3 else 0)
  else if o = 0x50 then 0x003F6011 + b2n d.msixMasked * 2 ^ 30 + b2n d.msixOn * 2 ^ 31
  else if o = 0x70 then d.linkStatus * 2 ^ 16
  else if o = 0x408 then d.rd R.SYS_CFG_HOST_ERR
  else if o = 0x40C then d.rd R.SYS_CFG_HOST_COUNTS
  else match cfgWords.find? fun c => c.off = o with
    | some c => d.rd c.reg
    | none => 0

/-- A 32-bit read of configuration space. -/
def Dev.cfgRead (d : Dev) (off : Nat) : Dev := d.answer [d.cfgWord (off - 0x2000000)]

/-- A read of BAR0, 64-bit where wide, or a 32-bit one of configuration space. -/
def State.hostRead (s : State) (off : Nat) (wide : Bool) : State :=
  if 0x2000000 ≤ off then { s with dev := s.dev.when s.dev.endpoint (·.cfgRead off) }
  else s.request 0 off (if wide then 8 else 4) false fun s =>
    if 0x1000000 ≤ off then s else { s with dev := if wide then s.dev.read64 off else s.dev.read32 off }

/-! ### Writes of BAR0 (R388) -/

/-- A member of a pair (R388): the classes of writes apply. -/
def Dev.inPair (d : Dev) : Bool := d.twin && 2 ≤ d.get F.TWN_STATUS.state

/-- A member without the Token discards a host write (R388). -/
def Dev.refuseWrite (d : Dev) (bar off : Nat) : Dev := d.twnReject.hostErr 0xA2 (hostPlace bar off) 388

/-- A staged write: the register takes it, and its block becomes dirty once the register holds the value. -/
def State.stagedWrite (s : State) (base off v : Nat) (wide takes : Bool) : State :=
  if s.dev.inPair && !s.dev.latch then { s with dev := s.dev.refuseWrite 0 off }
  else
    let open_ := !descOff base || s.dev.shtState ((base - 0x34000) / 0x200) = 0
    let s := s.writeNow off v wide
    { s with dev := s.dev.when (takes && open_) (·.stage true base) }

/-- An agreed write (R388). -/
def State.agreedWrite (s : State) (off v : Nat) (wide : Bool) : State :=
  if !s.dev.inPair then s.writeNow off v wide
  else if s.dev.latch then { s with dev := s.dev.sendAgreed s.dev.agreeTicks (b2n wide) off v }
  else { s with dev := s.dev.refuseWrite 0 off }

/-- A write of SYS_BRINGUP_CTRL: retry is the member's own, engine_go is agreed (R388). -/
def State.bringupWrite (s : State) (v : Nat) : State :=
  let s := if bit v 1 then s.writeNow R.SYS_BRINGUP_CTRL.off 2 false else s
  if bit v 0 then s.agreedWrite R.SYS_BRINGUP_CTRL.off 1 false else s

/-- One register takes a 32-bit or 64-bit write, by its class. -/
def State.writeOne (s : State) (off v : Nat) (wide : Bool) : State :=
  match regAt off with
  | none => s
  | some (r, _) =>
    if r.off = R.URG_CMD.off then s.doorbell v
    else if r.off = R.SYS_BRINGUP_CTRL.off then s.bringupWrite v
    else if stagedOff r.off then s.stagedWrite r.off off v wide (r.w ≠ 64 || wide || r.off ≠ off)
    else if memberOff off then s.writeNow off v wide
    else s.agreedWrite off v wide

/-- A write of BAR0 in words of R19: two 32-bit registers under one 64-bit write take their halves in ascending order. -/
def State.writeBar0 (s : State) (off v : Nat) (wide : Bool) : State :=
  if !s.dev.domOn (domainOf off) then { s with dev := s.dev.offDomain 0 off true }
  else if wide && ((findReg off).any fun p => p.1.w = 64) then s.writeOne off v true
  else if wide then (s.writeOne off (v % 2 ^ 32) false).writeOne (off + 4) (v / 2 ^ 32) false
  else s.writeOne off (v % 2 ^ 32) false

/-- MSI-X messages that wait and are not masked leave where MSI-X can send. -/
def Dev.sendPending (d : Dev) : Dev :=
  d.each (List.range 64) fun d v =>
    if d.getBit F.MSIX_PBA.pending v && !d.on (F.MSIX_CTRL.mask v) then d.msixUnmask v else d

/-- MSI-X Enable and Function Mask take a value; messages that may leave now leave. -/
def Dev.msixControl (d : Dev) (v : Nat) : Dev :=
  ({ d with regs := Store.set 0#64 d.regs 0x2001000 (BitVec.ofNat 64 (bits v 31 31 + 2 * bits v 30 30)) } : Dev).sendPending

/-- A 32-bit write of configuration space: the BARs, the power state (R408), MSI-X, SYS_CFG_HOST_ERR (R411), the words of
`cfgWords`; Device Control asks for a function-level reset (R67). -/
def Dev.cfgWrite (d : Dev) (off v : Nat) : Dev :=
  if 0x2000010 ≤ off && off < 0x2000028 && off % 4 = 0 then
    { d with regs := Store.set 0#64 d.regs off (BitVec.ofNat 64 (v &&& (barMask ((off - 0x2000010) / 4)).1)) }
  else if off = 0x2000044 then
    if v % 4 = 3 then d.modHost fun h => { h with d3 := true }
    else if v % 4 = 0 then d.modHost fun h => { h with d3 := false }
    else d
  else if off = 0x2000050 then d.msixControl v
  else if off = R.SYS_CFG_HOST_ERR.off then d.wr R.SYS_CFG_HOST_ERR (putField (d.rd R.SYS_CFG_HOST_ERR) v ⟨7, 0, .w1c⟩)
  else match cfgWords.find? fun c => c.reg.off = off with
    | some c => (d.wr c.reg ((d.rd c.reg &&& (2 ^ 32 - 1 - c.mask)) ||| (v &&& c.mask))).when (c.off = 0x68 && bit v 15) (·.askHost 7)
    | none => d

/-- A host write of BAR0, or of configuration space above 0x200_0000. -/
def State.hostWrite (s : State) (off v : Nat) (wide : Bool) : State :=
  if 0x2000000 ≤ off then { s with dev := s.dev.when s.dev.endpoint (·.cfgWrite off (v % 2 ^ 32)) }
  else s.request 0 off (if wide then 8 else 4) true fun s => if 0x1000000 ≤ off then s else s.writeBar0 off v wide

/-- The W1C bits of a register. -/
def w1cBits (flds : List FSpec) : Nat :=
  flds.foldl (fun m f => match f.acc with | .w1c => putBits m f.hi f.lo (2 ^ (f.hi + 1 - f.lo) - 1) | _ => m) 0

/-- W1C bits of the register at an offset that hardware events set in the clock of a write stay set (R10). -/
def Dev.keepSame (was d : Dev) (off same : Nat) : Dev :=
  match regAt off with
  | some (r, flds) => d.wr r (d.rd r ||| (was.rd r &&& same &&& w1cBits flds))
  | none => if off = R.SYS_CFG_HOST_ERR.off then d.wr R.SYS_CFG_HOST_ERR (d.rd R.SYS_CFG_HOST_ERR ||| (was.rd R.SYS_CFG_HOST_ERR &&& same &&& 0xFF)) else d

/-- A host write in whose clock hardware events set the bits `same` (R10): a 64-bit write of two 32-bit registers takes them in
halves. -/
def State.writeSame (s : State) (off v : Nat) (wide : Bool) (same : Nat) : State :=
  let t := s.hostWrite off v wide
  if same = 0 then t
  else if wide && !((findReg off).any fun p => p.1.w = 64) then
    { t with dev := s.dev.keepSame (s.dev.keepSame t.dev off (same % 2 ^ 32)) (off + 4) (same / 2 ^ 32) }
  else { t with dev := s.dev.keepSame t.dev off same }

/-- A staged write of the host is taken at once: the member is in no pair, or holds the Token (R388). -/
def Dev.takesStaged (d : Dev) : Bool := !d.inPair || d.latch

/-- A write that lands in the clock of its group's transfer leaves the group ready (R13); in LOCKSTEP the written copies reach the
group by adoption, and the transfer's clock plays no part (R387). -/
def Dev.leaveReady (d : Dev) (g : Option (Reg × Fld)) : Dev :=
  match g with
  | some (c, f) =>
    if d.endpoint && d.domOn (domainOf c.off) && !d.host.d3 && d.takesStaged && !(d.inPair && d.get F.TWN_STATUS.state = 3) then d.commit c f else d
  | none => d

/-- The group of the shadowed register that an offset names, whole or by its high half. -/
def shadowGroup (off : Nat) : Option (Reg × Fld) := (regAt off).bind fun p => groupOfReg p.1.off

/-! ### Tables (R21-R23) -/

/-- The power domain of a table word; none outside every range of R21. -/
def tableDomain (off : Nat) : Option Nat :=
  if off < 0x10000 then some 0
  else if 0x100000 ≤ off && off < 0x110000 then some (4 + (off - 0x100000) / 0x2000)
  else if 0x200000 ≤ off && off < 0x208000 then some (4 + (off - 0x200000) / 0x1000)
  else if 0x300000 ≤ off && off < 0x302000 then some 3
  else if 0x310000 ≤ off && off < 0x314000 then some 0
  else if 0x1000000 ≤ off && off < 0x1400000 then some (4 + (off - 0x1000000) / 0x80000)
  else none

/-- The owning unit holds the word locked (R23): an armed entry (R91), a map that is being copied (R224), tiles and the active
tone bank of a locked channel (R203), the sine table of an axis in motion (R295). -/
def Dev.tableLocked (d : Dev) (off : Nat) : Bool :=
  if off < 0x10000 then entArmed (d.entHi (off / 16))
  else if off < 0x110000 then d.on (F.CHn_PLC_STATUS.map_copy ((off - 0x100000) / 0x2000))
  else if off < 0x208000 then
    let n := (off - 0x200000) / 0x1000
    d.on (F.CHn_SCR_STATUS.locked n) && d.ga (F.CHn_SCR_CTRL.tone_bank n) = off % 0x1000 / 0x800
  else if off < 0x302000 then let x := d.get (F.STP_AXm_STATUS.state ((off - 0x300000) / 0x200)); 2 ≤ x && x ≤ 4
  else if off < 0x314000 then false
  else d.on (F.CHn_SCR_STATUS.locked ((off - 0x1000000) / 0x80000))

/-- The shadow group a table word belongs to: the map of a channel, the coefficient block of a slot. -/
def tableGroup (off : Nat) : Option (Reg × Fld) :=
  if 0x100000 ≤ off && off < 0x110000 then
    let n := (off - 0x100000) / 0x2000
    some (R.CHn_PLC_COMMIT n, F.CHn_PLC_STATUS.shadow_pending n)
  else if 0x310000 ≤ off && off < 0x314000 then
    let k := (off - 0x310000) / 0x100
    some (R.LOOP_Sk_COMMIT k, F.LOOP_Sk_STATUS.shadow_pending k)
  else none

/-- What a table word becomes: the armed and gated bits of an event entry stay, its reserved bit is 0 (R83, R91). -/
def Dev.tableValue (d : Dev) (off v : Nat) : Nat :=
  if off < 0x10000 && off % 16 = 8 then putBits (putBits v 63 62 (bits (d.tw off) 63 62)) 48 48 0 else v

/-- A table word takes a write; a 32-bit one is merged into the word as decoded, and is lost where that is uncorrectable (R22). -/
def Dev.tablePut (d : Dev) (off v : Nat) (wide : Bool) : Dev :=
  let w := off / 8 * 8
  if wide then (d.putTw w (d.tableValue w v)).stage false w
  else match decodeWord (d.tw w) (Store.get 0#8 d.tblChk w).toNat with
  | (_, .uncorrectable) => d.reportOpen 35
  | (old, _) =>
    let lo := 32 * (off / 4 % 2)
    (d.putTw w (d.tableValue w (putBits old (lo + 31) lo v))).stage false w

/-- A write of BAR2 in words of R19. -/
def Dev.writeBar2 (d : Dev) (off v : Nat) (wide inTransfer : Bool) : Dev :=
  match tableDomain off with
  | none => d
  | some k =>
    if !d.domOn k then d.offDomain 2 off true
    else if d.inPair && !d.latch then d.refuseWrite 2 off
    else
      let early := inTransfer && (tableGroup off).isSome && !(d.inPair && d.get F.TWN_STATUS.state = 3)
      if d.tableLocked off && !early then (d.count F.SYS_BAR2_REJECT.count).hostErr 0xA2 (hostPlace 2 off) 23
      else
        let d := d.tablePut off v wide
        if early then d.leaveReady (tableGroup off) else d

/-- A read of BAR2: the word as decoded, or one half of it. -/
def Dev.readBar2 (d : Dev) (off : Nat) (wide : Bool) : Dev :=
  match tableDomain off with
  | none => d.answer [0]
  | some k =>
    if !d.domOn k then d.offDomain 2 off false
    else
      let w := off / 8 * 8
      let v := (decodeWord (d.tw w) (Store.get 0#8 d.tblChk w).toNat).1
      d.answer [if wide then v else bits v (32 * (off / 4 % 2) + 31) (32 * (off / 4 % 2))]

/-! ### User memory (R24) -/

/-- A read of BAR4: an uncorrectable word is answered poisoned and reported (R24, R171). -/
def State.readBar4 (s : State) (off : Nat) (wide : Bool) : State :=
  if 2 ^ 30 ≤ off then { s with dev := s.dev.answer [0] }
  else if !s.dev.domOn 1 then { s with dev := s.dev.offDomain 4 off false }
  else
    let (v, ue, s) := s.readMem 3 0 (off / 8)
    let v := if wide then v else bits v (32 * (off / 4 % 2) + 31) (32 * (off / 4 % 2))
    { s with dev := s.dev.emit (.read [v] ue) }

/-- BAR4 takes writes: always in Single grade, in Twin grade only in safe idle (R24). -/
def Dev.bar4Open (d : Dev) : Bool := !d.twin || d.get F.SYS_HOST_STATE.state = 4

/-- A word of BAR4 takes a write; a 32-bit one is merged into the word as read, which stays uncorrectable where it was (R24). -/
def State.putBar4 (s : State) (off v : Nat) (wide poisoned : Bool) : State :=
  if !s.dev.domOn 1 then { s with dev := s.dev.offDomain 4 off true }
  else if !s.dev.bar4Open then { s with dev := s.dev.hostErr 0xA2 (hostPlace 4 off) 24 }
  else if s.dev.memx.lost then s
  else if wide then s.writeMem (off / 8) v poisoned
  else
    let (old, ue, s) := s.readMem 4 0 (off / 8)
    s.writeMem (off / 8) (putBits old (32 * (off / 4 % 2) + 31) (32 * (off / 4 % 2)) v) (ue || poisoned)

/-- A poisoned write of BAR4, given in 32-bit words, stores each of its words poisoned (R415); half a word is merged (R24). -/
def State.poison : State → Nat → List Nat → State
  | s, _, [] => s
  | s, off, [w] => if off < 2 ^ 30 then s.putBar4 off w false true else s
  | s, off, w :: x :: ws =>
    if 2 ^ 30 ≤ off then s
    else if off % 8 = 0 then State.poison (s.putBar4 off (w + x * 2 ^ 32) true true) (off + 8) ws
    else State.poison (s.putBar4 off w false true) (off + 4) (x :: ws)

/-- A poisoned posted write (R415): reported, discarded but in BAR4. -/
def State.poisonedWrite (s : State) (bar off : Nat) (data : List Nat) : State :=
  let d := s.dev
  if !d.endpoint then s
  else if d.host.d3 then { s with dev := d.unsupported }
  else
    let s := { s with dev := d.hostErr 0xA3 (hostPlace bar off) 0 }
    if bar = 4 then s.poison off data else s

/-! ### Requests that R19 rejects, and the link -/

/-- The words of a request (R412): split at multiples of 8 bytes, in ascending order; (offset, bytes). -/
def piecesOf : Nat → Nat → Nat → List (Nat × Nat)
  | 0, _, _ => []
  | _, _, 0 => []
  | n + 1, off, size =>
    let k := min size (8 - off % 8)
    (off, k) :: piecesOf n (off + k) (size - k)

/-- An access of one word to a BAR. -/
def State.access (s : State) (bar off size : Nat) (write : Bool) (v : Nat) : State :=
  let wide := decide (size = 8)
  if bar = 0 then (if write then s.hostWrite off v wide else s.hostRead off wide)
  else s.request bar off size write fun s =>
    if bar = 2 then { s with dev := if write then s.dev.writeBar2 off v wide false else s.dev.readBar2 off wide }
    else if !write then s.readBar4 off wide
    else if 2 ^ 30 ≤ off then s else s.putBar4 off v wide false

/-- A request each word of which R19 judges (R412): a word that it rejects reads zero or stores nothing and is reported, one that
it accepts is carried out. `data` holds the bytes of a write. -/
def State.misaligned (s : State) (bar off size : Nat) (write : Bool) (data : List Byte) : State :=
  let ps := if size ≤ 8 then [(off, size)] else piecesOf size off size
  ps.foldl (fun s p => if aligned p.1 p.2 then s.access bar p.1 p.2 write (leVal (((data.drop (p.1 - off)).take p.2).map (·.toNat)))
    else s.request bar p.1 p.2 write id) s

/-- PCIE_LINK_UP (R407, R409): speed 1 to 4 (2.5, 5.0, 8.0, 16.0 GT/s), one, two or four lanes; not before the end of phase 3. -/
def Dev.linkUp (d : Dev) (speed width : Nat) : Dev :=
  if !d.endpoint || d.host.linkUp || !d.phaseOver 3 || !(1 ≤ speed && speed ≤ 4) || !([1, 2, 4].contains width) then d
  else d.modHost fun h => { h with linkUp := true, speed := speed, width := width }

/-! ### The commands -/

/-- REGISTER_WRITE (R8, R9). -/
def execRegisterWrite (off : Nat) (v : Word64) (wide : Bool) (same : Word64) (s : State) : Host.Outcome State Fault Refusal :=
  .next (s.writeSame off v.toNat wide same.toNat)
/-- LOW_HALF_READ (R11): of the low half alone, or of the whole register. -/
def execLowHalfRead (off : Nat) (wide : Bool) (s : State) : Host.Outcome State Fault Refusal := .next (s.hostRead off wide)
/-- HIGH_HALF_READ (R11). -/
def execHighHalfRead (off : Nat) (s : State) : Host.Outcome State Fault Refusal := .next (s.hostRead off false)
/-- LOW_HALF_WRITE (R11). -/
def execLowHalfWrite (off : Nat) (v : Word32) (s : State) : Host.Outcome State Fault Refusal := .next (s.hostWrite off v.toNat false)
/-- HIGH_HALF_WRITE (R11): with it a shadowed register takes its value, in the clock of its group's transfer or in another (R13). -/
def execHighHalfWrite (off : Nat) (v : Word32) (inTransfer : Bool) (same : Word64) (s : State) : Host.Outcome State Fault Refusal :=
  let s := s.writeSame off v.toNat false same.toNat
  .next { s with dev := s.dev.when inTransfer (·.leaveReady (shadowGroup off)) }
/-- SHADOW_WRITE (R12-R14): a write of a shadowed register, in the clock of its group's transfer or in another. -/
def execShadowWrite (off : Nat) (v : Word64) (inTransfer : Bool) (s : State) : Host.Outcome State Fault Refusal :=
  let s := s.hostWrite off v.toNat ((findReg off).any fun p => p.1.w = 64)
  .next { s with dev := s.dev.when inTransfer (·.leaveReady (shadowGroup off)) }
/-- GROUP_COMMIT (R12-R14): a write of a commit register, which in a pair lands at its t_a (R388). -/
def execGroupCommit (off : Nat) (v : Word32) (inTransfer : Bool) (s : State) : Host.Outcome State Fault Refusal :=
  let s := s.hostWrite off v.toNat false
  .next { s with dev := s.dev.when (inTransfer && !s.dev.inPair) (·.leaveReady ((commitOf off).map fun f => (⟨off, 32, 0⟩, f))) }
/-- BAR_ACCESS_MISALIGNED (R19, R412). -/
def execBarAccessMisaligned (bar : Fin 3) (off size : Nat) (write : Bool) (data : List Byte) (s : State) :
    Host.Outcome State Fault Refusal :=
  .next (s.misaligned (2 * bar) off size write data)
/-- OFF_DOMAIN_ACCESS (R20). -/
def execOffDomainAccess (off size : Nat) (write : Bool) (s : State) : Host.Outcome State Fault Refusal :=
  .next (s.request 0 off size write fun s =>
    if s.dev.domOn (domainOf off) then s else { s with dev := s.dev.offDomain 0 off write })
/-- UNSUPPORTED_REQUEST (R412). -/
def execUnsupportedRequest (_addr : Word64) (_write : Bool) (s : State) : Host.Outcome State Fault Refusal :=
  s.onDev fun d => d.when d.endpoint Dev.unsupported
/-- BAR2_WRITE (R22, R23). -/
def execBar2Write (off : Nat) (v : Word64) (wide inTransfer : Bool) (s : State) : Host.Outcome State Fault Refusal :=
  .next (s.request 2 off (if wide then 8 else 4) true fun s => { s with dev := s.dev.writeBar2 off v.toNat wide inTransfer })
/-- BAR2_READ (R21). -/
def execBar2Read (off : Nat) (wide : Bool) (s : State) : Host.Outcome State Fault Refusal :=
  .next (s.request 2 off (if wide then 8 else 4) false fun s => { s with dev := s.dev.readBar2 off wide })
/-- BAR4_READ (R24). -/
def execBar4Read (off : Nat) (wide : Bool) (s : State) : Host.Outcome State Fault Refusal :=
  .next (s.request 4 off (if wide then 8 else 4) false fun s => s.readBar4 off wide)
/-- BAR4_WRITE (R24). -/
def execBar4Write (off : Nat) (v : Word64) (wide : Bool) (s : State) : Host.Outcome State Fault Refusal :=
  .next (s.request 4 off (if wide then 8 else 4) true fun s => if 2 ^ 30 ≤ off then s else s.putBar4 off v.toNat wide false)
/-- POISONED_WRITE (R415). -/
def execPoisonedWrite (bar : Fin 3) (off : Nat) (data : List Word32) (s : State) : Host.Outcome State Fault Refusal :=
  .next (s.poisonedWrite (2 * bar) off (data.map (·.toNat)))
/-- MSIX_UNMASK (R410): a write of the entry's vector control. -/
def execMsixUnmask (v : Fin 64) (s : State) : Host.Outcome State Fault Refusal := .next (s.hostWrite (R.MSIX_CTRL v).off 0 false)
/-- DESCRIPTOR_WRITE (R103). -/
def execDescriptorWrite (off : Nat) (v : Word64) (wide : Bool) (s : State) : Host.Outcome State Fault Refusal :=
  .next (s.hostWrite off v.toNat wide)
/-- PCIE_LINK_UP (R407). -/
def execPcieLinkUp (speed width : Nat) (s : State) : Host.Outcome State Fault Refusal := s.onDev (·.linkUp speed width)

end Sys2Proof.Machine
end

