-- ==== Sys2Proof/Machine/Lg.lean ====
section
/-! DEFINITION. Personality C: the legacy host bus and its registers, run, legacy sheets, TOP, video frames (R429-R455). -/

namespace Sys2Proof.Machine

/-! ### The bus (R433, R439) -/

/-- The legacy bus answers: Personality C with CORE on. -/
def Dev.legacy (d : Dev) : Bool := d.persC && d.domOn 0

/-- The byte offset that LHB_A1 to LHB_A10 spell. -/
def lhbOff (off : Nat) : Nat := off / 2 * 2 % 0x800

/-- LHB_INT_n is driven low (R437). -/
def Dev.lhbInt (d : Dev) : Bool :=
  d.on F.LG_CTRL.irq_en && d.rd R.LG_STATUS &&& d.get F.LG_IRQ_MASK.mask ≠ 0

/-- Microseconds of engine time, 32 bits (R443). -/
def Dev.lgTimer (d : Dev) : Nat := d.now / 125 % 2 ^ 32

/-- A sum of the bits k below n for which p holds. -/
def maskBelow (n : Nat) (p : Nat → Bool) : Nat := (List.range n).foldl (fun m k => if p k then m + 2 ^ k else m) 0

/-- LG_POLY_STAT (R440, R450). -/
def Dev.lgPolyStat (d : Dev) : Nat :=
  let atSpeed := fun (s : Nat) => d.on (F.BLD_AXa_STATUS.at_speed s)
  maskBelow 4 (fun s => d.bldState s = 10 || d.ga (F.BLD_AXa_ILOOP.kp_i s) = 0) * 4096
    + maskBelow 4 (fun s => atSpeed s && d.sctSt s = 3) * 16 + maskBelow 4 atSpeed

/-- The value of a legacy register as a read captures it: status that other units hold is taken from them. -/
def Dev.lgValue (d : Dev) (off : Nat) : Nat :=
  if off = 0x00C then d.lgTimer % 65536
  else if off = 0x014 then putBits (d.rd R.LG_SHEET_STAT) 3 0 (maskBelow 4 fun k => d.shtState k ≠ 0)
  else if off = 0x01A then d.lgPolyStat
  else if off = 0x01C then maskBelow 8 d.dinLevel
  else if off = 0x024 then d.get (F.TMP_Ss_VALUE.temp 8)
  else if off = 0x026 then d.get (F.TMP_Ss_VALUE.temp 9)
  else match findReg (0x1000000 + off) with
  | some (r, flds) => shownBits flds (d.rd r)
  | none => 0

/-- The RC registers (R436). -/
def lgClears (off : Nat) : Bool := off = 0x006 || off = 0x00A || off = 0x028 || [0x102, 0x122, 0x142, 0x162].contains off

/-- What a read does beside returning its value: an RC register clears (R436) but for the bits that events set in the same clock
(R10), LG_FAULT acknowledges what it clears (R442), LG_TIMER_LO latches the high half (R443). -/
def Dev.lgReadEffect (d : Dev) (off v same : Nat) : Dev :=
  let d := if lgClears off then d.wr ⟨0x1000000 + off, 16, if off < 0x100 then 0 else 4⟩ (v &&& same) else d
  if off = 0x00A then d.closeRecs (fun r => bit v (lgFaultBit r.src r.d0) && !bit same (lgFaultBit r.src r.d0)) true
  else if off = 0x00C then d.put F.LG_TIMER_HI.high (d.lgTimer / 65536)
  else d

/-- A read cycle (R434). One that the host ends early has its effect and returns undefined data (R435): a free value. -/
def Dev.lhbRead (d : Dev) (off same : Nat) (early : Bool) : Dev :=
  if !d.legacy then d
  else
    let o := lhbOff off
    let v := d.lgValue o
    let (x, d) := if early then d.freeVal 16 else (v, d)
    (d.lgReadEffect o v same).emit (.lhb x)

/-! ### Polygons and fusers (R450, R451) -/

/-- The target of polygon s (R450), in 1/16 rpm. -/
def Dev.lgTarget (d : Dev) (s : Nat) : Nat :=
  if d.on F.LG_CTRL.run && bit (d.get F.LG_POLY_CFG.enable) s then 16 * d.get F.LG_POLY_SPEED.rpm else 0

/-- Scan timing of a station is on while its polygon is asked to run. -/
def Dev.lgScan (d : Dev) (s : Nat) : Dev := d.sctEnable s (d.on F.LG_CTRL.run && bit (d.get F.LG_POLY_CFG.enable) s)

/-- Speed or enable bits have changed: while run = 1 the axes follow (R450); the grid follows at the gap. -/
def Dev.lgPolygons (d : Dev) : Dev :=
  d.each (List.range 4) fun d s =>
    let d := if d.on F.LG_CTRL.run && d.domOn 3 then d.bldSetpoint s (d.lgTarget s) else d
    let d := if d.on F.LG_CTRL.run && d.domOn (4 + s) then d.lgScan s else d
    if d.atGap s then d.lgGap s else d

/-- The set-point register of fuser f: LG_FUSER_SETf at the ramp rate of its coefficient block (R451). -/
def Dev.lgFuserWord (d : Dev) (f : Nat) : Nat := d.cf f 0x40 31 16 * 65536 + d.get (F.LG_FUSER_SETf.target f)

/-- fuser_en has changed (R451). -/
def Dev.lgFusers (d : Dev) (on : Bool) : Dev :=
  d.each [0, 1] fun d f =>
    if !on then d.loopCmd f 2 0
    else if bit d.lg.loopRec f then (d.wr (R.LOOP_Sk_SETPOINT f) (d.lgFuserWord f)).loopCmd f 1 0
    else
      let (c, d) := d.freeVal 8
      d.loopRefuse f c

/-! ### run (R432) -/

/-- Facets, pixels per line and pixel clocks from the legacy registers (R432). -/
def Dev.lgFix (d : Dev) : Dev :=
  d.each (List.range 4) fun d s => d.modChan s fun c =>
    { c with
      facets := d.get F.LG_POLY_CFG.facets
      pixels := 4 * d.get (F.LG_Ss_PIXELS.pixels s)
      clockKhz := 10 * d.get (F.LG_Ss_PIXCLK.clk s) }

/-- run goes from 0 to 1 (R432): the structure is fixed, then engine_go. -/
def Dev.lgRun (d : Dev) : Dev :=
  if !d.legacy || d.on F.LG_CTRL.run then d
  else
    let d := (d.put F.LG_CTRL.run 1).lgFix
    let d := d.each (List.range 4) fun d s =>
      let d := if d.domOn 3 then d.put (F.BLD_AXa_SETPOINT.speed s) (d.lgTarget s) else d
      let d := if d.domOn (4 + s) then d.lgScan s else d
      if d.atGap s then d.lgGap s else d
    let d := d.each [0, 1] fun d f => d.wr (R.LOOP_Sk_SETPOINT f) (d.lgFuserWord f)
    d.engineGo

/-- run goes from 1 to 0 (R432): the engine stop for no record, SAFE_IDLE. -/
def Dev.lgStop (d : Dev) : Dev :=
  if !d.legacy || !d.on F.LG_CTRL.run then d
  else
    let d := d.put F.LG_CTRL.run 0
    let (c, d) := d.freeVal 32
    let d := (d.engineStop c).setHost 4
    let d := d.each (List.range 4) fun d s => if d.domOn (4 + s) then d.lgScan s else d
    if d.phaseSt 10 = 0 then d else (d.each [10, 11, 12] fun d p => d.phaseUndo p 0).showPhase 9 5 0

/-- LG_CTRL.video_en (R440): 0 puts the receive direction to SLEEP, 1 wakes it. -/
def Dev.lgVideoEn (d : Dev) (on : Bool) : Dev :=
  if !d.legacy then d
  else
    let d := d.putB F.LG_CTRL.video_en on
    if !d.domOn 2 then d
    else if on then (if d.rxSt = 0 then d.rxDetect else d)
    else d.rxEnter 0

/-! ### Sheets (R444, R445) -/

/-- The open descriptor of a legacy sheet. -/
def Dev.lgDesc (d : Dev) (sheet : Nat) : Option Nat := (List.range 4).find? fun k => d.shtState k ≠ 0 && d.tagOf k = 0x100 + sheet

/-- Where the next plane of station s starts in its region (R444). -/
def Dev.lgStart (d : Dev) (s : Nat) : Nat := (Store.get 0 d.lg.ends s + 4095) / 4096 * 4096 % 0x10000000

/-- Bytes of a plane of station s. -/
def Dev.lgPlane (d : Dev) (s lines : Nat) : Nat := roundup64 (d.get (F.LG_Ss_PIXELS.pixels s)) * lines

/-- The enabled stations. -/
def Dev.lgEnabled (d : Dev) : List Nat := (List.range 4).filter fun s => d.on (F.LG_Ss_CTRL.enable s)

/-- Input lines of a sheet loaded now: LG_Ss_LINES of the lowest enabled station, the descriptor having one count. -/
def Dev.lgLines (d : Dev) : Nat := match d.lgEnabled with | s :: _ => d.get (F.LG_Ss_LINES.lines s) | [] => 0

/-- Write descriptor k for a sheet (R430, R444): enabled stations, lead window, planes, its entries on the arming list. Entry
8k + s is station s's IMAGE_START, entry 8k + 4 the pick. -/
def Dev.lgDescribe (d : Dev) (k sheet : Nat) : Dev :=
  let ss := d.lgEnabled
  let d := d.wr (R.SHT_Dd_HEAD k) 0
  let d := ((d.put (F.SHT_Dd_HEAD.sheet_tag k) (0x100 + sheet)).put (F.SHT_Dd_HEAD.chan_mask k) (ss.foldl (fun m s => m + 2 ^ s) 0)).put
    (F.SHT_Dd_HEAD.rule k) 1
  let d := (d.put (F.SHT_Dd_LINES.input_lines k) d.lgLines).put (F.SHT_Dd_LINES.lead_lines k) 64
  let d := d.put (F.SHT_Dd_RUNOUT.runout_ms k) 20000
  let d := d.each (List.range 8) fun d n => (d.wr (R.SHT_Dd_BASEn k n) 0).wr (R.SHT_Dd_TAGBASEn k n) 0
  let d := d.each ss fun d s => d.wr (R.SHT_Dd_BASEn k s) (s * 0x10000000 + d.lgStart s)
  let d := d.each (List.range 16) fun d j => d.wr (R.SHT_Dd_ARMk k j) 0
  let arm := fun (d : Dev) (j hi : Nat) =>
    let i := 8 * k + j
    let d := (d.put (F.SHT_Dd_ARMk.valid k j) 1).put (F.SHT_Dd_ARMk.index k j) i
    (d.putTw (16 * i) 0).putTw (16 * i + 8) (2 ^ 62 + hi)
  let d := d.each ss fun d s => arm d s (2 * 2 ^ 60 + 8 * 2 ^ 24 + s * 2 ^ 16)
  arm d 4 (2 ^ 60 + 2 ^ 50)

/-- The outcome of a command (R440): 0 done, 1 refused, 2 wrong state. -/
def Dev.lgResult (d : Dev) (sheet res : Nat) : Dev :=
  (d.put F.LG_SHEET_STAT.sheet sheet).put F.LG_SHEET_STAT.result res

/-- LOAD (R444). -/
def Dev.lgLoad (d : Dev) (sheet : Nat) : Dev :=
  match (List.range 4).find? fun k => d.shtState k = 0 with
  | none => d.lgResult sheet 1
  | some k =>
    if (d.lgDesc sheet).isSome || d.lgEnabled.any fun s => 0x10000000 < d.lgPlane s d.lgLines then d.lgResult sheet 1
    else
      let e := d.lgDescribe k sheet
      match e.openCheck k with
      | some _ => (e.shtOpen k).lgResult sheet 1
      | none =>
        let ends := d.lgEnabled.foldl (fun m s => Store.set 0 m s (d.lgStart s + d.lgPlane s d.lgLines)) d.lg.ends
        (({ e with lg := { e.lg with ends := ends } } : Dev).shtOpen k).lgResult sheet 0

/-- GO (R444). -/
def Dev.lgGo (d : Dev) (sheet : Nat) : Dev :=
  match d.lgDesc sheet with
  | some k =>
    if d.shtState k = 1 && !d.lg.queue.contains k then
      ({ d with lg := { d.lg with queue := d.lg.queue ++ [k] } } : Dev).lgResult sheet 0
    else d.lgResult sheet 2
  | none => d.lgResult sheet 2

/-- CANCEL (R444). -/
def Dev.lgCancel (d : Dev) (sheet : Nat) : Dev :=
  match d.lgDesc sheet with
  | some k => if d.shtState k = 1 then (d.cancel k 0x20 0).lgResult sheet 0 else d.lgResult sheet 1
  | none => d.lgResult sheet 2

/-- A write of LG_SHEET_CMD. -/
def Dev.lgCommand (d : Dev) (op sheet : Nat) : Dev :=
  if !d.legacy then d
  else match op with
  | 1 => d.lgLoad sheet
  | 2 => d.lgGo sheet
  | 3 => d.lgCancel sheet
  | _ => d

/-- The triggers of descriptor k at a TOP (R445): the pick in the next slot, station s at the raw count plus its offset. -/
def Dev.lgTriggers (d : Dev) (k : Nat) : Dev :=
  let d := d.each (d.sheetChans k) fun d s =>
    d.wr (R.SHT_Dd_TRIGk k s) ((d.rd (R.EVT_ENCn_RAW 0) + d.get (F.LG_Ss_OFFSET.counts s)) % 2 ^ 48)
  d.wr (R.SHT_Dd_TRIGk k 4) (8 * (d.slot + 1))

/-- TOP at its apply time (R445). -/
def Dev.lgTop (d : Dev) : Dev :=
  if !d.legacy then d
  else
    let d := d.lgEvent 2
    match d.lg.queue with
    | [] => d
    | k :: rest =>
      let d := (d.lgTriggers k).shtAdmit k
      if d.shtState k = 2 then { d with lg := { d.lg with queue := rest } } else d.lgEvent 3

/-! ### Writes (R439-R441) -/

/-- The value that a write leaves in a legacy register: a field whose value is out of range, or fixed while run = 1, keeps its
own (R440, R441). -/
def Dev.lgKept (d : Dev) (off old v : Nat) : Nat :=
  let run := d.on F.LG_CTRL.run
  if off = 0x016 then
    let f := v / 4096 % 16
    if run || !(f = 4 || f = 6 || f = 8) then putBits v 15 12 (old / 4096) else v
  else if off = 0x018 then (if 60000 < v then old else v)
  else if 0x100 ≤ off && off < 0x180 then
    let x := off % 0x20
    if x = 0x8 then (if run || v = 0 || 8192 < v then old else v)
    else if x = 0xA then (if v < 100 || 16000 < v then old else v)
    else if x = 0xE then (if 64 < v % 128 then old else v)
    else v
  else v

/-- Bits of LG_CTRL that act when written (R432, R438, R440, R451). -/
def Dev.lgCtrl (d : Dev) (v : Nat) : Dev :=
  let d := d.put F.LG_CTRL.irq_en (v / 2)
  let fuser := bit v 0
  let d := if d.on F.LG_CTRL.fuser_en = fuser then d else (d.putB F.LG_CTRL.fuser_en fuser).lgFusers fuser
  let d := d.lgVideoEn (bit v 2)
  let d := if bit v 3 then d.lgRun else d.lgStop
  if bit v 15 then d.askHost 3 else d

/-- What a station register changes (R441): permit_req at once, the rest at the sheet gap; pixels decide the planes. -/
def Dev.lgStationWrite (d : Dev) (s off : Nat) : Dev :=
  let x := off % 0x20
  let on := d.domOn (4 + s)
  if x = 0x8 then d.modChan s fun c => { c with pixels := 4 * d.get (F.LG_Ss_PIXELS.pixels s) }
  else
    let d := if x = 0 && on then d.permitReq s (d.on (F.LG_Ss_CTRL.permit s)) else d
    if d.atGap s then d.lgGap s else d

/-- A write takes effect in its register (R435). -/
def Dev.lgStore (d : Dev) (off v : Nat) : Dev :=
  match findReg (0x1000000 + off) with
  | some (r, flds) => d.wr r (putFields flds (d.rd r) (d.lgKept off (d.rd r) v))
  | none => d

/-- A write cycle (R435, R439). -/
def Dev.lhbWrite (d : Dev) (off v : Nat) : Dev :=
  if !d.legacy then d
  else
    let o := lhbOff off
    if o = 0x004 then d.lgCtrl v
    else if o = 0x010 then (if v = 0x5A5A then d.wdogKick else d)
    else if o = 0x012 then d.lgCommand (v / 4096) (v % 256)
    else
      let d := d.lgWatch (·.lgStore o v)
      if o = 0x016 || o = 0x018 then d.lgPolygons
      else if o = 0x01E then if d.sys.cut then d else d.each (List.range 8) fun d k => d.doutSet k (b2n (bit (d.get F.LG_GPO.level) k)) d.now
      else if o = 0x020 || o = 0x022 then (let f := (o - 0x020) / 2; d.loopSetpoint f (d.lgFuserWord f))
      else if 0x100 ≤ o && o < 0x180 then d.lgStationWrite ((o - 0x100) / 0x20) o
      else if 0x400 ≤ o then (let s := (o - 0x400) / 0x100; if d.atGap s then d.lgGap s else d)
      else d

/-! ### Video frames (R446, R447) -/

/-- What R447 makes of a frame. -/
inductive FrameJudged where
  | crc
  | format
  | order
  | line (desc station line : Nat) (pixels : List Nat)
  deriving DecidableEq, Repr

/-- Judge a frame, given as its bytes from SOF to EOF: length and CRC, then the header checks, then the order. -/
def Dev.lgJudge (d : Dev) (b : List Nat) : FrameJudged :=
  let n := b.length
  let body := (b.drop 8).take (n - 16)
  let eof := b.drop (n - 8)
  if n % 8 ≠ 0 || n < 24 || b.getD 0 0 ≠ 0xFB || eof.getD 0 0 ≠ 0xDC || leVal ((eof.drop 1).take 4) ≠ crc32c body then .crc
  else
    let station := body.getD 0 0
    let line := leVal ((body.drop 2).take 2)
    let len := leVal ((body.drop 4).take 2)
    let sheet := body.getD 6 0
    if ((b.drop 1).take 7).any (· ≠ 0) || (eof.drop 5).any (· ≠ 0) || 3 < station || body.getD 1 0 ≠ 0 || body.getD 7 0 ≠ 0
        || len ≠ d.get (F.LG_Ss_PIXELS.pixels station) || n ≠ 24 + (len + 7) / 8 * 8 then .format
    else match d.openDesc (0x100 + sheet) with
    | some k =>
      if (d.sheetChans k).contains station && line = d.get (F.SHT_Dd_FILLn.lines k station)
          && line < d.get (F.SHT_Dd_LINES.input_lines k) then .line k station line ((body.drop 8).take len)
      else .order
    | none => .order

/-- LEGACY_FRAME while the receive direction is ALIGNED (R447). -/
def State.legacyFrame (s : State) (b : List Nat) : State :=
  let d := s.dev
  if !d.legacy || !d.domOn 2 || d.rxSt ≠ 4 then s
  else match d.lgJudge b with
  | .crc => { s with dev := (d.countW F.LG_VID_ERRS.crc).lgVideo 2 }
  | .format => { s with dev := d.lgVideo 3 }
  | .order => { s with dev := (d.countW F.LG_VID_ERRS.order).lgVideo 1 }
  | .line k n line px =>
    let s := if d.domOn 1 then (d.lineWrites k n line px).foldl (fun s w => s.writeMem (w.1 / 8) w.2.1 w.2.2) s else s
    { s with dev := (s.dev.credit (d.tagOf k) n line 1).1 }

/-! ### The commands -/

/-- LHB_READ (R434). -/
def execLhbRead (off : Nat) (same : BitVec 16) (early : Bool) (s : State) : Host.Outcome State Fault Refusal :=
  s.onDev (·.lhbRead off same.toNat early)
/-- LHB_WRITE (R435). -/
def execLhbWrite (off : Nat) (v : BitVec 16) (s : State) : Host.Outcome State Fault Refusal := s.onDev (·.lhbWrite off v.toNat)
/-- LEGACY_RUN (R432). -/
def execLegacyRun (s : State) : Host.Outcome State Fault Refusal := s.onDev Dev.lgRun
/-- LEGACY_RUN_CLEAR (R432). -/
def execLegacyRunClear (s : State) : Host.Outcome State Fault Refusal := s.onDev Dev.lgStop
/-- SOFT_RESET (R438). -/
def execSoftReset (s : State) : Host.Outcome State Fault Refusal := s.onDev fun d => d.when d.legacy (·.askHost 3)
/-- LEGACY_WDOG_KICK (R438). -/
def execLegacyWdogKick (s : State) : Host.Outcome State Fault Refusal := s.onDev fun d => d.when d.legacy Dev.wdogKick
/-- VIDEO_EN_WRITE (R440). -/
def execVideoEnWrite (on : Bool) (s : State) : Host.Outcome State Fault Refusal := s.onDev (·.lgVideoEn on)
/-- LOAD (R444). -/
def execLoad (sheet : Byte) (s : State) : Host.Outcome State Fault Refusal := s.onDev (·.lgCommand 1 sheet.toNat)
/-- GO (R444). -/
def execGo (sheet : Byte) (s : State) : Host.Outcome State Fault Refusal := s.onDev (·.lgCommand 2 sheet.toNat)
/-- CANCEL (R444). -/
def execLegacyCancel (sheet : Byte) (s : State) : Host.Outcome State Fault Refusal := s.onDev (·.lgCommand 3 sheet.toNat)
/-- TOP (R445). -/
def execTop (s : State) : Host.Outcome State Fault Refusal := s.onDev Dev.lgTop
/-- LEGACY_FRAME (R447). -/
def execLegacyFrame (f : List Byte) (s : State) : Host.Outcome State Fault Refusal := .next (s.legacyFrame (f.map BitVec.toNat))
/-- LG_FAULT_READ (R442). -/
def execLgFaultRead (same : BitVec 16) (s : State) : Host.Outcome State Fault Refusal := s.onDev (·.lhbRead 0x00A same.toNat false)
/-- LG_TIMER_LO_READ (R443). -/
def execLgTimerLoRead (s : State) : Host.Outcome State Fault Refusal := s.onDev (·.lhbRead 0x00C 0 false)

end Sys2Proof.Machine
end

