-- ==== Sys2Proof/Machine/Dispatch.lean ====
section
/-! DEFINITION. The effect of a command on everything but the queue: one arm per constructor. -/

namespace Sys2Proof.Machine

def exec (i : Instr) (s : State) : Host.Outcome State Fault Refusal :=
  match i with
  | .registerWrite off v wide same => Sys2Proof.Machine.execRegisterWrite off v wide same s
  | .lowHalfRead off wide => Sys2Proof.Machine.execLowHalfRead off wide s
  | .highHalfRead off => Sys2Proof.Machine.execHighHalfRead off s
  | .lowHalfWrite off v => Sys2Proof.Machine.execLowHalfWrite off v s
  | .highHalfWrite off v inTransfer same => Sys2Proof.Machine.execHighHalfWrite off v inTransfer same s
  | .shadowWrite off v inTransfer => Sys2Proof.Machine.execShadowWrite off v inTransfer s
  | .groupCommit off v inTransfer => Sys2Proof.Machine.execGroupCommit off v inTransfer s
  | .barAccessMisaligned bar off size write data => Sys2Proof.Machine.execBarAccessMisaligned bar off size write data s
  | .offDomainAccess off size write => Sys2Proof.Machine.execOffDomainAccess off size write s
  | .unsupportedRequest addr write => Sys2Proof.Machine.execUnsupportedRequest addr write s
  | .bar2Write off v wide inTransfer => Sys2Proof.Machine.execBar2Write off v wide inTransfer s
  | .bar2Read off wide => Sys2Proof.Machine.execBar2Read off wide s
  | .bar4Read off wide => Sys2Proof.Machine.execBar4Read off wide s
  | .bar4Write off v wide => Sys2Proof.Machine.execBar4Write off v wide s
  | .poisonedWrite bar off data => Sys2Proof.Machine.execPoisonedWrite bar off data s
  | .msixUnmask v => Sys2Proof.Machine.execMsixUnmask v s
  | .porstAssert => Sys2Proof.Machine.execPorstAssert s
  | .aonPowerOn => Sys2Proof.Machine.execAonPowerOn s
  | .phase1Start => Sys2Proof.Machine.execPhase1Start s
  | .strapSample pers twsel bootsrc => Sys2Proof.Machine.execStrapSample pers twsel bootsrc s
  | .phaseComplete phase fallback => Sys2Proof.Machine.execPhaseComplete phase fallback s
  | .phaseTimeout phase cause crc => Sys2Proof.Machine.execPhaseTimeout phase cause crc s
  | .engineGo => Sys2Proof.Machine.execEngineGo s
  | .retry => Sys2Proof.Machine.execRetry s
  | .swFullReset force => Sys2Proof.Machine.execSwFullReset force s
  | .swHostReset => Sys2Proof.Machine.execSwHostReset s
  | .perstAssert => Sys2Proof.Machine.execPerstAssert s
  | .pcieHotReset => Sys2Proof.Machine.execPcieHotReset s
  | .pcieLinkDown linkStatus => Sys2Proof.Machine.execPcieLinkDown linkStatus s
  | .functionLevelReset => Sys2Proof.Machine.execFunctionLevelReset s
  | .hostReset => Sys2Proof.Machine.execHostReset s
  | .fullReset => Sys2Proof.Machine.execFullReset s
  | .coreOffHoldEnd => Sys2Proof.Machine.execCoreOffHoldEnd s
  | .hostWdogKick => Sys2Proof.Machine.execHostWdogKick s
  | .hostWdogExpire => Sys2Proof.Machine.execHostWdogExpire s
  | .frdPushStart => Sys2Proof.Machine.execFrdPushStart s
  | .frdPushData v => Sys2Proof.Machine.execFrdPushData v s
  | .frdPushDone => Sys2Proof.Machine.execFrdPushDone s
  | .frdPushAbort => Sys2Proof.Machine.execFrdPushAbort s
  | .frdHeaderComplete hdr => Sys2Proof.Machine.execFrdHeaderComplete hdr s
  | .qspiImageReadDone rest => Sys2Proof.Machine.execQspiImageReadDone rest s
  | .imageCheckDone => Sys2Proof.Machine.execImageCheckDone s
  | .imageDistributed ue => Sys2Proof.Machine.execImageDistributed ue s
  | .frdPushTimeout => Sys2Proof.Machine.execFrdPushTimeout s
  | .frdRetainedUe off => Sys2Proof.Machine.execFrdRetainedUe off s
  | .schedulerSlot t => Sys2Proof.Machine.execSchedulerSlot t s
  | .timeTriggerFire => Sys2Proof.Machine.execTimeTriggerFire s
  | .deferredDispatch => Sys2Proof.Machine.execDeferredDispatch s
  | .noneAction f => Sys2Proof.Machine.execNoneAction f s
  | .moveStart f => Sys2Proof.Machine.execMoveStart f s
  | .moveStop f => Sys2Proof.Machine.execMoveStop f s
  | .moveResume f => Sys2Proof.Machine.execMoveResume f s
  | .speedSet f => Sys2Proof.Machine.execSpeedSet f s
  | .loopSetpoint f => Sys2Proof.Machine.execLoopSetpoint f s
  | .loopEnable f => Sys2Proof.Machine.execLoopEnable f s
  | .loopRelease f => Sys2Proof.Machine.execLoopRelease f s
  | .imageStart f => Sys2Proof.Machine.execImageStart f s
  | .dout f => Sys2Proof.Machine.execDout f s
  | .doutPulseEnd k => Sys2Proof.Machine.execDoutPulseEnd k s
  | .sheetMark f => Sys2Proof.Machine.execSheetMark f s
  | .arm f => Sys2Proof.Machine.execArm f s
  | .disarm f => Sys2Proof.Machine.execDisarm f s
  | .editWrite j => Sys2Proof.Machine.execEditWrite j s
  | .editArm j => Sys2Proof.Machine.execEditArm j s
  | .editDisarm j => Sys2Proof.Machine.execEditDisarm j s
  | .editRead j => Sys2Proof.Machine.execEditRead j s
  | .timeCapture => Sys2Proof.Machine.execTimeCapture s
  | .tallyMark v => Sys2Proof.Machine.execTallyMark v s
  | .encoderEdgeQualify n a b => Sys2Proof.Machine.execEncoderEdgeQualify n a b s
  | .encoderEdgeApply n => Sys2Proof.Machine.execEncoderEdgeApply n s
  | .encoderIndex n rising => Sys2Proof.Machine.execEncoderIndex n rising s
  | .encoderRebase n => Sys2Proof.Machine.execEncoderRebase n s
  | .descriptorWrite off v wide => Sys2Proof.Machine.execDescriptorWrite off v wide s
  | .sheetOpen d => Sys2Proof.Machine.execSheetOpen d s
  | .sheetAdmit d => Sys2Proof.Machine.execSheetAdmit d s
  | .sheetCancel d => Sys2Proof.Machine.execSheetCancel d s
  | .sheetSpoil d => Sys2Proof.Machine.execSheetSpoil d s
  | .sheetRelease d => Sys2Proof.Machine.execSheetRelease d s
  | .runoutExpire d => Sys2Proof.Machine.execRunoutExpire d s
  | .postResetRearm => Sys2Proof.Machine.execPostResetRearm s
  | .rxSignalDetect => Sys2Proof.Machine.execRxSignalDetect s
  | .rxLanesLocked r => Sys2Proof.Machine.execRxLanesLocked r s
  | .rxDeskewDone r => Sys2Proof.Machine.execRxDeskewDone r s
  | .rxLockLost cause => Sys2Proof.Machine.execRxLockLost cause s
  | .tsReceived ts => Sys2Proof.Machine.execTsReceived ts s
  | .equaliserAdaptDone => Sys2Proof.Machine.execEqualiserAdaptDone s
  | .eyeRemeasure lane eye centre => Sys2Proof.Machine.execEyeRemeasure lane eye centre s
  | .txReceiverDetect present => Sys2Proof.Machine.execTxReceiverDetect present s
  | .ts3Sent => Sys2Proof.Machine.execTs3Sent s
  | .elasticError lane overflow => Sys2Proof.Machine.execElasticError lane overflow s
  | .rxRetrain force => Sys2Proof.Machine.execRxRetrain force s
  | .txRetrain force => Sys2Proof.Machine.execTxRetrain force s
  | .rxSleep force => Sys2Proof.Machine.execRxSleep force s
  | .txSleep force => Sys2Proof.Machine.execTxSleep force s
  | .rxWake => Sys2Proof.Machine.execRxWake s
  | .txWake => Sys2Proof.Machine.execTxWake s
  | .rxTest force => Sys2Proof.Machine.execRxTest force s
  | .txTest force => Sys2Proof.Machine.execTxTest force s
  | .testExit => Sys2Proof.Machine.execTestExit s
  | .manualDone => Sys2Proof.Machine.execManualDone s
  | .checkerClear lane => Sys2Proof.Machine.execCheckerClear lane s
  | .injectSingle lane => Sys2Proof.Machine.execInjectSingle lane s
  | .injectPeriodic lane => Sys2Proof.Machine.execInjectPeriodic lane s
  | .ringFrameReceived f ctls => Sys2Proof.Machine.execRingFrameReceived f ctls s
  | .query stream => Sys2Proof.Machine.execQuery stream s
  | .note stream v => Sys2Proof.Machine.execNote stream v s
  | .controlUnitReceived u => Sys2Proof.Machine.execControlUnitReceived u s
  | .noteTx v => Sys2Proof.Machine.execNoteTx v s
  | .ackInterval => Sys2Proof.Machine.execAckInterval s
  | .ownSymbolInsert => Sys2Proof.Machine.execOwnSymbolInsert s
  | .forwardBufferOverflow part => Sys2Proof.Machine.execForwardBufferOverflow part s
  | .queueEnable q cfg => Sys2Proof.Machine.execQueueEnable q cfg s
  | .queueDisable q => Sys2Proof.Machine.execQueueDisable q s
  | .dmaEnable => Sys2Proof.Machine.execDmaEnable s
  | .dmaDisable => Sys2Proof.Machine.execDmaDisable s
  | .dmaStart q addr => Sys2Proof.Machine.execDmaStart q addr s
  | .dmaAppend q v => Sys2Proof.Machine.execDmaAppend q v s
  | .dmaAbort q => Sys2Proof.Machine.execDmaAbort q s
  | .queueGrant => Sys2Proof.Machine.execQueueGrant s
  | .descriptorFetched q words => Sys2Proof.Machine.execDescriptorFetched q words s
  | .dmaReadCompletion q c => Sys2Proof.Machine.execDmaReadCompletion q c s
  | .descriptorComplete q => Sys2Proof.Machine.execDescriptorComplete q s
  | .ringFrameMoved q => Sys2Proof.Machine.execRingFrameMoved q s
  | .guardStallRelease q => Sys2Proof.Machine.execGuardStallRelease q s
  | .guardTimeout q => Sys2Proof.Machine.execGuardTimeout q s
  | .dmaRegionWrite off v => Sys2Proof.Machine.execDmaRegionWrite off v s
  | .readPortWord n word => Sys2Proof.Machine.execReadPortWord n word s
  | .scrubWord => Sys2Proof.Machine.execScrubWord s
  | .ceWindowRestart => Sys2Proof.Machine.execCeWindowRestart s
  | .injectArm => Sys2Proof.Machine.execInjectArm s
  | .screenScan n bad => Sys2Proof.Machine.execScreenScan n bad s
  | .digestDone n => Sys2Proof.Machine.execDigestDone n s
  | .probeStart n v => Sys2Proof.Machine.execProbeStart n v s
  | .probeDone n mismatch => Sys2Proof.Machine.execProbeDone n mismatch s
  | .tableScrub n word => Sys2Proof.Machine.execTableScrub n word s
  | .scanStart n => Sys2Proof.Machine.execScanStart n s
  | .bdEdge n t64 rising => Sys2Proof.Machine.execBdEdge n t64 rising s
  | .bdWindowClose n => Sys2Proof.Machine.execBdWindowClose n s
  | .sctEnable n on => Sys2Proof.Machine.execSctEnable n on s
  | .gridWrite n period v => Sys2Proof.Machine.execGridWrite n period v s
  | .pxsFreqWrite n m => Sys2Proof.Machine.execPxsFreqWrite n m s
  | .mapCopyDone n => Sys2Proof.Machine.execMapCopyDone n s
  | .slotFramesSend n => Sys2Proof.Machine.execSlotFramesSend n s
  | .markSend n => Sys2Proof.Machine.execMarkSend n s
  | .permitUnitPeriodic n => Sys2Proof.Machine.execPermitUnitPeriodic n s
  | .hello n u => Sys2Proof.Machine.execHello n u s
  | .tsAck n u => Sys2Proof.Machine.execTsAck n u s
  | .probeSend n => Sys2Proof.Machine.execProbeSend n s
  | .echo n u rtt => Sys2Proof.Machine.execEcho n u rtt s
  | .echoTimeout n => Sys2Proof.Machine.execEchoTimeout n s
  | .ready n => Sys2Proof.Machine.execReady n s
  | .readyTimeout n => Sys2Proof.Machine.execReadyTimeout n s
  | .status n u => Sys2Proof.Machine.execStatus n u s
  | .alert n u => Sys2Proof.Machine.execAlert n u s
  | .backChannelTimeout n => Sys2Proof.Machine.execBackChannelTimeout n s
  | .retrain v => Sys2Proof.Machine.execRetrain v s
  | .channelDisable n force => Sys2Proof.Machine.execChannelDisable n force s
  | .channelEnable n => Sys2Proof.Machine.execChannelEnable n s
  | .permitReqWrite n v => Sys2Proof.Machine.execPermitReqWrite n v s
  | .interlockOpen n src => Sys2Proof.Machine.execInterlockOpen n src s
  | .strobeWatchdogTrip n => Sys2Proof.Machine.execStrobeWatchdogTrip n s
  | .dmoStuck n high => Sys2Proof.Machine.execDmoStuck n high s
  | .pwmPeriodStart a => Sys2Proof.Machine.execPwmPeriodStart a s
  | .currentSample a iu iv => Sys2Proof.Machine.execCurrentSample a iu iv s
  | .alignDone a => Sys2Proof.Machine.execAlignDone a s
  | .rampTimeout a => Sys2Proof.Machine.execRampTimeout a s
  | .brakeTimeout a => Sys2Proof.Machine.execBrakeTimeout a s
  | .catchTimeout a => Sys2Proof.Machine.execCatchTimeout a s
  | .restartDelay a => Sys2Proof.Machine.execRestartDelay a s
  | .slewDone a => Sys2Proof.Machine.execSlewDone a s
  | .setpointWrite a v => Sys2Proof.Machine.execSetpointWrite a v s
  | .bldEnable a => Sys2Proof.Machine.execBldEnable a s
  | .bldDisable a => Sys2Proof.Machine.execBldDisable a s
  | .bldClearFault a => Sys2Proof.Machine.execBldClearFault a s
  | .dcbSample m v => Sys2Proof.Machine.execDcbSample m v s
  | .dcbOvervoltageTrip m => Sys2Proof.Machine.execDcbOvervoltageTrip m s
  | .dcbComparatorClear m => Sys2Proof.Machine.execDcbComparatorClear m s
  | .profilePeriod m => Sys2Proof.Machine.execProfilePeriod m s
  | .chopperPeriodStart m => Sys2Proof.Machine.execChopperPeriodStart m s
  | .chopperComparatorTrip m coilB => Sys2Proof.Machine.execChopperComparatorTrip m coilB s
  | .chopperOffEnd m coilB => Sys2Proof.Machine.execChopperOffEnd m coilB s
  | .holdDelayExpire m => Sys2Proof.Machine.execHoldDelayExpire m s
  | .inputQualify j level => Sys2Proof.Machine.execInputQualify j level s
  | .limitApply m => Sys2Proof.Machine.execLimitApply m s
  | .stpStart m r => Sys2Proof.Machine.execStpStart m r s
  | .stpStop m => Sys2Proof.Machine.execStpStop m s
  | .stpResume m => Sys2Proof.Machine.execStpResume m s
  | .home m => Sys2Proof.Machine.execHome m s
  | .stpEnable m => Sys2Proof.Machine.execStpEnable m s
  | .stpDisable m => Sys2Proof.Machine.execStpDisable m s
  | .stpClearFault m => Sys2Proof.Machine.execStpClearFault m s
  | .sampleBoundary k code => Sys2Proof.Machine.execSampleBoundary k code s
  | .outputHandover k => Sys2Proof.Machine.execOutputHandover k s
  | .outputPeriodStart o => Sys2Proof.Machine.execOutputPeriodStart o s
  | .satTimeout k => Sys2Proof.Machine.execSatTimeout k s
  | .loopCmdEnable k => Sys2Proof.Machine.execLoopCmdEnable k s
  | .loopCmdRelease k => Sys2Proof.Machine.execLoopCmdRelease k s
  | .loopCmdApplyRecord k r => Sys2Proof.Machine.execLoopCmdApplyRecord k r s
  | .loopSetpointWrite k v => Sys2Proof.Machine.execLoopSetpointWrite k v s
  | .loopOutputCfgWrite o v => Sys2Proof.Machine.execLoopOutputCfgWrite o v s
  | .conversionBoundary => Sys2Proof.Machine.execConversionBoundary s
  | .conversionEnd code onDie => Sys2Proof.Machine.execConversionEnd code onDie s
  | .clearMax => Sys2Proof.Machine.execClearMax s
  | .powerStepDone => Sys2Proof.Machine.execPowerStepDone s
  | .powerStepTimeout => Sys2Proof.Machine.execPowerStepTimeout s
  | .pgLost kind index => Sys2Proof.Machine.execPgLost kind index s
  | .standby => Sys2Proof.Machine.execStandby s
  | .wake => Sys2Proof.Machine.execWake s
  | .channelPowerOff mask force => Sys2Proof.Machine.execChannelPowerOff mask force s
  | .channelPowerOn mask => Sys2Proof.Machine.execChannelPowerOn mask s
  | .powerFailWarning => Sys2Proof.Machine.execPowerFailWarning s
  | .pfailClear => Sys2Proof.Machine.execPfailClear s
  | .holdupExpire => Sys2Proof.Machine.execHoldupExpire s
  | .parkRestart => Sys2Proof.Machine.execParkRestart s
  | .inputCollapse => Sys2Proof.Machine.execInputCollapse s
  | .supplyRecovery => Sys2Proof.Machine.execSupplyRecovery s
  | .refclkGood => Sys2Proof.Machine.execRefclkGood s
  | .refclkLost missing count => Sys2Proof.Machine.execRefclkLost missing count s
  | .clkRefCfgWrite v => Sys2Proof.Machine.execClkRefCfgWrite v s
  | .loopLock j => Sys2Proof.Machine.execLoopLock j s
  | .loopUnlock j => Sys2Proof.Machine.execLoopUnlock j s
  | .clockMonitorTrip j => Sys2Proof.Machine.execClockMonitorTrip j s
  | .relockTimeout j => Sys2Proof.Machine.execRelockTimeout j s
  | .faultRecord => Sys2Proof.Machine.execFaultRecord s
  | .shadowEnd => Sys2Proof.Machine.execShadowEnd s
  | .fltAck v => Sys2Proof.Machine.execFltAck v s
  | .quietExpire j => Sys2Proof.Machine.execQuietExpire j s
  | .aliveToggle => Sys2Proof.Machine.execAliveToggle s
  | .collectorRefresh => Sys2Proof.Machine.execCollectorRefresh s
  | .latchClear => Sys2Proof.Machine.execLatchClear s
  | .estopOpen => Sys2Proof.Machine.execEstopOpen s
  | .estopClose => Sys2Proof.Machine.execEstopClose s
  | .urgDmaHalt => Sys2Proof.Machine.execUrgDmaHalt s
  | .urgPermitOff => Sys2Proof.Machine.execUrgPermitOff s
  | .urgEngineStop => Sys2Proof.Machine.execUrgEngineStop s
  | .urgDoorbellRefused v full => Sys2Proof.Machine.execUrgDoorbellRefused v full s
  | .qspiCommand v => Sys2Proof.Machine.execQspiCommand v s
  | .qspiCommandDone data => Sys2Proof.Machine.execQspiCommandDone data s
  | .beatSend => Sys2Proof.Machine.execBeatSend s
  | .beat m => Sys2Proof.Machine.execBeat m s
  | .twinHello m => Sys2Proof.Machine.execTwinHello m s
  | .inputUnit u => Sys2Proof.Machine.execInputUnit u s
  | .hostMsg m => Sys2Proof.Machine.execHostMsg m s
  | .agreedInputApply => Sys2Proof.Machine.execAgreedInputApply s
  | .turn m => Sys2Proof.Machine.execTurn m s
  | .turnRequest => Sys2Proof.Machine.execTurnRequest s
  | .scheduledTurn => Sys2Proof.Machine.execScheduledTurn s
  | .epochRequest => Sys2Proof.Machine.execEpochRequest s
  | .epochStart => Sys2Proof.Machine.execEpochStart s
  | .epochData m => Sys2Proof.Machine.execEpochData m s
  | .epochEnd m => Sys2Proof.Machine.execEpochEnd m s
  | .epochAck m => Sys2Proof.Machine.execEpochAck m s
  | .adopt m => Sys2Proof.Machine.execAdopt m s
  | .epochDiscard => Sys2Proof.Machine.execEpochDiscard s
  | .joinPoint => Sys2Proof.Machine.execJoinPoint s
  | .snap m => Sys2Proof.Machine.execSnap m s
  | .snapshotApply => Sys2Proof.Machine.execSnapshotApply s
  | .partnerAbsent => Sys2Proof.Machine.execPartnerAbsent s
  | .twinLaneDown lane => Sys2Proof.Machine.execTwinLaneDown lane s
  | .twinSoloTimeout => Sys2Proof.Machine.execTwinSoloTimeout s
  | .tokenRefresh => Sys2Proof.Machine.execTokenRefresh s
  | .tokenLatchTimeout => Sys2Proof.Machine.execTokenLatchTimeout s
  | .authPinChange a b => Sys2Proof.Machine.execAuthPinChange a b s
  | .disagreementResolve => Sys2Proof.Machine.execDisagreementResolve s
  | .holdLimit => Sys2Proof.Machine.execHoldLimit s
  | .lhbRead off same early => Sys2Proof.Machine.execLhbRead off same early s
  | .lhbWrite off v => Sys2Proof.Machine.execLhbWrite off v s
  | .legacyRun => Sys2Proof.Machine.execLegacyRun s
  | .legacyRunClear => Sys2Proof.Machine.execLegacyRunClear s
  | .softReset => Sys2Proof.Machine.execSoftReset s
  | .legacyWdogKick => Sys2Proof.Machine.execLegacyWdogKick s
  | .videoEnWrite on => Sys2Proof.Machine.execVideoEnWrite on s
  | .load sheet => Sys2Proof.Machine.execLoad sheet s
  | .go sheet => Sys2Proof.Machine.execGo sheet s
  | .legacyCancel sheet => Sys2Proof.Machine.execLegacyCancel sheet s
  | .top => Sys2Proof.Machine.execTop s
  | .legacyFrame f => Sys2Proof.Machine.execLegacyFrame f s
  | .lgFaultRead same => Sys2Proof.Machine.execLgFaultRead same s
  | .lgTimerLoRead => Sys2Proof.Machine.execLgTimerLoRead s
  | .reload => Sys2Proof.Machine.execReload s
  | .calWalkDone bankA bankB => Sys2Proof.Machine.execCalWalkDone bankA bankB s
  | .calRecordApply => Sys2Proof.Machine.execCalRecordApply s
  | .completionTimeout q => Sys2Proof.Machine.execCompletionTimeout q s
  | .twinLaneUp lane => Sys2Proof.Machine.execTwinLaneUp lane s
  | .pcieLinkUp speed width => Sys2Proof.Machine.execPcieLinkUp speed width s
  | .join m => Sys2Proof.Machine.execJoin m s
  | .converterSelfTest off => Sys2Proof.Machine.execConverterSelfTest off s
  | .homeLimitRawEdge m => Sys2Proof.Machine.execHomeLimitRawEdge m s

end Sys2Proof.Machine
end

