-- ==== Sys2Proof/Machine/Tick.lean ====
section
/-! DEFINITION. What the block does while no command waits, and where a command spelled by a word goes. -/

namespace Sys2Proof.Machine

/-- One tick of the 125 MHz time base with no command waiting: 8 ns pass (R76); a timed shut-down that waits for the last sheet
begins (R343), and a DRAIN_RESET that no sheet holds ends (R73). -/
def State.tick (s : State) : State :=
  ({ s with dev := (s.dev.advance 1).drainEnd } : State).idleCheck

/-- Put a command at the front of the queue. -/
def State.pushFront (s : State) (c : Instr) : State := { s with pending := c :: s.pending }

end Sys2Proof.Machine
end

