-- ==== Sys2Proof/WellFormed.lean ====
section
/-! DEFINITION. What a command's operands must be for it to be one the block can see: places inside their BAR and aligned, units
and frames of whole units, codes within their converter's range. A command outside it stands for nothing on the pins. -/

namespace Sys2Proof

/-- A byte offset inside a BAR (R17, R21, R24): 16 MiB, 64 MiB, 1 GiB. -/
def inBar (bar off : Nat) : Bool := off < (if bar = 0 then 2 ^ 24 else if bar = 2 then 2 ^ 26 else 2 ^ 30)

/-- A naturally aligned 32-bit or 64-bit place (R19). -/
def widthOk (off : Nat) (wide : Bool) : Bool := off % (if wide then 8 else 4) = 0

/-- A 32-bit place of BAR0 or of configuration space (from 0x0200_0000 in this model's numbering). -/
def hostPlaceOk (off : Nat) : Bool := off % 4 = 0 && (inBar 0 off || (0x2000000 ≤ off && off < 0x2001000))

/-- A bring-up phase (R61). -/
def phaseOk (p : Nat) : Bool := 1 ≤ p && p ≤ 12

/-- A word of user memory (R160). -/
def wordOk (w : Nat) : Bool := w < 2 ^ 27

/-- A 12-bit converter code around zero (R261). -/
def code12 (c : Int) : Bool := -2048 ≤ c && c < 2048

/-- A legacy bus offset (R433, R439): LHB_A1 to LHB_A10. -/
def lhbOk (off : Nat) : Bool := off % 2 = 0 && off < 0x800

/-- The fields of an event entry that a firing carries (R83). -/
def Firing.wf (f : Firing) : Bool := f.idx < 4096 && f.target < 256 && f.arg < 65536 && f.tag < 65536 && f.delivered < 2 ^ 64

/-- A training sequence is 14 bytes (R129); an eye is at most 128 taps wide, its centre one of them (R124). -/
def LaneSeen.wf (l : LaneSeen) : Bool := l.ts.length = 14 && l.eye ≤ 128 && l.tap < 128

/-- The unit that ends a frame. -/
def FrameEnd.wf : FrameEnd → Bool
  | .eof u => u.length = 8
  | .eofs u => u.length = 8
  | .cut => true

/-- A frame is made of 8-byte units (R142, R143). -/
def RingFrame.wf (f : RingFrame) : Bool := f.units.all (fun u => u.length = 8) && f.fin.wf

/-- A well-formed command. -/
def Instr.wf : Instr → Bool
  | .registerWrite off _ wide _ => (inBar 0 off && widthOk off wide) || (!wide && hostPlaceOk off)
  | .lowHalfRead off wide => hostPlaceOk off && (!wide || inBar 0 off && off % 8 = 0)
  | .highHalfRead off => hostPlaceOk off
  | .lowHalfWrite off _ => inBar 0 off && off % 4 = 0
  | .highHalfWrite off _ _ _ => inBar 0 off && off % 4 = 0
  | .shadowWrite off _ _ => inBar 0 off && off % 4 = 0
  | .groupCommit off _ _ => inBar 0 off && off % 4 = 0
  | .barAccessMisaligned bar off size write data =>
    inBar (2 * bar) off && 1 ≤ size && size ≤ 4096 && (!write || data.length = size)
  | .offDomainAccess off size _ => inBar 0 off && (size = 4 || size = 8) && off % size = 0
  | .bar2Write off _ wide _ => inBar 2 off && widthOk off wide
  | .bar2Read off wide => inBar 2 off && widthOk off wide
  | .bar4Read off wide => inBar 4 off && widthOk off wide
  | .bar4Write off _ wide => inBar 4 off && widthOk off wide
  | .poisonedWrite bar off data => inBar (2 * bar) off && off % 4 = 0 && data.length ≤ 1024
  | .phaseComplete p _ => phaseOk p
  | .phaseTimeout p _ _ => phaseOk p
  | .frdHeaderComplete hdr => hdr.length = 64
  | .noneAction f => f.wf
  | .moveStart f => f.wf
  | .moveStop f => f.wf
  | .moveResume f => f.wf
  | .speedSet f => f.wf
  | .loopSetpoint f => f.wf
  | .loopEnable f => f.wf
  | .loopRelease f => f.wf
  | .imageStart f => f.wf
  | .dout f => f.wf
  | .sheetMark f => f.wf
  | .arm f => f.wf
  | .disarm f => f.wf
  | .descriptorWrite off _ wide => 0x34000 ≤ off && off < 0x38000 && widthOk off wide
  | .rxLanesLocked r => r.lanes.length ≤ 8 && r.lanes.all LaneSeen.wf
  | .rxDeskewDone r => r.skews.length ≤ 8
  | .tsReceived ts => ts.length = 14
  | .eyeRemeasure _ eye _ => eye ≤ 128
  | .ringFrameReceived f ctls => f.wf && ctls.all fun c => c.2.length = 8
  | .forwardBufferOverflow part => part.all fun u => u.length = 8
  | .controlUnitReceived u => u.length = 8
  | .descriptorFetched _ words => words.length ≤ 8
  | .dmaReadCompletion _ c => c.data.length ≤ 512
  | .dmaRegionWrite off _ => 0x40000 ≤ off && off < 0x50000 && off % 4 = 0
  | .readPortWord _ word => wordOk word
  | .tableScrub _ word => word < 66048
  | .hello _ u => u.length = 8
  | .tsAck _ u => u.length = 8
  | .echo _ u _ => u.length = 8
  | .status _ u => u.length = 8
  | .alert _ u => u.length = 8
  | .interlockOpen _ src => 1 ≤ src && src ≤ 34
  | .currentSample _ iu iv => code12 iu && code12 iv
  | .sampleBoundary _ code => 0 ≤ code && code < 16384
  | .qspiCommandDone data => data.length ≤ 256
  | .beat m => m.frame.wf
  | .twinHello m => m.frame.wf
  | .inputUnit u => u.bytes.length = 8
  | .hostMsg m => m.frame.wf
  | .turn m => m.all fun x => x.frame.wf
  | .epochData m => m.frame.wf
  | .epochEnd m => m.frame.wf
  | .epochAck m => m.frame.wf
  | .adopt m => m.all fun x => x.frame.wf
  | .snap m => m.frame.wf
  | .lhbRead off _ _ => lhbOk off
  | .lhbWrite off _ => lhbOk off
  | .legacyFrame f => 8 ∣ f.length
  | .calWalkDone a b => a.length ≤ 0x20000 && b.length ≤ 0x20000
  | .pcieLinkUp speed width => 1 ≤ speed && speed ≤ 4 && (width = 1 || width = 2 || width = 4)
  | .join m => m.frame.wf
  | .unsupportedRequest _ _ | .msixUnmask _ | .porstAssert | .aonPowerOn | .phase1Start | .strapSample _ _ _ | .engineGo |
    .retry | .swFullReset _ | .swHostReset | .perstAssert | .pcieHotReset | .pcieLinkDown _ | .functionLevelReset |
    .hostReset | .fullReset | .coreOffHoldEnd | .hostWdogKick | .hostWdogExpire | .frdPushStart | .frdPushData _ |
    .frdPushDone | .frdPushAbort | .qspiImageReadDone _ | .imageCheckDone | .imageDistributed _ | .frdPushTimeout |
    .frdRetainedUe _ | .schedulerSlot _ | .timeTriggerFire | .deferredDispatch | .doutPulseEnd _ | .editWrite _ |
    .editArm _ | .editDisarm _ | .editRead _ | .timeCapture | .tallyMark _ | .encoderEdgeQualify _ _ _ |
    .encoderEdgeApply _ | .encoderIndex _ _ | .encoderRebase _ | .sheetOpen _ | .sheetAdmit _ | .sheetCancel _ |
    .sheetSpoil _ | .sheetRelease _ | .runoutExpire _ | .postResetRearm | .rxSignalDetect | .rxLockLost _ |
    .equaliserAdaptDone | .txReceiverDetect _ | .ts3Sent | .elasticError _ _ | .rxRetrain _ | .txRetrain _ | .rxSleep _ |
    .txSleep _ | .rxWake | .txWake | .rxTest _ | .txTest _ | .testExit | .manualDone | .checkerClear _ | .injectSingle _ |
    .injectPeriodic _ | .query _ | .note _ _ | .noteTx _ | .ackInterval | .ownSymbolInsert |
    .queueEnable _ _ | .queueDisable _ | .dmaEnable | .dmaDisable | .dmaStart _ _ | .dmaAppend _ _ | .dmaAbort _ |
    .queueGrant | .descriptorComplete _ | .ringFrameMoved _ | .guardStallRelease _ | .guardTimeout _ | .scrubWord |
    .ceWindowRestart | .injectArm | .screenScan _ _ | .digestDone _ | .probeStart _ _ | .probeDone _ _ | .scanStart _ |
    .bdEdge _ _ _ | .bdWindowClose _ | .sctEnable _ _ | .gridWrite _ _ _ | .pxsFreqWrite _ _ | .mapCopyDone _ |
    .slotFramesSend _ | .markSend _ | .permitUnitPeriodic _ | .probeSend _ | .echoTimeout _ | .ready _ | .readyTimeout _ |
    .backChannelTimeout _ | .retrain _ | .channelDisable _ _ | .channelEnable _ | .permitReqWrite _ _ |
    .strobeWatchdogTrip _ | .dmoStuck _ _ | .pwmPeriodStart _ | .alignDone _ | .rampTimeout _ | .brakeTimeout _ |
    .catchTimeout _ | .restartDelay _ | .slewDone _ | .setpointWrite _ _ | .bldEnable _ | .bldDisable _ | .bldClearFault _ |
    .dcbSample _ _ | .dcbOvervoltageTrip _ | .dcbComparatorClear _ | .profilePeriod _ | .chopperPeriodStart _ |
    .chopperComparatorTrip _ _ | .chopperOffEnd _ _ | .holdDelayExpire _ | .inputQualify _ _ | .limitApply _ |
    .stpStart _ _ | .stpStop _ | .stpResume _ | .home _ | .stpEnable _ | .stpDisable _ | .stpClearFault _ |
    .outputHandover _ | .outputPeriodStart _ | .satTimeout _ | .loopCmdEnable _ | .loopCmdRelease _ |
    .loopCmdApplyRecord _ _ | .loopSetpointWrite _ _ | .loopOutputCfgWrite _ _ | .conversionBoundary | .conversionEnd _ _ |
    .clearMax | .powerStepDone | .powerStepTimeout | .pgLost _ _ | .standby | .wake | .channelPowerOff _ _ |
    .channelPowerOn _ | .powerFailWarning | .pfailClear | .holdupExpire | .parkRestart | .inputCollapse | .supplyRecovery |
    .refclkGood | .refclkLost _ _ | .clkRefCfgWrite _ | .loopLock _ | .loopUnlock _ | .clockMonitorTrip _ |
    .relockTimeout _ | .faultRecord | .shadowEnd | .fltAck _ | .quietExpire _ | .aliveToggle | .collectorRefresh |
    .latchClear | .estopOpen | .estopClose | .urgDmaHalt | .urgPermitOff | .urgEngineStop | .urgDoorbellRefused _ _ |
    .qspiCommand _ | .beatSend | .agreedInputApply | .turnRequest | .scheduledTurn | .epochRequest | .epochStart |
    .epochDiscard | .joinPoint | .snapshotApply | .partnerAbsent | .twinLaneDown _ | .twinSoloTimeout | .tokenRefresh |
    .tokenLatchTimeout | .authPinChange _ _ | .disagreementResolve | .holdLimit | .legacyRun | .legacyRunClear |
    .softReset | .legacyWdogKick | .videoEnWrite _ | .load _ | .go _ | .legacyCancel _ | .top | .lgFaultRead _ |
    .lgTimerLoRead | .reload | .calRecordApply | .completionTimeout _ | .twinLaneUp _ | .converterSelfTest _ |
    .homeLimitRawEdge _ => true

end Sys2Proof
end

