-- ==== Sys2Proof/Safety.lean ====
section
/-! DEFINITION. What counts as a safe run, and the notions that claims share: completion, the frame of a command, the invariant. -/

namespace Sys2Proof.Machine

/-- A command completes: it ends in a next state, of which P holds. -/
def Completes (o : Host.Outcome State Fault Refusal) (P : State → Prop) : Prop := ∃ t, o = .next t ∧ P t

/-- The pieces of the device: one register (by offset), one active copy, one group's ready mark, one table word, one channel,
one axis ..., and for what no register shows one piece per unit. Engine time and the other registers are `reg`; `clock` is the
count of device ticks, `recs` the Tally records and `strobes` the record strobes that wait. -/
inductive Part where
  | reg (off : Nat) | act (off : Nat) | rdy (off : Nat) | actTbl (off : Nat) | tbl (off : Nat) | tblChk (off : Nat)
  | out | free | clock | sys | frd | recs | evt | sht | strobes | flt | host
  | ch (n : Nat) | bld (a : Nat) | dcb (m : Nat) | stp (m : Nat) | inp (k : Nat) | loop (k : Nat) | outU (o : Nat)
  | twn | memx | dmaq (q : Nat) | dmaLast | rng | tblMark | tmp | clk | pwr | cal | lg
  deriving DecidableEq, Repr

/-- A piece is the same in both devices. -/
def Part.kept (d e : Dev) : Part → Prop
  | .reg o => ∀ r : Reg, r.off = o → e.rd r = d.rd r
  | .act o => ∀ r : Reg, r.off = o → e.act r = d.act r
  | .rdy o => Store.get false e.ready o = Store.get false d.ready o
  | .actTbl o => Store.get 0#64 e.actTbl o = Store.get 0#64 d.actTbl o
  | .tbl o => e.tw o = d.tw o
  | .tblChk o => Store.get 0#8 e.tblChk o = Store.get 0#8 d.tblChk o
  | .out => e.out = d.out
  | .free => e.free = d.free
  | .clock => e.sys.now8 = d.sys.now8
  | .sys => { e.sys with now8 := 0 } = { d.sys with now8 := 0 }
  | .frd => e.frd = d.frd
  | .recs => e.evt.recs = d.evt.recs
  | .evt => { e.evt with recs := [] } = { d.evt with recs := [] }
  | .sht => e.sht = d.sht
  | .strobes => e.flt.strobes = d.flt.strobes
  | .flt => { e.flt with strobes := [] } = { d.flt with strobes := [] }
  | .host => e.host = d.host
  | .ch n => Store.get {} e.ch n = Store.get {} d.ch n
  | .bld a => Store.get {} e.bld a = Store.get {} d.bld a
  | .dcb m => Store.get {} e.dcb m = Store.get {} d.dcb m
  | .stp m => Store.get {} e.stp m = Store.get {} d.stp m
  | .inp k => Store.get {} e.inp k = Store.get {} d.inp k
  | .loop k => Store.get {} e.loop k = Store.get {} d.loop k
  | .outU o => Store.get {} e.outU o = Store.get {} d.outU o
  | .twn => e.twn = d.twn
  | .memx => e.memx = d.memx
  | .dmaq q => Store.get {} e.dmaq q = Store.get {} d.dmaq q
  | .dmaLast => e.dmaLast = d.dmaLast
  | .rng => e.rng = d.rng
  | .tblMark => e.tblMark = d.tblMark
  | .tmp => e.tmp = d.tmp
  | .clk => e.clk = d.clk
  | .pwr => e.pwr = d.pwr
  | .cal => e.cal = d.cal
  | .lg => e.lg = d.lg

/-- The frame of a change of the device: every piece but the named ones is the same. -/
def Dev.Frame (ps : List Part) (d e : Dev) : Prop := ∀ p, p ∉ ps → p.kept d e

/-- The named pieces are the same. -/
def Dev.Kept (ps : List Part) (d e : Dev) : Prop := ∀ p ∈ ps, p.kept d e

/-- The frame of a change of the state: every piece of the device but the named ones, every byte of user memory with its
check field, and the queue are the same. -/
def State.Frame (ps : List Part) (s t : State) : Prop :=
  s.dev.Frame ps t.dev ∧ (∀ a, t.mem.byte a = s.mem.byte a) ∧ (∀ w, t.mem.syn w = s.mem.syn w) ∧ t.pending = s.pending

/-- What the passing of time changes: the count of device ticks, engine time and SYS_SECONDS. -/
def timeParts : List Part := [.clock, .reg R.EVT_TIME.off, .reg R.SYS_SECONDS.off]

/-- What posting an interrupt changes: a message leaves, or a pending bit sets. -/
def irqParts : List Part := [.out, .reg R.MSIX_PBA.off]

/-- What strobing a record of a source changes: the strobes that wait, or the source's count of merged ones. -/
def strobeParts (src : Nat) : List Part := [.strobes, .reg (R.FLT_SRCi_STATE src).off]

/-- A free value has been used. -/
def freeParts : List Part := [.free]

/-- The host reaches a register and the register takes what is written at once: the endpoint answers (R409), the function is not in
D3hot (R408), the register's domain is on (R20), and the device is in Single grade or not yet in a pair (R388). -/
abbrev Dev.direct (d : Dev) (off : Nat) : Prop :=
  d.endpoint = true ∧ d.host.d3 = false ∧ d.domOn (domainOf off) = true ∧ (d.twin = false ∨ d.get F.TWN_STATUS.state < 2)

/-- What a host-port error changes: its bit, its count, one record under bit 34 (R411, R428). -/
def hostErrParts : List Part :=
  [.reg R.SYS_CFG_HOST_ERR.off, .reg R.SYS_CFG_HOST_COUNTS.off, .host] ++ strobeParts 34

/-- Every byte of user memory outside the named 64-bit words, and the check field of every other word, is the same. -/
def State.MemFrame (ws : List Nat) (s t : State) : Prop :=
  (∀ a, a / 8 ∉ ws → t.mem.byte a = s.mem.byte a) ∧ ∀ w, w ∉ ws → t.mem.syn w = s.mem.syn w

/-- The Tally record of a firing, kind 0x01 (R79, R88). -/
def firingRec (code : Nat) (f : Firing) (refused : Bool) : SlotRec :=
  ⟨3, f.delivered, b2n f.enc, f.idx, 1, 0, f.tag, f.target <<< 24 + code <<< 16 + f.idx,
    b2n refused * 2 ^ 18 + b2n f.enc * 2 ^ 17 + b2n f.late * 2 ^ 16 + f.arg, f.delivered⟩

/-- The invariant of every step: user memory is in canonical form. -/
abbrev State.Inv (s : State) : Prop := s.mem.wf = true

end Sys2Proof.Machine
end

