-- ==== Sys2Proof/Certificates/Slice0/Obligations.lean ====
section
/-! DEFINITION. The obligations: what the spec's rules say each command does, what it leaves alone, and where it completes; the
whole-machine statements stand first. The definitions before them are words that several obligations share. -/

section

open Sys2Proof Sys2Proof.Machine

namespace Sys2Proof.Claims

/-- The commands that write user memory, move what it holds, or switch the CORE or MEM domain; every other command acts on the
device alone. -/
def mayTouchMemory : Instr → Bool
  | .registerWrite .. | .lowHalfRead .. | .highHalfRead .. | .lowHalfWrite .. | .highHalfWrite .. | .shadowWrite .. | .groupCommit ..
  | .barAccessMisaligned .. | .offDomainAccess .. | .bar2Write .. | .bar2Read .. | .bar4Read .. | .bar4Write .. | .poisonedWrite ..
  | .msixUnmask .. | .porstAssert | .aonPowerOn | .phaseComplete .. | .hostReset | .fullReset | .imageDistributed .. | .schedulerSlot ..
  | .encoderEdgeApply .. | .sheetCancel .. | .descriptorWrite .. | .queueDisable .. | .dmaDisable | .dmaReadCompletion ..
  | .ringFrameMoved .. | .guardStallRelease .. | .readPortWord .. | .scrubWord .. | .screenScan .. | .powerStepDone | .powerStepTimeout
  | .standby | .wake | .channelPowerOff .. | .channelPowerOn .. | .powerFailWarning | .holdupExpire | .pfailClear | .inputCollapse
  | .faultRecord .. | .urgDmaHalt | .urgPermitOff .. | .urgEngineStop | .urgDoorbellRefused .. | .agreedInputApply .. | .legacyFrame ..
  | .epochData .. | .channelDisable .. | .clkRefCfgWrite .. | .clockMonitorTrip .. | .deferredDispatch .. | .estopOpen ..
  | .interlockOpen .. | .loopUnlock .. | .pxsFreqWrite .. | .refclkLost .. | .runoutExpire .. | .scanStart .. | .sheetMark ..
  | .timeTriggerFire .. => true
  | _ => false

/-- What the outcome of an SHT_CMD command changes (R116). -/
def shtCmdParts : List Part := [Part.reg R.SHT_RESULT.off, Part.reg R.SHT_STATUS.off] ++ irqParts

/-- The registers and table words of the entries on the arming list of descriptor k. -/
def listParts (d : Dev) (k : Nat) : List Part :=
  [Part.evt, Part.tblMark, Part.reg R.EVT_ARMED_COUNT.off] ++ (d.armList k).flatMap fun p =>
    [Part.tbl (16 * p.2), Part.tbl (16 * p.2 + 8), Part.tblChk (16 * p.2), Part.tblChk (16 * p.2 + 8)]

/-- What judging the permit of CHn changes (R252). -/
def gateParts (n : Nat) : List Part :=
  [Part.reg (R.CHn_FGT_STATUS n).off, Part.reg (R.CHn_FGT_COUNTS n).off, Part.reg (R.CHn_FGT_IRQ_STATUS n).off, Part.ch n] ++ irqParts

/-- SHT_RESULT as a command leaves it (R116). -/
def resultOf (res cause ch k : Nat) : Nat := res * 2 ^ 24 + cause * 2 ^ 16 + ch * 2 ^ 8 + k

/-- No listed entry is listed twice, armed or waited for. -/
abbrev listFree (d : Dev) (k : Nat) : Prop :=
  ((d.armList k).map (·.2)).Nodup ∧ ∀ p ∈ d.armList k, entArmed (d.entHi p.2) = false

/-- What the always-on domain and the Rhizoid keep while CORE is off (R68, R348, R377, R394): straps, reset cause and counts,
seconds, the PWR registers, the recovery counters, the fault latch, the Token register, the level of ALIVE and own_share. -/
def coreOffParts : List Part :=
  [Part.out, Part.rng, Part.reg R.FLT_STATUS.off, Part.free, Part.clock, Part.sys, Part.flt, Part.pwr, Part.host, Part.reg R.SYS_STRAPS.off, Part.reg R.SYS_RESET_CAUSE.off, Part.reg R.SYS_RESET_COUNT.off,
    Part.reg R.SYS_SECONDS.off, Part.reg R.TWN_TOKEN_STATE.off] ++
  (List.range 256).map (fun k => Part.reg (0xC0000 + 4 * k)) ++ (List.range 8).map (fun k => Part.reg (0xE0040 + 4 * k)) ++
  (List.range 192).map (fun k => Part.reg (0xE0400 + 4 * k))

/-- What judging every permit changes. -/
def gateAllParts : List Part := (List.range 8).flatMap gateParts

/-- A phase has ended in state st with a cause, as SYS_PHASE and its time show it (R61, R66). -/
def phaseShown (d e : Dev) (p st cause : Nat) : Prop :=
  e.phaseSt p = st ∧ e.get F.SYS_PHASE.phase = p ∧ e.get F.SYS_PHASE.state = st ∧ e.get F.SYS_PHASE.cause = cause % 256 ∧
    (2 ≤ st → e.rd (R.SYS_PHASE_TIMEk (p - 1)) = (e.sys.now8 - d.sys.porst8) / 125 % 2 ^ 32) ∧
    (st = 1 → e.rd (R.SYS_PHASE_TIMEk (p - 1)) = 0xFFFFFFFF)

/-- What the start or end of phase p changes. -/
def phaseParts (p : Nat) : List Part := [Part.sys, Part.reg R.SYS_PHASE.off, Part.reg (R.SYS_PHASE_TIMEk (p - 1)).off]

/-- Bytes as numbers. -/
def nats (l : List Byte) : List Nat := l.map (·.toNat)

/-- The image is rejected (R54): FAILED with its code and offset, the received bytes dropped, a class 3 record under bit 35,
vector 19; phase 4 fails where it runs or waits. -/
def frdRejected (d e : Dev) (code off : Nat) : Prop :=
  e.frdSt = 6 ∧ e.get F.FRD_STATUS.code = code % 256 ∧ e.rd R.FRD_ERR_OFFSET = off % 2 ^ 32 ∧ e.frd.rx = [] ∧ e.frd.image = d.frd.image ∧
    e.flt.strobes = d.flt.strobes ++ [⟨35, 0xB8 * 2 ^ 24 + code, off, d.now, 4⟩] ∧ (d.phase4 = true → e.phaseSt 4 = 3)

/-- What a rejection changes. -/
def frdFailParts : List Part :=
  [Part.frd, Part.strobes, Part.sys, Part.reg R.FRD_STATUS.off, Part.reg R.FRD_ERR_OFFSET.off, Part.reg R.SYS_PHASE.off, Part.reg (R.SYS_PHASE_TIMEk 3).off] ++ irqParts

/-- The words that EVT_EDIT_DATA0-3 hold for an entry (R92): bits 63:0, and bits 127:64 with the reserved bit, the gated and the
armed bit left out. -/
def editLo (d : Dev) : Nat := d.rd (R.EVT_EDIT_DATAj 0) + d.rd (R.EVT_EDIT_DATAj 1) * 2 ^ 32

def editRaw (d : Dev) : Nat := d.rd (R.EVT_EDIT_DATAj 2) + d.rd (R.EVT_EDIT_DATAj 3) * 2 ^ 32

def editHi (d : Dev) (i : Nat) : Nat :=
  editRaw d % 2 ^ 48 + bits (editRaw d) 61 49 * 2 ^ 49 + b2n (entGated (d.entHi i)) * 2 ^ 62

/-- What arming entry i changes. -/
def armParts (i : Nat) : List Part :=
  [Part.tbl (16 * i + 8), Part.tblChk (16 * i + 8), Part.tblMark, Part.reg R.EVT_ARMED_COUNT.off, Part.evt]

/-- What reporting the result of an EVT_EDIT operation changes. -/
def editParts : List Part := [Part.reg R.EVT_EDIT_RESULT.off, Part.reg R.EVT_STATUS.off] ++ irqParts

/-- Entry i as it fires in a slot without being late. -/
def dueOf (d : Dev) (i : Nat) : Due := { idx := i, delivered := d.entLo i, late := false, enc := false, hi := d.entHi i }

/-- The firing that a decided entry makes. -/
def firingOf (x : Due) (late : Bool) : Firing := ⟨x.idx, entTarget x.hi, entArg x.hi, entTag x.hi, x.delivered, late, x.enc⟩

/-- An entry of action NONE without interrupt or pick, that no sheet waits to arm. -/
abbrev plainEntry (d : Dev) (x : Due) : Prop :=
  entAction x.hi = 0 ∧ entIrq x.hi = false ∧ (entPick x.hi && entGated x.hi) = false ∧ x.late = false ∧
    ∀ p ∈ d.evt.pend, p.1 ≠ x.idx

/-- The firing x has been dispatched in this slot (R83, R84, R88): its record says whether its target refused it, a late one is
counted and flagged. -/
def dispatched (d e : Dev) (x : Due) (late : Bool) : Prop :=
  e.evt.dispatched = d.evt.dispatched + 1 ∧
    (∃ refused ∈ [false, true], (d.slot, firingRec (entAction x.hi) (firingOf x late) refused) ∈ e.evt.recs) ∧
    e.get F.EVT_LATE_COUNT.count = min (d.get F.EVT_LATE_COUNT.count + b2n late) (2 ^ 32 - 1) ∧
    (late = true → bit (e.rd R.EVT_STATUS) 1 = true)

/-- Encoder n counts by this device's own pins, which PINMUX has left as encoder pins. -/
abbrev encOwn (d : Dev) (n : Nat) : Prop := d.domOn 0 = true ∧ d.twin = false ∧ d.pinFunc 4 n ≠ 3

/-- Two edges of encoder n are filter_ticks + 3 ticks apart or more (R95): engine time stands there or later. -/
def edgeSpaced (d e : Dev) (n : Nat) : Prop :=
  e.now = if d.evt.running = true ∧ (d.encS n).qualAt ≠ 0 then
    d.timeAt ((d.encS n).qualAt - 1 + d.get (F.EVT_ENCn_CTRL.filter_ticks n) + 3) % 2 ^ 64 else d.now

/-- The registers of encoder n that counting changes. -/
def encParts (n : Nat) : List Part := [Part.evt, Part.reg (R.EVT_ENCn_RAW n).off, Part.reg (R.EVT_ENCn_HWM n).off, Part.reg (R.EVT_ENCn_STATUS n).off]

/-- A record of a source has been strobed at the present engine time (R364): it waits for the collector, or the source had
strobed one in this 64 ns slot already and counts it as merged. -/
def strobed (d e : Dev) (src d0 d1 : Nat) : Prop :=
  if d.flt.strobes.any (fun x => x.src = src && x.t / 8 = e.now / 8) = true then
    e.flt.strobes = d.flt.strobes ∧
      e.get (F.FLT_SRCi_STATE.merged src) = min (d.get (F.FLT_SRCi_STATE.merged src) + 1) (2 ^ 16 - 1)
  else e.flt.strobes = d.flt.strobes ++ [⟨src, d0, d1, e.now, 0⟩]

/-- A record of a source has been strobed at the present engine time, whatever its detail words. -/
def strobedSome (d e : Dev) (src : Nat) : Prop :=
  if d.flt.strobes.any (fun x => x.src = src && x.t / 8 = e.now / 8) = true then
    e.flt.strobes = d.flt.strobes ∧
      e.get (F.FLT_SRCi_STATE.merged src) = min (d.get (F.FLT_SRCi_STATE.merged src) + 1) (2 ^ 16 - 1)
  else (e.flt.strobes.map fun x => (x.src, x.t, x.fix)) = (d.flt.strobes.map fun x => (x.src, x.t, x.fix)) ++ [(src, e.now, 0)]

/-- A record of a source has been strobed with detail words that no rule gives: two free values. -/
def strobedOpen (d e : Dev) (src : Nat) : Prop := e.free = d.free + 2 ∧ strobedSome d e src

/-- The bytes of a frame's units as numbers, and the fields they spell (R143). -/
def fieldsOf (us : List (List Byte)) : FrameFields := frameFields (us.map nats)

/-- Units that make a whole frame (R142, R143, R146): a SOF, an EOF, no more units than a frame has, the right CRC. -/
abbrev wholeFrame (d : Dev) (us : List (List Byte)) (u : List Byte) : Prop :=
  ub ((us.map nats).headD []) 0 = d.unitType 0xA3 0xFB ∧ ub (nats u) 0 = d.unitType 0xB4 0xDC ∧ us.length ≤ 581 ∧
    leVal (((nats u).drop 1).take 4) = frameCrc (us.map nats)

/-- A control unit with its type and a right CRC (R142, R150). -/
abbrev wholeCtl (d : Dev) (u : List Byte) : Prop :=
  ub (nats u) 0 = d.unitType 0xC5 0x5C ∧ u.length = 8 ∧ crc8 ((nats u).take 7) = ub (nats u) 7

/-- The lane status of the Raster Ring with the per-lane registers, the checkers' counts (R138) and what a lane state change can
send or flag. -/
def laneParts : List Part :=
  [Part.rng, Part.free, Part.reg R.RNG_LANE_STATUS.off, Part.reg R.RNG_LANE_IRQ_STATUS.off] ++ irqParts ++
    (List.range 8).flatMap fun l => [Part.reg (R.RNG_RXl_STATUS l).off, Part.reg (R.RNG_RXl_BITS l).off, Part.reg (R.RNG_RXl_ERRS l).off]

/-- What falling out of ALIGNED changes besides (R135): a transmit direction that forwarded falls back with filler and a record. -/
def rxLeftParts : List Part := [Part.out, Part.reg R.LG_VID_STAT.off, Part.reg R.LG_STATUS.off] ++ strobeParts 17 ++ freeParts ++ laneParts

/-- What entering FORWARD changes (R150). -/
def forwardParts : List Part := [Part.reg R.RNG_PROTO_STATUS.off] ++ laneParts

/-- A lane command is refused and counted (R136). -/
def laneRefusal (s t : State) : Prop :=
  t.dev.get F.RNG_LANE_REJECT.count = min (s.dev.get F.RNG_LANE_REJECT.count + 1) (2 ^ 16 - 1) ∧ s.Frame [Part.reg R.RNG_LANE_REJECT.off] t

/-- An own symbol has joined the queue of R151, which had room. -/
def symQueued (d e : Dev) (y : Sym) : Prop :=
  e.rng.syms = d.rng.syms ++ [y] ∧ e.get F.RNG_PROTO_STATUS.sym_queue = d.rng.syms.length + 1

/-- What one queue of the DMA engine holds. -/
def queueParts (q : Nat) : List Part :=
  [Part.dmaq q, Part.reg (R.DMA_Qq_CFG q).off, Part.reg (R.DMA_Qq_STATUS q).off, Part.reg (R.DMA_Qq_CURRENT q).off, Part.reg (R.DMA_Qq_DONE_COUNT q).off]

/-- A command to a queue is refused and counted (R180-R182). -/
def dmaRefused (s t : State) : Prop :=
  t.dev.get F.DMA_REJECT.count = min (s.dev.get F.DMA_REJECT.count + 1) (2 ^ 16 - 1) ∧ s.Frame [Part.reg R.DMA_REJECT.off] t

/-- What the failure of a descriptor changes (R183). -/
def failParts (q : Nat) : List Part := [Part.out, Part.reg R.DMA_QERR.off] ++ strobeParts 18 ++ irqParts ++ queueParts q

/-- A descriptor of queue q has failed (R183): STOP with the code, DMA_QERR, a record under bit 18. -/
def failed (d e : Dev) (q res : Nat) : Prop :=
  e.qSt q = 5 ∧ e.get (F.DMA_Qq_STATUS.result q) = res ∧ e.getBit F.DMA_QERR.error q = true ∧ (e.dq q).run = false ∧ (e.dq q).fetch = 0 ∧ (e.dq q).pend = [] ∧
    strobed d e 18 (res * 2 ^ 24 + q) (d.rd (R.DMA_Qq_CURRENT q) % 2 ^ 32)

/-- Sensor x takes part in the conversion that runs (R323, R327): it is on, was on when its parameters were taken, and was not turned off
since. -/
abbrev takesPart (d : Dev) (x : Nat) : Prop := d.sensorOn x = true ∧ bit (d.tmp.snap.getD 0 0) 31 = true ∧ bit d.tmp.skip x = false

/-- What a conversion of sensor x changes in registers of the temperature block and in its state. -/
def convParts (x : Nat) : List Part :=
  [Part.tmp, Part.strobes, Part.flt, Part.reg R.FLT_ACTIVE.off, Part.reg (R.FLT_SRCi_STATE 30).off, Part.reg R.TMP_STATUS.off, Part.reg R.TMP_WARN.off, Part.reg R.TMP_THROTTLE.off, Part.reg R.TMP_SHUTDOWN.off, Part.reg R.TMP_FAULTED.off,
    Part.reg R.TMP_IRQ_STATUS.off, Part.reg R.TMP_PAIR_BAD.off, Part.reg (R.TMP_Ss_VALUE x).off, Part.reg (R.TMP_Ss_COUNTS x).off] ++
  (List.range 24).map (fun k => Part.reg (R.TMP_Ss_STATE k).off) ++ irqParts ++ timeParts

/-- Records of source 30 strobed by a conversion (R329). -/
def tmpStrobe (d0 d1 t : Nat) : Strobe := ⟨30, d0, d1, t, 0⟩

/-- The condition that a source holds begins or ends (R364, R374): its level, and from when its quiet timer runs. -/
def activeParts (i : Nat) : List Part := [Part.flt, Part.reg R.FLT_ACTIVE.off, Part.reg (R.FLT_SRCi_STATE i).off]

/-- A status bit of a unit of CHn and its interrupt. -/
def chBit (r : Reg) : List Part := [Part.reg r.off] ++ irqParts

/-- A back-channel unit with a good CRC and the given code (R236). -/
abbrev unitOk (u : List Nat) (code : Nat) : Prop := u.length = 8 ∧ u.getD 0 0 = 0x5C ∧ crc8 (u.take 7) = u.getD 7 0 ∧ u.getD 1 0 = code

/-- Port n hears its back channel: it has a port, its domain is on, the port is not OFF (R239). -/
abbrev hears (d : Dev) (n : Nat) : Prop := d.hasPort n = true ∧ d.domOn (4 + n) = true ∧ d.port n ≠ 0

/-- A port that enters a state, with the permit judged anew. -/
def portParts (n : Nat) : List Part := [Part.out, Part.reg (R.CHn_BLP_STATUS n).off, Part.reg (R.CHn_BLP_COUNTS n).off] ++ gateParts n

/-- An interrupt of the port, or of the channel's gate. -/
def blpBit (n : Nat) : List Part := [Part.reg (R.CHn_BLP_IRQ_STATUS n).off] ++ irqParts

/-- What a change of state of a brushless axis changes. -/
def axParts (a : Nat) : List Part := [Part.bld a, Part.reg (R.BLD_AXa_STATUS a).off, Part.reg (R.BLD_AXa_IRQ_STATUS a).off, Part.reg (R.BLD_AXa_REMAIN a).off] ++ gateAllParts

/-- A brushless command is refused with a code (R271). -/
def axRefused (s t : State) (a code : Nat) : Prop :=
  t.dev.get (F.BLD_AXa_REFUSE.code a) = code ∧ bit (t.dev.rd (R.BLD_AXa_IRQ_STATUS a)) 7 = true ∧ t.dev.bldState a = s.dev.bldState a

/-- What a firing changes beside what its action does: its record and, where it is late, the late count and its flag (R86, R88). -/
def firingParts (f : Firing) : List Part :=
  [Part.recs] ++ if f.late = true then [Part.reg R.EVT_LATE_COUNT.off, Part.reg R.EVT_STATUS.off] ++ irqParts ++ strobeParts 22 else []

/-- A firing at a unit leaves its record (R79, R88). -/
def fired (s t : State) (code : Nat) (f : Firing) (refused : Bool) : Prop :=
  t.dev.evt.recs = s.dev.evt.recs ++ [(s.dev.slot, firingRec code f refused)]

/-- What a refused firing changes besides (R83, R488). -/
def turnedParts : List Part := [Part.recs, Part.reg R.EVT_STATUS.off] ++ irqParts ++ strobeParts 22

/-- What a stepper command changes. -/
def stParts (m : Nat) : List Part := [Part.stp m, Part.reg (R.STP_AXm_STATUS m).off]

/-- A stepper command is refused with a code (R303). -/
def stRefused (s t : State) (m code : Nat) : Prop :=
  t.dev.get (F.STP_AXm_REFUSE.code m) = code ∧ bit (t.dev.rd (R.STP_AXm_IRQ_STATUS m)) 8 = true ∧
    s.Frame ([Part.reg (R.STP_AXm_REFUSE m).off, Part.reg (R.STP_AXm_IRQ_STATUS m).off] ++ irqParts) t

/-- A command at a stepper axis that is OFF counts and does nothing else (R303). -/
def stIgnored (s t : State) : Prop :=
  t.dev.get F.STP_REJECT.count = min (s.dev.get F.STP_REJECT.count + 1) (2 ^ 16 - 1) ∧ s.Frame [Part.reg R.STP_REJECT.off] t

/-- The clock of profile periods runs: DRIVE is on, engine time runs, far from its end (R25, R284). -/
abbrev periodRuns (d : Dev) : Prop := d.domOn 3 = true ∧ d.evt.running = true ∧ d.now < 2 ^ 62

/-- The device is in Single grade or not yet in a pair. -/
abbrev notPaired (d : Dev) : Prop := d.twin = false ∨ d.get F.TWN_STATUS.state < 2

/-- The target of record r of STm, in microsteps (R287). -/
def stpGoal (d : Dev) (m r : Nat) : Int :=
  if d.on (F.STP_AXm_MRECr.absolute m r) = true then sext 32 (d.get (F.STP_AXm_MRECr.distance m r))
  else sext 64 (d.rd (R.STP_AXm_TARGET m)) + sext 32 (d.get (F.STP_AXm_MRECr.distance m r))

/-- A host command at a stepper axis of a device in Single grade. -/
abbrev stOpen (d : Dev) (m : Nat) : Prop := d.direct (R.STP_AXm_CMD m).off ∧ d.twin = false

/-- What one sample of a loop slot can change besides its outputs, in the clock of its boundary. -/
def sampleParts (k : Nat) : List Part :=
  [Part.loop k, Part.reg (R.LOOP_Sk_STATUS k).off, Part.reg (R.LOOP_Sk_IRQ_STATUS k).off, Part.reg (R.LOOP_Sk_FEEDBACK k).off, Part.reg (R.LOOP_Sk_WORKING k).off,
    Part.reg (R.LOOP_Sk_OUTPUT k).off, Part.reg (R.LOOP_Sk_MODEL k).off, Part.reg (R.LOOP_Sk_COUNTS k).off, Part.reg (R.LOOP_Sk_REFUSE k).off, Part.reg R.LG_STATUS.off] ++ irqParts ++ strobeParts 28 ++ activeParts 28 ++ activeParts 29 ++ timeParts

/-- Slot k is in the image and has its sample boundaries: engine time runs, far from its end (R306). -/
abbrev boundaryRuns (d : Dev) (k : Nat) : Prop := (d.loopT k).isSome = true ∧ d.evt.running = true ∧ d.now < 2 ^ 62

/-- No axis of a bus has started or lost synchronism in its present PWM period (R281). -/
abbrev nonePrecedes (d : Dev) : Prop := ∀ (a : Nat), a < 16 → (d.bldS a).startPer = false ∧ (d.bldS a).losPer = false

/-- The slot k stands alone: it has its boundaries, in no group, its output not forced (R311). -/
abbrev slotAlone (d : Dev) (k : Nat) : Prop :=
  boundaryRuns d k ∧ d.groupOf k = [k] ∧ (d.loopC k).group = 0xFF ∧ d.outForced (d.loopC k).output = false

/-- The sample number of engine time and its period (R306). -/
def sampleP (d : Dev) (k : Nat) : Nat := max 1 (roundDiv 125000000 (max 1 (d.loopC k).sampleHz))

/-- A command at a slot that is OFF counts and does nothing else (R312). -/
def loopIgnored (s t : State) : Prop :=
  t.dev.get F.LOOP_REJECT.count = min (s.dev.get F.LOOP_REJECT.count + 1) (2 ^ 16 - 1) ∧ s.Frame [Part.reg R.LOOP_REJECT.off] t

/-- A command waits for the next sample boundary of the slot (R312). -/
def loopQueued (s t : State) (k op arg : Nat) : Prop := (t.dev.loopS k) = { s.dev.loopS k with due := (s.dev.loopS k).due ++ [(op, arg, s.dev.now)] }

/-- A host command at a loop slot of a device in Single grade. -/
abbrev loopOpen (d : Dev) (k : Nat) : Prop := d.direct (R.LOOP_Sk_CMD k).off ∧ d.twin = false

/-- What a status bit of PWR and its interrupt change. -/
def pwrFlagParts : List Part := [Part.reg R.PWR_IRQ_STATUS.off] ++ irqParts

/-- What a refused power request changes (R338). -/
def pwrRefuseParts : List Part := [Part.reg R.PWR_COUNTS.off] ++ pwrFlagParts

/-- A power request is refused: counted, status bit 6 (R338). -/
def pwrRefused (d e : Dev) : Prop :=
  e.get F.PWR_COUNTS.reject = min (d.get F.PWR_COUNTS.reject + 1) 255 ∧ bit (e.rd R.PWR_IRQ_STATUS) 6 = true

/-- What a step of the sequence list over rails changes. -/
def railParts (i : Nat) : List Part :=
  [Part.pwr, Part.reg R.PWR_STATE.off, Part.reg R.PWR_STATUS.off, Part.reg R.PWR_DOMAINS.off, Part.reg (R.PWR_STEP_TIMEi i).off] ++ timeParts

/-- What a full reset changes in a device whose CORE is off (R70, R348). -/
def restartParts : List Part :=
  [Part.sys, Part.pwr, Part.reg (R.SYS_PHASE_TIMEk 0).off, Part.reg (R.SYS_PHASE_TIMEk 1).off, Part.reg R.SYS_RESET_CAUSE.off, Part.reg R.SYS_RESET_COUNT.off] ++ (List.range 64).map (fun k => Part.reg (0xC0000 + 4 * k)) ++ timeParts

/-- What LOOP_LOCK of a loop changes beside its own lock bit. -/
def lockParts : List Part := [Part.clk, Part.reg R.CLK_MON_STATUS.off]

/-- What bringing the collector's derived registers up to date changes. -/
def fltShowParts : List Part :=
  [Part.flt, Part.reg R.FLT_FSW.off, Part.reg R.FLT_STATUS.off, Part.reg R.FLT_OPEN.off] ++ (List.range 42).map fun i => Part.reg (R.FLT_SRCi_STATE i).off

/-- What giving one record its ESN changes (R79). -/
def esnParts (d : Dev) : List Part :=
  [Part.reg R.EVT_ESN.off, Part.reg R.EVT_TALLY_LOST.off] ++ (List.range 4).map fun k => Part.reg (R.EVT_TALLY (4 * (d.rd R.EVT_ESN % 1024) + k)).off

/-- What a fault record changes in the history, the latch and the state of its source. -/
def recordParts (d : Dev) (i : Nat) : List Part :=
  [Part.strobes, Part.reg R.FLT_COUNT.off, Part.reg (R.FLT_SRCi_ESN i).off, Part.reg R.FLT_LATCH_INFO.off, Part.reg R.FLT_LOST.off, Part.reg R.FLT_IRQ_STATUS.off] ++
  (List.range 4).map (fun k => Part.reg (R.FLT_HISTORY (4 * (d.rd R.FLT_COUNT % 32) + k)).off) ++
  (List.range 4).map (fun k => Part.reg (R.FLT_LATCH_RECj (d.flt.latchK % 8) k).off) ++ esnParts d ++ fltShowParts ++ (List.range 8).map Part.ch ++ irqParts ++ timeParts

/-- The Tally words of a fault record strobed as x, of kind 0x06 (R79). -/
def tallyOf (d e : Dev) (x : Strobe) : Prop :=
  let n := d.rd R.EVT_ESN
  e.rd R.EVT_ESN = (n + 1) % 2 ^ 32 ∧ e.rd (R.EVT_TALLY (4 * (n % 1024))) = srcCode x.src * 2 ^ 40 + 6 * 2 ^ 32 + n ∧
    e.rd (R.EVT_TALLY (4 * (n % 1024) + 1)) = x.t ∧ e.rd (R.EVT_TALLY (4 * (n % 1024) + 2)) = x.d1 % 2 ^ 32 * 2 ^ 32 + x.d0 % 2 ^ 32

/-- The history entry of a record: its ESN with the ESN it follows, time, details, and its last word (R365). -/
def historyOf (d e : Dev) (x : Strobe) (link w3 : Nat) : Prop :=
  let k := 4 * (d.rd R.FLT_COUNT % 32)
  e.rd R.FLT_COUNT = (d.rd R.FLT_COUNT + 1) % 2 ^ 32 ∧ e.rd (R.FLT_SRCi_ESN x.src) = d.rd R.EVT_ESN ∧
    e.rd (R.FLT_HISTORY k) = link * 2 ^ 32 + d.rd R.EVT_ESN ∧ e.rd (R.FLT_HISTORY (k + 1)) = x.t ∧
    e.rd (R.FLT_HISTORY (k + 2)) = x.d1 % 2 ^ 32 * 2 ^ 32 + x.d0 % 2 ^ 32 ∧ e.rd (R.FLT_HISTORY (k + 3)) = w3 + d.rd R.EVT_ESN

/-- What a change of the Token latch or of agreement changes (R394, R396). -/
def tokenParts : List Part := [Part.twn, Part.reg R.TWN_TOKEN_STATE.off, Part.reg R.TWN_STATUS.off, Part.reg R.TWN_IRQ_STATUS.off, Part.reg R.TWN_NEXT_TURN.off] ++ irqParts ++ activeParts 33

/-- What the end of the partner's hold on admissions shows (R392). -/
def holdParts : List Part := [Part.flt, Part.reg R.FLT_STATUS.off] ++ (List.range 42).map fun i => Part.reg (R.FLT_SRCi_STATE i).off

/-- The host reaches a register, whatever the register then does with what is written (R20, R408, R409). -/
abbrev reached (d : Dev) (off : Nat) : Prop := d.endpoint = true ∧ d.host.d3 = false ∧ d.domOn (domainOf off) = true

/-- No port is ACTIVE: entering a membership state withdraws none (R401). -/
abbrev portsQuiet (d : Dev) : Prop := ∀ n ∈ List.range 8, d.port n ≠ 5

/-- A message of a kind, with n data units, arrives whole on a lane that is up, and is the next of its numbers (R383). -/
abbrev arrives (d : Dev) (m : TwinFrame) (kind n : Nat) (x : TwinMsg) : Prop :=
  d.linkOn m.lane = true ∧ twinMsg kind n m.frame = some x ∧ (d.twn.mseqRx = none ∨ d.twn.mseqRx = some x.mseq)

/-- The member's state of the twin link after such a message. -/
def heard (d : Dev) (x : TwinMsg) : TwnSt := { d.twn with mseqRx := some ((x.mseq + 1) % 65536) }

/-- A member's vectors, newest first, with one more: the last 600 (R389). -/
def keptVectors (vs : List DecVec) (v : DecVec) : List DecVec :=
  (vs.takeWhile (fun w => v.at_ < w.at_) ++ [v] ++ vs.dropWhile fun w => v.at_ < w.at_).take 600

/-- One more input unit, within the rate of the link (R385). -/
abbrev unitInRate (d : Dev) : Prop := d.twn.secN < 8000000 ∨ d.twn.secAt ≠ d.now / 125000000

/-- The second an input unit falls in and the units in it so far (R385). -/
def unitCounted (d : Dev) (x : TwnSt) : TwnSt :=
  { x with secAt := d.now / 125000000, secN := if x.secAt = d.now / 125000000 then x.secN + 1 else 1 }

/-- The frame of a message of a kind and number leaves on each lane that is up (R383). -/
def onEachLane (d : Dev) (kind mseq : Nat) (us : List Nat) : List Out :=
  ([1, 0].filter fun l => bit (d.get F.TWN_STATUS.lanes_up) l).map fun l => .twin l (twinFrame kind mseq us)

/-- A message has been sent: the number advances, and its frame leaves on each lane that is up (R383). -/
def twinSent (d e : Dev) (kind : Nat) (us : List Nat) : Prop :=
  e.twn.mseqTx = (d.twn.mseqTx + 1) % 65536 ∧ e.out = onEachLane d kind d.twn.mseqTx us ++ d.out

/-- Something is refused or discarded on the twin unit (R405). -/
def twinRefused (s t : State) : Prop :=
  t.dev.get F.TWN_REJECT.count = min (s.dev.get F.TWN_REJECT.count + 1) (2 ^ 16 - 1) ∧ bit (t.dev.rd R.TWN_IRQ_STATUS) 9 = true ∧
    s.Frame ([Part.reg R.TWN_REJECT.off, Part.reg R.TWN_IRQ_STATUS.off] ++ irqParts) t

/-- What running or ending an epoch shows (R399, R400). -/
def epochParts : List Part := [Part.twn, Part.reg R.TWN_STATUS.off, Part.reg R.TWN_EPOCH.off, Part.reg R.TWN_EPOCH_PROGRESS.off, Part.reg R.TWN_COUNTS.off, Part.reg R.TWN_IRQ_STATUS.off] ++ irqParts

/-- The axis and channel pieces a sheet gap of a legacy station may change are left out where no gap is. -/
abbrev midSheet (d : Dev) (s : Nat) : Prop := d.atGap s = false ∨ d.domOn (4 + s) = false

/-- LG_SHEET_STAT after a command for a sheet (R440). -/
def sheetStat (d e : Dev) (sheet res : Nat) : Prop :=
  e.rd R.LG_SHEET_STAT = putBits (putBits (d.rd R.LG_SHEET_STAT) 15 8 sheet) 6 4 res % 2 ^ 16

/-- A legacy command for a sheet has that outcome and does nothing else. -/
def sheetOnly (s t : State) (sheet res : Nat) : Prop := sheetStat s.dev t.dev sheet res ∧ s.Frame [Part.reg R.LG_SHEET_STAT.off] t

/-- Legacy sheet n in an open descriptor (R444). -/
abbrev loaded (d : Dev) (n k : Nat) : Prop :=
  k < 4 ∧ d.tagOf k = 0x100 + n ∧ ∀ j ∈ List.range 4, d.shtState j ≠ 0 → (d.tagOf j = 0x100 + n ↔ j = k)

/-- A legacy frame of one line as its bytes (R446), the reserved byte 1 of its header as given. -/
def legacyFrameOf (station line : Nat) (sheet pad : Byte) (px : List Byte) : List Byte :=
  let body := [BitVec.ofNat 8 station, pad, BitVec.ofNat 8 line, BitVec.ofNat 8 (line / 256), BitVec.ofNat 8 px.length, 0#8, sheet, 0#8] ++ px
  [0xFB#8, 0#8, 0#8, 0#8, 0#8, 0#8, 0#8, 0#8] ++ body ++ [0xDC#8] ++ (leBytes 4 (crc32c (body.map (·.toNat)))).map (BitVec.ofNat 8) ++ [0#8, 0#8, 0#8]

/-- What ending a walk changes in the block's own registers (R465). -/
def walkEndParts : List Part :=
  [Part.cal, Part.reg R.CAL_STATUS.off, Part.reg R.CAL_COUNTS.off, Part.reg R.CAL_IRQ_STATUS.off, Part.reg R.CAL_APPLIED_SECONDS.off] ++ irqParts

/-- What taking a bank as the active one changes beside. -/
def bankParts : List Part := [Part.reg R.CAL_GENERATION.off, Part.reg R.CAL_COUNT.off, Part.reg R.CAL_TIME.off]

/-- The 64-byte header of a bank (R457) with these fields and a right CRC-32C. -/
def bankHeader (gen count time recs body serial : Nat) : List Nat :=
  let h := [0x43, 0x41, 0x4C, 0x50, 1, 0, 0x80, 8] ++ leBytes 4 gen ++ leBytes 4 count ++ leBytes 4 time ++ leBytes 2 recs ++ [0, 0] ++
    leBytes 4 body ++ leBytes 4 serial ++ List.replicate 28 0
  h ++ leBytes 4 (crc32c (h ++ [0, 0, 0, 0]))

/-- A record of a bank with a right check (R459). -/
def bankRecord (kind idx version : Nat) (payload : List Nat) : List Nat :=
  let h := [kind, idx, version, 0] ++ leBytes 4 payload.length
  h ++ leBytes 4 (crc32c (h ++ payload)) ++ [0, 0, 0, 0] ++ payload

/-- A bank as the bytes a walk reads. -/
def bankOf (gen serial : Nat) (recs : List (List Nat)) : List Byte :=
  (bankHeader gen 5 6 recs.length recs.flatten.length serial ++ recs.flatten).map (BitVec.ofNat 8)

/-- What PHASE_COMPLETE waits for in a phase that runs (R61). -/
def phaseIsDone (d : Dev) (p : Nat) : Bool :=
  match p with
  | 1 => true
  | 3 => d.on F.CLK_STATUS.refclk_good && bit (d.get F.CLK_STATUS.locked) 0 && bit (d.get F.CLK_STATUS.locked) 1
  | 5 => d.pwrSt = 3
  | 6 => d.domOn 1
  | 7 => if d.persC then d.rxSt = 4 else d.rngDone
  | 8 => d.blpDone
  | 9 => d.twnSt = 3 || d.twnSt = 4
  | 10 => d.polygons.all d.polygonOk
  | 11 => d.cfg.loops.all d.slotOk
  | 12 => bit d.sysReady 31
  | _ => false

/-- Phase p can fail by its time-out as the device stands: c says which step of phase 6 it is (R61 to R64). -/
abbrev phaseCanFail (d : Dev) (p : Nat) (c : Byte) : Prop :=
  p = 3 ∨ (p = 4 ∧ d.frd.pushed = false) ∨ (p = 6 ∧ 1 ≤ c.toNat % 128 ∧ c.toNat % 128 ≤ 4) ∨ (p = 7 ∧ d.persC = false) ∨ p = 8 ∨
    (p = 9 ∧ d.quiet9 = false ∧ ¬(d.twnSt = 2 ∧ d.twn.join.isNone = true)) ∨ (p = 10 ∧ d.polygons.any (fun a => !d.polygonOk a) = true) ∨
    (p = 11 ∧ d.cfg.loops.any (fun l => !d.slotOk l) = true) ∨ (p = 12 ∧ d.readyMissing.isSome = true)

end Sys2Proof.Claims

open Sys2Proof.Claims

/-- 95_what_each_step_holds, R6, R76, R343: For every command c and state with c at the front of its queue, a step is exec of c
on the state with the queue's rest. With nothing waiting a step lets one tick of 8 ns pass: this is the model's choice (log
entry 1), not a rule of the spec; engine time advances while it runs, and nothing else changes unless a timed shut-down was
waiting for the engine to be idle. -/
def Obligations.StepRunsFrontCommand : Prop :=
  (∀ (s : State) (c : Instr) (rest : List Instr), s.pending = c :: rest → step s = exec c { s with pending := rest }) ∧
  (∀ s : State, s.pending = [] → s.dev.on F.PWR_STATUS.pfail_active = false →
    Completes (step s) fun t =>
      t.dev.sys.now8 = s.dev.sys.now8 + 1 ∧ t.dev.now = (if s.dev.evt.running then (s.dev.now + s.dev.timeGain 1) % 2 ^ 64 else s.dev.now) ∧ s.Frame timeParts t)

/-- 95_what_each_step_holds, R24, R160: In every state every command ends in a next state whose queue is the one it was given. A
command outside the named list of those that reach user memory leaves all of user memory, data and check fields, as it was. -/
def Obligations.CommandsKeepQueueAndMemory : Prop :=
  (∀ (c : Instr) (s : State), Completes (exec c s) fun t => t.pending = s.pending) ∧
  (∀ (c : Instr) (s t : State), mayTouchMemory c = false → exec c s = .next t → t.mem = s.mem)

/-- 08_dma_and_memory, R160, R165: From every state whose user memory is in canonical form (addresses strictly rising, inside
the address space, no entry equal to what an unlisted address reads as, for data bytes and for check fields), a step that
answers a next state leaves it so. -/
def Obligations.MemoryStaysCanonical : Prop :=
  ∀ s t : State, s.Inv → step s = .next t → t.Inv

/-- R8, R31, R66, R102, R440, R465: The reset state keeps the invariant; nothing waits; every power domain is off, every
descriptor FREE, no event is armed, no sheet in flight, the Token latch open, engine time 0, no phase started; registers
hold the reset values of their tables. What memory reads as before phase 6 is the model's choice and no part of this. Points
the spec leaves open follow the model's choices of log entries 9 and 12. -/
def Obligations.ResetState : Prop :=
  State.reset.Inv ∧ State.reset.pending = [] ∧
  (∀ k < 12, State.reset.dev.domOn k = false) ∧ (∀ k < 32, State.reset.dev.shtState k = 0) ∧
  (∀ i < 4096, entArmed (State.reset.dev.entHi i) = false) ∧ (∀ p < 13, State.reset.dev.phaseSt p = 0) ∧
  State.reset.dev.now = 0 ∧ State.reset.dev.evt.running = false ∧ State.reset.dev.on F.TWN_TOKEN_STATE.latch = false ∧
  State.reset.dev.get F.SYS_HOST_STATE.in_flight = 0 ∧ State.reset.dev.get F.SYS_HOST_STATE.state = 4 ∧
  State.reset.dev.rd R.FRD_ERR_OFFSET = 0xFFFFFFFF ∧ State.reset.dev.rd (R.EVT_ENCn_CTRL 2) = 0x04020001 ∧
  State.reset.dev.rd R.SHT_RESULT = 0xFF00 ∧ State.reset.dev.rd R.RNG_LANE_CFG = 0x28000001 ∧
  State.reset.dev.rd R.DMA_CFG = 0x03E80000 ∧ State.reset.dev.rd (R.CHn_SCR_PS_MAP 5) = 0xFEDCBA9876543210 ∧
  State.reset.dev.rd (R.CHn_SCT_CTRL 0) = 0x04404020 ∧ State.reset.dev.rd (R.CHn_PLC_LINE_RATIO 7) = 0x1000 ∧
  State.reset.dev.rd (R.CHn_FGT_WDOG 1) = 0x03E80010 ∧ State.reset.dev.rd (R.BLD_AXa_RATES 15) = 0x01F403E8 ∧
  State.reset.dev.rd (R.STP_AXm_CHOP 3) = 0x50642832 ∧ State.reset.dev.rd (R.LOOP_OUTo_VALUE 9) = 0x80000000 ∧
  State.reset.dev.rd (R.TMP_Ss_VALUE 23) = 0x80000000 ∧ State.reset.dev.rd (R.PWR_STEP_TIMEi 4) = 0xFFFFFFFF ∧
  State.reset.dev.rd R.TWN_NEXT_TURN = 2 ^ 64 - 1 ∧ State.reset.dev.rd R.LG_ID = 0x4410 ∧ State.reset.dev.rd (R.MSIX_CTRL 63) = 1 ∧
  State.reset.dev.rd R.CAL_CTRL = 2

/-- R54, R59, R60, R61, R62, R63, R65, R66: Always-on power-on leaves every register at its reset value; PORST_n low clears all
but what R67 keeps; phase 1 starts at its rise and the straps latch in phase 2; a phase that completes, fails or is retried
shows so in SYS_PHASE; engine_go from safe idle enters NORMAL and starts phases 10 and 11, and is refused and counted
otherwise. Points the spec leaves open follow the model's choices of log entries 7, 20 and 228. -/
def Obligations.SysPowerOnAndPhases : Prop :=
  (∀ (s : State) (p : Fin 16) (fb : Option Word32),
    s.dev.phaseSt p = 1 →
    phaseIsDone s.dev p = true →
    Completes (exec (.phaseComplete p fb) s) fun t =>
          t.dev.phaseSt p = 2 ∧
          (p.val = 6 → t.dev.get F.MEM_STATUS.trained = 1 ∧ t.dev.get F.MEM_STATUS.initialised = 1 ∧ t.dev.get F.MEM_STATUS.scrubbed = 1 ∧
            t.dev.get F.CAL_STATUS.trim_copy = if fb.isSome = true then 2 else 1) ∧ t.pending = s.pending) ∧
  (∀ (s : State) (p : Fin 16) (fb : Option Word32),
    s.dev.phaseSt p ≠ 1 ∨ phaseIsDone s.dev p = false →
    Completes (exec (.phaseComplete p fb) s) fun t => t = s) ∧
  (∀ (s : State) (p : Fin 16) (c : Byte) (crc : Word32),
    s.dev.phaseSt p = 1 →
    phaseCanFail s.dev p c →
    Completes (exec (.phaseTimeout p c crc) s) fun t =>
          t.dev.phaseSt p = 3 ∧ t.dev.get F.SYS_PHASE.phase = p ∧ t.dev.get F.SYS_PHASE.state = 3 ∧
          (10 ≤ p.val → t.dev.get F.SYS_HOST_STATE.state = 4) ∧ t.mem = s.mem ∧ t.pending = s.pending) ∧
  (∀ (s : State) (c : Byte) (crc : Word32),
    s.dev.phaseSt 3 = 1 →
    Completes (exec (.phaseTimeout 3 c crc) s) fun t =>
          phaseShown s.dev t.dev 3 3 (if s.dev.on F.CLK_STATUS.refclk_good = false then 1 else if bit (s.dev.get F.CLK_STATUS.locked) 0 = false then 2
            else if bit (s.dev.get F.CLK_STATUS.locked) 1 = false then 3 else 4)) ∧
  (∀ (s : State),
    s.dev.direct R.SYS_BRINGUP_CTRL.off →
    s.dev.get F.SYS_HOST_STATE.state = 4 →
    s.dev.phaseOver 9 = true →
    (∀ (p : Nat), p < 10 → s.dev.phaseSt p ≠ 3) →
    Completes (exec .engineGo s) fun t =>
          t.dev.get F.SYS_HOST_STATE.state = 0 ∧ (t.dev.phaseSt 10 = if s.dev.polygons = [] then 4 else 1) ∧
          (t.dev.phaseSt 11 = if s.dev.cfg.loops.any LoopT.ready = true then 1 else 4) ∧
          (t.dev.phaseSt 12 = if s.dev.polygons = [] ∧ s.dev.cfg.loops.any LoopT.ready = false then 1 else 0) ∧
          t.mem = s.mem ∧ t.pending = s.pending) ∧
  (∀ (s : State),
    s.dev.direct R.SYS_BRINGUP_CTRL.off →
    s.dev.phaseSt 7 = 3 →
    Completes (exec .retry s) fun t => t.dev.phaseSt 7 = 1 ∧ t.dev.get F.SYS_PHASE.phase = 7 ∧ t.dev.get F.SYS_PHASE.state = 1 ∧ t.mem = s.mem ∧ t.pending = s.pending) ∧
  (∀ (s : State),
    s.dev.direct R.SYS_BRINGUP_CTRL.off →
    s.dev.phaseSt 7 ≠ 3 →
    s.dev.phaseSt 8 = 3 →
    Completes (exec .retry s) fun t => t.dev.phaseSt 8 = 1 ∧ t.dev.get F.SYS_PHASE.phase = 8 ∧ t.dev.get F.SYS_PHASE.state = 1 ∧ t.mem = s.mem ∧ t.pending = s.pending) ∧
  (∀ (s : State),
    Completes (exec .aonPowerOn s) fun t =>
          State.reset.dev.Frame [Part.out, Part.free, Part.host] t.dev ∧ t.dev.out = s.dev.out ∧ t.dev.host = { State.reset.dev.host with estop := s.dev.host.estop } ∧
          t.mem = State.reset.mem ∧ t.pending = s.pending) ∧
  (∀ (s : State),
    Completes (exec .porstAssert s) fun t =>
          t.dev.sys.inReset = true ∧ (∀ (k : Nat), k < 12 → t.dev.domOn k = false) ∧
          bits (t.dev.rd R.SYS_RESET_CAUSE) 8 0 = 2 ∧ t.dev.get F.SYS_RESET_COUNT.full = min (s.dev.get F.SYS_RESET_COUNT.full + 1) (2 ^ 16 - 1) ∧
          t.dev.rd R.SYS_STRAPS = s.dev.rd R.SYS_STRAPS ∧ t.dev.get F.TWN_TOKEN_STATE.latch = 0 ∧
          t.dev.get F.FLT_STATUS.alive_level = s.dev.get F.FLT_STATUS.alive_level ∧
          State.reset.dev.Frame coreOffParts t.dev ∧ t.mem = State.reset.mem ∧ t.pending = s.pending) ∧
  (∀ (s : State),
    s.dev.sys.inReset = true →
    Completes (exec .phase1Start s) fun t =>
          t.dev.sys.inReset = false ∧ t.dev.phaseSt 1 = 1 ∧ t.dev.sys.porst8 = s.dev.sys.now8 ∧
          t.dev.rd (R.SYS_PHASE_TIMEk 0) = 0xFFFFFFFF ∧ s.Frame [Part.sys, Part.reg (R.SYS_PHASE_TIMEk 0).off] t) ∧
  (∀ (s : State) (pers twsel bootsrc : Bool),
    s.dev.phaseSt 2 = 1 →
    Completes (exec (.strapSample pers twsel bootsrc) s) fun t =>
          t.dev.on F.SYS_STRAPS.pers = pers ∧ t.dev.on F.SYS_STRAPS.twsel = twsel ∧ t.dev.on F.SYS_STRAPS.bootsrc = bootsrc ∧
          t.dev.phaseSt 2 = 2 ∧ phaseShown s.dev t.dev 3 1 0 ∧ t.dev.domOn 0 = true ∧ t.dev.get F.PWR_STATE.state = 1 ∧
          t.dev.sys.now8 = max s.dev.sys.now8 (s.dev.phaseAt 2 + 500) ∧
          s.Frame ([Part.sys, Part.reg R.SYS_STRAPS.off, Part.reg R.PWR_DOMAINS.off, Part.reg R.PWR_STATE.off, Part.reg R.SYS_PHASE.off,
            Part.reg (R.SYS_PHASE_TIMEk 1).off, Part.reg (R.SYS_PHASE_TIMEk 2).off, Part.tmp] ++ (List.range 8).flatMap (fun k => [Part.reg (R.TMP_Ss_CFG k).off, Part.reg (R.TMP_Ss_STATE k).off]) ++ timeParts) t) ∧
  (∀ (s : State),
    s.dev.phaseSt 1 = 1 →
    Completes (exec (.phaseComplete 1 none) s) fun t =>
          t.dev.phaseSt 1 = 2 ∧ t.dev.phaseSt 2 = 1 ∧
          t.dev.rd (R.SYS_PHASE_TIMEk 0) = (s.dev.sys.now8 - s.dev.sys.porst8) / 125 % 2 ^ 32 ∧
          t.dev.rd (R.SYS_PHASE_TIMEk 1) = 0xFFFFFFFF ∧
          s.Frame [Part.sys, Part.reg (R.SYS_PHASE_TIMEk 0).off, Part.reg (R.SYS_PHASE_TIMEk 1).off] t) ∧
  (∀ (s : State),
    s.dev.phaseSt 12 = 1 →
    bit s.dev.sysReady 31 = true →
    Completes (exec (.phaseComplete 12 none) s) fun t => phaseShown s.dev t.dev 12 2 0 ∧ s.Frame (phaseParts 12) t) ∧
  (∀ (s : State) (p : Fin 16) (fb : Option Word32),
    s.dev.phaseSt p ≠ 1 →
    Completes (exec (.phaseComplete p fb) s) (fun t => t = s) ∧ Completes (exec (.phaseTimeout p 1 0) s) (fun t => t = s)) ∧
  (∀ (s : State) (crc : Word32),
    s.dev.phaseSt 6 = 1 →
    Completes (exec (.phaseTimeout 6 1 crc) s) fun t =>
          phaseShown s.dev t.dev 6 3 1 ∧ t.dev.flt.strobes = s.dev.flt.strobes ++ [⟨35, 0xB3 * 2 ^ 24, crc.toNat, s.dev.now, 4⟩] ∧
          s.Frame (phaseParts 6 ++ [Part.strobes]) t) ∧
  (∀ (s : State) (c : Byte) (crc : Word32),
    s.dev.phaseSt 3 = 1 →
    s.dev.on F.CLK_STATUS.refclk_good = false →
    Completes (exec (.phaseTimeout 3 c crc) s) fun t =>
          phaseShown s.dev t.dev 3 3 1 ∧ t.dev.sys.now8 = max s.dev.sys.now8 (s.dev.phaseAt 3 + 2500000) ∧
          s.Frame (phaseParts 3 ++ [Part.strobes] ++ freeParts ++ timeParts) t) ∧
  (∀ (s : State),
    s.dev.direct R.SYS_BRINGUP_CTRL.off →
    s.dev.get F.SYS_HOST_STATE.state = 4 →
    (∀ (p : Nat), p < 10 → s.dev.phaseSt p = 2 ∨ s.dev.phaseSt p = 4 ∨ s.dev.phaseSt p = 0) →
    s.dev.phaseOver 9 = true →
    s.dev.persC = false →
    s.dev.cfg.axes = [] →
    s.dev.cfg.loops = [] →
    Completes (exec .engineGo s) fun t =>
          t.dev.get F.SYS_HOST_STATE.state = 0 ∧ t.dev.phaseSt 10 = 4 ∧ t.dev.phaseSt 11 = 4 ∧ t.dev.phaseSt 12 = 1 ∧
          t.dev.get F.SYS_PHASE.phase = 12 ∧ t.dev.get F.SYS_PHASE.state = 1 ∧
          s.Frame ([Part.sys, Part.reg R.SYS_HOST_STATE.off, Part.reg R.SYS_PHASE.off, Part.reg (R.SYS_PHASE_TIMEk 9).off, Part.reg (R.SYS_PHASE_TIMEk 10).off,
            Part.reg (R.SYS_PHASE_TIMEk 11).off] ++
            [Part.reg R.LOOP_REJECT.off] ++ gateAllParts ++ (List.range 64).map Part.loop) t) ∧
  (∀ (s : State),
    s.dev.direct R.SYS_BRINGUP_CTRL.off →
    s.dev.get F.SYS_HOST_STATE.state ≠ 4 ∨ s.dev.phaseOver 9 = false →
    Completes (exec .engineGo s) fun t =>
          t.dev.get F.SYS_BRINGUP_REJECT.count = min (s.dev.get F.SYS_BRINGUP_REJECT.count + 1) (2 ^ 16 - 1) ∧ s.Frame [Part.reg R.SYS_BRINGUP_REJECT.off] t) ∧
  (∀ (s : State),
    s.dev.direct R.SYS_BRINGUP_CTRL.off →
    s.dev.phaseSt 7 ≠ 3 →
    s.dev.phaseSt 8 ≠ 3 →
    Completes (exec .retry s) fun t =>
          if s.dev.phaseSt 9 = 3 then
            phaseShown s.dev t.dev 9 1 0 ∧ t.dev.twn.active9 = decide (s.dev.get F.TWN_STATUS.lanes_up ≠ 0) ∧ s.Frame ([Part.twn] ++ phaseParts 9) t
          else t.dev.get F.SYS_BRINGUP_REJECT.count = min (s.dev.get F.SYS_BRINGUP_REJECT.count + 1) (2 ^ 16 - 1) ∧ s.Frame [Part.reg R.SYS_BRINGUP_REJECT.off] t)

/-- R60, R66, R67, R68, R70, R71, R73, R74, R118, R411: A request for a host reset is kept once; a host reset takes the oldest,
shows its cause, counts it and puts the host into safe idle, or drains while a sheet is PICKED; a full reset is refused
while a sheet is PICKED unless forced, and with CORE alone on it parks the device with everything but the always-on state
reset; CORE comes back 1 ms later. The watchdog takes kicks and its expiry holds the engine for an orphan host. Points the
spec leaves open follow the model's choices of log entries 21 and 234. -/
def Obligations.SysResets : Prop :=
  (∀ (s : State),
    s.dev.direct R.SYS_RESET.off →
    Completes (exec .swHostReset s) fun t => 3 ∈ t.dev.sys.hostReq ∧ s.Frame [Part.sys] t) ∧
  (∀ (s : State) (k : Nat) (rest : List Nat),
    s.dev.warned = false →
    s.dev.sys.hostReq = k :: rest →
    3 ≤ k →
    k ≤ 7 →
    Completes (exec .hostReset s) fun t =>
          t.dev.sys.hostReq = rest ∧ t.dev.sys.wdogArmed = false ∧ t.dev.host.bufLo = [] ∧ t.dev.host.latchHi = [] ∧
          (t.dev.get F.SYS_HOST_STATE.state = 3 ∨ t.dev.get F.SYS_HOST_STATE.state = 4) ∧ bit (t.dev.rd R.SYS_RESET_CAUSE) k = true ∧
          t.dev.get F.DMA_CTRL.enable = 0 ∧ t.pending = s.pending) ∧
  (∀ (s : State),
    s.dev.sys.fullReq ≠ [] →
    Completes (exec .fullReset s) fun t =>
          t.dev.sys.fullReq = [] ∧ t.dev.sys.wdogArmed = false ∧ (∀ (k : Nat), k < 32 → t.dev.shtState k = 0) ∧ t.dev.get F.TWN_TOKEN_STATE.latch = 0 ∧
          bits (t.dev.rd R.SYS_RESET_CAUSE) 8 0 = 4 ∧ t.dev.get F.SYS_RESET_COUNT.full = min (s.dev.get F.SYS_RESET_COUNT.full + 1) (2 ^ 16 - 1) ∧
          t.dev.rd R.SYS_STRAPS = s.dev.rd R.SYS_STRAPS ∧ t.pending = s.pending) ∧
  (∀ (s : State),
    s.dev.sys.wdogArmed = true →
    s.dev.role.hostWdogMs ≠ 0 →
    s.dev.twin = false ∨ (s.dev.twnSt ≠ 3 ∧ s.dev.twnSt ≠ 4) →
    Completes (exec .hostWdogExpire s) fun t =>
          t.dev.sys.wdogArmed = false ∧
          (t.dev.get F.SYS_HOST_STATE.state = if s.dev.get F.SYS_HOST_STATE.state = 0 then (if s.dev.get F.SYS_HOST_STATE.in_flight = 0 then 2 else 1)
            else if s.dev.get F.SYS_HOST_STATE.state = 4 then 2 else s.dev.get F.SYS_HOST_STATE.state) ∧
          (s.dev.get F.SYS_HOST_STATE.state = 0 ∨ s.dev.get F.SYS_HOST_STATE.state = 4 →
            t.dev.get F.SYS_RESET_CAUSE.orphan_seen = 1 ∧ bit (t.dev.rd R.FLT_IRQ_STATUS) 1 = true) ∧ t.mem = s.mem ∧ t.pending = s.pending) ∧
  (∀ (s : State),
    s.dev.sys.wdogArmed = true →
    s.dev.role.hostWdogMs ≠ 0 →
    s.dev.twin = true →
    s.dev.twnSt = 3 ∨ s.dev.twnSt = 4 →
    Completes (exec .hostWdogExpire s) fun t =>
          t.dev.sys.wdogArmed = false ∧ t.dev.twn = { s.dev.twn with wdog := s.dev.latch || s.dev.twn.wdog } ∧ s.Frame ([Part.sys, Part.twn] ++ timeParts) t) ∧
  (∀ (s : State) (force : Bool),
    s.dev.direct R.SYS_RESET.off →
    Completes (exec (.swFullReset force) s) fun t =>
          if force = false ∧ ∃ k ∈ List.range 32, s.dev.shtState k = 3 then
            t.dev.get F.SYS_RESET_CAUSE.full_refused = 1 ∧ s.Frame [Part.reg R.SYS_RESET_CAUSE.off] t
          else 2 ∈ t.dev.sys.fullReq ∧ s.Frame [Part.sys] t) ∧
  (∀ (s : State),
    s.dev.domOn 0 = true →
    s.dev.persC = false →
    Completes (exec .perstAssert s) (fun t => 4 ∈ t.dev.sys.hostReq ∧ s.Frame [Part.sys] t) ∧
        Completes (exec .pcieHotReset s) (fun t => 5 ∈ t.dev.sys.hostReq ∧ s.Frame [Part.sys] t) ∧
        Completes (exec .functionLevelReset s) (fun t => 7 ∈ t.dev.sys.hostReq ∧ s.Frame [Part.sys] t)) ∧
  (∀ (s : State) (st : BitVec 16),
    s.dev.host.linkUp = true →
    Completes (exec (.pcieLinkDown st) s) fun t =>
          t.dev.host.linkUp = false ∧ 6 ∈ t.dev.sys.hostReq ∧
          t.dev.get F.SYS_CFG_HOST_COUNTS.link_downs = min (s.dev.get F.SYS_CFG_HOST_COUNTS.link_downs + 1) (2 ^ 16 - 1) ∧
          bit (t.dev.rd R.SYS_CFG_HOST_ERR) 4 = true ∧ s.Frame ([Part.sys] ++ hostErrParts) t) ∧
  (∀ (s : State) (k : Nat) (rest : List Nat),
    s.dev.warned = false →
    s.dev.sys.hostReq = k :: rest →
    3 ≤ k →
    k ≤ 7 →
    (∀ (j : Nat), j < 32 → s.dev.shtState j ≠ 1 ∧ s.dev.shtState j ≠ 2) →
    s.dev.evt.slotAt = s.dev.slot + 1 →
    s.dev.armedEntries = [] →
    (∀ (q : Nat), q < 16 → s.dev.qSt q = 0) →
    Completes (exec .hostReset s) fun t =>
          t.dev.sys.hostReq = rest ∧ t.dev.sys.wdogArmed = false ∧ t.dev.host.bufLo = [] ∧ t.dev.host.latchHi = [] ∧
          (t.dev.get F.SYS_HOST_STATE.state =
            if s.dev.get F.SYS_HOST_STATE.state = 1 ∨ s.dev.get F.SYS_HOST_STATE.state = 3 then 3
            else if s.dev.get F.SYS_HOST_STATE.state = 0 ∧ ∃ j ∈ List.range 32, s.dev.shtState j = 3 then 3 else 4) ∧
          bit (t.dev.rd R.SYS_RESET_CAUSE) k = true ∧
          t.dev.get F.SYS_RESET_COUNT.host = min (s.dev.get F.SYS_RESET_COUNT.host + 1) (2 ^ 16 - 1) ∧
          t.dev.get F.DMA_CTRL.enable = 0 ∧ (∀ (v : Nat), v < 6 → t.dev.rd ([R.EVT_STATUS, R.SHT_STATUS, R.DMA_QDONE, R.DMA_QERR, R.EVT_IRQ_PEND, R.CAL_IRQ_STATUS].getD v R.EVT_STATUS) = 0) ∧
          s.dev.Kept [Part.clock, Part.reg R.EVT_TIME.off, Part.reg R.SYS_SECONDS.off, Part.reg R.SYS_STRAPS.off, Part.reg R.EVT_ESN.off, Part.reg R.FLT_COUNT.off,
            Part.reg R.PWR_DOMAINS.off, Part.reg R.CLK_STATUS.off, Part.reg R.PWR_STATE.off, Part.reg R.FRD_IMAGE_CRC.off, Part.sht, Part.tmp, Part.clk, Part.pwr] t.dev ∧ s.MemFrame [] t ∧ t.pending = s.pending) ∧
  (∀ (s : State),
    s.dev.sys.fullReq ≠ [] →
    s.dev.get F.PWR_STATE.state = 1 →
    Completes (exec .fullReset s) fun t =>
          t.dev.get F.PWR_STATE.state = 4 ∧ t.dev.get F.PWR_STATE.entry = 0x1F ∧ t.dev.domOn 0 = false ∧ bits (t.dev.rd R.SYS_RESET_CAUSE) 8 0 = 4 ∧
          t.dev.get F.SYS_RESET_COUNT.full = min (s.dev.get F.SYS_RESET_COUNT.full + 1) (2 ^ 16 - 1) ∧
          t.dev.rd R.SYS_STRAPS = s.dev.rd R.SYS_STRAPS ∧ t.dev.get F.FLT_STATUS.alive_level = s.dev.get F.FLT_STATUS.alive_level ∧
          State.reset.dev.Frame coreOffParts t.dev ∧ t.mem = State.reset.mem ∧ t.pending = s.pending) ∧
  (∀ (s : State),
    s.dev.sys.fullReq ≠ [] →
    s.dev.get F.PWR_STATE.state = 3 →
    s.dev.pwr.chanQ = [] →
    (s.dev.nextOn s.dev.doms.length).isSome = true →
    Completes (exec .fullReset s) fun t =>
          t.dev.get F.PWR_STATE.state = 4 ∧ t.dev.get F.PWR_STATE.purpose = 2 ∧ t.dev.sys.fullReq = [] ∧ t.dev.sys.cut = true ∧
          t.dev.get F.SYS_HOST_STATE.state = 4 ∧ t.dev.get F.SYS_HOST_STATE.in_flight = 0 ∧ (∀ (k : Nat), k < 32 → t.dev.shtState k = 0) ∧
          t.dev.get F.TWN_TOKEN_STATE.latch = 0 ∧ bits (t.dev.rd R.SYS_RESET_CAUSE) 8 0 = 4 ∧
          (s.dev.flt.strobes = [] → s.dev.Kept [Part.clock, Part.reg R.SYS_SECONDS.off] t.dev) ∧
          s.dev.Kept [Part.reg R.SYS_STRAPS.off, Part.reg R.PWR_COUNTS.off, Part.cal] t.dev ∧
          t.pending = s.pending) ∧
  (∀ (s : State),
    s.dev.get F.PWR_STATE.state = 0 →
    s.dev.get F.PWR_STATE.purpose = 2 →
    s.dev.sys.inReset = false →
    s.dev.pwr.collapsed = false →
    Completes (exec .coreOffHoldEnd s) fun t =>
          t.dev.phaseSt 2 = 1 ∧ t.dev.sys.now8 = max s.dev.sys.now8 (s.dev.pwr.parkAt + 125000) ∧ t.dev.rd R.PWR_COUNTS = s.dev.rd R.PWR_COUNTS % 2 ^ 32 ∧
          t.dev.get F.PWR_STATE.purpose = 0 ∧
          s.Frame ([Part.sys, Part.pwr, Part.reg (R.SYS_PHASE_TIMEk 1).off] ++ (List.range 0x4000).map (fun k => Part.reg (0xC0000 + 4 * k)) ++ timeParts) t) ∧
  (∀ (s : State),
    s.dev.direct R.SYS_HOST_WDOG.off →
    Completes (exec .hostWdogKick s) fun t =>
          t.dev.sys.wdogArmed = true ∧ t.dev.sys.wdogKick = s.dev.now ∧ s.Frame [Part.sys] t) ∧
  (∀ (s : State),
    s.dev.sys.wdogArmed = true →
    s.dev.role.hostWdogMs ≠ 0 →
    s.dev.twin = false →
    s.dev.persC = false →
    s.dev.get F.SYS_HOST_STATE.state = 0 →
    s.dev.get F.SYS_HOST_STATE.in_flight ≠ 0 →
    Completes (exec .hostWdogExpire s) fun t =>
          t.dev.get F.SYS_HOST_STATE.state = 1 ∧ t.dev.get F.SYS_RESET_CAUSE.orphan_seen = 1 ∧ t.dev.sys.wdogArmed = false ∧
          bit (t.dev.rd R.FLT_IRQ_STATUS) 1 = true ∧
          (s.dev.evt.running = true → s.dev.sys.wdogKick + s.dev.role.hostWdogMs * 125000 < 2 ^ 64 →
            t.dev.now = s.dev.timeAt (s.dev.sys.wdogKick + s.dev.role.hostWdogMs * 125000)) ∧
          s.Frame ([Part.sys, Part.reg R.SYS_HOST_STATE.off, Part.reg R.SYS_RESET_CAUSE.off, Part.reg R.FLT_IRQ_STATUS.off] ++ gateAllParts ++ irqParts ++ timeParts) t)

/-- R71: The device refuses a full_reset from SYS_RESET with force = 0 while a sheet is past its pick (PICKED, counted in
in_flight): it sets full_refused and changes nothing else. PORST_n and the always-on power-on are never refused: in every
state they reset the device. -/
def Obligations.FullResetRefusal : Prop :=
  (∀ (s : State) (k : Fin 32),
    reached s.dev R.SYS_RESET.off →
    s.dev.shtState k = 3 →
    Completes (exec (.swFullReset false) s) fun t =>
          t.dev.rd R.SYS_RESET_CAUSE = putBits (s.dev.rd R.SYS_RESET_CAUSE) 9 9 1 ∧ s.Frame [Part.reg R.SYS_RESET_CAUSE.off] t) ∧
  (∀ (s : State),
    Completes (exec .porstAssert s) (fun t => t.dev.sys.inReset = true ∧ (∀ (k : Nat), k < 32 → t.dev.shtState k = 0) ∧ t.mem = State.reset.mem) ∧
        Completes (exec .aonPowerOn s) (fun t => (∀ (k : Nat), k < 32 → t.dev.shtState k = 0) ∧ State.reset.dev.Frame [Part.out, Part.free, Part.host] t.dev ∧ t.mem = State.reset.mem))

/-- R37, R51, R54, R55, R56: push_start in WAIT or FAILED empties the receiver and enters RECEIVING; each FRD_PUSH_DATA appends
four bytes, low byte first; push_done of a whole image enters CHECKING and of a short or long one rejects it; push_abort
returns to WAIT with the count; every one of them in another state is refused and counted; a minute without an image fails
phase 4. The header is judged when its 64 bytes are there and the whole image when its checks are done: it passes on or is
rejected with the code and offset of the first failure. A distributed image is retained, its serial number, CRC and pinna
map are shown and the loader enters LOADED; an uncorrectable table word rejects it; an error in the retained copy marks its
pinna damaged and is recorded. Points the spec leaves open follow the model's choices of log entries 17, 39, 228 and 229. -/
def Obligations.FrdLoad : Prop :=
  (∀ (s : State),
    s.dev.frdSt = 4 →
    Completes (exec (.imageDistributed none) s) fun t =>
          t.dev.frdSt = 5 ∧ t.dev.get F.FRD_STATUS.code = 1 ∧ t.dev.frd.image = s.dev.frd.rx ∧ t.dev.frd.rx = [] ∧ t.dev.frd.damaged = [] ∧
          t.dev.frd.cfg = readCfg (nats s.dev.frd.rx) ∧
          t.dev.rd R.FRD_IMAGE_SERIAL = (readCfg (nats s.dev.frd.rx)).serial % 2 ^ 32 ∧ t.dev.rd R.FRD_IMAGE_CRC = (readCfg (nats s.dev.frd.rx)).crc % 2 ^ 32 ∧
          (s.dev.phase4 = true → t.dev.phaseSt 4 = 2) ∧ t.pending = s.pending) ∧
  (∀ (s : State),
    s.dev.direct R.FRD_CTRL.off →
    s.dev.frdSt = 0 ∨ s.dev.frdSt = 6 →
    Completes (exec .frdPushStart s) fun t =>
          t.dev.frdSt = 2 ∧ t.dev.get F.FRD_STATUS.code = 0 ∧ t.dev.rd R.FRD_ERR_OFFSET = 2 ^ 32 - 1 ∧ t.dev.rd R.FRD_PUSH_COUNT = 0 ∧
          t.dev.frd.rx = [] ∧ t.dev.frd.checked = false ∧ t.dev.frd.image = s.dev.frd.image ∧
          (s.dev.phaseSt 4 = 3 ∨ s.dev.phase4 = true → phaseShown s.dev t.dev 4 1 0) ∧
          s.Frame ([Part.frd, Part.reg R.FRD_STATUS.off, Part.reg R.FRD_ERR_OFFSET.off, Part.reg R.FRD_PUSH_COUNT.off] ++ phaseParts 4) t) ∧
  (∀ (s : State) (v : Word32),
    s.dev.direct R.FRD_PUSH_DATA.off →
    s.dev.frdSt = 2 →
    (s.dev.frd.checked = true ∧ s.dev.frd.rx.length + 4 ≤ s.dev.rxLength) ∨ (s.dev.frd.checked = false ∧ s.dev.frd.rx.length + 4 < 64) →
    Completes (exec (.frdPushData v) s) fun t =>
          t.dev.frd.rx = s.dev.frd.rx ++ (leBytes 4 v.toNat).map (BitVec.ofNat 8) ∧
          t.dev.rd R.FRD_PUSH_COUNT = (s.dev.frd.rx.length + 4) % 2 ^ 32 ∧ s.Frame [Part.frd, Part.reg R.FRD_PUSH_COUNT.off] t) ∧
  (∀ (s : State),
    s.dev.direct R.FRD_CTRL.off →
    s.dev.frdSt = 2 →
    s.dev.frd.checked = true →
    s.dev.frd.rx.length = s.dev.rxLength →
    Completes (exec .frdPushDone s) fun t => t.dev.frdSt = 3 ∧ s.Frame [Part.reg R.FRD_STATUS.off] t) ∧
  (∀ (s : State),
    s.dev.direct R.FRD_CTRL.off →
    s.dev.frdSt = 2 →
    s.dev.frd.checked = false ∨ s.dev.frd.rx.length ≠ s.dev.rxLength →
    Completes (exec .frdPushDone s) fun t => frdRejected s.dev t.dev 0x16 s.dev.frd.rx.length ∧ s.Frame frdFailParts t) ∧
  (∀ (s : State),
    s.dev.direct R.FRD_CTRL.off →
    s.dev.frdSt = 2 →
    Completes (exec .frdPushAbort s) fun t =>
          t.dev.frdSt = 0 ∧ t.dev.get F.FRD_STATUS.code = 0x18 ∧ t.dev.rd R.FRD_ERR_OFFSET = s.dev.rd R.FRD_PUSH_COUNT % 2 ^ 32 ∧ t.dev.frd.rx = [] ∧
          s.Frame [Part.frd, Part.reg R.FRD_STATUS.off, Part.reg R.FRD_ERR_OFFSET.off] t) ∧
  (∀ (s : State) (v : Word32),
    s.dev.direct R.FRD_CTRL.off →
    s.dev.frdSt ≠ 0 →
    s.dev.frdSt ≠ 6 →
    s.dev.frdSt ≠ 2 →
    (∀ c ∈ [Instr.frdPushStart, .frdPushData v, .frdPushDone, .frdPushAbort], Completes (exec c s) fun t =>
          t.dev.get F.FRD_PUSH_REJECT.count = min (s.dev.get F.FRD_PUSH_REJECT.count + 1) (2 ^ 16 - 1) ∧ s.Frame [Part.reg R.FRD_PUSH_REJECT.off] t)) ∧
  (∀ (s : State),
    s.dev.phase4 = true →
    s.dev.frd.pushed = true →
    Completes (exec .frdPushTimeout s) fun t =>
          t.dev.phaseSt 4 = 3 ∧ t.dev.get F.SYS_PHASE.cause = 0xF0 ∧ t.dev.sys.now8 = max s.dev.sys.now8 (s.dev.phaseAt 4 + 7500000000) ∧
          (t.dev.flt.strobes.map fun x => (x.src, x.d0, x.d1, x.fix)) = (s.dev.flt.strobes.map fun x => (x.src, x.d0, x.d1, x.fix)) ++
            [(35, 0xB80000F0, s.dev.rd R.FRD_PUSH_COUNT, 4)] ∧
          s.Frame ([Part.sys, Part.strobes, Part.reg R.SYS_PHASE.off, Part.reg (R.SYS_PHASE_TIMEk 3).off] ++ irqParts ++ timeParts) t) ∧
  (∀ (s : State) (hdr : List Byte),
    s.dev.frdSt = 1 →
    s.dev.frd.checked = false →
    s.dev.host.qspiBusy = false →
    Completes (exec (.frdHeaderComplete hdr) s) fun t =>
          (headerFail Config.revision.toNat (nats ((hdr ++ List.replicate 64 0xFF#8).take 64)) = none → t.dev.frd.checked = true ∧ t.dev.frd.rx = (hdr ++ List.replicate 64 0xFF#8).take 64 ∧ s.Frame [Part.frd] t) ∧
          (∀ x ∈ headerFail Config.revision.toNat (nats ((hdr ++ List.replicate 64 0xFF#8).take 64)), frdRejected s.dev t.dev x.1 x.2 ∧ s.Frame frdFailParts t)) ∧
  (∀ (s : State) (rest : List Byte),
    s.dev.frdSt = 1 →
    s.dev.frd.checked = true →
    Completes (exec (.qspiImageReadDone rest) s) fun t =>
          t.dev.frdSt = 3 ∧ t.dev.frd.rx = s.dev.frd.rx ++ (rest ++ List.replicate s.dev.rxLength 0xFF#8).take (s.dev.rxLength - 64) ∧
          t.dev.out = (if s.dev.host.qspiBusy = true ∨ s.dev.cal.walks = [] then s.dev.out else .qspi 0x6B (some 0x40000) 8 7 true [] 0x40000 :: s.dev.out) ∧
          s.Frame [Part.frd, Part.reg R.FRD_STATUS.off, Part.out] t) ∧
  (∀ (s : State),
    s.dev.frdSt = 3 →
    Completes (exec .imageCheckDone s) fun t =>
          (imageFail (nats s.dev.frd.rx) = none → t.dev.frdSt = 4 ∧ s.Frame [Part.reg R.FRD_STATUS.off] t) ∧
          (∀ x ∈ imageFail (nats s.dev.frd.rx), frdRejected s.dev t.dev x.1 x.2 ∧ s.Frame frdFailParts t)) ∧
  (∀ (s : State) (o : Nat),
    s.dev.frdSt = 4 →
    Completes (exec (.imageDistributed (some o)) s) fun t => frdRejected s.dev t.dev 0x40 o ∧ s.Frame frdFailParts t) ∧
  (∀ (s : State),
    s.dev.frdSt = 4 →
    s.dev.phase4 = false →
    (readCfg (nats s.dev.frd.rx)).evtt = [] →
    (readCfg (nats s.dev.frd.rx)).loops = [] →
    (readCfg (nats s.dev.frd.rx)).sens = [] →
    Completes (exec (.imageDistributed none) s) fun t =>
          t.dev.frdSt = 5 ∧ t.dev.get F.FRD_STATUS.code = 1 ∧ t.dev.cfg = readCfg (nats s.dev.frd.rx) ∧
          t.dev.frd.image = s.dev.frd.rx ∧ t.dev.frd.rx = [] ∧ t.dev.frd.damaged = [] ∧
          t.dev.rd R.FRD_IMAGE_SERIAL = t.dev.cfg.serial % 2 ^ 32 ∧ t.dev.rd R.FRD_IMAGE_CRC = t.dev.cfg.crc % 2 ^ 32 ∧
          (∀ (i : Nat), i < 4096 → t.dev.entLo i = 0 ∧ t.dev.entHi i = 0) ∧
          s.Frame ([Part.frd, Part.reg R.FRD_STATUS.off, Part.reg R.FRD_ERR_OFFSET.off, Part.reg R.FRD_IMAGE_SERIAL.off, Part.reg R.FRD_IMAGE_CRC.off,
            Part.reg R.FRD_PINNA_MAP.off, Part.tblMark, Part.reg R.EVT_ARMED_COUNT.off, Part.evt] ++
            (List.range 0x2000).flatMap (fun j => [Part.tbl (8 * j), Part.tblChk (8 * j)]) ++ irqParts ++ fltShowParts) t) ∧
  (∀ (s : State) (off : Nat),
    s.dev.frdSt = 5 →
    s.dev.frd.image ≠ [] →
    Completes (exec (.frdRetainedUe off) s) fun t =>
          t.dev.frd.damaged = ((dirEnts (nats s.dev.frd.image)).filter fun e => e.off ≤ off && off < e.off + e.len).map DirEnt.kind ++
            s.dev.frd.damaged ∧ s.Frame ([Part.frd] ++ freeParts ++ strobeParts 35) t)

/-- R8, R9, R10, R12, R13, R20, R388: With the host port open, a write stores the read-write fields of a register and clears the
write-one-to-clear bits that the data has set, but for those that an event sets in the same clock; a write of an offset
without a register does nothing; a shadow write changes the written copy and not the active one, and in the clock of the
group's transfer leaves the group ready; a commit marks the group ready. -/
def Obligations.HostRegisterWrites : Prop :=
  (∀ (s : State) (v same : Word64),
    s.dev.idleStart = false →
    s.dev.direct R.EVT_IRQ_EN.off →
    Completes (exec (.registerWrite R.EVT_IRQ_EN.off v false same) s) fun t =>
          t.dev.rd R.EVT_IRQ_EN = s.dev.rd R.EVT_IRQ_EN / 64 * 64 + v.toNat % 64 ∧ s.Frame [Part.reg R.EVT_IRQ_EN.off] t) ∧
  (∀ (s : State) (v same : Word64),
    s.dev.idleStart = false →
    s.dev.direct R.EVT_STATUS.off →
    Completes (exec (.registerWrite R.EVT_STATUS.off v false same) s) fun t =>
          (∀ (k : Nat), k < 6 → bit (t.dev.rd R.EVT_STATUS) k = (bit (s.dev.rd R.EVT_STATUS) k && (!bit v.toNat k || bit same.toNat k))) ∧
          s.Frame [Part.reg R.EVT_STATUS.off] t) ∧
  (∀ (s : State) (v same : Word64),
    s.dev.idleStart = false →
    s.dev.direct R.SYS_SECONDS.off →
    Completes (exec (.registerWrite R.SYS_SECONDS.off v false same) s) fun t => t.dev.rd R.SYS_SECONDS = s.dev.rd R.SYS_SECONDS ∧ s.Frame [Part.reg R.SYS_SECONDS.off] t) ∧
  (∀ (s : State) (off : Nat) (v same : Word64),
    s.dev.direct off →
    off < 2 ^ 24 →
    off % 4 = 0 →
    regAt off = none →
    Completes (exec (.registerWrite off v false same) s) fun t => t = s) ∧
  (∀ (s : State) (a : Fin 16) (v : Word64) (inTransfer : Bool),
    s.dev.idleStart = false →
    s.dev.direct (R.BLD_AXa_OBS a).off →
    Completes (exec (.shadowWrite (R.BLD_AXa_OBS a).off v inTransfer) s) fun t =>
          t.dev.rd (R.BLD_AXa_OBS a) = v.toNat % 2 ^ 32 ∧ t.dev.act (R.BLD_AXa_OBS a) = s.dev.act (R.BLD_AXa_OBS a) ∧
          t.dev.isReady (R.BLD_AXa_COMMIT a) = (s.dev.isReady (R.BLD_AXa_COMMIT a) || inTransfer) ∧
          (inTransfer = true → t.dev.get (F.BLD_AXa_STATUS.shadow_pending a) = 1) ∧
          s.Frame [Part.reg (R.BLD_AXa_OBS a).off, Part.rdy (R.BLD_AXa_COMMIT a).off, Part.reg (R.BLD_AXa_STATUS a).off] t) ∧
  (∀ (s : State) (a : Fin 16) (v : Word32) (inTransfer : Bool),
    s.dev.idleStart = false →
    s.dev.direct (R.BLD_AXa_COMMIT a).off →
    bit v.toNat 0 = true →
    Completes (exec (.groupCommit (R.BLD_AXa_COMMIT a).off v inTransfer) s) fun t =>
          t.dev.isReady (R.BLD_AXa_COMMIT a) = true ∧ t.dev.get (F.BLD_AXa_STATUS.shadow_pending a) = 1 ∧
          s.Frame [Part.rdy (R.BLD_AXa_COMMIT a).off, Part.reg (R.BLD_AXa_STATUS a).off] t) ∧
  (∀ (s : State) (k : Fin 32) (v : Word64),
    s.dev.direct (R.SHT_Dd_HEAD k).off →
    s.dev.shtState k = 0 →
    Completes (exec (.descriptorWrite (R.SHT_Dd_HEAD k).off v false) s) fun t =>
          t.dev.tagOf k = bits v.toNat 31 16 ∧ s.Frame [Part.reg (R.SHT_Dd_HEAD k).off] t) ∧
  (∀ (s : State) (k : Fin 32) (v : Word64),
    s.dev.direct (R.SHT_Dd_HEAD k).off →
    s.dev.shtState k ≠ 0 →
    Completes (exec (.descriptorWrite (R.SHT_Dd_HEAD k).off v false) s) fun t =>
          bit (t.dev.rd R.SYS_CFG_HOST_ERR) 2 = true ∧ s.Frame hostErrParts t)

/-- R11, R13: A 32-bit read of the low half of a 64-bit register returns it and latches the high half; a read of the high half
returns the latch; a 64-bit read returns the whole and leaves the latch. A 32-bit write of the low half is held; the write
of the high half gives the register both. A whole 64-bit write takes effect at once. A high-half write that gives a shadowed
register its value in the clock of the group's transfer leaves the group ready. -/
def Obligations.HostHalves : Prop :=
  (∀ (s : State) (off : Nat),
    s.dev.direct off →
    off < 2 ^ 24 →
    off % 4 = 0 →
    (∃ p ∈ findReg off, p.1.w = 64 ∧ p.1.off = off) →
    Completes (exec (.lowHalfRead off false) s) fun t =>
          (∀ p ∈ findReg off, t.dev.out = .read [s.dev.shown p.1 p.2 % 2 ^ 32] false :: s.dev.out ∧
            Store.get 0 t.dev.host.latchHi off = s.dev.shown p.1 p.2 / 2 ^ 32 + 1) ∧ s.Frame [Part.out, Part.host] t) ∧
  (∀ (s : State) (off : Nat),
    s.dev.direct off →
    off < 2 ^ 24 →
    off % 4 = 0 →
    (∃ p ∈ regAt off, p.1.w = 64 ∧ p.1.off + 4 = off) →
    Store.get 0 s.dev.host.latchHi (off - 4) ≠ 0 →
    Completes (exec (.highHalfRead off) s) fun t =>
          t.dev.out = .read [Store.get 0 s.dev.host.latchHi (off - 4) - 1] false :: s.dev.out ∧ s.Frame [Part.out] t) ∧
  (∀ (s : State) (off : Nat),
    s.dev.direct off →
    off < 2 ^ 24 →
    off % 8 = 0 →
    (∃ p ∈ findReg off, p.1.w = 64 ∧ p.1.off = off) →
    Completes (exec (.lowHalfRead off true) s) fun t =>
          (∀ p ∈ findReg off, t.dev.out = .read [s.dev.shown p.1 p.2] false :: s.dev.out) ∧ s.Frame [Part.out] t) ∧
  (∀ (s : State) (n : Fin 8) (v : Word32) (same : Word64) (inTransfer : Bool),
    s.dev.idleStart = false →
    s.dev.direct (R.CHn_SCR_PS_MAP n).off →
    s.dev.lowHalf (R.CHn_SCR_PS_MAP n) < 2 ^ 32 →
    Completes (exec (.highHalfWrite ((R.CHn_SCR_PS_MAP n).off + 4) v inTransfer same) s) fun t =>
          t.dev.rd (R.CHn_SCR_PS_MAP n) = v.toNat * 2 ^ 32 + s.dev.lowHalf (R.CHn_SCR_PS_MAP n) ∧
          t.dev.act (R.CHn_SCR_PS_MAP n) = s.dev.act (R.CHn_SCR_PS_MAP n) ∧
          t.dev.isReady (R.CHn_SCR_COMMIT n) = (s.dev.isReady (R.CHn_SCR_COMMIT n) || inTransfer) ∧
          s.Frame [Part.reg (R.CHn_SCR_PS_MAP n).off, Part.host, Part.rdy (R.CHn_SCR_COMMIT n).off, Part.reg (R.CHn_SCR_STATUS n).off] t) ∧
  (∀ (s : State),
    s.dev.direct R.EVT_TIME.off →
    Completes (exec (.lowHalfRead R.EVT_TIME.off false) s) fun t => t.dev.out = .read [s.dev.now % 2 ^ 32] false :: s.dev.out ∧
          Store.get 0 t.dev.host.latchHi R.EVT_TIME.off = s.dev.now / 2 ^ 32 + 1) ∧
  (∀ (s : State) (off : Nat) (v : Word32),
    s.dev.direct off →
    off < 2 ^ 24 →
    off % 4 = 0 →
    (∃ p ∈ findReg off, p.1.w = 64 ∧ p.1.off = off) →
    Completes (exec (.lowHalfWrite off v) s) fun t => Store.get 0 t.dev.host.bufLo off = v.toNat + 1 ∧ s.Frame [Part.host] t) ∧
  (∀ (s : State) (k : Fin 64) (v : Word32) (same : Word64) (inTransfer : Bool) (lo : Nat),
    s.dev.idleStart = false →
    s.dev.direct (R.MSIX_ADDR k).off →
    Store.get 0 s.dev.host.bufLo (R.MSIX_ADDR k).off = lo + 1 →
    lo < 2 ^ 32 →
    Completes (exec (.highHalfWrite ((R.MSIX_ADDR k).off + 4) v inTransfer same) s) fun t =>
          t.dev.rd (R.MSIX_ADDR k) = v.toNat * 2 ^ 32 + lo ∧ Store.get 0 t.dev.host.bufLo (R.MSIX_ADDR k).off = 0 ∧
          s.Frame [Part.reg (R.MSIX_ADDR k).off, Part.host] t) ∧
  (∀ (s : State) (k : Fin 64) (v same : Word64),
    s.dev.idleStart = false →
    s.dev.direct (R.MSIX_ADDR k).off →
    Completes (exec (.registerWrite (R.MSIX_ADDR k).off v true same) s) fun t =>
          t.dev.rd (R.MSIX_ADDR k) = v.toNat ∧ s.Frame [Part.reg (R.MSIX_ADDR k).off, Part.host] t)

/-- R19, R20, R21, R22, R23, R407, R408, R410, R412: A word of BAR2 is stored with a fresh check byte and read back as decoded;
one its unit holds locked is refused and counted. A misaligned word and one of a domain that is off are answered with zero
and reported. An access outside every BAR is an Unsupported Request. Unmasking an MSI-X entry sends its waiting message. The
link comes up after phase 3. Points the spec leaves open follow the model's choices of log entries 12 and 221. -/
def Obligations.HostTablesAndRequests : Prop :=
  (∀ (s : State) (off : Nat) (v : Word64),
    s.dev.direct 0 →
    off % 8 = 0 →
    (∃ k ∈ tableDomain off, s.dev.domOn k = true) →
    s.dev.tableLocked off = false →
    Completes (exec (.bar2Write off v true false) s) fun t =>
          t.dev.tw off = (if off < 0x10000 ∧ off % 16 = 8 then
            v.toNat % 2 ^ 48 + bits v.toNat 61 49 * 2 ^ 49 + bits (s.dev.tw off) 63 62 * 2 ^ 62 else v.toNat) ∧
          Store.get 0#8 t.dev.tblChk off = 0#8 ∧ s.Frame [Part.tbl off, Part.tblChk off, Part.tblMark] t) ∧
  (∀ (s : State) (off : Nat) (v : Word64),
    s.dev.direct 0 →
    off % 8 = 0 →
    (∃ k ∈ tableDomain off, s.dev.domOn k = true) →
    s.dev.tableLocked off = true →
    Completes (exec (.bar2Write off v true false) s) fun t =>
          t.dev.get F.SYS_BAR2_REJECT.count = min (s.dev.get F.SYS_BAR2_REJECT.count + 1) (2 ^ 16 - 1) ∧
          bit (t.dev.rd R.SYS_CFG_HOST_ERR) 2 = true ∧ s.Frame ([Part.reg R.SYS_BAR2_REJECT.off] ++ hostErrParts) t) ∧
  (∀ (s : State) (off : Nat),
    s.dev.direct 0 →
    off % 8 = 0 →
    (∃ k ∈ tableDomain off, s.dev.domOn k = true) →
    Store.get 0#8 s.dev.tblChk off = 0#8 →
    Completes (exec (.bar2Read off true) s) (fun t => t.dev.out = .read [s.dev.tw off] false :: s.dev.out ∧ s.Frame [Part.out] t) ∧
        Completes (exec (.bar2Read (off + 4) false) s) (fun t => t.dev.out = .read [s.dev.tw off / 2 ^ 32] false :: s.dev.out)) ∧
  (∀ (s : State) (bar : Fin 3) (off size : Nat) (write : Bool) (data : List Byte),
    s.dev.direct 0 →
    1 ≤ size →
    size ≤ 8 →
    ¬(size = 4 ∧ off % 4 = 0) →
    ¬(size = 8 ∧ off % 8 = 0) →
    Completes (exec (.barAccessMisaligned bar off size write data) s) fun t =>
          t.dev.out = (if write then s.dev.out else .read [0] false :: s.dev.out) ∧ bit (t.dev.rd R.SYS_CFG_HOST_ERR) 0 = true ∧
          s.Frame ([Part.out] ++ hostErrParts) t) ∧
  (∀ (s : State) (off : Nat) (write : Bool),
    s.dev.persC = false →
    s.dev.host.d3 = false →
    s.dev.domOn 0 = true →
    s.dev.domOn (domainOf off) = false →
    off % 4 = 0 →
    Completes (exec (.offDomainAccess off 4 write) s) fun t =>
          t.dev.out = (if write then s.dev.out else .read [0] false :: s.dev.out) ∧ bit (t.dev.rd R.SYS_CFG_HOST_ERR) 1 = true ∧
          s.Frame ([Part.out] ++ hostErrParts) t) ∧
  (∀ (s : State) (addr : Word64) (write : Bool),
    s.dev.endpoint = true →
    Completes (exec (.unsupportedRequest addr write) s) fun t =>
          t.dev.out = .unsupported :: s.dev.out ∧ t.dev.get F.SYS_CFG_HOST_ERR.ur_sent = 1 ∧ s.Frame [Part.out, Part.reg R.SYS_CFG_HOST_ERR.off] t) ∧
  (∀ (s : State) (v : Fin 64),
    s.dev.idleStart = false →
    s.dev.direct (R.MSIX_CTRL v).off →
    Completes (exec (.msixUnmask v) s) fun t =>
          t.dev.get (F.MSIX_CTRL.mask v) = 0 ∧
          (s.dev.getBit F.MSIX_PBA.pending v = true → bit (Store.get 0#64 s.dev.regs 0x2001000).toNat 0 = true →
            t.dev.getBit F.MSIX_PBA.pending v = false ∧
            t.dev.out = .msix v (s.dev.rd (R.MSIX_ADDR v)) (s.dev.rd (R.MSIX_DATA v)) :: s.dev.out) ∧
          (s.dev.getBit F.MSIX_PBA.pending v = false → t.dev.out = s.dev.out) ∧
          s.Frame ([Part.reg (R.MSIX_CTRL v).off] ++ irqParts) t) ∧
  (∀ (s : State) (speed width : Nat),
    s.dev.endpoint = true →
    s.dev.host.linkUp = false →
    s.dev.phaseOver 3 = true →
    1 ≤ speed →
    speed ≤ 4 →
    width ∈ [1, 2, 4] →
    Completes (exec (.pcieLinkUp speed width) s) fun t =>
          t.dev.host.linkUp = true ∧ t.dev.host.speed = speed ∧ t.dev.host.width = width ∧ s.Frame [Part.host] t)

/-- R24, R160, R165, R167, R172, R356, R415: A 64-bit write of BAR4 stores the word with a consistent check byte, a 32-bit one
replaces its half; a read answers the word as decoded, poisoned where it is uncorrectable; a poisoned write stores its words
poisoned and is reported; no other byte of user memory changes. -/
def Obligations.HostMemoryWindow : Prop :=
  (∀ (s : State) (off : Nat) (v : Word64),
    s.dev.direct 0x50000 →
    off % 8 = 0 →
    off < 2 ^ 30 →
    s.dev.memx.lost = false →
    s.dev.on F.MEM_INJECT_CTRL.arm = false →
    off / 8 ∉ s.dev.memx.bad →
    Completes (exec (.bar4Write off v true) s) fun t =>
          t.mem.word (off / 8) = v.toNat ∧ t.mem.syn (off / 8) = 0 ∧ s.MemFrame [off / 8] t ∧ s.dev.Frame [] t.dev ∧ t.pending = s.pending) ∧
  (∀ (s : State) (off : Nat) (v : Word64),
    s.dev.direct 0x50000 →
    off % 4 = 0 →
    off < 2 ^ 30 →
    s.dev.memx.lost = false →
    s.dev.on F.MEM_INJECT_CTRL.arm = false →
    off / 8 ∉ s.dev.memx.bad →
    s.mem.syn (off / 8) = 0 →
    Completes (exec (.bar4Write off v false) s) fun t =>
          t.mem.word (off / 8) = putBits (s.mem.word (off / 8)) (off % 8 * 8 + 31) (off % 8 * 8) v.toNat ∧ t.mem.syn (off / 8) = 0 ∧
          s.MemFrame [off / 8] t ∧ s.dev.Frame [] t.dev ∧ t.pending = s.pending) ∧
  (∀ (s : State) (off : Nat),
    s.dev.direct 0x50000 →
    off % 8 = 0 →
    off < 2 ^ 30 →
    s.dev.memx.lost = false →
    Completes (exec (.bar4Read off true) s) fun t =>
          t.dev.out = .read [(decodeWord (s.mem.word (off / 8)) (s.mem.syn (off / 8))).1]
            (decide ((decodeWord (s.mem.word (off / 8)) (s.mem.syn (off / 8))).2 = .uncorrectable)) :: s.dev.out ∧
          (s.mem.syn (off / 8) = 0 → s.Frame [Part.out] t) ∧
          s.Frame ([Part.out, Part.reg R.MEM_CE_WINDOW.off, Part.reg R.MEM_CE_TOTAL.off, Part.reg R.MEM_ERR_LAST_CE.off, Part.reg R.MEM_UE_TOTAL.off,
            Part.reg R.MEM_ERR_LAST_UE.off, Part.memx] ++ strobeParts 20 ++ strobeParts 19) t) ∧
  (∀ (s : State) (off : Nat) (v : Word64),
    s.dev.direct 0x50000 →
    off % 8 = 0 →
    off < 2 ^ 30 →
    s.dev.memx.lost = false →
    s.dev.on F.MEM_INJECT_CTRL.arm = false →
    off / 8 ∉ s.dev.memx.bad →
    Completes (exec (.poisonedWrite 2 off [v.setWidth 32, (v >>> 32).setWidth 32]) s) fun t =>
          t.mem.word (off / 8) = v.toNat ∧ t.mem.syn (off / 8) = 0xFF ∧ bit (t.dev.rd R.SYS_CFG_HOST_ERR) 7 = true ∧
          s.MemFrame [off / 8] t ∧ s.dev.Frame hostErrParts t.dev ∧ t.pending = s.pending) ∧
  (∀ (s : State) (bar : Fin 3) (off : Nat) (data : List Word32),
    s.dev.direct 0 →
    bar ≠ 2 →
    Completes (exec (.poisonedWrite bar off data) s) fun t => bit (t.dev.rd R.SYS_CFG_HOST_ERR) 7 = true ∧ s.Frame hostErrParts t)

/-- R253, R421, R422, R423, R426, R427: A QSPI command goes out while the bus is free and is refused while another owner holds
it; its end puts the data into the window and posts vector 19. A doorbell without an action bit is refused, one that finds
the queue full is reported. Doorbells with an action bit are counted and confirmed. ESTOP_n opening and closing is shown,
counted and recorded. -/
def Obligations.QspiAndUrgent : Prop :=
  (∀ (s : State),
    s.dev.warned = false →
    s.dev.direct R.URG_CMD.off →
    Completes (exec .urgDmaHalt s) (fun t =>
          t.dev.get F.DMA_CTRL.enable = 0 ∧ bit (t.dev.rd R.URG_STATUS) 2 = true ∧
          t.dev.get F.URG_COUNTS.doorbells = min (s.dev.get F.URG_COUNTS.doorbells + 1) (2 ^ 16 - 1) ∧ t.pending = s.pending) ∧
        Completes (exec .urgPermitOff s) (fun t =>
          (∀ (n : Nat), n < 8 → s.dev.domOn (4 + n) = true →
            t.dev.get (F.CHn_FGT_CTRL.permit_req n) = 0 ∧ t.dev.get (F.CHn_FGT_STATUS.permit n) = 0) ∧ bit (t.dev.rd R.URG_STATUS) 1 = true ∧
          t.dev.get F.URG_COUNTS.doorbells = min (s.dev.get F.URG_COUNTS.doorbells + 1) (2 ^ 16 - 1) ∧ t.mem = s.mem ∧ t.pending = s.pending) ∧
        Completes (exec .urgEngineStop s) (fun t =>
          (∀ (k : Nat), k < 32 → t.dev.shtState k ≠ 2 ∧ t.dev.shtState k ≠ 3) ∧ bit (t.dev.rd R.URG_STATUS) 0 = true ∧
          t.dev.get F.URG_COUNTS.doorbells = min (s.dev.get F.URG_COUNTS.doorbells + 1) (2 ^ 16 - 1) ∧ t.mem = s.mem ∧ t.pending = s.pending)) ∧
  (∀ (s : State),
    s.dev.warned = false →
    s.dev.host.estop = true →
    Completes (exec .estopOpen s) fun t =>
          t.dev.host.estop = false ∧ t.dev.get F.URG_STATUS.estop_level = 0 ∧ bit (t.dev.rd R.URG_STATUS) 5 = true ∧
          t.dev.get F.URG_COUNTS.estops = min (s.dev.get F.URG_COUNTS.estops + 1) (2 ^ 16 - 1) ∧ t.dev.on (F.FLT_SRCi_STATE.active 41) = true ∧
          (t.dev.flt.strobes.any (fun x => x.src = 41) = true ∨ t.dev.flt.opens.any (fun x => x.src = 41) = true) ∧
          (s.dev.armed 0x80 0 = true → ∀ n ∈ s.dev.chansInUse, t.dev.get (F.CHn_FGT_STATUS.permit n) = 0) ∧ t.mem = s.mem ∧ t.pending = s.pending) ∧
  (∀ (s : State),
    s.dev.host.estop = false →
    Completes (exec .estopClose s) fun t =>
          t.dev.host.estop = true ∧ t.dev.get F.URG_STATUS.estop_level = 1 ∧ bit (t.dev.rd R.URG_STATUS) 6 = true ∧
          t.dev.on (F.FLT_SRCi_STATE.active 41) = false ∧ t.dev.sys.now8 = s.dev.sys.now8 + 125000 ∧ t.mem = s.mem ∧ t.pending = s.pending) ∧
  (∀ (s : State) (v : Word32),
    s.dev.direct R.FRD_QSPI_CTRL.off →
    s.dev.on F.FRD_QSPI_STATUS.busy = false →
    bit v.toNat 31 = true →
    s.dev.get F.FRD_STATUS.state ≠ 1 →
    s.dev.cal.walks = [] →
    s.dev.host.qspiBusy = false →
    Completes (exec (.qspiCommand v) s) fun t =>
          t.dev.get F.FRD_QSPI_STATUS.busy = 1 ∧ t.dev.host.qspiBusy = true ∧ t.dev.rd R.FRD_QSPI_CTRL = v.toNat ∧
          t.dev.out = .qspi (v.toNat % 256) (if bit v.toNat 27 then some (s.dev.get F.FRD_QSPI_ADDR.address) else none)
            (bits v.toNat 23 16) (max 7 (s.dev.get F.FRD_QSPI_CFG.div)) (bit v.toNat 28)
            (if bits v.toNat 30 29 = 2 then (List.range (bits v.toNat 15 8 + 1)).map s.dev.qspiByte else [])
            (if bits v.toNat 30 29 = 1 ∨ bits v.toNat 30 29 = 2 then bits v.toNat 15 8 + 1 else 0) :: s.dev.out ∧
          s.Frame [Part.reg R.FRD_QSPI_STATUS.off, Part.reg R.FRD_QSPI_CTRL.off, Part.host, Part.out] t) ∧
  (∀ (s : State) (v : Word32),
    s.dev.direct R.FRD_QSPI_CTRL.off →
    s.dev.on F.FRD_QSPI_STATUS.busy = false →
    bit v.toNat 31 = true →
    s.dev.get F.FRD_STATUS.state = 1 ∨ s.dev.cal.walks ≠ [] ∨ s.dev.host.qspiBusy = true →
    Completes (exec (.qspiCommand v) s) fun t => t.dev.get F.FRD_QSPI_STATUS.refused = 1 ∧ s.Frame [Part.reg R.FRD_QSPI_STATUS.off] t) ∧
  (∀ (s : State) (data : List Byte),
    s.dev.on F.FRD_QSPI_STATUS.busy = true →
    s.dev.host.qspiBusy = true →
    Completes (exec (.qspiCommandDone data) s) fun t =>
          t.dev.host.qspiBusy = false ∧ t.dev.get F.FRD_QSPI_STATUS.busy = 0 ∧ t.dev.get F.FRD_QSPI_STATUS.done = 1 ∧
          t.dev.get F.FRD_QSPI_STATUS.count = (s.dev.get F.FRD_QSPI_STATUS.count + 1) % 2 ^ 16 ∧
          (s.dev.get F.FRD_QSPI_CTRL.dir = 1 → ∀ (k : Nat), k < s.dev.get F.FRD_QSPI_CTRL.len + 1 →
            t.dev.qspiByte k = ((data[k]?).map (·.toNat)).getD 0xFF) ∧
          s.Frame ([Part.reg R.FRD_QSPI_STATUS.off, Part.host] ++ (List.range 64).map (fun i => Part.reg (R.FRD_QSPI_DATA i).off) ++ irqParts) t) ∧
  (∀ (s : State) (v : Word32) (full : Bool),
    s.dev.direct R.URG_CMD.off →
    v.toNat / 2 ^ 16 = 0x5547 →
    full = false ∨ 4 ≤ s.dev.urgHeld.length →
    Completes (exec (.urgDoorbellRefused v full) s) fun t =>
          if full then bit (t.dev.rd R.SYS_CFG_HOST_ERR) 3 = true ∧ s.Frame hostErrParts t
          else bit (t.dev.rd R.URG_STATUS) 4 = true ∧ t.dev.host.urg = s.dev.urgHeld ++ [s.dev.sys.now8] ∧ s.Frame ([Part.reg R.URG_STATUS.off, Part.host] ++ irqParts) t) ∧
  (∀ (s : State),
    s.dev.idleStart = false →
    s.dev.direct R.URG_CMD.off →
    (∀ (q : Nat), q < 16 → s.dev.qSt q = 0) →
    Completes (exec .urgDmaHalt s) fun t =>
          t.dev.get F.DMA_CTRL.enable = 0 ∧ (∀ (q : Nat), q < 16 → t.dev.on (F.DMA_Qq_CFG.enable q) = false) ∧
          bit (t.dev.rd R.URG_STATUS) 2 = true ∧
          t.dev.get F.URG_COUNTS.doorbells = min (s.dev.get F.URG_COUNTS.doorbells + 1) (2 ^ 16 - 1) ∧
          s.Frame ([Part.reg R.DMA_CTRL.off, Part.reg R.URG_STATUS.off, Part.reg R.URG_COUNTS.off, Part.host] ++
            (List.range 16).map (fun q => Part.reg (R.DMA_Qq_CFG q).off) ++ irqParts) t) ∧
  (∀ (s : State),
    s.dev.idleStart = false →
    s.dev.direct R.URG_CMD.off →
    (∀ (k : Nat), k < 32 → s.dev.shtState k ≠ 3) →
    Completes (exec .urgPermitOff s) fun t =>
          (∀ (n : Nat), n < 8 → s.dev.domOn (4 + n) = true →
            t.dev.get (F.CHn_FGT_CTRL.permit_req n) = 0 ∧ t.dev.get (F.CHn_FGT_STATUS.permit n) = 0) ∧
          bit (t.dev.rd R.URG_STATUS) 1 = true ∧
          t.dev.get F.URG_COUNTS.doorbells = min (s.dev.get F.URG_COUNTS.doorbells + 1) (2 ^ 16 - 1) ∧
          s.Frame ([Part.reg R.URG_STATUS.off, Part.reg R.URG_COUNTS.off, Part.host] ++ (List.range 8).map (fun n => Part.reg (R.CHn_FGT_CTRL n).off) ++
            (List.range 8).flatMap gateParts ++ irqParts) t) ∧
  (∀ (s : State),
    s.dev.idleStart = false →
    s.dev.direct R.URG_CMD.off →
    (∀ (k : Nat), k < 32 → s.dev.shtState k ≠ 2 ∧ s.dev.shtState k ≠ 3) →
    (∀ (a : Nat), a < 16 → (s.dev.axis a).isSome = true → s.dev.bldState a = 0) →
    Completes (exec .urgEngineStop s) fun t =>
          (∀ (m : Nat), m < 16 → (s.dev.stpAxis m).isSome = true → s.dev.stpState m = 2 →
            t.dev.stpState m = 3 ∧ (t.dev.stpS m).interrupted = true) ∧
          (∀ (k : Nat), k < 64 → s.dev.loopState k ≠ 0 → s.dev.loopState k ≠ 5 → (7, 0, s.dev.now) ∈ (t.dev.loopS k).due) ∧
          bit (t.dev.rd R.URG_STATUS) 0 = true ∧
          t.dev.get F.URG_COUNTS.doorbells = min (s.dev.get F.URG_COUNTS.doorbells + 1) (2 ^ 16 - 1) ∧
          s.Frame ([Part.reg R.URG_STATUS.off, Part.reg R.URG_COUNTS.off, Part.host, Part.reg R.BLD_REJECT.off, Part.reg R.STP_REJECT.off, Part.reg R.LOOP_REJECT.off] ++
            (List.range 16).flatMap (fun m => [Part.reg (R.STP_AXm_STATUS m).off, Part.stp m]) ++ (List.range 64).map Part.loop ++ irqParts) t) ∧
  (∀ (s : State),
    s.dev.warned = false →
    s.dev.host.estop = true →
    s.dev.flt.strobes = [] →
    s.dev.flt.opens = [] →
    s.dev.chansInUse = [] →
    s.dev.armed 0x80 6 = false →
    s.dev.evt.running = true →
    s.dev.now + 31 < 2 ^ 64 →
    Completes (exec .estopOpen s) fun t =>
          t.dev.host.estop = false ∧ t.dev.get F.URG_STATUS.estop_level = 0 ∧ bit (t.dev.rd R.URG_STATUS) 5 = true ∧
          t.dev.get F.URG_COUNTS.estops = min (s.dev.get F.URG_COUNTS.estops + 1) (2 ^ 16 - 1) ∧
          t.dev.on (F.FLT_SRCi_STATE.active 41) = true ∧ (t.dev.flt.strobes.map fun x => (x.src, x.t)) = [(41, s.dev.now)] ∧
          t.dev.now = s.dev.now + s.dev.timeGain 31 ∧
          s.Frame ([Part.host, Part.free, Part.strobes, Part.reg R.URG_STATUS.off, Part.reg R.URG_COUNTS.off, Part.reg (R.FLT_SRCi_STATE 41).off] ++ irqParts ++ timeParts) t) ∧
  (∀ (s : State),
    s.dev.host.estop = false →
    (∀ (n : Nat), n < 8 → (s.dev.chS n).latches = []) →
    Completes (exec .estopClose s) fun t =>
          t.dev.host.estop = true ∧ t.dev.get F.URG_STATUS.estop_level = 1 ∧ bit (t.dev.rd R.URG_STATUS) 6 = true ∧
          t.dev.on (F.FLT_SRCi_STATE.active 41) = false ∧ t.dev.sys.now8 = s.dev.sys.now8 + 125000 ∧
          s.Frame ([Part.host, Part.reg R.URG_STATUS.off] ++ activeParts 41 ++ activeParts 36 ++ (List.range 8).flatMap gateParts ++ irqParts ++ timeParts) t)

/-- R76, R78, R79, R83, R101, R121: A capture latches engine time and the seconds together; a software mark, a firing of NONE,
of SHEET_MARK and of DOUT make their record and have their effect; a pulse on a DOUT ends with the level it began from;
nothing else changes. Points the spec leaves open follow the model's choice of log entry 26. -/
def Obligations.EvtCaptureMarksAndOutputs : Prop :=
  (∀ (s : State) (f : Firing) (k : Nat),
    s.dev.warned = false →
    s.dev.actionHit 0x0A f.target = false →
    f.arg = 0x10 →
    s.dev.descOf f.tag = some k →
    s.dev.shtState k = 3 →
    Completes (exec (.sheetMark f) s) fun t =>
          t.dev.on (F.SHT_Dd_STATE.exit_seen k) = true ∧
          (s.dev.slot, ⟨4, 0, 0, 0, 7, 0x10, f.tag, 0xFF <<< 16 + k, 0, s.dev.now⟩) ∈ t.dev.evt.recs ∧
          (s.dev.slot, firingRec 0x0A f false) ∈ t.dev.evt.recs ∧ t.mem = s.mem ∧ t.pending = s.pending) ∧
  (∀ (s : State),
    s.dev.direct R.EVT_CAPTURE_CTRL.off →
    Completes (exec .timeCapture s) fun t =>
        t.dev.rd R.EVT_CAPTURE_TIME = s.dev.rd R.EVT_TIME ∧
        t.dev.get F.EVT_CAPTURE_SECONDS.seconds = s.dev.get F.SYS_SECONDS.seconds ∧
        s.Frame [Part.reg R.EVT_CAPTURE_TIME.off, Part.reg R.EVT_CAPTURE_SECONDS.off] t) ∧
  (∀ (s : State) (v : Word32),
    s.dev.direct R.EVT_TALLY_MARK.off →
    Completes (exec (.tallyMark v) s) fun t =>
        t.dev.evt.recs = s.dev.evt.recs ++ [(s.dev.slot, ⟨5, 0, 0, 0, 0x0A, 0, 0, v.toNat, 0, s.dev.now⟩)] ∧
        s.Frame [Part.recs] t) ∧
  (∀ (s : State) (f : Firing),
    Completes (exec (.noneAction f) s) fun t =>
        t.dev.evt.recs = s.dev.evt.recs ++ [(s.dev.slot, firingRec 0 f false)] ∧
        (f.late = true → t.dev.get F.EVT_LATE_COUNT.count = min (s.dev.get F.EVT_LATE_COUNT.count + 1) (2 ^ 32 - 1) ∧
          bit (t.dev.rd R.EVT_STATUS) 1 = true) ∧
        (f.late = false → s.Frame [Part.recs] t) ∧
        s.Frame ([Part.recs, Part.reg R.EVT_LATE_COUNT.off, Part.reg R.EVT_STATUS.off] ++ irqParts) t) ∧
  (∀ (s : State) (f : Firing) (k : Nat),
    s.dev.idleStart = false →
    s.dev.actionHit 0x0A f.target = false →
    0x11 ≤ f.arg →
    f.arg ≤ 0x1F →
    s.dev.descOf f.tag = some k →
    1 ≤ s.dev.shtState k →
    s.dev.shtState k ≤ 3 →
    Completes (exec (.sheetMark f) s) fun t =>
          t.dev.evt.recs = s.dev.evt.recs ++ [(s.dev.slot, ⟨4, 0, 0, 0, 7, f.arg, f.tag, 0xFF <<< 16 + k, 0, s.dev.now⟩),
            (s.dev.slot, firingRec 0x0A f false)] ∧ s.Frame (firingParts f) t) ∧
  (∀ (s : State) (f : Firing),
    s.dev.actionHit 9 f.target = false →
    s.dev.doutOn f.target = true →
    Completes (exec (.dout f) s) fun t =>
          Store.get false t.dev.evt.dout f.target = bit f.arg 0 ∧
          (2 ≤ f.arg → Store.get 0 t.dev.evt.pulseEnd f.target = f.delivered + f.arg / 2 * 125 ∧
            (Store.get 0 s.dev.evt.pulse f.target = 0 →
              Store.get 0 t.dev.evt.pulse f.target = b2n (Store.get false s.dev.evt.dout f.target) + 1)) ∧
          (∀ (j : Nat), j < 32 → j ≠ f.target → Store.get false t.dev.evt.dout j = Store.get false s.dev.evt.dout j) ∧
          (∀ (j : Nat), j < 32 → j ≠ f.target → Store.get 0 t.dev.evt.pulse j = Store.get 0 s.dev.evt.pulse j) ∧
          t.dev.evt.recs = s.dev.evt.recs ++ [(s.dev.slot, firingRec 9 f false)] ∧ s.Frame (firingParts f ++ [Part.evt]) t) ∧
  (∀ (s : State) (k : Fin 32),
    Store.get 0 s.dev.evt.pulse k ≠ 0 →
    s.dev.evt.running = true →
    Store.get 0 s.dev.evt.pulseEnd k < 2 ^ 64 →
    Completes (exec (.doutPulseEnd k) s) fun t =>
          Store.get false t.dev.evt.dout k = decide (Store.get 0 s.dev.evt.pulse k = 2) ∧
          Store.get 0 t.dev.evt.pulse k = 0 ∧ t.dev.now = s.dev.timeAt (Store.get 0 s.dev.evt.pulseEnd k) ∧
          (∀ (j : Nat), j < 32 → j ≠ k.val → Store.get false t.dev.evt.dout j = Store.get false s.dev.evt.dout j) ∧
          s.Frame ([Part.evt] ++ timeParts) t)

/-- R83, R84, R85, R90, R92: EVT_EDIT writes, arms, disarms and reads an entry, and the ARM and DISARM actions arm and disarm
one; a gated entry and one that fails the check are refused with the result that R92 names, and the entry stays as it was.
Points the spec leaves open follow the model's choices of log entries 236, 238 and 239. -/
def Obligations.EvtEntries : Prop :=
  (∀ (s : State) (i : Fin 4096),
    s.dev.direct R.EVT_EDIT_CTRL.off →
    Completes (exec (.editRead i) s) fun t =>
          (∀ (j : Nat), j < 4 → t.dev.rd (R.EVT_EDIT_DATAj j) =
            (if j < 2 then t.dev.entLo i else t.dev.entHi i) / 2 ^ (32 * (j % 2)) % 2 ^ 32) ∧
          t.dev.rd R.EVT_EDIT_RESULT = i.val ∧ bit (t.dev.rd R.EVT_STATUS) 0 = true ∧ t.mem = s.mem ∧ t.pending = s.pending) ∧
  (∀ (s : State) (i : Fin 4096),
    s.dev.direct R.EVT_EDIT_CTRL.off →
    Completes (exec (.editWrite i) s) fun t =>
          let res := t.dev.rd R.EVT_EDIT_RESULT / 2 ^ 24
          let arm := bit (editRaw t.dev) 63
          t.dev.rd R.EVT_EDIT_RESULT % 2 ^ 12 = i.val ∧
          (if entGated (t.dev.entHi i) = true ∧ arm = true then res = 2
          else res = 1 ∨ (res = 4 ∧ arm = true ∧ t.dev.armCheck (editLo t.dev) (editHi t.dev i) ≠ 0) ∨
            (res = 0 ∧ t.dev.entLo i = editLo t.dev % 2 ^ 64 ∧ t.dev.entHi i = editHi t.dev i + b2n arm * 2 ^ 63)) ∧
          bit (t.dev.rd R.EVT_STATUS) 0 = true ∧ t.mem = s.mem ∧ t.pending = s.pending) ∧
  (∀ (s : State) (i : Fin 4096),
    s.dev.direct R.EVT_EDIT_CTRL.off →
    Completes (exec (.editArm i) s) fun t =>
          let res := t.dev.rd R.EVT_EDIT_RESULT / 2 ^ 24
          t.dev.rd R.EVT_EDIT_RESULT % 2 ^ 12 = i.val ∧
          (if entGated (t.dev.entHi i) = true then res = 2
          else if entArmed (t.dev.entHi i) = true then res = 0 else res = 4 ∧ t.dev.armCheck (t.dev.entLo i) (t.dev.entHi i) ≠ 0) ∧
          bit (t.dev.rd R.EVT_STATUS) 0 = true ∧ t.mem = s.mem ∧ t.pending = s.pending) ∧
  (∀ (s : State) (i : Fin 4096),
    s.dev.direct R.EVT_EDIT_CTRL.off →
    Completes (exec (.editDisarm i) s) fun t =>
          let fires := s.dev.evt.due.any (fun x => x.idx = i.val)
          t.dev.rd R.EVT_EDIT_RESULT = (if entGated (t.dev.entHi i) = true then 2 else if fires = true then 3 else 0) <<< 24 + i.val ∧
          (entGated (t.dev.entHi i) = false → entArmed (t.dev.entHi i) = false) ∧
          bit (t.dev.rd R.EVT_STATUS) 0 = true ∧ t.mem = s.mem ∧ t.pending = s.pending) ∧
  (∀ (s : State) (i : Fin 4096),
    s.dev.direct R.EVT_EDIT_CTRL.off →
    (∀ x ∈ s.dev.evt.due, x.idx ≠ i.val) →
    Completes (exec (.editRead i) s) fun t =>
          (∀ (j : Nat), j < 4 → t.dev.rd (R.EVT_EDIT_DATAj j) =
            (if j < 2 then s.dev.entLo i else s.dev.entHi i) / 2 ^ (32 * (j % 2)) % 2 ^ 32) ∧
          t.dev.rd R.EVT_EDIT_RESULT = i.val ∧ bit (t.dev.rd R.EVT_STATUS) 0 = true ∧
          s.Frame ((List.range 4).map (fun j => Part.reg (R.EVT_EDIT_DATAj j).off) ++ editParts) t) ∧
  (∀ (s : State) (i : Fin 4096),
    s.dev.direct R.EVT_EDIT_CTRL.off →
    (∀ x ∈ s.dev.evt.due, x.idx ≠ i.val) →
    entArmed (s.dev.entHi i) = false →
    entGated (s.dev.entHi i) = false →
    (bit (editRaw s.dev) 63 = true → s.dev.armCheck (editLo s.dev) (editHi s.dev i) = 0) →
    Completes (exec (.editWrite i) s) fun t =>
          t.dev.entLo i = editLo s.dev % 2 ^ 64 ∧
          t.dev.entHi i = editHi s.dev i + b2n (bit (editRaw s.dev) 63) * 2 ^ 63 ∧
          t.dev.get F.EVT_ARMED_COUNT.count = (s.dev.get F.EVT_ARMED_COUNT.count + b2n (bit (editRaw s.dev) 63)) % 2 ^ 13 ∧
          t.dev.rd R.EVT_EDIT_RESULT = i.val ∧
          s.Frame ([Part.tbl (16 * i.val), Part.tblChk (16 * i.val)] ++ armParts i ++ editParts) t) ∧
  (∀ (s : State) (i : Fin 4096),
    s.dev.direct R.EVT_EDIT_CTRL.off →
    (∀ x ∈ s.dev.evt.due, x.idx ≠ i.val) →
    entArmed (s.dev.entHi i) = true →
    (bit (editRaw s.dev) 63 = true → entGated (s.dev.entHi i) = false) →
    Completes (exec (.editWrite i) s) fun t => t.dev.rd R.EVT_EDIT_RESULT = 1 <<< 24 + i.val ∧ s.Frame editParts t) ∧
  (∀ (s : State) (i : Fin 4096),
    s.dev.direct R.EVT_EDIT_CTRL.off →
    (∀ x ∈ s.dev.evt.due, x.idx ≠ i.val) →
    entArmed (s.dev.entHi i) = false →
    entGated (s.dev.entHi i) = false →
    s.dev.armCheck (s.dev.entLo i) (s.dev.entHi i) = 0 →
    Completes (exec (.editArm i) s) fun t =>
          t.dev.entHi i = s.dev.entHi i + 2 ^ 63 ∧
          t.dev.get F.EVT_ARMED_COUNT.count = (s.dev.get F.EVT_ARMED_COUNT.count + 1) % 2 ^ 13 ∧
          (i.val, s.dev.slot) ∈ t.dev.evt.newArm ∧ t.dev.rd R.EVT_EDIT_RESULT = i.val ∧
          s.Frame (armParts i ++ editParts) t) ∧
  (∀ (s : State) (i : Fin 4096),
    s.dev.direct R.EVT_EDIT_CTRL.off →
    (∀ x ∈ s.dev.evt.due, x.idx ≠ i.val) →
    entArmed (s.dev.entHi i) = false →
    entGated (s.dev.entHi i) = false →
    s.dev.armCheck (s.dev.entLo i) (s.dev.entHi i) ≠ 0 →
    Completes (exec (.editArm i) s) fun t =>
          t.dev.rd R.EVT_EDIT_RESULT =
            (4 <<< 24 + s.dev.armCheck (s.dev.entLo i) (s.dev.entHi i) <<< 16 + i.val) % 2 ^ 32 ∧
          s.Frame ([Part.recs] ++ strobeParts 22 ++ editParts) t) ∧
  (∀ (s : State) (i : Fin 4096),
    s.dev.direct R.EVT_EDIT_CTRL.off →
    (∀ x ∈ s.dev.evt.due, x.idx ≠ i.val) →
    entGated (s.dev.entHi i) = true →
    Completes (exec (.editArm i) s) (fun t => t.dev.rd R.EVT_EDIT_RESULT = 2 <<< 24 + i.val ∧ s.Frame editParts t) ∧
        Completes (exec (.editDisarm i) s) (fun t => t.dev.rd R.EVT_EDIT_RESULT = 2 <<< 24 + i.val ∧ s.Frame editParts t)) ∧
  (∀ (s : State) (i : Fin 4096),
    s.dev.direct R.EVT_EDIT_CTRL.off →
    (∀ x ∈ s.dev.evt.due, x.idx ≠ i.val) →
    entArmed (s.dev.entHi i) = true →
    entGated (s.dev.entHi i) = false →
    Completes (exec (.editDisarm i) s) fun t =>
          t.dev.entHi i = s.dev.entHi i - 2 ^ 63 ∧
          ((∀ p ∈ s.dev.evt.newArm, p.1 ≠ i.val) → (i.val, s.dev.slot, s.dev.entLo i, s.dev.entHi i) ∈ t.dev.evt.newDis) ∧
          t.dev.rd R.EVT_EDIT_RESULT = i.val ∧ s.Frame (armParts i ++ editParts) t) ∧
  (∀ (s : State) (f : Firing),
    s.dev.actionHit 0x0B f.target = false →
    f.arg < 4096 →
    entArmed (s.dev.entHi f.arg) = false →
    entGated (s.dev.entHi f.arg) = false →
    s.dev.armCheck (s.dev.entLo f.arg) (s.dev.entHi f.arg) = 0 →
    Completes (exec (.arm f) s) fun t =>
          t.dev.entHi f.arg = s.dev.entHi f.arg + 2 ^ 63 ∧
          t.dev.evt.recs = s.dev.evt.recs ++ [(s.dev.slot, firingRec 0x0B f false)] ∧
          s.Frame (firingParts f ++ armParts f.arg) t) ∧
  (∀ (s : State) (f : Firing),
    s.dev.actionHit 0x0C f.target = false →
    f.arg < 4096 →
    entArmed (s.dev.entHi f.arg) = true →
    entGated (s.dev.entHi f.arg) = false →
    Completes (exec (.disarm f) s) fun t =>
          t.dev.entHi f.arg = s.dev.entHi f.arg - 2 ^ 63 ∧
          t.dev.evt.recs = s.dev.evt.recs ++ [(s.dev.slot, firingRec 0x0C f false)] ∧
          s.Frame (firingParts f ++ armParts f.arg) t)

/-- R80, R84, R86, R88, R89, R107: A slot begins with the decision of its firings: every armed time entry that is due by its
end, none twice, in the order of R80, after those of earlier slots were deferred; a newly armed entry whose trigger has
passed fires late or is discarded. A firing disarms its entry and is dispatched, or is deferred beyond eight in a slot; a
deferred one is dispatched late. Points the spec leaves open follow the model's choice of log entry 26. -/
def Obligations.EvtSlots : Prop :=
  (∀ (s : State) (n : Nat),
    s.dev.warned = false →
    s.dev.evt.running = true →
    s.dev.now + n < 2 ^ 63 →
    Completes (exec (.schedulerSlot (s.dev.now + n)) s) fun t =>
          t.dev.evt.slotAt = t.dev.slot + 1 ∧
          t.dev.now = s.dev.timeAt (8 * max ((s.dev.now + n) / 8) (if s.dev.evt.slotAt = s.dev.slot + 1 then s.dev.slot + 1 else s.dev.slot)) ∧
          (s.dev.evt.slotAt ≠ s.dev.slot + 1 ∨ 8 ≤ n → t.dev.evt.dispatched = 0 ∧ (t.dev.evt.deferred.map Due.idx) = (s.dev.evt.deferred ++ s.dev.evt.due).map Due.idx ∧
            ∀ x ∈ t.dev.evt.deferred, x ∈ s.dev.evt.deferred ∨ ∃ y ∈ s.dev.evt.due, x = { y with spill := x.spill })) ∧
  (∀ (s : State) (x : Due) (rest : List Due),
    s.dev.warned = false →
    s.dev.evt.due = x :: rest →
    Completes (exec .timeTriggerFire s) fun t =>
          t.dev.evt.due = rest ∧
          (entIrq x.hi = true ∧ 20 ≤ entVector x.hi → bit (t.dev.rd R.EVT_IRQ_PEND) (entVector x.hi) = true) ∧
          if 8 ≤ s.dev.evt.dispatched + s.dev.evt.deferred.length then t.dev.evt.deferred = s.dev.evt.deferred ++ [{ x with spill := true }]
          else t.dev.evt.deferred = s.dev.evt.deferred ∧ dispatched s.dev t.dev x x.late) ∧
  (∀ (s : State) (x : Due) (rest : List Due),
    s.dev.warned = false →
    s.dev.evt.deferred = x :: rest →
    s.dev.evt.dispatched < 8 →
    Completes (exec .deferredDispatch s) fun t =>
          t.dev.evt.deferred = rest ∧ t.dev.evt.due = s.dev.evt.due ∧ dispatched s.dev t.dev x (x.late || x.spill)) ∧
  (∀ (s : State) (n : Nat),
    s.dev.idleStart = false →
    s.dev.evt.running = true →
    s.dev.evt.slotAt ≠ s.dev.slot + 1 →
    s.dev.now + n < 2 ^ 63 →
    s.dev.flt.strobes = [] →
    s.dev.evt.newArm = [] →
    s.dev.evt.recs = [] →
    Completes (exec (.schedulerSlot (s.dev.now + n)) s) fun t =>
          t.dev.slot = (s.dev.now + n) / 8 ∧ t.dev.evt.slotAt = t.dev.slot + 1 ∧ t.dev.evt.dispatched = 0 ∧
          t.dev.evt.deferred = s.dev.evt.deferred ++ s.dev.evt.due ∧
          (∀ i ∈ s.dev.armedEntries, entKind (s.dev.entHi i) = 1 → s.dev.entLo i ≤ 8 * t.dev.slot + 7 → dueOf s.dev i ∈ t.dev.evt.due) ∧
          (∀ x ∈ t.dev.evt.due, x.idx ∈ s.dev.armedEntries ∧ x = dueOf s.dev x.idx ∧ x.delivered ≤ 8 * t.dev.slot + 7) ∧
          t.dev.evt.due.Pairwise (fun a b => Due.before a b = true) ∧
          s.Frame ([Part.evt] ++ timeParts) t) ∧
  (∀ (s : State) (n i : Nat),
    s.dev.idleStart = false →
    s.dev.evt.running = true →
    s.dev.evt.slotAt ≠ s.dev.slot + 1 →
    s.dev.now + n < 2 ^ 63 →
    s.dev.flt.strobes = [] →
    s.dev.evt.newArm = [(i, s.dev.slot - 1)] →
    1 ≤ s.dev.slot →
    s.dev.armedEntries = [i] →
    s.dev.evt.recs = [] →
    s.dev.evt.pend = [] →
    Store.get 0 s.dev.evt.armFor i = 0 →
    entArmed (s.dev.entHi i) = true →
    entKind (s.dev.entHi i) = 1 →
    s.dev.entLo i < 8 * s.dev.slot →
    Completes (exec (.schedulerSlot (s.dev.now + n)) s) fun t =>
          if entLateDiscard (s.dev.entHi i) then
            t.dev.evt.due = [] ∧ entArmed (t.dev.entHi i) = false ∧
            t.dev.evt.recs = [(t.dev.slot, ⟨3, 8 * s.dev.slot, 0, i, 2, 0, entTag (s.dev.entHi i), i, s.dev.entLo i % 2 ^ 32, t.dev.now⟩)] ∧
            s.Frame ([Part.recs, Part.reg R.EVT_LATE_COUNT.off, Part.reg R.EVT_STATUS.off] ++ armParts i ++ strobeParts 22 ++ irqParts ++ timeParts) t
          else t.dev.evt.due = [{ idx := i, delivered := 8 * s.dev.slot, late := true, enc := false, hi := s.dev.entHi i }] ∧ s.Frame ([Part.evt] ++ timeParts) t) ∧
  (∀ (s : State) (x : Due) (rest : List Due),
    s.dev.idleStart = false →
    s.dev.evt.due = x :: rest →
    plainEntry s.dev x →
    entArmed (s.dev.entHi x.idx) = true →
    (∀ p ∈ s.dev.evt.newArm, p.1 ≠ x.idx) →
    s.dev.evt.dispatched + s.dev.evt.deferred.length < 8 →
    Completes (exec .timeTriggerFire s) fun t =>
          t.dev.entHi x.idx = s.dev.entHi x.idx - 2 ^ 63 ∧ t.dev.evt.due = rest ∧ t.dev.evt.dispatched = s.dev.evt.dispatched + 1 ∧
          t.dev.evt.recs = s.dev.evt.recs ++ [(s.dev.slot, firingRec 0 (firingOf x false) false)] ∧
          s.Frame ([Part.recs] ++ armParts x.idx) t) ∧
  (∀ (s : State) (x : Due) (rest : List Due),
    s.dev.idleStart = false →
    s.dev.evt.due = x :: rest →
    entIrq x.hi = true →
    20 ≤ entVector x.hi →
    (∀ p ∈ s.dev.evt.pend, p.1 ≠ x.idx) →
    (∀ p ∈ s.dev.evt.newArm, p.1 ≠ x.idx) →
    8 ≤ s.dev.evt.dispatched + s.dev.evt.deferred.length →
    Completes (exec .timeTriggerFire s) fun t =>
          entArmed (t.dev.entHi x.idx) = false ∧ t.dev.evt.due = rest ∧ t.dev.evt.deferred = s.dev.evt.deferred ++ [{ x with spill := true }] ∧
          bit (t.dev.rd R.EVT_IRQ_PEND) (entVector x.hi) = true ∧
          (bit (s.dev.rd R.EVT_IRQ_PEND) (entVector x.hi) = true → bit (t.dev.rd R.EVT_IRQ_OVERRUN) (entVector x.hi) = true) ∧
          s.Frame (armParts x.idx ++ [Part.reg R.EVT_IRQ_PEND.off, Part.reg R.EVT_IRQ_OVERRUN.off, Part.reg R.EVT_STATUS.off] ++ irqParts) t) ∧
  (∀ (s : State) (x : Due) (rest : List Due),
    s.dev.idleStart = false →
    s.dev.evt.deferred = x :: rest →
    plainEntry s.dev x →
    s.dev.evt.dispatched < 8 →
    Completes (exec .deferredDispatch s) fun t =>
          t.dev.evt.deferred = rest ∧ t.dev.evt.dispatched = s.dev.evt.dispatched + 1 ∧
          t.dev.evt.recs = s.dev.evt.recs ++ [(s.dev.slot, firingRec 0 (firingOf x x.spill) false)] ∧
          t.dev.get F.EVT_LATE_COUNT.count = min (s.dev.get F.EVT_LATE_COUNT.count + b2n x.spill) (2 ^ 32 - 1) ∧
          s.Frame ([Part.recs, Part.evt, Part.reg R.EVT_LATE_COUNT.off, Part.reg R.EVT_STATUS.off] ++ irqParts) t) ∧
  (∀ (s : State),
    s.dev.idleStart = false →
    s.dev.evt.deferred = [] →
    s.dev.evt.due = [] →
    Completes (exec .deferredDispatch s) (fun t => t = s) ∧ Completes (exec .timeTriggerFire s) (fun t => t = s)) ∧
  (∀ (s : State),
    Completes (exec .postResetRearm s) fun t => t.dev.evt.rearm = [] ∧
          (∀ p ∈ s.dev.evt.rearm, s.dev.shtState p.2 = 3 → entArmed (t.dev.entHi p.1) = true) ∧
          s.Frame ([Part.evt, Part.tblMark, Part.reg R.EVT_ARMED_COUNT.off] ++
            (s.dev.evt.rearm.filter fun p => s.dev.shtState p.2 = 3).flatMap (fun p => [Part.tbl (16 * p.1 + 8), Part.tblChk (16 * p.1 + 8)])) t)

/-- R80, R87, R95, R96, R97, R98, R99, R100, R489: A qualified edge of one phase waits for its apply time and a change of both
is an illegal transition; at its apply time an edge moves the raw count by one, a forward count above the high-water
position moves that too and fires the position entries it reaches, a backward count beyond the deadband is a reversal; the
last count in a direction stops it; an index latches count and time; a rebase zeroes the counts or is refused. Points the
spec leaves open follow the model's choices of log entries 30 and 237. -/
def Obligations.EvtEncoders : Prop :=
  (∀ (s : State) (n : Fin 4) (x : EncEdge) (rest : List EncEdge) (y : Due),
    s.dev.domOn 0 = true →
    s.dev.warned = false →
    (s.dev.encS n).edges = x :: rest →
    x.kind = 0 →
    x.late = true →
    s.dev.evt.slotAt = s.dev.slot + 1 →
    x.ts + 128 ≤ s.dev.now →
    s.dev.on (F.EVT_ENCn_CTRL.enable n) = true →
    bit (s.dev.encS n).stop 0 = false →
    s.dev.encRaw n + 1 < encMax →
    s.dev.encFires n (x.ts + 128) (s.dev.hwm n) (s.dev.encRaw n + 1) = [y] →
    s.dev.hwm n ≤ s.dev.encRaw n →
    plainEntry s.dev y →
    entLateDiscard y.hi = false →
    entArmed (s.dev.entHi y.idx) = true →
    (∀ p ∈ s.dev.evt.newArm, p.1 ≠ y.idx) →
    s.dev.evt.dispatched + s.dev.evt.deferred.length < 8 →
    Completes (exec (.encoderEdgeApply n) s) fun t =>
          t.dev.encRaw n = s.dev.encRaw n + 1 ∧ entArmed (t.dev.entHi y.idx) = false ∧
          dispatched s.dev t.dev { y with delivered := 8 * s.dev.slot, late := true } true) ∧
  (∀ (s : State) (n : Fin 4) (rising : Bool),
    s.dev.domOn 0 = true →
    s.dev.twin = false →
    s.dev.pinFunc 3 n = 0 →
    Completes (exec (.encoderIndex n rising) s) fun t =>
          (t.dev.encS n).z = rising ∧ ((s.dev.encS n).z = rising → t = s) ∧ ((s.dev.encS n).z ≠ rising → (t.dev.encS n).zAt = t.dev.now + 1) ∧
          (t.dev.encS n).a = (s.dev.encS n).a ∧ (t.dev.encS n).b = (s.dev.encS n).b ∧ t.mem = s.mem ∧ t.pending = s.pending) ∧
  (∀ (s : State) (n : Fin 4) (x : EncEdge) (rest : List EncEdge),
    s.dev.domOn 0 = true →
    s.dev.warned = false →
    (s.dev.encS n).edges = x :: rest →
    x.kind < 2 →
    s.dev.evt.running = true →
    x.ts + 128 < 2 ^ 63 →
    s.dev.on (F.EVT_ENCn_CTRL.enable n) = true →
    bit (s.dev.encS n).stop x.kind = false →
    s.dev.encRaw n < encMax →
    s.dev.encRaw n > -encMax →
    Completes (exec (.encoderEdgeApply n) s) fun t =>
          (t.dev.encS n).edges = rest ∧ t.dev.now = s.dev.timeAt (x.ts + 128) ∧ t.dev.evt.slotAt = t.dev.slot + 1 ∧
          t.dev.encRaw n = (if x.kind = 0 then s.dev.encRaw n + 1 else s.dev.encRaw n - 1) ∧
          t.dev.hwm n = (if x.kind = 0 then max (s.dev.hwm n) (s.dev.encRaw n + 1) else s.dev.hwm n)) ∧
  (∀ (s : State) (n : Fin 4) (a b : Bool),
    encOwn s.dev n →
    ((s.dev.encS n).a ≠ a ∧ (s.dev.encS n).b = b ∨ (s.dev.encS n).a = a ∧ (s.dev.encS n).b ≠ b) →
    (s.dev.encS n).last = b2n (s.dev.encS n).z * 4 + b2n (s.dev.encS n).b * 2 + b2n (s.dev.encS n).a →
    Completes (exec (.encoderEdgeQualify n a b) s) fun t =>
          (t.dev.encS n).a = a ∧ (t.dev.encS n).b = b ∧ (t.dev.encS n).qualAt = t.dev.now + 1 ∧ edgeSpaced s.dev t.dev n ∧
          (t.dev.encS n).edges = (s.dev.encS n).edges ++ [⟨t.dev.now,
            b2n (encForward (b2n (s.dev.encS n).b * 2 + b2n (s.dev.encS n).a) (b2n b * 2 + b2n a) == s.dev.on (F.EVT_ENCn_CTRL.invert n)),
            max 1 (s.dev.get (F.EVT_ENCn_CTRL.deadband n)), false⟩] ∧ s.Frame ([Part.evt] ++ timeParts) t) ∧
  (∀ (s : State) (n : Fin 4) (a b : Bool),
    encOwn s.dev n →
    (s.dev.encS n).a ≠ a →
    (s.dev.encS n).b ≠ b →
    (s.dev.encS n).last = b2n (s.dev.encS n).z * 4 + b2n (s.dev.encS n).b * 2 + b2n (s.dev.encS n).a →
    Completes (exec (.encoderEdgeQualify n a b) s) fun t =>
          (t.dev.encS n).edges = (s.dev.encS n).edges ∧ edgeSpaced s.dev t.dev n ∧
          if s.dev.on (F.EVT_ENCn_CTRL.enable n) then
            t.dev.get (F.EVT_ENCn_COUNTS.illegal n) = min (s.dev.get (F.EVT_ENCn_COUNTS.illegal n) + 1) (2 ^ 16 - 1) ∧
            t.dev.get (F.EVT_ENCn_STATUS.illegal n) = 1 ∧ bit (t.dev.rd R.EVT_STATUS) 4 = true ∧
            s.Frame ([Part.evt, Part.reg (R.EVT_ENCn_COUNTS n).off, Part.reg (R.EVT_ENCn_STATUS n).off, Part.reg R.EVT_STATUS.off] ++ irqParts ++ strobeParts 39 ++ timeParts) t
          else s.Frame ([Part.evt] ++ timeParts) t) ∧
  (∀ (s : State) (n : Fin 4) (x : EncEdge) (rest : List EncEdge),
    s.dev.domOn 0 = true →
    s.dev.warned = false →
    (s.dev.encS n).edges = x :: rest →
    x.kind = 0 →
    s.dev.evt.slotAt = s.dev.slot + 1 →
    x.ts + 128 ≤ s.dev.now →
    s.dev.on (F.EVT_ENCn_CTRL.enable n) = true →
    bit (s.dev.encS n).stop 0 = false →
    s.dev.encRaw n + 1 < encMax →
    s.dev.encRaw n > -encMax - 1 →
    s.dev.encFires n (x.ts + 128) (s.dev.hwm n) (s.dev.encRaw n + 1) = [] →
    Completes (exec (.encoderEdgeApply n) s) fun t =>
          (t.dev.encS n).edges = rest ∧ t.dev.encRaw n = s.dev.encRaw n + 1 ∧ t.dev.hwm n = max (s.dev.hwm n) (s.dev.encRaw n + 1) ∧
          (t.dev.get (F.EVT_ENCn_STATUS.reversing n) =
            if s.dev.hwm n ≤ s.dev.encRaw n + 1 then 0 else s.dev.get (F.EVT_ENCn_STATUS.reversing n)) ∧ s.Frame (encParts n) t) ∧
  (∀ (s : State) (n : Fin 4) (x : EncEdge) (rest : List EncEdge) (y : Due),
    s.dev.domOn 0 = true →
    s.dev.warned = false →
    (s.dev.encS n).edges = x :: rest →
    x.kind = 0 →
    x.late = false →
    s.dev.evt.slotAt = s.dev.slot + 1 →
    x.ts + 128 ≤ s.dev.now →
    s.dev.on (F.EVT_ENCn_CTRL.enable n) = true →
    bit (s.dev.encS n).stop 0 = false →
    s.dev.encRaw n + 1 < encMax →
    s.dev.encFires n (x.ts + 128) (s.dev.hwm n) (s.dev.encRaw n + 1) = [y] →
    s.dev.hwm n ≤ s.dev.encRaw n →
    plainEntry s.dev y →
    entArmed (s.dev.entHi y.idx) = true →
    (∀ p ∈ s.dev.evt.newArm, p.1 ≠ y.idx) →
    s.dev.evt.dispatched + s.dev.evt.deferred.length < 8 →
    Completes (exec (.encoderEdgeApply n) s) fun t =>
          t.dev.encRaw n = s.dev.encRaw n + 1 ∧ t.dev.hwm n = s.dev.encRaw n + 1 ∧ entArmed (t.dev.entHi y.idx) = false ∧
          y.delivered = x.ts + 128 ∧
          t.dev.evt.recs = s.dev.evt.recs ++ [(s.dev.slot, firingRec 0 (firingOf y false) false)] ∧
          s.Frame (encParts n ++ armParts y.idx ++ [Part.recs]) t) ∧
  (∀ (s : State) (n : Fin 4) (x : EncEdge) (rest : List EncEdge),
    s.dev.domOn 0 = true →
    s.dev.warned = false →
    (s.dev.encS n).edges = x :: rest →
    x.kind = 1 →
    s.dev.evt.slotAt = s.dev.slot + 1 →
    x.ts + 128 ≤ s.dev.now →
    s.dev.on (F.EVT_ENCn_CTRL.enable n) = true →
    bit (s.dev.encS n).stop 1 = false →
    s.dev.encRaw n - 1 > -encMax →
    Completes (exec (.encoderEdgeApply n) s) fun t =>
          (t.dev.encS n).edges = rest ∧ t.dev.encRaw n = s.dev.encRaw n - 1 ∧ t.dev.hwm n = s.dev.hwm n ∧
          if s.dev.hwm n - (s.dev.encRaw n - 1) ≤ x.deadband then
            t.dev.get (F.EVT_ENCn_JITTER.count n) = min (s.dev.get (F.EVT_ENCn_JITTER.count n) + 1) (2 ^ 32 - 1) ∧
            s.Frame ([Part.evt, Part.reg (R.EVT_ENCn_RAW n).off, Part.reg (R.EVT_ENCn_JITTER n).off]) t
          else t.dev.get (F.EVT_ENCn_STATUS.reversing n) = 1 ∧
            (s.dev.get (F.EVT_ENCn_STATUS.reversing n) = 0 →
              t.dev.get (F.EVT_ENCn_COUNTS.reversals n) = min (s.dev.get (F.EVT_ENCn_COUNTS.reversals n) + 1) (2 ^ 16 - 1) ∧
              bit (t.dev.rd R.EVT_STATUS) 3 = true) ∧
            s.Frame ([Part.evt, Part.recs, Part.reg (R.EVT_ENCn_RAW n).off, Part.reg (R.EVT_ENCn_STATUS n).off, Part.reg (R.EVT_ENCn_COUNTS n).off,
              Part.reg R.EVT_STATUS.off] ++ irqParts ++ strobeParts 39) t) ∧
  (∀ (s : State) (n : Fin 4) (x : EncEdge) (rest : List EncEdge),
    s.dev.domOn 0 = true →
    s.dev.warned = false →
    (s.dev.encS n).edges = x :: rest →
    x.kind < 2 →
    s.dev.evt.slotAt = s.dev.slot + 1 →
    x.ts + 128 ≤ s.dev.now →
    s.dev.on (F.EVT_ENCn_CTRL.enable n) = false ∨ bit (s.dev.encS n).stop x.kind = true →
    Completes (exec (.encoderEdgeApply n) s) fun t => (t.dev.encS n).edges = rest ∧ s.Frame [Part.evt] t) ∧
  (∀ (s : State) (n : Fin 4) (rising : Bool),
    s.dev.domOn 0 = true →
    s.dev.twin = false →
    s.dev.pinFunc 3 n = 0 →
    (s.dev.encS n).z ≠ rising →
    bit (s.dev.encS n).last 2 ≠ rising →
    (s.dev.encS n).last % 4 = b2n (s.dev.encS n).b * 2 + b2n (s.dev.encS n).a →
    Completes (exec (.encoderIndex n rising) s) fun t =>
          (t.dev.encS n).z = rising ∧ (t.dev.encS n).zAt = t.dev.now + 1 ∧
          (t.dev.now = if s.dev.evt.running = true ∧ (s.dev.encS n).zAt ≠ 0 then
            s.dev.timeAt ((s.dev.encS n).zAt - 1 + s.dev.get (F.EVT_ENCn_CTRL.filter_ticks n) + 2) % 2 ^ 64 else s.dev.now) ∧
          (t.dev.encS n).edges = (s.dev.encS n).edges ++ (if s.dev.on (F.EVT_ENCn_CTRL.z_edge n) ≠ rising then
            [⟨t.dev.now, 2, max 1 (s.dev.get (F.EVT_ENCn_CTRL.deadband n)), false⟩] else []) ∧
          s.Frame ([Part.evt] ++ timeParts) t) ∧
  (∀ (s : State) (n : Fin 4) (x : EncEdge) (rest : List EncEdge),
    s.dev.domOn 0 = true →
    s.dev.warned = false →
    (s.dev.encS n).edges = x :: rest →
    x.kind = 2 →
    s.dev.evt.slotAt = s.dev.slot + 1 →
    x.ts + 128 ≤ s.dev.now →
    Completes (exec (.encoderEdgeApply n) s) fun t =>
          (t.dev.encS n).edges = rest ∧
          t.dev.rd (R.EVT_ENCn_INDEX_POS n) = s.dev.rd (R.EVT_ENCn_RAW n) % 2 ^ (R.EVT_ENCn_INDEX_POS n).w ∧
          t.dev.rd (R.EVT_ENCn_INDEX_TIME n) = x.ts + 128 ∧ t.dev.get (F.EVT_ENCn_STATUS.index_seen n) = 1 ∧
          t.dev.evt.recs = s.dev.evt.recs ++ [(s.dev.slot, ⟨2, n, 1, 0, 5, n, 0, s.dev.rd (R.EVT_ENCn_RAW n) % 2 ^ 32, 0, x.ts + 128⟩)] ∧
          s.Frame [Part.evt, Part.recs, Part.reg (R.EVT_ENCn_INDEX_POS n).off, Part.reg (R.EVT_ENCn_INDEX_TIME n).off, Part.reg (R.EVT_ENCn_STATUS n).off] t) ∧
  (∀ (s : State) (n : Fin 4),
    s.dev.direct (R.EVT_ENCn_CTRL n).off →
    Completes (exec (.encoderRebase n) s) fun t =>
          if s.dev.armedEntries.any (fun i => entKind (s.dev.entHi i) = 2 && entEnc (s.dev.entHi i) = n) then
            t.dev.get (F.EVT_ENCn_STATUS.rebase_refused n) = 1 ∧ s.Frame [Part.reg (R.EVT_ENCn_STATUS n).off] t
          else t.dev.rd (R.EVT_ENCn_RAW n) = 0 ∧ t.dev.rd (R.EVT_ENCn_HWM n) = 0 ∧ t.dev.get (F.EVT_ENCn_STATUS.reversing n) = 0 ∧
            t.dev.get (F.EVT_ENCn_STATUS.saturated n) = 0 ∧ (t.dev.encS n).stop = 0 ∧ s.Frame (encParts n) t)

/-- R102, R104, R106, R107, R116, R121: OPEN takes a FREE descriptor whose checks pass to LOADING, with its state, fills and
times cleared and milestone 0x01; one whose check fails keeps its state and the result names the cause. ADMIT takes a
LOADING descriptor that passes to ADMITTED and arms every listed entry with the trigger and the tag of the descriptor; one
that fails keeps its state and makes milestone 0x03. Either is refused with result 2 in any other state. -/
def Obligations.SheetOpenAdmit : Prop :=
  (∀ (s : State) (k : Fin 32),
    s.dev.direct R.SHT_CMD.off →
    s.dev.shtState k = 1 →
    s.dev.admitCheck k = none →
    Completes (exec (.sheetAdmit k) s) fun t =>
          t.dev.shtState k = 2 ∧ t.dev.rd R.SHT_RESULT = resultOf 0 0 0xFF k ∧ bit (t.dev.rd R.SHT_STATUS) 0 = true ∧ bit (t.dev.rd R.SHT_STATUS) 1 = true ∧
          t.dev.get F.SHT_ADMITTED.count = min (s.dev.get F.SHT_ADMITTED.count + 1) (2 ^ 32 - 1) ∧
          t.dev.get F.SYS_HOST_STATE.in_flight = ((List.range 32).filter fun j => j = k.val ∨ s.dev.shtState j = 2 ∨ s.dev.shtState j = 3).length ∧
          (s.dev.slot, ⟨4, 0, 0, 0, 7, 0x02, s.dev.tagOf k, msDetail 0 0xFF k, 0, s.dev.now⟩) ∈ t.dev.evt.recs ∧ t.mem = s.mem ∧ t.pending = s.pending) ∧
  (∀ (s : State) (k : Fin 32),
    s.dev.direct R.SHT_CMD.off →
    s.dev.shtState k = 0 →
    s.dev.openCheck k = none →
    Completes (exec (.sheetOpen k) s) fun t =>
          t.dev.rd (R.SHT_Dd_STATE k) = 1 ∧ t.dev.rd R.SHT_RESULT = resultOf 0 0 0xFF k ∧
          (∀ (n : Nat), n < 8 → t.dev.rd (R.SHT_Dd_FILLn k n) = 0) ∧ bit (t.dev.rd R.SHT_ACTIVE) k = true ∧
          t.dev.evt.recs = s.dev.evt.recs ++ [(s.dev.slot, ⟨4, 0, 0, 0, 7, 0x01, s.dev.tagOf k, msDetail 0 0xFF k, 0, s.dev.now⟩)] ∧
          s.Frame ([Part.recs, Part.sht, Part.reg R.SHT_ACTIVE.off, Part.reg (R.SHT_Dd_STATE k).off, Part.reg (R.SHT_Dd_CHAN k).off,
            Part.reg (R.SHT_Dd_PICK_TIME k).off, Part.reg (R.SHT_Dd_DONE_TIME k).off] ++
            (List.range 8).map (fun n => Part.reg (R.SHT_Dd_FILLn k n).off) ++ (List.range 8).map (fun n => Part.reg (R.SHT_Dd_PROGn k n).off) ++
            shtCmdParts) t) ∧
  (∀ (s : State) (k : Fin 32) (c : Nat × Nat),
    s.dev.direct R.SHT_CMD.off →
    s.dev.shtState k = 0 →
    s.dev.openCheck k = some c →
    c.1 < 256 →
    c.2 < 256 →
    Completes (exec (.sheetOpen k) s) fun t =>
          t.dev.rd R.SHT_RESULT = resultOf 1 c.1 c.2 k ∧ (s.dev.tagOf k = 0 → c = (0x10, 0xFF)) ∧ s.Frame shtCmdParts t) ∧
  (∀ (s : State) (k : Fin 32),
    s.dev.direct R.SHT_CMD.off →
    s.dev.shtState k = 1 →
    s.dev.admitCheck k = none →
    listFree s.dev k →
    Completes (exec (.sheetAdmit k) s) fun t =>
          t.dev.shtState k = 2 ∧ t.dev.rd R.SHT_RESULT = resultOf 0 0 0xFF k ∧
          (∀ p ∈ s.dev.armList k, t.dev.entLo p.2 = s.dev.rd (R.SHT_Dd_TRIGk k p.1) ∧ entTag (t.dev.entHi p.2) = s.dev.tagOf k ∧
            entArmed (t.dev.entHi p.2) = true ∧ Store.get 0 t.dev.evt.armFor p.2 = k + 1) ∧
          t.dev.get F.SHT_ADMITTED.count = min (s.dev.get F.SHT_ADMITTED.count + 1) (2 ^ 32 - 1) ∧
          t.dev.get F.SYS_HOST_STATE.in_flight = ((List.range 32).filter fun j => j = k.val ∨ s.dev.shtState j = 2 ∨ s.dev.shtState j = 3).length ∧
          t.dev.evt.recs = s.dev.evt.recs ++ [(s.dev.slot, ⟨4, 0, 0, 0, 7, 0x02, s.dev.tagOf k, msDetail 0 0xFF k, 0, s.dev.now⟩)] ∧
          s.Frame ([Part.recs, Part.reg (R.SHT_Dd_STATE k).off, Part.reg R.SHT_ACTIVE.off, Part.reg R.SHT_ADMITTED.off, Part.reg R.SYS_HOST_STATE.off] ++
            listParts s.dev k ++ shtCmdParts) t) ∧
  (∀ (s : State) (k : Fin 32) (c : Nat × Nat × Nat),
    s.dev.direct R.SHT_CMD.off →
    s.dev.shtState k = 1 →
    s.dev.admitCheck k = some c →
    c.1 ≠ 6 →
    c.2.1 < 256 →
    Completes (exec (.sheetAdmit k) s) fun t =>
          t.dev.rd R.SHT_RESULT = resultOf 1 c.1 (if c.1 = 4 ∨ c.1 = 8 then c.2.1 else 0xFF) k ∧
          t.dev.evt.recs = s.dev.evt.recs ++ [(s.dev.slot, ⟨4, 0, 0, 0, 7, 0x03, s.dev.tagOf k, msDetail c.1 c.2.1 k, c.2.2, s.dev.now⟩)] ∧
          s.Frame ([Part.recs] ++ shtCmdParts) t) ∧
  (∀ (s : State) (k : Fin 32),
    s.dev.direct R.SHT_CMD.off →
    1 < s.dev.shtState k →
    Completes (exec (.sheetOpen k) s) (fun t => t.dev.rd R.SHT_RESULT = resultOf 2 0 0xFF k ∧ s.Frame shtCmdParts t) ∧
        Completes (exec (.sheetAdmit k) s) (fun t => t.dev.rd R.SHT_RESULT = resultOf 2 0 0xFF k ∧ s.Frame shtCmdParts t))

/-- R105, R109, R113, R114, R115, R116, R117, R121, R490: CANCEL ends a LOADING or ADMITTED sheet with cause 0x20 and disarms
its entries, and is refused for a PICKED one; SPOIL marks a PICKED sheet with cause 0x4B unless it has a cause; RELEASE
frees a DONE or CANCELLED descriptor; the run-out timer spoils a PICKED sheet with cause 0x4A and completes it. -/
def Obligations.SheetEnds : Prop :=
  (∀ (s : State) (k : Fin 32),
    s.dev.warned = false →
    s.dev.direct R.SHT_CMD.off →
    s.dev.shtState k = 1 ∨ s.dev.shtState k = 2 →
    s.dev.evt.running = false ∨ s.dev.evt.slotAt = s.dev.slot + 1 ∨ s.dev.flt.strobes = [] →
    s.dev.persC = false →
    Completes (exec (.sheetCancel k) s) fun t =>
          ((t.dev.shtState k = 5 ∧ t.dev.rd R.SHT_RESULT = resultOf 0 0 0xFF k) ∨
            (s.dev.shtState k = 2 ∧ t.dev.shtState k = 3 ∧ t.dev.rd R.SHT_RESULT = resultOf 3 0 0xFF k) ∨
            (s.dev.shtState k = 2 ∧ t.dev.shtState k = 5 ∧ t.dev.rd R.SHT_RESULT = resultOf 2 0 0xFF k)) ∧
          bit (t.dev.rd R.SHT_STATUS) 0 = true ∧ t.mem = s.mem ∧ t.pending = s.pending) ∧
  (∀ (s : State) (k : Fin 32),
    s.dev.warned = false →
    s.dev.shtState k = 3 →
    Completes (exec (.runoutExpire k) s) fun t =>
          t.dev.shtState k = (if s.dev.persC = true then 0 else 4) ∧ t.dev.get (F.SHT_Dd_STATE.spoiled k) = 1 ∧ t.dev.rd (R.SHT_Dd_DONE_TIME k) = t.dev.now ∧
          bit (t.dev.rd R.SHT_STATUS) 6 = true ∧ bit (t.dev.rd R.SHT_STATUS) 5 = true ∧ t.mem = s.mem ∧ t.pending = s.pending) ∧
  (∀ (s : State) (k : Fin 32),
    s.dev.warned = false →
    s.dev.direct R.SHT_CMD.off →
    s.dev.shtState k = 1 ∨ s.dev.shtState k = 2 →
    s.dev.evt.slotAt = s.dev.slot + 1 →
    s.dev.evt.due = [] →
    (∀ (n : Nat), n < 4 → (s.dev.encS n).edges = []) →
    (∀ p ∈ s.dev.evt.pend, p.2 = k.val) →
    s.dev.get F.SYS_HOST_STATE.state = 0 →
    s.dev.persC = false →
    Completes (exec (.sheetCancel k) s) fun t =>
          t.dev.shtState k = 5 ∧ t.dev.rd R.SHT_RESULT = resultOf 0 0 0xFF k ∧ t.dev.rd (R.SHT_Dd_DONE_TIME k) = s.dev.now ∧
          (s.dev.get (F.SHT_Dd_STATE.cause k) = 0 → t.dev.get (F.SHT_Dd_STATE.cause k) = 0x20) ∧
          (∀ p ∈ s.dev.armList k, Store.get 0 s.dev.evt.armFor p.2 = k + 1 → entArmed (t.dev.entHi p.2) = false) ∧
          t.dev.evt.pend = [] ∧
          t.dev.get F.SHT_CANCELLED.count = min (s.dev.get F.SHT_CANCELLED.count + 1) (2 ^ 32 - 1) ∧
          s.Frame ([Part.recs, Part.reg (R.SHT_Dd_STATE k).off, Part.reg (R.SHT_Dd_DONE_TIME k).off, Part.reg R.SHT_ACTIVE.off, Part.reg R.SHT_CANCELLED.off,
            Part.reg R.SYS_HOST_STATE.off] ++ listParts s.dev k ++ shtCmdParts) t) ∧
  (∀ (s : State) (k : Fin 32),
    s.dev.idleStart = false →
    s.dev.direct R.SHT_CMD.off →
    s.dev.shtState k = 3 →
    Completes (exec (.sheetCancel k) s) fun t =>
          t.dev.rd R.SHT_RESULT = (if s.dev.evt.pickNow.contains (k.val, s.dev.slot) then resultOf 3 0 0xFF k else resultOf 1 0x24 0xFF k) ∧
          s.Frame shtCmdParts t) ∧
  (∀ (s : State) (k : Fin 32),
    s.dev.direct R.SHT_CMD.off →
    s.dev.shtState k = 3 →
    Completes (exec (.sheetSpoil k) s) fun t =>
          t.dev.get (F.SHT_Dd_STATE.spoiled k) = 1 ∧ t.dev.shtState k = 3 ∧
          t.dev.get (F.SHT_Dd_STATE.cause k) = (if s.dev.get (F.SHT_Dd_STATE.cause k) = 0 then 0x4B else s.dev.get (F.SHT_Dd_STATE.cause k)) ∧
          t.dev.rd R.SHT_RESULT = resultOf 0 0 0xFF k ∧
          t.dev.evt.recs = s.dev.evt.recs ++ [(s.dev.slot, ⟨4, 0, 0, 0, 7, 0x08, s.dev.tagOf k, msDetail 0x4B 0xFF k, 0, s.dev.now⟩)] ∧
          s.Frame ([Part.recs, Part.reg (R.SHT_Dd_STATE k).off, Part.reg R.SHT_SPOILED.off] ++ strobeParts 21 ++ shtCmdParts) t) ∧
  (∀ (s : State) (k : Fin 32),
    s.dev.direct R.SHT_CMD.off →
    s.dev.shtState k = 4 ∨ s.dev.shtState k = 5 →
    Completes (exec (.sheetRelease k) s) fun t =>
          t.dev.shtState k = 0 ∧ bit (t.dev.rd R.SHT_ACTIVE) k = false ∧ t.dev.rd R.SHT_RESULT = resultOf 0 0 0xFF k ∧
          t.dev.evt.recs = s.dev.evt.recs ++ [(s.dev.slot, ⟨4, 0, 0, 0, 7, 0x0A, s.dev.tagOf k, msDetail 0 0xFF k, 0, s.dev.now⟩)] ∧
          s.Frame ([Part.recs, Part.reg (R.SHT_Dd_STATE k).off, Part.reg R.SHT_ACTIVE.off] ++ shtCmdParts) t) ∧
  (∀ (s : State) (k : Fin 32),
    s.dev.direct R.SHT_CMD.off →
    s.dev.shtState k = 2 →
    Completes (exec (.sheetRelease k) s) (fun t => t.dev.rd R.SHT_RESULT = resultOf 2 0 0xFF k ∧ s.Frame shtCmdParts t) ∧
        Completes (exec (.sheetSpoil k) s) (fun t => t.dev.rd R.SHT_RESULT = resultOf 2 0 0xFF k ∧ s.Frame shtCmdParts t)) ∧
  (∀ (s : State) (k : Fin 32),
    s.dev.warned = false →
    s.dev.shtState k = 3 →
    s.dev.evt.running = true →
    s.dev.rd (R.SHT_Dd_PICK_TIME k) + s.dev.get (F.SHT_Dd_RUNOUT.runout_ms k) * 125000 < 2 ^ 64 →
    s.dev.evt.pend = [] →
    s.dev.get F.SYS_HOST_STATE.state = 0 →
    s.dev.persC = false →
    Completes (exec (.runoutExpire k) s) fun t =>
          t.dev.shtState k = 4 ∧ t.dev.get (F.SHT_Dd_STATE.spoiled k) = 1 ∧ t.dev.rd (R.SHT_Dd_DONE_TIME k) = t.dev.now ∧
          t.dev.now = s.dev.timeAt (s.dev.rd (R.SHT_Dd_PICK_TIME k) + s.dev.get (F.SHT_Dd_RUNOUT.runout_ms k) * 125000) ∧
          (s.dev.get (F.SHT_Dd_STATE.cause k) = 0 → t.dev.get (F.SHT_Dd_STATE.cause k) = 0x4A) ∧
          bit (t.dev.rd R.SHT_STATUS) 6 = true ∧ bit (t.dev.rd R.SHT_STATUS) 5 = true ∧
          s.Frame ([Part.recs, Part.reg (R.SHT_Dd_STATE k).off, Part.reg (R.SHT_Dd_DONE_TIME k).off, Part.reg R.SHT_ACTIVE.off, Part.reg R.SHT_SPOILED.off,
            Part.reg R.SHT_STATUS.off, Part.reg R.SYS_HOST_STATE.off] ++ listParts s.dev k ++ (s.dev.sheetChans k).flatMap gateParts ++
            strobeParts 21 ++ irqParts ++ timeParts) t)

/-- R123, R124, R125, R126, R127, R128, R129, R130, R131, R133, R134, R135: The receive direction goes DETECT, LOCK, DESKEW,
ALIGNED as its signal, its locks and its deskew come; a lock or deskew failure fails it during phase 7 and re-detects with a
record outside; loss of lock while ALIGNED goes on at a committed rate or is counted and re-detects. The transmit direction
goes DETECT, BASE, TS3, FORWARD; entering FORWARD drives BYP_n and queues JOIN, CREDIT and the ACKs. Eight equal training
sequences set the hop or the committed rate. An elastic error of a forwarded lane is counted, shown and recorded. -/
def Obligations.RingTraining : Prop :=
  (∀ (s : State) (p : BitVec 8),
    Store.get 0 s.dev.clk.lostAt 3 ≠ 0 →
    Completes (exec (.txReceiverDetect p) s) fun t => t = s) ∧
  (∀ (s : State),
    if s.dev.rxSt = 1 ∧ Store.get 0 s.dev.clk.lostAt 3 = 0 then
      Completes (exec .rxSignalDetect s) fun t => t.dev.rxSt = 2 ∧ t.dev.rng.lockAt = s.dev.sys.now8 ∧ s.Frame laneParts t
    else Completes (exec .rxSignalDetect s) fun t => t = s) ∧
  (∀ (s : State) (r : LaneReport),
    s.dev.rxSt = 2 →
    s.dev.rng.adapting = false →
    s.dev.manual = false →
    s.dev.ringGen = 1 →
    s.dev.lanesLocked r = true →
    (∀ x ∈ r.lanes, 16 ≤ x.eye ∧ x.eye ≤ 128 ∧ x.tap < 128) →
    Completes (exec (.rxLanesLocked r) s) fun t =>
          let forced := s.dev.on F.RNG_LANE_MAP.force
          t.dev.rxSt = 3 ∧ t.dev.on F.RNG_LANE_STATUS.reversed = (forced && s.dev.on F.RNG_LANE_MAP.reversed) ∧
          t.dev.get F.RNG_LANE_STATUS.polarity = (if forced then s.dev.get F.RNG_LANE_MAP.polarity % 16 else 0) ∧
          (∀ l ∈ List.range 4, t.dev.get (F.RNG_RXl_STATUS.locked l) = 1 ∧ t.dev.get (F.RNG_RXl_STATUS.eye l) = (r.lanes.getD l ⟨0, [], 0, 0⟩).eye ∧
            t.dev.get (F.RNG_RXl_STATUS.tap l) = (r.lanes.getD l ⟨0, [], 0, 0⟩).tap) ∧ s.Frame laneParts t) ∧
  (∀ (s : State) (r : LaneReport),
    s.dev.rxSt = 2 →
    s.dev.rng.adapting = false →
    s.dev.manual = false →
    s.dev.ringGen = 2 ∨ s.dev.ringGen = 3 →
    s.dev.ringW ≤ 8 →
    s.dev.lanesLocked r = true →
    reportTsOk r = true →
    s.dev.lockFailure r = 0 →
    (∀ x ∈ r.lanes, x.eye ≤ 128 ∧ x.tap < 128) →
    Completes (exec (.rxLanesLocked r) s) fun t =>
          let w := s.dev.ringW
          let rev := w ≠ 1 ∧ (LaneSeen.bytes (r.lanes.getD 0 ⟨0, [], 0, 0⟩)).getD 1 0 = w - 1
          t.dev.rxSt = 3 ∧ t.dev.get F.RNG_LANE_STATUS.reversed = (if rev then 1 else 0) ∧
          (∀ l ∈ List.range w,
            let x := r.lanes.getD l ⟨0, [], 0, 0⟩
            t.dev.get (F.RNG_RXl_STATUS.locked l) = 1 ∧ t.dev.get (F.RNG_RXl_STATUS.logical l) = (if rev then w - 1 - l else l) ∧
            t.dev.get (F.RNG_RXl_STATUS.inverted l) = (if (nats x.ts).getD 2 0 = 0xA5 then 1 else 0) ∧
            t.dev.getBit F.RNG_LANE_STATUS.polarity l = decide ((nats x.ts).getD 2 0 = 0xA5) ∧
            t.dev.get (F.RNG_RXl_STATUS.eye l) = (if s.dev.ringGen = 3 then 0 else x.eye) ∧ t.dev.get (F.RNG_RXl_STATUS.tap l) = (if s.dev.ringGen = 3 then 0 else x.tap)) ∧
          s.Frame laneParts t) ∧
  (∀ (s : State) (x : LaneSeen),
    s.dev.rxSt = 2 →
    s.dev.rng.adapting = false →
    s.dev.ringGen = 1 →
    1 ≤ x.good →
    x.eye < 16 →
    Completes (exec (.rxLanesLocked ⟨[x, x, x, x]⟩) s) fun t =>
          if s.dev.phase7 = true then t.dev.rxSt = 6 ∧ t.dev.rng.rxDet = 5 ∧ bit (t.dev.rd R.RNG_LANE_IRQ_STATUS) 3 = true ∧ s.Frame laneParts t
          else t.dev.rxSt = 1 ∧ t.dev.rng.rxDet = 5 ∧ strobedSome s.dev t.dev 16 ∧ s.Frame (laneParts ++ strobeParts 16) t) ∧
  (∀ (s : State) (r : LaneReport),
    s.dev.rxSt = 2 →
    s.dev.rng.adapting = false →
    s.dev.lanesLocked r = true →
    s.dev.lockFailure r ≠ 0 →
    Completes (exec (.rxLanesLocked r) s) fun t =>
          t.dev.rxSt = (if s.dev.phase7 = true then 6 else 1) ∧ t.dev.rng.rxDet = s.dev.lockFailure r ∧ s.Frame (laneParts ++ strobeParts 16) t) ∧
  (∀ (s : State) (r : LaneReport),
    s.dev.rxSt ≠ 2 ∨ s.dev.rng.adapting = true ∨ s.dev.lanesLocked r = false →
    Completes (exec (.rxLanesLocked r) s) fun t => t = s) ∧
  (∀ (s : State) (r : DeskewReport),
    s.dev.rxSt = 3 →
    s.dev.ringGen ≠ 1 →
    s.dev.ringW ≤ 8 →
    4096 ≤ r.agreed →
    r.skews.any (192 < ·) = false →
    Completes (exec (.rxDeskewDone r) s) fun t =>
          t.dev.rxSt = 4 ∧ bit (t.dev.rd R.RNG_LANE_IRQ_STATUS) 0 = true ∧ (∀ l ∈ List.range s.dev.ringW, t.dev.get (F.RNG_RXl_STATUS.skew l) = r.skews.getD l 0) ∧
          (if s.dev.txSt = 2 ∧ s.dev.on F.RNG_LANE_STATUS.committed = true then t.dev.txSt = 3 ∧ t.dev.rng.ts3At = s.dev.sys.now8 ∧
              (t.dev.out.head?.any fun | .train n _ => n = 1024 | _ => false) = true
          else t.dev.txSt = s.dev.txSt) ∧
          s.Frame laneParts t) ∧
  (∀ (s : State) (r : DeskewReport),
    s.dev.rxSt = 3 →
    s.dev.ringGen = 1 →
    64 ≤ r.agreed →
    r.skews.any (192 < ·) = false →
    Completes (exec (.rxDeskewDone r) s) fun t =>
          t.dev.rxSt = 4 ∧ bit (t.dev.rd R.RNG_LANE_IRQ_STATUS) 0 = true ∧ (∀ l ∈ List.range 4, t.dev.get (F.RNG_RXl_STATUS.skew l) = r.skews.getD l 0) ∧
          t.dev.txSt = (if (s.dev.txSt = 1 ∨ s.dev.txSt = 2) ∧ s.dev.rng.txSeen = true then 4 else s.dev.txSt) ∧ s.Frame forwardParts t) ∧
  (∀ (s : State) (r : DeskewReport),
    s.dev.rxSt = 3 →
    r.agreed < (if s.dev.ringGen = 1 then 64 else 4096) ∨ r.skews.any (192 < ·) = true →
    Completes (exec (.rxDeskewDone r) s) fun t =>
          t.dev.rng.rxDet = (if r.skews.any (192 < ·) = true then 8 else 9) ∧
          (if s.dev.phase7 = true then t.dev.rxSt = 6 ∧ s.Frame laneParts t
          else t.dev.rxSt = 1 ∧ strobedSome s.dev t.dev 16 ∧ s.Frame (laneParts ++ strobeParts 16) t)) ∧
  (∀ (s : State) (n : Nat),
    s.dev.rxSt = 4 →
    (∀ c ∈ [LockLoss.signal, .misaligned, if s.dev.ringGen = 3 then .headers (16 + n) else .codes (8 + n)],
      Completes (exec (.rxLockLost c) s) fun t =>
          (if s.dev.rng.commit ≠ 0 ∧ s.dev.on F.RNG_LANE_STATUS.committed = false then
            t.dev.rxSt = 2 ∧ t.dev.get F.RNG_LANE_STATUS.rate = s.dev.rng.commit % 16 ∧ t.dev.on F.RNG_LANE_STATUS.committed = true
          else t.dev.rxSt = 1 ∧ t.dev.get F.RNG_LANE_COUNTS.rx_losses = min (s.dev.get F.RNG_LANE_COUNTS.rx_losses + 1) (2 ^ 16 - 1) ∧
            ∃ x ∈ t.dev.flt.strobes, x.src = 16 ∧ x.t / 8 = s.dev.now / 8) ∧
          bit (t.dev.rd R.RNG_LANE_IRQ_STATUS) 2 = true ∧ (s.dev.txSt = 3 ∨ s.dev.txSt = 4 → t.dev.txSt = 2 ∧ t.dev.on F.RNG_LANE_STATUS.byp_driven = false) ∧
          s.Frame ([Part.reg R.RNG_LANE_COUNTS.off] ++ strobeParts 16 ++ rxLeftParts) t)) ∧
  (∀ (s : State),
    s.dev.rxSt = 2 →
    Completes (exec (.rxLockLost .signal) s) fun t => t.dev.rxSt = 1 ∧ s.Frame laneParts t) ∧
  (∀ (s : State),
    s.dev.rxSt = 3 →
    Completes (exec (.rxLockLost .signal) s) fun t =>
          t.dev.rng.rxDet = 9 ∧ t.dev.rxSt = (if s.dev.phase7 = true then 6 else 1) ∧ s.Frame (laneParts ++ strobeParts 16) t) ∧
  (∀ (s : State) (n : Nat),
    (s.dev.rxSt < 2 ∨ 4 < s.dev.rxSt → ∀ c ∈ [LockLoss.signal, .misaligned, .headers n, .codes n], Completes (exec (.rxLockLost c) s) fun t => t = s) ∧
    (n < 16 → Completes (exec (.rxLockLost (.headers n)) s) fun t => t = s) ∧ (n < 8 → Completes (exec (.rxLockLost (.codes n)) s) fun t => t = s)) ∧
  (∀ (s : State) (ts : List Byte),
    s.dev.rxSt = 4 →
    s.dev.ringGen ≠ 1 →
    tsCrcOk (nats ts) = true →
    s.dev.tsFault (nats ts) = 0 →
    s.dev.on F.RNG_LANE_STATUS.committed = false →
    Completes (exec (.tsReceived ts) s) fun t =>
          let b := nats ts
          let n := if s.dev.rng.tsLast = tsCore b then min 8 (s.dev.rng.tsN + 1) else 1
          t.dev.rng.tsN = n ∧ t.dev.rng.tsLast = tsCore b ∧
          (n = 8 ∧ b.getD 0 0 = 1 ∧ (s.dev.txSt ≠ 2 ∨ s.dev.rng.commit = 0) → t.dev.get F.RNG_POSITION.hop = if b.getD 7 0 = 255 then 255 else b.getD 7 0 + 1) ∧
          (n = 8 ∧ b.getD 0 0 = 2 → t.dev.rng.commit = b.getD 5 0 ∧ t.dev.get F.RNG_POSITION.members = b.getD 10 0) ∧
          (n < 8 → t.dev.rd R.RNG_POSITION = s.dev.rd R.RNG_POSITION ∧ t.dev.out = s.dev.out) ∧ (s.dev.txSt ≠ 2 → t.dev.out = s.dev.out) ∧
          s.Frame [Part.out, Part.rng, Part.reg R.RNG_POSITION.off] t) ∧
  (∀ (s : State) (ts : List Byte),
    s.dev.rxSt = 4 →
    s.dev.ringGen ≠ 1 →
    tsCrcOk (nats ts) = true →
    s.dev.tsFault (nats ts) ≠ 0 →
    Completes (exec (.tsReceived ts) s) fun t =>
          t.dev.rng.rxDet = (if s.dev.tsBad (nats ts) then 7 else 6) ∧ t.dev.rxSt = (if s.dev.phase7 = true then 6 else 1) ∧
          t.dev.get F.RNG_LANE_COUNTS.rx_losses = min (s.dev.get F.RNG_LANE_COUNTS.rx_losses + 1) (2 ^ 16 - 1) ∧
          s.Frame ([Part.reg R.RNG_LANE_COUNTS.off] ++ strobeParts 16 ++ rxLeftParts) t) ∧
  (∀ (s : State) (ts : List Byte),
    s.dev.rxSt ≠ 4 ∨ s.dev.ringGen = 1 ∨ tsCrcOk (nats ts) = false →
    Completes (exec (.tsReceived ts) s) fun t => t = s) ∧
  (∀ (s : State),
    s.dev.rxSt = 2 →
    Completes (exec .equaliserAdaptDone s) fun t =>
          t.dev.rng.adapting = false ∧
          (s.dev.rng.adapting = true → t.dev.sys.now8 = max s.dev.sys.now8 (s.dev.rng.lockAt + max 4 (s.dev.get F.RNG_LANE_CFG.adapt_ms) * 125000)) ∧
          s.Frame ([Part.rng] ++ timeParts) t) ∧
  (∀ (s : State) (l : Fin 8) (eye c : Nat),
    s.dev.rxSt = 4 →
    s.dev.ringGen ≠ 3 →
    s.dev.on F.RNG_LANE_CFG.drift_track = true →
    l < s.dev.ringW →
    eye ≤ 128 →
    c < 128 →
    Completes (exec (.eyeRemeasure l eye c) s) fun t =>
          let p := s.dev.get (F.RNG_RXl_STATUS.tap l)
          t.dev.get (F.RNG_RXl_STATUS.tap l) = (if p < c then p + 1 else if c < p then p - 1 else p) ∧ t.dev.get (F.RNG_RXl_STATUS.eye l) = eye ∧
          t.dev.sys.now8 = max s.dev.sys.now8 (Store.get 0 s.dev.rng.eyeAt l + 1250000) ∧ s.Frame ([Part.rng, Part.reg (R.RNG_RXl_STATUS l).off] ++ timeParts) t) ∧
  (∀ (s : State) (l : Fin 8) (eye : Nat) (c : Int),
    s.dev.rxSt = 4 →
    s.dev.ringGen ≠ 3 →
    s.dev.on F.RNG_LANE_CFG.drift_track = true →
    l < s.dev.ringW →
    c < 0 ∨ 127 < c →
    Completes (exec (.eyeRemeasure l eye c) s) fun t =>
          t.dev.rxSt = (if s.dev.rng.commit ≠ 0 ∧ s.dev.on F.RNG_LANE_STATUS.committed = false then 2 else 1) ∧ t.dev.get (F.RNG_RXl_STATUS.locked l) = 0 ∧
          s.Frame ([Part.reg R.RNG_LANE_COUNTS.off] ++ strobeParts 16 ++ rxLeftParts ++ timeParts) t) ∧
  (∀ (s : State) (p : BitVec 8),
    Store.get 0 s.dev.clk.lostAt 3 = 0 →
    s.dev.txSt = 1 →
    s.dev.ringGen ≠ 1 →
    Completes (exec (.txReceiverDetect p) s) fun t =>
          t.dev.sys.now8 = max s.dev.sys.now8 (s.dev.rng.detAt + 12500) ∧
          t.dev.txSt = (if (List.range s.dev.ringW).all (fun l => p.toNat.testBit l) = true then
            (if s.dev.rxSt = 4 ∧ s.dev.on F.RNG_LANE_STATUS.committed = true then 3 else 2) else 1) ∧
          s.Frame ([Part.out, Part.rng, Part.reg R.RNG_LANE_STATUS.off] ++ timeParts) t) ∧
  (∀ (s : State) (p : BitVec 8),
    Store.get 0 s.dev.clk.lostAt 3 = 0 →
    s.dev.txSt = 1 →
    s.dev.ringGen = 1 →
    Completes (exec (.txReceiverDetect p) s) fun t =>
          t.dev.sys.now8 = max s.dev.sys.now8 (s.dev.rng.detAt + 12500) ∧ t.dev.rng.txSeen = decide (p.toNat % 16 = 15) ∧
          t.dev.txSt = (if p.toNat % 16 = 15 ∧ s.dev.rxSt = 4 then 4 else 1) ∧ s.Frame (forwardParts ++ timeParts) t) ∧
  (∀ (s : State),
    s.dev.txSt = 3 →
    Completes (exec .ts3Sent s) fun t =>
          t.dev.txSt = 4 ∧ t.dev.on F.RNG_LANE_STATUS.byp_driven = true ∧ bit (t.dev.rd R.RNG_LANE_IRQ_STATUS) 1 = true ∧
          s.dev.rng.ts3At < t.dev.sys.now8 ∧ t.dev.get F.RNG_PROTO_STATUS.fresh_pending = 0 ∧
          (s.dev.twin = false → s.dev.rng.syms = [] →
            t.dev.rng.syms = [⟨5, 0xFF, s.dev.get F.RNG_POSITION.hop * 2 ^ 16 + s.dev.get F.RNG_POSITION.members * 2 ^ 8 + s.dev.get F.RNG_PROTO_STATUS.fresh_pending⟩,
              ⟨3, s.dev.ringAddr, s.dev.get F.RNG_CREDIT_OWN.limit⟩] ++
              (if s.dev.on F.RNG_PROTO_STATUS.own_synced = true then [⟨1, s.dev.ringAddr, (s.dev.get F.RNG_RX_EXPECT_OWN.expect + 2 ^ 24 - 1) % 2 ^ 24⟩] else [])) ∧
          s.Frame (forwardParts ++ timeParts) t) ∧
  (∀ (s : State) (p : BitVec 8),
    (s.dev.txSt ≠ 1 → Completes (exec (.txReceiverDetect p) s) fun t => t = s) ∧ (s.dev.txSt ≠ 3 → Completes (exec .ts3Sent s) fun t => t = s)) ∧
  (∀ (s : State) (l : Fin 8) (o : Bool),
    Completes (exec (.elasticError l o) s) fun t =>
          if s.dev.txSt = 4 ∧ l < s.dev.ringW then t.dev.get F.RNG_LANE_COUNTS.elastic = min (s.dev.get F.RNG_LANE_COUNTS.elastic + 1) (2 ^ 16 - 1) ∧
            bit (t.dev.rd R.RNG_LANE_IRQ_STATUS) 5 = true ∧ strobedOpen s.dev t.dev 17 ∧ Out.slip l.val (!o) ∈ t.dev.out ∧
            s.Frame ([Part.reg R.RNG_LANE_COUNTS.off, Part.reg R.RNG_LANE_IRQ_STATUS.off] ++ strobeParts 17 ++ freeParts ++ irqParts) t
          else t = s)

/-- R134, R135, R136, R137, R138, R139, R140: Retrain, sleep and test are refused while phase 7 runs, and while sheets are in
flight or LOADING unless forced; otherwise a direction goes to DETECT, SLEEP or TEST. Wake leaves SLEEP only; test_exit
leaves TEST, restoring the checkers and stopping the generators; manual_done ends a manual alignment. Injection inverts a
bit of a used lane and counts it, in TEST and FORWARD. Each refusal is counted. -/
def Obligations.RingLaneCommands : Prop :=
  (∀ (s : State) (force : Bool),
    reached s.dev R.RNG_LANE_CMD.off →
    s.dev.laneRefused force = false →
    1 ≤ s.dev.rxSt ∧ s.dev.rxSt ≤ 4 →
    Completes (exec (.rxRetrain force) s) (fun t => t.dev.rxSt = 1 ∧ t.dev.on F.RNG_LANE_STATUS.committed = false ∧ t.dev.get F.RNG_LANE_STATUS.rate = s.dev.trainRate ∧ s.Frame rxLeftParts t) ∧
        Completes (exec (.rxSleep force) s) (fun t => t.dev.rxSt = 0 ∧ t.dev.on F.RNG_LANE_STATUS.committed = false ∧ t.dev.get F.RNG_LANE_STATUS.rate = 0 ∧
          (∀ l ∈ List.range 8, t.dev.get (F.RNG_RXl_STATUS.locked l) = 0) ∧ s.Frame rxLeftParts t) ∧
        Completes (exec (.rxTest force) s) (fun t => t.dev.rxSt = 5 ∧ t.dev.rng.chkPrev = (List.range 8).map (fun l => s.dev.get (F.RNG_RXl_CHK_CTRL.mode l)) ∧ s.Frame rxLeftParts t)) ∧
  (∀ (s : State) (force : Bool),
    reached s.dev R.RNG_LANE_CMD.off →
    s.dev.laneRefused force = false →
    1 ≤ s.dev.txSt ∧ s.dev.txSt ≤ 4 →
    Completes (exec (.txRetrain force) s) (fun t => t.dev.txSt = 1 ∧ t.dev.rng.detAt = s.dev.sys.now8 ∧ t.dev.on F.RNG_LANE_STATUS.byp_driven = false ∧ s.Frame laneParts t) ∧
        Completes (exec (.txSleep force) s) (fun t => t.dev.txSt = 0 ∧ t.dev.on F.RNG_LANE_STATUS.byp_driven = false ∧ s.Frame laneParts t) ∧
        Completes (exec (.txTest force) s) (fun t => t.dev.txSt = 5 ∧ t.dev.on F.RNG_LANE_STATUS.byp_driven = false ∧
          (∀ l ∈ List.range s.dev.ringW, l < 8 → s.dev.get (F.RNG_TXl_GEN_CTRL.mode l) = 2 → Out.pattern l (.prbs 7 6) ∈ t.dev.out) ∧ s.Frame laneParts t)) ∧
  (∀ (s : State) (force : Bool),
    reached s.dev R.RNG_LANE_CMD.off →
    s.dev.laneRefused force = false →
    (5 ≤ s.dev.rxSt ∧ s.dev.rxSt ≤ 6 → Completes (exec (.rxSleep force) s) fun t => t.dev.rxSt = 0 ∧ s.Frame laneParts t) ∧
    (5 ≤ s.dev.txSt ∧ s.dev.txSt ≤ 6 → Completes (exec (.txSleep force) s) fun t => t.dev.txSt = 0 ∧ s.Frame laneParts t) ∧
    (s.dev.rxSt = 6 → Completes (exec (.rxRetrain force) s) fun t => t.dev.rxSt = 1 ∧ t.dev.rng.rxDet = 0 ∧ s.Frame laneParts t) ∧
    (s.dev.txSt = 6 → Completes (exec (.txRetrain force) s) fun t => t.dev.txSt = 1 ∧ t.dev.rng.txDet = 0 ∧ s.Frame laneParts t)) ∧
  (∀ (s : State) (force : Bool),
    reached s.dev R.RNG_LANE_CMD.off →
    (s.dev.laneRefused force = true ∨ s.dev.rxSt = 0 → Completes (exec (.rxRetrain force) s) (fun t => laneRefusal s t) ∧
          Completes (exec (.rxSleep force) s) (fun t => laneRefusal s t) ∧ Completes (exec (.rxTest force) s) (fun t => laneRefusal s t)) ∧
        (s.dev.laneRefused force = true ∨ s.dev.txSt = 0 → Completes (exec (.txRetrain force) s) (fun t => laneRefusal s t) ∧
          Completes (exec (.txSleep force) s) (fun t => laneRefusal s t) ∧ Completes (exec (.txTest force) s) (fun t => laneRefusal s t)) ∧
        (s.dev.phaseSt 7 = 1 ∨ (force = false ∧ (s.dev.get F.SYS_HOST_STATE.in_flight ≠ 0 ∨ ∃ k ∈ List.range 32, s.dev.shtState k = 1)) ↔
          s.dev.laneRefused force = true)) ∧
  (∀ (s : State),
    reached s.dev R.RNG_LANE_CMD.off →
    Completes (exec .rxWake s) (fun t => if s.dev.rxSt = 0 then t.dev.rxSt = 1 ∧ t.dev.get F.RNG_LANE_STATUS.rate = s.dev.trainRate ∧ s.Frame laneParts t else laneRefusal s t) ∧
        Completes (exec .txWake s) (fun t => if s.dev.txSt = 0 then t.dev.txSt = 1 ∧ s.Frame [Part.rng, Part.reg R.RNG_LANE_STATUS.off] t else laneRefusal s t)) ∧
  (∀ (s : State),
    reached s.dev R.RNG_LANE_CMD.off →
    Completes (exec .testExit s) fun t =>
          if s.dev.rxSt ≠ 5 ∧ s.dev.txSt ≠ 5 then laneRefusal s t
          else (s.dev.rxSt = 5 → t.dev.rxSt = 1 ∧ ∀ (l : Nat), l < 8 → t.dev.get (F.RNG_RXl_CHK_CTRL.mode l) = s.dev.rng.chkPrev.getD l 0 % 16) ∧
            (s.dev.txSt = 5 → t.dev.txSt = 1 ∧ ∀ (l : Nat), l < 8 → t.dev.get (F.RNG_TXl_GEN_CTRL.mode l) = 0) ∧
            s.Frame (laneParts ++ (List.range 8).flatMap fun l => [Part.reg (R.RNG_RXl_CHK_CTRL l).off, Part.reg (R.RNG_TXl_GEN_CTRL l).off]) t) ∧
  (∀ (s : State),
    reached s.dev R.RNG_LANE_CMD.off →
    s.dev.ringW ≤ 8 →
    Completes (exec .manualDone s) fun t =>
          if s.dev.rxSt = 2 ∧ s.dev.on F.RNG_LANE_CFG.manual_align = true ∧ s.dev.ringGen ≠ 3 then
            t.dev.rxSt = 3 ∧ (∀ l ∈ List.range s.dev.ringW, t.dev.get (F.RNG_RXl_STATUS.locked l) = 1) ∧ s.Frame laneParts t
          else laneRefusal s t) ∧
  (∀ (s : State) (l : Fin 8),
    reached s.dev (R.RNG_RXl_CHK_CTRL l).off →
    reached s.dev (R.RNG_TXl_INJECT l).off →
    Completes (exec (.checkerClear l) s) (fun t =>
          t.dev.rd (R.RNG_RXl_BITS l) = 0 ∧ t.dev.rd (R.RNG_RXl_ERRS l) = 0 ∧ t.dev.get (F.RNG_RXl_STATUS.pattern_locked l) = 0 ∧
          s.Frame ([Part.rng, Part.free, Part.reg R.RNG_LANE_IRQ_STATUS.off, Part.reg (R.RNG_RXl_BITS l).off, Part.reg (R.RNG_RXl_ERRS l).off,
            Part.reg (R.RNG_RXl_STATUS l).off] ++ irqParts) t) ∧
        Completes (exec (.injectSingle l) s) (fun t =>
          if (s.dev.txSt = 4 ∨ s.dev.txSt = 5) ∧ l < s.dev.ringW then
            t.dev.get (F.RNG_TXl_INJECT_COUNT.count l) = min (s.dev.get (F.RNG_TXl_INJECT_COUNT.count l) + 1) (2 ^ 32 - 1) ∧
            t.dev.out = .invert l (if s.dev.txSt = 4 ∧ s.dev.get (F.RNG_TXl_INJECT.target l) = 1 then 1 else 0) :: s.dev.out ∧
            s.Frame [Part.out, Part.reg (R.RNG_TXl_INJECT_COUNT l).off] t
          else t = s) ∧
        Completes (exec (.injectPeriodic l) s) (fun t =>
          if s.dev.on (F.RNG_TXl_INJECT.periodic l) = true ∧ (s.dev.txSt = 4 ∨ s.dev.txSt = 5) ∧ l < s.dev.ringW then
            t.dev.get (F.RNG_TXl_INJECT_COUNT.count l) = min (s.dev.get (F.RNG_TXl_INJECT_COUNT.count l) + 1) (2 ^ 32 - 1) ∧
            (2 ^ max 10 (s.dev.get (F.RNG_TXl_INJECT.interval l)) * 1000 ≤ (t.dev.sys.now8 - Store.get 0 s.dev.rng.injAt l) * (lineRate s.dev.rng.txRate * 8)) ∧
            Store.get 0 t.dev.rng.injAt l = t.dev.sys.now8 ∧
            s.Frame ([Part.out, Part.rng, Part.reg (R.RNG_TXl_INJECT_COUNT l).off] ++ timeParts) t
          else t = s))

/-- R142, R143, R145, R146, R148, R149, R150, R151, R152, R153, R159: A frame for another address passes on unchanged; a damaged
one is counted, flagged, recorded and, in the own stream, NAKed; the frame the stream expects is taken into the buffer with
its credits, and the expected number advances; a repeated one is counted; one ahead is counted and NAKed. QUERY answers with
ACK and CREDIT, NOTE is shown and flagged, a damaged control unit is counted and replaced. Own symbols leave one at a time
in order. An overflow of the forwarding buffer ends a frame in progress with EOFS and its CRC. -/
def Obligations.RingFrames : Prop :=
  (∀ (s : State) (us : List (List Byte)) (u : List Byte) (y : Sym) (ys : List Sym),
    s.dev.rxSt = 4 →
    s.dev.twin = false →
    s.dev.symReady = true →
    s.dev.rng.syms = y :: ys →
    ys.length < 16 →
    s.dev.rng.fwd < 64 →
    s.dev.rng.drop ≠ 2 →
    (fieldsOf us).dest ≠ s.dev.ringAddr →
    wholeFrame s.dev us u →
    Completes (exec (.ringFrameReceived ⟨us, .eof u⟩ []) s) fun t =>
          t.dev.out = [.ring (((us.map nats).drop 1).flatten ++ nats u), .ring (s.dev.ctlUnit y.code s.dev.ringAddr y.stream y.value), .ring ((us.map nats).headD [])] ++ s.dev.out ∧
          t.dev.rng.syms = ys ∧ t.dev.rng.fwd = s.dev.rng.fwd + 1 ∧ t.dev.get F.RNG_PROTO_STATUS.sym_queue = ys.length ∧
          s.Frame [Part.out, Part.rng, Part.reg R.RNG_PROTO_STATUS.off] t) ∧
  (∀ (s : State) (us : List (List Byte)) (u : List Byte),
    s.dev.symReady = false →
    s.dev.rxSt = 4 →
    s.dev.twin = false →
    (fieldsOf us).dest ≠ s.dev.ringAddr →
    wholeFrame s.dev us u →
    Completes (exec (.ringFrameReceived ⟨us, .eof u⟩ []) s) fun t =>
          t.dev.out = (if s.dev.txSt = 4 ∧ s.dev.rng.drop ≠ 2 then .ring ((us.map nats).flatten ++ nats u) :: s.dev.out else s.dev.out) ∧ t.dev.rng = { s.dev.rng with drop := if s.dev.rng.drop = 2 then 1 else 0 } ∧ s.Frame [Part.out, Part.rng] t) ∧
  (∀ (s : State) (us : List (List Byte)) (u c : List Byte) (k : Nat),
    s.dev.symReady = false →
    s.dev.rng.drop ≠ 2 →
    s.dev.rxSt = 4 →
    s.dev.txSt = 4 →
    s.dev.twin = false →
    (fieldsOf us).dest ≠ s.dev.ringAddr →
    wholeFrame s.dev us u →
    wholeCtl s.dev c →
    ub (nats c) 2 ≠ 0 →
    1 ≤ k →
    Completes (exec (.ringFrameReceived ⟨us, .eof u⟩ [(k, c)]) s) fun t =>
          t.dev.out = [.ring (((us.map nats).drop k).flatten ++ nats u), .ring (nats c), .ring ((us.map nats).take k).flatten] ++ s.dev.out ∧ t.dev.rng = { s.dev.rng with drop := 0 } ∧ s.Frame [Part.out, Part.rng] t) ∧
  (∀ (s : State) (us : List (List Byte)) (u : List Byte),
    s.dev.rxSt = 4 →
    s.dev.twin = false →
    s.dev.rng.syms = [] →
    s.dev.rng.own.nakAt = 0 ∧ s.dev.rng.own.resyncAt = 0 →
    (fieldsOf us).dest = s.dev.ringAddr →
    ub ((us.map nats).headD []) 0 = s.dev.unitType 0xA3 0xFB →
    ub (nats u) 0 = s.dev.unitType 0xB4 0xDC →
    leVal (((nats u).drop 1).take 4) ≠ frameCrc (us.map nats) →
    Completes (exec (.ringFrameReceived ⟨us, .eof u⟩ []) s) fun t =>
          t.dev.get (F.RNG_CNT_c.count 1) = min (s.dev.get (F.RNG_CNT_c.count 1) + 1) (2 ^ 32 - 1) ∧ bit (t.dev.rd R.RNG_PROTO_IRQ_STATUS) 1 = true ∧
          strobedOpen s.dev t.dev 16 ∧
          t.dev.rng.syms = (if s.dev.on F.RNG_PROTO_STATUS.own_synced = true then [⟨2, s.dev.ringAddr, s.dev.get F.RNG_RX_EXPECT_OWN.expect⟩] else [⟨4, s.dev.ringAddr, 0⟩]) ∧
          s.Frame ([Part.rng, Part.reg (R.RNG_CNT_c 1).off, Part.reg R.RNG_PROTO_IRQ_STATUS.off, Part.reg R.RNG_PROTO_STATUS.off] ++ strobeParts 16 ++ freeParts ++ irqParts) t) ∧
  (∀ (s : State) (us : List (List Byte)) (u : List Byte) (ctls : List (Nat × List Byte)),
    s.dev.rxSt = 4 →
    (fieldsOf us).dest = s.dev.ringAddr →
    wholeFrame s.dev us u →
    (∀ c ∈ ctls, ub (nats c.2) 0 = s.dev.unitType 0xC5 0x5C) →
    s.dev.malformed (fieldsOf us) (nats u) = false →
    bit (fieldsOf us).flags 1 = false →
    s.dev.on F.RNG_PROTO_CFG.check_required = false →
    s.dev.on F.RNG_PROTO_STATUS.own_synced = true →
    (fieldsOf us).seq = s.dev.get F.RNG_RX_EXPECT_OWN.expect →
    s.dev.get F.RNG_INGRESS_FILL.own + frameCredits (fieldsOf us).nwords ≤ s.dev.shareCredits false →
    Completes (exec (.ringFrameReceived ⟨us, .eof u⟩ ctls) s) fun t =>
          t.dev.rng.own.frames = s.dev.rng.own.frames ++ [{ (fieldsOf us).hdr with words := (fieldsOf us).payload.map fun p => (leVal p, false) }] ∧
          t.dev.get F.RNG_INGRESS_FILL.own = (s.dev.get F.RNG_INGRESS_FILL.own + frameCredits (fieldsOf us).nwords) % 2 ^ 16 ∧
          t.dev.get F.RNG_RX_EXPECT_OWN.expect = (s.dev.get F.RNG_RX_EXPECT_OWN.expect + 1) % 2 ^ 24 ∧
          t.dev.get (F.RNG_CNT_c.count 0) = min (s.dev.get (F.RNG_CNT_c.count 0) + 1) (2 ^ 32 - 1)) ∧
  (∀ (s : State) (us : List (List Byte)) (u : List Byte),
    s.dev.rxSt = 4 →
    s.dev.twin = false →
    s.dev.rng.syms = [] →
    s.dev.rng.own.nakAt = 0 ∧ s.dev.rng.own.resyncAt = 0 →
    (fieldsOf us).dest = s.dev.ringAddr →
    wholeFrame s.dev us u →
    s.dev.malformed (fieldsOf us) (nats u) = false →
    bit (fieldsOf us).flags 1 = false →
    s.dev.on F.RNG_PROTO_CFG.check_required = false →
    s.dev.on F.RNG_PROTO_STATUS.own_synced = true →
    Completes (exec (.ringFrameReceived ⟨us, .eof u⟩ []) s) fun t =>
          let f := fieldsOf us
          let e := s.dev.get F.RNG_RX_EXPECT_OWN.expect
          let w := frameCredits f.nwords
          let room := s.dev.get F.RNG_INGRESS_FILL.own + w ≤ 4096
          (if f.seq = e ∧ room then
            t.dev.rng.own.frames = s.dev.rng.own.frames ++ [{ f.hdr with words := f.payload.map fun p => (leVal p, false) }] ∧
              t.dev.get F.RNG_INGRESS_FILL.own = s.dev.get F.RNG_INGRESS_FILL.own + w ∧ t.dev.get F.RNG_RX_EXPECT_OWN.expect = (e + 1) % 2 ^ 24 ∧
              t.dev.get (F.RNG_CNT_c.count 0) = min (s.dev.get (F.RNG_CNT_c.count 0) + 1) (2 ^ 32 - 1) ∧ t.dev.rng.syms = []
          else t.dev.rng.own.frames = s.dev.rng.own.frames ∧ t.dev.get F.RNG_RX_EXPECT_OWN.expect = e ∧
              t.dev.get F.RNG_INGRESS_FILL.own = s.dev.get F.RNG_INGRESS_FILL.own ∧
              (if f.seq = e then t.dev.rng.syms = [⟨2, s.dev.ringAddr, e⟩] ∧ t.dev.get (F.RNG_CNT_c.count 4) = min (s.dev.get (F.RNG_CNT_c.count 4) + 1) (2 ^ 32 - 1)
              else if (f.seq + 2 ^ 24 - e) % 2 ^ 24 < 2 ^ 23 then
                t.dev.rng.syms = [⟨2, s.dev.ringAddr, e⟩] ∧ t.dev.get (F.RNG_CNT_c.count 2) = min (s.dev.get (F.RNG_CNT_c.count 2) + 1) (2 ^ 32 - 1)
              else t.dev.rng.syms = [] ∧ t.dev.get (F.RNG_CNT_c.count 3) = min (s.dev.get (F.RNG_CNT_c.count 3) + 1) (2 ^ 32 - 1))) ∧
          s.Frame ([Part.rng, Part.reg R.RNG_PROTO_IRQ_STATUS.off, Part.reg R.RNG_PROTO_STATUS.off, Part.reg R.RNG_INGRESS_FILL.off, Part.reg R.RNG_RX_EXPECT_OWN.off] ++
            (List.range 5).map (fun c => Part.reg (R.RNG_CNT_c c).off) ++ strobeParts 16 ++ freeParts ++ irqParts) t) ∧
  (∀ (s : State) (stream : Byte),
    s.dev.rxSt = 4 →
    s.dev.twin = false →
    stream.toNat = 0xFF ∨ stream.toNat = s.dev.ringAddr →
    Completes (exec (.query stream) s) fun t =>
          (s.dev.rng.syms = [] → t.dev.rng.syms =
            (if s.dev.on F.RNG_PROTO_STATUS.own_synced = true then [⟨1, s.dev.ringAddr, (s.dev.get F.RNG_RX_EXPECT_OWN.expect + 2 ^ 24 - 1) % 2 ^ 24⟩] else []) ++
            [⟨3, s.dev.ringAddr, s.dev.get F.RNG_CREDIT_OWN.limit⟩]) ∧
          t.dev.rng.own.sent = s.dev.get F.RNG_CREDIT_OWN.limit ∧
          t.dev.out = (if stream.toNat ≠ s.dev.ringAddr ∧ s.dev.txSt = 4 ∧ s.dev.rng.drop = 0 then .ring (s.dev.ctlUnit 0x20 0 stream.toNat 0) :: s.dev.out else s.dev.out) ∧
          s.Frame [Part.out, Part.rng, Part.reg R.RNG_PROTO_STATUS.off] t) ∧
  (∀ (s : State) (stream : Byte) (v : BitVec 24),
    s.dev.rxSt = 4 →
    Completes (exec (.note stream v) s) fun t =>
          (if s.dev.named stream.toNat ≠ [] then t.dev.get F.RNG_NOTE_RX.value = v.toNat ∧ bit (t.dev.rd R.RNG_PROTO_IRQ_STATUS) 0 = true
          else t.dev.rd R.RNG_NOTE_RX = s.dev.rd R.RNG_NOTE_RX ∧ t.dev.rd R.RNG_PROTO_IRQ_STATUS = s.dev.rd R.RNG_PROTO_IRQ_STATUS) ∧
          s.Frame ([Part.reg R.RNG_NOTE_RX.off, Part.reg R.RNG_PROTO_IRQ_STATUS.off] ++ irqParts) t) ∧
  (∀ (s : State) (u : List Byte),
    s.dev.rxSt = 4 →
    ub (nats u) 0 = s.dev.unitType 0xC5 0x5C →
    u.length ≠ 8 ∨ crc8 ((nats u).take 7) ≠ ub (nats u) 7 →
    Completes (exec (.controlUnitReceived u) s) fun t =>
          t.dev.get (F.RNG_CNT_c.count 9) = min (s.dev.get (F.RNG_CNT_c.count 9) + 1) (2 ^ 32 - 1) ∧ bit (t.dev.rd R.RNG_PROTO_IRQ_STATUS) 5 = true ∧
          strobedOpen s.dev t.dev 16 ∧
          s.Frame ([Part.out, Part.reg (R.RNG_CNT_c 9).off, Part.reg R.RNG_PROTO_IRQ_STATUS.off] ++ strobeParts 16 ++ freeParts ++ irqParts) t) ∧
  (∀ (s : State) (u : List Byte),
    s.dev.rxSt = 4 →
    s.dev.txSt = 4 →
    wholeCtl s.dev u →
    ub (nats u) 2 ≠ 0 →
    Completes (exec (.controlUnitReceived u) s) fun t => t.dev.out = (if s.dev.rng.drop = 0 then .ring (nats u) :: s.dev.out else s.dev.out) ∧ s.Frame [Part.out] t) ∧
  (∀ (s : State) (u : List Byte),
    s.dev.rxSt = 4 →
    s.dev.txSt = 4 →
    ub (nats u) 0 ≠ s.dev.unitType 0xC5 0x5C →
    Completes (exec (.controlUnitReceived u) s) fun t =>
          (s.dev.rng.fwd = 0 → if s.dev.rng.drop = 0 then ∃ x, t.dev.out = .ring x :: s.dev.out else t.dev.out = s.dev.out) ∧ (s.dev.rng.fwd ≠ 0 → t.dev.rng.fwd = s.dev.rng.fwd - 1 ∧ t.dev.out = s.dev.out) ∧
          s.Frame [Part.out, Part.rng] t) ∧
  (∀ (s : State) (stream : Byte) (v : BitVec 24) (u : List Byte) (us : List (List Byte)) (ctls : List (Nat × List Byte)),
    s.dev.rxSt ≠ 4 →
    Completes (exec (.query stream) s) (fun t => t = s) ∧ Completes (exec (.note stream v) s) (fun t => t = s) ∧
        Completes (exec (.controlUnitReceived u) s) (fun t => t = s) ∧ Completes (exec (.ringFrameReceived ⟨us, .cut⟩ ctls) s) (fun t => t = s)) ∧
  (∀ (s : State) (v : BitVec 24),
    reached s.dev R.RNG_NOTE_TX.off →
    s.dev.rng.syms.length < 16 →
    Completes (exec (.noteTx v) s) fun t => symQueued s.dev t.dev ⟨6, 0xFF, v.toNat⟩ ∧ s.Frame [Part.rng, Part.reg R.RNG_PROTO_STATUS.off] t) ∧
  (∀ (s : State),
    s.dev.txSt = 4 →
    s.dev.twin = false →
    Completes (exec .ackInterval s) fun t =>
          t.dev.sys.now8 = max s.dev.sys.now8 (s.dev.rng.ackAt + max 1 (s.dev.get F.RNG_PROTO_CFG.ack_interval_us) * 125) ∧ t.dev.rng.ackAt = t.dev.sys.now8 ∧
          (s.dev.rng.syms.length < 16 → t.dev.rng.syms = s.dev.rng.syms ++
            (if s.dev.on F.RNG_PROTO_STATUS.own_synced = true then [⟨1, s.dev.ringAddr, (s.dev.get F.RNG_RX_EXPECT_OWN.expect + 2 ^ 24 - 1) % 2 ^ 24⟩] else [])) ∧
          s.Frame ([Part.rng, Part.reg R.RNG_PROTO_STATUS.off] ++ timeParts) t) ∧
  (∀ (s : State) (y : Sym) (ys : List Sym),
    s.dev.txSt = 4 →
    s.dev.rng.syms = y :: ys →
    ys.length < 16 →
    Completes (exec .ownSymbolInsert s) fun t =>
          t.dev.out = .ring (s.dev.ctlUnit y.code s.dev.ringAddr y.stream y.value) :: s.dev.out ∧ t.dev.rng.syms = ys ∧ t.dev.get F.RNG_PROTO_STATUS.sym_queue = ys.length ∧
          t.dev.sys.now8 = max s.dev.sys.now8 s.dev.rng.insAt ∧
          if s.dev.rng.fwd < 64 then
            t.dev.rng.fwd = s.dev.rng.fwd + 1 ∧ t.dev.rng.drop = s.dev.rng.drop ∧ s.Frame ([Part.out, Part.rng, Part.reg R.RNG_PROTO_STATUS.off] ++ timeParts) t
          else t.dev.rng.fwd = 0 ∧ t.dev.rng.drop = 1 ∧ t.dev.get (F.RNG_CNT_c.count 10) = min (s.dev.get (F.RNG_CNT_c.count 10) + 1) (2 ^ 32 - 1) ∧
            bit (t.dev.rd R.RNG_PROTO_IRQ_STATUS) 7 = true ∧ strobedOpen s.dev t.dev 17 ∧
            s.Frame ([Part.out, Part.rng, Part.reg R.RNG_PROTO_STATUS.off, Part.reg (R.RNG_CNT_c 10).off, Part.reg R.RNG_PROTO_IRQ_STATUS.off] ++
              strobeParts 17 ++ freeParts ++ irqParts ++ timeParts) t) ∧
  (∀ (s : State) (part : List (List Byte)),
    (s.dev.txSt ≠ 4 → Completes (exec .ackInterval s) (fun t => t = s) ∧ Completes (exec (.forwardBufferOverflow part) s) (fun t => t = s)) ∧
        (s.dev.txSt ≠ 4 ∨ s.dev.rng.syms = [] → Completes (exec .ownSymbolInsert s) fun t => t = s) ∧
        (s.dev.txSt = 4 → Completes (exec (.forwardBufferOverflow part) s) fun t =>
          t.dev.get (F.RNG_CNT_c.count 10) = min (s.dev.get (F.RNG_CNT_c.count 10) + 1) (2 ^ 32 - 1) ∧ bit (t.dev.rd R.RNG_PROTO_IRQ_STATUS) 7 = true ∧
          t.dev.rng.fwd = 0 ∧ t.dev.rng.drop = (if part = [] then 1 else 2) ∧ strobedOpen s.dev t.dev 17 ∧
          (part ≠ [] → Out.ring ([s.dev.unitType 0xB7 0xFE] ++ leBytes 4 (frameCrc (part.map nats)) ++ [s.dev.get F.RNG_POSITION.hop, 0, 0]) ∈ t.dev.out) ∧
          s.Frame ([Part.out, Part.rng, Part.reg (R.RNG_CNT_c 10).off, Part.reg R.RNG_PROTO_IRQ_STATUS.off] ++ strobeParts 17 ++ freeParts ++ irqParts) t))

/-- R105, R163, R173, R174, R179, R180, R181, R182, R184: A queue is enabled in IDLE with its mode, unless another queue moves
the same ring stream; START puts its address and waits, APPEND counts or re-opens a DONE queue, ABORT stops a waiting or
running queue with result 0x10; everything else is refused and counted. The grant goes round robin from the queue after the
last one, to a waiting queue, while the engine is enabled and not held; a chain queue then fetches its descriptor. Disabling
the engine stops every queue. A ring frame of a sheet that is not open is dropped: it leaves its buffer and gives its
credits back, and its lines, where it has any, are refused. A frame of an open sheet lands word by word at its plane. Writes
the guard holds go on when it lets them; while it does not, nothing changes; the guard's time-out fails the descriptor with
0x16, with a record of source 18 unless one already stands in the slot. Points the spec leaves open follow the model's
choice of log entry 53. -/
def Obligations.DmaQueues : Prop :=
  (∀ (s : State) (q : Fin 16),
    s.dev.direct (R.DMA_Qq_CFG q).off →
    Completes (exec (.queueDisable q) s) fun t =>
          t.dev.on (F.DMA_Qq_CFG.enable q) = false ∧ t.dev.qSt q = 0 ∧ (s.dev.qSt q ≠ 0 → t.dev.dq q = {}) ∧ t.pending = s.pending) ∧
  (∀ (s : State) (q : Nat),
    s.dev.on F.DMA_CTRL.enable = true →
    s.dev.dmaHeld = false →
    s.dev.qRunning = none →
    ((List.range 16).map fun i => (s.dev.dmaLast + 1 + i) % 16).find? (fun p => s.dev.qSt p = 2) = some q →
    Completes (exec .queueGrant s) fun t =>
          t.dev.dmaLast = q ∧ t.dev.qSt q = 3 ∧
          (s.dev.ringMode q = none → (t.dev.dq q).fetch = (if (s.dev.dq q).reread = true then 2 else 1) ∧
            t.dev.out = .hostRead (s.dev.rd (R.DMA_Qq_CURRENT q)) (if (s.dev.dq q).reread = true then 8 else 48) :: s.dev.out) ∧
          (∀ g ∈ s.dev.ringMode q, (t.dev.dq q).frames = (s.dev.rxS g).frames.length ∧ t.dev.out = s.dev.out) ∧ t.mem = s.mem ∧ t.pending = s.pending) ∧
  (∀ (s : State) (q : Fin 16) (g : Bool) (f : RxFrame) (rest : List RxFrame),
    s.dev.ringMode q = some g →
    s.dev.qSt q = 3 →
    (s.dev.rxS g).frames = f :: rest →
    Completes (exec (.ringFrameMoved q) s) fun t =>
          (((t.dev.rxS g).frames = f :: rest ∧ t.dev.qSt q = 3 ∧ (t.dev.dq q).run = true ∧ (t.dev.dq q).pend ≠ [] ∧ (t.dev.dq q).stall ≠ 0) ∨
            ((t.dev.rxS g).frames = rest ∧ t.dev.get (fillF g) = (s.dev.get (fillF g) - frameCredits f.words.length) ∧
              t.dev.get (limitF g) = (s.dev.get (limitF g) + frameCredits f.words.length) % 2 ^ 24 ∧ (t.dev.dq q).pend = [] ∧ (t.dev.dq q).stall = 0)) ∧ t.pending = s.pending) ∧
  (∀ (s : State) (q : Fin 16) (k : Nat),
    s.dev.memx.lost = false →
    s.dev.qSt q = 3 →
    (s.dev.dq q).stall ≠ 0 →
    (s.dev.ringMode q = none ∧ s.dev.openDesc (descOfWords (s.dev.dq q).desc).tag = some k) ∨
      (∃ g ∈ s.dev.ringMode q, ∃ f ∈ (s.dev.rxS g).frames.head?, s.dev.openDesc f.tag = some k) →
    Completes (exec (.guardStallRelease q) s) fun t =>
          t.dev.qSt q = 3 ∧ (t.dev.dq q).pend <:+ (s.dev.dq q).pend ∧ ((t.dev.dq q).stall = 0 ↔ (t.dev.dq q).pend = []) ∧
          (t.dev.dq q).bytes + 8 * (t.dev.dq q).pend.length = (s.dev.dq q).bytes + 8 * (s.dev.dq q).pend.length ∧
          (∀ x ∈ (t.dev.dq q).pend.head?, s.dev.guarded k x.1 = true) ∧ t.pending = s.pending) ∧
  (∀ (s : State) (q : Fin 16),
    s.dev.memx.lost = false →
    s.dev.ringMode q = none →
    s.dev.qSt q = 3 →
    (s.dev.dq q).stall ≠ 0 →
    (s.dev.dq q).pend ≠ [] →
    s.dev.openDesc (descOfWords (s.dev.dq q).desc).tag = none →
    Completes (exec (.guardStallRelease q) s) fun t => failed s.dev t.dev q 0x18 ∧ s.Frame (failParts q) t) ∧
  (∀ (s : State) (q : Fin 16) (g : Bool) (f : RxFrame) (rest : List RxFrame),
    s.dev.ringMode q = some g →
    s.dev.qSt q = 3 →
    (s.dev.dq q).stall ≠ 0 →
    (s.dev.rxS g).frames = f :: rest →
    Completes (exec (.guardTimeout q) s) fun t =>
          (t.dev.rxS g).frames = rest ∧ t.dev.get (fillF g) = (s.dev.get (fillF g) - frameCredits f.words.length) ∧ (t.dev.dq q).pend = [] ∧
          (s.dev.flt.strobes.any (fun x => x.src = 18 && x.t / 8 = s.dev.now / 8) = false → t.dev.flt.strobes.any (fun x => x.src = 18 ∧ x.d0 = 0x16 * 2 ^ 24 + q.val) = true) ∧ t.mem = s.mem ∧ t.pending = s.pending) ∧
  (∀ (s : State) (q : Fin 16) (cfg : Word32),
    s.dev.direct (R.DMA_Qq_CFG q).off →
    s.dev.on (F.DMA_Qq_CFG.enable q) = false →
    bits cfg.toNat 7 6 = 0 ∨ bits cfg.toNat 7 6 = 3 →
    Completes (exec (.queueEnable q cfg) s) fun t =>
          t.dev.on (F.DMA_Qq_CFG.enable q) = true ∧ t.dev.get (F.DMA_Qq_CFG.mode q) = bits cfg.toNat 7 6 ∧ t.dev.qSt q = 1 ∧
          s.Frame [Part.reg (R.DMA_Qq_CFG q).off, Part.reg (R.DMA_Qq_STATUS q).off] t) ∧
  (∀ (s : State) (q : Fin 16) (cfg : Word32),
    s.dev.direct (R.DMA_Qq_CFG q).off →
    s.dev.on (F.DMA_Qq_CFG.enable q) = false →
    bits cfg.toNat 7 6 = 1 ∨ bits cfg.toNat 7 6 = 2 →
    Completes (exec (.queueEnable q cfg) s) fun t =>
          if ∃ p ∈ List.range 16, p ≠ q.val ∧ s.dev.on (F.DMA_Qq_CFG.enable p) = true ∧ s.dev.get (F.DMA_Qq_CFG.mode p) = bits cfg.toNat 7 6 then
            t.dev.get F.DMA_REJECT.count = min (s.dev.get F.DMA_REJECT.count + 1) (2 ^ 16 - 1) ∧ t.dev.on (F.DMA_Qq_CFG.enable q) = false ∧
              s.Frame [Part.reg (R.DMA_Qq_CFG q).off, Part.reg R.DMA_REJECT.off] t
          else t.dev.on (F.DMA_Qq_CFG.enable q) = true ∧ t.dev.get (F.DMA_Qq_CFG.mode q) = bits cfg.toNat 7 6 ∧
            s.Frame [Part.reg (R.DMA_Qq_CFG q).off, Part.reg (R.DMA_Qq_STATUS q).off] t) ∧
  (∀ (s : State) (q : Fin 16) (cfg : Word32),
    s.dev.direct (R.DMA_Qq_CFG q).off →
    s.dev.on (F.DMA_Qq_CFG.enable q) = true →
    Completes (exec (.queueEnable q cfg) s) fun t => t = s) ∧
  (∀ (s : State) (q : Fin 16),
    s.dev.direct (R.DMA_Qq_CFG q).off →
    s.dev.qSt q ≠ 0 →
    s.dev.ringMode q = none →
    (s.dev.dq q).pend = [] →
    Completes (exec (.queueDisable q) s) fun t =>
          t.dev.on (F.DMA_Qq_CFG.enable q) = false ∧ t.dev.qSt q = 0 ∧ t.dev.dq q = {} ∧ t.dev.free = s.dev.free + 3 ∧
          s.Frame (queueParts q ++ [Part.free, Part.reg R.DMA_BYTES.off]) t) ∧
  (∀ (s : State),
    s.dev.direct R.DMA_CTRL.off →
    Completes (exec .dmaEnable s) fun t =>
          t.dev.on F.DMA_CTRL.enable = true ∧ (s.dev.on F.DMA_CTRL.enable = false → t.dev.dmaLast = 15) ∧ s.Frame [Part.dmaLast, Part.reg R.DMA_CTRL.off] t) ∧
  (∀ (s : State),
    s.dev.direct R.DMA_CTRL.off →
    Completes (exec .dmaDisable s) fun t =>
          t.dev.on F.DMA_CTRL.enable = false ∧ (∀ (q : Nat), q < 16 → t.dev.on (F.DMA_Qq_CFG.enable q) = false ∧ t.dev.qSt q = 0) ∧
          (∀ (a : Nat), a < 64 → (List.range 16).all (fun q => (s.dev.dq q).pend.all fun x => x.1 / 8 ≠ a / 8) = true → t.mem.byte a = s.mem.byte a) ∧ t.pending = s.pending) ∧
  (∀ (s : State) (q : Fin 16) (addr : Word64),
    s.dev.direct (R.DMA_Qq_START q).off →
    s.dev.ringMode q = none →
    s.dev.qSt q = 1 ∨ s.dev.qSt q = 4 ∨ s.dev.qSt q = 5 →
    Completes (exec (.dmaStart q addr) s) fun t =>
          t.dev.rd (R.DMA_Qq_CURRENT q) = addr.toNat / 64 * 64 ∧ t.dev.get (F.DMA_Qq_STATUS.append_count q) = 0 ∧ t.dev.qSt q = 2 ∧
          s.Frame [Part.dmaq q, Part.reg (R.DMA_Qq_CURRENT q).off, Part.reg (R.DMA_Qq_STATUS q).off] t) ∧
  (∀ (s : State) (q : Fin 16),
    s.dev.direct (R.DMA_Qq_APPEND q).off →
    s.dev.ringMode q = none →
    s.dev.qSt q = 2 ∨ s.dev.qSt q = 3 ∨ s.dev.qSt q = 4 →
    Completes (exec (.dmaAppend q 1#32) s) fun t =>
          (if s.dev.qSt q = 4 then t.dev.qSt q = 2 ∧ (t.dev.dq q).reread = true
          else t.dev.get (F.DMA_Qq_STATUS.append_count q) = min (s.dev.get (F.DMA_Qq_STATUS.append_count q) + 1) 255 ∧ t.dev.qSt q = s.dev.qSt q) ∧
          s.Frame [Part.dmaq q, Part.reg (R.DMA_Qq_STATUS q).off] t) ∧
  (∀ (s : State) (q : Fin 16),
    s.dev.direct (R.DMA_Qq_CMD q).off →
    s.dev.ringMode q = none →
    s.dev.qSt q = 2 ∨ s.dev.qSt q = 3 →
    (s.dev.dq q).doneAt ≠ s.dev.sys.now8 + 1 →
    Completes (exec (.dmaAbort q) s) fun t =>
          t.dev.qSt q = 5 ∧ t.dev.get (F.DMA_Qq_STATUS.result q) = 0x10 ∧ t.dev.rd (R.DMA_Qq_CURRENT q) = s.dev.rd (R.DMA_Qq_CURRENT q) ∧
          (s.dev.qSt q = 3 → (t.dev.dq q).run = false ∧ (t.dev.dq q).pend = []) ∧
          (if s.dev.qSt q = 3 ∧ (s.dev.dq q).run = true ∧ (descOfWords (s.dev.dq q).desc).wb = true then
            t.dev.out = .hostWrite (s.dev.rd (R.DMA_Qq_CURRENT q) + 0x38) [0x10 * 2 ^ 56 + (s.dev.dq q).bytes % 2 ^ 32] :: s.dev.out
          else t.dev.out = s.dev.out) ∧
          s.Frame ([Part.out] ++ queueParts q) t) ∧
  (∀ (s : State) (q : Fin 16) (addr : Word64),
    s.dev.direct (R.DMA_Qq_START q).off →
    s.dev.direct (R.DMA_Qq_APPEND q).off →
    s.dev.direct (R.DMA_Qq_CMD q).off →
    (s.dev.dq q).doneAt ≠ s.dev.sys.now8 + 1 →
    (s.dev.ringMode q ≠ none ∨ s.dev.qSt q = 0 ∨ s.dev.qSt q = 2 ∨ s.dev.qSt q = 3 → Completes (exec (.dmaStart q addr) s) fun t => dmaRefused s t) ∧
        (s.dev.ringMode q ≠ none ∨ s.dev.qSt q < 2 ∨ s.dev.qSt q = 5 → Completes (exec (.dmaAppend q 1#32) s) fun t => dmaRefused s t) ∧
        (s.dev.ringMode q ≠ none ∨ s.dev.qSt q < 2 ∨ 4 ≤ s.dev.qSt q → Completes (exec (.dmaAbort q) s) fun t => dmaRefused s t) ∧
        Completes (exec (.dmaAppend q 0#32) s) (fun t => t = s)) ∧
  (∀ (s : State) (q : Fin 16),
    s.dev.on F.DMA_CTRL.enable = true →
    s.dev.dmaHeld = false →
    s.dev.qRunning = none →
    s.dev.ringMode q = none →
    s.dev.qSt q = 2 →
    (s.dev.dq q).reread = false →
    (∀ (i : Nat), i < 16 → (s.dev.dmaLast + 1 + i) % 16 ≠ q.val → s.dev.qSt ((s.dev.dmaLast + 1 + i) % 16) = 2 → (q.val + 15 - s.dev.dmaLast) % 16 < i) →
    Completes (exec .queueGrant s) fun t =>
          t.dev.dmaLast = q.val ∧ t.dev.qSt q = 3 ∧ (t.dev.dq q).fetch = 1 ∧ t.dev.out = .hostRead (s.dev.rd (R.DMA_Qq_CURRENT q)) 48 :: s.dev.out ∧
          s.Frame [Part.out, Part.dmaLast, Part.dmaq q, Part.reg (R.DMA_Qq_STATUS q).off] t) ∧
  (∀ (s : State),
    s.dev.on F.DMA_CTRL.enable = false ∨ s.dev.dmaHeld = true ∨ s.dev.qRunning ≠ none ∨ (∀ (p : Nat), p < 16 → s.dev.qSt p ≠ 2) →
    Completes (exec .queueGrant s) fun t => t = s) ∧
  (∀ (s : State) (q : Fin 16) (g : Bool) (f : RxFrame),
    s.dev.ringMode q = some g →
    s.dev.qSt q = 3 →
    (s.dev.rxS g).frames = [f] →
    (s.dev.dq q).frames = 1 →
    s.dev.openDesc f.tag = none →
    Completes (exec (.ringFrameMoved q) s) fun t =>
          (t.dev.rxS g).frames = [] ∧ t.dev.get (fillF g) = (s.dev.get (fillF g) - frameCredits f.words.length) ∧
          t.dev.get (limitF g) = (s.dev.get (limitF g) + frameCredits f.words.length) % 2 ^ 24 ∧ t.dev.qSt q = 1 ∧ (t.dev.dq q).frames = 0 ∧
          (if f.lines = 0 then t.dev.flt = s.dev.flt ∧ t.dev.rd R.SHT_CREDIT_ERR = s.dev.rd R.SHT_CREDIT_ERR
          else t.dev.get F.SHT_CREDIT_ERR.count = min (s.dev.get F.SHT_CREDIT_ERR.count + 1) (2 ^ 32 - 1) ∧
            strobed s.dev t.dev 21 (0xF0 * 2 ^ 24 + f.plane % 8 * 2 ^ 16 + f.tag) (f.first * 2 ^ 16 + f.lines)) ∧
          s.Frame ([Part.rng, Part.dmaq q, Part.reg (R.DMA_Qq_STATUS q).off, Part.reg R.RNG_INGRESS_FILL.off, Part.reg (limitF g).reg.off, Part.reg R.RNG_PROTO_STATUS.off,
            Part.reg R.SHT_CREDIT_ERR.off, Part.reg R.SHT_STATUS.off] ++ strobeParts 21 ++ irqParts) t) ∧
  (∀ (s : State) (q : Fin 16),
    s.dev.ringMode q = none ∨ s.dev.qSt q ≠ 3 →
    Completes (exec (.ringFrameMoved q) s) fun t => t = s) ∧
  (∀ (s : State) (q : Fin 16),
    s.dev.qSt q ≠ 3 ∨ (s.dev.dq q).stall = 0 →
    Completes (exec (.guardStallRelease q) s) (fun t => t = s) ∧ Completes (exec (.guardTimeout q) s) (fun t => t = s)) ∧
  (∀ (s : State) (q : Fin 16) (k a v : Nat),
    s.dev.memx.lost = false →
    s.dev.ringMode q = none →
    s.dev.qSt q = 3 →
    (s.dev.dq q).stall ≠ 0 →
    (s.dev.dq q).pend = [(a, v, false)] →
    s.dev.openDesc (descOfWords (s.dev.dq q).desc).tag = some k →
    s.dev.guarded k a = false →
    s.dev.on F.MEM_INJECT_CTRL.arm = false →
    s.dev.memx.bad = [] →
    v < 2 ^ 64 →
    Completes (exec (.guardStallRelease q) s) fun t =>
          t.mem.word (a / 8) = v ∧ t.mem.syn (a / 8) = 0 ∧ (t.dev.dq q).pend = [] ∧ (t.dev.dq q).stall = 0 ∧
          (t.dev.dq q).bytes = (s.dev.dq q).bytes + 8 ∧ s.MemFrame [a / 8] t ∧ s.dev.Frame [Part.dmaq q, Part.reg R.DMA_BYTES.off] t.dev ∧ t.pending = s.pending) ∧
  (∀ (s : State) (q : Fin 16),
    s.dev.ringMode q = none →
    s.dev.qSt q = 3 →
    (s.dev.dq q).stall ≠ 0 →
    s.dev.evt.running = true →
    s.dev.now < 2 ^ 62 ∧ (s.dev.dq q).stall < 2 ^ 62 →
    Completes (exec (.guardTimeout q) s) fun t =>
          t.dev.now = s.dev.timeAt ((s.dev.dq q).stall - 1 + max 1 (s.dev.get F.DMA_CFG.guard_timeout_ms) * 125000) ∧ failed s.dev t.dev q 0x16 ∧
          s.Frame (failParts q ++ timeParts) t)

/-- R161, R162, R168, R173, R175, R176, R177, R183: A fetched descriptor that fails its checks stops the queue with the code of
the first failing stage; one that passes asks for its data. Data words of a plain copy land in user memory in order, eight
bytes each, counted. A descriptor whose data has all landed completes: its status is written back, DONE_COUNT counts,
DMA_QDONE sets where it asks for it, and the queue goes to the next descriptor, or ends. A completion that goes wrong, or
does not come, stops the queue with its code. A region is rewritten only while no live plane is in it and no other used
region overlaps. -/
def Obligations.DmaDescriptors : Prop :=
  (∀ (s : State) (q : Fin 16) (words : List Word64),
    s.dev.ringMode q = none →
    s.dev.qSt q = 3 →
    (s.dev.dq q).fetch = 1 →
    s.dev.descCheck (words.map (·.toNat)) (descOfWords (words.map (·.toNat))) = 0 →
    Completes (exec (.descriptorFetched q words) s) fun t =>
          t.dev.qSt q = 3 ∧ (t.dev.dq q).run = true ∧ (t.dev.dq q).fetch = 0 ∧ (t.dev.dq q).desc = (words.take 6).map (·.toNat) ∧
          (t.dev.dq q).pend = [] ∧ (t.dev.dq q).bytes = 0 ∧ s.Frame [Part.out, Part.dmaq q] t) ∧
  (∀ (s : State) (q : Fin 16) (words : List Word64),
    s.dev.ringMode q = none →
    s.dev.qSt q = 3 →
    (s.dev.dq q).fetch = 2 →
    Completes (exec (.descriptorFetched q words) s) fun t =>
          let w := (words.headD 0#64).toNat
          let more := s.dev.get (F.DMA_Qq_STATUS.append_count q) ≠ 0
          (if bit w 0 = false then t.dev.rd (R.DMA_Qq_CURRENT q) = w / 64 * 64 ∧ (if s.dev.dmaHeld = true then t.dev.qSt q = 2 else t.dev.qSt q = 3 ∧ (t.dev.dq q).fetch = 1)
          else t.dev.rd (R.DMA_Qq_CURRENT q) = s.dev.rd (R.DMA_Qq_CURRENT q) ∧ t.dev.get (F.DMA_Qq_STATUS.append_count q) = 0 ∧
            (if ¬more then t.dev.qSt q = 4 else if s.dev.dmaHeld = true then t.dev.qSt q = 2 ∧ (t.dev.dq q).reread = true else t.dev.qSt q = 3 ∧ (t.dev.dq q).fetch = 2)) ∧
          s.Frame ([Part.out] ++ queueParts q) t) ∧
  (∀ (s : State) (q : Fin 16) (c : ReadCompletion),
    s.dev.ringMode q = none →
    s.dev.qSt q = 3 →
    (s.dev.dq q).fetch = 0 →
    (s.dev.dq q).run = true →
    s.dev.srcDone q (descOfWords (s.dev.dq q).desc) = false →
    (descOfWords (s.dev.dq q).desc).op = 0 ∨ (s.dev.openDesc (descOfWords (s.dev.dq q).desc).tag).isSome = true →
    c.status = .ok →
    s.dev.memx.lost = false →
    Completes (exec (.dmaReadCompletion q c) s) fun t =>
          let x := descOfWords (s.dev.dq q).desc
          t.dev.qSt q = 3 ∧ (t.dev.dq q).run = true ∧ (t.dev.dq q).desc = (s.dev.dq q).desc ∧
          (x.op < 2 → (t.dev.dq q).got = min (s.dev.srcWords x) ((s.dev.dq q).got + c.data.length)) ∧
          ((t.dev.dq q).stall = 0 ↔ (t.dev.dq q).pend = []) ∧ (x.op = 0 → (t.dev.dq q).pend = []) ∧ t.pending = s.pending) ∧
  (∀ (s : State) (q : Fin 16),
    s.dev.ringMode q = none →
    s.dev.qSt q = 3 →
    (s.dev.dq q).run = true →
    s.dev.srcDone q (descOfWords (s.dev.dq q).desc) = true →
    (s.dev.dq q).pend = [] →
    Completes (exec (.descriptorComplete q) s) fun t =>
          let x := descOfWords (s.dev.dq q).desc
          let res := t.dev.get (F.DMA_Qq_STATUS.result q)
          let more := s.dev.get (F.DMA_Qq_STATUS.append_count q) ≠ 0
          (res = 0 ∨ res = 2) ∧ (x.creditChans = [] → res = 0) ∧ t.dev.rd (R.DMA_Qq_DONE_COUNT q) = (s.dev.rd (R.DMA_Qq_DONE_COUNT q) + 1) % 2 ^ 32 ∧
          (x.irq = true → t.dev.getBit F.DMA_QDONE.done q = true) ∧
          (x.wb = true → t.dev.out.any (fun o => o = .hostWrite (s.dev.rd (R.DMA_Qq_CURRENT q) + 0x38) [res * 2 ^ 56 + (s.dev.dq q).bytes % 2 ^ 32]) = true) ∧
          t.dev.qSt q = (if x.eoc = true ∧ ¬more then 4 else if s.dev.dmaHeld = true then 2 else 3) ∧ t.mem = s.mem ∧ t.pending = s.pending) ∧
  (∀ (s : State) (q : Fin 16) (words : List Word64),
    s.dev.ringMode q = none →
    s.dev.qSt q = 3 →
    (s.dev.dq q).fetch = 1 →
    s.dev.descCheck (words.map (·.toNat)) (descOfWords (words.map (·.toNat))) ≠ 0 →
    Completes (exec (.descriptorFetched q words) s) fun t =>
          failed s.dev t.dev q (s.dev.descCheck (words.map (·.toNat)) (descOfWords (words.map (·.toNat)))) ∧
          (t.dev.get (F.DMA_Qq_STATUS.result q) = 0x14 ∨ t.dev.get (F.DMA_Qq_STATUS.result q) = 0x18) ∧
          s.Frame (failParts q) t) ∧
  (∀ (s : State) (q : Fin 16) (a src len dst : Nat),
    s.dev.ringMode q = none →
    s.dev.qSt q = 3 →
    (s.dev.dq q).fetch = 1 →
    0 < len ∧ 8 * len + 8 * dst ≤ 2 ^ 30 ∧ 8 * src < 2 ^ 64 ∧ 64 * a < 2 ^ 63 →
    Completes (exec (.descriptorFetched q [BitVec.ofNat 64 (64 * a), BitVec.ofNat 64 (8 * src), BitVec.ofNat 64 (8 * len), 0#64, BitVec.ofNat 64 (8 * dst), 0#64]) s) fun t =>
          t.dev.qSt q = 3 ∧ (t.dev.dq q).run = true ∧ (t.dev.dq q).fetch = 0 ∧ t.dev.out = .hostRead (8 * src) (8 * len) :: s.dev.out ∧ s.Frame [Part.out, Part.dmaq q] t) ∧
  (∀ (s : State) (q : Fin 16) (words : List Word64),
    s.dev.qSt q ≠ 3 ∨ (s.dev.dq q).fetch = 0 →
    Completes (exec (.descriptorFetched q words) s) fun t => t = s) ∧
  (∀ (s : State) (q : Fin 16) (x y : Word64) (got : Nat),
    s.dev.ringMode q = none →
    s.dev.qSt q = 3 →
    (s.dev.dq q).fetch = 0 →
    (s.dev.dq q).run = true →
    (s.dev.dq q).pend = [] →
    (s.dev.dq q).got = got →
    (descOfWords (s.dev.dq q).desc).op = 0 →
    8 * (got + 2) ≤ (descOfWords (s.dev.dq q).desc).len →
    (descOfWords (s.dev.dq q).desc).dst % 8 = 0 →
    s.dev.memx.lost = false →
    s.dev.memx.bad = [] →
    s.dev.on F.MEM_INJECT_CTRL.arm = false →
    Completes (exec (.dmaReadCompletion q ⟨.ok, [x, y]⟩) s) fun t =>
          let a := (descOfWords (s.dev.dq q).desc).dst + 8 * got
          t.mem.word (a / 8) = x.toNat ∧ t.mem.word (a / 8 + 1) = y.toNat ∧ t.mem.syn (a / 8) = 0 ∧ t.mem.syn (a / 8 + 1) = 0 ∧
          (t.dev.dq q).got = got + 2 ∧ (t.dev.dq q).bytes = (s.dev.dq q).bytes + 16 ∧ (t.dev.dq q).pend = [] ∧
          t.dev.get F.DMA_BYTES.bytes = (s.dev.get F.DMA_BYTES.bytes + 16) % 2 ^ 64 ∧
          s.MemFrame [a / 8, a / 8 + 1] t ∧ s.dev.Frame [Part.dmaq q, Part.reg R.DMA_BYTES.off] t.dev ∧ t.pending = s.pending) ∧
  (∀ (s : State) (q : Fin 16) (c : ReadCompletion),
    s.dev.ringMode q = none →
    s.dev.qSt q = 3 →
    (s.dev.dq q).fetch = 0 →
    (s.dev.dq q).run = true →
    s.dev.srcDone q (descOfWords (s.dev.dq q).desc) = false →
    c.status ≠ .ok →
    Completes (exec (.dmaReadCompletion q c) s) fun t =>
          failed s.dev t.dev q (if c.status = .poisoned then 0x13 else if c.status = .mismatch then 0x17 else 0x12) ∧
          ((descOfWords (s.dev.dq q).desc).wb = true → t.dev.out.any (fun o => o = .hostWrite (s.dev.rd (R.DMA_Qq_CURRENT q) + 0x38)
            [t.dev.get (F.DMA_Qq_STATUS.result q) * 2 ^ 56 + (s.dev.dq q).bytes % 2 ^ 32]) = true) ∧
          s.Frame (failParts q ++ [Part.memx]) t) ∧
  (∀ (s : State) (q : Fin 16),
    s.dev.ringMode q = none →
    s.dev.qSt q = 3 →
    (s.dev.dq q).run = true →
    s.dev.srcDone q (descOfWords (s.dev.dq q).desc) = true →
    (s.dev.dq q).pend = [] →
    (descOfWords (s.dev.dq q).desc).op = 0 →
    (descOfWords (s.dev.dq q).desc).eoc = true →
    s.dev.dmaHeld = false →
    Completes (exec (.descriptorComplete q) s) fun t =>
          t.dev.get (F.DMA_Qq_STATUS.result q) = 0 ∧ t.dev.rd (R.DMA_Qq_DONE_COUNT q) = (s.dev.rd (R.DMA_Qq_DONE_COUNT q) + 1) % 2 ^ 32 ∧
          ((descOfWords (s.dev.dq q).desc).irq = true → t.dev.getBit F.DMA_QDONE.done q = true) ∧
          ((descOfWords (s.dev.dq q).desc).wb = true → t.dev.out.any (fun o => o = .hostWrite (s.dev.rd (R.DMA_Qq_CURRENT q) + 0x38) [(s.dev.dq q).bytes % 2 ^ 32]) = true) ∧
          t.dev.rd (R.DMA_Qq_CURRENT q) = s.dev.rd (R.DMA_Qq_CURRENT q) ∧ t.dev.get (F.DMA_Qq_STATUS.append_count q) = 0 ∧
          (if s.dev.get (F.DMA_Qq_STATUS.append_count q) = 0 then t.dev.qSt q = 4 else t.dev.qSt q = 3 ∧ (t.dev.dq q).fetch = 2) ∧
          s.Frame ([Part.out, Part.reg R.DMA_QDONE.off] ++ irqParts ++ queueParts q) t) ∧
  (∀ (s : State) (q : Fin 16),
    s.dev.ringMode q = none →
    s.dev.qSt q = 3 →
    (s.dev.dq q).run = true →
    s.dev.srcDone q (descOfWords (s.dev.dq q).desc) = true →
    (s.dev.dq q).pend = [] →
    (descOfWords (s.dev.dq q).desc).op = 0 →
    (descOfWords (s.dev.dq q).desc).eoc = false →
    s.dev.dmaHeld = false →
    (s.dev.dq q).desc.getD 0 0 < 2 ^ 64 →
    Completes (exec (.descriptorComplete q) s) fun t =>
          t.dev.rd (R.DMA_Qq_CURRENT q) = (descOfWords (s.dev.dq q).desc).next ∧ t.dev.qSt q = 3 ∧ (t.dev.dq q).fetch = 1 ∧
          t.dev.out.head? = some (.hostRead (descOfWords (s.dev.dq q).desc).next 48) ∧ s.Frame ([Part.out, Part.reg R.DMA_QDONE.off] ++ irqParts ++ queueParts q) t) ∧
  (∀ (s : State) (q : Fin 16),
    (s.dev.dq q).run = false ∨ s.dev.srcDone q (descOfWords (s.dev.dq q).desc) = false ∨ (s.dev.dq q).pend ≠ [] ∨ s.dev.qSt q ≠ 3 →
    Completes (exec (.descriptorComplete q) s) fun t => t = s) ∧
  (∀ (s : State) (q : Fin 16),
    s.dev.ringMode q = none →
    s.dev.qSt q = 3 →
    (s.dev.dq q).fetch ≠ 0 ∨ ((s.dev.dq q).run = true ∧ s.dev.srcDone q (descOfWords (s.dev.dq q).desc) = false) →
    Completes (exec (.completionTimeout q) s) fun t =>
          t.dev.on F.SYS_CFG_HOST_ERR.cpl_timeout = true ∧ failed s.dev t.dev q (if (s.dev.dq q).fetch ≠ 0 then 0x11 else 0x12) ∧
          s.Frame (failParts q ++ [Part.reg R.SYS_CFG_HOST_ERR.off]) t) ∧
  (∀ (s : State) (r : Fin 16) (hi : Bool) (v : Word32),
    s.dev.direct (0x40080 + 8 * r + (if hi then 4 else 0)) →
    Completes (exec (.dmaRegionWrite (0x40080 + 8 * r + (if hi then 4 else 0)) v) s) fun t =>
          let b := if hi then s.dev.rd (R.DMA_REGr_BASE r) else v.toNat / 4096 * 4096
          let z := if hi then v.toNat / 4096 * 4096 else s.dev.rd (R.DMA_REGr_SIZE r)
          let inside := fun (a : Nat) => s.dev.rd (R.DMA_REGr_BASE r) ≤ a ∧ a < s.dev.rd (R.DMA_REGr_BASE r) + s.dev.rd (R.DMA_REGr_SIZE r)
          let live := ∃ k ∈ List.range 32, s.dev.shtState k ≠ 0 ∧ ∃ n ∈ s.dev.sheetChans k, inside (s.dev.rd (R.SHT_Dd_BASEn k n)) ∨
            (((s.dev.chan n).map Chan.tagPlane).getD 0 = 1 ∧ inside (s.dev.rd (R.SHT_Dd_TAGBASEn k n)))
          if live ∨ (z ≠ 0 ∧ ∃ p ∈ List.range 16, p ≠ r.val ∧ s.dev.rd (R.DMA_REGr_SIZE p) ≠ 0 ∧
              b < s.dev.rd (R.DMA_REGr_BASE p) + s.dev.rd (R.DMA_REGr_SIZE p) ∧ s.dev.rd (R.DMA_REGr_BASE p) < b + z) then
            bit (t.dev.rd R.SYS_CFG_HOST_ERR) 2 = true ∧ s.Frame hostErrParts t
          else t.dev.rd (R.DMA_REGr_BASE r) = b ∧ t.dev.rd (R.DMA_REGr_SIZE r) = z ∧
            s.Frame [Part.reg (R.DMA_REGr_BASE r).off, Part.reg (R.DMA_REGr_SIZE r).off] t)

/-- R320, R321, R322, R323, R324, R325, R327, R329, R332: At a boundary of 1 ms every sensor that is due is queued, lowest
first, and converted one after another in 10 us each. A valid code publishes the temperature, keeps the maximum, and moves
the sensor across its warn, throttle and shut-down levels with hysteresis, counting and flagging each level reached; three
codes out of range in a row make the sensor FAULTED, with a record, and three in range in a row lift it. clear_max takes the
present temperatures as maxima. -/
def Obligations.Temperatures : Prop :=
  (∀ (s : State) (x : Nat) (rest : List Nat) (code : BitVec 14) (onDie : Int),
    s.dev.tmp.conv = x :: rest →
    x < 24 →
    s.dev.evt.running = true →
    s.dev.now < 2 ^ 62 ∧ s.dev.tmp.start < 2 ^ 62 →
    Completes (exec (.conversionEnd code onDie) s) fun t =>
          let temp := if x < 8 then clampI (-32767) 32767 onDie else lutTemp (s.dev.tmp.snap.drop 3) code.toNat
          let good := 16 < code.toNat ∧ code.toNat < 16367
          t.dev.now = s.dev.timeAt (s.dev.tmp.start + 1250) ∧ t.dev.tmp.conv = rest ∧
          t.dev.get (F.TMP_Ss_STATE.code x) = (if takesPart s.dev x then code.toNat else s.dev.get (F.TMP_Ss_STATE.code x)) ∧
          (takesPart s.dev x → s.dev.faulted x = false → good → t.dev.get (F.TMP_Ss_VALUE.temp x) = enc 16 temp ∧
            sext 16 (t.dev.get (F.TMP_Ss_VALUE.max x)) = max (sext 16 (s.dev.get (F.TMP_Ss_VALUE.max x))) temp) ∧
          (¬good → t.dev.rd (R.TMP_Ss_VALUE x) = s.dev.rd (R.TMP_Ss_VALUE x)) ∧ t.mem = s.mem ∧ t.pending = s.pending) ∧
  (∀ (s : State),
    s.dev.domOn 0 = true →
    s.dev.evt.running = true →
    s.dev.tmp.conv = [] →
    s.dev.now < 2 ^ 62 ∧ s.dev.tmp.bound < 2 ^ 40 →
    Completes (exec .conversionBoundary s) fun t =>
          let ms := max (s.dev.multiple 125000 0) s.dev.tmp.bound
          (s.dev.timeSource = 0 → ms = max ((s.dev.now + 124999) / 125000) s.dev.tmp.bound) ∧
          t.dev.now = s.dev.timeAt (ms * 125000) ∧ t.dev.tmp.bound = ms + 1 ∧
          t.dev.tmp.conv = (List.range 24).filter (fun x => s.dev.sensorOn x && (s.dev.fastNow x || decide (Store.get 0 s.dev.tmp.dueMs x ≤ ms))) ∧
          s.Frame ([Part.tmp] ++ timeParts) t) ∧
  (∀ (s : State),
    s.dev.evt.running = false ∨ s.dev.domOn 0 = false ∨ s.dev.tmp.conv ≠ [] →
    Completes (exec .conversionBoundary s) fun t => t = s) ∧
  (∀ (s : State) (x : Nat) (rest : List Nat) (code : BitVec 14) (onDie : Int),
    s.dev.tmp.conv = x :: rest →
    x < 24 →
    s.dev.evt.running = true →
    s.dev.now < 2 ^ 62 ∧ s.dev.tmp.start < 2 ^ 62 →
    takesPart s.dev x →
    s.dev.faulted x = false →
    s.dev.cfg.sens = [] →
    bit (s.dev.tmp.snap.getD 0 0) 30 = false →
    s.dev.on F.TMP_STATUS.cut_latched = false →
    (∀ (k : Nat), k < 24 → s.dev.get (F.TMP_Ss_CFG.throttle_chan k) = 0) →
    (∀ (n : Nat), n < 8 → (Store.get {} s.dev.ch n).dark = false) →
    16 < code.toNat ∧ code.toNat < 16367 →
    Completes (exec (.conversionEnd code onDie) s) fun t =>
          let temp := if x < 8 then clampI (-32767) 32767 onDie else lutTemp (s.dev.tmp.snap.drop 3) code.toNat
          let hyst : Nat := s.dev.tmp.snap.getD 0 0 % 256
          let warn := sext 16 (s.dev.tmp.snap.getD 1 0)
          let thr := sext 16 (s.dev.tmp.snap.getD 1 0 / 65536)
          let shut := sext 16 (s.dev.tmp.snap.getD 2 0)
          let isOver : Fld → Int → Bool := fun f l => if bit (s.dev.get f) x then decide (l - (hyst : Int) ≤ temp) else decide (l ≤ temp)
          let rise : Fld → Int → Bool := fun f l => isOver f l && !bit (s.dev.get f) x
          t.dev.now = s.dev.timeAt (s.dev.tmp.start + 1250) ∧ t.dev.tmp.conv = rest ∧ t.dev.tmp.start = (if rest = [] then s.dev.tmp.start else s.dev.tmp.start + 1250) ∧
          t.dev.get (F.TMP_Ss_STATE.code x) = code.toNat ∧ t.dev.get (F.TMP_Ss_VALUE.temp x) = enc 16 temp ∧
          sext 16 (t.dev.get (F.TMP_Ss_VALUE.max x)) = max (sext 16 (s.dev.get (F.TMP_Ss_VALUE.max x))) temp ∧
          bit (t.dev.get F.TMP_WARN.sensors) x = isOver F.TMP_WARN.sensors warn ∧ bit (t.dev.get F.TMP_THROTTLE.sensors) x = isOver F.TMP_THROTTLE.sensors thr ∧
          bit (t.dev.get F.TMP_SHUTDOWN.sensors) x = isOver F.TMP_SHUTDOWN.sensors shut ∧ bit (t.dev.get F.TMP_FAULTED.sensors) x = false ∧
          t.dev.get (F.TMP_Ss_COUNTS.warnings x) = min (s.dev.get (F.TMP_Ss_COUNTS.warnings x) + b2n (rise F.TMP_WARN.sensors warn)) 255 ∧
          t.dev.get (F.TMP_Ss_COUNTS.throttles x) = min (s.dev.get (F.TMP_Ss_COUNTS.throttles x) + b2n (rise F.TMP_THROTTLE.sensors thr)) 255 ∧
          t.dev.get (F.TMP_Ss_COUNTS.shutdowns x) = min (s.dev.get (F.TMP_Ss_COUNTS.shutdowns x) + b2n (rise F.TMP_SHUTDOWN.sensors shut)) 255 ∧
          t.dev.flt.strobes = s.dev.flt.strobes ++ (if rise F.TMP_SHUTDOWN.sensors shut then
            [tmpStrobe (0x60 * 2 ^ 24 + x * 2 ^ 16 + enc 16 temp) (enc 16 shut * 65536) t.dev.now] else []) ∧
          t.dev.on (F.FLT_SRCi_STATE.active 30) = decide (t.dev.get F.TMP_SHUTDOWN.sensors ≠ 0 ∨ t.dev.get F.TMP_FAULTED.sensors ≠ 0 ∨ t.dev.get F.TMP_PAIR_BAD.pairs ≠ 0) ∧
          t.dev.on F.TMP_STATUS.throttled = decide (t.dev.get F.TMP_THROTTLE.sensors ≠ 0 ∨ t.dev.get F.TMP_FAULTED.sensors ≠ 0) ∧
          t.dev.get (F.TMP_Ss_STATE.state x) = t.dev.sensorState x ∧ s.Frame (convParts x) t) ∧
  (∀ (s : State) (x : Nat) (rest : List Nat) (code : BitVec 14) (onDie : Int),
    s.dev.tmp.conv = x :: rest →
    x < 24 →
    s.dev.evt.running = true →
    s.dev.now < 2 ^ 62 ∧ s.dev.tmp.start < 2 ^ 62 →
    takesPart s.dev x →
    s.dev.faulted x = false →
    s.dev.cfg.sens = [] →
    bit (s.dev.tmp.snap.getD 0 0) 30 = false →
    s.dev.on F.TMP_STATUS.cut_latched = false →
    (∀ (k : Nat), k < 24 → s.dev.get (F.TMP_Ss_CFG.throttle_chan k) = 0) →
    (∀ (n : Nat), n < 8 → (Store.get {} s.dev.ch n).dark = false) →
    code.toNat ≤ 16 ∨ 16367 ≤ code.toNat →
    Completes (exec (.conversionEnd code onDie) s) fun t =>
          let third := decide (Store.get 0 s.dev.tmp.badN x = 2)
          t.dev.now = s.dev.timeAt (s.dev.tmp.start + 1250) ∧ t.dev.tmp.conv = rest ∧ t.dev.get (F.TMP_Ss_STATE.code x) = code.toNat ∧
          Store.get 0 t.dev.tmp.badN x = Store.get 0 s.dev.tmp.badN x + 1 ∧
          t.dev.rd (R.TMP_Ss_VALUE x) = s.dev.rd (R.TMP_Ss_VALUE x) ∧ bit (t.dev.get F.TMP_FAULTED.sensors) x = third ∧
          t.dev.get (F.TMP_Ss_COUNTS.faults x) = min (s.dev.get (F.TMP_Ss_COUNTS.faults x) + b2n third) 255 ∧
          (third = true → bit (t.dev.rd R.TMP_IRQ_STATUS) 4 = true ∧ t.dev.get (F.TMP_Ss_STATE.state x) = 5) ∧
          t.dev.flt.strobes = s.dev.flt.strobes ++ (if third then
            [tmpStrobe (0x61 * 2 ^ 24 + x * 2 ^ 16 + code.toNat) (b2n (bit (s.dev.tmp.snap.getD 0 0) 29)) t.dev.now] else []) ∧
          s.Frame (convParts x) t) ∧
  (∀ (s : State) (x : Nat) (rest : List Nat) (code : BitVec 14) (onDie : Int),
    s.dev.tmp.conv = x :: rest →
    x < 24 →
    s.dev.evt.running = true →
    s.dev.now < 2 ^ 62 ∧ s.dev.tmp.start < 2 ^ 62 →
    takesPart s.dev x →
    s.dev.faulted x = true →
    s.dev.cfg.sens = [] →
    bit (s.dev.tmp.snap.getD 0 0) 30 = false →
    s.dev.on F.TMP_STATUS.cut_latched = false →
    (∀ (k : Nat), k < 24 → s.dev.get (F.TMP_Ss_CFG.throttle_chan k) = 0) →
    (∀ (n : Nat), n < 8 → (Store.get {} s.dev.ch n).dark = false) →
    16 < code.toNat ∧ code.toNat < 16367 →
    Completes (exec (.conversionEnd code onDie) s) fun t =>
          Store.get 0 t.dev.tmp.badN x = 0 ∧ Store.get 0 t.dev.tmp.goodN x = Store.get 0 s.dev.tmp.goodN x + 1 ∧
          bit (t.dev.get F.TMP_FAULTED.sensors) x = decide (Store.get 0 s.dev.tmp.goodN x < 2) ∧
          (Store.get 0 s.dev.tmp.goodN x < 2 → t.dev.rd (R.TMP_Ss_VALUE x) = s.dev.rd (R.TMP_Ss_VALUE x)) ∧ s.Frame (convParts x) t) ∧
  (∀ (s : State) (code : BitVec 14) (onDie : Int),
    s.dev.tmp.conv = [] →
    Completes (exec (.conversionEnd code onDie) s) fun t => t = s) ∧
  (∀ (s : State),
    s.dev.direct R.TMP_CMD.off →
    Completes (exec .clearMax s) fun t =>
          (∀ (x : Nat), x < 24 → t.dev.get (F.TMP_Ss_VALUE.max x) = s.dev.get (F.TMP_Ss_VALUE.temp x) ∧
            t.dev.get (F.TMP_Ss_VALUE.temp x) = s.dev.get (F.TMP_Ss_VALUE.temp x)) ∧
          s.Frame ((List.range 24).map fun x => Part.reg (R.TMP_Ss_VALUE x).off) t)

/-- R160, R164, R165, R166, R168, R169, R170, R171, R172: A word that decodes clean changes nothing; one with a single wrong bit
is corrected, counted and noted as the last corrected error; any other is uncorrectable, counted, noted and recorded under
bit 19. The scrubber reads the next word, writes a corrected one back with a clean check byte, and goes on; after the last
word the pass counts. The corrected-error window starts anew at its end; an injection is armed and spends itself on the next
write of its word. -/
def Obligations.MemoryErrors : Prop :=
  (∀ (s : State) (n : Fin 8) (w : Nat),
    s.mem.syn (w % 2 ^ 27) = 0 ∨ s.dev.memx.lost = true →
    Completes (exec (.readPortWord n w) s) fun t => t = s) ∧
  (∀ (s : State) (n : Fin 8) (w : Nat),
    s.dev.memx.lost = false →
    s.mem.syn (w % 2 ^ 27) ∈ hColumns ∨ s.mem.syn (w % 2 ^ 27) ∈ [1, 2, 4, 8, 16, 32, 64, 128] →
    Completes (exec (.readPortWord n w) s) fun t =>
          let c := min (s.dev.get F.MEM_CE_WINDOW.count + 1) (2 ^ 32 - 1)
          t.dev.get F.MEM_CE_WINDOW.count = c ∧
          t.dev.get F.MEM_CE_TOTAL.count = min (s.dev.get F.MEM_CE_TOTAL.count + 1) (2 ^ 32 - 1) ∧
          t.dev.rd R.MEM_ERR_LAST_CE = s.mem.syn (w % 2 ^ 27) * 2 ^ 40 + 1 * 2 ^ 36 + n * 2 ^ 32 + w % 2 ^ 27 ∧
          (if max 1 (s.dev.get F.MEM_CE_CFG.threshold) ≤ c ∧ s.dev.memx.ceRep = false then
            strobed s.dev t.dev 20 c (t.dev.rd R.MEM_ERR_LAST_CE % 2 ^ 32) ∧ t.dev.memx.ceRep = true
          else t.dev.flt.strobes = s.dev.flt.strobes ∧ t.dev.memx = s.dev.memx) ∧
          s.Frame ([Part.memx, Part.reg R.MEM_CE_WINDOW.off, Part.reg R.MEM_CE_TOTAL.off, Part.reg R.MEM_ERR_LAST_CE.off] ++ strobeParts 20) t) ∧
  (∀ (s : State) (n : Fin 8) (w : Nat) (syn : Byte),
    s.dev.memx.lost = false →
    s.mem.syn (w % 2 ^ 27) = syn.toNat →
    syn.toNat ∉ [0, 1, 2, 4, 8, 16, 32, 64, 128] →
    syn.toNat ∉ hColumns →
    Completes (exec (.readPortWord n w) s) fun t =>
          t.dev.get F.MEM_UE_TOTAL.count = min (s.dev.get F.MEM_UE_TOTAL.count + 1) (2 ^ 32 - 1) ∧
          t.dev.rd R.MEM_ERR_LAST_UE = syn.toNat * 2 ^ 40 + 1 * 2 ^ 36 + n * 2 ^ 32 + w % 2 ^ 27 ∧
          strobed s.dev t.dev 19 (2 ^ 28 + w % 2 ^ 27) (n * 2 ^ 8 + syn.toNat) ∧
          s.Frame ([Part.reg R.MEM_UE_TOTAL.off, Part.reg R.MEM_ERR_LAST_UE.off] ++ strobeParts 19) t) ∧
  (∀ (s : State),
    s.dev.on F.MEM_SCRUB_CFG.enable = true →
    s.dev.domOn 1 = true →
    s.dev.memx.lost = false →
    s.mem.syn s.dev.memx.scrub = 0 →
    Completes (exec .scrubWord s) fun t =>
          (if s.dev.memx.scrub + 1 = 2 ^ 27 then
            t.dev.memx.scrub = 0 ∧ t.dev.get F.MEM_SCRUB_STATUS.progress = 0 ∧
              t.dev.get F.MEM_SCRUB_STATUS.passes = min (s.dev.get F.MEM_SCRUB_STATUS.passes + 1) (2 ^ 16 - 1) ∧ t.dev.get F.MEM_STATUS.scrubbed = 1
          else t.dev.memx.scrub = s.dev.memx.scrub + 1 ∧ t.dev.get F.MEM_SCRUB_STATUS.progress = (s.dev.memx.scrub + 1) / 2048 % 2 ^ 16 ∧
              t.dev.get F.MEM_SCRUB_STATUS.passes = s.dev.get F.MEM_SCRUB_STATUS.passes ∧ t.dev.rd R.MEM_STATUS = s.dev.rd R.MEM_STATUS) ∧
          s.Frame [Part.memx, Part.reg R.MEM_SCRUB_STATUS.off, Part.reg R.MEM_STATUS.off] t) ∧
  (∀ (s : State) (j : Nat),
    s.dev.on F.MEM_SCRUB_CFG.enable = true →
    s.dev.domOn 1 = true →
    s.dev.memx.lost = false →
    s.dev.on F.MEM_INJECT_CTRL.arm = false →
    s.dev.memx.bad = [] →
    j < 64 →
    s.mem.syn s.dev.memx.scrub = hColumns.getD j 0 →
    s.dev.memx.scrub + 1 < 2 ^ 27 →
    Completes (exec .scrubWord s) fun t =>
          t.mem.word s.dev.memx.scrub = s.mem.word s.dev.memx.scrub ^^^ 2 ^ j ∧ t.mem.syn s.dev.memx.scrub = 0 ∧
          t.dev.get F.MEM_CE_TOTAL.count = min (s.dev.get F.MEM_CE_TOTAL.count + 1) (2 ^ 32 - 1) ∧
          t.dev.get F.MEM_ERR_LAST_CE.reader = 2 ∧ t.dev.memx.scrub = s.dev.memx.scrub + 1 ∧
          s.MemFrame [s.dev.memx.scrub] t ∧ t.pending = s.pending ∧
          s.dev.Frame ([Part.memx, Part.reg R.MEM_SCRUB_STATUS.off, Part.reg R.MEM_CE_WINDOW.off, Part.reg R.MEM_CE_TOTAL.off, Part.reg R.MEM_ERR_LAST_CE.off] ++ strobeParts 20) t.dev) ∧
  (∀ (s : State),
    s.dev.on F.MEM_SCRUB_CFG.enable = false ∨ s.dev.domOn 1 = false ∨ s.dev.memx.lost = true →
    Completes (exec .scrubWord s) fun t => t = s) ∧
  (∀ (s : State),
    Completes (exec .ceWindowRestart s) fun t =>
          t.dev.sys.now8 = max s.dev.sys.now8 (s.dev.memx.winStart + max 1 (s.dev.get F.MEM_CE_CFG.window_s) * 125000000) ∧
          t.dev.memx.winStart = t.dev.sys.now8 ∧ t.dev.memx.ceRep = false ∧ t.dev.rd R.MEM_CE_WINDOW = 0 ∧
          s.Frame ([Part.memx, Part.reg R.MEM_CE_WINDOW.off] ++ timeParts) t) ∧
  (∀ (s : State),
    reached s.dev R.MEM_INJECT_CTRL.off →
    Completes (exec .injectArm s) fun t => t.dev.get F.MEM_INJECT_CTRL.arm = 1 ∧ s.Frame [Part.reg R.MEM_INJECT_CTRL.off] t)

/-- R197, R199, R200, R203, R206, R207: Scrubbing a table word writes a corrected word back, counted; an uncorrectable one is
counted, flagged, marked and reported once. The digest is the CRC-32C of the group and tables as stored, shown with its flag
when it is due. The probe is busy from its start until it shows the code, tone, base and slope that the reference
computation gives for the pixel it was given. A request of a channel in use is taken from the screening queue with its code
words stored. -/
def Obligations.Screening : Prop :=
  (∀ (s : State) (n : Fin 8) (k sc lo hi : Nat) (rest : List (Nat × Nat × Nat)) (bad : List (Nat × Nat)),
    (s.dev.chS n).screenQ = (sc, lo, hi) :: rest →
    (s.dev.chS n).desc = some k →
    (s.dev.chan n).isSome = true →
    Completes (exec (.screenScan n bad) s) fun t =>
          let hits := (bad.filter fun p => lo ≤ p.1 && p.1 ≤ hi && p.2 < (s.dev.pixelsOf n + 15) / 16).length
          (t.dev.chS n).screenQ = rest ∧ t.dev.get (F.CHn_SCR_MISMATCH_COUNT.count n) = min (s.dev.get (F.CHn_SCR_MISMATCH_COUNT.count n) + hits) (2 ^ 32 - 1) ∧
          (hits ≠ 0 → bit (t.dev.rd (R.CHn_SCR_IRQ_STATUS n)) 3 = true) ∧
          Store.get 0 s.dev.sht.freed (8 * k + n) ≤ Store.get 0 t.dev.sht.freed (8 * k + n) ∧ t.mem = s.mem ∧ t.pending = s.pending) ∧
  (∀ (s : State) (n : Fin 8) (m : Bool),
    s.dev.on (F.CHn_SCR_STATUS.probe_busy n) = true →
    s.dev.chanB n ≠ 0 →
    Completes (exec (.probeDone n m) s) fun t =>
          t.dev.rd (R.CHn_SCR_PROBE_OUT n) = (if m = true then 0 else s.dev.screenPs n (s.dev.get (F.CHn_SCR_PROBE_IN.value n)) (s.dev.chanB n)) * 2 ^ 28 % 2 ^ 32 ∧
          t.dev.on (F.CHn_SCR_STATUS.probe_busy n) = false ∧ s.Frame [Part.reg (R.CHn_SCR_PROBE_OUT n).off, Part.reg (R.CHn_SCR_STATUS n).off] t) ∧
  (∀ (s : State) (n : Fin 8) (w : Nat),
    s.dev.domOn (4 + n) = true →
    (decodeWord (s.dev.tw (tableWordOff n w)) (Store.get 0#8 s.dev.tblChk (tableWordOff n w)).toNat).2 = .corrected →
    Completes (exec (.tableScrub n w) s) fun t =>
          t.dev.tw (tableWordOff n w) = (decodeWord (s.dev.tw (tableWordOff n w)) (Store.get 0#8 s.dev.tblChk (tableWordOff n w)).toNat).1 ∧
          Store.get 0#8 t.dev.tblChk (tableWordOff n w) = 0#8 ∧
          t.dev.get (F.CHn_SCR_CE_COUNT.count n) = min (s.dev.get (F.CHn_SCR_CE_COUNT.count n) + 1) (2 ^ 32 - 1) ∧
          s.Frame [Part.tbl (tableWordOff n w), Part.tblChk (tableWordOff n w), Part.tblMark, Part.reg (R.CHn_SCR_CE_COUNT n).off] t) ∧
  (∀ (s : State) (n : Fin 8) (w : Nat),
    s.dev.domOn (4 + n) = true →
    (if (decodeWord (s.dev.tw (tableWordOff n w)) (Store.get 0#8 s.dev.tblChk (tableWordOff n w)).toNat).2 = .uncorrectable ∧ tableWordOff n w ∉ s.dev.tblMark then
          Completes (exec (.tableScrub n w) s) fun t =>
            t.dev.get (F.CHn_SCR_UE_COUNT.count n) = min (s.dev.get (F.CHn_SCR_UE_COUNT.count n) + 1) (2 ^ 32 - 1) ∧ bit (t.dev.rd (R.CHn_SCR_IRQ_STATUS n)) 2 = true ∧
              t.dev.tblMark = s.dev.tblMark ++ [tableWordOff n w] ∧ strobed s.dev t.dev 35 (tableWordOff n w) (Store.get 0#8 s.dev.tblChk (tableWordOff n w)).toNat ∧
              s.Frame ([Part.tblMark, Part.reg (R.CHn_SCR_UE_COUNT n).off] ++ chBit (R.CHn_SCR_IRQ_STATUS n) ++ strobeParts 35) t
        else if (decodeWord (s.dev.tw (tableWordOff n w)) (Store.get 0#8 s.dev.tblChk (tableWordOff n w)).toNat).2 = .corrected then True
        else Completes (exec (.tableScrub n w) s) fun t => t = s)) ∧
  (∀ (s : State) (n : Fin 8),
    (s.dev.chS n).digestDue = true →
    Completes (exec (.digestDone n) s) fun t =>
          t.dev.rd (R.CHn_SCR_DIGEST n) = crc32c (s.dev.digestBytes n) % 2 ^ 32 ∧ t.dev.get (F.CHn_SCR_STATUS.digest_valid n) = 1 ∧
          bit (t.dev.rd (R.CHn_SCR_IRQ_STATUS n)) 1 = true ∧ (t.dev.chS n).digestDue = false ∧
          t.dev.on (F.CHn_SCR_STATUS.locked n) = ((s.dev.chS n).desc.isSome && !(s.dev.chS n).dropped) ∧
          s.Frame ([Part.ch n, Part.reg (R.CHn_SCR_DIGEST n).off, Part.reg (R.CHn_SCR_STATUS n).off] ++ chBit (R.CHn_SCR_IRQ_STATUS n)) t) ∧
  (∀ (s : State) (n : Fin 8) (m : Bool),
    ((s.dev.chS n).digestDue = false → Completes (exec (.digestDone n) s) (fun t => t = s)) ∧
    (s.dev.on (F.CHn_SCR_STATUS.probe_busy n) = false → Completes (exec (.probeDone n m) s) (fun t => t = s))) ∧
  (∀ (s : State) (n : Fin 8) (v : Word64),
    reached s.dev (R.CHn_SCR_PROBE_IN n).off →
    Completes (exec (.probeStart n v) s) fun t =>
          if s.dev.on (F.CHn_SCR_STATUS.probe_busy n) = true then t = s
          else t.dev.get (F.CHn_SCR_PROBE_IN.value n) = bits v.toNat 7 0 ∧ t.dev.get (F.CHn_SCR_PROBE_IN.tag n) = bits v.toNat 9 8 ∧
            t.dev.get (F.CHn_SCR_PROBE_IN.x n) = bits v.toNat 30 16 ∧ t.dev.get (F.CHn_SCR_PROBE_IN.y n) = bits v.toNat 49 32 ∧
            t.dev.on (F.CHn_SCR_STATUS.probe_busy n) = true ∧ s.Frame [Part.reg (R.CHn_SCR_PROBE_IN n).off, Part.reg (R.CHn_SCR_STATUS n).off] t) ∧
  (∀ (s : State) (n : Fin 8) (m : Bool),
    s.dev.on (F.CHn_SCR_STATUS.probe_busy n) = true →
    s.dev.chanB n = 0 →
    Completes (exec (.probeDone n m) s) fun t =>
          let v := s.dev.get (F.CHn_SCR_PROBE_IN.value n)
          let g := s.dev.get (F.CHn_SCR_PROBE_IN.tag n)
          let x := s.dev.get (F.CHn_SCR_PROBE_IN.x n)
          let y := s.dev.get (F.CHn_SCR_PROBE_IN.y n)
          let u := (clampI 0 65280 (((v * s.dev.ga (F.CHn_SCR_TRIMt.gain n g) + 8) / 16 : Nat) + sext 16 (s.dev.ga (F.CHn_SCR_TRIMt.offset n g)))).toNat
          let b := s.dev.ga (F.CHn_SCR_CTRL.tone_bank n)
          let e0 := (s.dev.tblEntry (toneAddr n b g (u / 256))).1 % 4096
          let e1 := (s.dev.tblEntry (toneAddr n b g (u / 256 + 1))).1 % 4096
          let tone := if u % 256 = 0 then e0 else ((e0 : Int) + (((e1 : Int) - e0) * (u % 256 : Nat) + 128) / 256).toNat
          let k := s.dev.tileOf n g
          let yy := y + s.dev.ga (F.CHn_SCR_TILEk_PHASE.phase_y n k)
          let h := s.dev.ga (F.CHn_SCR_TILEk_GEOM.height_m1 n k) + 1
          let xx := (x + s.dev.ga (F.CHn_SCR_TILEk_PHASE.phase_x n k) + yy / h * s.dev.ga (F.CHn_SCR_TILEk_GEOM.shift n k)) % (s.dev.ga (F.CHn_SCR_TILEk_GEOM.width_m1 n k) + 1)
          let e := (s.dev.tblEntry (tileAddr n k (yy % h) xx)).1
          let bad := (s.dev.tblEntry (toneAddr n b g (u / 256))).2 || (u % 256 ≠ 0 && (s.dev.tblEntry (toneAddr n b g (u / 256 + 1))).2) || (s.dev.tblEntry (tileAddr n k (yy % h) xx)).2
          let code := if m = true ∨ bad = true ∨ tone ≤ 16 * (e / 256) then 0 else min (((tone - 16 * (e / 256)) * (e % 256) + 128) / 256) 15
          t.dev.get (F.CHn_SCR_PROBE_OUT.tone n) = tone % 4096 ∧ t.dev.get (F.CHn_SCR_PROBE_OUT.base n) = e / 256 ∧ t.dev.get (F.CHn_SCR_PROBE_OUT.slope n) = e % 256 ∧
          t.dev.get (F.CHn_SCR_PROBE_OUT.code n) = code ∧ t.dev.on (F.CHn_SCR_STATUS.probe_busy n) = false ∧ s.Frame [Part.reg (R.CHn_SCR_PROBE_OUT n).off, Part.reg (R.CHn_SCR_STATUS n).off] t) ∧
  (∀ (s : State) (n : Fin 8) (k sc lo hi : Nat) (rest : List (Nat × Nat × Nat)),
    (s.dev.chS n).screenQ = (sc, lo, hi) :: rest →
    (s.dev.chS n).desc = some k →
    (s.dev.chan n).isSome = true →
    s.dev.faultyWords n = [] →
    lo ≤ hi →
    Completes (exec (.screenScan n []) s) fun t =>
          (t.dev.chS n).screenQ = rest ∧ ((Store.get [] (t.dev.chS n).codes lo).length = (s.dev.pixelsOf n + 15) / 16) ∧
          (∀ (y : Nat), y < 12 → y < lo ∨ hi < y → Store.get [] (t.dev.chS n).codes y = Store.get [] (s.dev.chS n).codes y) ∧
          Store.get 0 s.dev.sht.freed (8 * k + n) ≤ Store.get 0 t.dev.sht.freed (8 * k + n) ∧
          s.Frame [Part.ch n, Part.sht] t) ∧
  (∀ (s : State) (n : Fin 8) (k sc lo j : Nat),
    (s.dev.chS n).screenQ = [(sc, lo, lo)] →
    (s.dev.chS n).desc = some k →
    (s.dev.chan n).isSome = true →
    s.dev.faultyWords n = [] →
    j < (s.dev.pixelsOf n + 15) / 16 →
    Completes (exec (.screenScan n [(lo, j)]) s) fun t =>
          ((Store.get [] (t.dev.chS n).codes lo).getD j (1, 1)).1 = 0 ∧
          t.dev.get (F.CHn_SCR_MISMATCH_COUNT.count n) = min (s.dev.get (F.CHn_SCR_MISMATCH_COUNT.count n) + 1) (2 ^ 32 - 1) ∧ bit (t.dev.rd (R.CHn_SCR_IRQ_STATUS n)) 3 = true ∧
          t.dev.memx.mismatch = s.dev.sys.now8 + 1 ∧ strobed s.dev t.dev n (2 ^ 24 + sc % 2 ^ 24) ((s.dev.chS n).sq.tag * 2 ^ 16 + 16 * j) ∧
          s.Frame ([Part.ch n, Part.sht, Part.memx, Part.reg (R.CHn_SCR_MISMATCH_COUNT n).off] ++ chBit (R.CHn_SCR_IRQ_STATUS n) ++ strobeParts n) t) ∧
  (∀ (s : State) (n : Fin 8),
    (s.dev.chS n).screenQ = [] →
    Completes (exec (.screenScan n []) s) fun t => t = s)

/-- R210, R211, R213, R214, R215, R224: Enabling a channel's scan timing starts judging at the first slot that is not past and
searches; disabling turns it off. Outside IN_PHASE the edge nearest to its slot is kept, any other is extra; in IN_PHASE the
first edge in the window is judged at once: its phase error, the lock count, the last edge and the aligner's phase, each
outside the window is extra, and the fourth edge in a row beyond the unlock tolerance loses the phase. The 64th slot in a
row within tolerance reaches IN_PHASE or the identification. A slot that closes without its edge is missed. A grid register
written in a gap transfers at once and no slot that has begun begins again; outside a gap it waits. A pixel clock step above
half a percent re-locks the synthesizer. A copy of the placement maps that has ended shows no map copied. -/
def Obligations.ScanTiming : Prop :=
  (∀ (s : State) (n : Fin 8) (t64 : Nat) (rising : Bool),
    s.dev.bdSelected n rising = true →
    s.dev.domOn (4 + n) = true →
    s.dev.evt.running = true →
    s.dev.now < 2 ^ 62 ∧ t64 < 2 ^ 62 →
    Completes (exec (.bdEdge n t64 rising) s) fun t =>
          t.dev.now = s.dev.timeAt (t64 / 64 + s.dev.get (F.CHn_SCT_CTRL.bd_filter n)) ∧ (t.dev.chS n).wdFrom = t.dev.now ∧ (t.dev.chS n).tripUn = false ∧
          (s.dev.sctRuns n = true → 65536 * s.dev.gridRef n ≤ t64 * 1024 + s.dev.gridP n / 2 → s.dev.bdSlot n t64 = none →
            t.dev.get (F.CHn_SCT_COUNTS.extra n) = min (s.dev.get (F.CHn_SCT_COUNTS.extra n) + 1) (2 ^ 16 - 1)) ∧ t.mem = s.mem ∧ t.pending = s.pending) ∧
  (∀ (s : State) (n : Fin 8),
    s.dev.sctRuns n = true →
    s.dev.now < 2 ^ 62 ∧ s.dev.slotT n (s.dev.chS n).judged < 2 ^ 61 →
    Completes (exec (.bdWindowClose n) s) fun t =>
          let w := if s.dev.sctSt n = 3 then max 1 (s.dev.get (F.CHn_SCT_CTRL.bd_window n)) else s.dev.gridP n / 131072
          t.dev.now = s.dev.timeAt (s.dev.slotT n (s.dev.chS n).judged + w + s.dev.get (F.CHn_SCT_CTRL.bd_filter n)) ∧
          (t.dev.chS n).judged = (s.dev.chS n).judged + 1 ∧ (t.dev.chS n).edge = none ∧ t.mem = s.mem ∧ t.pending = s.pending) ∧
  (∀ (s : State) (n : Fin 8),
    s.dev.direct (R.CHn_SCT_CTRL n).off →
    Completes (exec (.sctEnable n true) s) fun t =>
          t.dev.on (F.CHn_SCT_CTRL.enable n) = true ∧
          (if s.dev.sctSt n = 0 then
            t.dev.sctSt n = 1 ∧ t.dev.get (F.CHn_SCT_STATUS.lock_count n) = 0 ∧ (t.dev.chS n).judged = s.dev.slotFrom n s.dev.now ∧ (t.dev.chS n).edge = none ∧
              (t.dev.chS n).slot = (s.dev.chS n).slot
          else t.dev.sctSt n = s.dev.sctSt n ∧ t.dev.ch = s.dev.ch) ∧ s.Frame [Part.ch n, Part.reg (R.CHn_SCT_CTRL n).off, Part.reg (R.CHn_SCT_STATUS n).off] t) ∧
  (∀ (s : State) (n : Fin 8),
    s.dev.direct (R.CHn_SCT_CTRL n).off →
    Completes (exec (.sctEnable n false) s) fun t =>
          t.dev.on (F.CHn_SCT_CTRL.enable n) = false ∧ t.dev.sctSt n = 0 ∧ (s.dev.sctSt n ≠ 0 → t.dev.get (F.CHn_SCT_STATUS.lock_count n) = 0) ∧
          (∀ c ∈ s.dev.chan n, s.dev.sctSt n ≠ 0 → s.dev.on (F.BLD_AXa_STATUS.slewing c.polygonAxis) = false → t.dev.bldS c.polygonAxis = BldAx.noPhase (s.dev.bldS c.polygonAxis)) ∧
          s.Frame ([Part.reg (R.CHn_SCT_CTRL n).off, Part.reg (R.CHn_SCT_STATUS n).off] ++ ((s.dev.chan n).map fun c => Part.bld c.polygonAxis).toList) t) ∧
  (∀ (s : State) (n : Fin 8) (t64 k : Nat) (rising : Bool),
    s.dev.bdSelected n rising = true →
    s.dev.sctRuns n = true →
    s.dev.sctSt n ≠ 3 →
    (s.dev.chS n).judged = k →
    65536 * s.dev.gridRef n ≤ t64 * 1024 + s.dev.gridP n / 2 →
    s.dev.bdSlot n t64 = some k →
    s.dev.now < 2 ^ 62 ∧ t64 < 2 ^ 62 →
    Completes (exec (.bdEdge n t64 rising) s) fun t =>
          let off := fun (e : Nat) => ((e : Int) - (s.dev.slotT n k * 64 : Nat)).natAbs
          t.dev.now = s.dev.timeAt (t64 / 64 + s.dev.get (F.CHn_SCT_CTRL.bd_filter n)) ∧ (t.dev.chS n).wdFrom = t.dev.now ∧ (t.dev.chS n).tripUn = false ∧
          (t.dev.chS n).edge = (match (s.dev.chS n).edge with
            | none => some (k, t64)
            | some (j, t0) => if off t64 < off t0 then some (k, t64) else some (j, t0)) ∧
          ((s.dev.chS n).edge ≠ none → t.dev.get (F.CHn_SCT_COUNTS.extra n) = min (s.dev.get (F.CHn_SCT_COUNTS.extra n) + 1) (2 ^ 16 - 1)) ∧
          ((s.dev.chS n).edge = none → t.dev.get (F.CHn_SCT_COUNTS.extra n) = s.dev.get (F.CHn_SCT_COUNTS.extra n)) ∧
          s.Frame ([Part.ch n, Part.reg (R.CHn_SCT_COUNTS n).off] ++ timeParts) t) ∧
  (∀ (s : State) (n : Fin 8) (t64 k : Nat) (rising : Bool),
    s.dev.bdSelected n rising = true →
    s.dev.sctRuns n = true →
    s.dev.sctSt n = 3 →
    (s.dev.chS n).judged = k →
    65536 * s.dev.gridRef n ≤ t64 * 1024 + s.dev.gridP n / 2 →
    s.dev.bdSlot n t64 = some k →
    64 * s.dev.slotT n k ≤ t64 + 64 * max 1 (s.dev.get (F.CHn_SCT_CTRL.bd_window n)) ∧ t64 ≤ 64 * (s.dev.slotT n k + max 1 (s.dev.get (F.CHn_SCT_CTRL.bd_window n))) →
    s.dev.now < 2 ^ 62 ∧ t64 < 2 ^ 62 →
    Completes (exec (.bdEdge n t64 rising) s) fun t =>
          let e : Int := (t64 : Int) - (s.dev.slotT16 n k / 1024 : Nat)
          let tol := max 1 (s.dev.get (F.CHn_SCT_CTRL.lock_tol n))
          let held := Store.get none (s.dev.chS n).phi (s.dev.facetOf n k)
          let phi : Int := match held with | none => e | some p => p + (e - p) / 2 ^ min 4 (s.dev.get (F.CHn_PXS_CTRL.align_shift n))
          t.dev.get (F.CHn_SCT_PHASE_ERR.e n) = enc 32 e ∧ t.dev.rd (R.CHn_SCT_LAST_BD n) = t64 ∧ t.dev.rd (R.CHn_PXS_ALIGN n) = enc 32 phi ∧
          (t.dev.chS n).judged = k + 1 ∧ (t.dev.chS n).missN = 0 ∧ (t.dev.chS n).prevEdge = some (k, t64) ∧ (t.dev.chS n).edge = none ∧
          (if 4 * tol < e.natAbs ∧ 3 ≤ (s.dev.chS n).outN then
            t.dev.sctSt n = 1 ∧ t.dev.get (F.CHn_SCT_STATUS.lock_count n) = 0 ∧ bit (t.dev.rd (R.CHn_SCT_IRQ_STATUS n)) 1 = true ∧
              strobed s.dev t.dev n (0x11 * 2 ^ 24 + k % 2 ^ 24) (enc 32 e)
          else
            t.dev.sctSt n = 3 ∧ t.dev.get (F.CHn_SCT_STATUS.lock_count n) = (if e.natAbs ≤ tol then min 64 (s.dev.get (F.CHn_SCT_STATUS.lock_count n) + 1) else 0) ∧
              s.Frame ([Part.ch n, Part.reg (R.CHn_SCT_PHASE_ERR n).off, Part.reg (R.CHn_SCT_LAST_BD n).off, Part.reg (R.CHn_SCT_STATUS n).off, Part.reg (R.CHn_PXS_ALIGN n).off] ++
                ((s.dev.chan n).map fun c => Part.bld c.polygonAxis).toList ++ (if s.dev.twin = true then [Part.out, Part.twn] else []) ++ timeParts) t)) ∧
  (∀ (s : State) (n : Fin 8) (t64 k : Nat) (rising : Bool),
    s.dev.bdSelected n rising = true →
    s.dev.sctRuns n = true →
    s.dev.sctSt n = 3 →
    (s.dev.chS n).judged = k →
    65536 * s.dev.gridRef n ≤ t64 * 1024 + s.dev.gridP n / 2 →
    s.dev.bdSlot n t64 = some k →
    t64 + 64 * max 1 (s.dev.get (F.CHn_SCT_CTRL.bd_window n)) < 64 * s.dev.slotT n k ∨ 64 * (s.dev.slotT n k + max 1 (s.dev.get (F.CHn_SCT_CTRL.bd_window n))) < t64 →
    s.dev.now < 2 ^ 62 ∧ t64 < 2 ^ 62 →
    Completes (exec (.bdEdge n t64 rising) s) fun t =>
          t.dev.get (F.CHn_SCT_COUNTS.extra n) = min (s.dev.get (F.CHn_SCT_COUNTS.extra n) + 1) (2 ^ 16 - 1) ∧ (t.dev.chS n).judged = k ∧
          t.dev.sctSt n = 3 ∧ s.Frame ([Part.ch n, Part.reg (R.CHn_SCT_COUNTS n).off] ++ timeParts) t) ∧
  (∀ (s : State) (n : Fin 8) (t64 : Nat) (rising : Bool),
    (s.dev.domOn (4 + n) = false ∨ s.dev.bdSelected n rising = false → Completes (exec (.bdEdge n t64 rising) s) (fun t => t = s)) ∧
    (s.dev.domOn (4 + n) = false ∨ s.dev.sctSt n = 0 → Completes (exec (.bdWindowClose n) s) (fun t => t = s))) ∧
  (∀ (s : State) (n : Fin 8) (t64 : Nat),
    s.dev.sctRuns n = true →
    s.dev.sctSt n = 1 →
    (s.dev.chS n).edge = some ((s.dev.chS n).judged, t64) →
    t64 < 2 ^ 62 →
    s.dev.now < 2 ^ 62 ∧ s.dev.slotT n (s.dev.chS n).judged < 2 ^ 61 →
    Completes (exec (.bdWindowClose n) s) fun t =>
          let e : Int := (t64 : Int) - (s.dev.slotT16 n (s.dev.chS n).judged / 1024 : Nat)
          let lock := if e.natAbs ≤ max 1 (s.dev.get (F.CHn_SCT_CTRL.lock_tol n)) then min 64 (s.dev.get (F.CHn_SCT_STATUS.lock_count n) + 1) else 0
          t.dev.get (F.CHn_SCT_PHASE_ERR.e n) = enc 32 e ∧ t.dev.rd (R.CHn_SCT_LAST_BD n) = t64 ∧ t.dev.get (F.CHn_SCT_STATUS.lock_count n) = lock ∧
          (if lock < 64 then t.dev.sctSt n = 1
          else if s.dev.on (F.CHn_SCT_CTRL.facet_mode n) = true then t.dev.sctSt n = 2 ∧ (t.dev.chS n).idN = 0
          else t.dev.sctSt n = 3 ∧ t.dev.get (F.CHn_SCT_STATUS.facet_rot n) = 0 ∧ (t.dev.chS n).phi = [] ∧ bit (t.dev.rd (R.CHn_SCT_IRQ_STATUS n)) 0 = true) ∧
          t.mem = s.mem ∧ t.pending = s.pending) ∧
  (∀ (s : State) (n : Fin 8),
    s.dev.sctRuns n = true →
    s.dev.sctSt n = 3 →
    (s.dev.chS n).edge = none →
    s.dev.now < 2 ^ 62 ∧ s.dev.slotT n (s.dev.chS n).judged < 2 ^ 61 →
    Completes (exec (.bdWindowClose n) s) fun t =>
          let k := (s.dev.chS n).judged
          let miss := (s.dev.chS n).missN + 1
          t.dev.now = s.dev.timeAt (s.dev.slotT n k + max 1 (s.dev.get (F.CHn_SCT_CTRL.bd_window n)) + s.dev.get (F.CHn_SCT_CTRL.bd_filter n)) ∧
          t.dev.get (F.CHn_SCT_COUNTS.missed n) = min (s.dev.get (F.CHn_SCT_COUNTS.missed n) + 1) (2 ^ 16 - 1) ∧
          t.dev.get (F.CHn_SCT_STATUS.lock_count n) = 0 ∧ (t.dev.chS n).judged = k + 1 ∧
          (if miss < s.dev.missLimit n then
            t.dev.sctSt n = 3 ∧ (t.dev.chS n).missN = miss ∧ bit (t.dev.rd (R.CHn_SCT_IRQ_STATUS n)) 2 = true ∧
            strobed s.dev t.dev n (0x10 * 2 ^ 24 + k % 2 ^ 24) (s.dev.chTag n * 2 ^ 16 + min miss 65535) ∧
            s.Frame ([Part.ch n, Part.reg (R.CHn_SCT_STATUS n).off, Part.reg (R.CHn_SCT_COUNTS n).off, Part.reg (R.CHn_PXS_ALIGN n).off] ++ chBit (R.CHn_SCT_IRQ_STATUS n) ++ strobeParts n ++ timeParts) t
          else
            t.dev.sctSt n = 1 ∧ bit (t.dev.rd (R.CHn_SCT_IRQ_STATUS n)) 1 = true ∧
            strobed s.dev t.dev n (0x11 * 2 ^ 24 + k % 2 ^ 24) (s.dev.get (F.CHn_SCT_PHASE_ERR.e n)) ∧ t.mem = s.mem ∧ t.pending = s.pending)) ∧
  (∀ (s : State) (n : Fin 8) (period : Bool) (v : Word64),
    s.dev.direct (R.CHn_SCT_REF_TIME n).off →
    (s.dev.chS n).desc = none →
    Completes (exec (.gridWrite n period v) s) fun t =>
          (if period then t.dev.rd (R.CHn_SCT_FACET_PERIOD n) = v.toNat % 2 ^ 48 else t.dev.rd (R.CHn_SCT_REF_TIME n) = v.toNat) ∧
          t.dev.gridP n = t.dev.get (F.CHn_SCT_FACET_PERIOD.period n) ∧ t.dev.gridRef n = t.dev.rd (R.CHn_SCT_REF_TIME n) ∧
          (t.dev.chS n).slot = t.dev.slotFrom n (s.dev.now + (if s.dev.slotBegun n then 1 else 0)) ∧ (t.dev.chS n).judged = t.dev.slotFrom n s.dev.now ∧ (t.dev.chS n).edge = none ∧
          (s.dev.sctSt n ≠ 0 → t.dev.sctSt n = 1 ∧ t.dev.get (F.CHn_SCT_STATUS.lock_count n) = 0) ∧ (s.dev.sctSt n = 0 → t.dev.sctSt n = 0) ∧
          s.Frame [Part.ch n, Part.reg (if period then R.CHn_SCT_FACET_PERIOD n else R.CHn_SCT_REF_TIME n).off, Part.act (R.CHn_SCT_FACET_PERIOD n).off, Part.act (R.CHn_SCT_REF_TIME n).off, Part.reg (R.CHn_SCT_STATUS n).off] t) ∧
  (∀ (s : State) (n : Fin 8) (period : Bool) (v : Word64) (m : Word32),
    s.dev.direct (R.CHn_SCT_REF_TIME n).off →
    (s.dev.chS n).desc ≠ none →
    s.dev.idleStart = false →
    Completes (exec (.gridWrite n period v) s) (fun t =>
          let r := if period then R.CHn_SCT_FACET_PERIOD n else R.CHn_SCT_REF_TIME n
          t.dev.rd r = (if period then v.toNat % 2 ^ 48 else v.toNat) ∧ (t.dev.chS n).gapPend = true ∧ (t.dev.chS n).gridPend = true ∧
          t.dev.gridRef n = s.dev.gridRef n ∧ t.dev.gridP n = s.dev.gridP n ∧ s.Frame [Part.ch n, Part.reg r.off] t) ∧
        Completes (exec (.pxsFreqWrite n m) s) (fun t =>
          t.dev.rd (R.CHn_PXS_FREQ n) = m.toNat ∧ (t.dev.chS n).gapPend = true ∧ t.dev.act (R.CHn_PXS_FREQ n) = s.dev.act (R.CHn_PXS_FREQ n) ∧ s.Frame [Part.ch n, Part.reg (R.CHn_PXS_FREQ n).off] t)) ∧
  (∀ (s : State) (n : Fin 8) (m : Word32),
    s.dev.direct (R.CHn_PXS_FREQ n).off →
    (s.dev.chS n).desc = none →
    s.dev.warned = false →
    Completes (exec (.pxsFreqWrite n m) s) fun t =>
          let o := s.dev.act (R.CHn_PXS_FREQ n)
          let far : Prop := o < 200 * (max o m.toNat - min o m.toNat)
          t.dev.rd (R.CHn_PXS_FREQ n) = m.toNat ∧ t.dev.act (R.CHn_PXS_FREQ n) = m.toNat ∧
          (far → t.dev.on (F.CHn_PXS_STATUS.locked n) = false ∧ t.dev.get (F.CHn_PXS_STATUS.relocks n) = min (s.dev.get (F.CHn_PXS_STATUS.relocks n) + 1) (2 ^ 16 - 1) ∧
            t.dev.on (F.CHn_FGT_STATUS.permit n) = false ∧ bit (t.dev.rd R.CLK_EVENTS) 2 = true ∧ Store.get 0 t.dev.clk.lostAt (8 + n) = s.dev.sys.now8 + 1 ∧
            t.dev.clk.said = s.dev.clk.said) ∧
          (far → (∀ (k : Nat), k < 32 → s.dev.shtState k ≠ 3) →
            s.Frame ([Part.clk, Part.act (R.CHn_PXS_FREQ n).off, Part.reg (R.CHn_PXS_FREQ n).off, Part.reg (R.CHn_PXS_STATUS n).off, Part.reg R.CLK_EVENTS.off] ++ gateParts n) t) ∧
          (¬far → s.Frame [Part.act (R.CHn_PXS_FREQ n).off, Part.reg (R.CHn_PXS_FREQ n).off] t) ∧ t.mem = s.mem ∧ t.pending = s.pending) ∧
  (∀ (s : State) (n : Fin 8),
    Completes (exec (.mapCopyDone n) s) fun t => t.dev.get (F.CHn_PLC_STATUS.map_copy n) = 0 ∧ s.Frame [Part.reg (R.CHn_PLC_STATUS n).off] t)

/-- R110, R111, R113, R208, R216, R217, R224, R230, R232, R233: An IMAGE_START firing that names a PICKED sheet of the channel
starts its scan sequence: the started bit, milestone 0x06, the first slot and the tag of the sheet are set, and the firing
is recorded; a firing at a channel not in use is refused and reported. A scan start begins the next slot: time reaches its
grid time, the slot number, facet and sequence numbers follow, an ACTIVE port sends the SCAN_HEAD, the first scan of a sheet
is planned from its base line, and after the last scan the channel ends its sheet with milestone 0x07. Without a running
grid or domain nothing happens. Points the spec leaves open follow the model's choice of log entry 240. -/
def Obligations.ScanSequence : Prop :=
  (∀ (s : State) (f : Firing) (n k : Nat),
    s.dev.actionHit 8 f.target = false →
    n = f.target →
    n < 8 →
    s.dev.descOf f.tag = some k →
    s.dev.shtState k = 3 →
    n ∈ s.dev.sheetChans k →
    (s.dev.chan n).isSome = true →
    bit (s.dev.get (F.SHT_Dd_CHAN.started k)) n = false →
    s.dev.gridP n ≠ 0 →
    s.dev.domOn (4 + n) = true →
    Completes (exec (.imageStart f) s) fun t =>
          bit (t.dev.get (F.SHT_Dd_CHAN.started k)) n = true ∧ (t.dev.chS n).desc = some k ∧ (t.dev.chS n).sq.tag = f.tag ∧
          (t.dev.chS n).sq.k0 = (s.dev.firstSlot n f.delivered).1 ∧ (t.dev.chS n).placed = 0 ∧ (t.dev.chS n).digestDue = true ∧
          t.dev.get (F.CHn_SCR_STATUS.sheet_tag n) = f.tag % 2 ^ 16 ∧ t.dev.on (F.CHn_SCR_STATUS.locked n) = true ∧
          (s.dev.slot, ⟨4, 0, 0, 0, 7, 0x06, f.tag, msDetail 0 n k, 0, s.dev.now⟩) ∈ t.dev.evt.recs ∧ (s.dev.slot, firingRec 8 f false) ∈ t.dev.evt.recs) ∧
  (∀ (s : State) (f : Firing) (n k : Nat),
    s.dev.actionHit 8 f.target = false →
    f.late = false →
    n = f.target →
    n < 8 →
    s.dev.persC = false →
    s.dev.descOf f.tag = some k →
    s.dev.shtState k = 3 →
    n ∈ s.dev.sheetChans k →
    (s.dev.chan n).isSome = true →
    bit (s.dev.get (F.SHT_Dd_CHAN.started k)) n = false →
    bit (s.dev.get (F.SHT_Dd_CHAN.ended k)) n = false →
    s.dev.gridP n ≠ 0 →
    s.dev.domOn (4 + n) = true →
    s.dev.isReady (R.CHn_SCR_COMMIT n) = false →
    (s.dev.firstSlot n f.delivered).2.2 = false →
    (s.dev.chS n).slot ≠ (s.dev.firstSlot n f.delivered).1 →
    Completes (exec (.imageStart f) s) fun t =>
          bit (t.dev.get (F.SHT_Dd_CHAN.started k)) n = true ∧ (t.dev.chS n).desc = some k ∧ (t.dev.chS n).dropped = false ∧ (t.dev.chS n).sq.tag = f.tag ∧
          (t.dev.chS n).sq.k0 = (s.dev.firstSlot n f.delivered).1 ∧ (t.dev.chS n).placed = 0 ∧ (t.dev.chS n).digestDue = true ∧
          t.dev.get (F.CHn_SCR_STATUS.sheet_tag n) = f.tag % 2 ^ 16 ∧ t.dev.on (F.CHn_SCR_STATUS.locked n) = true ∧
          t.dev.get (F.CHn_SCR_SHEETS.count n) = min (s.dev.get (F.CHn_SCR_SHEETS.count n) + 1) (2 ^ 32 - 1) ∧
          t.dev.evt.recs = s.dev.evt.recs ++ [(s.dev.slot, ⟨4, 0, 0, 0, 7, 0x06, f.tag, msDetail 0 n k, 0, s.dev.now⟩), (s.dev.slot, firingRec 8 f false)] ∧
          s.Frame ([Part.recs, Part.reg (R.SHT_Dd_CHAN k).off, Part.reg (R.CHn_SCR_STATUS n).off, Part.reg (R.CHn_SCR_SHEETS n).off] ++ gateParts n) t) ∧
  (∀ (s : State) (f : Firing) (n : Nat),
    s.dev.actionHit 8 f.target = false →
    f.late = false →
    n = f.target →
    s.dev.descOf f.tag = none →
    Completes (exec (.imageStart f) s) fun t =>
          t.dev.evt.recs = s.dev.evt.recs ++ [(s.dev.slot, firingRec 8 f true)] ∧ bit (t.dev.rd R.EVT_STATUS) 2 = true ∧
          strobed s.dev t.dev 22 (2 ^ 24 + f.idx) (b2n true * 2 ^ 18 + b2n f.enc * 2 ^ 17 + f.arg) ∧
          s.Frame ([Part.recs, Part.reg R.EVT_STATUS.off] ++ irqParts ++ strobeParts 22) t) ∧
  (∀ (s : State) (n : Fin 8),
    s.dev.idleStart = false →
    s.dev.domOn (4 + n) = false ∨ s.dev.chan n = none ∨ s.dev.gridP n = 0 ∨ s.dev.evt.running = false →
    Completes (exec (.scanStart n) s) fun t => t = s) ∧
  (∀ (s : State) (n : Fin 8),
    s.dev.warned = false →
    s.dev.domOn (4 + n) = true →
    (s.dev.chan n).isSome = true →
    s.dev.gridP n ≠ 0 →
    s.dev.evt.running = true →
    s.dev.now < 2 ^ 62 ∧ s.dev.slotT n (s.dev.chS n).slot < 2 ^ 62 →
    (s.dev.chS n).slot < 2 ^ 48 →
    Completes (exec (.scanStart n) s) fun t =>
          let k := (s.dev.chS n).slot
          let q := s.dev.get (F.CHn_BLP_SEQ.next_q n)
          t.dev.now = s.dev.timeAt (s.dev.slotT n k) ∧ t.dev.get (F.CHn_SCT_SLOT.k n) = k ∧ t.dev.get (F.CHn_SCT_STATUS.facet n) = s.dev.facetOf n k % 16 ∧
          t.dev.get (F.CHn_BLP_SEQ.next_q n) = (q + if (s.dev.chS n).next.isSome then s.dev.nScan n else 1) % 2 ^ 16 ∧ (t.dev.chS n).q = q ∧ (t.dev.chS n).curM = s.dev.mOf n (s.dev.facetOf n k) ∧
          ((s.dev.chS n).desc.isSome = true → (s.dev.chS n).next = none → (s.dev.chS n).sq.last.isSome = true → (t.dev.chS n).desc = none)) ∧
  (∀ (s : State) (n : Fin 8),
    s.dev.warned = false →
    s.dev.domOn (4 + n) = true →
    (s.dev.chan n).isSome = true →
    s.dev.gridP n ≠ 0 →
    s.dev.evt.running = true →
    (s.dev.chS n).desc = none →
    (s.dev.chS n).next = none →
    s.dev.port n ≠ 6 →
    s.dev.isReady (R.CHn_PLC_COMMIT n) = false →
    s.dev.now < 2 ^ 62 ∧ s.dev.slotT n (s.dev.chS n).slot < 2 ^ 62 →
    (s.dev.chS n).slot < 2 ^ 48 →
    Completes (exec (.scanStart n) s) fun t =>
          let k := (s.dev.chS n).slot
          let q := s.dev.get (F.CHn_BLP_SEQ.next_q n)
          t.dev.now = s.dev.timeAt (s.dev.slotT n k) ∧ t.dev.get (F.CHn_SCT_SLOT.k n) = k ∧ t.dev.get (F.CHn_SCT_STATUS.facet n) = s.dev.facetOf n k % 16 ∧
          t.dev.get (F.CHn_BLP_SEQ.next_q n) = (q + 1) % 2 ^ 16 ∧ (t.dev.chS n).slot = k + 1 ∧ (t.dev.chS n).q = q ∧ (t.dev.chS n).cur = none ∧
          (if s.dev.port n = 5 ∧ s.dev.on (F.CHn_FGT_STATUS.disabled n) = false ∧ (s.dev.chS n).sent ≤ k then
            t.dev.out = .beam n (s.dev.scanHead n k q none false) :: s.dev.out ∧ (t.dev.chS n).sent = k + 1 ∧
              t.dev.get (F.CHn_BLP_FRAMES.frames n) = min (s.dev.get (F.CHn_BLP_FRAMES.frames n) + 1) (2 ^ 64 - 1)
          else t.dev.out = s.dev.out ∧ t.dev.rd (R.CHn_BLP_FRAMES n) = s.dev.rd (R.CHn_BLP_FRAMES n)) ∧
          s.Frame ([Part.out, Part.ch n, Part.reg (R.CHn_SCT_SLOT n).off, Part.reg (R.CHn_SCT_STATUS n).off, Part.reg (R.CHn_BLP_SEQ n).off, Part.reg (R.CHn_BLP_FRAMES n).off] ++ timeParts) t) ∧
  (∀ (s : State) (n : Fin 8) (k : Nat) (c : Chan),
    s.dev.warned = false →
    s.dev.domOn (4 + n) = true →
    s.dev.chan n = some c →
    s.dev.gridP n ≠ 0 →
    s.dev.evt.running = true →
    (s.dev.chS n).desc = some k →
    (s.dev.chS n).next = none →
    (s.dev.chS n).dropped = false →
    s.dev.shtState k = 3 →
    (s.dev.chS n).sq.last = none →
    (s.dev.chS n).sq.req = 0 →
    (s.dev.chS n).sq.k0 ≤ (s.dev.chS n).slot + 1 →
    (s.dev.chS n).sq.b0 < (s.dev.chS n).sq.lines →
    (s.dev.chS n).sq.b = (s.dev.chS n).sq.b0 →
    0 < (s.dev.chS n).sq.lines →
    inputLine c ((s.dev.chS n).sq.lines - 1) < s.dev.get (F.SHT_Dd_FILLn.lines k n) →
    s.dev.port n < 5 →
    s.dev.isReady (R.CHn_PLC_COMMIT n) = false →
    s.dev.now < 2 ^ 62 ∧ s.dev.slotT n (s.dev.chS n).slot < 2 ^ 62 →
    Completes (exec (.scanStart n) s) fun t =>
          let q := (s.dev.chS n).sq
          let top := (clampI (-1) ((q.lines : Int) - 1) (q.b0 + s.dev.beamsOf n - 1 + s.dev.get (F.CHn_PLC_STATUS.reach_fwd n)) + 1).toNat
          (t.dev.chS n).next = some ⟨0, q.b0, (q.lines : Int) ≤ q.b0 + s.dev.beamsOf n⟩ ∧ (t.dev.chS n).sq.last = some 0 ∧ (t.dev.chS n).sq.h0 = (List.range 4).map s.dev.encHwm ∧ (t.dev.chS n).sq.req = top ∧
          (if 0 < top then t.dev.get (F.SHT_Dd_PROGn.requested k n) = (inputLine c (top - 1) + 1) % 2 ^ 32 ∧ (t.dev.chS n).screenQ = (s.dev.chS n).screenQ ++ [(0, 0, top - 1)]
          else (t.dev.chS n).screenQ = (s.dev.chS n).screenQ) ∧ (t.dev.chS n).sq.under = q.under ∧
          s.Frame ([Part.ch n, Part.reg (R.SHT_Dd_PROGn k n).off, Part.reg (R.CHn_SCT_SLOT n).off, Part.reg (R.CHn_SCT_STATUS n).off, Part.reg (R.CHn_BLP_SEQ n).off] ++ timeParts) t) ∧
  (∀ (s : State) (n : Fin 8) (k : Nat),
    s.dev.warned = false →
    s.dev.domOn (4 + n) = true →
    (s.dev.chan n).isSome = true →
    s.dev.persC = false →
    s.dev.gridP n ≠ 0 →
    s.dev.evt.running = true →
    (s.dev.chS n).desc = some k →
    (s.dev.chS n).next = none →
    (s.dev.chS n).dropped = false →
    (s.dev.chS n).gapPend = false →
    (s.dev.chS n).reqEnd = false →
    s.dev.shtState k = 3 →
    s.dev.on (F.SHT_Dd_STATE.exit_seen k) = false →
    bit (s.dev.get (F.SHT_Dd_CHAN.ended k)) n = false →
    (s.dev.chS n).sq.last.isSome = true →
    s.dev.port n < 5 →
    s.dev.isReady (R.CHn_PLC_COMMIT n) = false →
    s.dev.now < 2 ^ 62 ∧ s.dev.slotT n (s.dev.chS n).slot < 2 ^ 62 →
    Completes (exec (.scanStart n) s) fun t =>
          (t.dev.chS n).desc = none ∧ (t.dev.chS n).codes = [] ∧ (t.dev.chS n).screenQ = [] ∧ bit (t.dev.get (F.SHT_Dd_CHAN.ended k)) n = true ∧
          t.dev.on (F.CHn_SCR_STATUS.locked n) = (s.dev.chS n).digestDue ∧
          t.dev.evt.recs = s.dev.evt.recs ++ [(t.dev.slot, ⟨4, 0, 0, 0, 7, 0x07, s.dev.tagOf k, msDetail 0 n k, (s.dev.chS n).placed, t.dev.now⟩)] ∧
          s.Frame ([Part.recs, Part.reg (R.SHT_Dd_CHAN k).off, Part.reg (R.CHn_SCR_STATUS n).off, Part.reg (R.CHn_SCT_SLOT n).off, Part.reg (R.CHn_SCT_STATUS n).off, Part.reg (R.CHn_BLP_SEQ n).off] ++ gateParts n ++ timeParts) t)

/-- R229, R230, R233, R234, R235, R237: The frames of a slot to come leave an ACTIVE port once their codes are screened, each
slot once; the MARK of a slot leaves once after the beam-detect window; a PERMIT unit leaves every 10 us with the permit as
it stands; in LATENCY up to sixteen PROBEs leave 1 us apart. A port in any other state sends none. Points the spec leaves
open follow the model's choice of log entry 77. -/
def Obligations.BeamLinkUnits : Prop :=
  (∀ (s : State) (n : Fin 8),
    s.dev.domOn (4 + n) = true →
    s.dev.gridP n ≠ 0 →
    s.dev.evt.running = true →
    s.dev.port n = 5 →
    s.dev.on (F.CHn_FGT_STATUS.disabled n) = false →
    (s.dev.chS n).sent ≤ (s.dev.chS n).slot →
    (∀ sc ∈ (s.dev.chS n).next, (s.dev.chS n).screenQ.any (fun r => r.1 ≤ sc.s) = false) →
    Completes (exec (.slotFramesSend n) s) fun t =>
          (t.dev.chS n).sent = (s.dev.chS n).slot + 1 ∧ s.dev.out <:+ t.dev.out ∧ t.mem = s.mem ∧ t.pending = s.pending) ∧
  (∀ (s : State) (n : Fin 8),
    s.dev.domOn (4 + n) = true →
    s.dev.gridP n ≠ 0 →
    s.dev.evt.running = true →
    s.dev.port n = 5 →
    s.dev.on (F.CHn_FGT_STATUS.disabled n) = false →
    (s.dev.chS n).sent ≤ (s.dev.chS n).slot →
    (s.dev.chS n).next = none →
    Completes (exec (.slotFramesSend n) s) fun t =>
          t.dev.out = .beam n (s.dev.scanHead n (s.dev.chS n).slot (s.dev.get (F.CHn_BLP_SEQ.next_q n)) none false) :: s.dev.out ∧ (t.dev.chS n).sent = (s.dev.chS n).slot + 1 ∧
          t.dev.get (F.CHn_BLP_FRAMES.frames n) = min (s.dev.get (F.CHn_BLP_FRAMES.frames n) + 1) (2 ^ 64 - 1) ∧ s.Frame [Part.out, Part.ch n, Part.reg (R.CHn_BLP_FRAMES n).off] t) ∧
  (∀ (s : State) (n : Fin 8) (sc : Scan),
    s.dev.domOn (4 + n) = true →
    s.dev.gridP n ≠ 0 →
    s.dev.evt.running = true →
    s.dev.twin = false →
    s.dev.port n = 5 →
    s.dev.on (F.CHn_FGT_STATUS.disabled n) = false →
    (s.dev.chS n).sent ≤ (s.dev.chS n).slot →
    (s.dev.chS n).next = some sc →
    (s.dev.chS n).dropped = false →
    (s.dev.chS n).screenQ.any (fun r => r.1 ≤ sc.s) = false →
    Completes (exec (.slotFramesSend n) s) fun t =>
          let nf := s.dev.beamsOf n * ((s.dev.segments n + 63) / 64)
          t.dev.out.length = s.dev.out.length + 1 + nf ∧ t.dev.out.drop nf = .beam n (s.dev.scanHead n (s.dev.chS n).slot (s.dev.get (F.CHn_BLP_SEQ.next_q n)) (some sc) false) :: s.dev.out ∧
          (t.dev.chS n).sent = (s.dev.chS n).slot + 1 ∧ t.dev.get (F.CHn_BLP_FRAMES.frames n) = min (s.dev.get (F.CHn_BLP_FRAMES.frames n) + 1 + nf) (2 ^ 64 - 1) ∧
          s.Frame [Part.out, Part.ch n, Part.reg (R.CHn_BLP_FRAMES n).off] t) ∧
  (∀ (s : State) (n : Fin 8),
    s.dev.port n ≠ 5 →
    Completes (exec (.slotFramesSend n) s) (fun t => t = s) ∧ Completes (exec (.markSend n) s) (fun t => t = s) ∧ Completes (exec (.permitUnitPeriodic n) s) (fun t => t = s)) ∧
  (∀ (s : State) (n : Fin 8),
    s.dev.port n = 5 →
    s.dev.on (F.CHn_FGT_STATUS.disabled n) = false →
    (s.dev.chS n).marked < (s.dev.chS n).slot →
    s.dev.evt.running = true →
    s.dev.now < 2 ^ 62 ∧ s.dev.slotT n ((s.dev.chS n).slot - 1) < 2 ^ 62 →
    Completes (exec (.markSend n) s) fun t =>
          let v := (Config.freeValue s.dev.free).toNat % 2 ^ 64
          let b := [s.dev.ctlByte n, 0x10 + s.dev.get (F.CHn_FGT_STATUS.permit n)] ++ leBytes 2 (s.dev.chS n).q ++ leBytes 3 (enc 24 (s.dev.markLead n (v % 8001)))
          t.dev.out = .beam n (b ++ [crc8 b]) :: (if s.dev.blMode n = 0 then
            [.blClock n (max 1 (s.dev.chS n).curM) (64 * (s.dev.slotT n ((s.dev.chS n).slot - 1) : Nat) + s.dev.phiOf n ((s.dev.chS n).slot - 1)) (s.dev.chS n).curSd] else []) ++ s.dev.out ∧
          (t.dev.chS n).marked = (s.dev.chS n).slot ∧
          t.dev.now = s.dev.timeAt (s.dev.slotT n ((s.dev.chS n).slot - 1) + max 1 (s.dev.get (F.CHn_SCT_CTRL.bd_window n))) ∧
          s.Frame ([Part.out, Part.ch n, Part.free] ++ timeParts) t) ∧
  (∀ (s : State) (n : Fin 8),
    s.dev.port n = 5 →
    s.dev.on (F.CHn_FGT_STATUS.disabled n) = false →
    Completes (exec (.permitUnitPeriodic n) s) fun t =>
          let b := [s.dev.ctlByte n, 0x20 + s.dev.get (F.CHn_FGT_STATUS.permit n)] ++ leBytes 2 (s.dev.chS n).q ++ [0, 0, 0]
          t.dev.out = .beam n (b ++ [crc8 b]) :: s.dev.out ∧ t.dev.sys.now8 = max s.dev.sys.now8 ((s.dev.chS n).permAt + 1250) ∧ (t.dev.chS n).permAt = t.dev.sys.now8 ∧
          s.Frame ([Part.out, Part.ch n] ++ timeParts) t) ∧
  (∀ (s : State) (n : Fin 8),
    s.dev.port n = 3 →
    (if 16 ≤ (s.dev.chS n).probe then Completes (exec (.probeSend n) s) fun t => t = s
        else Completes (exec (.probeSend n) s) fun t =>
            let b := [s.dev.ctlByte n, 0x50 + s.dev.get (F.CHn_FGT_STATUS.permit n)] ++ leBytes 2 (s.dev.chS n).q ++ leBytes 3 (s.dev.chS n).probe
            t.dev.out = .beam n (b ++ [crc8 b]) :: s.dev.out ∧ (t.dev.chS n).probe = (s.dev.chS n).probe + 1 ∧ (t.dev.chS n).probeAt = t.dev.sys.now8 ∧
              t.dev.sys.now8 = (if (s.dev.chS n).probe = 0 then s.dev.sys.now8 else max s.dev.sys.now8 ((s.dev.chS n).probeAt + 125)) ∧ s.Frame ([Part.out, Part.ch n] ++ timeParts) t)) ∧
  (∀ (s : State) (n : Fin 8),
    s.dev.port n ≠ 3 →
    Completes (exec (.probeSend n) s) fun t => t = s)

/-- R62, R236, R237, R238, R239, R257: A back-channel unit with a bad CRC is counted and does nothing else. Eight equal HELLOs
take DETECT to TRAIN with the rate both ends hold; one whose head does not suit fails the port; eight TS_ACKs with every
lane locked and deskewed take it on to LATENCY or CHECK. Sixteen ECHOs in order give the latency and its spread, or fail the
port where they spread too far. READY makes the port ACTIVE. A missing ECHO or READY fails the port in phase 8 with class 3
and re-detects it, with a record, outside. -/
def Obligations.LinkTraining : Prop :=
  (∀ (s : State) (n : Fin 8) (u : List Byte),
    hears s.dev n →
    ¬ ((unitBytes u).length = 8 ∧ (unitBytes u).getD 0 0 = 0x5C ∧ crc8 ((unitBytes u).take 7) = (unitBytes u).getD 7 0) →
    Completes (exec (.hello n u) s) (fun t => t.dev.get (F.CHn_BLP_COUNTS.bc_crc n) = min (s.dev.get (F.CHn_BLP_COUNTS.bc_crc n) + 1) (2 ^ 8 - 1) ∧ s.Frame [Part.reg (R.CHn_BLP_COUNTS n).off] t) ∧
        Completes (exec (.alert n u) s) (fun t => t.dev.get (F.CHn_BLP_COUNTS.bc_crc n) = min (s.dev.get (F.CHn_BLP_COUNTS.bc_crc n) + 1) (2 ^ 8 - 1) ∧ s.Frame [Part.reg (R.CHn_BLP_COUNTS n).off] t)) ∧
  (∀ (s : State) (n : Fin 8) (u : List Byte),
    hears s.dev n →
    unitOk (unitBytes u) 1 →
    s.dev.port n = 1 →
    (s.dev.chS n).lostLoop = false →
    s.dev.on (F.CHn_FGT_STATUS.disabled n) = false →
    s.dev.helloBad n (unitBytes u) = none →
    Completes (exec (.hello n u) s) fun t =>
          let b := unitBytes u
          let k := if (s.dev.chS n).hello = b then (s.dev.chS n).helloN + 1 else 1
          t.dev.get (F.CHn_BLP_HEAD.modes n) = b.getD 2 0 ∧ t.dev.get (F.CHn_BLP_HEAD.max_rate n) = b.getD 3 0 ∧ t.dev.get (F.CHn_BLP_HEAD.max_beams n) = b.getD 4 0 ∧
          t.dev.get (F.CHn_BLP_HEAD.tau n) = b.getD 5 0 + 256 * b.getD 6 0 ∧ (t.dev.chS n).bcAt = s.dev.sys.now8 ∧
          (if k < 8 then t.dev.port n = 1 ∧ (t.dev.chS n).helloN = k ∧ s.Frame [Part.ch n, Part.reg (R.CHn_BLP_HEAD n).off] t
          else t.dev.port n = 2 ∧ t.dev.get (F.CHn_BLP_STATUS.lanes n) = s.dev.blLanes n % 16 ∧
            t.dev.get (F.CHn_BLP_STATUS.rate n) = (if s.dev.blMode n = 1 then max 1 (min 2 (min (b.getD 3 0 % 16) (s.dev.get (F.CHn_BLP_CTRL.max_rate n)))) else 0) ∧
            s.Frame ([Part.reg (R.CHn_BLP_HEAD n).off] ++ portParts n) t)) ∧
  (∀ (s : State) (n : Fin 8) (u : List Byte),
    hears s.dev n →
    unitOk (unitBytes u) 1 →
    s.dev.port n = 1 →
    (s.dev.chS n).lostLoop = false →
    s.dev.on (F.CHn_FGT_STATUS.disabled n) = false →
    (s.dev.helloBad n (unitBytes u)).isSome = true →
    Completes (exec (.hello n u) s) fun t =>
          let b := unitBytes u
          let det := if bit (b.getD 2 0) (s.dev.blMode n) = false then 2 else if b.getD 4 0 < s.dev.beamsOf n then 3 else 4
          t.dev.port n = 7 ∧ t.dev.get (F.CHn_BLP_STATUS.detail n) = det ∧ bit (t.dev.rd (R.CHn_BLP_IRQ_STATUS n)) 1 = true ∧
          (if s.dev.phase8 = true then t.dev.flt.strobes = s.dev.flt.strobes ++ [⟨8 + n, 0x20 * 2 ^ 24 + det, 1, s.dev.now, 4⟩] else strobed s.dev t.dev (8 + n) (0x20 * 2 ^ 24 + det) 1) ∧
          s.Frame ([Part.reg (R.CHn_BLP_HEAD n).off] ++ portParts n ++ blpBit n ++ strobeParts (8 + n)) t) ∧
  (∀ (s : State) (n : Fin 8) (u : List Byte),
    hears s.dev n →
    unitOk (unitBytes u) 2 →
    s.dev.port n = 2 →
    s.dev.blMode n = 1 →
    Completes (exec (.tsAck n u) s) fun t =>
          let b := unitBytes u
          let all := b.getD 2 0 % 2 ^ s.dev.blLanes n = 2 ^ s.dev.blLanes n - 1
          let k := if all ∧ bit (b.getD 3 0) 0 = true then (s.dev.chS n).helloN + 1 else 0
          (t.dev.chS n).helloN = k ∧ (t.dev.chS n).bcAt = s.dev.sys.now8 ∧
          (if k < 8 then t.dev.port n = 2 ∧ (t.dev.chS n).locked = (if all then (if bit (b.getD 3 0) 0 = true then 2 else 1) else 0) ∧ s.Frame [Part.ch n] t
          else t.dev.port n = 3 ∧ (t.dev.chS n).rtt = [] ∧ (t.dev.chS n).probe = 0 ∧ s.Frame (portParts n) t)) ∧
  (∀ (s : State) (n : Fin 8) (u : List Byte),
    hears s.dev n →
    unitOk (unitBytes u) 2 →
    s.dev.port n = 2 →
    s.dev.blMode n = 0 →
    (unitBytes u).getD 2 0 % 2 ^ s.dev.blLanes n = 2 ^ s.dev.blLanes n - 1 →
    bit ((unitBytes u).getD 3 0) 0 = true →
    (s.dev.chS n).helloN = 7 →
    Completes (exec (.tsAck n u) s) fun t =>
          (if s.dev.capacityOk n = true then t.dev.port n = 4 ∧ (t.dev.chS n).probeAt = s.dev.sys.now8 ∧ s.Frame (portParts n) t
          else t.dev.port n = 7 ∧ t.dev.get (F.CHn_BLP_STATUS.detail n) = 0x0A ∧ s.Frame (portParts n ++ blpBit n ++ strobeParts (8 + n)) t)) ∧
  (∀ (s : State) (n : Fin 8) (u : List Byte) (rtt : Nat),
    hears s.dev n →
    unitOk (unitBytes u) 3 →
    s.dev.port n = 3 →
    (s.dev.chS n).rtt.length < (s.dev.chS n).probe →
    (unitBytes u).getD 2 0 = (s.dev.chS n).rtt.length →
    (s.dev.chS n).rtt.length < 15 →
    Completes (exec (.echo n u rtt) s) fun t => (t.dev.chS n).rtt = (s.dev.chS n).rtt ++ [rtt] ∧ t.dev.port n = 3 ∧ s.Frame [Part.ch n] t) ∧
  (∀ (s : State) (n : Fin 8) (u : List Byte) (rtt : Nat),
    hears s.dev n →
    unitOk (unitBytes u) 3 →
    s.dev.port n = 3 →
    (s.dev.chS n).rtt.length = 15 →
    (s.dev.chS n).probe = 16 →
    (unitBytes u).getD 2 0 = 15 →
    Completes (exec (.echo n u rtt) s) fun t =>
          let rs := (s.dev.chS n).rtt ++ [rtt]
          let spread := rs.foldl max 0 - rs.foldl min rtt
          let l : Int := ((rs.foldl (· + ·) 0 : Nat) - 16 * (s.dev.get (F.CHn_BLP_HEAD.tau n) : Nat) + 16 * sext 16 (s.dev.get (F.CHn_BLP_CTRL.flight_adj n)) + 16 : Int) / 32
          if 4 < spread then t.dev.port n = 7 ∧ t.dev.get (F.CHn_BLP_STATUS.detail n) = 8 ∧ s.Frame (portParts n ++ blpBit n ++ strobeParts (8 + n)) t
          else if 800 < l then t.dev.port n = 7 ∧ t.dev.get (F.CHn_BLP_STATUS.detail n) = 9 ∧ s.Frame (portParts n ++ blpBit n ++ strobeParts (8 + n)) t
          else t.dev.get (F.CHn_BLP_LATENCY.spread n) = spread % 256 ∧ t.dev.get (F.CHn_BLP_LATENCY.l n) = enc 16 l ∧ (t.dev.port n = 4 ∨ t.dev.port n = 7) ∧
            (s.dev.capacityOk n = true → t.dev.port n = 4) ∧ s.Frame ([Part.reg (R.CHn_BLP_LATENCY n).off] ++ portParts n ++ blpBit n ++ strobeParts (8 + n)) t) ∧
  (∀ (s : State) (n : Fin 8),
    s.dev.port n = 3 →
    (if (s.dev.chS n).probe ≤ (s.dev.chS n).rtt.length then Completes (exec (.echoTimeout n) s) fun t => t = s
        else Completes (exec (.echoTimeout n) s) fun t =>
            t.dev.sys.now8 = max s.dev.sys.now8 ((s.dev.chS n).probeAt + 1250 - 125 * ((s.dev.chS n).probe - 1 - (s.dev.chS n).rtt.length)) ∧ t.dev.get (F.CHn_BLP_STATUS.detail n) = 7 ∧
              t.dev.port n = (if s.dev.phase8 = true then 7 else 1) ∧ s.Frame (portParts n ++ blpBit n ++ strobeParts (8 + n) ++ timeParts) t)) ∧
  (∀ (s : State) (n : Fin 8),
    s.dev.port n = 4 →
    s.dev.outOfStep = false →
    Completes (exec (.ready n) s) fun t =>
          t.dev.port n = 5 ∧ t.dev.get (F.CHn_BLP_STATUS.detail n) = 0 ∧ bit (t.dev.rd (R.CHn_BLP_IRQ_STATUS n)) 0 = true ∧ (t.dev.chS n).bcAt = s.dev.sys.now8 ∧
          (s.dev.chS n).slot ≤ (t.dev.chS n).sent ∧ (s.dev.chS n).slot ≤ (t.dev.chS n).marked ∧ s.Frame (portParts n ++ blpBit n) t) ∧
  (∀ (s : State) (n : Fin 8),
    s.dev.port n = 4 →
    Completes (exec (.readyTimeout n) s) fun t =>
          t.dev.sys.now8 = max s.dev.sys.now8 ((s.dev.chS n).probeAt + 125000) ∧ t.dev.get (F.CHn_BLP_STATUS.detail n) = 0x0B ∧
          t.dev.port n = (if s.dev.phase8 = true then 7 else 1) ∧ s.Frame (portParts n ++ blpBit n ++ strobeParts (8 + n) ++ timeParts) t) ∧
  (∀ (s : State) (n : Fin 8),
    s.dev.port n < 3 →
    Completes (exec (.echoTimeout n) s) (fun t => t = s) ∧ Completes (exec (.ready n) s) (fun t => t = s) ∧ Completes (exec (.readyTimeout n) s) (fun t => t = s))

/-- R236, R239, R246, R253, R254, R257, R259: STATUS and ALERT store the head's flags, sequence number and gap count; new gaps
are flagged and recorded, a head that lost its link takes the port out of ACTIVE. The back channel silent for 20 us loses an
ACTIVE port, which then detects anew. RETRAIN detects each named port anew outside phase 8 and refuses a busy channel unless
forced. -/
def Obligations.LinkBackChannel : Prop :=
  (∀ (s : State) (n : Fin 8) (u : List Byte),
    hears s.dev n →
    unitOk (unitBytes u) 4 →
    Completes (exec (.status n u) s) fun t =>
          let b := unitBytes u
          t.dev.get (F.CHn_BLP_HEAD_STATUS.flags n) = b.getD 2 0 % 64 ∧ t.dev.get (F.CHn_BLP_HEAD_STATUS.last_seq n) = b.getD 3 0 + 256 * b.getD 4 0 ∧
          t.dev.get (F.CHn_BLP_COUNTS.gaps n) = b.getD 5 0 + 256 * b.getD 6 0 ∧ t.dev.on (F.CHn_FGT_STATUS.ilk_head n) = bit (b.getD 2 0) 0 ∧
          (if bit (b.getD 2 0) 5 = true ∧ (s.dev.port n = 5 ∨ s.dev.port n = 6) then t.dev.port n = 1 ∧ t.dev.get (F.CHn_BLP_STATUS.detail n) = 0x0D ∧
            t.dev.on (F.CHn_FGT_STATUS.permit n) = false else t.dev.port n = s.dev.port n) ∧ t.mem = s.mem ∧ t.pending = s.pending) ∧
  (∀ (s : State) (n : Fin 8) (u : List Byte),
    hears s.dev n →
    unitOk (unitBytes u) 5 →
    Completes (exec (.alert n u) s) fun t =>
          let b := unitBytes u
          t.dev.get (F.CHn_BLP_HEAD_STATUS.flags n) = b.getD 2 0 % 64 ∧ t.dev.get (F.CHn_BLP_HEAD_STATUS.last_seq n) = b.getD 3 0 + 256 * b.getD 4 0 ∧
          t.dev.get (F.CHn_BLP_COUNTS.gaps n) = b.getD 5 0 + 256 * b.getD 6 0 ∧ t.dev.on (F.CHn_FGT_STATUS.ilk_head n) = bit (b.getD 2 0) 0 ∧
          (if bit (b.getD 2 0) 5 = true ∧ (s.dev.port n = 5 ∨ s.dev.port n = 6) then t.dev.port n = 1 ∧ t.dev.get (F.CHn_BLP_STATUS.detail n) = 0x0D ∧
            t.dev.on (F.CHn_FGT_STATUS.permit n) = false else t.dev.port n = s.dev.port n) ∧ t.mem = s.mem ∧ t.pending = s.pending) ∧
  (∀ (s : State) (v : Word32),
    s.dev.direct R.BLK_CMD.off →
    s.dev.twin = false →
    Completes (exec (.retrain v) s) fun t =>
          let refused := fun (n : Nat) => s.dev.phase8 || (s.dev.chanBusy n && !bit v.toNat 15)
          let asked := (List.range 8).filter fun n => bit v.toNat n
          t.dev.get F.BLK_REJECT.count = min (s.dev.get F.BLK_REJECT.count + (asked.filter refused).length) (2 ^ 16 - 1) ∧
          (∀ n ∈ asked, refused n = false → s.dev.port n ≠ 0 ∧ s.dev.port n ≠ 6 → t.dev.port n = 1 ∧ t.dev.on (F.CHn_FGT_STATUS.permit n) = false) ∧
          (∀ (n : Nat), n < 8 → n ∉ asked ∨ refused n = true → t.dev.port n = s.dev.port n) ∧ t.mem = s.mem ∧ t.pending = s.pending) ∧
  (∀ (s : State) (n : Fin 8) (u : List Byte),
    hears s.dev n →
    unitOk (unitBytes u) 4 →
    (unitBytes u).getD 2 0 % 8 = 0 →
    bit ((unitBytes u).getD 2 0) 5 = false →
    s.dev.get (F.CHn_BLP_HEAD_STATUS.flags n) = 0 →
    s.dev.on (F.CHn_FGT_STATUS.ilk_head n) = false →
    Completes (exec (.status n u) s) fun t =>
          let b := unitBytes u
          let g := b.getD 5 0 + 256 * b.getD 6 0
          let inc := (g + 65536 - s.dev.get (F.CHn_BLP_COUNTS.gaps n)) % 65536
          let seq := b.getD 3 0 + 256 * b.getD 4 0
          t.dev.get (F.CHn_BLP_HEAD_STATUS.flags n) = b.getD 2 0 % 64 ∧ t.dev.get (F.CHn_BLP_HEAD_STATUS.last_seq n) = seq ∧ t.dev.get (F.CHn_BLP_COUNTS.gaps n) = g ∧ t.dev.port n = s.dev.port n ∧
          (t.dev.chS n).bcAt = s.dev.sys.now8 ∧
          (if inc ≠ 0 ∧ inc < 0x8000 then bit (t.dev.rd (R.CHn_BLP_IRQ_STATUS n)) 4 = true ∧ strobed s.dev t.dev (8 + n) (0x22 * 2 ^ 24 + inc) seq
          else t.dev.rd (R.CHn_BLP_IRQ_STATUS n) = s.dev.rd (R.CHn_BLP_IRQ_STATUS n) ∧ t.dev.flt.strobes = s.dev.flt.strobes) ∧
          s.Frame ([Part.reg (R.CHn_BLP_HEAD_STATUS n).off] ++ portParts n ++ blpBit n ++ strobeParts (8 + n)) t) ∧
  (∀ (s : State) (n : Fin 8) (u : List Byte),
    hears s.dev n →
    unitOk (unitBytes u) 5 →
    (unitBytes u).getD 2 0 % 8 = 0 →
    bit ((unitBytes u).getD 2 0) 5 = true →
    s.dev.port n = 5 ∨ s.dev.port n = 6 →
    s.dev.chan n ≠ none →
    s.dev.on (F.CHn_FGT_STATUS.ilk_head n) = false →
    Completes (exec (.alert n u) s) fun t =>
          t.dev.port n = 1 ∧ t.dev.get (F.CHn_BLP_STATUS.detail n) = 0x0D ∧ bit (t.dev.rd (R.CHn_BLP_IRQ_STATUS n)) 2 = true ∧ t.dev.on (F.CHn_FGT_STATUS.permit n) = false ∧
          t.dev.get (F.CHn_BLP_COUNTS.retrains n) = min (s.dev.get (F.CHn_BLP_COUNTS.retrains n) + 1) (2 ^ 8 - 1) ∧
          s.Frame ([Part.reg (R.CHn_BLP_HEAD_STATUS n).off] ++ portParts n ++ blpBit n ++ strobeParts (8 + n)) t) ∧
  (∀ (s : State) (n : Fin 8),
    s.dev.port n = 5 ∨ s.dev.port n = 6 →
    s.dev.blMode n < 2 →
    Completes (exec (.backChannelTimeout n) s) fun t =>
          t.dev.sys.now8 = max s.dev.sys.now8 ((s.dev.chS n).bcAt + 2500) ∧ t.dev.port n = 1 ∧ t.dev.get (F.CHn_BLP_STATUS.detail n) = 0x0C ∧ t.dev.on (F.CHn_FGT_STATUS.permit n) = false ∧
          bit (t.dev.rd (R.CHn_BLP_IRQ_STATUS n)) 2 = true ∧ strobed s.dev t.dev (8 + n) (0x21 * 2 ^ 24 + 0x0C) (s.dev.chTag n * 2 ^ 16 + (s.dev.chS n).q) ∧
          s.Frame (portParts n ++ blpBit n ++ strobeParts (8 + n) ++ timeParts) t) ∧
  (∀ (s : State) (v : Word32) (n : Nat),
    s.dev.direct R.BLK_CMD.off →
    s.dev.twin = false →
    n < 8 →
    v.toNat % 256 = 2 ^ n →
    s.dev.blMode n < 2 →
    s.dev.port n ≠ 0 ∧ s.dev.port n ≠ 6 →
    Completes (exec (.retrain v) s) fun t =>
          if s.dev.phase8 = true ∨ (s.dev.chanBusy n = true ∧ bit v.toNat 15 = false) then
            t.dev.get F.BLK_REJECT.count = min (s.dev.get F.BLK_REJECT.count + 1) (2 ^ 16 - 1) ∧ s.Frame [Part.reg R.BLK_REJECT.off] t
          else t.dev.port n = 1 ∧ (t.dev.chS n).helloN = 0 ∧ t.dev.get (F.CHn_BLP_STATUS.withdraw_cause n) = 0 ∧ t.dev.on (F.CHn_FGT_STATUS.permit n) = false ∧
            s.Frame (portParts n) t)

/-- R113, R119, R235, R252, R253, R254, R255, R256: A write of permit_req judges the permit: it closes exactly where every
condition of R252 holds, a change is flagged, counted and sent to an ACTIVE port, and a 0 during imaging waits for the end
of the channel. A disabled channel loses its permit, its port detects anew and it leaves every PICKED sheet; a busy channel
refuses unless forced; ENABLE lets it back. An interlock that opens is flagged and recorded once, unless a record of its
source already stands in the slot (R364), and, where source 36 cuts, drops and latches the permit. The watchdog trips record
under source 37 and, where it cuts, latch the drop. -/
def Obligations.FiringGate : Prop :=
  (∀ (s : State) (n : Fin 8) (force : Bool),
    s.dev.warned = false →
    s.dev.direct (R.CHn_FGT_CMD n).off →
    s.dev.twin = false →
    (s.dev.chan n).isSome = true →
    s.dev.domOn (4 + n) = true →
    Completes (exec (.channelDisable n force) s) fun t =>
          (if s.dev.chanBusy n = true ∧ force = false then
            t.dev.get (F.CHn_FGT_REJECT.count n) = min (s.dev.get (F.CHn_FGT_REJECT.count n) + 1) (2 ^ 16 - 1) ∧ t.dev.on (F.CHn_FGT_STATUS.disabled n) = s.dev.on (F.CHn_FGT_STATUS.disabled n)
          else t.dev.on (F.CHn_FGT_STATUS.disabled n) = true ∧ t.dev.on (F.CHn_FGT_STATUS.permit n) = false ∧ t.dev.on (F.CHn_FGT_STATUS.closable n) = false ∧
            t.dev.port n = (if s.dev.port n = 0 ∨ s.dev.port n = 7 then s.dev.port n else 1)) ∧ t.mem = s.mem ∧ t.pending = s.pending) ∧
  (∀ (s : State) (n : Fin 8) (k : Nat),
    s.dev.warned = false →
    s.dev.dinNamed n k = true →
    k < 32 →
    s.dev.dinLevel k = true →
    n.val ∈ s.dev.chansInUse →
    Completes (exec (.interlockOpen n (k + 3)) s) fun t =>
          t.dev.dinLevel k = false ∧ t.dev.on (F.CHn_FGT_STATUS.ilk_din n) = true ∧ bit (t.dev.rd (R.CHn_FGT_IRQ_STATUS n)) 0 = true ∧
          (s.dev.flt.strobes.any (fun x => x.src = 36 && x.t / 8 = s.dev.now / 8) = false → t.dev.flt.strobes.any (fun x => x.src = 36 ∧ x.d0 / 2 ^ 16 = 0x300 + k) = true) ∧
          (s.dev.armed 36 0 = true → t.dev.on (F.CHn_FGT_STATUS.permit n) = false) ∧ t.mem = s.mem ∧ t.pending = s.pending) ∧
  (∀ (s : State) (n : Fin 8),
    s.dev.warned = false →
    n.val ∈ s.dev.chansInUse →
    (match s.dev.chan n with | some c => bit c.gateFlags 0 | none => false) = true →
    s.dev.host.estop = true →
    Completes (exec (.interlockOpen n 1) s) fun t =>
          t.dev.host.estop = false ∧ t.dev.on (F.CHn_FGT_STATUS.ilk_estop n) = true ∧ (s.dev.flt.strobes.any (fun x => x.src = 36 && x.t / 8 = s.dev.now / 8) = false → t.dev.flt.strobes.any (fun x => x.src = 36 ∧ x.d0 / 2 ^ 16 = 0x100) = true) ∧
          (s.dev.armed 36 0 = true → t.dev.on (F.CHn_FGT_STATUS.permit n) = false) ∧ t.mem = s.mem ∧ t.pending = s.pending) ∧
  (∀ (s : State) (n : Fin 8),
    s.dev.wdRuns n = true →
    (s.dev.chS n).tripUn = false →
    Completes (exec (.strobeWatchdogTrip n) s) fun t =>
          bit (t.dev.rd (R.CHn_FGT_IRQ_STATUS n)) 1 = true ∧ (s.dev.flt.strobes.any (fun x => x.src = 37 && x.t / 8 = s.dev.now / 8) = false → t.dev.flt.strobes.any (fun x => x.src = 37 ∧ x.d0 = 2 ^ 24 + n.val) = true) ∧
          (t.dev.chS n).tripUn = true ∧ (s.dev.armed 37 0 = true → t.dev.on (F.CHn_FGT_STATUS.permit n) = false) ∧ t.mem = s.mem ∧ t.pending = s.pending) ∧
  (∀ (s : State) (n : Fin 8),
    s.dev.wdRuns n = true →
    s.dev.blMode n = 2 →
    (s.dev.chS n).tripSt = false →
    Completes (exec (.dmoStuck n true) s) fun t =>
          bit (t.dev.rd (R.CHn_FGT_IRQ_STATUS n)) 1 = true ∧ (s.dev.flt.strobes.any (fun x => x.src = 37 && x.t / 8 = s.dev.now / 8) = false → t.dev.flt.strobes.any (fun x => x.src = 37 ∧ x.d0 = 2 * 2 ^ 24 + n.val) = true) ∧
          (t.dev.chS n).tripSt = true ∧ (s.dev.armed 37 0 = true → t.dev.on (F.CHn_FGT_STATUS.permit n) = false) ∧ t.mem = s.mem ∧ t.pending = s.pending) ∧
  (∀ (s : State) (n : Fin 8) (v : Bool),
    s.dev.direct (R.CHn_FGT_CTRL n).off →
    s.dev.twin = false →
    (s.dev.chS n).desc = none →
    Completes (exec (.permitReqWrite n v) s) fun t =>
          let was := s.dev.on (F.CHn_FGT_STATUS.permit n)
          let now := t.dev.on (F.CHn_FGT_STATUS.permit n)
          t.dev.on (F.CHn_FGT_CTRL.permit_req n) = v ∧ now = (t.dev.closable n && v && !(s.dev.chS n).dropped && !(s.dev.chS n).dark) ∧ t.dev.on (F.CHn_FGT_STATUS.closable n) = t.dev.closable n ∧
          (was = now → t.dev.out = s.dev.out ∧ t.dev.rd (R.CHn_FGT_COUNTS n) = s.dev.rd (R.CHn_FGT_COUNTS n) ∧ t.dev.rd (R.CHn_FGT_IRQ_STATUS n) = s.dev.rd (R.CHn_FGT_IRQ_STATUS n)) ∧
          (was = true ∧ now = false → t.dev.get (F.CHn_FGT_COUNTS.drops n) = min (s.dev.get (F.CHn_FGT_COUNTS.drops n) + 1) (2 ^ 16 - 1) ∧ bit (t.dev.rd (R.CHn_FGT_IRQ_STATUS n)) 2 = true) ∧
          (was = false ∧ now = true → bit (t.dev.rd (R.CHn_FGT_IRQ_STATUS n)) 3 = true ∧ (t.dev.chS n).wdFrom = s.dev.now ∧ (t.dev.chS n).tripUn = false) ∧
          s.Frame ([Part.reg (R.CHn_FGT_CTRL n).off] ++ gateParts n) t) ∧
  (∀ (s : State) (n : Fin 8) (k : Nat),
    s.dev.direct (R.CHn_FGT_CTRL n).off →
    s.dev.twin = false →
    (s.dev.chS n).desc = some k →
    s.dev.shtState k = 3 →
    (s.dev.chS n).dropped = false →
    Completes (exec (.permitReqWrite n false) s) fun t => (t.dev.chS n).reqEnd = true ∧ t.dev.on (F.CHn_FGT_STATUS.permit n) = s.dev.on (F.CHn_FGT_STATUS.permit n) ∧ s.Frame [Part.ch n] t) ∧
  (∀ (s : State) (n : Fin 8) (force : Bool),
    s.dev.idleStart = false →
    s.dev.direct (R.CHn_FGT_CMD n).off →
    s.dev.twin = false →
    (s.dev.chan n).isSome = true →
    s.dev.domOn (4 + n) = true →
    (∀ k ∈ List.range 32, s.dev.shtState k ≠ 2 ∧ s.dev.shtState k ≠ 3) →
    Completes (exec (.channelDisable n force) s) fun t =>
          t.dev.on (F.CHn_FGT_STATUS.disabled n) = true ∧ t.dev.on (F.CHn_FGT_STATUS.permit n) = false ∧ t.dev.on (F.CHn_FGT_STATUS.closable n) = false ∧
          t.dev.port n = (if s.dev.port n = 0 ∨ s.dev.port n = 7 then s.dev.port n else 1) ∧
          s.Frame ([Part.reg (R.CHn_BLP_STATUS n).off, Part.reg (R.CHn_BLP_COUNTS n).off] ++ gateParts n) t) ∧
  (∀ (s : State) (n : Fin 8) (k : Nat),
    s.dev.warned = false →
    s.dev.direct (R.CHn_FGT_CMD n).off →
    s.dev.twin = false →
    s.dev.persC = false →
    (s.dev.chan n).isSome = true →
    s.dev.domOn (4 + n) = true →
    s.dev.shtState k = 3 →
    (∀ j ∈ List.range 32, j ≠ k → s.dev.shtState j ≠ 2 ∧ s.dev.shtState j ≠ 3) →
    n.val ∈ s.dev.sheetChans k →
    bit (s.dev.get (F.SHT_Dd_CHAN.ended k)) n = false →
    s.dev.on (F.SHT_Dd_STATE.exit_seen k) = false →
    (s.dev.chS n).desc = none →
    Completes (exec (.channelDisable n false) s) (fun t => t.dev.get (F.CHn_FGT_REJECT.count n) = min (s.dev.get (F.CHn_FGT_REJECT.count n) + 1) (2 ^ 16 - 1) ∧ s.Frame [Part.reg (R.CHn_FGT_REJECT n).off] t) ∧
        Completes (exec (.channelDisable n true) s) (fun t =>
          t.dev.on (F.CHn_FGT_STATUS.disabled n) = true ∧ t.dev.on (F.CHn_FGT_STATUS.permit n) = false ∧ bit (t.dev.get (F.SHT_Dd_CHAN.ended k)) n = true ∧ bit (t.dev.get (F.SHT_Dd_STATE.dropped k)) n = true ∧
          t.dev.on (F.SHT_Dd_STATE.spoiled k) = true ∧ (s.dev.get (F.SHT_Dd_STATE.cause k) = 0 → t.dev.get (F.SHT_Dd_STATE.cause k) = 0x49) ∧ (t.dev.chS n).dropped = true ∧
          t.dev.evt.recs = s.dev.evt.recs ++ [(s.dev.slot, ⟨4, 0, 0, 0, 7, 0x08, s.dev.tagOf k, msDetail 0x49 n k, 0, s.dev.now⟩), (s.dev.slot, ⟨4, 0, 0, 0, 7, 0x07, s.dev.tagOf k, msDetail 0 n k, 0, s.dev.now⟩)] ∧
          s.Frame ([Part.recs, Part.reg (R.SHT_Dd_STATE k).off, Part.reg (R.SHT_Dd_CHAN k).off, Part.reg R.SHT_SPOILED.off, Part.reg R.SHT_STATUS.off, Part.reg (R.CHn_BLP_STATUS n).off, Part.reg (R.CHn_BLP_COUNTS n).off, Part.reg (R.CHn_SCR_STATUS n).off] ++
            gateParts n ++ strobeParts 21) t)) ∧
  (∀ (s : State) (n : Fin 8),
    s.dev.direct (R.CHn_FGT_CMD n).off →
    s.dev.twin = false →
    (if s.dev.on (F.CHn_FGT_STATUS.disabled n) = false then Completes (exec (.channelEnable n) s) fun t => t = s
        else Completes (exec (.channelEnable n) s) fun t =>
            t.dev.on (F.CHn_FGT_STATUS.disabled n) = false ∧ t.dev.port n = (if s.dev.port n = 0 ∨ s.dev.port n = 7 then s.dev.port n else 1) ∧ t.dev.on (F.CHn_FGT_STATUS.closable n) = t.dev.closable n ∧
              s.Frame ([Part.out, Part.reg (R.CHn_BLP_STATUS n).off, Part.reg (R.CHn_BLP_COUNTS n).off] ++ gateParts n) t)) ∧
  (∀ (s : State) (n : Fin 8) (k : Nat),
    s.dev.warned = false →
    s.dev.dinNamed n k = true →
    k < 32 →
    s.dev.dinLevel k = true →
    s.dev.chansInUse = [n.val] →
    Completes (exec (.interlockOpen n (k + 3)) s) fun t =>
          let cut := s.dev.armed 36 0
          t.dev.dinLevel k = false ∧ t.dev.on (F.CHn_FGT_STATUS.ilk_din n) = true ∧ bit (t.dev.rd (R.CHn_FGT_IRQ_STATUS n)) 0 = true ∧
          strobed s.dev t.dev 36 (3 * 2 ^ 24 + k * 2 ^ 16 + (if cut = true then 2 ^ n.val else 0)) (s.dev.now % 2 ^ 32) ∧
          (t.dev.chS n).latches = (if cut = true then ⟨0, 36, 0, false⟩ :: (s.dev.chS n).latches else (s.dev.chS n).latches) ∧ (cut = true → t.dev.on (F.CHn_FGT_STATUS.permit n) = false) ∧
          t.dev.on (F.FLT_SRCi_STATE.active 36) = true ∧ s.Frame ([Part.inp (128 + k)] ++ gateParts n ++ strobeParts 36 ++ activeParts 36) t) ∧
  (∀ (s : State) (n : Fin 8),
    s.dev.idleStart = false →
    s.dev.headNamed n = false ∨ s.dev.on (F.CHn_FGT_STATUS.ilk_head n) = true →
    Completes (exec (.interlockOpen n 2) s) fun t =>
          t.dev.on (F.CHn_FGT_STATUS.ilk_head n) = true ∧ s.Frame [Part.reg (R.CHn_FGT_STATUS n).off] t) ∧
  (∀ (s : State) (n : Fin 8),
    s.dev.warned = false →
    s.dev.headNamed n = true →
    s.dev.on (F.CHn_FGT_STATUS.ilk_head n) = false →
    Completes (exec (.interlockOpen n 2) s) fun t =>
          let cut := s.dev.armed 36 0
          t.dev.on (F.CHn_FGT_STATUS.ilk_head n) = true ∧ bit (t.dev.rd (R.CHn_FGT_IRQ_STATUS n)) 0 = true ∧
          strobed s.dev t.dev 36 (2 * 2 ^ 24 + (if cut = true then 2 ^ n.val else 0)) (s.dev.now % 2 ^ 32) ∧
          (t.dev.chS n).latches = (if cut = true then ⟨0, 36, 0, false⟩ :: (s.dev.chS n).latches else (s.dev.chS n).latches) ∧ (cut = true → t.dev.on (F.CHn_FGT_STATUS.permit n) = false) ∧
          (n.val ∈ s.dev.chansInUse → t.dev.on (F.FLT_SRCi_STATE.active 36) = true) ∧ s.Frame (gateParts n ++ strobeParts 36 ++ activeParts 36) t) ∧
  (∀ (s : State) (n : Fin 8),
    s.dev.warned = false →
    s.dev.chansInUse = [n.val] →
    (match s.dev.chan n with | some c => bit c.gateFlags 0 | none => false) = true →
    (if s.dev.host.estop = false then Completes (exec (.interlockOpen n 1) s) fun t => t = s
        else Completes (exec (.interlockOpen n 1) s) fun t =>
            t.dev.host.estop = false ∧ t.dev.on (F.CHn_FGT_STATUS.ilk_estop n) = true ∧ t.dev.get F.URG_STATUS.estop_level = 0 ∧ bit (t.dev.rd R.URG_STATUS) 5 = true ∧
              t.dev.get F.URG_COUNTS.estops = min (s.dev.get F.URG_COUNTS.estops + 1) (2 ^ 16 - 1) ∧ t.dev.on (F.FLT_SRCi_STATE.active 41) = true ∧ t.dev.on (F.FLT_SRCi_STATE.active 36) = true ∧
              (∃ x ∈ t.dev.flt.strobes, x.src = 36) ∧ (s.dev.armed 36 0 = true ∨ s.dev.armed 0x80 0 = true → t.dev.on (F.CHn_FGT_STATUS.permit n) = false) ∧ t.mem = s.mem ∧ t.pending = s.pending)) ∧
  (∀ (s : State) (n : Fin 8),
    s.dev.wdRuns n = true →
    s.dev.persC = false →
    (s.dev.chS n).tripUn = false →
    s.dev.evt.running = true →
    s.dev.now < 2 ^ 62 ∧ (s.dev.chS n).wdFrom < 2 ^ 62 →
    Completes (exec (.strobeWatchdogTrip n) s) fun t =>
          t.dev.now = s.dev.timeAt ((s.dev.chS n).wdFrom + max 10 (s.dev.get (F.CHn_FGT_WDOG.timeout_us n)) * 125) ∧ bit (t.dev.rd (R.CHn_FGT_IRQ_STATUS n)) 1 = true ∧
          strobed s.dev t.dev 37 (2 ^ 24 + n.val) (s.dev.get (F.CHn_SCT_SLOT.k n) % 2 ^ 32) ∧
          (if s.dev.armed 37 0 = true then (t.dev.chS n).latches = ⟨1, 37, 0, false⟩ :: (s.dev.chS n).latches ∧ t.dev.on (F.CHn_FGT_STATUS.permit n) = false
          else (t.dev.chS n).latches = (s.dev.chS n).latches ∧ (t.dev.chS n).tripUn = true ∧ t.dev.on (F.CHn_FGT_STATUS.permit n) = true) ∧
          s.Frame (gateParts n ++ strobeParts 37 ++ timeParts) t) ∧
  (∀ (s : State) (n : Fin 8),
    s.dev.wdRuns n = true →
    s.dev.persC = false →
    s.dev.blMode n = 2 →
    (s.dev.chS n).tripSt = false →
    Completes (exec (.dmoStuck n true) s) fun t =>
          t.dev.sys.now8 = s.dev.sys.now8 + max 1 (s.dev.get (F.CHn_FGT_WDOG.stuck_ticks n)) + 1 ∧ bit (t.dev.rd (R.CHn_FGT_IRQ_STATUS n)) 1 = true ∧
          strobed s.dev t.dev 37 (2 * 2 ^ 24 + n.val) (s.dev.get (F.CHn_SCT_SLOT.k n) % 2 ^ 32) ∧
          (if s.dev.armed 37 0 = true then (t.dev.chS n).latches = ⟨2, 37, 0, false⟩ :: (s.dev.chS n).latches ∧ t.dev.on (F.CHn_FGT_STATUS.permit n) = false
          else (t.dev.chS n).latches = (s.dev.chS n).latches ∧ (t.dev.chS n).tripSt = true) ∧
          s.Frame (gateParts n ++ strobeParts 37 ++ timeParts) t) ∧
  (∀ (s : State) (n : Fin 8),
    s.dev.blMode n = 2 →
    Completes (exec (.dmoStuck n false) s) fun t => (t.dev.chS n).tripSt = false ∧ s.Frame [Part.ch n] t) ∧
  (∀ (s : State) (n : Fin 8),
    (s.dev.chS n).tripSt = true ∨ s.dev.blMode n ≠ 2 →
    Completes (exec (.dmoStuck n true) s) fun t => t = s) ∧
  (∀ (s : State) (n : Fin 8),
    s.dev.idleStart = false →
    s.dev.on (F.CHn_FGT_STATUS.permit n) = false →
    Completes (exec (.strobeWatchdogTrip n) s) (fun t => t = s) ∧ Completes (exec (.dmoStuck n true) s) (fun t => t = s) ∧ Completes (exec (.interlockOpen n 0) s) (fun t => t = s))

/-- R42, R270, R271, R274, R275, R281, R283: A non-zero set-point, by register or by SPEED_SET, starts an idle axis into CATCH
toward the target clamped to max_speed, at its rate; while it runs in the same direction only the target changes; a reversal
of a unidirectional axis is refused with code 2. Zero stops it: RUN goes to STOPPING at stop_rate, a start in progress to
the idle state. An axis that is OFF counts a reject; one in FAULT, with its bus cut or without a current loop gain refuses
with codes 4, 3 and 6. Enable leaves OFF, disable goes back there by way of a stop, clear_fault leaves FAULT. Points the
spec leaves open follow the model's choice of log entry 232. -/
def Obligations.BrushlessSpeed : Prop :=
  (∀ (s : State) (a : Fin 16) (v : Word32),
    s.dev.idled = true →
    s.dev.direct (R.BLD_AXa_SETPOINT a).off →
    s.dev.twin = false →
    Completes (exec (.setpointWrite a v) s) fun t =>
          t.dev.rd (R.BLD_AXa_SETPOINT a) = v.toNat ∧ t.dev.bldS a = s.dev.bldS a ∧ t.dev.bldState a = s.dev.bldState a ∧
          (if s.dev.bldState a = 0 then t.dev.get F.BLD_REJECT.count = min (s.dev.get F.BLD_REJECT.count + 1) (2 ^ 16 - 1) ∧ s.Frame [Part.reg (R.BLD_AXa_SETPOINT a).off, Part.reg R.BLD_REJECT.off] t
          else s.Frame [Part.reg (R.BLD_AXa_SETPOINT a).off] t)) ∧
  (∀ (s : State) (a : Fin 16) (v : Word32),
    s.dev.idled = false →
    s.dev.direct (R.BLD_AXa_SETPOINT a).off →
    s.dev.twin = false →
    s.dev.bldState a = 1 ∨ s.dev.bldState a = 2 →
    (s.dev.axis a).isSome = true →
    s.dev.bldBlocked a = none →
    sext 32 v.toNat ≠ 0 →
    Completes (exec (.setpointWrite a v) s) fun t =>
          t.dev.rd (R.BLD_AXa_SETPOINT a) = v.toNat ∧ t.dev.bldState a = 3 ∧ (t.dev.bldS a).target = s.dev.clampTarget a (sext 32 v.toNat) ∧ (t.dev.bldS a).rate = s.dev.get (F.BLD_AXa_RATES.accel a) ∧
          (t.dev.bldS a).runtime = true ∧ (t.dev.bldS a).since = s.dev.sys.now8 ∧ s.Frame ([Part.reg (R.BLD_AXa_SETPOINT a).off] ++ axParts a) t) ∧
  (∀ (s : State) (a : Fin 16) (v : Word32),
    s.dev.idled = false →
    s.dev.direct (R.BLD_AXa_SETPOINT a).off →
    s.dev.twin = false →
    s.dev.bldState a = 7 →
    (s.dev.axis a).isSome = true →
    s.dev.bldBlocked a = none →
    sext 32 v.toNat ≠ 0 →
    Completes (exec (.setpointWrite a v) s) fun t =>
          let tg := s.dev.clampTarget a (sext 32 v.toNat)
          if (s.dev.bldS a).running = 0 ∨ sgn tg = (s.dev.bldS a).running then t.dev.bldState a = 7 ∧ (t.dev.bldS a).target = tg ∧ (t.dev.bldS a).atN = 0 ∧ (t.dev.bldS a).moving = false ∧
            s.Frame [Part.bld a, Part.reg (R.BLD_AXa_SETPOINT a).off, Part.reg (R.BLD_AXa_REMAIN a).off] t
          else if s.dev.uni a = true then axRefused s t a 2 ∧ t.dev.bldS a = s.dev.bldS a ∧ s.Frame ([Part.reg (R.BLD_AXa_SETPOINT a).off, Part.reg (R.BLD_AXa_REFUSE a).off, Part.reg (R.BLD_AXa_IRQ_STATUS a).off] ++ irqParts) t
          else t.dev.bldState a = 8 ∧ (t.dev.bldS a).target = 0 ∧ (t.dev.bldS a).startDue = some (tg, s.dev.get (F.BLD_AXa_RATES.accel a), true) ∧ s.Frame ([Part.reg (R.BLD_AXa_SETPOINT a).off] ++ axParts a) t) ∧
  (∀ (s : State) (a : Fin 16) (v : Word32),
    s.dev.idled = false →
    s.dev.direct (R.BLD_AXa_SETPOINT a).off →
    s.dev.twin = false →
    3 ≤ s.dev.bldState a ∧ s.dev.bldState a ≤ 6 →
    (s.dev.axis a).isSome = true →
    s.dev.bldBlocked a = none →
    sext 32 v.toNat ≠ 0 →
    (s.dev.bldS a).target ≠ 0 →
    sgn (s.dev.clampTarget a (sext 32 v.toNat)) ≠ sgn (s.dev.bldS a).target →
    Completes (exec (.setpointWrite a v) s) fun t =>
          if s.dev.uni a = true then axRefused s t a 2 ∧ t.dev.bldS a = s.dev.bldS a ∧ s.Frame ([Part.reg (R.BLD_AXa_SETPOINT a).off, Part.reg (R.BLD_AXa_REFUSE a).off, Part.reg (R.BLD_AXa_IRQ_STATUS a).off] ++ irqParts) t
          else t.dev.bldState a = 3 ∧ (t.dev.bldS a).target = s.dev.clampTarget a (sext 32 v.toNat) ∧ (t.dev.bldS a).tries = 0 ∧ s.Frame ([Part.reg (R.BLD_AXa_SETPOINT a).off] ++ axParts a) t) ∧
  (∀ (s : State) (a : Fin 16),
    s.dev.idled = false →
    s.dev.direct (R.BLD_AXa_SETPOINT a).off →
    s.dev.twin = false →
    1 ≤ s.dev.bldState a ∧ s.dev.bldState a ≤ 8 →
    Completes (exec (.setpointWrite a 0) s) fun t =>
          let st := s.dev.bldState a
          t.dev.rd (R.BLD_AXa_SETPOINT a) = 0 ∧ (t.dev.bldS a).target = 0 ∧ (t.dev.bldS a).rate = s.dev.get (F.BLD_AXa_RATES.stop_rate a) ∧ (t.dev.bldS a).restartAt = 0 ∧ (t.dev.bldS a).moving = false ∧
          ((s.dev.bldS a).moveDone = s.dev.sys.now8 + 1 → t.dev.on (F.BLD_AXa_STATUS.too_late_to_abort a) = true) ∧
          t.dev.bldState a = (if st = 7 ∨ st = 8 then 8 else if 3 ≤ st then (if (s.dev.bldS a).offPend = true then 0 else s.dev.bldIdleState a) else st) ∧ s.Frame ([Part.reg (R.BLD_AXa_SETPOINT a).off] ++ axParts a) t) ∧
  (∀ (s : State) (a : Fin 16) (v : Word32),
    s.dev.idled = false →
    s.dev.direct (R.BLD_AXa_SETPOINT a).off →
    s.dev.twin = false →
    sext 32 v.toNat ≠ 0 →
    s.dev.bldState a = 0 ∨ (s.dev.bldBlocked a).isSome = true →
    (s.dev.axis a).isSome = true →
    Completes (exec (.setpointWrite a v) s) fun t =>
          if s.dev.bldState a = 0 then t.dev.get F.BLD_REJECT.count = min (s.dev.get F.BLD_REJECT.count + 1) (2 ^ 16 - 1) ∧ s.Frame [Part.reg (R.BLD_AXa_SETPOINT a).off, Part.reg R.BLD_REJECT.off] t
          else axRefused s t a (if s.dev.bldState a = 10 then 4 else if s.dev.busCut a = true ∨ s.dev.sys.cut = true then 3 else 6) ∧
            s.Frame ([Part.reg (R.BLD_AXa_SETPOINT a).off, Part.reg (R.BLD_AXa_REFUSE a).off, Part.reg (R.BLD_AXa_IRQ_STATUS a).off] ++ irqParts) t) ∧
  (∀ (s : State) (f : Firing),
    s.dev.idled = false →
    s.dev.actionHit 4 f.target = false →
    f.target < 16 ∧ f.arg < 16 →
    s.dev.bldState f.target = 1 ∨ s.dev.bldState f.target = 2 →
    s.dev.bldBlocked f.target = none →
    (s.dev.axis f.target).isSome = true →
    s.dev.rd (R.BLD_AXa_SRECr f.target f.arg) < 2 ^ 48 →
    sext 32 (s.dev.get (F.BLD_AXa_SRECr.speed f.target f.arg)) ≠ 0 →
    Completes (exec (.speedSet f) s) fun t =>
          t.dev.bldState f.target = 3 ∧ (t.dev.bldS f.target).target = s.dev.clampTarget f.target (sext 32 (s.dev.get (F.BLD_AXa_SRECr.speed f.target f.arg))) ∧
          (t.dev.bldS f.target).rate = max 1 (s.dev.get (F.BLD_AXa_SRECr.accel f.target f.arg)) ∧ (t.dev.bldS f.target).runtime = true ∧ fired s t 4 f false ∧ s.Frame (firingParts f ++ axParts f.target) t) ∧
  (∀ (s : State) (f : Firing),
    s.dev.actionHit 4 f.target = false →
    f.late = false ∧ f.tag = 0 →
    s.dev.bldState f.target = 0 ∨ s.dev.idled = true ∨ 16 ≤ f.arg ∨ 2 ^ 48 ≤ s.dev.rd (R.BLD_AXa_SRECr f.target f.arg) →
    Completes (exec (.speedSet f) s) fun t =>
          (if s.dev.bldState f.target = 0 ∨ s.dev.idled = true then t.dev.get F.BLD_REJECT.count = min (s.dev.get F.BLD_REJECT.count + 1) (2 ^ 16 - 1)
          else axRefused s t f.target 5) ∧ fired s t 4 f true ∧ bit (t.dev.rd R.EVT_STATUS) 2 = true ∧
          s.Frame ([Part.reg R.BLD_REJECT.off, Part.reg (R.BLD_AXa_REFUSE f.target).off, Part.reg (R.BLD_AXa_IRQ_STATUS f.target).off] ++ turnedParts) t) ∧
  (∀ (s : State) (a : Fin 16),
    s.dev.direct (R.BLD_AXa_CMD a).off →
    s.dev.twin = false →
    s.dev.bldState a = 0 →
    (s.dev.axis a).isSome = true →
    s.dev.get F.SYS_HOST_STATE.state ≠ 4 ∧ s.dev.get F.SYS_HOST_STATE.state ≠ 2 →
    Completes (exec (.bldEnable a) s) fun t => t.dev.bldState a = s.dev.bldIdleState a ∧ (t.dev.bldS a).since = s.dev.sys.now8 ∧ s.Frame (axParts a) t) ∧
  (∀ (s : State) (a : Fin 16),
    s.dev.direct (R.BLD_AXa_CMD a).off →
    s.dev.twin = false →
    s.dev.bldState a ≠ 0 →
    s.dev.bldState a ≤ 9 →
    Completes (exec (.bldDisable a) s) fun t =>
          let st := s.dev.bldState a
          t.dev.bldState a = (if st = 9 then 9 else if st = 7 ∨ st = 8 then 8 else 0) ∧ (t.dev.bldS a).offPend = (decide (7 ≤ st)) ∧ (st = 7 ∨ st = 8 → (t.dev.bldS a).target = 0 ∧ (t.dev.bldS a).rate = s.dev.get (F.BLD_AXa_RATES.stop_rate a)) ∧
          (t.dev.bldS a).startDue = none ∧ (t.dev.bldS a).restartAt = 0 ∧ (t.dev.bldS a).moving = false ∧
          ((s.dev.bldS a).moveDone = s.dev.sys.now8 + 1 → t.dev.on (F.BLD_AXa_STATUS.too_late_to_abort a) = true) ∧ s.Frame (axParts a) t) ∧
  (∀ (s : State) (a : Fin 16),
    s.dev.direct (R.BLD_AXa_CMD a).off →
    s.dev.twin = false →
    s.dev.bldState a = 10 →
    Completes (exec (.bldClearFault a) s) fun t => t.dev.bldState a = (if (s.dev.bldS a).offPend = true then 0 else s.dev.bldIdleState a) ∧ (t.dev.bldS a).restarts = [] ∧ (t.dev.bldS a).tries = 0 ∧ (t.dev.bldS a).wref = 0 ∧ t.dev.on (F.FLT_SRCi_STATE.active 26) = decide (∃ b ∈ List.range 16, t.dev.bldState b = 10) ∧ s.Frame (axParts a ++ activeParts 26) t) ∧
  (∀ (s : State) (a : Fin 16),
    s.dev.direct (R.BLD_AXa_CMD a).off →
    s.dev.twin = false →
    (s.dev.bldState a ≠ 10 → Completes (exec (.bldClearFault a) s) fun t => t.dev.get F.BLD_REJECT.count = min (s.dev.get F.BLD_REJECT.count + 1) (2 ^ 16 - 1) ∧ s.Frame [Part.reg R.BLD_REJECT.off] t) ∧
        (s.dev.bldState a ≠ 0 → Completes (exec (.bldEnable a) s) fun t => t.dev.get F.BLD_REJECT.count = min (s.dev.get F.BLD_REJECT.count + 1) (2 ^ 16 - 1) ∧ s.Frame [Part.reg R.BLD_REJECT.off] t) ∧
        (s.dev.bldState a = 0 → Completes (exec (.bldDisable a) s) fun t => t.dev.get F.BLD_REJECT.count = min (s.dev.get F.BLD_REJECT.count + 1) (2 ^ 16 - 1) ∧ s.Frame [Part.reg R.BLD_REJECT.off] t))

/-- R83, R274, R275, R276, R278, R283: A move of an idle axis takes the plan of its record, starts the axis toward the record's
speed and shows it active; a record with a wrong field or a plan behind a unidirectional axis is refused with its code. A
stop keeps the remaining distance; a stop in the tick the move completed is too late; a resume goes on toward the original
target. A slew ends with the phase correction at 0. -/
def Obligations.BrushlessMoves : Prop :=
  (∀ (s : State) (f : Firing),
    s.dev.actionHit 1 f.target = false ∧ s.dev.actionHit 3 f.target = false →
    f.late = false ∧ f.tag = 0 ∧ f.target < 16 →
    s.dev.bldState f.target = 0 ∨ s.dev.idled = true →
    Completes (exec (.moveStart f) s) (fun t =>
          t.dev.get F.BLD_REJECT.count = min (s.dev.get F.BLD_REJECT.count + 1) (2 ^ 16 - 1) ∧ fired s t 1 f true ∧ s.Frame ([Part.reg R.BLD_REJECT.off] ++ turnedParts) t) ∧
        Completes (exec (.moveResume f) s) (fun t =>
          t.dev.get F.BLD_REJECT.count = min (s.dev.get F.BLD_REJECT.count + 1) (2 ^ 16 - 1) ∧ fired s t 3 f true ∧ s.Frame ([Part.reg R.BLD_REJECT.off] ++ turnedParts) t)) ∧
  (∀ (s : State) (f : Firing),
    s.dev.idled = false →
    s.dev.actionHit 1 f.target = false →
    f.target < 16 ∧ f.arg < 8 →
    s.dev.bldState f.target = 1 ∨ s.dev.bldState f.target = 2 →
    s.dev.bldBlocked f.target = none →
    (s.dev.axis f.target).isSome = true →
    s.dev.rd (R.BLD_AXa_MRECr f.target f.arg 1) < 2 ^ 32 →
    (s.dev.bldPlan f.target f.arg).2 = none →
    (s.dev.bldPlan f.target f.arg).1.rev = 0 →
    Completes (exec (.moveStart f) s) fun t =>
          let m := (s.dev.bldPlan f.target f.arg).1
          let v : Int := (s.dev.get (F.BLD_AXa_MRECr.speed f.target f.arg) : Nat)
          t.dev.bldState f.target = 3 ∧ (t.dev.bldS f.target).move = some m ∧ (t.dev.bldS f.target).moving = true ∧ t.dev.get (F.BLD_AXa_STATUS.move_active f.target) = 1 ∧
          (t.dev.bldS f.target).target = s.dev.clampTarget f.target (if m.target < m.p then -v else v) ∧ (t.dev.bldS f.target).rate = max 1 (s.dev.get (F.BLD_AXa_MRECr.accel f.target f.arg)) ∧
          m.target = (s.dev.bldPos f.target + sext 32 (s.dev.get (F.BLD_AXa_MRECr.distance f.target f.arg))) * 2 ^ 32 ∧ fired s t 1 f false ∧ s.Frame (firingParts f ++ axParts f.target) t) ∧
  (∀ (s : State) (f : Firing),
    s.dev.idled = false →
    s.dev.actionHit 1 f.target = false →
    f.target < 16 ∧ f.arg < 8 →
    s.dev.bldState f.target = 7 →
    s.dev.bldBlocked f.target = none →
    (s.dev.axis f.target).isSome = true →
    s.dev.rd (R.BLD_AXa_MRECr f.target f.arg 1) < 2 ^ 32 →
    (s.dev.bldPlan f.target f.arg).2 = none →
    (s.dev.bldPlan f.target f.arg).1.rev ≠ 0 →
    Completes (exec (.moveStart f) s) fun t =>
          t.dev.bldState f.target = 8 ∧ (t.dev.bldS f.target).move = some (s.dev.bldPlan f.target f.arg).1 ∧ (t.dev.bldS f.target).moving = true ∧ (t.dev.bldS f.target).target = 0 ∧
          (t.dev.bldS f.target).startDue.isSome = true ∧ t.dev.get (F.BLD_AXa_STATUS.move_active f.target) = 1 ∧ fired s t 1 f false ∧ s.Frame (firingParts f ++ axParts f.target) t) ∧
  (∀ (s : State) (f : Firing),
    s.dev.idled = false →
    s.dev.actionHit 1 f.target = false →
    f.late = false ∧ f.tag = 0 ∧ f.target < 16 →
    s.dev.bldState f.target ≠ 0 →
    s.dev.bldBlocked f.target = none →
    8 ≤ f.arg ∨ 2 ^ 32 ≤ s.dev.rd (R.BLD_AXa_MRECr f.target f.arg 1) ∨ (s.dev.bldPlan f.target f.arg).2.isSome = true →
    Completes (exec (.moveStart f) s) fun t =>
          (if 8 ≤ f.arg ∨ 2 ^ 32 ≤ s.dev.rd (R.BLD_AXa_MRECr f.target f.arg 1) then axRefused s t f.target 5 else axRefused s t f.target ((s.dev.bldPlan f.target f.arg).2.getD 0)) ∧
          fired s t 1 f true ∧ bit (t.dev.rd R.EVT_STATUS) 2 = true ∧
          s.Frame ([Part.reg (R.BLD_AXa_REFUSE f.target).off, Part.reg (R.BLD_AXa_IRQ_STATUS f.target).off] ++ turnedParts) t) ∧
  (∀ (s : State) (f : Firing) (m : Prof),
    s.dev.actionHit 2 f.target = false →
    f.target < 16 →
    s.dev.bldState f.target = 7 ∨ s.dev.bldState f.target = 3 →
    (s.dev.bldS f.target).moving = true →
    (s.dev.bldS f.target).move = some m →
    Completes (exec (.moveStop f) s) fun t =>
          t.dev.bldState f.target = (if s.dev.bldState f.target = 7 then 8 else if (s.dev.bldS f.target).offPend = true then 0 else s.dev.bldIdleState f.target) ∧ (t.dev.bldS f.target).moving = false ∧ (t.dev.bldS f.target).move = some m ∧ (t.dev.bldS f.target).target = 0 ∧
          t.dev.get (F.BLD_AXa_REMAIN.remain f.target) = enc 32 (m.target / 2 ^ 32 - s.dev.bldPos f.target) ∧ (t.dev.bldS f.target).rate = s.dev.get (F.BLD_AXa_RATES.stop_rate f.target) ∧ fired s t 2 f false ∧
          s.Frame (firingParts f ++ axParts f.target) t) ∧
  (∀ (s : State) (f : Firing),
    s.dev.actionHit 2 f.target = false →
    f.target < 16 →
    s.dev.bldState f.target ≠ 0 →
    (s.dev.bldS f.target).moveDone = s.dev.sys.now8 + 1 →
    Completes (exec (.moveStop f) s) fun t => t.dev.on (F.BLD_AXa_STATUS.too_late_to_abort f.target) = true ∧ fired s t 2 f false ∧ s.Frame (firingParts f ++ axParts f.target) t) ∧
  (∀ (s : State) (f : Firing) (m : Prof),
    s.dev.idled = false →
    s.dev.actionHit 3 f.target = false →
    f.target < 16 →
    s.dev.bldState f.target = 1 ∨ s.dev.bldState f.target = 2 →
    s.dev.bldBlocked f.target = none →
    (s.dev.axis f.target).isSome = true →
    (s.dev.bldS f.target).moving = false →
    (s.dev.bldS f.target).move = some m →
    m.target / 2 ^ 32 ≠ s.dev.bldPos f.target →
    ((s.dev.bldNow f.target).replan m.target m.acc m.dec m.peak (s.dev.uni f.target)).2 = none →
    ((s.dev.bldNow f.target).replan m.target m.acc m.dec m.peak (s.dev.uni f.target)).1.rev = 0 →
    Completes (exec (.moveResume f) s) fun t =>
          t.dev.bldState f.target = 3 ∧ (t.dev.bldS f.target).moving = true ∧ (t.dev.bldS f.target).move = some ((s.dev.bldNow f.target).replan m.target m.acc m.dec m.peak (s.dev.uni f.target)).1 ∧
          t.dev.get (F.BLD_AXa_STATUS.move_active f.target) = 1 ∧ fired s t 3 f false ∧ s.Frame (firingParts f ++ axParts f.target) t) ∧
  (∀ (s : State) (f : Firing) (m : Prof) (code : Nat),
    s.dev.idled = false →
    s.dev.actionHit 3 f.target = false →
    f.tag = 0 ∧ f.target < 16 →
    s.dev.bldState f.target ≠ 0 →
    s.dev.bldBlocked f.target = none →
    (s.dev.bldS f.target).moving = false →
    (s.dev.bldS f.target).move = some m →
    m.target / 2 ^ 32 ≠ s.dev.bldPos f.target →
    ((s.dev.bldNow f.target).replan m.target m.acc m.dec m.peak (s.dev.uni f.target)).2 = some code →
    Completes (exec (.moveResume f) s) fun t => axRefused s t f.target code ∧ t.dev.bldS f.target = s.dev.bldS f.target ∧ fired s t 3 f true ∧
          s.Frame ([Part.reg (R.BLD_AXa_REFUSE f.target).off, Part.reg (R.BLD_AXa_IRQ_STATUS f.target).off] ++ turnedParts ++ firingParts f) t) ∧
  (∀ (s : State) (f : Firing),
    s.dev.actionHit 3 f.target = false →
    f.late = false ∧ f.tag = 0 ∧ f.target < 16 →
    (s.dev.bldS f.target).move = none →
    Completes (exec (.moveResume f) s) fun t =>
          (s.dev.bldState f.target = 0 → t.dev.get F.BLD_REJECT.count = min (s.dev.get F.BLD_REJECT.count + 1) (2 ^ 16 - 1)) ∧ fired s t 3 f true ∧ s.Frame ([Part.reg R.BLD_REJECT.off] ++ turnedParts) t) ∧
  (∀ (s : State) (a : Fin 16),
    s.dev.on (F.BLD_AXa_STATUS.slewing a) = true →
    s.dev.evt.running = true →
    s.dev.now < 2 ^ 62 ∧ (s.dev.bldS a).slewEnd < 2 ^ 62 →
    Completes (exec (.slewDone a) s) fun t =>
          t.dev.now = s.dev.timeAt ((s.dev.bldS a).slewEnd - 1) ∧ (t.dev.bldS a).cPh = 0 ∧ (t.dev.bldS a).slewEnd = 0 ∧ t.dev.on (F.BLD_AXa_STATUS.slewing a) = false ∧ s.Frame ([Part.bld a, Part.reg (R.BLD_AXa_STATUS a).off] ++ timeParts) t)

/-- R267, R271, R272, R273, R282, R283: CATCH without back-EMF for 20 ms goes to ALIGN; ALIGN goes to RAMP after align_ms with
the forced speed at 0; RAMP without a hand-over counts a failed start and waits 100 ms in COAST, or with its restarts used
up records it and goes to FAULT; a restart that is due goes to CATCH again, or to FAULT; BRAKE that takes too long records
it and goes to FAULT. Outside its state each does nothing. -/
def Obligations.BrushlessStart : Prop :=
  (∀ (s : State) (a : Fin 16),
    s.dev.bldState a = 3 →
    Completes (exec (.catchTimeout a) s) fun t =>
          if (s.dev.bldS a).seenE = true then t = s
          else t.dev.sys.now8 = max s.dev.sys.now8 ((s.dev.bldS a).since + 2500000) ∧ t.dev.bldState a = 5 ∧ (t.dev.bldS a).since = t.dev.sys.now8 ∧ s.Frame (axParts a ++ timeParts) t) ∧
  (∀ (s : State) (a : Fin 16),
    s.dev.bldState a = 5 →
    Completes (exec (.alignDone a) s) fun t =>
          t.dev.sys.now8 = max s.dev.sys.now8 ((s.dev.bldS a).since + max 1 (s.dev.ga (F.BLD_AXa_START3.align_ms a)) * 500000) ∧ t.dev.bldState a = 6 ∧ (t.dev.bldS a).forced = 0 ∧ (t.dev.bldS a).forcedTh = 0 ∧
          s.Frame (axParts a ++ timeParts) t) ∧
  (∀ (s : State) (a : Fin 16),
    s.dev.bldState a = 6 →
    Completes (exec (.rampTimeout a) s) fun t =>
          let now := max s.dev.sys.now8 ((s.dev.bldS a).since + 187500000 * s.dev.ga (F.BLD_AXa_START2.handover_rpm a) / max 1 (10 * s.dev.ga (F.BLD_AXa_START3.ramp_rate a)))
          let n := (s.dev.bldS a).tries
          t.dev.sys.now8 = now ∧ t.dev.get (F.BLD_AXa_COUNTS.start_fail a) = min (s.dev.get (F.BLD_AXa_COUNTS.start_fail a) + 1) (2 ^ 8 - 1) ∧
          (if s.dev.ga (F.BLD_AXa_START3.start_retries a) ≤ n then t.dev.bldState a = 10 ∧ t.dev.on (F.FLT_SRCi_STATE.active 26) = true ∧ bit (t.dev.rd (R.BLD_AXa_IRQ_STATUS a)) 5 = true ∧
            (strobed s.dev t.dev 26 (0x30 * 2 ^ 24 + a.val * 2 ^ 16 + n % 65536) (enc 32 (openDiv 2 (s.dev.bldS a).forced 1000000000)))
          else t.dev.bldState a = 1 ∧ (t.dev.bldS a).restartAt = now + 12500001 ∧ (t.dev.bldS a).tries = n + 1 ∧ t.dev.flt.strobes = s.dev.flt.strobes) ∧
          s.Frame ([Part.reg (R.BLD_AXa_COUNTS a).off] ++ axParts a ++ strobeParts 26 ++ activeParts 26 ++ timeParts) t) ∧
  (∀ (s : State) (a : Fin 16),
    (s.dev.bldS a).restartAt ≠ 0 →
    s.dev.bldState a = 1 →
    Completes (exec (.restartDelay a) s) fun t =>
          let now := max s.dev.sys.now8 ((s.dev.bldS a).restartAt - 1)
          let rs := recent now (s.dev.bldS a).restarts
          t.dev.sys.now8 = now ∧ (t.dev.bldS a).restartAt = 0 ∧
          (if (s.dev.bldS a).tries ≠ 0 then t.dev.bldState a = 3 ∧ (t.dev.bldS a).restarts = (s.dev.bldS a).restarts
          else if s.dev.ga (F.BLD_AXa_START3.start_retries a) ≤ rs.length then t.dev.bldState a = 10 ∧ t.dev.on (F.FLT_SRCi_STATE.active 26) = true ∧ bit (t.dev.rd (R.BLD_AXa_IRQ_STATUS a)) 5 = true
          else t.dev.bldState a = 3 ∧ (t.dev.bldS a).restarts = rs ++ [now] ∧ t.dev.bldRestarts a = min 7 (rs.length + 1)) ∧ s.Frame (axParts a ++ activeParts 26 ++ timeParts) t) ∧
  (∀ (s : State) (a : Fin 16),
    s.dev.bldState a = 4 →
    Completes (exec (.brakeTimeout a) s) fun t =>
          t.dev.sys.now8 = max s.dev.sys.now8 ((s.dev.bldS a).since + max 1 (s.dev.ga (F.BLD_AXa_START3.brake_max a)) * 12500000) ∧ t.dev.bldState a = 10 ∧ t.dev.on (F.FLT_SRCi_STATE.active 26) = true ∧ bit (t.dev.rd (R.BLD_AXa_IRQ_STATUS a)) 5 = true ∧
          strobed s.dev t.dev 26 (0x34 * 2 ^ 24 + a.val * 2 ^ 16) (enc 32 (s.dev.bldS a).obs.omega) ∧ s.Frame (axParts a ++ strobeParts 26 ++ activeParts 26 ++ timeParts) t) ∧
  (∀ (s : State) (a : Fin 16),
    s.dev.bldState a = 0 ∨ s.dev.bldState a = 7 →
    s.dev.on (F.BLD_AXa_STATUS.slewing a) = false →
    Completes (exec (.catchTimeout a) s) (fun t => t = s) ∧ Completes (exec (.alignDone a) s) (fun t => t = s) ∧ Completes (exec (.rampTimeout a) s) (fun t => t = s) ∧
        Completes (exec (.restartDelay a) s) (fun t => t = s) ∧ Completes (exec (.brakeTimeout a) s) (fun t => t = s) ∧ Completes (exec (.slewDone a) s) (fun t => t = s))

/-- R260, R261, R262, R263, R264, R266, R268, R270, R283: A PWM period takes the compare values computed for it and transfers a
group that is ready. A current sample runs the observer on the currents, shows speed and position; in ALIGN, and in RUN
between speed samples, the current loop shows the rotated currents, its angle and voltages and computes three compare values
inside the period; at a speed sample the reference speed moves toward the target by no more than its rate allows and the
current reference stays inside its limit. An axis that is OFF does nothing. Points the spec leaves open follow the model's
choices of log entries 6 and 257. -/
def Obligations.BrushlessCurrent : Prop :=
  (∀ (s : State) (a : Fin 16) (iu iv : Int),
    s.dev.bldState a ≠ 0 →
    s.dev.domOn 3 = true →
    (s.dev.axis a).isSome = true →
    Completes (exec (.currentSample a iu iv) s) fun t =>
          let st := s.dev.bldState a
          t.dev.rd (R.BLD_AXa_SPEED a) = enc 32 (t.dev.bldS a).obs.omega ∧
          t.dev.get (F.BLD_AXa_COUNTS.saturated a) = min (s.dev.get (F.BLD_AXa_COUNTS.saturated a) + b2n (fullScale iu) + b2n (fullScale iv)) (2 ^ 16 - 1) ∧
          (3 ≤ st → st ≤ 9 → st ≠ 4 → (t.dev.bldS a).cmpNext.length = 3 ∧ ∀ c ∈ (t.dev.bldS a).cmpNext, c ≤ s.dev.pwmN a - (s.dev.ga (F.BLD_AXa_PWM.sample_ns a) + 7) / 8) ∧
          (st = 1 ∨ st = 2 ∨ st = 5 ∨ st = 10 → t.dev.bldState a = st) ∧ t.mem = s.mem ∧ t.pending = s.pending) ∧
  (∀ (s : State) (a : Fin 16),
    (∀ u ∈ s.dev.twn.slots, s.dev.now < u.ts + 128) →
    (s.dev.axis a).isSome = true →
    s.dev.domOn 3 = true →
    Completes (exec (.pwmPeriodStart a) s) fun t =>
          (t.dev.bldS a).cmp = (s.dev.bldS a).cmpNext ∧ (t.dev.bldS a).cmpLast = (s.dev.bldS a).cmp ∧
          (if s.dev.isReady (R.BLD_AXa_COMMIT a) = true then
            (∀ r ∈ bldGroup a, t.dev.act r = s.dev.rd r) ∧ (t.dev.gaOn (F.BLD_AXa_CTRL.phase_en a) = false → s.dev.on (F.BLD_AXa_STATUS.slewing a) = false → (t.dev.bldS a).cPh = 0) ∧ t.dev.isReady (R.BLD_AXa_COMMIT a) = false ∧ t.dev.on (F.BLD_AXa_STATUS.shadow_pending a) = false ∧ bit (t.dev.rd (R.BLD_AXa_IRQ_STATUS a)) 0 = true ∧
              s.Frame ([Part.bld a, Part.rdy (R.BLD_AXa_COMMIT a).off, Part.reg (R.BLD_AXa_STATUS a).off, Part.reg (R.BLD_AXa_IRQ_STATUS a).off] ++ (bldGroup a).map (fun r => Part.act r.off) ++ irqParts) t
          else s.Frame [Part.bld a] t)) ∧
  (∀ (s : State) (a : Fin 16),
    s.dev.axis a = none ∨ s.dev.domOn 3 = false →
    Completes (exec (.pwmPeriodStart a) s) fun t => t = s) ∧
  (∀ (s : State) (a : Fin 16) (iu iv : Int),
    s.dev.bldState a = 0 ∨ s.dev.domOn 3 = false ∨ s.dev.axis a = none →
    Completes (exec (.currentSample a iu iv) s) fun t => t = s) ∧
  (∀ (s : State) (a : Fin 16) (iu iv : Int),
    s.dev.bldState a = 1 ∨ s.dev.bldState a = 2 ∨ s.dev.bldState a = 5 →
    s.dev.domOn 3 = true →
    (s.dev.axis a).isSome = true →
    fullScale iu = false ∧ fullScale iv = false →
    Completes (exec (.currentSample a iu iv) s) fun t =>
          let i := clarke (curQ15 iu) (curQ15 iv)
          let v := s.dev.busV a
          let o := observer (s.dev.bldS a).obs i.1 i.2 (openDiv 10 ((s.dev.bldS a).vA * v.1) v.2) (openDiv 10 ((s.dev.bldS a).vB * v.1) v.2) (s.dev.ga (F.BLD_AXa_MOTOR1.rs a)) (s.dev.ga (F.BLD_AXa_MOTOR1.ls a)) (s.dev.ga (F.BLD_AXa_OBS.obs_bw a)) (s.dev.ga (F.BLD_AXa_OBS.pll_bw a)) (s.dev.pwmN a) (s.dev.polePairs a)
          (t.dev.bldS a).obs = o ∧ t.dev.rd (R.BLD_AXa_SPEED a) = enc 32 o.omega ∧ t.dev.rd (R.BLD_AXa_POS a) = enc 64 (s.dev.bldPos a) ∧ (t.dev.bldS a).per = (s.dev.bldS a).per + 1 ∧ t.dev.bldState a = s.dev.bldState a ∧
          (if s.dev.bldState a = 5 then t.dev.rd (R.BLD_AXa_IDQ a) = enc 16 (rotate 22 0 i.1 i.2).2 * 65536 + enc 16 (rotate 22 0 i.1 i.2).1 ∧ t.dev.get (F.BLD_AXa_ANGLE.theta a) = 0 ∧ (t.dev.bldS a).cmpNext.length = 3 ∧
            (∀ c ∈ (t.dev.bldS a).cmpNext, c ≤ s.dev.pwmN a - (s.dev.ga (F.BLD_AXa_PWM.sample_ns a) + 7) / 8) ∧ s.Frame [Part.bld a, Part.reg (R.BLD_AXa_SPEED a).off, Part.reg (R.BLD_AXa_POS a).off, Part.reg (R.BLD_AXa_IDQ a).off, Part.reg (R.BLD_AXa_VDQ a).off, Part.reg (R.BLD_AXa_ANGLE a).off] t
          else (t.dev.bldS a).cmpNext = (s.dev.bldS a).cmpNext ∧ (t.dev.bldS a).vA = 0 ∧ (t.dev.bldS a).vB = 0 ∧ t.dev.get (F.BLD_AXa_ANGLE.theta a) = o.theta % 65536 ∧
            s.Frame [Part.bld a, Part.reg (R.BLD_AXa_SPEED a).off, Part.reg (R.BLD_AXa_POS a).off, Part.reg (R.BLD_AXa_ANGLE a).off] t)) ∧
  (∀ (s : State) (a : Fin 16) (iu iv : Int),
    s.dev.bldState a = 7 →
    s.dev.domOn 3 = true →
    (s.dev.axis a).isSome = true →
    fullScale iu = false ∧ fullScale iv = false →
    (s.dev.bldS a).per + 1 < s.dev.ga (F.BLD_AXa_FW2.speed_div_m1 a) + 1 →
    Completes (exec (.currentSample a iu iv) s) fun t =>
          let i := clarke (curQ15 iu) (curQ15 iv)
          let th := (t.dev.bldS a).obs.theta % 65536
          let q := rotate 22 ((65536 - th) % 65536) i.1 i.2
          t.dev.get (F.BLD_AXa_ANGLE.theta a) = th ∧ t.dev.get (F.BLD_AXa_IDQ.id a) = enc 16 q.1 ∧ t.dev.get (F.BLD_AXa_IDQ.iq a) = enc 16 q.2 ∧ t.dev.bldState a = 7 ∧ (t.dev.bldS a).iqRef = (s.dev.bldS a).iqRef ∧
          (t.dev.bldS a).wref = (s.dev.bldS a).wref ∧ (t.dev.bldS a).cmpNext.length = 3 ∧ (∀ c ∈ (t.dev.bldS a).cmpNext, c ≤ s.dev.pwmN a - (s.dev.ga (F.BLD_AXa_PWM.sample_ns a) + 7) / 8) ∧
          s.Frame [Part.bld a, Part.reg (R.BLD_AXa_SPEED a).off, Part.reg (R.BLD_AXa_POS a).off, Part.reg (R.BLD_AXa_IDQ a).off, Part.reg (R.BLD_AXa_VDQ a).off, Part.reg (R.BLD_AXa_ANGLE a).off] t) ∧
  (∀ (s : State) (a : Fin 16) (iu iv : Int),
    s.dev.bldState a = 7 →
    s.dev.domOn 3 = true →
    (s.dev.axis a).isSome = true →
    fullScale iu = false ∧ fullScale iv = false →
    s.dev.ga (F.BLD_AXa_FW2.speed_div_m1 a) ≤ (s.dev.bldS a).per →
    (s.dev.bldS a).losN + 1 < s.dev.ga (F.BLD_AXa_LOS.los_count a) →
    (s.dev.bldS a).moving = false →
    Completes (exec (.currentSample a iu iv) s) fun t =>
          let x := s.dev.bldS a
          let step : Int := (max x.rate 1 * 1280 * (x.per + 1) * s.dev.pwmN a : Nat)
          (t.dev.bldS a).per = 0 ∧ (t.dev.bldS a).wref = (if x.wref < x.goal then min (x.wref + step) x.goal else max (x.wref - step) x.goal) ∧
          ((t.dev.bldS a).iqRef.natAbs ≤ s.dev.ga (F.BLD_AXa_MOTOR2.i_max a)) ∧ t.dev.bldState a = 7 ∧ (t.dev.bldS a).losN ≤ x.losN + 1 ∧
          s.Frame ([Part.reg (R.BLD_AXa_SPEED a).off, Part.reg (R.BLD_AXa_POS a).off, Part.reg (R.BLD_AXa_IDQ a).off, Part.reg (R.BLD_AXa_VDQ a).off, Part.reg (R.BLD_AXa_ANGLE a).off, Part.reg R.LG_STATUS.off] ++ axParts a) t) ∧
  (∀ (s : State) (a : Fin 16) (iu iv : Int),
    s.dev.bldState a = 1 →
    s.dev.domOn 3 = true →
    (s.dev.axis a).isSome = true →
    fullScale iu = true ∧ fullScale iv = false →
    Completes (exec (.currentSample a iu iv) s) fun t =>
          let x := s.dev.bldS a
          t.dev.get (F.BLD_AXa_COUNTS.saturated a) = min (s.dev.get (F.BLD_AXa_COUNTS.saturated a) + 1) (2 ^ 16 - 1) ∧
          let ts := s.dev.sys.now8 :: x.satTs.filter fun k => s.dev.sys.now8 < k + 125000000
          (t.dev.bldS a).satTs = ts ∧
          (if x.satAt = 0 ∨ x.satAt - 1 + 125000000 ≤ s.dev.sys.now8 then strobed s.dev t.dev 26 (0x32 * 2 ^ 24 + a.val * 2 ^ 16 + ts.length % 65536) 0 ∧ (t.dev.bldS a).satAt = s.dev.sys.now8 + 1
          else t.dev.flt.strobes = s.dev.flt.strobes) ∧
          s.Frame ([Part.bld a, Part.reg (R.BLD_AXa_COUNTS a).off, Part.reg (R.BLD_AXa_SPEED a).off, Part.reg (R.BLD_AXa_POS a).off, Part.reg (R.BLD_AXa_ANGLE a).off] ++ strobeParts 26) t)

/-- R280, R281, R282, R283, R364: A sample stores the reading and shows under-voltage, recorded once when it begins. An
over-voltage trip shows the comparator, raises the bus interrupt and source 38 with its record; where source 38 arms its cut
the latch sets and every axis on the bus from CATCH to STOPPING is cut. When the comparator clears its level falls, source
38 follows both buses, and a latch whose record is closed clears. -/
def Obligations.DcBuses : Prop :=
  (∀ (s : State) (m : Fin 2) (a : Fin 16) (c : Axis),
    s.dev.domOn 3 = true →
    s.dev.armed 38 4 = true →
    s.dev.axis a = some c →
    c.dcBus = m.val →
    (s.dev.bldS a).startPer = true ∧ (s.dev.bldS a).losPer = false →
    s.dev.bldState a = 3 →
    (s.dev.bldS a).perSt = 2 ∨ (s.dev.bldS a).perSt = 3 →
    Completes (exec (.dcbOvervoltageTrip m) s) fun t =>
          t.dev.bldState a = (s.dev.bldS a).perSt - 1 ∧ (t.dev.bldS a).target = 0 ∧ t.dev.get (F.BLD_AXa_REFUSE.code a) = 3 ∧ bit (t.dev.rd (R.BLD_AXa_IRQ_STATUS a)) 7 = true ∧
          t.dev.on (F.BLD_DCBm_STATUS.latched m) = true ∧ t.mem = s.mem ∧ t.pending = s.pending) ∧
  (∀ (s : State) (m : Fin 2) (a : Fin 16) (c : Axis),
    s.dev.domOn 3 = true →
    s.dev.armed 38 4 = true →
    s.dev.axis a = some c →
    c.dcBus = m.val →
    (s.dev.bldS a).startPer = false ∧ (s.dev.bldS a).losPer = true →
    s.dev.bldState a = 1 ∨ s.dev.bldState a = 10 →
    Completes (exec (.dcbOvervoltageTrip m) s) fun t =>
          t.dev.bldState a = 9 ∧ t.dev.get (F.BLD_AXa_COUNTS.los a) = s.dev.get (F.BLD_AXa_COUNTS.los a) - 1 ∧ (t.dev.bldS a).restartAt = 0 ∧
          t.dev.flt.strobes.any (fun x => x.src = 26 ∧ x.d0 / 65536 = 0x31 * 256 + a.val) = false ∧ t.dev.on (F.BLD_DCBm_STATUS.latched m) = true ∧ t.mem = s.mem ∧ t.pending = s.pending) ∧
  (∀ (s : State) (m : Fin 2) (v : BitVec 12),
    s.dev.domOn 3 = true →
    Completes (exec (.dcbSample m v) s) fun t =>
          let low := decide (v.toNat < s.dev.get (F.BLD_DCBm_CFG.uv_level m))
          t.dev.get (F.BLD_DCBm_STATUS.reading m) = v.toNat ∧ t.dev.on (F.BLD_DCBm_STATUS.under m) = low ∧ t.dev.on (F.BLD_DCBm_STATUS.over m) = s.dev.on (F.BLD_DCBm_STATUS.over m) ∧
          t.dev.on (F.BLD_DCBm_STATUS.latched m) = s.dev.on (F.BLD_DCBm_STATUS.latched m) ∧
          (if low = true ∧ s.dev.on (F.BLD_DCBm_STATUS.under m) = false then strobed s.dev t.dev 26 (0x33 * 2 ^ 24 + m.val) v.toNat ∧ s.Frame ([Part.reg (R.BLD_DCBm_STATUS m).off] ++ strobeParts 26) t
          else s.Frame [Part.reg (R.BLD_DCBm_STATUS m).off] t)) ∧
  (∀ (s : State) (m : Fin 2) (a : Fin 16),
    nonePrecedes s.dev →
    s.dev.domOn 3 = true →
    s.dev.axesToCut m = [a.val] ∨ s.dev.axesToCut m = [] →
    Completes (exec (.dcbOvervoltageTrip m) s) fun t =>
          let cut := s.dev.armed 38 4
          t.dev.on (F.BLD_DCBm_STATUS.over m) = true ∧ bit (t.dev.rd R.BLD_IRQ_STATUS) (16 + m) = true ∧ t.dev.on (F.FLT_SRCi_STATE.active 38) = true ∧ bit (t.dev.get F.FLT_ACTIVE.active) 38 = true ∧
          strobed s.dev t.dev 38 (m.val * 2 ^ 24 + (if cut = true ∧ s.dev.axesToCut m ≠ [] then 2 ^ a.val else 0)) (s.dev.get (F.BLD_DCBm_STATUS.reading m)) ∧
          t.dev.on (F.BLD_DCBm_STATUS.latched m) = (cut || s.dev.on (F.BLD_DCBm_STATUS.latched m)) ∧
          (if cut = true ∧ s.dev.axesToCut m ≠ [] then t.dev.bldState a = 9 ∧ (t.dev.bldS a).target = 0 ∧ bit (t.dev.rd (R.BLD_AXa_IRQ_STATUS a)) 6 = true ∧
            (t.dev.bldS a).cmp = s.dev.compares a (openDiv 32 (s.dev.bldS a).obs.eA 65536) (openDiv 33 (s.dev.bldS a).obs.eB 65536) (0, 0, 0) ∧ (t.dev.bldS a).intQ = ((s.dev.bldS a).obs.emag : Nat) * sgn (s.dev.bldS a).obs.omega ∧ (t.dev.bldS a).iqRef = 0 else t.dev.bldState a = s.dev.bldState a) ∧
          s.Frame ([Part.dcb m, Part.flt, Part.reg (R.BLD_DCBm_STATUS m).off, Part.reg R.BLD_IRQ_STATUS.off, Part.reg R.FLT_ACTIVE.off] ++ axParts a ++ strobeParts 38) t) ∧
  (∀ (s : State) (m : Fin 2),
    s.dev.domOn 3 = true →
    Completes (exec (.dcbComparatorClear m) s) fun t =>
          let other := s.dev.on (F.BLD_DCBm_STATUS.over (1 - m.val))
          t.dev.on (F.BLD_DCBm_STATUS.over m) = false ∧ t.dev.on (F.FLT_SRCi_STATE.active 38) = other ∧ bit (t.dev.get F.FLT_ACTIVE.active) 38 = other ∧
          t.dev.on (F.BLD_DCBm_STATUS.latched m) = (s.dev.on (F.BLD_DCBm_STATUS.latched m) && !(s.dev.dcbS m).closed) ∧
          s.Frame [Part.flt, Part.reg (R.BLD_DCBm_STATUS m).off, Part.reg (R.FLT_SRCi_STATE 38).off, Part.reg R.FLT_ACTIVE.off] t) ∧
  (∀ (s : State) (m : Fin 2),
    nonePrecedes s.dev →
    s.dev.domOn 3 = true →
    Completes (exec (.dcbOvervoltageTrip m) s) fun t =>
          let cut := s.dev.armed 38 4
          t.dev.on (F.BLD_DCBm_STATUS.over m) = true ∧ t.dev.on (F.FLT_SRCi_STATE.active 38) = true ∧ t.dev.on (F.BLD_DCBm_STATUS.latched m) = (cut || s.dev.on (F.BLD_DCBm_STATUS.latched m)) ∧
          strobed s.dev t.dev 38 (m.val * 2 ^ 24 + if cut = true then ((s.dev.axesToCut m).map (2 ^ ·)).sum else 0) (s.dev.get (F.BLD_DCBm_STATUS.reading m)) ∧
          (cut = true → ∀ a ∈ s.dev.axesToCut m, t.dev.bldState a = 9 ∧ (t.dev.bldS a).target = 0 ∧ (t.dev.bldS a).iqRef = 0) ∧
          (∀ a : Fin 16, cut = false ∨ a.val ∉ s.dev.axesToCut m → t.dev.bldState a = s.dev.bldState a)) ∧
  (∀ (s : State) (m : Fin 2) (v : BitVec 12),
    s.dev.domOn 3 = false →
    Completes (exec (.dcbSample m v) s) (fun t => t = s) ∧ Completes (exec (.dcbOvervoltageTrip m) s) (fun t => t = s) ∧ Completes (exec (.dcbComparatorClear m) s) (fun t => t = s))

/-- R284, R286, R287, R288, R292, R295, R303, R305: A start takes its record's target, from the present target or absolute, and
the axis moves; in FAULT, while it stops or homes, without a sine table, with a wrong record, toward an active limit or
behind a unidirectional axis it is refused with its code. A stop keeps the move for a resume, ends homing, and is too late
in the tick of completion; a resume goes on to the original target. HOME backs off from an active switch, else searches.
Enable, disable and clear_fault change the state as R303 says; a command at an axis that is OFF only counts. -/
def Obligations.StepperCommands : Prop :=
  (∀ (s : State) (f : Firing) (m : Fin 16),
    s.dev.actionHit 1 f.target = false ∧ s.dev.actionHit 3 f.target = false →
    f.late = false ∧ f.tag = 0 ∧ f.target = 16 + m.val →
    s.dev.stpState m = 0 ∨ s.dev.idled = true →
    Completes (exec (.moveStart f) s) (fun t =>
          t.dev.get F.STP_REJECT.count = min (s.dev.get F.STP_REJECT.count + 1) (2 ^ 16 - 1) ∧ fired s t 1 f true ∧ s.Frame ([Part.reg R.STP_REJECT.off] ++ turnedParts) t) ∧
        Completes (exec (.moveResume f) s) (fun t =>
          t.dev.get F.STP_REJECT.count = min (s.dev.get F.STP_REJECT.count + 1) (2 ^ 16 - 1) ∧ fired s t 3 f true ∧ s.Frame ([Part.reg R.STP_REJECT.off] ++ turnedParts) t)) ∧
  (∀ (s : State) (m : Fin 16),
    stOpen s.dev m →
    s.dev.stpState m = 0 ∨ s.dev.idled = true →
    Completes (exec (.stpResume m) s) fun t => stIgnored s t) ∧
  (∀ (s : State) (f : Firing) (m : Fin 16) (r : Fin 8),
    s.dev.idled = false →
    s.dev.actionHit 1 f.target = false →
    f.target = 16 + m.val ∧ f.arg = r.val →
    s.dev.stpState m ≠ 0 →
    s.dev.stpBlocked m = none →
    s.dev.get (F.STP_AXm_MRECr.speed m r) ≠ 0 →
    s.dev.rd (R.STP_AXm_MRECr m r 1) < 2 ^ 33 →
    s.dev.towardLimit m (sgn (stpGoal s.dev m r * 2 ^ 32 - (s.dev.stpS m).prof.p)) = false →
    s.dev.uni (16 + m) = false →
    Completes (exec (.moveStart f) s) fun t =>
          let x := s.dev.stpS m
          let y := t.dev.stpS m
          t.dev.rd (R.STP_AXm_TARGET m) = enc 64 (stpGoal s.dev m r) ∧ y.prof.target = stpGoal s.dev m r * 2 ^ 32 ∧ y.prof.p = x.prof.p ∧ y.prof.v = x.prof.v ∧
          y.recNo = some r.val ∧ t.dev.stpState m = 2 ∧ t.dev.on (F.STP_AXm_STATUS.move_active m) = true ∧ fired s t 1 f false ∧
          s.Frame (firingParts f ++ [Part.reg (R.STP_AXm_TARGET m).off] ++ stParts m) t) ∧
  (∀ (s : State) (f : Firing) (m : Fin 16),
    s.dev.actionHit 2 f.target = false →
    f.target = 16 + m.val →
    s.dev.stpState m = 2 ∨ s.dev.stpState m = 4 →
    Completes (exec (.moveStop f) s) fun t =>
          t.dev.stpState m = 3 ∧ (t.dev.stpS m).prof = (s.dev.stpS m).prof ∧ (t.dev.stpS m).interrupted = true ∧ fired s t 2 f false ∧ s.Frame (firingParts f ++ stParts m) t) ∧
  (∀ (s : State) (f : Firing) (m : Fin 16) (r : Nat),
    s.dev.idled = false →
    s.dev.actionHit 3 f.target = false →
    f.target = 16 + m.val →
    s.dev.stpState m = 1 →
    s.dev.stpBlocked m = none →
    (s.dev.stpS m).recNo = some r →
    (s.dev.stpS m).interrupted = true ∧ ((s.dev.stpS m).prof.target - (s.dev.stpS m).prof.p) / 2 ^ 32 ≠ 0 →
    s.dev.towardLimit m (sgn ((s.dev.stpS m).prof.target - (s.dev.stpS m).prof.p)) = false →
    Completes (exec (.moveResume f) s) fun t =>
          t.dev.stpState m = 2 ∧ (t.dev.stpS m).prof = { (s.dev.stpS m).prof with v := 0, rev := 0 } ∧ (t.dev.stpS m).interrupted = false ∧ fired s t 3 f false ∧
          s.Frame (firingParts f ++ stParts m) t) ∧
  (∀ (s : State) (m : Fin 16) (r : Fin 8),
    s.dev.idled = false →
    stOpen s.dev m →
    s.dev.stpState m ≠ 0 →
    s.dev.stpBlocked m = none →
    s.dev.get (F.STP_AXm_MRECr.speed m r) ≠ 0 →
    s.dev.rd (R.STP_AXm_MRECr m r 1) < 2 ^ 33 →
    s.dev.towardLimit m (sgn (stpGoal s.dev m r * 2 ^ 32 - (s.dev.stpS m).prof.p)) = false →
    Completes (exec (.stpStart m r) s) fun t =>
          let x := s.dev.stpS m
          let y := t.dev.stpS m
          let dec := stpA (s.dev.get (F.STP_AXm_MRECr.decel m r))
          let r' := (stpGoal s.dev m r * 2 ^ 32 - x.prof.p) * sgn x.prof.v
          if x.prof.v = 0 ∧ stpGoal s.dev m r * 2 ^ 32 < x.prof.p ∧ s.dev.uni (16 + m) = true then stRefused s t m 2
          else if x.prof.v ≠ 0 ∧ r' < stopDist x.prof.v 0 dec ∧ s.dev.uni (16 + m) = true then stRefused s t m 1
          else t.dev.rd (R.STP_AXm_TARGET m) = enc 64 (stpGoal s.dev m r) ∧ y.prof.target = stpGoal s.dev m r * 2 ^ 32 ∧ y.prof.p = x.prof.p ∧ y.prof.v = x.prof.v ∧
            y.prof.rev = (if x.prof.v ≠ 0 ∧ r' < stopDist x.prof.v 0 dec then -sgn x.prof.v else 0) ∧
            y.prof.peak = min (s.dev.stpCap m) (stpV (s.dev.get (F.STP_AXm_MRECr.speed m r)) 16) ∧ y.prof.acc = stpA (s.dev.get (F.STP_AXm_MRECr.accel m r)) ∧
            y.prof.dec = dec ∧ y.recNo = some r.val ∧ t.dev.stpState m = 2 ∧ t.dev.on (F.STP_AXm_STATUS.move_active m) = true ∧
            s.Frame ([Part.reg (R.STP_AXm_TARGET m).off] ++ stParts m) t) ∧
  (∀ (s : State) (m : Fin 16) (r : Fin 8),
    stOpen s.dev m →
    s.dev.stpState m = 0 ∨ s.dev.idled = true ∨ (s.dev.stpBlocked m).isSome = true ∨ s.dev.get (F.STP_AXm_MRECr.speed m r) = 0 ∨ 2 ^ 33 ≤ s.dev.rd (R.STP_AXm_MRECr m r 1) →
    Completes (exec (.stpStart m r) s) fun t =>
          let st := s.dev.stpState m
          if st = 0 ∨ s.dev.idled = true then stIgnored s t
          else stRefused s t m (if st = 5 then 4 else if st = 3 ∨ st = 4 ∨ s.dev.sys.cut = true then 3 else if s.dev.sine m 255 = 0 then 6 else 5)) ∧
  (∀ (s : State) (m : Fin 16),
    stOpen s.dev m →
    Completes (exec (.stpStop m) s) fun t =>
          let st := s.dev.stpState m
          (st = 0 → stIgnored s t) ∧
          (st = 1 → t.dev.stpState m = 1 ∧ ((s.dev.stpS m).moveDone = s.dev.sys.now8 + 1 → t.dev.on (F.STP_AXm_STATUS.too_late_to_abort m) = true ∧ s.Frame [Part.reg (R.STP_AXm_STATUS m).off] t) ∧ ((s.dev.stpS m).moveDone ≠ s.dev.sys.now8 + 1 → t = s)) ∧
          (st = 2 → t.dev.stpState m = 3 ∧ (t.dev.stpS m).interrupted = true ∧ (t.dev.stpS m).prof = (s.dev.stpS m).prof ∧ (t.dev.stpS m).recNo = (s.dev.stpS m).recNo ∧ s.Frame (stParts m) t) ∧
          (st = 4 → t.dev.stpState m = 3 ∧ (t.dev.stpS m).homeFail = true ∧ (t.dev.stpS m).searchLeft = decide (s.dev.get (F.STP_AXm_STATUS.home_phase m) = 1) ∧ (t.dev.stpS m).recNo = none ∧
            t.dev.get (F.STP_AXm_STATUS.home_phase m) = 0 ∧ s.Frame (stParts m) t) ∧
          (st = 3 ∨ st = 5 → t = s)) ∧
  (∀ (s : State) (m : Fin 16) (r : Nat),
    s.dev.idled = false →
    stOpen s.dev m →
    s.dev.stpState m = 1 →
    s.dev.stpBlocked m = none →
    (s.dev.stpS m).recNo = some r →
    s.dev.towardLimit m (sgn ((s.dev.stpS m).prof.target - (s.dev.stpS m).prof.p)) = false →
    Completes (exec (.stpResume m) s) fun t =>
          if (s.dev.stpS m).interrupted = false ∨ ((s.dev.stpS m).prof.target - (s.dev.stpS m).prof.p) / 2 ^ 32 = 0 then stRefused s t m 8
          else t.dev.stpState m = 2 ∧ (t.dev.stpS m).prof = { (s.dev.stpS m).prof with v := 0, rev := 0 } ∧ (t.dev.stpS m).interrupted = false ∧ (t.dev.stpS m).recNo = some r ∧ t.dev.on (F.STP_AXm_STATUS.move_active m) = true ∧ s.Frame (stParts m) t) ∧
  (∀ (s : State) (m : Fin 16),
    s.dev.idled = false →
    stOpen s.dev m →
    s.dev.stpState m = 1 →
    s.dev.limUsed m (s.dev.homeSide m) = true →
    s.dev.sine m 255 ≠ 0 →
    Completes (exec (.home m) s) fun t =>
          let side := s.dev.homeSide m
          let back := s.dev.limActive m side
          let x := (t.dev.stpS m).prof
          t.dev.stpState m = 4 ∧ t.dev.get (F.STP_AXm_STATUS.home_phase m) = (if back = true then 1 else 2) ∧
          x.target = (s.dev.stpS m).prof.p + (if back = true then -sideDir side * homeFar else sideDir side * (s.dev.ga (F.STP_AXm_HOMEMAX.home_max m) : Nat) * 2 ^ 32) ∧
          x.peak = min (s.dev.stpCap m) (stpV (max 1 (s.dev.ga (F.STP_AXm_HOMECFG.home_speed m))) 1) ∧ (t.dev.stpS m).recNo = none ∧ s.Frame (stParts m) t) ∧
  (∀ (s : State) (m : Fin 16),
    stOpen s.dev m →
    s.dev.stpState m ≠ 1 ∨ s.dev.idled = true ∨ s.dev.limUsed m (s.dev.homeSide m) = false →
    Completes (exec (.home m) s) fun t => if s.dev.stpState m = 0 ∨ s.dev.idled = true then stIgnored s t else stRefused s t m (if s.dev.stpState m ≠ 1 then 3 else 5)) ∧
  (∀ (s : State) (m : Fin 16),
    stOpen s.dev m →
    (s.dev.stpAxis m).isSome = true →
    Completes (exec (.stpEnable m) s) fun t => if s.dev.stpState m = 0 then t.dev.stpState m = 1 ∧ (t.dev.stpS m).held = true ∧ s.Frame (stParts m) t else stIgnored s t) ∧
  (∀ (s : State) (m : Fin 16),
    stOpen s.dev m →
    Completes (exec (.stpDisable m) s) fun t =>
          let st := s.dev.stpState m
          (st = 0 → stIgnored s t) ∧ (st = 1 → t.dev.stpState m = 0 ∧ s.Frame [Part.reg (R.STP_AXm_STATUS m).off] t) ∧
          (st = 5 → t.dev.stpState m = 0 ∧ (t.dev.stpS m).offPend = false ∧
            t.dev.on (F.FLT_SRCi_STATE.active 27) = decide (∃ k ∈ List.range 16, t.dev.stpState k = 5) ∧
            s.Frame ([Part.reg (R.STP_AXm_STATUS m).off, Part.stp m] ++ activeParts 27) t) ∧
          (st = 1 ∧ (s.dev.stpS m).moveDone = s.dev.sys.now8 + 1 → t.dev.on (F.STP_AXm_STATUS.too_late_to_abort m) = true) ∧
          (st = 2 ∨ st = 3 ∨ st = 4 → t.dev.stpState m = 3 ∧ (t.dev.stpS m).offPend = true ∧ s.Frame (stParts m) t)) ∧
  (∀ (s : State) (m : Fin 16),
    stOpen s.dev m →
    Completes (exec (.stpClearFault m) s) fun t =>
          if s.dev.stpState m = 5 then t.dev.stpState m = 1 ∧ (t.dev.stpS m).prof.v = 0 ∧ (t.dev.stpS m).a = {} ∧ (t.dev.stpS m).b = {} ∧ (t.dev.stpS m).held = true ∧ t.dev.on (F.FLT_SRCi_STATE.active 27) = decide (∃ k ∈ List.range 16, t.dev.stpState k = 5) ∧ s.Frame (stParts m ++ activeParts 27) t
          else if s.dev.stpState m = 0 then stIgnored s t else t = s)

/-- R284, R285, R288, R289, R290, R291, R292, R293, R294, R296, R304: A profile period of a moving axis takes one step of its
profile, publishes position and speed, and at the target completes the move; a stopping axis slows and at rest keeps its
remaining distance. A limit input that qualifies waits for its apply time; applied, an edge toward which the axis moves
flags the limit, records and stops it, and in the search the home edge latches its time and position and redefines position.
Chatter after the latch is counted. Points the spec leaves open follow the model's choice of log entry 223. -/
def Obligations.StepperMotion : Prop :=
  (∀ (s : State) (m : Fin 16),
    periodRuns s.dev →
    Completes (exec (.profilePeriod m) s) fun t =>
          let n := s.dev.nextPeriod m
          let y := t.dev.stpS m
          t.dev.now = s.dev.timeAt (n * 1250) ∧ s.dev.now < n * 1250 + s.dev.lastGain ∧ (s.dev.stpS m).ran ≠ n + 1 ∧ y.ran = n + 1 ∧
          t.dev.rd (R.STP_AXm_POS m) = enc 64 (y.prof.p / 2 ^ 32) ∧ t.dev.rd (R.STP_AXm_SPEED m) = enc 32 (openDiv 17 (y.prof.v * 1600000) (2 ^ 40)) ∧
          y.histP.head? = some (n, y.prof.p) ∧
          (s.dev.stpState m ∉ [2, 3, 4] → y.prof = (s.dev.stpS m).prof ∧ t.dev.stpState m = s.dev.stpState m ∧
            s.Frame ([Part.reg (R.STP_AXm_POS m).off, Part.reg (R.STP_AXm_SPEED m).off, Part.reg (R.STP_AXm_LOAD m).off] ++ stParts m ++ timeParts) t)) ∧
  (∀ (s : State) (m : Fin 16),
    s.dev.domOn 3 = false ∨ s.dev.evt.running = false →
    Completes (exec (.profilePeriod m) s) fun t => t = s) ∧
  (∀ (s : State) (m : Fin 16),
    periodRuns s.dev →
    s.dev.stpState m = 4 →
    Completes (exec (.profilePeriod m) s) fun t =>
          let ph := s.dev.get (F.STP_AXm_STATUS.home_phase m)
          let old := s.dev.stpS m
          let y := t.dev.stpS m
          (ph = 3 → y.prof = old.prof.halt (stpA (s.dev.ga (F.STP_AXm_RATES.stop_rate m))) ∧
            (if y.prof.v = 0 then t.dev.stpState m = (if old.offPend = true then 0 else 1) ∧ t.dev.on (F.STP_AXm_STATUS.homed m) = true ∧ t.dev.on (F.STP_AXm_STATUS.pos_lost m) = false ∧
              t.dev.rd (R.STP_AXm_TARGET m) = enc 64 (y.prof.p / 2 ^ 32) ∧ bit (t.dev.rd (R.STP_AXm_IRQ_STATUS m)) 3 = true
            else t.dev.stpState m = 4)) ∧
          (ph = 1 → y.prof.p = (old.prof.step 0).1.p ∧ t.dev.stpState m = 4 ∧
            t.dev.get (F.STP_AXm_STATUS.home_phase m) = (if (old.prof.step 0).2 = true ∧ old.released = true then 2 else 1)) ∧
          (ph = 2 → y.prof = (old.prof.step 0).1 ∧
            (if (old.prof.step 0).2 = true then t.dev.stpState m = (if old.offPend = true then 0 else 1) ∧ t.dev.get (F.STP_AXm_STATUS.home_phase m) = 0 ∧ bit (t.dev.rd (R.STP_AXm_IRQ_STATUS m)) 4 = true ∧
              t.dev.on (F.STP_AXm_STATUS.move_active m) = false
            else t.dev.stpState m = 4)) ∧
          s.Frame ([Part.reg (R.STP_AXm_POS m).off, Part.reg (R.STP_AXm_SPEED m).off, Part.reg (R.STP_AXm_LOAD m).off, Part.reg (R.STP_AXm_TARGET m).off, Part.reg (R.STP_AXm_IRQ_STATUS m).off] ++ stParts m ++ irqParts ++ strobeParts 27 ++ timeParts) t) ∧
  (∀ (s : State) (m : Fin 16),
    periodRuns s.dev →
    s.dev.stpState m = 2 →
    Completes (exec (.profilePeriod m) s) fun t =>
          let x := (s.dev.stpS m).prof.step 0
          (t.dev.stpS m).prof = x.1 ∧
          (if x.2 = true then t.dev.stpState m = (if (s.dev.stpS m).offPend = true then 0 else 1) ∧ x.1.p = (s.dev.stpS m).prof.target ∧ x.1.v = 0 ∧ t.dev.on (F.STP_AXm_STATUS.move_active m) = false ∧ t.dev.get (F.STP_AXm_REMAIN.remain m) = 0 ∧
            bit (t.dev.rd (R.STP_AXm_IRQ_STATUS m)) 1 = true ∧ (t.dev.stpS m).moveDone = t.dev.sys.now8 + 1 ∧ (t.dev.stpS m).recNo = none
          else t.dev.stpState m = 2 ∧ t.dev.rd (R.STP_AXm_IRQ_STATUS m) = s.dev.rd (R.STP_AXm_IRQ_STATUS m)) ∧
          s.Frame ([Part.reg (R.STP_AXm_POS m).off, Part.reg (R.STP_AXm_SPEED m).off, Part.reg (R.STP_AXm_LOAD m).off, Part.reg (R.STP_AXm_REMAIN m).off, Part.reg (R.STP_AXm_IRQ_STATUS m).off] ++ stParts m ++ irqParts ++ timeParts) t) ∧
  (∀ (s : State) (m : Fin 16),
    periodRuns s.dev →
    s.dev.stpState m = 3 →
    Completes (exec (.profilePeriod m) s) fun t =>
          let old := s.dev.stpS m
          let x := old.prof.stop (stpA (s.dev.ga (F.STP_AXm_RATES.stop_rate m)))
          let left : Int := if old.homeFail = true ∧ old.searchLeft = true then sideDir (s.dev.homeSide m) * (s.dev.ga (F.STP_AXm_HOMEMAX.home_max m) : Nat) else (x.1.target - x.1.p) / 2 ^ 32
          (t.dev.stpS m).prof = x.1 ∧
          (if x.2 = true ∧ old.homeFail = false then t.dev.stpState m = (if old.offPend = true then 0 else 1) ∧ t.dev.get (F.STP_AXm_REMAIN.remain m) = 0 ∧ bit (t.dev.rd (R.STP_AXm_IRQ_STATUS m)) 1 = true
          else if x.1.v = 0 then t.dev.stpState m = (if old.offPend = true then 0 else 1) ∧ t.dev.get (F.STP_AXm_REMAIN.remain m) = enc 32 left ∧ t.dev.on (F.STP_AXm_STATUS.move_active m) = decide (left ≠ 0) ∧ (left ≠ 0 → bit (t.dev.rd (R.STP_AXm_IRQ_STATUS m)) 2 = true)
          else t.dev.stpState m = 3) ∧
          s.Frame ([Part.reg (R.STP_AXm_POS m).off, Part.reg (R.STP_AXm_SPEED m).off, Part.reg (R.STP_AXm_LOAD m).off, Part.reg (R.STP_AXm_REMAIN m).off, Part.reg (R.STP_AXm_IRQ_STATUS m).off] ++ stParts m ++ irqParts ++ timeParts) t) ∧
  (∀ (s : State) (n : Fin 16) (level : Bool),
    notPaired s.dev →
    s.dev.domOn 3 = true →
    Completes (exec (.inputQualify (.limf n) level) s) (fun t =>
          if (s.dev.inpS (64 + n)).raw = level then t = s
          else (t.dev.inpS (64 + n)).raw = level ∧ (t.dev.inpS (64 + n)).qual = (s.dev.inpS (64 + n)).qual ∧ (t.dev.inpS (64 + n)).since = s.dev.now - s.dev.ga (F.STP_AXm_LIMCFG.qual_ticks n) ∧
            (t.dev.inpS (64 + n)).apply = (s.dev.inpS (64 + n)).apply ++ [(s.dev.now + 128, s.dev.now - s.dev.ga (F.STP_AXm_LIMCFG.qual_ticks n), level)] ∧ s.Frame ([Part.inp (64 + n)] ++ if s.dev.twin then [Part.twn] else []) t) ∧
        Completes (exec (.inputQualify (.limr n) level) s) (fun t =>
          if (s.dev.inpS (96 + n)).raw = level then t = s
          else (t.dev.inpS (96 + n)).raw = level ∧ (t.dev.inpS (96 + n)).qual = (s.dev.inpS (96 + n)).qual ∧ (t.dev.inpS (96 + n)).since = s.dev.now - s.dev.ga (F.STP_AXm_LIMCFG.qual_ticks n) ∧
            (t.dev.inpS (96 + n)).apply = (s.dev.inpS (96 + n)).apply ++ [(s.dev.now + 128, s.dev.now - s.dev.ga (F.STP_AXm_LIMCFG.qual_ticks n), level)] ∧ s.Frame ([Part.inp (96 + n)] ++ if s.dev.twin then [Part.twn] else []) t)) ∧
  (∀ (s : State) (k : Fin 32) (pin : Bool),
    s.dev.dinOn k = true →
    Completes (exec (.inputQualify (.din k) pin) s) fun t =>
          let level := pin != s.dev.cfg.pins.any fun p => p.func = 1 && p.k = k && p.invert
          if (s.dev.inpS (128 + k)).raw = level then t = s
          else (t.dev.inpS (128 + k)).raw = level ∧ t.dev.dinLevel k = level ∧
            (notPaired s.dev → s.dev.chansInUse = [] → s.Frame ([Part.inp (128 + k)] ++ if s.dev.twin then [Part.twn] else []) t)) ∧
  (∀ (s : State) (k : Fin 32) (pin : Bool),
    s.dev.dinOn k = false →
    Completes (exec (.inputQualify (.din k) pin) s) fun t => t = s) ∧
  (∀ (s : State) (m : Fin 16) (c ta e : Nat) (l : Bool),
    s.dev.nextApply m = some (c, ta, e, l) →
    s.dev.evt.running = true →
    ta < 2 ^ 62 ∧ s.dev.now < 2 ^ 62 →
    Completes (exec (.limitApply m) s) fun t =>
          t.dev.now = s.dev.timeAt ta ∧ (t.dev.inpS (32 * c + m)).apply = (s.dev.inpS (32 * c + m)).apply.drop 1 ∧
          (c = 2 ∨ c = 3 → (t.dev.inpS (32 * c + m)).qual = l) ∧
          (c = 5 → s.dev.gaOn (F.STP_AXm_CTRL.stall_action m) = true → s.dev.stpState m = 2 → t.dev.stpState m = 3 ∧ (t.dev.stpS m).interrupted = true)) ∧
  (∀ (s : State) (m : Fin 16) (ta e : Nat) (l : Bool),
    s.dev.nextApply m = some (2, ta, e, l) →
    s.dev.evt.running = true →
    ta < 2 ^ 62 ∧ s.dev.now < 2 ^ 62 →
    s.dev.limUsed m 0 = true →
    l = s.dev.limLevel m 0 →
    s.dev.stpState m = 2 →
    s.dev.on (F.STP_AXm_STATUS.latched m) = false →
    0 < (s.dev.stpS m).prof.v →
    Completes (exec (.limitApply m) s) fun t =>
          t.dev.now = s.dev.timeAt ta ∧ (t.dev.inpS (64 + m)).qual = l ∧ (t.dev.inpS (64 + m)).apply = (s.dev.inpS (64 + m)).apply.drop 1 ∧ t.dev.on (F.STP_AXm_STATUS.at_limf m) = true ∧ t.dev.stpState m = 3 ∧
          (t.dev.stpS m).interrupted = true ∧ bit (t.dev.rd (R.STP_AXm_IRQ_STATUS m)) 6 = true ∧ strobed s.dev t.dev 27 (0x41 * 2 ^ 24 + m.val * 2 ^ 16 + 1) (enc 32 ((s.dev.stpS m).prof.p / 2 ^ 32)) ∧
          s.Frame ([Part.inp (64 + m), Part.reg (R.STP_AXm_IRQ_STATUS m).off] ++ stParts m ++ irqParts ++ strobeParts 27 ++ timeParts) t) ∧
  (∀ (s : State) (m : Fin 16) (ta e : Nat),
    s.dev.nextApply m = some (2, ta, e, s.dev.limLevel m 0) →
    s.dev.evt.running = true →
    ta < 2 ^ 62 ∧ s.dev.now < 2 ^ 62 ∧ e < 2 ^ 62 →
    s.dev.limUsed m 0 = true →
    s.dev.homeSide m = 0 →
    s.dev.stpState m = 4 →
    s.dev.get (F.STP_AXm_STATUS.home_phase m) = 2 →
    Completes (exec (.limitApply m) s) fun t =>
          let pl := (s.dev.stpS m).posAt e
          let sh := sext 32 (s.dev.ga (F.STP_AXm_HOMEPOS.home_pos m)) * 2 ^ 32 - pl
          t.dev.rd (R.STP_AXm_LATCH_TIME m) = e ∧ t.dev.rd (R.STP_AXm_LATCH_POS m) = enc 64 (pl / 2 ^ 32) ∧ (t.dev.stpS m).prof.p = (s.dev.stpS m).prof.p + sh ∧ (t.dev.stpS m).prof.target = (s.dev.stpS m).prof.target + sh ∧
          t.dev.on (F.STP_AXm_STATUS.latched m) = true ∧ t.dev.get (F.STP_AXm_STATUS.home_phase m) = 3 ∧ t.dev.stpState m = 4 ∧
          s.Frame ([Part.inp (64 + m), Part.reg (R.STP_AXm_LATCH_TIME m).off, Part.reg (R.STP_AXm_LATCH_POS m).off] ++ stParts m ++ timeParts) t) ∧
  (∀ (s : State) (m : Fin 16),
    s.dev.nextApply m = none →
    Completes (exec (.limitApply m) s) fun t => t = s) ∧
  (∀ (s : State) (m : Fin 16),
    Completes (exec (.homeLimitRawEdge m) s) fun t =>
          if s.dev.on (F.STP_AXm_STATUS.latched m) = true then t.dev.get (F.STP_AXm_COUNTS.chatter m) = min (s.dev.get (F.STP_AXm_COUNTS.chatter m) + 1) (2 ^ 16 - 1) ∧ s.Frame [Part.reg (R.STP_AXm_COUNTS m).off] t
          else t = s)

/-- R12, R295, R297, R298, R299, R304, R305: A chopper period takes a ready group over, loads the references of both coils from
the sine table at the angle of the resolution in force and the current of the state. A comparator trip after blanking starts
the decay of t_off; the eighth early trip in a row is a short: both coils off, FAULT, recorded. The decay ends with the coil
on again, or off at reference 0. The hold delay ends at standstill with the idle kind applied. -/
def Obligations.StepperChopper : Prop :=
  (∀ (s : State) (m : Fin 16),
    (s.dev.stpAxis m).isSome = true →
    s.dev.stpState m ≠ 0 →
    Completes (exec (.chopperPeriodStart m) s) fun t =>
          let k := t.dev.get (F.STP_AXm_STATUS.res m)
          let g : Int := (256 / 2 ^ k : Nat)
          let w := s.dev.coilMag m (((s.dev.stpS m).prof.p / 2 ^ 32) / g * g % 1024).toNat
          let cur := t.dev.stpCur m
          (t.dev.stpS m).a.ref = (w.1.natAbs * cur + 32768) / 65536 ∧ (t.dev.stpS m).b.ref = (w.2.natAbs * cur + 32768) / 65536 ∧ (t.dev.stpS m).a.neg = decide (w.1 < 0) ∧ (t.dev.stpS m).a.prev = (s.dev.stpS m).a.ref ∧
          (t.dev.stpS m).prof = (s.dev.stpS m).prof ∧ t.dev.stpState m = s.dev.stpState m ∧
          (s.dev.isReady (R.STP_AXm_COMMIT m) = true → t.dev.isReady (R.STP_AXm_COMMIT m) = false ∧ ∀ r ∈ stpGroup m, t.dev.act r = s.dev.rd r) ∧
          (s.dev.isReady (R.STP_AXm_COMMIT m) = false → (s.dev.stpS m).prof.p / 2 ^ 40 = (s.dev.stpS m).lastStep → (s.dev.stpS m).a.noTrip < 63 ∧ (s.dev.stpS m).b.noTrip < 63 →
            s.Frame (stParts m) t)) ∧
  (∀ (s : State) (m : Fin 16),
    s.dev.stpState m = 0 →
    Completes (exec (.chopperPeriodStart m) s) fun t =>
          if s.dev.isReady (R.STP_AXm_COMMIT m) = true then
            (∀ r ∈ stpGroup m, t.dev.act r = s.dev.rd r) ∧ t.dev.isReady (R.STP_AXm_COMMIT m) = false ∧ t.dev.on (F.STP_AXm_STATUS.shadow_pending m) = false ∧ bit (t.dev.rd (R.STP_AXm_IRQ_STATUS m)) 0 = true ∧
              s.Frame ([Part.rdy (R.STP_AXm_COMMIT m).off, Part.reg (R.STP_AXm_STATUS m).off, Part.reg (R.STP_AXm_IRQ_STATUS m).off] ++ (stpGroup m).map (fun r => Part.act r.off) ++ irqParts) t
          else t = s) ∧
  (∀ (s : State) (m : Fin 16) (b : Bool),
    s.dev.stpState m ≠ 0 ∧ s.dev.stpState m ≠ 5 →
    Completes (exec (.chopperComparatorTrip m b) s) fun t =>
          let c := if b = true then (s.dev.stpS m).b else (s.dev.stpS m).a
          let e := if b = true then (t.dev.stpS m).b else (t.dev.stpS m).a
          let blank := c.onSince + s.dev.ga (F.STP_AXm_CHOP.t_blank m)
          let now := max s.dev.sys.now8 blank
          let n := if s.dev.sys.now8 ≤ blank ∧ 64 ≤ c.ref then c.early + 1 else 0
          if c.phase ≠ 0 ∨ c.ref = 0 then t = s
          else t.dev.sys.now8 = now ∧
            (if 8 ≤ n then t.dev.stpState m = 5 ∧ (t.dev.stpS m).a.ref = 0 ∧ (t.dev.stpS m).b.ref = 0 ∧ (t.dev.stpS m).prof.v = 0 ∧ strobed s.dev t.dev 27 (0x42 * 2 ^ 24 + m.val * 2 ^ 16 + b2n b) (c.ref % 2 ^ 32) ∧ bit (t.dev.rd (R.STP_AXm_IRQ_STATUS m)) 7 = true
            else e.phase = 1 ∧ e.offEnd = now + max 1 (s.dev.ga (F.STP_AXm_CHOP.t_off m)) * 25 / 2 ∧ e.fastEnd = now + (if c.ref < c.prev then s.dev.ga (F.STP_AXm_CHOP.mix_fall m) else s.dev.ga (F.STP_AXm_CHOP.mix_rise m)) * (max 1 (s.dev.ga (F.STP_AXm_CHOP.t_off m)) * 25) / 32 ∧ e.onTicks = c.onTicks + (now - c.onFrom) ∧ e.early = n ∧ e.tripped = true ∧ t.dev.stpState m = s.dev.stpState m) ∧
            s.Frame ([Part.reg (R.STP_AXm_COUNTS m).off, Part.reg (R.STP_AXm_IRQ_STATUS m).off] ++ stParts m ++ irqParts ++ strobeParts 27 ++ timeParts) t) ∧
  (∀ (s : State) (m : Fin 16) (b : Bool),
    Completes (exec (.chopperOffEnd m b) s) fun t =>
          let c := if b = true then (s.dev.stpS m).b else (s.dev.stpS m).a
          let e := if b = true then (t.dev.stpS m).b else (t.dev.stpS m).a
          if c.phase ≠ 1 then t = s
          else t.dev.sys.now8 = max s.dev.sys.now8 c.offEnd ∧ e.phase = (if c.ref = 0 then 2 else 0) ∧ e.onSince = t.dev.sys.now8 ∧ e.onFrom = t.dev.sys.now8 ∧ e.ref = c.ref ∧ s.Frame ([Part.stp m] ++ timeParts) t) ∧
  (∀ (s : State) (m : Fin 16),
    Completes (exec (.holdDelayExpire m) s) fun t =>
          if s.dev.stpState m ≠ 1 ∨ (s.dev.stpS m).held = true then t = s
          else t.dev.sys.now8 = max s.dev.sys.now8 ((s.dev.stpS m).stoppedAt + s.dev.ga (F.STP_AXm_CHOP.hold_delay m) * 1250000) ∧ (t.dev.stpS m).held = true ∧ s.Frame ([Part.stp m] ++ timeParts) t)

/-- R83, R306, R312, R314, R315, R319: LOOP_ENABLE and LOOP_RELEASE, as commands and as actions, a set-point record and a
set-point write wait for the next sample boundary of the slot; in OFF they are ignored and counted. A record with reserved
bits or a number above 7 is refused with code 3. An action that the slot turns away as it stands is a refused firing. An
output is configured only while every slot that names it is RELEASED. -/
def Obligations.LoopCommands : Prop :=
  (∀ (s : State) (k : Fin 64),
    loopOpen s.dev k →
    Completes (exec (.loopCmdEnable k) s) (fun t => if s.dev.loopState k = 0 then loopIgnored s t else loopQueued s t k 1 0 ∧ s.Frame [Part.loop k] t) ∧
        Completes (exec (.loopCmdRelease k) s) (fun t => if s.dev.loopState k = 0 then loopIgnored s t else loopQueued s t k 2 0 ∧ s.Frame [Part.loop k] t)) ∧
  (∀ (s : State) (k : Fin 64) (r : Fin 8),
    loopOpen s.dev k →
    Completes (exec (.loopCmdApplyRecord k r) s) fun t =>
          if s.dev.loopState k = 0 then loopIgnored s t
          else if 2 ^ 33 ≤ s.dev.coef k (0x40 + 8 * r) then t.dev.get (F.LOOP_Sk_REFUSE.code k) = 3 ∧ bit (t.dev.rd (R.LOOP_Sk_IRQ_STATUS k)) 5 = true ∧ s.Frame ([Part.reg (R.LOOP_Sk_REFUSE k).off, Part.reg (R.LOOP_Sk_IRQ_STATUS k).off] ++ irqParts) t
          else loopQueued s t k 4 r ∧ s.Frame [Part.loop k] t) ∧
  (∀ (s : State) (k : Fin 64) (v : Word32),
    s.dev.direct (R.LOOP_Sk_SETPOINT k).off →
    s.dev.twin = false →
    Completes (exec (.loopSetpointWrite k v) s) fun t =>
          t.dev.rd (R.LOOP_Sk_SETPOINT k) = v.toNat ∧
          (if s.dev.loopState k = 0 then t.dev.get F.LOOP_REJECT.count = min (s.dev.get F.LOOP_REJECT.count + 1) (2 ^ 16 - 1) ∧ s.Frame [Part.reg (R.LOOP_Sk_SETPOINT k).off, Part.reg R.LOOP_REJECT.off] t
          else loopQueued s t k 3 0 ∧ s.Frame [Part.loop k, Part.reg (R.LOOP_Sk_SETPOINT k).off] t)) ∧
  (∀ (s : State) (o : Fin 16) (v : Word32),
    s.dev.direct (R.LOOP_OUTo_CFG o).off →
    s.dev.twin = false →
    Completes (exec (.loopOutputCfgWrite o v) s) fun t =>
          if (∀ l ∈ s.dev.cfg.loops, l.output = o.val → s.dev.loopState l.slot = 1) then
            t.dev.get (F.LOOP_OUTo_CFG.invert o) = v.toNat / 2 ^ 31 ∧ t.dev.get (F.LOOP_OUTo_CFG.period_us o) = v.toNat % 2 ^ 16 ∧ s.Frame [Part.reg (R.LOOP_OUTo_CFG o).off] t
          else loopIgnored s t) ∧
  (∀ (s : State) (f : Firing),
    s.dev.actionHit 6 f.target = false →
    s.dev.actionHit 7 f.target = false →
    s.dev.loopState f.target = 1 ∨ s.dev.loopState f.target = 2 ∨ s.dev.loopState f.target = 3 →
    (s.dev.hostIdle = false ∨ s.dev.loopState f.target = 2 → Completes (exec (.loopEnable f) s) (fun t => loopQueued s t f.target 1 0 ∧ fired s t 6 f false ∧ s.Frame ([Part.loop f.target] ++ firingParts f) t)) ∧
        Completes (exec (.loopRelease f) s) (fun t => loopQueued s t f.target 2 0 ∧ fired s t 7 f false ∧ s.Frame ([Part.loop f.target] ++ firingParts f) t)) ∧
  (∀ (s : State) (f : Firing),
    s.dev.actionHit 6 f.target = false →
    f.late = false ∧ f.tag = 0 →
    s.dev.loopState f.target = 0 ∨ s.dev.loopState f.target = 4 →
    Completes (exec (.loopEnable f) s) (fun t =>
          (if s.dev.loopState f.target = 0 then t.dev.get F.LOOP_REJECT.count = min (s.dev.get F.LOOP_REJECT.count + 1) (2 ^ 16 - 1) else loopQueued s t f.target 1 0) ∧ fired s t 6 f true ∧
          s.Frame ([Part.loop f.target, Part.reg R.LOOP_REJECT.off] ++ turnedParts) t)) ∧
  (∀ (s : State) (f : Firing),
    s.dev.actionHit 5 f.target = false →
    1 ≤ s.dev.loopState f.target ∧ s.dev.loopState f.target ≤ 3 →
    f.arg < 8 →
    s.dev.coef f.target (0x40 + 8 * f.arg) < 2 ^ 33 →
    Completes (exec (.loopSetpoint f) s) (fun t => loopQueued s t f.target 4 f.arg ∧ fired s t 5 f false ∧ s.Frame ([Part.loop f.target] ++ firingParts f) t))

/-- R306, R308, R309, R310, R311, R312, R314, R315, R317, R318: A RELEASED slot presents its safe value, a RUN slot computes
R309: working set-point, error, demand within its limits, saturation, integrator held while saturated; the value waits for
the hand-over and is then the output's, which loads it at its period. The commands that are due act first, in the states
that R312 gives; a block that is ready transfers, or is refused with code 4. Saturation that lasts is recorded once. A slot
that is OFF transfers a ready block where the image has the slot, and does nothing else. Points the spec leaves open follow
the model's choices of log entries 6, 131 and 261. -/
def Obligations.LoopSample : Prop :=
  (∀ (s : State) (k : Fin 64) (code : Int),
    s.dev.loopT k = none ∨ s.dev.evt.running = false →
    Completes (exec (.sampleBoundary k code) s) fun t => t = s) ∧
  (∀ (s : State) (k : Fin 64) (code : Int),
    boundaryRuns s.dev k →
    Completes (exec (.sampleBoundary k code) s) fun t =>
          let n := s.dev.nextBoundary k
          t.dev.now = s.dev.timeAt (n * sampleP s.dev k) ∧ s.dev.now < n * sampleP s.dev k + s.dev.lastGain ∧ (t.dev.loopS k).sampled = n + 1 ∧ (s.dev.loopS k).sampled ≠ n + 1 ∧
          t.dev.isReady (R.LOOP_Sk_COMMIT k) = false ∧
          (s.dev.isReady (R.LOOP_Sk_COMMIT k) = true → s.dev.blockBad k = false → ∀ (i : Nat), i < 32 → t.dev.coef k (8 * i) = s.dev.tw (0x310000 + k * 0x100 + 8 * i)) ∧
          (t.dev.loopS k).due = (if s.dev.loopState k = 0 then (s.dev.loopS k).due else (s.dev.loopS k).due.filter fun c => s.dev.timeAt (n * sampleP s.dev k) ≤ c.2.2)) ∧
  (∀ (s : State) (k : Fin 64) (code : Int),
    boundaryRuns s.dev k →
    s.dev.loopState k = 0 →
    s.dev.isReady (R.LOOP_Sk_COMMIT k) = false ∨ s.dev.cal.sent = [] →
    Completes (exec (.sampleBoundary k code) s) fun t =>
          t.dev.loopState k = 0 ∧ t.dev.loopS k = { s.dev.loopS k with sampled := s.dev.nextBoundary k + 1 } ∧
          (if s.dev.isReady (R.LOOP_Sk_COMMIT k) = true then t.dev.on (F.LOOP_Sk_STATUS.shadow_pending k) = false ∧
            (if s.dev.blockBad k = true then t.dev.get (F.LOOP_Sk_REFUSE.code k) = 4 ∧ bit (t.dev.rd (R.LOOP_Sk_IRQ_STATUS k)) 5 = true ∧ t.dev.actTbl = s.dev.actTbl
            else bit (t.dev.rd (R.LOOP_Sk_IRQ_STATUS k)) 0 = true) ∧
            s.Frame ([Part.rdy (R.LOOP_Sk_COMMIT k).off] ++ sampleParts k ++ (List.range 32).map (fun i => Part.actTbl (0x310000 + k * 0x100 + 8 * i))) t
          else s.Frame ([Part.loop k] ++ timeParts) t)) ∧
  (∀ (s : State) (k : Fin 64) (code : Int),
    slotAlone s.dev k →
    s.dev.loopState k = 1 →
    (s.dev.loopS k).due = [] →
    s.dev.isReady (R.LOOP_Sk_COMMIT k) = false →
    Completes (exec (.sampleBoundary k code) s) fun t =>
          let n := s.dev.nextBoundary k
          let c := (s.dev.advanceTo (n * sampleP s.dev k)).loopCode k code
          t.dev.loopS k = { s.dev.loopS k with sampled := n + 1, conv := some (s.dev.timeAt (n * sampleP s.dev k), c), hand := some (n * sampleP s.dev k + 750, (s.dev.loopC k).safeValue) } ∧
          t.dev.get (F.LOOP_Sk_FEEDBACK.y k) = enc 16 (s.dev.loopY k c) ∧ t.dev.get (F.LOOP_Sk_OUTPUT.applied k) = (s.dev.loopC k).safeValue % 2 ^ 16 ∧
          s.Frame ([Part.loop k, Part.reg (R.LOOP_Sk_FEEDBACK k).off, Part.reg (R.LOOP_Sk_OUTPUT k).off] ++ timeParts) t) ∧
  (∀ (s : State) (k : Fin 64) (code : Int),
    slotAlone s.dev k →
    s.dev.loopState k = 2 →
    (∀ c ∈ (s.dev.loopS k).due, s.dev.timeAt (s.dev.nextBoundary k * sampleP s.dev k) ≤ c.2.2) →
    (s.dev.loopS k).entered = 0 →
    s.dev.isReady (R.LOOP_Sk_COMMIT k) = false →
    s.dev.cf k 0x18 16 16 ≠ 1 →
    Completes (exec (.sampleBoundary k code) s) fun t =>
          let x := s.dev.loopS k
          let n := s.dev.nextBoundary k
          let c := (s.dev.advanceTo (n * sampleP s.dev k)).loopCode k code
          let y := s.dev.loopY k c
          let rw := if x.rate = 0 then x.target * 256 else if x.rw < x.target * 256 then min (x.rw + (x.rate : Nat)) (x.target * 256) else max (x.rw - (x.rate : Nat)) (x.target * 256)
          let dd := x.d + (s.dev.cfi k 0x08 63 32 * (x.yfPrev - y) - x.d) / (2 ^ s.dev.cf k 0x08 19 16 : Nat)
          let v := (s.dev.cfi k 0x00 31 0 * (rw / 256 - y) + x.i + dd + s.dev.cfi k 0x08 15 0 * 65536 + 32768) / 65536
          let u := if (s.dev.cf k 0x20 31 16 : Int) < v then s.dev.cf k 0x20 31 16 else if v < (s.dev.cf k 0x20 15 0 : Nat) then s.dev.cf k 0x20 15 0 else v.toNat
          let di := s.dev.cfi k 0x00 63 32 * (rw / 256 - sext 16 (enc 16 y))
          (t.dev.loopS k).rw = rw ∧ (t.dev.loopS k).d = dd ∧ (t.dev.loopS k).u = u ∧ (t.dev.loopS k).yfPrev = y ∧ (t.dev.loopS k).conv = some (s.dev.timeAt (n * sampleP s.dev k), c) ∧ t.dev.rd (R.LOOP_Sk_FEEDBACK k) = enc 16 y * 65536 + enc 16 y ∧ t.dev.rd (R.LOOP_Sk_WORKING k) = enc 24 rw ∧
          t.dev.get (F.LOOP_Sk_OUTPUT.u k) = u ∧ t.dev.get (F.LOOP_Sk_OUTPUT.applied k) = u ∧ t.dev.on (F.LOOP_Sk_STATUS.ramp_done k) = decide (rw = x.target * 256) ∧
          t.dev.on (F.LOOP_Sk_STATUS.sat_high k) = decide ((s.dev.cf k 0x20 31 16 : Int) < v) ∧ t.dev.on (F.LOOP_Sk_STATUS.sat_low k) = decide (v < (s.dev.cf k 0x20 15 0 : Nat)) ∧ t.dev.on (F.LOOP_Sk_STATUS.loser k) = false ∧
          (t.dev.loopS k).i = (if (0 < di ∧ (s.dev.cf k 0x20 31 16 : Int) < v) ∨ (di < 0 ∧ v < (s.dev.cf k 0x20 15 0 : Nat)) then x.i else clampI (-(2 ^ 47)) (2 ^ 47 - 1) (x.i + di)) ∧
          (t.dev.loopS k).hand = some (n * sampleP s.dev k + 750, u) ∧ t.dev.loopState k = 2 ∧ s.Frame (sampleParts k) t) ∧
  (∀ (s : State) (k : Fin 64) (code : Int) (op w : Nat),
    boundaryRuns s.dev k →
    s.dev.groupOf k = [k.val] ∧ (s.dev.loopC k).group = 0xFF →
    1 ≤ s.dev.loopState k ∧ s.dev.loopState k ≤ 5 →
    (s.dev.loopS k).due = [(op, 0, w)] →
    w < s.dev.nextBoundary k * sampleP s.dev k →
    op ∈ [1, 2, 3, 5, 6, 7] →
    s.dev.isReady (R.LOOP_Sk_COMMIT k) = false →
    Completes (exec (.sampleBoundary k code) s) fun t =>
          let st := s.dev.loopState k
          (t.dev.loopS k).due = [] ∧
          t.dev.loopState k = (if st = 5 then 5 else if op = 1 then (if st = 1 ∨ st = 3 then (if s.dev.hostIdle = true then 1 else 2) else st) else if op = 2 then (if st = 2 then 3 else if st = 3 then 1 else st)
            else if op = 3 then (if st = 3 then 1 else st) else if op = 5 then (if s.dev.heaterSlot k = true then 4 else if st = 2 then 3 else if st = 3 then 1 else st) else if op = 6 then 2 else 1) ∧
          (op = 1 ∧ (st = 1 ∨ st = 3) ∧ s.dev.hostIdle = true ∨ op = 1 ∧ st = 4 ∨ op = 2 ∧ st = 4 → t.dev.get (F.LOOP_Sk_REFUSE.code k) = 1 ∧ bit (t.dev.rd (R.LOOP_Sk_IRQ_STATUS k)) 5 = true) ∧
          s.Frame (sampleParts k) t) ∧
  (∀ (s : State) (k : Fin 64) (code : Int),
    slotAlone s.dev k →
    s.dev.loopState k = 1 →
    (s.dev.loopS k).due = [] →
    s.dev.isReady (R.LOOP_Sk_COMMIT k) = true →
    s.dev.cal.sent = [] →
    Completes (exec (.sampleBoundary k code) s) fun t =>
          t.dev.isReady (R.LOOP_Sk_COMMIT k) = false ∧ t.dev.on (F.LOOP_Sk_STATUS.shadow_pending k) = false ∧
          (if s.dev.blockBad k = true then t.dev.get (F.LOOP_Sk_REFUSE.code k) = 4 ∧ bit (t.dev.rd (R.LOOP_Sk_IRQ_STATUS k)) 5 = true ∧ t.dev.actTbl = s.dev.actTbl
          else (∀ (i : Nat), i < 32 → t.dev.coef k (8 * i) = s.dev.tw (0x310000 + k * 0x100 + 8 * i)) ∧ bit (t.dev.rd (R.LOOP_Sk_IRQ_STATUS k)) 0 = true) ∧
          s.Frame ([Part.rdy (R.LOOP_Sk_COMMIT k).off] ++ sampleParts k ++ (List.range 32).map (fun i => Part.actTbl (0x310000 + k * 0x100 + 8 * i))) t) ∧
  (∀ (s : State) (k : Fin 64) (tu : Nat × Nat),
    (s.dev.loopS k).hand = some tu →
    s.dev.evt.running = true →
    s.dev.now < 2 ^ 62 ∧ tu.1 < 2 ^ 62 →
    Completes (exec (.outputHandover k) s) fun t =>
          t.dev.now = s.dev.timeAt tu.1 ∧ (t.dev.loopS k).hand = none ∧ (t.dev.outS (s.dev.loopC k).output).u = tu.2 ∧ s.Frame ([Part.loop k, Part.outU (s.dev.loopC k).output] ++ timeParts) t) ∧
  (∀ (s : State) (o : Fin 16),
    s.dev.evt.running = true →
    s.dev.now < 2 ^ 62 →
    (s.dev.outS o).u < 2 ^ 16 →
    s.dev.cutValue o < 2 ^ 16 →
    Completes (exec (.outputPeriodStart o) s) fun t =>
          let n := s.dev.multiple (s.dev.outTicks o) (s.dev.outS o).ran
          s.dev.now < n * s.dev.outTicks o + s.dev.lastGain ∧ (s.dev.outS o).ran ≠ n + 1 ∧
          t.dev.now = s.dev.timeAt (n * s.dev.outTicks o) ∧ (t.dev.outS o).ran = n + 1 ∧
          t.dev.get (F.LOOP_OUTo_VALUE.source o) = (if s.dev.outNamed o = false ∨ s.dev.domOn 0 = false ∨ s.dev.sys.cut = true then 2 else if s.dev.outForced o = true then 1 else 0) ∧
          t.dev.get (F.LOOP_OUTo_VALUE.value o) = (if s.dev.outNamed o = false ∨ s.dev.domOn 0 = false ∨ s.dev.sys.cut = true then 0 else if s.dev.outForced o = true then s.dev.cutValue o else (s.dev.outS o).u) ∧
          s.Frame ([Part.outU o, Part.reg (R.LOOP_OUTo_VALUE o).off] ++ timeParts) t) ∧
  (∀ (s : State) (o : Fin 16),
    s.dev.evt.running = false →
    Completes (exec (.outputPeriodStart o) s) fun t => t = s) ∧
  (∀ (s : State) (k : Fin 64),
    s.dev.loopState k = 2 →
    (s.dev.loopS k).satSince ≠ 0 →
    s.dev.evt.running = true →
    s.dev.now < 2 ^ 62 ∧ (s.dev.loopS k).satSince < 2 ^ 62 →
    Completes (exec (.satTimeout k) s) fun t =>
          let ms := s.dev.cf k 0x28 31 16
          if ms = 0 ∨ (s.dev.loopS k).satRep = true then t = s
          else t.dev.now = s.dev.timeAt ((s.dev.loopS k).satSince - 1 + ms * 125000) ∧ (t.dev.loopS k).satRep = true ∧ t.dev.get (F.LOOP_Sk_COUNTS.saturation k) = min (s.dev.get (F.LOOP_Sk_COUNTS.saturation k) + 1) (2 ^ 16 - 1) ∧
            t.dev.on (F.FLT_SRCi_STATE.active 29) = true ∧ bit (t.dev.rd (R.LOOP_Sk_IRQ_STATUS k)) 4 = true ∧ strobed s.dev t.dev 29 (0x51 * 2 ^ 24 + k.val * 2 ^ 16 + (s.dev.loopS k).satDir % 65536) (enc 16 (s.dev.loopS k).target * 65536 + s.dev.get (F.LOOP_Sk_FEEDBACK.yf k)) ∧
            s.Frame ([Part.loop k, Part.reg (R.LOOP_Sk_COUNTS k).off, Part.reg (R.LOOP_Sk_IRQ_STATUS k).off] ++ irqParts ++ strobeParts 29 ++ activeParts 28 ++ activeParts 29 ++ timeParts) t)

/-- R333, R334, R335, R336, R337, R346, R349: While rails rise, the end of a step writes its time, shows the power-good level
and begins the next entry that is off, or reaches ON; while they fall, it begins the next entry below that is on. A step
that times out going up stops the sequence in HALTED, one that times out going down counts as done; both are counted,
flagged and recorded. A power-good level lost in ON is flagged and recorded and nothing else. -/
def Obligations.PowerSteps : Prop :=
  (∀ (s : State),
    s.dev.coreFalls = true →
    s.dev.idleStart = false →
    Completes (exec .powerStepDone s) (fun t =>
          t.dev.pwrSt = 0 ∧ t.dev.sys.now8 = s.dev.sys.now8 ∧
          (s.dev.pwr.shutAt ≠ 0 → t.dev.rd R.PWR_LAST_SHUTDOWN = min ((s.dev.sys.now8 + 1 - s.dev.pwr.shutAt) / 125) (2 ^ 32 - 1)) ∧
          s.Frame [Part.pwr, Part.reg R.PWR_STATE.off, Part.reg R.PWR_LAST_SHUTDOWN.off] t) ∧
        Completes (exec .powerStepTimeout s) (fun t =>
          t.dev.pwrSt = 0 ∧ t.dev.sys.now8 = max s.dev.sys.now8 (s.dev.pwr.stepAt + 2500000) ∧
          t.dev.get F.PWR_COUNTS.step_fail = min (s.dev.get F.PWR_COUNTS.step_fail + 1) 255 ∧ bit (t.dev.rd R.PWR_IRQ_STATUS) 5 = true ∧
          s.Frame ([Part.pwr, Part.reg R.PWR_STATE.off, Part.reg R.PWR_COUNTS.off, Part.reg R.PWR_LAST_SHUTDOWN.off] ++ pwrFlagParts ++ timeParts) t)) ∧
  (∀ (s : State) (i : Nat) (e : DomEntry),
    s.dev.stepNow = some (i, e, true) →
    e.kind ≠ 1 →
    s.dev.pinnaLost e.index = true →
    s.dev.pwr.down = 0 →
    s.dev.phaseSt 5 ≠ 1 →
    s.dev.idleStart = false →
    Completes (exec .powerStepDone s) fun t =>
          t.dev.sys.now8 = max s.dev.sys.now8 (s.dev.pwr.stepAt + 2500) ∧ t.dev.pwrSt = 5 ∧ t.dev.pwr = { s.dev.pwr with chanQ := [] } ∧
          t.dev.domOn e.index = s.dev.domOn e.index ∧ t.dev.get F.PWR_COUNTS.step_fail = min (s.dev.get F.PWR_COUNTS.step_fail + 1) 255 ∧
          bit (t.dev.rd R.PWR_IRQ_STATUS) 5 = true ∧ t.dev.on (F.FLT_SRCi_STATE.active 31) = true ∧
          strobed s.dev t.dev 31 (0x74 * 2 ^ 24 + i * 2 ^ 16 + e.code) 0 ∧
          s.Frame ([Part.pwr, Part.reg R.PWR_STATE.off, Part.reg R.PWR_COUNTS.off] ++ strobeParts 31 ++ activeParts 31 ++ pwrFlagParts ++ timeParts) t) ∧
  (∀ (s : State) (i : Nat) (e : DomEntry) (up : Bool),
    s.dev.coreFalls = false →
    s.dev.warned = false →
    (up = true → e.kind ≠ 1 → s.dev.pinnaLost e.index = false) →
    s.dev.stepNow = some (i, e, up) →
    Completes (exec .powerStepDone s) fun t =>
          t.dev.sys.now8 = max s.dev.sys.now8 (s.dev.pwr.stepAt + (if e.kind = 1 then (if e.pgUsed = true then 1250 else 0) else if up = true then 2500 else 0) + e.settleUs * 125) ∧
          t.dev.get F.PWR_STATE.elapsed_us = min ((t.dev.sys.now8 - s.dev.pwr.stepAt) / 125) 0xFFFF ∧
          (s.dev.pwrSt = 2 → s.dev.pwr.down = 0 → e.kind = 0 → e.index < 12 → t.dev.domOn e.index = true) ∧ t.pending = s.pending) ∧
  (∀ (s : State),
    s.dev.coreFalls = false →
    s.dev.idleStart = false →
    s.dev.stepNow = none →
    Completes (exec .powerStepDone s) (fun t => t = s) ∧ Completes (exec .powerStepTimeout s) (fun t => t = s)) ∧
  (∀ (s : State) (i : Nat) (e : DomEntry),
    s.dev.idleStart = false →
    s.dev.stepNow = some (i, e, true) →
    (e.kind = 1 → e.pgUsed = true) →
    s.dev.pwr.down = 0 →
    Completes (exec .powerStepTimeout s) fun t =>
          t.dev.pwrSt = 5 ∧ t.dev.pwr.chanQ = [] ∧ t.dev.sys.now8 = max s.dev.sys.now8 (s.dev.pwr.stepAt + e.timeoutMs * 125000) ∧
          t.dev.get F.PWR_COUNTS.step_fail = min (s.dev.get F.PWR_COUNTS.step_fail + 1) 255 ∧ bit (t.dev.rd R.PWR_IRQ_STATUS) 5 = true ∧
          (s.dev.phaseSt 5 = 1 → t.dev.phaseSt 5 = 3 ∧ t.dev.get F.SYS_PHASE.cause = (i + 1) % 256) ∧ t.mem = s.mem ∧ t.pending = s.pending) ∧
  (∀ (s : State) (i j : Nat) (e f : DomEntry),
    s.dev.idleStart = false →
    s.dev.pwrSt = 2 →
    s.dev.get F.PWR_STATE.entry = i →
    s.dev.doms[i]? = some e →
    e.kind = 1 →
    s.dev.pwr.down = 0 →
    (s.dev.nextOff (i + 1)) = some (j, f) →
    f.kind = 1 →
    e.index < 8 →
    f.index < 8 →
    j < 32 →
    Completes (exec .powerStepDone s) fun t =>
          t.dev.sys.now8 = max s.dev.sys.now8 (s.dev.pwr.stepAt + (if e.pgUsed = true then 1250 else 0) + e.settleUs * 125) ∧
          t.dev.rd (R.PWR_STEP_TIMEi i) = (t.dev.sys.now8 - s.dev.pwr.stepAt) / 125 % 2 ^ 32 ∧
          t.dev.get F.PWR_STATE.elapsed_us = min ((t.dev.sys.now8 - s.dev.pwr.stepAt) / 125) 65535 ∧
          (e.pgUsed = true → bit (t.dev.get F.PWR_STATUS.pg) e.index = true) ∧
          t.dev.pwrSt = 2 ∧ t.dev.get F.PWR_STATE.entry = j ∧ t.dev.pwr.stepAt = t.dev.sys.now8 ∧
          bit (t.dev.get F.PWR_STATUS.seq_en) f.index = true ∧ bit (t.dev.get F.PWR_DOMAINS.rails) f.index = true ∧
          s.Frame (railParts i) t) ∧
  (∀ (s : State) (i : Nat) (e : DomEntry),
    s.dev.idleStart = false →
    s.dev.pwrSt = 2 →
    s.dev.get F.PWR_STATE.entry = i →
    s.dev.doms[i]? = some e →
    e.kind = 1 →
    s.dev.pwr.down = 0 →
    s.dev.nextOff (i + 1) = none →
    s.dev.phaseSt 5 ≠ 1 →
    Completes (exec .powerStepDone s) fun t =>
          t.dev.sys.now8 = max s.dev.sys.now8 (s.dev.pwr.stepAt + (if e.pgUsed = true then 1250 else 0) + e.settleUs * 125) ∧
          t.dev.rd (R.PWR_STEP_TIMEi i) = (t.dev.sys.now8 - s.dev.pwr.stepAt) / 125 % 2 ^ 32 ∧
          t.dev.pwrSt = 3 ∧ bit (t.dev.rd R.PWR_IRQ_STATUS) 0 = true ∧
          s.Frame ([Part.reg R.PWR_STATE.off, Part.reg R.PWR_STATUS.off, Part.reg (R.PWR_STEP_TIMEi i).off] ++ activeParts 31 ++ pwrFlagParts ++ timeParts) t) ∧
  (∀ (s : State) (i j : Nat) (e f : DomEntry),
    s.dev.coreFalls = false →
    s.dev.idleStart = false →
    s.dev.pwrSt = 4 →
    s.dev.get F.PWR_STATE.entry = i →
    s.dev.doms[i]? = some e →
    e.kind = 1 →
    s.dev.pwr.up = false →
    (s.dev.nextOn i) = some (j, f) →
    f.kind = 1 →
    f.index < 8 →
    e.index < 8 →
    j < 32 →
    Completes (exec .powerStepDone s) fun t =>
          t.dev.pwrSt = 4 ∧ t.dev.get F.PWR_STATE.entry = j ∧ t.dev.pwr.stepAt = t.dev.sys.now8 ∧
          (e.pgUsed = true → bit (t.dev.get F.PWR_STATUS.pg) e.index = false) ∧
          bit (t.dev.get F.PWR_STATUS.seq_en) f.index = false ∧ bit (t.dev.get F.PWR_DOMAINS.rails) f.index = false ∧
          s.Frame ([Part.pwr, Part.reg R.PWR_STATE.off, Part.reg R.PWR_STATUS.off, Part.reg R.PWR_DOMAINS.off] ++ activeParts 31 ++ timeParts) t) ∧
  (∀ (s : State) (i : Nat) (e : DomEntry),
    s.dev.idleStart = false →
    s.dev.pwrSt = 2 →
    s.dev.get F.PWR_STATE.entry = i →
    s.dev.doms[i]? = some e →
    (e.kind = 1 → e.pgUsed = true) →
    s.dev.pwr.down = 0 →
    s.dev.phaseSt 5 ≠ 1 →
    Completes (exec .powerStepTimeout s) fun t =>
          t.dev.sys.now8 = max s.dev.sys.now8 (s.dev.pwr.stepAt + e.timeoutMs * 125000) ∧
          t.dev.pwrSt = 5 ∧ t.dev.get F.PWR_COUNTS.step_fail = min (s.dev.get F.PWR_COUNTS.step_fail + 1) 255 ∧
          bit (t.dev.rd R.PWR_IRQ_STATUS) 5 = true ∧ t.dev.on (F.FLT_SRCi_STATE.active 31) = true ∧
          strobed s.dev t.dev 31 (0x70 * 2 ^ 24 + i * 2 ^ 16 + e.code) (s.dev.rd R.PWR_STATUS) ∧
          s.Frame ([Part.pwr, Part.reg R.PWR_STATE.off, Part.reg R.PWR_COUNTS.off] ++ strobeParts 31 ++ activeParts 31 ++ pwrFlagParts ++ timeParts) t) ∧
  (∀ (s : State) (i : Nat) (e : DomEntry),
    s.dev.coreFalls = false →
    s.dev.idleStart = false →
    s.dev.pwrSt = 4 →
    s.dev.get F.PWR_STATE.entry = i →
    s.dev.doms[i]? = some e →
    e.kind = 1 ∧ e.pgUsed = true ∧ e.index < 8 →
    s.dev.pwr.up = false →
    s.dev.nextOn i = none →
    s.dev.get F.PWR_STATE.purpose = 1 →
    Completes (exec .powerStepTimeout s) fun t =>
          t.dev.pwrSt = 1 ∧ t.dev.phaseSt 5 = 5 ∧ t.dev.get F.SYS_PHASE.phase = 5 ∧ t.dev.get F.SYS_PHASE.state = 5 ∧
          t.dev.get F.PWR_COUNTS.step_fail = min (s.dev.get F.PWR_COUNTS.step_fail + 1) 255 ∧
          strobed s.dev t.dev 31 (0x73 * 2 ^ 24 + i * 2 ^ 16 + e.code) (s.dev.rd R.PWR_STATUS) ∧
          (∀ (p : Nat), 6 ≤ p → p ≤ 9 → t.dev.phaseSt p = 0 ∧ t.dev.rd (R.SYS_PHASE_TIMEk (p - 1)) = 0xFFFFFFFF) ∧
          s.Frame ([Part.pwr, Part.sys, Part.reg R.SYS_PHASE.off, Part.reg R.PWR_STATE.off, Part.reg R.PWR_COUNTS.off] ++
            (List.range 5).map (fun k => Part.reg (R.SYS_PHASE_TIMEk (k + 4)).off) ++ strobeParts 31 ++ activeParts 31 ++ pwrFlagParts ++ timeParts) t) ∧
  (∀ (s : State) (i : Nat) (e : DomEntry) (k : Fin 16),
    s.dev.pwrSt = 3 →
    s.dev.doms[i]? = some e →
    e.index = k ∧ e.pgUsed = true ∧ i < 32 →
    k < 8 →
    s.dev.entryOn e = true →
    (∀ (j : Nat), j < i → (s.dev.doms[j]?.map fun x => (decide (x.kind = 1), x.index)) ≠ some (decide (e.kind = 1), e.index)) →
    Completes (exec (.pgLost (decide (e.kind = 1)) k) s) fun t =>
          t.dev.sys.now8 = s.dev.sys.now8 + 1250 ∧ bit (t.dev.rd R.PWR_IRQ_STATUS) 4 = true ∧
          (e.kind = 1 → bit (t.dev.get F.PWR_STATUS.pg) k = false ∧ t.dev.on (F.FLT_SRCi_STATE.active 31) = true) ∧
          strobed s.dev t.dev 31 (0x72 * 2 ^ 24 + i * 2 ^ 16 + e.code) (t.dev.rd R.PWR_STATUS) ∧
          s.Frame ([Part.reg R.PWR_STATUS.off] ++ strobeParts 31 ++ activeParts 31 ++ pwrFlagParts ++ timeParts) t) ∧
  (∀ (s : State) (ext : Bool) (k : Fin 16),
    s.dev.pwrSt ≠ 3 →
    Completes (exec (.pgLost ext k) s) fun t => t = s)

/-- R338, R340, R341, R346: STANDBY is accepted in safe idle from ON or HALTED and begins the down sequence; WAKE from a standby
device begins phase 5 and the up sequence again. A channel is switched off or on only in ON, never while a sheet needs it
unless forced; switching it off returns every register of its slice to reset. What is not accepted is refused and counted. -/
def Obligations.PowerRequests : Prop :=
  (∀ (s : State),
    s.dev.direct R.PWR_CMD.off →
    s.dev.pwrSt = 2 ∨ s.dev.pwrSt = 3 →
    Completes (exec .wake s) fun t => t = s) ∧
  (∀ (s : State),
    s.dev.direct R.PWR_CMD.off →
    s.dev.get F.SYS_HOST_STATE.state = 4 →
    (s.dev.pwrSt = 3 ∧ s.dev.pwr.chanQ = []) ∨ s.dev.pwrSt = 5 →
    Completes (exec .standby s) fun t =>
          (t.dev.pwrSt = if s.dev.nextOn s.dev.doms.length = none then 1 else 4) ∧ t.dev.get F.PWR_STATE.purpose = 1 ∧ t.dev.get F.SYS_HOST_STATE.state = 4 ∧
          t.pending = s.pending) ∧
  (∀ (s : State),
    s.dev.direct R.PWR_CMD.off →
    s.dev.get F.SYS_HOST_STATE.state = 4 →
    s.dev.pwrSt = 3 →
    s.dev.pwr.chanQ ≠ [] →
    Completes (exec .standby s) fun t => t.dev.get F.PWR_STATE.pending = 1 ∧ t.dev.pwr = { s.dev.pwr with down := if s.dev.pwr.down = 3 then 3 else 1, up := false } ∧ s.Frame [Part.pwr, Part.reg R.PWR_STATE.off] t) ∧
  (∀ (s : State),
    s.dev.direct R.PWR_CMD.off →
    s.dev.pwrSt = 1 →
    s.dev.phaseSt 5 = 5 →
    Completes (exec .wake s) fun t =>
          (s.dev.nextOff 0 = none → t.dev.pwrSt = 3 ∧ t.dev.phaseSt 5 = 2) ∧
          (∀ p ∈ s.dev.nextOff 0, t.dev.pwrSt = 2 ∧ t.dev.phaseSt 5 = 1 ∧ t.dev.get F.PWR_STATE.entry = p.1 % 32) ∧ (∀ (k : Nat), k < 19 → t.dev.rd (R.PWR_STEP_TIMEi k) = 0xFFFFFFFF) ∧ t.mem = s.mem ∧ t.pending = s.pending) ∧
  (∀ (s : State),
    s.dev.direct R.PWR_CMD.off →
    s.dev.pwrSt = 4 →
    s.dev.get F.PWR_STATE.purpose = 1 →
    Completes (exec .wake s) fun t =>
          t.dev.get F.PWR_STATE.pending = 1 ∧ t.dev.pwr = { s.dev.pwr with up := true } ∧ t.dev.phaseSt 5 = 1 ∧ s.Frame [Part.pwr, Part.sys, Part.reg R.PWR_STATE.off] t) ∧
  (∀ (s : State) (n : Fin 8) (force : Bool) (i : Nat) (e : DomEntry),
    s.dev.direct R.PWR_CHAN_CMD.off →
    s.dev.warned = false →
    s.dev.pwrSt = 3 →
    s.dev.chanEntry n = some (i, e) →
    Completes (exec (.channelPowerOff (BitVec.ofNat 8 (2 ^ n.val)) force) s) fun t =>
          if s.dev.chanBusy n = true ∧ force = false then pwrRefused s.dev t.dev ∧ t.dev.domOn (4 + n) = s.dev.domOn (4 + n)
          else if s.dev.pwr.chanQ = [] then t.dev.domOn (4 + n) = false ∧ t.pending = s.pending
          else t.dev.pwr.chanQ = s.dev.pwr.chanQ ++ [(n.val, false)] ∧ s.Frame [Part.pwr] t) ∧
  (∀ (s : State) (j : Nat) (f : DomEntry),
    s.dev.direct R.PWR_CMD.off →
    s.dev.get F.SYS_HOST_STATE.state = 4 →
    s.dev.pwrSt = 3 ∨ s.dev.pwrSt = 5 →
    s.dev.pwr.chanQ = [] →
    (s.dev.nextOn s.dev.doms.length) = some (j, f) →
    f.kind = 1 ∧ f.index < 8 ∧ j < 32 →
    Completes (exec .standby s) fun t =>
          t.dev.pwrSt = 4 ∧ t.dev.get F.PWR_STATE.purpose = 1 ∧ t.dev.get F.PWR_STATE.entry = j ∧
          bit (t.dev.get F.PWR_STATUS.seq_en) f.index = false ∧ bit (t.dev.get F.PWR_DOMAINS.rails) f.index = false ∧
          s.Frame ([Part.pwr, Part.reg R.PWR_STATE.off, Part.reg R.PWR_STATUS.off, Part.reg R.PWR_DOMAINS.off] ++ activeParts 31) t) ∧
  (∀ (s : State),
    s.dev.direct R.PWR_CMD.off →
    s.dev.get F.SYS_HOST_STATE.state ≠ 4 ∨ (s.dev.pwrSt ≠ 3 ∧ s.dev.pwrSt ≠ 5) →
    Completes (exec .standby s) fun t => pwrRefused s.dev t.dev ∧ s.Frame pwrRefuseParts t) ∧
  (∀ (s : State) (j : Nat) (f : DomEntry),
    s.dev.direct R.PWR_CMD.off →
    s.dev.pwrSt = 1 →
    s.dev.phaseSt 5 = 5 →
    (s.dev.nextOff 0) = some (j, f) →
    f.kind = 1 ∧ f.index < 8 ∧ j < 32 →
    Completes (exec .wake s) fun t =>
          t.dev.pwrSt = 2 ∧ t.dev.get F.PWR_STATE.purpose = 0 ∧ t.dev.get F.PWR_STATE.entry = j ∧ t.dev.phaseSt 5 = 1 ∧
          t.dev.get F.SYS_PHASE.phase = 5 ∧ t.dev.get F.SYS_PHASE.state = 1 ∧
          bit (t.dev.get F.PWR_STATUS.seq_en) f.index = true ∧ bit (t.dev.get F.PWR_DOMAINS.rails) f.index = true ∧
          s.Frame ([Part.pwr, Part.sys, Part.reg R.SYS_PHASE.off, Part.reg (R.SYS_PHASE_TIMEk 4).off, Part.reg R.PWR_STATE.off, Part.reg R.PWR_STATUS.off, Part.reg R.PWR_DOMAINS.off] ++ (List.range 19).map fun k => Part.reg (R.PWR_STEP_TIMEi k).off) t) ∧
  (∀ (s : State),
    s.dev.direct R.PWR_CMD.off →
    s.dev.pwrSt ≠ 2 ∧ s.dev.pwrSt ≠ 3 →
    (s.dev.pwrSt = 1 → s.dev.phaseSt 5 ≠ 5) →
    (s.dev.pwrSt = 4 → s.dev.get F.PWR_STATE.purpose ≠ 1) →
    Completes (exec .wake s) fun t => pwrRefused s.dev t.dev ∧ s.Frame pwrRefuseParts t) ∧
  (∀ (s : State) (n : Fin 8) (force : Bool) (i : Nat) (e : DomEntry),
    s.dev.direct R.PWR_CHAN_CMD.off →
    s.dev.idleStart = false →
    s.dev.pwrSt = 3 →
    s.dev.pwr.chanQ = [] →
    s.dev.chanEntry n = some (i, e) →
    s.dev.domOn (4 + n) = true →
    (∀ (k : Nat), k < 32 → s.dev.shtState k ≠ 2 ∧ s.dev.shtState k ≠ 3) →
    Completes (exec (.channelPowerOff (BitVec.ofNat 8 (2 ^ n.val)) force) s) fun t =>
          t.dev.domOn (4 + n) = false ∧ t.dev.get F.PWR_STATE.entry = i % 32 ∧ t.dev.pwrSt = 3 ∧
          (∀ (k : Nat), k < 0x8000 → t.dev.rd ⟨0x200000 + n * 0x20000 + 4 * k, 64, 0⟩ = 0) ∧
          Store.get {} t.dev.ch n = {} ∧ t.dev.flt.opens = s.dev.flt.opens ∧ t.dev.flt.shadows = s.dev.flt.shadows ∧
          s.dev.Kept [Part.reg R.PWR_STATUS.off, Part.reg R.SYS_PHASE.off, Part.sys, Part.clock, Part.strobes, Part.sht, Part.host, Part.ch (n + 1)] t.dev ∧ t.mem = s.mem ∧ t.pending = s.pending) ∧
  (∀ (s : State) (mask : Byte) (force : Bool),
    s.dev.direct R.PWR_CHAN_CMD.off →
    s.dev.idleStart = false →
    s.dev.pwrSt ≠ 3 →
    Completes (exec (.channelPowerOff mask force) s) (fun t => pwrRefused s.dev t.dev ∧ s.Frame pwrRefuseParts t) ∧
        Completes (exec (.channelPowerOn mask) s) (fun t => pwrRefused s.dev t.dev ∧ s.Frame pwrRefuseParts t)) ∧
  (∀ (s : State) (n : Fin 8) (i : Nat) (e : DomEntry),
    s.dev.direct R.PWR_CHAN_CMD.off →
    s.dev.pwrSt = 3 →
    s.dev.pwr.chanQ = [] →
    s.dev.chanEntry n = some (i, e) →
    s.dev.domOn (4 + n) = false →
    (s.dev.chan n).isSome = true →
    Completes (exec (.channelPowerOn (BitVec.ofNat 8 (2 ^ n.val))) s) fun t =>
          t.dev.get F.PWR_STATE.entry = i % 32 ∧ t.dev.pwrSt = 3 ∧ t.dev.pwr.chanQ = [(n.val, true)] ∧ t.dev.pwr.stepAt = s.dev.sys.now8 ∧
          s.Frame [Part.pwr, Part.reg R.PWR_STATE.off] t)

/-- R342, R343, R344, R345, R346, R349: A power-fail warning that holds for its qualification time is shown, counted, flagged
and recorded; it is withdrawn when the pin has stayed high for its return time, and it turns into the timed shut-down when
the hold-up time ends. A collapse of the hold-up supply takes every domain off at once; PARK_RESTART and SUPPLY_RECOVERY
start bring-up again as full resets. Points the spec leaves open follow the model's choices of log entries 21 and 152. -/
def Obligations.PowerFail : Prop :=
  (∀ (s : State),
    s.dev.on F.PWR_STATUS.pfail_active = true →
    s.dev.on F.PWR_STATUS.shutdown = false →
    s.dev.idleStart = true ∨
      s.dev.holdupAt ≤ max s.dev.sys.now8 (s.dev.pwr.warnAt - 1 + max 1 (s.dev.get F.PWR_PFAIL_RETURN.pfail_return_ms) * 125000) →
    Completes (exec .pfailClear s) fun t =>
          t.dev.on F.PWR_STATUS.shutdown = true ∧ t.dev.get F.PWR_STATUS.pfail_pin = 1 ∧ t.dev.on F.PWR_STATUS.pfail_active = true ∧
          bit (t.dev.rd R.PWR_IRQ_STATUS) 3 = true ∧ t.dev.get F.PWR_COUNTS.shutdowns = min (s.dev.get F.PWR_COUNTS.shutdowns + 1) 255 ∧
          (∀ (k : Nat), k < 32 → t.dev.shtState k ≠ 2 ∧ t.dev.shtState k ≠ 3) ∧ t.dev.get F.FLT_LATCH_INFO.reason = 1) ∧
  (∀ (s : State),
    s.dev.on F.PWR_PFAIL_CFG.pfail_en = true →
    s.dev.on F.PWR_STATUS.pfail_active = false →
    s.dev.domOn 0 = true →
    Completes (exec .powerFailWarning s) fun t =>
          t.dev.on F.PWR_STATUS.pfail_active = true ∧ t.dev.get F.PWR_STATUS.pfail_pin = 0 ∧ bit (t.dev.rd R.PWR_IRQ_STATUS) 1 = true ∧
          t.dev.get F.PWR_COUNTS.pfail = min (s.dev.get F.PWR_COUNTS.pfail + 1) 255 ∧
          (s.dev.on F.PWR_PFAIL_CFG.start_on_idle = true → s.dev.get F.SYS_HOST_STATE.in_flight = 0 → t.dev.on F.PWR_STATUS.shutdown = true) ∧
          t.pending = s.pending) ∧
  (∀ (s : State),
    s.dev.on F.PWR_STATUS.pfail_active = true →
    s.dev.on F.PWR_STATUS.shutdown = false →
    Completes (exec .holdupExpire s) fun t =>
          t.dev.on F.PWR_STATUS.shutdown = true ∧ bit (t.dev.rd R.PWR_IRQ_STATUS) 3 = true ∧
          t.dev.get F.PWR_COUNTS.shutdowns = min (s.dev.get F.PWR_COUNTS.shutdowns + 1) 255 ∧
          (∀ (k : Nat), k < 32 → t.dev.shtState k ≠ 2 ∧ t.dev.shtState k ≠ 3) ∧ t.dev.get F.FLT_LATCH_INFO.reason = 1 ∧ t.pending = s.pending) ∧
  (∀ (s : State),
    s.dev.on F.PWR_PFAIL_CFG.pfail_en = true →
    s.dev.on F.PWR_STATUS.pfail_active = false →
    s.dev.on F.PWR_STATUS.shutdown = false →
    s.dev.domOn 0 = true →
    (s.dev.on F.PWR_PFAIL_CFG.start_on_idle = true → s.dev.get F.SYS_HOST_STATE.in_flight ≠ 0) →
    Completes (exec .powerFailWarning s) fun t =>
          t.dev.get F.PWR_STATUS.pfail_pin = 0 ∧ t.dev.on F.PWR_STATUS.pfail_active = true ∧ t.dev.on (F.FLT_SRCi_STATE.active 31) = true ∧
          t.dev.sys.now8 = s.dev.sys.now8 + max 1 (s.dev.get F.PWR_PFAIL_CFG.pfail_qual_us) * 125 ∧ t.dev.pwr.warnAt = t.dev.sys.now8 + 1 ∧
          bit (t.dev.rd R.PWR_IRQ_STATUS) 1 = true ∧ t.dev.get F.PWR_COUNTS.pfail = min (s.dev.get F.PWR_COUNTS.pfail + 1) 255 ∧
          strobed s.dev t.dev 31 (0x71 * 2 ^ 24 + 0x1F * 2 ^ 16) (s.dev.get F.SYS_HOST_STATE.in_flight) ∧
          s.Frame ([Part.pwr, Part.reg R.PWR_STATUS.off, Part.reg R.PWR_COUNTS.off] ++ strobeParts 31 ++ activeParts 31 ++ pwrFlagParts ++ timeParts) t) ∧
  (∀ (s : State),
    s.dev.on F.PWR_PFAIL_CFG.pfail_en = false ∨ s.dev.on F.PWR_STATUS.pfail_active = true ∨ s.dev.domOn 0 = false →
    Completes (exec .powerFailWarning s) fun t => t.dev.get F.PWR_STATUS.pfail_pin = 0 ∧ s.Frame [Part.reg R.PWR_STATUS.off] t) ∧
  (∀ (s : State),
    s.dev.idleStart = false →
    max s.dev.sys.now8 (s.dev.pwr.warnAt - 1 + max 1 (s.dev.get F.PWR_PFAIL_RETURN.pfail_return_ms) * 125000) < s.dev.holdupAt →
    s.dev.on F.PWR_STATUS.pfail_active = true →
    s.dev.on F.PWR_STATUS.shutdown = false →
    Completes (exec .pfailClear s) fun t =>
          t.dev.sys.now8 = max s.dev.sys.now8 (s.dev.pwr.warnAt - 1 + max 1 (s.dev.get F.PWR_PFAIL_RETURN.pfail_return_ms) * 125000) ∧
          t.dev.on F.PWR_STATUS.pfail_active = false ∧ t.dev.get F.PWR_STATUS.pfail_pin = 1 ∧ bit (t.dev.rd R.PWR_IRQ_STATUS) 2 = true ∧
          s.Frame ([Part.pwr, Part.reg R.PWR_STATUS.off] ++ activeParts 31 ++ pwrFlagParts ++ timeParts) t) ∧
  (∀ (s : State),
    s.dev.on F.PWR_STATUS.pfail_active = false ∨ s.dev.on F.PWR_STATUS.shutdown = true →
    Completes (exec .holdupExpire s) (fun t => t = s) ∧
        Completes (exec .pfailClear s) (fun t => t.dev.get F.PWR_STATUS.pfail_pin = 1 ∧ s.Frame [Part.reg R.PWR_STATUS.off] t)) ∧
  (∀ (s : State),
    s.dev.on F.PWR_STATUS.pfail_active = true →
    s.dev.on F.PWR_STATUS.shutdown = false →
    s.dev.pwrSt = 3 →
    s.dev.pwr.chanQ = [] →
    s.dev.doms ≠ [] →
    (∀ e ∈ s.dev.doms, e.kind = 1 ∧ e.index < 8 ∧ s.dev.entryOn e = true) →
    Completes (exec .holdupExpire s) fun t =>
          t.dev.on F.PWR_STATUS.shutdown = true ∧ t.dev.sys.cut = true ∧ bit (t.dev.rd R.PWR_IRQ_STATUS) 3 = true ∧
          t.dev.get F.PWR_COUNTS.shutdowns = min (s.dev.get F.PWR_COUNTS.shutdowns + 1) 255 ∧
          t.dev.pwrSt = 4 ∧ t.dev.get F.PWR_STATE.purpose = 3 ∧ t.dev.get F.PWR_STATE.entry = (s.dev.doms.length - 1) % 32 ∧
          (∀ (k : Nat), k < 32 → t.dev.shtState k ≠ 2 ∧ t.dev.shtState k ≠ 3) ∧
          t.dev.get F.FLT_LATCH_INFO.reason = 1 ∧ t.pending = s.pending) ∧
  (∀ (s : State),
    s.dev.pwrSt = 0 →
    s.dev.get F.PWR_STATE.purpose = 3 →
    s.dev.sys.inReset = false →
    s.dev.pwr.collapsed = false →
    Completes (exec .parkRestart s) fun t =>
          t.dev.sys.now8 = s.dev.sys.now8 + max 1 (s.dev.get F.PWR_PFAIL_RETURN.pfail_return_ms) * 125000 ∧
          t.dev.phaseSt 2 = 1 ∧ t.dev.get F.PWR_STATUS.pfail_pin = 1 ∧ t.dev.get F.PWR_STATUS.park_restart = 1 ∧
          t.dev.rd R.PWR_COUNTS = s.dev.rd R.PWR_COUNTS % 2 ^ 32 ∧ t.dev.rd R.PWR_LAST_SHUTDOWN = s.dev.rd R.PWR_LAST_SHUTDOWN % 2 ^ 32 ∧
          bits (t.dev.rd R.SYS_RESET_CAUSE) 8 0 = 0 ∧
          t.dev.get F.SYS_RESET_COUNT.full = min (s.dev.get F.SYS_RESET_COUNT.full + 1) (2 ^ 16 - 1) ∧ s.Frame restartParts t) ∧
  (∀ (s : State),
    s.dev.sys.inReset = false →
    s.dev.pwr.collapsed = false →
    Completes (exec .inputCollapse s) fun t =>
          t.dev.pwr.collapsed = true ∧ (∀ (k : Nat), k < 12 → t.dev.domOn k = false) ∧ t.dev.get F.TWN_TOKEN_STATE.latch = 0 ∧
          t.dev.rd R.SYS_STRAPS = s.dev.rd R.SYS_STRAPS ∧ t.dev.rd R.PWR_COUNTS = s.dev.rd R.PWR_COUNTS % 2 ^ 32 ∧
          t.dev.get F.FLT_LATCH_INFO.reason = 3 ∧ t.mem = State.reset.mem ∧ t.pending = s.pending) ∧
  (∀ (s : State),
    s.dev.pwr.collapsed = true →
    Completes (exec .supplyRecovery s) fun t =>
          t.dev.sys.now8 = s.dev.sys.now8 + 125000 ∧ t.dev.phaseSt 1 = 1 ∧ t.dev.pwr.collapsed = false ∧
          bits (t.dev.rd R.SYS_RESET_CAUSE) 8 0 = 0 ∧
          t.dev.get F.SYS_RESET_COUNT.full = min (s.dev.get F.SYS_RESET_COUNT.full + 1) (2 ^ 16 - 1) ∧ s.Frame restartParts t)

/-- R350, R351, R353, R356, R357, R363: Four good windows make the reference good and leave the RC oscillator; a bad or missing
window makes it lost, on the RC oscillator, with a record under bit 23 that says how, and every locked loop that follows it
loses lock. CLK_REF_CFG is taken only in safe idle outside phases 3 to 9, re-locking the loops whose stage changed, and
refused and counted else. -/
def Obligations.ClockReference : Prop :=
  (∀ (s : State) (v : Word32),
    s.dev.direct R.CLK_REF_CFG.off →
    s.dev.warned = false →
    s.dev.get F.SYS_HOST_STATE.state = 4 →
    s.dev.phaseSt 3 = 0 ∨ s.dev.phaseSt 9 = 2 ∨ s.dev.phaseSt 9 = 4 →
    Completes (exec (.clkRefCfgWrite v) s) fun t =>
          t.dev.rd R.CLK_REF_CFG = v.toNat % 256 ∧
          (∀ (i : Nat), i < 4 → refMode (s.dev.rd R.CLK_REF_CFG) i ≠ refMode v.toNat i → t.dev.loopLocked i = false) ∧ t.mem = s.mem ∧ t.pending = s.pending) ∧
  (∀ (s : State),
    s.dev.sys.inReset = false →
    s.dev.on F.CLK_STATUS.refclk_good = false →
    Completes (exec .refclkGood s) fun t =>
          t.dev.on F.CLK_STATUS.refclk_good = true ∧ t.dev.on F.CLK_STATUS.on_rc = false ∧ bit (t.dev.rd R.CLK_EVENTS) 0 = true ∧
          t.dev.get F.CLK_MON_STATUS.refclk = 0 ∧ bit t.dev.clk.said 24 = false ∧
          s.Frame ([Part.clk, Part.reg R.CLK_STATUS.off, Part.reg R.CLK_EVENTS.off, Part.reg R.CLK_MON_STATUS.off] ++ activeParts 23) t) ∧
  (∀ (s : State) (missing : Bool) (count : Word32),
    s.dev.idleStart = false →
    s.dev.on F.CLK_STATUS.refclk_good = true →
    (∀ (i : Nat), i < 4 → s.dev.loopLocked i = false) →
    s.dev.twnSt ≠ 3 →
    Completes (exec (.refclkLost missing count) s) fun t =>
          t.dev.on F.CLK_STATUS.refclk_good = false ∧ t.dev.on F.CLK_STATUS.on_rc = true ∧ t.dev.get F.CLK_MON_STATUS.refclk = 1 ∧
          bit (t.dev.rd R.CLK_EVENTS) 3 = true ∧ strobed s.dev t.dev 23 (0x82 * 2 ^ 24 + (if missing then 2 else 1)) count.toNat ∧ t.dev.on (F.FLT_SRCi_STATE.active 23) = true ∧
          s.Frame ([Part.clk, Part.twn, Part.reg R.TWN_STATUS.off, Part.reg R.CLK_STATUS.off, Part.reg R.CLK_EVENTS.off, Part.reg R.CLK_MON_STATUS.off] ++ strobeParts 23 ++ activeParts 23) t) ∧
  (∀ (s : State) (missing : Bool) (count : Word32),
    s.dev.warned = false →
    s.dev.on F.CLK_STATUS.refclk_good = true →
    Completes (exec (.refclkLost missing count) s) fun t =>
          (∀ (i : Nat), i < 4 → t.dev.loopLocked i = false ∧ (s.dev.loopLocked i = true →
            t.dev.get (F.CLK_LOOPi_COUNTS.losses i) = min (s.dev.get (F.CLK_LOOPi_COUNTS.losses i) + 1) (2 ^ 16 - 1))) ∧
          (s.dev.loopLocked 0 = true → t.dev.on F.CLK_STATUS.core_fb = true) ∧
          (s.dev.loopLocked 1 = true → t.dev.on F.CLK_STATUS.tbase_fb = true ∧ t.dev.on F.CLK_STATUS.motion_fb = true) ∧
          (s.dev.loopLocked 2 = true → t.dev.get F.MEM_STATUS.trained = 0) ∧ t.dev.loopLocked 4 = s.dev.loopLocked 4 ∧
          t.dev.sys.now8 = s.dev.sys.now8 ∧ t.mem = s.mem ∧ t.pending = s.pending) ∧
  (∀ (s : State) (missing : Bool) (count : Word32),
    (s.dev.on F.CLK_STATUS.refclk_good = true → Completes (exec .refclkGood s) fun t => t = s) ∧
        (s.dev.on F.CLK_STATUS.refclk_good = false → s.dev.idleStart = false → Completes (exec (.refclkLost missing count) s) fun t => t = s)) ∧
  (∀ (s : State) (v : Word32),
    s.dev.direct R.CLK_REF_CFG.off →
    s.dev.idleStart = false →
    s.dev.get F.SYS_HOST_STATE.state = 4 →
    s.dev.phaseSt 3 = 0 ∨ s.dev.phaseSt 9 = 2 ∨ s.dev.phaseSt 9 = 4 →
    (∀ (i : Nat), i < 4 → refMode (s.dev.rd R.CLK_REF_CFG) i ≠ refMode v.toNat i → s.dev.loopLocked i = false) →
    Completes (exec (.clkRefCfgWrite v) s) fun t => t.dev.rd R.CLK_REF_CFG = v.toNat % 256 ∧ s.Frame [Part.reg R.CLK_REF_CFG.off] t) ∧
  (∀ (s : State) (v : Word32),
    s.dev.direct R.CLK_REF_CFG.off →
    s.dev.idleStart = false →
    s.dev.get F.SYS_HOST_STATE.state ≠ 4 ∨ (s.dev.phaseSt 3 ≠ 0 ∧ s.dev.phaseSt 9 ≠ 2 ∧ s.dev.phaseSt 9 ≠ 4) →
    Completes (exec (.clkRefCfgWrite v) s) fun t =>
          t.dev.get F.CLK_REJECT.count = min (s.dev.get F.CLK_REJECT.count + 1) (2 ^ 16 - 1) ∧ s.Frame [Part.reg R.CLK_REJECT.off] t)

/-- R353, R354, R355, R356, R358, R359: A powered loop with its reference declares lock: its bit sets, its monitor clears, core
and motion leave the safe clock with the time they were on it. A loop that loses lock is counted; the core loop goes to the
safe clock; a monitor trip says so besides. A loop that has not re-locked 20 ms after a loss is recorded once under its
source. -/
def Obligations.ClockLoops : Prop :=
  (∀ (s : State) (i : Fin 24),
    s.dev.loopPowered i = true →
    s.dev.loopRef i = true →
    s.dev.loopLocked i = false →
    Completes (exec (.loopLock i) s) fun t => t.dev.loopLocked i = true ∧ Store.get 0 t.dev.clk.lostAt i = 0 ∧ t.mem = s.mem ∧ t.pending = s.pending) ∧
  (∀ (s : State) (i : Fin 24),
    s.dev.warned = false →
    s.dev.loopPowered i = true →
    Completes (exec (.loopUnlock i) s) fun t =>
          t.dev.loopLocked i = false ∧ (s.dev.loopLocked i = false → t = s) ∧ t.mem = s.mem ∧ t.pending = s.pending) ∧
  (∀ (s : State) (i : Fin 24),
    s.dev.warned = false →
    s.dev.loopPowered i = true →
    i.val < 5 ∨ (8 ≤ i.val ∧ i.val < 16) →
    (if i.val < 5 then s.dev.on F.CLK_STATUS.refclk_good else s.dev.loopLocked 1) = true →
    Completes (exec (.clockMonitorTrip i) s) fun t =>
          t.dev.loopLocked i = false ∧ bit (t.dev.rd R.CLK_MON_STATUS) (monBit i) = true ∧ bit (t.dev.rd R.CLK_EVENTS) 4 = true ∧ t.mem = s.mem ∧ t.pending = s.pending) ∧
  (∀ (s : State),
    s.dev.domOn 0 = true →
    s.dev.on F.CLK_STATUS.refclk_good = true →
    s.dev.loopLocked 0 = false →
    Completes (exec (.loopLock 0) s) fun t =>
          t.dev.loopLocked 0 = true ∧ t.dev.on F.CLK_STATUS.core_fb = false ∧ bit (t.dev.rd R.CLK_EVENTS) 1 = true ∧ bit (t.dev.rd R.CLK_MON_STATUS) 1 = false ∧
          (Store.get 0 s.dev.clk.lostAt 0 ≠ 0 →
            t.dev.get (F.CLK_LOOPi_COUNTS.last_fb_us 0) = min ((s.dev.sys.now8 + 1 - Store.get 0 s.dev.clk.lostAt 0) / 125) 65535) ∧
          s.Frame ([Part.reg R.CLK_STATUS.off, Part.reg R.CLK_EVENTS.off, Part.reg (R.CLK_LOOPi_COUNTS 0).off] ++ lockParts ++ activeParts 23) t) ∧
  (∀ (s : State),
    s.dev.domOn 0 = true →
    s.dev.on F.CLK_STATUS.refclk_good = true →
    s.dev.loopLocked 1 = false →
    Completes (exec (.loopLock 1) s) fun t =>
          t.dev.loopLocked 1 = true ∧ t.dev.evt.running = true ∧ t.dev.on F.CLK_STATUS.tbase_fb = false ∧ t.dev.on F.CLK_STATUS.motion_fb = false ∧
          bit (t.dev.rd R.CLK_EVENTS) 1 = true ∧ t.dev.get F.CLK_MON_STATUS.motion = 0 ∧
          s.Frame ([Part.evt, Part.reg R.CLK_STATUS.off, Part.reg R.CLK_EVENTS.off, Part.reg (R.CLK_LOOPi_COUNTS 1).off] ++ lockParts ++ activeParts 24) t) ∧
  (∀ (s : State) (i : Fin 24),
    i.val = 2 ∨ i.val = 3 ∨ i.val = 4 →
    s.dev.loopPowered i = true →
    s.dev.loopRef i = true →
    s.dev.loopLocked i = false →
    Completes (exec (.loopLock i) s) fun t =>
          t.dev.loopLocked i = true ∧ bit t.dev.clk.said i = false ∧ (∀ (j : Nat), j < 5 → j ≠ i.val → t.dev.loopLocked j = s.dev.loopLocked j) ∧
          s.Frame ([Part.reg R.CLK_STATUS.off] ++ lockParts ++ activeParts (lockSource i)) t) ∧
  (∀ (s : State) (i : Fin 24),
    8 ≤ i.val ∧ i.val < 16 →
    s.dev.loopPowered i = true →
    s.dev.loopLocked 1 = true →
    s.dev.loopLocked i = false →
    Completes (exec (.loopLock i) s) fun t =>
          t.dev.loopLocked i = true ∧ bit (t.dev.rd R.CLK_EVENTS) 1 = true ∧
          s.Frame ([Part.reg (R.CHn_PXS_STATUS (i - 8)).off, Part.reg R.CLK_EVENTS.off, Part.reg (R.CHn_FGT_STATUS (i - 8)).off, Part.reg (R.CHn_FGT_COUNTS (i - 8)).off, Part.reg (R.CHn_FGT_IRQ_STATUS (i - 8)).off, Part.ch (i - 8)] ++ irqParts ++ lockParts ++ activeParts 25) t) ∧
  (∀ (s : State) (i : Fin 24),
    (s.dev.loopPowered i = false ∨ s.dev.loopLocked i = true ∨ s.dev.loopRef i = false → Completes (exec (.loopLock i) s) fun t => t = s) ∧
        (s.dev.loopPowered i = false ∨ s.dev.loopLocked i = false → s.dev.idleStart = false → Completes (exec (.loopUnlock i) s) fun t => t = s) ∧
        (s.dev.loopPowered i = false ∨ s.dev.loopLocked i = true ∨ Store.get 0 s.dev.clk.lostAt i = 0 ∨ bit s.dev.clk.slow i = true →
          Completes (exec (.relockTimeout i) s) fun t => t = s)) ∧
  (∀ (s : State),
    s.dev.idleStart = false →
    s.dev.domOn 0 = true →
    s.dev.loopLocked 0 = true →
    (∀ (k : Nat), k < 32 → s.dev.shtState k ≠ 3) →
    Completes (exec (.loopUnlock 0) s) fun t =>
          t.dev.loopLocked 0 = false ∧ t.dev.on F.CLK_STATUS.core_fb = true ∧ bit (t.dev.rd R.CLK_EVENTS) 2 = true ∧
          t.dev.get (F.CLK_LOOPi_COUNTS.losses 0) = min (s.dev.get (F.CLK_LOOPi_COUNTS.losses 0) + 1) (2 ^ 16 - 1) ∧
          strobed s.dev t.dev 23 (0x80 * 2 ^ 24 + 1) (s.dev.now % 2 ^ 32) ∧
          t.dev.on (F.FLT_SRCi_STATE.active 23) = true ∧
          s.Frame ([Part.clk, Part.reg R.CLK_STATUS.off, Part.reg R.CLK_EVENTS.off, Part.reg (R.CLK_LOOPi_COUNTS 0).off] ++ strobeParts 23 ++ activeParts 23) t) ∧
  (∀ (s : State),
    s.dev.idleStart = false →
    s.dev.domOn 1 = true →
    s.dev.loopLocked 2 = true →
    Completes (exec (.loopUnlock 2) s) fun t =>
          t.dev.loopLocked 2 = false ∧ t.dev.get F.MEM_STATUS.trained = 0 ∧ strobed s.dev t.dev 19 0 0 ∧
          t.dev.on (F.FLT_SRCi_STATE.active 19) = true ∧
          s.Frame ([Part.clk, Part.memx, Part.reg R.CLK_STATUS.off, Part.reg R.MEM_STATUS.off, Part.reg (R.CLK_LOOPi_COUNTS 2).off] ++ strobeParts 19 ++ activeParts 19) t) ∧
  (∀ (s : State),
    s.dev.idleStart = false →
    s.dev.domOn 0 = true →
    s.dev.on F.CLK_STATUS.refclk_good = true →
    s.dev.loopLocked 0 = true →
    (∀ (k : Nat), k < 32 → s.dev.shtState k ≠ 3) →
    Completes (exec (.clockMonitorTrip 0) s) fun t =>
          bit (t.dev.rd R.CLK_MON_STATUS) 1 = true ∧ bit (t.dev.rd R.CLK_EVENTS) 4 = true ∧ t.dev.loopLocked 0 = false ∧ t.dev.on F.CLK_STATUS.core_fb = true ∧
          strobed s.dev t.dev 23 (0x80 * 2 ^ 24 + 2) (s.dev.now % 2 ^ 32) ∧
          t.dev.on (F.FLT_SRCi_STATE.active 23) = true ∧
          s.Frame ([Part.clk, Part.reg R.CLK_STATUS.off, Part.reg R.CLK_EVENTS.off, Part.reg R.CLK_MON_STATUS.off, Part.reg (R.CLK_LOOPi_COUNTS 0).off] ++ strobeParts 23 ++ activeParts 23) t) ∧
  (∀ (s : State) (i : Fin 24) (a : Nat),
    s.dev.loopPowered i = true →
    s.dev.loopLocked i = false →
    Store.get 0 s.dev.clk.lostAt i = a + 1 →
    bit s.dev.clk.slow i = false →
    Completes (exec (.relockTimeout i) s) fun t =>
          t.dev.sys.now8 = max s.dev.sys.now8 (a + 2500000) ∧ bit (t.dev.rd R.CLK_EVENTS) 5 = true ∧ bit t.dev.clk.slow i = true ∧
          strobed s.dev t.dev (lockSource i) (0x83 * 2 ^ 24 + i * 2 ^ 16 + min (s.dev.lossesOf i) 65535) (s.dev.rd R.CLK_STATUS) ∧
          t.dev.on (F.FLT_SRCi_STATE.active (lockSource i)) = true ∧
          (i.val = 4 → t.dev.get F.SYS_CFG_HOST_COUNTS.errors = min (s.dev.get F.SYS_CFG_HOST_COUNTS.errors + 1) (2 ^ 16 - 1)) ∧
          s.Frame ([Part.clk, Part.reg R.CLK_EVENTS.off] ++ (if i.val = 4 then [Part.reg R.SYS_CFG_HOST_COUNTS.off] else []) ++ strobeParts (lockSource i) ++ activeParts (lockSource i) ++ timeParts) t)

/-- R79, R364, R365, R366, R367, R368, R369, R371, R372: The collector takes the strobe of the lowest slot and source, gives the
record the next ESN, writes it into the Tally window and the history, counts it and opens it with the class of its source,
one higher where a record of that class is open; it starts the reaction shadow when the record has reactions. A record under
a shadow is consequential and linked to its cause; before the image is loaded every record has class 3 and no reaction.
Admissions are held by bit 2 and vector 0 is flagged by bit 8. -/
def Obligations.FaultRecords : Prop :=
  (∀ (s : State) (x : Strobe),
    s.dev.warned = false →
    s.dev.nextStrobe = some x →
    x.src < 42 →
    Completes (exec .faultRecord s) fun t =>
          let k := 4 * (s.dev.rd R.FLT_COUNT % 32)
          t.dev.rd R.FLT_COUNT = (s.dev.rd R.FLT_COUNT + 1) % 2 ^ 32 ∧ t.dev.rd (R.FLT_HISTORY (k + 1)) = x.t % 2 ^ 64 ∧
          t.dev.rd (R.FLT_HISTORY (k + 2)) = x.d1 % 2 ^ 32 * 2 ^ 32 + x.d0 % 2 ^ 32 ∧ t.pending = s.pending) ∧
  (∀ (s : State),
    s.dev.idleStart = false →
    s.dev.flt.strobes = [] →
    Completes (exec .faultRecord s) fun t => t = s) ∧
  (∀ (s : State) (x : Strobe) (re : React),
    s.dev.warned = false →
    s.dev.nextStrobe = some x →
    s.dev.evt.recs = [] →
    s.dev.get F.FRD_STATUS.state = 5 →
    s.dev.persC = false →
    s.dev.twin = false →
    s.dev.reactOf x.src = re →
    s.dev.coveredBy x.src x.t = none →
    re.reactions = 0 ∨ re.reactions = 4 ∨ re.reactions = 256 ∨ re.reactions = 260 →
    re.cls < 5 →
    x.fix = 0 →
    x.t < 2 ^ 64 →
    x.src < 42 ∧ x.src ≠ 24 ∧ x.src ≠ 38 ∧ x.src ≠ 30 →
    Completes (exec .faultRecord s) fun t =>
          let esc : Bool := decide (re.cls < 4) && decide (0 < s.dev.openClass re.cls)
          let c := re.cls + b2n esc
          t.dev.flt.strobes = s.dev.flt.strobes.erase x ∧ tallyOf s.dev t.dev x ∧
          historyOf s.dev t.dev x 0 (srcCode x.src * 2 ^ 56 + c * 2 ^ 53 + re.cls * 2 ^ 50 + b2n esc * 2 ^ 48 + re.reactions * 2 ^ 37) ∧
          t.dev.flt.opens = s.dev.flt.opens ++ [⟨x.src, s.dev.rd R.EVT_ESN, s.dev.rd R.FLT_COUNT, c, re.cls, false, 0, esc, re.reactions, x.d0, false, false, t.dev.sys.now8 + 1⟩] ∧
          (re.reactions % 256 ≠ 0 → t.dev.flt.shadows = ⟨x.src, re.dependents, s.dev.rd R.EVT_ESN, x.t,
            x.t + (if re.shadowUs = 0 then 50 else re.shadowUs) * 125, 0⟩ :: s.dev.flt.shadows) ∧
          (2 ≤ c → t.dev.rd (R.FLT_LATCH_RECj (s.dev.flt.latchK % 8) 0) = s.dev.rd R.EVT_ESN ∧ t.dev.flt.latchK = s.dev.flt.latchK + 1) ∧
          (bit re.reactions 2 = true → t.dev.on F.FLT_STATUS.admissions_held = true) ∧ (bit re.reactions 8 = true → bit (t.dev.rd R.FLT_IRQ_STATUS) 0 = true) ∧
          s.Frame (recordParts s.dev x.src) t) ∧
  (∀ (s : State) (x : Strobe) (re : React) (y : Shadow),
    s.dev.warned = false →
    s.dev.nextStrobe = some x →
    s.dev.evt.recs = [] →
    s.dev.get F.FRD_STATUS.state = 5 →
    s.dev.persC = false →
    s.dev.twin = false →
    s.dev.reactOf x.src = re →
    s.dev.coveredBy x.src x.t = some y →
    y.closed = 0 →
    re.cls < 5 →
    x.fix = 0 →
    x.t < 2 ^ 64 →
    x.src < 36 ∧ x.src ≠ 24 ∧ x.src ≠ 30 →
    Completes (exec .faultRecord s) fun t =>
          tallyOf s.dev t.dev x ∧
          historyOf s.dev t.dev x (y.esn % 2 ^ 32) (srcCode x.src * 2 ^ 56 + re.cls * 2 ^ 53 + re.cls * 2 ^ 50 + 2 ^ 49 + (re.reactions &&& 0x70) * 2 ^ 37) ∧
          t.dev.flt.opens = s.dev.flt.opens ++ [⟨x.src, s.dev.rd R.EVT_ESN, s.dev.rd R.FLT_COUNT, re.cls, re.cls, true, y.esn, false, re.reactions &&& 0x70, x.d0, false, false, t.dev.sys.now8 + 1⟩] ∧
          t.dev.flt.shadows = s.dev.flt.shadows ∧ bit (t.dev.rd R.FLT_IRQ_STATUS) 2 = true ∧ s.Frame (recordParts s.dev x.src) t) ∧
  (∀ (s : State) (x : Strobe),
    s.dev.warned = false →
    s.dev.nextStrobe = some x →
    s.dev.evt.recs = [] →
    s.dev.get F.FRD_STATUS.state ≠ 5 →
    s.dev.persC = false →
    s.dev.twin = false →
    x.t < 2 ^ 64 →
    x.src < 42 ∧ x.src ≠ 38 ∧ x.src ≠ 30 →
    Completes (exec .faultRecord s) fun t =>
          tallyOf s.dev t.dev x ∧ historyOf s.dev t.dev x 0 (srcCode x.src * 2 ^ 56 + 3 * 2 ^ 53 + 3 * 2 ^ 50) ∧
          t.dev.flt.opens = s.dev.flt.opens ++ [⟨x.src, s.dev.rd R.EVT_ESN, s.dev.rd R.FLT_COUNT, 3, 3, false, 0, false, 0, x.d0, false, true, t.dev.sys.now8 + 1⟩] ∧
          s.Frame (recordParts s.dev x.src) t) ∧
  (∀ (s : State) (x : Strobe) (re : React) (n : Fin 8),
    s.dev.warned = false →
    s.dev.nextStrobe = some x →
    s.dev.evt.recs = [] →
    s.dev.get F.FRD_STATUS.state = 5 →
    s.dev.persC = false →
    s.dev.twin = false →
    x.src = n →
    s.dev.reactOf n = re →
    s.dev.coveredBy n x.t = none →
    re.reactions = 1 →
    (∀ (k : Nat), k < 32 → s.dev.shtState k ≠ 3) →
    Completes (exec .faultRecord s) fun t =>
          t.dev.on (F.CHn_FGT_STATUS.permit n) = false ∧ ((Store.get {} t.dev.ch n).latches.any fun l => l.kind == 4 && l.src == n.val && l.esn == s.dev.rd R.EVT_ESN + 1) = true ∧
          s.Frame (recordParts s.dev n ++ [Part.reg (R.CHn_FGT_STATUS n).off, Part.reg (R.CHn_FGT_COUNTS n).off, Part.reg (R.CHn_FGT_IRQ_STATUS n).off, Part.ch n]) t) ∧
  (∀ (s : State) (x : Strobe) (re : React),
    s.dev.warned = false →
    s.dev.nextStrobe = some x →
    s.dev.get F.FRD_STATUS.state = 5 →
    s.dev.twin = false →
    s.dev.reactOf x.src = re →
    s.dev.coveredBy x.src x.t = none →
    bit re.reactions 7 = true →
    bit re.reactions 3 = false →
    Completes (exec .faultRecord s) fun t =>
          (∀ (k : Nat), k < 32 → t.dev.shtState k ≠ 2 ∧ t.dev.shtState k ≠ 3) ∧
          (∀ (m : Nat), m < 16 → (s.dev.stpAxis m).isSome = true → t.dev.stpState m ≠ 2 ∧ t.dev.stpState m ≠ 4) ∧ t.mem = s.mem ∧ t.pending = s.pending)

/-- R366, R371, R373, R374, R375, R377: FLT_ACK closes the open records of a source, or of all, up to an ESN, with their
consequential records, and an index over 41 is refused and counted; QUIET_EXPIRE recovers every open record of a source and
counts it. A shadow ends at its time. The collector's refresh keeps ALIVE going; ALIVE toggles only while it runs. The latch
clears when it is told to. Points the spec leaves open follow the model's choice of log entry 106. -/
def Obligations.FaultClosing : Prop :=
  (∀ (s : State),
    s.dev.aliveOk = true →
    s.dev.on F.FLT_STATUS.alive_running = true →
    max s.dev.sys.now8 (s.dev.flt.aliveAt + 64375) + 1 ≤ s.dev.flt.refreshed + 25000 →
    Completes (exec .aliveToggle s) fun t =>
          t.dev.get F.FLT_STATUS.alive_level = 1 - s.dev.get F.FLT_STATUS.alive_level ∧ t.dev.on F.FLT_STATUS.alive_running = true ∧
          t.dev.sys.now8 = max s.dev.sys.now8 (s.dev.flt.aliveAt + 60625 + (Config.freeValue s.dev.free).toNat % 2 ^ 12 % 3751) ∧
          t.dev.flt.aliveAt = t.dev.sys.now8 ∧ t.mem = s.mem ∧ t.pending = s.pending) ∧
  (∀ (s : State) (v : Word64),
    s.dev.direct R.FLT_ACK.off →
    v.toNat.testBit 63 = false →
    41 < bits v.toNat 37 32 →
    Completes (exec (.fltAck v) s) fun t =>
          t.dev.get F.FLT_LOST.rejected = min (s.dev.get F.FLT_LOST.rejected + 1) (2 ^ 16 - 1) ∧ s.Frame [Part.reg R.FLT_LOST.off] t) ∧
  (∀ (s : State) (v : Word64),
    s.dev.direct R.FLT_ACK.off →
    v.toNat.testBit 63 = true ∨ bits v.toNat 37 32 ≤ 41 →
    Completes (exec (.fltAck v) s) fun t =>
          let up := fun (r : FRec) => decide ((v.toNat % 2 ^ 32 + 2 ^ 32 - r.esn) % 2 ^ 32 < 2 ^ 31)
          let old := fun (r : FRec) => decide (r.at8 ≠ s.dev.sys.now8 + 1)
          let own := fun (r : FRec) => old r && (v.toNat.testBit 63 || decide (r.src = bits v.toNat 37 32)) && up r
          let cause := fun (r : FRec) => old r && r.conseq && s.dev.flt.opens.any fun x => !x.conseq && own x && decide (x.esn = r.link)
          t.dev.flt.opens = s.dev.flt.opens.filter (fun r => !(own r || cause r)) ∧ t.dev.flt.strobes = s.dev.flt.strobes ∧
          t.dev.rd R.FLT_COUNT = s.dev.rd R.FLT_COUNT ∧ t.dev.rd R.EVT_ESN = s.dev.rd R.EVT_ESN ∧ t.dev.sys = s.dev.sys ∧ t.dev.sht = s.dev.sht ∧
          t.mem = s.mem ∧ t.pending = s.pending) ∧
  (∀ (s : State) (i : Fin 42),
    s.dev.quietRuns i = true →
    (∀ r ∈ s.dev.flt.opens, r.cls < 5) →
    Completes (exec (.quietExpire i) s) fun t =>
          (∀ r ∈ t.dev.flt.opens, r.src = i.val → r.early = true) ∧ bit (t.dev.rd R.FLT_IRQ_STATUS) 3 = true ∧
          (s.dev.evt.running = true →
            t.dev.now = s.dev.timeAt (Store.get 0 s.dev.flt.quietFrom i - 1 + (s.dev.reactOf i).quietMs * 125000) % 2 ^ 64) ∧
          t.dev.rd R.FLT_COUNT = s.dev.rd R.FLT_COUNT ∧ t.mem = s.mem ∧ t.pending = s.pending) ∧
  (∀ (s : State) (i : Fin 42),
    s.dev.quietRuns i = false →
    Completes (exec (.quietExpire i) s) fun t => t = s) ∧
  (∀ (s : State) (y : Shadow) (l : List Shadow),
    s.dev.flt.shadows = y :: l →
    s.dev.evt.running = true →
    s.dev.now < 2 ^ 62 →
    (∀ x ∈ y :: l, x.until_ < 2 ^ 62) →
    Completes (exec .shadowEnd s) fun t =>
          t.dev.now = s.dev.timeAt ((l.map (·.until_)).foldl min y.until_) ∧
          t.dev.flt.shadows = (y :: l).filter (fun x => decide (t.dev.now < x.until_) || s.dev.flt.strobes.any fun z => decide (z.t < x.until_)) ∧
          s.Frame (fltShowParts ++ timeParts) t) ∧
  (∀ (s : State),
    s.dev.flt.shadows = [] →
    Completes (exec .shadowEnd s) fun t => t = s) ∧
  (∀ (s : State),
    s.dev.domOn 0 = true →
    Completes (exec .collectorRefresh s) fun t =>
          t.dev.sys.now8 = (if s.dev.flt.refreshed = 0 then s.dev.sys.now8 else max s.dev.sys.now8 (s.dev.flt.refreshed - 1 + 6250)) ∧
          t.dev.flt.refreshed = t.dev.sys.now8 + 1 ∧ t.dev.on F.FLT_STATUS.beat_ok = true ∧ s.Frame (fltShowParts ++ timeParts) t) ∧
  (∀ (s : State),
    s.dev.domOn 0 = false →
    Completes (exec .collectorRefresh s) fun t => t = s) ∧
  (∀ (s : State),
    s.dev.domOn 0 = true →
    s.dev.get F.FRD_STATUS.state = 5 →
    s.dev.flt.opens = [] →
    s.dev.on F.FLT_STATUS.alive_running = true →
    s.dev.flt.refreshed = s.dev.sys.now8 + 1 →
    s.dev.flt.aliveAt + 62500 = s.dev.sys.now8 →
    Completes (exec .aliveToggle s) fun t =>
          t.dev.get F.FLT_STATUS.alive_level = 1 - s.dev.get F.FLT_STATUS.alive_level ∧ t.dev.on F.FLT_STATUS.alive_running = true ∧
          60625 ≤ t.dev.sys.now8 - s.dev.flt.aliveAt ∧ t.dev.sys.now8 - s.dev.flt.aliveAt ≤ 64375 ∧ t.dev.flt.aliveAt = t.dev.sys.now8 ∧
          s.Frame (fltShowParts ++ freeParts ++ timeParts) t) ∧
  (∀ (s : State),
    s.dev.aliveOk = false →
    Completes (exec .aliveToggle s) fun t =>
          t.dev.on F.FLT_STATUS.alive_running = false ∧ t.dev.get F.FLT_STATUS.alive_level = s.dev.get F.FLT_STATUS.alive_level ∧ s.Frame fltShowParts t) ∧
  (∀ (s : State),
    s.dev.direct R.FLT_LATCH_CTRL.off →
    Completes (exec .latchClear s) fun t =>
          (∀ (o : Nat), o < 0x300 → t.dev.rd ⟨0xE0400 + o, 64, 0⟩ = 0) ∧ t.dev.flt.latchK = 0 ∧
          s.Frame ([Part.flt] ++ (List.range 0x300).map fun o => Part.reg (0xE0400 + o)) t)

/-- R382, R385, R394, R395, R396, R397, R403, R405: A lane comes up where LINK is on and its loop has locked, and goes down with
a record; with both down the message numbers are forgotten. The latch is refreshed every 1 us; 4 us without a refresh clear
it with the drive of the member's pin. The pins as read give the member they name and whether it agrees with the latch; a
disagreement freezes the outputs, and the hold limit releases them once, recorded. A disagreement that lasts is resolved by
R397: the member that is named takes the Token over, the other gives it up. The self-test shows in the health word. -/
def Obligations.TwinLanesAndToken : Prop :=
  (∀ (s : State), s.dev.twin = true → s.dev.twnSt = 3 ∨ s.dev.twnSt = 4 → s.dev.on F.TWN_TOKEN_STATE.agree = false → s.dev.twn.disAt ≠ 0 →
    s.dev.get F.TWN_TOKEN_STATE.named = s.dev.member →
    Completes (exec .disagreementResolve s) fun t =>
      t.dev.latch = true ∧ t.dev.get F.TWN_COUNTS.takeovers = min (s.dev.get F.TWN_COUNTS.takeovers + 1) 255 ∧
        t.dev.get F.TWN_COUNTS.disagreements = min (s.dev.get F.TWN_COUNTS.disagreements + b2n (!s.dev.twn.said98)) 255 ∧ (s.dev.twn.said98 = false → bit (t.dev.rd R.TWN_IRQ_STATUS) 8 = true) ∧
        t.dev.on F.TWN_STATUS.epoch_busy = false ∧ t.mem = s.mem ∧ t.pending = s.pending) ∧
  (∀ (s : State), s.dev.twin = true → s.dev.twnSt = 3 ∨ s.dev.twnSt = 4 → s.dev.on F.TWN_TOKEN_STATE.agree = false → s.dev.twn.disAt ≠ 0 →
    s.dev.get F.TWN_TOKEN_STATE.named = 3 - s.dev.member → s.dev.member = 1 ∨ s.dev.member = 2 → s.dev.twn.solo = false →
    Completes (exec .disagreementResolve s) fun t =>
      t.dev.latch = false ∧ t.dev.on F.TWN_TOKEN_STATE.drive = false ∧ t.dev.twnSt = (if s.dev.present = true ∧ s.dev.twnSt = 3 then 3 else 5) ∧
        t.dev.get F.TWN_COUNTS.disagreements = min (s.dev.get F.TWN_COUNTS.disagreements + b2n (!s.dev.twn.said98)) 255 ∧ t.mem = s.mem ∧ t.pending = s.pending) ∧
  (∀ (s : State) (l : Fin 2),
    Completes (exec (.twinLaneUp l) s) fun t =>
          if s.dev.twin = true ∧ s.dev.domOn 2 = true ∧ s.dev.twnSt ≠ 0 ∧ bit (s.dev.get F.CLK_STATUS.locked) 3 = true then
            t.dev.lane l = true ∧ t.dev.lane (1 - l.val) = s.dev.lane (1 - l.val) ∧ t.dev.twn = { s.dev.twn with active9 := true } ∧ s.Frame [Part.twn, Part.reg R.TWN_STATUS.off] t
          else t = s) ∧
  (∀ (s : State) (l : Fin 2),
    Completes (exec (.twinLaneDown l) s) fun t =>
          if s.dev.lane l = true then
            t.dev.lane l = false ∧ t.dev.lane (1 - l.val) = s.dev.lane (1 - l.val) ∧ strobed s.dev t.dev 32 (0x91 * 2 ^ 24 + l.val) (s.dev.now % 2 ^ 32) ∧
              (if s.dev.lane (1 - l.val) = false then t.dev.twn = { s.dev.twn with mseqRx := none, iseqRx := none } else t.dev.twn = s.dev.twn) ∧ s.Frame ([Part.twn, Part.reg R.TWN_STATUS.off] ++ strobeParts 32) t
          else t = s) ∧
  (∀ (s : State),
    s.dev.twin = true →
    s.dev.domOn 0 = true ∧ s.dev.domOn 2 = true →
    Completes (exec .tokenRefresh s) fun t => t.dev.sys.now8 = max s.dev.sys.now8 (s.dev.twn.freshAt + 125) ∧ t.dev.twn = { s.dev.twn with freshAt := t.dev.sys.now8 } ∧ s.Frame ([Part.twn] ++ timeParts) t) ∧
  (∀ (s : State),
    s.dev.latch = true →
    Completes (exec .tokenLatchTimeout s) fun t =>
          t.dev.sys.now8 = max s.dev.sys.now8 (s.dev.twn.freshAt + 500) ∧ t.dev.latch = false ∧ t.dev.on F.TWN_TOKEN_STATE.drive = false ∧ bit (t.dev.rd R.TWN_IRQ_STATUS) 3 = true ∧
          t.dev.on F.TWN_TOKEN_STATE.agree = decide (t.dev.get F.TWN_TOKEN_STATE.named = 3 - s.dev.member) ∧ s.Frame (tokenParts ++ timeParts) t) ∧
  (∀ (s : State) (a b : Bool),
    Completes (exec (.authPinChange a b) s) fun t =>
          let named := if b = true then 2 else if a = true then 1 else 0
          let ok := decide (named = if s.dev.latch = true then s.dev.member else 3 - s.dev.member)
          t.dev.on F.TWN_TOKEN_STATE.auth_a = a ∧ t.dev.on F.TWN_TOKEN_STATE.auth_b = b ∧ t.dev.get F.TWN_TOKEN_STATE.named = named ∧ t.dev.on F.TWN_TOKEN_STATE.agree = ok ∧ t.dev.latch = s.dev.latch ∧
          t.dev.on F.TWN_TOKEN_STATE.drive = s.dev.on F.TWN_TOKEN_STATE.drive ∧ (ok = false ∧ s.dev.on F.TWN_TOKEN_STATE.agree = true → t.dev.twn.disAt = s.dev.sys.now8 + 1 ∧ t.dev.twn.held.isSome = true) ∧
          (ok = true ∧ s.dev.on F.TWN_TOKEN_STATE.agree = false → t.dev.twn.disAt = 0 ∧ t.dev.twn.held = s.dev.twn.held ∧ t.dev.twn.liveAt = s.dev.sys.now8 + 63) ∧ (ok = true ∧ s.dev.on F.TWN_TOKEN_STATE.agree = false → t.dev.on (F.FLT_SRCi_STATE.active 33) = false) ∧
          s.Frame ([Part.twn, Part.reg R.TWN_TOKEN_STATE.off] ++ activeParts 33) t) ∧
  (∀ (s : State),
    Completes (exec .holdLimit s) fun t =>
          if s.dev.twin = true ∧ 2 ≤ s.dev.twnSt ∧ s.dev.on F.TWN_TOKEN_STATE.agree = false ∧ s.dev.twn.disAt ≠ 0 ∧ s.dev.twn.relOut = false then
            t.dev.sys.now8 = max s.dev.sys.now8 (s.dev.twn.disAt - 1 + max 1 (s.dev.get F.TWN_CFG.hold_limit_us) * 125) ∧ t.dev.twn = { s.dev.twn with relOut := true } ∧ bit (t.dev.rd R.TWN_IRQ_STATUS) 8 = true ∧
              strobed s.dev t.dev 33 (0x9A * 2 ^ 24 + t.dev.tokenState % 2 ^ 16) ((t.dev.sys.now8 - (s.dev.twn.disAt - 1)) / 125) ∧
              s.Frame ([Part.twn, Part.reg R.TWN_IRQ_STATUS.off] ++ irqParts ++ strobeParts 33 ++ timeParts) t
          else t = s) ∧
  (∀ (s : State) (off : BitVec 16),
    s.dev.twin = true →
    Completes (exec (.converterSelfTest off) s) fun t =>
          let bad := decide (off.toInt < -16 ∨ 16 < off.toInt)
          t.dev.twn = { s.dev.twn with selfBad := bad } ∧ bit t.dev.health 10 = !bad ∧ s.Frame [Part.twn] t) ∧
  (∀ (s : State),
    s.dev.twin = true →
    s.dev.twnSt = 3 ∨ s.dev.twnSt = 4 →
    s.dev.latch = false →
    s.dev.on F.TWN_TOKEN_STATE.agree = false →
    s.dev.on F.TWN_TOKEN_STATE.auth_a = decide (s.dev.member = 1) ∧ s.dev.on F.TWN_TOKEN_STATE.auth_b = decide (s.dev.member = 2) →
    s.dev.get F.TWN_TOKEN_STATE.named = s.dev.member →
    s.dev.twn.disAt ≠ 0 ∧ s.dev.twn.turnAt = 0 ∧ s.dev.twn.said98 = false ∧ s.dev.twn.inputs = [] ∧ s.dev.twn.queue = [] →
    s.dev.on F.TWN_STATUS.epoch_busy = false →
    Completes (exec .disagreementResolve s) fun t =>
          t.dev.sys.now8 = max s.dev.sys.now8 (s.dev.twn.disAt - 1 + 250) ∧ t.dev.latch = true ∧ t.dev.on F.TWN_TOKEN_STATE.drive = true ∧ t.dev.on F.TWN_TOKEN_STATE.agree = true ∧ t.dev.twn.disAt = 0 ∧
          t.dev.get F.TWN_COUNTS.disagreements = min (s.dev.get F.TWN_COUNTS.disagreements + 1) 255 ∧ t.dev.get F.TWN_COUNTS.takeovers = min (s.dev.get F.TWN_COUNTS.takeovers + 1) 255 ∧
          bit (t.dev.rd R.TWN_IRQ_STATUS) 8 = true ∧ bit (t.dev.rd R.TWN_IRQ_STATUS) 2 = true ∧ t.dev.twnSt = s.dev.twnSt ∧
          t.dev.evt.recs = s.dev.evt.recs ++ [(t.dev.slot, ⟨5, 0, 0, 0, 0x0B, 3, 0, s.dev.member, (s.dev.advance8To (s.dev.twn.disAt - 1 + 250)).tokenState, t.dev.now⟩)] ∧
          s.Frame ([Part.recs, Part.reg R.TWN_COUNTS.off] ++ tokenParts ++ strobeParts 33 ++ timeParts) t) ∧
  (∀ (s : State),
    s.dev.twin = true →
    s.dev.twnSt = 3 ∨ s.dev.twnSt = 4 →
    s.dev.latch = true →
    s.dev.present = true →
    s.dev.on F.TWN_TOKEN_STATE.agree = false →
    s.dev.on F.TWN_TOKEN_STATE.auth_a = decide (s.dev.member = 2) ∧ s.dev.on F.TWN_TOKEN_STATE.auth_b = decide (s.dev.member = 1) →
    s.dev.get F.TWN_TOKEN_STATE.named = 3 - s.dev.member →
    s.dev.twn.disAt ≠ 0 ∧ s.dev.twn.turnAt = 0 ∧ s.dev.twn.solo = false →
    Completes (exec .disagreementResolve s) fun t =>
          t.dev.latch = false ∧ t.dev.on F.TWN_TOKEN_STATE.drive = false ∧ t.dev.on F.TWN_TOKEN_STATE.agree = true ∧ t.dev.twnSt = (if s.dev.twnSt = 3 then 3 else 5) ∧ bit (t.dev.rd R.TWN_IRQ_STATUS) 3 = true ∧
          t.dev.evt.recs = s.dev.evt.recs ++ [(t.dev.slot, ⟨5, 0, 0, 0, 0x0B, 3, 0, 3 - s.dev.member, (s.dev.advance8To (s.dev.twn.disAt - 1 + 250)).tokenState, t.dev.now⟩)] ∧
          (s.dev.twnSt = 3 → s.Frame ([Part.recs, Part.reg R.TWN_COUNTS.off] ++ tokenParts ++ strobeParts 33 ++ timeParts) t)) ∧
  (∀ (s : State),
    s.dev.on F.TWN_TOKEN_STATE.agree = true →
    Completes (exec .disagreementResolve s) (fun t => t = s) ∧ Completes (exec .holdLimit s) (fun t => t = s))

/-- R383, R384, R385, R386, R389, R390, R401, R403, R405: A BEAT leaves at the next multiple of 1 us with the time, the last
BEAT received, the health word, state, latch, pins and the decision vector; the member keeps the vector. A BEAT that arrives
shows the partner present with its health, its vector is kept too, and it gives the follower an offset and a delay. HELLOs
that agree form the pair as R401 says, one that does not fails a running phase 9. A gap in the numbers or too many input
units is a divergence: recorded, and the follower leaves. A message or unit that fails its check is counted on its lane, one
whose number has come before does nothing. An input unit of the holder waits at a joining member and acts at the follower. -/
def Obligations.TwinMessages : Prop :=
  (∀ (s : State) (m : TwinFrame) (x : TwinMsg) (e : Nat),
    s.dev.linkOn m.lane = true →
    twinMsg 3 3 m.frame = some x →
    s.dev.twn.mseqRx = some e →
    0 < (x.mseq + 65536 - e) % 65536 ∧ (x.mseq + 65536 - e) % 65536 < 32768 →
    s.dev.twnSt = 3 →
    portsQuiet s.dev →
    s.dev.slot ≤ x.units.headD 0 / 8 →
    Completes (exec (.hostMsg m) s) fun t =>
          t.dev.twnSt = (if s.dev.latch = true then 3 else 5) ∧ t.dev.twn.mseqRx = some ((x.mseq + 1) % 65536) ∧
          strobed s.dev t.dev 32 (0x94 * 2 ^ 24 + 2) x.mseq ∧ t.dev.twn.queue = s.dev.twn.queue ∧ s.Frame (tokenParts ++ strobeParts 32 ++ holdParts) t) ∧
  (∀ (s : State) (u : TwinUnit),
    s.dev.linkOn u.lane = true →
    (unitBytes u.bytes).length = 8 ∧ (unitBytes u.bytes).getD 0 0 = 0x99 ∧ crc8 ((unitBytes u.bytes).take 7) = (unitBytes u.bytes).getD 7 0 →
    s.dev.twn.iseqRx = some ((unitBytes u.bytes).getD 2 0) →
    s.dev.twn.secN = 8000000 ∧ s.dev.twn.secAt = s.dev.now / 125000000 →
    s.dev.twnSt = 3 →
    s.dev.latch = false →
    s.dev.twn.turnAt = 0 →
    portsQuiet s.dev →
    Completes (exec (.inputUnit u) s) fun t =>
          t.dev.twnSt = 5 ∧ t.dev.twn.secN = 8000001 ∧ strobed s.dev t.dev 32 (0x94 * 2 ^ 24 + 3) ((unitBytes u.bytes).getD 2 0) ∧
          s.Frame (tokenParts ++ strobeParts 32 ++ holdParts) t) ∧
  (∀ (s : State), s.dev.twin = true → s.dev.twnSt ≠ 0 → s.dev.domOn 2 = true → s.dev.evt.running = true → s.dev.now < 2 ^ 60 ∧ s.dev.twn.sentAt ≤ s.dev.now + 1 →
    Completes (exec .beatSend s) fun t =>
      let at_ := max ((s.dev.now + 124) / 125) (s.dev.twn.sentAt / 125 + b2n (s.dev.twn.sentAt ≠ 0)) * 125
      let hello : Bool := (s.dev.twnSt = 1 ∨ s.dev.twnSt = 2) ∧ t.dev.now % 1250 = 0
      t.dev.now = s.dev.timeAt at_ ∧ t.dev.twn.sentAt = t.dev.now + 1 ∧ t.dev.twn.mseqTx = (s.dev.twn.mseqTx + 1 + b2n hello) % 65536 ∧
        t.dev.twn.queue = s.dev.twn.queue ++ (if s.dev.latch = true ∧ s.dev.twn.wdog = true then [⟨t.dev.now + t.dev.agreeTicks, 0, none, 4, 0, 0⟩] else []) ∧
        t.dev.twn.wdog = (s.dev.twn.wdog && !s.dev.latch) ∧ t.dev.twn.vecs = keptVectors s.dev.twn.vecs ⟨t.dev.now, t.dev.vec4, t.dev.vec5 + b2n (s.dev.latch && s.dev.twn.wdog) <<< 5, true, s.dev.latch⟩ ∧
        t.dev.out.length = s.dev.out.length + ([0, 1].filter fun l => bit (s.dev.get F.TWN_STATUS.lanes_up) l).length * (1 + b2n hello) ∧ t.mem = s.mem ∧ t.pending = s.pending) ∧
  (∀ (s : State) (m : TwinFrame) (x : TwinMsg), arrives s.dev m 2 6 x →
    Completes (exec (.beat m) s) fun t =>
      let u := fun i => x.units.getD i 0
      t.dev.present = true ∧ t.dev.get F.TWN_PARTNER_HEALTH.health = bits (u 3) 47 32 ∧ (s.dev.present = false → bit (t.dev.rd R.TWN_IRQ_STATUS) 7 = true) ∧
        t.dev.twn.beatAt = s.dev.sys.now8 + 1 ∧ t.dev.twn.beatTx = u 0 ∧ t.dev.twn.beatRx = 8 * s.dev.now + m.at8 ∧ t.dev.twn.pState = bits (u 3) 31 28 ∧ t.dev.twn.pLatch = bit (u 3) 27 ∧
        t.dev.twn.vecs = keptVectors s.dev.twn.vecs ⟨u 0 / 8, u 4, u 5, false, bit (u 3) 27⟩ ∧ t.mem = s.mem ∧ t.pending = s.pending) ∧
  (∀ (s : State) (m : TwinFrame) (x : TwinMsg), arrives s.dev m 1 2 x →
    Completes (exec (.twinHello m) s) fun t =>
      let equal : Bool := x.units.headD 0 = s.dev.rd R.FRD_IMAGE_CRC <<< 32 + s.dev.rd R.FRD_IMAGE_SERIAL
      let p := bits (x.units.getD 1 0) 55 52
      (s.dev.twnSt = 1 → equal = false → t.dev.twnSt = 1 ∧ (if s.dev.phaseSt 9 = 1 then phaseShown s.dev t.dev 9 3 2 else t.dev.phaseSt 9 = s.dev.phaseSt 9)) ∧
        (s.dev.twnSt = 1 → equal = true → t.dev.twnSt = (if p = 1 ∧ s.dev.member = 1 then 4 else if p = 1 ∨ p = 4 then 2 else 1)) ∧
        (s.dev.twnSt = 1 → equal = true → p = 1 → s.dev.member = 1 → t.dev.latch = true ∧ t.dev.twn.full = 1) ∧
        (s.dev.twnSt ≠ 1 → t.dev.twn = { heard s.dev x with pState := p, full := if s.dev.twnSt = 4 ∧ equal = true ∧ p = 1 ∧ s.dev.twn.full = 0 then 1 else s.dev.twn.full } ∧ s.Frame [Part.twn] t) ∧
        t.mem = s.mem ∧ t.pending = s.pending) ∧
  (∀ (s : State) (u : TwinUnit), s.dev.linkOn u.lane = true →
    (unitBytes u.bytes).length = 8 ∧ (unitBytes u.bytes).getD 0 0 = 0x99 ∧ crc8 ((unitBytes u.bytes).take 7) = (unitBytes u.bytes).getD 7 0 →
    s.dev.twn.iseqRx = none ∨ s.dev.twn.iseqRx = some ((unitBytes u.bytes).getD 2 0) →
    Completes (exec (.inputUnit u) s) fun t =>
      t.dev.twn.iseqRx = some (((unitBytes u.bytes).getD 2 0 + 1) % 256) ∧ (s.dev.takesInputs = false → unitInRate s.dev → s.Frame [Part.twn] t) ∧ t.mem = s.mem ∧ t.pending = s.pending) ∧
  (∀ (s : State),
    s.dev.twin = true →
    s.dev.twnSt ≠ 1 ∧ s.dev.twnSt ≠ 2 →
    s.dev.domOn 2 = true →
    s.dev.evt.running = true →
    s.dev.twn.wdog = false →
    s.dev.now < 2 ^ 60 ∧ s.dev.twn.sentAt ≤ s.dev.now + 1 →
    Completes (exec .beatSend s) fun t =>
          if s.dev.twnSt = 0 then t = s
          else
            let at_ := max ((s.dev.now + 124) / 125) (s.dev.twn.sentAt / 125 + b2n (s.dev.twn.sentAt ≠ 0)) * 125
            t.dev.now = s.dev.timeAt at_ ∧ t.dev.twn.sentAt = t.dev.now + 1 ∧
            twinSent s.dev t.dev 2 [8 * t.dev.now, s.dev.twn.beatTx, s.dev.twn.beatRx, t.dev.health <<< 32 + s.dev.twnSt <<< 28 + b2n s.dev.latch <<< 27 + s.dev.get F.TWN_TOKEN_STATE.auth_b <<< 26 + s.dev.get F.TWN_TOKEN_STATE.auth_a <<< 25 + s.dev.get F.TWN_EPOCH.adopted, t.dev.vec4, t.dev.vec5] ∧
            t.dev.twn.vecs = keptVectors s.dev.twn.vecs ⟨t.dev.now, t.dev.vec4, t.dev.vec5, true, s.dev.latch⟩ ∧ s.Frame ([Part.out, Part.twn] ++ timeParts) t) ∧
  (∀ (s : State) (m : TwinFrame) (x : TwinMsg),
    arrives s.dev m 2 6 x →
    s.dev.twnSt = 3 ∧ s.dev.latch = false →
    bits (x.units.getD 3 0) 31 28 = 3 ∧ bit (x.units.getD 3 0) 27 = true ∧ bit (x.units.getD 5 0) 5 = false →
    s.dev.twn.thetas.length < 15 →
    bit (x.units.getD 3 0) 45 = false ∨ s.dev.flt.pairHold = 0 →
    Completes (exec (.beat m) s) fun t =>
          let u := fun i => x.units.getD i 0
          let t4 := 8 * s.dev.now + m.at8
          t.dev.present = true ∧ t.dev.get F.TWN_PARTNER_HEALTH.health = bits (u 3) 47 32 ∧ t.dev.on F.TWN_STATUS.partner_fit = t.dev.partnerFit ∧ (s.dev.present = false → bit (t.dev.rd R.TWN_IRQ_STATUS) 7 = true) ∧
          t.dev.twn = { heard s.dev x with beatAt := s.dev.sys.now8 + 1, beatTx := u 0, beatRx := t4, pState := 3, pLatch := true, vecs := keptVectors s.dev.twn.vecs ⟨u 0 / 8, u 4, u 5, false, true⟩, thetas := if u 1 = 0 then s.dev.twn.thetas else ((u 2 : Int) - u 1 + ((u 0 : Int) - t4)) :: s.dev.twn.thetas } ∧
          (u 1 ≠ 0 → t.dev.get F.TWN_TIME.delay = enc 16 (((t4 : Int) - u 1 - ((u 0 : Int) - u 2)) / 2)) ∧
          s.Frame ([Part.twn, Part.reg R.TWN_STATUS.off, Part.reg R.TWN_PARTNER_HEALTH.off, Part.reg R.TWN_IRQ_STATUS.off, Part.reg R.TWN_TIME.off] ++ irqParts) t) ∧
  (∀ (s : State) (m : TwinFrame) (x : TwinMsg),
    arrives s.dev m 1 2 x →
    s.dev.twnSt = 1 →
    portsQuiet s.dev →
    x.units.headD 0 = s.dev.rd R.FRD_IMAGE_CRC <<< 32 + s.dev.rd R.FRD_IMAGE_SERIAL →
    bits (x.units.getD 1 0) 55 52 = 4 →
    Completes (exec (.twinHello m) s) fun t => t.dev.twnSt = 2 ∧
          t.dev.twn = { heard s.dev x with pState := 4, joinAt := s.dev.sys.now8 + 1, held := some s.dev.outputsNow, relOut := false } ∧ s.Frame [Part.twn, Part.reg R.TWN_STATUS.off] t) ∧
  (∀ (s : State) (m : TwinFrame) (x : TwinMsg),
    arrives s.dev m 1 2 x →
    s.dev.twnSt = 1 →
    s.dev.member = 1 →
    s.dev.phaseSt 9 ≠ 1 →
    x.units.headD 0 = s.dev.rd R.FRD_IMAGE_CRC <<< 32 + s.dev.rd R.FRD_IMAGE_SERIAL →
    bits (x.units.getD 1 0) 55 52 = 1 →
    Completes (exec (.twinHello m) s) fun t =>
          t.dev.twnSt = 4 ∧ t.dev.latch = true ∧ t.dev.on F.TWN_TOKEN_STATE.drive = true ∧ t.dev.on F.TWN_STATUS.time_synced = true ∧ t.dev.twn.full = 1 ∧
          t.dev.evt.recs = s.dev.evt.recs ++ [(s.dev.slot, ⟨5, 0, 0, 0, 0x0B, 4, 0, 1, 0, s.dev.now⟩)] ∧ s.Frame ([Part.recs] ++ tokenParts) t) ∧
  (∀ (s : State) (m : TwinFrame),
    s.dev.linkOn m.lane = true →
    twinMsg 2 6 m.frame = none ∧ twinMsg 1 2 m.frame = none →
    Completes (exec (.beat m) s) (fun t =>
          let n := if m.lane = 0 then F.TWN_LANE_COUNTS.lane0 else F.TWN_LANE_COUNTS.lane1
          t.dev.get n = min (s.dev.get n + 1) (2 ^ 16 - 1) ∧ s.Frame [Part.reg R.TWN_LANE_COUNTS.off] t) ∧
        Completes (exec (.twinHello m) s) (fun t => s.Frame [Part.reg R.TWN_LANE_COUNTS.off] t)) ∧
  (∀ (s : State) (m : TwinFrame) (x : TwinMsg) (e : Nat),
    s.dev.linkOn m.lane = true →
    twinMsg 3 3 m.frame = some x →
    s.dev.twn.mseqRx = some e →
    32768 ≤ (x.mseq + 65536 - e) % 65536 →
    Completes (exec (.hostMsg m) s) fun t => t = s) ∧
  (∀ (s : State) (u : TwinUnit),
    s.dev.linkOn u.lane = true →
    (unitBytes u.bytes).length = 8 ∧ (unitBytes u.bytes).getD 0 0 = 0x99 ∧ crc8 ((unitBytes u.bytes).take 7) = (unitBytes u.bytes).getD 7 0 →
    s.dev.twn.iseqRx = none ∨ s.dev.twn.iseqRx = some ((unitBytes u.bytes).getD 2 0) →
    s.dev.twnSt = 2 →
    s.dev.latch = false →
    unitInRate s.dev →
    Completes (exec (.inputUnit u) s) fun t =>
          let b := unitBytes u.bytes
          t.dev.twn = unitCounted s.dev { s.dev.twn with iseqRx := some ((b.getD 2 0 + 1) % 256), joinIn := s.dev.twn.joinIn ++ [⟨b.getD 1 0 / 32, b.getD 1 0 % 32, s.dev.nearest (b.getD 3 0 + 256 * b.getD 4 0), b.getD 5 0 + 256 * b.getD 6 0⟩] } ∧ s.Frame [Part.twn] t) ∧
  (∀ (s : State) (u : TwinUnit),
    s.dev.linkOn u.lane = true →
    (unitBytes u.bytes).length = 8 ∧ (unitBytes u.bytes).getD 0 0 = 0x99 ∧ crc8 ((unitBytes u.bytes).take 7) = (unitBytes u.bytes).getD 7 0 →
    s.dev.twn.iseqRx = none →
    s.dev.twnSt = 3 ∧ s.dev.latch = false ∧ s.dev.twn.turnAt = 0 →
    (unitBytes u.bytes).getD 1 0 / 32 = 4 →
    s.dev.slot ≤ (s.dev.nearest ((unitBytes u.bytes).getD 3 0 + 256 * (unitBytes u.bytes).getD 4 0) + 128) / 8 →
    s.dev.chansInUse = [] →
    unitInRate s.dev →
    Completes (exec (.inputUnit u) s) fun t =>
          let b := unitBytes u.bytes
          let k := b.getD 1 0 % 32
          t.dev.dinLevel k = (bit (b.getD 5 0) 0 && (s.dev.inpS (128 + k)).raw) ∧ Store.get 0 t.dev.twn.levels (128 + k) = b.getD 5 0 + 256 * b.getD 6 0 + 1 ∧ t.dev.twn.iseqRx = some ((b.getD 2 0 + 1) % 256) ∧ s.Frame ([Part.twn, Part.inp (128 + k)] ++ activeParts 36) t) ∧
  (∀ (s : State) (u : TwinUnit),
    s.dev.linkOn u.lane = true →
    ¬ ((unitBytes u.bytes).length = 8 ∧ (unitBytes u.bytes).getD 0 0 = 0x99 ∧ crc8 ((unitBytes u.bytes).take 7) = (unitBytes u.bytes).getD 7 0) →
    Completes (exec (.inputUnit u) s) fun t =>
          let n := if u.lane = 0 then F.TWN_LANE_COUNTS.lane0 else F.TWN_LANE_COUNTS.lane1
          t.dev.get n = min (s.dev.get n + 1) (2 ^ 16 - 1) ∧ s.Frame [Part.reg R.TWN_LANE_COUNTS.off] t)

/-- R64, R388, R392, R397, R401, R402: In a pair the Token holder queues an agreed command for now plus agree_us and sends it,
and the follower discards one of its own, counted and reported. A HOST message joins the queue of the follower, and the
earliest agreed input that waits for no epoch acts at its time. A partner silent for 16 us is absent, with its flag and
record; the holder in LOCKSTEP is ALONE. The solo time-out of phase 9 makes the member ALONE with the Token. -/
def Obligations.TwinPartner : Prop :=
  (∀ (s : State), s.dev.present = true →
    Completes (exec .partnerAbsent s) fun t =>
      t.dev.present = false ∧ t.dev.twn.mseqRx = none ∧ t.dev.twn.iseqRx = none ∧ t.dev.twn.pState = 0 ∧ t.dev.twn.pLatch = false ∧ bit (t.dev.rd R.TWN_IRQ_STATUS) 6 = true ∧
        (s.dev.twnSt = 3 → t.dev.twnSt = 4 ∧ t.dev.latch = true) ∧ (s.dev.twnSt = 4 → t.dev.twnSt = 4 ∧ t.dev.latch = s.dev.latch) ∧
        (s.dev.twnSt = 3 ∨ s.dev.twnSt = 4 → t.dev.twn.dirty = [] ∧ t.dev.on F.TWN_STATUS.epoch_busy = false ∧ t.dev.twn.full = 0) ∧ t.mem = s.mem ∧ t.pending = s.pending) ∧
  (∀ (s : State) (r : Reg) (a : Agreed),     s.dev.idleStart = false →
3 ≤ s.dev.twnSt → s.dev.nextAgreed = some a → a.kind = 0 → r ∈ [R.BLD_AXa_RATES 1, R.STP_AXm_RATES 2, R.TMP_Ss_LIMIT 3] → a.off = r.off →
    s.dev.domOn 0 = true → s.dev.domOn (domainOf r.off) = true →
    s.dev.evt.running = true → s.dev.now < 2 ^ 62 ∧ s.dev.agreedAt a < 2 ^ 62 ∧ a.data < 2 ^ 32 →
    Completes (exec .agreedInputApply s) fun t =>
      t.dev.now = s.dev.timeAt (s.dev.agreedAt a) ∧ t.dev.twn.queue = s.dev.twn.queue.erase a ∧ t.mem = s.mem ∧ t.pending = s.pending) ∧
  (∀ (s : State) (c : Byte) (crc : Word32),
    s.dev.quiet9 = true →
    s.dev.phaseSt 9 = 1 →
    Completes (exec .twinSoloTimeout s) (fun t => t.dev.phaseSt 9 = 2 ∧ t.dev.get F.SYS_PHASE.phase = 9 ∧ t.dev.get F.SYS_PHASE.cause = 1 ∧ t.dev.twnSt = 4 ∧ t.dev.latch = true ∧ t.mem = s.mem ∧ t.pending = s.pending) ∧
        Completes (exec (.phaseTimeout 9 c crc) s) fun t =>
          t.dev.phaseSt 9 = 2 ∧ t.dev.get F.SYS_PHASE.cause = 1 ∧ t.dev.twnSt = 4 ∧ t.dev.latch = true) ∧
  (∀ (s : State) (a : Fin 16) (v : Word32),
    reached s.dev (R.BLD_AXa_SETPOINT a).off →
    s.dev.twin = true →
    2 ≤ s.dev.twnSt →
    s.dev.latch = true →
    s.dev.present = false →
    Completes (exec (.setpointWrite a v) s) (fun t =>
          t.dev.twn.queue = s.dev.twn.queue ++ [⟨s.dev.now + s.dev.agreeTicks, s.dev.twn.mseqTx, none, 0, (R.BLD_AXa_SETPOINT a).off, v.toNat⟩] ∧
          twinSent s.dev t.dev 3 (hostUnits ⟨s.dev.now + s.dev.agreeTicks, s.dev.twn.mseqTx, none, 0, (R.BLD_AXa_SETPOINT a).off, v.toNat⟩) ∧ s.Frame [Part.twn, Part.out] t) ∧
        Completes (exec (.bldEnable a) s) (fun t => t.dev.twn.queue = s.dev.twn.queue ++ [⟨s.dev.now + s.dev.agreeTicks, s.dev.twn.mseqTx, none, 0, (R.BLD_AXa_CMD a).off, 2⟩] ∧ s.Frame [Part.twn, Part.out] t)) ∧
  (∀ (s : State) (a : Fin 16) (v : Word32),
    reached s.dev (R.BLD_AXa_SETPOINT a).off →
    s.dev.twin = true →
    2 ≤ s.dev.twnSt →
    s.dev.latch = false →
    Completes (exec (.setpointWrite a v) s) fun t =>
          t.dev.get F.TWN_REJECT.count = min (s.dev.get F.TWN_REJECT.count + 1) (2 ^ 16 - 1) ∧ bit (t.dev.rd R.TWN_IRQ_STATUS) 9 = true ∧ bit (t.dev.rd R.SYS_CFG_HOST_ERR) 2 = true ∧
          s.Frame ([Part.reg R.TWN_REJECT.off, Part.reg R.TWN_IRQ_STATUS.off] ++ irqParts ++ hostErrParts) t) ∧
  (∀ (s : State) (m : TwinFrame) (x : TwinMsg),
    arrives s.dev m 3 3 x →
    s.dev.twnSt = 2 ∨ s.dev.twnSt = 3 →
    s.dev.latch = false →
    s.dev.slot ≤ x.units.headD 0 / 8 →
    Completes (exec (.hostMsg m) s) fun t =>
          let w := x.units.getD 1 0
          t.dev.twn = { heard s.dev x with queue := s.dev.twn.queue ++ [⟨x.units.headD 0, x.mseq, if bits w 63 48 = 0xFFFF then none else some (bits w 63 48), bits w 41 40, bits w 39 16, x.units.getD 2 0⟩] } ∧ s.Frame [Part.twn] t) ∧
  (∀ (s : State) (a : Fin 16) (ta v : Nat),
    s.dev.idleStart = false →
    3 ≤ s.dev.twnSt →
    s.dev.twn.queue = [⟨ta, 4, none, 0, (R.BLD_AXa_RATES a).off, v⟩] →
    s.dev.twn.join = none →
    s.dev.domOn 0 = true →
    s.dev.domOn (domainOf (R.BLD_AXa_RATES a).off) = true →
    s.dev.evt.running = true →
    s.dev.now < 2 ^ 62 ∧ ta < 2 ^ 62 ∧ v < 2 ^ 32 →
    Completes (exec .agreedInputApply s) fun t =>
          t.dev.now = s.dev.timeAt ta ∧ t.dev.twn.queue = [] ∧ t.dev.rd (R.BLD_AXa_RATES a) = v ∧ s.Frame ([Part.twn, Part.reg (R.BLD_AXa_RATES a).off] ++ timeParts) t) ∧
  (∀ (s : State),
    s.dev.twnSt < 3 ∨ s.dev.twn.queue = [] →
    Completes (exec .agreedInputApply s) fun t => t = s) ∧
  (∀ (s : State),
    s.dev.twnSt = 3 ∧ s.dev.latch = true →
    s.dev.on F.TWN_STATUS.epoch_busy = false →
    Completes (exec .partnerAbsent s) fun t =>
          if s.dev.present = false then t = s
          else t.dev.sys.now8 = max s.dev.sys.now8 (s.dev.twn.beatAt - 1 + 2000) ∧ t.dev.present = false ∧ t.dev.twnSt = 4 ∧ t.dev.latch = true ∧ bit (t.dev.rd R.TWN_IRQ_STATUS) 6 = true ∧ bit (t.dev.rd R.TWN_IRQ_STATUS) 1 = true ∧
            t.dev.rd R.TWN_NEXT_TURN = 2 ^ 64 - 1 ∧ strobed s.dev t.dev 32 (0x90 * 2 ^ 24 + s.dev.get F.TWN_STATUS.lanes_up) (s.dev.twn.beatTx / 8 % 2 ^ 32) ∧
            t.dev.twn.queue = s.dev.twn.queue.map (fun a => { a with wait := none }) ∧ t.dev.twn.dirty = [] ∧ t.dev.twn.mseqRx = none ∧ t.dev.flt.pairHold = 0 ∧ s.Frame (tokenParts ++ holdParts ++ strobeParts 32 ++ timeParts) t) ∧
  (∀ (s : State),
    s.dev.twin = true ∧ s.dev.twnSt = 1 →
    s.dev.quiet9 = true →
    s.dev.phaseSt 9 = 1 →
    s.dev.cfg.axes = [] ∧ s.dev.cfg.loops = [] →
    Completes (exec .twinSoloTimeout s) fun t =>
          t.dev.sys.now8 = max s.dev.sys.now8 (Store.get 0 s.dev.sys.phAt 9 - 1 + 250000000) ∧ t.dev.latch = true ∧ t.dev.twnSt = 4 ∧ t.dev.phaseSt 9 = 2 ∧ t.dev.get F.SYS_PHASE.phase = 9 ∧ t.dev.get F.SYS_PHASE.cause = 1 ∧
          (t.dev.flt.strobes.map fun x => (x.src, x.fix)) = (s.dev.flt.strobes.map fun x => (x.src, x.fix)) ++ [(32, 2)] ∧
          s.Frame ([Part.sys, Part.free, Part.reg R.SYS_PHASE.off, Part.reg (R.SYS_PHASE_TIMEk 8).off] ++ tokenParts ++ strobeParts 32 ++ timeParts) t)

/-- R383, R394, R398, R402, R405: The holder in LOCKSTEP beside a fit partner starts a Turn on request at now plus agree_us, and
at its scheduled time 4 us ahead; otherwise the request is refused and the scheduled Turn is put off by the interval. The
message arms the Turn at the follower. At t_h the holder gives up the latch and the follower takes it 1 us later; both count
the Turn, record it and plan the next. -/
def Obligations.TwinTurns : Prop :=
  (∀ (s : State),
    reached s.dev R.TWN_CMD.off →
    Completes (exec .turnRequest s) fun t =>
          if s.dev.mayTurn = true ∧ s.dev.partnerFit = true then t.dev.twn.turn = some (s.dev.now + s.dev.agreeTicks, 2) ∧ twinSent s.dev t.dev 4 [s.dev.now + s.dev.agreeTicks] ∧ s.Frame [Part.twn, Part.out] t
          else twinRefused s t) ∧
  (∀ (s : State),
    s.dev.evt.running = true →
    s.dev.now < 2 ^ 62 ∧ (s.dev.rd R.TWN_NEXT_TURN < 2 ^ 62 ∨ s.dev.rd R.TWN_NEXT_TURN = 2 ^ 64 - 1) →
    Completes (exec .scheduledTurn s) fun t =>
          let th := s.dev.rd R.TWN_NEXT_TURN
          let next := (th + s.dev.role.turnIntervalS * 125000000) % 2 ^ 64
          if th = 2 ^ 64 - 1 then t = s
          else if s.dev.latch = false ∧ s.dev.twnSt = 3 ∧ s.dev.twn.turn = none then
            t.dev.now = s.dev.timeAt th ∧ t.dev.rd R.TWN_NEXT_TURN = next ∧ s.Frame ([Part.reg R.TWN_NEXT_TURN.off] ++ timeParts) t
          else if s.dev.mayTurn = false then t = s
          else t.dev.now = s.dev.timeAt (th - 500) ∧
            (if s.dev.partnerFit = true then t.dev.twn.turn = some (max th (t.dev.now + 500), 1) ∧ twinSent s.dev t.dev 4 [max th (t.dev.now + 500)] ∧ s.Frame ([Part.twn, Part.out] ++ timeParts) t
            else t.dev.get F.TWN_REJECT.count = min (s.dev.get F.TWN_REJECT.count + 1) (2 ^ 16 - 1) ∧ t.dev.rd R.TWN_NEXT_TURN = next ∧
              s.Frame ([Part.reg R.TWN_REJECT.off, Part.reg R.TWN_NEXT_TURN.off] ++ timeParts) t)) ∧
  (∀ (s : State) (m : TwinFrame) (x : TwinMsg),
    arrives s.dev m 4 1 x →
    Completes (exec (.turn (some m)) s) fun t =>
          let th := x.units.headD 0
          t.dev.twn = (if s.dev.latch = true ∨ s.dev.twnSt ≠ 3 then heard s.dev x else { heard s.dev x with turn := some (th, if th = s.dev.rd R.TWN_NEXT_TURN then 1 else if s.dev.partnerFit = true then 2 else 3) }) ∧ s.Frame [Part.twn] t) ∧
  (∀ (s : State) (th kind : Nat),
    s.dev.twn.turn = some (th, kind) →
    s.dev.twnSt = 3 →
    s.dev.latch = true →
    s.dev.evt.running = true →
    s.dev.now < 2 ^ 62 ∧ th < 2 ^ 62 →
    0 < s.dev.role.turnIntervalS ∧ s.dev.role.turnIntervalS < 2 ^ 30 →
    Completes (exec (.turn none) s) fun t =>
          t.dev.latch = false ∧ t.dev.on F.TWN_TOKEN_STATE.drive = false ∧ t.dev.twn.turn = none ∧ t.dev.twn.turnAt = th + 1 ∧ t.dev.now = s.dev.timeAt (th + 125) ∧ t.dev.twnSt = 3 ∧
          t.dev.get F.TWN_COUNTS.turns = min (s.dev.get F.TWN_COUNTS.turns + 1) 255 ∧ t.dev.rd R.TWN_NEXT_TURN = th + s.dev.role.turnIntervalS * 125000000 ∧ bit (t.dev.rd R.TWN_IRQ_STATUS) 3 = true ∧
          t.dev.evt.recs = s.dev.evt.recs ++ [(t.dev.slot, ⟨5, 0, 0, 0, 0x0B, 1, 0, 3 - s.dev.member, kind, t.dev.now⟩)] ∧ s.Frame ([Part.recs, Part.reg R.TWN_COUNTS.off] ++ tokenParts ++ timeParts) t) ∧
  (∀ (s : State) (th kind : Nat),
    s.dev.twn.turn = some (th, kind) →
    s.dev.twnSt = 3 →
    s.dev.latch = false →
    s.dev.twn.inputs = [] →
    s.dev.evt.running = true →
    s.dev.now < 2 ^ 62 ∧ th < 2 ^ 62 →
    Completes (exec (.turn none) s) fun t =>
          t.dev.latch = true ∧ t.dev.on F.TWN_TOKEN_STATE.drive = true ∧ t.dev.twn.turn = none ∧ t.dev.twn.turnNew = false ∧ t.dev.now = s.dev.timeAt (th + 125) ∧ t.dev.on F.TWN_STATUS.time_synced = true ∧
          t.dev.get F.TWN_COUNTS.turns = min (s.dev.get F.TWN_COUNTS.turns + 1) 255 ∧ bit (t.dev.rd R.TWN_IRQ_STATUS) 2 = true ∧
          t.dev.evt.recs = s.dev.evt.recs ++ [(t.dev.slot, ⟨5, 0, 0, 0, 0x0B, 1, 0, s.dev.member, kind, t.dev.now⟩)] ∧ s.Frame ([Part.recs, Part.reg R.TWN_COUNTS.off] ++ tokenParts ++ timeParts) t)

/-- R383, R388, R399, R400, R405: The holder runs an epoch over its dirty blocks on request, or 10 us after the last staged
write: the blocks leave as frames with a closing record. The follower keeps each block in its staging area, checks count and
CRC and answers. An answer that is good fixes t_adopt for both, a bad one or 100 ms without ADOPT discards the epoch, whose
blocks stay dirty. At t_adopt the follower copies the blocks into its storage and both record the adoption; the commands
that waited for it are free. -/
def Obligations.TwinEpochs : Prop :=
  (∀ (s : State), reached s.dev R.TWN_CMD.off →
    Completes (exec .epochRequest s) fun t =>
      if s.dev.latch = false then twinRefused s t
      else if s.dev.paired = false ∨ s.dev.on F.TWN_STATUS.epoch_busy = true ∨ s.dev.twn.dirty = [] then t = s
      else t.dev.get F.TWN_EPOCH.current = (s.dev.get F.TWN_EPOCH.current + 1) % 65536 ∧ t.dev.on F.TWN_STATUS.epoch_busy = true ∧
        t.dev.get F.TWN_EPOCH_PROGRESS.blocks = min s.dev.twn.dirty.length 131072 ∧ t.dev.twn.sent = s.dev.twn.dirty.reverse.take 131072 ∧
        t.dev.twn.dirty = (s.dev.twn.dirty.reverse.drop 131072).reverse ∧ t.dev.twn.endAt = s.dev.sys.now8 + 1 ∧ t.dev.twn.adoptAt = none ∧ t.mem = s.mem ∧ t.pending = s.pending) ∧
  (∀ (s : State), s.dev.twn.full ≠ 1 →
    Completes (exec .epochStart s) fun t =>
      if s.dev.latch = false ∨ s.dev.paired = false ∨ s.dev.on F.TWN_STATUS.epoch_busy = true ∨ s.dev.twn.dirty = [] then t = s
      else t.dev.sys.now8 = (if s.dev.twn.queue.any (fun a => a.wait.isSome) = true then s.dev.sys.now8 else max s.dev.sys.now8 (s.dev.twn.dirtyAt - 1 + 1250)) ∧
        t.dev.get F.TWN_EPOCH.current = (s.dev.get F.TWN_EPOCH.current + 1) % 65536 ∧ t.dev.on F.TWN_STATUS.epoch_busy = true ∧
        t.dev.twn.sent = s.dev.twn.dirty.reverse.take 131072 ∧ t.dev.twn.dirty = (s.dev.twn.dirty.reverse.drop 131072).reverse ∧ t.mem = s.mem ∧ t.pending = s.pending) ∧
  (∀ (s : State) (ta : Nat), s.dev.twn.adoptAt = some ta → s.dev.evt.running = true → s.dev.now < 2 ^ 62 ∧ ta < 2 ^ 62 →
    Completes (exec (.adopt none) s) fun t =>
      t.dev.now = s.dev.timeAt ta ∧ t.dev.get F.TWN_EPOCH.adopted = s.dev.get F.TWN_EPOCH.current ∧ t.dev.on F.TWN_STATUS.epoch_busy = false ∧ bit (t.dev.rd R.TWN_IRQ_STATUS) 4 = true ∧
        t.dev.twn.rx = [] ∧ t.dev.twn.sent = [] ∧ t.dev.twn.adoptAt = none ∧ t.dev.on F.TWN_STATUS.staged_dirty = !s.dev.twn.dirty.isEmpty ∧ t.mem = s.mem ∧ t.pending = s.pending) ∧
  (∀ (s : State) (m : TwinFrame) (x : TwinMsg), arrives s.dev m 6 4 x →
    Completes (exec (.epochEnd m) s) fun t =>
      if s.dev.takesInputs = true then t.dev.twn.endAt = s.dev.sys.now8 + 1 ∧ t.dev.twn.rx = s.dev.twn.rx ∧ t.dev.twn.mseqTx = (s.dev.twn.mseqTx + 1) % 65536 ∧ t.mem = s.mem ∧ t.pending = s.pending
      else t.dev.twn = heard s.dev x ∧ s.Frame [Part.twn] t) ∧
  (∀ (s : State) (b : Blk),
    reached s.dev R.TWN_CMD.off →
    s.dev.paired = true →
    s.dev.twn.dirty = [b] →
    Completes (exec .epochRequest s) fun t =>
          let n := (s.dev.get F.TWN_EPOCH.current + 1) % 65536
          if s.dev.latch = false then twinRefused s t
          else if s.dev.on F.TWN_STATUS.epoch_busy = true then t = s
          else t.dev.get F.TWN_EPOCH.current = n ∧ t.dev.on F.TWN_STATUS.epoch_busy = true ∧ t.dev.on F.TWN_STATUS.staged_dirty = true ∧ t.dev.get F.TWN_EPOCH_PROGRESS.blocks = 1 ∧
            t.dev.twn.sent = [b] ∧ t.dev.twn.dirty = [] ∧ t.dev.twn.endAt = s.dev.sys.now8 + 1 ∧ t.dev.twn.adoptAt = none ∧
            t.dev.out = onEachLane s.dev 0x06 ((s.dev.twn.mseqTx + 1) % 65536) (endUnits n 1 (crc32c ((blkUnits n b (s.dev.blkRead b)).flatMap (leBytes 8))) s.dev.now) ++
              onEachLane s.dev 0x05 s.dev.twn.mseqTx (blkUnits n b (s.dev.blkRead b)) ++ s.dev.out ∧
            s.Frame ([Part.out] ++ epochParts) t) ∧
  (∀ (s : State) (b : Blk),
    s.dev.paired = true →
    s.dev.twn.full ≠ 1 →
    s.dev.on F.TWN_STATUS.epoch_busy = false →
    s.dev.twn.dirty = [b] →
    Completes (exec .epochStart s) fun t =>
          if s.dev.latch = false then t = s
          else t.dev.sys.now8 = (if s.dev.twn.queue.any (fun a => a.wait.isSome) = true then s.dev.sys.now8 else max s.dev.sys.now8 (s.dev.twn.dirtyAt - 1 + 1250)) ∧
            t.dev.get F.TWN_EPOCH.current = (s.dev.get F.TWN_EPOCH.current + 1) % 65536 ∧ t.dev.on F.TWN_STATUS.epoch_busy = true ∧ t.dev.twn.sent = [b] ∧ t.dev.twn.dirty = [] ∧ s.Frame ([Part.out] ++ epochParts ++ timeParts) t) ∧
  (∀ (s : State) (m : TwinFrame) (x : TwinMsg),
    arrives s.dev m 5 9 x →
    s.dev.takesInputs = true →
    Completes (exec (.epochData m) s) fun t =>
          let h := x.units.headD 0
          let n := bits h 63 48
          let old := s.dev.on F.TWN_STATUS.epoch_busy && decide (s.dev.twn.rxEpoch = n)
          t.dev.twn.rx = (if old = true then s.dev.twn.rx else []) ++ [(⟨bit h 47, h % 2 ^ 47⟩, x.units.drop 1)] ∧ t.dev.twn.rxEpoch = n ∧ t.dev.on F.TWN_STATUS.epoch_busy = true ∧
          t.dev.get F.TWN_EPOCH.current = (if old = true then s.dev.get F.TWN_EPOCH.current else n) ∧ t.dev.get F.TWN_EPOCH_PROGRESS.blocks = t.dev.twn.rx.length % 2 ^ 24 ∧
          let k := t.dev.twn.rx.length - 1
          (if s.dev.memx.lost = false ∧ s.dev.domOn 1 = true ∧ k < 131072 then
            (∀ (i : Nat), i < 8 → t.mem.word (stageWord k + i) = x.units.getD (i + 1) 0 % 2 ^ 64) ∧ s.MemFrame ((List.range 8).map fun i => stageWord k + i) t
          else t.mem = s.mem) ∧ t.pending = s.pending ∧
          s.dev.Frame [Part.twn, Part.memx, Part.reg R.TWN_STATUS.off, Part.reg R.TWN_EPOCH.off, Part.reg R.TWN_EPOCH_PROGRESS.off, Part.reg R.MEM_INJECT_CTRL.off, Part.reg R.MEM_BAD_COUNT.off] t.dev) ∧
  (∀ (s : State) (m : TwinFrame) (x : TwinMsg) (tEnd : Nat),
    arrives s.dev m 6 4 x →
    s.dev.takesInputs = true →
    s.dev.on F.TWN_STATUS.epoch_busy = true →
    s.dev.twn.rxEpoch < 65536 ∧ s.dev.twn.rx.length < 2 ^ 32 ∧ tEnd < 2 ^ 64 →
    x.units = endUnits s.dev.twn.rxEpoch s.dev.twn.rx.length (crc32c ((s.dev.twn.rx.map fun b => blkUnits s.dev.twn.rxEpoch b.1 b.2).flatten.flatMap (leBytes 8))) tEnd →
    Completes (exec (.epochEnd m) s) fun t => twinSent s.dev t.dev 7 [s.dev.twn.rxEpoch * 2 ^ 48 + 1] ∧ t.dev.twn.endAt = s.dev.sys.now8 + 1 ∧ s.Frame [Part.out, Part.twn] t) ∧
  (∀ (s : State) (m : TwinFrame) (x : TwinMsg),
    arrives s.dev m 6 4 x →
    s.dev.takesInputs = true →
    s.dev.twnSt = 2 →
    s.dev.on F.TWN_STATUS.epoch_busy = false →
    x.units = endUnits 12 1 77 900 →
    Completes (exec (.epochEnd m) s) fun t => twinSent s.dev t.dev 7 [12 * 2 ^ 48] ∧ s.Frame [Part.out, Part.twn] t) ∧
  (∀ (s : State) (m : TwinFrame) (x : TwinMsg),
    arrives s.dev m 7 1 x →
    s.dev.latch = true →
    s.dev.on F.TWN_STATUS.epoch_busy = true →
    s.dev.get F.TWN_EPOCH.current = bits (x.units.headD 0) 63 48 →
    s.dev.twn.adoptAt = none →
    Completes (exec (.epochAck m) s) fun t =>
          let n := s.dev.get F.TWN_EPOCH.current
          let ta := s.dev.now + s.dev.agreeTicks + (5 * s.dev.twn.sent.length + 3) / 4
          if bit (x.units.headD 0) 0 = true then t.dev.twn.adoptAt = some ta ∧ twinSent s.dev t.dev 8 [n <<< 48, ta] ∧ t.dev.twn.sent = s.dev.twn.sent ∧ s.Frame [Part.out, Part.twn] t
          else t.dev.on F.TWN_STATUS.epoch_busy = false ∧ t.dev.get F.TWN_COUNTS.discarded = min (s.dev.get F.TWN_COUNTS.discarded + 1) 255 ∧ bit (t.dev.rd R.TWN_IRQ_STATUS) 5 = true ∧ t.dev.twn.sent = [] ∧
            (∀ b ∈ s.dev.twn.sent ++ s.dev.twn.dirty, b ∈ t.dev.twn.dirty) ∧ s.Frame epochParts t) ∧
  (∀ (s : State) (m : TwinFrame) (x : TwinMsg),
    arrives s.dev m 8 2 x →
    s.dev.takesInputs = true →
    s.dev.on F.TWN_STATUS.epoch_busy = true →
    Completes (exec (.adopt (some m)) s) fun t =>
          t.dev.twn = (if s.dev.twn.rxEpoch = bits (x.units.headD 0) 63 48 then { heard s.dev x with adoptAt := some (x.units.getD 1 0) } else heard s.dev x) ∧ s.Frame [Part.twn] t) ∧
  (∀ (s : State) (ta : Nat) (b : Blk) (ws : List Nat),
    s.dev.twn.adoptAt = some ta →
    s.dev.latch = false →
    s.dev.twn.rx = [(b, ws)] →
    b.bar0 = false ∧ 0x10000 ≤ b.off ∧ b.off % 64 = 0 ∧ ws.length = 8 →
    s.dev.evt.running = true →
    s.dev.now < 2 ^ 62 ∧ ta < 2 ^ 62 →
    Completes (exec (.adopt none) s) fun t =>
          t.dev.now = s.dev.timeAt ta ∧ (s.dev.memx.lost = false →
            ∀ (i : Nat), i < 8 → t.dev.tw (b.off + 8 * i) = (decodeWord (s.mem.word (stageWord 0 + i)) (s.mem.syn (stageWord 0 + i))).1 % 2 ^ 64) ∧ t.dev.get F.TWN_EPOCH.adopted = s.dev.get F.TWN_EPOCH.current ∧ t.dev.on F.TWN_STATUS.epoch_busy = false ∧
          bit (t.dev.rd R.TWN_IRQ_STATUS) 4 = true ∧ t.dev.twn.rx = [] ∧ t.dev.twn.adoptAt = none ∧
          (∀ a ∈ t.dev.twn.queue, a.wait ≠ some (s.dev.get F.TWN_EPOCH.current)) ∧
          s.Frame ((if s.dev.memx.lost = true then freeParts else []) ++ epochParts ++ timeParts ++ [Part.tblMark] ++ (List.range 8).flatMap (fun i => [Part.tbl (b.off + 8 * i), Part.tblChk (b.off + 8 * i)])) t) ∧
  (∀ (s : State) (ta : Nat),
    s.dev.twn.adoptAt = some ta →
    s.dev.latch = true →
    s.dev.evt.running = true →
    s.dev.now < 2 ^ 62 ∧ ta < 2 ^ 62 →
    Completes (exec (.adopt none) s) fun t =>
          t.dev.now = s.dev.timeAt ta ∧ t.dev.get F.TWN_EPOCH.adopted = s.dev.get F.TWN_EPOCH.current ∧ t.dev.on F.TWN_STATUS.epoch_busy = false ∧ t.dev.twn.sent = [] ∧ t.dev.twn.dirty = s.dev.twn.dirty ∧
          (s.dev.twn.full = 1 → t.dev.twn.full = 2 ∧ t.dev.on F.TWN_STATUS.join_wait = true) ∧ s.Frame (epochParts ++ timeParts) t) ∧
  (∀ (s : State),
    s.dev.twn.adoptAt = none →
    Completes (exec .epochDiscard s) fun t =>
          if s.dev.on F.TWN_STATUS.epoch_busy = false ∨ s.dev.twn.endAt = 0 then t = s
          else t.dev.sys.now8 = max s.dev.sys.now8 (s.dev.twn.endAt - 1 + 12500000) ∧ t.dev.on F.TWN_STATUS.epoch_busy = false ∧ t.dev.get F.TWN_COUNTS.discarded = min (s.dev.get F.TWN_COUNTS.discarded + 1) 255 ∧
            bit (t.dev.rd R.TWN_IRQ_STATUS) 5 = true ∧ (∀ b ∈ s.dev.twn.sent ++ s.dev.twn.dirty, b ∈ t.dev.twn.dirty) ∧ t.dev.twn.sent = [] ∧ t.dev.twn.rx = [] ∧ s.Frame (epochParts ++ timeParts) t)

/-- R383, R398, R401, R402: The donor announces the join once its conditions hold, sends the snapshot at t_j and enters LOCKSTEP
at t_lock. JOIN gives the joining member t_j and t_lock, each SNAP one block of the snapshot; at t_lock it applies the whole
snapshot and enters LOCKSTEP; an incomplete one is not applied. Points the spec leaves open follow the model's choice of log
entry 158. -/
def Obligations.TwinJoin : Prop :=
  (∀ (s : State),
    s.dev.twnSt = 4 →
    s.dev.paired = true →
    s.dev.twn.full = 2 →
    Completes (exec .joinPoint s) fun t =>
          let tj := s.dev.now + s.dev.agreeTicks
          if s.dev.joinReady = true then t.dev.twn.full = 3 ∧ t.dev.twn.join = some (tj, tj + 62500) ∧ twinSent s.dev t.dev 9 [tj, tj + 62500] ∧ t.dev.on F.TWN_STATUS.join_wait = false ∧ s.Frame [Part.out, Part.twn, Part.reg R.TWN_STATUS.off] t
          else t = s) ∧
  (∀ (s : State) (tj tl : Nat),
    s.dev.twnSt = 4 →
    s.dev.paired = true →
    s.dev.twn.full = 3 →
    s.dev.twn.join = some (tj, tl) →
    s.dev.evt.running = true →
    s.dev.now < 2 ^ 62 ∧ tj < 2 ^ 62 →
    Completes (exec .joinPoint s) fun t =>
          let c := ([1, 0].filter fun l => bit (s.dev.get F.TWN_STATUS.lanes_up) l).length
          let n := (snapBlocks t.dev.snapWords).length
          t.dev.twn.full = 4 ∧ t.dev.now = s.dev.timeAt tj ∧ t.dev.twn.join = some (tj, tl) ∧ t.dev.twn.mseqTx = (s.dev.twn.mseqTx % 65536 + n) % 65536 ∧
          t.dev.out.drop (n * c) = s.dev.out ∧ t.dev.out.length = s.dev.out.length + n * c ∧ s.Frame ([Part.out, Part.twn] ++ timeParts) t) ∧
  (∀ (s : State) (tj tl : Nat),
    s.dev.twnSt = 4 →
    s.dev.paired = true →
    s.dev.twn.full = 4 →
    s.dev.twn.join = some (tj, tl) →
    s.dev.evt.running = true →
    s.dev.now < 2 ^ 62 ∧ tl < 2 ^ 62 →
    0 < s.dev.role.turnIntervalS ∧ s.dev.role.turnIntervalS < 2 ^ 30 →
    Completes (exec .snapshotApply s) fun t =>
          t.dev.twnSt = 3 ∧ t.dev.now = s.dev.timeAt tl ∧ t.dev.twn.full = 0 ∧ t.dev.twn.lockAt = tl ∧ t.dev.rd R.TWN_NEXT_TURN = t.dev.now + s.dev.role.turnIntervalS * 125000000 ∧ bit (t.dev.rd R.TWN_IRQ_STATUS) 0 = true ∧
          s.Frame (tokenParts ++ timeParts) t) ∧
  (∀ (s : State) (m : TwinFrame) (x : TwinMsg),
    arrives s.dev m 9 2 x →
    Completes (exec (.join m) s) fun t =>
          if s.dev.twnSt = 2 then t.dev.twn = { heard s.dev x with join := some (x.units.headD 0, x.units.getD 1 0), snap := [] } ∧ (s.dev.phaseSt 9 = 1 → Store.get 0 t.dev.sys.phAt 9 = s.dev.sys.now8 + 1) ∧ s.Frame [Part.twn, Part.sys] t
          else t.dev.twn = heard s.dev x ∧ s.Frame [Part.twn] t) ∧
  (∀ (s : State) (m : TwinFrame) (x : TwinMsg),
    arrives s.dev m 0x0A 9 x →
    s.dev.twnSt = 2 →
    bits (x.units.headD 0) 63 48 = 0xFFFF →
    Completes (exec (.snap m) s) fun t =>
          let h := x.units.headD 0
          t.dev.twn = (if s.dev.twn.join = none then heard s.dev x else { heard s.dev x with snap := s.dev.twn.snap ++ [(⟨bit h 47, h % 2 ^ 47⟩, x.units.drop 1)] }) ∧ s.Frame [Part.twn] t) ∧
  (∀ (s : State),
    s.dev.twnSt = 2 →
    snapGather s.dev.twn.snap = none ∨ s.dev.on F.TWN_STATUS.time_synced = false →
    Completes (exec .snapshotApply s) fun t => t = s) ∧
  (∀ (s : State) (ws : List Nat) (tj tl : Nat),
    s.dev.on F.TWN_STATUS.time_synced = true →
    s.dev.twnSt = 2 →
    s.dev.twn.join = some (tj, tl) →
    snapGather s.dev.twn.snap = some ws →
    s.dev.twn.joinIn = [] →
    s.dev.phaseSt 9 ≠ 1 →
    s.dev.evt.running = true →
    s.dev.now < 2 ^ 62 ∧ tl < 2 ^ 62 →
    Completes (exec .snapshotApply s) fun t =>
          t.dev.twnSt = 3 ∧ t.dev.now = s.dev.timeAt tl ∧ t.dev.twn.lockAt = tl ∧ t.dev.twn.snap = [] ∧ t.dev.get F.SYS_HOST_STATE.state = ws.getD 0 0 % 16 ∧ bit (t.dev.rd R.TWN_IRQ_STATUS) 0 = true ∧
          (∀ (m : Nat), m < 16 → (t.dev.stpS m).prof.p = sext 64 (ws.getD (127 + 3 * m) 0) ∧ (t.dev.stpS m).prof.v = 0) ∧
          (∀ (n : Nat), n < 4 → t.dev.rd (R.EVT_ENCn_RAW n) = ws.getD (67 + 9 * n) 0 % 2 ^ 64 ∧ t.dev.rd (R.EVT_ENCn_JITTER n) = ws.getD (73 + 9 * n) 0 % 2 ^ 32) ∧
          (∀ (n : Nat), n < 8 → s.dev.chan n = none → t.dev.get (F.CHn_BLP_SEQ.next_q n) = ws.getD (103 + n) 0 % 65536) ∧ t.mem = s.mem ∧ t.pending = s.pending)

/-- R443: The legacy timer counts microseconds as floor(engine time / 125) modulo 2^32. A read of LG_TIMER_LO returns bits 15:0
and latches bits 31:16; a read of LG_TIMER_HI returns the last latched value, and 0 before any latch: the latch is 0 after
reset, and neither read changes anything else. -/
def Obligations.LegacyTimer : Prop :=
  (∀ (s : State) (same : BitVec 16),
    s.dev.persC = true →
    s.dev.domOn 0 = true →
    Completes (exec (.lhbRead 0x00C same false) s) (fun t =>
          t.dev.out = .lhb (s.dev.now / 125 % 2 ^ 32 % 2 ^ 16) :: s.dev.out ∧ t.dev.rd R.LG_TIMER_HI = s.dev.now / 125 % 2 ^ 32 / 2 ^ 16 ∧
          s.Frame [Part.out, Part.reg R.LG_TIMER_HI.off] t) ∧
        Completes (exec .lgTimerLoRead s) (fun t =>
          t.dev.out = .lhb (s.dev.now / 125 % 2 ^ 32 % 2 ^ 16) :: s.dev.out ∧ t.dev.rd R.LG_TIMER_HI = s.dev.now / 125 % 2 ^ 32 / 2 ^ 16 ∧
          s.Frame [Part.out, Part.reg R.LG_TIMER_HI.off] t) ∧
        Completes (exec (.lhbRead 0x00E same false) s) (fun t => t.dev.out = .lhb (s.dev.rd R.LG_TIMER_HI % 2 ^ 16) :: s.dev.out ∧ s.Frame [Part.out] t)) ∧
  (∀ (s : State),
    Completes (exec .aonPowerOn s) (fun t => t.dev.rd R.LG_TIMER_HI = 0) ∧ State.reset.dev.rd R.LG_TIMER_HI = 0)

/-- R432, R433, R434, R435, R436, R438, R439, R440, R441, R442: Outside Personality C the legacy commands do nothing. A read
puts the value of the register at its word on the bus; an RC register clears with it but for the bits that events set in the
same clock (R10), LG_FAULT acknowledges the open records of the sources it shows. A write sets the fields a legacy register
has, values out of range kept out; bits of LG_CTRL, LG_WDOG and LG_SHEET_CMD act. The soft reset asks for a host reset; only
0x5A5A kicks the watchdog; video_en wakes the receive direction or puts it to sleep. -/
def Obligations.LegacyBus : Prop :=
  (∀ (s : State) (off : Nat) (same : BitVec 16),
    s.dev.persC = true →
    s.dev.domOn 0 = true →
    Completes (exec (.lhbRead off same true) s) fun t =>
          t.dev.out.head? = some (.lhb ((Config.freeValue s.dev.free).toNat % 2 ^ 16)) ∧ t.dev.free = s.dev.free + 1 ∧
          (off / 2 = 3 → t.dev.rd R.LG_STATUS = bits (s.dev.rd R.LG_STATUS) 8 0 &&& same.toNat ∧ s.Frame [Part.out, Part.free, Part.reg R.LG_STATUS.off] t) ∧
          (off / 2 = 6 → t.dev.rd R.LG_TIMER_HI = s.dev.now / 125 % 2 ^ 32 / 2 ^ 16 ∧ s.Frame [Part.out, Part.free, Part.reg R.LG_TIMER_HI.off] t) ∧ t.mem = s.mem ∧ t.pending = s.pending) ∧
  (∀ (s : State) (off : Nat) (v same : BitVec 16) (n : Byte) (on : Bool) (f : List Byte),
    s.dev.persC = false ∨ s.dev.domOn 0 = false →
    Completes (exec (.lhbRead off same false) s) (fun t => t = s) ∧ Completes (exec (.lhbWrite off v) s) (fun t => t = s) ∧
        Completes (exec .legacyRun s) (fun t => t = s) ∧ Completes (exec .legacyRunClear s) (fun t => t = s) ∧
        Completes (exec .softReset s) (fun t => t = s) ∧ Completes (exec .legacyWdogKick s) (fun t => t = s) ∧
        Completes (exec (.videoEnWrite on) s) (fun t => t = s) ∧ Completes (exec (.load n) s) (fun t => t = s) ∧
        Completes (exec (.go n) s) (fun t => t = s) ∧ Completes (exec (.legacyCancel n) s) (fun t => t = s) ∧
        Completes (exec .top s) (fun t => t = s) ∧ Completes (exec (.legacyFrame f) s) (fun t => t = s) ∧
        Completes (exec (.lgFaultRead same) s) (fun t => t = s) ∧ Completes (exec .lgTimerLoRead s) (fun t => t = s)) ∧
  (∀ (s : State) (off : Nat) (same : BitVec 16) (i : Fin 4) (w : Fin 128),
    s.dev.persC = true →
    s.dev.domOn 0 = true →
    off / 2 * 2 % 0x800 ∉ [0x006, 0x00A, 0x00C, 0x028, 0x102, 0x122, 0x142, 0x162] →
    Completes (exec (.lhbRead off same false) s) fun t =>
          s.Frame [Part.out] t ∧ t.dev.out.tail = s.dev.out ∧ t.dev.out.length = s.dev.out.length + 1 ∧
          (off / 2 = 4 → t.dev.out = .lhb (s.dev.get F.LG_IRQ_MASK.mask) :: s.dev.out) ∧
          (off / 2 = 1 → t.dev.out = .lhb (s.dev.get F.LG_REV.rev) :: s.dev.out) ∧
          (off / 2 = 0x01C / 2 → t.dev.out = .lhb (((List.range 8).map fun k => if s.dev.dinLevel k then 2 ^ k else 0).sum) :: s.dev.out) ∧
          (off / 2 = 0x104 / 2 + 16 * i.val → t.dev.out = .lhb (s.dev.get (F.LG_Ss_OFFSET.counts i)) :: s.dev.out) ∧
          (off / 2 = 0x400 / 2 + 128 * i.val + w.val → t.dev.out = .lhb (s.dev.rd (R.LG_Ss_MATw i w) % 2 ^ 16) :: s.dev.out) ∧
          (0x02E / 2 ≤ off / 2 ∧ off / 2 < 0x100 / 2 → t.dev.out = .lhb 0 :: s.dev.out)) ∧
  (∀ (s : State) (same : BitVec 16) (i : Fin 4),
    s.dev.persC = true →
    s.dev.domOn 0 = true →
    Completes (exec (.lhbRead 0x006 same false) s) (fun t =>
          t.dev.out = .lhb (bits (s.dev.rd R.LG_STATUS) 8 0) :: s.dev.out ∧ t.dev.rd R.LG_STATUS = bits (s.dev.rd R.LG_STATUS) 8 0 &&& same.toNat ∧ s.Frame [Part.out, Part.reg R.LG_STATUS.off] t) ∧
        Completes (exec (.lhbRead 0x028 same false) s) (fun t =>
          t.dev.out = .lhb (bits (s.dev.rd R.LG_VID_STAT) 3 0) :: s.dev.out ∧ t.dev.rd R.LG_VID_STAT = bits (s.dev.rd R.LG_VID_STAT) 3 0 &&& same.toNat ∧ s.Frame [Part.out, Part.reg R.LG_VID_STAT.off] t) ∧
        Completes (exec (.lhbRead (0x102 + 0x20 * i.val) same false) s) (fun t =>
          t.dev.out = .lhb (bits (s.dev.rd (R.LG_Ss_STAT i)) 3 0) :: s.dev.out ∧ t.dev.rd (R.LG_Ss_STAT i) = bits (s.dev.rd (R.LG_Ss_STAT i)) 3 0 &&& same.toNat ∧
          s.Frame [Part.out, Part.reg (R.LG_Ss_STAT i).off] t)) ∧
  (∀ (s : State) (same : BitVec 16),
    s.dev.persC = true →
    s.dev.domOn 0 = true →
    Completes (exec (.lgFaultRead same) s) fun t =>
          let w := bits (s.dev.rd R.LG_FAULT) 7 0
          let v := w &&& (0xFF ^^^ same.toNat % 256)
          t.dev.out.head? = some (.lhb w) ∧ t.dev.rd R.LG_FAULT = w &&& same.toNat ∧
          (∀ r ∈ t.dev.flt.opens, r ∈ s.dev.flt.opens) ∧
          (∀ r ∈ s.dev.flt.opens, (r.src = 30 ∧ bit v 7 = true ∨ r.src = 36 ∧ bit v 6 = true ∨ r.src = 41 ∧ bit v 5 = true ∨ r.src = 37 ∧ bit v 4 = true ∨
            (r.src = 26 ∨ r.src = 38) ∧ bit v 3 = true ∨ r.src = 21 ∧ bit v 2 = true ∨ (r.src = 19 ∨ r.src = 20) ∧ bit v 1 = true) → r ∉ t.dev.flt.opens) ∧
          (v = 0 → t.dev.flt.opens = s.dev.flt.opens) ∧ t.dev.flt.strobes = s.dev.flt.strobes ∧ t.dev.sht = s.dev.sht ∧
          t.mem = s.mem ∧ t.pending = s.pending) ∧
  (∀ (s : State) (v : BitVec 16) (i : Fin 4),
    s.dev.persC = true →
    s.dev.domOn 0 = true →
    midSheet s.dev i →
    Completes (exec (.lhbWrite 0x008 v) s) (fun t => t.dev.get F.LG_IRQ_MASK.mask = v.toNat % 512 ∧ s.Frame [Part.reg R.LG_IRQ_MASK.off] t) ∧
        Completes (exec (.lhbWrite (0x104 + 0x20 * i.val) v) s) (fun t => t.dev.rd (R.LG_Ss_OFFSET i) = v.toNat ∧ s.Frame [Part.reg (R.LG_Ss_OFFSET i).off] t) ∧
        Completes (exec (.lhbWrite (0x106 + 0x20 * i.val) v) s) (fun t => t.dev.rd (R.LG_Ss_LINES i) = v.toNat ∧ s.Frame [Part.reg (R.LG_Ss_LINES i).off] t) ∧
        Completes (exec (.lhbWrite (0x10A + 0x20 * i.val) v) s) (fun t =>
          t.dev.rd (R.LG_Ss_PIXCLK i) = (if 100 ≤ v.toNat ∧ v.toNat ≤ 16000 then v.toNat else s.dev.rd (R.LG_Ss_PIXCLK i) % 2 ^ 16) ∧ s.Frame [Part.reg (R.LG_Ss_PIXCLK i).off] t) ∧
        Completes (exec (.lhbWrite (0x10C + 0x20 * i.val) v) s) (fun t => t.dev.rd (R.LG_Ss_START i) = v.toNat ∧ s.Frame [Part.reg (R.LG_Ss_START i).off] t) ∧
        Completes (exec (.lhbWrite (0x10E + 0x20 * i.val) v) s) (fun t =>
          t.dev.get (F.LG_Ss_WIDTH.width i) = (if v.toNat % 128 ≤ 64 then v.toNat % 128 else s.dev.get (F.LG_Ss_WIDTH.width i)) ∧
          s.Frame [Part.reg (R.LG_Ss_WIDTH i).off] t)) ∧
  (∀ (s : State) (v : BitVec 16) (i : Fin 4) (w : Fin 128),
    s.dev.persC = true →
    s.dev.domOn 0 = true →
    midSheet s.dev i →
    Completes (exec (.lhbWrite (0x400 + 0x100 * i.val + 2 * w.val) v) s) (fun t =>
          t.dev.rd (R.LG_Ss_MATw i w) = v.toNat ∧ s.Frame [Part.reg (R.LG_Ss_MATw i w).off] t) ∧
        Completes (exec (.lhbWrite (0x108 + 0x20 * i.val) v) s) (fun t =>
          t.dev.rd (R.LG_Ss_PIXELS i) =
            (if s.dev.on F.LG_CTRL.run = false ∧ 1 ≤ v.toNat ∧ v.toNat ≤ 8192 then v.toNat else s.dev.rd (R.LG_Ss_PIXELS i) % 2 ^ 16) ∧
          s.Frame [Part.frd, Part.reg (R.LG_Ss_PIXELS i).off] t) ∧
        Completes (exec (.lhbWrite 0x010 v) s) (fun t =>
          if v.toNat = 0x5A5A then t.dev.sys.wdogArmed = true ∧ t.dev.sys.wdogKick = s.dev.now ∧ s.Frame [Part.sys] t else t = s) ∧
        Completes (exec .legacyWdogKick s) (fun t => t.dev.sys.wdogArmed = true ∧ t.dev.sys.wdogKick = s.dev.now ∧ s.Frame [Part.sys] t) ∧
        Completes (exec .softReset s) (fun t => 3 ∈ t.dev.sys.hostReq ∧ s.Frame [Part.sys] t) ∧
        (v.toNat / 4096 = 0 ∨ 3 < v.toNat / 4096 → Completes (exec (.lhbWrite 0x012 v) s) (fun t => t = s)) ∧
        Completes (exec (.lhbWrite 0x000 v) s) (fun t => t = s) ∧ Completes (exec (.lhbWrite 0x02C v) s) (fun t => t = s)) ∧
  (∀ (s : State),
    s.dev.persC = true →
    s.dev.domOn 0 = true →
    s.dev.domOn 2 = true →
    Completes (exec (.videoEnWrite false) s) (fun t =>
          t.dev.on F.LG_CTRL.video_en = false ∧ t.dev.rxSt = 0 ∧ t.dev.rd R.SHT_ACTIVE = s.dev.rd R.SHT_ACTIVE ∧ t.mem = s.mem ∧ t.pending = s.pending) ∧
        Completes (exec (.videoEnWrite true) s) (fun t =>
          t.dev.on F.LG_CTRL.video_en = true ∧ t.dev.rxSt = (if s.dev.rxSt = 0 then 1 else s.dev.rxSt) ∧
          s.Frame ([Part.reg R.LG_CTRL.off] ++ laneParts) t))

/-- R432, R440, R444, R445, R446, R447, R450, R451: Setting run fixes facets, pixels and pixel clocks, gives polygons and fusers
their set points and acts as engine_go; clearing it stops the engine into safe idle. LOAD opens the lowest FREE descriptor,
GO queues a loaded sheet, CANCEL ends one that has not passed its TOP; each is refused, or in the wrong state, otherwise. A
TOP sets top_seen and admits the oldest queued sheet with its triggers, or sets sheet_refused and leaves it. A video frame
is credited at the fill of its station; a damaged one, one with a wrong header and one out of order are counted or shown and
store nothing. Points the spec leaves open follow the model's choices of log entries 69, 203 and 206. -/
def Obligations.LegacyEngine : Prop :=
  (∀ (s : State) (n : Byte) (k : Fin 4),
    s.dev.persC = true →
    s.dev.domOn 0 = true →
    s.dev.shtState k = 0 ∧ (∀ (j : Nat), j < k.val → s.dev.shtState j ≠ 0) →
    (∀ (j : Nat), j < 4 → s.dev.shtState j ≠ 0 → s.dev.tagOf j ≠ 0x100 + n.toNat) →
    (∀ i ∈ s.dev.lgEnabled, s.dev.lgPlane i s.dev.lgLines ≤ 2 ^ 28) →
    Completes (exec (.load n) s) fun t =>
          t.dev.tagOf k = 0x100 + n.toNat ∧ t.dev.get (F.SHT_Dd_LINES.lead_lines k) = 64 ∧ t.mem = s.mem ∧ t.pending = s.pending ∧
          if (s.dev.lgDescribe k n.toNat).openCheck k = none then
            t.dev.shtState k = 1 ∧ sheetStat s.dev t.dev n.toNat 0 ∧ t.dev.rd R.SHT_RESULT = resultOf 0 0 0xFF k
          else t.dev.shtState k = 0 ∧ sheetStat s.dev t.dev n.toNat 1 ∧ t.dev.get F.SHT_RESULT.result = 1) ∧
  (∀ (s : State) (n : Byte) (k : Fin 4),
    s.dev.persC = true →
    s.dev.domOn 0 = true →
    loaded s.dev n.toNat k →
    s.dev.shtState k = 1 →
    Completes (exec (.legacyCancel n) s) fun t =>
          t.dev.shtState k = 0 ∧ k.val ∉ t.dev.lg.queue ∧ t.dev.get F.LG_SHEET_STAT.sheet = n.toNat ∧ t.dev.get F.LG_SHEET_STAT.result = 0 ∧
          t.dev.rd (R.SHT_Dd_DONE_TIME k) = s.dev.now ∧ t.mem = s.mem ∧ t.pending = s.pending) ∧
  (∀ (s : State) (f : List Byte) (k n line : Nat) (px : List Nat),
    s.dev.persC = true →
    s.dev.domOn 0 = true →
    s.dev.domOn 2 = true →
    s.dev.rxSt = 4 →
    s.dev.lgJudge (nats f) = .line k n line px →
    s.dev.descOf (s.dev.tagOf k) = some k ∧ 1 ≤ s.dev.shtState k ∧ s.dev.shtState k ≤ 3 →
    Completes (exec (.legacyFrame f) s) fun t =>
          t.dev.get (F.SHT_Dd_FILLn.lines k n) = line + 1 ∧ s.dev.Frame [Part.reg (R.SHT_Dd_FILLn k n).off] t.dev ∧ t.pending = s.pending) ∧
  (∀ (s : State),
    s.dev.persC = true →
    s.dev.domOn 0 = true →
    s.dev.twin = false →
    s.dev.on F.LG_CTRL.run = false →
    s.dev.get F.SYS_HOST_STATE.state = 4 →
    s.dev.phaseOver 9 = true →
    (∀ (p : Nat), p < 10 → s.dev.phaseSt p ≠ 3) →
    Completes (exec .legacyRun s) fun t =>
          t.dev.on F.LG_CTRL.run = true ∧ t.dev.get F.SYS_HOST_STATE.state = 0 ∧ t.dev.phaseSt 10 ≠ 0 ∧ t.dev.phaseSt 11 ≠ 0 ∧
          (∀ c ∈ t.dev.cfg.chans, c.channel < 4 → c.facets = s.dev.get F.LG_POLY_CFG.facets ∧
            c.pixels = 4 * s.dev.get (F.LG_Ss_PIXELS.pixels c.channel) ∧ c.clockKhz = 10 * s.dev.get (F.LG_Ss_PIXCLK.clk c.channel)) ∧
          (s.dev.domOn 3 = true → ∀ (a : Nat), a < 4 → t.dev.get (F.BLD_AXa_SETPOINT.speed a) =
            if bit (s.dev.get F.LG_POLY_CFG.enable) a then 16 * s.dev.get F.LG_POLY_SPEED.rpm else 0) ∧
          (∀ (f : Nat), f < 2 → t.dev.rd (R.LOOP_Sk_SETPOINT f) % 2 ^ 16 = s.dev.get (F.LG_FUSER_SETf.target f)) ∧
          t.dev.now = s.dev.now ∧ t.mem = s.mem ∧ t.pending = s.pending) ∧
  (∀ (s : State),
    s.dev.persC = true →
    s.dev.domOn 0 = true →
    s.dev.twin = false →
    s.dev.on F.LG_CTRL.run = true ∨ s.dev.phaseSt 9 = 3 →
    Completes (exec .legacyRun s) fun t =>
          (s.dev.on F.LG_CTRL.run = true → t = s) ∧ t.dev.on F.LG_CTRL.run = true ∧
          (s.dev.on F.LG_CTRL.run = false → t.dev.get F.SYS_BRINGUP_REJECT.count = min (s.dev.get F.SYS_BRINGUP_REJECT.count + 1) (2 ^ 16 - 1)) ∧
          t.dev.get F.SYS_HOST_STATE.state = s.dev.get F.SYS_HOST_STATE.state ∧ t.dev.sys = s.dev.sys ∧ t.mem = s.mem ∧ t.pending = s.pending) ∧
  (∀ (s : State),
    s.dev.persC = true →
    s.dev.domOn 0 = true →
    Completes (exec .legacyRunClear s) fun t =>
          (s.dev.on F.LG_CTRL.run = false → t = s) ∧ t.dev.on F.LG_CTRL.run = false ∧
          (s.dev.on F.LG_CTRL.run = true → t.dev.get F.SYS_HOST_STATE.state = 4 ∧
            (∀ (k : Nat), k < 32 → t.dev.shtState k ≠ 2 ∧ t.dev.shtState k ≠ 3) ∧
            (s.dev.phaseSt 10 ≠ 0 → t.dev.phaseSt 10 = 0 ∧ t.dev.phaseSt 11 = 0 ∧ t.dev.phaseSt 12 = 0)) ∧
          t.dev.now = s.dev.now ∧ t.mem = s.mem ∧ t.pending = s.pending) ∧
  (∀ (s : State) (n : Byte),
    s.dev.persC = true →
    s.dev.domOn 0 = true →
    (∀ (k : Nat), k < 32 → s.dev.shtState k = 0) →
    (∀ (i : Nat), i < 4 → s.dev.on (F.LG_Ss_CTRL.enable i) = (i = 1 || i = 2) ∧ (s.dev.chan i).isSome = true) →
    s.dev.get (F.LG_Ss_LINES.lines 1) = 100 ∧ s.dev.get (F.LG_Ss_PIXELS.pixels 1) = 160 ∧ s.dev.get (F.LG_Ss_PIXELS.pixels 2) = 160 →
    s.dev.lg.ends = [] →
    s.dev.role.admissionRules = 2 →
    ((s.dev.lgDescribe 0 n.toNat).openCheck 0) = none →
    Completes (exec (.load n) s) fun t =>
          t.dev.shtState 0 = 1 ∧ t.dev.tagOf 0 = 0x100 + n.toNat ∧ t.dev.get (F.SHT_Dd_HEAD.chan_mask 0) = 6 ∧
          t.dev.get (F.SHT_Dd_LINES.input_lines 0) = 100 ∧ t.dev.get (F.SHT_Dd_LINES.lead_lines 0) = 64 ∧
          t.dev.rd (R.SHT_Dd_BASEn 0 1) = 0x10000000 ∧ t.dev.rd (R.SHT_Dd_BASEn 0 2) = 0x20000000 ∧ sheetStat s.dev t.dev n.toNat 0 ∧
          t.dev.rd R.SHT_RESULT = resultOf 0 0 0xFF 0 ∧
          s.Frame ([Part.recs, Part.lg, Part.sht, Part.tblMark, Part.reg R.LG_SHEET_STAT.off, Part.reg R.SHT_ACTIVE.off, Part.reg (R.SHT_Dd_HEAD 0).off, Part.reg (R.SHT_Dd_LINES 0).off,
            Part.reg (R.SHT_Dd_RUNOUT 0).off, Part.reg (R.SHT_Dd_STATE 0).off, Part.reg (R.SHT_Dd_CHAN 0).off, Part.reg (R.SHT_Dd_PICK_TIME 0).off,
            Part.reg (R.SHT_Dd_DONE_TIME 0).off] ++
            (List.range 8).flatMap (fun i => [Part.reg (R.SHT_Dd_BASEn 0 i).off, Part.reg (R.SHT_Dd_TAGBASEn 0 i).off, Part.reg (R.SHT_Dd_FILLn 0 i).off, Part.reg (R.SHT_Dd_PROGn 0 i).off]) ++
            (List.range 16).map (fun j => Part.reg (R.SHT_Dd_ARMk 0 j).off) ++ (List.range 10).flatMap (fun j => [Part.tbl (8 * j), Part.tblChk (8 * j)]) ++ shtCmdParts) t) ∧
  (∀ (s : State) (n : Byte) (k : Fin 4),
    s.dev.persC = true →
    s.dev.domOn 0 = true →
    (s.dev.shtState k ≠ 0 ∧ s.dev.tagOf k = 0x100 + n.toNat) ∨ (∀ (j : Nat), j < 4 → s.dev.shtState j ≠ 0) →
    Completes (exec (.load n) s) fun t => sheetOnly s t n.toNat 1) ∧
  (∀ (s : State) (n : Byte) (k : Fin 4),
    s.dev.persC = true →
    s.dev.domOn 0 = true →
    loaded s.dev n.toNat k →
    s.dev.shtState k ≠ 0 →
    Completes (exec (.go n) s) fun t =>
          if s.dev.shtState k = 1 ∧ k.val ∉ s.dev.lg.queue then
            t.dev.lg.queue = s.dev.lg.queue ++ [k.val] ∧ sheetStat s.dev t.dev n.toNat 0 ∧ s.Frame [Part.lg, Part.reg R.LG_SHEET_STAT.off] t
          else sheetOnly s t n.toNat 2) ∧
  (∀ (s : State) (n : Byte),
    s.dev.persC = true →
    s.dev.domOn 0 = true →
    (∀ (k : Nat), k < 4 → s.dev.shtState k ≠ 0 → s.dev.tagOf k ≠ 0x100 + n.toNat) →
    Completes (exec (.go n) s) (fun t => sheetOnly s t n.toNat 2) ∧ Completes (exec (.legacyCancel n) s) (fun t => sheetOnly s t n.toNat 2)) ∧
  (∀ (s : State) (n : Byte) (k : Fin 4),
    s.dev.persC = true →
    s.dev.domOn 0 = true →
    loaded s.dev n.toNat k →
    s.dev.shtState k ≠ 0 →
    s.dev.evt.due = [] →
    s.dev.evt.pend = [] →
    s.dev.evt.armFor = [] →
    s.dev.get F.SYS_HOST_STATE.state = 0 →
    Completes (exec (.legacyCancel n) s) fun t =>
          if s.dev.shtState k = 1 then
            t.dev.shtState k = 0 ∧ k.val ∉ t.dev.lg.queue ∧ sheetStat s.dev t.dev n.toNat 0 ∧ t.dev.rd (R.SHT_Dd_DONE_TIME k) = s.dev.now ∧
            t.dev.get F.SHT_CANCELLED.count = min (s.dev.get F.SHT_CANCELLED.count + 1) (2 ^ 32 - 1) ∧
            s.Frame ([Part.recs, Part.lg, Part.reg R.LG_SHEET_STAT.off, Part.reg (R.SHT_Dd_STATE k).off, Part.reg (R.SHT_Dd_DONE_TIME k).off, Part.reg R.SHT_ACTIVE.off,
              Part.reg R.SHT_CANCELLED.off, Part.reg R.SYS_HOST_STATE.off] ++ listParts s.dev k ++ shtCmdParts) t
          else sheetOnly s t n.toNat 1) ∧
  (∀ (s : State) (k : Nat) (rest : List Nat),
    s.dev.persC = true →
    s.dev.domOn 0 = true →
    s.dev.lg.queue = k :: rest ∨ s.dev.lg.queue = [] →
    k < 4 →
    Completes (exec .top s) fun t =>
          bit (t.dev.rd R.LG_STATUS) 2 = true ∧
          (s.dev.lg.queue = [] → s.Frame [Part.reg R.LG_STATUS.off] t) ∧
          (s.dev.lg.queue ≠ [] → t.dev.rd (R.SHT_Dd_TRIGk k 4) = 8 * (s.dev.slot + 1) % 2 ^ 64 ∧
            ∀ i ∈ s.dev.sheetChans k, i < 4 → t.dev.rd (R.SHT_Dd_TRIGk k i) = (s.dev.rd (R.EVT_ENCn_RAW 0) + s.dev.get (F.LG_Ss_OFFSET.counts i)) % 2 ^ 48) ∧
          (s.dev.lg.queue ≠ [] → s.dev.shtState k = 1 → if t.dev.shtState k = 2 then t.dev.lg.queue = rest
            else t.dev.shtState k = 1 ∧ t.dev.lg.queue = k :: rest ∧ bit (t.dev.rd R.LG_STATUS) 3 = true) ∧
          (∀ (j : Nat), j < 32 → j ≠ k → t.dev.shtState j = s.dev.shtState j) ∧ t.dev.now = s.dev.now ∧ t.mem = s.mem ∧ t.pending = s.pending) ∧
  (∀ (s : State) (f : List Byte),
    s.dev.persC = true →
    s.dev.domOn 0 = true →
    s.dev.domOn 2 = true →
    s.dev.rxSt = 4 →
    f.length % 8 ≠ 0 ∨ f.length < 24 →
    Completes (exec (.legacyFrame f) s) fun t =>
          t.dev.get F.LG_VID_ERRS.crc = (s.dev.get F.LG_VID_ERRS.crc + 1) % 256 ∧ bit (t.dev.rd R.LG_VID_STAT) 2 = true ∧ bit (t.dev.rd R.LG_STATUS) 1 = true ∧
          s.Frame [Part.reg R.LG_VID_ERRS.off, Part.reg R.LG_VID_STAT.off, Part.reg R.LG_STATUS.off] t) ∧
  (∀ (s : State) (i : Fin 4) (line : Nat) (sheet : Byte) (pad : Byte) (px : List Byte),
    s.dev.persC = true →
    s.dev.domOn 0 = true →
    s.dev.domOn 2 = true →
    s.dev.rxSt = 4 →
    loaded s.dev sheet.toNat 2 →
    (s.dev.shtState 2 = 1 ∧ ∀ (j : Nat), j < 32 → j ≠ 2 → s.dev.shtState j = 0) →
    bit (s.dev.get (F.SHT_Dd_HEAD.chan_mask 2)) i = true →
    px.length = 8 →
    line < 2 ^ 16 →
    s.dev.domOn 1 = true →
    (s.dev.chan i).map (fun c => stride c false) = some 64 →
    s.dev.rd (R.SHT_Dd_BASEn 2 i) % 8 = 0 →
    s.dev.regionOf (s.dev.rd (R.SHT_Dd_BASEn 2 i)) = none →
    s.dev.rd (R.SHT_Dd_BASEn 2 i) + 64 * 2 ^ 16 ≤ 2 ^ 30 →
    Completes (exec (.legacyFrame (legacyFrameOf i line sheet pad px)) s) fun t =>
          let n := s.dev.get (F.LG_Ss_PIXELS.pixels i)
          let fill := s.dev.get (F.SHT_Dd_FILLn.lines 2 i)
          if pad ≠ 0 ∨ n ≠ 8 then bit (t.dev.rd R.LG_VID_STAT) 3 = true ∧ s.Frame [Part.reg R.LG_VID_STAT.off, Part.reg R.LG_STATUS.off] t
          else if line ≠ fill ∨ s.dev.get (F.SHT_Dd_LINES.input_lines 2) ≤ line then
            bit (t.dev.rd R.LG_VID_STAT) 1 = true ∧ t.dev.get F.LG_VID_ERRS.order = (s.dev.get F.LG_VID_ERRS.order + 1) % 256 ∧
            s.Frame [Part.reg R.LG_VID_STAT.off, Part.reg R.LG_VID_ERRS.off, Part.reg R.LG_STATUS.off] t
          else
            t.dev.get (F.SHT_Dd_FILLn.lines 2 i) = fill + 1 ∧ s.dev.Frame [Part.memx, Part.reg (R.SHT_Dd_FILLn 2 i).off, Part.reg R.MEM_INJECT_CTRL.off, Part.reg R.MEM_BAD_COUNT.off] t.dev ∧
            (s.dev.memx.lost = false → ∀ (p : Nat), p < 64 → t.mem.byte (s.dev.rd (R.SHT_Dd_BASEn 2 i) + 64 * line + p) = (px.getD p 0).toNat) ∧
            s.MemFrame ((List.range 8).map fun j => s.dev.rd (R.SHT_Dd_BASEn 2 i) / 8 + 8 * line + j) t ∧ t.pending = s.pending) ∧
  (∀ (s : State) (f : List Byte),
    s.dev.rxSt ≠ 4 →
    Completes (exec (.legacyFrame f) s) fun t => t = s)

/-- R457, R458, R459, R460, R461, R462, R463, R465, R466: A reload starts a walk and discards the records that wait; it is
refused and counted while a walk runs and on a follower. A walk takes the valid bank of the later generation, applies each
record whose moment is now and keeps the others; unknown records are skipped and counted, bad ones counted and recorded;
with no valid bank it applies nothing and records 0xB4; a bank of another image is recorded with 0xB5. A record that waits
is applied at its moment, in order; when none is left all_applied sets and the time is kept. -/
def Obligations.Calibration : Prop :=
  (∀ (s : State) (a b : List Byte),
    s.dev.host.qspiBusy = true ∨ s.dev.get F.FRD_STATUS.state = 1 →
    Completes (exec (.calWalkDone a b) s) fun t => t = s) ∧
  (∀ (s : State) (a b : List Byte) (w : Option Nat) (rest : List (Option Nat)),     s.dev.host.qspiBusy = false ∧ s.dev.get F.FRD_STATUS.state ≠ 1 →
s.dev.cal.walks = w :: rest →
    Completes (exec (.calWalkDone a b) s) fun t =>
      t.dev.get F.CAL_COUNTS.walks = min (s.dev.get F.CAL_COUNTS.walks + 1) 255 ∧ t.dev.on F.CAL_STATUS.busy = decide (rest ≠ []) ∧ t.dev.cal.walks = rest ∧
        t.dev.on F.CAL_STATUS.pending = decide (t.dev.cal.waits ≠ []) ∧ bit (t.dev.rd R.CAL_IRQ_STATUS) 0 = true ∧ (t.dev.cal.waits = [] → bit (t.dev.rd R.CAL_IRQ_STATUS) 1 = true) ∧
        ((nats a).take 4 = [0x43, 0x41, 0x4C, 0x50] ∨ (nats b).take 4 = [0x43, 0x41, 0x4C, 0x50] ∨ t.dev.get F.CAL_STATUS.bank = 0) ∧ t.mem = s.mem ∧ t.pending = s.pending) ∧
  (∀ (s : State) (r : CalRec), s.dev.follows = false → s.dev.cal.waits.find? s.dev.calMoment = some r →
    Completes (exec .calRecordApply s) fun t =>
      t.dev.cal.waits = s.dev.cal.waits.erase r ∧ t.dev.get F.CAL_STATUS.applied = min (s.dev.get F.CAL_STATUS.applied + 1) 2047 ∧
        t.dev.on F.CAL_STATUS.pending = decide (t.dev.cal.waits ≠ []) ∧ t.mem = s.mem ∧ t.pending = s.pending) ∧
  (∀ (s : State),
    reached s.dev R.CAL_CTRL.off →
    s.dev.on F.CAL_STATUS.busy = true ∨ (s.dev.twin = true ∧ s.dev.get F.TWN_STATUS.state = 3 ∧ s.dev.on F.TWN_TOKEN_STATE.latch = false) →
    Completes (exec .reload s) fun t =>
          t.dev.get F.CAL_COUNTS.rejected = min (s.dev.get F.CAL_COUNTS.rejected + 1) 255 ∧ s.Frame [Part.reg R.CAL_COUNTS.off] t) ∧
  (∀ (s : State),
    s.dev.direct R.CAL_CTRL.off →
    s.dev.on F.CAL_STATUS.busy = false →
    s.dev.twin = false →
    Completes (exec .reload s) fun t =>
          t.dev.on F.CAL_STATUS.busy = true ∧ t.dev.on F.CAL_STATUS.pending = false ∧ t.dev.cal.waits = [] ∧ t.dev.cal.walks = s.dev.cal.walks ++ [none] ∧
          t.dev.cal.sent = s.dev.cal.sent ∧
          (t.dev.out = if s.dev.cal.walks = [] ∧ s.dev.host.qspiBusy = false ∧ s.dev.get F.FRD_STATUS.state ≠ 1 then
            .qspi 0x6B (some 0x40000) 8 7 true [] 0x40000 :: s.dev.out else s.dev.out) ∧
          s.Frame [Part.out, Part.cal, Part.reg R.CAL_STATUS.off] t) ∧
  (∀ (s : State) (a b : List Byte),
    s.dev.cal.walks = [] →
    Completes (exec (.calWalkDone a b) s) fun t => t = s) ∧
  (∀ (s : State) (a b : List Byte) (w : Option Nat) (rest : List (Option Nat)),
    s.dev.host.qspiBusy = false ∧ s.dev.get F.FRD_STATUS.state ≠ 1 →
    s.dev.cal.walks = w :: rest →
    s.dev.cal.waits = [] →
    (nats a).take 4 ≠ [0x43, 0x41, 0x4C, 0x50] →
    (nats b).take 4 ≠ [0x43, 0x41, 0x4C, 0x50] →
    Completes (exec (.calWalkDone a b) s) fun t =>
          t.dev.get F.CAL_STATUS.bank = 0 ∧ t.dev.get F.CAL_STATUS.applied = 0 ∧ t.dev.on F.CAL_STATUS.busy = decide (rest ≠ []) ∧
          t.dev.cal.walks = rest ∧ t.dev.cal.waits = [] ∧ strobed s.dev t.dev 35 (0xB4 * 2 ^ 24 + 3) 0 ∧
          t.dev.get F.CAL_COUNTS.walks = min (s.dev.get F.CAL_COUNTS.walks + 1) 255 ∧
          bit (t.dev.rd R.CAL_IRQ_STATUS) 0 = true ∧ s.Frame (walkEndParts ++ strobeParts 35) t) ∧
  (∀ (s : State) (ga gb sa sb : Nat),
    s.dev.host.qspiBusy = false ∧ s.dev.get F.FRD_STATUS.state ≠ 1 →
    s.dev.cal.walks = [none] →
    s.dev.cal.waits = [] →
    s.dev.persC = false →
    ga < 2 ^ 32 ∧ gb < 2 ^ 32 ∧ sa < 2 ^ 32 ∧ sb < 2 ^ 32 →
    sa = 0 ∨ sa = s.dev.get F.FRD_IMAGE_SERIAL.serial →
    Completes (exec (.calWalkDone (bankOf ga sa []) (bankOf gb sb [])) s) fun t =>
          let okB : Prop := sb = 0 ∨ sb = s.dev.get F.FRD_IMAGE_SERIAL.serial
          let later : Prop := 0 < (gb + 2 ^ 32 - ga) % 2 ^ 32 ∧ (gb + 2 ^ 32 - ga) % 2 ^ 32 < 2 ^ 31
          t.dev.get F.CAL_STATUS.bank = (if okB ∧ later then 2 else 1) ∧ t.dev.rd R.CAL_GENERATION = (if okB ∧ later then gb else ga) ∧
          t.dev.rd R.CAL_COUNT = 5 ∧ t.dev.rd R.CAL_TIME = 6 ∧ t.dev.on F.CAL_STATUS.busy = false ∧ t.dev.on F.CAL_STATUS.pending = false ∧
          bit (t.dev.rd R.CAL_IRQ_STATUS) 0 = true ∧ bit (t.dev.rd R.CAL_IRQ_STATUS) 1 = true ∧
          t.dev.get F.CAL_COUNTS.walks = min (s.dev.get F.CAL_COUNTS.walks + 1) 255 ∧
          (if okB then t.dev.flt.strobes = s.dev.flt.strobes else strobed s.dev t.dev 35 (0xB5 * 2 ^ 24 + 2) sb) ∧
          s.Frame (walkEndParts ++ bankParts ++ strobeParts 35) t) ∧
  (∀ (s : State) (n : Fin 8) (x : List Byte) (late : Bool),
    s.dev.host.qspiBusy = false ∧ s.dev.get F.FRD_STATUS.state ≠ 1 →
    s.dev.cal.walks = [none] →
    s.dev.cal.waits = [] →
    s.dev.persC = false →
    s.dev.twin = false →
    (s.dev.chan n).isSome = true →
    s.dev.domOn (4 + n) = !late →
    x.length = 24 →
    Completes (exec (.calWalkDone (bankOf 1 0 [bankRecord 9 0 1 [], bankRecord 1 n 1 (nats x), bankRecord 1 n 2 (nats x)]) []) s) fun t =>
          t.dev.get F.CAL_STATUS.bank = 1 ∧ t.dev.rd R.CAL_GENERATION = 1 ∧
          t.dev.get F.CAL_COUNTS.skipped = min (s.dev.get F.CAL_COUNTS.skipped + 1) 255 ∧
          t.dev.get F.CAL_COUNTS.bad = min (s.dev.get F.CAL_COUNTS.bad + 1) 255 ∧ bit (t.dev.rd R.CAL_IRQ_STATUS) 2 = true ∧
          strobed s.dev t.dev 35 (0xB1 * 2 ^ 24 + 1 * 2 ^ 16 + n.val * 2 ^ 8) (0x40000 + 0x40 + 16 + 40) ∧
          (if late then t.dev.on F.CAL_STATUS.pending = true ∧ t.dev.get F.CAL_STATUS.applied = 0 ∧
              t.dev.cal.waits = [⟨1, n, 0x40000 + 0x40 + 16, nats x⟩] ∧ s.Frame (walkEndParts ++ bankParts ++ strobeParts 35) t
            else t.dev.on F.CAL_STATUS.pending = false ∧ t.dev.get F.CAL_STATUS.applied = 1 ∧ t.dev.cal.waits = [] ∧
              bit (t.dev.rd R.CAL_IRQ_STATUS) 1 = true ∧ t.dev.rd R.CAL_APPLIED_SECONDS = s.dev.get F.SYS_SECONDS.seconds ∧
              (∀ (f : Nat), f < 12 → t.dev.get (F.CHn_SCT_FACET_SIGf.sig n f) = leVal (((nats x).drop (2 * f)).take 2)) ∧
              s.Frame (walkEndParts ++ bankParts ++ strobeParts 35 ++ (List.range 12).map fun f => Part.reg (R.CHn_SCT_FACET_SIGf n f).off) t)) ∧
  (∀ (s : State) (r : CalRec) (rest : List CalRec),
    s.dev.cal.waits = r :: rest →
    r.kind = 1 ∧ r.idx < 8 →
    s.dev.twin = false →
    s.dev.domOn (4 + r.idx) = true →
    s.dev.on F.CAL_STATUS.pending = true →
    (∀ x ∈ r.payload, x < 256) ∧ r.payload.length = 24 →
    Completes (exec .calRecordApply s) fun t =>
          (∀ (f : Nat), f < 12 → t.dev.get (F.CHn_SCT_FACET_SIGf.sig r.idx f) = leVal ((r.payload.drop (2 * f)).take 2)) ∧
          t.dev.cal.waits = rest ∧ t.dev.get F.CAL_STATUS.applied = min (s.dev.get F.CAL_STATUS.applied + 1) 2047 ∧
          t.dev.on F.CAL_STATUS.pending = decide (rest ≠ []) ∧
          (rest = [] → bit (t.dev.rd R.CAL_IRQ_STATUS) 1 = true ∧ t.dev.rd R.CAL_APPLIED_SECONDS = s.dev.get F.SYS_SECONDS.seconds) ∧
          s.Frame (walkEndParts ++ (List.range 12).map fun f => Part.reg (R.CHn_SCT_FACET_SIGf r.idx f).off) t) ∧
  (∀ (s : State) (r : CalRec),
    s.dev.cal.waits = [r] →
    r.kind = 6 ∧ r.idx < 64 →
    s.dev.twin = false →
    s.dev.loopState r.idx < 2 →
    s.dev.cal.sent = [] →
    (∀ x ∈ r.payload, x < 256) ∧ r.payload.length = 256 →
    Completes (exec .calRecordApply s) fun t =>
          (∀ (j : Nat), j < 32 → t.dev.tw (0x310000 + r.idx * 0x100 + 8 * j) = leVal ((r.payload.drop (8 * j)).take 8)) ∧
          t.dev.isReady (R.LOOP_Sk_COMMIT r.idx) = true ∧ t.dev.on (F.LOOP_Sk_STATUS.shadow_pending r.idx) = true ∧
          t.dev.cal.sent = [(6, r.idx, r.addr)] ∧ t.dev.cal.waits = [] ∧
          s.Frame (walkEndParts ++ [Part.lg, Part.tblMark, Part.rdy (R.LOOP_Sk_COMMIT r.idx).off, Part.reg (R.LOOP_Sk_STATUS r.idx).off] ++
            (List.range 32).flatMap fun j => [Part.tbl (0x310000 + r.idx * 0x100 + 8 * j), Part.tblChk (0x310000 + r.idx * 0x100 + 8 * j)]) t) ∧
  (∀ (s : State),
    (∀ r ∈ s.dev.cal.waits, s.dev.calMoment r = false) ∨ (s.dev.twin = true ∧ s.dev.get F.TWN_STATUS.state = 3 ∧ s.dev.on F.TWN_TOKEN_STATE.latch = false) →
    Completes (exec .calRecordApply s) fun t => t = s)

end
end

