-- ==== Sys2Proof/Laws/State.lean ====
section
/-! SUPPORT. What each update of the device leaves: one lemma per field and update, so that no proof unfolds a record update. -/

namespace Sys2Proof.Machine

/-! ### wr -/

@[simp] theorem Dev.wr_active (d : Dev) (r : Reg) (v : Nat) : (d.wr r v).active = d.active := rfl
@[simp] theorem Dev.wr_ready (d : Dev) (r : Reg) (v : Nat) : (d.wr r v).ready = d.ready := rfl
@[simp] theorem Dev.wr_actTbl (d : Dev) (r : Reg) (v : Nat) : (d.wr r v).actTbl = d.actTbl := rfl
@[simp] theorem Dev.wr_tbl (d : Dev) (r : Reg) (v : Nat) : (d.wr r v).tbl = d.tbl := rfl
@[simp] theorem Dev.wr_tblChk (d : Dev) (r : Reg) (v : Nat) : (d.wr r v).tblChk = d.tblChk := rfl
@[simp] theorem Dev.wr_out (d : Dev) (r : Reg) (v : Nat) : (d.wr r v).out = d.out := rfl
@[simp] theorem Dev.wr_free (d : Dev) (r : Reg) (v : Nat) : (d.wr r v).free = d.free := rfl
@[simp] theorem Dev.wr_sys (d : Dev) (r : Reg) (v : Nat) : (d.wr r v).sys = d.sys := rfl
@[simp] theorem Dev.wr_frd (d : Dev) (r : Reg) (v : Nat) : (d.wr r v).frd = d.frd := rfl
@[simp] theorem Dev.wr_evt (d : Dev) (r : Reg) (v : Nat) : (d.wr r v).evt = d.evt := rfl
@[simp] theorem Dev.wr_sht (d : Dev) (r : Reg) (v : Nat) : (d.wr r v).sht = d.sht := rfl
@[simp] theorem Dev.wr_flt (d : Dev) (r : Reg) (v : Nat) : (d.wr r v).flt = d.flt := rfl
@[simp] theorem Dev.wr_host (d : Dev) (r : Reg) (v : Nat) : (d.wr r v).host = d.host := rfl
@[simp] theorem Dev.wr_ch (d : Dev) (r : Reg) (v : Nat) : (d.wr r v).ch = d.ch := rfl
@[simp] theorem Dev.wr_bld (d : Dev) (r : Reg) (v : Nat) : (d.wr r v).bld = d.bld := rfl
@[simp] theorem Dev.wr_dcb (d : Dev) (r : Reg) (v : Nat) : (d.wr r v).dcb = d.dcb := rfl
@[simp] theorem Dev.wr_stp (d : Dev) (r : Reg) (v : Nat) : (d.wr r v).stp = d.stp := rfl
@[simp] theorem Dev.wr_inp (d : Dev) (r : Reg) (v : Nat) : (d.wr r v).inp = d.inp := rfl
@[simp] theorem Dev.wr_loop (d : Dev) (r : Reg) (v : Nat) : (d.wr r v).loop = d.loop := rfl
@[simp] theorem Dev.wr_outU (d : Dev) (r : Reg) (v : Nat) : (d.wr r v).outU = d.outU := rfl
@[simp] theorem Dev.wr_twn (d : Dev) (r : Reg) (v : Nat) : (d.wr r v).twn = d.twn := rfl
@[simp] theorem Dev.wr_memx (d : Dev) (r : Reg) (v : Nat) : (d.wr r v).memx = d.memx := rfl
@[simp] theorem Dev.wr_dmaq (d : Dev) (r : Reg) (v : Nat) : (d.wr r v).dmaq = d.dmaq := rfl
@[simp] theorem Dev.wr_dmaLast (d : Dev) (r : Reg) (v : Nat) : (d.wr r v).dmaLast = d.dmaLast := rfl
@[simp] theorem Dev.wr_rng (d : Dev) (r : Reg) (v : Nat) : (d.wr r v).rng = d.rng := rfl
@[simp] theorem Dev.wr_tblMark (d : Dev) (r : Reg) (v : Nat) : (d.wr r v).tblMark = d.tblMark := rfl
@[simp] theorem Dev.wr_tmp (d : Dev) (r : Reg) (v : Nat) : (d.wr r v).tmp = d.tmp := rfl
@[simp] theorem Dev.wr_clk (d : Dev) (r : Reg) (v : Nat) : (d.wr r v).clk = d.clk := rfl
@[simp] theorem Dev.wr_pwr (d : Dev) (r : Reg) (v : Nat) : (d.wr r v).pwr = d.pwr := rfl
@[simp] theorem Dev.wr_cal (d : Dev) (r : Reg) (v : Nat) : (d.wr r v).cal = d.cal := rfl
@[simp] theorem Dev.wr_lg (d : Dev) (r : Reg) (v : Nat) : (d.wr r v).lg = d.lg := rfl

/-! ### put -/

@[simp] theorem Dev.put_active (d : Dev) (f : Fld) (v : Nat) : (d.put f v).active = d.active := rfl
@[simp] theorem Dev.put_ready (d : Dev) (f : Fld) (v : Nat) : (d.put f v).ready = d.ready := rfl
@[simp] theorem Dev.put_actTbl (d : Dev) (f : Fld) (v : Nat) : (d.put f v).actTbl = d.actTbl := rfl
@[simp] theorem Dev.put_tbl (d : Dev) (f : Fld) (v : Nat) : (d.put f v).tbl = d.tbl := rfl
@[simp] theorem Dev.put_tblChk (d : Dev) (f : Fld) (v : Nat) : (d.put f v).tblChk = d.tblChk := rfl
@[simp] theorem Dev.put_out (d : Dev) (f : Fld) (v : Nat) : (d.put f v).out = d.out := rfl
@[simp] theorem Dev.put_free (d : Dev) (f : Fld) (v : Nat) : (d.put f v).free = d.free := rfl
@[simp] theorem Dev.put_sys (d : Dev) (f : Fld) (v : Nat) : (d.put f v).sys = d.sys := rfl
@[simp] theorem Dev.put_frd (d : Dev) (f : Fld) (v : Nat) : (d.put f v).frd = d.frd := rfl
@[simp] theorem Dev.put_evt (d : Dev) (f : Fld) (v : Nat) : (d.put f v).evt = d.evt := rfl
@[simp] theorem Dev.put_sht (d : Dev) (f : Fld) (v : Nat) : (d.put f v).sht = d.sht := rfl
@[simp] theorem Dev.put_flt (d : Dev) (f : Fld) (v : Nat) : (d.put f v).flt = d.flt := rfl
@[simp] theorem Dev.put_host (d : Dev) (f : Fld) (v : Nat) : (d.put f v).host = d.host := rfl
@[simp] theorem Dev.put_ch (d : Dev) (f : Fld) (v : Nat) : (d.put f v).ch = d.ch := rfl
@[simp] theorem Dev.put_bld (d : Dev) (f : Fld) (v : Nat) : (d.put f v).bld = d.bld := rfl
@[simp] theorem Dev.put_dcb (d : Dev) (f : Fld) (v : Nat) : (d.put f v).dcb = d.dcb := rfl
@[simp] theorem Dev.put_stp (d : Dev) (f : Fld) (v : Nat) : (d.put f v).stp = d.stp := rfl
@[simp] theorem Dev.put_inp (d : Dev) (f : Fld) (v : Nat) : (d.put f v).inp = d.inp := rfl
@[simp] theorem Dev.put_loop (d : Dev) (f : Fld) (v : Nat) : (d.put f v).loop = d.loop := rfl
@[simp] theorem Dev.put_outU (d : Dev) (f : Fld) (v : Nat) : (d.put f v).outU = d.outU := rfl
@[simp] theorem Dev.put_twn (d : Dev) (f : Fld) (v : Nat) : (d.put f v).twn = d.twn := rfl
@[simp] theorem Dev.put_memx (d : Dev) (f : Fld) (v : Nat) : (d.put f v).memx = d.memx := rfl
@[simp] theorem Dev.put_dmaq (d : Dev) (f : Fld) (v : Nat) : (d.put f v).dmaq = d.dmaq := rfl
@[simp] theorem Dev.put_dmaLast (d : Dev) (f : Fld) (v : Nat) : (d.put f v).dmaLast = d.dmaLast := rfl
@[simp] theorem Dev.put_rng (d : Dev) (f : Fld) (v : Nat) : (d.put f v).rng = d.rng := rfl
@[simp] theorem Dev.put_tblMark (d : Dev) (f : Fld) (v : Nat) : (d.put f v).tblMark = d.tblMark := rfl
@[simp] theorem Dev.put_tmp (d : Dev) (f : Fld) (v : Nat) : (d.put f v).tmp = d.tmp := rfl
@[simp] theorem Dev.put_clk (d : Dev) (f : Fld) (v : Nat) : (d.put f v).clk = d.clk := rfl
@[simp] theorem Dev.put_pwr (d : Dev) (f : Fld) (v : Nat) : (d.put f v).pwr = d.pwr := rfl
@[simp] theorem Dev.put_cal (d : Dev) (f : Fld) (v : Nat) : (d.put f v).cal = d.cal := rfl
@[simp] theorem Dev.put_lg (d : Dev) (f : Fld) (v : Nat) : (d.put f v).lg = d.lg := rfl

/-! ### putB -/

@[simp] theorem Dev.putB_active (d : Dev) (f : Fld) (b : Bool) : (d.putB f b).active = d.active := rfl
@[simp] theorem Dev.putB_ready (d : Dev) (f : Fld) (b : Bool) : (d.putB f b).ready = d.ready := rfl
@[simp] theorem Dev.putB_actTbl (d : Dev) (f : Fld) (b : Bool) : (d.putB f b).actTbl = d.actTbl := rfl
@[simp] theorem Dev.putB_tbl (d : Dev) (f : Fld) (b : Bool) : (d.putB f b).tbl = d.tbl := rfl
@[simp] theorem Dev.putB_tblChk (d : Dev) (f : Fld) (b : Bool) : (d.putB f b).tblChk = d.tblChk := rfl
@[simp] theorem Dev.putB_out (d : Dev) (f : Fld) (b : Bool) : (d.putB f b).out = d.out := rfl
@[simp] theorem Dev.putB_free (d : Dev) (f : Fld) (b : Bool) : (d.putB f b).free = d.free := rfl
@[simp] theorem Dev.putB_sys (d : Dev) (f : Fld) (b : Bool) : (d.putB f b).sys = d.sys := rfl
@[simp] theorem Dev.putB_frd (d : Dev) (f : Fld) (b : Bool) : (d.putB f b).frd = d.frd := rfl
@[simp] theorem Dev.putB_evt (d : Dev) (f : Fld) (b : Bool) : (d.putB f b).evt = d.evt := rfl
@[simp] theorem Dev.putB_sht (d : Dev) (f : Fld) (b : Bool) : (d.putB f b).sht = d.sht := rfl
@[simp] theorem Dev.putB_flt (d : Dev) (f : Fld) (b : Bool) : (d.putB f b).flt = d.flt := rfl
@[simp] theorem Dev.putB_host (d : Dev) (f : Fld) (b : Bool) : (d.putB f b).host = d.host := rfl
@[simp] theorem Dev.putB_ch (d : Dev) (f : Fld) (b : Bool) : (d.putB f b).ch = d.ch := rfl
@[simp] theorem Dev.putB_bld (d : Dev) (f : Fld) (b : Bool) : (d.putB f b).bld = d.bld := rfl
@[simp] theorem Dev.putB_dcb (d : Dev) (f : Fld) (b : Bool) : (d.putB f b).dcb = d.dcb := rfl
@[simp] theorem Dev.putB_stp (d : Dev) (f : Fld) (b : Bool) : (d.putB f b).stp = d.stp := rfl
@[simp] theorem Dev.putB_inp (d : Dev) (f : Fld) (b : Bool) : (d.putB f b).inp = d.inp := rfl
@[simp] theorem Dev.putB_loop (d : Dev) (f : Fld) (b : Bool) : (d.putB f b).loop = d.loop := rfl
@[simp] theorem Dev.putB_outU (d : Dev) (f : Fld) (b : Bool) : (d.putB f b).outU = d.outU := rfl
@[simp] theorem Dev.putB_twn (d : Dev) (f : Fld) (b : Bool) : (d.putB f b).twn = d.twn := rfl
@[simp] theorem Dev.putB_memx (d : Dev) (f : Fld) (b : Bool) : (d.putB f b).memx = d.memx := rfl
@[simp] theorem Dev.putB_dmaq (d : Dev) (f : Fld) (b : Bool) : (d.putB f b).dmaq = d.dmaq := rfl
@[simp] theorem Dev.putB_dmaLast (d : Dev) (f : Fld) (b : Bool) : (d.putB f b).dmaLast = d.dmaLast := rfl
@[simp] theorem Dev.putB_rng (d : Dev) (f : Fld) (b : Bool) : (d.putB f b).rng = d.rng := rfl
@[simp] theorem Dev.putB_tblMark (d : Dev) (f : Fld) (b : Bool) : (d.putB f b).tblMark = d.tblMark := rfl
@[simp] theorem Dev.putB_tmp (d : Dev) (f : Fld) (b : Bool) : (d.putB f b).tmp = d.tmp := rfl
@[simp] theorem Dev.putB_clk (d : Dev) (f : Fld) (b : Bool) : (d.putB f b).clk = d.clk := rfl
@[simp] theorem Dev.putB_pwr (d : Dev) (f : Fld) (b : Bool) : (d.putB f b).pwr = d.pwr := rfl
@[simp] theorem Dev.putB_cal (d : Dev) (f : Fld) (b : Bool) : (d.putB f b).cal = d.cal := rfl
@[simp] theorem Dev.putB_lg (d : Dev) (f : Fld) (b : Bool) : (d.putB f b).lg = d.lg := rfl

/-! ### putBit -/

@[simp] theorem Dev.putBit_active (d : Dev) (f : Fld) (k : Nat) (b : Bool) : (d.putBit f k b).active = d.active := rfl
@[simp] theorem Dev.putBit_ready (d : Dev) (f : Fld) (k : Nat) (b : Bool) : (d.putBit f k b).ready = d.ready := rfl
@[simp] theorem Dev.putBit_actTbl (d : Dev) (f : Fld) (k : Nat) (b : Bool) : (d.putBit f k b).actTbl = d.actTbl := rfl
@[simp] theorem Dev.putBit_tbl (d : Dev) (f : Fld) (k : Nat) (b : Bool) : (d.putBit f k b).tbl = d.tbl := rfl
@[simp] theorem Dev.putBit_tblChk (d : Dev) (f : Fld) (k : Nat) (b : Bool) : (d.putBit f k b).tblChk = d.tblChk := rfl
@[simp] theorem Dev.putBit_out (d : Dev) (f : Fld) (k : Nat) (b : Bool) : (d.putBit f k b).out = d.out := rfl
@[simp] theorem Dev.putBit_free (d : Dev) (f : Fld) (k : Nat) (b : Bool) : (d.putBit f k b).free = d.free := rfl
@[simp] theorem Dev.putBit_sys (d : Dev) (f : Fld) (k : Nat) (b : Bool) : (d.putBit f k b).sys = d.sys := rfl
@[simp] theorem Dev.putBit_frd (d : Dev) (f : Fld) (k : Nat) (b : Bool) : (d.putBit f k b).frd = d.frd := rfl
@[simp] theorem Dev.putBit_evt (d : Dev) (f : Fld) (k : Nat) (b : Bool) : (d.putBit f k b).evt = d.evt := rfl
@[simp] theorem Dev.putBit_sht (d : Dev) (f : Fld) (k : Nat) (b : Bool) : (d.putBit f k b).sht = d.sht := rfl
@[simp] theorem Dev.putBit_flt (d : Dev) (f : Fld) (k : Nat) (b : Bool) : (d.putBit f k b).flt = d.flt := rfl
@[simp] theorem Dev.putBit_host (d : Dev) (f : Fld) (k : Nat) (b : Bool) : (d.putBit f k b).host = d.host := rfl
@[simp] theorem Dev.putBit_ch (d : Dev) (f : Fld) (k : Nat) (b : Bool) : (d.putBit f k b).ch = d.ch := rfl
@[simp] theorem Dev.putBit_bld (d : Dev) (f : Fld) (k : Nat) (b : Bool) : (d.putBit f k b).bld = d.bld := rfl
@[simp] theorem Dev.putBit_dcb (d : Dev) (f : Fld) (k : Nat) (b : Bool) : (d.putBit f k b).dcb = d.dcb := rfl
@[simp] theorem Dev.putBit_stp (d : Dev) (f : Fld) (k : Nat) (b : Bool) : (d.putBit f k b).stp = d.stp := rfl
@[simp] theorem Dev.putBit_inp (d : Dev) (f : Fld) (k : Nat) (b : Bool) : (d.putBit f k b).inp = d.inp := rfl
@[simp] theorem Dev.putBit_loop (d : Dev) (f : Fld) (k : Nat) (b : Bool) : (d.putBit f k b).loop = d.loop := rfl
@[simp] theorem Dev.putBit_outU (d : Dev) (f : Fld) (k : Nat) (b : Bool) : (d.putBit f k b).outU = d.outU := rfl
@[simp] theorem Dev.putBit_twn (d : Dev) (f : Fld) (k : Nat) (b : Bool) : (d.putBit f k b).twn = d.twn := rfl
@[simp] theorem Dev.putBit_memx (d : Dev) (f : Fld) (k : Nat) (b : Bool) : (d.putBit f k b).memx = d.memx := rfl
@[simp] theorem Dev.putBit_dmaq (d : Dev) (f : Fld) (k : Nat) (b : Bool) : (d.putBit f k b).dmaq = d.dmaq := rfl
@[simp] theorem Dev.putBit_dmaLast (d : Dev) (f : Fld) (k : Nat) (b : Bool) : (d.putBit f k b).dmaLast = d.dmaLast := rfl
@[simp] theorem Dev.putBit_rng (d : Dev) (f : Fld) (k : Nat) (b : Bool) : (d.putBit f k b).rng = d.rng := rfl
@[simp] theorem Dev.putBit_tblMark (d : Dev) (f : Fld) (k : Nat) (b : Bool) : (d.putBit f k b).tblMark = d.tblMark := rfl
@[simp] theorem Dev.putBit_tmp (d : Dev) (f : Fld) (k : Nat) (b : Bool) : (d.putBit f k b).tmp = d.tmp := rfl
@[simp] theorem Dev.putBit_clk (d : Dev) (f : Fld) (k : Nat) (b : Bool) : (d.putBit f k b).clk = d.clk := rfl
@[simp] theorem Dev.putBit_pwr (d : Dev) (f : Fld) (k : Nat) (b : Bool) : (d.putBit f k b).pwr = d.pwr := rfl
@[simp] theorem Dev.putBit_cal (d : Dev) (f : Fld) (k : Nat) (b : Bool) : (d.putBit f k b).cal = d.cal := rfl
@[simp] theorem Dev.putBit_lg (d : Dev) (f : Fld) (k : Nat) (b : Bool) : (d.putBit f k b).lg = d.lg := rfl

/-! ### count -/

@[simp] theorem Dev.count_active (d : Dev) (f : Fld) (n : Nat) : (d.count f n).active = d.active := rfl
@[simp] theorem Dev.count_ready (d : Dev) (f : Fld) (n : Nat) : (d.count f n).ready = d.ready := rfl
@[simp] theorem Dev.count_actTbl (d : Dev) (f : Fld) (n : Nat) : (d.count f n).actTbl = d.actTbl := rfl
@[simp] theorem Dev.count_tbl (d : Dev) (f : Fld) (n : Nat) : (d.count f n).tbl = d.tbl := rfl
@[simp] theorem Dev.count_tblChk (d : Dev) (f : Fld) (n : Nat) : (d.count f n).tblChk = d.tblChk := rfl
@[simp] theorem Dev.count_out (d : Dev) (f : Fld) (n : Nat) : (d.count f n).out = d.out := rfl
@[simp] theorem Dev.count_free (d : Dev) (f : Fld) (n : Nat) : (d.count f n).free = d.free := rfl
@[simp] theorem Dev.count_sys (d : Dev) (f : Fld) (n : Nat) : (d.count f n).sys = d.sys := rfl
@[simp] theorem Dev.count_frd (d : Dev) (f : Fld) (n : Nat) : (d.count f n).frd = d.frd := rfl
@[simp] theorem Dev.count_evt (d : Dev) (f : Fld) (n : Nat) : (d.count f n).evt = d.evt := rfl
@[simp] theorem Dev.count_sht (d : Dev) (f : Fld) (n : Nat) : (d.count f n).sht = d.sht := rfl
@[simp] theorem Dev.count_flt (d : Dev) (f : Fld) (n : Nat) : (d.count f n).flt = d.flt := rfl
@[simp] theorem Dev.count_host (d : Dev) (f : Fld) (n : Nat) : (d.count f n).host = d.host := rfl
@[simp] theorem Dev.count_ch (d : Dev) (f : Fld) (n : Nat) : (d.count f n).ch = d.ch := rfl
@[simp] theorem Dev.count_bld (d : Dev) (f : Fld) (n : Nat) : (d.count f n).bld = d.bld := rfl
@[simp] theorem Dev.count_dcb (d : Dev) (f : Fld) (n : Nat) : (d.count f n).dcb = d.dcb := rfl
@[simp] theorem Dev.count_stp (d : Dev) (f : Fld) (n : Nat) : (d.count f n).stp = d.stp := rfl
@[simp] theorem Dev.count_inp (d : Dev) (f : Fld) (n : Nat) : (d.count f n).inp = d.inp := rfl
@[simp] theorem Dev.count_loop (d : Dev) (f : Fld) (n : Nat) : (d.count f n).loop = d.loop := rfl
@[simp] theorem Dev.count_outU (d : Dev) (f : Fld) (n : Nat) : (d.count f n).outU = d.outU := rfl
@[simp] theorem Dev.count_twn (d : Dev) (f : Fld) (n : Nat) : (d.count f n).twn = d.twn := rfl
@[simp] theorem Dev.count_memx (d : Dev) (f : Fld) (n : Nat) : (d.count f n).memx = d.memx := rfl
@[simp] theorem Dev.count_dmaq (d : Dev) (f : Fld) (n : Nat) : (d.count f n).dmaq = d.dmaq := rfl
@[simp] theorem Dev.count_dmaLast (d : Dev) (f : Fld) (n : Nat) : (d.count f n).dmaLast = d.dmaLast := rfl
@[simp] theorem Dev.count_rng (d : Dev) (f : Fld) (n : Nat) : (d.count f n).rng = d.rng := rfl
@[simp] theorem Dev.count_tblMark (d : Dev) (f : Fld) (n : Nat) : (d.count f n).tblMark = d.tblMark := rfl
@[simp] theorem Dev.count_tmp (d : Dev) (f : Fld) (n : Nat) : (d.count f n).tmp = d.tmp := rfl
@[simp] theorem Dev.count_clk (d : Dev) (f : Fld) (n : Nat) : (d.count f n).clk = d.clk := rfl
@[simp] theorem Dev.count_pwr (d : Dev) (f : Fld) (n : Nat) : (d.count f n).pwr = d.pwr := rfl
@[simp] theorem Dev.count_cal (d : Dev) (f : Fld) (n : Nat) : (d.count f n).cal = d.cal := rfl
@[simp] theorem Dev.count_lg (d : Dev) (f : Fld) (n : Nat) : (d.count f n).lg = d.lg := rfl

/-! ### countW -/

@[simp] theorem Dev.countW_active (d : Dev) (f : Fld) (n : Nat) : (d.countW f n).active = d.active := rfl
@[simp] theorem Dev.countW_ready (d : Dev) (f : Fld) (n : Nat) : (d.countW f n).ready = d.ready := rfl
@[simp] theorem Dev.countW_actTbl (d : Dev) (f : Fld) (n : Nat) : (d.countW f n).actTbl = d.actTbl := rfl
@[simp] theorem Dev.countW_tbl (d : Dev) (f : Fld) (n : Nat) : (d.countW f n).tbl = d.tbl := rfl
@[simp] theorem Dev.countW_tblChk (d : Dev) (f : Fld) (n : Nat) : (d.countW f n).tblChk = d.tblChk := rfl
@[simp] theorem Dev.countW_out (d : Dev) (f : Fld) (n : Nat) : (d.countW f n).out = d.out := rfl
@[simp] theorem Dev.countW_free (d : Dev) (f : Fld) (n : Nat) : (d.countW f n).free = d.free := rfl
@[simp] theorem Dev.countW_sys (d : Dev) (f : Fld) (n : Nat) : (d.countW f n).sys = d.sys := rfl
@[simp] theorem Dev.countW_frd (d : Dev) (f : Fld) (n : Nat) : (d.countW f n).frd = d.frd := rfl
@[simp] theorem Dev.countW_evt (d : Dev) (f : Fld) (n : Nat) : (d.countW f n).evt = d.evt := rfl
@[simp] theorem Dev.countW_sht (d : Dev) (f : Fld) (n : Nat) : (d.countW f n).sht = d.sht := rfl
@[simp] theorem Dev.countW_flt (d : Dev) (f : Fld) (n : Nat) : (d.countW f n).flt = d.flt := rfl
@[simp] theorem Dev.countW_host (d : Dev) (f : Fld) (n : Nat) : (d.countW f n).host = d.host := rfl
@[simp] theorem Dev.countW_ch (d : Dev) (f : Fld) (n : Nat) : (d.countW f n).ch = d.ch := rfl
@[simp] theorem Dev.countW_bld (d : Dev) (f : Fld) (n : Nat) : (d.countW f n).bld = d.bld := rfl
@[simp] theorem Dev.countW_dcb (d : Dev) (f : Fld) (n : Nat) : (d.countW f n).dcb = d.dcb := rfl
@[simp] theorem Dev.countW_stp (d : Dev) (f : Fld) (n : Nat) : (d.countW f n).stp = d.stp := rfl
@[simp] theorem Dev.countW_inp (d : Dev) (f : Fld) (n : Nat) : (d.countW f n).inp = d.inp := rfl
@[simp] theorem Dev.countW_loop (d : Dev) (f : Fld) (n : Nat) : (d.countW f n).loop = d.loop := rfl
@[simp] theorem Dev.countW_outU (d : Dev) (f : Fld) (n : Nat) : (d.countW f n).outU = d.outU := rfl
@[simp] theorem Dev.countW_twn (d : Dev) (f : Fld) (n : Nat) : (d.countW f n).twn = d.twn := rfl
@[simp] theorem Dev.countW_memx (d : Dev) (f : Fld) (n : Nat) : (d.countW f n).memx = d.memx := rfl
@[simp] theorem Dev.countW_dmaq (d : Dev) (f : Fld) (n : Nat) : (d.countW f n).dmaq = d.dmaq := rfl
@[simp] theorem Dev.countW_dmaLast (d : Dev) (f : Fld) (n : Nat) : (d.countW f n).dmaLast = d.dmaLast := rfl
@[simp] theorem Dev.countW_rng (d : Dev) (f : Fld) (n : Nat) : (d.countW f n).rng = d.rng := rfl
@[simp] theorem Dev.countW_tblMark (d : Dev) (f : Fld) (n : Nat) : (d.countW f n).tblMark = d.tblMark := rfl
@[simp] theorem Dev.countW_tmp (d : Dev) (f : Fld) (n : Nat) : (d.countW f n).tmp = d.tmp := rfl
@[simp] theorem Dev.countW_clk (d : Dev) (f : Fld) (n : Nat) : (d.countW f n).clk = d.clk := rfl
@[simp] theorem Dev.countW_pwr (d : Dev) (f : Fld) (n : Nat) : (d.countW f n).pwr = d.pwr := rfl
@[simp] theorem Dev.countW_cal (d : Dev) (f : Fld) (n : Nat) : (d.countW f n).cal = d.cal := rfl
@[simp] theorem Dev.countW_lg (d : Dev) (f : Fld) (n : Nat) : (d.countW f n).lg = d.lg := rfl

/-! ### clearBit -/

@[simp] theorem Dev.clearBit_active (d : Dev) (r : Reg) (k : Nat) : (d.clearBit r k).active = d.active := rfl
@[simp] theorem Dev.clearBit_ready (d : Dev) (r : Reg) (k : Nat) : (d.clearBit r k).ready = d.ready := rfl
@[simp] theorem Dev.clearBit_actTbl (d : Dev) (r : Reg) (k : Nat) : (d.clearBit r k).actTbl = d.actTbl := rfl
@[simp] theorem Dev.clearBit_tbl (d : Dev) (r : Reg) (k : Nat) : (d.clearBit r k).tbl = d.tbl := rfl
@[simp] theorem Dev.clearBit_tblChk (d : Dev) (r : Reg) (k : Nat) : (d.clearBit r k).tblChk = d.tblChk := rfl
@[simp] theorem Dev.clearBit_out (d : Dev) (r : Reg) (k : Nat) : (d.clearBit r k).out = d.out := rfl
@[simp] theorem Dev.clearBit_free (d : Dev) (r : Reg) (k : Nat) : (d.clearBit r k).free = d.free := rfl
@[simp] theorem Dev.clearBit_sys (d : Dev) (r : Reg) (k : Nat) : (d.clearBit r k).sys = d.sys := rfl
@[simp] theorem Dev.clearBit_frd (d : Dev) (r : Reg) (k : Nat) : (d.clearBit r k).frd = d.frd := rfl
@[simp] theorem Dev.clearBit_evt (d : Dev) (r : Reg) (k : Nat) : (d.clearBit r k).evt = d.evt := rfl
@[simp] theorem Dev.clearBit_sht (d : Dev) (r : Reg) (k : Nat) : (d.clearBit r k).sht = d.sht := rfl
@[simp] theorem Dev.clearBit_flt (d : Dev) (r : Reg) (k : Nat) : (d.clearBit r k).flt = d.flt := rfl
@[simp] theorem Dev.clearBit_host (d : Dev) (r : Reg) (k : Nat) : (d.clearBit r k).host = d.host := rfl
@[simp] theorem Dev.clearBit_ch (d : Dev) (r : Reg) (k : Nat) : (d.clearBit r k).ch = d.ch := rfl
@[simp] theorem Dev.clearBit_bld (d : Dev) (r : Reg) (k : Nat) : (d.clearBit r k).bld = d.bld := rfl
@[simp] theorem Dev.clearBit_dcb (d : Dev) (r : Reg) (k : Nat) : (d.clearBit r k).dcb = d.dcb := rfl
@[simp] theorem Dev.clearBit_stp (d : Dev) (r : Reg) (k : Nat) : (d.clearBit r k).stp = d.stp := rfl
@[simp] theorem Dev.clearBit_inp (d : Dev) (r : Reg) (k : Nat) : (d.clearBit r k).inp = d.inp := rfl
@[simp] theorem Dev.clearBit_loop (d : Dev) (r : Reg) (k : Nat) : (d.clearBit r k).loop = d.loop := rfl
@[simp] theorem Dev.clearBit_outU (d : Dev) (r : Reg) (k : Nat) : (d.clearBit r k).outU = d.outU := rfl
@[simp] theorem Dev.clearBit_twn (d : Dev) (r : Reg) (k : Nat) : (d.clearBit r k).twn = d.twn := rfl
@[simp] theorem Dev.clearBit_memx (d : Dev) (r : Reg) (k : Nat) : (d.clearBit r k).memx = d.memx := rfl
@[simp] theorem Dev.clearBit_dmaq (d : Dev) (r : Reg) (k : Nat) : (d.clearBit r k).dmaq = d.dmaq := rfl
@[simp] theorem Dev.clearBit_dmaLast (d : Dev) (r : Reg) (k : Nat) : (d.clearBit r k).dmaLast = d.dmaLast := rfl
@[simp] theorem Dev.clearBit_rng (d : Dev) (r : Reg) (k : Nat) : (d.clearBit r k).rng = d.rng := rfl
@[simp] theorem Dev.clearBit_tblMark (d : Dev) (r : Reg) (k : Nat) : (d.clearBit r k).tblMark = d.tblMark := rfl
@[simp] theorem Dev.clearBit_tmp (d : Dev) (r : Reg) (k : Nat) : (d.clearBit r k).tmp = d.tmp := rfl
@[simp] theorem Dev.clearBit_clk (d : Dev) (r : Reg) (k : Nat) : (d.clearBit r k).clk = d.clk := rfl
@[simp] theorem Dev.clearBit_pwr (d : Dev) (r : Reg) (k : Nat) : (d.clearBit r k).pwr = d.pwr := rfl
@[simp] theorem Dev.clearBit_cal (d : Dev) (r : Reg) (k : Nat) : (d.clearBit r k).cal = d.cal := rfl
@[simp] theorem Dev.clearBit_lg (d : Dev) (r : Reg) (k : Nat) : (d.clearBit r k).lg = d.lg := rfl

/-! ### resetRegs -/

@[simp] theorem Dev.resetRegs_regs (d : Dev) (lo hi : Nat) : (d.resetRegs lo hi).regs = d.regs.dropRange lo hi := rfl
@[simp] theorem Dev.resetRegs_active (d : Dev) (lo hi : Nat) : (d.resetRegs lo hi).active = d.active := rfl
@[simp] theorem Dev.resetRegs_ready (d : Dev) (lo hi : Nat) : (d.resetRegs lo hi).ready = d.ready := rfl
@[simp] theorem Dev.resetRegs_actTbl (d : Dev) (lo hi : Nat) : (d.resetRegs lo hi).actTbl = d.actTbl := rfl
@[simp] theorem Dev.resetRegs_tbl (d : Dev) (lo hi : Nat) : (d.resetRegs lo hi).tbl = d.tbl := rfl
@[simp] theorem Dev.resetRegs_tblChk (d : Dev) (lo hi : Nat) : (d.resetRegs lo hi).tblChk = d.tblChk := rfl
@[simp] theorem Dev.resetRegs_out (d : Dev) (lo hi : Nat) : (d.resetRegs lo hi).out = d.out := rfl
@[simp] theorem Dev.resetRegs_free (d : Dev) (lo hi : Nat) : (d.resetRegs lo hi).free = d.free := rfl
@[simp] theorem Dev.resetRegs_sys (d : Dev) (lo hi : Nat) : (d.resetRegs lo hi).sys = d.sys := rfl
@[simp] theorem Dev.resetRegs_frd (d : Dev) (lo hi : Nat) : (d.resetRegs lo hi).frd = d.frd := rfl
@[simp] theorem Dev.resetRegs_evt (d : Dev) (lo hi : Nat) : (d.resetRegs lo hi).evt = d.evt := rfl
@[simp] theorem Dev.resetRegs_sht (d : Dev) (lo hi : Nat) : (d.resetRegs lo hi).sht = d.sht := rfl
@[simp] theorem Dev.resetRegs_flt (d : Dev) (lo hi : Nat) : (d.resetRegs lo hi).flt = d.flt := rfl
@[simp] theorem Dev.resetRegs_host (d : Dev) (lo hi : Nat) : (d.resetRegs lo hi).host = d.host := rfl
@[simp] theorem Dev.resetRegs_ch (d : Dev) (lo hi : Nat) : (d.resetRegs lo hi).ch = d.ch := rfl
@[simp] theorem Dev.resetRegs_bld (d : Dev) (lo hi : Nat) : (d.resetRegs lo hi).bld = d.bld := rfl
@[simp] theorem Dev.resetRegs_dcb (d : Dev) (lo hi : Nat) : (d.resetRegs lo hi).dcb = d.dcb := rfl
@[simp] theorem Dev.resetRegs_stp (d : Dev) (lo hi : Nat) : (d.resetRegs lo hi).stp = d.stp := rfl
@[simp] theorem Dev.resetRegs_inp (d : Dev) (lo hi : Nat) : (d.resetRegs lo hi).inp = d.inp := rfl
@[simp] theorem Dev.resetRegs_loop (d : Dev) (lo hi : Nat) : (d.resetRegs lo hi).loop = d.loop := rfl
@[simp] theorem Dev.resetRegs_outU (d : Dev) (lo hi : Nat) : (d.resetRegs lo hi).outU = d.outU := rfl
@[simp] theorem Dev.resetRegs_twn (d : Dev) (lo hi : Nat) : (d.resetRegs lo hi).twn = d.twn := rfl
@[simp] theorem Dev.resetRegs_memx (d : Dev) (lo hi : Nat) : (d.resetRegs lo hi).memx = d.memx := rfl
@[simp] theorem Dev.resetRegs_dmaq (d : Dev) (lo hi : Nat) : (d.resetRegs lo hi).dmaq = d.dmaq := rfl
@[simp] theorem Dev.resetRegs_dmaLast (d : Dev) (lo hi : Nat) : (d.resetRegs lo hi).dmaLast = d.dmaLast := rfl
@[simp] theorem Dev.resetRegs_rng (d : Dev) (lo hi : Nat) : (d.resetRegs lo hi).rng = d.rng := rfl
@[simp] theorem Dev.resetRegs_tblMark (d : Dev) (lo hi : Nat) : (d.resetRegs lo hi).tblMark = d.tblMark := rfl
@[simp] theorem Dev.resetRegs_tmp (d : Dev) (lo hi : Nat) : (d.resetRegs lo hi).tmp = d.tmp := rfl
@[simp] theorem Dev.resetRegs_clk (d : Dev) (lo hi : Nat) : (d.resetRegs lo hi).clk = d.clk := rfl
@[simp] theorem Dev.resetRegs_pwr (d : Dev) (lo hi : Nat) : (d.resetRegs lo hi).pwr = d.pwr := rfl
@[simp] theorem Dev.resetRegs_cal (d : Dev) (lo hi : Nat) : (d.resetRegs lo hi).cal = d.cal := rfl
@[simp] theorem Dev.resetRegs_lg (d : Dev) (lo hi : Nat) : (d.resetRegs lo hi).lg = d.lg := rfl

/-! ### emit -/

@[simp] theorem Dev.emit_regs (d : Dev) (o : Out) : (d.emit o).regs = d.regs := rfl
@[simp] theorem Dev.emit_active (d : Dev) (o : Out) : (d.emit o).active = d.active := rfl
@[simp] theorem Dev.emit_ready (d : Dev) (o : Out) : (d.emit o).ready = d.ready := rfl
@[simp] theorem Dev.emit_actTbl (d : Dev) (o : Out) : (d.emit o).actTbl = d.actTbl := rfl
@[simp] theorem Dev.emit_tbl (d : Dev) (o : Out) : (d.emit o).tbl = d.tbl := rfl
@[simp] theorem Dev.emit_tblChk (d : Dev) (o : Out) : (d.emit o).tblChk = d.tblChk := rfl
@[simp] theorem Dev.emit_out (d : Dev) (o : Out) : (d.emit o).out = o :: d.out := rfl
@[simp] theorem Dev.emit_free (d : Dev) (o : Out) : (d.emit o).free = d.free := rfl
@[simp] theorem Dev.emit_sys (d : Dev) (o : Out) : (d.emit o).sys = d.sys := rfl
@[simp] theorem Dev.emit_frd (d : Dev) (o : Out) : (d.emit o).frd = d.frd := rfl
@[simp] theorem Dev.emit_evt (d : Dev) (o : Out) : (d.emit o).evt = d.evt := rfl
@[simp] theorem Dev.emit_sht (d : Dev) (o : Out) : (d.emit o).sht = d.sht := rfl
@[simp] theorem Dev.emit_flt (d : Dev) (o : Out) : (d.emit o).flt = d.flt := rfl
@[simp] theorem Dev.emit_host (d : Dev) (o : Out) : (d.emit o).host = d.host := rfl
@[simp] theorem Dev.emit_ch (d : Dev) (o : Out) : (d.emit o).ch = d.ch := rfl
@[simp] theorem Dev.emit_bld (d : Dev) (o : Out) : (d.emit o).bld = d.bld := rfl
@[simp] theorem Dev.emit_dcb (d : Dev) (o : Out) : (d.emit o).dcb = d.dcb := rfl
@[simp] theorem Dev.emit_stp (d : Dev) (o : Out) : (d.emit o).stp = d.stp := rfl
@[simp] theorem Dev.emit_inp (d : Dev) (o : Out) : (d.emit o).inp = d.inp := rfl
@[simp] theorem Dev.emit_loop (d : Dev) (o : Out) : (d.emit o).loop = d.loop := rfl
@[simp] theorem Dev.emit_outU (d : Dev) (o : Out) : (d.emit o).outU = d.outU := rfl
@[simp] theorem Dev.emit_twn (d : Dev) (o : Out) : (d.emit o).twn = d.twn := rfl
@[simp] theorem Dev.emit_memx (d : Dev) (o : Out) : (d.emit o).memx = d.memx := rfl
@[simp] theorem Dev.emit_dmaq (d : Dev) (o : Out) : (d.emit o).dmaq = d.dmaq := rfl
@[simp] theorem Dev.emit_dmaLast (d : Dev) (o : Out) : (d.emit o).dmaLast = d.dmaLast := rfl
@[simp] theorem Dev.emit_rng (d : Dev) (o : Out) : (d.emit o).rng = d.rng := rfl
@[simp] theorem Dev.emit_tblMark (d : Dev) (o : Out) : (d.emit o).tblMark = d.tblMark := rfl
@[simp] theorem Dev.emit_tmp (d : Dev) (o : Out) : (d.emit o).tmp = d.tmp := rfl
@[simp] theorem Dev.emit_clk (d : Dev) (o : Out) : (d.emit o).clk = d.clk := rfl
@[simp] theorem Dev.emit_pwr (d : Dev) (o : Out) : (d.emit o).pwr = d.pwr := rfl
@[simp] theorem Dev.emit_cal (d : Dev) (o : Out) : (d.emit o).cal = d.cal := rfl
@[simp] theorem Dev.emit_lg (d : Dev) (o : Out) : (d.emit o).lg = d.lg := rfl

/-! ### setReady -/

@[simp] theorem Dev.setReady_regs (d : Dev) (c : Reg) (b : Bool) : (d.setReady c b).regs = d.regs := rfl
@[simp] theorem Dev.setReady_active (d : Dev) (c : Reg) (b : Bool) : (d.setReady c b).active = d.active := rfl
@[simp] theorem Dev.setReady_ready (d : Dev) (c : Reg) (b : Bool) : (d.setReady c b).ready = Store.set false d.ready c.off b := rfl
@[simp] theorem Dev.setReady_actTbl (d : Dev) (c : Reg) (b : Bool) : (d.setReady c b).actTbl = d.actTbl := rfl
@[simp] theorem Dev.setReady_tbl (d : Dev) (c : Reg) (b : Bool) : (d.setReady c b).tbl = d.tbl := rfl
@[simp] theorem Dev.setReady_tblChk (d : Dev) (c : Reg) (b : Bool) : (d.setReady c b).tblChk = d.tblChk := rfl
@[simp] theorem Dev.setReady_out (d : Dev) (c : Reg) (b : Bool) : (d.setReady c b).out = d.out := rfl
@[simp] theorem Dev.setReady_free (d : Dev) (c : Reg) (b : Bool) : (d.setReady c b).free = d.free := rfl
@[simp] theorem Dev.setReady_sys (d : Dev) (c : Reg) (b : Bool) : (d.setReady c b).sys = d.sys := rfl
@[simp] theorem Dev.setReady_frd (d : Dev) (c : Reg) (b : Bool) : (d.setReady c b).frd = d.frd := rfl
@[simp] theorem Dev.setReady_evt (d : Dev) (c : Reg) (b : Bool) : (d.setReady c b).evt = d.evt := rfl
@[simp] theorem Dev.setReady_sht (d : Dev) (c : Reg) (b : Bool) : (d.setReady c b).sht = d.sht := rfl
@[simp] theorem Dev.setReady_flt (d : Dev) (c : Reg) (b : Bool) : (d.setReady c b).flt = d.flt := rfl
@[simp] theorem Dev.setReady_host (d : Dev) (c : Reg) (b : Bool) : (d.setReady c b).host = d.host := rfl
@[simp] theorem Dev.setReady_ch (d : Dev) (c : Reg) (b : Bool) : (d.setReady c b).ch = d.ch := rfl
@[simp] theorem Dev.setReady_bld (d : Dev) (c : Reg) (b : Bool) : (d.setReady c b).bld = d.bld := rfl
@[simp] theorem Dev.setReady_dcb (d : Dev) (c : Reg) (b : Bool) : (d.setReady c b).dcb = d.dcb := rfl
@[simp] theorem Dev.setReady_stp (d : Dev) (c : Reg) (b : Bool) : (d.setReady c b).stp = d.stp := rfl
@[simp] theorem Dev.setReady_inp (d : Dev) (c : Reg) (b : Bool) : (d.setReady c b).inp = d.inp := rfl
@[simp] theorem Dev.setReady_loop (d : Dev) (c : Reg) (b : Bool) : (d.setReady c b).loop = d.loop := rfl
@[simp] theorem Dev.setReady_outU (d : Dev) (c : Reg) (b : Bool) : (d.setReady c b).outU = d.outU := rfl
@[simp] theorem Dev.setReady_twn (d : Dev) (c : Reg) (b : Bool) : (d.setReady c b).twn = d.twn := rfl
@[simp] theorem Dev.setReady_memx (d : Dev) (c : Reg) (b : Bool) : (d.setReady c b).memx = d.memx := rfl
@[simp] theorem Dev.setReady_dmaq (d : Dev) (c : Reg) (b : Bool) : (d.setReady c b).dmaq = d.dmaq := rfl
@[simp] theorem Dev.setReady_dmaLast (d : Dev) (c : Reg) (b : Bool) : (d.setReady c b).dmaLast = d.dmaLast := rfl
@[simp] theorem Dev.setReady_rng (d : Dev) (c : Reg) (b : Bool) : (d.setReady c b).rng = d.rng := rfl
@[simp] theorem Dev.setReady_tblMark (d : Dev) (c : Reg) (b : Bool) : (d.setReady c b).tblMark = d.tblMark := rfl
@[simp] theorem Dev.setReady_tmp (d : Dev) (c : Reg) (b : Bool) : (d.setReady c b).tmp = d.tmp := rfl
@[simp] theorem Dev.setReady_clk (d : Dev) (c : Reg) (b : Bool) : (d.setReady c b).clk = d.clk := rfl
@[simp] theorem Dev.setReady_pwr (d : Dev) (c : Reg) (b : Bool) : (d.setReady c b).pwr = d.pwr := rfl
@[simp] theorem Dev.setReady_cal (d : Dev) (c : Reg) (b : Bool) : (d.setReady c b).cal = d.cal := rfl
@[simp] theorem Dev.setReady_lg (d : Dev) (c : Reg) (b : Bool) : (d.setReady c b).lg = d.lg := rfl

/-! ### activate -/

@[simp] theorem Dev.activate_regs (d : Dev) (r : Reg) : (d.activate r).regs = d.regs := rfl
@[simp] theorem Dev.activate_active (d : Dev) (r : Reg) : (d.activate r).active = Store.set (BitVec.ofNat 64 r.rst) d.active r.off (BitVec.ofNat 64 (d.rd r)) := rfl
@[simp] theorem Dev.activate_ready (d : Dev) (r : Reg) : (d.activate r).ready = d.ready := rfl
@[simp] theorem Dev.activate_actTbl (d : Dev) (r : Reg) : (d.activate r).actTbl = d.actTbl := rfl
@[simp] theorem Dev.activate_tbl (d : Dev) (r : Reg) : (d.activate r).tbl = d.tbl := rfl
@[simp] theorem Dev.activate_tblChk (d : Dev) (r : Reg) : (d.activate r).tblChk = d.tblChk := rfl
@[simp] theorem Dev.activate_out (d : Dev) (r : Reg) : (d.activate r).out = d.out := rfl
@[simp] theorem Dev.activate_free (d : Dev) (r : Reg) : (d.activate r).free = d.free := rfl
@[simp] theorem Dev.activate_sys (d : Dev) (r : Reg) : (d.activate r).sys = d.sys := rfl
@[simp] theorem Dev.activate_frd (d : Dev) (r : Reg) : (d.activate r).frd = d.frd := rfl
@[simp] theorem Dev.activate_evt (d : Dev) (r : Reg) : (d.activate r).evt = d.evt := rfl
@[simp] theorem Dev.activate_sht (d : Dev) (r : Reg) : (d.activate r).sht = d.sht := rfl
@[simp] theorem Dev.activate_flt (d : Dev) (r : Reg) : (d.activate r).flt = d.flt := rfl
@[simp] theorem Dev.activate_host (d : Dev) (r : Reg) : (d.activate r).host = d.host := rfl
@[simp] theorem Dev.activate_ch (d : Dev) (r : Reg) : (d.activate r).ch = d.ch := rfl
@[simp] theorem Dev.activate_bld (d : Dev) (r : Reg) : (d.activate r).bld = d.bld := rfl
@[simp] theorem Dev.activate_dcb (d : Dev) (r : Reg) : (d.activate r).dcb = d.dcb := rfl
@[simp] theorem Dev.activate_stp (d : Dev) (r : Reg) : (d.activate r).stp = d.stp := rfl
@[simp] theorem Dev.activate_inp (d : Dev) (r : Reg) : (d.activate r).inp = d.inp := rfl
@[simp] theorem Dev.activate_loop (d : Dev) (r : Reg) : (d.activate r).loop = d.loop := rfl
@[simp] theorem Dev.activate_outU (d : Dev) (r : Reg) : (d.activate r).outU = d.outU := rfl
@[simp] theorem Dev.activate_twn (d : Dev) (r : Reg) : (d.activate r).twn = d.twn := rfl
@[simp] theorem Dev.activate_memx (d : Dev) (r : Reg) : (d.activate r).memx = d.memx := rfl
@[simp] theorem Dev.activate_dmaq (d : Dev) (r : Reg) : (d.activate r).dmaq = d.dmaq := rfl
@[simp] theorem Dev.activate_dmaLast (d : Dev) (r : Reg) : (d.activate r).dmaLast = d.dmaLast := rfl
@[simp] theorem Dev.activate_rng (d : Dev) (r : Reg) : (d.activate r).rng = d.rng := rfl
@[simp] theorem Dev.activate_tblMark (d : Dev) (r : Reg) : (d.activate r).tblMark = d.tblMark := rfl
@[simp] theorem Dev.activate_tmp (d : Dev) (r : Reg) : (d.activate r).tmp = d.tmp := rfl
@[simp] theorem Dev.activate_clk (d : Dev) (r : Reg) : (d.activate r).clk = d.clk := rfl
@[simp] theorem Dev.activate_pwr (d : Dev) (r : Reg) : (d.activate r).pwr = d.pwr := rfl
@[simp] theorem Dev.activate_cal (d : Dev) (r : Reg) : (d.activate r).cal = d.cal := rfl
@[simp] theorem Dev.activate_lg (d : Dev) (r : Reg) : (d.activate r).lg = d.lg := rfl

/-! ### tally -/

@[simp] theorem Dev.tally_regs (d : Dev) (r : SlotRec) : (d.tally r).regs = d.regs := rfl
@[simp] theorem Dev.tally_active (d : Dev) (r : SlotRec) : (d.tally r).active = d.active := rfl
@[simp] theorem Dev.tally_ready (d : Dev) (r : SlotRec) : (d.tally r).ready = d.ready := rfl
@[simp] theorem Dev.tally_actTbl (d : Dev) (r : SlotRec) : (d.tally r).actTbl = d.actTbl := rfl
@[simp] theorem Dev.tally_tbl (d : Dev) (r : SlotRec) : (d.tally r).tbl = d.tbl := rfl
@[simp] theorem Dev.tally_tblChk (d : Dev) (r : SlotRec) : (d.tally r).tblChk = d.tblChk := rfl
@[simp] theorem Dev.tally_out (d : Dev) (r : SlotRec) : (d.tally r).out = d.out := rfl
@[simp] theorem Dev.tally_free (d : Dev) (r : SlotRec) : (d.tally r).free = d.free := rfl
@[simp] theorem Dev.tally_sys (d : Dev) (r : SlotRec) : (d.tally r).sys = d.sys := rfl
@[simp] theorem Dev.tally_frd (d : Dev) (r : SlotRec) : (d.tally r).frd = d.frd := rfl
@[simp] theorem Dev.tally_evt (d : Dev) (r : SlotRec) : (d.tally r).evt = { d.evt with recs := d.evt.recs ++ [(d.slot, r)] } := rfl
@[simp] theorem Dev.tally_sht (d : Dev) (r : SlotRec) : (d.tally r).sht = d.sht := rfl
@[simp] theorem Dev.tally_flt (d : Dev) (r : SlotRec) : (d.tally r).flt = d.flt := rfl
@[simp] theorem Dev.tally_host (d : Dev) (r : SlotRec) : (d.tally r).host = d.host := rfl
@[simp] theorem Dev.tally_ch (d : Dev) (r : SlotRec) : (d.tally r).ch = d.ch := rfl
@[simp] theorem Dev.tally_bld (d : Dev) (r : SlotRec) : (d.tally r).bld = d.bld := rfl
@[simp] theorem Dev.tally_dcb (d : Dev) (r : SlotRec) : (d.tally r).dcb = d.dcb := rfl
@[simp] theorem Dev.tally_stp (d : Dev) (r : SlotRec) : (d.tally r).stp = d.stp := rfl
@[simp] theorem Dev.tally_inp (d : Dev) (r : SlotRec) : (d.tally r).inp = d.inp := rfl
@[simp] theorem Dev.tally_loop (d : Dev) (r : SlotRec) : (d.tally r).loop = d.loop := rfl
@[simp] theorem Dev.tally_outU (d : Dev) (r : SlotRec) : (d.tally r).outU = d.outU := rfl
@[simp] theorem Dev.tally_twn (d : Dev) (r : SlotRec) : (d.tally r).twn = d.twn := rfl
@[simp] theorem Dev.tally_memx (d : Dev) (r : SlotRec) : (d.tally r).memx = d.memx := rfl
@[simp] theorem Dev.tally_dmaq (d : Dev) (r : SlotRec) : (d.tally r).dmaq = d.dmaq := rfl
@[simp] theorem Dev.tally_dmaLast (d : Dev) (r : SlotRec) : (d.tally r).dmaLast = d.dmaLast := rfl
@[simp] theorem Dev.tally_rng (d : Dev) (r : SlotRec) : (d.tally r).rng = d.rng := rfl
@[simp] theorem Dev.tally_tblMark (d : Dev) (r : SlotRec) : (d.tally r).tblMark = d.tblMark := rfl
@[simp] theorem Dev.tally_tmp (d : Dev) (r : SlotRec) : (d.tally r).tmp = d.tmp := rfl
@[simp] theorem Dev.tally_clk (d : Dev) (r : SlotRec) : (d.tally r).clk = d.clk := rfl
@[simp] theorem Dev.tally_pwr (d : Dev) (r : SlotRec) : (d.tally r).pwr = d.pwr := rfl
@[simp] theorem Dev.tally_cal (d : Dev) (r : SlotRec) : (d.tally r).cal = d.cal := rfl
@[simp] theorem Dev.tally_lg (d : Dev) (r : SlotRec) : (d.tally r).lg = d.lg := rfl

/-! ### Updates that touch no register leave every register -/

@[simp] theorem Dev.rd_emit (d : Dev) (o : Out) (r : Reg) : (d.emit o).rd r = d.rd r := rfl
@[simp] theorem Dev.rd_setReady (d : Dev) (c : Reg) (b : Bool) (r : Reg) : (d.setReady c b).rd r = d.rd r := rfl
@[simp] theorem Dev.rd_activate (d : Dev) (q r : Reg) : (d.activate q).rd r = d.rd r := rfl
@[simp] theorem Dev.rd_tally (d : Dev) (x : SlotRec) (r : Reg) : (d.tally x).rd r = d.rd r := rfl
@[simp] theorem Dev.act_wr (d : Dev) (q : Reg) (v : Nat) (r : Reg) : (d.wr q v).act r = d.act r := rfl
@[simp] theorem Dev.act_put (d : Dev) (f : Fld) (v : Nat) (r : Reg) : (d.put f v).act r = d.act r := rfl
@[simp] theorem Dev.act_emit (d : Dev) (o : Out) (r : Reg) : (d.emit o).act r = d.act r := rfl
@[simp] theorem Dev.act_tally (d : Dev) (x : SlotRec) (r : Reg) : (d.tally x).act r = d.act r := rfl
@[simp] theorem Dev.tw_wr (d : Dev) (q : Reg) (v : Nat) (o : Nat) : (d.wr q v).tw o = d.tw o := rfl
@[simp] theorem Dev.tw_put (d : Dev) (f : Fld) (v : Nat) (o : Nat) : (d.put f v).tw o = d.tw o := rfl

end Sys2Proof.Machine
end

