-- ==== Sys2Proof/Laws/Store.lean ====
section
/-! SUPPORT. Laws of the sparse stores and of bit fields. -/

namespace Sys2Proof.Machine

/-! ### Stores -/

theorem Store.get_ins_same {β : Type} (dflt : β) (m : Store β) (k : Nat) (v : β) : Store.get dflt (Store.ins m k v) k = v := by
  induction m with
  | nil => simp [Store.ins, Store.get]
  | cons p m ih =>
    obtain ⟨a, b⟩ := p
    unfold Store.ins
    split
    · simp [Store.get]
    · split
      · simp [Store.get]
      · next h => simp [Store.get, h, ih]

theorem Store.get_ins_ne {β : Type} (dflt : β) (m : Store β) (k j : Nat) (v : β) (h : j ≠ k) :
    Store.get dflt (Store.ins m k v) j = Store.get dflt m j := by
  induction m with
  | nil => simp [Store.ins, Store.get, h]
  | cons p m ih =>
    obtain ⟨a, b⟩ := p
    unfold Store.ins
    split
    · simp [Store.get, h]
    · split
      · next e => subst e; simp [Store.get, h]
      · simp only [Store.get, ih]

theorem Store.get_drop_same {β : Type} (dflt : β) (m : Store β) (k : Nat) :
    Store.get dflt (m.filter fun p => !(p.1 == k)) k = dflt := by
  induction m with
  | nil => rfl
  | cons p m ih =>
    obtain ⟨a, b⟩ := p
    by_cases h : a = k
    · simp [h, ih]
    · have h' : ¬ k = a := fun e => h e.symm
      simp [h, h', Store.get, ih]

theorem Store.get_drop_ne {β : Type} (dflt : β) (m : Store β) (k j : Nat) (h : j ≠ k) :
    Store.get dflt (m.filter fun p => !(p.1 == k)) j = Store.get dflt m j := by
  induction m with
  | nil => rfl
  | cons p m ih =>
    obtain ⟨a, b⟩ := p
    by_cases e : a = k
    · subst e; simp [Store.get, h, ih]
    · simp [e, Store.get, ih]

/-- A key just written reads as what was written, whatever the store holds. -/
@[simp] theorem Store.get_set_same {β : Type} [DecidableEq β] (dflt : β) (m : Store β) (k : Nat) (v : β) :
    Store.get dflt (Store.set dflt m k v) k = v := by
  unfold Store.set
  split
  · next h => subst h; exact Store.get_drop_same _ _ _
  · exact Store.get_ins_same _ _ _ _

/-- Writing one key leaves every other key as it was. -/
theorem Store.get_set_ne {β : Type} [DecidableEq β] (e dflt : β) (m : Store β) (k j : Nat) (v : β) (h : j ≠ k) :
    Store.get e (Store.set dflt m k v) j = Store.get e m j := by
  unfold Store.set
  split
  · exact Store.get_drop_ne _ _ _ _ h
  · exact Store.get_ins_ne _ _ _ _ _ h

/-- A dropped key reads as its default, the others as before. -/
theorem Store.get_dropRange {β : Type} (dflt : β) (m : Store β) (lo hi k : Nat) :
    Store.get dflt (m.dropRange lo hi) k = if lo ≤ k ∧ k < hi then dflt else Store.get dflt m k := by
  induction m with
  | nil => simp [Store.dropRange, Store.get]
  | cons p m ih =>
    obtain ⟨a, b⟩ := p
    unfold Store.dropRange at ih ⊢
    by_cases h : a < lo ∨ hi ≤ a
    · have h' : (decide (a < lo) || decide (hi ≤ a)) = true := by simpa using h
      rw [List.filter_cons, if_pos h']
      by_cases e : k = a
      · have : ¬ (lo ≤ k ∧ k < hi) := by omega
        simp [Store.get, e]; omega
      · simp [Store.get, e, ih]
    · have h' : ¬ (decide (a < lo) || decide (hi ≤ a)) = true := by simpa using h
      rw [List.filter_cons, if_neg h']
      by_cases e : k = a
      · have : lo ≤ k ∧ k < hi := by omega
        rw [ih]; simp [this]
      · simp [Store.get, e, ih]

/-! ### The canonical form -/

theorem Store.wf_cons {β : Type} [DecidableEq β] (dflt : β) (p : Nat × β) (m : Store β) :
    Store.wf dflt (p :: m) = true ↔ p.2 ≠ dflt ∧ (∀ q ∈ m, p.1 < q.1) ∧ Store.wf dflt m = true := by
  induction m generalizing p with
  | nil => simp [Store.wf]
  | cons q m ih =>
    obtain ⟨a, b⟩ := p
    obtain ⟨a', b'⟩ := q
    have := ih (a', b')
    constructor
    · intro h
      have h' : (b ≠ dflt ∧ a < a') ∧ Store.wf dflt ((a', b') :: m) = true := by simpa [Store.wf] using h
      refine ⟨h'.1.1, ?_, h'.2⟩
      intro r hr
      rcases List.mem_cons.1 hr with rfl | hr
      · exact h'.1.2
      · exact lt_trans h'.1.2 ((this.1 h'.2).2.1 r hr)
    · rintro ⟨h1, h2, h3⟩
      have : a < a' := h2 (a', b') (by simp)
      simpa [Store.wf] using ⟨⟨h1, this⟩, h3⟩

theorem Store.wf_filter {β : Type} [DecidableEq β] (dflt : β) (m : Store β) (f : Nat × β → Bool)
    (h : Store.wf dflt m = true) : Store.wf dflt (m.filter f) = true := by
  induction m with
  | nil => simpa using h
  | cons p m ih =>
    obtain ⟨h1, h2, h3⟩ := (Store.wf_cons dflt p m).1 h
    rw [List.filter_cons]
    split
    · exact (Store.wf_cons dflt p _).2 ⟨h1, fun q hq => h2 q (List.mem_of_mem_filter hq), ih h3⟩
    · exact ih h3

theorem Store.mem_ins {β : Type} (m : Store β) (k : Nat) (v : β) (q : Nat × β) (h : q ∈ Store.ins m k v) :
    q = (k, v) ∨ q ∈ m := by
  induction m with
  | nil => simpa [Store.ins] using h
  | cons p m ih =>
    obtain ⟨a, b⟩ := p
    unfold Store.ins at h
    split at h
    · simpa using h
    · split at h
      · rcases List.mem_cons.1 h with h | h
        · exact .inl h
        · exact .inr (List.mem_cons_of_mem _ h)
      · rcases List.mem_cons.1 h with h | h
        · exact .inr (by simp [h])
        · rcases ih h with h | h
          · exact .inl h
          · exact .inr (List.mem_cons_of_mem _ h)

theorem Store.wf_ins {β : Type} [DecidableEq β] (dflt : β) (m : Store β) (k : Nat) (v : β) (hv : v ≠ dflt)
    (h : Store.wf dflt m = true) : Store.wf dflt (Store.ins m k v) = true := by
  induction m with
  | nil => simp [Store.ins, Store.wf, hv]
  | cons p m ih =>
    obtain ⟨a, b⟩ := p
    obtain ⟨h1, h2, h3⟩ := (Store.wf_cons dflt (a, b) m).1 h
    unfold Store.ins
    split
    · next hk =>
      refine (Store.wf_cons dflt _ _).2 ⟨hv, ?_, h⟩
      intro q hq
      rcases List.mem_cons.1 hq with rfl | hq
      · exact hk
      · exact lt_trans hk (h2 q hq)
    · split
      · next hk => subst hk; exact (Store.wf_cons dflt _ _).2 ⟨hv, h2, h3⟩
      · refine (Store.wf_cons dflt _ _).2 ⟨h1, ?_, ih h3⟩
        intro q hq
        rcases Store.mem_ins m k v q hq with rfl | hq
        · show a < k; omega
        · exact h2 q hq

/-- A write keeps the canonical form. -/
theorem Store.wf_set {β : Type} [DecidableEq β] (dflt : β) (m : Store β) (k : Nat) (v : β)
    (h : Store.wf dflt m = true) : Store.wf dflt (Store.set dflt m k v) = true := by
  unfold Store.set
  split
  · exact Store.wf_filter dflt m _ h
  · next hv => exact Store.wf_ins dflt m k v hv h

/-! ### Bit fields -/

theorem testBit_bits (v hi lo i : Nat) : (bits v hi lo).testBit i = (decide (i < hi + 1 - lo) && v.testBit (lo + i)) := by
  simp [bits, Nat.testBit_mod_two_pow, Nat.testBit_shiftRight]

theorem testBit_putBits (v hi lo x i : Nat) (h : lo ≤ hi) :
    (putBits v hi lo x).testBit i =
      if i < lo then v.testBit i else if i ≤ hi then x.testBit (i - lo) else v.testBit i := by
  have e : putBits v hi lo x =
      2 ^ lo * (2 ^ (hi + 1 - lo) * (v >>> (hi + 1)) + x % 2 ^ (hi + 1 - lo)) + v % 2 ^ lo := by
    have : 2 ^ (hi + 1) = 2 ^ lo * 2 ^ (hi + 1 - lo) := by rw [← pow_add]; congr 1; omega
    simp only [putBits, Nat.shiftLeft_eq, this]; ring
  rw [e, Nat.testBit_two_pow_mul_add _ (Nat.mod_lt _ (by positivity))]
  split
  · next h1 => simp [Nat.testBit_mod_two_pow, h1]
  · next h1 =>
    rw [Nat.testBit_two_pow_mul_add _ (Nat.mod_lt _ (by positivity))]
    by_cases h2 : i ≤ hi
    · have : i - lo < hi + 1 - lo := by omega
      simp [h2, this, Nat.testBit_mod_two_pow]
    · have : ¬ i - lo < hi + 1 - lo := by omega
      have e2 : hi + 1 + (i - lo - (hi + 1 - lo)) = i := by omega
      simp [h2, this, Nat.testBit_shiftRight, e2]

/-- A field just put reads as the low bits of what was put. -/
theorem bits_putBits_same (v hi lo x : Nat) (h : lo ≤ hi) : bits (putBits v hi lo x) hi lo = x % 2 ^ (hi + 1 - lo) := by
  apply Nat.eq_of_testBit_eq; intro i
  rw [testBit_bits, testBit_putBits _ _ _ _ _ h, Nat.testBit_mod_two_pow]
  by_cases h1 : i < hi + 1 - lo
  · have a : ¬ lo + i < lo := by omega
    have b : lo + i ≤ hi := by omega
    simp [h1, b]
  · simp [h1]

/-- Putting one field leaves a field that shares no bit with it. -/
theorem bits_putBits_ne (v hi lo x hi' lo' : Nat) (h : lo ≤ hi) (d : hi' < lo ∨ hi < lo') :
    bits (putBits v hi lo x) hi' lo' = bits v hi' lo' := by
  apply Nat.eq_of_testBit_eq; intro i
  rw [testBit_bits, testBit_bits, testBit_putBits _ _ _ _ _ h]
  by_cases h1 : i < hi' + 1 - lo'
  · rcases d with d | d
    · have a : lo' + i < lo := by omega
      simp [a]
    · have a : ¬ lo' + i < lo := by omega
      have b : ¬ lo' + i ≤ hi := by omega
      simp [a, b]
  · simp [h1]

theorem putBits_lt (v hi lo x w : Nat) (h : lo ≤ hi) (hw : hi < w) (hv : v < 2 ^ w) : putBits v hi lo x < 2 ^ w := by
  apply Nat.lt_pow_two_of_testBit
  intro i hi'
  rw [testBit_putBits _ _ _ _ _ h]
  have a : ¬ i < lo := by omega
  have b : ¬ i ≤ hi := by omega
  simp only [a, b, if_false]
  exact Nat.testBit_lt_two_pow (lt_of_lt_of_le hv (Nat.pow_le_pow_right (by norm_num) hi'))

/-- A field below bit w is not touched by dropping the bits from w up. -/
theorem bits_mod (v w hi lo : Nat) (h : hi < w) : bits (v % 2 ^ w) hi lo = bits v hi lo := by
  apply Nat.eq_of_testBit_eq; intro i
  rw [testBit_bits, testBit_bits, Nat.testBit_mod_two_pow]
  by_cases h1 : i < hi + 1 - lo
  · have : lo + i < w := by omega
    simp [this]
  · simp [h1]

theorem bits_lt (v hi lo : Nat) : bits v hi lo < 2 ^ (hi + 1 - lo) := Nat.mod_lt _ (by positivity)

theorem bit_eq_testBit (v k : Nat) : bit v k = v.testBit k := by
  simp [bit, Nat.testBit, Nat.and_comm 1, Nat.and_one_is_mod, Nat.shiftRight_eq_div_pow]
  rcases Nat.mod_two_eq_zero_or_one (v / 2 ^ k) with h | h <;> simp [h]

@[simp] theorem b2n_true : b2n true = 1 := rfl
@[simp] theorem b2n_false : b2n false = 0 := rfl
theorem b2n_lt (b : Bool) : b2n b < 2 := by cases b <;> decide

/-- A bit just put reads as the truth value put. -/
theorem bit_putBits_same (v k : Nat) (b : Bool) : bit (putBits v k k (b2n b)) k = b := by
  rw [bit_eq_testBit, testBit_putBits _ _ _ _ _ le_rfl]; cases b <;> simp

/-- Putting a field leaves a bit outside it. -/
theorem bit_putBits_ne (v hi lo x k : Nat) (h : lo ≤ hi) (d : k < lo ∨ hi < k) : bit (putBits v hi lo x) k = bit v k := by
  rw [bit_eq_testBit, bit_eq_testBit, testBit_putBits _ _ _ _ _ h]
  rcases d with d | d
  · simp [d]
  · have a : ¬ k < lo := by omega
    have b : ¬ k ≤ hi := by omega
    simp [a, b]

theorem bit_mod (v w k : Nat) (h : k < w) : bit (v % 2 ^ w) k = bit v k := by
  rw [bit_eq_testBit, bit_eq_testBit, Nat.testBit_mod_two_pow]; simp [h]

end Sys2Proof.Machine
end

