-- ==== Sys2Proof/Laws/Registers.lean ====
section
/-! SUPPORT. Laws of registers and fields: what reads back after a write, and what a write leaves. -/

namespace Sys2Proof.Machine

/-- A field of at least one bit inside a register of at most 64 bits. -/
def Fld.ok (f : Fld) : Bool := decide (f.lo ≤ f.hi) && (decide (f.hi < f.reg.w) && decide (f.reg.w ≤ 64))

theorem Dev.rd_lt (d : Dev) (r : Reg) : d.rd r < 2 ^ 64 := (Store.get (BitVec.ofNat 64 r.rst) d.regs r.off).isLt

theorem Dev.rd_wr_same (d : Dev) (r : Reg) (v : Nat) : (d.wr r v).rd r = v % 2 ^ r.w % 2 ^ 64 := by
  simp [Dev.rd, Dev.wr]

theorem Dev.rd_wr_ne (d : Dev) (r q : Reg) (v : Nat) (h : q.off ≠ r.off) : (d.wr r v).rd q = d.rd q := by
  simp [Dev.rd, Dev.wr, Store.get_set_ne _ _ _ _ _ _ h]

theorem Dev.get_wr_same (d : Dev) (f : Fld) (v : Nat) (hf : f.ok = true) : (d.wr f.reg v).get f = bits v f.hi f.lo := by
  simp only [Fld.ok, Bool.and_eq_true, decide_eq_true_eq] at hf
  rw [Dev.get, Dev.rd_wr_same, bits_mod _ _ _ _ (by omega), bits_mod _ _ _ _ hf.2.1]

theorem Dev.get_wr_ne (d : Dev) (r : Reg) (f : Fld) (v : Nat) (h : f.reg.off ≠ r.off) : (d.wr r v).get f = d.get f := by
  rw [Dev.get, Dev.rd_wr_ne _ _ _ _ h, Dev.get]

theorem Dev.rd_put_ne (d : Dev) (f : Fld) (q : Reg) (v : Nat) (h : q.off ≠ f.reg.off) : (d.put f v).rd q = d.rd q :=
  Dev.rd_wr_ne _ _ _ _ h

/-- A field just put reads as the low bits of what was put. -/
theorem Dev.get_put_same (d : Dev) (f : Fld) (v : Nat) (hf : f.ok = true) : (d.put f v).get f = v % 2 ^ (f.hi + 1 - f.lo) := by
  rw [Dev.put, Dev.get_wr_same _ _ _ hf, bits_putBits_same]
  simp only [Fld.ok, Bool.and_eq_true, decide_eq_true_eq] at hf; exact hf.1

/-- Putting a field leaves the fields of other registers. -/
theorem Dev.get_put_ne (d : Dev) (f g : Fld) (v : Nat) (h : g.reg.off ≠ f.reg.off) : (d.put f v).get g = d.get g :=
  Dev.get_wr_ne _ _ _ _ h

/-- Putting a field leaves the other fields of its register. -/
theorem Dev.get_put_other (d : Dev) (f g : Fld) (v : Nat) (hr : g.reg = f.reg) (hf : f.ok = true) (hg : g.ok = true)
    (h : (decide (g.hi < f.lo) || decide (f.hi < g.lo)) = true) : (d.put f v).get g = d.get g := by
  have e : ((d.wr f.reg (putBits (d.rd f.reg) f.hi f.lo v)).get g) =
      bits (putBits (d.rd f.reg) f.hi f.lo v) g.hi g.lo := by
    rw [← hr]; exact Dev.get_wr_same d g _ hg
  simp only [Fld.ok, Bool.and_eq_true, decide_eq_true_eq] at hf
  rw [Dev.put, e, bits_putBits_ne _ _ _ _ _ _ hf.1 (by simpa using h), Dev.get, hr]

theorem Dev.get_lt (d : Dev) (f : Fld) : d.get f < 2 ^ (f.hi + 1 - f.lo) := bits_lt _ _ _

/-- A one-bit field just given a truth value is set exactly when that is true. -/
theorem Dev.on_putB_same (d : Dev) (f : Fld) (b : Bool) (hf : f.ok = true) : (d.putB f b).on f = b := by
  have h : 2 ≤ 2 ^ (f.hi + 1 - f.lo) := by
    simp only [Fld.ok, Bool.and_eq_true, decide_eq_true_eq] at hf
    calc 2 = 2 ^ 1 := rfl
      _ ≤ _ := Nat.pow_le_pow_right (by norm_num) (by omega)
  rw [Dev.on, Dev.putB, Dev.get_put_same _ _ _ hf, Nat.mod_eq_of_lt (lt_of_lt_of_le (b2n_lt b) h)]
  cases b <;> rfl

theorem Dev.on_put_ne (d : Dev) (f g : Fld) (v : Nat) (h : g.reg.off ≠ f.reg.off) : (d.put f v).on g = d.on g := by
  rw [Dev.on, Dev.get_put_ne _ _ _ _ h, Dev.on]

theorem Dev.on_wr_ne (d : Dev) (r : Reg) (g : Fld) (v : Nat) (h : g.reg.off ≠ r.off) : (d.wr r v).on g = d.on g := by
  rw [Dev.on, Dev.get_wr_ne _ _ _ _ h, Dev.on]

theorem Dev.on_put_other (d : Dev) (f g : Fld) (v : Nat) (hr : g.reg = f.reg) (hf : f.ok = true) (hg : g.ok = true)
    (h : (decide (g.hi < f.lo) || decide (f.hi < g.lo)) = true) : (d.put f v).on g = d.on g := by
  rw [Dev.on, Dev.get_put_other _ _ _ _ hr hf hg h, Dev.on]

/-! ### The saturating and the wrapping counter -/

theorem Dev.get_count_same (d : Dev) (f : Fld) (n : Nat) (hf : f.ok = true) :
    (d.count f n).get f = min (d.get f + n) (2 ^ (f.hi + 1 - f.lo) - 1) := by
  rw [Dev.count, Dev.get_put_same _ _ _ hf, satAdd, Nat.mod_eq_of_lt]
  have : 0 < 2 ^ (f.hi + 1 - f.lo) := by positivity
  omega

theorem Dev.get_countW_same (d : Dev) (f : Fld) (n : Nat) (hf : f.ok = true) :
    (d.countW f n).get f = (d.get f + n) % 2 ^ (f.hi + 1 - f.lo) := by
  rw [Dev.countW, Dev.get_put_same _ _ _ hf]

/-! ### Active copies and table words -/

theorem Dev.act_activate_same (d : Dev) (r : Reg) : (d.activate r).act r = d.rd r := by
  have := d.rd_lt r
  simpa [Dev.act] using this

theorem Dev.act_activate_ne (d : Dev) (r q : Reg) (h : q.off ≠ r.off) : (d.activate r).act q = d.act q := by
  simp [Dev.act, Store.get_set_ne _ _ _ _ _ _ h]

theorem Dev.tw_putTw_same (d : Dev) (o v : Nat) : (d.putTw o v).tw o = v % 2 ^ 64 := by
  simp [Dev.tw, Dev.putTw]

theorem Dev.tw_putTw_ne (d : Dev) (o p v : Nat) (h : p ≠ o) : (d.putTw o v).tw p = d.tw p := by
  simp [Dev.tw, Dev.putTw, Store.get_set_ne _ _ _ _ _ _ h]

/-- A register block returned to reset reads its reset values; everything outside keeps its value. -/
theorem Dev.rd_resetRegs (d : Dev) (lo hi : Nat) (r : Reg) :
    (d.resetRegs lo hi).rd r = if lo ≤ r.off ∧ r.off < hi then r.rst % 2 ^ 64 else d.rd r := by
  simp only [Dev.rd, Dev.resetRegs_regs, Store.get_dropRange]
  split <;> simp

end Sys2Proof.Machine
end

