-- ==== Sys2Proof/Laws/Frame.lean ====
section
/-! SUPPORT. The frame of every shared operation: what it can change, said once. A frame of a composed update is built by
applying these from the outside in. -/

namespace Sys2Proof.Machine

namespace Frame

variable {ps : List Part} {d e f : Dev}

theorem refl : Dev.Frame ps d d := by
  intro p _; cases p <;> simp [Part.kept]

theorem kept_trans {p : Part} (h : p.kept d e) (g : p.kept e f) : p.kept d f := by
  cases p with
  | reg o => intro r hr; exact (g r hr).trans (h r hr)
  | act o => intro r hr; exact (g r hr).trans (h r hr)
  | _ => exact Eq.trans g h

theorem trans (h : Dev.Frame ps d e) (g : Dev.Frame ps e f) : Dev.Frame ps d f :=
  fun p hp => kept_trans (h p hp) (g p hp)

theorem mono {qs : List Part} (h : Dev.Frame ps d e) (hs : ∀ p ∈ ps, p ∈ qs) : Dev.Frame qs d e :=
  fun p hp => h p fun q => hp (hs p q)

/-- What the frame says of one register. -/
theorem rd (h : Dev.Frame ps d e) (r : Reg) (hr : Part.reg r.off ∉ ps) : e.rd r = d.rd r := h (.reg r.off) hr r rfl

theorem get (h : Dev.Frame ps d e) (g : Fld) (hr : Part.reg g.reg.off ∉ ps) : e.get g = d.get g := by
  rw [Dev.get, rd h _ hr, Dev.get]

theorem on (h : Dev.Frame ps d e) (g : Fld) (hr : Part.reg g.reg.off ∉ ps) : e.on g = d.on g := by
  rw [Dev.on, get h _ hr, Dev.on]

theorem ite {c : Prop} [Decidable c] (h : Dev.Frame ps d e) (g : Dev.Frame ps d f) : Dev.Frame ps d (if c then e else f) := by
  split <;> assumption

theorem when {c : Bool} {u : Dev → Dev} (h : Dev.Frame ps d e) (g : Dev.Frame ps d (u e)) : Dev.Frame ps d (e.when c u) := by
  unfold Dev.when; split <;> assumption

theorem each {α : Type} (l : List α) (u : Dev → α → Dev) (hu : ∀ x a, a ∈ l → Dev.Frame ps x (u x a)) (h : Dev.Frame ps d e) :
    Dev.Frame ps d (e.each l u) := by
  unfold Dev.each
  induction l generalizing e with
  | nil => exact h
  | cons a l ih =>
    exact ih (fun x b hb => hu x b (List.mem_cons_of_mem _ hb)) (trans h (hu e a (by simp)))

/-! ### Registers -/

theorem wr (h : Dev.Frame ps d e) (r : Reg) (v : Nat) (hr : Part.reg r.off ∈ ps) : Dev.Frame ps d (e.wr r v) := by
  refine trans h fun p hp => ?_
  cases p with
  | reg o =>
    intro q hq
    exact Dev.rd_wr_ne _ _ _ _ fun c => hp (by rw [← hq, c]; exact hr)
  | act o => intro q _; rfl
  | _ => rfl

theorem put (h : Dev.Frame ps d e) (g : Fld) (v : Nat) (hr : Part.reg g.reg.off ∈ ps) : Dev.Frame ps d (e.put g v) := wr h _ _ hr
theorem putB (h : Dev.Frame ps d e) (g : Fld) (b : Bool) (hr : Part.reg g.reg.off ∈ ps) : Dev.Frame ps d (e.putB g b) := wr h _ _ hr
theorem putBit (h : Dev.Frame ps d e) (g : Fld) (k : Nat) (b : Bool) (hr : Part.reg g.reg.off ∈ ps) :
    Dev.Frame ps d (e.putBit g k b) := wr h _ _ hr
theorem count (h : Dev.Frame ps d e) (g : Fld) (n : Nat) (hr : Part.reg g.reg.off ∈ ps) : Dev.Frame ps d (e.count g n) := wr h _ _ hr
theorem countW (h : Dev.Frame ps d e) (g : Fld) (n : Nat) (hr : Part.reg g.reg.off ∈ ps) : Dev.Frame ps d (e.countW g n) := wr h _ _ hr
theorem clearBit (h : Dev.Frame ps d e) (r : Reg) (k : Nat) (hr : Part.reg r.off ∈ ps) : Dev.Frame ps d (e.clearBit r k) := wr h _ _ hr

/-! ### Replacing one piece of the hidden state -/

theorem setOut (h : Dev.Frame ps d e) (x : List Out) (hx : Part.out ∈ ps) : Dev.Frame ps d { e with out := x } := by
  refine trans h fun p hp => ?_
  cases p with
  | out => exact absurd hx hp
  | reg o => intro q _; rfl
  | act o => intro q _; rfl
  | _ => rfl

theorem setFree (h : Dev.Frame ps d e) (x : Nat) (hx : Part.free ∈ ps) : Dev.Frame ps d { e with free := x } := by
  refine trans h fun p hp => ?_
  cases p with
  | free => exact absurd hx hp
  | reg o => intro q _; rfl
  | act o => intro q _; rfl
  | _ => rfl

theorem setFrd (h : Dev.Frame ps d e) (x : FrdSt) (hx : Part.frd ∈ ps) : Dev.Frame ps d { e with frd := x } := by
  refine trans h fun p hp => ?_
  cases p with
  | frd => exact absurd hx hp
  | reg o => intro q _; rfl
  | act o => intro q _; rfl
  | _ => rfl

theorem setSht (h : Dev.Frame ps d e) (x : ShtSt) (hx : Part.sht ∈ ps) : Dev.Frame ps d { e with sht := x } := by
  refine trans h fun p hp => ?_
  cases p with
  | sht => exact absurd hx hp
  | reg o => intro q _; rfl
  | act o => intro q _; rfl
  | _ => rfl

theorem setHost (h : Dev.Frame ps d e) (x : HostSt) (hx : Part.host ∈ ps) : Dev.Frame ps d { e with host := x } := by
  refine trans h fun p hp => ?_
  cases p with
  | host => exact absurd hx hp
  | reg o => intro q _; rfl
  | act o => intro q _; rfl
  | _ => rfl

theorem setTwn (h : Dev.Frame ps d e) (x : TwnSt) (hx : Part.twn ∈ ps) : Dev.Frame ps d { e with twn := x } := by
  refine trans h fun p hp => ?_
  cases p with
  | twn => exact absurd hx hp
  | reg o => intro q _; rfl
  | act o => intro q _; rfl
  | _ => rfl

theorem setMemx (h : Dev.Frame ps d e) (x : MemSt) (hx : Part.memx ∈ ps) : Dev.Frame ps d { e with memx := x } := by
  refine trans h fun p hp => ?_
  cases p with
  | memx => exact absurd hx hp
  | reg o => intro q _; rfl
  | act o => intro q _; rfl
  | _ => rfl

theorem setDmaLast (h : Dev.Frame ps d e) (x : Nat) (hx : Part.dmaLast ∈ ps) : Dev.Frame ps d { e with dmaLast := x } := by
  refine trans h fun p hp => ?_
  cases p with
  | dmaLast => exact absurd hx hp
  | reg o => intro q _; rfl
  | act o => intro q _; rfl
  | _ => rfl

theorem setRng (h : Dev.Frame ps d e) (x : RngSt) (hx : Part.rng ∈ ps) : Dev.Frame ps d { e with rng := x } := by
  refine trans h fun p hp => ?_
  cases p with
  | rng => exact absurd hx hp
  | reg o => intro q _; rfl
  | act o => intro q _; rfl
  | _ => rfl

theorem setTblMark (h : Dev.Frame ps d e) (x : List Nat) (hx : Part.tblMark ∈ ps) : Dev.Frame ps d { e with tblMark := x } := by
  refine trans h fun p hp => ?_
  cases p with
  | tblMark => exact absurd hx hp
  | reg o => intro q _; rfl
  | act o => intro q _; rfl
  | _ => rfl

theorem setTmp (h : Dev.Frame ps d e) (x : TmpSt) (hx : Part.tmp ∈ ps) : Dev.Frame ps d { e with tmp := x } := by
  refine trans h fun p hp => ?_
  cases p with
  | tmp => exact absurd hx hp
  | reg o => intro q _; rfl
  | act o => intro q _; rfl
  | _ => rfl

theorem setClk (h : Dev.Frame ps d e) (x : ClkSt) (hx : Part.clk ∈ ps) : Dev.Frame ps d { e with clk := x } := by
  refine trans h fun p hp => ?_
  cases p with
  | clk => exact absurd hx hp
  | reg o => intro q _; rfl
  | act o => intro q _; rfl
  | _ => rfl

theorem setPwr (h : Dev.Frame ps d e) (x : PwrSt) (hx : Part.pwr ∈ ps) : Dev.Frame ps d { e with pwr := x } := by
  refine trans h fun p hp => ?_
  cases p with
  | pwr => exact absurd hx hp
  | reg o => intro q _; rfl
  | act o => intro q _; rfl
  | _ => rfl

theorem setCal (h : Dev.Frame ps d e) (x : CalSt) (hx : Part.cal ∈ ps) : Dev.Frame ps d { e with cal := x } := by
  refine trans h fun p hp => ?_
  cases p with
  | cal => exact absurd hx hp
  | reg o => intro q _; rfl
  | act o => intro q _; rfl
  | _ => rfl

theorem setLg (h : Dev.Frame ps d e) (x : LgSt) (hx : Part.lg ∈ ps) : Dev.Frame ps d { e with lg := x } := by
  refine trans h fun p hp => ?_
  cases p with
  | lg => exact absurd hx hp
  | reg o => intro q _; rfl
  | act o => intro q _; rfl
  | _ => rfl

theorem setCh (h : Dev.Frame ps d e) (k : Nat) (x : ChSt) (hx : Part.ch k ∈ ps) :
    Dev.Frame ps d { e with ch := Store.set {} e.ch k x } := by
  refine trans h fun p hp => ?_
  cases p with
  | ch j => exact Store.get_set_ne _ _ _ _ _ _ fun c => hp (by rw [c]; exact hx)
  | reg o => intro q _; rfl
  | act o => intro q _; rfl
  | _ => rfl

theorem setBld (h : Dev.Frame ps d e) (k : Nat) (x : BldAx) (hx : Part.bld k ∈ ps) :
    Dev.Frame ps d { e with bld := Store.set {} e.bld k x } := by
  refine trans h fun p hp => ?_
  cases p with
  | bld j => exact Store.get_set_ne _ _ _ _ _ _ fun c => hp (by rw [c]; exact hx)
  | reg o => intro q _; rfl
  | act o => intro q _; rfl
  | _ => rfl

theorem setDcb (h : Dev.Frame ps d e) (k : Nat) (x : DcbSt) (hx : Part.dcb k ∈ ps) :
    Dev.Frame ps d { e with dcb := Store.set {} e.dcb k x } := by
  refine trans h fun p hp => ?_
  cases p with
  | dcb j => exact Store.get_set_ne _ _ _ _ _ _ fun c => hp (by rw [c]; exact hx)
  | reg o => intro q _; rfl
  | act o => intro q _; rfl
  | _ => rfl

theorem setStp (h : Dev.Frame ps d e) (k : Nat) (x : StpAx) (hx : Part.stp k ∈ ps) :
    Dev.Frame ps d { e with stp := Store.set {} e.stp k x } := by
  refine trans h fun p hp => ?_
  cases p with
  | stp j => exact Store.get_set_ne _ _ _ _ _ _ fun c => hp (by rw [c]; exact hx)
  | reg o => intro q _; rfl
  | act o => intro q _; rfl
  | _ => rfl

theorem setInp (h : Dev.Frame ps d e) (k : Nat) (x : InSt) (hx : Part.inp k ∈ ps) :
    Dev.Frame ps d { e with inp := Store.set {} e.inp k x } := by
  refine trans h fun p hp => ?_
  cases p with
  | inp j => exact Store.get_set_ne _ _ _ _ _ _ fun c => hp (by rw [c]; exact hx)
  | reg o => intro q _; rfl
  | act o => intro q _; rfl
  | _ => rfl

theorem setLoop (h : Dev.Frame ps d e) (k : Nat) (x : LoopSlot) (hx : Part.loop k ∈ ps) :
    Dev.Frame ps d { e with loop := Store.set {} e.loop k x } := by
  refine trans h fun p hp => ?_
  cases p with
  | loop j => exact Store.get_set_ne _ _ _ _ _ _ fun c => hp (by rw [c]; exact hx)
  | reg o => intro q _; rfl
  | act o => intro q _; rfl
  | _ => rfl

theorem setDmaq (h : Dev.Frame ps d e) (k : Nat) (x : DmaQ) (hx : Part.dmaq k ∈ ps) :
    Dev.Frame ps d { e with dmaq := Store.set {} e.dmaq k x } := by
  refine trans h fun p hp => ?_
  cases p with
  | dmaq j => exact Store.get_set_ne _ _ _ _ _ _ fun c => hp (by rw [c]; exact hx)
  | reg o => intro q _; rfl
  | act o => intro q _; rfl
  | _ => rfl

theorem setOutU (h : Dev.Frame ps d e) (k : Nat) (x : OutSt) (hx : Part.outU k ∈ ps) :
    Dev.Frame ps d { e with outU := Store.set {} e.outU k x } := by
  refine trans h fun p hp => ?_
  cases p with
  | outU j => exact Store.get_set_ne _ _ _ _ _ _ fun c => hp (by rw [c]; exact hx)
  | reg o => intro q _; rfl
  | act o => intro q _; rfl
  | _ => rfl

theorem setEvt (h : Dev.Frame ps d e) (x : EvtSt) (hx : Part.evt ∈ ps) (hr : Part.recs ∈ ps ∨ x.recs = e.evt.recs) :
    Dev.Frame ps d { e with evt := x } := by
  refine trans h fun p hp => ?_
  cases p with
  | evt => exact absurd hx hp
  | recs => rcases hr with hr | hr; exacts [absurd hr hp, hr]
  | reg o => intro q _; rfl
  | act o => intro q _; rfl
  | _ => rfl

theorem setFlt (h : Dev.Frame ps d e) (x : FltSt) (hx : Part.flt ∈ ps) (hr : Part.strobes ∈ ps ∨ x.strobes = e.flt.strobes) :
    Dev.Frame ps d { e with flt := x } := by
  refine trans h fun p hp => ?_
  cases p with
  | flt => exact absurd hx hp
  | strobes => rcases hr with hr | hr; exacts [absurd hr hp, hr]
  | reg o => intro q _; rfl
  | act o => intro q _; rfl
  | _ => rfl

theorem setSys (h : Dev.Frame ps d e) (x : SysSt) (hx : Part.sys ∈ ps) (hr : Part.clock ∈ ps ∨ x.now8 = e.sys.now8) :
    Dev.Frame ps d { e with sys := x } := by
  refine trans h fun p hp => ?_
  cases p with
  | sys => exact absurd hx hp
  | clock => rcases hr with hr | hr; exacts [absurd hr hp, hr]
  | reg o => intro q _; rfl
  | act o => intro q _; rfl
  | _ => rfl

theorem putTw (h : Dev.Frame ps d e) (o v : Nat) (h1 : Part.tbl o ∈ ps) (h2 : Part.tblChk o ∈ ps) (h3 : Part.tblMark ∈ ps) :
    Dev.Frame ps d (e.putTw o v) := by
  refine trans h fun p hp => ?_
  cases p with
  | tbl j =>
    by_cases c : j = o
    · subst c; exact absurd h1 hp
    · exact Dev.tw_putTw_ne _ _ _ _ c
  | tblChk j =>
    by_cases c : j = o
    · subst c; exact absurd h2 hp
    · exact Store.get_set_ne (0#8) (0#8) e.tblChk o j (0#8) c
  | tblMark => exact absurd h3 hp
  | reg o => intro q _; rfl
  | act o => intro q _; rfl
  | _ => rfl

/-! ### Outputs, records, free values -/

theorem emit (h : Dev.Frame ps d e) (o : Out) (ho : Part.out ∈ ps) : Dev.Frame ps d (e.emit o) := by
  refine trans h fun p hp => ?_
  cases p with
  | out => exact absurd ho hp
  | reg o => intro q _; rfl
  | act o => intro q _; rfl
  | _ => rfl

theorem tally (h : Dev.Frame ps d e) (x : SlotRec) (hx : Part.recs ∈ ps) : Dev.Frame ps d (e.tally x) := by
  refine trans h fun p hp => ?_
  cases p with
  | recs => exact absurd hx hp
  | reg o => intro q _; rfl
  | act o => intro q _; rfl
  | _ => rfl

theorem milestone (h : Dev.Frame ps d e) (a b c x y z : Nat) (hx : Part.recs ∈ ps) : Dev.Frame ps d (e.milestone a b c x y z) :=
  tally h _ hx

theorem mark (h : Dev.Frame ps d e) (a b c x : Nat) (hx : Part.recs ∈ ps) : Dev.Frame ps d (e.mark a b c x) := tally h _ hx

theorem freeVal (h : Dev.Frame ps d e) (w : Nat) (hx : Part.free ∈ ps) : Dev.Frame ps d (e.freeVal w).2 := by
  refine trans h fun p hp => ?_
  cases p with
  | free => exact absurd hx hp
  | reg o => intro q _; rfl
  | act o => intro q _; rfl
  | _ => rfl

theorem strobe (h : Dev.Frame ps d e) (l : List Strobe) (hx : Part.strobes ∈ ps) :
    Dev.Frame ps d { e with flt := { e.flt with strobes := l } } := by
  refine trans h fun p hp => ?_
  cases p with
  | strobes => exact absurd hx hp
  | reg o => intro q _; rfl
  | act o => intro q _; rfl
  | _ => rfl

theorem strobeOf (h : Dev.Frame ps d e) (x : Strobe) (hs : Part.strobes ∈ ps)
    (hr : Part.reg (R.FLT_SRCi_STATE x.src).off ∈ ps) : Dev.Frame ps d (e.strobe x) := by
  unfold Dev.strobe; exact ite (count h _ _ hr) (strobe h _ hs)

theorem reportAt (h : Dev.Frame ps d e) (src d0 d1 t : Nat) (hs : Part.strobes ∈ ps)
    (hr : Part.reg (R.FLT_SRCi_STATE src).off ∈ ps) : Dev.Frame ps d (e.reportAt src d0 d1 t) := strobeOf h _ hs hr

theorem report (h : Dev.Frame ps d e) (src d0 d1 : Nat) (hs : Part.strobes ∈ ps)
    (hr : Part.reg (R.FLT_SRCi_STATE src).off ∈ ps) : Dev.Frame ps d (e.report src d0 d1) := reportAt h _ _ _ _ hs hr

theorem reportClass (h : Dev.Frame ps d e) (cls src d0 d1 : Nat) (hs : Part.strobes ∈ ps)
    (hr : Part.reg (R.FLT_SRCi_STATE src).off ∈ ps) : Dev.Frame ps d (e.reportClass cls src d0 d1) := strobeOf h _ hs hr

theorem reportOpen (h : Dev.Frame ps d e) (src : Nat) (hf : Part.free ∈ ps) (hs : Part.strobes ∈ ps)
    (hr : Part.reg (R.FLT_SRCi_STATE src).off ∈ ps) : Dev.Frame ps d (e.reportOpen src) := by
  unfold Dev.reportOpen; exact report (freeVal (freeVal h 32 hf) 32 hf) _ _ _ hs hr

/-! ### Time -/

theorem advance (h : Dev.Frame ps d e) (n : Nat) (ht : ∀ p ∈ timeParts, p ∈ ps) : Dev.Frame ps d (e.advance n) := by
  have hc : Part.clock ∈ ps := ht _ (by simp [timeParts])
  have ht' : Part.reg R.EVT_TIME.off ∈ ps := ht _ (by simp [timeParts])
  have hs : Part.reg R.SYS_SECONDS.off ∈ ps := ht _ (by simp [timeParts])
  have h1 : Dev.Frame ps d { e with sys := { e.sys with now8 := e.sys.now8 + n } } := by
    refine trans h fun p hp => ?_
    cases p with
    | clock => exact absurd hc hp
    | reg o => intro q _; rfl
    | act o => intro q _; rfl
    | _ => rfl
  unfold Dev.advance
  exact ite (wr (put h1 F.SYS_SECONDS.seconds _ hs) _ _ ht') (put h1 F.SYS_SECONDS.seconds _ hs)

theorem advanceTo (h : Dev.Frame ps d e) (t : Nat) (ht : ∀ p ∈ timeParts, p ∈ ps) : Dev.Frame ps d (e.advanceTo t) := by
  unfold Dev.advanceTo; exact ite (advance h _ ht) h

theorem advance8To (h : Dev.Frame ps d e) (t : Nat) (ht : ∀ p ∈ timeParts, p ∈ ps) : Dev.Frame ps d (e.advance8To t) := by
  unfold Dev.advance8To; exact ite (advance h _ ht) h

/-! ### Interrupts and flags -/

theorem post (h : Dev.Frame ps d e) (v : Nat) (hi : ∀ p ∈ irqParts, p ∈ ps) : Dev.Frame ps d (e.post v) := by
  have ho : Part.out ∈ ps := hi _ (by simp [irqParts])
  have hp : Part.reg R.MSIX_PBA.off ∈ ps := hi _ (by simp [irqParts])
  unfold Dev.post
  exact ite h (ite (putBit h _ _ _ hp) (emit h _ ho))

theorem flag (h : Dev.Frame ps d e) (st en : Reg) (k v : Nat) (hs : Part.reg st.off ∈ ps) (hi : ∀ p ∈ irqParts, p ∈ ps) :
    Dev.Frame ps d (e.flag st en k v) := by
  unfold Dev.flag; exact ite (post (wr h _ _ hs) _ hi) (wr h _ _ hs)

theorem flagAlways (h : Dev.Frame ps d e) (st : Reg) (k v : Nat) (hs : Part.reg st.off ∈ ps) (hi : ∀ p ∈ irqParts, p ∈ ps) :
    Dev.Frame ps d (e.flagAlways st k v) := by
  unfold Dev.flagAlways; exact post (wr h _ _ hs) _ hi

theorem evtFlag (h : Dev.Frame ps d e) (k : Nat) (hs : Part.reg R.EVT_STATUS.off ∈ ps) (hi : ∀ p ∈ irqParts, p ∈ ps) :
    Dev.Frame ps d (e.evtFlag k) := flag h _ _ _ _ hs hi
theorem shtFlag (h : Dev.Frame ps d e) (k : Nat) (hs : Part.reg R.SHT_STATUS.off ∈ ps) (hi : ∀ p ∈ irqParts, p ∈ ps) :
    Dev.Frame ps d (e.shtFlag k) := flag h _ _ _ _ hs hi
theorem calFlag (h : Dev.Frame ps d e) (k : Nat) (hs : Part.reg R.CAL_IRQ_STATUS.off ∈ ps) (hi : ∀ p ∈ irqParts, p ∈ ps) :
    Dev.Frame ps d (e.calFlag k) := flag h _ _ _ _ hs hi
theorem fltFlag (h : Dev.Frame ps d e) (k : Nat) (hs : Part.reg R.FLT_IRQ_STATUS.off ∈ ps) (hi : ∀ p ∈ irqParts, p ∈ ps) :
    Dev.Frame ps d (e.fltFlag k) := by
  unfold Dev.fltFlag; exact ite (flagAlways h _ _ _ hs hi) (flag h _ _ _ _ hs hi)

/-! ### Shadow groups and tables -/

theorem setReady (h : Dev.Frame ps d e) (c : Reg) (b : Bool) (hr : Part.rdy c.off ∈ ps) : Dev.Frame ps d (e.setReady c b) := by
  refine trans h fun p hp => ?_
  cases p with
  | rdy o => exact Store.get_set_ne _ _ _ _ _ _ fun c => hp (by rw [c]; exact hr)
  | reg o => intro q _; rfl
  | act o => intro q _; rfl
  | _ => rfl

theorem commit (h : Dev.Frame ps d e) (c : Reg) (g : Fld) (hr : Part.rdy c.off ∈ ps) (hg : Part.reg g.reg.off ∈ ps) :
    Dev.Frame ps d (e.commit c g) := put (setReady h _ _ hr) _ _ hg

theorem activate (h : Dev.Frame ps d e) (r : Reg) (hr : Part.act r.off ∈ ps) : Dev.Frame ps d (e.activate r) := by
  refine trans h fun p hp => ?_
  cases p with
  | act o =>
    intro q hq
    exact Dev.act_activate_ne _ _ _ fun c => hp (by rw [← hq, c]; exact hr)
  | reg o => intro q _; rfl
  | _ => rfl

theorem transfer (h : Dev.Frame ps d e) (c : Reg) (g : Fld) (rs : List Reg) (hc : Part.rdy c.off ∈ ps)
    (hg : Part.reg g.reg.off ∈ ps) (hr : ∀ r ∈ rs, Part.act r.off ∈ ps) : Dev.Frame ps d (e.transfer c g rs) :=
  put (setReady (each rs _ (fun _ r m => activate refl r (hr r m)) h) _ _ hc) _ _ hg

/-! ### The host port, the twin link -/

theorem hostErr (h : Dev.Frame ps d e) (sub d0 d1 : Nat)
    (h1 : Part.reg R.SYS_CFG_HOST_ERR.off ∈ ps) (h2 : Part.reg R.SYS_CFG_HOST_COUNTS.off ∈ ps) (h3 : Part.host ∈ ps)
    (h4 : Part.strobes ∈ ps) (h5 : Part.reg (R.FLT_SRCi_STATE 34).off ∈ ps) : Dev.Frame ps d (e.hostErr sub d0 d1) := by
  unfold Dev.hostErr
  have k : Dev.Frame ps d ((e.wr R.SYS_CFG_HOST_ERR (putBits (e.rd R.SYS_CFG_HOST_ERR) (hostErrBit sub) (hostErrBit sub) 1)).count
      F.SYS_CFG_HOST_COUNTS.errors) := count (wr h _ _ h1) F.SYS_CFG_HOST_COUNTS.errors _ h2
  exact ite k (report (setHost k _ h3) _ _ _ h4 h5)

theorem twnReject (h : Dev.Frame ps d e) (h1 : Part.reg R.TWN_REJECT.off ∈ ps) (h2 : Part.reg R.TWN_IRQ_STATUS.off ∈ ps)
    (hi : ∀ p ∈ irqParts, p ∈ ps) : Dev.Frame ps d e.twnReject := by
  unfold Dev.twnReject
  exact ite (post (put (count h F.TWN_REJECT.count _ h1) F.TWN_IRQ_STATUS.refused _ h2) _ hi) (put (count h F.TWN_REJECT.count _ h1) F.TWN_IRQ_STATUS.refused _ h2)

theorem setActive (h : Dev.Frame ps d e) (src : Nat) (b : Bool) (h1 : Part.flt ∈ ps)
    (h2 : Part.reg (R.FLT_SRCi_STATE src).off ∈ ps) (h3 : Part.reg R.FLT_ACTIVE.off ∈ ps) : Dev.Frame ps d (e.setActive src b) := by
  unfold Dev.setActive
  have k : Dev.Frame ps d (if (e.on (F.FLT_SRCi_STATE.active src) && !b) = true then
      { e with flt := { e.flt with quietFrom := Store.set 0 e.flt.quietFrom src (e.now + 1) } } else e) := by
    refine ite (trans h fun p hp => ?_) h
    cases p with
    | flt => exact absurd h1 hp
    | reg o => intro q _; rfl
    | act o => intro q _; rfl
    | _ => rfl
  exact ite (putBit (put k (F.FLT_SRCi_STATE.active src) _ h2) _ _ _ h3) (put k (F.FLT_SRCi_STATE.active src) _ h2)

/-- A change of the device alone has the frame of that change. -/
theorem ofDev {s : State} {x : Dev} (h : Dev.Frame ps s.dev x) : State.Frame ps s { s with dev := x } :=
  ⟨h, fun _ => rfl, fun _ => rfl, rfl⟩

end Frame

/-- A command that acts on the device alone completes. -/
theorem completes_onDev {c : Instr} {s : State} {P : State → Prop} (f : Dev → Dev) (h : exec c s = s.onDev f)
    (hp : P { s with dev := f s.dev }) : Completes (exec c s) P := ⟨_, h, hp⟩

/-- A command whose arm answers a state completes. -/
theorem completes_next {c : Instr} {s : State} {P : State → Prop} (t : State) (h : exec c s = .next t) (hp : P t) :
    Completes (exec c s) P := ⟨t, h, hp⟩

end Sys2Proof.Machine
end

