-- ==== Sys2Proof/Laws/Memory.lean ====
section
/-! SUPPORT. Laws of user memory: reading back what was written, the canonical form, and for every operation over the whole
state that it keeps the canonical form and the queue. -/

namespace Sys2Proof.Machine

/-! ### Bytes and words -/

theorem Memory.byte_setByte_same (m : Memory) (a v : Nat) : (m.setByte a v).byte a = v % 2 ^ 8 := by
  simp [Memory.byte, Memory.setByte]

theorem Memory.byte_setByte_ne (m : Memory) (a b v : Nat) (h : b ≠ a) : (m.setByte a v).byte b = m.byte b := by
  simp [Memory.byte, Memory.setByte, Store.get_set_ne _ _ _ _ _ _ h]

@[simp] theorem Memory.chk_setByte (m : Memory) (a v : Nat) : (m.setByte a v).chk = m.chk := rfl
@[simp] theorem Memory.data_setSyn (m : Memory) (w v : Nat) : (m.setSyn w v).data = m.data := rfl
theorem Memory.syn_setByte (m : Memory) (a v w : Nat) : (m.setByte a v).syn w = m.syn w := rfl
theorem Memory.byte_setSyn (m : Memory) (w v a : Nat) : (m.setSyn w v).byte a = m.byte a := rfl

theorem Memory.syn_setSyn_same (m : Memory) (w v : Nat) : (m.setSyn w v).syn w = v % 2 ^ 8 := by
  simp [Memory.syn, Memory.setSyn]

theorem Memory.syn_setSyn_ne (m : Memory) (w u v : Nat) (h : u ≠ w) : (m.setSyn w v).syn u = m.syn u := by
  simp [Memory.syn, Memory.setSyn, Store.get_set_ne _ _ _ _ _ _ h]

theorem Memory.setBytes_nil (m : Memory) (a : Nat) : m.setBytes a [] = m := rfl
theorem Memory.setBytes_cons (m : Memory) (a b : Nat) (bs : List Nat) :
    m.setBytes a (b :: bs) = (m.setByte a b).setBytes (a + 1) bs := rfl

/-- Storing bytes leaves every byte outside them. -/
theorem Memory.byte_setBytes_out (m : Memory) (a : Nat) (bs : List Nat) (x : Nat) (h : x < a ∨ a + bs.length ≤ x) :
    (m.setBytes a bs).byte x = m.byte x := by
  induction bs generalizing m a with
  | nil => rfl
  | cons b bs ih =>
    simp only [List.length_cons] at h
    rw [Memory.setBytes_cons, ih _ _ (by omega), Memory.byte_setByte_ne _ _ _ _ (by omega)]

/-- Storing bytes stores each of them. -/
theorem Memory.byte_setBytes_in (m : Memory) (a : Nat) (bs : List Nat) (i : Nat) (h : i < bs.length) :
    (m.setBytes a bs).byte (a + i) = bs[i] % 2 ^ 8 := by
  induction bs generalizing m a i with
  | nil => simp at h
  | cons b bs ih =>
    rw [Memory.setBytes_cons]
    cases i with
    | zero => rw [Memory.byte_setBytes_out _ _ _ _ (by omega)]; exact Memory.byte_setByte_same m a b
    | succ i =>
      have := ih (m.setByte a b) (a + 1) i (by simpa using h)
      rw [show a + (i + 1) = a + 1 + i by omega, this]; rfl

theorem Memory.syn_setBytes (m : Memory) (a : Nat) (bs : List Nat) (w : Nat) : (m.setBytes a bs).syn w = m.syn w := by
  induction bs generalizing m a with
  | nil => rfl
  | cons b bs ih => rw [Memory.setBytes_cons, ih, Memory.syn_setByte]

theorem leBytes_length (n v : Nat) : (leBytes n v).length = n := by
  induction n generalizing v with
  | zero => rfl
  | succ n ih => simp [leBytes, ih]

/-! ### The canonical form -/

theorem Memory.wf_setByte (m : Memory) (a v : Nat) (h : m.wf = true) : (m.setByte a v).wf = true := by
  simp only [Memory.wf, Bool.and_eq_true] at h ⊢
  exact ⟨Store.wf_set _ _ _ _ h.1, h.2⟩

theorem Memory.wf_setSyn (m : Memory) (w v : Nat) (h : m.wf = true) : (m.setSyn w v).wf = true := by
  simp only [Memory.wf, Bool.and_eq_true] at h ⊢
  exact ⟨h.1, Store.wf_set _ _ _ _ h.2⟩

theorem Memory.wf_setBytes (m : Memory) (a : Nat) (bs : List Nat) (h : m.wf = true) : (m.setBytes a bs).wf = true := by
  induction bs generalizing m a with
  | nil => exact h
  | cons b bs ih => rw [Memory.setBytes_cons]; exact ih _ _ (Memory.wf_setByte _ _ _ h)

theorem Memory.wf_setWord (m : Memory) (w v syn : Nat) (h : m.wf = true) : (m.setWord w v syn).wf = true :=
  Memory.wf_setSyn _ _ _ (Memory.wf_setBytes _ _ _ h)

theorem Memory.wf_empty : (({} : Memory)).wf = true := rfl

/-! ### Keeping the canonical form and the queue -/

/-- t keeps what s has: the canonical form of memory, and the queue. -/
def State.Keeps (s t : State) : Prop := (s.mem.wf = true → t.mem.wf = true) ∧ t.pending = s.pending

namespace Keeps

variable {s t u : State}

theorem refl : State.Keeps s s := ⟨id, rfl⟩
theorem trans (h : State.Keeps s t) (g : State.Keeps t u) : State.Keeps s u := ⟨fun w => g.1 (h.1 w), g.2.trans h.2⟩
/-- A change of the device alone. -/
theorem dev (h : State.Keeps s t) (d : Dev) : State.Keeps s { t with dev := d } := ⟨h.1, h.2⟩
/-- The device alone differs, and memory is emptied. -/
theorem fresh (h : State.Keeps s t) (d : Dev) : State.Keeps s { t with dev := d, mem := {} } := ⟨fun _ => Memory.wf_empty, h.2⟩

theorem ite {c : Prop} [Decidable c] (h : State.Keeps s t) (g : State.Keeps s u) : State.Keeps s (if c then t else u) := by
  split <;> assumption

theorem foldl {α : Type} (l : List α) (f : State → α → State) (hf : ∀ x a, State.Keeps x (f x a)) (h : State.Keeps s t) :
    State.Keeps s (l.foldl f t) := by
  induction l generalizing t with
  | nil => exact h
  | cons a l ih => exact ih (trans h (hf t a))

/-! ### User memory -/

theorem writeMem (h : State.Keeps s t) (w v : Nat) (p : Bool) : State.Keeps s (t.writeMem w v p) := by
  unfold State.writeMem
  split
  · exact h
  · exact ⟨fun q => Memory.wf_setWord _ _ _ _ (h.1 q), h.2⟩

theorem readMem (h : State.Keeps s t) (r c w : Nat) : State.Keeps s (t.readMem r c w).2.2 := by
  unfold State.readMem
  generalize decodeWord (t.mem.word w) (t.mem.syn w) = x
  obtain ⟨v, o⟩ := x
  dsimp only
  split
  · exact h
  · cases o
    · exact h
    · exact dev h _
    · exact dev h _

theorem scrubWord (h : State.Keeps s t) (w : Nat) : State.Keeps s (t.scrubWord w) := by
  unfold State.scrubWord
  exact ite (writeMem (readMem h 2 0 w) _ _ _) (readMem h 2 0 w)

theorem scrub (h : State.Keeps s t) : State.Keeps s t.scrub := by
  unfold State.scrub
  exact ite h (dev (scrubWord h _) _)

/-! ### The DMA engine -/

theorem dmaWrite (q : Nat) (tag : Option Nat) (ws : List (Nat × Nat × Bool)) (n : Nat) (h : State.Keeps s t) :
    State.Keeps s (t.dmaWrite q tag ws n).1 := by
  induction ws generalizing t n with
  | nil => exact h
  | cons x ws ih =>
    obtain ⟨a, v, p⟩ := x
    unfold State.dmaWrite
    cases tag with
    | none => exact ih _ (dev (writeMem h _ _ _) _)
    | some k =>
      dsimp only
      cases t.dev.openDesc k with
      | none => exact h
      | some j =>
        dsimp only
        split
        · exact h
        · exact ih _ (dev (writeMem h _ _ _) _)

theorem dmaFlush (h : State.Keeps s t) (q : Nat) (tag : Option Nat) : State.Keeps s (t.dmaFlush q tag).1 := by
  unfold State.dmaFlush
  have h1 := dmaWrite q tag (t.dev.dq q).pend 0 h
  revert h1
  generalize t.dmaWrite q tag (t.dev.dq q).pend 0 = x
  obtain ⟨x, r, c, n⟩ := x
  exact fun h1 => dev h1 _

theorem flushOr (h : State.Keeps s t) (q : Nat) (tag : Option Nat) (g : Dev → Dev) : State.Keeps s (t.flushOr q tag g) :=
  ite (dev (dmaFlush h q tag) _) (dmaFlush h q tag)

theorem takeData (h : State.Keeps s t) (q : Nat) (x : Desc) (vs : List Nat) : State.Keeps s (t.takeData q x vs) := by
  unfold State.takeData
  exact ite (dev h _) (ite (dev h _) (flushOr (dev h _) _ _ _))

theorem dmaData (h : State.Keeps s t) (q : Nat) (c : ReadCompletion) : State.Keeps s (t.dmaData q c) := by
  unfold State.dmaData
  exact ite h (ite (dev h _) (ite h (ite (takeData h _ _ _) (dev h _))))

theorem frameMoved (h : State.Keeps s t) (q : Nat) : State.Keeps s (t.frameMoved q) := by
  unfold State.frameMoved
  split
  · exact h
  · split
    · exact h
    · next f _ _ =>
      refine ite h (ite (dev h _) ?_)
      split
      · exact dev h _
      · next k _ =>
        refine ite (dev h _) ?_
        have k1 := fun d => dmaFlush (dev h d) q (some f.tag)
        exact ite (dev (k1 _) _) (ite (k1 _) (dev (k1 _) _))

theorem guardRelease (h : State.Keeps s t) (q : Nat) : State.Keeps s (t.guardRelease q) := by
  unfold State.guardRelease
  refine ite h ?_
  split
  · split
    · exact h
    · exact ite (dev h _) (flushOr h _ _ _)
  · exact ite (dev h _) (flushOr h _ _ _)

theorem landOrNot (h : State.Keeps s t) (x : Nat × Nat × Bool) : State.Keeps s (t.landOrNot x) :=
  ite (writeMem (dev h _) _ _ _) (dev h _)

theorem qDisable (h : State.Keeps s t) (q : Nat) : State.Keeps s (t.qDisable q) := by
  unfold State.qDisable
  exact ite (dev h _) (dev (foldl _ _ (fun x a => landOrNot refl a) h) _)

theorem dmaDisable (h : State.Keeps s t) : State.Keeps s t.dmaDisable := by
  unfold State.dmaDisable
  exact dev (foldl _ _ (fun x q => qDisable refl q) h) _

theorem dmaBlockReset (h : State.Keeps s t) : State.Keeps s t.dmaBlockReset := dev (dmaDisable h) _
theorem dmaHostReset (h : State.Keeps s t) : State.Keeps s t.dmaHostReset := dev (dmaDisable h) _

/-! ### The fault collector -/

theorem blockReset (h : State.Keeps s t) (i d0 : Nat) : State.Keeps s (t.blockReset i d0) :=
  ite (dmaBlockReset h) (dev h _)

theorem applyReactions (h : State.Keeps s t) (i esn b d0 d1 : Nat) : State.Keeps s (t.applyReactions i esn b d0 d1) :=
  dev (ite (blockReset (dev h _) _ _) (dev h _)) _

theorem faultRecord (h : State.Keeps s t) : State.Keeps s t.faultRecord := by
  unfold State.faultRecord
  split
  · exact h
  · dsimp only
    refine dev ?_ _
    refine ite (dev h _) (applyReactions (dev h _) _ _ _ _ _)

theorem collectStrobes (n : Nat) (h : State.Keeps s t) : State.Keeps s (State.collectStrobes n t) := by
  induction n generalizing t with
  | zero => exact h
  | succ n ih => exact ih (faultRecord h)

theorem snapshot (h : State.Keeps s t) (r : Nat) : State.Keeps s (t.snapshot r) := dev (collectStrobes _ h) _

theorem collect (n : Nat) (h : State.Keeps s t) : State.Keeps s (State.collect n t) := by
  induction n generalizing t with
  | zero => exact h
  | succ n ih => exact ite (ih (faultRecord h)) h

theorem slotRoll (h : State.Keeps s t) : State.Keeps s t.slotRoll := by
  unfold State.slotRoll; exact ite h (dev (collect _ h) _)

theorem schedSlot (h : State.Keeps s t) (k : Nat) : State.Keeps s (t.schedSlot k) := slotRoll (dev h _)

/-! ### The power sequencer -/

theorem domOff (h : State.Keeps s t) (k : Nat) : State.Keeps s (t.domOff k) := by
  unfold State.domOff
  split
  · exact fresh h _
  · exact dev h _
  · exact dev h _
  · exact dev h _

theorem coreReset (h : State.Keeps s t) : State.Keeps s t.coreReset := fresh h _
theorem coreOff (h : State.Keeps s t) : State.Keeps s t.coreOff := dev (coreReset h) _

theorem stepBegin (h : State.Keeps s t) (i : Nat) (e : DomEntry) (up : Bool) : State.Keeps s (t.stepBegin i e up) := by
  unfold State.stepBegin
  exact ite (dev h _) (ite (dev h _) (domOff (dev h _) _))

theorem upNext (h : State.Keeps s t) (i : Nat) : State.Keeps s (t.upNext i).1 := by
  unfold State.upNext
  cases t.dev.nextOff i with
  | none => exact dev h _
  | some p => exact stepBegin h _ _ _

theorem upFrom (h : State.Keeps s t) (i : Nat) : State.Keeps s (t.upFrom i).1 := upNext (dev h _) i

theorem downNext (h : State.Keeps s t) (i : Nat) : State.Keeps s (t.downNext i) := by
  unfold State.downNext
  cases t.dev.nextOn i with
  | none => exact ite (dev h _) (coreOff h)
  | some p => exact stepBegin h _ _ _

theorem downFrom (h : State.Keeps s t) (i : Nat) : State.Keeps s (t.downFrom i) := downNext (dev h _) i

theorem downNow (h : State.Keeps s t) (p i : Nat) : State.Keeps s (t.downNow p i) := downFrom (dev h _) _

theorem chanBegin (n : Nat) (h : State.Keeps s t) : State.Keeps s (State.chanBegin n t) := by
  induction n generalizing t with
  | zero => exact h
  | succ n ih =>
    unfold State.chanBegin
    split
    · exact h
    · dsimp only
      split
      · exact ih (dev h _)
      · exact ite (ih (dev h _)) (stepBegin h _ _ _)

theorem stepNext (h : State.Keeps s t) (i : Nat) : State.Keeps s (t.stepNext i).1 := by
  unfold State.stepNext
  dsimp only
  split
  · split
    · exact downNow h _ _
    · exact upFrom h _
  · split
    · exact upFrom (dev h _) _
    · exact downFrom h _
  · split
    · exact downNow h _ _
    · exact chanBegin _ (dev h _)

theorem stepHalt (h : State.Keeps s t) (sub i : Nat) (e : DomEntry) (d1 : Nat) : State.Keeps s (t.stepHalt sub i e d1).1 := by
  unfold State.stepHalt
  exact ite (downNow (dev h _) _ _) (dev h _)

theorem powerStepDone (h : State.Keeps s t) : State.Keeps s t.powerStepDone.1 := by
  unfold State.powerStepDone
  split
  · exact dev h _
  split
  · exact h
  · dsimp only
    split
    · exact stepHalt (dev h _) _ _ _ _
    · exact stepNext (dev h _) _

theorem powerStepTimeout (h : State.Keeps s t) : State.Keeps s t.powerStepTimeout.1 := by
  unfold State.powerStepTimeout
  split
  · exact dev h _
  split
  · exact h
  · split
    · exact h
    dsimp only
    split
    · exact stepHalt (dev h _) _ _ _ _
    · exact stepNext (dev h _) _

theorem downRequest (h : State.Keeps s t) (p : Nat) : State.Keeps s (t.downRequest p) := by
  unfold State.downRequest
  dsimp only
  split
  · exact h
  · exact ite (dev h _) (coreOff (dev h _))
  · exact dev h _
  · exact ite (downNow h _ _) (dev h _)
  · exact dev h _
  · exact downNow h _ _

theorem upRequest (h : State.Keeps s t) : State.Keeps s t.upRequest.1 := by
  unfold State.upRequest
  dsimp only
  split
  · exact upFrom (dev h _) _
  · split <;> exact dev h _
  · exact dev h _
  · exact h

theorem standby (h : State.Keeps s t) : State.Keeps s t.standby := by
  unfold State.standby
  exact ite (downRequest h _) (dev h _)

theorem wake (h : State.Keeps s t) : State.Keeps s t.wake.1 := by
  unfold State.wake
  dsimp only
  split
  · exact h
  split
  · exact upRequest (dev h _)
  · exact dev h _

theorem chanQueue (h : State.Keeps s t) (l : List (Nat × Bool)) : State.Keeps s (t.chanQueue l) :=
  ite (chanBegin _ (dev h _)) (dev h _)

theorem chanSwitch (h : State.Keeps s t) (off on : Nat) (f : Bool) : State.Keeps s (t.chanSwitch off on f) := by
  unfold State.chanSwitch
  exact ite (dev h _) (chanQueue (dev h _) _)

theorem shutdown (h : State.Keeps s t) (w : Nat) : State.Keeps s (t.shutdown w) :=
  downRequest (snapshot (dmaDisable (dev h _)) _) _

/-- A timed shut-down that waits for the last sheet begins. -/
theorem idleCheck (h : State.Keeps s t) : State.Keeps s t.idleCheck := ite (shutdown h _) h

theorem pfail (h : State.Keeps s t) : State.Keeps s t.pfail := by
  unfold State.pfail
  exact ite (dev h _) (idleCheck (dev h _))

theorem holdupExpire (h : State.Keeps s t) : State.Keeps s t.holdupExpire := by
  unfold State.holdupExpire
  exact ite h (ite (shutdown h _) (shutdown (dev h _) _))

theorem pfailClear (h : State.Keeps s t) : State.Keeps s t.pfailClear := by
  unfold State.pfailClear
  dsimp only
  exact ite (dev h _) (ite (holdupExpire (dev h _)) (dev h _))

/-! ### Bring-up and resets -/

theorem run5 (h : State.Keeps s t) : State.Keeps s t.run5 := by
  unfold State.run5
  have h1 := upRequest h
  revert h1
  generalize t.upRequest = x
  obtain ⟨x, b⟩ := x
  intro h1
  exact ite (dev h1 _) h1

theorem start5 (h : State.Keeps s t) : State.Keeps s t.start5 := run5 (dev h _)

theorem start4 (h : State.Keeps s t) : State.Keeps s t.start4 := by
  unfold State.start4
  dsimp only
  exact ite (start5 (dev h _)) (ite (dev h _) (dev h _))

theorem end6 (h : State.Keeps s t) (f : Option Nat) : State.Keeps s (t.end6 f) := fresh h _

theorem phaseComplete (h : State.Keeps s t) (p : Nat) (f : Option Nat) : State.Keeps s (t.phaseComplete p f) := by
  unfold State.phaseComplete
  dsimp only
  split
  · exact ite (dev h _) h
  · exact ite (start4 (dev h _)) h
  · exact ite (dev h _) h
  · exact ite (end6 h _) h
  · exact ite (ite (dev h _) h) (ite (dev h _) h)
  · exact ite (dev h _) h
  · exact ite (dev h _) h
  · exact ite (dev h _) h
  · exact ite (dev h _) h
  · exact ite (dev h _) h
  · exact h

theorem allOff (h : State.Keeps s t) : State.Keeps s t.allOff := dev (coreReset (dev h _)) _
theorem porst (h : State.Keeps s t) : State.Keeps s t.porst := by
  unfold State.porst
  exact dev (allOff (dev h _)) _

theorem fullReset (h : State.Keeps s t) : State.Keeps s t.fullReset := by
  unfold State.fullReset
  have k := snapshot (dev h t.dev.fullCut) 2
  dsimp only
  split
  · exact h
  · generalize State.snapshot _ 2 = y at k ⊢
    exact downRequest (dev k _) _

theorem collapse (h : State.Keeps s t) : State.Keeps s t.collapse := by
  unfold State.collapse
  exact ite h (dev (allOff (dev h _)) _)

/-- Phase 5 ends where a power-up has reached ON. -/
theorem end5 {x : State × Bool} (h : State.Keeps s x.1) :
    State.Keeps s (if x.2 && x.1.dev.phaseSt 5 = 1 then { x.1 with dev := x.1.dev.end5 } else x.1) := ite (dev h _) h

theorem distributed (h : State.Keeps s t) (ue : Option Nat) : State.Keeps s (t.distributed ue) := by
  unfold State.distributed
  refine ite h ?_
  split
  · exact dev h _
  · exact ite (start5 (dev h _)) (dev h _)

/-! ### Doorbells, the twin unit's agreed inputs, the host port -/

theorem ring (h : State.Keeps s t) (v : Nat) : State.Keeps s (t.ring v) := by
  unfold State.ring
  exact ite (dev h _) (idleCheck (dev (ite (dmaDisable (dev h _)) (dev h _)) _))

theorem doorbell (h : State.Keeps s t) (v : Nat) : State.Keeps s (t.doorbell v) := by
  unfold State.doorbell
  exact ite h (ite (ring (dev h _) _) (ite (dev h _) (dev h _)))

theorem dmaTake (h : State.Keeps s t) (r : Reg) (v : Nat) : State.Keeps s (t.dmaTake r v) := by
  unfold State.dmaTake
  have k : ∀ d, State.Keeps s { t with dev := d } := fun d => dev h d
  exact ite (ite (k _) (dmaDisable h)) (ite (k _) (ite (k _) (ite (ite (k _) (ite (qDisable h _) (k _)))
    (ite (k _) (ite (ite (k _) h) (ite (ite (k _) h) (k _)))))))

theorem wakeCmd (h : State.Keeps s t) : State.Keeps s t.wakeCmd := end5 (wake h)

theorem pwrTake (h : State.Keeps s t) (r : Reg) (v : Nat) : State.Keeps s (t.pwrTake r v) := by
  unfold State.pwrTake
  refine ite (ite h (ite (standby h) ?_)) (ite (ite h (chanSwitch h _ _ _)) (dev h _))
  have k : State.Keeps s (if bit v 0 then t.standby else t) := ite (standby h) h
  exact ite (wakeCmd k) k

theorem encApply (h : State.Keeps s t) (n : Nat) : State.Keeps s (t.encApply n) := by
  unfold State.encApply
  split
  · exact h
  split
  · exact h
  · exact dev (slotRoll (dev h _)) _

theorem edgesIn (k : Nat) (n x : Nat) (h : State.Keeps s t) : State.Keeps s (State.edgesIn k t n x) := by
  induction k generalizing t with
  | zero => exact h
  | succ k ih =>
    unfold State.edgesIn
    split
    · exact ite (ih (encApply h _)) h
    · exact h

theorem pickFirst (h : State.Keeps s t) (f : Nat → Bool) : State.Keeps s (t.pickFirst f) := by
  unfold State.pickFirst
  dsimp only
  exact dev (foldl _ _ (fun x n => ite (edgesIn _ _ _ refl) refl) (slotRoll h)) _

theorem cancelCmd (h : State.Keeps s t) (k : Nat) : State.Keeps s (t.cancelCmd k) := by
  unfold State.cancelCmd
  exact idleCheck (dev (ite (pickFirst h _) h) _)

/-- A host access to a register, carried out where it reaches it. -/
theorem reach (h : State.Keeps s t) (off : Nat) (f : State → State) (hf : ∀ x, State.Keeps x (f x)) :
    State.Keeps s (t.reach off f) := by
  unfold State.reach
  split
  · exact dev h _
  · exact trans h (hf _)

theorem agree (h : State.Keeps s t) (r : Reg) (v : Nat) (f : State → State) (hf : ∀ x, State.Keeps x (f x)) :
    State.Keeps s (t.agree r v f) := reach h _ _ fun x => ite (hf x) (dev refl _)

theorem hostReset (h : State.Keeps s t) : State.Keeps s t.hostReset := by
  unfold State.hostReset
  split
  · exact h
  · dsimp only
    have k := pickFirst h fun _ => true
    generalize t.pickFirst (fun _ => true) = y at k ⊢
    exact dev (dmaHostReset (dev k _)) _

theorem shtCmd (h : State.Keeps s t) (v : Nat) : State.Keeps s (t.shtCmd v) := by
  unfold State.shtCmd
  dsimp only
  split
  · exact dev h _
  · exact dev h _
  · exact cancelCmd h _
  · exact dev h _
  · exact dev h _
  · exact dev h _

theorem regTake (h : State.Keeps s t) (r : Reg) (v : Nat) : State.Keeps s (t.regTake r v) := by
  unfold State.regTake
  split
  · exact ite (shtCmd h _) (dev h _)
  · exact dmaTake h _ _
  · exact pwrTake h _ _
  · exact ite (ite (ring h _) h) (dev h _)
  · exact idleCheck (dev h _)

theorem write32 (h : State.Keeps s t) (off v : Nat) : State.Keeps s (t.write32 off v) := by
  unfold State.write32
  split
  · exact ite (dev h _) (regTake h _ _)
  · split
    · exact ite (regTake (dev h _) _ _) h
    · exact h

theorem write64 (h : State.Keeps s t) (off v : Nat) : State.Keeps s (t.write64 off v) := by
  unfold State.write64
  split
  · exact ite (regTake (dev h _) _ _) (write32 (write32 h _ _) _ _)
  · exact write32 h _ _

theorem writeNow (h : State.Keeps s t) (off v : Nat) (w : Bool) : State.Keeps s (t.writeNow off v w) := by
  unfold State.writeNow
  exact ite h (ite (dev h _) (ite h (ite (write64 h _ _) (write32 h _ _))))

theorem agreedAct (h : State.Keeps s t) (a : Agreed) : State.Keeps s (t.agreedAct a) := by
  unfold State.agreedAct
  split
  · exact writeNow h _ _ _
  · exact writeNow h _ _ _
  · exact ite (ring h _) h
  · exact ite (idleCheck (applyReactions (dev h _) _ _ _ _ _)) h
  · exact dev h _

theorem agreedApply (h : State.Keeps s t) : State.Keeps s t.agreedApply := by
  unfold State.agreedApply
  split
  · exact h
  split
  · exact h
  · exact agreedAct (dev h _) _

theorem epochDataTake (h : State.Keeps s t) (x : TwinMsg) : State.Keeps s (t.epochDataTake x) := by
  unfold State.epochDataTake
  exact ite (dev h _) (foldl _ _ (fun y p => writeMem refl _ _ _) (dev h _))

theorem request (h : State.Keeps s t) (bar off size : Nat) (w : Bool) (f : State → State)
    (hf : ∀ x, State.Keeps s x → State.Keeps s (f x)) : State.Keeps s (t.request bar off size w f) := by
  unfold State.request
  exact ite h (ite (dev h _) (ite (dev h _) (hf _ h)))

theorem hostRead (h : State.Keeps s t) (off : Nat) (w : Bool) : State.Keeps s (t.hostRead off w) := by
  unfold State.hostRead
  exact ite (dev h _) (request h _ _ _ _ _ fun x hx => ite hx (dev hx _))

theorem stagedWrite (h : State.Keeps s t) (b o v : Nat) (w k : Bool) : State.Keeps s (t.stagedWrite b o v w k) := by
  unfold State.stagedWrite
  exact ite (dev h _) (dev (writeNow h _ _ _) _)

theorem agreedWrite (h : State.Keeps s t) (o v : Nat) (w : Bool) : State.Keeps s (t.agreedWrite o v w) := by
  unfold State.agreedWrite
  exact ite (writeNow h _ _ _) (ite (dev h _) (dev h _))

theorem bringupWrite (h : State.Keeps s t) (v : Nat) : State.Keeps s (t.bringupWrite v) := by
  unfold State.bringupWrite
  have k : State.Keeps s (if bit v 1 then t.writeNow R.SYS_BRINGUP_CTRL.off 2 false else t) := ite (writeNow h _ _ _) h
  exact ite (agreedWrite k _ _ _) k

theorem writeOne (h : State.Keeps s t) (o v : Nat) (w : Bool) : State.Keeps s (t.writeOne o v w) := by
  unfold State.writeOne
  split
  · exact h
  · exact ite (doorbell h _) (ite (bringupWrite h _) (ite (stagedWrite h _ _ _ _ _) (ite (writeNow h _ _ _) (agreedWrite h _ _ _))))

theorem writeBar0 (h : State.Keeps s t) (o v : Nat) (w : Bool) : State.Keeps s (t.writeBar0 o v w) := by
  unfold State.writeBar0
  exact ite (dev h _) (ite (writeOne h _ _ _) (ite (writeOne (writeOne h _ _ _) _ _ _) (writeOne h _ _ _)))

theorem hostWrite (h : State.Keeps s t) (o v : Nat) (w : Bool) : State.Keeps s (t.hostWrite o v w) := by
  unfold State.hostWrite
  exact ite (dev h _) (request h _ _ _ _ _ fun x hx => ite hx (writeBar0 hx _ _ _))

theorem writeSame (h : State.Keeps s t) (o v : Nat) (w : Bool) (m : Nat) : State.Keeps s (t.writeSame o v w m) := by
  have k := hostWrite h o v w
  exact ite k (ite (dev k _) (dev k _))

theorem readBar4 (h : State.Keeps s t) (o : Nat) (w : Bool) : State.Keeps s (t.readBar4 o w) := by
  unfold State.readBar4
  refine ite (dev h _) (ite (dev h _) ?_)
  exact dev (readMem h 3 0 (o / 8)) _

theorem putBar4 (h : State.Keeps s t) (o v : Nat) (w p : Bool) : State.Keeps s (t.putBar4 o v w p) := by
  unfold State.putBar4
  refine ite (dev h _) (ite (dev h _) (ite h (ite (writeMem h _ _ _) ?_)))
  exact writeMem (readMem h 4 0 (o / 8)) _ _ _

theorem poison (h : State.Keeps s t) (o : Nat) (l : List Nat) : State.Keeps s (t.poison o l) := by
  fun_induction State.poison t o l with
  | case1 => exact h
  | case2 => exact putBar4 h _ _ _ _
  | case3 => exact h
  | case4 => exact h
  | case5 _ _ _ _ _ _ _ ih => exact ih (putBar4 h _ _ _ _)
  | case6 _ _ _ _ _ _ _ ih => exact ih (putBar4 h _ _ _ _)

theorem poisonedWrite (h : State.Keeps s t) (b o : Nat) (l : List Nat) : State.Keeps s (t.poisonedWrite b o l) := by
  unfold State.poisonedWrite
  exact ite h (ite (dev h _) (ite (poison (dev h _) _ _) (dev h _)))

theorem access (h : State.Keeps s t) (b o z : Nat) (w : Bool) (v : Nat) : State.Keeps s (t.access b o z w v) := by
  unfold State.access
  dsimp only
  refine ite (ite (hostWrite h _ _ _) (hostRead h _ _)) (request h _ _ _ _ _ fun x hx => ?_)
  exact ite (dev hx _) (ite (readBar4 hx _ _) (ite hx (putBar4 hx _ _ _ _)))

theorem misaligned (h : State.Keeps s t) (b o z : Nat) (w : Bool) (l : List Byte) : State.Keeps s (t.misaligned b o z w l) := by
  unfold State.misaligned
  exact foldl _ _ (fun x p => ite (access refl _ _ _ _ _) (request refl _ _ _ _ _ fun y hy => hy)) h

/-! ### Encoders, screening, legacy lines, a tick -/

theorem screenScan (h : State.Keeps s t) (n : Nat) (bad : List (Nat × Nat)) : State.Keeps s (t.screenScan n bad) := by
  unfold State.screenScan
  dsimp only
  split
  · exact dev h _
  · exact h

theorem legacyFrame (h : State.Keeps s t) (b : List Nat) : State.Keeps s (t.legacyFrame b) := by
  unfold State.legacyFrame
  dsimp only
  split
  · exact h
  split
  · exact dev h _
  · exact dev h _
  · exact dev h _
  · exact dev (ite (foldl _ _ (fun x w => writeMem refl _ _ _) h) h) _

theorem tick (h : State.Keeps s t) : State.Keeps s t.tick := idleCheck (dev h _)

end Keeps

end Sys2Proof.Machine
end

