-- ==== Sys2Proof/Laws/Ops.lean ====
section
/-! SUPPORT. What each shared operation leaves: one lemma per operation and field, and the registers it leaves; what it does to the
registers it writes. -/

namespace Sys2Proof.Machine

/-! ### post -/

/-- All that post can change. -/
theorem Dev.post_shape (d : Dev) (v : Nat) : ∃ x0 x1, d.post v = { d with regs := x0, out := x1 } := by
  unfold Dev.post; split
  · exact ⟨_, _, rfl⟩
  split
  · exact ⟨_, _, rfl⟩
  · exact ⟨_, _, rfl⟩
@[simp] theorem Dev.post_active (d : Dev) (v : Nat) : (d.post v).active = d.active := by
  obtain ⟨_, _, h⟩ := d.post_shape v; rw [h]
@[simp] theorem Dev.post_ready (d : Dev) (v : Nat) : (d.post v).ready = d.ready := by
  obtain ⟨_, _, h⟩ := d.post_shape v; rw [h]
@[simp] theorem Dev.post_actTbl (d : Dev) (v : Nat) : (d.post v).actTbl = d.actTbl := by
  obtain ⟨_, _, h⟩ := d.post_shape v; rw [h]
@[simp] theorem Dev.post_tbl (d : Dev) (v : Nat) : (d.post v).tbl = d.tbl := by
  obtain ⟨_, _, h⟩ := d.post_shape v; rw [h]
@[simp] theorem Dev.post_tblChk (d : Dev) (v : Nat) : (d.post v).tblChk = d.tblChk := by
  obtain ⟨_, _, h⟩ := d.post_shape v; rw [h]
@[simp] theorem Dev.post_free (d : Dev) (v : Nat) : (d.post v).free = d.free := by
  obtain ⟨_, _, h⟩ := d.post_shape v; rw [h]
@[simp] theorem Dev.post_sys (d : Dev) (v : Nat) : (d.post v).sys = d.sys := by
  obtain ⟨_, _, h⟩ := d.post_shape v; rw [h]
@[simp] theorem Dev.post_frd (d : Dev) (v : Nat) : (d.post v).frd = d.frd := by
  obtain ⟨_, _, h⟩ := d.post_shape v; rw [h]
@[simp] theorem Dev.post_evt (d : Dev) (v : Nat) : (d.post v).evt = d.evt := by
  obtain ⟨_, _, h⟩ := d.post_shape v; rw [h]
@[simp] theorem Dev.post_sht (d : Dev) (v : Nat) : (d.post v).sht = d.sht := by
  obtain ⟨_, _, h⟩ := d.post_shape v; rw [h]
@[simp] theorem Dev.post_flt (d : Dev) (v : Nat) : (d.post v).flt = d.flt := by
  obtain ⟨_, _, h⟩ := d.post_shape v; rw [h]
@[simp] theorem Dev.post_host (d : Dev) (v : Nat) : (d.post v).host = d.host := by
  obtain ⟨_, _, h⟩ := d.post_shape v; rw [h]
@[simp] theorem Dev.post_ch (d : Dev) (v : Nat) : (d.post v).ch = d.ch := by
  obtain ⟨_, _, h⟩ := d.post_shape v; rw [h]
@[simp] theorem Dev.post_bld (d : Dev) (v : Nat) : (d.post v).bld = d.bld := by
  obtain ⟨_, _, h⟩ := d.post_shape v; rw [h]
@[simp] theorem Dev.post_dcb (d : Dev) (v : Nat) : (d.post v).dcb = d.dcb := by
  obtain ⟨_, _, h⟩ := d.post_shape v; rw [h]
@[simp] theorem Dev.post_stp (d : Dev) (v : Nat) : (d.post v).stp = d.stp := by
  obtain ⟨_, _, h⟩ := d.post_shape v; rw [h]
@[simp] theorem Dev.post_inp (d : Dev) (v : Nat) : (d.post v).inp = d.inp := by
  obtain ⟨_, _, h⟩ := d.post_shape v; rw [h]
@[simp] theorem Dev.post_loop (d : Dev) (v : Nat) : (d.post v).loop = d.loop := by
  obtain ⟨_, _, h⟩ := d.post_shape v; rw [h]
@[simp] theorem Dev.post_outU (d : Dev) (v : Nat) : (d.post v).outU = d.outU := by
  obtain ⟨_, _, h⟩ := d.post_shape v; rw [h]
@[simp] theorem Dev.post_twn (d : Dev) (v : Nat) : (d.post v).twn = d.twn := by
  obtain ⟨_, _, h⟩ := d.post_shape v; rw [h]
@[simp] theorem Dev.post_memx (d : Dev) (v : Nat) : (d.post v).memx = d.memx := by
  obtain ⟨_, _, h⟩ := d.post_shape v; rw [h]
@[simp] theorem Dev.post_dmaq (d : Dev) (v : Nat) : (d.post v).dmaq = d.dmaq := by
  obtain ⟨_, _, h⟩ := d.post_shape v; rw [h]
@[simp] theorem Dev.post_dmaLast (d : Dev) (v : Nat) : (d.post v).dmaLast = d.dmaLast := by
  obtain ⟨_, _, h⟩ := d.post_shape v; rw [h]
@[simp] theorem Dev.post_rng (d : Dev) (v : Nat) : (d.post v).rng = d.rng := by
  obtain ⟨_, _, h⟩ := d.post_shape v; rw [h]
@[simp] theorem Dev.post_tblMark (d : Dev) (v : Nat) : (d.post v).tblMark = d.tblMark := by
  obtain ⟨_, _, h⟩ := d.post_shape v; rw [h]
@[simp] theorem Dev.post_tmp (d : Dev) (v : Nat) : (d.post v).tmp = d.tmp := by
  obtain ⟨_, _, h⟩ := d.post_shape v; rw [h]
@[simp] theorem Dev.post_clk (d : Dev) (v : Nat) : (d.post v).clk = d.clk := by
  obtain ⟨_, _, h⟩ := d.post_shape v; rw [h]
@[simp] theorem Dev.post_pwr (d : Dev) (v : Nat) : (d.post v).pwr = d.pwr := by
  obtain ⟨_, _, h⟩ := d.post_shape v; rw [h]
@[simp] theorem Dev.post_cal (d : Dev) (v : Nat) : (d.post v).cal = d.cal := by
  obtain ⟨_, _, h⟩ := d.post_shape v; rw [h]
@[simp] theorem Dev.post_lg (d : Dev) (v : Nat) : (d.post v).lg = d.lg := by
  obtain ⟨_, _, h⟩ := d.post_shape v; rw [h]
theorem Dev.rd_post_ne (d : Dev) (v : Nat) (r : Reg) (h0 : r.off ≠ R.MSIX_PBA.off) : (d.post v).rd r = d.rd r := by
  unfold Dev.post; split_ifs
  · rfl
  · exact Dev.rd_wr_ne _ _ _ _ h0
  · rfl
theorem Dev.get_post_ne (d : Dev) (v : Nat) (g : Fld) (h0 : g.reg.off ≠ R.MSIX_PBA.off) : (d.post v).get g = d.get g := by
  rw [Dev.get, Dev.rd_post_ne _ _ _ h0, Dev.get]
theorem Dev.on_post_ne (d : Dev) (v : Nat) (g : Fld) (h0 : g.reg.off ≠ R.MSIX_PBA.off) : (d.post v).on g = d.on g := by
  rw [Dev.on, Dev.get_post_ne _ _ _ h0, Dev.on]

/-! ### flag -/

/-- All that flag can change. -/
theorem Dev.flag_shape (d : Dev) (st en : Reg) (k v : Nat) : ∃ x0 x1, d.flag st en k v = { d with regs := x0, out := x1 } := by
  unfold Dev.flag; dsimp only; split
  · obtain ⟨x, y, h⟩ := (d.wr st (putBits (d.rd st) k k 1)).post_shape v
    exact ⟨x, y, h⟩
  · exact ⟨_, _, rfl⟩
@[simp] theorem Dev.flag_active (d : Dev) (st en : Reg) (k v : Nat) : (d.flag st en k v).active = d.active := by
  obtain ⟨_, _, h⟩ := d.flag_shape st en k v; rw [h]
@[simp] theorem Dev.flag_ready (d : Dev) (st en : Reg) (k v : Nat) : (d.flag st en k v).ready = d.ready := by
  obtain ⟨_, _, h⟩ := d.flag_shape st en k v; rw [h]
@[simp] theorem Dev.flag_actTbl (d : Dev) (st en : Reg) (k v : Nat) : (d.flag st en k v).actTbl = d.actTbl := by
  obtain ⟨_, _, h⟩ := d.flag_shape st en k v; rw [h]
@[simp] theorem Dev.flag_tbl (d : Dev) (st en : Reg) (k v : Nat) : (d.flag st en k v).tbl = d.tbl := by
  obtain ⟨_, _, h⟩ := d.flag_shape st en k v; rw [h]
@[simp] theorem Dev.flag_tblChk (d : Dev) (st en : Reg) (k v : Nat) : (d.flag st en k v).tblChk = d.tblChk := by
  obtain ⟨_, _, h⟩ := d.flag_shape st en k v; rw [h]
@[simp] theorem Dev.flag_free (d : Dev) (st en : Reg) (k v : Nat) : (d.flag st en k v).free = d.free := by
  obtain ⟨_, _, h⟩ := d.flag_shape st en k v; rw [h]
@[simp] theorem Dev.flag_sys (d : Dev) (st en : Reg) (k v : Nat) : (d.flag st en k v).sys = d.sys := by
  obtain ⟨_, _, h⟩ := d.flag_shape st en k v; rw [h]
@[simp] theorem Dev.flag_frd (d : Dev) (st en : Reg) (k v : Nat) : (d.flag st en k v).frd = d.frd := by
  obtain ⟨_, _, h⟩ := d.flag_shape st en k v; rw [h]
@[simp] theorem Dev.flag_evt (d : Dev) (st en : Reg) (k v : Nat) : (d.flag st en k v).evt = d.evt := by
  obtain ⟨_, _, h⟩ := d.flag_shape st en k v; rw [h]
@[simp] theorem Dev.flag_sht (d : Dev) (st en : Reg) (k v : Nat) : (d.flag st en k v).sht = d.sht := by
  obtain ⟨_, _, h⟩ := d.flag_shape st en k v; rw [h]
@[simp] theorem Dev.flag_flt (d : Dev) (st en : Reg) (k v : Nat) : (d.flag st en k v).flt = d.flt := by
  obtain ⟨_, _, h⟩ := d.flag_shape st en k v; rw [h]
@[simp] theorem Dev.flag_host (d : Dev) (st en : Reg) (k v : Nat) : (d.flag st en k v).host = d.host := by
  obtain ⟨_, _, h⟩ := d.flag_shape st en k v; rw [h]
@[simp] theorem Dev.flag_ch (d : Dev) (st en : Reg) (k v : Nat) : (d.flag st en k v).ch = d.ch := by
  obtain ⟨_, _, h⟩ := d.flag_shape st en k v; rw [h]
@[simp] theorem Dev.flag_bld (d : Dev) (st en : Reg) (k v : Nat) : (d.flag st en k v).bld = d.bld := by
  obtain ⟨_, _, h⟩ := d.flag_shape st en k v; rw [h]
@[simp] theorem Dev.flag_dcb (d : Dev) (st en : Reg) (k v : Nat) : (d.flag st en k v).dcb = d.dcb := by
  obtain ⟨_, _, h⟩ := d.flag_shape st en k v; rw [h]
@[simp] theorem Dev.flag_stp (d : Dev) (st en : Reg) (k v : Nat) : (d.flag st en k v).stp = d.stp := by
  obtain ⟨_, _, h⟩ := d.flag_shape st en k v; rw [h]
@[simp] theorem Dev.flag_inp (d : Dev) (st en : Reg) (k v : Nat) : (d.flag st en k v).inp = d.inp := by
  obtain ⟨_, _, h⟩ := d.flag_shape st en k v; rw [h]
@[simp] theorem Dev.flag_loop (d : Dev) (st en : Reg) (k v : Nat) : (d.flag st en k v).loop = d.loop := by
  obtain ⟨_, _, h⟩ := d.flag_shape st en k v; rw [h]
@[simp] theorem Dev.flag_outU (d : Dev) (st en : Reg) (k v : Nat) : (d.flag st en k v).outU = d.outU := by
  obtain ⟨_, _, h⟩ := d.flag_shape st en k v; rw [h]
@[simp] theorem Dev.flag_twn (d : Dev) (st en : Reg) (k v : Nat) : (d.flag st en k v).twn = d.twn := by
  obtain ⟨_, _, h⟩ := d.flag_shape st en k v; rw [h]
@[simp] theorem Dev.flag_memx (d : Dev) (st en : Reg) (k v : Nat) : (d.flag st en k v).memx = d.memx := by
  obtain ⟨_, _, h⟩ := d.flag_shape st en k v; rw [h]
@[simp] theorem Dev.flag_dmaq (d : Dev) (st en : Reg) (k v : Nat) : (d.flag st en k v).dmaq = d.dmaq := by
  obtain ⟨_, _, h⟩ := d.flag_shape st en k v; rw [h]
@[simp] theorem Dev.flag_dmaLast (d : Dev) (st en : Reg) (k v : Nat) : (d.flag st en k v).dmaLast = d.dmaLast := by
  obtain ⟨_, _, h⟩ := d.flag_shape st en k v; rw [h]
@[simp] theorem Dev.flag_rng (d : Dev) (st en : Reg) (k v : Nat) : (d.flag st en k v).rng = d.rng := by
  obtain ⟨_, _, h⟩ := d.flag_shape st en k v; rw [h]
@[simp] theorem Dev.flag_tblMark (d : Dev) (st en : Reg) (k v : Nat) : (d.flag st en k v).tblMark = d.tblMark := by
  obtain ⟨_, _, h⟩ := d.flag_shape st en k v; rw [h]
@[simp] theorem Dev.flag_tmp (d : Dev) (st en : Reg) (k v : Nat) : (d.flag st en k v).tmp = d.tmp := by
  obtain ⟨_, _, h⟩ := d.flag_shape st en k v; rw [h]
@[simp] theorem Dev.flag_clk (d : Dev) (st en : Reg) (k v : Nat) : (d.flag st en k v).clk = d.clk := by
  obtain ⟨_, _, h⟩ := d.flag_shape st en k v; rw [h]
@[simp] theorem Dev.flag_pwr (d : Dev) (st en : Reg) (k v : Nat) : (d.flag st en k v).pwr = d.pwr := by
  obtain ⟨_, _, h⟩ := d.flag_shape st en k v; rw [h]
@[simp] theorem Dev.flag_cal (d : Dev) (st en : Reg) (k v : Nat) : (d.flag st en k v).cal = d.cal := by
  obtain ⟨_, _, h⟩ := d.flag_shape st en k v; rw [h]
@[simp] theorem Dev.flag_lg (d : Dev) (st en : Reg) (k v : Nat) : (d.flag st en k v).lg = d.lg := by
  obtain ⟨_, _, h⟩ := d.flag_shape st en k v; rw [h]
theorem Dev.rd_flag_ne (d : Dev) (st en : Reg) (k v : Nat) (r : Reg) (h0 : r.off ≠ st.off) (h1 : r.off ≠ R.MSIX_PBA.off) : (d.flag st en k v).rd r = d.rd r := by
  unfold Dev.flag; dsimp only; split_ifs
  · rw [Dev.rd_post_ne _ _ _ h1, Dev.rd_wr_ne _ _ _ _ h0]
  · rw [Dev.rd_wr_ne _ _ _ _ h0]
theorem Dev.get_flag_ne (d : Dev) (st en : Reg) (k v : Nat) (g : Fld) (h0 : g.reg.off ≠ st.off) (h1 : g.reg.off ≠ R.MSIX_PBA.off) : (d.flag st en k v).get g = d.get g := by
  rw [Dev.get, Dev.rd_flag_ne _ _ _ _ _ _ h0 h1, Dev.get]
theorem Dev.on_flag_ne (d : Dev) (st en : Reg) (k v : Nat) (g : Fld) (h0 : g.reg.off ≠ st.off) (h1 : g.reg.off ≠ R.MSIX_PBA.off) : (d.flag st en k v).on g = d.on g := by
  rw [Dev.on, Dev.get_flag_ne _ _ _ _ _ _ h0 h1, Dev.on]

/-! ### flagAlways -/

/-- All that flagAlways can change. -/
theorem Dev.flagAlways_shape (d : Dev) (st : Reg) (k v : Nat) : ∃ x0 x1, d.flagAlways st k v = { d with regs := x0, out := x1 } := by
  obtain ⟨x, y, h⟩ := (d.wr st (putBits (d.rd st) k k 1)).post_shape v
  exact ⟨x, y, h⟩
@[simp] theorem Dev.flagAlways_active (d : Dev) (st : Reg) (k v : Nat) : (d.flagAlways st k v).active = d.active := by
  obtain ⟨_, _, h⟩ := d.flagAlways_shape st k v; rw [h]
@[simp] theorem Dev.flagAlways_ready (d : Dev) (st : Reg) (k v : Nat) : (d.flagAlways st k v).ready = d.ready := by
  obtain ⟨_, _, h⟩ := d.flagAlways_shape st k v; rw [h]
@[simp] theorem Dev.flagAlways_actTbl (d : Dev) (st : Reg) (k v : Nat) : (d.flagAlways st k v).actTbl = d.actTbl := by
  obtain ⟨_, _, h⟩ := d.flagAlways_shape st k v; rw [h]
@[simp] theorem Dev.flagAlways_tbl (d : Dev) (st : Reg) (k v : Nat) : (d.flagAlways st k v).tbl = d.tbl := by
  obtain ⟨_, _, h⟩ := d.flagAlways_shape st k v; rw [h]
@[simp] theorem Dev.flagAlways_tblChk (d : Dev) (st : Reg) (k v : Nat) : (d.flagAlways st k v).tblChk = d.tblChk := by
  obtain ⟨_, _, h⟩ := d.flagAlways_shape st k v; rw [h]
@[simp] theorem Dev.flagAlways_free (d : Dev) (st : Reg) (k v : Nat) : (d.flagAlways st k v).free = d.free := by
  obtain ⟨_, _, h⟩ := d.flagAlways_shape st k v; rw [h]
@[simp] theorem Dev.flagAlways_sys (d : Dev) (st : Reg) (k v : Nat) : (d.flagAlways st k v).sys = d.sys := by
  obtain ⟨_, _, h⟩ := d.flagAlways_shape st k v; rw [h]
@[simp] theorem Dev.flagAlways_frd (d : Dev) (st : Reg) (k v : Nat) : (d.flagAlways st k v).frd = d.frd := by
  obtain ⟨_, _, h⟩ := d.flagAlways_shape st k v; rw [h]
@[simp] theorem Dev.flagAlways_evt (d : Dev) (st : Reg) (k v : Nat) : (d.flagAlways st k v).evt = d.evt := by
  obtain ⟨_, _, h⟩ := d.flagAlways_shape st k v; rw [h]
@[simp] theorem Dev.flagAlways_sht (d : Dev) (st : Reg) (k v : Nat) : (d.flagAlways st k v).sht = d.sht := by
  obtain ⟨_, _, h⟩ := d.flagAlways_shape st k v; rw [h]
@[simp] theorem Dev.flagAlways_flt (d : Dev) (st : Reg) (k v : Nat) : (d.flagAlways st k v).flt = d.flt := by
  obtain ⟨_, _, h⟩ := d.flagAlways_shape st k v; rw [h]
@[simp] theorem Dev.flagAlways_host (d : Dev) (st : Reg) (k v : Nat) : (d.flagAlways st k v).host = d.host := by
  obtain ⟨_, _, h⟩ := d.flagAlways_shape st k v; rw [h]
@[simp] theorem Dev.flagAlways_ch (d : Dev) (st : Reg) (k v : Nat) : (d.flagAlways st k v).ch = d.ch := by
  obtain ⟨_, _, h⟩ := d.flagAlways_shape st k v; rw [h]
@[simp] theorem Dev.flagAlways_bld (d : Dev) (st : Reg) (k v : Nat) : (d.flagAlways st k v).bld = d.bld := by
  obtain ⟨_, _, h⟩ := d.flagAlways_shape st k v; rw [h]
@[simp] theorem Dev.flagAlways_dcb (d : Dev) (st : Reg) (k v : Nat) : (d.flagAlways st k v).dcb = d.dcb := by
  obtain ⟨_, _, h⟩ := d.flagAlways_shape st k v; rw [h]
@[simp] theorem Dev.flagAlways_stp (d : Dev) (st : Reg) (k v : Nat) : (d.flagAlways st k v).stp = d.stp := by
  obtain ⟨_, _, h⟩ := d.flagAlways_shape st k v; rw [h]
@[simp] theorem Dev.flagAlways_inp (d : Dev) (st : Reg) (k v : Nat) : (d.flagAlways st k v).inp = d.inp := by
  obtain ⟨_, _, h⟩ := d.flagAlways_shape st k v; rw [h]
@[simp] theorem Dev.flagAlways_loop (d : Dev) (st : Reg) (k v : Nat) : (d.flagAlways st k v).loop = d.loop := by
  obtain ⟨_, _, h⟩ := d.flagAlways_shape st k v; rw [h]
@[simp] theorem Dev.flagAlways_outU (d : Dev) (st : Reg) (k v : Nat) : (d.flagAlways st k v).outU = d.outU := by
  obtain ⟨_, _, h⟩ := d.flagAlways_shape st k v; rw [h]
@[simp] theorem Dev.flagAlways_twn (d : Dev) (st : Reg) (k v : Nat) : (d.flagAlways st k v).twn = d.twn := by
  obtain ⟨_, _, h⟩ := d.flagAlways_shape st k v; rw [h]
@[simp] theorem Dev.flagAlways_memx (d : Dev) (st : Reg) (k v : Nat) : (d.flagAlways st k v).memx = d.memx := by
  obtain ⟨_, _, h⟩ := d.flagAlways_shape st k v; rw [h]
@[simp] theorem Dev.flagAlways_dmaq (d : Dev) (st : Reg) (k v : Nat) : (d.flagAlways st k v).dmaq = d.dmaq := by
  obtain ⟨_, _, h⟩ := d.flagAlways_shape st k v; rw [h]
@[simp] theorem Dev.flagAlways_dmaLast (d : Dev) (st : Reg) (k v : Nat) : (d.flagAlways st k v).dmaLast = d.dmaLast := by
  obtain ⟨_, _, h⟩ := d.flagAlways_shape st k v; rw [h]
@[simp] theorem Dev.flagAlways_rng (d : Dev) (st : Reg) (k v : Nat) : (d.flagAlways st k v).rng = d.rng := by
  obtain ⟨_, _, h⟩ := d.flagAlways_shape st k v; rw [h]
@[simp] theorem Dev.flagAlways_tblMark (d : Dev) (st : Reg) (k v : Nat) : (d.flagAlways st k v).tblMark = d.tblMark := by
  obtain ⟨_, _, h⟩ := d.flagAlways_shape st k v; rw [h]
@[simp] theorem Dev.flagAlways_tmp (d : Dev) (st : Reg) (k v : Nat) : (d.flagAlways st k v).tmp = d.tmp := by
  obtain ⟨_, _, h⟩ := d.flagAlways_shape st k v; rw [h]
@[simp] theorem Dev.flagAlways_clk (d : Dev) (st : Reg) (k v : Nat) : (d.flagAlways st k v).clk = d.clk := by
  obtain ⟨_, _, h⟩ := d.flagAlways_shape st k v; rw [h]
@[simp] theorem Dev.flagAlways_pwr (d : Dev) (st : Reg) (k v : Nat) : (d.flagAlways st k v).pwr = d.pwr := by
  obtain ⟨_, _, h⟩ := d.flagAlways_shape st k v; rw [h]
@[simp] theorem Dev.flagAlways_cal (d : Dev) (st : Reg) (k v : Nat) : (d.flagAlways st k v).cal = d.cal := by
  obtain ⟨_, _, h⟩ := d.flagAlways_shape st k v; rw [h]
@[simp] theorem Dev.flagAlways_lg (d : Dev) (st : Reg) (k v : Nat) : (d.flagAlways st k v).lg = d.lg := by
  obtain ⟨_, _, h⟩ := d.flagAlways_shape st k v; rw [h]
theorem Dev.rd_flagAlways_ne (d : Dev) (st : Reg) (k v : Nat) (r : Reg) (h0 : r.off ≠ st.off) (h1 : r.off ≠ R.MSIX_PBA.off) : (d.flagAlways st k v).rd r = d.rd r := by
  unfold Dev.flagAlways
  rw [Dev.rd_post_ne _ _ _ h1, Dev.rd_wr_ne _ _ _ _ h0]
theorem Dev.get_flagAlways_ne (d : Dev) (st : Reg) (k v : Nat) (g : Fld) (h0 : g.reg.off ≠ st.off) (h1 : g.reg.off ≠ R.MSIX_PBA.off) : (d.flagAlways st k v).get g = d.get g := by
  rw [Dev.get, Dev.rd_flagAlways_ne _ _ _ _ _ h0 h1, Dev.get]
theorem Dev.on_flagAlways_ne (d : Dev) (st : Reg) (k v : Nat) (g : Fld) (h0 : g.reg.off ≠ st.off) (h1 : g.reg.off ≠ R.MSIX_PBA.off) : (d.flagAlways st k v).on g = d.on g := by
  rw [Dev.on, Dev.get_flagAlways_ne _ _ _ _ _ h0 h1, Dev.on]

/-! ### evtFlag -/

/-- All that evtFlag can change. -/
theorem Dev.evtFlag_shape (d : Dev) (k : Nat) : ∃ x0 x1, d.evtFlag k = { d with regs := x0, out := x1 } := by
  exact d.flag_shape _ _ _ _
@[simp] theorem Dev.evtFlag_active (d : Dev) (k : Nat) : (d.evtFlag k).active = d.active := by
  obtain ⟨_, _, h⟩ := d.evtFlag_shape k; rw [h]
@[simp] theorem Dev.evtFlag_ready (d : Dev) (k : Nat) : (d.evtFlag k).ready = d.ready := by
  obtain ⟨_, _, h⟩ := d.evtFlag_shape k; rw [h]
@[simp] theorem Dev.evtFlag_actTbl (d : Dev) (k : Nat) : (d.evtFlag k).actTbl = d.actTbl := by
  obtain ⟨_, _, h⟩ := d.evtFlag_shape k; rw [h]
@[simp] theorem Dev.evtFlag_tbl (d : Dev) (k : Nat) : (d.evtFlag k).tbl = d.tbl := by
  obtain ⟨_, _, h⟩ := d.evtFlag_shape k; rw [h]
@[simp] theorem Dev.evtFlag_tblChk (d : Dev) (k : Nat) : (d.evtFlag k).tblChk = d.tblChk := by
  obtain ⟨_, _, h⟩ := d.evtFlag_shape k; rw [h]
@[simp] theorem Dev.evtFlag_free (d : Dev) (k : Nat) : (d.evtFlag k).free = d.free := by
  obtain ⟨_, _, h⟩ := d.evtFlag_shape k; rw [h]
@[simp] theorem Dev.evtFlag_sys (d : Dev) (k : Nat) : (d.evtFlag k).sys = d.sys := by
  obtain ⟨_, _, h⟩ := d.evtFlag_shape k; rw [h]
@[simp] theorem Dev.evtFlag_frd (d : Dev) (k : Nat) : (d.evtFlag k).frd = d.frd := by
  obtain ⟨_, _, h⟩ := d.evtFlag_shape k; rw [h]
@[simp] theorem Dev.evtFlag_evt (d : Dev) (k : Nat) : (d.evtFlag k).evt = d.evt := by
  obtain ⟨_, _, h⟩ := d.evtFlag_shape k; rw [h]
@[simp] theorem Dev.evtFlag_sht (d : Dev) (k : Nat) : (d.evtFlag k).sht = d.sht := by
  obtain ⟨_, _, h⟩ := d.evtFlag_shape k; rw [h]
@[simp] theorem Dev.evtFlag_flt (d : Dev) (k : Nat) : (d.evtFlag k).flt = d.flt := by
  obtain ⟨_, _, h⟩ := d.evtFlag_shape k; rw [h]
@[simp] theorem Dev.evtFlag_host (d : Dev) (k : Nat) : (d.evtFlag k).host = d.host := by
  obtain ⟨_, _, h⟩ := d.evtFlag_shape k; rw [h]
@[simp] theorem Dev.evtFlag_ch (d : Dev) (k : Nat) : (d.evtFlag k).ch = d.ch := by
  obtain ⟨_, _, h⟩ := d.evtFlag_shape k; rw [h]
@[simp] theorem Dev.evtFlag_bld (d : Dev) (k : Nat) : (d.evtFlag k).bld = d.bld := by
  obtain ⟨_, _, h⟩ := d.evtFlag_shape k; rw [h]
@[simp] theorem Dev.evtFlag_dcb (d : Dev) (k : Nat) : (d.evtFlag k).dcb = d.dcb := by
  obtain ⟨_, _, h⟩ := d.evtFlag_shape k; rw [h]
@[simp] theorem Dev.evtFlag_stp (d : Dev) (k : Nat) : (d.evtFlag k).stp = d.stp := by
  obtain ⟨_, _, h⟩ := d.evtFlag_shape k; rw [h]
@[simp] theorem Dev.evtFlag_inp (d : Dev) (k : Nat) : (d.evtFlag k).inp = d.inp := by
  obtain ⟨_, _, h⟩ := d.evtFlag_shape k; rw [h]
@[simp] theorem Dev.evtFlag_loop (d : Dev) (k : Nat) : (d.evtFlag k).loop = d.loop := by
  obtain ⟨_, _, h⟩ := d.evtFlag_shape k; rw [h]
@[simp] theorem Dev.evtFlag_outU (d : Dev) (k : Nat) : (d.evtFlag k).outU = d.outU := by
  obtain ⟨_, _, h⟩ := d.evtFlag_shape k; rw [h]
@[simp] theorem Dev.evtFlag_twn (d : Dev) (k : Nat) : (d.evtFlag k).twn = d.twn := by
  obtain ⟨_, _, h⟩ := d.evtFlag_shape k; rw [h]
@[simp] theorem Dev.evtFlag_memx (d : Dev) (k : Nat) : (d.evtFlag k).memx = d.memx := by
  obtain ⟨_, _, h⟩ := d.evtFlag_shape k; rw [h]
@[simp] theorem Dev.evtFlag_dmaq (d : Dev) (k : Nat) : (d.evtFlag k).dmaq = d.dmaq := by
  obtain ⟨_, _, h⟩ := d.evtFlag_shape k; rw [h]
@[simp] theorem Dev.evtFlag_dmaLast (d : Dev) (k : Nat) : (d.evtFlag k).dmaLast = d.dmaLast := by
  obtain ⟨_, _, h⟩ := d.evtFlag_shape k; rw [h]
@[simp] theorem Dev.evtFlag_rng (d : Dev) (k : Nat) : (d.evtFlag k).rng = d.rng := by
  obtain ⟨_, _, h⟩ := d.evtFlag_shape k; rw [h]
@[simp] theorem Dev.evtFlag_tblMark (d : Dev) (k : Nat) : (d.evtFlag k).tblMark = d.tblMark := by
  obtain ⟨_, _, h⟩ := d.evtFlag_shape k; rw [h]
@[simp] theorem Dev.evtFlag_tmp (d : Dev) (k : Nat) : (d.evtFlag k).tmp = d.tmp := by
  obtain ⟨_, _, h⟩ := d.evtFlag_shape k; rw [h]
@[simp] theorem Dev.evtFlag_clk (d : Dev) (k : Nat) : (d.evtFlag k).clk = d.clk := by
  obtain ⟨_, _, h⟩ := d.evtFlag_shape k; rw [h]
@[simp] theorem Dev.evtFlag_pwr (d : Dev) (k : Nat) : (d.evtFlag k).pwr = d.pwr := by
  obtain ⟨_, _, h⟩ := d.evtFlag_shape k; rw [h]
@[simp] theorem Dev.evtFlag_cal (d : Dev) (k : Nat) : (d.evtFlag k).cal = d.cal := by
  obtain ⟨_, _, h⟩ := d.evtFlag_shape k; rw [h]
@[simp] theorem Dev.evtFlag_lg (d : Dev) (k : Nat) : (d.evtFlag k).lg = d.lg := by
  obtain ⟨_, _, h⟩ := d.evtFlag_shape k; rw [h]
theorem Dev.rd_evtFlag_ne (d : Dev) (k : Nat) (r : Reg) (h0 : r.off ≠ R.EVT_STATUS.off) (h1 : r.off ≠ R.MSIX_PBA.off) : (d.evtFlag k).rd r = d.rd r := by
  exact Dev.rd_flag_ne _ _ _ _ _ _ h0 h1
theorem Dev.get_evtFlag_ne (d : Dev) (k : Nat) (g : Fld) (h0 : g.reg.off ≠ R.EVT_STATUS.off) (h1 : g.reg.off ≠ R.MSIX_PBA.off) : (d.evtFlag k).get g = d.get g := by
  rw [Dev.get, Dev.rd_evtFlag_ne _ _ _ h0 h1, Dev.get]
theorem Dev.on_evtFlag_ne (d : Dev) (k : Nat) (g : Fld) (h0 : g.reg.off ≠ R.EVT_STATUS.off) (h1 : g.reg.off ≠ R.MSIX_PBA.off) : (d.evtFlag k).on g = d.on g := by
  rw [Dev.on, Dev.get_evtFlag_ne _ _ _ h0 h1, Dev.on]

/-! ### shtFlag -/

/-- All that shtFlag can change. -/
theorem Dev.shtFlag_shape (d : Dev) (k : Nat) : ∃ x0 x1, d.shtFlag k = { d with regs := x0, out := x1 } := by
  exact d.flag_shape _ _ _ _
@[simp] theorem Dev.shtFlag_active (d : Dev) (k : Nat) : (d.shtFlag k).active = d.active := by
  obtain ⟨_, _, h⟩ := d.shtFlag_shape k; rw [h]
@[simp] theorem Dev.shtFlag_ready (d : Dev) (k : Nat) : (d.shtFlag k).ready = d.ready := by
  obtain ⟨_, _, h⟩ := d.shtFlag_shape k; rw [h]
@[simp] theorem Dev.shtFlag_actTbl (d : Dev) (k : Nat) : (d.shtFlag k).actTbl = d.actTbl := by
  obtain ⟨_, _, h⟩ := d.shtFlag_shape k; rw [h]
@[simp] theorem Dev.shtFlag_tbl (d : Dev) (k : Nat) : (d.shtFlag k).tbl = d.tbl := by
  obtain ⟨_, _, h⟩ := d.shtFlag_shape k; rw [h]
@[simp] theorem Dev.shtFlag_tblChk (d : Dev) (k : Nat) : (d.shtFlag k).tblChk = d.tblChk := by
  obtain ⟨_, _, h⟩ := d.shtFlag_shape k; rw [h]
@[simp] theorem Dev.shtFlag_free (d : Dev) (k : Nat) : (d.shtFlag k).free = d.free := by
  obtain ⟨_, _, h⟩ := d.shtFlag_shape k; rw [h]
@[simp] theorem Dev.shtFlag_sys (d : Dev) (k : Nat) : (d.shtFlag k).sys = d.sys := by
  obtain ⟨_, _, h⟩ := d.shtFlag_shape k; rw [h]
@[simp] theorem Dev.shtFlag_frd (d : Dev) (k : Nat) : (d.shtFlag k).frd = d.frd := by
  obtain ⟨_, _, h⟩ := d.shtFlag_shape k; rw [h]
@[simp] theorem Dev.shtFlag_evt (d : Dev) (k : Nat) : (d.shtFlag k).evt = d.evt := by
  obtain ⟨_, _, h⟩ := d.shtFlag_shape k; rw [h]
@[simp] theorem Dev.shtFlag_sht (d : Dev) (k : Nat) : (d.shtFlag k).sht = d.sht := by
  obtain ⟨_, _, h⟩ := d.shtFlag_shape k; rw [h]
@[simp] theorem Dev.shtFlag_flt (d : Dev) (k : Nat) : (d.shtFlag k).flt = d.flt := by
  obtain ⟨_, _, h⟩ := d.shtFlag_shape k; rw [h]
@[simp] theorem Dev.shtFlag_host (d : Dev) (k : Nat) : (d.shtFlag k).host = d.host := by
  obtain ⟨_, _, h⟩ := d.shtFlag_shape k; rw [h]
@[simp] theorem Dev.shtFlag_ch (d : Dev) (k : Nat) : (d.shtFlag k).ch = d.ch := by
  obtain ⟨_, _, h⟩ := d.shtFlag_shape k; rw [h]
@[simp] theorem Dev.shtFlag_bld (d : Dev) (k : Nat) : (d.shtFlag k).bld = d.bld := by
  obtain ⟨_, _, h⟩ := d.shtFlag_shape k; rw [h]
@[simp] theorem Dev.shtFlag_dcb (d : Dev) (k : Nat) : (d.shtFlag k).dcb = d.dcb := by
  obtain ⟨_, _, h⟩ := d.shtFlag_shape k; rw [h]
@[simp] theorem Dev.shtFlag_stp (d : Dev) (k : Nat) : (d.shtFlag k).stp = d.stp := by
  obtain ⟨_, _, h⟩ := d.shtFlag_shape k; rw [h]
@[simp] theorem Dev.shtFlag_inp (d : Dev) (k : Nat) : (d.shtFlag k).inp = d.inp := by
  obtain ⟨_, _, h⟩ := d.shtFlag_shape k; rw [h]
@[simp] theorem Dev.shtFlag_loop (d : Dev) (k : Nat) : (d.shtFlag k).loop = d.loop := by
  obtain ⟨_, _, h⟩ := d.shtFlag_shape k; rw [h]
@[simp] theorem Dev.shtFlag_outU (d : Dev) (k : Nat) : (d.shtFlag k).outU = d.outU := by
  obtain ⟨_, _, h⟩ := d.shtFlag_shape k; rw [h]
@[simp] theorem Dev.shtFlag_twn (d : Dev) (k : Nat) : (d.shtFlag k).twn = d.twn := by
  obtain ⟨_, _, h⟩ := d.shtFlag_shape k; rw [h]
@[simp] theorem Dev.shtFlag_memx (d : Dev) (k : Nat) : (d.shtFlag k).memx = d.memx := by
  obtain ⟨_, _, h⟩ := d.shtFlag_shape k; rw [h]
@[simp] theorem Dev.shtFlag_dmaq (d : Dev) (k : Nat) : (d.shtFlag k).dmaq = d.dmaq := by
  obtain ⟨_, _, h⟩ := d.shtFlag_shape k; rw [h]
@[simp] theorem Dev.shtFlag_dmaLast (d : Dev) (k : Nat) : (d.shtFlag k).dmaLast = d.dmaLast := by
  obtain ⟨_, _, h⟩ := d.shtFlag_shape k; rw [h]
@[simp] theorem Dev.shtFlag_rng (d : Dev) (k : Nat) : (d.shtFlag k).rng = d.rng := by
  obtain ⟨_, _, h⟩ := d.shtFlag_shape k; rw [h]
@[simp] theorem Dev.shtFlag_tblMark (d : Dev) (k : Nat) : (d.shtFlag k).tblMark = d.tblMark := by
  obtain ⟨_, _, h⟩ := d.shtFlag_shape k; rw [h]
@[simp] theorem Dev.shtFlag_tmp (d : Dev) (k : Nat) : (d.shtFlag k).tmp = d.tmp := by
  obtain ⟨_, _, h⟩ := d.shtFlag_shape k; rw [h]
@[simp] theorem Dev.shtFlag_clk (d : Dev) (k : Nat) : (d.shtFlag k).clk = d.clk := by
  obtain ⟨_, _, h⟩ := d.shtFlag_shape k; rw [h]
@[simp] theorem Dev.shtFlag_pwr (d : Dev) (k : Nat) : (d.shtFlag k).pwr = d.pwr := by
  obtain ⟨_, _, h⟩ := d.shtFlag_shape k; rw [h]
@[simp] theorem Dev.shtFlag_cal (d : Dev) (k : Nat) : (d.shtFlag k).cal = d.cal := by
  obtain ⟨_, _, h⟩ := d.shtFlag_shape k; rw [h]
@[simp] theorem Dev.shtFlag_lg (d : Dev) (k : Nat) : (d.shtFlag k).lg = d.lg := by
  obtain ⟨_, _, h⟩ := d.shtFlag_shape k; rw [h]
theorem Dev.rd_shtFlag_ne (d : Dev) (k : Nat) (r : Reg) (h0 : r.off ≠ R.SHT_STATUS.off) (h1 : r.off ≠ R.MSIX_PBA.off) : (d.shtFlag k).rd r = d.rd r := by
  exact Dev.rd_flag_ne _ _ _ _ _ _ h0 h1
theorem Dev.get_shtFlag_ne (d : Dev) (k : Nat) (g : Fld) (h0 : g.reg.off ≠ R.SHT_STATUS.off) (h1 : g.reg.off ≠ R.MSIX_PBA.off) : (d.shtFlag k).get g = d.get g := by
  rw [Dev.get, Dev.rd_shtFlag_ne _ _ _ h0 h1, Dev.get]
theorem Dev.on_shtFlag_ne (d : Dev) (k : Nat) (g : Fld) (h0 : g.reg.off ≠ R.SHT_STATUS.off) (h1 : g.reg.off ≠ R.MSIX_PBA.off) : (d.shtFlag k).on g = d.on g := by
  rw [Dev.on, Dev.get_shtFlag_ne _ _ _ h0 h1, Dev.on]

/-! ### calFlag -/

/-- All that calFlag can change. -/
theorem Dev.calFlag_shape (d : Dev) (k : Nat) : ∃ x0 x1, d.calFlag k = { d with regs := x0, out := x1 } := by
  exact d.flag_shape _ _ _ _
@[simp] theorem Dev.calFlag_active (d : Dev) (k : Nat) : (d.calFlag k).active = d.active := by
  obtain ⟨_, _, h⟩ := d.calFlag_shape k; rw [h]
@[simp] theorem Dev.calFlag_ready (d : Dev) (k : Nat) : (d.calFlag k).ready = d.ready := by
  obtain ⟨_, _, h⟩ := d.calFlag_shape k; rw [h]
@[simp] theorem Dev.calFlag_actTbl (d : Dev) (k : Nat) : (d.calFlag k).actTbl = d.actTbl := by
  obtain ⟨_, _, h⟩ := d.calFlag_shape k; rw [h]
@[simp] theorem Dev.calFlag_tbl (d : Dev) (k : Nat) : (d.calFlag k).tbl = d.tbl := by
  obtain ⟨_, _, h⟩ := d.calFlag_shape k; rw [h]
@[simp] theorem Dev.calFlag_tblChk (d : Dev) (k : Nat) : (d.calFlag k).tblChk = d.tblChk := by
  obtain ⟨_, _, h⟩ := d.calFlag_shape k; rw [h]
@[simp] theorem Dev.calFlag_free (d : Dev) (k : Nat) : (d.calFlag k).free = d.free := by
  obtain ⟨_, _, h⟩ := d.calFlag_shape k; rw [h]
@[simp] theorem Dev.calFlag_sys (d : Dev) (k : Nat) : (d.calFlag k).sys = d.sys := by
  obtain ⟨_, _, h⟩ := d.calFlag_shape k; rw [h]
@[simp] theorem Dev.calFlag_frd (d : Dev) (k : Nat) : (d.calFlag k).frd = d.frd := by
  obtain ⟨_, _, h⟩ := d.calFlag_shape k; rw [h]
@[simp] theorem Dev.calFlag_evt (d : Dev) (k : Nat) : (d.calFlag k).evt = d.evt := by
  obtain ⟨_, _, h⟩ := d.calFlag_shape k; rw [h]
@[simp] theorem Dev.calFlag_sht (d : Dev) (k : Nat) : (d.calFlag k).sht = d.sht := by
  obtain ⟨_, _, h⟩ := d.calFlag_shape k; rw [h]
@[simp] theorem Dev.calFlag_flt (d : Dev) (k : Nat) : (d.calFlag k).flt = d.flt := by
  obtain ⟨_, _, h⟩ := d.calFlag_shape k; rw [h]
@[simp] theorem Dev.calFlag_host (d : Dev) (k : Nat) : (d.calFlag k).host = d.host := by
  obtain ⟨_, _, h⟩ := d.calFlag_shape k; rw [h]
@[simp] theorem Dev.calFlag_ch (d : Dev) (k : Nat) : (d.calFlag k).ch = d.ch := by
  obtain ⟨_, _, h⟩ := d.calFlag_shape k; rw [h]
@[simp] theorem Dev.calFlag_bld (d : Dev) (k : Nat) : (d.calFlag k).bld = d.bld := by
  obtain ⟨_, _, h⟩ := d.calFlag_shape k; rw [h]
@[simp] theorem Dev.calFlag_dcb (d : Dev) (k : Nat) : (d.calFlag k).dcb = d.dcb := by
  obtain ⟨_, _, h⟩ := d.calFlag_shape k; rw [h]
@[simp] theorem Dev.calFlag_stp (d : Dev) (k : Nat) : (d.calFlag k).stp = d.stp := by
  obtain ⟨_, _, h⟩ := d.calFlag_shape k; rw [h]
@[simp] theorem Dev.calFlag_inp (d : Dev) (k : Nat) : (d.calFlag k).inp = d.inp := by
  obtain ⟨_, _, h⟩ := d.calFlag_shape k; rw [h]
@[simp] theorem Dev.calFlag_loop (d : Dev) (k : Nat) : (d.calFlag k).loop = d.loop := by
  obtain ⟨_, _, h⟩ := d.calFlag_shape k; rw [h]
@[simp] theorem Dev.calFlag_outU (d : Dev) (k : Nat) : (d.calFlag k).outU = d.outU := by
  obtain ⟨_, _, h⟩ := d.calFlag_shape k; rw [h]
@[simp] theorem Dev.calFlag_twn (d : Dev) (k : Nat) : (d.calFlag k).twn = d.twn := by
  obtain ⟨_, _, h⟩ := d.calFlag_shape k; rw [h]
@[simp] theorem Dev.calFlag_memx (d : Dev) (k : Nat) : (d.calFlag k).memx = d.memx := by
  obtain ⟨_, _, h⟩ := d.calFlag_shape k; rw [h]
@[simp] theorem Dev.calFlag_dmaq (d : Dev) (k : Nat) : (d.calFlag k).dmaq = d.dmaq := by
  obtain ⟨_, _, h⟩ := d.calFlag_shape k; rw [h]
@[simp] theorem Dev.calFlag_dmaLast (d : Dev) (k : Nat) : (d.calFlag k).dmaLast = d.dmaLast := by
  obtain ⟨_, _, h⟩ := d.calFlag_shape k; rw [h]
@[simp] theorem Dev.calFlag_rng (d : Dev) (k : Nat) : (d.calFlag k).rng = d.rng := by
  obtain ⟨_, _, h⟩ := d.calFlag_shape k; rw [h]
@[simp] theorem Dev.calFlag_tblMark (d : Dev) (k : Nat) : (d.calFlag k).tblMark = d.tblMark := by
  obtain ⟨_, _, h⟩ := d.calFlag_shape k; rw [h]
@[simp] theorem Dev.calFlag_tmp (d : Dev) (k : Nat) : (d.calFlag k).tmp = d.tmp := by
  obtain ⟨_, _, h⟩ := d.calFlag_shape k; rw [h]
@[simp] theorem Dev.calFlag_clk (d : Dev) (k : Nat) : (d.calFlag k).clk = d.clk := by
  obtain ⟨_, _, h⟩ := d.calFlag_shape k; rw [h]
@[simp] theorem Dev.calFlag_pwr (d : Dev) (k : Nat) : (d.calFlag k).pwr = d.pwr := by
  obtain ⟨_, _, h⟩ := d.calFlag_shape k; rw [h]
@[simp] theorem Dev.calFlag_cal (d : Dev) (k : Nat) : (d.calFlag k).cal = d.cal := by
  obtain ⟨_, _, h⟩ := d.calFlag_shape k; rw [h]
@[simp] theorem Dev.calFlag_lg (d : Dev) (k : Nat) : (d.calFlag k).lg = d.lg := by
  obtain ⟨_, _, h⟩ := d.calFlag_shape k; rw [h]
theorem Dev.rd_calFlag_ne (d : Dev) (k : Nat) (r : Reg) (h0 : r.off ≠ R.CAL_IRQ_STATUS.off) (h1 : r.off ≠ R.MSIX_PBA.off) : (d.calFlag k).rd r = d.rd r := by
  exact Dev.rd_flag_ne _ _ _ _ _ _ h0 h1
theorem Dev.get_calFlag_ne (d : Dev) (k : Nat) (g : Fld) (h0 : g.reg.off ≠ R.CAL_IRQ_STATUS.off) (h1 : g.reg.off ≠ R.MSIX_PBA.off) : (d.calFlag k).get g = d.get g := by
  rw [Dev.get, Dev.rd_calFlag_ne _ _ _ h0 h1, Dev.get]
theorem Dev.on_calFlag_ne (d : Dev) (k : Nat) (g : Fld) (h0 : g.reg.off ≠ R.CAL_IRQ_STATUS.off) (h1 : g.reg.off ≠ R.MSIX_PBA.off) : (d.calFlag k).on g = d.on g := by
  rw [Dev.on, Dev.get_calFlag_ne _ _ _ h0 h1, Dev.on]

/-! ### fltFlag -/

/-- All that fltFlag can change. -/
theorem Dev.fltFlag_shape (d : Dev) (k : Nat) : ∃ x0 x1, d.fltFlag k = { d with regs := x0, out := x1 } := by
  unfold Dev.fltFlag; split
  · exact d.flagAlways_shape _ _ _
  · exact d.flag_shape _ _ _ _
@[simp] theorem Dev.fltFlag_active (d : Dev) (k : Nat) : (d.fltFlag k).active = d.active := by
  obtain ⟨_, _, h⟩ := d.fltFlag_shape k; rw [h]
@[simp] theorem Dev.fltFlag_ready (d : Dev) (k : Nat) : (d.fltFlag k).ready = d.ready := by
  obtain ⟨_, _, h⟩ := d.fltFlag_shape k; rw [h]
@[simp] theorem Dev.fltFlag_actTbl (d : Dev) (k : Nat) : (d.fltFlag k).actTbl = d.actTbl := by
  obtain ⟨_, _, h⟩ := d.fltFlag_shape k; rw [h]
@[simp] theorem Dev.fltFlag_tbl (d : Dev) (k : Nat) : (d.fltFlag k).tbl = d.tbl := by
  obtain ⟨_, _, h⟩ := d.fltFlag_shape k; rw [h]
@[simp] theorem Dev.fltFlag_tblChk (d : Dev) (k : Nat) : (d.fltFlag k).tblChk = d.tblChk := by
  obtain ⟨_, _, h⟩ := d.fltFlag_shape k; rw [h]
@[simp] theorem Dev.fltFlag_free (d : Dev) (k : Nat) : (d.fltFlag k).free = d.free := by
  obtain ⟨_, _, h⟩ := d.fltFlag_shape k; rw [h]
@[simp] theorem Dev.fltFlag_sys (d : Dev) (k : Nat) : (d.fltFlag k).sys = d.sys := by
  obtain ⟨_, _, h⟩ := d.fltFlag_shape k; rw [h]
@[simp] theorem Dev.fltFlag_frd (d : Dev) (k : Nat) : (d.fltFlag k).frd = d.frd := by
  obtain ⟨_, _, h⟩ := d.fltFlag_shape k; rw [h]
@[simp] theorem Dev.fltFlag_evt (d : Dev) (k : Nat) : (d.fltFlag k).evt = d.evt := by
  obtain ⟨_, _, h⟩ := d.fltFlag_shape k; rw [h]
@[simp] theorem Dev.fltFlag_sht (d : Dev) (k : Nat) : (d.fltFlag k).sht = d.sht := by
  obtain ⟨_, _, h⟩ := d.fltFlag_shape k; rw [h]
@[simp] theorem Dev.fltFlag_flt (d : Dev) (k : Nat) : (d.fltFlag k).flt = d.flt := by
  obtain ⟨_, _, h⟩ := d.fltFlag_shape k; rw [h]
@[simp] theorem Dev.fltFlag_host (d : Dev) (k : Nat) : (d.fltFlag k).host = d.host := by
  obtain ⟨_, _, h⟩ := d.fltFlag_shape k; rw [h]
@[simp] theorem Dev.fltFlag_ch (d : Dev) (k : Nat) : (d.fltFlag k).ch = d.ch := by
  obtain ⟨_, _, h⟩ := d.fltFlag_shape k; rw [h]
@[simp] theorem Dev.fltFlag_bld (d : Dev) (k : Nat) : (d.fltFlag k).bld = d.bld := by
  obtain ⟨_, _, h⟩ := d.fltFlag_shape k; rw [h]
@[simp] theorem Dev.fltFlag_dcb (d : Dev) (k : Nat) : (d.fltFlag k).dcb = d.dcb := by
  obtain ⟨_, _, h⟩ := d.fltFlag_shape k; rw [h]
@[simp] theorem Dev.fltFlag_stp (d : Dev) (k : Nat) : (d.fltFlag k).stp = d.stp := by
  obtain ⟨_, _, h⟩ := d.fltFlag_shape k; rw [h]
@[simp] theorem Dev.fltFlag_inp (d : Dev) (k : Nat) : (d.fltFlag k).inp = d.inp := by
  obtain ⟨_, _, h⟩ := d.fltFlag_shape k; rw [h]
@[simp] theorem Dev.fltFlag_loop (d : Dev) (k : Nat) : (d.fltFlag k).loop = d.loop := by
  obtain ⟨_, _, h⟩ := d.fltFlag_shape k; rw [h]
@[simp] theorem Dev.fltFlag_outU (d : Dev) (k : Nat) : (d.fltFlag k).outU = d.outU := by
  obtain ⟨_, _, h⟩ := d.fltFlag_shape k; rw [h]
@[simp] theorem Dev.fltFlag_twn (d : Dev) (k : Nat) : (d.fltFlag k).twn = d.twn := by
  obtain ⟨_, _, h⟩ := d.fltFlag_shape k; rw [h]
@[simp] theorem Dev.fltFlag_memx (d : Dev) (k : Nat) : (d.fltFlag k).memx = d.memx := by
  obtain ⟨_, _, h⟩ := d.fltFlag_shape k; rw [h]
@[simp] theorem Dev.fltFlag_dmaq (d : Dev) (k : Nat) : (d.fltFlag k).dmaq = d.dmaq := by
  obtain ⟨_, _, h⟩ := d.fltFlag_shape k; rw [h]
@[simp] theorem Dev.fltFlag_dmaLast (d : Dev) (k : Nat) : (d.fltFlag k).dmaLast = d.dmaLast := by
  obtain ⟨_, _, h⟩ := d.fltFlag_shape k; rw [h]
@[simp] theorem Dev.fltFlag_rng (d : Dev) (k : Nat) : (d.fltFlag k).rng = d.rng := by
  obtain ⟨_, _, h⟩ := d.fltFlag_shape k; rw [h]
@[simp] theorem Dev.fltFlag_tblMark (d : Dev) (k : Nat) : (d.fltFlag k).tblMark = d.tblMark := by
  obtain ⟨_, _, h⟩ := d.fltFlag_shape k; rw [h]
@[simp] theorem Dev.fltFlag_tmp (d : Dev) (k : Nat) : (d.fltFlag k).tmp = d.tmp := by
  obtain ⟨_, _, h⟩ := d.fltFlag_shape k; rw [h]
@[simp] theorem Dev.fltFlag_clk (d : Dev) (k : Nat) : (d.fltFlag k).clk = d.clk := by
  obtain ⟨_, _, h⟩ := d.fltFlag_shape k; rw [h]
@[simp] theorem Dev.fltFlag_pwr (d : Dev) (k : Nat) : (d.fltFlag k).pwr = d.pwr := by
  obtain ⟨_, _, h⟩ := d.fltFlag_shape k; rw [h]
@[simp] theorem Dev.fltFlag_cal (d : Dev) (k : Nat) : (d.fltFlag k).cal = d.cal := by
  obtain ⟨_, _, h⟩ := d.fltFlag_shape k; rw [h]
@[simp] theorem Dev.fltFlag_lg (d : Dev) (k : Nat) : (d.fltFlag k).lg = d.lg := by
  obtain ⟨_, _, h⟩ := d.fltFlag_shape k; rw [h]
theorem Dev.rd_fltFlag_ne (d : Dev) (k : Nat) (r : Reg) (h0 : r.off ≠ R.FLT_IRQ_STATUS.off) (h1 : r.off ≠ R.MSIX_PBA.off) : (d.fltFlag k).rd r = d.rd r := by
  unfold Dev.fltFlag; split_ifs
  · exact Dev.rd_flagAlways_ne _ _ _ _ _ h0 h1
  · exact Dev.rd_flag_ne _ _ _ _ _ _ h0 h1
theorem Dev.get_fltFlag_ne (d : Dev) (k : Nat) (g : Fld) (h0 : g.reg.off ≠ R.FLT_IRQ_STATUS.off) (h1 : g.reg.off ≠ R.MSIX_PBA.off) : (d.fltFlag k).get g = d.get g := by
  rw [Dev.get, Dev.rd_fltFlag_ne _ _ _ h0 h1, Dev.get]
theorem Dev.on_fltFlag_ne (d : Dev) (k : Nat) (g : Fld) (h0 : g.reg.off ≠ R.FLT_IRQ_STATUS.off) (h1 : g.reg.off ≠ R.MSIX_PBA.off) : (d.fltFlag k).on g = d.on g := by
  rw [Dev.on, Dev.get_fltFlag_ne _ _ _ h0 h1, Dev.on]

/-! ### strobe -/

/-- All that strobe can change. -/
theorem Dev.strobe_shape (d : Dev) (x : Strobe) : ∃ x0 x1, d.strobe x = { d with regs := x0, flt := x1 } := by
  unfold Dev.strobe; split
  · exact ⟨_, _, rfl⟩
  · exact ⟨_, _, rfl⟩
theorem Dev.rd_strobe_ne (d : Dev) (x : Strobe) (r : Reg) (h0 : r.off ≠ (R.FLT_SRCi_STATE x.src).off) : (d.strobe x).rd r = d.rd r := by
  unfold Dev.strobe; split_ifs
  · exact Dev.rd_wr_ne _ _ _ _ h0
  · rfl

/-! ### reportAt -/

/-- All that reportAt can change. -/
theorem Dev.reportAt_shape (d : Dev) (a b c t : Nat) : ∃ x0 x1, d.reportAt a b c t = { d with regs := x0, flt := x1 } := by
  exact d.strobe_shape _
@[simp] theorem Dev.reportAt_active (d : Dev) (a b c t : Nat) : (d.reportAt a b c t).active = d.active := by
  obtain ⟨_, _, h⟩ := d.reportAt_shape a b c t; rw [h]
@[simp] theorem Dev.reportAt_ready (d : Dev) (a b c t : Nat) : (d.reportAt a b c t).ready = d.ready := by
  obtain ⟨_, _, h⟩ := d.reportAt_shape a b c t; rw [h]
@[simp] theorem Dev.reportAt_actTbl (d : Dev) (a b c t : Nat) : (d.reportAt a b c t).actTbl = d.actTbl := by
  obtain ⟨_, _, h⟩ := d.reportAt_shape a b c t; rw [h]
@[simp] theorem Dev.reportAt_tbl (d : Dev) (a b c t : Nat) : (d.reportAt a b c t).tbl = d.tbl := by
  obtain ⟨_, _, h⟩ := d.reportAt_shape a b c t; rw [h]
@[simp] theorem Dev.reportAt_tblChk (d : Dev) (a b c t : Nat) : (d.reportAt a b c t).tblChk = d.tblChk := by
  obtain ⟨_, _, h⟩ := d.reportAt_shape a b c t; rw [h]
@[simp] theorem Dev.reportAt_out (d : Dev) (a b c t : Nat) : (d.reportAt a b c t).out = d.out := by
  obtain ⟨_, _, h⟩ := d.reportAt_shape a b c t; rw [h]
@[simp] theorem Dev.reportAt_free (d : Dev) (a b c t : Nat) : (d.reportAt a b c t).free = d.free := by
  obtain ⟨_, _, h⟩ := d.reportAt_shape a b c t; rw [h]
@[simp] theorem Dev.reportAt_sys (d : Dev) (a b c t : Nat) : (d.reportAt a b c t).sys = d.sys := by
  obtain ⟨_, _, h⟩ := d.reportAt_shape a b c t; rw [h]
@[simp] theorem Dev.reportAt_frd (d : Dev) (a b c t : Nat) : (d.reportAt a b c t).frd = d.frd := by
  obtain ⟨_, _, h⟩ := d.reportAt_shape a b c t; rw [h]
@[simp] theorem Dev.reportAt_evt (d : Dev) (a b c t : Nat) : (d.reportAt a b c t).evt = d.evt := by
  obtain ⟨_, _, h⟩ := d.reportAt_shape a b c t; rw [h]
@[simp] theorem Dev.reportAt_sht (d : Dev) (a b c t : Nat) : (d.reportAt a b c t).sht = d.sht := by
  obtain ⟨_, _, h⟩ := d.reportAt_shape a b c t; rw [h]
@[simp] theorem Dev.reportAt_host (d : Dev) (a b c t : Nat) : (d.reportAt a b c t).host = d.host := by
  obtain ⟨_, _, h⟩ := d.reportAt_shape a b c t; rw [h]
@[simp] theorem Dev.reportAt_ch (d : Dev) (a b c t : Nat) : (d.reportAt a b c t).ch = d.ch := by
  obtain ⟨_, _, h⟩ := d.reportAt_shape a b c t; rw [h]
@[simp] theorem Dev.reportAt_bld (d : Dev) (a b c t : Nat) : (d.reportAt a b c t).bld = d.bld := by
  obtain ⟨_, _, h⟩ := d.reportAt_shape a b c t; rw [h]
@[simp] theorem Dev.reportAt_dcb (d : Dev) (a b c t : Nat) : (d.reportAt a b c t).dcb = d.dcb := by
  obtain ⟨_, _, h⟩ := d.reportAt_shape a b c t; rw [h]
@[simp] theorem Dev.reportAt_stp (d : Dev) (a b c t : Nat) : (d.reportAt a b c t).stp = d.stp := by
  obtain ⟨_, _, h⟩ := d.reportAt_shape a b c t; rw [h]
@[simp] theorem Dev.reportAt_inp (d : Dev) (a b c t : Nat) : (d.reportAt a b c t).inp = d.inp := by
  obtain ⟨_, _, h⟩ := d.reportAt_shape a b c t; rw [h]
@[simp] theorem Dev.reportAt_loop (d : Dev) (a b c t : Nat) : (d.reportAt a b c t).loop = d.loop := by
  obtain ⟨_, _, h⟩ := d.reportAt_shape a b c t; rw [h]
@[simp] theorem Dev.reportAt_outU (d : Dev) (a b c t : Nat) : (d.reportAt a b c t).outU = d.outU := by
  obtain ⟨_, _, h⟩ := d.reportAt_shape a b c t; rw [h]
@[simp] theorem Dev.reportAt_twn (d : Dev) (a b c t : Nat) : (d.reportAt a b c t).twn = d.twn := by
  obtain ⟨_, _, h⟩ := d.reportAt_shape a b c t; rw [h]
@[simp] theorem Dev.reportAt_memx (d : Dev) (a b c t : Nat) : (d.reportAt a b c t).memx = d.memx := by
  obtain ⟨_, _, h⟩ := d.reportAt_shape a b c t; rw [h]
@[simp] theorem Dev.reportAt_dmaq (d : Dev) (a b c t : Nat) : (d.reportAt a b c t).dmaq = d.dmaq := by
  obtain ⟨_, _, h⟩ := d.reportAt_shape a b c t; rw [h]
@[simp] theorem Dev.reportAt_dmaLast (d : Dev) (a b c t : Nat) : (d.reportAt a b c t).dmaLast = d.dmaLast := by
  obtain ⟨_, _, h⟩ := d.reportAt_shape a b c t; rw [h]
@[simp] theorem Dev.reportAt_rng (d : Dev) (a b c t : Nat) : (d.reportAt a b c t).rng = d.rng := by
  obtain ⟨_, _, h⟩ := d.reportAt_shape a b c t; rw [h]
@[simp] theorem Dev.reportAt_tblMark (d : Dev) (a b c t : Nat) : (d.reportAt a b c t).tblMark = d.tblMark := by
  obtain ⟨_, _, h⟩ := d.reportAt_shape a b c t; rw [h]
@[simp] theorem Dev.reportAt_tmp (d : Dev) (a b c t : Nat) : (d.reportAt a b c t).tmp = d.tmp := by
  obtain ⟨_, _, h⟩ := d.reportAt_shape a b c t; rw [h]
@[simp] theorem Dev.reportAt_clk (d : Dev) (a b c t : Nat) : (d.reportAt a b c t).clk = d.clk := by
  obtain ⟨_, _, h⟩ := d.reportAt_shape a b c t; rw [h]
@[simp] theorem Dev.reportAt_pwr (d : Dev) (a b c t : Nat) : (d.reportAt a b c t).pwr = d.pwr := by
  obtain ⟨_, _, h⟩ := d.reportAt_shape a b c t; rw [h]
@[simp] theorem Dev.reportAt_cal (d : Dev) (a b c t : Nat) : (d.reportAt a b c t).cal = d.cal := by
  obtain ⟨_, _, h⟩ := d.reportAt_shape a b c t; rw [h]
@[simp] theorem Dev.reportAt_lg (d : Dev) (a b c t : Nat) : (d.reportAt a b c t).lg = d.lg := by
  obtain ⟨_, _, h⟩ := d.reportAt_shape a b c t; rw [h]
theorem Dev.rd_reportAt_ne (d : Dev) (a b c t : Nat) (r : Reg) (h0 : r.off ≠ (R.FLT_SRCi_STATE a).off) : (d.reportAt a b c t).rd r = d.rd r := by
  exact Dev.rd_strobe_ne _ _ _ h0
theorem Dev.get_reportAt_ne (d : Dev) (a b c t : Nat) (g : Fld) (h0 : g.reg.off ≠ (R.FLT_SRCi_STATE a).off) : (d.reportAt a b c t).get g = d.get g := by
  rw [Dev.get, Dev.rd_reportAt_ne _ _ _ _ _ _ h0, Dev.get]
theorem Dev.on_reportAt_ne (d : Dev) (a b c t : Nat) (g : Fld) (h0 : g.reg.off ≠ (R.FLT_SRCi_STATE a).off) : (d.reportAt a b c t).on g = d.on g := by
  rw [Dev.on, Dev.get_reportAt_ne _ _ _ _ _ _ h0, Dev.on]

/-! ### report -/

/-- All that report can change. -/
theorem Dev.report_shape (d : Dev) (a b c : Nat) : ∃ x0 x1, d.report a b c = { d with regs := x0, flt := x1 } := by
  exact d.reportAt_shape _ _ _ _
@[simp] theorem Dev.report_active (d : Dev) (a b c : Nat) : (d.report a b c).active = d.active := by
  obtain ⟨_, _, h⟩ := d.report_shape a b c; rw [h]
@[simp] theorem Dev.report_ready (d : Dev) (a b c : Nat) : (d.report a b c).ready = d.ready := by
  obtain ⟨_, _, h⟩ := d.report_shape a b c; rw [h]
@[simp] theorem Dev.report_actTbl (d : Dev) (a b c : Nat) : (d.report a b c).actTbl = d.actTbl := by
  obtain ⟨_, _, h⟩ := d.report_shape a b c; rw [h]
@[simp] theorem Dev.report_tbl (d : Dev) (a b c : Nat) : (d.report a b c).tbl = d.tbl := by
  obtain ⟨_, _, h⟩ := d.report_shape a b c; rw [h]
@[simp] theorem Dev.report_tblChk (d : Dev) (a b c : Nat) : (d.report a b c).tblChk = d.tblChk := by
  obtain ⟨_, _, h⟩ := d.report_shape a b c; rw [h]
@[simp] theorem Dev.report_out (d : Dev) (a b c : Nat) : (d.report a b c).out = d.out := by
  obtain ⟨_, _, h⟩ := d.report_shape a b c; rw [h]
@[simp] theorem Dev.report_free (d : Dev) (a b c : Nat) : (d.report a b c).free = d.free := by
  obtain ⟨_, _, h⟩ := d.report_shape a b c; rw [h]
@[simp] theorem Dev.report_sys (d : Dev) (a b c : Nat) : (d.report a b c).sys = d.sys := by
  obtain ⟨_, _, h⟩ := d.report_shape a b c; rw [h]
@[simp] theorem Dev.report_frd (d : Dev) (a b c : Nat) : (d.report a b c).frd = d.frd := by
  obtain ⟨_, _, h⟩ := d.report_shape a b c; rw [h]
@[simp] theorem Dev.report_evt (d : Dev) (a b c : Nat) : (d.report a b c).evt = d.evt := by
  obtain ⟨_, _, h⟩ := d.report_shape a b c; rw [h]
@[simp] theorem Dev.report_sht (d : Dev) (a b c : Nat) : (d.report a b c).sht = d.sht := by
  obtain ⟨_, _, h⟩ := d.report_shape a b c; rw [h]
@[simp] theorem Dev.report_host (d : Dev) (a b c : Nat) : (d.report a b c).host = d.host := by
  obtain ⟨_, _, h⟩ := d.report_shape a b c; rw [h]
@[simp] theorem Dev.report_ch (d : Dev) (a b c : Nat) : (d.report a b c).ch = d.ch := by
  obtain ⟨_, _, h⟩ := d.report_shape a b c; rw [h]
@[simp] theorem Dev.report_bld (d : Dev) (a b c : Nat) : (d.report a b c).bld = d.bld := by
  obtain ⟨_, _, h⟩ := d.report_shape a b c; rw [h]
@[simp] theorem Dev.report_dcb (d : Dev) (a b c : Nat) : (d.report a b c).dcb = d.dcb := by
  obtain ⟨_, _, h⟩ := d.report_shape a b c; rw [h]
@[simp] theorem Dev.report_stp (d : Dev) (a b c : Nat) : (d.report a b c).stp = d.stp := by
  obtain ⟨_, _, h⟩ := d.report_shape a b c; rw [h]
@[simp] theorem Dev.report_inp (d : Dev) (a b c : Nat) : (d.report a b c).inp = d.inp := by
  obtain ⟨_, _, h⟩ := d.report_shape a b c; rw [h]
@[simp] theorem Dev.report_loop (d : Dev) (a b c : Nat) : (d.report a b c).loop = d.loop := by
  obtain ⟨_, _, h⟩ := d.report_shape a b c; rw [h]
@[simp] theorem Dev.report_outU (d : Dev) (a b c : Nat) : (d.report a b c).outU = d.outU := by
  obtain ⟨_, _, h⟩ := d.report_shape a b c; rw [h]
@[simp] theorem Dev.report_twn (d : Dev) (a b c : Nat) : (d.report a b c).twn = d.twn := by
  obtain ⟨_, _, h⟩ := d.report_shape a b c; rw [h]
@[simp] theorem Dev.report_memx (d : Dev) (a b c : Nat) : (d.report a b c).memx = d.memx := by
  obtain ⟨_, _, h⟩ := d.report_shape a b c; rw [h]
@[simp] theorem Dev.report_dmaq (d : Dev) (a b c : Nat) : (d.report a b c).dmaq = d.dmaq := by
  obtain ⟨_, _, h⟩ := d.report_shape a b c; rw [h]
@[simp] theorem Dev.report_dmaLast (d : Dev) (a b c : Nat) : (d.report a b c).dmaLast = d.dmaLast := by
  obtain ⟨_, _, h⟩ := d.report_shape a b c; rw [h]
@[simp] theorem Dev.report_rng (d : Dev) (a b c : Nat) : (d.report a b c).rng = d.rng := by
  obtain ⟨_, _, h⟩ := d.report_shape a b c; rw [h]
@[simp] theorem Dev.report_tblMark (d : Dev) (a b c : Nat) : (d.report a b c).tblMark = d.tblMark := by
  obtain ⟨_, _, h⟩ := d.report_shape a b c; rw [h]
@[simp] theorem Dev.report_tmp (d : Dev) (a b c : Nat) : (d.report a b c).tmp = d.tmp := by
  obtain ⟨_, _, h⟩ := d.report_shape a b c; rw [h]
@[simp] theorem Dev.report_clk (d : Dev) (a b c : Nat) : (d.report a b c).clk = d.clk := by
  obtain ⟨_, _, h⟩ := d.report_shape a b c; rw [h]
@[simp] theorem Dev.report_pwr (d : Dev) (a b c : Nat) : (d.report a b c).pwr = d.pwr := by
  obtain ⟨_, _, h⟩ := d.report_shape a b c; rw [h]
@[simp] theorem Dev.report_cal (d : Dev) (a b c : Nat) : (d.report a b c).cal = d.cal := by
  obtain ⟨_, _, h⟩ := d.report_shape a b c; rw [h]
@[simp] theorem Dev.report_lg (d : Dev) (a b c : Nat) : (d.report a b c).lg = d.lg := by
  obtain ⟨_, _, h⟩ := d.report_shape a b c; rw [h]
theorem Dev.rd_report_ne (d : Dev) (a b c : Nat) (r : Reg) (h0 : r.off ≠ (R.FLT_SRCi_STATE a).off) : (d.report a b c).rd r = d.rd r := by
  exact Dev.rd_reportAt_ne _ _ _ _ _ _ h0
theorem Dev.get_report_ne (d : Dev) (a b c : Nat) (g : Fld) (h0 : g.reg.off ≠ (R.FLT_SRCi_STATE a).off) : (d.report a b c).get g = d.get g := by
  rw [Dev.get, Dev.rd_report_ne _ _ _ _ _ h0, Dev.get]
theorem Dev.on_report_ne (d : Dev) (a b c : Nat) (g : Fld) (h0 : g.reg.off ≠ (R.FLT_SRCi_STATE a).off) : (d.report a b c).on g = d.on g := by
  rw [Dev.on, Dev.get_report_ne _ _ _ _ _ h0, Dev.on]

/-! ### reportClass -/

/-- All that reportClass can change. -/
theorem Dev.reportClass_shape (d : Dev) (k a b c : Nat) : ∃ x0 x1, d.reportClass k a b c = { d with regs := x0, flt := x1 } :=
  d.strobe_shape _
@[simp] theorem Dev.reportClass_active (d : Dev) (k a b c : Nat) : (d.reportClass k a b c).active = d.active := by
  obtain ⟨_, _, h⟩ := d.reportClass_shape k a b c; rw [h]
@[simp] theorem Dev.reportClass_ready (d : Dev) (k a b c : Nat) : (d.reportClass k a b c).ready = d.ready := by
  obtain ⟨_, _, h⟩ := d.reportClass_shape k a b c; rw [h]
@[simp] theorem Dev.reportClass_actTbl (d : Dev) (k a b c : Nat) : (d.reportClass k a b c).actTbl = d.actTbl := by
  obtain ⟨_, _, h⟩ := d.reportClass_shape k a b c; rw [h]
@[simp] theorem Dev.reportClass_tbl (d : Dev) (k a b c : Nat) : (d.reportClass k a b c).tbl = d.tbl := by
  obtain ⟨_, _, h⟩ := d.reportClass_shape k a b c; rw [h]
@[simp] theorem Dev.reportClass_tblChk (d : Dev) (k a b c : Nat) : (d.reportClass k a b c).tblChk = d.tblChk := by
  obtain ⟨_, _, h⟩ := d.reportClass_shape k a b c; rw [h]
@[simp] theorem Dev.reportClass_out (d : Dev) (k a b c : Nat) : (d.reportClass k a b c).out = d.out := by
  obtain ⟨_, _, h⟩ := d.reportClass_shape k a b c; rw [h]
@[simp] theorem Dev.reportClass_free (d : Dev) (k a b c : Nat) : (d.reportClass k a b c).free = d.free := by
  obtain ⟨_, _, h⟩ := d.reportClass_shape k a b c; rw [h]
@[simp] theorem Dev.reportClass_sys (d : Dev) (k a b c : Nat) : (d.reportClass k a b c).sys = d.sys := by
  obtain ⟨_, _, h⟩ := d.reportClass_shape k a b c; rw [h]
@[simp] theorem Dev.reportClass_frd (d : Dev) (k a b c : Nat) : (d.reportClass k a b c).frd = d.frd := by
  obtain ⟨_, _, h⟩ := d.reportClass_shape k a b c; rw [h]
@[simp] theorem Dev.reportClass_evt (d : Dev) (k a b c : Nat) : (d.reportClass k a b c).evt = d.evt := by
  obtain ⟨_, _, h⟩ := d.reportClass_shape k a b c; rw [h]
@[simp] theorem Dev.reportClass_sht (d : Dev) (k a b c : Nat) : (d.reportClass k a b c).sht = d.sht := by
  obtain ⟨_, _, h⟩ := d.reportClass_shape k a b c; rw [h]
@[simp] theorem Dev.reportClass_host (d : Dev) (k a b c : Nat) : (d.reportClass k a b c).host = d.host := by
  obtain ⟨_, _, h⟩ := d.reportClass_shape k a b c; rw [h]
@[simp] theorem Dev.reportClass_ch (d : Dev) (k a b c : Nat) : (d.reportClass k a b c).ch = d.ch := by
  obtain ⟨_, _, h⟩ := d.reportClass_shape k a b c; rw [h]
@[simp] theorem Dev.reportClass_bld (d : Dev) (k a b c : Nat) : (d.reportClass k a b c).bld = d.bld := by
  obtain ⟨_, _, h⟩ := d.reportClass_shape k a b c; rw [h]
@[simp] theorem Dev.reportClass_dcb (d : Dev) (k a b c : Nat) : (d.reportClass k a b c).dcb = d.dcb := by
  obtain ⟨_, _, h⟩ := d.reportClass_shape k a b c; rw [h]
@[simp] theorem Dev.reportClass_stp (d : Dev) (k a b c : Nat) : (d.reportClass k a b c).stp = d.stp := by
  obtain ⟨_, _, h⟩ := d.reportClass_shape k a b c; rw [h]
@[simp] theorem Dev.reportClass_inp (d : Dev) (k a b c : Nat) : (d.reportClass k a b c).inp = d.inp := by
  obtain ⟨_, _, h⟩ := d.reportClass_shape k a b c; rw [h]
@[simp] theorem Dev.reportClass_loop (d : Dev) (k a b c : Nat) : (d.reportClass k a b c).loop = d.loop := by
  obtain ⟨_, _, h⟩ := d.reportClass_shape k a b c; rw [h]
@[simp] theorem Dev.reportClass_outU (d : Dev) (k a b c : Nat) : (d.reportClass k a b c).outU = d.outU := by
  obtain ⟨_, _, h⟩ := d.reportClass_shape k a b c; rw [h]
@[simp] theorem Dev.reportClass_twn (d : Dev) (k a b c : Nat) : (d.reportClass k a b c).twn = d.twn := by
  obtain ⟨_, _, h⟩ := d.reportClass_shape k a b c; rw [h]
@[simp] theorem Dev.reportClass_memx (d : Dev) (k a b c : Nat) : (d.reportClass k a b c).memx = d.memx := by
  obtain ⟨_, _, h⟩ := d.reportClass_shape k a b c; rw [h]
@[simp] theorem Dev.reportClass_dmaq (d : Dev) (k a b c : Nat) : (d.reportClass k a b c).dmaq = d.dmaq := by
  obtain ⟨_, _, h⟩ := d.reportClass_shape k a b c; rw [h]
@[simp] theorem Dev.reportClass_dmaLast (d : Dev) (k a b c : Nat) : (d.reportClass k a b c).dmaLast = d.dmaLast := by
  obtain ⟨_, _, h⟩ := d.reportClass_shape k a b c; rw [h]
@[simp] theorem Dev.reportClass_rng (d : Dev) (k a b c : Nat) : (d.reportClass k a b c).rng = d.rng := by
  obtain ⟨_, _, h⟩ := d.reportClass_shape k a b c; rw [h]
@[simp] theorem Dev.reportClass_tblMark (d : Dev) (k a b c : Nat) : (d.reportClass k a b c).tblMark = d.tblMark := by
  obtain ⟨_, _, h⟩ := d.reportClass_shape k a b c; rw [h]
@[simp] theorem Dev.reportClass_tmp (d : Dev) (k a b c : Nat) : (d.reportClass k a b c).tmp = d.tmp := by
  obtain ⟨_, _, h⟩ := d.reportClass_shape k a b c; rw [h]
@[simp] theorem Dev.reportClass_clk (d : Dev) (k a b c : Nat) : (d.reportClass k a b c).clk = d.clk := by
  obtain ⟨_, _, h⟩ := d.reportClass_shape k a b c; rw [h]
@[simp] theorem Dev.reportClass_pwr (d : Dev) (k a b c : Nat) : (d.reportClass k a b c).pwr = d.pwr := by
  obtain ⟨_, _, h⟩ := d.reportClass_shape k a b c; rw [h]
@[simp] theorem Dev.reportClass_cal (d : Dev) (k a b c : Nat) : (d.reportClass k a b c).cal = d.cal := by
  obtain ⟨_, _, h⟩ := d.reportClass_shape k a b c; rw [h]
@[simp] theorem Dev.reportClass_lg (d : Dev) (k a b c : Nat) : (d.reportClass k a b c).lg = d.lg := by
  obtain ⟨_, _, h⟩ := d.reportClass_shape k a b c; rw [h]
theorem Dev.rd_reportClass_ne (d : Dev) (k a b c : Nat) (r : Reg) (h0 : r.off ≠ (R.FLT_SRCi_STATE a).off) : (d.reportClass k a b c).rd r = d.rd r :=
  Dev.rd_strobe_ne _ _ _ h0
theorem Dev.get_reportClass_ne (d : Dev) (k a b c : Nat) (g : Fld) (h0 : g.reg.off ≠ (R.FLT_SRCi_STATE a).off) : (d.reportClass k a b c).get g = d.get g := by
  rw [Dev.get, Dev.rd_reportClass_ne _ _ _ _ _ _ h0, Dev.get]
theorem Dev.on_reportClass_ne (d : Dev) (k a b c : Nat) (g : Fld) (h0 : g.reg.off ≠ (R.FLT_SRCi_STATE a).off) : (d.reportClass k a b c).on g = d.on g := by
  rw [Dev.on, Dev.get_reportClass_ne _ _ _ _ _ _ h0, Dev.on]

/-! ### advance -/

/-- All that advance can change. -/
theorem Dev.advance_shape (d : Dev) (n : Nat) : ∃ x0 x1, d.advance n = { d with regs := x0, sys := x1 } := by
  unfold Dev.advance; dsimp only; split
  · exact ⟨_, _, rfl⟩
  · exact ⟨_, _, rfl⟩
@[simp] theorem Dev.advance_active (d : Dev) (n : Nat) : (d.advance n).active = d.active := by
  obtain ⟨_, _, h⟩ := d.advance_shape n; rw [h]
@[simp] theorem Dev.advance_ready (d : Dev) (n : Nat) : (d.advance n).ready = d.ready := by
  obtain ⟨_, _, h⟩ := d.advance_shape n; rw [h]
@[simp] theorem Dev.advance_actTbl (d : Dev) (n : Nat) : (d.advance n).actTbl = d.actTbl := by
  obtain ⟨_, _, h⟩ := d.advance_shape n; rw [h]
@[simp] theorem Dev.advance_tbl (d : Dev) (n : Nat) : (d.advance n).tbl = d.tbl := by
  obtain ⟨_, _, h⟩ := d.advance_shape n; rw [h]
@[simp] theorem Dev.advance_tblChk (d : Dev) (n : Nat) : (d.advance n).tblChk = d.tblChk := by
  obtain ⟨_, _, h⟩ := d.advance_shape n; rw [h]
@[simp] theorem Dev.advance_out (d : Dev) (n : Nat) : (d.advance n).out = d.out := by
  obtain ⟨_, _, h⟩ := d.advance_shape n; rw [h]
@[simp] theorem Dev.advance_free (d : Dev) (n : Nat) : (d.advance n).free = d.free := by
  obtain ⟨_, _, h⟩ := d.advance_shape n; rw [h]
@[simp] theorem Dev.advance_frd (d : Dev) (n : Nat) : (d.advance n).frd = d.frd := by
  obtain ⟨_, _, h⟩ := d.advance_shape n; rw [h]
@[simp] theorem Dev.advance_evt (d : Dev) (n : Nat) : (d.advance n).evt = d.evt := by
  obtain ⟨_, _, h⟩ := d.advance_shape n; rw [h]
@[simp] theorem Dev.advance_sht (d : Dev) (n : Nat) : (d.advance n).sht = d.sht := by
  obtain ⟨_, _, h⟩ := d.advance_shape n; rw [h]
@[simp] theorem Dev.advance_flt (d : Dev) (n : Nat) : (d.advance n).flt = d.flt := by
  obtain ⟨_, _, h⟩ := d.advance_shape n; rw [h]
@[simp] theorem Dev.advance_host (d : Dev) (n : Nat) : (d.advance n).host = d.host := by
  obtain ⟨_, _, h⟩ := d.advance_shape n; rw [h]
@[simp] theorem Dev.advance_ch (d : Dev) (n : Nat) : (d.advance n).ch = d.ch := by
  obtain ⟨_, _, h⟩ := d.advance_shape n; rw [h]
@[simp] theorem Dev.advance_bld (d : Dev) (n : Nat) : (d.advance n).bld = d.bld := by
  obtain ⟨_, _, h⟩ := d.advance_shape n; rw [h]
@[simp] theorem Dev.advance_dcb (d : Dev) (n : Nat) : (d.advance n).dcb = d.dcb := by
  obtain ⟨_, _, h⟩ := d.advance_shape n; rw [h]
@[simp] theorem Dev.advance_stp (d : Dev) (n : Nat) : (d.advance n).stp = d.stp := by
  obtain ⟨_, _, h⟩ := d.advance_shape n; rw [h]
@[simp] theorem Dev.advance_inp (d : Dev) (n : Nat) : (d.advance n).inp = d.inp := by
  obtain ⟨_, _, h⟩ := d.advance_shape n; rw [h]
@[simp] theorem Dev.advance_loop (d : Dev) (n : Nat) : (d.advance n).loop = d.loop := by
  obtain ⟨_, _, h⟩ := d.advance_shape n; rw [h]
@[simp] theorem Dev.advance_outU (d : Dev) (n : Nat) : (d.advance n).outU = d.outU := by
  obtain ⟨_, _, h⟩ := d.advance_shape n; rw [h]
@[simp] theorem Dev.advance_twn (d : Dev) (n : Nat) : (d.advance n).twn = d.twn := by
  obtain ⟨_, _, h⟩ := d.advance_shape n; rw [h]
@[simp] theorem Dev.advance_memx (d : Dev) (n : Nat) : (d.advance n).memx = d.memx := by
  obtain ⟨_, _, h⟩ := d.advance_shape n; rw [h]
@[simp] theorem Dev.advance_dmaq (d : Dev) (n : Nat) : (d.advance n).dmaq = d.dmaq := by
  obtain ⟨_, _, h⟩ := d.advance_shape n; rw [h]
@[simp] theorem Dev.advance_dmaLast (d : Dev) (n : Nat) : (d.advance n).dmaLast = d.dmaLast := by
  obtain ⟨_, _, h⟩ := d.advance_shape n; rw [h]
@[simp] theorem Dev.advance_rng (d : Dev) (n : Nat) : (d.advance n).rng = d.rng := by
  obtain ⟨_, _, h⟩ := d.advance_shape n; rw [h]
@[simp] theorem Dev.advance_tblMark (d : Dev) (n : Nat) : (d.advance n).tblMark = d.tblMark := by
  obtain ⟨_, _, h⟩ := d.advance_shape n; rw [h]
@[simp] theorem Dev.advance_tmp (d : Dev) (n : Nat) : (d.advance n).tmp = d.tmp := by
  obtain ⟨_, _, h⟩ := d.advance_shape n; rw [h]
@[simp] theorem Dev.advance_clk (d : Dev) (n : Nat) : (d.advance n).clk = d.clk := by
  obtain ⟨_, _, h⟩ := d.advance_shape n; rw [h]
@[simp] theorem Dev.advance_pwr (d : Dev) (n : Nat) : (d.advance n).pwr = d.pwr := by
  obtain ⟨_, _, h⟩ := d.advance_shape n; rw [h]
@[simp] theorem Dev.advance_cal (d : Dev) (n : Nat) : (d.advance n).cal = d.cal := by
  obtain ⟨_, _, h⟩ := d.advance_shape n; rw [h]
@[simp] theorem Dev.advance_lg (d : Dev) (n : Nat) : (d.advance n).lg = d.lg := by
  obtain ⟨_, _, h⟩ := d.advance_shape n; rw [h]
theorem Dev.rd_advance_ne (d : Dev) (n : Nat) (r : Reg) (h0 : r.off ≠ R.EVT_TIME.off) (h1 : r.off ≠ R.SYS_SECONDS.off) : (d.advance n).rd r = d.rd r := by
  unfold Dev.advance; dsimp only; split_ifs
  · rw [Dev.rd_wr_ne _ _ _ _ h0]; exact Dev.rd_wr_ne _ _ _ _ h1
  · exact Dev.rd_wr_ne _ _ _ _ h1
theorem Dev.get_advance_ne (d : Dev) (n : Nat) (g : Fld) (h0 : g.reg.off ≠ R.EVT_TIME.off) (h1 : g.reg.off ≠ R.SYS_SECONDS.off) : (d.advance n).get g = d.get g := by
  rw [Dev.get, Dev.rd_advance_ne _ _ _ h0 h1, Dev.get]
theorem Dev.on_advance_ne (d : Dev) (n : Nat) (g : Fld) (h0 : g.reg.off ≠ R.EVT_TIME.off) (h1 : g.reg.off ≠ R.SYS_SECONDS.off) : (d.advance n).on g = d.on g := by
  rw [Dev.on, Dev.get_advance_ne _ _ _ h0 h1, Dev.on]

/-! ### advanceTo -/

/-- All that advanceTo can change. -/
theorem Dev.advanceTo_shape (d : Dev) (n : Nat) : ∃ x0 x1, d.advanceTo n = { d with regs := x0, sys := x1 } := by
  unfold Dev.advanceTo; split
  · exact d.advance_shape _
  · exact ⟨_, _, rfl⟩
@[simp] theorem Dev.advanceTo_active (d : Dev) (n : Nat) : (d.advanceTo n).active = d.active := by
  obtain ⟨_, _, h⟩ := d.advanceTo_shape n; rw [h]
@[simp] theorem Dev.advanceTo_ready (d : Dev) (n : Nat) : (d.advanceTo n).ready = d.ready := by
  obtain ⟨_, _, h⟩ := d.advanceTo_shape n; rw [h]
@[simp] theorem Dev.advanceTo_actTbl (d : Dev) (n : Nat) : (d.advanceTo n).actTbl = d.actTbl := by
  obtain ⟨_, _, h⟩ := d.advanceTo_shape n; rw [h]
@[simp] theorem Dev.advanceTo_tbl (d : Dev) (n : Nat) : (d.advanceTo n).tbl = d.tbl := by
  obtain ⟨_, _, h⟩ := d.advanceTo_shape n; rw [h]
@[simp] theorem Dev.advanceTo_tblChk (d : Dev) (n : Nat) : (d.advanceTo n).tblChk = d.tblChk := by
  obtain ⟨_, _, h⟩ := d.advanceTo_shape n; rw [h]
@[simp] theorem Dev.advanceTo_out (d : Dev) (n : Nat) : (d.advanceTo n).out = d.out := by
  obtain ⟨_, _, h⟩ := d.advanceTo_shape n; rw [h]
@[simp] theorem Dev.advanceTo_free (d : Dev) (n : Nat) : (d.advanceTo n).free = d.free := by
  obtain ⟨_, _, h⟩ := d.advanceTo_shape n; rw [h]
@[simp] theorem Dev.advanceTo_frd (d : Dev) (n : Nat) : (d.advanceTo n).frd = d.frd := by
  obtain ⟨_, _, h⟩ := d.advanceTo_shape n; rw [h]
@[simp] theorem Dev.advanceTo_evt (d : Dev) (n : Nat) : (d.advanceTo n).evt = d.evt := by
  obtain ⟨_, _, h⟩ := d.advanceTo_shape n; rw [h]
@[simp] theorem Dev.advanceTo_sht (d : Dev) (n : Nat) : (d.advanceTo n).sht = d.sht := by
  obtain ⟨_, _, h⟩ := d.advanceTo_shape n; rw [h]
@[simp] theorem Dev.advanceTo_flt (d : Dev) (n : Nat) : (d.advanceTo n).flt = d.flt := by
  obtain ⟨_, _, h⟩ := d.advanceTo_shape n; rw [h]
@[simp] theorem Dev.advanceTo_host (d : Dev) (n : Nat) : (d.advanceTo n).host = d.host := by
  obtain ⟨_, _, h⟩ := d.advanceTo_shape n; rw [h]
@[simp] theorem Dev.advanceTo_ch (d : Dev) (n : Nat) : (d.advanceTo n).ch = d.ch := by
  obtain ⟨_, _, h⟩ := d.advanceTo_shape n; rw [h]
@[simp] theorem Dev.advanceTo_bld (d : Dev) (n : Nat) : (d.advanceTo n).bld = d.bld := by
  obtain ⟨_, _, h⟩ := d.advanceTo_shape n; rw [h]
@[simp] theorem Dev.advanceTo_dcb (d : Dev) (n : Nat) : (d.advanceTo n).dcb = d.dcb := by
  obtain ⟨_, _, h⟩ := d.advanceTo_shape n; rw [h]
@[simp] theorem Dev.advanceTo_stp (d : Dev) (n : Nat) : (d.advanceTo n).stp = d.stp := by
  obtain ⟨_, _, h⟩ := d.advanceTo_shape n; rw [h]
@[simp] theorem Dev.advanceTo_inp (d : Dev) (n : Nat) : (d.advanceTo n).inp = d.inp := by
  obtain ⟨_, _, h⟩ := d.advanceTo_shape n; rw [h]
@[simp] theorem Dev.advanceTo_loop (d : Dev) (n : Nat) : (d.advanceTo n).loop = d.loop := by
  obtain ⟨_, _, h⟩ := d.advanceTo_shape n; rw [h]
@[simp] theorem Dev.advanceTo_outU (d : Dev) (n : Nat) : (d.advanceTo n).outU = d.outU := by
  obtain ⟨_, _, h⟩ := d.advanceTo_shape n; rw [h]
@[simp] theorem Dev.advanceTo_twn (d : Dev) (n : Nat) : (d.advanceTo n).twn = d.twn := by
  obtain ⟨_, _, h⟩ := d.advanceTo_shape n; rw [h]
@[simp] theorem Dev.advanceTo_memx (d : Dev) (n : Nat) : (d.advanceTo n).memx = d.memx := by
  obtain ⟨_, _, h⟩ := d.advanceTo_shape n; rw [h]
@[simp] theorem Dev.advanceTo_dmaq (d : Dev) (n : Nat) : (d.advanceTo n).dmaq = d.dmaq := by
  obtain ⟨_, _, h⟩ := d.advanceTo_shape n; rw [h]
@[simp] theorem Dev.advanceTo_dmaLast (d : Dev) (n : Nat) : (d.advanceTo n).dmaLast = d.dmaLast := by
  obtain ⟨_, _, h⟩ := d.advanceTo_shape n; rw [h]
@[simp] theorem Dev.advanceTo_rng (d : Dev) (n : Nat) : (d.advanceTo n).rng = d.rng := by
  obtain ⟨_, _, h⟩ := d.advanceTo_shape n; rw [h]
@[simp] theorem Dev.advanceTo_tblMark (d : Dev) (n : Nat) : (d.advanceTo n).tblMark = d.tblMark := by
  obtain ⟨_, _, h⟩ := d.advanceTo_shape n; rw [h]
@[simp] theorem Dev.advanceTo_tmp (d : Dev) (n : Nat) : (d.advanceTo n).tmp = d.tmp := by
  obtain ⟨_, _, h⟩ := d.advanceTo_shape n; rw [h]
@[simp] theorem Dev.advanceTo_clk (d : Dev) (n : Nat) : (d.advanceTo n).clk = d.clk := by
  obtain ⟨_, _, h⟩ := d.advanceTo_shape n; rw [h]
@[simp] theorem Dev.advanceTo_pwr (d : Dev) (n : Nat) : (d.advanceTo n).pwr = d.pwr := by
  obtain ⟨_, _, h⟩ := d.advanceTo_shape n; rw [h]
@[simp] theorem Dev.advanceTo_cal (d : Dev) (n : Nat) : (d.advanceTo n).cal = d.cal := by
  obtain ⟨_, _, h⟩ := d.advanceTo_shape n; rw [h]
@[simp] theorem Dev.advanceTo_lg (d : Dev) (n : Nat) : (d.advanceTo n).lg = d.lg := by
  obtain ⟨_, _, h⟩ := d.advanceTo_shape n; rw [h]
theorem Dev.rd_advanceTo_ne (d : Dev) (n : Nat) (r : Reg) (h0 : r.off ≠ R.EVT_TIME.off) (h1 : r.off ≠ R.SYS_SECONDS.off) : (d.advanceTo n).rd r = d.rd r := by
  unfold Dev.advanceTo; split_ifs
  · exact Dev.rd_advance_ne _ _ _ h0 h1
  · rfl
theorem Dev.get_advanceTo_ne (d : Dev) (n : Nat) (g : Fld) (h0 : g.reg.off ≠ R.EVT_TIME.off) (h1 : g.reg.off ≠ R.SYS_SECONDS.off) : (d.advanceTo n).get g = d.get g := by
  rw [Dev.get, Dev.rd_advanceTo_ne _ _ _ h0 h1, Dev.get]
theorem Dev.on_advanceTo_ne (d : Dev) (n : Nat) (g : Fld) (h0 : g.reg.off ≠ R.EVT_TIME.off) (h1 : g.reg.off ≠ R.SYS_SECONDS.off) : (d.advanceTo n).on g = d.on g := by
  rw [Dev.on, Dev.get_advanceTo_ne _ _ _ h0 h1, Dev.on]

/-! ### advance8To -/

/-- All that advance8To can change. -/
theorem Dev.advance8To_shape (d : Dev) (n : Nat) : ∃ x0 x1, d.advance8To n = { d with regs := x0, sys := x1 } := by
  unfold Dev.advance8To; split
  · exact d.advance_shape _
  · exact ⟨_, _, rfl⟩
@[simp] theorem Dev.advance8To_active (d : Dev) (n : Nat) : (d.advance8To n).active = d.active := by
  obtain ⟨_, _, h⟩ := d.advance8To_shape n; rw [h]
@[simp] theorem Dev.advance8To_ready (d : Dev) (n : Nat) : (d.advance8To n).ready = d.ready := by
  obtain ⟨_, _, h⟩ := d.advance8To_shape n; rw [h]
@[simp] theorem Dev.advance8To_actTbl (d : Dev) (n : Nat) : (d.advance8To n).actTbl = d.actTbl := by
  obtain ⟨_, _, h⟩ := d.advance8To_shape n; rw [h]
@[simp] theorem Dev.advance8To_tbl (d : Dev) (n : Nat) : (d.advance8To n).tbl = d.tbl := by
  obtain ⟨_, _, h⟩ := d.advance8To_shape n; rw [h]
@[simp] theorem Dev.advance8To_tblChk (d : Dev) (n : Nat) : (d.advance8To n).tblChk = d.tblChk := by
  obtain ⟨_, _, h⟩ := d.advance8To_shape n; rw [h]
@[simp] theorem Dev.advance8To_out (d : Dev) (n : Nat) : (d.advance8To n).out = d.out := by
  obtain ⟨_, _, h⟩ := d.advance8To_shape n; rw [h]
@[simp] theorem Dev.advance8To_free (d : Dev) (n : Nat) : (d.advance8To n).free = d.free := by
  obtain ⟨_, _, h⟩ := d.advance8To_shape n; rw [h]
@[simp] theorem Dev.advance8To_frd (d : Dev) (n : Nat) : (d.advance8To n).frd = d.frd := by
  obtain ⟨_, _, h⟩ := d.advance8To_shape n; rw [h]
@[simp] theorem Dev.advance8To_evt (d : Dev) (n : Nat) : (d.advance8To n).evt = d.evt := by
  obtain ⟨_, _, h⟩ := d.advance8To_shape n; rw [h]
@[simp] theorem Dev.advance8To_sht (d : Dev) (n : Nat) : (d.advance8To n).sht = d.sht := by
  obtain ⟨_, _, h⟩ := d.advance8To_shape n; rw [h]
@[simp] theorem Dev.advance8To_flt (d : Dev) (n : Nat) : (d.advance8To n).flt = d.flt := by
  obtain ⟨_, _, h⟩ := d.advance8To_shape n; rw [h]
@[simp] theorem Dev.advance8To_host (d : Dev) (n : Nat) : (d.advance8To n).host = d.host := by
  obtain ⟨_, _, h⟩ := d.advance8To_shape n; rw [h]
@[simp] theorem Dev.advance8To_ch (d : Dev) (n : Nat) : (d.advance8To n).ch = d.ch := by
  obtain ⟨_, _, h⟩ := d.advance8To_shape n; rw [h]
@[simp] theorem Dev.advance8To_bld (d : Dev) (n : Nat) : (d.advance8To n).bld = d.bld := by
  obtain ⟨_, _, h⟩ := d.advance8To_shape n; rw [h]
@[simp] theorem Dev.advance8To_dcb (d : Dev) (n : Nat) : (d.advance8To n).dcb = d.dcb := by
  obtain ⟨_, _, h⟩ := d.advance8To_shape n; rw [h]
@[simp] theorem Dev.advance8To_stp (d : Dev) (n : Nat) : (d.advance8To n).stp = d.stp := by
  obtain ⟨_, _, h⟩ := d.advance8To_shape n; rw [h]
@[simp] theorem Dev.advance8To_inp (d : Dev) (n : Nat) : (d.advance8To n).inp = d.inp := by
  obtain ⟨_, _, h⟩ := d.advance8To_shape n; rw [h]
@[simp] theorem Dev.advance8To_loop (d : Dev) (n : Nat) : (d.advance8To n).loop = d.loop := by
  obtain ⟨_, _, h⟩ := d.advance8To_shape n; rw [h]
@[simp] theorem Dev.advance8To_outU (d : Dev) (n : Nat) : (d.advance8To n).outU = d.outU := by
  obtain ⟨_, _, h⟩ := d.advance8To_shape n; rw [h]
@[simp] theorem Dev.advance8To_twn (d : Dev) (n : Nat) : (d.advance8To n).twn = d.twn := by
  obtain ⟨_, _, h⟩ := d.advance8To_shape n; rw [h]
@[simp] theorem Dev.advance8To_memx (d : Dev) (n : Nat) : (d.advance8To n).memx = d.memx := by
  obtain ⟨_, _, h⟩ := d.advance8To_shape n; rw [h]
@[simp] theorem Dev.advance8To_dmaq (d : Dev) (n : Nat) : (d.advance8To n).dmaq = d.dmaq := by
  obtain ⟨_, _, h⟩ := d.advance8To_shape n; rw [h]
@[simp] theorem Dev.advance8To_dmaLast (d : Dev) (n : Nat) : (d.advance8To n).dmaLast = d.dmaLast := by
  obtain ⟨_, _, h⟩ := d.advance8To_shape n; rw [h]
@[simp] theorem Dev.advance8To_rng (d : Dev) (n : Nat) : (d.advance8To n).rng = d.rng := by
  obtain ⟨_, _, h⟩ := d.advance8To_shape n; rw [h]
@[simp] theorem Dev.advance8To_tblMark (d : Dev) (n : Nat) : (d.advance8To n).tblMark = d.tblMark := by
  obtain ⟨_, _, h⟩ := d.advance8To_shape n; rw [h]
@[simp] theorem Dev.advance8To_tmp (d : Dev) (n : Nat) : (d.advance8To n).tmp = d.tmp := by
  obtain ⟨_, _, h⟩ := d.advance8To_shape n; rw [h]
@[simp] theorem Dev.advance8To_clk (d : Dev) (n : Nat) : (d.advance8To n).clk = d.clk := by
  obtain ⟨_, _, h⟩ := d.advance8To_shape n; rw [h]
@[simp] theorem Dev.advance8To_pwr (d : Dev) (n : Nat) : (d.advance8To n).pwr = d.pwr := by
  obtain ⟨_, _, h⟩ := d.advance8To_shape n; rw [h]
@[simp] theorem Dev.advance8To_cal (d : Dev) (n : Nat) : (d.advance8To n).cal = d.cal := by
  obtain ⟨_, _, h⟩ := d.advance8To_shape n; rw [h]
@[simp] theorem Dev.advance8To_lg (d : Dev) (n : Nat) : (d.advance8To n).lg = d.lg := by
  obtain ⟨_, _, h⟩ := d.advance8To_shape n; rw [h]
theorem Dev.rd_advance8To_ne (d : Dev) (n : Nat) (r : Reg) (h0 : r.off ≠ R.EVT_TIME.off) (h1 : r.off ≠ R.SYS_SECONDS.off) : (d.advance8To n).rd r = d.rd r := by
  unfold Dev.advance8To; split_ifs
  · exact Dev.rd_advance_ne _ _ _ h0 h1
  · rfl
theorem Dev.get_advance8To_ne (d : Dev) (n : Nat) (g : Fld) (h0 : g.reg.off ≠ R.EVT_TIME.off) (h1 : g.reg.off ≠ R.SYS_SECONDS.off) : (d.advance8To n).get g = d.get g := by
  rw [Dev.get, Dev.rd_advance8To_ne _ _ _ h0 h1, Dev.get]
theorem Dev.on_advance8To_ne (d : Dev) (n : Nat) (g : Fld) (h0 : g.reg.off ≠ R.EVT_TIME.off) (h1 : g.reg.off ≠ R.SYS_SECONDS.off) : (d.advance8To n).on g = d.on g := by
  rw [Dev.on, Dev.get_advance8To_ne _ _ _ h0 h1, Dev.on]

/-! ### onLanes, sendTwin -/

/-- All that onLanes can change. -/
theorem Dev.onLanes_shape (d : Dev) (us : List (List Nat)) : ∃ x0, d.onLanes us = { d with out := x0 } := by
  unfold Dev.onLanes Dev.each
  generalize [0, 1].filter (fun l => bit (d.get F.TWN_STATUS.lanes_up) l) = l
  induction l generalizing d with
  | nil => exact ⟨_, rfl⟩
  | cons a l ih =>
    obtain ⟨x, h⟩ := ih (d.emit (.twin a us))
    exact ⟨x, h⟩

/-- All that sendTwin can change. -/
theorem Dev.sendTwin_shape (d : Dev) (k : Nat) (u : List Nat) : ∃ x0 x1, d.sendTwin k u = { d with out := x0, twn := x1 } := by
  obtain ⟨x, h⟩ := ({ d with twn := { d.twn with mseqTx := (d.twn.mseqTx + 1) % 65536 } } : Dev).onLanes_shape
    (twinFrame k d.twn.mseqTx u)
  exact ⟨x, _, h⟩
@[simp] theorem Dev.sendTwin_regs (d : Dev) (k : Nat) (u : List Nat) : (d.sendTwin k u).regs = d.regs := by
  obtain ⟨_, _, h⟩ := d.sendTwin_shape k u; rw [h]
@[simp] theorem Dev.sendTwin_active (d : Dev) (k : Nat) (u : List Nat) : (d.sendTwin k u).active = d.active := by
  obtain ⟨_, _, h⟩ := d.sendTwin_shape k u; rw [h]
@[simp] theorem Dev.sendTwin_ready (d : Dev) (k : Nat) (u : List Nat) : (d.sendTwin k u).ready = d.ready := by
  obtain ⟨_, _, h⟩ := d.sendTwin_shape k u; rw [h]
@[simp] theorem Dev.sendTwin_actTbl (d : Dev) (k : Nat) (u : List Nat) : (d.sendTwin k u).actTbl = d.actTbl := by
  obtain ⟨_, _, h⟩ := d.sendTwin_shape k u; rw [h]
@[simp] theorem Dev.sendTwin_tbl (d : Dev) (k : Nat) (u : List Nat) : (d.sendTwin k u).tbl = d.tbl := by
  obtain ⟨_, _, h⟩ := d.sendTwin_shape k u; rw [h]
@[simp] theorem Dev.sendTwin_tblChk (d : Dev) (k : Nat) (u : List Nat) : (d.sendTwin k u).tblChk = d.tblChk := by
  obtain ⟨_, _, h⟩ := d.sendTwin_shape k u; rw [h]
@[simp] theorem Dev.sendTwin_free (d : Dev) (k : Nat) (u : List Nat) : (d.sendTwin k u).free = d.free := by
  obtain ⟨_, _, h⟩ := d.sendTwin_shape k u; rw [h]
@[simp] theorem Dev.sendTwin_sys (d : Dev) (k : Nat) (u : List Nat) : (d.sendTwin k u).sys = d.sys := by
  obtain ⟨_, _, h⟩ := d.sendTwin_shape k u; rw [h]
@[simp] theorem Dev.sendTwin_frd (d : Dev) (k : Nat) (u : List Nat) : (d.sendTwin k u).frd = d.frd := by
  obtain ⟨_, _, h⟩ := d.sendTwin_shape k u; rw [h]
@[simp] theorem Dev.sendTwin_evt (d : Dev) (k : Nat) (u : List Nat) : (d.sendTwin k u).evt = d.evt := by
  obtain ⟨_, _, h⟩ := d.sendTwin_shape k u; rw [h]
@[simp] theorem Dev.sendTwin_sht (d : Dev) (k : Nat) (u : List Nat) : (d.sendTwin k u).sht = d.sht := by
  obtain ⟨_, _, h⟩ := d.sendTwin_shape k u; rw [h]
@[simp] theorem Dev.sendTwin_flt (d : Dev) (k : Nat) (u : List Nat) : (d.sendTwin k u).flt = d.flt := by
  obtain ⟨_, _, h⟩ := d.sendTwin_shape k u; rw [h]
@[simp] theorem Dev.sendTwin_host (d : Dev) (k : Nat) (u : List Nat) : (d.sendTwin k u).host = d.host := by
  obtain ⟨_, _, h⟩ := d.sendTwin_shape k u; rw [h]
@[simp] theorem Dev.sendTwin_ch (d : Dev) (k : Nat) (u : List Nat) : (d.sendTwin k u).ch = d.ch := by
  obtain ⟨_, _, h⟩ := d.sendTwin_shape k u; rw [h]
@[simp] theorem Dev.sendTwin_bld (d : Dev) (k : Nat) (u : List Nat) : (d.sendTwin k u).bld = d.bld := by
  obtain ⟨_, _, h⟩ := d.sendTwin_shape k u; rw [h]
@[simp] theorem Dev.sendTwin_dcb (d : Dev) (k : Nat) (u : List Nat) : (d.sendTwin k u).dcb = d.dcb := by
  obtain ⟨_, _, h⟩ := d.sendTwin_shape k u; rw [h]
@[simp] theorem Dev.sendTwin_stp (d : Dev) (k : Nat) (u : List Nat) : (d.sendTwin k u).stp = d.stp := by
  obtain ⟨_, _, h⟩ := d.sendTwin_shape k u; rw [h]
@[simp] theorem Dev.sendTwin_inp (d : Dev) (k : Nat) (u : List Nat) : (d.sendTwin k u).inp = d.inp := by
  obtain ⟨_, _, h⟩ := d.sendTwin_shape k u; rw [h]
@[simp] theorem Dev.sendTwin_loop (d : Dev) (k : Nat) (u : List Nat) : (d.sendTwin k u).loop = d.loop := by
  obtain ⟨_, _, h⟩ := d.sendTwin_shape k u; rw [h]
@[simp] theorem Dev.sendTwin_outU (d : Dev) (k : Nat) (u : List Nat) : (d.sendTwin k u).outU = d.outU := by
  obtain ⟨_, _, h⟩ := d.sendTwin_shape k u; rw [h]
@[simp] theorem Dev.sendTwin_memx (d : Dev) (k : Nat) (u : List Nat) : (d.sendTwin k u).memx = d.memx := by
  obtain ⟨_, _, h⟩ := d.sendTwin_shape k u; rw [h]
@[simp] theorem Dev.sendTwin_dmaq (d : Dev) (k : Nat) (u : List Nat) : (d.sendTwin k u).dmaq = d.dmaq := by
  obtain ⟨_, _, h⟩ := d.sendTwin_shape k u; rw [h]
@[simp] theorem Dev.sendTwin_dmaLast (d : Dev) (k : Nat) (u : List Nat) : (d.sendTwin k u).dmaLast = d.dmaLast := by
  obtain ⟨_, _, h⟩ := d.sendTwin_shape k u; rw [h]
@[simp] theorem Dev.sendTwin_rng (d : Dev) (k : Nat) (u : List Nat) : (d.sendTwin k u).rng = d.rng := by
  obtain ⟨_, _, h⟩ := d.sendTwin_shape k u; rw [h]
@[simp] theorem Dev.sendTwin_tblMark (d : Dev) (k : Nat) (u : List Nat) : (d.sendTwin k u).tblMark = d.tblMark := by
  obtain ⟨_, _, h⟩ := d.sendTwin_shape k u; rw [h]
@[simp] theorem Dev.sendTwin_tmp (d : Dev) (k : Nat) (u : List Nat) : (d.sendTwin k u).tmp = d.tmp := by
  obtain ⟨_, _, h⟩ := d.sendTwin_shape k u; rw [h]
@[simp] theorem Dev.sendTwin_clk (d : Dev) (k : Nat) (u : List Nat) : (d.sendTwin k u).clk = d.clk := by
  obtain ⟨_, _, h⟩ := d.sendTwin_shape k u; rw [h]
@[simp] theorem Dev.sendTwin_pwr (d : Dev) (k : Nat) (u : List Nat) : (d.sendTwin k u).pwr = d.pwr := by
  obtain ⟨_, _, h⟩ := d.sendTwin_shape k u; rw [h]
@[simp] theorem Dev.sendTwin_cal (d : Dev) (k : Nat) (u : List Nat) : (d.sendTwin k u).cal = d.cal := by
  obtain ⟨_, _, h⟩ := d.sendTwin_shape k u; rw [h]
@[simp] theorem Dev.sendTwin_lg (d : Dev) (k : Nat) (u : List Nat) : (d.sendTwin k u).lg = d.lg := by
  obtain ⟨_, _, h⟩ := d.sendTwin_shape k u; rw [h]
@[simp] theorem Dev.rd_sendTwin (d : Dev) (k : Nat) (u : List Nat) (r : Reg) : (d.sendTwin k u).rd r = d.rd r := by unfold Dev.rd; simp
@[simp] theorem Dev.get_sendTwin (d : Dev) (k : Nat) (u : List Nat) (g : Fld) : (d.sendTwin k u).get g = d.get g := by unfold Dev.get; simp
@[simp] theorem Dev.on_sendTwin (d : Dev) (k : Nat) (u : List Nat) (g : Fld) : (d.sendTwin k u).on g = d.on g := by unfold Dev.on; simp

/-! ### twnReject -/

/-- All that twnReject can change. -/
theorem Dev.twnReject_shape (d : Dev) : ∃ x0 x1, d.twnReject = { d with regs := x0, out := x1 } := by
  unfold Dev.twnReject; dsimp only; split
  · obtain ⟨x, y, h⟩ := ((d.count F.TWN_REJECT.count).put F.TWN_IRQ_STATUS.refused 1).post_shape 18
    exact ⟨x, y, h⟩
  · exact ⟨_, _, rfl⟩
@[simp] theorem Dev.twnReject_active (d : Dev) : (d.twnReject).active = d.active := by
  obtain ⟨_, _, h⟩ := d.twnReject_shape ; rw [h]
@[simp] theorem Dev.twnReject_ready (d : Dev) : (d.twnReject).ready = d.ready := by
  obtain ⟨_, _, h⟩ := d.twnReject_shape ; rw [h]
@[simp] theorem Dev.twnReject_actTbl (d : Dev) : (d.twnReject).actTbl = d.actTbl := by
  obtain ⟨_, _, h⟩ := d.twnReject_shape ; rw [h]
@[simp] theorem Dev.twnReject_tbl (d : Dev) : (d.twnReject).tbl = d.tbl := by
  obtain ⟨_, _, h⟩ := d.twnReject_shape ; rw [h]
@[simp] theorem Dev.twnReject_tblChk (d : Dev) : (d.twnReject).tblChk = d.tblChk := by
  obtain ⟨_, _, h⟩ := d.twnReject_shape ; rw [h]
@[simp] theorem Dev.twnReject_free (d : Dev) : (d.twnReject).free = d.free := by
  obtain ⟨_, _, h⟩ := d.twnReject_shape ; rw [h]
@[simp] theorem Dev.twnReject_sys (d : Dev) : (d.twnReject).sys = d.sys := by
  obtain ⟨_, _, h⟩ := d.twnReject_shape ; rw [h]
@[simp] theorem Dev.twnReject_frd (d : Dev) : (d.twnReject).frd = d.frd := by
  obtain ⟨_, _, h⟩ := d.twnReject_shape ; rw [h]
@[simp] theorem Dev.twnReject_evt (d : Dev) : (d.twnReject).evt = d.evt := by
  obtain ⟨_, _, h⟩ := d.twnReject_shape ; rw [h]
@[simp] theorem Dev.twnReject_sht (d : Dev) : (d.twnReject).sht = d.sht := by
  obtain ⟨_, _, h⟩ := d.twnReject_shape ; rw [h]
@[simp] theorem Dev.twnReject_flt (d : Dev) : (d.twnReject).flt = d.flt := by
  obtain ⟨_, _, h⟩ := d.twnReject_shape ; rw [h]
@[simp] theorem Dev.twnReject_host (d : Dev) : (d.twnReject).host = d.host := by
  obtain ⟨_, _, h⟩ := d.twnReject_shape ; rw [h]
@[simp] theorem Dev.twnReject_ch (d : Dev) : (d.twnReject).ch = d.ch := by
  obtain ⟨_, _, h⟩ := d.twnReject_shape ; rw [h]
@[simp] theorem Dev.twnReject_bld (d : Dev) : (d.twnReject).bld = d.bld := by
  obtain ⟨_, _, h⟩ := d.twnReject_shape ; rw [h]
@[simp] theorem Dev.twnReject_dcb (d : Dev) : (d.twnReject).dcb = d.dcb := by
  obtain ⟨_, _, h⟩ := d.twnReject_shape ; rw [h]
@[simp] theorem Dev.twnReject_stp (d : Dev) : (d.twnReject).stp = d.stp := by
  obtain ⟨_, _, h⟩ := d.twnReject_shape ; rw [h]
@[simp] theorem Dev.twnReject_inp (d : Dev) : (d.twnReject).inp = d.inp := by
  obtain ⟨_, _, h⟩ := d.twnReject_shape ; rw [h]
@[simp] theorem Dev.twnReject_loop (d : Dev) : (d.twnReject).loop = d.loop := by
  obtain ⟨_, _, h⟩ := d.twnReject_shape ; rw [h]
@[simp] theorem Dev.twnReject_outU (d : Dev) : (d.twnReject).outU = d.outU := by
  obtain ⟨_, _, h⟩ := d.twnReject_shape ; rw [h]
@[simp] theorem Dev.twnReject_twn (d : Dev) : (d.twnReject).twn = d.twn := by
  obtain ⟨_, _, h⟩ := d.twnReject_shape ; rw [h]
@[simp] theorem Dev.twnReject_memx (d : Dev) : (d.twnReject).memx = d.memx := by
  obtain ⟨_, _, h⟩ := d.twnReject_shape ; rw [h]
@[simp] theorem Dev.twnReject_dmaq (d : Dev) : (d.twnReject).dmaq = d.dmaq := by
  obtain ⟨_, _, h⟩ := d.twnReject_shape ; rw [h]
@[simp] theorem Dev.twnReject_dmaLast (d : Dev) : (d.twnReject).dmaLast = d.dmaLast := by
  obtain ⟨_, _, h⟩ := d.twnReject_shape ; rw [h]
@[simp] theorem Dev.twnReject_rng (d : Dev) : (d.twnReject).rng = d.rng := by
  obtain ⟨_, _, h⟩ := d.twnReject_shape ; rw [h]
@[simp] theorem Dev.twnReject_tblMark (d : Dev) : (d.twnReject).tblMark = d.tblMark := by
  obtain ⟨_, _, h⟩ := d.twnReject_shape ; rw [h]
@[simp] theorem Dev.twnReject_tmp (d : Dev) : (d.twnReject).tmp = d.tmp := by
  obtain ⟨_, _, h⟩ := d.twnReject_shape ; rw [h]
@[simp] theorem Dev.twnReject_clk (d : Dev) : (d.twnReject).clk = d.clk := by
  obtain ⟨_, _, h⟩ := d.twnReject_shape ; rw [h]
@[simp] theorem Dev.twnReject_pwr (d : Dev) : (d.twnReject).pwr = d.pwr := by
  obtain ⟨_, _, h⟩ := d.twnReject_shape ; rw [h]
@[simp] theorem Dev.twnReject_cal (d : Dev) : (d.twnReject).cal = d.cal := by
  obtain ⟨_, _, h⟩ := d.twnReject_shape ; rw [h]
@[simp] theorem Dev.twnReject_lg (d : Dev) : (d.twnReject).lg = d.lg := by
  obtain ⟨_, _, h⟩ := d.twnReject_shape ; rw [h]
theorem Dev.rd_twnReject_ne (d : Dev) (r : Reg) (h0 : r.off ≠ R.TWN_REJECT.off) (h1 : r.off ≠ R.TWN_IRQ_STATUS.off) (h2 : r.off ≠ R.MSIX_PBA.off) : (d.twnReject).rd r = d.rd r := by
  unfold Dev.twnReject; dsimp only; split_ifs
  · rw [Dev.rd_post_ne _ _ _ h2]; exact (Dev.rd_wr_ne _ _ _ _ h1).trans (Dev.rd_wr_ne _ _ _ _ h0)
  · exact (Dev.rd_wr_ne _ _ _ _ h1).trans (Dev.rd_wr_ne _ _ _ _ h0)
theorem Dev.get_twnReject_ne (d : Dev) (g : Fld) (h0 : g.reg.off ≠ R.TWN_REJECT.off) (h1 : g.reg.off ≠ R.TWN_IRQ_STATUS.off) (h2 : g.reg.off ≠ R.MSIX_PBA.off) : (d.twnReject).get g = d.get g := by
  rw [Dev.get, Dev.rd_twnReject_ne _ _ h0 h1 h2, Dev.get]
theorem Dev.on_twnReject_ne (d : Dev) (g : Fld) (h0 : g.reg.off ≠ R.TWN_REJECT.off) (h1 : g.reg.off ≠ R.TWN_IRQ_STATUS.off) (h2 : g.reg.off ≠ R.MSIX_PBA.off) : (d.twnReject).on g = d.on g := by
  rw [Dev.on, Dev.get_twnReject_ne _ _ h0 h1 h2, Dev.on]

/-! ### hostErr -/

/-- All that hostErr can change. -/
theorem Dev.hostErr_shape (d : Dev) (a b c : Nat) : ∃ x0 x1 x2, d.hostErr a b c = { d with regs := x0, flt := x1, host := x2 } := by
  unfold Dev.hostErr; dsimp only; split
  · exact ⟨_, _, _, rfl⟩
  · obtain ⟨x, y, h⟩ := Dev.report_shape _ 34 (a <<< 24 + b % 2 ^ 24) c
    exact ⟨x, y, _, h⟩
@[simp] theorem Dev.hostErr_active (d : Dev) (a b c : Nat) : (d.hostErr a b c).active = d.active := by
  obtain ⟨_, _, _, h⟩ := d.hostErr_shape a b c; rw [h]
@[simp] theorem Dev.hostErr_ready (d : Dev) (a b c : Nat) : (d.hostErr a b c).ready = d.ready := by
  obtain ⟨_, _, _, h⟩ := d.hostErr_shape a b c; rw [h]
@[simp] theorem Dev.hostErr_actTbl (d : Dev) (a b c : Nat) : (d.hostErr a b c).actTbl = d.actTbl := by
  obtain ⟨_, _, _, h⟩ := d.hostErr_shape a b c; rw [h]
@[simp] theorem Dev.hostErr_tbl (d : Dev) (a b c : Nat) : (d.hostErr a b c).tbl = d.tbl := by
  obtain ⟨_, _, _, h⟩ := d.hostErr_shape a b c; rw [h]
@[simp] theorem Dev.hostErr_tblChk (d : Dev) (a b c : Nat) : (d.hostErr a b c).tblChk = d.tblChk := by
  obtain ⟨_, _, _, h⟩ := d.hostErr_shape a b c; rw [h]
@[simp] theorem Dev.hostErr_out (d : Dev) (a b c : Nat) : (d.hostErr a b c).out = d.out := by
  obtain ⟨_, _, _, h⟩ := d.hostErr_shape a b c; rw [h]
@[simp] theorem Dev.hostErr_free (d : Dev) (a b c : Nat) : (d.hostErr a b c).free = d.free := by
  obtain ⟨_, _, _, h⟩ := d.hostErr_shape a b c; rw [h]
@[simp] theorem Dev.hostErr_sys (d : Dev) (a b c : Nat) : (d.hostErr a b c).sys = d.sys := by
  obtain ⟨_, _, _, h⟩ := d.hostErr_shape a b c; rw [h]
@[simp] theorem Dev.hostErr_frd (d : Dev) (a b c : Nat) : (d.hostErr a b c).frd = d.frd := by
  obtain ⟨_, _, _, h⟩ := d.hostErr_shape a b c; rw [h]
@[simp] theorem Dev.hostErr_evt (d : Dev) (a b c : Nat) : (d.hostErr a b c).evt = d.evt := by
  obtain ⟨_, _, _, h⟩ := d.hostErr_shape a b c; rw [h]
@[simp] theorem Dev.hostErr_sht (d : Dev) (a b c : Nat) : (d.hostErr a b c).sht = d.sht := by
  obtain ⟨_, _, _, h⟩ := d.hostErr_shape a b c; rw [h]
@[simp] theorem Dev.hostErr_ch (d : Dev) (a b c : Nat) : (d.hostErr a b c).ch = d.ch := by
  obtain ⟨_, _, _, h⟩ := d.hostErr_shape a b c; rw [h]
@[simp] theorem Dev.hostErr_bld (d : Dev) (a b c : Nat) : (d.hostErr a b c).bld = d.bld := by
  obtain ⟨_, _, _, h⟩ := d.hostErr_shape a b c; rw [h]
@[simp] theorem Dev.hostErr_dcb (d : Dev) (a b c : Nat) : (d.hostErr a b c).dcb = d.dcb := by
  obtain ⟨_, _, _, h⟩ := d.hostErr_shape a b c; rw [h]
@[simp] theorem Dev.hostErr_stp (d : Dev) (a b c : Nat) : (d.hostErr a b c).stp = d.stp := by
  obtain ⟨_, _, _, h⟩ := d.hostErr_shape a b c; rw [h]
@[simp] theorem Dev.hostErr_inp (d : Dev) (a b c : Nat) : (d.hostErr a b c).inp = d.inp := by
  obtain ⟨_, _, _, h⟩ := d.hostErr_shape a b c; rw [h]
@[simp] theorem Dev.hostErr_loop (d : Dev) (a b c : Nat) : (d.hostErr a b c).loop = d.loop := by
  obtain ⟨_, _, _, h⟩ := d.hostErr_shape a b c; rw [h]
@[simp] theorem Dev.hostErr_outU (d : Dev) (a b c : Nat) : (d.hostErr a b c).outU = d.outU := by
  obtain ⟨_, _, _, h⟩ := d.hostErr_shape a b c; rw [h]
@[simp] theorem Dev.hostErr_twn (d : Dev) (a b c : Nat) : (d.hostErr a b c).twn = d.twn := by
  obtain ⟨_, _, _, h⟩ := d.hostErr_shape a b c; rw [h]
@[simp] theorem Dev.hostErr_memx (d : Dev) (a b c : Nat) : (d.hostErr a b c).memx = d.memx := by
  obtain ⟨_, _, _, h⟩ := d.hostErr_shape a b c; rw [h]
@[simp] theorem Dev.hostErr_dmaq (d : Dev) (a b c : Nat) : (d.hostErr a b c).dmaq = d.dmaq := by
  obtain ⟨_, _, _, h⟩ := d.hostErr_shape a b c; rw [h]
@[simp] theorem Dev.hostErr_dmaLast (d : Dev) (a b c : Nat) : (d.hostErr a b c).dmaLast = d.dmaLast := by
  obtain ⟨_, _, _, h⟩ := d.hostErr_shape a b c; rw [h]
@[simp] theorem Dev.hostErr_rng (d : Dev) (a b c : Nat) : (d.hostErr a b c).rng = d.rng := by
  obtain ⟨_, _, _, h⟩ := d.hostErr_shape a b c; rw [h]
@[simp] theorem Dev.hostErr_tblMark (d : Dev) (a b c : Nat) : (d.hostErr a b c).tblMark = d.tblMark := by
  obtain ⟨_, _, _, h⟩ := d.hostErr_shape a b c; rw [h]
@[simp] theorem Dev.hostErr_tmp (d : Dev) (a b c : Nat) : (d.hostErr a b c).tmp = d.tmp := by
  obtain ⟨_, _, _, h⟩ := d.hostErr_shape a b c; rw [h]
@[simp] theorem Dev.hostErr_clk (d : Dev) (a b c : Nat) : (d.hostErr a b c).clk = d.clk := by
  obtain ⟨_, _, _, h⟩ := d.hostErr_shape a b c; rw [h]
@[simp] theorem Dev.hostErr_pwr (d : Dev) (a b c : Nat) : (d.hostErr a b c).pwr = d.pwr := by
  obtain ⟨_, _, _, h⟩ := d.hostErr_shape a b c; rw [h]
@[simp] theorem Dev.hostErr_cal (d : Dev) (a b c : Nat) : (d.hostErr a b c).cal = d.cal := by
  obtain ⟨_, _, _, h⟩ := d.hostErr_shape a b c; rw [h]
@[simp] theorem Dev.hostErr_lg (d : Dev) (a b c : Nat) : (d.hostErr a b c).lg = d.lg := by
  obtain ⟨_, _, _, h⟩ := d.hostErr_shape a b c; rw [h]
theorem Dev.rd_hostErr_ne (d : Dev) (a b c : Nat) (r : Reg) (h0 : r.off ≠ R.SYS_CFG_HOST_ERR.off) (h1 : r.off ≠ R.SYS_CFG_HOST_COUNTS.off) (h2 : r.off ≠ (R.FLT_SRCi_STATE 34).off) : (d.hostErr a b c).rd r = d.rd r := by
  unfold Dev.hostErr; dsimp only; split_ifs
  · exact (Dev.rd_wr_ne _ _ _ _ h1).trans (Dev.rd_wr_ne _ _ _ _ h0)
  · rw [Dev.rd_report_ne _ _ _ _ _ h2]; exact (Dev.rd_wr_ne _ _ _ _ h1).trans (Dev.rd_wr_ne _ _ _ _ h0)
theorem Dev.get_hostErr_ne (d : Dev) (a b c : Nat) (g : Fld) (h0 : g.reg.off ≠ R.SYS_CFG_HOST_ERR.off) (h1 : g.reg.off ≠ R.SYS_CFG_HOST_COUNTS.off) (h2 : g.reg.off ≠ (R.FLT_SRCi_STATE 34).off) : (d.hostErr a b c).get g = d.get g := by
  rw [Dev.get, Dev.rd_hostErr_ne _ _ _ _ _ h0 h1 h2, Dev.get]
theorem Dev.on_hostErr_ne (d : Dev) (a b c : Nat) (g : Fld) (h0 : g.reg.off ≠ R.SYS_CFG_HOST_ERR.off) (h1 : g.reg.off ≠ R.SYS_CFG_HOST_COUNTS.off) (h2 : g.reg.off ≠ (R.FLT_SRCi_STATE 34).off) : (d.hostErr a b c).on g = d.on g := by
  rw [Dev.on, Dev.get_hostErr_ne _ _ _ _ _ h0 h1 h2, Dev.on]

/-! ### setActive -/

/-- All that setActive can change. -/
theorem Dev.setActive_shape (d : Dev) (a : Nat) (b : Bool) : ∃ x0 x1, d.setActive a b = { d with regs := x0, flt := x1 } := by
  unfold Dev.setActive
  dsimp only
  split <;> split <;> exact ⟨_, _, rfl⟩
@[simp] theorem Dev.setActive_active (d : Dev) (a : Nat) (b : Bool) : (d.setActive a b).active = d.active := by
  obtain ⟨_, _, h⟩ := d.setActive_shape a b; rw [h]
@[simp] theorem Dev.setActive_ready (d : Dev) (a : Nat) (b : Bool) : (d.setActive a b).ready = d.ready := by
  obtain ⟨_, _, h⟩ := d.setActive_shape a b; rw [h]
@[simp] theorem Dev.setActive_actTbl (d : Dev) (a : Nat) (b : Bool) : (d.setActive a b).actTbl = d.actTbl := by
  obtain ⟨_, _, h⟩ := d.setActive_shape a b; rw [h]
@[simp] theorem Dev.setActive_tbl (d : Dev) (a : Nat) (b : Bool) : (d.setActive a b).tbl = d.tbl := by
  obtain ⟨_, _, h⟩ := d.setActive_shape a b; rw [h]
@[simp] theorem Dev.setActive_tblChk (d : Dev) (a : Nat) (b : Bool) : (d.setActive a b).tblChk = d.tblChk := by
  obtain ⟨_, _, h⟩ := d.setActive_shape a b; rw [h]
@[simp] theorem Dev.setActive_out (d : Dev) (a : Nat) (b : Bool) : (d.setActive a b).out = d.out := by
  obtain ⟨_, _, h⟩ := d.setActive_shape a b; rw [h]
@[simp] theorem Dev.setActive_free (d : Dev) (a : Nat) (b : Bool) : (d.setActive a b).free = d.free := by
  obtain ⟨_, _, h⟩ := d.setActive_shape a b; rw [h]
@[simp] theorem Dev.setActive_sys (d : Dev) (a : Nat) (b : Bool) : (d.setActive a b).sys = d.sys := by
  obtain ⟨_, _, h⟩ := d.setActive_shape a b; rw [h]
@[simp] theorem Dev.setActive_frd (d : Dev) (a : Nat) (b : Bool) : (d.setActive a b).frd = d.frd := by
  obtain ⟨_, _, h⟩ := d.setActive_shape a b; rw [h]
@[simp] theorem Dev.setActive_evt (d : Dev) (a : Nat) (b : Bool) : (d.setActive a b).evt = d.evt := by
  obtain ⟨_, _, h⟩ := d.setActive_shape a b; rw [h]
@[simp] theorem Dev.setActive_sht (d : Dev) (a : Nat) (b : Bool) : (d.setActive a b).sht = d.sht := by
  obtain ⟨_, _, h⟩ := d.setActive_shape a b; rw [h]
@[simp] theorem Dev.setActive_host (d : Dev) (a : Nat) (b : Bool) : (d.setActive a b).host = d.host := by
  obtain ⟨_, _, h⟩ := d.setActive_shape a b; rw [h]
@[simp] theorem Dev.setActive_ch (d : Dev) (a : Nat) (b : Bool) : (d.setActive a b).ch = d.ch := by
  obtain ⟨_, _, h⟩ := d.setActive_shape a b; rw [h]
@[simp] theorem Dev.setActive_bld (d : Dev) (a : Nat) (b : Bool) : (d.setActive a b).bld = d.bld := by
  obtain ⟨_, _, h⟩ := d.setActive_shape a b; rw [h]
@[simp] theorem Dev.setActive_dcb (d : Dev) (a : Nat) (b : Bool) : (d.setActive a b).dcb = d.dcb := by
  obtain ⟨_, _, h⟩ := d.setActive_shape a b; rw [h]
@[simp] theorem Dev.setActive_stp (d : Dev) (a : Nat) (b : Bool) : (d.setActive a b).stp = d.stp := by
  obtain ⟨_, _, h⟩ := d.setActive_shape a b; rw [h]
@[simp] theorem Dev.setActive_inp (d : Dev) (a : Nat) (b : Bool) : (d.setActive a b).inp = d.inp := by
  obtain ⟨_, _, h⟩ := d.setActive_shape a b; rw [h]
@[simp] theorem Dev.setActive_loop (d : Dev) (a : Nat) (b : Bool) : (d.setActive a b).loop = d.loop := by
  obtain ⟨_, _, h⟩ := d.setActive_shape a b; rw [h]
@[simp] theorem Dev.setActive_outU (d : Dev) (a : Nat) (b : Bool) : (d.setActive a b).outU = d.outU := by
  obtain ⟨_, _, h⟩ := d.setActive_shape a b; rw [h]
@[simp] theorem Dev.setActive_twn (d : Dev) (a : Nat) (b : Bool) : (d.setActive a b).twn = d.twn := by
  obtain ⟨_, _, h⟩ := d.setActive_shape a b; rw [h]
@[simp] theorem Dev.setActive_memx (d : Dev) (a : Nat) (b : Bool) : (d.setActive a b).memx = d.memx := by
  obtain ⟨_, _, h⟩ := d.setActive_shape a b; rw [h]
@[simp] theorem Dev.setActive_dmaq (d : Dev) (a : Nat) (b : Bool) : (d.setActive a b).dmaq = d.dmaq := by
  obtain ⟨_, _, h⟩ := d.setActive_shape a b; rw [h]
@[simp] theorem Dev.setActive_dmaLast (d : Dev) (a : Nat) (b : Bool) : (d.setActive a b).dmaLast = d.dmaLast := by
  obtain ⟨_, _, h⟩ := d.setActive_shape a b; rw [h]
@[simp] theorem Dev.setActive_rng (d : Dev) (a : Nat) (b : Bool) : (d.setActive a b).rng = d.rng := by
  obtain ⟨_, _, h⟩ := d.setActive_shape a b; rw [h]
@[simp] theorem Dev.setActive_tblMark (d : Dev) (a : Nat) (b : Bool) : (d.setActive a b).tblMark = d.tblMark := by
  obtain ⟨_, _, h⟩ := d.setActive_shape a b; rw [h]
@[simp] theorem Dev.setActive_tmp (d : Dev) (a : Nat) (b : Bool) : (d.setActive a b).tmp = d.tmp := by
  obtain ⟨_, _, h⟩ := d.setActive_shape a b; rw [h]
@[simp] theorem Dev.setActive_clk (d : Dev) (a : Nat) (b : Bool) : (d.setActive a b).clk = d.clk := by
  obtain ⟨_, _, h⟩ := d.setActive_shape a b; rw [h]
@[simp] theorem Dev.setActive_pwr (d : Dev) (a : Nat) (b : Bool) : (d.setActive a b).pwr = d.pwr := by
  obtain ⟨_, _, h⟩ := d.setActive_shape a b; rw [h]
@[simp] theorem Dev.setActive_cal (d : Dev) (a : Nat) (b : Bool) : (d.setActive a b).cal = d.cal := by
  obtain ⟨_, _, h⟩ := d.setActive_shape a b; rw [h]
@[simp] theorem Dev.setActive_lg (d : Dev) (a : Nat) (b : Bool) : (d.setActive a b).lg = d.lg := by
  obtain ⟨_, _, h⟩ := d.setActive_shape a b; rw [h]
theorem Dev.rd_setActive_ne (d : Dev) (a : Nat) (b : Bool) (r : Reg) (h0 : r.off ≠ (R.FLT_SRCi_STATE a).off) (h1 : r.off ≠ R.FLT_ACTIVE.off) : (d.setActive a b).rd r = d.rd r := by
  exact Frame.rd (ps := [.flt, .reg (R.FLT_SRCi_STATE a).off, .reg R.FLT_ACTIVE.off]) (Frame.setActive Frame.refl a b (by simp) (by simp) (by simp)) r (by simp [h0, h1])
theorem Dev.get_setActive_ne (d : Dev) (a : Nat) (b : Bool) (g : Fld) (h0 : g.reg.off ≠ (R.FLT_SRCi_STATE a).off) (h1 : g.reg.off ≠ R.FLT_ACTIVE.off) : (d.setActive a b).get g = d.get g := by
  rw [Dev.get, Dev.rd_setActive_ne _ _ _ _ h0 h1, Dev.get]
theorem Dev.on_setActive_ne (d : Dev) (a : Nat) (b : Bool) (g : Fld) (h0 : g.reg.off ≠ (R.FLT_SRCi_STATE a).off) (h1 : g.reg.off ≠ R.FLT_ACTIVE.off) : (d.setActive a b).on g = d.on g := by
  rw [Dev.on, Dev.get_setActive_ne _ _ _ _ h0 h1, Dev.on]

/-! ### stage -/

/-- All that stage can change. -/
theorem Dev.stage_shape (d : Dev) (b : Bool) (o : Nat) : ∃ x0 x1, d.stage b o = { d with regs := x0, twn := x1 } := by
  unfold Dev.stage; split
  · exact ⟨_, _, rfl⟩
  · exact ⟨_, _, rfl⟩
@[simp] theorem Dev.stage_active (d : Dev) (b : Bool) (o : Nat) : (d.stage b o).active = d.active := by
  obtain ⟨_, _, h⟩ := d.stage_shape b o; rw [h]
@[simp] theorem Dev.stage_ready (d : Dev) (b : Bool) (o : Nat) : (d.stage b o).ready = d.ready := by
  obtain ⟨_, _, h⟩ := d.stage_shape b o; rw [h]
@[simp] theorem Dev.stage_actTbl (d : Dev) (b : Bool) (o : Nat) : (d.stage b o).actTbl = d.actTbl := by
  obtain ⟨_, _, h⟩ := d.stage_shape b o; rw [h]
@[simp] theorem Dev.stage_tbl (d : Dev) (b : Bool) (o : Nat) : (d.stage b o).tbl = d.tbl := by
  obtain ⟨_, _, h⟩ := d.stage_shape b o; rw [h]
@[simp] theorem Dev.stage_tblChk (d : Dev) (b : Bool) (o : Nat) : (d.stage b o).tblChk = d.tblChk := by
  obtain ⟨_, _, h⟩ := d.stage_shape b o; rw [h]
@[simp] theorem Dev.stage_out (d : Dev) (b : Bool) (o : Nat) : (d.stage b o).out = d.out := by
  obtain ⟨_, _, h⟩ := d.stage_shape b o; rw [h]
@[simp] theorem Dev.stage_free (d : Dev) (b : Bool) (o : Nat) : (d.stage b o).free = d.free := by
  obtain ⟨_, _, h⟩ := d.stage_shape b o; rw [h]
@[simp] theorem Dev.stage_sys (d : Dev) (b : Bool) (o : Nat) : (d.stage b o).sys = d.sys := by
  obtain ⟨_, _, h⟩ := d.stage_shape b o; rw [h]
@[simp] theorem Dev.stage_frd (d : Dev) (b : Bool) (o : Nat) : (d.stage b o).frd = d.frd := by
  obtain ⟨_, _, h⟩ := d.stage_shape b o; rw [h]
@[simp] theorem Dev.stage_evt (d : Dev) (b : Bool) (o : Nat) : (d.stage b o).evt = d.evt := by
  obtain ⟨_, _, h⟩ := d.stage_shape b o; rw [h]
@[simp] theorem Dev.stage_sht (d : Dev) (b : Bool) (o : Nat) : (d.stage b o).sht = d.sht := by
  obtain ⟨_, _, h⟩ := d.stage_shape b o; rw [h]
@[simp] theorem Dev.stage_flt (d : Dev) (b : Bool) (o : Nat) : (d.stage b o).flt = d.flt := by
  obtain ⟨_, _, h⟩ := d.stage_shape b o; rw [h]
@[simp] theorem Dev.stage_host (d : Dev) (b : Bool) (o : Nat) : (d.stage b o).host = d.host := by
  obtain ⟨_, _, h⟩ := d.stage_shape b o; rw [h]
@[simp] theorem Dev.stage_ch (d : Dev) (b : Bool) (o : Nat) : (d.stage b o).ch = d.ch := by
  obtain ⟨_, _, h⟩ := d.stage_shape b o; rw [h]
@[simp] theorem Dev.stage_bld (d : Dev) (b : Bool) (o : Nat) : (d.stage b o).bld = d.bld := by
  obtain ⟨_, _, h⟩ := d.stage_shape b o; rw [h]
@[simp] theorem Dev.stage_dcb (d : Dev) (b : Bool) (o : Nat) : (d.stage b o).dcb = d.dcb := by
  obtain ⟨_, _, h⟩ := d.stage_shape b o; rw [h]
@[simp] theorem Dev.stage_stp (d : Dev) (b : Bool) (o : Nat) : (d.stage b o).stp = d.stp := by
  obtain ⟨_, _, h⟩ := d.stage_shape b o; rw [h]
@[simp] theorem Dev.stage_inp (d : Dev) (b : Bool) (o : Nat) : (d.stage b o).inp = d.inp := by
  obtain ⟨_, _, h⟩ := d.stage_shape b o; rw [h]
@[simp] theorem Dev.stage_loop (d : Dev) (b : Bool) (o : Nat) : (d.stage b o).loop = d.loop := by
  obtain ⟨_, _, h⟩ := d.stage_shape b o; rw [h]
@[simp] theorem Dev.stage_outU (d : Dev) (b : Bool) (o : Nat) : (d.stage b o).outU = d.outU := by
  obtain ⟨_, _, h⟩ := d.stage_shape b o; rw [h]
@[simp] theorem Dev.stage_memx (d : Dev) (b : Bool) (o : Nat) : (d.stage b o).memx = d.memx := by
  obtain ⟨_, _, h⟩ := d.stage_shape b o; rw [h]
@[simp] theorem Dev.stage_dmaq (d : Dev) (b : Bool) (o : Nat) : (d.stage b o).dmaq = d.dmaq := by
  obtain ⟨_, _, h⟩ := d.stage_shape b o; rw [h]
@[simp] theorem Dev.stage_dmaLast (d : Dev) (b : Bool) (o : Nat) : (d.stage b o).dmaLast = d.dmaLast := by
  obtain ⟨_, _, h⟩ := d.stage_shape b o; rw [h]
@[simp] theorem Dev.stage_rng (d : Dev) (b : Bool) (o : Nat) : (d.stage b o).rng = d.rng := by
  obtain ⟨_, _, h⟩ := d.stage_shape b o; rw [h]
@[simp] theorem Dev.stage_tblMark (d : Dev) (b : Bool) (o : Nat) : (d.stage b o).tblMark = d.tblMark := by
  obtain ⟨_, _, h⟩ := d.stage_shape b o; rw [h]
@[simp] theorem Dev.stage_tmp (d : Dev) (b : Bool) (o : Nat) : (d.stage b o).tmp = d.tmp := by
  obtain ⟨_, _, h⟩ := d.stage_shape b o; rw [h]
@[simp] theorem Dev.stage_clk (d : Dev) (b : Bool) (o : Nat) : (d.stage b o).clk = d.clk := by
  obtain ⟨_, _, h⟩ := d.stage_shape b o; rw [h]
@[simp] theorem Dev.stage_pwr (d : Dev) (b : Bool) (o : Nat) : (d.stage b o).pwr = d.pwr := by
  obtain ⟨_, _, h⟩ := d.stage_shape b o; rw [h]
@[simp] theorem Dev.stage_cal (d : Dev) (b : Bool) (o : Nat) : (d.stage b o).cal = d.cal := by
  obtain ⟨_, _, h⟩ := d.stage_shape b o; rw [h]
@[simp] theorem Dev.stage_lg (d : Dev) (b : Bool) (o : Nat) : (d.stage b o).lg = d.lg := by
  obtain ⟨_, _, h⟩ := d.stage_shape b o; rw [h]
theorem Dev.rd_stage_ne (d : Dev) (b : Bool) (o : Nat) (r : Reg) (h0 : r.off ≠ R.TWN_STATUS.off) : (d.stage b o).rd r = d.rd r := by
  unfold Dev.stage; split
  · exact Dev.rd_wr_ne _ _ _ _ h0
  · rfl
theorem Dev.get_stage_ne (d : Dev) (b : Bool) (o : Nat) (g : Fld) (h0 : g.reg.off ≠ R.TWN_STATUS.off) : (d.stage b o).get g = d.get g := by
  rw [Dev.get, Dev.rd_stage_ne _ _ _ _ h0, Dev.get]
theorem Dev.on_stage_ne (d : Dev) (b : Bool) (o : Nat) (g : Fld) (h0 : g.reg.off ≠ R.TWN_STATUS.off) : (d.stage b o).on g = d.on g := by
  rw [Dev.on, Dev.get_stage_ne _ _ _ _ h0, Dev.on]

/-! ### commit -/

@[simp] theorem Dev.commit_active (d : Dev) (c : Reg) (f : Fld) : (d.commit c f).active = d.active := rfl
@[simp] theorem Dev.commit_actTbl (d : Dev) (c : Reg) (f : Fld) : (d.commit c f).actTbl = d.actTbl := rfl
@[simp] theorem Dev.commit_tbl (d : Dev) (c : Reg) (f : Fld) : (d.commit c f).tbl = d.tbl := rfl
@[simp] theorem Dev.commit_tblChk (d : Dev) (c : Reg) (f : Fld) : (d.commit c f).tblChk = d.tblChk := rfl
@[simp] theorem Dev.commit_out (d : Dev) (c : Reg) (f : Fld) : (d.commit c f).out = d.out := rfl
@[simp] theorem Dev.commit_free (d : Dev) (c : Reg) (f : Fld) : (d.commit c f).free = d.free := rfl
@[simp] theorem Dev.commit_sys (d : Dev) (c : Reg) (f : Fld) : (d.commit c f).sys = d.sys := rfl
@[simp] theorem Dev.commit_frd (d : Dev) (c : Reg) (f : Fld) : (d.commit c f).frd = d.frd := rfl
@[simp] theorem Dev.commit_evt (d : Dev) (c : Reg) (f : Fld) : (d.commit c f).evt = d.evt := rfl
@[simp] theorem Dev.commit_sht (d : Dev) (c : Reg) (f : Fld) : (d.commit c f).sht = d.sht := rfl
@[simp] theorem Dev.commit_flt (d : Dev) (c : Reg) (f : Fld) : (d.commit c f).flt = d.flt := rfl
@[simp] theorem Dev.commit_host (d : Dev) (c : Reg) (f : Fld) : (d.commit c f).host = d.host := rfl
@[simp] theorem Dev.commit_ch (d : Dev) (c : Reg) (f : Fld) : (d.commit c f).ch = d.ch := rfl
@[simp] theorem Dev.commit_bld (d : Dev) (c : Reg) (f : Fld) : (d.commit c f).bld = d.bld := rfl
@[simp] theorem Dev.commit_dcb (d : Dev) (c : Reg) (f : Fld) : (d.commit c f).dcb = d.dcb := rfl
@[simp] theorem Dev.commit_stp (d : Dev) (c : Reg) (f : Fld) : (d.commit c f).stp = d.stp := rfl
@[simp] theorem Dev.commit_inp (d : Dev) (c : Reg) (f : Fld) : (d.commit c f).inp = d.inp := rfl
@[simp] theorem Dev.commit_loop (d : Dev) (c : Reg) (f : Fld) : (d.commit c f).loop = d.loop := rfl
@[simp] theorem Dev.commit_outU (d : Dev) (c : Reg) (f : Fld) : (d.commit c f).outU = d.outU := rfl
@[simp] theorem Dev.commit_twn (d : Dev) (c : Reg) (f : Fld) : (d.commit c f).twn = d.twn := rfl
@[simp] theorem Dev.commit_memx (d : Dev) (c : Reg) (f : Fld) : (d.commit c f).memx = d.memx := rfl
@[simp] theorem Dev.commit_dmaq (d : Dev) (c : Reg) (f : Fld) : (d.commit c f).dmaq = d.dmaq := rfl
@[simp] theorem Dev.commit_dmaLast (d : Dev) (c : Reg) (f : Fld) : (d.commit c f).dmaLast = d.dmaLast := rfl
@[simp] theorem Dev.commit_rng (d : Dev) (c : Reg) (f : Fld) : (d.commit c f).rng = d.rng := rfl
@[simp] theorem Dev.commit_tblMark (d : Dev) (c : Reg) (f : Fld) : (d.commit c f).tblMark = d.tblMark := rfl
@[simp] theorem Dev.commit_tmp (d : Dev) (c : Reg) (f : Fld) : (d.commit c f).tmp = d.tmp := rfl
@[simp] theorem Dev.commit_clk (d : Dev) (c : Reg) (f : Fld) : (d.commit c f).clk = d.clk := rfl
@[simp] theorem Dev.commit_pwr (d : Dev) (c : Reg) (f : Fld) : (d.commit c f).pwr = d.pwr := rfl
@[simp] theorem Dev.commit_cal (d : Dev) (c : Reg) (f : Fld) : (d.commit c f).cal = d.cal := rfl
@[simp] theorem Dev.commit_lg (d : Dev) (c : Reg) (f : Fld) : (d.commit c f).lg = d.lg := rfl
theorem Dev.rd_commit_ne (d : Dev) (c : Reg) (f : Fld) (r : Reg) (h0 : r.off ≠ f.reg.off) : (d.commit c f).rd r = d.rd r := by
  exact Dev.rd_wr_ne _ _ _ _ h0
theorem Dev.get_commit_ne (d : Dev) (c : Reg) (f : Fld) (g : Fld) (h0 : g.reg.off ≠ f.reg.off) : (d.commit c f).get g = d.get g := by
  rw [Dev.get, Dev.rd_commit_ne _ _ _ _ h0, Dev.get]
theorem Dev.on_commit_ne (d : Dev) (c : Reg) (f : Fld) (g : Fld) (h0 : g.reg.off ≠ f.reg.off) : (d.commit c f).on g = d.on g := by
  rw [Dev.on, Dev.get_commit_ne _ _ _ _ h0, Dev.on]

/-! ### putTw -/

@[simp] theorem Dev.putTw_regs (d : Dev) (o v : Nat) : (d.putTw o v).regs = d.regs := rfl
@[simp] theorem Dev.putTw_active (d : Dev) (o v : Nat) : (d.putTw o v).active = d.active := rfl
@[simp] theorem Dev.putTw_ready (d : Dev) (o v : Nat) : (d.putTw o v).ready = d.ready := rfl
@[simp] theorem Dev.putTw_actTbl (d : Dev) (o v : Nat) : (d.putTw o v).actTbl = d.actTbl := rfl
@[simp] theorem Dev.putTw_out (d : Dev) (o v : Nat) : (d.putTw o v).out = d.out := rfl
@[simp] theorem Dev.putTw_free (d : Dev) (o v : Nat) : (d.putTw o v).free = d.free := rfl
@[simp] theorem Dev.putTw_sys (d : Dev) (o v : Nat) : (d.putTw o v).sys = d.sys := rfl
@[simp] theorem Dev.putTw_frd (d : Dev) (o v : Nat) : (d.putTw o v).frd = d.frd := rfl
@[simp] theorem Dev.putTw_evt (d : Dev) (o v : Nat) : (d.putTw o v).evt = d.evt := rfl
@[simp] theorem Dev.putTw_sht (d : Dev) (o v : Nat) : (d.putTw o v).sht = d.sht := rfl
@[simp] theorem Dev.putTw_flt (d : Dev) (o v : Nat) : (d.putTw o v).flt = d.flt := rfl
@[simp] theorem Dev.putTw_host (d : Dev) (o v : Nat) : (d.putTw o v).host = d.host := rfl
@[simp] theorem Dev.putTw_ch (d : Dev) (o v : Nat) : (d.putTw o v).ch = d.ch := rfl
@[simp] theorem Dev.putTw_bld (d : Dev) (o v : Nat) : (d.putTw o v).bld = d.bld := rfl
@[simp] theorem Dev.putTw_dcb (d : Dev) (o v : Nat) : (d.putTw o v).dcb = d.dcb := rfl
@[simp] theorem Dev.putTw_stp (d : Dev) (o v : Nat) : (d.putTw o v).stp = d.stp := rfl
@[simp] theorem Dev.putTw_inp (d : Dev) (o v : Nat) : (d.putTw o v).inp = d.inp := rfl
@[simp] theorem Dev.putTw_loop (d : Dev) (o v : Nat) : (d.putTw o v).loop = d.loop := rfl
@[simp] theorem Dev.putTw_outU (d : Dev) (o v : Nat) : (d.putTw o v).outU = d.outU := rfl
@[simp] theorem Dev.putTw_twn (d : Dev) (o v : Nat) : (d.putTw o v).twn = d.twn := rfl
@[simp] theorem Dev.putTw_memx (d : Dev) (o v : Nat) : (d.putTw o v).memx = d.memx := rfl
@[simp] theorem Dev.putTw_dmaq (d : Dev) (o v : Nat) : (d.putTw o v).dmaq = d.dmaq := rfl
@[simp] theorem Dev.putTw_dmaLast (d : Dev) (o v : Nat) : (d.putTw o v).dmaLast = d.dmaLast := rfl
@[simp] theorem Dev.putTw_rng (d : Dev) (o v : Nat) : (d.putTw o v).rng = d.rng := rfl
@[simp] theorem Dev.putTw_tmp (d : Dev) (o v : Nat) : (d.putTw o v).tmp = d.tmp := rfl
@[simp] theorem Dev.putTw_clk (d : Dev) (o v : Nat) : (d.putTw o v).clk = d.clk := rfl
@[simp] theorem Dev.putTw_pwr (d : Dev) (o v : Nat) : (d.putTw o v).pwr = d.pwr := rfl
@[simp] theorem Dev.putTw_cal (d : Dev) (o v : Nat) : (d.putTw o v).cal = d.cal := rfl
@[simp] theorem Dev.putTw_lg (d : Dev) (o v : Nat) : (d.putTw o v).lg = d.lg := rfl
@[simp] theorem Dev.rd_putTw (d : Dev) (o v : Nat) (r : Reg) : (d.putTw o v).rd r = d.rd r := by unfold Dev.rd; simp
@[simp] theorem Dev.get_putTw (d : Dev) (o v : Nat) (g : Fld) : (d.putTw o v).get g = d.get g := by unfold Dev.get; simp
@[simp] theorem Dev.on_putTw (d : Dev) (o v : Nat) (g : Fld) : (d.putTw o v).on g = d.on g := by unfold Dev.on; simp

/-! ### milestone -/

@[simp] theorem Dev.milestone_regs (d : Dev) (a b c x y z : Nat) : (d.milestone a b c x y z).regs = d.regs := rfl
@[simp] theorem Dev.milestone_active (d : Dev) (a b c x y z : Nat) : (d.milestone a b c x y z).active = d.active := rfl
@[simp] theorem Dev.milestone_ready (d : Dev) (a b c x y z : Nat) : (d.milestone a b c x y z).ready = d.ready := rfl
@[simp] theorem Dev.milestone_actTbl (d : Dev) (a b c x y z : Nat) : (d.milestone a b c x y z).actTbl = d.actTbl := rfl
@[simp] theorem Dev.milestone_tbl (d : Dev) (a b c x y z : Nat) : (d.milestone a b c x y z).tbl = d.tbl := rfl
@[simp] theorem Dev.milestone_tblChk (d : Dev) (a b c x y z : Nat) : (d.milestone a b c x y z).tblChk = d.tblChk := rfl
@[simp] theorem Dev.milestone_out (d : Dev) (a b c x y z : Nat) : (d.milestone a b c x y z).out = d.out := rfl
@[simp] theorem Dev.milestone_free (d : Dev) (a b c x y z : Nat) : (d.milestone a b c x y z).free = d.free := rfl
@[simp] theorem Dev.milestone_sys (d : Dev) (a b c x y z : Nat) : (d.milestone a b c x y z).sys = d.sys := rfl
@[simp] theorem Dev.milestone_frd (d : Dev) (a b c x y z : Nat) : (d.milestone a b c x y z).frd = d.frd := rfl
@[simp] theorem Dev.milestone_sht (d : Dev) (a b c x y z : Nat) : (d.milestone a b c x y z).sht = d.sht := rfl
@[simp] theorem Dev.milestone_flt (d : Dev) (a b c x y z : Nat) : (d.milestone a b c x y z).flt = d.flt := rfl
@[simp] theorem Dev.milestone_host (d : Dev) (a b c x y z : Nat) : (d.milestone a b c x y z).host = d.host := rfl
@[simp] theorem Dev.milestone_ch (d : Dev) (a b c x y z : Nat) : (d.milestone a b c x y z).ch = d.ch := rfl
@[simp] theorem Dev.milestone_bld (d : Dev) (a b c x y z : Nat) : (d.milestone a b c x y z).bld = d.bld := rfl
@[simp] theorem Dev.milestone_dcb (d : Dev) (a b c x y z : Nat) : (d.milestone a b c x y z).dcb = d.dcb := rfl
@[simp] theorem Dev.milestone_stp (d : Dev) (a b c x y z : Nat) : (d.milestone a b c x y z).stp = d.stp := rfl
@[simp] theorem Dev.milestone_inp (d : Dev) (a b c x y z : Nat) : (d.milestone a b c x y z).inp = d.inp := rfl
@[simp] theorem Dev.milestone_loop (d : Dev) (a b c x y z : Nat) : (d.milestone a b c x y z).loop = d.loop := rfl
@[simp] theorem Dev.milestone_outU (d : Dev) (a b c x y z : Nat) : (d.milestone a b c x y z).outU = d.outU := rfl
@[simp] theorem Dev.milestone_twn (d : Dev) (a b c x y z : Nat) : (d.milestone a b c x y z).twn = d.twn := rfl
@[simp] theorem Dev.milestone_memx (d : Dev) (a b c x y z : Nat) : (d.milestone a b c x y z).memx = d.memx := rfl
@[simp] theorem Dev.milestone_dmaq (d : Dev) (a b c x y z : Nat) : (d.milestone a b c x y z).dmaq = d.dmaq := rfl
@[simp] theorem Dev.milestone_dmaLast (d : Dev) (a b c x y z : Nat) : (d.milestone a b c x y z).dmaLast = d.dmaLast := rfl
@[simp] theorem Dev.milestone_rng (d : Dev) (a b c x y z : Nat) : (d.milestone a b c x y z).rng = d.rng := rfl
@[simp] theorem Dev.milestone_tblMark (d : Dev) (a b c x y z : Nat) : (d.milestone a b c x y z).tblMark = d.tblMark := rfl
@[simp] theorem Dev.milestone_tmp (d : Dev) (a b c x y z : Nat) : (d.milestone a b c x y z).tmp = d.tmp := rfl
@[simp] theorem Dev.milestone_clk (d : Dev) (a b c x y z : Nat) : (d.milestone a b c x y z).clk = d.clk := rfl
@[simp] theorem Dev.milestone_pwr (d : Dev) (a b c x y z : Nat) : (d.milestone a b c x y z).pwr = d.pwr := rfl
@[simp] theorem Dev.milestone_cal (d : Dev) (a b c x y z : Nat) : (d.milestone a b c x y z).cal = d.cal := rfl
@[simp] theorem Dev.milestone_lg (d : Dev) (a b c x y z : Nat) : (d.milestone a b c x y z).lg = d.lg := rfl
@[simp] theorem Dev.rd_milestone (d : Dev) (a b c x y z : Nat) (r : Reg) : (d.milestone a b c x y z).rd r = d.rd r := by unfold Dev.rd; simp
@[simp] theorem Dev.get_milestone (d : Dev) (a b c x y z : Nat) (g : Fld) : (d.milestone a b c x y z).get g = d.get g := by unfold Dev.get; simp
@[simp] theorem Dev.on_milestone (d : Dev) (a b c x y z : Nat) (g : Fld) : (d.milestone a b c x y z).on g = d.on g := by unfold Dev.on; simp

/-! ### mark -/

@[simp] theorem Dev.mark_regs (d : Dev) (a b c x : Nat) : (d.mark a b c x).regs = d.regs := rfl
@[simp] theorem Dev.mark_active (d : Dev) (a b c x : Nat) : (d.mark a b c x).active = d.active := rfl
@[simp] theorem Dev.mark_ready (d : Dev) (a b c x : Nat) : (d.mark a b c x).ready = d.ready := rfl
@[simp] theorem Dev.mark_actTbl (d : Dev) (a b c x : Nat) : (d.mark a b c x).actTbl = d.actTbl := rfl
@[simp] theorem Dev.mark_tbl (d : Dev) (a b c x : Nat) : (d.mark a b c x).tbl = d.tbl := rfl
@[simp] theorem Dev.mark_tblChk (d : Dev) (a b c x : Nat) : (d.mark a b c x).tblChk = d.tblChk := rfl
@[simp] theorem Dev.mark_out (d : Dev) (a b c x : Nat) : (d.mark a b c x).out = d.out := rfl
@[simp] theorem Dev.mark_free (d : Dev) (a b c x : Nat) : (d.mark a b c x).free = d.free := rfl
@[simp] theorem Dev.mark_sys (d : Dev) (a b c x : Nat) : (d.mark a b c x).sys = d.sys := rfl
@[simp] theorem Dev.mark_frd (d : Dev) (a b c x : Nat) : (d.mark a b c x).frd = d.frd := rfl
@[simp] theorem Dev.mark_sht (d : Dev) (a b c x : Nat) : (d.mark a b c x).sht = d.sht := rfl
@[simp] theorem Dev.mark_flt (d : Dev) (a b c x : Nat) : (d.mark a b c x).flt = d.flt := rfl
@[simp] theorem Dev.mark_host (d : Dev) (a b c x : Nat) : (d.mark a b c x).host = d.host := rfl
@[simp] theorem Dev.mark_ch (d : Dev) (a b c x : Nat) : (d.mark a b c x).ch = d.ch := rfl
@[simp] theorem Dev.mark_bld (d : Dev) (a b c x : Nat) : (d.mark a b c x).bld = d.bld := rfl
@[simp] theorem Dev.mark_dcb (d : Dev) (a b c x : Nat) : (d.mark a b c x).dcb = d.dcb := rfl
@[simp] theorem Dev.mark_stp (d : Dev) (a b c x : Nat) : (d.mark a b c x).stp = d.stp := rfl
@[simp] theorem Dev.mark_inp (d : Dev) (a b c x : Nat) : (d.mark a b c x).inp = d.inp := rfl
@[simp] theorem Dev.mark_loop (d : Dev) (a b c x : Nat) : (d.mark a b c x).loop = d.loop := rfl
@[simp] theorem Dev.mark_outU (d : Dev) (a b c x : Nat) : (d.mark a b c x).outU = d.outU := rfl
@[simp] theorem Dev.mark_twn (d : Dev) (a b c x : Nat) : (d.mark a b c x).twn = d.twn := rfl
@[simp] theorem Dev.mark_memx (d : Dev) (a b c x : Nat) : (d.mark a b c x).memx = d.memx := rfl
@[simp] theorem Dev.mark_dmaq (d : Dev) (a b c x : Nat) : (d.mark a b c x).dmaq = d.dmaq := rfl
@[simp] theorem Dev.mark_dmaLast (d : Dev) (a b c x : Nat) : (d.mark a b c x).dmaLast = d.dmaLast := rfl
@[simp] theorem Dev.mark_rng (d : Dev) (a b c x : Nat) : (d.mark a b c x).rng = d.rng := rfl
@[simp] theorem Dev.mark_tblMark (d : Dev) (a b c x : Nat) : (d.mark a b c x).tblMark = d.tblMark := rfl
@[simp] theorem Dev.mark_tmp (d : Dev) (a b c x : Nat) : (d.mark a b c x).tmp = d.tmp := rfl
@[simp] theorem Dev.mark_clk (d : Dev) (a b c x : Nat) : (d.mark a b c x).clk = d.clk := rfl
@[simp] theorem Dev.mark_pwr (d : Dev) (a b c x : Nat) : (d.mark a b c x).pwr = d.pwr := rfl
@[simp] theorem Dev.mark_cal (d : Dev) (a b c x : Nat) : (d.mark a b c x).cal = d.cal := rfl
@[simp] theorem Dev.mark_lg (d : Dev) (a b c x : Nat) : (d.mark a b c x).lg = d.lg := rfl
@[simp] theorem Dev.rd_mark (d : Dev) (a b c x : Nat) (r : Reg) : (d.mark a b c x).rd r = d.rd r := by unfold Dev.rd; simp
@[simp] theorem Dev.get_mark (d : Dev) (a b c x : Nat) (g : Fld) : (d.mark a b c x).get g = d.get g := by unfold Dev.get; simp
@[simp] theorem Dev.on_mark (d : Dev) (a b c x : Nat) (g : Fld) : (d.mark a b c x).on g = d.on g := by unfold Dev.on; simp

/-! ### What they do -/

theorem Dev.rd_flag_same (d : Dev) (st en : Reg) (k v : Nat) (h : st.off ≠ R.MSIX_PBA.off) (hk : k < st.w) (hw : st.w ≤ 64) :
    bit ((d.flag st en k v).rd st) k = true := by
  have e : bit ((d.wr st (putBits (d.rd st) k k 1)).rd st) k = true := by
    rw [Dev.rd_wr_same, bit_mod _ _ _ (by omega), bit_mod _ _ _ hk]
    exact bit_putBits_same _ _ true
  unfold Dev.flag; dsimp only; split_ifs
  · rw [Dev.rd_post_ne _ _ _ h]; exact e
  · exact e

/-- A host access that the endpoint takes and whose domain is on reaches its register. -/
theorem Dev.reach_direct (d : Dev) (off : Nat) (f : Dev → Dev) (he : d.endpoint = true) (h3 : d.host.d3 = false)
    (h1 : d.domOn (domainOf off) = true) : d.reach off f = f d := by
  unfold Dev.reach Dev.barred; simp [he, h3, h1]

/-- A host command that no pair stands in the way of acts at once. -/
theorem Dev.agree_direct (d : Dev) (r : Reg) (v : Nat) (f : Dev → Dev) (h : d.direct r.off) : d.agree r v f = f d := by
  obtain ⟨he, h3, h1, h2⟩ := h
  unfold Dev.agree Dev.agreed
  rw [Dev.reach_direct _ _ _ he (by simpa using h3) h1]
  rcases h2 with h2 | h2 <;> simp [h2]

/-- Engine time that has run for n ticks. -/
theorem Dev.now_advance (d : Dev) (n : Nat) (hr : d.evt.running = true) (ht : d.now + d.timeGain n < 2 ^ 64) :
    (d.advance n).now = d.now + d.timeGain n := by
  unfold Dev.advance
  dsimp only
  generalize d.timeGain n = g at *
  have k : Dev.now (Dev.put { d with sys := { d.sys with now8 := d.sys.now8 + n } } F.SYS_SECONDS.seconds
      ((d.sys.now8 + n) / 125000000)) = d.now := Dev.rd_wr_ne _ _ _ _ (by decide)
  simp only [Dev.put_evt, hr, if_true]
  rw [k]
  show (Dev.wr _ R.EVT_TIME (d.now + g)).rd R.EVT_TIME = _
  rw [Dev.rd_wr_same, Nat.mod_eq_of_lt]
  · exact Nat.mod_eq_of_lt ht
  · exact lt_of_le_of_lt (Nat.mod_le _ _) ht

/-- Engine time after it has been advanced to a later time (R77). -/
theorem Dev.now_advanceTo (d : Dev) (t : Nat) (hr : d.evt.running = true) (ht : d.timeAt t < 2 ^ 64) :
    (d.advanceTo t).now = d.timeAt t := by
  unfold Dev.advanceTo Dev.timeAt at *
  by_cases h : d.now < t
  · simp only [h, if_true] at ht
    simp only [hr, h, decide_true, Bool.and_self, if_true]
    exact Dev.now_advance d _ hr ht
  · simp [h]

/-- On the time base engine time reaches exactly the time it is advanced to (R76). -/
theorem Dev.timeAt_timeBase (d : Dev) (t : Nat) (h : d.on F.CLK_STATUS.tbase_fb = false) : d.timeAt t = max d.now t := by
  have k : d.timeSource = 0 := by unfold Dev.timeSource; simp [h]
  unfold Dev.timeAt Dev.timeGain Dev.timeTicks
  simp only [k, timeCount, timeTick]
  split_ifs <;> omega

theorem timeCount_mono (src a b : Nat) (h : a ≤ b) : timeCount src a ≤ timeCount src b := by
  match src with
  | 0 => exact h
  | 1 => simp only [timeCount]; omega
  | s + 2 =>
    simp only [timeCount]
    exact Nat.div_le_div_right (Nat.mul_le_mul_right _ (Nat.div_le_div_right (Nat.mul_le_mul_left _ h)))

theorem le_timeCount_timeTick (src c : Nat) : c ≤ timeCount src (timeTick src c) := by
  match src with
  | 0 => exact le_refl c
  | 1 => simp only [timeCount, timeTick]; omega
  | s + 2 => simp only [timeCount, timeTick]; omega

/-- A fallback clock reaches it (R77). -/
theorem Dev.le_timeAt (d : Dev) (t : Nat) : t ≤ d.timeAt t := by
  unfold Dev.timeAt Dev.timeGain Dev.timeTicks
  generalize d.timeSource = s
  have k := le_timeCount_timeTick s (timeCount s d.sys.now8 + (t - d.now))
  generalize timeTick s (timeCount s d.sys.now8 + (t - d.now)) = x at *
  split_ifs with h
  · by_cases hx : d.sys.now8 ≤ x
    · rw [Nat.add_sub_cancel' hx]; omega
    · have := timeCount_mono s x d.sys.now8 (by omega); omega
  · omega

end Sys2Proof.Machine
end

