-- ==== Sys2Proof/Tests/Slice0.lean ====
section
/-! SUPPORT. Tests: commands whose operands are out of range are refused by `Instr.wf`; small results worked out from the
rules; and for each statement a state and operands that meet the hypotheses of each of its clauses. -/

section

open Sys2Proof Sys2Proof.Machine Sys2Proof.Claims

set_option maxRecDepth 100000
set_option linter.unusedVariables false

namespace Sys2Proof.Tests

/-- The device from which the witnesses are built: as after reset. -/
def base : Dev := State.reset.dev
def onAll (d : Dev) : Dev :=
  { (d.put F.SYS_STRAPS.pers 0).wr R.PWR_DOMAINS 0xFFF with
    frd := { d.frd with cfg := { d.frd.cfg with role := { d.frd.cfg.role with grade := 0 } } }
    host := { d.host with d3 := false, linkUp := true } }
/-- The same with the link out of the way: phase 3 has ended. -/
def hostUp (d : Dev) : Dev :=
  let d := onAll d
  { d with sys := { d.sys with ph := Store.set 0 d.sys.ph 3 2 } }
/-- Channel 1 in use: DMO mode, in phase, its synthesizer locked, its permit closable. -/
def chanUp (d : Dev) : Dev :=
  let d := (d.put (F.CHn_PXS_STATUS.locked 1) 1).put (F.CHn_SCT_STATUS.state 1) 3
  let d := (d.put (F.CHn_FGT_STATUS.closable 1) 1).put (F.BLD_AXa_STATUS.at_speed 1) 1
  { d with frd := { d.frd with cfg := { d.frd.cfg with
    chans := [{ channel := 1, beams := 1, inputFormat := 0, blMode := 2, facets := 6, pixels := 640, polygonAxis := 1 }] } } }
/-- Everything that SYS_READY asks for, with channel 1 in use. -/
def engineUp (d : Dev) : Dev :=
  let d := chanUp (onAll d)
  let d := (((d.put F.FRD_STATUS.state 5).put F.CLK_STATUS.locked 3).put F.CLK_STATUS.core_fb 0).put F.MEM_STATUS.trained 1
  let d := (((d.put F.MEM_STATUS.initialised 1).put F.MEM_STATUS.scrubbed 1).put F.TMP_THROTTLE.sensors 0).put F.TMP_FAULTED.sensors 0
  let d := (((d.put F.PWR_STATUS.pfail_active 0).put F.FLT_STATUS.admissions_held 0).put F.SYS_HOST_STATE.state 0).put F.SYS_STRAPS.pers 0
  { d with
    flt := { d.flt with opens := [], hitSlot := 0 }
    frd := { d.frd with cfg := { d.frd.cfg with axes := [], loops := [], pins := [], role := { d.frd.cfg.role with dataSource := 1, admissionRules := 3 } } } }
def ent (d : Dev) (i lo hi : Nat) : Dev := (d.putTw (16 * i) lo).putTw (16 * i + 8) hi
/-- Descriptor k as a sheet of 10 lines of channel 1 with tag 77, whose list names the gated pick entry 3 and the IMAGE_START
entry 4. -/
def sheetUp (d : Dev) (k : Nat) : Dev :=
  let d := (d.wr (R.SHT_Dd_HEAD k) (77 * 2 ^ 16 + 2 * 2 ^ 8)).wr (R.SHT_Dd_LINES k) 10
  let d := { d with regs := d.regs.filter fun p => !(0x34000 ≤ p.1 && p.1 < 0x38000 && p.1 % 0x200 = 0 && p.1 ≠ (R.SHT_Dd_HEAD k).off) }
  let d := ((d.put (F.SHT_Dd_LINES.input_lines k) 10).put (F.SHT_Dd_RUNOUT.runout_ms k) 5).put (F.SHT_Dd_FILLn.lines k 1) 10
  let d := (d.wr (R.SHT_Dd_BASEn k 1) 4096).wr (R.SHT_Dd_TAGBASEn k 1) 0
  let d := (List.range 16).foldl (fun d r => d.wr (R.DMA_REGr_SIZE r) 0) d
  let d := (List.range 16).foldl (fun d j => d.wr (R.SHT_Dd_ARMk k j) (if j = 2 then 2 ^ 31 + 3 else if j = 5 then 2 ^ 31 + 4 else 0)) d
  let d := (d.wr (R.SHT_Dd_TRIGk k 2) 5000).wr (R.SHT_Dd_TRIGk k 5) 9000
  ent (ent d 3 1 (2 ^ 62 + 2 ^ 60 + 2 ^ 50)) 4 2 (2 ^ 62 + 2 ^ 60 + 8 * 2 ^ 24 + 1 * 2 ^ 16)
def noArms (d : Dev) : Dev := { d with evt := { d.evt with due := [], newArm := [], pend := [], armFor := [], pickNow := [] } }

end Sys2Proof.Tests

namespace Sys2Proof.Tests

/-! ### Ill-formed commands are refused -/

theorem test_wf_register_outside_bar : (Instr.registerWrite 0x1000000 0 false 0).wf = false := by decide
theorem test_wf_register_misaligned : (Instr.registerWrite 0x20004 0 true 0).wf = false := by decide
theorem test_wf_half_read_place : (Instr.lowHalfRead 0x20001 false).wf = false ∧ (Instr.lowHalfRead 0x2001008 false).wf = false ∧ (Instr.lowHalfRead 0x20004 true).wf = false := by decide
theorem test_wf_half_write_misaligned : (Instr.lowHalfWrite 0x20002 0).wf = false ∧ (Instr.highHalfWrite 0x20006 0 false 0).wf = false := by decide
theorem test_wf_shadow_misaligned : (Instr.shadowWrite 0x81015 0 false).wf = false ∧ (Instr.groupCommit 0x81002 1 false).wf = false := by decide
theorem test_wf_misaligned_size : (Instr.barAccessMisaligned 0 5 9 true []).wf = false ∧ (Instr.barAccessMisaligned 1 0x4000000 4 true []).wf = false := by decide
theorem test_wf_off_domain_size : (Instr.offDomainAccess 0x80000 2 false).wf = false := by decide
theorem test_wf_bar2_outside : (Instr.bar2Read 0x4000000 true).wf = false ∧ (Instr.bar2Write 0x100004 0 true false).wf = false := by decide
theorem test_wf_bar4_outside : (Instr.bar4Read 0x40000000 true).wf = false ∧ (Instr.bar4Write 4 0 true).wf = false := by decide
theorem test_wf_poisoned_misaligned : (Instr.poisonedWrite 2 2 []).wf = false := by decide
theorem test_wf_phase_zero : (Instr.phaseComplete 0 none).wf = false ∧ (Instr.phaseTimeout 13 0 0).wf = false := by decide
theorem test_wf_header_short : (Instr.frdHeaderComplete [0x46, 0x52]).wf = false := by decide
theorem test_wf_firing_index : (Instr.moveStart ⟨4096, 0, 0, 0, 0, false, false⟩).wf = false ∧
    (Instr.imageStart ⟨0, 256, 0, 0, 0, false, false⟩).wf = false ∧ (Instr.arm ⟨0, 0, 65536, 0, 0, false, false⟩).wf = false ∧
    (Instr.dout ⟨0, 0, 0, 65536, 0, false, false⟩).wf = false ∧ (Instr.loopEnable ⟨0, 0, 0, 0, 2 ^ 64, false, false⟩).wf = false := by decide
theorem test_wf_descriptor_outside : (Instr.descriptorWrite 0x38000 0 false).wf = false := by decide
theorem test_wf_lane_sequence : (Instr.rxLanesLocked ⟨[⟨1, [], 4, 4⟩]⟩).wf = false ∧
    (Instr.rxLanesLocked ⟨[⟨1, List.replicate 14 0, 129, 4⟩]⟩).wf = false ∧ (Instr.rxLanesLocked ⟨[⟨1, List.replicate 14 0, 9, 128⟩]⟩).wf = false := by decide
theorem test_wf_deskew_lanes : (Instr.rxDeskewDone ⟨List.replicate 9 0, 64⟩).wf = false := by decide
theorem test_wf_ts_and_eye : (Instr.tsReceived [0x4A]).wf = false ∧ (Instr.eyeRemeasure 0 129 0).wf = false := by decide
theorem test_wf_frame_units : (Instr.ringFrameReceived ⟨[[0xFB]], .cut⟩ []).wf = false ∧
    (Instr.ringFrameReceived ⟨[], .eof [0xFD]⟩ []).wf = false ∧ (Instr.controlUnitReceived [0xC5]).wf = false := by decide
theorem test_wf_dma_words : (Instr.descriptorFetched 0 (List.replicate 9 0)).wf = false ∧
    (Instr.dmaReadCompletion 0 ⟨.ok, List.replicate 513 0⟩).wf = false ∧ (Instr.dmaRegionWrite 0x50000 0).wf = false := by decide
theorem test_wf_memory_word : (Instr.readPortWord 0 0x8000000).wf = false ∧ (Instr.tableScrub 0 0x100004).wf = false := by decide
theorem test_wf_units_of_8 : (Instr.hello 0 []).wf = false ∧ (Instr.alert 0 [1]).wf = false ∧ (Instr.inputUnit ⟨0, []⟩).wf = false := by decide
theorem test_wf_interlock_source : (Instr.interlockOpen 0 35).wf = false ∧ (Instr.interlockOpen 0 0).wf = false := by decide
theorem test_wf_codes : (Instr.currentSample 0 2048 0).wf = false ∧ (Instr.currentSample 0 0 (-2049)).wf = false ∧
    (Instr.sampleBoundary 0 16384).wf = false := by decide
theorem test_wf_qspi_length : (Instr.qspiCommandDone (List.replicate 257 0)).wf = false := by decide
theorem test_wf_twin_frames : (Instr.beat ⟨0, ⟨[[]], .cut⟩, 0⟩).wf = false ∧ (Instr.turn (some ⟨0, ⟨[[]], .cut⟩, 0⟩)).wf = false := by decide
theorem test_wf_legacy_places : (Instr.lhbRead 0x801 0 false).wf = false ∧ (Instr.lhbWrite 0x800 0).wf = false ∧ (Instr.legacyFrame [0xFB]).wf = false := by decide
theorem test_wf_link_speed : (Instr.pcieLinkUp 5 4).wf = false ∧ (Instr.pcieLinkUp 4 3).wf = false := by decide
theorem test_wf_sound_commands : (Instr.registerWrite 0x20008 1 true 0).wf = true ∧ (Instr.bar4Write 0x3FFFFFF8 0 true).wf = true ∧
    (Instr.phaseComplete 12 none).wf = true ∧ (Instr.lhbRead 0x7FE 0 true).wf = true := by decide

/-! ### Results of one command on a small state, the expected values worked out from the rule named -/

/-- The device after one command. -/
def after (c : Instr) (d : Dev) : Dev := match exec c { dev := d } with | .next t => t.dev | _ => d
/-- User memory after one command. -/
def memAfter (c : Instr) (d : Dev) : Memory := match exec c { dev := d } with | .next t => t.mem | _ => {}

/-- R52: the CRC-32C of the nine bytes 123456789. -/
theorem test_crc32c_check_value : crc32c [0x31, 0x32, 0x33, 0x34, 0x35, 0x36, 0x37, 0x38, 0x39] = 0xE3069283 := by decide
/-- R78: a capture takes engine time and the seconds. -/
theorem test_time_capture : ((after .timeCapture ((onAll ((base.wr R.EVT_TIME 5000).put F.SYS_SECONDS.seconds 7)))).rd R.EVT_CAPTURE_TIME,
    (after .timeCapture ((onAll ((base.wr R.EVT_TIME 5000).put F.SYS_SECONDS.seconds 7)))).rd R.EVT_CAPTURE_SECONDS) = (5000, 7) := by decide
/-- R443: 8,750,000 ticks are 70,000 µs, 0x0001_1170. -/
theorem test_legacy_timer : ((after .lgTimerLoRead ((onAll (base.wr R.EVT_TIME 8750000)).put F.SYS_STRAPS.pers 1)).out,
    (after .lgTimerLoRead ((onAll (base.wr R.EVT_TIME 8750000)).put F.SYS_STRAPS.pers 1)).rd R.LG_TIMER_HI) = ([.lhb 0x1170], 1) := by decide
/-- R24, R160: a 32-bit write to BAR4 stores its bytes low first. -/
theorem test_bar4_write : let m := memAfter (.bar4Write 0x100 0x11223344 false) (hostUp base)
    [m.byte 0x100, m.byte 0x101, m.byte 0x102, m.byte 0x103, m.byte 0x104] = [0x44, 0x33, 0x22, 0x11, 0] := by decide
/-- R12: a write of a shadowed register leaves the active copy; its commit marks the group ready. -/
theorem test_shadow_write : let d := after (.shadowWrite (R.BLD_AXa_RATES 2).off 0x12345678 false) (hostUp base)
    (d.rd (R.BLD_AXa_RATES 2), d.act (R.BLD_AXa_RATES 2)) = (0x12345678, 0x01F403E8) := by decide
theorem test_group_commit : (after (.groupCommit (R.BLD_AXa_COMMIT 2).off 1 false) (hostUp base)).on (F.BLD_AXa_STATUS.shadow_pending 2) = true := by decide
/-- R71: refused past a pick. -/
theorem test_full_reset_refused :
    (after (.swFullReset false) ((onAll base).put (F.SHT_Dd_STATE.state 5) 3)).get F.SYS_RESET_CAUSE.full_refused = 1 ∧
    (after (.swFullReset true) ((onAll base).put (F.SHT_Dd_STATE.state 5) 3)).sys.fullReq = [2] := by decide
/-- R104: tag 0 is cause 0x10; a sound descriptor goes to LOADING. -/
theorem test_sheet_open_refused : (after (.sheetOpen 3) ((engineUp base).put (F.SHT_Dd_HEAD.sheet_tag 3) 0)).rd R.SHT_RESULT = 0x0110FF03 := by decide
theorem test_sheet_open : let d := after (.sheetOpen 3) (sheetUp (engineUp base) 3)
    (d.shtState 3, d.rd R.SHT_RESULT) = (1, 0x0000FF03) := by decide
/-- R116: RELEASE of a DONE descriptor frees it; of a PICKED one it is the wrong state. -/
theorem test_sheet_release : (after (.sheetRelease 4) ((onAll base).put (F.SHT_Dd_STATE.state 4) 4)).shtState 4 = 0 ∧
    (after (.sheetRelease 4) ((onAll base).put (F.SHT_Dd_STATE.state 4) 3)).rd R.SHT_RESULT = 0x0200FF04 := by decide
/-- R173: START of a disabled queue is refused. -/
theorem test_dma_queue_enable : (after (.queueEnable 2 0) (hostUp base)).qSt 2 = 1 := by decide
/-- R134: a wake leaves SLEEP for DETECT. -/
theorem test_ring_wake : (after .rxWake (onAll base)).rxSt = 1 := by decide
/-- R344: the warning shows and is counted. -/
theorem test_power_fail_warning : let d := after .powerFailWarning (((onAll base).put F.PWR_PFAIL_CFG.pfail_en 1).put F.SYS_HOST_STATE.in_flight 1)
    (d.on F.PWR_STATUS.pfail_active, d.get F.PWR_COUNTS.pfail) = (true, 1) := by decide
/-- R463, R462: a reload while a walk runs is counted. -/
theorem test_cal_reload_busy : (after .reload ((onAll base).put F.CAL_STATUS.busy 1)).get F.CAL_COUNTS.rejected = 1 := by decide
/-- R458: with no valid bank nothing is applied, one record waits under source 35. -/
theorem test_cal_no_bank : let d := after (.calWalkDone [] []) { (onAll base) with cal := { walks := [none] } }
    (d.get F.CAL_STATUS.bank, d.get F.CAL_COUNTS.walks, d.flt.strobes.map fun x => (x.src, x.d0)) = (0, 1, [(35, 0xB4000003)]) := by decide
/-- R76: an idle tick with engine time running. -/
theorem test_idle_tick : (match step { dev := { base.put F.CLK_STATUS.tbase_fb 0 with evt := { base.evt with running := true } } } with | .next t => (t.dev.now, t.dev.sys.now8) | _ => (0, 0)) = (1, 1) := by decide
/-- The front command runs and leaves the queue. -/
theorem test_step_takes_front : (match step { dev := onAll base, pending := [.rxWake, .txWake] } with | .next t => (t.dev.rxSt, t.pending) | _ => (9, [])) = (1, [.txWake]) := by decide

/-- R190-R193, the manual's worked pixel (13,000, 9,001): trimmed input, tone, tile place, code. -/
theorem test_screening_example : (trimInput 128 4224 (-64), toneAt 2050 2071 192, tilePos 24 24 8 5 0 13000 9001, rampCode 2066 0x7E30) =
    (0x83C0, 2066, (1, 21), 9) := by decide
/-- R219, R220, the manual's worked pixel of CH2: the correction is 12. -/
theorem test_placement_example : corrC (dyAt (fun j => if j = 472 || j = 473 then 141 else 0) 15120) 51 0 = 12 := by decide
/-- R214: trim +131 moves M by 125 parts in a million: 26,828.8, rounded. -/
theorem test_facet_trim : mFacet 214748364 131 = 214748364 + 26829 := by decide
/-- R322: halfway between knots 100 and 201 the sum rounds half up. -/
theorem test_temperature_between_knots : lutTemp [100, 201, 301] 512 = 151 := by decide
/-- R165: a word with the check byte its data calls for is clean; one flipped data bit is corrected. -/
theorem test_ecc_corrects : (decodeWord 0x0123456789ABCDEF 0).2 = .clean ∧
    decodeWord (0x0123456789ABCDEF ^^^ 0x10) (hColumns.getD 4 0) = (0x0123456789ABCDEF, .corrected) := by decide

/-! ### Witnesses of the whole-machine statements -/

theorem witness_StepRunsFrontCommand :
    (∃ (s : State) (c : Instr) (rest : List Instr), s.pending = c :: rest) ∧
    (∃ s : State, s.pending = [] ∧ s.dev.on F.PWR_STATUS.pfail_active = false) :=
  ⟨⟨{ pending := [.rxWake, .txWake] }, .rxWake, [.txWake], by decide⟩, ⟨{ dev := base }, by decide⟩⟩

theorem witness_CommandsKeepQueueAndMemory :
    ∃ (c : Instr) (s t : State), mayTouchMemory c = false ∧ exec c s = .next t ∧ t.dev ≠ s.dev :=
  ⟨.rxWake, { dev := onAll base }, { dev := after .rxWake (onAll base) }, by decide, rfl, by decide⟩

theorem witness_MemoryStaysCanonical :
    ∃ s t : State, s.Inv ∧ step s = .next t ∧ t.mem ≠ s.mem :=
  ⟨{ dev := hostUp base, pending := [.bar4Write 0x100 0x11223344 false] },
    { dev := hostUp base, mem := memAfter (.bar4Write 0x100 0x11223344 false) (hostUp base) }, by decide, rfl, by decide⟩

end Sys2Proof.Tests

namespace Sys2Proof.Tests.Sys

def ph (d : Dev) (p st : Nat) : Dev := { d with sys := { d.sys with ph := Store.set 0 d.sys.ph p st } }

theorem witness_SysPowerOnAndPhases :
    (∃ (s : State) (p : Fin 16) (fb : Option Word32), s.dev.phaseSt p = 1 ∧ phaseIsDone s.dev p = true) ∧
    (∃ (s : State) (p : Fin 16) (fb : Option Word32), (s.dev.phaseSt p ≠ 1 ∨ phaseIsDone s.dev p = false)) ∧
    (∃ (s : State) (p : Fin 16) (c : Byte) (crc : Word32), s.dev.phaseSt p = 1 ∧ phaseCanFail s.dev p c) ∧
    (∃ (s : State) (c : Byte) (crc : Word32), s.dev.phaseSt 3 = 1) ∧
    (∃ (s : State), s.dev.direct R.SYS_BRINGUP_CTRL.off ∧ s.dev.get F.SYS_HOST_STATE.state = 4 ∧ s.dev.phaseOver 9 = true ∧ (∀ (p : Nat), p < 10 → s.dev.phaseSt p ≠ 3)) ∧
    (∃ (s : State), s.dev.direct R.SYS_BRINGUP_CTRL.off ∧ s.dev.phaseSt 7 = 3) ∧
    (∃ (s : State), s.dev.direct R.SYS_BRINGUP_CTRL.off ∧ s.dev.phaseSt 7 ≠ 3 ∧ s.dev.phaseSt 8 = 3) ∧
    (∃ (s : State), s.dev.sys.inReset = true) ∧
    (∃ (s : State) (pers : Bool) (twsel : Bool) (bootsrc : Bool), s.dev.phaseSt 2 = 1) ∧
    (∃ (s : State), s.dev.phaseSt 1 = 1) ∧
    (∃ (s : State), s.dev.phaseSt 12 = 1 ∧ bit s.dev.sysReady 31 = true) ∧
    (∃ (s : State) (p : Fin 16) (fb : Option Word32), s.dev.phaseSt p ≠ 1) ∧
    (∃ (s : State) (crc : Word32), s.dev.phaseSt 6 = 1) ∧
    (∃ (s : State) (c : Byte) (crc : Word32), s.dev.phaseSt 3 = 1 ∧ s.dev.on F.CLK_STATUS.refclk_good = false) ∧
    (∃ (s : State), s.dev.direct R.SYS_BRINGUP_CTRL.off ∧ s.dev.get F.SYS_HOST_STATE.state = 4 ∧ (∀ (p : Nat), p < 10 → s.dev.phaseSt p = 2 ∨ s.dev.phaseSt p = 4 ∨ s.dev.phaseSt p = 0) ∧ s.dev.phaseOver 9 = true ∧ s.dev.persC = false ∧ s.dev.cfg.axes = [] ∧ s.dev.cfg.loops = []) ∧
    (∃ (s : State), s.dev.direct R.SYS_BRINGUP_CTRL.off ∧ (s.dev.get F.SYS_HOST_STATE.state ≠ 4 ∨ s.dev.phaseOver 9 = false)) ∧
    (∃ (s : State), s.dev.direct R.SYS_BRINGUP_CTRL.off ∧ s.dev.phaseSt 7 ≠ 3 ∧ s.dev.phaseSt 8 ≠ 3) :=
  ⟨⟨(let d : Dev := base; let d : Dev := (ph ((((((engineUp d).put F.CLK_STATUS.refclk_good 1).put F.PWR_STATE.state 3).put F.RNG_LANE_STATUS.rx_state 4).put F.RNG_LANE_STATUS.tx_state 4).put F.TWN_STATUS.state 4) ([1, 3, 5, 6, 7, 8, 9, 10, 11, 12].getD (d.free % 10) 1) 1); let d : Dev := (d.modRng fun r => r); let d : Dev := (d.put F.RNG_LANE_STATUS.committed 1); { dev := d } : State), (let d : Dev := base; ([1, 3, 5, 6, 7, 8, 9, 10, 11, 12].getD (d.free % 10) 1) : Fin 16), (let d : Dev := base; (if d.free % 3 = 0 then none else some 9) : Option Word32), by decide⟩,
    ⟨(let d : Dev := base; let d : Dev := (ph d (d.free % 16) (if d.free % 3 = 0 then 2 else 0)); { dev := d } : State), (let d : Dev := base; (if d.free % 3 = 0 then Fin.ofNat 16 d.free else 13) : Fin 16), (let d : Dev := base; (none) : Option Word32), by decide⟩,
    ⟨(let d : Dev := base; let d : Dev := (ph ((((engineUp d).put F.RNG_LANE_STATUS.rx_state (d.free % 5)).put F.TWN_STATUS.state (d.free % 3)).put F.TWN_STATUS.lanes_up 1) ([3, 4, 6, 7, 8, 9, 10, 11, 12].getD (d.free % 9) 3) 1); let d : Dev := ({ d with frd := { d.frd with pushed := false, cfg := { d.frd.cfg with axes := [{ axis := 1, role := 1 }], loops := [{ slot := 2, ready := true }] } }, twn := { d.twn with join := if d.free % 2 = 0 then none else some (1, 2) } }); let d : Dev := (((d.put (F.BLD_AXa_STATUS.at_speed 1) 0).put (F.LOOP_Sk_STATUS.in_band 2) 0).put F.TMP_FAULTED.sensors 1); let d : Dev := (if d.get F.TWN_STATUS.state = 2 then { d with twn := { d.twn with join := some (1, 2) } } else d); { dev := d } : State), (let d : Dev := base; ([3, 4, 6, 7, 8, 9, 10, 11, 12].getD (d.free % 9) 3) : Fin 16), (let d : Dev := base; (1 + d.free % 4) : Byte), (let d : Dev := base; (7) : Word32), by decide⟩,
    ⟨(let d : Dev := base; let d : Dev := (ph d 3 1); { dev := d } : State), (5 : Byte), (5 : Word32), by decide⟩,
    ⟨(let d : Dev := base; let d : Dev := (hostUp d); let d : Dev := ({ d.put F.SYS_HOST_STATE.state 4 with sys := { d.sys with ph := [(1, 2), (2, 2), (9, 2 + 2 * (d.free % 2))] } }); let d : Dev := (if d.free % 2 = 0 then { d with frd := { d.frd with cfg := { d.frd.cfg with axes := [{ axis := 1, role := 1 }], loops := [{ slot := 2, ready := true }] } } } else d); { dev := d } : State), by decide⟩,
    ⟨(let d : Dev := base; let d : Dev := (ph d 7 3); { dev := onAll d } : State), by decide⟩,
    ⟨(let d : Dev := base; let d : Dev := (ph (ph d 7 2) 8 3); { dev := onAll d } : State), by decide⟩,
    ⟨(let d : Dev := base; let d : Dev := ({ d with sys := { d.sys with inReset := true } }); { dev := d } : State), by decide⟩,
    ⟨(let d : Dev := base; let d : Dev := (ph d 2 1); { dev := d } : State), (true : Bool), (true : Bool), (true : Bool), by decide⟩,
    ⟨(let d : Dev := base; let d : Dev := (ph d 1 1); { dev := d } : State), by decide⟩,
    ⟨(let d : Dev := base; let d : Dev := (ph (engineUp d) 12 1); { dev := d } : State), by decide⟩,
    ⟨(let p : Fin 16 := 1; let d : Dev := base; let d : Dev := (ph d p (2 * (d.free % 3))); { dev := d } : State), (1 : Fin 16), (none : Option Word32), by decide⟩,
    ⟨(let d : Dev := base; let d : Dev := (ph d 6 1); { dev := d } : State), (5 : Word32), by decide⟩,
    ⟨(let d : Dev := base; let d : Dev := ((ph d 3 1).put F.CLK_STATUS.refclk_good 0); { dev := d } : State), (5 : Byte), (5 : Word32), by decide⟩,
    ⟨(let d : Dev := base; let d : Dev := (engineUp d); let d : Dev := ((List.range 13).foldl (fun d p => ph d p (if p < 10 then 2 else 0)) d); let d : Dev := ((onAll d).put F.SYS_HOST_STATE.state 4); let d : Dev := ({ d with evt := { d.evt with recs := [] } }); { dev := d } : State), by decide⟩,
    ⟨(let d : Dev := base; let d : Dev := ((onAll d).put F.SYS_HOST_STATE.state 0); { dev := d } : State), by decide⟩,
    ⟨(let d : Dev := base; let d : Dev := (ph (ph (ph d 7 2) 8 2) 9 (2 + d.free % 2)); { dev := onAll d } : State), by decide⟩⟩

theorem witness_SysResets :
    (∃ (s : State), s.dev.direct R.SYS_RESET.off) ∧
    (∃ (s : State) (k : Nat) (rest : List Nat), s.dev.warned = false ∧ s.dev.sys.hostReq = k :: rest ∧ 3 ≤ k ∧ k ≤ 7) ∧
    (∃ (s : State), s.dev.sys.fullReq ≠ []) ∧
    (∃ (s : State), s.dev.sys.wdogArmed = true ∧ s.dev.role.hostWdogMs ≠ 0 ∧ (s.dev.twin = false ∨ (s.dev.twnSt ≠ 3 ∧ s.dev.twnSt ≠ 4))) ∧
    (∃ (s : State), s.dev.sys.wdogArmed = true ∧ s.dev.role.hostWdogMs ≠ 0 ∧ s.dev.twin = true ∧ (s.dev.twnSt = 3 ∨ s.dev.twnSt = 4)) ∧
    (∃ (s : State) (force : Bool), s.dev.direct R.SYS_RESET.off) ∧
    (∃ (s : State), s.dev.domOn 0 = true ∧ s.dev.persC = false) ∧
    (∃ (s : State) (st : BitVec 16), s.dev.host.linkUp = true) ∧
    (∃ (s : State) (k : Nat) (rest : List Nat), s.dev.warned = false ∧ s.dev.sys.hostReq = k :: rest ∧ 3 ≤ k ∧ k ≤ 7 ∧ (∀ (j : Nat), j < 32 → s.dev.shtState j ≠ 1 ∧ s.dev.shtState j ≠ 2) ∧ s.dev.evt.slotAt = s.dev.slot + 1 ∧ s.dev.armedEntries = [] ∧ (∀ (q : Nat), q < 16 → s.dev.qSt q = 0)) ∧
    (∃ (s : State), s.dev.sys.fullReq ≠ [] ∧ s.dev.get F.PWR_STATE.state = 1) ∧
    (∃ (s : State), s.dev.sys.fullReq ≠ [] ∧ s.dev.get F.PWR_STATE.state = 3 ∧ s.dev.pwr.chanQ = [] ∧ (s.dev.nextOn s.dev.doms.length).isSome = true) ∧
    (∃ (s : State), s.dev.get F.PWR_STATE.state = 0 ∧ s.dev.get F.PWR_STATE.purpose = 2 ∧ s.dev.sys.inReset = false ∧ s.dev.pwr.collapsed = false) ∧
    (∃ (s : State), s.dev.direct R.SYS_HOST_WDOG.off) ∧
    (∃ (s : State), s.dev.sys.wdogArmed = true ∧ s.dev.role.hostWdogMs ≠ 0 ∧ s.dev.twin = false ∧ s.dev.persC = false ∧ s.dev.get F.SYS_HOST_STATE.state = 0 ∧ s.dev.get F.SYS_HOST_STATE.in_flight ≠ 0) :=
  ⟨⟨(let d : Dev := base; let d : Dev := (onAll d); { dev := d } : State), by decide⟩,
    ⟨(let d : Dev := base; let d : Dev := ({ onAll d with sys := { d.sys with hostReq := [3 + d.free % 5, 4] } }); { dev := d } : State), (let d : Dev := base; (3 + d.free % 5) : Nat), (let d : Dev := base; ([4]) : List Nat), by decide⟩,
    ⟨(let d : Dev := base; let d : Dev := ({ d.put F.PWR_STATE.state (d.free % 6) with sys := { d.sys with fullReq := [2] } }); { dev := d } : State), by decide⟩,
    ⟨(let d : Dev := base; let d : Dev := ({ d with sys := { d.sys with wdogArmed := true } }); let d : Dev := ({ d.put F.SYS_HOST_STATE.state (d.free % 5) with frd := { d.frd with cfg := { d.frd.cfg with role := { d.frd.cfg.role with hostWdogMs := 3, grade := 0 } } } }); { dev := d } : State), by decide⟩,
    ⟨(let d : Dev := base; let d : Dev := ({ d with sys := { d.sys with wdogArmed := true } }); let d : Dev := ({ d.put F.TWN_STATUS.state (3 + d.free % 2) with frd := { d.frd with cfg := { d.frd.cfg with role := { d.frd.cfg.role with hostWdogMs := 3, grade := 1 } } } }); { dev := d } : State), by decide⟩,
    ⟨(let d : Dev := base; let d : Dev := (d.putBit F.PWR_DOMAINS.domains 0 true); { dev := onAll d } : State), (true : Bool), by decide⟩,
    ⟨(let d : Dev := base; let d : Dev := ((d.putBit F.PWR_DOMAINS.domains 0 true).put F.SYS_STRAPS.pers 0); { dev := d } : State), by decide⟩,
    ⟨(let d : Dev := base; let d : Dev := ({ d with host := { d.host with linkUp := true } }); { dev := d } : State), (5 : BitVec 16), by decide⟩,
    ⟨(let k : Nat := 1; let rest : List Nat := []; let k := (3 + k % 5); let d : Dev := base; let d : Dev := (engineUp (noArms { d with sys := { d.sys with hostReq := k :: rest } })); let d : Dev := ({ d with tbl := [], dmaq := [] }); let d : Dev := ((List.range 16).foldl (fun d q => (d.put (F.DMA_Qq_CFG.enable q) 0).put (F.DMA_Qq_STATUS.state q) 0) d); let d : Dev := ((List.range 32).foldl (fun d k => d.put (F.SHT_Dd_STATE.state k) (4 * (k % 2))) d); let d : Dev := (if rest.length % 2 = 0 then d.put (F.SHT_Dd_STATE.state 9) 3 else d); let d : Dev := ({ d with evt := { d.evt with slotAt := d.slot + 1 } }); { dev := d } : State), (let k : Nat := 1; (3 + k % 5) : Nat), ([] : List Nat), by decide⟩,
    ⟨(let d : Dev := base; let d : Dev := ({ (d.put F.PWR_STATE.state 1) with sys := { d.sys with fullReq := [2] }, flt := { d.flt with strobes := [] } }); { dev := d } : State), by decide⟩,
    ⟨(let d : Dev := base; let d : Dev := ({ (d.put F.PWR_STATE.state 3) with sys := { d.sys with fullReq := [2] }, flt := { d.flt with strobes := [] }, pwr := { d.pwr with chanQ := [] }, frd := { d.frd with cfg := { d.frd.cfg with doms := [⟨0, 1, false, 5, 5⟩, ⟨0, 2, false, 5, 5⟩] } } }); let d : Dev := (onAll d); { dev := d } : State), by decide⟩,
    ⟨(let d : Dev := base; let d : Dev := ({ ((d.put F.PWR_STATE.state 0).put F.PWR_STATE.purpose 2) with sys := { d.sys with inReset := false }, pwr := { d.pwr with collapsed := false } }); { dev := d } : State), by decide⟩,
    ⟨(let d : Dev := base; let d : Dev := (onAll d); { dev := d } : State), by decide⟩,
    ⟨(let d : Dev := base; let d : Dev := ({ (engineUp d) with sys := { d.sys with wdogArmed := true } }); let d : Dev := ({ d with frd := { d.frd with cfg := { d.frd.cfg with role := { d.frd.cfg.role with hostWdogMs := 3 } } } }); let d : Dev := ((d.put F.SYS_HOST_STATE.in_flight 2)); { dev := d } : State), by decide⟩⟩

theorem witness_FullResetRefusal :
    (∃ (s : State) (k : Fin 32), reached s.dev R.SYS_RESET.off ∧ s.dev.shtState k = 3) :=
  ⟨(let k : Fin 32 := 1; let d : Dev := base; let d : Dev := (((onAll d).put (F.SHT_Dd_STATE.state k) 3).put F.SYS_RESET_CAUSE.full_refused (d.free % 2)); { dev := d } : State), (1 : Fin 32), by decide⟩

end Sys2Proof.Tests.Sys

namespace Sys2Proof.Tests.Frd

/-- A header that passes step 1 of R51 on any revision: 128 bytes, four pinnae. -/
def hdrOk : List Byte :=
  [0x46#8, 0x52#8, 0x4E#8, 0x44#8, 1#8, 0#8, 0x80#8, 0x08#8, 0#8, 0#8, 4#8, 0#8, 128#8, 0#8, 0#8, 0#8, 128#8, 0#8, 0#8, 0#8] ++ List.replicate 44 0#8

def frdAt (d : Dev) (st : Nat) (rx : List Byte) (checked : Bool) : Dev :=
  { (d.put F.FRD_STATUS.state st) with frd := { d.frd with rx := rx, checked := checked } }

def ph (d : Dev) (p st : Nat) : Dev := { d with sys := { d.sys with ph := Store.set 0 d.sys.ph p st } }

theorem witness_FrdLoad :
    (∃ (s : State), s.dev.frdSt = 4) ∧
    (∃ (s : State), s.dev.direct R.FRD_CTRL.off ∧ (s.dev.frdSt = 0 ∨ s.dev.frdSt = 6)) ∧
    (∃ (s : State) (v : Word32), s.dev.direct R.FRD_PUSH_DATA.off ∧ s.dev.frdSt = 2 ∧ ((s.dev.frd.checked = true ∧ s.dev.frd.rx.length + 4 ≤ s.dev.rxLength) ∨ (s.dev.frd.checked = false ∧ s.dev.frd.rx.length + 4 < 64))) ∧
    (∃ (s : State), s.dev.direct R.FRD_CTRL.off ∧ s.dev.frdSt = 2 ∧ s.dev.frd.checked = true ∧ s.dev.frd.rx.length = s.dev.rxLength) ∧
    (∃ (s : State), s.dev.direct R.FRD_CTRL.off ∧ s.dev.frdSt = 2 ∧ (s.dev.frd.checked = false ∨ s.dev.frd.rx.length ≠ s.dev.rxLength)) ∧
    (∃ (s : State), s.dev.direct R.FRD_CTRL.off ∧ s.dev.frdSt = 2) ∧
    (∃ (s : State) (v : Word32), s.dev.direct R.FRD_CTRL.off ∧ s.dev.frdSt ≠ 0 ∧ s.dev.frdSt ≠ 6 ∧ s.dev.frdSt ≠ 2) ∧
    (∃ (s : State), s.dev.phase4 = true ∧ s.dev.frd.pushed = true) ∧
    (∃ (s : State) (hdr : List Byte), s.dev.frdSt = 1 ∧ s.dev.frd.checked = false ∧ s.dev.host.qspiBusy = false) ∧
    (∃ (s : State) (rest : List Byte), s.dev.frdSt = 1 ∧ s.dev.frd.checked = true) ∧
    (∃ (s : State), s.dev.frdSt = 3) ∧
    (∃ (s : State) (o : Nat), s.dev.frdSt = 4) ∧
    (∃ (s : State), s.dev.frdSt = 4 ∧ s.dev.phase4 = false ∧ (readCfg (nats s.dev.frd.rx)).evtt = [] ∧ (readCfg (nats s.dev.frd.rx)).loops = [] ∧ (readCfg (nats s.dev.frd.rx)).sens = []) ∧
    (∃ (s : State) (off : Nat), s.dev.frdSt = 5 ∧ s.dev.frd.image ≠ []) :=
  ⟨⟨(let d : Dev := base; let d : Dev := (ph (frdAt d 4 (hdrOk ++ List.replicate 64 0#8) true) 4 2); { dev := d } : State), by decide⟩,
    ⟨(let d : Dev := base; let d : Dev := (ph (d.put F.FRD_STATUS.state (6 * (d.free % 2))) 4 (d.free % 6)); { dev := onAll d } : State), by decide⟩,
    ⟨(let d : Dev := base; let d : Dev := (if d.free % 2 = 0 then frdAt d 2 (hdrOk.take (d.free % 14 * 4)) false else frdAt d 2 (hdrOk ++ List.replicate (d.free % 15 * 4) 7#8) true); { dev := onAll d } : State), (5 : Word32), by decide⟩,
    ⟨(let d : Dev := base; let d : Dev := (frdAt d 2 (hdrOk ++ List.replicate 64 7#8) true); { dev := onAll d } : State), by decide⟩,
    ⟨(let d : Dev := base; let d : Dev := (frdAt d 2 (hdrOk ++ List.replicate 60 7#8) (d.free % 2 = 0)); { dev := onAll d } : State), by decide⟩,
    ⟨(let d : Dev := base; let d : Dev := (frdAt d 2 [3#8] true); { dev := onAll d } : State), by decide⟩,
    ⟨(let d : Dev := base; let d : Dev := (d.put F.FRD_STATUS.state (3 + d.free % 3)); { dev := onAll d } : State), (5 : Word32), by decide⟩,
    ⟨(let d : Dev := base; let d : Dev := (ph (d.put F.FRD_STATUS.state (2 * (d.free % 2))) 4 (1 + 4 * (d.free % 2))); let d : Dev := { d with frd := { d.frd with pushed := true } }; { dev := d } : State), by decide⟩,
    ⟨(let d : Dev := base; let d : Dev := ({ (frdAt d 1 [] false) with host := { d.host with qspiBusy := false } }); { dev := d } : State), (let hdr : List Byte := []; (if hdr.length % 2 = 0 then hdr else hdrOk) : List Byte), by decide⟩,
    ⟨(let d : Dev := base; let d : Dev := (frdAt d 1 hdrOk true); { dev := d } : State), ([] : List Byte), by decide⟩,
    ⟨(let d : Dev := base; let d : Dev := (frdAt d 3 (hdrOk ++ List.replicate 64 7#8) true); { dev := d } : State), by decide⟩,
    ⟨(let d : Dev := base; let d : Dev := (frdAt d 4 hdrOk true); { dev := d } : State), (1 : Nat), by decide⟩,
    ⟨(let d : Dev := base; let d : Dev := (ph (frdAt d 4 (hdrOk ++ List.replicate 64 0#8) true) 4 2); { dev := d } : State), by decide⟩,
    ⟨(let d : Dev := base; let d : Dev := ({ (frdAt d 5 [] false) with frd := { d.frd with image := hdrOk ++ List.replicate 64 0#8 } }); { dev := d } : State), (1 : Nat), by decide⟩⟩

end Sys2Proof.Tests.Frd

namespace Sys2Proof.Tests.Host

theorem witness_HostRegisterWrites :
    (∃ (s : State) (v : Word64) (same : Word64), s.dev.idleStart = false ∧ s.dev.direct R.EVT_IRQ_EN.off) ∧
    (∃ (s : State) (v : Word64) (same : Word64), s.dev.idleStart = false ∧ s.dev.direct R.EVT_STATUS.off) ∧
    (∃ (s : State) (v : Word64) (same : Word64), s.dev.idleStart = false ∧ s.dev.direct R.SYS_SECONDS.off) ∧
    (∃ (s : State) (off : Nat) (v : Word64) (same : Word64), s.dev.direct off ∧ off < 2 ^ 24 ∧ off % 4 = 0 ∧ regAt off = none) ∧
    (∃ (s : State) (a : Fin 16) (v : Word64) (inTransfer : Bool), s.dev.idleStart = false ∧ s.dev.direct (R.BLD_AXa_OBS a).off) ∧
    (∃ (s : State) (a : Fin 16) (v : Word32) (inTransfer : Bool), s.dev.idleStart = false ∧ s.dev.direct (R.BLD_AXa_COMMIT a).off ∧ bit v.toNat 0 = true) ∧
    (∃ (s : State) (k : Fin 32) (v : Word64), s.dev.direct (R.SHT_Dd_HEAD k).off ∧ s.dev.shtState k = 0) ∧
    (∃ (s : State) (k : Fin 32) (v : Word64), s.dev.direct (R.SHT_Dd_HEAD k).off ∧ s.dev.shtState k ≠ 0) :=
  ⟨⟨(let d : Dev := base; let d : Dev := (hostUp d); { dev := d } : State), (5 : Word64), (4 : Word64), by decide⟩,
    ⟨(let d : Dev := base; let d : Dev := (hostUp d); { dev := d } : State), (5 : Word64), (4 : Word64), by decide⟩,
    ⟨(let d : Dev := base; let d : Dev := (hostUp d); { dev := d } : State), (5 : Word64), (4 : Word64), by decide⟩,
    ⟨(let d : Dev := base; let d : Dev := (hostUp d); { dev := d } : State), (let off : Nat := 1; (0x20070 + off % 8 * 16) : Nat), (5 : Word64), (4 : Word64), by decide⟩,
    ⟨(let d : Dev := base; let d : Dev := (hostUp d); { dev := d } : State), (1 : Fin 16), (5 : Word64), (true : Bool), by decide⟩,
    ⟨(let d : Dev := base; let d : Dev := (hostUp d); { dev := d } : State), (1 : Fin 16), (let v : Word32 := 5; (v ||| 1) : Word32), (true : Bool), by decide⟩,
    ⟨(let k : Fin 32 := 1; let d : Dev := base; let d : Dev := (hostUp (d.put (F.SHT_Dd_STATE.state k) 0)); { dev := d } : State), (1 : Fin 32), (5 : Word64), by decide⟩,
    ⟨(let k : Fin 32 := 1; let v : Word64 := 5; let d : Dev := base; let d : Dev := (hostUp (d.put (F.SHT_Dd_STATE.state k) (1 + v.toNat % 4))); { dev := d } : State), (1 : Fin 32), (5 : Word64), by decide⟩⟩

theorem witness_HostHalves :
    (∃ (s : State) (off : Nat), s.dev.direct off ∧ off < 2 ^ 24 ∧ off % 4 = 0 ∧ ∃ p ∈ findReg off, p.1.w = 64 ∧ p.1.off = off) ∧
    (∃ (s : State) (off : Nat), s.dev.direct off ∧ off < 2 ^ 24 ∧ off % 4 = 0 ∧ ∃ p ∈ regAt off, p.1.w = 64 ∧ p.1.off + 4 = off ∧ Store.get 0 s.dev.host.latchHi (off - 4) ≠ 0) ∧
    (∃ (s : State) (off : Nat), s.dev.direct off ∧ off < 2 ^ 24 ∧ off % 8 = 0 ∧ ∃ p ∈ findReg off, p.1.w = 64 ∧ p.1.off = off) ∧
    (∃ (s : State) (n : Fin 8) (v : Word32) (same : Word64) (inTransfer : Bool), s.dev.idleStart = false ∧ s.dev.direct (R.CHn_SCR_PS_MAP n).off ∧ s.dev.lowHalf (R.CHn_SCR_PS_MAP n) < 2 ^ 32) ∧
    (∃ (s : State), s.dev.direct R.EVT_TIME.off) ∧
    (∃ (s : State) (off : Nat) (v : Word32), s.dev.direct off ∧ off < 2 ^ 24 ∧ off % 4 = 0 ∧ ∃ p ∈ findReg off, p.1.w = 64 ∧ p.1.off = off) ∧
    (∃ (s : State) (k : Fin 64) (v : Word32) (same : Word64) (inTransfer : Bool) (lo : Nat), s.dev.idleStart = false ∧ s.dev.direct (R.MSIX_ADDR k).off ∧ Store.get 0 s.dev.host.bufLo (R.MSIX_ADDR k).off = lo + 1 ∧ lo < 2 ^ 32) ∧
    (∃ (s : State) (k : Fin 64) (v : Word64) (same : Word64), s.dev.idleStart = false ∧ s.dev.direct (R.MSIX_ADDR k).off) :=
  ⟨⟨(let d : Dev := base; let d : Dev := (hostUp d); { dev := d } : State), (let off : Nat := 1; ([0x20000, 0x20008, 0x20040, 0xe0000, 0x8010, 0x91010].getD (off % 6) 0) : Nat), by decide⟩,
    ⟨(let off : Nat := 1; let off := ([0x20004, 0x2000c, 0x20044, 0xe0004, 0x8014, 0x91014].getD (off % 6) 0); let d : Dev := base; let d : Dev := (hostUp d); let d : Dev := ({ d with host := { d.host with latchHi := Store.set 0 d.host.latchHi (off - 4) (d.free + 1) } }); { dev := d } : State), (let off : Nat := 1; ([0x20004, 0x2000c, 0x20044, 0xe0004, 0x8014, 0x91014].getD (off % 6) 0) : Nat), by decide⟩,
    ⟨(let d : Dev := base; let d : Dev := (hostUp d); { dev := d } : State), (let off : Nat := 1; ([0x20000, 0x20008, 0x20040, 0xe0000, 0x8010, 0x91010].getD (off % 6) 0) : Nat), by decide⟩,
    ⟨(let n : Fin 8 := 1; let d : Dev := base; let d : Dev := (hostUp d); let d : Dev := (if d.free % 2 = 0 then { d with host := { d.host with bufLo := Store.set 0 d.host.bufLo (R.CHn_SCR_PS_MAP n).off 78 } } else d); { dev := d } : State), (1 : Fin 8), (5 : Word32), (0 : Word64), (true : Bool), by decide⟩,
    ⟨(let d : Dev := base; let d : Dev := (hostUp d); { dev := d } : State), by decide⟩,
    ⟨(let d : Dev := base; let d : Dev := (hostUp d); { dev := d } : State), (let off : Nat := 1; ([0x20000, 0x20008, 0x20040, 0xe0000, 0x8010, 0x91010].getD (off % 6) 0) : Nat), (5 : Word32), by decide⟩,
    ⟨(let k : Fin 64 := 1; let lo : Nat := 1; let lo := (lo % 2 ^ 32); let d : Dev := base; let d : Dev := (hostUp d); let d : Dev := ({ d with host := { d.host with bufLo := Store.set 0 d.host.bufLo (R.MSIX_ADDR k).off (lo + 1) } }); { dev := d } : State), (1 : Fin 64), (5 : Word32), (0 : Word64), (false : Bool), (let lo : Nat := 1; (lo % 2 ^ 32) : Nat), by decide⟩,
    ⟨(let d : Dev := base; let d : Dev := (hostUp d); { dev := d } : State), (1 : Fin 64), (5 : Word64), (0 : Word64), by decide⟩⟩

theorem witness_HostTablesAndRequests :
    (∃ (s : State) (off : Nat) (v : Word64), s.dev.direct 0 ∧ off % 8 = 0 ∧ ∃ k ∈ tableDomain off, s.dev.domOn k = true ∧ s.dev.tableLocked off = false) ∧
    (∃ (s : State) (off : Nat) (v : Word64), s.dev.direct 0 ∧ off % 8 = 0 ∧ ∃ k ∈ tableDomain off, s.dev.domOn k = true ∧ s.dev.tableLocked off = true) ∧
    (∃ (s : State) (off : Nat), s.dev.direct 0 ∧ off % 8 = 0 ∧ ∃ k ∈ tableDomain off, s.dev.domOn k = true ∧ Store.get 0#8 s.dev.tblChk off = 0#8) ∧
    (∃ (s : State) (bar : Fin 3) (off : Nat) (size : Nat) (write : Bool) (data : List Byte), s.dev.direct 0 ∧ 1 ≤ size ∧ size ≤ 8 ∧ ¬(size = 4 ∧ off % 4 = 0) ∧ ¬(size = 8 ∧ off % 8 = 0)) ∧
    (∃ (s : State) (off : Nat) (write : Bool), s.dev.persC = false ∧ s.dev.host.d3 = false ∧ s.dev.domOn 0 = true ∧ s.dev.domOn (domainOf off) = false ∧ off % 4 = 0) ∧
    (∃ (s : State) (addr : Word64) (write : Bool), s.dev.endpoint = true) ∧
    (∃ (s : State) (v : Fin 64), s.dev.idleStart = false ∧ s.dev.direct (R.MSIX_CTRL v).off) ∧
    (∃ (s : State) (speed : Nat) (width : Nat), s.dev.endpoint = true ∧ s.dev.host.linkUp = false ∧ s.dev.phaseOver 3 = true ∧ 1 ≤ speed ∧ speed ≤ 4 ∧ width ∈ [1, 2, 4]) :=
  ⟨⟨(let off : Nat := 1; let off := ([0, 8, 16, 64, 0x310008, 0x310ff8].getD (off % 6) 0); let d : Dev := base; let d : Dev := (hostUp (if off < 100 then (d.putTw (off / 16 * 16 + 8) 0) else d)); { dev := d } : State), (let off : Nat := 1; ([0, 8, 16, 64, 0x310008, 0x310ff8].getD (off % 6) 0) : Nat), (5 : Word64), by decide⟩,
    ⟨(let off : Nat := 1; let off := (off % 100 * 8); let d : Dev := base; let d : Dev := (hostUp (d.putTw (off / 16 * 16 + 8) (2 ^ 63 + 77))); { dev := d } : State), (let off : Nat := 1; (off % 100 * 8) : Nat), (5 : Word64), by decide⟩,
    ⟨(let d : Dev := base; let d : Dev := (hostUp d); let d : Dev := ({ d with tblChk := [] }); { dev := d } : State), (let off : Nat := 1; (off % 100 * 8) : Nat), by decide⟩,
    ⟨(let d : Dev := base; let d : Dev := (hostUp d); { dev := d } : State), (1 : Fin 3), (let off : Nat := 1; let size : Nat := 1; let size := (1 + size % 8); (if size = 4 ∨ size = 8 then off / 2 * 2 + 1 else off) : Nat), (let size : Nat := 1; (1 + size % 8) : Nat), (true : Bool), ([7#8, 9#8] : List Byte), by decide⟩,
    ⟨(let d : Dev := base; let d : Dev := ((hostUp d).wr R.PWR_DOMAINS 1); { dev := d } : State), (let off : Nat := 24; (off % 200 * 0x4000 / 4 * 4) : Nat), (true : Bool), by decide⟩,
    ⟨(let d : Dev := base; let d : Dev := (hostUp d); { dev := d } : State), (5 : Word64), (true : Bool), by decide⟩,
    ⟨(let v : Fin 64 := 1; let d : Dev := base; let d : Dev := (hostUp d); let d : Dev := (if v.val % 2 = 0 then (({ d with regs := Store.set 0#64 d.regs 0x2000000 1 } : Dev).putBit F.MSIX_PBA.pending v true) else d); { dev := d } : State), (1 : Fin 64), by decide⟩,
    ⟨(let d : Dev := base; let d : Dev := (hostUp d); let d : Dev := ({ d with host := { d.host with linkUp := false }, sys := { d.sys with ph := [(3, 2)] } }); { dev := d } : State), (let speed : Nat := 1; (1 + speed % 4) : Nat), (let width : Nat := 1; (2 ^ (width % 3)) : Nat), by decide⟩⟩

theorem witness_HostMemoryWindow :
    (∃ (s : State) (off : Nat) (v : Word64), s.dev.direct 0x50000 ∧ off % 8 = 0 ∧ off < 2 ^ 30 ∧ s.dev.memx.lost = false ∧ s.dev.on F.MEM_INJECT_CTRL.arm = false ∧ off / 8 ∉ s.dev.memx.bad) ∧
    (∃ (s : State) (off : Nat) (v : Word64), s.dev.direct 0x50000 ∧ off % 4 = 0 ∧ off < 2 ^ 30 ∧ s.dev.memx.lost = false ∧ s.dev.on F.MEM_INJECT_CTRL.arm = false ∧ off / 8 ∉ s.dev.memx.bad ∧ s.mem.syn (off / 8) = 0) ∧
    (∃ (s : State) (off : Nat), s.dev.direct 0x50000 ∧ off % 8 = 0 ∧ off < 2 ^ 30 ∧ s.dev.memx.lost = false) ∧
    (∃ (s : State) (off : Nat) (v : Word64), s.dev.direct 0x50000 ∧ off % 8 = 0 ∧ off < 2 ^ 30 ∧ s.dev.memx.lost = false ∧ s.dev.on F.MEM_INJECT_CTRL.arm = false ∧ off / 8 ∉ s.dev.memx.bad) ∧
    (∃ (s : State) (bar : Fin 3) (off : Nat) (data : List Word32), s.dev.direct 0 ∧ bar ≠ 2) :=
  ⟨⟨(let d : Dev := base; let d : Dev := (({ (hostUp d) with memx := { d.memx with lost := false, bad := [] } } : Dev).put F.MEM_INJECT_CTRL.arm 0); { dev := d } : State), (let off : Nat := 1; (off % 20 * 8) : Nat), (5 : Word64), by decide⟩,
    ⟨(let d : Dev := base; let d : Dev := (({ (hostUp d) with memx := { d.memx with lost := false, bad := [] } } : Dev).put F.MEM_INJECT_CTRL.arm 0); let s : State := { dev := d }; ({ s with mem := { s.mem with chk := [] } }) : State), (let off : Nat := 1; (off % 40 * 4) : Nat), (5 : Word64), by decide⟩,
    ⟨(let off : Nat := 1; let off := (off % 20 * 8); let d : Dev := base; let d : Dev := ({ (hostUp d) with memx := { d.memx with lost := false } }); let s : State := { dev := d }; (if off % 16 = 0 then { s with mem := { s.mem with chk := [] } } else s) : State), (let off : Nat := 1; (off % 20 * 8) : Nat), by decide⟩,
    ⟨(let d : Dev := base; let d : Dev := (({ (hostUp d) with memx := { d.memx with lost := false, bad := [] } } : Dev).put F.MEM_INJECT_CTRL.arm 0); { dev := d } : State), (let off : Nat := 1; (off % 20 * 8) : Nat), (5 : Word64), by decide⟩,
    ⟨(let d : Dev := base; let d : Dev := (hostUp d); { dev := d } : State), (let bar : Fin 3 := 1; (if bar = 2 then 0 else bar) : Fin 3), (1 : Nat), ([] : List Word32), by decide⟩⟩

theorem witness_QspiAndUrgent :
    (∃ (s : State), s.dev.warned = false ∧ s.dev.direct R.URG_CMD.off) ∧
    (∃ (s : State), s.dev.warned = false ∧ s.dev.host.estop = true) ∧
    (∃ (s : State), s.dev.host.estop = false) ∧
    (∃ (s : State) (v : Word32), s.dev.direct R.FRD_QSPI_CTRL.off ∧ s.dev.on F.FRD_QSPI_STATUS.busy = false ∧ bit v.toNat 31 = true ∧ s.dev.get F.FRD_STATUS.state ≠ 1 ∧ s.dev.cal.walks = [] ∧ s.dev.host.qspiBusy = false) ∧
    (∃ (s : State) (v : Word32), s.dev.direct R.FRD_QSPI_CTRL.off ∧ s.dev.on F.FRD_QSPI_STATUS.busy = false ∧ bit v.toNat 31 = true ∧ (s.dev.get F.FRD_STATUS.state = 1 ∨ s.dev.cal.walks ≠ [] ∨ s.dev.host.qspiBusy = true)) ∧
    (∃ (s : State) (data : List Byte), s.dev.on F.FRD_QSPI_STATUS.busy = true ∧ s.dev.host.qspiBusy = true) ∧
    (∃ (s : State) (v : Word32) (full : Bool), s.dev.direct R.URG_CMD.off ∧ v.toNat / 2 ^ 16 = 0x5547 ∧ (full = false ∨ 4 ≤ s.dev.urgHeld.length)) ∧
    (∃ (s : State), s.dev.idleStart = false ∧ s.dev.direct R.URG_CMD.off ∧ (∀ (q : Nat), q < 16 → s.dev.qSt q = 0)) ∧
    (∃ (s : State), s.dev.idleStart = false ∧ s.dev.direct R.URG_CMD.off ∧ (∀ (k : Nat), k < 32 → s.dev.shtState k ≠ 3)) ∧
    (∃ (s : State), s.dev.idleStart = false ∧ s.dev.direct R.URG_CMD.off ∧ (∀ (k : Nat), k < 32 → s.dev.shtState k ≠ 2 ∧ s.dev.shtState k ≠ 3) ∧ (∀ (a : Nat), a < 16 → (s.dev.axis a).isSome = true → s.dev.bldState a = 0)) ∧
    (∃ (s : State), s.dev.warned = false ∧ s.dev.host.estop = true ∧ s.dev.flt.strobes = [] ∧ s.dev.flt.opens = [] ∧ s.dev.chansInUse = [] ∧ s.dev.armed 0x80 6 = false ∧ s.dev.evt.running = true ∧ s.dev.now + 31 < 2 ^ 64) ∧
    (∃ (s : State), s.dev.host.estop = false ∧ (∀ (n : Nat), n < 8 → (s.dev.chS n).latches = [])) :=
  ⟨⟨(let d : Dev := base; let d : Dev := (onAll d); let d : Dev := ((List.range 32).foldl (fun d k => d.put (F.SHT_Dd_STATE.state k) 1) d); { dev := d } : State), by decide⟩,
    ⟨(let d : Dev := base; let d : Dev := (({ d with host := { d.host with estop := true } } : Dev)); { dev := d } : State), by decide⟩,
    ⟨(let d : Dev := base; let d : Dev := (({ d with host := { d.host with estop := false } } : Dev)); { dev := d } : State), by decide⟩,
    ⟨(let d : Dev := base; let d : Dev := (({ (d.put F.FRD_QSPI_STATUS.busy 0) with cal := { d.cal with walks := [] }, host := { d.host with qspiBusy := false } } : Dev).put F.FRD_STATUS.state 5); { dev := onAll d } : State), (let v : Word32 := 5; (v ||| (1#32 <<< 31)) : Word32), by decide⟩,
    ⟨(let d : Dev := base; let d : Dev := (({ (d.put F.FRD_QSPI_STATUS.busy 0) with host := { d.host with qspiBusy := d.free % 2 = 0 } } : Dev).put F.FRD_STATUS.state (if d.free % 2 = 0 then 5 else 1)); { dev := onAll d } : State), (let v : Word32 := 5; (v ||| (1#32 <<< 31)) : Word32), by decide⟩,
    ⟨(let d : Dev := base; let d : Dev := (({ (d.put F.FRD_QSPI_STATUS.busy 1) with host := { d.host with qspiBusy := true } } : Dev)); { dev := d } : State), ([] : List Byte), by decide⟩,
    ⟨(let d : Dev := base; let d : Dev := (hostUp d); { dev := ({ onAll d with host := { (onAll d).host with urg := List.replicate 4 (onAll d).sys.now8 } }) } : State), (let v : Word32 := 5; (BitVec.ofNat 32 (0x55470000 + v.toNat % 65536)) : Word32), (let v : Word32 := 5; let full : Bool := true; let v := (BitVec.ofNat 32 (0x55470000 + v.toNat % 65536)); (if v.toNat % 3 = 0 then full else true) : Bool), by decide⟩,
    ⟨(let d : Dev := base; let d : Dev := (onAll d); let d : Dev := ({ (List.range 16).foldl (fun d q => (d.put (F.DMA_Qq_CFG.enable q) (d.free % 2)).put (F.DMA_Qq_STATUS.state q) 0) d with dmaq := [] }); { dev := d.put F.PWR_STATUS.pfail_active 0 } : State), by decide⟩,
    ⟨(let d : Dev := base; let d : Dev := ((onAll d)); let d : Dev := ((List.range 32).foldl (fun d k => d.put (F.SHT_Dd_STATE.state k) 1) d); { dev := d.put F.PWR_STATUS.pfail_active 0 } : State), by decide⟩,
    ⟨(let d : Dev := base; let d : Dev := ((onAll d)); let d : Dev := ({ (List.range 32).foldl (fun d k => d.put (F.SHT_Dd_STATE.state k) 1) d with frd := { d.frd with cfg := { d.frd.cfg with axes := [{ axis := 18, role := 4, stepsPerRev := 200 }, { axis := 2, role := 2 }] } } }); let d : Dev := ((d.put (F.STP_AXm_STATUS.state 2) 2).put (F.BLD_AXa_STATUS.state 2) 0); let d : Dev := (d.put (F.LOOP_Sk_STATUS.state 9) 2); { dev := d.put F.PWR_STATUS.pfail_active 0 } : State), by decide⟩,
    ⟨(let d : Dev := { base with evt := { base.evt with running := true } }; let d : Dev := ({ d with host := { d.host with estop := true }, flt := { d.flt with opens := [], strobes := [] }, frd := { d.frd with cfg := { d.frd.cfg with chans := [], reacts := [] } } }); let d : Dev := (d.wr R.EVT_TIME (d.now % 2 ^ 40)); { dev := d } : State), by decide⟩,
    ⟨(let d : Dev := base; let d : Dev := ({ d with host := { d.host with estop := false } }); let d : Dev := ((List.range 8).foldl (fun d n => d.modCh n fun c => { c with latches := [] }) d); { dev := d } : State), by decide⟩⟩

end Sys2Proof.Tests.Host

namespace Sys2Proof.Tests.Evt1

theorem witness_EvtCaptureMarksAndOutputs :
    (∃ (s : State) (f : Firing) (k : Nat), s.dev.warned = false ∧ s.dev.actionHit 0x0A f.target = false ∧ f.arg = 0x10 ∧ s.dev.descOf f.tag = some k ∧ s.dev.shtState k = 3) ∧
    (∃ (s : State), s.dev.direct R.EVT_CAPTURE_CTRL.off) ∧
    (∃ (s : State) (v : Word32), s.dev.direct R.EVT_TALLY_MARK.off) ∧
    (∃ (s : State) (f : Firing) (k : Nat), s.dev.idleStart = false ∧ s.dev.actionHit 0x0A f.target = false ∧ 0x11 ≤ f.arg ∧ f.arg ≤ 0x1F ∧ s.dev.descOf f.tag = some k ∧ 1 ≤ s.dev.shtState k ∧ s.dev.shtState k ≤ 3) ∧
    (∃ (s : State) (f : Firing), s.dev.actionHit 9 f.target = false ∧ s.dev.doutOn f.target = true) ∧
    (∃ (s : State) (k : Fin 32), Store.get 0 s.dev.evt.pulse k ≠ 0 ∧ s.dev.evt.running = true ∧ Store.get 0 s.dev.evt.pulseEnd k < 2 ^ 64) :=
  ⟨⟨(let d : Dev := base; let d : Dev := (((d.put (F.SHT_Dd_HEAD.sheet_tag 3) 77).put (F.SHT_Dd_STATE.state 3) 3).put (F.SHT_Dd_CHAN.ended 3) (d.free % 3)); { dev := d } : State), (let d : Dev := base; (⟨d.free % 4096, 0, 0x10, 77, d.free % 100000, decide (d.free % 3 = 0), false⟩ : Firing)), (3 : Nat), by decide⟩,
    ⟨(let d : Dev := base; let d : Dev := (onAll d); { dev := d } : State), by decide⟩,
    ⟨(let d : Dev := base; let d : Dev := (onAll d); { dev := d } : State), (5 : BitVec 32), by decide⟩,
    ⟨(let d : Dev := base; let d : Dev := ((d.put (F.SHT_Dd_HEAD.sheet_tag 3) 77).put (F.SHT_Dd_STATE.state 3) 3); { dev := d } : State), (let f : Firing := ⟨5, 0, 1, 7, 100, false, false⟩; ({ f with arg := 0x11 + f.arg % 15, tag := 77, late := decide (f.idx % 2 = 0) }) : Firing), ((3) : Nat), by decide⟩,
    ⟨(let d : Dev := base; let d : Dev := ({ d with frd := { d.frd with cfg := { d.frd.cfg with pins := [⟨5, 4, 2, 4, false⟩] } } }); let d : Dev := ({ d with flt := { d.flt with hitSlot := 0 } }); { dev := d } : State), (let f : Firing := ⟨5, 0, 1, 7, 100, false, false⟩; ({ f with late := decide (f.idx % 2 = 0), target := 4 }) : Firing), by decide⟩,
    ⟨(let k : Fin 32 := 1; let d : Dev := base; let d : Dev := (d.modEvt fun e => { e with running := true, pulse := Store.set 0 e.pulse k 2, pulseEnd := Store.set 0 e.pulseEnd k (d.now + 900) }); { dev := d } : State), (1 : Fin 32), by decide⟩⟩

theorem witness_EvtEntries :
    (∃ (s : State) (i : Fin 4096), s.dev.direct R.EVT_EDIT_CTRL.off) ∧
    (∃ (s : State) (i : Fin 4096), s.dev.direct R.EVT_EDIT_CTRL.off) ∧
    (∃ (s : State) (i : Fin 4096), s.dev.direct R.EVT_EDIT_CTRL.off) ∧
    (∃ (s : State) (i : Fin 4096), s.dev.direct R.EVT_EDIT_CTRL.off) ∧
    (∃ (s : State) (i : Fin 4096), s.dev.direct R.EVT_EDIT_CTRL.off ∧ (∀ x ∈ s.dev.evt.due, x.idx ≠ i.val)) ∧
    (∃ (s : State) (i : Fin 4096), s.dev.direct R.EVT_EDIT_CTRL.off ∧ (∀ x ∈ s.dev.evt.due, x.idx ≠ i.val) ∧ entArmed (s.dev.entHi i) = false ∧ entGated (s.dev.entHi i) = false ∧ (bit (editRaw s.dev) 63 = true → s.dev.armCheck (editLo s.dev) (editHi s.dev i) = 0)) ∧
    (∃ (s : State) (i : Fin 4096), s.dev.direct R.EVT_EDIT_CTRL.off ∧ (∀ x ∈ s.dev.evt.due, x.idx ≠ i.val) ∧ entArmed (s.dev.entHi i) = true ∧ (bit (editRaw s.dev) 63 = true → entGated (s.dev.entHi i) = false)) ∧
    (∃ (s : State) (i : Fin 4096), s.dev.direct R.EVT_EDIT_CTRL.off ∧ (∀ x ∈ s.dev.evt.due, x.idx ≠ i.val) ∧ entArmed (s.dev.entHi i) = false ∧ entGated (s.dev.entHi i) = false ∧ s.dev.armCheck (s.dev.entLo i) (s.dev.entHi i) = 0) ∧
    (∃ (s : State) (i : Fin 4096), s.dev.direct R.EVT_EDIT_CTRL.off ∧ (∀ x ∈ s.dev.evt.due, x.idx ≠ i.val) ∧ entArmed (s.dev.entHi i) = false ∧ entGated (s.dev.entHi i) = false ∧ s.dev.armCheck (s.dev.entLo i) (s.dev.entHi i) ≠ 0) ∧
    (∃ (s : State) (i : Fin 4096), s.dev.direct R.EVT_EDIT_CTRL.off ∧ (∀ x ∈ s.dev.evt.due, x.idx ≠ i.val) ∧ entGated (s.dev.entHi i) = true) ∧
    (∃ (s : State) (i : Fin 4096), s.dev.direct R.EVT_EDIT_CTRL.off ∧ (∀ x ∈ s.dev.evt.due, x.idx ≠ i.val) ∧ entArmed (s.dev.entHi i) = true ∧ entGated (s.dev.entHi i) = false) ∧
    (∃ (s : State) (f : Firing), s.dev.actionHit 0x0B f.target = false ∧ f.arg < 4096 ∧ entArmed (s.dev.entHi f.arg) = false ∧ entGated (s.dev.entHi f.arg) = false ∧ s.dev.armCheck (s.dev.entLo f.arg) (s.dev.entHi f.arg) = 0) ∧
    (∃ (s : State) (f : Firing), s.dev.actionHit 0x0C f.target = false ∧ f.arg < 4096 ∧ entArmed (s.dev.entHi f.arg) = true ∧ entGated (s.dev.entHi f.arg) = false) :=
  ⟨⟨(let d : Dev := base; let d : Dev := (onAll d); let d : Dev := ((if d.free % 2 = 0 then d.modEvt fun e => { e with due := [] } else ent (d.modEvt fun e => { e with due := [⟨d.free / 5 % 4096, 50, false, false, d.entHi (d.free / 5 % 4096), false⟩] }) (d.free / 5 % 4096) 0 (2 ^ 63 + d.free % 2 * 2 ^ 62 + 7 * 2 ^ 52))); let d : Dev := (ent d (d.free / 5 % 4096) (d.entLo (d.free / 5 % 4096)) (if d.free % 3 = 0 then d.entHi (d.free / 5 % 4096) else d.free % 7 % 4 * 2 ^ 62)); { dev := d } : State), (let d : Dev := base; Fin.ofNat 4096 (d.free / 5)), by decide⟩,
    ⟨(let d : Dev := base; let d : Dev := (onAll d); let d : Dev := ((if d.free % 2 = 0 then d.modEvt fun e => { e with due := [] } else ent (d.modEvt fun e => { e with due := [⟨d.free / 5 % 4096, 50, false, false, d.entHi (d.free / 5 % 4096), false⟩] }) (d.free / 5 % 4096) 0 (2 ^ 63 + d.free % 2 * 2 ^ 62 + 7 * 2 ^ 52))); let d : Dev := (ent d (d.free / 5 % 4096) (d.entLo (d.free / 5 % 4096)) (if d.free % 3 = 0 then d.entHi (d.free / 5 % 4096) else d.free % 7 % 4 * 2 ^ 62)); { dev := d } : State), (let d : Dev := base; Fin.ofNat 4096 (d.free / 5)), by decide⟩,
    ⟨(let d : Dev := base; let d : Dev := (onAll d); let d : Dev := ((if d.free % 2 = 0 then d.modEvt fun e => { e with due := [] } else ent (d.modEvt fun e => { e with due := [⟨d.free / 5 % 4096, 50, false, false, d.entHi (d.free / 5 % 4096), false⟩] }) (d.free / 5 % 4096) 0 (2 ^ 63 + d.free % 2 * 2 ^ 62 + 7 * 2 ^ 52))); let d : Dev := (ent d (d.free / 5 % 4096) (d.entLo (d.free / 5 % 4096)) (if d.free % 3 = 0 then d.entHi (d.free / 5 % 4096) else d.free % 7 % 4 * 2 ^ 62)); { dev := d } : State), (let d : Dev := base; Fin.ofNat 4096 (d.free / 5)), by decide⟩,
    ⟨(let d : Dev := base; let d : Dev := (onAll d); let d : Dev := ((if d.free % 2 = 0 then d.modEvt fun e => { e with due := [] } else ent (d.modEvt fun e => { e with due := [⟨d.free / 5 % 4096, 50, false, false, d.entHi (d.free / 5 % 4096), false⟩] }) (d.free / 5 % 4096) 0 (2 ^ 63 + d.free % 2 * 2 ^ 62 + 7 * 2 ^ 52))); let d : Dev := (ent d (d.free / 5 % 4096) (d.entLo (d.free / 5 % 4096)) (if d.free % 3 = 0 then d.entHi (d.free / 5 % 4096) else d.free % 7 % 4 * 2 ^ 62)); { dev := d } : State), (let d : Dev := base; Fin.ofNat 4096 (d.free / 5)), by decide⟩,
    ⟨(let i : Fin 4096 := 1; let d : Dev := base; let d : Dev := (onAll d); let d : Dev := (d.modEvt fun e => { e with due := [] }); let d : Dev := (ent d i (d.entLo i) 0); { dev := d } : State), (1 : Fin 4096), by decide⟩,
    ⟨(let i : Fin 4096 := 1; let d : Dev := base; let d : Dev := (onAll d); let d : Dev := (d.modEvt fun e => { e with due := [] }); let d : Dev := (if i.val % 2 = 0 then (d.wr (R.EVT_EDIT_DATAj 2) 7).wr (R.EVT_EDIT_DATAj 3) 0x90000000 else d.wr (R.EVT_EDIT_DATAj 3) (d.rd (R.EVT_EDIT_DATAj 3) % 2 ^ 31)); let d : Dev := (ent d i (d.entLo i) 0); { dev := d } : State), (1 : Fin 4096), by decide⟩,
    ⟨(let i : Fin 4096 := 1; let d : Dev := base; let d : Dev := (onAll d); let d : Dev := (d.modEvt fun e => { e with due := [] }); let d : Dev := (ent d i (d.entLo i) (2 ^ 63 + 2 ^ 60)); { dev := d } : State), (1 : Fin 4096), by decide⟩,
    ⟨(let i : Fin 4096 := 1; let d : Dev := base; let d : Dev := (onAll d); let d : Dev := (d.modEvt fun e => { e with due := [] }); let d : Dev := (ent d i (d.entLo i) (2 ^ 60)); { dev := d } : State), (1 : Fin 4096), by decide⟩,
    ⟨(let i : Fin 4096 := 1; let d : Dev := base; let d : Dev := (onAll d); let d : Dev := (d.modEvt fun e => { e with due := [] }); let d : Dev := (ent d i (d.entLo i) 0); { dev := d } : State), (1 : Fin 4096), by decide⟩,
    ⟨(let i : Fin 4096 := 1; let d : Dev := base; let d : Dev := (onAll d); let d : Dev := (d.modEvt fun e => { e with due := [] }); let d : Dev := (ent d i (d.entLo i) (2 ^ 62)); { dev := d } : State), (1 : Fin 4096), by decide⟩,
    ⟨(let i : Fin 4096 := 1; let d : Dev := base; let d : Dev := (onAll d); let d : Dev := (d.modEvt fun e => { e with due := [] }); let d : Dev := (ent d i (d.entLo i) (2 ^ 63 + 2 ^ 60)); { dev := d } : State), (1 : Fin 4096), by decide⟩,
    ⟨(let f : Firing := ⟨5, 0, 1, 7, 100, false, false⟩; let f := ({ f with arg := f.arg % 4096, late := f.late }); let d : Dev := base; let d : Dev := ({ d with flt := { d.flt with hitSlot := 0 } }); let d : Dev := (ent d f.arg (d.entLo f.arg) (2 ^ 60)); { dev := d } : State), (let f : Firing := ⟨5, 0, 1, 7, 100, false, false⟩; ({ f with arg := f.arg % 4096, late := f.late }) : Firing), by decide⟩,
    ⟨(let f : Firing := ⟨5, 0, 1, 7, 100, false, false⟩; let f := ({ f with arg := f.arg % 4096, late := f.late }); let d : Dev := base; let d : Dev := ({ d with flt := { d.flt with hitSlot := 0 } }); let d : Dev := (ent d f.arg (d.entLo f.arg) (2 ^ 63 + 2 ^ 60)); { dev := d } : State), (let f : Firing := ⟨5, 0, 1, 7, 100, false, false⟩; ({ f with arg := f.arg % 4096, late := f.late }) : Firing), by decide⟩⟩

end Sys2Proof.Tests.Evt1

namespace Sys2Proof.Tests.Evt2

def calm (d : Dev) : Dev := { d with flt := { d.flt with strobes := [], hitSlot := 0 }, evt := { d.evt with running := true, due := [], deferred := [], newArm := [], newDis := [], armFor := [], pend := [], recs := [], dispatched := 0 } }

def encPut (d : Dev) (n : Nat) (e : EncSt) : Dev := d.putEnc n e

def noTwin (d : Dev) : Dev := { d with frd := { d.frd with cfg := { d.frd.cfg with role := { d.frd.cfg.role with grade := 0 }, pins := [] } } }

theorem witness_EvtSlots :
    (∃ (s : State) (n : Nat), s.dev.warned = false ∧ s.dev.evt.running = true ∧ s.dev.now + n < 2 ^ 63) ∧
    (∃ (s : State) (x : Due) (rest : List Due), s.dev.warned = false ∧ s.dev.evt.due = x :: rest) ∧
    (∃ (s : State) (x : Due) (rest : List Due), s.dev.warned = false ∧ s.dev.evt.deferred = x :: rest ∧ s.dev.evt.dispatched < 8) ∧
    (∃ (s : State) (n : Nat), s.dev.idleStart = false ∧ s.dev.evt.running = true ∧ s.dev.evt.slotAt ≠ s.dev.slot + 1 ∧ s.dev.now + n < 2 ^ 63 ∧ s.dev.flt.strobes = [] ∧ s.dev.evt.newArm = [] ∧ s.dev.evt.recs = []) ∧
    (∃ (s : State) (n : Nat) (i : Nat), s.dev.idleStart = false ∧ s.dev.evt.running = true ∧ s.dev.evt.slotAt ≠ s.dev.slot + 1 ∧ s.dev.now + n < 2 ^ 63 ∧ s.dev.flt.strobes = [] ∧ s.dev.evt.newArm = [(i, s.dev.slot - 1)] ∧ 1 ≤ s.dev.slot ∧ s.dev.armedEntries = [i] ∧ s.dev.evt.recs = [] ∧ s.dev.evt.pend = [] ∧ Store.get 0 s.dev.evt.armFor i = 0 ∧ entArmed (s.dev.entHi i) = true ∧ entKind (s.dev.entHi i) = 1 ∧ s.dev.entLo i < 8 * s.dev.slot) ∧
    (∃ (s : State) (x : Due) (rest : List Due), s.dev.idleStart = false ∧ s.dev.evt.due = x :: rest ∧ plainEntry s.dev x ∧ entArmed (s.dev.entHi x.idx) = true ∧ (∀ p ∈ s.dev.evt.newArm, p.1 ≠ x.idx) ∧ s.dev.evt.dispatched + s.dev.evt.deferred.length < 8) ∧
    (∃ (s : State) (x : Due) (rest : List Due), s.dev.idleStart = false ∧ s.dev.evt.due = x :: rest ∧ entIrq x.hi = true ∧ 20 ≤ entVector x.hi ∧ (∀ p ∈ s.dev.evt.pend, p.1 ≠ x.idx) ∧ (∀ p ∈ s.dev.evt.newArm, p.1 ≠ x.idx) ∧ 8 ≤ s.dev.evt.dispatched + s.dev.evt.deferred.length) ∧
    (∃ (s : State) (x : Due) (rest : List Due), s.dev.idleStart = false ∧ s.dev.evt.deferred = x :: rest ∧ plainEntry s.dev x ∧ s.dev.evt.dispatched < 8) ∧
    (∃ (s : State), s.dev.idleStart = false ∧ s.dev.evt.deferred = [] ∧ s.dev.evt.due = []) :=
  ⟨⟨(let n : Nat := 1; let n := (n % 100000); let d : Dev := base; let d : Dev := (calm d); let d : Dev := ({ d with evt := { d.evt with slotAt := 0, due := d.evt.due ++ (if n % 2 = 0 then [] else [⟨9, 3, false, false, 0, false⟩]) } }); let d : Dev := ((ent (ent d 3 (d.now + 3) (2 ^ 63 + 2 ^ 60)) 4 0 (2 ^ 63 + 2 ^ 60)).wr R.EVT_TIME (d.now % 2 ^ 40)); { dev := d } : State), (let n : Nat := 1; (n % 100000) : Nat), by decide⟩,
    ⟨(let x : Due := ⟨3, 100, false, false, 0, false⟩; let rest : List Due := []; let x := ({ x with idx := x.idx % 4096, late := false, hi := 2 ^ 63 + 2 ^ 60 + x.hi % 2 ^ 16 }); let d : Dev := base; let d : Dev := (calm d); let d : Dev := (ent { d with evt := { d.evt with due := x :: rest } } x.idx 5 (2 ^ 63 + 2 ^ 60)); { dev := d } : State), (let x : Due := ⟨3, 100, false, false, 0, false⟩; ({ x with idx := x.idx % 4096, late := false, hi := 2 ^ 63 + 2 ^ 60 + x.hi % 2 ^ 16 }) : Due), ([] : List Due), by decide⟩,
    ⟨(let x : Due := ⟨3, 100, false, false, 0, false⟩; let rest : List Due := []; let x := ({ x with late := false, hi := x.hi % 2 ^ 24 }); let d : Dev := base; let d : Dev := (calm d); let d : Dev := ({ d with evt := { d.evt with deferred := x :: rest, dispatched := x.idx % 8 } }); { dev := d } : State), (let x : Due := ⟨3, 100, false, false, 0, false⟩; ({ x with late := false, hi := x.hi % 2 ^ 24 }) : Due), ([] : List Due), by decide⟩,
    ⟨(let n : Nat := 1; let n := (n % 100000); let d : Dev := base; let d : Dev := (calm d); let d : Dev := ({ d with evt := { d.evt with slotAt := 0, due := d.evt.due ++ (if n % 2 = 0 then [] else [⟨9, 3, false, false, 0, false⟩]) } }); let d : Dev := ((ent (ent d 3 (d.now + 3) (2 ^ 63 + 2 ^ 60)) 4 0 (2 ^ 63 + 2 ^ 60)).wr R.EVT_TIME (d.now % 2 ^ 40)); { dev := d } : State), (let n : Nat := 1; (n % 100000) : Nat), by decide⟩,
    ⟨(let n : Nat := 1; let i : Nat := 1; let n := (n % 100000); let i := (i % 4096); let d : Dev := base; let d : Dev := (calm d); let d : Dev := ((d.wr R.EVT_TIME (d.now % 2 ^ 40 + 800))); let d : Dev := (ent d i (n / 3) (2 ^ 63 + 2 ^ 60 + n % 2 * 2 ^ 49)); let d : Dev := ({ d with tbl := (d.tbl.filter fun p => p.1 = 16 * i || p.1 = 16 * i + 8), evt := { d.evt with slotAt := 0, newArm := [(i, d.slot - 1)] } }); { dev := d } : State), (let n : Nat := 1; (n % 100000) : Nat), (let i : Nat := 1; (i % 4096) : Nat), by decide⟩,
    ⟨(let x : Due := ⟨3, 100, false, false, 0, false⟩; let rest : List Due := []; let x := ({ x with idx := x.idx % 4096, late := false, hi := 2 ^ 63 + 2 ^ 60 + x.hi % 2 ^ 16 }); let d : Dev := base; let d : Dev := (calm d); let d : Dev := (ent { d with evt := { d.evt with due := x :: rest } } x.idx 5 (2 ^ 63 + 2 ^ 60)); { dev := d } : State), (let x : Due := ⟨3, 100, false, false, 0, false⟩; ({ x with idx := x.idx % 4096, late := false, hi := 2 ^ 63 + 2 ^ 60 + x.hi % 2 ^ 16 }) : Due), ([] : List Due), by decide⟩,
    ⟨(let x : Due := ⟨3, 100, false, false, 0, false⟩; let rest : List Due := []; let x := ({ x with idx := x.idx % 4096, hi := 2 ^ 63 + 2 ^ 60 + 2 ^ 57 + (20 + x.idx % 40) * 2 ^ 51 }); let d : Dev := base; let d : Dev := (calm d); let d : Dev := (ent { d with evt := { d.evt with due := x :: rest, dispatched := 5, deferred := List.replicate 3 x } } x.idx 5 (2 ^ 63 + 2 ^ 60)); { dev := d } : State), (let x : Due := ⟨3, 100, false, false, 0, false⟩; ({ x with idx := x.idx % 4096, hi := 2 ^ 63 + 2 ^ 60 + 2 ^ 57 + (20 + x.idx % 40) * 2 ^ 51 }) : Due), ([] : List Due), by decide⟩,
    ⟨(let x : Due := ⟨3, 100, false, false, 0, false⟩; let rest : List Due := []; let x := ({ x with late := false, hi := x.hi % 2 ^ 24 }); let d : Dev := base; let d : Dev := (calm d); let d : Dev := ({ d with evt := { d.evt with deferred := x :: rest, dispatched := x.idx % 8 } }); { dev := d } : State), (let x : Due := ⟨3, 100, false, false, 0, false⟩; ({ x with late := false, hi := x.hi % 2 ^ 24 }) : Due), ([] : List Due), by decide⟩,
    ⟨(let d : Dev := base; let d : Dev := ({ d with evt := { d.evt with deferred := [], due := [] } }); { dev := d } : State), by decide⟩⟩

theorem witness_EvtEncoders :
    (∃ (s : State) (n : Fin 4) (x : EncEdge) (rest : List EncEdge) (y : Due), s.dev.domOn 0 = true ∧ s.dev.warned = false ∧ (s.dev.encS n).edges = x :: rest ∧ x.kind = 0 ∧ x.late = true ∧ s.dev.evt.slotAt = s.dev.slot + 1 ∧ x.ts + 128 ≤ s.dev.now ∧ s.dev.on (F.EVT_ENCn_CTRL.enable n) = true ∧ bit (s.dev.encS n).stop 0 = false ∧ s.dev.encRaw n + 1 < encMax ∧ s.dev.encFires n (x.ts + 128) (s.dev.hwm n) (s.dev.encRaw n + 1) = [y] ∧ s.dev.hwm n ≤ s.dev.encRaw n ∧ plainEntry s.dev y ∧ entLateDiscard y.hi = false ∧ entArmed (s.dev.entHi y.idx) = true ∧ (∀ p ∈ s.dev.evt.newArm, p.1 ≠ y.idx) ∧ s.dev.evt.dispatched + s.dev.evt.deferred.length < 8) ∧
    (∃ (s : State) (n : Fin 4) (rising : Bool), s.dev.domOn 0 = true ∧ s.dev.twin = false ∧ s.dev.pinFunc 3 n = 0) ∧
    (∃ (s : State) (n : Fin 4) (x : EncEdge) (rest : List EncEdge), s.dev.domOn 0 = true ∧ s.dev.warned = false ∧ (s.dev.encS n).edges = x :: rest ∧ x.kind < 2 ∧ s.dev.evt.running = true ∧ x.ts + 128 < 2 ^ 63 ∧ s.dev.on (F.EVT_ENCn_CTRL.enable n) = true ∧ bit (s.dev.encS n).stop x.kind = false ∧ s.dev.encRaw n < encMax ∧ s.dev.encRaw n > -encMax) ∧
    (∃ (s : State) (n : Fin 4) (a : Bool) (b : Bool), encOwn s.dev n ∧ ((s.dev.encS n).a ≠ a ∧ (s.dev.encS n).b = b ∨ (s.dev.encS n).a = a ∧ (s.dev.encS n).b ≠ b) ∧ (s.dev.encS n).last = b2n (s.dev.encS n).z * 4 + b2n (s.dev.encS n).b * 2 + b2n (s.dev.encS n).a) ∧
    (∃ (s : State) (n : Fin 4) (a : Bool) (b : Bool), encOwn s.dev n ∧ (s.dev.encS n).a ≠ a ∧ (s.dev.encS n).b ≠ b ∧ (s.dev.encS n).last = b2n (s.dev.encS n).z * 4 + b2n (s.dev.encS n).b * 2 + b2n (s.dev.encS n).a) ∧
    (∃ (s : State) (n : Fin 4) (x : EncEdge) (rest : List EncEdge), s.dev.domOn 0 = true ∧ s.dev.warned = false ∧ (s.dev.encS n).edges = x :: rest ∧ x.kind = 0 ∧ s.dev.evt.slotAt = s.dev.slot + 1 ∧ x.ts + 128 ≤ s.dev.now ∧ s.dev.on (F.EVT_ENCn_CTRL.enable n) = true ∧ bit (s.dev.encS n).stop 0 = false ∧ s.dev.encRaw n + 1 < encMax ∧ s.dev.encRaw n > -encMax - 1 ∧ s.dev.encFires n (x.ts + 128) (s.dev.hwm n) (s.dev.encRaw n + 1) = []) ∧
    (∃ (s : State) (n : Fin 4) (x : EncEdge) (rest : List EncEdge) (y : Due), s.dev.domOn 0 = true ∧ s.dev.warned = false ∧ (s.dev.encS n).edges = x :: rest ∧ x.kind = 0 ∧ x.late = false ∧ s.dev.evt.slotAt = s.dev.slot + 1 ∧ x.ts + 128 ≤ s.dev.now ∧ s.dev.on (F.EVT_ENCn_CTRL.enable n) = true ∧ bit (s.dev.encS n).stop 0 = false ∧ s.dev.encRaw n + 1 < encMax ∧ s.dev.encFires n (x.ts + 128) (s.dev.hwm n) (s.dev.encRaw n + 1) = [y] ∧ s.dev.hwm n ≤ s.dev.encRaw n ∧ plainEntry s.dev y ∧ entArmed (s.dev.entHi y.idx) = true ∧ (∀ p ∈ s.dev.evt.newArm, p.1 ≠ y.idx) ∧ s.dev.evt.dispatched + s.dev.evt.deferred.length < 8) ∧
    (∃ (s : State) (n : Fin 4) (x : EncEdge) (rest : List EncEdge), s.dev.domOn 0 = true ∧ s.dev.warned = false ∧ (s.dev.encS n).edges = x :: rest ∧ x.kind = 1 ∧ s.dev.evt.slotAt = s.dev.slot + 1 ∧ x.ts + 128 ≤ s.dev.now ∧ s.dev.on (F.EVT_ENCn_CTRL.enable n) = true ∧ bit (s.dev.encS n).stop 1 = false ∧ s.dev.encRaw n - 1 > -encMax) ∧
    (∃ (s : State) (n : Fin 4) (x : EncEdge) (rest : List EncEdge), s.dev.domOn 0 = true ∧ s.dev.warned = false ∧ (s.dev.encS n).edges = x :: rest ∧ x.kind < 2 ∧ s.dev.evt.slotAt = s.dev.slot + 1 ∧ x.ts + 128 ≤ s.dev.now ∧ (s.dev.on (F.EVT_ENCn_CTRL.enable n) = false ∨ bit (s.dev.encS n).stop x.kind = true)) ∧
    (∃ (s : State) (n : Fin 4) (rising : Bool), s.dev.domOn 0 = true ∧ s.dev.twin = false ∧ s.dev.pinFunc 3 n = 0 ∧ (s.dev.encS n).z ≠ rising ∧ bit (s.dev.encS n).last 2 ≠ rising ∧ (s.dev.encS n).last % 4 = b2n (s.dev.encS n).b * 2 + b2n (s.dev.encS n).a) ∧
    (∃ (s : State) (n : Fin 4) (x : EncEdge) (rest : List EncEdge), s.dev.domOn 0 = true ∧ s.dev.warned = false ∧ (s.dev.encS n).edges = x :: rest ∧ x.kind = 2 ∧ s.dev.evt.slotAt = s.dev.slot + 1 ∧ x.ts + 128 ≤ s.dev.now) ∧
    (∃ (s : State) (n : Fin 4), s.dev.direct (R.EVT_ENCn_CTRL n).off) :=
  ⟨⟨(let n : Fin 4 := 1; let x : EncEdge := ⟨100, 0, 0, true⟩; let rest : List EncEdge := []; let x := ({ x with kind := 0 }); let d : Dev := base; let d : Dev := ((calm (noTwin d)).wr R.EVT_TIME (x.ts + 128 + 40)); let d : Dev := ({ (encPut d n { (d.encS n) with edges := x :: rest, stop := 0 }) with tbl := [] }); let d : Dev := (ent d 5 (enc 48 (d.encRaw n + 1)) (2 ^ 63 + 2 ^ 61 + n * 2 ^ 58)); let d : Dev := ((d.wr (R.EVT_ENCn_HWM n) (d.rd (R.EVT_ENCn_RAW n)))); let d : Dev := ({ d with evt := { d.evt with slotAt := d.slot + 1 } }); let d : Dev := (d.put (F.EVT_ENCn_CTRL.enable n) 1); { dev := (onAll d).put F.PWR_STATUS.pfail_active 0 } : State), (1 : Fin 4), (let x : EncEdge := ⟨100, 0, 0, true⟩; ({ x with kind := 0 }) : EncEdge), ([] : List EncEdge), (let n : Fin 4 := 1; let x : EncEdge := ⟨100, 0, 0, true⟩; let x := ({ x with kind := 0 }); (⟨5, x.ts + 128, false, true, 2 ^ 63 + 2 ^ 61 + n * 2 ^ 58, false⟩) : Due), by decide⟩,
    ⟨(let d : Dev := base; let d : Dev := (noTwin d); { dev := onAll d } : State), (let d : Dev := base; Fin.ofNat 4 d.free), (let d : Dev := base; decide (d.free % 8 < 4)), by decide⟩,
    ⟨(let n : Fin 4 := 1; let x : EncEdge := ⟨100, 0, 0, false⟩; let rest : List EncEdge := []; let x := ({ x with kind := x.kind % 2 }); let d : Dev := base; let d : Dev := ((calm (noTwin d)).wr R.EVT_TIME (x.ts + 100)); let d : Dev := ((encPut d n { (d.encS n) with edges := x :: rest, stop := 0 })); let d : Dev := ({ (if x.ts % 2 = 0 then d.wr (R.EVT_ENCn_HWM n) (d.rd (R.EVT_ENCn_RAW n)) else d) with evt := { d.evt with slotAt := d.slot + 1 } }); let d : Dev := (d.put (F.EVT_ENCn_CTRL.enable n) 1); { dev := (onAll d).put F.PWR_STATUS.pfail_active 0 } : State), (1 : Fin 4), (let x : EncEdge := ⟨100, 0, 0, false⟩; ({ x with kind := x.kind % 2 }) : EncEdge), ([] : List EncEdge), by decide⟩,
    ⟨(let n : Fin 4 := 1; let a : Bool := true; let b := (a); let d : Dev := base; let d : Dev := (noTwin d); let d : Dev := (encPut d n { (d.encS n) with a := b, b := a, last := b2n (d.encS n).z * 4 + b2n a * 2 + b2n b }); let d : Dev := (encPut d n { (d.encS n) with qualAt := (if d.free % 3 = 0 then 0 else d.now % 2 ^ 40 + d.free % 50), zAt := (if d.free % 5 = 0 then 0 else d.now % 2 ^ 40 + d.free % 7), a := !a, b := a, last := b2n (d.encS n).z * 4 + b2n a * 2 + b2n (!a) }); { dev := onAll d } : State), (1 : Fin 4), (true : Bool), (let a : Bool := true; (a) : Bool), by decide⟩,
    ⟨(let n : Fin 4 := 1; let a : Bool := true; let b : Bool := true; let d : Dev := base; let d : Dev := (noTwin d); let d : Dev := (encPut d n { (d.encS n) with qualAt := (if d.free % 3 = 0 then 0 else d.now % 2 ^ 40 + d.free % 50), zAt := (if d.free % 5 = 0 then 0 else d.now % 2 ^ 40 + d.free % 7), a := !a, b := !b, last := b2n (d.encS n).z * 4 + b2n (!b) * 2 + b2n (!a) }); let d : Dev := ((if a then d.put (F.EVT_ENCn_CTRL.enable n) 1 else d)); { dev := onAll d } : State), (1 : Fin 4), (true : Bool), (true : Bool), by decide⟩,
    ⟨(let n : Fin 4 := 1; let x : EncEdge := ⟨101, 0, 0, false⟩; let rest : List EncEdge := []; let x := ({ x with kind := 0 }); let d : Dev := base; let d : Dev := ((calm (noTwin d)).wr R.EVT_TIME (x.ts + 128 + 40)); let d : Dev := ({ (encPut d n { (d.encS n) with edges := x :: rest, stop := 2 * ((d.encS n).stop % 2) }) with tbl := [] }); let d : Dev := ({ (if x.ts % 2 = 0 then ent d 5 (enc 48 (d.encRaw n + 1)) (2 ^ 63 + 2 ^ 61 + n * 2 ^ 58) else d) with evt := { d.evt with slotAt := d.slot + 1 } }); let d : Dev := ((if x.ts % 2 = 0 then d.wr (R.EVT_ENCn_HWM n) (d.rd (R.EVT_ENCn_RAW n)) else d)); let d : Dev := (d.put (F.EVT_ENCn_CTRL.enable n) 1); { dev := (onAll d).put F.PWR_STATUS.pfail_active 0 } : State), (1 : Fin 4), (let x : EncEdge := ⟨101, 0, 0, false⟩; ({ x with kind := 0 }) : EncEdge), ([] : List EncEdge), by decide⟩,
    ⟨(let n : Fin 4 := 1; let x : EncEdge := ⟨100, 0, 0, false⟩; let rest : List EncEdge := []; let x := ({ x with kind := 0 }); let d : Dev := base; let d : Dev := ((calm (noTwin d)).wr R.EVT_TIME (x.ts + 128 + 40)); let d : Dev := ({ (encPut d n { (d.encS n) with edges := x :: rest, stop := 0 }) with tbl := [] }); let d : Dev := (ent d 5 (enc 48 (d.encRaw n + 1)) (2 ^ 63 + 2 ^ 61 + n * 2 ^ 58)); let d : Dev := ((d.wr (R.EVT_ENCn_HWM n) (d.rd (R.EVT_ENCn_RAW n)))); let d : Dev := ({ d with evt := { d.evt with slotAt := d.slot + 1 } }); let d : Dev := (d.put (F.EVT_ENCn_CTRL.enable n) 1); { dev := (onAll d).put F.PWR_STATUS.pfail_active 0 } : State), (1 : Fin 4), (let x : EncEdge := ⟨100, 0, 0, false⟩; ({ x with kind := 0 }) : EncEdge), ([] : List EncEdge), (let n : Fin 4 := 1; let x : EncEdge := ⟨100, 0, 0, false⟩; let x := ({ x with kind := 0 }); (⟨5, x.ts + 128, false, true, 2 ^ 63 + 2 ^ 61 + n * 2 ^ 58, false⟩) : Due), by decide⟩,
    ⟨(let n : Fin 4 := 1; let x : EncEdge := ⟨100, 0, 0, false⟩; let rest : List EncEdge := []; let x := ({ x with kind := 1 }); let d : Dev := base; let d : Dev := ((calm (noTwin d)).wr R.EVT_TIME (x.ts + 128 + 40)); let d : Dev := ((encPut d n { (d.encS n) with edges := x :: rest, stop := (d.encS n).stop % 2 })); let d : Dev := ({ (if x.ts % 2 = 0 then d.wr (R.EVT_ENCn_HWM n) (d.rd (R.EVT_ENCn_RAW n)) else d) with evt := { d.evt with slotAt := d.slot + 1 } }); let d : Dev := (d.put (F.EVT_ENCn_CTRL.enable n) 1); { dev := (onAll d).put F.PWR_STATUS.pfail_active 0 } : State), (1 : Fin 4), (let x : EncEdge := ⟨100, 0, 0, false⟩; ({ x with kind := 1 }) : EncEdge), ([] : List EncEdge), by decide⟩,
    ⟨(let n : Fin 4 := 1; let x : EncEdge := ⟨100, 0, 0, false⟩; let rest : List EncEdge := []; let x := ({ x with kind := x.kind % 2 }); let d : Dev := base; let d : Dev := ((calm (noTwin d)).wr R.EVT_TIME (x.ts + 128 + 40)); let d : Dev := ((encPut d n { (d.encS n) with edges := x :: rest, stop := 3 })); let d : Dev := ({ d with evt := { d.evt with slotAt := d.slot + 1 } }); { dev := (onAll d).put F.PWR_STATUS.pfail_active 0 } : State), (1 : Fin 4), (let x : EncEdge := ⟨100, 0, 0, false⟩; ({ x with kind := x.kind % 2 }) : EncEdge), ([] : List EncEdge), by decide⟩,
    ⟨(let n : Fin 4 := 1; let rising : Bool := true; let d : Dev := base; let d : Dev := ((calm (noTwin d))); let d : Dev := ((encPut { d with tbl := [] } n { (d.encS n) with zAt := (if d.free % 3 = 0 then 0 else d.now % 2 ^ 40 + d.free % 50), z := !rising, last := b2n (!rising) * 4 + b2n (d.encS n).b * 2 + b2n (d.encS n).a })); let d : Dev := (d.put (F.EVT_ENCn_CTRL.z_edge n) (d.free / 7 % 2)); let d : Dev := (d.wr R.EVT_TIME (d.now % 2 ^ 50)); { dev := onAll d } : State), (1 : Fin 4), (true : Bool), by decide⟩,
    ⟨(let n : Fin 4 := 1; let x : EncEdge := ⟨100, 0, 0, false⟩; let rest : List EncEdge := []; let x := ({ x with kind := 2 }); let d : Dev := base; let d : Dev := ((calm (noTwin d)).wr R.EVT_TIME (x.ts + 128 + 40)); let d : Dev := ((encPut d n { (d.encS n) with edges := x :: rest, stop := (d.encS n).stop % 2 })); let d : Dev := ({ (if x.ts % 2 = 0 then d.wr (R.EVT_ENCn_HWM n) (d.rd (R.EVT_ENCn_RAW n)) else d) with evt := { d.evt with slotAt := d.slot + 1 } }); let d : Dev := (d.put (F.EVT_ENCn_CTRL.enable n) 1); { dev := (onAll d).put F.PWR_STATUS.pfail_active 0 } : State), (1 : Fin 4), (let x : EncEdge := ⟨100, 0, 0, false⟩; ({ x with kind := 2 }) : EncEdge), ([] : List EncEdge), by decide⟩,
    ⟨(let n : Fin 4 := 1; let d : Dev := base; let d : Dev := (onAll { d with tbl := [] }); let d : Dev := (if d.free % 2 = 0 then ent d 9 0 (2 ^ 63 + 2 ^ 61 + n * 2 ^ 58) else d); { dev := d } : State), (1 : Fin 4), by decide⟩⟩

end Sys2Proof.Tests.Evt2

namespace Sys2Proof.Tests.Sheets

theorem witness_SheetOpenAdmit :
    (∃ (s : State) (k : Fin 32), s.dev.direct R.SHT_CMD.off ∧ s.dev.shtState k = 1 ∧ s.dev.admitCheck k = none) ∧
    (∃ (s : State) (k : Fin 32), s.dev.direct R.SHT_CMD.off ∧ s.dev.shtState k = 0 ∧ s.dev.openCheck k = none) ∧
    (∃ (s : State) (k : Fin 32) (c : Nat × Nat), s.dev.direct R.SHT_CMD.off ∧ s.dev.shtState k = 0 ∧ s.dev.openCheck k = some c ∧ c.1 < 256 ∧ c.2 < 256) ∧
    (∃ (s : State) (k : Fin 32), s.dev.direct R.SHT_CMD.off ∧ s.dev.shtState k = 1 ∧ s.dev.admitCheck k = none ∧ listFree s.dev k) ∧
    (∃ (s : State) (k : Fin 32) (c : Nat × Nat × Nat), s.dev.direct R.SHT_CMD.off ∧ s.dev.shtState k = 1 ∧ s.dev.admitCheck k = some c ∧ c.1 ≠ 6 ∧ c.2.1 < 256) ∧
    (∃ (s : State) (k : Fin 32), s.dev.direct R.SHT_CMD.off ∧ 1 < s.dev.shtState k) :=
  ⟨⟨(let k : Fin 32 := 1; let d : Dev := base; let d : Dev := ((if d.free % 2 = 0 then sheetUp (engineUp d) k else noArms (sheetUp (engineUp d) k)).put (F.SHT_Dd_STATE.state k) 1); { dev := d } : State), (1 : Fin 32), by decide⟩,
    ⟨(let k : Fin 32 := 1; let d : Dev := base; let d : Dev := ((sheetUp (engineUp d) k).put (F.SHT_Dd_STATE.state k) 0); { dev := d } : State), (1 : Fin 32), by decide⟩,
    ⟨(let k : Fin 32 := 1; let d : Dev := base; let d : Dev := ((engineUp d).put (F.SHT_Dd_STATE.state k) 0); let d : Dev := (if d.free % 2 = 0 then d.put (F.SHT_Dd_HEAD.sheet_tag k) 0 else d); { dev := d } : State), (1 : Fin 32), (let k : Fin 32 := 1; let d : Dev := base; let d : Dev := ((engineUp d).put (F.SHT_Dd_STATE.state k) 0); let d : Dev := (if d.free % 2 = 0 then d.put (F.SHT_Dd_HEAD.sheet_tag k) 0 else d); ((d.openCheck k).getD (0, 0)) : Nat × Nat), by decide⟩,
    ⟨(let k : Fin 32 := 1; let d : Dev := base; let d : Dev := ((noArms (sheetUp (engineUp d) k)).put (F.SHT_Dd_STATE.state k) 1); { dev := d } : State), (1 : Fin 32), by decide⟩,
    ⟨(let k : Fin 32 := 1; let d : Dev := base; let d : Dev := ((noArms (sheetUp (engineUp d) k)).put (F.SHT_Dd_STATE.state k) 1); let d : Dev := (if d.free % 2 = 0 then d.put F.FLT_STATUS.admissions_held 1 else d.put (F.SHT_Dd_FILLn.lines k 1) 9); { dev := d } : State), (1 : Fin 32), (let k : Fin 32 := 1; let d : Dev := base; let d : Dev := ((noArms (sheetUp (engineUp d) k)).put (F.SHT_Dd_STATE.state k) 1); let d : Dev := (if d.free % 2 = 0 then d.put F.FLT_STATUS.admissions_held 1 else d.put (F.SHT_Dd_FILLn.lines k 1) 9); ((d.admitCheck k).getD (0, 0, 0)) : Nat × Nat × Nat), by decide⟩,
    ⟨(let k : Fin 32 := 1; let d : Dev := base; let d : Dev := ((onAll d).put (F.SHT_Dd_STATE.state k) 4); { dev := d } : State), (1 : Fin 32), by decide⟩⟩

theorem witness_SheetEnds :
    (∃ (s : State) (k : Fin 32), s.dev.warned = false ∧ s.dev.direct R.SHT_CMD.off ∧ (s.dev.shtState k = 1 ∨ s.dev.shtState k = 2) ∧ (s.dev.evt.running = false ∨ s.dev.evt.slotAt = s.dev.slot + 1 ∨ s.dev.flt.strobes = []) ∧ s.dev.persC = false) ∧
    (∃ (s : State) (k : Fin 32), s.dev.warned = false ∧ s.dev.shtState k = 3) ∧
    (∃ (s : State) (k : Fin 32), s.dev.warned = false ∧ s.dev.direct R.SHT_CMD.off ∧ (s.dev.shtState k = 1 ∨ s.dev.shtState k = 2) ∧ s.dev.evt.slotAt = s.dev.slot + 1 ∧ s.dev.evt.due = [] ∧ (∀ (n : Nat), n < 4 → (s.dev.encS n).edges = []) ∧ (∀ p ∈ s.dev.evt.pend, p.2 = k.val) ∧ s.dev.get F.SYS_HOST_STATE.state = 0 ∧ s.dev.persC = false) ∧
    (∃ (s : State) (k : Fin 32), s.dev.idleStart = false ∧ s.dev.direct R.SHT_CMD.off ∧ s.dev.shtState k = 3) ∧
    (∃ (s : State) (k : Fin 32), s.dev.direct R.SHT_CMD.off ∧ s.dev.shtState k = 3) ∧
    (∃ (s : State) (k : Fin 32), s.dev.direct R.SHT_CMD.off ∧ (s.dev.shtState k = 4 ∨ s.dev.shtState k = 5)) ∧
    (∃ (s : State) (k : Fin 32), s.dev.direct R.SHT_CMD.off ∧ s.dev.shtState k = 2) ∧
    (∃ (s : State) (k : Fin 32), s.dev.warned = false ∧ s.dev.shtState k = 3 ∧ s.dev.evt.running = true ∧ s.dev.rd (R.SHT_Dd_PICK_TIME k) + s.dev.get (F.SHT_Dd_RUNOUT.runout_ms k) * 125000 < 2 ^ 64 ∧ s.dev.evt.pend = [] ∧ s.dev.get F.SYS_HOST_STATE.state = 0 ∧ s.dev.persC = false) :=
  ⟨⟨(let k : Fin 32 := 1; let d : Dev := base; let d : Dev := ((if d.free % 4 < 2 then sheetUp (engineUp d) k else noArms (sheetUp (engineUp d) k)).put (F.SHT_Dd_STATE.state k) (1 + d.free % 2)); let d : Dev := (if d.free % 2 = 1 then { (ent d 3 9 (2 ^ 63 + 2 ^ 62 + 2 ^ 60)) with evt := { d.evt with armFor := [(3, k + 1)] } } else d); let d : Dev := (if d.free % 3 = 0 then { d with flt := { d.flt with strobes := [] } } else if d.free % 3 = 1 then { d with evt := { d.evt with running := false } } else { d with evt := { d.evt with slotAt := d.slot + 1 } }); { dev := d } : State), (1 : Fin 32), by decide⟩,
    ⟨(let d : Dev := base; let d : Dev := ((onAll d).put (F.SHT_Dd_STATE.state 3) 3); { dev := d } : State), (3 : Fin 32), by decide⟩,
    ⟨(let k : Fin 32 := 1; let d : Dev := base; let d : Dev := ((noArms (sheetUp (engineUp d) k)).put (F.SHT_Dd_STATE.state k) (1 + d.free % 2)); let d : Dev := (if d.free % 2 = 1 then { (ent d 3 9 (2 ^ 63 + 2 ^ 62 + 2 ^ 60)) with evt := { d.evt with armFor := [(3, k + 1)] } } else d); let d : Dev := ({ d with evt := { d.evt with slotAt := d.slot + 1, enc := [] } }); { dev := d } : State), (1 : Fin 32), by decide⟩,
    ⟨(let k : Fin 32 := 1; let d : Dev := base; let d : Dev := ((noArms (onAll d)).put (F.SHT_Dd_STATE.state k) 3); let d : Dev := (if d.free % 2 = 1 then { d with evt := { d.evt with pickNow := [(k, d.slot)] } } else d); { dev := d } : State), (1 : Fin 32), by decide⟩,
    ⟨(let k : Fin 32 := 1; let d : Dev := base; let d : Dev := ((onAll d).put (F.SHT_Dd_STATE.state k) 3); { dev := d } : State), (1 : Fin 32), by decide⟩,
    ⟨(let k : Fin 32 := 1; let d : Dev := base; let d : Dev := ((onAll d).put (F.SHT_Dd_STATE.state k) (4 + d.free % 2)); { dev := d } : State), (1 : Fin 32), by decide⟩,
    ⟨(let k : Fin 32 := 1; let d : Dev := base; let d : Dev := ((onAll d).put (F.SHT_Dd_STATE.state k) 2); { dev := d } : State), (1 : Fin 32), by decide⟩,
    ⟨(let k : Fin 32 := 1; let d : Dev := { base with evt := { base.evt with running := true } }; let d : Dev := ((noArms (sheetUp (engineUp d) k)).put (F.SHT_Dd_STATE.state k) 3); let d : Dev := (d.wr (R.SHT_Dd_PICK_TIME k) (d.free % 2 ^ 40)); { dev := d } : State), (1 : Fin 32), by decide⟩⟩

end Sys2Proof.Tests.Sheets

namespace Sys2Proof.Tests.Rng

def rxAt (d : Dev) (st : Nat) : Dev := d.put F.RNG_LANE_STATUS.rx_state st

def txAt (d : Dev) (st : Nat) : Dev := d.put F.RNG_LANE_STATUS.tx_state st

def gen (d : Dev) (g w : Nat) : Dev := { d with frd := { d.frd with cfg := { d.frd.cfg with role := { d.frd.cfg.role with ringGen := g, ringLanes := w, grade := 0, addrA := 7 } } } }

def ph7 (d : Dev) (b : Bool) : Dev := { d with sys := { d.sys with ph := Store.set 0 d.sys.ph 7 (if b then 1 else 2) } }

def ringFr (seq w : Nat) : List (List Byte) :=
  [[0xFB, 7, 1] ++ leBytes 3 seq ++ [0, w], [5, 0, 1, 0, 0, 0, 0, 0], [0, 0, 0, 0, 0, 0, 0, 0]].map (·.map (BitVec.ofNat 8)) ++ List.replicate (w + 1) (List.replicate 8 3#8)

def ringEof (us : List (List Byte)) : List Byte := ([0xDC] ++ leBytes 4 (frameCrc (us.map nats)) ++ [0, 0, 0]).map (BitVec.ofNat 8)

/-- A control unit, and a training sequence, with their CRC. -/
def ctlOf (b : List Nat) : List Byte := (b ++ [crc8 b]).map (BitVec.ofNat 8)

def tsOf (b : List Nat) : List Byte := let c := crc16 b; (b ++ [c / 256, c % 256]).map (BitVec.ofNat 8)

/-- A report of w lanes that carry TS1, reversed or not, every third one inverted, lane 0 of another width where `bad`. -/
def laneRep (g w : Nat) (rev : Bool) (rate eye k : Nat) (bad : Bool := false) : LaneReport :=
  ⟨(List.range w).map fun l =>
    let t := tsOf [1, if rev then w - 1 - l else l, 0x5A, g, 3, rate, if bad && l = 0 then 2 else w, k % 256, 0, 0, 9, 0]
    ⟨64, if (k + l) % 3 = 0 then t.map (0xFF#8 - ·) else t, eye, (k + l) % 128⟩⟩

def idle0 (d : Dev) : Dev := (List.range 32).foldl (fun d k => d.put (F.SHT_Dd_STATE.state k) 0) (ph7 (d.put F.SYS_HOST_STATE.in_flight 0) false)

def noSyms (d : Dev) : Dev := { d with rng := { d.rng with syms := [] } }

theorem witness_RingTraining :
    (∃ (s : State) (p : BitVec 8), Store.get 0 s.dev.clk.lostAt 3 ≠ 0) ∧
    (∃ (s : State) (r : LaneReport), s.dev.rxSt = 2 ∧ s.dev.rng.adapting = false ∧ s.dev.manual = false ∧ s.dev.ringGen = 1 ∧ s.dev.lanesLocked r = true ∧ (∀ x ∈ r.lanes, 16 ≤ x.eye ∧ x.eye ≤ 128 ∧ x.tap < 128)) ∧
    (∃ (s : State) (r : LaneReport), s.dev.rxSt = 2 ∧ s.dev.rng.adapting = false ∧ s.dev.manual = false ∧ (s.dev.ringGen = 2 ∨ s.dev.ringGen = 3) ∧ s.dev.ringW ≤ 8 ∧ s.dev.lanesLocked r = true ∧ reportTsOk r = true ∧ s.dev.lockFailure r = 0 ∧ (∀ x ∈ r.lanes, x.eye ≤ 128 ∧ x.tap < 128)) ∧
    (∃ (s : State) (x : LaneSeen), s.dev.rxSt = 2 ∧ s.dev.rng.adapting = false ∧ s.dev.ringGen = 1 ∧ 1 ≤ x.good ∧ x.eye < 16) ∧
    (∃ (s : State) (r : LaneReport), s.dev.rxSt = 2 ∧ s.dev.rng.adapting = false ∧ s.dev.lanesLocked r = true ∧ s.dev.lockFailure r ≠ 0) ∧
    (∃ (s : State) (r : LaneReport), (s.dev.rxSt ≠ 2 ∨ s.dev.rng.adapting = true ∨ s.dev.lanesLocked r = false)) ∧
    (∃ (s : State) (r : DeskewReport), s.dev.rxSt = 3 ∧ s.dev.ringGen ≠ 1 ∧ s.dev.ringW ≤ 8 ∧ 4096 ≤ r.agreed ∧ r.skews.any (192 < ·) = false) ∧
    (∃ (s : State) (r : DeskewReport), s.dev.rxSt = 3 ∧ s.dev.ringGen = 1 ∧ 64 ≤ r.agreed ∧ r.skews.any (192 < ·) = false) ∧
    (∃ (s : State) (r : DeskewReport), s.dev.rxSt = 3 ∧ (r.agreed < (if s.dev.ringGen = 1 then 64 else 4096) ∨ r.skews.any (192 < ·) = true)) ∧
    (∃ (s : State) (n : Nat), s.dev.rxSt = 4) ∧
    (∃ (s : State), s.dev.rxSt = 2) ∧
    (∃ (s : State), s.dev.rxSt = 3) ∧
    (∃ (s : State) (ts : List Byte), s.dev.rxSt = 4 ∧ s.dev.ringGen ≠ 1 ∧ tsCrcOk (nats ts) = true ∧ s.dev.tsFault (nats ts) = 0 ∧ s.dev.on F.RNG_LANE_STATUS.committed = false) ∧
    (∃ (s : State) (ts : List Byte), s.dev.rxSt = 4 ∧ s.dev.ringGen ≠ 1 ∧ tsCrcOk (nats ts) = true ∧ s.dev.tsFault (nats ts) ≠ 0) ∧
    (∃ (s : State) (ts : List Byte), (s.dev.rxSt ≠ 4 ∨ s.dev.ringGen = 1 ∨ tsCrcOk (nats ts) = false)) ∧
    (∃ (s : State), s.dev.rxSt = 2) ∧
    (∃ (s : State) (l : Fin 8) (eye : Nat) (c : Nat), s.dev.rxSt = 4 ∧ s.dev.ringGen ≠ 3 ∧ s.dev.on F.RNG_LANE_CFG.drift_track = true ∧ l < s.dev.ringW ∧ eye ≤ 128 ∧ c < 128) ∧
    (∃ (s : State) (l : Fin 8) (eye : Nat) (c : Int), s.dev.rxSt = 4 ∧ s.dev.ringGen ≠ 3 ∧ s.dev.on F.RNG_LANE_CFG.drift_track = true ∧ l < s.dev.ringW ∧ (c < 0 ∨ 127 < c)) ∧
    (∃ (s : State) (p : BitVec 8), Store.get 0 s.dev.clk.lostAt 3 = 0 ∧ s.dev.txSt = 1 ∧ s.dev.ringGen ≠ 1) ∧
    (∃ (s : State) (p : BitVec 8), Store.get 0 s.dev.clk.lostAt 3 = 0 ∧ s.dev.txSt = 1 ∧ s.dev.ringGen = 1) ∧
    (∃ (s : State), s.dev.txSt = 3) :=
  ⟨⟨(let d : Dev := base; let d : Dev := ({ d with clk := { d.clk with lostAt := [(3, 5)] } }); { dev := d } : State), (let d : Dev := base; (BitVec.ofNat 8 (15 + d.free % 2)) : BitVec 8), by decide⟩,
    ⟨(let d : Dev := base; let d : Dev := (rxAt (gen d 1 4) 2); let d : Dev := ({ d with rng := { d.rng with adapting := false } }); let d : Dev := (d.put F.RNG_LANE_CFG.manual_align 0); { dev := d } : State), (let d : Dev := base; (⟨(List.range 4).map fun l => ⟨1 + d.free % 3, [], 16 + (d.free + l) % 113, (d.free * 7 + l) % 128⟩⟩) : LaneReport), by decide⟩,
    ⟨(let d : Dev := base; let d : Dev := (rxAt (gen d (2 + d.free % 2) 4) 2); let d : Dev := ({ d with rng := { d.rng with adapting := false } }); let d : Dev := (d.put F.RNG_LANE_CFG.manual_align 0); { dev := d } : State), (let d : Dev := base; (laneRep (2 + d.free % 2) (if d.free % 2 = 0 then 4 else 8) (d.free % 3 = 0) (if d.free % 2 = 0 then 1 else 4) (20 + d.free % 100) d.free) : LaneReport), by decide⟩,
    ⟨(let d : Dev := base; let d : Dev := (ph7 d (d.free % 2 = 0)); let d : Dev := (rxAt (gen d 1 4) 2); let d : Dev := ({ d with rng := { d.rng with adapting := false } }); { dev := d } : State), (let d : Dev := base; (⟨1, [], d.free % 16, 4⟩) : LaneSeen), by decide⟩,
    ⟨(let d : Dev := base; let d : Dev := (ph7 d (d.free % 2 = 0)); let d : Dev := (rxAt (gen d (2 + d.free % 2) 4) 2); let d : Dev := ({ d with rng := { d.rng with adapting := false } }); let d : Dev := (d.put F.RNG_LANE_CFG.manual_align 0); { dev := d } : State), (let d : Dev := base; (laneRep (2 + d.free % 2) (if d.free % 2 = 0 then 4 else 8) false (if d.free % 2 = 0 then 1 else 4) (20 + d.free % 100) d.free true) : LaneReport), by decide⟩,
    ⟨(let d : Dev := base; let d : Dev := (rxAt d (d.free % 7)); let d : Dev := (if d.free % 7 = 2 then { d with rng := { d.rng with adapting := true } } else d); { dev := d } : State), (let d : Dev := base; (⟨[]⟩) : LaneReport), by decide⟩,
    ⟨(let d : Dev := base; let d : Dev := (txAt (rxAt (gen d 2 4) 3) (d.free % 3)); let d : Dev := (d.put F.RNG_LANE_STATUS.committed (d.free % 2)); { dev := d } : State), (let d : Dev := base; (⟨[1, 2, d.free % 193, 4], 4096 + d.free % 3⟩) : DeskewReport), by decide⟩,
    ⟨(let d : Dev := base; let d : Dev := (txAt (rxAt (gen d 1 4) 3) (d.free % 3)); let d : Dev := ({ d with rng := { d.rng with txSeen := d.free % 2 = 0 } }); { dev := d } : State), (let d : Dev := base; (⟨[1, 2, d.free % 193, 4], 64⟩) : DeskewReport), by decide⟩,
    ⟨(let d : Dev := base; let d : Dev := (ph7 (rxAt (gen d 2 4) 3) (d.free % 2 = 0)); { dev := d } : State), (let d : Dev := base; (if d.free % 3 = 0 then ⟨[200], 5000⟩ else ⟨[1, 2], d.free % 4096⟩) : DeskewReport), by decide⟩,
    ⟨(let d : Dev := base; let d : Dev := ({ rxAt (gen d (2 + d.free % 2) 4) 4 with rng := { d.rng with commit := d.free % 2 * 4 } }); let d : Dev := (if d.free % 3 = 0 then txAt d 1 else txAt d (d.free % 5)); { dev := d } : State), (let d : Dev := base; (d.free % 40) : Nat), by decide⟩,
    ⟨(let d : Dev := base; let d : Dev := ({ rxAt d 2 with rng := { d.rng with adapting := d.free % 2 = 0 } }); { dev := d } : State), by decide⟩,
    ⟨(let d : Dev := base; let d : Dev := (ph7 (rxAt d 3) (d.free % 2 = 0)); { dev := d } : State), by decide⟩,
    ⟨(let d : Dev := base; let d : Dev := (txAt (rxAt (gen d 2 4) 4) (d.free % 4)); let d : Dev := ((d.put F.RNG_LANE_STATUS.committed 0).put F.RNG_LANE_CFG.max_rate 3); let d : Dev := ({ d with rng := { d.rng with tsN := d.free % 9, tsLast := if d.free % 2 = 1 then tsCore [2, 0, 0x5A, 2, 3, 2, 4, d.free % 256, 0, 0, 9, 0] else tsCore [1, 0, 0x5A, 2, 3, 2, 4, d.free % 256, 0, 0, 9, 0] } }); { dev := d } : State), (let s : State := { dev := base }; (let b := [if s.dev.free % 2 = 0 then 1#8 else 2#8, 0#8, 0x5A#8, 2#8, 3#8, 2#8, 4#8, BitVec.ofNat 8 s.dev.free, 0#8, 0#8, 9#8, 0#8]; let c := crc16 (b.map (·.toNat)); b ++ [BitVec.ofNat 8 (c / 256), BitVec.ofNat 8 (c % 256)]) : List Byte), by decide⟩,
    ⟨(let d : Dev := base; let d : Dev := (ph7 (txAt (rxAt (gen d 2 4) 4) (d.free % 4)) (d.free % 2 = 0)); let d : Dev := (d.put F.RNG_LANE_CFG.max_rate (3 + d.free % 2 * 5)); { dev := d } : State), (let d : Dev := base; (if d.free % 3 = 0 then tsOf [2, 0, 0x5A, 2, 3, 7, 4, 1, 0, 0, 9, 0] else tsOf [1, 0, 0x5A, 3, 3, 2, 4, 1, 0, 0, 9, 0]) : List Byte), by decide⟩,
    ⟨(let d : Dev := base; let d : Dev := (rxAt d (d.free % 7)); { dev := d } : State), ([] : List Byte), by decide⟩,
    ⟨(let d : Dev := base; let d : Dev := ({ rxAt d 2 with rng := { d.rng with adapting := d.free % 2 = 0 } }); { dev := d } : State), by decide⟩,
    ⟨(let d : Dev := base; let d : Dev := (rxAt (gen d 2 4) 4); let d : Dev := ((d.put F.RNG_LANE_CFG.drift_track 1).put (F.RNG_RXl_STATUS.tap 1) (d.free % 128)); { dev := d } : State), (1 : Fin 8), (let d : Dev := base; (d.free % 129) : Nat), (let d : Dev := base; (d.free / 7 % 128) : Nat), by decide⟩,
    ⟨(let d : Dev := base; let d : Dev := (txAt (rxAt (gen d 2 4) 4) (d.free % 5)); let d : Dev := ({ d.put F.RNG_LANE_CFG.drift_track 1 with rng := { d.rng with commit := d.free % 2 * 2 } }); { dev := d } : State), (1 : Fin 8), (40 : Nat), (let d : Dev := base; (if d.free % 2 = 0 then -1 else 128) : Int), by decide⟩,
    ⟨(let d : Dev := base; let d : Dev := ({ txAt (gen (onAll d) 2 4) 1 with rng := { d.rng with detAt := d.sys.now8 } }); let d : Dev := (gen d 2 4); { dev := { d with clk := { d.clk with lostAt := [] } } } : State), (5 : BitVec 8), by decide⟩,
    ⟨(let d : Dev := base; let d : Dev := ({ txAt (gen (rxAt d (3 + d.free % 2)) 1 4) 1 with rng := { d.rng with detAt := d.sys.now8 } }); { dev := { d with clk := { d.clk with lostAt := [] } } } : State), (let d : Dev := base; (BitVec.ofNat 8 (if d.free % 3 = 0 then 7 else 15)) : BitVec 8), by decide⟩,
    ⟨(let d : Dev := base; let d : Dev := (if d.free % 2 = 0 then noSyms (txAt (gen d 2 4) 3) else txAt (gen d 2 4) 3); let d : Dev := ((d.put F.RNG_PROTO_STATUS.own_synced (d.free % 2)).put F.RNG_LANE_STATUS.rate (2 + d.free % 3)); { dev := d } : State), by decide⟩⟩

theorem witness_RingLaneCommands :
    (∃ (s : State) (force : Bool), reached s.dev R.RNG_LANE_CMD.off ∧ s.dev.laneRefused force = false ∧ 1 ≤ s.dev.rxSt ∧ s.dev.rxSt ≤ 4) ∧
    (∃ (s : State) (force : Bool), reached s.dev R.RNG_LANE_CMD.off ∧ s.dev.laneRefused force = false ∧ 1 ≤ s.dev.txSt ∧ s.dev.txSt ≤ 4) ∧
    (∃ (s : State) (force : Bool), reached s.dev R.RNG_LANE_CMD.off ∧ s.dev.laneRefused force = false) ∧
    (∃ (s : State) (force : Bool), reached s.dev R.RNG_LANE_CMD.off) ∧
    (∃ (s : State), reached s.dev R.RNG_LANE_CMD.off) ∧
    (∃ (s : State), reached s.dev R.RNG_LANE_CMD.off) ∧
    (∃ (s : State), reached s.dev R.RNG_LANE_CMD.off ∧ s.dev.ringW ≤ 8) ∧
    (∃ (s : State) (l : Fin 8), reached s.dev (R.RNG_RXl_CHK_CTRL l).off ∧ reached s.dev (R.RNG_TXl_INJECT l).off) :=
  ⟨⟨(let d : Dev := base; let d : Dev := (rxAt (ph7 (onAll d) false) (d.free % 5 + 1)); let d : Dev := ((List.range 32).foldl (fun d k => d.put (F.SHT_Dd_STATE.state k) 0) (d.put F.SYS_HOST_STATE.in_flight 0)); { dev := d } : State), (true : Bool), by decide⟩,
    ⟨(let d : Dev := base; let d : Dev := (txAt (ph7 (onAll d) false) (d.free % 5 + 1)); let d : Dev := ((List.range 32).foldl (fun d k => d.put (F.SHT_Dd_STATE.state k) 0) (d.put F.SYS_HOST_STATE.in_flight 0)); { dev := d } : State), (true : Bool), by decide⟩,
    ⟨(let d : Dev := base; let d : Dev := (txAt (rxAt (gen (idle0 (onAll d)) 2 4) (5 + d.free % 2)) (5 + d.free / 2 % 2)); { dev := d } : State), (let d : Dev := base; (d.free % 2 = 0) : Bool), by decide⟩,
    ⟨(let d : Dev := base; let d : Dev := (ph7 (onAll d) (d.free % 2 = 0)); let d : Dev := (if d.free % 3 = 0 then txAt (rxAt d 0) 0 else d); { dev := d } : State), (true : Bool), by decide⟩,
    ⟨(let d : Dev := base; let d : Dev := (rxAt (txAt (onAll d) (d.free % 2)) (d.free % 3)); { dev := d } : State), by decide⟩,
    ⟨(let d : Dev := base; let d : Dev := (rxAt (txAt (onAll d) (4 + d.free % 2)) (4 + d.free % 3)); { dev := d } : State), by decide⟩,
    ⟨(let d : Dev := base; let d : Dev := ((rxAt (gen (onAll d) (2 + d.free % 2) 4) (1 + d.free % 3)).put F.RNG_LANE_CFG.manual_align 1); { dev := d } : State), by decide⟩,
    ⟨(let d : Dev := base; let d : Dev := (txAt (onAll d) (3 + d.free % 3)); { dev := d } : State), (1 : Fin 8), by decide⟩⟩

theorem witness_RingFrames :
    (∃ (s : State) (us : List (List Byte)) (u : List Byte) (y : Sym) (ys : List Sym), s.dev.rxSt = 4 ∧ s.dev.twin = false ∧ s.dev.symReady = true ∧ s.dev.rng.syms = y :: ys ∧ ys.length < 16 ∧ s.dev.rng.fwd < 64 ∧ s.dev.rng.drop ≠ 2 ∧ (fieldsOf us).dest ≠ s.dev.ringAddr ∧ wholeFrame s.dev us u) ∧
    (∃ (s : State) (us : List (List Byte)) (u : List Byte), s.dev.symReady = false ∧ s.dev.rxSt = 4 ∧ s.dev.twin = false ∧ (fieldsOf us).dest ≠ s.dev.ringAddr ∧ wholeFrame s.dev us u) ∧
    (∃ (s : State) (us : List (List Byte)) (u : List Byte) (c : List Byte) (k : Nat), s.dev.symReady = false ∧ s.dev.rng.drop ≠ 2 ∧ s.dev.rxSt = 4 ∧ s.dev.txSt = 4 ∧ s.dev.twin = false ∧ (fieldsOf us).dest ≠ s.dev.ringAddr ∧ wholeFrame s.dev us u ∧ wholeCtl s.dev c ∧ ub (nats c) 2 ≠ 0 ∧ 1 ≤ k) ∧
    (∃ (s : State) (us : List (List Byte)) (u : List Byte), s.dev.rxSt = 4 ∧ s.dev.twin = false ∧ s.dev.rng.syms = [] ∧ s.dev.rng.own.nakAt = 0 ∧ s.dev.rng.own.resyncAt = 0 ∧ (fieldsOf us).dest = s.dev.ringAddr ∧ ub ((us.map nats).headD []) 0 = s.dev.unitType 0xA3 0xFB ∧ ub (nats u) 0 = s.dev.unitType 0xB4 0xDC ∧ leVal (((nats u).drop 1).take 4) ≠ frameCrc (us.map nats)) ∧
    (∃ (s : State) (us : List (List Byte)) (u : List Byte) (ctls : List (Nat × List Byte)), s.dev.rxSt = 4 ∧ (fieldsOf us).dest = s.dev.ringAddr ∧ wholeFrame s.dev us u ∧ (∀ c ∈ ctls, ub (nats c.2) 0 = s.dev.unitType 0xC5 0x5C) ∧ s.dev.malformed (fieldsOf us) (nats u) = false ∧ bit (fieldsOf us).flags 1 = false ∧ s.dev.on F.RNG_PROTO_CFG.check_required = false ∧ s.dev.on F.RNG_PROTO_STATUS.own_synced = true ∧ (fieldsOf us).seq = s.dev.get F.RNG_RX_EXPECT_OWN.expect ∧ s.dev.get F.RNG_INGRESS_FILL.own + frameCredits (fieldsOf us).nwords ≤ s.dev.shareCredits false) ∧
    (∃ (s : State) (us : List (List Byte)) (u : List Byte), s.dev.rxSt = 4 ∧ s.dev.twin = false ∧ s.dev.rng.syms = [] ∧ s.dev.rng.own.nakAt = 0 ∧ s.dev.rng.own.resyncAt = 0 ∧ (fieldsOf us).dest = s.dev.ringAddr ∧ wholeFrame s.dev us u ∧ s.dev.malformed (fieldsOf us) (nats u) = false ∧ bit (fieldsOf us).flags 1 = false ∧ s.dev.on F.RNG_PROTO_CFG.check_required = false ∧ s.dev.on F.RNG_PROTO_STATUS.own_synced = true) ∧
    (∃ (s : State) (stream : Byte), s.dev.rxSt = 4 ∧ s.dev.twin = false ∧ (stream.toNat = 0xFF ∨ stream.toNat = s.dev.ringAddr)) ∧
    (∃ (s : State) (stream : Byte) (v : BitVec 24), s.dev.rxSt = 4) ∧
    (∃ (s : State) (u : List Byte), s.dev.rxSt = 4 ∧ ub (nats u) 0 = s.dev.unitType 0xC5 0x5C ∧ (u.length ≠ 8 ∨ crc8 ((nats u).take 7) ≠ ub (nats u) 7)) ∧
    (∃ (s : State) (u : List Byte), s.dev.rxSt = 4 ∧ s.dev.txSt = 4 ∧ wholeCtl s.dev u ∧ ub (nats u) 2 ≠ 0) ∧
    (∃ (s : State) (u : List Byte), s.dev.rxSt = 4 ∧ s.dev.txSt = 4 ∧ ub (nats u) 0 ≠ s.dev.unitType 0xC5 0x5C) ∧
    (∃ (s : State) (stream : Byte) (v : BitVec 24) (u : List Byte) (us : List (List Byte)) (ctls : List (Nat × List Byte)), s.dev.rxSt ≠ 4) ∧
    (∃ (s : State) (v : BitVec 24), reached s.dev R.RNG_NOTE_TX.off ∧ s.dev.rng.syms.length < 16) ∧
    (∃ (s : State), s.dev.txSt = 4 ∧ s.dev.twin = false) ∧
    (∃ (s : State) (y : Sym) (ys : List Sym), s.dev.txSt = 4 ∧ s.dev.rng.syms = y :: ys ∧ ys.length < 16) :=
  ⟨⟨(let d : Dev := base; let d : Dev := ({ rxAt (gen d 2 4) 4 with out := [] }); let d : Dev := (txAt (gen d 2 4) 4); let d : Dev := ({ d with rng := { d.rng with drop := d.free % 2, insAt := d.sys.now8, fwd := d.free % 64, syms := [⟨1, 2, 3⟩] } }); { dev := d } : State), (let us : List (List Byte) := [[0xFB#8, 9#8, 1#8]]; ([[0xFB#8, 9#8, 1#8], [1#8]] ++ us) : List (List Byte)), (let us : List (List Byte) := [[0xFB#8, 9#8, 1#8]]; let us := ([[0xFB#8, 9#8, 1#8], [1#8]] ++ us); (ringEof us) : List Byte), (⟨1, 2, 3⟩ : Sym), ([] : List Sym), by decide⟩,
    ⟨(let d : Dev := base; let d : Dev := ({ rxAt (gen d 2 4) 4 with out := [] }); let d : Dev := (txAt (gen d 2 4) (3 + d.free % 2)); { dev := { d with rng := { d.rng with drop := d.free % 3, insAt := d.sys.now8 + 1 } } } : State), (let us : List (List Byte) := [[0xFB#8, 9#8, 1#8]]; ([[0xFB#8, 9#8, 1#8], [1#8]] ++ us) : List (List Byte)), (let us : List (List Byte) := [[0xFB#8, 9#8, 1#8]]; let us := ([[0xFB#8, 9#8, 1#8], [1#8]] ++ us); (ringEof us) : List Byte), by decide⟩,
    ⟨(let d : Dev := base; let d : Dev := ({ rxAt (gen d 2 4) 4 with out := [] }); let d : Dev := (txAt (gen d 2 4) 4); { dev := { d with rng := { d.rng with drop := d.free % 2, insAt := d.sys.now8 + 1 } } } : State), (let d : Dev := base; ([[0xFB#8, 9#8, 1#8], [1#8]]) : List (List Byte)), (let d : Dev := base; (ringEof [[0xFB#8, 9#8, 1#8], [1#8]]) : List Byte), (let d : Dev := base; (ctlOf [0x5C, 1, 1 + d.free % 3, 9, 1, 2, 3]) : List Byte), (let d : Dev := base; (1 + d.free % 2) : Nat), by decide⟩,
    ⟨(let d : Dev := base; let d : Dev := (rxAt (gen (noSyms d) 2 4) 4); let d : Dev := ({ d with sys := { d.sys with now8 := d.sys.now8 + 2 ^ 30 }, rng := { d.rng with own := { d.rng.own with nakAt := 0, resyncAt := 0 } } }); let d : Dev := (txAt (gen d 2 4) 4); { dev := d } : State), (let d : Dev := base; ([[0xFB#8, 7#8, 1#8], [1#8]]) : List (List Byte)), (let d : Dev := base; ([0xDC#8]) : List Byte), by decide⟩,
    ⟨(let d : Dev := base; let d : Dev := (rxAt (gen (noSyms d) 2 4) 4); let d : Dev := ({ d with sys := { d.sys with now8 := d.sys.now8 + 2 ^ 30 }, rng := { d.rng with own := { d.rng.own with nakAt := 0, resyncAt := 0 } } }); let d : Dev := (((gen (chanUp d) 2 4).put F.RNG_PROTO_CFG.check_required 0)); let d : Dev := ((List.range 32).foldl (fun d k => d.put (F.SHT_Dd_STATE.state k) 0) (d.put F.RNG_PROTO_STATUS.own_synced 1)); let d : Dev := (d.put F.RNG_INGRESS_FILL.own 0); { dev := d } : State), (let d : Dev := base; (ringFr (d.get F.RNG_RX_EXPECT_OWN.expect) (d.free % 5)) : List (List Byte)), (let d : Dev := base; (ringEof (ringFr (d.get F.RNG_RX_EXPECT_OWN.expect) (d.free % 5))) : List Byte), (let d : Dev := base; (if d.free % 2 = 0 then [] else [(1, ctlOf [0x5C, 1, 5, 9, 1, 2, 3])]) : List (Nat × List Byte)), by decide⟩,
    ⟨(let d : Dev := base; let d : Dev := (rxAt (gen (noSyms d) 2 4) 4); let d : Dev := ({ d with sys := { d.sys with now8 := d.sys.now8 + 2 ^ 30 }, rng := { d.rng with own := { d.rng.own with nakAt := 0, resyncAt := 0 } } }); let d : Dev := (((gen (chanUp d) 2 4).put F.RNG_PROTO_CFG.check_required 0)); let d : Dev := ((List.range 32).foldl (fun d k => d.put (F.SHT_Dd_STATE.state k) 0) (d.put F.RNG_PROTO_STATUS.own_synced 1)); let d : Dev := (d.put F.RNG_INGRESS_FILL.own (d.free % 2 * 4095)); { dev := d } : State), (let d : Dev := base; (ringFr (d.free % 3 + (d.get F.RNG_RX_EXPECT_OWN.expect) - d.free % 2 * 2) (d.free % 5)) : List (List Byte)), (let d : Dev := base; (ringEof (ringFr (d.free % 3 + (d.get F.RNG_RX_EXPECT_OWN.expect) - d.free % 2 * 2) (d.free % 5))) : List Byte), by decide⟩,
    ⟨(let d : Dev := base; let d : Dev := (txAt (rxAt (gen (noSyms d) 2 4) 4) 4); let d : Dev := (gen (d.put F.RNG_PROTO_STATUS.own_synced (d.free % 2)) 2 4); { dev := d } : State), (let s : State := { dev := base }; (if s.dev.free % 2 = 0 then 7#8 else 0xFF#8) : Byte), by decide⟩,
    ⟨(let d : Dev := base; let d : Dev := (txAt (rxAt (gen d 2 4) 4) 4); { dev := d } : State), (let s : State := { dev := base }; let stream : Byte := 7#8; (if s.dev.free % 2 = 0 then stream else 7#8) : Byte), (5 : BitVec 24), by decide⟩,
    ⟨(let d : Dev := base; let d : Dev := (txAt (rxAt (gen d 2 4) 4) 4); { dev := d } : State), (let d : Dev := base; ([0x5C#8]) : List Byte), by decide⟩,
    ⟨(let d : Dev := base; let d : Dev := (txAt (gen (rxAt d 4) 2 4) 4); { dev := d } : State), (let d : Dev := base; (ctlOf [0x5C, 1, 1 + d.free % 3, 9, 1, 2, 3]) : List Byte), by decide⟩,
    ⟨(let d : Dev := base; let d : Dev := (txAt (gen (rxAt d 4) 2 4) 4); { dev := d } : State), (let d : Dev := base; ([0xC5#8, 1#8]) : List Byte), by decide⟩,
    ⟨(let d : Dev := base; let d : Dev := (rxAt d (d.free % 4)); { dev := d } : State), (5 : Byte), (5 : BitVec 24), ([] : List Byte), ([] : List (List Byte)), ([] : List (Nat × List Byte)), by decide⟩,
    ⟨(let d : Dev := base; let d : Dev := (noSyms (onAll d)); { dev := d } : State), (5 : BitVec 24), by decide⟩,
    ⟨(let d : Dev := base; let d : Dev := (txAt (gen (noSyms d) 2 4) 4); { dev := d } : State), by decide⟩,
    ⟨(let y : Sym := ⟨1, 2, 3⟩; let ys : List Sym := []; let ys := (ys.take 14); let d : Dev := base; let d : Dev := ({ txAt d 4 with rng := { d.rng with syms := y :: ys } }); { dev := d } : State), (⟨1, 2, 3⟩ : Sym), (let ys : List Sym := []; (ys.take 14) : List Sym), by decide⟩⟩

end Sys2Proof.Tests.Rng

namespace Sys2Proof.Tests.Dma

def chainQ (d : Dev) (q st : Nat) : Dev :=
  let d := (d.put (F.DMA_Qq_CFG.enable q) 1).put (F.DMA_Qq_CFG.mode q) 0
  (d.put (F.DMA_Qq_STATUS.state q) st).put F.SYS_HOST_STATE.state 0

def ringQ (d : Dev) (q st : Nat) (g : Bool) : Dev := (chainQ d q st).put (F.DMA_Qq_CFG.mode q) (if g then 2 else 1)

def copyDesc : List Nat := [0x1001, 0x2000, 2 ^ 57 + 2 ^ 58 + 16, 0, 0x100, 0]

def serve (d : Dev) (q : Nat) (w : List Nat) (got : Nat) (pend : List (Nat × Nat × Bool)) : Dev :=
  { (chainQ d q 3).putDq q { run := true, desc := w, got := got, pend := pend, bytes := 8 * got } with memx := { d.memx with lost := false } }

def fr (d : Dev) (g : Bool) (f : RxFrame) : Dev := d.modRx g fun x => { x with frames := [f] }

theorem witness_DmaQueues :
    (∃ (s : State) (q : Fin 16), s.dev.direct (R.DMA_Qq_CFG q).off) ∧
    (∃ (s : State) (q : Nat), s.dev.on F.DMA_CTRL.enable = true ∧ s.dev.dmaHeld = false ∧ s.dev.qRunning = none ∧ ((List.range 16).map fun i => (s.dev.dmaLast + 1 + i) % 16).find? (fun p => s.dev.qSt p = 2) = some q) ∧
    (∃ (s : State) (q : Fin 16) (g : Bool) (f : RxFrame) (rest : List RxFrame), s.dev.ringMode q = some g ∧ s.dev.qSt q = 3 ∧ (s.dev.rxS g).frames = f :: rest) ∧
    (∃ (s : State) (q : Fin 16) (k : Nat), s.dev.memx.lost = false ∧ s.dev.qSt q = 3 ∧ (s.dev.dq q).stall ≠ 0 ∧ ((s.dev.ringMode q = none ∧ s.dev.openDesc (descOfWords (s.dev.dq q).desc).tag = some k) ∨ (∃ g ∈ s.dev.ringMode q, ∃ f ∈ (s.dev.rxS g).frames.head?, s.dev.openDesc f.tag = some k))) ∧
    (∃ (s : State) (q : Fin 16), s.dev.memx.lost = false ∧ s.dev.ringMode q = none ∧ s.dev.qSt q = 3 ∧ (s.dev.dq q).stall ≠ 0 ∧ (s.dev.dq q).pend ≠ [] ∧ s.dev.openDesc (descOfWords (s.dev.dq q).desc).tag = none) ∧
    (∃ (s : State) (q : Fin 16) (g : Bool) (f : RxFrame) (rest : List RxFrame), s.dev.ringMode q = some g ∧ s.dev.qSt q = 3 ∧ (s.dev.dq q).stall ≠ 0 ∧ (s.dev.rxS g).frames = f :: rest) ∧
    (∃ (s : State) (q : Fin 16) (cfg : Word32), s.dev.direct (R.DMA_Qq_CFG q).off ∧ s.dev.on (F.DMA_Qq_CFG.enable q) = false ∧ (bits cfg.toNat 7 6 = 0 ∨ bits cfg.toNat 7 6 = 3)) ∧
    (∃ (s : State) (q : Fin 16) (cfg : Word32), s.dev.direct (R.DMA_Qq_CFG q).off ∧ s.dev.on (F.DMA_Qq_CFG.enable q) = false ∧ (bits cfg.toNat 7 6 = 1 ∨ bits cfg.toNat 7 6 = 2)) ∧
    (∃ (s : State) (q : Fin 16) (cfg : Word32), s.dev.direct (R.DMA_Qq_CFG q).off ∧ s.dev.on (F.DMA_Qq_CFG.enable q) = true) ∧
    (∃ (s : State) (q : Fin 16), s.dev.direct (R.DMA_Qq_CFG q).off ∧ s.dev.qSt q ≠ 0 ∧ s.dev.ringMode q = none ∧ (s.dev.dq q).pend = []) ∧
    (∃ (s : State), s.dev.direct R.DMA_CTRL.off) ∧
    (∃ (s : State), s.dev.direct R.DMA_CTRL.off) ∧
    (∃ (s : State) (q : Fin 16) (addr : Word64), s.dev.direct (R.DMA_Qq_START q).off ∧ s.dev.ringMode q = none ∧ (s.dev.qSt q = 1 ∨ s.dev.qSt q = 4 ∨ s.dev.qSt q = 5)) ∧
    (∃ (s : State) (q : Fin 16), s.dev.direct (R.DMA_Qq_APPEND q).off ∧ s.dev.ringMode q = none ∧ (s.dev.qSt q = 2 ∨ s.dev.qSt q = 3 ∨ s.dev.qSt q = 4)) ∧
    (∃ (s : State) (q : Fin 16), s.dev.direct (R.DMA_Qq_CMD q).off ∧ s.dev.ringMode q = none ∧ (s.dev.qSt q = 2 ∨ s.dev.qSt q = 3) ∧ (s.dev.dq q).doneAt ≠ s.dev.sys.now8 + 1) ∧
    (∃ (s : State) (q : Fin 16) (addr : Word64), s.dev.direct (R.DMA_Qq_START q).off ∧ s.dev.direct (R.DMA_Qq_APPEND q).off ∧ s.dev.direct (R.DMA_Qq_CMD q).off ∧ (s.dev.dq q).doneAt ≠ s.dev.sys.now8 + 1) ∧
    (∃ (s : State) (q : Fin 16), s.dev.on F.DMA_CTRL.enable = true ∧ s.dev.dmaHeld = false ∧ s.dev.qRunning = none ∧ s.dev.ringMode q = none ∧ s.dev.qSt q = 2 ∧ (s.dev.dq q).reread = false ∧ (∀ (i : Nat), i < 16 → (s.dev.dmaLast + 1 + i) % 16 ≠ q.val → s.dev.qSt ((s.dev.dmaLast + 1 + i) % 16) = 2 → (q.val + 15 - s.dev.dmaLast) % 16 < i)) ∧
    (∃ (s : State), (s.dev.on F.DMA_CTRL.enable = false ∨ s.dev.dmaHeld = true ∨ s.dev.qRunning ≠ none ∨ (∀ (p : Nat), p < 16 → s.dev.qSt p ≠ 2))) ∧
    (∃ (s : State) (q : Fin 16) (g : Bool) (f : RxFrame), s.dev.ringMode q = some g ∧ s.dev.qSt q = 3 ∧ (s.dev.rxS g).frames = [f] ∧ (s.dev.dq q).frames = 1 ∧ s.dev.openDesc f.tag = none) ∧
    (∃ (s : State) (q : Fin 16), (s.dev.ringMode q = none ∨ s.dev.qSt q ≠ 3)) ∧
    (∃ (s : State) (q : Fin 16), (s.dev.qSt q ≠ 3 ∨ (s.dev.dq q).stall = 0)) ∧
    (∃ (s : State) (q : Fin 16) (k : Nat) (a : Nat) (v : Nat), s.dev.memx.lost = false ∧ s.dev.ringMode q = none ∧ s.dev.qSt q = 3 ∧ (s.dev.dq q).stall ≠ 0 ∧ (s.dev.dq q).pend = [(a, v, false)] ∧ s.dev.openDesc (descOfWords (s.dev.dq q).desc).tag = some k ∧ s.dev.guarded k a = false ∧ s.dev.on F.MEM_INJECT_CTRL.arm = false ∧ s.dev.memx.bad = [] ∧ v < 2 ^ 64) ∧
    (∃ (s : State) (q : Fin 16), s.dev.ringMode q = none ∧ s.dev.qSt q = 3 ∧ (s.dev.dq q).stall ≠ 0 ∧ s.dev.evt.running = true ∧ s.dev.now < 2 ^ 62 ∧ (s.dev.dq q).stall < 2 ^ 62) :=
  ⟨⟨(let d : Dev := base; let d : Dev := (onAll d); { dev := d } : State), (let d : Dev := base; (Fin.ofNat 16 d.free) : Fin 16), by decide⟩,
    ⟨(let d : Dev := base; let d : Dev := ((List.range 16).foldl (fun d p => (chainQ d p (1 + (d.free / (p + 2)) % 2)).putDq p {}) d); let d : Dev := (chainQ ({ d.put F.DMA_CTRL.enable 1 with dmaLast := d.free % 16 } : Dev) (d.free % 5) 2); { dev := d } : State), (let d : Dev := base; let d : Dev := (List.range 16).foldl (fun d p => (chainQ d p (1 + (d.free / (p + 2)) % 2)).putDq p {}) d; let d : Dev := chainQ ({ d.put F.DMA_CTRL.enable 1 with dmaLast := d.free % 16 } : Dev) (d.free % 5) 2; (((List.range 16).map fun i => (d.dmaLast + 1 + i) % 16).find? (fun p => d.qSt p = 2)).getD 0), by decide⟩,
    ⟨(let d : Dev := base; let d : Dev := (({ (sheetUp (chanUp (onAll d)) 3).put (F.SHT_Dd_STATE.state 3) 2 with memx := { d.memx with bad := [] } } : Dev)); let d : Dev := ((fr (ringQ d (Fin.ofNat 16 (d.free / 3)) 3 (decide (d.free % 2 = 0))) (decide (d.free % 2 = 0)) (⟨if d.free % 2 = 0 then 77 else 900, d.free % 3, d.free % 5 * 8, d.free % 7, d.free % 2, [(5, false), (6, false)]⟩ : RxFrame)).modDq (Fin.ofNat 16 (d.free / 3)) fun x => { x with frames := 1 + d.free % 2 }); { dev := d } : State), (let d : Dev := base; (Fin.ofNat 16 (d.free / 3))), (let d : Dev := base; decide (d.free % 2 = 0)), (let d : Dev := base; (⟨if d.free % 2 = 0 then 77 else 900, d.free % 3, d.free % 5 * 8, d.free % 7, d.free % 2, [(5, false), (6, false)]⟩ : RxFrame)), ([] : List RxFrame), by decide⟩,
    ⟨(let d : Dev := base; let d : Dev := (({ (sheetUp (chanUp (onAll d)) 3).put (F.SHT_Dd_STATE.state 3) 2 with memx := { d.memx with bad := [] } } : Dev)); let d : Dev := ((serve d (Fin.ofNat 16 (d.free / 3)) ([0x1001, 0x2000, 2 ^ 60 + 16, 77 * 2 ^ 48, 0x100, 0] : List Nat) 1 [(0x100, 5, false), (0x108, 6, false)]).modDq (Fin.ofNat 16 (d.free / 3)) fun x => { x with stall := 7 }); let d : Dev := (if d.free % 3 = 0 then (d.wr (R.DMA_REGr_BASE 1) 0).wr (R.DMA_REGr_SIZE 1) 0x10000 else d); { dev := d } : State), (let d : Dev := base; (Fin.ofNat 16 (d.free / 3))), (3 : Nat), by decide⟩,
    ⟨(let d : Dev := base; let d : Dev := ((List.range 32).foldl (fun d k => d.put (F.SHT_Dd_STATE.state k) 0) d); let d : Dev := ((serve d (Fin.ofNat 16 (d.free / 3)) ([0x1001, 0x2000, 2 ^ 60 + 16, 77 * 2 ^ 48, 0x100, 0] : List Nat) 1 [(0x100, 5, false)]).modDq (Fin.ofNat 16 (d.free / 3)) fun x => { x with stall := 7 }); { dev := d } : State), (let d : Dev := base; (Fin.ofNat 16 (d.free / 3))), by decide⟩,
    ⟨(let d : Dev := base; let d : Dev := (({ (sheetUp (chanUp (onAll d)) 3).put (F.SHT_Dd_STATE.state 3) 2 with memx := { d.memx with bad := [] } } : Dev)); let d : Dev := ((fr (ringQ d (Fin.ofNat 16 (d.free / 3)) 3 (decide (d.free % 2 = 0))) (decide (d.free % 2 = 0)) (⟨if d.free % 2 = 0 then 77 else 900, d.free % 3, d.free % 5 * 8, d.free % 7, d.free % 2, [(5, false), (6, false)]⟩ : RxFrame)).modDq (Fin.ofNat 16 (d.free / 3)) fun x => { x with frames := 1 + d.free % 2 }); let d : Dev := (d.modDq (Fin.ofNat 16 (d.free / 3)) fun x => { x with stall := d.now % 2 ^ 50 + 1 }); { dev := d } : State), (let d : Dev := base; (Fin.ofNat 16 (d.free / 3))), (let d : Dev := base; decide (d.free % 2 = 0)), (let d : Dev := base; (⟨if d.free % 2 = 0 then 77 else 900, d.free % 3, d.free % 5 * 8, d.free % 7, d.free % 2, [(5, false), (6, false)]⟩ : RxFrame)), ([] : List RxFrame), by decide⟩,
    ⟨(let q : Fin 16 := 1; let d : Dev := base; let d : Dev := (d.put (F.DMA_Qq_CFG.enable q) 0); { dev := onAll d } : State), (1 : Fin 16), (let cfg : Word32 := 5; (cfg &&& ~~~192#32) : Word32), by decide⟩,
    ⟨(let q : Fin 16 := 1; let d : Dev := base; let d : Dev := (d.put (F.DMA_Qq_CFG.enable q) 0); { dev := onAll d } : State), (1 : Fin 16), (let cfg : Word32 := 64#32; ((cfg &&& ~~~192#32) ||| (if cfg.getLsbD 0 then 64#32 else 128#32)) : Word32), by decide⟩,
    ⟨(let q : Fin 16 := 1; let d : Dev := base; let d : Dev := (d.put (F.DMA_Qq_CFG.enable q) 1); { dev := onAll d } : State), (1 : Fin 16), (5 : Word32), by decide⟩,
    ⟨(let q : Fin 16 := 1; let d : Dev := { base with free := 1 }; let d : Dev := ((chainQ d q (d.free % 6)).putDq q { pend := [] }); { dev := onAll d } : State), (1 : Fin 16), by decide⟩,
    ⟨(let d : Dev := base; let d : Dev := (onAll d); { dev := d } : State), by decide⟩,
    ⟨(let d : Dev := base; let d : Dev := (onAll d); { dev := d } : State), by decide⟩,
    ⟨(let q : Fin 16 := 1; let d : Dev := base; let d : Dev := (chainQ d q ([1, 4, 5].getD (d.free % 3) 0)); { dev := onAll d } : State), (1 : Fin 16), (5 : Word64), by decide⟩,
    ⟨(let q : Fin 16 := 1; let d : Dev := base; let d : Dev := (chainQ d q (d.free % 3 + 2)); { dev := onAll d } : State), (1 : Fin 16), by decide⟩,
    ⟨(let q : Fin 16 := 1; let d : Dev := base; let d : Dev := ((chainQ d q (d.free % 2 + 2)).modDq q fun x => { x with doneAt := 0 }); { dev := onAll d } : State), (1 : Fin 16), by decide⟩,
    ⟨(let q : Fin 16 := 1; let d : Dev := base; let d : Dev := ((chainQ d q (d.free % 4)).put (F.DMA_Qq_CFG.mode q) (d.free % 3)); let d : Dev := (d.modDq q fun x => { x with doneAt := 0 }); { dev := onAll d } : State), (1 : Fin 16), (5 : Word64), by decide⟩,
    ⟨(let q : Fin 16 := 1; let d : Dev := base; let d : Dev := ((List.range 16).foldl (fun d p => (chainQ d p 1).putDq p {}) d); let d : Dev := (chainQ { d.put F.DMA_CTRL.enable 1 with dmaLast := d.free % 16 } q 2); { dev := d } : State), (1 : Fin 16), by decide⟩,
    ⟨(let d : Dev := base; let d : Dev := (d.put F.DMA_CTRL.enable (d.free % 2)); { dev := d } : State), by decide⟩,
    ⟨(let q : Fin 16 := 1; let g : Bool := false; let f : RxFrame := ⟨900, 1, 0, 3, 1, [(5, false)]⟩; let f : RxFrame := ({ f with tag := 900, lines := f.lines % 2, plane := f.plane % 16, words := f.words.take 3, first := f.first % 65536 }); let d : Dev := base; let d : Dev := ((fr (ringQ { (List.range 32).foldl (fun d k => d.put (F.SHT_Dd_STATE.state k) 0) d with frd := { d.frd with cfg := { d.frd.cfg with role := { d.frd.cfg.role with grade := 1 } } } } q 3 g) g f).modDq q fun x => { x with frames := 1 }); { dev := d } : State), (1 : Fin 16), (false : Bool), (let f : RxFrame := ⟨900, 1, 0, 3, 1, [(5, false)]⟩; ({ f with tag := 900, lines := f.lines % 2, plane := f.plane % 16, words := f.words.take 3, first := f.first % 65536 }) : RxFrame), by decide⟩,
    ⟨(let q : Fin 16 := 1; let d : Dev := base; let d : Dev := (if d.free % 3 = 0 then chainQ d q 3 else ringQ d q 1 false); { dev := d } : State), (1 : Fin 16), by decide⟩,
    ⟨(let q : Fin 16 := 1; let d : Dev := base; let d : Dev := ((serve d q copyDesc 1 [(0x100, 5, false)]).modDq q fun x => { x with stall := if d.free % 2 = 0 then 0 else 7 }); { dev := d } : State), (1 : Fin 16), by decide⟩,
    ⟨(let q : Fin 16 := 1; let a : Nat := 64; let v : Nat := 99; let k := (3); let a := (8 * (a % 64)); let v := (v % 2 ^ 64); let d : Dev := base; let d : Dev := (sheetUp (chanUp (onAll d)) 3); let d : Dev := ((serve d q (copyDesc.set 3 (77 * 2 ^ 48) |>.set 2 (2 ^ 60 + 16)) 1 [(a, v, false)]).modDq q fun x => { x with stall := 7 }); let d : Dev := ((d.put F.MEM_INJECT_CTRL.arm 0).put (F.SHT_Dd_STATE.state k) 2); let d : Dev := ({ d with memx := { d.memx with bad := [] } }); { dev := d } : State), (1 : Fin 16), ((3) : Nat), (let a : Nat := 64; (8 * (a % 64)) : Nat), (let v : Nat := 99; (v % 2 ^ 64) : Nat), by decide⟩,
    ⟨(let q : Fin 16 := 1; let d : Dev := base; let d : Dev := ((serve d q copyDesc 1 [(0x100, 5, false)]).modDq q fun x => { x with stall := d.now % 2 ^ 50 + 1 }); let d : Dev := ({ d with evt := { d.evt with running := true } }); { dev := d } : State), (1 : Fin 16), by decide⟩⟩

theorem witness_DmaDescriptors :
    (∃ (s : State) (q : Fin 16) (words : List Word64), s.dev.ringMode q = none ∧ s.dev.qSt q = 3 ∧ (s.dev.dq q).fetch = 1 ∧ s.dev.descCheck (words.map (·.toNat)) (descOfWords (words.map (·.toNat))) = 0) ∧
    (∃ (s : State) (q : Fin 16) (words : List Word64), s.dev.ringMode q = none ∧ s.dev.qSt q = 3 ∧ (s.dev.dq q).fetch = 2) ∧
    (∃ (s : State) (q : Fin 16) (c : ReadCompletion), s.dev.ringMode q = none ∧ s.dev.qSt q = 3 ∧ (s.dev.dq q).fetch = 0 ∧ (s.dev.dq q).run = true ∧ s.dev.srcDone q (descOfWords (s.dev.dq q).desc) = false ∧ ((descOfWords (s.dev.dq q).desc).op = 0 ∨ (s.dev.openDesc (descOfWords (s.dev.dq q).desc).tag).isSome = true) ∧ c.status = .ok ∧ s.dev.memx.lost = false) ∧
    (∃ (s : State) (q : Fin 16), s.dev.ringMode q = none ∧ s.dev.qSt q = 3 ∧ (s.dev.dq q).run = true ∧ s.dev.srcDone q (descOfWords (s.dev.dq q).desc) = true ∧ (s.dev.dq q).pend = []) ∧
    (∃ (s : State) (q : Fin 16) (words : List Word64), s.dev.ringMode q = none ∧ s.dev.qSt q = 3 ∧ (s.dev.dq q).fetch = 1 ∧ s.dev.descCheck (words.map (·.toNat)) (descOfWords (words.map (·.toNat))) ≠ 0) ∧
    (∃ (s : State) (q : Fin 16) (a : Nat) (src : Nat) (len : Nat) (dst : Nat), s.dev.ringMode q = none ∧ s.dev.qSt q = 3 ∧ (s.dev.dq q).fetch = 1 ∧ 0 < len ∧ 8 * len + 8 * dst ≤ 2 ^ 30 ∧ 8 * src < 2 ^ 64 ∧ 64 * a < 2 ^ 63) ∧
    (∃ (s : State) (q : Fin 16) (words : List Word64), (s.dev.qSt q ≠ 3 ∨ (s.dev.dq q).fetch = 0)) ∧
    (∃ (s : State) (q : Fin 16) (x : Word64) (y : Word64) (got : Nat), s.dev.ringMode q = none ∧ s.dev.qSt q = 3 ∧ (s.dev.dq q).fetch = 0 ∧ (s.dev.dq q).run = true ∧ (s.dev.dq q).pend = [] ∧ (s.dev.dq q).got = got ∧ (descOfWords (s.dev.dq q).desc).op = 0 ∧ 8 * (got + 2) ≤ (descOfWords (s.dev.dq q).desc).len ∧ (descOfWords (s.dev.dq q).desc).dst % 8 = 0 ∧ s.dev.memx.lost = false ∧ s.dev.memx.bad = [] ∧ s.dev.on F.MEM_INJECT_CTRL.arm = false) ∧
    (∃ (s : State) (q : Fin 16) (c : ReadCompletion), s.dev.ringMode q = none ∧ s.dev.qSt q = 3 ∧ (s.dev.dq q).fetch = 0 ∧ (s.dev.dq q).run = true ∧ s.dev.srcDone q (descOfWords (s.dev.dq q).desc) = false ∧ c.status ≠ .ok) ∧
    (∃ (s : State) (q : Fin 16), s.dev.ringMode q = none ∧ s.dev.qSt q = 3 ∧ (s.dev.dq q).run = true ∧ s.dev.srcDone q (descOfWords (s.dev.dq q).desc) = true ∧ (s.dev.dq q).pend = [] ∧ (descOfWords (s.dev.dq q).desc).op = 0 ∧ (descOfWords (s.dev.dq q).desc).eoc = true ∧ s.dev.dmaHeld = false) ∧
    (∃ (s : State) (q : Fin 16), s.dev.ringMode q = none ∧ s.dev.qSt q = 3 ∧ (s.dev.dq q).run = true ∧ s.dev.srcDone q (descOfWords (s.dev.dq q).desc) = true ∧ (s.dev.dq q).pend = [] ∧ (descOfWords (s.dev.dq q).desc).op = 0 ∧ (descOfWords (s.dev.dq q).desc).eoc = false ∧ s.dev.dmaHeld = false ∧ (s.dev.dq q).desc.getD 0 0 < 2 ^ 64) ∧
    (∃ (s : State) (q : Fin 16), ((s.dev.dq q).run = false ∨ s.dev.srcDone q (descOfWords (s.dev.dq q).desc) = false ∨ (s.dev.dq q).pend ≠ [] ∨ s.dev.qSt q ≠ 3)) ∧
    (∃ (s : State) (q : Fin 16), s.dev.ringMode q = none ∧ s.dev.qSt q = 3 ∧ ((s.dev.dq q).fetch ≠ 0 ∨ ((s.dev.dq q).run = true ∧ s.dev.srcDone q (descOfWords (s.dev.dq q).desc) = false))) ∧
    (∃ (s : State) (r : Fin 16) (hi : Bool) (v : Word32), s.dev.direct (0x40080 + 8 * r + (if hi then 4 else 0))) :=
  ⟨⟨(let d : Dev := base; let d : Dev := ((chainQ ({ (sheetUp (chanUp (onAll d)) 3).put (F.SHT_Dd_STATE.state 3) 2 with memx := { d.memx with bad := [] } } : Dev) (Fin.ofNat 16 (d.free / 3)) 3).putDq (Fin.ofNat 16 (d.free / 3)) { fetch := 1 }); { dev := d } : State), (let d : Dev := base; (Fin.ofNat 16 (d.free / 3))), (let d : Dev := base; if d.free % 2 = 0 then [0x1001#64, 0x2000#64, 16#64 + 2#64 ^ 58, 0#64, 0x100#64, 0#64] else [1#64, 0x2000#64, 0#64 + 2#64 ^ 60 + 1#64 <<< 48 + 16#64, 77#64 <<< 48, 0#64, 0#64]), by decide⟩,
    ⟨(let d : Dev := base; let d : Dev := ((chainQ d (Fin.ofNat 16 (d.free / 3)) 3).putDq (Fin.ofNat 16 (d.free / 3)) { fetch := 2 }); let d : Dev := (d.put (F.DMA_Qq_STATUS.append_count (Fin.ofNat 16 (d.free / 3))) (d.free % 3)); { dev := d } : State), (let d : Dev := base; (Fin.ofNat 16 (d.free / 3))), (let d : Dev := base; [BitVec.ofNat 64 d.free]), by decide⟩,
    ⟨(let d : Dev := base; let d : Dev := (({ (sheetUp (chanUp (onAll d)) 3).put (F.SHT_Dd_STATE.state 3) 2 with memx := { d.memx with bad := [] } } : Dev)); let d : Dev := (serve d (Fin.ofNat 16 (d.free / 3)) (if d.free % 2 = 0 then [0x1001, 0x2000, 2 ^ 57 + 2 ^ 58 + 16, 0, 0x100, 0] else [0x1001, 0x2000, 2 ^ 60 + 2 ^ 48 + 16, 77 * 2 ^ 48, 0, 0]) 0 []); { dev := d } : State), (let d : Dev := base; (Fin.ofNat 16 (d.free / 3))), (let d : Dev := base; ⟨.ok, List.replicate (d.free % 4) 5#64⟩), by decide⟩,
    ⟨(let d : Dev := base; let d : Dev := (({ (sheetUp (chanUp (onAll d)) 3).put (F.SHT_Dd_STATE.state 3) 2 with memx := { d.memx with bad := [] } } : Dev)); let d : Dev := ((serve d (Fin.ofNat 16 (d.free / 3)) (if d.free % 2 = 0 then [0x1000 + d.free % 3, 0x2000, 2 ^ 57 + 2 ^ 58 + 16, 0, 0x100, 0] else [0x1000 + d.free % 3, 0x2000, 2 ^ 60 + 2 ^ 57 + 2 ^ 48 + 16, 77 * 2 ^ 48 + 2 ^ 16, 0, 0]) 2 []).put (F.DMA_Qq_STATUS.append_count (Fin.ofNat 16 (d.free / 3))) (d.free / 5 % 2)); { dev := d } : State), (let d : Dev := base; (Fin.ofNat 16 (d.free / 3))), by decide⟩,
    ⟨(let q : Fin 16 := 1; let d : Dev := base; let d : Dev := ((chainQ d q 3).putDq q { fetch := 1 }); { dev := d } : State), (1 : Fin 16), (let s : State := { dev := base }; let words : List Word64 := [3#64, 0#64, 0#64, 0#64, 0#64, 0#64]; (if s.dev.free % 2 = 0 then words.take 6 else [1#64, 0x2000#64, 16#64, 7#64 <<< 48, 0#64, 0#64]) : List Word64), by decide⟩,
    ⟨(let q : Fin 16 := 1; let d : Dev := base; let d : Dev := ((chainQ d q 3).putDq q { fetch := 1 }); { dev := d } : State), (1 : Fin 16), (let a : Nat := 1; (a % 1000) : Nat), (let src : Nat := 1; (src % 2 ^ 40) : Nat), (let len : Nat := 1; (len % 100 + 1) : Nat), (let dst : Nat := 1; (dst % 1000) : Nat), by decide⟩,
    ⟨(let q : Fin 16 := 1; let d : Dev := base; let d : Dev := ((chainQ d q (d.free % 4)).modDq q fun x => { x with fetch := d.free % 2 }); { dev := d } : State), (1 : Fin 16), ([] : List Word64), by decide⟩,
    ⟨(let q : Fin 16 := 1; let got := (0); let d : Dev := base; let d : Dev := (serve d q copyDesc got []); let d : Dev := (d.put F.MEM_INJECT_CTRL.arm 0); let d : Dev := ({ d with memx := { d.memx with bad := [] } }); { dev := d } : State), (1 : Fin 16), (5#64 : Word64), (6#64 : Word64), ((0) : Nat), by decide⟩,
    ⟨(let q : Fin 16 := 1; let d : Dev := base; let d : Dev := (serve d q copyDesc 0 []); { dev := d } : State), (1 : Fin 16), (⟨.abort, []⟩ : ReadCompletion), by decide⟩,
    ⟨(let q : Fin 16 := 1; let d : Dev := base; let d : Dev := ((serve d q copyDesc 2 []).modDq q fun x => { x with reread := false }); let d : Dev := (d.put (F.DMA_Qq_STATUS.append_count q) (d.free % 2)); { dev := d } : State), (1 : Fin 16), by decide⟩,
    ⟨(let q : Fin 16 := 1; let d : Dev := base; let d : Dev := ((serve d q (copyDesc.set 0 0x1000) 2 []).modDq q fun x => { x with reread := false }); { dev := d } : State), (1 : Fin 16), by decide⟩,
    ⟨(let q : Fin 16 := 1; let d : Dev := base; let d : Dev := ((serve d q copyDesc (d.free % 3) []).modDq q fun x => { x with run := d.free % 2 = 0 }); { dev := d } : State), (1 : Fin 16), by decide⟩,
    ⟨(let q : Fin 16 := 1; let d : Dev := base; let d : Dev := (if d.free % 2 = 0 then serve d q copyDesc 0 [] else (chainQ d q 3).putDq q { fetch := 1 }); { dev := d } : State), (1 : Fin 16), by decide⟩,
    ⟨(let d : Dev := base; let d : Dev := (onAll d); { dev := d } : State), (let d : Dev := base; (Fin.ofNat 16 d.free) : Fin 16), (let d : Dev := base; (decide (d.free % 3 = 0)) : Bool), (let d : Dev := base; (BitVec.ofNat 32 (d.free * 4096)) : BitVec 32), by decide⟩⟩

end Sys2Proof.Tests.Dma

namespace Sys2Proof.Tests.Tmp

def conv (d : Dev) (x : Nat) (rest : List Nat) : Dev :=
  let d := (d.put (F.TMP_Ss_CFG.enable x) 1).put (F.TMP_Ss_CFG.cut_en x) 0
  let d := { d with tmp := { d.tmp with conv := x :: rest, start := d.now, pub := 2 ^ 24 - 1 }, evt := { d.evt with running := true }, frd := { d.frd with cfg := { d.frd.cfg with sens := [] } } }
  let d := (List.range 8).foldl (fun d n => { d with ch := Store.set {} d.ch n { (Store.get {} d.ch n : ChSt) with dark := false } }) d
  let d := (List.range 24).foldl (fun d k => d.put (F.TMP_Ss_CFG.throttle_chan k) 0) d
  let d := d.put F.TMP_STATUS.cut_latched 0
  { d with tmp := { d.tmp with snap := d.tmpSnap x } }

def inPart (d : Dev) : Dev := { d with tmp := { d.tmp with skip := 0, snap := (d.tmp.snap.headD 0 % 2 ^ 31 + 2 ^ 31) :: d.tmp.snap.drop 1 } }

def okSensor (d : Dev) (x : Nat) : Dev := d.putBit F.TMP_FAULTED.sensors x false

theorem witness_Temperatures :
    (∃ (s : State) (x : Nat) (rest : List Nat) (code : BitVec 14) (onDie : Int), s.dev.tmp.conv = x :: rest ∧ x < 24 ∧ s.dev.evt.running = true ∧ s.dev.now < 2 ^ 62 ∧ s.dev.tmp.start < 2 ^ 62) ∧
    (∃ (s : State), s.dev.domOn 0 = true ∧ s.dev.evt.running = true ∧ s.dev.tmp.conv = [] ∧ s.dev.now < 2 ^ 62 ∧ s.dev.tmp.bound < 2 ^ 40) ∧
    (∃ (s : State), (s.dev.evt.running = false ∨ s.dev.domOn 0 = false ∨ s.dev.tmp.conv ≠ [])) ∧
    (∃ (s : State) (x : Nat) (rest : List Nat) (code : BitVec 14) (onDie : Int), s.dev.tmp.conv = x :: rest ∧ x < 24 ∧ s.dev.evt.running = true ∧ s.dev.now < 2 ^ 62 ∧ s.dev.tmp.start < 2 ^ 62 ∧ takesPart s.dev x ∧ s.dev.faulted x = false ∧ s.dev.cfg.sens = [] ∧ bit (s.dev.tmp.snap.getD 0 0) 30 = false ∧ s.dev.on F.TMP_STATUS.cut_latched = false ∧ (∀ (k : Nat), k < 24 → s.dev.get (F.TMP_Ss_CFG.throttle_chan k) = 0) ∧ (∀ (n : Nat), n < 8 → (Store.get {} s.dev.ch n).dark = false) ∧ 16 < code.toNat ∧ code.toNat < 16367) ∧
    (∃ (s : State) (x : Nat) (rest : List Nat) (code : BitVec 14) (onDie : Int), s.dev.tmp.conv = x :: rest ∧ x < 24 ∧ s.dev.evt.running = true ∧ s.dev.now < 2 ^ 62 ∧ s.dev.tmp.start < 2 ^ 62 ∧ takesPart s.dev x ∧ s.dev.faulted x = false ∧ s.dev.cfg.sens = [] ∧ bit (s.dev.tmp.snap.getD 0 0) 30 = false ∧ s.dev.on F.TMP_STATUS.cut_latched = false ∧ (∀ (k : Nat), k < 24 → s.dev.get (F.TMP_Ss_CFG.throttle_chan k) = 0) ∧ (∀ (n : Nat), n < 8 → (Store.get {} s.dev.ch n).dark = false) ∧ (code.toNat ≤ 16 ∨ 16367 ≤ code.toNat)) ∧
    (∃ (s : State) (x : Nat) (rest : List Nat) (code : BitVec 14) (onDie : Int), s.dev.tmp.conv = x :: rest ∧ x < 24 ∧ s.dev.evt.running = true ∧ s.dev.now < 2 ^ 62 ∧ s.dev.tmp.start < 2 ^ 62 ∧ takesPart s.dev x ∧ s.dev.faulted x = true ∧ s.dev.cfg.sens = [] ∧ bit (s.dev.tmp.snap.getD 0 0) 30 = false ∧ s.dev.on F.TMP_STATUS.cut_latched = false ∧ (∀ (k : Nat), k < 24 → s.dev.get (F.TMP_Ss_CFG.throttle_chan k) = 0) ∧ (∀ (n : Nat), n < 8 → (Store.get {} s.dev.ch n).dark = false) ∧ 16 < code.toNat ∧ code.toNat < 16367) ∧
    (∃ (s : State) (code : BitVec 14) (onDie : Int), s.dev.tmp.conv = []) ∧
    (∃ (s : State), s.dev.direct R.TMP_CMD.off) :=
  ⟨⟨(let x : Nat := 9; let rest : List Nat := [10]; let d : Dev := base; let x := if d.free % 2 = 0 then 3 else x; let d : Dev := (conv d x rest); let d : Dev := (d.putBit F.TMP_FAULTED.sensors x (d.free % 3 = 0)); let d : Dev := ({ d with tmp := { d.tmp with badN := Store.set 0 d.tmp.badN x (d.free % 5), goodN := Store.set 0 d.tmp.goodN x (d.free % 5) } }); { dev := d } : State), (let d : Dev := base; if d.free % 2 = 0 then 3 else 9 : Nat), ([10] : List Nat), (let d : Dev := base; BitVec.ofNat 14 (if d.free % 4 = 0 then 16380 else d.free % 16384) : BitVec 14), (let d : Dev := base; ((d.free % 200 : Nat) : Int) - 60 : Int), by decide⟩,
    ⟨(let d : Dev := base; let d : Dev := ({ onAll d with evt := { d.evt with running := true }, tmp := { d.tmp with conv := [], bound := d.tmp.bound % 2 ^ 30 } }); let d : Dev := (d.wr R.EVT_TIME (d.now % 2 ^ 60)); { dev := d } : State), by decide⟩,
    ⟨(let d : Dev := base; let d : Dev := ({ d with evt := { d.evt with running := false } }); { dev := d } : State), by decide⟩,
    ⟨(let x : Nat := 9; let rest : List Nat := [10]; let x := (x % 24); let d : Dev := base; let d : Dev := (okSensor (conv d x rest) x); { dev := inPart d } : State), (let x : Nat := 9; (x % 24) : Nat), ([10] : List Nat), (let code : BitVec 14 := 2000; (17#14 + (BitVec.ofNat 14 (code.toNat % 16350))) : BitVec 14), (5 : Int), by decide⟩,
    ⟨(let x : Nat := 9; let rest : List Nat := [10]; let x := (x % 24); let d : Dev := base; let d : Dev := (okSensor (conv d x rest) x); let d : Dev := ({ d with tmp := { d.tmp with badN := Store.set 0 d.tmp.badN x (d.free % 5) } }); { dev := inPart d } : State), (let x : Nat := 9; (x % 24) : Nat), ([10] : List Nat), (let code : BitVec 14 := 5; (BitVec.ofNat 14 (code.toNat % 34 + 16367)) : BitVec 14), (5 : Int), by decide⟩,
    ⟨(let x : Nat := 9; let rest : List Nat := [10]; let x := (x % 24); let d : Dev := base; let d : Dev := ((conv d x rest).putBit F.TMP_FAULTED.sensors x true); let d : Dev := ({ d with tmp := { d.tmp with goodN := Store.set 0 d.tmp.goodN x (d.free % 4) } }); { dev := inPart d } : State), (let x : Nat := 9; (x % 24) : Nat), ([10] : List Nat), (let code : BitVec 14 := 2000; (17#14 + (BitVec.ofNat 14 (code.toNat % 16350))) : BitVec 14), (5 : Int), by decide⟩,
    ⟨(let d : Dev := base; let d : Dev := ({ d with tmp := { d.tmp with conv := [] } }); { dev := d } : State), (5 : BitVec 14), (1 : Int), by decide⟩,
    ⟨(let d : Dev := base; let d : Dev := (onAll d); { dev := d } : State), by decide⟩⟩

theorem witness_MemoryErrors :
    (∃ (s : State) (n : Fin 8) (w : Nat), (s.mem.syn (w % 2 ^ 27) = 0 ∨ s.dev.memx.lost = true)) ∧
    (∃ (s : State) (n : Fin 8) (w : Nat), s.dev.memx.lost = false ∧ (s.mem.syn (w % 2 ^ 27) ∈ hColumns ∨ s.mem.syn (w % 2 ^ 27) ∈ [1, 2, 4, 8, 16, 32, 64, 128])) ∧
    (∃ (s : State) (n : Fin 8) (w : Nat) (syn : Byte), s.dev.memx.lost = false ∧ s.mem.syn (w % 2 ^ 27) = syn.toNat ∧ syn.toNat ∉ [0, 1, 2, 4, 8, 16, 32, 64, 128] ∧ syn.toNat ∉ hColumns) ∧
    (∃ (s : State), s.dev.on F.MEM_SCRUB_CFG.enable = true ∧ s.dev.domOn 1 = true ∧ s.dev.memx.lost = false ∧ s.mem.syn s.dev.memx.scrub = 0) ∧
    (∃ (s : State) (j : Nat), s.dev.on F.MEM_SCRUB_CFG.enable = true ∧ s.dev.domOn 1 = true ∧ s.dev.memx.lost = false ∧ s.dev.on F.MEM_INJECT_CTRL.arm = false ∧ s.dev.memx.bad = [] ∧ j < 64 ∧ s.mem.syn s.dev.memx.scrub = hColumns.getD j 0 ∧ s.dev.memx.scrub + 1 < 2 ^ 27) ∧
    (∃ (s : State), (s.dev.on F.MEM_SCRUB_CFG.enable = false ∨ s.dev.domOn 1 = false ∨ s.dev.memx.lost = true)) ∧
    (∃ (s : State), reached s.dev R.MEM_INJECT_CTRL.off) :=
  ⟨⟨(let w : Nat := 1; let d : Dev := base; let d : Dev := ({ d with memx := { d.memx with lost := d.memx.lost && d.free % 2 == 0 } }); let s : State := { dev := d }; ({ s with mem := s.mem.setWord (w % 2 ^ 27) 77 0 }) : State), (1 : Fin 8), (1 : Nat), by decide⟩,
    ⟨(let w : Nat := 1; let d : Dev := base; let d : Dev := ({ d with memx := { d.memx with lost := false } }); let s : State := { dev := d }; ({ s with mem := s.mem.setSyn (w % 2 ^ 27) (hColumns.getD (s.dev.free % 70) 4) }) : State), (1 : Fin 8), (1 : Nat), by decide⟩,
    ⟨(let s : State := { dev := base }; let w : Nat := 5; let syn := (BitVec.ofNat 8 ([3, 5, 255, 7].getD (s.dev.free % 4) 254)); let d : Dev := base; let d : Dev := ({ d with memx := { d.memx with lost := false } }); let s : State := { dev := d }; ({ s with mem := s.mem.setSyn (w % 2 ^ 27) syn.toNat }) : State), (1 : Fin 8), (5 : Nat), (let s : State := { dev := base }; (BitVec.ofNat 8 ([3, 5, 255, 7].getD (s.dev.free % 4) 254)) : Byte), by decide⟩,
    ⟨(let d : Dev := base; let d : Dev := ((onAll d).put F.MEM_SCRUB_CFG.enable 1); let d : Dev := ({ d with memx := { d.memx with lost := false, scrub := if d.free % 2 = 0 then 2 ^ 27 - 1 else d.memx.scrub } }); let s : State := { dev := d }; ({ s with mem := s.mem.setSyn s.dev.memx.scrub 0 }) : State), by decide⟩,
    ⟨(let j : Nat := 1; let j := (j % 64); let d : Dev := base; let d : Dev := ((onAll d).put F.MEM_SCRUB_CFG.enable 1); let d : Dev := ({ d.put F.MEM_INJECT_CTRL.arm 0 with memx := { d.memx with lost := false, scrub := d.memx.scrub % 2 ^ 26, bad := [] } }); let s : State := { dev := d }; ({ s with mem := s.mem.setSyn s.dev.memx.scrub (hColumns.getD j 0) }) : State), (let j : Nat := 1; (j % 64) : Nat), by decide⟩,
    ⟨(let d : Dev := base; let d : Dev := (d.put F.MEM_SCRUB_CFG.enable (d.free % 2)); { dev := d } : State), by decide⟩,
    ⟨(let d : Dev := base; let d : Dev := (onAll d); { dev := d } : State), by decide⟩⟩

end Sys2Proof.Tests.Tmp

namespace Sys2Proof.Tests.Chan1

def chAt (d : Dev) (n : Nat) : Dev :=
  { onAll d with frd := { d.frd with cfg := { d.frd.cfg with role := { d.frd.cfg.role with grade := 0 }, chans := [{ channel := n, beams := 2, inputFormat := 0, blMode := 0, facets := 3, pixels := 40, polygonAxis := 1 }] } } }

def single (d : Dev) : Dev := { d with frd := { d.frd with cfg := { d.frd.cfg with role := { d.frd.cfg.role with grade := 0 } } } }

def noCh (d : Dev) : Dev := { onAll d with frd := { d.frd with cfg := { d.frd.cfg with chans := [] } } }

def idle (d : Dev) (n : Nat) : Dev := d.modCh n fun c => { c with desc := none, latches := [], dropped := false, dark := false, gapPend := false }

def gridOn (d : Dev) (n : Nat) : Dev :=
  let d := (d.wr (R.CHn_SCT_REF_TIME n) (1000 + d.free % 100)).wr (R.CHn_SCT_FACET_PERIOD n) (65536 * 5000)
  let d := (d.activate (R.CHn_SCT_REF_TIME n)).activate (R.CHn_SCT_FACET_PERIOD n)
  { d with evt := { d.evt with running := true } }

theorem witness_Screening :
    (∃ (s : State) (n : Fin 8) (k : Nat) (sc : Nat) (lo : Nat) (hi : Nat) (rest : List (Nat × Nat × Nat)) (bad : List (Nat × Nat)), (s.dev.chS n).screenQ = (sc, lo, hi) :: rest ∧ (s.dev.chS n).desc = some k ∧ (s.dev.chan n).isSome = true) ∧
    (∃ (s : State) (n : Fin 8) (m : Bool), s.dev.on (F.CHn_SCR_STATUS.probe_busy n) = true ∧ s.dev.chanB n ≠ 0) ∧
    (∃ (s : State) (n : Fin 8) (w : Nat), s.dev.domOn (4 + n) = true ∧ (decodeWord (s.dev.tw (tableWordOff n w)) (Store.get 0#8 s.dev.tblChk (tableWordOff n w)).toNat).2 = .corrected) ∧
    (∃ (s : State) (n : Fin 8) (w : Nat), s.dev.domOn (4 + n) = true) ∧
    (∃ (s : State) (n : Fin 8), (s.dev.chS n).digestDue = true) ∧
    (∃ (s : State) (n : Fin 8) (v : Word64), reached s.dev (R.CHn_SCR_PROBE_IN n).off) ∧
    (∃ (s : State) (n : Fin 8) (m : Bool), s.dev.on (F.CHn_SCR_STATUS.probe_busy n) = true ∧ s.dev.chanB n = 0) ∧
    (∃ (s : State) (n : Fin 8) (k : Nat) (sc : Nat) (lo : Nat) (hi : Nat) (rest : List (Nat × Nat × Nat)), (s.dev.chS n).screenQ = (sc, lo, hi) :: rest ∧ (s.dev.chS n).desc = some k ∧ (s.dev.chan n).isSome = true ∧ s.dev.faultyWords n = [] ∧ lo ≤ hi) ∧
    (∃ (s : State) (n : Fin 8) (k : Nat) (sc : Nat) (lo : Nat) (j : Nat), (s.dev.chS n).screenQ = [(sc, lo, lo)] ∧ (s.dev.chS n).desc = some k ∧ (s.dev.chan n).isSome = true ∧ s.dev.faultyWords n = [] ∧ j < (s.dev.pixelsOf n + 15) / 16) ∧
    (∃ (s : State) (n : Fin 8), (s.dev.chS n).screenQ = []) :=
  ⟨⟨(let n : Fin 8 := 1; let sc : Nat := 2; let lo : Nat := 1; let hi : Nat := 2; let rest : List (Nat × Nat × Nat) := []; let k := (3); let lo := (lo % 5); let hi := (lo + hi % 3); let sc := (sc % 9); let d : Dev := base; let d : Dev := ((chAt d n).modCh n fun c => { c with screenQ := (sc, lo, hi) :: rest, desc := some k, sq := { c.sq with lines := 9, under := none } }); let d : Dev := (({ d with active := [], memx := { d.memx with lost := false } }).put (F.SHT_Dd_LINES.input_lines k) 9); { dev := d } : State), (1 : Fin 8), ((3) : Nat), (let sc : Nat := 2; (sc % 9) : Nat), (let lo : Nat := 1; (lo % 5) : Nat), (let lo : Nat := 1; let hi : Nat := 2; let lo := (lo % 5); (lo + hi % 3) : Nat), ([] : List (Nat × Nat × Nat)), (let d : Dev := base; [(2, 0), (1, 99), (d.free % 5, d.free % 3)]), by decide⟩,
    ⟨(let d : Dev := base; let d : Dev := ((chAt d 1).put (F.CHn_SCR_STATUS.probe_busy 1) 1); let d : Dev := (({ d with active := [], frd := { d.frd with cfg := { d.frd.cfg with chans := d.frd.cfg.chans.map fun c => { c with inputFormat := 2 + d.free % 3 } } } } : Dev)); { dev := d } : State), (1 : Fin 8), (let d : Dev := base; decide (d.free % 2 = 0)), by decide⟩,
    ⟨(let n : Fin 8 := 1; let w : Nat := 1; let d : Dev := { base with free := 1 }; let d : Dev := ({ onAll d with tblChk := Store.set 0#8 d.tblChk (tableWordOff n w) (BitVec.ofNat 8 ((0 :: 1 :: hColumns).getD (d.free % 66) 0)) }); { dev := d } : State), (1 : Fin 8), (1 : Nat), by decide⟩,
    ⟨(let n : Fin 8 := 1; let w : Nat := 1; let d : Dev := base; let d : Dev := ({ onAll d with tblChk := Store.set 0#8 d.tblChk (tableWordOff n w) (BitVec.ofNat 8 ([3, 5, 6, 0].getD (d.free % 4) 0)), tblMark := [] }); { dev := d } : State), (1 : Fin 8), (1 : Nat), by decide⟩,
    ⟨(let n : Fin 8 := 1; let d : Dev := base; let d : Dev := (d.modCh n fun c => { c with digestDue := true }); { dev := d } : State), (1 : Fin 8), by decide⟩,
    ⟨(let n : Fin 8 := 1; let d : Dev := base; let d : Dev := ((onAll d).put (F.CHn_SCR_STATUS.probe_busy n) (d.free % 2)); { dev := d } : State), (1 : Fin 8), (5 : Word64), by decide⟩,
    ⟨(let d : Dev := base; let d : Dev := ((chAt d 1).put (F.CHn_SCR_STATUS.probe_busy 1) 1); let d : Dev := ({ d with active := [] }); { dev := d } : State), (1 : Fin 8), (let d : Dev := base; (d.free % 2 = 0) : Bool), by decide⟩,
    ⟨(let n : Fin 8 := 1; let sc : Nat := 2; let lo : Nat := 1; let hi : Nat := 2; let rest : List (Nat × Nat × Nat) := []; let k := (3); let lo := (lo % 5); let hi := (lo + hi % 3); let sc := (sc % 9); let d : Dev := base; let d : Dev := ((chAt d n).modCh n fun c => { c with screenQ := (sc, lo, hi) :: rest, desc := some k, sq := { c.sq with lines := 9, under := none } }); let d : Dev := (({ d with active := [], tblChk := [], memx := { d.memx with lost := false } }).put (F.SHT_Dd_LINES.input_lines k) 9); { dev := d } : State), (1 : Fin 8), ((3) : Nat), (let sc : Nat := 2; (sc % 9) : Nat), (let lo : Nat := 1; (lo % 5) : Nat), (let lo : Nat := 1; let hi : Nat := 2; let lo := (lo % 5); (lo + hi % 3) : Nat), ([] : List (Nat × Nat × Nat)), by decide⟩,
    ⟨(let n : Fin 8 := 1; let sc : Nat := 2; let lo : Nat := 1; let k := (3); let lo := (lo % 5); let sc := (sc % 9); let d : Dev := base; let d : Dev := ((chAt d n).modCh n fun c => { c with screenQ := [(sc, lo, lo)], desc := some k, sq := { c.sq with lines := 9, under := none } }); let d : Dev := (({ d with active := [], tblChk := [], memx := { d.memx with lost := false } }).put (F.SHT_Dd_LINES.input_lines k) 9); { dev := d } : State), (1 : Fin 8), ((3) : Nat), (let sc : Nat := 2; (sc % 9) : Nat), (let lo : Nat := 1; (lo % 5) : Nat), (let j : Nat := 1; (j % 3) : Nat), by decide⟩,
    ⟨(let n : Fin 8 := 1; let d : Dev := base; let d : Dev := (d.modCh n fun c => { c with screenQ := [] }); { dev := d } : State), (1 : Fin 8), by decide⟩⟩

theorem witness_ScanTiming :
    (∃ (s : State) (n : Fin 8) (t64 : Nat) (rising : Bool), s.dev.bdSelected n rising = true ∧ s.dev.domOn (4 + n) = true ∧ s.dev.evt.running = true ∧ s.dev.now < 2 ^ 62 ∧ t64 < 2 ^ 62) ∧
    (∃ (s : State) (n : Fin 8), s.dev.sctRuns n = true ∧ s.dev.now < 2 ^ 62 ∧ s.dev.slotT n (s.dev.chS n).judged < 2 ^ 61) ∧
    (∃ (s : State) (n : Fin 8), s.dev.direct (R.CHn_SCT_CTRL n).off) ∧
    (∃ (s : State) (n : Fin 8), s.dev.direct (R.CHn_SCT_CTRL n).off) ∧
    (∃ (s : State) (n : Fin 8) (t64 : Nat) (k : Nat) (rising : Bool), s.dev.bdSelected n rising = true ∧ s.dev.sctRuns n = true ∧ s.dev.sctSt n ≠ 3 ∧ (s.dev.chS n).judged = k ∧ 65536 * s.dev.gridRef n ≤ t64 * 1024 + s.dev.gridP n / 2 ∧ s.dev.bdSlot n t64 = some k ∧ s.dev.now < 2 ^ 62 ∧ t64 < 2 ^ 62) ∧
    (∃ (s : State) (n : Fin 8) (t64 : Nat) (k : Nat) (rising : Bool), s.dev.bdSelected n rising = true ∧ s.dev.sctRuns n = true ∧ s.dev.sctSt n = 3 ∧ (s.dev.chS n).judged = k ∧ 65536 * s.dev.gridRef n ≤ t64 * 1024 + s.dev.gridP n / 2 ∧ s.dev.bdSlot n t64 = some k ∧ 64 * s.dev.slotT n k ≤ t64 + 64 * max 1 (s.dev.get (F.CHn_SCT_CTRL.bd_window n)) ∧ t64 ≤ 64 * (s.dev.slotT n k + max 1 (s.dev.get (F.CHn_SCT_CTRL.bd_window n))) ∧ s.dev.now < 2 ^ 62 ∧ t64 < 2 ^ 62) ∧
    (∃ (s : State) (n : Fin 8) (t64 : Nat) (k : Nat) (rising : Bool), s.dev.bdSelected n rising = true ∧ s.dev.sctRuns n = true ∧ s.dev.sctSt n = 3 ∧ (s.dev.chS n).judged = k ∧ 65536 * s.dev.gridRef n ≤ t64 * 1024 + s.dev.gridP n / 2 ∧ s.dev.bdSlot n t64 = some k ∧ (t64 + 64 * max 1 (s.dev.get (F.CHn_SCT_CTRL.bd_window n)) < 64 * s.dev.slotT n k ∨ 64 * (s.dev.slotT n k + max 1 (s.dev.get (F.CHn_SCT_CTRL.bd_window n))) < t64) ∧ s.dev.now < 2 ^ 62 ∧ t64 < 2 ^ 62) ∧
    (∃ (s : State) (n : Fin 8) (t64 : Nat), s.dev.sctRuns n = true ∧ s.dev.sctSt n = 1 ∧ (s.dev.chS n).edge = some ((s.dev.chS n).judged, t64) ∧ t64 < 2 ^ 62 ∧ s.dev.now < 2 ^ 62 ∧ s.dev.slotT n (s.dev.chS n).judged < 2 ^ 61) ∧
    (∃ (s : State) (n : Fin 8), s.dev.sctRuns n = true ∧ s.dev.sctSt n = 3 ∧ (s.dev.chS n).edge = none ∧ s.dev.now < 2 ^ 62 ∧ s.dev.slotT n (s.dev.chS n).judged < 2 ^ 61) ∧
    (∃ (s : State) (n : Fin 8) (period : Bool) (v : Word64), s.dev.direct (R.CHn_SCT_REF_TIME n).off ∧ (s.dev.chS n).desc = none) ∧
    (∃ (s : State) (n : Fin 8) (period : Bool) (v : Word64) (m : Word32), s.dev.direct (R.CHn_SCT_REF_TIME n).off ∧ (s.dev.chS n).desc ≠ none ∧ s.dev.idleStart = false) ∧
    (∃ (s : State) (n : Fin 8) (m : Word32), s.dev.direct (R.CHn_PXS_FREQ n).off ∧ (s.dev.chS n).desc = none ∧ s.dev.warned = false) :=
  ⟨⟨(let d : Dev := base; let d : Dev := ((gridOn (noCh d) 1).put (F.CHn_SCT_STATUS.state 1) (d.free % 4)); let d : Dev := (d.modCh 1 fun c => { c with judged := 3 + d.free % 4 }); let d : Dev := (d.wr R.EVT_TIME (d.now % 2 ^ 50)); { dev := d } : State), (1 : Fin 8), (let d : Dev := base; 1089000 + d.free % 5000000), true, by decide⟩,
    ⟨(let d : Dev := base; let d : Dev := (single (gridOn (onAll d) 1)); let d : Dev := (d.put (F.CHn_SCT_STATUS.state 1) (1 + d.free % 3)); let d : Dev := (d.modCh 1 fun c => { c with judged := 3 + d.free % 4, edge := if d.free % 2 = 0 then none else some (3 + d.free % 5, 1089000 + d.free % 500000) }); let d : Dev := (d.wr R.EVT_TIME (d.now % 2 ^ 50)); { dev := d } : State), (1 : Fin 8), by decide⟩,
    ⟨(let n : Fin 8 := 1; let d : Dev := base; let d : Dev := (single ((gridOn (onAll d) n).put (F.CHn_SCT_STATUS.state n) (d.free % 2 * 3))); { dev := d } : State), (1 : Fin 8), by decide⟩,
    ⟨(let d : Dev := base; let d : Dev := (single (onAll d)); { dev := d } : State), (1 : Fin 8), by decide⟩,
    ⟨(let n : Fin 8 := 1; let d : Dev := base; let d : Dev := ((gridOn (noCh d) n).put (F.CHn_SCT_STATUS.state n) 1); let d : Dev := (d.modCh n fun c => { c with judged := 3 + d.free % 4, edge := if d.free % 2 = 0 then none else some (3 + d.free % 4, 1080000 + d.free % 300000) }); let d : Dev := (d.wr R.EVT_TIME (d.now % 2 ^ 50)); { dev := d } : State), (1 : Fin 8), (let s : State := { dev := base }; let n : Fin 8 := 1; let t64 : Nat := 1089000; let k : Nat := 3; let k := (3 + k % 5); let t64 := (64 * s.dev.slotT n k + t64 % 5000); let d : Dev := base; let d : Dev := ((gridOn (noCh d) n).put (F.CHn_SCT_STATUS.state n) 1); let d : Dev := (d.modCh n fun c => { c with judged := 3 + d.free % 4, edge := if d.free % 2 = 0 then none else some (3 + d.free % 4, 1080000 + d.free % 300000) }); let d : Dev := (d.wr R.EVT_TIME (d.now % 2 ^ 50)); let s : State := { dev := d }; let k := (3 + s.dev.free % 4); (64 * s.dev.slotT n k + t64 % 5000) : Nat), (let n : Fin 8 := 1; let d : Dev := base; let d : Dev := ((gridOn (noCh d) n).put (F.CHn_SCT_STATUS.state n) 1); let d : Dev := (d.modCh n fun c => { c with judged := 3 + d.free % 4, edge := if d.free % 2 = 0 then none else some (3 + d.free % 4, 1080000 + d.free % 300000) }); let d : Dev := (d.wr R.EVT_TIME (d.now % 2 ^ 50)); let s : State := { dev := d }; (3 + s.dev.free % 4) : Nat), (true : Bool), by decide⟩,
    ⟨(let n : Fin 8 := 1; let d : Dev := base; let d : Dev := (single (gridOn (onAll d) n)); let d : Dev := ({ d.put (F.CHn_SCT_STATUS.state n) 3 with frd := { d.frd with cfg := { d.frd.cfg with chans := if d.free % 2 = 0 then [] else [{ channel := 1, polygonAxis := 2 }] } } }); let d : Dev := ((d.modCh n fun c => { c with judged := 3 + d.free % 4, edge := none, outN := d.free % 5 }).put (F.CHn_SCT_CTRL.bd_window n) 60); let d : Dev := (d.wr R.EVT_TIME (d.now % 2 ^ 50)); { dev := d } : State), (1 : Fin 8), (let n : Fin 8 := 1; let t64 : Nat := 1089000; let d : Dev := base; let d : Dev := (single (gridOn (onAll d) n)); let d : Dev := ({ d.put (F.CHn_SCT_STATUS.state n) 3 with frd := { d.frd with cfg := { d.frd.cfg with chans := if d.free % 2 = 0 then [] else [{ channel := 1, polygonAxis := 2 }] } } }); let d : Dev := ((d.modCh n fun c => { c with judged := 3 + d.free % 4, edge := none, outN := d.free % 5 }).put (F.CHn_SCT_CTRL.bd_window n) 60); let d : Dev := (d.wr R.EVT_TIME (d.now % 2 ^ 50)); let s : State := { dev := d }; let k := (3 + s.dev.free % 4); (64 * s.dev.slotT n k + t64 % 3840) : Nat), (let n : Fin 8 := 1; let d : Dev := base; let d : Dev := (single (gridOn (onAll d) n)); let d : Dev := ({ d.put (F.CHn_SCT_STATUS.state n) 3 with frd := { d.frd with cfg := { d.frd.cfg with chans := if d.free % 2 = 0 then [] else [{ channel := 1, polygonAxis := 2 }] } } }); let d : Dev := ((d.modCh n fun c => { c with judged := 3 + d.free % 4, edge := none, outN := d.free % 5 }).put (F.CHn_SCT_CTRL.bd_window n) 60); let d : Dev := (d.wr R.EVT_TIME (d.now % 2 ^ 50)); let s : State := { dev := d }; (3 + s.dev.free % 4) : Nat), (true : Bool), by decide⟩,
    ⟨(let n : Fin 8 := 1; let d : Dev := base; let d : Dev := (single (gridOn (onAll d) n)); let d : Dev := ({ d.put (F.CHn_SCT_STATUS.state n) 3 with frd := { d.frd with cfg := { d.frd.cfg with chans := [] } } }); let d : Dev := ((d.modCh n fun c => { c with judged := 3 + d.free % 4, edge := none, outN := d.free % 3 }).put (F.CHn_SCT_CTRL.bd_window n) 60); let d : Dev := (d.wr R.EVT_TIME (d.now % 2 ^ 50)); { dev := d } : State), (1 : Fin 8), (let n : Fin 8 := 1; let t64 : Nat := 1089000; let d : Dev := base; let d : Dev := (single (gridOn (onAll d) n)); let d : Dev := ({ d.put (F.CHn_SCT_STATUS.state n) 3 with frd := { d.frd with cfg := { d.frd.cfg with chans := [] } } }); let d : Dev := ((d.modCh n fun c => { c with judged := 3 + d.free % 4, edge := none, outN := d.free % 3 }).put (F.CHn_SCT_CTRL.bd_window n) 60); let d : Dev := (d.wr R.EVT_TIME (d.now % 2 ^ 50)); let s : State := { dev := d }; let k := (3 + s.dev.free % 4); (64 * s.dev.slotT n k + 3900 + t64 % 3000) : Nat), (let n : Fin 8 := 1; let d : Dev := base; let d : Dev := (single (gridOn (onAll d) n)); let d : Dev := ({ d.put (F.CHn_SCT_STATUS.state n) 3 with frd := { d.frd with cfg := { d.frd.cfg with chans := [] } } }); let d : Dev := ((d.modCh n fun c => { c with judged := 3 + d.free % 4, edge := none, outN := d.free % 3 }).put (F.CHn_SCT_CTRL.bd_window n) 60); let d : Dev := (d.wr R.EVT_TIME (d.now % 2 ^ 50)); let s : State := { dev := d }; (3 + s.dev.free % 4) : Nat), (true : Bool), by decide⟩,
    ⟨(let n : Fin 8 := 1; let d : Dev := base; let d : Dev := (single (gridOn (onAll d) n)); let d : Dev := (((d.put (F.CHn_SCT_STATUS.state n) 1).put (F.CHn_SCT_STATUS.lock_count n) (62 + d.free % 3)).put (F.CHn_SCT_CTRL.lock_tol n) 4000); let d : Dev := (d.modCh n fun c => { c with judged := 3, edge := some (3, 64 * d.slotT n 3 + d.free % 5000) }); let d : Dev := (d.wr R.EVT_TIME (d.now % 2 ^ 50)); { dev := d } : State), (1 : Fin 8), (let n : Fin 8 := 1; let d : Dev := base; let d : Dev := (single (gridOn (onAll d) n)); 64 * d.slotT n 3 + d.free % 5000), by decide⟩,
    ⟨(let n : Fin 8 := 1; let d : Dev := base; let d : Dev := (single (gridOn (onAll d) n)); let d : Dev := ({ d.put (F.CHn_SCT_STATUS.state n) 3 with frd := { d.frd with cfg := { d.frd.cfg with chans := [] } } }); let d : Dev := ((d.modCh n fun c => { c with judged := 3 + d.free % 4, edge := none, missN := d.free % 6 }).put (F.CHn_SCT_CTRL.miss_limit n) 5); let d : Dev := (d.wr R.EVT_TIME (d.now % 2 ^ 50)); { dev := d } : State), (1 : Fin 8), by decide⟩,
    ⟨(let n : Fin 8 := 1; let d : Dev := base; let d : Dev := (single (idle (gridOn (onAll d) n) n)); { dev := d } : State), (1 : Fin 8), (true : Bool), (5 : Word64), by decide⟩,
    ⟨(let n : Fin 8 := 1; let d : Dev := base; let d : Dev := (single ((gridOn (onAll d) n).modCh n fun c => { c with desc := some 3 })); { dev := d.put F.PWR_STATUS.pfail_active 0 } : State), (1 : Fin 8), (true : Bool), (5 : Word64), (5 : Word32), by decide⟩,
    ⟨(let n : Fin 8 := 1; let d : Dev := base; let d : Dev := (single (idle (onAll d) n)); { dev := d.put F.PWR_STATUS.pfail_active 0 } : State), (1 : Fin 8), (let s : State := { dev := base }; let n : Fin 8 := 1; let m : Word32 := 5; (if s.dev.free % 2 = 0 then m else BitVec.ofNat 32 (s.dev.act (R.CHn_PXS_FREQ n) + s.dev.free % 100)) : Word32), by decide⟩⟩

end Sys2Proof.Tests.Chan1

namespace Sys2Proof.Tests.Chan2

def chAt (d : Dev) (n mode : Nat) : Dev :=
  { onAll d with frd := { d.frd with cfg := { d.frd.cfg with role := { d.frd.cfg.role with grade := 0 }, chans := [{ channel := n, beams := 2, inputFormat := 0, blMode := mode, facets := 3, pixels := 40, polygonAxis := 1, gateFlags := 7, dinInterlock := 4, blLanes := 2 }] } } }

def gridOn (d : Dev) (n : Nat) : Dev :=
  let d := (d.wr (R.CHn_SCT_REF_TIME n) 1000).wr (R.CHn_SCT_FACET_PERIOD n) (65536 * 5000)
  let d := (d.activate (R.CHn_SCT_REF_TIME n)).activate (R.CHn_SCT_FACET_PERIOD n)
  let d := { d with evt := { d.evt with running := true }, ready := [], active := d.active.filter fun p => p.1 % 0x20000 ≥ 0x3000 ∧ p.1 % 0x20000 < 0x3100 ∨ p.1 = (R.CHn_SCT_REF_TIME n).off ∨ p.1 = (R.CHn_SCT_FACET_PERIOD n).off }
  (d.putB F.SYS_STRAPS.pers false).modCh n fun c => { c with desc := none, next := none, slot := 4, sent := 4, dark := false, gapPend := false, latches := [] }

theorem witness_ScanSequence :
    (∃ (s : State) (f : Firing) (n : Nat) (k : Nat), s.dev.actionHit 8 f.target = false ∧ n = f.target ∧ n < 8 ∧ s.dev.descOf f.tag = some k ∧ s.dev.shtState k = 3 ∧ n ∈ s.dev.sheetChans k ∧ (s.dev.chan n).isSome = true ∧ bit (s.dev.get (F.SHT_Dd_CHAN.started k)) n = false ∧ s.dev.gridP n ≠ 0 ∧ s.dev.domOn (4 + n) = true) ∧
    (∃ (s : State) (f : Firing) (n : Nat) (k : Nat), s.dev.actionHit 8 f.target = false ∧ f.late = false ∧ n = f.target ∧ n < 8 ∧ s.dev.persC = false ∧ s.dev.descOf f.tag = some k ∧ s.dev.shtState k = 3 ∧ n ∈ s.dev.sheetChans k ∧ (s.dev.chan n).isSome = true ∧ bit (s.dev.get (F.SHT_Dd_CHAN.started k)) n = false ∧ bit (s.dev.get (F.SHT_Dd_CHAN.ended k)) n = false ∧ s.dev.gridP n ≠ 0 ∧ s.dev.domOn (4 + n) = true ∧ s.dev.isReady (R.CHn_SCR_COMMIT n) = false ∧ (s.dev.firstSlot n f.delivered).2.2 = false ∧ (s.dev.chS n).slot ≠ (s.dev.firstSlot n f.delivered).1) ∧
    (∃ (s : State) (f : Firing) (n : Nat), s.dev.actionHit 8 f.target = false ∧ f.late = false ∧ n = f.target ∧ s.dev.descOf f.tag = none) ∧
    (∃ (s : State) (n : Fin 8), s.dev.idleStart = false ∧ (s.dev.domOn (4 + n) = false ∨ s.dev.chan n = none ∨ s.dev.gridP n = 0 ∨ s.dev.evt.running = false)) ∧
    (∃ (s : State) (n : Fin 8), s.dev.warned = false ∧ s.dev.domOn (4 + n) = true ∧ (s.dev.chan n).isSome = true ∧ s.dev.gridP n ≠ 0 ∧ s.dev.evt.running = true ∧ s.dev.now < 2 ^ 62 ∧ s.dev.slotT n (s.dev.chS n).slot < 2 ^ 62 ∧ (s.dev.chS n).slot < 2 ^ 48) ∧
    (∃ (s : State) (n : Fin 8), s.dev.warned = false ∧ s.dev.domOn (4 + n) = true ∧ (s.dev.chan n).isSome = true ∧ s.dev.gridP n ≠ 0 ∧ s.dev.evt.running = true ∧ (s.dev.chS n).desc = none ∧ (s.dev.chS n).next = none ∧ s.dev.port n ≠ 6 ∧ s.dev.isReady (R.CHn_PLC_COMMIT n) = false ∧ s.dev.now < 2 ^ 62 ∧ s.dev.slotT n (s.dev.chS n).slot < 2 ^ 62 ∧ (s.dev.chS n).slot < 2 ^ 48) ∧
    (∃ (s : State) (n : Fin 8) (k : Nat) (c : Chan), s.dev.warned = false ∧ s.dev.domOn (4 + n) = true ∧ s.dev.chan n = some c ∧ s.dev.gridP n ≠ 0 ∧ s.dev.evt.running = true ∧ (s.dev.chS n).desc = some k ∧ (s.dev.chS n).next = none ∧ (s.dev.chS n).dropped = false ∧ s.dev.shtState k = 3 ∧ (s.dev.chS n).sq.last = none ∧ (s.dev.chS n).sq.req = 0 ∧ (s.dev.chS n).sq.k0 ≤ (s.dev.chS n).slot + 1 ∧ (s.dev.chS n).sq.b0 < (s.dev.chS n).sq.lines ∧ (s.dev.chS n).sq.b = (s.dev.chS n).sq.b0 ∧ 0 < (s.dev.chS n).sq.lines ∧ inputLine c ((s.dev.chS n).sq.lines - 1) < s.dev.get (F.SHT_Dd_FILLn.lines k n) ∧ s.dev.port n < 5 ∧ s.dev.isReady (R.CHn_PLC_COMMIT n) = false ∧ s.dev.now < 2 ^ 62 ∧ s.dev.slotT n (s.dev.chS n).slot < 2 ^ 62) ∧
    (∃ (s : State) (n : Fin 8) (k : Nat), s.dev.warned = false ∧ s.dev.domOn (4 + n) = true ∧ (s.dev.chan n).isSome = true ∧ s.dev.persC = false ∧ s.dev.gridP n ≠ 0 ∧ s.dev.evt.running = true ∧ (s.dev.chS n).desc = some k ∧ (s.dev.chS n).next = none ∧ (s.dev.chS n).dropped = false ∧ (s.dev.chS n).gapPend = false ∧ (s.dev.chS n).reqEnd = false ∧ s.dev.shtState k = 3 ∧ s.dev.on (F.SHT_Dd_STATE.exit_seen k) = false ∧ bit (s.dev.get (F.SHT_Dd_CHAN.ended k)) n = false ∧ (s.dev.chS n).sq.last.isSome = true ∧ s.dev.port n < 5 ∧ s.dev.isReady (R.CHn_PLC_COMMIT n) = false ∧ s.dev.now < 2 ^ 62 ∧ s.dev.slotT n (s.dev.chS n).slot < 2 ^ 62) :=
  ⟨⟨(let n := (1); let k := (3); let d : Dev := base; let d : Dev := (gridOn (chAt (sheetUp (engineUp d) k) n 2) n); let d : Dev := (({ d with flt := { d.flt with hitSlot := 0 } }.put (F.SHT_Dd_STATE.state k) 3).put (F.SHT_Dd_CHAN.started k) 0); let d : Dev := (((d.wr (R.SHT_Dd_CHAN k) 0).modCh n fun c => { c with desc := none, slot := 1 }).put (F.CHn_PLC_IMAGE_DELAY.ticks n) 15000); let d : Dev := (d.activate (R.CHn_PLC_IMAGE_DELAY n)); { dev := d } : State), (let f : Firing := ⟨5, 1, 0, 77, 20000, false, false⟩; let n := (1); ({ f with target := n, tag := 77, late := f.delivered % 2 = 0, delivered := 20000 + f.delivered % 100000 }) : Firing), ((1) : Nat), ((3) : Nat), by decide⟩,
    ⟨(let n := (1); let k := (3); let d : Dev := base; let d : Dev := (gridOn (chAt (sheetUp (engineUp d) k) n 2) n); let d : Dev := (({ d with flt := { d.flt with hitSlot := 0 } }.put (F.SHT_Dd_STATE.state k) 3).put (F.SHT_Dd_CHAN.started k) 0); let d : Dev := (((d.wr (R.SHT_Dd_CHAN k) 0).modCh n fun c => { c with desc := none, slot := 1 }).put (F.CHn_PLC_IMAGE_DELAY.ticks n) 15000); let d : Dev := (d.activate (R.CHn_PLC_IMAGE_DELAY n)); { dev := d } : State), (let f : Firing := ⟨5, 1, 0, 77, 20000, false, false⟩; let n := (1); ({ f with target := n, tag := 77, late := false, delivered := 20000 + f.delivered % 100000 }) : Firing), ((1) : Nat), ((3) : Nat), by decide⟩,
    ⟨(let d : Dev := base; let d : Dev := (({ d with flt := { d.flt with hitSlot := 0 }, frd := { d.frd with cfg := { d.frd.cfg with chans := [] } } }).putB F.SYS_STRAPS.pers false); let d : Dev := ({ d with regs := d.regs.filter fun p => !(0x34000 ≤ p.1 && p.1 < 0x38000) }); { dev := d } : State), (let s : State := { dev := base }; let f : Firing := ⟨5, 0, 1, 7, 100, false, false⟩; let n := (1); ({ f with target := n, tag := if s.dev.free % 2 = 0 then 0 else 77, late := false }) : Firing), ((1) : Nat), by decide⟩,
    ⟨(let n : Fin 8 := 1; let d : Dev := base; let d : Dev := (if d.free % 2 = 0 then d.putBit F.PWR_DOMAINS.domains (4 + n) false else { d with evt := { d.evt with running := false } }); { dev := d } : State), (1 : Fin 8), by decide⟩,
    ⟨(let d : Dev := base; let d : Dev := (gridOn (chAt d 1 (d.free % 3)) 1); let d : Dev := ((d.wr R.EVT_TIME (d.now % 2 ^ 50)).put (F.CHn_SCT_STATUS.state 1) (d.free % 4)); { dev := d } : State), (1 : Fin 8), by decide⟩,
    ⟨(let n : Fin 8 := 1; let d : Dev := base; let d : Dev := (gridOn (chAt d n (d.free % 3)) n); let d : Dev := (((d.wr R.EVT_TIME (d.now % 2 ^ 40)).put (F.CHn_BLP_STATUS.state n) (if d.free % 4 = 0 then 4 else 5)).modCh n fun c => { c with slot := d.free % 9, sent := d.free % 7 }); { dev := d } : State), (1 : Fin 8), by decide⟩,
    ⟨(let n : Fin 8 := 1; let c : Chan := ((chAt base 1 2).chan 1).getD { channel := 0 }; let k := (3); let d : Dev := base; let d : Dev := (gridOn (chAt d n 2) n); let d : Dev := ((d.wr R.EVT_TIME (d.now % 2 ^ 40)).modCh n fun c => { c with slot := 4, desc := some k, sq := { tag := 9, k0 := 4 + d.free % 2, lines := 7, b0 := -1, b := -1, frac := d.free % 16 } }); let d : Dev := (((d.put (F.SHT_Dd_STATE.state k) 3).put (F.SHT_Dd_FILLn.lines k n) (900 + d.free % 9)).put (F.CHn_BLP_STATUS.state n) 0); { dev := d } : State), (1 : Fin 8), ((3) : Nat), (let n : Fin 8 := 1; let c : Chan := ((chAt base 1 2).chan 1).getD { channel := 0 }; let k := (3); let d : Dev := base; let d : Dev := (gridOn (chAt d n 2) n); let d : Dev := ((d.wr R.EVT_TIME (d.now % 2 ^ 40)).modCh n fun c => { c with slot := 4, desc := some k, sq := { tag := 9, k0 := 4 + d.free % 2, lines := 7, b0 := -1, b := -1, frac := d.free % 16 } }); let d : Dev := (((d.put (F.SHT_Dd_STATE.state k) 3).put (F.SHT_Dd_FILLn.lines k n) (900 + d.free % 9)).put (F.CHn_BLP_STATUS.state n) 0); (((d.chan n).getD { channel := 0 })) : Chan), by decide⟩,
    ⟨(let n : Fin 8 := 1; let k := (3); let d : Dev := base; let d : Dev := (gridOn (chAt d n 2) n); let d : Dev := ((d.wr R.EVT_TIME (d.now % 2 ^ 40)).modCh n fun c => { c with slot := 4, desc := some k, dropped := false, reqEnd := false, placed := d.free % 9, digestDue := d.free % 2 = 0, sq := { tag := 9, k0 := 1, lines := 7, b0 := -1, b := 7, last := some 3 } }); let d : Dev := (((((d.put (F.SHT_Dd_STATE.state k) 3).wr (R.SHT_Dd_CHAN k) 0).put (F.SHT_Dd_STATE.exit_seen k) 0).put (F.CHn_BLP_STATUS.state n) 0)); let d : Dev := ({ d with regs := d.regs.filter fun p => p.1 / 65536 ≠ R.TMP_THROTTLE.off / 65536 }); { dev := d } : State), (1 : Fin 8), ((3) : Nat), by decide⟩⟩

theorem witness_BeamLinkUnits :
    (∃ (s : State) (n : Fin 8), s.dev.domOn (4 + n) = true ∧ s.dev.gridP n ≠ 0 ∧ s.dev.evt.running = true ∧ s.dev.port n = 5 ∧ s.dev.on (F.CHn_FGT_STATUS.disabled n) = false ∧ (s.dev.chS n).sent ≤ (s.dev.chS n).slot ∧ (∀ sc ∈ (s.dev.chS n).next, (s.dev.chS n).screenQ.any (fun r => r.1 ≤ sc.s) = false)) ∧
    (∃ (s : State) (n : Fin 8), s.dev.domOn (4 + n) = true ∧ s.dev.gridP n ≠ 0 ∧ s.dev.evt.running = true ∧ s.dev.port n = 5 ∧ s.dev.on (F.CHn_FGT_STATUS.disabled n) = false ∧ (s.dev.chS n).sent ≤ (s.dev.chS n).slot ∧ (s.dev.chS n).next = none) ∧
    (∃ (s : State) (n : Fin 8) (sc : Scan), s.dev.domOn (4 + n) = true ∧ s.dev.gridP n ≠ 0 ∧ s.dev.evt.running = true ∧ s.dev.twin = false ∧ s.dev.port n = 5 ∧ s.dev.on (F.CHn_FGT_STATUS.disabled n) = false ∧ (s.dev.chS n).sent ≤ (s.dev.chS n).slot ∧ (s.dev.chS n).next = some sc ∧ (s.dev.chS n).dropped = false ∧ (s.dev.chS n).screenQ.any (fun r => r.1 ≤ sc.s) = false) ∧
    (∃ (s : State) (n : Fin 8), s.dev.port n ≠ 5) ∧
    (∃ (s : State) (n : Fin 8), s.dev.port n = 5 ∧ s.dev.on (F.CHn_FGT_STATUS.disabled n) = false ∧ (s.dev.chS n).marked < (s.dev.chS n).slot ∧ s.dev.evt.running = true ∧ s.dev.now < 2 ^ 62 ∧ s.dev.slotT n ((s.dev.chS n).slot - 1) < 2 ^ 62) ∧
    (∃ (s : State) (n : Fin 8), s.dev.port n = 5 ∧ s.dev.on (F.CHn_FGT_STATUS.disabled n) = false) ∧
    (∃ (s : State) (n : Fin 8), s.dev.port n = 3) ∧
    (∃ (s : State) (n : Fin 8), s.dev.port n ≠ 3) :=
  ⟨⟨(let n : Fin 8 := 1; let d : Dev := base; let d : Dev := (gridOn (chAt d n (d.free % 2)) n); let d : Dev := ((d.put (F.CHn_BLP_STATUS.state n) 5).put (F.CHn_FGT_STATUS.disabled n) 0); let d : Dev := (d.modCh n fun c => { c with next := some ⟨(d.free + 1) % 9, 3, false⟩, screenQ := [], codes := [] }); { dev := d } : State), (1 : Fin 8), by decide⟩,
    ⟨(let n : Fin 8 := 1; let d : Dev := base; let d : Dev := (gridOn (chAt d n (d.free % 2)) n); let d : Dev := ((d.put (F.CHn_BLP_STATUS.state n) 5).put (F.CHn_FGT_STATUS.disabled n) 0); { dev := d } : State), (1 : Fin 8), by decide⟩,
    ⟨(let n : Fin 8 := 1; let d : Dev := base; let d : Dev := (gridOn (chAt d n (d.free % 2)) n); let d : Dev := ((d.put (F.CHn_BLP_STATUS.state n) 5).put (F.CHn_FGT_STATUS.disabled n) 0); let d : Dev := (d.modCh n fun c => { c with next := some ⟨(d.free + 1) % 9, 3, false⟩, screenQ := [], dropped := false, codes := [] }); { dev := d } : State), (1 : Fin 8), (let n : Fin 8 := 1; let d : Dev := base; let d : Dev := (gridOn (chAt d n (d.free % 2)) n); let d : Dev := ((d.put (F.CHn_BLP_STATUS.state n) 5).put (F.CHn_FGT_STATUS.disabled n) 0); let d : Dev := (d.modCh n fun c => { c with next := some ⟨(d.free + 1) % 9, 3, false⟩, screenQ := [], dropped := false, codes := [] }); let s : State := { dev := d }; (⟨(s.dev.free + 1) % 9, 3, false⟩) : Scan), by decide⟩,
    ⟨(let n : Fin 8 := 1; let d : Dev := base; let d : Dev := ((gridOn (chAt d n 1) n).put (F.CHn_BLP_STATUS.state n) (d.free % 5)); { dev := d } : State), (1 : Fin 8), by decide⟩,
    ⟨(let n : Fin 8 := 1; let d : Dev := base; let d : Dev := (gridOn (chAt d n (d.free % 2)) n); let d : Dev := (((d.put (F.CHn_BLP_STATUS.state n) 5).put (F.CHn_FGT_STATUS.disabled n) 0).modCh n fun c => { c with marked := 3 }); let d : Dev := (d.wr R.EVT_TIME (d.now % 2 ^ 50)); { dev := d } : State), (1 : Fin 8), by decide⟩,
    ⟨(let n : Fin 8 := 1; let d : Dev := base; let d : Dev := ((chAt d n (d.free % 2)).put (F.CHn_BLP_STATUS.state n) 5); let d : Dev := ((d.put (F.CHn_FGT_STATUS.disabled n) 0).modCh n fun c => { c with permAt := d.sys.now8 - d.free % 2000 }); { dev := d } : State), (1 : Fin 8), by decide⟩,
    ⟨(let n : Fin 8 := 1; let d : Dev := base; let d : Dev := (((chAt d n 1).put (F.CHn_BLP_STATUS.state n) 3).modCh n fun c => { c with probe := d.free % 18, probeAt := d.sys.now8 - d.free % 300 }); { dev := d } : State), (1 : Fin 8), by decide⟩,
    ⟨(let n : Fin 8 := 1; let d : Dev := base; let d : Dev := (d.put (F.CHn_BLP_STATUS.state n) ([0, 1, 2, 4, 5, 6].getD (d.free % 6) 7)); { dev := d } : State), (1 : Fin 8), by decide⟩⟩

end Sys2Proof.Tests.Chan2

namespace Sys2Proof.Tests.Chan3

def chAt (d : Dev) (n mode : Nat) : Dev :=
  { onAll d with frd := { d.frd with cfg := { d.frd.cfg with role := { d.frd.cfg.role with grade := 0 }, chans := [{ channel := n, beams := 2, inputFormat := 0, blMode := mode, facets := 3, pixels := 40, polygonAxis := 1, gateFlags := 7, dinInterlock := 4, blLanes := 2 }] } } }

def ph8 (d : Dev) (b : Bool) : Dev := { d with sys := { d.sys with ph := Store.set 0 d.sys.ph 8 (if b then 1 else 2) } }

def portAt (d : Dev) (n mode st : Nat) : Dev := ((chAt d n mode).put (F.CHn_BLP_STATUS.state n) st).put (F.CHn_FGT_STATUS.disabled n) 0

def mkU (code : Nat) (b : List Nat) : List Byte := let l := [0x5C, code] ++ (b ++ [0, 0, 0, 0, 0]).take 5; (l ++ [crc8 l]).map (BitVec.ofNat 8)

theorem witness_LinkTraining :
    (∃ (s : State) (n : Fin 8) (u : List Byte), hears s.dev n ∧ ¬ ((unitBytes u).length = 8 ∧ (unitBytes u).getD 0 0 = 0x5C ∧ crc8 ((unitBytes u).take 7) = (unitBytes u).getD 7 0)) ∧
    (∃ (s : State) (n : Fin 8) (u : List Byte), hears s.dev n ∧ unitOk (unitBytes u) 1 ∧ s.dev.port n = 1 ∧ (s.dev.chS n).lostLoop = false ∧ s.dev.on (F.CHn_FGT_STATUS.disabled n) = false ∧ s.dev.helloBad n (unitBytes u) = none) ∧
    (∃ (s : State) (n : Fin 8) (u : List Byte), hears s.dev n ∧ unitOk (unitBytes u) 1 ∧ s.dev.port n = 1 ∧ (s.dev.chS n).lostLoop = false ∧ s.dev.on (F.CHn_FGT_STATUS.disabled n) = false ∧ (s.dev.helloBad n (unitBytes u)).isSome = true) ∧
    (∃ (s : State) (n : Fin 8) (u : List Byte), hears s.dev n ∧ unitOk (unitBytes u) 2 ∧ s.dev.port n = 2 ∧ s.dev.blMode n = 1) ∧
    (∃ (s : State) (n : Fin 8) (u : List Byte), hears s.dev n ∧ unitOk (unitBytes u) 2 ∧ s.dev.port n = 2 ∧ s.dev.blMode n = 0 ∧ (unitBytes u).getD 2 0 % 2 ^ s.dev.blLanes n = 2 ^ s.dev.blLanes n - 1 ∧ bit ((unitBytes u).getD 3 0) 0 = true ∧ (s.dev.chS n).helloN = 7) ∧
    (∃ (s : State) (n : Fin 8) (u : List Byte) (rtt : Nat), hears s.dev n ∧ unitOk (unitBytes u) 3 ∧ s.dev.port n = 3 ∧ (s.dev.chS n).rtt.length < (s.dev.chS n).probe ∧ (unitBytes u).getD 2 0 = (s.dev.chS n).rtt.length ∧ (s.dev.chS n).rtt.length < 15) ∧
    (∃ (s : State) (n : Fin 8) (u : List Byte) (rtt : Nat), hears s.dev n ∧ unitOk (unitBytes u) 3 ∧ s.dev.port n = 3 ∧ (s.dev.chS n).rtt.length = 15 ∧ (s.dev.chS n).probe = 16 ∧ (unitBytes u).getD 2 0 = 15) ∧
    (∃ (s : State) (n : Fin 8), s.dev.port n = 3) ∧
    (∃ (s : State) (n : Fin 8), s.dev.port n = 4 ∧ s.dev.outOfStep = false) ∧
    (∃ (s : State) (n : Fin 8), s.dev.port n = 4) ∧
    (∃ (s : State) (n : Fin 8), s.dev.port n < 3) :=
  ⟨⟨(let n : Fin 8 := 1; let d : Dev := base; let d : Dev := (portAt d n (d.free % 2) (1 + d.free % 6)); { dev := d } : State), (1 : Fin 8), (let s : State := { dev := base }; let u : List Byte := [1#8]; (if s.dev.free % 2 = 0 then u else mkU 1 [1] ++ [0#8]) : List Byte), by decide⟩,
    ⟨(let n : Fin 8 := 1; let d : Dev := base; let d : Dev := (portAt d n (d.free % 2) 1); let d : Dev := (d.modCh n fun c => { c with lostLoop := false, hello := if d.free % 3 = 0 then [] else (mkU 1 [3, 2, 8, 1, 2]).map (·.toNat), helloN := d.free % 9 }); { dev := d } : State), (1 : Fin 8), ((mkU 1 [3, 2, 8, 1, 2]) : List Byte), by decide⟩,
    ⟨(let n : Fin 8 := 1; let d : Dev := base; let d : Dev := (ph8 (portAt d n 0 1) (d.free % 3 = 0)); let d : Dev := (if d.free % 2 = 0 then { d with frd := { d.frd with cfg := { d.frd.cfg with role := { d.frd.cfg.role with grade := 1 } } } } else d); let d : Dev := (d.modCh n fun c => { c with lostLoop := false, hello := (mkU 1 [3, 2, [8, 1].getD (d.free % 2) 0, 1, 2]).map (·.toNat), helloN := 7 }); { dev := d } : State), (1 : Fin 8), (let s : State := { dev := base }; (mkU 1 [3, 2, [8, 1].getD (s.dev.free % 2) 0, 1, 2]) : List Byte), by decide⟩,
    ⟨(let n : Fin 8 := 1; let d : Dev := base; let d : Dev := (portAt d n 1 2); let d : Dev := (d.modCh n fun c => { c with helloN := d.free % 9 }); { dev := d } : State), (1 : Fin 8), (let s : State := { dev := base }; (mkU 2 [[3, 3, 3, 1].getD (s.dev.free % 4) 0, s.dev.free % 3]) : List Byte), by decide⟩,
    ⟨(let n : Fin 8 := 1; let d : Dev := base; let d : Dev := (ph8 (portAt d n 0 2) (d.free % 3 = 0)); let d : Dev := (d.modCh n fun c => { c with helloN := 7 }); let d : Dev := (if d.free % 2 = 0 then (d.wr (R.CHn_SCT_FACET_PERIOD n) (65536 * 9000)).activate (R.CHn_SCT_FACET_PERIOD n) else d); { dev := d } : State), (1 : Fin 8), ((mkU 2 [3, 1]) : List Byte), by decide⟩,
    ⟨(let n : Fin 8 := 1; let rtt : Nat := 3000; let rtt := (3000 + rtt % 5); let d : Dev := base; let d : Dev := (portAt d n 1 3); let d : Dev := (d.modCh n fun c => { c with probe := 16, rtt := List.replicate (d.free % 15) 3001 }); { dev := d } : State), (1 : Fin 8), (let s : State := { dev := base }; (mkU 3 [s.dev.free % 15]) : List Byte), (let rtt : Nat := 3000; (3000 + rtt % 5) : Nat), by decide⟩,
    ⟨(let n : Fin 8 := 1; let rtt : Nat := 3000; let rtt := (3000 + rtt % 7); let d : Dev := base; let d : Dev := (ph8 (portAt d n 1 3) (d.free % 2 = 0)); let d : Dev := ((d.modCh n fun c => { c with probe := 16, rtt := List.replicate 15 3001 }).put (F.CHn_BLP_HEAD.tau n) (d.free % 4000)); let d : Dev := (d.put (F.CHn_BLP_CTRL.flight_adj n) (d.free % 99)); { dev := d } : State), (1 : Fin 8), ((mkU 3 [15]) : List Byte), (let rtt : Nat := 3000; (3000 + rtt % 7) : Nat), by decide⟩,
    ⟨(let n : Fin 8 := 1; let d : Dev := base; let d : Dev := (ph8 (portAt d n 1 3) (d.free % 2 = 0)); let d : Dev := (d.modCh n fun c => { c with probe := 9, probeAt := d.sys.now8 - 300, rtt := List.replicate (d.free % 10) 3001 }); { dev := d } : State), (1 : Fin 8), by decide⟩,
    ⟨(let n : Fin 8 := 1; let d : Dev := base; let d : Dev := (portAt d n (d.free % 2) 4); { dev := d } : State), (1 : Fin 8), by decide⟩,
    ⟨(let n : Fin 8 := 1; let d : Dev := base; let d : Dev := (ph8 (portAt d n (d.free % 2) 4) (d.free % 3 = 0)); let d : Dev := (d.modCh n fun c => { c with probeAt := d.sys.now8 - d.free % 200000 }); { dev := d } : State), (1 : Fin 8), by decide⟩,
    ⟨(let n : Fin 8 := 1; let d : Dev := base; let d : Dev := (portAt d n (d.free % 2) (d.free % 3)); { dev := d } : State), (1 : Fin 8), by decide⟩⟩

theorem witness_LinkBackChannel :
    (∃ (s : State) (n : Fin 8) (u : List Byte), hears s.dev n ∧ unitOk (unitBytes u) 4) ∧
    (∃ (s : State) (n : Fin 8) (u : List Byte), hears s.dev n ∧ unitOk (unitBytes u) 5) ∧
    (∃ (s : State) (v : Word32), s.dev.direct R.BLK_CMD.off ∧ s.dev.twin = false) ∧
    (∃ (s : State) (n : Fin 8) (u : List Byte), hears s.dev n ∧ unitOk (unitBytes u) 4 ∧ (unitBytes u).getD 2 0 % 8 = 0 ∧ bit ((unitBytes u).getD 2 0) 5 = false ∧ s.dev.get (F.CHn_BLP_HEAD_STATUS.flags n) = 0 ∧ s.dev.on (F.CHn_FGT_STATUS.ilk_head n) = false) ∧
    (∃ (s : State) (n : Fin 8) (u : List Byte), hears s.dev n ∧ unitOk (unitBytes u) 5 ∧ (unitBytes u).getD 2 0 % 8 = 0 ∧ bit ((unitBytes u).getD 2 0) 5 = true ∧ (s.dev.port n = 5 ∨ s.dev.port n = 6) ∧ s.dev.chan n ≠ none ∧ s.dev.on (F.CHn_FGT_STATUS.ilk_head n) = false) ∧
    (∃ (s : State) (n : Fin 8), (s.dev.port n = 5 ∨ s.dev.port n = 6) ∧ s.dev.blMode n < 2) ∧
    (∃ (s : State) (v : Word32) (n : Nat), s.dev.direct R.BLK_CMD.off ∧ s.dev.twin = false ∧ n < 8 ∧ v.toNat % 256 = 2 ^ n ∧ s.dev.blMode n < 2 ∧ s.dev.port n ≠ 0 ∧ s.dev.port n ≠ 6) :=
  ⟨⟨(let d : Dev := base; let d : Dev := (portAt d 1 (d.free % 2) (1 + d.free % 6)); { dev := d } : State), (1 : Fin 8), (let d : Dev := base; mkU 4 [d.free % 64, 7, 1, d.free % 256, 0]), by decide⟩,
    ⟨(let d : Dev := base; let d : Dev := (portAt d 1 (d.free % 2) (1 + d.free % 6)); { dev := d } : State), (1 : Fin 8), (let d : Dev := base; mkU 5 [d.free % 64, 7, 1, d.free % 256, 0]), by decide⟩,
    ⟨(let d : Dev := base; let d : Dev := (ph8 (portAt d 3 0 ([1, 2, 3, 4, 5, 7].getD (d.free % 6) 0)) (d.free % 5 = 0)); let d : Dev := (({ d with frd := { d.frd with cfg := { d.frd.cfg with role := { d.frd.cfg.role with grade := 0 } } } } : Dev)); let d : Dev := (({ d with frd := { d.frd with cfg := { d.frd.cfg with chans := d.frd.cfg.chans ++ d.frd.cfg.chans.map fun c => { c with channel := (c.channel + 1) % 8 } } } } : Dev)); { dev := d } : State), (let d : Dev := base; BitVec.ofNat 32 (8 + d.free % 256 + d.free % 2 * 0x8000)), by decide⟩,
    ⟨(let n : Fin 8 := 1; let d : Dev := base; let d : Dev := (portAt d n (d.free % 2) 5); let d : Dev := ({ (d.put (F.CHn_BLP_HEAD_STATUS.flags n) 0).put (F.CHn_FGT_STATUS.ilk_head n) 0 with frd := { d.frd with cfg := { d.frd.cfg with chans := d.frd.cfg.chans.map fun c => { c with gateFlags := 0 } } } }); { dev := d } : State), (1 : Fin 8), (let s : State := { dev := base }; (mkU 4 [[0, 8, 0x18].getD (s.dev.free % 3) 0, 7, 1, s.dev.free % 256, 0]) : List Byte), by decide⟩,
    ⟨(let n : Fin 8 := 1; let d : Dev := base; let d : Dev := ((portAt d n (d.free % 2) (5 + d.free % 2)).put (F.CHn_BLP_HEAD_STATUS.flags n) 0); let d : Dev := ({ d with frd := { d.frd with cfg := { d.frd.cfg with chans := d.frd.cfg.chans.map fun c => { c with gateFlags := 0 } } } }); let d : Dev := (d.put (F.CHn_BLP_COUNTS.gaps n) (d.free % 256)); { dev := d } : State), (1 : Fin 8), (let s : State := { dev := base }; (mkU 5 [0x20, 7, 1, s.dev.free % 256, 0]) : List Byte), by decide⟩,
    ⟨(let n : Fin 8 := 1; let d : Dev := base; let d : Dev := ((portAt d n (d.free % 2) (5 + d.free % 2)).modCh n fun c => { c with bcAt := d.sys.now8 - d.free % 4000 }); { dev := d } : State), (1 : Fin 8), by decide⟩,
    ⟨(let d : Dev := base; let d : Dev := (ph8 (portAt d 3 0 ([1, 2, 3, 4, 5, 7].getD (d.free % 6) 0)) (d.free % 5 = 0)); let d : Dev := (if d.free % 3 = 0 then (d.put (F.SHT_Dd_STATE.state 2) 2).wr (R.SHT_Dd_HEAD 2) (77 * 65536 + 8 * 256) else { d with regs := d.regs.filter fun p => !(0x34000 ≤ p.1 && p.1 < 0x38000) }); { dev := d } : State), (let s : State := { dev := base }; (8#32 + (if s.dev.free % 2 = 0 then 0x8000#32 else 0#32)) : Word32), ((3) : Nat), by decide⟩⟩

end Sys2Proof.Tests.Chan3

namespace Sys2Proof.Tests.Chan4

def chAt (d : Dev) (n mode : Nat) : Dev :=
  { onAll d with frd := { d.frd with cfg := { d.frd.cfg with role := { d.frd.cfg.role with grade := 0 }, chans := [{ channel := n, beams := 2, inputFormat := 0, blMode := mode, facets := 3, pixels := 40, polygonAxis := 1, gateFlags := 7, dinInterlock := 4, blLanes := 2 }] } } }

def portAt (d : Dev) (n mode st : Nat) : Dev := ((chAt d n mode).put (F.CHn_BLP_STATUS.state n) st).put (F.CHn_FGT_STATUS.disabled n) 0

/-- A permit that closes on request. -/
def permitUp (d : Dev) (n mode : Nat) : Dev :=
  let d := ((portAt d n mode 5).put (F.CHn_PXS_STATUS.locked n) 1).put (F.BLD_AXa_STATUS.at_speed 1) 1
  let d := ((d.put F.SYS_HOST_STATE.state 0).put (F.CHn_FGT_STATUS.ilk_head n) 0).put F.FRD_STATUS.state 5
  let d := d.modCh n fun c => { c with latches := [], dropped := false, dark := false, desc := none, tripUn := false, tripSt := false }
  { (d.putInp (128 + 2) { (d.inpS (128 + 2)) with qual := true }) with host := { d.host with estop := true }, sys := { d.sys with cut := false } }

def gated (d : Dev) (n : Nat) : Dev := ((d.put (F.CHn_FGT_CTRL.permit_req n) 1).gate n).putB F.SYS_STRAPS.pers false

def noSheets (d : Dev) : Dev := { d with regs := d.regs.filter fun p => !(0x34000 ≤ p.1 && p.1 < 0x38000) }

def reactBy (d : Dev) (src : Nat) (on : Bool) : Dev := { d.put F.FRD_STATUS.state 5 with frd := { d.frd with cfg := { d.frd.cfg with reacts := [{ source := src, reactions := if on then 1 else 0 }] } } }

theorem witness_FiringGate :
    (∃ (s : State) (n : Fin 8) (force : Bool), s.dev.warned = false ∧ s.dev.direct (R.CHn_FGT_CMD n).off ∧ s.dev.twin = false ∧ (s.dev.chan n).isSome = true ∧ s.dev.domOn (4 + n) = true) ∧
    (∃ (s : State) (n : Fin 8) (k : Nat), s.dev.warned = false ∧ s.dev.dinNamed n k = true ∧ k < 32 ∧ s.dev.dinLevel k = true ∧ n.val ∈ s.dev.chansInUse) ∧
    (∃ (s : State) (n : Fin 8), s.dev.warned = false ∧ n.val ∈ s.dev.chansInUse ∧ (match s.dev.chan n with | some c => bit c.gateFlags 0 | none => false) = true ∧ s.dev.host.estop = true) ∧
    (∃ (s : State) (n : Fin 8), s.dev.wdRuns n = true ∧ (s.dev.chS n).tripUn = false) ∧
    (∃ (s : State) (n : Fin 8), s.dev.wdRuns n = true ∧ s.dev.blMode n = 2 ∧ (s.dev.chS n).tripSt = false) ∧
    (∃ (s : State) (n : Fin 8) (v : Bool), s.dev.direct (R.CHn_FGT_CTRL n).off ∧ s.dev.twin = false ∧ (s.dev.chS n).desc = none) ∧
    (∃ (s : State) (n : Fin 8) (k : Nat), s.dev.direct (R.CHn_FGT_CTRL n).off ∧ s.dev.twin = false ∧ (s.dev.chS n).desc = some k ∧ s.dev.shtState k = 3 ∧ (s.dev.chS n).dropped = false) ∧
    (∃ (s : State) (n : Fin 8) (force : Bool), s.dev.idleStart = false ∧ s.dev.direct (R.CHn_FGT_CMD n).off ∧ s.dev.twin = false ∧ (s.dev.chan n).isSome = true ∧ s.dev.domOn (4 + n) = true ∧ (∀ k ∈ List.range 32, s.dev.shtState k ≠ 2 ∧ s.dev.shtState k ≠ 3)) ∧
    (∃ (s : State) (n : Fin 8) (k : Nat), s.dev.warned = false ∧ s.dev.direct (R.CHn_FGT_CMD n).off ∧ s.dev.twin = false ∧ s.dev.persC = false ∧ (s.dev.chan n).isSome = true ∧ s.dev.domOn (4 + n) = true ∧ s.dev.shtState k = 3 ∧ (∀ j ∈ List.range 32, j ≠ k → s.dev.shtState j ≠ 2 ∧ s.dev.shtState j ≠ 3) ∧ n.val ∈ s.dev.sheetChans k ∧ bit (s.dev.get (F.SHT_Dd_CHAN.ended k)) n = false ∧ s.dev.on (F.SHT_Dd_STATE.exit_seen k) = false ∧ (s.dev.chS n).desc = none) ∧
    (∃ (s : State) (n : Fin 8), s.dev.direct (R.CHn_FGT_CMD n).off ∧ s.dev.twin = false) ∧
    (∃ (s : State) (n : Fin 8) (k : Nat), s.dev.warned = false ∧ s.dev.dinNamed n k = true ∧ k < 32 ∧ s.dev.dinLevel k = true ∧ s.dev.chansInUse = [n.val]) ∧
    (∃ (s : State) (n : Fin 8), s.dev.idleStart = false ∧ (s.dev.headNamed n = false ∨ s.dev.on (F.CHn_FGT_STATUS.ilk_head n) = true)) ∧
    (∃ (s : State) (n : Fin 8), s.dev.warned = false ∧ s.dev.headNamed n = true ∧ s.dev.on (F.CHn_FGT_STATUS.ilk_head n) = false) ∧
    (∃ (s : State) (n : Fin 8), s.dev.warned = false ∧ s.dev.chansInUse = [n.val] ∧ (match s.dev.chan n with | some c => bit c.gateFlags 0 | none => false) = true) ∧
    (∃ (s : State) (n : Fin 8), s.dev.wdRuns n = true ∧ s.dev.persC = false ∧ (s.dev.chS n).tripUn = false ∧ s.dev.evt.running = true ∧ s.dev.now < 2 ^ 62 ∧ (s.dev.chS n).wdFrom < 2 ^ 62) ∧
    (∃ (s : State) (n : Fin 8), s.dev.wdRuns n = true ∧ s.dev.persC = false ∧ s.dev.blMode n = 2 ∧ (s.dev.chS n).tripSt = false) ∧
    (∃ (s : State) (n : Fin 8), s.dev.blMode n = 2) ∧
    (∃ (s : State) (n : Fin 8), ((s.dev.chS n).tripSt = true ∨ s.dev.blMode n ≠ 2)) ∧
    (∃ (s : State) (n : Fin 8), s.dev.idleStart = false ∧ s.dev.on (F.CHn_FGT_STATUS.permit n) = false) :=
  ⟨⟨(let d : Dev := base; let d : Dev := (gated (permitUp d 1 (d.free % 3)) 1); let d : Dev := (d.put (F.CHn_BLP_STATUS.state 1) ([5, 0, 7, 3].getD (d.free % 4) 0)); { dev := d } : State), (1 : Fin 8), (let d : Dev := base; decide (d.free % 3 = 0)), by decide⟩,
    ⟨(let n : Fin 8 := 1; let d : Dev := base; let d : Dev := (let d : Dev := reactBy (gated (permitUp d n (d.free % 3)) n) 36 (d.free % 3 ≠ 0); ({ d with frd := { d.frd with cfg := { d.frd.cfg with chans := d.frd.cfg.chans ++ d.frd.cfg.chans.map fun c => { c with channel := (c.channel + 1) % 8 } } } } : Dev)); { dev := d } : State), (1 : Fin 8), ((2) : Nat), by decide⟩,
    ⟨(let d : Dev := base; let d : Dev := (reactBy (gated (permitUp d 1 (d.free % 3)) 1) 36 (d.free % 3 ≠ 0)); let d : Dev := (({ d with host := { d.host with estop := true } } : Dev)); let d : Dev := (({ d with frd := { d.frd with cfg := { d.frd.cfg with chans := d.frd.cfg.chans ++ d.frd.cfg.chans.map fun c => { c with channel := (c.channel + 1) % 8 } } } } : Dev)); { dev := d } : State), (1 : Fin 8), by decide⟩,
    ⟨(let n : Fin 8 := 1; let d : Dev := base; let d : Dev := ((gated (permitUp d n (d.free % 3)) n).wr R.EVT_TIME (d.now % 2 ^ 50)); let d : Dev := ({ reactBy d 37 (d.free % 3 ≠ 0) with evt := { d.evt with running := true } }); let d : Dev := (d.modCh n fun c => { c with tripUn := false, wdFrom := d.now - d.free % 5000 }); { dev := d } : State), (1 : Fin 8), by decide⟩,
    ⟨(let n : Fin 8 := 1; let d : Dev := base; let d : Dev := (reactBy (gated (permitUp d n 2) n) 37 (d.free % 3 ≠ 0)); { dev := d } : State), (1 : Fin 8), by decide⟩,
    ⟨(let n : Fin 8 := 1; let d : Dev := base; let d : Dev := (permitUp d n (d.free % 3)); let d : Dev := (let d := if d.free % 2 = 0 then gated d n else d; if d.free % 5 = 0 then d.put (F.CHn_PXS_STATUS.locked n) 0 else d); { dev := d } : State), (1 : Fin 8), (true : Bool), by decide⟩,
    ⟨(let n : Fin 8 := 1; let k := (3); let d : Dev := base; let d : Dev := ((permitUp d n (d.free % 3)).modCh n fun c => { c with desc := some k }); let d : Dev := (d.put (F.SHT_Dd_STATE.state k) 3); { dev := d } : State), (1 : Fin 8), ((3) : Nat), by decide⟩,
    ⟨(let n : Fin 8 := 1; let d : Dev := base; let d : Dev := (noSheets (gated (permitUp d n (d.free % 3)) n)); let d : Dev := (d.put (F.CHn_BLP_STATUS.state n) ([5, 0, 7, 3].getD (d.free % 4) 0)); { dev := d } : State), (1 : Fin 8), (true : Bool), by decide⟩,
    ⟨(let n : Fin 8 := 1; let d : Dev := base; let d : Dev := ((noSheets (gated (permitUp d n (d.free % 3)) n)).put (F.CHn_BLP_STATUS.state n) ([5, 0, 7, 3].getD (d.free % 4) 0)); let d : Dev := ((((d.put (F.SHT_Dd_STATE.state 3) 3).put (F.SHT_Dd_HEAD.chan_mask 3) (2 ^ n.val)).put (F.SHT_Dd_HEAD.sheet_tag 3) 77).modCh n fun c => { c with desc := none }); { dev := d } : State), (1 : Fin 8), ((3) : Nat), by decide⟩,
    ⟨(let n : Fin 8 := 1; let d : Dev := base; let d : Dev := (((permitUp d n (d.free % 3)).put (F.CHn_FGT_STATUS.disabled n) (if d.free % 4 = 0 then 0 else 1)).put (F.CHn_BLP_STATUS.state n) ([1, 0, 7, 6].getD (d.free % 4) 0)); { dev := d } : State), (1 : Fin 8), by decide⟩,
    ⟨(let n : Fin 8 := 1; let d : Dev := base; let d : Dev := (reactBy (gated (permitUp d n (d.free % 3)) n) 36 (d.free % 3 ≠ 0)); { dev := d.put F.PWR_STATUS.pfail_active 0 } : State), (1 : Fin 8), ((2) : Nat), by decide⟩,
    ⟨(let d : Dev := base; let d : Dev := ((permitUp d 1 (d.free % 3)).put (F.CHn_FGT_STATUS.ilk_head 1) 1); { dev := d } : State), (1 : Fin 8), by decide⟩,
    ⟨(let n : Fin 8 := 1; let d : Dev := base; let d : Dev := (reactBy (gated (permitUp d n (d.free % 3)) n) 36 (d.free % 3 ≠ 0)); { dev := d.put F.PWR_STATUS.pfail_active 0 } : State), (1 : Fin 8), by decide⟩,
    ⟨(let n : Fin 8 := 1; let d : Dev := base; let d : Dev := (reactBy (gated (permitUp d n (d.free % 3)) n) 36 (d.free % 3 ≠ 0)); let d : Dev := ({ d with host := { d.host with estop := d.free % 4 ≠ 0 } }); { dev := d.put F.PWR_STATUS.pfail_active 0 } : State), (1 : Fin 8), by decide⟩,
    ⟨(let n : Fin 8 := 1; let d : Dev := base; let d : Dev := ((gated (permitUp d n (d.free % 3)) n).wr R.EVT_TIME (d.now % 2 ^ 50)); let d : Dev := ({ reactBy d 37 (d.free % 3 ≠ 0) with evt := { d.evt with running := true } }); let d : Dev := (d.modCh n fun c => { c with tripUn := false, wdFrom := d.now - d.free % 5000 }); { dev := d } : State), (1 : Fin 8), by decide⟩,
    ⟨(let n : Fin 8 := 1; let d : Dev := base; let d : Dev := (reactBy (gated (permitUp d n 2) n) 37 (d.free % 3 ≠ 0)); { dev := d } : State), (1 : Fin 8), by decide⟩,
    ⟨(let d : Dev := base; let d : Dev := (gated (permitUp d 1 2) 1); let d : Dev := (d.modCh 1 fun c => { c with tripSt := d.free % 2 = 0 }); { dev := d } : State), (1 : Fin 8), by decide⟩,
    ⟨(let d : Dev := base; let d : Dev := (gated (permitUp d 1 (d.free % 3)) 1); let d : Dev := (d.modCh 1 fun c => { c with tripSt := true }); { dev := d } : State), (1 : Fin 8), by decide⟩,
    ⟨(let n : Fin 8 := 1; let d : Dev := base; let d : Dev := (chAt d n (d.free % 3)); let d : Dev := ((d.put (F.CHn_FGT_STATUS.permit n) 0)); { dev := d } : State), (1 : Fin 8), by decide⟩⟩

end Sys2Proof.Tests.Chan4

namespace Sys2Proof.Tests.Bld

def single (d : Dev) : Dev := { onAll d with frd := { d.frd with cfg := { d.frd.cfg with role := { d.frd.cfg.role with grade := 0 } } } }

def fine (f : Firing) : Firing := { f with late := false, tag := 0 }

/-- Axis a of role 1 in a state, with nothing that blocks a start. -/
def axAt (d : Dev) (a st : Nat) : Dev :=
  let d := single d
  let d := { d with frd := { d.frd with cfg := { d.frd.cfg with axes := [{ axis := a, role := if d.free % 5 = 0 then 6 else 1, dcBus := 1, polePairs := 4, maxSpeed := 3000, pwmKhz := 20, idle := d.free % 2 }] } }, sys := { d.sys with cut := false }, flt := { d.flt with hitSlot := 0 } }
  let d := ((d.put (F.BLD_AXa_STATUS.state a) st).put (F.BLD_DCBm_STATUS.latched 1) 0).wr (R.BLD_AXa_ILOOP a) (2 ^ 16 * 9)
  let d := (d.activate (R.BLD_AXa_ILOOP a)).modBld a fun x => { x with moving := false, move := none, startDue := none, offPend := false, wref := 16000000000, restarts := [], obs := { x.obs with omega := 12 } }
  d.wr (R.BLD_AXa_CTRL a) 0

def runMove (d : Dev) (a : Nat) : Dev := d.modBld a fun x => { x with moving := true, move := some { p := 0, v := 5, target := 2 ^ 40, acc := 3, dec := 3, peak := 99 }, moveDone := 0, posE := 400 }

theorem witness_BrushlessSpeed :
    (∃ (s : State) (a : Fin 16) (v : Word32), s.dev.idled = true ∧ s.dev.direct (R.BLD_AXa_SETPOINT a).off ∧ s.dev.twin = false) ∧
    (∃ (s : State) (a : Fin 16) (v : Word32), s.dev.idled = false ∧ s.dev.direct (R.BLD_AXa_SETPOINT a).off ∧ s.dev.twin = false ∧ (s.dev.bldState a = 1 ∨ s.dev.bldState a = 2) ∧ (s.dev.axis a).isSome = true ∧ s.dev.bldBlocked a = none ∧ sext 32 v.toNat ≠ 0) ∧
    (∃ (s : State) (a : Fin 16) (v : Word32), s.dev.idled = false ∧ s.dev.direct (R.BLD_AXa_SETPOINT a).off ∧ s.dev.twin = false ∧ s.dev.bldState a = 7 ∧ (s.dev.axis a).isSome = true ∧ s.dev.bldBlocked a = none ∧ sext 32 v.toNat ≠ 0) ∧
    (∃ (s : State) (a : Fin 16) (v : Word32), s.dev.idled = false ∧ s.dev.direct (R.BLD_AXa_SETPOINT a).off ∧ s.dev.twin = false ∧ 3 ≤ s.dev.bldState a ∧ s.dev.bldState a ≤ 6 ∧ (s.dev.axis a).isSome = true ∧ s.dev.bldBlocked a = none ∧ sext 32 v.toNat ≠ 0 ∧ (s.dev.bldS a).target ≠ 0 ∧ sgn (s.dev.clampTarget a (sext 32 v.toNat)) ≠ sgn (s.dev.bldS a).target) ∧
    (∃ (s : State) (a : Fin 16), s.dev.idled = false ∧ s.dev.direct (R.BLD_AXa_SETPOINT a).off ∧ s.dev.twin = false ∧ 1 ≤ s.dev.bldState a ∧ s.dev.bldState a ≤ 8) ∧
    (∃ (s : State) (a : Fin 16) (v : Word32), s.dev.idled = false ∧ s.dev.direct (R.BLD_AXa_SETPOINT a).off ∧ s.dev.twin = false ∧ sext 32 v.toNat ≠ 0 ∧ (s.dev.bldState a = 0 ∨ (s.dev.bldBlocked a).isSome = true) ∧ (s.dev.axis a).isSome = true) ∧
    (∃ (s : State) (f : Firing), s.dev.idled = false ∧ s.dev.actionHit 4 f.target = false ∧ f.target < 16 ∧ f.arg < 16 ∧ (s.dev.bldState f.target = 1 ∨ s.dev.bldState f.target = 2) ∧ s.dev.bldBlocked f.target = none ∧ (s.dev.axis f.target).isSome = true ∧ s.dev.rd (R.BLD_AXa_SRECr f.target f.arg) < 2 ^ 48 ∧ sext 32 (s.dev.get (F.BLD_AXa_SRECr.speed f.target f.arg)) ≠ 0) ∧
    (∃ (s : State) (f : Firing), s.dev.actionHit 4 f.target = false ∧ f.late = false ∧ f.tag = 0 ∧ (s.dev.bldState f.target = 0 ∨ s.dev.idled = true ∨ 16 ≤ f.arg ∨ 2 ^ 48 ≤ s.dev.rd (R.BLD_AXa_SRECr f.target f.arg))) ∧
    (∃ (s : State) (a : Fin 16), s.dev.direct (R.BLD_AXa_CMD a).off ∧ s.dev.twin = false ∧ s.dev.bldState a = 0 ∧ (s.dev.axis a).isSome = true ∧ s.dev.get F.SYS_HOST_STATE.state ≠ 4 ∧ s.dev.get F.SYS_HOST_STATE.state ≠ 2) ∧
    (∃ (s : State) (a : Fin 16), s.dev.direct (R.BLD_AXa_CMD a).off ∧ s.dev.twin = false ∧ s.dev.bldState a ≠ 0 ∧ s.dev.bldState a ≤ 9) ∧
    (∃ (s : State) (a : Fin 16), s.dev.direct (R.BLD_AXa_CMD a).off ∧ s.dev.twin = false ∧ s.dev.bldState a = 10) ∧
    (∃ (s : State) (a : Fin 16), s.dev.direct (R.BLD_AXa_CMD a).off ∧ s.dev.twin = false) :=
  ⟨⟨(let d : Dev := base; let d : Dev := (axAt d (d.free % 16) (d.free / 7 % 3)); { dev := d.put F.SYS_HOST_STATE.state (2 + d.free % 2 * 2) } : State), (let d : Dev := base; Fin.ofNat 16 d.free : Fin 16), (5 : Word32), by decide⟩,
    ⟨(let a : Fin 16 := 1; let d : Dev := base; let d : Dev := ((axAt d a (1 + d.free % 2)).modBld a fun x => { x with moving := d.free % 3 = 0, move := some {} }); { dev := d.put F.SYS_HOST_STATE.state 0 } : State), (1 : Fin 16), (let v : Word32 := 5; (if v.toNat = 0 then 16000#32 else v) : Word32), by decide⟩,
    ⟨(let a : Fin 16 := 1; let d : Dev := base; let d : Dev := (axAt d a 7); { dev := d.put F.SYS_HOST_STATE.state 0 } : State), (1 : Fin 16), (let s : State := { dev := base }; let v : Word32 := 5; (BitVec.ofInt 32 (if s.dev.free % 2 = 0 then 16 + v.toNat % 32000 else -(16 + (v.toNat % 32000 : Int)))) : Word32), by decide⟩,
    ⟨(let d : Dev := base; let d : Dev := ((axAt d 1 (3 + d.free % 4)).modBld 1 fun x => { x with target := if d.free % 2 = 0 then 16000 else -16000 }); { dev := d.put F.SYS_HOST_STATE.state 0 } : State), (1 : Fin 16), (let d : Dev := base; (if d.free % 2 = 0 then BitVec.ofInt 32 (-9000) else 9000#32) : Word32), by decide⟩,
    ⟨(let a : Fin 16 := 1; let d : Dev := base; let d : Dev := (axAt d a ([1, 3, 5, 6, 7, 8].getD (d.free % 6) 0)); { dev := d.put F.SYS_HOST_STATE.state 0 } : State), (1 : Fin 16), by decide⟩,
    ⟨(let a : Fin 16 := 1; let d : Dev := base; let d : Dev := (let d := axAt d a ([0, 10, 1, 2].getD (d.free % 4) 0); if d.free % 4 = 2 then d.put (F.BLD_DCBm_STATUS.latched 1) 1 else if d.free % 4 = 3 then (d.wr (R.BLD_AXa_ILOOP a) 0).activate (R.BLD_AXa_ILOOP a) else d); { dev := d.put F.SYS_HOST_STATE.state 0 } : State), (1 : Fin 16), ((16000#32) : Word32), by decide⟩,
    ⟨(let d : Dev := base; let d : Dev := (axAt d (d.free % 16) (1 + d.free % 2)); let d : Dev := (d.wr (R.BLD_AXa_SRECr (d.free % 16) 3) (2 ^ 32 * (d.free % 9) + 16000)); { dev := d.put F.SYS_HOST_STATE.state 0 } : State), (let f : Firing := ⟨5, 0, 3, 0, 9, false, false⟩; let f := ({ fine f with target := f.target % 16, arg := f.arg % 16 }); let d : Dev := base; let d : Dev := (axAt d (d.free % 16) (1 + d.free % 2)); let d : Dev := (d.wr (R.BLD_AXa_SRECr (d.free % 16) 3) (2 ^ 32 * (d.free % 9) + 16000)); let s : State := { dev := d }; ({ f with late := s.dev.free % 3 = 0, target := s.dev.free % 16, arg := 3 }) : Firing), by decide⟩,
    ⟨(let d : Dev := base; let d : Dev := (axAt d (d.free % 16) ([0, 1].getD (d.free / 7 % 2) 1)); let d : Dev := (d.wr (R.BLD_AXa_SRECr (d.free % 16) 3) (2 ^ 48 + 16000)); { dev := d } : State), (let f : Firing := ⟨5, 0, 3, 0, 9, false, false⟩; let f := ({ fine f with target := f.target % 16, arg := f.arg % 40 }); let d : Dev := base; let d : Dev := (axAt d (d.free % 16) ([0, 1].getD (d.free / 7 % 2) 1)); let d : Dev := (d.wr (R.BLD_AXa_SRECr (d.free % 16) 3) (2 ^ 48 + 16000)); let s : State := { dev := d }; ({ f with target := s.dev.free % 16, arg := if s.dev.free % 2 = 0 then 3 else 16 + f.arg }) : Firing), by decide⟩,
    ⟨(let a : Fin 16 := 1; let d : Dev := base; let d : Dev := (axAt d a 0); let d : Dev := (d.put F.SYS_HOST_STATE.state (d.free % 2)); { dev := d } : State), (1 : Fin 16), by decide⟩,
    ⟨(let a : Fin 16 := 1; let d : Dev := base; let d : Dev := (axAt d a ([1, 3, 5, 6, 7, 8, 9].getD (d.free % 7) 0)); let d : Dev := (if d.free % 3 = 0 then runMove d a else d); { dev := d } : State), (1 : Fin 16), by decide⟩,
    ⟨(let a : Fin 16 := 1; let d : Dev := base; let d : Dev := (axAt d a 10); { dev := d } : State), (1 : Fin 16), by decide⟩,
    ⟨(let a : Fin 16 := 1; let d : Dev := base; let d : Dev := (axAt d a ([0, 3].getD (d.free % 2) 0)); { dev := d } : State), (1 : Fin 16), by decide⟩⟩

theorem witness_BrushlessMoves :
    (∃ (s : State) (f : Firing), s.dev.actionHit 1 f.target = false ∧ s.dev.actionHit 3 f.target = false ∧ f.late = false ∧ f.tag = 0 ∧ f.target < 16 ∧ (s.dev.bldState f.target = 0 ∨ s.dev.idled = true)) ∧
    (∃ (s : State) (f : Firing), s.dev.idled = false ∧ s.dev.actionHit 1 f.target = false ∧ f.target < 16 ∧ f.arg < 8 ∧ (s.dev.bldState f.target = 1 ∨ s.dev.bldState f.target = 2) ∧ s.dev.bldBlocked f.target = none ∧ (s.dev.axis f.target).isSome = true ∧ s.dev.rd (R.BLD_AXa_MRECr f.target f.arg 1) < 2 ^ 32 ∧ (s.dev.bldPlan f.target f.arg).2 = none ∧ (s.dev.bldPlan f.target f.arg).1.rev = 0) ∧
    (∃ (s : State) (f : Firing), s.dev.idled = false ∧ s.dev.actionHit 1 f.target = false ∧ f.target < 16 ∧ f.arg < 8 ∧ s.dev.bldState f.target = 7 ∧ s.dev.bldBlocked f.target = none ∧ (s.dev.axis f.target).isSome = true ∧ s.dev.rd (R.BLD_AXa_MRECr f.target f.arg 1) < 2 ^ 32 ∧ (s.dev.bldPlan f.target f.arg).2 = none ∧ (s.dev.bldPlan f.target f.arg).1.rev ≠ 0) ∧
    (∃ (s : State) (f : Firing), s.dev.idled = false ∧ s.dev.actionHit 1 f.target = false ∧ f.late = false ∧ f.tag = 0 ∧ f.target < 16 ∧ s.dev.bldState f.target ≠ 0 ∧ s.dev.bldBlocked f.target = none ∧ (8 ≤ f.arg ∨ 2 ^ 32 ≤ s.dev.rd (R.BLD_AXa_MRECr f.target f.arg 1) ∨ (s.dev.bldPlan f.target f.arg).2.isSome = true)) ∧
    (∃ (s : State) (f : Firing) (m : Prof), s.dev.actionHit 2 f.target = false ∧ f.target < 16 ∧ (s.dev.bldState f.target = 7 ∨ s.dev.bldState f.target = 3) ∧ (s.dev.bldS f.target).moving = true ∧ (s.dev.bldS f.target).move = some m) ∧
    (∃ (s : State) (f : Firing), s.dev.actionHit 2 f.target = false ∧ f.target < 16 ∧ s.dev.bldState f.target ≠ 0 ∧ (s.dev.bldS f.target).moveDone = s.dev.sys.now8 + 1) ∧
    (∃ (s : State) (f : Firing) (m : Prof), s.dev.idled = false ∧ s.dev.actionHit 3 f.target = false ∧ f.target < 16 ∧ (s.dev.bldState f.target = 1 ∨ s.dev.bldState f.target = 2) ∧ s.dev.bldBlocked f.target = none ∧ (s.dev.axis f.target).isSome = true ∧ (s.dev.bldS f.target).moving = false ∧ (s.dev.bldS f.target).move = some m ∧ m.target / 2 ^ 32 ≠ s.dev.bldPos f.target ∧ ((s.dev.bldNow f.target).replan m.target m.acc m.dec m.peak (s.dev.uni f.target)).2 = none ∧ ((s.dev.bldNow f.target).replan m.target m.acc m.dec m.peak (s.dev.uni f.target)).1.rev = 0) ∧
    (∃ (s : State) (f : Firing) (m : Prof) (code : Nat), s.dev.idled = false ∧ s.dev.actionHit 3 f.target = false ∧ f.tag = 0 ∧ f.target < 16 ∧ s.dev.bldState f.target ≠ 0 ∧ s.dev.bldBlocked f.target = none ∧ (s.dev.bldS f.target).moving = false ∧ (s.dev.bldS f.target).move = some m ∧ m.target / 2 ^ 32 ≠ s.dev.bldPos f.target ∧ ((s.dev.bldNow f.target).replan m.target m.acc m.dec m.peak (s.dev.uni f.target)).2 = some code) ∧
    (∃ (s : State) (f : Firing), s.dev.actionHit 3 f.target = false ∧ f.late = false ∧ f.tag = 0 ∧ f.target < 16 ∧ (s.dev.bldS f.target).move = none) ∧
    (∃ (s : State) (a : Fin 16), s.dev.on (F.BLD_AXa_STATUS.slewing a) = true ∧ s.dev.evt.running = true ∧ s.dev.now < 2 ^ 62 ∧ (s.dev.bldS a).slewEnd < 2 ^ 62) :=
  ⟨⟨(let d : Dev := base; let d : Dev := (axAt d (d.free % 16) ([0, 1, 7].getD (d.free / 7 % 3) 1)); { dev := d.put F.SYS_HOST_STATE.state (2 + d.free % 2 * 2) } : State), (let f : Firing := ⟨5, 0, 2, 0, 9, false, false⟩; let f := ({ fine f with target := f.target % 16 }); let d : Dev := base; ({ f with target := 0 + d.free % 16 }) : Firing), by decide⟩,
    ⟨(let d : Dev := base; let d : Dev := (axAt d (d.free % 16) (1 + d.free % 2)); let d : Dev := ((d.wr (R.BLD_AXa_MRECr (d.free % 16) 2 0) (16000 * 2 ^ 32 + d.free % 9999 + 1)).wr (R.BLD_AXa_MRECr (d.free % 16) 2 1) (300 * 2 ^ 16 + 400)); { dev := d.put F.SYS_HOST_STATE.state 0 } : State), (let f : Firing := ⟨5, 0, 2, 0, 9, false, false⟩; let f := ({ fine f with target := f.target % 16, arg := 2 }); let d : Dev := base; let d : Dev := (axAt d (d.free % 16) (1 + d.free % 2)); let d : Dev := ((d.wr (R.BLD_AXa_MRECr (d.free % 16) 2 0) (16000 * 2 ^ 32 + d.free % 9999 + 1)).wr (R.BLD_AXa_MRECr (d.free % 16) 2 1) (300 * 2 ^ 16 + 400)); let s : State := { dev := d }; ({ f with late := s.dev.free % 3 = 0, target := s.dev.free % 16 }) : Firing), by decide⟩,
    ⟨(let d : Dev := base; let d : Dev := (axAt { d with free := 5 } 1 7); let d : Dev := (((d.wr (R.BLD_AXa_MRECr 1 2 0) (16000 * 2 ^ 32 + (2 ^ 32 - 5000))).wr (R.BLD_AXa_MRECr 1 2 1) (300 * 2 ^ 16 + 400))); let d : Dev := (d.modBld 1 fun x => { x with wref := 16000000000, obs := { x.obs with omega := 16000 + d.now % 100 } }); { dev := d.put F.SYS_HOST_STATE.state 0 } : State), (⟨5, 1, 2, 0, 9, false, false⟩ : Firing), by decide⟩,
    ⟨(let d : Dev := base; let d : Dev := (axAt d (d.free % 16) (1 + d.free % 2)); let d : Dev := ((d.wr (R.BLD_AXa_MRECr (d.free % 16) 2 0) (16000 * 2 ^ 32 + 2 ^ 31 + d.free % 9999 + 1)).wr (R.BLD_AXa_MRECr (d.free % 16) 2 1) (300 * 2 ^ 16 + 400)); let d : Dev := (if d.free % 3 = 0 then d.wr (R.BLD_AXa_MRECr (d.free % 16) 2 1) (2 ^ 32) else d); { dev := d.put F.SYS_HOST_STATE.state 0 } : State), (let f : Firing := ⟨5, 0, 2, 0, 9, false, false⟩; let f := ({ fine f with target := f.target % 16, arg := 2 }); let d : Dev := base; let d : Dev := (axAt d (d.free % 16) (1 + d.free % 2)); let d : Dev := ((d.wr (R.BLD_AXa_MRECr (d.free % 16) 2 0) (16000 * 2 ^ 32 + 2 ^ 31 + d.free % 9999 + 1)).wr (R.BLD_AXa_MRECr (d.free % 16) 2 1) (300 * 2 ^ 16 + 400)); let d : Dev := (if d.free % 3 = 0 then d.wr (R.BLD_AXa_MRECr (d.free % 16) 2 1) (2 ^ 32) else d); let s : State := { dev := d }; ({ f with target := s.dev.free % 16 }) : Firing), by decide⟩,
    ⟨(let d : Dev := base; let d : Dev := (runMove (axAt d (d.free % 16) ([7, 7, 3, 8].getD (d.free / 16 % 4) 0)) (d.free % 16)); { dev := d } : State), (let f : Firing := ⟨5, 0, 2, 0, 9, false, false⟩; let f := ({ fine f with target := f.target % 16 }); let d : Dev := base; let d : Dev := (runMove (axAt d (d.free % 16) ([7, 7, 3, 8].getD (d.free / 16 % 4) 0)) (d.free % 16)); let s : State := { dev := d }; ({ f with late := s.dev.free % 3 = 0, target := s.dev.free % 16 }) : Firing), (({ p := 0, v := 5, target := 2 ^ 40, acc := 3, dec := 3, peak := 99 }) : Prof), by decide⟩,
    ⟨(let d : Dev := base; let d : Dev := ((axAt d (d.free % 16) 1).modBld (d.free % 16) fun x => { x with moveDone := d.sys.now8 + 1 }); { dev := d } : State), (let f : Firing := ⟨5, 0, 2, 0, 9, false, false⟩; let f := ({ fine f with target := f.target % 16 }); let d : Dev := base; let d : Dev := ((axAt d (d.free % 16) 1).modBld (d.free % 16) fun x => { x with moveDone := d.sys.now8 + 1 }); let s : State := { dev := d }; ({ f with late := s.dev.free % 3 = 0, target := s.dev.free % 16 }) : Firing), by decide⟩,
    ⟨(let d : Dev := base; let d : Dev := ((runMove (axAt d (d.free % 16) 1) (d.free % 16)).modBld (d.free % 16) fun x => { x with moving := false, posE := x.posE * (65536 * max 1 (d.polePairs (d.free % 16)) : Nat) }); { dev := d.put F.SYS_HOST_STATE.state 0 } : State), (let f : Firing := ⟨5, 0, 2, 0, 9, false, false⟩; let f := ({ fine f with target := f.target % 16 }); let d : Dev := base; let d : Dev := ((runMove (axAt d (d.free % 16) 1) (d.free % 16)).modBld (d.free % 16) fun x => { x with moving := false, posE := x.posE * (65536 * max 1 (d.polePairs (d.free % 16)) : Nat) }); let s : State := { dev := d }; ({ f with late := s.dev.free % 3 = 0, target := s.dev.free % 16 }) : Firing), (({ p := 0, v := 5, target := 2 ^ 40, acc := 3, dec := 3, peak := 99 }) : Prof), by decide⟩,
    ⟨(let d : Dev := base; let d : Dev := ((runMove (axAt { d with free := 1 } 1 (1 + d.free % 2)) 1).modBld 1 fun x => { x with moving := false, posE := x.posE * (65536 * max 1 (d.polePairs 1) : Nat) + 2 ^ 40 }); { dev := d.put F.SYS_HOST_STATE.state 0 } : State), (⟨5, 1, 2, 0, 9, false, false⟩ : Firing), (({ p := 0, v := 5, target := 2 ^ 40, acc := 3, dec := 3, peak := 99 }) : Prof), (2 : Nat), by decide⟩,
    ⟨(let d : Dev := base; let d : Dev := (axAt d (d.free % 16) (d.free / 16 % 2)); { dev := d } : State), (let f : Firing := ⟨5, 0, 2, 0, 9, false, false⟩; let f := ({ fine f with target := f.target % 16 }); let d : Dev := base; let d : Dev := (axAt d (d.free % 16) (d.free / 16 % 2)); let s : State := { dev := d }; ({ f with target := s.dev.free % 16 }) : Firing), by decide⟩,
    ⟨(let a : Fin 16 := 1; let d : Dev := base; let d : Dev := (((axAt d a 7).put (F.BLD_AXa_STATUS.slewing a) 1).wr R.EVT_TIME (d.now % 2 ^ 50)); let d : Dev := ({ d.modBld a fun x => { x with slewEnd := d.now + d.free % 9999 } with evt := { d.evt with running := true } }); { dev := d } : State), (1 : Fin 16), by decide⟩⟩

end Sys2Proof.Tests.Bld

namespace Sys2Proof.Tests.Bld2

def single (d : Dev) : Dev := { onAll d with frd := { d.frd with cfg := { d.frd.cfg with role := { d.frd.cfg.role with grade := 0 } } } }

def fine (f : Firing) : Firing := { f with late := false, tag := 0 }

/-- Axis a of role 1 in a state, with nothing that blocks a start. -/
def axAt (d : Dev) (a st : Nat) : Dev :=
  let d := single d
  let d := { d with frd := { d.frd with cfg := { d.frd.cfg with axes := [{ axis := a, role := if d.free % 5 = 0 then 6 else 1, dcBus := 1, polePairs := 4, maxSpeed := 3000, pwmKhz := 20, idle := d.free % 2 }] } }, sys := { d.sys with cut := false }, flt := { d.flt with hitSlot := 0 } }
  let d := ((d.put (F.BLD_AXa_STATUS.state a) st).put (F.BLD_DCBm_STATUS.latched 1) 0).wr (R.BLD_AXa_ILOOP a) (2 ^ 16 * 9)
  let d := (d.activate (R.BLD_AXa_ILOOP a)).modBld a fun x => { x with moving := false, move := none, startDue := none, offPend := false, wref := 16000000000, restarts := [], obs := { x.obs with omega := 12 } }
  d.wr (R.BLD_AXa_CTRL a) 0

def runMove (d : Dev) (a : Nat) : Dev := d.modBld a fun x => { x with moving := true, move := some { p := 0, v := 5, target := 2 ^ 40, acc := 3, dec := 3, peak := 99 }, moveDone := 0, posE := 400 }

theorem witness_BrushlessStart :
    (∃ (s : State) (a : Fin 16), s.dev.bldState a = 3) ∧
    (∃ (s : State) (a : Fin 16), s.dev.bldState a = 5) ∧
    (∃ (s : State) (a : Fin 16), s.dev.bldState a = 6) ∧
    (∃ (s : State) (a : Fin 16), (s.dev.bldS a).restartAt ≠ 0 ∧ s.dev.bldState a = 1) ∧
    (∃ (s : State) (a : Fin 16), s.dev.bldState a = 4) ∧
    (∃ (s : State) (a : Fin 16), (s.dev.bldState a = 0 ∨ s.dev.bldState a = 7) ∧ s.dev.on (F.BLD_AXa_STATUS.slewing a) = false) :=
  ⟨⟨(let a : Fin 16 := 1; let d : Dev := base; let d : Dev := (axAt d a 3); let d : Dev := (d.modBld a fun x => { x with since := d.sys.now8 - d.free % 5000000 }); { dev := d } : State), (1 : Fin 16), by decide⟩,
    ⟨(let a : Fin 16 := 1; let d : Dev := base; let d : Dev := (axAt d a 5); let d : Dev := (d.modBld a fun x => { x with since := d.sys.now8 - d.free % 5000000 }); { dev := d } : State), (1 : Fin 16), by decide⟩,
    ⟨(let a : Fin 16 := 1; let d : Dev := base; let d : Dev := ((axAt d a 6).wr (R.BLD_AXa_START3 a) (7 * 65536 + d.free % 4)); let d : Dev := ((d.activate (R.BLD_AXa_START3 a)).modBld a fun x => { x with since := d.sys.now8, restarts := (List.range (d.free / 4 % 4)).map fun i => d.sys.now8 - i }); { dev := d } : State), (1 : Fin 16), by decide⟩,
    ⟨(let a : Fin 16 := 1; let d : Dev := { base with free := 1 }; let d : Dev := ((axAt d a 1).wr (R.BLD_AXa_START3 a) (7 * 65536 + d.free % 4)); let d : Dev := ((d.activate (R.BLD_AXa_START3 a)).modBld a fun x => { x with restartAt := d.sys.now8 + d.free % 300, restarts := (List.range (d.free / 4 % 4)).map fun i => d.sys.now8 - i }); { dev := d } : State), (1 : Fin 16), by decide⟩,
    ⟨(let a : Fin 16 := 1; let d : Dev := base; let d : Dev := (axAt d a 4); let d : Dev := (d.modBld a fun x => { x with since := d.sys.now8 - d.free % 5000000 }); { dev := d } : State), (1 : Fin 16), by decide⟩,
    ⟨(let a : Fin 16 := 1; let d : Dev := base; let d : Dev := ((axAt d a (d.free % 2 * 7)).put (F.BLD_AXa_STATUS.slewing a) 0); { dev := d } : State), (1 : Fin 16), by decide⟩⟩

theorem witness_BrushlessCurrent :
    (∃ (s : State) (a : Fin 16) (iu : Int) (iv : Int), s.dev.bldState a ≠ 0 ∧ s.dev.domOn 3 = true ∧ (s.dev.axis a).isSome = true) ∧
    (∃ (s : State) (a : Fin 16), (∀ u ∈ s.dev.twn.slots, s.dev.now < u.ts + 128) ∧ (s.dev.axis a).isSome = true ∧ s.dev.domOn 3 = true) ∧
    (∃ (s : State) (a : Fin 16), (s.dev.axis a = none ∨ s.dev.domOn 3 = false)) ∧
    (∃ (s : State) (a : Fin 16) (iu : Int) (iv : Int), (s.dev.bldState a = 0 ∨ s.dev.domOn 3 = false ∨ s.dev.axis a = none)) ∧
    (∃ (s : State) (a : Fin 16) (iu : Int) (iv : Int), (s.dev.bldState a = 1 ∨ s.dev.bldState a = 2 ∨ s.dev.bldState a = 5) ∧ s.dev.domOn 3 = true ∧ (s.dev.axis a).isSome = true ∧ fullScale iu = false ∧ fullScale iv = false) ∧
    (∃ (s : State) (a : Fin 16) (iu : Int) (iv : Int), s.dev.bldState a = 7 ∧ s.dev.domOn 3 = true ∧ (s.dev.axis a).isSome = true ∧ fullScale iu = false ∧ fullScale iv = false ∧ (s.dev.bldS a).per + 1 < s.dev.ga (F.BLD_AXa_FW2.speed_div_m1 a) + 1) ∧
    (∃ (s : State) (a : Fin 16) (iu : Int) (iv : Int), s.dev.bldState a = 7 ∧ s.dev.domOn 3 = true ∧ (s.dev.axis a).isSome = true ∧ fullScale iu = false ∧ fullScale iv = false ∧ s.dev.ga (F.BLD_AXa_FW2.speed_div_m1 a) ≤ (s.dev.bldS a).per ∧ (s.dev.bldS a).losN + 1 < s.dev.ga (F.BLD_AXa_LOS.los_count a) ∧ (s.dev.bldS a).moving = false) ∧
    (∃ (s : State) (a : Fin 16) (iu : Int) (iv : Int), s.dev.bldState a = 1 ∧ s.dev.domOn 3 = true ∧ (s.dev.axis a).isSome = true ∧ fullScale iu = true ∧ fullScale iv = false) :=
  ⟨⟨(let a : Fin 16 := 1; let d : Dev := base; let d : Dev := (axAt d a ([1,2,3,4,5,6,7,8,9,10].getD (d.free % 10) 3)); let d : Dev := (((d.wr (R.BLD_AXa_PWM a) (let b := d.rd (R.BLD_AXa_PWM a); if d.free % 2 = 0 then b else d.free)).activate (R.BLD_AXa_PWM a))); let d : Dev := (d.modBld a fun x => { x with per := d.free % 7, losN := d.free % 9, cPh := 0, target := d.free % 50000, rate := 1 + d.free % 300 }); { dev := d } : State), (1 : Fin 16), (let d : Dev := base; if d.free % 3 = 0 then 2047 else (d.free % 4096 : Nat) - 2048 : Int), (let d : Dev := base; if d.free % 3 = 1 then -2048 else (d.free % 4096 : Nat) - 2048 : Int), by decide⟩,
    ⟨(let d : Dev := base; let d : Dev := (axAt d 1 (d.free % 9)); let d : Dev := (d.setReady (R.BLD_AXa_COMMIT 1) (d.free % 2 = 0)); { dev := { d with twn := { d.twn with slots := [] } } } : State), (1 : Fin 16), by decide⟩,
    ⟨(let d : Dev := base; let d : Dev := ({ d with frd := { d.frd with cfg := { d.frd.cfg with axes := [] } } }); { dev := d } : State), (1 : Fin 16), by decide⟩,
    ⟨(let a : Fin 16 := 1; let d : Dev := base; let d : Dev := (let d := axAt d a ([0, 7].getD (d.free % 2) 0); if d.bldState a = 7 then d.putBit F.PWR_DOMAINS.domains 3 false else d); { dev := d } : State), (1 : Fin 16), (1 : Int), (1 : Int), by decide⟩,
    ⟨(let a : Fin 16 := 1; let d : Dev := base; let d : Dev := (axAt d a ([1, 2, 5].getD (d.free % 3) 0)); { dev := d } : State), (1 : Fin 16), (let iu : Int := 1; (iu % 4096 - 2048) : Int), (let iv : Int := 1; (iv % 4096 - 2048) : Int), by decide⟩,
    ⟨(let a : Fin 16 := 1; let d : Dev := base; let d : Dev := ((axAt d a 7).wr (R.BLD_AXa_FW2 a) (d.free % 3 + 2)); let d : Dev := ((d.activate (R.BLD_AXa_FW2 a)).modBld a fun x => { x with per := 0 }); { dev := d } : State), (1 : Fin 16), (let iu : Int := 1; (iu % 4000 - 2000) : Int), (let iv : Int := 1; (iv % 4000 - 2000) : Int), by decide⟩,
    ⟨(let a : Fin 16 := 1; let d : Dev := base; let d : Dev := ((axAt d a 7).wr (R.BLD_AXa_FW2 a) 1); let d : Dev := (((d.activate (R.BLD_AXa_FW2 a)).wr (R.BLD_AXa_LOS a) 9).activate (R.BLD_AXa_LOS a)); let d : Dev := (d.modBld a fun x => { x with per := 1 + d.free % 3, losN := 2, cPh := 0, target := d.free % 50000, rate := 1 + d.free % 300 }); { dev := d } : State), (1 : Fin 16), (let iu : Int := 1; (iu % 4000 - 2000) : Int), (let iv : Int := 1; (iv % 4000 - 2000) : Int), by decide⟩,
    ⟨(let a : Fin 16 := 1; let d : Dev := base; let d : Dev := ((axAt d a 1).modBld a fun x => { x with satAt := if d.free % 3 = 0 then 0 else d.sys.now8 + 1 - d.free % 250000000, satTs := [d.sys.now8, d.sys.now8 - d.free % 250000000] }); { dev := d } : State), (1 : Fin 16), (let s : State := { dev := base }; (if s.dev.free % 2 = 0 then 2047 else -2048) : Int), (let iv : Int := 0; (iv % 4000 - 2000) : Int), by decide⟩⟩

theorem witness_DcBuses :
    (∃ (s : State) (m : Fin 2) (a : Fin 16) (c : Axis), s.dev.domOn 3 = true ∧ s.dev.armed 38 4 = true ∧ s.dev.axis a = some c ∧ c.dcBus = m.val ∧ (s.dev.bldS a).startPer = true ∧ (s.dev.bldS a).losPer = false ∧ s.dev.bldState a = 3 ∧ ((s.dev.bldS a).perSt = 2 ∨ (s.dev.bldS a).perSt = 3)) ∧
    (∃ (s : State) (m : Fin 2) (a : Fin 16) (c : Axis), s.dev.domOn 3 = true ∧ s.dev.armed 38 4 = true ∧ s.dev.axis a = some c ∧ c.dcBus = m.val ∧ (s.dev.bldS a).startPer = false ∧ (s.dev.bldS a).losPer = true ∧ (s.dev.bldState a = 1 ∨ s.dev.bldState a = 10)) ∧
    (∃ (s : State) (m : Fin 2) (v : BitVec 12), s.dev.domOn 3 = true) ∧
    (∃ (s : State) (m : Fin 2) (a : Fin 16), nonePrecedes s.dev ∧ s.dev.domOn 3 = true ∧ (s.dev.axesToCut m = [a.val] ∨ s.dev.axesToCut m = [])) ∧
    (∃ (s : State) (m : Fin 2), s.dev.domOn 3 = true) ∧
    (∃ (s : State) (m : Fin 2), nonePrecedes s.dev ∧ s.dev.domOn 3 = true) ∧
    (∃ (s : State) (m : Fin 2) (v : BitVec 12), s.dev.domOn 3 = false) :=
  ⟨⟨(let d : Dev := base; let d : Dev := (axAt d 1 (3)); let d : Dev := ({ d.put F.FRD_STATUS.state 5 with frd := { d.frd with cfg := { d.frd.cfg with reacts := [{ source := 38, reactions := 16 }] } } }); let d : Dev := (onAll d); { dev := (d.modBld 1 fun x => { x with startPer := true, losPer := false, perSt := 2 + d.free % 2 }) } : State), (1 : Fin 2), (1 : Fin 16), (let d : Dev := base; let d : Dev := (axAt d 1 (3)); let d : Dev := ({ d.put F.FRD_STATUS.state 5 with frd := { d.frd with cfg := { d.frd.cfg with reacts := [{ source := 38, reactions := 16 }] } } }); ((d.axis 1).getD { axis := 1 } : Axis)), by decide⟩,
    ⟨(let d : Dev := base; let d : Dev := (axAt d 1 ([1, 10].getD (d.free % 2) 1)); let d : Dev := ({ d.put F.FRD_STATUS.state 5 with frd := { d.frd with cfg := { d.frd.cfg with reacts := [{ source := 38, reactions := 16 }] } } }); let d : Dev := (onAll d); { dev := (d.modBld 1 fun x => { x with startPer := false, losPer := true, perSt := 2 + d.free % 2 }) } : State), (1 : Fin 2), (1 : Fin 16), (let d : Dev := base; let d : Dev := (axAt d 1 ([1, 10].getD (d.free % 2) 1)); let d : Dev := ({ d.put F.FRD_STATUS.state 5 with frd := { d.frd with cfg := { d.frd.cfg with reacts := [{ source := 38, reactions := 16 }] } } }); ((d.axis 1).getD { axis := 1 } : Axis)), by decide⟩,
    ⟨(let d : Dev := base; let d : Dev := (onAll d); { dev := d } : State), (let d : Dev := base; (Fin.ofNat 2 d.free) : Fin 2), (let d : Dev := base; (BitVec.ofNat 12 d.free) : BitVec 12), by decide⟩,
    ⟨(let a : Fin 16 := 1; let d : Dev := base; let d : Dev := (axAt d a ([1, 3, 5, 7, 8, 10].getD (d.free % 6) 0)); let d : Dev := ({ d.put F.FRD_STATUS.state 5 with frd := { d.frd with cfg := { d.frd.cfg with reacts := [{ source := 38, reactions := if d.free % 4 = 0 then 0 else 16 }] } } }); let d : Dev := (onAll d); { dev := (List.range 16).foldl (fun d a => d.modBld a fun x => { x with startPer := false, losPer := false }) d } : State), (1 : Fin 2), (1 : Fin 16), by decide⟩,
    ⟨(let d : Dev := base; let d : Dev := (onAll d); { dev := d } : State), (let d : Dev := base; (Fin.ofNat 2 d.free) : Fin 2), by decide⟩,
    ⟨(let d : Dev := base; let d : Dev := (onAll (axAt d 1 ([1, 3, 5, 7, 8, 10].getD (d.free % 6) 0))); let d : Dev := ({ d.put F.FRD_STATUS.state 5 with frd := { d.frd with cfg := { d.frd.cfg with reacts := [{ source := 38, reactions := if d.free % 4 = 0 then 0 else 16 }] } } }); { dev := (List.range 16).foldl (fun d a => d.modBld a fun x => { x with startPer := false, losPer := false }) d } : State), (1 : Fin 2), by decide⟩,
    ⟨(let d : Dev := base; let d : Dev := (d.putBit F.PWR_DOMAINS.domains 3 false); { dev := d } : State), (1 : Fin 2), (5 : BitVec 12), by decide⟩⟩

end Sys2Proof.Tests.Bld2

namespace Sys2Proof.Tests.Stp

def single (d : Dev) : Dev := { onAll d with frd := { d.frd with cfg := { d.frd.cfg with role := { d.frd.cfg.role with grade := 0 } } } }

def stAt (d : Dev) (m st : Nat) : Dev :=
  let d := single d
  let d := { d with frd := { d.frd with cfg := { d.frd.cfg with axes := [{ axis := 16 + m, role := 6, direction := if d.free % 3 = 0 then 1 else 2, dcBus := 2, maxSpeed := 3000, pwmKhz := 20, idle := 2, limits := 3 }] } }, sys := { d.sys with cut := false }, flt := { d.flt with hitSlot := 0 } }
  let d := ((d.put (F.STP_AXm_STATUS.state m) st).put (F.STP_AXm_STATUS.at_limf m) 0).put (F.STP_AXm_STATUS.at_limr m) 0
  let d := d.putTw (0x300000 + m * 0x200 + 8 * 63) (2 ^ 64 - 1)
  d.modStp m fun x => { x with prof := { p := 5 * 2 ^ 32, v := 0, target := 5 * 2 ^ 32 }, offPend := false, homeFail := false, interrupted := false, moveDone := 0, recNo := none }

theorem witness_StepperCommands :
    (∃ (s : State) (f : Firing) (m : Fin 16), s.dev.actionHit 1 f.target = false ∧ s.dev.actionHit 3 f.target = false ∧ f.late = false ∧ f.tag = 0 ∧ f.target = 16 + m.val ∧ (s.dev.stpState m = 0 ∨ s.dev.idled = true)) ∧
    (∃ (s : State) (m : Fin 16), stOpen s.dev m ∧ (s.dev.stpState m = 0 ∨ s.dev.idled = true)) ∧
    (∃ (s : State) (f : Firing) (m : Fin 16) (r : Fin 8), s.dev.idled = false ∧ s.dev.actionHit 1 f.target = false ∧ f.target = 16 + m.val ∧ f.arg = r.val ∧ s.dev.stpState m ≠ 0 ∧ s.dev.stpBlocked m = none ∧ s.dev.get (F.STP_AXm_MRECr.speed m r) ≠ 0 ∧ s.dev.rd (R.STP_AXm_MRECr m r 1) < 2 ^ 33 ∧ s.dev.towardLimit m (sgn (stpGoal s.dev m r * 2 ^ 32 - (s.dev.stpS m).prof.p)) = false ∧ s.dev.uni (16 + m) = false) ∧
    (∃ (s : State) (f : Firing) (m : Fin 16), s.dev.actionHit 2 f.target = false ∧ f.target = 16 + m.val ∧ (s.dev.stpState m = 2 ∨ s.dev.stpState m = 4)) ∧
    (∃ (s : State) (f : Firing) (m : Fin 16) (r : Nat), s.dev.idled = false ∧ s.dev.actionHit 3 f.target = false ∧ f.target = 16 + m.val ∧ s.dev.stpState m = 1 ∧ s.dev.stpBlocked m = none ∧ (s.dev.stpS m).recNo = some r ∧ (s.dev.stpS m).interrupted = true ∧ ((s.dev.stpS m).prof.target - (s.dev.stpS m).prof.p) / 2 ^ 32 ≠ 0 ∧ s.dev.towardLimit m (sgn ((s.dev.stpS m).prof.target - (s.dev.stpS m).prof.p)) = false) ∧
    (∃ (s : State) (m : Fin 16) (r : Fin 8), s.dev.idled = false ∧ stOpen s.dev m ∧ s.dev.stpState m ≠ 0 ∧ s.dev.stpBlocked m = none ∧ s.dev.get (F.STP_AXm_MRECr.speed m r) ≠ 0 ∧ s.dev.rd (R.STP_AXm_MRECr m r 1) < 2 ^ 33 ∧ s.dev.towardLimit m (sgn (stpGoal s.dev m r * 2 ^ 32 - (s.dev.stpS m).prof.p)) = false) ∧
    (∃ (s : State) (m : Fin 16) (r : Fin 8), stOpen s.dev m ∧ (s.dev.stpState m = 0 ∨ s.dev.idled = true ∨ (s.dev.stpBlocked m).isSome = true ∨ s.dev.get (F.STP_AXm_MRECr.speed m r) = 0 ∨ 2 ^ 33 ≤ s.dev.rd (R.STP_AXm_MRECr m r 1))) ∧
    (∃ (s : State) (m : Fin 16), stOpen s.dev m) ∧
    (∃ (s : State) (m : Fin 16) (r : Nat), s.dev.idled = false ∧ stOpen s.dev m ∧ s.dev.stpState m = 1 ∧ s.dev.stpBlocked m = none ∧ (s.dev.stpS m).recNo = some r ∧ s.dev.towardLimit m (sgn ((s.dev.stpS m).prof.target - (s.dev.stpS m).prof.p)) = false) ∧
    (∃ (s : State) (m : Fin 16), s.dev.idled = false ∧ stOpen s.dev m ∧ s.dev.stpState m = 1 ∧ s.dev.limUsed m (s.dev.homeSide m) = true ∧ s.dev.sine m 255 ≠ 0) ∧
    (∃ (s : State) (m : Fin 16), stOpen s.dev m ∧ (s.dev.stpState m ≠ 1 ∨ s.dev.idled = true ∨ s.dev.limUsed m (s.dev.homeSide m) = false)) ∧
    (∃ (s : State) (m : Fin 16), stOpen s.dev m ∧ (s.dev.stpAxis m).isSome = true) ∧
    (∃ (s : State) (m : Fin 16), stOpen s.dev m) ∧
    (∃ (s : State) (m : Fin 16), stOpen s.dev m) :=
  ⟨⟨(let d : Dev := base; let d : Dev := (stAt d (d.free % 16) (d.free / 7 % 3)); { dev := d.put F.SYS_HOST_STATE.state (2 + d.free % 2 * 2) } : State), (let f : Firing := ⟨5, 0, 2, 0, 9, false, false⟩; let d : Dev := base; ({ f with target := 16 + d.free % 16 }) : Firing), (let d : Dev := base; Fin.ofNat 16 d.free : Fin 16), by decide⟩,
    ⟨(let d : Dev := base; let d : Dev := (stAt d (d.free % 16) (d.free / 7 % 3)); { dev := d.put F.SYS_HOST_STATE.state (2 + d.free % 2 * 2) } : State), (let d : Dev := base; Fin.ofNat 16 d.free : Fin 16), by decide⟩,
    ⟨(let d : Dev := base; let d : Dev := (stAt d (Fin.ofNat 16 (d.free / 7)) (1 + d.free % 2)); let d : Dev := ((d.wr (R.STP_AXm_MRECr (Fin.ofNat 16 (d.free / 7)) (d.free / 3 % 8) 0) ((1 + d.free % 500) * 2 ^ 32 + (d.free % 9 * 1000 + 1))).wr (R.STP_AXm_MRECr (Fin.ofNat 16 (d.free / 7)) (d.free / 3 % 8) 1) (d.free % 2 * 2 ^ 32 + 300 * 65536 + 40)); let d : Dev := (d.wr (R.STP_AXm_TARGET (Fin.ofNat 16 (d.free / 7))) 5); let d : Dev := (({ d with flt := { d.flt with hitSlot := 0 } } : Dev)); let d : Dev := (d.modStp (Fin.ofNat 16 (d.free / 7)) fun x => { x with prof := { x.prof with v := ((d.free % 5 : Nat) - 2) * 2 ^ 41 } }); let d : Dev := (({ d with frd := { d.frd with cfg := { d.frd.cfg with axes := d.frd.cfg.axes.map fun a => { a with limits := 0, direction := 2 } } } } : Dev)); { dev := d.put F.SYS_HOST_STATE.state 0 } : State), (let d : Dev := base; ({ idx := d.free % 4096, target := 16 + (d.free / 7) % 16, arg := d.free / 3 % 8, tag := d.free % 300, delivered := d.free % 100000, late := decide (d.free % 3 = 0), enc := false } : Firing)), (let d : Dev := base; (Fin.ofNat 16 (d.free / 7))), (let d : Dev := base; Fin.ofNat 8 (d.free / 3)), by decide⟩,
    ⟨(let d : Dev := base; let d : Dev := (stAt d (Fin.ofNat 16 (d.free / 7)) (2 + d.free % 2 * 2)); let d : Dev := (({ d with flt := { d.flt with hitSlot := 0 } } : Dev)); { dev := d } : State), (let d : Dev := base; ({ idx := d.free % 4096, target := 16 + (d.free / 7) % 16, arg := d.free / 3 % 8, tag := d.free % 300, delivered := d.free % 100000, late := decide (d.free % 3 = 0), enc := false } : Firing)), (let d : Dev := base; (Fin.ofNat 16 (d.free / 7))), by decide⟩,
    ⟨(let d : Dev := base; let d : Dev := ((stAt d (Fin.ofNat 16 (d.free / 7)) 1).modStp (Fin.ofNat 16 (d.free / 7)) fun x => { x with interrupted := true, recNo := some 3, prof := { x.prof with target := x.prof.p + 9 * 2 ^ 32 } }); let d : Dev := (({ d with flt := { d.flt with hitSlot := 0 } } : Dev)); let d : Dev := (({ d with frd := { d.frd with cfg := { d.frd.cfg with axes := d.frd.cfg.axes.map fun a => { a with limits := 0 } } } } : Dev)); { dev := d.put F.SYS_HOST_STATE.state 0 } : State), (let d : Dev := base; ({ idx := d.free % 4096, target := 16 + (d.free / 7) % 16, arg := d.free / 3 % 8, tag := d.free % 300, delivered := d.free % 100000, late := decide (d.free % 3 = 0), enc := false } : Firing)), (let d : Dev := base; (Fin.ofNat 16 (d.free / 7))), (3 : Nat), by decide⟩,
    ⟨(let m : Fin 16 := 1; let r : Fin 8 := 1; let d : Dev := base; let d : Dev := (stAt d m 1); let d : Dev := ((d.wr (R.STP_AXm_MRECr m r 0) ((1 + d.free % 500) * 2 ^ 32 + (d.free % 9 * 1000 + 1))).wr (R.STP_AXm_MRECr m r 1) (d.free % 2 * 2 ^ 32 + 300 * 65536 + 40)); let d : Dev := (d.wr (R.STP_AXm_TARGET m) 5); let d : Dev := (d.modStp m fun x => { x with prof := { x.prof with v := ((d.free % 5 : Nat) - 2) * 2 ^ 41 } }); { dev := d.put F.SYS_HOST_STATE.state 0 } : State), (1 : Fin 16), (1 : Fin 8), by decide⟩,
    ⟨(let m : Fin 16 := 1; let r : Fin 8 := 1; let d : Dev := base; let d : Dev := (stAt d m ([0, 1, 3, 4, 5, 1].getD (d.free % 6) 0)); let d : Dev := ((d.wr (R.STP_AXm_MRECr m r 0) (if d.free % 7 = 0 then 0 else 2 ^ 32 + (d.free % 9 * 1000 + 1))).wr (R.STP_AXm_MRECr m r 1) (d.free % 2 * 2 ^ 33)); let d : Dev := (if d.free % 5 = 0 then d.putTw (0x300000 + m * 0x200 + 8 * 63) 0 else d); { dev := d } : State), (1 : Fin 16), (1 : Fin 8), by decide⟩,
    ⟨(let m : Fin 16 := 1; let d : Dev := base; let d : Dev := (stAt d m ([0, 1, 2, 4, 5, 3].getD (d.free % 6) 0)); let d : Dev := (d.modStp m fun x => { x with moveDone := if d.free % 4 = 0 then d.sys.now8 + 1 else 0 }); { dev := d } : State), (1 : Fin 16), by decide⟩,
    ⟨(let m : Fin 16 := 1; let d : Dev := base; let d : Dev := ((stAt d m 1).modStp m fun x => { x with interrupted := d.free % 5 ≠ 0, recNo := some 3, prof := { x.prof with target := if d.free % 4 = 0 then x.prof.p else 9 * 2 ^ 32 } }); { dev := d.put F.SYS_HOST_STATE.state 0 } : State), (1 : Fin 16), ((3) : Nat), by decide⟩,
    ⟨(let m : Fin 16 := 1; let d : Dev := base; let d : Dev := (stAt d m 1); let d : Dev := (if d.free % 2 = 0 then d.putInp (64 + m) { (d.inpS (64 + m)) with qual := true } else d); { dev := d.put F.SYS_HOST_STATE.state 0 } : State), (1 : Fin 16), by decide⟩,
    ⟨(let m : Fin 16 := 1; let d : Dev := base; let d : Dev := (stAt d m ([0, 1, 2, 3, 5].getD (d.free % 5) 0)); let d : Dev := (if d.free % 3 = 0 then { d with frd := { d.frd with cfg := { d.frd.cfg with axes := d.frd.cfg.axes.map fun a => { a with limits := 0 } } } } else d); { dev := d } : State), (1 : Fin 16), by decide⟩,
    ⟨(let m : Fin 16 := 1; let d : Dev := base; let d : Dev := (stAt d m ([0, 1, 2, 4, 5, 0].getD (d.free % 6) 0)); { dev := d } : State), (1 : Fin 16), by decide⟩,
    ⟨(let m : Fin 16 := 1; let d : Dev := base; let d : Dev := (stAt d m (d.free % 6)); { dev := d } : State), (1 : Fin 16), by decide⟩,
    ⟨(let m : Fin 16 := 1; let d : Dev := base; let d : Dev := ((stAt d m ([5, 0, 1, 2].getD (d.free % 4) 0)).modStp m fun x => { x with prof := { x.prof with v := 9 } }); { dev := d } : State), (1 : Fin 16), by decide⟩⟩

/-- Engine time runs, and the period to come has been run or not. -/
def runs (d : Dev) (m : Nat) : Dev :=
  let d := { onAll d with evt := { d.evt with running := true } }
  let d := d.wr R.EVT_TIME (d.now % 2 ^ 50 / (1 + d.free % 2 * 1249) * (1 + d.free % 2 * 1249))
  d.modStp m fun x => { x with ran := if d.free % 3 = 0 then (d.now + 1249) / 1250 + 1 else 7 }

theorem witness_StepperMotion :
    (∃ (s : State) (m : Fin 16), periodRuns s.dev) ∧
    (∃ (s : State) (m : Fin 16), (s.dev.domOn 3 = false ∨ s.dev.evt.running = false)) ∧
    (∃ (s : State) (m : Fin 16), periodRuns s.dev ∧ s.dev.stpState m = 4) ∧
    (∃ (s : State) (m : Fin 16), periodRuns s.dev ∧ s.dev.stpState m = 2) ∧
    (∃ (s : State) (m : Fin 16), periodRuns s.dev ∧ s.dev.stpState m = 3) ∧
    (∃ (s : State) (n : Fin 16) (level : Bool), notPaired s.dev ∧ s.dev.domOn 3 = true) ∧
    (∃ (s : State) (k : Fin 32) (pin : Bool), s.dev.dinOn k = true) ∧
    (∃ (s : State) (k : Fin 32) (pin : Bool), s.dev.dinOn k = false) ∧
    (∃ (s : State) (m : Fin 16) (c : Nat) (ta : Nat) (e : Nat) (l : Bool), s.dev.nextApply m = some (c, ta, e, l) ∧ s.dev.evt.running = true ∧ ta < 2 ^ 62 ∧ s.dev.now < 2 ^ 62) ∧
    (∃ (s : State) (m : Fin 16) (ta : Nat) (e : Nat) (l : Bool), s.dev.nextApply m = some (2, ta, e, l) ∧ s.dev.evt.running = true ∧ ta < 2 ^ 62 ∧ s.dev.now < 2 ^ 62 ∧ s.dev.limUsed m 0 = true ∧ l = s.dev.limLevel m 0 ∧ s.dev.stpState m = 2 ∧ s.dev.on (F.STP_AXm_STATUS.latched m) = false ∧ 0 < (s.dev.stpS m).prof.v) ∧
    (∃ (s : State) (m : Fin 16) (ta : Nat) (e : Nat), s.dev.nextApply m = some (2, ta, e, s.dev.limLevel m 0) ∧ s.dev.evt.running = true ∧ ta < 2 ^ 62 ∧ s.dev.now < 2 ^ 62 ∧ e < 2 ^ 62 ∧ s.dev.limUsed m 0 = true ∧ s.dev.homeSide m = 0 ∧ s.dev.stpState m = 4 ∧ s.dev.get (F.STP_AXm_STATUS.home_phase m) = 2) ∧
    (∃ (s : State) (m : Fin 16), s.dev.nextApply m = none) :=
  ⟨⟨(let m : Fin 16 := 1; let d : Dev := base; let d : Dev := stAt d m ([0, 1, 5, 2, 3, 4].getD (d.free % 6) 0); let d : Dev := runs d m; { dev := d } : State), (1 : Fin 16), by decide⟩,
    ⟨(let d : Dev := base; let d : Dev := if d.free % 2 = 0 then { d with evt := { d.evt with running := false } } else d.put F.PWR_DOMAINS.domains 0; { dev := d } : State), (1 : Fin 16), by decide⟩,
    ⟨(let m : Fin 16 := 1; let d : Dev := base; let d : Dev := (((stAt d m 4).put (F.STP_AXm_STATUS.home_phase m) (1 + d.free % 3)).modStp m fun x => { x with released := d.free % 2 = 0, prof := if d.free % 4 < 2 then { p := 5 * 2 ^ 32, v := 7 * 2 ^ 22, target := 5 * 2 ^ 32 + d.free % 3 * 2 ^ 23, acc := 2 ^ 20, dec := 2 ^ 20, peak := 2 ^ 24 } else { p := 5 * 2 ^ 32, v := 0, target := 9 * 2 ^ 40, acc := 2 ^ 20, dec := 2 ^ 20, peak := 2 ^ 24 } }); let d : Dev := runs d m; { dev := d } : State), (1 : Fin 16), by decide⟩,
    ⟨(let m : Fin 16 := 1; let d : Dev := base; let d : Dev := ((stAt d m 2).modStp m fun x => { x with prof := if d.free % 2 = 0 then { p := 5 * 2 ^ 32, v := 7 * 2 ^ 22, target := 5 * 2 ^ 32 + d.free % 3 * 2 ^ 23, acc := 2 ^ 20, dec := 2 ^ 20, peak := 2 ^ 24 } else { p := 5 * 2 ^ 32, v := 0, target := 9 * 2 ^ 40, acc := 2 ^ 20, dec := 2 ^ 20, peak := 2 ^ 24 } }); let d : Dev := runs d m; { dev := d } : State), (1 : Fin 16), by decide⟩,
    ⟨(let m : Fin 16 := 1; let d : Dev := base; let d : Dev := ((stAt d m 3).modStp m fun x => { x with homeFail := d.free % 2 = 0, searchLeft := d.free % 4 < 2, offPend := d.free % 5 = 0, prof := { p := 5 * 2 ^ 32, v := (d.free % 3 : Nat) * 2 ^ 22, target := if d.free % 7 < 3 then 5 * 2 ^ 32 + d.free % 4 * 2 ^ 20 else 9 * 2 ^ 60, acc := 2 ^ 20, dec := 2 ^ 20, peak := 2 ^ 24 } }); let d : Dev := runs d m; { dev := d } : State), (1 : Fin 16), by decide⟩,
    ⟨(let n : Fin 16 := 1; let d : Dev := base; let d : Dev := (single d); let d : Dev := (d.putInp (64 + n) { (d.inpS (64 + n)) with raw := d.free % 2 = 0 }); { dev := d } : State), (1 : Fin 16), (true : Bool), by decide⟩,
    ⟨(let k : Fin 32 := 1; let d : Dev := base; let d : Dev := (single d); let d : Dev := ({ d.putInp (128 + k) { (d.inpS (128 + k)) with raw := d.free % 2 = 0, qual := d.free % 3 = 0 } with frd := { d.frd with cfg := { d.frd.cfg with pins := [{ group := 2, index := 1, func := 1, k := 1, invert := d.free % 5 = 0 }], chans := if d.free % 2 = 0 then [] else [{ channel := 1, dinInterlock := 2 }] } } }); { dev := d } : State), (1 : Fin 32), (true : Bool), by decide⟩,
    ⟨(let d : Dev := base; let d : Dev := ({ d with frd := { d.frd with cfg := { d.frd.cfg with pins := [] } } }); { dev := d } : State), (1 : Fin 32), (true : Bool), by decide⟩,
    ⟨(let m : Fin 16 := 1; let d : Dev := base; let d : Dev := runs (stAt d m (1 + d.free % 4)) m; let d : Dev := (((d.putInp (64 + m) {}).putInp (96 + m) {}).putInp (160 + m) {}).putInp (64 + d.free % 2 * 96 + m) { apply := [(d.now + 128, d.now - 5, true)] }; { dev := d } : State), (1 : Fin 16), (let s : State := { dev := base }; (2 + s.dev.free % 2 * 3) : Nat), (let s : State := { dev := base }; (s.dev.now % 2 ^ 50 + 128) : Nat), (let s : State := { dev := base }; (s.dev.now % 2 ^ 50 - 5) : Nat), (true : Bool), by decide⟩,
    ⟨(let m : Fin 16 := 1; let d : Dev := base; let d : Dev := ({ (stAt d m 2).modStp m fun x => { x with prof := { x.prof with v := 99, target := 2 ^ 50 } } with evt := { d.evt with running := true } }); let d : Dev := ((d.wr R.EVT_TIME (d.now % 2 ^ 50)).put (F.STP_AXm_STATUS.latched m) 0); let d : Dev := (((d.putInp (64 + m) { apply := [(d.now + 128, d.now - 5, true)] }).putInp (96 + m) {}).putInp (160 + m) {}); let d : Dev := ((d.put (F.STP_AXm_LIMCFG.limf_level m) 1).activate (R.STP_AXm_LIMCFG m)); { dev := d } : State), (1 : Fin 16), (let s : State := { dev := base }; (s.dev.now % 2 ^ 50 + 128) : Nat), (let s : State := { dev := base }; (s.dev.now % 2 ^ 50 - 5) : Nat), ((true) : Bool), by decide⟩,
    ⟨(let m : Fin 16 := 1; let d : Dev := base; let d : Dev := ({ ((stAt d m 4).put (F.STP_AXm_STATUS.home_phase m) 2).modStp m fun x => { x with prof := { x.prof with v := 99, target := 2 ^ 50 } } with evt := { d.evt with running := true } }); let d : Dev := ((d.wr R.EVT_TIME (d.now % 2 ^ 50)).put (F.STP_AXm_STATUS.latched m) 0); let d : Dev := (((d.putInp (64 + m) { apply := [(d.now + 128, d.now - 5, true)] }).putInp (96 + m) {}).putInp (160 + m) {}); let d : Dev := ((((d.put (F.STP_AXm_LIMCFG.limf_level m) 1).activate (R.STP_AXm_LIMCFG m)).put (F.STP_AXm_HOMECFG.home_dir m) 0).activate (R.STP_AXm_HOMECFG m)); { dev := d } : State), (1 : Fin 16), (let s : State := { dev := base }; (s.dev.now % 2 ^ 50 + 128) : Nat), (let s : State := { dev := base }; (s.dev.now % 2 ^ 50 - 5) : Nat), by decide⟩,
    ⟨(let m : Fin 16 := 1; let d : Dev := base; let d : Dev := (((d.putInp (64 + m) {}).putInp (96 + m) {}).putInp (160 + m) {}); { dev := d } : State), (1 : Fin 16), by decide⟩⟩

theorem witness_StepperChopper :
    (∃ (s : State) (m : Fin 16), (s.dev.stpAxis m).isSome = true ∧ s.dev.stpState m ≠ 0) ∧
    (∃ (s : State) (m : Fin 16), s.dev.stpState m = 0) ∧
    (∃ (s : State) (m : Fin 16) (b : Bool), s.dev.stpState m ≠ 0 ∧ s.dev.stpState m ≠ 5) :=
  ⟨⟨(let m : Fin 16 := 1; let d : Dev := base; let d : Dev := ((stAt d m (1 + d.free % 5)).setReady (R.STP_AXm_COMMIT m) (d.free % 3 = 0)); let d : Dev := (d.modStp m fun x => { x with resNext := d.free % 9, lastStep := x.prof.p / 2 ^ 40 - d.free / 2 % 2, a := { x.a with noTrip := d.free % 2 * 63 }, b := { x.b with noTrip := 3 } }); { dev := d } : State), (1 : Fin 16), by decide⟩,
    ⟨(let m : Fin 16 := 1; let d : Dev := base; let d : Dev := ((stAt d m 0).setReady (R.STP_AXm_COMMIT m) (d.free % 2 = 0)); { dev := d } : State), (1 : Fin 16), by decide⟩,
    ⟨(let m : Fin 16 := 1; let b : Bool := true; let d : Dev := base; let d : Dev := ((stAt d m 2).modStp m fun x => { x with a := { ref := 40 + d.free % 99, prev := 50, onSince := d.sys.now8 - d.free % 300, early := d.free % 9, phase := d.free / 9 % 6 / 5 }, b := { ref := 70, onSince := d.sys.now8, early := d.free % 9 } }); { dev := d } : State), (1 : Fin 16), (true : Bool), by decide⟩⟩

end Sys2Proof.Tests.Stp

namespace Sys2Proof.Tests.Loop

def single (d : Dev) : Dev := { onAll d with frd := { d.frd with cfg := { d.frd.cfg with role := { d.frd.cfg.role with grade := 0 } } } }

def fine (f : Firing) : Firing := { f with late := false, tag := 0 }

def slotAt (d : Dev) (k st : Nat) : Dev :=
  let d := single d
  let d := { d with frd := { d.frd with cfg := { d.frd.cfg with loops := [{ slot := k, kind := 1 + d.free % 3, feedback := d.free % 2 * 65, output := 3, safeValue := 700, standby := 1200, sampleHz := 1000, ready := d.free % 2 = 0 }] } }, flt := { d.flt with hitSlot := 0 } }
  let d := (d.put (F.LOOP_Sk_STATUS.state k) st).setReady (R.LOOP_Sk_COMMIT k) false
  let d := { d with evt := { d.evt with running := true } }
  (d.wr R.EVT_TIME (1 + d.now % 2 ^ 50)).modLoop k fun x => { x with due := [], entered := 0, conv := none }

def coefs (d : Dev) (k : Nat) (l : List Nat) : Dev := { d with actTbl := (List.range l.length).foldl (fun m i => Store.set 0#64 m (0x310000 + k * 0x100 + 8 * i) (BitVec.ofNat 64 (l.getD i 0))) d.actTbl }

def pid (d : Dev) : List Nat := [3000 * 2 ^ 32 + 70000, 5 * 2 ^ 32 + 3 * 2 ^ 16 + 9, 0, 0, 60000 * 2 ^ 16 + d.free % 5, 3 * 2 ^ 48 + 50 * 2 ^ 32]

theorem witness_LoopCommands :
    (∃ (s : State) (k : Fin 64), loopOpen s.dev k) ∧
    (∃ (s : State) (k : Fin 64) (r : Fin 8), loopOpen s.dev k) ∧
    (∃ (s : State) (k : Fin 64) (v : Word32), s.dev.direct (R.LOOP_Sk_SETPOINT k).off ∧ s.dev.twin = false) ∧
    (∃ (s : State) (o : Fin 16) (v : Word32), s.dev.direct (R.LOOP_OUTo_CFG o).off ∧ s.dev.twin = false) ∧
    (∃ (s : State) (f : Firing), s.dev.actionHit 6 f.target = false ∧ s.dev.actionHit 7 f.target = false ∧ (s.dev.loopState f.target = 1 ∨ s.dev.loopState f.target = 2 ∨ s.dev.loopState f.target = 3)) ∧
    (∃ (s : State) (f : Firing), s.dev.actionHit 6 f.target = false ∧ f.late = false ∧ f.tag = 0 ∧ (s.dev.loopState f.target = 0 ∨ s.dev.loopState f.target = 4)) ∧
    (∃ (s : State) (f : Firing), s.dev.actionHit 5 f.target = false ∧ 1 ≤ s.dev.loopState f.target ∧ s.dev.loopState f.target ≤ 3 ∧ f.arg < 8 ∧ s.dev.coef f.target (0x40 + 8 * f.arg) < 2 ^ 33) :=
  ⟨⟨(let k : Fin 64 := 1; let d : Dev := base; let d : Dev := (slotAt d k (d.free % 6)); { dev := d } : State), (1 : Fin 64), by decide⟩,
    ⟨(let k : Fin 64 := 1; let d : Dev := base; let d : Dev := (coefs (slotAt d k (d.free % 6)) k ((List.range 8).map (fun _ => 0) ++ (List.range 8).map fun i => (d.free + i) % 2 * 2 ^ 33 + 77)); { dev := d } : State), (1 : Fin 64), (1 : Fin 8), by decide⟩,
    ⟨(let k : Fin 64 := 1; let d : Dev := base; let d : Dev := (slotAt d k (d.free % 6)); { dev := d } : State), (1 : Fin 64), (5 : Word32), by decide⟩,
    ⟨(let d : Dev := base; let d : Dev := (slotAt d 5 (d.free / 3 % 3)); { dev := d } : State), (let s : State := { dev := base }; let o : Fin 16 := 1; (if s.dev.free % 3 = 0 then o else 3) : Fin 16), (5 : Word32), by decide⟩,
    ⟨(let d : Dev := base.put F.SYS_HOST_STATE.state 0; let d : Dev := (slotAt d (d.free % 64) (1 + d.free / 64 % 3)); { dev := d } : State), (let f : Firing := ⟨5, 0, 3, 0, 9, false, false⟩; let f := ({ fine f with target := f.target % 64 }); let d : Dev := base.put F.SYS_HOST_STATE.state 0; let d : Dev := (slotAt d (d.free % 64) (1 + d.free / 64 % 3)); let s : State := { dev := d }; ({ f with late := s.dev.free % 3 = 0, target := s.dev.free % 64 }) : Firing), by decide⟩,
    ⟨(let d : Dev := base; let d : Dev := (slotAt d (d.free % 64) (d.free / 64 % 2 * 4)); { dev := d } : State), (let f : Firing := ⟨5, 0, 3, 0, 9, false, false⟩; let f := ({ fine f with target := f.target % 64 }); let d : Dev := base; let d : Dev := (slotAt d (d.free % 64) (d.free / 64 % 2 * 4)); let s : State := { dev := d }; ({ f with target := s.dev.free % 64 }) : Firing), by decide⟩,
    ⟨(let d : Dev := base; let d : Dev := (coefs (slotAt d (d.free % 64) (1 + d.free / 64 % 3)) (d.free % 64) ((List.range 8).map (fun _ => 0) ++ (List.range 8).map fun i => 77)); { dev := d } : State), (let f : Firing := ⟨5, 0, 3, 0, 9, false, false⟩; let f := ({ fine f with target := f.target % 64, arg := 3 }); let d : Dev := base; let d : Dev := (coefs (slotAt d (d.free % 64) (1 + d.free / 64 % 3)) (d.free % 64) ((List.range 8).map (fun _ => 0) ++ (List.range 8).map fun i => 77)); let s : State := { dev := d }; ({ f with late := s.dev.free % 3 = 0, target := s.dev.free % 64 }) : Firing), by decide⟩⟩

theorem witness_LoopSample :
    (∃ (s : State) (k : Fin 64) (code : Int), (s.dev.loopT k = none ∨ s.dev.evt.running = false)) ∧
    (∃ (s : State) (k : Fin 64) (code : Int), boundaryRuns s.dev k) ∧
    (∃ (s : State) (k : Fin 64) (code : Int), boundaryRuns s.dev k ∧ s.dev.loopState k = 0 ∧ (s.dev.isReady (R.LOOP_Sk_COMMIT k) = false ∨ s.dev.cal.sent = [])) ∧
    (∃ (s : State) (k : Fin 64) (code : Int), slotAlone s.dev k ∧ s.dev.loopState k = 1 ∧ (s.dev.loopS k).due = [] ∧ s.dev.isReady (R.LOOP_Sk_COMMIT k) = false) ∧
    (∃ (s : State) (k : Fin 64) (code : Int), slotAlone s.dev k ∧ s.dev.loopState k = 2 ∧ (∀ c ∈ (s.dev.loopS k).due, s.dev.timeAt (s.dev.nextBoundary k * sampleP s.dev k) ≤ c.2.2) ∧ (s.dev.loopS k).entered = 0 ∧ s.dev.isReady (R.LOOP_Sk_COMMIT k) = false ∧ s.dev.cf k 0x18 16 16 ≠ 1) ∧
    (∃ (s : State) (k : Fin 64) (code : Int) (op : Nat) (w : Nat), boundaryRuns s.dev k ∧ s.dev.groupOf k = [k.val] ∧ (s.dev.loopC k).group = 0xFF ∧ 1 ≤ s.dev.loopState k ∧ s.dev.loopState k ≤ 5 ∧ (s.dev.loopS k).due = [(op, 0, w)] ∧ w < s.dev.nextBoundary k * sampleP s.dev k ∧ op ∈ [1, 2, 3, 5, 6, 7] ∧ s.dev.isReady (R.LOOP_Sk_COMMIT k) = false) ∧
    (∃ (s : State) (k : Fin 64) (code : Int), slotAlone s.dev k ∧ s.dev.loopState k = 1 ∧ (s.dev.loopS k).due = [] ∧ s.dev.isReady (R.LOOP_Sk_COMMIT k) = true ∧ s.dev.cal.sent = []) ∧
    (∃ (s : State) (k : Fin 64) (tu : Nat × Nat), (s.dev.loopS k).hand = some tu ∧ s.dev.evt.running = true ∧ s.dev.now < 2 ^ 62 ∧ tu.1 < 2 ^ 62) ∧
    (∃ (s : State) (o : Fin 16), s.dev.evt.running = true ∧ s.dev.now < 2 ^ 62 ∧ (s.dev.outS o).u < 2 ^ 16 ∧ s.dev.cutValue o < 2 ^ 16) ∧
    (∃ (s : State) (o : Fin 16), s.dev.evt.running = false) ∧
    (∃ (s : State) (k : Fin 64), s.dev.loopState k = 2 ∧ (s.dev.loopS k).satSince ≠ 0 ∧ s.dev.evt.running = true ∧ s.dev.now < 2 ^ 62 ∧ (s.dev.loopS k).satSince < 2 ^ 62) :=
  ⟨⟨(let d : Dev := base; let d : Dev := (slotAt d 1 (d.free % 6)); let d : Dev := ({ d with evt := { d.evt with running := false } }); { dev := d } : State), (1 : Fin 64), (1 : Int), by decide⟩,
    ⟨(let d : Dev := base; let d : Dev := (slotAt d 1 (d.free % 6)); let d : Dev := (d.setReady (R.LOOP_Sk_COMMIT 1) (d.free % 2 = 0)); let d : Dev := (d.modLoop 1 fun x => { x with due := [(1, 0, d.now - 1), (2, 0, d.now)] }); { dev := d } : State), (1 : Fin 64), (1 : Int), by decide⟩,
    ⟨(let d : Dev := base; let d : Dev := (slotAt d 1 0); let d : Dev := ({ d.setReady (R.LOOP_Sk_COMMIT 1) (d.free % 2 = 0) with cal := { d.cal with sent := [] } }); let d : Dev := (if d.free % 4 = 0 then ((d.putTw (0x310100 + 32) (5 * 65536 + 2)).putTw (0x310100 + 24) 7).putTw (0x310100 + 16) 9 else d); { dev := d } : State), (1 : Fin 64), (1 : Int), by decide⟩,
    ⟨(let k : Fin 64 := 1; let d : Dev := base; let d : Dev := (slotAt d k 1); { dev := d } : State), (1 : Fin 64), (1 : Int), by decide⟩,
    ⟨(let k : Fin 64 := 1; let d : Dev := base; let d : Dev := (coefs (slotAt d k 2) k (pid d)); let d : Dev := (d.modLoop k fun x => { x with target := d.free % 9000, rate := d.free % 3 * 7, rw := 4000 * 256, i := (d.free % 999 : Nat) * 65536, d := 5, yfPrev := 3000 }); { dev := d } : State), (1 : Fin 64), (let code : Int := 900; (code % 20000) : Int), by decide⟩,
    ⟨(let k : Fin 64 := 1; let d : Dev := base; let d : Dev := (coefs (slotAt d k (1 + d.free % 5)) k (pid d)); let d : Dev := (d.modLoop k fun x => { x with due := [([1, 2, 3, 5, 6, 7].getD (d.free / 5 % 6) 0, 0, d.now - 1)] }); let d : Dev := (d.put F.SYS_HOST_STATE.state (d.free / 30 % 2 * 4)); { dev := d } : State), (1 : Fin 64), (900 : Int), (let s : State := { dev := base }; ([1, 2, 3, 5, 6, 7].getD (s.dev.free / 5 % 6) 0) : Nat), (let k : Fin 64 := 1; let d : Dev := base; let d : Dev := slotAt d k (1 + d.free % 5); d.now - 1 : Nat), by decide⟩,
    ⟨(let k : Fin 64 := 1; let d : Dev := base; let d : Dev := ((slotAt d k 1).setReady (R.LOOP_Sk_COMMIT k) true); let d : Dev := (let b := 0x310000 + k * 0x100; if d.free % 2 = 0 then ((d.putTw (b + 0x20) (5 * 65536 + 2)).putTw (b + 0x18) 7).putTw (b + 0x10) 9 else d.putTw (b + 0x20) (5 * 65536 + 6)); let d : Dev := ({ d with cal := { d.cal with sent := [] } }); { dev := d } : State), (1 : Fin 64), (1 : Int), by decide⟩,
    ⟨(let k : Fin 64 := 1; let d : Dev := base; let d : Dev := ({ (slotAt d k 2).wr R.EVT_TIME (d.now % 2 ^ 50) with evt := { d.evt with running := true } }); let d : Dev := (d.modLoop k fun x => { x with hand := some (d.now + d.free % 900, 77) }); { dev := d } : State), (1 : Fin 64), (let k : Fin 64 := 1; let d : Dev := base; let d : Dev := ({ (slotAt d k 2).wr R.EVT_TIME (d.now % 2 ^ 50) with evt := { d.evt with running := true } }); let d : Dev := (d.modLoop k fun x => { x with hand := some (d.now + d.free % 900, 77) }); let s : State := { dev := d }; ((s.dev.now + s.dev.free % 900, 77)) : Nat × Nat), by decide⟩,
    ⟨(let d : Dev := base; let d : Dev := (slotAt d 5 (d.free / 4 % 3)); let d : Dev := (let d := if d.free / 12 % 3 = 0 then d.put (F.LOOP_Sk_STATUS.state 5) 5 else d; { d with outU := Store.set {} d.outU 3 { u := d.free % 65536, ran := 0 } } ); let d : Dev := (d.wr R.EVT_TIME (d.now % 2 ^ 50)); { dev := d } : State), (let s : State := { dev := base }; let o : Fin 16 := 1; (if s.dev.free % 4 = 0 then o else 3) : Fin 16), by decide⟩,
    ⟨(let d : Dev := base; let d : Dev := ({ d with evt := { d.evt with running := false } }); { dev := d } : State), (1 : Fin 16), by decide⟩,
    ⟨(let k : Fin 64 := 1; let d : Dev := base.wr R.EVT_TIME 1000; let d : Dev := (coefs (slotAt d k 2) k [0, 0, 0, 0, 0, d.free % 3 * 65536]); let d : Dev := ({ (d.wr R.EVT_TIME (d.now % 2 ^ 50)).modLoop k fun x => { x with satSince := d.now % 2 ^ 50, satRep := d.free % 5 = 0, satDir := 1, target := 400 } with evt := { d.evt with running := true } }); { dev := d } : State), (1 : Fin 64), by decide⟩⟩

end Sys2Proof.Tests.Loop

namespace Sys2Proof.Tests.Pwr

def rails (d : Dev) (l : List DomEntry) : Dev := { d with frd := { d.frd with cfg := { d.frd.cfg with doms := l } } }

def seqAt (d : Dev) (st i : Nat) : Dev :=
  { ((d.put F.PWR_STATE.state st).put F.PWR_STATE.entry i) with pwr := { d.pwr with up := false, down := 0, chanQ := [] } }

theorem witness_PowerSteps :
    (∃ (s : State), s.dev.coreFalls = true ∧ s.dev.idleStart = false) ∧
    (∃ (s : State) (i : Nat) (e : DomEntry), s.dev.stepNow = some (i, e, true) ∧ e.kind ≠ 1 ∧ s.dev.pinnaLost e.index = true ∧ s.dev.pwr.down = 0 ∧ s.dev.phaseSt 5 ≠ 1 ∧ s.dev.idleStart = false) ∧
    (∃ (s : State) (i : Nat) (e : DomEntry) (up : Bool), s.dev.coreFalls = false ∧ s.dev.warned = false ∧ (up = true → e.kind ≠ 1 → s.dev.pinnaLost e.index = false) ∧ s.dev.stepNow = some (i, e, up)) ∧
    (∃ (s : State), s.dev.coreFalls = false ∧ s.dev.idleStart = false ∧ s.dev.stepNow = none) ∧
    (∃ (s : State) (i : Nat) (e : DomEntry), s.dev.idleStart = false ∧ s.dev.stepNow = some (i, e, true) ∧ (e.kind = 1 → e.pgUsed = true) ∧ s.dev.pwr.down = 0) ∧
    (∃ (s : State) (i : Nat) (j : Nat) (e : DomEntry) (f : DomEntry), s.dev.idleStart = false ∧ s.dev.pwrSt = 2 ∧ s.dev.get F.PWR_STATE.entry = i ∧ s.dev.doms[i]? = some e ∧ e.kind = 1 ∧ s.dev.pwr.down = 0 ∧ (s.dev.nextOff (i + 1)) = some (j, f) ∧ f.kind = 1 ∧ e.index < 8 ∧ f.index < 8 ∧ j < 32) ∧
    (∃ (s : State) (i : Nat) (e : DomEntry), s.dev.idleStart = false ∧ s.dev.pwrSt = 2 ∧ s.dev.get F.PWR_STATE.entry = i ∧ s.dev.doms[i]? = some e ∧ e.kind = 1 ∧ s.dev.pwr.down = 0 ∧ s.dev.nextOff (i + 1) = none ∧ s.dev.phaseSt 5 ≠ 1) ∧
    (∃ (s : State) (i : Nat) (j : Nat) (e : DomEntry) (f : DomEntry), s.dev.coreFalls = false ∧ s.dev.idleStart = false ∧ s.dev.pwrSt = 4 ∧ s.dev.get F.PWR_STATE.entry = i ∧ s.dev.doms[i]? = some e ∧ e.kind = 1 ∧ s.dev.pwr.up = false ∧ (s.dev.nextOn i) = some (j, f) ∧ f.kind = 1 ∧ f.index < 8 ∧ e.index < 8 ∧ j < 32) ∧
    (∃ (s : State) (i : Nat) (e : DomEntry), s.dev.idleStart = false ∧ s.dev.pwrSt = 2 ∧ s.dev.get F.PWR_STATE.entry = i ∧ s.dev.doms[i]? = some e ∧ (e.kind = 1 → e.pgUsed = true) ∧ s.dev.pwr.down = 0 ∧ s.dev.phaseSt 5 ≠ 1) ∧
    (∃ (s : State) (i : Nat) (e : DomEntry), s.dev.coreFalls = false ∧ s.dev.idleStart = false ∧ s.dev.pwrSt = 4 ∧ s.dev.get F.PWR_STATE.entry = i ∧ s.dev.doms[i]? = some e ∧ e.kind = 1 ∧ e.pgUsed = true ∧ e.index < 8 ∧ s.dev.pwr.up = false ∧ s.dev.nextOn i = none ∧ s.dev.get F.PWR_STATE.purpose = 1) ∧
    (∃ (s : State) (i : Nat) (e : DomEntry) (k : Fin 16), s.dev.pwrSt = 3 ∧ s.dev.doms[i]? = some e ∧ e.index = k ∧ e.pgUsed = true ∧ i < 32 ∧ k < 8 ∧ s.dev.entryOn e = true ∧ (∀ (j : Nat), j < i → (s.dev.doms[j]?.map fun x => (decide (x.kind = 1), x.index)) ≠ some (decide (e.kind = 1), e.index))) ∧
    (∃ (s : State) (ext : Bool) (k : Fin 16), s.dev.pwrSt ≠ 3) :=
  ⟨⟨(let d : Dev := base; let d : Dev := (((d.put F.PWR_STATUS.pfail_active 0).putBit F.PWR_DOMAINS.domains 0 false)); let d : Dev := ((d.put F.PWR_STATE.state 4).put F.PWR_STATE.entry 31); { dev := d } : State), by decide⟩,
    ⟨(let d : Dev := base; let d : Dev := ({ (seqAt (rails d [⟨0, 3, true, 5, 10⟩]) 2 0) with sys := { d.sys with ph := Store.set 0 d.sys.ph 5 0 }, frd := { (rails d [⟨0, 3, true, 5, 10⟩]).frd with damaged := [3] } }); let d : Dev := (d.put F.PWR_STATUS.pfail_active 0); { dev := d } : State), 0, ⟨0, 3, true, 5, 10⟩, by decide⟩,
    ⟨(let d : Dev := base; let d : Dev := ((seqAt (rails d [⟨1, 2, true, 5, 10⟩, ⟨1, 3, true, 5, 10⟩]) 2 0).put F.PWR_DOMAINS.rails (16 * (d.free % 2))); { dev := (d.put F.PWR_STATUS.pfail_active 0).putBit F.PWR_DOMAINS.domains 0 true } : State), (0 : Nat), (⟨1, 2, true, 5, 10⟩ : DomEntry), true, by decide⟩,
    ⟨(let d : Dev := base; let d : Dev := (seqAt (rails d [⟨1, 2, true, 5, 10⟩, ⟨1, 3, true, 5, 10⟩]) 3 0); { dev := (d.put F.PWR_STATUS.pfail_active 0).putBit F.PWR_DOMAINS.domains 0 true } : State), by decide⟩,
    ⟨(let d : Dev := base; let d : Dev := (seqAt (rails d [⟨1, 2, true, 5, 10⟩, ⟨1, 3, true, 5, 10⟩]) 2 0); { dev := d.put F.PWR_STATUS.pfail_active 0 } : State), (0 : Nat), (⟨1, 2, true, 5, 10⟩ : DomEntry), by decide⟩,
    ⟨(let e : DomEntry := ⟨1, 2, true, 5, 10⟩; let f : DomEntry := ⟨1, 3, true, 5, 10⟩; let e : DomEntry := (⟨1, 2, e.pgUsed, 5, e.settleUs % 1000⟩); let f : DomEntry := (⟨1, 3, f.pgUsed, 5, 10⟩); let d : Dev := base; let d : Dev := ((seqAt (rails d [e, f]) 2 0).put F.PWR_DOMAINS.rails (4 + 16 * (d.free % 2))); { dev := d.put F.PWR_STATUS.pfail_active 0 } : State), ((0) : Nat), ((1) : Nat), (let e : DomEntry := ⟨1, 2, true, 5, 10⟩; (⟨1, 2, e.pgUsed, 5, e.settleUs % 1000⟩) : DomEntry), (let f : DomEntry := ⟨1, 3, true, 5, 10⟩; (⟨1, 3, f.pgUsed, 5, 10⟩) : DomEntry), by decide⟩,
    ⟨(let e : DomEntry := ⟨1, 2, true, 5, 10⟩; let e : DomEntry := (⟨1, 2, e.pgUsed, 5, e.settleUs % 1000⟩); let d : Dev := base; let d : Dev := ({ (seqAt (rails d [e]) 2 0).put F.PWR_DOMAINS.rails 4 with sys := { d.sys with ph := [] } }); { dev := d.put F.PWR_STATUS.pfail_active 0 } : State), ((0) : Nat), (let e : DomEntry := ⟨1, 2, true, 5, 10⟩; (⟨1, 2, e.pgUsed, 5, e.settleUs % 1000⟩) : DomEntry), by decide⟩,
    ⟨(let e : DomEntry := ⟨1, 2, true, 5, 10⟩; let f : DomEntry := ⟨1, 3, true, 5, 10⟩; let e : DomEntry := (⟨1, 2, e.pgUsed, 5, e.settleUs % 1000⟩); let f : DomEntry := (⟨1, 3, f.pgUsed, 5, 10⟩); let d : Dev := base; let d : Dev := ((seqAt (rails d [f, e]) 4 1).put F.PWR_DOMAINS.rails 8); { dev := (d.put F.PWR_STATUS.pfail_active 0).putBit F.PWR_DOMAINS.domains 0 true } : State), ((1) : Nat), ((0) : Nat), (let e : DomEntry := ⟨1, 2, true, 5, 10⟩; (⟨1, 2, e.pgUsed, 5, e.settleUs % 1000⟩) : DomEntry), (let f : DomEntry := ⟨1, 3, true, 5, 10⟩; (⟨1, 3, f.pgUsed, 5, 10⟩) : DomEntry), by decide⟩,
    ⟨(let s : State := { dev := base }; let e : DomEntry := ⟨1, 2, true, 5, 10⟩; let e : DomEntry := (⟨s.dev.free % 2, 1, true, e.timeoutMs % 100, 5⟩); let d : Dev := base; let d : Dev := ({ (seqAt (rails d [e]) 2 0) with sys := { d.sys with ph := Store.set 0 d.sys.ph 5 0 } }); { dev := d.put F.PWR_STATUS.pfail_active 0 } : State), ((0) : Nat), (let s : State := { dev := base }; let e : DomEntry := ⟨1, 2, true, 5, 10⟩; (⟨s.dev.free % 2, 1, true, e.timeoutMs % 100, 5⟩) : DomEntry), by decide⟩,
    ⟨(let e : DomEntry := ⟨1, 1, true, 5, 10⟩; let e : DomEntry := (⟨1, 1, true, e.timeoutMs % 100, 5⟩); let d : Dev := base; let d : Dev := ({ (seqAt (rails d [e, ⟨1, 3, true, 5, 10⟩]) 4 0) with sys := { d.sys with ph := Store.set 0 d.sys.ph 5 5, hostReq := [] } }); let d : Dev := ((d.put F.PWR_STATE.purpose 1).put F.PWR_DOMAINS.rails 0); { dev := (d.put F.PWR_STATUS.pfail_active 0).putBit F.PWR_DOMAINS.domains 0 true } : State), ((0) : Nat), (let e : DomEntry := ⟨1, 1, true, 5, 10⟩; (⟨1, 1, true, e.timeoutMs % 100, 5⟩) : DomEntry), by decide⟩,
    ⟨(let s : State := { dev := base }; let e : DomEntry := ⟨1, 1, true, 5, 10⟩; let k : Fin 16 := 1; let k : Fin 16 := (Fin.ofNat 16 (k.val % 8)); let e : DomEntry := (⟨s.dev.free % 2, k, true, e.timeoutMs % 100, 5⟩); let d : Dev := base; let d : Dev := (seqAt (rails d [e]) 3 0); let d : Dev := ((d.putBit F.PWR_DOMAINS.rails k true).putBit F.PWR_DOMAINS.domains k true); { dev := d } : State), ((0) : Nat), (let s : State := { dev := base }; let e : DomEntry := ⟨1, 1, true, 5, 10⟩; let k : Fin 16 := 1; let k : Fin 16 := (Fin.ofNat 16 (k.val % 8)); (⟨s.dev.free % 2, k, true, e.timeoutMs % 100, 5⟩) : DomEntry), (let k : Fin 16 := 1; (Fin.ofNat 16 (k.val % 8)) : Fin 16), by decide⟩,
    ⟨(let d : Dev := base; let d : Dev := (d.put F.PWR_STATE.state (d.free % 3)); { dev := d } : State), (true : Bool), (1 : Fin 16), by decide⟩⟩

theorem witness_PowerRequests :
    (∃ (s : State), s.dev.direct R.PWR_CMD.off ∧ (s.dev.pwrSt = 2 ∨ s.dev.pwrSt = 3)) ∧
    (∃ (s : State), s.dev.direct R.PWR_CMD.off ∧ s.dev.get F.SYS_HOST_STATE.state = 4 ∧ ((s.dev.pwrSt = 3 ∧ s.dev.pwr.chanQ = []) ∨ s.dev.pwrSt = 5)) ∧
    (∃ (s : State), s.dev.direct R.PWR_CMD.off ∧ s.dev.get F.SYS_HOST_STATE.state = 4 ∧ s.dev.pwrSt = 3 ∧ s.dev.pwr.chanQ ≠ []) ∧
    (∃ (s : State), s.dev.direct R.PWR_CMD.off ∧ s.dev.pwrSt = 1 ∧ s.dev.phaseSt 5 = 5) ∧
    (∃ (s : State), s.dev.direct R.PWR_CMD.off ∧ s.dev.pwrSt = 4 ∧ s.dev.get F.PWR_STATE.purpose = 1) ∧
    (∃ (s : State) (n : Fin 8) (force : Bool) (i : Nat) (e : DomEntry), s.dev.direct R.PWR_CHAN_CMD.off ∧ s.dev.warned = false ∧ s.dev.pwrSt = 3 ∧ s.dev.chanEntry n = some (i, e)) ∧
    (∃ (s : State) (j : Nat) (f : DomEntry), s.dev.direct R.PWR_CMD.off ∧ s.dev.get F.SYS_HOST_STATE.state = 4 ∧ (s.dev.pwrSt = 3 ∨ s.dev.pwrSt = 5) ∧ s.dev.pwr.chanQ = [] ∧ (s.dev.nextOn s.dev.doms.length) = some (j, f) ∧ f.kind = 1 ∧ f.index < 8 ∧ j < 32) ∧
    (∃ (s : State), s.dev.direct R.PWR_CMD.off ∧ (s.dev.get F.SYS_HOST_STATE.state ≠ 4 ∨ (s.dev.pwrSt ≠ 3 ∧ s.dev.pwrSt ≠ 5))) ∧
    (∃ (s : State) (j : Nat) (f : DomEntry), s.dev.direct R.PWR_CMD.off ∧ s.dev.pwrSt = 1 ∧ s.dev.phaseSt 5 = 5 ∧ (s.dev.nextOff 0) = some (j, f) ∧ f.kind = 1 ∧ f.index < 8 ∧ j < 32) ∧
    (∃ (s : State), s.dev.direct R.PWR_CMD.off ∧ s.dev.pwrSt ≠ 2 ∧ s.dev.pwrSt ≠ 3 ∧ (s.dev.pwrSt = 1 → s.dev.phaseSt 5 ≠ 5) ∧ (s.dev.pwrSt = 4 → s.dev.get F.PWR_STATE.purpose ≠ 1)) ∧
    (∃ (s : State) (n : Fin 8) (force : Bool) (i : Nat) (e : DomEntry), s.dev.direct R.PWR_CHAN_CMD.off ∧ s.dev.idleStart = false ∧ s.dev.pwrSt = 3 ∧ s.dev.pwr.chanQ = [] ∧ s.dev.chanEntry n = some (i, e) ∧ s.dev.domOn (4 + n) = true ∧ (∀ (k : Nat), k < 32 → s.dev.shtState k ≠ 2 ∧ s.dev.shtState k ≠ 3)) ∧
    (∃ (s : State) (mask : Byte) (force : Bool), s.dev.direct R.PWR_CHAN_CMD.off ∧ s.dev.idleStart = false ∧ s.dev.pwrSt ≠ 3) ∧
    (∃ (s : State) (n : Fin 8) (i : Nat) (e : DomEntry), s.dev.direct R.PWR_CHAN_CMD.off ∧ s.dev.pwrSt = 3 ∧ s.dev.pwr.chanQ = [] ∧ s.dev.chanEntry n = some (i, e) ∧ s.dev.domOn (4 + n) = false ∧ (s.dev.chan n).isSome = true) :=
  ⟨⟨(let d : Dev := base; let d : Dev := (d.put F.PWR_STATE.state (2 + d.free % 2)); let d : Dev := (onAll d); { dev := d } : State), by decide⟩,
    ⟨(let d : Dev := base; let d : Dev := ((seqAt (rails d [⟨1, 2, true, 5, 10⟩, ⟨1, 3, true, 5, 10⟩]) (3 + 2 * (d.free % 2)) 7).put F.PWR_DOMAINS.rails (4 * (d.free % 4))); let d : Dev := (d.put F.SYS_HOST_STATE.state 4); { dev := (onAll d).put F.PWR_DOMAINS.rails (4 * (d.free % 4)) } : State), by decide⟩,
    ⟨(let d : Dev := base; let d : Dev := (({ d.put F.PWR_STATE.state 3 with pwr := { d.pwr with chanQ := [(1, true)] } } : Dev)); let d : Dev := (d.put F.SYS_HOST_STATE.state 4); { dev := onAll d } : State), by decide⟩,
    ⟨(let d : Dev := base; let d : Dev := ((seqAt (rails d [⟨1, 2, true, 5, 10⟩, ⟨1, 3, true, 5, 10⟩]) 1 7).put F.PWR_DOMAINS.rails (4 * (d.free % 4))); let d : Dev := (({ d with sys := { d.sys with ph := Store.set 0 d.sys.ph 5 5 } } : Dev)); { dev := (onAll d).put F.PWR_DOMAINS.rails (4 * (d.free % 4)) } : State), by decide⟩,
    ⟨(let d : Dev := base; let d : Dev := ((d.put F.PWR_STATE.state 4).put F.PWR_STATE.purpose 1); { dev := onAll d } : State), by decide⟩,
    ⟨(let d : Dev := base; let d : Dev := (seqAt (rails d [⟨1, 2, true, 5, 10⟩, ⟨0, 5, true, 5, 10⟩]) 3 7); let d : Dev := (if d.free % 2 = 0 then d else ({ d with pwr := { d.pwr with chanQ := [(3, true)] } } : Dev)); { dev := (onAll d).put F.PWR_STATUS.pfail_active 0 } : State), (1 : Fin 8), false, (1 : Nat), (⟨0, 5, true, 5, 10⟩ : DomEntry), by decide⟩,
    ⟨(let f : DomEntry := ⟨1, 3, true, 5, 10⟩; let f : DomEntry := (⟨1, 3, f.pgUsed, 5, 10⟩); let d : Dev := base; let d : Dev := ((seqAt (rails d [⟨1, 2, true, 5, 10⟩, f]) (3 + 2 * (d.free % 2)) 7).put F.PWR_DOMAINS.rails 12); let d : Dev := (d.put F.SYS_HOST_STATE.state 4); { dev := (onAll d).put F.PWR_DOMAINS.rails 12 } : State), ((1) : Nat), (let f : DomEntry := ⟨1, 3, true, 5, 10⟩; (⟨1, 3, f.pgUsed, 5, 10⟩) : DomEntry), by decide⟩,
    ⟨(let d : Dev := base; let d : Dev := ((d.put F.PWR_STATE.state (d.free % 6)).put F.SYS_HOST_STATE.state (d.free % 5)); { dev := onAll d } : State), by decide⟩,
    ⟨(let f : DomEntry := ⟨1, 3, true, 5, 10⟩; let f : DomEntry := (⟨1, 3, f.pgUsed, 5, 10⟩); let d : Dev := base; let d : Dev := ((seqAt (rails d [f]) 1 7).put F.PWR_DOMAINS.rails 0); let d : Dev := ({ d with sys := { d.sys with ph := Store.set 0 d.sys.ph 5 5 } }); { dev := onAll d } : State), ((0) : Nat), (let f : DomEntry := ⟨1, 3, true, 5, 10⟩; (⟨1, 3, f.pgUsed, 5, 10⟩) : DomEntry), by decide⟩,
    ⟨(let d : Dev := base; let d : Dev := ((d.put F.PWR_STATE.state (d.free % 6)).put F.PWR_STATE.purpose (2 + d.free % 2)); { dev := onAll d } : State), by decide⟩,
    ⟨(let n : Fin 8 := 1; let e : DomEntry := (⟨0, 4 + n, true, 5, 10⟩); let d : Dev := base; let d : Dev := (noArms (seqAt (rails d [⟨1, 2, true, 5, 10⟩, e]) 3 7)); let d : Dev := ((d.putBit F.PWR_DOMAINS.domains (4 + n) true)); let d : Dev := ({ (List.range 32).foldl (fun d k => d.put (F.SHT_Dd_STATE.state k) (d.free % 2)) d with tbl := [], actTbl := [] }); { dev := (onAll d).put F.PWR_STATUS.pfail_active 0 } : State), (1 : Fin 8), (false : Bool), ((1) : Nat), (let n : Fin 8 := 1; (⟨0, 4 + n, true, 5, 10⟩) : DomEntry), by decide⟩,
    ⟨(let d : Dev := base; let d : Dev := (d.put F.PWR_STATE.state (d.free % 3)); { dev := (onAll d).put F.PWR_STATUS.pfail_active 0 } : State), (5 : Byte), (true : Bool), by decide⟩,
    ⟨(let n : Fin 8 := 1; let e : DomEntry := (⟨0, 4 + n, true, 5, 10⟩); let d : Dev := base; let d : Dev := (seqAt (rails d [⟨1, 2, true, 5, 10⟩, e]) 3 7); let d : Dev := ({ (d.putBit F.PWR_DOMAINS.domains (4 + n) false) with frd := { d.frd with damaged := [], cfg := { d.frd.cfg with chans := [{ channel := n, beams := 1, inputFormat := 0, blMode := 2, facets := 6, pixels := 640, polygonAxis := 1 }] } } }); { dev := (onAll d).putBit F.PWR_DOMAINS.domains 5 false } : State), (1 : Fin 8), ((1) : Nat), (let n : Fin 8 := 1; (⟨0, 4 + n, true, 5, 10⟩) : DomEntry), by decide⟩⟩

theorem witness_PowerFail :
    (∃ (s : State), s.dev.on F.PWR_STATUS.pfail_active = true ∧ s.dev.on F.PWR_STATUS.shutdown = false ∧ (s.dev.idleStart = true ∨ s.dev.holdupAt ≤ max s.dev.sys.now8 (s.dev.pwr.warnAt - 1 + max 1 (s.dev.get F.PWR_PFAIL_RETURN.pfail_return_ms) * 125000))) ∧
    (∃ (s : State), s.dev.on F.PWR_PFAIL_CFG.pfail_en = true ∧ s.dev.on F.PWR_STATUS.pfail_active = false ∧ s.dev.domOn 0 = true) ∧
    (∃ (s : State), s.dev.on F.PWR_STATUS.pfail_active = true ∧ s.dev.on F.PWR_STATUS.shutdown = false) ∧
    (∃ (s : State), s.dev.on F.PWR_PFAIL_CFG.pfail_en = true ∧ s.dev.on F.PWR_STATUS.pfail_active = false ∧ s.dev.on F.PWR_STATUS.shutdown = false ∧ s.dev.domOn 0 = true ∧ (s.dev.on F.PWR_PFAIL_CFG.start_on_idle = true → s.dev.get F.SYS_HOST_STATE.in_flight ≠ 0)) ∧
    (∃ (s : State), (s.dev.on F.PWR_PFAIL_CFG.pfail_en = false ∨ s.dev.on F.PWR_STATUS.pfail_active = true ∨ s.dev.domOn 0 = false)) ∧
    (∃ (s : State), s.dev.idleStart = false ∧ max s.dev.sys.now8 (s.dev.pwr.warnAt - 1 + max 1 (s.dev.get F.PWR_PFAIL_RETURN.pfail_return_ms) * 125000) < s.dev.holdupAt ∧ s.dev.on F.PWR_STATUS.pfail_active = true ∧ s.dev.on F.PWR_STATUS.shutdown = false) ∧
    (∃ (s : State), (s.dev.on F.PWR_STATUS.pfail_active = false ∨ s.dev.on F.PWR_STATUS.shutdown = true)) ∧
    (∃ (s : State), s.dev.on F.PWR_STATUS.pfail_active = true ∧ s.dev.on F.PWR_STATUS.shutdown = false ∧ s.dev.pwrSt = 3 ∧ s.dev.pwr.chanQ = [] ∧ s.dev.doms ≠ [] ∧ (∀ e ∈ s.dev.doms, e.kind = 1 ∧ e.index < 8 ∧ s.dev.entryOn e = true)) ∧
    (∃ (s : State), s.dev.pwrSt = 0 ∧ s.dev.get F.PWR_STATE.purpose = 3 ∧ s.dev.sys.inReset = false ∧ s.dev.pwr.collapsed = false) ∧
    (∃ (s : State), s.dev.sys.inReset = false ∧ s.dev.pwr.collapsed = false) ∧
    (∃ (s : State), s.dev.pwr.collapsed = true) :=
  ⟨⟨(let d : Dev := base; let d : Dev := ((d.put F.PWR_STATUS.pfail_active 1).put F.PWR_STATUS.shutdown 0); let d : Dev := (d.put F.PWR_PFAIL_CFG.holdup_ms (d.free % 3)); let d : Dev := ({ d with pwr := { d.pwr with warnAt := d.sys.now8 } }); { dev := d } : State), by decide⟩,
    ⟨(let d : Dev := base; let d : Dev := ((onAll d).put F.PWR_PFAIL_CFG.pfail_en 1); let d : Dev := (d.put F.PWR_STATUS.pfail_active 0); { dev := d } : State), by decide⟩,
    ⟨(let d : Dev := base; let d : Dev := ((d.put F.PWR_STATUS.pfail_active 1).put F.PWR_STATUS.shutdown 0); { dev := d } : State), by decide⟩,
    ⟨(let d : Dev := base; let d : Dev := ((onAll d).put F.PWR_PFAIL_CFG.pfail_en 1); let d : Dev := (((d.put F.PWR_STATUS.pfail_active 0).put F.PWR_STATUS.shutdown 0).put F.SYS_HOST_STATE.in_flight 1); { dev := d } : State), by decide⟩,
    ⟨(let d : Dev := base; let d : Dev := (d.put F.PWR_PFAIL_CFG.pfail_en (d.free % 2)); let d : Dev := (if d.free % 3 = 0 then d.put F.PWR_STATUS.pfail_active 1 else d); { dev := d } : State), by decide⟩,
    ⟨(let d : Dev := base; let d : Dev := ((d.put F.PWR_STATUS.pfail_active 1).put F.PWR_STATUS.shutdown 0); { dev := (d.put F.PWR_PFAIL_CFG.start_on_idle 0).put F.PWR_PFAIL_CFG.holdup_ms 60000 } : State), by decide⟩,
    ⟨(let d : Dev := base; let d : Dev := (d.put F.PWR_STATUS.pfail_active (d.free % 2)); { dev := d } : State), by decide⟩,
    ⟨(let d : Dev := base; let d : Dev := (engineUp (noArms (onAll d))); let d : Dev := ((seqAt (rails d [⟨1, 2, true, 5, 10⟩]) 3 0).put F.PWR_DOMAINS.rails 4); let d : Dev := (((d.put F.PWR_STATUS.pfail_active 1).put F.PWR_STATUS.shutdown 0).put F.SYS_HOST_STATE.in_flight 1); { dev := d } : State), by decide⟩,
    ⟨(let d : Dev := base; let d : Dev := ({ (d.put F.PWR_STATE.state 0).put F.PWR_STATE.purpose 3 with sys := { d.sys with inReset := false }, pwr := { d.pwr with collapsed := false } }); { dev := d } : State), by decide⟩,
    ⟨(let d : Dev := base; let d : Dev := ({ d with sys := { d.sys with inReset := false }, pwr := { d.pwr with collapsed := false } }); { dev := d } : State), by decide⟩,
    ⟨(let d : Dev := base; let d : Dev := ({ d with pwr := { d.pwr with collapsed := true } }); { dev := d } : State), by decide⟩⟩

end Sys2Proof.Tests.Pwr

namespace Sys2Proof.Tests.Clk

def lockAll (d : Dev) : Dev := (onAll d).put F.CLK_STATUS.locked 31

def noLive (d : Dev) : Dev := (List.range 32).foldl (fun d k => d.put (F.SHT_Dd_STATE.state k) (d.free % 2)) d

theorem witness_ClockReference :
    (∃ (s : State) (v : Word32), s.dev.direct R.CLK_REF_CFG.off ∧ s.dev.warned = false ∧ s.dev.get F.SYS_HOST_STATE.state = 4 ∧ (s.dev.phaseSt 3 = 0 ∨ s.dev.phaseSt 9 = 2 ∨ s.dev.phaseSt 9 = 4)) ∧
    (∃ (s : State), s.dev.sys.inReset = false ∧ s.dev.on F.CLK_STATUS.refclk_good = false) ∧
    (∃ (s : State) (missing : Bool) (count : Word32), s.dev.idleStart = false ∧ s.dev.on F.CLK_STATUS.refclk_good = true ∧ (∀ (i : Nat), i < 4 → s.dev.loopLocked i = false) ∧ s.dev.twnSt ≠ 3) ∧
    (∃ (s : State) (missing : Bool) (count : Word32), s.dev.warned = false ∧ s.dev.on F.CLK_STATUS.refclk_good = true) ∧
    (∃ (s : State) (v : Word32), s.dev.direct R.CLK_REF_CFG.off ∧ s.dev.idleStart = false ∧ s.dev.get F.SYS_HOST_STATE.state = 4 ∧ (s.dev.phaseSt 3 = 0 ∨ s.dev.phaseSt 9 = 2 ∨ s.dev.phaseSt 9 = 4) ∧ (∀ (i : Nat), i < 4 → refMode (s.dev.rd R.CLK_REF_CFG) i ≠ refMode v.toNat i → s.dev.loopLocked i = false)) ∧
    (∃ (s : State) (v : Word32), s.dev.direct R.CLK_REF_CFG.off ∧ s.dev.idleStart = false ∧ (s.dev.get F.SYS_HOST_STATE.state ≠ 4 ∨ (s.dev.phaseSt 3 ≠ 0 ∧ s.dev.phaseSt 9 ≠ 2 ∧ s.dev.phaseSt 9 ≠ 4))) :=
  ⟨⟨(let d : Dev := base; let d : Dev := (d.put F.SYS_HOST_STATE.state 4); let d : Dev := (({ d with sys := { d.sys with ph := Store.set 0 d.sys.ph 9 (2 + 2 * (d.free % 2)) } } : Dev)); { dev := (onAll d).put F.PWR_STATUS.pfail_active 0 } : State), (5 : Word32), by decide⟩,
    ⟨(let d : Dev := base; let d : Dev := ({ d with sys := { d.sys with inReset := false } }); let d : Dev := (d.put F.CLK_STATUS.refclk_good 0); { dev := d } : State), by decide⟩,
    ⟨(let d : Dev := { base with free := 1 }; let d : Dev := (d.put F.CLK_STATUS.refclk_good (d.free % 2)); { dev := d.put F.PWR_STATUS.pfail_active 0 } : State), (true : Bool), (5 : Word32), by decide⟩,
    ⟨(let d : Dev := base; let d : Dev := (lockAll (noLive d)); let d : Dev := ({ d.put F.CLK_STATUS.refclk_good 1 with frd := { d.frd with cfg := { d.frd.cfg with role := { d.frd.cfg.role with grade := 0 } } } }); { dev := d.put F.PWR_STATUS.pfail_active 0 } : State), (true : Bool), (5 : Word32), by decide⟩,
    ⟨(let d : Dev := base; let d : Dev := (d.put F.SYS_HOST_STATE.state 4); let d : Dev := ({ d with sys := { d.sys with ph := Store.set 0 (Store.set 0 d.sys.ph 3 2) 9 (2 + 2 * (d.free % 2)) } }); let d : Dev := (if d.free % 3 = 0 then d else (d.put F.CLK_STATUS.locked 0)); { dev := (onAll d).put F.PWR_STATUS.pfail_active 0 } : State), (5 : Word32), by decide⟩,
    ⟨(let d : Dev := base; let d : Dev := (d.put F.SYS_HOST_STATE.state (d.free % 5)); { dev := (onAll d).put F.PWR_STATUS.pfail_active 0 } : State), (5 : Word32), by decide⟩⟩

theorem witness_ClockLoops :
    (∃ (s : State) (i : Fin 24), s.dev.loopPowered i = true ∧ s.dev.loopRef i = true ∧ s.dev.loopLocked i = false) ∧
    (∃ (s : State) (i : Fin 24), s.dev.warned = false ∧ s.dev.loopPowered i = true) ∧
    (∃ (s : State) (i : Fin 24), s.dev.warned = false ∧ s.dev.loopPowered i = true ∧ (i.val < 5 ∨ (8 ≤ i.val ∧ i.val < 16)) ∧ (if i.val < 5 then s.dev.on F.CLK_STATUS.refclk_good else s.dev.loopLocked 1) = true) ∧
    (∃ (s : State), s.dev.domOn 0 = true ∧ s.dev.on F.CLK_STATUS.refclk_good = true ∧ s.dev.loopLocked 0 = false) ∧
    (∃ (s : State), s.dev.domOn 0 = true ∧ s.dev.on F.CLK_STATUS.refclk_good = true ∧ s.dev.loopLocked 1 = false) ∧
    (∃ (s : State) (i : Fin 24), (i.val = 2 ∨ i.val = 3 ∨ i.val = 4) ∧ s.dev.loopPowered i = true ∧ s.dev.loopRef i = true ∧ s.dev.loopLocked i = false) ∧
    (∃ (s : State) (i : Fin 24), 8 ≤ i.val ∧ i.val < 16 ∧ s.dev.loopPowered i = true ∧ s.dev.loopLocked 1 = true ∧ s.dev.loopLocked i = false) ∧
    (∃ (s : State), s.dev.idleStart = false ∧ s.dev.domOn 0 = true ∧ s.dev.loopLocked 0 = true ∧ (∀ (k : Nat), k < 32 → s.dev.shtState k ≠ 3)) ∧
    (∃ (s : State), s.dev.idleStart = false ∧ s.dev.domOn 1 = true ∧ s.dev.loopLocked 2 = true) ∧
    (∃ (s : State), s.dev.idleStart = false ∧ s.dev.domOn 0 = true ∧ s.dev.on F.CLK_STATUS.refclk_good = true ∧ s.dev.loopLocked 0 = true ∧ (∀ (k : Nat), k < 32 → s.dev.shtState k ≠ 3)) ∧
    (∃ (s : State) (i : Fin 24) (a : Nat), s.dev.loopPowered i = true ∧ s.dev.loopLocked i = false ∧ Store.get 0 s.dev.clk.lostAt i = a + 1 ∧ bit s.dev.clk.slow i = false) :=
  ⟨⟨(let d : Dev := base; let d : Dev := ((onAll d).put F.CLK_STATUS.refclk_good 1); let d : Dev := (d.put F.CLK_STATUS.locked (2 * (d.free % 2))); { dev := d } : State), (0 : Fin 24), by decide⟩,
    ⟨(let d : Dev := base; let d : Dev := (onAll d); { dev := d.put F.PWR_STATUS.pfail_active 0 } : State), (9 : Fin 24), by decide⟩,
    ⟨(let d : Dev := base; let d : Dev := (((onAll d).put F.CLK_STATUS.refclk_good 1).put F.CLK_STATUS.locked 31); { dev := d.put F.PWR_STATUS.pfail_active 0 } : State), (9 : Fin 24), by decide⟩,
    ⟨(let d : Dev := base; let d : Dev := ((onAll d).put F.CLK_STATUS.refclk_good 1); let d : Dev := (d.put F.CLK_STATUS.locked (2 * (d.free % 2))); { dev := d } : State), by decide⟩,
    ⟨(let d : Dev := base; let d : Dev := ((onAll d).put F.CLK_STATUS.refclk_good 1); let d : Dev := (d.put F.CLK_STATUS.locked (d.free % 2)); { dev := d } : State), by decide⟩,
    ⟨(let d : Dev := base; let d : Dev := ((onAll d).put F.CLK_STATUS.refclk_good 1); let d : Dev := (d.put F.CLK_STATUS.locked 0); { dev := d } : State), (let i : Fin 24 := 2; (Fin.ofNat 24 (2 + i.val % 3)) : Fin 24), by decide⟩,
    ⟨(let i : Fin 24 := 9; let i := (Fin.ofNat 24 (8 + i.val % 8)); let d : Dev := base; let d : Dev := ((onAll d).put F.CLK_STATUS.locked 2); let d : Dev := (d.put (F.CHn_PXS_STATUS.locked (i - 8)) 0); { dev := d } : State), (let i : Fin 24 := 9; (Fin.ofNat 24 (8 + i.val % 8)) : Fin 24), by decide⟩,
    ⟨(let d : Dev := base; let d : Dev := (lockAll (noLive d)); { dev := d.put F.PWR_STATUS.pfail_active 0 } : State), by decide⟩,
    ⟨(let d : Dev := base; let d : Dev := (lockAll (noLive d)); { dev := d.put F.PWR_STATUS.pfail_active 0 } : State), by decide⟩,
    ⟨(let d : Dev := base; let d : Dev := (lockAll (noLive d)); let d : Dev := (d.put F.CLK_STATUS.refclk_good 1); { dev := d.put F.PWR_STATUS.pfail_active 0 } : State), by decide⟩,
    ⟨(let s : State := { dev := base }; let i : Fin 24 := 0; let a := (2 ^ 30 + s.dev.free); let d : Dev := base; let d : Dev := ((onAll d).put F.CLK_STATUS.locked (31 - 2 ^ (i.val % 5))); let d : Dev := ({ (d.put (F.CHn_PXS_STATUS.locked (i - 8)) 0) with clk := { d.clk with blLocked := 0, slow := 0, lostAt := Store.set 0 d.clk.lostAt i (a + 1) } }); { dev := d } : State), (0 : Fin 24), (let s : State := { dev := base }; (2 ^ 30 + s.dev.free) : Nat), by decide⟩⟩

end Sys2Proof.Tests.Clk

namespace Sys2Proof.Tests.Flt

def oneStrobe (d : Dev) (x : Strobe) (r : React) : Dev :=
  { (d.put F.SYS_STRAPS.pers 0) with flt := { d.flt with strobes := [x], shadows := [], opens := d.flt.opens.filter fun r => r.num ≠ (d.rd R.FLT_COUNT + 2 ^ 32 - 32) % 2 ^ 32 }, evt := { d.evt with recs := [] }, frd := { d.frd with cfg := { d.frd.cfg with reacts := [r] } } }

def stb (x : Strobe) (i : Nat) : Strobe := { x with src := i, t := x.t % 2 ^ 60, fix := 0 }

theorem witness_FaultRecords :
    (∃ (s : State) (x : Strobe), s.dev.warned = false ∧ s.dev.nextStrobe = some x ∧ x.src < 42) ∧
    (∃ (s : State), s.dev.idleStart = false ∧ s.dev.flt.strobes = []) ∧
    (∃ (s : State) (x : Strobe) (re : React), s.dev.warned = false ∧ s.dev.nextStrobe = some x ∧ s.dev.evt.recs = [] ∧ s.dev.get F.FRD_STATUS.state = 5 ∧ s.dev.persC = false ∧ s.dev.twin = false ∧ s.dev.reactOf x.src = re ∧ s.dev.coveredBy x.src x.t = none ∧ (re.reactions = 0 ∨ re.reactions = 4 ∨ re.reactions = 256 ∨ re.reactions = 260) ∧ re.cls < 5 ∧ x.fix = 0 ∧ x.t < 2 ^ 64 ∧ x.src < 42 ∧ x.src ≠ 24 ∧ x.src ≠ 38 ∧ x.src ≠ 30) ∧
    (∃ (s : State) (x : Strobe) (re : React) (y : Shadow), s.dev.warned = false ∧ s.dev.nextStrobe = some x ∧ s.dev.evt.recs = [] ∧ s.dev.get F.FRD_STATUS.state = 5 ∧ s.dev.persC = false ∧ s.dev.twin = false ∧ s.dev.reactOf x.src = re ∧ s.dev.coveredBy x.src x.t = some y ∧ y.closed = 0 ∧ re.cls < 5 ∧ x.fix = 0 ∧ x.t < 2 ^ 64 ∧ x.src < 36 ∧ x.src ≠ 24 ∧ x.src ≠ 30) ∧
    (∃ (s : State) (x : Strobe), s.dev.warned = false ∧ s.dev.nextStrobe = some x ∧ s.dev.evt.recs = [] ∧ s.dev.get F.FRD_STATUS.state ≠ 5 ∧ s.dev.persC = false ∧ s.dev.twin = false ∧ x.t < 2 ^ 64 ∧ x.src < 42 ∧ x.src ≠ 38 ∧ x.src ≠ 30) ∧
    (∃ (s : State) (x : Strobe) (re : React) (n : Fin 8), s.dev.warned = false ∧ s.dev.nextStrobe = some x ∧ s.dev.evt.recs = [] ∧ s.dev.get F.FRD_STATUS.state = 5 ∧ s.dev.persC = false ∧ s.dev.twin = false ∧ x.src = n ∧ s.dev.reactOf n = re ∧ s.dev.coveredBy n x.t = none ∧ re.reactions = 1 ∧ (∀ (k : Nat), k < 32 → s.dev.shtState k ≠ 3)) ∧
    (∃ (s : State) (x : Strobe) (re : React), s.dev.warned = false ∧ s.dev.nextStrobe = some x ∧ s.dev.get F.FRD_STATUS.state = 5 ∧ s.dev.twin = false ∧ s.dev.reactOf x.src = re ∧ s.dev.coveredBy x.src x.t = none ∧ bit re.reactions 7 = true ∧ bit re.reactions 3 = false) :=
  ⟨⟨(let x : Strobe := ⟨7, 1, 2, 3, 0⟩; let d : Dev := base; let d : Dev := (oneStrobe d x { source := 7, cls := 1, reactions := 0x73 }).put F.FRD_STATUS.state 5; { dev := d } : State), (⟨7, 1, 2, 3, 0⟩ : Strobe), by decide⟩,
    ⟨(let d : Dev := base; let d : Dev := ({ d with flt := { d.flt with strobes := [] } }); { dev := d } : State), by decide⟩,
    ⟨(let x : Strobe := ⟨7, 1, 2, 3, 0⟩; let re : React := { source := 7, cls := 2, reactions := 4 }; let x := (stb x (re.source % 24 + 5)); let re : React := ({ re with source := x.src, cls := re.cls % 5, reactions := 4 * (re.reactions % 2) + 256 * (re.cls % 2), quietMs := 0 }); let d : Dev := base; let d : Dev := ((oneStrobe d x re).put F.FRD_STATUS.state 5); let d : Dev := ({ d with frd := { d.frd with cfg := { d.frd.cfg with role := { d.frd.cfg.role with grade := 0 } } } }); { dev := d } : State), (let x : Strobe := ⟨7, 1, 2, 3, 0⟩; let re : React := { source := 7, cls := 2, reactions := 4 }; (stb x (re.source % 24 + 5)) : Strobe), (let x : Strobe := ⟨7, 1, 2, 3, 0⟩; let re : React := { source := 7, cls := 2, reactions := 4 }; let x := (stb x (re.source % 24 + 5)); ({ re with source := x.src, cls := re.cls % 5, reactions := 4 * (re.reactions % 2) + 256 * (re.cls % 2), quietMs := 0 }) : React), by decide⟩,
    ⟨(let x : Strobe := ⟨7, 1, 2, 3, 0⟩; let re : React := { source := 7, cls := 2, reactions := 0x73 }; let y : Shadow := ⟨7, 0, 1, 2, 100, 0⟩; let x := (stb x (re.source % 24 + 5)); let y : Shadow := ({ y with src := x.src, until_ := x.t + 100, closed := 0 }); let re : React := ({ re with source := x.src, cls := re.cls % 5, reactions := re.reactions % 512, quietMs := 0 }); let d : Dev := base; let d : Dev := (oneStrobe d x re); let d : Dev := ({ d.put F.FRD_STATUS.state 5 with flt := { d.flt with shadows := [y] } }); let d : Dev := ({ d with frd := { d.frd with cfg := { d.frd.cfg with role := { d.frd.cfg.role with grade := 0 } } } }); { dev := d } : State), (let x : Strobe := ⟨7, 1, 2, 3, 0⟩; let re : React := { source := 7, cls := 2, reactions := 0x73 }; (stb x (re.source % 24 + 5)) : Strobe), (let x : Strobe := ⟨7, 1, 2, 3, 0⟩; let re : React := { source := 7, cls := 2, reactions := 0x73 }; let x := (stb x (re.source % 24 + 5)); ({ re with source := x.src, cls := re.cls % 5, reactions := re.reactions % 512, quietMs := 0 }) : React), (let x : Strobe := ⟨7, 1, 2, 3, 0⟩; let re : React := { source := 7, cls := 2, reactions := 0x73 }; let y : Shadow := ⟨7, 0, 1, 2, 100, 0⟩; let x := (stb x (re.source % 24 + 5)); ({ y with src := x.src, until_ := x.t + 100, closed := 0 }) : Shadow), by decide⟩,
    ⟨(let x : Strobe := ⟨7, 1, 2, 3, 0⟩; let x := (stb x (x.src % 24 + 5)); let d : Dev := base; let d : Dev := ((oneStrobe d x { source := 0 }).put F.FRD_STATUS.state 1); let d : Dev := ({ d with frd := { d.frd with cfg := { d.frd.cfg with role := { d.frd.cfg.role with grade := 0 } } } }); { dev := d } : State), (let x : Strobe := ⟨7, 1, 2, 3, 0⟩; (stb x (x.src % 24 + 5)) : Strobe), by decide⟩,
    ⟨(let x : Strobe := ⟨1, 1, 2, 3, 0⟩; let re : React := { source := 1, cls := 2, reactions := 1 }; let n : Fin 8 := 1; let x := (stb x n); let re : React := ({ re with source := n, cls := re.cls % 5, reactions := 1, quietMs := 0 }); let d : Dev := base; let d : Dev := (noArms (oneStrobe d x re)); let d : Dev := ({ d.put F.FRD_STATUS.state 5 with frd := { d.frd with cfg := { d.frd.cfg with role := { d.frd.cfg.role with grade := 0 } } } }); let d : Dev := ((List.range 32).foldl (fun d k => d.put (F.SHT_Dd_STATE.state k) (d.free % 3)) d); { dev := d } : State), (let x : Strobe := ⟨1, 1, 2, 3, 0⟩; let n : Fin 8 := 1; (stb x n) : Strobe), (let re : React := { source := 1, cls := 2, reactions := 1 }; let n : Fin 8 := 1; ({ re with source := n, cls := re.cls % 5, reactions := 1, quietMs := 0 }) : React), (1 : Fin 8), by decide⟩,
    ⟨(let x : Strobe := ⟨7, 1, 2, 3, 0⟩; let re : React := { source := 7, cls := 2, reactions := 0x82 }; let x := (stb x (re.source % 24 + 5)); let re : React := ({ re with source := x.src, cls := re.cls % 5, reactions := 0x82, quietMs := 0 }); let d : Dev := base; let d : Dev := (noArms (oneStrobe d x re)); let d : Dev := ({ d.put F.FRD_STATUS.state 5 with frd := { d.frd with cfg := { d.frd.cfg with role := { d.frd.cfg.role with grade := 0 } } } }); { dev := d } : State), (let x : Strobe := ⟨7, 1, 2, 3, 0⟩; let re : React := { source := 7, cls := 2, reactions := 0x82 }; (stb x (re.source % 24 + 5)) : Strobe), (let x : Strobe := ⟨7, 1, 2, 3, 0⟩; let re : React := { source := 7, cls := 2, reactions := 0x82 }; let x := (stb x (re.source % 24 + 5)); ({ re with source := x.src, cls := re.cls % 5, reactions := 0x82, quietMs := 0 }) : React), by decide⟩⟩

theorem witness_FaultClosing :
    (∃ (s : State), s.dev.aliveOk = true ∧ s.dev.on F.FLT_STATUS.alive_running = true ∧ max s.dev.sys.now8 (s.dev.flt.aliveAt + 64375) + 1 ≤ s.dev.flt.refreshed + 25000) ∧
    (∃ (s : State) (v : Word64), s.dev.direct R.FLT_ACK.off ∧ v.toNat.testBit 63 = false ∧ 41 < bits v.toNat 37 32) ∧
    (∃ (s : State) (v : Word64), s.dev.direct R.FLT_ACK.off ∧ (v.toNat.testBit 63 = true ∨ bits v.toNat 37 32 ≤ 41)) ∧
    (∃ (s : State) (i : Fin 42), s.dev.quietRuns i = true ∧ (∀ r ∈ s.dev.flt.opens, r.cls < 5)) ∧
    (∃ (s : State) (i : Fin 42), s.dev.quietRuns i = false) ∧
    (∃ (s : State) (y : Shadow) (l : List Shadow), s.dev.flt.shadows = y :: l ∧ s.dev.evt.running = true ∧ s.dev.now < 2 ^ 62 ∧ (∀ x ∈ y :: l, x.until_ < 2 ^ 62)) ∧
    (∃ (s : State), s.dev.flt.shadows = []) ∧
    (∃ (s : State), s.dev.domOn 0 = true) ∧
    (∃ (s : State), s.dev.domOn 0 = false) ∧
    (∃ (s : State), s.dev.domOn 0 = true ∧ s.dev.get F.FRD_STATUS.state = 5 ∧ s.dev.flt.opens = [] ∧ s.dev.on F.FLT_STATUS.alive_running = true ∧ s.dev.flt.refreshed = s.dev.sys.now8 + 1 ∧ s.dev.flt.aliveAt + 62500 = s.dev.sys.now8) ∧
    (∃ (s : State), s.dev.aliveOk = false) ∧
    (∃ (s : State), s.dev.direct R.FLT_LATCH_CTRL.off) :=
  ⟨⟨(let d : Dev := base; let d : Dev := ({ ((onAll d).put F.FRD_STATUS.state 5).put F.FLT_STATUS.alive_running 1 with flt := { d.flt with opens := [], refreshed := d.sys.now8 + 62501, aliveAt := d.sys.now8 }, sys := { d.sys with now8 := d.sys.now8 + 62500 } }); { dev := d } : State), by decide⟩,
    ⟨(let d : Dev := base; { dev := onAll d } : State), (let v : Word64 := 63#64 <<< 32; (((v <<< 1) >>> 1) ||| (63#64 <<< 32)) : Word64), by decide⟩,
    ⟨(let d : Dev := base; { dev := onAll d } : State), (let v : Word64 := 5; (if v.getLsbD 0 then v ||| (1#64 <<< 63) else v &&& ~~~(1#64 <<< 36)) : Word64), by decide⟩,
    ⟨(let i : Fin 42 := 1; let d : Dev := base; let d : Dev := ((d.put F.FRD_STATUS.state 5).put (F.FLT_SRCi_STATE.active i) 0); let d : Dev := ({ d with frd := { d.frd with cfg := { d.frd.cfg with reacts := [{ source := srcCode i, quietMs := 10 }] } } }); let d : Dev := ({ d with flt := { d.flt with quietFrom := Store.set 0 d.flt.quietFrom i 100, opens := d.flt.opens ++ [⟨i, 3, 4, 2, 2, false, 0, false, 0, 0, false, false, 0⟩] } }); { dev := d } : State), (1 : Fin 42), by decide⟩,
    ⟨(let d : Dev := base; { dev := d } : State), (1 : Fin 42), by decide⟩,
    ⟨(let y : Shadow := ⟨2, 4, 7, 0, 100, 0⟩; let l : List Shadow := []; let d : Dev := base; let d : Dev := ({ d with flt := { d.flt with shadows := y :: l }, evt := { d.evt with running := true } }); { dev := d } : State), (⟨2, 4, 7, 0, 100, 0⟩ : Shadow), ([] : List Shadow), by decide⟩,
    ⟨(let d : Dev := base; let d : Dev := ({ d with flt := { d.flt with shadows := [] } }); { dev := d } : State), by decide⟩,
    ⟨(let d : Dev := base; let d : Dev := (onAll d); { dev := d } : State), by decide⟩,
    ⟨(let d : Dev := base; let d : Dev := (d.wr R.PWR_DOMAINS 0); { dev := d } : State), by decide⟩,
    ⟨(let d : Dev := base; let d : Dev := ({ ((onAll d).put F.FRD_STATUS.state 5).put F.FLT_STATUS.alive_running 1 with flt := { d.flt with opens := [], refreshed := d.sys.now8 + 62501, aliveAt := d.sys.now8 }, sys := { d.sys with now8 := d.sys.now8 + 62500 } }); { dev := d } : State), by decide⟩,
    ⟨(let d : Dev := base; let d : Dev := ((d.putB F.FLT_STATUS.alive_running false).wr R.PWR_DOMAINS 0); { dev := d } : State), by decide⟩,
    ⟨(let d : Dev := base; let d : Dev := (onAll d); { dev := d } : State), by decide⟩⟩

end Sys2Proof.Tests.Flt

namespace Sys2Proof.Tests.Twn1

def twinAt (d : Dev) (st : Nat) (holder : Bool) : Dev :=
  let d := onAll d
  let d := { d with frd := { d.frd with cfg := { d.frd.cfg with role := { d.frd.cfg.role with grade := 1, turnIntervalS := 60 }, axes := [], loops := [], chans := [], pins := [] } } }
  let d := ((d.put F.TWN_STATUS.state st).put F.TWN_STATUS.lanes_up 3).put F.TWN_STATUS.partner_present 1
  let d := (d.putB F.TWN_TOKEN_STATE.latch holder).put F.SYS_STRAPS.pers 0
  let d := { d with evt := { d.evt with running := true }, twn := { d.twn with pState := 3, mseqRx := some 40, turn := none, turnAt := 0, queue := [], join := none, said95 := false } }
  let d := { d.wr R.EVT_TIME (d.now % 2 ^ 50) with regs := (d.wr R.EVT_TIME (d.now % 2 ^ 50)).regs.filter fun p => !(0x200000 ≤ p.1 && p.1 < 0x300000) }
  d

def mkMsg (kind seq : Nat) (us : List Nat) : TwinFrame :=
  let f := ([0xA3, kind] ++ leBytes 2 seq ++ [0, 0, 0, 0]) :: us.map (leBytes 8)
  ⟨0, ⟨f.map (·.map (BitVec.ofNat 8)), .eof (([0xB4] ++ leBytes 4 (frameCrc f) ++ [0, 0, 0]).map (BitVec.ofNat 8))⟩, 3⟩

def gotMsg (kind : Nat) (us : List Nat) : TwinMsg := (twinMsg kind us.length (mkMsg kind 40 us).frame).getD ⟨0, []⟩

theorem witness_TwinLanesAndToken :
    (∃ (s : State), s.dev.twin = true ∧ (s.dev.twnSt = 3 ∨ s.dev.twnSt = 4) ∧ s.dev.on F.TWN_TOKEN_STATE.agree = false ∧ s.dev.twn.disAt ≠ 0 ∧ s.dev.get F.TWN_TOKEN_STATE.named = s.dev.member) ∧
    (∃ (s : State), s.dev.twin = true ∧ (s.dev.twnSt = 3 ∨ s.dev.twnSt = 4) ∧ s.dev.on F.TWN_TOKEN_STATE.agree = false ∧ s.dev.twn.disAt ≠ 0 ∧ s.dev.get F.TWN_TOKEN_STATE.named = 3 - s.dev.member ∧ (s.dev.member = 1 ∨ s.dev.member = 2) ∧ s.dev.twn.solo = false) ∧
    (∃ (s : State), s.dev.twin = true ∧ s.dev.domOn 0 = true ∧ s.dev.domOn 2 = true) ∧
    (∃ (s : State), s.dev.latch = true) ∧
    (∃ (s : State) (off : BitVec 16), s.dev.twin = true) ∧
    (∃ (s : State), s.dev.twin = true ∧ (s.dev.twnSt = 3 ∨ s.dev.twnSt = 4) ∧ s.dev.latch = false ∧ s.dev.on F.TWN_TOKEN_STATE.agree = false ∧ s.dev.on F.TWN_TOKEN_STATE.auth_a = decide (s.dev.member = 1) ∧ s.dev.on F.TWN_TOKEN_STATE.auth_b = decide (s.dev.member = 2) ∧ s.dev.get F.TWN_TOKEN_STATE.named = s.dev.member ∧ s.dev.twn.disAt ≠ 0 ∧ s.dev.twn.turnAt = 0 ∧ s.dev.twn.said98 = false ∧ s.dev.twn.inputs = [] ∧ s.dev.twn.queue = [] ∧ s.dev.on F.TWN_STATUS.epoch_busy = false) ∧
    (∃ (s : State), s.dev.twin = true ∧ (s.dev.twnSt = 3 ∨ s.dev.twnSt = 4) ∧ s.dev.latch = true ∧ s.dev.present = true ∧ s.dev.on F.TWN_TOKEN_STATE.agree = false ∧ s.dev.on F.TWN_TOKEN_STATE.auth_a = decide (s.dev.member = 2) ∧ s.dev.on F.TWN_TOKEN_STATE.auth_b = decide (s.dev.member = 1) ∧ s.dev.get F.TWN_TOKEN_STATE.named = 3 - s.dev.member ∧ s.dev.twn.disAt ≠ 0 ∧ s.dev.twn.turnAt = 0 ∧ s.dev.twn.solo = false) ∧
    (∃ (s : State), s.dev.on F.TWN_TOKEN_STATE.agree = true) :=
  ⟨⟨(let d : Dev := base; let d : Dev := (((((twinAt d (3 + d.free % 2) (d.free / 2 % 3 = 0)).put F.SYS_STRAPS.twsel 0).put F.TWN_TOKEN_STATE.auth_a (d.free % 2)).put F.TWN_TOKEN_STATE.auth_b (d.free / 5 % 2))); let d : Dev := ((d.put F.TWN_TOKEN_STATE.named 1).put F.TWN_TOKEN_STATE.agree 0); let d : Dev := (d.put F.TWN_STATUS.epoch_busy (d.free % 4)); let d : Dev := ({ d with twn := { d.twn with disAt := d.sys.now8 + 1 - d.free % 400, said98 := d.free % 3 = 0, solo := d.free % 5 = 0, turnAt := if d.free % 4 = 0 then d.now + d.free % 50 else 0, inputs := [⟨4, 3, 99, d.free % 2⟩, ⟨0, 1, 98, 2⟩], queue := [⟨5, 6, some 7, 0, 0, 0⟩], sent := [⟨true, 128⟩] } }); { dev := d } : State), by decide⟩,
    ⟨(let d : Dev := base; let d : Dev := (((((twinAt d (3 + d.free % 2) (d.free / 2 % 3 = 0)).put F.SYS_STRAPS.twsel 0).put F.TWN_TOKEN_STATE.auth_a (d.free % 2)).put F.TWN_TOKEN_STATE.auth_b (d.free / 5 % 2))); let d : Dev := ((d.put F.TWN_TOKEN_STATE.named 2).put F.TWN_TOKEN_STATE.agree 0); let d : Dev := ((d.put F.TWN_STATUS.epoch_busy (d.free % 4)).put F.TWN_STATUS.partner_present (d.free / 3 % 2)); let d : Dev := ({ d with twn := { d.twn with disAt := d.sys.now8 + 1 - d.free % 400, said98 := d.free % 3 = 0, solo := false, turnAt := if d.free % 4 = 0 then d.now + d.free % 50 else 0, queue := [⟨5, 6, some 7, 0, 0, 0⟩], sent := [⟨true, 128⟩] } }); { dev := d } : State), by decide⟩,
    ⟨(let d : Dev := base; let d : Dev := (twinAt d 3 (d.free % 2 = 0)); let d : Dev := ({ d with twn := { d.twn with freshAt := d.sys.now8 - d.free % 200 } }); { dev := d } : State), by decide⟩,
    ⟨(let d : Dev := base; let d : Dev := (twinAt d 3 true); let d : Dev := ({ d with twn := { d.twn with freshAt := d.sys.now8 - d.free % 700 } }); { dev := d } : State), by decide⟩,
    ⟨(let d : Dev := base; let d : Dev := (twinAt d 3 true); { dev := d } : State), (20 : BitVec 16), by decide⟩,
    ⟨(let d : Dev := base; let d : Dev := ((((twinAt d (3 + d.free % 2) false).put F.SYS_STRAPS.twsel 0).put F.TWN_TOKEN_STATE.auth_a 1).put F.TWN_TOKEN_STATE.auth_b 0); let d : Dev := ((d.put F.TWN_TOKEN_STATE.named 1).put F.TWN_TOKEN_STATE.agree 0); let d : Dev := ((d.put F.TWN_STATUS.epoch_busy 0)); let d : Dev := ({ d with twn := { d.twn with disAt := d.sys.now8 + 1 - d.free % 400, said98 := false, solo := false, inputs := [], queue := [] } }); { dev := d } : State), by decide⟩,
    ⟨(let d : Dev := base; let d : Dev := ((((twinAt d (3 + d.free % 2) true).put F.SYS_STRAPS.twsel 0).put F.TWN_TOKEN_STATE.auth_a 0).put F.TWN_TOKEN_STATE.auth_b 1); let d : Dev := ((d.put F.TWN_TOKEN_STATE.named 2).put F.TWN_TOKEN_STATE.agree 0); let d : Dev := ({ d with twn := { d.twn with disAt := d.sys.now8 + 1 - d.free % 400, said98 := false, solo := false } }); { dev := d } : State), by decide⟩,
    ⟨(let d : Dev := base; let d : Dev := (((twinAt d (d.free % 6) (d.free / 6 % 2 = 0)).put F.TWN_TOKEN_STATE.agree 1)); { dev := d } : State), by decide⟩⟩

end Sys2Proof.Tests.Twn1

namespace Sys2Proof.Tests.Twn2

def twinAt (d : Dev) (st : Nat) (holder : Bool) : Dev :=
  let d := onAll d
  let d := { d with frd := { d.frd with cfg := { d.frd.cfg with role := { d.frd.cfg.role with grade := 1, turnIntervalS := 60 }, axes := [], loops := [], chans := [], pins := [] } } }
  let d := ((d.put F.TWN_STATUS.state st).put F.TWN_STATUS.lanes_up 3).put F.TWN_STATUS.partner_present 1
  let d := (d.putB F.TWN_TOKEN_STATE.latch holder).put F.SYS_STRAPS.pers 0
  let d := { d with evt := { d.evt with running := true }, twn := { d.twn with pState := 3, mseqRx := some 40, turn := none, turnAt := 0, queue := [], join := none, said95 := false } }
  let d := { d.wr R.EVT_TIME (d.now % 2 ^ 50) with regs := (d.wr R.EVT_TIME (d.now % 2 ^ 50)).regs.filter fun p => !(0x200000 ≤ p.1 && p.1 < 0x300000) }
  d

def mkMsg (kind seq : Nat) (us : List Nat) : TwinFrame :=
  let f := ([0xA3, kind] ++ leBytes 2 seq ++ [0, 0, 0, 0]) :: us.map (leBytes 8)
  ⟨0, ⟨f.map (·.map (BitVec.ofNat 8)), .eof (([0xB4] ++ leBytes 4 (frameCrc f) ++ [0, 0, 0]).map (BitVec.ofNat 8))⟩, 3⟩

def gotMsg (kind : Nat) (us : List Nat) : TwinMsg := (twinMsg kind us.length (mkMsg kind 40 us).frame).getD ⟨0, []⟩

def ph9 (d : Dev) (st : Nat) : Dev := { d with sys := { d.sys with ph := Store.set 0 d.sys.ph 9 st } }

def inUnit (code idx iseq ts v : Nat) : TwinUnit := let b := [0x99, code * 32 + idx, iseq] ++ leBytes 2 ts ++ leBytes 2 v; ⟨0, (b ++ [crc8 b]).map (BitVec.ofNat 8)⟩

theorem witness_TwinMessages :
    (∃ (s : State) (m : TwinFrame) (x : TwinMsg) (e : Nat), s.dev.linkOn m.lane = true ∧ twinMsg 3 3 m.frame = some x ∧ s.dev.twn.mseqRx = some e ∧ 0 < (x.mseq + 65536 - e) % 65536 ∧ (x.mseq + 65536 - e) % 65536 < 32768 ∧ s.dev.twnSt = 3 ∧ portsQuiet s.dev ∧ s.dev.slot ≤ x.units.headD 0 / 8) ∧
    (∃ (s : State) (u : TwinUnit), s.dev.linkOn u.lane = true ∧ (unitBytes u.bytes).length = 8 ∧ (unitBytes u.bytes).getD 0 0 = 0x99 ∧ crc8 ((unitBytes u.bytes).take 7) = (unitBytes u.bytes).getD 7 0 ∧ s.dev.twn.iseqRx = some ((unitBytes u.bytes).getD 2 0) ∧ s.dev.twn.secN = 8000000 ∧ s.dev.twn.secAt = s.dev.now / 125000000 ∧ s.dev.twnSt = 3 ∧ s.dev.latch = false ∧ s.dev.twn.turnAt = 0 ∧ portsQuiet s.dev) ∧
    (∃ (s : State), s.dev.twin = true ∧ s.dev.twnSt ≠ 0 ∧ s.dev.domOn 2 = true ∧ s.dev.evt.running = true ∧ s.dev.now < 2 ^ 60 ∧ s.dev.twn.sentAt ≤ s.dev.now + 1) ∧
    (∃ (s : State) (m : TwinFrame) (x : TwinMsg), arrives s.dev m 2 6 x) ∧
    (∃ (s : State) (m : TwinFrame) (x : TwinMsg), arrives s.dev m 1 2 x) ∧
    (∃ (s : State) (u : TwinUnit), s.dev.linkOn u.lane = true ∧ (unitBytes u.bytes).length = 8 ∧ (unitBytes u.bytes).getD 0 0 = 0x99 ∧ crc8 ((unitBytes u.bytes).take 7) = (unitBytes u.bytes).getD 7 0 ∧ (s.dev.twn.iseqRx = none ∨ s.dev.twn.iseqRx = some ((unitBytes u.bytes).getD 2 0))) ∧
    (∃ (s : State), s.dev.twin = true ∧ s.dev.twnSt ≠ 1 ∧ s.dev.twnSt ≠ 2 ∧ s.dev.domOn 2 = true ∧ s.dev.evt.running = true ∧ s.dev.twn.wdog = false ∧ s.dev.now < 2 ^ 60 ∧ s.dev.twn.sentAt ≤ s.dev.now + 1) ∧
    (∃ (s : State) (m : TwinFrame) (x : TwinMsg), arrives s.dev m 2 6 x ∧ s.dev.twnSt = 3 ∧ s.dev.latch = false ∧ bits (x.units.getD 3 0) 31 28 = 3 ∧ bit (x.units.getD 3 0) 27 = true ∧ bit (x.units.getD 5 0) 5 = false ∧ s.dev.twn.thetas.length < 15 ∧ (bit (x.units.getD 3 0) 45 = false ∨ s.dev.flt.pairHold = 0)) ∧
    (∃ (s : State) (m : TwinFrame) (x : TwinMsg), arrives s.dev m 1 2 x ∧ s.dev.twnSt = 1 ∧ portsQuiet s.dev ∧ x.units.headD 0 = s.dev.rd R.FRD_IMAGE_CRC <<< 32 + s.dev.rd R.FRD_IMAGE_SERIAL ∧ bits (x.units.getD 1 0) 55 52 = 4) ∧
    (∃ (s : State) (m : TwinFrame) (x : TwinMsg), arrives s.dev m 1 2 x ∧ s.dev.twnSt = 1 ∧ s.dev.member = 1 ∧ s.dev.phaseSt 9 ≠ 1 ∧ x.units.headD 0 = s.dev.rd R.FRD_IMAGE_CRC <<< 32 + s.dev.rd R.FRD_IMAGE_SERIAL ∧ bits (x.units.getD 1 0) 55 52 = 1) ∧
    (∃ (s : State) (m : TwinFrame), s.dev.linkOn m.lane = true ∧ twinMsg 2 6 m.frame = none ∧ twinMsg 1 2 m.frame = none) ∧
    (∃ (s : State) (m : TwinFrame) (x : TwinMsg) (e : Nat), s.dev.linkOn m.lane = true ∧ twinMsg 3 3 m.frame = some x ∧ s.dev.twn.mseqRx = some e ∧ 32768 ≤ (x.mseq + 65536 - e) % 65536) ∧
    (∃ (s : State) (u : TwinUnit), s.dev.linkOn u.lane = true ∧ (unitBytes u.bytes).length = 8 ∧ (unitBytes u.bytes).getD 0 0 = 0x99 ∧ crc8 ((unitBytes u.bytes).take 7) = (unitBytes u.bytes).getD 7 0 ∧ (s.dev.twn.iseqRx = none ∨ s.dev.twn.iseqRx = some ((unitBytes u.bytes).getD 2 0)) ∧ s.dev.twnSt = 2 ∧ s.dev.latch = false ∧ unitInRate s.dev) ∧
    (∃ (s : State) (u : TwinUnit), s.dev.linkOn u.lane = true ∧ (unitBytes u.bytes).length = 8 ∧ (unitBytes u.bytes).getD 0 0 = 0x99 ∧ crc8 ((unitBytes u.bytes).take 7) = (unitBytes u.bytes).getD 7 0 ∧ s.dev.twn.iseqRx = none ∧ s.dev.twnSt = 3 ∧ s.dev.latch = false ∧ s.dev.twn.turnAt = 0 ∧ (unitBytes u.bytes).getD 1 0 / 32 = 4 ∧ s.dev.slot ≤ (s.dev.nearest ((unitBytes u.bytes).getD 3 0 + 256 * (unitBytes u.bytes).getD 4 0) + 128) / 8 ∧ s.dev.chansInUse = [] ∧ unitInRate s.dev) ∧
    (∃ (s : State) (u : TwinUnit), s.dev.linkOn u.lane = true ∧ ¬ ((unitBytes u.bytes).length = 8 ∧ (unitBytes u.bytes).getD 0 0 = 0x99 ∧ crc8 ((unitBytes u.bytes).take 7) = (unitBytes u.bytes).getD 7 0)) :=
  ⟨⟨(let d : Dev := base; let d : Dev := (twinAt d 3 (d.free % 2 = 0)); let d : Dev := ({ d with twn := { d.twn with mseqRx := some 36, vecs := [] } }); { dev := d } : State), (let s : State := { dev := base }; (mkMsg 3 40 [2 ^ 60, s.dev.free % 2 ^ 48 * 2 ^ 16 &&& 0xFFFF03FFFFFF0000, 900]) : TwinFrame), (let s : State := { dev := base }; (gotMsg 3 [2 ^ 60, s.dev.free % 2 ^ 48 * 2 ^ 16 &&& 0xFFFF03FFFFFF0000, 900]) : TwinMsg), (36 : Nat), by decide⟩,
    ⟨(let d : Dev := base; let d : Dev := (twinAt d 3 false); let d : Dev := ({ d with twn := { d.twn with iseqRx := some 9, secN := 8000000, secAt := d.now / 125000000 } }); { dev := d } : State), (let d : Dev := base; inUnit (d.free % 8) (d.free / 8 % 32) 9 (d.now % 65536 + d.free % 50) (d.free / 5 % 65536) : TwinUnit), by decide⟩,
    ⟨(let d : Dev := base; let d : Dev := (((twinAt d (1 + d.free % 5) (d.free / 3 % 2 = 0)).put F.TWN_STATUS.lanes_up (d.free % 4))); let d : Dev := ({ d with twn := { d.twn with sentAt := if d.free % 2 = 0 then 0 else d.now - d.now % 125 + 1, wdog := d.free % 3 = 0 } }); let d : Dev := (if d.free % 4 = 1 then { d.wr R.EVT_TIME (1250 * (d.free % 900) - 20) with twn := { d.twn with sentAt := 0 } } else d); { dev := d } : State), by decide⟩,
    ⟨(let d : Dev := base; let d : Dev := ((ph9 ((twinAt d (1 + d.free / 2 % 5) (d.free % 2 = 0)).put F.TWN_STATUS.partner_present (d.free % 2)) (d.free / 3 % 3))); let d : Dev := ({ d with twn := { d.twn with thetas := List.replicate (d.free % 17) ((d.free % 60 : Nat) - 30 : Int), full := d.free % 4, syncN := d.free % 18, offN := d.free % 5, lockAt := d.free % 9000, stepped := d.free % 2 = 0, vecs := [⟨1, 2, 3, true, false⟩], corrAt := 0 } }); { dev := d } : State), (let d : Dev := base; (mkMsg 2 40 [8 * 4096 + d.free % 4096, d.free % 2 * 700, d.free % 4096, (d.free / 7 % 65536) * 2 ^ 32 + (d.free % 6) * 2 ^ 28 + (d.free % 2) * 2 ^ 27 + 5, 9, d.free / 3 % 2 * 32]) : TwinFrame), (let d : Dev := base; (gotMsg 2 [8 * 4096 + d.free % 4096, d.free % 2 * 700, d.free % 4096, (d.free / 7 % 65536) * 2 ^ 32 + (d.free % 6) * 2 ^ 28 + (d.free % 2) * 2 ^ 27 + 5, 9, d.free / 3 % 2 * 32]) : TwinMsg), by decide⟩,
    ⟨(let d : Dev := base; let d : Dev := ((ph9 ((twinAt d (1 + d.free / 2 % 5) (d.free % 2 = 0)).put F.TWN_STATUS.partner_present (d.free % 2)) (d.free / 3 % 3))); let d : Dev := ({ d with twn := { d.twn with full := d.free / 4 % 2 } }); { dev := d } : State), (let d : Dev := base; (mkMsg 1 40 [(if d.free % 3 = 0 then 77 else (twinAt d 1 false).rd R.FRD_IMAGE_CRC <<< 32 + (twinAt d 1 false).rd R.FRD_IMAGE_SERIAL), 2 ^ 56 + (d.free % 6) * 2 ^ 52]) : TwinFrame), (let d : Dev := base; (gotMsg 1 [(if d.free % 3 = 0 then 77 else (twinAt d 1 false).rd R.FRD_IMAGE_CRC <<< 32 + (twinAt d 1 false).rd R.FRD_IMAGE_SERIAL), 2 ^ 56 + (d.free % 6) * 2 ^ 52]) : TwinMsg), by decide⟩,
    ⟨(let d : Dev := base; let d : Dev := ((ph9 ((twinAt d (1 + d.free / 2 % 5) (d.free % 2 = 0)).put F.TWN_STATUS.partner_present (d.free % 2)) (d.free / 3 % 3))); let d : Dev := ({ d with twn := { d.twn with iseqRx := if d.free % 3 = 0 then none else some 7 } }); { dev := d } : State), (let d : Dev := base; inUnit (d.free % 8) (d.free / 8 % 32) 7 (d.now % 65536 + d.free % 50) (d.free / 5 % 65536) : TwinUnit), by decide⟩,
    ⟨(let d : Dev := base; let d : Dev := ((twinAt d ([3, 4, 0].getD (d.free % 3) 0) (d.free / 3 % 2 = 0)).put F.TWN_STATUS.lanes_up (d.free % 5 - 1)); let d : Dev := ({ d with twn := { d.twn with sentAt := if d.free % 2 = 0 then 0 else d.now - d.now % 125 + 1, wdog := false } }); { dev := d } : State), by decide⟩,
    ⟨(let d : Dev := base; let d : Dev := (twinAt d 3 false); let d : Dev := ((d.put F.TWN_STATUS.partner_present (d.free % 2))); let d : Dev := ({ d with twn := { d.twn with mseqRx := if d.free % 3 = 0 then none else some 40, lockAt := 0, thetas := [] } }); { dev := d } : State), (let s : State := { dev := base }; (mkMsg 2 40 [8 * (s.dev.now % 2 ^ 50), s.dev.free % 2 * 77, 900, (s.dev.free % 65536) * 2 ^ 32 + 3 * 2 ^ 28 + 2 ^ 27, s.dev.free, 0]) : TwinFrame), (let s : State := { dev := base }; (gotMsg 2 [8 * (s.dev.now % 2 ^ 50), s.dev.free % 2 * 77, 900, (s.dev.free % 65536) * 2 ^ 32 + 3 * 2 ^ 28 + 2 ^ 27, s.dev.free, 0]) : TwinMsg), by decide⟩,
    ⟨(let d : Dev := base; let d : Dev := (twinAt d 1 (d.free % 2 = 0)); { dev := d } : State), (let d : Dev := base; let d : Dev := (twinAt d 1 (d.free % 2 = 0)); let s : State := { dev := d }; (mkMsg 1 40 [s.dev.rd R.FRD_IMAGE_CRC * 2 ^ 32 + s.dev.rd R.FRD_IMAGE_SERIAL, 4 * 2 ^ 52]) : TwinFrame), (let d : Dev := base; let d : Dev := (twinAt d 1 (d.free % 2 = 0)); let s : State := { dev := d }; (gotMsg 1 [s.dev.rd R.FRD_IMAGE_CRC * 2 ^ 32 + s.dev.rd R.FRD_IMAGE_SERIAL, 4 * 2 ^ 52]) : TwinMsg), by decide⟩,
    ⟨(let d : Dev := base; let d : Dev := (ph9 ((twinAt d 1 false).put F.SYS_STRAPS.twsel 0) 2); { dev := d } : State), (let d : Dev := base; let d : Dev := (ph9 ((twinAt d 1 false).put F.SYS_STRAPS.twsel 0) 2); let s : State := { dev := d }; (mkMsg 1 40 [s.dev.rd R.FRD_IMAGE_CRC * 2 ^ 32 + s.dev.rd R.FRD_IMAGE_SERIAL, 2 ^ 52]) : TwinFrame), (let d : Dev := base; let d : Dev := (ph9 ((twinAt d 1 false).put F.SYS_STRAPS.twsel 0) 2); let s : State := { dev := d }; (gotMsg 1 [s.dev.rd R.FRD_IMAGE_CRC * 2 ^ 32 + s.dev.rd R.FRD_IMAGE_SERIAL, 2 ^ 52]) : TwinMsg), by decide⟩,
    ⟨(let d : Dev := base; let d : Dev := (twinAt d 3 false); { dev := d } : State), (let s : State := { dev := base }; let m : TwinFrame := ⟨0, ⟨[], .cut⟩, 0⟩; (if s.dev.free % 2 = 0 then m else { mkMsg 3 40 [1, 2, 3] with lane := m.lane }) : TwinFrame), by decide⟩,
    ⟨(let d : Dev := base; let d : Dev := (twinAt d 3 false); let d : Dev := ({ d with twn := { d.twn with mseqRx := some (41 + d.free % 30000) } }); { dev := d } : State), ((mkMsg 3 40 [1, 0, 3]) : TwinFrame), ((gotMsg 3 [1, 0, 3]) : TwinMsg), (let d : Dev := base; let d : Dev := (twinAt d 3 false); let d : Dev := ({ d with twn := { d.twn with mseqRx := some (41 + d.free % 30000) } }); let s : State := { dev := d }; (41 + s.dev.free % 30000) : Nat), by decide⟩,
    ⟨(let d : Dev := base; let d : Dev := (twinAt d 2 false); let d : Dev := ({ d with twn := { d.twn with iseqRx := if d.free % 2 = 0 then none else some 9 } }); { dev := d } : State), (let d : Dev := base; let d : Dev := (twinAt d 2 false); let d : Dev := ({ d with twn := { d.twn with iseqRx := if d.free % 2 = 0 then none else some 9 } }); let s : State := { dev := d }; (inUnit (s.dev.free % 7) 3 9 (s.dev.free % 65536) 77) : TwinUnit), by decide⟩,
    ⟨(let d : Dev := base; let d : Dev := (twinAt d 3 false); let d : Dev := ({ d with twn := { d.twn with iseqRx := none } }); { dev := d } : State), (let d : Dev := base; let d : Dev := (twinAt d 3 false); let d : Dev := ({ d with twn := { d.twn with iseqRx := none } }); let s : State := { dev := d }; (inUnit 4 3 9 (s.dev.now % 65536) (s.dev.free % 2)) : TwinUnit), by decide⟩,
    ⟨(let d : Dev := base; let d : Dev := (twinAt d 3 false); { dev := d } : State), (let s : State := { dev := base }; let u : TwinUnit := ⟨0, []⟩; (if s.dev.free % 2 = 0 then u else { inUnit 4 3 9 7 1 with bytes := (inUnit 4 3 9 7 1).bytes.take 7 ++ [0x11#8] }) : TwinUnit), by decide⟩⟩

theorem witness_TwinPartner :
    (∃ (s : State), s.dev.present = true) ∧
    (∃ (s : State) (r : Reg) (a : Agreed), s.dev.idleStart = false ∧ 3 ≤ s.dev.twnSt ∧ s.dev.nextAgreed = some a ∧ a.kind = 0 ∧ r ∈ [R.BLD_AXa_RATES 1, R.STP_AXm_RATES 2, R.TMP_Ss_LIMIT 3] ∧ a.off = r.off ∧ s.dev.domOn 0 = true ∧ s.dev.domOn (domainOf r.off) = true ∧ s.dev.evt.running = true ∧ s.dev.now < 2 ^ 62 ∧ s.dev.agreedAt a < 2 ^ 62 ∧ a.data < 2 ^ 32) ∧
    (∃ (s : State) (c : Byte) (crc : Word32), s.dev.quiet9 = true ∧ s.dev.phaseSt 9 = 1) ∧
    (∃ (s : State) (a : Fin 16) (v : Word32), reached s.dev (R.BLD_AXa_SETPOINT a).off ∧ s.dev.twin = true ∧ 2 ≤ s.dev.twnSt ∧ s.dev.latch = true ∧ s.dev.present = false) ∧
    (∃ (s : State) (a : Fin 16) (v : Word32), reached s.dev (R.BLD_AXa_SETPOINT a).off ∧ s.dev.twin = true ∧ 2 ≤ s.dev.twnSt ∧ s.dev.latch = false) ∧
    (∃ (s : State) (m : TwinFrame) (x : TwinMsg), arrives s.dev m 3 3 x ∧ (s.dev.twnSt = 2 ∨ s.dev.twnSt = 3) ∧ s.dev.latch = false ∧ s.dev.slot ≤ x.units.headD 0 / 8) ∧
    (∃ (s : State) (a : Fin 16) (ta : Nat) (v : Nat), s.dev.idleStart = false ∧ 3 ≤ s.dev.twnSt ∧ s.dev.twn.queue = [⟨ta, 4, none, 0, (R.BLD_AXa_RATES a).off, v⟩] ∧ s.dev.twn.join = none ∧ s.dev.domOn 0 = true ∧ s.dev.domOn (domainOf (R.BLD_AXa_RATES a).off) = true ∧ s.dev.evt.running = true ∧ s.dev.now < 2 ^ 62 ∧ ta < 2 ^ 62 ∧ v < 2 ^ 32) ∧
    (∃ (s : State), (s.dev.twnSt < 3 ∨ s.dev.twn.queue = [])) ∧
    (∃ (s : State), s.dev.twnSt = 3 ∧ s.dev.latch = true ∧ s.dev.on F.TWN_STATUS.epoch_busy = false) ∧
    (∃ (s : State), s.dev.twin = true ∧ s.dev.twnSt = 1 ∧ s.dev.quiet9 = true ∧ s.dev.phaseSt 9 = 1 ∧ s.dev.cfg.axes = [] ∧ s.dev.cfg.loops = []) :=
  ⟨⟨(let d : Dev := base; let d : Dev := ((ph9 (twinAt d (d.free / 2 % 6) (d.free % 2 = 0)) (d.free / 3 % 3)).put F.TWN_STATUS.epoch_busy (d.free % 3 / 2)); let d : Dev := ({ d with twn := { d.twn with beatAt := d.sys.now8 - d.free % 3000, queue := [⟨5, 6, some 7, 0, 0, 0⟩], inputs := [⟨4, 3, 99, d.free % 2⟩], dirty := [⟨true, 64⟩], sent := [⟨true, 128⟩], full := d.free % 4 } }); { dev := d } : State), by decide⟩,
    ⟨(let d : Dev := base; let d : Dev := (twinAt d (3 + d.free % 2) true); let d : Dev := (let a : Agreed := ⟨d.now + 9, 4, none, 0, (R.TMP_Ss_LIMIT 3).off, d.free % 2 ^ 32⟩; let b : Agreed := ⟨d.now + 9 + d.free % 2, 5, none, 2, 5, 6⟩; let c : Agreed := ⟨5, 6, some 7, 0, 0, 0⟩; { d with twn := { d.twn with queue := if d.free % 2 = 0 then [c, a, b] else [b, c, a] , join := if d.free % 3 = 0 then some (d.now + 5, d.now + 40) else none } }); { dev := d } : State), (R.TMP_Ss_LIMIT 3 : Reg), (let d : Dev := base; let d : Dev := twinAt d (3 + d.free % 2) true; ⟨d.now + 9, 4, none, 0, (R.TMP_Ss_LIMIT 3).off, d.free % 2 ^ 32⟩ : Agreed), by decide⟩,
    ⟨(let d : Dev := base; let d : Dev := (ph9 ((twinAt d 1 false).put F.TWN_STATUS.lanes_up 0) 1); let d : Dev := ({ d with twn := { d.twn with active9 := false } }); { dev := d } : State), (5 : Byte), (5 : Word32), by decide⟩,
    ⟨(let d : Dev := base; let d : Dev := (twinAt d (2 + d.free % 3) (d.free / 3 % 2 = 0)); let d : Dev := (d.put F.TWN_STATUS.partner_present 0); { dev := { d with host := { d.host with d3 := false, linkUp := true } } } : State), (1 : Fin 16), (5 : Word32), by decide⟩,
    ⟨(let d : Dev := base; let d : Dev := (twinAt d (2 + d.free % 3) false); { dev := { d with host := { d.host with d3 := false, linkUp := true } } } : State), (1 : Fin 16), (5 : Word32), by decide⟩,
    ⟨(let d : Dev := base; let d : Dev := (twinAt d (2 + d.free % 2) false); { dev := d } : State), (let d : Dev := base; let d : Dev := (twinAt d (2 + d.free % 2) false); let s : State := { dev := d }; (mkMsg 3 40 [s.dev.now + s.dev.free % 90, (if s.dev.free % 2 = 0 then 0xFFFF else 7) * 2 ^ 48 + 0x80010 * 2 ^ 16, 55]) : TwinFrame), (let d : Dev := base; let d : Dev := (twinAt d (2 + d.free % 2) false); let s : State := { dev := d }; (gotMsg 3 [s.dev.now + s.dev.free % 90, (if s.dev.free % 2 = 0 then 0xFFFF else 7) * 2 ^ 48 + 0x80010 * 2 ^ 16, 55]) : TwinMsg), by decide⟩,
    ⟨(let a : Fin 16 := 1; let v : Nat := 70; let v := (v % 2 ^ 32); let d : Dev := base; let d : Dev := (twinAt d (3 + d.free % 2) true); let s : State := { dev := d }; ({ s with dev := { s.dev with twn := { s.dev.twn with queue := [⟨s.dev.now + 9, 4, none, 0, (R.BLD_AXa_RATES a).off, v⟩] } } }) : State), (1 : Fin 16), (let a : Fin 16 := 1; let v : Nat := 70; let v := (v % 2 ^ 32); let d : Dev := base; let d : Dev := (twinAt d (3 + d.free % 2) true); let s : State := { dev := d }; let s : State := ({ s with dev := { s.dev with twn := { s.dev.twn with queue := [⟨s.dev.now + 9, 4, none, 0, (R.BLD_AXa_RATES a).off, v⟩] } } }); (s.dev.now + 9) : Nat), (let v : Nat := 70; (v % 2 ^ 32) : Nat), by decide⟩,
    ⟨(let d : Dev := base; let d : Dev := (twinAt d (d.free % 6) true); { dev := d } : State), by decide⟩,
    ⟨(let d : Dev := base; let d : Dev := ((twinAt d 3 true).put F.TWN_STATUS.epoch_busy 0); let d : Dev := ({ d.put F.TWN_STATUS.partner_present (d.free % 4) with twn := { d.twn with beatAt := d.sys.now8 - d.free % 3000, queue := [⟨5, 6, some 7, 0, 0, 0⟩] } }); { dev := d } : State), by decide⟩,
    ⟨(let d : Dev := base; let d : Dev := (ph9 ((twinAt d 1 false).put F.TWN_STATUS.lanes_up 0) 1); let d : Dev := ({ d with sys := { d.sys with phAt := Store.set 0 d.sys.phAt 9 (d.sys.now8 - d.free % 400000000) } }); let d : Dev := ({ d with twn := { d.twn with active9 := false } }); { dev := d } : State), by decide⟩⟩

end Sys2Proof.Tests.Twn2

namespace Sys2Proof.Tests.Twn3

def twinAt (d : Dev) (st : Nat) (holder : Bool) : Dev :=
  let d := onAll d
  let d := { d with frd := { d.frd with cfg := { d.frd.cfg with role := { d.frd.cfg.role with grade := 1, turnIntervalS := 60 }, axes := [], loops := [], chans := [], pins := [] } } }
  let d := ((d.put F.TWN_STATUS.state st).put F.TWN_STATUS.lanes_up 3).put F.TWN_STATUS.partner_present 1
  let d := (d.putB F.TWN_TOKEN_STATE.latch holder).put F.SYS_STRAPS.pers 0
  let d := { d with evt := { d.evt with running := true }, twn := { d.twn with pState := 3, mseqRx := some 40, turn := none, turnAt := 0, queue := [], join := none, said95 := false } }
  let d := { d.wr R.EVT_TIME (d.now % 2 ^ 50) with regs := (d.wr R.EVT_TIME (d.now % 2 ^ 50)).regs.filter fun p => !(0x200000 ≤ p.1 && p.1 < 0x300000) }
  d

def mkMsg (kind seq : Nat) (us : List Nat) : TwinFrame :=
  let f := ([0xA3, kind] ++ leBytes 2 seq ++ [0, 0, 0, 0]) :: us.map (leBytes 8)
  ⟨0, ⟨f.map (·.map (BitVec.ofNat 8)), .eof (([0xB4] ++ leBytes 4 (frameCrc f) ++ [0, 0, 0]).map (BitVec.ofNat 8))⟩, 3⟩

def gotMsg (kind : Nat) (us : List Nat) : TwinMsg := (twinMsg kind us.length (mkMsg kind 40 us).frame).getD ⟨0, []⟩

theorem witness_TwinTurns :
    (∃ (s : State), reached s.dev R.TWN_CMD.off) ∧
    (∃ (s : State), s.dev.evt.running = true ∧ s.dev.now < 2 ^ 62 ∧ (s.dev.rd R.TWN_NEXT_TURN < 2 ^ 62 ∨ s.dev.rd R.TWN_NEXT_TURN = 2 ^ 64 - 1)) ∧
    (∃ (s : State) (m : TwinFrame) (x : TwinMsg), arrives s.dev m 4 1 x) ∧
    (∃ (s : State) (th : Nat) (kind : Nat), s.dev.twn.turn = some (th, kind) ∧ s.dev.twnSt = 3 ∧ s.dev.latch = true ∧ s.dev.evt.running = true ∧ s.dev.now < 2 ^ 62 ∧ th < 2 ^ 62 ∧ 0 < s.dev.role.turnIntervalS ∧ s.dev.role.turnIntervalS < 2 ^ 30) ∧
    (∃ (s : State) (th : Nat) (kind : Nat), s.dev.twn.turn = some (th, kind) ∧ s.dev.twnSt = 3 ∧ s.dev.latch = false ∧ s.dev.twn.inputs = [] ∧ s.dev.evt.running = true ∧ s.dev.now < 2 ^ 62 ∧ th < 2 ^ 62) :=
  ⟨⟨(let d : Dev := base; let d : Dev := (twinAt d (3 + d.free % 2) (d.free / 2 % 4 ≠ 0)); let d : Dev := (let d := d.put F.TWN_PARTNER_HEALTH.health (d.get F.TWN_CFG.fit_mask); if d.free % 5 = 0 then d.put F.TWN_PARTNER_HEALTH.health 0 else d); { dev := { (d.put F.SYS_STRAPS.pers 0) with host := { d.host with d3 := false, linkUp := true } } } : State), by decide⟩,
    ⟨(let d : Dev := base; let d : Dev := (twinAt d (3 + d.free % 2) (d.free / 2 % 4 ≠ 0)); let d : Dev := (let d := d.put F.TWN_PARTNER_HEALTH.health (d.get F.TWN_CFG.fit_mask); if d.free % 5 = 0 then d.put F.TWN_PARTNER_HEALTH.health 0 else d); let d : Dev := (d.wr R.TWN_NEXT_TURN (if d.free % 7 = 0 then 2 ^ 64 - 1 else d.now + d.free % 2000)); { dev := d } : State), by decide⟩,
    ⟨(let d : Dev := base; let d : Dev := ((twinAt d (3 + d.free % 2) (d.free / 2 % 4 = 0)).wr R.TWN_NEXT_TURN (d.free % 2 * 9000)); { dev := d } : State), ((mkMsg 4 40 [9000]) : TwinFrame), ((gotMsg 4 [9000]) : TwinMsg), by decide⟩,
    ⟨(let d : Dev := base; let d : Dev := ((twinAt d 3 true).put F.TWN_STATUS.epoch_busy 0); let d : Dev := ({ d with twn := { d.twn with turn := some (d.now + d.free % 300, 2) } }); { dev := d } : State), (let d : Dev := base; let d : Dev := ((twinAt d 3 true).put F.TWN_STATUS.epoch_busy 0); let d : Dev := ({ d with twn := { d.twn with turn := some (d.now + d.free % 300, 2) } }); let s : State := { dev := d }; (s.dev.now + s.dev.free % 300) : Nat), ((2) : Nat), by decide⟩,
    ⟨(let d : Dev := base; let d : Dev := ((twinAt d 3 false).put F.TWN_STATUS.epoch_busy 0); let d : Dev := ({ d with twn := { d.twn with turn := some (d.now + d.free % 300, 2), inputs := [] } }); { dev := d } : State), (let d : Dev := base; let d : Dev := ((twinAt d 3 false).put F.TWN_STATUS.epoch_busy 0); let d : Dev := ({ d with twn := { d.twn with turn := some (d.now + d.free % 300, 2), inputs := [] } }); let s : State := { dev := d }; (s.dev.now + s.dev.free % 300) : Nat), ((2) : Nat), by decide⟩⟩

theorem witness_TwinEpochs :
    (∃ (s : State), reached s.dev R.TWN_CMD.off) ∧
    (∃ (s : State), s.dev.twn.full ≠ 1) ∧
    (∃ (s : State) (ta : Nat), s.dev.twn.adoptAt = some ta ∧ s.dev.evt.running = true ∧ s.dev.now < 2 ^ 62 ∧ ta < 2 ^ 62) ∧
    (∃ (s : State) (m : TwinFrame) (x : TwinMsg), arrives s.dev m 6 4 x) ∧
    (∃ (s : State) (b : Blk), reached s.dev R.TWN_CMD.off ∧ s.dev.paired = true ∧ s.dev.twn.dirty = [b]) ∧
    (∃ (s : State) (b : Blk), s.dev.paired = true ∧ s.dev.twn.full ≠ 1 ∧ s.dev.on F.TWN_STATUS.epoch_busy = false ∧ s.dev.twn.dirty = [b]) ∧
    (∃ (s : State) (m : TwinFrame) (x : TwinMsg), arrives s.dev m 5 9 x ∧ s.dev.takesInputs = true) ∧
    (∃ (s : State) (m : TwinFrame) (x : TwinMsg) (tEnd : Nat), arrives s.dev m 6 4 x ∧ s.dev.takesInputs = true ∧ s.dev.on F.TWN_STATUS.epoch_busy = true ∧ s.dev.twn.rxEpoch < 65536 ∧ s.dev.twn.rx.length < 2 ^ 32 ∧ tEnd < 2 ^ 64 ∧ x.units = endUnits s.dev.twn.rxEpoch s.dev.twn.rx.length (crc32c ((s.dev.twn.rx.map fun b => blkUnits s.dev.twn.rxEpoch b.1 b.2).flatten.flatMap (leBytes 8))) tEnd) ∧
    (∃ (s : State) (m : TwinFrame) (x : TwinMsg), arrives s.dev m 6 4 x ∧ s.dev.takesInputs = true ∧ s.dev.twnSt = 2 ∧ s.dev.on F.TWN_STATUS.epoch_busy = false ∧ x.units = endUnits 12 1 77 900) ∧
    (∃ (s : State) (m : TwinFrame) (x : TwinMsg), arrives s.dev m 7 1 x ∧ s.dev.latch = true ∧ s.dev.on F.TWN_STATUS.epoch_busy = true ∧ s.dev.get F.TWN_EPOCH.current = bits (x.units.headD 0) 63 48 ∧ s.dev.twn.adoptAt = none) ∧
    (∃ (s : State) (m : TwinFrame) (x : TwinMsg), arrives s.dev m 8 2 x ∧ s.dev.takesInputs = true ∧ s.dev.on F.TWN_STATUS.epoch_busy = true) ∧
    (∃ (s : State) (ta : Nat) (b : Blk) (ws : List Nat), s.dev.twn.adoptAt = some ta ∧ s.dev.latch = false ∧ s.dev.twn.rx = [(b, ws)] ∧ b.bar0 = false ∧ 0x10000 ≤ b.off ∧ b.off % 64 = 0 ∧ ws.length = 8 ∧ s.dev.evt.running = true ∧ s.dev.now < 2 ^ 62 ∧ ta < 2 ^ 62) ∧
    (∃ (s : State) (ta : Nat), s.dev.twn.adoptAt = some ta ∧ s.dev.latch = true ∧ s.dev.evt.running = true ∧ s.dev.now < 2 ^ 62 ∧ ta < 2 ^ 62) ∧
    (∃ (s : State), s.dev.twn.adoptAt = none) :=
  ⟨⟨(let d : Dev := base; let d : Dev := (((twinAt d (2 + d.free % 3) (d.free / 2 % 5 ≠ 0)).put F.TWN_STATUS.epoch_busy (d.free / 10 % 5 / 4))); let d : Dev := ({ d with twn := { d.twn with dirty := (List.range (d.free / 3 % 4)).map fun i => ⟨i % 2 = 0, 0x81000 + 64 * (3 * i + d.free % 9)⟩, sent := [] } }); { dev := { (d.put F.SYS_STRAPS.pers 0) with host := { d.host with d3 := false, linkUp := true } } } : State), by decide⟩,
    ⟨(let d : Dev := base; let d : Dev := (((twinAt d (2 + d.free % 3) (d.free / 2 % 5 ≠ 0)).put F.TWN_STATUS.epoch_busy (d.free / 10 % 5 / 4))); let d : Dev := ({ d with twn := { d.twn with full := d.free / 7 % 2 * 2, dirtyAt := d.sys.now8 + 1 - d.free % 2000, queue := if d.free % 3 = 0 then [⟨5, 6, some 7, 0, 0, 0⟩] else [], dirty := (List.range (d.free / 3 % 4)).map fun i => ⟨i % 2 = 0, 0x81000 + 64 * (3 * i + d.free % 9)⟩, sent := [] } }); { dev := d } : State), by decide⟩,
    ⟨(let d : Dev := base; let d : Dev := ((twinAt d (2 + d.free % 3) (d.free / 3 % 2 = 0)).put F.TWN_STATUS.epoch_busy 1); let d : Dev := ({ d with twn := { d.twn with adoptAt := some (d.now + d.free % 90), rx := [(⟨d.free / 2 % 2 = 0, 0x81000 + 64 * (d.free % 9)⟩, [1, 2, 3, 4, 5, 6, 7, d.free]), (⟨d.free / 4 % 2 = 0, 0x200000 + 64 * (d.free % 900)⟩, [9, d.free, d.free, 4, 5, 6, 7, d.free])], queue := [⟨5, 6, some (d.get F.TWN_EPOCH.current), 0, 0, 0⟩], dirty := if d.free % 5 = 0 then [] else [⟨true, 64⟩], full := d.free % 3 } }); { dev := d } : State), (let d : Dev := base; let d : Dev := (twinAt d (2 + d.free % 3) (d.free / 3 % 2 = 0)).put F.TWN_STATUS.epoch_busy 1; (d.now + d.free % 90) : Nat), by decide⟩,
    ⟨(let d : Dev := base; let d : Dev := ((twinAt d (2 + d.free % 3) (d.free / 3 % 3 = 0)).put F.TWN_STATUS.epoch_busy (d.free % 4)); let d : Dev := ({ d with twn := { d.twn with rxEpoch := 12, rx := if d.free % 2 = 0 then [] else [(⟨false, 0x1000040⟩, [1, 2, 3, 4, 5, 6, 7, 8])] } }); { dev := d } : State), (let d : Dev := base; (mkMsg 6 40 (endUnits 12 (d.free % 2) (if d.free % 2 = 1 then crc32c ((blkUnits 12 ⟨false, 0x1000040⟩ [1, 2, 3, 4, 5, 6, 7, 8]).flatMap (leBytes 8)) else d.free % 2 ^ 32) 900)) : TwinFrame), (let d : Dev := base; (gotMsg 6 (endUnits 12 (d.free % 2) (if d.free % 2 = 1 then crc32c ((blkUnits 12 ⟨false, 0x1000040⟩ [1, 2, 3, 4, 5, 6, 7, 8]).flatMap (leBytes 8)) else d.free % 2 ^ 32) 900)) : TwinMsg), by decide⟩,
    ⟨(let d : Dev := base; let d : Dev := ((twinAt d (3 + d.free % 2) (d.free / 2 % 5 ≠ 0)).put F.TWN_STATUS.epoch_busy (d.free / 10 % 5 / 4)); let d : Dev := ({ d with twn := { d.twn with dirty := [⟨false, 0x1000000 + 64 * (d.free % 9)⟩], sent := [] } }); { dev := { (d.put F.SYS_STRAPS.pers 0) with host := { d.host with d3 := false, linkUp := true } } } : State), (let s : State := { dev := base }; (⟨false, 0x1000000 + 64 * (s.dev.free % 9)⟩) : Blk), by decide⟩,
    ⟨(let d : Dev := base; let d : Dev := ((twinAt d (3 + d.free % 2) (d.free / 2 % 5 ≠ 0)).put F.TWN_STATUS.epoch_busy 0); let d : Dev := ({ d with twn := { d.twn with dirty := [⟨false, 0x1000000 + 64 * (d.free % 9)⟩], sent := [], full := 0, dirtyAt := d.sys.now8 + 1 - d.free % 2000, queue := if d.free % 3 = 0 then [⟨5, 6, some 7, 0, 0, 0⟩] else [] } }); { dev := d } : State), (let s : State := { dev := base }; (⟨false, 0x1000000 + 64 * (s.dev.free % 9)⟩) : Blk), by decide⟩,
    ⟨(let d : Dev := base; let d : Dev := (((twinAt d 3 false).put F.TWN_STATUS.epoch_busy (d.free % 2)).put F.TWN_EPOCH.current 12); let d : Dev := ({ d with twn := { d.twn with rxEpoch := 12 + d.free / 2 % 2, rx := [(⟨true, 64⟩, [1, 2, 3])] } }); { dev := d } : State), ((mkMsg 5 40 [12 * 2 ^ 48 + 0x1000040, 1, 2, 3, 4, 5, 6, 7, 8]) : TwinFrame), ((gotMsg 5 [12 * 2 ^ 48 + 0x1000040, 1, 2, 3, 4, 5, 6, 7, 8]) : TwinMsg), by decide⟩,
    ⟨(let d : Dev := base; let d : Dev := ((twinAt d 3 false).put F.TWN_STATUS.epoch_busy 1); let d : Dev := ({ d with twn := { d.twn with rxEpoch := 12, rx := [(⟨false, 0x1000040⟩, [1, 2, 3, 4, 5, 6, 7, d.free])] } }); { dev := d } : State), (let d : Dev := base; let d : Dev := ((twinAt d 3 false).put F.TWN_STATUS.epoch_busy 1); let d : Dev := ({ d with twn := { d.twn with rxEpoch := 12, rx := [(⟨false, 0x1000040⟩, [1, 2, 3, 4, 5, 6, 7, d.free])] } }); let s : State := { dev := d }; let us := (endUnits 12 1 (crc32c ((blkUnits 12 ⟨false, 0x1000040⟩ [1, 2, 3, 4, 5, 6, 7, s.dev.free]).flatMap (leBytes 8))) 900); (mkMsg 6 40 us) : TwinFrame), (let d : Dev := base; let d : Dev := ((twinAt d 3 false).put F.TWN_STATUS.epoch_busy 1); let d : Dev := ({ d with twn := { d.twn with rxEpoch := 12, rx := [(⟨false, 0x1000040⟩, [1, 2, 3, 4, 5, 6, 7, d.free])] } }); let s : State := { dev := d }; let us := (endUnits 12 1 (crc32c ((blkUnits 12 ⟨false, 0x1000040⟩ [1, 2, 3, 4, 5, 6, 7, s.dev.free]).flatMap (leBytes 8))) 900); (gotMsg 6 us) : TwinMsg), ((900) : Nat), by decide⟩,
    ⟨(let d : Dev := base; let d : Dev := ((twinAt d 2 false).put F.TWN_STATUS.epoch_busy 0); { dev := d } : State), ((mkMsg 6 40 (endUnits 12 1 77 900)) : TwinFrame), ((gotMsg 6 (endUnits 12 1 77 900)) : TwinMsg), by decide⟩,
    ⟨(let d : Dev := base; let d : Dev := (((twinAt d 3 true).put F.TWN_STATUS.epoch_busy 1).put F.TWN_EPOCH.current 12); let d : Dev := ({ d with twn := { d.twn with adoptAt := none, sent := [⟨false, 0x1000040⟩], dirty := [⟨false, 0x1000080⟩] } }); { dev := d } : State), (let d : Dev := base; let d : Dev := (((twinAt d 3 true).put F.TWN_STATUS.epoch_busy 1).put F.TWN_EPOCH.current 12); let d : Dev := ({ d with twn := { d.twn with adoptAt := none, sent := [⟨false, 0x1000040⟩], dirty := [⟨false, 0x1000080⟩] } }); let s : State := { dev := d }; (mkMsg 7 40 [12 * 2 ^ 48 + s.dev.free % 2]) : TwinFrame), (let d : Dev := base; let d : Dev := (((twinAt d 3 true).put F.TWN_STATUS.epoch_busy 1).put F.TWN_EPOCH.current 12); let d : Dev := ({ d with twn := { d.twn with adoptAt := none, sent := [⟨false, 0x1000040⟩], dirty := [⟨false, 0x1000080⟩] } }); let s : State := { dev := d }; (gotMsg 7 [12 * 2 ^ 48 + s.dev.free % 2]) : TwinMsg), by decide⟩,
    ⟨(let d : Dev := base; let d : Dev := ((twinAt d 3 false).put F.TWN_STATUS.epoch_busy 1); let d : Dev := ({ d with twn := { d.twn with adoptAt := none, rxEpoch := 12 + d.free % 2 } }); { dev := d } : State), ((mkMsg 8 40 [12 * 2 ^ 48, 7777]) : TwinFrame), ((gotMsg 8 [12 * 2 ^ 48, 7777]) : TwinMsg), by decide⟩,
    ⟨(let d : Dev := base; let d : Dev := ((twinAt d 3 false).put F.TWN_STATUS.epoch_busy 1); let d : Dev := ({ d with twn := { d.twn with adoptAt := some (d.now + d.free % 90), rx := [(⟨false, 0x1000000 + 64 * (d.free % 9)⟩, [1, 2, 3, 4, 5, 6, 7, d.free])], queue := [⟨5, 6, some (d.get F.TWN_EPOCH.current), 0, 0, 0⟩], full := 0 } }); { dev := d } : State), (let d : Dev := base; let d : Dev := ((twinAt d 3 false).put F.TWN_STATUS.epoch_busy 1); let d : Dev := ({ d with twn := { d.twn with adoptAt := some (d.now + d.free % 90), rx := [(⟨false, 0x1000000 + 64 * (d.free % 9)⟩, [1, 2, 3, 4, 5, 6, 7, d.free])], queue := [⟨5, 6, some (d.get F.TWN_EPOCH.current), 0, 0, 0⟩], full := 0 } }); let s : State := { dev := d }; (s.dev.now + s.dev.free % 90) : Nat), (let s : State := { dev := base }; (⟨false, 0x1000000 + 64 * (s.dev.free % 9)⟩) : Blk), (let s : State := { dev := base }; ([1, 2, 3, 4, 5, 6, 7, s.dev.free]) : List Nat), by decide⟩,
    ⟨(let d : Dev := base; let d : Dev := ((twinAt d 3 true).put F.TWN_STATUS.epoch_busy 1); let d : Dev := ({ d with twn := { d.twn with adoptAt := some (d.now + d.free % 90), sent := [⟨false, 0x1000040⟩], full := d.free % 2 } }); { dev := d } : State), (let d : Dev := base; let d : Dev := ((twinAt d 3 true).put F.TWN_STATUS.epoch_busy 1); let d : Dev := ({ d with twn := { d.twn with adoptAt := some (d.now + d.free % 90), sent := [⟨false, 0x1000040⟩], full := d.free % 2 } }); let s : State := { dev := d }; (s.dev.now + s.dev.free % 90) : Nat), by decide⟩,
    ⟨(let d : Dev := base; let d : Dev := ((twinAt d 3 true).put F.TWN_STATUS.epoch_busy (d.free % 5)); let d : Dev := ({ d with twn := { d.twn with adoptAt := none, endAt := d.sys.now8 + 1 - d.free % 20000000, sent := [⟨false, 0x1000040⟩], dirty := [] } }); { dev := d } : State), by decide⟩⟩

theorem witness_TwinJoin :
    (∃ (s : State), s.dev.twnSt = 4 ∧ s.dev.paired = true ∧ s.dev.twn.full = 2) ∧
    (∃ (s : State) (tj : Nat) (tl : Nat), s.dev.twnSt = 4 ∧ s.dev.paired = true ∧ s.dev.twn.full = 3 ∧ s.dev.twn.join = some (tj, tl) ∧ s.dev.evt.running = true ∧ s.dev.now < 2 ^ 62 ∧ tj < 2 ^ 62) ∧
    (∃ (s : State) (tj : Nat) (tl : Nat), s.dev.twnSt = 4 ∧ s.dev.paired = true ∧ s.dev.twn.full = 4 ∧ s.dev.twn.join = some (tj, tl) ∧ s.dev.evt.running = true ∧ s.dev.now < 2 ^ 62 ∧ tl < 2 ^ 62 ∧ 0 < s.dev.role.turnIntervalS ∧ s.dev.role.turnIntervalS < 2 ^ 30) ∧
    (∃ (s : State) (m : TwinFrame) (x : TwinMsg), arrives s.dev m 9 2 x) ∧
    (∃ (s : State) (m : TwinFrame) (x : TwinMsg), arrives s.dev m 0x0A 9 x ∧ s.dev.twnSt = 2 ∧ bits (x.units.headD 0) 63 48 = 0xFFFF) ∧
    (∃ (s : State), s.dev.twnSt = 2 ∧ (snapGather s.dev.twn.snap = none ∨ s.dev.on F.TWN_STATUS.time_synced = false)) ∧
    (∃ (s : State) (ws : List Nat) (tj : Nat) (tl : Nat), s.dev.on F.TWN_STATUS.time_synced = true ∧ s.dev.twnSt = 2 ∧ s.dev.twn.join = some (tj, tl) ∧ snapGather s.dev.twn.snap = some ws ∧ s.dev.twn.joinIn = [] ∧ s.dev.phaseSt 9 ≠ 1 ∧ s.dev.evt.running = true ∧ s.dev.now < 2 ^ 62 ∧ tl < 2 ^ 62) :=
  ⟨⟨(let d : Dev := base; let d : Dev := ((twinAt d 4 true).wr R.SHT_ACTIVE (d.free % 4 / 3)); let d : Dev := ({ d with twn := { d.twn with full := 2 }, ready := [], bld := [], stp := [] }); let d : Dev := ({ d with tbl := [], regs := d.regs.filter fun p => !(0x80000 ≤ p.1 && p.1 < 0xA0000) }); { dev := d } : State), by decide⟩,
    ⟨(let d : Dev := base; let d : Dev := (twinAt d 4 true); let d : Dev := ({ d with twn := { d.twn with full := 3, join := some (d.now + 9, d.now + 62509) } }); { dev := d } : State), (let d : Dev := base; let d : Dev := (twinAt d 4 true); let d : Dev := ({ d with twn := { d.twn with full := 3, join := some (d.now + 9, d.now + 62509) } }); let s : State := { dev := d }; (s.dev.now + 9) : Nat), (let d : Dev := base; let d : Dev := (twinAt d 4 true); let d : Dev := ({ d with twn := { d.twn with full := 3, join := some (d.now + 9, d.now + 62509) } }); let s : State := { dev := d }; (s.dev.now + 62509) : Nat), by decide⟩,
    ⟨(let d : Dev := base; let d : Dev := (twinAt d 4 true); let d : Dev := ({ d with twn := { d.twn with full := 4, join := some (d.now + 9, d.now + 62509) } }); { dev := d } : State), (let d : Dev := base; let d : Dev := (twinAt d 4 true); let d : Dev := ({ d with twn := { d.twn with full := 4, join := some (d.now + 9, d.now + 62509) } }); let s : State := { dev := d }; (s.dev.now + 9) : Nat), (let d : Dev := base; let d : Dev := (twinAt d 4 true); let d : Dev := ({ d with twn := { d.twn with full := 4, join := some (d.now + 9, d.now + 62509) } }); let s : State := { dev := d }; (s.dev.now + 62509) : Nat), by decide⟩,
    ⟨(let d : Dev := base; let d : Dev := (twinAt d (2 + d.free % 2) false); { dev := d } : State), ((mkMsg 9 40 [7000, 69500]) : TwinFrame), ((gotMsg 9 [7000, 69500]) : TwinMsg), by decide⟩,
    ⟨(let d : Dev := base; let d : Dev := (twinAt d 2 false); let d : Dev := ({ d with twn := { d.twn with join := if d.free % 5 = 0 then none else some (1, 2), snap := [] } }); { dev := d } : State), ((mkMsg 10 40 [0xFFFF * 2 ^ 48 + 2 ^ 47 + 64, 1, 2, 3, 4, 5, 6, 7, 8]) : TwinFrame), ((gotMsg 10 [0xFFFF * 2 ^ 48 + 2 ^ 47 + 64, 1, 2, 3, 4, 5, 6, 7, 8]) : TwinMsg), by decide⟩,
    ⟨(let d : Dev := base; let d : Dev := (twinAt d 2 false); let d : Dev := ({ d with twn := { d.twn with join := some (9, 99), snap := if d.free % 2 = 0 then [] else [(⟨true, 64⟩, [5, 6])] } }); { dev := d } : State), by decide⟩,
    ⟨(let d : Dev := base; let d : Dev := (twinAt d 2 false); let d : Dev := ({ d with twn := { d.twn with join := some (d.now + 9, d.now + 62509), joinIn := [], snap := snapBlocks (420 :: (List.range 419).map fun i => if i = 0 then 1 else i % 3) }, sys := { d.sys with ph := Store.set 0 d.sys.ph 9 2 } }); { dev := d.put F.TWN_STATUS.time_synced 1 } : State), (let d : Dev := base; let d : Dev := (twinAt d 2 false); let d : Dev := ({ d with twn := { d.twn with join := some (d.now + 9, d.now + 62509), joinIn := [], snap := snapBlocks (420 :: (List.range 419).map fun i => if i = 0 then 1 else i % 3) }, sys := { d.sys with ph := Store.set 0 d.sys.ph 9 2 } }); let s : State := { dev := d }; ((snapGather s.dev.twn.snap).getD []) : List Nat), (let d : Dev := base; let d : Dev := (twinAt d 2 false); let d : Dev := ({ d with twn := { d.twn with join := some (d.now + 9, d.now + 62509), joinIn := [], snap := snapBlocks (420 :: (List.range 419).map fun i => if i = 0 then 1 else i % 3) }, sys := { d.sys with ph := Store.set 0 d.sys.ph 9 2 } }); let s : State := { dev := d }; (s.dev.now + 9) : Nat), (let d : Dev := base; let d : Dev := (twinAt d 2 false); let d : Dev := ({ d with twn := { d.twn with join := some (d.now + 9, d.now + 62509), joinIn := [], snap := snapBlocks (420 :: (List.range 419).map fun i => if i = 0 then 1 else i % 3) }, sys := { d.sys with ph := Store.set 0 d.sys.ph 9 2 } }); let s : State := { dev := d }; (s.dev.now + 62509) : Nat), by decide⟩⟩

end Sys2Proof.Tests.Twn3

namespace Sys2Proof.Tests.Lg

/-- Personality C with stations 1 and 2 set up, nothing open. -/
def lgUp (d : Dev) : Dev :=
  let d := noArms ((engineUp d).put F.SYS_STRAPS.pers 1)
  { d with frd := { d.frd with cfg := { d.frd.cfg with
    role := { d.frd.cfg.role with admissionRules := 2, dataSource := 1 }
    chans := (List.range 4).map fun n => { channel := n, beams := 1, inputFormat := 0, blMode := 2, facets := 6, pixels := 640, polygonAxis := n } } } }

def lgLines (d : Dev) : Dev :=
  let d := (List.range 4).foldl (fun d s => ((d.wr (R.LG_Ss_LINES s) 100).wr (R.LG_Ss_PIXELS s) 160).wr (R.LG_Ss_CTRL s) (if s = 1 ∨ s = 2 then 0xC004 else 4)) d
  let d := (List.range 32).foldl (fun d k => d.put (F.SHT_Dd_STATE.state k) 0) d
  let d := (List.range 16).foldl (fun d r => d.wr (R.DMA_REGr_SIZE r) 0) d
  let d := (List.range 32).foldl (fun d k => (List.range 16).foldl (fun d j => d.wr (R.SHT_Dd_ARMk k j) 0) d) d
  { d with lg := { d.lg with ends := [], queue := [] } }

def lgLoaded (d : Dev) (k n st : Nat) : Dev :=
  let d := lgLines (lgUp d)
  let d := (d.put (F.SHT_Dd_HEAD.sheet_tag k) (0x100 + n)).put (F.SHT_Dd_STATE.state k) st
  let d := (List.range 8).foldl (fun d x => d.put (F.SHT_Dd_FILLn.lines k x) 100) d
  ((d.put (F.SHT_Dd_HEAD.chan_mask k) 2).put (F.SHT_Dd_LINES.input_lines k) 100).put (F.SHT_Dd_LINES.lead_lines k) 64

theorem witness_LegacyTimer :
    (∃ (s : State) (same : BitVec 16), s.dev.persC = true ∧ s.dev.domOn 0 = true) :=
  ⟨(let d : Dev := base; let d : Dev := (lgUp d); { dev := d } : State), (2 : BitVec 16), by decide⟩

theorem witness_LegacyBus :
    (∃ (s : State) (off : Nat) (same : BitVec 16), s.dev.persC = true ∧ s.dev.domOn 0 = true) ∧
    (∃ (s : State) (off : Nat) (v : BitVec 16) (same : BitVec 16) (n : Byte) (on : Bool) (f : List Byte), (s.dev.persC = false ∨ s.dev.domOn 0 = false)) ∧
    (∃ (s : State) (off : Nat) (same : BitVec 16) (i : Fin 4) (w : Fin 128), s.dev.persC = true ∧ s.dev.domOn 0 = true ∧ off / 2 * 2 % 0x800 ∉ [0x006, 0x00A, 0x00C, 0x028, 0x102, 0x122, 0x142, 0x162]) ∧
    (∃ (s : State) (same : BitVec 16) (i : Fin 4), s.dev.persC = true ∧ s.dev.domOn 0 = true) ∧
    (∃ (s : State) (same : BitVec 16), s.dev.persC = true ∧ s.dev.domOn 0 = true) ∧
    (∃ (s : State) (v : BitVec 16) (i : Fin 4), s.dev.persC = true ∧ s.dev.domOn 0 = true ∧ midSheet s.dev i) ∧
    (∃ (s : State) (v : BitVec 16) (i : Fin 4) (w : Fin 128), s.dev.persC = true ∧ s.dev.domOn 0 = true ∧ midSheet s.dev i) ∧
    (∃ (s : State), s.dev.persC = true ∧ s.dev.domOn 0 = true ∧ s.dev.domOn 2 = true) :=
  ⟨⟨(let d : Dev := base; let d : Dev := (lgUp d); { dev := d } : State), (let d : Dev := base; ([6, 7, 12, 13, 10, 0x102].getD (d.free % 6) 5) : Nat), (3 : BitVec 16), by decide⟩,
    ⟨(let d : Dev := base; let d : Dev := (if d.free % 2 = 0 then d.put F.SYS_STRAPS.pers 0 else (d.put F.SYS_STRAPS.pers 1).put F.PWR_DOMAINS.domains 0); { dev := d } : State), (1 : Nat), (5 : BitVec 16), (0 : BitVec 16), (5 : Byte), (true : Bool), ([] : List Byte), by decide⟩,
    ⟨(let d : Dev := base; let d : Dev := (lgUp d); { dev := d } : State), (let off : Nat := 0x808; let i : Fin 4 := 1; let w : Fin 128 := 1; ([8, 9, 0x808, 0x104 + 32 * i.val, 0x400 + 256 * i.val + 2 * w.val, 0x01C, 0x01A, 0x014, 0x002, 0x0FE].getD (off % 10) (off % 4096)) : Nat), (3 : BitVec 16), (1 : Fin 4), (1 : Fin 128), by decide⟩,
    ⟨(let d : Dev := base; let d : Dev := (lgUp d); { dev := d } : State), (3 : BitVec 16), (1 : Fin 4), by decide⟩,
    ⟨(let d : Dev := base; let d : Dev := (lgUp d); let d : Dev := (if d.free % 2 = 0 then { d with flt := { d.flt with opens := [⟨30, 3, 4, 2, 2, false, 0, false, 0, 0, false, false, 0⟩, ⟨21, 4, 4, 2, 2, false, 0, false, 0, 0, false, false, 0⟩] } } else d); { dev := d } : State), (0 : BitVec 16), by decide⟩,
    ⟨(let i : Fin 4 := 1; let d : Dev := base; let d : Dev := (lgUp d); let d : Dev := (if d.free % 2 = 0 then d.modCh i fun c => { c with desc := some 1 } else d.putBit F.PWR_DOMAINS.domains (4 + i.val) false); { dev := d } : State), (5 : BitVec 16), (1 : Fin 4), by decide⟩,
    ⟨(let i : Fin 4 := 1; let d : Dev := base; let d : Dev := ((lgUp d).put F.LG_CTRL.run (d.free % 2)); let d : Dev := (if d.free % 3 = 0 then d.modCh i fun c => { c with desc := some 1 } else d.putBit F.PWR_DOMAINS.domains (4 + i.val) false); { dev := d } : State), (5 : BitVec 16), (1 : Fin 4), (1 : Fin 128), by decide⟩,
    ⟨(let d : Dev := base; let d : Dev := ((lgUp d).put F.RNG_LANE_STATUS.rx_state ([0, 2, 3, 4].getD (d.free % 4) 0)); { dev := d } : State), by decide⟩⟩

theorem witness_LegacyEngine :
    (∃ (s : State) (n : Byte) (k : Fin 4), s.dev.persC = true ∧ s.dev.domOn 0 = true ∧ (s.dev.shtState k = 0 ∧ (∀ (j : Nat), j < k.val → s.dev.shtState j ≠ 0)) ∧ (∀ (j : Nat), j < 4 → s.dev.shtState j ≠ 0 → s.dev.tagOf j ≠ 0x100 + n.toNat) ∧ (∀ i ∈ s.dev.lgEnabled, s.dev.lgPlane i s.dev.lgLines ≤ 2 ^ 28)) ∧
    (∃ (s : State) (n : Byte) (k : Fin 4), s.dev.persC = true ∧ s.dev.domOn 0 = true ∧ loaded s.dev n.toNat k ∧ s.dev.shtState k = 1) ∧
    (∃ (s : State) (f : List Byte) (k : Nat) (n : Nat) (line : Nat) (px : List Nat), s.dev.persC = true ∧ s.dev.domOn 0 = true ∧ s.dev.domOn 2 = true ∧ s.dev.rxSt = 4 ∧ s.dev.lgJudge (nats f) = .line k n line px ∧ s.dev.descOf (s.dev.tagOf k) = some k ∧ 1 ≤ s.dev.shtState k ∧ s.dev.shtState k ≤ 3) ∧
    (∃ (s : State), s.dev.persC = true ∧ s.dev.domOn 0 = true ∧ s.dev.twin = false ∧ s.dev.on F.LG_CTRL.run = false ∧ s.dev.get F.SYS_HOST_STATE.state = 4 ∧ s.dev.phaseOver 9 = true ∧ (∀ (p : Nat), p < 10 → s.dev.phaseSt p ≠ 3)) ∧
    (∃ (s : State), s.dev.persC = true ∧ s.dev.domOn 0 = true ∧ s.dev.twin = false ∧ (s.dev.on F.LG_CTRL.run = true ∨ s.dev.phaseSt 9 = 3)) ∧
    (∃ (s : State), s.dev.persC = true ∧ s.dev.domOn 0 = true) ∧
    (∃ (s : State) (n : Byte), s.dev.persC = true ∧ s.dev.domOn 0 = true ∧ (∀ (k : Nat), k < 32 → s.dev.shtState k = 0) ∧ (∀ (i : Nat), i < 4 → s.dev.on (F.LG_Ss_CTRL.enable i) = (i = 1 || i = 2) ∧ (s.dev.chan i).isSome = true) ∧ s.dev.get (F.LG_Ss_LINES.lines 1) = 100 ∧ s.dev.get (F.LG_Ss_PIXELS.pixels 1) = 160 ∧ s.dev.get (F.LG_Ss_PIXELS.pixels 2) = 160 ∧ s.dev.lg.ends = [] ∧ s.dev.role.admissionRules = 2 ∧ ((s.dev.lgDescribe 0 n.toNat).openCheck 0) = none) ∧
    (∃ (s : State) (n : Byte) (k : Fin 4), s.dev.persC = true ∧ s.dev.domOn 0 = true ∧ ((s.dev.shtState k ≠ 0 ∧ s.dev.tagOf k = 0x100 + n.toNat) ∨ (∀ (j : Nat), j < 4 → s.dev.shtState j ≠ 0))) ∧
    (∃ (s : State) (n : Byte) (k : Fin 4), s.dev.persC = true ∧ s.dev.domOn 0 = true ∧ loaded s.dev n.toNat k ∧ s.dev.shtState k ≠ 0) ∧
    (∃ (s : State) (n : Byte), s.dev.persC = true ∧ s.dev.domOn 0 = true ∧ (∀ (k : Nat), k < 4 → s.dev.shtState k ≠ 0 → s.dev.tagOf k ≠ 0x100 + n.toNat)) ∧
    (∃ (s : State) (n : Byte) (k : Fin 4), s.dev.persC = true ∧ s.dev.domOn 0 = true ∧ loaded s.dev n.toNat k ∧ s.dev.shtState k ≠ 0 ∧ s.dev.evt.due = [] ∧ s.dev.evt.pend = [] ∧ s.dev.evt.armFor = [] ∧ s.dev.get F.SYS_HOST_STATE.state = 0) ∧
    (∃ (s : State) (k : Nat) (rest : List Nat), s.dev.persC = true ∧ s.dev.domOn 0 = true ∧ (s.dev.lg.queue = k :: rest ∨ s.dev.lg.queue = []) ∧ k < 4) ∧
    (∃ (s : State) (f : List Byte), s.dev.persC = true ∧ s.dev.domOn 0 = true ∧ s.dev.domOn 2 = true ∧ s.dev.rxSt = 4 ∧ (f.length % 8 ≠ 0 ∨ f.length < 24)) ∧
    (∃ (s : State) (i : Fin 4) (line : Nat) (sheet : Byte) (pad : Byte) (px : List Byte), s.dev.persC = true ∧ s.dev.domOn 0 = true ∧ s.dev.domOn 2 = true ∧ s.dev.rxSt = 4 ∧ loaded s.dev sheet.toNat 2 ∧ (s.dev.shtState 2 = 1 ∧ ∀ (j : Nat), j < 32 → j ≠ 2 → s.dev.shtState j = 0) ∧ bit (s.dev.get (F.SHT_Dd_HEAD.chan_mask 2)) i = true ∧ px.length = 8 ∧ line < 2 ^ 16 ∧ s.dev.domOn 1 = true ∧ (s.dev.chan i).map (fun c => stride c false) = some 64 ∧ s.dev.rd (R.SHT_Dd_BASEn 2 i) % 8 = 0 ∧ s.dev.regionOf (s.dev.rd (R.SHT_Dd_BASEn 2 i)) = none ∧ s.dev.rd (R.SHT_Dd_BASEn 2 i) + 64 * 2 ^ 16 ≤ 2 ^ 30) ∧
    (∃ (s : State) (f : List Byte), s.dev.rxSt ≠ 4) :=
  ⟨⟨(let d : Dev := base; let d : Dev := (lgLines (lgUp d)); let d : Dev := (if d.free % 2 = 0 then d.wr (R.LG_Ss_LINES 1) 0 else d); { dev := d } : State), (5 : Byte), (0 : Fin 4), by decide⟩,
    ⟨(let d : Dev := base; let d : Dev := (lgLoaded d 2 9 1); let d : Dev := ({ d with lg := { d.lg with queue := if d.free % 2 = 1 then [2, 3] else [] } }); { dev := d } : State), ((9) : Byte), ((2) : Fin 4), by decide⟩,
    ⟨(let d : Dev := base; let d : Dev := (lgLoaded d 2 9 1); let d : Dev := (((d.put F.RNG_LANE_STATUS.rx_state 4).wr (R.LG_Ss_PIXELS 1) 8).put (F.SHT_Dd_FILLn.lines 2 1) (d.free % 2)); let d : Dev := ((if false then d.wr (R.LG_Ss_PIXELS 1) 9 else d).wr (R.SHT_Dd_BASEn 2 1) 0x10001000); let d : Dev := ({ d with frd := { d.frd with cfg := { d.frd.cfg with chans := d.frd.cfg.chans.map fun c => { c with pixels := 32 } } } }); { dev := d } : State), ((let d : Dev := base; legacyFrameOf 1 (d.free % 2) 9 0 (List.replicate 8 7#8)) : List Byte), (2 : Nat), (1 : Nat), (let d : Dev := base; (d.free % 2) : Nat), ((List.replicate 8 7) : List Nat), by decide⟩,
    ⟨(let d : Dev := base; let d : Dev := (lgLines ((lgUp d).put F.LG_CTRL.run 0)); let d : Dev := ({ (d.put F.SYS_HOST_STATE.state 4) with sys := { d.sys with ph := [(9, 2), (4, 2)] }, twn := { d.twn with vecs := [] } }); { dev := d } : State), by decide⟩,
    ⟨(let d : Dev := base; let d : Dev := ((lgUp d).put F.LG_CTRL.run (d.free % 2)); let d : Dev := (if d.free % 2 = 0 then { d with sys := { d.sys with ph := [(9, 3)] } } else d); { dev := d } : State), by decide⟩,
    ⟨(let d : Dev := base; let d : Dev := ((lgUp d).put F.LG_CTRL.run (d.free % 3)); let d : Dev := ({ d with sys := { d.sys with ph := [(9, 2), (10, 1)] } }); { dev := d } : State), by decide⟩,
    ⟨(let d : Dev := base; let d : Dev := (lgLines (lgUp d)); { dev := d } : State), (5 : Byte), by decide⟩,
    ⟨(let n : Byte := 5; let k : Fin 4 := 1; let d : Dev := base; let d : Dev := (lgLoaded d k n.toNat 1); let d : Dev := (if d.free % 3 = 0 then (List.range 4).foldl (fun d k => d.put (F.SHT_Dd_STATE.state k) 5) (d.put (F.SHT_Dd_HEAD.sheet_tag k) 7) else d); { dev := d } : State), (5 : Byte), (1 : Fin 4), by decide⟩,
    ⟨(let n : Byte := 5; let k : Fin 4 := 1; let d : Dev := base; let d : Dev := (lgLoaded d k n.toNat (if d.free % 4 = 0 then 2 else 1)); let d : Dev := ({ d with lg := { d.lg with queue := if d.free % 4 = 1 then [k.val] else if d.free % 4 = 2 then [(k.val + 1) % 4] else [] } }); { dev := d } : State), (5 : Byte), (1 : Fin 4), by decide⟩,
    ⟨(let n : Byte := 5; let d : Dev := base; let d : Dev := (lgLoaded d 2 (n.toNat + 1) 1); { dev := d } : State), (5 : Byte), by decide⟩,
    ⟨(let n : Byte := 5; let k : Fin 4 := 1; let d : Dev := base; let d : Dev := (lgLoaded d k n.toNat (if d.free % 3 = 0 then 2 else 1)); let d : Dev := ({ d with lg := { d.lg with queue := if d.free % 2 = 1 then [k.val, 9] else [] } }); { dev := d } : State), (5 : Byte), (1 : Fin 4), by decide⟩,
    ⟨(let k : Nat := 1; let rest : List Nat := [2]; let k := (k % 4); let rest := (rest.map (· % 4)); let d : Dev := base; let d : Dev := (lgLoaded d k 9 (if d.free % 3 = 0 then 2 else 1)); let d : Dev := (if d.free % 3 = 1 then d.put (F.SHT_Dd_FILLn.lines k 1) 3 else d); let d : Dev := ({ (d.wr (R.EVT_ENCn_RAW 0) (d.free % 2 ^ 20)) with lg := { d.lg with queue := k :: rest } }); let d : Dev := (if d.free % 5 = 0 then { d with lg := { d.lg with queue := [] } } else d); { dev := d } : State), (let k : Nat := 1; (k % 4) : Nat), (let rest : List Nat := [2]; (rest.map (· % 4)) : List Nat), by decide⟩,
    ⟨(let d : Dev := base; let d : Dev := ((lgUp d).put F.RNG_LANE_STATUS.rx_state 4); { dev := d } : State), (let s : State := { dev := base }; let f : List Byte := []; (if s.dev.free % 2 = 0 then f else 0xFB#8 :: List.replicate (s.dev.free % 40) 0#8) : List Byte), by decide⟩,
    ⟨(let d : Dev := base; let d : Dev := (lgLoaded d 2 9 1); let d : Dev := (((d.put F.RNG_LANE_STATUS.rx_state 4).wr (R.LG_Ss_PIXELS 1) 8).put (F.SHT_Dd_FILLn.lines 2 1) (d.free % 2)); let d : Dev := ((if d.free % 5 = 0 then d.wr (R.LG_Ss_PIXELS 1) 9 else d).wr (R.SHT_Dd_BASEn 2 1) 0x10001000); let d : Dev := ({ d with frd := { d.frd with cfg := { d.frd.cfg with chans := d.frd.cfg.chans.map fun c => { c with pixels := 32 } } } }); { dev := d } : State), ((1) : Fin 4), (let line : Nat := 0; (line % 3) : Nat), ((9) : Byte), (let s : State := { dev := base }; let pad : Byte := 0; (if s.dev.free % 4 = 0 then pad else 0) : Byte), ((List.replicate 8 7#8) : List Byte), by decide⟩,
    ⟨(let d : Dev := base; let d : Dev := ((lgUp d).put F.RNG_LANE_STATUS.rx_state (d.free % 4)); { dev := d } : State), ([] : List Byte), by decide⟩⟩

end Sys2Proof.Tests.Lg

namespace Sys2Proof.Tests.Cal

/-- A walk runs alone, no record waits. -/
def walkUp (d : Dev) : Dev :=
  { (chanUp ((onAll d).put F.SYS_STRAPS.pers 0)) with cal := { walks := [none], waits := [], sent := d.cal.sent.take 3 } }

def waitUp (d : Dev) (l : List CalRec) : Dev :=
  { (chanUp ((onAll d).put F.SYS_STRAPS.pers 0)) with cal := { d.cal with waits := l } }

theorem witness_Calibration :
    (∃ (s : State) (a : List Byte) (b : List Byte), (s.dev.host.qspiBusy = true ∨ s.dev.get F.FRD_STATUS.state = 1)) ∧
    (∃ (s : State) (a : List Byte) (b : List Byte) (w : Option Nat) (rest : List (Option Nat)), s.dev.host.qspiBusy = false ∧ s.dev.get F.FRD_STATUS.state ≠ 1 ∧ s.dev.cal.walks = w :: rest) ∧
    (∃ (s : State) (r : CalRec), s.dev.follows = false ∧ s.dev.cal.waits.find? s.dev.calMoment = some r) ∧
    (∃ (s : State), reached s.dev R.CAL_CTRL.off ∧ (s.dev.on F.CAL_STATUS.busy = true ∨ (s.dev.twin = true ∧ s.dev.get F.TWN_STATUS.state = 3 ∧ s.dev.on F.TWN_TOKEN_STATE.latch = false))) ∧
    (∃ (s : State), s.dev.direct R.CAL_CTRL.off ∧ s.dev.on F.CAL_STATUS.busy = false ∧ s.dev.twin = false) ∧
    (∃ (s : State) (a : List Byte) (b : List Byte), s.dev.cal.walks = []) ∧
    (∃ (s : State) (a : List Byte) (b : List Byte) (w : Option Nat) (rest : List (Option Nat)), s.dev.host.qspiBusy = false ∧ s.dev.get F.FRD_STATUS.state ≠ 1 ∧ s.dev.cal.walks = w :: rest ∧ s.dev.cal.waits = [] ∧ (nats a).take 4 ≠ [0x43, 0x41, 0x4C, 0x50] ∧ (nats b).take 4 ≠ [0x43, 0x41, 0x4C, 0x50]) ∧
    (∃ (s : State) (ga : Nat) (gb : Nat) (sa : Nat) (sb : Nat), s.dev.host.qspiBusy = false ∧ s.dev.get F.FRD_STATUS.state ≠ 1 ∧ s.dev.cal.walks = [none] ∧ s.dev.cal.waits = [] ∧ s.dev.persC = false ∧ ga < 2 ^ 32 ∧ gb < 2 ^ 32 ∧ sa < 2 ^ 32 ∧ sb < 2 ^ 32 ∧ (sa = 0 ∨ sa = s.dev.get F.FRD_IMAGE_SERIAL.serial)) ∧
    (∃ (s : State) (n : Fin 8) (x : List Byte) (late : Bool), s.dev.host.qspiBusy = false ∧ s.dev.get F.FRD_STATUS.state ≠ 1 ∧ s.dev.cal.walks = [none] ∧ s.dev.cal.waits = [] ∧ s.dev.persC = false ∧ s.dev.twin = false ∧ (s.dev.chan n).isSome = true ∧ s.dev.domOn (4 + n) = !late ∧ x.length = 24) ∧
    (∃ (s : State) (r : CalRec) (rest : List CalRec), s.dev.cal.waits = r :: rest ∧ r.kind = 1 ∧ r.idx < 8 ∧ s.dev.twin = false ∧ s.dev.domOn (4 + r.idx) = true ∧ s.dev.on F.CAL_STATUS.pending = true ∧ (∀ x ∈ r.payload, x < 256) ∧ r.payload.length = 24) ∧
    (∃ (s : State) (r : CalRec), s.dev.cal.waits = [r] ∧ r.kind = 6 ∧ r.idx < 64 ∧ s.dev.twin = false ∧ s.dev.loopState r.idx < 2 ∧ s.dev.cal.sent = [] ∧ (∀ x ∈ r.payload, x < 256) ∧ r.payload.length = 256) ∧
    (∃ (s : State), ((∀ r ∈ s.dev.cal.waits, s.dev.calMoment r = false) ∨ (s.dev.twin = true ∧ s.dev.get F.TWN_STATUS.state = 3 ∧ s.dev.on F.TWN_TOKEN_STATE.latch = false))) :=
  ⟨⟨(let d : Dev := base; let d : Dev := ({ (d.put F.FRD_STATUS.state (d.free % 2)) with host := { d.host with qspiBusy := d.free % 2 = 0 } }); let d : Dev := (d); { dev := d } : State), (let d : Dev := base; ([1, 2]) : List Byte), (let d : Dev := base; ([]) : List Byte), by decide⟩,
    ⟨(let d : Dev := base; let d : Dev := (walkUp d); let d : Dev := ({ d with cal := { d.cal with walks := [[none, some 1].getD (d.free % 2) none] ++ (if d.free % 3 = 0 then [none] else []), waits := if d.free % 2 = 0 then [⟨2, 1, 9, []⟩] else [] } }); { dev := { (d.put F.FRD_STATUS.state 5) with host := { d.host with qspiBusy := false } } } : State), (let d : Dev := base; if d.free % 4 = 0 then [1, 2] else [0x43, 0x41, 0x4C, 0x50, 1, 0] ++ List.replicate 200 (BitVec.ofNat 8 d.free) : List Byte), ([2] : List Byte), (let d : Dev := base; [none, some 1].getD (d.free % 2) none : Option Nat), (let d : Dev := base; if d.free % 3 = 0 then [none] else [] : List (Option Nat)), by decide⟩,
    ⟨(let d : Dev := base; let d : Dev := (let k := 1 + d.free % 8; let r : CalRec := ⟨k, [0, 1, 2, 3, 1, 2, 5, 9, 0].getD k 0, 64, (List.range 300).map fun i => (i * d.free) % 256⟩; { waitUp d ([⟨2, 7, 9, []⟩, r, ⟨1, 1, 9, []⟩]) with ch := [] }); let d : Dev := (let d : Dev := ((d.put (F.BLD_AXa_STATUS.state 1) 2).put (F.STP_AXm_STATUS.state 2) 1).putBit F.PWR_DOMAINS.domains 11 false; d.put (F.LOOP_Sk_STATUS.state 5) 0); { dev := d } : State), (let d : Dev := base; let k := 1 + d.free % 8; (⟨k, [0, 1, 2, 3, 1, 2, 5, 9, 0].getD k 0, 64, (List.range 300).map fun i => (i * d.free) % 256⟩) : CalRec), by decide⟩,
    ⟨(let d : Dev := base; let d : Dev := (if d.free % 2 = 0 then d.put F.CAL_STATUS.busy 1 else (((d.put F.CAL_STATUS.busy 0).put F.TWN_STATUS.state 3).put F.TWN_TOKEN_STATE.latch 0)); let d : Dev := ({ d with frd := { d.frd with cfg := { d.frd.cfg with role := { d.frd.cfg.role with grade := 1 } } } }); { dev := { (d.put F.SYS_STRAPS.pers 0).putBit F.PWR_DOMAINS.domains 0 true with host := { d.host with d3 := false, linkUp := true } } } : State), by decide⟩,
    ⟨(let d : Dev := base; let d : Dev := ((onAll d).put F.CAL_STATUS.busy 0); { dev := onAll d } : State), by decide⟩,
    ⟨(let d : Dev := base; let d : Dev := ({ d with cal := { d.cal with walks := [] } }); { dev := d } : State), ([] : List Byte), ([] : List Byte), by decide⟩,
    ⟨(let w := (none); let rest := ([]); let d : Dev := base; let d : Dev := (walkUp d); let d : Dev := ({ d with cal := { d.cal with walks := w :: rest } }); { dev := { (d.put F.FRD_STATUS.state 5) with host := { d.host with qspiBusy := false } } } : State), (let a : List Byte := []; (1#8 :: a) : List Byte), (let b : List Byte := [2]; (2#8 :: b) : List Byte), ((none) : Option Nat), (([]) : List (Option Nat)), by decide⟩,
    ⟨(let d : Dev := base; let d : Dev := (walkUp d); let d : Dev := (d.put F.FRD_IMAGE_SERIAL.serial 5); { dev := { (d.put F.FRD_STATUS.state 5) with host := { d.host with qspiBusy := false } } } : State), (let ga : Nat := 3; (ga % 2 ^ 32) : Nat), (let ga : Nat := 3; let gb : Nat := 4; let ga := (ga % 2 ^ 32); ((ga + gb % 3 - 1) % 2 ^ 32) : Nat), ((0) : Nat), (let ga : Nat := 3; let gb : Nat := 4; let ga := (ga % 2 ^ 32); let gb := ((ga + gb % 3 - 1) % 2 ^ 32); (if gb % 2 = 0 then 0 else 77) : Nat), by decide⟩,
    ⟨(let s : State := { dev := base }; let late := ((s.dev.free % 2 = 0)); let d : Dev := base; let d : Dev := (walkUp d); let d : Dev := (if late then d.putBit F.PWR_DOMAINS.domains 5 false else d); { dev := { (d.put F.FRD_STATUS.state 5) with host := { d.host with qspiBusy := false } } } : State), ((1) : Fin 8), (let x : List Byte := List.replicate 24 3#8; ((x ++ List.replicate 24 3#8).take 24) : List Byte), (let s : State := { dev := base }; ((s.dev.free % 2 = 0)) : Bool), by decide⟩,
    ⟨(let s : State := { dev := base }; let r : CalRec := (⟨1, 1, 5, (List.range 24)⟩); let rest := (if s.dev.free % 2 = 0 then [] else [⟨1, 2, 9, []⟩]); let d : Dev := base; let d : Dev := (waitUp d (r :: rest)); let d : Dev := (d.put F.CAL_STATUS.pending 1); { dev := d } : State), ((⟨1, 1, 5, (List.range 24)⟩) : CalRec), (let s : State := { dev := base }; (if s.dev.free % 2 = 0 then [] else [⟨1, 2, 9, []⟩]) : List CalRec), by decide⟩,
    ⟨(let s : State := { dev := base }; let r : CalRec := (⟨6, s.dev.free % 64, 5, (List.range 256)⟩); let d : Dev := base; let d : Dev := (waitUp d [r]); let d : Dev := ({ (d.put (F.LOOP_Sk_STATUS.state r.idx) (d.free % 2)) with cal := { d.cal with sent := [] } }); { dev := d } : State), (let s : State := { dev := base }; (⟨6, s.dev.free % 64, 5, (List.range 256)⟩) : CalRec), by decide⟩,
    ⟨(let d : Dev := base; let d : Dev := (waitUp d (if d.free % 2 = 0 then [] else [⟨2, 1, 5, []⟩, ⟨4, 1, 5, []⟩, ⟨6, 1, 5, []⟩])); let d : Dev := ((({ d.wr R.PWR_DOMAINS 7 with ch := [] } : Dev).put (F.LOOP_Sk_STATUS.state 1) 2).put F.TWN_STATUS.state (d.free % 4)); { dev := d } : State), by decide⟩⟩

end Sys2Proof.Tests.Cal

end
end

section
/-! SUPPORT. Proofs about the scope of the machine: the reset state, and concrete states in which a statement fails. -/

open Sys2Proof Sys2Proof.Machine Sys2Proof.Claims

set_option maxRecDepth 20000

/-! ### Reads of the device after reset -/

namespace Sys2Proof.Machine

theorem Dev.rd_reset (r : Reg) : State.reset.dev.rd r = r.rst % 2 ^ 64 := by
  rw [Dev.rd, show State.reset.dev.regs = [] from rfl, Store.get, BitVec.toNat_ofNat]

theorem Dev.get_reset (f : Fld) : State.reset.dev.get f = bits (f.reg.rst % 2 ^ 64) f.hi f.lo := by
  rw [Dev.get, Dev.rd_reset]

theorem Dev.on_reset (f : Fld) : State.reset.dev.on f = decide (bits (f.reg.rst % 2 ^ 64) f.hi f.lo ≠ 0) := by
  rw [Dev.on, Dev.get_reset]

theorem Dev.tw_reset (o : Nat) : State.reset.dev.tw o = 0 := rfl

/-! ### Reads of a lane's bit count (R138) -/

theorem Dev.rd_chkErrors (d : Dev) (l : Nat) (r : Reg) : (d.chkErrors l).2.rd r = d.rd r := by
  unfold Dev.chkErrors
  split <;> rfl

theorem Dev.rd_patternLock_ne (d : Dev) (l n e : Nat) (r : Reg) (h : r.off ≠ (R.RNG_RXl_STATUS l).off) :
    (d.patternLock l n e).rd r = d.rd r := by
  unfold Dev.patternLock
  simp only []
  split_ifs
  · rfl
  · exact Dev.rd_put_ne _ _ _ _ h
  · rfl
  · exact Dev.rd_put_ne _ _ _ _ h

theorem Dev.rd_bits_rngFlag (d : Dev) (l : Fin 8) (k : Nat) :
    (d.rngFlag k).rd (R.RNG_RXl_BITS l) = d.rd (R.RNG_RXl_BITS l) :=
  Dev.rd_flag_ne _ _ _ _ _ _ (by revert l; decide) (by revert l; decide)

/-- The bits compared since the checker of a lane counted last (R138). -/
def Dev.bitsSince (d : Dev) (l : Nat) : Nat :=
  (d.sys.now8 + 1 - Store.get 0 d.rng.chkAt l) * lineRate (d.get F.RNG_LANE_STATUS.rate) * 8 / 1000

theorem Dev.rd_bits_counted (d : Dev) (l : Fin 8) (n e : Nat) :
    (((d.wr (R.RNG_RXl_BITS l) (d.rd (R.RNG_RXl_BITS l) + n)).count (F.RNG_RXl_ERRS.errors l) e).patternLock l n e).rd
      (R.RNG_RXl_BITS l) = (d.rd (R.RNG_RXl_BITS l) + n) % 2 ^ 64 := by
  rw [Dev.rd_patternLock_ne _ _ _ _ _ (by simp [R.RNG_RXl_BITS, R.RNG_RXl_STATUS]), Dev.count,
    Dev.rd_put_ne _ _ _ _ (by simp [R.RNG_RXl_BITS, F.RNG_RXl_ERRS.errors, R.RNG_RXl_ERRS]), Dev.rd_wr_same]
  exact Nat.mod_mod _ _

/-- Bringing a checker that has counted before up to date adds the bits compared since then (R138). -/
theorem Dev.rd_bits_chkUpdate (d : Dev) (l : Fin 8) (ha : Store.get 0 d.rng.chkAt l ≠ 0) (hn : d.bitsSince l ≠ 0) :
    (d.chkUpdate l).rd (R.RNG_RXl_BITS l) = (d.rd (R.RNG_RXl_BITS l) + d.bitsSince l) % 2 ^ 64 := by
  have hErrs := Dev.rd_chkErrors d l (R.RNG_RXl_BITS l)
  unfold Dev.chkUpdate
  extract_lets at_ n x
  change n ≠ 0 at hn
  change x.rd _ = (_ + n) % 2 ^ 64
  simp only [x]
  rw [if_neg (by simp [at_, ha, hn])]
  generalize d.chkErrors l = p at hErrs
  obtain ⟨e, y⟩ := p
  rw [← hErrs, ← Dev.rd_bits_counted y l n (e % (n + 1))]
  dsimp only
  split_ifs
  · rfl
  · exact Dev.rd_bits_rngFlag _ _ _

theorem findReg_bits : findReg (R.RNG_RXl_BITS 0).off = some (R.RNG_RXl_BITS 0, [⟨63, 0, .ro⟩]) := by decide

theorem Dev.shown_bits (d : Dev) : d.shown (R.RNG_RXl_BITS 0) [⟨63, 0, .ro⟩] = d.rd (R.RNG_RXl_BITS 0) := by
  have hLive : d.live (R.RNG_RXl_BITS 0) = d.rd (R.RNG_RXl_BITS 0) := rfl
  rw [Dev.shown, hLive]
  simpa [shownBits, putBits, bits] using Dev.rd_lt d (R.RNG_RXl_BITS 0)

/-- The low half that a read of the count of lane 0 returns is that of the count brought up to date (R11, R138). -/
theorem Dev.out_read32_bits (d : Dev) (hDom : d.domOn 2 = true) :
    (d.read32 (R.RNG_RXl_BITS 0).off).out =
      .read [(d.chkUpdate 0).rd (R.RNG_RXl_BITS 0) % 2 ^ 32] false :: (d.chkUpdate 0).out := by
  have hDomain : d.domOn (domainOf (R.RNG_RXl_BITS 0).off) = true := hDom
  have hPrep : d.readPrep (R.RNG_RXl_BITS 0).off = d.chkUpdate 0 := rfl
  have hReg : regAt (R.RNG_RXl_BITS 0).off = some (R.RNG_RXl_BITS 0, [⟨63, 0, .ro⟩]) := by rw [regAt, findReg_bits]
  simp only [Dev.read32, hDomain, hPrep, hReg, Dev.shown_bits]
  rfl

end Sys2Proof.Machine

namespace Sys2Proof.Proofs

/-! ### States in which a statement fails -/

/-- Lane 0 is in TEST at 1,250 Mbit/s with its checker in PRBS7 mode, last brought up to date at tick 0; the time is tick 1,000 and the
bit count still reads 0. -/
def checkingState : State :=
  let d := (((({} : Dev).put F.SYS_STRAPS.pers 0).wr R.PWR_DOMAINS 0xFFF).put F.RNG_LANE_STATUS.rx_state 5).put F.RNG_LANE_STATUS.rate 1
  let d := d.put (F.RNG_RXl_CHK_CTRL.mode 0) 2
  { dev := { d with
      host := { d.host with linkUp := true }, sys := { d.sys with now8 := 1000 }, rng := { d.rng with chkAt := [(0, 1)] } } }

theorem checkingState_count : (checkingState.dev.chkUpdate 0).rd (R.RNG_RXl_BITS 0) = 10000 :=
  (Dev.rd_bits_chkUpdate checkingState.dev 0 (by decide) (by decide)).trans (by decide)

/-- Stepper 0 is MOVING with coil a on, its reference 100, after seven early trips in a row. -/
def shortState : State :=
  { dev := (({} : Dev).put (F.STP_AXm_STATUS.state 0) 2).putStp 0 { a := { ref := 100, phase := 0, early := 7 } } }

/-- The short takes the axis to FAULT, which drives the active level of source 27 (R364). -/
theorem shortState_trip : (shortState.dev.chopTrip 0 false).rd R.FLT_ACTIVE = 2 ^ 27 := by decide

/-- The host state is DRAIN_RESET, and no sheet is past its pick. -/
def drainingState : State := { dev := ({} : Dev).put F.SYS_HOST_STATE.state 3 }

/-- The tick ends the DRAIN_RESET (R73). -/
theorem drainingState_tick : drainingState.tick.dev.get F.SYS_HOST_STATE.state = 4 := by decide

/-! ### The obligations -/

/-- Refutes O10: a 32-bit read of the low half of RNG_RXl_BITS brings the checker of its lane up to date first (R138), so that it
returns the new count (here 10,000) and not the register's value before the read (here 0). -/
theorem not_hostHalves : ¬ Obligations.HostHalves := by
  unfold Obligations.HostHalves
  rintro ⟨hLow, -⟩
  obtain ⟨t, hExec, hRead, -⟩ := hLow checkingState (R.RNG_RXl_BITS 0).off (by decide) (by decide) (by decide) (by decide)
  obtain ⟨hOut, -⟩ := hRead _ findReg_bits
  have hDev : t.dev = checkingState.dev.read32 (R.RNG_RXl_BITS 0).off := by
    injection hExec with hExec
    rw [← hExec]
    rfl
  rw [hDev, Dev.out_read32_bits _ (by decide), Dev.shown_bits, checkingState_count] at hOut
  exact absurd (List.head_eq_of_cons_eq hOut) (by decide)

/-- Refutes O41: the frame of a comparator trip leaves out FLT_ACTIVE, whose bit 27 the eighth early trip sets as the axis enters
FAULT (R299, R364). -/
theorem not_stepperChopper : ¬ Obligations.StepperChopper := by
  unfold Obligations.StepperChopper
  rintro ⟨-, -, hTrip, -⟩
  obtain ⟨t, hExec, hPost⟩ := hTrip shortState 0 false (by decide)
  obtain rfl : { shortState with dev := shortState.dev.chopTrip 0 false } = t := by injection hExec
  obtain ⟨-, -, hFrame, -⟩ := (if_neg (by decide)).mp hPost
  have hActive := Frame.rd hFrame R.FLT_ACTIVE (by decide)
  rw [shortState_trip] at hActive
  exact absurd hActive (by decide)

/-- Refutes O1: a tick with nothing waiting also ends a DRAIN_RESET that no sheet holds (R73), which changes SYS_HOST_STATE. -/
theorem not_stepRunsFrontCommand : ¬ Obligations.StepRunsFrontCommand := by
  unfold Obligations.StepRunsFrontCommand
  rintro ⟨-, hIdle⟩
  obtain ⟨t, hStep, -, -, hFrame, -⟩ := hIdle drainingState rfl (by decide)
  obtain rfl : drainingState.tick = t := by injection hStep
  have hState := Frame.get hFrame F.SYS_HOST_STATE.state (by decide)
  rw [drainingState_tick] at hState
  exact absurd hState (by decide)

/-- Settles O4: every store of the reset state is empty, so each register reads its table's reset value and each table word 0. -/
theorem resetState : Obligations.ResetState := by
  unfold Obligations.ResetState
  refine ⟨rfl, rfl, ?domains, ?sheets, ?entries, fun _ _ => rfl, ?time, rfl, ?registers⟩
  case domains =>
    intro k hk
    rw [Dev.domOn, Dev.rd_reset]
    revert k
    decide
  case sheets =>
    intro k _
    rw [Dev.shtState, Dev.get_reset]
    rfl
  case entries =>
    intro i _
    rw [Dev.entHi, Dev.tw_reset]
    rfl
  case time => rw [Dev.now, Dev.rd_reset]; rfl
  case registers =>
    simp only [Dev.on_reset, Dev.get_reset, Dev.rd_reset]
    decide

end Sys2Proof.Proofs

end

section
/-! SUPPORT. Proofs about the architecture: every command completes and keeps the queue, the commands that act on the device alone
keep user memory, and the states in which a statement about host accesses fails. -/

open Sys2Proof Sys2Proof.Machine Sys2Proof.Claims

namespace Sys2Proof.Machine

/-! ### What every command keeps -/

theorem keeps_epochData (s : State) (m : TwinFrame) : ∃ t, execEpochData m s = .next t ∧ State.Keeps s t := by
  refine ⟨_, rfl, ?_⟩
  split
  · exact Keeps.epochDataTake (Keeps.dev Keeps.refl _) _
  · exact Keeps.dev Keeps.refl _

theorem keeps_urgDoorbellRefused (s : State) (v : Word32) (full : Bool) :
    ∃ t, execUrgDoorbellRefused v full s = .next t ∧ State.Keeps s t :=
  ⟨_, rfl, Keeps.reach Keeps.refl _ _ fun _ => Keeps.ite Keeps.refl
    (Keeps.ite (Keeps.ite (Keeps.dev Keeps.refl _) (Keeps.doorbell Keeps.refl _)) (Keeps.doorbell Keeps.refl _))⟩

/-- The command of each arm is a function of the device. -/
theorem exec_dev_of_not_mayTouchMemory (c : Instr) (s : State) (h : mayTouchMemory c = false) :
    ∃ d, exec c s = .next { s with dev := d } := by
  cases c with
  | registerWrite | lowHalfRead | highHalfRead | lowHalfWrite | highHalfWrite | shadowWrite | groupCommit
  | barAccessMisaligned | offDomainAccess | bar2Write | bar2Read | bar4Read | bar4Write | poisonedWrite
  | msixUnmask | porstAssert | aonPowerOn | phaseComplete | hostReset | fullReset | imageDistributed | schedulerSlot
  | encoderEdgeApply | sheetCancel | descriptorWrite | queueDisable | dmaDisable | dmaReadCompletion
  | ringFrameMoved | guardStallRelease | readPortWord | scrubWord | screenScan | powerStepDone | powerStepTimeout
  | standby | wake | channelPowerOff | channelPowerOn | powerFailWarning | holdupExpire | pfailClear | inputCollapse
  | faultRecord | urgDmaHalt | urgPermitOff | urgEngineStop | urgDoorbellRefused | agreedInputApply | legacyFrame
  | epochData | channelDisable | clkRefCfgWrite | clockMonitorTrip | deferredDispatch | estopOpen
  | interlockOpen | loopUnlock | pxsFreqWrite | refclkLost | runoutExpire | scanStart | sheetMark
  | timeTriggerFire => cases h
  | _ => exact ⟨_, rfl⟩

/-- Each arm answers the state that the operation behind it leaves, for which that operation's law holds. -/
theorem exec_keeps_of_mayTouchMemory (c : Instr) (s : State) (h : mayTouchMemory c = true) :
    ∃ t, exec c s = .next t ∧ State.Keeps s t := by
  have k : State.Keeps s s := Keeps.refl
  cases c with
  | registerWrite => exact ⟨_, rfl, Keeps.writeSame k _ _ _ _⟩
  | lowHalfRead => exact ⟨_, rfl, Keeps.hostRead k _ _⟩
  | highHalfRead => exact ⟨_, rfl, Keeps.hostRead k _ _⟩
  | lowHalfWrite => exact ⟨_, rfl, Keeps.hostWrite k _ _ _⟩
  | highHalfWrite => exact ⟨_, rfl, Keeps.dev (Keeps.writeSame k _ _ _ _) _⟩
  | shadowWrite => exact ⟨_, rfl, Keeps.dev (Keeps.hostWrite k _ _ _) _⟩
  | groupCommit => exact ⟨_, rfl, Keeps.dev (Keeps.hostWrite k _ _ _) _⟩
  | descriptorWrite => exact ⟨_, rfl, Keeps.hostWrite k _ _ _⟩
  | msixUnmask => exact ⟨_, rfl, Keeps.hostWrite k _ _ _⟩
  | barAccessMisaligned => exact ⟨_, rfl, Keeps.misaligned k _ _ _ _ _⟩
  | offDomainAccess => exact ⟨_, rfl, Keeps.request k _ _ _ _ _ fun _ hx => Keeps.ite hx (Keeps.dev hx _)⟩
  | bar2Write => exact ⟨_, rfl, Keeps.request k _ _ _ _ _ fun _ hx => Keeps.dev hx _⟩
  | bar2Read => exact ⟨_, rfl, Keeps.request k _ _ _ _ _ fun _ hx => Keeps.dev hx _⟩
  | bar4Read => exact ⟨_, rfl, Keeps.request k _ _ _ _ _ fun _ hx => Keeps.readBar4 hx _ _⟩
  | bar4Write => exact ⟨_, rfl, Keeps.request k _ _ _ _ _ fun _ hx => Keeps.ite hx (Keeps.putBar4 hx _ _ _ _)⟩
  | poisonedWrite => exact ⟨_, rfl, Keeps.poisonedWrite k _ _ _⟩
  | porstAssert => exact ⟨_, rfl, Keeps.porst k⟩
  | aonPowerOn => exact ⟨_, rfl, Keeps.fresh k _⟩
  | phaseComplete => exact ⟨_, rfl, Keeps.phaseComplete k _ _⟩
  | hostReset => exact ⟨_, rfl, Keeps.idleCheck (Keeps.hostReset k)⟩
  | fullReset => exact ⟨_, rfl, Keeps.fullReset k⟩
  | imageDistributed => exact ⟨_, rfl, Keeps.distributed k _⟩
  | schedulerSlot => exact ⟨_, rfl, Keeps.idleCheck (Keeps.schedSlot k _)⟩
  | encoderEdgeApply => exact ⟨_, rfl, Keeps.idleCheck (Keeps.encApply k _)⟩
  | sheetCancel => exact ⟨_, rfl, Keeps.agree k _ _ _ fun _ => Keeps.cancelCmd Keeps.refl _⟩
  | queueDisable => exact ⟨_, rfl, Keeps.reach k _ _ fun _ => Keeps.qDisable Keeps.refl _⟩
  | dmaDisable => exact ⟨_, rfl, Keeps.reach k _ _ fun _ => Keeps.dmaDisable Keeps.refl⟩
  | dmaReadCompletion => exact ⟨_, rfl, Keeps.dmaData k _ _⟩
  | ringFrameMoved => exact ⟨_, rfl, Keeps.frameMoved k _⟩
  | guardStallRelease => exact ⟨_, rfl, Keeps.guardRelease k _⟩
  | readPortWord => exact ⟨_, rfl, Keeps.readMem k _ _ _⟩
  | scrubWord => exact ⟨_, rfl, Keeps.scrub k⟩
  | screenScan => exact ⟨_, rfl, Keeps.screenScan k _ _⟩
  | powerStepDone => exact ⟨_, rfl, Keeps.idleCheck (Keeps.end5 (Keeps.powerStepDone k))⟩
  | powerStepTimeout => exact ⟨_, rfl, Keeps.idleCheck (Keeps.end5 (Keeps.powerStepTimeout k))⟩
  | standby => exact ⟨_, rfl, Keeps.reach k _ _ fun _ => Keeps.standby Keeps.refl⟩
  | wake => exact ⟨_, rfl, Keeps.reach k _ _ fun _ => Keeps.wakeCmd Keeps.refl⟩
  | channelPowerOff => exact ⟨_, rfl, Keeps.idleCheck (Keeps.reach k _ _ fun _ => Keeps.chanSwitch Keeps.refl _ _ _)⟩
  | channelPowerOn => exact ⟨_, rfl, Keeps.reach k _ _ fun _ => Keeps.chanSwitch Keeps.refl _ _ _⟩
  | powerFailWarning => exact ⟨_, rfl, Keeps.pfail k⟩
  | holdupExpire => exact ⟨_, rfl, Keeps.holdupExpire k⟩
  | pfailClear => exact ⟨_, rfl, Keeps.pfailClear k⟩
  | inputCollapse => exact ⟨_, rfl, Keeps.collapse k⟩
  | faultRecord => exact ⟨_, rfl, Keeps.idleCheck (Keeps.faultRecord k)⟩
  | urgDmaHalt => exact ⟨_, rfl, Keeps.reach k _ _ fun _ => Keeps.doorbell Keeps.refl _⟩
  | urgPermitOff => exact ⟨_, rfl, Keeps.reach k _ _ fun _ => Keeps.doorbell Keeps.refl _⟩
  | urgEngineStop => exact ⟨_, rfl, Keeps.reach k _ _ fun _ => Keeps.doorbell Keeps.refl _⟩
  | urgDoorbellRefused v full => exact keeps_urgDoorbellRefused s v full
  | agreedInputApply => exact ⟨_, rfl, Keeps.agreedApply k⟩
  | legacyFrame => exact ⟨_, rfl, Keeps.legacyFrame k _⟩
  | epochData m => exact keeps_epochData s m
  | channelDisable | clkRefCfgWrite | clockMonitorTrip | deferredDispatch | estopOpen | interlockOpen | loopUnlock | pxsFreqWrite
  | refclkLost | runoutExpire | scanStart | sheetMark | timeTriggerFire => exact ⟨_, rfl, Keeps.idleCheck (Keeps.dev k _)⟩
  | _ => cases h

theorem exec_keeps (c : Instr) (s : State) : ∃ t, exec c s = .next t ∧ State.Keeps s t := by
  cases h : mayTouchMemory c with
  | true => exact exec_keeps_of_mayTouchMemory c s h
  | false =>
    obtain ⟨d, hd⟩ := exec_dev_of_not_mayTouchMemory c s h
    exact ⟨_, hd, Keeps.dev Keeps.refl _⟩

end Sys2Proof.Machine

namespace Sys2Proof.Proofs

/-! ### States in which a statement fails -/

/-- MSI-X is enabled with its Function Mask set, the message of vector 0 waits, and the link is up with CORE on. -/
def functionMaskedState : State :=
  let d := (({} : Dev).wr R.PWR_DOMAINS 1).putBit F.MSIX_PBA.pending 0 true
  { dev := { d with regs := Store.set 0#64 d.regs 0x2001000 3, host := { d.host with linkUp := true } } }

/-- The message still waits after its entry is unmasked: the whole function is masked (R410). -/
theorem functionMaskedState_unmask :
    (functionMaskedState.hostWrite (R.MSIX_CTRL 0).off 0 false).dev.getBit F.MSIX_PBA.pending 0 = true := by decide

/-- A device of Twin grade in no pair, in host state NORMAL, with the link up and CORE and MEM on. -/
def twinNormalState : State :=
  let d := (({} : Dev).wr R.PWR_DOMAINS 3).put F.SYS_HOST_STATE.state 0
  { dev := { d with
      host := { d.host with linkUp := true }
      frd := { d.frd with cfg := { d.frd.cfg with role := { d.frd.cfg.role with grade := 1 } } } } }

/-- Outside safe idle a device of Twin grade discards a write of BAR4 and reports it (R24). -/
theorem twinNormalState_bar4Write (v : Word64) :
    exec (.bar4Write 0 v true) twinNormalState =
      .next { twinNormalState with dev := twinNormalState.dev.hostErr 0xA2 (hostPlace 4 0) 24 } := rfl

/-! ### The obligations -/

/-- Settles O2: each command outside the list changes the device alone, and each one in it runs an operation that keeps the queue. -/
theorem commandsKeepQueueAndMemory : Obligations.CommandsKeepQueueAndMemory := by
  unfold Obligations.CommandsKeepQueueAndMemory
  refine ⟨fun c s => ?completes, fun c s t hc hExec => ?memory⟩
  case completes =>
    obtain ⟨t, hExec, -, hQueue⟩ := exec_keeps c s
    exact ⟨t, hExec, hQueue⟩
  case memory =>
    obtain ⟨d, hd⟩ := exec_dev_of_not_mayTouchMemory c s hc
    rw [hd] at hExec
    injection hExec with ht
    rw [← ht]

/-- Refutes O11: with the Function Mask of the MSI-X capability set, the message of an entry that is unmasked does not leave and its
pending bit stays (R410). -/
theorem not_hostTablesAndRequests : ¬ Obligations.HostTablesAndRequests := by
  unfold Obligations.HostTablesAndRequests
  rintro ⟨-, -, -, -, -, -, hUnmask, -⟩
  obtain ⟨t, hExec, -, hSent, -⟩ := hUnmask functionMaskedState 0 (by decide) (by decide)
  obtain ⟨hPending, -⟩ := hSent (by decide) (by decide)
  obtain rfl : functionMaskedState.hostWrite (R.MSIX_CTRL 0).off 0 false = t := by injection hExec
  exact absurd (functionMaskedState_unmask.symm.trans hPending) (by decide)

/-- Refutes O12: a device of Twin grade that is in no pair takes no write of BAR4 in host state NORMAL, so that the word keeps its
value 0 (R24). -/
theorem not_hostMemoryWindow : ¬ Obligations.HostMemoryWindow := by
  unfold Obligations.HostMemoryWindow
  rintro ⟨hWrite, -⟩
  obtain ⟨t, hExec, hWord, -⟩ :=
    hWrite twinNormalState 0 1 (by decide) (by decide) (by decide) (by decide) (by decide) (by decide)
  rw [twinNormalState_bar4Write] at hExec
  injection hExec with hNext
  rw [← hNext] at hWord
  exact absurd hWord (by decide)

end Sys2Proof.Proofs
end

section
/-! SUPPORT. Proofs about bring-up and the Frond loader: the states in which a statement about a record strobe fails. -/

open Sys2Proof Sys2Proof.Machine Sys2Proof.Claims

namespace Sys2Proof.Proofs

/-! ### States in which a statement fails -/

/-- A record of source 35 (image, calibration, firmware store) strobed at engine time 0. -/
def storeStrobe : Strobe := ⟨35, 0, 0, 0, 0⟩

/-- Phase 6 runs, and source 35 has strobed a record in the present 64 ns slot. -/
def trimReadState : State := { dev := { sys := { ph := [(6, 1)] }, flt := { strobes := [storeStrobe] } } }

/-- The record of the failed trim read is merged into the one that waits (R364). -/
theorem trimReadState_strobes : (trimReadState.dev.phaseTimeout 6 1 0).flt.strobes = [storeStrobe] := by decide

/-- The loader distributes an image, and source 35 has strobed a record in the present 64 ns slot. -/
def distributingState : State :=
  { dev := { ({} : Dev).put F.FRD_STATUS.state 4 with flt := { strobes := [storeStrobe] } } }

/-- The record of the rejected image is merged into the one that waits (R364). -/
theorem distributingState_strobes : (distributingState.dev.frdFail 0x40 0).flt.strobes = [storeStrobe] := by decide

/-! ### The obligations -/

/-- Refutes O5: where source 35 has strobed a record in the present slot already, the record of a failed phase 6 is merged into it (R364)
and joins the waiting strobes no more. -/
theorem not_sysPowerOnAndPhases : ¬ Obligations.SysPowerOnAndPhases := by
  unfold Obligations.SysPowerOnAndPhases
  rintro ⟨-, -, -, -, -, -, -, -, -, -, -, -, -, -, hTrim, -⟩
  obtain ⟨t, hExec, -, hStrobes, -⟩ := hTrim trimReadState 0 (by decide)
  obtain rfl : { trimReadState with dev := trimReadState.dev.phaseTimeout 6 1 0 } = t := by injection hExec
  rw [trimReadState_strobes] at hStrobes
  exact absurd (congrArg List.length hStrobes) (by decide)

/-- Refutes O8: where source 35 has strobed a record in the present slot already, the record of a rejected image is merged into it (R364)
and joins the waiting strobes no more. -/
theorem not_frdLoad : ¬ Obligations.FrdLoad := by
  unfold Obligations.FrdLoad
  rintro ⟨-, -, -, -, -, -, -, -, -, -, -, hTable, -⟩
  obtain ⟨t, hExec, ⟨-, -, -, -, -, hStrobes, -⟩, -⟩ := hTable distributingState 0 (by decide)
  obtain rfl : { distributingState with dev := distributingState.dev.frdFail 0x40 0 } = t := by injection hExec
  rw [distributingState_strobes] at hStrobes
  exact absurd (congrArg List.length hStrobes) (by decide)

end Sys2Proof.Proofs

end

section
/-! SUPPORT. What the commands of a brushless axis do to it (R270, R271, R274): entering a state, stop, disable, clear_fault, starts,
refusals, and the frame of each. -/
open Sys2Proof Sys2Proof.Machine Sys2Proof.Claims
namespace Sys2Proof.Machine

/-! ### The frame of the firing gate (R252) -/

namespace Frame

variable {ps : List Part} {d e : Dev}

theorem putBld (h : Dev.Frame ps d e) (a : Nat) (x : BldAx) (hx : Part.bld a ∈ ps) : Dev.Frame ps d (e.putBld a x) :=
  setBld h a x hx

theorem modBld (h : Dev.Frame ps d e) (a : Nat) (u : BldAx → BldAx) (hx : Part.bld a ∈ ps) : Dev.Frame ps d (e.modBld a u) :=
  setBld h a _ hx

theorem modCh (h : Dev.Frame ps d e) (n : Nat) (u : ChSt → ChSt) (hx : Part.ch n ∈ ps) : Dev.Frame ps d (e.modCh n u) :=
  setCh h n _ hx

theorem gateLevels (h : Dev.Frame ps d e) (n : Nat) (hr : Part.reg (R.CHn_FGT_STATUS n).off ∈ ps) : Dev.Frame ps d (e.gateLevels n) := by
  unfold Dev.gateLevels
  iterate 10 refine putB ?_ _ _ hr
  exact h

theorem gate (h : Dev.Frame ps d e) (n : Nat) (hn : ∀ p ∈ gateParts n, p ∈ ps) : Dev.Frame ps d (e.gate n) := by
  have hStatus : Part.reg (R.CHn_FGT_STATUS n).off ∈ ps := hn _ (by simp [gateParts])
  have hCounts : Part.reg (R.CHn_FGT_COUNTS n).off ∈ ps := hn _ (by simp [gateParts])
  have hIrq : Part.reg (R.CHn_FGT_IRQ_STATUS n).off ∈ ps := hn _ (by simp [gateParts])
  have hCh : Part.ch n ∈ ps := hn _ (by simp [gateParts])
  have hPost : ∀ p ∈ irqParts, p ∈ ps := fun p hp => hn p (by simp [gateParts, hp])
  have hOut : Part.out ∈ ps := hPost _ (by simp [irqParts])
  unfold Dev.gate
  extract_lets x was cl now y z u
  have hz : Dev.Frame ps d z := putB (putB (gateLevels h n hStatus) _ _ hStatus) _ _ hStatus
  have hu : Dev.Frame ps d u := ite (emit hz _ hOut) hz
  exact ite hz (ite (modCh (flag hu _ _ _ _ hIrq hPost) _ _ hCh) (flag (count hu _ _ hCounts) _ _ _ _ hIrq hPost))

theorem gateAll (h : Dev.Frame ps d e) (hg : ∀ p ∈ gateAllParts, p ∈ ps) : Dev.Frame ps d e.gateAll :=
  each _ _ (fun _ n hn => gate refl n fun p hp => hg p (List.mem_flatMap.2 ⟨n, hn, hp⟩)) h

end Frame

/-- A register of the brushless block is none that judging the permits changes. -/
theorem bldReg_not_mem_gateAllParts {o : Nat} (hlo : 0x80000 ≤ o) (hhi : o < 0x100000) : Part.reg o ∉ gateAllParts := by
  simp [gateAllParts, gateParts, irqParts, R.CHn_FGT_STATUS, R.CHn_FGT_COUNTS, R.CHn_FGT_IRQ_STATUS, R.MSIX_PBA]
  omega

theorem Dev.bldS_gateAll (d : Dev) (a : Nat) : d.gateAll.bldS a = d.bldS a :=
  Frame.gateAll (Frame.refl (d := d)) (fun _ hp => hp) (.bld a) (by simp [gateAllParts, gateParts, irqParts])

theorem Dev.get_gateAll_ne (d : Dev) (g : Fld) (hlo : 0x80000 ≤ g.reg.off) (hhi : g.reg.off < 0x100000) : d.gateAll.get g = d.get g :=
  Frame.get (Frame.gateAll Frame.refl fun _ hp => hp) g (bldReg_not_mem_gateAllParts hlo hhi)

/-! ### The hidden state of an axis (R283) -/

/-- An axis but for what entering a state sets: the phase loop, the counts of the state, the current loop. -/
def BldAx.course (x : BldAx) : BldAx :=
  { x with cPh := 0, iPh := 0, stN := 0, hoN := 0, losN := 0, seenE := false, atN := 0
           cmp := [], cmpNext := [], cmpLast := [], intD := 0, intQ := 0, vA := 0, vB := 0 }

@[simp] theorem Dev.bldS_putBld (d : Dev) (a : Nat) (x : BldAx) : (d.putBld a x).bldS a = x := Store.get_set_same _ _ _ _
@[simp] theorem Dev.bldS_modBld (d : Dev) (a : Nat) (u : BldAx → BldAx) : (d.modBld a u).bldS a = u (d.bldS a) := Store.get_set_same _ _ _ _
@[simp] theorem Dev.bldS_put (d : Dev) (f : Fld) (v a : Nat) : (d.put f v).bldS a = d.bldS a := rfl
@[simp] theorem Dev.bldS_count (d : Dev) (f : Fld) (n a : Nat) : (d.count f n).bldS a = d.bldS a := rfl
@[simp] theorem Dev.bldS_bldFlag (d : Dev) (b k a : Nat) : (d.bldFlag b k).bldS a = d.bldS a := by simp [Dev.bldS, Dev.bldFlag]
@[simp] theorem Dev.bldS_setActive (d : Dev) (i : Nat) (b : Bool) (a : Nat) : (d.setActive i b).bldS a = d.bldS a := by simp [Dev.bldS]

@[simp] theorem Dev.get_putBld (d : Dev) (a : Nat) (x : BldAx) (g : Fld) : (d.putBld a x).get g = d.get g := rfl
@[simp] theorem Dev.get_modBld (d : Dev) (a : Nat) (u : BldAx → BldAx) (g : Fld) : (d.modBld a u).get g = d.get g := rfl
@[simp] theorem Dev.sys_putBld (d : Dev) (a : Nat) (x : BldAx) : (d.putBld a x).sys = d.sys := rfl
@[simp] theorem Dev.sys_modBld (d : Dev) (a : Nat) (u : BldAx → BldAx) : (d.modBld a u).sys = d.sys := rfl
@[simp] theorem Dev.bldState_putBld (d : Dev) (a : Nat) (x : BldAx) (b : Nat) : (d.putBld a x).bldState b = d.bldState b := rfl
@[simp] theorem Dev.bldState_modBld (d : Dev) (a : Nat) (u : BldAx → BldAx) (b : Nat) : (d.modBld a u).bldState b = d.bldState b := rfl

/-! ### Fields of BLD_AXa_STATUS -/

/-- Fields of the status of two axes share no bit where they share none in one status. -/
theorem Dev.get_put_status (d : Dev) {f g : Fld} {a b : Nat} (v : Nat) (hf : f.reg = R.BLD_AXa_STATUS a) (hg : g.reg = R.BLD_AXa_STATUS b)
    (hfo : f.ok = true) (hgo : g.ok = true) (hfg : (decide (g.hi < f.lo) || decide (f.hi < g.lo)) = true) :
    (d.put f v).get g = d.get g := by
  by_cases hab : b = a
  · exact Dev.get_put_other _ _ _ _ (by rw [hf, hg, hab]) hfo hgo hfg
  · refine Dev.get_put_ne _ _ _ _ ?_
    rw [hf, hg]
    simp only [R.BLD_AXa_STATUS]
    omega

theorem Dev.get_bldFlag_status (d : Dev) {g : Fld} {b : Nat} (a k : Nat) (hg : g.reg = R.BLD_AXa_STATUS b) :
    (d.bldFlag a k).get g = d.get g := by
  refine Dev.get_flag_ne _ _ _ _ _ _ ?_ ?_ <;> rw [hg] <;> simp only [R.BLD_AXa_STATUS, R.BLD_AXa_IRQ_STATUS, R.MSIX_PBA] <;> omega

theorem Dev.get_gateAll_status (d : Dev) {g : Fld} {b : Nat} (hb : b < 16) (hg : g.reg = R.BLD_AXa_STATUS b) : d.gateAll.get g = d.get g := by
  refine Dev.get_gateAll_ne _ _ ?_ ?_ <;> rw [hg] <;> simp only [R.BLD_AXa_STATUS] <;> omega

/-! ### Losing speed (R270) -/

theorem Dev.course_bldSpeedLost (d : Dev) (a : Nat) : ((d.bldSpeedLost a).bldS a).course = (d.bldS a).course := by
  unfold Dev.bldSpeedLost
  dsimp only
  split_ifs <;> simp [Dev.bldS_gateAll, BldAx.course, BldAx.noPhase, BldAx.endPhase]

theorem Dev.get_bldSpeedLost_status (d : Dev) {g : Fld} {a b : Nat} (hb : b < 16) (hg : g.reg = R.BLD_AXa_STATUS b) (hgo : g.ok = true)
    (hSpeed : (decide (g.hi < 27) || decide (27 < g.lo)) = true) : (d.bldSpeedLost a).get g = d.get g := by
  unfold Dev.bldSpeedLost
  extract_lets was slews x
  have hx : x.get g = d.get g := Dev.get_put_status _ 0 rfl hg rfl hgo hSpeed
  split_ifs
  · rw [Dev.get_gateAll_status _ hb hg, Dev.get_bldFlag_status _ _ _ hg, hx]
  · exact hx

theorem Frame.bldSpeedLost {ps : List Part} {d e : Dev} (h : Dev.Frame ps d e) (a : Nat) (ha : ∀ p ∈ axParts a, p ∈ ps) :
    Dev.Frame ps d (e.bldSpeedLost a) := by
  have hBld : Part.bld a ∈ ps := ha _ (by simp [axParts])
  have hStatus : Part.reg (R.BLD_AXa_STATUS a).off ∈ ps := ha _ (by simp [axParts])
  have hIrq : Part.reg (R.BLD_AXa_IRQ_STATUS a).off ∈ ps := ha _ (by simp [axParts])
  have hGate : ∀ p ∈ gateAllParts, p ∈ ps := fun p hp => ha p (by simp [axParts, hp])
  have hPost : ∀ p ∈ irqParts, p ∈ ps := fun p hp => hGate p (List.mem_flatMap.2 ⟨0, by simp, by simp [gateParts, hp]⟩)
  have hPut := put (modBld h a (fun x =>
    { (if e.on (F.BLD_AXa_STATUS.slewing a) then x.endPhase else x.noPhase) with atN := 0 }) hBld) (F.BLD_AXa_STATUS.at_speed a) 0 hStatus
  exact ite (gateAll (flag hPut _ _ _ _ hIrq hPost) hGate) hPut

/-! ### Entering a state (R271) -/

theorem Dev.course_bldEnter (d : Dev) (a st : Nat) :
    ((d.bldEnter a st).bldS a).course = { d.bldS a with since := d.sys.now8 }.course := by
  unfold Dev.bldEnter
  extract_lets was d1 d2 d3 d4 d5 d6 d7
  have h3 : (d3.bldS a).course = { d.bldS a with since := d.sys.now8 }.course := by
    simp only [d3, d2, d1, Dev.when]
    split_ifs <;> simp [BldAx.course, BldAx.fresh, BldAx.noPhase]
  have h7 : d7.bldS a = d3.bldS a := by
    simp only [d7, d6, d5, d4, Dev.when]
    split_ifs <;> simp
  split_ifs
  · rw [h7, h3]
  · rw [Dev.course_bldSpeedLost, h7, h3]

theorem Frame.bldEnter {ps : List Part} {d e : Dev} (h : Dev.Frame ps d e) (a st : Nat) (ha : ∀ p ∈ axParts a, p ∈ ps)
    (hActive : st = 10 ∨ e.bldState a = 10 → ∀ p ∈ activeParts 26, p ∈ ps) : Dev.Frame ps d (e.bldEnter a st) := by
  have hBld : Part.bld a ∈ ps := ha _ (by simp [axParts])
  have hStatus : Part.reg (R.BLD_AXa_STATUS a).off ∈ ps := ha _ (by simp [axParts])
  have hIrq : Part.reg (R.BLD_AXa_IRQ_STATUS a).off ∈ ps := ha _ (by simp [axParts])
  have hGate : ∀ p ∈ gateAllParts, p ∈ ps := fun p hp => ha p (by simp [axParts, hp])
  have hPost : ∀ p ∈ irqParts, p ∈ ps := fun p hp => hGate p (List.mem_flatMap.2 ⟨0, by simp, by simp [gateParts, hp]⟩)
  unfold Dev.bldEnter
  extract_lets was d1 d2 d3 d4 d5 d6 d7
  have h1 : Dev.Frame ps d d1 := when h (modBld h a _ hBld)
  have h4 : Dev.Frame ps d d4 := put (modBld (put h1 _ _ hStatus) a _ hBld) _ _ hStatus
  have h5 : Dev.Frame ps d d5 := ite (flag h4 _ _ _ _ hIrq hPost) h4
  have h6 : Dev.Frame ps d d6 := ite (flag h5 _ _ _ _ hIrq hPost) h5
  have h7 : Dev.Frame ps d d7 := by
    by_cases hFault : st = 10 ∨ was = 10
    · have hp := hActive hFault
      exact when h6 (setActive h6 _ _ (hp _ (by simp [activeParts])) (hp _ (by simp [activeParts])) (hp _ (by simp [activeParts])))
    · have : d7 = d6 := if_neg (by simpa using hFault)
      rw [this]
      exact h6
  exact ite h7 (bldSpeedLost h7 a ha)

/-- Entering a state writes that state, and clears the speed and slew bits alone beside it. -/
theorem Dev.get_bldEnter_status (d : Dev) {g : Fld} {a b : Nat} (st : Nat) (hb : b < 16) (hg : g.reg = R.BLD_AXa_STATUS b) (hgo : g.ok = true)
    (hOther : g.hi < 26 ∨ 27 < g.lo) : (d.bldEnter a st).get g = (d.put (F.BLD_AXa_STATUS.state a) st).get g := by
  unfold Dev.bldEnter
  extract_lets was d1 d2 d3 d4 d5 d6 d7
  have h2 : d2.get g = (d.put (F.BLD_AXa_STATUS.state a) st).get g := by
    simp only [d2, d1, Dev.when]
    split_ifs <;> rfl
  have hSlew : (decide (g.hi < 26) || decide (26 < g.lo)) = true := by simp only [Bool.or_eq_true, decide_eq_true_eq]; omega
  have hSpeed : (decide (g.hi < 27) || decide (27 < g.lo)) = true := by simp only [Bool.or_eq_true, decide_eq_true_eq]; omega
  have h4 : d4.get g = d2.get g := Dev.get_put_status d3 0 rfl hg rfl hgo hSlew
  have h5 : d5.get g = d4.get g := by
    simp only [d5]
    split_ifs
    exacts [Dev.get_bldFlag_status _ _ _ hg, rfl]
  have h6 : d6.get g = d5.get g := by
    simp only [d6]
    split_ifs
    exacts [Dev.get_bldFlag_status _ _ _ hg, rfl]
  have h7 : d7.get g = d6.get g := by
    simp only [d7, Dev.when]
    split_ifs
    · refine Dev.get_setActive_ne _ _ _ _ ?_ ?_ <;> rw [hg] <;> simp only [R.BLD_AXa_STATUS, R.FLT_SRCi_STATE, R.FLT_ACTIVE] <;> omega
    · rfl
  have hEntered : d7.get g = (d.put (F.BLD_AXa_STATUS.state a) st).get g := by rw [h7, h6, h5, h4, h2]
  split_ifs
  · exact hEntered
  · rw [Dev.get_bldSpeedLost_status _ hb hg hgo hSpeed, hEntered]

theorem Dev.bldState_bldEnter (d : Dev) {a st : Nat} (ha : a < 16) (hst : st < 16) : (d.bldEnter a st).bldState a = st := by
  rw [Dev.bldState, Dev.get_bldEnter_status _ _ ha rfl rfl (.inr (by simp [F.BLD_AXa_STATUS.state])), Dev.get_put_same _ _ _ rfl]
  exact Nat.mod_eq_of_lt hst

theorem Dev.too_late_bldEnter (d : Dev) {a : Nat} (st : Nat) (ha : a < 16) :
    (d.bldEnter a st).on (F.BLD_AXa_STATUS.too_late_to_abort a) = d.on (F.BLD_AXa_STATUS.too_late_to_abort a) := by
  rw [Dev.on, Dev.get_bldEnter_status _ _ ha rfl rfl (.inl (by simp [F.BLD_AXa_STATUS.too_late_to_abort])), Dev.get_put_status _ _ rfl rfl rfl rfl rfl, Dev.on]

/-! ### The remaining distance and the late stop (R276) -/

theorem Dev.bldRemain_eq (d : Dev) (a : Nat) : d.bldRemain a = d ∨ ∃ v, d.bldRemain a = d.put (F.BLD_AXa_REMAIN.remain a) v := by
  unfold Dev.bldRemain
  split
  · split_ifs
    exacts [.inl rfl, .inr ⟨_, rfl⟩]
  · exact .inl rfl

@[simp] theorem Dev.bldS_bldRemain (d : Dev) (a b : Nat) : (d.bldRemain a).bldS b = d.bldS b := by
  obtain h | ⟨v, h⟩ := d.bldRemain_eq a <;> rw [h]
  exact Dev.bldS_put _ _ _ _

@[simp] theorem Dev.sys_bldRemain (d : Dev) (a : Nat) : (d.bldRemain a).sys = d.sys := by
  obtain h | ⟨v, h⟩ := d.bldRemain_eq a <;> rw [h]
  exact Dev.put_sys _ _ _

@[simp] theorem Dev.frd_bldRemain (d : Dev) (a : Nat) : (d.bldRemain a).frd = d.frd := by
  obtain h | ⟨v, h⟩ := d.bldRemain_eq a <;> rw [h]
  exact Dev.put_frd _ _ _

theorem Dev.get_bldRemain_ne (d : Dev) (a : Nat) (g : Fld) (hg : g.reg.off ≠ (R.BLD_AXa_REMAIN a).off) : (d.bldRemain a).get g = d.get g := by
  obtain h | ⟨v, h⟩ := d.bldRemain_eq a <;> rw [h]
  exact Dev.get_put_ne _ _ _ _ hg

theorem Frame.bldRemain {ps : List Part} {d e : Dev} (h : Dev.Frame ps d e) (a : Nat) (hr : Part.reg (R.BLD_AXa_REMAIN a).off ∈ ps) :
    Dev.Frame ps d (e.bldRemain a) := by
  obtain he | ⟨v, he⟩ := e.bldRemain_eq a <;> rw [he]
  exacts [h, put h _ _ hr]

theorem Dev.bldS_bldHoldMove (d : Dev) (a : Nat) : (d.bldHoldMove a).bldS a = { d.bldS a with moving := false } := by
  unfold Dev.bldHoldMove
  split_ifs with h
  · simp
  · generalize d.bldS a = x at h
    obtain ⟨⟩ := x
    simpa using h

@[simp] theorem Dev.sys_bldHoldMove (d : Dev) (a : Nat) : (d.bldHoldMove a).sys = d.sys := by
  unfold Dev.bldHoldMove
  split_ifs <;> simp

theorem Dev.get_bldHoldMove_ne (d : Dev) (a : Nat) (g : Fld) (hg : g.reg.off ≠ (R.BLD_AXa_REMAIN a).off) :
    (d.bldHoldMove a).get g = d.get g := by
  unfold Dev.bldHoldMove
  split_ifs
  · exact Dev.get_bldRemain_ne _ _ _ hg
  · rfl

theorem Frame.bldHoldMove {ps : List Part} {d e : Dev} (h : Dev.Frame ps d e) (a : Nat) (hb : Part.bld a ∈ ps)
    (hr : Part.reg (R.BLD_AXa_REMAIN a).off ∈ ps) : Dev.Frame ps d (e.bldHoldMove a) :=
  ite (bldRemain (modBld h a _ hb) a hr) h

theorem status_ne_remain (a b : Nat) : (R.BLD_AXa_STATUS b).off ≠ (R.BLD_AXa_REMAIN a).off := by
  simp only [R.BLD_AXa_STATUS, R.BLD_AXa_REMAIN]
  omega

@[simp] theorem Dev.bldState_bldRemain (d : Dev) (a b : Nat) : (d.bldRemain a).bldState b = d.bldState b :=
  Dev.get_bldRemain_ne _ _ _ (status_ne_remain a b)

@[simp] theorem Dev.bldState_bldHoldMove (d : Dev) (a b : Nat) : (d.bldHoldMove a).bldState b = d.bldState b :=
  Dev.get_bldHoldMove_ne _ _ _ (status_ne_remain a b)

theorem Dev.when_eq (d : Dev) (c : Bool) (f : Dev → Dev) : d.when c f = d ∨ d.when c f = f d := by
  cases c
  exacts [.inl rfl, .inr rfl]

theorem Dev.bldTooLate_eq (d : Dev) (a : Nat) :
    d.bldTooLate a = d ∨ d.bldTooLate a = d.put (F.BLD_AXa_STATUS.too_late_to_abort a) 1 := d.when_eq _ _

@[simp] theorem Dev.bldS_bldTooLate (d : Dev) (a b : Nat) : (d.bldTooLate a).bldS b = d.bldS b := by
  obtain h | h := d.bldTooLate_eq a <;> rw [h]
  exact Dev.bldS_put _ _ _ _

@[simp] theorem Dev.sys_bldTooLate (d : Dev) (a : Nat) : (d.bldTooLate a).sys = d.sys := by
  obtain h | h := d.bldTooLate_eq a <;> rw [h]
  exact Dev.put_sys _ _ _

@[simp] theorem Dev.bldState_bldTooLate (d : Dev) (a b : Nat) : (d.bldTooLate a).bldState b = d.bldState b := by
  obtain h | h := d.bldTooLate_eq a <;> rw [h]
  exact Dev.get_put_status _ _ rfl rfl rfl rfl rfl

theorem Dev.too_late_bldTooLate (d : Dev) (a : Nat) (h : (d.bldS a).moveDone = d.sys.now8 + 1) :
    (d.bldTooLate a).on (F.BLD_AXa_STATUS.too_late_to_abort a) = true := by
  have hSet : d.bldTooLate a = d.putB (F.BLD_AXa_STATUS.too_late_to_abort a) true := if_pos (by simpa using h)
  rw [hSet, Dev.on_putB_same _ _ _ rfl]

theorem Dev.get_bldTooLate_ne (d : Dev) (a : Nat) (g : Fld) (hg : g.reg.off ≠ (R.BLD_AXa_STATUS a).off) : (d.bldTooLate a).get g = d.get g := by
  obtain h | h := d.bldTooLate_eq a <;> rw [h]
  exact Dev.get_put_ne _ _ _ _ hg

theorem Frame.bldTooLate {ps : List Part} {d e : Dev} (h : Dev.Frame ps d e) (a : Nat) (hs : Part.reg (R.BLD_AXa_STATUS a).off ∈ ps) :
    Dev.Frame ps d (e.bldTooLate a) :=
  when h (put h _ _ hs)

/-! ### Halting an axis: what a stop and a disable have in common (R271, R276) -/

/-- The running move is kept with its remaining distance, a stop that comes too late says so, and the axis takes its new course. -/
def Dev.bldHalt (d : Dev) (a : Nat) (u : BldAx → BldAx) : Dev := ((d.bldTooLate a).bldHoldMove a).modBld a u

theorem Dev.bldS_bldHalt (d : Dev) (a : Nat) (u : BldAx → BldAx) : (d.bldHalt a u).bldS a = u { d.bldS a with moving := false } := by
  rw [Dev.bldHalt, Dev.bldS_modBld, Dev.bldS_bldHoldMove, Dev.bldS_bldTooLate]

@[simp] theorem Dev.bldState_bldHalt (d : Dev) (a : Nat) (u : BldAx → BldAx) (b : Nat) : (d.bldHalt a u).bldState b = d.bldState b := by
  simp [Dev.bldHalt]

theorem Dev.too_late_bldHalt (d : Dev) (a : Nat) (u : BldAx → BldAx) (h : (d.bldS a).moveDone = d.sys.now8 + 1) :
    (d.bldHalt a u).on (F.BLD_AXa_STATUS.too_late_to_abort a) = true := by
  rw [← Dev.too_late_bldTooLate d a h, Dev.on, Dev.on]
  exact congrArg (fun n => decide (n ≠ 0)) (Dev.get_bldHoldMove_ne _ _ _ (status_ne_remain a a))

theorem Frame.bldHalt (d : Dev) (a : Nat) (u : BldAx → BldAx) : Dev.Frame (axParts a) d (d.bldHalt a u) :=
  modBld (bldHoldMove (bldTooLate refl a (by simp [axParts])) a (by simp [axParts]) (by simp [axParts])) a _ (by simp [axParts])

theorem Dev.bldIdleState_congr {d e : Dev} (h : e.frd = d.frd) (a : Nat) : e.bldIdleState a = d.bldIdleState a := by
  unfold Dev.bldIdleState Dev.axis
  rw [h]

theorem Dev.bldIdleState_lt (d : Dev) (a : Nat) : d.bldIdleState a < 3 := by
  unfold Dev.bldIdleState
  split
  · split_ifs <;> omega
  · omega

theorem Frame.bldIdleState {d e : Dev} {ps : List Part} (h : Dev.Frame ps d e) (hf : Part.frd ∉ ps) (a : Nat) :
    e.bldIdleState a = d.bldIdleState a := Dev.bldIdleState_congr (h .frd hf) a

theorem frd_not_mem_axParts (a : Nat) : Part.frd ∉ axParts a := by
  simp [axParts, gateAllParts, gateParts, irqParts]

/-! ### Entering the idle state or OFF (R271) -/

/-- Where no start is due, the axis enters OFF after a disable and its idle state otherwise. -/
theorem Dev.bldToIdle_eq (d : Dev) (a : Nat) (h : (d.bldS a).startDue = none) :
    d.bldToIdle a = ((d.bldRemain a).putBld a { d.bldS a with offPend := false, startDue := none, wref := 0 }).bldEnter a
      (if (d.bldS a).offPend = true then 0 else d.bldIdleState a) := by
  unfold Dev.bldToIdle
  extract_lets x e f
  by_cases hp : (d.bldS a).offPend = true
  · rw [if_pos hp, if_pos hp]
  · have hOff : { x with offPend := false, startDue := none, wref := 0 } = { x with startDue := none, wref := 0 } := by
      generalize hx : x = y
      have : y.offPend = false := by rw [← hx]; simpa using hp
      obtain ⟨⟩ := y
      simp_all
    have hDue : x.startDue = none := h
    rw [if_neg hp, if_neg hp, hDue]
    simp only [f, e, hOff, x]
    rw [Dev.bldIdleState_congr (d.frd_bldRemain a)]

theorem Dev.bldS_bldToIdle (d : Dev) (a : Nat) (h : (d.bldS a).startDue = none) : ((d.bldToIdle a).bldS a).course =
    { d.bldS a with offPend := false, startDue := none, wref := 0, since := d.sys.now8 }.course := by
  rw [Dev.bldToIdle_eq d a h, Dev.course_bldEnter]
  simp

theorem Dev.bldState_bldToIdle (d : Dev) {a : Nat} (ha : a < 16) (h : (d.bldS a).startDue = none) :
    (d.bldToIdle a).bldState a = if (d.bldS a).offPend = true then 0 else d.bldIdleState a := by
  have := d.bldIdleState_lt a
  rw [Dev.bldToIdle_eq d a h, Dev.bldState_bldEnter _ ha (by split_ifs <;> omega)]

theorem Dev.too_late_bldToIdle (d : Dev) {a : Nat} (ha : a < 16) (h : (d.bldS a).startDue = none) :
    (d.bldToIdle a).on (F.BLD_AXa_STATUS.too_late_to_abort a) = d.on (F.BLD_AXa_STATUS.too_late_to_abort a) := by
  rw [Dev.bldToIdle_eq d a h, Dev.too_late_bldEnter _ _ ha, Dev.on, Dev.get_putBld, Dev.get_bldRemain_ne _ _ _ (status_ne_remain a a), Dev.on]

theorem Frame.bldToIdle {ps : List Part} {d e : Dev} (h : Dev.Frame ps d e) {a : Nat} (ha : ∀ p ∈ axParts a, p ∈ ps)
    (hd : (e.bldS a).startDue = none) (hActive : e.bldState a = 10 → ∀ p ∈ activeParts 26, p ∈ ps) : Dev.Frame ps d (e.bldToIdle a) := by
  have := e.bldIdleState_lt a
  rw [Dev.bldToIdle_eq e a hd]
  refine bldEnter (putBld (bldRemain h a (ha _ (by simp [axParts]))) a _ (ha _ (by simp [axParts]))) a _ ha fun hFault => hActive ?_
  simp only [Dev.bldState_putBld, Dev.bldState_bldRemain] at hFault
  obtain hEnter | hState := hFault
  · split_ifs at hEnter
    omega
  · exact hState

/-! ### What an entry into a state leaves of the axis's course -/

@[simp] theorem Dev.target_bldEnter (d : Dev) (a st : Nat) : ((d.bldEnter a st).bldS a).target = (d.bldS a).target := by
  have h := congrArg BldAx.target (d.course_bldEnter a st)
  exact h
@[simp] theorem Dev.rate_bldEnter (d : Dev) (a st : Nat) : ((d.bldEnter a st).bldS a).rate = (d.bldS a).rate := by
  have h := congrArg BldAx.rate (d.course_bldEnter a st)
  exact h
@[simp] theorem Dev.runtime_bldEnter (d : Dev) (a st : Nat) : ((d.bldEnter a st).bldS a).runtime = (d.bldS a).runtime := by
  have h := congrArg BldAx.runtime (d.course_bldEnter a st)
  exact h
@[simp] theorem Dev.startDue_bldEnter (d : Dev) (a st : Nat) : ((d.bldEnter a st).bldS a).startDue = (d.bldS a).startDue := by
  have h := congrArg BldAx.startDue (d.course_bldEnter a st)
  exact h
@[simp] theorem Dev.offPend_bldEnter (d : Dev) (a st : Nat) : ((d.bldEnter a st).bldS a).offPend = (d.bldS a).offPend := by
  have h := congrArg BldAx.offPend (d.course_bldEnter a st)
  exact h
@[simp] theorem Dev.restartAt_bldEnter (d : Dev) (a st : Nat) : ((d.bldEnter a st).bldS a).restartAt = (d.bldS a).restartAt := by
  have h := congrArg BldAx.restartAt (d.course_bldEnter a st)
  exact h
@[simp] theorem Dev.tries_bldEnter (d : Dev) (a st : Nat) : ((d.bldEnter a st).bldS a).tries = (d.bldS a).tries := by
  have h := congrArg BldAx.tries (d.course_bldEnter a st)
  exact h
@[simp] theorem Dev.moving_bldEnter (d : Dev) (a st : Nat) : ((d.bldEnter a st).bldS a).moving = (d.bldS a).moving := by
  have h := congrArg BldAx.moving (d.course_bldEnter a st)
  exact h
@[simp] theorem Dev.since_bldEnter (d : Dev) (a st : Nat) : ((d.bldEnter a st).bldS a).since = d.sys.now8 := by
  have h := congrArg BldAx.since (d.course_bldEnter a st)
  exact h

/-! ### Stop, disable, clear_fault, enable (R271) -/

/-- A stop: the target is 0, the rate stop_rate, no start and no restart is due. -/
def BldAx.stop (rate : Nat) (x : BldAx) : BldAx := { x with target := 0, rate := rate, startDue := none, restartAt := 0, tries := 0 }

/-- A disable: OFF follows, no start and no restart is due. -/
def BldAx.disable (x : BldAx) : BldAx := { x with offPend := true, startDue := none, restartAt := 0, tries := 0 }

/-- What a stop and a disable of axis a leave alike: no start, restart or move goes on, and one that came too late says so (R271, R276). -/
structure Dev.Halted (a : Nat) (d e : Dev) : Prop where
  due : (e.bldS a).startDue = none
  restart : (e.bldS a).restartAt = 0
  moving : (e.bldS a).moving = false
  late : (d.bldS a).moveDone = d.sys.now8 + 1 → e.on (F.BLD_AXa_STATUS.too_late_to_abort a) = true
  frame : Dev.Frame (axParts a) d e

namespace Dev.Halted

variable {a st : Nat} {d e : Dev}

theorem stop (d : Dev) (a rate : Nat) : Dev.Halted a d (d.bldHalt a (BldAx.stop rate)) where
  due := by rw [Dev.bldS_bldHalt]; rfl
  restart := by rw [Dev.bldS_bldHalt]; rfl
  moving := by rw [Dev.bldS_bldHalt]; rfl
  late := Dev.too_late_bldHalt d a _
  frame := Frame.bldHalt d a _

theorem disable (d : Dev) (a : Nat) : Dev.Halted a d (d.bldHalt a BldAx.disable) where
  due := by rw [Dev.bldS_bldHalt]; rfl
  restart := by rw [Dev.bldS_bldHalt]; rfl
  moving := by rw [Dev.bldS_bldHalt]; rfl
  late := Dev.too_late_bldHalt d a _
  frame := Frame.bldHalt d a _

theorem enter (h : Dev.Halted a d e) (ha : a < 16) (hst : st ≠ 10) (hState : e.bldState a ≠ 10) : Dev.Halted a d (e.bldEnter a st) where
  due := by rw [Dev.startDue_bldEnter, h.due]
  restart := by rw [Dev.restartAt_bldEnter, h.restart]
  moving := by rw [Dev.moving_bldEnter, h.moving]
  late hDone := by rw [Dev.too_late_bldEnter _ _ ha, h.late hDone]
  frame := Frame.bldEnter h.frame a st (fun _ hp => hp) fun hFault => by omega

theorem toIdle (h : Dev.Halted a d e) (ha : a < 16) (hState : e.bldState a ≠ 10) : Dev.Halted a d (e.bldToIdle a) where
  due := (congrArg BldAx.startDue (e.bldS_bldToIdle a h.due) :)
  restart := (congrArg BldAx.restartAt (e.bldS_bldToIdle a h.due) :).trans h.restart
  moving := (congrArg BldAx.moving (e.bldS_bldToIdle a h.due) :).trans h.moving
  late hDone := by rw [Dev.too_late_bldToIdle _ ha h.due, h.late hDone]
  frame := Frame.bldToIdle h.frame (fun _ hp => hp) h.due fun hFault => absurd hFault hState

/-- The idle state is the one the axis had before. -/
theorem idleState (h : Dev.Halted a d e) : e.bldIdleState a = d.bldIdleState a := Frame.bldIdleState h.frame (frd_not_mem_axParts a) a

end Dev.Halted

theorem rates_ne_status (a : Nat) : (R.BLD_AXa_RATES a).off ≠ (R.BLD_AXa_STATUS a).off := by
  simp only [R.BLD_AXa_RATES, R.BLD_AXa_STATUS]
  omega

theorem rates_ne_remain (a : Nat) : (R.BLD_AXa_RATES a).off ≠ (R.BLD_AXa_REMAIN a).off := by
  simp only [R.BLD_AXa_RATES, R.BLD_AXa_REMAIN]
  omega

theorem Dev.bldStop_eq (d : Dev) (a : Nat) (h0 : d.bldState a ≠ 0) (h9 : d.bldState a ≠ 9) (h10 : d.bldState a ≠ 10) {e : Dev}
    (he : e = d.bldHalt a (BldAx.stop (d.get (F.BLD_AXa_RATES.stop_rate a)))) :
    d.bldStop a = if d.bldState a = 7 then e.bldEnter a 8
      else if d.bldState a = 3 ∨ d.bldState a = 4 ∨ d.bldState a = 5 ∨ d.bldState a = 6 then e.bldToIdle a else e := by
  have hRate : (d.bldTooLate a).get (F.BLD_AXa_RATES.stop_rate a) = d.get (F.BLD_AXa_RATES.stop_rate a) :=
    Dev.get_bldTooLate_ne _ _ _ (rates_ne_status a)
  unfold Dev.bldStop
  extract_lets st l f
  have hf : f = e := by
    rw [he]
    simp only [f, l, hRate]
    rfl
  rw [hf]
  simp [st, h0, h9, h10, or_assoc]

/-- The state a stop leads to, from one of OFF to STOPPING (R271). -/
def Dev.stopState (d : Dev) (a : Nat) : Nat :=
  if d.bldState a = 7 ∨ d.bldState a = 8 then 8
  else if 3 ≤ d.bldState a then (if (d.bldS a).offPend = true then 0 else d.bldIdleState a) else d.bldState a

theorem Dev.bldStop_spec (d : Dev) {a : Nat} (ha : a < 16) (h1 : 1 ≤ d.bldState a) (h8 : d.bldState a ≤ 8) :
    Dev.Halted a d (d.bldStop a) ∧ ((d.bldStop a).bldS a).target = 0 ∧
    ((d.bldStop a).bldS a).rate = d.get (F.BLD_AXa_RATES.stop_rate a) ∧ (d.bldStop a).bldState a = d.stopState a := by
  generalize hRate : d.get (F.BLD_AXa_RATES.stop_rate a) = rate
  have hHalt := Dev.Halted.stop d a rate
  have hS : (d.bldHalt a (BldAx.stop rate)).bldS a = BldAx.stop rate { d.bldS a with moving := false } := Dev.bldS_bldHalt d a _
  have hState : (d.bldHalt a (BldAx.stop rate)).bldState a = d.bldState a := Dev.bldState_bldHalt d a _ a
  rw [Dev.bldStop_eq d a (by omega) (by omega) (by omega) rfl, hRate]
  generalize d.bldHalt a (BldAx.stop rate) = e at *
  have hTarget : (e.bldS a).target = 0 := by rw [hS]; rfl
  have hRate' : (e.bldS a).rate = rate := by rw [hS]; rfl
  unfold Dev.stopState
  by_cases h7 : d.bldState a = 7
  · rw [if_pos h7, if_pos (.inl h7)]
    exact ⟨hHalt.enter ha (by omega) (by omega), by rw [Dev.target_bldEnter, hTarget], by rw [Dev.rate_bldEnter, hRate'],
      Dev.bldState_bldEnter _ ha (by omega)⟩
  rw [if_neg h7]
  have hDueT := (congrArg BldAx.target (e.bldS_bldToIdle a hHalt.due) :)
  have hDueR := (congrArg BldAx.rate (e.bldS_bldToIdle a hHalt.due) :)
  by_cases h36 : 3 ≤ d.bldState a ∧ d.bldState a ≤ 6
  · have hPend : (e.bldS a).offPend = (d.bldS a).offPend := by rw [hS]; rfl
    rw [if_pos (by omega), if_neg (by omega), if_pos h36.1]
    refine ⟨hHalt.toIdle ha (by omega), hDueT.trans hTarget, hDueR.trans hRate', ?_⟩
    rw [Dev.bldState_bldToIdle _ ha hHalt.due, hPend, hHalt.idleState]
  · rw [if_neg (by omega)]
    refine ⟨hHalt, hTarget, hRate', hState.trans ?_⟩
    split_ifs <;> omega

theorem Dev.bldDisable_eq (d : Dev) (a : Nat) (h0 : d.bldState a ≠ 0) {e f : Dev} (he : e = d.bldHalt a BldAx.disable)
    (hf : f = e.modBld a fun x => { x with target := 0, rate := d.get (F.BLD_AXa_RATES.stop_rate a) }) :
    d.bldDisable a = if d.bldState a = 9 then e else if d.bldState a = 7 then f.bldEnter a 8
      else if d.bldState a = 8 then f else e.bldToIdle a := by
  have hRate : e.get (F.BLD_AXa_RATES.stop_rate a) = d.get (F.BLD_AXa_RATES.stop_rate a) := by
    rw [he, Dev.bldHalt, Dev.get_modBld, Dev.get_bldHoldMove_ne _ _ _ (rates_ne_remain a), Dev.get_bldTooLate_ne _ _ _ (rates_ne_status a)]
  unfold Dev.bldDisable
  extract_lets st l g
  have hl : l = e := by rw [he]; rfl
  have hg : g = f := by rw [hf, ← hRate]; simp only [g, hl]
  rw [hl, hg]
  simp only [st, Bool.or_eq_true, decide_eq_true_eq]
  rw [if_neg h0]
  by_cases h7 : d.bldState a = 7
  · simp [h7]
  · simp [h7]

namespace Dev.Halted

variable {a : Nat} {d e : Dev}

/-- A halted axis may still take a target and a rate. -/
theorem course (h : Dev.Halted a d e) (target : Int) (rate : Nat) :
    Dev.Halted a d (e.modBld a fun x => { x with target := target, rate := rate }) where
  due := by rw [Dev.bldS_modBld]; exact h.due
  restart := by rw [Dev.bldS_modBld]; exact h.restart
  moving := by rw [Dev.bldS_modBld]; exact h.moving
  late := h.late
  frame := Frame.modBld h.frame a _ (by simp [axParts])

end Dev.Halted

/-- A disable halts the axis; one at speed stops first and turns OFF at the end, any other but one on its bus's fall is OFF at once (R271). -/
theorem Dev.bldDisable_spec (d : Dev) {a : Nat} (ha : a < 16) (h0 : d.bldState a ≠ 0) (h9 : d.bldState a ≤ 9) :
    Dev.Halted a d (d.bldDisable a) ∧
    (d.bldDisable a).bldState a = (if d.bldState a = 9 then 9 else if d.bldState a = 7 ∨ d.bldState a = 8 then 8 else 0) ∧
    ((d.bldDisable a).bldS a).offPend = decide (7 ≤ d.bldState a) ∧
    (d.bldState a = 7 ∨ d.bldState a = 8 → ((d.bldDisable a).bldS a).target = 0 ∧
      ((d.bldDisable a).bldS a).rate = d.get (F.BLD_AXa_RATES.stop_rate a)) := by
  rw [Dev.bldDisable_eq d a h0 rfl rfl]
  generalize d.get (F.BLD_AXa_RATES.stop_rate a) = rate
  have hHalt := Dev.Halted.disable d a
  have hPend : ((d.bldHalt a BldAx.disable).bldS a).offPend = true := by rw [Dev.bldS_bldHalt]; rfl
  have hState : (d.bldHalt a BldAx.disable).bldState a = d.bldState a := Dev.bldState_bldHalt d a _ a
  generalize d.bldHalt a BldAx.disable = e at *
  have hStop := hHalt.course 0 rate
  have hStopS := Dev.bldS_modBld e a fun x => { x with target := 0, rate := rate }
  have hStopState : (e.modBld a fun x => { x with target := 0, rate := rate }).bldState a = d.bldState a := hState
  generalize (e.modBld a fun x => { x with target := 0, rate := rate }) = f at *
  have hStopPend : (f.bldS a).offPend = true := by rw [hStopS]; exact hPend
  have hStopTarget : (f.bldS a).target = 0 ∧ (f.bldS a).rate = rate := by rw [hStopS]; exact ⟨rfl, rfl⟩
  by_cases hBus : d.bldState a = 9
  · rw [if_pos hBus, if_pos hBus]
    exact ⟨hHalt, hState.trans hBus, hPend.trans (decide_eq_true (by omega)).symm, by omega⟩
  by_cases h7 : d.bldState a = 7
  · rw [if_neg hBus, if_pos h7, if_neg hBus, if_pos (.inl h7)]
    refine ⟨hStop.enter ha (by omega) (by omega), Dev.bldState_bldEnter _ ha (by omega), ?_, fun _ => ?_⟩
    · rw [Dev.offPend_bldEnter, hStopPend]
      exact (decide_eq_true (by omega)).symm
    · rwa [Dev.target_bldEnter, Dev.rate_bldEnter]
  by_cases h8 : d.bldState a = 8
  · rw [if_neg hBus, if_neg h7, if_pos h8, if_neg hBus, if_pos (.inr h8)]
    exact ⟨hStop, hStopState.trans h8, hStopPend.trans (decide_eq_true (by omega)).symm, fun _ => hStopTarget⟩
  rw [if_neg hBus, if_neg h7, if_neg h8, if_neg hBus, if_neg (by omega)]
  refine ⟨hHalt.toIdle ha (by omega), ?_, ?_, by omega⟩
  · rw [Dev.bldState_bldToIdle _ ha hHalt.due, if_pos hPend]
  · have h : ((e.bldToIdle a).bldS a).offPend = false := (congrArg BldAx.offPend (e.bldS_bldToIdle a hHalt.due) :)
    rw [h]
    exact (decide_eq_false (by omega)).symm

/-! ### Source 26: an axis is in FAULT (R271, R283) -/

theorem Dev.on_setActive_same (d : Dev) {i : Nat} (hi : i < 41) (b : Bool) : (d.setActive i b).on (F.FLT_SRCi_STATE.active i) = b := by
  unfold Dev.setActive
  extract_lets was q e f
  have hf : f.on (F.FLT_SRCi_STATE.active i) = b := Dev.on_putB_same e (F.FLT_SRCi_STATE.active i) b rfl
  rw [if_pos hi, Dev.on, Dev.putBit, Dev.get_put_ne _ _ _ _ (by simp only [F.FLT_SRCi_STATE.active, F.FLT_ACTIVE.active, R.FLT_SRCi_STATE, R.FLT_ACTIVE]; omega)]
  exact hf

/-- A register outside the brushless slices and the gate's is none that an axis changes, but for the pending interrupts. -/
theorem reg_not_mem_axParts {a o : Nat} (ha : a < 16) (hPba : o ≠ R.MSIX_PBA.off) (ho : o < 0x80000 ∨ 0xe0000 ≤ o ∧ o < 0x100000) :
    Part.reg o ∉ axParts a := by
  simp only [R.MSIX_PBA] at hPba
  simp [axParts, gateAllParts, gateParts, irqParts, R.BLD_AXa_STATUS, R.BLD_AXa_IRQ_STATUS, R.BLD_AXa_REMAIN,
    R.CHn_FGT_STATUS, R.CHn_FGT_COUNTS, R.CHn_FGT_IRQ_STATUS, R.MSIX_PBA]
  exact ⟨by omega, by omega, by omega, fun n _ => by omega⟩

theorem any_range_congr {n : Nat} {p q : Nat → Bool} (h : ∀ b < n, p b = q b) : (List.range n).any p = (List.range n).any q := by
  rw [Bool.eq_iff_iff]
  simp only [List.any_eq_true, List.mem_range]
  exact exists_congr fun b => and_congr_right fun hb => by rw [h b hb]

/-- An axis that enters or leaves FAULT sets source 26 to whether some axis is in FAULT now. -/
theorem Dev.on_active_bldEnter (d : Dev) {a : Nat} (ha : a < 16) (st : Nat) (hFault : st = 10 ∨ d.bldState a = 10) :
    (d.bldEnter a st).on (F.FLT_SRCi_STATE.active 26) = (List.range 16).any fun b => (d.bldEnter a st).bldState b = 10 := by
  unfold Dev.bldEnter
  extract_lets was d1 d2 d3 d4 d5 d6 d7
  have h7 : d7 = d6.setActive 26 ((List.range 16).any fun b => d6.bldState b = 10) := if_pos (by simpa [was] using hFault)
  have hOn : d7.on (F.FLT_SRCi_STATE.active 26) = (List.range 16).any fun b => d7.bldState b = 10 := by
    rw [h7, Dev.on_setActive_same _ (by omega)]
    refine any_range_congr fun b hb => congrArg (fun n => decide (n = 10)) (Dev.get_setActive_ne _ _ _ _ ?_ ?_).symm <;>
      simp only [F.BLD_AXa_STATUS.state, R.BLD_AXa_STATUS, R.FLT_SRCi_STATE, R.FLT_ACTIVE] <;> omega
  split_ifs
  · exact hOn
  · have hLost : (d7.bldSpeedLost a).on (F.FLT_SRCi_STATE.active 26) = d7.on (F.FLT_SRCi_STATE.active 26) :=
      Frame.on (Frame.bldSpeedLost Frame.refl a fun _ hp => hp) _
        (reg_not_mem_axParts ha (by simp [F.FLT_SRCi_STATE.active, R.FLT_SRCi_STATE, R.MSIX_PBA]) (by simp [F.FLT_SRCi_STATE.active, R.FLT_SRCi_STATE]))
    rw [hLost, hOn]
    exact any_range_congr fun b hb => congrArg (fun n => decide (n = 10)) (Dev.get_bldSpeedLost_status _ hb rfl rfl rfl).symm

/-! ### clear_fault and enable (R271) -/

/-- Clearing a fault forgets the restarts and enters the idle state, or OFF where a disable waits. -/
theorem Dev.bldClearFault_spec (d : Dev) {a : Nat} (ha : a < 16) (hFault : d.bldState a = 10) :
    (d.bldClearFault a).bldState a = (if (d.bldS a).offPend = true then 0 else d.bldIdleState a) ∧
    ((d.bldClearFault a).bldS a).restarts = [] ∧ ((d.bldClearFault a).bldS a).tries = 0 ∧ ((d.bldClearFault a).bldS a).wref = 0 ∧
    (d.bldClearFault a).on (F.FLT_SRCi_STATE.active 26) = ((List.range 16).any fun b => (d.bldClearFault a).bldState b = 10) ∧
    Dev.Frame (axParts a ++ activeParts 26) d (d.bldClearFault a) := by
  have hEq : d.bldClearFault a = (d.modBld a fun x => { x with restarts := [], tries := 0, startDue := none }).bldToIdle a := if_pos hFault
  have hS := Dev.bldS_modBld d a fun x => { x with restarts := [], tries := 0, startDue := none }
  have hState : (d.modBld a fun x => { x with restarts := [], tries := 0, startDue := none }).bldState a = 10 := hFault
  have hIdle : (d.modBld a fun x => { x with restarts := [], tries := 0, startDue := none }).bldIdleState a = d.bldIdleState a :=
    Dev.bldIdleState_congr rfl a
  have hFrame : Dev.Frame (axParts a ++ activeParts 26) d (d.modBld a fun x => { x with restarts := [], tries := 0, startDue := none }) :=
    Frame.modBld Frame.refl a _ (by simp [axParts])
  rw [hEq]
  generalize (d.modBld a fun x => { x with restarts := [], tries := 0, startDue := none }) = e at *
  have hDue : (e.bldS a).startDue = none := by rw [hS]
  have hPend : (e.bldS a).offPend = (d.bldS a).offPend := by rw [hS]
  have hRestarts : (e.bldS a).restarts = [] := by rw [hS]
  have hTries : (e.bldS a).tries = 0 := by rw [hS]
  refine ⟨?_, (congrArg BldAx.restarts (e.bldS_bldToIdle a hDue) :).trans hRestarts,
    (congrArg BldAx.tries (e.bldS_bldToIdle a hDue) :).trans hTries, (congrArg BldAx.wref (e.bldS_bldToIdle a hDue) :), ?_,
    Frame.bldToIdle hFrame (fun p hp => List.mem_append_left _ hp) hDue fun _ p hp => List.mem_append_right _ hp⟩
  · rw [Dev.bldState_bldToIdle _ ha hDue, hPend, hIdle]
  · rw [Dev.bldToIdle_eq e a hDue]
    refine Dev.on_active_bldEnter _ ha _ (.inr ?_)
    rw [Dev.bldState_putBld, Dev.bldState_bldRemain, hState]

/-- Outside the host states that idle the engine, enable enters the idle state. -/
theorem Dev.bldEnable_eq (d : Dev) {a : Nat} (h0 : d.bldState a = 0) (hAxis : (d.axis a).isSome = true)
    (hHost : d.get F.SYS_HOST_STATE.state ≠ 4 ∧ d.get F.SYS_HOST_STATE.state ≠ 2) (ha : a < 16) :
    d.bldEnable a = d.bldEnter a (d.bldIdleState a) := by
  have := d.bldIdleState_lt a
  have hFrame : Dev.Frame (axParts a) d (d.bldEnter a (d.bldIdleState a)) :=
    Frame.bldEnter Frame.refl a _ (fun _ hp => hp) (by omega)
  have hKept : (d.bldEnter a (d.bldIdleState a)).get F.SYS_HOST_STATE.state = d.get F.SYS_HOST_STATE.state :=
    Frame.get hFrame _ (reg_not_mem_axParts ha (by decide) (.inl (by decide)))
  rw [Dev.bldEnable, if_pos (by simp [h0, hAxis]), Dev.bldLeaveOff, hKept, if_neg (by simp [hHost])]

/-! ### Starts by a set-point (R271, R274, R275) -/

/-- The course a start by a set-point gives an axis. -/
def BldAx.toward (x : BldAx) (t : Int) (rate : Nat) : BldAx :=
  { x with target := t, rate := rate, runtime := true, startDue := none, offPend := false, startPer := true }

/-- The direction an axis runs in, or is being started in. -/
def Dev.heading (d : Dev) (a : Nat) : Int :=
  if d.bldState a = 7 ∨ d.bldState a = 8 then (d.bldS a).running
  else if 3 ≤ d.bldState a ∧ d.bldState a ≤ 6 then sgn (d.bldS a).target else 0

section
variable {d : Dev} {a : Nat} {target : Int} {rate : Nat}

theorem Dev.bldStart_off {runtime : Bool} (h0 : d.bldState a = 0) : d.bldStart a target rate runtime = (d.count F.BLD_REJECT.count, true) := by
  simp [Dev.bldStart, h0]

theorem Dev.bldStart_blocked {runtime : Bool} {c : Nat} (h0 : d.bldState a ≠ 0) (hAxis : (d.axis a).isSome = true) (hc : d.bldBlocked a = some c) :
    d.bldStart a target rate runtime = (d.bldRefuse a c, true) := by
  have hSome : d.axis a ≠ none := by rintro h; simp [h] at hAxis
  simp [Dev.bldStart, h0, hSome, hc]

variable (h0 : d.bldState a ≠ 0) (hAxis : (d.axis a).isSome = true) (hFree : d.bldBlocked a = none)

include h0 hAxis hFree

/-- A start that nothing blocks: against the axis's direction it is a reversal. -/
theorem Dev.bldStart_free : d.bldStart a target rate true =
    if d.heading a ≠ 0 ∧ sgn (d.clampTarget a target) ≠ d.heading a then
      if d.uni a = true then (d.bldRefuse a 2, true)
      else if d.bldState a = 7 ∨ d.bldState a = 8 then
        let e := d.putBld a { d.bldS a with target := 0, rate := rate, startDue := some (d.clampTarget a target, rate, true), startPer := true }
        (if d.bldState a = 7 then e.bldEnter a 8 else e, false)
      else (((d.putBld a { (d.bldS a).toward (d.clampTarget a target) rate with tries := 0 }).bldEnter a (d.bldIdleState a)).bldEnter a 3, false)
    else if d.bldState a = 7 ∨ d.bldState a = 8 then
      let e := d.putBld a ((d.bldS a).toward (d.clampTarget a target) rate)
      (if d.bldState a = 8 then e.bldEnter a 7 else e.modBld a fun x => { x with atN := 0 }, false)
    else if d.bldState a = 1 ∨ d.bldState a = 2 ∨ d.bldState a = 9 then
      ((d.putBld a { (d.bldS a).toward (d.clampTarget a target) rate with tries := 0, restartAt := 0 }).bldEnter a 3, false)
    else (d.putBld a ((d.bldS a).toward (d.clampTarget a target) rate), false) := by
  have hSome : d.axis a ≠ none := by rintro h; simp [h] at hAxis
  have hGuard : ¬ (decide (d.bldState a = 0) || (d.axis a).isNone) = true := by simp [h0, hSome]
  unfold Dev.bldStart Dev.heading
  dsimp only
  rw [if_neg hGuard, hFree]
  simp only [if_true, BldAx.toward, Bool.or_eq_true, Bool.and_eq_true, decide_eq_true_eq, ne_eq, or_assoc]
end

/-! ### A refused start (R271) -/

theorem refuse_ne_irq (a : Nat) : (R.BLD_AXa_REFUSE a).off ≠ (R.BLD_AXa_IRQ_STATUS a).off := by
  simp only [R.BLD_AXa_REFUSE, R.BLD_AXa_IRQ_STATUS]
  omega

theorem Dev.get_bldRefuse_ne (d : Dev) (a c : Nat) (g : Fld) (hr : g.reg.off ≠ (R.BLD_AXa_REFUSE a).off)
    (hi : g.reg.off ≠ (R.BLD_AXa_IRQ_STATUS a).off) (hp : g.reg.off ≠ R.MSIX_PBA.off) : (d.bldRefuse a c).get g = d.get g := by
  rw [Dev.bldRefuse, Dev.bldFlag, Dev.get_flag_ne _ _ _ _ _ _ hi hp, Dev.get_put_ne _ _ _ _ hr]

theorem Dev.code_bldRefuse (d : Dev) (a : Nat) {c : Nat} (hc : c < 256) : (d.bldRefuse a c).get (F.BLD_AXa_REFUSE.code a) = c := by
  rw [Dev.bldRefuse, Dev.bldFlag, Dev.get_flag_ne _ _ _ _ _ _ (refuse_ne_irq a), Dev.get_put_same _ _ _ rfl]
  · exact Nat.mod_eq_of_lt hc
  · simp only [F.BLD_AXa_REFUSE.code, R.BLD_AXa_REFUSE, R.MSIX_PBA]
    omega

theorem Dev.irq_bldRefuse (d : Dev) (a c : Nat) : bit ((d.bldRefuse a c).rd (R.BLD_AXa_IRQ_STATUS a)) 7 = true := by
  refine Dev.rd_flag_same _ _ _ _ _ ?_ ?_ ?_ <;> simp only [R.BLD_AXa_IRQ_STATUS, R.MSIX_PBA] <;> omega

@[simp] theorem Dev.bldState_bldRefuse (d : Dev) (a c b : Nat) : (d.bldRefuse a c).bldState b = d.bldState b := by
  refine Dev.get_bldRefuse_ne _ _ _ _ ?_ ?_ ?_ <;>
    simp only [F.BLD_AXa_STATUS.state, R.BLD_AXa_STATUS, R.BLD_AXa_REFUSE, R.BLD_AXa_IRQ_STATUS, R.MSIX_PBA] <;> omega

@[simp] theorem Dev.bldS_bldRefuse (d : Dev) (a c b : Nat) : (d.bldRefuse a c).bldS b = d.bldS b := by
  rw [Dev.bldRefuse, Dev.bldS_bldFlag, Dev.bldS_put]

theorem Frame.bldRefuse {ps : List Part} {d e : Dev} (h : Dev.Frame ps d e) (a c : Nat) (hr : Part.reg (R.BLD_AXa_REFUSE a).off ∈ ps)
    (hs : Part.reg (R.BLD_AXa_IRQ_STATUS a).off ∈ ps) (hi : ∀ p ∈ irqParts, p ∈ ps) : Dev.Frame ps d (e.bldRefuse a c) :=
  flag (put h _ _ hr) _ _ _ _ hs hi

/-! ### What an accepted start leaves (R271, R275) -/

theorem Dev.bldStartSpeed_refused {d e : Dev} {a : Nat} {target : Int} {rate : Nat} {runtime : Bool}
    (h : d.bldStart a target rate runtime = (e, true)) : d.bldStartSpeed a target rate runtime = (e, true) := by
  rw [Dev.bldStartSpeed, h]
  rfl

theorem Dev.bldStartSpeed_accepted {d e : Dev} {a : Nat} {target : Int} {rate : Nat} {runtime : Bool}
    (h : d.bldStart a target rate runtime = (e, false)) : d.bldStartSpeed a target rate runtime = (e.bldHoldMove a, false) := by
  rw [Dev.bldStartSpeed, h]
  rfl

section
variable {d : Dev} {a : Nat} {target : Int} {rate : Nat} (hAxis : (d.axis a).isSome = true) (hFree : d.bldBlocked a = none)

include hAxis hFree

/-- A start of an idle axis enters CATCH toward the clamped target. -/
theorem Dev.bldStartSpeed_idle (ha : a < 16) (hIdle : d.bldState a = 1 ∨ d.bldState a = 2) :
    ∃ e, d.bldStartSpeed a target rate true = (e, false) ∧ e.bldState a = 3 ∧ (e.bldS a).target = d.clampTarget a target ∧
      (e.bldS a).rate = rate ∧ (e.bldS a).runtime = true ∧ (e.bldS a).since = d.sys.now8 ∧ Dev.Frame (axParts a) d e := by
  have hHeading : d.heading a = 0 := by rw [Dev.heading, if_neg (by omega), if_neg (by omega)]
  have hStart := Dev.bldStart_free (target := target) (rate := rate) (by omega) hAxis hFree
  rw [if_neg (by simp [hHeading]), if_neg (by omega), if_pos (by omega)] at hStart
  refine ⟨_, Dev.bldStartSpeed_accepted hStart, ?_, ?_, ?_, ?_, ?_, Frame.bldHoldMove (Frame.bldEnter
    (Frame.putBld Frame.refl _ _ (by simp [axParts])) _ _ (fun _ hp => hp) fun hFault => ?_) _ (by simp [axParts]) (by simp [axParts])⟩
  · rw [Dev.bldState_bldHoldMove, Dev.bldState_bldEnter _ ha (by omega)]
  · rw [Dev.bldS_bldHoldMove]
    simp only [Dev.target_bldEnter, Dev.bldS_putBld, BldAx.toward]
  · rw [Dev.bldS_bldHoldMove]
    simp only [Dev.rate_bldEnter, Dev.bldS_putBld, BldAx.toward]
  · rw [Dev.bldS_bldHoldMove]
    simp only [Dev.runtime_bldEnter, Dev.bldS_putBld, BldAx.toward]
  · rw [Dev.bldS_bldHoldMove]
    simp only [Dev.since_bldEnter, Dev.sys_putBld]
  · simp only [Dev.bldState_putBld] at hFault
    omega

/-- A start in the direction an axis in RUN has changes its target alone. -/
theorem Dev.bldStartSpeed_onward (h7 : d.bldState a = 7)
    (hDir : (d.bldS a).running = 0 ∨ sgn (d.clampTarget a target) = (d.bldS a).running) :
    ∃ e, d.bldStartSpeed a target rate true = (e, false) ∧ e.bldState a = 7 ∧ (e.bldS a).target = d.clampTarget a target ∧
      (e.bldS a).atN = 0 ∧ (e.bldS a).moving = false ∧ Dev.Frame [Part.bld a, Part.reg (R.BLD_AXa_REMAIN a).off] d e := by
  have hHeading : d.heading a = (d.bldS a).running := by rw [Dev.heading, if_pos (.inl h7)]
  have hStart := Dev.bldStart_free (target := target) (rate := rate) (by omega) hAxis hFree
  rw [hHeading, if_neg (by tauto), if_pos (.inl h7)] at hStart
  dsimp only at hStart
  rw [if_neg (by omega)] at hStart
  refine ⟨_, Dev.bldStartSpeed_accepted hStart, ?_, ?_, ?_, ?_,
    Frame.bldHoldMove (Frame.modBld (Frame.putBld Frame.refl _ _ (by simp)) _ _ (by simp)) _ (by simp) (by simp)⟩
  · rw [Dev.bldState_bldHoldMove, Dev.bldState_modBld, Dev.bldState_putBld, h7]
  · rw [Dev.bldS_bldHoldMove]
    simp only [Dev.bldS_modBld, Dev.bldS_putBld, BldAx.toward]
  · rw [Dev.bldS_bldHoldMove]
    simp only [Dev.bldS_modBld]
  · rw [Dev.bldS_bldHoldMove]

/-- A start against the direction of a unidirectional axis is refused. -/
theorem Dev.bldStartSpeed_uni (h0 : d.bldState a ≠ 0) (hDir : d.heading a ≠ 0 ∧ sgn (d.clampTarget a target) ≠ d.heading a)
    (hUni : d.uni a = true) : d.bldStartSpeed a target rate true = (d.bldRefuse a 2, true) := by
  refine Dev.bldStartSpeed_refused ?_
  rw [Dev.bldStart_free h0 hAxis hFree, if_pos hDir, if_pos hUni]

/-- A start against the direction of an axis in RUN stops it first. -/
theorem Dev.bldStartSpeed_reversal (ha : a < 16) (h7 : d.bldState a = 7)
    (hDir : d.heading a ≠ 0 ∧ sgn (d.clampTarget a target) ≠ d.heading a) (hUni : d.uni a ≠ true) :
    ∃ e, d.bldStartSpeed a target rate true = (e, false) ∧ e.bldState a = 8 ∧ (e.bldS a).target = 0 ∧
      (e.bldS a).startDue = some (d.clampTarget a target, rate, true) ∧ Dev.Frame (axParts a) d e := by
  have hStart := Dev.bldStart_free (target := target) (rate := rate) (by omega) hAxis hFree
  rw [if_pos hDir, if_neg hUni, if_pos (.inl h7)] at hStart
  dsimp only at hStart
  rw [if_pos h7] at hStart
  refine ⟨_, Dev.bldStartSpeed_accepted hStart, ?_, ?_, ?_, Frame.bldHoldMove (Frame.bldEnter
    (Frame.putBld Frame.refl _ _ (by simp [axParts])) _ _ (fun _ hp => hp) fun hFault => ?_) _ (by simp [axParts]) (by simp [axParts])⟩
  · rw [Dev.bldState_bldHoldMove, Dev.bldState_bldEnter _ ha (by omega)]
  · rw [Dev.bldS_bldHoldMove]
    simp only [Dev.target_bldEnter, Dev.bldS_putBld]
  · rw [Dev.bldS_bldHoldMove]
    simp only [Dev.startDue_bldEnter, Dev.bldS_putBld]
  · simp only [Dev.bldState_putBld] at hFault
    omega

/-- A start against the direction an axis is being started in starts it afresh. -/
theorem Dev.bldStartSpeed_restart (ha : a < 16) (h36 : 3 ≤ d.bldState a ∧ d.bldState a ≤ 6)
    (hDir : d.heading a ≠ 0 ∧ sgn (d.clampTarget a target) ≠ d.heading a) (hUni : d.uni a ≠ true) :
    ∃ e, d.bldStartSpeed a target rate true = (e, false) ∧ e.bldState a = 3 ∧ (e.bldS a).target = d.clampTarget a target ∧
      (e.bldS a).tries = 0 ∧ Dev.Frame (axParts a) d e := by
  have hIdle := d.bldIdleState_lt a
  have hStart := Dev.bldStart_free (target := target) (rate := rate) (by omega) hAxis hFree
  rw [if_pos hDir, if_neg hUni, if_neg (by omega)] at hStart
  have hEnter : Dev.Frame (axParts a) d
      ((d.putBld a { (d.bldS a).toward (d.clampTarget a target) rate with tries := 0 }).bldEnter a (d.bldIdleState a)) := by
    refine Frame.bldEnter (Frame.putBld Frame.refl _ _ (by simp [axParts])) _ _ (fun _ hp => hp) fun hFault => ?_
    simp only [Dev.bldState_putBld] at hFault
    omega
  refine ⟨_, Dev.bldStartSpeed_accepted hStart, ?_, ?_, ?_, Frame.bldHoldMove (Frame.bldEnter hEnter _ _ (fun _ hp => hp)
    fun hFault => ?_) _ (by simp [axParts]) (by simp [axParts])⟩
  · rw [Dev.bldState_bldHoldMove, Dev.bldState_bldEnter _ ha (by omega)]
  · rw [Dev.bldS_bldHoldMove]
    simp only [Dev.target_bldEnter, Dev.bldS_putBld, BldAx.toward]
  · rw [Dev.bldS_bldHoldMove]
    simp only [Dev.tries_bldEnter, Dev.bldS_putBld]
  · rw [Dev.bldState_bldEnter _ ha (by omega)] at hFault
    omega
end

/-! ### The SETPOINT register (R274) -/

/-- The device once SETPOINT of axis a holds v. -/
def Dev.withSetpoint (d : Dev) (a v : Nat) : Dev := d.put (F.BLD_AXa_SETPOINT.speed a) v

section
variable (d : Dev) (a v : Nat)

theorem Dev.get_withSetpoint_ne (g : Fld) (hg : g.reg.off ≠ (R.BLD_AXa_SETPOINT a).off) : (d.withSetpoint a v).get g = d.get g :=
  Dev.get_put_ne _ _ _ _ hg

theorem Dev.rd_withSetpoint (hv : v < 2 ^ 32) : (d.withSetpoint a v).rd (R.BLD_AXa_SETPOINT a) = v := by
  have hWhole : (d.withSetpoint a v).rd (R.BLD_AXa_SETPOINT a) = bits (putBits (d.rd (R.BLD_AXa_SETPOINT a)) 31 0 v) 31 0 :=
    (Dev.rd_wr_same _ _ _).trans (Nat.mod_eq_of_lt (lt_trans (Nat.mod_lt _ (by positivity)) (by norm_num [F.BLD_AXa_SETPOINT.speed, R.BLD_AXa_SETPOINT])))
  rw [hWhole, bits_putBits_same _ _ _ _ (by omega)]
  exact Nat.mod_eq_of_lt hv

@[simp] theorem Dev.bldS_withSetpoint (b : Nat) : (d.withSetpoint a v).bldS b = d.bldS b := Dev.bldS_put _ _ _ _
@[simp] theorem Dev.sys_withSetpoint : (d.withSetpoint a v).sys = d.sys := Dev.put_sys _ _ _
@[simp] theorem Dev.axis_withSetpoint (b : Nat) : (d.withSetpoint a v).axis b = d.axis b := by rw [Dev.axis, Dev.axis, Dev.withSetpoint, Dev.put_frd]

@[simp] theorem Dev.bldState_withSetpoint (b : Nat) : (d.withSetpoint a v).bldState b = d.bldState b := by
  refine Dev.get_withSetpoint_ne _ _ _ _ ?_
  simp only [F.BLD_AXa_STATUS.state, R.BLD_AXa_STATUS, R.BLD_AXa_SETPOINT]
  omega

@[simp] theorem Dev.rates_withSetpoint : (d.withSetpoint a v).get (F.BLD_AXa_RATES.accel a) = d.get (F.BLD_AXa_RATES.accel a) ∧
    (d.withSetpoint a v).get (F.BLD_AXa_RATES.stop_rate a) = d.get (F.BLD_AXa_RATES.stop_rate a) := by
  constructor <;> refine Dev.get_withSetpoint_ne _ _ _ _ ?_ <;>
    simp only [F.BLD_AXa_RATES.accel, F.BLD_AXa_RATES.stop_rate, R.BLD_AXa_RATES, R.BLD_AXa_SETPOINT] <;> omega

@[simp] theorem Dev.idled_withSetpoint : (d.withSetpoint a v).idled = d.idled := by
  have h : (d.withSetpoint a v).get F.SYS_HOST_STATE.state = d.get F.SYS_HOST_STATE.state := by
    refine Dev.get_withSetpoint_ne _ _ _ _ ?_
    simp only [F.SYS_HOST_STATE.state, R.SYS_HOST_STATE, R.BLD_AXa_SETPOINT]
    omega
  rw [Dev.idled, Dev.idled, h]

@[simp] theorem Dev.clampTarget_withSetpoint (b : Nat) (t : Int) : (d.withSetpoint a v).clampTarget b t = d.clampTarget b t := by
  rw [Dev.clampTarget, Dev.clampTarget, Dev.axis_withSetpoint]

@[simp] theorem Dev.uni_withSetpoint (b : Nat) : (d.withSetpoint a v).uni b = d.uni b := by
  rw [Dev.uni, Dev.uni, Dev.axis_withSetpoint]

@[simp] theorem Dev.bldIdleState_withSetpoint (b : Nat) : (d.withSetpoint a v).bldIdleState b = d.bldIdleState b := by
  rw [Dev.bldIdleState, Dev.bldIdleState, Dev.axis_withSetpoint]

@[simp] theorem Dev.busCut_withSetpoint (b : Nat) : (d.withSetpoint a v).busCut b = d.busCut b := by
  rw [Dev.busCut, Dev.busCut, Dev.axis_withSetpoint]
  split
  case h_1 c _ =>
    by_cases hBus : c.dcBus < 2
    · rw [Dev.on, Dev.get_withSetpoint_ne, Dev.on]
      simp only [F.BLD_DCBm_STATUS.latched, R.BLD_DCBm_STATUS, R.BLD_AXa_SETPOINT]
      omega
    · simp [hBus]
  case h_2 => rfl

@[simp] theorem Dev.bldBlocked_withSetpoint (b : Nat) : (d.withSetpoint a v).bldBlocked b = d.bldBlocked b := by
  rw [Dev.bldBlocked, Dev.bldBlocked, Dev.bldState_withSetpoint, Dev.busCut_withSetpoint, Dev.sys_withSetpoint, Dev.ga, Dev.withSetpoint, Dev.act_put, Dev.ga]

@[simp] theorem Dev.heading_withSetpoint (b : Nat) : (d.withSetpoint a v).heading b = d.heading b := by
  rw [Dev.heading, Dev.heading, Dev.bldState_withSetpoint, Dev.bldS_withSetpoint]

@[simp] theorem Dev.stopState_withSetpoint (b : Nat) : (d.withSetpoint a v).stopState b = d.stopState b := by
  rw [Dev.stopState, Dev.stopState, Dev.bldState_withSetpoint, Dev.bldS_withSetpoint, Dev.bldIdleState_withSetpoint]

theorem Frame.withSetpoint : Dev.Frame [Part.reg (R.BLD_AXa_SETPOINT a).off] d (d.withSetpoint a v) := put refl _ _ (by simp [F.BLD_AXa_SETPOINT.speed])

/-- What follows the write of SETPOINT adds its frame to it. -/
theorem Frame.of_withSetpoint {ps : List Part} {e : Dev} (h : Dev.Frame ps (d.withSetpoint a v) e) :
    Dev.Frame ([Part.reg (R.BLD_AXa_SETPOINT a).off] ++ ps) d e :=
  trans (mono (withSetpoint d a v) fun _ hp => List.mem_append_left _ hp) (mono h fun _ hp => List.mem_append_right _ hp)

variable {d a v} (hIdled : d.idled = false)

include hIdled

/-- A SETPOINT of zero is a stop (R274). -/
theorem Dev.bldSetpoint_zero (hv : sext 32 v = 0) : d.bldSetpoint a v = (d.withSetpoint a v).bldStop a := by
  have h : (d.withSetpoint a v).idled = false := by rw [Dev.idled_withSetpoint, hIdled]
  exact (if_neg (by rw [← Dev.withSetpoint, h]; simp)).trans (if_pos hv)

/-- A SETPOINT that is not zero is a start (R274). -/
theorem Dev.bldSetpoint_start (hv : sext 32 v ≠ 0) : d.bldSetpoint a v =
    ((d.withSetpoint a v).bldStartSpeed a (sext 32 v) (d.get (F.BLD_AXa_RATES.accel a)) true).1 := by
  have h : (d.withSetpoint a v).idled = false := by rw [Dev.idled_withSetpoint, hIdled]
  rw [← (d.rates_withSetpoint a v).1]
  exact (if_neg (by rw [← Dev.withSetpoint, h]; simp)).trans (if_neg hv)
end

/-- SETPOINT is no register that a start or a stop of an axis changes. -/
theorem setpoint_not_mem_axParts (a : Nat) (ha : a < 16) : Part.reg (R.BLD_AXa_SETPOINT a).off ∉ axParts a := by
  simp [axParts, gateAllParts, gateParts, irqParts, R.BLD_AXa_SETPOINT, R.BLD_AXa_STATUS, R.BLD_AXa_IRQ_STATUS, R.BLD_AXa_REMAIN,
    R.CHn_FGT_STATUS, R.CHn_FGT_COUNTS, R.CHn_FGT_IRQ_STATUS, R.MSIX_PBA]
  exact fun n _ => by omega

/-- In the host states that idle the engine SETPOINT keeps its value for later; an axis that is OFF counts it (R72, R274). -/
theorem Dev.bldSetpoint_idled {d : Dev} {a v : Nat} (hIdled : d.idled = true) :
    d.bldSetpoint a v = if d.bldState a = 0 then (d.withSetpoint a v).count F.BLD_REJECT.count else d.withSetpoint a v := by
  have h : (d.withSetpoint a v).idled = true := by rw [Dev.idled_withSetpoint, hIdled]
  rw [← Dev.bldState_withSetpoint d a v a]
  have hEq : d.bldSetpoint a v = (d.withSetpoint a v).when (decide ((d.withSetpoint a v).bldState a = 0)) (·.count F.BLD_REJECT.count) :=
    if_pos (by rw [← Dev.withSetpoint, h])
  rw [hEq, Dev.when]
  simp only [decide_eq_true_eq]

end Sys2Proof.Machine
end

section
/-! SUPPORT. Set-points, SPEED_SET and the commands of a brushless axis: what R271 and R274 say of them. -/
open Sys2Proof Sys2Proof.Machine Sys2Proof.Claims
namespace Sys2Proof.Proofs

theorem sgn_eq_zero {x : Int} : sgn x = 0 ↔ x = 0 := by
  constructor
  · intro h
    unfold sgn at h
    split_ifs at h <;> omega
  · rintro rfl
    rfl

/-! ### Commands at one axis (R271, R274) -/

section
variable {s : State} {a : Fin 16} {P : State → Prop}

theorem completes_setpointWrite {v : Word32} (hDirect : s.dev.direct (R.BLD_AXa_SETPOINT a).off)
    (h : P { s with dev := s.dev.bldSetpoint a v.toNat }) : Completes (exec (.setpointWrite a v) s) P :=
  completes_onDev (fun d => d.agree (R.BLD_AXa_SETPOINT a) v.toNat (·.bldSetpoint a v.toNat)) rfl
    (by rw [Dev.agree_direct _ _ _ _ hDirect]; exact h)

theorem completes_bldEnable (hDirect : s.dev.direct (R.BLD_AXa_CMD a).off) (h : P { s with dev := s.dev.bldEnable a }) :
    Completes (exec (.bldEnable a) s) P :=
  completes_onDev (fun d => d.agree (R.BLD_AXa_CMD a) 2 (·.bldEnable a)) rfl (by rw [Dev.agree_direct _ _ _ _ hDirect]; exact h)

theorem completes_bldDisable (hDirect : s.dev.direct (R.BLD_AXa_CMD a).off) (h : P { s with dev := s.dev.bldDisable a }) :
    Completes (exec (.bldDisable a) s) P :=
  completes_onDev (fun d => d.agree (R.BLD_AXa_CMD a) 1 (·.bldDisable a)) rfl (by rw [Dev.agree_direct _ _ _ _ hDirect]; exact h)

theorem completes_bldClearFault (hDirect : s.dev.direct (R.BLD_AXa_CMD a).off) (h : P { s with dev := s.dev.bldClearFault a }) :
    Completes (exec (.bldClearFault a) s) P :=
  completes_onDev (fun d => d.agree (R.BLD_AXa_CMD a) 4 (·.bldClearFault a)) rfl (by rw [Dev.agree_direct _ _ _ _ hDirect]; exact h)
end

/-! ### The clauses of R271 and R274, on the device -/

section
variable {d : Dev} {a : Nat} {v : Nat}

/-- A command at an axis in the wrong state counts a reject and changes nothing else. -/
theorem rejects_count {ps : List Part} {d e : Dev} (h : Dev.Frame ps d e) (hc : Part.reg R.BLD_REJECT.off ∉ ps) :
    (e.count F.BLD_REJECT.count).get F.BLD_REJECT.count = min (d.get F.BLD_REJECT.count + 1) (2 ^ 16 - 1) ∧
      Dev.Frame (ps ++ [Part.reg R.BLD_REJECT.off]) d (e.count F.BLD_REJECT.count) := by
  refine ⟨?_, Frame.count (Frame.mono h fun _ hp => List.mem_append_left _ hp) F.BLD_REJECT.count _ (by simp [F.BLD_REJECT.count])⟩
  rw [Dev.get_count_same _ _ _ rfl, Frame.get h F.BLD_REJECT.count hc]
  rfl

theorem reject_not_mem_setpoint (a : Nat) : Part.reg R.BLD_REJECT.off ∉ [Part.reg (R.BLD_AXa_SETPOINT a).off] := by
  simp [R.BLD_REJECT, R.BLD_AXa_SETPOINT]
  omega

/-- The frame of a refused command. -/
def refuseParts (a : Nat) : List Part := [Part.reg (R.BLD_AXa_REFUSE a).off, Part.reg (R.BLD_AXa_IRQ_STATUS a).off] ++ irqParts

/-- A refused set-point leaves its code and its interrupt bit, and the axis as it was. -/
theorem refused_setpoint (s : State) (a v : Nat) {c : Nat} (hc : c < 256) :
    let t : State := { s with dev := (s.dev.withSetpoint a v).bldRefuse a c }
    axRefused s t a c ∧ t.dev.bldS a = s.dev.bldS a ∧
      s.Frame ([Part.reg (R.BLD_AXa_SETPOINT a).off, Part.reg (R.BLD_AXa_REFUSE a).off, Part.reg (R.BLD_AXa_IRQ_STATUS a).off] ++ irqParts) t := by
  refine ⟨⟨Dev.code_bldRefuse _ _ hc, Dev.irq_bldRefuse _ _ _, by simp⟩, by simp, Frame.ofDev ?_⟩
  exact Frame.of_withSetpoint _ _ _ (Frame.bldRefuse (ps := refuseParts a) Frame.refl a c (by simp [refuseParts]) (by simp [refuseParts])
    fun p hp => by simp [refuseParts, hp])

end

section
variable (s : State) (a : Fin 16) (v : Word32)

theorem setpoint_idled (hIdled : s.dev.idled = true) (hDirect : s.dev.direct (R.BLD_AXa_SETPOINT a).off) :
    Completes (exec (.setpointWrite a v) s) fun t =>
      t.dev.rd (R.BLD_AXa_SETPOINT a) = v.toNat ∧ t.dev.bldS a = s.dev.bldS a ∧ t.dev.bldState a = s.dev.bldState a ∧
      (if s.dev.bldState a = 0 then t.dev.get F.BLD_REJECT.count = min (s.dev.get F.BLD_REJECT.count + 1) (2 ^ 16 - 1) ∧
          s.Frame [Part.reg (R.BLD_AXa_SETPOINT a).off, Part.reg R.BLD_REJECT.off] t
        else s.Frame [Part.reg (R.BLD_AXa_SETPOINT a).off] t) := by
  refine completes_setpointWrite hDirect ?_
  rw [Dev.bldSetpoint_idled hIdled]
  have hRd := s.dev.rd_withSetpoint a v.toNat v.isLt
  have hFrame := Frame.withSetpoint s.dev a v.toNat
  by_cases h0 : s.dev.bldState a = 0
  · have hState : ((s.dev.withSetpoint a v.toNat).count F.BLD_REJECT.count).bldState a = s.dev.bldState a := by
      rw [← s.dev.bldState_withSetpoint a v.toNat a]
      refine Dev.get_put_ne _ _ _ _ ?_
      simp only [F.BLD_AXa_STATUS.state, F.BLD_REJECT.count, R.BLD_AXa_STATUS, R.BLD_REJECT]
      omega
    have hKept : ((s.dev.withSetpoint a v.toNat).count F.BLD_REJECT.count).rd (R.BLD_AXa_SETPOINT a) = v.toNat := by
      refine (Dev.rd_put_ne _ _ _ _ ?_).trans hRd
      simp only [F.BLD_REJECT.count, R.BLD_AXa_SETPOINT, R.BLD_REJECT]
      omega
    rw [if_pos h0, if_pos h0]
    obtain ⟨hCount, hCounted⟩ := rejects_count hFrame (reject_not_mem_setpoint a)
    exact ⟨hKept, by simp, hState, hCount, Frame.ofDev hCounted⟩
  · rw [if_neg h0, if_neg h0]
    exact ⟨hRd, by simp, by simp, Frame.ofDev hFrame⟩

section
variable (hIdled : s.dev.idled = false) (hDirect : s.dev.direct (R.BLD_AXa_SETPOINT a).off) (hv : sext 32 v.toNat ≠ 0)

include hIdled hDirect hv

/-- A set-point that starts an axis does what the start does, with SETPOINT written. -/
theorem completes_setpoint_start {P : State → Prop} {e : Dev} {no : Bool}
    (h : (s.dev.withSetpoint a v.toNat).bldStartSpeed a (sext 32 v.toNat) (s.dev.get (F.BLD_AXa_RATES.accel a)) true = (e, no))
    (hp : P { s with dev := e }) : Completes (exec (.setpointWrite a v) s) P := by
  refine completes_setpointWrite hDirect ?_
  rw [Dev.bldSetpoint_start hIdled hv, h]
  exact hp

variable (hAxis : (s.dev.axis a).isSome = true)

include hAxis

theorem setpoint_turned (hBlocked : s.dev.bldState a = 0 ∨ (s.dev.bldBlocked a).isSome = true) :
    Completes (exec (.setpointWrite a v) s) fun t =>
      if s.dev.bldState a = 0 then t.dev.get F.BLD_REJECT.count = min (s.dev.get F.BLD_REJECT.count + 1) (2 ^ 16 - 1) ∧
        s.Frame [Part.reg (R.BLD_AXa_SETPOINT a).off, Part.reg R.BLD_REJECT.off] t
      else axRefused s t a (if s.dev.bldState a = 10 then 4 else if s.dev.busCut a = true ∨ s.dev.sys.cut = true then 3 else 6) ∧
        s.Frame ([Part.reg (R.BLD_AXa_SETPOINT a).off, Part.reg (R.BLD_AXa_REFUSE a).off, Part.reg (R.BLD_AXa_IRQ_STATUS a).off] ++ irqParts) t := by
  by_cases h0 : s.dev.bldState a = 0
  · refine completes_setpoint_start s a v hIdled hDirect hv (Dev.bldStartSpeed_refused (Dev.bldStart_off (by simpa using h0))) ?_
    rw [if_pos h0]
    obtain ⟨hCount, hCounted⟩ := rejects_count (Frame.withSetpoint s.dev a v.toNat) (reject_not_mem_setpoint a)
    exact ⟨hCount, Frame.ofDev hCounted⟩
  obtain ⟨c, hc⟩ := Option.isSome_iff_exists.1 (hBlocked.resolve_left h0)
  have hCode : c = if s.dev.bldState a = 10 then 4 else if s.dev.busCut a = true ∨ s.dev.sys.cut = true then 3 else 6 := by
    unfold Dev.bldBlocked at hc
    simp only [Bool.or_eq_true] at hc
    split_ifs at hc ⊢ <;> simp_all
  refine completes_setpoint_start s a v hIdled hDirect hv (Dev.bldStartSpeed_refused (Dev.bldStart_blocked (by simpa using h0)
    (by simpa using hAxis) (by simpa using hc))) ?_
  rw [if_neg h0, ← hCode]
  obtain ⟨hRefused, -, hFrame⟩ := refused_setpoint s a v.toNat (c := c) (by rw [hCode]; split_ifs <;> omega)
  exact ⟨hRefused, hFrame⟩

variable (hFree : s.dev.bldBlocked a = none)

include hFree

theorem setpoint_start (hIdle : s.dev.bldState a = 1 ∨ s.dev.bldState a = 2) :
    Completes (exec (.setpointWrite a v) s) fun t =>
      t.dev.rd (R.BLD_AXa_SETPOINT a) = v.toNat ∧ t.dev.bldState a = 3 ∧ (t.dev.bldS a).target = s.dev.clampTarget a (sext 32 v.toNat) ∧
      (t.dev.bldS a).rate = s.dev.get (F.BLD_AXa_RATES.accel a) ∧ (t.dev.bldS a).runtime = true ∧
      (t.dev.bldS a).since = s.dev.sys.now8 ∧ s.Frame ([Part.reg (R.BLD_AXa_SETPOINT a).off] ++ axParts a) t := by
  obtain ⟨e, hStart, hState, hTarget, hRate, hRuntime, hSince, hFrame⟩ := Dev.bldStartSpeed_idle (d := s.dev.withSetpoint a v.toNat)
    (target := sext 32 v.toNat) (rate := s.dev.get (F.BLD_AXa_RATES.accel a)) (by simpa using hAxis) (by simpa using hFree) a.isLt (by simpa using hIdle)
  refine completes_setpoint_start s a v hIdled hDirect hv hStart ⟨?_, hState, by simpa using hTarget, hRate, hRuntime,
    by simpa using hSince, Frame.ofDev (Frame.of_withSetpoint _ _ _ hFrame)⟩
  exact (Frame.rd hFrame _ (setpoint_not_mem_axParts a a.isLt)).trans (Dev.rd_withSetpoint _ _ _ v.isLt)

theorem setpoint_run (h7 : s.dev.bldState a = 7) :
    Completes (exec (.setpointWrite a v) s) fun t =>
      let tg := s.dev.clampTarget a (sext 32 v.toNat)
      if (s.dev.bldS a).running = 0 ∨ sgn tg = (s.dev.bldS a).running then
        t.dev.bldState a = 7 ∧ (t.dev.bldS a).target = tg ∧ (t.dev.bldS a).atN = 0 ∧ (t.dev.bldS a).moving = false ∧
          s.Frame [Part.bld a, Part.reg (R.BLD_AXa_SETPOINT a).off, Part.reg (R.BLD_AXa_REMAIN a).off] t
      else if s.dev.uni a = true then axRefused s t a 2 ∧ t.dev.bldS a = s.dev.bldS a ∧
        s.Frame ([Part.reg (R.BLD_AXa_SETPOINT a).off, Part.reg (R.BLD_AXa_REFUSE a).off, Part.reg (R.BLD_AXa_IRQ_STATUS a).off] ++ irqParts) t
      else t.dev.bldState a = 8 ∧ (t.dev.bldS a).target = 0 ∧
        (t.dev.bldS a).startDue = some (tg, s.dev.get (F.BLD_AXa_RATES.accel a), true) ∧
        s.Frame ([Part.reg (R.BLD_AXa_SETPOINT a).off] ++ axParts a) t := by
  have hAxis' : ((s.dev.withSetpoint a v.toNat).axis a).isSome = true := by simpa using hAxis
  have hFree' : (s.dev.withSetpoint a v.toNat).bldBlocked a = none := by simpa using hFree
  have h7' : (s.dev.withSetpoint a v.toNat).bldState a = 7 := by simpa using h7
  by_cases hDir : (s.dev.bldS a).running = 0 ∨ sgn (s.dev.clampTarget a (sext 32 v.toNat)) = (s.dev.bldS a).running
  · obtain ⟨e, hStart, hState, hTarget, hAt, hMoving, hFrame⟩ := Dev.bldStartSpeed_onward (target := sext 32 v.toNat)
      (rate := s.dev.get (F.BLD_AXa_RATES.accel a)) hAxis' hFree' h7' (by simpa using hDir)
    refine completes_setpoint_start s a v hIdled hDirect hv hStart ?_
    dsimp only
    rw [if_pos hDir]
    exact ⟨hState, by simpa using hTarget, hAt, hMoving,
      Frame.ofDev (Frame.mono (Frame.of_withSetpoint _ _ _ hFrame) fun p hp => by simp at hp ⊢; tauto)⟩
  have hReversal : (s.dev.withSetpoint a v.toNat).heading a ≠ 0 ∧
      sgn ((s.dev.withSetpoint a v.toNat).clampTarget a (sext 32 v.toNat)) ≠ (s.dev.withSetpoint a v.toNat).heading a := by
    have hHeading : s.dev.heading a = (s.dev.bldS a).running := by rw [Dev.heading, if_pos (.inl h7)]
    rw [Dev.heading_withSetpoint, Dev.clampTarget_withSetpoint, hHeading]
    exact not_or.1 hDir
  by_cases hUni : s.dev.uni a = true
  · refine completes_setpoint_start s a v hIdled hDirect hv (Dev.bldStartSpeed_uni hAxis' hFree' (by omega) hReversal (by simpa using hUni)) ?_
    dsimp only
    rw [if_neg hDir, if_pos hUni]
    exact refused_setpoint s a v.toNat (by omega)
  · obtain ⟨e, hStart, hState, hTarget, hDue, hFrame⟩ := Dev.bldStartSpeed_reversal (rate := s.dev.get (F.BLD_AXa_RATES.accel a))
      hAxis' hFree' a.isLt h7' hReversal (by simpa using hUni)
    refine completes_setpoint_start s a v hIdled hDirect hv hStart ?_
    dsimp only
    rw [if_neg hDir, if_neg hUni]
    exact ⟨hState, hTarget, by simpa using hDue, Frame.ofDev (Frame.of_withSetpoint _ _ _ hFrame)⟩

theorem setpoint_starting (h36 : 3 ≤ s.dev.bldState a ∧ s.dev.bldState a ≤ 6) (hTarget0 : (s.dev.bldS a).target ≠ 0)
    (hDir : sgn (s.dev.clampTarget a (sext 32 v.toNat)) ≠ sgn (s.dev.bldS a).target) :
    Completes (exec (.setpointWrite a v) s) fun t =>
      if s.dev.uni a = true then axRefused s t a 2 ∧ t.dev.bldS a = s.dev.bldS a ∧
        s.Frame ([Part.reg (R.BLD_AXa_SETPOINT a).off, Part.reg (R.BLD_AXa_REFUSE a).off, Part.reg (R.BLD_AXa_IRQ_STATUS a).off] ++ irqParts) t
      else t.dev.bldState a = 3 ∧ (t.dev.bldS a).target = s.dev.clampTarget a (sext 32 v.toNat) ∧ (t.dev.bldS a).tries = 0 ∧
        s.Frame ([Part.reg (R.BLD_AXa_SETPOINT a).off] ++ axParts a) t := by
  have hAxis' : ((s.dev.withSetpoint a v.toNat).axis a).isSome = true := by simpa using hAxis
  have hFree' : (s.dev.withSetpoint a v.toNat).bldBlocked a = none := by simpa using hFree
  have h36' : 3 ≤ (s.dev.withSetpoint a v.toNat).bldState a ∧ (s.dev.withSetpoint a v.toNat).bldState a ≤ 6 := by simpa using h36
  have hReversal : (s.dev.withSetpoint a v.toNat).heading a ≠ 0 ∧
      sgn ((s.dev.withSetpoint a v.toNat).clampTarget a (sext 32 v.toNat)) ≠ (s.dev.withSetpoint a v.toNat).heading a := by
    have hHeading : s.dev.heading a = sgn (s.dev.bldS a).target := by rw [Dev.heading, if_neg (by omega), if_pos h36]
    rw [Dev.heading_withSetpoint, Dev.clampTarget_withSetpoint, hHeading]
    exact ⟨mt sgn_eq_zero.1 hTarget0, hDir⟩
  by_cases hUni : s.dev.uni a = true
  · refine completes_setpoint_start s a v hIdled hDirect hv (Dev.bldStartSpeed_uni hAxis' hFree' (by omega) hReversal (by simpa using hUni)) ?_
    rw [if_pos hUni]
    exact refused_setpoint s a v.toNat (by omega)
  · obtain ⟨e, hStart, hState, hTarget, hTries, hFrame⟩ := Dev.bldStartSpeed_restart (rate := s.dev.get (F.BLD_AXa_RATES.accel a))
      hAxis' hFree' a.isLt h36' hReversal (by simpa using hUni)
    refine completes_setpoint_start s a v hIdled hDirect hv hStart ?_
    rw [if_neg hUni]
    exact ⟨hState, by simpa using hTarget, hTries, Frame.ofDev (Frame.of_withSetpoint _ _ _ hFrame)⟩
end

end

/-! ### SPEED_SET at its target (R83, R274) -/

section
variable {d e : Dev} {f : Firing} {code : Nat}

/-- The device after the record of a firing, counted where it came late (R86, R88). -/
def recordFiring (e : Dev) (code : Nat) (f : Firing) (refused : Bool) : Dev :=
  if f.late = true then (e.tally (firingRec code f refused)).evtLate else e.tally (firingRec code f refused)

/-- A firing that its target accepts leaves its record. -/
theorem deliver_accepted (hHit : d.action code f = (e, false)) : d.deliver code f false false = recordFiring e code f false := by
  unfold Dev.deliver
  simp only [Bool.false_eq_true, if_false, hHit]
  rfl

/-- A firing with no sheet that its target refuses leaves its record, the flag and the report (R83, R488). -/
theorem deliver_refused (hHit : d.action code f = (e, true)) (hTag : f.tag = 0) :
    ∃ d0 d1, d.deliver code f false false = ((recordFiring e code f true).evtFlag 2).report 22 d0 d1 := by
  refine ⟨0x01 <<< 24 + f.idx, b2n true * 2 ^ 18 + b2n f.enc * 2 ^ 17 + b2n f.late * 2 ^ 16 + f.arg, ?_⟩
  unfold Dev.deliver
  simp only [Bool.false_eq_true, if_false, if_true, hHit, Dev.refusedListed, Dev.descOf, hTag]
  simp only [recordFiring, firingRec, hTag]

theorem action_speedSet (hHit : d.actionHit 4 f.target = false) : d.action 4 f = d.bldSpeedSet f.target f.arg := by
  simp [Dev.action, hHit]

theorem rd_evtLate_ne (r : Reg) (h0 : r.off ≠ R.EVT_STATUS.off) (h1 : r.off ≠ R.MSIX_PBA.off) (h2 : r.off ≠ R.EVT_LATE_COUNT.off) :
    d.evtLate.rd r = d.rd r := by
  rw [Dev.evtLate, Dev.rd_evtFlag_ne _ _ _ h0 h1]
  exact Dev.rd_put_ne _ _ _ _ h2

/-- Recording a firing touches no register of an axis. -/
theorem rd_recordFiring (refused : Bool) {r : Reg} (hr : 0x80000 ≤ r.off) : (recordFiring e code f refused).rd r = e.rd r := by
  unfold recordFiring
  split_ifs
  · rw [rd_evtLate_ne, Dev.rd_tally] <;> simp only [R.EVT_STATUS, R.MSIX_PBA, R.EVT_LATE_COUNT] <;> omega
  · exact Dev.rd_tally _ _ _

theorem get_recordFiring (refused : Bool) {g : Fld} (hg : 0x80000 ≤ g.reg.off) : (recordFiring e code f refused).get g = e.get g := by
  rw [Dev.get, rd_recordFiring refused hg, Dev.get]

theorem bldS_recordFiring (refused : Bool) (a : Nat) : (recordFiring e code f refused).bldS a = e.bldS a := by
  unfold recordFiring Dev.evtLate
  split_ifs <;> simp [Dev.bldS]

theorem recs_recordFiring (refused : Bool) :
    (recordFiring e code f refused).evt.recs = e.evt.recs ++ [(e.slot, firingRec code f refused)] := by
  unfold recordFiring Dev.evtLate
  split_ifs <;> simp

theorem frame_recordFiring {ps : List Part} (h : Dev.Frame ps d e) (refused : Bool) (hp : ∀ p ∈ firingParts f, p ∈ ps) :
    Dev.Frame ps d (recordFiring e code f refused) := by
  have hRecs : Part.recs ∈ ps := hp _ (by simp [firingParts])
  unfold recordFiring
  split_ifs with hLate
  · have hIrq : ∀ p ∈ irqParts, p ∈ ps := fun p m => hp p (by simp [firingParts, hLate, m])
    exact Frame.evtFlag (Frame.count (Frame.tally h _ hRecs) F.EVT_LATE_COUNT.count _ (hp _ (by simp [firingParts, hLate, F.EVT_LATE_COUNT.count]))) _
      (hp _ (by simp [firingParts, hLate])) hIrq
  · exact Frame.tally h _ hRecs

/-- A frame without the clock registers keeps the slot. -/
theorem slot_of_frame {ps : List Part} (h : Dev.Frame ps d e) (ht : Part.reg R.EVT_TIME.off ∉ ps) : e.slot = d.slot := by
  rw [Dev.slot, Dev.slot, Dev.now, Dev.now, Frame.rd h _ ht]

end

theorem speedSet_starts (s : State) (f : Firing) (hIdled : s.dev.idled = false) (hHit : s.dev.actionHit 4 f.target = false)
    (hf : f.target < 16 ∧ f.arg < 16) (hIdle : s.dev.bldState f.target = 1 ∨ s.dev.bldState f.target = 2)
    (hFree : s.dev.bldBlocked f.target = none) (hAxis : (s.dev.axis f.target).isSome = true)
    (hRec : s.dev.rd (R.BLD_AXa_SRECr f.target f.arg) < 2 ^ 48) (hv : sext 32 (s.dev.get (F.BLD_AXa_SRECr.speed f.target f.arg)) ≠ 0) :
    Completes (exec (.speedSet f) s) fun t =>
      t.dev.bldState f.target = 3 ∧
      (t.dev.bldS f.target).target = s.dev.clampTarget f.target (sext 32 (s.dev.get (F.BLD_AXa_SRECr.speed f.target f.arg))) ∧
      (t.dev.bldS f.target).rate = max 1 (s.dev.get (F.BLD_AXa_SRECr.accel f.target f.arg)) ∧ (t.dev.bldS f.target).runtime = true ∧
      fired s t 4 f false ∧ s.Frame (firingParts f ++ axParts f.target) t := by
  obtain ⟨e, hStart, hState, hTarget, hRate, hRuntime, -, hFrame⟩ := Dev.bldStartSpeed_idle
    (target := sext 32 (s.dev.get (F.BLD_AXa_SRECr.speed f.target f.arg))) (rate := max 1 (s.dev.get (F.BLD_AXa_SRECr.accel f.target f.arg)))
    hAxis hFree hf.1 hIdle
  have hSet : s.dev.action 4 f = (e, false) := by
    rw [action_speedSet hHit, Dev.bldSpeedSet, if_neg (by simp [hIdled]; omega), if_neg (by simp; omega)]
    dsimp only
    rw [if_neg hv, hStart]
  refine completes_onDev (·.deliver 4 f false false) rfl ?_
  rw [deliver_accepted hSet]
  refine ⟨?_, ?_, ?_, ?_, ?_, Frame.ofDev (frame_recordFiring (Frame.mono hFrame fun p hp => List.mem_append_right _ hp) _
    fun p hp => List.mem_append_left _ hp)⟩
  · rw [Dev.bldState, get_recordFiring _ (by simp only [F.BLD_AXa_STATUS.state, R.BLD_AXa_STATUS]; omega)]
    exact hState
  · rw [bldS_recordFiring, hTarget]
  · rw [bldS_recordFiring, hRate]
  · rw [bldS_recordFiring, hRuntime]
  · have hSlot : e.slot = s.dev.slot := slot_of_frame hFrame (reg_not_mem_axParts hf.1 (by decide) (.inl (by decide)))
    have hRecs : e.evt.recs = s.dev.evt.recs := hFrame .recs (by simp [axParts, gateAllParts, gateParts, irqParts])
    rw [fired, recs_recordFiring, hSlot, hRecs]

/-- Where SPEED_SET is turned away: the axis is OFF or held, or its record is none (R274). -/
theorem bldSpeedSet_turned {d : Dev} {a r : Nat}
    (h : d.bldState a = 0 ∨ d.idled = true ∨ 16 ≤ r ∨ 2 ^ 48 ≤ d.rd (R.BLD_AXa_SRECr a r)) :
    d.bldSpeedSet a r = (if d.bldState a = 0 ∨ d.idled = true then d.count F.BLD_REJECT.count else d.bldRefuse a 5, true) := by
  by_cases hOff : d.bldState a = 0 ∨ d.idled = true
  · rw [if_pos hOff]
    exact if_pos (by simpa using hOff)
  · have hNone : 16 ≤ r ∨ d.rd (R.BLD_AXa_SRECr a r) / 2 ^ 48 ≠ 0 := by
      rw [← or_assoc] at h
      have := h.resolve_left hOff
      omega
    rw [if_neg hOff]
    exact (if_neg (by simpa using hOff)).trans (if_pos (by simpa using hNone))

theorem speedSet_turned (s : State) (f : Firing) (hHit : s.dev.actionHit 4 f.target = false) (hf : f.late = false ∧ f.tag = 0)
    (hWhy : s.dev.bldState f.target = 0 ∨ s.dev.idled = true ∨ 16 ≤ f.arg ∨ 2 ^ 48 ≤ s.dev.rd (R.BLD_AXa_SRECr f.target f.arg)) :
    Completes (exec (.speedSet f) s) fun t =>
      (if s.dev.bldState f.target = 0 ∨ s.dev.idled = true then
          t.dev.get F.BLD_REJECT.count = min (s.dev.get F.BLD_REJECT.count + 1) (2 ^ 16 - 1)
        else axRefused s t f.target 5) ∧ fired s t 4 f true ∧ bit (t.dev.rd R.EVT_STATUS) 2 = true ∧
      s.Frame ([Part.reg R.BLD_REJECT.off, Part.reg (R.BLD_AXa_REFUSE f.target).off, Part.reg (R.BLD_AXa_IRQ_STATUS f.target).off] ++ turnedParts) t := by
  generalize hps : [Part.reg R.BLD_REJECT.off, Part.reg (R.BLD_AXa_REFUSE f.target).off, Part.reg (R.BLD_AXa_IRQ_STATUS f.target).off] ++ turnedParts = ps
  have hAct := (action_speedSet hHit).trans (bldSpeedSet_turned hWhy)
  have hIrq : ∀ p ∈ irqParts, p ∈ ps := fun p hp => by simp [← hps, turnedParts, hp]
  have hFrame : Dev.Frame ps s.dev (if s.dev.bldState f.target = 0 ∨ s.dev.idled = true then s.dev.count F.BLD_REJECT.count else s.dev.bldRefuse f.target 5) :=
    Frame.ite (Frame.count Frame.refl F.BLD_REJECT.count _ (by simp [← hps, F.BLD_REJECT.count]))
      (Frame.bldRefuse Frame.refl _ _ (by simp [← hps]) (by simp [← hps]) hIrq)
  generalize he : (if s.dev.bldState f.target = 0 ∨ s.dev.idled = true then s.dev.count F.BLD_REJECT.count else s.dev.bldRefuse f.target 5) = e at *
  obtain ⟨d0, d1, hEnd⟩ := deliver_refused hAct hf.2
  have hRd : ∀ r : Reg, 0x80000 ≤ r.off → r.off ≠ (R.FLT_SRCi_STATE 22).off → (s.dev.deliver 4 f false false).rd r = e.rd r := fun r hr hSrc => by
    rw [hEnd, Dev.rd_report_ne _ _ _ _ _ hSrc, Dev.rd_evtFlag_ne, rd_recordFiring _ hr] <;> simp only [R.EVT_STATUS, R.MSIX_PBA] <;> omega
  have hGet : ∀ g : Fld, 0x80000 ≤ g.reg.off → g.reg.off ≠ (R.FLT_SRCi_STATE 22).off → (s.dev.deliver 4 f false false).get g = e.get g :=
    fun g hg hSrc => by rw [Dev.get, hRd _ hg hSrc, Dev.get]
  refine completes_onDev (·.deliver 4 f false false) rfl ⟨?_, ?_, ?_, Frame.ofDev ?_⟩
  · split_ifs at he ⊢ with hOff
    · rw [hGet _ (by decide) (by decide), ← he, Dev.get_count_same _ _ _ rfl]
      rfl
    · subst he
      refine ⟨?_, ?_, ?_⟩
      · rw [hGet _ ?_ ?_, Dev.code_bldRefuse _ _ (by omega)] <;> simp only [F.BLD_AXa_REFUSE.code, R.BLD_AXa_REFUSE, R.FLT_SRCi_STATE] <;> omega
      · rw [hRd _ ?_ ?_, Dev.irq_bldRefuse] <;> simp only [R.BLD_AXa_IRQ_STATUS, R.FLT_SRCi_STATE] <;> omega
      · rw [← Dev.bldState_bldRefuse s.dev f.target 5]
        refine hGet _ ?_ ?_ <;> simp only [F.BLD_AXa_STATUS.state, R.BLD_AXa_STATUS, R.FLT_SRCi_STATE] <;> omega
  · have hSlot : e.slot = s.dev.slot := slot_of_frame hFrame (by
      simp [← hps, turnedParts, irqParts, strobeParts, R.EVT_TIME, R.BLD_REJECT, R.BLD_AXa_REFUSE, R.BLD_AXa_IRQ_STATUS, R.EVT_STATUS, R.MSIX_PBA, R.FLT_SRCi_STATE]
      omega)
    have hRecs : e.evt.recs = s.dev.evt.recs := by
      rw [← he]
      split_ifs <;> simp [Dev.bldRefuse, Dev.bldFlag]
    rw [fired]
    dsimp only
    rw [hEnd, Dev.report_evt, Dev.evtFlag_evt, recs_recordFiring, hSlot, hRecs]
  · dsimp only
    rw [hEnd, Dev.rd_report_ne _ _ _ _ _ (by decide)]
    exact Dev.rd_flag_same _ _ _ _ _ (by decide) (by decide) (by decide)
  · rw [hEnd]
    refine Frame.report (Frame.evtFlag (frame_recordFiring hFrame _ fun p hp => ?_) _ (by simp [← hps, turnedParts]) hIrq) _ _ _
      (by simp [← hps, turnedParts, strobeParts]) (by simp [← hps, turnedParts, strobeParts])
    simp only [firingParts, hf.1, Bool.false_eq_true, if_false, List.append_nil, List.mem_singleton] at hp
    simp [← hps, turnedParts, hp]

/-! ### Stop, enable, disable and clear_fault as commands (R271) -/

section
variable (s : State) (a : Fin 16)

theorem setpoint_stop (hIdled : s.dev.idled = false) (hDirect : s.dev.direct (R.BLD_AXa_SETPOINT a).off)
    (h18 : 1 ≤ s.dev.bldState a ∧ s.dev.bldState a ≤ 8) :
    Completes (exec (.setpointWrite a 0) s) fun t =>
      t.dev.rd (R.BLD_AXa_SETPOINT a) = 0 ∧ (t.dev.bldS a).target = 0 ∧ (t.dev.bldS a).rate = s.dev.get (F.BLD_AXa_RATES.stop_rate a) ∧
      (t.dev.bldS a).restartAt = 0 ∧ (t.dev.bldS a).moving = false ∧
      ((s.dev.bldS a).moveDone = s.dev.sys.now8 + 1 → t.dev.on (F.BLD_AXa_STATUS.too_late_to_abort a) = true) ∧
      t.dev.bldState a = s.dev.stopState a ∧ s.Frame ([Part.reg (R.BLD_AXa_SETPOINT a).off] ++ axParts a) t := by
  refine completes_setpointWrite hDirect ?_
  obtain ⟨hHalted, hTarget, hRate, hState⟩ := Dev.bldStop_spec (s.dev.withSetpoint a 0) a.isLt (by simpa using h18.1) (by simpa using h18.2)
  have hEq : s.dev.bldSetpoint a (0 : Word32).toNat = (s.dev.withSetpoint a 0).bldStop a := Dev.bldSetpoint_zero hIdled (by decide)
  rw [hEq]
  refine ⟨?_, hTarget, hRate.trans (s.dev.rates_withSetpoint a 0).2, hHalted.restart, hHalted.moving, by simpa using hHalted.late,
    by simpa using hState, Frame.ofDev (Frame.of_withSetpoint _ _ _ hHalted.frame)⟩
  exact (Frame.rd hHalted.frame _ (setpoint_not_mem_axParts a a.isLt)).trans (Dev.rd_withSetpoint _ _ _ (by omega))

variable (hDirect : s.dev.direct (R.BLD_AXa_CMD a).off)

include hDirect

theorem enable_leavesOff (h0 : s.dev.bldState a = 0) (hAxis : (s.dev.axis a).isSome = true)
    (hHost : s.dev.get F.SYS_HOST_STATE.state ≠ 4 ∧ s.dev.get F.SYS_HOST_STATE.state ≠ 2) :
    Completes (exec (.bldEnable a) s) fun t =>
      t.dev.bldState a = s.dev.bldIdleState a ∧ (t.dev.bldS a).since = s.dev.sys.now8 ∧ s.Frame (axParts a) t := by
  have := s.dev.bldIdleState_lt a
  refine completes_bldEnable hDirect ?_
  rw [Dev.bldEnable_eq _ h0 hAxis hHost a.isLt]
  exact ⟨Dev.bldState_bldEnter _ a.isLt (by omega), Dev.since_bldEnter _ _ _,
    Frame.ofDev (Frame.bldEnter Frame.refl _ _ (fun _ hp => hp) (by omega))⟩

theorem disable_stops (h0 : s.dev.bldState a ≠ 0) (h9 : s.dev.bldState a ≤ 9) :
    Completes (exec (.bldDisable a) s) fun t =>
      let st := s.dev.bldState a
      t.dev.bldState a = (if st = 9 then 9 else if st = 7 ∨ st = 8 then 8 else 0) ∧ (t.dev.bldS a).offPend = decide (7 ≤ st) ∧
      (st = 7 ∨ st = 8 → (t.dev.bldS a).target = 0 ∧ (t.dev.bldS a).rate = s.dev.get (F.BLD_AXa_RATES.stop_rate a)) ∧
      (t.dev.bldS a).startDue = none ∧ (t.dev.bldS a).restartAt = 0 ∧ (t.dev.bldS a).moving = false ∧
      ((s.dev.bldS a).moveDone = s.dev.sys.now8 + 1 → t.dev.on (F.BLD_AXa_STATUS.too_late_to_abort a) = true) ∧ s.Frame (axParts a) t := by
  obtain ⟨hHalted, hState, hPend, hStop⟩ := Dev.bldDisable_spec s.dev a.isLt h0 h9
  exact completes_bldDisable hDirect ⟨hState, hPend, hStop, hHalted.due, hHalted.restart, hHalted.moving, hHalted.late,
    Frame.ofDev hHalted.frame⟩

theorem clearFault_leavesFault (hFault : s.dev.bldState a = 10) :
    Completes (exec (.bldClearFault a) s) fun t =>
      t.dev.bldState a = (if (s.dev.bldS a).offPend = true then 0 else s.dev.bldIdleState a) ∧ (t.dev.bldS a).restarts = [] ∧
      (t.dev.bldS a).tries = 0 ∧ (t.dev.bldS a).wref = 0 ∧
      t.dev.on (F.FLT_SRCi_STATE.active 26) = decide (∃ b ∈ List.range 16, t.dev.bldState b = 10) ∧
      s.Frame (axParts a ++ activeParts 26) t := by
  obtain ⟨hState, hRestarts, hTries, hRef, hActive, hFrame⟩ := Dev.bldClearFault_spec s.dev a.isLt hFault
  refine completes_bldClearFault hDirect ⟨hState, hRestarts, hTries, hRef, hActive.trans ?_, Frame.ofDev hFrame⟩
  rw [Bool.eq_iff_iff, List.any_eq_true, decide_eq_true_eq]
  simp only [decide_eq_true_eq]

/-- A command that does not fit the axis's state counts and changes nothing else. -/
theorem commands_count :
    (s.dev.bldState a ≠ 10 → Completes (exec (.bldClearFault a) s) fun t =>
      t.dev.get F.BLD_REJECT.count = min (s.dev.get F.BLD_REJECT.count + 1) (2 ^ 16 - 1) ∧ s.Frame [Part.reg R.BLD_REJECT.off] t) ∧
    (s.dev.bldState a ≠ 0 → Completes (exec (.bldEnable a) s) fun t =>
      t.dev.get F.BLD_REJECT.count = min (s.dev.get F.BLD_REJECT.count + 1) (2 ^ 16 - 1) ∧ s.Frame [Part.reg R.BLD_REJECT.off] t) ∧
    (s.dev.bldState a = 0 → Completes (exec (.bldDisable a) s) fun t =>
      t.dev.get F.BLD_REJECT.count = min (s.dev.get F.BLD_REJECT.count + 1) (2 ^ 16 - 1) ∧ s.Frame [Part.reg R.BLD_REJECT.off] t) := by
  obtain ⟨hCount, hFrame⟩ := rejects_count (Frame.refl (ps := []) (d := s.dev)) (by simp)
  refine ⟨fun h => completes_bldClearFault hDirect ?_, fun h => completes_bldEnable hDirect ?_, fun h => completes_bldDisable hDirect ?_⟩
  · rw [Dev.bldClearFault, if_neg h]
    exact ⟨hCount, Frame.ofDev hFrame⟩
  · rw [Dev.bldEnable, if_neg (by simp [h])]
    exact ⟨hCount, Frame.ofDev hFrame⟩
  · have hEq : s.dev.bldDisable a = s.dev.count F.BLD_REJECT.count := if_pos h
    rw [hEq]
    exact ⟨hCount, Frame.ofDev hFrame⟩
end

/-- Settles O34: clause by clause. A start is `bldStart_free` at the axis's state; a stop and a disable halt the axis (`Dev.Halted`) and
then enter STOPPING, the idle state or OFF; a refusal leaves its code and the interrupt bit. -/
theorem brushlessSpeed : Obligations.BrushlessSpeed := by
  unfold Obligations.BrushlessSpeed
  refine ⟨?idled, ?start, ?run, ?starting, ?stop, ?turned, ?speedSet, ?speedSetTurned, ?enable, ?disable, ?clearFault, ?count⟩
  case idled => exact fun s a v hIdled hDirect _ => setpoint_idled s a v hIdled hDirect
  case start => exact fun s a v hIdled hDirect _ hIdle hAxis hFree hv => setpoint_start s a v hIdled hDirect hv hAxis hFree hIdle
  case run => exact fun s a v hIdled hDirect _ h7 hAxis hFree hv => setpoint_run s a v hIdled hDirect hv hAxis hFree h7
  case starting =>
    exact fun s a v hIdled hDirect _ h36 hAxis hFree hv hTarget hDir => setpoint_starting s a v hIdled hDirect hv hAxis hFree h36 hTarget hDir
  case stop => exact fun s a hIdled hDirect _ h18 => setpoint_stop s a hIdled hDirect h18
  case turned => exact fun s a v hIdled hDirect _ hv hBlocked hAxis => setpoint_turned s a v hIdled hDirect hv hAxis hBlocked
  case speedSet => exact speedSet_starts
  case speedSetTurned => exact speedSet_turned
  case enable => exact fun s a hDirect _ => enable_leavesOff s a hDirect
  case disable => exact fun s a hDirect _ => disable_stops s a hDirect
  case clearFault => exact fun s a hDirect _ => clearFault_leavesFault s a hDirect
  case count => exact fun s a hDirect _ => commands_count s a hDirect

end Sys2Proof.Proofs
end

section
/-! SUPPORT. Proofs about resets and the training of a Beam Link port: the states in which a statement fails. -/

open Sys2Proof Sys2Proof.Machine Sys2Proof.Claims

set_option maxRecDepth 20000

namespace Sys2Proof.Proofs

/-! ### A full reset while a calibration record waits (R461) -/

/-- A record of channel 0 that waits for its moment (R460). -/
def pendingCalRecord : CalRec := { kind := 1, idx := 0, addr := 0, payload := [] }

/-- CORE and channel 0 are on, channel 0 is the whole sequence list, a full reset is requested and a calibration record of channel 0
waits. -/
def resetWhilePendingState : State :=
  let d := (({} : Dev).wr R.PWR_DOMAINS 0x11).put F.PWR_STATE.state 3
  { dev := { d with
      sys := { d.sys with fullReq := [2] }
      cal := { d.cal with waits := [pendingCalRecord] }
      frd := { d.frd with cfg := { d.frd.cfg with
        chans := [{ channel := 0 }]
        doms := [{ kind := 0, index := 4, pgUsed := false, timeoutMs := 5, settleUs := 5 }] } } } }

/-- The first step down of the full reset switches channel 0 off, which discards its pending records (R461). -/
theorem resetWhilePendingState_waits : resetWhilePendingState.fullReset.dev.cal.waits = [] := by decide

/-! ### A refused full reset where SYS_RESET_CAUSE holds bits above its width -/

/-- The host reaches the registers, sheet 0 is past its pick, and bit 32 of the 32-bit register SYS_RESET_CAUSE is set. -/
def wideCauseState : State :=
  let d := ((({} : Dev).put F.SYS_STRAPS.pers 0).wr R.PWR_DOMAINS 1).put (F.SHT_Dd_STATE.state 0) 3
  { dev := { d with
      regs := Store.set 1#64 d.regs R.SYS_RESET_CAUSE.off (BitVec.ofNat 64 (2 ^ 32))
      host := { d.host with linkUp := true } } }

/-- The refusal writes full_refused, and with it the 32 bits of the register alone. -/
theorem wideCauseState_refusal :
    (wideCauseState.dev.reach R.SYS_RESET.off (·.askFull false)).rd R.SYS_RESET_CAUSE = 2 ^ 9 := by decide

/-- Within the register's width the refusal is as R71 says: it sets full_refused and changes nothing else. -/
theorem swFullReset_refused (s : State) (k : Fin 32) (hReached : reached s.dev R.SYS_RESET.off) (hPicked : s.dev.shtState k = 3)
    (hWidth : s.dev.rd R.SYS_RESET_CAUSE < 2 ^ 32) :
    Completes (exec (.swFullReset false) s) fun t =>
      t.dev.rd R.SYS_RESET_CAUSE = putBits (s.dev.rd R.SYS_RESET_CAUSE) 9 9 1 ∧ s.Frame [Part.reg R.SYS_RESET_CAUSE.off] t := by
  obtain ⟨hEndpoint, hAwake, hCore⟩ := hReached
  have hOn : s.dev.domOn 0 = true := hCore
  have hRefused : s.dev.reach R.SYS_RESET.off (·.askFull false) = s.dev.put F.SYS_RESET_CAUSE.full_refused 1 := by
    have hAny : (List.range 32).any (fun j => s.dev.shtState j = 3) = true :=
      List.any_eq_true.2 ⟨k, List.mem_range.2 k.isLt, decide_eq_true hPicked⟩
    rw [Dev.reach_direct _ _ _ hEndpoint hAwake hCore, Dev.askFull, if_neg (by simp [hOn]), if_pos (by simpa using hAny)]
  have hFits : putBits (s.dev.rd R.SYS_RESET_CAUSE) 9 9 1 < 2 ^ 32 := putBits_lt _ _ _ _ _ (by omega) (by omega) hWidth
  refine completes_onDev (·.reach R.SYS_RESET.off (·.askFull false)) rfl ?_
  rw [hRefused]
  refine ⟨?_, Frame.ofDev (Frame.put Frame.refl _ _ (by simp [F.SYS_RESET_CAUSE.full_refused]))⟩
  calc (s.dev.put F.SYS_RESET_CAUSE.full_refused 1).rd R.SYS_RESET_CAUSE
      = putBits (s.dev.rd R.SYS_RESET_CAUSE) 9 9 1 % 2 ^ 32 % 2 ^ 64 := Dev.rd_wr_same _ _ _
    _ = putBits (s.dev.rd R.SYS_RESET_CAUSE) 9 9 1 := by omega

/-! ### An unsuitable HELLO in a slot in which its source has strobed (R364) -/

/-- A record of source 8 (port 0) strobed at engine time 0. -/
def portStrobe : Strobe := ⟨8, 0, 0, 0, 0⟩

/-- Phase 8 runs, port 0 is in DETECT, and source 8 has strobed a record in the present 64 ns slot. -/
def detectingState : State :=
  let d := (({} : Dev).wr R.PWR_DOMAINS 0x11).put (F.CHn_BLP_STATUS.state 0) 1
  { dev := { d with
      sys := { d.sys with ph := [(8, 1)] }
      flt := { d.flt with strobes := [portStrobe] }
      frd := { d.frd with cfg := { d.frd.cfg with chans := [{ channel := 0 }] } } } }

/-- The HELLO of a head that offers no mode. -/
def modelessHello : List Byte := [0x5C#8, 1#8, 0#8, 0#8, 0#8, 0#8, 0#8, BitVec.ofNat 8 (crc8 [0x5C, 1, 0, 0, 0, 0, 0])]

/-- The record of the failed port is merged into the one that waits (R364). -/
theorem detectingState_strobes :
    (detectingState.dev.backUnit 0 1 (unitBytes modelessHello) (·.hello 0 (unitBytes modelessHello))).flt.strobes = [portStrobe] := by decide

/-! ### The obligations -/

/-- Refutes O6: a full reset in ON does not keep the calibration block where its first step down switches off a channel with pending
calibration records, which R461 discards. -/
theorem not_sysResets : ¬ Obligations.SysResets := by
  unfold Obligations.SysResets
  rintro ⟨-, -, -, -, -, -, -, -, -, -, hOn, -⟩
  obtain ⟨t, hExec, -, -, -, -, -, -, -, -, -, -, hKept, -⟩ :=
    hOn resetWhilePendingState (by decide) (by decide) (by decide) (by decide)
  obtain rfl : resetWhilePendingState.fullReset = t := by injection hExec
  have hCal : resetWhilePendingState.fullReset.dev.cal = resetWhilePendingState.dev.cal := hKept .cal (by simp)
  exact absurd (resetWhilePendingState_waits.symm.trans (congrArg CalSt.waits hCal)) (by decide)

/-- Refutes O7: the statement ranges over every device, also over one whose store holds a value above the width of the 32-bit register
SYS_RESET_CAUSE. Setting full_refused there writes the low 32 bits alone, so that the register is not its old value with bit 9 set. Within
the width the refusal is as stated (`swFullReset_refused`). -/
theorem not_fullResetRefusal : ¬ Obligations.FullResetRefusal := by
  unfold Obligations.FullResetRefusal
  rintro ⟨hRefuse, -⟩
  obtain ⟨t, hExec, hCause, -⟩ := hRefuse wideCauseState 0 (by decide) (by decide)
  obtain rfl : { wideCauseState with dev := wideCauseState.dev.reach R.SYS_RESET.off (·.askFull false) } = t := by injection hExec
  rw [wideCauseState_refusal] at hCause
  exact absurd hCause (by decide)

/-- Refutes O31: where the port's source has strobed a record in the present slot already, the record of a port that fails in phase 8 is
merged into it (R364) and joins the waiting strobes no more. -/
theorem not_linkTraining : ¬ Obligations.LinkTraining := by
  unfold Obligations.LinkTraining
  rintro ⟨-, -, hUnsuitable, -⟩
  obtain ⟨t, hExec, -, -, -, hRecord, -⟩ :=
    hUnsuitable detectingState 0 modelessHello (by decide) (by decide) (by decide) (by decide) (by decide) (by decide)
  obtain rfl : { detectingState with dev := detectingState.dev.backUnit 0 1 (unitBytes modelessHello) (·.hello 0 (unitBytes modelessHello)) } = t := by
    injection hExec
  have hStrobes := (if_pos (by decide)).mp hRecord
  rw [detectingState_strobes] at hStrobes
  exact absurd (congrArg List.length hStrobes) (by decide)

end Sys2Proof.Proofs
end

section
/-! SUPPORT. Proofs about engine time, slots and fault records: the states in which a statement fails. -/

open Sys2Proof Sys2Proof.Machine Sys2Proof.Claims

set_option maxRecDepth 20000

namespace Sys2Proof.Proofs

/-! ### A pulse that ends where engine time passes 64 bits (R76, R77) -/

/-- The time base runs on REFCLK, so that engine time gains 5 ticks in a cycle, and stands 4 ticks before the end of its 64 bits; the pulse
of DOUT0 ends with the last tick that 64 bits hold. -/
def pulseAtEndOfTimeState : State :=
  let d := ((({} : Dev).wr R.EVT_TIME (2 ^ 64 - 4)).put F.CLK_STATUS.tbase_fb 1).put F.CLK_STATUS.on_rc 0
  { dev := { d with evt := { d.evt with
      running := true
      pulse := Store.set 0 [] 0 1
      pulseEnd := Store.set 0 [] 0 (2 ^ 64 - 1) } } }

/-- The cycle that reaches the pulse's end takes engine time round to 1. -/
theorem pulseAtEndOfTimeState_now : (pulseAtEndOfTimeState.dev.pulseOver 0).now = 1 := by decide

/-- Where engine time stays within its 64 bits, the pulse ends at its time with the level that it began from. -/
theorem doutPulseEnd_inTime (s : State) (k : Fin 32) (hPulse : Store.get 0 s.dev.evt.pulse k ≠ 0) (hRuns : s.dev.evt.running = true)
    (hTime : s.dev.timeAt (Store.get 0 s.dev.evt.pulseEnd k) < 2 ^ 64) :
    Completes (exec (.doutPulseEnd k) s) fun t =>
      Store.get false t.dev.evt.dout k = decide (Store.get 0 s.dev.evt.pulse k = 2) ∧ Store.get 0 t.dev.evt.pulse k = 0 ∧
        t.dev.now = s.dev.timeAt (Store.get 0 s.dev.evt.pulseEnd k) ∧ s.Frame ([Part.evt] ++ timeParts) t := by
  have hFrame : Dev.Frame ([Part.evt] ++ timeParts) s.dev (s.dev.advanceTo (Store.get 0 s.dev.evt.pulseEnd k)) :=
    Frame.advanceTo Frame.refl _ fun _ hp => List.mem_append_right _ hp
  have hNow := Dev.now_advanceTo s.dev (Store.get 0 s.dev.evt.pulseEnd k) hRuns hTime
  refine completes_onDev (·.pulseOver k) rfl ?_
  rw [Dev.pulseOver]
  dsimp only
  rw [if_neg hPulse]
  exact ⟨by simp [Dev.modEvt], by simp [Dev.modEvt], hNow, Frame.ofDev (Frame.setEvt hFrame _ (by simp) (.inr rfl))⟩

/-! ### A slot that begins while a firing of the one before waits (R80, R86) -/

/-- Engine time runs in slot 0; entry 0 is armed, its firing has been decided and not dispatched. -/
def undispatchedFiringState : State :=
  let d := ({} : Dev).putTw 8 (2 ^ 63 + 2 ^ 60)
  { dev := { d with evt := { d.evt with
      running := true
      due := [{ idx := 0, delivered := 0, late := false, enc := false, hi := 2 ^ 63 + 2 ^ 60 }] } } }

/-- The entry of the firing that waits fires as the slot begins: it is disarmed (R84). -/
theorem undispatchedFiringState_disarmed : (undispatchedFiringState.schedSlot 0).idleCheck.dev.tw 8 = 2 ^ 60 := by decide

/-! ### A fault record where EVT_ESN holds bits above its width (R79, R365) -/

/-- A strobe of source 22 waits, before the image is loaded, and bit 32 of the 32-bit register EVT_ESN is set. -/
def wideEsnState : State :=
  let d := ({} : Dev)
  { dev := { d with
      regs := Store.set 0#64 d.regs R.EVT_ESN.off (BitVec.ofNat 64 (2 ^ 32))
      flt := { d.flt with strobes := [⟨22, 0, 0, 0, 0⟩] } } }

/-- The source's register of its last ESN takes the low 32 bits alone. -/
theorem wideEsnState_record : wideEsnState.faultRecord.idleCheck.dev.rd (R.FLT_SRCi_ESN 22) = 0 := by decide

/-! ### The obligations -/

/-- Refutes O14: a DOUT pulse may end in the cycle of a fallback clock that takes engine time past its 64 bits. EVT_TIME then stands at the
remainder, and not at the time of R77 that the statement gives. Within 64 bits the end is as stated (`doutPulseEnd_inTime`). -/
theorem not_evtCaptureMarksAndOutputs : ¬ Obligations.EvtCaptureMarksAndOutputs := by
  unfold Obligations.EvtCaptureMarksAndOutputs
  rintro ⟨-, -, -, -, -, -, hPulseEnd⟩
  obtain ⟨t, hExec, -, -, hNow, -⟩ := hPulseEnd pulseAtEndOfTimeState 0 (by decide) (by decide) (by decide)
  obtain rfl : { pulseAtEndOfTimeState with dev := pulseAtEndOfTimeState.dev.pulseOver 0 } = t := by injection hExec
  exact absurd (pulseAtEndOfTimeState_now.symm.trans hNow) (by decide)

/-- Refutes O16: a slot that begins while a decided firing of the slot before waits fires that entry, which disarms it (R84): its table word
changes, which the exact clause of SCHEDULER_SLOT leaves out. -/
theorem not_evtSlots : ¬ Obligations.EvtSlots := by
  unfold Obligations.EvtSlots
  rintro ⟨-, -, -, hSlot, -⟩
  obtain ⟨t, hExec, -, -, -, -, -, -, -, hFrame, -⟩ :=
    hSlot undispatchedFiringState 0 (by decide) (by decide) (by decide) (by decide) (by decide) (by decide) (by decide)
  obtain rfl : (undispatchedFiringState.schedSlot 0).idleCheck = t := by injection hExec
  have hWord : (undispatchedFiringState.schedSlot 0).idleCheck.dev.tw 8 = undispatchedFiringState.dev.tw 8 := hFrame (.tbl 8) (by decide)
  exact absurd (undispatchedFiringState_disarmed.symm.trans hWord) (by decide)

/-- Refutes O49: the statement ranges over every device, also over one whose store holds a value above the width of the 32-bit register
EVT_ESN. FLT_SRCi_ESN takes the low 32 bits of it alone, so that the two registers differ. -/
theorem not_faultRecords : ¬ Obligations.FaultRecords := by
  unfold Obligations.FaultRecords
  rintro ⟨-, -, -, -, hEarly, -⟩
  obtain ⟨t, hExec, -, hHistory, -⟩ := hEarly wideEsnState ⟨22, 0, 0, 0, 0⟩ (by decide) (by decide) (by decide) (by decide) (by decide)
    (by decide) (by decide) (by decide)
  obtain rfl : wideEsnState.faultRecord.idleCheck = t := by injection hExec
  obtain ⟨-, hEsn, -⟩ := hHistory
  exact absurd (wideEsnState_record.symm.trans hEsn) (by decide)

end Sys2Proof.Proofs
end

section
/-! SUPPORT. A firing at its target, for any action (R83, R86, R88): its record, what it changes beside the action's own effect. -/

open Sys2Proof Sys2Proof.Machine Sys2Proof.Claims

namespace Sys2Proof.Proofs

section
variable {s : State} {e : Dev} {code : Nat} {f : Firing} {ps : List Part}

/-- All that recording a firing, in time or late, taken or refused, can change. -/
def recordingParts : List Part := turnedParts ++ [Part.reg R.EVT_LATE_COUNT.off]

theorem firingParts_subset {p : Part} (hp : p ∈ firingParts f) : p ∈ recordingParts := by
  unfold firingParts at hp
  split_ifs at hp <;> simp [recordingParts, turnedParts] at hp ⊢ <;> tauto

theorem turnedParts_subset {p : Part} (hp : p ∈ turnedParts) : p ∈ recordingParts := List.mem_append_left _ hp

/-- The registers of the actions' targets are none that recording a firing changes. -/
theorem reg_not_mem_recordingParts {o : Nat} (hUnit : 0x80000 ≤ o) (hSource : o ≠ (R.FLT_SRCi_STATE 22).off) : Part.reg o ∉ recordingParts := by
  simp [recordingParts, turnedParts, irqParts, strobeParts, R.EVT_STATUS, R.MSIX_PBA, R.EVT_LATE_COUNT]
  exact ⟨by omega, by omega, hSource, by omega⟩

/-- An accepted firing leaves what its action left, and its record. -/
theorem accepted_spec (hAct : s.dev.action code f = (e, false)) (hFrame : Dev.Frame ps s.dev e) (hRecs : Part.recs ∉ ps)
    (hTime : Part.reg R.EVT_TIME.off ∉ ps) : ∃ t : State, { s with dev := s.dev.deliver code f false false } = t ∧
      fired s t code f false ∧ Dev.Frame recordingParts e t.dev ∧ s.Frame (ps ++ firingParts f) t := by
  have hRec := frame_recordFiring (ps := firingParts f) (e := e) (code := code) (d := e) Frame.refl false fun _ hp => hp
  rw [deliver_accepted hAct]
  refine ⟨_, rfl, ?_, ?_, Frame.ofDev ?_⟩
  · have hKept : e.evt.recs = s.dev.evt.recs := hFrame .recs hRecs
    rw [fired, recs_recordFiring, slot_of_frame hFrame hTime, hKept]
  · exact Frame.mono hRec fun _ hp => firingParts_subset hp
  · exact Frame.trans (Frame.mono hFrame fun _ hp => List.mem_append_left _ hp) (Frame.mono hRec fun _ hp => List.mem_append_right _ hp)

/-- A refused firing that is listed for no sheet leaves what its action left, its record, the flag and the report (R83, R488). -/
theorem refused_spec (hAct : s.dev.action code f = (e, true)) (hTag : f.tag = 0) (hFrame : Dev.Frame ps s.dev e) (hRecs : Part.recs ∉ ps)
    (hTime : Part.reg R.EVT_TIME.off ∉ ps) : ∃ t : State, { s with dev := s.dev.deliver code f false false } = t ∧
      fired s t code f true ∧ bit (t.dev.rd R.EVT_STATUS) 2 = true ∧ Dev.Frame recordingParts e t.dev ∧
      s.Frame (ps ++ turnedParts ++ firingParts f) t := by
  obtain ⟨d0, d1, hEnd⟩ := deliver_refused hAct hTag
  have hRec : Dev.Frame (turnedParts ++ firingParts f) e (s.dev.deliver code f false false) := by
    rw [hEnd]
    refine Frame.report (Frame.evtFlag (frame_recordFiring Frame.refl true fun _ hp => List.mem_append_right _ hp) _ ?_ ?_) _ _ _ ?_ ?_ <;>
      simp +contextual [turnedParts, strobeParts]
  refine ⟨_, rfl, ?_, ?_, ?_, Frame.ofDev ?_⟩
  · have hKept : e.evt.recs = s.dev.evt.recs := hFrame .recs hRecs
    rw [fired]
    dsimp only
    rw [hEnd, Dev.report_evt, Dev.evtFlag_evt, recs_recordFiring, slot_of_frame hFrame hTime, hKept]
  · dsimp only
    rw [hEnd, Dev.rd_report_ne _ _ _ _ _ (by decide)]
    exact Dev.rd_flag_same _ _ _ _ _ (by decide) (by decide) (by decide)
  · exact Frame.mono hRec fun p hp => (List.mem_append.1 hp).elim turnedParts_subset firingParts_subset
  · rw [List.append_assoc]
    exact Frame.trans (Frame.mono hFrame fun _ hp => List.mem_append_left _ hp) (Frame.mono hRec fun _ hp => List.mem_append_right _ hp)

/-- In time, a refused firing adds to its action's effect what a refusal leaves alone. -/
theorem refused_inTime {t : State} (hLate : f.late = false) (h : s.Frame (ps ++ turnedParts ++ firingParts f) t) : s.Frame (ps ++ turnedParts) t := by
  obtain ⟨hDev, hMem⟩ := h
  refine ⟨Frame.mono hDev fun p hp => ?_, hMem⟩
  simp [firingParts, hLate, turnedParts] at hp ⊢
  tauto

end

end Sys2Proof.Proofs
end

section
/-! SUPPORT. Commands of a loop slot and of an output (R312, R314, R315). -/

open Sys2Proof Sys2Proof.Machine Sys2Proof.Claims

namespace Sys2Proof.Proofs

/-! ### The effect of each command on the device -/

section
variable (d : Dev) (k : Nat)

theorem loopS_loopWait (op arg : Nat) :
    (d.loopWait k op arg).loopS k = { d.loopS k with due := (d.loopS k).due ++ [(op, arg, d.now)] } := Store.get_set_same _ _ _ _

theorem frame_loopWait (op arg : Nat) : Dev.Frame [Part.loop k] d (d.loopWait k op arg) := Frame.setLoop Frame.refl k _ (by simp)

theorem count_loopReject : d.loopReject.get F.LOOP_REJECT.count = min (d.get F.LOOP_REJECT.count + 1) (2 ^ 16 - 1) :=
  Dev.get_count_same _ _ _ rfl

theorem frame_loopReject : Dev.Frame [Part.reg R.LOOP_REJECT.off] d d.loopReject := Frame.count Frame.refl _ _ (by simp [F.LOOP_REJECT.count])

variable {d k}

theorem loopCmd_off (h : d.loopState k = 0) (op arg : Nat) : d.loopCmd k op arg = d.loopReject := if_pos h
theorem loopCmd_wait (h : d.loopState k ≠ 0) (op arg : Nat) : d.loopCmd k op arg = d.loopWait k op arg := if_neg h

theorem loopRecord_off (h : d.loopState k = 0) (r : Nat) : d.loopRecord k r = (d.loopReject, true) := if_pos h

theorem loopRecord_reserved {r : Nat} (h : d.loopState k ≠ 0) (hc : 2 ^ 33 ≤ d.coef k (0x40 + 8 * r)) :
    d.loopRecord k r = (d.loopRefuse k 3, true) := by
  refine (if_neg h).trans (if_pos ?_)
  simp
  exact .inr hc

theorem loopRecord_wait {r : Nat} (h : d.loopState k ≠ 0) (hr : r < 8) (hc : d.coef k (0x40 + 8 * r) < 2 ^ 33) :
    d.loopRecord k r = (d.loopWait k 4 r, d.loopTurnedAway k 4) := by
  rw [← loopCmd_wait h]
  refine (if_neg h).trans (if_neg ?_)
  simp
  omega

/-- A refused command leaves its code and the interrupt bit. -/
theorem loopRefuse_spec (d : Dev) (k : Nat) {c : Nat} (hc : c < 256) :
    (d.loopRefuse k c).get (F.LOOP_Sk_REFUSE.code k) = c ∧ bit ((d.loopRefuse k c).rd (R.LOOP_Sk_IRQ_STATUS k)) 5 = true ∧
      Dev.Frame ([Part.reg (R.LOOP_Sk_REFUSE k).off, Part.reg (R.LOOP_Sk_IRQ_STATUS k).off] ++ irqParts) d (d.loopRefuse k c) := by
  refine ⟨?_, Dev.rd_flag_same _ _ _ _ _ ?_ (by simp [R.LOOP_Sk_IRQ_STATUS]) (by simp [R.LOOP_Sk_IRQ_STATUS]),
    Frame.flag (Frame.put Frame.refl (F.LOOP_Sk_REFUSE.code k) _ (by simp [F.LOOP_Sk_REFUSE.code])) _ _ _ _ (by simp) (by simp +contextual)⟩
  · rw [Dev.loopRefuse, Dev.loopFlag, Dev.get_flag_ne, Dev.get_put_same _ _ _ rfl]
    · exact Nat.mod_eq_of_lt hc
    all_goals simp only [F.LOOP_Sk_REFUSE.code, R.LOOP_Sk_REFUSE, R.LOOP_Sk_IRQ_STATUS, R.MSIX_PBA]; omega
  · simp only [R.LOOP_Sk_IRQ_STATUS, R.MSIX_PBA]
    omega

end

/-! ### The host's commands -/

section
variable (s : State) (k : Fin 64)

/-- A command that reaches slot k waits for its boundary, or counts where the slot is OFF. -/
theorem loopCmd_spec (op arg : Nat) :
    let t : State := { s with dev := s.dev.loopCmd k op arg }
    if s.dev.loopState k = 0 then loopIgnored s t else loopQueued s t k op arg ∧ s.Frame [Part.loop k] t := by
  dsimp only
  split_ifs with h
  · rw [loopCmd_off h]
    exact ⟨count_loopReject _, Frame.ofDev (frame_loopReject _)⟩
  · rw [loopCmd_wait h]
    exact ⟨loopS_loopWait _ _ _ _, Frame.ofDev (frame_loopWait _ _ _ _)⟩

theorem loopCmds_wait (h : loopOpen s.dev k) :
    Completes (exec (.loopCmdEnable k) s) (fun t => if s.dev.loopState k = 0 then loopIgnored s t else loopQueued s t k 1 0 ∧ s.Frame [Part.loop k] t) ∧
    Completes (exec (.loopCmdRelease k) s) (fun t => if s.dev.loopState k = 0 then loopIgnored s t else loopQueued s t k 2 0 ∧ s.Frame [Part.loop k] t) := by
  constructor
  · refine completes_onDev (fun d => d.agree (R.LOOP_Sk_CMD k) 0x10000000 (·.loopCmd k 1 0)) rfl ?_
    rw [Dev.agree_direct _ _ _ _ h.1]
    exact loopCmd_spec s k 1 0
  · refine completes_onDev (fun d => d.agree (R.LOOP_Sk_CMD k) 0x20000000 (·.loopCmd k 2 0)) rfl ?_
    rw [Dev.agree_direct _ _ _ _ h.1]
    exact loopCmd_spec s k 2 0

theorem applyRecord_waits (r : Fin 8) (h : loopOpen s.dev k) :
    Completes (exec (.loopCmdApplyRecord k r) s) fun t =>
      if s.dev.loopState k = 0 then loopIgnored s t
      else if 2 ^ 33 ≤ s.dev.coef k (0x40 + 8 * r) then t.dev.get (F.LOOP_Sk_REFUSE.code k) = 3 ∧ bit (t.dev.rd (R.LOOP_Sk_IRQ_STATUS k)) 5 = true ∧
        s.Frame ([Part.reg (R.LOOP_Sk_REFUSE k).off, Part.reg (R.LOOP_Sk_IRQ_STATUS k).off] ++ irqParts) t
      else loopQueued s t k 4 r ∧ s.Frame [Part.loop k] t := by
  refine completes_onDev (fun d => d.agree (R.LOOP_Sk_CMD k) (0x30000000 + r) fun d => (d.loopRecord k r).1) rfl ?_
  rw [Dev.agree_direct _ _ _ _ h.1]
  split_ifs with hOff hReserved
  · rw [loopRecord_off hOff]
    exact ⟨count_loopReject _, Frame.ofDev (frame_loopReject _)⟩
  · rw [loopRecord_reserved hOff hReserved]
    obtain ⟨hCode, hIrq, hFrame⟩ := loopRefuse_spec s.dev k (c := 3) (by omega)
    exact ⟨hCode, hIrq, Frame.ofDev hFrame⟩
  · rw [loopRecord_wait hOff r.isLt (by omega)]
    exact ⟨loopS_loopWait _ _ _ _, Frame.ofDev (frame_loopWait _ _ _ _)⟩

theorem setpointWrite_waits (v : Word32) (h : s.dev.direct (R.LOOP_Sk_SETPOINT k).off) :
    Completes (exec (.loopSetpointWrite k v) s) fun t =>
      t.dev.rd (R.LOOP_Sk_SETPOINT k) = v.toNat ∧
      (if s.dev.loopState k = 0 then t.dev.get F.LOOP_REJECT.count = min (s.dev.get F.LOOP_REJECT.count + 1) (2 ^ 16 - 1) ∧
        s.Frame [Part.reg (R.LOOP_Sk_SETPOINT k).off, Part.reg R.LOOP_REJECT.off] t
      else loopQueued s t k 3 0 ∧ s.Frame [Part.loop k, Part.reg (R.LOOP_Sk_SETPOINT k).off] t) := by
  refine completes_onDev (fun d => d.agree (R.LOOP_Sk_SETPOINT k) v.toNat (·.loopSetpoint k v.toNat)) rfl ?_
  rw [Dev.agree_direct _ _ _ _ h]
  dsimp only
  have hWritten : (s.dev.wr (R.LOOP_Sk_SETPOINT k) v.toNat).rd (R.LOOP_Sk_SETPOINT k) = v.toNat := by
    rw [Dev.rd_wr_same]
    have := v.isLt
    simp only [R.LOOP_Sk_SETPOINT]
    omega
  have hFrame (ps : List Part) (hp : Part.reg (R.LOOP_Sk_SETPOINT k).off ∈ ps) : Dev.Frame ps s.dev (s.dev.wr (R.LOOP_Sk_SETPOINT k) v.toNat) :=
    Frame.wr Frame.refl _ _ hp
  have hState : (s.dev.wr (R.LOOP_Sk_SETPOINT k) v.toNat).loopState k = s.dev.loopState k :=
    Dev.get_wr_ne _ _ _ _ (by simp only [F.LOOP_Sk_STATUS.state, R.LOOP_Sk_STATUS, R.LOOP_Sk_SETPOINT]; omega)
  have hCount : (s.dev.wr (R.LOOP_Sk_SETPOINT k) v.toNat).get F.LOOP_REJECT.count = s.dev.get F.LOOP_REJECT.count :=
    Dev.get_wr_ne _ _ _ _ (by simp only [F.LOOP_REJECT.count, R.LOOP_REJECT, R.LOOP_Sk_SETPOINT]; omega)
  have hNow : (s.dev.wr (R.LOOP_Sk_SETPOINT k) v.toNat).now = s.dev.now :=
    Dev.rd_wr_ne _ _ _ _ (by simp only [R.EVT_TIME, R.LOOP_Sk_SETPOINT]; omega)
  have hLoop : (s.dev.wr (R.LOOP_Sk_SETPOINT k) v.toNat).loopS k = s.dev.loopS k := rfl
  rw [Dev.loopSetpoint]
  generalize s.dev.wr (R.LOOP_Sk_SETPOINT k) v.toNat = d at *
  split_ifs with hOff
  · rw [loopCmd_off (hState.trans hOff)]
    refine ⟨?_, ?_, Frame.ofDev (Frame.trans (hFrame _ (by simp)) (Frame.mono (frame_loopReject d) (by simp)))⟩
    · rw [Frame.rd (frame_loopReject d) _ (by simp [R.LOOP_Sk_SETPOINT, R.LOOP_REJECT]; omega), hWritten]
    · rw [count_loopReject, hCount]
  · rw [loopCmd_wait (by rwa [hState])]
    refine ⟨hWritten, ?_, Frame.ofDev (Frame.trans (hFrame _ (by simp)) (Frame.mono (frame_loopWait d _ _ _) (by simp)))⟩
    rw [loopQueued, loopS_loopWait, hLoop, hNow]

end

/-- An output's configuration is written while every slot that names it is RELEASED, and counted otherwise (R315). -/
theorem outputCfg_written (s : State) (o : Fin 16) (v : Word32) (h : s.dev.direct (R.LOOP_OUTo_CFG o).off) :
    Completes (exec (.loopOutputCfgWrite o v) s) fun t =>
      if (∀ l ∈ s.dev.cfg.loops, l.output = o.val → s.dev.loopState l.slot = 1) then
        t.dev.get (F.LOOP_OUTo_CFG.invert o) = v.toNat / 2 ^ 31 ∧ t.dev.get (F.LOOP_OUTo_CFG.period_us o) = v.toNat % 2 ^ 16 ∧
          s.Frame [Part.reg (R.LOOP_OUTo_CFG o).off] t
      else loopIgnored s t := by
  refine completes_onDev (fun d => d.agree (R.LOOP_OUTo_CFG o) v.toNat (·.outCfgWrite o v.toNat)) rfl ?_
  rw [Dev.agree_direct _ _ _ _ h]
  have hAll : (s.dev.cfg.loops.all fun l => l.output ≠ o || s.dev.loopState l.slot = 1) = true ↔
      ∀ l ∈ s.dev.cfg.loops, l.output = o.val → s.dev.loopState l.slot = 1 := by
    simp [List.all_eq_true, or_iff_not_imp_left]
  dsimp only
  rw [Dev.outCfgWrite]
  split_ifs with hReleased hCfg hCfg
  · have hv := v.isLt
    refine ⟨?_, Dev.get_put_same _ _ _ rfl, Frame.ofDev (Frame.put (Frame.put Frame.refl (F.LOOP_OUTo_CFG.invert o) _ (by simp [F.LOOP_OUTo_CFG.invert]))
      (F.LOOP_OUTo_CFG.period_us o) _ (by simp [F.LOOP_OUTo_CFG.period_us]))⟩
    refine (Dev.get_put_other _ (F.LOOP_OUTo_CFG.period_us o) (F.LOOP_OUTo_CFG.invert o) _ rfl rfl rfl rfl).trans ?_
    rw [Dev.get_put_same _ _ _ rfl]
    simp only [F.LOOP_OUTo_CFG.invert]
    omega
  · exact absurd (hAll.2 hReleased) hCfg
  · exact absurd (hAll.1 hCfg) hReleased
  · exact ⟨count_loopReject _, Frame.ofDev (frame_loopReject _)⟩

/-! ### The actions -/

section
variable {s : State} {f : Firing} {k op arg : Nat}

theorem action_loopEnable {d : Dev} (h : d.actionHit 6 f.target = false) :
    d.action 6 f = (d.loopCmd f.target 1 0, d.loopTurnedAway f.target 1) := by simp [Dev.action, h]
theorem action_loopRelease {d : Dev} (h : d.actionHit 7 f.target = false) :
    d.action 7 f = (d.loopCmd f.target 2 0, d.loopTurnedAway f.target 2) := by simp [Dev.action, h]
theorem action_loopSetpoint {d : Dev} (h : d.actionHit 5 f.target = false) :
    d.action 5 f = d.loopRecord f.target f.arg := by simp [Dev.action, h]

theorem loop_not_mem_recordingParts : Part.loop k ∉ recordingParts := by simp [recordingParts, turnedParts, irqParts, strobeParts]

/-- A firing that queues a command at slot k, taken by the slot. -/
theorem queued_accepted {code : Nat} (hAct : s.dev.action code f = (s.dev.loopWait k op arg, false)) :
    let t : State := { s with dev := s.dev.deliver code f false false }
    loopQueued s t k op arg ∧ fired s t code f false ∧ s.Frame ([Part.loop k] ++ firingParts f) t := by
  obtain ⟨t, rfl, hFired, hRec, hFrame⟩ := accepted_spec hAct (frame_loopWait _ k op arg) (by simp) (by simp)
  have hLoop := hRec (.loop k) loop_not_mem_recordingParts
  exact ⟨hLoop.trans (loopS_loopWait _ _ _ _), hFired, hFrame⟩

theorem enableAction_waits (hHit : s.dev.actionHit 6 f.target = false)
    (hState : s.dev.loopState f.target = 1 ∨ s.dev.loopState f.target = 2 ∨ s.dev.loopState f.target = 3)
    (hHost : s.dev.hostIdle = false ∨ s.dev.loopState f.target = 2) :
    Completes (exec (.loopEnable f) s) fun t =>
      loopQueued s t f.target 1 0 ∧ fired s t 6 f false ∧ s.Frame ([Part.loop f.target] ++ firingParts f) t := by
  refine completes_onDev (·.deliver 6 f false false) rfl (queued_accepted ?_)
  have hTaken : s.dev.loopTurnedAway f.target 1 = false := by
    rw [Dev.loopTurnedAway]
    obtain h | h | h := hState <;> simp [h] at hHost ⊢ <;> exact hHost
  rw [action_loopEnable hHit, loopCmd_wait (by omega), hTaken]

theorem releaseAction_waits (hHit : s.dev.actionHit 7 f.target = false)
    (hState : s.dev.loopState f.target = 1 ∨ s.dev.loopState f.target = 2 ∨ s.dev.loopState f.target = 3) :
    Completes (exec (.loopRelease f) s) fun t =>
      loopQueued s t f.target 2 0 ∧ fired s t 7 f false ∧ s.Frame ([Part.loop f.target] ++ firingParts f) t := by
  refine completes_onDev (·.deliver 7 f false false) rfl (queued_accepted ?_)
  have hTaken : s.dev.loopTurnedAway f.target 2 = false := by
    rw [Dev.loopTurnedAway]
    obtain h | h | h := hState <;> simp [h]
  rw [action_loopRelease hHit, loopCmd_wait (by omega), hTaken]

theorem recordAction_waits (hHit : s.dev.actionHit 5 f.target = false) (hState : 1 ≤ s.dev.loopState f.target ∧ s.dev.loopState f.target ≤ 3)
    (hArg : f.arg < 8) (hCoef : s.dev.coef f.target (0x40 + 8 * f.arg) < 2 ^ 33) :
    Completes (exec (.loopSetpoint f) s) fun t =>
      loopQueued s t f.target 4 f.arg ∧ fired s t 5 f false ∧ s.Frame ([Part.loop f.target] ++ firingParts f) t := by
  refine completes_onDev (·.deliver 5 f false false) rfl (queued_accepted ?_)
  have hTaken : s.dev.loopTurnedAway f.target 4 = false := by
    rw [Dev.loopTurnedAway]
    obtain h | h | h : s.dev.loopState f.target = 1 ∨ s.dev.loopState f.target = 2 ∨ s.dev.loopState f.target = 3 := by omega
    all_goals simp [h]
  rw [action_loopSetpoint hHit, loopRecord_wait (by omega) hArg hCoef, hTaken]

/-- In OFF and in STANDBY an enabling action is turned away: counted, or queued and refused at once. -/
theorem enableAction_refused (hHit : s.dev.actionHit 6 f.target = false) (hf : f.late = false ∧ f.tag = 0)
    (hState : s.dev.loopState f.target = 0 ∨ s.dev.loopState f.target = 4) :
    Completes (exec (.loopEnable f) s) fun t =>
      (if s.dev.loopState f.target = 0 then t.dev.get F.LOOP_REJECT.count = min (s.dev.get F.LOOP_REJECT.count + 1) (2 ^ 16 - 1)
        else loopQueued s t f.target 1 0) ∧ fired s t 6 f true ∧
      s.Frame ([Part.loop f.target, Part.reg R.LOOP_REJECT.off] ++ turnedParts) t := by
  have hTurned : s.dev.loopTurnedAway f.target 1 = true := by
    rw [Dev.loopTurnedAway]
    obtain h | h := hState <;> simp [h]
  have hAct : s.dev.action 6 f = (s.dev.loopCmd f.target 1 0, true) := by rw [action_loopEnable hHit, hTurned]
  have hCmd : Dev.Frame [Part.loop f.target, Part.reg R.LOOP_REJECT.off] s.dev (s.dev.loopCmd f.target 1 0) :=
    Frame.ite (Frame.mono (frame_loopReject _) (by simp)) (Frame.mono (frame_loopWait _ _ _ _) (by simp))
  refine completes_onDev (·.deliver 6 f false false) rfl ?_
  obtain ⟨t, rfl, hFired, -, hRec, hFrame⟩ := refused_spec hAct hf.2 hCmd (by simp) (by simp [R.EVT_TIME, R.LOOP_REJECT])
  refine ⟨?_, hFired, refused_inTime hf.1 hFrame⟩
  split_ifs with hOff
  · rw [Frame.get hRec F.LOOP_REJECT.count (reg_not_mem_recordingParts (by decide) (by decide)), loopCmd_off hOff, count_loopReject]
  · have hLoop := hRec (.loop f.target) loop_not_mem_recordingParts
    rw [loopCmd_wait hOff] at hLoop
    exact hLoop.trans (loopS_loopWait _ _ _ _)

end

/-- Settles O42: clause by clause. A command is `loopWait`, or `loopReject` where the slot is OFF; a firing adds its record
(`accepted_spec`, `refused_spec`). -/
theorem loopCommands : Obligations.LoopCommands := by
  unfold Obligations.LoopCommands
  refine ⟨loopCmds_wait, ?record, ?setpoint, ?output, ?actions, ?turned, ?recordAction⟩
  case record => exact fun s k r h => applyRecord_waits s k r h
  case setpoint => exact fun s k v h _ => setpointWrite_waits s k v h
  case output => exact fun s o v h _ => outputCfg_written s o v h
  case actions =>
    exact fun s f hEnable hRelease hState => ⟨enableAction_waits hEnable hState, releaseAction_waits hRelease hState⟩
  case turned => exact fun s f hHit hf hState => enableAction_refused hHit hf hState
  case recordAction => exact fun s f hHit hState hArg hCoef => recordAction_waits hHit hState hArg hCoef

end Sys2Proof.Proofs
end

section
/-! SUPPORT. Moves of a brushless axis (R276): planning, beginning, stopping and resuming a move, and the end of a slew (R278). -/

open Sys2Proof Sys2Proof.Machine Sys2Proof.Claims

namespace Sys2Proof.Machine

/-! ### Planning (R286) -/

section
variable {x : Prof} {t : Int} {acc dec peak : Nat} {uni : Bool}

theorem Prof.target_replan (h : (x.replan t acc dec peak uni).2 = none) : (x.replan t acc dec peak uni).1.target = t := by
  unfold Prof.replan at h ⊢
  dsimp only at h ⊢
  split_ifs at h ⊢ <;> rfl

theorem Prof.code_replan {c : Nat} (h : (x.replan t acc dec peak uni).2 = some c) : c < 3 := by
  unfold Prof.replan at h
  dsimp only at h
  split_ifs at h <;> simp at h <;> omega

end

/-! ### A move through the states of an axis -/

@[simp] theorem Dev.move_bldEnter (d : Dev) (a st : Nat) : ((d.bldEnter a st).bldS a).move = (d.bldS a).move :=
  (congrArg BldAx.move (d.course_bldEnter a st) :)

theorem Dev.move_active_bldEnter (d : Dev) {a : Nat} (st : Nat) (ha : a < 16) :
    (d.bldEnter a st).get (F.BLD_AXa_STATUS.move_active a) = d.get (F.BLD_AXa_STATUS.move_active a) := by
  rw [Dev.get_bldEnter_status _ _ ha rfl rfl (.inl (by simp [F.BLD_AXa_STATUS.move_active])), Dev.get_put_status _ _ rfl rfl rfl rfl rfl]

section
variable {d : Dev} {a : Nat} {m : Prof} {speed : Int} {acc dec : Nat}

/-- The speed of a move in the direction of its target. -/
def Prof.speedOf (m : Prof) (speed : Int) : Int := if m.target < m.p then -speed else speed

/-- A move that waits for the axis to stop: its start is due (R275). -/
def BldAx.awaitMove (m : Prof) (speed : Int) (acc dec : Nat) (x : BldAx) : BldAx :=
  { x with move := some m, moving := true, target := 0, rate := dec, startDue := some (speed, acc, true) }

/-- A move begins on an idle axis: a start toward its speed that takes the plan with it. -/
theorem Dev.bldMove_idle (ha : a < 16) (hAxis : (d.axis a).isSome = true) (hFree : d.bldBlocked a = none)
    (hIdle : d.bldState a = 1 ∨ d.bldState a = 2) (hRev : m.rev = 0) :
    ∃ e, d.bldMove a m speed acc dec = (e, false) ∧ e.bldState a = 3 ∧ (e.bldS a).move = some m ∧ (e.bldS a).moving = true ∧
      e.get (F.BLD_AXa_STATUS.move_active a) = 1 ∧ (e.bldS a).target = d.clampTarget a (m.speedOf speed) ∧ (e.bldS a).rate = acc ∧
      Dev.Frame (axParts a) d e := by
  have hHeading : d.heading a = 0 := by rw [Dev.heading, if_neg (by omega), if_neg (by omega)]
  have hStart := Dev.bldStart_free (target := m.speedOf speed) (rate := acc) (by omega) hAxis hFree
  rw [if_neg (by simp [hHeading]), if_neg (by omega), if_pos (by omega)] at hStart
  generalize hx : { (d.bldS a).toward (d.clampTarget a (m.speedOf speed)) acc with tries := 0, restartAt := 0 } = x at hStart
  have hState : ((d.putBld a x).bldEnter a 3).bldState a = 3 := Dev.bldState_bldEnter _ ha (by omega)
  have hFrame : Dev.Frame (axParts a) d ((d.putBld a x).bldEnter a 3) := by
    refine Frame.bldEnter (Frame.putBld Frame.refl _ _ (by simp [axParts])) _ _ (fun _ hp => hp) fun hFault => ?_
    simp only [Dev.bldState_putBld] at hFault
    omega
  have hTarget : (((d.putBld a x).bldEnter a 3).bldS a).target = d.clampTarget a (m.speedOf speed) := by
    rw [Dev.target_bldEnter, Dev.bldS_putBld, ← hx, BldAx.toward]
  have hRate : (((d.putBld a x).bldEnter a 3).bldS a).rate = acc := by rw [Dev.rate_bldEnter, Dev.bldS_putBld, ← hx, BldAx.toward]
  generalize (d.putBld a x).bldEnter a 3 = y at *
  refine ⟨(y.modBld a fun x => { x with move := some m, moving := true, profT := y.now }).put (F.BLD_AXa_STATUS.move_active a) 1, ?_, ?_, ?_, ?_,
    Dev.get_put_same _ _ _ rfl, ?_, ?_, Frame.put (Frame.modBld hFrame _ _ (by simp [axParts])) _ _ (by simp [axParts, F.BLD_AXa_STATUS.move_active])⟩
  · unfold Dev.bldMove
    dsimp only
    rw [if_neg (by simp [hRev]), ← Prof.speedOf, hStart]
    rfl
  · exact (Dev.get_put_status _ _ rfl rfl rfl rfl rfl).trans hState
  all_goals rw [Dev.bldS_put, Dev.bldS_modBld]
  · exact hTarget
  · exact hRate

/-- A move whose target lies behind an axis in RUN stops it first; the start toward the target waits (R275, R276). -/
theorem Dev.bldMove_behind (ha : a < 16) (h7 : d.bldState a = 7) (hRev : m.rev ≠ 0) :
    ∃ e, d.bldMove a m speed acc dec = (e, false) ∧ e.bldState a = 8 ∧ (e.bldS a).move = some m ∧ (e.bldS a).moving = true ∧
      (e.bldS a).target = 0 ∧ (e.bldS a).startDue.isSome = true ∧ e.get (F.BLD_AXa_STATUS.move_active a) = 1 ∧ Dev.Frame (axParts a) d e := by
  have hState : ((d.modBld a (BldAx.awaitMove m (m.speedOf speed) acc dec)).bldEnter a 8).bldState a = 8 := Dev.bldState_bldEnter _ ha (by omega)
  have hFrame : Dev.Frame (axParts a) d ((d.modBld a (BldAx.awaitMove m (m.speedOf speed) acc dec)).bldEnter a 8) := by
    refine Frame.bldEnter (Frame.modBld Frame.refl _ _ (by simp [axParts])) _ _ (fun _ hp => hp) fun hFault => ?_
    simp only [Dev.bldState_modBld] at hFault
    omega
  have hMove : d.bldMove a m speed acc dec =
      (((d.modBld a (BldAx.awaitMove m (m.speedOf speed) acc dec)).bldEnter a 8).put (F.BLD_AXa_STATUS.move_active a) 1, false) := by
    unfold Dev.bldMove
    dsimp only
    rw [if_pos hRev, Dev.bldState_modBld, if_pos h7]
    rfl
  have hKept : (((d.modBld a (BldAx.awaitMove m (m.speedOf speed) acc dec)).bldEnter a 8).bldS a).move = some m ∧
      (((d.modBld a (BldAx.awaitMove m (m.speedOf speed) acc dec)).bldEnter a 8).bldS a).moving = true ∧
      (((d.modBld a (BldAx.awaitMove m (m.speedOf speed) acc dec)).bldEnter a 8).bldS a).target = 0 ∧
      (((d.modBld a (BldAx.awaitMove m (m.speedOf speed) acc dec)).bldEnter a 8).bldS a).startDue.isSome = true := by
    simp [BldAx.awaitMove]
  generalize (d.modBld a (BldAx.awaitMove m (m.speedOf speed) acc dec)).bldEnter a 8 = y at *
  obtain ⟨hPlanned, hMoving, hTarget, hDue⟩ := hKept
  refine ⟨_, hMove, (Dev.get_put_status _ _ rfl rfl rfl rfl rfl).trans hState, ?_, ?_, ?_, ?_, Dev.get_put_same _ _ _ rfl,
    Frame.put hFrame _ _ (by simp [axParts, F.BLD_AXa_STATUS.move_active])⟩
  all_goals rw [Dev.bldS_put]; assumption

end

/-! ### The remaining distance of a stopped move (R276) -/

/-- The position of an axis rests on its angle, its encoder and its configuration. -/
theorem Dev.bldPos_of_frame {d e : Dev} {a : Nat} (ha : a < 16) (h : Dev.Frame (axParts a) d e) (hPos : (e.bldS a).posE = (d.bldS a).posE) :
    e.bldPos a = d.bldPos a := by
  have hFrd : e.frd = d.frd := h .frd (frd_not_mem_axParts a)
  have hSource : e.gaOn (F.BLD_AXa_CTRL.pos_src a) = d.gaOn (F.BLD_AXa_CTRL.pos_src a) := by
    have hAct := h (.act (R.BLD_AXa_CTRL a).off) (by simp [axParts, gateAllParts, gateParts, irqParts]) _ rfl
    rw [Dev.gaOn, Dev.gaOn, Dev.ga, Dev.ga, F.BLD_AXa_CTRL.pos_src, hAct]
  unfold Dev.bldPos Dev.axis
  rw [hFrd, hSource, hPos]
  split
  · next c _ =>
    split_ifs with hEnc
    · have hLow : c.encoder < 4 := by
        rw [Bool.and_eq_true, decide_eq_true_eq] at hEnc
        exact hEnc.2
      rw [Frame.rd h _ (reg_not_mem_axParts ha ?_ (.inl ?_))] <;> simp only [R.EVT_ENCn_RAW, R.MSIX_PBA] <;> omega
    · rfl
  · rfl

theorem Dev.bldRemain_stopped {d : Dev} {a : Nat} {m : Prof} (hMove : (d.bldS a).move = some m) (hMoving : (d.bldS a).moving = false) :
    d.bldRemain a = d.put (F.BLD_AXa_REMAIN.remain a) (enc 32 (m.target / 2 ^ 32 - d.bldPos a)) := by
  simp [Dev.bldRemain, hMove, hMoving]

theorem enc_mod (w : Nat) (i : Int) : enc w i % 2 ^ w = enc w i := by
  refine Nat.mod_eq_of_lt ?_
  have h : i % ((2 ^ w : Nat) : Int) < ((2 ^ w : Nat) : Int) := Int.emod_lt_of_pos _ (by positivity)
  have h0 : 0 ≤ i % ((2 ^ w : Nat) : Int) := Int.emod_nonneg _ (by positivity)
  unfold enc
  omega

theorem Dev.remain_bldRemain {d : Dev} {a : Nat} {m : Prof} (hMove : (d.bldS a).move = some m) (hMoving : (d.bldS a).moving = false) :
    (d.bldRemain a).get (F.BLD_AXa_REMAIN.remain a) = enc 32 (m.target / 2 ^ 32 - d.bldPos a) := by
  rw [Dev.bldRemain_stopped hMove hMoving, Dev.get_put_same _ _ _ rfl]
  exact enc_mod 32 _

/-- Halting an axis in a move shows the distance that the move has left. -/
theorem Dev.remain_bldHalt {d : Dev} {a : Nat} {m : Prof} (ha : a < 16) (u : BldAx → BldAx) (hMove : (d.bldS a).move = some m)
    (hMoving : (d.bldS a).moving = true) :
    (d.bldHalt a u).get (F.BLD_AXa_REMAIN.remain a) = enc 32 (m.target / 2 ^ 32 - d.bldPos a) := by
  have hHold : (d.bldTooLate a).bldHoldMove a = ((d.bldTooLate a).modBld a fun x => { x with moving := false }).bldRemain a :=
    if_pos (by rw [Dev.bldS_bldTooLate, hMoving])
  have hFrame : Dev.Frame (axParts a) d ((d.bldTooLate a).modBld a fun x => { x with moving := false }) :=
    Frame.modBld (Frame.bldTooLate Frame.refl a (by simp [axParts])) a _ (by simp [axParts])
  rw [Dev.bldHalt, Dev.get_modBld, hHold, Dev.remain_bldRemain (m := m) (by simp [hMove]) (by simp),
    Dev.bldPos_of_frame ha hFrame (by simp)]

/-- Entering a state leaves the remaining distance. -/
theorem Dev.remain_bldEnter (d : Dev) {a : Nat} (st : Nat) (ha : a < 16) :
    (d.bldEnter a st).get (F.BLD_AXa_REMAIN.remain a) = d.get (F.BLD_AXa_REMAIN.remain a) := by
  have hState (x : Dev) (v : Nat) : (x.put (F.BLD_AXa_STATUS.state a) v).get (F.BLD_AXa_REMAIN.remain a) = x.get (F.BLD_AXa_REMAIN.remain a) :=
    Dev.get_put_ne _ _ _ _ (status_ne_remain a a).symm
  have hSpeed (x : Dev) (v : Nat) : (x.put (F.BLD_AXa_STATUS.at_speed a) v).get (F.BLD_AXa_REMAIN.remain a) = x.get (F.BLD_AXa_REMAIN.remain a) :=
    Dev.get_put_ne _ _ _ _ (status_ne_remain a a).symm
  have hSlew (x : Dev) (v : Nat) : (x.put (F.BLD_AXa_STATUS.slewing a) v).get (F.BLD_AXa_REMAIN.remain a) = x.get (F.BLD_AXa_REMAIN.remain a) :=
    Dev.get_put_ne _ _ _ _ (status_ne_remain a a).symm
  have hFlag (x : Dev) (k : Nat) : (x.bldFlag a k).get (F.BLD_AXa_REMAIN.remain a) = x.get (F.BLD_AXa_REMAIN.remain a) := by
    refine Dev.get_flag_ne _ _ _ _ _ _ ?_ ?_ <;> simp only [F.BLD_AXa_REMAIN.remain, R.BLD_AXa_REMAIN, R.BLD_AXa_IRQ_STATUS, R.MSIX_PBA] <;> omega
  have hActive (x : Dev) (b : Bool) : (x.setActive 26 b).get (F.BLD_AXa_REMAIN.remain a) = x.get (F.BLD_AXa_REMAIN.remain a) := by
    refine Dev.get_setActive_ne _ _ _ _ ?_ ?_ <;> simp only [F.BLD_AXa_REMAIN.remain, R.BLD_AXa_REMAIN, R.FLT_SRCi_STATE, R.FLT_ACTIVE] <;> omega
  have hGate (x : Dev) : x.gateAll.get (F.BLD_AXa_REMAIN.remain a) = x.get (F.BLD_AXa_REMAIN.remain a) := by
    refine Dev.get_gateAll_ne _ _ ?_ ?_ <;> simp only [F.BLD_AXa_REMAIN.remain, R.BLD_AXa_REMAIN] <;> omega
  have hLost (x : Dev) : (x.bldSpeedLost a).get (F.BLD_AXa_REMAIN.remain a) = x.get (F.BLD_AXa_REMAIN.remain a) := by
    unfold Dev.bldSpeedLost
    dsimp only
    split_ifs <;> simp only [hGate, hFlag, hSpeed, Dev.get_modBld]
  unfold Dev.bldEnter Dev.when
  dsimp only
  split_ifs <;> simp only [hLost, hActive, hFlag, hState, hSlew, Dev.get_modBld]

theorem Dev.remain_bldToIdle {d : Dev} {a : Nat} {m : Prof} (ha : a < 16) (hDue : (d.bldS a).startDue = none) (hMove : (d.bldS a).move = some m)
    (hMoving : (d.bldS a).moving = false) :
    (d.bldToIdle a).get (F.BLD_AXa_REMAIN.remain a) = enc 32 (m.target / 2 ^ 32 - d.bldPos a) := by
  rw [Dev.bldToIdle_eq d a hDue, Dev.remain_bldEnter _ _ ha, Dev.get_putBld, Dev.remain_bldRemain hMove hMoving]

theorem Dev.remain_bldStop {d : Dev} {a : Nat} {m : Prof} (ha : a < 16) (hState : d.bldState a = 7 ∨ d.bldState a = 3)
    (hMove : (d.bldS a).move = some m) (hMoving : (d.bldS a).moving = true) :
    (d.bldStop a).get (F.BLD_AXa_REMAIN.remain a) = enc 32 (m.target / 2 ^ 32 - d.bldPos a) ∧ ((d.bldStop a).bldS a).move = some m := by
  generalize hRate : d.get (F.BLD_AXa_RATES.stop_rate a) = rate
  have hHalt := Dev.Halted.stop d a rate
  have hS : (d.bldHalt a (BldAx.stop rate)).bldS a = BldAx.stop rate { d.bldS a with moving := false } := Dev.bldS_bldHalt d a _
  have hRemain := Dev.remain_bldHalt ha (BldAx.stop rate) hMove hMoving
  rw [Dev.bldStop_eq d a (by omega) (by omega) (by omega) rfl, hRate]
  generalize d.bldHalt a (BldAx.stop rate) = e at *
  have hKept : (e.bldS a).move = some m := by rw [hS]; exact hMove
  obtain h7 | h3 := hState
  · rw [if_pos h7]
    exact ⟨by rw [Dev.remain_bldEnter _ _ ha, hRemain], by rw [Dev.move_bldEnter, hKept]⟩
  · rw [if_neg (by omega), if_pos (.inl h3)]
    refine ⟨?_, (congrArg BldAx.move (e.bldS_bldToIdle a hHalt.due) :).trans hKept⟩
    rw [Dev.remain_bldToIdle ha hHalt.due hKept hHalt.moving, Dev.bldPos_of_frame ha hHalt.frame (by rw [hS]; rfl)]

/-- A stop in the tick in which a move completed says that it came too late, in every state but OFF (R276). -/
theorem Dev.bldStop_tooLate {d : Dev} {a : Nat} (ha : a < 16) (h0 : d.bldState a ≠ 0) (hDone : (d.bldS a).moveDone = d.sys.now8 + 1) :
    (d.bldStop a).on (F.BLD_AXa_STATUS.too_late_to_abort a) = true ∧ Dev.Frame (axParts a) d (d.bldStop a) := by
  by_cases hStays : d.bldState a = 9 ∨ d.bldState a = 10
  · have hEq : d.bldStop a = d.bldTooLate a := (if_neg h0).trans (if_pos (by simpa using hStays))
    rw [hEq]
    exact ⟨Dev.too_late_bldTooLate d a hDone, Frame.bldTooLate Frame.refl a (by simp [axParts])⟩
  have hHalt := Dev.Halted.stop d a (d.get (F.BLD_AXa_RATES.stop_rate a))
  have hState : (d.bldHalt a (BldAx.stop (d.get (F.BLD_AXa_RATES.stop_rate a)))).bldState a = d.bldState a := Dev.bldState_bldHalt d a _ a
  rw [Dev.bldStop_eq d a h0 (by omega) (by omega) rfl]
  have hEnd : ∀ e, Dev.Halted a d e → e.on (F.BLD_AXa_STATUS.too_late_to_abort a) = true ∧ Dev.Frame (axParts a) d e :=
    fun e h => ⟨h.late hDone, h.frame⟩
  split_ifs
  exacts [hEnd _ (hHalt.enter ha (by omega) (by omega)), hEnd _ (hHalt.toIdle ha (by omega)), hEnd _ hHalt]

/-! ### Engine time on a fallback clock (R77) -/

/-- The cycle that reaches a count goes past it by less than 8 ticks. -/
theorem timeCount_timeTick_lt (src c : Nat) : timeCount src (timeTick src c) < c + 8 := by
  match src with
  | 0 => simp only [timeCount, timeTick]; omega
  | 1 => simp only [timeCount, timeTick]; omega
  | s + 2 =>
    simp only [timeCount, timeTick]
    generalize hCycles : (16 * c + 124) / 125 = k
    have hExact : 16 * ((k * 125 + 15) / 16) / 125 = k := by omega
    rw [hExact]
    omega

/-- Engine time stands less than 8 ticks past the time it is advanced to. -/
theorem Dev.timeAt_lt (d : Dev) (t : Nat) : d.timeAt t < max (d.now + 1) (t + 8) := by
  unfold Dev.timeAt Dev.timeGain Dev.timeTicks
  generalize d.timeSource = src
  have hTick := timeCount_timeTick_lt src (timeCount src d.sys.now8 + (t - d.now))
  generalize timeTick src (timeCount src d.sys.now8 + (t - d.now)) = x at *
  split_ifs with h
  · by_cases hx : d.sys.now8 ≤ x
    · rw [Nat.add_sub_cancel' hx]
      omega
    · rw [Nat.sub_eq_zero_of_le (by omega : x ≤ d.sys.now8)]
      simp
  · omega

end Sys2Proof.Machine

namespace Sys2Proof.Proofs

/-! ### The actions at their target (R83, R276) -/

section
variable {d e : Dev} {f : Firing} {s t : State}

theorem action_moveStart (h : d.actionHit 1 f.target = false) (ha : f.target < 16) : d.action 1 f = d.bldMoveStart f.target f.arg := by
  simp [Dev.action, h, ha]
theorem action_moveStop (h : d.actionHit 2 f.target = false) (ha : f.target < 16) : d.action 2 f = d.bldMoveStop f.target := by
  simp [Dev.action, h, ha]
theorem action_moveResume (h : d.actionHit 3 f.target = false) (ha : f.target < 16) : d.action 3 f = d.bldMoveResume f.target := by
  simp [Dev.action, h, ha]

theorem recs_not_mem_axParts (a : Nat) : Part.recs ∉ axParts a := by simp [axParts, gateAllParts, gateParts, irqParts]
theorem time_not_mem_axParts {a : Nat} (ha : a < 16) : Part.reg R.EVT_TIME.off ∉ axParts a := reg_not_mem_axParts ha (by decide) (.inl (by decide))

/-- Recording a firing keeps an axis. -/
theorem bldS_kept (h : Dev.Frame recordingParts e d) (a : Nat) : d.bldS a = e.bldS a :=
  h (.bld a) (by simp [recordingParts, turnedParts, irqParts, strobeParts])

theorem get_axis_kept (h : Dev.Frame recordingParts e d) {g : Fld} (hlo : 0x80000 ≤ g.reg.off) (hhi : g.reg.off < 0xe0000) : d.get g = e.get g :=
  Frame.get h g (reg_not_mem_recordingParts hlo (by simp only [R.FLT_SRCi_STATE]; omega))

theorem get_status_kept (h : Dev.Frame recordingParts e d) {g : Fld} {a : Nat} (ha : a < 16) (hg : g.reg = R.BLD_AXa_STATUS a) :
    d.get g = e.get g := by
  refine get_axis_kept h ?_ ?_ <;> rw [hg] <;> simp only [R.BLD_AXa_STATUS] <;> omega

/-- An accepted action at an axis: its effect, its record. -/
theorem accepted_atAxis {code : Nat} (ha : f.target < 16) (hAct : s.dev.action code f = (e, false)) (hFrame : Dev.Frame (axParts f.target) s.dev e) :
    ∃ t : State, { s with dev := s.dev.deliver code f false false } = t ∧ fired s t code f false ∧ Dev.Frame recordingParts e t.dev ∧
      s.Frame (firingParts f ++ axParts f.target) t := by
  obtain ⟨t, hEnd, hFired, hRec, hDev, hMem⟩ := accepted_spec hAct hFrame (recs_not_mem_axParts _) (time_not_mem_axParts ha)
  exact ⟨t, hEnd, hFired, hRec, Frame.mono hDev fun p hp => by simp only [List.mem_append] at hp ⊢; tauto, hMem⟩

/-- The frame of a refusal at an axis. -/
theorem frame_bldRefuse (d : Dev) (a c : Nat) : Dev.Frame (refuseParts a) d (d.bldRefuse a c) :=
  Frame.bldRefuse Frame.refl a c (by simp [refuseParts]) (by simp [refuseParts]) fun p hp => by simp [refuseParts, hp]

/-- A firing that its axis refuses with a code: the code, the interrupt bit, the record, the flag. -/
theorem refused_atAxis {code c : Nat} (ha : f.target < 16) (hTag : f.tag = 0) (hc : c < 256)
    (hAct : s.dev.action code f = (s.dev.bldRefuse f.target c, true)) :
    let t : State := { s with dev := s.dev.deliver code f false false }
    axRefused s t f.target c ∧ t.dev.bldS f.target = s.dev.bldS f.target ∧ fired s t code f true ∧ bit (t.dev.rd R.EVT_STATUS) 2 = true ∧
      s.Frame ([Part.reg (R.BLD_AXa_REFUSE f.target).off, Part.reg (R.BLD_AXa_IRQ_STATUS f.target).off] ++ turnedParts ++ firingParts f) t := by
  have hRecs : Part.recs ∉ refuseParts f.target := by simp [refuseParts, irqParts]
  have hTime : Part.reg R.EVT_TIME.off ∉ refuseParts f.target := by
    simp [refuseParts, irqParts, R.EVT_TIME, R.BLD_AXa_REFUSE, R.BLD_AXa_IRQ_STATUS, R.MSIX_PBA]
    omega
  obtain ⟨t, rfl, hFired, hFlag, hRec, hDev, hMem⟩ := refused_spec hAct hTag (frame_bldRefuse _ _ _) hRecs hTime
  refine ⟨⟨?_, ?_, ?_⟩, ?_, hFired, hFlag, Frame.mono hDev fun p hp => ?_, hMem⟩
  · rw [get_axis_kept hRec, Dev.code_bldRefuse _ _ hc] <;> simp only [F.BLD_AXa_REFUSE.code, R.BLD_AXa_REFUSE] <;> omega
  · rw [Frame.rd hRec _ (reg_not_mem_recordingParts ?_ ?_), Dev.irq_bldRefuse] <;> simp only [R.BLD_AXa_IRQ_STATUS, R.FLT_SRCi_STATE] <;> omega
  · rw [Dev.bldState, get_status_kept hRec ha rfl]
    exact Dev.bldState_bldRefuse _ _ _ _
  · rw [bldS_kept hRec, Dev.bldS_bldRefuse]
  · simp only [refuseParts, turnedParts, List.mem_append] at hp ⊢
    tauto

/-- A firing that an axis turns away by counting alone. -/
theorem rejected_atAxis {code : Nat} (hf : f.late = false ∧ f.tag = 0) (hAct : s.dev.action code f = (s.dev.count F.BLD_REJECT.count, true)) :
    let t : State := { s with dev := s.dev.deliver code f false false }
    t.dev.get F.BLD_REJECT.count = min (s.dev.get F.BLD_REJECT.count + 1) (2 ^ 16 - 1) ∧ fired s t code f true ∧
      s.Frame ([Part.reg R.BLD_REJECT.off] ++ turnedParts) t := by
  obtain ⟨hCount, hFrame⟩ := rejects_count (Frame.refl (ps := []) (d := s.dev)) (by simp)
  obtain ⟨t, rfl, hFired, -, hRec, hEnd⟩ := refused_spec hAct hf.2 hFrame (by simp) (by decide)
  exact ⟨(get_axis_kept hRec (by decide) (by decide)).trans hCount, hFired, refused_inTime hf.1 hEnd⟩

end

/-! ### MOVE_START -/

section
variable (s : State) (f : Firing)

/-- A move record whose fields are right is planned and begun. -/
theorem bldMoveStart_plan {d : Dev} {a r : Nat} (h0 : d.bldState a ≠ 0) (hIdled : d.idled = false) (hr : r < 8)
    (hRec : d.rd (R.BLD_AXa_MRECr a r 1) < 2 ^ 32) (hFree : d.bldBlocked a = none) (hPlan : (d.bldPlan a r).2 = none) :
    d.bldMoveStart a r = d.bldMove a (d.bldPlan a r).1 (d.get (F.BLD_AXa_MRECr.speed a r) : Nat) (max 1 (d.get (F.BLD_AXa_MRECr.accel a r)))
      (max 1 (d.get (F.BLD_AXa_MRECr.decel a r))) := by
  unfold Dev.bldMoveStart
  rw [if_neg (by simp [h0, hIdled]), if_neg (by simp; omega), hFree]
  generalize d.bldPlan a r = p at *
  obtain ⟨m, c⟩ := p
  subst hPlan
  rfl

theorem moveStart_idle (hIdled : s.dev.idled = false) (hHit : s.dev.actionHit 1 f.target = false) (hf : f.target < 16 ∧ f.arg < 8)
    (hIdle : s.dev.bldState f.target = 1 ∨ s.dev.bldState f.target = 2) (hFree : s.dev.bldBlocked f.target = none)
    (hAxis : (s.dev.axis f.target).isSome = true) (hRec : s.dev.rd (R.BLD_AXa_MRECr f.target f.arg 1) < 2 ^ 32)
    (hPlan : (s.dev.bldPlan f.target f.arg).2 = none) (hRev : (s.dev.bldPlan f.target f.arg).1.rev = 0) :
    Completes (exec (.moveStart f) s) fun t =>
      let m := (s.dev.bldPlan f.target f.arg).1
      let v : Int := (s.dev.get (F.BLD_AXa_MRECr.speed f.target f.arg) : Nat)
      t.dev.bldState f.target = 3 ∧ (t.dev.bldS f.target).move = some m ∧ (t.dev.bldS f.target).moving = true ∧
      t.dev.get (F.BLD_AXa_STATUS.move_active f.target) = 1 ∧
      (t.dev.bldS f.target).target = s.dev.clampTarget f.target (if m.target < m.p then -v else v) ∧
      (t.dev.bldS f.target).rate = max 1 (s.dev.get (F.BLD_AXa_MRECr.accel f.target f.arg)) ∧
      m.target = (s.dev.bldPos f.target + sext 32 (s.dev.get (F.BLD_AXa_MRECr.distance f.target f.arg))) * 2 ^ 32 ∧
      fired s t 1 f false ∧ s.Frame (firingParts f ++ axParts f.target) t := by
  have hTo : (s.dev.bldPlan f.target f.arg).1.target =
      (s.dev.bldPos f.target + sext 32 (s.dev.get (F.BLD_AXa_MRECr.distance f.target f.arg))) * 2 ^ 32 := Prof.target_replan hPlan
  obtain ⟨e, hMove, hState, hPlanned, hMoving, hActive, hTarget, hRate, hFrame⟩ := Dev.bldMove_idle (d := s.dev)
    (speed := (s.dev.get (F.BLD_AXa_MRECr.speed f.target f.arg) : Nat)) (acc := max 1 (s.dev.get (F.BLD_AXa_MRECr.accel f.target f.arg)))
    (dec := max 1 (s.dev.get (F.BLD_AXa_MRECr.decel f.target f.arg))) hf.1 hAxis hFree hIdle hRev
  have hAct : s.dev.action 1 f = (e, false) := by
    rw [action_moveStart hHit hf.1, bldMoveStart_plan (by omega) hIdled hf.2 hRec hFree hPlan, hMove]
  obtain ⟨t, hEnd, hFired, hKept, hFrame⟩ := accepted_atAxis hf.1 hAct hFrame
  refine completes_onDev (·.deliver 1 f false false) rfl ?_
  rw [hEnd]
  dsimp only
  rw [bldS_kept hKept, Dev.bldState, get_status_kept hKept hf.1 rfl, get_status_kept hKept hf.1 rfl]
  exact ⟨hState, hPlanned, hMoving, hActive, hTarget, hRate, hTo, hFired, hFrame⟩

theorem moveStart_behind (hIdled : s.dev.idled = false) (hHit : s.dev.actionHit 1 f.target = false) (hf : f.target < 16 ∧ f.arg < 8)
    (h7 : s.dev.bldState f.target = 7) (hFree : s.dev.bldBlocked f.target = none)
    (hRec : s.dev.rd (R.BLD_AXa_MRECr f.target f.arg 1) < 2 ^ 32)
    (hPlan : (s.dev.bldPlan f.target f.arg).2 = none) (hRev : (s.dev.bldPlan f.target f.arg).1.rev ≠ 0) :
    Completes (exec (.moveStart f) s) fun t =>
      t.dev.bldState f.target = 8 ∧ (t.dev.bldS f.target).move = some (s.dev.bldPlan f.target f.arg).1 ∧ (t.dev.bldS f.target).moving = true ∧
      (t.dev.bldS f.target).target = 0 ∧ (t.dev.bldS f.target).startDue.isSome = true ∧
      t.dev.get (F.BLD_AXa_STATUS.move_active f.target) = 1 ∧ fired s t 1 f false ∧ s.Frame (firingParts f ++ axParts f.target) t := by
  obtain ⟨e, hMove, hState, hPlanned, hMoving, hTarget, hDue, hActive, hFrame⟩ := Dev.bldMove_behind (d := s.dev)
    (speed := (s.dev.get (F.BLD_AXa_MRECr.speed f.target f.arg) : Nat)) (acc := max 1 (s.dev.get (F.BLD_AXa_MRECr.accel f.target f.arg)))
    (dec := max 1 (s.dev.get (F.BLD_AXa_MRECr.decel f.target f.arg))) hf.1 h7 hRev
  have hAct : s.dev.action 1 f = (e, false) := by
    rw [action_moveStart hHit hf.1, bldMoveStart_plan (by omega) hIdled hf.2 hRec hFree hPlan, hMove]
  obtain ⟨t, hEnd, hFired, hKept, hFrame⟩ := accepted_atAxis hf.1 hAct hFrame
  refine completes_onDev (·.deliver 1 f false false) rfl ?_
  rw [hEnd, bldS_kept hKept, Dev.bldState, get_status_kept hKept hf.1 rfl, get_status_kept hKept hf.1 rfl]
  exact ⟨hState, hPlanned, hMoving, hTarget, hDue, hActive, hFired, hFrame⟩

/-- The code with which a record is refused: 5 for a wrong field, otherwise what its plan says (R271, R276). -/
theorem bldMoveStart_refused {d : Dev} {a r : Nat} (h0 : d.bldState a ≠ 0) (hIdled : d.idled = false) (hFree : d.bldBlocked a = none)
    (hWhy : 8 ≤ r ∨ 2 ^ 32 ≤ d.rd (R.BLD_AXa_MRECr a r 1) ∨ (d.bldPlan a r).2.isSome = true) : ∃ c < 256,
    d.bldMoveStart a r = (d.bldRefuse a c, true) ∧
      c = if 8 ≤ r ∨ 2 ^ 32 ≤ d.rd (R.BLD_AXa_MRECr a r 1) then 5 else (d.bldPlan a r).2.getD 0 := by
  unfold Dev.bldMoveStart
  rw [if_neg (by simp [h0, hIdled])]
  by_cases hField : 8 ≤ r ∨ 2 ^ 32 ≤ d.rd (R.BLD_AXa_MRECr a r 1)
  · rw [if_pos (by simp; omega), if_pos hField]
    exact ⟨5, by omega, rfl, rfl⟩
  · obtain ⟨c, hc⟩ := Option.isSome_iff_exists.1 ((or_assoc.2 hWhy).resolve_left hField)
    have hCode : c < 3 := Prof.code_replan hc
    rw [if_neg (by simp; omega), if_neg hField, hFree]
    generalize d.bldPlan a r = p at *
    obtain ⟨m, o⟩ := p
    subst hc
    exact ⟨c, by omega, rfl, rfl⟩

theorem moveStart_refused (hIdled : s.dev.idled = false) (hHit : s.dev.actionHit 1 f.target = false)
    (hf : f.late = false ∧ f.tag = 0 ∧ f.target < 16) (h0 : s.dev.bldState f.target ≠ 0) (hFree : s.dev.bldBlocked f.target = none)
    (hWhy : 8 ≤ f.arg ∨ 2 ^ 32 ≤ s.dev.rd (R.BLD_AXa_MRECr f.target f.arg 1) ∨ (s.dev.bldPlan f.target f.arg).2.isSome = true) :
    Completes (exec (.moveStart f) s) fun t =>
      (if 8 ≤ f.arg ∨ 2 ^ 32 ≤ s.dev.rd (R.BLD_AXa_MRECr f.target f.arg 1) then axRefused s t f.target 5
        else axRefused s t f.target ((s.dev.bldPlan f.target f.arg).2.getD 0)) ∧
      fired s t 1 f true ∧ bit (t.dev.rd R.EVT_STATUS) 2 = true ∧
      s.Frame ([Part.reg (R.BLD_AXa_REFUSE f.target).off, Part.reg (R.BLD_AXa_IRQ_STATUS f.target).off] ++ turnedParts) t := by
  obtain ⟨c, hc, hStart, hCode⟩ := bldMoveStart_refused h0 hIdled hFree hWhy
  obtain ⟨hRefused, -, hFired, hFlag, hFrame⟩ := refused_atAxis (s := s) hf.2.2 hf.2.1 hc ((action_moveStart hHit hf.2.2).trans hStart)
  refine completes_onDev (·.deliver 1 f false false) rfl ⟨?_, hFired, hFlag, refused_inTime hf.1 hFrame⟩
  rw [hCode] at hRefused
  split_ifs at hRefused ⊢ <;> exact hRefused

/-! ### MOVE_STOP -/

theorem moveStop_keepsDistance (m : Prof) (hHit : s.dev.actionHit 2 f.target = false) (ha : f.target < 16)
    (hState : s.dev.bldState f.target = 7 ∨ s.dev.bldState f.target = 3) (hMoving : (s.dev.bldS f.target).moving = true)
    (hMove : (s.dev.bldS f.target).move = some m) :
    Completes (exec (.moveStop f) s) fun t =>
      t.dev.bldState f.target = (if s.dev.bldState f.target = 7 then 8 else if (s.dev.bldS f.target).offPend = true then 0 else s.dev.bldIdleState f.target) ∧
      (t.dev.bldS f.target).moving = false ∧ (t.dev.bldS f.target).move = some m ∧ (t.dev.bldS f.target).target = 0 ∧
      t.dev.get (F.BLD_AXa_REMAIN.remain f.target) = enc 32 (m.target / 2 ^ 32 - s.dev.bldPos f.target) ∧
      (t.dev.bldS f.target).rate = s.dev.get (F.BLD_AXa_RATES.stop_rate f.target) ∧ fired s t 2 f false ∧
      s.Frame (firingParts f ++ axParts f.target) t := by
  obtain ⟨hHalted, hTarget, hRate, hStopped⟩ := Dev.bldStop_spec s.dev ha (by omega) (by omega)
  obtain ⟨hRemain, hKeptMove⟩ := Dev.remain_bldStop ha hState hMove hMoving
  have hAct : s.dev.action 2 f = (s.dev.bldStop f.target, false) := by
    rw [action_moveStop hHit ha, Dev.bldMoveStop, decide_eq_false (by omega)]
  obtain ⟨t, hEnd, hFired, hKept, hFrame⟩ := accepted_atAxis ha hAct hHalted.frame
  refine completes_onDev (·.deliver 2 f false false) rfl ?_
  rw [hEnd, bldS_kept hKept, Dev.bldState, get_status_kept hKept ha rfl, get_axis_kept hKept (g := F.BLD_AXa_REMAIN.remain f.target)
    (by simp only [F.BLD_AXa_REMAIN.remain, R.BLD_AXa_REMAIN]; omega) (by simp only [F.BLD_AXa_REMAIN.remain, R.BLD_AXa_REMAIN]; omega)]
  refine ⟨hStopped.trans ?_, hHalted.moving, hKeptMove, hTarget, hRemain, hRate, hFired, hFrame⟩
  unfold Dev.stopState
  obtain h7 | h3 := hState
  · rw [if_pos (.inl h7), if_pos h7]
  · rw [if_neg (by omega), if_pos (by omega), if_neg (c := s.dev.bldState f.target = 7) (by omega)]

theorem moveStop_tooLate (hHit : s.dev.actionHit 2 f.target = false) (ha : f.target < 16) (h0 : s.dev.bldState f.target ≠ 0)
    (hDone : (s.dev.bldS f.target).moveDone = s.dev.sys.now8 + 1) :
    Completes (exec (.moveStop f) s) fun t =>
      t.dev.on (F.BLD_AXa_STATUS.too_late_to_abort f.target) = true ∧ fired s t 2 f false ∧ s.Frame (firingParts f ++ axParts f.target) t := by
  obtain ⟨hLate, hStop⟩ := Dev.bldStop_tooLate ha h0 hDone
  have hAct : s.dev.action 2 f = (s.dev.bldStop f.target, false) := by
    rw [action_moveStop hHit ha, Dev.bldMoveStop, decide_eq_false h0]
  obtain ⟨t, hEnd, hFired, hKept, hFrame⟩ := accepted_atAxis ha hAct hStop
  refine completes_onDev (·.deliver 2 f false false) rfl ?_
  rw [hEnd, Dev.on, get_status_kept hKept ha rfl]
  exact ⟨hLate, hFired, hFrame⟩

/-! ### MOVE_RESUME -/

/-- What is left of a stopped move is planned anew toward its target and begun, or refused. -/
theorem bldMoveResume_plan {d : Dev} {a : Nat} {m : Prof} (h0 : d.bldState a ≠ 0) (hIdled : d.idled = false) (hFree : d.bldBlocked a = none)
    (hMoving : (d.bldS a).moving = false) (hMove : (d.bldS a).move = some m) (hAway : m.target / 2 ^ 32 ≠ d.bldPos a) :
    (∀ c, ((d.bldNow a).replan m.target m.acc m.dec m.peak (d.uni a)).2 = some c → d.bldMoveResume a = (d.bldRefuse a c, true)) ∧
    (((d.bldNow a).replan m.target m.acc m.dec m.peak (d.uni a)).2 = none → ∃ speed acc dec,
      d.bldMoveResume a = d.bldMove a ((d.bldNow a).replan m.target m.acc m.dec m.peak (d.uni a)).1 speed acc dec) := by
  unfold Dev.bldMoveResume
  rw [if_neg (by simp [h0, hIdled])]
  dsimp only
  rw [hMove]
  dsimp only
  rw [if_neg (by simpa [hMoving] using hAway), hFree]
  dsimp only
  generalize (d.bldNow a).replan m.target m.acc m.dec m.peak (d.uni a) = p
  obtain ⟨m', o⟩ := p
  constructor
  · rintro c rfl
    rfl
  · rintro rfl
    exact ⟨_, _, _, rfl⟩

theorem moveResume_idle (m : Prof) (hIdled : s.dev.idled = false) (hHit : s.dev.actionHit 3 f.target = false) (ha : f.target < 16)
    (hIdle : s.dev.bldState f.target = 1 ∨ s.dev.bldState f.target = 2) (hFree : s.dev.bldBlocked f.target = none)
    (hAxis : (s.dev.axis f.target).isSome = true) (hMoving : (s.dev.bldS f.target).moving = false)
    (hMove : (s.dev.bldS f.target).move = some m) (hAway : m.target / 2 ^ 32 ≠ s.dev.bldPos f.target)
    (hPlan : ((s.dev.bldNow f.target).replan m.target m.acc m.dec m.peak (s.dev.uni f.target)).2 = none)
    (hRev : ((s.dev.bldNow f.target).replan m.target m.acc m.dec m.peak (s.dev.uni f.target)).1.rev = 0) :
    Completes (exec (.moveResume f) s) fun t =>
      t.dev.bldState f.target = 3 ∧ (t.dev.bldS f.target).moving = true ∧
      (t.dev.bldS f.target).move = some ((s.dev.bldNow f.target).replan m.target m.acc m.dec m.peak (s.dev.uni f.target)).1 ∧
      t.dev.get (F.BLD_AXa_STATUS.move_active f.target) = 1 ∧ fired s t 3 f false ∧ s.Frame (firingParts f ++ axParts f.target) t := by
  obtain ⟨speed, acc, dec, hResume⟩ := (bldMoveResume_plan (by omega) hIdled hFree hMoving hMove hAway).2 hPlan
  obtain ⟨e, hBegun, hState, hPlanned, hRuns, hActive, -, -, hFrame⟩ := Dev.bldMove_idle (speed := speed) (acc := acc) (dec := dec) ha hAxis hFree hIdle hRev
  have hAct : s.dev.action 3 f = (e, false) := by rw [action_moveResume hHit ha, hResume, hBegun]
  obtain ⟨t, hEnd, hFired, hKept, hFrame⟩ := accepted_atAxis ha hAct hFrame
  refine completes_onDev (·.deliver 3 f false false) rfl ?_
  rw [hEnd, bldS_kept hKept, Dev.bldState, get_status_kept hKept ha rfl, get_status_kept hKept ha rfl]
  exact ⟨hState, hRuns, hPlanned, hActive, hFired, hFrame⟩

theorem moveResume_refused (m : Prof) (code : Nat) (hIdled : s.dev.idled = false) (hHit : s.dev.actionHit 3 f.target = false)
    (hf : f.tag = 0 ∧ f.target < 16) (h0 : s.dev.bldState f.target ≠ 0) (hFree : s.dev.bldBlocked f.target = none)
    (hMoving : (s.dev.bldS f.target).moving = false) (hMove : (s.dev.bldS f.target).move = some m)
    (hAway : m.target / 2 ^ 32 ≠ s.dev.bldPos f.target)
    (hPlan : ((s.dev.bldNow f.target).replan m.target m.acc m.dec m.peak (s.dev.uni f.target)).2 = some code) :
    Completes (exec (.moveResume f) s) fun t =>
      axRefused s t f.target code ∧ t.dev.bldS f.target = s.dev.bldS f.target ∧ fired s t 3 f true ∧
      s.Frame ([Part.reg (R.BLD_AXa_REFUSE f.target).off, Part.reg (R.BLD_AXa_IRQ_STATUS f.target).off] ++ turnedParts ++ firingParts f) t := by
  have hCode : code < 3 := Prof.code_replan hPlan
  have hResume := (bldMoveResume_plan h0 hIdled hFree hMoving hMove hAway).1 code hPlan
  obtain ⟨hRefused, hAxis, hFired, -, hFrame⟩ := refused_atAxis (s := s) hf.2 hf.1 (by omega) ((action_moveResume hHit hf.2).trans hResume)
  exact completes_onDev (·.deliver 3 f false false) rfl ⟨hRefused, hAxis, hFired, hFrame⟩

/-- With no interrupted move there is nothing to resume; an axis that is OFF or held counts the attempt. -/
theorem bldMoveResume_none {d : Dev} {a : Nat} (h : (d.bldS a).move = none) :
    d.bldMoveResume a = (if d.bldState a = 0 ∨ d.idled = true then d.count F.BLD_REJECT.count else d, true) := by
  unfold Dev.bldMoveResume
  dsimp only
  rw [h]
  simp only [Bool.or_eq_true, decide_eq_true_eq]
  split_ifs <;> rfl

theorem moveResume_nothing (hHit : s.dev.actionHit 3 f.target = false) (hf : f.late = false ∧ f.tag = 0 ∧ f.target < 16)
    (hMove : (s.dev.bldS f.target).move = none) :
    Completes (exec (.moveResume f) s) fun t =>
      (s.dev.bldState f.target = 0 → t.dev.get F.BLD_REJECT.count = min (s.dev.get F.BLD_REJECT.count + 1) (2 ^ 16 - 1)) ∧ fired s t 3 f true ∧
      s.Frame ([Part.reg R.BLD_REJECT.off] ++ turnedParts) t := by
  have hAct := (action_moveResume hHit hf.2.2).trans (bldMoveResume_none hMove)
  refine completes_onDev (·.deliver 3 f false false) rfl ?_
  by_cases hOff : s.dev.bldState f.target = 0 ∨ s.dev.idled = true
  · rw [if_pos hOff] at hAct
    obtain ⟨hCount, hFired, hFrame⟩ := rejected_atAxis ⟨hf.1, hf.2.1⟩ hAct
    exact ⟨fun _ => hCount, hFired, hFrame⟩
  · rw [if_neg hOff] at hAct
    obtain ⟨t, rfl, hFired, -, -, hFrame⟩ := refused_spec (ps := [Part.reg R.BLD_REJECT.off]) hAct hf.2.1 Frame.refl (by simp) (by decide)
    exact ⟨fun h => absurd (.inl h) hOff, hFired, refused_inTime hf.1 hFrame⟩

/-! ### Turned away; the end of a slew -/

/-- MOVE_START and MOVE_RESUME at an axis that is OFF, or that the host state holds, count and are refused firings. -/
theorem moves_rejected (hHit : s.dev.actionHit 1 f.target = false ∧ s.dev.actionHit 3 f.target = false)
    (hf : f.late = false ∧ f.tag = 0 ∧ f.target < 16) (hOff : s.dev.bldState f.target = 0 ∨ s.dev.idled = true) :
    Completes (exec (.moveStart f) s) (fun t =>
      t.dev.get F.BLD_REJECT.count = min (s.dev.get F.BLD_REJECT.count + 1) (2 ^ 16 - 1) ∧ fired s t 1 f true ∧
        s.Frame ([Part.reg R.BLD_REJECT.off] ++ turnedParts) t) ∧
    Completes (exec (.moveResume f) s) (fun t =>
      t.dev.get F.BLD_REJECT.count = min (s.dev.get F.BLD_REJECT.count + 1) (2 ^ 16 - 1) ∧ fired s t 3 f true ∧
        s.Frame ([Part.reg R.BLD_REJECT.off] ++ turnedParts) t) := by
  have hStart : s.dev.bldMoveStart f.target f.arg = (s.dev.count F.BLD_REJECT.count, true) := if_pos (by simpa using hOff)
  have hResume : s.dev.bldMoveResume f.target = (s.dev.count F.BLD_REJECT.count, true) := if_pos (by simpa using hOff)
  exact ⟨completes_onDev (·.deliver 1 f false false) rfl (rejected_atAxis ⟨hf.1, hf.2.1⟩ ((action_moveStart hHit.1 hf.2.2).trans hStart)),
    completes_onDev (·.deliver 3 f false false) rfl (rejected_atAxis ⟨hf.1, hf.2.1⟩ ((action_moveResume hHit.2 hf.2.2).trans hResume))⟩

theorem slewDone_ends (a : Fin 16) (hSlews : s.dev.on (F.BLD_AXa_STATUS.slewing a) = true) (hRuns : s.dev.evt.running = true)
    (hTime : s.dev.now < 2 ^ 62 ∧ (s.dev.bldS a).slewEnd < 2 ^ 62) :
    Completes (exec (.slewDone a) s) fun t =>
      t.dev.now = s.dev.timeAt ((s.dev.bldS a).slewEnd - 1) ∧ (t.dev.bldS a).cPh = 0 ∧ (t.dev.bldS a).slewEnd = 0 ∧
      t.dev.on (F.BLD_AXa_STATUS.slewing a) = false ∧ s.Frame ([Part.bld a, Part.reg (R.BLD_AXa_STATUS a).off] ++ timeParts) t := by
  have hBound := s.dev.timeAt_lt ((s.dev.bldS a).slewEnd - 1)
  have hNow := Dev.now_advanceTo s.dev ((s.dev.bldS a).slewEnd - 1) hRuns (by omega)
  have hFrame : Dev.Frame ([Part.bld a, Part.reg (R.BLD_AXa_STATUS a).off] ++ timeParts) s.dev (s.dev.advanceTo ((s.dev.bldS a).slewEnd - 1)) :=
    Frame.advanceTo Frame.refl _ fun _ hp => List.mem_append_right _ hp
  refine completes_onDev (·.slewDone a) rfl ?_
  rw [Dev.slewDone, if_neg (by simp [hSlews])]
  generalize s.dev.advanceTo ((s.dev.bldS a).slewEnd - 1) = e at *
  refine ⟨?_, by simp, by simp, Dev.on_putB_same _ (F.BLD_AXa_STATUS.slewing a) false rfl,
    Frame.ofDev (Frame.put (Frame.modBld hFrame _ _ (by simp)) _ _ (by simp [F.BLD_AXa_STATUS.slewing]))⟩
  refine (Dev.rd_put_ne _ _ _ _ ?_).trans hNow
  simp only [F.BLD_AXa_STATUS.slewing, R.BLD_AXa_STATUS, R.EVT_TIME]
  omega

end

/-- Settles O35: clause by clause. A move that begins is `bldMove_idle` or `bldMove_behind` with its plan; a stop halts the axis
(`Dev.Halted`) and keeps the distance (`remain_bldStop`); each firing adds its record (`accepted_atAxis`, `refused_atAxis`). -/
theorem brushlessMoves : Obligations.BrushlessMoves := by
  unfold Obligations.BrushlessMoves
  refine ⟨moves_rejected, moveStart_idle, ?behind, moveStart_refused, moveStop_keepsDistance, moveStop_tooLate, moveResume_idle, moveResume_refused,
    moveResume_nothing, slewDone_ends⟩
  case behind => exact fun s f hIdled hHit hf h7 hFree _ hRec hPlan hRev => moveStart_behind s f hIdled hHit hf h7 hFree hRec hPlan hRev

end Sys2Proof.Proofs
end

section
/-! SUPPORT. Entries of the event table (R83-R85, R92): arming and disarming one, the EVT_EDIT operations, the actions ARM and DISARM. -/

open Sys2Proof Sys2Proof.Machine Sys2Proof.Claims

namespace Sys2Proof.Machine

/-! ### The armed and the gated bit (R83) -/

theorem Dev.tw_lt (d : Dev) (o : Nat) : d.tw o < 2 ^ 64 := (Store.get 0#64 d.tbl o).isLt

theorem Dev.entHi_lt (d : Dev) (i : Nat) : d.entHi i < 2 ^ 64 := d.tw_lt _

section
variable {h : Nat}

theorem entArmed_iff (hh : h < 2 ^ 64) : entArmed h = true ↔ 2 ^ 63 ≤ h := by
  simp only [entArmed, bit, Nat.shiftRight_eq_div_pow, decide_eq_true_eq]
  omega

theorem entArmed_eq_false (hh : h < 2 ^ 63) : entArmed h = false := by
  simp only [entArmed, bit, Nat.shiftRight_eq_div_pow, decide_eq_false_iff_not]
  omega

theorem lt_of_entArmed_false (hh : h < 2 ^ 64) (ha : entArmed h = false) : h < 2 ^ 63 := by
  by_contra hc
  rw [(entArmed_iff hh).2 (by omega)] at ha
  exact absurd ha (by decide)

theorem entGated_add (h : Nat) : entGated (h + 2 ^ 63) = entGated h := by
  simp only [entGated, bit, Nat.shiftRight_eq_div_pow, decide_eq_decide]
  omega

theorem entGated_sub (hh : 2 ^ 63 ≤ h) : entGated (h - 2 ^ 63) = entGated h := by
  simp only [entGated, bit, Nat.shiftRight_eq_div_pow, decide_eq_decide]
  omega

end

/-! ### What arming and disarming leave (R84, R85) -/

/-- The table words rest on the table alone. -/
theorem Frame.entHi {ps : List Part} {d e : Dev} (h : Dev.Frame ps d e) {i : Nat} (hi : Part.tbl (16 * i + 8) ∉ ps) : e.entHi i = d.entHi i := h _ hi
theorem Frame.entLo {ps : List Part} {d e : Dev} (h : Dev.Frame ps d e) {i : Nat} (hi : Part.tbl (16 * i) ∉ ps) : e.entLo i = d.entLo i := h _ hi

theorem Dev.armEntry_armed {d : Dev} {i : Nat} (ha : entArmed (d.entHi i) = true) : d.armEntry i = d := if_pos ha
theorem Dev.clearArmed_disarmed {d : Dev} {i : Nat} (ha : entArmed (d.entHi i) = false) : d.clearArmed i = d := if_neg (by simp [ha])

theorem entLo_not_mem_armParts (i j : Nat) : Part.tbl (16 * j) ∉ armParts i := by
  simp [armParts]
  omega

section
variable (d : Dev) (i : Nat)

@[simp] theorem Dev.entHi_setEvt (x : EvtSt) : ({ d with evt := x } : Dev).entHi i = d.entHi i := rfl
@[simp] theorem Dev.entHi_put (f : Fld) (v : Nat) : (d.put f v).entHi i = d.entHi i := rfl
@[simp] theorem Dev.entHi_countW (f : Fld) (n : Nat) : (d.countW f n).entHi i = d.entHi i := rfl
@[simp] theorem Dev.get_setEvt (x : EvtSt) (g : Fld) : ({ d with evt := x } : Dev).get g = d.get g := rfl
@[simp] theorem Dev.slot_countW : (d.countW F.EVT_ARMED_COUNT.count).slot = d.slot := by
  rw [Dev.slot, Dev.slot, Dev.now, Dev.now, Dev.countW, Dev.rd_put_ne _ _ _ _ (by decide)]

theorem Dev.entHi_putTw {v : Nat} (hv : v < 2 ^ 64) : (d.putTw (16 * i + 8) v).entHi i = v := by
  rw [Dev.entHi, Dev.tw_putTw_same, Nat.mod_eq_of_lt hv]

theorem Dev.frame_putEntry (v : Nat) : Dev.Frame (armParts i) d (d.putTw (16 * i + 8) v) :=
  Frame.putTw Frame.refl _ _ (by simp [armParts]) (by simp [armParts]) (by simp [armParts])

end

/-- What arming entry i notes beside its word. -/
def Dev.noteArmed (d : Dev) (i : Nat) : Dev :=
  let d := d.countW F.EVT_ARMED_COUNT.count
  { d with evt := { d.evt with newArm := d.evt.newArm ++ [(i, d.slot)] } }

/-- What disarming entry i notes beside its word, with the count of armed entries then. -/
def Dev.noteDisarmed (d : Dev) (i count : Nat) : Dev :=
  let d := d.put F.EVT_ARMED_COUNT.count count
  { d with evt := { d.evt with newArm := d.evt.newArm.filter (·.1 ≠ i), armFor := Store.set 0 d.evt.armFor i 0 } }

/-- Arming as one step: the word of entry i becomes v, and that is noted. -/
theorem Dev.noteArmed_spec {d : Dev} {i v : Nat} (hWord : v < 2 ^ 64) :
    ((d.putTw (16 * i + 8) v).noteArmed i).entHi i = v ∧
    ((d.putTw (16 * i + 8) v).noteArmed i).get F.EVT_ARMED_COUNT.count = (d.get F.EVT_ARMED_COUNT.count + 1) % 2 ^ 13 ∧
    (i, d.slot) ∈ ((d.putTw (16 * i + 8) v).noteArmed i).evt.newArm ∧
    Dev.Frame (armParts i) d ((d.putTw (16 * i + 8) v).noteArmed i) := by
  have hFrame := d.frame_putEntry i v
  have hCount : (d.putTw (16 * i + 8) v).get F.EVT_ARMED_COUNT.count = d.get F.EVT_ARMED_COUNT.count := rfl
  have hSlot : ((d.putTw (16 * i + 8) v).countW F.EVT_ARMED_COUNT.count).slot = d.slot := Dev.slot_countW _
  refine ⟨?_, ?_, ?_, Frame.setEvt (Frame.countW hFrame _ _ (by simp [armParts, F.EVT_ARMED_COUNT.count])) _ (by simp [armParts]) (.inr rfl)⟩
  · rw [Dev.noteArmed, Dev.entHi_setEvt, Dev.entHi_countW, Dev.entHi_putTw _ _ hWord]
  · rw [Dev.noteArmed, Dev.get_setEvt, Dev.get_countW_same _ _ _ rfl, hCount]
    rfl
  · simp only [Dev.noteArmed, hSlot]
    simp

/-- Disarming as one step. -/
theorem Dev.noteDisarmed_spec {d : Dev} {i v : Nat} (hWord : v < 2 ^ 64) (count : Nat) :
    ((d.putTw (16 * i + 8) v).noteDisarmed i count).entHi i = v ∧ Dev.Frame (armParts i) d ((d.putTw (16 * i + 8) v).noteDisarmed i count) := by
  have hFrame := d.frame_putEntry i v
  refine ⟨?_, Frame.setEvt (Frame.put hFrame _ _ (by simp [armParts, F.EVT_ARMED_COUNT.count])) _ (by simp [armParts]) (.inr ?_)⟩
  · rw [Dev.noteDisarmed, Dev.entHi_setEvt, Dev.entHi_put, Dev.entHi_putTw _ _ hWord]
  · simp

theorem Dev.armEntry_disarmed {d : Dev} {i : Nat} (ha : entArmed (d.entHi i) = false) :
    d.armEntry i = (d.putTw (16 * i + 8) (d.entHi i + 2 ^ 63)).noteArmed i := by
  simp only [Dev.armEntry, Dev.noteArmed, ha, Bool.false_eq_true, if_false]

theorem Dev.clearArmed_armed {d : Dev} {i : Nat} (ha : entArmed (d.entHi i) = true) :
    d.clearArmed i = (d.putTw (16 * i + 8) (d.entHi i - 2 ^ 63)).noteDisarmed i (d.get F.EVT_ARMED_COUNT.count - 1) := by
  simp only [Dev.clearArmed, Dev.noteDisarmed, ha, if_true]

/-- Arming a disarmed entry sets its armed bit, counts it and notes the slot. -/
theorem Dev.armEntry_spec {d : Dev} {i : Nat} (ha : entArmed (d.entHi i) = false) :
    (d.armEntry i).entHi i = d.entHi i + 2 ^ 63 ∧
    (d.armEntry i).get F.EVT_ARMED_COUNT.count = (d.get F.EVT_ARMED_COUNT.count + 1) % 2 ^ 13 ∧
    (i, d.slot) ∈ (d.armEntry i).evt.newArm ∧ Dev.Frame (armParts i) d (d.armEntry i) := by
  rw [Dev.armEntry_disarmed ha]
  refine Dev.noteArmed_spec ?_
  have := lt_of_entArmed_false (d.entHi_lt i) ha
  omega

/-- Disarming an armed entry clears its armed bit. -/
theorem Dev.clearArmed_spec {d : Dev} {i : Nat} (ha : entArmed (d.entHi i) = true) :
    (d.clearArmed i).entHi i = d.entHi i - 2 ^ 63 ∧ Dev.Frame (armParts i) d (d.clearArmed i) := by
  rw [Dev.clearArmed_armed ha]
  exact Dev.noteDisarmed_spec (lt_of_le_of_lt (Nat.sub_le _ _) (d.entHi_lt i)) _

/-- Disarmed by a command, an entry that was armed at the slot's start still stands for the firings of that slot (R80). -/
theorem Dev.disarmEntry_spec {d : Dev} {i : Nat} (ha : entArmed (d.entHi i) = true) :
    (d.disarmEntry i).entHi i = d.entHi i - 2 ^ 63 ∧ Dev.Frame (armParts i) d (d.disarmEntry i) ∧
    ((∀ p ∈ d.evt.newArm, p.1 ≠ i) → (i, d.slot, d.entLo i, d.entHi i) ∈ (d.disarmEntry i).evt.newDis) := by
  obtain ⟨hWord, hFrame⟩ := Dev.clearArmed_spec ha
  unfold Dev.disarmEntry
  dsimp only
  split_ifs with hOld
  · exact ⟨hWord, Frame.setEvt hFrame _ (by simp [armParts]) (.inr rfl), fun _ => List.mem_cons_self⟩
  · refine ⟨hWord, hFrame, fun hNew => absurd ?_ hOld⟩
    simp only [ha, Bool.true_and, Bool.not_eq_true', List.contains_eq_mem, decide_eq_false_iff_not]
    exact fun hMem => hNew _ hMem rfl

theorem Dev.disarmEntry_disarmed {d : Dev} {i : Nat} (ha : entArmed (d.entHi i) = false) : d.disarmEntry i = d := by
  rw [Dev.disarmEntry, if_neg (by simp [ha]), Dev.clearArmed_disarmed ha]

/-- The arming check rests on the configuration and the table. -/
theorem Dev.armCheck_congr {d e : Dev} (hFrd : e.frd = d.frd) (hHi : ∀ i, e.entHi i = d.entHi i) (lo hi : Nat) :
    e.armCheck lo hi = d.armCheck lo hi := by
  unfold Dev.armCheck Dev.pinFunc
  rw [hFrd, hHi]

theorem Dev.armCheck_lt (d : Dev) (lo hi : Nat) : d.armCheck lo hi < 9 := by
  unfold Dev.armCheck
  split_ifs <;> omega

theorem Frame.armRefused {ps : List Part} {d e : Dev} (h : Dev.Frame ps d e) (i c : Nat) (hRecs : Part.recs ∈ ps)
    (hStatus : Part.reg R.EVT_STATUS.off ∈ ps) (hIrq : ∀ p ∈ irqParts, p ∈ ps) (hStrobe : ∀ p ∈ strobeParts 22, p ∈ ps) :
    Dev.Frame ps d (e.armRefused i c) :=
  report (evtFlag (tally h _ hRecs) _ hStatus hIrq) _ _ _ (hStrobe _ (by simp [strobeParts])) (hStrobe _ (by simp [strobeParts]))

/-! ### The EVT_EDIT operations after the firings that come first (R92) -/

/-- op 3 on the entry as it stands. -/
def Dev.entryRead (d : Dev) (i : Nat) : Dev :=
  let d := (d.wr (R.EVT_EDIT_DATAj 0) (d.entLo i)).wr (R.EVT_EDIT_DATAj 1) (d.entLo i / 2 ^ 32)
  ((d.wr (R.EVT_EDIT_DATAj 2) (d.entHi i)).wr (R.EVT_EDIT_DATAj 3) (d.entHi i / 2 ^ 32)).editResult i 0 0

/-- op 0 on the entry as it stands. -/
def Dev.entryWrite (d : Dev) (i : Nat) : Dev :=
  let arm := bit (editRaw d) 63
  if entGated (d.entHi i) && arm then d.editResult i 2 0
  else if entArmed (d.entHi i) then d.editResult i 1 0
  else
    let c := if arm then d.armCheck (editLo d) (editHi d i) else 0
    if c ≠ 0 then (d.armRefused i c).editResult i 4 c
    else
      let d := (d.putTw (16 * i) (editLo d)).putTw (16 * i + 8) (editHi d i)
      (if arm then d.armEntry i else d).editResult i 0 0

/-- op 1 on the entry as it stands. -/
def Dev.entryArm (d : Dev) (i : Nat) : Dev :=
  if entGated (d.entHi i) then d.editResult i 2 0
  else if entArmed (d.entHi i) then d.editResult i 0 0
  else
    let c := d.armCheck (d.entLo i) (d.entHi i)
    if c ≠ 0 then (d.armRefused i c).editResult i 4 c else (d.armEntry i).editResult i 0 0

/-- op 2 on the entry as it stands. -/
def Dev.entryDisarm (d : Dev) (i : Nat) (fired : Bool) : Dev :=
  if entGated (d.entHi i) then d.editResult i 2 0 else (d.disarmEntry i).editResult i (if fired then 3 else 0) 0

section
variable (d : Dev) (i : Nat)

theorem Dev.editRead_eq : d.editRead i = (d.fireDue fun x => x.idx = i).1.entryRead i := rfl
theorem Dev.editWrite_eq : d.editWrite i = (d.fireDue fun x => x.idx = i).1.entryWrite i := rfl
theorem Dev.editArm_eq : d.editArm i = (d.fireDue fun x => x.idx = i).1.entryArm i := rfl
theorem Dev.editDisarm_eq :
    d.editDisarm i = (d.fireDue fun x => x.idx = i).1.entryDisarm i (d.fireDue fun x => x.idx = i).2 := rfl

variable {d i}

/-- No firing of the entry is due: the operation acts on the device as it is. -/
theorem Dev.fireDue_none (h : ∀ x ∈ d.evt.due, x.idx ≠ i) : d.fireDue (fun x => x.idx = i) = (d, false) := by
  have hFind : d.evt.due.find? (fun x => decide (x.idx = i)) = none := by simpa [List.find?_eq_none] using h
  rw [Dev.fireDue, hFind]

theorem Dev.fireDue_fires (sel : Due → Bool) : (d.fireDue sel).2 = d.evt.due.any sel := by
  have hFind : (d.evt.due.find? sel).isSome = d.evt.due.any sel := by
    rw [Bool.eq_iff_iff]
    simp
  rw [← hFind, Dev.fireDue]
  cases d.evt.due.find? sel <;> rfl

end

/-! ### The result of an operation -/

section
variable (d : Dev) {i res check : Nat}

theorem Dev.frame_editResult (i res check : Nat) : Dev.Frame editParts d (d.editResult i res check) :=
  Frame.evtFlag (Frame.wr Frame.refl _ _ (by simp [editParts])) _ (by simp [editParts]) (by simp +contextual [editParts])

theorem Dev.done_editResult (i res check : Nat) : bit ((d.editResult i res check).rd R.EVT_STATUS) 0 = true :=
  Dev.rd_flag_same _ _ _ _ _ (by decide) (by decide) (by decide)

theorem Dev.result_editResult (hi : i < 4096) (hr : res < 16) (hc : check < 256) :
    (d.editResult i res check).rd R.EVT_EDIT_RESULT = res <<< 24 + check <<< 16 + i := by
  rw [Dev.editResult, Dev.rd_evtFlag_ne _ _ _ (by decide) (by decide), Dev.rd_wr_same]
  simp only [Nat.shiftLeft_eq, R.EVT_EDIT_RESULT]
  omega

/-- The result and the index that EVT_EDIT_RESULT shows. -/
theorem Dev.fields_editResult (hi : i < 4096) (hr : res < 16) (hc : check < 256) :
    (d.editResult i res check).rd R.EVT_EDIT_RESULT % 2 ^ 12 = i ∧ (d.editResult i res check).rd R.EVT_EDIT_RESULT / 2 ^ 24 = res := by
  rw [d.result_editResult hi hr hc]
  simp only [Nat.shiftLeft_eq]
  omega

theorem tbl_not_mem_editParts (o : Nat) : Part.tbl o ∉ editParts := by simp [editParts, irqParts]

@[simp] theorem Dev.entHi_editResult (i res check j : Nat) : (d.editResult i res check).entHi j = d.entHi j :=
  Frame.entHi (d.frame_editResult i res check) (tbl_not_mem_editParts _)
@[simp] theorem Dev.entLo_editResult (i res check j : Nat) : (d.editResult i res check).entLo j = d.entLo j :=
  Frame.entLo (d.frame_editResult i res check) (tbl_not_mem_editParts _)

end

/-- What refusing to arm an entry changes, with the operation's result. -/
def refusalParts : List Part := [Part.recs] ++ strobeParts 22 ++ editParts

theorem Dev.frame_armRefused_editResult (d : Dev) (i c res check : Nat) : Dev.Frame refusalParts d ((d.armRefused i c).editResult i res check) := by
  refine Frame.trans (Frame.armRefused Frame.refl i c ?_ ?_ ?_ ?_) (Frame.mono (Dev.frame_editResult _ _ _ _) ?_) <;>
    simp +contextual [refusalParts, editParts]

theorem tbl_not_mem_refusalParts (o : Nat) : Part.tbl o ∉ refusalParts := by simp [refusalParts, editParts, irqParts, strobeParts]

theorem data_not_mem_refusalParts {j : Nat} (hj : j < 4) : Part.reg (R.EVT_EDIT_DATAj j).off ∉ refusalParts := by
  simp [refusalParts, editParts, irqParts, strobeParts, R.EVT_EDIT_DATAj, R.EVT_EDIT_RESULT, R.EVT_STATUS, R.MSIX_PBA, R.FLT_SRCi_STATE]
  omega

/-- A refusal to arm leaves every entry, and so the check, as they were. -/
theorem Dev.armCheck_refused (d : Dev) (i c res check lo hi : Nat) :
    ((d.armRefused i c).editResult i res check).armCheck lo hi = d.armCheck lo hi :=
  Dev.armCheck_congr (d.frame_armRefused_editResult i c res check .frd (by simp [refusalParts, editParts, irqParts, strobeParts]))
    (fun _ => Frame.entHi (d.frame_armRefused_editResult i c res check) (tbl_not_mem_refusalParts _)) lo hi

/-! ### Each operation (R92) -/

section
variable (d : Dev) {i : Nat}

theorem dataOff_ne {j k : Nat} (h : j ≠ k) : (R.EVT_EDIT_DATAj j).off ≠ (R.EVT_EDIT_DATAj k).off := by
  simp only [R.EVT_EDIT_DATAj]
  omega

theorem data_not_mem_editParts {j : Nat} (hj : j < 4) : Part.reg (R.EVT_EDIT_DATAj j).off ∉ editParts := by
  simp [editParts, irqParts, R.EVT_EDIT_DATAj, R.EVT_EDIT_RESULT, R.EVT_STATUS, R.MSIX_PBA]
  omega

theorem Dev.entryRead_spec (hi : i < 4096) :
    (∀ j < 4, (d.entryRead i).rd (R.EVT_EDIT_DATAj j) = (if j < 2 then d.entLo i else d.entHi i) / 2 ^ (32 * (j % 2)) % 2 ^ 32) ∧
    (d.entryRead i).rd R.EVT_EDIT_RESULT = i ∧ bit ((d.entryRead i).rd R.EVT_STATUS) 0 = true ∧
    Dev.Frame ((List.range 4).map (fun j => Part.reg (R.EVT_EDIT_DATAj j).off) ++ editParts) d (d.entryRead i) := by
  have hWr (x : Dev) (k v : Nat) : (x.wr (R.EVT_EDIT_DATAj k) v).rd (R.EVT_EDIT_DATAj k) = v % 2 ^ 32 := by
    rw [Dev.rd_wr_same]
    simp only [R.EVT_EDIT_DATAj]
    omega
  unfold Dev.entryRead
  refine ⟨fun j hj => ?_, ?_, Dev.done_editResult _ _ _ _, Frame.trans ?_ (Frame.mono (Dev.frame_editResult _ _ _ _) (by simp +contextual))⟩
  · rw [Frame.rd (Dev.frame_editResult _ _ _ _) _ (data_not_mem_editParts hj)]
    obtain rfl | rfl | rfl | rfl : j = 0 ∨ j = 1 ∨ j = 2 ∨ j = 3 := by omega
    · rw [Dev.rd_wr_ne _ _ _ _ (dataOff_ne (by omega)), Dev.rd_wr_ne _ _ _ _ (dataOff_ne (by omega)), Dev.rd_wr_ne _ _ _ _ (dataOff_ne (by omega)), hWr]
      simp
    · rw [Dev.rd_wr_ne _ _ _ _ (dataOff_ne (by omega)), Dev.rd_wr_ne _ _ _ _ (dataOff_ne (by omega)), hWr]
      rfl
    · rw [Dev.rd_wr_ne _ _ _ _ (dataOff_ne (by omega)), hWr]
      simp
      rfl
    · rw [hWr]
      rfl
  · simpa using Dev.result_editResult _ (res := 0) (check := 0) hi (by omega) (by omega)
  · refine Frame.wr (Frame.wr (Frame.wr (Frame.wr Frame.refl _ _ ?_) _ _ ?_) _ _ ?_) _ _ ?_ <;> simp [List.range, List.range.loop]

/-- What arming by op 1 leaves: the result that fits the entry. -/
theorem Dev.entryArm_spec (hi : i < 4096) :
    (d.entryArm i).rd R.EVT_EDIT_RESULT % 2 ^ 12 = i ∧
    (if entGated ((d.entryArm i).entHi i) = true then (d.entryArm i).rd R.EVT_EDIT_RESULT / 2 ^ 24 = 2
      else if entArmed ((d.entryArm i).entHi i) = true then (d.entryArm i).rd R.EVT_EDIT_RESULT / 2 ^ 24 = 0
      else (d.entryArm i).rd R.EVT_EDIT_RESULT / 2 ^ 24 = 4 ∧ (d.entryArm i).armCheck ((d.entryArm i).entLo i) ((d.entryArm i).entHi i) ≠ 0) ∧
    bit ((d.entryArm i).rd R.EVT_STATUS) 0 = true := by
  by_cases hGated : entGated (d.entHi i) = true
  · have hEq : d.entryArm i = d.editResult i 2 0 := if_pos hGated
    obtain ⟨hIdx, hRes⟩ := d.fields_editResult (res := 2) (check := 0) hi (by omega) (by omega)
    rw [hEq, Dev.entHi_editResult, if_pos hGated]
    exact ⟨hIdx, hRes, d.done_editResult _ _ _⟩
  by_cases hArmed : entArmed (d.entHi i) = true
  · have hEq : d.entryArm i = d.editResult i 0 0 := (if_neg hGated).trans (if_pos hArmed)
    obtain ⟨hIdx, hRes⟩ := d.fields_editResult (res := 0) (check := 0) hi (by omega) (by omega)
    rw [hEq, Dev.entHi_editResult, if_neg hGated, if_pos hArmed]
    exact ⟨hIdx, hRes, d.done_editResult _ _ _⟩
  by_cases hCheck : d.armCheck (d.entLo i) (d.entHi i) = 0
  · have hEq : d.entryArm i = (d.armEntry i).editResult i 0 0 := (if_neg hGated).trans ((if_neg hArmed).trans (if_neg (by simpa using hCheck)))
    have ha : entArmed (d.entHi i) = false := by simpa using hArmed
    have hHi := (Dev.armEntry_spec ha).1
    have hAfter : entArmed ((d.armEntry i).entHi i) = true := (entArmed_iff (Dev.entHi_lt _ _)).2 (by omega)
    have hKeptGate : entGated ((d.armEntry i).entHi i) = entGated (d.entHi i) := by rw [hHi, entGated_add]
    obtain ⟨hIdx, hRes⟩ := (d.armEntry i).fields_editResult (res := 0) (check := 0) hi (by omega) (by omega)
    rw [hEq, Dev.entHi_editResult, hKeptGate, if_neg hGated, if_pos hAfter]
    exact ⟨hIdx, hRes, Dev.done_editResult _ _ _ _⟩
  · have hc := d.armCheck_lt (d.entLo i) (d.entHi i)
    have hEq : d.entryArm i = (d.armRefused i (d.armCheck (d.entLo i) (d.entHi i))).editResult i 4 (d.armCheck (d.entLo i) (d.entHi i)) :=
      (if_neg hGated).trans ((if_neg hArmed).trans (if_pos hCheck))
    have hFrame := d.frame_armRefused_editResult i (d.armCheck (d.entLo i) (d.entHi i)) 4 (d.armCheck (d.entLo i) (d.entHi i))
    obtain ⟨hIdx, hRes⟩ := (d.armRefused i (d.armCheck (d.entLo i) (d.entHi i))).fields_editResult (res := 4)
      (check := d.armCheck (d.entLo i) (d.entHi i)) hi (by omega) (by omega)
    rw [hEq, Frame.entHi hFrame (tbl_not_mem_refusalParts _), Frame.entLo hFrame (tbl_not_mem_refusalParts _), if_neg hGated, if_neg hArmed,
      Dev.armCheck_refused]
    exact ⟨hIdx, ⟨hRes, hCheck⟩, Dev.done_editResult _ _ _ _⟩

theorem Dev.entryDisarm_spec (hi : i < 4096) (fires : Bool) :
    (d.entryDisarm i fires).rd R.EVT_EDIT_RESULT =
      (if entGated ((d.entryDisarm i fires).entHi i) = true then 2 else if fires = true then 3 else 0) <<< 24 + i ∧
    (entGated ((d.entryDisarm i fires).entHi i) = false → entArmed ((d.entryDisarm i fires).entHi i) = false) ∧
    bit ((d.entryDisarm i fires).rd R.EVT_STATUS) 0 = true := by
  have hRes (x : Dev) {res : Nat} (hr : res < 16) : (x.editResult i res 0).rd R.EVT_EDIT_RESULT = res <<< 24 + i := by
    simpa using x.result_editResult (check := 0) hi hr (by omega)
  by_cases hGated : entGated (d.entHi i) = true
  · have hEq : d.entryDisarm i fires = d.editResult i 2 0 := if_pos hGated
    rw [hEq, Dev.entHi_editResult, hGated, hRes _ (by omega), if_pos rfl]
    exact ⟨rfl, fun h => absurd h (by decide), d.done_editResult _ _ _⟩
  · have hEq : d.entryDisarm i fires = (d.disarmEntry i).editResult i (if fires then 3 else 0) 0 := if_neg hGated
    obtain ⟨hOpen, hDisarmed⟩ : entGated ((d.disarmEntry i).entHi i) = false ∧ entArmed ((d.disarmEntry i).entHi i) = false := by
      cases ha : entArmed (d.entHi i)
      · rw [Dev.disarmEntry_disarmed ha]
        exact ⟨by simpa using hGated, ha⟩
      · have hHigh := (entArmed_iff (d.entHi_lt i)).1 ha
        have hBound := d.entHi_lt i
        rw [(Dev.disarmEntry_spec ha).1]
        exact ⟨by rw [entGated_sub hHigh]; simpa using hGated, entArmed_eq_false (by omega)⟩
    rw [hEq, Dev.entHi_editResult, hOpen, hDisarmed, hRes _ (by split_ifs <;> omega), if_neg Bool.false_ne_true]
    exact ⟨rfl, fun _ => rfl, Dev.done_editResult _ _ _ _⟩

end

/-! ### Writing an entry (R92) -/

section
variable {d : Dev} {i : Nat}

/-- The word that op 0 gives an entry has its armed bit clear, and the gated bit of the entry. -/
theorem editHi_lt (d : Dev) (i : Nat) : editHi d i < 2 ^ 63 := by
  have hMid : bits (editRaw d) 61 49 < 2 ^ 13 := bits_lt _ _ _
  have hGated := b2n_lt (entGated (d.entHi i))
  have hLow : editRaw d % 2 ^ 48 < 2 ^ 48 := Nat.mod_lt _ (by positivity)
  unfold editHi
  omega

theorem entGated_editHi (d : Dev) (i : Nat) : entGated (editHi d i) = entGated (d.entHi i) := by
  have hMid : bits (editRaw d) 61 49 < 2 ^ 13 := bits_lt _ _ _
  have hLow : editRaw d % 2 ^ 48 < 2 ^ 48 := Nat.mod_lt _ (by positivity)
  unfold editHi
  generalize entGated (d.entHi i) = g
  cases g <;> simp only [entGated, bit, Nat.shiftRight_eq_div_pow, b2n, decide_eq_true_eq, decide_eq_false_iff_not] <;> simp <;> omega

/-- What writing an entry changes. -/
def writeParts (i : Nat) : List Part := [Part.tbl (16 * i), Part.tblChk (16 * i)] ++ armParts i ++ editParts

/-- What op 0 gives the entry, armed where the data say so. -/
def Dev.entryPut (d : Dev) (i : Nat) : Dev := (d.putTw (16 * i) (editLo d)).putTw (16 * i + 8) (editHi d i)

theorem Dev.entryPut_spec (d : Dev) (i : Nat) :
    (d.entryPut i).entLo i = editLo d % 2 ^ 64 ∧ (d.entryPut i).entHi i = editHi d i ∧ Dev.Frame (writeParts i) d (d.entryPut i) := by
  have hWord := editHi_lt d i
  unfold Dev.entryPut
  generalize editHi d i = v at *
  refine ⟨?_, Dev.entHi_putTw _ _ (by omega), Frame.putTw (Frame.putTw Frame.refl _ _ ?_ ?_ ?_) _ _ ?_ ?_ ?_⟩
  · rw [Dev.entLo, Dev.tw_putTw_ne _ _ _ _ (by omega), Dev.tw_putTw_same]
  all_goals simp [writeParts, armParts]

theorem Dev.entryWrite_written (hArmed : entArmed (d.entHi i) = false) (hGated : (entGated (d.entHi i) && bit (editRaw d) 63) = false)
    (hCheck : bit (editRaw d) 63 = true → d.armCheck (editLo d) (editHi d i) = 0) (hi : i < 4096) :
    (d.entryWrite i).entLo i = editLo d % 2 ^ 64 ∧ (d.entryWrite i).entHi i = editHi d i + b2n (bit (editRaw d) 63) * 2 ^ 63 ∧
    (d.entryWrite i).get F.EVT_ARMED_COUNT.count = (d.get F.EVT_ARMED_COUNT.count + b2n (bit (editRaw d) 63)) % 2 ^ 13 ∧
    (d.entryWrite i).rd R.EVT_EDIT_RESULT = i ∧ bit ((d.entryWrite i).rd R.EVT_STATUS) 0 = true ∧ Dev.Frame (writeParts i) d (d.entryWrite i) := by
  obtain ⟨hLo, hHi, hFrame⟩ := d.entryPut_spec i
  have hEq : d.entryWrite i = (if bit (editRaw d) 63 = true then (d.entryPut i).armEntry i else d.entryPut i).editResult i 0 0 := by
    unfold Dev.entryWrite
    dsimp only
    rw [if_neg (by simp [hGated]), if_neg (by simp [hArmed]), if_neg]
    · rfl
    · cases hArm : bit (editRaw d) 63
      · simp
      · simpa using hCheck hArm
  have hCount : (d.entryPut i).get F.EVT_ARMED_COUNT.count = d.get F.EVT_ARMED_COUNT.count := by
    rw [Dev.entryPut, Dev.get_putTw, Dev.get_putTw]
  have hDisarmed : entArmed ((d.entryPut i).entHi i) = false := by rw [hHi]; exact entArmed_eq_false (editHi_lt d i)
  have hPut : ∀ e : Dev, Dev.Frame (writeParts i) d e → Dev.Frame (writeParts i) d (e.editResult i 0 0) := fun e h =>
    Frame.trans h (Frame.mono (Dev.frame_editResult _ _ _ _) (by simp +contextual [writeParts]))
  have hGet (e : Dev) : (e.editResult i 0 0).get F.EVT_ARMED_COUNT.count = e.get F.EVT_ARMED_COUNT.count :=
    Frame.get (Dev.frame_editResult _ _ _ _) _ (by decide)
  have hRes (e : Dev) : (e.editResult i 0 0).rd R.EVT_EDIT_RESULT = i := by
    simpa using e.result_editResult (res := 0) (check := 0) hi (by omega) (by omega)
  rw [hEq]
  refine ⟨?_, ?_, ?_, hRes _, Dev.done_editResult _ _ _ _, hPut _ ?_⟩
  all_goals cases hArm : bit (editRaw d) 63
  · rw [if_neg (by decide), Dev.entLo_editResult, hLo]
  · rw [if_pos rfl, Dev.entLo_editResult, Frame.entLo (Dev.armEntry_spec hDisarmed).2.2.2 (entLo_not_mem_armParts _ _), hLo]
  · rw [if_neg (by decide), Dev.entHi_editResult, hHi, b2n_false, zero_mul, add_zero]
  · rw [if_pos rfl, Dev.entHi_editResult, (Dev.armEntry_spec hDisarmed).1, hHi, b2n_true, one_mul]
  · rw [if_neg (by decide), hGet, hCount]
    exact (Nat.mod_eq_of_lt (Dev.get_lt d F.EVT_ARMED_COUNT.count)).symm
  · rw [if_pos rfl, hGet, (Dev.armEntry_spec hDisarmed).2.1, hCount, b2n_true]
  · rw [if_neg (by decide)]
    exact hFrame
  · rw [if_pos rfl]
    exact Frame.trans hFrame (Frame.mono (Dev.armEntry_spec hDisarmed).2.2.2 (by simp +contextual [writeParts]))

theorem data_not_mem_writeParts {j : Nat} (hj : j < 4) : Part.reg (R.EVT_EDIT_DATAj j).off ∉ writeParts i := by
  have h := data_not_mem_editParts hj
  simp only [writeParts, List.mem_append, not_or]
  refine ⟨⟨by simp, ?_⟩, h⟩
  simp [armParts, R.EVT_EDIT_DATAj, R.EVT_ARMED_COUNT]
  omega

/-- The data words stay as the host wrote them. -/
theorem Frame.editData {ps : List Part} {d e : Dev} (h : Dev.Frame ps d e) (hp : ∀ j < 4, Part.reg (R.EVT_EDIT_DATAj j).off ∉ ps) :
    editLo e = editLo d ∧ editRaw e = editRaw d := by
  unfold editLo editRaw
  rw [Frame.rd h _ (hp 0 (by omega)), Frame.rd h _ (hp 1 (by omega)), Frame.rd h _ (hp 2 (by omega)), Frame.rd h _ (hp 3 (by omega))]
  exact ⟨rfl, rfl⟩

/-- op 0 in every case, in the terms of what it leaves. -/
theorem Dev.entryWrite_spec (d : Dev) (hi : i < 4096) :
    let e := d.entryWrite i
    let res := e.rd R.EVT_EDIT_RESULT / 2 ^ 24
    let arm := bit (editRaw e) 63
    e.rd R.EVT_EDIT_RESULT % 2 ^ 12 = i ∧
    (if entGated (e.entHi i) = true ∧ arm = true then res = 2
      else res = 1 ∨ (res = 4 ∧ arm = true ∧ e.armCheck (editLo e) (editHi e i) ≠ 0) ∨
        (res = 0 ∧ e.entLo i = editLo e % 2 ^ 64 ∧ e.entHi i = editHi e i + b2n arm * 2 ^ 63)) ∧
    bit (e.rd R.EVT_STATUS) 0 = true := by
  by_cases hGated : (entGated (d.entHi i) && bit (editRaw d) 63) = true
  · have hEq : d.entryWrite i = d.editResult i 2 0 := if_pos hGated
    obtain ⟨hIdx, hRes⟩ := d.fields_editResult (res := 2) (check := 0) hi (by omega) (by omega)
    obtain ⟨-, hRaw⟩ := Frame.editData (d.frame_editResult i 2 0) fun j hj => data_not_mem_editParts hj
    dsimp only
    rw [hEq, hRaw, Dev.entHi_editResult, if_pos (by simpa using hGated)]
    exact ⟨hIdx, hRes, d.done_editResult _ _ _⟩
  by_cases hArmed : entArmed (d.entHi i) = true
  · have hEq : d.entryWrite i = d.editResult i 1 0 := (if_neg hGated).trans (if_pos hArmed)
    obtain ⟨hIdx, hRes⟩ := d.fields_editResult (res := 1) (check := 0) hi (by omega) (by omega)
    obtain ⟨-, hRaw⟩ := Frame.editData (d.frame_editResult i 1 0) fun j hj => data_not_mem_editParts hj
    dsimp only
    rw [hEq, hRaw, Dev.entHi_editResult, if_neg (by simpa using hGated)]
    exact ⟨hIdx, .inl hRes, d.done_editResult _ _ _⟩
  by_cases hCheck : bit (editRaw d) 63 = true → d.armCheck (editLo d) (editHi d i) = 0
  · obtain ⟨hLo, hHi, -, hResult, hDone, hFrame⟩ := Dev.entryWrite_written (by simpa using hArmed) (by simpa using hGated) hCheck hi
    obtain ⟨hDataLo, hRaw⟩ := Frame.editData hFrame fun j hj => data_not_mem_writeParts hj
    have hKeptGate : entGated ((d.entryWrite i).entHi i) = entGated (d.entHi i) := by
      rw [hHi, ← entGated_editHi]
      cases bit (editRaw d) 63
      · simp
      · simpa using entGated_add (editHi d i)
    have hData : editHi (d.entryWrite i) i = editHi d i := by rw [editHi, hRaw, hKeptGate, ← editHi]
    dsimp only
    rw [hKeptGate, hRaw, hDataLo, hData, hResult, if_neg (by simpa using hGated)]
    exact ⟨by omega, .inr (.inr ⟨by omega, hLo, hHi⟩), hDone⟩
  · obtain ⟨hArm, hBad⟩ := Classical.not_imp.1 hCheck
    have hc := d.armCheck_lt (editLo d) (editHi d i)
    have hEq : d.entryWrite i =
        (d.armRefused i (d.armCheck (editLo d) (editHi d i))).editResult i 4 (d.armCheck (editLo d) (editHi d i)) := by
      unfold Dev.entryWrite
      dsimp only
      rw [if_neg hGated, if_neg hArmed, if_pos (by simpa [hArm] using hBad), if_pos hArm]
    have hFrame := d.frame_armRefused_editResult i (d.armCheck (editLo d) (editHi d i)) 4 (d.armCheck (editLo d) (editHi d i))
    obtain ⟨hDataLo, hRaw⟩ := Frame.editData hFrame fun j hj => data_not_mem_refusalParts hj
    have hKept := Frame.entHi (i := i) hFrame (tbl_not_mem_refusalParts _)
    have hData : editHi ((d.armRefused i (d.armCheck (editLo d) (editHi d i))).editResult i 4 (d.armCheck (editLo d) (editHi d i))) i = editHi d i := by
      rw [editHi, hRaw, hKept, ← editHi]
    obtain ⟨hIdx, hRes⟩ := (d.armRefused i (d.armCheck (editLo d) (editHi d i))).fields_editResult (res := 4)
      (check := d.armCheck (editLo d) (editHi d i)) hi (by omega) (by omega)
    dsimp only
    rw [hEq, hKept, hRaw, hDataLo, hData, hRes, Dev.armCheck_refused, if_neg (by simpa using hGated)]
    exact ⟨hIdx, .inr (.inl ⟨rfl, hArm, hBad⟩), Dev.done_editResult _ _ _ _⟩

end

end Sys2Proof.Machine

namespace Sys2Proof.Proofs

/-! ### The operations as commands -/

section
variable {s : State} {i : Fin 4096} {P : State → Prop} (hDirect : s.dev.direct R.EVT_EDIT_CTRL.off)

include hDirect

theorem completes_editRead (h : P { s with dev := s.dev.editRead i }) : Completes (exec (.editRead i) s) P :=
  completes_onDev (fun d => d.agree R.EVT_EDIT_CTRL (3 * 2 ^ 30 + i) (·.editRead i)) rfl (by rw [Dev.agree_direct _ _ _ _ hDirect]; exact h)
theorem completes_editWrite (h : P { s with dev := s.dev.editWrite i }) : Completes (exec (.editWrite i) s) P :=
  completes_onDev (fun d => d.agree R.EVT_EDIT_CTRL i (·.editWrite i)) rfl (by rw [Dev.agree_direct _ _ _ _ hDirect]; exact h)
theorem completes_editArm (h : P { s with dev := s.dev.editArm i }) : Completes (exec (.editArm i) s) P :=
  completes_onDev (fun d => d.agree R.EVT_EDIT_CTRL (2 ^ 30 + i) (·.editArm i)) rfl (by rw [Dev.agree_direct _ _ _ _ hDirect]; exact h)
theorem completes_editDisarm (h : P { s with dev := s.dev.editDisarm i }) : Completes (exec (.editDisarm i) s) P :=
  completes_onDev (fun d => d.agree R.EVT_EDIT_CTRL (2 * 2 ^ 30 + i) (·.editDisarm i)) rfl (by rw [Dev.agree_direct _ _ _ _ hDirect]; exact h)

end

section
variable {s : State} {i : Fin 4096} (hDirect : s.dev.direct R.EVT_EDIT_CTRL.off)

include hDirect

theorem editRead_shows : Completes (exec (.editRead i) s) fun t =>
    (∀ (j : Nat), j < 4 → t.dev.rd (R.EVT_EDIT_DATAj j) = (if j < 2 then t.dev.entLo i else t.dev.entHi i) / 2 ^ (32 * (j % 2)) % 2 ^ 32) ∧
    t.dev.rd R.EVT_EDIT_RESULT = i.val ∧ bit (t.dev.rd R.EVT_STATUS) 0 = true ∧ t.mem = s.mem ∧ t.pending = s.pending := by
  refine completes_editRead hDirect ?_
  rw [Dev.editRead_eq]
  generalize (s.dev.fireDue fun x => x.idx = i).1 = d
  obtain ⟨hData, hRes, hDone, hFrame⟩ := d.entryRead_spec i.isLt
  refine ⟨fun j hj => ?_, hRes, hDone, rfl, rfl⟩
  rw [Frame.entLo hFrame (by simp [editParts, irqParts]), Frame.entHi hFrame (by simp [editParts, irqParts])]
  exact hData j hj

theorem editWrite_shows : Completes (exec (.editWrite i) s) fun t =>
    let res := t.dev.rd R.EVT_EDIT_RESULT / 2 ^ 24
    let arm := bit (editRaw t.dev) 63
    t.dev.rd R.EVT_EDIT_RESULT % 2 ^ 12 = i.val ∧
    (if entGated (t.dev.entHi i) = true ∧ arm = true then res = 2
      else res = 1 ∨ (res = 4 ∧ arm = true ∧ t.dev.armCheck (editLo t.dev) (editHi t.dev i) ≠ 0) ∨
        (res = 0 ∧ t.dev.entLo i = editLo t.dev % 2 ^ 64 ∧ t.dev.entHi i = editHi t.dev i + b2n arm * 2 ^ 63)) ∧
    bit (t.dev.rd R.EVT_STATUS) 0 = true ∧ t.mem = s.mem ∧ t.pending = s.pending := by
  refine completes_editWrite hDirect ?_
  rw [Dev.editWrite_eq]
  obtain ⟨hIdx, hRes, hDone⟩ := (s.dev.fireDue fun x => x.idx = i).1.entryWrite_spec i.isLt
  exact ⟨hIdx, hRes, hDone, rfl, rfl⟩

theorem editArm_shows : Completes (exec (.editArm i) s) fun t =>
    let res := t.dev.rd R.EVT_EDIT_RESULT / 2 ^ 24
    t.dev.rd R.EVT_EDIT_RESULT % 2 ^ 12 = i.val ∧
    (if entGated (t.dev.entHi i) = true then res = 2
      else if entArmed (t.dev.entHi i) = true then res = 0 else res = 4 ∧ t.dev.armCheck (t.dev.entLo i) (t.dev.entHi i) ≠ 0) ∧
    bit (t.dev.rd R.EVT_STATUS) 0 = true ∧ t.mem = s.mem ∧ t.pending = s.pending := by
  refine completes_editArm hDirect ?_
  rw [Dev.editArm_eq]
  obtain ⟨hIdx, hRes, hDone⟩ := (s.dev.fireDue fun x => x.idx = i).1.entryArm_spec i.isLt
  exact ⟨hIdx, hRes, hDone, rfl, rfl⟩

theorem editDisarm_shows : Completes (exec (.editDisarm i) s) fun t =>
    let fires := s.dev.evt.due.any (fun x => x.idx = i.val)
    t.dev.rd R.EVT_EDIT_RESULT = (if entGated (t.dev.entHi i) = true then 2 else if fires = true then 3 else 0) <<< 24 + i.val ∧
    (entGated (t.dev.entHi i) = false → entArmed (t.dev.entHi i) = false) ∧
    bit (t.dev.rd R.EVT_STATUS) 0 = true ∧ t.mem = s.mem ∧ t.pending = s.pending := by
  refine completes_editDisarm hDirect ?_
  rw [Dev.editDisarm_eq, Dev.fireDue_fires]
  obtain ⟨hRes, hArmed, hDone⟩ := (s.dev.fireDue fun x => x.idx = i).1.entryDisarm_spec i.isLt (s.dev.evt.due.any fun x => x.idx = i)
  exact ⟨hRes, hArmed, hDone, rfl, rfl⟩

/-! ### With no firing of the entry due -/

variable (hNoneDue : ∀ x ∈ s.dev.evt.due, x.idx ≠ i.val)

include hNoneDue

theorem editRead_reads : Completes (exec (.editRead i) s) fun t =>
    (∀ (j : Nat), j < 4 → t.dev.rd (R.EVT_EDIT_DATAj j) = (if j < 2 then s.dev.entLo i else s.dev.entHi i) / 2 ^ (32 * (j % 2)) % 2 ^ 32) ∧
    t.dev.rd R.EVT_EDIT_RESULT = i.val ∧ bit (t.dev.rd R.EVT_STATUS) 0 = true ∧
    s.Frame ((List.range 4).map (fun j => Part.reg (R.EVT_EDIT_DATAj j).off) ++ editParts) t := by
  refine completes_editRead hDirect ?_
  rw [Dev.editRead_eq, Dev.fireDue_none hNoneDue]
  obtain ⟨hData, hRes, hDone, hFrame⟩ := s.dev.entryRead_spec i.isLt
  exact ⟨hData, hRes, hDone, Frame.ofDev hFrame⟩

theorem editWrite_writes (hArmed : entArmed (s.dev.entHi i) = false) (hGated : entGated (s.dev.entHi i) = false)
    (hCheck : bit (editRaw s.dev) 63 = true → s.dev.armCheck (editLo s.dev) (editHi s.dev i) = 0) :
    Completes (exec (.editWrite i) s) fun t =>
      t.dev.entLo i = editLo s.dev % 2 ^ 64 ∧ t.dev.entHi i = editHi s.dev i + b2n (bit (editRaw s.dev) 63) * 2 ^ 63 ∧
      t.dev.get F.EVT_ARMED_COUNT.count = (s.dev.get F.EVT_ARMED_COUNT.count + b2n (bit (editRaw s.dev) 63)) % 2 ^ 13 ∧
      t.dev.rd R.EVT_EDIT_RESULT = i.val ∧ s.Frame ([Part.tbl (16 * i.val), Part.tblChk (16 * i.val)] ++ armParts i ++ editParts) t := by
  refine completes_editWrite hDirect ?_
  rw [Dev.editWrite_eq, Dev.fireDue_none hNoneDue]
  obtain ⟨hLo, hHi, hCount, hRes, -, hFrame⟩ := Dev.entryWrite_written hArmed (by simp [hGated]) hCheck i.isLt
  exact ⟨hLo, hHi, hCount, hRes, Frame.ofDev hFrame⟩

theorem editWrite_armed (hArmed : entArmed (s.dev.entHi i) = true) (hGated : bit (editRaw s.dev) 63 = true → entGated (s.dev.entHi i) = false) :
    Completes (exec (.editWrite i) s) fun t => t.dev.rd R.EVT_EDIT_RESULT = 1 <<< 24 + i.val ∧ s.Frame editParts t := by
  refine completes_editWrite hDirect ?_
  have hEq : s.dev.entryWrite i = s.dev.editResult i 1 0 := by
    refine (if_neg ?_).trans (if_pos hArmed)
    rw [Bool.and_eq_true]
    exact fun h => absurd h.1 (by simp [hGated h.2])
  rw [Dev.editWrite_eq, Dev.fireDue_none hNoneDue, hEq]
  exact ⟨s.dev.result_editResult (res := 1) (check := 0) i.isLt (by omega) (by omega), Frame.ofDev (s.dev.frame_editResult _ _ _)⟩

theorem editArm_arms (hArmed : entArmed (s.dev.entHi i) = false) (hGated : entGated (s.dev.entHi i) = false)
    (hCheck : s.dev.armCheck (s.dev.entLo i) (s.dev.entHi i) = 0) :
    Completes (exec (.editArm i) s) fun t =>
      t.dev.entHi i = s.dev.entHi i + 2 ^ 63 ∧
      t.dev.get F.EVT_ARMED_COUNT.count = (s.dev.get F.EVT_ARMED_COUNT.count + 1) % 2 ^ 13 ∧
      (i.val, s.dev.slot) ∈ t.dev.evt.newArm ∧ t.dev.rd R.EVT_EDIT_RESULT = i.val ∧ s.Frame (armParts i ++ editParts) t := by
  refine completes_editArm hDirect ?_
  have hEq : s.dev.entryArm i = (s.dev.armEntry i).editResult i 0 0 :=
    (if_neg (by simp [hGated])).trans ((if_neg (by simp [hArmed])).trans (if_neg (by simpa using hCheck)))
  obtain ⟨hHi, hCount, hNew, hFrame⟩ := Dev.armEntry_spec hArmed
  have hRes := (s.dev.armEntry i).frame_editResult i 0 0
  have hNew' : ((s.dev.armEntry i).editResult i 0 0).evt = (s.dev.armEntry i).evt := by simp [Dev.editResult]
  rw [Dev.editArm_eq, Dev.fireDue_none hNoneDue, hEq]
  refine ⟨by rw [Dev.entHi_editResult, hHi], ?_, ?_, ?_, Frame.ofDev (Frame.trans (Frame.mono hFrame (by simp +contextual)) (Frame.mono hRes (by simp +contextual)))⟩
  · rw [Frame.get hRes _ (by decide), hCount]
  · rw [hNew']
    exact hNew
  · simpa using (s.dev.armEntry i).result_editResult (res := 0) (check := 0) i.isLt (by omega) (by omega)

theorem editArm_failsCheck (hArmed : entArmed (s.dev.entHi i) = false) (hGated : entGated (s.dev.entHi i) = false)
    (hCheck : s.dev.armCheck (s.dev.entLo i) (s.dev.entHi i) ≠ 0) :
    Completes (exec (.editArm i) s) fun t =>
      t.dev.rd R.EVT_EDIT_RESULT = (4 <<< 24 + s.dev.armCheck (s.dev.entLo i) (s.dev.entHi i) <<< 16 + i.val) % 2 ^ 32 ∧
      s.Frame ([Part.recs] ++ strobeParts 22 ++ editParts) t := by
  refine completes_editArm hDirect ?_
  have hc := s.dev.armCheck_lt (s.dev.entLo i) (s.dev.entHi i)
  have hEq : s.dev.entryArm i = (s.dev.armRefused i (s.dev.armCheck (s.dev.entLo i) (s.dev.entHi i))).editResult i 4
      (s.dev.armCheck (s.dev.entLo i) (s.dev.entHi i)) :=
    (if_neg (by simp [hGated])).trans ((if_neg (by simp [hArmed])).trans (if_pos hCheck))
  rw [Dev.editArm_eq, Dev.fireDue_none hNoneDue, hEq]
  refine ⟨?_, Frame.ofDev (s.dev.frame_armRefused_editResult _ _ _ _)⟩
  refine (Dev.result_editResult _ i.isLt (by omega) (by omega)).trans ?_
  have := i.isLt
  simp only [Nat.shiftLeft_eq]
  omega

/-- Arming and disarming a gated entry by the host are refused with result 2. -/
theorem edit_gated (hGated : entGated (s.dev.entHi i) = true) :
    Completes (exec (.editArm i) s) (fun t => t.dev.rd R.EVT_EDIT_RESULT = 2 <<< 24 + i.val ∧ s.Frame editParts t) ∧
    Completes (exec (.editDisarm i) s) (fun t => t.dev.rd R.EVT_EDIT_RESULT = 2 <<< 24 + i.val ∧ s.Frame editParts t) := by
  have hRes := s.dev.result_editResult (res := 2) (check := 0) i.isLt (by omega) (by omega)
  have hFrame : s.Frame editParts { s with dev := s.dev.editResult i 2 0 } := Frame.ofDev (s.dev.frame_editResult _ _ _)
  constructor
  · refine completes_editArm hDirect ?_
    have hEq : s.dev.entryArm i = s.dev.editResult i 2 0 := if_pos hGated
    rw [Dev.editArm_eq, Dev.fireDue_none hNoneDue, hEq]
    exact ⟨hRes, hFrame⟩
  · refine completes_editDisarm hDirect ?_
    have hEq : s.dev.entryDisarm i false = s.dev.editResult i 2 0 := if_pos hGated
    rw [Dev.editDisarm_eq, Dev.fireDue_none hNoneDue, hEq]
    exact ⟨hRes, hFrame⟩

theorem editDisarm_disarms (hArmed : entArmed (s.dev.entHi i) = true) (hGated : entGated (s.dev.entHi i) = false) :
    Completes (exec (.editDisarm i) s) fun t =>
      t.dev.entHi i = s.dev.entHi i - 2 ^ 63 ∧
      ((∀ p ∈ s.dev.evt.newArm, p.1 ≠ i.val) → (i.val, s.dev.slot, s.dev.entLo i, s.dev.entHi i) ∈ t.dev.evt.newDis) ∧
      t.dev.rd R.EVT_EDIT_RESULT = i.val ∧ s.Frame (armParts i ++ editParts) t := by
  refine completes_editDisarm hDirect ?_
  obtain ⟨hHi, hFrame, hDis⟩ := Dev.disarmEntry_spec hArmed
  have hEq : s.dev.entryDisarm i false = (s.dev.disarmEntry i).editResult i 0 0 := if_neg (by simp [hGated])
  have hRes := (s.dev.disarmEntry i).frame_editResult i 0 0
  have hEvt : ((s.dev.disarmEntry i).editResult i 0 0).evt = (s.dev.disarmEntry i).evt := by simp [Dev.editResult]
  rw [Dev.editDisarm_eq, Dev.fireDue_none hNoneDue, hEq]
  refine ⟨by rw [Dev.entHi_editResult, hHi], ?_, ?_, Frame.ofDev (Frame.trans (Frame.mono hFrame (by simp +contextual)) (Frame.mono hRes (by simp +contextual)))⟩
  · rw [hEvt]
    exact hDis
  · simpa using (s.dev.disarmEntry i).result_editResult (res := 0) (check := 0) i.isLt (by omega) (by omega)

end

/-! ### The actions ARM and DISARM (R83, R85) -/

section
variable {s : State} {f : Firing}

theorem action_arm {d : Dev} (h : d.actionHit 0x0B f.target = false) : d.action 0x0B f = d.armAction f.arg := by simp [Dev.action, h]
theorem action_disarm {d : Dev} (h : d.actionHit 0x0C f.target = false) : d.action 0x0C f = d.disarmAction f.arg := by simp [Dev.action, h]

theorem tbl_not_mem_recordingParts (o : Nat) : Part.tbl o ∉ recordingParts := by simp [recordingParts, turnedParts, irqParts, strobeParts]

/-- An accepted action that changes entry i alone. -/
theorem accepted_atEntry {code i : Nat} {e : Dev} (hAct : s.dev.action code f = (e, false)) (hFrame : Dev.Frame (armParts i) s.dev e) :
    let t : State := { s with dev := s.dev.deliver code f false false }
    t.dev.entHi i = e.entHi i ∧ fired s t code f false ∧ s.Frame (firingParts f ++ armParts i) t := by
  obtain ⟨t, rfl, hFired, hKept, hDev, hMem⟩ := accepted_spec hAct hFrame (by simp [armParts]) (by simp [armParts, R.EVT_TIME, R.EVT_ARMED_COUNT])
  exact ⟨Frame.entHi hKept (tbl_not_mem_recordingParts _), hFired, Frame.mono hDev fun p hp => by simp only [List.mem_append] at hp ⊢; tauto, hMem⟩

theorem armAction_arms (hHit : s.dev.actionHit 0x0B f.target = false) (hArg : f.arg < 4096) (hArmed : entArmed (s.dev.entHi f.arg) = false)
    (hGated : entGated (s.dev.entHi f.arg) = false) (hCheck : s.dev.armCheck (s.dev.entLo f.arg) (s.dev.entHi f.arg) = 0) :
    Completes (exec (.arm f) s) fun t =>
      t.dev.entHi f.arg = s.dev.entHi f.arg + 2 ^ 63 ∧ t.dev.evt.recs = s.dev.evt.recs ++ [(s.dev.slot, firingRec 0x0B f false)] ∧
      s.Frame (firingParts f ++ armParts f.arg) t := by
  obtain ⟨hHi, -, -, hFrame⟩ := Dev.armEntry_spec hArmed
  have hAct : s.dev.action 0x0B f = (s.dev.armEntry f.arg, false) := by
    rw [action_arm hHit, Dev.armAction, if_neg (by simp [hGated]; omega), if_neg (by simp [hArmed])]
    dsimp only
    rw [if_pos hCheck]
  obtain ⟨hWord, hFired, hEnd⟩ := accepted_atEntry hAct hFrame
  exact completes_onDev (·.deliver 0x0B f false false) rfl ⟨hWord.trans hHi, hFired, hEnd⟩

theorem disarmAction_disarms (hHit : s.dev.actionHit 0x0C f.target = false) (hArg : f.arg < 4096) (hArmed : entArmed (s.dev.entHi f.arg) = true)
    (hGated : entGated (s.dev.entHi f.arg) = false) :
    Completes (exec (.disarm f) s) fun t =>
      t.dev.entHi f.arg = s.dev.entHi f.arg - 2 ^ 63 ∧ t.dev.evt.recs = s.dev.evt.recs ++ [(s.dev.slot, firingRec 0x0C f false)] ∧
      s.Frame (firingParts f ++ armParts f.arg) t := by
  obtain ⟨hHi, hFrame, -⟩ := Dev.disarmEntry_spec hArmed
  have hAct : s.dev.action 0x0C f = (s.dev.disarmEntry f.arg, false) := by
    rw [action_disarm hHit, Dev.disarmAction, if_neg (by simp [hGated]; omega)]
  obtain ⟨hWord, hFired, hEnd⟩ := accepted_atEntry hAct hFrame
  exact completes_onDev (·.deliver 0x0C f false false) rfl ⟨hWord.trans hHi, hFired, hEnd⟩

end

/-- Settles O15: clause by clause. An operation acts on the device that the entry's own due firing leaves (`fireDue`), with the outcome of
`entryRead`, `entryWrite`, `entryArm` or `entryDisarm`; the actions arm and disarm as the operations do. -/
theorem evtEntries : Obligations.EvtEntries := by
  unfold Obligations.EvtEntries
  refine ⟨?shows, ?writeShows, ?armShows, ?disarmShows, ?reads, ?writes, ?writeArmed, ?arms, ?armFails, ?gated, ?disarms, ?armAction, ?disarmAction⟩
  case shows => exact fun s i h => editRead_shows h
  case writeShows => exact fun s i h => editWrite_shows h
  case armShows => exact fun s i h => editArm_shows h
  case disarmShows => exact fun s i h => editDisarm_shows h
  case reads => exact fun s i h hNone => editRead_reads h hNone
  case writes => exact fun s i h hNone hArmed hGated hCheck => editWrite_writes h hNone hArmed hGated hCheck
  case writeArmed => exact fun s i h hNone hArmed hGated => editWrite_armed h hNone hArmed hGated
  case arms => exact fun s i h hNone hArmed hGated hCheck => editArm_arms h hNone hArmed hGated hCheck
  case armFails => exact fun s i h hNone hArmed hGated hCheck => editArm_failsCheck h hNone hArmed hGated hCheck
  case gated => exact fun s i h hNone hGated => edit_gated h hNone hGated
  case disarms => exact fun s i h hNone hArmed hGated => editDisarm_disarms h hNone hArmed hGated
  case armAction => exact fun s f hHit hArg hArmed hGated hCheck => armAction_arms hHit hArg hArmed hGated hCheck
  case disarmAction => exact fun s f hHit hArg hArmed hGated => disarmAction_disarms hHit hArg hArmed hGated

end Sys2Proof.Proofs
end

section
/-! SUPPORT. Encoders: the state in which the statement about an edge's apply time fails, and what a shut-down leaves of the counts there. -/

open Sys2Proof Sys2Proof.Machine Sys2Proof.Claims

namespace Sys2Proof.Machine

/-! ### What keeps the state of the power sequencer -/

section
variable (d : Dev)

theorem Dev.pwrSt_wr (r : Reg) (v : Nat) (h : r.off ≠ R.PWR_STATE.off) : (d.wr r v).pwrSt = d.pwrSt := Dev.get_wr_ne _ _ _ _ h.symm
theorem Dev.pwrSt_put (f : Fld) (v : Nat) (h : f.reg.off ≠ R.PWR_STATE.off) : (d.put f v).pwrSt = d.pwrSt := Dev.get_put_ne _ _ _ _ h.symm
theorem Dev.pwrSt_count (f : Fld) (n : Nat) (h : f.reg.off ≠ R.PWR_STATE.off) : (d.count f n).pwrSt = d.pwrSt := d.pwrSt_put _ _ h
theorem Dev.pwrSt_putB (f : Fld) (b : Bool) (h : f.reg.off ≠ R.PWR_STATE.off) : (d.putB f b).pwrSt = d.pwrSt := d.pwrSt_put _ _ h
theorem Dev.pwrSt_putBit (f : Fld) (k : Nat) (b : Bool) (h : f.reg.off ≠ R.PWR_STATE.off) : (d.putBit f k b).pwrSt = d.pwrSt :=
  d.pwrSt_put _ _ h

/-- What each step keeps, the whole keeps. -/
theorem Dev.kept_each {α β : Type} (g : Dev → β) (l : List α) (u : Dev → α → Dev) (h : ∀ x a, g (u x a) = g x) : g (d.each l u) = g d := by
  rw [Dev.each]
  induction l generalizing d with
  | nil => rfl
  | cons a l ih => rw [List.foldl_cons, ih, h]

theorem Dev.pwrSt_each {α : Type} (l : List α) (u : Dev → α → Dev) (h : ∀ x a, (u x a).pwrSt = x.pwrSt) : (d.each l u).pwrSt = d.pwrSt :=
  d.kept_each Dev.pwrSt l u h

/-- A choice keeps what both its ways keep. -/
theorem Dev.pwrSt_ite {c : Prop} [Decidable c] {e f : Dev} (he : e.pwrSt = d.pwrSt) (hf : f.pwrSt = d.pwrSt) :
    (if c then e else f).pwrSt = d.pwrSt := by
  split_ifs
  · exact he
  · exact hf

@[simp] theorem Dev.pwrSt_fltFlag (k : Nat) : (d.fltFlag k).pwrSt = d.pwrSt := Dev.get_fltFlag_ne _ _ _ (by decide) (by decide)
@[simp] theorem Dev.pwrSt_advanceTo (t : Nat) : (d.advanceTo t).pwrSt = d.pwrSt := Dev.get_advanceTo_ne _ _ _ (by decide) (by decide)
@[simp] theorem Dev.pwrSt_setEvt (x : EvtSt) : ({ d with evt := x } : Dev).pwrSt = d.pwrSt := rfl
@[simp] theorem Dev.pwrSt_setFlt (x : FltSt) : ({ d with flt := x } : Dev).pwrSt = d.pwrSt := rfl

@[simp] theorem Dev.pwrSt_lgEvent (k : Nat) : (d.lgEvent k).pwrSt = d.pwrSt := by
  rw [Dev.lgEvent]
  split_ifs
  · exact d.pwrSt_wr _ _ (by decide)
  · rfl

@[simp] theorem Dev.pwrSt_lgFault (src d0 : Nat) : (d.lgFault src d0).pwrSt = d.pwrSt := by
  rw [Dev.lgFault]
  split_ifs
  · rw [Dev.pwrSt_lgEvent, Dev.pwrSt_putBit _ _ _ _ (by decide)]
  · rfl

@[simp] theorem Dev.pwrSt_nameLatches (src esn : Nat) : (d.nameLatches src esn).pwrSt = d.pwrSt := d.pwrSt_each _ _ fun _ _ => rfl
@[simp] theorem Dev.pwrSt_nameCut (d0 esn : Nat) : (d.nameCut d0 esn).pwrSt = d.pwrSt := rfl

@[simp] theorem Dev.pwrSt_dcbName (slot esn : Nat) : (d.dcbName slot esn).pwrSt = d.pwrSt :=
  d.pwrSt_each _ _ fun x m => by
    dsimp only
    split_ifs <;> rfl

/-- The Tally window and its registers lie apart from those of the sequencer. -/
@[simp] theorem Dev.pwrSt_writeRec (r : SlotRec) : (d.writeRec r).pwrSt = d.pwrSt := by
  have hPlace : d.rd R.EVT_ESN % 1024 < 1024 := Nat.mod_lt _ (by omega)
  rw [Dev.writeRec]
  generalize hk : 4 * (d.rd R.EVT_ESN % 1024) = k
  have hTally (w : Nat) (hw : w < 4096) : (R.EVT_TALLY w).off ≠ R.PWR_STATE.off := by
    simp only [R.EVT_TALLY, R.PWR_STATE]
    omega
  rw [Dev.pwrSt_wr _ _ _ (by decide), Dev.pwrSt_wr _ _ _ (hTally (k + 3) (by omega)), Dev.pwrSt_wr _ _ _ (hTally (k + 2) (by omega)), Dev.pwrSt_wr _ _ _ (hTally (k + 1) (by omega)),
    Dev.pwrSt_wr _ _ _ (hTally k (by omega))]
  split_ifs
  · exact d.pwrSt_count _ _ (by decide)
  · rfl

@[simp] theorem Dev.pwrSt_flushBefore (k : Nat) : (d.flushBefore k).pwrSt = d.pwrSt :=
  Dev.pwrSt_each _ _ _ fun x r => x.pwrSt_writeRec r.2

@[simp] theorem Dev.pwrSt_writeHistory (num : Nat) (ws : List Nat) (latched : Bool) : (d.writeHistory num ws latched).pwrSt = d.pwrSt := by
  have hHistory : ∀ (x : Dev) (p : Nat × Nat), (x.wr (R.FLT_HISTORY (4 * (num % 32) + p.2)) p.1).pwrSt = x.pwrSt := fun x p =>
    x.pwrSt_wr _ _ (by simp only [R.FLT_HISTORY, R.PWR_STATE]; omega)
  rw [Dev.writeHistory]
  split_ifs
  · rw [Dev.pwrSt_put _ _ _ (by decide), Dev.pwrSt_setFlt, Dev.pwrSt_each _ _ _ fun x p => x.pwrSt_wr _ _ ?_, Dev.pwrSt_each _ _ _ hHistory]
    simp only [R.FLT_LATCH_RECj, R.PWR_STATE]
    omega
  · exact d.pwrSt_each _ _ hHistory

theorem srcState_ne_pwrState (i : Nat) : (R.FLT_SRCi_STATE i).off ≠ R.PWR_STATE.off := by
  simp only [R.FLT_SRCi_STATE, R.PWR_STATE]
  omega

theorem srcEsn_ne_pwrState (i : Nat) : (R.FLT_SRCi_ESN i).off ≠ R.PWR_STATE.off := by
  simp only [R.FLT_SRCi_ESN, R.PWR_STATE]
  omega

@[simp] theorem Dev.pwrSt_srcShow (i : Nat) : (d.srcShow i).pwrSt = d.pwrSt := by
  rw [Dev.srcShow]
  rw [apply_ite Dev.pwrSt, Dev.pwrSt_putBit _ _ _ _ (by decide), ite_self, Dev.pwrSt_put _ _ _ (srcState_ne_pwrState i),
    Dev.pwrSt_putB _ _ _ (srcState_ne_pwrState i), Dev.pwrSt_put _ _ _ (srcState_ne_pwrState i)]

@[simp] theorem Dev.pwrSt_holdShow : d.holdShow.pwrSt = d.pwrSt := by
  rw [Dev.holdShow, Dev.pwrSt_putB _ _ _ (by decide)]
  exact d.pwrSt_each _ _ fun x i => x.pwrSt_putB _ _ (srcState_ne_pwrState i)

@[simp] theorem Dev.pwrSt_fltShow : d.fltShow.pwrSt = d.pwrSt := by
  have hShown : (d.each (List.range 42) Dev.srcShow).pwrSt = d.pwrSt := d.pwrSt_each _ _ fun x i => x.pwrSt_srcShow i
  rw [Dev.fltShow]
  dsimp only
  rw [apply_ite Dev.pwrSt, Dev.pwrSt_setFlt, ite_self, Dev.pwrSt_putB _ _ _ (by decide), Dev.pwrSt_putB _ _ _ (by decide), Dev.pwrSt_holdShow,
    Dev.pwrSt_putB _ _ _ (by decide), Dev.pwrSt_putB _ _ _ (by decide), Dev.pwrSt_wr _ _ _ (by decide), hShown]

end

/-! ### A fault record without reactions (R365, R369) -/

section
variable {d : Dev}

theorem Dev.reactions_of_noReacts (h : d.frd.cfg.reacts = []) (i : Nat) : (d.reactOf i).reactions = 0 := by
  rw [Dev.reactOf, Dev.react, h]
  split_ifs <;> rfl

theorem Dev.blockedBits_single (h : d.twin = false) (i : Nat) : d.blockedBits i = 0 := by rw [Dev.blockedBits, h]; rfl

theorem appliedBits_zero (i : Nat) (cons cut : Bool) : appliedBits i 0 0 cons cut = 0 := by
  cases cons <;> simp [appliedBits, putBits]

theorem Dev.coveredBy_none (h : d.flt.shadows = []) (i t : Nat) : d.coveredBy i t = none := by
  rw [Dev.coveredBy, h]
  split_ifs <;> rfl

theorem State.pwrSt_applyReactions_zero (s : State) (i esn d0 d1 : Nat) : (s.applyReactions i esn 0 d0 d1).dev.pwrSt = s.dev.pwrSt := rfl

theorem Dev.writeRec_frd (d : Dev) (r : SlotRec) : (d.writeRec r).frd = d.frd := by
  rw [Dev.writeRec, Dev.wr_frd, Dev.wr_frd, Dev.wr_frd, Dev.wr_frd, Dev.wr_frd, apply_ite Dev.frd, Dev.count_frd, ite_self]

theorem Dev.writeRec_flt (d : Dev) (r : SlotRec) : (d.writeRec r).flt = d.flt := by
  rw [Dev.writeRec, Dev.wr_flt, Dev.wr_flt, Dev.wr_flt, Dev.wr_flt, Dev.wr_flt, apply_ite Dev.flt, Dev.count_flt, ite_self]

theorem Dev.flushBefore_frd (d : Dev) (k : Nat) : (d.flushBefore k).frd = d.frd :=
  Dev.kept_each _ Dev.frd _ _ fun x r => x.writeRec_frd r.2

theorem Dev.flushBefore_flt (d : Dev) (k : Nat) : (d.flushBefore k).flt = d.flt :=
  Dev.kept_each _ Dev.flt _ _ fun x r => x.writeRec_flt r.2

end

/-- Without REACT entries and without a shadow, a record leaves the sequencer as it is. -/
theorem State.pwrSt_faultRecord {s : State} (hReacts : s.dev.frd.cfg.reacts = []) (hSingle : s.dev.twin = false) (hShadows : s.dev.flt.shadows = []) :
    s.faultRecord.dev.pwrSt = s.dev.pwrSt := by
  unfold State.faultRecord
  cases s.dev.nextStrobe with
  | none => rfl
  | some x =>
    dsimp -zeta only
    extract_lets dTime fltTime dTaken d i re esn given cover cons esc cls blocked applied closed num link dRec lost dLost w3 dHist dNum r
      fltNum dOpen fltOpen dQuiet dFlag dLatch dDcb dCut dHook us fltHook dShadow dAgree dDrop sDrop sReact dReact dShow
    have hFrd : d.frd = s.dev.frd := by rw [Dev.flushBefore_frd]; exact Dev.advanceTo_frd _ _
    have hFlt : d.flt.shadows = [] := by
      rw [Dev.flushBefore_flt]
      exact (congrArg FltSt.shadows (Dev.advanceTo_flt _ _)).trans hShadows
    have hCover : cover = none := Dev.coveredBy_none hFlt _ _
    have hClosed : closed = 0 := by simp only [closed, hCover]
    have hBlocked : blocked = 0 := Dev.blockedBits_single (by rw [Dev.twin, hFrd, ← Dev.twin, hSingle]) _
    have hReactions : re.reactions = 0 := Dev.reactions_of_noReacts (by rw [hFrd, hReacts]) _
    have hApplied : applied = 0 := by
      simp only [applied, hReactions, hBlocked]
      exact appliedBits_zero _ _ _
    have hLost : dLost.pwrSt = s.dev.pwrSt := by
      have hRec : dRec.pwrSt = s.dev.pwrSt := by
        rw [Dev.pwrSt_writeRec, Dev.pwrSt_flushBefore]
        exact Dev.pwrSt_advanceTo _ _
      refine Dev.pwrSt_ite _ ?_ hRec
      rw [Dev.pwrSt_fltFlag, Dev.pwrSt_count _ _ _ (by decide), hRec]
    have hNum : dNum.pwrSt = s.dev.pwrSt := by
      rw [Dev.pwrSt_wr _ _ _ (srcEsn_ne_pwrState i), Dev.pwrSt_wr _ _ _ (by decide), Dev.pwrSt_writeHistory, hLost]
    have hQuiet : dQuiet.pwrSt = s.dev.pwrSt := Dev.pwrSt_ite _ (Dev.pwrSt_ite _ hNum hNum) (Dev.pwrSt_ite _ hNum hNum)
    have hLatch : dLatch.pwrSt = s.dev.pwrSt := by
      rw [Dev.pwrSt_nameLatches, Dev.pwrSt_lgFault]
      exact Dev.pwrSt_ite _ ((Dev.pwrSt_fltFlag _ _).trans hQuiet) hQuiet
    have hCut : dCut.pwrSt = s.dev.pwrSt := by
      have hDcb : dDcb.pwrSt = s.dev.pwrSt := Dev.pwrSt_ite _ ((Dev.pwrSt_dcbName _ _ _).trans hLatch) hLatch
      exact Dev.pwrSt_ite _ hDcb hDcb
    have hShadow : dShadow.pwrSt = s.dev.pwrSt := by
      have hHook : dHook.pwrSt = s.dev.pwrSt := by
        simp only [dHook, if_pos hClosed]
        exact hCut
      exact Dev.pwrSt_ite _ hHook hHook
    have hDrop : dDrop.pwrSt = s.dev.pwrSt := by
      have hAgree : dAgree = dShadow := if_neg (by simp [hBlocked])
      have hNone : dDrop = dAgree := if_neg (by simp [hApplied, bit])
      rw [hNone, hAgree, hShadow]
    have hReact : dReact.pwrSt = s.dev.pwrSt := by
      have hZero : (sDrop.applyReactions i esn applied x.d0 x.d1).dev.pwrSt = s.dev.pwrSt := by
        rw [hApplied, State.pwrSt_applyReactions_zero]
        exact hDrop
      simp only [dReact, sReact]
      split_ifs
      · exact hDrop
      · exact hZero
    have hShow : dShow.pwrSt = s.dev.pwrSt := by
      refine Dev.pwrSt_ite _ ?_ hReact
      rw [Dev.pwrSt_lgEvent, Dev.pwrSt_fltFlag, hReact]
    clear_value dShow
    dsimp only
    exact (Dev.pwrSt_fltShow dShow).trans hShow

/-! ### A device with nothing in hand: what a shut-down meets in STANDBY (R339, R343) -/

/-- The registers that say so: of the sequencer, the descriptors and the queues. -/
def restingReg (r : Reg) : Prop := r = R.PWR_STATE ∨ (∃ k < 32, r = R.SHT_Dd_STATE k) ∨ ∃ q < 16, r = R.DMA_Qq_STATUS q

/-- The sequencer stands in STANDBY, there is neither an image nor a shadow, no sheet is in flight and no queue runs. -/
structure Dev.Resting (d : Dev) : Prop where
  standby : d.pwrSt = 1
  noReacts : d.frd.cfg.reacts = []
  single : d.twin = false
  shadows : d.flt.shadows = []
  sheets : ∀ k < 32, d.shtState k ≠ 2 ∧ d.shtState k ≠ 3
  queues : ∀ q < 16, d.get (F.DMA_Qq_STATUS.state q) = 0

section
variable {d e : Dev}

/-- Resting is said by those registers. -/
theorem Dev.Resting.congr (h : d.Resting) (hFrd : e.frd = d.frd) (hShadows : e.flt.shadows = d.flt.shadows)
    (hRd : ∀ r, restingReg r → e.rd r = d.rd r) : e.Resting where
  standby := (congrArg (bits · _ _) (hRd _ (.inl rfl))).trans h.standby
  noReacts := by rw [hFrd, h.noReacts]
  single := by rw [Dev.twin, hFrd, ← Dev.twin, h.single]
  shadows := hShadows.trans h.shadows
  sheets k hk := by
    have hState : e.shtState k = d.shtState k := congrArg (bits · _ _) (hRd _ (.inr (.inl ⟨k, hk, rfl⟩)))
    rw [hState]
    exact h.sheets k hk
  queues q hq := (congrArg (bits · _ _) (hRd _ (.inr (.inr ⟨q, hq, rfl⟩)))).trans (h.queues q hq)

theorem restingReg_bounds {r : Reg} (h : restingReg r) : 0x30000 ≤ r.off ∧ r.off < 0xE0000 := by
  obtain rfl | ⟨k, hk, rfl⟩ | ⟨q, hq, rfl⟩ := h
  · decide
  · simp only [R.SHT_Dd_STATE]
    omega
  · simp only [R.DMA_Qq_STATUS]
    omega

theorem restingReg_ne_queueCfg {r : Reg} (h : restingReg r) {q : Nat} (hq : q < 16) : r.off ≠ (R.DMA_Qq_CFG q).off := by
  obtain rfl | ⟨k, hk, rfl⟩ | ⟨p, hp, rfl⟩ := h
  · simp only [R.PWR_STATE, R.DMA_Qq_CFG]
    omega
  · simp only [R.SHT_Dd_STATE, R.DMA_Qq_CFG]
    omega
  · simp only [R.DMA_Qq_STATUS, R.DMA_Qq_CFG]
    omega

theorem restingReg_ne_dmaCtrl {r : Reg} (h : restingReg r) : r.off ≠ R.DMA_CTRL.off := by
  obtain rfl | ⟨k, hk, rfl⟩ | ⟨p, hp, rfl⟩ := h
  · decide
  · simp only [R.SHT_Dd_STATE, R.DMA_CTRL]
    omega
  · simp only [R.DMA_Qq_STATUS, R.DMA_CTRL]
    omega

theorem Dev.Resting.advance (h : d.Resting) (n : Nat) : (d.advance n).Resting :=
  h.congr (Dev.advance_frd _ _) (congrArg FltSt.shadows (Dev.advance_flt _ _)) fun r hr => by
    have hBounds := restingReg_bounds hr
    refine Dev.rd_advance_ne _ _ _ ?_ ?_ <;> simp only [R.EVT_TIME, R.SYS_SECONDS] <;> omega

theorem Dev.Resting.report (h : d.Resting) (src d0 d1 : Nat) : (d.report src d0 d1).Resting := by
  refine h.congr (Dev.report_frd _ _ _ _) ?_ fun r hr => Dev.rd_report_ne _ _ _ _ _ ?_
  · rw [Dev.report, Dev.reportAt, Dev.strobe]
    split_ifs <;> rfl
  · have hBounds := restingReg_bounds hr
    simp only [R.FLT_SRCi_STATE]
    omega

/-- A stop of the sheets finds none. -/
theorem Dev.Resting.stopSheets (h : d.Resting) (cause d1 : Nat) : d.stopSheets cause d1 true = d := by
  have hNone (n : Nat) (hn : n = 2 ∨ n = 3) : (List.range 32).filter (fun k => d.shtState k = n) = [] := by
    rw [List.filter_eq_nil_iff]
    intro k hk
    have hState := h.sheets k (List.mem_range.1 hk)
    simp only [decide_eq_true_eq]
    omega
  rw [Dev.stopSheets, if_pos rfl, hNone 2 (.inl rfl)]
  show Dev.each d ((List.range 32).filter fun k => d.shtState k = 3) _ = d
  rw [hNone 3 (.inr rfl)]
  rfl

/-- One strobe more is the first. -/
theorem Dev.strobes_report (h : d.flt.strobes = []) (src d0 d1 : Nat) : (d.report src d0 d1).flt.strobes.length = 1 := by
  rw [Dev.report, Dev.reportAt, Dev.strobe, h]
  rfl

end

theorem State.qDisable_resting {s : State} (h : s.dev.Resting) {q : Nat} (hq : q < 16) :
    (s.qDisable q).dev.Resting ∧ (s.qDisable q).dev.flt = s.dev.flt := by
  have hIdle : s.dev.qSt q = 0 := by
    rw [Dev.qSt, h.queues q hq]
    rfl
  rw [State.qDisable, if_pos hIdle]
  exact ⟨h.congr rfl rfl fun r hr => Dev.rd_put_ne _ _ _ _ (restingReg_ne_queueCfg hr hq), rfl⟩

theorem State.qDisables_resting {l : List Nat} (hl : ∀ q ∈ l, q < 16) {s : State} (h : s.dev.Resting) :
    (l.foldl (fun s q => s.qDisable q) s).dev.Resting ∧ (l.foldl (fun s q => s.qDisable q) s).dev.flt = s.dev.flt := by
  induction l generalizing s with
  | nil => exact ⟨h, rfl⟩
  | cons q l ih =>
    obtain ⟨hRest, hFlt⟩ := State.qDisable_resting h (hl q List.mem_cons_self)
    obtain ⟨hRests, hFlts⟩ := ih (fun p hp => hl p (List.mem_cons_of_mem _ hp)) hRest
    exact ⟨hRests, hFlts.trans hFlt⟩

theorem State.dmaDisable_resting {s : State} (h : s.dev.Resting) : s.dmaDisable.dev.Resting ∧ s.dmaDisable.dev.flt = s.dev.flt := by
  obtain ⟨hRest, hFlt⟩ := State.qDisables_resting (l := List.range 16) (fun q hq => List.mem_range.1 hq) h
  rw [State.dmaDisable]
  dsimp only
  exact ⟨hRest.congr (Dev.put_frd _ _ _) (congrArg FltSt.shadows (Dev.put_flt _ _ _)) fun r hr =>
    Dev.rd_put_ne _ _ _ _ (restingReg_ne_dmaCtrl hr), (Dev.put_flt _ _ _).trans hFlt⟩

/-! ### The shut-down takes the counts of the encoders -/

/-- The first actions of a shut-down, up to the cut of the outputs. -/
def Dev.shutdownCut (d : Dev) : Dev :=
  let d := d.modPwr fun x => { x with shutAt := d.sys.now8 + 1 }
  (((d.put F.PWR_STATUS.shutdown 1).pwrFlag 3).count F.PWR_COUNTS.shutdowns).takeShare.cutOutputs

/-- Then time passes, sheets stop, and the record of the shut-down is strobed. -/
def Dev.shutdownStop (d : Dev) (d0 ms : Nat) : Dev :=
  (((d.freeVal 8).2.advance (8 + (d.freeVal 8).1 % 243)).stopSheets 0x4E 0 true).report 31 d0 ms

theorem State.shutdown_eq (s : State) (why : Nat) :
    let ms := (s.dev.sys.now8 + 1 - s.dev.pwr.warnAt) / 125000
    let d := s.dev.shutdownCut.shutdownStop (pwrDetail 0x75 0x1F why) ms
    s.shutdown why = (({ s with dev := d } : State).dmaDisable.snapshot 1).downRequest 3 := rfl

theorem Dev.Resting.shutdownStop {d : Dev} (h : d.Resting) (hStrobes : d.flt.strobes = []) (d0 ms : Nat) :
    (d.shutdownStop d0 ms).Resting ∧ (d.shutdownStop d0 ms).flt.strobes.length = 1 := by
  have hTime : ((d.freeVal 8).2.advance (8 + (d.freeVal 8).1 % 243)).Resting := 
    Dev.Resting.advance (d := (d.freeVal 8).2) (h.congr rfl rfl fun _ _ => rfl) _
  rw [Dev.shutdownStop, hTime.stopSheets]
  exact ⟨hTime.report _ _ _, Dev.strobes_report ((congrArg FltSt.strobes (Dev.advance_flt (d.freeVal 8).2 _)).trans hStrobes) _ _ _⟩

theorem Dev.pwrSt_latchSnap (d : Dev) (reason : Nat) : (d.latchSnap reason true).pwrSt = d.pwrSt := by
  rw [Dev.latchSnap, if_pos rfl, Dev.pwrSt_wr _ _ _ (by decide), Dev.pwrSt_wr _ _ _ (by decide), Dev.pwrSt_wr _ _ _ (by decide),
    Dev.pwrSt_putB _ _ _ (by decide), Dev.pwrSt_put _ _ _ (by decide)]

theorem State.snapshot_one {s : State} (h : s.dev.flt.strobes.length = 1) (reason : Nat) :
    (s.snapshot reason).dev = s.faultRecord.dev.latchSnap reason true := by
  rw [State.snapshot, h]
  rfl

theorem Store.get_filter_dropped {β : Type} (dflt : β) (m : Store β) {f : Nat × β → Bool} {k : Nat} (h : ∀ b, f (k, b) = false) :
    Store.get dflt (m.filter f) k = dflt := by
  induction m with
  | nil => rfl
  | cons p m ih =>
    rw [List.filter_cons]
    split_ifs with hKeep
    · have hne : k ≠ p.1 := by
        rintro rfl
        rw [h] at hKeep
        exact absurd hKeep (by decide)
      rw [Store.get, if_neg hne, ih]
    · exact ih

theorem encRaw_ne_aboveCore (n : Fin 4) {f : Fld} (h : 0xC0000 ≤ f.reg.off) : (R.EVT_ENCn_RAW n).off ≠ f.reg.off := by
  simp only [R.EVT_ENCn_RAW]
  omega

theorem State.encRaw_coreReset (s : State) (n : Fin 4) : s.coreReset.dev.rd (R.EVT_ENCn_RAW n) = 0 := by
  rw [State.coreReset]
  dsimp only
  rw [Dev.rd_put_ne _ _ _ _ (encRaw_ne_aboveCore n (by decide)), Dev.rd]
  dsimp only
  rw [Store.get_filter_dropped]
  · rfl
  · intro b
    have hPlace : 0x20000 ≤ (R.EVT_ENCn_RAW n).off ∧ (R.EVT_ENCn_RAW n).off < 0x30000 := by
      simp only [R.EVT_ENCn_RAW]
      omega
    generalize (R.EVT_ENCn_RAW n).off = o at hPlace
    simp only [Bool.or_eq_false_iff, Bool.and_eq_false_iff, decide_eq_false_iff_not]
    refine ⟨by omega, ?_⟩
    simp only [R.TWN_TOKEN_STATE]
    omega

/-- With CORE the counts of the encoders go. -/
theorem State.encRaw_coreOff (s : State) (n : Fin 4) : s.coreOff.dev.encRaw n = 0 := by
  have hRd (d : Dev) (f : PwrSt → PwrSt) (r : Reg) : (d.modPwr f).rd r = d.rd r := rfl
  have hRaw : s.coreOff.dev.rd (R.EVT_ENCn_RAW n) = 0 := by
    rw [State.coreOff]
    dsimp only
    rw [hRd, Dev.rd_put_ne _ _ _ _ (encRaw_ne_aboveCore n (by decide)), Dev.rd_put_ne _ _ _ _ (encRaw_ne_aboveCore n (by decide)), Dev.putBit,
      Dev.rd_put_ne _ _ _ _ (encRaw_ne_aboveCore n (by decide)), State.encRaw_coreReset]
  rw [Dev.encRaw, hRaw]
  rfl

theorem State.downRequest_standby {s : State} (h : s.dev.pwrSt = 1) :
    s.downRequest 3 = ({ s with dev := s.dev.put F.PWR_STATE.purpose 3 } : State).coreOff := by
  unfold State.downRequest
  dsimp only
  rw [h]
  rfl

/-- A shut-down in STANDBY, with nothing in hand, takes CORE. -/
theorem State.encRaw_shutdown {s : State} (h : s.dev.shutdownCut.Resting) (hStrobes : s.dev.shutdownCut.flt.strobes = []) (why : Nat)
    (n : Fin 4) : (s.shutdown why).dev.encRaw n = 0 := by
  rw [State.shutdown_eq]
  obtain ⟨hStop, hOne⟩ := h.shutdownStop hStrobes (pwrDetail 0x75 0x1F why) ((s.dev.sys.now8 + 1 - s.dev.pwr.warnAt) / 125000)
  generalize s.dev.shutdownCut.shutdownStop _ _ = d at hStop hOne ⊢
  obtain ⟨hRest, hFlt⟩ := State.dmaDisable_resting (s := { s with dev := d }) hStop
  generalize State.dmaDisable _ = t at *
  have hSnap : (t.snapshot 1).dev.pwrSt = 1 := by
    rw [State.snapshot_one (by rw [hFlt, hOne]), Dev.pwrSt_latchSnap, State.pwrSt_faultRecord hRest.noReacts hRest.single hRest.shadows,
      hRest.standby]
  rw [State.downRequest_standby hSnap]
  exact State.encRaw_coreOff _ n

end Sys2Proof.Machine

namespace Sys2Proof.Proofs

set_option maxRecDepth 20000

/-- Entry 0 is armed for position 1 of encoder 0, with SPEED_SET at target 252, which no arming check passes (R85): the status register of
that axis would lie at PWR_STATUS. The value of PWR_STATUS, pfail_active 0 and shutdown 1, reads as an axis in RUN. -/
def outsideTargetState : State :=
  let d := ((((({} : Dev).wr R.EVT_TIME 200).wr R.PWR_STATUS 0x70000000).put F.PWR_PFAIL_CFG.start_on_idle 1).wr R.PWR_DOMAINS 1).put
    F.SYS_HOST_STATE.state 0
  let d := (d.putTw 0 1).putTw 8 (2 ^ 63 + 2 ^ 61 + 4 * 2 ^ 24 + 252 * 2 ^ 16)
  { dev := { d with evt := { d.evt with
      running := true
      slotAt := 26
      enc := Store.set {} [] 0 { edges := [⟨0, 0, 1, false⟩] } } } }

/-- The forward edge fires the entry, whose stop leaves 8, STOPPING, in the four bits that begin with pfail_active: the warning stands, no
sheet is in flight, and the shut-down that then starts (R343) takes the count of encoder 0 with CORE. -/
theorem outsideTargetState_countLost : (outsideTargetState.encApply 0).idleCheck.dev.encRaw 0 = 0 := by
  rw [State.idleCheck, if_pos (by decide)]
  exact State.encRaw_shutdown ⟨by decide, by decide, by decide, by decide, by decide, by decide⟩ (by decide) 2 0

/-- Refutes O17: the clause on an edge's apply time ranges over every table, also over one with an entry whose target lies outside its unit.
The firing of that entry starts a shut-down, after which the raw count is 0 and not one more. -/
theorem not_evtEncoders : ¬ Obligations.EvtEncoders := by
  unfold Obligations.EvtEncoders
  rintro ⟨-, -, hApply, -⟩
  obtain ⟨t, hExec, -, -, -, hRaw, -⟩ := hApply outsideTargetState 0 ⟨0, 0, 1, false⟩ [] (by decide) (by decide) (by decide) (by decide)
    (by decide) (by decide) (by decide) (by decide) (by decide) (by decide)
  obtain rfl : (outsideTargetState.encApply 0).idleCheck = t := by injection hExec
  exact absurd (outsideTargetState_countLost.symm.trans hRaw) (by decide)

end Sys2Proof.Proofs
end

-- ==== Sitting: sheets and admission ====
section
/-! SUPPORT. Refutations of the statements on the ends of a sheet (R105-R117), on the start of a scan sequence (R110, R111) and on the
firing gate (R252-R256): for each a state that meets the hypotheses, and what the model makes of it. -/
open Sys2Proof Sys2Proof.Machine Sys2Proof.Claims
set_option maxRecDepth 20000

namespace Sys2Proof.Proofs

/-! ### CANCEL after a pick that also exits (R109, R115) -/

/-- Every part of SYS_READY is met and nothing holds picks back; no channel, axis, loop or sensor is in use. -/
def readyDev : Dev :=
  let d := (((({} : Dev).wr R.PWR_DOMAINS 1).put F.FRD_STATUS.state 5).put F.CLK_STATUS.locked 3).put F.CLK_STATUS.core_fb 0
  let d := ((d.put F.MEM_STATUS.trained 1).put F.MEM_STATUS.initialised 1).put F.MEM_STATUS.scrubbed 1
  let d := (d.put F.FLT_STATUS.admissions_held 0).put F.SYS_HOST_STATE.state 0
  { d with
    host := { d.host with linkUp := true }
    frd := { d.frd with cfg := { d.frd.cfg with role := { d.frd.cfg.role with dataSource := 1 } } } }

/-- Descriptor 0 is ADMITTED with tag 1 and names no channel. In the same slot a gated pick entry of its tag is due, whose action is the
milestone EXIT (SHEET_MARK 0x10). -/
def exitPickState : State :=
  let d := (readyDev.wr (R.SHT_Dd_HEAD 0) (1 * 2 ^ 16)).put (F.SHT_Dd_STATE.state 0) 2
  { dev := { d with evt := { d.evt with
      slotAt := 1
      due := [{ idx := 0, delivered := 0, late := false, enc := false,
                hi := 2 ^ 62 + 2 ^ 50 + 1 * 2 ^ 32 + 0x0A * 2 ^ 24 + 0x10 }] } } }

/-- The firing that CANCEL lets go first picks the sheet and completes it: CANCEL meets a DONE sheet. -/
theorem exitPickState_done : (exitPickState.cancelCmd 0).dev.shtState 0 = 4 := by decide

/-- Refutes O19: the first clause knows three outcomes of a CANCEL, and CANCELLED or PICKED as the state after it; where the pick that is
judged first (R109) also fires EXIT, and no channel has still to end, the sheet is DONE. -/
theorem not_sheetEnds : ¬ Obligations.SheetEnds := by
  unfold Obligations.SheetEnds
  rintro ⟨hCancel, -⟩
  obtain ⟨t, hExec, hEnd, -⟩ := hCancel exitPickState 0 (by decide) (by decide) (by decide) (by decide) (by decide)
  obtain rfl : exitPickState.agree R.SHT_CMD 0x30000000 (·.cancelCmd 0) = t := by injection hExec
  have hDone : (exitPickState.agree R.SHT_CMD 0x30000000 (·.cancelCmd 0)).dev.shtState 0 = 4 := exitPickState_done
  rcases hEnd with ⟨h, -⟩ | ⟨-, h, -⟩ | ⟨-, h, -⟩ <;> exact absurd (hDone.symm.trans h) (by decide)

/-! ### IMAGE_START at a channel with pre-screened input (R196, R203) -/

/-- Channel 0 takes pre-screened input (inputFormat 2), has a grid and is named by the PICKED sheet of descriptor 0, whose tag is 1. -/
def prescreenedState : State :=
  let d := ((({} : Dev).wr R.PWR_DOMAINS 0x10).wr (R.SHT_Dd_HEAD 0) (1 * 2 ^ 16 + 1 * 2 ^ 8)).put (F.SHT_Dd_STATE.state 0) 3
  { dev := { d with
    active := Store.set 0 d.active (R.CHn_SCT_FACET_PERIOD 0).off 100
    frd := { d.frd with cfg := { d.frd.cfg with chans := [{ channel := 0, inputFormat := 2 }] } } } }

/-- IMAGE_START at channel 0 for the sheet of tag 1. -/
def imageStartFiring : Firing := ⟨0, 0, 0, 1, 0, false, false⟩

/-- Pre-screened input is not screened (R196), so the sheet locks no screen. -/
theorem prescreenedState_unlocked :
    (prescreenedState.dev.deliver 0x08 imageStartFiring false false).on (F.CHn_SCR_STATUS.locked 0) = false := by decide

/-- Refutes O29: the first clause lets every IMAGE_START at a channel in use lock the screen of the channel, also where the input of that
channel is pre-screened. -/
theorem not_scanSequence : ¬ Obligations.ScanSequence := by
  unfold Obligations.ScanSequence
  rintro ⟨hStart, -⟩
  obtain ⟨t, hExec, -, -, -, -, -, -, -, hLocked, -⟩ := hStart prescreenedState imageStartFiring 0 0 (by decide) (by decide)
    (by decide) (by decide) (by decide) (by decide) (by decide) (by decide) (by decide) (by decide)
  obtain rfl : { prescreenedState with dev := prescreenedState.dev.deliver 0x08 imageStartFiring false false } = t := by injection hExec
  exact absurd (prescreenedState_unlocked.symm.trans hLocked) (by decide)

/-! ### A strobe watchdog that trips into an occupied slot (R255, R364) -/

/-- The strobe watchdog of channel 0 runs since engine time 0; at 125,000, where its time is up, a strobe of source 37 stands already, such
as one the member made before it stepped its engine time back as it joined a pair (R386). -/
def waitingStrobeState : State :=
  let d := (({} : Dev).put (F.CHn_FGT_STATUS.permit 0) 1).put F.CLK_STATUS.tbase_fb 0
  { dev := { d with
    evt := { d.evt with running := true }
    flt := { d.flt with strobes := [⟨37, 0, 0, 125000, 0⟩] }
    frd := { d.frd with cfg := { d.frd.cfg with chans := [{ channel := 0, gateFlags := 4 }] } } } }

/-- The trip merges into the strobe of its slot. -/
theorem waitingStrobeState_merged : (waitingStrobeState.dev.wdTrip 0).flt.strobes = [⟨37, 0, 0, 125000, 0⟩] := by decide

/-- Refutes O33: the clause on the trip of the strobe watchdog asks for a strobe with the trip's detail wherever no strobe of source 37 stands
in the slot of the time before; the trip strobes in the slot its time-out ends in, and one that stands there keeps its own detail (R364). -/
theorem not_firingGate : ¬ Obligations.FiringGate := by
  unfold Obligations.FiringGate
  rintro ⟨-, -, -, hTrip, -⟩
  obtain ⟨t, hExec, -, hStrobe, -⟩ := hTrip waitingStrobeState 0 (by decide) (by decide)
  obtain rfl : { waitingStrobeState with dev := waitingStrobeState.dev.wdTrip 0 } = t := by injection hExec
  have hStands := hStrobe (by decide)
  dsimp only at hStands
  rw [waitingStrobeState_merged] at hStands
  exact absurd hStands (by decide)

end Sys2Proof.Proofs
end

section
/-! SUPPORT. OPEN and ADMIT (R104, R106, R107): the result of a command, entering a state, arming the entries of a list, and each command
as the steps it consists of. -/
open Sys2Proof Sys2Proof.Machine Sys2Proof.Claims

namespace Sys2Proof.Machine

/-! ### The result of a command (R116) -/

section
variable (d : Dev) {res cause ch k : Nat}

theorem Dev.frame_shtResult (res cause ch k : Nat) : Dev.Frame shtCmdParts d (d.shtResult res cause ch k) :=
  Frame.shtFlag (Frame.wr Frame.refl _ _ (by simp [shtCmdParts])) _ (by simp [shtCmdParts]) (by simp +contextual [shtCmdParts])

theorem Dev.result_shtResult (hr : res < 256) (hc : cause < 256) (hn : ch < 256) (hk : k < 32) :
    (d.shtResult res cause ch k).rd R.SHT_RESULT = resultOf res cause ch k := by
  rw [Dev.shtResult, Dev.rd_shtFlag_ne _ _ _ (by decide) (by decide), Dev.rd_wr_same]
  simp only [Nat.shiftLeft_eq, R.SHT_RESULT, resultOf]
  omega

theorem Dev.done_shtResult (res cause ch k : Nat) : bit ((d.shtResult res cause ch k).rd R.SHT_STATUS) 0 = true :=
  Dev.rd_flag_same _ _ _ _ _ (by decide) (by decide) (by decide)

theorem Dev.recs_shtResult (res cause ch k : Nat) : (d.shtResult res cause ch k).evt.recs = d.evt.recs :=
  d.frame_shtResult res cause ch k .recs (by decide)

/-- Setting one flag of SHT_STATUS leaves another. -/
theorem Dev.bit_shtFlag_ne {i j : Nat} (hj : j < 32) (h : j ≠ i) : bit ((d.shtFlag i).rd R.SHT_STATUS) j = bit (d.rd R.SHT_STATUS) j := by
  have hPut : bit ((d.wr R.SHT_STATUS (putBits (d.rd R.SHT_STATUS) i i 1)).rd R.SHT_STATUS) j = bit (d.rd R.SHT_STATUS) j := by
    rw [Dev.rd_wr_same, bit_mod _ _ _ (by omega), bit_mod _ R.SHT_STATUS.w _ hj,
      bit_putBits_ne _ _ _ _ _ le_rfl (by omega)]
  unfold Dev.shtFlag Dev.flag
  dsimp only
  split_ifs
  · rw [Dev.rd_post_ne _ _ _ (by decide), hPut]
  · exact hPut

/-- The result of a command leaves the other flags of SHT_STATUS. -/
theorem Dev.bit_shtResult {j : Nat} (hj : j < 32) (h : j ≠ 0) (res cause ch k : Nat) :
    bit ((d.shtResult res cause ch k).rd R.SHT_STATUS) j = bit (d.rd R.SHT_STATUS) j := by
  rw [Dev.shtResult, Dev.bit_shtFlag_ne _ hj h, Dev.rd_wr_ne _ _ _ _ (by decide)]

end

/-- A register among the descriptors is none of those a command's result changes. -/
theorem descReg_not_mem_shtCmdParts {o : Nat} (h : 0x34000 ≤ o) : Part.reg o ∉ shtCmdParts := by
  simp only [shtCmdParts, irqParts, R.SHT_RESULT, R.SHT_STATUS, R.MSIX_PBA, List.cons_append, List.nil_append, List.mem_cons, Part.reg.injEq,
    reduceCtorEq, List.not_mem_nil, or_false, false_or]
  omega

/-! ### A descriptor enters a state (R102) -/

section
variable (d : Dev) {k : Nat}

theorem Dev.frame_shtEnter (k st : Nat) : Dev.Frame [Part.reg (R.SHT_Dd_STATE k).off, Part.reg R.SHT_ACTIVE.off] d (d.shtEnter k st) :=
  Frame.putBit (Frame.put Frame.refl _ _ (by simp [F.SHT_Dd_STATE.state])) _ _ _ (by simp [F.SHT_ACTIVE.busy])

theorem shtState_off_ne_active (k : Nat) : (R.SHT_Dd_STATE k).off ≠ R.SHT_ACTIVE.off := by
  simp only [R.SHT_Dd_STATE, R.SHT_ACTIVE]
  omega

theorem Dev.shtState_shtEnter {st : Nat} (h : st < 8) : (d.shtEnter k st).shtState k = st := by
  rw [Dev.shtEnter, Dev.shtState, Dev.putBit, Dev.get_put_ne _ _ _ _ (shtState_off_ne_active k), Dev.get_put_same _ _ _ rfl]
  exact Nat.mod_eq_of_lt h

/-- From a cleared register the state is all that reads. -/
theorem Dev.rd_shtEnter {st : Nat} (h : st < 8) (h0 : d.rd (R.SHT_Dd_STATE k) = 0) : (d.shtEnter k st).rd (R.SHT_Dd_STATE k) = st := by
  rw [Dev.shtEnter, Dev.putBit, Dev.rd_put_ne _ _ _ _ (shtState_off_ne_active k), Dev.put]
  have hReg : (F.SHT_Dd_STATE.state k).reg = R.SHT_Dd_STATE k := rfl
  rw [hReg, Dev.rd_wr_same, h0]
  simp only [F.SHT_Dd_STATE.state, R.SHT_Dd_STATE, putBits, Nat.zero_shiftRight, Nat.zero_mod, Nat.shiftLeft_eq]
  omega

theorem Dev.busy_shtEnter {st : Nat} (hk : k < 32) (h : st ≠ 0) : bit ((d.shtEnter k st).rd R.SHT_ACTIVE) k = true := by
  have hReg : F.SHT_ACTIVE.busy.reg = R.SHT_ACTIVE := rfl
  have hHi : F.SHT_ACTIVE.busy.hi = 31 := rfl
  have hLo : F.SHT_ACTIVE.busy.lo = 0 := rfl
  rw [Dev.shtEnter, Dev.putBit, Dev.put, hReg, hHi, hLo, Dev.rd_wr_same, bit_mod _ _ _ (by omega), bit_mod _ R.SHT_ACTIVE.w _ hk, bit_eq_testBit,
    testBit_putBits _ _ _ _ _ (by decide), if_neg (by omega), if_pos (by omega), Nat.sub_zero, ← bit_eq_testBit, bit_putBits_same]
  exact decide_eq_true h

/-- The states of the other descriptors stay. -/
theorem Dev.shtState_shtEnter_ne {j : Nat} (h : j ≠ k) (st : Nat) : (d.shtEnter k st).shtState j = d.shtState j := by
  refine Frame.get (d.frame_shtEnter k st) (F.SHT_Dd_STATE.state j) ?_
  simp only [F.SHT_Dd_STATE.state, R.SHT_Dd_STATE, R.SHT_ACTIVE, List.mem_cons, Part.reg.injEq, List.not_mem_nil, or_false]
  omega

end

end Sys2Proof.Machine
end

section
/-! SUPPORT. Arming the entries on the list of a sheet (R107): one entry, then the list. -/
open Sys2Proof Sys2Proof.Machine Sys2Proof.Claims

namespace Sys2Proof.Machine

/-! ### The tag in an entry's upper word (R83) -/

section
variable {h t : Nat}

theorem entGated_putTag (h t : Nat) : entGated (putBits h 47 32 t) = entGated h := bit_putBits_ne _ _ _ _ _ (by omega) (by omega)
theorem entArmed_putTag (h t : Nat) : entArmed (putBits h 47 32 t) = entArmed h := bit_putBits_ne _ _ _ _ _ (by omega) (by omega)
theorem entTag_putTag (ht : t < 2 ^ 16) : entTag (putBits h 47 32 t) = t :=
  (bits_putBits_same _ _ _ _ (by omega)).trans (Nat.mod_eq_of_lt ht)

theorem entTag_add (h : Nat) : entTag (h + 2 ^ 63) = entTag h := by
  simp only [entTag, bits, Nat.shiftRight_eq_div_pow]
  omega

/-- The arming check reads the entry it arms beside its tag, the configuration, and the gated bits of the table. -/
theorem Dev.armCheck_putTag (d : Dev) (lo h t : Nat) : d.armCheck lo (putBits h 47 32 t) = d.armCheck lo h := by
  have hBits (hi' lo' : Nat) (hd : hi' < 32 ∨ 47 < lo') : bits (putBits h 47 32 t) hi' lo' = bits h hi' lo' :=
    bits_putBits_ne _ _ _ _ _ _ (by omega) hd
  have hKind : entKind (putBits h 47 32 t) = entKind h := hBits _ _ (by omega)
  have hEnc : entEnc (putBits h 47 32 t) = entEnc h := hBits _ _ (by omega)
  have hIrq : entIrq (putBits h 47 32 t) = entIrq h := bit_putBits_ne _ _ _ _ _ (by omega) (by omega)
  have hVector : entVector (putBits h 47 32 t) = entVector h := hBits _ _ (by omega)
  have hAction : entAction (putBits h 47 32 t) = entAction h := hBits _ _ (by omega)
  have hTarget : entTarget (putBits h 47 32 t) = entTarget h := hBits _ _ (by omega)
  have hArg : entArg (putBits h 47 32 t) = entArg h := hBits _ _ (by omega)
  rw [Dev.armCheck, Dev.armCheck, hKind, hEnc, hIrq, hVector, hAction, hTarget, hArg]

theorem Dev.armCheck_congr_gated {d e : Dev} (hFrd : e.frd = d.frd) (hGated : ∀ i, entGated (e.entHi i) = entGated (d.entHi i)) (lo hi : Nat) :
    e.armCheck lo hi = d.armCheck lo hi := by
  unfold Dev.armCheck Dev.pinFunc
  rw [hFrd, hGated]

end

/-! ### What arming a list changes -/

/-- The table words of entry i with their check fields. -/
def entryParts (i : Nat) : List Part := [Part.tbl (16 * i), Part.tbl (16 * i + 8), Part.tblChk (16 * i), Part.tblChk (16 * i + 8)]

/-- What arming the entries of a list changes. -/
def listedParts (l : List (Nat × Nat)) : List Part := [Part.evt, Part.tblMark, Part.reg R.EVT_ARMED_COUNT.off] ++ l.flatMap fun p => entryParts p.2

theorem listParts_eq (d : Dev) (k : Nat) : listParts d k = listedParts (d.armList k) := rfl

theorem reg_mem_listedParts {l : List (Nat × Nat)} {o : Nat} : Part.reg o ∈ listedParts l ↔ o = R.EVT_ARMED_COUNT.off := by
  simp [listedParts, entryParts]

theorem tblLo_mem_listedParts {l : List (Nat × Nat)} {i : Nat} : Part.tbl (16 * i) ∈ listedParts l ↔ i ∈ l.map (·.2) := by
  simp only [listedParts, entryParts, List.mem_append, List.mem_cons, List.mem_flatMap, List.mem_map, reduceCtorEq, List.not_mem_nil, or_false,
    false_or, Part.tbl.injEq]
  exact ⟨fun ⟨p, hp, h⟩ => ⟨p, hp, by omega⟩, fun ⟨p, hp, h⟩ => ⟨p, hp, by omega⟩⟩

theorem tblHi_mem_listedParts {l : List (Nat × Nat)} {i : Nat} : Part.tbl (16 * i + 8) ∈ listedParts l ↔ i ∈ l.map (·.2) := by
  simp only [listedParts, entryParts, List.mem_append, List.mem_cons, List.mem_flatMap, List.mem_map, reduceCtorEq, List.not_mem_nil, or_false,
    false_or, Part.tbl.injEq]
  exact ⟨fun ⟨p, hp, h⟩ => ⟨p, hp, by omega⟩, fun ⟨p, hp, h⟩ => ⟨p, hp, by omega⟩⟩

theorem listedParts_subset {l m : List (Nat × Nat)} (h : ∀ p ∈ l, p ∈ m) : ∀ q ∈ listedParts l, q ∈ listedParts m := by
  intro q hq
  rcases List.mem_append.1 hq with hq | hq
  · exact List.mem_append_left _ hq
  · obtain ⟨p, hp, hq⟩ := List.mem_flatMap.1 hq
    exact List.mem_append_right _ (List.mem_flatMap.2 ⟨p, h p hp, hq⟩)

theorem armParts_subset_listedParts {i : Nat} (j : Nat) : ∀ q ∈ armParts i, q ∈ listedParts [(j, i)] := by
  simp +contextual [armParts, listedParts, entryParts]

/-! ### One entry -/

section
variable {d : Dev} {k j i : Nat}

/-- Writing the trigger and the tag of a descriptor into an entry. -/
def Dev.putTrigger (d : Dev) (k j i : Nat) : Dev :=
  (d.putTw (16 * i) (d.rd (R.SHT_Dd_TRIGk k j))).putTw (16 * i + 8) (putBits (d.entHi i) 47 32 (d.tagOf k))

theorem Dev.putTrigger_spec (d : Dev) (k j i : Nat) :
    (d.putTrigger k j i).entLo i = d.rd (R.SHT_Dd_TRIGk k j) ∧ (d.putTrigger k j i).entHi i = putBits (d.entHi i) 47 32 (d.tagOf k) ∧
    Dev.Frame (listedParts [(j, i)]) d (d.putTrigger k j i) := by
  unfold Dev.putTrigger
  refine ⟨?_, Dev.entHi_putTw _ _ (putBits_lt _ _ _ _ _ (by omega) (by omega) (d.entHi_lt i)),
    Frame.putTw (Frame.putTw Frame.refl _ _ ?_ ?_ ?_) _ _ ?_ ?_ ?_⟩
  · rw [Dev.entLo, Dev.tw_putTw_ne _ _ _ _ (by omega), Dev.tw_putTw_same, Nat.mod_eq_of_lt (d.rd_lt _)]
  all_goals simp [listedParts, entryParts]

/-- Noting the descriptor that arms an entry. -/
def Dev.own (d : Dev) (k i : Nat) : Dev := { d with evt := { d.evt with armFor := Store.set 0 d.evt.armFor i (k + 1) } }

theorem Dev.armFor_eq (d : Dev) (k j i : Nat) :
    d.armFor k j i =
      if d.armCheck (d.rd (R.SHT_Dd_TRIGk k j)) (putBits (d.entHi i) 47 32 (d.tagOf k)) ≠ 0 then
        (d.armRefused i (d.armCheck (d.rd (R.SHT_Dd_TRIGk k j)) (putBits (d.entHi i) 47 32 (d.tagOf k))), false)
      else (((d.putTrigger k j i).armEntry i).own k i, true) := rfl

/-- An entry that passes its check takes the descriptor's trigger and tag, arms, and is kept as the descriptor's. -/
theorem Dev.armFor_passes (hCheck : d.armCheck (d.rd (R.SHT_Dd_TRIGk k j)) (d.entHi i) = 0) :
    d.armFor k j i = (((d.putTrigger k j i).armEntry i).own k i, true) := by
  have hPass : ¬ d.armCheck (d.rd (R.SHT_Dd_TRIGk k j)) (putBits (d.entHi i) 47 32 (d.tagOf k)) ≠ 0 := by
    rw [Dev.armCheck_putTag]
    exact not_not.2 hCheck
  rw [Dev.armFor_eq, if_neg hPass]

/-- One that fails it is refused. -/
theorem Dev.armFor_fails (hCheck : d.armCheck (d.rd (R.SHT_Dd_TRIGk k j)) (d.entHi i) ≠ 0) :
    d.armFor k j i = (d.armRefused i (d.armCheck (d.rd (R.SHT_Dd_TRIGk k j)) (d.entHi i)), false) := by
  rw [Dev.armFor_eq, Dev.armCheck_putTag, if_pos hCheck]

theorem Dev.armFor_noteArmed (d : Dev) (i : Nat) : (d.noteArmed i).evt.armFor = d.evt.armFor := rfl
theorem Dev.armFor_putTw (d : Dev) (o v : Nat) : (d.putTw o v).evt.armFor = d.evt.armFor := rfl

theorem Dev.armFor_armEntry (d : Dev) (i : Nat) : (d.armEntry i).evt.armFor = d.evt.armFor := by
  cases hArmed : entArmed (d.entHi i)
  · rw [Dev.armEntry_disarmed hArmed, Dev.armFor_noteArmed, Dev.armFor_putTw]
  · rw [Dev.armEntry_armed hArmed]

/-- An entry that a descriptor armed. -/
structure ArmedFor (k trigger tag : Nat) (e : Dev) (i : Nat) : Prop where
  lo : e.entLo i = trigger
  tag : entTag (e.entHi i) = tag
  armed : entArmed (e.entHi i) = true
  owner : Store.get 0 e.evt.armFor i = k + 1

theorem Dev.armListed_spec (hArmed : entArmed (d.entHi i) = false)
    (hCheck : d.armCheck (d.rd (R.SHT_Dd_TRIGk k j)) (d.entHi i) = 0) :
    ArmedFor k (d.rd (R.SHT_Dd_TRIGk k j)) (d.tagOf k) (d.armListed k j i) i ∧
    entGated ((d.armListed k j i).entHi i) = entGated (d.entHi i) ∧
    (∀ m, m ≠ i → Store.get 0 (d.armListed k j i).evt.armFor m = Store.get 0 d.evt.armFor m) ∧
    Dev.Frame (listedParts [(j, i)]) d (d.armListed k j i) := by
  obtain ⟨hLo, hHi, hPut⟩ := d.putTrigger_spec k j i
  have hDisarmed : entArmed ((d.putTrigger k j i).entHi i) = false := by rw [hHi, entArmed_putTag, hArmed]
  obtain ⟨hWord, -, -, hFrame⟩ := Dev.armEntry_spec hDisarmed
  have hLow := Frame.entLo hFrame (entLo_not_mem_armParts i i)
  have hOwner := Dev.armFor_armEntry (d.putTrigger k j i) i
  have hTag : d.tagOf k < 2 ^ 16 := Dev.get_lt d (F.SHT_Dd_HEAD.sheet_tag k)
  rw [Dev.armListed, if_neg (by simp [hArmed]), Dev.armFor_passes hCheck]
  replace hFrame := Frame.trans hPut (Frame.mono hFrame (armParts_subset_listedParts j))
  have hLt := ((d.putTrigger k j i).armEntry i).entHi_lt i
  generalize (d.putTrigger k j i).armEntry i = e at *
  refine ⟨⟨?_, ?_, ?_, ?_⟩, ?_, fun m hm => ?_, Frame.setEvt hFrame _ (by simp [listedParts]) (.inr rfl)⟩
  · exact hLow.trans hLo
  · rw [Dev.own, Dev.entHi_setEvt, hWord, hHi, entTag_add, entTag_putTag hTag]
  · rw [Dev.own, Dev.entHi_setEvt, entArmed_iff hLt, hWord]
    omega
  · exact Store.get_set_same 0 e.evt.armFor i (k + 1)
  · rw [Dev.own, Dev.entHi_setEvt, hWord, hHi, entGated_add, entGated_putTag]
  · exact (Store.get_set_ne 0 0 e.evt.armFor i m (k + 1) hm).trans (by rw [hOwner]; rfl)

/-- Arming an entry leaves what arming another reads. -/
theorem Dev.armListed_kept (hArmed : entArmed (d.entHi i) = false)
    (hCheck : d.armCheck (d.rd (R.SHT_Dd_TRIGk k j)) (d.entHi i) = 0) :
    (∀ m, m ≠ i → (d.armListed k j i).entHi m = d.entHi m) ∧
    (∀ n, (d.armListed k j i).rd (R.SHT_Dd_TRIGk k n) = d.rd (R.SHT_Dd_TRIGk k n)) ∧ (d.armListed k j i).tagOf k = d.tagOf k ∧
    ∀ lo hi, (d.armListed k j i).armCheck lo hi = d.armCheck lo hi := by
  obtain ⟨-, hGated, -, hFrame⟩ := Dev.armListed_spec hArmed hCheck
  have hOther : ∀ m, m ≠ i → (d.armListed k j i).entHi m = d.entHi m := fun m hm =>
    Frame.entHi hFrame (by rw [tblHi_mem_listedParts]; simpa using hm)
  have hFrd : (d.armListed k j i).frd = d.frd := hFrame .frd (by simp [listedParts, entryParts])
  refine ⟨hOther, fun n => Frame.rd hFrame _ ?_, Frame.get hFrame (F.SHT_Dd_HEAD.sheet_tag k) ?_, Dev.armCheck_congr_gated hFrd fun m => ?_⟩
  · rw [reg_mem_listedParts]
    simp only [R.SHT_Dd_TRIGk, R.EVT_ARMED_COUNT]
    omega
  · rw [reg_mem_listedParts]
    simp only [F.SHT_Dd_HEAD.sheet_tag, R.SHT_Dd_HEAD, R.EVT_ARMED_COUNT]
    omega
  · by_cases hm : m = i
    · rw [hm, hGated]
    · rw [hOther m hm]

end

/-! ### The list -/

/-- The entries of a list are armed one after the other. -/
def Dev.armEach (d : Dev) (k : Nat) (l : List (Nat × Nat)) : Dev := d.each l fun d p => d.armListed k p.1 p.2

theorem Dev.armEach_cons (d : Dev) (k : Nat) (p : Nat × Nat) (l : List (Nat × Nat)) :
    d.armEach k (p :: l) = (d.armListed k p.1 p.2).armEach k l := rfl

/-- Each entry of a list that names no entry twice, with every entry disarmed and passing its check, is armed. -/
theorem Dev.armEach_spec {k : Nat} (l : List (Nat × Nat)) {d : Dev} (hNodup : (l.map (·.2)).Nodup)
    (hArmed : ∀ p ∈ l, entArmed (d.entHi p.2) = false)
    (hCheck : ∀ p ∈ l, d.armCheck (d.rd (R.SHT_Dd_TRIGk k p.1)) (d.entHi p.2) = 0) :
    (∀ p ∈ l, ArmedFor k (d.rd (R.SHT_Dd_TRIGk k p.1)) (d.tagOf k) (d.armEach k l) p.2) ∧
    (∀ i, i ∉ l.map (·.2) → Store.get 0 (d.armEach k l).evt.armFor i = Store.get 0 d.evt.armFor i) ∧ Dev.Frame (listedParts l) d (d.armEach k l) := by
  induction l generalizing d with
  | nil => exact ⟨fun p hp => absurd hp List.not_mem_nil, fun _ _ => rfl, Frame.refl⟩
  | cons q l ih =>
    obtain ⟨hFresh, hRest⟩ := List.nodup_cons.1 hNodup
    obtain ⟨hFirst, -, hOwners, hFrame⟩ := Dev.armListed_spec (hArmed q List.mem_cons_self) (hCheck q List.mem_cons_self)
    obtain ⟨hOther, hTrig, hTag, hSame⟩ := Dev.armListed_kept (hArmed q List.mem_cons_self) (hCheck q List.mem_cons_self)
    have hNe : ∀ p ∈ l, p.2 ≠ q.2 := fun p hp h => hFresh (List.mem_map.2 ⟨p, hp, h⟩)
    have hArmedRest : ∀ p ∈ l, entArmed ((d.armListed k q.1 q.2).entHi p.2) = false := fun p hp => by
      rw [hOther _ (hNe p hp)]
      exact hArmed p (List.mem_cons_of_mem _ hp)
    have hCheckRest : ∀ p ∈ l, (d.armListed k q.1 q.2).armCheck ((d.armListed k q.1 q.2).rd (R.SHT_Dd_TRIGk k p.1))
        ((d.armListed k q.1 q.2).entHi p.2) = 0 := fun p hp => by
      rw [hSame, hTrig, hOther _ (hNe p hp)]
      exact hCheck p (List.mem_cons_of_mem _ hp)
    obtain ⟨hAll, hKept, hFrames⟩ := ih hRest hArmedRest hCheckRest
    rw [Dev.armEach_cons]
    refine ⟨fun p hp => ?_, fun i hi => ?_, Frame.trans (Frame.mono hFrame (listedParts_subset (by simp)))
      (Frame.mono hFrames (listedParts_subset (by simp +contextual)))⟩
    · rcases List.mem_cons.1 hp with rfl | hp
      · have hHi := Frame.entHi hFrames (i := p.2) (by rw [tblHi_mem_listedParts]; exact hFresh)
        have hLo := Frame.entLo hFrames (i := p.2) (by rw [tblLo_mem_listedParts]; exact hFresh)
        exact ⟨hLo.trans hFirst.lo, by rw [hHi, hFirst.tag], by rw [hHi, hFirst.armed], by rw [hKept _ hFresh, hFirst.owner]⟩
      · have hListed := hAll p hp
        rwa [hTrig, hTag] at hListed
    · simp only [List.map_cons, List.mem_cons, not_or] at hi
      rw [hKept i hi.2, hOwners i hi.1]

/-- What arming a list can change, with the entries it refuses. -/
def armingParts (l : List (Nat × Nat)) : List Part := listedParts l ++ [Part.recs, Part.reg R.EVT_STATUS.off] ++ strobeParts 22 ++ irqParts

theorem reg_mem_armingParts {l : List (Nat × Nat)} {o : Nat} : Part.reg o ∈ armingParts l ↔
    o = R.EVT_ARMED_COUNT.off ∨ o = R.EVT_STATUS.off ∨ o = (R.FLT_SRCi_STATE 22).off ∨ o = R.MSIX_PBA.off := by
  simp [armingParts, reg_mem_listedParts, strobeParts, irqParts]

theorem Dev.frame_armListed (d : Dev) (k : Nat) {l : List (Nat × Nat)} {p : Nat × Nat} (hp : p ∈ l) :
    Dev.Frame (armingParts l) d (d.armListed k p.1 p.2) := by
  have hListed : ∀ q ∈ listedParts [p], q ∈ armingParts l := fun q hq => by
    have := listedParts_subset (m := l) (by simpa using hp) q hq
    simp [armingParts, this]
  cases hArmed : entArmed (d.entHi p.2)
  · by_cases hCheck : d.armCheck (d.rd (R.SHT_Dd_TRIGk k p.1)) (d.entHi p.2) = 0
    · exact Frame.mono (Dev.armListed_spec hArmed hCheck).2.2.2 hListed
    · rw [Dev.armListed, if_neg (by simp [hArmed]), Dev.armFor_fails hCheck]
      exact Frame.armRefused Frame.refl _ _ (by simp [armingParts]) (by simp [armingParts]) (by simp +contextual [armingParts])
        (by simp +contextual [armingParts])
  · rw [Dev.armListed, if_pos hArmed]
    exact Frame.setEvt Frame.refl _ (hListed _ (by simp [listedParts])) (.inr rfl)

theorem Dev.frame_armEach (d : Dev) (k : Nat) (l : List (Nat × Nat)) : Dev.Frame (armingParts l) d (d.armEach k l) :=
  Frame.each _ _ (fun x _ hp => x.frame_armListed k hp) Frame.refl

end Sys2Proof.Machine
end

section
/-! SUPPORT. OPEN and ADMIT as a whole (R104, R106, R107, R116). -/
open Sys2Proof Sys2Proof.Machine Sys2Proof.Claims

namespace Sys2Proof.Machine

/-! ### OPEN clears the descriptor (R104) -/

/-- Clearing the fill and the progress of channel n. -/
def Dev.clearFill (d : Dev) (k n : Nat) : Dev :=
  let d := (d.wr (R.SHT_Dd_FILLn k n) 0).wr (R.SHT_Dd_PROGn k n) 0
  { d with sht := { d.sht with freed := Store.set 0 d.sht.freed (8 * k + n) 0 } }

/-- Clearing the state and the times. -/
def Dev.clearState (d : Dev) (k : Nat) : Dev :=
  (((d.wr (R.SHT_Dd_STATE k) 0).wr (R.SHT_Dd_CHAN k) 0).wr (R.SHT_Dd_PICK_TIME k) 0).wr (R.SHT_Dd_DONE_TIME k) 0

/-- Clearing every channel. -/
def Dev.clearFills (d : Dev) (k : Nat) : Dev := d.each (List.range 8) fun d n => d.clearFill k n

/-- A descriptor takes the next number. -/
def Dev.takeNumber (d : Dev) (k : Nat) : Dev := { d with sht := { d.sht with seq := Store.set 0 d.sht.seq k d.sht.next, next := d.sht.next + 1 } }

/-- Clearing a descriptor, which takes the next number. -/
def Dev.shtClear (d : Dev) (k : Nat) : Dev :=
  ((d.clearState k).clearFills k).takeNumber k

/-- The fills and the progress of a descriptor. -/
def fillParts (k : Nat) : List Part :=
  (List.range 8).map (fun n => Part.reg (R.SHT_Dd_FILLn k n).off) ++ (List.range 8).map (fun n => Part.reg (R.SHT_Dd_PROGn k n).off)

/-- What clearing a descriptor changes. -/
def clearParts (k : Nat) : List Part :=
  [Part.sht, Part.reg (R.SHT_Dd_STATE k).off, Part.reg (R.SHT_Dd_CHAN k).off, Part.reg (R.SHT_Dd_PICK_TIME k).off,
    Part.reg (R.SHT_Dd_DONE_TIME k).off] ++ fillParts k

section
variable (d : Dev) {k n m : Nat}

theorem fill_mem_fillParts (h : n < 8) : Part.reg (R.SHT_Dd_FILLn k n).off ∈ fillParts k ∧ Part.reg (R.SHT_Dd_PROGn k n).off ∈ fillParts k :=
  ⟨List.mem_append_left _ (List.mem_map.2 ⟨n, List.mem_range.2 h, rfl⟩), List.mem_append_right _ (List.mem_map.2 ⟨n, List.mem_range.2 h, rfl⟩)⟩

theorem place_of_mem_fillParts {o : Nat} (h : Part.reg o ∈ fillParts k) : 0x34140 + k * 0x200 ≤ o ∧ o < 0x34180 + k * 0x200 := by
  simp only [fillParts, R.SHT_Dd_FILLn, R.SHT_Dd_PROGn, List.mem_append, List.mem_map, List.mem_range, Part.reg.injEq] at h
  rcases h with ⟨n, hn, rfl⟩ | ⟨n, hn, rfl⟩ <;> omega

theorem Dev.frame_clearFill (h : n < 8) : Dev.Frame ([Part.sht] ++ fillParts k) d (d.clearFill k n) :=
  Frame.setSht (Frame.wr (Frame.wr Frame.refl _ _ (List.mem_append_right _ (fill_mem_fillParts h).1)) _ _
    (List.mem_append_right _ (fill_mem_fillParts h).2)) _ (by simp)

theorem Dev.frame_clearFills : Dev.Frame ([Part.sht] ++ fillParts k) d (d.clearFills k) :=
  Frame.each _ _ (fun x _ hn => x.frame_clearFill (List.mem_range.1 hn)) Frame.refl

theorem Dev.frame_clearState : Dev.Frame (clearParts k) d (d.clearState k) := by
  unfold Dev.clearState
  iterate 4 refine Frame.wr ?_ _ _ (by simp [clearParts])
  exact Frame.refl

theorem Dev.frame_shtClear : Dev.Frame (clearParts k) d (d.shtClear k) :=
  Frame.setSht (Frame.trans d.frame_clearState (Frame.mono (Dev.frame_clearFills _) (by simp +contextual [clearParts]))) _ (by simp [clearParts])

theorem Dev.rd_takeNumber (r : Reg) : (d.takeNumber k).rd r = d.rd r := rfl

theorem Dev.rd_state_shtClear : (d.shtClear k).rd (R.SHT_Dd_STATE k) = 0 := by
  have hFills : ((d.clearState k).clearFills k).rd (R.SHT_Dd_STATE k) = (d.clearState k).rd (R.SHT_Dd_STATE k) := by
    refine Frame.rd (Dev.frame_clearFills _) _ fun h => ?_
    have hPlace := place_of_mem_fillParts ((List.mem_append.1 h).resolve_left (by simp))
    simp only [R.SHT_Dd_STATE] at hPlace
    omega
  rw [Dev.shtClear, Dev.rd_takeNumber, hFills, Dev.clearState, Dev.rd_wr_ne _ _ _ _ (by simp [R.SHT_Dd_STATE, R.SHT_Dd_DONE_TIME]),
    Dev.rd_wr_ne _ _ _ _ (by simp [R.SHT_Dd_STATE, R.SHT_Dd_PICK_TIME]), Dev.rd_wr_ne _ _ _ _ (by simp [R.SHT_Dd_STATE, R.SHT_Dd_CHAN]),
    Dev.rd_wr_same]
  rfl

theorem Dev.rd_clearFill (r : Reg) : (d.clearFill k n).rd r = ((d.wr (R.SHT_Dd_FILLn k n) 0).wr (R.SHT_Dd_PROGn k n) 0).rd r := rfl

/-- Clearing one channel leaves every fill that is 0, and makes its own so. -/
theorem Dev.fill_clearFill (hm : m < 8) (h : m = n ∨ d.rd (R.SHT_Dd_FILLn k m) = 0) : (d.clearFill k n).rd (R.SHT_Dd_FILLn k m) = 0 := by
  have hProg : (R.SHT_Dd_FILLn k m).off ≠ (R.SHT_Dd_PROGn k n).off := by
    simp only [R.SHT_Dd_FILLn, R.SHT_Dd_PROGn]
    omega
  rw [Dev.rd_clearFill, Dev.rd_wr_ne _ _ _ _ hProg]
  by_cases hmn : m = n
  · rw [hmn, Dev.rd_wr_same]
    rfl
  · rw [Dev.rd_wr_ne _ _ _ _ (by simp only [R.SHT_Dd_FILLn]; omega)]
    exact h.resolve_left hmn

theorem Dev.fill_each_clearFill (hm : m < 8) (l : List Nat) {d : Dev} (h : m ∈ l ∨ d.rd (R.SHT_Dd_FILLn k m) = 0) :
    (d.each l fun d n => d.clearFill k n).rd (R.SHT_Dd_FILLn k m) = 0 := by
  induction l generalizing d with
  | nil => exact h.resolve_left List.not_mem_nil
  | cons n l ih =>
    refine ih (d := d.clearFill k n) ?_
    rw [List.mem_cons, or_assoc] at h
    rcases h with h | h | h
    · exact .inr (d.fill_clearFill hm (.inl h))
    · exact .inl h
    · exact .inr (d.fill_clearFill hm (.inr h))

theorem Dev.fill_shtClear (hm : m < 8) : (d.shtClear k).rd (R.SHT_Dd_FILLn k m) = 0 := by
  rw [Dev.shtClear, Dev.rd_takeNumber, Dev.clearFills]
  exact Dev.fill_each_clearFill hm _ (.inl (List.mem_range.2 hm))

theorem reg_not_mem_clearParts {o : Nat} (h : o < 0x34000 ∨ o = (R.SHT_Dd_HEAD k).off) : Part.reg o ∉ clearParts k := by
  intro hMem
  rcases List.mem_append.1 hMem with hMem | hMem
  · simp only [R.SHT_Dd_STATE, R.SHT_Dd_CHAN, R.SHT_Dd_PICK_TIME, R.SHT_Dd_DONE_TIME, R.SHT_Dd_HEAD, List.mem_cons, Part.reg.injEq,
      reduceCtorEq, List.not_mem_nil, or_false, false_or] at h hMem
    omega
  · have hPlace := place_of_mem_fillParts hMem
    simp only [R.SHT_Dd_HEAD] at h
    omega

/-- An OPEN that passes. -/
def Dev.openEnd (d : Dev) (k : Nat) : Dev :=
  (((d.shtClear k).shtEnter k 1).milestone 0x01 ((d.shtClear k).tagOf k) 0 0xFF k 0).shtResult 0 0 0xFF k

theorem Dev.shtOpen_passes (hFree : d.shtState k = 0) (hCheck : d.openCheck k = none) : d.shtOpen k = d.openEnd k := by
  unfold Dev.shtOpen
  rw [if_neg (by simp [hFree]), hCheck]
  unfold Dev.openEnd Dev.shtClear Dev.clearFills Dev.clearState Dev.clearFill
  dsimp only
  generalize Dev.each _ _ _ = e
  rfl

theorem Dev.shtOpen_fails {c : Nat × Nat} (hFree : d.shtState k = 0) (hCheck : d.openCheck k = some c) :
    d.shtOpen k = d.shtResult 1 c.1 c.2 k := by
  unfold Dev.shtOpen
  rw [if_neg (by simp [hFree]), hCheck]

theorem Dev.shtOpen_refused (h : d.shtState k ≠ 0) : d.shtOpen k = d.shtResult 2 0 0xFF k := if_pos h

/-- The first check of OPEN is that of the tag. -/
theorem Dev.openCheck_untagged (h : d.tagOf k = 0) : d.openCheck k = some (0x10, 0xFF) := by
  unfold Dev.openCheck
  simp [h]

/-- What an OPEN that passes changes. -/
def openParts (k : Nat) : List Part :=
  [Part.recs, Part.sht, Part.reg R.SHT_ACTIVE.off, Part.reg (R.SHT_Dd_STATE k).off, Part.reg (R.SHT_Dd_CHAN k).off,
    Part.reg (R.SHT_Dd_PICK_TIME k).off, Part.reg (R.SHT_Dd_DONE_TIME k).off] ++
    (List.range 8).map (fun n => Part.reg (R.SHT_Dd_FILLn k n).off) ++ (List.range 8).map (fun n => Part.reg (R.SHT_Dd_PROGn k n).off) ++ shtCmdParts

theorem Dev.openEnd_spec (hk : k < 32) :
    (d.openEnd k).rd (R.SHT_Dd_STATE k) = 1 ∧ (d.openEnd k).rd R.SHT_RESULT = resultOf 0 0 0xFF k ∧
    (∀ n, n < 8 → (d.openEnd k).rd (R.SHT_Dd_FILLn k n) = 0) ∧ bit ((d.openEnd k).rd R.SHT_ACTIVE) k = true ∧
    (d.openEnd k).evt.recs = d.evt.recs ++ [(d.slot, ⟨4, 0, 0, 0, 7, 0x01, d.tagOf k, msDetail 0 0xFF k, 0, d.now⟩)] ∧
    Dev.Frame (openParts k) d (d.openEnd k) := by
  have hRes (e : Dev) (r : Reg) (h : Part.reg r.off ∉ shtCmdParts) : (e.shtResult 0 0 0xFF k).rd r = e.rd r :=
    Frame.rd (e.frame_shtResult _ _ _ _) r h
  have hClear := d.frame_shtClear (k := k)
  have hTag : (d.shtClear k).tagOf k = d.tagOf k := Frame.get hClear (F.SHT_Dd_HEAD.sheet_tag k) (reg_not_mem_clearParts (.inr rfl))
  have hEntered : Dev.Frame (clearParts k ++ [Part.reg R.SHT_ACTIVE.off]) d ((d.shtClear k).shtEnter k 1) :=
    Frame.trans (Frame.mono hClear (by simp +contextual)) (Frame.mono (Dev.frame_shtEnter _ _ _) (by simp [clearParts]))
  have hFill (n : Nat) (hn : n < 8) : ((d.shtClear k).shtEnter k 1).rd (R.SHT_Dd_FILLn k n) = 0 := by
    refine (Frame.rd (Dev.frame_shtEnter _ _ _) _ ?_).trans (d.fill_shtClear hn)
    simp only [R.SHT_Dd_FILLn, R.SHT_Dd_STATE, R.SHT_ACTIVE, List.mem_cons, Part.reg.injEq, List.not_mem_nil, or_false]
    omega
  have hState := Dev.rd_shtEnter (d.shtClear k) (by omega : 1 < 8) d.rd_state_shtClear
  have hBusy := (d.shtClear k).busy_shtEnter hk (by omega : 1 ≠ 0)
  unfold Dev.openEnd
  rw [hTag]
  generalize (d.shtClear k).shtEnter k 1 = e at *
  have hNow : e.now = d.now := Frame.rd hEntered R.EVT_TIME fun h => by
    rcases List.mem_append.1 h with h | h
    · exact reg_not_mem_clearParts (.inl (by decide)) h
    · exact absurd h (by decide)
  have hRecs : e.evt.recs = d.evt.recs := hEntered .recs (by simp [clearParts, fillParts])
  refine ⟨?_, Dev.result_shtResult _ (by omega) (by omega) (by omega) hk, fun n hn => ?_, ?_, ?_, ?_⟩
  · rw [hRes _ _ (descReg_not_mem_shtCmdParts (by simp [R.SHT_Dd_STATE]; omega)), Dev.rd_milestone, hState]
  · rw [hRes _ _ (descReg_not_mem_shtCmdParts (by simp [R.SHT_Dd_FILLn]; omega)), Dev.rd_milestone, hFill n hn]
  · rw [hRes _ _ (by decide), Dev.rd_milestone, hBusy]
  · rw [Dev.recs_shtResult, ← hRecs, Dev.slot, ← hNow]
    rfl
  · refine Frame.trans (Frame.milestone (Frame.mono hEntered ?_) _ _ _ _ _ _ (by simp [openParts]))
      (Frame.mono (Dev.frame_shtResult _ _ _ _ _) (by simp +contextual [openParts]))
    simp only [clearParts, fillParts, openParts, List.mem_append, List.mem_cons, List.not_mem_nil, or_false]
    tauto

end

/-! ### ADMIT takes the sheet in (R106, R107) -/

/-- An ADMIT that passes enters ADMITTED and counts. -/
def Dev.admitted (d : Dev) (k : Nat) : Dev := ((d.shtEnter k 2).count F.SHT_ADMITTED.count).countFlight

/-- Then it makes its milestone, its flag and its result. -/
def Dev.admitEnd (d : Dev) (k : Nat) : Dev :=
  (((d.admitted k).milestone 0x02 ((d.admitted k).tagOf k) 0 0xFF k 0).shtFlag 1).shtResult 0 0 0xFF k

/-- The entries of a sheet are armed. -/
def Dev.armSheet (d : Dev) (k : Nat) : Dev := d.armEach k (d.armList k)

/-- The failure of ADMIT, where the arming check is not its cause. -/
def Dev.admitFail (d : Dev) (k : Nat) (c : Nat × Nat × Nat) : Dev :=
  ((d.milestone 0x03 (d.tagOf k) c.1 c.2.1 k c.2.2).shtFlag 2).shtResult 1 c.1 (if c.1 = 4 ∨ c.1 = 8 then c.2.1 else 0xFF) k

/-- What entering ADMITTED changes. -/
def admittedParts (k : Nat) : List Part :=
  [Part.reg (R.SHT_Dd_STATE k).off, Part.reg R.SHT_ACTIVE.off, Part.reg R.SHT_ADMITTED.off, Part.reg R.SYS_HOST_STATE.off]

section
variable (d : Dev) {k : Nat}

theorem Dev.shtAdmit_passes (hLoading : d.shtState k = 1) (hCheck : d.admitCheck k = none) : d.shtAdmit k = (d.armSheet k).admitEnd k := by
  unfold Dev.shtAdmit
  rw [if_neg (by simp [hLoading]), hCheck]
  rfl

theorem Dev.shtAdmit_fails {c : Nat × Nat × Nat} (hLoading : d.shtState k = 1) (hCheck : d.admitCheck k = some c) (hCause : c.1 ≠ 6) :
    d.shtAdmit k = d.admitFail k c := by
  unfold Dev.shtAdmit
  rw [if_neg (by simp [hLoading]), hCheck]
  simp [hCause, Dev.admitFail]

theorem Dev.shtAdmit_refused (h : d.shtState k ≠ 1) : d.shtAdmit k = d.shtResult 2 0 0xFF k := if_pos h

/-- The causes of ADMIT are those of R106. -/
theorem Dev.cause_admitCheck {c : Nat × Nat × Nat} (h : d.admitCheck k = some c) : c.1 < 256 := by
  unfold Dev.admitCheck at h
  dsimp only at h
  split_ifs at h
  iterate 5
    · obtain rfl := Option.some.inj h
      simp
  all_goals
    split at h
    · obtain rfl := Option.some.inj h
      simp
    split at h
    · obtain rfl := Option.some.inj h
      simp
  · cases h
  · obtain rfl := Option.some.inj h
    simp

theorem Dev.frame_countFlight : Dev.Frame [Part.reg R.SYS_HOST_STATE.off] d d.countFlight :=
  Frame.put Frame.refl _ _ (by simp [F.SYS_HOST_STATE.in_flight])

theorem Dev.flight_countFlight :
    d.countFlight.get F.SYS_HOST_STATE.in_flight = ((List.range 32).filter fun j => d.shtState j = 2 || d.shtState j = 3).length := by
  have hLen : ((List.range 32).filter fun j => d.shtState j = 2 || d.shtState j = 3).length ≤ 32 := by
    simpa using List.length_filter_le (fun j => decide (d.shtState j = 2) || decide (d.shtState j = 3)) (List.range 32)
  rw [Dev.countFlight, Dev.get_put_same _ _ _ rfl]
  exact Nat.mod_eq_of_lt (lt_of_le_of_lt hLen (by decide))

theorem Dev.admitted_spec :
    (d.admitted k).shtState k = 2 ∧
    (d.admitted k).get F.SHT_ADMITTED.count = min (d.get F.SHT_ADMITTED.count + 1) (2 ^ 32 - 1) ∧
    (d.admitted k).get F.SYS_HOST_STATE.in_flight = ((List.range 32).filter fun j => j = k ∨ d.shtState j = 2 ∨ d.shtState j = 3).length ∧
    Dev.Frame (admittedParts k) d (d.admitted k) := by
  have hEnter : Dev.Frame (admittedParts k) d ((d.shtEnter k 2).count F.SHT_ADMITTED.count) :=
    Frame.count (Frame.mono (d.frame_shtEnter k 2) (by simp +contextual [admittedParts])) _ _ (by simp [admittedParts, F.SHT_ADMITTED.count])
  have hStates (j : Nat) : ((d.shtEnter k 2).count F.SHT_ADMITTED.count).shtState j = (d.shtEnter k 2).shtState j :=
    Dev.get_put_ne _ _ (F.SHT_Dd_STATE.state j) _ (by simp only [F.SHT_Dd_STATE.state, R.SHT_Dd_STATE, F.SHT_ADMITTED.count, R.SHT_ADMITTED]; omega)
  refine ⟨?_, ?_, ?_, Frame.trans hEnter (Frame.mono (Dev.frame_countFlight _) (by simp [admittedParts]))⟩
  · refine (Frame.get (Dev.frame_countFlight _) (F.SHT_Dd_STATE.state k) ?_).trans ((hStates k).trans (d.shtState_shtEnter (by omega)))
    simp only [F.SHT_Dd_STATE.state, R.SHT_Dd_STATE, R.SYS_HOST_STATE, List.mem_cons, Part.reg.injEq, List.not_mem_nil, or_false]
    omega
  · refine (Frame.get (Dev.frame_countFlight _) F.SHT_ADMITTED.count (by decide)).trans ((Dev.get_count_same _ _ _ rfl).trans ?_)
    have hCount : (d.shtEnter k 2).get F.SHT_ADMITTED.count = d.get F.SHT_ADMITTED.count := by
      refine Frame.get (d.frame_shtEnter k 2) _ ?_
      simp only [F.SHT_ADMITTED.count, R.SHT_ADMITTED, R.SHT_Dd_STATE, R.SHT_ACTIVE, List.mem_cons, Part.reg.injEq, List.not_mem_nil, or_false]
      omega
    rw [hCount]
    rfl
  · rw [Dev.admitted, Dev.flight_countFlight]
    congr 1
    refine List.filter_congr fun j _ => ?_
    rw [hStates]
    by_cases hj : j = k
    · simp [hj, d.shtState_shtEnter (k := k) (by omega : 2 < 8)]
    · simp [hj, d.shtState_shtEnter_ne hj]

theorem Dev.admitEnd_spec (hk : k < 32) :
    (d.admitEnd k).shtState k = 2 ∧ (d.admitEnd k).rd R.SHT_RESULT = resultOf 0 0 0xFF k ∧
    bit ((d.admitEnd k).rd R.SHT_STATUS) 0 = true ∧ bit ((d.admitEnd k).rd R.SHT_STATUS) 1 = true ∧
    (d.admitEnd k).get F.SHT_ADMITTED.count = min (d.get F.SHT_ADMITTED.count + 1) (2 ^ 32 - 1) ∧
    (d.admitEnd k).get F.SYS_HOST_STATE.in_flight = ((List.range 32).filter fun j => j = k ∨ d.shtState j = 2 ∨ d.shtState j = 3).length ∧
    (d.admitEnd k).evt.recs = d.evt.recs ++ [(d.slot, ⟨4, 0, 0, 0, 7, 0x02, d.tagOf k, msDetail 0 0xFF k, 0, d.now⟩)] ∧
    Dev.Frame ([Part.recs] ++ admittedParts k ++ shtCmdParts) d (d.admitEnd k) := by
  obtain ⟨hState, hCount, hFlight, hFrame⟩ := d.admitted_spec (k := k)
  have hKept {o : Nat} (h : o = (R.SHT_Dd_HEAD k).off ∨ o = R.EVT_TIME.off) : Part.reg o ∉ admittedParts k := by
    simp only [admittedParts, R.SHT_Dd_STATE, R.SHT_Dd_HEAD, R.SHT_ACTIVE, R.SHT_ADMITTED, R.SYS_HOST_STATE, R.EVT_TIME, List.mem_cons,
      Part.reg.injEq, List.not_mem_nil, or_false] at h ⊢
    omega
  have hTag : (d.admitted k).tagOf k = d.tagOf k := Frame.get hFrame (F.SHT_Dd_HEAD.sheet_tag k) (hKept (.inl rfl))
  have hNow : (d.admitted k).now = d.now := Frame.rd hFrame R.EVT_TIME (hKept (.inr rfl))
  have hRecs : (d.admitted k).evt.recs = d.evt.recs := hFrame .recs (by simp [admittedParts])
  unfold Dev.admitEnd
  generalize d.admitted k = e at *
  have hEnd : Dev.Frame ([Part.recs] ++ shtCmdParts) e (((e.milestone 0x02 (e.tagOf k) 0 0xFF k 0).shtFlag 1).shtResult 0 0 0xFF k) :=
    Frame.trans (Frame.shtFlag (Frame.milestone Frame.refl _ _ _ _ _ _ (by simp)) _ (by simp [shtCmdParts]) (by simp +contextual [shtCmdParts]))
      (Frame.mono (Dev.frame_shtResult _ _ _ _ _) (by simp +contextual))
  refine ⟨?_, Dev.result_shtResult _ (by omega) (by omega) (by omega) hk, Dev.done_shtResult _ _ _ _ _, ?_, ?_, ?_, ?_, ?_⟩
  · refine (Frame.get hEnd (F.SHT_Dd_STATE.state k) fun h => ?_).trans hState
    exact descReg_not_mem_shtCmdParts (o := (R.SHT_Dd_STATE k).off) (by simp only [R.SHT_Dd_STATE]; omega) ((List.mem_append.1 h).resolve_left (by simp))
  · rw [Dev.bit_shtResult _ (by omega) (by omega)]
    exact Dev.rd_flag_same _ _ _ _ _ (by decide) (by decide) (by decide)
  · exact (Frame.get hEnd F.SHT_ADMITTED.count (by decide)).trans hCount
  · exact (Frame.get hEnd F.SYS_HOST_STATE.in_flight (by decide)).trans hFlight
  · rw [Dev.recs_shtResult, Dev.shtFlag_evt, ← hRecs, ← hTag, ← hNow, Dev.slot, ← hNow]
    rfl
  · exact Frame.trans (Frame.mono hFrame (by simp +contextual)) (Frame.mono hEnd (by simp +contextual))

theorem Dev.admitFail_spec {c : Nat × Nat × Nat} (hk : k < 32) (hCause : c.1 < 256) (hChan : c.2.1 < 256) :
    (d.admitFail k c).rd R.SHT_RESULT = resultOf 1 c.1 (if c.1 = 4 ∨ c.1 = 8 then c.2.1 else 0xFF) k ∧
    (d.admitFail k c).evt.recs = d.evt.recs ++ [(d.slot, ⟨4, 0, 0, 0, 7, 0x03, d.tagOf k, msDetail c.1 c.2.1 k, c.2.2, d.now⟩)] ∧
    Dev.Frame ([Part.recs] ++ shtCmdParts) d (d.admitFail k c) := by
  unfold Dev.admitFail
  refine ⟨Dev.result_shtResult _ (by omega) hCause (by split_ifs <;> omega) hk, ?_, ?_⟩
  · rw [Dev.recs_shtResult, Dev.shtFlag_evt]
    rfl
  · exact Frame.trans (Frame.shtFlag (Frame.milestone Frame.refl _ _ _ _ _ _ (by simp)) _ (by simp [shtCmdParts]) (by simp +contextual [shtCmdParts]))
      (Frame.mono (Dev.frame_shtResult _ _ _ _ _) (by simp +contextual))

/-! ### The entries of a sheet that is admitted -/

/-- Where ADMIT finds nothing wrong, every listed entry passes the arming check. -/
theorem Dev.armCheck_of_admitCheck (h : d.admitCheck k = none) :
    ∀ p ∈ d.armList k, d.armCheck (d.rd (R.SHT_Dd_TRIGk k p.1)) (d.entHi p.2) = 0 := by
  have hList : d.listCheck k = none := by
    cases hCheck : d.listCheck k with
    | none => rfl
    | some x =>
      unfold Dev.admitCheck at h
      simp only [hCheck] at h
      split_ifs at h
      split at h <;> cases h
  intro p hp
  have hEntry := List.findSome?_eq_none_iff.1 hList p hp
  by_contra hFails
  simp [hFails] at hEntry

theorem Frame.armFor {ps : List Part} {d e : Dev} (h : Dev.Frame ps d e) (hx : Part.evt ∉ ps) : e.evt.armFor = d.evt.armFor := by
  have hEvt : ({ e.evt with recs := [] } : EvtSt) = { d.evt with recs := [] } := h .evt hx
  have hArmFor := congrArg EvtSt.armFor hEvt
  exact hArmFor

/-- Arming the list leaves what the rest of ADMIT reads. -/
theorem Dev.armSheet_kept :
    ((d.armSheet k).tagOf k = d.tagOf k ∧ (d.armSheet k).now = d.now ∧ (d.armSheet k).get F.SHT_ADMITTED.count = d.get F.SHT_ADMITTED.count) ∧
    ∀ j, (d.armSheet k).shtState j = d.shtState j := by
  have hFrame : Dev.Frame (armingParts (d.armList k)) d (d.armSheet k) := d.frame_armEach k _
  refine ⟨⟨Frame.get hFrame (F.SHT_Dd_HEAD.sheet_tag k) ?_, Frame.rd hFrame R.EVT_TIME ?_, Frame.get hFrame F.SHT_ADMITTED.count ?_⟩,
    fun j => Frame.get hFrame (F.SHT_Dd_STATE.state j) ?_⟩
  all_goals
    rw [reg_mem_armingParts]
    simp only [F.SHT_Dd_HEAD.sheet_tag, R.SHT_Dd_HEAD, R.EVT_TIME, F.SHT_ADMITTED.count, R.SHT_ADMITTED, F.SHT_Dd_STATE.state, R.SHT_Dd_STATE,
      R.EVT_ARMED_COUNT, R.EVT_STATUS, R.FLT_SRCi_STATE, R.MSIX_PBA]
    omega

end

end Sys2Proof.Machine

namespace Sys2Proof.Proofs

/-! ### The commands -/

section
variable {s : State} {k : Fin 32} {P : State → Prop}

theorem completes_sheetOpen (hDirect : s.dev.direct R.SHT_CMD.off) (h : P { s with dev := s.dev.shtOpen k }) :
    Completes (exec (.sheetOpen k) s) P :=
  completes_onDev (fun d => d.agree R.SHT_CMD (0x10000000 + k) (·.shtOpen k)) rfl (by rw [Dev.agree_direct _ _ _ _ hDirect]; exact h)

theorem completes_sheetAdmit (hDirect : s.dev.direct R.SHT_CMD.off) (h : P { s with dev := s.dev.shtAdmit k }) :
    Completes (exec (.sheetAdmit k) s) P :=
  completes_onDev (fun d => d.agree R.SHT_CMD (0x20000000 + k) (·.shtAdmit k)) rfl (by rw [Dev.agree_direct _ _ _ _ hDirect]; exact h)

variable (hDirect : s.dev.direct R.SHT_CMD.off)
include hDirect

theorem sheetAdmit_admits (hLoading : s.dev.shtState k = 1) (hCheck : s.dev.admitCheck k = none) :
    Completes (exec (.sheetAdmit k) s) fun t =>
      t.dev.shtState k = 2 ∧ t.dev.rd R.SHT_RESULT = resultOf 0 0 0xFF k ∧ bit (t.dev.rd R.SHT_STATUS) 0 = true ∧ bit (t.dev.rd R.SHT_STATUS) 1 = true ∧
      t.dev.get F.SHT_ADMITTED.count = min (s.dev.get F.SHT_ADMITTED.count + 1) (2 ^ 32 - 1) ∧
      t.dev.get F.SYS_HOST_STATE.in_flight = ((List.range 32).filter fun j => j = k.val ∨ s.dev.shtState j = 2 ∨ s.dev.shtState j = 3).length ∧
      (s.dev.slot, ⟨4, 0, 0, 0, 7, 0x02, s.dev.tagOf k, msDetail 0 0xFF k, 0, s.dev.now⟩) ∈ t.dev.evt.recs ∧ t.mem = s.mem ∧ t.pending = s.pending := by
  obtain ⟨⟨hTag, hNow, hCount⟩, hStates⟩ := s.dev.armSheet_kept (k := k)
  obtain ⟨hState, hResult, hDone, hFlag, hAdmitted, hFlight, hRecs, -⟩ := (s.dev.armSheet k).admitEnd_spec k.isLt
  refine completes_sheetAdmit hDirect ?_
  rw [Dev.shtAdmit_passes _ hLoading hCheck]
  refine ⟨hState, hResult, hDone, hFlag, by rw [hAdmitted, hCount], by simp only [hFlight, hStates], ?_, rfl, rfl⟩
  rw [hRecs, hTag, Dev.slot, hNow]
  exact List.mem_append_right _ List.mem_cons_self

theorem sheetOpen_opens (hFree : s.dev.shtState k = 0) (hCheck : s.dev.openCheck k = none) :
    Completes (exec (.sheetOpen k) s) fun t =>
      t.dev.rd (R.SHT_Dd_STATE k) = 1 ∧ t.dev.rd R.SHT_RESULT = resultOf 0 0 0xFF k ∧
      (∀ n, n < 8 → t.dev.rd (R.SHT_Dd_FILLn k n) = 0) ∧ bit (t.dev.rd R.SHT_ACTIVE) k = true ∧
      t.dev.evt.recs = s.dev.evt.recs ++ [(s.dev.slot, ⟨4, 0, 0, 0, 7, 0x01, s.dev.tagOf k, msDetail 0 0xFF k, 0, s.dev.now⟩)] ∧
      s.Frame (openParts k) t := by
  obtain ⟨hState, hResult, hFills, hBusy, hRecs, hFrame⟩ := s.dev.openEnd_spec k.isLt
  refine completes_sheetOpen hDirect ?_
  rw [Dev.shtOpen_passes _ hFree hCheck]
  exact ⟨hState, hResult, hFills, hBusy, hRecs, Frame.ofDev hFrame⟩

theorem sheetOpen_fails {c : Nat × Nat} (hFree : s.dev.shtState k = 0) (hCheck : s.dev.openCheck k = some c) (hCause : c.1 < 256) (hChan : c.2 < 256) :
    Completes (exec (.sheetOpen k) s) fun t =>
      t.dev.rd R.SHT_RESULT = resultOf 1 c.1 c.2 k ∧ (s.dev.tagOf k = 0 → c = (0x10, 0xFF)) ∧ s.Frame shtCmdParts t := by
  refine completes_sheetOpen hDirect ?_
  rw [Dev.shtOpen_fails _ hFree hCheck]
  refine ⟨Dev.result_shtResult _ (by omega) hCause hChan k.isLt, fun hTag => ?_, Frame.ofDev (Dev.frame_shtResult _ _ _ _ _)⟩
  exact Option.some.inj (hCheck.symm.trans (s.dev.openCheck_untagged hTag))

theorem sheetAdmit_arms (hLoading : s.dev.shtState k = 1) (hCheck : s.dev.admitCheck k = none) (hFree : listFree s.dev k) :
    Completes (exec (.sheetAdmit k) s) fun t =>
      t.dev.shtState k = 2 ∧ t.dev.rd R.SHT_RESULT = resultOf 0 0 0xFF k ∧
      (∀ p ∈ s.dev.armList k, t.dev.entLo p.2 = s.dev.rd (R.SHT_Dd_TRIGk k p.1) ∧ entTag (t.dev.entHi p.2) = s.dev.tagOf k ∧
        entArmed (t.dev.entHi p.2) = true ∧ Store.get 0 t.dev.evt.armFor p.2 = k + 1) ∧
      t.dev.get F.SHT_ADMITTED.count = min (s.dev.get F.SHT_ADMITTED.count + 1) (2 ^ 32 - 1) ∧
      t.dev.get F.SYS_HOST_STATE.in_flight = ((List.range 32).filter fun j => j = k.val ∨ s.dev.shtState j = 2 ∨ s.dev.shtState j = 3).length ∧
      t.dev.evt.recs = s.dev.evt.recs ++ [(s.dev.slot, ⟨4, 0, 0, 0, 7, 0x02, s.dev.tagOf k, msDetail 0 0xFF k, 0, s.dev.now⟩)] ∧
      s.Frame ([Part.recs, Part.reg (R.SHT_Dd_STATE k).off, Part.reg R.SHT_ACTIVE.off, Part.reg R.SHT_ADMITTED.off, Part.reg R.SYS_HOST_STATE.off] ++
        listParts s.dev k ++ shtCmdParts) t := by
  obtain ⟨⟨hTag, hNow, hCount⟩, hStates⟩ := s.dev.armSheet_kept (k := k)
  obtain ⟨hState, hResult, -, -, hAdmitted, hFlight, hRecs, hEnd⟩ := (s.dev.armSheet k).admitEnd_spec k.isLt
  obtain ⟨hArmed, -, hArm⟩ := Dev.armEach_spec (s.dev.armList k) hFree.1 hFree.2 (s.dev.armCheck_of_admitCheck hCheck)
  have hOldRecs : (s.dev.armSheet k).evt.recs = s.dev.evt.recs := hArm .recs (by simp [listedParts, entryParts])
  refine completes_sheetAdmit hDirect ?_
  rw [Dev.shtAdmit_passes _ hLoading hCheck]
  refine ⟨hState, hResult, fun p hp => ?_, by rw [hAdmitted, hCount], by simp only [hFlight, hStates], ?_, Frame.ofDev ?_⟩
  · have hEntry := hArmed p hp
    have hHi : ((s.dev.armSheet k).admitEnd k).entHi p.2 = (s.dev.armSheet k).entHi p.2 :=
      Frame.entHi hEnd (by simp [admittedParts, shtCmdParts, irqParts])
    have hLo : ((s.dev.armSheet k).admitEnd k).entLo p.2 = (s.dev.armSheet k).entLo p.2 :=
      Frame.entLo hEnd (by simp [admittedParts, shtCmdParts, irqParts])
    have hOwner : ((s.dev.armSheet k).admitEnd k).evt.armFor = (s.dev.armSheet k).evt.armFor :=
      Frame.armFor hEnd (by simp [admittedParts, shtCmdParts, irqParts])
    exact ⟨hLo.trans hEntry.lo, by rw [hHi]; exact hEntry.tag, by rw [hHi]; exact hEntry.armed, by rw [hOwner]; exact hEntry.owner⟩
  · rw [hRecs, hTag, Dev.slot, hNow, hOldRecs]
    rfl
  · rw [listParts_eq]
    exact Frame.trans (Frame.mono hArm (by simp +contextual)) (Frame.mono hEnd (by simp +contextual [admittedParts]))

theorem sheetAdmit_fails {c : Nat × Nat × Nat} (hLoading : s.dev.shtState k = 1) (hCheck : s.dev.admitCheck k = some c) (hCause : c.1 ≠ 6)
    (hChan : c.2.1 < 256) :
    Completes (exec (.sheetAdmit k) s) fun t =>
      t.dev.rd R.SHT_RESULT = resultOf 1 c.1 (if c.1 = 4 ∨ c.1 = 8 then c.2.1 else 0xFF) k ∧
      t.dev.evt.recs = s.dev.evt.recs ++ [(s.dev.slot, ⟨4, 0, 0, 0, 7, 0x03, s.dev.tagOf k, msDetail c.1 c.2.1 k, c.2.2, s.dev.now⟩)] ∧
      s.Frame ([Part.recs] ++ shtCmdParts) t := by
  obtain ⟨hResult, hRecs, hFrame⟩ := s.dev.admitFail_spec k.isLt (s.dev.cause_admitCheck hCheck) hChan
  refine completes_sheetAdmit hDirect ?_
  rw [Dev.shtAdmit_fails _ hLoading hCheck hCause]
  exact ⟨hResult, hRecs, Frame.ofDev hFrame⟩

theorem sheet_refused (hState : 1 < s.dev.shtState k) :
    Completes (exec (.sheetOpen k) s) (fun t => t.dev.rd R.SHT_RESULT = resultOf 2 0 0xFF k ∧ s.Frame shtCmdParts t) ∧
    Completes (exec (.sheetAdmit k) s) (fun t => t.dev.rd R.SHT_RESULT = resultOf 2 0 0xFF k ∧ s.Frame shtCmdParts t) := by
  have hRefused : (s.dev.shtResult 2 0 0xFF k).rd R.SHT_RESULT = resultOf 2 0 0xFF k ∧
      s.Frame shtCmdParts { s with dev := s.dev.shtResult 2 0 0xFF k } :=
    ⟨Dev.result_shtResult _ (by omega) (by omega) (by omega) k.isLt, Frame.ofDev (Dev.frame_shtResult _ _ _ _ _)⟩
  refine ⟨completes_sheetOpen hDirect ?_, completes_sheetAdmit hDirect ?_⟩
  · rw [Dev.shtOpen_refused _ (by omega)]
    exact hRefused
  · rw [Dev.shtAdmit_refused _ (by omega)]
    exact hRefused

end

/-- Settles O18: each command is taken apart into its refusal, its failure and its success (`Dev.shtOpen_passes`, `Dev.shtAdmit_passes`). ADMIT
arms the list entry by entry (`Dev.armEach_spec`), which leaves all that the rest of the command reads. -/
theorem sheetOpenAdmit : Obligations.SheetOpenAdmit := by
  unfold Obligations.SheetOpenAdmit
  exact ⟨fun _ _ hDirect => sheetAdmit_admits hDirect, fun _ _ hDirect => sheetOpen_opens hDirect, fun _ _ _ hDirect => sheetOpen_fails hDirect,
    fun _ _ hDirect => sheetAdmit_arms hDirect, fun _ _ _ hDirect => sheetAdmit_fails hDirect, fun _ _ hDirect => sheet_refused hDirect⟩

end Sys2Proof.Proofs
end

-- ==== Sitting: the lanes of the Raster Ring ====
section
/-! SUPPORT. Training of the Raster Ring: a training sequence that differs from the one before in its hop alone acts at once (R130, R131), and
the clause that lets nothing act before eight alike fails there. -/
open Sys2Proof Sys2Proof.Machine Sys2Proof.Claims
set_option maxRecDepth 20000

namespace Sys2Proof.Proofs

/-- A TS1 of an RL-2 ring of 4 lanes with the given hop (R129). -/
def ts1WithHop (hop : Nat) : List Nat :=
  let b := [1, 0, 0x5A, 2, 3, 0, 4, hop, 0, 0, 0, 0]
  b ++ [crc16 b / 256, crc16 b % 256]

/-- ALIGNED in an RL-2 ring of 4 lanes: eight filler TS1 (hop 0xFF) have acted, so RNG_POSITION shows hop 0xFF and a TS1 of the same rate and
round is no change of kind. -/
def fillerActedState : State :=
  let d := ({} : Dev).put F.RNG_LANE_STATUS.rx_state 4
  { dev := { d with
    rng := { d.rng with tsLast := tsCore (ts1WithHop 0xFF), tsN := 8, tsAct := tsKey (ts1WithHop 0xFF) }
    frd := { d.frd with cfg := { d.frd.cfg with role := { d.frd.cfg.role with ringGen := 2, ringLanes := 4 } } } } }

/-- The first TS1 that carries hop 5 sets RNG_POSITION.hop to 6. -/
theorem fillerActedState_hop : (fillerActedState.dev.tsReceived ((ts1WithHop 5).map (BitVec.ofNat 8))).rd R.RNG_POSITION = 6 := by decide

/-- Refutes O20: the clause on TS_RECEIVED keeps RNG_POSITION while fewer than eight alike have come; R130 asks for eight only of a change of
kind, rate or round, and a TS1 that changes the hop alone acts at its first copy. -/
theorem not_ringTraining : ¬ Obligations.RingTraining := by
  unfold Obligations.RingTraining
  rintro ⟨-, -, -, -, -, -, -, -, -, -, -, -, -, -, hTs, -⟩
  obtain ⟨t, hExec, -, -, -, -, hKept, -⟩ := hTs fillerActedState ((ts1WithHop 5).map (BitVec.ofNat 8)) (by decide) (by decide) (by decide)
    (by decide) (by decide)
  obtain rfl : { fillerActedState with dev := fillerActedState.dev.tsReceived ((ts1WithHop 5).map (BitVec.ofNat 8)) } = t := by
    injection hExec
  obtain ⟨hPosition, -⟩ := hKept (by decide)
  exact absurd (fillerActedState_hop.symm.trans hPosition) (by decide)

end Sys2Proof.Proofs
end

section
/-! SUPPORT. What the pieces of a lane's change of state do (R134-R139): the checkers, entering a receive state, leaving ALIGNED, DETECT,
entering a transmit state; for each its frame, the fields it sets and the fields it leaves. -/
open Sys2Proof Sys2Proof.Machine Sys2Proof.Claims

namespace Sys2Proof.Machine

/-! ### Fields that share no bit -/

/-- Two fields share no bit: they stand in different registers, or in different bits of one. -/
def Fld.apart (f g : Fld) : Prop :=
  g.reg.off ≠ f.reg.off ∨ (g.reg = f.reg ∧ f.ok = true ∧ g.ok = true ∧ (decide (g.hi < f.lo) || decide (f.hi < g.lo)) = true)

theorem Dev.get_put_apart (d : Dev) {f g : Fld} (h : f.apart g) (v : Nat) : (d.put f v).get g = d.get g := by
  rcases h with h | ⟨hr, hf, hg, h⟩
  · exact Dev.get_put_ne _ _ _ _ h
  · exact Dev.get_put_other _ _ _ _ hr hf hg h

/-- A fact that holds before a loop over lanes and that each lane carries on holds after it. -/
theorem Dev.each_range_induct {P : Nat → Dev → Prop} {u : Dev → Nat → Dev} {d : Dev} (h0 : P 0 d)
    (hStep : ∀ l x, P l x → P (l + 1) (u x l)) (w : Nat) : P w (d.each (List.range w) u) := by
  unfold Dev.each
  induction w with
  | zero => exact h0
  | succ w ih =>
    rw [List.range_succ, List.foldl_append]
    exact hStep w _ ih

/-! ### What the generation fixes (R123) -/

theorem Dev.ringW_congr {d e : Dev} (h : e.frd = d.frd) : e.ringW = d.ringW := by
  rw [Dev.ringW, Dev.ringW, Dev.ringGen, Dev.ringGen, Dev.role, Dev.role, h]

theorem Dev.trainRate_congr {d e : Dev} (h : e.frd = d.frd) : e.trainRate = d.trainRate := by
  rw [Dev.trainRate, Dev.trainRate, Dev.ringGen, Dev.ringGen, Dev.role, Dev.role, h]

/-! ### The parts of a lane -/

/-- The registers of the receive lanes that a change of the receive direction writes. -/
theorem lane_mem_laneParts {l : Nat} (h : l < 8) : Part.reg (R.RNG_RXl_STATUS l).off ∈ laneParts ∧
    Part.reg (R.RNG_RXl_BITS l).off ∈ laneParts ∧ Part.reg (R.RNG_RXl_ERRS l).off ∈ laneParts := by
  refine ⟨?_, ?_, ?_⟩ <;>
  exact List.mem_append_right _ (List.mem_flatMap.2 ⟨l, List.mem_range.2 h, by simp⟩)

theorem status_mem_laneParts : Part.reg R.RNG_LANE_STATUS.off ∈ laneParts := by simp [laneParts]
theorem rng_mem_laneParts : Part.rng ∈ laneParts := by simp [laneParts]
theorem irqParts_subset_laneParts : ∀ p ∈ irqParts, p ∈ laneParts := by simp +contextual [laneParts]
theorem irqStatus_mem_laneParts : Part.reg R.RNG_LANE_IRQ_STATUS.off ∈ laneParts := by simp [laneParts]
theorem laneParts_subset_rxLeftParts : ∀ p ∈ laneParts, p ∈ rxLeftParts := by simp +contextual [rxLeftParts]

/-- What the checker of a lane changes (R138). -/
def checkerParts (l : Nat) : List Part :=
  [Part.rng, Part.free, Part.reg R.RNG_LANE_IRQ_STATUS.off, Part.reg (R.RNG_RXl_BITS l).off, Part.reg (R.RNG_RXl_ERRS l).off,
    Part.reg (R.RNG_RXl_STATUS l).off] ++ irqParts

theorem checkerParts_subset_laneParts {l : Nat} (h : l < 8) : ∀ p ∈ checkerParts l, p ∈ laneParts := by
  obtain ⟨hStatus, hBits, hErrs⟩ := lane_mem_laneParts h
  simp only [checkerParts, List.cons_append, List.nil_append, List.forall_mem_cons]
  exact ⟨rng_mem_laneParts, by simp [laneParts], irqStatus_mem_laneParts, hBits, hErrs, hStatus, irqParts_subset_laneParts⟩

/-- What leaving ALIGNED changes (R135). -/
def leftParts : List Part :=
  [Part.out, Part.rng, Part.reg R.LG_VID_STAT.off, Part.reg R.LG_STATUS.off, Part.reg R.RNG_LANE_STATUS.off, Part.reg R.RNG_LANE_IRQ_STATUS.off] ++
    strobeParts 17 ++ freeParts ++ irqParts

theorem leftParts_subset_rxLeftParts : ∀ p ∈ leftParts, p ∈ rxLeftParts := by
  intro p
  simp only [leftParts, rxLeftParts, laneParts, List.mem_append, List.mem_cons]
  tauto

namespace Frame

variable {ps : List Part} {d e : Dev}

theorem modRng (h : Dev.Frame ps d e) (u : RngSt → RngSt) (hr : Part.rng ∈ ps) : Dev.Frame ps d (e.modRng u) := setRng h _ hr

theorem forget (h : Dev.Frame ps d e) (hr : Part.rng ∈ ps) : Dev.Frame ps d e.forget := modRng h _ hr

theorem rngFlag (h : Dev.Frame ps d e) (k : Nat) (hs : Part.reg R.RNG_LANE_IRQ_STATUS.off ∈ ps) (hi : ∀ p ∈ irqParts, p ∈ ps) :
    Dev.Frame ps d (e.rngFlag k) := flag h _ _ _ _ hs hi

end Frame

/-! ### The checkers (R138) -/

section
variable (d : Dev) (l : Nat)

/-- What a checker adds to its counts when it is brought up to date. -/
def Dev.chkCount : Dev :=
  if Store.get 0 d.rng.chkAt l = 0 || d.bitsSince l = 0 then d
  else
    let n := d.bitsSince l
    let (e, d) := d.chkErrors l
    let e := e % (n + 1)
    let d := (d.wr (R.RNG_RXl_BITS l) (d.rd (R.RNG_RXl_BITS l) + n)).count (F.RNG_RXl_ERRS.errors l) e
    let d := d.patternLock l n e
    if e = 0 then d else d.rngFlag 4

theorem Dev.chkUpdate_eq : d.chkUpdate l =
    let e := d.chkCount l
    e.modRng fun r => { r with chkAt := Store.set 0 r.chkAt l (if e.chkRuns l then e.sys.now8 + 1 else 0) } := rfl

theorem Dev.frame_chkErrors : Dev.Frame [Part.free] d (d.chkErrors l).2 := by
  unfold Dev.chkErrors
  split
  · exact Frame.setFree Frame.refl _ (by simp)
  · exact Frame.freeVal Frame.refl _ (by simp)

theorem Dev.frame_patternLock (n e : Nat) : Dev.Frame [Part.free, Part.reg (R.RNG_RXl_STATUS l).off] d (d.patternLock l n e) := by
  unfold Dev.patternLock
  refine Frame.ite Frame.refl (Frame.ite ?_ (Frame.ite Frame.refl ?_))
  · exact Frame.put Frame.refl _ _ (by simp [F.RNG_RXl_STATUS.pattern_locked])
  · exact Frame.put (Frame.freeVal Frame.refl 1 (by simp)) _ _ (by simp [F.RNG_RXl_STATUS.pattern_locked])

theorem Dev.frame_chkCount : Dev.Frame (checkerParts l) d (d.chkCount l) := by
  unfold Dev.chkCount
  refine Frame.ite Frame.refl ?_
  have hErrors : Dev.Frame (checkerParts l) d (d.chkErrors l).2 := Frame.mono (d.frame_chkErrors l) (by simp [checkerParts])
  generalize d.chkErrors l = p at hErrors
  obtain ⟨e, x⟩ := p
  have hCounted := Frame.count (Frame.wr hErrors (R.RNG_RXl_BITS l) (x.rd (R.RNG_RXl_BITS l) + d.bitsSince l) (by simp [checkerParts]))
    (F.RNG_RXl_ERRS.errors l) (e % (d.bitsSince l + 1)) (by simp [checkerParts, F.RNG_RXl_ERRS.errors])
  have hLocked := Frame.trans hCounted (Frame.mono (Dev.frame_patternLock _ l (d.bitsSince l) (e % (d.bitsSince l + 1))) (by simp [checkerParts]))
  exact Frame.ite hLocked (Frame.rngFlag hLocked _ (by simp [checkerParts]) (by simp +contextual [checkerParts]))

theorem Dev.frame_chkUpdate : Dev.Frame (checkerParts l) d (d.chkUpdate l) := by
  rw [Dev.chkUpdate_eq]
  exact Frame.modRng (d.frame_chkCount l) _ (by simp [checkerParts])

theorem Dev.frame_chkAll : Dev.Frame laneParts d d.chkAll :=
  Frame.each _ _ (fun x _ hl => Frame.mono (x.frame_chkUpdate _) (checkerParts_subset_laneParts (List.mem_range.1 hl))) Frame.refl

/-- No checker of lane l writes the field. -/
def Fld.unchecked (f : Fld) (l : Nat) : Prop :=
  f.reg.off ≠ (R.RNG_RXl_BITS l).off ∧ f.reg.off ≠ (R.RNG_RXl_ERRS l).off ∧ f.reg.off ≠ R.RNG_LANE_IRQ_STATUS.off ∧
    f.reg.off ≠ R.MSIX_PBA.off ∧ (F.RNG_RXl_STATUS.pattern_locked l).apart f

theorem laneStatus_unchecked {f : Fld} (h : f.reg = R.RNG_LANE_STATUS) : f.unchecked l := by
  simp only [Fld.unchecked, Fld.apart, h, R.RNG_RXl_BITS, R.RNG_RXl_ERRS, R.RNG_LANE_STATUS, R.RNG_LANE_IRQ_STATUS, R.MSIX_PBA,
    F.RNG_RXl_STATUS.pattern_locked, R.RNG_RXl_STATUS]
  omega

theorem locked_unchecked (j : Nat) : (F.RNG_RXl_STATUS.locked j).unchecked l := by
  refine ⟨?_, ?_, ?_, ?_, ?_⟩
  case refine_5 =>
    by_cases h : j = l
    · subst h
      exact .inr ⟨rfl, rfl, rfl, rfl⟩
    · refine .inl ?_
      simp only [F.RNG_RXl_STATUS.locked, F.RNG_RXl_STATUS.pattern_locked, R.RNG_RXl_STATUS]
      omega
  all_goals
    simp only [F.RNG_RXl_STATUS.locked, R.RNG_RXl_STATUS, R.RNG_RXl_BITS, R.RNG_RXl_ERRS, R.RNG_LANE_IRQ_STATUS, R.MSIX_PBA]
    omega

theorem Dev.get_patternLock {f : Fld} (h : (F.RNG_RXl_STATUS.pattern_locked l).apart f) (n e : Nat) : (d.patternLock l n e).get f = d.get f := by
  unfold Dev.patternLock
  dsimp only
  split_ifs
  · rfl
  · exact Dev.get_put_apart _ h _
  · rfl
  · exact Dev.get_put_apart _ h _

theorem Dev.get_chkUpdate {f : Fld} (h : f.unchecked l) : (d.chkUpdate l).get f = d.get f := by
  obtain ⟨hBits, hErrs, hIrq, hPba, hLocked⟩ := h
  have hCount : (d.chkCount l).get f = d.get f := by
    unfold Dev.chkCount
    have hErrors : (d.chkErrors l).2.get f = d.get f := Frame.get (d.frame_chkErrors l) f (by simp)
    split_ifs
    · rfl
    generalize d.chkErrors l = p at hErrors
    obtain ⟨e, x⟩ := p
    have hCounted : ∀ n e, (((x.wr (R.RNG_RXl_BITS l) (x.rd (R.RNG_RXl_BITS l) + n)).count (F.RNG_RXl_ERRS.errors l) e).patternLock l n e).get f =
        d.get f := fun n e => by
      rw [Dev.get_patternLock _ _ hLocked, Dev.count, Dev.get_put_ne _ _ _ _ hErrs, Dev.get_wr_ne _ _ _ _ hBits, hErrors]
    dsimp only
    split_ifs
    · exact hCounted _ _
    · rw [Dev.rngFlag, Dev.get_flag_ne _ _ _ _ _ _ hIrq hPba]
      exact hCounted _ _
  rw [Dev.chkUpdate_eq]
  exact hCount

theorem Dev.get_chkAll {f : Fld} (h : ∀ l, f.unchecked l) : d.chkAll.get f = d.get f :=
  d.kept_each (·.get f) _ _ fun x l => x.get_chkUpdate l (h l)

/-- What the receive direction notes for later: the checker modes before TEST (R134), the detail of its failure (R141). -/
def Dev.rxNotes : List Nat × Nat := (d.rng.chkPrev, d.rng.rxDet)

theorem Dev.rng_chkErrors : (d.chkErrors l).2.rng = d.rng := d.frame_chkErrors l .rng (by simp)

theorem Dev.rng_patternLock (n e : Nat) : (d.patternLock l n e).rng = d.rng := d.frame_patternLock l n e .rng (by simp)

theorem Dev.rxNotes_chkUpdate : (d.chkUpdate l).rxNotes = d.rxNotes := by
  have hCount : (d.chkCount l).rng = d.rng := by
    unfold Dev.chkCount
    have hErrors := d.rng_chkErrors l
    split_ifs
    · rfl
    generalize d.chkErrors l = p at hErrors
    obtain ⟨e, x⟩ := p
    dsimp only
    split_ifs <;> simp only [Dev.rngFlag, Dev.flag_rng, Dev.rng_patternLock, Dev.count_rng, Dev.wr_rng] <;> exact hErrors
  rw [Dev.chkUpdate_eq, Dev.rxNotes, Dev.rxNotes, ← hCount]
  rfl

theorem Dev.rxNotes_chkAll : d.chkAll.rxNotes = d.rxNotes := d.kept_each Dev.rxNotes _ _ fun x l => x.rxNotes_chkUpdate l

end

/-! ### Entering a transmit state (R33, R135, R138) -/

section
variable (d : Dev)

/-- What entering a transmit state writes before the generators start. -/
def Dev.txSet (st : Nat) : Dev :=
  let d := (d.put F.RNG_LANE_STATUS.tx_state st).putB F.RNG_LANE_STATUS.byp_driven (st = 4)
  d.modRng fun r => { r with txRate := if st = 1 || st = 2 then d.trainRate else if st = 3 then d.get F.RNG_LANE_STATUS.rate else r.txRate }

theorem Dev.txEnter_eq (st : Nat) : d.txEnter st = if st = 5 then (d.txSet st).each (List.range 8) Dev.genSend else d.txSet st := rfl

theorem Dev.frame_txSet (st : Nat) : Dev.Frame [Part.rng, Part.reg R.RNG_LANE_STATUS.off] d (d.txSet st) :=
  Frame.modRng (Frame.putB (Frame.put Frame.refl _ _ (by decide)) _ _ (by decide)) _ (by decide)

theorem Dev.frame_genSend (l : Nat) : Dev.Frame [Part.out] d (d.genSend l) := by
  unfold Dev.genSend
  refine Frame.ite Frame.refl ?_
  split
  · exact Frame.emit Frame.refl _ (by simp)
  · exact Frame.refl

theorem Dev.frame_genSends : Dev.Frame [Part.out] d (d.each (List.range 8) Dev.genSend) :=
  Frame.each _ _ (fun x l _ => x.frame_genSend l) Frame.refl

theorem Dev.frame_txEnter (st : Nat) : Dev.Frame [Part.rng, Part.reg R.RNG_LANE_STATUS.off, Part.out] d (d.txEnter st) := by
  rw [Dev.txEnter_eq]
  have hSet : Dev.Frame [Part.rng, Part.reg R.RNG_LANE_STATUS.off, Part.out] d (d.txSet st) := Frame.mono (d.frame_txSet st) (by simp)
  exact Frame.ite (Frame.trans hSet (Frame.mono (Dev.frame_genSends _) (by simp))) hSet

theorem Dev.rd_txEnter (st : Nat) (r : Reg) : (d.txEnter st).rd r = (d.txSet st).rd r := by
  rw [Dev.txEnter_eq]
  split_ifs
  · exact Frame.rd (Dev.frame_genSends _) r (by simp)
  · rfl

theorem Dev.get_txEnter_eq (st : Nat) (f : Fld) : (d.txEnter st).get f = (d.txSet st).get f := by
  rw [Dev.get, Dev.rd_txEnter, Dev.get]

/-- Entering a transmit state leaves the fields of the other direction. -/
theorem Dev.get_txEnter {f : Fld} (hState : F.RNG_LANE_STATUS.tx_state.apart f) (hByp : F.RNG_LANE_STATUS.byp_driven.apart f) (st : Nat) :
    (d.txEnter st).get f = d.get f := by
  rw [Dev.get_txEnter_eq]
  exact (Dev.get_put_apart _ hByp _).trans (Dev.get_put_apart _ hState _)

theorem Dev.txSt_txSet {st : Nat} (h : st < 16) : (d.txSet st).txSt = st := by
  have hApart : F.RNG_LANE_STATUS.byp_driven.apart F.RNG_LANE_STATUS.tx_state := .inr ⟨rfl, rfl, rfl, rfl⟩
  have hByp : (d.txSet st).txSt = (d.put F.RNG_LANE_STATUS.tx_state st).txSt :=
    Dev.get_put_apart (d.put F.RNG_LANE_STATUS.tx_state st) hApart _
  rw [hByp, Dev.txSt, Dev.get_put_same _ _ _ rfl]
  exact Nat.mod_eq_of_lt h

theorem Dev.txSt_txEnter {st : Nat} (h : st < 16) : (d.txEnter st).txSt = st := by
  rw [Dev.txSt, Dev.get_txEnter_eq]
  exact d.txSt_txSet h

theorem Dev.bypDriven_txEnter (st : Nat) : (d.txEnter st).on F.RNG_LANE_STATUS.byp_driven = decide (st = 4) := by
  rw [Dev.on, Dev.get_txEnter_eq]
  exact Dev.on_putB_same (d.put F.RNG_LANE_STATUS.tx_state st) _ _ rfl

theorem Dev.rng_txEnter (st : Nat) : ∃ rate, (d.txEnter st).rng = { d.rng with txRate := rate } := by
  have hSends : (d.txEnter st).rng = (d.txSet st).rng := by
    rw [Dev.txEnter_eq]
    split_ifs
    · exact Dev.frame_genSends _ .rng (by simp)
    · rfl
  exact ⟨_, hSends⟩

/-- The generators of the used lanes whose mode is PRBS7 send it as TEST begins (R138). -/
theorem Dev.prbs7_mem_txEnter {l : Nat} (hUsed : l < d.ringW) (hLane : l < 8) (hMode : d.get (F.RNG_TXl_GEN_CTRL.mode l) = 2) :
    Out.pattern l (.prbs 7 6) ∈ (d.txEnter 5).out := by
  have hSet := d.frame_txSet 5
  have hTest : (d.txSet 5).txSt = 5 := d.txSt_txSet (by omega)
  have hSetMode : (d.txSet 5).get (F.RNG_TXl_GEN_CTRL.mode l) = 2 := by
    rw [Frame.get hSet _ (by simp [F.RNG_TXl_GEN_CTRL.mode, R.RNG_TXl_GEN_CTRL, R.RNG_LANE_STATUS]; omega), hMode]
  rw [Dev.txEnter_eq, if_pos rfl]
  refine (Dev.each_range_induct (P := fun n x => Dev.Frame [Part.out] (d.txSet 5) x ∧ (l < n → Out.pattern l (.prbs 7 6) ∈ x.out))
    ⟨Frame.refl, by omega⟩ (fun n x ⟨hFrame, hSent⟩ => ⟨Frame.trans hFrame (x.frame_genSend n), fun hl => ?_⟩) 8).2 hLane
  have hx : x.txSt = 5 := (Frame.get hFrame _ (by simp)).trans hTest
  have hw : x.ringW = d.ringW := Dev.ringW_congr ((hFrame .frd (by simp)).trans (hSet .frd (by simp)))
  by_cases hn : n = l
  · subst hn
    have hSends : x.genSend n = x.emit (.pattern n (.prbs 7 6)) := by
      have hm : x.get (F.RNG_TXl_GEN_CTRL.mode n) = 2 := (Frame.get hFrame _ (by simp)).trans hSetMode
      rw [Dev.genSend, if_neg (by simp [hx, hw, hUsed]), hm]
      rfl
    simp [hSends]
  · have hBefore : Out.pattern l (.prbs 7 6) ∈ x.out := hSent (by omega)
    unfold Dev.genSend
    split_ifs
    · exact hBefore
    · split
      · exact List.mem_cons_of_mem _ hBefore
      · exact hBefore

end

/-! ### Leaving ALIGNED (R135) -/

section
variable (d : Dev)

theorem Dev.frame_lgVideo (k : Nat) : Dev.Frame [Part.reg R.LG_VID_STAT.off, Part.reg R.LG_STATUS.off] d (d.lgVideo k) := by
  unfold Dev.lgVideo Dev.lgEvent
  have hStat := Frame.wr (Frame.refl (ps := [Part.reg R.LG_VID_STAT.off, Part.reg R.LG_STATUS.off]) (d := d)) R.LG_VID_STAT
    (putBits (d.rd R.LG_VID_STAT) k k 1) (by simp)
  exact Frame.ite (Frame.ite (Frame.wr hStat _ _ (by simp)) hStat) Frame.refl

theorem Dev.frame_fillerTs : Dev.Frame [Part.out] d d.fillerTs :=
  Frame.ite Frame.refl (Frame.emit Frame.refl _ (by simp))

theorem Dev.frame_baseSend : Dev.Frame [Part.out] d d.baseSend :=
  Frame.ite (Frame.emit Frame.refl _ (by simp)) d.frame_fillerTs

theorem Dev.frame_rxLeft : Dev.Frame leftParts d d.rxLeft := by
  unfold Dev.rxLeft
  have hFlags : Dev.Frame leftParts d ((d.rngFlag 2).lgVideo 0) :=
    Frame.trans (Frame.rngFlag Frame.refl _ (by simp [leftParts]) (by simp +contextual [leftParts]))
      (Frame.mono (Dev.frame_lgVideo _ _) (by simp [leftParts]))
  generalize (d.rngFlag 2).lgVideo 0 = x at hFlags
  have hFall : Dev.Frame leftParts d ((x.forget.txEnter 2).fillerTs) :=
    Frame.trans (Frame.trans (Frame.forget hFlags (by simp [leftParts])) (Frame.mono (Dev.frame_txEnter _ _) (by simp [leftParts])))
      (Frame.mono (Dev.frame_fillerTs _) (by simp [leftParts]))
  dsimp only
  split
  · exact Frame.reportOpen hFall _ (by simp [leftParts, freeParts]) (by simp [leftParts, strobeParts]) (by simp [leftParts, strobeParts])
  · exact hFall
  · exact Frame.trans hFlags (Frame.mono x.frame_baseSend (by simp [leftParts]))
  · exact hFlags

/-- What the transmit direction does as the receive direction leaves ALIGNED. -/
def Dev.txFall : Dev :=
  match d.txSt with
  | 4 => ((d.forget.txEnter 2).fillerTs).reportOpen 17
  | 3 => (d.forget.txEnter 2).fillerTs
  | 2 => d.baseSend
  | _ => d

theorem Dev.rxLeft_eq : d.rxLeft = ((d.rngFlag 2).lgVideo 0).txFall := rfl

/-- The fall of the transmit direction leaves what the receive direction shows in RNG_LANE_STATUS, and its notes. -/
theorem Dev.txFall_keeps {f : Fld} (hReg : f.reg = R.RNG_LANE_STATUS) (hState : F.RNG_LANE_STATUS.tx_state.apart f)
    (hByp : F.RNG_LANE_STATUS.byp_driven.apart f) : d.txFall.get f = d.get f ∧ d.txFall.rxNotes = d.rxNotes := by
  have hNotes : ∀ x e : Dev, e.rng = x.rng → e.rxNotes = x.rxNotes := fun x e h => by rw [Dev.rxNotes, Dev.rxNotes, h]
  have hFall : ((d.forget.txEnter 2).fillerTs).get f = d.get f ∧ ((d.forget.txEnter 2).fillerTs).rxNotes = d.rxNotes := by
    have hTs := (d.forget.txEnter 2).frame_fillerTs
    obtain ⟨rate, hRng⟩ := d.forget.rng_txEnter 2
    refine ⟨?_, ?_⟩
    · rw [Frame.get hTs f (by simp), Dev.get_txEnter _ hState hByp]
      rfl
    · rw [hNotes _ _ (hTs .rng (by simp)), Dev.rxNotes, hRng]
      rfl
  unfold Dev.txFall
  split
  · have hReport := Frame.reportOpen (Frame.refl (ps := freeParts ++ strobeParts 17) (d := (d.forget.txEnter 2).fillerTs)) 17 (by simp [freeParts])
      (by simp [strobeParts]) (by simp [strobeParts])
    rw [Frame.get hReport f (by rw [hReg]; decide), hNotes _ _ (hReport .rng (by decide))]
    exact hFall
  · exact hFall
  · exact ⟨Frame.get d.frame_baseSend f (by simp), hNotes _ _ (d.frame_baseSend .rng (by simp))⟩
  · exact ⟨rfl, rfl⟩

theorem Dev.rxLeft_keeps {f : Fld} (hReg : f.reg = R.RNG_LANE_STATUS) (hState : F.RNG_LANE_STATUS.tx_state.apart f)
    (hByp : F.RNG_LANE_STATUS.byp_driven.apart f) : d.rxLeft.get f = d.get f ∧ d.rxLeft.rxNotes = d.rxNotes := by
  obtain ⟨hGet, hNotes⟩ := ((d.rngFlag 2).lgVideo 0).txFall_keeps hReg hState hByp
  have hVideo := (d.rngFlag 2).frame_lgVideo 0
  refine ⟨?_, ?_⟩
  · rw [Dev.rxLeft_eq, hGet, Frame.get hVideo f (by rw [hReg]; decide), Dev.rngFlag,
      Dev.get_flag_ne _ _ _ _ _ _ (by rw [hReg]; decide) (by rw [hReg]; decide)]
  · rw [Dev.rxLeft_eq, hNotes, Dev.rxNotes, hVideo .rng (by decide), Dev.rngFlag, Dev.flag_rng]
    rfl

end

end Sys2Proof.Machine
end

section
/-! SUPPORT. Entering a receive state, DETECT, and the order of the lanes (R128, R134-R139), from the pieces above. -/
open Sys2Proof Sys2Proof.Machine Sys2Proof.Claims

namespace Sys2Proof.Machine

/-! ### The fields of RNG_LANE_STATUS (R141) -/

theorem txState_apart_rxState : F.RNG_LANE_STATUS.tx_state.apart F.RNG_LANE_STATUS.rx_state := .inr ⟨rfl, rfl, rfl, rfl⟩
theorem byp_apart_rxState : F.RNG_LANE_STATUS.byp_driven.apart F.RNG_LANE_STATUS.rx_state := .inr ⟨rfl, rfl, rfl, rfl⟩
theorem rate_apart_rxState : F.RNG_LANE_STATUS.rate.apart F.RNG_LANE_STATUS.rx_state := .inr ⟨rfl, rfl, rfl, rfl⟩
theorem committed_apart_rxState : F.RNG_LANE_STATUS.committed.apart F.RNG_LANE_STATUS.rx_state := .inr ⟨rfl, rfl, rfl, rfl⟩
theorem txState_apart_rate : F.RNG_LANE_STATUS.tx_state.apart F.RNG_LANE_STATUS.rate := .inr ⟨rfl, rfl, rfl, rfl⟩
theorem byp_apart_rate : F.RNG_LANE_STATUS.byp_driven.apart F.RNG_LANE_STATUS.rate := .inr ⟨rfl, rfl, rfl, rfl⟩
theorem rxState_apart_rate : F.RNG_LANE_STATUS.rx_state.apart F.RNG_LANE_STATUS.rate := .inr ⟨rfl, rfl, rfl, rfl⟩
theorem committed_apart_rate : F.RNG_LANE_STATUS.committed.apart F.RNG_LANE_STATUS.rate := .inr ⟨rfl, rfl, rfl, rfl⟩
theorem txState_apart_committed : F.RNG_LANE_STATUS.tx_state.apart F.RNG_LANE_STATUS.committed := .inr ⟨rfl, rfl, rfl, rfl⟩
theorem byp_apart_committed : F.RNG_LANE_STATUS.byp_driven.apart F.RNG_LANE_STATUS.committed := .inr ⟨rfl, rfl, rfl, rfl⟩
theorem rxState_apart_committed : F.RNG_LANE_STATUS.rx_state.apart F.RNG_LANE_STATUS.committed := .inr ⟨rfl, rfl, rfl, rfl⟩
theorem rate_apart_txState : F.RNG_LANE_STATUS.rate.apart F.RNG_LANE_STATUS.tx_state := .inr ⟨rfl, rfl, rfl, rfl⟩
theorem committed_apart_txState : F.RNG_LANE_STATUS.committed.apart F.RNG_LANE_STATUS.tx_state := .inr ⟨rfl, rfl, rfl, rfl⟩
theorem rxState_apart_txState : F.RNG_LANE_STATUS.rx_state.apart F.RNG_LANE_STATUS.tx_state := .inr ⟨rfl, rfl, rfl, rfl⟩

theorem lane_off_ne {l j : Nat} (h : j ≠ l) : (R.RNG_RXl_STATUS j).off ≠ (R.RNG_RXl_STATUS l).off := by
  simp only [R.RNG_RXl_STATUS]
  omega

/-! ### Loops that give a field of every lane a value -/

section
variable {d : Dev} {u : Dev → Nat → Dev} {f : Nat → Fld} {v : Nat → Nat}

/-- Each lane's field holds its value after a loop in which a lane sets its own and leaves the others'. -/
theorem Dev.get_each_lane (hSet : ∀ x l, (u x l).get (f l) = v l) (hKeep : ∀ x l j, j ≠ l → (u x l).get (f j) = x.get (f j)) {w l : Nat}
    (hl : l < w) : (d.each (List.range w) u).get (f l) = v l := by
  refine Dev.each_range_induct (P := fun n x => ∀ j < n, x.get (f j) = v j) (by omega) (fun n x hBefore j hj => ?_) w l hl
  by_cases h : j = n
  · rw [h]
    exact hSet x n
  · rw [hKeep x n j h]
    exact hBefore j (by omega)

end

section
variable (d : Dev)

/-! ### What a sleeping receive direction turns off (R137) -/

/-- A lane is no longer locked, nor is its pattern. -/
def Dev.laneOff (l : Nat) : Dev := (d.put (F.RNG_RXl_STATUS.locked l) 0).put (F.RNG_RXl_STATUS.pattern_locked l) 0

theorem Dev.frame_laneOff (l : Nat) : Dev.Frame [Part.reg (R.RNG_RXl_STATUS l).off] d (d.laneOff l) :=
  Frame.put (Frame.put Frame.refl _ _ (by simp [F.RNG_RXl_STATUS.locked])) _ _ (by simp [F.RNG_RXl_STATUS.pattern_locked])

theorem Dev.frame_rxOff : Dev.Frame laneParts d d.rxOff :=
  Frame.each _ _ (fun x l hl => Frame.mono (x.frame_laneOff l) (by simpa using (lane_mem_laneParts (List.mem_range.1 hl)).1))
    (Frame.put (Frame.put Frame.refl _ _ status_mem_laneParts) _ _ status_mem_laneParts)

theorem Dev.get_laneOffs {f : Fld} (h : f.reg = R.RNG_LANE_STATUS) : (d.each (List.range 8) Dev.laneOff).get f = d.get f :=
  d.kept_each (·.get f) _ _ fun x l => Frame.get (x.frame_laneOff l) f (by
    simp only [h, R.RNG_LANE_STATUS, R.RNG_RXl_STATUS, List.mem_singleton, Part.reg.injEq]
    omega)

theorem Dev.locked_rxOff {l : Nat} (hl : l < 8) : d.rxOff.get (F.RNG_RXl_STATUS.locked l) = 0 := by
  refine Dev.get_each_lane (f := F.RNG_RXl_STATUS.locked) (v := fun _ => 0) (fun x j => ?_) (fun x j i h => ?_) hl
  · obtain ⟨-, -, -, -, hApart⟩ := locked_unchecked j j
    exact (Dev.get_put_apart _ hApart 0).trans (Dev.get_put_same _ _ _ rfl)
  · exact Frame.get (x.frame_laneOff j) _ (by simpa [F.RNG_RXl_STATUS.locked] using lane_off_ne h)

theorem Dev.get_rxOff {f : Fld} (h : f.reg = R.RNG_LANE_STATUS) :
    d.rxOff.get f = ((d.put F.RNG_LANE_STATUS.rate 0).put F.RNG_LANE_STATUS.committed 0).get f := Dev.get_laneOffs _ h

theorem Dev.rxSt_rxOff : d.rxOff.rxSt = d.rxSt := by
  rw [Dev.rxSt, d.get_rxOff rfl, Dev.get_put_apart _ committed_apart_rxState, Dev.get_put_apart _ rate_apart_rxState, Dev.rxSt]

theorem Dev.rate_rxOff : d.rxOff.get F.RNG_LANE_STATUS.rate = 0 := by
  rw [d.get_rxOff rfl, Dev.get_put_apart _ committed_apart_rate, Dev.get_put_same _ _ _ rfl]
  rfl

theorem Dev.committed_rxOff : d.rxOff.on F.RNG_LANE_STATUS.committed = false := by
  rw [Dev.on, d.get_rxOff rfl, Dev.get_put_same _ _ _ rfl]
  rfl

theorem Dev.rng_rxOff : d.rxOff.rng = d.rng := Dev.kept_each _ Dev.rng _ _ fun _ _ => rfl

/-! ### Entering a receive state (R134) -/

/-- RNG_LANE_STATUS shows the new state; nothing else of the receive direction has changed yet. -/
def Dev.rxState (st : Nat) : Dev :=
  (d.when ((st = 0 || st = 5) && d.txSt ≠ 2) Dev.forget).chkAll.put F.RNG_LANE_STATUS.rx_state st

/-- What entering a receive state does before the transmit direction falls with it. -/
def Dev.rxMove (st : Nat) : Dev := (if st = 0 then (d.rxState st).rxOff else d.rxState st).chkAll

theorem Dev.rxEnter_eq (st : Nat) : d.rxEnter st = if d.rxSt = 4 && st ≠ 4 then (d.rxMove st).rxLeft else d.rxMove st := rfl

theorem Dev.frame_forgetWhen (c : Bool) : Dev.Frame [Part.rng] d (d.when c Dev.forget) :=
  Frame.when Frame.refl (Frame.forget Frame.refl (by simp))

theorem Dev.rxNotes_put (f : Fld) (v : Nat) : (d.put f v).rxNotes = d.rxNotes := rfl

theorem Dev.rxNotes_forgetWhen (c : Bool) : (d.when c Dev.forget).rxNotes = d.rxNotes := by
  unfold Dev.when
  split <;> rfl

theorem Dev.frame_rxState (st : Nat) : Dev.Frame laneParts d (d.rxState st) :=
  Frame.put (Frame.trans (Frame.mono (d.frame_forgetWhen _) (by simp [laneParts])) (Dev.frame_chkAll _)) _ _ status_mem_laneParts

theorem Dev.get_rxState {f : Fld} (hApart : F.RNG_LANE_STATUS.rx_state.apart f) (hChecked : ∀ l, f.unchecked l) (st : Nat) :
    (d.rxState st).get f = d.get f := by
  rw [Dev.rxState, Dev.get_put_apart _ hApart, Dev.get_chkAll _ hChecked, Frame.get (d.frame_forgetWhen _) f (by simp)]

theorem Dev.rxSt_rxState {st : Nat} (h : st < 16) : (d.rxState st).rxSt = st := by
  rw [Dev.rxSt, Dev.rxState, Dev.get_put_same _ _ _ rfl]
  exact Nat.mod_eq_of_lt h

theorem Dev.frame_rxMove (st : Nat) : Dev.Frame laneParts d (d.rxMove st) := by
  have hState := d.frame_rxState st
  exact Frame.trans (Frame.ite (Frame.trans hState (Dev.frame_rxOff _)) hState) (Dev.frame_chkAll _)

theorem Dev.rxSt_rxMove {st : Nat} (h : st < 16) : (d.rxMove st).rxSt = st := by
  rw [Dev.rxSt, Dev.rxMove, Dev.get_chkAll _ fun l => laneStatus_unchecked l rfl]
  split_ifs
  · exact (Dev.rxSt_rxOff _).trans (d.rxSt_rxState h)
  · exact d.rxSt_rxState h

/-- A state other than SLEEP leaves what no checker writes, but for the state itself. -/
theorem Dev.get_rxMove {f : Fld} (hApart : F.RNG_LANE_STATUS.rx_state.apart f) (hChecked : ∀ l, f.unchecked l) {st : Nat} (h : st ≠ 0) :
    (d.rxMove st).get f = d.get f := by
  rw [Dev.rxMove, if_neg h, Dev.get_chkAll _ hChecked, d.get_rxState hApart hChecked]

theorem Dev.rxMove_sleeps : (d.rxMove 0).get F.RNG_LANE_STATUS.rate = 0 ∧ (d.rxMove 0).on F.RNG_LANE_STATUS.committed = false ∧
    ∀ l < 8, (d.rxMove 0).get (F.RNG_RXl_STATUS.locked l) = 0 := by
  rw [Dev.rxMove, if_pos rfl, Dev.on, Dev.get_chkAll _ fun l => laneStatus_unchecked l rfl,
    Dev.get_chkAll _ fun l => laneStatus_unchecked l rfl]
  refine ⟨Dev.rate_rxOff _, Dev.committed_rxOff _, fun l hl => ?_⟩
  rw [Dev.get_chkAll _ fun j => locked_unchecked j l]
  exact Dev.locked_rxOff _ hl

theorem Dev.rxNotes_rxMove (st : Nat) : (d.rxMove st).rxNotes = d.rxNotes := by
  have hState : (d.rxState st).rxNotes = d.rxNotes := by
    rw [Dev.rxState, Dev.rxNotes_put, Dev.rxNotes_chkAll, Dev.rxNotes_forgetWhen]
  rw [Dev.rxMove, Dev.rxNotes_chkAll]
  split_ifs
  · rw [Dev.rxNotes, Dev.rng_rxOff]
    exact hState
  · exact hState

theorem Dev.rxEnter_of_notAligned (h : d.rxSt ≠ 4) (st : Nat) : d.rxEnter st = d.rxMove st := by
  rw [Dev.rxEnter_eq, if_neg (by simp [h])]

theorem Dev.frame_rxEnter (st : Nat) : Dev.Frame rxLeftParts d (d.rxEnter st) := by
  rw [Dev.rxEnter_eq]
  have hMove := Frame.mono (d.frame_rxMove st) laneParts_subset_rxLeftParts
  exact Frame.ite (Frame.trans hMove (Frame.mono (Dev.frame_rxLeft _) leftParts_subset_rxLeftParts)) hMove

/-- The fall of the transmit direction leaves what entering a state has set of the receive half of RNG_LANE_STATUS, and the notes. -/
theorem Dev.rxEnter_keeps {f : Fld} (hReg : f.reg = R.RNG_LANE_STATUS) (hState : F.RNG_LANE_STATUS.tx_state.apart f)
    (hByp : F.RNG_LANE_STATUS.byp_driven.apart f) (st : Nat) :
    (d.rxEnter st).get f = (d.rxMove st).get f ∧ (d.rxEnter st).rxNotes = d.rxNotes := by
  obtain ⟨hGet, hNotes⟩ := (d.rxMove st).rxLeft_keeps hReg hState hByp
  rw [Dev.rxEnter_eq]
  split_ifs
  · exact ⟨hGet, hNotes.trans (d.rxNotes_rxMove st)⟩
  · exact ⟨rfl, d.rxNotes_rxMove st⟩

theorem Dev.rxSt_rxEnter {st : Nat} (h : st < 16) : (d.rxEnter st).rxSt = st :=
  (d.rxEnter_keeps rfl txState_apart_rxState byp_apart_rxState st).1.trans (d.rxSt_rxMove h)

theorem Dev.rxNotes_rxEnter (st : Nat) : (d.rxEnter st).rxNotes = d.rxNotes :=
  (d.rxEnter_keeps rfl txState_apart_rxState byp_apart_rxState st).2

theorem Dev.rate_rxEnter (st : Nat) : (d.rxEnter st).get F.RNG_LANE_STATUS.rate = (d.rxMove st).get F.RNG_LANE_STATUS.rate :=
  (d.rxEnter_keeps rfl txState_apart_rate byp_apart_rate st).1

theorem Dev.committed_rxEnter (st : Nat) :
    (d.rxEnter st).on F.RNG_LANE_STATUS.committed = (d.rxMove st).on F.RNG_LANE_STATUS.committed := by
  rw [Dev.on, Dev.on, (d.rxEnter_keeps rfl txState_apart_committed byp_apart_committed st).1]

theorem rxStatus_not_mem_leftParts (l : Nat) : Part.reg (R.RNG_RXl_STATUS l).off ∉ leftParts := by
  simp [leftParts, strobeParts, freeParts, irqParts, R.RNG_RXl_STATUS, R.LG_VID_STAT, R.LG_STATUS, R.RNG_LANE_STATUS, R.RNG_LANE_IRQ_STATUS,
    R.FLT_SRCi_STATE, R.MSIX_PBA]
  omega

theorem Dev.locked_rxEnter (st l : Nat) : (d.rxEnter st).get (F.RNG_RXl_STATUS.locked l) = (d.rxMove st).get (F.RNG_RXl_STATUS.locked l) := by
  rw [Dev.rxEnter_eq]
  split_ifs
  · exact Frame.get (Dev.frame_rxLeft _) _ (rxStatus_not_mem_leftParts l)
  · rfl

/-! ### DETECT (R131, R134) -/

/-- The receive direction forgets its training and its checkers are up to date. -/
def Dev.rxUntrain : Dev :=
  ((d.when (d.txSt ≠ 2) Dev.forget).modRng fun r => { r with adapting := false, tsLast := [], tsN := 0, tsAct := [] }).chkAll

/-- What DETECT does before it enters its state. -/
def Dev.rxPrepare : Dev :=
  ((d.rxUntrain.put F.RNG_LANE_STATUS.rate d.rxUntrain.trainRate).put F.RNG_LANE_STATUS.committed 0).each (List.range 8)
    fun d l => d.put (F.RNG_RXl_STATUS.locked l) 0

theorem Dev.rxDetect_eq : d.rxDetect = d.rxPrepare.rxEnter 1 := rfl

theorem Dev.frame_rxUntrain : Dev.Frame laneParts d d.rxUntrain :=
  Frame.trans (Frame.modRng (Frame.mono (d.frame_forgetWhen _) (by simp [laneParts])) _ rng_mem_laneParts) (Dev.frame_chkAll _)

theorem Dev.get_rxUntrain {f : Fld} (hChecked : ∀ l, f.unchecked l) : d.rxUntrain.get f = d.get f := by
  rw [Dev.rxUntrain, Dev.get_chkAll _ hChecked]
  exact Frame.get (d.frame_forgetWhen _) f (by simp)

theorem Dev.frame_rxPrepare : Dev.Frame laneParts d d.rxPrepare := by
  exact Frame.each _ _ (fun x l hl => Frame.put Frame.refl _ _ (lane_mem_laneParts (List.mem_range.1 hl)).1)
    (Frame.put (Frame.put d.frame_rxUntrain _ _ status_mem_laneParts) _ _ status_mem_laneParts)

theorem Dev.get_rxPrepare_eq {f : Fld} (h : f.reg = R.RNG_LANE_STATUS) : d.rxPrepare.get f =
    ((d.rxUntrain.put F.RNG_LANE_STATUS.rate d.rxUntrain.trainRate).put F.RNG_LANE_STATUS.committed 0).get f := by
  refine Dev.kept_each _ (·.get f) _ _ fun x l => Dev.get_put_ne _ _ _ _ ?_
  simp only [h, R.RNG_LANE_STATUS, F.RNG_RXl_STATUS.locked, R.RNG_RXl_STATUS]
  omega

theorem Dev.trainRate_lt : d.trainRate < 16 := by
  unfold Dev.trainRate
  split_ifs <;> omega

theorem Dev.rxPrepare_shows : d.rxPrepare.get F.RNG_LANE_STATUS.rate = d.trainRate ∧ d.rxPrepare.on F.RNG_LANE_STATUS.committed = false := by
  refine ⟨?_, ?_⟩
  · rw [Dev.get_rxPrepare_eq _ rfl, Dev.get_put_apart _ committed_apart_rate, Dev.get_put_same _ _ _ rfl,
      Dev.trainRate_congr (d.frame_rxUntrain .frd (by simp [laneParts, irqParts]))]
    exact Nat.mod_eq_of_lt d.trainRate_lt
  · rw [Dev.on, Dev.get_rxPrepare_eq _ rfl, Dev.get_put_same _ _ _ rfl]
    rfl

/-- DETECT leaves the fields of RNG_LANE_STATUS that it does not set. -/
theorem Dev.get_rxPrepare {f : Fld} (hReg : f.reg = R.RNG_LANE_STATUS) (hRate : F.RNG_LANE_STATUS.rate.apart f)
    (hCommitted : F.RNG_LANE_STATUS.committed.apart f) : d.rxPrepare.get f = d.get f := by
  rw [Dev.get_rxPrepare_eq _ hReg, Dev.get_put_apart _ hCommitted, Dev.get_put_apart _ hRate, d.get_rxUntrain fun l => laneStatus_unchecked l hReg]

theorem Dev.rxNotes_rxPrepare : d.rxPrepare.rxNotes = d.rxNotes := by
  have hEach : d.rxPrepare.rng = d.rxUntrain.rng := Dev.kept_each _ Dev.rng _ _ fun _ _ => rfl
  rw [Dev.rxNotes, hEach, ← d.rxNotes_forgetWhen (d.txSt ≠ 2)]
  exact Dev.rxNotes_chkAll _

theorem Dev.states_rxPrepare : d.rxPrepare.rxSt = d.rxSt ∧ d.rxPrepare.txSt = d.txSt :=
  ⟨d.get_rxPrepare rfl rate_apart_rxState committed_apart_rxState, d.get_rxPrepare rfl rate_apart_txState committed_apart_txState⟩

theorem Dev.rxDetect_shows : d.rxDetect.rxSt = 1 ∧ d.rxDetect.on F.RNG_LANE_STATUS.committed = false ∧
    d.rxDetect.get F.RNG_LANE_STATUS.rate = d.trainRate ∧ d.rxDetect.rxNotes = d.rxNotes := by
  obtain ⟨hRate, hCommitted⟩ := d.rxPrepare_shows
  rw [Dev.rxDetect_eq]
  refine ⟨Dev.rxSt_rxEnter _ (by omega), ?_, ?_, (Dev.rxNotes_rxEnter _ _).trans d.rxNotes_rxPrepare⟩
  · rw [Dev.committed_rxEnter, Dev.on, Dev.get_rxMove _ rxState_apart_committed (fun l => laneStatus_unchecked l rfl) (by omega)]
    exact hCommitted
  · rw [Dev.rate_rxEnter, Dev.get_rxMove _ rxState_apart_rate (fun l => laneStatus_unchecked l rfl) (by omega), hRate]

theorem Dev.frame_rxDetect : Dev.Frame rxLeftParts d d.rxDetect :=
  Frame.trans (Frame.mono d.frame_rxPrepare laneParts_subset_rxLeftParts) (Dev.frame_rxEnter _ _)

theorem Dev.rxDetect_of_notAligned (h : d.rxSt ≠ 4) : d.rxDetect = d.rxPrepare.rxMove 1 := by
  rw [Dev.rxDetect_eq]
  exact Dev.rxEnter_of_notAligned _ (by rwa [d.states_rxPrepare.1]) 1

theorem Dev.frame_rxDetect_of_notAligned (h : d.rxSt ≠ 4) : Dev.Frame laneParts d d.rxDetect := by
  rw [d.rxDetect_of_notAligned h]
  exact Frame.trans d.frame_rxPrepare (Dev.frame_rxMove _ _)

theorem Dev.txSt_rxDetect (h : d.rxSt ≠ 4) : d.rxDetect.txSt = d.txSt := by
  rw [d.rxDetect_of_notAligned h, Dev.txSt, Dev.get_rxMove _ rxState_apart_txState (fun l => laneStatus_unchecked l rfl) (by omega)]
  exact d.states_rxPrepare.2

/-! ### The detail of a failure (R135, R141) -/

theorem Dev.frame_setDetail (rx tx : Nat) : Dev.Frame laneParts d (d.setDetail rx tx) :=
  Frame.put (Frame.modRng Frame.refl _ rng_mem_laneParts) _ _ status_mem_laneParts

theorem Dev.rxSt_setDetail (rx tx : Nat) : (d.setDetail rx tx).rxSt = d.rxSt := by
  have hApart : F.RNG_LANE_STATUS.detail.apart F.RNG_LANE_STATUS.rx_state := .inr ⟨rfl, rfl, rfl, rfl⟩
  rw [Dev.rxSt, Dev.setDetail, Dev.get_put_apart _ hApart]
  rfl

/-! ### The order of the lanes (R128) -/

/-- A lane is locked, inverted or not, and takes its place. -/
def Dev.laneSet (inv : Bool) (place l : Nat) : Dev :=
  ((d.put (F.RNG_RXl_STATUS.locked l) 1).putB (F.RNG_RXl_STATUS.inverted l) inv).put (F.RNG_RXl_STATUS.logical l) place

theorem Dev.frame_laneSet (inv : Bool) (place l : Nat) : Dev.Frame [Part.reg (R.RNG_RXl_STATUS l).off] d (d.laneSet inv place l) :=
  Frame.put (Frame.putB (Frame.put Frame.refl _ _ (by simp [F.RNG_RXl_STATUS.locked])) _ _ (by simp [F.RNG_RXl_STATUS.inverted])) _ _
    (by simp [F.RNG_RXl_STATUS.logical])

theorem Dev.locked_laneSet (inv : Bool) (place l : Nat) : (d.laneSet inv place l).get (F.RNG_RXl_STATUS.locked l) = 1 := by
  have hLogical : (F.RNG_RXl_STATUS.logical l).apart (F.RNG_RXl_STATUS.locked l) := .inr ⟨rfl, rfl, rfl, rfl⟩
  have hInverted : (F.RNG_RXl_STATUS.inverted l).apart (F.RNG_RXl_STATUS.locked l) := .inr ⟨rfl, rfl, rfl, rfl⟩
  rw [Dev.laneSet, Dev.get_put_apart _ hLogical, Dev.putB, Dev.get_put_apart _ hInverted, Dev.get_put_same _ _ _ rfl]
  rfl

/-- RNG_LANE_STATUS shows the order and the inversions. -/
def Dev.orderShown (rev : Bool) (inv : Nat → Bool) : Dev :=
  (d.putB F.RNG_LANE_STATUS.reversed rev).put F.RNG_LANE_STATUS.polarity
    ((List.range d.ringW).foldl (fun n l => if inv l then n + 2 ^ l else n) 0)

theorem Dev.laneApply_eq (rev : Bool) (inv : Nat → Bool) : d.laneApply rev inv =
    (d.orderShown rev inv).each (List.range d.ringW) fun x l => x.laneSet (inv l) (if rev then d.ringW - 1 - l else l) l := rfl

theorem Dev.frame_laneApply (hw : d.ringW ≤ 8) (rev : Bool) (inv : Nat → Bool) : Dev.Frame laneParts d (d.laneApply rev inv) := by
  rw [Dev.laneApply_eq]
  refine Frame.each _ _ (fun x l hl => Frame.mono (x.frame_laneSet _ _ l) ?_)
    (Frame.put (Frame.putB Frame.refl _ _ status_mem_laneParts) _ _ status_mem_laneParts)
  simpa using (lane_mem_laneParts (lt_of_lt_of_le (List.mem_range.1 hl) hw)).1

theorem Dev.locked_laneApply (rev : Bool) (inv : Nat → Bool) {l : Nat} (hl : l < d.ringW) :
    (d.laneApply rev inv).get (F.RNG_RXl_STATUS.locked l) = 1 := by
  rw [Dev.laneApply_eq]
  exact Dev.get_each_lane (f := F.RNG_RXl_STATUS.locked) (v := fun _ => 1) (fun x j => x.locked_laneSet _ _ j)
    (fun x j i h => Frame.get (x.frame_laneSet _ _ j) _ (by simpa [F.RNG_RXl_STATUS.locked] using lane_off_ne h)) hl

theorem Dev.rxSt_laneApply (rev : Bool) (inv : Nat → Bool) : (d.laneApply rev inv).rxSt = d.rxSt := by
  rw [Dev.laneApply_eq]
  refine (Dev.kept_each _ Dev.rxSt _ _ fun x l => ?_).trans ?_
  · refine Frame.get (x.frame_laneSet _ _ l) _ ?_
    simp only [F.RNG_LANE_STATUS.rx_state, R.RNG_LANE_STATUS, R.RNG_RXl_STATUS, List.mem_singleton, Part.reg.injEq]
    omega
  · have hPolarity : F.RNG_LANE_STATUS.polarity.apart F.RNG_LANE_STATUS.rx_state := .inr ⟨rfl, rfl, rfl, rfl⟩
    have hReversed : F.RNG_LANE_STATUS.reversed.apart F.RNG_LANE_STATUS.rx_state := .inr ⟨rfl, rfl, rfl, rfl⟩
    rw [Dev.orderShown, Dev.rxSt, Dev.get_put_apart _ hPolarity, Dev.putB, Dev.get_put_apart _ hReversed]
    rfl

end

end Sys2Proof.Machine
end

section
/-! SUPPORT. The commands of the ring lanes (R136-R140): what a direction does with a command it takes, the refusal, the end of TEST and of a
manual alignment, the checker's clear and the injection of a bit. -/
open Sys2Proof Sys2Proof.Machine Sys2Proof.Claims

namespace Sys2Proof.Machine

section
variable (d : Dev)

/-! ### Which commands a state takes (R134-R136) -/

/-- A direction in state st takes the command that leads to dest. -/
def laneTakes (st dest : Nat) : Bool :=
  match st with
  | 0 => false
  | 5 => dest = 0
  | 6 => dest = 0 || dest = 1
  | _ => true

theorem laneTakes_training {st : Nat} (h : 1 ≤ st ∧ st ≤ 4) (dest : Nat) : laneTakes st dest = true := by
  obtain rfl | rfl | rfl | rfl : st = 1 ∨ st = 2 ∨ st = 3 ∨ st = 4 := by omega
  all_goals rfl

theorem laneTakes_sleep {st : Nat} (h : 5 ≤ st ∧ st ≤ 6) : laneTakes st 0 = true := by
  obtain rfl | rfl : st = 5 ∨ st = 6 := by omega
  all_goals rfl

/-- A receive direction that takes a command. -/
def Dev.rxGo (dest : Nat) : Dev :=
  let d := if d.rxSt = 6 && dest = 1 then d.setDetail 0 d.rng.txDet else d
  if dest = 1 then d.rxDetect else if dest = 5 then d.rxTestEnter else d.rxEnter 0

/-- A transmit direction that takes a command. -/
def Dev.txGo (dest : Nat) : Dev :=
  let d := d.when (!([2, 3, 4].contains d.rxSt)) Dev.forget
  (d.modRng fun r => { r with txDet := if d.txSt = 6 then 0 else r.txDet, txSeen := false, detAt := d.sys.now8 }).txEnter dest

theorem Dev.rxCmd_eq (force : Bool) (dest : Nat) :
    d.rxCmd force dest = if d.laneRefused force || !laneTakes d.rxSt dest then d.laneReject else d.rxGo dest := rfl

theorem Dev.txCmd_eq (force : Bool) (dest : Nat) :
    d.txCmd force dest = if d.laneRefused force || !laneTakes d.txSt dest then d.laneReject else d.txGo dest := rfl

variable {d}

theorem Dev.rxCmd_takes {force : Bool} {dest : Nat} (h : d.laneRefused force = false) (hTakes : laneTakes d.rxSt dest = true) :
    d.rxCmd force dest = d.rxGo dest := by
  rw [Dev.rxCmd_eq, h, hTakes]
  rfl

theorem Dev.txCmd_takes {force : Bool} {dest : Nat} (h : d.laneRefused force = false) (hTakes : laneTakes d.txSt dest = true) :
    d.txCmd force dest = d.txGo dest := by
  rw [Dev.txCmd_eq, h, hTakes]
  rfl

theorem Dev.rxCmd_refused {force : Bool} (h : d.laneRefused force = true ∨ d.rxSt = 0) (dest : Nat) : d.rxCmd force dest = d.laneReject := by
  rw [Dev.rxCmd_eq, if_pos]
  rcases h with h | h <;> simp [h, laneTakes]

theorem Dev.txCmd_refused {force : Bool} (h : d.laneRefused force = true ∨ d.txSt = 0) (dest : Nat) : d.txCmd force dest = d.laneReject := by
  rw [Dev.txCmd_eq, if_pos]
  rcases h with h | h <;> simp [h, laneTakes]

theorem Dev.rxGo_training (h : d.rxSt ≠ 6) :
    d.rxGo 1 = d.rxDetect ∧ d.rxGo 0 = d.rxEnter 0 ∧ d.rxGo 5 = d.rxTestEnter := by
  simp [Dev.rxGo, h]

theorem Dev.rxGo_sleep : d.rxGo 0 = d.rxEnter 0 := by
  simp [Dev.rxGo]

theorem Dev.rxGo_failed (h : d.rxSt = 6) : d.rxGo 1 = (d.setDetail 0 d.rng.txDet).rxDetect := by
  simp [Dev.rxGo, h]

variable (d)

/-! ### What a taken command does -/

theorem Dev.frame_txGo (dest : Nat) : Dev.Frame [Part.rng, Part.reg R.RNG_LANE_STATUS.off, Part.out] d (d.txGo dest) :=
  Frame.trans (Frame.modRng (Frame.mono (d.frame_forgetWhen _) (by simp)) _ (by simp)) (Dev.frame_txEnter _ _)

theorem Dev.txGo_shows {dest : Nat} (h : dest < 16) : (d.txGo dest).txSt = dest ∧
    (d.txGo dest).on F.RNG_LANE_STATUS.byp_driven = decide (dest = 4) ∧ (d.txGo dest).rng.detAt = d.sys.now8 ∧
    (d.txSt = 6 → (d.txGo dest).rng.txDet = 0) := by
  have hForget := d.frame_forgetWhen (!([2, 3, 4].contains d.rxSt))
  unfold Dev.txGo
  generalize d.when (!([2, 3, 4].contains d.rxSt)) Dev.forget = x at hForget
  have hSys : x.sys.now8 = d.sys.now8 := hForget .clock (by simp)
  have hTx : x.txSt = d.txSt := Frame.get hForget _ (by simp)
  obtain ⟨rate, hRng⟩ :=
    (x.modRng fun r => { r with txDet := if x.txSt = 6 then 0 else r.txDet, txSeen := false, detAt := x.sys.now8 }).rng_txEnter dest
  refine ⟨Dev.txSt_txEnter _ h, Dev.bypDriven_txEnter _ dest, ?_, fun hFailed => ?_⟩
  · dsimp only
    rw [hRng]
    exact hSys
  · dsimp only
    rw [hRng]
    exact if_pos (hTx.trans hFailed)

theorem Dev.prbs7_mem_txGo {l : Nat} (hUsed : l < d.ringW) (hLane : l < 8) (hMode : d.get (F.RNG_TXl_GEN_CTRL.mode l) = 2) :
    Out.pattern l (.prbs 7 6) ∈ (d.txGo 5).out := by
  have hForget := d.frame_forgetWhen (!([2, 3, 4].contains d.rxSt))
  refine Dev.prbs7_mem_txEnter _ ?_ hLane ((Frame.get hForget _ (by simp)).trans hMode)
  exact (Dev.ringW_congr (hForget .frd (by simp))).symm ▸ hUsed

/-- A sleeping receive direction (R137). -/
theorem Dev.rxSleep_shows : (d.rxEnter 0).rxSt = 0 ∧ (d.rxEnter 0).on F.RNG_LANE_STATUS.committed = false ∧
    (d.rxEnter 0).get F.RNG_LANE_STATUS.rate = 0 ∧ ∀ l < 8, (d.rxEnter 0).get (F.RNG_RXl_STATUS.locked l) = 0 := by
  obtain ⟨hRate, hCommitted, hLocked⟩ := d.rxMove_sleeps
  exact ⟨d.rxSt_rxEnter (by omega), (d.committed_rxEnter 0).trans hCommitted, (d.rate_rxEnter 0).trans hRate,
    fun l hl => (d.locked_rxEnter 0 l).trans (hLocked l hl)⟩

/-- TEST keeps the checker modes (R134). -/
theorem Dev.rxTestEnter_shows : d.rxTestEnter.rxSt = 5 ∧
    d.rxTestEnter.rng.chkPrev = (List.range 8).map (fun l => d.get (F.RNG_RXl_CHK_CTRL.mode l)) ∧ Dev.Frame rxLeftParts d d.rxTestEnter := by
  refine ⟨Dev.rxSt_rxEnter _ (by omega), ?_, Frame.trans (Frame.modRng Frame.refl _ (by simp [rxLeftParts, laneParts])) (Dev.frame_rxEnter _ _)⟩
  exact congrArg Prod.fst (Dev.rxNotes_rxEnter _ 5)

/-! ### The end of TEST (R134, R135, R138) -/

/-- The modes of the checkers and of the generators. -/
def modeParts : List Part :=
  (List.range 8).flatMap fun l => [Part.reg (R.RNG_RXl_CHK_CTRL l).off, Part.reg (R.RNG_TXl_GEN_CTRL l).off]

/-- What the end of TEST changes. -/
def testParts : List Part := laneParts ++ modeParts

theorem laneStatus_not_mem_modeParts : Part.reg R.RNG_LANE_STATUS.off ∉ modeParts := by decide

theorem chkCtrl_not_mem_laneParts (l : Nat) : Part.reg (R.RNG_RXl_CHK_CTRL l).off ∉ laneParts := by
  simp [laneParts, irqParts, R.RNG_RXl_CHK_CTRL, R.RNG_LANE_STATUS, R.RNG_LANE_IRQ_STATUS, R.MSIX_PBA, R.RNG_RXl_STATUS, R.RNG_RXl_BITS,
    R.RNG_RXl_ERRS]
  exact ⟨by omega, by omega, by omega, fun x _ => by omega⟩

theorem mem_modeParts {l : Nat} (h : l < 8) :
    Part.reg (R.RNG_RXl_CHK_CTRL l).off ∈ modeParts ∧ Part.reg (R.RNG_TXl_GEN_CTRL l).off ∈ modeParts :=
  ⟨List.mem_flatMap.2 ⟨l, List.mem_range.2 h, by simp⟩, List.mem_flatMap.2 ⟨l, List.mem_range.2 h, by simp⟩⟩

/-- The checker of a lane returns to the mode it had before TEST. -/
def Dev.chkBack (l : Nat) : Dev := d.put (F.RNG_RXl_CHK_CTRL.mode l) (d.rng.chkPrev.getD l 0)

/-- Every checker returns to its mode. -/
def Dev.chkRestore : Dev := d.each (List.range 8) Dev.chkBack

/-- Every generator stops. -/
def Dev.genStop : Dev := d.each (List.range 8) fun d l => d.put (F.RNG_TXl_GEN_CTRL.mode l) 0

/-- The receive direction leaves TEST. -/
def Dev.rxTestExit : Dev := if d.rxSt = 5 then d.chkRestore.rxDetect else d

/-- The transmit direction leaves TEST. -/
def Dev.txTestExit : Dev := if d.txSt = 5 then d.genStop.txEnter 1 else d

theorem Dev.testExit_eq : d.testExit = if d.rxSt ≠ 5 && d.txSt ≠ 5 then d.laneReject else d.rxTestExit.txTestExit := rfl

theorem Dev.frame_chkRestore : Dev.Frame modeParts d d.chkRestore :=
  Frame.each _ _ (fun _ _ hl => Frame.put Frame.refl _ _ (mem_modeParts (List.mem_range.1 hl)).1) Frame.refl

theorem Dev.frame_genStop : Dev.Frame modeParts d d.genStop :=
  Frame.each _ _ (fun _ _ hl => Frame.put Frame.refl _ _ (mem_modeParts (List.mem_range.1 hl)).2) Frame.refl

theorem Dev.rng_chkBack (l : Nat) : (d.chkBack l).rng = d.rng := Dev.put_rng _ _ _

theorem Dev.mode_chkBack_same (l : Nat) : (d.chkBack l).get (F.RNG_RXl_CHK_CTRL.mode l) = d.rng.chkPrev.getD l 0 % 16 :=
  Dev.get_put_same _ _ _ rfl

theorem Dev.mode_chkBack_ne {l j : Nat} (h : j ≠ l) : (d.chkBack l).get (F.RNG_RXl_CHK_CTRL.mode j) = d.get (F.RNG_RXl_CHK_CTRL.mode j) := by
  refine Dev.get_put_ne _ _ _ _ ?_
  simp only [F.RNG_RXl_CHK_CTRL.mode, R.RNG_RXl_CHK_CTRL]
  omega

/-- In e the checkers of the first n lanes have the modes that d has noted. -/
def Dev.ModesBack (n : Nat) (e : Dev) : Prop :=
  e.rng = d.rng ∧ ∀ l < n, e.get (F.RNG_RXl_CHK_CTRL.mode l) = d.rng.chkPrev.getD l 0 % 16

theorem Dev.ModesBack.step {d e : Dev} {n : Nat} (h : d.ModesBack n e) : d.ModesBack (n + 1) (e.chkBack n) := by
  obtain ⟨hRng, hBefore⟩ := h
  refine ⟨(e.rng_chkBack n).trans hRng, fun l hl => ?_⟩
  by_cases hLast : l = n
  · rw [hLast, e.mode_chkBack_same, hRng]
  · rw [e.mode_chkBack_ne hLast]
    exact hBefore l (by omega)

theorem Dev.modesBack_chkRestore : d.ModesBack 8 d.chkRestore :=
  Dev.each_range_induct (P := d.ModesBack) ⟨rfl, by omega⟩ (fun _ _ h => h.step) 8

theorem Dev.mode_genStop {l : Nat} (hl : l < 8) : d.genStop.get (F.RNG_TXl_GEN_CTRL.mode l) = 0 := by
  refine Dev.get_each_lane (f := F.RNG_TXl_GEN_CTRL.mode) (v := fun _ => 0) (fun x j => Dev.get_put_same _ _ _ rfl) (fun x j i h => ?_) hl
  refine Dev.get_put_ne _ _ _ _ ?_
  simp only [F.RNG_TXl_GEN_CTRL.mode, R.RNG_TXl_GEN_CTRL]
  omega

theorem Dev.rxTestExit_spec : (d.rxSt = 5 → d.rxTestExit.rxSt = 1 ∧
      ∀ l < 8, d.rxTestExit.get (F.RNG_RXl_CHK_CTRL.mode l) = d.rng.chkPrev.getD l 0 % 16) ∧
    d.rxTestExit.txSt = d.txSt ∧ Dev.Frame testParts d d.rxTestExit := by
  unfold Dev.rxTestExit
  split_ifs with h
  · have hRestore := d.frame_chkRestore
    have hSt : d.chkRestore.rxSt ≠ 4 := by
      rw [Dev.rxSt, Frame.get hRestore _ laneStatus_not_mem_modeParts, ← Dev.rxSt, h]
      decide
    have hDetect := Dev.frame_rxDetect_of_notAligned _ hSt
    refine ⟨fun _ => ⟨(Dev.rxDetect_shows _).1, fun l hl => ?_⟩, ?_, ?_⟩
    · rw [Frame.get hDetect _ (chkCtrl_not_mem_laneParts l), d.modesBack_chkRestore.2 l hl]
    · rw [Dev.txSt_rxDetect _ hSt, Dev.txSt, Frame.get hRestore _ laneStatus_not_mem_modeParts, Dev.txSt]
    · exact Frame.trans (Frame.mono hRestore fun _ hp => List.mem_append_right _ hp) (Frame.mono hDetect fun _ hp => List.mem_append_left _ hp)
  · exact ⟨fun h5 => absurd h5 h, rfl, Frame.refl⟩

theorem Dev.txTestExit_spec : (d.txSt = 5 → d.txTestExit.txSt = 1 ∧ ∀ l < 8, d.txTestExit.get (F.RNG_TXl_GEN_CTRL.mode l) = 0) ∧
    d.txTestExit.rxSt = d.rxSt ∧ (∀ l, d.txTestExit.get (F.RNG_RXl_CHK_CTRL.mode l) = d.get (F.RNG_RXl_CHK_CTRL.mode l)) ∧
    Dev.Frame testParts d d.txTestExit := by
  unfold Dev.txTestExit
  split_ifs with h
  · have hStop := d.frame_genStop
    have hEnter := d.genStop.frame_txEnter 1
    refine ⟨fun _ => ⟨Dev.txSt_txEnter _ (by omega), fun l hl => ?_⟩, ?_, fun l => ?_, ?_⟩
    · rw [Frame.get hEnter _ (by simp [F.RNG_TXl_GEN_CTRL.mode, R.RNG_TXl_GEN_CTRL, R.RNG_LANE_STATUS]; omega), d.mode_genStop hl]
    · rw [Dev.rxSt, Dev.get_txEnter _ txState_apart_rxState byp_apart_rxState, Frame.get hStop _ laneStatus_not_mem_modeParts, Dev.rxSt]
    · rw [Frame.get hEnter _ (by simp [F.RNG_RXl_CHK_CTRL.mode, R.RNG_RXl_CHK_CTRL, R.RNG_LANE_STATUS]; omega)]
      refine d.kept_each (·.get (F.RNG_RXl_CHK_CTRL.mode l)) _ _ fun x j => Dev.get_put_ne _ _ _ _ ?_
      simp only [F.RNG_TXl_GEN_CTRL.mode, R.RNG_TXl_GEN_CTRL, F.RNG_RXl_CHK_CTRL.mode, R.RNG_RXl_CHK_CTRL]
      omega
    · exact Frame.trans (Frame.mono hStop fun _ hp => List.mem_append_right _ hp) (Frame.mono hEnter (by simp [testParts, laneParts, irqParts]))
  · exact ⟨fun h5 => absurd h5 h, rfl, fun _ => rfl, Frame.refl⟩

/-! ### The end of a manual alignment (R139) -/

/-- The lanes locked at their slips, in the order of RNG_LANE_MAP or as the training sequences showed it. -/
def Dev.manualOrder : Dev :=
  if d.ringGen = 1 then d.laneMapped
  else d.laneApply (d.on F.RNG_LANE_STATUS.reversed) fun l => d.getBit F.RNG_LANE_STATUS.polarity l

theorem Dev.manualDone_eq : d.manualDone = if d.rxSt = 2 && d.manual then d.manualOrder.rxEnter 3 else d.laneReject := rfl

theorem Dev.manualOrder_eq : ∃ rev inv, d.manualOrder = d.laneApply rev inv := by
  unfold Dev.manualOrder
  split_ifs
  · exact ⟨_, _, rfl⟩
  · exact ⟨_, _, rfl⟩

theorem Dev.manualOrder_aligns (hSt : d.rxSt = 2) (hw : d.ringW ≤ 8) : (d.manualOrder.rxEnter 3).rxSt = 3 ∧
    (∀ l < d.ringW, (d.manualOrder.rxEnter 3).get (F.RNG_RXl_STATUS.locked l) = 1) ∧ Dev.Frame laneParts d (d.manualOrder.rxEnter 3) := by
  obtain ⟨rev, inv, hOrder⟩ := d.manualOrder_eq
  have hNot : (d.laneApply rev inv).rxSt ≠ 4 := by
    rw [d.rxSt_laneApply, hSt]
    decide
  rw [hOrder, Dev.rxEnter_of_notAligned _ hNot]
  refine ⟨Dev.rxSt_rxMove _ (by omega), fun l hl => ?_, Frame.trans (d.frame_laneApply hw rev inv) (Dev.frame_rxMove _ _)⟩
  have hApart : F.RNG_LANE_STATUS.rx_state.apart (F.RNG_RXl_STATUS.locked l) := .inl (by
    simp only [F.RNG_RXl_STATUS.locked, R.RNG_RXl_STATUS, F.RNG_LANE_STATUS.rx_state, R.RNG_LANE_STATUS]
    omega)
  rw [Dev.get_rxMove _ hApart (fun j => locked_unchecked j l) (by omega), d.locked_laneApply rev inv hl]

/-! ### Clearing a checker (R138) -/

theorem Dev.chkClear_spec (l : Nat) : (d.chkClear l).rd (R.RNG_RXl_BITS l) = 0 ∧ (d.chkClear l).rd (R.RNG_RXl_ERRS l) = 0 ∧
    (d.chkClear l).get (F.RNG_RXl_STATUS.pattern_locked l) = 0 ∧ Dev.Frame (checkerParts l) d (d.chkClear l) := by
  have hBits : (R.RNG_RXl_BITS l).off ≠ (F.RNG_RXl_STATUS.pattern_locked l).reg.off := by
    simp [R.RNG_RXl_BITS, F.RNG_RXl_STATUS.pattern_locked, R.RNG_RXl_STATUS]
  have hErrs : (R.RNG_RXl_ERRS l).off ≠ (F.RNG_RXl_STATUS.pattern_locked l).reg.off := by
    simp [R.RNG_RXl_ERRS, F.RNG_RXl_STATUS.pattern_locked, R.RNG_RXl_STATUS]
  have hBoth : (R.RNG_RXl_BITS l).off ≠ (R.RNG_RXl_ERRS l).off := by
    simp [R.RNG_RXl_BITS, R.RNG_RXl_ERRS]
  unfold Dev.chkClear
  refine ⟨?_, ?_, Dev.get_put_same _ _ _ rfl, ?_⟩
  · rw [Dev.rd_put_ne _ _ _ _ hBits, Dev.rd_wr_ne _ _ _ _ hBoth, Dev.rd_wr_same]
    rfl
  · rw [Dev.rd_put_ne _ _ _ _ hErrs, Dev.rd_wr_same]
    rfl
  · exact Frame.put (Frame.wr (Frame.wr (d.frame_chkUpdate l) _ _ (by simp [checkerParts])) _ _ (by simp [checkerParts])) _ _
      (by simp [checkerParts, F.RNG_RXl_STATUS.pattern_locked])

/-! ### Injection (R140) -/

/-- A transmit lane that sends traffic or a pattern. -/
def Dev.laneSends (l : Nat) : Prop := (d.txSt = 4 ∨ d.txSt = 5) ∧ l < d.ringW

theorem Dev.inject_sends {l : Nat} (h : d.laneSends l) :
    (d.inject l).get (F.RNG_TXl_INJECT_COUNT.count l) = min (d.get (F.RNG_TXl_INJECT_COUNT.count l) + 1) (2 ^ 32 - 1) ∧
    (d.inject l).out = .invert l (if d.txSt = 4 ∧ d.get (F.RNG_TXl_INJECT.target l) = 1 then 1 else 0) :: d.out ∧
    (d.inject l).rng = d.rng ∧ (d.inject l).sys = d.sys ∧
    Dev.Frame [Part.out, Part.reg (R.RNG_TXl_INJECT_COUNT l).off] d (d.inject l) := by
  rw [Dev.inject, if_pos (by simpa [Dev.laneSends] using h)]
  refine ⟨Dev.get_count_same _ _ _ rfl, by simp, rfl, rfl, ?_⟩
  exact Frame.count (Frame.emit Frame.refl _ (by simp)) _ _ (by simp [F.RNG_TXl_INJECT_COUNT.count])

theorem Dev.inject_silent {l : Nat} (h : ¬ d.laneSends l) : d.inject l = d := by
  rw [Dev.inject, if_neg (by simpa [Dev.laneSends] using h)]

theorem lineRate_pos (code : Nat) : 0 < lineRate code := by
  unfold lineRate
  split <;> omega

/-- The time of x bits, rounded up, is long enough for x bits. -/
theorem le_divUp_mul (x : Nat) {r : Nat} (h : 0 < r) : x ≤ (x + r - 1) / r * r := by
  have := Nat.lt_div_mul_add (a := x + r - 1) h
  omega

theorem Dev.now8_advance8To (t : Nat) : (d.advance8To t).sys.now8 = max d.sys.now8 t := by
  have hAdvance : ∀ n, (d.advance n).sys.now8 = d.sys.now8 + n := fun n => by
    unfold Dev.advance
    dsimp only
    split_ifs <;> rfl
  unfold Dev.advance8To
  split_ifs with h
  · rw [hAdvance]
    omega
  · omega

/-- The bits of the lane between two injections. -/
def Dev.injectBits (l : Nat) : Nat := 2 ^ max 10 (d.get (F.RNG_TXl_INJECT.interval l)) * 1000

/-- The tick of the next injection. -/
def Dev.injectTick (l : Nat) : Nat :=
  let rate := lineRate d.rng.txRate * 8
  Store.get 0 d.rng.injAt l + (d.injectBits l + rate - 1) / rate

/-- The lane at the tick of its next injection. -/
def Dev.injectReady (l : Nat) : Dev :=
  let d := d.advance8To (d.injectTick l)
  d.modRng fun r => { r with injAt := Store.set 0 r.injAt l d.sys.now8 }

theorem Dev.injectNext_eq (l : Nat) : d.injectNext l =
    if !d.on (F.RNG_TXl_INJECT.periodic l) || !(d.txSt = 4 || d.txSt = 5) || d.ringW ≤ l then d else (d.injectReady l).inject l := rfl

theorem Dev.injectNext_guard (l : Nat) : (!d.on (F.RNG_TXl_INJECT.periodic l) || !(d.txSt = 4 || d.txSt = 5) || d.ringW ≤ l) = true ↔
    ¬ (d.on (F.RNG_TXl_INJECT.periodic l) = true ∧ d.laneSends l) := by
  rw [Dev.laneSends]
  cases d.on (F.RNG_TXl_INJECT.periodic l)
  · simp
  · simp
    omega

theorem Dev.injectNext_due {l : Nat} (hOn : d.on (F.RNG_TXl_INJECT.periodic l) = true) (h : d.laneSends l) :
    d.injectNext l = (d.injectReady l).inject l := by
  rw [Dev.injectNext_eq, if_neg]
  exact fun hIdle => (d.injectNext_guard l).1 hIdle ⟨hOn, h⟩

theorem Dev.injectNext_idle {l : Nat} (h : ¬ (d.on (F.RNG_TXl_INJECT.periodic l) = true ∧ d.laneSends l)) : d.injectNext l = d := by
  rw [Dev.injectNext_eq, if_pos ((d.injectNext_guard l).2 h)]

theorem Dev.frame_injectReady (l : Nat) : Dev.Frame ([Part.rng] ++ timeParts) d (d.injectReady l) :=
  Frame.modRng (Frame.advance8To Frame.refl _ (by simp +contextual)) _ (by simp)

theorem Dev.injectReady_times (l : Nat) : (d.injectReady l).sys.now8 = max d.sys.now8 (d.injectTick l) ∧
    Store.get 0 (d.injectReady l).rng.injAt l = (d.injectReady l).sys.now8 :=
  ⟨d.now8_advance8To _, Store.get_set_same _ _ _ _⟩

theorem Dev.injectBits_le {l now : Nat} (h : d.injectTick l ≤ now) :
    d.injectBits l ≤ (now - Store.get 0 d.rng.injAt l) * (lineRate d.rng.txRate * 8) := by
  have hRate : 0 < lineRate d.rng.txRate * 8 := Nat.mul_pos (lineRate_pos _) (by omega)
  refine (le_divUp_mul (d.injectBits l) hRate).trans (Nat.mul_le_mul_right _ ?_)
  unfold Dev.injectTick at h
  dsimp only at h
  omega

end

end Sys2Proof.Machine
end

section
/-! SUPPORT. The commands of the ring lanes as a whole (R134-R140), clause by clause. -/
open Sys2Proof Sys2Proof.Machine Sys2Proof.Claims

namespace Sys2Proof.Proofs

section
variable {s : State} {P : State → Prop}

/-- A host command that reaches its register completes with what the register does. -/
theorem completes_reach {c : Instr} {off : Nat} {f : Dev → Dev} (hReach : reached s.dev off) (hExec : exec c s = s.onDev fun d => d.reach off f)
    (h : P { s with dev := f s.dev }) : Completes (exec c s) P := by
  obtain ⟨hEndpoint, hAwake, hOn⟩ := hReach
  refine completes_onDev (fun d => d.reach off f) hExec ?_
  rw [Dev.reach_direct _ _ _ hEndpoint hAwake hOn]
  exact h

theorem laneRefusal_laneReject (s : State) : laneRefusal s { s with dev := s.dev.laneReject } :=
  ⟨Dev.get_count_same _ _ _ rfl, Frame.ofDev (Frame.count Frame.refl _ _ (by simp [F.RNG_LANE_REJECT.count]))⟩

theorem txParts_subset_laneParts : ∀ p ∈ [Part.rng, Part.reg R.RNG_LANE_STATUS.off, Part.out], p ∈ laneParts := by
  simp [laneParts, irqParts]

section
variable (hReach : reached s.dev R.RNG_LANE_CMD.off)
include hReach

/-! ### Retrain, sleep and test (R134-R137) -/

section
variable {force : Bool} (hFree : s.dev.laneRefused force = false)
include hFree

theorem rxCommands_training (hSt : 1 ≤ s.dev.rxSt ∧ s.dev.rxSt ≤ 4) :
    Completes (exec (.rxRetrain force) s) (fun t => t.dev.rxSt = 1 ∧ t.dev.on F.RNG_LANE_STATUS.committed = false ∧
      t.dev.get F.RNG_LANE_STATUS.rate = s.dev.trainRate ∧ s.Frame rxLeftParts t) ∧
    Completes (exec (.rxSleep force) s) (fun t => t.dev.rxSt = 0 ∧ t.dev.on F.RNG_LANE_STATUS.committed = false ∧
      t.dev.get F.RNG_LANE_STATUS.rate = 0 ∧ (∀ l ∈ List.range 8, t.dev.get (F.RNG_RXl_STATUS.locked l) = 0) ∧ s.Frame rxLeftParts t) ∧
    Completes (exec (.rxTest force) s) (fun t => t.dev.rxSt = 5 ∧
      t.dev.rng.chkPrev = (List.range 8).map (fun l => s.dev.get (F.RNG_RXl_CHK_CTRL.mode l)) ∧ s.Frame rxLeftParts t) := by
  have hTakes := laneTakes_training hSt
  obtain ⟨hDetect, hSleep, hTest⟩ := Dev.rxGo_training (d := s.dev) (by omega)
  refine ⟨completes_reach hReach rfl ?_, completes_reach hReach rfl ?_, completes_reach hReach rfl ?_⟩
  · rw [Dev.rxCmd_takes hFree (hTakes 1), hDetect]
    obtain ⟨hState, hCommitted, hRate, -⟩ := s.dev.rxDetect_shows
    exact ⟨hState, hCommitted, hRate, Frame.ofDev s.dev.frame_rxDetect⟩
  · rw [Dev.rxCmd_takes hFree (hTakes 0), hSleep]
    obtain ⟨hState, hCommitted, hRate, hLocked⟩ := s.dev.rxSleep_shows
    exact ⟨hState, hCommitted, hRate, fun l hl => hLocked l (List.mem_range.1 hl), Frame.ofDev (s.dev.frame_rxEnter 0)⟩
  · rw [Dev.rxCmd_takes hFree (hTakes 5), hTest]
    obtain ⟨hState, hModes, hFrame⟩ := s.dev.rxTestEnter_shows
    exact ⟨hState, hModes, Frame.ofDev hFrame⟩

theorem txCommands_training (hSt : 1 ≤ s.dev.txSt ∧ s.dev.txSt ≤ 4) :
    Completes (exec (.txRetrain force) s) (fun t => t.dev.txSt = 1 ∧ t.dev.rng.detAt = s.dev.sys.now8 ∧
      t.dev.on F.RNG_LANE_STATUS.byp_driven = false ∧ s.Frame laneParts t) ∧
    Completes (exec (.txSleep force) s) (fun t => t.dev.txSt = 0 ∧ t.dev.on F.RNG_LANE_STATUS.byp_driven = false ∧ s.Frame laneParts t) ∧
    Completes (exec (.txTest force) s) (fun t => t.dev.txSt = 5 ∧ t.dev.on F.RNG_LANE_STATUS.byp_driven = false ∧
      (∀ l ∈ List.range s.dev.ringW, l < 8 → s.dev.get (F.RNG_TXl_GEN_CTRL.mode l) = 2 → Out.pattern l (.prbs 7 6) ∈ t.dev.out) ∧
      s.Frame laneParts t) := by
  have hTakes := laneTakes_training hSt
  have hFrame : ∀ dest, s.Frame laneParts { s with dev := s.dev.txGo dest } := fun dest =>
    Frame.ofDev (Frame.mono (s.dev.frame_txGo dest) txParts_subset_laneParts)
  refine ⟨completes_reach hReach rfl ?_, completes_reach hReach rfl ?_, completes_reach hReach rfl ?_⟩
  · rw [Dev.txCmd_takes hFree (hTakes 1)]
    obtain ⟨hState, hByp, hDet, -⟩ := s.dev.txGo_shows (dest := 1) (by omega)
    exact ⟨hState, hDet, hByp, hFrame 1⟩
  · rw [Dev.txCmd_takes hFree (hTakes 0)]
    obtain ⟨hState, hByp, -, -⟩ := s.dev.txGo_shows (dest := 0) (by omega)
    exact ⟨hState, hByp, hFrame 0⟩
  · rw [Dev.txCmd_takes hFree (hTakes 5)]
    obtain ⟨hState, hByp, -, -⟩ := s.dev.txGo_shows (dest := 5) (by omega)
    exact ⟨hState, hByp, fun l hl hLane hMode => s.dev.prbs7_mem_txGo (List.mem_range.1 hl) hLane hMode, hFrame 5⟩

theorem laneCommands_testOrFailed :
    (5 ≤ s.dev.rxSt ∧ s.dev.rxSt ≤ 6 → Completes (exec (.rxSleep force) s) fun t => t.dev.rxSt = 0 ∧ s.Frame laneParts t) ∧
    (5 ≤ s.dev.txSt ∧ s.dev.txSt ≤ 6 → Completes (exec (.txSleep force) s) fun t => t.dev.txSt = 0 ∧ s.Frame laneParts t) ∧
    (s.dev.rxSt = 6 → Completes (exec (.rxRetrain force) s) fun t => t.dev.rxSt = 1 ∧ t.dev.rng.rxDet = 0 ∧ s.Frame laneParts t) ∧
    (s.dev.txSt = 6 → Completes (exec (.txRetrain force) s) fun t => t.dev.txSt = 1 ∧ t.dev.rng.txDet = 0 ∧ s.Frame laneParts t) := by
  have hFrame : ∀ dest, s.Frame laneParts { s with dev := s.dev.txGo dest } := fun dest =>
    Frame.ofDev (Frame.mono (s.dev.frame_txGo dest) txParts_subset_laneParts)
  refine ⟨fun hSt => completes_reach hReach rfl ?_, fun hSt => completes_reach hReach rfl ?_, fun hSt => completes_reach hReach rfl ?_,
    fun hSt => completes_reach hReach rfl ?_⟩
  · rw [Dev.rxCmd_takes hFree (laneTakes_sleep hSt), Dev.rxGo_sleep, Dev.rxEnter_of_notAligned _ (by omega)]
    exact ⟨s.dev.rxSt_rxMove (by omega), Frame.ofDev (s.dev.frame_rxMove 0)⟩
  · rw [Dev.txCmd_takes hFree (laneTakes_sleep hSt)]
    exact ⟨(s.dev.txGo_shows (by omega)).1, hFrame 0⟩
  · rw [Dev.rxCmd_takes hFree (by rw [hSt]; rfl), Dev.rxGo_failed hSt]
    have hNot : (s.dev.setDetail 0 s.dev.rng.txDet).rxSt ≠ 4 := by
      rw [s.dev.rxSt_setDetail, hSt]
      decide
    obtain ⟨hState, -, -, hNotes⟩ := (s.dev.setDetail 0 s.dev.rng.txDet).rxDetect_shows
    exact ⟨hState, congrArg Prod.snd hNotes, Frame.ofDev (Frame.trans (s.dev.frame_setDetail _ _) (Dev.frame_rxDetect_of_notAligned _ hNot))⟩
  · rw [Dev.txCmd_takes hFree (by rw [hSt]; rfl)]
    obtain ⟨hState, -, -, hDet⟩ := s.dev.txGo_shows (dest := 1) (by omega)
    exact ⟨hState, hDet hSt, hFrame 1⟩

end

/-! ### Refusal (R136) -/

theorem laneCommands_refused (force : Bool) :
    (s.dev.laneRefused force = true ∨ s.dev.rxSt = 0 → Completes (exec (.rxRetrain force) s) (fun t => laneRefusal s t) ∧
      Completes (exec (.rxSleep force) s) (fun t => laneRefusal s t) ∧ Completes (exec (.rxTest force) s) (fun t => laneRefusal s t)) ∧
    (s.dev.laneRefused force = true ∨ s.dev.txSt = 0 → Completes (exec (.txRetrain force) s) (fun t => laneRefusal s t) ∧
      Completes (exec (.txSleep force) s) (fun t => laneRefusal s t) ∧ Completes (exec (.txTest force) s) (fun t => laneRefusal s t)) ∧
    (s.dev.phaseSt 7 = 1 ∨ (force = false ∧ (s.dev.get F.SYS_HOST_STATE.in_flight ≠ 0 ∨ ∃ k ∈ List.range 32, s.dev.shtState k = 1)) ↔
      s.dev.laneRefused force = true) := by
  have hReject := laneRefusal_laneReject s
  refine ⟨fun h => ?_, fun h => ?_, ?_⟩
  · have hCmd := Dev.rxCmd_refused h
    exact ⟨completes_reach hReach rfl (by rw [hCmd]; exact hReject), completes_reach hReach rfl (by rw [hCmd]; exact hReject),
      completes_reach hReach rfl (by rw [hCmd]; exact hReject)⟩
  · have hCmd := Dev.txCmd_refused h
    exact ⟨completes_reach hReach rfl (by rw [hCmd]; exact hReject), completes_reach hReach rfl (by rw [hCmd]; exact hReject),
      completes_reach hReach rfl (by rw [hCmd]; exact hReject)⟩
  · simp only [Dev.laneRefused, Dev.phase7, Dev.phaseSt, Bool.or_eq_true, Bool.and_eq_true, Bool.not_eq_true', decide_eq_true_eq, List.any_eq_true]

/-! ### Wake (R134, R135) -/

theorem wake_leavesSleep :
    Completes (exec .rxWake s) (fun t => if s.dev.rxSt = 0 then t.dev.rxSt = 1 ∧ t.dev.get F.RNG_LANE_STATUS.rate = s.dev.trainRate ∧
      s.Frame laneParts t else laneRefusal s t) ∧
    Completes (exec .txWake s) (fun t => if s.dev.txSt = 0 then t.dev.txSt = 1 ∧ s.Frame [Part.rng, Part.reg R.RNG_LANE_STATUS.off] t
      else laneRefusal s t) := by
  refine ⟨completes_reach hReach rfl ?_, completes_reach hReach rfl ?_⟩
  · unfold Dev.rxWake
    split_ifs with hSt
    · obtain ⟨hState, -, hRate, -⟩ := s.dev.rxDetect_shows
      exact ⟨hState, hRate, Frame.ofDev (s.dev.frame_rxDetect_of_notAligned (by omega))⟩
    · exact laneRefusal_laneReject s
  · unfold Dev.txWake
    split_ifs with hSt
    · refine ⟨Dev.txSt_txEnter _ (by omega), Frame.ofDev ?_⟩
      exact Frame.trans (Frame.modRng Frame.refl _ (by simp)) (Dev.frame_txSet _ 1)
    · exact laneRefusal_laneReject s

/-! ### The end of TEST and of a manual alignment (R134, R135, R139) -/

theorem testExit_leavesTest : Completes (exec .testExit s) fun t =>
    if s.dev.rxSt ≠ 5 ∧ s.dev.txSt ≠ 5 then laneRefusal s t
    else (s.dev.rxSt = 5 → t.dev.rxSt = 1 ∧ ∀ (l : Nat), l < 8 → t.dev.get (F.RNG_RXl_CHK_CTRL.mode l) = s.dev.rng.chkPrev.getD l 0 % 16) ∧
      (s.dev.txSt = 5 → t.dev.txSt = 1 ∧ ∀ (l : Nat), l < 8 → t.dev.get (F.RNG_TXl_GEN_CTRL.mode l) = 0) ∧
      s.Frame (laneParts ++ (List.range 8).flatMap fun l => [Part.reg (R.RNG_RXl_CHK_CTRL l).off, Part.reg (R.RNG_TXl_GEN_CTRL l).off]) t := by
  refine completes_reach hReach rfl ?_
  rw [Dev.testExit_eq]
  by_cases hOut : s.dev.rxSt ≠ 5 ∧ s.dev.txSt ≠ 5
  · rw [if_pos hOut, if_pos (by simpa using hOut)]
    exact laneRefusal_laneReject s
  · rw [if_neg hOut, if_neg (by simpa using hOut)]
    obtain ⟨hRx, hTxKept, hRxFrame⟩ := s.dev.rxTestExit_spec
    obtain ⟨hTx, hRxKept, hModesKept, hTxFrame⟩ := s.dev.rxTestExit.txTestExit_spec
    refine ⟨fun h => ⟨hRxKept.trans (hRx h).1, fun l hl => (hModesKept l).trans ((hRx h).2 l hl)⟩, fun h => hTx (hTxKept.trans h), ?_⟩
    exact Frame.ofDev (Frame.trans hRxFrame hTxFrame)

theorem manualDone_aligns (hWidth : s.dev.ringW ≤ 8) : Completes (exec .manualDone s) fun t =>
    if s.dev.rxSt = 2 ∧ s.dev.on F.RNG_LANE_CFG.manual_align = true ∧ s.dev.ringGen ≠ 3 then
      t.dev.rxSt = 3 ∧ (∀ l ∈ List.range s.dev.ringW, t.dev.get (F.RNG_RXl_STATUS.locked l) = 1) ∧ s.Frame laneParts t
    else laneRefusal s t := by
  refine completes_reach hReach rfl ?_
  rw [Dev.manualDone_eq]
  by_cases hManual : s.dev.rxSt = 2 ∧ s.dev.on F.RNG_LANE_CFG.manual_align = true ∧ s.dev.ringGen ≠ 3
  · rw [if_pos hManual, if_pos (by simpa [Dev.manual] using hManual)]
    obtain ⟨hState, hLocked, hFrame⟩ := s.dev.manualOrder_aligns hManual.1 hWidth
    exact ⟨hState, fun l hl => hLocked l (List.mem_range.1 hl), Frame.ofDev hFrame⟩
  · rw [if_neg hManual, if_neg (by simpa [Dev.manual] using hManual)]
    exact laneRefusal_laneReject s

end

/-! ### Checkers and injection (R138, R140) -/

theorem checkerClear_clears {l : Fin 8} (hReach : reached s.dev (R.RNG_RXl_CHK_CTRL l).off) : Completes (exec (.checkerClear l) s) fun t =>
    t.dev.rd (R.RNG_RXl_BITS l) = 0 ∧ t.dev.rd (R.RNG_RXl_ERRS l) = 0 ∧ t.dev.get (F.RNG_RXl_STATUS.pattern_locked l) = 0 ∧
      s.Frame ([Part.rng, Part.free, Part.reg R.RNG_LANE_IRQ_STATUS.off, Part.reg (R.RNG_RXl_BITS l).off, Part.reg (R.RNG_RXl_ERRS l).off,
        Part.reg (R.RNG_RXl_STATUS l).off] ++ irqParts) t := by
  refine completes_reach hReach rfl ?_
  obtain ⟨hBits, hErrs, hLocked, hFrame⟩ := s.dev.chkClear_spec l
  exact ⟨hBits, hErrs, hLocked, Frame.ofDev hFrame⟩

theorem injectSingle_inverts {l : Fin 8} (hReach : reached s.dev (R.RNG_TXl_INJECT l).off) : Completes (exec (.injectSingle l) s) fun t =>
    if (s.dev.txSt = 4 ∨ s.dev.txSt = 5) ∧ l < s.dev.ringW then
      t.dev.get (F.RNG_TXl_INJECT_COUNT.count l) = min (s.dev.get (F.RNG_TXl_INJECT_COUNT.count l) + 1) (2 ^ 32 - 1) ∧
      t.dev.out = .invert l (if s.dev.txSt = 4 ∧ s.dev.get (F.RNG_TXl_INJECT.target l) = 1 then 1 else 0) :: s.dev.out ∧
      s.Frame [Part.out, Part.reg (R.RNG_TXl_INJECT_COUNT l).off] t
    else t = s := by
  refine completes_reach hReach rfl ?_
  by_cases hSends : (s.dev.txSt = 4 ∨ s.dev.txSt = 5) ∧ l < s.dev.ringW
  · rw [if_pos hSends]
    obtain ⟨hCount, hOut, -, -, hFrame⟩ := s.dev.inject_sends hSends
    exact ⟨hCount, hOut, Frame.ofDev hFrame⟩
  · rw [if_neg hSends, Dev.inject_silent s.dev (l := l) hSends]

theorem injectCount_not_mem (l : Fin 8) : Part.reg (F.RNG_TXl_INJECT_COUNT.count l).reg.off ∉ [Part.rng] ++ timeParts := by
  revert l
  decide

theorem injectPeriodic_inverts (s : State) (l : Fin 8) : Completes (exec (.injectPeriodic l) s) fun t =>
    if s.dev.on (F.RNG_TXl_INJECT.periodic l) = true ∧ (s.dev.txSt = 4 ∨ s.dev.txSt = 5) ∧ l < s.dev.ringW then
      t.dev.get (F.RNG_TXl_INJECT_COUNT.count l) = min (s.dev.get (F.RNG_TXl_INJECT_COUNT.count l) + 1) (2 ^ 32 - 1) ∧
      (2 ^ max 10 (s.dev.get (F.RNG_TXl_INJECT.interval l)) * 1000 ≤
        (t.dev.sys.now8 - Store.get 0 s.dev.rng.injAt l) * (lineRate s.dev.rng.txRate * 8)) ∧
      Store.get 0 t.dev.rng.injAt l = t.dev.sys.now8 ∧
      s.Frame ([Part.out, Part.rng, Part.reg (R.RNG_TXl_INJECT_COUNT l).off] ++ timeParts) t
    else t = s := by
  refine completes_onDev (·.injectNext l) rfl ?_
  dsimp only
  by_cases hDue : s.dev.on (F.RNG_TXl_INJECT.periodic l) = true ∧ (s.dev.txSt = 4 ∨ s.dev.txSt = 5) ∧ l < s.dev.ringW
  · rw [if_pos hDue, s.dev.injectNext_due hDue.1 hDue.2]
    have hReady := s.dev.frame_injectReady l
    obtain ⟨hNow, hAt⟩ := s.dev.injectReady_times l
    have hTx : (s.dev.injectReady l).txSt = s.dev.txSt := Frame.get hReady _ (by decide)
    have hSends : (s.dev.injectReady l).laneSends l := by
      rw [Dev.laneSends, hTx, Dev.ringW_congr (hReady .frd (by decide))]
      exact hDue.2
    obtain ⟨hCount, -, hRng, hSys, hInject⟩ := (s.dev.injectReady l).inject_sends hSends
    have hCounted : (s.dev.injectReady l).get (F.RNG_TXl_INJECT_COUNT.count l) = s.dev.get (F.RNG_TXl_INJECT_COUNT.count l) :=
      Frame.get hReady _ (injectCount_not_mem l)
    refine ⟨by rw [hCount, hCounted], ?_, ?_, Frame.ofDev (Frame.trans (Frame.mono hReady (by simp +contextual)) (Frame.mono hInject (by simp)))⟩
    · rw [hSys]
      exact s.dev.injectBits_le (by omega)
    · rw [hRng, hSys]
      exact hAt
  · rw [if_neg hDue, s.dev.injectNext_idle (l := l) hDue]

end

/-- Settles O21: each command is its receive or transmit change of state (`Dev.rxDetect_shows`, `Dev.rxSleep_shows`, `Dev.txGo_shows`,
`Dev.rxTestExit_spec`, `Dev.manualOrder_aligns`) or the refusal, and each of these has the fields it sets and its frame. -/
theorem ringLaneCommands : Obligations.RingLaneCommands := by
  unfold Obligations.RingLaneCommands
  exact ⟨fun _ _ hReach hFree hSt => rxCommands_training hReach hFree hSt, fun _ _ hReach hFree hSt => txCommands_training hReach hFree hSt,
    fun _ _ hReach hFree => laneCommands_testOrFailed hReach hFree, fun _ force hReach => laneCommands_refused hReach force,
    fun _ hReach => wake_leavesSleep hReach, fun _ hReach => testExit_leavesTest hReach, fun _ hReach hWidth => manualDone_aligns hReach hWidth,
    fun s l hChecker hInject => ⟨checkerClear_clears hChecker, injectSingle_inverts hInject, injectPeriodic_inverts s l⟩⟩

end Sys2Proof.Proofs
end

-- ==== Sitting: the frames of the Raster Ring ====
section
/-! SUPPORT. Frames and control symbols of the Raster Ring: an own symbol that overflows the forwarding buffer has the overflow's interrupt
leave after it (R152, R159), and the clause that lets the symbol alone leave fails there. -/
open Sys2Proof Sys2Proof.Machine Sys2Proof.Claims
set_option maxRecDepth 20000

namespace Sys2Proof.Proofs

/-- FORWARD with an ACK waiting, 64 units in the forwarding buffer, and the overflow's bit enabled: MSI-X is on and vector 12 is not masked,
so the overflow posts its message. -/
def fullBufferState : State :=
  let d := (({} : Dev).put F.RNG_LANE_STATUS.tx_state 4).wr R.RNG_PROTO_IRQ_EN (2 ^ 7)
  let d := ((d.put (F.MSIX_CTRL.mask 12) 0).wr (R.MSIX_ADDR 12) 0xFEE00000).wr (R.MSIX_DATA 12) 12
  { dev := { d with
    regs := Store.set 0#64 d.regs 0x2001000 1
    rng := { d.rng with syms := [⟨1, 7, 0⟩], fwd := 64 } } }

/-- The symbol leaves, and after it the message of the overflow. -/
theorem fullBufferState_out : fullBufferState.dev.symInsert.out =
    [.msix 12 0xFEE00000 12, .ring (fullBufferState.dev.ctlUnit 1 fullBufferState.dev.ringAddr 7 0)] := by decide

/-- Refutes O22: the clause on OWN_SYMBOL_INSERT has the symbol alone leave, with room in the forwarding buffer or without. A full buffer
overflows (R152), which sets fifo_overflow of RNG_PROTO_IRQ_STATUS; where that bit is enabled it posts MSI-X vector 12 (R159), and the message
leaves after the symbol. -/
theorem not_ringFrames : ¬ Obligations.RingFrames := by
  unfold Obligations.RingFrames
  rintro ⟨-, -, -, -, -, -, -, -, -, -, -, -, -, -, hInsert, -⟩
  obtain ⟨t, hExec, hOut, -⟩ := hInsert fullBufferState ⟨1, 7, 0⟩ [] (by decide) rfl (by decide)
  obtain rfl : { fullBufferState with dev := fullBufferState.dev.symInsert } = t := by
    injection hExec
  exact absurd (fullBufferState_out.symm.trans hOut) (by decide)

end Sys2Proof.Proofs
end


-- ==== Sitting: the DMA engine and user memory ====
section
/-! SUPPORT. User memory and its code (R160 to R172): the canonical form that every step keeps, the bytes of a word, what each outcome of a
decode does to the device, the scrubber and the window; and a state in which a statement about the DMA engine fails. -/
open Sys2Proof Sys2Proof.Machine Sys2Proof.Claims
set_option maxRecDepth 20000

namespace Sys2Proof.Machine

/-! ### One step (R160) -/

theorem step_of_idle {s : State} (h : s.pending = []) : step s = .next s.tick := by rw [step, h]

theorem step_of_waiting {s : State} {c : Instr} {rest : List Instr} (h : s.pending = c :: rest) :
    step s = exec c { s with pending := rest } := by rw [step, h]

/-- A tick and the command at the front of the queue alike keep the canonical form of user memory. -/
theorem step_keeps_wf (s : State) : ∃ t, step s = .next t ∧ (s.mem.wf = true → t.mem.wf = true) := by
  cases hPending : s.pending with
  | nil =>
    obtain ⟨hWf, -⟩ := Keeps.tick (Keeps.refl (s := s))
    exact ⟨s.tick, step_of_idle hPending, hWf⟩
  | cons c rest =>
    obtain ⟨t, hExec, hWf, -⟩ := exec_keeps c { s with pending := rest }
    exact ⟨t, (step_of_waiting hPending).trans hExec, hWf⟩

/-! ### A record strobed by an update that left the strobes (R364) -/

theorem Dev.strobed_report {d e : Dev} {src : Nat} (d0 d1 : Nat) (hStrobes : e.flt.strobes = d.flt.strobes)
    (hMerged : e.get (F.FLT_SRCi_STATE.merged src) = d.get (F.FLT_SRCi_STATE.merged src)) :
    strobed d (e.report src d0 d1) src d0 d1 := by
  have hNow : (e.report src d0 d1).now = e.now :=
    Dev.rd_report_ne _ _ _ _ _ (by simp only [R.EVT_TIME, R.FLT_SRCi_STATE]; omega)
  unfold strobed
  rw [hNow, ← hStrobes, ← hMerged, Dev.report, Dev.reportAt, Dev.strobe]
  by_cases hSlot : e.flt.strobes.any (fun x => x.src = src && x.t / 8 = e.now / 8) = true
  · rw [if_pos hSlot, if_pos hSlot]
    exact ⟨rfl, Dev.get_count_same _ _ _ rfl⟩
  · rw [if_neg hSlot, if_neg hSlot]

/-! ### The bytes of a word (R160) -/

theorem leVal_leBytes (n v : Nat) : leVal ((leBytes n v).map (· % 2 ^ 8)) = v % 256 ^ n := by
  induction n generalizing v with
  | zero => simp [leBytes, leVal, Nat.mod_one]
  | succ n ih =>
    rw [leBytes, List.map_cons, leVal, ih, pow_succ' 256 n, Nat.mod_mul, show 2 ^ 8 = 256 from rfl, Nat.mod_mod]

theorem leVal_lt {bs : List Nat} (h : ∀ b ∈ bs, b < 256) : leVal bs < 256 ^ bs.length := by
  induction bs with
  | nil => simp [leVal]
  | cons b bs ih =>
    have hByte := h b (by simp)
    have hRest := ih fun x hx => h x (List.mem_cons_of_mem _ hx)
    rw [leVal, List.length_cons, pow_succ]
    omega

theorem Memory.word_lt (m : Memory) (w : Nat) : m.word w < 2 ^ 64 := by
  have hBytes : ∀ b ∈ (List.range 8).map (fun i => m.byte (8 * w + i)), b < 256 := by
    simp only [List.mem_map]
    rintro b ⟨i, -, rfl⟩
    exact (Store.get 0#8 m.data (8 * w + i)).isLt
  have hVal := leVal_lt hBytes
  rw [List.length_map, List.length_range] at hVal
  exact hVal.trans_eq (by norm_num)

theorem Memory.syn_lt (m : Memory) (w : Nat) : m.syn w < 2 ^ 8 := (Store.get 0#8 m.chk w).isLt

section
variable (m : Memory) (w v syn : Nat)

theorem Memory.word_setWord_same : (m.setWord w v syn).word w = v % 2 ^ 64 := by
  have hBytes : (List.range 8).map (fun i => (m.setWord w v syn).byte (8 * w + i)) = (leBytes 8 v).map (· % 2 ^ 8) := by
    refine List.ext_getElem (by simp [leBytes_length]) fun i hRange hBytes => ?_
    simpa [Memory.setWord, Memory.byte_setSyn] using Memory.byte_setBytes_in m (8 * w) (leBytes 8 v) i (by simpa using hBytes)
  rw [Memory.word, hBytes, leVal_leBytes, show 256 ^ 8 = 2 ^ 64 by norm_num]

theorem Memory.byte_setWord_ne {a : Nat} (h : a / 8 ≠ w) : (m.setWord w v syn).byte a = m.byte a :=
  Memory.byte_setBytes_out _ _ _ _ (by rw [leBytes_length]; omega)

theorem Memory.syn_setWord_same : (m.setWord w v syn).syn w = syn % 2 ^ 8 := Memory.syn_setSyn_same _ _ _

theorem Memory.syn_setWord_ne {u : Nat} (h : u ≠ w) : (m.setWord w v syn).syn u = m.syn u := by
  rw [Memory.setWord, Memory.syn_setSyn_ne _ _ _ _ h, Memory.syn_setBytes]

end

theorem State.memFrame_setWord {s t : State} {w v syn : Nat} (h : t.mem = s.mem.setWord w v syn) : s.MemFrame [w] t := by
  rw [State.MemFrame, h]
  exact ⟨fun a ha => Memory.byte_setWord_ne _ _ _ _ (by simpa using ha), fun u hu => Memory.syn_setWord_ne _ _ _ _ (by simpa using hu)⟩

/-! ### What a decode finds (R166) -/

/-- A syndrome of one wrong check bit (R165). -/
abbrev checkBits : List Nat := [1, 2, 4, 8, 16, 32, 64, 128]

theorem columnOf_column : ∀ j < 64, columnOf (hColumns.getD j 0) = some j := by decide

theorem column_ne_zero : ∀ j < 64, hColumns.getD j 0 ≠ 0 := by decide

theorem columnOf_eq_none {syn : Nat} (h : syn ∉ hColumns) : columnOf syn = none := by
  simp only [columnOf, List.findIdx?_eq_none_iff, decide_eq_false_iff_not]
  rintro x hx rfl
  exact h hx

theorem decodeWord_clean (v : Nat) : decodeWord v 0 = (v, .clean) := rfl

theorem decodeWord_column (v : Nat) {j : Nat} (h : j < 64) : decodeWord v (hColumns.getD j 0) = (v ^^^ 2 ^ j, .corrected) := by
  rw [decodeWord, if_neg (column_ne_zero j h), columnOf_column j h]

theorem decodeWord_single (v : Nat) {syn : Nat} (h : syn ∈ hColumns ∨ syn ∈ checkBits) : (decodeWord v syn).2 = .corrected := by
  by_cases hColumn : syn ∈ hColumns
  · obtain ⟨j, hj, rfl⟩ := List.getElem_of_mem hColumn
    have hDecode := decodeWord_column v (j := j) hj
    rw [List.getD_eq_getElem _ _ hj] at hDecode
    rw [hDecode]
  · have hBit : syn ∈ checkBits := h.resolve_left hColumn
    have hNonzero : syn ≠ 0 := by
      rintro rfl
      exact absurd hBit (by decide)
    rw [decodeWord, if_neg hNonzero, columnOf_eq_none hColumn]
    dsimp only
    rw [if_pos (List.contains_iff_mem.mpr hBit)]

theorem decodeWord_uncorrectable (v : Nat) {syn : Nat} (h0 : syn ≠ 0) (hColumn : syn ∉ hColumns) (hBit : syn ∉ checkBits) :
    (decodeWord v syn).2 = .uncorrectable := by
  rw [decodeWord, if_neg h0, columnOf_eq_none hColumn]
  dsimp only
  rw [if_neg (by simpa only [List.contains_iff_mem] using hBit)]

/-! ### A corrected error on the device (R170) -/

/-- What MEM_ERR_LAST_CE and MEM_ERR_LAST_UE note of an error (R170, R171). -/
def errNote (reader ch w syn : Nat) : Nat := syn * 2 ^ 40 + reader * 2 ^ 36 + ch * 2 ^ 32 + w

/-- The reader, in bits 39:36. -/
theorem bits_errNote_reader {reader ch w : Nat} (syn : Nat) (hReader : reader < 16) (hCh : ch < 16) (hWord : w < 2 ^ 32) :
    bits (errNote reader ch w syn) 39 36 = reader := by
  rw [errNote, bits, Nat.shiftRight_eq_div_pow]
  omega

/-- What counting and noting a corrected error changes. -/
def ceNoteParts : List Part := [Part.reg R.MEM_CE_WINDOW.off, Part.reg R.MEM_CE_TOTAL.off, Part.reg R.MEM_ERR_LAST_CE.off]

/-- What a corrected error changes. -/
def ceParts : List Part := Part.memx :: ceNoteParts ++ strobeParts 20

section
variable (d : Dev) (note : Nat)

/-- The error counted in the window and in all, and noted. -/
def Dev.ceNoted : Dev := ((d.count F.MEM_CE_WINDOW.count).count F.MEM_CE_TOTAL.count).wr R.MEM_ERR_LAST_CE note

/-- The window's count has reached the threshold and the window has no record yet. -/
def Dev.ceOver : Prop := max 1 (d.get F.MEM_CE_CFG.threshold) ≤ d.get F.MEM_CE_WINDOW.count ∧ d.memx.ceRep = false

/-- The window's one record. -/
def Dev.ceReport : Dev :=
  ({ d with memx := { d.memx with ceRep := true } } : Dev).report 20 (d.get F.MEM_CE_WINDOW.count) (d.rd R.MEM_ERR_LAST_CE % 2 ^ 32)

/-- The count judged against the threshold. -/
def Dev.ceJudged : Dev :=
  if max 1 (d.get F.MEM_CE_CFG.threshold) ≤ d.get F.MEM_CE_WINDOW.count && !d.memx.ceRep then d.ceReport else d

variable {d}

theorem Dev.ceJudged_over (h : d.ceOver) : d.ceJudged = d.ceReport := if_pos (by simpa [Dev.ceOver] using h)

theorem Dev.ceJudged_under (h : ¬ d.ceOver) : d.ceJudged = d := if_neg (by simpa [Dev.ceOver] using h)

variable (d)

theorem Dev.rd_ceJudged {r : Reg} (h : r.off ≠ (R.FLT_SRCi_STATE 20).off) : d.ceJudged.rd r = d.rd r := by
  by_cases hOver : d.ceOver
  · rw [Dev.ceJudged_over hOver]
    exact Dev.rd_report_ne _ _ _ _ _ h
  · rw [Dev.ceJudged_under hOver]

theorem Dev.get_ceJudged {f : Fld} (h : f.reg.off ≠ (R.FLT_SRCi_STATE 20).off) : d.ceJudged.get f = d.get f := by
  rw [Dev.get, Dev.rd_ceJudged _ h, Dev.get]

/-- Whether the window has its record is all that the judgement changes of what the memory unit holds beside registers. -/
theorem Dev.memx_ceJudged : ∃ b, d.ceJudged.memx = { d.memx with ceRep := b } := by
  by_cases hOver : d.ceOver
  · rw [Dev.ceJudged_over hOver, Dev.ceReport, Dev.report_memx]
    exact ⟨true, rfl⟩
  · rw [Dev.ceJudged_under hOver]
    exact ⟨d.memx.ceRep, rfl⟩

/-- The window's one record is strobed and remembered. -/
theorem Dev.ceJudged_records {d e : Dev} (h : e.ceOver) (hFlt : e.flt = d.flt)
    (hMerged : e.get (F.FLT_SRCi_STATE.merged 20) = d.get (F.FLT_SRCi_STATE.merged 20)) :
    strobed d e.ceJudged 20 (e.get F.MEM_CE_WINDOW.count) (e.rd R.MEM_ERR_LAST_CE % 2 ^ 32) ∧ e.ceJudged.memx.ceRep = true := by
  rw [Dev.ceJudged_over h]
  refine ⟨Dev.strobed_report _ _ (congrArg _ hFlt) hMerged, ?_⟩
  rw [Dev.ceReport, Dev.report_memx]

theorem Dev.frame_ceJudged : Dev.Frame ceParts d d.ceJudged := by
  by_cases hOver : d.ceOver
  · rw [Dev.ceJudged_over hOver]
    exact Frame.report (Frame.setMemx Frame.refl _ (by decide)) _ _ _ (by decide) (by decide)
  · rw [Dev.ceJudged_under hOver]
    exact Frame.refl

theorem Dev.frame_ceNoted : Dev.Frame ceNoteParts d (d.ceNoted note) :=
  Frame.wr (Frame.count (Frame.count Frame.refl _ _ (by decide)) _ _ (by decide)) _ _ (by decide)

theorem Dev.window_ceNoted : (d.ceNoted note).get F.MEM_CE_WINDOW.count = min (d.get F.MEM_CE_WINDOW.count + 1) (2 ^ 32 - 1) := by
  rw [Dev.ceNoted, Dev.get_wr_ne _ _ _ _ (by decide), Dev.count, Dev.get_put_ne _ _ _ _ (by decide)]
  exact Dev.get_count_same _ _ _ rfl

theorem Dev.total_ceNoted : (d.ceNoted note).get F.MEM_CE_TOTAL.count = min (d.get F.MEM_CE_TOTAL.count + 1) (2 ^ 32 - 1) := by
  rw [Dev.ceNoted, Dev.get_wr_ne _ _ _ _ (by decide), ← Dev.get_put_ne d F.MEM_CE_WINDOW.count F.MEM_CE_TOTAL.count _ (by decide)]
  exact Dev.get_count_same _ _ _ rfl

theorem Dev.last_ceNoted (h : note < 2 ^ 64) : (d.ceNoted note).rd R.MEM_ERR_LAST_CE = note := by
  rw [Dev.ceNoted, Dev.rd_wr_same, show R.MEM_ERR_LAST_CE.w = 64 from rfl, Nat.mod_mod, Nat.mod_eq_of_lt h]

theorem Dev.memx_ceNoted : (d.ceNoted note).memx = d.memx := rfl

theorem Dev.ceOver_ceNoted : (d.ceNoted note).ceOver ↔
    max 1 (d.get F.MEM_CE_CFG.threshold) ≤ min (d.get F.MEM_CE_WINDOW.count + 1) (2 ^ 32 - 1) ∧ d.memx.ceRep = false := by
  rw [Dev.ceOver, Dev.window_ceNoted, Frame.get (Dev.frame_ceNoted _ _) _ (by decide), Dev.memx_ceNoted]

end

/-- A corrected error with its note has been found (R170): what the device then shows. -/
def Dev.Corrected (d : Dev) (note : Nat) (e : Dev) : Prop :=
  let c := min (d.get F.MEM_CE_WINDOW.count + 1) (2 ^ 32 - 1)
  e.get F.MEM_CE_WINDOW.count = c ∧
  e.get F.MEM_CE_TOTAL.count = min (d.get F.MEM_CE_TOTAL.count + 1) (2 ^ 32 - 1) ∧
  e.rd R.MEM_ERR_LAST_CE = note ∧
  if max 1 (d.get F.MEM_CE_CFG.threshold) ≤ c ∧ d.memx.ceRep = false then
    strobed d e 20 c (e.rd R.MEM_ERR_LAST_CE % 2 ^ 32) ∧ e.memx.ceRep = true
  else e.flt.strobes = d.flt.strobes ∧ e.memx = d.memx

theorem Dev.corrected_ceJudged (d : Dev) {note : Nat} (hNote : note < 2 ^ 64) : d.Corrected note (d.ceNoted note).ceJudged := by
  have hLast : (d.ceNoted note).ceJudged.rd R.MEM_ERR_LAST_CE = note :=
    (Dev.rd_ceJudged _ (by decide)).trans (Dev.last_ceNoted _ _ hNote)
  refine ⟨(Dev.get_ceJudged _ (by decide)).trans (Dev.window_ceNoted _ _),
    (Dev.get_ceJudged _ (by decide)).trans (Dev.total_ceNoted _ _), hLast, ?_⟩
  rw [hLast]
  split
  · next hOver =>
    have hRecord := Dev.ceJudged_records (d := d) ((Dev.ceOver_ceNoted d note).mpr hOver) rfl
      (Frame.get (Dev.frame_ceNoted _ _) _ (by decide))
    rwa [Dev.window_ceNoted, Dev.last_ceNoted _ _ hNote] at hRecord
  · next hUnder =>
    rw [Dev.ceJudged_under fun hOver => hUnder ((Dev.ceOver_ceNoted d note).mp hOver)]
    exact ⟨rfl, rfl⟩

section
variable (d : Dev) (reader ch w syn : Nat)

theorem Dev.ceFound_eq : d.ceFound reader ch w syn = (d.ceNoted (errNote reader ch w syn)).ceJudged := rfl

theorem Dev.memx_ceFound : ∃ b, (d.ceFound reader ch w syn).memx = { d.memx with ceRep := b } := by
  rw [Dev.ceFound_eq, ← Dev.memx_ceNoted d (errNote reader ch w syn)]
  exact Dev.memx_ceJudged _

/-- What a corrected error shows: its counts, its note, and a record where it fills the window. -/
theorem Dev.ceFound_shows {reader ch w syn : Nat} (hNote : errNote reader ch w syn < 2 ^ 64) :
    d.Corrected (errNote reader ch w syn) (d.ceFound reader ch w syn) := by
  rw [Dev.ceFound_eq]
  exact Dev.corrected_ceJudged _ hNote

theorem Dev.frame_ceFound : Dev.Frame ceParts d (d.ceFound reader ch w syn) := by
  rw [Dev.ceFound_eq]
  exact Frame.trans (Frame.mono (Dev.frame_ceNoted _ _) (by decide)) (Dev.frame_ceJudged _)

end

/-! ### An uncorrectable error on the device (R171) -/

/-- What counting and noting an uncorrectable error changes. -/
def ueNoteParts : List Part := [Part.reg R.MEM_UE_TOTAL.off, Part.reg R.MEM_ERR_LAST_UE.off]

/-- What an uncorrectable error found by a reader other than the scrubber changes. -/
def ueParts : List Part := ueNoteParts ++ strobeParts 19

section
variable (d : Dev) (note : Nat)

/-- The error counted and noted. -/
def Dev.ueNoted : Dev := (d.count F.MEM_UE_TOTAL.count).wr R.MEM_ERR_LAST_UE note

theorem Dev.total_ueNoted : (d.ueNoted note).get F.MEM_UE_TOTAL.count = min (d.get F.MEM_UE_TOTAL.count + 1) (2 ^ 32 - 1) := by
  rw [Dev.ueNoted, Dev.get_wr_ne _ _ _ _ (by decide)]
  exact Dev.get_count_same _ _ _ rfl

theorem Dev.last_ueNoted (h : note < 2 ^ 64) : (d.ueNoted note).rd R.MEM_ERR_LAST_UE = note := by
  rw [Dev.ueNoted, Dev.rd_wr_same, show R.MEM_ERR_LAST_UE.w = 64 from rfl, Nat.mod_mod, Nat.mod_eq_of_lt h]

theorem Dev.frame_ueNoted : Dev.Frame ueNoteParts d (d.ueNoted note) :=
  Frame.wr (Frame.count Frame.refl _ _ (by decide)) _ _ (by decide)

/-- An uncorrectable error counted, noted and recorded. -/
theorem Dev.ueReport_shows (d0 d1 : Nat) (hNote : note < 2 ^ 64) :
    ((d.ueNoted note).report 19 d0 d1).get F.MEM_UE_TOTAL.count = min (d.get F.MEM_UE_TOTAL.count + 1) (2 ^ 32 - 1) ∧
    ((d.ueNoted note).report 19 d0 d1).rd R.MEM_ERR_LAST_UE = note ∧ strobed d ((d.ueNoted note).report 19 d0 d1) 19 d0 d1 ∧
    Dev.Frame ueParts d ((d.ueNoted note).report 19 d0 d1) := by
  have hFrame := Dev.frame_ueNoted d note
  refine ⟨?total, ?last, Dev.strobed_report _ _ rfl (Frame.get hFrame _ (by decide)), ?frame⟩
  case total => exact (Dev.get_report_ne _ _ _ _ _ (by decide)).trans (Dev.total_ueNoted _ _)
  case last => exact (Dev.rd_report_ne _ _ _ _ _ (by decide)).trans (Dev.last_ueNoted _ _ hNote)
  case frame => exact Frame.report (Frame.mono hFrame (by decide)) _ _ _ (by decide) (by decide)

/-- Only the scrubber keeps a list; every other reader reports each error. -/
theorem Dev.ueFound_of_not_scrubber {reader : Nat} (ch w syn : Nat) (h : reader ≠ 2) :
    d.ueFound reader ch w syn = (d.ueNoted (errNote reader ch w syn)).report 19 (reader * 2 ^ 28 + w) (ch * 2 ^ 8 + syn) := by
  simp only [Dev.ueFound, h, decide_false, Bool.false_and, Bool.false_eq_true, if_false, Nat.shiftLeft_eq]
  rfl

end

/-! ### Reading and writing a word (R168, R172) -/

section
variable {s : State} {reader ch w v : Nat}

theorem State.readMem_lost (h : s.dev.memx.lost = true) : (s.readMem reader ch w).2.2 = s := by
  rw [State.readMem]
  simp [h]

theorem State.readMem_clean (h : s.mem.syn w = 0) : (s.readMem reader ch w).2.2 = s := by
  rw [State.readMem, h, decodeWord_clean]
  dsimp only
  split <;> rfl

theorem State.readMem_corrected (hLost : s.dev.memx.lost = false) (h : (decodeWord (s.mem.word w) (s.mem.syn w)).2 = .corrected) :
    s.readMem reader ch w = ((decodeWord (s.mem.word w) (s.mem.syn w)).1, false,
      { s with dev := s.dev.ceFound reader ch w (s.mem.syn w) }) := by
  rw [State.readMem]
  simp [hLost, h]

theorem State.readMem_uncorrectable (hLost : s.dev.memx.lost = false)
    (h : (decodeWord (s.mem.word w) (s.mem.syn w)).2 = .uncorrectable) :
    (s.readMem reader ch w).2.2 = { s with dev := s.dev.ueFound reader ch w (s.mem.syn w) } := by
  rw [State.readMem]
  simp [hLost, h]

/-- With no injection armed and no word listed, a write stores the word with a clean check byte and leaves the device. -/
theorem State.writeMem_plain (hLost : s.dev.memx.lost = false) (hArm : s.dev.on F.MEM_INJECT_CTRL.arm = false) (hBad : s.dev.memx.bad = []) :
    s.writeMem w v false = { s with mem := s.mem.setWord w v 0 } := by
  rw [State.writeMem]
  simp [hLost, hArm, hBad]

end

/-! ### The scrubber (R169) -/

section
variable {s : State} {w : Nat}

theorem State.scrub_off (h : s.dev.on F.MEM_SCRUB_CFG.enable = false ∨ s.dev.domOn 1 = false ∨ s.dev.memx.lost = true) : s.scrub = s :=
  if_pos (by rcases h with h | h | h <;> simp [h])

theorem State.scrub_on (hEnable : s.dev.on F.MEM_SCRUB_CFG.enable = true) (hMem : s.dev.domOn 1 = true) (hLost : s.dev.memx.lost = false) :
    s.scrub = { s.scrubWord s.dev.memx.scrub with dev := (s.scrubWord s.dev.memx.scrub).dev.scrubNext s.dev.memx.scrub } :=
  if_neg (by simp [hEnable, hMem, hLost])

theorem State.scrubWord_clean (h : s.mem.syn w = 0) : s.scrubWord w = s := by
  rw [State.scrubWord, h, decodeWord_clean, if_neg (fun hCorrected => by cases hCorrected), State.readMem_clean h]

/-- What a read has corrected is written back with a clean check byte. -/
theorem State.scrubWord_corrected {v : Nat} {u : Bool} {e : Dev} (hFound : (decodeWord (s.mem.word w) (s.mem.syn w)).2 = .corrected)
    (hRead : s.readMem 2 0 w = (v, u, { s with dev := e })) (hLost : e.memx.lost = false)
    (hArm : e.on F.MEM_INJECT_CTRL.arm = false) (hBad : e.memx.bad = []) :
    s.scrubWord w = { s with dev := e, mem := s.mem.setWord w v 0 } := by
  rw [State.scrubWord, hRead, if_pos hFound]
  exact State.writeMem_plain hLost hArm hBad

/-- A data bit found wrong is corrected in memory. -/
theorem State.scrubWord_column {j : Nat} (hLost : s.dev.memx.lost = false) (hArm : s.dev.on F.MEM_INJECT_CTRL.arm = false)
    (hBad : s.dev.memx.bad = []) (hj : j < 64) (h : s.mem.syn w = hColumns.getD j 0) :
    s.scrubWord w = { s with dev := s.dev.ceFound 2 0 w (s.mem.syn w), mem := s.mem.setWord w (s.mem.word w ^^^ 2 ^ j) 0 } := by
  have hDecode : decodeWord (s.mem.word w) (s.mem.syn w) = (s.mem.word w ^^^ 2 ^ j, .corrected) := by rw [h, decodeWord_column _ hj]
  have hFound := congrArg Prod.snd hDecode
  have hRead := State.readMem_corrected (reader := 2) (ch := 0) hLost hFound
  rw [hDecode] at hRead
  obtain ⟨b, hMemx⟩ := Dev.memx_ceFound s.dev 2 0 w (s.mem.syn w)
  have hOn := Frame.on (Dev.frame_ceFound s.dev 2 0 w (s.mem.syn w)) F.MEM_INJECT_CTRL.arm (by decide)
  exact State.scrubWord_corrected hFound hRead (by rw [hMemx]; exact hLost) (hOn.trans hArm) (by rw [hMemx]; exact hBad)

variable (d : Dev)

theorem Dev.scrubNext_last (h : w + 1 = 2 ^ 27) : d.scrubNext w =
    ((({ d with memx := { d.memx with scrub := 0 } } : Dev).put F.MEM_SCRUB_STATUS.progress 0).count F.MEM_SCRUB_STATUS.passes).put
      F.MEM_STATUS.scrubbed 1 := by
  simp [Dev.scrubNext, h]

theorem Dev.scrubNext_next (h : w + 1 ≠ 2 ^ 27) : d.scrubNext w =
    ({ d with memx := { d.memx with scrub := w + 1 } } : Dev).put F.MEM_SCRUB_STATUS.progress ((w + 1) / 2048) := by
  have hLast : w ≠ 134217727 := by omega
  simp [Dev.scrubNext, hLast]

end

section
variable (d : Dev) (w : Nat)

theorem Dev.scrubNext_shows :
    if w + 1 = 2 ^ 27 then
      (d.scrubNext w).memx.scrub = 0 ∧ (d.scrubNext w).get F.MEM_SCRUB_STATUS.progress = 0 ∧
        (d.scrubNext w).get F.MEM_SCRUB_STATUS.passes = min (d.get F.MEM_SCRUB_STATUS.passes + 1) (2 ^ 16 - 1) ∧
        (d.scrubNext w).get F.MEM_STATUS.scrubbed = 1
    else (d.scrubNext w).memx.scrub = w + 1 ∧ (d.scrubNext w).get F.MEM_SCRUB_STATUS.progress = (w + 1) / 2048 % 2 ^ 16 ∧
        (d.scrubNext w).get F.MEM_SCRUB_STATUS.passes = d.get F.MEM_SCRUB_STATUS.passes ∧
        (d.scrubNext w).rd R.MEM_STATUS = d.rd R.MEM_STATUS := by
  split
  · next h =>
    rw [Dev.scrubNext_last _ h]
    refine ⟨rfl, ?_, ?_, Dev.get_put_same _ _ _ rfl⟩
    · rw [Dev.get_put_ne _ _ _ _ (by decide), Dev.count,
        Dev.get_put_other _ F.MEM_SCRUB_STATUS.passes F.MEM_SCRUB_STATUS.progress _ rfl rfl rfl rfl, Dev.get_put_same _ _ _ rfl]
      rfl
    · rw [Dev.get_put_ne _ _ _ _ (by decide), Dev.get_count_same _ _ _ rfl,
        Dev.get_put_other _ F.MEM_SCRUB_STATUS.progress F.MEM_SCRUB_STATUS.passes _ rfl rfl rfl rfl]
      rfl
  · next h =>
    rw [Dev.scrubNext_next _ h]
    exact ⟨rfl, Dev.get_put_same _ _ _ rfl, Dev.get_put_other _ _ _ _ rfl rfl rfl rfl, Dev.rd_put_ne _ _ _ _ (by decide)⟩

theorem Dev.frame_scrubNext_next (h : w + 1 ≠ 2 ^ 27) : Dev.Frame [Part.memx, Part.reg R.MEM_SCRUB_STATUS.off] d (d.scrubNext w) := by
  rw [Dev.scrubNext_next _ h]
  exact Frame.put (Frame.setMemx Frame.refl _ (by decide)) _ _ (by decide)

theorem Dev.frame_scrubNext : Dev.Frame [Part.memx, Part.reg R.MEM_SCRUB_STATUS.off, Part.reg R.MEM_STATUS.off] d (d.scrubNext w) := by
  by_cases h : w + 1 = 2 ^ 27
  · rw [Dev.scrubNext_last _ h]
    exact Frame.put (Frame.count (Frame.put (Frame.setMemx Frame.refl _ (by decide)) _ _ (by decide)) _ _ (by decide)) _ _ (by decide)
  · exact Frame.mono (Dev.frame_scrubNext_next _ _ h) (by decide)

end

/-! ### The window of corrected errors (R170) -/

/-- The window starts anew at tick t. -/
def Dev.windowFrom (d : Dev) (t : Nat) : Dev :=
  ({ d.advance8To t with memx := { d.memx with winStart := (d.advance8To t).sys.now8, ceRep := false } } : Dev).wr R.MEM_CE_WINDOW 0

theorem Dev.ceWindow_eq (d : Dev) : d.ceWindow = d.windowFrom (d.memx.winStart + max 1 (d.get F.MEM_CE_CFG.window_s) * 125000000) := by
  rw [Dev.ceWindow, Dev.windowFrom]
  simp only [Dev.advance8To_memx]

section
variable (d : Dev) (t : Nat)

theorem Dev.windowFrom_shows : (d.windowFrom t).sys.now8 = max d.sys.now8 t ∧ (d.windowFrom t).memx.winStart = (d.windowFrom t).sys.now8 ∧
    (d.windowFrom t).memx.ceRep = false ∧ (d.windowFrom t).rd R.MEM_CE_WINDOW = 0 :=
  ⟨Dev.now8_advance8To _ _, rfl, rfl, Dev.rd_wr_same _ _ _⟩

theorem Dev.frame_windowFrom : Dev.Frame ([Part.memx, Part.reg R.MEM_CE_WINDOW.off] ++ timeParts) d (d.windowFrom t) :=
  Frame.wr (Frame.setMemx (Frame.advance8To Frame.refl _ (by decide)) _ (by decide)) _ _ (by decide)

end

end Sys2Proof.Machine

namespace Sys2Proof.Proofs

/-! ### A word read (R168, R170, R171) -/

section
variable {s : State} (n : Fin 8) (w : Nat)

/-- What is noted of a word that a slice reads fits its register. -/
theorem errNote_lt {syn : Nat} (h : syn < 2 ^ 8) : errNote 1 n (w % 2 ^ 27) syn < 2 ^ 64 := by
  have hWord := Nat.mod_lt w (y := 2 ^ 27) (by norm_num)
  have hChannel := n.isLt
  rw [errNote]
  omega

theorem readPortWord_clean (h : s.mem.syn (w % 2 ^ 27) = 0 ∨ s.dev.memx.lost = true) :
    Completes (exec (.readPortWord n w) s) fun t => t = s :=
  completes_next _ rfl (h.elim State.readMem_clean State.readMem_lost)

theorem readPortWord_corrected (hLost : s.dev.memx.lost = false)
    (hSyn : s.mem.syn (w % 2 ^ 27) ∈ hColumns ∨ s.mem.syn (w % 2 ^ 27) ∈ checkBits) :
    Completes (exec (.readPortWord n w) s) fun t =>
      s.dev.Corrected (errNote 1 n (w % 2 ^ 27) (s.mem.syn (w % 2 ^ 27))) t.dev ∧ s.Frame ceParts t := by
  refine completes_next _ rfl ?_
  rw [State.readMem_corrected hLost (decodeWord_single _ hSyn)]
  exact ⟨Dev.ceFound_shows _ (errNote_lt n w (Memory.syn_lt _ _)), Frame.ofDev (Dev.frame_ceFound _ _ _ _ _)⟩

theorem readPortWord_uncorrectable {syn : Byte} (hLost : s.dev.memx.lost = false) (hSyn : s.mem.syn (w % 2 ^ 27) = syn.toNat)
    (hBit : syn.toNat ∉ 0 :: checkBits) (hColumn : syn.toNat ∉ hColumns) :
    Completes (exec (.readPortWord n w) s) fun t =>
      t.dev.get F.MEM_UE_TOTAL.count = min (s.dev.get F.MEM_UE_TOTAL.count + 1) (2 ^ 32 - 1) ∧
      t.dev.rd R.MEM_ERR_LAST_UE = errNote 1 n (w % 2 ^ 27) syn.toNat ∧
      strobed s.dev t.dev 19 (2 ^ 28 + w % 2 ^ 27) (n * 2 ^ 8 + syn.toNat) ∧
      s.Frame ueParts t := by
  have hNote := errNote_lt n w syn.isLt
  obtain ⟨h0, hCheck⟩ := not_or.mp (mt List.mem_cons.mpr hBit)
  obtain ⟨hTotal, hLast, hStrobed, hFrame⟩ := Dev.ueReport_shows s.dev _ (2 ^ 28 + w % 2 ^ 27) (n * 2 ^ 8 + syn.toNat) hNote
  refine completes_next _ rfl ?_
  rw [State.readMem_uncorrectable hLost (by rw [hSyn]; exact decodeWord_uncorrectable _ h0 hColumn hCheck), hSyn,
    Dev.ueFound_of_not_scrubber _ _ _ _ (by decide), one_mul]
  exact ⟨hTotal, hLast, hStrobed, Frame.ofDev hFrame⟩

end

/-! ### The scrubber (R169) -/

section
variable {s : State} (hEnable : s.dev.on F.MEM_SCRUB_CFG.enable = true) (hMem : s.dev.domOn 1 = true) (hLost : s.dev.memx.lost = false)
include hEnable hMem hLost

theorem scrubWord_clean (hSyn : s.mem.syn s.dev.memx.scrub = 0) :
    Completes (exec .scrubWord s) fun t =>
      (if s.dev.memx.scrub + 1 = 2 ^ 27 then
        t.dev.memx.scrub = 0 ∧ t.dev.get F.MEM_SCRUB_STATUS.progress = 0 ∧
          t.dev.get F.MEM_SCRUB_STATUS.passes = min (s.dev.get F.MEM_SCRUB_STATUS.passes + 1) (2 ^ 16 - 1) ∧ t.dev.get F.MEM_STATUS.scrubbed = 1
      else t.dev.memx.scrub = s.dev.memx.scrub + 1 ∧ t.dev.get F.MEM_SCRUB_STATUS.progress = (s.dev.memx.scrub + 1) / 2048 % 2 ^ 16 ∧
          t.dev.get F.MEM_SCRUB_STATUS.passes = s.dev.get F.MEM_SCRUB_STATUS.passes ∧ t.dev.rd R.MEM_STATUS = s.dev.rd R.MEM_STATUS) ∧
      s.Frame [Part.memx, Part.reg R.MEM_SCRUB_STATUS.off, Part.reg R.MEM_STATUS.off] t := by
  refine completes_next _ rfl ?_
  rw [State.scrub_on hEnable hMem hLost, State.scrubWord_clean hSyn]
  exact ⟨Dev.scrubNext_shows _ _, Frame.ofDev (Dev.frame_scrubNext _ _)⟩

theorem scrubWord_correctsBit {j : Nat} (hArm : s.dev.on F.MEM_INJECT_CTRL.arm = false) (hBad : s.dev.memx.bad = []) (hj : j < 64)
    (hSyn : s.mem.syn s.dev.memx.scrub = hColumns.getD j 0) (hWord : s.dev.memx.scrub + 1 < 2 ^ 27) :
    Completes (exec .scrubWord s) fun t =>
      t.mem.word s.dev.memx.scrub = s.mem.word s.dev.memx.scrub ^^^ 2 ^ j ∧ t.mem.syn s.dev.memx.scrub = 0 ∧
      t.dev.get F.MEM_CE_TOTAL.count = min (s.dev.get F.MEM_CE_TOTAL.count + 1) (2 ^ 32 - 1) ∧
      t.dev.get F.MEM_ERR_LAST_CE.reader = 2 ∧ t.dev.memx.scrub = s.dev.memx.scrub + 1 ∧
      s.MemFrame [s.dev.memx.scrub] t ∧ t.pending = s.pending ∧
      s.dev.Frame ([Part.memx, Part.reg R.MEM_SCRUB_STATUS.off, Part.reg R.MEM_CE_WINDOW.off, Part.reg R.MEM_CE_TOTAL.off,
        Part.reg R.MEM_ERR_LAST_CE.off] ++ strobeParts 20) t.dev := by
  refine completes_next _ rfl ?_
  rw [State.scrub_on hEnable hMem hLost, State.scrubWord_column hLost hArm hBad hj hSyn]
  generalize s.dev.memx.scrub = w at hWord ⊢
  have hOn : w + 1 ≠ 2 ^ 27 := by omega
  have hNext := Dev.frame_scrubNext_next (s.dev.ceFound 2 0 w (s.mem.syn w)) w hOn
  have hNote : errNote 2 0 w (s.mem.syn w) < 2 ^ 64 := by
    have hByte := Memory.syn_lt s.mem w
    rw [errNote]
    omega
  obtain ⟨-, hTotal, hLast, -⟩ := Dev.ceFound_shows s.dev hNote
  refine ⟨?_, Memory.syn_setWord_same _ _ _ _, (Frame.get hNext _ (by decide)).trans hTotal, ?_, ?_, State.memFrame_setWord rfl, rfl, ?_⟩
  · have hFits := Nat.xor_lt_two_pow (Memory.word_lt s.mem w) (Nat.pow_lt_pow_right (by norm_num : 1 < 2) hj)
    exact (Memory.word_setWord_same _ _ _ _).trans (Nat.mod_eq_of_lt hFits)
  · rw [Frame.get hNext _ (by decide), Dev.get, show F.MEM_ERR_LAST_CE.reader.reg = R.MEM_ERR_LAST_CE from rfl, hLast]
    exact bits_errNote_reader _ (by decide) (by decide) (by omega)
  · exact congrArg (fun d => d.memx.scrub) (Dev.scrubNext_next (s.dev.ceFound 2 0 w (s.mem.syn w)) hOn)
  · exact Frame.trans (Frame.mono (Dev.frame_ceFound _ _ _ _ _) (by decide)) (Frame.mono hNext (by decide))

end

theorem scrubWord_off {s : State} (h : s.dev.on F.MEM_SCRUB_CFG.enable = false ∨ s.dev.domOn 1 = false ∨ s.dev.memx.lost = true) :
    Completes (exec .scrubWord s) fun t => t = s := completes_next _ rfl (State.scrub_off h)

/-! ### The window and the injection (R170, R172) -/

theorem ceWindowRestart_restarts (s : State) :
    Completes (exec .ceWindowRestart s) fun t =>
      t.dev.sys.now8 = max s.dev.sys.now8 (s.dev.memx.winStart + max 1 (s.dev.get F.MEM_CE_CFG.window_s) * 125000000) ∧
      t.dev.memx.winStart = t.dev.sys.now8 ∧ t.dev.memx.ceRep = false ∧ t.dev.rd R.MEM_CE_WINDOW = 0 ∧
      s.Frame ([Part.memx, Part.reg R.MEM_CE_WINDOW.off] ++ timeParts) t := by
  refine completes_onDev Dev.ceWindow rfl ?_
  rw [Dev.ceWindow_eq]
  obtain ⟨hTime, hStart, hRecord, hCount⟩ :=
    Dev.windowFrom_shows s.dev (s.dev.memx.winStart + max 1 (s.dev.get F.MEM_CE_CFG.window_s) * 125000000)
  exact ⟨hTime, hStart, hRecord, hCount, Frame.ofDev (Dev.frame_windowFrom _ _)⟩

theorem injectArm_arms {s : State} (h : reached s.dev R.MEM_INJECT_CTRL.off) :
    Completes (exec .injectArm s) fun t => t.dev.get F.MEM_INJECT_CTRL.arm = 1 ∧ s.Frame [Part.reg R.MEM_INJECT_CTRL.off] t :=
  completes_reach h rfl ⟨Dev.get_put_same _ _ _ rfl, Frame.ofDev (Frame.put Frame.refl _ _ (by decide))⟩

/-! ### A state in which a statement fails -/

/-- Queue 0 is in RUN and waits for the answer to a re-read of its descriptor's word 0; SAFE_IDLE has begun in this RUN, and the host
state is NORMAL again. -/
def heldQueueState : State :=
  let d := (({} : Dev).put F.SYS_HOST_STATE.state 0).put (F.DMA_Qq_STATUS.state 0) 3
  { dev := (d.modDq 0 fun x => { x with fetch := 2 }).dmaHold }

/-- The answer, a next descriptor, takes the queue to WAIT: it is fetched at the next grant (R174). -/
theorem heldQueueState_fetched : (heldQueueState.dev.descFetched 0 [0]).qSt 0 = 2 := by decide

/-! ### The obligations -/

/-- Settles O3: a step is a tick or the command at the front of the queue, and each keeps the canonical form. -/
theorem memoryStaysCanonical : Obligations.MemoryStaysCanonical := by
  unfold Obligations.MemoryStaysCanonical
  intro s t hInv hStep
  obtain ⟨u, hNext, hWf⟩ := step_keeps_wf s
  obtain rfl : u = t := by
    rw [hNext] at hStep
    injection hStep
  exact hWf hInv

/-- Refutes O24: the clause on the answer to a re-read keeps the queue in RUN wherever the host state does not hold the engine now. A queue
that was in RUN when SAFE_IDLE began leaves RUN after what is in service even if SAFE_IDLE has ended meanwhile (R174). -/
theorem not_dmaDescriptors : ¬ Obligations.DmaDescriptors := by
  unfold Obligations.DmaDescriptors
  rintro ⟨-, hReread, -⟩
  obtain ⟨t, hExec, hPost, -⟩ := hReread heldQueueState 0 [0#64] (by decide) (by decide) (by decide)
  obtain rfl : { heldQueueState with dev := heldQueueState.dev.descFetched 0 [0] } = t := by injection hExec
  obtain ⟨-, hState⟩ := (if_pos (by decide)).mp hPost
  obtain ⟨hRun, -⟩ := (if_neg (by decide)).mp hState
  exact absurd (heldQueueState_fetched.symm.trans hRun) (by decide)

/-- Settles O26: a word read by what its syndrome decodes to, the scrubber, the window and the injection, clause by clause. -/
theorem memoryErrors : Obligations.MemoryErrors := by
  unfold Obligations.MemoryErrors
  refine ⟨fun _ n w h => readPortWord_clean n w h, fun s n w hLost hSyn => ?corrected,
    fun _ n w _ hLost hSyn hBit hColumn => readPortWord_uncorrectable n w hLost hSyn hBit hColumn,
    fun _ hEnable hMem hLost hSyn => scrubWord_clean hEnable hMem hLost hSyn,
    fun _ _ hEnable hMem hLost hArm hBad hj hSyn hWord => scrubWord_correctsBit hEnable hMem hLost hArm hBad hj hSyn hWord,
    fun _ h => scrubWord_off h, ceWindowRestart_restarts, fun _ h => injectArm_arms h⟩
  case corrected =>
    obtain ⟨t, hExec, ⟨hWindow, hTotal, hLast, hReport⟩, hFrame⟩ := readPortWord_corrected n w hLost hSyn
    exact ⟨t, hExec, hWindow, hTotal, hLast, hReport, hFrame⟩

end Sys2Proof.Proofs
end

-- ==== Sitting: screening ====
section
/-! SUPPORT. The end of a digest and the lock of the tables (R196, R203, R206): what the digest's decodes leave, the lock that DIGEST_DONE
leaves, and a state in which the statement about that lock fails. -/
open Sys2Proof Sys2Proof.Machine Sys2Proof.Claims

namespace Sys2Proof.Machine

/-! ### What the decode of a table word leaves (R200) -/

section
variable (d : Dev) (n off : Nat)

/-- All that a decode of a table word can be: nothing, a count, or a count with the mark, the flag and the record. -/
theorem Dev.tableDecode_cases :
    d.tableDecode n off = d ∨ d.tableDecode n off = d.count (F.CHn_SCR_CE_COUNT.count n) ∨
      d.tableDecode n off =
        (((({ d with tblMark := d.tblMark ++ [off] } : Dev).count (F.CHn_SCR_UE_COUNT.count n)).scrFlag n 2).report 35 off
          (Store.get 0#8 d.tblChk off).toNat) := by
  rw [Dev.tableDecode]
  dsimp only
  split
  · exact .inl rfl
  · exact .inr (.inl rfl)
  · split
    · exact .inl rfl
    · exact .inr (.inr rfl)

@[simp] theorem Dev.scrFlag_frd (k : Nat) : (d.scrFlag n k).frd = d.frd := Dev.flag_frd _ _ _ _ _
@[simp] theorem Dev.scrFlag_ch (k : Nat) : (d.scrFlag n k).ch = d.ch := Dev.flag_ch _ _ _ _ _

@[simp] theorem Dev.tableDecode_frd : (d.tableDecode n off).frd = d.frd := by
  obtain h | h | h := d.tableDecode_cases n off <;> simp [h]

@[simp] theorem Dev.tableDecode_ch : (d.tableDecode n off).ch = d.ch := by
  obtain h | h | h := d.tableDecode_cases n off <;> simp [h]

theorem Dev.each_tableDecode_frd (l : List Nat) : (d.each l fun x w => x.tableDecode n w).frd = d.frd :=
  d.kept_each Dev.frd _ _ fun x w => x.tableDecode_frd n w

theorem Dev.each_tableDecode_ch (l : List Nat) : (d.each l fun x w => x.tableDecode n w).ch = d.ch :=
  d.kept_each Dev.ch _ _ fun x w => x.tableDecode_ch n w

end

/-! ### The lock (R203) -/

section
variable {d e : Dev} {n : Nat}

theorem Dev.on_scrLock (d : Dev) (n : Nat) (imaging : Bool) :
    (d.scrLock n imaging).on (F.CHn_SCR_STATUS.locked n) = ((imaging || (d.chS n).digestDue) && decide (d.chanB n = 0)) :=
  Dev.on_putB_same _ _ _ rfl

theorem Dev.chanB_congr (h : e.frd = d.frd) : e.chanB n = d.chanB n := by
  rw [Dev.chanB, Dev.chanB, Dev.chan, Dev.chan, h]

theorem Dev.chS_congr (h : e.ch = d.ch) : e.chS n = d.chS n := by
  rw [Dev.chS, Dev.chS, h]

theorem Dev.modCh_frd (d : Dev) (n : Nat) (f : ChSt → ChSt) : (d.modCh n f).frd = d.frd := rfl

theorem Dev.chS_modCh_same (d : Dev) (n : Nat) (f : ChSt → ChSt) : (d.modCh n f).chS n = f (d.chS n) := Store.get_set_same _ _ _ _

end

/-! ### The end of the digest (R206) -/

/-- The device with a digest shown and no longer due, before the words of the tables are decoded. -/
def Dev.digestShown (d : Dev) (n crc : Nat) : Dev :=
  ((d.wr (R.CHn_SCR_DIGEST n) crc).put (F.CHn_SCR_STATUS.digest_valid n) 1).modCh n fun c => { c with digestDue := false }

/-- The device with table words decoded as well, before the digest's flag is set and the lock judged. -/
def Dev.digestDecoded (d : Dev) (n crc : Nat) (words : List Nat) : Dev :=
  (d.digestShown n crc).each words fun x w => x.tableDecode n w

section
variable {d : Dev} {n crc : Nat} {words : List Nat}

/-- Whatever the digest is and whichever words it decodes, DIGEST_DONE ends with the flag and the lock. -/
theorem Dev.digestDone_due (h : (d.chS n).digestDue = true) :
    ∃ crc words, d.digestDone n = ((d.digestDecoded n crc words).scrFlag n 1).scrLock n
      (((d.digestDecoded n crc words).chS n).desc.isSome && !((d.digestDecoded n crc words).chS n).dropped) := by
  refine ⟨crc32c (d.digestBytes n), (d.digestShown n (crc32c (d.digestBytes n))).digestFaulty n, ?_⟩
  rw [Dev.digestDone, if_neg (by simp [h])]
  rfl

theorem Dev.digestShown_chS : (d.digestShown n crc).chS n = { d.chS n with digestDue := false } := by
  rw [Dev.digestShown, Dev.chS_modCh_same, Dev.chS_congr ((Dev.put_ch _ _ _).trans (Dev.wr_ch _ _ _))]

theorem Dev.digestShown_frd : (d.digestShown n crc).frd = d.frd := by
  rw [Dev.digestShown, Dev.modCh_frd, Dev.put_frd, Dev.wr_frd]

theorem Dev.digestDecoded_chS : (d.digestDecoded n crc words).chS n = { d.chS n with digestDue := false } := by
  rw [Dev.digestDecoded, Dev.chS_congr (Dev.each_tableDecode_ch _ _ _), Dev.digestShown_chS]

theorem Dev.digestDecoded_frd : (d.digestDecoded n crc words).frd = d.frd := by
  rw [Dev.digestDecoded, Dev.each_tableDecode_frd, Dev.digestShown_frd]

/-- The lock outlives the digest while a scan sequence runs that has not dropped the channel, and only where the channel is contone: R196
puts no lock on a pre-screened one. -/
theorem Dev.on_locked_digestDone (h : (d.chS n).digestDue = true) :
    (d.digestDone n).on (F.CHn_SCR_STATUS.locked n) =
      (((d.chS n).desc.isSome && !(d.chS n).dropped) && decide (d.chanB n = 0)) := by
  obtain ⟨crc, words, hDone⟩ := Dev.digestDone_due h
  have hCh : ((d.digestDecoded n crc words).scrFlag n 1).chS n = { d.chS n with digestDue := false } :=
    (Dev.chS_congr (Dev.scrFlag_ch _ _ _)).trans Dev.digestDecoded_chS
  have hChan : ((d.digestDecoded n crc words).scrFlag n 1).chanB n = d.chanB n :=
    Dev.chanB_congr ((Dev.scrFlag_frd _ _ _).trans Dev.digestDecoded_frd)
  rw [hDone, Dev.on_scrLock, hCh, hChan, Dev.digestDecoded_chS, Bool.or_false]

end
end Sys2Proof.Machine

namespace Sys2Proof.Proofs

/-! ### A state in which the statement fails -/

/-- Channel 0 takes pre-screened samples of one bit, the scan sequence of sheet 0 runs on it, and the digest of its tables is due. -/
def preScreenedState : State :=
  let d : Dev := { frd := { cfg := { chans := [{ channel := 0, inputFormat := 2 }] } } }
  { dev := d.modCh 0 fun c => { c with desc := some 0, digestDue := true } }

/-- When its digest is done, the tables of the pre-screened channel are not locked (R196). -/
theorem preScreenedState_unlocked : (preScreenedState.dev.digestDone 0).on (F.CHn_SCR_STATUS.locked 0) = false :=
  (Dev.on_locked_digestDone (by decide)).trans (by decide)

/-! ### The obligation -/

/-- Refutes O27: the clause on the digest has the tables of every channel locked after it while a scan sequence runs. The locking rules do not
restrict a pre-screened channel (R196), whose lock reads 0 then (`Dev.on_locked_digestDone` says what the lock is of each channel). -/
theorem not_screening : ¬ Obligations.Screening := by
  unfold Obligations.Screening
  rintro ⟨-, -, -, -, hDigest, -⟩
  obtain ⟨t, hExec, -, -, -, -, hLocked, -⟩ := hDigest preScreenedState 0 (by decide)
  obtain rfl : { preScreenedState with dev := preScreenedState.dev.digestDone 0 } = t := by injection hExec
  exact absurd (preScreenedState_unlocked.symm.trans hLocked) (by decide)

end Sys2Proof.Proofs
end

-- ==== Sitting: scan timing on and off, the facet grid ====
section
/-! SUPPORT. Scan timing on and off (R211), the transfer of the facet grid (R213), the end of a copy of the placement maps (R224). -/

open Sys2Proof Sys2Proof.Machine Sys2Proof.Claims
set_option maxRecDepth 20000

namespace Sys2Proof.Machine

/-- The device answers its inputs alone: no partner takes them (R384, R388). -/
def Dev.alone (d : Dev) : Prop := d.twin = false ∨ d.get F.TWN_STATUS.state < 2

theorem Dev.alone_of_frame {d e : Dev} {ps : List Part} (h : d.alone) (hFrame : Dev.Frame ps d e) (hFrd : Part.frd ∉ ps)
    (hReg : Part.reg R.TWN_STATUS.off ∉ ps) : e.alone := by
  have hTwin : e.twin = d.twin := by rw [Dev.twin, Dev.twin, hFrame .frd hFrd]
  have hState : e.get F.TWN_STATUS.state = d.get F.TWN_STATUS.state := Frame.get hFrame _ hReg
  rwa [Dev.alone, hTwin, hState]

theorem Dev.sendInput_alone {d : Dev} (h : d.alone) (code index ts value : Nat) : d.sendInput code index ts value = d := by
  have hPair : (d.twin && decide (2 ≤ d.get F.TWN_STATUS.state)) = false := by
    rcases h with h | h
    · simp [h]
    · simp [Nat.not_le.mpr h]
  have hPut : d.putInput code index ts value = d := by unfold Dev.putInput; rw [hPair]; rfl
  rw [Dev.sendInput, Dev.when, hPut, ite_self]

section
variable {d : Dev} {n : Nat}

theorem Dev.sctSt_put_state {st : Nat} (h : st < 4) : (d.put (F.CHn_SCT_STATUS.state n) st).sctSt n = st :=
  (Dev.get_put_same _ _ _ rfl).trans (Nat.mod_eq_of_lt h)

theorem Dev.sctSt_put_lock (v : Nat) : (d.put (F.CHn_SCT_STATUS.lock_count n) v).sctSt n = d.sctSt n :=
  Dev.get_put_other _ _ _ _ rfl rfl rfl rfl

theorem Dev.lock_put_state (v : Nat) :
    (d.put (F.CHn_SCT_STATUS.state n) v).get (F.CHn_SCT_STATUS.lock_count n) = d.get (F.CHn_SCT_STATUS.lock_count n) :=
  Dev.get_put_other _ _ _ _ rfl rfl rfl rfl

theorem Dev.lock_put_lock {v : Nat} (h : v < 128) :
    (d.put (F.CHn_SCT_STATUS.lock_count n) v).get (F.CHn_SCT_STATUS.lock_count n) = v :=
  (Dev.get_put_same _ _ _ rfl).trans (Nat.mod_eq_of_lt h)

theorem Dev.chS_put (f : Fld) (v : Nat) : (d.put f v).chS n = d.chS n := rfl

end

/-! ### SCT_ENABLE (R211) -/

/-- What SEARCH starts from in a channel: no slot counted, nothing summed for the identification. -/
def ChSt.searching (c : ChSt) : ChSt := { c with outN := 0, missN := 0, idSum := [], idCnt := [], idN := 0 }

section
variable {d : Dev} {n : Nat}

/-- SEARCH without the unit that a Token holder sends. -/
def Dev.searchShown (d : Dev) (n : Nat) : Dev :=
  ((d.modCh n ChSt.searching).put (F.CHn_SCT_STATUS.lock_count n) 0).put (F.CHn_SCT_STATUS.state n) 1

theorem Dev.frame_searchShown : Dev.Frame [Part.ch n, Part.reg (R.CHn_SCT_STATUS n).off] d (d.searchShown n) :=
  Frame.put (Frame.put (Frame.modCh Frame.refl n _ (by simp)) _ _ (by simp [F.CHn_SCT_STATUS.lock_count])) _ _ (by simp [F.CHn_SCT_STATUS.state])

theorem Dev.sctSearch_eq (rot : Nat) :
    d.sctSearch n rot = (d.searchShown n).sendInput 6 n (d.searchShown n).now (rot <<< 4) := by
  rw [Dev.sctSearch, Dev.sctEnter, if_neg (by decide), if_pos rfl, Nat.add_zero]
  rfl

theorem Dev.sctSearch_alone (h : d.alone) : d.sctSearch n = d.searchShown n := by
  rw [Dev.sctSearch_eq]
  exact Dev.sendInput_alone (Dev.alone_of_frame h Dev.frame_searchShown (by simp) (by simp [R.TWN_STATUS, R.CHn_SCT_STATUS]; omega)) _ _ _ _

theorem Dev.frame_judgeRestart : Dev.Frame [Part.ch n] d (d.judgeRestart n) := Frame.modCh Frame.refl n _ (by simp)

theorem Dev.chS_searchShown : (d.searchShown n).chS n = (d.chS n).searching := by
  rw [Dev.searchShown, Dev.chS_put, Dev.chS_put, Dev.chS_modCh_same]

theorem Dev.sctSt_searchShown : (d.searchShown n).sctSt n = 1 := Dev.sctSt_put_state (by decide)

theorem Dev.lock_searchShown : (d.searchShown n).get (F.CHn_SCT_STATUS.lock_count n) = 0 :=
  (Dev.lock_put_state 1).trans (Dev.lock_put_lock (by decide))

theorem Dev.chS_judgeRestart : (d.judgeRestart n).chS n = { d.chS n with judged := d.slotFrom n d.now, edge := none, prevEdge := none } :=
  Dev.chS_modCh_same d n _

end

/-- The domain of a channel's block (R17). -/
theorem domainOf_channel {n o : Nat} (hn : n < 8) (hlo : 0x200000 + n * 0x20000 ≤ o) (hhi : o < 0x220000 + n * 0x20000) : domainOf o = 4 + n := by
  rw [domainOf, if_pos (by simp only [Bool.and_eq_true, decide_eq_true_eq]; omega)]
  omega

/-- A host that reaches one register of a channel reaches them all. -/
theorem direct_sameChannel {d : Dev} {n o p : Nat} (hn : n < 8) (h : d.direct o) (ho : 0x200000 + n * 0x20000 ≤ o ∧ o < 0x220000 + n * 0x20000)
    (hp : 0x200000 + n * 0x20000 ≤ p ∧ p < 0x220000 + n * 0x20000) : d.direct p := by
  obtain ⟨hEnd, hAwake, hDom, hAlone⟩ := h
  rw [domainOf_channel hn ho.1 ho.2] at hDom
  exact ⟨hEnd, hAwake, by rwa [domainOf_channel hn hp.1 hp.2], hAlone⟩

/-- What a change outside the active copies leaves of the grid. -/
structure Dev.SameGrid (n : Nat) (d e : Dev) : Prop where
  p : e.gridP n = d.gridP n
  ref : e.gridRef n = d.gridRef n

namespace Dev.SameGrid
variable {d e : Dev} {n : Nat}

theorem ofFrame {ps : List Part} (h : Dev.Frame ps d e) (hRef : Part.act (R.CHn_SCT_REF_TIME n).off ∉ ps)
    (hPeriod : Part.act (R.CHn_SCT_FACET_PERIOD n).off ∉ ps) : Dev.SameGrid n d e where
  p := by rw [Dev.gridP, Dev.gridP, Dev.ga, Dev.ga]; exact congrArg (bits · 47 0) (h _ hPeriod _ rfl)
  ref := h _ hRef _ rfl

theorem slotT16 (h : Dev.SameGrid n d e) (k : Nat) : e.slotT16 n k = d.slotT16 n k := by rw [Dev.slotT16, Dev.slotT16, h.p, h.ref]
theorem slotT (h : Dev.SameGrid n d e) (k : Nat) : e.slotT n k = d.slotT n k := by rw [Dev.slotT, Dev.slotT, h.slotT16]
theorem slotFrom (h : Dev.SameGrid n d e) (t : Nat) : e.slotFrom n t = d.slotFrom n t := by rw [Dev.slotFrom, Dev.slotFrom, h.p, h.ref]
theorem inRange (h : Dev.SameGrid n d e) (k t : Nat) : e.inRange n k t = d.inRange n k t := by rw [Dev.inRange, Dev.inRange, h.slotT, h.p]
theorem bdSlot (h : Dev.SameGrid n d e) (t : Nat) : e.bdSlot n t = d.bdSlot n t := by
  unfold Dev.bdSlot
  simp only [h.p, h.ref, h.inRange, h.slotT]

end Dev.SameGrid

section
variable {n : Nat}

/-- What enabling changes. -/
def enableParts (n : Nat) : List Part := [Part.ch n, Part.reg (R.CHn_SCT_CTRL n).off, Part.reg (R.CHn_SCT_STATUS n).off]

theorem Dev.sctEnable_off {d : Dev} (hAlone : d.alone) (hDom : d.domOn (4 + n) = true) (h0 : d.sctSt n = 0) :
    d.sctEnable n true = ((d.putB (F.CHn_SCT_CTRL.enable n) true).judgeRestart n).searchShown n := by
  have hPut : Dev.Frame [Part.reg (R.CHn_SCT_CTRL n).off] d (d.putB (F.CHn_SCT_CTRL.enable n) true) := Frame.putB Frame.refl _ _ (by simp [F.CHn_SCT_CTRL.enable])
  have hSt : (d.putB (F.CHn_SCT_CTRL.enable n) true).sctSt n = 0 := by
    rw [← h0]
    exact Frame.get hPut _ (by simp [F.CHn_SCT_STATUS.state, R.CHn_SCT_CTRL, R.CHn_SCT_STATUS])
  have hOn : (d.putB (F.CHn_SCT_CTRL.enable n) true).domOn (4 + n) = true := by
    rw [Dev.domOn, Frame.rd hPut R.PWR_DOMAINS (by simp [R.PWR_DOMAINS, R.CHn_SCT_CTRL]; omega)]
    exact hDom
  rw [Dev.sctEnable, if_pos rfl, if_pos (by simp [hSt, hOn])]
  refine Dev.sctSearch_alone (Dev.alone_of_frame hAlone (Frame.trans (ps := enableParts n) (Frame.mono hPut (by simp [enableParts]))
    (Frame.mono Dev.frame_judgeRestart (by simp [enableParts]))) (by simp [enableParts]) ?_)
  simp [enableParts, R.TWN_STATUS, R.CHn_SCT_CTRL, R.CHn_SCT_STATUS]
  omega

end

section
variable {d e : Dev} {n : Nat}

theorem Dev.frame_enable (b : Bool) : Dev.Frame [Part.reg (R.CHn_SCT_CTRL n).off] d (d.putB (F.CHn_SCT_CTRL.enable n) b) :=
  Frame.putB Frame.refl _ _ (by simp [F.CHn_SCT_CTRL.enable])

/-- The part that holds the phase loop of the polygon axis of a channel. -/
def axisPart (d : Dev) (n : Nat) : List Part := ((d.chan n).map fun c => Part.bld c.polygonAxis).toList

theorem axisPart_congr (h : e.frd = d.frd) : axisPart e n = axisPart d n := by
  rw [axisPart, axisPart, Dev.chan, Dev.chan, h]

theorem reg_not_mem_axisPart (o : Nat) : Part.reg o ∉ axisPart d n := by simp [axisPart]

theorem Dev.frame_phaseLoopEnd : Dev.Frame (axisPart d n) d (d.phaseLoopEnd n) := by
  rw [Dev.phaseLoopEnd, axisPart]
  cases d.chan n with
  | none => exact Frame.refl
  | some c => exact Frame.modBld Frame.refl _ _ (by simp)

/-- The registers of an axis lie at other multiples of their stride than those of scan timing. -/
theorem axisStatus_not_sct (a n : Nat) : (R.BLD_AXa_STATUS a).off ≠ (R.CHn_SCT_CTRL n).off ∧ (R.BLD_AXa_STATUS a).off ≠ (R.CHn_SCT_STATUS n).off := by
  simp only [R.BLD_AXa_STATUS, R.CHn_SCT_CTRL, R.CHn_SCT_STATUS]
  omega

theorem Dev.bldS_phaseLoopEnd {c : Chan} (hc : d.chan n = some c) (hSlew : d.on (F.BLD_AXa_STATUS.slewing c.polygonAxis) = false) :
    (d.phaseLoopEnd n).bldS c.polygonAxis = (d.bldS c.polygonAxis).noPhase := by
  rw [Dev.phaseLoopEnd, hc]
  simp [hSlew]

/-- Scan timing that shows OFF and no slot in tolerance. -/
def Dev.offShown (d : Dev) (n : Nat) : Dev := (d.put (F.CHn_SCT_STATUS.lock_count n) 0).put (F.CHn_SCT_STATUS.state n) 0

theorem Dev.frame_offShown : Dev.Frame [Part.reg (R.CHn_SCT_STATUS n).off] d (d.offShown n) :=
  Frame.put (Frame.put Frame.refl _ _ (by simp [F.CHn_SCT_STATUS.lock_count])) _ _ (by simp [F.CHn_SCT_STATUS.state])

theorem Dev.sctSt_offShown : (d.offShown n).sctSt n = 0 := Dev.sctSt_put_state (by decide)

theorem Dev.lock_offShown : (d.offShown n).get (F.CHn_SCT_STATUS.lock_count n) = 0 :=
  (Dev.lock_put_state 0).trans (Dev.lock_put_lock (by decide))

/-- Disabling changes nothing but the enable bit where scan timing is off already. -/
theorem Dev.sctEnable_false : d.sctEnable n false =
    if (d.putB (F.CHn_SCT_CTRL.enable n) false).sctSt n = 0 then d.putB (F.CHn_SCT_CTRL.enable n) false
    else ((d.putB (F.CHn_SCT_CTRL.enable n) false).offShown n).phaseLoopEnd n := by
  rw [Dev.sctEnable, if_neg (by decide), Dev.sctEnter, if_pos rfl, Dev.offShown]

end
end Sys2Proof.Machine

namespace Sys2Proof.Proofs
section
variable {s : State} {n : Fin 8} {P : State → Prop}

theorem domOn_of_direct {d : Dev} {o : Nat} (h : d.direct o) (hlo : 0x200000 + n.val * 0x20000 ≤ o) (hhi : o < 0x220000 + n.val * 0x20000) :
    d.domOn (4 + n) = true := by
  obtain ⟨-, -, hDom, -⟩ := h
  rwa [domainOf_channel n.isLt hlo hhi] at hDom

theorem completes_sctEnable {on : Bool} (hDirect : s.dev.direct (R.CHn_SCT_CTRL n).off) (h : P { s with dev := s.dev.sctEnable n on }) :
    Completes (exec (.sctEnable n on) s) P :=
  completes_onDev (fun d => d.agree (R.CHn_SCT_CTRL n) (putBits (d.rd (R.CHn_SCT_CTRL n)) 0 0 (b2n on)) (·.sctEnable n on)) rfl
    (by rw [Dev.agree_direct _ _ _ _ hDirect]; exact h)

theorem sctEnable_searches (hDirect : s.dev.direct (R.CHn_SCT_CTRL n).off) :
    Completes (exec (.sctEnable n true) s) fun t =>
      t.dev.on (F.CHn_SCT_CTRL.enable n) = true ∧
      (if s.dev.sctSt n = 0 then
        t.dev.sctSt n = 1 ∧ t.dev.get (F.CHn_SCT_STATUS.lock_count n) = 0 ∧ (t.dev.chS n).judged = s.dev.slotFrom n s.dev.now ∧ (t.dev.chS n).edge = none ∧
          (t.dev.chS n).slot = (s.dev.chS n).slot
      else t.dev.sctSt n = s.dev.sctSt n ∧ t.dev.ch = s.dev.ch) ∧ s.Frame (enableParts n) t := by
  refine completes_sctEnable hDirect ?_
  have hDom : s.dev.domOn (4 + n) = true := domOn_of_direct hDirect (by simp only [R.CHn_SCT_CTRL]; omega) (by simp only [R.CHn_SCT_CTRL]; omega)
  obtain ⟨-, -, -, hAlone⟩ := hDirect
  set d := s.dev
  have hPut := Dev.frame_enable (d := d) (n := n) true
  have hPutParts : Dev.Frame (enableParts n) d (d.putB (F.CHn_SCT_CTRL.enable n) true) := Frame.mono hPut (by simp [enableParts])
  have hOn : (d.putB (F.CHn_SCT_CTRL.enable n) true).on (F.CHn_SCT_CTRL.enable n) = true := Dev.on_putB_same _ _ _ rfl
  have hSt : (d.putB (F.CHn_SCT_CTRL.enable n) true).sctSt n = d.sctSt n :=
    Frame.get hPut _ (by simp [F.CHn_SCT_STATUS.state, R.CHn_SCT_CTRL, R.CHn_SCT_STATUS])
  by_cases h0 : d.sctSt n = 0
  · rw [if_pos h0, Dev.sctEnable_off hAlone hDom h0]
    have hRestart : Dev.Frame [Part.ch n, Part.reg (R.CHn_SCT_STATUS n).off] (d.putB (F.CHn_SCT_CTRL.enable n) true)
        (((d.putB (F.CHn_SCT_CTRL.enable n) true).judgeRestart n).searchShown n) :=
      Frame.trans (Frame.mono Dev.frame_judgeRestart (by simp)) Dev.frame_searchShown
    have hNow : (d.putB (F.CHn_SCT_CTRL.enable n) true).now = d.now := Frame.rd hPut R.EVT_TIME (by simp [R.EVT_TIME, R.CHn_SCT_CTRL]; omega)
    have hGrid : Dev.SameGrid n d (d.putB (F.CHn_SCT_CTRL.enable n) true) := .ofFrame hPut (by simp) (by simp)
    refine ⟨?_, ⟨Dev.sctSt_searchShown, Dev.lock_searchShown, ?_, ?_, ?_⟩, Frame.ofDev (Frame.trans hPutParts (Frame.mono hRestart (by simp [enableParts])))⟩
    · rw [Frame.on hRestart _ (by simp [F.CHn_SCT_CTRL.enable, R.CHn_SCT_CTRL, R.CHn_SCT_STATUS]), hOn]
    · simp only [Dev.chS_searchShown, ChSt.searching, Dev.chS_judgeRestart, hNow, hGrid.slotFrom]
    · simp only [Dev.chS_searchShown, ChSt.searching, Dev.chS_judgeRestart]
    · simp only [Dev.chS_searchShown, ChSt.searching, Dev.chS_judgeRestart]
      rfl
  · have hSame : d.sctEnable n true = d.putB (F.CHn_SCT_CTRL.enable n) true := by
      rw [Dev.sctEnable, if_pos rfl, if_neg (by simp [hSt, h0])]
    rw [if_neg h0, hSame]
    exact ⟨hOn, ⟨hSt, rfl⟩, Frame.ofDev hPutParts⟩

theorem sctEnable_turnsOff (hDirect : s.dev.direct (R.CHn_SCT_CTRL n).off) :
    Completes (exec (.sctEnable n false) s) fun t =>
      t.dev.on (F.CHn_SCT_CTRL.enable n) = false ∧ t.dev.sctSt n = 0 ∧ (s.dev.sctSt n ≠ 0 → t.dev.get (F.CHn_SCT_STATUS.lock_count n) = 0) ∧
      (∀ c ∈ s.dev.chan n, s.dev.sctSt n ≠ 0 → s.dev.on (F.BLD_AXa_STATUS.slewing c.polygonAxis) = false →
        t.dev.bldS c.polygonAxis = BldAx.noPhase (s.dev.bldS c.polygonAxis)) ∧
      s.Frame ([Part.reg (R.CHn_SCT_CTRL n).off, Part.reg (R.CHn_SCT_STATUS n).off] ++ axisPart s.dev n) t := by
  refine completes_sctEnable hDirect ?_
  set d := s.dev
  set e := d.putB (F.CHn_SCT_CTRL.enable n) false
  have hPut : Dev.Frame [Part.reg (R.CHn_SCT_CTRL n).off] d e := Dev.frame_enable false
  have hOn : e.on (F.CHn_SCT_CTRL.enable n) = false := Dev.on_putB_same _ _ _ rfl
  have hSt : e.sctSt n = d.sctSt n := Frame.get hPut _ (by simp [F.CHn_SCT_STATUS.state, R.CHn_SCT_CTRL, R.CHn_SCT_STATUS])
  rw [Dev.sctEnable_false]
  by_cases h0 : d.sctSt n = 0
  · rw [if_pos (hSt.trans h0)]
    exact ⟨hOn, hSt.trans h0, fun h => absurd h0 h, fun _ _ h => absurd h0 h, Frame.ofDev (Frame.mono hPut (by simp))⟩
  · rw [if_neg (hSt.trans_ne h0)]
    have hEnd : Dev.Frame (axisPart d n) (e.offShown n) ((e.offShown n).phaseLoopEnd n) := by
      rw [← axisPart_congr (d := d) (e := e.offShown n) (by simp only [Dev.offShown, Dev.put_frd, Dev.putB_frd, e])]
      exact Dev.frame_phaseLoopEnd
    have hShown : Dev.Frame [Part.reg (R.CHn_SCT_CTRL n).off, Part.reg (R.CHn_SCT_STATUS n).off] d (e.offShown n) :=
      Frame.trans (Frame.mono hPut (by simp)) (Frame.mono Dev.frame_offShown (by simp))
    refine ⟨?_, (Frame.get hEnd _ (reg_not_mem_axisPart _)).trans Dev.sctSt_offShown, fun _ => (Frame.get hEnd _ (reg_not_mem_axisPart _)).trans Dev.lock_offShown,
      fun c hc _ hSlew => ?_, Frame.ofDev (Frame.trans (Frame.mono hShown (by simp +contextual)) (Frame.mono hEnd (by simp +contextual)))⟩
    · rw [Frame.on hEnd _ (reg_not_mem_axisPart _), Frame.on Dev.frame_offShown _ (by simp [F.CHn_SCT_CTRL.enable, R.CHn_SCT_CTRL, R.CHn_SCT_STATUS]), hOn]
    · have hNotSlewing : (e.offShown n).on (F.BLD_AXa_STATUS.slewing c.polygonAxis) = false := by
        rw [Frame.on hShown (F.BLD_AXa_STATUS.slewing c.polygonAxis) (by simp [F.BLD_AXa_STATUS.slewing, axisStatus_not_sct]), hSlew]
      exact Dev.bldS_phaseLoopEnd hc hNotSlewing

theorem bdEdge_ignored {t64 : Nat} {rising : Bool} (h : s.dev.domOn (4 + n) = false ∨ s.dev.bdSelected n rising = false) :
    Completes (exec (.bdEdge n t64 rising) s) fun t => t = s := by
  refine completes_onDev (·.bdEdge n t64 rising) rfl ?_
  rw [Dev.bdEdge, if_pos (by rcases h with h | h <;> simp [h])]

theorem bdWindowClose_ignored (h : s.dev.domOn (4 + n) = false ∨ s.dev.sctSt n = 0) : Completes (exec (.bdWindowClose n) s) fun t => t = s := by
  refine completes_onDev (·.bdClose n) rfl ?_
  rw [Dev.bdClose, if_pos (by rcases h with h | h <;> simp [Dev.sctRuns, h])]

theorem mapCopyDone_clears : Completes (exec (.mapCopyDone n) s) fun t =>
    t.dev.get (F.CHn_PLC_STATUS.map_copy n) = 0 ∧ s.Frame [Part.reg (R.CHn_PLC_STATUS n).off] t :=
  completes_onDev (·.mapCopyDone n) rfl ⟨Dev.get_put_same _ _ _ rfl, Frame.ofDev (Frame.put Frame.refl _ _ (by simp [F.CHn_PLC_STATUS.map_copy]))⟩

end
end Sys2Proof.Proofs

namespace Sys2Proof.Machine
section
variable {d e : Dev} {n : Nat}

/-! ### Grid transfers (R213) -/

/-- The grid of the active copies is the one that the registers show. -/
def Dev.gridActive (d : Dev) (n : Nat) : Dev := (d.activate (R.CHn_SCT_REF_TIME n)).activate (R.CHn_SCT_FACET_PERIOD n)

theorem Dev.frame_gridActive : Dev.Frame [Part.act (R.CHn_SCT_FACET_PERIOD n).off, Part.act (R.CHn_SCT_REF_TIME n).off] d (d.gridActive n) :=
  Frame.activate (Frame.activate Frame.refl _ (by simp)) _ (by simp)

theorem Dev.gridP_gridActive : (d.gridActive n).gridP n = d.get (F.CHn_SCT_FACET_PERIOD.period n) :=
  congrArg (bits · 47 0) (Dev.act_activate_same _ _)

theorem Dev.gridRef_gridActive : (d.gridActive n).gridRef n = d.rd (R.CHn_SCT_REF_TIME n) :=
  (Dev.act_activate_ne _ _ _ (by simp [R.CHn_SCT_REF_TIME, R.CHn_SCT_FACET_PERIOD])).trans (Dev.act_activate_same _ _)

theorem Dev.frame_gridRestart (t : Nat) : Dev.Frame [Part.ch n] d (d.gridRestart n t) :=
  Frame.modCh Dev.frame_judgeRestart n _ (by simp)

theorem Dev.chS_gridRestart (t : Nat) : (d.gridRestart n t).chS n = { d.chS n with
    judged := d.slotFrom n d.now, edge := none, prevEdge := none, slot := d.slotFrom n t, sent := d.slotFrom n t, marked := d.slotFrom n t } := by
  rw [Dev.gridRestart, Dev.chS_modCh_same, Dev.chS_judgeRestart]

theorem Dev.gridTransfer_eq : d.gridTransfer n =
    if ((d.gridActive n).gridRestart n (d.now + b2n (d.slotBegun n))).sctSt n = 0 then (d.gridActive n).gridRestart n (d.now + b2n (d.slotBegun n))
    else ((d.gridActive n).gridRestart n (d.now + b2n (d.slotBegun n))).sctSearch n := rfl

/-- What a grid transfer leaves: the grid of the registers, the slots counted on it, SEARCH unless scan timing is off. -/
structure Dev.Regridded (n : Nat) (d e : Dev) : Prop where
  frame : Dev.Frame [Part.ch n, Part.act (R.CHn_SCT_FACET_PERIOD n).off, Part.act (R.CHn_SCT_REF_TIME n).off, Part.reg (R.CHn_SCT_STATUS n).off] d e
  p : e.gridP n = e.get (F.CHn_SCT_FACET_PERIOD.period n)
  ref : e.gridRef n = e.rd (R.CHn_SCT_REF_TIME n)
  slot : (e.chS n).slot = e.slotFrom n (d.now + b2n (d.slotBegun n))
  judged : (e.chS n).judged = e.slotFrom n d.now
  edge : (e.chS n).edge = none
  searches : d.sctSt n ≠ 0 → e.sctSt n = 1 ∧ e.get (F.CHn_SCT_STATUS.lock_count n) = 0
  off : d.sctSt n = 0 → e.sctSt n = 0

theorem Dev.gridTransfer_spec (hAlone : d.alone) : Dev.Regridded n d (d.gridTransfer n) := by
  set t := d.now + b2n (d.slotBegun n) with ht
  set e := (d.gridActive n).gridRestart n t with he
  have hRestart : Dev.Frame [Part.ch n] (d.gridActive n) e := Dev.frame_gridRestart t
  have hFrame : Dev.Frame [Part.ch n, Part.act (R.CHn_SCT_FACET_PERIOD n).off, Part.act (R.CHn_SCT_REF_TIME n).off] d e :=
    Frame.trans (Frame.mono Dev.frame_gridActive (by simp +contextual)) (Frame.mono hRestart (by simp))
  have hGrid : Dev.SameGrid n (d.gridActive n) e := .ofFrame hRestart (by simp) (by simp)
  have hP : e.gridP n = e.get (F.CHn_SCT_FACET_PERIOD.period n) := by rw [hGrid.p, Dev.gridP_gridActive, Frame.get hFrame _ (by simp)]
  have hRef : e.gridRef n = e.rd (R.CHn_SCT_REF_TIME n) := by rw [hGrid.ref, Dev.gridRef_gridActive, Frame.rd hFrame _ (by simp)]
  have hCh : e.chS n = { (d.gridActive n).chS n with judged := e.slotFrom n d.now, edge := none, prevEdge := none, slot := e.slotFrom n t, sent := e.slotFrom n t, marked := e.slotFrom n t } := by
    have hNow : (d.gridActive n).now = d.now := Frame.rd Dev.frame_gridActive _ (by simp)
    rw [hGrid.slotFrom, hGrid.slotFrom, he, Dev.chS_gridRestart, hNow]
  have hSt : e.sctSt n = d.sctSt n := Frame.get hFrame _ (by simp)
  rw [Dev.gridTransfer_eq, ← ht, ← he]
  by_cases h0 : d.sctSt n = 0
  · rw [if_pos (hSt.trans h0)]
    exact ⟨Frame.mono hFrame (by simp +contextual), hP, hRef, by rw [hCh], by rw [hCh], by rw [hCh], fun h => absurd h0 h, fun _ => hSt.trans h0⟩
  · rw [if_neg (hSt.trans_ne h0), Dev.sctSearch_alone (Dev.alone_of_frame hAlone hFrame (by simp) (by simp))]
    have hShown : Dev.Frame [Part.ch n, Part.reg (R.CHn_SCT_STATUS n).off] e (e.searchShown n) := Dev.frame_searchShown
    have hSame : Dev.SameGrid n e (e.searchShown n) := .ofFrame hShown (by simp) (by simp)
    refine ⟨Frame.trans (Frame.mono hFrame (by simp +contextual)) (Frame.mono hShown (by simp)), ?_, ?_, ?_, ?_, ?_,
      fun _ => ⟨Dev.sctSt_searchShown, Dev.lock_searchShown⟩, fun h => absurd h h0⟩
    · rw [hSame.p, hP, Frame.get hShown _ (by simp [F.CHn_SCT_FACET_PERIOD.period, R.CHn_SCT_FACET_PERIOD, R.CHn_SCT_STATUS])]
    · rw [hSame.ref, hRef, Frame.rd hShown _ (by simp [R.CHn_SCT_REF_TIME, R.CHn_SCT_STATUS])]
    · rw [hSame.slotFrom, Dev.chS_searchShown, ChSt.searching, hCh]
    · rw [hSame.slotFrom, Dev.chS_searchShown, ChSt.searching, hCh]
    · rw [Dev.chS_searchShown, ChSt.searching, hCh]

end

section
variable {d e : Dev} {n : Nat}

/-- The register of the grid that a write names (R213). -/
def gridReg (n : Nat) (period : Bool) : Reg := if period then R.CHn_SCT_FACET_PERIOD n else R.CHn_SCT_REF_TIME n

/-- The value it then holds: the period has 48 bits. -/
def gridVal (period : Bool) (v : Nat) : Nat := if period then v % 2 ^ 48 else v

theorem Dev.rd_wr_gridReg (period : Bool) {v : Nat} (hv : v < 2 ^ 64) : (d.wr (gridReg n period) (gridVal period v)).rd (gridReg n period) = gridVal period v := by
  have hVal : gridVal period v < 2 ^ 64 := lt_of_le_of_lt (by unfold gridVal; split; exacts [Nat.mod_le _ _, le_rfl]) hv
  have hWidth : (gridReg n period).w = 64 := by cases period <;> rfl
  rw [Dev.rd_wr_same, hWidth, Nat.mod_mod, Nat.mod_eq_of_lt hVal]

theorem gridReg_range (period : Bool) : 0x20a010 + n * 0x20000 ≤ (gridReg n period).off ∧ (gridReg n period).off ≤ 0x20a018 + n * 0x20000 := by
  cases period <;> simp [gridReg, R.CHn_SCT_FACET_PERIOD, R.CHn_SCT_REF_TIME]

theorem Dev.gridWrite_atGap (h : (d.chS n).desc = none) (r : Reg) (v : Nat) : d.gridWrite n r v = (d.wr r v).gridTransfer n := by
  have hGap : d.atGap n = true := by simp [Dev.atGap, h]
  have hGap' : (d.wr r v).atGap n = true := hGap
  rw [Dev.gridWrite, hGap, Dev.when, if_neg (by decide), Dev.rwgWrite, if_pos hGap']

theorem Dev.gridWrite_waits (h : (d.chS n).desc ≠ none) (r : Reg) (v : Nat) : d.gridWrite n r v =
    ((d.modCh n fun c => { c with gridPend := true }).wr r v).modCh n fun c => { c with gapPend := true } := by
  have hGap : d.atGap n = false := by cases hDesc : (d.chS n).desc <;> simp_all [Dev.atGap]
  have hGap' : ((d.modCh n fun c => { c with gridPend := true }).wr r v).atGap n = false := by
    rw [← hGap, Dev.atGap, Dev.chS_congr (Dev.wr_ch _ _ _), Dev.chS_modCh_same]
    rfl
  rw [Dev.gridWrite, hGap, Dev.when, if_pos (by decide), Dev.rwgWrite, if_neg (by simp [hGap'])]

theorem Dev.rwgWrite_waits (h : (d.chS n).desc ≠ none) (r : Reg) (v : Nat) (u : Dev → Dev) :
    d.rwgWrite n r v u = (d.wr r v).modCh n fun c => { c with gapPend := true } := by
  have hGap : (d.wr r v).atGap n = false := by
    rw [Dev.atGap, Dev.chS_congr (Dev.wr_ch _ _ _)]
    cases hDesc : (d.chS n).desc <;> simp_all
  rw [Dev.rwgWrite, if_neg (by simp [hGap])]

theorem Dev.slotBegun_wr (r : Reg) (v : Nat) (h : r.off ≠ R.EVT_TIME.off) : (d.wr r v).slotBegun n = d.slotBegun n := by
  have hNow : (d.wr r v).now = d.now := Dev.rd_wr_ne _ _ _ _ h.symm
  have hGrid : Dev.SameGrid n d (d.wr r v) := .ofFrame (Frame.wr Frame.refl (ps := [Part.reg r.off]) r v (by simp)) (by simp) (by simp)
  rw [Dev.slotBegun, Dev.slotBegun, hNow, hGrid.p, hGrid.slotT, Dev.chS_congr (Dev.wr_ch _ _ _)]

theorem Dev.rd_wr_pxsFreq (d : Dev) (m : Word32) : (d.wr (R.CHn_PXS_FREQ n) m.toNat).rd (R.CHn_PXS_FREQ n) = m.toNat := by
  have hm := m.isLt
  rw [Dev.rd_wr_same, R.CHn_PXS_FREQ, Nat.mod_eq_of_lt hm, Nat.mod_eq_of_lt (by omega)]

theorem Dev.idleStart_of_frame {ps : List Part} (h : Dev.Frame ps d e) (hStatus : Part.reg R.PWR_STATUS.off ∉ ps)
    (hHost : Part.reg R.SYS_HOST_STATE.off ∉ ps) (hCfg : Part.reg R.PWR_PFAIL_CFG.off ∉ ps) : e.idleStart = d.idleStart := by
  rw [Dev.idleStart, Dev.idleStart, Dev.warned, Dev.warned, Frame.on h F.PWR_STATUS.pfail_active hStatus, Frame.on h F.PWR_STATUS.shutdown hStatus,
    Frame.get h F.SYS_HOST_STATE.in_flight hHost, Frame.on h F.PWR_PFAIL_CFG.start_on_idle hCfg]

end
end Sys2Proof.Machine

namespace Sys2Proof.Proofs
section
variable {s : State} {n : Fin 8} {P : State → Prop} {period : Bool} {v : Word64}

theorem completes_gridWrite (hDirect : s.dev.direct (R.CHn_SCT_REF_TIME n).off)
    (h : P { s with dev := s.dev.gridWrite n (gridReg n period) (gridVal period v.toNat) }) : Completes (exec (.gridWrite n period v) s) P := by
  refine completes_onDev (fun d => d.agree (gridReg n period) (gridVal period v.toNat) (·.gridWrite n (gridReg n period) (gridVal period v.toNat))) rfl ?_
  have hRange := gridReg_range (n := n.val) period
  have hReg : s.dev.direct (gridReg n period).off :=
    direct_sameChannel n.isLt hDirect (by simp only [R.CHn_SCT_REF_TIME]; omega) (by omega)
  rw [Dev.agree_direct _ _ _ _ hReg]
  exact h

theorem gridWrite_transfers (hDirect : s.dev.direct (R.CHn_SCT_REF_TIME n).off) (hGap : (s.dev.chS n).desc = none) :
    Completes (exec (.gridWrite n period v) s) fun t =>
      t.dev.rd (gridReg n period) = gridVal period v.toNat ∧
      t.dev.gridP n = t.dev.get (F.CHn_SCT_FACET_PERIOD.period n) ∧ t.dev.gridRef n = t.dev.rd (R.CHn_SCT_REF_TIME n) ∧
      (t.dev.chS n).slot = t.dev.slotFrom n (s.dev.now + b2n (s.dev.slotBegun n)) ∧ (t.dev.chS n).judged = t.dev.slotFrom n s.dev.now ∧ (t.dev.chS n).edge = none ∧
      (s.dev.sctSt n ≠ 0 → t.dev.sctSt n = 1 ∧ t.dev.get (F.CHn_SCT_STATUS.lock_count n) = 0) ∧ (s.dev.sctSt n = 0 → t.dev.sctSt n = 0) ∧
      s.Frame [Part.ch n, Part.reg (gridReg n period).off, Part.act (R.CHn_SCT_FACET_PERIOD n).off, Part.act (R.CHn_SCT_REF_TIME n).off, Part.reg (R.CHn_SCT_STATUS n).off] t := by
  refine completes_gridWrite hDirect ?_
  obtain ⟨-, -, -, hAlone⟩ := hDirect
  have hRange := gridReg_range (n := n.val) period
  rw [Dev.gridWrite_atGap hGap]
  have hWr : Dev.Frame [Part.reg (gridReg n period).off] s.dev (s.dev.wr (gridReg n period) (gridVal period v.toNat)) := Frame.wr Frame.refl _ _ (by simp)
  have hTime : (gridReg n period).off ≠ R.EVT_TIME.off := by simp only [R.EVT_TIME]; omega
  have hTwn : R.TWN_STATUS.off ≠ (gridReg n period).off := by simp only [R.TWN_STATUS]; omega
  have hNow : (s.dev.wr (gridReg n period) (gridVal period v.toNat)).now = s.dev.now := Dev.rd_wr_ne _ _ _ _ hTime.symm
  have hStatus : (R.CHn_SCT_STATUS n).off ≠ (gridReg n period).off := by simp only [R.CHn_SCT_STATUS]; omega
  have hSt : (s.dev.wr (gridReg n period) (gridVal period v.toNat)).sctSt n = s.dev.sctSt n := Dev.get_wr_ne _ _ _ _ hStatus
  have h := Dev.gridTransfer_spec (n := n) (Dev.alone_of_frame hAlone hWr (by simp) (by simp [hTwn]))
  have hSlot := h.slot
  rw [hNow, Dev.slotBegun_wr _ _ hTime] at hSlot
  refine ⟨?_, h.p, h.ref, hSlot, hNow ▸ h.judged, h.edge, hSt ▸ h.searches, hSt ▸ h.off,
    Frame.ofDev (Frame.trans (Frame.mono hWr (by simp)) (Frame.mono h.frame (by simp +contextual)))⟩
  rw [Frame.rd h.frame _ (by simp [hStatus.symm]), Dev.rd_wr_gridReg _ v.isLt]

theorem gridWrite_waits (hDirect : s.dev.direct (R.CHn_SCT_REF_TIME n).off) (hScan : (s.dev.chS n).desc ≠ none) :
    Completes (exec (.gridWrite n period v) s) fun t =>
      t.dev.rd (gridReg n period) = gridVal period v.toNat ∧ (t.dev.chS n).gapPend = true ∧ (t.dev.chS n).gridPend = true ∧
      t.dev.gridRef n = s.dev.gridRef n ∧ t.dev.gridP n = s.dev.gridP n ∧ s.Frame [Part.ch n, Part.reg (gridReg n period).off] t := by
  refine completes_gridWrite hDirect ?_
  rw [Dev.gridWrite_waits hScan]
  refine ⟨(Dev.rd_wr_gridReg (n := n) period v.isLt :), ?_, ?_, rfl, rfl, Frame.ofDev (Frame.modCh (Frame.wr (Frame.modCh Frame.refl _ _ (by simp)) _ _ (by simp)) _ _ (by simp))⟩
  · rw [Dev.chS_modCh_same]
  · rw [Dev.chS_modCh_same, Dev.chS_congr (Dev.wr_ch _ _ _), Dev.chS_modCh_same]

theorem completes_pxsFreqWrite {m : Word32} (hDirect : s.dev.direct (R.CHn_PXS_FREQ n).off) {e : Dev}
    (he : s.dev.rwgWrite n (R.CHn_PXS_FREQ n) m.toNat (·.freqTransfer n) = e) (hIdle : e.idleStart = false) (h : P { s with dev := e }) :
    Completes (exec (.pxsFreqWrite n m) s) P := by
  refine completes_next { s with dev := e } ?_ h
  show Host.Outcome.next (State.idleCheck { s with dev := s.dev.agree (R.CHn_PXS_FREQ n) m.toNat (·.rwgWrite n (R.CHn_PXS_FREQ n) m.toNat (·.freqTransfer n)) }) = _
  rw [Dev.agree_direct _ _ _ _ hDirect, he, State.idleCheck, if_neg (by simp [hIdle])]

theorem pxsFreqWrite_waits {m : Word32} (hDirect : s.dev.direct (R.CHn_PXS_FREQ n).off) (hScan : (s.dev.chS n).desc ≠ none) (hIdle : s.dev.idleStart = false) :
    Completes (exec (.pxsFreqWrite n m) s) fun t =>
      t.dev.rd (R.CHn_PXS_FREQ n) = m.toNat ∧ (t.dev.chS n).gapPend = true ∧ t.dev.act (R.CHn_PXS_FREQ n) = s.dev.act (R.CHn_PXS_FREQ n) ∧
      s.Frame [Part.ch n, Part.reg (R.CHn_PXS_FREQ n).off] t := by
  have hFrame : Dev.Frame [Part.ch n, Part.reg (R.CHn_PXS_FREQ n).off] s.dev ((s.dev.wr (R.CHn_PXS_FREQ n) m.toNat).modCh n fun c => { c with gapPend := true }) :=
    Frame.modCh (Frame.wr Frame.refl _ _ (by simp)) _ _ (by simp)
  refine completes_pxsFreqWrite hDirect (Dev.rwgWrite_waits hScan _ _ _) ?_ ⟨?_, ?_, rfl, Frame.ofDev hFrame⟩
  · rw [Dev.idleStart_of_frame hFrame, hIdle]
    all_goals simp [R.PWR_STATUS, R.SYS_HOST_STATE, R.PWR_PFAIL_CFG, R.CHn_PXS_FREQ]; omega
  · exact Dev.rd_wr_pxsFreq (n := n) s.dev m
  · rw [Dev.chS_modCh_same]

end
end Sys2Proof.Proofs

end

-- ==== Sitting: the judgement of a slot ====
section
/-! SUPPORT. The judgement of a slot in its stages, each with what it shows and what it leaves (R211, R215). -/

open Sys2Proof Sys2Proof.Machine Sys2Proof.Claims
set_option maxRecDepth 20000

namespace Sys2Proof.Machine

/-! ### What the operations of scan timing can change -/

namespace Frame
variable {ps : List Part} {d e : Dev}

theorem putInput (h : Dev.Frame ps d e) (code index ts value : Nat) (hOut : Part.out ∈ ps) (hTwn : Part.twn ∈ ps) :
    Dev.Frame ps d (e.putInput code index ts value) := by
  unfold Dev.putInput
  split_ifs
  · rw [Dev.onLanes]
    exact each _ _ (fun _ _ _ => emit refl _ hOut) (setTwn h _ hTwn)
  · exact h

theorem sendInput (h : Dev.Frame ps d e) (code index ts value : Nat) (hOut : Part.out ∈ ps) (hTwn : Part.twn ∈ ps) :
    Dev.Frame ps d (e.sendInput code index ts value) := when h (putInput h _ _ _ _ hOut hTwn)

theorem slotQueue (h : Dev.Frame ps d e) (u : TwIn) (hTwn : Part.twn ∈ ps) : Dev.Frame ps d (e.slotQueue u) :=
  ite h (setTwn h _ hTwn)

theorem keepInput (h : Dev.Frame ps d e) (u : TwIn) (hTwn : Part.twn ∈ ps) : Dev.Frame ps d (e.keepInput u) := setTwn h _ hTwn

theorem phaseLoop (h : Dev.Frame ps d e) (a n : Nat) (x : Int) (ha : Part.bld a ∈ ps) : Dev.Frame ps d (e.phaseLoop a n x) := by
  unfold Dev.phaseLoop
  exact ite (ite h (putBld h a _ ha)) (ite (putBld h a _ ha) (putBld h a _ ha))

theorem lgEvent (h : Dev.Frame ps d e) (k : Nat) (hr : Part.reg R.LG_STATUS.off ∈ ps) : Dev.Frame ps d (e.lgEvent k) := ite (wr h _ _ hr) h

theorem lgStation (h : Dev.Frame ps d e) (s k : Nat) (hs : Part.reg (R.LG_Ss_STAT s).off ∈ ps) (hr : Part.reg R.LG_STATUS.off ∈ ps) :
    Dev.Frame ps d (e.lgStation s k) := ite (lgEvent (wr h _ _ hs) 0 hr) h

theorem aligner (h : Dev.Frame ps d e) (n k : Nat) (x : Option Int) (hr : Part.reg (R.CHn_PXS_ALIGN n).off ∈ ps) (hc : Part.ch n ∈ ps) :
    Dev.Frame ps d (e.aligner n k x) := modCh (put h _ _ hr) n _ hc

theorem sctFlag (h : Dev.Frame ps d e) (n k : Nat) (hr : Part.reg (R.CHn_SCT_IRQ_STATUS n).off ∈ ps) (hi : ∀ p ∈ irqParts, p ∈ ps) :
    Dev.Frame ps d (e.sctFlag n k) := flag h _ _ _ _ hr hi

theorem sctEnter (h : Dev.Frame ps d e) (n : Nat) {st : Nat} (hst : st ≠ 0) (rot : Nat) (hr : Part.reg (R.CHn_SCT_STATUS n).off ∈ ps) (hOut : Part.out ∈ ps)
    (hTwn : Part.twn ∈ ps) : Dev.Frame ps d (e.sctEnter n st rot) := by
  rw [Dev.sctEnter, if_neg hst]
  exact sendInput (put h _ _ hr) _ _ _ _ hOut hTwn

theorem sctSearch (h : Dev.Frame ps d e) (n rot : Nat) (hc : Part.ch n ∈ ps) (hr : Part.reg (R.CHn_SCT_STATUS n).off ∈ ps) (hOut : Part.out ∈ ps)
    (hTwn : Part.twn ∈ ps) : Dev.Frame ps d (e.sctSearch n rot) := by
  rw [Dev.sctSearch_eq]
  exact sendInput (trans h (mono Dev.frame_searchShown (by simp [hc, hr]))) _ _ _ _ hOut hTwn

end Frame

/-! ### The judgement of a slot, in its stages (R211) -/

/-- The phase error of an edge against its slot. -/
def Dev.slotErr (d : Dev) (n k t : Nat) : Int := (t : Int) - (d.slotT16 n k / 1024 : Nat)

/-- A slot with no edge, or an edge beyond the tolerance, starts the lock count anew. -/
def Dev.lockNext (d : Dev) (n tol : Nat) (e : Option Int) : Nat :=
  if (match e with | some e => decide (e.natAbs ≤ tol) | none => false) = true then min 64 (d.get (F.CHn_SCT_STATUS.lock_count n) + 1) else 0

/-- Edges in a row beyond the unlock tolerance. -/
def Dev.outNext (d : Dev) (n tol : Nat) (e : Option Int) : Nat :=
  match e with | some e => if 4 * tol < e.natAbs then (d.chS n).outN + 1 else 0 | none => (d.chS n).outN

/-- Slots in a row without an edge. -/
def Dev.missNext (d : Dev) (n : Nat) (e : Option Int) : Nat := if e.isSome then 0 else (d.chS n).missN + 1

/-- The edge of the slot shown. -/
def Dev.edgeShown (d : Dev) (n k : Nat) (t : Option Nat) : Dev :=
  match t with
  | some t => (d.put (F.CHn_SCT_PHASE_ERR.e n) (enc 32 (d.slotErr n k t))).wr (R.CHn_SCT_LAST_BD n) t
  | none => d

/-- The slot counted: into the lock count, and into the edges and misses in a row. -/
def Dev.slotCounted (d : Dev) (n lock out miss : Nat) : Dev :=
  (d.put (F.CHn_SCT_STATUS.lock_count n) lock).modCh n fun c => { c with outN := out, missN := miss }

/-- What the slot does in SEARCH: with 64 slots in tolerance the identification or IN_PHASE. -/
def Dev.searchSlot (d : Dev) (n lock : Nat) : Dev :=
  if lock < 64 then d
  else if d.on (F.CHn_SCT_CTRL.facet_mode n) then (d.modCh n ChSt.searching).sctEnter n 2
  else (d.put (F.CHn_SCT_STATUS.facet_rot n) 0).sctInPhase n

/-- What an edge does in IN_PHASE. -/
def Dev.phaseEdge (d : Dev) (n k : Nat) (e : Int) (out : Nat) : Dev :=
  if 4 ≤ out then (d.aligner n k (some e)).phaseLost n k else d.aligner n k (some e)

/-- The record and the flag of a slot missed in IN_PHASE. -/
def Dev.missNoted (d : Dev) (n k miss : Nat) : Dev := (d.sctFlag n 2).report n (0x10 <<< 24 + k % 2 ^ 24) (d.chTag n <<< 16 + min miss 0xFFFF)

/-- What a slot without an edge does in IN_PHASE. -/
def Dev.phaseMiss (d : Dev) (n k miss : Nat) : Dev :=
  if d.missLimit n ≤ miss then d.phaseLost n k else d.missNoted n k miss

/-- The slot acts by the state of scan timing. -/
def Dev.slotActs (d : Dev) (n k : Nat) (t : Option Nat) (e : Option Int) (lock out miss : Nat) : Dev :=
  let d := d.when (d.sctSt n = 1 || d.sctSt n = 2) (·.aligner n k none)
  match d.sctSt n with
  | 1 => d.searchSlot n lock
  | 2 => if 4 ≤ out || d.missLimit n ≤ miss then d.sctSearch n else d.identSlot n k t
  | 3 => match e with
    | some e => d.phaseEdge n k e out
    | none => ((d.count (F.CHn_SCT_COUNTS.missed n)).aligner n k none).phaseMiss n k miss
  | _ => d

/-- The polygon's phase loop takes the error of the edge, in a pair both members' (R277). -/
def Dev.polygonTakes (d : Dev) (n k : Nat) (e : Option Int) : Dev :=
  match e, d.chan n with
  | some e, some c =>
    if d.twin && 2 ≤ d.get F.TWN_STATUS.state then
      if d.heldAt (d.slotT n k) then
        (d.putInput 1 n (d.slotT n k) (enc 16 (clampI (-32767) 32767 e))).slotQueue ⟨1, n, d.slotT n k, enc 16 (clampI (-32767) 32767 e)⟩
      else d.keepInput ⟨1, n, d.slotT n k, enc 16 (clampI (-32767) 32767 e)⟩
    else d.phaseLoop c.polygonAxis n (d.wrapE n e)
  | _, _ => d

/-- The slot is judged. -/
def Dev.slotDone (d : Dev) (n k : Nat) (t : Option Nat) : Dev :=
  d.modCh n fun c => { c with judged := k + 1, edge := none, prevEdge := t.map fun t => (k, t) }

/-- A slot that counts and acts, before the polygon takes its error. -/
def Dev.slotOutcome (d : Dev) (n k : Nat) (t : Option Nat) (e : Option Int) : Dev :=
  let x := d.edgeShown n k t
  let lock := x.lockNext n (d.lockTol n) e
  let out := x.outNext n (d.lockTol n) e
  (x.slotCounted n lock out (x.missNext n e)).slotActs n k t e lock out (x.missNext n e)

theorem Dev.judgeSlot_eq (d : Dev) (n k : Nat) (t : Option Nat) :
    d.judgeSlot n k t = ((d.slotOutcome n k t (t.map (d.slotErr n k))).polygonTakes n k (t.map (d.slotErr n k))).slotDone n k t := by
  cases t <;> rfl

/-! ### A record, seen from before and from after (R364) -/

theorem strobed_after {ps : List Part} {d e f : Dev} {src d0 d1 : Nat} (h : strobed d e src d0 d1) (hFrame : Dev.Frame ps e f) (hStrobes : Part.strobes ∉ ps)
    (hReg : Part.reg (R.FLT_SRCi_STATE src).off ∉ ps) (hTime : Part.reg R.EVT_TIME.off ∉ ps) : strobed d f src d0 d1 := by
  have hNow : f.now = e.now := Frame.rd hFrame _ hTime
  have hMerged : f.get (F.FLT_SRCi_STATE.merged src) = e.get (F.FLT_SRCi_STATE.merged src) := Frame.get hFrame _ hReg
  have hSame : f.flt.strobes = e.flt.strobes := hFrame .strobes hStrobes
  unfold strobed at h ⊢
  rwa [hNow, hMerged, hSame]

theorem strobed_before {ps : List Part} {c d e : Dev} {src d0 d1 : Nat} (hFrame : Dev.Frame ps c d) (h : strobed d e src d0 d1) (hStrobes : Part.strobes ∉ ps)
    (hReg : Part.reg (R.FLT_SRCi_STATE src).off ∉ ps) : strobed c e src d0 d1 := by
  have hMerged : d.get (F.FLT_SRCi_STATE.merged src) = c.get (F.FLT_SRCi_STATE.merged src) := Frame.get hFrame _ hReg
  have hSame : d.flt.strobes = c.flt.strobes := hFrame .strobes hStrobes
  unfold strobed at h ⊢
  rwa [hMerged, hSame] at h

/-- A register that is one field reads what the field was given. -/
theorem Dev.rd_put_whole (d : Dev) (f : Fld) (v : Nat) (hLo : f.lo = 0) (hHi : f.hi + 1 = f.reg.w) (hw : f.reg.w ≤ 64) :
    (d.put f v).rd f.reg = v % 2 ^ f.reg.w := by
  have hWhole : (d.put f v).rd f.reg = bits (putBits (d.rd f.reg) f.hi f.lo v) f.hi f.lo := by
    rw [Dev.put, Dev.rd_wr_same, Nat.mod_eq_of_lt ((Nat.mod_lt _ (by positivity)).trans_le (Nat.pow_le_pow_right (by omega) hw)), bits, hLo, hHi]
    rfl
  rw [hWhole, bits_putBits_same _ _ _ _ (by omega), hLo, hHi]
  rfl

section
variable {d : Dev} {n k : Nat}

/-! ### The edge shown and the slot counted -/

/-- The registers that show an edge. -/
def edgeParts (n : Nat) : List Part := [Part.reg (R.CHn_SCT_PHASE_ERR n).off, Part.reg (R.CHn_SCT_LAST_BD n).off]

theorem Dev.frame_edgeShown (t : Option Nat) : Dev.Frame (edgeParts n) d (d.edgeShown n k t) := by
  cases t with
  | none => exact Frame.refl
  | some t => exact Frame.wr (Frame.put Frame.refl _ _ (by simp [edgeParts, F.CHn_SCT_PHASE_ERR.e])) _ _ (by simp [edgeParts])

theorem Dev.err_edgeShown (t : Nat) : (d.edgeShown n k (some t)).get (F.CHn_SCT_PHASE_ERR.e n) = enc 32 (d.slotErr n k t) := by
  rw [Dev.edgeShown, Dev.get_wr_ne _ _ _ _ (by simp [F.CHn_SCT_PHASE_ERR.e, R.CHn_SCT_PHASE_ERR, R.CHn_SCT_LAST_BD]), Dev.get_put_same _ _ _ rfl]
  exact enc_mod 32 _

theorem Dev.last_edgeShown {t : Nat} (ht : t < 2 ^ 64) : (d.edgeShown n k (some t)).rd (R.CHn_SCT_LAST_BD n) = t := by
  rw [Dev.edgeShown, Dev.rd_wr_same, R.CHn_SCT_LAST_BD, Nat.mod_mod, Nat.mod_eq_of_lt ht]

theorem Dev.frame_slotCounted (lock out miss : Nat) : Dev.Frame [Part.ch n, Part.reg (R.CHn_SCT_STATUS n).off] d (d.slotCounted n lock out miss) :=
  Frame.modCh (Frame.put Frame.refl _ _ (by simp [F.CHn_SCT_STATUS.lock_count])) n _ (by simp)

theorem Dev.chS_slotCounted (lock out miss : Nat) : (d.slotCounted n lock out miss).chS n = { d.chS n with outN := out, missN := miss } := by
  rw [Dev.slotCounted, Dev.chS_modCh_same, Dev.chS_put]

theorem Dev.sctSt_slotCounted (lock out miss : Nat) : (d.slotCounted n lock out miss).sctSt n = d.sctSt n := Dev.sctSt_put_lock lock

theorem Dev.lock_slotCounted {lock : Nat} (h : lock ≤ 64) (out miss : Nat) : (d.slotCounted n lock out miss).get (F.CHn_SCT_STATUS.lock_count n) = lock :=
  Dev.lock_put_lock (by omega)

theorem Dev.lockNext_le (tol : Nat) (e : Option Int) : d.lockNext n tol e ≤ 64 := by
  rw [Dev.lockNext.eq_def]
  split_ifs <;> omega

/-- The device with the edge shown and the slot counted. -/
def Dev.slotNoted (d : Dev) (n k : Nat) (t : Option Nat) (e : Option Int) : Dev :=
  (d.edgeShown n k t).slotCounted n (d.lockNext n (d.lockTol n) e) (d.outNext n (d.lockTol n) e) (d.missNext n e)

theorem Dev.chS_edgeShown (t : Option Nat) : (d.edgeShown n k t).chS n = d.chS n := by
  cases t with
  | none => rfl
  | some t => rw [Dev.edgeShown, Dev.chS_congr (Dev.wr_ch _ _ _), Dev.chS_put]

theorem Dev.slotOutcome_eq (t : Option Nat) (e : Option Int) : d.slotOutcome n k t e =
    (d.slotNoted n k t e).slotActs n k t e (d.lockNext n (d.lockTol n) e) (d.outNext n (d.lockTol n) e) (d.missNext n e) := by
  have hLock : (d.edgeShown n k t).lockNext n (d.lockTol n) e = d.lockNext n (d.lockTol n) e := by
    rw [Dev.lockNext.eq_def, Dev.lockNext.eq_def, Frame.get (Dev.frame_edgeShown t) (F.CHn_SCT_STATUS.lock_count n)
      (by simp [edgeParts, F.CHn_SCT_STATUS.lock_count, R.CHn_SCT_STATUS, R.CHn_SCT_PHASE_ERR, R.CHn_SCT_LAST_BD])]
  have hOut : (d.edgeShown n k t).outNext n (d.lockTol n) e = d.outNext n (d.lockTol n) e := by rw [Dev.outNext.eq_def, Dev.outNext.eq_def, Dev.chS_edgeShown]
  have hMiss : (d.edgeShown n k t).missNext n e = d.missNext n e := by rw [Dev.missNext, Dev.missNext, Dev.chS_edgeShown]
  rw [Dev.slotOutcome, hLock, hOut, hMiss, Dev.slotNoted]

theorem Dev.frame_slotNoted (t : Option Nat) (e : Option Int) :
    Dev.Frame ([Part.ch n, Part.reg (R.CHn_SCT_STATUS n).off] ++ edgeParts n) d (d.slotNoted n k t e) :=
  Frame.trans (Frame.mono (Dev.frame_edgeShown t) (by simp +contextual)) (Frame.mono (Dev.frame_slotCounted _ _ _) (by simp))

theorem Dev.frame_slotNoted_none (e : Option Int) : Dev.Frame [Part.ch n, Part.reg (R.CHn_SCT_STATUS n).off] d (d.slotNoted n k none e) :=
  Dev.frame_slotCounted _ _ _

theorem Dev.chS_slotNoted (t : Option Nat) (e : Option Int) :
    (d.slotNoted n k t e).chS n = { d.chS n with outN := d.outNext n (d.lockTol n) e, missN := d.missNext n e } := by
  rw [Dev.slotNoted, Dev.chS_slotCounted, Dev.chS_edgeShown]

theorem Dev.sctSt_slotNoted (t : Option Nat) (e : Option Int) : (d.slotNoted n k t e).sctSt n = d.sctSt n :=
  (Dev.sctSt_slotCounted _ _ _).trans (Frame.get (Dev.frame_edgeShown t) _
    (by simp [edgeParts, F.CHn_SCT_STATUS.state, R.CHn_SCT_STATUS, R.CHn_SCT_PHASE_ERR, R.CHn_SCT_LAST_BD]))

theorem Dev.lock_slotNoted (t : Option Nat) (e : Option Int) :
    (d.slotNoted n k t e).get (F.CHn_SCT_STATUS.lock_count n) = d.lockNext n (d.lockTol n) e := Dev.lock_slotCounted (Dev.lockNext_le _ _) _ _

theorem Dev.err_slotNoted (t : Nat) (e : Option Int) :
    (d.slotNoted n k (some t) e).get (F.CHn_SCT_PHASE_ERR.e n) = enc 32 (d.slotErr n k t) :=
  (Frame.get (Dev.frame_slotCounted _ _ _) _ (by simp [F.CHn_SCT_PHASE_ERR.e, R.CHn_SCT_PHASE_ERR, R.CHn_SCT_STATUS])).trans (Dev.err_edgeShown t)

theorem Dev.last_slotNoted {t : Nat} (ht : t < 2 ^ 64) (e : Option Int) : (d.slotNoted n k (some t) e).rd (R.CHn_SCT_LAST_BD n) = t :=
  (Frame.rd (Dev.frame_slotCounted _ _ _) _ (by simp [R.CHn_SCT_LAST_BD, R.CHn_SCT_STATUS])).trans (Dev.last_edgeShown ht)

/-! ### The aligner (R215) -/

/-- φ of a slot from its error and the φ that its facet holds. -/
def phiNext (a : Nat) (held : Option Int) (e : Option Int) : Int :=
  match e, held with
  | some e, none => e
  | some e, some p => p + (e - p) / 2 ^ a
  | none, some p => p
  | none, none => 0

/-- What the facet holds after it. -/
def phiKept (a : Nat) (held : Option Int) (e : Option Int) : Option Int :=
  match e, held with
  | some e, none => some e
  | some e, some p => some (p + (e - p) / 2 ^ a)
  | none, some p => some p
  | none, none => none

/-- The shift of the aligner of a channel. -/
def Dev.alignShift (d : Dev) (n : Nat) : Nat := min 4 (d.get (F.CHn_PXS_CTRL.align_shift n))

/-- What the facet of a slot holds. -/
def Dev.heldPhi (d : Dev) (n k : Nat) : Option Int := Store.get none (d.chS n).phi (d.facetOf n k)

theorem Dev.aligner_eq (e : Option Int) : d.aligner n k e =
    (d.put (F.CHn_PXS_ALIGN.phi n) (enc 32 (phiNext (d.alignShift n) (d.heldPhi n k) e))).modCh n
      fun c => { c with phi := Store.set none c.phi (d.facetOf n k) (phiKept (d.alignShift n) (d.heldPhi n k) e) } := by
  unfold Dev.aligner Dev.heldPhi
  dsimp only
  generalize Store.get none (d.chS n).phi (d.facetOf n k) = held
  cases e <;> cases held <;> rfl

theorem Dev.frame_aligner (e : Option Int) : Dev.Frame [Part.ch n, Part.reg (R.CHn_PXS_ALIGN n).off] d (d.aligner n k e) :=
  Frame.aligner Frame.refl n k e (by simp) (by simp)

theorem Dev.rd_aligner (e : Option Int) : (d.aligner n k e).rd (R.CHn_PXS_ALIGN n) = enc 32 (phiNext (d.alignShift n) (d.heldPhi n k) e) := by
  rw [Dev.aligner_eq, Frame.rd (Frame.modCh (ps := [Part.ch n]) Frame.refl n _ (by simp)) _ (by simp)]
  exact (Dev.rd_put_whole d (F.CHn_PXS_ALIGN.phi n) _ rfl rfl (Nat.le_of_ble_eq_true rfl)).trans (enc_mod 32 _)

/-- The aligner changes nothing of a channel but what its facets hold. -/
theorem Dev.chS_aligner (e : Option Int) : ∃ l, (d.aligner n k e).chS n = { d.chS n with phi := l } :=
  ⟨_, by rw [Dev.aligner_eq, Dev.chS_modCh_same, Dev.chS_put]⟩

theorem Dev.sctSt_aligner (e : Option Int) : (d.aligner n k e).sctSt n = d.sctSt n :=
  Frame.get (Dev.frame_aligner e) _ (by simp [F.CHn_SCT_STATUS.state, R.CHn_SCT_STATUS, R.CHn_PXS_ALIGN])

theorem Dev.lock_aligner (e : Option Int) : (d.aligner n k e).get (F.CHn_SCT_STATUS.lock_count n) = d.get (F.CHn_SCT_STATUS.lock_count n) :=
  Frame.get (Dev.frame_aligner e) _ (by simp [F.CHn_SCT_STATUS.lock_count, R.CHn_SCT_STATUS, R.CHn_PXS_ALIGN])

/-! ### The slot acts by the state -/

variable {t : Option Nat} {e : Option Int} {lock out miss : Nat}

theorem Dev.slotActs_search (h : d.sctSt n = 1) : d.slotActs n k t e lock out miss = (d.aligner n k none).searchSlot n lock := by
  have hSt : (d.aligner n k none).sctSt n = 1 := (Dev.sctSt_aligner none).trans h
  rw [Dev.slotActs.eq_def, Dev.when, if_pos (by simp [h])]
  simp only [hSt]

theorem Dev.slotActs_phaseEdge (h : d.sctSt n = 3) (x : Int) : d.slotActs n k t (some x) lock out miss = d.phaseEdge n k x out := by
  rw [Dev.slotActs.eq_def, Dev.when, if_neg (by simp [h])]
  simp only [h]

theorem Dev.slotActs_phaseMiss (h : d.sctSt n = 3) : d.slotActs n k t none lock out miss =
    ((d.count (F.CHn_SCT_COUNTS.missed n)).aligner n k none).phaseMiss n k miss := by
  rw [Dev.slotActs.eq_def, Dev.when, if_neg (by simp [h])]
  simp only [h]

end

section
variable {d : Dev} {n k : Nat}

/-! ### IN_PHASE entered and lost -/

/-- What the end of IN_PHASE, with its record before and the search after it, can change. -/
def searchParts (n : Nat) : List Part := [Part.ch n, Part.reg (R.CHn_SCT_STATUS n).off, Part.out, Part.twn]

theorem Dev.frame_sctSearch (rot : Nat) : Dev.Frame (searchParts n) d (d.sctSearch n rot) :=
  Frame.sctSearch Frame.refl n rot (by simp [searchParts]) (by simp [searchParts]) (by simp [searchParts]) (by simp [searchParts])

theorem Dev.frame_sendInput (code index ts value : Nat) : Dev.Frame [Part.out, Part.twn] d (d.sendInput code index ts value) :=
  Frame.sendInput Frame.refl _ _ _ _ (by simp) (by simp)

theorem Dev.sctSt_sctSearch (rot : Nat) : (d.sctSearch n rot).sctSt n = 1 := by
  rw [Dev.sctSearch_eq]
  exact (Frame.get (Dev.frame_sendInput _ _ _ _) _ (by simp)).trans Dev.sctSt_searchShown

theorem Dev.lock_sctSearch (rot : Nat) : (d.sctSearch n rot).get (F.CHn_SCT_STATUS.lock_count n) = 0 := by
  rw [Dev.sctSearch_eq]
  exact (Frame.get (Dev.frame_sendInput _ _ _ _) _ (by simp)).trans Dev.lock_searchShown

theorem Dev.chS_of_frame {ps : List Part} {e : Dev} (h : Dev.Frame ps d e) (hc : Part.ch n ∉ ps) : e.chS n = d.chS n := h (.ch n) hc

theorem Dev.chS_sctSearch (rot : Nat) : (d.sctSearch n rot).chS n = (d.chS n).searching := by
  rw [Dev.sctSearch_eq, Dev.chS_of_frame (Dev.frame_sendInput _ _ _ _) (by simp), Dev.chS_searchShown]

theorem Dev.frame_sctFlag (i : Nat) : Dev.Frame (chBit (R.CHn_SCT_IRQ_STATUS n)) d (d.sctFlag n i) :=
  Frame.sctFlag Frame.refl n i (by simp [chBit]) (by simp +contextual [chBit])

theorem Dev.bit_sctFlag {i : Nat} (hi : i < 32) : bit ((d.sctFlag n i).rd (R.CHn_SCT_IRQ_STATUS n)) i = true :=
  Dev.rd_flag_same _ _ _ _ _ (by simp only [R.CHn_SCT_IRQ_STATUS, R.MSIX_PBA]; omega) hi (by simp [R.CHn_SCT_IRQ_STATUS])

/-- What Personality C shows of a lost polygon. -/
def stationParts (n : Nat) : List Part := [Part.reg (R.LG_Ss_STAT n).off, Part.reg R.LG_STATUS.off]

theorem Dev.frame_lgStation (i : Nat) : Dev.Frame (stationParts n) d (d.lgStation n i) :=
  Frame.lgStation Frame.refl n i (by simp [stationParts]) (by simp [stationParts])

/-- What strobes of a source and the source's flag leave. -/
theorem Dev.frame_report (src d0 d1 : Nat) : Dev.Frame (strobeParts src) d (d.report src d0 d1) :=
  Frame.report Frame.refl src d0 d1 (by simp [strobeParts]) (by simp [strobeParts])

/-- All that the loss of the phase changes. -/
def lossParts (n : Nat) : List Part := chBit (R.CHn_SCT_IRQ_STATUS n) ++ strobeParts n ++ searchParts n ++ stationParts n

theorem Dev.frame_phaseLost : Dev.Frame (lossParts n) d (d.phaseLost n k) := by
  refine Frame.trans (Frame.trans (Frame.trans (Frame.mono (Dev.frame_sctFlag 1) ?_) (Frame.mono (Dev.frame_report n _ _) ?_))
    (Frame.mono (Dev.frame_sctSearch 0) ?_)) (Frame.mono (Dev.frame_lgStation 2) ?_) <;> simp +contextual [lossParts]

/-- What follows the record of a lost phase. -/
def afterLoss (n : Nat) : List Part := searchParts n ++ stationParts n

theorem Dev.frame_afterLoss : Dev.Frame (afterLoss n) d ((d.sctSearch n).lgStation n 2) :=
  Frame.trans (Frame.mono (Dev.frame_sctSearch 0) (by simp +contextual [afterLoss])) (Frame.mono (Dev.frame_lgStation 2) (by simp +contextual [afterLoss]))

theorem reg_not_mem_afterLoss {o : Nat} (ho : o < 0x1000000) (hStatus : o ≠ (R.CHn_SCT_STATUS n).off) : Part.reg o ∉ afterLoss n := by
  simp [afterLoss, searchParts, stationParts, hStatus, R.LG_Ss_STAT, R.LG_STATUS]
  omega

/-- IN_PHASE is lost: SEARCH from the start, the flag, the record with the phase error that the channel shows (R211). -/
theorem Dev.phaseLost_spec (hn : n < 8) : (d.phaseLost n k).sctSt n = 1 ∧ (d.phaseLost n k).get (F.CHn_SCT_STATUS.lock_count n) = 0 ∧
    bit ((d.phaseLost n k).rd (R.CHn_SCT_IRQ_STATUS n)) 1 = true ∧ (d.phaseLost n k).chS n = (d.chS n).searching ∧
    strobed d (d.phaseLost n k) n (0x11 * 2 ^ 24 + k % 2 ^ 24) (d.get (F.CHn_SCT_PHASE_ERR.e n)) := by
  set f := d.sctFlag n 1
  set r := f.report n (0x11 <<< 24 + k % 2 ^ 24) (d.get (F.CHn_SCT_PHASE_ERR.e n))
  have hLost : d.phaseLost n k = (r.sctSearch n).lgStation n 2 := rfl
  have hFlag : Dev.Frame (chBit (R.CHn_SCT_IRQ_STATUS n)) d f := Dev.frame_sctFlag 1
  have hReport : Dev.Frame (strobeParts n) f r := Dev.frame_report n _ _
  have hStation : Dev.Frame (stationParts n) (r.sctSearch n) ((r.sctSearch n).lgStation n 2) := Dev.frame_lgStation 2
  have hAfter : Dev.Frame (afterLoss n) r ((r.sctSearch n).lgStation n 2) := Dev.frame_afterLoss
  have hStatus : Part.reg (R.CHn_SCT_STATUS n).off ∉ stationParts n := by
    simp [stationParts, R.CHn_SCT_STATUS, R.LG_Ss_STAT, R.LG_STATUS]; omega
  rw [hLost]
  refine ⟨(Frame.get hStation _ hStatus).trans (Dev.sctSt_sctSearch 0), (Frame.get hStation _ hStatus).trans (Dev.lock_sctSearch 0), ?_, ?_, ?_⟩
  · rw [Frame.rd hAfter _ (reg_not_mem_afterLoss (by simp only [R.CHn_SCT_IRQ_STATUS]; omega) (by simp [R.CHn_SCT_IRQ_STATUS, R.CHn_SCT_STATUS])),
      Frame.rd hReport _ (by simp [strobeParts, R.CHn_SCT_IRQ_STATUS, R.FLT_SRCi_STATE]; omega)]
    exact Dev.bit_sctFlag (by decide)
  · rw [Dev.chS_of_frame hStation (by simp [stationParts]), Dev.chS_sctSearch, Dev.chS_of_frame hReport (by simp [strobeParts]),
      Dev.chS_of_frame hFlag (by simp [chBit, irqParts])]
  · have hStrobes : f.flt.strobes = d.flt.strobes := hFlag .strobes (by simp [chBit, irqParts])
    have hMerged : f.get (F.FLT_SRCi_STATE.merged n) = d.get (F.FLT_SRCi_STATE.merged n) :=
      Frame.get hFlag _ (by simp [chBit, irqParts, F.FLT_SRCi_STATE.merged, R.FLT_SRCi_STATE, R.CHn_SCT_IRQ_STATUS, R.MSIX_PBA]; omega)
    exact strobed_after (Dev.strobed_report _ _ hStrobes hMerged) hAfter (by simp [afterLoss, searchParts, stationParts])
      (reg_not_mem_afterLoss (by simp only [R.FLT_SRCi_STATE]; omega) (by simp only [R.FLT_SRCi_STATE, R.CHn_SCT_STATUS]; omega))
      (reg_not_mem_afterLoss (by simp only [R.EVT_TIME]; omega) (by simp only [R.EVT_TIME, R.CHn_SCT_STATUS]; omega))

/-- A state entered that is not OFF shows, and the Token holder of a pair sends it. -/
theorem Dev.sctEnter_shown {st : Nat} (hst : st ≠ 0) (rot : Nat) : Dev.Frame [Part.out, Part.twn] (d.put (F.CHn_SCT_STATUS.state n) st) (d.sctEnter n st rot) := by
  rw [Dev.sctEnter, if_neg hst]
  exact Dev.frame_sendInput _ _ _ _

theorem Dev.lgWatch_shown (u : Dev → Dev) : Dev.Frame [Part.reg R.LG_STATUS.off] (u d) (d.lgWatch u) := by
  unfold Dev.lgWatch
  exact Frame.ite (Frame.lgEvent Frame.refl 5 (by simp)) Frame.refl

/-- What the entry of IN_PHASE changes besides the state and the channel. -/
def foundParts (n : Nat) : List Part := [Part.out, Part.twn, Part.reg R.LG_STATUS.off] ++ chBit (R.CHn_SCT_IRQ_STATUS n)

/-- A channel whose phase has just been found. -/
def ChSt.inPhase (c : ChSt) : ChSt := { c with phi := [], outN := 0, missN := 0 }

theorem Dev.sctInPhase_shown : Dev.Frame (foundParts n) ((d.modCh n ChSt.inPhase).put (F.CHn_SCT_STATUS.state n) 3) (d.sctInPhase n) := by
  refine Frame.trans (Frame.trans (Frame.mono (Dev.sctEnter_shown (by decide) 0) ?_) (Frame.mono (Dev.lgWatch_shown (·.sctEnter n 3)) ?_))
    (Frame.mono (Dev.frame_sctFlag 0) ?_) <;> simp +contextual [foundParts]

theorem reg_not_mem_foundParts {o : Nat} (hlo : 0x200000 ≤ o) (hhi : o < 0x1000000) (hIrq : o ≠ (R.CHn_SCT_IRQ_STATUS n).off) : Part.reg o ∉ foundParts n := by
  simp [foundParts, chBit, irqParts, hIrq, R.LG_STATUS, R.MSIX_PBA]
  omega

/-- IN_PHASE begins: the aligner anew, no slot counted, the flag (R211, R215). -/
theorem Dev.sctInPhase_spec (hn : n < 8) : (d.sctInPhase n).sctSt n = 3 ∧ (d.sctInPhase n).chS n = (d.chS n).inPhase ∧
    bit ((d.sctInPhase n).rd (R.CHn_SCT_IRQ_STATUS n)) 0 = true ∧
    (d.sctInPhase n).get (F.CHn_SCT_STATUS.lock_count n) = d.get (F.CHn_SCT_STATUS.lock_count n) ∧
    (d.sctInPhase n).get (F.CHn_SCT_STATUS.facet_rot n) = d.get (F.CHn_SCT_STATUS.facet_rot n) := by
  have hStatus : Part.reg (R.CHn_SCT_STATUS n).off ∉ foundParts n :=
    reg_not_mem_foundParts (by simp only [R.CHn_SCT_STATUS]; omega) (by simp only [R.CHn_SCT_STATUS]; omega) (by simp [R.CHn_SCT_STATUS, R.CHn_SCT_IRQ_STATUS])
  refine ⟨(Frame.get Dev.sctInPhase_shown _ hStatus).trans (Dev.sctSt_put_state (by decide)), ?_, Dev.bit_sctFlag (by decide),
    (Frame.get Dev.sctInPhase_shown _ hStatus).trans (Dev.lock_put_state 3), (Frame.get Dev.sctInPhase_shown _ hStatus).trans (Dev.get_put_other _ _ _ _ rfl rfl rfl rfl)⟩
  rw [Dev.chS_of_frame Dev.sctInPhase_shown (by simp [foundParts, chBit, irqParts]), Dev.chS_put, Dev.chS_modCh_same]

/-! ### After the slot has acted -/

/-- What the polygon of a channel takes of an error: its own loop's part, or the inputs of a pair. -/
def polygonParts (d : Dev) (n : Nat) : List Part := axisPart d n ++ (if d.twin = true then [Part.out, Part.twn] else [])

theorem reg_not_mem_polygonParts (o : Nat) : Part.reg o ∉ polygonParts d n := by
  unfold polygonParts axisPart
  split_ifs <;> simp

theorem polygonParts_congr {e : Dev} (h : e.frd = d.frd) : polygonParts e n = polygonParts d n := by
  rw [polygonParts, polygonParts, axisPart_congr h, Dev.twin, Dev.twin, h]

theorem Dev.frame_polygonTakes (e : Option Int) : Dev.Frame (polygonParts d n) d (d.polygonTakes n k e) := by
  rw [Dev.polygonTakes.eq_def]
  split
  · next x c _ hc =>
    by_cases hPair : (d.twin && decide (2 ≤ d.get F.TWN_STATUS.state)) = true
    · have hTwin : d.twin = true := by rw [Bool.and_eq_true] at hPair; exact hPair.1
      have hTwn : Part.twn ∈ polygonParts d n := by simp [polygonParts, hTwin]
      have hOut : Part.out ∈ polygonParts d n := by simp [polygonParts, hTwin]
      rw [if_pos hPair]
      exact Frame.ite (Frame.slotQueue (Frame.putInput Frame.refl _ _ _ _ hOut hTwn) _ hTwn) (Frame.keepInput Frame.refl _ hTwn)
    · rw [if_neg hPair]
      exact Frame.phaseLoop Frame.refl _ _ _ (by simp [polygonParts, axisPart, hc])
  · exact Frame.refl

theorem Dev.polygonTakes_none : d.polygonTakes n k none = d := by rw [Dev.polygonTakes.eq_def]

theorem Dev.frame_slotDone (t : Option Nat) : Dev.Frame [Part.ch n] d (d.slotDone n k t) := Frame.modCh Frame.refl n _ (by simp)

theorem Dev.chS_slotDone (t : Option Nat) : (d.slotDone n k t).chS n = { d.chS n with judged := k + 1, edge := none, prevEdge := t.map fun t => (k, t) } :=
  Dev.chS_modCh_same _ _ _

section
variable {o : Dev} {t : Option Nat} (ho : d.slotOutcome n k t (t.map (d.slotErr n k)) = o)
include ho

/-- Once the slot has acted, the polygon takes its error and the channel turns to the next slot. -/
theorem Dev.frame_judgeSlot : Dev.Frame (Part.ch n :: polygonParts o n) o (d.judgeSlot n k t) := by
  rw [Dev.judgeSlot_eq, ho]
  exact Frame.trans (Frame.mono (Dev.frame_polygonTakes _) (by simp +contextual)) (Frame.mono (Dev.frame_slotDone t) (by simp))

theorem Dev.chS_judgeSlot : (d.judgeSlot n k t).chS n = { o.chS n with judged := k + 1, edge := none, prevEdge := t.map fun t => (k, t) } := by
  rw [Dev.judgeSlot_eq, ho, Dev.chS_slotDone, Dev.chS_of_frame (Dev.frame_polygonTakes _) ?_]
  unfold polygonParts axisPart
  split_ifs <;> simp

theorem Dev.get_judgeSlot (g : Fld) : (d.judgeSlot n k t).get g = o.get g :=
  Frame.get (Dev.frame_judgeSlot ho) g (by simp [reg_not_mem_polygonParts])

theorem Dev.rd_judgeSlot (r : Reg) : (d.judgeSlot n k t).rd r = o.rd r :=
  Frame.rd (Dev.frame_judgeSlot ho) r (by simp [reg_not_mem_polygonParts])

theorem strobed_judgeSlot {c : Dev} {src d0 d1 : Nat} (h : strobed c o src d0 d1) : strobed c (d.judgeSlot n k t) src d0 d1 := by
  refine strobed_after h (Dev.frame_judgeSlot ho) ?_ (by simp [reg_not_mem_polygonParts]) (by simp [reg_not_mem_polygonParts])
  unfold polygonParts axisPart
  split_ifs <;> simp

end

theorem Dev.frame_judgeSlot_missed {o : Dev} (ho : d.slotOutcome n k none none = o) : Dev.Frame [Part.ch n] o (d.judgeSlot n k none) := by
  rw [Dev.judgeSlot_eq, Option.map_none, ho, Dev.polygonTakes_none]
  exact Dev.frame_slotDone none

end
end Sys2Proof.Machine

end

-- ==== Sitting: beam-detect edges ====
section
/-! SUPPORT. A beam-detect edge outside IN_PHASE, in its window and outside it (R210, R211). -/

open Sys2Proof Sys2Proof.Machine Sys2Proof.Claims
set_option maxRecDepth 20000

namespace Sys2Proof.Machine

/-! ### An edge as it is seen (R210) -/

/-- Time reaches the filtered edge, and the strobe watchdog sees it. -/
def Dev.edgeSeen (d : Dev) (n t : Nat) : Dev := (d.advanceTo (t / 64 + d.get (F.CHn_SCT_CTRL.bd_filter n))).wdEdge n

/-- The edge is the one that the slot keeps. -/
def Dev.keepEdge (d : Dev) (n k t : Nat) : Dev := d.modCh n fun c => { c with edge := some (k, t) }

/-- How far an edge lies from the grid time of a slot, in 1/64 tick. -/
def Dev.edgeDist (d : Dev) (n k t : Nat) : Nat := ((t : Int) - (d.slotT n k * 64 : Nat)).natAbs

/-- The window about the grid time of a slot (R210). -/
def Dev.inWindow (d : Dev) (n k t : Nat) : Prop :=
  64 * d.slotT n k ≤ t + 64 * max 1 (d.get (F.CHn_SCT_CTRL.bd_window n)) ∧ t ≤ 64 * (d.slotT n k + max 1 (d.get (F.CHn_SCT_CTRL.bd_window n)))

/-- The edge acts on its slot, which is the next one to be judged. -/
def Dev.edgeInSlot (d : Dev) (n k t : Nat) : Dev :=
  if d.sctSt n = 3 then
    if 64 * d.slotT n k ≤ t + 64 * max 1 (d.get (F.CHn_SCT_CTRL.bd_window n)) && t ≤ 64 * (d.slotT n k + max 1 (d.get (F.CHn_SCT_CTRL.bd_window n))) then
      d.judgeSlot n k (some t)
    else d.count (F.CHn_SCT_COUNTS.extra n)
  else
    match (d.chS n).edge with
    | none => d.keepEdge n k t
    | some (_, t0) =>
      if d.edgeDist n k t < d.edgeDist n k t0 then (d.count (F.CHn_SCT_COUNTS.extra n)).keepEdge n k t else d.count (F.CHn_SCT_COUNTS.extra n)

/-- The edge finds its slot: the slots before are judged, and it is extra where its own is. -/
def Dev.edgeOfSlot (d : Dev) (n k t : Nat) : Dev :=
  let e := if (d.chS n).judged < k then d.settleSlots (k - (d.chS n).judged) n k else d
  if k < (e.chS n).judged then e.count (F.CHn_SCT_COUNTS.extra n) else e.edgeInSlot n k t

section
variable {d : Dev} {n t k : Nat} {rising : Bool}

theorem Dev.bdEdge_eq (hDom : d.domOn (4 + n) = true) (hSel : d.bdSelected n rising = true) : d.bdEdge n t rising =
    if !(d.edgeSeen n t).sctRuns n || t * 1024 + (d.edgeSeen n t).gridP n / 2 < 65536 * (d.edgeSeen n t).gridRef n then d.edgeSeen n t
    else match (d.edgeSeen n t).bdSlot n t with
      | none => (d.edgeSeen n t).count (F.CHn_SCT_COUNTS.extra n)
      | some k => (d.edgeSeen n t).edgeOfSlot n k t := by
  rw [Dev.bdEdge, if_neg (by simp [hDom, hSel])]
  rfl

theorem Dev.edgeOfSlot_next (h : (d.chS n).judged = k) : d.edgeOfSlot n k t = d.edgeInSlot n k t := by
  have hSettled : ¬ (d.chS n).judged < k := by omega
  rw [Dev.edgeOfSlot, if_neg hSettled, if_neg (by omega)]

theorem Dev.edgeInSlot_window (h : d.sctSt n = 3) (hIn : d.inWindow n k t) : d.edgeInSlot n k t = d.judgeSlot n k (some t) := by
  rw [Dev.edgeInSlot, if_pos h, if_pos (by simpa [Dev.inWindow] using hIn)]

theorem Dev.edgeInSlot_outside (h : d.sctSt n = 3) (hOut : ¬ d.inWindow n k t) : d.edgeInSlot n k t = d.count (F.CHn_SCT_COUNTS.extra n) := by
  rw [Dev.edgeInSlot, if_pos h, if_neg (by simpa [Dev.inWindow] using hOut)]

theorem Dev.edgeInSlot_first (h : d.sctSt n ≠ 3) (hEdge : (d.chS n).edge = none) : d.edgeInSlot n k t = d.keepEdge n k t := by
  rw [Dev.edgeInSlot, if_neg h, hEdge]

theorem Dev.edgeInSlot_nearer {j t0 : Nat} (h : d.sctSt n ≠ 3) (hEdge : (d.chS n).edge = some (j, t0)) (hNear : d.edgeDist n k t < d.edgeDist n k t0) :
    d.edgeInSlot n k t = (d.count (F.CHn_SCT_COUNTS.extra n)).keepEdge n k t := by
  rw [Dev.edgeInSlot, if_neg h, hEdge]
  exact if_pos hNear

theorem Dev.edgeInSlot_farther {j t0 : Nat} (h : d.sctSt n ≠ 3) (hEdge : (d.chS n).edge = some (j, t0)) (hFar : ¬ d.edgeDist n k t < d.edgeDist n k t0) :
    d.edgeInSlot n k t = d.count (F.CHn_SCT_COUNTS.extra n) := by
  rw [Dev.edgeInSlot, if_neg h, hEdge]
  exact if_neg hFar

theorem Dev.chS_keepEdge : (d.keepEdge n k t).chS n = { d.chS n with edge := some (k, t) } := Dev.chS_modCh_same _ _ _

theorem Dev.rd_keepEdge (r : Reg) : (d.keepEdge n k t).rd r = d.rd r := rfl

/-- What an edge changes before it acts. -/
def seenParts (n : Nat) : List Part := Part.ch n :: timeParts

theorem Dev.frame_advanceTo (x : Nat) : Dev.Frame timeParts d (d.advanceTo x) := Frame.advanceTo Frame.refl x fun _ h => h

theorem Dev.frame_edgeSeen : Dev.Frame (seenParts n) d (d.edgeSeen n t) :=
  Frame.modCh (Frame.mono (Dev.frame_advanceTo _) (by simp +contextual [seenParts])) n _ (by simp [seenParts])

theorem Dev.now_edgeSeen (hRuns : d.evt.running = true) (hNow : d.now < 2 ^ 62) (ht : t < 2 ^ 62) :
    (d.edgeSeen n t).now = d.timeAt (t / 64 + d.get (F.CHn_SCT_CTRL.bd_filter n)) := by
  have hFilter : d.get (F.CHn_SCT_CTRL.bd_filter n) < 2 ^ 4 := Dev.get_lt _ _
  have hLt := d.timeAt_lt (t / 64 + d.get (F.CHn_SCT_CTRL.bd_filter n))
  exact Dev.now_advanceTo d _ hRuns (by omega)

theorem Dev.chS_edgeSeen : (d.edgeSeen n t).chS n = { d.chS n with wdFrom := (d.edgeSeen n t).now, tripUn := false } := by
  have hCh : (d.advanceTo (t / 64 + d.get (F.CHn_SCT_CTRL.bd_filter n))).chS n = d.chS n := Dev.chS_of_frame (Dev.frame_advanceTo _) (by simp [timeParts])
  rw [Dev.edgeSeen, Dev.wdEdge, Dev.chS_modCh_same, hCh]
  rfl

/-- The registers of a channel and of its axes are none of those that time moves. -/
theorem reg_not_mem_timeParts {o : Nat} (h : 0x20000 < o) : Part.reg o ∉ timeParts := by
  simp [timeParts, R.EVT_TIME, R.SYS_SECONDS]
  omega

theorem reg_not_mem_seenParts {o : Nat} (h : 0x20000 < o) : Part.reg o ∉ seenParts n := by
  simp [seenParts, reg_not_mem_timeParts h]

theorem Dev.sameGrid_edgeSeen : Dev.SameGrid n d (d.edgeSeen n t) := .ofFrame Dev.frame_edgeSeen (by simp [seenParts, timeParts]) (by simp [seenParts, timeParts])

theorem Dev.sctSt_edgeSeen : (d.edgeSeen n t).sctSt n = d.sctSt n :=
  Frame.get Dev.frame_edgeSeen _ (reg_not_mem_seenParts (by simp only [F.CHn_SCT_STATUS.state, R.CHn_SCT_STATUS]; omega))

/-- The circumstances of scan timing are no matter of time or of a channel's own memory. -/
theorem Dev.sctRuns_of_frame {ps : List Part} {e : Dev} (h : Dev.Frame ps d e) (hDom : Part.reg R.PWR_DOMAINS.off ∉ ps) (hStatus : Part.reg (R.CHn_SCT_STATUS n).off ∉ ps)
    (hGrid : Dev.SameGrid n d e) (hEvt : Part.evt ∉ ps) : e.sctRuns n = d.sctRuns n := by
  have hSt : e.sctSt n = d.sctSt n := Frame.get h _ hStatus
  have hSame : ({ e.evt with recs := [] } : EvtSt) = { d.evt with recs := [] } := h .evt hEvt
  have hRunning : e.evt.running = d.evt.running := by injection hSame
  rw [Dev.sctRuns, Dev.sctRuns, Dev.domOn, Dev.domOn, Frame.rd h _ hDom, hSt, hGrid.p, hRunning]

theorem Dev.sctRuns_edgeSeen : (d.edgeSeen n t).sctRuns n = d.sctRuns n :=
  Dev.sctRuns_of_frame Dev.frame_edgeSeen (reg_not_mem_seenParts (by simp [R.PWR_DOMAINS])) (reg_not_mem_seenParts (by simp only [R.CHn_SCT_STATUS]; omega))
    Dev.sameGrid_edgeSeen (by simp [seenParts, timeParts])

theorem Dev.sctRuns_parts (h : d.sctRuns n = true) : d.domOn (4 + n) = true ∧ d.sctSt n ≠ 0 ∧ d.gridP n ≠ 0 ∧ d.evt.running = true := by
  simpa [Dev.sctRuns, and_assoc] using h

/-- An edge on a running grid, after its reference. -/
theorem Dev.bdEdge_onGrid (hRuns : d.sctRuns n = true) (hSel : d.bdSelected n rising = true) (hRef : 65536 * d.gridRef n ≤ t * 1024 + d.gridP n / 2) :
    d.bdEdge n t rising = match d.bdSlot n t with
      | none => (d.edgeSeen n t).count (F.CHn_SCT_COUNTS.extra n)
      | some k => (d.edgeSeen n t).edgeOfSlot n k t := by
  obtain ⟨hDom, -, -, -⟩ := Dev.sctRuns_parts hRuns
  rw [Dev.bdEdge_eq hDom hSel, if_neg, Dev.sameGrid_edgeSeen.bdSlot]
  rw [Dev.sctRuns_edgeSeen, hRuns, Dev.sameGrid_edgeSeen.p, Dev.sameGrid_edgeSeen.ref]
  simpa using hRef

/-- An edge of the slot that is to be judged next. -/
theorem Dev.bdEdge_inSlot (hRuns : d.sctRuns n = true) (hSel : d.bdSelected n rising = true) (hRef : 65536 * d.gridRef n ≤ t * 1024 + d.gridP n / 2)
    (hSlot : d.bdSlot n t = some k) (hNext : (d.chS n).judged = k) : d.bdEdge n t rising = (d.edgeSeen n t).edgeInSlot n k t := by
  rw [Dev.bdEdge_onGrid hRuns hSel hRef, hSlot]
  exact Dev.edgeOfSlot_next (by rw [Dev.chS_edgeSeen]; exact hNext)

theorem Dev.now_count_extra : (d.count (F.CHn_SCT_COUNTS.extra n)).now = d.now :=
  Dev.rd_put_ne _ _ _ _ (by simp only [R.EVT_TIME, F.CHn_SCT_COUNTS.extra, R.CHn_SCT_COUNTS]; omega)

end
end Sys2Proof.Machine

namespace Sys2Proof.Proofs
section
variable {s : State} {n : Fin 8} {t64 k : Nat} {rising : Bool}

/-- What counting an extra edge leaves of a count of extra edges. -/
theorem extra_count (d : Dev) (n : Nat) : (d.count (F.CHn_SCT_COUNTS.extra n)).get (F.CHn_SCT_COUNTS.extra n) =
    min (d.get (F.CHn_SCT_COUNTS.extra n) + 1) (2 ^ 16 - 1) := Dev.get_count_same _ _ _ rfl

theorem extra_edgeSeen (d : Dev) (n t : Nat) : (d.edgeSeen n t).get (F.CHn_SCT_COUNTS.extra n) = d.get (F.CHn_SCT_COUNTS.extra n) :=
  Frame.get Dev.frame_edgeSeen _ (reg_not_mem_seenParts (by simp only [F.CHn_SCT_COUNTS.extra, R.CHn_SCT_COUNTS]; omega))

/-- Outside IN_PHASE the nearest edge of a slot is kept, and any other is extra (R210). -/
theorem bdEdge_keepsNearest (hSel : s.dev.bdSelected n rising = true) (hRuns : s.dev.sctRuns n = true) (hSt : s.dev.sctSt n ≠ 3) (hNext : (s.dev.chS n).judged = k)
    (hRef : 65536 * s.dev.gridRef n ≤ t64 * 1024 + s.dev.gridP n / 2) (hSlot : s.dev.bdSlot n t64 = some k) (hBounds : s.dev.now < 2 ^ 62 ∧ t64 < 2 ^ 62) :
    Completes (exec (.bdEdge n t64 rising) s) fun t =>
      t.dev.now = s.dev.timeAt (t64 / 64 + s.dev.get (F.CHn_SCT_CTRL.bd_filter n)) ∧ (t.dev.chS n).wdFrom = t.dev.now ∧ (t.dev.chS n).tripUn = false ∧
      (t.dev.chS n).edge = (match (s.dev.chS n).edge with
        | none => some (k, t64)
        | some (j, t0) => if s.dev.edgeDist n k t64 < s.dev.edgeDist n k t0 then some (k, t64) else some (j, t0)) ∧
      ((s.dev.chS n).edge ≠ none → t.dev.get (F.CHn_SCT_COUNTS.extra n) = min (s.dev.get (F.CHn_SCT_COUNTS.extra n) + 1) (2 ^ 16 - 1)) ∧
      ((s.dev.chS n).edge = none → t.dev.get (F.CHn_SCT_COUNTS.extra n) = s.dev.get (F.CHn_SCT_COUNTS.extra n)) ∧
      s.Frame ([Part.ch n, Part.reg (R.CHn_SCT_COUNTS n).off] ++ timeParts) t := by
  refine completes_onDev (·.bdEdge n t64 rising) rfl ?_
  obtain ⟨-, -, -, hRunning⟩ := Dev.sctRuns_parts hRuns
  simp only [Dev.bdEdge_inSlot hRuns hSel hRef hSlot hNext]
  generalize hd : s.dev = d at *
  generalize he : d.edgeSeen n t64 = e
  have hNow : e.now = d.timeAt (t64 / 64 + d.get (F.CHn_SCT_CTRL.bd_filter n)) := he ▸ Dev.now_edgeSeen hRunning hBounds.1 hBounds.2
  have hCh : e.chS n = { d.chS n with wdFrom := e.now, tripUn := false } := he ▸ Dev.chS_edgeSeen
  have hEdge : (e.chS n).edge = (d.chS n).edge := by rw [hCh]
  have hSt' : e.sctSt n ≠ 3 := he ▸ Dev.sctSt_edgeSeen.trans_ne hSt
  have hDist : ∀ x, e.edgeDist n k x = d.edgeDist n k x := fun x => by rw [Dev.edgeDist, ← he, Dev.sameGrid_edgeSeen.slotT k, Dev.edgeDist]
  have hSame : e.get (F.CHn_SCT_COUNTS.extra n) = d.get (F.CHn_SCT_COUNTS.extra n) := he ▸ extra_edgeSeen _ _ _
  have hExtra : (e.count (F.CHn_SCT_COUNTS.extra n)).get (F.CHn_SCT_COUNTS.extra n) = min (d.get (F.CHn_SCT_COUNTS.extra n) + 1) (2 ^ 16 - 1) := by
    rw [extra_count, hSame]
  have hSeen : Dev.Frame ([Part.ch n, Part.reg (R.CHn_SCT_COUNTS n).off] ++ timeParts) d e := he ▸ Frame.mono Dev.frame_edgeSeen (by simp +contextual [seenParts])
  have hCount : Dev.Frame ([Part.ch n, Part.reg (R.CHn_SCT_COUNTS n).off] ++ timeParts) d (e.count (F.CHn_SCT_COUNTS.extra n)) :=
    Frame.count hSeen _ _ (by simp [F.CHn_SCT_COUNTS.extra])
  have hStill : (e.count (F.CHn_SCT_COUNTS.extra n)).now = e.now := Dev.now_count_extra
  have hKept : (e.count (F.CHn_SCT_COUNTS.extra n)).chS n = e.chS n := Dev.chS_put _ _
  cases hHeld : (d.chS n).edge with
  | none =>
    rw [Dev.edgeInSlot_first hSt' (hEdge.trans hHeld)]
    refine ⟨hNow, ?_, ?_, ?_, fun h => absurd rfl h, fun _ => hSame, Frame.ofDev (hd ▸ Frame.modCh hSeen _ _ (by simp))⟩ <;>
      simp only [Dev.chS_keepEdge, hCh, Dev.now, Dev.rd_keepEdge]
  | some x =>
    obtain ⟨j, t0⟩ := x
    by_cases hNear : d.edgeDist n k t64 < d.edgeDist n k t0
    · rw [Dev.edgeInSlot_nearer hSt' (hEdge.trans hHeld) (by rwa [hDist, hDist])]
      refine ⟨hStill.trans hNow, ?_, ?_, ?_, fun _ => hExtra, nofun, Frame.ofDev (hd ▸ Frame.modCh hCount _ _ (by simp))⟩
      · rw [Dev.chS_keepEdge, hKept, hCh]; exact hStill.symm
      · rw [Dev.chS_keepEdge, hKept, hCh]
      · rw [Dev.chS_keepEdge]; exact (if_pos hNear).symm
    · rw [Dev.edgeInSlot_farther hSt' (hEdge.trans hHeld) (by rwa [hDist, hDist])]
      refine ⟨hStill.trans hNow, ?_, ?_, ?_, fun _ => hExtra, nofun, Frame.ofDev (hd ▸ hCount)⟩
      · rw [hKept, hCh]; exact hStill.symm
      · rw [hKept, hCh]
      · rw [hKept, hEdge, hHeld]; exact (if_neg hNear).symm

end
end Sys2Proof.Proofs

namespace Sys2Proof.Machine
section
variable {d : Dev} {n k t : Nat}

/-! ### An edge judged in IN_PHASE (R211, R215) -/

/-- The device with the edge shown, the slot counted and the aligner moved by it. -/
def Dev.edgeAligned (d : Dev) (n k t : Nat) : Dev := (d.slotNoted n k (some t) (some (d.slotErr n k t))).aligner n k (some (d.slotErr n k t))

/-- The edge is the fourth in a row beyond the unlock tolerance. -/
def Dev.losesPhase (d : Dev) (n k t : Nat) : Prop := 4 * d.lockTol n < (d.slotErr n k t).natAbs ∧ 3 ≤ (d.chS n).outN

theorem Dev.four_le_outNext {tol : Nat} {e : Int} : 4 ≤ d.outNext n tol (some e) ↔ 4 * tol < e.natAbs ∧ 3 ≤ (d.chS n).outN := by
  rw [Dev.outNext]
  split_ifs with h <;> omega

theorem Dev.slotOutcome_lost (h : d.sctSt n = 3) (hLost : d.losesPhase n k t) :
    d.slotOutcome n k (some t) (some (d.slotErr n k t)) = (d.edgeAligned n k t).phaseLost n k := by
  rw [Dev.slotOutcome_eq, Dev.slotActs_phaseEdge ((Dev.sctSt_slotNoted _ _).trans h), Dev.phaseEdge, if_pos (Dev.four_le_outNext.mpr hLost), Dev.edgeAligned]

theorem Dev.slotOutcome_held (h : d.sctSt n = 3) (hHeld : ¬ d.losesPhase n k t) :
    d.slotOutcome n k (some t) (some (d.slotErr n k t)) = d.edgeAligned n k t := by
  rw [Dev.slotOutcome_eq, Dev.slotActs_phaseEdge ((Dev.sctSt_slotNoted _ _).trans h), Dev.phaseEdge, if_neg (fun hFour => hHeld (Dev.four_le_outNext.mp hFour)), Dev.edgeAligned]

/-- What an edge changes that the aligner takes. -/
def alignedParts (n : Nat) : List Part :=
  [Part.ch n, Part.reg (R.CHn_SCT_PHASE_ERR n).off, Part.reg (R.CHn_SCT_LAST_BD n).off, Part.reg (R.CHn_SCT_STATUS n).off, Part.reg (R.CHn_PXS_ALIGN n).off]

theorem Dev.frame_edgeAligned : Dev.Frame (alignedParts n) d (d.edgeAligned n k t) :=
  Frame.trans (Frame.mono (Dev.frame_slotNoted _ _) (by simp [alignedParts, edgeParts])) (Frame.mono (Dev.frame_aligner _) (by simp [alignedParts]))

theorem Dev.missN_edgeAligned : ((d.edgeAligned n k t).chS n).missN = 0 := by
  obtain ⟨l, hCh⟩ := Dev.chS_aligner (d := d.slotNoted n k (some t) (some (d.slotErr n k t))) (n := n) (k := k) (some (d.slotErr n k t))
  rw [Dev.edgeAligned, hCh, Dev.chS_slotNoted]
  rfl

theorem Dev.sctSt_edgeAligned : (d.edgeAligned n k t).sctSt n = d.sctSt n := (Dev.sctSt_aligner _).trans (Dev.sctSt_slotNoted _ _)

theorem Dev.lock_edgeAligned : (d.edgeAligned n k t).get (F.CHn_SCT_STATUS.lock_count n) = d.lockNext n (d.lockTol n) (some (d.slotErr n k t)) :=
  (Dev.lock_aligner _).trans (Dev.lock_slotNoted _ _)

theorem Dev.err_edgeAligned : (d.edgeAligned n k t).get (F.CHn_SCT_PHASE_ERR.e n) = enc 32 (d.slotErr n k t) :=
  (Frame.get (Dev.frame_aligner _) _ (by simp [F.CHn_SCT_PHASE_ERR.e, R.CHn_SCT_PHASE_ERR, R.CHn_PXS_ALIGN])).trans (Dev.err_slotNoted t _)

theorem Dev.last_edgeAligned (ht : t < 2 ^ 64) : (d.edgeAligned n k t).rd (R.CHn_SCT_LAST_BD n) = t :=
  (Frame.rd (Dev.frame_aligner _) _ (by simp [R.CHn_SCT_LAST_BD, R.CHn_PXS_ALIGN])).trans (Dev.last_slotNoted ht _)

theorem Dev.alignShift_of_frame {ps : List Part} {e : Dev} (h : Dev.Frame ps d e) (hr : Part.reg (R.CHn_PXS_CTRL n).off ∉ ps) : e.alignShift n = d.alignShift n := by
  rw [Dev.alignShift, Dev.alignShift, Frame.get h (F.CHn_PXS_CTRL.align_shift n) hr]

theorem Dev.facetOf_congr {e : Dev} (h : e.frd = d.frd) : e.facetOf n k = d.facetOf n k := by
  rw [Dev.facetOf, Dev.facetOf, Dev.facetsOf, Dev.facetsOf, Dev.chan, Dev.chan, h]

theorem Dev.heldPhi_congr {e : Dev} (hFrd : e.frd = d.frd) (hPhi : (e.chS n).phi = (d.chS n).phi) : e.heldPhi n k = d.heldPhi n k := by
  rw [Dev.heldPhi, Dev.heldPhi, Dev.facetOf_congr hFrd, hPhi]

theorem Dev.phi_edgeAligned : (d.edgeAligned n k t).rd (R.CHn_PXS_ALIGN n) = enc 32 (phiNext (d.alignShift n) (d.heldPhi n k) (some (d.slotErr n k t))) := by
  have hNoted : Dev.Frame ([Part.ch n, Part.reg (R.CHn_SCT_STATUS n).off] ++ edgeParts n) d (d.slotNoted n k (some t) (some (d.slotErr n k t))) := Dev.frame_slotNoted _ _
  rw [Dev.edgeAligned, Dev.rd_aligner,
    Dev.alignShift_of_frame hNoted (by simp [edgeParts, R.CHn_PXS_CTRL, R.CHn_SCT_STATUS, R.CHn_SCT_PHASE_ERR, R.CHn_SCT_LAST_BD]),
    Dev.heldPhi_congr (hNoted .frd (by simp [edgeParts])) (by rw [Dev.chS_slotNoted])]

/-- What an edge judged in IN_PHASE shows, whether the phase holds or not. -/
structure Dev.EdgeTaken (n k t : Nat) (d e : Dev) : Prop where
  err : e.get (F.CHn_SCT_PHASE_ERR.e n) = enc 32 (d.slotErr n k t)
  last : e.rd (R.CHn_SCT_LAST_BD n) = t
  phi : e.rd (R.CHn_PXS_ALIGN n) = enc 32 (phiNext (d.alignShift n) (d.heldPhi n k) (some (d.slotErr n k t)))
  judged : (e.chS n).judged = k + 1
  missN : (e.chS n).missN = 0
  prevEdge : (e.chS n).prevEdge = some (k, t)
  edge : (e.chS n).edge = none

/-- The registers of a channel that the loss of the phase leaves. -/
theorem reg_not_mem_lossParts {o : Nat} (hlo : 0x200000 ≤ o) (hhi : o < 0x1000000) (hStatus : o ≠ (R.CHn_SCT_STATUS n).off)
    (hIrq : o ≠ (R.CHn_SCT_IRQ_STATUS n).off) (hn : n < 8) : Part.reg o ∉ lossParts n := by
  simp [lossParts, chBit, irqParts, strobeParts, searchParts, stationParts, hStatus, hIrq, R.MSIX_PBA, R.FLT_SRCi_STATE, R.LG_Ss_STAT, R.LG_STATUS]
  omega

theorem Dev.edgeTaken_of_outcome {o : Dev} (hn : n < 8) (ht : t < 2 ^ 64) (ho : d.slotOutcome n k (some t) (some (d.slotErr n k t)) = o)
    (hFrame : Dev.Frame (lossParts n) (d.edgeAligned n k t) o) (hMiss : (o.chS n).missN = 0) : Dev.EdgeTaken n k t d (d.judgeSlot n k (some t)) := by
  have hOut : ∀ {r : Nat}, (r = (R.CHn_SCT_PHASE_ERR n).off ∨ r = (R.CHn_SCT_LAST_BD n).off ∨ r = (R.CHn_PXS_ALIGN n).off) → Part.reg r ∉ lossParts n := by
    simp only [R.CHn_SCT_PHASE_ERR, R.CHn_SCT_LAST_BD, R.CHn_PXS_ALIGN]
    intro r hr
    exact reg_not_mem_lossParts (by omega) (by omega) (by simp only [R.CHn_SCT_STATUS]; omega) (by simp only [R.CHn_SCT_IRQ_STATUS]; omega) hn
  have hChan : (d.judgeSlot n k (some t)).chS n = { o.chS n with judged := k + 1, edge := none, prevEdge := some (k, t) } := Dev.chS_judgeSlot ho
  constructor
  case err => exact (Dev.get_judgeSlot ho _).trans ((Frame.get hFrame _ (hOut (.inl rfl))).trans Dev.err_edgeAligned)
  case last => exact (Dev.rd_judgeSlot ho _).trans ((Frame.rd hFrame _ (hOut (.inr (.inl rfl)))).trans (Dev.last_edgeAligned ht))
  case phi => exact (Dev.rd_judgeSlot ho _).trans ((Frame.rd hFrame _ (hOut (.inr (.inr rfl)))).trans Dev.phi_edgeAligned)
  all_goals rw [hChan]
  case missN => exact hMiss

/-- The fourth edge in a row beyond the unlock tolerance loses the phase. -/
theorem Dev.judgeSlot_loses (hn : n < 8) (ht : t < 2 ^ 64) (h : d.sctSt n = 3) (hLost : d.losesPhase n k t) :
    Dev.EdgeTaken n k t d (d.judgeSlot n k (some t)) ∧ (d.judgeSlot n k (some t)).sctSt n = 1 ∧
      (d.judgeSlot n k (some t)).get (F.CHn_SCT_STATUS.lock_count n) = 0 ∧ bit ((d.judgeSlot n k (some t)).rd (R.CHn_SCT_IRQ_STATUS n)) 1 = true ∧
      strobed d (d.judgeSlot n k (some t)) n (0x11 * 2 ^ 24 + k % 2 ^ 24) (enc 32 (d.slotErr n k t)) := by
  have ho := Dev.slotOutcome_lost h hLost
  obtain ⟨hSt, hLock, hBit, hCh, hStrobed⟩ := Dev.phaseLost_spec (d := d.edgeAligned n k t) (k := k) hn
  rw [Dev.err_edgeAligned] at hStrobed
  refine ⟨Dev.edgeTaken_of_outcome hn ht ho Dev.frame_phaseLost (by rw [hCh]; rfl), (Dev.get_judgeSlot ho _).trans hSt, (Dev.get_judgeSlot ho _).trans hLock,
    by rw [Dev.rd_judgeSlot ho]; exact hBit, strobed_judgeSlot ho (strobed_before Dev.frame_edgeAligned hStrobed (by simp [alignedParts]) ?_)⟩
  simp [alignedParts, R.FLT_SRCi_STATE, R.CHn_SCT_PHASE_ERR, R.CHn_SCT_LAST_BD, R.CHn_SCT_STATUS, R.CHn_PXS_ALIGN]
  omega

/-- Any other edge in the window keeps the phase. -/
theorem Dev.judgeSlot_holds (hn : n < 8) (ht : t < 2 ^ 64) (h : d.sctSt n = 3) (hHeld : ¬ d.losesPhase n k t) :
    Dev.EdgeTaken n k t d (d.judgeSlot n k (some t)) ∧ (d.judgeSlot n k (some t)).sctSt n = 3 ∧
      (d.judgeSlot n k (some t)).get (F.CHn_SCT_STATUS.lock_count n) = d.lockNext n (d.lockTol n) (some (d.slotErr n k t)) ∧
      Dev.Frame (alignedParts n ++ polygonParts d n) d (d.judgeSlot n k (some t)) := by
  have ho := Dev.slotOutcome_held h hHeld
  have hFrd : (d.edgeAligned n k t).frd = d.frd := Dev.frame_edgeAligned .frd (by simp [alignedParts])
  have hJudged := Dev.frame_judgeSlot (t := some t) ho
  rw [polygonParts_congr hFrd] at hJudged
  exact ⟨Dev.edgeTaken_of_outcome hn ht ho Frame.refl Dev.missN_edgeAligned, (Dev.get_judgeSlot ho _).trans (Dev.sctSt_edgeAligned.trans h),
    (Dev.get_judgeSlot ho _).trans Dev.lock_edgeAligned,
    Frame.trans (Frame.mono Dev.frame_edgeAligned (by simp +contextual)) (Frame.mono hJudged (by simp +contextual [alignedParts]))⟩

end

section
variable {d : Dev} {n k t : Nat}

/-! ### What the sight of an edge leaves of the judgement -/

theorem Dev.slotErr_edgeSeen : (d.edgeSeen n t).slotErr n k t = d.slotErr n k t := by
  rw [Dev.slotErr, Dev.slotErr, Dev.sameGrid_edgeSeen.slotT16]

theorem Dev.get_edgeSeen (g : Fld) (h : 0x20000 < g.reg.off) : (d.edgeSeen n t).get g = d.get g := Frame.get Dev.frame_edgeSeen _ (reg_not_mem_seenParts h)

theorem Dev.lockTol_edgeSeen : (d.edgeSeen n t).lockTol n = d.lockTol n := by
  rw [Dev.lockTol, Dev.lockTol, Dev.get_edgeSeen _ (by simp only [F.CHn_SCT_CTRL.lock_tol, R.CHn_SCT_CTRL]; omega)]

theorem Dev.alignShift_edgeSeen : (d.edgeSeen n t).alignShift n = d.alignShift n := by
  rw [Dev.alignShift, Dev.alignShift, Dev.get_edgeSeen _ (by simp only [F.CHn_PXS_CTRL.align_shift, R.CHn_PXS_CTRL]; omega)]

theorem Dev.frd_edgeSeen : (d.edgeSeen n t).frd = d.frd := Dev.frame_edgeSeen .frd (by simp [seenParts, timeParts])

theorem Dev.heldPhi_edgeSeen : (d.edgeSeen n t).heldPhi n k = d.heldPhi n k := Dev.heldPhi_congr Dev.frd_edgeSeen (by rw [Dev.chS_edgeSeen])

theorem Dev.inWindow_edgeSeen : (d.edgeSeen n t).inWindow n k t ↔ d.inWindow n k t := by
  rw [Dev.inWindow, Dev.inWindow, Dev.sameGrid_edgeSeen.slotT, Dev.get_edgeSeen _ (by simp only [F.CHn_SCT_CTRL.bd_window, R.CHn_SCT_CTRL]; omega)]

theorem Dev.losesPhase_edgeSeen : (d.edgeSeen n t).losesPhase n k t ↔ d.losesPhase n k t := by
  rw [Dev.losesPhase, Dev.losesPhase, Dev.lockTol_edgeSeen, Dev.slotErr_edgeSeen, Dev.chS_edgeSeen]

theorem Dev.lockNext_edgeSeen (tol : Nat) (e : Option Int) : (d.edgeSeen n t).lockNext n tol e = d.lockNext n tol e := by
  rw [Dev.lockNext.eq_def, Dev.lockNext.eq_def, Dev.get_edgeSeen _ (by simp only [F.CHn_SCT_STATUS.lock_count, R.CHn_SCT_STATUS]; omega)]

theorem Dev.lockNext_some (tol : Nat) (e : Int) : d.lockNext n tol (some e) = if e.natAbs ≤ tol then min 64 (d.get (F.CHn_SCT_STATUS.lock_count n) + 1) else 0 := by
  simp only [Dev.lockNext, decide_eq_true_eq]

theorem phiNext_some (a : Nat) (held : Option Int) (e : Int) : phiNext a held (some e) = match held with | none => e | some p => p + (e - p) / 2 ^ a := by
  cases held <;> rfl

end
end Sys2Proof.Machine

namespace Sys2Proof.Proofs
section
variable {s : State} {n : Fin 8} {t64 k : Nat} {rising : Bool}

section
variable (hSel : s.dev.bdSelected n rising = true) (hRuns : s.dev.sctRuns n = true) (hSt : s.dev.sctSt n = 3) (hNext : (s.dev.chS n).judged = k)
  (hRef : 65536 * s.dev.gridRef n ≤ t64 * 1024 + s.dev.gridP n / 2) (hSlot : s.dev.bdSlot n t64 = some k)
include hSel hRuns hSt hNext hRef hSlot

/-- In IN_PHASE an edge in the window is judged at once (R210, R211, R215). -/
theorem bdEdge_judges (hIn : s.dev.inWindow n k t64) (ht : t64 < 2 ^ 62) : Completes (exec (.bdEdge n t64 rising) s) fun t =>
    let e := s.dev.slotErr n k t64
    let phi : Int := match s.dev.heldPhi n k with | none => e | some p => p + (e - p) / 2 ^ s.dev.alignShift n
    t.dev.get (F.CHn_SCT_PHASE_ERR.e n) = enc 32 e ∧ t.dev.rd (R.CHn_SCT_LAST_BD n) = t64 ∧ t.dev.rd (R.CHn_PXS_ALIGN n) = enc 32 phi ∧
    (t.dev.chS n).judged = k + 1 ∧ (t.dev.chS n).missN = 0 ∧ (t.dev.chS n).prevEdge = some (k, t64) ∧ (t.dev.chS n).edge = none ∧
    (if 4 * s.dev.lockTol n < e.natAbs ∧ 3 ≤ (s.dev.chS n).outN then
      t.dev.sctSt n = 1 ∧ t.dev.get (F.CHn_SCT_STATUS.lock_count n) = 0 ∧ bit (t.dev.rd (R.CHn_SCT_IRQ_STATUS n)) 1 = true ∧
        strobed s.dev t.dev n (0x11 * 2 ^ 24 + k % 2 ^ 24) (enc 32 e)
    else
      t.dev.sctSt n = 3 ∧ t.dev.get (F.CHn_SCT_STATUS.lock_count n) = (if e.natAbs ≤ s.dev.lockTol n then min 64 (s.dev.get (F.CHn_SCT_STATUS.lock_count n) + 1) else 0) ∧
        s.Frame (alignedParts n ++ axisPart s.dev n ++ (if s.dev.twin = true then [Part.out, Part.twn] else []) ++ timeParts) t) := by
  refine completes_onDev (·.bdEdge n t64 rising) rfl ?_
  have hSt' : (s.dev.edgeSeen n t64).sctSt n = 3 := Dev.sctSt_edgeSeen.trans hSt
  simp only [Dev.bdEdge_inSlot hRuns hSel hRef hSlot hNext, Dev.edgeInSlot_window hSt' (Dev.inWindow_edgeSeen.mpr hIn)]
  have hShown : Dev.EdgeTaken n k t64 (s.dev.edgeSeen n t64) ((s.dev.edgeSeen n t64).judgeSlot n k (some t64)) →
      Dev.EdgeTaken n k t64 s.dev ((s.dev.edgeSeen n t64).judgeSlot n k (some t64)) := fun h =>
    { h with err := Dev.slotErr_edgeSeen ▸ h.err, phi := by rw [h.phi, Dev.slotErr_edgeSeen, Dev.alignShift_edgeSeen, Dev.heldPhi_edgeSeen] }
  by_cases hLost : 4 * s.dev.lockTol n < (s.dev.slotErr n k t64).natAbs ∧ 3 ≤ (s.dev.chS n).outN
  · obtain ⟨hTaken, hState, hLock, hBit, hStrobed⟩ := Dev.judgeSlot_loses n.isLt (by omega) hSt' (Dev.losesPhase_edgeSeen.mpr hLost)
    rw [Dev.slotErr_edgeSeen] at hStrobed
    have h := hShown hTaken
    refine ⟨h.err, h.last, h.phi.trans (by rw [phiNext_some]), h.judged, h.missN, h.prevEdge, h.edge, ?_⟩
    rw [if_pos hLost]
    exact ⟨hState, hLock, hBit, strobed_before Dev.frame_edgeSeen hStrobed (by simp [seenParts, timeParts])
      (reg_not_mem_seenParts (by simp only [R.FLT_SRCi_STATE]; omega))⟩
  · obtain ⟨hTaken, hState, hLock, hFrame⟩ := Dev.judgeSlot_holds n.isLt (by omega) hSt' (fun h => hLost (Dev.losesPhase_edgeSeen.mp h))
    rw [polygonParts_congr Dev.frd_edgeSeen] at hFrame
    rw [Dev.lockTol_edgeSeen, Dev.lockNext_edgeSeen, Dev.slotErr_edgeSeen, Dev.lockNext_some] at hLock
    have h := hShown hTaken
    refine ⟨h.err, h.last, h.phi.trans (by rw [phiNext_some]), h.judged, h.missN, h.prevEdge, h.edge, ?_⟩
    rw [if_neg hLost]
    refine ⟨hState, hLock, Frame.ofDev (Frame.trans (Frame.mono Dev.frame_edgeSeen ?_) (Frame.mono hFrame ?_))⟩
    · simp +contextual [seenParts, alignedParts]
    · simp only [polygonParts, List.mem_append]
      tauto

/-- In IN_PHASE an edge outside the window is extra (R210). -/
theorem bdEdge_extra (hOut : ¬ s.dev.inWindow n k t64) : Completes (exec (.bdEdge n t64 rising) s) fun t =>
    t.dev.get (F.CHn_SCT_COUNTS.extra n) = min (s.dev.get (F.CHn_SCT_COUNTS.extra n) + 1) (2 ^ 16 - 1) ∧ (t.dev.chS n).judged = k ∧
    t.dev.sctSt n = 3 ∧ s.Frame ([Part.ch n, Part.reg (R.CHn_SCT_COUNTS n).off] ++ timeParts) t := by
  refine completes_onDev (·.bdEdge n t64 rising) rfl ?_
  have hSt' : (s.dev.edgeSeen n t64).sctSt n = 3 := Dev.sctSt_edgeSeen.trans hSt
  simp only [Dev.bdEdge_inSlot hRuns hSel hRef hSlot hNext, Dev.edgeInSlot_outside hSt' (fun h => hOut (Dev.inWindow_edgeSeen.mp h))]
  have hCount : Dev.Frame [Part.reg (R.CHn_SCT_COUNTS n).off] (s.dev.edgeSeen n t64) ((s.dev.edgeSeen n t64).count (F.CHn_SCT_COUNTS.extra n)) :=
    Frame.count Frame.refl _ _ (by simp [F.CHn_SCT_COUNTS.extra])
  refine ⟨by rw [extra_count, extra_edgeSeen], ?_, (Frame.get hCount _ ?_).trans hSt',
    Frame.ofDev (Frame.trans (Frame.mono Dev.frame_edgeSeen ?_) (Frame.mono hCount ?_))⟩
  · rw [Dev.chS_of_frame hCount (by simp), Dev.chS_edgeSeen]
    exact hNext
  all_goals simp +contextual [seenParts, F.CHn_SCT_STATUS.state, R.CHn_SCT_STATUS, R.CHn_SCT_COUNTS]

end
end
end Sys2Proof.Proofs

end

-- ==== Sitting: windows that close ====
section
/-! SUPPORT. A window that closes: SEARCH, the missed slot, and what every judgement leaves of engine time and the strobe watchdog
(R210, R211). -/

open Sys2Proof Sys2Proof.Machine Sys2Proof.Claims
set_option maxRecDepth 20000

namespace Sys2Proof.Machine
section
variable {d : Dev} {n k : Nat}

/-! ### The window of a slot closes (R210) -/

/-- How long after its grid time a slot waits for its edge. -/
def Dev.waitTicks (d : Dev) (n : Nat) : Nat := if d.sctSt n = 3 then max 1 (d.get (F.CHn_SCT_CTRL.bd_window n)) else d.gridP n / 131072

/-- Time reaches the end of the window of the next slot. -/
def Dev.windowOver (d : Dev) (n : Nat) : Dev :=
  d.advanceTo (d.slotT n (d.chS n).judged + d.waitTicks n + d.get (F.CHn_SCT_CTRL.bd_filter n))

/-- The edge that slot k has kept. -/
def Dev.edgeOf (d : Dev) (n k : Nat) : Option Nat :=
  match (d.chS n).edge with | some (j, t) => if j = k then some t else none | none => none

theorem Dev.frame_windowOver : Dev.Frame timeParts d (d.windowOver n) := Dev.frame_advanceTo _

theorem Dev.chS_windowOver : (d.windowOver n).chS n = d.chS n := Dev.chS_of_frame Dev.frame_windowOver (by simp [timeParts])

theorem Dev.settleSlots_succ (i : Nat) (h : (d.chS n).judged < k) :
    Dev.settleSlots (i + 1) d n k = Dev.settleSlots i (d.judgeSlot n (d.chS n).judged (d.edgeOf n (d.chS n).judged)) n k := by
  rw [Dev.settleSlots, if_neg (by omega)]
  rfl

theorem Dev.bdClose_eq (hRuns : d.sctRuns n = true) (hNext : (d.chS n).judged = k) : d.bdClose n = (d.windowOver n).judgeSlot n k (d.edgeOf n k) := by
  have hOver : ((d.windowOver n).chS n).judged = k := by rw [Dev.chS_windowOver, hNext]
  have hEdge : (d.windowOver n).edgeOf n k = d.edgeOf n k := by rw [Dev.edgeOf, Dev.edgeOf, Dev.chS_windowOver]
  rw [Dev.bdClose, if_neg (by simp [hRuns])]
  show Dev.settleSlots 1 (d.windowOver n) n ((d.chS n).judged + 1) = _
  rw [hNext, Dev.settleSlots_succ 0 (by omega), hOver, hEdge, Dev.settleSlots]

theorem Dev.gridP_lt : d.gridP n < 2 ^ 48 := bits_lt _ _ _

theorem Dev.now_windowOver (hRuns : d.evt.running = true) (hNow : d.now < 2 ^ 62) (hSlot : d.slotT n (d.chS n).judged < 2 ^ 61) :
    (d.windowOver n).now = d.timeAt (d.slotT n (d.chS n).judged + d.waitTicks n + d.get (F.CHn_SCT_CTRL.bd_filter n)) := by
  have hFilter : d.get (F.CHn_SCT_CTRL.bd_filter n) < 2 ^ 4 := Dev.get_lt _ _
  have hWindow : d.get (F.CHn_SCT_CTRL.bd_window n) < 2 ^ 8 := Dev.get_lt _ _
  have hPeriod : d.gridP n < 2 ^ 48 := Dev.gridP_lt
  have hWait : d.waitTicks n < 2 ^ 31 := by
    unfold Dev.waitTicks
    split_ifs <;> omega
  have hLt := d.timeAt_lt (d.slotT n (d.chS n).judged + d.waitTicks n + d.get (F.CHn_SCT_CTRL.bd_filter n))
  exact Dev.now_advanceTo d _ hRuns (by omega)

theorem Dev.get_windowOver (g : Fld) (h : 0x20000 < g.reg.off) : (d.windowOver n).get g = d.get g := Frame.get Dev.frame_windowOver _ (reg_not_mem_timeParts h)

theorem Dev.sameGrid_windowOver : Dev.SameGrid n d (d.windowOver n) := .ofFrame Dev.frame_windowOver (by simp [timeParts]) (by simp [timeParts])

theorem Dev.sctSt_windowOver : (d.windowOver n).sctSt n = d.sctSt n := Dev.get_windowOver _ (by simp only [F.CHn_SCT_STATUS.state, R.CHn_SCT_STATUS]; omega)

theorem Dev.lockTol_windowOver : (d.windowOver n).lockTol n = d.lockTol n := by
  rw [Dev.lockTol, Dev.lockTol, Dev.get_windowOver _ (by simp only [F.CHn_SCT_CTRL.lock_tol, R.CHn_SCT_CTRL]; omega)]

theorem Dev.slotErr_windowOver (t : Nat) : (d.windowOver n).slotErr n k t = d.slotErr n k t := by
  rw [Dev.slotErr, Dev.slotErr, Dev.sameGrid_windowOver.slotT16]

theorem Dev.lockNext_windowOver (tol : Nat) (e : Option Int) : (d.windowOver n).lockNext n tol e = d.lockNext n tol e := by
  rw [Dev.lockNext.eq_def, Dev.lockNext.eq_def, Dev.get_windowOver _ (by simp only [F.CHn_SCT_STATUS.lock_count, R.CHn_SCT_STATUS]; omega)]

theorem Dev.missLimit_windowOver : (d.windowOver n).missLimit n = d.missLimit n := by
  rw [Dev.missLimit, Dev.missLimit, Dev.get_windowOver _ (by simp only [F.CHn_SCT_CTRL.miss_limit, R.CHn_SCT_CTRL]; omega)]

theorem Dev.chTag_windowOver : (d.windowOver n).chTag n = d.chTag n := by rw [Dev.chTag, Dev.chTag, Dev.chS_windowOver]

/-! ### A slot in SEARCH (R211) -/

/-- What a slot in SEARCH changes besides its edge. -/
def searchSlotParts (n : Nat) : List Part := [Part.ch n, Part.reg (R.CHn_SCT_STATUS n).off] ++ foundParts n

theorem Dev.frame_searchSlot (lock : Nat) : Dev.Frame (searchSlotParts n) d (d.searchSlot n lock) := by
  have hMod : ∀ u, Dev.Frame (searchSlotParts n) d (d.modCh n u) := fun u => Frame.modCh Frame.refl n u (by simp [searchSlotParts])
  refine Frame.ite Frame.refl (Frame.ite ?ident ?inPhase)
  case ident =>
    exact Frame.sctEnter (hMod _) n (by decide) 0 (by simp [searchSlotParts]) (by simp [searchSlotParts, foundParts]) (by simp [searchSlotParts, foundParts])
  case inPhase =>
    have hRot : Dev.Frame (searchSlotParts n) d (d.put (F.CHn_SCT_STATUS.facet_rot n) 0) := Frame.put Frame.refl _ _ (by simp [searchSlotParts, F.CHn_SCT_STATUS.facet_rot])
    have hIn : Dev.Frame (searchSlotParts n) (d.put (F.CHn_SCT_STATUS.facet_rot n) 0)
        (((d.put (F.CHn_SCT_STATUS.facet_rot n) 0).modCh n ChSt.inPhase).put (F.CHn_SCT_STATUS.state n) 3) :=
      Frame.put (Frame.modCh Frame.refl n _ (by simp [searchSlotParts])) _ _ (by simp [searchSlotParts, F.CHn_SCT_STATUS.state])
    exact Frame.trans hRot (Frame.trans hIn (Frame.mono Dev.sctInPhase_shown (by simp +contextual [searchSlotParts])))

/-- What 64 slots in tolerance reach. -/
theorem Dev.searchSlot_spec (hn : n < 8) (lock : Nat) (h : d.sctSt n = 1) :
    (d.searchSlot n lock).get (F.CHn_SCT_STATUS.lock_count n) = d.get (F.CHn_SCT_STATUS.lock_count n) ∧
    (if lock < 64 then (d.searchSlot n lock).sctSt n = 1
    else if d.on (F.CHn_SCT_CTRL.facet_mode n) = true then (d.searchSlot n lock).sctSt n = 2 ∧ ((d.searchSlot n lock).chS n).idN = 0
    else (d.searchSlot n lock).sctSt n = 3 ∧ (d.searchSlot n lock).get (F.CHn_SCT_STATUS.facet_rot n) = 0 ∧ ((d.searchSlot n lock).chS n).phi = [] ∧
      bit ((d.searchSlot n lock).rd (R.CHn_SCT_IRQ_STATUS n)) 0 = true) := by
  unfold Dev.searchSlot
  by_cases hLock : lock < 64
  · simp only [if_pos hLock]
    exact ⟨trivial, h⟩
  simp only [if_neg hLock]
  by_cases hMode : d.on (F.CHn_SCT_CTRL.facet_mode n) = true
  · simp only [if_pos hMode]
    have hShown := Dev.sctEnter_shown (d := d.modCh n ChSt.searching) (n := n) (st := 2) (by decide) 0
    refine ⟨(Frame.get hShown _ (by simp)).trans (Dev.lock_put_state 2), (Frame.get hShown _ (by simp)).trans (Dev.sctSt_put_state (by decide)), ?_⟩
    rw [Dev.chS_of_frame hShown (by simp), Dev.chS_put, Dev.chS_modCh_same]
    rfl
  · simp only [if_neg hMode]
    obtain ⟨hSt, hCh, hBit, hLockKept, hRot⟩ := Dev.sctInPhase_spec (d := d.put (F.CHn_SCT_STATUS.facet_rot n) 0) hn
    exact ⟨hLockKept.trans (Dev.get_put_other _ _ _ _ rfl rfl rfl rfl), hSt, hRot.trans (Dev.get_put_same _ _ _ rfl), by rw [hCh]; rfl, hBit⟩

end

section
variable {d : Dev} {n k t : Nat}

theorem Dev.slotOutcome_search (h : d.sctSt n = 1) : d.slotOutcome n k (some t) (some (d.slotErr n k t)) =
    ((d.slotNoted n k (some t) (some (d.slotErr n k t))).aligner n k none).searchSlot n (d.lockNext n (d.lockTol n) (some (d.slotErr n k t))) := by
  rw [Dev.slotOutcome_eq, Dev.slotActs_search ((Dev.sctSt_slotNoted _ _).trans h)]

theorem reg_not_mem_searchSlotParts {o : Nat} (hlo : 0x200000 ≤ o) (hhi : o < 0x1000000) (hStatus : o ≠ (R.CHn_SCT_STATUS n).off)
    (hIrq : o ≠ (R.CHn_SCT_IRQ_STATUS n).off) : Part.reg o ∉ searchSlotParts n := by
  simp [searchSlotParts, reg_not_mem_foundParts hlo hhi hIrq, hStatus]

/-- A slot judged in SEARCH by its edge. -/
theorem Dev.judgeSlot_search (hn : n < 8) (ht : t < 2 ^ 64) (h : d.sctSt n = 1) :
    let e := d.slotErr n k t
    let lock := d.lockNext n (d.lockTol n) (some e)
    let j := d.judgeSlot n k (some t)
    j.get (F.CHn_SCT_PHASE_ERR.e n) = enc 32 e ∧ j.rd (R.CHn_SCT_LAST_BD n) = t ∧ j.get (F.CHn_SCT_STATUS.lock_count n) = lock ∧
    (if lock < 64 then j.sctSt n = 1
    else if d.on (F.CHn_SCT_CTRL.facet_mode n) = true then j.sctSt n = 2 ∧ (j.chS n).idN = 0
    else j.sctSt n = 3 ∧ j.get (F.CHn_SCT_STATUS.facet_rot n) = 0 ∧ (j.chS n).phi = [] ∧ bit (j.rd (R.CHn_SCT_IRQ_STATUS n)) 0 = true) := by
  intro e lock j
  have ho := Dev.slotOutcome_search (k := k) (t := t) h
  set c := d.slotNoted n k (some t) (some e)
  set a := c.aligner n k none
  have hNoted : Dev.Frame ([Part.ch n, Part.reg (R.CHn_SCT_STATUS n).off] ++ edgeParts n) d c := Dev.frame_slotNoted _ _
  have hAligned : Dev.Frame [Part.ch n, Part.reg (R.CHn_PXS_ALIGN n).off] c a := Dev.frame_aligner none
  have hActs : Dev.Frame (searchSlotParts n) a (a.searchSlot n lock) := Dev.frame_searchSlot lock
  have hOut : ∀ {r : Nat}, (r = (R.CHn_SCT_PHASE_ERR n).off ∨ r = (R.CHn_SCT_LAST_BD n).off) → Part.reg r ∉ searchSlotParts n := by
    simp only [R.CHn_SCT_PHASE_ERR, R.CHn_SCT_LAST_BD]
    intro r hr
    exact reg_not_mem_searchSlotParts (by omega) (by omega) (by simp only [R.CHn_SCT_STATUS]; omega) (by simp only [R.CHn_SCT_IRQ_STATUS]; omega)
  have hSt : a.sctSt n = 1 := (Dev.sctSt_aligner none).trans ((Dev.sctSt_slotNoted _ _).trans h)
  have hMode : a.on (F.CHn_SCT_CTRL.facet_mode n) = d.on (F.CHn_SCT_CTRL.facet_mode n) := by
    rw [Frame.on hAligned _ (by simp [F.CHn_SCT_CTRL.facet_mode, R.CHn_SCT_CTRL, R.CHn_PXS_ALIGN]),
      Frame.on hNoted _ (by simp [F.CHn_SCT_CTRL.facet_mode, R.CHn_SCT_CTRL, edgeParts, R.CHn_SCT_STATUS, R.CHn_SCT_PHASE_ERR, R.CHn_SCT_LAST_BD])]
  obtain ⟨hLock, hReach⟩ := Dev.searchSlot_spec hn lock hSt
  rw [hMode] at hReach
  have hChan : j.chS n = { (a.searchSlot n lock).chS n with judged := k + 1, edge := none, prevEdge := some (k, t) } := Dev.chS_judgeSlot ho
  have hStJ : j.sctSt n = (a.searchSlot n lock).sctSt n := Dev.get_judgeSlot ho _
  refine ⟨?_, ?_, ?_, ?_⟩
  · rw [Dev.get_judgeSlot ho, Frame.get hActs _ (hOut (.inl rfl)), Frame.get hAligned _ (by simp [F.CHn_SCT_PHASE_ERR.e, R.CHn_SCT_PHASE_ERR, R.CHn_PXS_ALIGN])]
    exact Dev.err_slotNoted t _
  · rw [Dev.rd_judgeSlot ho, Frame.rd hActs _ (hOut (.inr rfl)), Frame.rd hAligned _ (by simp [R.CHn_SCT_LAST_BD, R.CHn_PXS_ALIGN])]
    exact Dev.last_slotNoted ht _
  · rw [Dev.get_judgeSlot ho, hLock, Dev.lock_aligner]
    exact Dev.lock_slotNoted _ _
  · rwa [hStJ, hChan, Dev.get_judgeSlot ho, Dev.rd_judgeSlot ho]

/-! ### A slot missed in IN_PHASE (R211) -/

/-- The device with a missed slot counted, before it acts on the phase. -/
def Dev.missCounted (d : Dev) (n k : Nat) : Dev := ((d.slotNoted n k none none).count (F.CHn_SCT_COUNTS.missed n)).aligner n k none

/-- What a missed slot changes. -/
def missParts (n : Nat) : List Part :=
  [Part.ch n, Part.reg (R.CHn_SCT_STATUS n).off, Part.reg (R.CHn_SCT_COUNTS n).off, Part.reg (R.CHn_PXS_ALIGN n).off]

theorem Dev.slotOutcome_missed (h : d.sctSt n = 3) : d.slotOutcome n k none none = (d.missCounted n k).phaseMiss n k ((d.chS n).missN + 1) := by
  rw [Dev.slotOutcome_eq, Dev.slotActs_phaseMiss ((Dev.sctSt_slotNoted _ _).trans h)]
  rfl

theorem Dev.frame_missCounted : Dev.Frame (missParts n) d (d.missCounted n k) :=
  Frame.aligner (Frame.count (Frame.mono (Dev.frame_slotNoted_none none) (by simp [missParts])) _ _ (by simp [missParts, F.CHn_SCT_COUNTS.missed])) n k none
    (by simp [missParts]) (by simp [missParts])

theorem Dev.get_count_missed (c : Dev) (g : Fld) (h : g.reg.off ≠ (R.CHn_SCT_COUNTS n).off) : (c.count (F.CHn_SCT_COUNTS.missed n)).get g = c.get g :=
  Dev.get_put_ne _ _ _ _ h

theorem Dev.missed_missCounted : (d.missCounted n k).get (F.CHn_SCT_COUNTS.missed n) = min (d.get (F.CHn_SCT_COUNTS.missed n) + 1) (2 ^ 16 - 1) := by
  rw [Dev.missCounted, Frame.get (Dev.frame_aligner none) _ (by simp [F.CHn_SCT_COUNTS.missed, R.CHn_SCT_COUNTS, R.CHn_PXS_ALIGN]), Dev.get_count_same _ _ _ rfl,
    Frame.get (Dev.frame_slotNoted_none none) _ (by simp [F.CHn_SCT_COUNTS.missed, R.CHn_SCT_COUNTS, R.CHn_SCT_STATUS])]
  rfl

theorem Dev.lock_missCounted : (d.missCounted n k).get (F.CHn_SCT_STATUS.lock_count n) = 0 := by
  rw [Dev.missCounted, Dev.lock_aligner, Dev.get_count_missed _ _ (by simp [F.CHn_SCT_STATUS.lock_count, R.CHn_SCT_STATUS, R.CHn_SCT_COUNTS])]
  exact Dev.lock_slotNoted _ _

theorem Dev.sctSt_missCounted : (d.missCounted n k).sctSt n = d.sctSt n := by
  rw [Dev.missCounted, Dev.sctSt_aligner]
  exact (Dev.get_count_missed _ _ (by simp [F.CHn_SCT_STATUS.state, R.CHn_SCT_STATUS, R.CHn_SCT_COUNTS])).trans (Dev.sctSt_slotNoted _ _)

theorem Dev.chS_missCounted : ∃ l, (d.missCounted n k).chS n = { d.chS n with missN := (d.chS n).missN + 1, phi := l } := by
  obtain ⟨l, hCh⟩ := Dev.chS_aligner (d := (d.slotNoted n k none none).count (F.CHn_SCT_COUNTS.missed n)) (n := n) (k := k) none
  refine ⟨l, ?_⟩
  rw [Dev.missCounted, hCh, Dev.count, Dev.chS_put, Dev.chS_slotNoted]
  rfl

theorem Dev.missLimit_missCounted : (d.missCounted n k).missLimit n = d.missLimit n := by
  rw [Dev.missLimit, Dev.missLimit, Frame.get Dev.frame_missCounted _
    (by simp [missParts, F.CHn_SCT_CTRL.miss_limit, R.CHn_SCT_CTRL, R.CHn_SCT_STATUS, R.CHn_SCT_COUNTS, R.CHn_PXS_ALIGN])]

theorem Dev.chTag_missCounted : (d.missCounted n k).chTag n = d.chTag n := by
  obtain ⟨l, hCh⟩ := Dev.chS_missCounted (d := d) (n := n) (k := k)
  rw [Dev.chTag, Dev.chTag, hCh]

/-- What the flag and the record of a missed slot change. -/
def missNoteParts (n : Nat) : List Part := chBit (R.CHn_SCT_IRQ_STATUS n) ++ strobeParts n

theorem Dev.frame_missNoted (miss : Nat) : Dev.Frame (missNoteParts n) d (d.missNoted n k miss) :=
  Frame.trans (Frame.mono (Dev.frame_sctFlag 2) (by simp +contextual [missNoteParts])) (Frame.mono (Dev.frame_report n _ _) (by simp +contextual [missNoteParts]))

theorem Dev.missNoted_spec (hn : n < 8) (miss : Nat) : bit ((d.missNoted n k miss).rd (R.CHn_SCT_IRQ_STATUS n)) 2 = true ∧
    strobed d (d.missNoted n k miss) n (0x10 * 2 ^ 24 + k % 2 ^ 24) (d.chTag n * 2 ^ 16 + min miss 65535) := by
  have hFlag : Dev.Frame (chBit (R.CHn_SCT_IRQ_STATUS n)) d (d.sctFlag n 2) := Dev.frame_sctFlag 2
  have hNote : d.missNoted n k miss = (d.sctFlag n 2).report n (0x10 * 2 ^ 24 + k % 2 ^ 24) (d.chTag n * 2 ^ 16 + min miss 65535) := by
    rw [Dev.missNoted, Nat.shiftLeft_eq, Nat.shiftLeft_eq]
  rw [hNote]
  constructor
  · rw [Frame.rd (Dev.frame_report n _ _) _ (by simp [strobeParts, R.CHn_SCT_IRQ_STATUS, R.FLT_SRCi_STATE]; omega)]
    exact Dev.bit_sctFlag (by decide)
  · exact Dev.strobed_report _ _ (hFlag .strobes (by simp [chBit, irqParts]))
      (Frame.get hFlag _ (by simp [chBit, irqParts, F.FLT_SRCi_STATE.merged, R.FLT_SRCi_STATE, R.CHn_SCT_IRQ_STATUS, R.MSIX_PBA]; omega))

theorem strobeReg_not_mem_missParts (hn : n < 8) : Part.reg (R.FLT_SRCi_STATE n).off ∉ missParts n := by
  simp [missParts, R.FLT_SRCi_STATE, R.CHn_SCT_STATUS, R.CHn_SCT_COUNTS, R.CHn_PXS_ALIGN]
  omega

/-- A missed slot below the limit keeps the phase. -/
theorem Dev.judgeSlot_misses (hn : n < 8) (h : d.sctSt n = 3) (hFew : (d.chS n).missN + 1 < d.missLimit n) :
    let j := d.judgeSlot n k none
    j.get (F.CHn_SCT_COUNTS.missed n) = min (d.get (F.CHn_SCT_COUNTS.missed n) + 1) (2 ^ 16 - 1) ∧ j.get (F.CHn_SCT_STATUS.lock_count n) = 0 ∧
    (j.chS n).judged = k + 1 ∧ j.sctSt n = 3 ∧ (j.chS n).missN = (d.chS n).missN + 1 ∧ bit (j.rd (R.CHn_SCT_IRQ_STATUS n)) 2 = true ∧
    strobed d j n (0x10 * 2 ^ 24 + k % 2 ^ 24) (d.chTag n * 2 ^ 16 + min ((d.chS n).missN + 1) 65535) ∧ Dev.Frame (missParts n ++ missNoteParts n) d j := by
  intro j
  have ho : d.slotOutcome n k none none = (d.missCounted n k).missNoted n k ((d.chS n).missN + 1) := by
    rw [Dev.slotOutcome_missed h, Dev.phaseMiss, if_neg (by rw [Dev.missLimit_missCounted]; omega)]
  have hNote : Dev.Frame (missNoteParts n) (d.missCounted n k) ((d.missCounted n k).missNoted n k ((d.chS n).missN + 1)) := Dev.frame_missNoted _
  obtain ⟨hBit, hStrobed⟩ := Dev.missNoted_spec (d := d.missCounted n k) (k := k) hn ((d.chS n).missN + 1)
  rw [Dev.chTag_missCounted] at hStrobed
  obtain ⟨l, hCh⟩ := Dev.chS_missCounted (d := d) (n := n) (k := k)
  have hChan := Dev.chS_judgeSlot (t := none) ho
  have hJudged : Dev.Frame [Part.ch n] _ j := Dev.frame_judgeSlot_missed ho
  have hKept : ∀ {r : Nat}, (r = (R.CHn_SCT_COUNTS n).off ∨ r = (R.CHn_SCT_STATUS n).off) → Part.reg r ∉ missNoteParts n := by
    simp only [R.CHn_SCT_COUNTS, R.CHn_SCT_STATUS]
    intro r hr
    simp [missNoteParts, chBit, irqParts, strobeParts, R.CHn_SCT_IRQ_STATUS, R.MSIX_PBA, R.FLT_SRCi_STATE]
    omega
  refine ⟨?_, ?_, by rw [hChan], ?_, ?_, by rw [Dev.rd_judgeSlot (t := none) ho]; exact hBit,
    strobed_judgeSlot (t := none) ho (strobed_before Dev.frame_missCounted hStrobed (by simp [missParts]) (strobeReg_not_mem_missParts hn)),
    Frame.trans (Frame.mono Dev.frame_missCounted (by simp +contextual)) (Frame.trans (Frame.mono hNote (by simp +contextual)) (Frame.mono hJudged (by simp [missParts])))⟩
  · rw [Dev.get_judgeSlot (t := none) ho, Frame.get hNote _ (hKept (.inl rfl)), Dev.missed_missCounted]
  · rw [Dev.get_judgeSlot (t := none) ho, Frame.get hNote _ (hKept (.inr rfl)), Dev.lock_missCounted]
  · exact (Dev.get_judgeSlot (t := none) ho _).trans ((Frame.get hNote _ (hKept (.inr rfl))).trans (Dev.sctSt_missCounted.trans h))
  · rw [hChan, Dev.chS_of_frame hNote (by simp [missNoteParts, chBit, irqParts, strobeParts]), hCh]

/-- A missed slot at the limit loses the phase. -/
theorem Dev.judgeSlot_missesLast (hn : n < 8) (h : d.sctSt n = 3) (hLast : ¬ (d.chS n).missN + 1 < d.missLimit n) :
    let j := d.judgeSlot n k none
    j.get (F.CHn_SCT_COUNTS.missed n) = min (d.get (F.CHn_SCT_COUNTS.missed n) + 1) (2 ^ 16 - 1) ∧ j.get (F.CHn_SCT_STATUS.lock_count n) = 0 ∧
    (j.chS n).judged = k + 1 ∧ j.sctSt n = 1 ∧ bit (j.rd (R.CHn_SCT_IRQ_STATUS n)) 1 = true ∧
    strobed d j n (0x11 * 2 ^ 24 + k % 2 ^ 24) (d.get (F.CHn_SCT_PHASE_ERR.e n)) := by
  intro j
  have ho : d.slotOutcome n k none none = (d.missCounted n k).phaseLost n k := by
    rw [Dev.slotOutcome_missed h, Dev.phaseMiss, if_pos (by rw [Dev.missLimit_missCounted]; omega)]
  obtain ⟨hSt, hLock, hBit, -, hStrobed⟩ := Dev.phaseLost_spec (d := d.missCounted n k) (k := k) hn
  rw [Frame.get Dev.frame_missCounted (F.CHn_SCT_PHASE_ERR.e n)
    (by simp [missParts, F.CHn_SCT_PHASE_ERR.e, R.CHn_SCT_PHASE_ERR, R.CHn_SCT_STATUS, R.CHn_SCT_COUNTS, R.CHn_PXS_ALIGN])] at hStrobed
  have hChan := Dev.chS_judgeSlot (t := none) ho
  refine ⟨?_, (Dev.get_judgeSlot (t := none) ho _).trans hLock, by rw [hChan], (Dev.get_judgeSlot (t := none) ho _).trans hSt,
    by rw [Dev.rd_judgeSlot (t := none) ho]; exact hBit,
    strobed_judgeSlot (t := none) ho (strobed_before Dev.frame_missCounted hStrobed (by simp [missParts]) (strobeReg_not_mem_missParts hn))⟩
  rw [Dev.get_judgeSlot (t := none) ho, Frame.get Dev.frame_phaseLost _ ?_, Dev.missed_missCounted]
  exact reg_not_mem_lossParts (by simp only [F.CHn_SCT_COUNTS.missed, R.CHn_SCT_COUNTS]; omega) (by simp only [F.CHn_SCT_COUNTS.missed, R.CHn_SCT_COUNTS]; omega)
    (by simp [F.CHn_SCT_COUNTS.missed, R.CHn_SCT_COUNTS, R.CHn_SCT_STATUS]) (by simp [F.CHn_SCT_COUNTS.missed, R.CHn_SCT_COUNTS, R.CHn_SCT_IRQ_STATUS]) hn

end

/-! ### The judgement takes no time (R210, R254) -/

/-- Engine time and what the strobe watchdog of a channel has seen are the same. -/
structure Dev.SameWatch (n : Nat) (d e : Dev) : Prop where
  now : e.now = d.now
  wdFrom : (e.chS n).wdFrom = (d.chS n).wdFrom
  tripUn : (e.chS n).tripUn = (d.chS n).tripUn

namespace Dev.SameWatch
variable {d e f : Dev} {n : Nat}

theorem refl : Dev.SameWatch n d d := ⟨rfl, rfl, rfl⟩

theorem trans (h : Dev.SameWatch n d e) (g : Dev.SameWatch n e f) : Dev.SameWatch n d f :=
  ⟨g.now.trans h.now, g.wdFrom.trans h.wdFrom, g.tripUn.trans h.tripUn⟩

theorem ofFrame {ps : List Part} (h : Dev.Frame ps d e) (hTime : Part.reg R.EVT_TIME.off ∉ ps) (hc : Part.ch n ∉ ps) : Dev.SameWatch n d e := by
  have hCh : e.chS n = d.chS n := Dev.chS_of_frame h hc
  exact ⟨Frame.rd h _ hTime, by rw [hCh], by rw [hCh]⟩

theorem modCh (h : Dev.SameWatch n d e) {u : ChSt → ChSt} (hFrom : ∀ c, (u c).wdFrom = c.wdFrom) (hTrip : ∀ c, (u c).tripUn = c.tripUn) : Dev.SameWatch n d (e.modCh n u) :=
  h.trans ⟨rfl, by rw [Dev.chS_modCh_same, hFrom], by rw [Dev.chS_modCh_same, hTrip]⟩

theorem put (h : Dev.SameWatch n d e) (g : Fld) (v : Nat) (hg : 0x20000 < g.reg.off) : Dev.SameWatch n d (e.put g v) :=
  h.trans (ofFrame (Frame.put Frame.refl (ps := [Part.reg g.reg.off]) g v (by simp)) (by simp only [R.EVT_TIME, List.mem_singleton, Part.reg.injEq]; omega) (by simp))

theorem ite {c : Prop} [Decidable c] (h : Dev.SameWatch n d e) (g : Dev.SameWatch n d f) : Dev.SameWatch n d (if c then e else f) := by
  split <;> assumption

theorem each {α : Type} (h : Dev.SameWatch n d e) (l : List α) (u : Dev → α → Dev) (hu : ∀ x a, Dev.SameWatch n x (u x a)) : Dev.SameWatch n d (e.each l u) := by
  unfold Dev.each
  induction l generalizing e with
  | nil => exact h
  | cons a l ih => exact ih (h.trans (hu e a))

theorem aligner (h : Dev.SameWatch n d e) (k : Nat) (x : Option Int) : Dev.SameWatch n d (e.aligner n k x) := by
  rw [Dev.aligner_eq]
  exact (h.put _ _ (by simp only [F.CHn_PXS_ALIGN.phi, R.CHn_PXS_ALIGN]; omega)).modCh (fun _ => rfl) fun _ => rfl

theorem sctFlag (h : Dev.SameWatch n d e) (k : Nat) : Dev.SameWatch n d (e.sctFlag n k) :=
  h.trans (ofFrame (Dev.frame_sctFlag k) (by simp [chBit, irqParts, R.EVT_TIME, R.CHn_SCT_IRQ_STATUS, R.MSIX_PBA]; omega) (by simp [chBit, irqParts]))

theorem report (h : Dev.SameWatch n d e) (src d0 d1 : Nat) : Dev.SameWatch n d (e.report src d0 d1) :=
  h.trans (ofFrame (Dev.frame_report src d0 d1) (by simp [strobeParts, R.EVT_TIME, R.FLT_SRCi_STATE]; omega) (by simp [strobeParts]))

theorem searchShown (h : Dev.SameWatch n d e) : Dev.SameWatch n d (e.searchShown n) := by
  have hStatus : 0x20000 < (R.CHn_SCT_STATUS n).off := by simp only [R.CHn_SCT_STATUS]; omega
  have hMod : Dev.SameWatch n d (e.modCh n ChSt.searching) := h.modCh (fun _ => rfl) fun _ => rfl
  exact (hMod.put (F.CHn_SCT_STATUS.lock_count n) 0 hStatus).put (F.CHn_SCT_STATUS.state n) 1 hStatus

theorem sctSearch (h : Dev.SameWatch n d e) (rot : Nat) : Dev.SameWatch n d (e.sctSearch n rot) := by
  rw [Dev.sctSearch_eq]
  exact h.searchShown.trans (ofFrame (Dev.frame_sendInput _ _ _ _) (by simp) (by simp))

theorem sctEnter (h : Dev.SameWatch n d e) {st : Nat} (hst : st ≠ 0) : Dev.SameWatch n d (e.sctEnter n st) :=
  (h.put (F.CHn_SCT_STATUS.state n) st (by simp only [F.CHn_SCT_STATUS.state, R.CHn_SCT_STATUS]; omega)).trans (ofFrame (Dev.sctEnter_shown hst 0) (by simp) (by simp))

theorem sctInPhase (h : Dev.SameWatch n d e) : Dev.SameWatch n d (e.sctInPhase n) :=
  (((h.modCh (u := ChSt.inPhase) (fun _ => rfl) fun _ => rfl).put (F.CHn_SCT_STATUS.state n) 3 (by simp only [F.CHn_SCT_STATUS.state, R.CHn_SCT_STATUS]; omega))).trans
    (ofFrame Dev.sctInPhase_shown (by simp [foundParts, chBit, irqParts, R.EVT_TIME, R.LG_STATUS, R.CHn_SCT_IRQ_STATUS, R.MSIX_PBA]; omega) (by simp [foundParts, chBit, irqParts]))

theorem phaseLost (h : Dev.SameWatch n d e) (k : Nat) : Dev.SameWatch n d (e.phaseLost n k) :=
  (((h.sctFlag 1).report _ _ _).sctSearch 0).trans
    (ofFrame (Dev.frame_lgStation 2) (by simp [stationParts, R.EVT_TIME, R.LG_Ss_STAT, R.LG_STATUS]; omega) (by simp [stationParts]))

theorem slewStart (h : Dev.SameWatch n d e) (a r p : Nat) : Dev.SameWatch n d (e.slewStart a r p) :=
  h.trans (ofFrame (Frame.put (Frame.putBld Frame.refl (ps := [Part.bld a, Part.reg (R.BLD_AXa_STATUS a).off]) a _ (by simp)) (F.BLD_AXa_STATUS.slewing a) 1
    (by simp [F.BLD_AXa_STATUS.slewing])) (by simp [R.EVT_TIME, R.BLD_AXa_STATUS]; omega) (by simp))

theorem slotQueue (h : Dev.SameWatch n d e) (u : TwIn) : Dev.SameWatch n d (e.slotQueue u) :=
  h.trans (ofFrame (Frame.slotQueue Frame.refl (ps := [Part.twn]) u (by simp)) (by simp) (by simp))

theorem identify (h : Dev.SameWatch n d e) : Dev.SameWatch n d (e.identify n) := by
  unfold Dev.identify
  extract_lets ch f m shown sig ss lo best rest second found lost
  have hShown : Dev.SameWatch n d shown :=
    h.each _ _ fun x g => refl.put (F.CHn_SCT_FACET_DEVg.dev n g) _ (by simp only [F.CHn_SCT_FACET_DEVg.dev, R.CHn_SCT_FACET_DEVg]; omega)
  have hFound : Dev.SameWatch n d found := (hShown.put (F.CHn_SCT_STATUS.facet_rot n) best (by simp only [F.CHn_SCT_STATUS.facet_rot, R.CHn_SCT_STATUS]; omega)).sctFlag 4
  have hLost : Dev.SameWatch n d lost := hFound.sctSearch best
  refine ite (ite hFound.sctInPhase (ite ?_ hLost)) (((hShown.sctFlag 3).report _ _ _).sctSearch 0)
  split
  · exact ite (hLost.slotQueue _) (hLost.slewStart _ _ _)
  · exact hLost

theorem identSlot (h : Dev.SameWatch n d e) (k : Nat) (t : Option Nat) : Dev.SameWatch n d (e.identSlot n k t) := by
  have hSum : ∀ a b c, Dev.SameWatch n d (e.modCh n fun x => { x with idSum := a, idCnt := b, idN := c }) := fun _ _ _ => h.modCh (fun _ => rfl) fun _ => rfl
  unfold Dev.identSlot
  dsimp only
  split <;> exact ite (hSum _ _ _).identify (hSum _ _ _)

theorem searchSlot (h : Dev.SameWatch n d e) (lock : Nat) : Dev.SameWatch n d (e.searchSlot n lock) :=
  ite h (ite ((h.modCh (u := ChSt.searching) (fun _ => rfl) fun _ => rfl).sctEnter (by decide))
    (h.put (F.CHn_SCT_STATUS.facet_rot n) 0 (by simp only [F.CHn_SCT_STATUS.facet_rot, R.CHn_SCT_STATUS]; omega)).sctInPhase)

theorem missNoted (h : Dev.SameWatch n d e) (k miss : Nat) : Dev.SameWatch n d (e.missNoted n k miss) := (h.sctFlag 2).report _ _ _

theorem slotNoted (h : Dev.SameWatch n d e) (k : Nat) (t : Option Nat) (x : Option Int) : Dev.SameWatch n d (e.slotNoted n k t x) := by
  have hShown : Dev.SameWatch n d (e.edgeShown n k t) :=
    h.trans (ofFrame (Dev.frame_edgeShown t) (by simp [edgeParts, R.EVT_TIME, R.CHn_SCT_PHASE_ERR, R.CHn_SCT_LAST_BD]; omega) (by simp [edgeParts]))
  exact (hShown.put (F.CHn_SCT_STATUS.lock_count n) _ (by simp only [F.CHn_SCT_STATUS.lock_count, R.CHn_SCT_STATUS]; omega)).modCh
    (u := fun c => { c with outN := e.outNext n (e.lockTol n) x, missN := e.missNext n x }) (fun _ => rfl) fun _ => rfl

theorem slotActs (h : Dev.SameWatch n d e) (k : Nat) (t : Option Nat) (x : Option Int) (lock out miss : Nat) :
    Dev.SameWatch n d (e.slotActs n k t x lock out miss) := by
  have hWhen : Dev.SameWatch n d (e.when (e.sctSt n = 1 || e.sctSt n = 2) (·.aligner n k none)) := ite (h.aligner k none) h
  rw [Dev.slotActs.eq_def]
  dsimp only
  generalize e.when _ _ = f at *
  split
  · exact hWhen.searchSlot lock
  · exact ite (hWhen.sctSearch 0) (hWhen.identSlot k t)
  · split
    · exact ite ((hWhen.aligner k _).phaseLost k) (hWhen.aligner k _)
    · have hMissed : Dev.SameWatch n d ((f.count (F.CHn_SCT_COUNTS.missed n)).aligner n k none) :=
        (hWhen.put _ _ (by simp only [F.CHn_SCT_COUNTS.missed, R.CHn_SCT_COUNTS]; omega)).aligner k none
      exact ite (hMissed.phaseLost k) (hMissed.missNoted k miss)
  · exact hWhen

theorem judgeSlot (h : Dev.SameWatch n d e) (k : Nat) (t : Option Nat) : Dev.SameWatch n d (e.judgeSlot n k t) := by
  rw [Dev.judgeSlot_eq, Dev.slotOutcome_eq]
  refine (((h.slotNoted k t _).slotActs k t _ _ _ _).trans (ofFrame (Dev.frame_polygonTakes _) (reg_not_mem_polygonParts _) ?_)).modCh (fun _ => rfl) fun _ => rfl
  unfold polygonParts axisPart
  split_ifs <;> simp

theorem settleSlots (h : Dev.SameWatch n d e) (i k : Nat) : Dev.SameWatch n d (Dev.settleSlots i e n k) := by
  induction i generalizing e with
  | zero => exact h
  | succ i ih => exact ite h (ih (h.judgeSlot _ _))

theorem edgeInSlot (h : Dev.SameWatch n d e) (k t : Nat) : Dev.SameWatch n d (e.edgeInSlot n k t) := by
  have hExtra : Dev.SameWatch n d (e.count (F.CHn_SCT_COUNTS.extra n)) := h.put _ _ (by simp only [F.CHn_SCT_COUNTS.extra, R.CHn_SCT_COUNTS]; omega)
  unfold Dev.edgeInSlot
  refine ite (ite (h.judgeSlot k (some t)) hExtra) ?_
  split
  · exact h.modCh (fun _ => rfl) fun _ => rfl
  · exact ite (hExtra.modCh (fun _ => rfl) fun _ => rfl) hExtra

theorem edgeOfSlot (h : Dev.SameWatch n d e) (k t : Nat) : Dev.SameWatch n d (e.edgeOfSlot n k t) := by
  have hSettled : Dev.SameWatch n d (if (e.chS n).judged < k then Dev.settleSlots (k - (e.chS n).judged) e n k else e) := ite (h.settleSlots _ _) h
  unfold Dev.edgeOfSlot
  exact ite (hSettled.put _ _ (by simp only [F.CHn_SCT_COUNTS.extra, R.CHn_SCT_COUNTS]; omega)) (hSettled.edgeInSlot k t)

end Dev.SameWatch

end Sys2Proof.Machine

namespace Sys2Proof.Proofs
section
variable {s : State} {n : Fin 8} {t64 : Nat} {rising : Bool}

/-- Every selected edge takes engine time to its own, feeds the strobe watchdog, and is extra where it lies in no slot (R210, R254). -/
theorem bdEdge_seen (hSel : s.dev.bdSelected n rising = true) (hDom : s.dev.domOn (4 + n) = true) (hRuns : s.dev.evt.running = true)
    (hBounds : s.dev.now < 2 ^ 62 ∧ t64 < 2 ^ 62) : Completes (exec (.bdEdge n t64 rising) s) fun t =>
      t.dev.now = s.dev.timeAt (t64 / 64 + s.dev.get (F.CHn_SCT_CTRL.bd_filter n)) ∧ (t.dev.chS n).wdFrom = t.dev.now ∧ (t.dev.chS n).tripUn = false ∧
      (s.dev.sctRuns n = true → 65536 * s.dev.gridRef n ≤ t64 * 1024 + s.dev.gridP n / 2 → s.dev.bdSlot n t64 = none →
        t.dev.get (F.CHn_SCT_COUNTS.extra n) = min (s.dev.get (F.CHn_SCT_COUNTS.extra n) + 1) (2 ^ 16 - 1)) ∧ t.mem = s.mem ∧ t.pending = s.pending := by
  refine completes_onDev (·.bdEdge n t64 rising) rfl ?_
  have hWatch : Dev.SameWatch n (s.dev.edgeSeen n t64) (s.dev.bdEdge n t64 rising) := by
    rw [Dev.bdEdge_eq hDom hSel]
    refine Dev.SameWatch.refl.ite ?_
    split
    · exact Dev.SameWatch.refl.put _ _ (by simp only [F.CHn_SCT_COUNTS.extra, R.CHn_SCT_COUNTS]; omega)
    · exact Dev.SameWatch.refl.edgeOfSlot _ _
  have hNow := hWatch.now.trans (Dev.now_edgeSeen hRuns hBounds.1 hBounds.2)
  refine ⟨hNow, hWatch.wdFrom.trans ?_, hWatch.tripUn.trans ?_, fun hOn hRef hNone => ?_, rfl, rfl⟩
  · rw [Dev.chS_edgeSeen]
    exact hWatch.now.symm
  · rw [Dev.chS_edgeSeen]
  · simp only [Dev.bdEdge_onGrid hOn hSel hRef, hNone, extra_count, extra_edgeSeen]

/-- BD_WINDOW_CLOSE judges the next slot by the edge that it has kept. -/
theorem completes_bdWindowClose {P : State → Prop} {k : Nat} {x : Option Nat} (hRuns : s.dev.sctRuns n = true) (hNext : (s.dev.chS n).judged = k)
    (hEdge : s.dev.edgeOf n k = x) (h : P { s with dev := (s.dev.windowOver n).judgeSlot n k x }) : Completes (exec (.bdWindowClose n) s) P :=
  completes_onDev (·.bdClose n) rfl (by rw [Dev.bdClose_eq hRuns hNext, hEdge]; exact h)

section
variable (hRuns : s.dev.sctRuns n = true) (hBounds : s.dev.now < 2 ^ 62 ∧ s.dev.slotT n (s.dev.chS n).judged < 2 ^ 61)
include hRuns

include hBounds in
/-- A window that closes judges its slot, and the next one waits for its edge (R210). -/
theorem bdWindowClose_judges : Completes (exec (.bdWindowClose n) s) fun t =>
    t.dev.now = s.dev.timeAt (s.dev.slotT n (s.dev.chS n).judged + s.dev.waitTicks n + s.dev.get (F.CHn_SCT_CTRL.bd_filter n)) ∧
    (t.dev.chS n).judged = (s.dev.chS n).judged + 1 ∧ (t.dev.chS n).edge = none ∧ t.mem = s.mem ∧ t.pending = s.pending := by
  refine completes_bdWindowClose hRuns rfl rfl ?_
  obtain ⟨-, -, -, hRunning⟩ := Dev.sctRuns_parts hRuns
  have hChan := Dev.chS_judgeSlot (d := s.dev.windowOver n) (n := n) (k := (s.dev.chS n).judged) (t := s.dev.edgeOf n (s.dev.chS n).judged) rfl
  have hWatch : Dev.SameWatch n (s.dev.windowOver n) _ := Dev.SameWatch.refl.judgeSlot (s.dev.chS n).judged (s.dev.edgeOf n (s.dev.chS n).judged)
  exact ⟨hWatch.now.trans (Dev.now_windowOver hRunning hBounds.1 hBounds.2), by rw [hChan], by rw [hChan], rfl, rfl⟩

/-- In SEARCH a slot that closes with its edge counts toward the lock, and the 64th in a row reaches IN_PHASE or the identification (R211). -/
theorem bdWindowClose_searches (hSt : s.dev.sctSt n = 1) (hEdge : (s.dev.chS n).edge = some ((s.dev.chS n).judged, t64)) (ht : t64 < 2 ^ 62) :
    Completes (exec (.bdWindowClose n) s) fun t =>
      let e := s.dev.slotErr n (s.dev.chS n).judged t64
      let lock := if e.natAbs ≤ s.dev.lockTol n then min 64 (s.dev.get (F.CHn_SCT_STATUS.lock_count n) + 1) else 0
      t.dev.get (F.CHn_SCT_PHASE_ERR.e n) = enc 32 e ∧ t.dev.rd (R.CHn_SCT_LAST_BD n) = t64 ∧ t.dev.get (F.CHn_SCT_STATUS.lock_count n) = lock ∧
      (if lock < 64 then t.dev.sctSt n = 1
      else if s.dev.on (F.CHn_SCT_CTRL.facet_mode n) = true then t.dev.sctSt n = 2 ∧ (t.dev.chS n).idN = 0
      else t.dev.sctSt n = 3 ∧ t.dev.get (F.CHn_SCT_STATUS.facet_rot n) = 0 ∧ (t.dev.chS n).phi = [] ∧ bit (t.dev.rd (R.CHn_SCT_IRQ_STATUS n)) 0 = true) ∧
      t.mem = s.mem ∧ t.pending = s.pending := by
  have hKept : s.dev.edgeOf n (s.dev.chS n).judged = some t64 := by simp [Dev.edgeOf, hEdge]
  refine completes_bdWindowClose hRuns rfl hKept ?_
  have hMode : (s.dev.windowOver n).on (F.CHn_SCT_CTRL.facet_mode n) = s.dev.on (F.CHn_SCT_CTRL.facet_mode n) := by
    rw [Dev.on, Dev.get_windowOver _ (by simp only [F.CHn_SCT_CTRL.facet_mode, R.CHn_SCT_CTRL]; omega), Dev.on]
  obtain ⟨hErr, hLast, hLock, hReach⟩ :=
    Dev.judgeSlot_search (k := (s.dev.chS n).judged) (t := t64) n.isLt (by omega) (Dev.sctSt_windowOver.trans hSt)
  rw [Dev.slotErr_windowOver, Dev.lockTol_windowOver, Dev.lockNext_windowOver, Dev.lockNext_some] at hLock hReach
  rw [Dev.slotErr_windowOver] at hErr
  rw [hMode] at hReach
  exact ⟨hErr, hLast, hLock, hReach, rfl, rfl⟩

include hBounds in
/-- In IN_PHASE a slot that closes without its edge is missed, and one too many in a row loses the phase (R211). -/
theorem bdWindowClose_misses (hSt : s.dev.sctSt n = 3) (hEdge : (s.dev.chS n).edge = none) : Completes (exec (.bdWindowClose n) s) fun t =>
    let k := (s.dev.chS n).judged
    let miss := (s.dev.chS n).missN + 1
    t.dev.now = s.dev.timeAt (s.dev.slotT n k + max 1 (s.dev.get (F.CHn_SCT_CTRL.bd_window n)) + s.dev.get (F.CHn_SCT_CTRL.bd_filter n)) ∧
    t.dev.get (F.CHn_SCT_COUNTS.missed n) = min (s.dev.get (F.CHn_SCT_COUNTS.missed n) + 1) (2 ^ 16 - 1) ∧
    t.dev.get (F.CHn_SCT_STATUS.lock_count n) = 0 ∧ (t.dev.chS n).judged = k + 1 ∧
    (if miss < s.dev.missLimit n then
      t.dev.sctSt n = 3 ∧ (t.dev.chS n).missN = miss ∧ bit (t.dev.rd (R.CHn_SCT_IRQ_STATUS n)) 2 = true ∧
      strobed s.dev t.dev n (0x10 * 2 ^ 24 + k % 2 ^ 24) (s.dev.chTag n * 2 ^ 16 + min miss 65535) ∧
      s.Frame (missParts n ++ chBit (R.CHn_SCT_IRQ_STATUS n) ++ strobeParts n ++ timeParts) t
    else
      t.dev.sctSt n = 1 ∧ bit (t.dev.rd (R.CHn_SCT_IRQ_STATUS n)) 1 = true ∧
      strobed s.dev t.dev n (0x11 * 2 ^ 24 + k % 2 ^ 24) (s.dev.get (F.CHn_SCT_PHASE_ERR.e n)) ∧ t.mem = s.mem ∧ t.pending = s.pending) := by
  have hNone : s.dev.edgeOf n (s.dev.chS n).judged = none := by rw [Dev.edgeOf, hEdge]
  refine completes_bdWindowClose hRuns rfl hNone ?_
  obtain ⟨-, -, -, hRunning⟩ := Dev.sctRuns_parts hRuns
  have hWatch : Dev.SameWatch n (s.dev.windowOver n) _ := Dev.SameWatch.refl.judgeSlot (s.dev.chS n).judged none
  have hNow := hWatch.now.trans (Dev.now_windowOver hRunning hBounds.1 hBounds.2)
  rw [Dev.waitTicks, if_pos hSt] at hNow
  have hSt' : (s.dev.windowOver n).sctSt n = 3 := Dev.sctSt_windowOver.trans hSt
  have hMissed : (s.dev.windowOver n).get (F.CHn_SCT_COUNTS.missed n) = s.dev.get (F.CHn_SCT_COUNTS.missed n) :=
    Dev.get_windowOver _ (by simp only [F.CHn_SCT_COUNTS.missed, R.CHn_SCT_COUNTS]; omega)
  have hErr : (s.dev.windowOver n).get (F.CHn_SCT_PHASE_ERR.e n) = s.dev.get (F.CHn_SCT_PHASE_ERR.e n) :=
    Dev.get_windowOver _ (by simp only [F.CHn_SCT_PHASE_ERR.e, R.CHn_SCT_PHASE_ERR]; omega)
  have hBefore : ∀ {e : Dev} {d0 d1 : Nat}, strobed (s.dev.windowOver n) e n d0 d1 → strobed s.dev e n d0 d1 := fun h =>
    strobed_before Dev.frame_windowOver h (by simp [timeParts]) (reg_not_mem_timeParts (by simp only [R.FLT_SRCi_STATE]; omega))
  by_cases hFew : (s.dev.chS n).missN + 1 < s.dev.missLimit n
  · obtain ⟨hCount, hLock, hNext, hState, hMiss, hBit, hStrobed, hFrame⟩ :=
      Dev.judgeSlot_misses (k := (s.dev.chS n).judged) n.isLt hSt' (by rwa [Dev.chS_windowOver, Dev.missLimit_windowOver])
    rw [Dev.chTag_windowOver, Dev.chS_windowOver] at hStrobed
    rw [Dev.chS_windowOver] at hMiss
    refine ⟨hNow, hMissed ▸ hCount, hLock, hNext, ?_⟩
    rw [if_pos hFew]
    exact ⟨hState, hMiss, hBit, hBefore hStrobed,
      Frame.ofDev (Frame.trans (Frame.mono Dev.frame_windowOver (by simp +contextual)) (Frame.mono hFrame (by simp +contextual [missNoteParts, or_imp])))⟩
  · obtain ⟨hCount, hLock, hNext, hState, hBit, hStrobed⟩ :=
      Dev.judgeSlot_missesLast (k := (s.dev.chS n).judged) n.isLt hSt' (by rwa [Dev.chS_windowOver, Dev.missLimit_windowOver])
    rw [hErr] at hStrobed
    refine ⟨hNow, hMissed ▸ hCount, hLock, hNext, ?_⟩
    rw [if_neg hFew]
    exact ⟨hState, hBit, hBefore hStrobed, rfl, rfl⟩

end
end
end Sys2Proof.Proofs

end

-- ==== Sitting: the pixel synthesizer ====
section
/-! SUPPORT. A step of the pixel clock: what the end of sheets that it causes leaves of the synthesizer (R113, R214, R353, R356). -/

open Sys2Proof Sys2Proof.Machine Sys2Proof.Claims
set_option maxRecDepth 20000

namespace Sys2Proof.Machine

/-! ### The permit of a channel whose synthesizer is not locked (R252) -/

section
variable {d : Dev} {n : Nat}

theorem Dev.pxs_gateLevels (h : d.on (F.CHn_PXS_STATUS.locked n) = false) : (d.gateLevels n).on (F.CHn_FGT_STATUS.pxs n) = true := by
  have hLocked (f : Fld) (v : Bool) (hf : f.reg = R.CHn_FGT_STATUS n) : (d.putB f v).on (F.CHn_PXS_STATUS.locked n) = false := by
    rw [← h, Dev.on, Dev.on, Dev.putB, Dev.get_put_ne _ _ _ _ (by rw [hf]; simp [F.CHn_PXS_STATUS.locked, R.CHn_PXS_STATUS, R.CHn_FGT_STATUS])]
  have hOther (e : Dev) (f : Fld) (v : Bool) (hf : f.reg = R.CHn_FGT_STATUS n) (hok : f.ok = true) (hBit : (decide (9 < f.lo) || decide (f.hi < 9)) = true) :
      (e.putB f v).on (F.CHn_FGT_STATUS.pxs n) = e.on (F.CHn_FGT_STATUS.pxs n) := by
    rw [Dev.on, Dev.on, Dev.putB, Dev.get_put_other _ _ _ _ hf.symm hok rfl hBit]
  unfold Dev.gateLevels
  dsimp only
  iterate 8 rw [hOther _ _ _ rfl rfl rfl]
  rw [hLocked _ _ rfl, Dev.on, Dev.putB, Dev.get_put_same _ _ _ rfl]
  rfl

theorem Dev.closable_of_pxs (h : d.on (F.CHn_FGT_STATUS.pxs n) = true) : d.closable n = false := by simp [Dev.closable, h]

theorem Dev.permit_gate (h : d.on (F.CHn_PXS_STATUS.locked n) = false) : (d.gate n).on (F.CHn_FGT_STATUS.permit n) = false := by
  unfold Dev.gate
  extract_lets x was cl now y z u
  have hNow : now = false := by
    have hCl : cl = false := Dev.closable_of_pxs (Dev.pxs_gateLevels h)
    simp [now, hCl]
  have hz : z.on (F.CHn_FGT_STATUS.permit n) = false := by
    show (y.putB (F.CHn_FGT_STATUS.permit n) now).on _ = false
    rw [hNow, Dev.on, Dev.putB, Dev.get_put_same _ _ _ rfl]
    rfl
  clear_value z now
  have hu : Dev.Frame [Part.out] z u := Frame.ite (Frame.emit Frame.refl _ (by simp)) Frame.refl
  clear_value u
  have hRest : Dev.Frame ([Part.out, Part.reg (R.CHn_FGT_COUNTS n).off, Part.reg (R.CHn_FGT_IRQ_STATUS n).off] ++ irqParts) z
      ((u.count (F.CHn_FGT_COUNTS.drops n)).fgtFlag n 2) :=
    Frame.flag (Frame.count (Frame.mono hu (by simp)) _ _ (by simp [F.CHn_FGT_COUNTS.drops])) _ _ _ _ (by simp) (by simp +contextual)
  rw [if_neg (by simp [hNow] : ¬now = true)]
  split
  · exact hz
  · exact (Frame.on hRest _ (by simp [irqParts, F.CHn_FGT_STATUS.permit, R.CHn_FGT_STATUS, R.CHn_FGT_COUNTS, R.CHn_FGT_IRQ_STATUS, R.MSIX_PBA]; omega)).trans hz

end

/-- The registers of a channel before its permit's block are none that judging the permit changes. -/
theorem reg_not_mem_gateParts {n o : Nat} (h : 0x9000 < o ∧ o < 0x20c000 + n * 0x20000) : Part.reg o ∉ gateParts n := by
  simp [gateParts, irqParts, R.CHn_FGT_STATUS, R.CHn_FGT_COUNTS, R.CHn_FGT_IRQ_STATUS, R.MSIX_PBA]
  omega

/-! ### What the end of a sheet leaves of the synthesizer that caused it (R113, R214, R356) -/

/-- No register of the synthesizer of CHn, of its permit, of the clock events or of the power state. -/
def Dev.ClearOf (n : Fin 8) (o : Nat) : Prop :=
  o ≠ (R.CHn_PXS_FREQ n).off ∧ o ≠ (R.CHn_PXS_STATUS n).off ∧ o ≠ (R.CHn_FGT_STATUS n).off ∧ o ≠ R.CLK_EVENTS.off ∧ o ≠ R.PWR_STATUS.off

/-- The synthesizer of CHn, what the clock unit knows of it and the power state are the same, and no permit of an unlocked CHn rises. -/
structure Dev.Spares (n : Fin 8) (d e : Dev) : Prop where
  freq : e.rd (R.CHn_PXS_FREQ n) = d.rd (R.CHn_PXS_FREQ n)
  act : e.act (R.CHn_PXS_FREQ n) = d.act (R.CHn_PXS_FREQ n)
  status : e.rd (R.CHn_PXS_STATUS n) = d.rd (R.CHn_PXS_STATUS n)
  events : e.rd R.CLK_EVENTS = d.rd R.CLK_EVENTS
  power : e.rd R.PWR_STATUS = d.rd R.PWR_STATUS
  clk : e.clk = d.clk
  permit : d.on (F.CHn_PXS_STATUS.locked n) = false → d.on (F.CHn_FGT_STATUS.permit n) = false → e.on (F.CHn_FGT_STATUS.permit n) = false

namespace Dev.ClearOf
variable {n : Fin 8} {o : Nat}

theorem low (h : o < 0xc0000) : Dev.ClearOf n o := by
  simp only [Dev.ClearOf, R.CHn_PXS_FREQ, R.CHn_PXS_STATUS, R.CHn_FGT_STATUS, R.CLK_EVENTS, R.PWR_STATUS]; omega

theorem mid (h : 0xe0000 ≤ o ∧ o < 0x200000) : Dev.ClearOf n o := by
  simp only [Dev.ClearOf, R.CHn_PXS_FREQ, R.CHn_PXS_STATUS, R.CHn_FGT_STATUS, R.CLK_EVENTS, R.PWR_STATUS]; omega

theorem high (h : 0x1000000 ≤ o) : Dev.ClearOf n o := by
  have hn := n.isLt
  simp only [Dev.ClearOf, R.CHn_PXS_FREQ, R.CHn_PXS_STATUS, R.CHn_FGT_STATUS, R.CLK_EVENTS, R.PWR_STATUS]; omega

/-- Every one of those registers is the second or third word of a block of 0x200 bytes. -/
theorem ofMod (h4 : o % 0x200 ≠ 4) (h8 : o % 0x200 ≠ 8) : Dev.ClearOf n o := by
  simp only [Dev.ClearOf, R.CHn_PXS_FREQ, R.CHn_PXS_STATUS, R.CHn_FGT_STATUS, R.CLK_EVENTS, R.PWR_STATUS]; omega

theorem shtState (k : Nat) : Dev.ClearOf n (R.SHT_Dd_STATE k).off := ofMod (by simp only [R.SHT_Dd_STATE]; omega) (by simp only [R.SHT_Dd_STATE]; omega)
theorem shtChan (k : Nat) : Dev.ClearOf n (R.SHT_Dd_CHAN k).off := ofMod (by simp only [R.SHT_Dd_CHAN]; omega) (by simp only [R.SHT_Dd_CHAN]; omega)
theorem doneTime (k : Nat) : Dev.ClearOf n (R.SHT_Dd_DONE_TIME k).off :=
  ofMod (by simp only [R.SHT_Dd_DONE_TIME]; omega) (by simp only [R.SHT_Dd_DONE_TIME]; omega)

end Dev.ClearOf

namespace Dev.Spares
variable {n : Fin 8} {d e f : Dev}

theorem refl : Dev.Spares n d d := ⟨rfl, rfl, rfl, rfl, rfl, rfl, fun _ h => h⟩

theorem locked (h : Dev.Spares n d e) : e.on (F.CHn_PXS_STATUS.locked n) = d.on (F.CHn_PXS_STATUS.locked n) := by
  rw [Dev.on, Dev.on, Dev.get, Dev.get, F.CHn_PXS_STATUS.locked, h.status]

theorem trans (h : Dev.Spares n d e) (g : Dev.Spares n e f) : Dev.Spares n d f :=
  ⟨g.freq.trans h.freq, g.act.trans h.act, g.status.trans h.status, g.events.trans h.events, g.power.trans h.power, g.clk.trans h.clk,
    fun hLock hPermit => g.permit (h.locked.trans hLock) (h.permit hLock hPermit)⟩

theorem ofRegs (h : Dev.Spares n d e) (hRegs : f.regs = e.regs) (hAct : f.active = e.active) (hClk : f.clk = e.clk) : Dev.Spares n d f := by
  have hRd (r : Reg) : f.rd r = e.rd r := by rw [Dev.rd, Dev.rd, hRegs]
  refine h.trans ⟨hRd _, by rw [Dev.act, Dev.act, hAct], hRd _, hRd _, hRd _, hClk, fun _ hPermit => ?_⟩
  rw [← hPermit, Dev.on, Dev.on, Dev.get, Dev.get, hRd]

/-- A change that is framed away from all of it. -/
theorem ofFrame {ps : List Part} (h : Dev.Spares n d e) (hFrame : Dev.Frame ps e f) (hReg : ∀ o, Part.reg o ∈ ps → Dev.ClearOf n o)
    (hAct : Part.act (R.CHn_PXS_FREQ n).off ∉ ps) (hClk : Part.clk ∉ ps) : Dev.Spares n d f := by
  have hRd (r : Reg) (hr : ¬Dev.ClearOf n r.off) : f.rd r = e.rd r := Frame.rd hFrame r fun hIn => hr (hReg _ hIn)
  refine h.trans ⟨hRd _ (by simp [Dev.ClearOf]), hFrame _ hAct _ rfl, hRd _ (by simp [Dev.ClearOf]), hRd _ (by simp [Dev.ClearOf]),
    hRd _ (by simp [Dev.ClearOf]), hFrame _ hClk, fun _ hPermit => ?_⟩
  rw [← hPermit, Dev.on, Dev.on, Dev.get, Dev.get, hRd _ (by simp [Dev.ClearOf, F.CHn_FGT_STATUS.permit])]

theorem wr (h : Dev.Spares n d e) (r : Reg) (v : Nat) (hr : Dev.ClearOf n r.off) : Dev.Spares n d (e.wr r v) :=
  h.ofFrame (ps := [Part.reg r.off]) (Frame.wr Frame.refl r v (by simp)) (by rintro o ho; simp only [List.mem_singleton, Part.reg.injEq] at ho; rwa [ho]) (by simp) (by simp)

theorem put (h : Dev.Spares n d e) (g : Fld) (v : Nat) (hr : Dev.ClearOf n g.reg.off) : Dev.Spares n d (e.put g v) := h.wr _ _ hr
theorem putBit (h : Dev.Spares n d e) (g : Fld) (k : Nat) (b : Bool) (hr : Dev.ClearOf n g.reg.off) : Dev.Spares n d (e.putBit g k b) := h.wr _ _ hr
theorem count (h : Dev.Spares n d e) (g : Fld) (hr : Dev.ClearOf n g.reg.off) : Dev.Spares n d (e.count g) := h.wr _ _ hr

theorem ite {c : Prop} [Decidable c] (h : Dev.Spares n d e) (g : Dev.Spares n d f) : Dev.Spares n d (if c then e else f) := by
  split <;> assumption

theorem when (h : Dev.Spares n d e) (c : Bool) {u : Dev → Dev} (g : Dev.Spares n d (u e)) : Dev.Spares n d (e.when c u) := ite g h

theorem each {α : Type} (h : Dev.Spares n d e) (l : List α) (u : Dev → α → Dev) (hu : ∀ x a, a ∈ l → Dev.Spares n x (u x a)) : Dev.Spares n d (e.each l u) := by
  unfold Dev.each
  induction l generalizing e with
  | nil => exact h
  | cons a l ih => exact ih (h.trans (hu e a (by simp))) fun x b hb => hu x b (by simp [hb])

/-! The operations that no unit owns. -/

theorem modCh (h : Dev.Spares n d e) (k : Nat) (u : ChSt → ChSt) : Dev.Spares n d (e.modCh k u) := h.ofRegs rfl rfl rfl
theorem milestone (h : Dev.Spares n d e) (a b c x y z : Nat) : Dev.Spares n d (e.milestone a b c x y z) := h.ofRegs rfl rfl rfl
theorem putTw (h : Dev.Spares n d e) (o v : Nat) : Dev.Spares n d (e.putTw o v) := h.ofRegs rfl rfl rfl
theorem setEvt (h : Dev.Spares n d e) (x : EvtSt) : Dev.Spares n d { e with evt := x } := h.ofRegs rfl rfl rfl

theorem flag (h : Dev.Spares n d e) (st en : Reg) (k v : Nat) (hr : Dev.ClearOf n st.off) : Dev.Spares n d (e.flag st en k v) :=
  h.ofFrame (ps := [Part.reg st.off] ++ irqParts) (Frame.flag Frame.refl st en k v (by simp) (by simp +contextual))
    (by simp only [irqParts, List.mem_append, List.mem_cons, List.not_mem_nil, or_false, Part.reg.injEq, reduceCtorEq, false_or]
        rintro o (rfl | rfl)
        · exact hr
        · exact .low (by decide)) (by simp [irqParts]) (by simp [irqParts])

theorem report (h : Dev.Spares n d e) (src d0 d1 : Nat) (hSrc : src < 64) : Dev.Spares n d (e.report src d0 d1) :=
  h.ofFrame (Dev.frame_report src d0 d1) (by
    simp only [strobeParts, List.mem_cons, List.not_mem_nil, or_false, Part.reg.injEq, reduceCtorEq, false_or]
    rintro o rfl
    exact .mid (by simp only [R.FLT_SRCi_STATE]; omega)) (by simp [strobeParts]) (by simp [strobeParts])

theorem setActive (h : Dev.Spares n d e) (src : Nat) (b : Bool) (hSrc : src < 64) : Dev.Spares n d (e.setActive src b) :=
  h.ofFrame (ps := activeParts src) (Frame.setActive Frame.refl src b (by simp [activeParts]) (by simp [activeParts]) (by simp [activeParts])) (by
    simp only [activeParts, List.mem_cons, List.not_mem_nil, or_false, Part.reg.injEq, reduceCtorEq, false_or]
    rintro o (rfl | rfl)
    · exact .mid (by decide)
    · exact .mid (by simp only [R.FLT_SRCi_STATE]; omega)) (by simp [activeParts]) (by simp [activeParts])

theorem shtFlag (h : Dev.Spares n d e) (k : Nat) : Dev.Spares n d (e.shtFlag k) := h.flag _ _ _ _ (.low (by decide))
theorem evtFlag (h : Dev.Spares n d e) (k : Nat) : Dev.Spares n d (e.evtFlag k) := h.flag _ _ _ _ (.low (by decide))

theorem lgEvent (h : Dev.Spares n d e) (k : Nat) : Dev.Spares n d (e.lgEvent k) := ite (h.wr _ _ (.high (by decide))) h
theorem lgStation (h : Dev.Spares n d e) (s k : Nat) : Dev.Spares n d (e.lgStation s k) :=
  ite ((h.wr _ _ (.high (by simp only [R.LG_Ss_STAT]; omega))).lgEvent 0) h

/-! Judging the permits (R252). -/

theorem gate (h : Dev.Spares n d e) {m : Nat} (hm : m < 8) : Dev.Spares n d (e.gate m) := by
  have hGate : Dev.Frame (gateParts m) e (e.gate m) := Frame.gate Frame.refl m fun _ hp => hp
  have hn := n.isLt
  by_cases hmn : m = n
  · subst hmn
    have hRd (r : Reg) (hr : 0x9000 < r.off ∧ r.off < 0x20c000 + n * 0x20000) : (e.gate n).rd r = e.rd r := Frame.rd hGate r (reg_not_mem_gateParts hr)
    exact h.trans ⟨hRd _ (by simp only [R.CHn_PXS_FREQ]; omega), hGate (.act _) (by simp [gateParts, irqParts]) _ rfl,
      hRd _ (by simp only [R.CHn_PXS_STATUS]; omega), hRd _ (by simp only [R.CLK_EVENTS]; omega), hRd _ (by simp only [R.PWR_STATUS]; omega),
      hGate .clk (by simp [gateParts, irqParts]), fun hLock _ => Dev.permit_gate hLock⟩
  · refine h.ofFrame hGate ?_ (by simp [gateParts, irqParts]) (by simp [gateParts, irqParts])
    simp only [gateParts, irqParts, List.mem_append, List.mem_cons, List.not_mem_nil, or_false, Part.reg.injEq, reduceCtorEq, false_or]
    rintro o ((rfl | rfl | rfl) | rfl) <;>
      simp only [Dev.ClearOf, R.CHn_PXS_FREQ, R.CHn_PXS_STATUS, R.CLK_EVENTS, R.PWR_STATUS, R.CHn_FGT_STATUS, R.CHn_FGT_COUNTS, R.CHn_FGT_IRQ_STATUS, R.MSIX_PBA] <;>
      omega

theorem gateAll (h : Dev.Spares n d e) : Dev.Spares n d e.gateAll := h.each _ _ fun _ _ hm => refl.gate (List.mem_range.1 hm)

end Dev.Spares

namespace Dev.ClearOf
variable {n : Fin 8} {a : Nat}

theorem bldStatus (h : a < 16) : Dev.ClearOf n (R.BLD_AXa_STATUS a).off := .low (by simp only [R.BLD_AXa_STATUS]; omega)
theorem bldIrq (h : a < 16) : Dev.ClearOf n (R.BLD_AXa_IRQ_STATUS a).off := .low (by simp only [R.BLD_AXa_IRQ_STATUS]; omega)
theorem bldRemain (h : a < 16) : Dev.ClearOf n (R.BLD_AXa_REMAIN a).off := .low (by simp only [R.BLD_AXa_REMAIN]; omega)
theorem bldRefuse (h : a < 16) : Dev.ClearOf n (R.BLD_AXa_REFUSE a).off := .low (by simp only [R.BLD_AXa_REFUSE]; omega)
theorem stpStatus (h : a < 16) : Dev.ClearOf n (R.STP_AXm_STATUS a).off := .low (by simp only [R.STP_AXm_STATUS]; omega)

end Dev.ClearOf

/-! ### A host state that idles the engine (R72) -/

namespace Dev.Spares
variable {n : Fin 8} {d e : Dev} {a : Nat}

theorem putBld (h : Dev.Spares n d e) (a : Nat) (x : BldAx) : Dev.Spares n d (e.putBld a x) := h.ofRegs rfl rfl rfl
theorem modBld (h : Dev.Spares n d e) (a : Nat) (u : BldAx → BldAx) : Dev.Spares n d (e.modBld a u) := h.ofRegs rfl rfl rfl
theorem modStp (h : Dev.Spares n d e) (m : Nat) (u : StpAx → StpAx) : Dev.Spares n d (e.modStp m u) := h.ofRegs rfl rfl rfl

theorem bldFlag (h : Dev.Spares n d e) (ha : a < 16) (k : Nat) : Dev.Spares n d (e.bldFlag a k) := h.flag _ _ _ _ (.bldIrq ha)

theorem bldRefuse (h : Dev.Spares n d e) (ha : a < 16) (c : Nat) : Dev.Spares n d (e.bldRefuse a c) := (h.put _ _ (.bldRefuse ha)).bldFlag ha 7

theorem bldSpeedLost (h : Dev.Spares n d e) (ha : a < 16) : Dev.Spares n d (e.bldSpeedLost a) := by
  unfold Dev.bldSpeedLost
  have hPut (u : BldAx → BldAx) : Dev.Spares n d ((e.modBld a u).put (F.BLD_AXa_STATUS.at_speed a) 0) := (h.modBld a u).put _ _ (.bldStatus ha)
  exact ite ((hPut _).bldFlag ha 3).gateAll (hPut _)

theorem bldEnter (h : Dev.Spares n d e) (ha : a < 16) (st : Nat) : Dev.Spares n d (e.bldEnter a st) := by
  unfold Dev.bldEnter
  extract_lets was d1 d2 d3 d4 d5 d6 d7
  have h1 : Dev.Spares n d d1 := h.when _ (h.modBld a _)
  have h4 : Dev.Spares n d d4 := ((h1.put _ _ (.bldStatus ha)).modBld a _).put _ _ (.bldStatus ha)
  have h5 : Dev.Spares n d d5 := ite (h4.bldFlag ha 6) h4
  have h6 : Dev.Spares n d d6 := ite (h5.bldFlag ha 5) h5
  have h7 : Dev.Spares n d d7 := h6.when _ (h6.setActive 26 _ (by decide))
  exact ite h7 (h7.bldSpeedLost ha)

theorem bldRemain (h : Dev.Spares n d e) (ha : a < 16) : Dev.Spares n d (e.bldRemain a) := by
  unfold Dev.bldRemain
  split
  · exact ite h (h.put _ _ (.bldRemain ha))
  · exact h

theorem bldHoldMove (h : Dev.Spares n d e) (ha : a < 16) : Dev.Spares n d (e.bldHoldMove a) := ite ((h.modBld a _).bldRemain ha) h

theorem bldStart (h : Dev.Spares n d e) (ha : a < 16) (t : Int) (r : Nat) (rt : Bool) : Dev.Spares n d (e.bldStart a t r rt).1 := by
  have hPut (x : BldAx) : Dev.Spares n d (e.putBld a x) := h.putBld a x
  unfold Dev.bldStart
  extract_lets st x u y z w q
  split
  · exact h.count _ (.low (by decide))
  · split
    · exact h.bldRefuse ha _
    · split
      · split
        · exact h.bldRefuse ha 2
        · split
          · exact ite ((hPut _).bldEnter ha 8) (hPut _)
          · exact ((hPut _).bldEnter ha _).bldEnter ha 3
      · split
        · exact ite ((hPut _).bldEnter ha 7) ((hPut _).modBld a _)
        · split
          · exact (hPut _).bldEnter ha 3
          · exact hPut _

theorem bldToIdle (h : Dev.Spares n d e) (ha : a < 16) : Dev.Spares n d (e.bldToIdle a) := by
  unfold Dev.bldToIdle
  extract_lets x y z
  have hy : Dev.Spares n d y := h.bldRemain ha
  have hz : Dev.Spares n d z := (hy.putBld a _).bldEnter ha _
  split
  · exact (hy.putBld a _).bldEnter ha 0
  · split
    · exact hz.bldStart ha _ _ _
    · exact hz

theorem bldStop (h : Dev.Spares n d e) (ha : a < 16) : Dev.Spares n d (e.bldStop a) := by
  unfold Dev.bldStop
  extract_lets st x y
  have hx : Dev.Spares n d x := h.when _ (h.put _ _ (.bldStatus ha))
  have hy : Dev.Spares n d y := (hx.bldHoldMove ha).modBld a _
  exact ite (hx.count _ (.low (by decide))) (ite hx (ite (hy.bldEnter ha 8) (ite (hy.bldToIdle ha) hy)))

theorem bldIdle (h : Dev.Spares n d e) (ha : a < 16) : Dev.Spares n d (e.bldIdle a) := by
  unfold Dev.bldIdle Dev.bldStartSpeed
  split
  · rename_i c _
    have hStart := h.bldStart ha (16 * c.idleSpeed : Nat) (e.get (F.BLD_AXa_RATES.accel a)) false
    dsimp only
    split
    · split
      · exact hStart
      · exact hStart.bldHoldMove ha
    · exact h.bldStop ha
  · exact h

theorem stpEnter (h : Dev.Spares n d e) (ha : a < 16) (st : Nat) : Dev.Spares n d (e.stpEnter a st) := by
  have hPut : Dev.Spares n d (e.put (F.STP_AXm_STATUS.state a) st) := h.put _ _ (.stpStatus ha)
  exact ite (hPut.setActive 27 _ (by decide)) hPut

theorem stpReject (h : Dev.Spares n d e) : Dev.Spares n d e.stpReject := h.count _ (.low (by decide))

theorem stpLate (h : Dev.Spares n d e) (ha : a < 16) : Dev.Spares n d (e.stpLate a) := ite (h.put _ _ (.stpStatus ha)) h

theorem stpStop (h : Dev.Spares n d e) (ha : a < 16) : Dev.Spares n d (e.stpStop a) := by
  unfold Dev.stpStop
  split
  · exact h.stpReject
  · exact h.stpLate ha
  · exact (h.modStp a _).stpEnter ha 3
  · exact ((h.modStp a _).put _ _ (.stpStatus ha)).stpEnter ha 3
  · exact h

theorem stpIdle (h : Dev.Spares n d e) (ha : a < 16) : Dev.Spares n d (e.stpIdle a) := by
  unfold Dev.stpIdle
  split
  · exact h.when _ h.stpReject
  · exact (h.stpLate ha).modStp a _
  · exact h.stpStop ha

theorem loopIdle (h : Dev.Spares n d e) (k : Nat) : Dev.Spares n d (e.loopIdle k) :=
  ite (h.count _ (.low (by decide))) (h.ofRegs rfl rfl rfl)

theorem enterIdle (h : Dev.Spares n d e) : Dev.Spares n d e.enterIdle :=
  ((h.gateAll.each _ _ fun _ _ ha => refl.bldIdle (List.mem_range.1 ha)).each _ _ fun _ _ ha => refl.stpIdle (List.mem_range.1 ha)).each _ _
    fun _ k _ => refl.loopIdle k

theorem dmaHold (h : Dev.Spares n d e) : Dev.Spares n d e.dmaHold := by
  unfold Dev.dmaHold
  split
  · exact h
  · exact h.ofRegs rfl rfl rfl

/-! The host states that wait for sheets (R73). -/

theorem setHost (h : Dev.Spares n d e) (st : Nat) : Dev.Spares n d (e.setHost st) := by
  have hPut : Dev.Spares n d (e.put F.SYS_HOST_STATE.state st) := h.put _ _ (.low (by decide))
  exact ite hPut.enterIdle.dmaHold hPut.gateAll

theorem drain (h : Dev.Spares n d e) (done : Bool) : Dev.Spares n d (e.drain done) := by
  have hCount : Dev.Spares n d e.countFlight := h.put _ _ (.low (by decide))
  exact ite (hCount.setHost 2) (ite (ite (hCount.setHost 4) hCount) hCount)

/-! Entries that end with a sheet (R80, R107). -/

theorem armRefused (h : Dev.Spares n d e) (i code : Nat) : Dev.Spares n d (e.armRefused i code) :=
  ((h.setEvt _).evtFlag 2).report 22 _ _ (by decide)

theorem armEntry (h : Dev.Spares n d e) (i : Nat) : Dev.Spares n d (e.armEntry i) :=
  ite h (((h.putTw _ _).put F.EVT_ARMED_COUNT.count _ (.low (by decide))).setEvt _)

theorem clearArmed (h : Dev.Spares n d e) (i : Nat) : Dev.Spares n d (e.clearArmed i) :=
  ite (((h.putTw _ _).put F.EVT_ARMED_COUNT.count _ (.low (by decide))).setEvt _) h

theorem disarmEntry (h : Dev.Spares n d e) (i : Nat) : Dev.Spares n d (e.disarmEntry i) := ite ((h.clearArmed i).setEvt _) (h.clearArmed i)

theorem armFor (h : Dev.Spares n d e) (k j i : Nat) : Dev.Spares n d (e.armFor k j i).1 := by
  unfold Dev.armFor
  extract_lets lo hi code x
  split
  · exact h.armRefused i code
  · exact (((h.putTw _ _).putTw _ _).armEntry i).setEvt _

theorem passOn (h : Dev.Spares n d e) (m i : Nat) : Dev.Spares n d (Dev.passOn m e i).1 := by
  induction m generalizing e with
  | zero => exact h
  | succ m ih =>
    unfold Dev.passOn
    split
    · exact h
    · rename_i k _
      dsimp only
      split
      · exact (h.setEvt _).armFor _ _ _
      · exact ih ((h.setEvt _).armFor _ _ _)

theorem withdraw (h : Dev.Spares n d e) (k : Nat) : Dev.Spares n d (e.withdraw k).1 := by
  unfold Dev.withdraw
  extract_lets _ x mine
  have hx : Dev.Spares n d x := h.setEvt _
  generalize ([] : List (Nat × Nat)) = l
  clear_value x mine
  induction mine generalizing x l with
  | nil => exact hx
  | cons i mine ih => exact ih _ ((hx.disarmEntry i).passOn 33 i) _

/-! The end of a sheet (R102, R107, R113-R117). -/

theorem shtEnter (h : Dev.Spares n d e) (k st : Nat) : Dev.Spares n d (e.shtEnter k st) := (h.put _ _ (.shtState k)).putBit _ _ _ (.low (by decide))

theorem firstCause (h : Dev.Spares n d e) (k cause : Nat) : Dev.Spares n d (e.firstCause k cause) := ite (h.put _ _ (.shtState k)) h

theorem spoil (h : Dev.Spares n d e) (k cause ch d1 : Nat) : Dev.Spares n d (e.spoil k cause ch d1) := by
  unfold Dev.spoil
  extract_lets was x y
  have hx : Dev.Spares n d x := (h.firstCause k cause).put _ _ (.shtState k)
  have hy : Dev.Spares n d y := ite hx (hx.count _ (.low (by decide)))
  exact ((hy.milestone _ _ _ _ _ _).report 21 _ _ (by decide)).shtFlag 5

theorem shtResult (h : Dev.Spares n d e) (res cause ch k : Nat) : Dev.Spares n d (e.shtResult res cause ch k) := (h.wr _ _ (.low (by decide))).shtFlag 0

theorem shtRelease (h : Dev.Spares n d e) (k : Nat) : Dev.Spares n d (e.shtRelease k) :=
  ite (((h.milestone _ _ _ _ _ _).shtEnter k 0).shtResult _ _ _ _) (h.shtResult _ _ _ _)

theorem setLg (h : Dev.Spares n d e) (x : LgSt) : Dev.Spares n d { e with lg := x } := h.ofRegs rfl rfl rfl

theorem lgOver (h : Dev.Spares n d e) (k : Nat) : Dev.Spares n d (e.lgOver k) := ite ((h.setLg _).shtRelease k) h

theorem cancelOne (h : Dev.Spares n d e) (k cause d1 : Nat) : Dev.Spares n d (e.cancelOne k cause d1).1 := by
  unfold Dev.cancelOne
  extract_lets x y z
  have hx : Dev.Spares n d x := (h.firstCause k cause).shtEnter k 5
  have hy : Dev.Spares n d y := (hx.wr _ _ (.doneTime k)).count _ (.low (by decide))
  have hz : Dev.Spares n d z := (hy.milestone _ _ _ _ _ _).shtFlag 4
  have hw := hz.withdraw k
  generalize z.withdraw k = w at hw ⊢
  obtain ⟨w, lost⟩ := w
  exact (hw.drain false).lgOver k

theorem settle (h : Dev.Spares n d e) (m : Nat) (l : List (Nat × Nat)) : Dev.Spares n d (Dev.settle m e l) := by
  induction m generalizing e l with
  | zero => exact h
  | succ m ih =>
    match l with
    | [] => exact h
    | (k, i) :: l =>
      have hc := h.cancelOne k 0x23 i
      rw [Dev.settle]
      generalize e.cancelOne k 0x23 i = c at hc ⊢
      obtain ⟨c, lost⟩ := c
      exact ite (ih hc _) (ite (ih (h.spoil k _ _ _) l) (ih h l))

theorem complete (h : Dev.Spares n d e) (k : Nat) : Dev.Spares n d (e.complete k) := by
  unfold Dev.complete
  extract_lets x
  have hx : Dev.Spares n d x := (h.shtEnter k 4).wr _ _ (.doneTime k)
  have hw := hx.withdraw k
  generalize x.withdraw k = w at hw ⊢
  obtain ⟨w, lost⟩ := w
  have hFlag := (hw.milestone 0x09 (w.tagOf k) 0 0xFF k 0).shtFlag 6
  have hGates := hFlag.each (((w.milestone 0x09 (w.tagOf k) 0 0xFF k 0).shtFlag 6).sheetChans k)
    (fun d m => (d.modCh m fun c => { c with dropped := d.stillDropped m }).gate m)
    fun x m hm => (refl.modCh m _).gate (List.mem_range.1 (List.mem_filter.1 hm).1)
  exact (((hGates.drain true).settle 600 lost).lgEvent 4).lgOver k

theorem tryComplete (h : Dev.Spares n d e) (k : Nat) : Dev.Spares n d (e.tryComplete k) := by
  unfold Dev.tryComplete
  extract_lets x
  have hx : Dev.Spares n d x := ite ((h.milestone _ _ _ _ _ _).put _ _ (.shtState k)) h
  exact ite (hx.complete k) hx

theorem chanEnd (h : Dev.Spares n d e) (k m : Nat) : Dev.Spares n d (e.chanEnd k m) :=
  ((h.putBit _ _ _ (.shtChan k)).milestone _ _ _ _ _ _).lgStation m 0

theorem scrLock (h : Dev.Spares n d e) {m : Nat} (hm : m < 8) (b : Bool) : Dev.Spares n d (e.scrLock m b) :=
  h.put _ _ (by
    simp only [Dev.ClearOf, F.CHn_SCR_STATUS.locked, R.CHn_SCR_STATUS, R.CHn_PXS_FREQ, R.CHn_PXS_STATUS, R.CHn_FGT_STATUS, R.CLK_EVENTS, R.PWR_STATUS]
    omega)

theorem dropChan (h : Dev.Spares n d e) (k : Nat) {m : Nat} (hm : m < 8) : Dev.Spares n d (e.dropChan k m) := by
  unfold Dev.dropChan
  extract_lets x y
  have hx : Dev.Spares n d x := (h.putBit _ _ _ (.shtState k)).chanEnd k m
  have hy : Dev.Spares n d y := ite ((hx.put _ _ (.ofMod (by simp only [F.CHn_FGT_CTRL.permit_req, R.CHn_FGT_CTRL]; omega)
    (by simp only [F.CHn_FGT_CTRL.permit_req, R.CHn_FGT_CTRL]; omega))).modCh m _) hx
  exact ite h (ite (((hy.modCh m _).scrLock hm false).gate hm) hy)

theorem dropFromSheets (h : Dev.Spares n d e) {m : Nat} (hm : m < 8) (cause d1 : Nat) : Dev.Spares n d (e.dropFromSheets m cause d1) :=
  h.each _ _ fun _ k _ => ((refl.spoil k cause m d1).dropChan k hm).tryComplete k

end Dev.Spares

/-! ### A step of the pixel clock (R214, R353) -/

/-- A new M is more than half a percent away from the old one. -/
def farM (o m : Nat) : Prop := o < 200 * (max o m - min o m)

section
variable {d e f : Dev} {n : Fin 8}

/-- The synthesizer begins to lock anew, without what the permit and the sheets make of it. -/
def Dev.relockBegun (d : Dev) (n : Nat) : Dev :=
  (((d.put (F.CHn_PXS_STATUS.locked n) 0).count (F.CHn_PXS_STATUS.relocks n)).lossNoted (8 + n)).clkEvent 2

theorem Dev.freqTransfer_near (h : ¬farM (d.act (R.CHn_PXS_FREQ n)) (d.rd (R.CHn_PXS_FREQ n))) : d.freqTransfer n = d.activate (R.CHn_PXS_FREQ n) := by
  rw [Dev.freqTransfer, Dev.act_activate_same]
  refine if_neg fun hFar => h (hFar.trans_le (Nat.mul_le_mul_left _ ?_))
  split <;> omega

theorem Dev.freqTransfer_far (h : farM (d.act (R.CHn_PXS_FREQ n)) (d.rd (R.CHn_PXS_FREQ n))) :
    d.freqTransfer n = (((d.activate (R.CHn_PXS_FREQ n)).relockBegun n).gate n).dropFromSheets n 0x44 0 := by
  rw [Dev.freqTransfer, Dev.act_activate_same]
  refine if_pos (h.trans_le (Nat.mul_le_mul_left _ ?_))
  split <;> omega

/-- A loss of lock by a step of the clock: counted, kept for the clock unit with its moment, and recorded by nobody yet. -/
structure Dev.Relocking (n : Fin 8) (d e : Dev) : Prop where
  freq : e.rd (R.CHn_PXS_FREQ n) = d.rd (R.CHn_PXS_FREQ n)
  act : e.act (R.CHn_PXS_FREQ n) = d.act (R.CHn_PXS_FREQ n)
  power : e.rd R.PWR_STATUS = d.rd R.PWR_STATUS
  locked : e.on (F.CHn_PXS_STATUS.locked n) = false
  relocks : e.get (F.CHn_PXS_STATUS.relocks n) = min (d.get (F.CHn_PXS_STATUS.relocks n) + 1) (2 ^ 16 - 1)
  event : bit (e.rd R.CLK_EVENTS) 2 = true
  lostAt : Store.get 0 e.clk.lostAt (8 + n) = d.sys.now8 + 1
  said : e.clk.said = d.clk.said

/-- What beginning to lock changes. -/
def relockParts (n : Nat) : List Part := [Part.clk, Part.reg (R.CHn_PXS_STATUS n).off, Part.reg R.CLK_EVENTS.off]

theorem Dev.frame_relockBegun : Dev.Frame (relockParts n) d (d.relockBegun n) :=
  Frame.wr (Frame.setClk (Frame.count (Frame.put Frame.refl _ _ (by simp [relockParts, F.CHn_PXS_STATUS.locked])) _ _ (by simp [relockParts, F.CHn_PXS_STATUS.relocks])) _
    (by simp [relockParts])) _ _ (by simp [relockParts])

theorem Dev.relocking_relockBegun : Dev.Relocking n d (d.relockBegun n) := by
  have hFrame : Dev.Frame (relockParts n) d (d.relockBegun n) := Dev.frame_relockBegun
  have hEvents : (R.CHn_PXS_STATUS n).off ≠ R.CLK_EVENTS.off := by simp only [R.CHn_PXS_STATUS, R.CLK_EVENTS]; omega
  have hStatus : (d.relockBegun n).rd (R.CHn_PXS_STATUS n) =
      ((d.put (F.CHn_PXS_STATUS.locked n) 0).count (F.CHn_PXS_STATUS.relocks n)).rd (R.CHn_PXS_STATUS n) := Dev.rd_wr_ne _ _ _ _ hEvents
  have hGet (g : Fld) (hg : g.reg = R.CHn_PXS_STATUS n) :
      (d.relockBegun n).get g = ((d.put (F.CHn_PXS_STATUS.locked n) 0).count (F.CHn_PXS_STATUS.relocks n)).get g := by
    rw [Dev.get, Dev.get, hg, hStatus]
  refine ⟨Frame.rd hFrame _ ?_, hFrame (.act _) (by simp [relockParts]) _ rfl, Frame.rd hFrame _ ?_, ?_, ?_, ?_, ?_, rfl⟩
  · simp [relockParts, R.CHn_PXS_FREQ, R.CHn_PXS_STATUS, R.CLK_EVENTS]; omega
  · simp [relockParts, R.PWR_STATUS, R.CHn_PXS_STATUS, R.CLK_EVENTS]; omega
  · rw [Dev.on, hGet _ rfl, Dev.count, Dev.get_put_other _ (F.CHn_PXS_STATUS.relocks n) (F.CHn_PXS_STATUS.locked n) _ rfl rfl rfl rfl, Dev.get_put_same _ _ _ rfl]
    rfl
  · rw [hGet _ rfl, Dev.get_count_same _ _ _ rfl, Dev.get_put_other _ (F.CHn_PXS_STATUS.locked n) (F.CHn_PXS_STATUS.relocks n) _ rfl rfl rfl rfl]
    rfl
  · rw [Dev.relockBegun, Dev.clkEvent, Dev.rd_wr_same, bit_mod _ _ _ (by decide), bit_mod _ _ _ (by decide)]
    exact bit_putBits_same _ 2 true
  · exact Store.get_set_same 0 d.clk.lostAt (8 + n) (d.sys.now8 + 1)

/-- The end of sheets leaves the loss as it is. -/
theorem Dev.Relocking.spared (h : Dev.Relocking n d e) (g : Dev.Spares n e f) : Dev.Relocking n d f :=
  ⟨g.freq.trans h.freq, g.act.trans h.act, g.power.trans h.power, g.locked.trans h.locked,
    by rw [← h.relocks, Dev.get, Dev.get, F.CHn_PXS_STATUS.relocks, g.status], by rw [g.events, h.event], by rw [g.clk, h.lostAt], by rw [g.clk, h.said]⟩

theorem Dev.dropFromSheets_none (h : ∀ k < 32, d.shtState k ≠ 3) (m cause d1 : Nat) : d.dropFromSheets m cause d1 = d := by
  have hNone : ((List.range 32).filter fun k => d.shtState k = 3 && (d.sheetChans k).contains m && !bit (d.get (F.SHT_Dd_CHAN.ended k)) m) = [] := by
    refine List.filter_eq_nil_iff.2 fun k hk => ?_
    simp [h k (List.mem_range.1 hk)]
  rw [Dev.dropFromSheets, hNone, Dev.each, List.foldl_nil]

theorem Dev.idleStart_of_warned (h : d.warned = false) (hPower : e.rd R.PWR_STATUS = d.rd R.PWR_STATUS) : e.idleStart = false := by
  have hOn (g : Fld) (hg : g.reg = R.PWR_STATUS) : e.on g = d.on g := by rw [Dev.on, Dev.on, Dev.get, Dev.get, hg, hPower]
  have hWarned : e.warned = d.warned := by rw [Dev.warned, Dev.warned, hOn _ rfl, hOn _ rfl]
  rw [Dev.idleStart, hWarned, h, Bool.false_and, Bool.false_and]

end
end Sys2Proof.Machine

namespace Sys2Proof.Proofs
section
variable {s : State} {n : Fin 8} {m : Word32}

theorem pxsFreqWrite_transfers (hDirect : s.dev.direct (R.CHn_PXS_FREQ n).off) (hGap : (s.dev.chS n).desc = none) (hPower : s.dev.warned = false) :
    Completes (exec (.pxsFreqWrite n m) s) fun t =>
      t.dev.rd (R.CHn_PXS_FREQ n) = m.toNat ∧ t.dev.act (R.CHn_PXS_FREQ n) = m.toNat ∧
      (farM (s.dev.act (R.CHn_PXS_FREQ n)) m.toNat → t.dev.on (F.CHn_PXS_STATUS.locked n) = false ∧
        t.dev.get (F.CHn_PXS_STATUS.relocks n) = min (s.dev.get (F.CHn_PXS_STATUS.relocks n) + 1) (2 ^ 16 - 1) ∧
        t.dev.on (F.CHn_FGT_STATUS.permit n) = false ∧ bit (t.dev.rd R.CLK_EVENTS) 2 = true ∧ Store.get 0 t.dev.clk.lostAt (8 + n) = s.dev.sys.now8 + 1 ∧
        t.dev.clk.said = s.dev.clk.said) ∧
      (farM (s.dev.act (R.CHn_PXS_FREQ n)) m.toNat → (∀ k < 32, s.dev.shtState k ≠ 3) →
        s.Frame ([Part.clk, Part.act (R.CHn_PXS_FREQ n).off, Part.reg (R.CHn_PXS_FREQ n).off, Part.reg (R.CHn_PXS_STATUS n).off, Part.reg R.CLK_EVENTS.off] ++ gateParts n) t) ∧
      (¬farM (s.dev.act (R.CHn_PXS_FREQ n)) m.toNat → s.Frame [Part.act (R.CHn_PXS_FREQ n).off, Part.reg (R.CHn_PXS_FREQ n).off] t) ∧
      t.mem = s.mem ∧ t.pending = s.pending := by
  set d := s.dev.wr (R.CHn_PXS_FREQ n) m.toNat with hd
  set e := d.activate (R.CHn_PXS_FREQ n) with he
  have hRd : d.rd (R.CHn_PXS_FREQ n) = m.toNat := Dev.rd_wr_pxsFreq s.dev m
  have hAct : e.act (R.CHn_PXS_FREQ n) = m.toNat := (Dev.act_activate_same _ _).trans hRd
  have hFrame : Dev.Frame [Part.act (R.CHn_PXS_FREQ n).off, Part.reg (R.CHn_PXS_FREQ n).off] s.dev e :=
    Frame.activate (Frame.wr Frame.refl _ _ (by simp)) _ (by simp)
  have hStatus : e.rd R.PWR_STATUS = s.dev.rd R.PWR_STATUS := Frame.rd hFrame _ (by simp [R.PWR_STATUS, R.CHn_PXS_FREQ]; omega)
  have hWrite : s.dev.rwgWrite n (R.CHn_PXS_FREQ n) m.toNat (·.freqTransfer n) = d.freqTransfer n := by
    have hOpen : d.atGap n = true := by rw [Dev.atGap, hd, Dev.chS_congr (Dev.wr_ch _ _ _), hGap]; rfl
    rw [Dev.rwgWrite, ← hd, if_pos hOpen]
  have hOld : d.act (R.CHn_PXS_FREQ n) = s.dev.act (R.CHn_PXS_FREQ n) := rfl
  by_cases hFar : farM (s.dev.act (R.CHn_PXS_FREQ n)) m.toNat
  · have hTransfer := hWrite.trans (Dev.freqTransfer_far (n := n) (d := d) (by rwa [hOld, hRd]))
    rw [← he] at hTransfer
    set x := (e.relockBegun n).gate n with hx
    have hBegun : Dev.Relocking n e (e.relockBegun n) := Dev.relocking_relockBegun
    have hGated : Dev.Relocking n e x := hBegun.spared (Dev.Spares.refl.gate n.isLt)
    have hDrop : Dev.Spares n x (x.dropFromSheets n 0x44 0) := Dev.Spares.refl.dropFromSheets n.isLt _ _
    have hEnd := hGated.spared hDrop
    refine completes_pxsFreqWrite hDirect hTransfer (Dev.idleStart_of_warned hPower (hEnd.power.trans hStatus)) ⟨hEnd.freq.trans hRd, hEnd.act.trans hAct, fun _ => ⟨hEnd.locked, ?_,
      hDrop.permit hGated.locked (Dev.permit_gate hBegun.locked), hEnd.event, ?_, ?_⟩, fun _ hNone => ?_, fun h => absurd hFar h, rfl, rfl⟩
    · rw [← Frame.get hFrame (F.CHn_PXS_STATUS.relocks n) (by simp [F.CHn_PXS_STATUS.relocks, R.CHn_PXS_STATUS, R.CHn_PXS_FREQ])]
      exact hEnd.relocks
    · exact hEnd.lostAt
    · exact hEnd.said
    · have hAll : Dev.Frame ([Part.clk, Part.act (R.CHn_PXS_FREQ n).off, Part.reg (R.CHn_PXS_FREQ n).off, Part.reg (R.CHn_PXS_STATUS n).off, Part.reg R.CLK_EVENTS.off] ++ gateParts n) s.dev x :=
        Frame.gate (Frame.trans (Frame.mono hFrame (by simp)) (Frame.mono Dev.frame_relockBegun (by simp [relockParts]))) n (by simp +contextual)
      have hSame (k : Nat) : x.shtState k = s.dev.shtState k := Frame.get hAll (F.SHT_Dd_STATE.state k) (by
        simp [gateParts, irqParts, F.SHT_Dd_STATE.state, R.SHT_Dd_STATE, R.CHn_PXS_FREQ, R.CHn_PXS_STATUS, R.CLK_EVENTS, R.CHn_FGT_STATUS, R.CHn_FGT_COUNTS, R.CHn_FGT_IRQ_STATUS,
          R.MSIX_PBA]
        omega)
      rw [Dev.dropFromSheets_none fun k hk => hSame k ▸ hNone k hk]
      exact Frame.ofDev hAll
  · have hTransfer := hWrite.trans (Dev.freqTransfer_near (n := n) (d := d) (by rwa [hOld, hRd]))
    exact completes_pxsFreqWrite hDirect hTransfer (Dev.idleStart_of_warned hPower hStatus)
      ⟨hRd, hAct, fun h => absurd h hFar, fun h => absurd h hFar, fun _ => Frame.ofDev hFrame, rfl, rfl⟩

end
end Sys2Proof.Proofs

end

-- ==== Sitting: scan timing ====
section
/-! PROOF. The obligation on scan timing, assembled from the lemma on each command. -/

open Sys2Proof Sys2Proof.Machine Sys2Proof.Claims
set_option maxRecDepth 20000

namespace Sys2Proof.Proofs

/-- The two sides of the window of a slot. -/
theorem not_inWindow {d : Dev} {n k t : Nat}
    (h : t + 64 * max 1 (d.get (F.CHn_SCT_CTRL.bd_window n)) < 64 * d.slotT n k ∨ 64 * (d.slotT n k + max 1 (d.get (F.CHn_SCT_CTRL.bd_window n))) < t) :
    ¬d.inWindow n k t := fun ⟨hLow, hHigh⟩ => h.elim hLow.not_gt hHigh.not_gt

/-- The same in the words of the obligation, which names the written register and the begun slot by conditionals. -/
theorem gridWrite_transfersSlot {s : State} {n : Fin 8} {period : Bool} {v : Word64} (hDirect : s.dev.direct (R.CHn_SCT_REF_TIME n).off)
    (hGap : (s.dev.chS n).desc = none) : Completes (exec (.gridWrite n period v) s) fun t =>
      (if period then t.dev.rd (R.CHn_SCT_FACET_PERIOD n) = v.toNat % 2 ^ 48 else t.dev.rd (R.CHn_SCT_REF_TIME n) = v.toNat) ∧
      t.dev.gridP n = t.dev.get (F.CHn_SCT_FACET_PERIOD.period n) ∧ t.dev.gridRef n = t.dev.rd (R.CHn_SCT_REF_TIME n) ∧
      (t.dev.chS n).slot = t.dev.slotFrom n (s.dev.now + (if s.dev.slotBegun n then 1 else 0)) ∧ (t.dev.chS n).judged = t.dev.slotFrom n s.dev.now ∧
      (t.dev.chS n).edge = none ∧ (s.dev.sctSt n ≠ 0 → t.dev.sctSt n = 1 ∧ t.dev.get (F.CHn_SCT_STATUS.lock_count n) = 0) ∧ (s.dev.sctSt n = 0 → t.dev.sctSt n = 0) ∧
      s.Frame [Part.ch n, Part.reg (if period then R.CHn_SCT_FACET_PERIOD n else R.CHn_SCT_REF_TIME n).off, Part.act (R.CHn_SCT_FACET_PERIOD n).off,
        Part.act (R.CHn_SCT_REF_TIME n).off, Part.reg (R.CHn_SCT_STATUS n).off] t := by
  obtain ⟨t, hNext, hReg, hP, hRef, hSlot, hRest⟩ := gridWrite_transfers (period := period) (v := v) hDirect hGap
  refine ⟨t, hNext, ?_, hP, hRef, ?_, hRest⟩
  · cases period <;> exact hReg
  · rw [hSlot]
    cases s.dev.slotBegun n <;> rfl

/-- Settles O28: each clause by the lemma on its command. What a judged slot changes is followed stage by stage through `judgeSlot`; a step of the
pixel clock that ends sheets leaves the synthesizer and its permit as they are (`Dev.Spares`). -/
theorem scanTiming : Obligations.ScanTiming := by
  unfold Obligations.ScanTiming
  refine ⟨?_, ?_, ?_, ?_, ?_, ?_, ?_, ?_, ?_, ?_, ?_, ?_, ?_, ?_⟩
  · exact fun s n t64 rising hSel hDom hRuns hBounds => bdEdge_seen hSel hDom hRuns hBounds
  · exact fun s n hRuns hBounds => bdWindowClose_judges hRuns hBounds
  · exact fun s n hDirect => sctEnable_searches hDirect
  · exact fun s n hDirect => sctEnable_turnsOff hDirect
  · exact fun s n t64 k rising hSel hRuns hSt hNext hRef hSlot hBounds => bdEdge_keepsNearest hSel hRuns hSt hNext hRef hSlot hBounds
  · exact fun s n t64 k rising hSel hRuns hSt hNext hRef hSlot hIn hBounds => bdEdge_judges hSel hRuns hSt hNext hRef hSlot hIn hBounds.2
  · exact fun s n t64 k rising hSel hRuns hSt hNext hRef hSlot hOut _ => bdEdge_extra hSel hRuns hSt hNext hRef hSlot (not_inWindow hOut)
  · exact fun s n t64 rising => ⟨bdEdge_ignored, bdWindowClose_ignored⟩
  · exact fun s n t64 hRuns hSt hEdge ht _ => bdWindowClose_searches hRuns hSt hEdge ht
  · exact fun s n hRuns hSt hEdge hBounds => bdWindowClose_misses hRuns hBounds hSt hEdge
  · exact fun s n period v hDirect hGap => gridWrite_transfersSlot hDirect hGap
  · intro s n period v m hDirect hScan hIdle
    have hFreq : s.dev.direct (R.CHn_PXS_FREQ n).off :=
      direct_sameChannel n.isLt hDirect (by simp only [R.CHn_SCT_REF_TIME]; omega) (by simp only [R.CHn_PXS_FREQ]; omega)
    exact ⟨gridWrite_waits hDirect hScan, pxsFreqWrite_waits hFreq hScan hIdle⟩
  · exact fun s n m hDirect hGap hPower => pxsFreqWrite_transfers hDirect hGap hPower
  · exact fun s n => mapCopyDone_clears

end Sys2Proof.Proofs

end

-- ==== Sitting: link, drives, control, power, twin and legacy bus ====
section
/-! SUPPORT. States in which a statement on the urgent path, a link, a drive, a loop, temperatures, power, clocks, the twin or the legacy
bus fails: for each a state that meets the hypotheses, and what the model makes of it. -/
open Sys2Proof Sys2Proof.Machine Sys2Proof.Claims
set_option maxRecDepth 20000

namespace Sys2Proof.Proofs

/-! ### A restart that resets a register outside the listed ones (R344, R348) -/

/-- The device waits in OFF after a timed shut-down (purpose 3), and 0xC0100, inside the PWR block and beyond its first 64 words, holds 1. -/
def parkedState : State :=
  let d := ({} : Dev).wr R.PWR_STATE 0x0C000000
  { dev := { d with
    regs := Store.set 0#64 d.regs 0xC0100 1
    sys := { d.sys with inReset := false } } }

/-- The restart returns the whole PWR block to reset. -/
theorem parkedState_reset : parkedState.dev.parkRestart.rd ⟨0xC0100, 32, 0⟩ = 0 := by decide

/-- Refutes O46: the restart from the parked state is a full reset of the PWR block, 0xC0000 to 0xCFFFF (R348), and the list of what it
changes stops at 0xC00FC. -/
theorem not_powerFail : ¬ Obligations.PowerFail := by
  unfold Obligations.PowerFail
  rintro ⟨-, -, -, -, -, -, -, -, hPark, -⟩
  obtain ⟨t, hExec, -, -, -, -, -, -, -, -, hFrame, -⟩ := hPark parkedState (by decide) (by decide) (by decide) (by decide)
  obtain rfl : { parkedState with dev := parkedState.dev.parkRestart } = t := by injection hExec
  have hKept : parkedState.dev.parkRestart.rd ⟨0xC0100, 32, 0⟩ = parkedState.dev.rd ⟨0xC0100, 32, 0⟩ :=
    hFrame (.reg 0xC0100) (by decide) _ rfl
  exact absurd (parkedState_reset.symm.trans hKept) (by decide)

/-! ### A re-lock on purpose where a merged count holds bits above its width (R351) -/

/-- SAFE_IDLE before phase 3, with the host's link up and CORE on; bit 32 of the 32-bit register FLT_SRC0_STATE is set. -/
def wideSourceState : State :=
  let d := ({} : Dev).wr R.PWR_DOMAINS 1
  { dev := { d with
    regs := Store.set 0#64 d.regs (R.FLT_SRCi_STATE 0).off (BitVec.ofNat 64 (2 ^ 32))
    host := { d.host with linkUp := true } } }

/-- Loop 0 follows another stage; what keeps the loss unrecorded writes the merged count of every source, and with it the low 32 bits alone. -/
theorem wideSourceState_cut : (wideSourceState.dev.reach R.CLK_REF_CFG.off (·.refCfg 1)).rd (R.FLT_SRCi_STATE 0) = 0 := by decide

/-- The device is not warned of a power failure, so that no shut-down starts. -/
theorem wideSourceState_stays :
    ({ wideSourceState with dev := wideSourceState.dev.reach R.CLK_REF_CFG.off (·.refCfg 1) } : State).dev.idleStart = false := by decide

/-- Refutes O47: the statement ranges over every device, also over one whose store holds a value above the width of the 32-bit register
FLT_SRC0_STATE. A write of CLK_REF_CFG that re-locks a loop gives the merged count of every source its old value again, which cuts that
register to its 32 bits: it is not CLK_REF_CFG alone that changes. -/
theorem not_clockReference : ¬ Obligations.ClockReference := by
  unfold Obligations.ClockReference
  rintro ⟨-, -, -, -, -, hWrite, -⟩
  obtain ⟨t, hExec, -, hFrame, -⟩ := hWrite wideSourceState 1 (by decide) (by decide) (by decide) (by decide) (by decide)
  obtain rfl : ({ wideSourceState with dev := wideSourceState.dev.reach R.CLK_REF_CFG.off (·.refCfg 1) } : State).idleCheck = t := by
    injection hExec
  rw [State.idleCheck, if_neg (by rw [wideSourceState_stays]; decide)] at hFrame
  have hKept := hFrame (.reg (R.FLT_SRCi_STATE 0).off) (by decide) (R.FLT_SRCi_STATE 0) rfl
  exact absurd (wideSourceState_cut.symm.trans hKept) (by decide)

/-! ### A read of LG_FAULT beside a record of its own clock (R373, R436) -/

/-- Personality C with CORE on; LG_FAULT shows the fusers, and the open record of source 30 has been made in this clock. -/
def freshRecordState : State :=
  let d := ((({} : Dev).wr R.PWR_DOMAINS 1).put F.SYS_STRAPS.pers 1).wr R.LG_FAULT 0x80
  { dev := { d with flt := { d.flt with opens := [{ src := 30, esn := 0, num := 0, cls := 0, base := 0, conseq := false, link := 0,
                                                    escalated := false, bits := 0, at8 := d.sys.now8 + 1 }] } } }

/-- An acknowledgement leaves a record of its own clock open. -/
theorem freshRecordState_open : (freshRecordState.dev.lhbRead 0x00A 0 false).flt.opens = freshRecordState.dev.flt.opens := by decide

/-- Refutes O58: the clause on a read of LG_FAULT closes every open record of a source that it shows; a record made in the clock of the
acknowledgement stays open (R373). -/
theorem not_legacyBus : ¬ Obligations.LegacyBus := by
  unfold Obligations.LegacyBus
  rintro ⟨-, -, -, -, hFault, -⟩
  obtain ⟨t, hExec, -, -, -, hClosed, -⟩ := hFault freshRecordState 0 (by decide) (by decide)
  obtain rfl : { freshRecordState with dev := freshRecordState.dev.lhbRead 0x00A 0 false } = t := by injection hExec
  dsimp only at hClosed
  rw [freshRecordState_open] at hClosed
  exact hClosed _ (List.mem_singleton.2 rfl) (by decide) (List.mem_singleton.2 rfl)

/-! ### A saturation in a slot that the image leaves out (R318, R364) -/

/-- Slot 0 is in RUN and saturated since engine time 0, with a time-out of 1 ms; the image uses no loop. -/
def unusedSlotState : State :=
  let d := (({} : Dev).put (F.LOOP_Sk_STATUS.state 0) 2).modLoop 0 fun x => { x with satSince := 1 }
  { dev := { d with
    actTbl := Store.set 0#64 d.actTbl (0x310000 + 0x28) (BitVec.ofNat 64 (2 ^ 16))
    evt := { d.evt with running := true } } }

/-- The active level of source 29 is that of the slots of the image. -/
theorem unusedSlotState_inactive : (unusedSlotState.dev.satTimeout 0).on (F.FLT_SRCi_STATE.active 29) = false := by decide

/-- Refutes O43: the last clause has the time-out of a saturation raise the active level of source 29 for every slot in RUN, also for one
that the image leaves out. -/
theorem not_loopSample : ¬ Obligations.LoopSample := by
  unfold Obligations.LoopSample
  rintro ⟨-, -, -, -, -, -, -, -, -, -, hTimeout⟩
  obtain ⟨t, hExec, hPost⟩ := hTimeout unusedSlotState 0 (by decide) (by decide) (by decide) (by decide)
  obtain rfl : { unusedSlotState with dev := unusedSlotState.dev.satTimeout 0 } = t := by injection hExec
  obtain ⟨-, -, -, hActive, -⟩ := (if_neg (by decide)).mp hPost
  exact absurd (unusedSlotState_inactive.symm.trans hActive) (by decide)

/-! ### An input that leaves source 36 without its level (R253, R364) -/

/-- DIN0 has a pin of its own and reads low; source 36 is active, and the image uses no channel. -/
def activeSourceState : State :=
  let d := ({} : Dev).put (F.FLT_SRCi_STATE.active 36) 1
  { dev := { d with frd := { d.frd with cfg := { d.frd.cfg with pins := [{ group := 3, index := 0, func := 1, k := 0, invert := false }] } } } }

/-- A high level of DIN0 judges the interlocks anew: none is open. -/
theorem activeSourceState_cleared : (activeSourceState.dev.inputQualify (.din 0) true).rd (R.FLT_SRCi_STATE 36) = 0 := by decide

/-- Refutes O40: the clause on a DIN input that no channel names has the input alone change. Its level judges source 36 anew (R364), which
clears the active bit of a source that stands without an open interlock. -/
theorem not_stepperMotion : ¬ Obligations.StepperMotion := by
  unfold Obligations.StepperMotion
  rintro ⟨-, -, -, -, -, -, hDin, -⟩
  obtain ⟨t, hExec, hPost⟩ := hDin activeSourceState 0 true (by decide)
  obtain rfl : { activeSourceState with dev := activeSourceState.dev.inputQualify (.din 0) true } = t := by injection hExec
  obtain ⟨-, -, hFrame⟩ := (if_neg (by decide)).mp hPost
  have hKept := (hFrame (by decide) (by decide)).1 (.reg (R.FLT_SRCi_STATE 36).off) (by decide) (R.FLT_SRCi_STATE 36) rfl
  exact absurd (activeSourceState_cleared.symm.trans hKept) (by decide)

/-! ### A conversion whose sensor cuts the fusers now (R323, R330) -/

/-- Sensor 0 converts with a shut-down level of 100 and, as the conversion began, without cut_en; cut_en has been set since, and source 30
arms its cut, reaction 5. -/
def lateCutState : State :=
  let d := ((({} : Dev).put (F.TMP_Ss_CFG.enable 0) 1).put (F.TMP_Ss_CFG.cut_en 0) 1).put F.FRD_STATUS.state 5
  { dev := { d with
    evt := { d.evt with running := true }
    tmp := { d.tmp with conv := [0], snap := [2 ^ 31, 0x7FFF7FFF, 100] }
    frd := { d.frd with cfg := { d.frd.cfg with reacts := [{ source := 30, reactions := 2 ^ 5 }] } } } }

/-- The record of the shut-down level says that the fusers are cut. -/
theorem lateCutState_strobes :
    (lateCutState.dev.convEnd 1000 200).flt.strobes.map (·.d1) = [100 * 65536 + 1] := by decide

/-- Refutes O25: the clause on a valid code asks for no cut where the settings that the conversion began with (R323) hold no cut_en; the cut
follows cut_en as it stands when the level is reached. -/
theorem not_temperatures : ¬ Obligations.Temperatures := by
  unfold Obligations.Temperatures
  rintro ⟨-, -, -, hValid, -⟩
  obtain ⟨t, hExec, -, -, -, -, -, -, -, -, -, -, -, -, -, hStrobes, -⟩ := hValid lateCutState 0 [] 1000#14 200 (by decide) (by decide)
    (by decide) (by decide) (by decide) (by decide) (by decide) (by decide) (by decide) (by decide) (by decide) (by decide)
  obtain rfl : { lateCutState with dev := lateCutState.dev.convEnd 1000 200 } = t := by injection hExec
  exact absurd (lateCutState_strobes.symm.trans (congrArg (List.map (·.d1)) hStrobes)) (by decide)

/-! ### A stop that comes too late for a brushless axis (R79, R276) -/

/-- The host's link is up and CORE on; axis 0 of the image is OFF, and its last move has been completed in this clock. -/
def doneMoveState : State :=
  let d := (({} : Dev).wr R.PWR_DOMAINS 1).modBld 0 fun x => { x with moveDone := 1 }
  { dev := { d with
    host := { d.host with linkUp := true }
    frd := { d.frd with cfg := { d.frd.cfg with axes := [{ axis := 0 }] } } } }

/-- The engine stop comes too late for the move (R276), and the axis shows it. -/
theorem doneMoveState_tooLate :
    (doneMoveState.reach R.URG_CMD.off (·.doorbell 0x55470001)).dev.rd (R.BLD_AXa_STATUS 0) ≠ doneMoveState.dev.rd (R.BLD_AXa_STATUS 0) := by
  decide

/-- Refutes O13: the clause on the engine stop of an engine whose brushless axes are OFF lets no axis register change. An axis that a
disable has taken to OFF in the clock in which its move completed shows that the stop came too late (R276). -/
theorem not_qspiAndUrgent : ¬ Obligations.QspiAndUrgent := by
  unfold Obligations.QspiAndUrgent
  rintro ⟨-, -, -, -, -, -, -, -, -, hStop, -⟩
  obtain ⟨t, hExec, -, -, -, -, hFrame, -⟩ := hStop doneMoveState (by decide) (by decide) (by decide) (by decide)
  obtain rfl : doneMoveState.reach R.URG_CMD.off (·.doorbell 0x55470001) = t := by injection hExec
  exact doneMoveState_tooLate (hFrame (.reg (R.BLD_AXa_STATUS 0).off) (by decide) (R.BLD_AXa_STATUS 0) rfl)

/-! ### A RETRAIN at a channel without a Beam Link port (R239, R252, R259) -/

/-- Channel 0 is in use without a port (bl_mode 2): every condition of its permit is met and its permit has been asked for, but not judged. -/
def portlessState : State :=
  let d := (({} : Dev).wr R.PWR_DOMAINS 0x11).put F.SYS_HOST_STATE.state 0
  let d := (d.put (F.CHn_BLP_STATUS.state 0) 1).put (F.CHn_PXS_STATUS.locked 0) 1
  let d := (d.put (F.BLD_AXa_STATUS.at_speed 0) 1).put (F.CHn_FGT_CTRL.permit_req 0) 1
  { dev := { d with
    host := { d.host with linkUp := true }
    frd := { d.frd with cfg := { d.frd.cfg with chans := [{ channel := 0, blMode := 2 }] } } } }

/-- A new detection judges the permit, which such a channel has without a port. -/
theorem portlessState_permit : (portlessState.dev.agree R.BLK_CMD 1 (·.retrain 1)).on (F.CHn_FGT_STATUS.permit 0) = true := by decide

/-- Refutes O32: the clause on RETRAIN takes the permit from every channel that detects anew. A channel with bl_mode 2 has no port that
could hold its permit back (R252), and the judgement that a detection brings may give it. -/
theorem not_linkBackChannel : ¬ Obligations.LinkBackChannel := by
  unfold Obligations.LinkBackChannel
  rintro ⟨-, -, hRetrain, -⟩
  obtain ⟨t, hExec, -, hAsked, -⟩ := hRetrain portlessState 1 (by decide) (by decide)
  obtain rfl : { portlessState with dev := portlessState.dev.agree R.BLK_CMD 1 (·.retrain 1) } = t := by injection hExec
  obtain ⟨-, hPermit⟩ := hAsked 0 (by decide) (by decide) (by decide)
  exact absurd (portlessState_permit.symm.trans hPermit) (by decide)

/-! ### A snapshot whose first word lies outside the host states (R402) -/

/-- A joining member with its time in step holds a snapshot of one block: two words, of which the one after their number is 8. -/
def oneWordSnapshotState : State :=
  let d := (({} : Dev).put F.TWN_STATUS.time_synced 1).put F.TWN_STATUS.state 2
  { dev := { d with
    evt := { d.evt with running := true }
    twn := { d.twn with join := some (0, 0), snap := [(⟨true, 0⟩, [2, 8, 0, 0, 0, 0, 0, 0])] } } }

/-- Refutes O56: the last clause takes the host state of an applied snapshot from four bits of its first word. SYS_HOST_STATE.state has three
(R72), so that no device shows the 8 that this snapshot holds there. -/
theorem not_twinJoin : ¬ Obligations.TwinJoin := by
  unfold Obligations.TwinJoin
  rintro ⟨-, -, -, -, -, -, hApply⟩
  obtain ⟨t, -, -, -, -, -, hState, -⟩ := hApply oneWordSnapshotState [8] 0 0 (by decide) (by decide) (by decide) (by decide) (by decide)
    (by decide) (by decide) (by decide)
  have hLt : t.dev.get F.SYS_HOST_STATE.state < 8 := t.dev.get_lt _
  exact absurd (hState ▸ hLt) (by decide)

/-! ### An epoch over the registers that show it (R399) -/

/-- The holder of a pair with lane 0 up; the one dirty block is that of TWN_STATUS and TWN_EPOCH. -/
def selfShownState : State :=
  let d := ((({} : Dev).wr R.PWR_DOMAINS 5).put F.TWN_STATUS.partner_present 1).put F.TWN_STATUS.lanes_up 1
  let d := d.put F.TWN_TOKEN_STATE.latch 1
  { dev := { d with
    host := { d.host with linkUp := true }
    twn := { d.twn with pState := 3, dirty := [⟨true, 0xF0000⟩] }
    frd := { d.frd with cfg := { d.frd.cfg with role := { d.frd.cfg.role with grade := 1 } } } } }

/-- The block leaves with the new number of the epoch in it. -/
theorem selfShownState_out : (selfShownState.dev.reach R.TWN_CMD.off Dev.epochAsk).out.getLast? =
    some (.twin 0 (twinFrame 5 0 (blkUnits 1 ⟨true, 0xF0000⟩ ((selfShownState.dev.put F.TWN_EPOCH.current 1).put F.TWN_STATUS.epoch_busy 1 |>.blkRead ⟨true, 0xF0000⟩)))) := by
  decide

/-- Refutes O55: the clause on an epoch over one dirty block sends the block as it stood before the epoch. The epoch first shows its number
and that it runs (R399), and a block that holds TWN_STATUS or TWN_EPOCH leaves with these. -/
theorem not_twinEpochs : ¬ Obligations.TwinEpochs := by
  unfold Obligations.TwinEpochs
  rintro ⟨-, -, -, -, hRequest, -⟩
  obtain ⟨t, hExec, hPost⟩ := hRequest selfShownState ⟨true, 0xF0000⟩ (by decide) (by decide) (by decide)
  obtain rfl : { selfShownState with dev := selfShownState.dev.reach R.TWN_CMD.off Dev.epochAsk } = t := by injection hExec
  obtain ⟨-, -, -, -, -, -, -, -, hOut, -⟩ := (if_neg (by decide)).mp ((if_neg (by decide)).mp hPost)
  exact absurd (selfShownState_out.symm.trans (congrArg List.getLast? hOut)) (by decide)

/-! ### A line of video whose word an error injection waits for (R172, R447) -/

/-- A frame of line 0 of station 0 with one unit of pixels, for the sheet of number 0. -/
def lineFrame : List Byte :=
  let body := [0, 0, 0, 0, 8, 0, 0, 0, 1, 2, 3, 4, 5, 6, 7, 8]
  ([0xFB, 0, 0, 0, 0, 0, 0, 0] ++ body ++ [0xDC] ++ leBytes 4 (crc32c body) ++ [0, 0, 0]).map (BitVec.ofNat 8)

/-- Personality C; the receive direction is ALIGNED, descriptor 0 is ADMITTED with the sheet of number 0, of 4 lines on channel 0, and an
error injection into the first word of its plane is armed. -/
def injectedLineState : State :=
  let d := ((({} : Dev).wr R.PWR_DOMAINS 7).put F.SYS_STRAPS.pers 1).put F.RNG_LANE_STATUS.rx_state 4
  let d := (d.wr (R.SHT_Dd_HEAD 0) (0x100 * 2 ^ 16 + 1 * 2 ^ 8)).put (F.SHT_Dd_STATE.state 0) 2
  let d := ((d.put (F.SHT_Dd_LINES.input_lines 0) 4).put (F.LG_Ss_PIXELS.pixels 0) 8).put F.MEM_INJECT_CTRL.arm 1
  { dev := { d with frd := { d.frd with cfg := { d.frd.cfg with chans := [{ channel := 0, pixels := 8 }] } } } }

/-- The frame is the line that descriptor 0 waits for. -/
theorem injectedLineState_judge : injectedLineState.dev.lgJudge (nats lineFrame) = .line 0 0 0 [1, 2, 3, 4, 5, 6, 7, 8] := by decide

/-- The write of the line spends the injection. -/
theorem injectedLineState_spent :
    (injectedLineState.legacyFrame (lineFrame.map BitVec.toNat)).dev.rd R.MEM_INJECT_CTRL = 0 := by decide

/-- Refutes O59: the clause on a video frame that stores its line has FILL alone change. A line whose word an armed injection waits for spends
it (R172). -/
theorem not_legacyEngine : ¬ Obligations.LegacyEngine := by
  unfold Obligations.LegacyEngine
  rintro ⟨-, -, hLine, -⟩
  obtain ⟨t, hExec, -, hFrame, -⟩ := hLine injectedLineState lineFrame 0 0 0 [1, 2, 3, 4, 5, 6, 7, 8] (by decide) (by decide) (by decide)
    (by decide) injectedLineState_judge (by decide)
  obtain rfl : injectedLineState.legacyFrame (lineFrame.map BitVec.toNat) = t := by injection hExec
  have hKept := hFrame (.reg R.MEM_INJECT_CTRL.off) (by decide) R.MEM_INJECT_CTRL rfl
  exact absurd (injectedLineState_spent.symm.trans hKept) (by decide)

/-! ### A reversal whose STOPPING ends in the sample (R271, R272) -/

/-- Axis 0 is in STOPPING with its reference speed at 0, a start waits for its end, and no speed sample is due. -/
def reversingState : State :=
  let d := (({} : Dev).wr R.PWR_DOMAINS 8).put (F.BLD_AXa_STATUS.state 0) 8
  let d := d.modBld 0 fun x => { x with startDue := some (16, 1, true) }
  let d := { d with active := [((R.BLD_AXa_ILOOP 0).off, 0x00010001), ((R.BLD_AXa_MOTOR1 0).off, 0x00010001), ((R.BLD_AXa_FW2 0).off, 0xFFFFFFFF)] }
  { dev := { d with frd := { d.frd with cfg := { d.frd.cfg with axes := [{ axis := 0 }] } } } }

/-- The sample ends STOPPING and begins the start: a current loop that starts has no compare values before its first sample (R272). -/
theorem reversingState_fresh : ((reversingState.dev.bldSample 0 0 0).bldS 0).cmpNext = [] := by decide

/-- Refutes O37: the first clause has a sample of an axis from CATCH to BUS_COAST give three compare values, also where the sample ends
STOPPING and the start that waits takes the axis to CATCH, whose first sample is the next. -/
theorem not_brushlessCurrent : ¬ Obligations.BrushlessCurrent := by
  unfold Obligations.BrushlessCurrent
  rintro ⟨hSample, -⟩
  obtain ⟨t, hExec, -, -, hLoop, -⟩ := hSample reversingState 0 0 0 (by decide) (by decide) (by decide)
  obtain rfl : { reversingState with dev := reversingState.dev.bldSample 0 0 0 } = t := by injection hExec
  obtain ⟨hThree, -⟩ := hLoop (by decide) (by decide) (by decide)
  exact absurd ((congrArg List.length reversingState_fresh).symm.trans hThree) (by decide)

end Sys2Proof.Proofs
end

-- ==== Sitting: the legacy timer ====
section
open Sys2Proof Sys2Proof.Machine Sys2Proof.Claims
set_option maxRecDepth 20000

namespace Sys2Proof.Machine
namespace Dev

/-- Personality C with CORE on: the legacy bus answers. -/
theorem legacy_of {d : Dev} (hPers : d.persC = true) (hCore : d.domOn 0 = true) : d.legacy = true := by
  rw [legacy, hPers, hCore]
  rfl

/-- A read of LG_TIMER_LO latches the high half of the timer and answers the low one. -/
theorem lhbRead_timerLo {d : Dev} (h : d.legacy = true) (same : Nat) :
    d.lhbRead 0x00C same false = (d.put F.LG_TIMER_HI.high (d.lgTimer / 65536)).emit (.lhb (d.lgTimer % 65536)) := by
  rw [lhbRead, if_neg (by rw [h]; decide)]
  rfl

/-- A read of LG_TIMER_HI answers what was latched, and does nothing beside it. -/
theorem lhbRead_timerHi {d : Dev} (h : d.legacy = true) (same : Nat) :
    d.lhbRead 0x00E same false = d.emit (.lhb (d.rd R.LG_TIMER_HI % 2 ^ 16)) := by
  have hFind : findReg 0x100000E = some (R.LG_TIMER_HI, [⟨15, 0, .ro⟩]) := by decide
  have hValue : d.lgValue 0x00E = d.rd R.LG_TIMER_HI % 2 ^ 16 := by
    simp [lgValue, hFind, shownBits, putBits, bits]
  rw [lhbRead, if_neg (by rw [h]; decide)]
  exact congrArg (fun v => d.emit (.lhb v)) hValue

theorem rd_put_timerHi (d : Dev) (v : Nat) : (d.put F.LG_TIMER_HI.high v).rd R.LG_TIMER_HI = v % 2 ^ 16 := by
  have h : (d.put F.LG_TIMER_HI.high v).rd R.LG_TIMER_HI = putBits (d.rd R.LG_TIMER_HI) 15 0 v % 2 ^ 16 % 2 ^ 64 := d.rd_wr_same _ _
  rw [h, putBits]
  omega

end Dev
end Sys2Proof.Machine

namespace Sys2Proof.Proofs

/-- What a read of LG_TIMER_LO does, whichever of its two commands makes it. -/
theorem timerLo_latches {s : State} {c : Instr} {same : Nat} (hExec : exec c s = s.onDev (·.lhbRead 0x00C same false))
    (hPers : s.dev.persC = true) (hCore : s.dev.domOn 0 = true) : Completes (exec c s) fun t =>
      t.dev.out = .lhb (s.dev.now / 125 % 2 ^ 32 % 2 ^ 16) :: s.dev.out ∧ t.dev.rd R.LG_TIMER_HI = s.dev.now / 125 % 2 ^ 32 / 2 ^ 16 ∧
      s.Frame [Part.out, Part.reg R.LG_TIMER_HI.off] t := by
  refine completes_onDev _ hExec ?_
  rw [Dev.lhbRead_timerLo (Dev.legacy_of hPers hCore)]
  refine ⟨rfl, (Dev.rd_put_timerHi _ _).trans (Nat.mod_eq_of_lt ?_), Frame.ofDev (Frame.emit (Frame.put Frame.refl _ _ (by simp [F.LG_TIMER_HI.high])) _ (by simp))⟩
  rw [Dev.lgTimer]
  omega

/-- Settles O57: the two reads by what each does, the latch's reset value by the registers' own. -/
theorem legacyTimer : Obligations.LegacyTimer := by
  unfold Obligations.LegacyTimer
  refine ⟨fun s same hPers hCore => ⟨timerLo_latches rfl hPers hCore, timerLo_latches (same := 0) rfl hPers hCore, ?_⟩,
    fun s => ⟨⟨_, rfl, rfl⟩, rfl⟩⟩
  refine completes_onDev (·.lhbRead 0x00E same.toNat false) rfl ?_
  rw [Dev.lhbRead_timerHi (Dev.legacy_of hPers hCore)]
  exact ⟨rfl, Frame.ofDev (Frame.emit Frame.refl _ (by simp))⟩

end Sys2Proof.Proofs
end

-- ==== Sitting: the twin's Token latch ====
section
/-! SUPPORT. The Token latch and the pins (R394-R396), time in two stages (R77), and Turns (R398). -/
open Sys2Proof Sys2Proof.Machine Sys2Proof.Claims
set_option maxRecDepth 20000

namespace Sys2Proof.Machine

/-! ### Engine time in two stages (R77) -/

theorem timeCount_timeTick_le_of_lt {src c x : Nat} (h : timeCount src x < c) : x ≤ timeTick src c := by
  by_contra hLt
  have hMono := timeCount_mono src _ x (not_le.1 hLt).le
  have hReach := le_timeCount_timeTick src c
  omega

/-- Engine time that is advanced to u in two stages, the first of which ends before u, stands where one stage takes it. -/
theorem Dev.timeAt_advanceTo {d : Dev} {t u : Nat} (hRuns : d.evt.running = true) (hNow : d.now < 2 ^ 62) (ht : t < 2 ^ 62) (hLater : t + 8 ≤ u) :
    (d.advanceTo t).timeAt u = d.timeAt u := by
  by_cases hPast : d.now < t
  swap
  · rw [Dev.advanceTo, if_neg (by simp [hPast])]
  have hLt := d.timeAt_lt t
  have hThere : (d.advanceTo t).now = d.timeAt t := Dev.now_advanceTo d t hRuns (by omega)
  have hSource : (d.advanceTo t).timeSource = d.timeSource := by
    unfold Dev.timeSource
    rw [Dev.on_advanceTo_ne _ _ _ (by decide) (by decide), Dev.on_advanceTo_ne _ _ _ (by decide) (by decide)]
  have hTick : (d.advanceTo t).sys.now8 = timeTick d.timeSource (timeCount d.timeSource d.sys.now8 + (t - d.now)) := by
    have hFrom : d.sys.now8 ≤ timeTick d.timeSource (timeCount d.timeSource d.sys.now8 + (t - d.now)) :=
      timeCount_timeTick_le_of_lt (by omega)
    have hAdvance : (d.advance (d.timeTicks (t - d.now))).sys.now8 = d.sys.now8 + d.timeTicks (t - d.now) := by
      unfold Dev.advance
      dsimp only
      split_ifs <;> rfl
    rw [Dev.advanceTo, if_pos (by simp [hRuns, hPast]), hAdvance, Dev.timeTicks]
    omega
  have hFirst : d.timeAt t = d.now + (timeCount d.timeSource (d.advanceTo t).sys.now8 - timeCount d.timeSource d.sys.now8) := by
    rw [Dev.timeAt, if_pos hPast, Dev.timeGain, Dev.timeTicks, hTick]
    rw [Nat.add_sub_cancel' (timeCount_timeTick_le_of_lt (by omega))]
  have hGain : timeCount d.timeSource d.sys.now8 + (t - d.now) ≤ timeCount d.timeSource (d.advanceTo t).sys.now8 := by
    rw [hTick]
    exact le_timeCount_timeTick _ _
  rw [Dev.timeAt, Dev.timeAt, if_pos (by omega), if_pos (by omega), Dev.timeGain, Dev.timeGain, Dev.timeTicks, Dev.timeTicks, hSource]
  generalize (d.advanceTo t).sys.now8 = x at *
  have hSame : timeCount d.timeSource x + (u - (d.advanceTo t).now) = timeCount d.timeSource d.sys.now8 + (u - d.now) := by omega
  rw [hSame]
  have hEnd := le_timeCount_timeTick d.timeSource (timeCount d.timeSource d.sys.now8 + (u - d.now))
  have hx : x ≤ timeTick d.timeSource (timeCount d.timeSource d.sys.now8 + (u - d.now)) := timeCount_timeTick_le_of_lt (by omega)
  have h8 : d.sys.now8 ≤ timeTick d.timeSource (timeCount d.timeSource d.sys.now8 + (u - d.now)) := timeCount_timeTick_le_of_lt (by omega)
  rw [Nat.add_sub_cancel' hx, Nat.add_sub_cancel' h8]
  omega

/-! ### The pins and the latch (R394-R396) -/

section
variable {d : Dev}

/-- The member that the pins as read name; 0 for nobody. -/
def Dev.pinsName (d : Dev) : Nat := if d.on F.TWN_TOKEN_STATE.auth_b then 2 else if d.on F.TWN_TOKEN_STATE.auth_a then 1 else 0

/-- The pins as read name the member that the latch means. -/
def Dev.pinsAgree (d : Dev) : Bool := decide (d.pinsName = if d.latch then d.member else 3 - d.member)

/-- The hidden state of the twin unit after agreement has been judged, where frozen outputs hold h. -/
def Dev.twnJudged (d : Dev) (h : Held) : TwnSt :=
  let t := if d.pinsName = 0 then d.twn else { d.twn with lastNamed := d.pinsName }
  if d.pinsAgree && !d.on F.TWN_TOKEN_STATE.agree then { t with disAt := 0, said98 := false, solo := false, liveAt := d.sys.now8 + 63 }
  else if !d.pinsAgree && (d.on F.TWN_TOKEN_STATE.agree || d.twn.disAt = 0) then
    { t with disAt := d.sys.now8 + 1, held := if d.twnFrozen && t.held.isSome then t.held else some h, relOut := d.twnFrozen && t.relOut }
  else t

/-- What judging agreement writes into TWN_TOKEN_STATE. -/
def Dev.pinsJudged (d : Dev) : Dev := (d.put F.TWN_TOKEN_STATE.named d.pinsName).putB F.TWN_TOKEN_STATE.agree d.pinsAgree

/-- Judging agreement: the two fields, the hidden state, and the active level of source 33 that agreement takes back. -/
theorem Dev.twnAgree_eq (d : Dev) : ∃ h, d.twnAgree =
    ({ d.pinsJudged with twn := d.twnJudged h } : Dev).when (d.pinsAgree && !d.on F.TWN_TOKEN_STATE.agree) (·.setActive 33 false) := by
  have hOther (g : Fld) (v : Nat) (hr : g.reg = R.TWN_TOKEN_STATE) (hg : g.ok = true) (h : (decide (g.hi < 2) || decide (3 < g.lo)) = true) :
      (d.put F.TWN_TOKEN_STATE.named v).on g = d.on g := Dev.on_put_other _ _ _ _ hr rfl hg h
  have hLatch : (d.put F.TWN_TOKEN_STATE.named d.pinsName).latch = d.latch := hOther F.TWN_TOKEN_STATE.latch _ rfl rfl rfl
  have hWas : (d.put F.TWN_TOKEN_STATE.named d.pinsName).on F.TWN_TOKEN_STATE.agree = d.on F.TWN_TOKEN_STATE.agree := hOther _ _ rfl rfl rfl
  have hMember : (d.put F.TWN_TOKEN_STATE.named d.pinsName).member = d.member := by
    rw [Dev.member, Dev.on_put_ne _ _ _ _ (by decide), Dev.member]
  unfold Dev.twnAgree
  extract_lets a b named frozen d1 d2 ok was d3 h
  have hd2 : d2 = { d1 with twn := if d.pinsName = 0 then d.twn else { d.twn with lastNamed := d.pinsName } } := by
    change (if d.pinsName = 0 then d1 else _) = _
    split_ifs <;> rfl
  have hOn (g : Fld) : d2.on g = d1.on g := by rw [hd2]; rfl
  have hOk : ok ↔ d.pinsName = if d.latch then d.member else 3 - d.member := by
    change (if d2.latch = true then d.pinsName = d2.member else d.pinsName = 3 - d2.member) ↔ _
    rw [show d2.latch = d.latch from (hOn _).trans hLatch, show d2.member = d.member from (by rw [Dev.member, hOn]; exact hMember)]
    split_ifs <;> rfl
  have hAgree : decide ok = d.pinsAgree := decide_eq_decide.2 hOk
  have hWas2 : was = d.on F.TWN_TOKEN_STATE.agree := (hOn _).trans hWas
  have hd3 : d3 = { d.pinsJudged with twn := d2.twn } := by
    change d2.putB _ (decide ok) = _
    rw [hAgree, hd2]
    rfl
  have hDis : d3.twn.disAt = d.twn.disAt := by
    rw [hd3, hd2]
    change (if d.pinsName = 0 then d.twn else _).disAt = _
    split_ifs <;> rfl
  refine ⟨h, ?_⟩
  rw [hAgree, hWas2, hDis, hd3, Dev.twnJudged]
  by_cases hRises : (d.pinsAgree && !d.on F.TWN_TOKEN_STATE.agree) = true
  · rw [if_pos hRises, if_pos hRises, Dev.when, if_pos hRises, hd2]
    rfl
  · rw [if_neg hRises, if_neg hRises, Dev.when, if_neg hRises, hd2, show frozen = d.twnFrozen from rfl]
    dsimp only [Dev.modTwn]
    split_ifs <;> rfl


theorem Dev.frame_pinsJudged : Dev.Frame [Part.reg R.TWN_TOKEN_STATE.off] d d.pinsJudged :=
  Frame.putB (Frame.put Frame.refl _ _ (by simp [F.TWN_TOKEN_STATE.named])) _ _ (by simp [F.TWN_TOKEN_STATE.agree])

/-- What judging agreement can change. -/
def agreeParts : List Part := [Part.twn, Part.reg R.TWN_TOKEN_STATE.off] ++ activeParts 33

theorem Dev.frame_twnAgree : Dev.Frame agreeParts d d.twnAgree := by
  obtain ⟨h, hAgree⟩ := d.twnAgree_eq
  have hJudged : Dev.Frame agreeParts d { d.pinsJudged with twn := d.twnJudged h } :=
    Frame.setTwn (Frame.mono Dev.frame_pinsJudged (by simp [agreeParts])) _ (by simp [agreeParts])
  rw [hAgree]
  exact Frame.when hJudged (Frame.setActive hJudged _ _ (by simp [agreeParts, activeParts]) (by simp [agreeParts, activeParts]) (by simp [agreeParts, activeParts]))

theorem Dev.twn_twnAgree (d : Dev) : ∃ h, d.twnAgree.twn = d.twnJudged h := by
  obtain ⟨h, hAgree⟩ := d.twnAgree_eq
  refine ⟨h, ?_⟩
  rw [hAgree, Dev.when]
  split_ifs
  · exact Dev.setActive_twn _ _ _
  · rfl

theorem Dev.rd_twnAgree_token : d.twnAgree.rd R.TWN_TOKEN_STATE = d.pinsJudged.rd R.TWN_TOKEN_STATE := by
  obtain ⟨h, hAgree⟩ := d.twnAgree_eq
  rw [hAgree, Dev.when]
  split_ifs
  · exact Dev.rd_setActive_ne _ _ _ _ (by decide) (by decide)
  · rfl

theorem Dev.named_twnAgree : d.twnAgree.get F.TWN_TOKEN_STATE.named = d.pinsName := by
  have hName : d.pinsName < 4 := by
    unfold Dev.pinsName
    split_ifs <;> decide
  have hPut : (d.put F.TWN_TOKEN_STATE.named d.pinsName).get F.TWN_TOKEN_STATE.named = d.pinsName :=
    (Dev.get_put_same d F.TWN_TOKEN_STATE.named _ rfl).trans (Nat.mod_eq_of_lt hName)
  have hRd : d.twnAgree.get F.TWN_TOKEN_STATE.named = d.pinsJudged.get F.TWN_TOKEN_STATE.named :=
    congrArg (bits · 3 2) Dev.rd_twnAgree_token
  rw [hRd, Dev.pinsJudged, Dev.putB, Dev.get_put_other _ F.TWN_TOKEN_STATE.agree F.TWN_TOKEN_STATE.named _ rfl rfl rfl rfl, hPut]

theorem Dev.agree_twnAgree : d.twnAgree.on F.TWN_TOKEN_STATE.agree = d.pinsAgree := by
  have hRd : d.twnAgree.get F.TWN_TOKEN_STATE.agree = d.pinsJudged.get F.TWN_TOKEN_STATE.agree :=
    congrArg (bits · 1 1) Dev.rd_twnAgree_token
  rw [Dev.on, hRd]
  exact Dev.on_putB_same _ _ _ rfl

/-- The other fields of TWN_TOKEN_STATE stay. -/
theorem Dev.on_twnAgree_other (g : Fld) (hr : g.reg = R.TWN_TOKEN_STATE) (hg : g.ok = true) (h : (decide (g.hi < 1) || decide (3 < g.lo)) = true) :
    d.twnAgree.on g = d.on g := by
  have hRd : d.twnAgree.get g = d.pinsJudged.get g := by rw [Dev.get, hr, Dev.rd_twnAgree_token, Dev.get, hr]
  simp only [Bool.or_eq_true, decide_eq_true_eq] at h
  have hAgree : (decide (g.hi < 1) || decide (1 < g.lo)) = true := by
    simp only [Bool.or_eq_true, decide_eq_true_eq]
    omega
  have hNamed : (decide (g.hi < 2) || decide (3 < g.lo)) = true := by
    simp only [Bool.or_eq_true, decide_eq_true_eq]
    omega
  rw [Dev.on, hRd, Dev.pinsJudged, Dev.putB, Dev.get_put_other _ _ _ _ hr rfl hg hAgree, Dev.get_put_other _ _ _ _ hr rfl hg hNamed, Dev.on]

theorem Dev.latch_twnAgree : d.twnAgree.latch = d.latch := Dev.on_twnAgree_other F.TWN_TOKEN_STATE.latch rfl rfl rfl

section
variable {h : Held}
@[simp] theorem Dev.twnJudged_turn : (d.twnJudged h).turn = d.twn.turn := by unfold Dev.twnJudged; split_ifs <;> rfl
@[simp] theorem Dev.twnJudged_turnNew : (d.twnJudged h).turnNew = d.twn.turnNew := by unfold Dev.twnJudged; split_ifs <;> rfl
@[simp] theorem Dev.twnJudged_turnAt : (d.twnJudged h).turnAt = d.twn.turnAt := by unfold Dev.twnJudged; split_ifs <;> rfl
@[simp] theorem Dev.twnJudged_queue : (d.twnJudged h).queue = d.twn.queue := by unfold Dev.twnJudged; split_ifs <;> rfl
@[simp] theorem Dev.twnJudged_inputs : (d.twnJudged h).inputs = d.twn.inputs := by unfold Dev.twnJudged; split_ifs <;> rfl
end

/-! ### Setting and clearing the latch (R394) -/

/-- The latch as it is set, and its interrupt. -/
def Dev.latchShown (d : Dev) (on : Bool) : Dev := if d.latch = on then d.putLatch on else (d.putLatch on).twnFlag (if on then 2 else 3)

/-- A holder is the time reference and refreshes its latch. -/
def Dev.holderSynced (d : Dev) : Dev := (d.put F.TWN_STATUS.time_synced 1).modTwn fun t => { t with freshAt := (d.put F.TWN_STATUS.time_synced 1).sys.now8 }

theorem Dev.setLatch_true (d : Dev) : d.setLatch true = (d.latchShown true).holderSynced.twnAgree := by
  rw [Dev.setLatch]
  rfl

theorem Dev.setLatch_false (d : Dev) : d.setLatch false = (d.latchShown false).twnAgree := by
  rw [Dev.setLatch]
  rfl

/-- What setting or clearing the latch can change, before agreement is judged. -/
def latchParts : List Part := [Part.twn, Part.reg R.TWN_TOKEN_STATE.off, Part.reg R.TWN_IRQ_STATUS.off] ++ irqParts

theorem Dev.frame_putLatch (on : Bool) : Dev.Frame latchParts d (d.putLatch on) :=
  Frame.setTwn (Frame.putB (Frame.putB Frame.refl _ _ (by simp [latchParts, F.TWN_TOKEN_STATE.latch])) _ _
    (by simp [latchParts, F.TWN_TOKEN_STATE.drive])) _ (by simp [latchParts])

theorem Dev.frame_latchShown (on : Bool) : Dev.Frame latchParts d (d.latchShown on) :=
  Frame.ite (Dev.frame_putLatch on) (Frame.flag (Dev.frame_putLatch on) _ _ _ _ (by simp [latchParts]) (by simp +contextual [latchParts]))

theorem Dev.frame_holderSynced : Dev.Frame [Part.twn, Part.reg R.TWN_STATUS.off] d d.holderSynced :=
  Frame.setTwn (Frame.put Frame.refl _ _ (by simp [F.TWN_STATUS.time_synced])) _ (by simp)

/-- Clearing the latch leaves TWN_STATUS. -/
theorem Dev.frame_setLatch_false : Dev.Frame (latchParts ++ agreeParts) d (d.setLatch false) := by
  rw [Dev.setLatch_false]
  exact Frame.trans (Frame.mono (Dev.frame_latchShown false) (by simp +contextual)) (Frame.mono Dev.frame_twnAgree (by simp +contextual))

theorem Dev.frame_setLatch (on : Bool) : Dev.Frame tokenParts d (d.setLatch on) := by
  cases on
  · exact Frame.mono Dev.frame_setLatch_false (by simp +contextual [latchParts, agreeParts, tokenParts, or_imp])
  · rw [Dev.setLatch_true]
    refine Frame.trans (Frame.trans (Frame.mono (Dev.frame_latchShown true) ?_) (Frame.mono Dev.frame_holderSynced ?_)) (Frame.mono Dev.frame_twnAgree ?_)
    · simp +contextual [latchParts, tokenParts]
    · simp +contextual [tokenParts]
    · simp +contextual [agreeParts, tokenParts]

theorem Dev.rd_latchShown_token (on : Bool) : (d.latchShown on).rd R.TWN_TOKEN_STATE = (d.putLatch on).rd R.TWN_TOKEN_STATE := by
  rw [Dev.latchShown]
  split
  · rfl
  · exact Dev.rd_flag_ne _ _ _ _ _ _ (by decide) (by decide)

theorem Dev.twn_latchShown (on : Bool) : (d.latchShown on).twn = { d.twn with latchCopy := on } := by
  rw [Dev.latchShown]
  split
  · rfl
  · exact Dev.flag_twn _ _ _ _ _

theorem Dev.on_putLatch (on : Bool) : (d.putLatch on).on F.TWN_TOKEN_STATE.latch = on ∧ (d.putLatch on).on F.TWN_TOKEN_STATE.drive = on := by
  refine ⟨?_, Dev.on_putB_same _ _ _ rfl⟩
  have hLatch : (d.putLatch on).get F.TWN_TOKEN_STATE.latch = (d.putB F.TWN_TOKEN_STATE.latch on).get F.TWN_TOKEN_STATE.latch :=
    Dev.get_put_other _ F.TWN_TOKEN_STATE.drive F.TWN_TOKEN_STATE.latch _ rfl rfl rfl rfl
  rw [Dev.on, hLatch]
  exact Dev.on_putB_same _ _ _ rfl

/-- The fields of TWN_TOKEN_STATE but for the two that judging agreement writes. -/
theorem Dev.on_setLatch (g : Fld) (on : Bool) (hr : g.reg = R.TWN_TOKEN_STATE) (hg : g.ok = true) (h : (decide (g.hi < 1) || decide (3 < g.lo)) = true) :
    (d.setLatch on).on g = (d.putLatch on).on g := by
  have hShown : (d.latchShown on).on g = (d.putLatch on).on g := by rw [Dev.on, Dev.on, Dev.get, Dev.get, hr, Dev.rd_latchShown_token]
  rw [← hShown]
  cases on
  · rw [Dev.setLatch_false, Dev.on_twnAgree_other g hr hg h]
  · rw [Dev.setLatch_true, Dev.on_twnAgree_other g hr hg h]
    exact Frame.on Dev.frame_holderSynced g (by rw [hr]; decide)

theorem Dev.latch_setLatch (on : Bool) : (d.setLatch on).latch = on :=
  (Dev.on_setLatch F.TWN_TOKEN_STATE.latch on rfl rfl rfl).trans (Dev.on_putLatch on).1

theorem Dev.drive_setLatch (on : Bool) : (d.setLatch on).on F.TWN_TOKEN_STATE.drive = on :=
  (Dev.on_setLatch F.TWN_TOKEN_STATE.drive on rfl rfl rfl).trans (Dev.on_putLatch on).2

theorem Dev.rd_setLatch_irq (on : Bool) : (d.setLatch on).rd R.TWN_IRQ_STATUS = (d.latchShown on).rd R.TWN_IRQ_STATUS := by
  cases on
  · rw [Dev.setLatch_false]
    exact Frame.rd Dev.frame_twnAgree _ (by decide)
  · rw [Dev.setLatch_true]
    exact (Frame.rd Dev.frame_twnAgree _ (by decide)).trans (Frame.rd Dev.frame_holderSynced _ (by decide))

/-- A latch that changes shows it in TWN_IRQ_STATUS. -/
theorem Dev.irq_setLatch {on : Bool} (h : d.latch ≠ on) : bit ((d.setLatch on).rd R.TWN_IRQ_STATUS) (if on then 2 else 3) = true := by
  rw [Dev.rd_setLatch_irq, Dev.latchShown, if_neg h]
  exact Dev.rd_flag_same _ _ _ _ _ (by decide) (by cases on <;> decide) (by decide)

/-- The hidden state of the twin unit that setting or clearing the latch gives. -/
theorem Dev.twn_setLatch (on : Bool) : ∃ e h fresh, (d.setLatch on).twn = Dev.twnJudged e h ∧ e.twn = { d.twn with latchCopy := on, freshAt := fresh } := by
  cases on
  · obtain ⟨h, hTwn⟩ := (d.latchShown false).twn_twnAgree
    exact ⟨_, h, d.twn.freshAt, (congrArg Dev.twn d.setLatch_false).trans hTwn, Dev.twn_latchShown false⟩
  · obtain ⟨h, hTwn⟩ := (d.latchShown true).holderSynced.twn_twnAgree
    refine ⟨_, h, ((d.latchShown true).put F.TWN_STATUS.time_synced 1).sys.now8, (congrArg Dev.twn d.setLatch_true).trans hTwn, ?_⟩
    rw [Dev.holderSynced, Dev.modTwn, Dev.put_twn, Dev.twn_latchShown]

end
end Sys2Proof.Machine
end

-- ==== Sitting: Turns of the Token ====
section
open Sys2Proof Sys2Proof.Machine Sys2Proof.Claims
set_option maxRecDepth 20000

namespace Sys2Proof.Machine

/-! ### Messages and Turns (R383, R398) -/

section
variable {d : Dev} {ps : List Part}

theorem Dev.rd_modTwn (u : TwnSt → TwnSt) (r : Reg) : (d.modTwn u).rd r = d.rd r := by rw [Dev.modTwn]; rfl
theorem Dev.on_modTwn (u : TwnSt → TwnSt) (g : Fld) : (d.modTwn u).on g = d.on g := by rw [Dev.modTwn]; rfl
theorem Dev.rd_tokenMark (a b c : Nat) (r : Reg) : (d.tokenMark a b c).rd r = d.rd r := by rw [Dev.tokenMark, Dev.rd_mark]
theorem Dev.get_tokenMark (a b c : Nat) (g : Fld) : (d.tokenMark a b c).get g = d.get g := by rw [Dev.tokenMark, Dev.get_mark]
theorem Dev.on_tokenMark (a b c : Nat) (g : Fld) : (d.tokenMark a b c).on g = d.on g := by rw [Dev.tokenMark, Dev.on_mark]
theorem Dev.now_tokenMark (a b c : Nat) : (d.tokenMark a b c).now = d.now := Dev.rd_tokenMark _ _ _ _
theorem Dev.latch_tokenMark (a b c : Nat) : (d.tokenMark a b c).latch = d.latch := Dev.on_tokenMark _ _ _ _
theorem Dev.twnSt_tokenMark (a b c : Nat) : (d.tokenMark a b c).twnSt = d.twnSt := Dev.get_tokenMark _ _ _ _
theorem Dev.twn_tokenMark (a b c : Nat) : (d.tokenMark a b c).twn = d.twn := by rw [Dev.tokenMark, Dev.mark_twn]
theorem Dev.slot_tokenMark (a b c : Nat) : (d.tokenMark a b c).slot = d.slot := congrArg (· / 8) (Dev.now_tokenMark a b c)
theorem Dev.recs_tokenMark (a b c : Nat) : (d.tokenMark a b c).evt.recs = d.evt.recs ++ [(d.slot, ⟨5, 0, 0, 0, 0x0B, a, 0, b, c, d.now⟩)] := by
  rw [Dev.tokenMark, Dev.mark, Dev.tally]

theorem Dev.sendTwin_twn (k : Nat) (us : List Nat) : (d.sendTwin k us).twn = { d.twn with mseqTx := (d.twn.mseqTx + 1) % 65536 } := by
  obtain ⟨x, h⟩ := ({ d with twn := { d.twn with mseqTx := (d.twn.mseqTx + 1) % 65536 } } : Dev).onLanes_shape (twinFrame k d.twn.mseqTx us)
  unfold Dev.sendTwin
  dsimp only
  rw [h]

theorem Dev.onLanes_out (us : List (List Nat)) :
    (d.onLanes us).out = (([1, 0].filter fun l => bit (d.get F.TWN_STATUS.lanes_up) l).map fun l => .twin l us) ++ d.out := by
  unfold Dev.onLanes Dev.each
  generalize d.get F.TWN_STATUS.lanes_up = w
  by_cases h0 : bit w 0 = true <;> by_cases h1 : bit w 1 = true <;>
    simp [h0, h1, Dev.emit]

theorem Dev.sendTwin_out (k : Nat) (us : List Nat) : (d.sendTwin k us).out = onEachLane d k d.twn.mseqTx us ++ d.out :=
  Dev.onLanes_out _

theorem Dev.frame_sendTwin (k : Nat) (us : List Nat) : Dev.Frame [Part.twn, Part.out] d (d.sendTwin k us) := by
  obtain ⟨x, y, h⟩ := d.sendTwin_shape k us
  rw [h]
  have hOut : Dev.Frame [Part.twn, Part.out] d { d with out := x } := Frame.setOut Frame.refl x (by simp)
  exact Frame.setTwn hOut y (by simp)

theorem Dev.twinSent_turnBegin (th kind : Nat) : twinSent d (d.turnBegin th kind) 4 [th] :=
  ⟨congrArg TwnSt.mseqTx (Dev.sendTwin_twn (d := d) 4 [th]), Dev.sendTwin_out 4 [th]⟩

theorem Dev.frame_turnBegin (th kind : Nat) : Dev.Frame [Part.twn, Part.out] d (d.turnBegin th kind) :=
  Frame.setTwn (Dev.frame_sendTwin 4 [th]) _ (by simp)

theorem twinRefused_twnReject (s : State) : twinRefused s { s with dev := s.dev.twnReject } := by
  have hRd (r : Reg) (h : r.off ≠ R.MSIX_PBA.off) :
      s.dev.twnReject.rd r = ((s.dev.count F.TWN_REJECT.count).put F.TWN_IRQ_STATUS.refused 1).rd r := by
    unfold Dev.twnReject
    dsimp only
    split_ifs
    · exact Dev.rd_post_ne _ _ _ h
    · rfl
  refine ⟨?_, ?_, Frame.ofDev (Frame.twnReject Frame.refl (by simp) (by simp) (by simp +contextual [irqParts]))⟩
  · have hCount : s.dev.twnReject.get F.TWN_REJECT.count = (s.dev.count F.TWN_REJECT.count).get F.TWN_REJECT.count :=
      congrArg (bits · 15 0) ((hRd R.TWN_REJECT (by decide)).trans (Dev.rd_put_ne _ _ _ _ (by decide)))
    exact hCount.trans (Dev.get_count_same _ _ _ rfl)
  · have hBit : bit (s.dev.twnReject.rd R.TWN_IRQ_STATUS) 9 = _ := congrArg (bit · 9) (hRd R.TWN_IRQ_STATUS (by decide))
    rw [hBit, Dev.put]
    change bit ((Dev.wr _ R.TWN_IRQ_STATUS (putBits _ 9 9 1)).rd R.TWN_IRQ_STATUS) 9 = true
    rw [Dev.rd_wr_same, bit_mod _ _ _ (by decide), bit_mod _ _ _ (by decide)]
    exact bit_putBits_same _ _ true

/-- What is sent after what touches neither the lanes nor the twin unit. -/
theorem twinSent_of_frame {e f : Dev} {k : Nat} {us : List Nat} (h : Dev.Frame ps d e) (hTwn : Part.twn ∉ ps) (hOut : Part.out ∉ ps)
    (hStatus : Part.reg R.TWN_STATUS.off ∉ ps) (hSent : twinSent e f k us) : twinSent d f k us := by
  have hT : e.twn = d.twn := h _ hTwn
  have hO : e.out = d.out := h _ hOut
  have hLanes : e.get F.TWN_STATUS.lanes_up = d.get F.TWN_STATUS.lanes_up := Frame.get h _ hStatus
  obtain ⟨hSeq, hFrames⟩ := hSent
  refine ⟨by rw [hSeq, hT], ?_⟩
  rw [hFrames, hO, onEachLane, onEachLane, hLanes, hT]

/-- A message that arrives whole and in order is heard. -/
theorem twinTake_arrives {m : TwinFrame} {kind n : Nat} {x : TwinMsg} (h : arrives d m kind n x) (f : Dev → TwinMsg → Dev) :
    d.twinTake kind n m f = f { d with twn := heard d x } x := by
  obtain ⟨hLink, hMsg, hSeq⟩ := h
  have hCheck : d.twinCheck kind n m = ({ d with twn := heard d x }, some x) := by
    unfold Dev.twinCheck
    rw [hLink, hMsg]
    rcases hSeq with hNone | hNext
    · simp only [hNone]
      rfl
    · simp only [hNext, Nat.add_sub_cancel_left, Nat.mod_self]
      rfl
  rw [Dev.twinTake, hCheck]

theorem Dev.twn_turnTake (x : TwinMsg) : (d.turnTake x).twn = if d.latch = true ∨ d.twnSt ≠ 3 then d.twn else
    { d.twn with turn := some (x.units.headD 0, if x.units.headD 0 = d.rd R.TWN_NEXT_TURN then 1 else if d.partnerFit = true then 2 else 3) } := by
  by_cases hIdle : d.latch = true ∨ d.twnSt ≠ 3
  · rw [Dev.turnTake, if_pos hIdle, if_pos (by simpa using hIdle)]
  · rw [Dev.turnTake, if_neg hIdle, if_neg (by simpa using hIdle)]
    rfl

theorem Dev.frame_turnTake (x : TwinMsg) : Dev.Frame [Part.twn] d (d.turnTake x) := by
  unfold Dev.turnTake
  exact Frame.ite Frame.refl (Frame.setTwn Frame.refl _ (by simp))

/-- A member that takes the latch is the time reference. -/
theorem Dev.synced_setLatch (d : Dev) : (d.setLatch true).on F.TWN_STATUS.time_synced = true := by
  rw [Dev.setLatch_true, Frame.on Dev.frame_twnAgree _ (by decide), Dev.holderSynced, Dev.on_modTwn]
  exact Dev.on_putB_same (d.latchShown true) F.TWN_STATUS.time_synced true rfl

/-! ### Frames that leave the clocks leave engine time -/

theorem Frame.timeAt {e : Dev} (h : Dev.Frame ps d e) (hClock : Part.clock ∉ ps) (hTime : Part.reg R.EVT_TIME.off ∉ ps)
    (hStatus : Part.reg R.CLK_STATUS.off ∉ ps) (t : Nat) : e.timeAt t = d.timeAt t := by
  have h8 : e.sys.now8 = d.sys.now8 := h _ hClock
  have hNow : e.now = d.now := Frame.rd h _ hTime
  have hSource : e.timeSource = d.timeSource := by rw [Dev.timeSource, Frame.on h _ hStatus, Frame.on h _ hStatus, Dev.timeSource]
  rw [Dev.timeAt, Dev.timeGain, Dev.timeTicks, h8, hNow, hSource, Dev.timeAt, Dev.timeGain, Dev.timeTicks]

end

end Sys2Proof.Machine

namespace Sys2Proof.Proofs

section
variable {s : State}

theorem turnRequest_step (hReach : reached s.dev R.TWN_CMD.off) : Completes (exec .turnRequest s) fun t =>
    if s.dev.mayTurn = true ∧ s.dev.partnerFit = true then
      t.dev.twn.turn = some (s.dev.now + s.dev.agreeTicks, 2) ∧ twinSent s.dev t.dev 4 [s.dev.now + s.dev.agreeTicks] ∧ s.Frame [Part.twn, Part.out] t
    else twinRefused s t := by
  refine completes_reach hReach rfl ?_
  rw [Dev.turnAsk]
  by_cases hMay : s.dev.mayTurn = true ∧ s.dev.partnerFit = true
  · rw [if_pos hMay, if_pos (by simp [hMay])]
    exact ⟨rfl, Dev.twinSent_turnBegin _ _, Frame.ofDev (Dev.frame_turnBegin _ _)⟩
  · rw [if_neg hMay, if_neg (by simpa using hMay)]
    exact twinRefused_twnReject s

/-- At the time of a scheduled Turn the follower's interval starts anew. -/
theorem turnSched_follower (d : Dev) (hRuns : d.evt.running = true) (hNow : d.now < 2 ^ 62) (hTh : d.rd R.TWN_NEXT_TURN < 2 ^ 62) (n : Nat) :
    let e := (d.advanceTo (d.rd R.TWN_NEXT_TURN)).wr R.TWN_NEXT_TURN n
    e.now = d.timeAt (d.rd R.TWN_NEXT_TURN) ∧ e.rd R.TWN_NEXT_TURN = n % 2 ^ 64 ∧ Dev.Frame ([Part.reg R.TWN_NEXT_TURN.off] ++ timeParts) d e := by
  have hLt := d.timeAt_lt (d.rd R.TWN_NEXT_TURN)
  refine ⟨(Dev.rd_wr_ne _ _ _ _ (by decide)).trans (Dev.now_advanceTo _ _ hRuns (by omega)), ?_, ?_⟩
  · rw [Dev.rd_wr_same, show R.TWN_NEXT_TURN.w = 64 from rfl, Nat.mod_mod]
  · exact Frame.wr (Frame.advanceTo Frame.refl _ (by simp +contextual)) _ _ (by simp)

theorem partnerFit_advanceTo (d : Dev) (t : Nat) : (d.advanceTo t).partnerFit = d.partnerFit := by
  have hFrame := d.frame_advanceTo t
  rw [Dev.partnerFit, Dev.present, Frame.on hFrame _ (by decide), Dev.fitWord, Frame.get hFrame _ (by decide), Frame.get hFrame _ (by decide)]
  rfl

theorem scheduledTurn_step (hRuns : s.dev.evt.running = true) (hNow : s.dev.now < 2 ^ 62)
    (hTh : s.dev.rd R.TWN_NEXT_TURN < 2 ^ 62 ∨ s.dev.rd R.TWN_NEXT_TURN = 2 ^ 64 - 1) :
    Completes (exec .scheduledTurn s) fun t =>
      let th := s.dev.rd R.TWN_NEXT_TURN
      let next := (th + s.dev.role.turnIntervalS * 125000000) % 2 ^ 64
      if th = 2 ^ 64 - 1 then t = s
      else if s.dev.latch = false ∧ s.dev.twnSt = 3 ∧ s.dev.twn.turn = none then
        t.dev.now = s.dev.timeAt th ∧ t.dev.rd R.TWN_NEXT_TURN = next ∧ s.Frame ([Part.reg R.TWN_NEXT_TURN.off] ++ timeParts) t
      else if s.dev.mayTurn = false then t = s
      else t.dev.now = s.dev.timeAt (th - 500) ∧
        (if s.dev.partnerFit = true then t.dev.twn.turn = some (max th (t.dev.now + 500), 1) ∧ twinSent s.dev t.dev 4 [max th (t.dev.now + 500)] ∧ s.Frame ([Part.twn, Part.out] ++ timeParts) t
        else t.dev.get F.TWN_REJECT.count = min (s.dev.get F.TWN_REJECT.count + 1) (2 ^ 16 - 1) ∧ t.dev.rd R.TWN_NEXT_TURN = next ∧
          s.Frame ([Part.reg R.TWN_REJECT.off, Part.reg R.TWN_NEXT_TURN.off] ++ timeParts) t) := by
  refine completes_onDev Dev.turnSched rfl ?_
  unfold Dev.turnSched
  generalize hIs : s.dev.rd R.TWN_NEXT_TURN = th at hTh
  dsimp only
  by_cases hNever : th = 2 ^ 64 - 1
  · rw [if_pos hNever, if_pos hNever]
  have hLow : th < 2 ^ 62 := hTh.resolve_right hNever
  rw [if_neg hNever, if_neg hNever]
  by_cases hFollows : s.dev.latch = false ∧ s.dev.twnSt = 3 ∧ s.dev.twn.turn = none
  · obtain ⟨hTime, hNext, hFrame⟩ := turnSched_follower s.dev hRuns hNow (by omega) (th + s.dev.role.turnIntervalS * 125000000)
    rw [hIs] at hTime hNext hFrame
    rw [if_pos hFollows, if_pos (by simp [hFollows])]
    exact ⟨hTime, hNext, Frame.ofDev hFrame⟩
  have hOther : ¬ (!s.dev.latch && decide (s.dev.twnSt = 3) && s.dev.twn.turn.isNone) = true := by simpa [and_assoc] using hFollows
  rw [if_neg hFollows, if_neg hOther]
  by_cases hMay : s.dev.mayTurn = false
  · have hCannot : (!s.dev.mayTurn) = true := by rw [hMay]; rfl
    rw [if_pos hMay, if_pos hCannot]
  have hCan : ¬ (!s.dev.mayTurn) = true := by simpa using hMay
  rw [if_neg hMay, if_neg hCan, partnerFit_advanceTo]
  have hAt := s.dev.timeAt_lt (th - 500)
  have hTime : (s.dev.advanceTo (th - 500)).now = s.dev.timeAt (th - 500) := Dev.now_advanceTo _ _ hRuns (by omega)
  have hPast := s.dev.frame_advanceTo (th - 500)
  by_cases hFit : s.dev.partnerFit = true
  · have hBegin := Dev.frame_turnBegin (d := s.dev.advanceTo (th - 500)) (max th ((s.dev.advanceTo (th - 500)).now + 500)) 1
    have hStill := Frame.rd hBegin R.EVT_TIME (by decide)
    rw [if_pos hFit, if_pos hFit]
    refine ⟨hStill.trans hTime, ?_⟩
    rw [show Dev.now (Dev.turnBegin _ _ 1) = _ from hStill]
    exact ⟨rfl, twinSent_of_frame hPast (by decide) (by decide) (by decide) (Dev.twinSent_turnBegin _ 1),
      Frame.ofDev (Frame.trans (Frame.mono hPast (by simp +contextual)) (Frame.mono hBegin (by simp +contextual)))⟩
  · rw [if_neg hFit, if_neg hFit]
    refine ⟨(Dev.rd_wr_ne _ _ _ _ (by decide)).trans ((Dev.rd_put_ne _ _ _ _ (by decide)).trans hTime), ?_, ?_, ?_⟩
    · rw [Dev.get_wr_ne _ _ _ _ (by decide), Dev.get_count_same _ _ _ rfl, Dev.get_advanceTo_ne _ _ _ (by decide) (by decide)]
      rfl
    · rw [Dev.rd_wr_same, show R.TWN_NEXT_TURN.w = 64 from rfl, Nat.mod_mod]
    · exact Frame.ofDev (Frame.wr (Frame.count (Frame.mono hPast (by simp +contextual)) _ _ (by simp [F.TWN_REJECT.count])) _ _ (by simp))

theorem turnMessage_step {m : TwinFrame} {x : TwinMsg} (h : arrives s.dev m 4 1 x) : Completes (exec (.turn (some m)) s) fun t =>
    let th := x.units.headD 0
    t.dev.twn = (if s.dev.latch = true ∨ s.dev.twnSt ≠ 3 then heard s.dev x else { heard s.dev x with turn := some (th, if th = s.dev.rd R.TWN_NEXT_TURN then 1 else if s.dev.partnerFit = true then 2 else 3) }) ∧ s.Frame [Part.twn] t := by
  refine completes_onDev (fun d => d.twinTake 0x04 1 m Dev.turnTake) rfl ?_
  rw [twinTake_arrives h]
  have hHeard : Dev.Frame [Part.twn] s.dev { s.dev with twn := heard s.dev x } := Frame.setTwn Frame.refl _ (by simp)
  exact ⟨Dev.twn_turnTake x, Frame.ofDev (Frame.trans hHeard (Dev.frame_turnTake x))⟩

/-! ### The Token passes (R398) -/

/-- The Token passes at t_h, of a kind: engine time is there, and the Turn is no longer to come. -/
def turnDue (d : Dev) (th : Nat) : Dev :=
  (d.advanceTo th).modTwn fun t => { t with turn := none, turnAt := th + 1, wasHolder := (d.advanceTo th).latch }

/-- A Turn that is over is counted, and the next one planned. -/
def turnOver (d : Dev) (th : Nat) : Dev :=
  (d.count F.TWN_COUNTS.turns).wr R.TWN_NEXT_TURN
    (if d.role.turnIntervalS * 125000000 = 0 then 2 ^ 64 - 1 else th + d.role.turnIntervalS * 125000000)

/-- The holder gives the latch up at t_h, and waits the time the follower needs. -/
def turnGiven (d : Dev) (th : Nat) : Dev := ((turnDue d th).setLatch false).advanceTo (th + 125)

/-- The follower without recorded inputs, as it waits for the latch. -/
def turnReady (d : Dev) (th : Nat) : Dev :=
  ((turnDue d th).modTwn fun t => { t with turnNew := true }).modTwn fun t => { t with inputs := [] }

/-- The follower takes the latch. -/
def turnTaken (d : Dev) (th : Nat) : Dev := (((turnReady d th).advanceTo (th + 125)).setLatch true).modTwn fun t => { t with turnNew := false }

section
variable {d : Dev} {th kind : Nat} (hTurn : d.twn.turn = some (th, kind)) (hSt : d.twnSt = 3)
include hTurn hSt

theorem turnPass_holder (hLatch : d.latch = true) :
    d.turnPass = (turnOver (turnGiven d th) th).tokenMark 1 (3 - (turnOver (turnGiven d th) th).member) kind := by
  have hHolds : ((d.advanceTo th).modTwn fun t => { t with turn := none, turnAt := th + 1 }).latch = true :=
    (Dev.on_advanceTo_ne d th F.TWN_TOKEN_STATE.latch (by decide) (by decide)).trans hLatch
  unfold Dev.turnPass turnGiven
  simp only [hTurn]
  rw [if_neg (by simp [hSt])]
  simp only [hHolds, if_true]
  rw [turnDue, show (d.advanceTo th).latch = true from hHolds]
  rfl

theorem turnPass_follower (hLatch : d.latch = false) (hInputs : d.twn.inputs = []) :
    d.turnPass = (turnOver (turnTaken d th) th).tokenMark 1 (turnOver (turnTaken d th) th).member kind := by
  have hHolds : ((d.advanceTo th).modTwn fun t => { t with turn := none, turnAt := th + 1 }).latch = false :=
    (Dev.on_advanceTo_ne d th F.TWN_TOKEN_STATE.latch (by decide) (by decide)).trans hLatch
  have hNone : (d.advanceTo th).twn.inputs = [] := by rw [Dev.advanceTo_twn, hInputs]
  have hReplay (e : Dev) (since : Nat) (h : e.twn.inputs = []) : e.replayInputs since = e.modTwn fun t => { t with inputs := [] } := by
    rw [Dev.replayInputs, h]
    rfl
  unfold Dev.turnPass turnTaken turnReady
  simp only [hTurn]
  rw [if_neg (by simp [hSt])]
  simp only [hHolds, Bool.false_eq_true, if_false]
  rw [hReplay]
  · rw [turnDue, show (d.advanceTo th).latch = false from hHolds]
    rfl
  · exact hNone

end

section
variable {d : Dev}

theorem frame_turnDue (th : Nat) : Dev.Frame ([Part.twn] ++ timeParts) d (turnDue d th) :=
  Frame.setTwn (Frame.advanceTo Frame.refl _ (by simp +contextual)) _ (by simp)

theorem latch_turnDue (th : Nat) : (turnDue d th).latch = d.latch := by
  rw [turnDue, Dev.latch, Dev.on_modTwn, Dev.on_advanceTo_ne _ _ _ (by decide) (by decide), Dev.latch]

theorem latch_turnReady (th : Nat) : (turnReady d th).latch = d.latch := by
  rw [turnReady, Dev.latch, Dev.on_modTwn, Dev.on_modTwn]
  exact latch_turnDue th

theorem twn_turnOver (th : Nat) : (turnOver d th).twn = d.twn := by simp [turnOver]

theorem frame_turnOver (th : Nat) : Dev.Frame [Part.reg R.TWN_COUNTS.off, Part.reg R.TWN_NEXT_TURN.off] d (turnOver d th) :=
  Frame.wr (Frame.count Frame.refl _ _ (by simp [F.TWN_COUNTS.turns])) _ _ (by simp)

theorem turns_turnOver (th : Nat) : (turnOver d th).get F.TWN_COUNTS.turns = min (d.get F.TWN_COUNTS.turns + 1) 255 := by
  rw [turnOver, Dev.get_wr_ne _ _ _ _ (by decide), Dev.get_count_same _ _ _ rfl]
  rfl

theorem next_turnOver {th : Nat} (hTh : th < 2 ^ 62) (hTurns : 0 < d.role.turnIntervalS) (hLow : d.role.turnIntervalS < 2 ^ 30) :
    (turnOver d th).rd R.TWN_NEXT_TURN = th + d.role.turnIntervalS * 125000000 := by
  rw [turnOver, Dev.rd_wr_same, if_neg (by omega), show R.TWN_NEXT_TURN.w = 64 from rfl]
  omega

/-- Engine time of the Turn: t_h, then the 1 us that the follower waits. -/
theorem timeAt_turnDue {th : Nat} (hRuns : d.evt.running = true) (hNow : d.now < 2 ^ 62) (hTh : th < 2 ^ 62) :
    (turnDue d th).timeAt (th + 125) = d.timeAt (th + 125) :=
  Eq.trans (rfl : (turnDue d th).timeAt (th + 125) = (d.advanceTo th).timeAt (th + 125)) (Dev.timeAt_advanceTo hRuns hNow hTh (by omega))

/-- Engine time after 1 us that follows what leaves the clocks. -/
theorem now_later {e : Dev} {ps : List Part} {th : Nat} (hRuns : d.evt.running = true) (hNow : d.now < 2 ^ 62) (hTh : th < 2 ^ 62)
    (h : Dev.Frame ps (turnDue d th) e) (hClock : Part.clock ∉ ps) (hTime : Part.reg R.EVT_TIME.off ∉ ps) (hStatus : Part.reg R.CLK_STATUS.off ∉ ps)
    (hEvt : Part.evt ∉ ps) : (e.advanceTo (th + 125)).now = d.timeAt (th + 125) := by
  have hSame : e.timeAt (th + 125) = d.timeAt (th + 125) := (Frame.timeAt h hClock hTime hStatus _).trans (timeAt_turnDue hRuns hNow hTh)
  have hLt := d.timeAt_lt (th + 125)
  have hKept : { e.evt with recs := [] } = { (turnDue d th).evt with recs := [] } := h _ hEvt
  have hStarts : e.evt.running = (turnDue d th).evt.running := by simpa using congrArg EvtSt.running hKept
  rw [Dev.now_advanceTo _ _ (hStarts.trans ?_) (by omega), hSame]
  rw [turnDue, Dev.modTwn]
  exact (congrArg EvtSt.running (Dev.advanceTo_evt d th)).trans hRuns

/-- What passing the Token changes in the end. -/
theorem frame_turned {e : Dev} {th named kind : Nat} (h : Dev.Frame (tokenParts ++ timeParts) d e) :
    Dev.Frame ([Part.recs, Part.reg R.TWN_COUNTS.off] ++ tokenParts ++ timeParts) d ((turnOver e th).tokenMark 1 named kind) := by
  refine Frame.mark (Frame.trans (Frame.mono h ?_) (Frame.mono (frame_turnOver th) ?_)) _ _ _ _ (by simp)
  · simp +contextual
  · simp +contextual [tokenParts]

theorem frame_turnGiven (th : Nat) : Dev.Frame (latchParts ++ agreeParts ++ timeParts) d (turnGiven d th) :=
  Frame.advanceTo (Frame.trans (Frame.mono (frame_turnDue th) (by simp +contextual [latchParts])) (Frame.mono Dev.frame_setLatch_false (fun _ h => List.mem_append_left _ h))) _ (by simp +contextual)

theorem twn_turnTaken (th : Nat) : (turnTaken d th).twn = { (((turnReady d th).advanceTo (th + 125)).setLatch true).twn with turnNew := false } := by
  rw [turnTaken, Dev.modTwn]

theorem rd_turnTaken (th : Nat) (r : Reg) : (turnTaken d th).rd r = (((turnReady d th).advanceTo (th + 125)).setLatch true).rd r := Dev.rd_modTwn _ r
theorem on_turnTaken (th : Nat) (g : Fld) : (turnTaken d th).on g = (((turnReady d th).advanceTo (th + 125)).setLatch true).on g := Dev.on_modTwn _ g

theorem frame_turnTaken (th : Nat) : Dev.Frame (tokenParts ++ timeParts) d (turnTaken d th) := by
  have hDue : Dev.Frame (tokenParts ++ timeParts) d (turnDue d th) := Frame.mono (frame_turnDue th) (by simp +contextual [tokenParts])
  have hReady : Dev.Frame (tokenParts ++ timeParts) d (turnReady d th) :=
    Frame.setTwn (Frame.setTwn hDue _ (by simp [tokenParts]) : Dev.Frame _ d ((turnDue d th).modTwn fun t => { t with turnNew := true })) _ (by simp [tokenParts])
  have hLatched := Frame.trans (Frame.advanceTo hReady (th + 125) (by simp +contextual)) (Frame.mono (Dev.frame_setLatch true) (by simp +contextual))
  exact Frame.setTwn hLatched _ (by simp [tokenParts])

end


theorem recs_turnOver {e : Dev} {th : Nat} (h : Dev.Frame (tokenParts ++ timeParts) s.dev e) : (turnOver e th).evt.recs = s.dev.evt.recs :=
  ((frame_turnOver th) Part.recs (by decide)).trans (h Part.recs (by decide))

variable {th kind : Nat} (hTurn : s.dev.twn.turn = some (th, kind)) (hSt : s.dev.twnSt = 3) (hRuns : s.dev.evt.running = true)
  (hNow : s.dev.now < 2 ^ 62) (hTh : th < 2 ^ 62)
include hTurn hSt hRuns hNow hTh

theorem turnHolder_step (hLatch : s.dev.latch = true) (hTurns : 0 < s.dev.role.turnIntervalS) (hLow : s.dev.role.turnIntervalS < 2 ^ 30) :
    Completes (exec (.turn none) s) fun t =>
      t.dev.latch = false ∧ t.dev.on F.TWN_TOKEN_STATE.drive = false ∧ t.dev.twn.turn = none ∧ t.dev.twn.turnAt = th + 1 ∧ t.dev.now = s.dev.timeAt (th + 125) ∧ t.dev.twnSt = 3 ∧
      t.dev.get F.TWN_COUNTS.turns = min (s.dev.get F.TWN_COUNTS.turns + 1) 255 ∧ t.dev.rd R.TWN_NEXT_TURN = th + s.dev.role.turnIntervalS * 125000000 ∧ bit (t.dev.rd R.TWN_IRQ_STATUS) 3 = true ∧
      t.dev.evt.recs = s.dev.evt.recs ++ [(t.dev.slot, ⟨5, 0, 0, 0, 0x0B, 1, 0, 3 - s.dev.member, kind, t.dev.now⟩)] ∧ s.Frame ([Part.recs, Part.reg R.TWN_COUNTS.off] ++ tokenParts ++ timeParts) t := by
  refine completes_onDev Dev.turnPass rfl ?_
  rw [turnPass_holder hTurn hSt hLatch]
  have hGiven := frame_turnGiven (d := s.dev) th
  have hToken : Dev.Frame (tokenParts ++ timeParts) s.dev (turnGiven s.dev th) :=
    Frame.mono hGiven (by simp +contextual [latchParts, agreeParts, tokenParts, or_imp])
  have hOver := frame_turnOver (d := turnGiven s.dev th) th
  have hMember : (turnOver (turnGiven s.dev th) th).member = s.dev.member := by
    rw [Dev.member, Frame.on hOver _ (by decide), Frame.on hGiven _ (by decide), Dev.member]
  have hRole : (turnGiven s.dev th).role = s.dev.role := congrArg (fun f => f.cfg.role) (hGiven Part.frd (by decide))
  have hTwn : (turnGiven s.dev th).twn = ((turnDue s.dev th).setLatch false).twn := Dev.advanceTo_twn _ _
  obtain ⟨e, h, fresh, hJudged, hLatched⟩ := (turnDue s.dev th).twn_setLatch false
  have hWas : (turnDue s.dev th).latch = true := (latch_turnDue th).trans hLatch
  have hTime : (turnGiven s.dev th).now = s.dev.timeAt (th + 125) :=
    now_later hRuns hNow hTh Dev.frame_setLatch_false (by decide) (by decide) (by decide) (by decide)
  simp only [Dev.latch_tokenMark, Dev.on_tokenMark, Dev.twn_tokenMark, Dev.now_tokenMark, Dev.twnSt_tokenMark, Dev.get_tokenMark, Dev.rd_tokenMark,
    Dev.slot_tokenMark, Dev.recs_tokenMark]
  refine ⟨?_, ?_, ?_, ?_, ?_, ?_, ?_, ?_, ?_, ?_, Frame.ofDev (frame_turned hToken)⟩
  · exact (Frame.on hOver F.TWN_TOKEN_STATE.latch (by decide)).trans
      ((Dev.on_advanceTo_ne _ _ _ (by decide) (by decide)).trans (Dev.latch_setLatch false))
  · exact (Frame.on hOver F.TWN_TOKEN_STATE.drive (by decide)).trans
      ((Dev.on_advanceTo_ne _ _ _ (by decide) (by decide)).trans (Dev.drive_setLatch false))
  · rw [twn_turnOver, hTwn, hJudged, Dev.twnJudged_turn, hLatched]
    rfl
  · rw [twn_turnOver, hTwn, hJudged, Dev.twnJudged_turnAt, hLatched]
    rfl
  · exact (Frame.rd hOver _ (by decide)).trans hTime
  · exact (Frame.get hOver F.TWN_STATUS.state (by decide)).trans ((Frame.get hGiven _ (by decide)).trans hSt)
  · exact (turns_turnOver th).trans (by rw [Frame.get hGiven _ (by decide)])
  · rw [← hRole]
    exact next_turnOver hTh (hRole ▸ hTurns) (hRole ▸ hLow)
  · have hRd : (turnOver (turnGiven s.dev th) th).rd R.TWN_IRQ_STATUS = ((turnDue s.dev th).setLatch false).rd R.TWN_IRQ_STATUS :=
      (Frame.rd hOver _ (by decide)).trans (Dev.rd_advanceTo_ne _ _ _ (by decide) (by decide))
    exact (congrArg (bit · 3) hRd).trans (Dev.irq_setLatch (on := false) (by rw [hWas]; decide))
  · rw [recs_turnOver hToken, hMember]

theorem turnFollower_step (hLatch : s.dev.latch = false) (hInputs : s.dev.twn.inputs = []) :
    Completes (exec (.turn none) s) fun t =>
      t.dev.latch = true ∧ t.dev.on F.TWN_TOKEN_STATE.drive = true ∧ t.dev.twn.turn = none ∧ t.dev.twn.turnNew = false ∧ t.dev.now = s.dev.timeAt (th + 125) ∧ t.dev.on F.TWN_STATUS.time_synced = true ∧
      t.dev.get F.TWN_COUNTS.turns = min (s.dev.get F.TWN_COUNTS.turns + 1) 255 ∧ bit (t.dev.rd R.TWN_IRQ_STATUS) 2 = true ∧
      t.dev.evt.recs = s.dev.evt.recs ++ [(t.dev.slot, ⟨5, 0, 0, 0, 0x0B, 1, 0, s.dev.member, kind, t.dev.now⟩)] ∧ s.Frame ([Part.recs, Part.reg R.TWN_COUNTS.off] ++ tokenParts ++ timeParts) t := by
  refine completes_onDev Dev.turnPass rfl ?_
  rw [turnPass_follower hTurn hSt hLatch hInputs]
  have hTaken := frame_turnTaken (d := s.dev) th
  have hOver := frame_turnOver (d := turnTaken s.dev th) th
  have hMember : (turnOver (turnTaken s.dev th) th).member = s.dev.member := by
    rw [Dev.member, Frame.on hOver _ (by decide), Frame.on hTaken _ (by decide), Dev.member]
  obtain ⟨e, h, fresh, hJudged, hLatched⟩ := ((turnReady s.dev th).advanceTo (th + 125)).twn_setLatch true
  have hWas : ((turnReady s.dev th).advanceTo (th + 125)).latch = false :=
    (Dev.on_advanceTo_ne _ _ F.TWN_TOKEN_STATE.latch (by decide) (by decide)).trans ((latch_turnReady th).trans hLatch)
  have hReady : Dev.Frame [Part.twn] (turnDue s.dev th) (turnReady s.dev th) :=
    Frame.setTwn (Frame.setTwn Frame.refl _ (by simp) : Dev.Frame _ _ ((turnDue s.dev th).modTwn fun t => { t with turnNew := true })) _ (by simp)
  have hTime : ((turnReady s.dev th).advanceTo (th + 125)).now = s.dev.timeAt (th + 125) :=
    now_later hRuns hNow hTh hReady (by decide) (by decide) (by decide) (by decide)
  simp only [Dev.latch_tokenMark, Dev.on_tokenMark, Dev.twn_tokenMark, Dev.now_tokenMark, Dev.get_tokenMark, Dev.rd_tokenMark,
    Dev.slot_tokenMark, Dev.recs_tokenMark]
  refine ⟨?_, ?_, ?_, ?_, ?_, ?_, ?_, ?_, ?_, Frame.ofDev (frame_turned hTaken)⟩
  · exact (Frame.on hOver F.TWN_TOKEN_STATE.latch (by decide)).trans ((on_turnTaken th _).trans (Dev.latch_setLatch true))
  · exact (Frame.on hOver F.TWN_TOKEN_STATE.drive (by decide)).trans ((on_turnTaken th _).trans (Dev.drive_setLatch true))
  · rw [twn_turnOver, twn_turnTaken, hJudged]
    refine Dev.twnJudged_turn.trans ?_
    rw [hLatched, Dev.advanceTo_twn]
    rfl
  · rw [twn_turnOver, twn_turnTaken]
  · exact (Frame.rd hOver _ (by decide)).trans ((rd_turnTaken th _).trans ((Frame.rd (Dev.frame_setLatch true) _ (by decide)).trans hTime))
  · exact (Frame.on hOver _ (by decide)).trans ((on_turnTaken th _).trans (Dev.synced_setLatch _))
  · exact (turns_turnOver th).trans (by rw [Frame.get hTaken _ (by decide)])
  · exact (congrArg (bit · 2) ((Frame.rd hOver R.TWN_IRQ_STATUS (by decide)).trans (rd_turnTaken th _))).trans (Dev.irq_setLatch (on := true) (by rw [hWas]; decide))
  · rw [recs_turnOver hTaken, hMember]

end

/-- Settles O54, clause by clause: the Turn's two ends are the branches of `Dev.turnPass`, each a frame of the latch's change between two advances of time. -/
theorem twinTurns : Obligations.TwinTurns := by
  unfold Obligations.TwinTurns
  refine ⟨fun s h => turnRequest_step h, fun s hRuns ⟨hNow, hTh⟩ => scheduledTurn_step hRuns hNow hTh, fun s m x h => turnMessage_step h, ?_, ?_⟩
  · rintro s th kind hTurn hSt hLatch hRuns ⟨hNow, hTh⟩ ⟨hTurns, hLow⟩
    exact turnHolder_step hTurn hSt hRuns hNow hTh hLatch hTurns hLow
  · rintro s th kind hTurn hSt hLatch hInputs hRuns ⟨hNow, hTh⟩
    exact turnFollower_step hTurn hSt hRuns hNow hTh hLatch hInputs

end Sys2Proof.Proofs
end

-- ==== Sitting: the lanes and the Token over time ====
section
/-! SUPPORT. The lanes, the Token latch over time, the pins and the hold limit (R382, R385, R394-R396, R403). -/
open Sys2Proof Sys2Proof.Machine Sys2Proof.Claims
set_option maxRecDepth 20000

namespace Sys2Proof.Machine

section
variable {d : Dev}

/-! ### Lanes (R382, R385) -/

theorem Dev.bit_putBit (f : Fld) (k j : Nat) (b : Bool) (hf : f.ok = true) (hj : j < f.hi + 1 - f.lo) :
    bit ((d.putBit f k b).get f) j = if j = k then b else bit (d.get f) j := by
  rw [Dev.putBit, Dev.get_put_same _ _ _ hf, bit_mod _ _ _ hj]
  by_cases hk : j = k
  · rw [if_pos hk, hk]
    exact bit_putBits_same _ _ _
  · rw [if_neg hk]
    exact bit_putBits_ne _ _ _ _ _ le_rfl (by omega)

theorem Dev.lane_putBit (l j : Nat) (b : Bool) (hj : j < 2) : (d.putBit F.TWN_STATUS.lanes_up l b).lane j = if j = l then b else d.lane j :=
  Dev.bit_putBit _ _ _ _ rfl hj

/-- No lane is up exactly when neither of the two is. -/
theorem Dev.noLane_iff : d.get F.TWN_STATUS.lanes_up = 0 ↔ d.lane 0 = false ∧ d.lane 1 = false := by
  have hLt : d.get F.TWN_STATUS.lanes_up < 4 := d.get_lt _
  unfold Dev.lane
  generalize d.get F.TWN_STATUS.lanes_up = v at hLt ⊢
  interval_cases v <;> decide

/-- A lane that goes down, and its record. -/
def Dev.laneLost (d : Dev) (l : Nat) : Dev := (d.putBit F.TWN_STATUS.lanes_up l false).twnReport 32 0x91 l (d.now % 2 ^ 32)

/-- With no lane up the message numbers are forgotten. -/
theorem Dev.twnLaneDown_of_lane {l : Nat} (h : d.lane l = true) : d.twnLaneDown l =
    if (d.laneLost l).get F.TWN_STATUS.lanes_up = 0 then (d.laneLost l).modTwn fun t => { t with mseqRx := none, iseqRx := none } else d.laneLost l := by
  rw [Dev.twnLaneDown, if_neg (by simp [h])]
  rfl

theorem Dev.lane_modTwn (u : TwnSt → TwnSt) (j : Nat) : (d.modTwn u).lane j = d.lane j := by rw [Dev.modTwn]; rfl

theorem Dev.frame_laneLost (l : Nat) : Dev.Frame ([Part.reg R.TWN_STATUS.off] ++ strobeParts 32) d (d.laneLost l) :=
  Frame.report (Frame.putBit Frame.refl _ _ _ (by simp [F.TWN_STATUS.lanes_up])) _ _ _ (by simp [strobeParts]) (by simp [strobeParts])

theorem Dev.lane_laneLost (l j : Nat) (hj : j < 2) : (d.laneLost l).lane j = if j = l then false else d.lane j := by
  have hReport := Dev.rd_report_ne (d.putBit F.TWN_STATUS.lanes_up l false) 32 (0x91 <<< 24 + l % 65536) (d.now % 2 ^ 32) R.TWN_STATUS (by decide)
  exact (congrArg (fun v => bit (bits v F.TWN_STATUS.lanes_up.hi F.TWN_STATUS.lanes_up.lo) j) hReport).trans (Dev.lane_putBit l j false hj)

theorem Dev.strobed_laneLost {l : Nat} (hl : l < 2) : strobed d (d.laneLost l) 32 (0x91 * 2 ^ 24 + l) (d.now % 2 ^ 32) := by
  have hPut : Dev.Frame [Part.reg R.TWN_STATUS.off] d (d.putBit F.TWN_STATUS.lanes_up l false) :=
    Frame.putBit Frame.refl _ _ _ (by simp [F.TWN_STATUS.lanes_up])
  have hCode : 0x91 <<< 24 + l % 65536 = 0x91 * 2 ^ 24 + l := by omega
  rw [← hCode]
  exact Dev.strobed_report _ _ (hPut Part.strobes (by decide)) (Frame.get hPut _ (by decide))

/-! ### The health word (R403) -/

/-- Bit 10 of the health word: the converters' self-test is good. -/
theorem bit_health (d : Dev) : bit d.health 10 = !d.twn.selfBad := by
  have hBit (b0 b1 b2 b3 b4 b5 b6 b7 b8 b9 b10 b11 b12 b13 b14 b15 : Bool) :
      bit ([b0, b1, b2, b3, b4, b5, b6, b7, b8, b9, b10, b11, b12, b13, b14, b15].zipIdx.foldl (fun v p => v + b2n p.1 * 2 ^ p.2) 0) 10 = b10 := by
    have hLt (b : Bool) : b2n b < 2 := b2n_lt b
    have h10 : b2n b10 = 1 ↔ b10 = true := by cases b10 <;> simp [b2n]
    have := hLt b0; have := hLt b1; have := hLt b2; have := hLt b3; have := hLt b4; have := hLt b5; have := hLt b6; have := hLt b7
    have := hLt b8; have := hLt b9; have := hLt b10; have := hLt b11; have := hLt b12; have := hLt b13; have := hLt b14; have := hLt b15
    simp only [List.zipIdx_cons, List.zipIdx_nil, List.foldl_cons, List.foldl_nil]
    rw [Bool.eq_iff_iff, ← h10, bit]
    simp only [decide_eq_true_eq]
    omega
  unfold Dev.health
  dsimp only
  rw [hBit]

/-! ### The pins and the latch over time (R394, R396) -/

/-- The pins as read: both bits, before agreement is judged. -/
def Dev.pinsRead (d : Dev) (a b : Bool) : Dev := (d.putB F.TWN_TOKEN_STATE.auth_a a).putB F.TWN_TOKEN_STATE.auth_b b

theorem Dev.frame_pinsRead (a b : Bool) : Dev.Frame [Part.reg R.TWN_TOKEN_STATE.off] d (d.pinsRead a b) :=
  Frame.putB (Frame.putB Frame.refl _ _ (by simp [F.TWN_TOKEN_STATE.auth_a])) _ _ (by simp [F.TWN_TOKEN_STATE.auth_b])

theorem Dev.auth_pinsRead (a b : Bool) : (d.pinsRead a b).on F.TWN_TOKEN_STATE.auth_a = a ∧ (d.pinsRead a b).on F.TWN_TOKEN_STATE.auth_b = b :=
  ⟨(Dev.on_put_other _ F.TWN_TOKEN_STATE.auth_b F.TWN_TOKEN_STATE.auth_a _ rfl rfl rfl rfl).trans (Dev.on_putB_same _ _ _ rfl), Dev.on_putB_same _ _ _ rfl⟩

theorem Dev.on_pinsRead_other (g : Fld) (a b : Bool) (hr : g.reg = R.TWN_TOKEN_STATE) (hg : g.ok = true)
    (hA : (decide (g.hi < F.TWN_TOKEN_STATE.auth_a.lo) || decide (F.TWN_TOKEN_STATE.auth_a.hi < g.lo)) = true)
    (hB : (decide (g.hi < F.TWN_TOKEN_STATE.auth_b.lo) || decide (F.TWN_TOKEN_STATE.auth_b.hi < g.lo)) = true) : (d.pinsRead a b).on g = d.on g :=
  (Dev.on_put_other _ F.TWN_TOKEN_STATE.auth_b g _ hr rfl hg hB).trans (Dev.on_put_other _ F.TWN_TOKEN_STATE.auth_a g _ hr rfl hg hA)

theorem Dev.twn_pinsRead (a b : Bool) : (d.pinsRead a b).twn = d.twn := Dev.frame_pinsRead a b Part.twn (by decide)
theorem Dev.now8_pinsRead (a b : Bool) : (d.pinsRead a b).sys.now8 = d.sys.now8 := Dev.frame_pinsRead a b Part.clock (by decide)
theorem Dev.member_pinsRead (a b : Bool) : (d.pinsRead a b).member = d.member := by
  rw [Dev.member, Frame.on (Dev.frame_pinsRead a b) _ (by decide), Dev.member]

/-- The member that the pins as read name. -/
theorem Dev.pinsName_pinsRead (a b : Bool) : (d.pinsRead a b).pinsName = if b = true then 2 else if a = true then 1 else 0 := by
  obtain ⟨hA, hB⟩ := d.auth_pinsRead a b
  rw [Dev.pinsName, hA, hB]

/-- A member without the latch agrees with pins that name the other one. -/
theorem Dev.agree_setLatch_false : (d.setLatch false).on F.TWN_TOKEN_STATE.agree = decide ((d.setLatch false).get F.TWN_TOKEN_STATE.named = 3 - d.member) := by
  have hLatch : (d.latchShown false).latch = false := by
    rw [Dev.latch, Dev.on, Dev.get, show F.TWN_TOKEN_STATE.latch.reg = R.TWN_TOKEN_STATE from rfl, Dev.rd_latchShown_token]
    exact (Dev.on_putLatch false).1
  rw [Dev.setLatch_false, Dev.agree_twnAgree, Dev.named_twnAgree, Dev.pinsAgree, hLatch, if_neg (by decide), Dev.member,
    Frame.on (Dev.frame_latchShown false) _ (by decide), Dev.member]

/-- A freeze that lasts releases the outputs, recorded with how long it ran (R396). -/
def Dev.holdOver (d : Dev) (ran : Nat) : Dev := ((d.modTwn fun t => { t with relOut := true }).twnFlag 8).twnReport 33 0x9A d.tokenState ran

/-- What the end of the hold limit changes, before its record. -/
theorem Dev.frame_holdShown : Dev.Frame ([Part.twn, Part.reg R.TWN_IRQ_STATUS.off] ++ irqParts) d ((d.modTwn fun t => { t with relOut := true }).twnFlag 8) :=
  Frame.flag (Frame.setTwn Frame.refl _ (by simp)) _ _ _ _ (by simp) (by simp +contextual)

theorem Dev.frame_holdOver (ran : Nat) : Dev.Frame ([Part.twn, Part.reg R.TWN_IRQ_STATUS.off] ++ irqParts ++ strobeParts 33) d (d.holdOver ran) :=
  Frame.report (Frame.mono Dev.frame_holdShown (by simp +contextual)) _ _ _ (by simp [strobeParts]) (by simp [strobeParts])

theorem Dev.twn_holdOver (ran : Nat) : (d.holdOver ran).twn = { d.twn with relOut := true } := by
  rw [Dev.holdOver, Dev.twnReport, Dev.report_twn, Dev.twnFlag, Dev.flag_twn, Dev.modTwn]

theorem Dev.rd_holdOver_irq (ran : Nat) : bit ((d.holdOver ran).rd R.TWN_IRQ_STATUS) 8 = true := by
  rw [Dev.holdOver, Dev.twnReport, Dev.rd_report_ne _ _ _ _ _ (by decide), Dev.twnFlag]
  exact Dev.rd_flag_same _ _ _ _ _ (by decide) (by decide) (by decide)

theorem Dev.tokenState_holdOver (ran : Nat) : (d.holdOver ran).tokenState = d.tokenState := by
  have hFrame := d.frame_holdOver ran
  have hTwin : (d.holdOver ran).twin = d.twin := congrArg (fun f : FrdSt => decide (f.cfg.role.grade = 1)) (hFrame Part.frd (by decide))
  have h8 : (d.holdOver ran).sys.now8 = d.sys.now8 := hFrame Part.clock (by decide)
  rw [Dev.tokenState, Dev.tokenState, Dev.twnFrozen, Dev.twnFrozen, Frame.rd hFrame _ (by decide), Frame.get hFrame _ (by decide),
    Frame.on hFrame _ (by decide), hTwin, h8, Dev.twn_holdOver]

theorem Dev.strobed_holdOver (ran : Nat) : strobed d (d.holdOver ran) 33 (0x9A * 2 ^ 24 + d.tokenState % 2 ^ 16) ran := by
  have hCode : 0x9A <<< 24 + d.tokenState % 65536 = 0x9A * 2 ^ 24 + d.tokenState % 2 ^ 16 := by omega
  rw [← hCode]
  exact Dev.strobed_report _ _ (Dev.frame_holdShown Part.strobes (by decide)) (Frame.get Dev.frame_holdShown _ (by decide))

/-- The condition of source 33 ends with agreement. -/
theorem Dev.active_twnAgree (h : d.pinsAgree = true) (hWas : d.on F.TWN_TOKEN_STATE.agree = false) : d.twnAgree.on (F.FLT_SRCi_STATE.active 33) = false := by
  obtain ⟨x, hAgree⟩ := d.twnAgree_eq
  rw [hAgree, h, hWas, Dev.when, if_pos (by rfl)]
  exact Dev.on_setActive_same _ (by decide) false

/-- A member that stops agreeing freezes what its outputs hold. -/
theorem Dev.twnJudged_lost {h : Held} (hOk : d.pinsAgree = false) (hWas : d.on F.TWN_TOKEN_STATE.agree = true) :
    ∃ t : TwnSt, d.twnJudged h =
      { t with disAt := d.sys.now8 + 1, held := if d.twnFrozen && t.held.isSome then t.held else some h, relOut := d.twnFrozen && t.relOut } := by
  unfold Dev.twnJudged
  rw [hOk, hWas]
  exact ⟨_, rfl⟩

/-- A member that agrees again is live half a microsecond later. -/
theorem Dev.twnJudged_found {h : Held} (hOk : d.pinsAgree = true) (hWas : d.on F.TWN_TOKEN_STATE.agree = false) :
    (d.twnJudged h).disAt = 0 ∧ (d.twnJudged h).held = d.twn.held ∧ (d.twnJudged h).liveAt = d.sys.now8 + 63 := by
  unfold Dev.twnJudged
  extract_lets t
  rw [hOk, hWas, if_pos (by rfl)]
  refine ⟨rfl, ?_, rfl⟩
  change (if d.pinsName = 0 then d.twn else _).held = _
  split_ifs <;> rfl

end

end Sys2Proof.Machine

namespace Sys2Proof.Proofs

section
variable {s : State}

theorem laneUp_step (l : Fin 2) : Completes (exec (.twinLaneUp l) s) fun t =>
    if s.dev.twin = true ∧ s.dev.domOn 2 = true ∧ s.dev.twnSt ≠ 0 ∧ bit (s.dev.get F.CLK_STATUS.locked) 3 = true then
      t.dev.lane l = true ∧ t.dev.lane (1 - l.val) = s.dev.lane (1 - l.val) ∧ t.dev.twn = { s.dev.twn with active9 := true } ∧ s.Frame [Part.twn, Part.reg R.TWN_STATUS.off] t
    else t = s := by
  refine completes_onDev (fun d => d.twnLaneUp l) rfl ?_
  have hl := l.isLt
  by_cases hUp : s.dev.twin = true ∧ s.dev.domOn 2 = true ∧ s.dev.twnSt ≠ 0 ∧ bit (s.dev.get F.CLK_STATUS.locked) 3 = true
  · have hModel : ¬ (!s.dev.twin || !s.dev.domOn 2 || decide (s.dev.twnSt = 0) || !bit (s.dev.get F.CLK_STATUS.locked) 3) = true := by
      simpa [and_assoc] using hUp
    rw [if_pos hUp, Dev.twnLaneUp, if_neg hModel]
    refine ⟨?_, ?_, rfl, Frame.ofDev (Frame.putBit (Frame.setTwn Frame.refl _ (by simp)) _ _ _ (by simp [F.TWN_STATUS.lanes_up]))⟩
    · rw [Dev.lane_putBit _ _ _ hl, if_pos rfl]
    · rw [Dev.lane_putBit _ _ _ (by omega), if_neg (by omega)]
      rfl
  · have hModel : (!s.dev.twin || !s.dev.domOn 2 || decide (s.dev.twnSt = 0) || !bit (s.dev.get F.CLK_STATUS.locked) 3) = true := by
      by_contra hNot
      exact hUp (by simpa [and_assoc] using hNot)
    rw [if_neg hUp, Dev.twnLaneUp, if_pos hModel]

theorem laneDown_step (l : Fin 2) : Completes (exec (.twinLaneDown l) s) fun t =>
    if s.dev.lane l = true then
      t.dev.lane l = false ∧ t.dev.lane (1 - l.val) = s.dev.lane (1 - l.val) ∧ strobed s.dev t.dev 32 (0x91 * 2 ^ 24 + l.val) (s.dev.now % 2 ^ 32) ∧
        (if s.dev.lane (1 - l.val) = false then t.dev.twn = { s.dev.twn with mseqRx := none, iseqRx := none } else t.dev.twn = s.dev.twn) ∧ s.Frame ([Part.twn, Part.reg R.TWN_STATUS.off] ++ strobeParts 32) t
    else t = s := by
  refine completes_onDev (fun d => d.twnLaneDown l) rfl ?_
  have hl := l.isLt
  by_cases hUp : s.dev.lane l = true
  swap
  · rw [if_neg hUp, Dev.twnLaneDown, if_pos (by simpa using hUp)]
  rw [if_pos hUp]
  have hLost := s.dev.frame_laneLost l
  have hOne : (s.dev.laneLost l).lane l = false := by rw [Dev.lane_laneLost _ _ hl, if_pos rfl]
  have hOther : (s.dev.laneLost l).lane (1 - l.val) = s.dev.lane (1 - l.val) := by rw [Dev.lane_laneLost _ _ (by omega), if_neg (by omega)]
  have hStrobed := s.dev.strobed_laneLost hl
  have hNone : (s.dev.laneLost l).get F.TWN_STATUS.lanes_up = 0 ↔ s.dev.lane (1 - l.val) = false := by
    rw [Dev.noLane_iff, ← hOther]
    fin_cases l
    · exact ⟨And.right, fun h => ⟨hOne, h⟩⟩
    · exact ⟨And.left, fun h => ⟨h, hOne⟩⟩
  have hTwn : (s.dev.laneLost l).twn = s.dev.twn := hLost Part.twn (by decide)
  rw [Dev.twnLaneDown_of_lane hUp]
  generalize s.dev.laneLost l = e at *
  have hKept : Dev.Frame ([Part.twn, Part.reg R.TWN_STATUS.off] ++ strobeParts 32) s.dev e := Frame.mono hLost (by simp +contextual)
  by_cases hDown : s.dev.lane (1 - l.val) = false
  · have hForget : Dev.Frame [Part.twn] e (e.modTwn fun t => { t with mseqRx := none, iseqRx := none }) := Frame.setTwn Frame.refl _ (by simp)
    rw [if_pos (hNone.2 hDown), if_pos hDown, Dev.lane_modTwn, Dev.lane_modTwn]
    refine ⟨hOne, hOther, strobed_after hStrobed hForget (by decide) (by decide) (by decide), ?_, Frame.ofDev (Frame.trans hKept (Frame.mono hForget (by simp)))⟩
    rw [Dev.modTwn, hTwn]
  · rw [if_neg (mt hNone.1 hDown), if_neg hDown]
    exact ⟨hOne, hOther, hStrobed, hTwn, Frame.ofDev hKept⟩

theorem tokenRefresh_step (hTwin : s.dev.twin = true) (hCore : s.dev.domOn 0 = true) (hLink : s.dev.domOn 2 = true) :
    Completes (exec .tokenRefresh s) fun t =>
      t.dev.sys.now8 = max s.dev.sys.now8 (s.dev.twn.freshAt + 125) ∧ t.dev.twn = { s.dev.twn with freshAt := t.dev.sys.now8 } ∧ s.Frame ([Part.twn] ++ timeParts) t := by
  refine completes_onDev Dev.tokenRefresh rfl ?_
  rw [Dev.tokenRefresh, if_neg (by simp [hTwin, hCore, hLink])]
  have hFrame : Dev.Frame ([Part.twn] ++ timeParts) s.dev (s.dev.advance8To (s.dev.twn.freshAt + 125)) := Frame.advance8To Frame.refl _ (by simp +contextual)
  refine ⟨Dev.now8_advance8To (d := s.dev) _, ?_, Frame.ofDev (Frame.setTwn hFrame _ (by simp))⟩
  rw [Dev.modTwn, Dev.advance8To_twn]

theorem latchTimeout_step (hLatch : s.dev.latch = true) : Completes (exec .tokenLatchTimeout s) fun t =>
    t.dev.sys.now8 = max s.dev.sys.now8 (s.dev.twn.freshAt + 500) ∧ t.dev.latch = false ∧ t.dev.on F.TWN_TOKEN_STATE.drive = false ∧ bit (t.dev.rd R.TWN_IRQ_STATUS) 3 = true ∧
    t.dev.on F.TWN_TOKEN_STATE.agree = decide (t.dev.get F.TWN_TOKEN_STATE.named = 3 - s.dev.member) ∧ s.Frame (tokenParts ++ timeParts) t := by
  refine completes_onDev Dev.latchTimeout rfl ?_
  rw [Dev.latchTimeout, if_neg (by simp [hLatch])]
  have hTime : Dev.Frame timeParts s.dev (s.dev.advance8To (s.dev.twn.freshAt + 500)) := Frame.advance8To Frame.refl _ fun _ h => h
  have hNow := Dev.now8_advance8To (d := s.dev) (s.dev.twn.freshAt + 500)
  generalize s.dev.advance8To (s.dev.twn.freshAt + 500) = e at *
  have hSet := Dev.frame_setLatch (d := e) false
  have hWas : e.latch ≠ false := by rw [Dev.latch, Frame.on hTime _ (by decide)]; simpa [Dev.latch] using hLatch
  refine ⟨(hSet Part.clock (by decide)).trans hNow, Dev.latch_setLatch false, Dev.drive_setLatch false, Dev.irq_setLatch hWas, ?_,
    Frame.ofDev (Frame.trans (Frame.mono hTime (by simp +contextual)) (Frame.mono hSet (by simp +contextual)))⟩
  rw [Dev.agree_setLatch_false, Dev.member, Frame.on hTime _ (by decide), Dev.member]

theorem authPins_step (a b : Bool) : Completes (exec (.authPinChange a b) s) fun t =>
    let named := if b = true then 2 else if a = true then 1 else 0
    let ok := decide (named = if s.dev.latch = true then s.dev.member else 3 - s.dev.member)
    t.dev.on F.TWN_TOKEN_STATE.auth_a = a ∧ t.dev.on F.TWN_TOKEN_STATE.auth_b = b ∧ t.dev.get F.TWN_TOKEN_STATE.named = named ∧ t.dev.on F.TWN_TOKEN_STATE.agree = ok ∧ t.dev.latch = s.dev.latch ∧
    t.dev.on F.TWN_TOKEN_STATE.drive = s.dev.on F.TWN_TOKEN_STATE.drive ∧ (ok = false ∧ s.dev.on F.TWN_TOKEN_STATE.agree = true → t.dev.twn.disAt = s.dev.sys.now8 + 1 ∧ t.dev.twn.held.isSome = true) ∧
    (ok = true ∧ s.dev.on F.TWN_TOKEN_STATE.agree = false → t.dev.twn.disAt = 0 ∧ t.dev.twn.held = s.dev.twn.held ∧ t.dev.twn.liveAt = s.dev.sys.now8 + 63) ∧ (ok = true ∧ s.dev.on F.TWN_TOKEN_STATE.agree = false → t.dev.on (F.FLT_SRCi_STATE.active 33) = false) ∧
    s.Frame ([Part.twn, Part.reg R.TWN_TOKEN_STATE.off] ++ activeParts 33) t := by
  refine completes_onDev (fun d => d.authPins a b) rfl ?_
  obtain ⟨hA, hB⟩ := s.dev.auth_pinsRead a b
  have hRead := s.dev.frame_pinsRead a b
  have hLatch : (s.dev.pinsRead a b).latch = s.dev.latch := Dev.on_pinsRead_other F.TWN_TOKEN_STATE.latch a b rfl rfl rfl rfl
  have hWas : (s.dev.pinsRead a b).on F.TWN_TOKEN_STATE.agree = s.dev.on F.TWN_TOKEN_STATE.agree := Dev.on_pinsRead_other _ a b rfl rfl rfl rfl
  have hDrive : (s.dev.pinsRead a b).on F.TWN_TOKEN_STATE.drive = s.dev.on F.TWN_TOKEN_STATE.drive := Dev.on_pinsRead_other _ a b rfl rfl rfl rfl
  have hOk : (s.dev.pinsRead a b).pinsAgree =
      decide ((if b = true then 2 else if a = true then 1 else 0) = if s.dev.latch = true then s.dev.member else 3 - s.dev.member) := by
    rw [Dev.pinsAgree, Dev.pinsName_pinsRead, hLatch, Dev.member_pinsRead]
  have hName := Dev.pinsName_pinsRead (d := s.dev) a b
  have h8 := Dev.now8_pinsRead (d := s.dev) a b
  have hTwn := Dev.twn_pinsRead (d := s.dev) a b
  rw [Dev.authPins, ← Dev.pinsRead]
  generalize s.dev.pinsRead a b = e at *
  obtain ⟨h, hJudged⟩ := e.twn_twnAgree
  dsimp only
  rw [← hOk, ← hWas, ← h8, ← hTwn, hJudged]
  refine ⟨(Dev.on_twnAgree_other _ rfl rfl rfl).trans hA, (Dev.on_twnAgree_other _ rfl rfl rfl).trans hB, Dev.named_twnAgree.trans hName, Dev.agree_twnAgree,
    Dev.latch_twnAgree.trans hLatch, (Dev.on_twnAgree_other _ rfl rfl rfl).trans hDrive, ?_, ?_, ?_, ?_⟩
  · rintro ⟨hNot, hDid⟩
    obtain ⟨t, ht⟩ := Dev.twnJudged_lost (h := h) hNot hDid
    rw [ht]
    refine ⟨rfl, ?_⟩
    by_cases hKeep : (e.twnFrozen && t.held.isSome) = true
    · simp only [hKeep, if_true]
      simp only [Bool.and_eq_true] at hKeep
      exact hKeep.2
    · simp only [hKeep]
      rfl
  · exact fun ⟨hIs, hNot⟩ => Dev.twnJudged_found hIs hNot
  · exact fun ⟨hIs, hNot⟩ => Dev.active_twnAgree hIs hNot
  · exact Frame.ofDev (Frame.trans (Frame.mono hRead (by simp)) (Frame.mono Dev.frame_twnAgree (by simp +contextual [agreeParts])))

theorem holdLimit_step : Completes (exec .holdLimit s) fun t =>
    if s.dev.twin = true ∧ 2 ≤ s.dev.twnSt ∧ s.dev.on F.TWN_TOKEN_STATE.agree = false ∧ s.dev.twn.disAt ≠ 0 ∧ s.dev.twn.relOut = false then
      t.dev.sys.now8 = max s.dev.sys.now8 (s.dev.twn.disAt - 1 + max 1 (s.dev.get F.TWN_CFG.hold_limit_us) * 125) ∧ t.dev.twn = { s.dev.twn with relOut := true } ∧ bit (t.dev.rd R.TWN_IRQ_STATUS) 8 = true ∧
        strobed s.dev t.dev 33 (0x9A * 2 ^ 24 + t.dev.tokenState % 2 ^ 16) ((t.dev.sys.now8 - (s.dev.twn.disAt - 1)) / 125) ∧
        s.Frame ([Part.twn, Part.reg R.TWN_IRQ_STATUS.off] ++ irqParts ++ strobeParts 33 ++ timeParts) t
    else t = s := by
  refine completes_onDev Dev.holdLimit rfl ?_
  by_cases hLasts : s.dev.twin = true ∧ 2 ≤ s.dev.twnSt ∧ s.dev.on F.TWN_TOKEN_STATE.agree = false ∧ s.dev.twn.disAt ≠ 0 ∧ s.dev.twn.relOut = false
  swap
  · rw [if_neg hLasts, Dev.holdLimit, if_pos (by by_contra hNot; exact hLasts (by simpa [and_assoc, Nat.lt_iff_add_one_le] using hNot))]
  rw [if_pos hLasts, Dev.holdLimit, if_neg (by simpa [and_assoc, Nat.lt_iff_add_one_le] using hLasts)]
  have hNow := Dev.now8_advance8To (d := s.dev) (s.dev.twn.disAt - 1 + max 1 (s.dev.get F.TWN_CFG.hold_limit_us) * 125)
  have hTime : Dev.Frame timeParts s.dev (s.dev.advance8To (s.dev.twn.disAt - 1 + max 1 (s.dev.get F.TWN_CFG.hold_limit_us) * 125)) :=
    Frame.advance8To Frame.refl _ fun _ h => h
  have hTwn : (s.dev.advance8To (s.dev.twn.disAt - 1 + max 1 (s.dev.get F.TWN_CFG.hold_limit_us) * 125)).twn = s.dev.twn := hTime Part.twn (by decide)
  dsimp only
  generalize s.dev.advance8To (s.dev.twn.disAt - 1 + max 1 (s.dev.get F.TWN_CFG.hold_limit_us) * 125) = e at *
  rw [hTwn, ← Dev.holdOver]
  have hOver := e.frame_holdOver ((e.sys.now8 - (s.dev.twn.disAt - 1)) / 125)
  have hStill : (e.holdOver ((e.sys.now8 - (s.dev.twn.disAt - 1)) / 125)).sys.now8 = e.sys.now8 := hOver Part.clock (by decide)
  refine ⟨hStill.trans hNow, ?_, Dev.rd_holdOver_irq _, ?_, Frame.ofDev (Frame.trans (Frame.mono hTime (by simp +contextual)) (Frame.mono hOver (fun _ h => List.mem_append_left _ h)))⟩
  · rw [Dev.twn_holdOver, hTwn]
  · rw [Dev.tokenState_holdOver, hStill]
    exact strobed_before hTime (Dev.strobed_holdOver _) (by decide) (by decide)

theorem selfTest_step (off : BitVec 16) (hTwin : s.dev.twin = true) : Completes (exec (.converterSelfTest off) s) fun t =>
    let bad := decide (off.toInt < -16 ∨ 16 < off.toInt)
    t.dev.twn = { s.dev.twn with selfBad := bad } ∧ bit t.dev.health 10 = !bad ∧ s.Frame [Part.twn] t := by
  refine completes_onDev (fun d => d.selfTest off.toInt) rfl ?_
  have hBad : decide (16 < off.toInt.natAbs) = decide (off.toInt < -16 ∨ 16 < off.toInt) := decide_eq_decide.2 (by omega)
  rw [Dev.selfTest, if_pos hTwin, Dev.modTwn, bit_health, hBad]
  exact ⟨rfl, rfl, Frame.ofDev (Frame.setTwn Frame.refl _ (by simp))⟩

theorem agreeing_step (hAgree : s.dev.on F.TWN_TOKEN_STATE.agree = true) :
    Completes (exec .disagreementResolve s) (fun t => t = s) ∧ Completes (exec .holdLimit s) (fun t => t = s) := by
  refine ⟨completes_onDev Dev.resolve rfl ?_, completes_onDev Dev.holdLimit rfl ?_⟩
  · rw [Dev.resolve, if_pos (by simp [hAgree])]
  · rw [Dev.holdLimit, if_pos (by simp [hAgree])]

end

end Sys2Proof.Proofs
end

-- ==== Sitting: what the supervisory slices keep ====
section
/-! SUPPORT. What the inputs, the permits and the ports leave in the supervisory slices: power, clocks and the twin link. -/
open Sys2Proof Sys2Proof.Machine Sys2Proof.Claims
set_option maxRecDepth 20000

namespace Sys2Proof.Machine

/-! ### The registers of a 64 KiB slice -/

/-- The registers of a slice of the map are the same. -/
def Dev.KeepsSlice (b : Nat) (d e : Dev) : Prop := ∀ r : Reg, r.off / 65536 = b → e.rd r = d.rd r

/-- The slices of the power sequencer, the clocks and the twin link. -/
abbrev supervisory (b : Nat) : Prop := b = 0xC ∨ b = 0xD ∨ b = 0xF

namespace Dev.KeepsSlice

variable {b : Nat} {d e : Dev}

theorem refl : Dev.KeepsSlice b d d := fun _ _ => rfl

theorem trans {f : Dev} (h : Dev.KeepsSlice b d e) (h' : Dev.KeepsSlice b e f) : Dev.KeepsSlice b d f :=
  fun r hr => (h' r hr).trans (h r hr)

theorem ofRegs (h : e.regs = d.regs) : Dev.KeepsSlice b d e := fun r _ => by rw [Dev.rd, h, Dev.rd]

theorem ofFrame {ps : List Part} (h : Dev.Frame ps d e) (hp : ∀ o, Part.reg o ∈ ps → o / 65536 ≠ b) : Dev.KeepsSlice b d e :=
  fun r hr => Frame.rd h r fun hMem => hp _ hMem hr

theorem get (h : Dev.KeepsSlice b d e) (g : Fld) (hg : g.reg.off / 65536 = b) : e.get g = d.get g := by rw [Dev.get, h _ hg, Dev.get]
theorem on (h : Dev.KeepsSlice b d e) (g : Fld) (hg : g.reg.off / 65536 = b) : e.on g = d.on g := by rw [Dev.on, h.get g hg, Dev.on]

theorem ite {f : Dev} {c : Prop} [Decidable c] (h : Dev.KeepsSlice b d e) (h' : Dev.KeepsSlice b d f) : Dev.KeepsSlice b d (if c then e else f) := by
  split
  · exact h
  · exact h'

theorem each {α : Type} (h : Dev.KeepsSlice b d e) (l : List α) (u : Dev → α → Dev) (hu : ∀ x a, Dev.KeepsSlice b x (u x a)) :
    Dev.KeepsSlice b d (e.each l u) := by
  unfold Dev.each
  induction l generalizing e with
  | nil => exact h
  | cons a l ih => exact ih (h.trans (hu e a))

theorem wr (h : Dev.KeepsSlice b d e) (r : Reg) (v : Nat) (hr : r.off / 65536 ≠ b) : Dev.KeepsSlice b d (e.wr r v) :=
  fun q hq => (Dev.rd_wr_ne _ _ _ _ fun hSame => hr (hSame ▸ hq)).trans (h q hq)

theorem put (h : Dev.KeepsSlice b d e) (g : Fld) (v : Nat) (hr : g.reg.off / 65536 ≠ b) : Dev.KeepsSlice b d (e.put g v) := h.wr _ _ hr
theorem putB (h : Dev.KeepsSlice b d e) (g : Fld) (v : Bool) (hr : g.reg.off / 65536 ≠ b) : Dev.KeepsSlice b d (e.putB g v) := h.wr _ _ hr
theorem count (h : Dev.KeepsSlice b d e) (g : Fld) (n : Nat) (hr : g.reg.off / 65536 ≠ b) : Dev.KeepsSlice b d (e.count g n) := h.wr _ _ hr

theorem modCh (h : Dev.KeepsSlice b d e) (n : Nat) (u : ChSt → ChSt) : Dev.KeepsSlice b d (e.modCh n u) := h.trans (ofRegs rfl)
theorem putInp (h : Dev.KeepsSlice b d e) (k : Nat) (x : InSt) : Dev.KeepsSlice b d (e.putInp k x) := h.trans (ofRegs rfl)
theorem putEnc (h : Dev.KeepsSlice b d e) (n : Nat) (x : EncSt) : Dev.KeepsSlice b d (e.putEnc n x) := h.trans (ofRegs rfl)
theorem modTwn (h : Dev.KeepsSlice b d e) (u : TwnSt → TwnSt) : Dev.KeepsSlice b d (e.modTwn u) := h.trans (ofRegs rfl)

theorem noteLevel (h : Dev.KeepsSlice b d e) (c i v : Nat) : Dev.KeepsSlice b d (e.noteLevel c i v) := by
  unfold Dev.noteLevel
  exact ite (h.trans (ofRegs rfl)) h

theorem slotQueue (h : Dev.KeepsSlice b d e) (u : TwIn) : Dev.KeepsSlice b d (e.slotQueue u) := by
  unfold Dev.slotQueue
  exact ite h (h.trans (ofRegs rfl))

section
variable (hb : supervisory b)
include hb

theorem flag (h : Dev.KeepsSlice b d e) (st en : Reg) (k v : Nat) (hr : st.off / 65536 ≠ b) : Dev.KeepsSlice b d (e.flag st en k v) :=
  h.trans (ofFrame (Frame.flag (ps := [Part.reg st.off] ++ irqParts) Frame.refl st en k v (by simp) (by simp +contextual)) (by
    simp only [irqParts, List.mem_append, List.mem_cons, List.not_mem_nil, or_false, Part.reg.injEq, reduceCtorEq, false_or, R.MSIX_PBA]
    rintro o (rfl | rfl)
    · exact hr
    · rcases hb with rfl | rfl | rfl <;> decide))

theorem report (h : Dev.KeepsSlice b d e) (src d0 d1 : Nat) (hs : src < 42) : Dev.KeepsSlice b d (e.report src d0 d1) :=
  h.trans (ofFrame (Frame.report (ps := strobeParts src) Frame.refl src d0 d1 (by simp [strobeParts]) (by simp [strobeParts])) (by
    simp only [strobeParts, List.mem_cons, List.not_mem_nil, or_false, Part.reg.injEq, reduceCtorEq, false_or, R.FLT_SRCi_STATE]
    rintro o rfl
    omega))

theorem setActive (h : Dev.KeepsSlice b d e) (src : Nat) (v : Bool) (hs : src < 42) : Dev.KeepsSlice b d (e.setActive src v) :=
  h.trans (ofFrame (Frame.setActive (ps := activeParts src) Frame.refl src v (by simp [activeParts]) (by simp [activeParts]) (by simp [activeParts])) (by
    simp only [activeParts, List.mem_cons, List.not_mem_nil, or_false, Part.reg.injEq, reduceCtorEq, false_or, R.FLT_SRCi_STATE, R.FLT_ACTIVE]
    rintro o (rfl | rfl) <;> omega))

theorem gate (h : Dev.KeepsSlice b d e) (n : Nat) : Dev.KeepsSlice b d (e.gate n) :=
  h.trans (ofFrame (Frame.gate (ps := gateParts n) Frame.refl n fun _ hp => hp) (by
    simp only [gateParts, irqParts, List.cons_append, List.nil_append, List.mem_cons, List.not_mem_nil, or_false, Part.reg.injEq, reduceCtorEq, false_or,
      R.CHn_FGT_STATUS, R.CHn_FGT_COUNTS, R.CHn_FGT_IRQ_STATUS, R.MSIX_PBA]
    rintro o (rfl | rfl | rfl | rfl) <;> omega))

theorem gateLevels (h : Dev.KeepsSlice b d e) (n : Nat) : Dev.KeepsSlice b d (e.gateLevels n) :=
  h.trans (ofFrame (Frame.gateLevels (ps := [Part.reg (R.CHn_FGT_STATUS n).off]) Frame.refl n (by simp)) (by
    simp only [List.mem_cons, List.not_mem_nil, or_false, Part.reg.injEq, R.CHn_FGT_STATUS]
    rintro o rfl
    omega))

theorem fgtFlag (h : Dev.KeepsSlice b d e) (n k : Nat) : Dev.KeepsSlice b d (e.fgtFlag n k) :=
  h.flag hb _ _ _ _ (by simp only [R.CHn_FGT_IRQ_STATUS]; omega)

/-! ### Interlocks and inputs (R253, R289, R384) -/

theorem ilkActive (h : Dev.KeepsSlice b d e) : Dev.KeepsSlice b d e.ilkActive := h.setActive hb 36 _ (by decide)

theorem latchDrop (h : Dev.KeepsSlice b d e) (n kind src esn : Nat) : Dev.KeepsSlice b d (e.latchDrop n kind src esn) :=
  (h.modCh n _).gate hb n

theorem ilkOpened (h : Dev.KeepsSlice b d e) (kind k : Nat) (chans : List Nat) : Dev.KeepsSlice b d (e.ilkOpened kind k chans) := by
  unfold Dev.ilkOpened
  have h1 := (h.each chans Dev.gateLevels fun _ n => refl.gateLevels hb n).ilkActive hb
  have h2 (v t : Nat) := (h1.report hb 36 v t (by decide)).each chans (fun d n => d.fgtFlag n 0) fun _ n => refl.fgtFlag hb n 0
  refine ite h ?_
  dsimp only
  exact ite ((h2 _ _).each _ _ fun _ n => refl.latchDrop hb n _ _ _) ((h2 _ _).each _ _ fun _ n => refl.gate hb n)

theorem releaseLatches (h : Dev.KeepsSlice b d e) (n : Nat) : Dev.KeepsSlice b d (e.releaseLatches n) :=
  ((h.gateLevels hb n).modCh n _).gate hb n

theorem dinChange (h : Dev.KeepsSlice b d e) (k : Nat) (level : Bool) : Dev.KeepsSlice b d (e.dinChange k level) := by
  unfold Dev.dinChange
  dsimp only
  exact ite ((h.putInp _ _).ilkOpened hb _ _ _) (((h.putInp _ _).each _ _ fun _ n => refl.releaseLatches hb n).ilkActive hb)

/-- An illegal step of an encoder is counted, shown and recorded. -/
theorem encIllegal (h : Dev.KeepsSlice b d e) {n : Nat} (hn : n < 4) (v t : Nat) :
    Dev.KeepsSlice b d ((((e.count (F.EVT_ENCn_COUNTS.illegal n)).put (F.EVT_ENCn_STATUS.illegal n) 1).evtFlag 4).encReport n 0xC0 v t) := by
  refine ((((h.count _ _ ?_).put _ _ ?_).flag hb _ _ _ _ ?_).report hb 39 _ _ (by decide))
  · simp only [F.EVT_ENCn_COUNTS.illegal, R.EVT_ENCn_COUNTS]
    omega
  · simp only [F.EVT_ENCn_STATUS.illegal, R.EVT_ENCn_STATUS]
    omega
  · simp only [R.EVT_STATUS]
    omega

theorem encLevels (h : Dev.KeepsSlice b d e) (n ts v : Nat) (hn : n < 4) : Dev.KeepsSlice b d (e.encLevels n ts v) := by
  unfold Dev.encLevels
  dsimp only
  have h1 (x : EncSt) := h.putEnc n x
  refine ite h (ite ((ite (h1 _) (ite (ite ((h1 _).encIllegal hb hn _ _) (h1 _)) ((h1 _).putEnc _ _))).putEnc _ _)
    (ite (h1 _) (ite (ite ((h1 _).encIllegal hb hn _ _) (h1 _)) ((h1 _).putEnc _ _))))

theorem inputTaken (h : Dev.KeepsSlice b d e) (c n ts qt : Nat) (level : Bool) : Dev.KeepsSlice b d (e.inputTaken c n ts qt level) := by
  unfold Dev.inputTaken Dev.limQueue
  exact ite (h.dinChange hb _ _) (h.putInp _ _)

theorem inputAct (h : Dev.KeepsSlice b d e) (u : TwIn) : Dev.KeepsSlice b d (e.inputAct u) := by
  have h1 := ite (c := (decide (u.code = 1) || decide (4 < u.code)) = true) h (h.noteLevel u.code u.index u.value)
  unfold Dev.inputAct
  dsimp only
  split
  · by_cases hn : u.index < 4
    · rw [if_pos hn]
      exact h1.encLevels hb _ _ _ hn
    · rw [if_neg hn]
      exact h1
  · exact ite (h1.slotQueue u) h1
  · exact ite (h1.inputTaken hb _ _ _ _ _) h1
  · exact ite (h1.inputTaken hb _ _ _ _ _) h1
  · exact h1.inputTaken hb _ _ _ _ _
  · exact ite (h1.putInp _ _) h1
  · exact ite ((h1.modTwn _).slotQueue u) (h1.modTwn _)
  · exact h1

end

end Dev.KeepsSlice

/-! ### Ports that a member withdraws (R401) -/

section
variable {d e : Dev} {ps : List Part}

/-- What withdrawing the port of a channel changes (R239). -/
def withdrawParts (n : Nat) : List Part := [Part.reg (R.CHn_BLP_STATUS n).off, Part.reg (R.CHn_BLP_IRQ_STATUS n).off] ++ gateParts n

theorem Frame.withdraw_ (h : Dev.Frame ps d e) (n cause : Nat) (hn : ∀ p ∈ withdrawParts n, p ∈ ps) : Dev.Frame ps d (e.withdraw_ n cause) := by
  have hStatus : Part.reg (R.CHn_BLP_STATUS n).off ∈ ps := hn _ (by simp [withdrawParts])
  have hIrq : Part.reg (R.CHn_BLP_IRQ_STATUS n).off ∈ ps := hn _ (by simp [withdrawParts])
  have hGate : ∀ p ∈ gateParts n, p ∈ ps := fun p hp => hn p (by simp [withdrawParts, hp])
  have hPost : ∀ p ∈ irqParts, p ∈ ps := fun p hp => hGate p (by simp [gateParts, hp])
  unfold Dev.withdraw_
  exact Frame.ite h (Frame.gate (Frame.flag (Frame.put (Frame.put (Frame.emit h _ (hPost _ (by simp [irqParts]))) _ _ hStatus) _ _ hStatus) _ _ _ _ hIrq hPost) _ hGate)

/-- What a member in neither LOCKSTEP nor ALONE changes at its ports. -/
def portsParts : List Part := [Part.twn] ++ strobeParts 32 ++ (List.range 8).flatMap withdrawParts

theorem Frame.twnPorts (h : Dev.Frame ps d e) (hp : ∀ p ∈ portsParts, p ∈ ps) : Dev.Frame ps d e.twnPorts := by
  have hAll := Frame.each (ps := ps) ((List.range 8).filter fun n => e.port n = 5) (fun d n => d.withdraw_ n 3)
    (fun x n hn => Frame.withdraw_ Frame.refl n 3 fun p hMem => hp p
      (by simp only [portsParts, List.mem_append, List.mem_flatMap]; exact .inr ⟨n, (List.mem_filter.1 hn).1, hMem⟩)) h
  unfold Dev.twnPorts
  dsimp only
  refine Frame.ite h (Frame.ite hAll (Frame.report (Frame.setTwn hAll _ (hp _ ?_)) _ _ _ (hp _ ?_) (hp _ ?_)))
  · simp [portsParts]
  · simp [portsParts, strobeParts]
  · simp [portsParts, strobeParts]

theorem portsParts_slice {b : Nat} (hb : supervisory b) (o : Nat) (h : Part.reg o ∈ portsParts) : o / 65536 ≠ b := by
  simp only [portsParts, strobeParts, withdrawParts, gateParts, irqParts, List.cons_append, List.nil_append, List.mem_flatMap, List.mem_cons,
    List.not_mem_nil, or_false, Part.reg.injEq, reduceCtorEq, false_or, R.FLT_SRCi_STATE, R.CHn_BLP_STATUS, R.CHn_BLP_IRQ_STATUS, R.CHn_FGT_STATUS,
    R.CHn_FGT_COUNTS, R.CHn_FGT_IRQ_STATUS, R.MSIX_PBA] at h
  rcases h with rfl | ⟨n, -, rfl | rfl | rfl | rfl | rfl | rfl⟩ <;> omega

theorem Dev.keepsSlice_twnPorts {b : Nat} (hb : supervisory b) : Dev.KeepsSlice b d d.twnPorts :=
  .ofFrame (Frame.twnPorts Frame.refl fun _ h => h) (portsParts_slice hb)

theorem Dev.keepsSlice_holdShow {b : Nat} (hb : supervisory b) : Dev.KeepsSlice b d d.holdShow := by
  unfold Dev.holdShow
  refine .putB (.trans (Dev.KeepsSlice.ofFrame (ps := (List.range 42).map fun i => Part.reg (R.FLT_SRCi_STATE i).off)
    (Frame.each _ _ (fun x i hi => Frame.putB Frame.refl _ _ (List.mem_map.2 ⟨i, hi, rfl⟩)) Frame.refl) ?_) .refl) _ _ ?_
  · intro o ho
    simp only [List.mem_map, List.mem_range, Part.reg.injEq, R.FLT_SRCi_STATE] at ho
    obtain ⟨i, hi, rfl⟩ := ho
    omega
  · simp only [F.FLT_STATUS.admissions_held, R.FLT_STATUS]
    omega

theorem Dev.keepsSlice_pairFree {b : Nat} (hb : supervisory b) : Dev.KeepsSlice b d d.pairFree := by
  have hFlt : Dev.KeepsSlice b d { d with flt := { d.flt with pairHold := 0 } } := .ofRegs rfl
  unfold Dev.pairFree
  exact .ite .refl (hFlt.trans (Dev.keepsSlice_holdShow hb))

theorem Dev.keepsSlice_sendInput {b : Nat} (c i t v : Nat) : Dev.KeepsSlice b d (d.sendInput c i t v) := by
  unfold Dev.sendInput Dev.when Dev.putInput
  refine .ite (.ite ?_ .refl) .refl
  obtain ⟨x, h⟩ := ({ d with twn := { d.twn with iseqTx := (d.twn.iseqTx + 1) % 256 } } : Dev).onLanes_shape
    [[0x99, c <<< 5 + i, d.twn.iseqTx] ++ leBytes 2 t ++ leBytes 2 v ++ [crc8 ([0x99, c <<< 5 + i, d.twn.iseqTx] ++ leBytes 2 t ++ leBytes 2 v)]]
  dsimp only
  rw [h]
  exact .ofRegs rfl

theorem Dev.keepsSlice_replayInputs {b : Nat} (hb : supervisory b) (since : Nat) : Dev.KeepsSlice b d (d.replayInputs since) := by
  unfold Dev.replayInputs
  dsimp only
  exact (Dev.KeepsSlice.refl.modTwn _).each _ _ fun x u => .ite .refl ((Dev.KeepsSlice.refl.inputAct hb u).trans (Dev.keepsSlice_sendInput _ _ _ _))

theorem Dev.keepsSlice_dropWaiting {b : Nat} (hb : supervisory b) : Dev.KeepsSlice b d d.dropWaiting := by
  unfold Dev.dropWaiting
  split
  · exact .refl
  · exact (Dev.KeepsSlice.refl.modTwn _).report hb 32 _ _ (by decide)

end

end Sys2Proof.Machine
end

-- ==== Sitting: a disagreement resolved ====
section
/-! PROOF. A take-over of the Token and the end of a disagreement (R396, R397); the lanes and the Token of the twin link (O51). -/
open Sys2Proof Sys2Proof.Machine Sys2Proof.Claims
set_option maxRecDepth 20000

namespace Sys2Proof.Machine

section
variable {d : Dev}

/-- A status bit that is set stays so when another is. -/
theorem Dev.bit_flag_of_bit {st : Reg} (en : Reg) {j : Nat} (k v : Nat) (hPba : st.off ≠ R.MSIX_PBA.off) (hj : j < st.w) (hw : st.w ≤ 64)
    (h : bit (d.rd st) j = true) : bit ((d.flag st en k v).rd st) j = true := by
  have hWr : bit ((d.wr st (putBits (d.rd st) k k 1)).rd st) j = true := by
    rw [Dev.rd_wr_same, bit_mod _ _ _ (by omega), bit_mod _ _ _ hj]
    by_cases hk : j = k
    · rw [hk]
      exact bit_putBits_same _ _ true
    · rw [bit_putBits_ne _ _ _ _ _ le_rfl (by omega), h]
  unfold Dev.flag
  dsimp only
  split_ifs
  · rw [Dev.rd_post_ne _ _ _ hPba]
    exact hWr
  · exact hWr

theorem Dev.irq_setLatch_of_bit {j : Nat} (on : Bool) (hj : j < 32) (h : bit (d.rd R.TWN_IRQ_STATUS) j = true) :
    bit ((d.setLatch on).rd R.TWN_IRQ_STATUS) j = true := by
  have hPut : (d.putLatch on).rd R.TWN_IRQ_STATUS = d.rd R.TWN_IRQ_STATUS := Frame.rd (ps := [Part.twn, Part.reg R.TWN_TOKEN_STATE.off])
    (Frame.setTwn (Frame.putB (Frame.putB Frame.refl _ _ (by simp [F.TWN_TOKEN_STATE.latch])) _ _ (by simp [F.TWN_TOKEN_STATE.drive])) _ (by simp)) _ (by decide)
  rw [Dev.rd_setLatch_irq, Dev.latchShown]
  split
  · rw [hPut]
    exact h
  · exact Dev.bit_flag_of_bit _ _ _ (by decide) hj (by decide) (by rw [hPut]; exact h)

/-! ### A disagreement is recorded once (R396) -/

/-- What recording a disagreement changes. -/
def disagreedParts : List Part := [Part.twn, Part.reg R.TWN_COUNTS.off, Part.reg R.TWN_IRQ_STATUS.off] ++ irqParts ++ activeParts 33 ++ strobeParts 33

/-- A disagreement that was not yet recorded: counted, shown, its condition under bit 33. -/
def Dev.disagreeShown (d : Dev) : Dev :=
  ((((d.modTwn fun t => { t with said98 := true }).count F.TWN_COUNTS.disagreements)).twnFlag 8).setActive 33 true

theorem Dev.frame_disagreeShown : Dev.Frame disagreedParts d d.disagreeShown :=
  Frame.setActive (Frame.flag (Frame.count (Frame.setTwn Frame.refl _ (by simp [disagreedParts])) _ _ (by simp [disagreedParts, F.TWN_COUNTS.disagreements]))
    _ _ _ _ (by simp [disagreedParts]) (by simp +contextual [disagreedParts])) _ _ (by simp [disagreedParts, activeParts])
    (by simp [disagreedParts, activeParts]) (by simp [disagreedParts, activeParts])

theorem Dev.disagreed_eq (d : Dev) : ∃ v t, d.disagreed false = if d.twn.said98 = true then d else d.disagreeShown.twnReport 33 0x98 v t := by
  unfold Dev.disagreed
  simp only [Bool.false_eq_true, if_false]
  exact ⟨_, _, rfl⟩

theorem Dev.frame_disagreed : Dev.Frame disagreedParts d (d.disagreed false) := by
  obtain ⟨v, t, h⟩ := d.disagreed_eq
  rw [h]
  exact Frame.ite Frame.refl (Frame.report Dev.frame_disagreeShown _ _ _ (by simp [disagreedParts, strobeParts]) (by simp [disagreedParts, strobeParts]))

theorem Dev.twn_disagreeShown : d.disagreeShown.twn = { d.twn with said98 := true } := by
  have hShown : d.disagreeShown.twn = ((d.modTwn fun t => { t with said98 := true }).count F.TWN_COUNTS.disagreements).twn := by
    rw [Dev.disagreeShown, Dev.setActive_twn, Dev.twnFlag, Dev.flag_twn]
  exact hShown.trans (Dev.count_twn _ _ _)

theorem Dev.twn_disagreeReport (v t : Nat) : (d.disagreeShown.twnReport 33 0x98 v t).twn = { d.twn with said98 := true } :=
  (Dev.report_twn _ _ _ _).trans Dev.twn_disagreeShown

theorem TwnSt.said98_self {t : TwnSt} (h : t.said98 = true) : t = { t with said98 := true } := by
  cases t
  simp_all

theorem Dev.twn_disagreed : (d.disagreed false).twn = { d.twn with said98 := true } := by
  obtain ⟨v, t, h⟩ := d.disagreed_eq
  rw [h]
  by_cases hSaid : d.twn.said98 = true
  · rw [if_pos hSaid]
    exact TwnSt.said98_self hSaid
  · rw [if_neg hSaid, Dev.twn_disagreeReport]

theorem Dev.rd_disagreeReport (v t : Nat) (r : Reg) (h : r.off / 65536 = 0xF) (hIrq : r.off ≠ R.TWN_IRQ_STATUS.off) :
    (d.disagreeShown.twnReport 33 0x98 v t).rd r = (d.count F.TWN_COUNTS.disagreements).rd r := by
  have hAfter : Dev.KeepsSlice 0xF ((d.modTwn fun t => { t with said98 := true }).count F.TWN_COUNTS.disagreements |>.twnFlag 8) (d.disagreeShown.twnReport 33 0x98 v t) :=
    (Dev.KeepsSlice.refl.setActive (.inr (.inr rfl)) 33 true (by decide)).report (.inr (.inr rfl)) 33 _ _ (by decide)
  rw [hAfter r h, Dev.twnFlag, Dev.rd_flag_ne _ _ _ _ _ _ hIrq (by simp only [R.MSIX_PBA]; omega)]
  rfl

theorem Dev.disagreements_disagreed : (d.disagreed false).get F.TWN_COUNTS.disagreements =
    min (d.get F.TWN_COUNTS.disagreements + b2n (!d.twn.said98)) 255 := by
  obtain ⟨v, t, h⟩ := d.disagreed_eq
  rw [h]
  by_cases hSaid : d.twn.said98 = true
  · have hLt : d.get F.TWN_COUNTS.disagreements < 256 := d.get_lt _
    rw [if_pos hSaid, hSaid]
    simp only [Bool.not_true, b2n, Bool.false_eq_true, if_false]
    omega
  · rw [if_neg hSaid, Dev.get, Dev.rd_disagreeReport _ _ _ rfl (by decide)]
    refine (Dev.get_count_same d F.TWN_COUNTS.disagreements 1 rfl).trans ?_
    rw [show d.twn.said98 = false by simpa using hSaid]
    rfl

theorem Dev.takeovers_disagreed : (d.disagreed false).get F.TWN_COUNTS.takeovers = d.get F.TWN_COUNTS.takeovers := by
  obtain ⟨v, t, h⟩ := d.disagreed_eq
  rw [h]
  split
  · rfl
  · rw [Dev.get, Dev.rd_disagreeReport _ _ _ rfl (by decide)]
    exact Dev.get_put_other d F.TWN_COUNTS.disagreements F.TWN_COUNTS.takeovers _ rfl rfl rfl rfl

theorem Dev.irq_disagreed (hSaid : d.twn.said98 = false) : bit ((d.disagreed false).rd R.TWN_IRQ_STATUS) 8 = true := by
  obtain ⟨v, t, h⟩ := d.disagreed_eq
  have hAfter : Dev.KeepsSlice 0xF ((d.modTwn fun t => { t with said98 := true }).count F.TWN_COUNTS.disagreements |>.twnFlag 8) (d.disagreeShown.twnReport 33 0x98 v t) :=
    (Dev.KeepsSlice.refl.setActive (.inr (.inr rfl)) 33 true (by decide)).report (.inr (.inr rfl)) 33 _ _ (by decide)
  rw [h, if_neg (by simp [hSaid]), hAfter _ rfl]
  exact Dev.rd_flag_same _ _ _ _ _ (by decide) (by decide) (by decide)

/-! ### Taking the Token over (R397) -/

/-- What discarding an epoch changes. -/
def droppedParts : List Part := [Part.twn, Part.reg R.TWN_STATUS.off, Part.reg R.TWN_COUNTS.off, Part.reg R.TWN_IRQ_STATUS.off] ++ irqParts

theorem Dev.epochDrop_busy (h : d.on F.TWN_STATUS.epoch_busy = true) : ∃ u, d.epochDrop =
    (((((d.put F.TWN_STATUS.epoch_busy 0).count F.TWN_COUNTS.discarded).twnFlag 5).modTwn u)).showDirty := by
  rw [Dev.epochDrop, if_neg (by simp [h])]
  exact ⟨_, rfl⟩

theorem Dev.epochDrop_idle (h : d.on F.TWN_STATUS.epoch_busy = false) : d.epochDrop = d := by rw [Dev.epochDrop, if_pos (by simp [h])]

theorem Dev.frame_epochDrop : Dev.Frame droppedParts d d.epochDrop := by
  by_cases hBusy : d.on F.TWN_STATUS.epoch_busy = true
  · obtain ⟨u, h⟩ := Dev.epochDrop_busy hBusy
    rw [h]
    exact Frame.putB (Frame.setTwn (Frame.flag (Frame.count (Frame.put Frame.refl _ _ (by simp [droppedParts, F.TWN_STATUS.epoch_busy])) _ _
      (by simp [droppedParts, F.TWN_COUNTS.discarded])) _ _ _ _ (by simp [droppedParts]) (by simp +contextual [droppedParts])) _ (by simp [droppedParts]))
      _ _ (by simp [droppedParts, F.TWN_STATUS.staged_dirty])
  · rw [Dev.epochDrop_idle (by simpa using hBusy)]
    exact Frame.refl

theorem Dev.busy_epochDrop : d.epochDrop.on F.TWN_STATUS.epoch_busy = false := by
  by_cases hBusy : d.on F.TWN_STATUS.epoch_busy = true
  · obtain ⟨u, h⟩ := Dev.epochDrop_busy hBusy
    rw [h, Dev.showDirty, Dev.putB, Dev.on_put_other _ F.TWN_STATUS.staged_dirty F.TWN_STATUS.epoch_busy _ rfl rfl rfl rfl, Dev.on_modTwn, Dev.twnFlag,
      Dev.on_flag_ne _ _ _ _ _ _ (by decide) (by decide), Dev.count, Dev.on_put_ne _ _ _ _ (by decide)]
    exact Dev.on_putB_same _ _ false rfl
  · rw [Dev.epochDrop_idle (by simpa using hBusy)]
    simpa using hBusy

/-- A count but for that of discarded epochs. -/
theorem Dev.get_epochDrop_counts (g : Fld) (hr : g.reg = R.TWN_COUNTS) (hg : g.ok = true)
    (h : (decide (g.hi < F.TWN_COUNTS.discarded.lo) || decide (F.TWN_COUNTS.discarded.hi < g.lo)) = true) : d.epochDrop.get g = d.get g := by
  by_cases hBusy : d.on F.TWN_STATUS.epoch_busy = true
  · obtain ⟨u, hDrop⟩ := Dev.epochDrop_busy hBusy
    have hModTwn (e : Dev) : (e.modTwn u).get g = e.get g := by rw [Dev.get, Dev.rd_modTwn, Dev.get]
    rw [hDrop, Dev.showDirty, Dev.putB, Dev.get_put_ne _ _ _ _ (by rw [hr]; decide), hModTwn, Dev.twnFlag,
      Dev.get_flag_ne _ _ _ _ _ _ (by rw [hr]; decide) (by rw [hr]; decide), Dev.count, Dev.get_put_other _ F.TWN_COUNTS.discarded g _ hr rfl hg h,
      Dev.get_put_ne _ _ _ _ (by rw [hr]; decide)]
  · rw [Dev.epochDrop_idle (by simpa using hBusy)]

theorem Dev.irq_epochDrop_of_bit {j : Nat} (hj : j < 32) (h : bit (d.rd R.TWN_IRQ_STATUS) j = true) : bit (d.epochDrop.rd R.TWN_IRQ_STATUS) j = true := by
  by_cases hBusy : d.on F.TWN_STATUS.epoch_busy = true
  · obtain ⟨u, hDrop⟩ := Dev.epochDrop_busy hBusy
    rw [hDrop, Dev.showDirty, Dev.putB, Dev.rd_put_ne _ _ _ _ (by decide), Dev.rd_modTwn]
    refine Dev.bit_flag_of_bit _ _ _ (by decide) hj (by decide) ?_
    rw [Dev.count, Dev.rd_put_ne _ _ _ _ (by decide), Dev.rd_put_ne _ _ _ _ (by decide)]
    exact h
  · rw [Dev.epochDrop_idle (by simpa using hBusy)]
    exact h

/-- The member takes the latch, and the epoch is discarded: a take-over but for the inputs and commands that follow it. -/
def Dev.tokenTaken (d : Dev) : Dev := ((d.setLatch true).ownVectors).epochDrop

theorem Dev.keepsSlice_takeOver : Dev.KeepsSlice 0xF d.tokenTaken d.takeOver := by
  have hReplay := Dev.keepsSlice_replayInputs (d := d.tokenTaken) (b := 0xF) (.inr (.inr rfl)) 0
  exact hReplay.trans (Dev.keepsSlice_dropWaiting (.inr (.inr rfl)))

theorem Dev.latch_takeOver : d.takeOver.latch = true := by
  rw [Dev.latch, Dev.keepsSlice_takeOver.on _ rfl, Dev.tokenTaken, Frame.on Dev.frame_epochDrop _ (by decide), Dev.ownVectors, Dev.on_modTwn]
  exact Dev.latch_setLatch true

theorem Dev.busy_takeOver : d.takeOver.on F.TWN_STATUS.epoch_busy = false := by
  rw [Dev.keepsSlice_takeOver.on _ rfl]
  exact Dev.busy_epochDrop

theorem Dev.get_takeOver_counts (g : Fld) (hr : g.reg = R.TWN_COUNTS) (hg : g.ok = true)
    (h : (decide (g.hi < F.TWN_COUNTS.discarded.lo) || decide (F.TWN_COUNTS.discarded.hi < g.lo)) = true) : d.takeOver.get g = d.get g := by
  rw [Dev.keepsSlice_takeOver.get _ (by rw [hr]; rfl), Dev.tokenTaken, Dev.get_epochDrop_counts g hr hg h, Dev.get, Dev.ownVectors, Dev.rd_modTwn,
    Frame.rd (Dev.frame_setLatch true) _ (by rw [hr]; decide), Dev.get]

theorem Dev.irq_takeOver_of_bit {j : Nat} (hj : j < 32) (h : bit (d.rd R.TWN_IRQ_STATUS) j = true) : bit (d.takeOver.rd R.TWN_IRQ_STATUS) j = true := by
  rw [Dev.keepsSlice_takeOver R.TWN_IRQ_STATUS rfl]
  refine Dev.irq_epochDrop_of_bit hj ?_
  rw [Dev.ownVectors, Dev.rd_modTwn]
  exact Dev.irq_setLatch_of_bit true hj h

/-! ### The pins while the latch changes -/

theorem Dev.on_latchShown (g : Fld) (b : Bool) (hr : g.reg = R.TWN_TOKEN_STATE) (hg : g.ok = true)
    (hL : (decide (g.hi < F.TWN_TOKEN_STATE.latch.lo) || decide (F.TWN_TOKEN_STATE.latch.hi < g.lo)) = true)
    (hD : (decide (g.hi < F.TWN_TOKEN_STATE.drive.lo) || decide (F.TWN_TOKEN_STATE.drive.hi < g.lo)) = true) : (d.latchShown b).on g = d.on g := by
  rw [Dev.on, Dev.get, hr, Dev.rd_latchShown_token, ← hr]
  exact (Dev.on_put_other _ F.TWN_TOKEN_STATE.drive g _ hr rfl hg hD).trans (Dev.on_put_other _ F.TWN_TOKEN_STATE.latch g _ hr rfl hg hL)

theorem Dev.pinsName_latchShown (b : Bool) : (d.latchShown b).pinsName = d.pinsName := by
  rw [Dev.pinsName, Dev.on_latchShown _ _ rfl rfl rfl rfl, Dev.on_latchShown _ _ rfl rfl rfl rfl, Dev.pinsName]

theorem Dev.latch_latchShown (b : Bool) : (d.latchShown b).latch = b := by
  rw [Dev.latch, Dev.on, Dev.get, show F.TWN_TOKEN_STATE.latch.reg = R.TWN_TOKEN_STATE from rfl, Dev.rd_latchShown_token]
  exact (Dev.on_putLatch b).1

theorem Dev.member_latchShown (b : Bool) : (d.latchShown b).member = d.member := by
  rw [Dev.member, Frame.on (Dev.frame_latchShown b) _ (by decide), Dev.member]

theorem Dev.pinsAgree_latchShown (b : Bool) : (d.latchShown b).pinsAgree = decide (d.pinsName = if b then d.member else 3 - d.member) := by
  rw [Dev.pinsAgree, Dev.pinsName_latchShown, Dev.latch_latchShown, Dev.member_latchShown]

theorem Dev.pinsAgree_holderSynced : d.holderSynced.pinsAgree = d.pinsAgree := by
  rw [Dev.pinsAgree, Dev.pinsName, Dev.latch, Dev.member, Frame.on Dev.frame_holderSynced _ (by decide), Frame.on Dev.frame_holderSynced _ (by decide),
    Frame.on Dev.frame_holderSynced _ (by decide), Frame.on Dev.frame_holderSynced _ (by decide), Dev.pinsAgree, Dev.pinsName, Dev.latch, Dev.member]

/-- The member agrees once it has the latch that the pins give it, or has given up the one they do not. -/
theorem Dev.agree_setLatch (b : Bool) : (d.setLatch b).on F.TWN_TOKEN_STATE.agree = decide (d.pinsName = if b then d.member else 3 - d.member) := by
  cases b
  · rw [Dev.setLatch_false, Dev.agree_twnAgree, Dev.pinsAgree_latchShown]
  · rw [Dev.setLatch_true, Dev.agree_twnAgree, Dev.pinsAgree_holderSynced, Dev.pinsAgree_latchShown]

/-- A member that agrees once it has the latch has no disagreement any more. -/
theorem Dev.disAt_setLatch_true (hName : d.pinsName = d.member) (hAgree : d.on F.TWN_TOKEN_STATE.agree = false) : (d.setLatch true).twn.disAt = 0 := by
  obtain ⟨h, hTwn⟩ := (d.latchShown true).holderSynced.twn_twnAgree
  have hIs : (d.latchShown true).holderSynced.pinsAgree = true := by
    rw [Dev.pinsAgree_holderSynced, Dev.pinsAgree_latchShown, hName]
    simp
  have hWas : (d.latchShown true).holderSynced.on F.TWN_TOKEN_STATE.agree = false := by
    rw [Frame.on Dev.frame_holderSynced _ (by decide), Dev.on_latchShown _ _ rfl rfl rfl rfl, hAgree]
  rw [Dev.setLatch_true, hTwn]
  exact (Dev.twnJudged_found hIs hWas).1

theorem Dev.twnSt_setLatch (b : Bool) : (d.setLatch b).twnSt = d.twnSt := by
  cases b
  · exact Frame.get Dev.frame_setLatch_false _ (by decide)
  · rw [Dev.setLatch_true, Dev.twnSt, Frame.get Dev.frame_twnAgree _ (by decide), Dev.holderSynced, Dev.get, Dev.rd_modTwn]
    exact (Dev.get_put_other _ F.TWN_STATUS.time_synced F.TWN_STATUS.state _ rfl rfl rfl rfl).trans (Frame.get (Dev.frame_latchShown true) _ (by decide))

/-! ### The end of a disagreement (R397) -/

/-- The time at which a disagreement is resolved: 2 us after it began, and as long after a Turn. -/
def Dev.resolveReady (d : Dev) : Dev :=
  if (d.advance8To (d.twn.disAt - 1 + 250)).twn.turnAt ≠ 0 then
    (d.advance8To (d.twn.disAt - 1 + 250)).advanceTo ((d.advance8To (d.twn.disAt - 1 + 250)).twn.turnAt - 1 + 250)
  else d.advance8To (d.twn.disAt - 1 + 250)

theorem Dev.frame_resolveReady : Dev.Frame timeParts d d.resolveReady := by
  have hTime : Dev.Frame timeParts d (d.advance8To (d.twn.disAt - 1 + 250)) := Frame.advance8To Frame.refl _ fun _ h => h
  exact Frame.ite (Frame.advanceTo hTime _ fun _ h => h) hTime

theorem Dev.resolveReady_noTurn (h : d.twn.turnAt = 0) : d.resolveReady = d.advance8To (d.twn.disAt - 1 + 250) := by
  rw [Dev.resolveReady, if_neg (by rw [Dev.advance8To_twn]; simpa using h)]

section
variable (hTwin : d.twin = true) (hSt : d.twnSt = 3 ∨ d.twnSt = 4) (hAgree : d.on F.TWN_TOKEN_STATE.agree = false) (hDis : d.twn.disAt ≠ 0)
include hTwin hSt hAgree hDis

/-- The member that is named takes the Token over. -/
theorem Dev.resolve_named (hNamed : d.get F.TWN_TOKEN_STATE.named = d.member) : d.resolve =
    ((d.resolveReady.disagreed false).takeOver.count F.TWN_COUNTS.takeovers).tokenMark 3 d.resolveReady.member d.resolveReady.tokenState := by
  have hReady := d.frame_resolveReady
  have hMember : d.resolveReady.member = d.member := by rw [Dev.member, Frame.on hReady _ (by decide), Dev.member]
  have hIs : d.resolveReady.get F.TWN_TOKEN_STATE.named = d.resolveReady.member := by rw [Frame.get hReady _ (by decide), hMember, hNamed]
  have hOne : d.resolveReady.member = 1 ∨ d.resolveReady.member = 2 := by
    unfold Dev.member
    split_ifs <;> simp
  have hIn : (d.resolveReady.disagreed false).twnSt = d.twnSt :=
    (Frame.get Dev.frame_disagreed F.TWN_STATUS.state (by decide)).trans (Frame.get hReady _ (by decide))
  have hActs : ¬ (!d.twin || decide (d.twnSt < 2) || d.on F.TWN_TOKEN_STATE.agree || decide (d.twn.disAt = 0)) = true := by
    rcases hSt with h | h <;> simp [hTwin, hAgree, hDis, h]
  unfold Dev.resolve
  rw [if_neg hActs]
  dsimp only
  rw [← Dev.resolveReady, if_neg (by rw [hIs]; simp; omega), if_neg (by rw [hIn]; rcases hSt with h | h <;> simp [h]), if_pos hIs]

/-- The member that is not named gives the Token up, and leaves where it was alone. -/
theorem Dev.resolve_other (hNamed : d.get F.TWN_TOKEN_STATE.named = 3 - d.member) (hSolo : d.twn.solo = false) : ∃ e, d.resolve = 
    (if (e.present && decide (e.twnSt = 3)) = true then e else e.twnEnter 5) ∧
    e = ((d.resolveReady.disagreed false).setLatch false).tokenMark 3 (d.resolveReady.get F.TWN_TOKEN_STATE.named) d.resolveReady.tokenState := by
  have hReady := d.frame_resolveReady
  have hMember : d.resolveReady.member = d.member := by rw [Dev.member, Frame.on hReady _ (by decide), Dev.member]
  have hIs : d.resolveReady.get F.TWN_TOKEN_STATE.named = 3 - d.resolveReady.member := by rw [Frame.get hReady _ (by decide), hMember, hNamed]
  have hOne : d.resolveReady.member = 1 ∨ d.resolveReady.member = 2 := by
    unfold Dev.member
    split_ifs <;> simp
  have hAlone : d.resolveReady.twn.solo = false := by rw [show d.resolveReady.twn = d.twn from hReady Part.twn (by decide), hSolo]
  have hIn : (d.resolveReady.disagreed false).twnSt = d.twnSt :=
    (Frame.get Dev.frame_disagreed F.TWN_STATUS.state (by decide)).trans (Frame.get hReady _ (by decide))
  have hActs : ¬ (!d.twin || decide (d.twnSt < 2) || d.on F.TWN_TOKEN_STATE.agree || decide (d.twn.disAt = 0)) = true := by
    rcases hSt with h | h <;> simp [hTwin, hAgree, hDis, h]
  refine ⟨_, ?_, rfl⟩
  unfold Dev.resolve
  rw [if_neg hActs]
  dsimp only
  rw [← Dev.resolveReady, if_neg (by simp [hAlone]), if_neg (by rw [hIn]; rcases hSt with h | h <;> simp [h]), if_neg (by rw [hIs]; omega), if_pos hIs]

end

/-! ### Leaving the pair (R401) -/

/-- The state is shown, and a pair that ends frees what the partner held. -/
def Dev.leaving (d : Dev) : Dev :=
  if d.twnSt = 3 then ((d.put F.TWN_STATUS.state 5).pairFree.twnFlag 1).wr R.TWN_NEXT_TURN (2 ^ 64 - 1) else d.put F.TWN_STATUS.state 5

theorem Dev.twnEnter_out (h : 2 ≤ d.twnSt) : d.twnEnter 5 = d.leaving.twnPorts := by
  unfold Dev.twnEnter Dev.leaving
  have hIn : ¬ (decide (d.twnSt < 2) && decide (2 ≤ 5)) = true := by simp; omega
  simp only [hIn, show ((5 : Nat) = 2) = False by simp, show ((5 : Nat) = 3) = False by simp, show ((5 : Nat) = 4) = False by simp, decide_false, Bool.false_and,
    Bool.false_eq_true, if_false, ne_eq, not_false_eq_true, decide_true, Bool.and_true, decide_eq_true_eq]

theorem Dev.rd_leaving (r : Reg) (h : r.off / 65536 = 0xF) (hState : r.off ≠ R.TWN_STATUS.off) (hIrq : r.off ≠ R.TWN_IRQ_STATUS.off)
    (hTurn : r.off ≠ R.TWN_NEXT_TURN.off) : d.leaving.rd r = d.rd r := by
  unfold Dev.leaving
  split
  · rw [Dev.rd_wr_ne _ _ _ _ hTurn, Dev.twnFlag, Dev.rd_flag_ne _ _ _ _ _ _ hIrq (by simp only [R.MSIX_PBA]; omega),
      (Dev.keepsSlice_pairFree (b := 0xF) (.inr (.inr rfl))) r h, Dev.rd_put_ne _ _ _ _ hState]
  · exact Dev.rd_put_ne _ _ _ _ hState

theorem Dev.twnSt_leaving : d.leaving.twnSt = 5 := by
  have hPut : (d.put F.TWN_STATUS.state 5).twnSt = 5 := Dev.get_put_same _ _ _ rfl
  unfold Dev.leaving
  split
  · rw [Dev.twnSt, Dev.get_wr_ne _ _ _ _ (by decide), Dev.twnFlag, Dev.get_flag_ne _ _ _ _ _ _ (by decide) (by decide),
      (Dev.keepsSlice_pairFree (b := 0xF) (.inr (.inr rfl))).get _ rfl]
    exact hPut
  · exact hPut

theorem Dev.twnSt_twnEnter_out (h : 2 ≤ d.twnSt) : (d.twnEnter 5).twnSt = 5 := by
  rw [Dev.twnEnter_out h]
  exact ((Dev.keepsSlice_twnPorts (b := 0xF) (.inr (.inr rfl))).get F.TWN_STATUS.state rfl).trans Dev.twnSt_leaving

theorem Dev.rd_twnEnter_out (hSt : 2 ≤ d.twnSt) (r : Reg) (h : r.off / 65536 = 0xF) (hState : r.off ≠ R.TWN_STATUS.off) (hIrq : r.off ≠ R.TWN_IRQ_STATUS.off)
    (hTurn : r.off ≠ R.TWN_NEXT_TURN.off) : (d.twnEnter 5).rd r = d.rd r := by
  rw [Dev.twnEnter_out hSt]
  exact ((Dev.keepsSlice_twnPorts (b := 0xF) (.inr (.inr rfl))) r h).trans (Dev.rd_leaving r h hState hIrq hTurn)

/-- A member that was ALONE changes only its state and its ports. -/
theorem Dev.frame_twnEnter_out (h : d.twnSt = 4) : Dev.Frame ([Part.reg R.TWN_STATUS.off] ++ portsParts) d (d.twnEnter 5) := by
  rw [Dev.twnEnter_out (by omega), Dev.leaving, if_neg (by omega)]
  exact Frame.twnPorts (Frame.put Frame.refl _ _ (by simp [F.TWN_STATUS.state])) (by simp +contextual)

/-- The member that gives the Token up, as it is recorded. -/
def Dev.givenUp (d : Dev) : Dev :=
  ((d.resolveReady.disagreed false).setLatch false).tokenMark 3 (d.resolveReady.get F.TWN_TOKEN_STATE.named) d.resolveReady.tokenState

theorem Dev.inputs_ownVectors : d.ownVectors.twn.inputs = d.twn.inputs := by rw [Dev.ownVectors, Dev.modTwn]
theorem Dev.queue_ownVectors : d.ownVectors.twn.queue = d.twn.queue := by rw [Dev.ownVectors, Dev.modTwn]

theorem Dev.replayInputs_none (h : d.twn.inputs = []) : d.replayInputs 0 = d.modTwn fun t => { t with inputs := [] } := by
  rw [Dev.replayInputs, h]
  rfl

theorem Dev.dropWaiting_none (h : d.twn.queue = []) : d.dropWaiting = d := by
  rw [Dev.dropWaiting, h]
  rfl

theorem Dev.disAt_noInputs : (d.ownVectors.modTwn fun t => { t with inputs := [] }).twn.disAt = d.twn.disAt := by rw [Dev.ownVectors, Dev.modTwn, Dev.modTwn]

theorem Dev.queue_noInputs : (d.modTwn fun t => { t with inputs := [] }).twn.queue = d.twn.queue := by rw [Dev.modTwn]

/-- A take-over without inputs, commands and an epoch that wait. -/
theorem Dev.takeOver_quiet (hInputs : d.twn.inputs = []) (hQueue : d.twn.queue = []) (hBusy : d.on F.TWN_STATUS.epoch_busy = false) :
    d.takeOver = (d.setLatch true).ownVectors.modTwn fun t => { t with inputs := [] } := by
  obtain ⟨e, h, fresh, hTwn, hLatched⟩ := d.twn_setLatch true
  have hIdle : (d.setLatch true).ownVectors.on F.TWN_STATUS.epoch_busy = false := by
    rw [Dev.ownVectors, Dev.on_modTwn, Dev.setLatch_true, Frame.on Dev.frame_twnAgree _ (by decide), Dev.holderSynced, Dev.on_modTwn,
      Dev.on_put_other _ F.TWN_STATUS.time_synced F.TWN_STATUS.epoch_busy _ rfl rfl rfl rfl, Frame.on (Dev.frame_latchShown true) _ (by decide), hBusy]
  have hNoInput : (d.setLatch true).ownVectors.twn.inputs = [] := by
    rw [Dev.inputs_ownVectors, hTwn, Dev.twnJudged_inputs, hLatched]
    exact hInputs
  have hNoCommand : (d.setLatch true).ownVectors.twn.queue = [] := by
    rw [Dev.queue_ownVectors, hTwn, Dev.twnJudged_queue, hLatched]
    exact hQueue
  rw [Dev.takeOver, Dev.epochDrop_idle hIdle, Dev.replayInputs_none hNoInput]
  refine Dev.dropWaiting_none ?_
  rw [Dev.queue_noInputs, hNoCommand]

end

end Sys2Proof.Machine

namespace Sys2Proof.Proofs

section
variable {s : State} (hTwin : s.dev.twin = true) (hSt : s.dev.twnSt = 3 ∨ s.dev.twnSt = 4) (hAgree : s.dev.on F.TWN_TOKEN_STATE.agree = false) (hDis : s.dev.twn.disAt ≠ 0)
include hTwin hSt hAgree hDis

section
variable (hNamed : s.dev.get F.TWN_TOKEN_STATE.named = s.dev.member)
include hNamed

theorem resolveNamed_step : Completes (exec .disagreementResolve s) fun t =>
    t.dev.latch = true ∧ t.dev.get F.TWN_COUNTS.takeovers = min (s.dev.get F.TWN_COUNTS.takeovers + 1) 255 ∧
      t.dev.get F.TWN_COUNTS.disagreements = min (s.dev.get F.TWN_COUNTS.disagreements + b2n (!s.dev.twn.said98)) 255 ∧ (s.dev.twn.said98 = false → bit (t.dev.rd R.TWN_IRQ_STATUS) 8 = true) ∧
      t.dev.on F.TWN_STATUS.epoch_busy = false ∧ t.mem = s.mem ∧ t.pending = s.pending := by
  refine completes_onDev Dev.resolve rfl ?_
  have hReady := s.dev.frame_resolveReady
  have hTwn : s.dev.resolveReady.twn = s.dev.twn := hReady Part.twn (by decide)
  rw [Dev.resolve_named hTwin hSt hAgree hDis hNamed]
  simp only [Dev.latch_tokenMark, Dev.get_tokenMark, Dev.rd_tokenMark, Dev.on_tokenMark]
  refine ⟨?_, ?_, ?_, ?_, ?_, trivial, trivial⟩
  · exact (Dev.on_put_ne _ F.TWN_COUNTS.takeovers F.TWN_TOKEN_STATE.latch _ (by decide)).trans Dev.latch_takeOver
  · rw [Dev.get_count_same _ _ _ rfl, Dev.get_takeOver_counts _ rfl rfl rfl, Dev.takeovers_disagreed, Frame.get hReady _ (by decide)]
    rfl
  · rw [Dev.count, Dev.get_put_other _ F.TWN_COUNTS.takeovers F.TWN_COUNTS.disagreements _ rfl rfl rfl rfl, Dev.get_takeOver_counts _ rfl rfl rfl,
      Dev.disagreements_disagreed, Frame.get hReady _ (by decide), hTwn]
  · intro hSaid
    rw [Dev.count, Dev.rd_put_ne _ _ _ _ (by decide)]
    exact Dev.irq_takeOver_of_bit (by decide) (Dev.irq_disagreed (by rw [hTwn, hSaid]))
  · exact (Dev.on_put_ne _ F.TWN_COUNTS.takeovers F.TWN_STATUS.epoch_busy _ (by decide)).trans Dev.busy_takeOver

end

section
variable (hNamed : s.dev.get F.TWN_TOKEN_STATE.named = 3 - s.dev.member) (hSolo : s.dev.twn.solo = false)
include hNamed hSolo

/-- Where the member that gives the Token up ends. -/
theorem resolve_givenUp : s.dev.resolve = if s.dev.present = true ∧ s.dev.twnSt = 3 then s.dev.givenUp else s.dev.givenUp.twnEnter 5 := by
  have hReady := s.dev.frame_resolveReady
  obtain ⟨e, hResolve, hIs⟩ := Dev.resolve_other hTwin hSt hAgree hDis hNamed hSolo
  have hOne : Dev.Frame (latchParts ++ agreeParts) (s.dev.resolveReady.disagreed false) ((s.dev.resolveReady.disagreed false).setLatch false) := Dev.frame_setLatch_false
  have hPresent : e.present = s.dev.present := by
    rw [hIs, Dev.present, Dev.on_tokenMark, Frame.on hOne _ (by decide), Frame.on Dev.frame_disagreed _ (by decide), Frame.on hReady _ (by decide), Dev.present]
  have hState : e.twnSt = s.dev.twnSt := by
    rw [hIs, Dev.twnSt_tokenMark, Dev.twnSt, Frame.get hOne _ (by decide), Frame.get Dev.frame_disagreed _ (by decide), Frame.get hReady _ (by decide), Dev.twnSt]
  rw [hResolve, hPresent, hState, hIs, ← Dev.givenUp]
  simp only [Bool.and_eq_true, decide_eq_true_eq]

omit hTwin hSt hAgree hDis hNamed hSolo in
/-- The registers of the twin link after the Token is given up, but for the three it writes. -/
theorem givenUp_latch : s.dev.givenUp.latch = false ∧ s.dev.givenUp.on F.TWN_TOKEN_STATE.drive = false ∧ s.dev.givenUp.twnSt = s.dev.twnSt ∧
    s.dev.givenUp.get F.TWN_COUNTS.disagreements = min (s.dev.get F.TWN_COUNTS.disagreements + b2n (!s.dev.twn.said98)) 255 := by
  have hReady := s.dev.frame_resolveReady
  have hTwn : s.dev.resolveReady.twn = s.dev.twn := hReady Part.twn (by decide)
  have hOne : Dev.Frame (latchParts ++ agreeParts) (s.dev.resolveReady.disagreed false) ((s.dev.resolveReady.disagreed false).setLatch false) := Dev.frame_setLatch_false
  rw [Dev.givenUp, Dev.latch_tokenMark, Dev.on_tokenMark, Dev.twnSt_tokenMark, Dev.get_tokenMark]
  refine ⟨Dev.latch_setLatch false, Dev.drive_setLatch false, ?_, ?_⟩
  · rw [Dev.twnSt, Frame.get hOne _ (by decide), Frame.get Dev.frame_disagreed _ (by decide), Frame.get hReady _ (by decide), Dev.twnSt]
  · rw [Frame.get hOne _ (by decide), Dev.disagreements_disagreed, Frame.get hReady _ (by decide), hTwn]

theorem resolveOther_step : Completes (exec .disagreementResolve s) fun t =>
    t.dev.latch = false ∧ t.dev.on F.TWN_TOKEN_STATE.drive = false ∧ t.dev.twnSt = (if s.dev.present = true ∧ s.dev.twnSt = 3 then 3 else 5) ∧
      t.dev.get F.TWN_COUNTS.disagreements = min (s.dev.get F.TWN_COUNTS.disagreements + b2n (!s.dev.twn.said98)) 255 ∧ t.mem = s.mem ∧ t.pending = s.pending := by
  refine completes_onDev Dev.resolve rfl ?_
  obtain ⟨hLatch, hDrive, hState, hCount⟩ := givenUp_latch (s := s)
  rw [resolve_givenUp hTwin hSt hAgree hDis hNamed hSolo]
  by_cases hStays : s.dev.present = true ∧ s.dev.twnSt = 3
  · rw [if_pos hStays, if_pos hStays]
    exact ⟨hLatch, hDrive, hState.trans hStays.2, hCount, rfl, rfl⟩
  · have hTwo : 2 ≤ s.dev.givenUp.twnSt := by omega
    have hKeeps (r : Reg) (h : r.off / 65536 = 0xF) (h1 : r.off ≠ R.TWN_STATUS.off) (h2 : r.off ≠ R.TWN_IRQ_STATUS.off) (h3 : r.off ≠ R.TWN_NEXT_TURN.off) :=
      Dev.rd_twnEnter_out hTwo r h h1 h2 h3
    have hToken := hKeeps R.TWN_TOKEN_STATE rfl (by decide) (by decide) (by decide)
    rw [if_neg hStays, if_neg hStays]
    refine ⟨?_, ?_, Dev.twnSt_twnEnter_out hTwo, ?_, rfl, rfl⟩
    · exact (congrArg (fun v => decide (bits v F.TWN_TOKEN_STATE.latch.hi F.TWN_TOKEN_STATE.latch.lo ≠ 0)) hToken).trans hLatch
    · exact (congrArg (fun v => decide (bits v F.TWN_TOKEN_STATE.drive.hi F.TWN_TOKEN_STATE.drive.lo ≠ 0)) hToken).trans hDrive
    · exact (congrArg (fun v => bits v F.TWN_COUNTS.disagreements.hi F.TWN_COUNTS.disagreements.lo)
        (hKeeps R.TWN_COUNTS rfl (by decide) (by decide) (by decide))).trans hCount

end

end

theorem now8_tokenMark (d : Dev) (x y z : Nat) : (d.tokenMark x y z).sys.now8 = d.sys.now8 := by rw [Dev.tokenMark, Dev.mark_sys]

/-- The pins as they name a member once its disagreement is resolved. -/
theorem pinsName_resolveReady (s : State) : (s.dev.resolveReady.disagreed false).pinsName = s.dev.pinsName := by
  have hReady := s.dev.frame_resolveReady
  rw [Dev.pinsName, Frame.on Dev.frame_disagreed _ (by decide), Frame.on Dev.frame_disagreed _ (by decide), Frame.on hReady _ (by decide),
    Frame.on hReady _ (by decide), Dev.pinsName]

theorem member_resolveReady (s : State) : (s.dev.resolveReady.disagreed false).member = s.dev.member ∧ s.dev.resolveReady.member = s.dev.member := by
  have hReady := s.dev.frame_resolveReady
  have hOne : s.dev.resolveReady.member = s.dev.member := by rw [Dev.member, Frame.on hReady _ (by decide), Dev.member]
  refine ⟨?_, hOne⟩
  rw [← hOne, Dev.member, Frame.on Dev.frame_disagreed _ (by decide), Dev.member]

/-- The frame of what resolving a disagreement writes. -/
theorem frame_resolved (s : State) : Dev.Frame ([Part.recs, Part.reg R.TWN_COUNTS.off] ++ tokenParts ++ strobeParts 33 ++ timeParts) s.dev (s.dev.resolveReady.disagreed false) :=
  Frame.trans (Frame.mono s.dev.frame_resolveReady (by simp +contextual))
    (Frame.mono Dev.frame_disagreed (by simp +contextual [disagreedParts, tokenParts, or_imp]))

theorem takeOver_step {s : State} (hTwin : s.dev.twin = true) (hSt : s.dev.twnSt = 3 ∨ s.dev.twnSt = 4) (hLatch : s.dev.latch = false)
    (hAgree : s.dev.on F.TWN_TOKEN_STATE.agree = false)
    (hPinA : s.dev.on F.TWN_TOKEN_STATE.auth_a = decide (s.dev.member = 1)) (hPinB : s.dev.on F.TWN_TOKEN_STATE.auth_b = decide (s.dev.member = 2))
    (hNamed : s.dev.get F.TWN_TOKEN_STATE.named = s.dev.member) (hDis : s.dev.twn.disAt ≠ 0) (hTurn : s.dev.twn.turnAt = 0) (hSaid : s.dev.twn.said98 = false)
    (hInputs : s.dev.twn.inputs = []) (hQueue : s.dev.twn.queue = []) (hBusy : s.dev.on F.TWN_STATUS.epoch_busy = false) :
    Completes (exec .disagreementResolve s) fun t =>
      t.dev.sys.now8 = max s.dev.sys.now8 (s.dev.twn.disAt - 1 + 250) ∧ t.dev.latch = true ∧ t.dev.on F.TWN_TOKEN_STATE.drive = true ∧ t.dev.on F.TWN_TOKEN_STATE.agree = true ∧ t.dev.twn.disAt = 0 ∧
      t.dev.get F.TWN_COUNTS.disagreements = min (s.dev.get F.TWN_COUNTS.disagreements + 1) 255 ∧ t.dev.get F.TWN_COUNTS.takeovers = min (s.dev.get F.TWN_COUNTS.takeovers + 1) 255 ∧
      bit (t.dev.rd R.TWN_IRQ_STATUS) 8 = true ∧ bit (t.dev.rd R.TWN_IRQ_STATUS) 2 = true ∧ t.dev.twnSt = s.dev.twnSt ∧
      t.dev.evt.recs = s.dev.evt.recs ++ [(t.dev.slot, ⟨5, 0, 0, 0, 0x0B, 3, 0, s.dev.member, (s.dev.advance8To (s.dev.twn.disAt - 1 + 250)).tokenState, t.dev.now⟩)] ∧
      s.Frame ([Part.recs, Part.reg R.TWN_COUNTS.off] ++ tokenParts ++ strobeParts 33 ++ timeParts) t := by
  refine completes_onDev Dev.resolve rfl ?_
  have hReady := s.dev.frame_resolveReady
  have hResolved := frame_resolved s
  obtain ⟨hMember, hMember'⟩ := member_resolveReady s
  have hName : s.dev.pinsName = s.dev.member := by
    rw [Dev.pinsName, hPinA, hPinB, Dev.member]
    split_ifs <;> simp_all
  have hTwn : (s.dev.resolveReady.disagreed false).twn = { s.dev.twn with said98 := true } :=
    Dev.twn_disagreed.trans (by rw [show s.dev.resolveReady.twn = s.dev.twn from hReady Part.twn (by decide)])
  have h8 : (s.dev.resolveReady.disagreed false).sys.now8 = max s.dev.sys.now8 (s.dev.twn.disAt - 1 + 250) := by
    refine (Dev.frame_disagreed Part.clock (by decide) : (s.dev.resolveReady.disagreed false).sys.now8 = s.dev.resolveReady.sys.now8).trans ?_
    rw [Dev.resolveReady_noTurn hTurn, Dev.now8_advance8To]
  have hPins := (pinsName_resolveReady s).trans (hName.trans hMember.symm)
  have hWas : (s.dev.resolveReady.disagreed false).latch ≠ true := by
    rw [Dev.latch, Frame.on Dev.frame_disagreed _ (by decide), Frame.on hReady _ (by decide), ← Dev.latch, hLatch]
    decide
  have hNot : (s.dev.resolveReady.disagreed false).on F.TWN_TOKEN_STATE.agree = false := by
    rw [Frame.on Dev.frame_disagreed _ (by decide), Frame.on hReady _ (by decide), hAgree]
  have hStill : (s.dev.resolveReady.disagreed false).twnSt = s.dev.twnSt := by
    rw [Dev.twnSt, Frame.get Dev.frame_disagreed _ (by decide), Frame.get hReady _ (by decide), Dev.twnSt]
  have hIrq : bit ((s.dev.resolveReady.disagreed false).rd R.TWN_IRQ_STATUS) 8 = true :=
    Dev.irq_disagreed (by rw [show s.dev.resolveReady.twn = s.dev.twn from hReady Part.twn (by decide), hSaid])
  have hQuiet : (s.dev.resolveReady.disagreed false).takeOver =
      (((s.dev.resolveReady.disagreed false).setLatch true).ownVectors).modTwn fun t => { t with inputs := [] } :=
    Dev.takeOver_quiet (by rw [hTwn]; exact hInputs) (by rw [hTwn]; exact hQueue)
      (by rw [Frame.on Dev.frame_disagreed _ (by decide), Frame.on hReady _ (by decide), hBusy])
  have hNoRecord : (s.dev.resolveReady.disagreed false).evt.recs = s.dev.evt.recs := (Dev.frame_disagreed Part.recs (by decide)).trans (hReady Part.recs (by decide))
  have hDisagreements := (Dev.disagreements_disagreed (d := s.dev.resolveReady))
  have hTakeovers := (Dev.takeovers_disagreed (d := s.dev.resolveReady))
  rw [Frame.get hReady _ (by decide), show s.dev.resolveReady.twn = s.dev.twn from hReady Part.twn (by decide), hSaid] at hDisagreements
  rw [Frame.get hReady _ (by decide)] at hTakeovers
  rw [Dev.resolve_named hTwin hSt hAgree hDis hNamed, hMember', Dev.resolveReady_noTurn hTurn]
  rw [Dev.resolveReady_noTurn hTurn] at *
  generalize (s.dev.advance8To (s.dev.twn.disAt - 1 + 250)).disagreed false = a at *
  rw [hQuiet]
  have hSet : Dev.Frame tokenParts a ((a.setLatch true).ownVectors.modTwn fun t => { t with inputs := [] }) :=
    Frame.setTwn (Frame.setTwn (Dev.frame_setLatch true) _ (by simp [tokenParts]) : Dev.Frame _ _ (a.setLatch true).ownVectors) _ (by simp [tokenParts])
  have hRd (r : Reg) : ((a.setLatch true).ownVectors.modTwn fun t => { t with inputs := [] }).rd r = (a.setLatch true).rd r := by
    rw [Dev.rd_modTwn, Dev.ownVectors, Dev.rd_modTwn]
  have hOn (g : Fld) : ((a.setLatch true).ownVectors.modTwn fun t => { t with inputs := [] }).on g = (a.setLatch true).on g := by
    rw [Dev.on_modTwn, Dev.ownVectors, Dev.on_modTwn]
  have hDisAt := Dev.disAt_noInputs (d := a.setLatch true)
  generalize ((a.setLatch true).ownVectors.modTwn fun t => { t with inputs := [] }) = b at *
  have hCount : Dev.Frame [Part.reg R.TWN_COUNTS.off] b (b.count F.TWN_COUNTS.takeovers) := Frame.count Frame.refl _ _ (by simp [F.TWN_COUNTS.takeovers])
  simp only [Dev.latch_tokenMark, Dev.on_tokenMark, Dev.get_tokenMark, Dev.rd_tokenMark, Dev.twn_tokenMark, Dev.twnSt_tokenMark, Dev.slot_tokenMark, Dev.now_tokenMark,
    Dev.recs_tokenMark]
  refine ⟨?_, ?_, ?_, ?_, ?_, ?_, ?_, ?_, ?_, ?_, ?_, Frame.ofDev ?_⟩
  · rw [now8_tokenMark]
    exact (hCount Part.clock (by decide)).trans ((hSet Part.clock (by decide)).trans h8)
  · exact (Frame.on hCount F.TWN_TOKEN_STATE.latch (by decide)).trans ((hOn _).trans (Dev.latch_setLatch true))
  · exact (Frame.on hCount _ (by decide)).trans ((hOn _).trans (Dev.drive_setLatch true))
  · rw [Frame.on hCount _ (by decide), hOn, Dev.agree_setLatch, hPins]
    simp
  · rw [Dev.count_twn, hDisAt]
    exact Dev.disAt_setLatch_true hPins hNot
  · rw [Dev.count, Dev.get_put_other _ F.TWN_COUNTS.takeovers F.TWN_COUNTS.disagreements _ rfl rfl rfl rfl, Frame.get hSet _ (by decide), hDisagreements]
    rfl
  · rw [Dev.get_count_same _ _ _ rfl, Frame.get hSet _ (by decide), hTakeovers]
    rfl
  · rw [Frame.rd hCount _ (by decide), hRd]
    exact Dev.irq_setLatch_of_bit true (by decide) hIrq
  · rw [Frame.rd hCount _ (by decide), hRd]
    exact Dev.irq_setLatch (on := true) hWas
  · have hState : b.get F.TWN_STATUS.state = (a.setLatch true).get F.TWN_STATUS.state := by rw [Dev.get, hRd, Dev.get]
    rw [Dev.twnSt, Frame.get hCount _ (by decide), hState, ← Dev.twnSt, Dev.twnSt_setLatch, hStill]
  · have hRecs : (b.count F.TWN_COUNTS.takeovers).evt.recs = s.dev.evt.recs :=
      (hCount Part.recs (by decide)).trans ((hSet Part.recs (by decide)).trans hNoRecord)
    rw [hRecs]
  · refine Frame.mark (Frame.trans (Frame.trans hResolved (Frame.mono hSet ?_)) (Frame.mono hCount ?_)) _ _ _ _ ?_
    · simp +contextual
    · simp
    · simp

theorem giveUp_step {s : State} (hTwin : s.dev.twin = true) (hSt : s.dev.twnSt = 3 ∨ s.dev.twnSt = 4) (hLatch : s.dev.latch = true)
    (hPresent : s.dev.present = true) (hAgree : s.dev.on F.TWN_TOKEN_STATE.agree = false)
    (hPinA : s.dev.on F.TWN_TOKEN_STATE.auth_a = decide (s.dev.member = 2)) (hPinB : s.dev.on F.TWN_TOKEN_STATE.auth_b = decide (s.dev.member = 1))
    (hNamed : s.dev.get F.TWN_TOKEN_STATE.named = 3 - s.dev.member) (hDis : s.dev.twn.disAt ≠ 0) (hTurn : s.dev.twn.turnAt = 0) (hSolo : s.dev.twn.solo = false) :
    Completes (exec .disagreementResolve s) fun t =>
      t.dev.latch = false ∧ t.dev.on F.TWN_TOKEN_STATE.drive = false ∧ t.dev.on F.TWN_TOKEN_STATE.agree = true ∧ t.dev.twnSt = (if s.dev.twnSt = 3 then 3 else 5) ∧ bit (t.dev.rd R.TWN_IRQ_STATUS) 3 = true ∧
      t.dev.evt.recs = s.dev.evt.recs ++ [(t.dev.slot, ⟨5, 0, 0, 0, 0x0B, 3, 0, 3 - s.dev.member, (s.dev.advance8To (s.dev.twn.disAt - 1 + 250)).tokenState, t.dev.now⟩)] ∧
      (s.dev.twnSt = 3 → s.Frame ([Part.recs, Part.reg R.TWN_COUNTS.off] ++ tokenParts ++ strobeParts 33 ++ timeParts) t) := by
  refine completes_onDev Dev.resolve rfl ?_
  have hReady := s.dev.frame_resolveReady
  have hResolved := frame_resolved s
  obtain ⟨hMember, -⟩ := member_resolveReady s
  obtain ⟨hOff, hDrive, hState, -⟩ := givenUp_latch (s := s)
  have hName : s.dev.pinsName = 3 - s.dev.member := by
    rw [Dev.pinsName, hPinA, hPinB, Dev.member]
    split_ifs <;> simp_all
  have hPins := (pinsName_resolveReady s).trans hName
  have hOk : s.dev.givenUp.on F.TWN_TOKEN_STATE.agree = true := by
    rw [Dev.givenUp, Dev.on_tokenMark, Dev.agree_setLatch, hPins, hMember]
    simp
  have hWas : (s.dev.resolveReady.disagreed false).latch ≠ false := by
    rw [Dev.latch, Frame.on Dev.frame_disagreed _ (by decide), Frame.on hReady _ (by decide), ← Dev.latch, hLatch]
    decide
  have hIrq : bit (s.dev.givenUp.rd R.TWN_IRQ_STATUS) 3 = true := by
    rw [Dev.givenUp, Dev.rd_tokenMark]
    exact Dev.irq_setLatch (on := false) hWas
  have hSet : Dev.Frame tokenParts (s.dev.resolveReady.disagreed false) ((s.dev.resolveReady.disagreed false).setLatch false) := Dev.frame_setLatch false
  have hNoRecord : ((s.dev.resolveReady.disagreed false).setLatch false).evt.recs = s.dev.evt.recs :=
    (hSet Part.recs (by decide)).trans ((Dev.frame_disagreed Part.recs (by decide)).trans (hReady Part.recs (by decide)))
  have hRecs : s.dev.givenUp.evt.recs = s.dev.evt.recs ++ [(s.dev.givenUp.slot, ⟨5, 0, 0, 0, 0x0B, 3, 0, 3 - s.dev.member,
      (s.dev.advance8To (s.dev.twn.disAt - 1 + 250)).tokenState, s.dev.givenUp.now⟩)] := by
    rw [Dev.givenUp, Dev.recs_tokenMark, Dev.slot_tokenMark, Dev.now_tokenMark, hNoRecord, Frame.get hReady _ (by decide), hNamed, Dev.resolveReady_noTurn hTurn]
  have hFrame : Dev.Frame ([Part.recs, Part.reg R.TWN_COUNTS.off] ++ tokenParts ++ strobeParts 33 ++ timeParts) s.dev s.dev.givenUp :=
    Frame.mark (Frame.trans hResolved (Frame.mono hSet (by simp +contextual))) _ _ _ _ (by simp)
  rw [resolve_givenUp hTwin hSt hAgree hDis hNamed hSolo]
  generalize s.dev.givenUp = g at *
  by_cases hLock : s.dev.twnSt = 3
  · rw [if_pos ⟨hPresent, hLock⟩, if_pos hLock]
    exact ⟨hOff, hDrive, hOk, hState.trans hLock, hIrq, hRecs, fun _ => Frame.ofDev hFrame⟩
  · have hAlone : g.twnSt = 4 := by omega
    have hEnter := Dev.frame_twnEnter_out hAlone
    have hNow : (g.twnEnter 5).now = g.now := Frame.rd hEnter _ (by decide)
    have hRecs' : (g.twnEnter 5).evt.recs = g.evt.recs := hEnter Part.recs (by decide)
    rw [if_neg fun h => hLock h.2, if_neg hLock]
    refine ⟨(Frame.on hEnter F.TWN_TOKEN_STATE.latch (by decide)).trans hOff, (Frame.on hEnter _ (by decide)).trans hDrive, (Frame.on hEnter _ (by decide)).trans hOk,
      Dev.twnSt_twnEnter_out (by omega), ?_, ?_, fun h => absurd h hLock⟩
    · rw [Frame.rd hEnter _ (by decide)]
      exact hIrq
    · rw [hRecs', hRecs, Dev.slot, Dev.slot, hNow]

/-- Settles O51, clause by clause: agreement is judged once (`Dev.twnAgree_eq`), and a resolved disagreement is a take-over or the Token given up
(`Dev.resolve_named`, `Dev.resolve_other`); the replayed inputs and the ports leave the slice of the twin link. -/
theorem twinLanesAndToken : Obligations.TwinLanesAndToken := by
  unfold Obligations.TwinLanesAndToken
  refine ⟨fun s hTwin hSt hAgree hDis hNamed => resolveNamed_step hTwin hSt hAgree hDis hNamed,
    fun s hTwin hSt hAgree hDis hNamed _ hSolo => resolveOther_step hTwin hSt hAgree hDis hNamed hSolo,
    fun s l => laneUp_step l, fun s l => laneDown_step l, fun s hTwin hOn => tokenRefresh_step hTwin hOn.1 hOn.2, fun s h => latchTimeout_step h,
    fun s a b => authPins_step a b, fun s => holdLimit_step, fun s off hTwin => selfTest_step off hTwin, ?_, ?_, fun s h => agreeing_step h⟩
  · rintro s hTwin hSt hLatch hAgree ⟨hA, hB⟩ hNamed ⟨hDis, hTurn, hSaid, hInputs, hQueue⟩ hBusy
    exact takeOver_step hTwin hSt hLatch hAgree hA hB hNamed hDis hTurn hSaid hInputs hQueue hBusy
  · rintro s hTwin hSt hLatch hPresent hAgree ⟨hA, hB⟩ hNamed ⟨hDis, hTurn, hSolo⟩
    exact giveUp_step hTwin hSt hLatch hPresent hAgree hA hB hNamed hDis hTurn hSolo

end Sys2Proof.Proofs
end

-- ==== Sitting: a brushless axis as it enters a state ====
section
/-! SUPPORT. What entering a state shows in BLD_AXa_IRQ_STATUS and leaves in source 26 (R271, R283). -/
open Sys2Proof Sys2Proof.Machine Sys2Proof.Claims
set_option maxRecDepth 20000

namespace Sys2Proof.Machine

section
variable {d e : Dev} {ps : List Part} {a : Nat}

theorem strobed_of_same {e f : Dev} {src d0 d1 : Nat} (h : strobed d e src d0 d1) (hStrobes : f.flt.strobes = e.flt.strobes)
    (hMerged : f.get (F.FLT_SRCi_STATE.merged src) = e.get (F.FLT_SRCi_STATE.merged src)) (hNow : f.now = e.now) : strobed d f src d0 d1 := by
  unfold strobed at h ⊢
  rwa [hNow, hMerged, hStrobes]

/-! ### The status bits of an axis (R283) -/

theorem axIrq_ne_pba (a : Nat) : (R.BLD_AXa_IRQ_STATUS a).off ≠ R.MSIX_PBA.off := by
  simp only [R.BLD_AXa_IRQ_STATUS, R.MSIX_PBA]
  omega

theorem axIrq_ne_status (a b : Nat) (h : (R.BLD_AXa_IRQ_STATUS a).off = (R.BLD_AXa_STATUS b).off) : False := by
  simp only [R.BLD_AXa_IRQ_STATUS, R.BLD_AXa_STATUS] at h
  omega

theorem Dev.irq_bldFlag_same {k : Nat} (hk : k < 32) : bit ((d.bldFlag a k).rd (R.BLD_AXa_IRQ_STATUS a)) k = true :=
  Dev.rd_flag_same _ _ _ _ _ (axIrq_ne_pba a) hk (by simp [R.BLD_AXa_IRQ_STATUS])

theorem Dev.irq_bldFlag_of_bit {j : Nat} (k : Nat) (hj : j < 32) (h : bit (d.rd (R.BLD_AXa_IRQ_STATUS a)) j = true) :
    bit ((d.bldFlag a k).rd (R.BLD_AXa_IRQ_STATUS a)) j = true :=
  Dev.bit_flag_of_bit _ _ _ (axIrq_ne_pba a) hj (by simp [R.BLD_AXa_IRQ_STATUS]) h

theorem Dev.rd_gateAll_axIrq (ha : a < 16) : d.gateAll.rd (R.BLD_AXa_IRQ_STATUS a) = d.rd (R.BLD_AXa_IRQ_STATUS a) :=
  Frame.rd (Frame.gateAll Frame.refl fun _ hp => hp) _ (bldReg_not_mem_gateAllParts (by simp only [R.BLD_AXa_IRQ_STATUS]; omega) (by simp only [R.BLD_AXa_IRQ_STATUS]; omega))

theorem Dev.irq_bldSpeedLost_of_bit {j : Nat} (ha : a < 16) (hj : j < 32) (h : bit (d.rd (R.BLD_AXa_IRQ_STATUS a)) j = true) :
    bit ((d.bldSpeedLost a).rd (R.BLD_AXa_IRQ_STATUS a)) j = true := by
  unfold Dev.bldSpeedLost
  extract_lets was slews x
  have hx : x.rd (R.BLD_AXa_IRQ_STATUS a) = d.rd (R.BLD_AXa_IRQ_STATUS a) := Dev.rd_put_ne _ _ _ _ (axIrq_ne_status a a)
  rw [← hx] at h
  split_ifs
  · rw [Dev.rd_gateAll_axIrq ha]
    exact Dev.irq_bldFlag_of_bit 3 hj h
  · exact h

theorem Dev.rd_setActive_axIrq (ha : a < 16) (b : Bool) : (d.setActive 26 b).rd (R.BLD_AXa_IRQ_STATUS a) = d.rd (R.BLD_AXa_IRQ_STATUS a) :=
  Dev.rd_setActive_ne _ _ _ _ (by simp only [R.BLD_AXa_IRQ_STATUS, R.FLT_SRCi_STATE]; omega) (by simp only [R.BLD_AXa_IRQ_STATUS, R.FLT_ACTIVE]; omega)

/-- Entering BUS_CUT shows bit 6, entering FAULT bit 5. -/
theorem Dev.irq_bldEnter {st : Nat} (ha : a < 16) (hst : st = 9 ∨ st = 10) :
    bit ((d.bldEnter a st).rd (R.BLD_AXa_IRQ_STATUS a)) (if st = 9 then 6 else 5) = true := by
  have hBit : (if st = 9 then 6 else 5) < 32 := by split_ifs <;> omega
  unfold Dev.bldEnter
  extract_lets was d1 d2 d3 d4 d5 d6 d7
  have h6 : bit (d6.rd (R.BLD_AXa_IRQ_STATUS a)) (if st = 9 then 6 else 5) = true := by
    rcases hst with hNine | hTen
    · simp only [d6, d5]
      rw [if_neg (by omega), if_pos hNine, if_pos hNine]
      exact Dev.irq_bldFlag_same (by decide)
    · simp only [d6]
      rw [if_pos hTen, if_neg (by omega)]
      exact Dev.irq_bldFlag_same (by decide)
  have h7 : bit (d7.rd (R.BLD_AXa_IRQ_STATUS a)) (if st = 9 then 6 else 5) = true := by
    have hSame : d7.rd (R.BLD_AXa_IRQ_STATUS a) = d6.rd (R.BLD_AXa_IRQ_STATUS a) := by
      simp only [d7, Dev.when]
      split_ifs
      · exact Dev.rd_setActive_axIrq ha _
      · rfl
    rw [hSame]
    exact h6
  rw [if_neg (by omega)]
  exact Dev.irq_bldSpeedLost_of_bit ha hBit h7

/-- A status bit that is set stays so when a state is entered. -/
theorem Dev.irq_bldEnter_of_bit {j : Nat} (st : Nat) (ha : a < 16) (hj : j < 32) (h : bit (d.rd (R.BLD_AXa_IRQ_STATUS a)) j = true) :
    bit ((d.bldEnter a st).rd (R.BLD_AXa_IRQ_STATUS a)) j = true := by
  unfold Dev.bldEnter
  extract_lets was d1 d2 d3 d4 d5 d6 d7
  have h4 : d4.rd (R.BLD_AXa_IRQ_STATUS a) = d.rd (R.BLD_AXa_IRQ_STATUS a) := by
    have h1 : d1.rd (R.BLD_AXa_IRQ_STATUS a) = d.rd (R.BLD_AXa_IRQ_STATUS a) := by
      simp only [d1, Dev.when]
      split_ifs <;> rfl
    exact (Dev.rd_put_ne _ _ _ _ (axIrq_ne_status a a)).trans ((Dev.rd_put_ne d1 _ _ _ (axIrq_ne_status a a)).trans h1)
  have h5 : bit (d5.rd (R.BLD_AXa_IRQ_STATUS a)) j = true := by
    rw [← h4] at h
    simp only [d5]
    split_ifs
    exacts [Dev.irq_bldFlag_of_bit 6 hj h, h]
  have h6 : bit (d6.rd (R.BLD_AXa_IRQ_STATUS a)) j = true := by
    simp only [d6]
    split_ifs
    exacts [Dev.irq_bldFlag_of_bit 5 hj h5, h5]
  have h7 : bit (d7.rd (R.BLD_AXa_IRQ_STATUS a)) j = true := by
    simp only [d7, Dev.when]
    split_ifs
    · rw [Dev.rd_setActive_axIrq ha]
      exact h6
    · exact h6
  split_ifs
  · exact h7
  · exact Dev.irq_bldSpeedLost_of_bit ha hj h7

/-! ### Source 26 as a state is entered (R282) -/

theorem Dev.get_setActive_merged (i : Nat) (b : Bool) : (d.setActive i b).get (F.FLT_SRCi_STATE.merged i) = d.get (F.FLT_SRCi_STATE.merged i) := by
  unfold Dev.setActive
  extract_lets was q e f
  have hQuiet : e.get (F.FLT_SRCi_STATE.merged i) = d.get (F.FLT_SRCi_STATE.merged i) := by
    simp only [e]
    split_ifs <;> rfl
  have hPut : f.get (F.FLT_SRCi_STATE.merged i) = d.get (F.FLT_SRCi_STATE.merged i) :=
    (Dev.get_put_other e (F.FLT_SRCi_STATE.active i) (F.FLT_SRCi_STATE.merged i) _ rfl rfl rfl rfl).trans hQuiet
  split_ifs
  · refine (Dev.get_put_ne _ _ _ _ ?_).trans hPut
    simp only [F.FLT_SRCi_STATE.merged, F.FLT_ACTIVE.active, R.FLT_SRCi_STATE, R.FLT_ACTIVE]
    omega
  · exact hPut

theorem Dev.get_bldEnter_merged (ha : a < 16) (st : Nat) : (d.bldEnter a st).get (F.FLT_SRCi_STATE.merged 26) = d.get (F.FLT_SRCi_STATE.merged 26) := by
  have hNot : Part.reg (R.FLT_SRCi_STATE 26).off ∉ axParts a := reg_not_mem_axParts ha (by decide) (by decide)
  have hBld : Part.bld a ∈ axParts a := by simp [axParts]
  have hStatus : Part.reg (R.BLD_AXa_STATUS a).off ∈ axParts a := by simp [axParts]
  have hIrq : Part.reg (R.BLD_AXa_IRQ_STATUS a).off ∈ axParts a := by simp [axParts]
  have hPost : ∀ p ∈ irqParts, p ∈ axParts a := fun p hp => by
    simp only [axParts, List.mem_append]
    exact .inr (List.mem_flatMap.2 ⟨0, by simp, by simp [gateParts, hp]⟩)
  unfold Dev.bldEnter
  extract_lets was d1 d2 d3 d4 d5 d6 d7
  have h4 : Dev.Frame (axParts a) d d4 :=
    Frame.put (Frame.modBld (Frame.put (Frame.when Frame.refl (Frame.modBld Frame.refl a _ hBld)) _ _ hStatus) a _ hBld) _ _ hStatus
  have h6 : Dev.Frame (axParts a) d d6 :=
    Frame.ite (Frame.flag (Frame.ite (Frame.flag h4 _ _ _ _ hIrq hPost) h4) _ _ _ _ hIrq hPost) (Frame.ite (Frame.flag h4 _ _ _ _ hIrq hPost) h4)
  have h7 : d7.get (F.FLT_SRCi_STATE.merged 26) = d.get (F.FLT_SRCi_STATE.merged 26) := by
    have hMerged := Frame.get h6 (F.FLT_SRCi_STATE.merged 26) hNot
    simp only [d7, Dev.when]
    split_ifs
    · rw [Dev.get_setActive_merged]
      exact hMerged
    · exact hMerged
  split_ifs
  · exact h7
  · exact (Frame.get (Frame.bldSpeedLost Frame.refl a fun _ hp => hp) _ hNot).trans h7

theorem Dev.forced_bldEnter (st : Nat) : ((d.bldEnter a st).bldS a).forced = (d.bldS a).forced := by
  have h := congrArg BldAx.forced (d.course_bldEnter a st)
  exact h
theorem Dev.forcedTh_bldEnter (st : Nat) : ((d.bldEnter a st).bldS a).forcedTh = (d.bldS a).forcedTh := by
  have h := congrArg BldAx.forcedTh (d.course_bldEnter a st)
  exact h
theorem Dev.restarts_bldEnter (st : Nat) : ((d.bldEnter a st).bldS a).restarts = (d.bldS a).restarts := by
  have h := congrArg BldAx.restarts (d.course_bldEnter a st)
  exact h

/-- An axis in FAULT holds source 26 active. -/
theorem Dev.active_bldEnter_fault (ha : a < 16) : (d.bldEnter a 10).on (F.FLT_SRCi_STATE.active 26) = true := by
  rw [Dev.on_active_bldEnter d ha 10 (.inl rfl), List.any_eq_true]
  exact ⟨a, List.mem_range.2 ha, by rw [Dev.bldState_bldEnter d ha (by decide)]; rfl⟩

/-- Entering FAULT shows it: the state, bit 5 and source 26. -/
theorem Dev.bldEnter_fault (ha : a < 16) : (d.bldEnter a 10).bldState a = 10 ∧ (d.bldEnter a 10).on (F.FLT_SRCi_STATE.active 26) = true ∧
    bit ((d.bldEnter a 10).rd (R.BLD_AXa_IRQ_STATUS a)) 5 = true :=
  ⟨Dev.bldState_bldEnter d ha (by decide), Dev.active_bldEnter_fault ha, Dev.irq_bldEnter ha (.inr rfl)⟩

/-- Time and the strobes that wait stay as a state is entered. -/
theorem Dev.kept_bldEnter (ha : a < 16) (st : Nat) : (d.bldEnter a st).sys.now8 = d.sys.now8 ∧ (d.bldEnter a st).flt.strobes = d.flt.strobes ∧ (d.bldEnter a st).now = d.now := by
  have hFrame : Dev.Frame (axParts a ++ activeParts 26) d (d.bldEnter a st) := Frame.bldEnter Frame.refl a st (by simp +contextual) (by simp +contextual)
  refine ⟨hFrame Part.clock ?_, hFrame Part.strobes ?_, Frame.rd hFrame _ ?_⟩
  · simp [axParts, gateAllParts, gateParts, irqParts, activeParts]
  · simp [axParts, gateAllParts, gateParts, irqParts, activeParts]
  · simp only [List.mem_append, not_or]
    exact ⟨reg_not_mem_axParts ha (by decide) (by decide), by simp [activeParts]; decide⟩

theorem strobed_bldEnter {c : Dev} {d0 d1 : Nat} (ha : a < 16) (st : Nat) (h : strobed c d 26 d0 d1) : strobed c (d.bldEnter a st) 26 d0 d1 := by
  obtain ⟨-, hStrobes, hNow⟩ := Dev.kept_bldEnter (d := d) ha st
  exact strobed_of_same h hStrobes (Dev.get_bldEnter_merged ha st) hNow

end

end Sys2Proof.Machine
end

-- ==== Sitting: the time-outs of a brushless start ====
section
/-! PROOF. The time-outs of a brushless start (O36). -/
open Sys2Proof Sys2Proof.Machine Sys2Proof.Claims
set_option maxRecDepth 20000

namespace Sys2Proof.Proofs

/-! ### The time-outs of a start (R271-R273) -/

section
variable {s : State}

/-- What waiting leaves of an axis. -/
theorem waited (d : Dev) (a t : Nat) : Dev.Frame timeParts d (d.advance8To t) ∧ (d.advance8To t).bldS a = d.bldS a ∧ (d.advance8To t).bldState a = d.bldState a ∧
    (d.advance8To t).sys.now8 = max d.sys.now8 t := by
  have hTime : Dev.Frame timeParts d (d.advance8To t) := Frame.advance8To Frame.refl _ fun _ h => h
  refine ⟨hTime, hTime (Part.bld a) (by simp [timeParts]), Frame.get hTime _ ?_, Dev.now8_advance8To _ _⟩
  simp only [timeParts, F.BLD_AXa_STATUS.state, R.BLD_AXa_STATUS, R.EVT_TIME, R.SYS_SECONDS, List.mem_cons, List.not_mem_nil, or_false, Part.reg.injEq, reduceCtorEq, false_or]
  omega

/-- Entering a state after a wait, from one that is not FAULT. -/
theorem frame_entered {d e : Dev} {a st : Nat} (h : Dev.Frame (axParts a ++ timeParts) d e) (hst : st ≠ 10) (hState : e.bldState a ≠ 10) :
    Dev.Frame (axParts a ++ timeParts) d (e.bldEnter a st) :=
  Frame.bldEnter h a st (by simp +contextual) fun hFault => by omega

theorem frame_waited (a : Nat) {d e : Dev} (h : Dev.Frame timeParts d e) : Dev.Frame (axParts a ++ timeParts) d e := Frame.mono h (by simp +contextual)

theorem catchTimeout_step (a : Fin 16) (hState : s.dev.bldState a = 3) : Completes (exec (.catchTimeout a) s) fun t =>
    if (s.dev.bldS a).seenE = true then t = s
    else t.dev.sys.now8 = max s.dev.sys.now8 ((s.dev.bldS a).since + 2500000) ∧ t.dev.bldState a = 5 ∧ (t.dev.bldS a).since = t.dev.sys.now8 ∧ s.Frame (axParts a ++ timeParts) t := by
  refine completes_onDev (fun d => d.bldCatchTimeout a) rfl ?_
  have ha := a.isLt
  by_cases hSeen : (s.dev.bldS a).seenE = true
  · rw [if_pos hSeen, Dev.bldCatchTimeout, if_pos (by simp [hSeen])]
  · rw [if_neg hSeen, Dev.bldCatchTimeout, if_neg (by simp [hState, hSeen])]
    obtain ⟨hTime, -, hStill, hNow⟩ := waited s.dev a ((s.dev.bldS a).since + 2500000)
    generalize s.dev.advance8To ((s.dev.bldS a).since + 2500000) = e at *
    obtain ⟨hClock, -, -⟩ := Dev.kept_bldEnter (d := e) ha 5
    exact ⟨hClock.trans hNow, Dev.bldState_bldEnter e ha (by decide), (Dev.since_bldEnter e a 5).trans hClock.symm,
      Frame.ofDev (frame_entered (frame_waited a hTime) (by decide) (by omega))⟩

theorem alignDone_step (a : Fin 16) (hState : s.dev.bldState a = 5) : Completes (exec (.alignDone a) s) fun t =>
    t.dev.sys.now8 = max s.dev.sys.now8 ((s.dev.bldS a).since + max 1 (s.dev.ga (F.BLD_AXa_START3.align_ms a)) * 500000) ∧ t.dev.bldState a = 6 ∧ (t.dev.bldS a).forced = 0 ∧ (t.dev.bldS a).forcedTh = 0 ∧
    s.Frame (axParts a ++ timeParts) t := by
  refine completes_onDev (fun d => d.bldAlignDone a) rfl ?_
  have ha := a.isLt
  rw [Dev.bldAlignDone, if_neg (by simp [hState])]
  dsimp only
  obtain ⟨hTime, -, hStill, hNow⟩ := waited s.dev a ((s.dev.bldS a).since + max 1 (s.dev.ga (F.BLD_AXa_START3.align_ms a)) * 500000)
  generalize s.dev.advance8To ((s.dev.bldS a).since + max 1 (s.dev.ga (F.BLD_AXa_START3.align_ms a)) * 500000) = e at *
  have hForced := Dev.bldS_modBld e a fun x => { x with forced := 0, forcedTh := 0 }
  have hFrame : Dev.Frame (axParts a ++ timeParts) s.dev (e.modBld a fun x => { x with forced := 0, forcedTh := 0 }) :=
    Frame.modBld (frame_waited a hTime) a _ (by simp [axParts])
  have hKeeps : (e.modBld a fun x => { x with forced := 0, forcedTh := 0 }).bldState a = e.bldState a := Dev.bldState_modBld e a _ a
  have hClock8 : (e.modBld a fun x => { x with forced := 0, forcedTh := 0 }).sys = e.sys := Dev.sys_modBld e a _
  generalize (e.modBld a fun x => { x with forced := 0, forcedTh := 0 }) = f at *
  obtain ⟨hClock, -, -⟩ := Dev.kept_bldEnter (d := f) ha 6
  refine ⟨hClock.trans (by rw [hClock8, hNow]), Dev.bldState_bldEnter f ha (by decide), ?_, ?_, Frame.ofDev (frame_entered hFrame (by decide) (by omega))⟩
  · rw [Dev.forced_bldEnter, hForced]
  · rw [Dev.forcedTh_bldEnter, hForced]

/-- What a start that has failed changes. -/
abbrev failedParts (a : Nat) : List Part := [Part.reg (R.BLD_AXa_COUNTS a).off] ++ axParts a ++ strobeParts 26 ++ activeParts 26 ++ timeParts

theorem counts_not_mem_timeParts (a : Nat) : Part.reg (R.BLD_AXa_COUNTS a).off ∉ timeParts := by
  simp only [timeParts, R.BLD_AXa_COUNTS, R.EVT_TIME, R.SYS_SECONDS, List.mem_cons, List.not_mem_nil, or_false, Part.reg.injEq, reduceCtorEq, false_or]
  omega

theorem counts_ne_status (a : Nat) : (R.BLD_AXa_STATUS a).off ≠ (R.BLD_AXa_COUNTS a).off := by
  simp only [R.BLD_AXa_STATUS, R.BLD_AXa_COUNTS]
  omega

theorem counts_ne_fault (a : Fin 16) : (R.FLT_SRCi_STATE 26).off ≠ (R.BLD_AXa_COUNTS a).off := by
  simp only [R.FLT_SRCi_STATE, R.BLD_AXa_COUNTS]
  omega

theorem counts_not_mem_strobe (a : Fin 16) : Part.reg (R.BLD_AXa_COUNTS a).off ∉ strobeParts 26 := by
  simp only [strobeParts, R.BLD_AXa_COUNTS, R.FLT_SRCi_STATE, List.mem_cons, List.not_mem_nil, or_false, Part.reg.injEq, reduceCtorEq, false_or]
  omega

theorem counts_not_mem_enter (a : Fin 16) : Part.reg (R.BLD_AXa_COUNTS a).off ∉ axParts a ++ activeParts 26 := by
  simp [axParts, gateAllParts, gateParts, irqParts, activeParts, R.BLD_AXa_COUNTS, R.BLD_AXa_STATUS, R.BLD_AXa_IRQ_STATUS, R.BLD_AXa_REMAIN,
    R.CHn_FGT_STATUS, R.CHn_FGT_COUNTS, R.CHn_FGT_IRQ_STATUS, R.MSIX_PBA, R.FLT_ACTIVE, R.FLT_SRCi_STATE]
  exact ⟨fun n hn => by omega, by omega, by omega⟩

theorem rampTimeout_step (a : Fin 16) (hState : s.dev.bldState a = 6) : Completes (exec (.rampTimeout a) s) fun t =>
    let now := max s.dev.sys.now8 ((s.dev.bldS a).since + 187500000 * s.dev.ga (F.BLD_AXa_START2.handover_rpm a) / max 1 (10 * s.dev.ga (F.BLD_AXa_START3.ramp_rate a)))
    let n := (s.dev.bldS a).tries
    t.dev.sys.now8 = now ∧ t.dev.get (F.BLD_AXa_COUNTS.start_fail a) = min (s.dev.get (F.BLD_AXa_COUNTS.start_fail a) + 1) (2 ^ 8 - 1) ∧
    (if s.dev.ga (F.BLD_AXa_START3.start_retries a) ≤ n then t.dev.bldState a = 10 ∧ t.dev.on (F.FLT_SRCi_STATE.active 26) = true ∧ bit (t.dev.rd (R.BLD_AXa_IRQ_STATUS a)) 5 = true ∧
      (strobed s.dev t.dev 26 (0x30 * 2 ^ 24 + a.val * 2 ^ 16 + n % 65536) (enc 32 (openDiv 2 (s.dev.bldS a).forced 1000000000)))
    else t.dev.bldState a = 1 ∧ (t.dev.bldS a).restartAt = now + 12500001 ∧ (t.dev.bldS a).tries = n + 1 ∧ t.dev.flt.strobes = s.dev.flt.strobes) ∧
    s.Frame (failedParts a) t := by
  refine completes_onDev (fun d => d.bldRampTimeout a) rfl ?_
  have ha := a.isLt
  rw [Dev.bldRampTimeout, if_neg (by simp [hState])]
  dsimp only
  generalize (s.dev.bldS a).since + 187500000 * s.dev.ga (F.BLD_AXa_START2.handover_rpm a) / max 1 (10 * s.dev.ga (F.BLD_AXa_START3.ramp_rate a)) = at8
  obtain ⟨hTime, hAxis, hStill, hNow⟩ := waited s.dev a at8
  have hRetries : (s.dev.advance8To at8).ga (F.BLD_AXa_START3.start_retries a) = s.dev.ga (F.BLD_AXa_START3.start_retries a) := by
    rw [Dev.ga, Dev.act, Dev.advance8To_active, Dev.ga, Dev.act]
  generalize s.dev.advance8To at8 = e at *
  have hCounted : Dev.Frame (failedParts a) s.dev (e.count (F.BLD_AXa_COUNTS.start_fail a)) :=
    Frame.count (Frame.mono hTime (by simp +contextual [failedParts])) _ _ (by simp [failedParts, F.BLD_AXa_COUNTS.start_fail])
  have hCount : (e.count (F.BLD_AXa_COUNTS.start_fail a)).get (F.BLD_AXa_COUNTS.start_fail a) = min (s.dev.get (F.BLD_AXa_COUNTS.start_fail a) + 1) (2 ^ 8 - 1) := by
    rw [Dev.get_count_same _ _ _ rfl, Frame.get hTime _ (counts_not_mem_timeParts a)]
    rfl
  have hState' : (e.count (F.BLD_AXa_COUNTS.start_fail a)).bldState a ≠ 10 := by
    rw [Dev.bldState, Dev.count, Dev.get_put_ne _ _ _ _ (counts_ne_status a), ← Dev.bldState, hStill, hState]
    decide
  have hKept : (e.count (F.BLD_AXa_COUNTS.start_fail a)).sys.now8 = max s.dev.sys.now8 at8 := by rw [Dev.count_sys, hNow]
  have hRetries' : (e.count (F.BLD_AXa_COUNTS.start_fail a)).ga (F.BLD_AXa_START3.start_retries a) = s.dev.ga (F.BLD_AXa_START3.start_retries a) := hRetries
  have hAxis' : (e.count (F.BLD_AXa_COUNTS.start_fail a)).bldS a = s.dev.bldS a := hAxis
  have hQuiet : (e.count (F.BLD_AXa_COUNTS.start_fail a)).flt.strobes = s.dev.flt.strobes := hTime Part.strobes (by decide)
  have hMerged : (e.count (F.BLD_AXa_COUNTS.start_fail a)).get (F.FLT_SRCi_STATE.merged 26) = s.dev.get (F.FLT_SRCi_STATE.merged 26) := by
    rw [Dev.count, Dev.get_put_ne _ _ _ _ (counts_ne_fault a), Frame.get hTime _ (by decide)]
  generalize e.count (F.BLD_AXa_COUNTS.start_fail a) = f at *
  rw [hRetries', ← hKept]
  by_cases hOver : s.dev.ga (F.BLD_AXa_START3.start_retries a) ≤ (s.dev.bldS a).tries
  · rw [if_pos hOver, if_pos hOver]
    have hReport := Frame.report (ps := strobeParts 26) (d := f) Frame.refl 26 (0x30 <<< 24 + a.val <<< 16 + (s.dev.bldS a).tries % 65536)
      (enc 32 (openDiv 2 (s.dev.bldS a).forced 1000000000)) (by simp [strobeParts]) (by simp [strobeParts])
    have hStrobed : strobed s.dev (f.report 26 (0x30 <<< 24 + a.val <<< 16 + (s.dev.bldS a).tries % 65536) (enc 32 (openDiv 2 (s.dev.bldS a).forced 1000000000)))
        26 (0x30 * 2 ^ 24 + a.val * 2 ^ 16 + (s.dev.bldS a).tries % 65536) (enc 32 (openDiv 2 (s.dev.bldS a).forced 1000000000)) := by
      have hCode : 0x30 <<< 24 + a.val <<< 16 + (s.dev.bldS a).tries % 65536 = 0x30 * 2 ^ 24 + a.val * 2 ^ 16 + (s.dev.bldS a).tries % 65536 := by omega
      rw [← hCode]
      exact Dev.strobed_report _ _ hQuiet hMerged
    rw [Dev.bldReport]
    generalize f.report 26 (0x30 <<< 24 + a.val <<< 16 + (s.dev.bldS a).tries % 65536) (enc 32 (openDiv 2 (s.dev.bldS a).forced 1000000000)) = g at *
    obtain ⟨hFault, hActive, hIrq⟩ := Dev.bldEnter_fault (d := g) ha
    obtain ⟨hClock, -, -⟩ := Dev.kept_bldEnter (d := g) ha 10
    have hAll : Dev.Frame (failedParts a) s.dev (g.bldEnter a 10) :=
      Frame.bldEnter (Frame.trans hCounted (Frame.mono hReport (by simp +contextual [failedParts]))) a 10 (by simp +contextual [failedParts]) (by simp +contextual [failedParts])
    have hEnter : Dev.Frame (axParts a ++ activeParts 26) g (g.bldEnter a 10) := Frame.bldEnter Frame.refl a 10 (by simp +contextual) (by simp +contextual)
    refine ⟨hClock.trans (hReport Part.clock (by decide)), ?_, ⟨hFault, hActive, hIrq, strobed_bldEnter ha 10 hStrobed⟩, Frame.ofDev hAll⟩
    rw [Frame.get hEnter _ (counts_not_mem_enter a), Frame.get hReport _ (counts_not_mem_strobe a), hCount]
  · rw [if_neg hOver, if_neg hOver]
    have hTry := Dev.bldS_modBld f a fun x => { x with tries := x.tries + 1, restartAt := f.sys.now8 + 12500001 }
    have hMod : Dev.Frame [Part.bld a] f (f.modBld a fun x => { x with tries := x.tries + 1, restartAt := f.sys.now8 + 12500001 }) := Frame.modBld Frame.refl a _ (by simp)
    have hKeeps : (f.modBld a fun x => { x with tries := x.tries + 1, restartAt := f.sys.now8 + 12500001 }).bldState a = f.bldState a := Dev.bldState_modBld f a _ a
    generalize (f.modBld a fun x => { x with tries := x.tries + 1, restartAt := f.sys.now8 + 12500001 }) = g at *
    obtain ⟨hClock, hStrobes, -⟩ := Dev.kept_bldEnter (d := g) ha 1
    have hAll : Dev.Frame (failedParts a) s.dev (g.bldEnter a 1) :=
      Frame.bldEnter (Frame.trans hCounted (Frame.mono hMod (by simp [failedParts, axParts]))) a 1 (by simp +contextual [failedParts]) (by omega)
    have hEnter : Dev.Frame (axParts a ++ activeParts 26) g (g.bldEnter a 1) := Frame.bldEnter Frame.refl a 1 (by simp +contextual) (by simp +contextual)
    refine ⟨hClock.trans (hMod Part.clock (by simp)), ?_, ⟨Dev.bldState_bldEnter g ha (by decide), ?_, ?_, hStrobes.trans ((hMod Part.strobes (by simp)).trans hQuiet)⟩, Frame.ofDev hAll⟩
    · rw [Frame.get hEnter _ (counts_not_mem_enter a), Frame.get hMod _ (by simp), hCount]
    · rw [Dev.restartAt_bldEnter, hTry]
    · rw [Dev.tries_bldEnter, hTry, hAxis']

/-- Restarts that count now count still when one more is added. -/
theorem recent_append (now : Nat) (l : List Nat) : recent now (recent now l ++ [now]) = recent now l ++ [now] := by
  simp [recent, List.filter_append]

theorem restartDelay_step (a : Fin 16) (hDue : (s.dev.bldS a).restartAt ≠ 0) (hState : s.dev.bldState a = 1) : Completes (exec (.restartDelay a) s) fun t =>
    let now := max s.dev.sys.now8 ((s.dev.bldS a).restartAt - 1)
    let rs := recent now (s.dev.bldS a).restarts
    t.dev.sys.now8 = now ∧ (t.dev.bldS a).restartAt = 0 ∧
    (if (s.dev.bldS a).tries ≠ 0 then t.dev.bldState a = 3 ∧ (t.dev.bldS a).restarts = (s.dev.bldS a).restarts
    else if s.dev.ga (F.BLD_AXa_START3.start_retries a) ≤ rs.length then t.dev.bldState a = 10 ∧ t.dev.on (F.FLT_SRCi_STATE.active 26) = true ∧ bit (t.dev.rd (R.BLD_AXa_IRQ_STATUS a)) 5 = true
    else t.dev.bldState a = 3 ∧ (t.dev.bldS a).restarts = rs ++ [now] ∧ t.dev.bldRestarts a = min 7 (rs.length + 1)) ∧ s.Frame (axParts a ++ activeParts 26 ++ timeParts) t := by
  refine completes_onDev (fun d => d.bldRestart a) rfl ?_
  have ha := a.isLt
  rw [Dev.bldRestart, if_neg (by simp [hDue, hState])]
  dsimp only
  obtain ⟨hTime, hAxis, hStill, hNow⟩ := waited s.dev a ((s.dev.bldS a).restartAt - 1)
  have hRetries : (s.dev.advance8To ((s.dev.bldS a).restartAt - 1)).ga (F.BLD_AXa_START3.start_retries a) = s.dev.ga (F.BLD_AXa_START3.start_retries a) := by
    rw [Dev.ga, Dev.act, Dev.advance8To_active, Dev.ga, Dev.act]
  generalize s.dev.advance8To ((s.dev.bldS a).restartAt - 1) = e at *
  rw [← hNow]
  generalize hRecent : recent e.sys.now8 (s.dev.bldS a).restarts = rs
  have hWait : Dev.Frame (axParts a ++ activeParts 26 ++ timeParts) s.dev e := Frame.mono hTime (by simp +contextual)
  have hMod (u : BldAx → BldAx) : Dev.Frame (axParts a ++ activeParts 26 ++ timeParts) s.dev (e.modBld a u) := Frame.modBld hWait a u (by simp [axParts])
  have hEnter (u : BldAx → BldAx) (st : Nat) : Dev.Frame (axParts a ++ activeParts 26 ++ timeParts) s.dev ((e.modBld a u).bldEnter a st) :=
    Frame.bldEnter (hMod u) a st (by simp +contextual) (by simp +contextual)
  have hClock (u : BldAx → BldAx) (st : Nat) : ((e.modBld a u).bldEnter a st).sys.now8 = e.sys.now8 := by
    rw [(Dev.kept_bldEnter ha st).1, Dev.sys_modBld]
  by_cases hTries : (s.dev.bldS a).tries ≠ 0
  · rw [if_pos hTries, if_pos hTries]
    refine ⟨hClock _ _, ?_, ⟨Dev.bldState_bldEnter _ ha (by decide), ?_⟩, Frame.ofDev (hEnter _ _)⟩
    · rw [Dev.restartAt_bldEnter, Dev.bldS_modBld]
    · rw [Dev.restarts_bldEnter, Dev.bldS_modBld, hAxis]
  rw [if_neg hTries, if_neg hTries, hRetries]
  by_cases hOver : s.dev.ga (F.BLD_AXa_START3.start_retries a) ≤ rs.length
  · rw [if_pos hOver, if_pos hOver]
    refine ⟨hClock _ _, ?_, Dev.bldEnter_fault ha, Frame.ofDev (hEnter _ _)⟩
    rw [Dev.restartAt_bldEnter, Dev.bldS_modBld]
  · rw [if_neg hOver, if_neg hOver]
    refine ⟨hClock _ _, ?_, ⟨Dev.bldState_bldEnter _ ha (by decide), ?_, ?_⟩, Frame.ofDev (hEnter _ _)⟩
    · rw [Dev.restartAt_bldEnter, Dev.bldS_modBld]
    · rw [Dev.restarts_bldEnter, Dev.bldS_modBld]
    · rw [Dev.bldRestarts, hClock, Dev.restarts_bldEnter, Dev.bldS_modBld]
      dsimp only
      rw [← hRecent, recent_append, List.length_append]
      rfl

theorem brakeTimeout_step (a : Fin 16) (hState : s.dev.bldState a = 4) : Completes (exec (.brakeTimeout a) s) fun t =>
    t.dev.sys.now8 = max s.dev.sys.now8 ((s.dev.bldS a).since + max 1 (s.dev.ga (F.BLD_AXa_START3.brake_max a)) * 12500000) ∧ t.dev.bldState a = 10 ∧ t.dev.on (F.FLT_SRCi_STATE.active 26) = true ∧ bit (t.dev.rd (R.BLD_AXa_IRQ_STATUS a)) 5 = true ∧
    strobed s.dev t.dev 26 (0x34 * 2 ^ 24 + a.val * 2 ^ 16) (enc 32 (s.dev.bldS a).obs.omega) ∧ s.Frame (axParts a ++ strobeParts 26 ++ activeParts 26 ++ timeParts) t := by
  refine completes_onDev (fun d => d.bldBrakeTimeout a) rfl ?_
  have ha := a.isLt
  rw [Dev.bldBrakeTimeout, if_neg (by simp [hState])]
  dsimp only
  generalize (s.dev.bldS a).since + max 1 (s.dev.ga (F.BLD_AXa_START3.brake_max a)) * 12500000 = at8
  obtain ⟨hTime, hAxis, -, hNow⟩ := waited s.dev a at8
  generalize s.dev.advance8To at8 = e at *
  have hReport := Frame.report (ps := strobeParts 26) (d := e) Frame.refl 26 (0x34 <<< 24 + a.val <<< 16 + 0 % 65536) (enc 32 (s.dev.bldS a).obs.omega)
    (by simp [strobeParts]) (by simp [strobeParts])
  have hStrobed : strobed s.dev (e.report 26 (0x34 <<< 24 + a.val <<< 16 + 0 % 65536) (enc 32 (s.dev.bldS a).obs.omega)) 26 (0x34 * 2 ^ 24 + a.val * 2 ^ 16)
      (enc 32 (s.dev.bldS a).obs.omega) := by
    have hCode : 0x34 <<< 24 + a.val <<< 16 + 0 % 65536 = 0x34 * 2 ^ 24 + a.val * 2 ^ 16 := by omega
    rw [← hCode]
    exact Dev.strobed_report _ _ (hTime Part.strobes (by decide)) (Frame.get hTime _ (by decide))
  rw [hAxis, Dev.bldReport]
  generalize e.report 26 (0x34 <<< 24 + a.val <<< 16 + 0 % 65536) (enc 32 (s.dev.bldS a).obs.omega) = f at *
  obtain ⟨hFault, hActive, hIrq⟩ := Dev.bldEnter_fault (d := f) ha
  refine ⟨(Dev.kept_bldEnter ha 10).1.trans ((hReport Part.clock (by decide)).trans hNow), hFault, hActive, hIrq, strobed_bldEnter ha 10 hStrobed, Frame.ofDev ?_⟩
  exact Frame.bldEnter (Frame.trans (Frame.mono hTime (by simp +contextual)) (Frame.mono hReport (by simp +contextual))) a 10 (by simp +contextual) (by simp +contextual)

theorem startTimeouts_elsewhere (a : Fin 16) (hState : s.dev.bldState a = 0 ∨ s.dev.bldState a = 7) (hSlew : s.dev.on (F.BLD_AXa_STATUS.slewing a) = false) :
    Completes (exec (.catchTimeout a) s) (fun t => t = s) ∧ Completes (exec (.alignDone a) s) (fun t => t = s) ∧ Completes (exec (.rampTimeout a) s) (fun t => t = s) ∧
      Completes (exec (.restartDelay a) s) (fun t => t = s) ∧ Completes (exec (.brakeTimeout a) s) (fun t => t = s) ∧ Completes (exec (.slewDone a) s) (fun t => t = s) := by
  have hNot (n : Nat) (hn : n ≠ 0) (h7 : n ≠ 7) : s.dev.bldState a ≠ n := by omega
  refine ⟨completes_onDev (fun d => d.bldCatchTimeout a) rfl ?_, completes_onDev (fun d => d.bldAlignDone a) rfl ?_, completes_onDev (fun d => d.bldRampTimeout a) rfl ?_,
    completes_onDev (fun d => d.bldRestart a) rfl ?_, completes_onDev (fun d => d.bldBrakeTimeout a) rfl ?_, completes_onDev (fun d => d.slewDone a) rfl ?_⟩
  · rw [Dev.bldCatchTimeout, if_pos (by simp [hNot 3])]
  · rw [Dev.bldAlignDone, if_pos (hNot 5 (by decide) (by decide))]
  · rw [Dev.bldRampTimeout, if_pos (hNot 6 (by decide) (by decide))]
  · rw [Dev.bldRestart, if_pos (by simp [hNot 1])]
  · rw [Dev.bldBrakeTimeout, if_pos (hNot 4 (by decide) (by decide))]
  · rw [Dev.slewDone, if_pos (by simp [hSlew])]

end

/-- Settles O36: each time-out waits, writes what its row of R271 says and enters the next state (`Dev.bldEnter`). -/
theorem brushlessStart : Obligations.BrushlessStart := by
  unfold Obligations.BrushlessStart
  exact ⟨fun s a h => catchTimeout_step a h, fun s a h => alignDone_step a h, fun s a h => rampTimeout_step a h, fun s a hDue h => restartDelay_step a hDue h,
    fun s a h => brakeTimeout_step a h, fun s a h hSlew => startTimeouts_elsewhere a h hSlew⟩

end Sys2Proof.Proofs
end

-- ==== Sitting: the two DC buses, what a cut does to an axis (O38) ====
section
/-! SUPPORT. The two DC buses: their status, source 38, and what a cut does to the axes of a bus (R280, R281). -/
open Sys2Proof Sys2Proof.Machine Sys2Proof.Claims
set_option maxRecDepth 20000

namespace Sys2Proof.Machine

section
variable {d e : Dev} {ps : List Part}

/-- Doing something for each element of a list, seen from one of its elements. -/
theorem Dev.each_at {α : Type} {l : List α} {x : α} (f : Dev → α → Dev) (h : x ∈ l) (hNodup : l.Nodup) :
    ∃ l1 l2, d.each l f = (f (d.each l1 f) x).each l2 f ∧ (∀ y ∈ l1, y ∈ l ∧ y ≠ x) ∧ ∀ y ∈ l2, y ∈ l ∧ y ≠ x := by
  obtain ⟨l1, l2, rfl⟩ := List.append_of_mem h
  refine ⟨l1, l2, by rw [Dev.each, List.foldl_append]; rfl, fun y hy => ⟨by simp [hy], ?_⟩, fun y hy => ⟨by simp [hy], ?_⟩⟩
  · rintro rfl
    exact (List.nodup_append.1 hNodup).2.2 _ hy _ (by simp) rfl
  · rintro rfl
    exact (List.nodup_cons.1 (List.nodup_append.1 hNodup).2.1).1 hy

/-- A frame of each step is one of them all. -/
theorem Dev.frame_each {α : Type} (l : List α) (f : Dev → α → Dev) (parts : α → List Part) (hf : ∀ x, ∀ y ∈ l, Dev.Frame (parts y) x (f x y)) :
    Dev.Frame (l.flatMap parts) d (d.each l f) :=
  Frame.each l f (fun x y hy => Frame.mono (hf x y hy) fun _ hp => List.mem_flatMap.2 ⟨y, hy, hp⟩) Frame.refl

/-- What every step keeps, they all keep. -/
theorem Dev.each_keeps {α : Type} {P : Dev → Prop} (l : List α) (f : Dev → α → Dev) (hf : ∀ x, ∀ y ∈ l, P x → P (f x y)) (h : P d) : P (d.each l f) := by
  unfold Dev.each
  induction l generalizing d with
  | nil => exact h
  | cons y l ih => exact ih (fun x z hz => hf x z (by simp [hz])) (hf d y (by simp) h)

/-! ### Entering a state whose current loop goes on (R272) -/

/-- A current loop that goes on keeps its compare values and integrals. -/
theorem Dev.loop_bldEnter (a st : Nat) (h : bldLoops (d.bldState a) = true) :
    ((d.bldEnter a st).bldS a).cmp = (d.bldS a).cmp ∧ ((d.bldEnter a st).bldS a).intQ = (d.bldS a).intQ := by
  unfold Dev.bldEnter
  extract_lets was d1 d2 d3 d4 d5 d6 d7
  have h1 : d1 = d := by simp [d1, Dev.when, was, h]
  have h3 : d3.bldS a = { (d.bldS a).noPhase with since := d2.sys.now8, stN := 0, hoN := 0, losN := 0, seenE := false } := by
    simp only [d3, d2, h1, Dev.bldS_modBld, Dev.bldS_put]
  have h7 : d7.bldS a = d3.bldS a := by
    simp only [d7, d6, d5, d4, Dev.when]
    split_ifs <;> simp
  have hLost (x : Dev) : ((x.bldSpeedLost a).bldS a).cmp = (x.bldS a).cmp ∧ ((x.bldSpeedLost a).bldS a).intQ = (x.bldS a).intQ := by
    unfold Dev.bldSpeedLost
    dsimp only
    split_ifs <;> simp [Dev.bldS_gateAll, BldAx.endPhase, BldAx.noPhase]
  have hSame : (d7.bldS a).cmp = (d.bldS a).cmp ∧ (d7.bldS a).intQ = (d.bldS a).intQ := by
    rw [h7, h3]
    exact ⟨rfl, rfl⟩
  split_ifs
  · exact hSame
  · obtain ⟨hCmp, hInt⟩ := hLost d7
    exact ⟨hCmp.trans hSame.1, hInt.trans hSame.2⟩

theorem Dev.iqRef_bldEnter (a st : Nat) : ((d.bldEnter a st).bldS a).iqRef = (d.bldS a).iqRef := by
  have h := congrArg BldAx.iqRef (d.course_bldEnter a st)
  exact h

/-! ### The cut of one axis (R281) -/

/-- The compare values depend on the image, the active copies, and the reading and nominal voltage of the buses. -/
theorem Dev.compares_congr (a : Nat) (hFrd : e.frd = d.frd) (hActive : e.active = d.active)
    (hReading : ∀ k < 2, e.get (F.BLD_DCBm_STATUS.reading k) = d.get (F.BLD_DCBm_STATUS.reading k))
    (hNom : ∀ k < 2, e.get (F.BLD_DCBm_NOM.dcb_nom k) = d.get (F.BLD_DCBm_NOM.dcb_nom k)) : e.compares a = d.compares a := by
  have hAxis : e.axis a = d.axis a := by rw [Dev.axis, hFrd, Dev.axis]
  have hBus : e.busV a = d.busV a := by
    unfold Dev.busV
    rw [hAxis]
    rcases d.axis a with - | c
    · rfl
    · dsimp only
      split_ifs with h
      · rw [hReading _ h, hNom _ h]
      · rfl
  have hGa (g : Fld) : e.ga g = d.ga g := by rw [Dev.ga, Dev.act, hActive, Dev.ga, Dev.act]
  have hN : e.pwmN a = d.pwmN a := by rw [Dev.pwmN, hAxis, Dev.pwmN]
  funext vA vB i
  unfold Dev.compares
  rw [hBus, hN, Dev.gaOn, Dev.gaOn, hGa, hGa, hGa]

/-- The axis as its bus is cut, before it enters BUS_CUT. -/
def Dev.cutAxis (d : Dev) (a : Nat) (x : BldAx) : BldAx :=
  let cs := d.compares a (openDiv 32 x.obs.eA 65536) (openDiv 33 x.obs.eB 65536) (0, 0, 0)
  { x with moving := false, target := 0, startDue := none, restartAt := 0, tries := 0, cmp := cs, cmpNext := cs, intQ := (x.obs.emag : Nat) * sgn x.obs.omega, iqRef := 0 }

theorem Dev.bldCut_eq (a : Nat) : d.bldCut a = ((d.bldHoldMove a).putBld a (d.cutAxis a (d.bldS a))).bldEnter a 9 := by
  rw [Dev.bldCut, Dev.modBld, Dev.bldS_bldHoldMove]
  rfl

theorem Frame.bldCut (h : Dev.Frame ps d e) (a : Nat) (ha : ∀ p ∈ axParts a, p ∈ ps) (hActive : e.bldState a = 10 → ∀ p ∈ activeParts 26, p ∈ ps) :
    Dev.Frame ps d (e.bldCut a) := by
  rw [Dev.bldCut_eq]
  refine Frame.bldEnter (Frame.putBld (Frame.bldHoldMove h a (ha _ (by simp [axParts])) (ha _ (by simp [axParts]))) a _ (ha _ (by simp [axParts]))) a 9 ha ?_
  rintro (hNot | hFault)
  · omega
  · exact hActive (by simpa using hFault)

section
variable {a : Nat} (ha : a < 16)
include ha

theorem Dev.bldState_bldCut : (d.bldCut a).bldState a = 9 := by
  rw [Dev.bldCut_eq, Dev.bldState_bldEnter _ ha (by decide)]

theorem Dev.irq_bldCut : bit ((d.bldCut a).rd (R.BLD_AXa_IRQ_STATUS a)) 6 = true := by
  rw [Dev.bldCut_eq]
  exact Dev.irq_bldEnter ha (.inl rfl)

omit ha in
theorem Dev.course_bldCut : ((d.bldCut a).bldS a).target = 0 ∧ ((d.bldCut a).bldS a).restartAt = 0 ∧ ((d.bldCut a).bldS a).iqRef = 0 := by
  rw [Dev.bldCut_eq, Dev.target_bldEnter, Dev.restartAt_bldEnter, Dev.iqRef_bldEnter, Dev.bldS_putBld]
  exact ⟨rfl, rfl, rfl⟩

omit ha in
theorem Dev.loop_bldCut (hLoops : bldLoops (d.bldState a) = true) :
    ((d.bldCut a).bldS a).cmp = d.compares a (openDiv 32 (d.bldS a).obs.eA 65536) (openDiv 33 (d.bldS a).obs.eB 65536) (0, 0, 0) ∧
    ((d.bldCut a).bldS a).intQ = ((d.bldS a).obs.emag : Nat) * sgn (d.bldS a).obs.omega := by
  obtain ⟨hCmp, hInt⟩ := Dev.loop_bldEnter (d := (d.bldHoldMove a).putBld a (d.cutAxis a (d.bldS a))) a 9 (by simpa using hLoops)
  rw [Dev.bldS_putBld] at hCmp hInt
  rw [Dev.bldCut_eq]
  exact ⟨hCmp, hInt⟩

end

/-! ### What precedes a cut in its period (R281) -/

/-- What giving a cut precedence changes of an axis. -/
def precedeParts (a : Nat) : List Part :=
  axParts a ++ [Part.strobes, Part.reg (R.BLD_AXa_COUNTS a).off, Part.reg (R.BLD_AXa_REFUSE a).off] ++ activeParts 26

/-- A loss of synchronism that is not evaluated. -/
def Dev.lossUndone (d : Dev) (a : Nat) : Dev :=
  let mine := fun (s : Strobe) => s.src = 26 && s.d0 / 65536 = 0x31 * 256 + a
  let d := { d with flt := { d.flt with strobes := d.flt.strobes.filter fun s => !mine s } }
  (((d.put (F.BLD_AXa_COUNTS.los a) (d.get (F.BLD_AXa_COUNTS.los a) - 1)).modBld a fun x => { x with restartAt := 0 })).bldEnter a 7

/-- A start that is refused after all. -/
def Dev.startUndone (d : Dev) (a st perSt : Nat) : Dev :=
  if st = 3 && (perSt = 2 || perSt = 3) then ((d.bldRefuse a 3).modBld a fun x => { x with target := 0 }).bldEnter a (perSt - 1) else d.bldRefuse a 3

theorem Dev.cutPrecedes_eq (a : Nat) : d.cutPrecedes a =
    let e := if ((d.bldS a).losPer && (d.bldState a = 1 || d.bldState a = 10)) = true then d.lossUndone a else d
    if (!(d.bldS a).startPer) = true then e else e.startUndone a (d.bldState a) (d.bldS a).perSt := rfl

theorem Frame.lossUndone (h : Dev.Frame ps d e) (a : Nat) (hp : ∀ p ∈ precedeParts a, p ∈ ps) : Dev.Frame ps d (e.lossUndone a) := by
  have hAx : ∀ p ∈ axParts a, p ∈ ps := fun p h => hp p (by simp [precedeParts, h])
  unfold Dev.lossUndone
  exact Frame.bldEnter (Frame.modBld (Frame.put (Frame.strobe h _ (hp _ (by simp [precedeParts]))) _ _ (hp _ (by simp [precedeParts, F.BLD_AXa_COUNTS.los])))
    a _ (hAx _ (by simp [axParts]))) a 7 hAx fun _ p h => hp p (by simp [precedeParts, h])

/-- What refusing a start after all changes of an axis. -/
def startParts (a : Nat) : List Part := axParts a ++ [Part.reg (R.BLD_AXa_REFUSE a).off] ++ activeParts 26

theorem Frame.startUndone (h : Dev.Frame ps d e) (a st n : Nat) (hp : ∀ p ∈ startParts a, p ∈ ps) : Dev.Frame ps d (e.startUndone a st n) := by
  have hAx : ∀ p ∈ axParts a, p ∈ ps := fun p h => hp p (by simp [startParts, h])
  have hPost : ∀ p ∈ irqParts, p ∈ ps := fun p h => hAx p (by
    simp only [axParts, List.mem_append]
    exact .inr (List.mem_flatMap.2 ⟨0, by simp, by simp [gateParts, h]⟩))
  have hRefuse := Frame.bldRefuse h a 3 (hp _ (by simp [startParts])) (hAx _ (by simp [axParts])) hPost
  exact Frame.ite (Frame.bldEnter (Frame.modBld hRefuse a _ (hAx _ (by simp [axParts]))) a _ hAx fun _ p h => hp p (by simp [startParts, h])) hRefuse

theorem Frame.cutPrecedes (h : Dev.Frame ps d e) (a : Nat) (hp : ∀ p ∈ precedeParts a, p ∈ ps) : Dev.Frame ps d (e.cutPrecedes a) := by
  have hUndone := Frame.ite (c := ((e.bldS a).losPer && (e.bldState a = 1 || e.bldState a = 10)) = true) (Frame.lossUndone h a hp) h
  rw [Dev.cutPrecedes_eq]
  exact Frame.ite hUndone (Frame.startUndone hUndone a _ _ fun p h => hp p (by
    simp only [startParts, precedeParts, List.mem_append, List.mem_cons, List.not_mem_nil, or_false] at h ⊢
    tauto))

theorem Dev.cutPrecedes_none (a : Nat) (hStart : (d.bldS a).startPer = false) (hLoss : (d.bldS a).losPer = false) : d.cutPrecedes a = d := by
  rw [Dev.cutPrecedes_eq, hStart, hLoss]
  rfl

end

end Sys2Proof.Machine
end

-- ==== Sitting: an over-voltage trip (O38) ====
section
/-! PROOF. The DC buses (O38): samples, trips and the cut, the comparator's clear. -/
open Sys2Proof Sys2Proof.Machine Sys2Proof.Claims
set_option maxRecDepth 20000

namespace Sys2Proof.Machine

section
variable {d e : Dev} {m : Nat}

/-! ### An over-voltage trip (R281) -/

/-- The axes of a bus. -/
def Dev.busAxes (d : Dev) (m : Nat) : List Nat := (List.range 16).filter fun a => match d.axis a with | some c => c.dcBus = m | none => false

/-- The device once a cut has its precedence. -/
def Dev.preceded (d : Dev) (m : Nat) : Dev := if d.armed 38 4 = true then d.each (d.busAxes m) Dev.cutPrecedes else d

/-- A trip as it shows: comparator, bus interrupt, source 38 with its record. -/
def Dev.tripShown (d : Dev) (m mask : Nat) : Dev :=
  (((d.put (F.BLD_DCBm_STATUS.over m) 1).busTripFlag m).setActive 38 true).report 38 (m <<< 24 + mask)
    (((d.put (F.BLD_DCBm_STATUS.over m) 1).busTripFlag m).get (F.BLD_DCBm_STATUS.reading m))

/-- The cut latch sets. -/
def Dev.tripLatched (d : Dev) (m : Nat) : Dev := (d.put (F.BLD_DCBm_STATUS.latched m) 1).putDcb m { at_ := d.now / 8 + 1 }

/-- The mask of a set of axes. -/
def axesMask (l : List Nat) : Nat := l.foldl (fun n a => n + 2 ^ a) 0

theorem axesMask_eq (l : List Nat) : axesMask l = (l.map (2 ^ ·)).sum := by
  have hFold (n : Nat) : l.foldl (fun n a => n + 2 ^ a) n = n + (l.map (2 ^ ·)).sum := by
    induction l generalizing n with
    | nil => simp
    | cons a l ih => rw [List.foldl_cons, ih, List.map_cons, List.sum_cons, Nat.add_assoc]
  rw [axesMask, hFold, Nat.zero_add]

theorem Dev.dcbTrip_uncut (hOn : d.domOn 3 = true) (hCut : d.armed 38 4 = false) : d.dcbTrip m = d.tripShown m 0 := by
  unfold Dev.dcbTrip
  rw [if_neg (by simp [hOn])]
  simp only [hCut, Bool.false_eq_true, if_false, List.foldl_nil]
  rw [Dev.tripShown]

theorem Dev.dcbTrip_cut (hOn : d.domOn 3 = true) (hCut : d.armed 38 4 = true) :
    d.dcbTrip m = ((((d.preceded m).tripShown m (axesMask ((d.preceded m).axesToCut m))).tripLatched m)).each ((d.preceded m).axesToCut m) Dev.bldCut := by
  unfold Dev.dcbTrip
  rw [if_neg (by simp [hOn])]
  simp only [hCut, if_true]
  rw [Dev.preceded, if_pos hCut]
  generalize hList : List.filter _ (List.range 16) = l
  have hAxes : d.busAxes m = l := by
    refine Eq.trans (List.filter_congr fun a _ => ?_) hList
    rcases d.axis a <;> rfl
  rw [hAxes, Dev.tripLatched, Dev.tripShown, axesMask]

/-- What a trip changes beside the axes. -/
def tripParts (m : Nat) : List Part :=
  [Part.dcb m, Part.flt, Part.reg (R.BLD_DCBm_STATUS m).off, Part.reg R.BLD_IRQ_STATUS.off, Part.reg R.FLT_ACTIVE.off] ++ irqParts ++ strobeParts 38

theorem Dev.frame_tripFlagged : Dev.Frame ([Part.reg (R.BLD_DCBm_STATUS m).off, Part.reg R.BLD_IRQ_STATUS.off] ++ irqParts) d ((d.put (F.BLD_DCBm_STATUS.over m) 1).busTripFlag m) :=
  Frame.flag (Frame.put Frame.refl _ _ (by simp [F.BLD_DCBm_STATUS.over])) _ _ _ _ (by simp) (by simp +contextual)

theorem Dev.frame_tripShown (mask : Nat) : Dev.Frame (tripParts m) d (d.tripShown m mask) :=
  Frame.report (Frame.setActive (Frame.mono Dev.frame_tripFlagged (by simp +contextual [tripParts])) _ _ (by simp [tripParts]) (by simp [tripParts, strobeParts])
    (by simp [tripParts])) _ _ _ (by simp [tripParts, strobeParts]) (by simp [tripParts, strobeParts])

theorem Dev.on_putDcb (x : DcbSt) (g : Fld) : (d.putDcb m x).on g = d.on g := rfl

theorem Dev.on_tripLatched (g : Fld) : (d.tripLatched m).on g = (d.put (F.BLD_DCBm_STATUS.latched m) 1).on g := by
  rw [Dev.tripLatched, Dev.on_putDcb]

theorem Dev.frame_tripLatched : Dev.Frame (tripParts m) d (d.tripLatched m) :=
  Frame.setDcb (Frame.put Frame.refl _ _ (by simp [tripParts, F.BLD_DCBm_STATUS.latched])) _ _ (by simp [tripParts])

/-- The active level of a source stays when one is recorded. -/
theorem Dev.on_report_source (src i d0 d1 : Nat) : (d.report src d0 d1).on (F.FLT_SRCi_STATE.active i) = d.on (F.FLT_SRCi_STATE.active i) := by
  unfold Dev.report Dev.reportAt Dev.strobe
  split_ifs
  · by_cases hi : i = src
    · rw [hi]
      exact Dev.on_put_other _ (F.FLT_SRCi_STATE.merged src) (F.FLT_SRCi_STATE.active src) _ rfl rfl rfl rfl
    · refine Dev.on_put_ne _ _ _ _ ?_
      simp only [F.FLT_SRCi_STATE.merged, F.FLT_SRCi_STATE.active, R.FLT_SRCi_STATE]
      omega
  · rfl

theorem Dev.strobes_setActive (i : Nat) (b : Bool) : (d.setActive i b).flt.strobes = d.flt.strobes :=
  (Frame.setActive (ps := activeParts i) Frame.refl i b (by simp [activeParts]) (by simp [activeParts]) (by simp [activeParts])) Part.strobes (by simp [activeParts])

/-- A bus's status after the trip: over is set, the other fields stay. -/
theorem Dev.rd_tripShown_status (mask k : Nat) (hk : k < 2) :
    (d.tripShown m mask).rd (R.BLD_DCBm_STATUS k) = (d.put (F.BLD_DCBm_STATUS.over m) 1).rd (R.BLD_DCBm_STATUS k) := by
  rw [Dev.tripShown, Dev.rd_report_ne _ _ _ _ _ (by simp only [R.BLD_DCBm_STATUS, R.FLT_SRCi_STATE]; omega),
    Dev.rd_setActive_ne _ _ _ _ (by simp only [R.BLD_DCBm_STATUS, R.FLT_SRCi_STATE]; omega) (by simp only [R.BLD_DCBm_STATUS, R.FLT_ACTIVE]; omega),
    Dev.busTripFlag, Dev.rd_flag_ne _ _ _ _ _ _ (by simp only [R.BLD_DCBm_STATUS, R.BLD_IRQ_STATUS]; omega) (by simp only [R.BLD_DCBm_STATUS, R.MSIX_PBA]; omega)]

theorem Dev.over_tripShown (hm : m < 2) (mask : Nat) : (d.tripShown m mask).on (F.BLD_DCBm_STATUS.over m) = true := by
  rw [Dev.on, Dev.get, show (F.BLD_DCBm_STATUS.over m).reg = R.BLD_DCBm_STATUS m from rfl, Dev.rd_tripShown_status _ _ hm]
  exact Dev.on_putB_same d (F.BLD_DCBm_STATUS.over m) true rfl

/-- Putting one field of a bus's status leaves the other fields of both. -/
theorem Dev.get_put_dcb (f g : Nat → Fld) (v k : Nat) (hf : ∀ k, (f k).reg = R.BLD_DCBm_STATUS k) (hg : ∀ k, (g k).reg = R.BLD_DCBm_STATUS k)
    (hfo : (f m).ok = true) (hgo : (g k).ok = true) (h : (decide ((g k).hi < (f m).lo) || decide ((f m).hi < (g k).lo)) = true) :
    (d.put (f m) v).get (g k) = d.get (g k) := by
  by_cases hk : k = m
  · exact Dev.get_put_other _ _ _ _ (by rw [hf, hg, hk]) hfo hgo h
  · refine Dev.get_put_ne _ _ _ _ ?_
    rw [hf, hg]
    simp only [R.BLD_DCBm_STATUS]
    omega

theorem Dev.get_tripShown_status (g : Nat → Fld) (mask k : Nat) (hk : k < 2) (hg : ∀ k, (g k).reg = R.BLD_DCBm_STATUS k) (hgo : (g k).ok = true)
    (h : (g k).hi < 31) : (d.tripShown m mask).get (g k) = d.get (g k) := by
  rw [Dev.get, hg, Dev.rd_tripShown_status _ _ hk, ← hg]
  refine Dev.get_put_dcb F.BLD_DCBm_STATUS.over g 1 k (fun _ => rfl) hg rfl hgo ?_
  rw [Bool.or_eq_true]
  exact .inl (decide_eq_true h)

theorem Dev.irq_tripShown (hm : m < 2) (mask : Nat) : bit ((d.tripShown m mask).rd R.BLD_IRQ_STATUS) (16 + m) = true := by
  rw [Dev.tripShown, Dev.rd_report_ne _ _ _ _ _ (by decide), Dev.rd_setActive_ne _ _ _ _ (by decide) (by decide), Dev.busTripFlag]
  exact Dev.rd_flag_same _ _ _ _ _ (by decide) (by simp only [R.BLD_IRQ_STATUS]; omega) (by decide)

/-- Source 38 is active, in its own state and among the active sources. -/
theorem Dev.active_setActive {i : Nat} (hi : i < 41) (b : Bool) : bit ((d.setActive i b).get F.FLT_ACTIVE.active) i = b := by
  unfold Dev.setActive
  extract_lets was q e f
  rw [if_pos hi, Dev.bit_putBit _ _ _ _ rfl (by simp only [F.FLT_ACTIVE.active]; omega), if_pos rfl]

theorem Dev.active_tripShown (mask : Nat) : (d.tripShown m mask).on (F.FLT_SRCi_STATE.active 38) = true ∧ bit ((d.tripShown m mask).get F.FLT_ACTIVE.active) 38 = true := by
  rw [Dev.tripShown]
  generalize (d.put (F.BLD_DCBm_STATUS.over m) 1).busTripFlag m = e
  have hOn : (e.setActive 38 true).on (F.FLT_SRCi_STATE.active 38) = true := Dev.on_setActive_same e (by decide) true
  have hBit : bit ((e.setActive 38 true).get F.FLT_ACTIVE.active) 38 = true := Dev.active_setActive (by decide) true
  refine ⟨?_, ?_⟩
  · rw [Dev.on_report_source, hOn]
  · rw [Dev.get_report_ne _ _ _ _ _ (by decide), hBit]

/-- The record of a trip, as of the device before it. -/
theorem Dev.strobed_tripShown (mask : Nat) : strobed d (d.tripShown m mask) 38 (m * 2 ^ 24 + mask) (d.get (F.BLD_DCBm_STATUS.reading m)) := by
  have hFlagged := Dev.frame_tripFlagged (d := d) (m := m)
  have hReading : ((d.put (F.BLD_DCBm_STATUS.over m) 1).busTripFlag m).get (F.BLD_DCBm_STATUS.reading m) = d.get (F.BLD_DCBm_STATUS.reading m) := by
    rw [Dev.busTripFlag, Dev.get_flag_ne _ _ _ _ _ _ (by simp only [F.BLD_DCBm_STATUS.reading, R.BLD_DCBm_STATUS, R.BLD_IRQ_STATUS]; omega)
      (by simp only [F.BLD_DCBm_STATUS.reading, R.BLD_DCBm_STATUS, R.MSIX_PBA]; omega)]
    exact Dev.get_put_other _ _ _ _ rfl rfl rfl rfl
  have hStrobes : ((d.put (F.BLD_DCBm_STATUS.over m) 1).busTripFlag m).flt.strobes = d.flt.strobes := hFlagged Part.strobes (by simp [irqParts])
  have hMerged : ((d.put (F.BLD_DCBm_STATUS.over m) 1).busTripFlag m).get (F.FLT_SRCi_STATE.merged 38) = d.get (F.FLT_SRCi_STATE.merged 38) :=
    Frame.get hFlagged _ (by simp [irqParts, F.FLT_SRCi_STATE.merged, R.FLT_SRCi_STATE, R.BLD_DCBm_STATUS, R.BLD_IRQ_STATUS, R.MSIX_PBA]; omega)
  rw [← hReading, Dev.tripShown, show m * 2 ^ 24 + mask = m <<< 24 + mask by omega]
  generalize (d.put (F.BLD_DCBm_STATUS.over m) 1).busTripFlag m = e at *
  refine Dev.strobed_report _ _ ?_ ((Dev.get_setActive_merged _ _).trans hMerged)
  rw [← hStrobes]
  exact Dev.strobes_setActive _ _

/-- What a trip shows, whatever it then cuts. -/
structure Dev.Tripped (m mask : Nat) (latched : Bool) (d e : Dev) : Prop where
  comparator : e.on (F.BLD_DCBm_STATUS.over m) = true
  irq : bit (e.rd R.BLD_IRQ_STATUS) (16 + m) = true
  active : e.on (F.FLT_SRCi_STATE.active 38) = true
  strobed : strobed d e 38 (m * 2 ^ 24 + mask) (d.get (F.BLD_DCBm_STATUS.reading m))
  latched : e.on (F.BLD_DCBm_STATUS.latched m) = latched

theorem Dev.tripped_uncut (hm : m < 2) (mask : Nat) : Dev.Tripped m mask (d.on (F.BLD_DCBm_STATUS.latched m)) d (d.tripShown m mask) where
  comparator := Dev.over_tripShown hm mask
  irq := Dev.irq_tripShown hm mask
  active := (Dev.active_tripShown mask).1
  strobed := Dev.strobed_tripShown mask
  latched := by rw [Dev.on, Dev.get_tripShown_status F.BLD_DCBm_STATUS.latched mask m hm (fun _ => rfl) rfl (by simp [F.BLD_DCBm_STATUS.latched]), Dev.on]

theorem dcbStatus_ne (m : Nat) (hm : m < 2) : (R.BLD_DCBm_STATUS m).off = 0x80018 ∨ (R.BLD_DCBm_STATUS m).off = 0x80028 := by
  simp only [R.BLD_DCBm_STATUS]
  omega

theorem Dev.tripped_cut (hm : m < 2) (mask : Nat) : Dev.Tripped m mask true d ((d.tripShown m mask).tripLatched m) := by
  have hShown := Dev.tripped_uncut (d := d) hm mask
  generalize d.tripShown m mask = e at *
  have hLatch : Dev.Frame [Part.dcb m, Part.reg (R.BLD_DCBm_STATUS m).off] e (e.tripLatched m) :=
    Frame.setDcb (Frame.put Frame.refl _ _ (by simp [F.BLD_DCBm_STATUS.latched])) _ _ (by simp)
  have hOff := dcbStatus_ne m hm
  have hOut (o : Nat) (h : o ≠ 0x80018 ∧ o ≠ 0x80028) : Part.reg o ∉ [Part.dcb m, Part.reg (R.BLD_DCBm_STATUS m).off] := by
    simp only [List.mem_cons, List.not_mem_nil, or_false, Part.reg.injEq, reduceCtorEq, false_or]
    omega
  refine ⟨?_, ?_, ?_, strobed_after hShown.strobed hLatch (by simp) (hOut _ (by decide)) (hOut _ (by decide)), ?_⟩
  · rw [Dev.on_tripLatched, Dev.on_put_other e (F.BLD_DCBm_STATUS.latched m) (F.BLD_DCBm_STATUS.over m) 1 rfl rfl rfl rfl, hShown.comparator]
  · rw [Frame.rd hLatch _ (hOut _ (by decide)), hShown.irq]
  · rw [Frame.on hLatch _ (hOut _ (by decide)), hShown.active]
  · rw [Dev.on_tripLatched]
    exact Dev.on_putB_same e (F.BLD_DCBm_STATUS.latched m) true rfl

/-- What the axes of a bus do leaves what the trip shows. -/
theorem Dev.Tripped.after {ps : List Part} {mask : Nat} {latched : Bool} {f : Dev} (h : Dev.Tripped m mask latched d e) (hFrame : Dev.Frame ps e f)
    (hStatus : Part.reg (R.BLD_DCBm_STATUS m).off ∉ ps) (hIrq : Part.reg R.BLD_IRQ_STATUS.off ∉ ps) (hSource : Part.reg (R.FLT_SRCi_STATE 38).off ∉ ps)
    (hStrobes : Part.strobes ∉ ps) (hTime : Part.reg R.EVT_TIME.off ∉ ps) : Dev.Tripped m mask latched d f where
  comparator := by rw [Frame.on hFrame _ hStatus, h.comparator]
  irq := by rw [Frame.rd hFrame _ hIrq, h.irq]
  active := by rw [Frame.on hFrame _ hSource, h.active]
  strobed := strobed_after h.strobed hFrame hStrobes hSource hTime
  latched := by rw [Frame.on hFrame _ hStatus, h.latched]

/-! ### Which axes a cut acts on (R281) -/

theorem Dev.mem_axesToCut {a : Nat} : a ∈ d.axesToCut m ↔ a < 16 ∧ (∃ c, d.axis a = some c ∧ c.dcBus = m) ∧
    (d.bldState a = 3 ∨ d.bldState a = 5 ∨ d.bldState a = 6 ∨ d.bldState a = 7 ∨ d.bldState a = 8) := by
  rw [Dev.axesToCut, List.mem_filter, List.mem_range]
  rcases d.axis a with - | c <;> simp

theorem Dev.nodup_axesToCut : (d.axesToCut m).Nodup := List.Nodup.filter _ List.nodup_range

theorem Dev.mem_busAxes {a : Nat} : a ∈ d.busAxes m ↔ a < 16 ∧ ∃ c, d.axis a = some c ∧ c.dcBus = m := by
  rw [Dev.busAxes, List.mem_filter, List.mem_range]
  rcases d.axis a with - | c <;> simp

theorem Dev.nodup_busAxes : (d.busAxes m).Nodup := List.Nodup.filter _ List.nodup_range

/-- An axis on the bus in a state that a cut acts on runs its current loop. -/
theorem Dev.loops_of_cut {a : Nat} (h : a ∈ d.axesToCut m) : bldLoops (d.bldState a) = true := by
  obtain ⟨-, -, h3 | h5 | h6 | h7 | h8⟩ := Dev.mem_axesToCut.1 h <;> simp [bldLoops, *]

/-- Where nothing precedes it, a cut finds the device as it is. -/
theorem Dev.preceded_none (h : nonePrecedes d) : d.preceded m = d := by
  unfold Dev.preceded
  split_ifs
  · refine Dev.each_keeps (P := fun e => e = d) _ _ (fun e a ha he => ?_) rfl
    obtain ⟨hStart, hLoss⟩ := h a (Dev.mem_busAxes.1 ha).1
    rw [he, Dev.cutPrecedes_none a hStart hLoss]
  · rfl

/-! ### What the parts of an axis leave -/

/-- What an axis shows and holds by itself. -/
def ownParts (a : Nat) : List Part :=
  [Part.bld a, Part.reg (R.BLD_AXa_STATUS a).off, Part.reg (R.BLD_AXa_IRQ_STATUS a).off, Part.reg (R.BLD_AXa_REFUSE a).off, Part.reg (R.BLD_AXa_COUNTS a).off]

/-- A register of one axis is none of what giving a cut precedence changes at another. -/
theorem axReg_not_mem_precedeParts {a b o : Nat} (hne : b ≠ a) (ha : a < 16) (hlo : 0x81000 + a * 0x400 ≤ o) (hhi : o < 0x81400 + a * 0x400) :
    Part.reg o ∉ precedeParts b := by
  simp only [precedeParts, axParts, gateAllParts, gateParts, irqParts, activeParts, List.cons_append, List.nil_append, List.mem_append, List.mem_cons, List.mem_flatMap,
    List.not_mem_nil, or_false, Part.reg.injEq, reduceCtorEq, false_or, R.BLD_AXa_STATUS, R.BLD_AXa_IRQ_STATUS, R.BLD_AXa_REMAIN, R.BLD_AXa_COUNTS,
    R.BLD_AXa_REFUSE, R.CHn_FGT_STATUS, R.CHn_FGT_COUNTS, R.CHn_FGT_IRQ_STATUS, R.MSIX_PBA, R.FLT_SRCi_STATE, R.FLT_ACTIVE]
  rintro (h | h | h | (⟨n, -, h | h | h | h⟩ | h | h) | h | h) <;> omega

theorem own_not_mem_precedeParts {a b : Nat} (ha : a < 16) (hne : b ≠ a) : ∀ p ∈ ownParts a, p ∉ precedeParts b := by
  simp only [ownParts, List.mem_cons, List.not_mem_nil, or_false, R.BLD_AXa_STATUS, R.BLD_AXa_IRQ_STATUS, R.BLD_AXa_COUNTS, R.BLD_AXa_REFUSE]
  rintro p (rfl | rfl | rfl | rfl | rfl)
  · simp [precedeParts, axParts, gateAllParts, gateParts, irqParts, activeParts, Ne.symm hne]
  all_goals exact axReg_not_mem_precedeParts hne ha (by omega) (by omega)

theorem own_not_mem_tripParts {a : Nat} (ha : a < 16) (hm : m < 2) : ∀ p ∈ ownParts a, p ∉ tripParts m := by
  simp only [ownParts, List.mem_cons, List.not_mem_nil, or_false]
  rintro p (rfl | rfl | rfl | rfl | rfl) <;>
    simp [tripParts, irqParts, strobeParts, R.BLD_AXa_STATUS, R.BLD_AXa_IRQ_STATUS, R.BLD_AXa_COUNTS, R.BLD_AXa_REFUSE, R.BLD_DCBm_STATUS, R.BLD_IRQ_STATUS,
      R.MSIX_PBA, R.FLT_SRCi_STATE, R.FLT_ACTIVE]
  all_goals omega

end

end Sys2Proof.Machine
end

-- ==== Sitting: the DC buses (O38) ====
section
/-! PROOF. The DC buses, clause by clause (O38). -/
open Sys2Proof Sys2Proof.Machine Sys2Proof.Claims
set_option maxRecDepth 20000

namespace Sys2Proof.Machine

theorem Dev.get_putDcb {d : Dev} {m : Nat} (x : DcbSt) (g : Fld) : (d.putDcb m x).get g = d.get g := rfl

theorem Dev.copies_putDcb {d : Dev} {m : Nat} (x : DcbSt) : (d.putDcb m x).active = d.active := rfl

theorem Dev.get_tripLatched {d : Dev} {m : Nat} (g : Fld) : (d.tripLatched m).get g = (d.put (F.BLD_DCBm_STATUS.latched m) 1).get g := by
  rw [Dev.tripLatched, Dev.get_putDcb]

theorem Dev.copies_tripLatched {d : Dev} {m : Nat} : (d.tripLatched m).active = d.active := by
  rw [Dev.tripLatched, Dev.copies_putDcb, Dev.put_active]

/-- A trip leaves the active copies. -/
theorem Dev.copies_tripShown {d : Dev} {m : Nat} (mask : Nat) : (d.tripShown m mask).active = d.active := by
  rw [Dev.tripShown, Dev.report_active, Dev.setActive_active, Dev.busTripFlag, Dev.flag_active, Dev.put_active]

/-- Source 38 among the active sources, once a trip has latched. -/
theorem Dev.active_tripLatched {d : Dev} {m : Nat} (hm : m < 2) (mask : Nat) : bit (((d.tripShown m mask).tripLatched m).get F.FLT_ACTIVE.active) 38 = true := by
  have hActive := (Dev.active_tripShown (d := d) (m := m) mask).2
  generalize d.tripShown m mask = e at *
  have hNe : F.FLT_ACTIVE.active.reg.off ≠ (F.BLD_DCBm_STATUS.latched m).reg.off := by
    simp only [F.FLT_ACTIVE.active, F.BLD_DCBm_STATUS.latched, R.FLT_ACTIVE, R.BLD_DCBm_STATUS]
    omega
  rw [Dev.get_tripLatched, Dev.get_put_ne _ _ _ _ hNe, hActive]

/-- Entering a state leaves why a start was refused. -/
theorem Dev.code_bldEnter {d : Dev} {a : Nat} (ha : a < 16) (st : Nat) : (d.bldEnter a st).get (F.BLD_AXa_REFUSE.code a) = d.get (F.BLD_AXa_REFUSE.code a) := by
  refine Frame.get (ps := axParts a ++ activeParts 26) (Frame.bldEnter Frame.refl a st (by simp +contextual) (by simp +contextual)) _ ?_
  simp [axParts, gateAllParts, gateParts, irqParts, activeParts, F.BLD_AXa_REFUSE.code, R.BLD_AXa_REFUSE, R.BLD_AXa_STATUS, R.BLD_AXa_IRQ_STATUS, R.BLD_AXa_REMAIN,
    R.CHn_FGT_STATUS, R.CHn_FGT_COUNTS, R.CHn_FGT_IRQ_STATUS, R.MSIX_PBA, R.FLT_ACTIVE, R.FLT_SRCi_STATE]
  exact ⟨fun n hn => by omega, by omega, by omega⟩

end Sys2Proof.Machine

namespace Sys2Proof.Proofs

section
variable {s : State}

theorem dcbSample_step (m : Fin 2) (v : BitVec 12) (hOn : s.dev.domOn 3 = true) : Completes (exec (.dcbSample m v) s) fun t =>
    let low := decide (v.toNat < s.dev.get (F.BLD_DCBm_CFG.uv_level m))
    t.dev.get (F.BLD_DCBm_STATUS.reading m) = v.toNat ∧ t.dev.on (F.BLD_DCBm_STATUS.under m) = low ∧ t.dev.on (F.BLD_DCBm_STATUS.over m) = s.dev.on (F.BLD_DCBm_STATUS.over m) ∧
    t.dev.on (F.BLD_DCBm_STATUS.latched m) = s.dev.on (F.BLD_DCBm_STATUS.latched m) ∧
    (if low = true ∧ s.dev.on (F.BLD_DCBm_STATUS.under m) = false then strobed s.dev t.dev 26 (0x33 * 2 ^ 24 + m.val) v.toNat ∧ s.Frame ([Part.reg (R.BLD_DCBm_STATUS m).off] ++ strobeParts 26) t
    else s.Frame [Part.reg (R.BLD_DCBm_STATUS m).off] t) := by
  refine completes_onDev (fun d => d.dcbSample m v.toNat) rfl ?_
  have hm := m.isLt
  have hv := v.isLt
  have hOff := dcbStatus_ne m hm
  have hCfg : (s.dev.put (F.BLD_DCBm_STATUS.reading m) v.toNat).get (F.BLD_DCBm_CFG.uv_level m) = s.dev.get (F.BLD_DCBm_CFG.uv_level m) :=
    Dev.get_put_ne _ _ _ _ (by simp only [F.BLD_DCBm_CFG.uv_level, F.BLD_DCBm_STATUS.reading, R.BLD_DCBm_CFG, R.BLD_DCBm_STATUS]; omega)
  have hOther (g : Nat → Fld) (hg : (g m).reg = R.BLD_DCBm_STATUS m) (hgo : (g m).ok = true) (h : 11 < (g m).lo) :
      (s.dev.put (F.BLD_DCBm_STATUS.reading m) v.toNat).on (g m) = s.dev.on (g m) :=
    Dev.on_put_other _ (F.BLD_DCBm_STATUS.reading m) (g m) _ hg rfl hgo (by rw [Bool.or_eq_true]; exact .inr (decide_eq_true h))
  have hRead : (s.dev.put (F.BLD_DCBm_STATUS.reading m) v.toNat).get (F.BLD_DCBm_STATUS.reading m) = v.toNat :=
    (Dev.get_put_same _ _ _ rfl).trans (Nat.mod_eq_of_lt (by simpa [F.BLD_DCBm_STATUS.reading] using hv))
  have hUnder := hOther F.BLD_DCBm_STATUS.under rfl rfl (by simp [F.BLD_DCBm_STATUS.under])
  have hOver := hOther F.BLD_DCBm_STATUS.over rfl rfl (by simp [F.BLD_DCBm_STATUS.over])
  have hLatched := hOther F.BLD_DCBm_STATUS.latched rfl rfl (by simp [F.BLD_DCBm_STATUS.latched])
  have hPut : Dev.Frame [Part.reg (R.BLD_DCBm_STATUS m).off] s.dev (s.dev.put (F.BLD_DCBm_STATUS.reading m) v.toNat) := Frame.put Frame.refl _ _ (by simp [F.BLD_DCBm_STATUS.reading])
  rw [Dev.dcbSample, if_neg (by simp [hOn])]
  dsimp only
  rw [hCfg, hUnder]
  generalize s.dev.put (F.BLD_DCBm_STATUS.reading m) v.toNat = e at *
  generalize hLow : decide (v.toNat < s.dev.get (F.BLD_DCBm_CFG.uv_level m)) = low
  have hShown : Dev.Frame [Part.reg (R.BLD_DCBm_STATUS m).off] s.dev (e.putB (F.BLD_DCBm_STATUS.under m) low) := Frame.putB hPut _ _ (by simp [F.BLD_DCBm_STATUS.under])
  have hLow' : (e.putB (F.BLD_DCBm_STATUS.under m) low).on (F.BLD_DCBm_STATUS.under m) = low := Dev.on_putB_same _ _ _ rfl
  have hRead' : (e.putB (F.BLD_DCBm_STATUS.under m) low).get (F.BLD_DCBm_STATUS.reading m) = v.toNat :=
    (Dev.get_put_other _ (F.BLD_DCBm_STATUS.under m) (F.BLD_DCBm_STATUS.reading m) _ rfl rfl rfl rfl).trans hRead
  have hOver' : (e.putB (F.BLD_DCBm_STATUS.under m) low).on (F.BLD_DCBm_STATUS.over m) = s.dev.on (F.BLD_DCBm_STATUS.over m) :=
    (Dev.on_put_other _ (F.BLD_DCBm_STATUS.under m) (F.BLD_DCBm_STATUS.over m) _ rfl rfl rfl rfl).trans hOver
  have hLatched' : (e.putB (F.BLD_DCBm_STATUS.under m) low).on (F.BLD_DCBm_STATUS.latched m) = s.dev.on (F.BLD_DCBm_STATUS.latched m) :=
    (Dev.on_put_other _ (F.BLD_DCBm_STATUS.under m) (F.BLD_DCBm_STATUS.latched m) _ rfl rfl rfl rfl).trans hLatched
  generalize e.putB (F.BLD_DCBm_STATUS.under m) low = f at *
  by_cases hBegins : low = true ∧ s.dev.on (F.BLD_DCBm_STATUS.under m) = false
  · have hReport := Frame.report (ps := strobeParts 26) (d := f) Frame.refl 26 (0x33 <<< 24 + m.val) v.toNat (by simp [strobeParts]) (by simp [strobeParts])
    have hNot : Part.reg (R.BLD_DCBm_STATUS m).off ∉ strobeParts 26 := by
      simp only [strobeParts, R.FLT_SRCi_STATE, List.mem_cons, List.not_mem_nil, or_false, Part.reg.injEq, reduceCtorEq, false_or]
      omega
    rw [if_pos hBegins, if_pos (by simp [hBegins])]
    refine ⟨(Frame.get hReport _ hNot).trans hRead', (Frame.on hReport _ hNot).trans hLow', (Frame.on hReport _ hNot).trans hOver', (Frame.on hReport _ hNot).trans hLatched', ?_,
      Frame.ofDev (Frame.trans (Frame.mono hShown (by simp)) (Frame.mono hReport (by simp +contextual)))⟩
    refine Dev.strobed_report _ _ (hShown Part.strobes (by simp)) (Frame.get hShown _ ?_)
    simp only [List.mem_cons, List.not_mem_nil, or_false, Part.reg.injEq, F.FLT_SRCi_STATE.merged, R.FLT_SRCi_STATE]
    omega
  · rw [if_neg hBegins, if_neg (by simpa using hBegins)]
    exact ⟨hRead', hLow', hOver', hLatched', Frame.ofDev hShown⟩

/-- The other bus. -/
theorem other_bus {m : Nat} (hm : m < 2) (p : Nat → Bool) (h : p m = false) : (p 0 || p 1) = p (1 - m) := by
  obtain rfl | rfl : m = 0 ∨ m = 1 := by omega
  · rw [h, Bool.false_or]
  · rw [h, Bool.or_false]

theorem dcbClear_step (m : Fin 2) (hOn : s.dev.domOn 3 = true) : Completes (exec (.dcbComparatorClear m) s) fun t =>
    let other := s.dev.on (F.BLD_DCBm_STATUS.over (1 - m.val))
    t.dev.on (F.BLD_DCBm_STATUS.over m) = false ∧ t.dev.on (F.FLT_SRCi_STATE.active 38) = other ∧ bit (t.dev.get F.FLT_ACTIVE.active) 38 = other ∧
    t.dev.on (F.BLD_DCBm_STATUS.latched m) = (s.dev.on (F.BLD_DCBm_STATUS.latched m) && !(s.dev.dcbS m).closed) ∧
    s.Frame [Part.flt, Part.reg (R.BLD_DCBm_STATUS m).off, Part.reg (R.FLT_SRCi_STATE 38).off, Part.reg R.FLT_ACTIVE.off] t := by
  refine completes_onDev (fun d => d.dcbClear m) rfl ?_
  have hm := m.isLt
  have hOff := dcbStatus_ne m hm
  rw [Dev.dcbClear, if_neg (by simp [hOn])]
  dsimp only
  have hOver : (s.dev.put (F.BLD_DCBm_STATUS.over m) 0).on (F.BLD_DCBm_STATUS.over m) = false := Dev.on_putB_same s.dev (F.BLD_DCBm_STATUS.over m) false rfl
  have hOther : (s.dev.put (F.BLD_DCBm_STATUS.over m) 0).on (F.BLD_DCBm_STATUS.over (1 - m.val)) = s.dev.on (F.BLD_DCBm_STATUS.over (1 - m.val)) :=
    Dev.on_put_ne _ _ _ _ (by simp only [F.BLD_DCBm_STATUS.over, R.BLD_DCBm_STATUS]; omega)
  have hLatched : (s.dev.put (F.BLD_DCBm_STATUS.over m) 0).on (F.BLD_DCBm_STATUS.latched m) = s.dev.on (F.BLD_DCBm_STATUS.latched m) :=
    Dev.on_put_other _ (F.BLD_DCBm_STATUS.over m) (F.BLD_DCBm_STATUS.latched m) _ rfl rfl rfl rfl
  have hClosed : ((s.dev.put (F.BLD_DCBm_STATUS.over m) 0).dcbS m).closed = (s.dev.dcbS m).closed := rfl
  have hPut : Dev.Frame [Part.flt, Part.reg (R.BLD_DCBm_STATUS m).off, Part.reg (R.FLT_SRCi_STATE 38).off, Part.reg R.FLT_ACTIVE.off] s.dev (s.dev.put (F.BLD_DCBm_STATUS.over m) 0) :=
    Frame.put Frame.refl _ _ (by simp [F.BLD_DCBm_STATUS.over])
  generalize s.dev.put (F.BLD_DCBm_STATUS.over m) 0 = e at *
  rw [other_bus hm (fun k => e.on (F.BLD_DCBm_STATUS.over k)) hOver, hOther]
  generalize s.dev.on (F.BLD_DCBm_STATUS.over (1 - m.val)) = other
  have hAct : Dev.Frame (activeParts 38) e (e.setActive 38 other) := Frame.setActive Frame.refl _ _ (by simp [activeParts]) (by simp [activeParts]) (by simp [activeParts])
  have hNot : Part.reg (R.BLD_DCBm_STATUS m).off ∉ activeParts 38 := by
    simp only [activeParts, R.FLT_SRCi_STATE, R.FLT_ACTIVE, List.mem_cons, List.not_mem_nil, or_false, Part.reg.injEq, reduceCtorEq, false_or]
    omega
  have hSource : (e.setActive 38 other).on (F.FLT_SRCi_STATE.active 38) = other := Dev.on_setActive_same e (by decide) other
  have hBit : bit ((e.setActive 38 other).get F.FLT_ACTIVE.active) 38 = other := Dev.active_setActive (by decide) other
  have hOver' : (e.setActive 38 other).on (F.BLD_DCBm_STATUS.over m) = false := (Frame.on hAct _ hNot).trans hOver
  have hLatched' : (e.setActive 38 other).on (F.BLD_DCBm_STATUS.latched m) = s.dev.on (F.BLD_DCBm_STATUS.latched m) := (Frame.on hAct _ hNot).trans hLatched
  have hClosed' : ((e.setActive 38 other).dcbS m).closed = (s.dev.dcbS m).closed := by rw [Dev.dcbS, Dev.setActive_dcb, ← Dev.dcbS, hClosed]
  have hFrame : Dev.Frame [Part.flt, Part.reg (R.BLD_DCBm_STATUS m).off, Part.reg (R.FLT_SRCi_STATE 38).off, Part.reg R.FLT_ACTIVE.off] s.dev (e.setActive 38 other) :=
    Frame.trans hPut (Frame.mono hAct (by simp [activeParts]))
  generalize e.setActive 38 other = f at *
  rw [Dev.dcbRelease, hLatched', hOver', hClosed']
  by_cases hRelease : s.dev.on (F.BLD_DCBm_STATUS.latched m) = true ∧ (s.dev.dcbS m).closed = true
  · rw [if_pos (by simp [hRelease])]
    have hNe : (F.FLT_SRCi_STATE.active 38).reg.off ≠ (F.BLD_DCBm_STATUS.latched m).reg.off := by
      simp only [F.FLT_SRCi_STATE.active, F.BLD_DCBm_STATUS.latched, R.FLT_SRCi_STATE, R.BLD_DCBm_STATUS]
      omega
    have hNe' : F.FLT_ACTIVE.active.reg.off ≠ (F.BLD_DCBm_STATUS.latched m).reg.off := by
      simp only [F.FLT_ACTIVE.active, F.BLD_DCBm_STATUS.latched, R.FLT_ACTIVE, R.BLD_DCBm_STATUS]
      omega
    refine ⟨?_, ?_, ?_, ?_, Frame.ofDev (Frame.put hFrame _ _ (by simp [F.BLD_DCBm_STATUS.latched]))⟩
    · exact (Dev.on_put_other f (F.BLD_DCBm_STATUS.latched m) (F.BLD_DCBm_STATUS.over m) 0 rfl rfl rfl rfl).trans hOver'
    · exact (Dev.on_put_ne f _ _ 0 hNe).trans hSource
    · exact (congrArg (bit · 38) (Dev.get_put_ne f _ _ 0 hNe')).trans hBit
    · rw [hRelease.1, hRelease.2]
      exact Dev.on_putB_same f (F.BLD_DCBm_STATUS.latched m) false rfl
  · rw [if_neg (by simpa using hRelease)]
    refine ⟨hOver', hSource, hBit, hLatched'.trans ?_, Frame.ofDev hFrame⟩
    rcases hL : s.dev.on (F.BLD_DCBm_STATUS.latched m) with - | -
    · rfl
    · simpa [hL] using hRelease

theorem dcb_unpowered (m : Fin 2) (v : BitVec 12) (hOff : s.dev.domOn 3 = false) : Completes (exec (.dcbSample m v) s) (fun t => t = s) ∧
    Completes (exec (.dcbOvervoltageTrip m) s) (fun t => t = s) ∧ Completes (exec (.dcbComparatorClear m) s) (fun t => t = s) := by
  refine ⟨completes_onDev (fun d => d.dcbSample m v.toNat) rfl ?_, completes_onDev (fun d => d.dcbTrip m) rfl ?_, completes_onDev (fun d => d.dcbClear m) rfl ?_⟩
  · rw [Dev.dcbSample, if_pos (by simp [hOff])]
  · rw [Dev.dcbTrip, if_pos (by simp [hOff])]
  · rw [Dev.dcbClear, if_pos (by simp [hOff])]

/-! ### Trips of a bus -/

theorem reg_not_mem_cuts {o : Nat} {l : List Nat} (hl : ∀ a ∈ l, a < 16) (h : Part.reg o ∉ activeParts 26) (hPba : o ≠ R.MSIX_PBA.off) (ho : o < 0x81000 ∨ 0xe0000 ≤ o ∧ o < 0x100000) :
    Part.reg o ∉ l.flatMap fun a => axParts a ++ activeParts 26 := by
  simp only [List.mem_flatMap, List.mem_append, not_exists, not_and, not_or]
  refine fun a ha => ⟨?_, h⟩
  have := hl a ha
  simp only [R.MSIX_PBA] at hPba
  simp [axParts, gateAllParts, gateParts, irqParts, R.BLD_AXa_STATUS, R.BLD_AXa_IRQ_STATUS, R.BLD_AXa_REMAIN,
    R.CHn_FGT_STATUS, R.CHn_FGT_COUNTS, R.CHn_FGT_IRQ_STATUS, R.MSIX_PBA]
  exact ⟨by omega, by omega, by omega, fun n _ => by omega⟩

/-- Cutting the axes of a list. -/
theorem frame_cuts (d : Dev) (l : List Nat) : Dev.Frame (l.flatMap fun a => axParts a ++ activeParts 26) d (d.each l Dev.bldCut) :=
  Dev.frame_each l Dev.bldCut _ fun _ _ _ => Frame.bldCut Frame.refl _ (by simp +contextual) (by simp +contextual)

theorem tripped_cuts {m mask : Nat} {latched : Bool} {d e : Dev} {l : List Nat} (hm : m < 2) (hl : ∀ a ∈ l, a < 16) (h : Dev.Tripped m mask latched d e) :
    Dev.Tripped m mask latched d (e.each l Dev.bldCut) := by
  refine h.after (frame_cuts e l) (reg_not_mem_cuts hl ?_ ?_ ?_) (reg_not_mem_cuts hl (by decide) (by decide) (by decide)) (reg_not_mem_cuts hl (by decide) (by decide) (by decide))
    ?_ (reg_not_mem_cuts hl (by decide) (by decide) (by decide))
  · simp only [activeParts, R.BLD_DCBm_STATUS, R.FLT_SRCi_STATE, R.FLT_ACTIVE, List.mem_cons, List.not_mem_nil, or_false, Part.reg.injEq, reduceCtorEq, false_or]
    omega
  · simp only [R.BLD_DCBm_STATUS, R.MSIX_PBA]
    omega
  · simp only [R.BLD_DCBm_STATUS]
    omega
  · simp [axParts, gateAllParts, gateParts, irqParts, activeParts]

/-- An axis in the list is cut once; the other axes leave what it holds by itself. -/
theorem cut_at {d : Dev} {l : List Nat} {a : Nat} (hl : ∀ b ∈ l, b < 16) (hNodup : l.Nodup) (ha : a ∈ l) :
    ∃ e, Dev.Kept (ownParts a) d e ∧ Dev.Kept (ownParts a) (e.bldCut a) (d.each l Dev.bldCut) := by
  obtain ⟨l1, l2, hEach, h1, h2⟩ := Dev.each_at (d := d) Dev.bldCut ha hNodup
  have hOther {l' : List Nat} (h' : ∀ b ∈ l', b ∈ l ∧ b ≠ a) (p : Part) (hp : p ∈ ownParts a) : p ∉ l'.flatMap fun b => axParts b ++ activeParts 26 := by
    simp only [List.mem_flatMap, not_exists, not_and]
    intro b hb hMem
    refine own_not_mem_precedeParts (hl a ha) (h' b hb).2 p hp ?_
    simp only [List.mem_append] at hMem
    rcases hMem with hMem | hMem <;> simp [precedeParts, hMem]
  refine ⟨d.each l1 Dev.bldCut, fun p hp => frame_cuts d l1 p (hOther h1 p hp), ?_⟩
  rw [hEach]
  exact fun p hp => frame_cuts _ l2 p (hOther h2 p hp)

/-- An axis outside the list keeps what it holds by itself. -/
theorem cuts_elsewhere {d : Dev} {l : List Nat} {a : Nat} (hA : a < 16) (ha : a ∉ l) : Dev.Kept (ownParts a) d (d.each l Dev.bldCut) := by
  refine fun p hp => frame_cuts d l p ?_
  simp only [List.mem_flatMap, not_exists, not_and]
  intro b hb hMem
  refine own_not_mem_precedeParts hA (fun hSame => ha (hSame ▸ hb)) p hp ?_
  simp only [List.mem_append] at hMem
  rcases hMem with hMem | hMem <;> simp [precedeParts, hMem]

section
variable {d e : Dev} {a : Nat}

theorem bldS_of_own (h : Dev.Kept (ownParts a) d e) : e.bldS a = d.bldS a := h (Part.bld a) (by simp [ownParts])
theorem bldState_of_own (h : Dev.Kept (ownParts a) d e) : e.bldState a = d.bldState a := by
  have hRd : e.rd (R.BLD_AXa_STATUS a) = d.rd (R.BLD_AXa_STATUS a) := h (Part.reg (R.BLD_AXa_STATUS a).off) (by simp [ownParts]) _ rfl
  exact congrArg (fun v => bits v (F.BLD_AXa_STATUS.state a).hi (F.BLD_AXa_STATUS.state a).lo) hRd
theorem irq_of_own (h : Dev.Kept (ownParts a) d e) : e.rd (R.BLD_AXa_IRQ_STATUS a) = d.rd (R.BLD_AXa_IRQ_STATUS a) :=
  h (Part.reg (R.BLD_AXa_IRQ_STATUS a).off) (by simp [ownParts]) _ rfl
theorem code_of_own (h : Dev.Kept (ownParts a) d e) : e.get (F.BLD_AXa_REFUSE.code a) = d.get (F.BLD_AXa_REFUSE.code a) := by
  have hRd : e.rd (R.BLD_AXa_REFUSE a) = d.rd (R.BLD_AXa_REFUSE a) := h (Part.reg (R.BLD_AXa_REFUSE a).off) (by simp [ownParts]) _ rfl
  exact congrArg (fun v => bits v (F.BLD_AXa_REFUSE.code a).hi (F.BLD_AXa_REFUSE.code a).lo) hRd
theorem los_of_own (h : Dev.Kept (ownParts a) d e) : e.get (F.BLD_AXa_COUNTS.los a) = d.get (F.BLD_AXa_COUNTS.los a) := by
  have hRd : e.rd (R.BLD_AXa_COUNTS a) = d.rd (R.BLD_AXa_COUNTS a) := h (Part.reg (R.BLD_AXa_COUNTS a).off) (by simp [ownParts]) _ rfl
  exact congrArg (fun v => bits v (F.BLD_AXa_COUNTS.los a).hi (F.BLD_AXa_COUNTS.los a).lo) hRd

theorem own_of_trip {m : Nat} (hm : m < 2) (ha : a < 16) (h : Dev.Frame (tripParts m) d e) : Dev.Kept (ownParts a) d e :=
  fun p hp => h p (own_not_mem_tripParts ha hm p hp)

end

theorem axes_lt {d : Dev} {m : Nat} : ∀ a ∈ d.axesToCut m, a < 16 := fun _ h => (Dev.mem_axesToCut.1 h).1

/-- The frame of a trip but for the axes it cuts. -/
theorem frame_tripped {d : Dev} {m : Nat} (mask : Nat) : Dev.Frame (tripParts m) d ((d.tripShown m mask).tripLatched m) :=
  Frame.trans (Dev.frame_tripShown mask) Dev.frame_tripLatched

theorem dcbTrip_all (m : Fin 2) (hNone : nonePrecedes s.dev) (hOn : s.dev.domOn 3 = true) : Completes (exec (.dcbOvervoltageTrip m) s) fun t =>
    let cut := s.dev.armed 38 4
    t.dev.on (F.BLD_DCBm_STATUS.over m) = true ∧ t.dev.on (F.FLT_SRCi_STATE.active 38) = true ∧ t.dev.on (F.BLD_DCBm_STATUS.latched m) = (cut || s.dev.on (F.BLD_DCBm_STATUS.latched m)) ∧
    strobed s.dev t.dev 38 (m.val * 2 ^ 24 + if cut = true then ((s.dev.axesToCut m).map (2 ^ ·)).sum else 0) (s.dev.get (F.BLD_DCBm_STATUS.reading m)) ∧
    (cut = true → ∀ a ∈ s.dev.axesToCut m, t.dev.bldState a = 9 ∧ (t.dev.bldS a).target = 0 ∧ (t.dev.bldS a).iqRef = 0) ∧
    (∀ a : Fin 16, cut = false ∨ a.val ∉ s.dev.axesToCut m → t.dev.bldState a = s.dev.bldState a) := by
  refine completes_onDev (fun d => d.dcbTrip m) rfl ?_
  have hm := m.isLt
  dsimp only
  by_cases hCut : s.dev.armed 38 4 = true
  · have hTripped := Dev.tripped_cut (d := s.dev) hm (axesMask (s.dev.axesToCut m))
    have hFrame := frame_tripped (d := s.dev) (m := m) (axesMask (s.dev.axesToCut m))
    rw [Dev.dcbTrip_cut hOn hCut, Dev.preceded_none hNone, hCut, if_pos rfl, ← axesMask_eq]
    generalize (s.dev.tripShown m (axesMask (s.dev.axesToCut m))).tripLatched m = e at *
    obtain ⟨hOver, -, hActive, hStrobed, hLatched⟩ := tripped_cuts hm axes_lt hTripped
    refine ⟨hOver, hActive, hLatched, hStrobed, fun _ a ha => ?_, fun a ha => ?_⟩
    · have ha16 := axes_lt a ha
      obtain ⟨f, -, hAfter⟩ := cut_at (d := e) axes_lt Dev.nodup_axesToCut ha
      obtain ⟨hTarget, -, hRef⟩ := Dev.course_bldCut (d := f) (a := a)
      rw [bldState_of_own hAfter, bldS_of_own hAfter]
      exact ⟨Dev.bldState_bldCut ha16, hTarget, hRef⟩
    · rw [bldState_of_own (cuts_elsewhere a.isLt (by simpa using ha)), bldState_of_own (own_of_trip hm a.isLt hFrame)]
  · have hNot : s.dev.armed 38 4 = false := by simpa using hCut
    obtain ⟨hOver, -, hActive, hStrobed, hLatched⟩ := Dev.tripped_uncut (d := s.dev) hm 0
    rw [Dev.dcbTrip_uncut hOn hNot, hNot, if_neg (by decide), Bool.false_or]
    exact ⟨hOver, hActive, hLatched, hStrobed, fun h => absurd h (by decide), fun a _ => bldState_of_own (own_of_trip hm a.isLt (Dev.frame_tripShown 0))⟩

/-- The compare values after a trip are those from before it. -/
theorem compares_tripped {d : Dev} {m : Nat} (mask a : Nat) : ((d.tripShown m mask).tripLatched m).compares a = d.compares a := by
  have hFrame := frame_tripped (d := d) (m := m) mask
  have hShown (k : Nat) (hk : k < 2) : (d.tripShown m mask).get (F.BLD_DCBm_STATUS.reading k) = d.get (F.BLD_DCBm_STATUS.reading k) :=
    Dev.get_tripShown_status F.BLD_DCBm_STATUS.reading mask k hk (fun _ => rfl) rfl (by simp [F.BLD_DCBm_STATUS.reading])
  have hCopies := Dev.copies_tripShown (d := d) (m := m) mask
  generalize d.tripShown m mask = e at *
  refine Dev.compares_congr a (hFrame Part.frd (by simp [tripParts, irqParts, strobeParts])) (Dev.copies_tripLatched.trans hCopies) (fun k hk => ?_) fun k hk => ?_
  · rw [Dev.get_tripLatched, Dev.get_put_dcb F.BLD_DCBm_STATUS.latched F.BLD_DCBm_STATUS.reading 1 k (fun _ => rfl) (fun _ => rfl) rfl rfl rfl, hShown k hk]
  · refine Frame.get hFrame _ ?_
    simp only [tripParts, irqParts, strobeParts, F.BLD_DCBm_NOM.dcb_nom, R.BLD_DCBm_NOM, R.BLD_DCBm_STATUS, R.BLD_IRQ_STATUS, R.FLT_ACTIVE, R.FLT_SRCi_STATE, R.MSIX_PBA,
      List.cons_append, List.nil_append, List.mem_cons, List.not_mem_nil, or_false, Part.reg.injEq, reduceCtorEq, false_or]
    omega

theorem tripParts_subset (m a : Nat) : ∀ p ∈ tripParts m,
    p ∈ [Part.dcb m, Part.flt, Part.reg (R.BLD_DCBm_STATUS m).off, Part.reg R.BLD_IRQ_STATUS.off, Part.reg R.FLT_ACTIVE.off] ++ axParts a ++ strobeParts 38 := by
  have hIrq : ∀ p ∈ irqParts, p ∈ axParts a := fun p hp => by
    simp only [axParts, List.mem_append]
    exact .inr (List.mem_flatMap.2 ⟨0, by simp, by simp [gateParts, hp]⟩)
  intro p hp
  simp only [tripParts, List.mem_append] at hp ⊢
  rcases hp with (hp | hp) | hp
  · exact .inl (.inl hp)
  · exact .inl (.inr (hIrq p hp))
  · exact .inr hp

theorem dcbTrip_one (m : Fin 2) (a : Fin 16) (hNone : nonePrecedes s.dev) (hOn : s.dev.domOn 3 = true) (hAxes : s.dev.axesToCut m = [a.val] ∨ s.dev.axesToCut m = []) :
    Completes (exec (.dcbOvervoltageTrip m) s) fun t =>
      let cut := s.dev.armed 38 4
      t.dev.on (F.BLD_DCBm_STATUS.over m) = true ∧ bit (t.dev.rd R.BLD_IRQ_STATUS) (16 + m) = true ∧ t.dev.on (F.FLT_SRCi_STATE.active 38) = true ∧ bit (t.dev.get F.FLT_ACTIVE.active) 38 = true ∧
      strobed s.dev t.dev 38 (m.val * 2 ^ 24 + (if cut = true ∧ s.dev.axesToCut m ≠ [] then 2 ^ a.val else 0)) (s.dev.get (F.BLD_DCBm_STATUS.reading m)) ∧
      t.dev.on (F.BLD_DCBm_STATUS.latched m) = (cut || s.dev.on (F.BLD_DCBm_STATUS.latched m)) ∧
      (if cut = true ∧ s.dev.axesToCut m ≠ [] then t.dev.bldState a = 9 ∧ (t.dev.bldS a).target = 0 ∧ bit (t.dev.rd (R.BLD_AXa_IRQ_STATUS a)) 6 = true ∧
        (t.dev.bldS a).cmp = s.dev.compares a (openDiv 32 (s.dev.bldS a).obs.eA 65536) (openDiv 33 (s.dev.bldS a).obs.eB 65536) (0, 0, 0) ∧ (t.dev.bldS a).intQ = ((s.dev.bldS a).obs.emag : Nat) * sgn (s.dev.bldS a).obs.omega ∧ (t.dev.bldS a).iqRef = 0 else t.dev.bldState a = s.dev.bldState a) ∧
      s.Frame ([Part.dcb m, Part.flt, Part.reg (R.BLD_DCBm_STATUS m).off, Part.reg R.BLD_IRQ_STATUS.off, Part.reg R.FLT_ACTIVE.off] ++ axParts a ++ strobeParts 38) t := by
  refine completes_onDev (fun d => d.dcbTrip m) rfl ?_
  have hm := m.isLt
  have ha := a.isLt
  dsimp only
  by_cases hCut : s.dev.armed 38 4 = true
  swap
  · have hNot : s.dev.armed 38 4 = false := by simpa using hCut
    obtain ⟨hOver, hIrq, hActive, hStrobed, hLatched⟩ := Dev.tripped_uncut (d := s.dev) hm 0
    have hFrame := Dev.frame_tripShown (d := s.dev) (m := m) 0
    have hBit := (Dev.active_tripShown (d := s.dev) (m := m) 0).2
    rw [Dev.dcbTrip_uncut hOn hNot, hNot, if_neg (by simp), if_neg (by simp), Bool.false_or]
    generalize s.dev.tripShown m 0 = e at *
    exact ⟨hOver, hIrq, hActive, hBit, hStrobed, hLatched, bldState_of_own (own_of_trip hm ha hFrame), Frame.ofDev (Frame.mono hFrame (tripParts_subset m a))⟩
  have hTripped := Dev.tripped_cut (d := s.dev) hm (axesMask (s.dev.axesToCut m))
  have hFrame := frame_tripped (d := s.dev) (m := m) (axesMask (s.dev.axesToCut m))
  have hBit := Dev.active_tripLatched (d := s.dev) hm (axesMask (s.dev.axesToCut m))
  have hCompares := compares_tripped (d := s.dev) (m := m) (axesMask (s.dev.axesToCut m)) a
  rw [Dev.dcbTrip_cut hOn hCut, Dev.preceded_none hNone, hCut]
  rcases hAxes with hOne | hEmpty
  · have hMask : axesMask [a.val] = 2 ^ a.val := by simp [axesMask]
    have hLoops : bldLoops (s.dev.bldState a) = true := Dev.loops_of_cut (m := m) (by rw [hOne]; simp)
    have hNotFault : s.dev.bldState a ≠ 10 := by
      intro h
      rw [h] at hLoops
      exact absurd hLoops (by decide)
    rw [hOne, hMask] at hTripped hFrame hBit hCompares ⊢
    rw [if_pos ⟨rfl, by simp⟩, if_pos ⟨rfl, by simp⟩]
    generalize (s.dev.tripShown m (2 ^ a.val)).tripLatched m = e at *
    have hState := bldState_of_own (own_of_trip hm ha hFrame)
    have hAxis := bldS_of_own (own_of_trip hm ha hFrame)
    obtain ⟨hOver, hIrq, hActive, hStrobed, hLatched⟩ := tripped_cuts (l := [a.val]) hm (by simp [ha]) hTripped
    obtain ⟨hTarget, -, hRef⟩ := Dev.course_bldCut (d := e) (a := a)
    obtain ⟨hCmp, hInt⟩ := Dev.loop_bldCut (d := e) (a := a) (by rw [hState]; exact hLoops)
    have hAx : Dev.Frame (axParts a) e (e.bldCut a) := Frame.bldCut Frame.refl a (fun _ hp => hp) fun h => absurd (hState ▸ h) hNotFault
    have hCutOne : e.each [a.val] Dev.bldCut = e.bldCut a := by rw [Dev.each, List.foldl_cons, List.foldl_nil]
    rw [hCutOne] at hOver hIrq hActive hStrobed hLatched ⊢
    rw [hAxis, hCompares] at hCmp
    rw [hAxis] at hInt
    refine ⟨hOver, hIrq, hActive, ?_, hStrobed, hLatched, ⟨Dev.bldState_bldCut ha, hTarget, Dev.irq_bldCut ha, hCmp, hInt, hRef⟩,
      Frame.ofDev (Frame.trans (Frame.mono hFrame (tripParts_subset m a)) (Frame.mono hAx (by simp +contextual)))⟩
    rw [Frame.get hAx _ (reg_not_mem_axParts ha (by decide) (by decide)), hBit]
  · rw [hEmpty] at hTripped hFrame hBit ⊢
    rw [if_neg (by simp), if_neg (by simp)]
    generalize (s.dev.tripShown m (axesMask [])).tripLatched m = e at *
    obtain ⟨hOver, hIrq, hActive, hStrobed, hLatched⟩ := hTripped
    exact ⟨hOver, hIrq, hActive, hBit, hStrobed, hLatched, bldState_of_own (own_of_trip hm ha hFrame), Frame.ofDev (Frame.mono hFrame (tripParts_subset m a))⟩

/-! ### Precedence over a start and a loss in the same period -/

/-- No record of a loss of synchronism of the axis waits. -/
def NoLoss (a : Nat) (d : Dev) : Prop := d.flt.strobes.any (fun x => x.src = 26 ∧ x.d0 / 65536 = 0x31 * 256 + a) = false

theorem noLoss_of_strobes {d e : Dev} {a : Nat} (h : NoLoss a d) (hStrobes : e.flt.strobes = d.flt.strobes) : NoLoss a e := by
  rw [NoLoss, hStrobes]
  exact h

/-- A frame without strobes keeps that no such record waits. -/
theorem noLoss_of_frame {ps : List Part} {d e : Dev} {a : Nat} (h : NoLoss a d) (hFrame : Dev.Frame ps d e) (hNot : Part.strobes ∉ ps) : NoLoss a e :=
  noLoss_of_strobes h (hFrame Part.strobes hNot)

theorem strobes_not_mem_axParts (a : Nat) : Part.strobes ∉ axParts a ++ activeParts 26 := by simp [axParts, gateAllParts, gateParts, irqParts, activeParts]

theorem strobes_not_mem_startParts (a : Nat) : Part.strobes ∉ startParts a := by simp [startParts, axParts, gateAllParts, gateParts, irqParts, activeParts]

/-- A loss that is not evaluated takes its records with it and adds none. -/
theorem strobes_lossUndone (d : Dev) (a : Nat) : (d.lossUndone a).flt.strobes = d.flt.strobes.filter fun x => !(x.src = 26 && x.d0 / 65536 = 0x31 * 256 + a) := by
  unfold Dev.lossUndone
  extract_lets mine flt e
  have hPut : Dev.Frame [Part.reg (R.BLD_AXa_COUNTS a).off, Part.bld a] e ((e.put (F.BLD_AXa_COUNTS.los a) (e.get (F.BLD_AXa_COUNTS.los a) - 1)).modBld a fun x => { x with restartAt := 0 }) :=
    Frame.modBld (Frame.put Frame.refl _ _ (by simp [F.BLD_AXa_COUNTS.los])) a _ (by simp)
  have hEnter := Frame.bldEnter (ps := axParts a ++ activeParts 26) (d := (e.put (F.BLD_AXa_COUNTS.los a) (e.get (F.BLD_AXa_COUNTS.los a) - 1)).modBld a fun x => { x with restartAt := 0 })
    Frame.refl a 7 (by simp +contextual) (by simp +contextual)
  exact (hEnter Part.strobes (strobes_not_mem_axParts a)).trans (hPut Part.strobes (by simp))

theorem noLoss_lossUndone (d : Dev) (a : Nat) : NoLoss a (d.lossUndone a) := by
  rw [NoLoss, strobes_lossUndone, List.any_eq_false]
  intro x hx
  have hNot := (List.mem_filter.1 hx).2
  simpa [imp_iff_not_or] using hNot

/-- What precedes a cut at another axis adds no such record. -/
theorem noLoss_cutPrecedes {d : Dev} {a : Nat} (b : Nat) (h : NoLoss a d) : NoLoss a (d.cutPrecedes b) := by
  have hLoss : NoLoss a (d.lossUndone b) := by
    rw [NoLoss, strobes_lossUndone, List.any_eq_false]
    exact fun x hx => List.any_eq_false.1 h x (List.mem_filter.1 hx).1
  rw [Dev.cutPrecedes_eq]
  dsimp only
  have hUndone : NoLoss a (if ((d.bldS b).losPer && (d.bldState b = 1 || d.bldState b = 10)) = true then d.lossUndone b else d) := by
    split_ifs
    · exact hLoss
    · exact h
  generalize (if ((d.bldS b).losPer && (d.bldState b = 1 || d.bldState b = 10)) = true then d.lossUndone b else d) = e at *
  split_ifs
  · exact hUndone
  · exact noLoss_of_frame hUndone (Frame.startUndone Frame.refl b _ _ fun _ hp => hp) (strobes_not_mem_startParts b)

theorem noLoss_report {d : Dev} {a src : Nat} (h : NoLoss a d) (hSrc : src ≠ 26) (d0 d1 : Nat) : NoLoss a (d.report src d0 d1) := by
  unfold Dev.report Dev.reportAt Dev.strobe
  split_ifs
  · exact noLoss_of_strobes h rfl
  · simpa [NoLoss, hSrc] using h

/-- The record of a trip is none of a brushless axis. -/
theorem noLoss_tripped {d : Dev} {m mask a : Nat} (h : NoLoss a d) : NoLoss a ((d.tripShown m mask).tripLatched m) := by
  have hFlagged : Dev.Frame ([Part.reg (R.BLD_DCBm_STATUS m).off, Part.reg R.BLD_IRQ_STATUS.off] ++ irqParts) d ((d.put (F.BLD_DCBm_STATUS.over m) 1).busTripFlag m) := Dev.frame_tripFlagged
  have hBefore : NoLoss a (((d.put (F.BLD_DCBm_STATUS.over m) 1).busTripFlag m).setActive 38 true) :=
    noLoss_of_strobes (noLoss_of_frame h hFlagged (by simp [irqParts])) (Dev.strobes_setActive _ _)
  have hShown : NoLoss a (d.tripShown m mask) := by
    rw [Dev.tripShown]
    generalize ((d.put (F.BLD_DCBm_STATUS.over m) 1).busTripFlag m).setActive 38 true = e at *
    exact noLoss_report hBefore (by decide) _ _
  generalize d.tripShown m mask = e at *
  exact noLoss_of_frame (ps := [Part.dcb m, Part.reg (R.BLD_DCBm_STATUS m).off]) hShown
    (by rw [Dev.tripLatched]; exact Frame.setDcb (Frame.put Frame.refl _ _ (by simp [F.BLD_DCBm_STATUS.latched])) _ _ (by simp)) (by simp)

/-- An axis of the bus is given its precedence once; the other axes leave what it holds by itself. -/
theorem precede_at {d : Dev} {m a : Nat} (hCut : d.armed 38 4 = true) (ha : a ∈ d.busAxes m) :
    ∃ e, Dev.Kept (ownParts a) d e ∧ Dev.Kept (ownParts a) (e.cutPrecedes a) (d.preceded m) ∧ (NoLoss a (e.cutPrecedes a) → NoLoss a (d.preceded m)) := by
  obtain ⟨l1, l2, hEach, h1, h2⟩ := Dev.each_at (d := d) Dev.cutPrecedes ha Dev.nodup_busAxes
  have hOther {l' : List Nat} (h' : ∀ b ∈ l', b ∈ d.busAxes m ∧ b ≠ a) (p : Part) (hp : p ∈ ownParts a) : p ∉ l'.flatMap precedeParts := by
    simp only [List.mem_flatMap, not_exists, not_and]
    exact fun b hb => own_not_mem_precedeParts (Dev.mem_busAxes.1 ha).1 (h' b hb).2 p hp
  have hFrame (x : Dev) (l : List Nat) : Dev.Frame (l.flatMap precedeParts) x (x.each l Dev.cutPrecedes) :=
    Dev.frame_each l Dev.cutPrecedes _ fun _ _ _ => Frame.cutPrecedes Frame.refl _ fun _ hp => hp
  refine ⟨d.each l1 Dev.cutPrecedes, fun p hp => hFrame d l1 p (hOther h1 p hp), ?_⟩
  rw [Dev.preceded, if_pos hCut, hEach]
  exact ⟨fun p hp => hFrame _ l2 p (hOther h2 p hp), fun h => Dev.each_keeps (P := NoLoss a) l2 Dev.cutPrecedes (fun x b _ hx => noLoss_cutPrecedes b hx) h⟩

theorem dcbTrip_refusesStart (m : Fin 2) (a : Fin 16) (c : Axis) (hOn : s.dev.domOn 3 = true) (hCut : s.dev.armed 38 4 = true) (hAxis : s.dev.axis a = some c)
    (hBus : c.dcBus = m.val) (hStart : (s.dev.bldS a).startPer = true) (hLoss : (s.dev.bldS a).losPer = false) (hState : s.dev.bldState a = 3)
    (hPer : (s.dev.bldS a).perSt = 2 ∨ (s.dev.bldS a).perSt = 3) : Completes (exec (.dcbOvervoltageTrip m) s) fun t =>
      t.dev.bldState a = (s.dev.bldS a).perSt - 1 ∧ (t.dev.bldS a).target = 0 ∧ t.dev.get (F.BLD_AXa_REFUSE.code a) = 3 ∧ bit (t.dev.rd (R.BLD_AXa_IRQ_STATUS a)) 7 = true ∧
      t.dev.on (F.BLD_DCBm_STATUS.latched m) = true ∧ t.mem = s.mem ∧ t.pending = s.pending := by
  refine completes_onDev (fun d => d.dcbTrip m) rfl ?_
  have hm := m.isLt
  have ha := a.isLt
  obtain ⟨e, hBefore, hAfter, -⟩ := precede_at hCut (Dev.mem_busAxes.2 ⟨ha, c, hAxis, hBus⟩)
  have hUndone : e.cutPrecedes a = ((e.bldRefuse a 3).modBld a fun x => { x with target := 0 }).bldEnter a ((s.dev.bldS a).perSt - 1) := by
    have hIf : (decide (s.dev.bldState a = 3) && (decide ((s.dev.bldS a).perSt = 2) || decide ((s.dev.bldS a).perSt = 3))) = true := by simpa [hState] using hPer
    rw [Dev.cutPrecedes_eq, bldS_of_own hBefore, bldState_of_own hBefore, hStart, hLoss]
    simp only [Bool.false_and, Bool.false_eq_true, if_false, Bool.not_true]
    rw [Dev.startUndone, if_pos hIf]
  have hRefuseIrq : bit (((e.bldRefuse a 3).modBld a fun x => { x with target := 0 }).rd (R.BLD_AXa_IRQ_STATUS a)) 7 = true := Dev.irq_bldRefuse e a 3
  have hRefuseCode : ((e.bldRefuse a 3).modBld a fun x => { x with target := 0 }).get (F.BLD_AXa_REFUSE.code a) = 3 := Dev.code_bldRefuse e a (by decide)
  have hTarget : (((e.bldRefuse a 3).modBld a fun x => { x with target := 0 }).bldS a).target = 0 := by rw [Dev.bldS_modBld]
  generalize ((e.bldRefuse a 3).modBld a fun x => { x with target := 0 }) = f at *
  have hP : (s.dev.preceded m).bldState a = (s.dev.bldS a).perSt - 1 := by
    rw [bldState_of_own hAfter, hUndone, Dev.bldState_bldEnter _ ha (by omega)]
  have hNotCut : a.val ∉ (s.dev.preceded m).axesToCut m := fun h => by
    have hIn := (Dev.mem_axesToCut.1 h).2.2
    omega
  rw [Dev.dcbTrip_cut hOn hCut]
  have hTripped := Dev.tripped_cut (d := s.dev.preceded m) hm (axesMask ((s.dev.preceded m).axesToCut m))
  have hOwn := own_of_trip hm ha (frame_tripped (d := s.dev.preceded m) (m := m) (axesMask ((s.dev.preceded m).axesToCut m)))
  generalize ((s.dev.preceded m).tripShown m (axesMask ((s.dev.preceded m).axesToCut m))).tripLatched m = g at *
  have hLast := cuts_elsewhere (d := g) ha hNotCut
  have hEnd := tripped_cuts hm (axes_lt (d := s.dev.preceded m) (m := m)) hTripped
  generalize g.each ((s.dev.preceded m).axesToCut m) Dev.bldCut = t at *
  refine ⟨?_, ?_, ?_, ?_, hEnd.latched, rfl, rfl⟩
  · rw [bldState_of_own hLast, bldState_of_own hOwn, hP]
  · rw [bldS_of_own hLast, bldS_of_own hOwn, bldS_of_own hAfter, hUndone, Dev.target_bldEnter, hTarget]
  · rw [code_of_own hLast, code_of_own hOwn, code_of_own hAfter, hUndone, Dev.code_bldEnter ha, hRefuseCode]
  · rw [irq_of_own hLast, irq_of_own hOwn, irq_of_own hAfter, hUndone]
    exact Dev.irq_bldEnter_of_bit _ ha (by decide) hRefuseIrq

/-- The counts of an axis are none of what entering a state changes. -/
theorem los_not_mem_parts {a : Nat} (ha : a < 16) : Part.reg (F.BLD_AXa_COUNTS.los a).reg.off ∉ axParts a ++ activeParts 26 := by
  simp [axParts, gateAllParts, gateParts, irqParts, activeParts, F.BLD_AXa_COUNTS.los, R.BLD_AXa_COUNTS, R.BLD_AXa_STATUS, R.BLD_AXa_IRQ_STATUS, R.BLD_AXa_REMAIN,
    R.CHn_FGT_STATUS, R.CHn_FGT_COUNTS, R.CHn_FGT_IRQ_STATUS, R.MSIX_PBA, R.FLT_ACTIVE, R.FLT_SRCi_STATE]
  exact ⟨fun n hn => by omega, by omega, by omega⟩

/-- A loss that is not evaluated is uncounted, and the axis runs. -/
theorem lossUndone_shows {a : Nat} (ha : a < 16) (d : Dev) :
    (d.lossUndone a).bldState a = 7 ∧ (d.lossUndone a).get (F.BLD_AXa_COUNTS.los a) = d.get (F.BLD_AXa_COUNTS.los a) - 1 := by
  unfold Dev.lossUndone
  extract_lets mine flt e
  have hSame : e.get (F.BLD_AXa_COUNTS.los a) = d.get (F.BLD_AXa_COUNTS.los a) := rfl
  rw [hSame]
  generalize hLos : d.get (F.BLD_AXa_COUNTS.los a) = n at *
  have hPut : (e.put (F.BLD_AXa_COUNTS.los a) (n - 1)).get (F.BLD_AXa_COUNTS.los a) = n - 1 := by
    have hLt : n < 2 ^ ((F.BLD_AXa_COUNTS.los a).hi + 1 - (F.BLD_AXa_COUNTS.los a).lo) := hLos ▸ Dev.get_lt d _
    rw [Dev.get_put_same _ _ _ rfl]
    exact Nat.mod_eq_of_lt (by omega)
  have hMod : ((e.put (F.BLD_AXa_COUNTS.los a) (n - 1)).modBld a fun x => { x with restartAt := 0 }).get (F.BLD_AXa_COUNTS.los a) = n - 1 := by
    rw [Dev.get_modBld, hPut]
  generalize (e.put (F.BLD_AXa_COUNTS.los a) (n - 1)).modBld a (fun x => { x with restartAt := 0 }) = f at *
  refine ⟨Dev.bldState_bldEnter _ ha (by decide), ?_⟩
  rw [Frame.get (ps := axParts a ++ activeParts 26) (Frame.bldEnter Frame.refl a 7 (by simp +contextual) (by simp +contextual)) _ (los_not_mem_parts ha), hMod]

theorem frd_preceded (d : Dev) (m : Nat) : (d.preceded m).frd = d.frd := by
  unfold Dev.preceded
  split_ifs
  · exact Dev.frame_each (d.busAxes m) Dev.cutPrecedes precedeParts (fun _ _ _ => Frame.cutPrecedes Frame.refl _ fun _ hp => hp) Part.frd
      (by simp [precedeParts, axParts, gateAllParts, gateParts, irqParts, activeParts])
  · rfl

theorem strobes_not_mem_cuts {l : List Nat} : Part.strobes ∉ l.flatMap fun a => axParts a ++ activeParts 26 := by
  simp only [List.mem_flatMap, not_exists, not_and]
  exact fun a _ => strobes_not_mem_axParts a

theorem los_bldCut {d : Dev} {a : Nat} (ha : a < 16) : (d.bldCut a).get (F.BLD_AXa_COUNTS.los a) = d.get (F.BLD_AXa_COUNTS.los a) :=
  Frame.get (ps := axParts a ++ activeParts 26) (Frame.bldCut Frame.refl a (by simp +contextual) (by simp +contextual)) _ (los_not_mem_parts ha)

theorem dcbTrip_undoesLoss (m : Fin 2) (a : Fin 16) (c : Axis) (hOn : s.dev.domOn 3 = true) (hCut : s.dev.armed 38 4 = true) (hAxis : s.dev.axis a = some c)
    (hBus : c.dcBus = m.val) (hStart : (s.dev.bldS a).startPer = false) (hLoss : (s.dev.bldS a).losPer = true)
    (hState : s.dev.bldState a = 1 ∨ s.dev.bldState a = 10) : Completes (exec (.dcbOvervoltageTrip m) s) fun t =>
      t.dev.bldState a = 9 ∧ t.dev.get (F.BLD_AXa_COUNTS.los a) = s.dev.get (F.BLD_AXa_COUNTS.los a) - 1 ∧ (t.dev.bldS a).restartAt = 0 ∧
      t.dev.flt.strobes.any (fun x => x.src = 26 ∧ x.d0 / 65536 = 0x31 * 256 + a.val) = false ∧ t.dev.on (F.BLD_DCBm_STATUS.latched m) = true ∧ t.mem = s.mem ∧ t.pending = s.pending := by
  refine completes_onDev (fun d => d.dcbTrip m) rfl ?_
  have hm := m.isLt
  have ha := a.isLt
  obtain ⟨e, hBefore, hAfter, hNoLoss⟩ := precede_at hCut (Dev.mem_busAxes.2 ⟨ha, c, hAxis, hBus⟩)
  have hUndone : e.cutPrecedes a = e.lossUndone a := by
    have hIf : (decide (s.dev.bldState a = 1) || decide (s.dev.bldState a = 10)) = true := by simpa using hState
    rw [Dev.cutPrecedes_eq, bldS_of_own hBefore, bldState_of_own hBefore, hStart, hLoss, hIf]
    simp only [Bool.and_self, if_true, Bool.not_false]
  obtain ⟨hSeven, hCount⟩ := lossUndone_shows ha e
  have hRecords := hNoLoss (by rw [hUndone]; exact noLoss_lossUndone e a)
  have hState7 : (s.dev.preceded m).bldState a = 7 := by rw [bldState_of_own hAfter, hUndone, hSeven]
  have hLos : (s.dev.preceded m).get (F.BLD_AXa_COUNTS.los a) = s.dev.get (F.BLD_AXa_COUNTS.los a) - 1 := by
    rw [los_of_own hAfter, hUndone, hCount, los_of_own hBefore]
  have hFrd : (s.dev.preceded m).frd = s.dev.frd := frd_preceded s.dev m
  have hIn : a.val ∈ (s.dev.preceded m).axesToCut m :=
    Dev.mem_axesToCut.2 ⟨ha, ⟨c, by rw [Dev.axis, hFrd, ← Dev.axis, hAxis], hBus⟩, .inr (.inr (.inr (.inl hState7)))⟩
  rw [Dev.dcbTrip_cut hOn hCut]
  generalize s.dev.preceded m = p at *
  have hTripped := Dev.tripped_cut (d := p) hm (axesMask (p.axesToCut m))
  have hOwn := own_of_trip hm ha (frame_tripped (d := p) (m := m) (axesMask (p.axesToCut m)))
  have hQuiet := noLoss_tripped (m := m) (mask := axesMask (p.axesToCut m)) hRecords
  generalize (p.tripShown m (axesMask (p.axesToCut m))).tripLatched m = g at *
  obtain ⟨f, hf, hLast⟩ := cut_at (d := g) (axes_lt (d := p) (m := m)) Dev.nodup_axesToCut hIn
  have hEnd := tripped_cuts hm (axes_lt (d := p) (m := m)) hTripped
  have hQuiet' := noLoss_of_frame hQuiet (frame_cuts g (p.axesToCut m)) strobes_not_mem_cuts
  generalize g.each (p.axesToCut m) Dev.bldCut = t at *
  obtain ⟨-, hRestart, -⟩ := Dev.course_bldCut (d := f) (a := a)
  refine ⟨?_, ?_, ?_, hQuiet', hEnd.latched, rfl, rfl⟩
  · rw [bldState_of_own hLast, Dev.bldState_bldCut ha]
  · rw [los_of_own hLast, los_bldCut ha, los_of_own hf, los_of_own hOwn, hLos]
  · rw [bldS_of_own hLast, hRestart]

end

/-- Settles O38: a trip shows itself, then cuts the axes that loop, after what it precedes in the period is undone. -/
theorem dcBuses : Obligations.DcBuses :=
  ⟨fun _ m a c hOn hCut hAxis hBus ⟨hStart, hLoss⟩ hState hPer => dcbTrip_refusesStart m a c hOn hCut hAxis hBus hStart hLoss hState hPer,
    fun _ m a c hOn hCut hAxis hBus ⟨hStart, hLoss⟩ hState => dcbTrip_undoesLoss m a c hOn hCut hAxis hBus hStart hLoss hState,
    fun _ m v hOn => dcbSample_step m v hOn, fun _ m a hNone hOn hAxes => dcbTrip_one m a hNone hOn hAxes, fun _ m hOn => dcbClear_step m hOn,
    fun _ m hNone hOn => dcbTrip_all m hNone hOn, fun _ m v hOff => dcb_unpowered m v hOff⟩

end Sys2Proof.Proofs
end

-- ==== Sitting: a calibration record of no sensor (O60) ====
section
/-! PROOF. A calibration record of no sensor (O60). -/
open Sys2Proof Sys2Proof.Machine Sys2Proof.Claims
set_option maxRecDepth 20000

namespace Sys2Proof.Proofs

/-- A record of kind 7 for a sensor 10232 waits; its TMP_Ss_CFG has the enable bit alone. -/
def strangeRecord : CalRec := ⟨7, 10232, 0, List.replicate 47 0 ++ [128]⟩

/-- The record waits while CAL_STATUS holds what TMP_Ss_LEVELS of a late sensor holds after reset: 2047 records have been applied. -/
def strangeRecordState : State := { dev := ({ cal := { waits := [strangeRecord] } } : Dev).wr R.CAL_STATUS 0x7fff7fff }

theorem strangeRecordState_applied : strangeRecordState.dev.calOne.get F.CAL_STATUS.applied = 1 := by
  decide

/-- Refutes O60: the clause on one record that is applied takes any record that waits. TMP_Ss_LEVELS of sensor 10232 would stand at the offset of
CAL_STATUS, and a register that holds its reset value is kept by nothing: the write empties CAL_STATUS, and the 2047 records that it counted are
forgotten. -/
theorem not_calibration : ¬ Obligations.Calibration := by
  unfold Obligations.Calibration
  rintro ⟨-, -, hApply, -⟩
  obtain ⟨t, hRun, -, hApplied, -⟩ := hApply strangeRecordState strangeRecord (by decide) (by decide)
  cases hRun
  exact absurd (strangeRecordState_applied.symm.trans hApplied) (by decide)

end Sys2Proof.Proofs
end

-- ==== Sitting: the units of a Beam Link port (O30) ====
section
/-! PROOF. The units that leave a Beam Link port (R230-R237), clause by clause (O30). -/
open Sys2Proof Sys2Proof.Machine Sys2Proof.Claims
set_option maxRecDepth 20000

namespace Sys2Proof.Machine

section
variable {d e : Dev} {n : Nat}

/-! ### Control units (R235) -/

/-- The bytes of a control unit with its CRC. -/
def Dev.portUnit (d : Dev) (n code value : Nat) : List Nat :=
  let b := [d.ctlByte n, code <<< 4 + d.get (F.CHn_FGT_STATUS.permit n)] ++ leBytes 2 (d.chS n).q ++ leBytes 3 value
  b ++ [crc8 b]

theorem Dev.sendCtl_eq (code value : Nat) : d.sendCtl n code value = d.emit (.beam n (d.portUnit n code value)) := rfl

/-- A control unit depends on the channel's mode, permit and Q alone. -/
theorem Dev.portUnit_congr (code value : Nat) (hFrd : e.frd = d.frd) (hPermit : e.get (F.CHn_FGT_STATUS.permit n) = d.get (F.CHn_FGT_STATUS.permit n))
    (hQ : (e.chS n).q = (d.chS n).q) : e.portUnit n code value = d.portUnit n code value := by
  have hByte : e.ctlByte n = d.ctlByte n := by rw [Dev.ctlByte, Dev.blMode, Dev.chan, hFrd, Dev.ctlByte, Dev.blMode, Dev.chan]
  unfold Dev.portUnit
  rw [hByte, hPermit, hQ]

theorem Dev.portUnit_modCh (u : ChSt → ChSt) (code value : Nat) (hQ : (u (d.chS n)).q = (d.chS n).q) : (d.modCh n u).portUnit n code value = d.portUnit n code value :=
  Dev.portUnit_congr code value rfl rfl (by rw [Dev.chS_modCh_same, hQ])

/-- Time alone changes no control unit. -/
theorem Dev.portUnit_of_time (code value : Nat) (h : Dev.Frame timeParts d e) : e.portUnit n code value = d.portUnit n code value := by
  refine Dev.portUnit_congr code value (h Part.frd (by simp [timeParts])) (Frame.get h _ ?_) (congrArg ChSt.q (Dev.chS_of_frame h (by simp [timeParts])))
  simp only [timeParts, F.CHn_FGT_STATUS.permit, R.CHn_FGT_STATUS, R.EVT_TIME, R.SYS_SECONDS, List.mem_cons, List.not_mem_nil, or_false, Part.reg.injEq, reduceCtorEq, false_or]
  omega

/-! ### The frames of a slot (R230, R233) -/

theorem Dev.facetOf_modCh (u : ChSt → ChSt) (k : Nat) : (d.modCh n u).facetOf n k = d.facetOf n k := rfl

/-- Noting which slot has been sent changes no SCAN_HEAD. -/
theorem Dev.scanHead_sent (v k q : Nat) (sc : Option Scan) (skip : Bool) :
    (d.modCh n fun c => { c with sent := v }).scanHead n k q sc skip = d.scanHead n k q sc skip := by
  have hTag : ((d.modCh n fun c => { c with sent := v }).chS n).sq.tag = (d.chS n).sq.tag := by rw [Dev.chS_modCh_same]
  unfold Dev.scanHead
  rw [hTag]
  rfl

/-- The slot k is noted as sent and its SCAN_HEAD has left. -/
def Dev.headSent (d : Dev) (n k q : Nat) (sc : Option Scan) (skip : Bool) : Dev :=
  ((d.modCh n fun c => { c with sent := k + 1 }).emit (.beam n (d.scanHead n k q sc skip))).count (F.CHn_BLP_FRAMES.frames n)

/-- A frame leaves and is counted. -/
def Dev.frameSent (d : Dev) (n : Nat) (bytes : List Nat) : Dev := (d.emit (.beam n bytes)).count (F.CHn_BLP_FRAMES.frames n)

/-- What sending frames changes. -/
def sentParts (n : Nat) : List Part := [Part.out, Part.ch n, Part.reg (R.CHn_BLP_FRAMES n).off]

theorem Dev.frame_headSent (k q : Nat) (sc : Option Scan) (skip : Bool) : Dev.Frame (sentParts n) d (d.headSent n k q sc skip) :=
  Frame.count (Frame.emit (Frame.modCh Frame.refl n _ (by simp [sentParts])) _ (by simp [sentParts])) _ _ (by simp [sentParts, F.CHn_BLP_FRAMES.frames])

theorem Frame.frameSent {ps : List Part} (h : Dev.Frame ps d e) (bytes : List Nat) (ho : Part.out ∈ ps) (hr : Part.reg (R.CHn_BLP_FRAMES n).off ∈ ps) :
    Dev.Frame ps d (e.frameSent n bytes) := Frame.count (Frame.emit h _ ho) _ _ hr

theorem Dev.out_headSent (k q : Nat) (sc : Option Scan) (skip : Bool) : (d.headSent n k q sc skip).out = .beam n (d.scanHead n k q sc skip) :: d.out := rfl
theorem Dev.out_frameSent (bytes : List Nat) : (d.frameSent n bytes).out = .beam n bytes :: d.out := rfl
theorem Dev.chS_frameSent (bytes : List Nat) : (d.frameSent n bytes).chS n = d.chS n := rfl

theorem Dev.sent_headSent (k q : Nat) (sc : Option Scan) (skip : Bool) : ((d.headSent n k q sc skip).chS n).sent = k + 1 := by
  have hCh : (d.headSent n k q sc skip).chS n = (d.modCh n fun c => { c with sent := k + 1 }).chS n := rfl
  rw [hCh, Dev.chS_modCh_same]

/-- One frame more has left. -/
theorem Dev.frames_headSent (k q : Nat) (sc : Option Scan) (skip : Bool) :
    (d.headSent n k q sc skip).get (F.CHn_BLP_FRAMES.frames n) = min (d.get (F.CHn_BLP_FRAMES.frames n) + 1) (2 ^ 64 - 1) :=
  Dev.get_count_same _ _ _ rfl

theorem Dev.frames_frameSent (bytes : List Nat) :
    (d.frameSent n bytes).get (F.CHn_BLP_FRAMES.frames n) = min (d.get (F.CHn_BLP_FRAMES.frames n) + 1) (2 ^ 64 - 1) :=
  Dev.get_count_same _ _ _ rfl

/-- Frames that leave one after another: as many more, above what has left before, each counted. -/
theorem Dev.each_frameSent {α : Type} (l : List α) (bytes : Dev → α → List Nat) :
    ((d.each l fun x i => x.frameSent n (bytes x i)).out.length = d.out.length + l.length ∧
      (d.each l fun x i => x.frameSent n (bytes x i)).out.drop l.length = d.out ∧ (d.each l fun x i => x.frameSent n (bytes x i)).chS n = d.chS n) ∧
    (d.get (F.CHn_BLP_FRAMES.frames n) ≤ 2 ^ 64 - 1 →
      (d.each l fun x i => x.frameSent n (bytes x i)).get (F.CHn_BLP_FRAMES.frames n) = min (d.get (F.CHn_BLP_FRAMES.frames n) + l.length) (2 ^ 64 - 1)) := by
  unfold Dev.each
  induction l generalizing d with
  | nil => exact ⟨⟨rfl, rfl, rfl⟩, fun h => by simpa using h⟩
  | cons i l ih =>
    obtain ⟨⟨hLength, hDrop, hCh⟩, hCount⟩ := ih (d := d.frameSent n (bytes d i))
    have hFrames := Dev.frames_frameSent (d := d) (n := n) (bytes d i)
    rw [Dev.out_frameSent] at hLength hDrop
    rw [Dev.chS_frameSent] at hCh
    rw [hFrames] at hCount
    refine ⟨⟨?_, ?_, hCh⟩, fun _ => ?_⟩
    · rw [List.foldl_cons, hLength, List.length_cons, List.length_cons]
      omega
    · rw [List.foldl_cons, List.length_cons, ← List.drop_drop, hDrop, List.drop_one, List.tail_cons]
    · rw [List.foldl_cons, hCount (min_le_right _ _), List.length_cons]
      omega

/-! ### What SLOT_FRAMES_SEND sends (R233) -/

/-- A slot is ready to leave: its grid runs, it has not been sent, and the codes of its scan are screened. -/
structure Dev.SlotReady (d : Dev) (n : Nat) : Prop where
  powered : d.domOn (4 + n) = true
  grid : d.gridP n ≠ 0
  runs : d.evt.running = true
  active : d.port n = 5
  enabled : d.on (F.CHn_FGT_STATUS.disabled n) = false
  unsent : (d.chS n).sent ≤ (d.chS n).slot
  screened : ∀ sc ∈ (d.chS n).next, (d.chS n).screenQ.any (fun r => r.1 ≤ sc.s) = false

/-- Whether frame i of a scan over so many segments is left out by a member in LOCKSTEP (R391). -/
def Dev.leftOut (d : Dev) (n f : Nat) (sc : Scan) (segs : Nat) (lockstep : Bool) (i : Nat) : Bool :=
  lockstep && d.frameForced n f sc (i / ((segs + 63) / 64)) (64 * (i % ((segs + 63) / 64))) (min 64 (segs - 64 * (i % ((segs + 63) / 64))))

/-- The bytes of frame i of a scan over so many segments. -/
def Dev.scanFrame (d : Dev) (n f q : Nat) (sc : Scan) (segs i : Nat) : List Nat :=
  d.segFrame n f q sc (i / ((segs + 63) / 64)) (64 * (i % ((segs + 63) / 64))) (min 64 (segs - 64 * (i % ((segs + 63) / 64)))) (q + 1 + i)

/-- The SEGMENTS frames of a scan. -/
def Dev.scanSent (d : Dev) (n k q : Nat) (sc : Scan) (lockstep : Bool) : Dev :=
  d.each (List.range (d.beamsOf n * ((d.segments n + 63) / 64))) fun x i =>
    if x.leftOut n (d.facetOf n k) sc (d.segments n) lockstep i = true then x else x.frameSent n (x.scanFrame n (d.facetOf n k) q sc (d.segments n) i)

theorem Dev.slotFrames_ready (h : d.SlotReady n) : d.slotFrames n = d.sendFrames n (d.chS n).slot (d.get (F.CHn_BLP_SEQ.next_q n)) (d.chS n).next := by
  have hScreened := h.screened
  unfold Dev.slotFrames
  dsimp only
  refine if_pos ?_
  rcases hNext : (d.chS n).next with - | sc
  · simp [h.powered, h.grid, h.runs, h.unsent]
  · have hCodes := hScreened sc (by rw [hNext]; rfl)
    simp [h.powered, h.grid, h.runs, h.unsent, hCodes]

theorem Dev.sendFrames_notActive (hPort : d.port n ≠ 5) (k q : Nat) (sc : Option Scan) : d.sendFrames n k q sc = d := by
  rw [Dev.sendFrames, if_pos (by simp [hPort])]

theorem Dev.sendFrames_none (hPort : d.port n = 5) (hOn : d.on (F.CHn_FGT_STATUS.disabled n) = false) (k q : Nat) :
    d.sendFrames n k q none = d.headSent n k q none false := by
  unfold Dev.sendFrames
  rw [if_neg (by simp [hPort, hOn])]
  simp only [Option.isSome_none, Bool.false_and]
  rw [Dev.scanHead_sent, Dev.headSent]

theorem Dev.sendFrames_dropped (hPort : d.port n = 5) (hOn : d.on (F.CHn_FGT_STATUS.disabled n) = false) (k q : Nat) (sc : Scan) (hDropped : (d.chS n).dropped = true) :
    d.sendFrames n k q (some sc) = d.headSent n k q (some sc) true := by
  unfold Dev.sendFrames
  rw [if_neg (by simp [hPort, hOn])]
  simp only [Option.isSome_some, Bool.true_and, hDropped, if_true]
  rw [Dev.scanHead_sent, Dev.headSent]

theorem Dev.sendFrames_some (hPort : d.port n = 5) (hOn : d.on (F.CHn_FGT_STATUS.disabled n) = false) (k q : Nat) (sc : Scan) (hDropped : (d.chS n).dropped = false) :
    d.sendFrames n k q (some sc) = (d.headSent n k q (some sc) false).scanSent n k q sc (d.twin && d.get F.TWN_STATUS.state = 3) := by
  have hState : (d.headSent n k q (some sc) false).get F.TWN_STATUS.state = d.get F.TWN_STATUS.state :=
    Frame.get (Dev.frame_headSent k q (some sc) false) _ (by simp [sentParts, F.TWN_STATUS.state, R.TWN_STATUS, R.CHn_BLP_FRAMES]; omega)
  have hTwin : (d.headSent n k q (some sc) false).twin = d.twin := rfl
  have hFacet : (d.headSent n k q (some sc) false).facetOf n k = d.facetOf n k := rfl
  unfold Dev.sendFrames
  rw [if_neg (by simp [hPort, hOn])]
  simp only [Option.isSome_some, Bool.true_and, hDropped, Bool.false_eq_true, if_false]
  rw [Dev.scanHead_sent, ← Dev.headSent, hState, hTwin, Dev.scanSent, hFacet]
  rfl

/-- The frames of a scan leave above what has left before. -/
theorem Dev.scanSent_keeps (k q : Nat) (sc : Scan) (lockstep : Bool) : d.out <:+ (d.scanSent n k q sc lockstep).out ∧ (d.scanSent n k q sc lockstep).chS n = d.chS n := by
  refine Dev.each_keeps (P := fun x => d.out <:+ x.out ∧ x.chS n = d.chS n) _ _ (fun x i _ ⟨hOut, hCh⟩ => ?_) ⟨List.suffix_refl _, rfl⟩
  split_ifs
  · exact ⟨hOut, hCh⟩
  · exact ⟨hOut.trans (List.suffix_cons _ _), hCh⟩

/-- Whatever the slot holds, it is noted as sent and its frames leave above what has left before. -/
theorem sendFrames_shows (h : d.SlotReady n) (sc : Option Scan) (q : Nat) :
    ((d.sendFrames n (d.chS n).slot q sc).chS n).sent = (d.chS n).slot + 1 ∧ d.out <:+ (d.sendFrames n (d.chS n).slot q sc).out := by
  have hHead (skip : Bool) : d.out <:+ (d.headSent n (d.chS n).slot q sc skip).out := List.suffix_cons _ _
  rcases sc with - | sc
  · rw [Dev.sendFrames_none h.active h.enabled]
    exact ⟨Dev.sent_headSent _ _ _ _, hHead false⟩
  rcases hDropped : (d.chS n).dropped with - | -
  · rw [Dev.sendFrames_some h.active h.enabled _ _ _ hDropped]
    have hSent := Dev.sent_headSent (d := d) (n := n) (d.chS n).slot q (some sc) false
    have hOut := hHead false
    generalize d.headSent n (d.chS n).slot q (some sc) false = e at *
    obtain ⟨hScanOut, hScanCh⟩ := Dev.scanSent_keeps (d := e) (n := n) (d.chS n).slot q sc (d.twin && d.get F.TWN_STATUS.state = 3)
    exact ⟨by rw [hScanCh, hSent], hOut.trans hScanOut⟩
  · rw [Dev.sendFrames_dropped h.active h.enabled _ _ _ hDropped]
    exact ⟨Dev.sent_headSent _ _ _ _, hHead true⟩

theorem Dev.frame_scanSent (k q : Nat) (sc : Scan) (lockstep : Bool) : Dev.Frame (sentParts n) d (d.scanSent n k q sc lockstep) := by
  refine Frame.each _ _ (fun x i _ => ?_) Frame.refl
  exact Frame.ite Frame.refl (Frame.frameSent Frame.refl _ (by simp [sentParts]) (by simp [sentParts]))

/-- Outside LOCKSTEP no frame is left out. -/
theorem Dev.scanSent_all (k q : Nat) (sc : Scan) : d.scanSent n k q sc false =
    d.each (List.range (d.beamsOf n * ((d.segments n + 63) / 64))) fun x i => x.frameSent n (x.scanFrame n (d.facetOf n k) q sc (d.segments n) i) := by
  simp only [Dev.scanSent, Dev.leftOut, Bool.false_and, Bool.false_eq_true, if_false]

end

end Sys2Proof.Machine

namespace Sys2Proof.Proofs

section
variable {s : State} (n : Fin 8)

/-! ### SLOT_FRAMES_SEND (R233) -/

theorem slotFrames_sent (h : s.dev.SlotReady n) : Completes (exec (.slotFramesSend n) s) fun t =>
    (t.dev.chS n).sent = (s.dev.chS n).slot + 1 ∧ s.dev.out <:+ t.dev.out ∧ t.mem = s.mem ∧ t.pending = s.pending := by
  refine completes_onDev (fun d => d.slotFrames n) rfl ⟨?_, ?_, rfl, rfl⟩
  all_goals
    rw [Dev.slotFrames_ready h]
    generalize s.dev.get (F.CHn_BLP_SEQ.next_q n) = q
    generalize hNext : (s.dev.chS n).next = next
  · exact (sendFrames_shows h next q).1
  · exact (sendFrames_shows h next q).2

theorem slotFrames_idle (h : s.dev.SlotReady n) (hNext : (s.dev.chS n).next = none) : Completes (exec (.slotFramesSend n) s) fun t =>
    t.dev.out = .beam n (s.dev.scanHead n (s.dev.chS n).slot (s.dev.get (F.CHn_BLP_SEQ.next_q n)) none false) :: s.dev.out ∧ (t.dev.chS n).sent = (s.dev.chS n).slot + 1 ∧
    t.dev.get (F.CHn_BLP_FRAMES.frames n) = min (s.dev.get (F.CHn_BLP_FRAMES.frames n) + 1) (2 ^ 64 - 1) ∧ s.Frame [Part.out, Part.ch n, Part.reg (R.CHn_BLP_FRAMES n).off] t := by
  refine completes_onDev (fun d => d.slotFrames n) rfl ?_
  rw [Dev.slotFrames_ready h, hNext, Dev.sendFrames_none h.active h.enabled]
  exact ⟨Dev.out_headSent _ _ _ _, Dev.sent_headSent _ _ _ _, Dev.frames_headSent _ _ _ _, Frame.ofDev (Dev.frame_headSent _ _ _ _)⟩

theorem slotFrames_scan (sc : Scan) (h : s.dev.SlotReady n) (hTwin : s.dev.twin = false) (hNext : (s.dev.chS n).next = some sc) (hDropped : (s.dev.chS n).dropped = false) :
    Completes (exec (.slotFramesSend n) s) fun t =>
      let nf := s.dev.beamsOf n * ((s.dev.segments n + 63) / 64)
      t.dev.out.length = s.dev.out.length + 1 + nf ∧ t.dev.out.drop nf = .beam n (s.dev.scanHead n (s.dev.chS n).slot (s.dev.get (F.CHn_BLP_SEQ.next_q n)) (some sc) false) :: s.dev.out ∧
      (t.dev.chS n).sent = (s.dev.chS n).slot + 1 ∧ t.dev.get (F.CHn_BLP_FRAMES.frames n) = min (s.dev.get (F.CHn_BLP_FRAMES.frames n) + 1 + nf) (2 ^ 64 - 1) ∧
      s.Frame [Part.out, Part.ch n, Part.reg (R.CHn_BLP_FRAMES n).off] t := by
  refine completes_onDev (fun d => d.slotFrames n) rfl ?_
  rw [Dev.slotFrames_ready h, hNext, Dev.sendFrames_some h.active h.enabled _ _ _ hDropped, hTwin, Bool.false_and]
  generalize (s.dev.chS n).slot = k
  generalize s.dev.get (F.CHn_BLP_SEQ.next_q n) = q
  have hBeams : (s.dev.headSent n k q (some sc) false).beamsOf n = s.dev.beamsOf n := rfl
  have hSegments : (s.dev.headSent n k q (some sc) false).segments n = s.dev.segments n := rfl
  have hHeadOut := Dev.out_headSent (d := s.dev) (n := n) k q (some sc) false
  have hHeadSent := Dev.sent_headSent (d := s.dev) (n := n) k q (some sc) false
  have hHeadFrames := Dev.frames_headSent (d := s.dev) (n := n) k q (some sc) false
  have hHeadFrame := Dev.frame_headSent (d := s.dev) (n := n) k q (some sc) false
  generalize s.dev.headSent n k q (some sc) false = e at *
  have hScanFrame := Dev.frame_scanSent (d := e) (n := n) k q sc false
  rw [Dev.scanSent_all, hBeams, hSegments] at hScanFrame ⊢
  obtain ⟨⟨hLength, hDrop, hCh⟩, hCount⟩ := Dev.each_frameSent (d := e) (n := n) (List.range (s.dev.beamsOf n * ((s.dev.segments n + 63) / 64)))
    fun x i => x.scanFrame n (e.facetOf n k) q sc (s.dev.segments n) i
  generalize e.each _ _ = f at *
  rw [List.length_range] at hLength hDrop hCount
  refine ⟨?_, hDrop.trans hHeadOut, ?_, ?_, Frame.ofDev (Frame.trans hHeadFrame hScanFrame)⟩
  · rw [hLength, hHeadOut, List.length_cons]
  · rw [hCh, hHeadSent]
  · rw [hCount (by omega), hHeadFrames]
    omega

/-! ### Units of ports in other states (R233-R237) -/

theorem units_notActive (hPort : s.dev.port n ≠ 5) : Completes (exec (.slotFramesSend n) s) (fun t => t = s) ∧ Completes (exec (.markSend n) s) (fun t => t = s) ∧
    Completes (exec (.permitUnitPeriodic n) s) (fun t => t = s) := by
  refine ⟨completes_onDev (fun d => d.slotFrames n) rfl ?_, completes_onDev (fun d => d.markSend n) rfl ?_, completes_onDev (fun d => d.permitUnit n) rfl ?_⟩
  · unfold Dev.slotFrames
    dsimp only
    rw [Dev.sendFrames_notActive hPort, ite_self]
  · rw [Dev.markSend, if_pos (by simp [hPort])]
  · rw [Dev.permitUnit, if_pos (by simp [hPort])]

theorem probe_notLatency (hPort : s.dev.port n ≠ 3) : Completes (exec (.probeSend n) s) fun t => t = s := by
  refine completes_onDev (fun d => d.probeSend n) rfl ?_
  rw [Dev.probeSend, if_pos (by simp [hPort])]

/-! ### Control units (R234, R235, R237) -/

theorem permitUnit_sent (hPort : s.dev.port n = 5) (hOn : s.dev.on (F.CHn_FGT_STATUS.disabled n) = false) : Completes (exec (.permitUnitPeriodic n) s) fun t =>
    let b := [s.dev.ctlByte n, 0x20 + s.dev.get (F.CHn_FGT_STATUS.permit n)] ++ leBytes 2 (s.dev.chS n).q ++ [0, 0, 0]
    t.dev.out = .beam n (b ++ [crc8 b]) :: s.dev.out ∧ t.dev.sys.now8 = max s.dev.sys.now8 ((s.dev.chS n).permAt + 1250) ∧ (t.dev.chS n).permAt = t.dev.sys.now8 ∧
    s.Frame ([Part.out, Part.ch n] ++ timeParts) t := by
  refine completes_onDev (fun d => d.permitUnit n) rfl ?_
  rw [Dev.permitUnit, if_neg (by simp [hPort, hOn])]
  dsimp only
  have hTime : Dev.Frame timeParts s.dev (s.dev.advance8To ((s.dev.chS n).permAt + 1250)) := Frame.advance8To Frame.refl _ fun _ h => h
  have hClock := Dev.now8_advance8To s.dev ((s.dev.chS n).permAt + 1250)
  have hOut := Dev.advance8To_out s.dev ((s.dev.chS n).permAt + 1250)
  generalize s.dev.advance8To ((s.dev.chS n).permAt + 1250) = e at *
  have hUnit : (e.modCh n fun c => { c with permAt := e.sys.now8 }).portUnit n 2 0 = s.dev.portUnit n 2 0 :=
    (Dev.portUnit_modCh _ 2 0 rfl).trans (Dev.portUnit_of_time 2 0 hTime)
  rw [Dev.sendCtl_eq, hUnit]
  refine ⟨congrArg _ hOut, hClock, ?_, Frame.ofDev (Frame.emit (Frame.modCh (Frame.mono hTime (by simp +contextual)) n _ (by simp)) _ (by simp))⟩
  have hCh : ((e.modCh n fun c => { c with permAt := e.sys.now8 }).emit (.beam n (s.dev.portUnit n 2 0))).chS n = (e.modCh n fun c => { c with permAt := e.sys.now8 }).chS n := rfl
  rw [hCh, Dev.chS_modCh_same]
  rfl

theorem probe_sent (hPort : s.dev.port n = 3) :
    if 16 ≤ (s.dev.chS n).probe then Completes (exec (.probeSend n) s) fun t => t = s
    else Completes (exec (.probeSend n) s) fun t =>
      let b := [s.dev.ctlByte n, 0x50 + s.dev.get (F.CHn_FGT_STATUS.permit n)] ++ leBytes 2 (s.dev.chS n).q ++ leBytes 3 (s.dev.chS n).probe
      t.dev.out = .beam n (b ++ [crc8 b]) :: s.dev.out ∧ (t.dev.chS n).probe = (s.dev.chS n).probe + 1 ∧ (t.dev.chS n).probeAt = t.dev.sys.now8 ∧
        t.dev.sys.now8 = (if (s.dev.chS n).probe = 0 then s.dev.sys.now8 else max s.dev.sys.now8 ((s.dev.chS n).probeAt + 125)) ∧
        s.Frame ([Part.out, Part.ch n] ++ timeParts) t := by
  split
  case isTrue hSent =>
    refine completes_onDev (fun d => d.probeSend n) rfl ?_
    rw [Dev.probeSend, if_pos (by simp [hSent])]
  case isFalse hSent =>
    refine completes_onDev (fun d => d.probeSend n) rfl ?_
    rw [Dev.probeSend, if_neg (by simpa [hPort] using hSent)]
    dsimp only
    have hTime : Dev.Frame timeParts s.dev (if (s.dev.chS n).probe = 0 then s.dev else s.dev.advance8To ((s.dev.chS n).probeAt + 125)) :=
      Frame.ite Frame.refl (Frame.advance8To Frame.refl _ fun _ h => h)
    have hClock : (if (s.dev.chS n).probe = 0 then s.dev else s.dev.advance8To ((s.dev.chS n).probeAt + 125)).sys.now8 =
        if (s.dev.chS n).probe = 0 then s.dev.sys.now8 else max s.dev.sys.now8 ((s.dev.chS n).probeAt + 125) := by
      split
      · rfl
      · exact Dev.now8_advance8To _ _
    generalize (if (s.dev.chS n).probe = 0 then s.dev else s.dev.advance8To ((s.dev.chS n).probeAt + 125)) = e at *
    have hOut : e.out = s.dev.out := hTime Part.out (by simp [timeParts])
    have hCh : e.chS n = s.dev.chS n := Dev.chS_of_frame hTime (by simp [timeParts])
    rw [Dev.sendCtl_eq, Dev.portUnit_of_time 5 _ hTime]
    have hNoted (u : ChSt → ChSt) (o : Out) : ((e.emit o).modCh n u).chS n = u (s.dev.chS n) := by
      rw [Dev.chS_modCh_same, ← hCh]
      rfl
    refine ⟨congrArg _ hOut, ?_, ?_, hClock, Frame.ofDev (Frame.modCh (Frame.emit (Frame.mono hTime (by simp +contextual)) _ (by simp)) n _ (by simp))⟩
    · rw [hNoted]
    · rw [hNoted]
      rfl

/-- The device has waited, taken a free value and sent no more than a clock: what a MARK is made of is as before. -/
structure Awaited (n : Nat) (d e : Dev) : Prop where
  unit : ∀ v, e.portUnit n 1 v = d.portUnit n 1 v
  lead : ∀ late, e.markLead n late = d.markLead n late
  chan : e.chS n = d.chS n
  frame : Dev.Frame (timeParts ++ [Part.free, Part.out]) d e

theorem awaited_of_frame {d e : Dev} {n : Nat} (h : Dev.Frame (timeParts ++ [Part.free, Part.out]) d e) : Awaited n d e := by
  have hReg (g : Fld) (hg : 0x200000 ≤ g.reg.off) : e.get g = d.get g := by
    refine Frame.get h _ ?_
    simp only [timeParts, R.EVT_TIME, R.SYS_SECONDS, List.cons_append, List.nil_append, List.mem_cons, List.not_mem_nil, or_false, Part.reg.injEq, reduceCtorEq, false_or]
    omega
  have hFrd : e.frd = d.frd := h Part.frd (by simp [timeParts])
  have hCh : e.chS n = d.chS n := Dev.chS_of_frame h (by simp [timeParts])
  have hChan : e.chan n = d.chan n := by rw [Dev.chan, hFrd, Dev.chan]
  have hPhi (k : Nat) : e.phiOf n k = d.phiOf n k := by rw [Dev.phiOf, Dev.facetOf, Dev.facetsOf, hCh, hChan, Dev.phiOf, Dev.facetOf, Dev.facetsOf]
  refine ⟨fun v => Dev.portUnit_congr 1 v hFrd (hReg _ (by simp only [F.CHn_FGT_STATUS.permit, R.CHn_FGT_STATUS]; omega)) (congrArg ChSt.q hCh), fun late => ?_, hCh, h⟩
  unfold Dev.markLead Dev.blMode
  dsimp only
  rw [hCh, hPhi, hChan, hReg _ (by simp only [F.CHn_SCT_CTRL.bd_window, R.CHn_SCT_CTRL]; omega), hReg _ (by simp only [F.CHn_BLP_LATENCY.l, R.CHn_BLP_LATENCY]; omega)]

theorem markSend_sent (hPort : s.dev.port n = 5) (hOn : s.dev.on (F.CHn_FGT_STATUS.disabled n) = false) (hSlot : (s.dev.chS n).marked < (s.dev.chS n).slot)
    (hRuns : s.dev.evt.running = true) (hNow : s.dev.now < 2 ^ 62) (hAt : s.dev.slotT n ((s.dev.chS n).slot - 1) < 2 ^ 62) : Completes (exec (.markSend n) s) fun t =>
      let v := (Config.freeValue s.dev.free).toNat % 2 ^ 64
      let b := [s.dev.ctlByte n, 0x10 + s.dev.get (F.CHn_FGT_STATUS.permit n)] ++ leBytes 2 (s.dev.chS n).q ++ leBytes 3 (enc 24 (s.dev.markLead n (v % 8001)))
      t.dev.out = .beam n (b ++ [crc8 b]) :: (if s.dev.blMode n = 0 then
        [.blClock n (max 1 (s.dev.chS n).curM) (64 * (s.dev.slotT n ((s.dev.chS n).slot - 1) : Nat) + s.dev.phiOf n ((s.dev.chS n).slot - 1)) (s.dev.chS n).curSd] else []) ++ s.dev.out ∧
      (t.dev.chS n).marked = (s.dev.chS n).slot ∧
      t.dev.now = s.dev.timeAt (s.dev.slotT n ((s.dev.chS n).slot - 1) + max 1 (s.dev.get (F.CHn_SCT_CTRL.bd_window n))) ∧
      s.Frame ([Part.out, Part.ch n, Part.free] ++ timeParts) t := by
  refine completes_onDev (fun d => d.markSend n) rfl ?_
  have hCond : ¬(decide (s.dev.port n ≠ 5) || decide ((s.dev.chS n).slot = 0) || decide ((s.dev.chS n).slot ≤ (s.dev.chS n).marked) || s.dev.on (F.CHn_FGT_STATUS.disabled n)) = true := by
    simp [hPort, hOn]
    omega
  unfold Dev.markSend
  rw [if_neg hCond]
  dsimp only [Dev.freeVal]
  have hWindow := s.dev.get_lt (F.CHn_SCT_CTRL.bd_window n)
  generalize hT : s.dev.slotT n ((s.dev.chS n).slot - 1) + max 1 (s.dev.get (F.CHn_SCT_CTRL.bd_window n)) = T
  have hReach : (s.dev.advanceTo T).now = s.dev.timeAt T := by
    have hLt := s.dev.timeAt_lt T
    have hWidth : s.dev.get (F.CHn_SCT_CTRL.bd_window n) < 2 ^ 8 := hWindow
    exact Dev.now_advanceTo _ _ hRuns (by omega)
  have hTime : Dev.Frame (timeParts ++ [Part.free]) s.dev { s.dev.advanceTo T with free := (s.dev.advanceTo T).free + 1 } :=
    Frame.freeVal (Frame.mono (Dev.frame_advanceTo T) (by simp +contextual)) 64 (by simp)
  have hFree : (s.dev.advanceTo T).free = s.dev.free := Dev.advanceTo_free _ _
  have hOut : ({ s.dev.advanceTo T with free := (s.dev.advanceTo T).free + 1 } : Dev).out = s.dev.out := Dev.advanceTo_out _ _
  have hNowE : ({ s.dev.advanceTo T with free := (s.dev.advanceTo T).free + 1 } : Dev).now = s.dev.timeAt T := hReach
  have hActive : ({ s.dev.advanceTo T with free := (s.dev.advanceTo T).free + 1 } : Dev).active = s.dev.active := Dev.advanceTo_active _ _
  rw [hFree] at hTime hOut hNowE hActive ⊢
  generalize ({ s.dev.advanceTo T with free := s.dev.free + 1 } : Dev) = e at *
  have hPhi : e.phiOf n ((s.dev.chS n).slot - 1) = s.dev.phiOf n ((s.dev.chS n).slot - 1) := by
    rw [Dev.phiOf, Dev.facetOf, Dev.facetsOf, Dev.chan, hTime Part.frd (by simp [timeParts]), Dev.chS_of_frame hTime (by simp [timeParts])]
    rfl
  have hMode : e.blMode n = s.dev.blMode n := by
    rw [Dev.blMode, Dev.chan, hTime Part.frd (by simp [timeParts])]
    rfl
  have hSlotT : e.slotT n ((s.dev.chS n).slot - 1) = s.dev.slotT n ((s.dev.chS n).slot - 1) := by
    rw [Dev.slotT, Dev.slotT16, Dev.gridRef, Dev.gridP, Dev.ga, Dev.act, Dev.act, hActive]
    rfl
  rw [hMode, hSlotT, hPhi]
  generalize Out.blClock _ _ _ _ = clock
  generalize (Config.freeValue s.dev.free).toNat % 2 ^ 64 = v
  have hTimeOut : Dev.Frame (timeParts ++ [Part.free, Part.out]) s.dev e := Frame.mono hTime fun p hp => by
    simp only [List.mem_append, List.mem_cons, List.not_mem_nil, or_false] at hp ⊢
    tauto
  have hAwaited : Awaited n s.dev (e.when (decide (s.dev.blMode n = 0)) fun x => x.emit clock) :=
    awaited_of_frame (Frame.ite (Frame.emit hTimeOut _ (by simp)) hTimeOut)
  have hSent : (e.when (decide (s.dev.blMode n = 0)) fun x => x.emit clock).out = (if s.dev.blMode n = 0 then [clock] else []) ++ s.dev.out := by
    by_cases h0 : s.dev.blMode n = 0
    · rw [Dev.when, if_pos (by simpa using h0), if_pos h0, ← hOut]
      rfl
    · rw [Dev.when, if_neg (by simpa using h0), if_neg h0, hOut, List.nil_append]
  have hNowF : (e.when (decide (s.dev.blMode n = 0)) fun x => x.emit clock).now = s.dev.timeAt T := by
    rw [← hNowE, Dev.when]
    split <;> rfl
  generalize (e.when (decide (s.dev.blMode n = 0)) fun x => x.emit clock) = f at *
  obtain ⟨hUnit, hLead, hCh, hFrame⟩ := hAwaited
  have hMarked : (f.modCh n fun c => { c with marked := c.slot }).portUnit n 1 (enc 24 (s.dev.markLead n (v % 8001))) = s.dev.portUnit n 1 (enc 24 (s.dev.markLead n (v % 8001))) :=
    (Dev.portUnit_modCh _ _ _ rfl).trans (hUnit _)
  rw [Dev.sendCtl_eq, hLead, hMarked]
  refine ⟨congrArg _ hSent, ?_, hNowF, Frame.ofDev (Frame.emit (Frame.modCh (Frame.mono hFrame (by simp +contextual [or_imp])) n _ (by simp)) _ (by simp))⟩
  have hLast : ((f.modCh n fun c => { c with marked := c.slot }).emit (.beam n (s.dev.portUnit n 1 (enc 24 (s.dev.markLead n (v % 8001)))))).chS n =
    (f.modCh n fun c => { c with marked := c.slot }).chS n := rfl
  rw [hLast, Dev.chS_modCh_same, hCh]

end

/-- Settles O30: frames by what `sendFrames` sends of a ready slot, control units by what the wait before them leaves. -/
theorem beamLinkUnits : Obligations.BeamLinkUnits :=
  ⟨fun _ n hDom hGrid hRuns hPort hOn hSent hCodes => slotFrames_sent n ⟨hDom, hGrid, hRuns, hPort, hOn, hSent, hCodes⟩,
    fun _ n hDom hGrid hRuns hPort hOn hSent hNext => slotFrames_idle n ⟨hDom, hGrid, hRuns, hPort, hOn, hSent, by simp [hNext]⟩ hNext,
    fun _ n sc hDom hGrid hRuns hTwin hPort hOn hSent hNext hDropped hCodes =>
      slotFrames_scan n sc ⟨hDom, hGrid, hRuns, hPort, hOn, hSent, by simpa [hNext] using hCodes⟩ hTwin hNext hDropped,
    fun _ n hPort => units_notActive n hPort,
    fun _ n hPort hOn hSlot hRuns ⟨hNow, hAt⟩ => markSend_sent n hPort hOn hSlot hRuns hNow hAt,
    fun _ n hPort hOn => permitUnit_sent n hPort hOn, fun _ n hPort => probe_sent n hPort, fun _ n hPort => probe_notLatency n hPort⟩

end Sys2Proof.Proofs
end

-- ==== Sitting: the books of the fault collector ====
section
/-! SUPPORT. What the closing of records leaves of the collector's books, and what bringing its derived registers up to date shows. -/
open Sys2Proof Sys2Proof.Machine Sys2Proof.Claims
set_option maxRecDepth 20000

namespace Sys2Proof.Machine

/-! ### The books: open records, strobes that wait, the counts, engine time (R365, R373) -/

/-- Engine time, the next ESN and the count of records. -/
def bookRegs : List Nat := [R.EVT_TIME.off, R.EVT_ESN.off, R.FLT_COUNT.off]

/-- The books of the collector, the system block and the sheets are the same. -/
structure Dev.SameBooks (d e : Dev) : Prop where
  opens : e.flt.opens = d.flt.opens
  strobes : e.flt.strobes = d.flt.strobes
  sys : e.sys = d.sys
  sht : e.sht = d.sht
  reg : ∀ r : Reg, r.off ∈ bookRegs → e.rd r = d.rd r

/-- A piece that is none of the books. -/
def Part.offBooks : Part → Prop
  | .reg o => o ∉ bookRegs
  | .sys | .clock | .sht | .strobes | .flt => False
  | _ => True

namespace Dev.SameBooks

variable {d e f : Dev}

theorem refl : Dev.SameBooks d d := ⟨rfl, rfl, rfl, rfl, fun _ _ => rfl⟩

theorem trans (h : Dev.SameBooks d e) (g : Dev.SameBooks e f) : Dev.SameBooks d f :=
  ⟨g.opens.trans h.opens, g.strobes.trans h.strobes, g.sys.trans h.sys, g.sht.trans h.sht, fun r hr => (g.reg r hr).trans (h.reg r hr)⟩

theorem ofFrame {ps : List Part} (h : Dev.SameBooks d e) (hFrame : Dev.Frame ps e f) (hp : ∀ p ∈ ps, p.offBooks) : Dev.SameBooks d f := by
  have hOff (p : Part) (hNot : ¬p.offBooks) : p.kept e f := hFrame p fun hMem => hNot (hp p hMem)
  have hFlt : { f.flt with strobes := [] } = { e.flt with strobes := [] } := hOff Part.flt id
  have hClock : f.sys.now8 = e.sys.now8 := hOff Part.clock id
  have hSys : { f.sys with now8 := 0 } = { e.sys with now8 := 0 } := hOff Part.sys id
  have hOpens := congrArg FltSt.opens hFlt
  refine h.trans ⟨hOpens, hOff Part.strobes id, ?_, hOff Part.sht id, fun r hr => hOff (Part.reg r.off) (fun hNot => hNot hr) r rfl⟩
  calc f.sys = { ({ f.sys with now8 := 0 } : SysSt) with now8 := f.sys.now8 } := rfl
    _ = { ({ e.sys with now8 := 0 } : SysSt) with now8 := e.sys.now8 } := by rw [hSys, hClock]
    _ = e.sys := rfl

theorem ite {c : Prop} [Decidable c] (h : Dev.SameBooks d e) (g : Dev.SameBooks d f) : Dev.SameBooks d (if c then e else f) := by
  split <;> assumption

theorem each {α : Type} (h : Dev.SameBooks d e) (l : List α) (u : Dev → α → Dev) (hu : ∀ x a, a ∈ l → Dev.SameBooks x (u x a)) : Dev.SameBooks d (e.each l u) := by
  unfold Dev.each
  induction l generalizing e with
  | nil => exact h
  | cons a l ih => exact ih (h.trans (hu e a (by simp))) fun x b hb => hu x b (by simp [hb])

theorem wr (h : Dev.SameBooks d e) (r : Reg) (v : Nat) (hr : r.off ∉ bookRegs) : Dev.SameBooks d (e.wr r v) :=
  h.ofFrame (ps := [Part.reg r.off]) (Frame.wr Frame.refl r v (by simp)) (by simp [Part.offBooks, hr])

theorem put (h : Dev.SameBooks d e) (g : Fld) (v : Nat) (hr : g.reg.off ∉ bookRegs) : Dev.SameBooks d (e.put g v) := h.wr _ _ hr
theorem count (h : Dev.SameBooks d e) (g : Fld) (hr : g.reg.off ∉ bookRegs) : Dev.SameBooks d (e.count g) := h.wr _ _ hr

theorem flag (h : Dev.SameBooks d e) (st en : Reg) (k v : Nat) (hr : st.off ∉ bookRegs) : Dev.SameBooks d (e.flag st en k v) :=
  h.ofFrame (ps := [Part.reg st.off] ++ irqParts) (Frame.flag Frame.refl st en k v (by simp) (by simp +contextual))
    (by
      simp only [irqParts, List.cons_append, List.nil_append, List.mem_cons, List.not_mem_nil, or_false]
      rintro p (rfl | rfl | rfl)
      · exact hr
      · trivial
      · show R.MSIX_PBA.off ∉ bookRegs
        decide)

/-- A level that falls starts a quiet timer, which is in none of the books. -/
theorem setActive (h : Dev.SameBooks d e) {src : Nat} (b : Bool) : Dev.SameBooks d (e.setActive src b) := by
  have hTimer : Dev.SameBooks d (if (e.on (F.FLT_SRCi_STATE.active src) && !b) = true then
      { e with flt := { e.flt with quietFrom := Store.set 0 e.flt.quietFrom src (e.now + 1) } } else e) :=
    ite (h.trans ⟨rfl, rfl, rfl, rfl, fun _ _ => rfl⟩) h
  have hState : (F.FLT_SRCi_STATE.active src).reg.off ∉ bookRegs := by
    simp only [bookRegs, F.FLT_SRCi_STATE.active, R.FLT_SRCi_STATE, R.EVT_TIME, R.EVT_ESN, R.FLT_COUNT, List.mem_cons, List.not_mem_nil, or_false]
    omega
  unfold Dev.setActive
  exact ite ((hTimer.put _ _ hState).wr _ _ (by decide)) (hTimer.put _ _ hState)

theorem modTmp (h : Dev.SameBooks d e) (u : TmpSt → TmpSt) : Dev.SameBooks d (e.modTmp u) :=
  h.ofFrame (ps := [Part.tmp]) (Frame.setTmp Frame.refl _ (by simp)) (by simp [Part.offBooks])

theorem modLoop (h : Dev.SameBooks d e) (k : Nat) (u : LoopSlot → LoopSlot) : Dev.SameBooks d (e.modLoop k u) :=
  h.ofFrame (ps := [Part.loop k]) (Frame.setLoop Frame.refl k _ (by simp)) (by simp [Part.offBooks])

/-! ### The latched cuts that closing releases (R255, R281, R330) -/

theorem releaseLatches (h : Dev.SameBooks d e) (n : Nat) : Dev.SameBooks d (e.releaseLatches n) :=
  h.ofFrame (ps := gateParts n) (Frame.gate (Frame.modCh (Frame.gateLevels Frame.refl n (by simp [gateParts])) n _ (by simp [gateParts])) n fun _ hp => hp) (by
    simp only [gateParts, irqParts, List.cons_append, List.nil_append, List.mem_cons, List.not_mem_nil, or_false]
    rintro p (rfl | rfl | rfl | rfl | rfl | rfl) <;>
      simp only [Part.offBooks, bookRegs, List.mem_cons, List.not_mem_nil, or_false, R.CHn_FGT_STATUS, R.CHn_FGT_COUNTS, R.CHn_FGT_IRQ_STATUS, R.MSIX_PBA,
        R.EVT_TIME, R.EVT_ESN, R.FLT_COUNT] <;> omega)

theorem closeLatches (h : Dev.SameBooks d e) (esns : List Nat) : Dev.SameBooks d (e.closeLatches esns) :=
  h.each _ _ fun _ n _ => (refl.ofFrame (ps := [Part.ch n]) (Frame.modCh Frame.refl n _ (by simp)) (by simp [Part.offBooks])).releaseLatches n

theorem dcbClose (h : Dev.SameBooks d e) (esns : List Nat) : Dev.SameBooks d (e.dcbClose esns) := by
  refine h.each _ _ fun x m hm => ite ?_ refl
  have hClosed : Dev.SameBooks x (x.putDcb m { x.dcbS m with closed := true }) :=
    refl.ofFrame (ps := [Part.dcb m]) (Frame.setDcb Frame.refl m _ (by simp)) (by simp [Part.offBooks])
  refine ite (hClosed.put _ _ ?_) hClosed
  simp only [bookRegs, F.BLD_DCBm_STATUS.latched, R.BLD_DCBm_STATUS, R.EVT_TIME, R.EVT_ESN, R.FLT_COUNT, List.mem_cons, List.not_mem_nil, or_false]
  simp only [List.mem_cons, List.not_mem_nil, or_false] at hm
  omega

theorem loopActive (h : Dev.SameBooks d e) : Dev.SameBooks d e.loopActive := by
  unfold Dev.loopActive
  exact (h.setActive _).setActive _

section
variable {k : Nat} (hk : k < 64)
include hk

theorem loopStatus_offBooks : (R.LOOP_Sk_STATUS k).off ∉ bookRegs := by
  simp only [bookRegs, R.LOOP_Sk_STATUS, R.EVT_TIME, R.EVT_ESN, R.FLT_COUNT, List.mem_cons, List.not_mem_nil, or_false]
  omega

theorem leaveBand (h : Dev.SameBooks d e) : Dev.SameBooks d (e.leaveBand k) := by
  have hBand := (h.modLoop k fun x => { x with inBandN := 0 }).put (F.LOOP_Sk_STATUS.in_band k) 0 (loopStatus_offBooks hk)
  unfold Dev.leaveBand
  refine ite (hBand.flag _ _ _ _ ?_) hBand
  simp only [bookRegs, R.LOOP_Sk_IRQ_STATUS, R.EVT_TIME, R.EVT_ESN, R.FLT_COUNT, List.mem_cons, List.not_mem_nil, or_false]
  omega

theorem loopEnter (h : Dev.SameBooks d e) (st : Nat) : Dev.SameBooks d (e.loopEnter k st) := by
  have hState := h.put (F.LOOP_Sk_STATUS.state k) st (loopStatus_offBooks hk)
  have hFresh := ite (c := (decide (st = 2) || decide (st = 4)) = true) (hState.modLoop k fun x => { x with fresh := true })
    (hState.put (F.LOOP_Sk_STATUS.implausible k) 0 (loopStatus_offBooks hk)).loopActive
  unfold Dev.loopEnter
  exact ite hFresh ((hFresh.leaveBand hk).modLoop k _).loopActive

theorem loopStandby (h : Dev.SameBooks d e) (b : Bool) : Dev.SameBooks d (e.loopStandby k b) := by
  unfold Dev.loopStandby
  exact (((ite (h.modLoop k _) h).loopEnter hk 4).leaveBand hk).modLoop k _

end

theorem fuserRelease (h : Dev.SameBooks d e) : Dev.SameBooks d e.fuserRelease :=
  h.each _ _ fun _ _ hk => ite (ite (refl.loopStandby (List.mem_range.1 hk) true) (refl.loopEnter (List.mem_range.1 hk) 1)) refl

theorem tmpLatch (h : Dev.SameBooks d e) : Dev.SameBooks d e.tmpLatch := by
  unfold Dev.tmpLatch
  exact ite h (ite (((h.modTmp _).put _ _ (by decide)).modTmp _).fuserRelease (h.modTmp _))

theorem closedHooks (h : Dev.SameBooks d e) (esns : List Nat) : Dev.SameBooks d (e.closedHooks esns) :=
  (((h.closeLatches esns).dcbClose esns).modTmp _).tmpLatch

/-! ### The flags of a record in the history window (R365, R373) -/

theorem markClosed (h : Dev.SameBooks d e) (ack : Bool) (r : FRec) : Dev.SameBooks d (e.markClosed ack r) := by
  unfold Dev.markClosed
  refine ite (h.wr _ _ ?_) h
  simp only [bookRegs, R.FLT_HISTORY, R.EVT_TIME, R.EVT_ESN, R.FLT_COUNT, List.mem_cons, List.not_mem_nil, or_false]
  omega

theorem recovery_offBooks (c : Nat) : (R.FLT_RECOVERYc c).off ∉ bookRegs := by
  simp only [bookRegs, R.FLT_RECOVERYc, R.EVT_TIME, R.EVT_ESN, R.FLT_COUNT, List.mem_cons, List.not_mem_nil, or_false]
  omega

theorem ackRecov (h : Dev.SameBooks d e) (sel : FRec → Bool) : Dev.SameBooks d (e.ackRecov sel) := by
  refine h.each _ _ fun x p _ => ?_
  have hMarked (l : List FRec) : Dev.SameBooks x (x.each l (Dev.markClosed · true)) := refl.each _ _ fun _ _ _ => refl.markClosed _ _
  have hTaken (l : List FRec) (v : Nat) := ite (c := p.1.inc = true) ((hMarked l).put (F.FLT_RECOVERYc.count p.1.cls) v (recovery_offBooks _)) (hMarked l)
  have hMore (l : List FRec) (v c : Nat) (b : Bool) := ite (c := b = true) ((hTaken l v).count (F.FLT_RECOVERYc.count c) (recovery_offBooks c)) (hTaken l v)
  exact ite refl ((hMore _ _ _ _).trans ⟨rfl, rfl, rfl, rfl, fun _ _ => rfl⟩)

end Dev.SameBooks

/-! ### The derived registers (R366, R375) -/

section
variable (d : Dev)

theorem Dev.frame_srcShow {i : Nat} : Dev.Frame [Part.reg R.FLT_FSW.off, Part.reg (R.FLT_SRCi_STATE i).off] d (d.srcShow i) := by
  have hIn : Part.reg (R.FLT_SRCi_STATE i).off ∈ [Part.reg R.FLT_FSW.off, Part.reg (R.FLT_SRCi_STATE i).off] := by simp
  have hState (a b c : Nat) := Frame.put (Frame.put (Frame.put (Frame.refl (d := d)) (F.FLT_SRCi_STATE.open i) a hIn) (F.FLT_SRCi_STATE.quiet_running i) b hIn)
    (F.FLT_SRCi_STATE.max_class i) c hIn
  unfold Dev.srcShow
  exact Frame.ite (Frame.putBit (hState _ _ _) F.FLT_FSW.open _ _ (List.mem_cons_self)) (hState _ _ _)

/-- What the collector shows beside FLT_STATUS. -/
def showParts : List Part := [Part.reg R.FLT_FSW.off, Part.reg R.FLT_OPEN.off] ++ (List.range 42).map fun i => Part.reg (R.FLT_SRCi_STATE i).off

/-- The registers of the collector that show its sources and its open records. -/
def Dev.srcsShown : Dev :=
  let e := d.each (List.range 42) Dev.srcShow
  let n := fun c => min 63 (e.openClass c)
  e.wr R.FLT_OPEN (n 0 + n 1 * 2 ^ 6 + n 2 * 2 ^ 12 + n 3 * 2 ^ 18 + n 4 * 2 ^ 24)

theorem Dev.frame_srcsShown : Dev.Frame showParts d d.srcsShown :=
  Frame.wr (Frame.each _ _ (fun x i hi => Frame.mono (Dev.frame_srcShow x) (by
    simp only [List.mem_cons, List.not_mem_nil, or_false, showParts, List.mem_append, List.mem_map]
    rintro p (rfl | rfl)
    · exact .inl (.inl rfl)
    · exact .inr ⟨i, hi, rfl⟩)) Frame.refl) _ _ (by simp [showParts])

/-- What the collector shows of its sources and in FLT_STATUS. -/
def statusParts : List Part := Part.reg R.FLT_STATUS.off :: showParts

/-- The derived registers but for ALIVE. -/
def Dev.statusShown : Dev :=
  let e := d.srcsShown.putB F.FLT_STATUS.beat_ok d.srcsShown.beatOk
  let e := (e.putB F.FLT_STATUS.shadow_open (!e.flt.shadows.isEmpty)).holdShow
  e.putB F.FLT_STATUS.estop_open (!(e.openOf 41).isEmpty)

theorem Dev.fltShow_eq : d.fltShow =
    if (d.statusShown.aliveOk && !d.statusShown.on F.FLT_STATUS.alive_running) = true then
      { d.statusShown.putB F.FLT_STATUS.alive_running d.statusShown.aliveOk with
        flt := { (d.statusShown.putB F.FLT_STATUS.alive_running d.statusShown.aliveOk).flt with aliveAt := (d.statusShown.putB F.FLT_STATUS.alive_running d.statusShown.aliveOk).sys.now8 } }
    else d.statusShown.putB F.FLT_STATUS.alive_running d.statusShown.aliveOk := rfl

theorem Frame.holdLevels {ps : List Part} (hp : ∀ i < 42, Part.reg (R.FLT_SRCi_STATE i).off ∈ ps) :
    Dev.Frame ps d (d.each (List.range 42) fun d i => d.putB (F.FLT_SRCi_STATE.holds_admission i) (d.holds i)) :=
  Frame.each _ _ (fun _ i hi => Frame.putB Frame.refl _ _ (hp i (List.mem_range.1 hi))) Frame.refl

theorem Frame.showHolds (hp : ∀ i < 42, Part.reg (R.FLT_SRCi_STATE i).off ∈ statusParts) : Dev.Frame statusParts d d.holdShow :=
  Frame.putB (Frame.holdLevels d hp) _ _ (by simp [statusParts, F.FLT_STATUS.admissions_held])

theorem srcState_shown {i : Nat} (hi : i < 42) : Part.reg (R.FLT_SRCi_STATE i).off ∈ statusParts :=
  List.mem_cons_of_mem _ (List.mem_append_right _ (List.mem_map.2 ⟨i, List.mem_range.2 hi, rfl⟩))

theorem Dev.frame_statusShown : Dev.Frame statusParts d d.statusShown := by
  have hStatus : Part.reg R.FLT_STATUS.off ∈ statusParts := List.mem_cons_self
  have hSrcs : Dev.Frame statusParts d d.srcsShown := Frame.mono (Dev.frame_srcsShown d) fun _ hp => List.mem_cons_of_mem _ hp
  have hBeat (v b : Bool) : Dev.Frame statusParts d ((d.srcsShown.putB F.FLT_STATUS.beat_ok v).putB F.FLT_STATUS.shadow_open b) :=
    Frame.putB (Frame.putB hSrcs F.FLT_STATUS.beat_ok _ hStatus) F.FLT_STATUS.shadow_open _ hStatus
  exact Frame.putB (Frame.trans (hBeat _ _) (Frame.showHolds _ fun _ hi => srcState_shown hi)) F.FLT_STATUS.estop_open _ hStatus

/-- A field of FLT_STATUS that shows no source and holds no admission survives `holdShow`. -/
theorem Dev.get_holdShow (g : Fld) (hReg : g.reg = R.FLT_STATUS) (hOk : g.ok = true)
    (hOther : (decide (g.hi < F.FLT_STATUS.admissions_held.lo) || decide (F.FLT_STATUS.admissions_held.hi < g.lo)) = true) : d.holdShow.get g = d.get g := by
  have hLevels := Frame.holdLevels d (ps := (List.range 42).map fun i => Part.reg (R.FLT_SRCi_STATE i).off) fun i hi => List.mem_map.2 ⟨i, List.mem_range.2 hi, rfl⟩
  rw [Dev.holdShow, Dev.putB, Dev.get_put_other _ _ _ _ hReg (by decide) hOk hOther]
  refine Frame.get hLevels g ?_
  rw [hReg]
  simp only [List.mem_map, not_exists, not_and, Part.reg.injEq, R.FLT_SRCi_STATE, R.FLT_STATUS]
  omega

theorem Dev.get_statusShown (g : Fld) (hReg : g.reg = R.FLT_STATUS) (hOk : g.ok = true) (hOther : 29 < g.lo) : d.statusShown.get g = d.get g := by
  have hOff : Part.reg g.reg.off ∉ showParts := by
    rw [hReg]
    simp only [showParts, List.mem_append, List.mem_cons, List.not_mem_nil, or_false, List.mem_map, Part.reg.injEq, R.FLT_SRCi_STATE, R.FLT_STATUS, R.FLT_FSW, R.FLT_OPEN]
    omega
  have hPut (f : Fld) (v : Bool) (x : Dev) (hr : f.reg = R.FLT_STATUS) (hf : f.ok = true) (hHi : f.hi ≤ 29) : (x.putB f v).get g = x.get g :=
    Dev.get_put_other _ _ _ _ (hReg.trans hr.symm) hf hOk (by simp only [Bool.or_eq_true, decide_eq_true_eq]; omega)
  rw [Dev.statusShown, hPut _ _ _ rfl (by decide) (by decide), Dev.get_holdShow _ g hReg hOk (Bool.or_eq_true_iff.2 (.inr (decide_eq_true (show 27 < g.lo by omega)))),
    hPut _ _ _ rfl (by decide) (by decide), hPut _ _ _ rfl (by decide) (by decide)]
  exact Frame.get (Dev.frame_srcsShown d) g hOff

variable {d} {e : Dev} {ps : List Part}

theorem Frame.flt_eq (h : Dev.Frame ps d e) (hf : Part.flt ∉ ps) (hs : Part.strobes ∉ ps) : e.flt = d.flt := by
  have hFlt : { e.flt with strobes := [] } = { d.flt with strobes := [] } := h _ hf
  have hStrobes : e.flt.strobes = d.flt.strobes := h _ hs
  calc e.flt = { ({ e.flt with strobes := [] } : FltSt) with strobes := e.flt.strobes } := rfl
    _ = { ({ d.flt with strobes := [] } : FltSt) with strobes := d.flt.strobes } := by rw [hFlt, hStrobes]
    _ = d.flt := rfl

theorem Dev.beatOk_congr (hFlt : e.flt.refreshed = d.flt.refreshed) (hNow : e.sys.now8 = d.sys.now8) : e.beatOk = d.beatOk := by
  rw [Dev.beatOk, Dev.beatOk, hFlt, hNow]

theorem Dev.aliveOk_congr (h : Dev.Frame ps d e) (hPwr : Part.reg R.PWR_DOMAINS.off ∉ ps) (hFrdSt : Part.reg R.FRD_STATUS.off ∉ ps) (hFrd : Part.frd ∉ ps)
    (hOpens : e.flt.opens = d.flt.opens) (hBeat : e.beatOk = d.beatOk) : e.aliveOk = d.aliveOk := by
  have hRole : e.frd = d.frd := h _ hFrd
  rw [Dev.aliveOk, Dev.aliveOk, Dev.domOn, Dev.domOn, Frame.rd h _ hPwr, Dev.loaded, Dev.loaded, Frame.get h _ hFrdSt, hBeat, hOpens, Dev.role, Dev.role, hRole]

theorem statusParts_off (p : Part) (hp : p ∈ statusParts) : (∃ o, 0xE0000 ≤ o ∧ o < 0xE0300 ∧ o ≠ R.FLT_COUNT.off ∧ p = Part.reg o) := by
  simp only [statusParts, showParts, List.mem_append, List.mem_cons, List.not_mem_nil, or_false, List.mem_map, List.mem_range, R.FLT_SRCi_STATE, R.FLT_STATUS, R.FLT_FSW, R.FLT_OPEN] at hp
  rcases hp with rfl | (rfl | rfl) | ⟨i, hi, rfl⟩
  · exact ⟨_, by decide, by decide, by decide, rfl⟩
  · exact ⟨_, by decide, by decide, by decide, rfl⟩
  · exact ⟨_, by decide, by decide, by decide, rfl⟩
  · exact ⟨_, by omega, by omega, by simp only [R.FLT_COUNT]; omega, rfl⟩

/-- The hidden state of the collector, and the registers outside its block, are as before. -/
theorem Dev.statusShown_flt : d.statusShown.flt = d.flt :=
  Frame.flt_eq (Dev.frame_statusShown d) (fun h => by simpa using statusParts_off _ h) fun h => by simpa using statusParts_off _ h

theorem Dev.statusShown_now8 : d.statusShown.sys.now8 = d.sys.now8 :=
  Dev.frame_statusShown d Part.clock fun h => by simpa using statusParts_off _ h

theorem Dev.aliveOk_statusShown : d.statusShown.aliveOk = d.aliveOk := by
  refine Dev.aliveOk_congr (Dev.frame_statusShown d) (fun h => ?_) (fun h => ?_) (fun h => ?_) (by rw [Dev.statusShown_flt])
    (Dev.beatOk_congr (by rw [Dev.statusShown_flt]) Dev.statusShown_now8)
  · obtain ⟨o, hLo, -, -, ho⟩ := statusParts_off _ h
    simp only [Part.reg.injEq, R.PWR_DOMAINS] at ho
    omega
  · obtain ⟨o, hLo, -, -, ho⟩ := statusParts_off _ h
    simp only [Part.reg.injEq, R.FRD_STATUS] at ho
    omega
  · simpa using statusParts_off _ h

theorem Dev.beat_statusShown : d.statusShown.on F.FLT_STATUS.beat_ok = d.beatOk := by
  have hSrcs := Dev.frame_srcsShown d
  have hFlt : d.srcsShown.flt = d.flt := Frame.flt_eq hSrcs (by simp [showParts]) (by simp [showParts])
  rw [← Dev.beatOk_congr (congrArg FltSt.refreshed hFlt) (hSrcs Part.clock (by simp [showParts])), Dev.statusShown, Dev.putB, Dev.on_put_other _ F.FLT_STATUS.estop_open F.FLT_STATUS.beat_ok _ rfl (by decide) (by decide) (by decide), Dev.on, Dev.get_holdShow _ _ rfl (by decide) (by decide), ← Dev.on,
    Dev.putB, Dev.on_put_other _ F.FLT_STATUS.shadow_open F.FLT_STATUS.beat_ok _ rfl (by decide) (by decide) (by decide), Dev.on_putB_same _ _ _ (by decide)]

/-- What the collector's derived registers show, and what they leave. -/
structure Dev.Shows (d e : Dev) : Prop where
  frame : Dev.Frame fltShowParts d e
  flt : e.flt = { d.flt with aliveAt := if (d.aliveOk && !d.on F.FLT_STATUS.alive_running) = true then d.sys.now8 else d.flt.aliveAt }
  running : e.on F.FLT_STATUS.alive_running = d.aliveOk
  level : e.get F.FLT_STATUS.alive_level = d.get F.FLT_STATUS.alive_level
  beat : e.on F.FLT_STATUS.beat_ok = d.beatOk

theorem statusParts_fltShow (p : Part) (hp : p ∈ statusParts) : p ∈ fltShowParts := by
  simp only [statusParts, showParts, fltShowParts, List.cons_append, List.nil_append, List.mem_cons] at hp ⊢
  tauto

/-- ALIVE starts to be timed anew where it starts (R375). -/
def Dev.aliveShown (d : Dev) (ok fresh : Bool) : Dev :=
  let e := d.putB F.FLT_STATUS.alive_running ok
  if fresh = true then { e with flt := { e.flt with aliveAt := e.sys.now8 } } else e

theorem Dev.aliveShown_shows (hFrame : Dev.Frame fltShowParts d e) (hFlt : e.flt = d.flt) (hNow : e.sys.now8 = d.sys.now8)
    (hLevel : e.get F.FLT_STATUS.alive_level = d.get F.FLT_STATUS.alive_level) (hBeat : e.on F.FLT_STATUS.beat_ok = d.beatOk) :
    Dev.Shows d (e.aliveShown d.aliveOk (d.aliveOk && !d.on F.FLT_STATUS.alive_running)) := by
  have hPut := Frame.putB hFrame F.FLT_STATUS.alive_running d.aliveOk (statusParts_fltShow _ List.mem_cons_self)
  have hRunning := Dev.on_putB_same e F.FLT_STATUS.alive_running d.aliveOk (by decide)
  have hLevelF := (Dev.get_put_other e F.FLT_STATUS.alive_running F.FLT_STATUS.alive_level (b2n d.aliveOk) rfl (by decide) (by decide) (by decide)).trans hLevel
  have hBeatF := (Dev.on_put_other e F.FLT_STATUS.alive_running F.FLT_STATUS.beat_ok (b2n d.aliveOk) rfl (by decide) (by decide) (by decide)).trans hBeat
  rw [← Dev.putB] at hLevelF hBeatF
  have hFltF : (e.putB F.FLT_STATUS.alive_running d.aliveOk).flt = d.flt := hFlt
  have hNowF : (e.putB F.FLT_STATUS.alive_running d.aliveOk).sys.now8 = d.sys.now8 := hNow
  rw [Dev.aliveShown]
  generalize e.putB F.FLT_STATUS.alive_running d.aliveOk = f at *
  split
  next hFresh => exact ⟨Frame.setFlt hPut _ (by simp [fltShowParts]) (.inr rfl), by rw [if_pos hFresh, ← hFltF, ← hNowF], hRunning, hLevelF, hBeatF⟩
  next hFresh => exact ⟨hPut, by rw [if_neg hFresh]; exact hFltF, hRunning, hLevelF, hBeatF⟩

theorem Dev.fltShow_shows (d : Dev) : Dev.Shows d d.fltShow := by
  have hRuns : d.statusShown.on F.FLT_STATUS.alive_running = d.on F.FLT_STATUS.alive_running := by rw [Dev.on, Dev.on, Dev.get_statusShown _ _ rfl (by decide) (by decide)]
  have hShown := Dev.aliveShown_shows (Frame.mono (Dev.frame_statusShown d) statusParts_fltShow) Dev.statusShown_flt Dev.statusShown_now8
    (Dev.get_statusShown d F.FLT_STATUS.alive_level rfl (by decide) (by decide)) Dev.beat_statusShown
  rw [← Dev.aliveOk_statusShown, ← hRuns] at hShown
  rwa [Dev.fltShow_eq]

end

end Sys2Proof.Machine
end

-- ==== Sitting: closing fault records (O50) ====
section
/-! PROOF. Acknowledgement, recovery, shadows, ALIVE and the fault latch (R371, R373-R377). -/
open Sys2Proof Sys2Proof.Machine Sys2Proof.Claims
set_option maxRecDepth 20000

namespace Sys2Proof.Machine

section
variable {d e : Dev}

/-! ### Closing records -/

theorem Dev.SameBooks.ofShows (h : Dev.Shows d e) : Dev.SameBooks d e := by
  have hOff (o : Nat) (ho : o ∈ bookRegs) : Part.reg o ∉ fltShowParts := by
    simp only [bookRegs, R.EVT_TIME, R.EVT_ESN, R.FLT_COUNT, List.mem_cons, List.not_mem_nil, or_false] at ho
    simp only [fltShowParts, List.mem_append, List.mem_cons, List.not_mem_nil, or_false, List.mem_map, Part.reg.injEq, reduceCtorEq, false_or, R.FLT_FSW, R.FLT_STATUS,
      R.FLT_OPEN, R.FLT_SRCi_STATE]
    omega
  have hNo (p : Part) (hp : ∀ o, p ≠ .reg o) (hFlt : p ≠ .flt) : p ∉ fltShowParts := by
    simp only [fltShowParts, List.mem_append, List.mem_cons, List.not_mem_nil, or_false, List.mem_map, hFlt, hp, false_or, not_exists, not_and]
    exact fun i _ hi => hp _ hi.symm
  have hClock : e.sys.now8 = d.sys.now8 := h.frame Part.clock (hNo _ (by simp) (by simp))
  have hSys : { e.sys with now8 := 0 } = { d.sys with now8 := 0 } := h.frame Part.sys (hNo _ (by simp) (by simp))
  refine ⟨by rw [h.flt], by rw [h.flt], ?_, h.frame Part.sht (hNo _ (by simp) (by simp)), fun r hr => Frame.rd h.frame r (hOff _ hr)⟩
  calc e.sys = { ({ e.sys with now8 := 0 } : SysSt) with now8 := e.sys.now8 } := rfl
    _ = { ({ d.sys with now8 := 0 } : SysSt) with now8 := d.sys.now8 } := by rw [hSys, hClock]
    _ = d.sys := rfl

/-- The chosen records, marked and taken from the open ones. -/
def Dev.recsClosed (d : Dev) (sel : FRec → Bool) (ack : Bool) : Dev :=
  let causes := ((d.flt.opens.filter fun r => d.chosen d.flt.opens sel ack r && !r.conseq).map FRec.esn)
  let e := d.each (d.flt.opens.filter (d.chosen d.flt.opens sel ack)) fun d r => d.markClosed ack r
  { e with flt := { e.flt with
    opens := e.flt.opens.filter fun r => !d.chosen d.flt.opens sel ack r
    shadows := e.flt.shadows.map fun x => if causes.contains x.esn then { x with closed := if ack then 1 else 2 } else x } }

theorem Dev.closeRecs_eq (d : Dev) (sel : FRec → Bool) (ack : Bool) : d.closeRecs sel ack =
    ((d.recsClosed sel ack).closedHooks ((d.flt.opens.filter (d.chosen d.flt.opens sel ack)).map FRec.esn)).fltShow := rfl

/-- What closing records does to the books. -/
structure Dev.Closes (gone : FRec → Bool) (d e : Dev) : Prop where
  opens : e.flt.opens = d.flt.opens.filter fun r => !gone r
  strobes : e.flt.strobes = d.flt.strobes
  sys : e.sys = d.sys
  sht : e.sht = d.sht
  reg : ∀ r : Reg, r.off ∈ bookRegs → e.rd r = d.rd r

theorem Dev.closeRecs_closes (d : Dev) (sel : FRec → Bool) (ack : Bool) : Dev.Closes (d.chosen d.flt.opens sel ack) d (d.closeRecs sel ack) := by
  have hMarked : Dev.SameBooks d (d.each (d.flt.opens.filter (d.chosen d.flt.opens sel ack)) fun d r => d.markClosed ack r) :=
    Dev.SameBooks.refl.each _ _ fun _ _ _ => Dev.SameBooks.refl.markClosed _ _
  have hClosed : Dev.Closes (d.chosen d.flt.opens sel ack) d (d.recsClosed sel ack) := by
    rw [Dev.recsClosed]
    generalize d.each (d.flt.opens.filter (d.chosen d.flt.opens sel ack)) (fun d r => d.markClosed ack r) = e at *
    exact ⟨congrArg (List.filter _) hMarked.opens, hMarked.strobes, hMarked.sys, hMarked.sht, hMarked.reg⟩
  rw [Dev.closeRecs_eq]
  generalize d.recsClosed sel ack = e at *
  have hHooks := (Dev.SameBooks.refl (d := e)).closedHooks ((d.flt.opens.filter (d.chosen d.flt.opens sel ack)).map FRec.esn)
  have hShown := hHooks.trans (.ofShows (Dev.fltShow_shows _))
  exact ⟨hShown.opens.trans hClosed.opens, hShown.strobes.trans hClosed.strobes, hShown.sys.trans hClosed.sys, hShown.sht.trans hClosed.sht,
    fun r hr => (hShown.reg r hr).trans (hClosed.reg r hr)⟩

/-! ### Recovery (R374) -/

/-- The recovery of a source, once its quiet time has passed. -/
def Dev.recovered (d : Dev) (i : Nat) : Dev :=
  let sel := fun (r : FRec) => r.src = i && !r.early
  let recs := d.flt.opens.filter (d.chosen d.flt.opens sel false)
  let c := topClass (recs.filter (·.src = i))
  let e := (d.closeRecs sel false).count (F.FLT_RECOVERYc.count c)
  let x : Recov := ⟨d.sys.now8 + 1, c, e.get (F.FLT_RECOVERYc.count c) ≠ d.get (F.FLT_RECOVERYc.count c), recs⟩
  ({ e with flt := { e.flt with recov := e.flt.recov.filter (fun y => y.at8 = d.sys.now8 + 1) ++ [x] } } : Dev).fltFlag 3

theorem Dev.quietExpire_eq (d : Dev) (i : Nat) (hRuns : d.quietRuns i = true) :
    d.quietExpire i = (d.advanceTo (Store.get 0 d.flt.quietFrom i - 1 + (d.reactOf i).quietMs * 125000)).recovered i := by
  rw [Dev.quietExpire, if_neg (by simp [hRuns])]
  rfl

theorem topClass_le (l : List FRec) (h : ∀ r ∈ l, r.cls < 5) : topClass l < 5 := by
  rw [topClass]
  refine List.foldlRecOn l _ (motive := fun m => m < 5) (by decide) fun m hm r hr => ?_
  have hCls := h r hr
  split_ifs
  · exact hm
  · exact max_lt hm hCls

/-- The recoveries of the clock of the last one. -/
def Dev.recovNoted (d : Dev) (l : List Recov) : Dev := { d with flt := { d.flt with recov := l } }

theorem Dev.Closes.noteRecov {gone : FRec → Bool} {d e : Dev} (h : Dev.Closes gone d e) (l : List Recov) :
    Dev.Closes gone d (e.recovNoted l) := ⟨h.opens, h.strobes, h.sys, h.sht, h.reg⟩

theorem Dev.SameBooks.fltFlag {d e : Dev} (h : Dev.SameBooks d e) : Dev.SameBooks d (e.fltFlag 3) := h.flag _ _ _ _ (by decide)

theorem Dev.bit_fltFlag (d : Dev) : bit ((d.fltFlag 3).rd R.FLT_IRQ_STATUS) 3 = true := Dev.rd_flag_same _ _ _ _ _ (by decide) (by decide) (by decide)

theorem Dev.Closes.same {gone : FRec → Bool} {d e f : Dev} (h : Dev.Closes gone d e) (g : Dev.SameBooks e f) : Dev.Closes gone d f :=
  ⟨g.opens.trans h.opens, g.strobes.trans h.strobes, g.sys.trans h.sys, g.sht.trans h.sht, fun r hr => (g.reg r hr).trans (h.reg r hr)⟩

theorem Dev.recovered_eq (d : Dev) (i : Nat) : ∃ c l, d.recovered i =
    (((d.closeRecs (fun r => r.src = i && !r.early) false).count (F.FLT_RECOVERYc.count c)).recovNoted l).fltFlag 3 := by
  unfold Dev.recovered Dev.recovNoted
  exact ⟨_, _, rfl⟩

theorem Dev.recovered_closes (d : Dev) (i : Nat) :
    Dev.Closes (d.chosen d.flt.opens (fun r => r.src = i && !r.early) false) d (d.recovered i) := by
  obtain ⟨c, l, hEq⟩ := d.recovered_eq i
  rw [hEq]
  exact (((Dev.closeRecs_closes d _ false).same (Dev.SameBooks.refl.count _ (Dev.SameBooks.recovery_offBooks _))).noteRecov _).same Dev.SameBooks.refl.fltFlag

theorem Dev.recovered_flags (d : Dev) (i : Nat) : bit ((d.recovered i).rd R.FLT_IRQ_STATUS) 3 = true := by
  obtain ⟨c, l, hEq⟩ := d.recovered_eq i
  rw [hEq]
  exact Dev.bit_fltFlag _

theorem Dev.recovered_early (d : Dev) (i : Nat) (r : FRec) (hr : r ∈ (d.recovered i).flt.opens) (hSrc : r.src = i) : r.early = true := by
  rw [(Dev.recovered_closes d i).opens, List.mem_filter] at hr
  obtain ⟨-, hKept⟩ := hr
  simp only [Dev.chosen, hSrc, Bool.false_and, Bool.not_false, Bool.true_and, decide_true, Bool.not_eq_true', Bool.or_eq_false_iff, Bool.not_eq_false'] at hKept
  exact hKept.1

/-! ### Shadows and the refresh (R371, R375) -/

theorem Dev.fltShow_keeps (d : Dev) : Dev.SameBooks d d.fltShow := .ofShows (Dev.fltShow_shows d)

/-- The shadows that have ended are closed. -/
def Dev.shadowsLeft (d : Dev) : Dev :=
  { d with flt := { d.flt with shadows := d.flt.shadows.filter fun x => !(decide (x.until_ ≤ d.now) && d.flt.strobes.all fun y => decide (x.until_ ≤ y.t)) } }

theorem Dev.shadowEnd_eq (d : Dev) (y : Shadow) (l : List Shadow) (h : d.flt.shadows = y :: l) :
    d.shadowEnd = (d.advanceTo ((l.map (·.until_)).foldl min y.until_)).shadowsLeft.fltShow := by
  have hMap : d.flt.shadows.map Shadow.until_ = y.until_ :: l.map Shadow.until_ := by rw [h, List.map_cons]
  rw [Dev.shadowEnd, hMap]
  rfl

theorem Dev.shadowsLeft_shown (d : Dev) : d.shadowsLeft.fltShow.now = d.now ∧
    d.shadowsLeft.fltShow.flt.shadows = d.flt.shadows.filter (fun x => decide (d.now < x.until_) || d.flt.strobes.any fun z => decide (z.t < x.until_)) ∧
    Dev.Frame fltShowParts d d.shadowsLeft.fltShow := by
  have hShown := Dev.fltShow_shows d.shadowsLeft
  have hFrame : Dev.Frame fltShowParts d d.shadowsLeft := Frame.setFlt Frame.refl _ (by simp [fltShowParts]) (.inr rfl)
  have hNow : d.shadowsLeft.now = d.now := rfl
  have hLeft : d.shadowsLeft.flt.shadows = d.flt.shadows.filter fun x => !(decide (x.until_ ≤ d.now) && d.flt.strobes.all fun y => decide (x.until_ ≤ y.t)) := rfl
  refine ⟨((Dev.fltShow_keeps _).reg R.EVT_TIME (by decide)).trans hNow, ?_, Frame.trans hFrame hShown.frame⟩
  rw [hShown.flt]
  refine hLeft.trans (List.filter_congr fun x _ => ?_)
  rw [Bool.not_and, List.not_all_eq_any_not]
  refine congrArg₂ _ ?_ (congrArg d.flt.strobes.any (funext fun z => ?_))
  · simp only [← decide_not, not_le]
  · simp only [← decide_not, not_le]

/-- The collector has refreshed the generator. -/
def Dev.refreshedNow (d : Dev) : Dev := { d with flt := { d.flt with refreshed := d.sys.now8 + 1 } }

theorem Dev.refreshedNow_shows (d : Dev) : d.refreshedNow.fltShow.sys.now8 = d.sys.now8 ∧ d.refreshedNow.fltShow.flt.refreshed = d.sys.now8 + 1 ∧
    d.refreshedNow.fltShow.on F.FLT_STATUS.beat_ok = true ∧ Dev.Frame fltShowParts d d.refreshedNow.fltShow := by
  have hFresh : Dev.Frame fltShowParts d d.refreshedNow := Frame.setFlt Frame.refl _ (by simp [fltShowParts]) (.inr rfl)
  have hNow : d.refreshedNow.sys.now8 = d.sys.now8 := rfl
  have hRefreshed : d.refreshedNow.flt.refreshed = d.sys.now8 + 1 := rfl
  generalize d.refreshedNow = f at *
  have hShown := Dev.fltShow_shows f
  have hSys := (Dev.fltShow_keeps f).sys
  generalize f.fltShow = g at *
  refine ⟨by rw [hSys, hNow], by rw [hShown.flt]; exact hRefreshed, hShown.beat.trans ?_, Frame.trans hFresh hShown.frame⟩
  rw [Dev.beatOk, hRefreshed, hNow]
  simp

theorem Dev.refreshedNow_shown (d : Dev) : d.fltShow.refreshedNow.fltShow.sys.now8 = d.sys.now8 ∧ d.fltShow.refreshedNow.fltShow.flt.refreshed = d.sys.now8 + 1 ∧
    d.fltShow.refreshedNow.fltShow.on F.FLT_STATUS.beat_ok = true ∧ Dev.Frame fltShowParts d d.fltShow.refreshedNow.fltShow := by
  obtain ⟨hNow, hRefreshed, hBeat, hFrame⟩ := Dev.refreshedNow_shows d.fltShow
  have hSys := (Dev.fltShow_keeps d).sys
  rw [hSys] at hNow hRefreshed
  exact ⟨hNow, hRefreshed, hBeat, Frame.trans (Dev.fltShow_shows d).frame hFrame⟩

/-! ### ALIVE (R375) -/

/-- ALIVE is timed anew. -/
def Dev.aliveTimed (d : Dev) : Dev := { d with flt := { d.flt with aliveAt := d.sys.now8 } }

/-- The level of ALIVE changes. -/
def Dev.aliveTurned (d : Dev) : Dev := d.aliveTimed.put F.FLT_STATUS.alive_level (1 - d.aliveTimed.get F.FLT_STATUS.alive_level)

/-- A level of ALIVE has been held until a tick. -/
def Dev.aliveHeld (d : Dev) (t : Nat) : Dev := ({ d with free := d.free + 1 } : Dev).advance8To t

/-- What follows once ALIVE has been judged again. -/
def Dev.aliveEnd (d : Dev) : Dev :=
  if !d.on F.FLT_STATUS.alive_running then d
  else
    let d := { d with flt := { d.flt with aliveAt := d.sys.now8 } }
    d.put F.FLT_STATUS.alive_level (1 - d.get F.FLT_STATUS.alive_level)

theorem Dev.aliveEnd_eq (d : Dev) (h : d.on F.FLT_STATUS.alive_running = true) : d.aliveEnd = d.aliveTurned := by
  rw [Dev.aliveEnd, if_neg (by simp [h])]
  rfl

/-- What follows once ALIVE has been judged. -/
def Dev.aliveStep (d : Dev) : Dev :=
  if !d.on F.FLT_STATUS.alive_running then d
  else
    let (v, d) := d.freeVal 12
    (d.advance8To (d.flt.aliveAt + 60625 + v % 3751)).fltShow.aliveEnd

theorem Dev.aliveStep_eq (d : Dev) (h : d.on F.FLT_STATUS.alive_running = true) :
    d.aliveStep = (d.aliveHeld (d.flt.aliveAt + 60625 + (Config.freeValue d.free).toNat % 2 ^ 12 % 3751)).fltShow.aliveEnd := by
  rw [Dev.aliveStep, if_neg (by simp [h]), Dev.aliveHeld, Dev.freeVal]

theorem Dev.aliveToggle_eq (d : Dev) : d.aliveToggle = d.fltShow.aliveStep := by
  unfold Dev.aliveToggle Dev.aliveStep Dev.aliveEnd
  rfl

theorem Dev.frame_aliveTimed (d : Dev) : Dev.Frame fltShowParts d d.aliveTimed := Frame.setFlt Frame.refl _ (by simp [fltShowParts]) (.inr rfl)

theorem Dev.aliveTurned_turns (d : Dev) : d.aliveTurned.get F.FLT_STATUS.alive_level = 1 - d.get F.FLT_STATUS.alive_level ∧
    d.aliveTurned.on F.FLT_STATUS.alive_running = d.on F.FLT_STATUS.alive_running ∧ d.aliveTurned.sys.now8 = d.sys.now8 ∧ d.aliveTurned.flt.aliveAt = d.sys.now8 ∧
    Dev.Frame fltShowParts d d.aliveTurned := by
  have hFrame := d.frame_aliveTimed
  have hGet (g : Fld) : d.aliveTimed.get g = d.get g := rfl
  have hOn (g : Fld) : d.aliveTimed.on g = d.on g := rfl
  have hAt : d.aliveTimed.flt.aliveAt = d.sys.now8 ∧ d.aliveTimed.sys.now8 = d.sys.now8 := ⟨rfl, rfl⟩
  have hBit : d.get F.FLT_STATUS.alive_level < 2 ^ 1 := d.get_lt _
  rw [Dev.aliveTurned, hGet]
  generalize d.aliveTimed = e at *
  refine ⟨(Dev.get_put_same _ _ _ (by decide)).trans ?_, ?_, hAt.2, hAt.1, Frame.put hFrame F.FLT_STATUS.alive_level _ (by decide)⟩
  · show (1 - d.get F.FLT_STATUS.alive_level) % 2 ^ 1 = _
    omega
  · rw [Dev.on_put_other _ F.FLT_STATUS.alive_level F.FLT_STATUS.alive_running _ rfl (by decide) (by decide) (by decide), hOn]

theorem Dev.aliveHeld_holds (d : Dev) (t : Nat) : (d.aliveHeld t).sys.now8 = max d.sys.now8 t ∧ (d.aliveHeld t).flt = d.flt ∧
    (∀ g : Fld, g.reg = R.FLT_STATUS → (d.aliveHeld t).get g = d.get g) ∧ Dev.Frame (freeParts ++ timeParts) d (d.aliveHeld t) := by
  have hFrame : Dev.Frame (freeParts ++ timeParts) d (d.aliveHeld t) :=
    Frame.advance8To (Frame.setFree Frame.refl _ (by simp [freeParts])) _ fun _ hp => List.mem_append_right _ hp
  exact ⟨Dev.now8_advance8To (d := ({ d with free := d.free + 1 } : Dev)) t, Dev.advance8To_flt _ _, fun g hg => Frame.get hFrame g (by rw [hg]; decide), hFrame⟩

/-- The registers that judge ALIVE and the configuration outlast a level of it. -/
theorem Dev.aliveOk_held (d : Dev) (t : Nat) (hOk : d.aliveOk = true) (hBeat : max d.sys.now8 t + 1 ≤ d.flt.refreshed + 25000) : (d.aliveHeld t).aliveOk = true := by
  obtain ⟨hNow, hFlt, -, hFrame⟩ := d.aliveHeld_holds t
  have hBeatD : d.beatOk = true := by
    rw [Dev.aliveOk, Bool.and_eq_true, Bool.and_eq_true] at hOk
    exact hOk.1.2
  have hFresh : d.flt.refreshed ≠ 0 := by
    rintro hZero
    simp [Dev.beatOk, hZero] at hBeatD
  refine (Dev.aliveOk_congr hFrame (by decide) (by decide) (by decide) (by rw [hFlt]) ?_).trans hOk
  rw [hBeatD, Dev.beatOk, hFlt, hNow]
  simp only [ne_eq, hFresh, not_false_eq_true, decide_true, Bool.true_and, decide_eq_true_eq]
  omega

/-- ALIVE as a toggle leaves it. -/
structure Dev.Toggles (d e : Dev) : Prop where
  level : e.get F.FLT_STATUS.alive_level = 1 - d.get F.FLT_STATUS.alive_level
  running : e.on F.FLT_STATUS.alive_running = true
  now8 : e.sys.now8 = max d.sys.now8 (d.flt.aliveAt + 60625 + (Config.freeValue d.free).toNat % 2 ^ 12 % 3751)
  at8 : e.flt.aliveAt = e.sys.now8
  frame : Dev.Frame (fltShowParts ++ freeParts ++ timeParts) d e

theorem Dev.aliveToggle_toggles (d : Dev) (hOk : d.aliveOk = true) (hRuns : d.on F.FLT_STATUS.alive_running = true)
    (hBeat : max d.sys.now8 (d.flt.aliveAt + 64375) + 1 ≤ d.flt.refreshed + 25000) : Dev.Toggles d d.aliveToggle := by
  have hShown := Dev.fltShow_shows d
  have hFlt : d.fltShow.flt = d.flt := by
    rw [hShown.flt, hOk, hRuns]
    rfl
  have hNow : d.fltShow.sys.now8 = d.sys.now8 := by rw [(Dev.fltShow_keeps d).sys]
  have hFree : d.fltShow.free = d.free := hShown.frame Part.free (by simp [fltShowParts])
  have hOkShown : d.fltShow.aliveOk = true := (Dev.aliveOk_congr hShown.frame (by decide) (by decide) (by decide) (by rw [hFlt]) (Dev.beatOk_congr (by rw [hFlt]) hNow)).trans hOk
  have hLength : (Config.freeValue d.free).toNat % 2 ^ 12 % 3751 < 3751 := Nat.mod_lt _ (by decide)
  rw [Dev.aliveToggle_eq]
  generalize d.fltShow = e at *
  obtain ⟨hFrame, -, hRunning, hLevel, -⟩ := hShown
  rw [hOk] at hRunning
  rw [Dev.aliveStep_eq _ hRunning, hFree, hFlt]
  generalize hT : d.flt.aliveAt + 60625 + (Config.freeValue d.free).toNat % 2 ^ 12 % 3751 = t
  obtain ⟨hNowE, -, hStatus, hFrameE⟩ := e.aliveHeld_holds t
  have hOkE := e.aliveOk_held t hOkShown (by rw [hNow, hFlt]; omega)
  have hLevelE := hStatus F.FLT_STATUS.alive_level rfl
  generalize e.aliveHeld t = f at *
  have hShownF := Dev.fltShow_shows f
  have hNowF : f.fltShow.sys.now8 = f.sys.now8 := by rw [(Dev.fltShow_keeps f).sys]
  generalize f.fltShow = g at *
  obtain ⟨hFrameG, -, hRunningG, hLevelG, -⟩ := hShownF
  rw [hOkE] at hRunningG
  rw [Dev.aliveEnd_eq _ hRunningG]
  obtain ⟨hTurn, hRunT, hNowT, hAtT, hFrameT⟩ := g.aliveTurned_turns
  have hSub : ∀ p ∈ freeParts ++ timeParts, p ∈ fltShowParts ++ freeParts ++ timeParts := fun p hp => by
    rw [List.append_assoc]
    exact List.mem_append_right _ hp
  have hShow : ∀ p ∈ fltShowParts, p ∈ fltShowParts ++ freeParts ++ timeParts := fun _ hp => List.mem_append_left _ (List.mem_append_left _ hp)
  exact ⟨by rw [hTurn, hLevelG, hLevelE, hLevel], hRunT.trans hRunningG, by rw [hNowT, hNowF, hNowE, hNow, hT], by rw [hAtT, hNowT],
    Frame.trans (Frame.trans (Frame.trans (Frame.mono hFrame hShow) (Frame.mono hFrameE hSub)) (Frame.mono hFrameG hShow)) (Frame.mono hFrameT hShow)⟩

end

end Sys2Proof.Machine

namespace Sys2Proof.Proofs

section
variable {s : State}

/-! ### FLT_ACK (R373) -/

theorem ack_refused (v : Word64) (hDirect : s.dev.direct R.FLT_ACK.off) (hOne : v.toNat.testBit 63 = false) (hIndex : 41 < bits v.toNat 37 32) :
    Completes (exec (.fltAck v) s) fun t =>
      t.dev.get F.FLT_LOST.rejected = min (s.dev.get F.FLT_LOST.rejected + 1) (2 ^ 16 - 1) ∧ s.Frame [Part.reg R.FLT_LOST.off] t := by
  obtain ⟨hEnd, hD3, hOn, -⟩ := hDirect
  refine completes_onDev (fun d => d.reach R.FLT_ACK.off (·.fltAck v.toNat)) rfl ?_
  dsimp only
  rw [Dev.reach_direct _ _ _ hEnd hD3 hOn, Dev.fltAck]
  have hBit : bit v.toNat 63 = false := (bit_eq_testBit _ _).trans hOne
  dsimp only
  rw [if_pos (by simp [hBit, hIndex])]
  exact ⟨Dev.get_count_same _ _ _ (by decide), Frame.ofDev (Frame.count Frame.refl F.FLT_LOST.rejected _ (by simp [F.FLT_LOST.rejected]))⟩

/-- The records an acknowledgement closes are those it names, and the consequences of the causes it names. -/
theorem chosen_ack (d : Dev) (sel : FRec → Bool) (r : FRec) :
    let own := fun (r : FRec) => decide (r.at8 ≠ d.sys.now8 + 1) && sel r
    d.chosen d.flt.opens sel true r = (own r || (decide (r.at8 ≠ d.sys.now8 + 1) && r.conseq && d.flt.opens.any fun x => !x.conseq && own x && decide (x.esn = r.link))) := by
  have hAny : (d.flt.opens.any fun c => sel c && !(true && decide (c.at8 = d.sys.now8 + 1)) && !c.conseq && decide (c.esn = r.link)) =
      d.flt.opens.any fun x => !x.conseq && (decide (x.at8 ≠ d.sys.now8 + 1) && sel x) && decide (x.esn = r.link) := by
    refine congrArg d.flt.opens.any (funext fun c => ?_)
    rw [decide_not, Bool.true_and]
    cases sel c <;> cases c.conseq <;> simp
  dsimp only [Dev.chosen]
  rw [hAny, decide_not, Bool.true_and]
  cases decide (r.at8 = d.sys.now8 + 1) <;> cases sel r <;> simp only [Bool.not_true, Bool.not_false, Bool.true_and, Bool.false_and, Bool.and_false, Bool.true_or, Bool.false_or]

theorem ack_closes (v : Word64) (hDirect : s.dev.direct R.FLT_ACK.off) (hIndex : v.toNat.testBit 63 = true ∨ bits v.toNat 37 32 ≤ 41) :
    Completes (exec (.fltAck v) s) fun t =>
      let up := fun (r : FRec) => decide ((v.toNat % 2 ^ 32 + 2 ^ 32 - r.esn) % 2 ^ 32 < 2 ^ 31)
      let old := fun (r : FRec) => decide (r.at8 ≠ s.dev.sys.now8 + 1)
      let own := fun (r : FRec) => old r && (v.toNat.testBit 63 || decide (r.src = bits v.toNat 37 32)) && up r
      let cause := fun (r : FRec) => old r && r.conseq && s.dev.flt.opens.any fun x => !x.conseq && own x && decide (x.esn = r.link)
      t.dev.flt.opens = s.dev.flt.opens.filter (fun r => !(own r || cause r)) ∧ t.dev.flt.strobes = s.dev.flt.strobes ∧
      t.dev.rd R.FLT_COUNT = s.dev.rd R.FLT_COUNT ∧ t.dev.rd R.EVT_ESN = s.dev.rd R.EVT_ESN ∧ t.dev.sys = s.dev.sys ∧ t.dev.sht = s.dev.sht ∧
      t.mem = s.mem ∧ t.pending = s.pending := by
  obtain ⟨hEnd, hD3, hOn, -⟩ := hDirect
  refine completes_onDev (fun d => d.reach R.FLT_ACK.off (·.fltAck v.toNat)) rfl ?_
  dsimp only
  rw [Dev.reach_direct _ _ _ hEnd hD3 hOn, Dev.fltAck]
  have hTaken : ¬(!bit v.toNat 63 && decide (41 < bits v.toNat 37 32)) = true := by
    rcases hIndex with h | h
    · have hBit : bit v.toNat 63 = true := (bit_eq_testBit _ _).trans h
      simp [hBit]
    · simp
      omega
  dsimp only
  rw [if_neg hTaken]
  generalize hSel : (fun (r : FRec) => (bit v.toNat 63 || decide (r.src = bits v.toNat 37 32)) && decide ((v.toNat % 2 ^ 32 + 2 ^ 32 - r.esn) % 2 ^ 32 < 2 ^ 31)) = sel
  have hRecov := (Dev.SameBooks.refl (d := s.dev)).ackRecov sel
  have hClosed := Dev.closeRecs_closes (s.dev.ackRecov sel) sel true
  generalize s.dev.ackRecov sel = e at *
  have hGone (r : FRec) : e.chosen s.dev.flt.opens sel true r = s.dev.chosen s.dev.flt.opens sel true r := by rw [Dev.chosen, Dev.chosen, hRecov.sys]
  refine ⟨?_, hClosed.strobes.trans hRecov.strobes, (hClosed.reg _ (by decide)).trans (hRecov.reg _ (by decide)), (hClosed.reg _ (by decide)).trans (hRecov.reg _ (by decide)),
    hClosed.sys.trans hRecov.sys, hClosed.sht.trans hRecov.sht, rfl, rfl⟩
  rw [hClosed.opens, hRecov.opens]
  refine List.filter_congr fun r _ => ?_
  rw [hGone, chosen_ack, ← hSel]
  simp only [Bool.and_assoc, bit_eq_testBit]

/-! ### QUIET_EXPIRE (R374) -/

/-- Engine time that has run for n ticks, as its register holds it. -/
theorem now_advance_mod (d : Dev) (n : Nat) (hRuns : d.evt.running = true) : (d.advance n).now = (d.now + d.timeGain n) % 2 ^ 64 := by
  unfold Dev.advance
  dsimp only
  generalize d.timeGain n = g at *
  have hStart : Dev.now (Dev.put { d with sys := { d.sys with now8 := d.sys.now8 + n } } F.SYS_SECONDS.seconds ((d.sys.now8 + n) / 125000000)) = d.now :=
    Dev.rd_wr_ne _ _ _ _ (by decide)
  simp only [Dev.put_evt, hRuns, if_true]
  rw [hStart, Dev.now, Dev.rd_wr_same]
  exact Nat.mod_mod _ _

theorem now_advanceTo_mod (d : Dev) (t : Nat) (hRuns : d.evt.running = true) : (d.advanceTo t).now = d.timeAt t % 2 ^ 64 := by
  have hNow : d.now < 2 ^ 64 := Dev.rd_lt _ _
  by_cases hLate : d.now < t
  · rw [Dev.advanceTo, if_pos (by simp [hRuns, hLate]), Dev.timeAt, if_pos hLate, now_advance_mod _ _ hRuns]
  · rw [Dev.advanceTo, if_neg (by simp [hLate]), Dev.timeAt, if_neg hLate, Nat.mod_eq_of_lt hNow]

theorem quiet_expires (i : Fin 42) (hRuns : s.dev.quietRuns i = true) : Completes (exec (.quietExpire i) s) fun t =>
    (∀ r ∈ t.dev.flt.opens, r.src = i.val → r.early = true) ∧ bit (t.dev.rd R.FLT_IRQ_STATUS) 3 = true ∧
    (s.dev.evt.running = true → t.dev.now = s.dev.timeAt (Store.get 0 s.dev.flt.quietFrom i - 1 + (s.dev.reactOf i).quietMs * 125000) % 2 ^ 64) ∧
    t.dev.rd R.FLT_COUNT = s.dev.rd R.FLT_COUNT ∧ t.mem = s.mem ∧ t.pending = s.pending := by
  refine completes_onDev (fun d => d.quietExpire i) rfl ?_
  dsimp only
  rw [Dev.quietExpire_eq _ _ hRuns]
  generalize Store.get 0 s.dev.flt.quietFrom i - 1 + (s.dev.reactOf i).quietMs * 125000 = u
  have hNow := now_advanceTo_mod s.dev u
  have hCount : (s.dev.advanceTo u).rd R.FLT_COUNT = s.dev.rd R.FLT_COUNT := Frame.rd (Dev.frame_advanceTo u) _ (by decide)
  generalize s.dev.advanceTo u = d at *
  have hClosed := d.recovered_closes i
  exact ⟨d.recovered_early i, d.recovered_flags i, fun hRun => (hClosed.reg R.EVT_TIME (by decide)).trans (hNow hRun), (hClosed.reg _ (by decide)).trans hCount, rfl, rfl⟩

/-! ### SHADOW_END (R371) -/

theorem shadow_ended (d : Dev) (y : Shadow) (l : List Shadow) (hShadows : d.flt.shadows = y :: l) (hRuns : d.evt.running = true) (hNow : d.now < 2 ^ 62)
    (hUntil : ∀ x ∈ y :: l, x.until_ < 2 ^ 62) :
    d.shadowEnd.now = d.timeAt ((l.map (·.until_)).foldl min y.until_) ∧
    d.shadowEnd.flt.shadows = (y :: l).filter (fun x => decide (d.shadowEnd.now < x.until_) || d.flt.strobes.any fun z => decide (z.t < x.until_)) ∧
    Dev.Frame (fltShowParts ++ timeParts) d d.shadowEnd := by
  rw [Dev.shadowEnd_eq _ _ _ hShadows]
  have hFirst : (l.map (·.until_)).foldl min y.until_ < 2 ^ 62 :=
    List.foldlRecOn _ _ (motive := fun m => m < 2 ^ 62) (hUntil y (by simp)) fun m hm a _ => lt_of_le_of_lt (min_le_left _ _) hm
  generalize (l.map (·.until_)).foldl min y.until_ = u at *
  have hLt := d.timeAt_lt u
  have hTime := Dev.now_advanceTo d u hRuns (by omega)
  have hFrame : Dev.Frame (fltShowParts ++ timeParts) d (d.advanceTo u) := Frame.mono (Dev.frame_advanceTo u) fun _ hp => List.mem_append_right _ hp
  have hFlt : (d.advanceTo u).flt = d.flt := Dev.advanceTo_flt _ _
  generalize d.advanceTo u = e at *
  obtain ⟨hNowT, hLeft, hShown⟩ := e.shadowsLeft_shown
  generalize e.shadowsLeft.fltShow = f at *
  refine ⟨hNowT.trans hTime, ?_, Frame.trans hFrame (Frame.mono hShown fun _ hp => List.mem_append_left _ hp)⟩
  rw [hLeft, hNowT, hFlt, hShadows]

theorem shadow_ends (y : Shadow) (l : List Shadow) (hShadows : s.dev.flt.shadows = y :: l) (hRuns : s.dev.evt.running = true) (hNow : s.dev.now < 2 ^ 62)
    (hUntil : ∀ x ∈ y :: l, x.until_ < 2 ^ 62) : Completes (exec .shadowEnd s) fun t =>
      t.dev.now = s.dev.timeAt ((l.map (·.until_)).foldl min y.until_) ∧
      t.dev.flt.shadows = (y :: l).filter (fun x => decide (t.dev.now < x.until_) || s.dev.flt.strobes.any fun z => decide (z.t < x.until_)) ∧
      s.Frame (fltShowParts ++ timeParts) t := by
  refine completes_onDev Dev.shadowEnd rfl ?_
  obtain ⟨hTime, hLeft, hFrame⟩ := shadow_ended s.dev y l hShadows hRuns hNow hUntil
  exact ⟨hTime, hLeft, Frame.ofDev hFrame⟩

/-! ### ALIVE (R375) -/

theorem collector_refreshes (hOn : s.dev.domOn 0 = true) : Completes (exec .collectorRefresh s) fun t =>
    t.dev.sys.now8 = (if s.dev.flt.refreshed = 0 then s.dev.sys.now8 else max s.dev.sys.now8 (s.dev.flt.refreshed - 1 + 6250)) ∧
    t.dev.flt.refreshed = t.dev.sys.now8 + 1 ∧ t.dev.on F.FLT_STATUS.beat_ok = true ∧ s.Frame (fltShowParts ++ timeParts) t := by
  refine completes_onDev Dev.collectorRefresh rfl ?_
  have hBody : s.dev.collectorRefresh = (if s.dev.flt.refreshed = 0 then s.dev else s.dev.advance8To (s.dev.flt.refreshed - 1 + 6250)).fltShow.refreshedNow.fltShow := by
    rw [Dev.collectorRefresh, if_neg (by simp [hOn])]
    rfl
  dsimp only
  rw [hBody]
  have hTime : (if s.dev.flt.refreshed = 0 then s.dev else s.dev.advance8To (s.dev.flt.refreshed - 1 + 6250)).sys.now8 =
      (if s.dev.flt.refreshed = 0 then s.dev.sys.now8 else max s.dev.sys.now8 (s.dev.flt.refreshed - 1 + 6250)) := by
    rw [apply_ite (fun d : Dev => d.sys.now8), Dev.now8_advance8To]
  have hFrame : Dev.Frame (fltShowParts ++ timeParts) s.dev (if s.dev.flt.refreshed = 0 then s.dev else s.dev.advance8To (s.dev.flt.refreshed - 1 + 6250)) :=
    Frame.ite Frame.refl (Frame.advance8To Frame.refl _ fun _ hp => List.mem_append_right _ hp)
  generalize (if s.dev.flt.refreshed = 0 then s.dev else s.dev.advance8To (s.dev.flt.refreshed - 1 + 6250)) = d at *
  obtain ⟨hNow, hRefreshed, hBeat, hShown⟩ := d.refreshedNow_shown
  exact ⟨hNow.trans hTime, by rw [hRefreshed, hNow], hBeat, Frame.ofDev (Frame.trans hFrame (Frame.mono hShown fun _ hp => List.mem_append_left _ hp))⟩

theorem alive_stops (hOk : s.dev.aliveOk = false) : Completes (exec .aliveToggle s) fun t =>
    t.dev.on F.FLT_STATUS.alive_running = false ∧ t.dev.get F.FLT_STATUS.alive_level = s.dev.get F.FLT_STATUS.alive_level ∧ s.Frame fltShowParts t := by
  refine completes_onDev Dev.aliveToggle rfl ?_
  have hShown := Dev.fltShow_shows s.dev
  have hRuns := hShown.running.trans hOk
  dsimp only
  rw [Dev.aliveToggle_eq, Dev.aliveStep, if_pos (by simp [hRuns])]
  exact ⟨hRuns, hShown.level, Frame.ofDev hShown.frame⟩

end

/-! ### The fault latch (R377) -/

theorem latch_clears (s : State) (hDirect : s.dev.direct R.FLT_LATCH_CTRL.off) : Completes (exec .latchClear s) fun t =>
    (∀ (o : Nat), o < 0x300 → t.dev.rd ⟨0xE0400 + o, 64, 0⟩ = 0) ∧ t.dev.flt.latchK = 0 ∧
    s.Frame ([Part.flt] ++ (List.range 0x300).map fun o => Part.reg (0xE0400 + o)) t := by
  obtain ⟨hEnd, hD3, hOn, -⟩ := hDirect
  refine completes_onDev (fun d => d.reach R.FLT_LATCH_CTRL.off Dev.latchClear) rfl ?_
  dsimp only
  rw [Dev.reach_direct _ _ _ hEnd hD3 hOn, Dev.latchClear]
  refine ⟨fun o ho => ?_, rfl, Frame.ofDev (Frame.setFlt ?_ _ (by simp) (.inr rfl))⟩
  · refine (Dev.rd_resetRegs _ _ _ _).trans ?_
    dsimp only
    rw [if_pos ⟨by omega, by omega⟩, Nat.zero_mod]
  · intro p hp
    cases p with
    | reg o =>
      rintro r rfl
      rw [Dev.rd_resetRegs, if_neg]
      rintro ⟨hLo, hHi⟩
      exact hp (List.mem_append_right _ (List.mem_map.2 ⟨r.off - 0xE0400, List.mem_range.2 (by omega), by rw [Part.reg.injEq]; omega⟩))
    | act o => exact fun _ _ => rfl
    | _ => rfl

/-- Settles O50: closing by what `closeRecs` leaves of the books, ALIVE and the shadows by what `fltShow` shows. -/
theorem faultClosing : Obligations.FaultClosing := by
  refine ⟨fun s hOk hRuns hBeat => ?_, fun _ v hDirect hOne hIndex => ack_refused v hDirect hOne hIndex, fun _ v hDirect hIndex => ack_closes v hDirect hIndex,
    fun _ i hRuns _ => quiet_expires i hRuns, fun s i hRuns => ?_, fun _ y l hShadows hRuns hNow hUntil => shadow_ends y l hShadows hRuns hNow hUntil,
    fun s hShadows => ?_, fun _ hOn => collector_refreshes hOn, fun s hOn => ?_, fun s hOn hLoaded hOpens hRuns hRefreshed hHeld => ?_, fun _ hOk => alive_stops hOk,
    latch_clears⟩
  · refine completes_onDev Dev.aliveToggle rfl ?_
    obtain ⟨hLevel, hRunning, hNow, hAt, -⟩ := s.dev.aliveToggle_toggles hOk hRuns hBeat
    exact ⟨hLevel, hRunning, hNow, hAt, rfl, rfl⟩
  · refine completes_onDev (fun d => d.quietExpire i) rfl ?_
    rw [Dev.quietExpire, if_pos (by simp [hRuns])]
  · refine completes_onDev Dev.shadowEnd rfl ?_
    rw [Dev.shadowEnd, hShadows, List.map_nil]
  · refine completes_onDev Dev.collectorRefresh rfl ?_
    rw [Dev.collectorRefresh, if_pos (by simp [hOn])]
  · have hOk : s.dev.aliveOk = true := by
      rw [Dev.aliveOk, hOn, Dev.loaded, hLoaded, hOpens, Dev.beatOk, hRefreshed]
      simp
    refine completes_onDev Dev.aliveToggle rfl ?_
    obtain ⟨hLevel, hRunning, hNow, hAt, hFrame⟩ := s.dev.aliveToggle_toggles hOk hRuns (by omega)
    have hLength : (Config.freeValue s.dev.free).toNat % 2 ^ 12 % 3751 < 3751 := Nat.mod_lt _ (by decide)
    exact ⟨hLevel, hRunning, by dsimp only; omega, by dsimp only; omega, hAt, Frame.ofDev hFrame⟩

end Sys2Proof.Proofs
end

-- ==== Sitting: the commands of a stepper axis ====
section
/-! SUPPORT. The commands of a stepper axis, each by its state (R286-R288, R292, R303). -/
open Sys2Proof Sys2Proof.Machine Sys2Proof.Claims
set_option maxRecDepth 20000

namespace Sys2Proof.Machine

/-! ### The state of an axis -/

section
variable {d e : Dev} {m : Nat}

theorem Dev.stpS_modStp (d : Dev) (m : Nat) (u : StpAx → StpAx) : (d.modStp m u).stpS m = u (d.stpS m) := Store.get_set_same _ _ _ _
theorem Dev.stpS_put (d : Dev) (m : Nat) (g : Fld) (v : Nat) : (d.put g v).stpS m = d.stpS m := rfl
theorem Dev.stpState_modStp (d : Dev) (m k : Nat) (u : StpAx → StpAx) : (d.modStp m u).stpState k = d.stpState k := rfl
theorem Dev.get_modStp (d : Dev) (m : Nat) (u : StpAx → StpAx) (g : Fld) : (d.modStp m u).get g = d.get g := rfl

theorem Frame.modStp {ps : List Part} (h : Dev.Frame ps d e) (u : StpAx → StpAx) (hm : Part.stp m ∈ ps) : Dev.Frame ps d (e.modStp m u) := Frame.setStp h m _ hm

theorem mem_stParts_stp : Part.stp m ∈ stParts m := List.mem_cons_self
theorem mem_stParts_status : Part.reg (R.STP_AXm_STATUS m).off ∈ stParts m := List.mem_cons_of_mem _ List.mem_cons_self

/-- An axis that neither leaves nor enters FAULT changes its state alone. -/
theorem Dev.stpEnter_eq {st : Nat} (hst : st ≠ 5) (h5 : d.stpState m ≠ 5) : d.stpEnter m st = d.put (F.STP_AXm_STATUS.state m) st := by
  rw [Dev.stpEnter, Dev.when, if_neg (by simp [hst, h5])]

theorem Dev.stpState_put (d : Dev) (m : Nat) {st : Nat} (h : st < 16) : (d.put (F.STP_AXm_STATUS.state m) st).stpState m = st :=
  (Dev.get_put_same _ _ _ rfl).trans (Nat.mod_eq_of_lt h)

/-- A field of the status register below the state. -/
theorem Dev.get_putState (d : Dev) (m v : Nat) (g : Fld) (hReg : g.reg = R.STP_AXm_STATUS m) (hOk : g.ok = true) (hLow : g.hi < 28) :
    (d.put (F.STP_AXm_STATUS.state m) v).get g = d.get g :=
  Dev.get_put_other _ _ _ _ hReg rfl hOk (Bool.or_eq_true_iff.2 (.inl (decide_eq_true hLow)))

theorem Dev.stpState_putLow (d : Dev) (m v : Nat) (g : Fld) (hReg : g.reg = R.STP_AXm_STATUS m) (hOk : g.ok = true) (hLow : g.hi < 28) :
    (d.put g v).stpState m = d.stpState m :=
  Dev.get_put_other _ _ _ _ hReg.symm hOk rfl (Bool.or_eq_true_iff.2 (.inr (decide_eq_true hLow)))

/-- What a change of state leaves of the axis. -/
structure Dev.StpIn (m st : Nat) (x : StpAx) (d e : Dev) : Prop where
  state : e.stpState m = st
  axis : e.stpS m = x
  low : ∀ g : Fld, g.reg = R.STP_AXm_STATUS m → g.ok = true → g.hi < 28 → e.get g = d.get g
  frame : Dev.Frame (stParts m) d e

theorem Dev.stpIn_enter {st : Nat} (hst : st ≠ 5) (hLt : st < 16) (h5 : d.stpState m ≠ 5) : Dev.StpIn m st (d.stpS m) d (d.stpEnter m st) := by
  rw [Dev.stpEnter_eq hst h5]
  exact ⟨Dev.stpState_put _ _ hLt, rfl, fun g hReg hOk hLow => Dev.get_putState _ _ _ g hReg hOk hLow, Frame.put Frame.refl _ _ mem_stParts_status⟩

/-- An axis whose hidden state changes too. -/
theorem Dev.stpIn_mod {st : Nat} (u : StpAx → StpAx) (hst : st ≠ 5) (hLt : st < 16) (h5 : d.stpState m ≠ 5) :
    Dev.StpIn m st (u (d.stpS m)) d ((d.modStp m u).stpEnter m st) := by
  have hGet (g : Fld) := Dev.get_modStp d m u g
  have hAxis := Dev.stpS_modStp d m u
  have hFrame : Dev.Frame (stParts m) d (d.modStp m u) := Frame.modStp Frame.refl u mem_stParts_stp
  have hNot : (d.modStp m u).stpState m ≠ 5 := h5
  generalize d.modStp m u = e at *
  obtain ⟨hState, hKept, hLow, hEnter⟩ := Dev.stpIn_enter hst hLt hNot
  exact ⟨hState, hKept.trans hAxis, fun g hReg hOk hHi => (hLow g hReg hOk hHi).trans (hGet g), Frame.trans hFrame hEnter⟩

/-! ### Refusals (R303) -/

theorem Dev.stpRefuse_spec (d : Dev) (m : Nat) {c : Nat} (hc : c < 256) :
    (d.stpRefuse m c).get (F.STP_AXm_REFUSE.code m) = c ∧ bit ((d.stpRefuse m c).rd (R.STP_AXm_IRQ_STATUS m)) 8 = true ∧
      Dev.Frame ([Part.reg (R.STP_AXm_REFUSE m).off, Part.reg (R.STP_AXm_IRQ_STATUS m).off] ++ irqParts) d (d.stpRefuse m c) := by
  refine ⟨?_, Dev.rd_flag_same _ _ _ _ _ ?_ (by simp [R.STP_AXm_IRQ_STATUS]) (by simp [R.STP_AXm_IRQ_STATUS]),
    Frame.flag (Frame.put Frame.refl (F.STP_AXm_REFUSE.code m) _ (by simp [F.STP_AXm_REFUSE.code])) _ _ _ _ (by simp) (by simp +contextual)⟩
  · rw [Dev.stpRefuse, Dev.stpFlag, Dev.get_flag_ne, Dev.get_put_same _ _ _ rfl]
    · exact Nat.mod_eq_of_lt hc
    all_goals simp only [F.STP_AXm_REFUSE.code, R.STP_AXm_REFUSE, R.STP_AXm_IRQ_STATUS, R.MSIX_PBA]; omega
  · simp only [R.STP_AXm_IRQ_STATUS, R.MSIX_PBA]
    omega

theorem Dev.count_stpReject (d : Dev) : d.stpReject.get F.STP_REJECT.count = min (d.get F.STP_REJECT.count + 1) (2 ^ 16 - 1) := Dev.get_count_same _ _ _ rfl
theorem Dev.frame_stpReject (d : Dev) : Dev.Frame [Part.reg R.STP_REJECT.off] d d.stpReject := Frame.count Frame.refl _ _ (by simp [F.STP_REJECT.count])

end

theorem stRefused_of (s : State) (m : Nat) {c : Nat} (hc : c < 256) : stRefused s { s with dev := s.dev.stpRefuse m c } m c := by
  obtain ⟨hCode, hIrq, hFrame⟩ := Dev.stpRefuse_spec s.dev m hc
  exact ⟨hCode, hIrq, Frame.ofDev hFrame⟩

theorem stIgnored_of (s : State) : stIgnored s { s with dev := s.dev.stpReject } := ⟨Dev.count_stpReject _, Frame.ofDev (Dev.frame_stpReject _)⟩

/-! ### Start (R286, R287) -/

section
variable {d : Dev} {m r : Nat}

theorem Dev.blocked_state (h : d.stpBlocked m = none) : d.stpState m ≠ 5 ∧ d.stpState m ≠ 3 ∧ d.stpState m ≠ 4 ∧ d.sys.cut = false ∧ d.sine m 255 ≠ 0 := by
  unfold Dev.stpBlocked at h
  split_ifs at h with h5 hBusy hSine
  simp only [Bool.or_eq_true, decide_eq_true_eq, not_or] at hBusy
  obtain ⟨⟨h3, h4⟩, hCut⟩ := hBusy
  exact ⟨h5, h3, h4, by simpa using hCut, hSine⟩

/-- The move of record r as it is planned. -/
def Dev.stpPlan (d : Dev) (m r : Nat) : Prof × Option Nat :=
  (d.stpS m).prof.replan (stpGoal d m r * 2 ^ 32) (stpA (d.get (F.STP_AXm_MRECr.accel m r))) (stpA (d.get (F.STP_AXm_MRECr.decel m r)))
    (min (d.stpCap m) (stpV (d.get (F.STP_AXm_MRECr.speed m r)) 16)) (d.uni (16 + m))

theorem Dev.stpStart_ignored (h : d.stpState m = 0 ∨ d.idled = true) : d.stpStart m r = (d.stpReject, true) := if_pos (by simpa using h)

theorem Dev.stpStart_blocked {c : Nat} (h0 : d.stpState m ≠ 0) (hIdled : d.idled = false) (hBlocked : d.stpBlocked m = some c) :
    d.stpStart m r = (d.stpRefuse m c, true) := by
  rw [Dev.stpStart, if_neg (by simp [h0, hIdled]), hBlocked]

theorem Dev.stpStart_record (h0 : d.stpState m ≠ 0) (hIdled : d.idled = false) (hBlocked : d.stpBlocked m = none)
    (hRec : d.get (F.STP_AXm_MRECr.speed m r) = 0 ∨ 2 ^ 33 ≤ d.rd (R.STP_AXm_MRECr m r 1)) : d.stpStart m r = (d.stpRefuse m 5, true) := by
  rw [Dev.stpStart, if_neg (by simp [h0, hIdled]), hBlocked]
  dsimp only
  rw [if_pos]
  simp only [Bool.or_eq_true, decide_eq_true_eq, ne_eq]
  rcases hRec with h | h
  · exact .inl (.inr h)
  · exact .inr (by omega)

/-- The result of a start that finds its record in order. -/
def Dev.stpBegun (d : Dev) (m r : Nat) : Dev × Bool :=
  match (d.stpPlan m r).2 with
  | some c => (d.stpRefuse m c, true)
  | none => ((d.wr (R.STP_AXm_TARGET m) (enc 64 (stpGoal d m r))).stpRun m (d.stpPlan m r).1 r, false)

theorem Dev.stpStart_plan (h0 : d.stpState m ≠ 0) (hIdled : d.idled = false) (hBlocked : d.stpBlocked m = none) (hr : r < 8)
    (hSpeed : d.get (F.STP_AXm_MRECr.speed m r) ≠ 0) (hRec : d.rd (R.STP_AXm_MRECr m r 1) < 2 ^ 33)
    (hFree : d.towardLimit m (sgn (stpGoal d m r * 2 ^ 32 - (d.stpS m).prof.p)) = false) : d.stpStart m r = d.stpBegun m r := by
  rw [Dev.stpStart, if_neg (by simp [h0, hIdled]), hBlocked]
  dsimp only
  rw [if_neg]
  · rw [stpGoal] at hFree
    rw [if_neg (ne_true_of_eq_false hFree)]
    rfl
  · simp only [Bool.or_eq_true, decide_eq_true_eq, ne_eq, not_or, not_not]
    exact ⟨⟨by omega, hSpeed⟩, Nat.div_eq_of_lt hRec⟩

/-- The hidden state of an axis whose move begins. -/
def StpAx.moving (s : StpAx) (x : Prof) (r : Nat) : StpAx :=
  { s with prof := x, recNo := some r, interrupted := false, held := false, stallReported := false, stallN := 0, homeFail := false, a := s.a.newMove, b := s.b.newMove }

/-- What a move that begins leaves. -/
structure Dev.StpRuns (m : Nat) (x : Prof) (r : Nat) (d e : Dev) : Prop where
  state : e.stpState m = 2
  axis : e.stpS m = (d.stpS m).moving x r
  active : e.on (F.STP_AXm_STATUS.move_active m) = true
  frame : Dev.Frame (stParts m) d e

theorem Dev.stpRun_runs (x : Prof) (r : Nat) (h5 : d.stpState m ≠ 5) : Dev.StpRuns m x r d (d.stpRun m x r) := by
  have hAxis := Dev.stpS_modStp d m fun s => s.moving x r
  have hFrame : Dev.Frame (stParts m) d (d.modStp m fun s => s.moving x r) := Frame.modStp Frame.refl _ mem_stParts_stp
  have hNot : (d.modStp m fun s => s.moving x r).stpState m ≠ 5 := by rwa [Dev.stpState_modStp]
  have hEq : d.stpRun m x r = ((d.modStp m fun s => s.moving x r).put (F.STP_AXm_STATUS.move_active m) 1).stpEnter m 2 := by
    unfold Dev.stpRun StpAx.moving
    rfl
  rw [hEq]
  generalize (d.modStp m fun s => s.moving x r) = e at *
  have hNotE : (e.put (F.STP_AXm_STATUS.move_active m) 1).stpState m ≠ 5 := by rwa [Dev.stpState_putLow _ _ _ _ rfl rfl (by simp [F.STP_AXm_STATUS.move_active])]
  obtain ⟨hState, hKept, hLow, hEnter⟩ := Dev.stpIn_enter (st := 2) (by decide) (by decide) hNotE
  refine ⟨hState, hKept.trans ((Dev.stpS_put _ _ _ _).trans hAxis), ?_, Frame.trans (Frame.put hFrame (F.STP_AXm_STATUS.move_active m) _ mem_stParts_status) hEnter⟩
  rw [Dev.on, hLow _ rfl rfl (by simp [F.STP_AXm_STATUS.move_active]), Dev.get_put_same _ _ _ rfl]
  exact decide_eq_true (show 1 % 2 ^ 1 ≠ 0 by decide)

/-- What a start that is accepted leaves. -/
structure Dev.StpStarts (m r : Nat) (d e : Dev) : Prop where
  target : e.rd (R.STP_AXm_TARGET m) = enc 64 (stpGoal d m r)
  state : e.stpState m = 2
  axis : e.stpS m = (d.stpS m).moving (d.stpPlan m r).1 r
  active : e.on (F.STP_AXm_STATUS.move_active m) = true
  frame : Dev.Frame ([Part.reg (R.STP_AXm_TARGET m).off] ++ stParts m) d e

theorem Dev.stpBegun_starts (h5 : d.stpState m ≠ 5) (hPlan : (d.stpPlan m r).2 = none) : ∃ e, d.stpBegun m r = (e, false) ∧ Dev.StpStarts m r d e := by
  rw [Dev.stpBegun, hPlan]
  have hTarget : (d.wr (R.STP_AXm_TARGET m) (enc 64 (stpGoal d m r))).rd (R.STP_AXm_TARGET m) = enc 64 (stpGoal d m r) := by
    rw [Dev.rd_wr_same]
    show enc 64 _ % 2 ^ 64 % 2 ^ 64 = _
    rw [enc_mod, enc_mod]
  have hFrame : Dev.Frame ([Part.reg (R.STP_AXm_TARGET m).off] ++ stParts m) d (d.wr (R.STP_AXm_TARGET m) (enc 64 (stpGoal d m r))) := Frame.wr Frame.refl _ _ (by simp)
  have hNot : (d.wr (R.STP_AXm_TARGET m) (enc 64 (stpGoal d m r))).stpState m ≠ 5 := by
    rwa [Dev.stpState, Dev.get_wr_ne _ _ _ _ (by simp only [F.STP_AXm_STATUS.state, R.STP_AXm_STATUS, R.STP_AXm_TARGET]; omega)]
  have hAxis : (d.wr (R.STP_AXm_TARGET m) (enc 64 (stpGoal d m r))).stpS m = d.stpS m := rfl
  generalize d.wr (R.STP_AXm_TARGET m) (enc 64 (stpGoal d m r)) = e at *
  obtain ⟨hState, hKept, hActive, hRun⟩ := Dev.stpRun_runs (d.stpPlan m r).1 r hNot
  refine ⟨_, rfl, ?_, hState, by rw [hKept, hAxis], hActive, Frame.trans hFrame (Frame.mono hRun fun _ hp => List.mem_append_right _ hp)⟩
  rw [Frame.rd hRun, hTarget]
  simp only [stParts, List.mem_cons, List.not_mem_nil, or_false, reduceCtorEq, false_or, Part.reg.injEq, R.STP_AXm_STATUS, R.STP_AXm_TARGET]
  omega

/-! ### The plan of a record (R286) -/

theorem Dev.stpPlan_code : (d.stpPlan m r).2 =
    if (d.stpS m).prof.v = 0 ∧ stpGoal d m r * 2 ^ 32 < (d.stpS m).prof.p ∧ d.uni (16 + m) = true then some 2
    else if (d.stpS m).prof.v ≠ 0 ∧ (stpGoal d m r * 2 ^ 32 - (d.stpS m).prof.p) * sgn (d.stpS m).prof.v < stopDist (d.stpS m).prof.v 0 (stpA (d.get (F.STP_AXm_MRECr.decel m r))) ∧
      d.uni (16 + m) = true then some 1
    else none := by
  unfold Dev.stpPlan Prof.replan
  dsimp only
  by_cases hV : (d.stpS m).prof.v = 0
  · simp only [hV, if_true, true_and, ne_eq, not_true_eq_false, false_and, if_false, Bool.and_eq_true, decide_eq_true_eq]
    split_ifs <;> rfl
  · simp only [hV, if_false, ne_eq, not_false_eq_true, true_and, false_and]
    by_cases hShort : (stpGoal d m r * 2 ^ 32 - (d.stpS m).prof.p) * sgn (d.stpS m).prof.v < stopDist (d.stpS m).prof.v 0 (stpA (d.get (F.STP_AXm_MRECr.decel m r)))
    · simp only [hShort, if_true, true_and]
      split_ifs <;> rfl
    · simp only [hShort, if_false, false_and]

theorem Dev.stpPlan_prof (h : (d.stpPlan m r).2 = none) : (d.stpPlan m r).1 =
    { (d.stpS m).prof with
      target := stpGoal d m r * 2 ^ 32, acc := stpA (d.get (F.STP_AXm_MRECr.accel m r)), dec := stpA (d.get (F.STP_AXm_MRECr.decel m r)),
      peak := min (d.stpCap m) (stpV (d.get (F.STP_AXm_MRECr.speed m r)) 16),
      rev := if (d.stpS m).prof.v ≠ 0 ∧ (stpGoal d m r * 2 ^ 32 - (d.stpS m).prof.p) * sgn (d.stpS m).prof.v <
        stopDist (d.stpS m).prof.v 0 (stpA (d.get (F.STP_AXm_MRECr.decel m r))) then -sgn (d.stpS m).prof.v else 0 } := by
  unfold Dev.stpPlan Prof.replan at h ⊢
  dsimp only at h ⊢
  by_cases hV : (d.stpS m).prof.v = 0
  · simp only [hV, if_true, ne_eq, not_true_eq_false, false_and, if_false] at h ⊢
    split_ifs at h ⊢
    rfl
  · simp only [hV, if_false, ne_eq, not_false_eq_true, true_and] at h ⊢
    split_ifs at h ⊢
    · rfl
    · rfl

end

end Sys2Proof.Machine
end

-- ==== Sitting: stepper commands (O39) ====
section
/-! PROOF. Commands of a stepper axis (R286-R288, R291, R292, R295, R303, R305). -/
open Sys2Proof Sys2Proof.Machine Sys2Proof.Claims
set_option maxRecDepth 20000

namespace Sys2Proof.Machine

section
variable {d e : Dev} {m r : Nat}

/-! ### Stop and resume (R288) -/

theorem Dev.stpStop_moving (h : d.stpState m = 2) : d.stpStop m = (d.modStp m fun s => { s with interrupted := true }).stpEnter m 3 := by
  simp only [Dev.stpStop, h]

/-- The hidden state of an axis whose homing is stopped. -/
def StpAx.homeEnded (s : StpAx) (early : Bool) : StpAx := { s with homeFail := true, recNo := none, interrupted := true, searchLeft := early }

theorem Dev.stpStop_homing (h : d.stpState m = 4) : d.stpStop m =
    ((d.modStp m fun s => s.homeEnded (decide (d.get (F.STP_AXm_STATUS.home_phase m) = 1))).put (F.STP_AXm_STATUS.home_phase m) 0).stpEnter m 3 := by
  simp only [Dev.stpStop, h, StpAx.homeEnded]

theorem Dev.stpStop_homes (h : d.stpState m = 4) : (d.stpStop m).stpState m = 3 ∧
    (d.stpStop m).stpS m = (d.stpS m).homeEnded (decide (d.get (F.STP_AXm_STATUS.home_phase m) = 1)) ∧ (d.stpStop m).get (F.STP_AXm_STATUS.home_phase m) = 0 ∧
    Dev.Frame (stParts m) d (d.stpStop m) := by
  rw [Dev.stpStop_homing h]
  generalize decide (d.get (F.STP_AXm_STATUS.home_phase m) = 1) = early
  have hAxis := Dev.stpS_modStp d m fun s => s.homeEnded early
  have hFrame : Dev.Frame (stParts m) d (d.modStp m fun s => s.homeEnded early) := Frame.modStp Frame.refl _ mem_stParts_stp
  have hNot : (d.modStp m fun s => s.homeEnded early).stpState m ≠ 5 := by
    rw [Dev.stpState_modStp, h]
    decide
  generalize (d.modStp m fun s => s.homeEnded early) = e at *
  have hNotE : (e.put (F.STP_AXm_STATUS.home_phase m) 0).stpState m ≠ 5 := by rwa [Dev.stpState_putLow _ _ _ _ rfl rfl (by simp [F.STP_AXm_STATUS.home_phase])]
  obtain ⟨hState, hKept, hLow, hEnter⟩ := Dev.stpIn_enter (st := 3) (by decide) (by decide) hNotE
  refine ⟨hState, hKept.trans ((Dev.stpS_put _ _ _ _).trans hAxis), ?_, Frame.trans (Frame.put hFrame (F.STP_AXm_STATUS.home_phase m) _ mem_stParts_status) hEnter⟩
  rw [hLow _ rfl rfl (by simp [F.STP_AXm_STATUS.home_phase]), Dev.get_put_same _ _ _ rfl, Nat.zero_mod]

theorem Dev.stpStop_moves (h : d.stpState m = 2) : Dev.StpIn m 3 { d.stpS m with interrupted := true } d (d.stpStop m) := by
  rw [Dev.stpStop_moving h]
  exact Dev.stpIn_mod (fun s => { s with interrupted := true }) (by decide) (by decide) (by rw [h]; decide)

theorem Dev.stpResume_nothing {r : Nat} (h1 : d.stpState m = 1) (hIdled : d.idled = false) (hFree : d.stpBlocked m = none) (hRec : (d.stpS m).recNo = some r)
    (hNone : (d.stpS m).interrupted = false ∨ ((d.stpS m).prof.target - (d.stpS m).prof.p) / 2 ^ 32 = 0) : d.stpResume m = (d.stpRefuse m 8, true) := by
  rw [Dev.stpResume]
  dsimp only
  rw [if_neg (by simp [h1, hIdled]), if_neg (by simp [h1]), hFree, hRec]
  dsimp only
  rw [if_pos (by simpa using hNone)]

theorem Dev.stpResume_runs {r : Nat} (h1 : d.stpState m = 1) (hIdled : d.idled = false) (hFree : d.stpBlocked m = none) (hRec : (d.stpS m).recNo = some r)
    (hKept : (d.stpS m).interrupted = true ∧ ((d.stpS m).prof.target - (d.stpS m).prof.p) / 2 ^ 32 ≠ 0)
    (hAway : d.towardLimit m (sgn ((d.stpS m).prof.target - (d.stpS m).prof.p)) = false) :
    d.stpResume m = (d.stpRun m { (d.stpS m).prof with v := 0, rev := 0 } r, false) := by
  rw [Dev.stpResume]
  dsimp only
  rw [if_neg (by simp [h1, hIdled]), if_neg (by simp [h1]), hFree, hRec]
  dsimp only
  rw [if_neg (by simpa using hKept), if_neg (ne_true_of_eq_false hAway)]

/-! ### HOME (R292) -/

/-- The hidden state of an axis whose homing begins. -/
def StpAx.homing (s : StpAx) (target : Int) (acc peak : Nat) : StpAx :=
  { s with
    prof := { s.prof with target := target, acc := acc, dec := acc, rev := 0, peak := peak }
    recNo := none, interrupted := false, homeFail := false, searchLeft := false, released := false, held := false
    stallReported := false, stallN := 0, a := s.a.newMove, b := s.b.newMove }

/-- Homing begins in a phase. -/
def Dev.homeBegun (d : Dev) (m phase : Nat) (target : Int) (acc peak : Nat) : Dev :=
  (((d.modStp m fun s => s.homing target acc peak).put (F.STP_AXm_STATUS.home_phase m) phase).put (F.STP_AXm_STATUS.move_active m) 1).stpEnter m 4

theorem Dev.stpHome_begins (h1 : d.stpState m = 1) (hIdled : d.idled = false) (hUsed : d.limUsed m (d.homeSide m) = true) (hSine : d.sine m 255 ≠ 0) :
    ∃ acc, d.stpHome m = (d.homeBegun m (if d.limActive m (d.homeSide m) = true then 1 else 2)
      ((d.stpS m).prof.p + (if d.limActive m (d.homeSide m) = true then -sideDir (d.homeSide m) * homeFar
        else sideDir (d.homeSide m) * (d.ga (F.STP_AXm_HOMEMAX.home_max m) : Nat) * 2 ^ 32)) acc
      (min (d.stpCap m) (stpV (max 1 (d.ga (F.STP_AXm_HOMECFG.home_speed m))) 1)), false) := by
  refine ⟨stpA (d.ga (F.STP_AXm_RATES.home_accel m)), ?_⟩
  rw [Dev.stpHome, if_neg (by simp [h1, hIdled]), if_neg (by simp [h1]), if_neg (by simp [hUsed]), if_neg hSine, Dev.homeBegun]
  dsimp only
  have hTarget : (if d.limActive m (d.homeSide m) = true then (d.stpS m).prof.p - sideDir (d.homeSide m) * homeFar
        else (d.stpS m).prof.p + sideDir (d.homeSide m) * (d.ga (F.STP_AXm_HOMEMAX.home_max m) : Nat) * 2 ^ 32) =
      (d.stpS m).prof.p + (if d.limActive m (d.homeSide m) = true then -sideDir (d.homeSide m) * homeFar
        else sideDir (d.homeSide m) * (d.ga (F.STP_AXm_HOMEMAX.home_max m) : Nat) * 2 ^ 32) := by
    split
    · ring
    · rfl
  rw [← hTarget]
  rfl

/-- What HOME leaves where it is accepted. -/
structure Dev.StpHomes (m phase : Nat) (x : StpAx) (d e : Dev) : Prop where
  state : e.stpState m = 4
  phase : e.get (F.STP_AXm_STATUS.home_phase m) = phase
  axis : e.stpS m = x
  frame : Dev.Frame (stParts m) d e

theorem Dev.homeBegun_homes {phase : Nat} (hPhase : phase < 4) (target : Int) (acc peak : Nat) (h5 : d.stpState m ≠ 5) :
    Dev.StpHomes m phase ((d.stpS m).homing target acc peak) d (d.homeBegun m phase target acc peak) := by
  have hAxis := Dev.stpS_modStp d m fun s => s.homing target acc peak
  have hFrame : Dev.Frame (stParts m) d (d.modStp m fun s => s.homing target acc peak) := Frame.modStp Frame.refl _ mem_stParts_stp
  have hNot : (d.modStp m fun s => s.homing target acc peak).stpState m ≠ 5 := by rwa [Dev.stpState_modStp]
  rw [Dev.homeBegun]
  generalize (d.modStp m fun s => s.homing target acc peak) = e at *
  have hNotE : ((e.put (F.STP_AXm_STATUS.home_phase m) phase).put (F.STP_AXm_STATUS.move_active m) 1).stpState m ≠ 5 := by
    rwa [Dev.stpState_putLow _ _ _ _ rfl rfl (by simp [F.STP_AXm_STATUS.move_active]), Dev.stpState_putLow _ _ _ _ rfl rfl (by simp [F.STP_AXm_STATUS.home_phase])]
  obtain ⟨hState, hKept, hLow, hEnter⟩ := Dev.stpIn_enter (st := 4) (by decide) (by decide) hNotE
  refine ⟨hState, ?_, hKept.trans ((Dev.stpS_put _ _ _ _).trans ((Dev.stpS_put _ _ _ _).trans hAxis)),
    Frame.trans (Frame.put (Frame.put hFrame (F.STP_AXm_STATUS.home_phase m) _ mem_stParts_status) (F.STP_AXm_STATUS.move_active m) _ mem_stParts_status) hEnter⟩
  rw [hLow _ rfl rfl (by simp [F.STP_AXm_STATUS.home_phase]), Dev.get_put_other _ (F.STP_AXm_STATUS.move_active m) (F.STP_AXm_STATUS.home_phase m) _ rfl rfl rfl rfl,
    Dev.get_put_same _ _ _ rfl]
  exact Nat.mod_eq_of_lt hPhase

/-! ### Out of FAULT (R303) -/

/-- The hidden state of an axis whose fault is cleared. -/
def StpAx.cleared (s : StpAx) : StpAx := { s with held := true, offPend := false, prof := { s.prof with v := 0, rev := 0 }, a := {}, b := {} }

/-- The level of source 27 follows the axes in FAULT. -/
structure Dev.StpOut (m st : Nat) (d e : Dev) : Prop where
  state : e.stpState m = st
  axis : e.stpS m = d.stpS m
  level : e.on (F.FLT_SRCi_STATE.active 27) = decide (∃ k ∈ List.range 16, e.stpState k = 5)
  frame : Dev.Frame ([Part.reg (R.STP_AXm_STATUS m).off] ++ activeParts 27) d e

theorem Dev.stpState_setActive (d : Dev) (b : Bool) {k : Nat} (hk : k < 16) : (d.setActive 27 b).stpState k = d.stpState k :=
  Dev.get_setActive_ne _ _ _ _ (by simp only [F.STP_AXm_STATUS.state, R.STP_AXm_STATUS, R.FLT_SRCi_STATE]; omega)
    (by simp only [F.STP_AXm_STATUS.state, R.STP_AXm_STATUS, R.FLT_ACTIVE]; omega)

theorem Dev.stpOut_enter {st : Nat} (hm : m < 16) (hLt : st < 16) (h5 : d.stpState m = 5) : Dev.StpOut m st d (d.stpEnter m st) := by
  rw [Dev.stpEnter, Dev.when, if_pos (by simp [h5])]
  have hState := Dev.stpState_put d m hLt
  have hAxis := Dev.stpS_put d m (F.STP_AXm_STATUS.state m) st
  have hFrame : Dev.Frame ([Part.reg (R.STP_AXm_STATUS m).off] ++ activeParts 27) d (d.put (F.STP_AXm_STATUS.state m) st) := Frame.put Frame.refl _ _ (by simp [F.STP_AXm_STATUS.state])
  generalize d.put (F.STP_AXm_STATUS.state m) st = e at *
  generalize hAny : (List.range 16).any (fun b => decide (e.stpState b = 5)) = b
  have hStp : (e.setActive 27 b).stpS m = e.stpS m := by rw [Dev.stpS, Dev.setActive_stp, Dev.stpS]
  refine ⟨(Dev.stpState_setActive _ _ hm).trans hState, hStp.trans hAxis, ?_, Frame.setActive hFrame 27 b (by simp [activeParts]) (by simp [activeParts]) (by simp [activeParts])⟩
  rw [Dev.on_setActive_same _ (by decide), ← hAny, Bool.eq_iff_iff, List.any_eq_true, decide_eq_true_eq]
  simp only [decide_eq_true_eq]
  refine exists_congr fun k => and_congr_right fun hk => ?_
  rw [Dev.stpState_setActive _ _ (List.mem_range.1 hk)]

/-- The same where the hidden state of the axis changes. -/
theorem Dev.stpOut_mod {st : Nat} (u : StpAx → StpAx) (hm : m < 16) (hLt : st < 16) (h5 : d.stpState m = 5) :
    ((d.modStp m u).stpEnter m st).stpState m = st ∧ ((d.modStp m u).stpEnter m st).stpS m = u (d.stpS m) ∧
    ((d.modStp m u).stpEnter m st).on (F.FLT_SRCi_STATE.active 27) = decide (∃ k ∈ List.range 16, ((d.modStp m u).stpEnter m st).stpState k = 5) ∧
    Dev.Frame ([Part.reg (R.STP_AXm_STATUS m).off, Part.stp m] ++ activeParts 27) d ((d.modStp m u).stpEnter m st) := by
  have hAxis := Dev.stpS_modStp d m u
  have hFrame : Dev.Frame ([Part.reg (R.STP_AXm_STATUS m).off, Part.stp m] ++ activeParts 27) d (d.modStp m u) := Frame.modStp Frame.refl u (by simp)
  have hFault : (d.modStp m u).stpState m = 5 := by rwa [Dev.stpState_modStp]
  generalize d.modStp m u = e at *
  obtain ⟨hState, hKept, hLevel, hEnter⟩ := Dev.stpOut_enter hm hLt hFault
  exact ⟨hState, hKept.trans hAxis, hLevel, Frame.trans hFrame (Frame.mono hEnter (by simp +contextual))⟩

end

end Sys2Proof.Machine

namespace Sys2Proof.Proofs

section
variable {s : State} {m : Fin 16}

/-! ### The host's commands -/

/-- A host command that reaches its axis. -/
theorem onStepper {c : Instr} {P : State → Prop} (v : Nat) (u : Dev → Dev) (hOpen : stOpen s.dev m)
    (hExec : exec c s = s.onDev fun d => d.agree (R.STP_AXm_CMD m) v u) (h : P { s with dev := u s.dev }) : Completes (exec c s) P := by
  refine completes_onDev (fun d => d.agree (R.STP_AXm_CMD m) v u) hExec ?_
  rwa [Dev.agree_direct _ _ _ _ hOpen.1]

theorem start_accepted (r : Fin 8) (hIdled : s.dev.idled = false) (hOpen : stOpen s.dev m) (h0 : s.dev.stpState m ≠ 0) (hFree : s.dev.stpBlocked m = none)
    (hSpeed : s.dev.get (F.STP_AXm_MRECr.speed m r) ≠ 0) (hRec : s.dev.rd (R.STP_AXm_MRECr m r 1) < 2 ^ 33)
    (hAway : s.dev.towardLimit m (sgn (stpGoal s.dev m r * 2 ^ 32 - (s.dev.stpS m).prof.p)) = false) : Completes (exec (.stpStart m r) s) fun t =>
      let x := s.dev.stpS m
      let y := t.dev.stpS m
      let dec := stpA (s.dev.get (F.STP_AXm_MRECr.decel m r))
      let r' := (stpGoal s.dev m r * 2 ^ 32 - x.prof.p) * sgn x.prof.v
      if x.prof.v = 0 ∧ stpGoal s.dev m r * 2 ^ 32 < x.prof.p ∧ s.dev.uni (16 + m) = true then stRefused s t m 2
      else if x.prof.v ≠ 0 ∧ r' < stopDist x.prof.v 0 dec ∧ s.dev.uni (16 + m) = true then stRefused s t m 1
      else t.dev.rd (R.STP_AXm_TARGET m) = enc 64 (stpGoal s.dev m r) ∧ y.prof.target = stpGoal s.dev m r * 2 ^ 32 ∧ y.prof.p = x.prof.p ∧ y.prof.v = x.prof.v ∧
        y.prof.rev = (if x.prof.v ≠ 0 ∧ r' < stopDist x.prof.v 0 dec then -sgn x.prof.v else 0) ∧
        y.prof.peak = min (s.dev.stpCap m) (stpV (s.dev.get (F.STP_AXm_MRECr.speed m r)) 16) ∧ y.prof.acc = stpA (s.dev.get (F.STP_AXm_MRECr.accel m r)) ∧
        y.prof.dec = dec ∧ y.recNo = some r.val ∧ t.dev.stpState m = 2 ∧ t.dev.on (F.STP_AXm_STATUS.move_active m) = true ∧
        s.Frame ([Part.reg (R.STP_AXm_TARGET m).off] ++ stParts m) t := by
  refine onStepper (0x10000000 + r) (fun d => (d.stpStart m r).1) hOpen rfl ?_
  dsimp only
  rw [Dev.stpStart_plan h0 hIdled hFree r.isLt hSpeed hRec hAway]
  have hCode := Dev.stpPlan_code (d := s.dev) (m := m) (r := r)
  have hRefused (c : Nat) (hc : c < 256) (hPlan : (s.dev.stpPlan m r).2 = some c) : stRefused s { s with dev := (s.dev.stpBegun m r).1 } m c := by
    rw [Dev.stpBegun, hPlan]
    exact stRefused_of s m hc
  split
  next hBehind =>
    rw [if_pos hBehind] at hCode
    exact hRefused 2 (by decide) hCode
  next hBehind =>
    rw [if_neg hBehind] at hCode
    split
    next hShort =>
      rw [if_pos hShort] at hCode
      exact hRefused 1 (by decide) hCode
    next hShort =>
      rw [if_neg hShort] at hCode
      obtain ⟨e, hBegun, hTarget, hState, hAxis, hActive, hFrame⟩ := Dev.stpBegun_starts (Dev.blocked_state hFree).1 hCode
      rw [hBegun]
      rw [Dev.stpPlan_prof hCode] at hAxis
      dsimp only
      rw [hAxis]
      exact ⟨hTarget, rfl, rfl, rfl, rfl, rfl, rfl, rfl, rfl, hState, hActive, Frame.ofDev hFrame⟩

theorem start_refused (r : Fin 8) (hOpen : stOpen s.dev m)
    (hWhy : s.dev.stpState m = 0 ∨ s.dev.idled = true ∨ (s.dev.stpBlocked m).isSome = true ∨ s.dev.get (F.STP_AXm_MRECr.speed m r) = 0 ∨ 2 ^ 33 ≤ s.dev.rd (R.STP_AXm_MRECr m r 1)) :
    Completes (exec (.stpStart m r) s) fun t =>
      let st := s.dev.stpState m
      if st = 0 ∨ s.dev.idled = true then stIgnored s t
      else stRefused s t m (if st = 5 then 4 else if st = 3 ∨ st = 4 ∨ s.dev.sys.cut = true then 3 else if s.dev.sine m 255 = 0 then 6 else 5) := by
  refine onStepper (0x10000000 + r) (fun d => (d.stpStart m r).1) hOpen rfl ?_
  dsimp only
  split
  next hOff =>
    rw [Dev.stpStart_ignored hOff]
    exact stIgnored_of s
  next hOff =>
    obtain ⟨h0, hIdled⟩ := not_or.1 hOff
    have hIdled := eq_false_of_ne_true hIdled
    have hBlocked : s.dev.stpBlocked m = if s.dev.stpState m = 5 then some 4 else if s.dev.stpState m = 3 ∨ s.dev.stpState m = 4 ∨ s.dev.sys.cut = true then some 3
        else if s.dev.sine m 255 = 0 then some 6 else none := by
      rw [Dev.stpBlocked]
      simp only [Bool.or_eq_true, decide_eq_true_eq, or_assoc]
    have hCode (c : Nat) (hc : c < 256) (h : s.dev.stpBlocked m = some c) : stRefused s { s with dev := (s.dev.stpStart m r).1 } m c := by
      rw [Dev.stpStart_blocked h0 hIdled h]
      exact stRefused_of s m hc
    by_cases h5 : s.dev.stpState m = 5
    · rw [if_pos h5] at hBlocked ⊢
      exact hCode _ (by decide) hBlocked
    rw [if_neg h5] at hBlocked ⊢
    by_cases hBusy : s.dev.stpState m = 3 ∨ s.dev.stpState m = 4 ∨ s.dev.sys.cut = true
    · rw [if_pos hBusy] at hBlocked ⊢
      exact hCode _ (by decide) hBlocked
    rw [if_neg hBusy] at hBlocked ⊢
    by_cases hSine : s.dev.sine m 255 = 0
    · rw [if_pos hSine] at hBlocked ⊢
      exact hCode _ (by decide) hBlocked
    rw [if_neg hSine] at hBlocked ⊢
    have hRec : s.dev.get (F.STP_AXm_MRECr.speed m r) = 0 ∨ 2 ^ 33 ≤ s.dev.rd (R.STP_AXm_MRECr m r 1) := by
      simpa [h0, hIdled, hBlocked] using hWhy
    rw [Dev.stpStart_record h0 hIdled hBlocked hRec]
    exact stRefused_of s m (by decide)

theorem stop_byState (hOpen : stOpen s.dev m) : Completes (exec (.stpStop m) s) fun t =>
    let st := s.dev.stpState m
    (st = 0 → stIgnored s t) ∧
    (st = 1 → t.dev.stpState m = 1 ∧ ((s.dev.stpS m).moveDone = s.dev.sys.now8 + 1 → t.dev.on (F.STP_AXm_STATUS.too_late_to_abort m) = true ∧ s.Frame [Part.reg (R.STP_AXm_STATUS m).off] t) ∧
      ((s.dev.stpS m).moveDone ≠ s.dev.sys.now8 + 1 → t = s)) ∧
    (st = 2 → t.dev.stpState m = 3 ∧ (t.dev.stpS m).interrupted = true ∧ (t.dev.stpS m).prof = (s.dev.stpS m).prof ∧ (t.dev.stpS m).recNo = (s.dev.stpS m).recNo ∧ s.Frame (stParts m) t) ∧
    (st = 4 → t.dev.stpState m = 3 ∧ (t.dev.stpS m).homeFail = true ∧ (t.dev.stpS m).searchLeft = decide (s.dev.get (F.STP_AXm_STATUS.home_phase m) = 1) ∧ (t.dev.stpS m).recNo = none ∧
      t.dev.get (F.STP_AXm_STATUS.home_phase m) = 0 ∧ s.Frame (stParts m) t) ∧
    (st = 3 ∨ st = 5 → t = s) := by
  refine onStepper 0x20000000 (·.stpStop m) hOpen rfl ?_
  dsimp only
  refine ⟨fun h => ?_, fun h => ?_, fun h => ?_, fun h => ?_, fun h => ?_⟩
  · have hStop : s.dev.stpStop m = s.dev.stpReject := by simp only [Dev.stpStop, h]
    rw [hStop]
    exact stIgnored_of s
  · have hStop : s.dev.stpStop m = s.dev.stpLate m := by simp only [Dev.stpStop, h]
    rw [hStop, Dev.stpLate]
    split
    next hLate =>
      refine ⟨(Dev.stpState_putLow _ _ _ (F.STP_AXm_STATUS.too_late_to_abort m) rfl rfl (by simp [F.STP_AXm_STATUS.too_late_to_abort])).trans h, fun _ => ⟨?_, ?_⟩, fun hNot => absurd hLate hNot⟩
      · exact Dev.on_putB_same _ (F.STP_AXm_STATUS.too_late_to_abort m) true rfl
      · exact Frame.ofDev (Frame.put Frame.refl _ _ (by simp [F.STP_AXm_STATUS.too_late_to_abort]))
    next hLate => exact ⟨h, fun hNot => absurd hNot hLate, fun _ => rfl⟩
  · obtain ⟨hState, hAxis, -, hFrame⟩ := Dev.stpStop_moves h
    rw [hAxis]
    exact ⟨hState, rfl, rfl, rfl, Frame.ofDev hFrame⟩
  · obtain ⟨hState, hAxis, hPhase, hFrame⟩ := Dev.stpStop_homes h
    rw [hAxis]
    exact ⟨hState, rfl, rfl, rfl, hPhase, Frame.ofDev hFrame⟩
  · have hStop : s.dev.stpStop m = s.dev := by rcases h with h | h <;> simp only [Dev.stpStop, h]
    rw [hStop]

theorem resume_standing (r : Nat) (hIdled : s.dev.idled = false) (hOpen : stOpen s.dev m) (h1 : s.dev.stpState m = 1) (hFree : s.dev.stpBlocked m = none)
    (hRec : (s.dev.stpS m).recNo = some r) (hAway : s.dev.towardLimit m (sgn ((s.dev.stpS m).prof.target - (s.dev.stpS m).prof.p)) = false) :
    Completes (exec (.stpResume m) s) fun t =>
      if (s.dev.stpS m).interrupted = false ∨ ((s.dev.stpS m).prof.target - (s.dev.stpS m).prof.p) / 2 ^ 32 = 0 then stRefused s t m 8
      else t.dev.stpState m = 2 ∧ (t.dev.stpS m).prof = { (s.dev.stpS m).prof with v := 0, rev := 0 } ∧ (t.dev.stpS m).interrupted = false ∧ (t.dev.stpS m).recNo = some r ∧
        t.dev.on (F.STP_AXm_STATUS.move_active m) = true ∧ s.Frame (stParts m) t := by
  refine onStepper 0x30000000 (fun d => (d.stpResume m).1) hOpen rfl ?_
  dsimp only
  split
  next hNone =>
    rw [Dev.stpResume_nothing h1 hIdled hFree hRec hNone]
    exact stRefused_of s m (by decide)
  next hNone =>
    rw [not_or, Bool.not_eq_false] at hNone
    rw [Dev.stpResume_runs h1 hIdled hFree hRec hNone hAway]
    obtain ⟨hState, hAxis, hActive, hFrame⟩ := Dev.stpRun_runs (m := m) { (s.dev.stpS m).prof with v := 0, rev := 0 } r (Dev.blocked_state hFree).1
    dsimp only
    rw [hAxis]
    exact ⟨hState, rfl, rfl, rfl, hActive, Frame.ofDev hFrame⟩

theorem home_begins (hIdled : s.dev.idled = false) (hOpen : stOpen s.dev m) (h1 : s.dev.stpState m = 1) (hUsed : s.dev.limUsed m (s.dev.homeSide m) = true)
    (hSine : s.dev.sine m 255 ≠ 0) : Completes (exec (.home m) s) fun t =>
      let side := s.dev.homeSide m
      let back := s.dev.limActive m side
      let x := (t.dev.stpS m).prof
      t.dev.stpState m = 4 ∧ t.dev.get (F.STP_AXm_STATUS.home_phase m) = (if back = true then 1 else 2) ∧
      x.target = (s.dev.stpS m).prof.p + (if back = true then -sideDir side * homeFar else sideDir side * (s.dev.ga (F.STP_AXm_HOMEMAX.home_max m) : Nat) * 2 ^ 32) ∧
      x.peak = min (s.dev.stpCap m) (stpV (max 1 (s.dev.ga (F.STP_AXm_HOMECFG.home_speed m))) 1) ∧ (t.dev.stpS m).recNo = none ∧ s.Frame (stParts m) t := by
  refine onStepper 0x40000000 (fun d => (d.stpHome m).1) hOpen rfl ?_
  dsimp only
  obtain ⟨acc, hBegins⟩ := Dev.stpHome_begins h1 hIdled hUsed hSine
  rw [hBegins]
  generalize (s.dev.stpS m).prof.p + _ = target
  generalize min (s.dev.stpCap m) _ = peak
  obtain ⟨hState, hPhase, hAxis, hFrame⟩ := Dev.homeBegun_homes (d := s.dev) (m := m) (phase := if s.dev.limActive m (s.dev.homeSide m) = true then 1 else 2)
    (by split <;> decide) target acc peak (by rw [h1]; decide)
  dsimp only
  rw [hAxis]
  exact ⟨hState, hPhase, rfl, rfl, rfl, Frame.ofDev hFrame⟩

theorem home_refused (hOpen : stOpen s.dev m) (hWhy : s.dev.stpState m ≠ 1 ∨ s.dev.idled = true ∨ s.dev.limUsed m (s.dev.homeSide m) = false) :
    Completes (exec (.home m) s) fun t =>
      if s.dev.stpState m = 0 ∨ s.dev.idled = true then stIgnored s t else stRefused s t m (if s.dev.stpState m ≠ 1 then 3 else 5) := by
  refine onStepper 0x40000000 (fun d => (d.stpHome m).1) hOpen rfl ?_
  rw [Dev.stpHome]
  split
  next hOff =>
    rw [if_pos (by simpa using hOff)]
    exact stIgnored_of s
  next hOff =>
    rw [if_neg (by simpa using hOff)]
    split
    next h1 => exact stRefused_of s m (by decide)
    next h1 =>
      obtain ⟨-, hIdled⟩ := not_or.1 hOff
      have hUsed : s.dev.limUsed m (s.dev.homeSide m) = false := by simpa [h1, hIdled] using hWhy
      rw [if_pos (by simp [hUsed])]
      exact stRefused_of s m (by decide)

theorem enable_byState (hOpen : stOpen s.dev m) (hAxis : (s.dev.stpAxis m).isSome = true) : Completes (exec (.stpEnable m) s) fun t =>
    if s.dev.stpState m = 0 then t.dev.stpState m = 1 ∧ (t.dev.stpS m).held = true ∧ s.Frame (stParts m) t else stIgnored s t := by
  refine onStepper 0x50000000 (·.stpEnable m) hOpen rfl ?_
  dsimp only
  rw [Dev.stpEnable]
  split
  next h0 =>
    rw [if_pos (by simp [h0, hAxis])]
    obtain ⟨hState, hKept, -, hFrame⟩ := Dev.stpIn_mod (d := s.dev) (m := m) (st := 1) (fun s => { s with held := true, offPend := false }) (by decide) (by decide) (by rw [h0]; decide)
    rw [hKept]
    exact ⟨hState, rfl, Frame.ofDev hFrame⟩
  next h0 =>
    rw [if_neg (by simp [h0])]
    exact stIgnored_of s

/-- disable at an axis that moves, stops or homes stops it, to be OFF at standstill. -/
theorem stpDisable_stops {d : Dev} {m : Nat} (h : d.stpState m = 2 ∨ d.stpState m = 3 ∨ d.stpState m = 4) :
    (d.stpDisable m).stpState m = 3 ∧ ((d.stpDisable m).stpS m).offPend = true ∧ Dev.Frame (stParts m) d (d.stpDisable m) := by
  have hDisable : d.stpDisable m = (d.modStp m fun s => { s with offPend := true }).stpStop m := by rcases h with h | h | h <;> simp only [Dev.stpDisable, h]
  rw [hDisable]
  have hAxis := Dev.stpS_modStp d m fun s => { s with offPend := true }
  have hFrame : Dev.Frame (stParts m) d (d.modStp m fun s => { s with offPend := true }) := Frame.modStp Frame.refl _ mem_stParts_stp
  rw [← Dev.stpState_modStp d m m fun s => { s with offPend := true }] at h
  generalize (d.modStp m fun s => { s with offPend := true }) = e at *
  rcases h with h | h | h
  · obtain ⟨hState, hKept, -, hEnd⟩ := Dev.stpStop_moves h
    exact ⟨hState, by rw [hKept, hAxis], Frame.trans hFrame hEnd⟩
  · have hStop : e.stpStop m = e := by simp only [Dev.stpStop, h]
    rw [hStop]
    exact ⟨h, by rw [hAxis], hFrame⟩
  · obtain ⟨hState, hKept, -, hEnd⟩ := Dev.stpStop_homes h
    exact ⟨hState, by rw [hKept, hAxis]; rfl, Frame.trans hFrame hEnd⟩

/-- disable at an axis that stands; too late a stop is shown (R288). -/
theorem stpDisable_stands {d : Dev} {m : Nat} (h : d.stpState m = 1) : (d.stpDisable m).stpState m = 0 ∧ Dev.Frame [Part.reg (R.STP_AXm_STATUS m).off] d (d.stpDisable m) ∧
    ((d.stpS m).moveDone = d.sys.now8 + 1 → (d.stpDisable m).on (F.STP_AXm_STATUS.too_late_to_abort m) = true) := by
  have hDisable : d.stpDisable m = (d.stpLate m).stpEnter m 0 := by simp only [Dev.stpDisable, h]
  have hLate : (d.stpLate m).stpState m = 1 ∧ Dev.Frame [Part.reg (R.STP_AXm_STATUS m).off] d (d.stpLate m) ∧
      ((d.stpS m).moveDone = d.sys.now8 + 1 → (d.stpLate m).on (F.STP_AXm_STATUS.too_late_to_abort m) = true) := by
    rw [Dev.stpLate]
    split
    next hAt => exact ⟨(Dev.stpState_putLow _ _ _ (F.STP_AXm_STATUS.too_late_to_abort m) rfl rfl (by simp [F.STP_AXm_STATUS.too_late_to_abort])).trans h,
      Frame.put Frame.refl _ _ (by simp [F.STP_AXm_STATUS.too_late_to_abort]), fun _ => Dev.on_putB_same _ (F.STP_AXm_STATUS.too_late_to_abort m) true rfl⟩
    next hAt => exact ⟨h, Frame.refl, fun hNot => absurd hNot hAt⟩
  rw [hDisable]
  generalize d.stpLate m = e at *
  obtain ⟨hState, hFrame, hShown⟩ := hLate
  rw [Dev.stpEnter_eq (by decide) (by rw [hState]; decide)]
  refine ⟨Dev.stpState_put _ _ (by decide), Frame.put hFrame _ _ (by simp [F.STP_AXm_STATUS.state]), fun hAt => ?_⟩
  rw [Dev.on, Dev.get_putState _ _ _ _ rfl rfl (by simp [F.STP_AXm_STATUS.too_late_to_abort]), ← Dev.on, hShown hAt]

theorem disable_byState (hOpen : stOpen s.dev m) : Completes (exec (.stpDisable m) s) fun t =>
    let st := s.dev.stpState m
    (st = 0 → stIgnored s t) ∧ (st = 1 → t.dev.stpState m = 0 ∧ s.Frame [Part.reg (R.STP_AXm_STATUS m).off] t) ∧
    (st = 5 → t.dev.stpState m = 0 ∧ (t.dev.stpS m).offPend = false ∧
      t.dev.on (F.FLT_SRCi_STATE.active 27) = decide (∃ k ∈ List.range 16, t.dev.stpState k = 5) ∧
      s.Frame ([Part.reg (R.STP_AXm_STATUS m).off, Part.stp m] ++ activeParts 27) t) ∧
    (st = 1 ∧ (s.dev.stpS m).moveDone = s.dev.sys.now8 + 1 → t.dev.on (F.STP_AXm_STATUS.too_late_to_abort m) = true) ∧
    (st = 2 ∨ st = 3 ∨ st = 4 → t.dev.stpState m = 3 ∧ (t.dev.stpS m).offPend = true ∧ s.Frame (stParts m) t) := by
  refine onStepper 0x60000000 (·.stpDisable m) hOpen rfl ?_
  dsimp only
  refine ⟨fun h => ?_, fun h => ?_, fun h => ?_, fun h => ?_, fun h => ?_⟩
  · have hDisable : s.dev.stpDisable m = s.dev.stpReject := by simp only [Dev.stpDisable, h]
    rw [hDisable]
    exact stIgnored_of s
  · obtain ⟨hState, hFrame, -⟩ := stpDisable_stands h
    exact ⟨hState, Frame.ofDev hFrame⟩
  · have hDisable : s.dev.stpDisable m = (s.dev.modStp m fun s => { s with offPend := false }).stpEnter m 0 := by simp only [Dev.stpDisable, h]
    rw [hDisable]
    have hOut := Dev.stpOut_mod (st := 0) (fun s => { s with offPend := false }) m.isLt (by decide) h
    generalize (s.dev.modStp m fun s => { s with offPend := false }).stpEnter m 0 = e at hOut ⊢
    obtain ⟨hState, hAxis, hLevel, hFrame⟩ := hOut
    exact ⟨hState, by rw [hAxis], hLevel, Frame.ofDev hFrame⟩
  · exact (stpDisable_stands h.1).2.2 h.2
  · obtain ⟨hState, hPend, hFrame⟩ := stpDisable_stops h
    exact ⟨hState, hPend, Frame.ofDev hFrame⟩

theorem clearFault_byState (hOpen : stOpen s.dev m) : Completes (exec (.stpClearFault m) s) fun t =>
    if s.dev.stpState m = 5 then t.dev.stpState m = 1 ∧ (t.dev.stpS m).prof.v = 0 ∧ (t.dev.stpS m).a = {} ∧ (t.dev.stpS m).b = {} ∧ (t.dev.stpS m).held = true ∧
      t.dev.on (F.FLT_SRCi_STATE.active 27) = decide (∃ k ∈ List.range 16, t.dev.stpState k = 5) ∧ s.Frame (stParts m ++ activeParts 27) t
    else if s.dev.stpState m = 0 then stIgnored s t else t = s := by
  refine onStepper 0x70000000 (·.stpClearFault m) hOpen rfl ?_
  dsimp only
  split
  next h5 =>
    have hClear : s.dev.stpClearFault m = (s.dev.modStp m StpAx.cleared).stpEnter m 1 := by
      rw [Dev.stpClearFault, if_pos h5]
      rfl
    rw [hClear]
    have hOut := Dev.stpOut_mod (d := s.dev) (m := m) (st := 1) StpAx.cleared m.isLt (by decide) h5
    generalize (s.dev.modStp m StpAx.cleared).stpEnter m 1 = e at hOut ⊢
    obtain ⟨hState, hAxis, hLevel, hFrame⟩ := hOut
    rw [hAxis]
    exact ⟨hState, rfl, rfl, rfl, rfl, hLevel, Frame.ofDev (Frame.mono hFrame fun p hp => by simp only [stParts, List.mem_append, List.mem_cons, List.not_mem_nil, or_false] at hp ⊢; tauto)⟩
  next h5 =>
    rw [Dev.stpClearFault, if_neg h5]
    split
    · exact stIgnored_of s
    · rfl

/-! ### The actions (R83) -/

section
variable {f : Firing}

theorem action_stpStart {d : Dev} (h : d.actionHit 1 f.target = false) (ha : f.target = 16 + m.val) : d.action 1 f = d.stpStart m f.arg := by
  rw [ha] at h
  simp [Dev.action, h, ha]
theorem action_stpStop {d : Dev} (h : d.actionHit 2 f.target = false) (ha : f.target = 16 + m.val) : d.action 2 f = (d.stpStop m, decide (d.stpState m = 0)) := by
  rw [ha] at h
  simp [Dev.action, h, ha]
theorem action_stpResume {d : Dev} (h : d.actionHit 3 f.target = false) (ha : f.target = 16 + m.val) : d.action 3 f = d.stpResume m := by
  rw [ha] at h
  simp [Dev.action, h, ha]

/-- Recording a firing keeps a stepper axis. -/
theorem stpS_kept {e x : Dev} (h : Dev.Frame recordingParts e x) : x.stpS m = e.stpS m :=
  h (.stp m) (by simp [recordingParts, turnedParts, irqParts, strobeParts])

theorem stp_rd_kept {e x : Dev} (h : Dev.Frame recordingParts e x) (r : Reg) (hLo : 0x91000 ≤ r.off) (hHi : r.off < 0x95800) : x.rd r = e.rd r :=
  Frame.rd h r (reg_not_mem_recordingParts (by omega) (by simp only [R.FLT_SRCi_STATE]; omega))

theorem stp_get_kept {e x : Dev} (h : Dev.Frame recordingParts e x) (g : Fld) (hg : g.reg = R.STP_AXm_STATUS m) : x.get g = e.get g := by
  rw [Dev.get, Dev.get, stp_rd_kept h] <;> rw [hg] <;> simp only [R.STP_AXm_STATUS] <;> omega

/-- An action that a stepper axis takes. -/
theorem accepted_atStepper {code : Nat} {e : Dev} {ps : List Part} (hAct : s.dev.action code f = (e, false)) (hFrame : Dev.Frame ps s.dev e)
    (hRecs : Part.recs ∉ ps) (hTime : Part.reg R.EVT_TIME.off ∉ ps) : ∃ t : State, { s with dev := s.dev.deliver code f false false } = t ∧
      fired s t code f false ∧ t.dev.stpS m = e.stpS m ∧ t.dev.rd (R.STP_AXm_TARGET m) = e.rd (R.STP_AXm_TARGET m) ∧ t.dev.stpState m = e.stpState m ∧
      t.dev.on (F.STP_AXm_STATUS.move_active m) = e.on (F.STP_AXm_STATUS.move_active m) ∧ s.Frame (ps ++ firingParts f) t := by
  obtain ⟨t, hEnd, hFired, hRec, hAll⟩ := accepted_spec hAct hFrame hRecs hTime
  refine ⟨t, hEnd, hFired, stpS_kept hRec, stp_rd_kept hRec _ ?_ ?_, stp_get_kept (m := m) hRec _ rfl, ?_, hAll⟩
  · simp only [R.STP_AXm_TARGET]
    omega
  · simp only [R.STP_AXm_TARGET]
    omega
  · rw [Dev.on, stp_get_kept (m := m) hRec _ rfl, Dev.on]

theorem stParts_quiet : Part.recs ∉ stParts m ∧ Part.reg R.EVT_TIME.off ∉ stParts m := by
  constructor
  · simp [stParts]
  · simp only [stParts, List.mem_cons, List.not_mem_nil, or_false, reduceCtorEq, false_or, Part.reg.injEq, R.EVT_TIME, R.STP_AXm_STATUS]
    omega

/-- A firing turned away by counting alone. -/
theorem rejected_atStepper {code : Nat} (hf : f.late = false ∧ f.tag = 0) (hAct : s.dev.action code f = (s.dev.stpReject, true)) :
    let t : State := { s with dev := s.dev.deliver code f false false }
    t.dev.get F.STP_REJECT.count = min (s.dev.get F.STP_REJECT.count + 1) (2 ^ 16 - 1) ∧ fired s t code f true ∧ s.Frame ([Part.reg R.STP_REJECT.off] ++ turnedParts) t := by
  obtain ⟨t, rfl, hFired, -, hRec, hEnd⟩ := refused_spec hAct hf.2 (Dev.frame_stpReject s.dev) (by simp) (by decide)
  exact ⟨(Frame.get hRec _ (reg_not_mem_recordingParts (by decide) (by decide))).trans (Dev.count_stpReject _), hFired, refused_inTime hf.1 hEnd⟩

theorem moves_ignored (hHit : s.dev.actionHit 1 f.target = false ∧ s.dev.actionHit 3 f.target = false) (hf : f.late = false ∧ f.tag = 0 ∧ f.target = 16 + m.val)
    (hOff : s.dev.stpState m = 0 ∨ s.dev.idled = true) :
    Completes (exec (.moveStart f) s) (fun t =>
      t.dev.get F.STP_REJECT.count = min (s.dev.get F.STP_REJECT.count + 1) (2 ^ 16 - 1) ∧ fired s t 1 f true ∧ s.Frame ([Part.reg R.STP_REJECT.off] ++ turnedParts) t) ∧
    Completes (exec (.moveResume f) s) (fun t =>
      t.dev.get F.STP_REJECT.count = min (s.dev.get F.STP_REJECT.count + 1) (2 ^ 16 - 1) ∧ fired s t 3 f true ∧ s.Frame ([Part.reg R.STP_REJECT.off] ++ turnedParts) t) := by
  obtain ⟨hLate, hTag, hAt⟩ := hf
  have hResume : s.dev.stpResume m = (s.dev.stpReject, true) := if_pos (by simpa using hOff)
  exact ⟨completes_onDev (·.deliver 1 f false false) rfl (rejected_atStepper ⟨hLate, hTag⟩ ((action_stpStart hHit.1 hAt).trans (Dev.stpStart_ignored hOff))),
    completes_onDev (·.deliver 3 f false false) rfl (rejected_atStepper ⟨hLate, hTag⟩ ((action_stpResume hHit.2 hAt).trans hResume))⟩

theorem moveStart_accepted (r : Fin 8) (hIdled : s.dev.idled = false) (hHit : s.dev.actionHit 1 f.target = false) (hAt : f.target = 16 + m.val ∧ f.arg = r.val)
    (h0 : s.dev.stpState m ≠ 0) (hFree : s.dev.stpBlocked m = none) (hSpeed : s.dev.get (F.STP_AXm_MRECr.speed m r) ≠ 0) (hRec : s.dev.rd (R.STP_AXm_MRECr m r 1) < 2 ^ 33)
    (hAway : s.dev.towardLimit m (sgn (stpGoal s.dev m r * 2 ^ 32 - (s.dev.stpS m).prof.p)) = false) (hUni : s.dev.uni (16 + m) = false) :
    Completes (exec (.moveStart f) s) fun t =>
      let x := s.dev.stpS m
      let y := t.dev.stpS m
      t.dev.rd (R.STP_AXm_TARGET m) = enc 64 (stpGoal s.dev m r) ∧ y.prof.target = stpGoal s.dev m r * 2 ^ 32 ∧ y.prof.p = x.prof.p ∧ y.prof.v = x.prof.v ∧
      y.recNo = some r.val ∧ t.dev.stpState m = 2 ∧ t.dev.on (F.STP_AXm_STATUS.move_active m) = true ∧ fired s t 1 f false ∧
      s.Frame (firingParts f ++ [Part.reg (R.STP_AXm_TARGET m).off] ++ stParts m) t := by
  have hCode : (s.dev.stpPlan m r).2 = none := by rw [Dev.stpPlan_code, hUni, if_neg (by simp), if_neg (by simp)]
  obtain ⟨e, hBegun, hTarget, hState, hAxis, hActive, hFrame⟩ := Dev.stpBegun_starts (Dev.blocked_state hFree).1 hCode
  rw [Dev.stpPlan_prof hCode] at hAxis
  have hAct : s.dev.action 1 f = (e, false) := by rw [action_stpStart hHit hAt.1, hAt.2, Dev.stpStart_plan h0 hIdled hFree r.isLt hSpeed hRec hAway, hBegun]
  obtain ⟨t, hEnd, hFired, hStp, hReg, hSt, hOn, hDev, hMem⟩ := accepted_atStepper (m := m) hAct hFrame
    (by simp [stParts]) (by
      simp only [List.cons_append, List.nil_append, List.mem_cons, not_or, stParts, List.not_mem_nil, or_false, reduceCtorEq, false_or, Part.reg.injEq, R.EVT_TIME, R.STP_AXm_STATUS, R.STP_AXm_TARGET]
      omega)
  refine completes_onDev (·.deliver 1 f false false) rfl ?_
  rw [hEnd]
  dsimp only
  rw [hStp, hReg, hSt, hOn, hAxis]
  exact ⟨hTarget, rfl, rfl, rfl, rfl, hState, hActive, hFired, Frame.mono hDev fun p hp => by simp only [List.mem_append] at hp ⊢; tauto, hMem⟩

theorem moveStop_stops (hHit : s.dev.actionHit 2 f.target = false) (hAt : f.target = 16 + m.val) (hSt : s.dev.stpState m = 2 ∨ s.dev.stpState m = 4) :
    Completes (exec (.moveStop f) s) fun t =>
      t.dev.stpState m = 3 ∧ (t.dev.stpS m).prof = (s.dev.stpS m).prof ∧ (t.dev.stpS m).interrupted = true ∧ fired s t 2 f false ∧ s.Frame (firingParts f ++ stParts m) t := by
  have hStops : (s.dev.stpStop m).stpState m = 3 ∧ ((s.dev.stpStop m).stpS m).prof = (s.dev.stpS m).prof ∧ ((s.dev.stpStop m).stpS m).interrupted = true ∧
      Dev.Frame (stParts m) s.dev (s.dev.stpStop m) := by
    rcases hSt with h | h
    · obtain ⟨hState, hAxis, -, hFrame⟩ := Dev.stpStop_moves h
      exact ⟨hState, by rw [hAxis], by rw [hAxis], hFrame⟩
    · obtain ⟨hState, hAxis, -, hFrame⟩ := Dev.stpStop_homes h
      exact ⟨hState, by rw [hAxis]; rfl, by rw [hAxis]; rfl, hFrame⟩
  have hAct : s.dev.action 2 f = (s.dev.stpStop m, false) := by
    rw [action_stpStop hHit hAt]
    rcases hSt with h | h <;> rw [h] <;> rfl
  obtain ⟨hState, hProf, hInt, hFrame⟩ := hStops
  obtain ⟨t, hEnd, hFired, hStp, -, hStT, -, hDev, hMem⟩ := accepted_atStepper (m := m) hAct hFrame stParts_quiet.1 stParts_quiet.2
  refine completes_onDev (·.deliver 2 f false false) rfl ?_
  rw [hEnd, hStp, hStT]
  exact ⟨hState, hProf, hInt, hFired, Frame.mono hDev fun p hp => by simp only [List.mem_append] at hp ⊢; tauto, hMem⟩

theorem moveResume_runs (r : Nat) (hIdled : s.dev.idled = false) (hHit : s.dev.actionHit 3 f.target = false) (hAt : f.target = 16 + m.val) (h1 : s.dev.stpState m = 1)
    (hFree : s.dev.stpBlocked m = none) (hRec : (s.dev.stpS m).recNo = some r)
    (hKept : (s.dev.stpS m).interrupted = true ∧ ((s.dev.stpS m).prof.target - (s.dev.stpS m).prof.p) / 2 ^ 32 ≠ 0)
    (hAway : s.dev.towardLimit m (sgn ((s.dev.stpS m).prof.target - (s.dev.stpS m).prof.p)) = false) : Completes (exec (.moveResume f) s) fun t =>
      t.dev.stpState m = 2 ∧ (t.dev.stpS m).prof = { (s.dev.stpS m).prof with v := 0, rev := 0 } ∧ (t.dev.stpS m).interrupted = false ∧ fired s t 3 f false ∧
      s.Frame (firingParts f ++ stParts m) t := by
  obtain ⟨hState, hAxis, -, hFrame⟩ := Dev.stpRun_runs (m := m) { (s.dev.stpS m).prof with v := 0, rev := 0 } r (Dev.blocked_state hFree).1
  have hAct := (action_stpResume hHit hAt).trans (Dev.stpResume_runs h1 hIdled hFree hRec hKept hAway)
  obtain ⟨t, hEnd, hFired, hStp, -, hStT, -, hDev, hMem⟩ := accepted_atStepper (m := m) hAct hFrame stParts_quiet.1 stParts_quiet.2
  refine completes_onDev (·.deliver 3 f false false) rfl ?_
  rw [hEnd, hStp, hStT, hAxis]
  exact ⟨hState, rfl, rfl, hFired, Frame.mono hDev fun p hp => by simp only [List.mem_append] at hp ⊢; tauto, hMem⟩

end

end

/-- Settles O39: each command by the state that it finds, the actions by what recording a firing leaves alone. -/
theorem stepperCommands : Obligations.StepperCommands :=
  ⟨fun _ _ _ hHit hf hOff => moves_ignored hHit hf hOff,
    fun s m hOpen hOff => onStepper 0x30000000 (fun d => (d.stpResume m).1) hOpen rfl (by
      have hResume : s.dev.stpResume m = (s.dev.stpReject, true) := if_pos (by simpa using hOff)
      rw [hResume]
      exact stIgnored_of s),
    fun _ _ _ r hIdled hHit hAt h0 hFree hSpeed hRec hAway hUni => moveStart_accepted r hIdled hHit hAt h0 hFree hSpeed hRec hAway hUni,
    fun _ _ _ hHit hAt hSt => moveStop_stops hHit hAt hSt,
    fun _ _ _ r hIdled hHit hAt h1 hFree hRec hKept hAway => moveResume_runs r hIdled hHit hAt h1 hFree hRec hKept hAway,
    fun _ _ r hIdled hOpen h0 hFree hSpeed hRec hAway => start_accepted r hIdled hOpen h0 hFree hSpeed hRec hAway,
    fun _ _ r hOpen hWhy => start_refused r hOpen hWhy, fun _ _ hOpen => stop_byState hOpen,
    fun _ _ r hIdled hOpen h1 hFree hRec hAway => resume_standing r hIdled hOpen h1 hFree hRec hAway,
    fun _ _ hIdled hOpen h1 hUsed hSine => home_begins hIdled hOpen h1 hUsed hSine, fun _ _ hOpen hWhy => home_refused hOpen hWhy,
    fun _ _ hOpen hAxis => enable_byState hOpen hAxis, fun _ _ hOpen => disable_byState hOpen, fun _ _ hOpen => clearFault_byState hOpen⟩

end Sys2Proof.Proofs
end

-- ==== Sitting: what the end of a sheet leaves of power and clocks ====
section
/-! SUPPORT. What the end of a sheet leaves of the supervisory registers: of the power sequencer, the clocks and the host state. -/
open Sys2Proof Sys2Proof.Machine Sys2Proof.Claims
set_option maxRecDepth 20000

namespace Sys2Proof.Machine

/-! ### The registers of power and clocks (R113, R256, R341) -/

/-- A register of the power sequencer or of the clocks. The registers of a descriptor of any number, that a sheet's end may write, lie
at other places of their blocks of 0x200 bytes. -/
def supervisoryReg (o : Nat) : Prop := (o / 65536 = 0xC ∨ o / 65536 = 0xD) ∧ o % 0x200 ≠ 0xC ∧ o % 0x200 ≠ 0x188

/-- Neither such a register nor SYS_HOST_STATE. -/
def Dev.Apart (o : Nat) : Prop := ¬supervisoryReg o ∧ o ≠ R.SYS_HOST_STATE.off

/-- The registers of power and clocks are the same, so are the time and the sequencer, and a device in safe idle stays there. -/
structure Dev.Stays (d e : Dev) : Prop where
  reg : ∀ r : Reg, supervisoryReg r.off → e.rd r = d.rd r
  now8 : e.sys.now8 = d.sys.now8
  host : d.get F.SYS_HOST_STATE.state = 4 → e.get F.SYS_HOST_STATE.state = 4
  pwr : e.pwr = d.pwr

namespace Dev.Apart

theorem low {o : Nat} (h : o < 0xc0000 ∧ o ≠ 0x34) : Dev.Apart o := by
  simp only [Dev.Apart, supervisoryReg, R.SYS_HOST_STATE]; omega

theorem high {o : Nat} (h : 0xe0000 ≤ o) : Dev.Apart o := by
  simp only [Dev.Apart, supervisoryReg, R.SYS_HOST_STATE]; omega

theorem shtState (k : Nat) : Dev.Apart (R.SHT_Dd_STATE k).off := by
  simp only [Dev.Apart, supervisoryReg, R.SYS_HOST_STATE, R.SHT_Dd_STATE]; omega
theorem doneTime (k : Nat) : Dev.Apart (R.SHT_Dd_DONE_TIME k).off := by
  simp only [Dev.Apart, supervisoryReg, R.SYS_HOST_STATE, R.SHT_Dd_DONE_TIME]; omega
theorem shtChan {k : Nat} (hk : k < 32) : Dev.Apart (R.SHT_Dd_CHAN k).off := low (by simp only [R.SHT_Dd_CHAN]; omega)

end Dev.Apart

namespace Dev.Stays
variable {d e f : Dev}

theorem refl : Dev.Stays d d := ⟨fun _ _ => rfl, rfl, id, rfl⟩

theorem trans (h : Dev.Stays d e) (g : Dev.Stays e f) : Dev.Stays d f :=
  ⟨fun r hr => (g.reg r hr).trans (h.reg r hr), g.now8.trans h.now8, fun h4 => g.host (h.host h4), g.pwr.trans h.pwr⟩

theorem get (h : Dev.Stays d e) (g : Fld) (hg : supervisoryReg g.reg.off) : e.get g = d.get g := by rw [Dev.get, h.reg _ hg, Dev.get]
theorem on (h : Dev.Stays d e) (g : Fld) (hg : supervisoryReg g.reg.off) : e.on g = d.on g := by rw [Dev.on, h.get g hg, Dev.on]

theorem ofRegs (h : Dev.Stays d e) (hRegs : f.regs = e.regs) (hNow : f.sys.now8 = e.sys.now8) (hPwr : f.pwr = e.pwr) : Dev.Stays d f := by
  have hRd (r : Reg) : f.rd r = e.rd r := by rw [Dev.rd, Dev.rd, hRegs]
  exact h.trans ⟨fun r _ => hRd r, hNow, fun h4 => by rw [← h4, Dev.get, Dev.get, hRd], hPwr⟩

/-- A change that is framed away from all of it. -/
theorem ofFrame {ps : List Part} (h : Dev.Stays d e) (hFrame : Dev.Frame ps e f) (hReg : ∀ o, Part.reg o ∈ ps → Dev.Apart o) (hClock : Part.clock ∉ ps ∧ Part.pwr ∉ ps) : Dev.Stays d f :=
  h.trans ⟨fun r hr => Frame.rd hFrame r fun hIn => (hReg _ hIn).1 hr, hFrame _ hClock.1, fun h4 => by
    rw [← h4]
    exact Frame.get hFrame _ fun hIn => (hReg _ hIn).2 rfl, hFrame _ hClock.2⟩

theorem wr (h : Dev.Stays d e) (r : Reg) (v : Nat) (hr : Dev.Apart r.off) : Dev.Stays d (e.wr r v) :=
  h.ofFrame (ps := [Part.reg r.off]) (Frame.wr Frame.refl r v (by simp)) (by rintro o ho; simp only [List.mem_singleton, Part.reg.injEq] at ho; rwa [ho]) (by simp)

theorem put (h : Dev.Stays d e) (g : Fld) (v : Nat) (hr : Dev.Apart g.reg.off) : Dev.Stays d (e.put g v) := h.wr _ _ hr
theorem putBit (h : Dev.Stays d e) (g : Fld) (k : Nat) (b : Bool) (hr : Dev.Apart g.reg.off) : Dev.Stays d (e.putBit g k b) := h.wr _ _ hr
theorem count (h : Dev.Stays d e) (g : Fld) (hr : Dev.Apart g.reg.off) : Dev.Stays d (e.count g) := h.wr _ _ hr

/-- The host state of a device in safe idle takes no other value. -/
theorem putHost (h : Dev.Stays d e) (st : Nat) (h4 : st = 4 ∨ d.get F.SYS_HOST_STATE.state ≠ 4) : Dev.Stays d (e.put F.SYS_HOST_STATE.state st) := by
  refine ⟨fun r hr => (Dev.rd_put_ne _ _ _ _ fun hSame => ?_).trans (h.reg r hr), h.now8, fun hIdle => ?_, h.pwr⟩
  · rw [hSame] at hr
    simp only [supervisoryReg, F.SYS_HOST_STATE.state, R.SYS_HOST_STATE] at hr
    omega
  · refine h4.elim (fun hSt => ?_) fun hNot => (hNot hIdle).elim
    rw [hSt]
    exact Dev.get_put_same _ _ _ (by decide)

theorem putFlight (h : Dev.Stays d e) (v : Nat) : Dev.Stays d (e.put F.SYS_HOST_STATE.in_flight v) := by
  refine ⟨fun r hr => (Dev.rd_put_ne _ _ _ _ fun hSame => ?_).trans (h.reg r hr), h.now8, fun hIdle =>
    (Dev.get_put_other e F.SYS_HOST_STATE.in_flight F.SYS_HOST_STATE.state v rfl (by decide) (by decide) (by decide)).trans (h.host hIdle), h.pwr⟩
  rw [hSame] at hr
  simp only [supervisoryReg, F.SYS_HOST_STATE.in_flight, R.SYS_HOST_STATE] at hr
  omega

theorem ite {c : Prop} [Decidable c] (h : Dev.Stays d e) (g : Dev.Stays d f) : Dev.Stays d (if c then e else f) := by
  split <;> assumption

theorem when (h : Dev.Stays d e) (c : Bool) {u : Dev → Dev} (g : Dev.Stays d (u e)) : Dev.Stays d (e.when c u) := ite g h

theorem each {α : Type} (h : Dev.Stays d e) (l : List α) (u : Dev → α → Dev) (hu : ∀ x a, a ∈ l → Dev.Stays x (u x a)) : Dev.Stays d (e.each l u) := by
  unfold Dev.each
  induction l generalizing e with
  | nil => exact h
  | cons a l ih => exact ih (h.trans (hu e a (by simp))) fun x b hb => hu x b (by simp [hb])

/-! The operations that no unit owns. -/

theorem modCh (h : Dev.Stays d e) (k : Nat) (u : ChSt → ChSt) : Dev.Stays d (e.modCh k u) := h.ofRegs rfl rfl rfl
theorem milestone (h : Dev.Stays d e) (a b c x y z : Nat) : Dev.Stays d (e.milestone a b c x y z) := h.ofRegs rfl rfl rfl
theorem putTw (h : Dev.Stays d e) (o v : Nat) : Dev.Stays d (e.putTw o v) := h.ofRegs rfl rfl rfl
theorem setEvt (h : Dev.Stays d e) (x : EvtSt) : Dev.Stays d { e with evt := x } := h.ofRegs rfl rfl rfl

theorem flag (h : Dev.Stays d e) (st en : Reg) (k v : Nat) (hr : Dev.Apart st.off) : Dev.Stays d (e.flag st en k v) :=
  h.ofFrame (ps := [Part.reg st.off] ++ irqParts) (Frame.flag Frame.refl st en k v (by simp) (by simp +contextual))
    (by simp only [irqParts, List.mem_append, List.mem_cons, List.not_mem_nil, or_false, Part.reg.injEq, reduceCtorEq, false_or]
        rintro o (rfl | rfl)
        · exact hr
        · exact .low (by decide)) (by simp [irqParts])

theorem report (h : Dev.Stays d e) (src d0 d1 : Nat) (hSrc : src < 64) : Dev.Stays d (e.report src d0 d1) :=
  h.ofFrame (Dev.frame_report src d0 d1) (by
    simp only [strobeParts, List.mem_cons, List.not_mem_nil, or_false, Part.reg.injEq, reduceCtorEq, false_or]
    rintro o rfl
    exact .high (by simp only [R.FLT_SRCi_STATE]; omega)) (by simp [strobeParts])

theorem setActive (h : Dev.Stays d e) (src : Nat) (b : Bool) (hSrc : src < 64) : Dev.Stays d (e.setActive src b) :=
  h.ofFrame (ps := activeParts src) (Frame.setActive Frame.refl src b (by simp [activeParts]) (by simp [activeParts]) (by simp [activeParts])) (by
    simp only [activeParts, List.mem_cons, List.not_mem_nil, or_false, Part.reg.injEq, reduceCtorEq, false_or]
    rintro o (rfl | rfl)
    · exact .high (by decide)
    · exact .high (by simp only [R.FLT_SRCi_STATE]; omega)) (by simp [activeParts])

theorem shtFlag (h : Dev.Stays d e) (k : Nat) : Dev.Stays d (e.shtFlag k) := h.flag _ _ _ _ (.low (by decide))
theorem evtFlag (h : Dev.Stays d e) (k : Nat) : Dev.Stays d (e.evtFlag k) := h.flag _ _ _ _ (.low (by decide))

theorem lgEvent (h : Dev.Stays d e) (k : Nat) : Dev.Stays d (e.lgEvent k) := ite (h.wr _ _ (.high (by decide))) h
theorem lgStation (h : Dev.Stays d e) (s k : Nat) : Dev.Stays d (e.lgStation s k) :=
  ite ((h.wr _ _ (.high (by simp only [R.LG_Ss_STAT]; omega))).lgEvent 0) h

/-! Judging the permits (R252). -/

theorem gate (h : Dev.Stays d e) (m : Nat) : Dev.Stays d (e.gate m) :=
  h.ofFrame (ps := gateParts m) (Frame.gate Frame.refl m fun _ hp => hp) (by
    simp only [gateParts, irqParts, List.mem_append, List.mem_cons, List.not_mem_nil, or_false, Part.reg.injEq, reduceCtorEq, false_or]
    rintro o ((rfl | rfl | rfl) | rfl)
    · exact .high (by simp only [R.CHn_FGT_STATUS]; omega)
    · exact .high (by simp only [R.CHn_FGT_COUNTS]; omega)
    · exact .high (by simp only [R.CHn_FGT_IRQ_STATUS]; omega)
    · exact .low (by decide)) (by simp [gateParts, irqParts])

theorem gateAll (h : Dev.Stays d e) : Dev.Stays d e.gateAll := h.each _ _ fun _ m _ => refl.gate m

end Dev.Stays

namespace Dev.Apart
variable {a : Nat}

theorem bldStatus (h : a < 16) : Dev.Apart (R.BLD_AXa_STATUS a).off := .low (by simp only [R.BLD_AXa_STATUS]; omega)
theorem bldIrq (h : a < 16) : Dev.Apart (R.BLD_AXa_IRQ_STATUS a).off := .low (by simp only [R.BLD_AXa_IRQ_STATUS]; omega)
theorem bldRemain (h : a < 16) : Dev.Apart (R.BLD_AXa_REMAIN a).off := .low (by simp only [R.BLD_AXa_REMAIN]; omega)
theorem bldRefuse (h : a < 16) : Dev.Apart (R.BLD_AXa_REFUSE a).off := .low (by simp only [R.BLD_AXa_REFUSE]; omega)
theorem stpStatus (h : a < 16) : Dev.Apart (R.STP_AXm_STATUS a).off := .low (by simp only [R.STP_AXm_STATUS]; omega)

end Dev.Apart

/-! ### A host state that idles the engine (R72) -/

namespace Dev.Stays
variable {d e : Dev} {a : Nat}

theorem putBld (h : Dev.Stays d e) (a : Nat) (x : BldAx) : Dev.Stays d (e.putBld a x) := h.ofRegs rfl rfl rfl
theorem modBld (h : Dev.Stays d e) (a : Nat) (u : BldAx → BldAx) : Dev.Stays d (e.modBld a u) := h.ofRegs rfl rfl rfl
theorem modStp (h : Dev.Stays d e) (m : Nat) (u : StpAx → StpAx) : Dev.Stays d (e.modStp m u) := h.ofRegs rfl rfl rfl

theorem bldFlag (h : Dev.Stays d e) (ha : a < 16) (k : Nat) : Dev.Stays d (e.bldFlag a k) := h.flag _ _ _ _ (.bldIrq ha)

theorem bldRefuse (h : Dev.Stays d e) (ha : a < 16) (c : Nat) : Dev.Stays d (e.bldRefuse a c) := (h.put _ _ (.bldRefuse ha)).bldFlag ha 7

theorem bldSpeedLost (h : Dev.Stays d e) (ha : a < 16) : Dev.Stays d (e.bldSpeedLost a) := by
  unfold Dev.bldSpeedLost
  have hPut (u : BldAx → BldAx) : Dev.Stays d ((e.modBld a u).put (F.BLD_AXa_STATUS.at_speed a) 0) := (h.modBld a u).put _ _ (.bldStatus ha)
  exact ite ((hPut _).bldFlag ha 3).gateAll (hPut _)

theorem bldEnter (h : Dev.Stays d e) (ha : a < 16) (st : Nat) : Dev.Stays d (e.bldEnter a st) := by
  unfold Dev.bldEnter
  extract_lets was d1 d2 d3 d4 d5 d6 d7
  have h1 : Dev.Stays d d1 := h.when _ (h.modBld a _)
  have h4 : Dev.Stays d d4 := ((h1.put _ _ (.bldStatus ha)).modBld a _).put _ _ (.bldStatus ha)
  have h5 : Dev.Stays d d5 := ite (h4.bldFlag ha 6) h4
  have h6 : Dev.Stays d d6 := ite (h5.bldFlag ha 5) h5
  have h7 : Dev.Stays d d7 := h6.when _ (h6.setActive 26 _ (by decide))
  exact ite h7 (h7.bldSpeedLost ha)

theorem bldRemain (h : Dev.Stays d e) (ha : a < 16) : Dev.Stays d (e.bldRemain a) := by
  unfold Dev.bldRemain
  split
  · exact ite h (h.put _ _ (.bldRemain ha))
  · exact h

theorem bldHoldMove (h : Dev.Stays d e) (ha : a < 16) : Dev.Stays d (e.bldHoldMove a) := ite ((h.modBld a _).bldRemain ha) h

theorem bldStart (h : Dev.Stays d e) (ha : a < 16) (t : Int) (r : Nat) (rt : Bool) : Dev.Stays d (e.bldStart a t r rt).1 := by
  have hPut (x : BldAx) : Dev.Stays d (e.putBld a x) := h.putBld a x
  unfold Dev.bldStart
  extract_lets st x u y z w q
  split
  · exact h.count _ (.low (by decide))
  · split
    · exact h.bldRefuse ha _
    · split
      · split
        · exact h.bldRefuse ha 2
        · split
          · exact ite ((hPut _).bldEnter ha 8) (hPut _)
          · exact ((hPut _).bldEnter ha _).bldEnter ha 3
      · split
        · exact ite ((hPut _).bldEnter ha 7) ((hPut _).modBld a _)
        · split
          · exact (hPut _).bldEnter ha 3
          · exact hPut _

theorem bldToIdle (h : Dev.Stays d e) (ha : a < 16) : Dev.Stays d (e.bldToIdle a) := by
  unfold Dev.bldToIdle
  extract_lets x y z
  have hy : Dev.Stays d y := h.bldRemain ha
  have hz : Dev.Stays d z := (hy.putBld a _).bldEnter ha _
  split
  · exact (hy.putBld a _).bldEnter ha 0
  · split
    · exact hz.bldStart ha _ _ _
    · exact hz

theorem bldStop (h : Dev.Stays d e) (ha : a < 16) : Dev.Stays d (e.bldStop a) := by
  unfold Dev.bldStop
  extract_lets st x y
  have hx : Dev.Stays d x := h.when _ (h.put _ _ (.bldStatus ha))
  have hy : Dev.Stays d y := (hx.bldHoldMove ha).modBld a _
  exact ite (hx.count _ (.low (by decide))) (ite hx (ite (hy.bldEnter ha 8) (ite (hy.bldToIdle ha) hy)))

theorem bldIdle (h : Dev.Stays d e) (ha : a < 16) : Dev.Stays d (e.bldIdle a) := by
  unfold Dev.bldIdle Dev.bldStartSpeed
  split
  · rename_i c _
    have hStart := h.bldStart ha (16 * c.idleSpeed : Nat) (e.get (F.BLD_AXa_RATES.accel a)) false
    dsimp only
    split
    · split
      · exact hStart
      · exact hStart.bldHoldMove ha
    · exact h.bldStop ha
  · exact h

theorem stpEnter (h : Dev.Stays d e) (ha : a < 16) (st : Nat) : Dev.Stays d (e.stpEnter a st) := by
  have hPut : Dev.Stays d (e.put (F.STP_AXm_STATUS.state a) st) := h.put _ _ (.stpStatus ha)
  exact ite (hPut.setActive 27 _ (by decide)) hPut

theorem stpReject (h : Dev.Stays d e) : Dev.Stays d e.stpReject := h.count _ (.low (by decide))

theorem stpLate (h : Dev.Stays d e) (ha : a < 16) : Dev.Stays d (e.stpLate a) := ite (h.put _ _ (.stpStatus ha)) h

theorem stpStop (h : Dev.Stays d e) (ha : a < 16) : Dev.Stays d (e.stpStop a) := by
  unfold Dev.stpStop
  split
  · exact h.stpReject
  · exact h.stpLate ha
  · exact (h.modStp a _).stpEnter ha 3
  · exact ((h.modStp a _).put _ _ (.stpStatus ha)).stpEnter ha 3
  · exact h

theorem stpIdle (h : Dev.Stays d e) (ha : a < 16) : Dev.Stays d (e.stpIdle a) := by
  unfold Dev.stpIdle
  split
  · exact h.when _ h.stpReject
  · exact (h.stpLate ha).modStp a _
  · exact h.stpStop ha

theorem loopIdle (h : Dev.Stays d e) (k : Nat) : Dev.Stays d (e.loopIdle k) :=
  ite (h.count _ (.low (by decide))) (h.ofRegs rfl rfl rfl)

theorem enterIdle (h : Dev.Stays d e) : Dev.Stays d e.enterIdle :=
  ((h.gateAll.each _ _ fun _ _ ha => refl.bldIdle (List.mem_range.1 ha)).each _ _ fun _ _ ha => refl.stpIdle (List.mem_range.1 ha)).each _ _
    fun _ k _ => refl.loopIdle k

theorem dmaHold (h : Dev.Stays d e) : Dev.Stays d e.dmaHold := by
  unfold Dev.dmaHold
  split
  · exact h
  · exact h.ofRegs rfl rfl rfl

/-! The host states that wait for sheets (R73). -/

theorem setHost (h : Dev.Stays d e) (st : Nat) (h4 : st = 4 ∨ d.get F.SYS_HOST_STATE.state ≠ 4) : Dev.Stays d (e.setHost st) := by
  have hPut : Dev.Stays d (e.put F.SYS_HOST_STATE.state st) := h.putHost st h4
  exact ite hPut.enterIdle.dmaHold hPut.gateAll

theorem drainEnd (h : Dev.Stays d e) : Dev.Stays d e.drainEnd := ite (h.setHost 4 (.inl rfl)) h

theorem drain (h : Dev.Stays d e) (done : Bool) : Dev.Stays d (e.drain done) := by
  have hCount : Dev.Stays d e.countFlight := h.putFlight _
  unfold Dev.drain
  dsimp only
  split
  next hDrains =>
    refine hCount.setHost 2 (.inr fun h4 => ?_)
    simp [hCount.host h4] at hDrains
  next => exact ite hCount.drainEnd hCount

/-! Entries that end with a sheet (R80, R107). -/

theorem armRefused (h : Dev.Stays d e) (i code : Nat) : Dev.Stays d (e.armRefused i code) :=
  ((h.setEvt _).evtFlag 2).report 22 _ _ (by decide)

theorem armEntry (h : Dev.Stays d e) (i : Nat) : Dev.Stays d (e.armEntry i) :=
  ite h (((h.putTw _ _).put F.EVT_ARMED_COUNT.count _ (.low (by decide))).setEvt _)

theorem clearArmed (h : Dev.Stays d e) (i : Nat) : Dev.Stays d (e.clearArmed i) :=
  ite (((h.putTw _ _).put F.EVT_ARMED_COUNT.count _ (.low (by decide))).setEvt _) h

theorem disarmEntry (h : Dev.Stays d e) (i : Nat) : Dev.Stays d (e.disarmEntry i) := ite ((h.clearArmed i).setEvt _) (h.clearArmed i)

theorem armFor (h : Dev.Stays d e) (k j i : Nat) : Dev.Stays d (e.armFor k j i).1 := by
  unfold Dev.armFor
  extract_lets lo hi code x
  split
  · exact h.armRefused i code
  · exact (((h.putTw _ _).putTw _ _).armEntry i).setEvt _

theorem passOn (h : Dev.Stays d e) (m i : Nat) : Dev.Stays d (Dev.passOn m e i).1 := by
  induction m generalizing e with
  | zero => exact h
  | succ m ih =>
    unfold Dev.passOn
    split
    · exact h
    · rename_i k _
      dsimp only
      split
      · exact (h.setEvt _).armFor _ _ _
      · exact ih ((h.setEvt _).armFor _ _ _)

theorem withdraw (h : Dev.Stays d e) (k : Nat) : Dev.Stays d (e.withdraw k).1 := by
  unfold Dev.withdraw
  extract_lets _ x mine
  have hx : Dev.Stays d x := h.setEvt _
  generalize ([] : List (Nat × Nat)) = l
  clear_value x mine
  induction mine generalizing x l with
  | nil => exact hx
  | cons i mine ih => exact ih _ ((hx.disarmEntry i).passOn 33 i) _

/-! The end of a sheet (R102, R107, R113-R117). -/

theorem shtEnter (h : Dev.Stays d e) (k st : Nat) : Dev.Stays d (e.shtEnter k st) := (h.put _ _ (.shtState k)).putBit _ _ _ (.low (by decide))

theorem firstCause (h : Dev.Stays d e) (k cause : Nat) : Dev.Stays d (e.firstCause k cause) := ite (h.put _ _ (.shtState k)) h

theorem spoil (h : Dev.Stays d e) (k cause ch d1 : Nat) : Dev.Stays d (e.spoil k cause ch d1) := by
  unfold Dev.spoil
  extract_lets was x y
  have hx : Dev.Stays d x := (h.firstCause k cause).put _ _ (.shtState k)
  have hy : Dev.Stays d y := ite hx (hx.count _ (.low (by decide)))
  exact ((hy.milestone _ _ _ _ _ _).report 21 _ _ (by decide)).shtFlag 5

theorem shtResult (h : Dev.Stays d e) (res cause ch k : Nat) : Dev.Stays d (e.shtResult res cause ch k) := (h.wr _ _ (.low (by decide))).shtFlag 0

theorem shtRelease (h : Dev.Stays d e) (k : Nat) : Dev.Stays d (e.shtRelease k) :=
  ite (((h.milestone _ _ _ _ _ _).shtEnter k 0).shtResult _ _ _ _) (h.shtResult _ _ _ _)

theorem setLg (h : Dev.Stays d e) (x : LgSt) : Dev.Stays d { e with lg := x } := h.ofRegs rfl rfl rfl

theorem lgOver (h : Dev.Stays d e) (k : Nat) : Dev.Stays d (e.lgOver k) := ite ((h.setLg _).shtRelease k) h

theorem cancelOne (h : Dev.Stays d e) (k cause d1 : Nat) : Dev.Stays d (e.cancelOne k cause d1).1 := by
  unfold Dev.cancelOne
  extract_lets x y z
  have hx : Dev.Stays d x := (h.firstCause k cause).shtEnter k 5
  have hy : Dev.Stays d y := (hx.wr _ _ (.doneTime k)).count _ (.low (by decide))
  have hz : Dev.Stays d z := (hy.milestone _ _ _ _ _ _).shtFlag 4
  have hw := hz.withdraw k
  generalize z.withdraw k = w at hw ⊢
  obtain ⟨w, lost⟩ := w
  exact (hw.drain false).lgOver k

theorem settle (h : Dev.Stays d e) (m : Nat) (l : List (Nat × Nat)) : Dev.Stays d (Dev.settle m e l) := by
  induction m generalizing e l with
  | zero => exact h
  | succ m ih =>
    match l with
    | [] => exact h
    | (k, i) :: l =>
      have hc := h.cancelOne k 0x23 i
      rw [Dev.settle]
      generalize e.cancelOne k 0x23 i = c at hc ⊢
      obtain ⟨c, lost⟩ := c
      exact ite (ih hc _) (ite (ih (h.spoil k _ _ _) l) (ih h l))

theorem complete (h : Dev.Stays d e) (k : Nat) : Dev.Stays d (e.complete k) := by
  unfold Dev.complete
  extract_lets x
  have hx : Dev.Stays d x := (h.shtEnter k 4).wr _ _ (.doneTime k)
  have hw := hx.withdraw k
  generalize x.withdraw k = w at hw ⊢
  obtain ⟨w, lost⟩ := w
  have hFlag := (hw.milestone 0x09 (w.tagOf k) 0 0xFF k 0).shtFlag 6
  have hGates := hFlag.each (((w.milestone 0x09 (w.tagOf k) 0 0xFF k 0).shtFlag 6).sheetChans k)
    (fun d m => (d.modCh m fun c => { c with dropped := d.stillDropped m }).gate m)
    fun _ m _ => (refl.modCh m _).gate m
  exact (((hGates.drain true).settle 600 lost).lgEvent 4).lgOver k

theorem tryComplete (h : Dev.Stays d e) (k : Nat) : Dev.Stays d (e.tryComplete k) := by
  unfold Dev.tryComplete
  extract_lets x
  have hx : Dev.Stays d x := ite ((h.milestone _ _ _ _ _ _).put _ _ (.shtState k)) h
  exact ite (hx.complete k) hx

theorem chanEnd (h : Dev.Stays d e) {k : Nat} (hk : k < 32) (m : Nat) : Dev.Stays d (e.chanEnd k m) :=
  ((h.putBit _ _ _ (.shtChan hk)).milestone _ _ _ _ _ _).lgStation m 0

theorem scrLock (h : Dev.Stays d e) (m : Nat) (b : Bool) : Dev.Stays d (e.scrLock m b) :=
  h.put _ _ (.high (by simp only [F.CHn_SCR_STATUS.locked, R.CHn_SCR_STATUS]; omega))

theorem dropChan (h : Dev.Stays d e) {k : Nat} (hk : k < 32) (m : Nat) : Dev.Stays d (e.dropChan k m) := by
  unfold Dev.dropChan
  extract_lets x y
  have hx : Dev.Stays d x := (h.putBit _ _ _ (.shtState k)).chanEnd hk m
  have hy : Dev.Stays d y := ite ((hx.put _ _ (.high (by simp only [F.CHn_FGT_CTRL.permit_req, R.CHn_FGT_CTRL]; omega))).modCh m _) hx
  exact ite h (ite (((hy.modCh m _).scrLock m false).gate m) hy)

theorem dropFromSheets (h : Dev.Stays d e) (m cause d1 : Nat) : Dev.Stays d (e.dropFromSheets m cause d1) :=
  h.each _ _ fun _ k hk => ((refl.spoil k cause m d1).dropChan (List.mem_range.1 (List.mem_filter.1 hk).1) m).tryComplete k

end Dev.Stays

end Sys2Proof.Machine
end

-- ==== Sitting: what a loss of lock sets off ====
section
/-! SUPPORT. Locks of the clock loops: what declaring one leaves, and what a loss sets off and leaves. -/
open Sys2Proof Sys2Proof.Machine Sys2Proof.Claims
set_option maxRecDepth 20000

namespace Sys2Proof.Machine

/-! ### What the consequences of a loss leave of the clocks (R356) -/

/-- The locks of the loops and the monitors show the same, so does the power status, and a monitor's event stays shown. -/
structure Dev.KeepsClocks (d e : Dev) : Prop where
  status : e.rd R.CLK_STATUS = d.rd R.CLK_STATUS
  monitor : e.rd R.CLK_MON_STATUS = d.rd R.CLK_MON_STATUS
  power : e.rd R.PWR_STATUS = d.rd R.PWR_STATUS
  event : bit (d.rd R.CLK_EVENTS) 4 = true → bit (e.rd R.CLK_EVENTS) 4 = true

theorem lockSource_lt {i : Nat} (hi : i < 25) : lockSource i < 42 := by
  unfold lockSource
  split <;> (try split) <;> omega

namespace Dev.KeepsClocks
variable {d e f : Dev}

theorem refl : Dev.KeepsClocks d d := ⟨rfl, rfl, rfl, id⟩

theorem trans (h : Dev.KeepsClocks d e) (g : Dev.KeepsClocks e f) : Dev.KeepsClocks d f :=
  ⟨g.status.trans h.status, g.monitor.trans h.monitor, g.power.trans h.power, g.event ∘ h.event⟩

theorem ofStays (h : Dev.Stays d e) : Dev.KeepsClocks d e :=
  ⟨h.reg _ (by simp [supervisoryReg, R.CLK_STATUS]), h.reg _ (by simp [supervisoryReg, R.CLK_MON_STATUS]),
    h.reg _ (by simp [supervisoryReg, R.PWR_STATUS]), fun hBit => by rwa [h.reg _ (by simp [supervisoryReg, R.CLK_EVENTS])]⟩

theorem ofSlices (hPower : Dev.KeepsSlice 0xC d e) (hClock : Dev.KeepsSlice 0xD d e) : Dev.KeepsClocks d e :=
  ⟨hClock _ rfl, hClock _ rfl, hPower _ rfl, fun hBit => by rwa [hClock R.CLK_EVENTS rfl]⟩

theorem ofFrame {ps : List Part} (h : Dev.KeepsClocks d e) (hFrame : Dev.Frame ps e f)
    (hReg : ∀ o, Part.reg o ∈ ps → o / 65536 ≠ 0xC ∧ o / 65536 ≠ 0xD) : Dev.KeepsClocks d f :=
  h.trans (ofSlices (.ofFrame hFrame fun o ho => (hReg o ho).1) (.ofFrame hFrame fun o ho => (hReg o ho).2))

theorem ofRegs (h : Dev.KeepsClocks d e) (hRegs : f.regs = e.regs) : Dev.KeepsClocks d f := h.trans (ofSlices (.ofRegs hRegs) (.ofRegs hRegs))

theorem wr (h : Dev.KeepsClocks d e) (r : Reg) (v : Nat) (hPower : r.off / 65536 ≠ 0xC) (hClock : r.off / 65536 ≠ 0xD) : Dev.KeepsClocks d (e.wr r v) :=
  h.trans (ofSlices (Dev.KeepsSlice.refl.wr _ _ hPower) (Dev.KeepsSlice.refl.wr _ _ hClock))

theorem put (h : Dev.KeepsClocks d e) (g : Fld) (v : Nat) (hPower : g.reg.off / 65536 ≠ 0xC) (hClock : g.reg.off / 65536 ≠ 0xD) :
    Dev.KeepsClocks d (e.put g v) := h.wr _ _ hPower hClock

theorem clkEvent (h : Dev.KeepsClocks d e) (k : Nat) : Dev.KeepsClocks d (e.clkEvent k) := by
  refine h.trans ⟨Dev.rd_wr_ne _ _ _ _ (by decide), Dev.rd_wr_ne _ _ _ _ (by decide), Dev.rd_wr_ne _ _ _ _ (by decide), fun hBit => ?_⟩
  rw [Dev.clkEvent, Dev.rd_wr_same, bit_mod _ _ _ (by decide), bit_mod _ _ _ (by decide)]
  by_cases hk : k = 4
  · subst hk
    exact bit_putBits_same _ 4 true
  · rw [← hBit]
    exact bit_putBits_ne _ _ _ _ _ le_rfl (by omega)

theorem report (h : Dev.KeepsClocks d e) (src d0 d1 : Nat) (hSrc : src < 42) : Dev.KeepsClocks d (e.report src d0 d1) :=
  h.trans (ofStays (Dev.Stays.refl.report src d0 d1 (by omega)))

theorem setActive (h : Dev.KeepsClocks d e) (src : Nat) (b : Bool) (hSrc : src < 42) : Dev.KeepsClocks d (e.setActive src b) :=
  h.trans (ofStays (Dev.Stays.refl.setActive src b (by omega)))

theorem lockSaid (h : Dev.KeepsClocks d e) {i : Nat} (hi : i < 25) (b : Bool) : Dev.KeepsClocks d (e.lockSaid i b) :=
  (h.ofRegs (f := { e with clk := { e.clk with said := putBits e.clk.said i i (b2n b) } }) rfl).setActive _ _ (lockSource_lt hi)

theorem ite {c : Prop} [Decidable c] (h : Dev.KeepsClocks d e) (g : Dev.KeepsClocks d f) : Dev.KeepsClocks d (if c then e else f) := by
  split <;> assumption

theorem each {α : Type} (h : Dev.KeepsClocks d e) (l : List α) (u : Dev → α → Dev) (hu : ∀ x a, a ∈ l → Dev.KeepsClocks x (u x a)) :
    Dev.KeepsClocks d (e.each l u) := by
  unfold Dev.each
  induction l generalizing e with
  | nil => exact h
  | cons a l ih => exact ih (h.trans (hu e a (by simp))) fun x b hb => hu x b (by simp [hb])

end Dev.KeepsClocks

/-! ### The losses of a channel's loops -/

section
variable {d e : Dev} {ps : List Part}

/-- What a port changes whose SerDes loop unlocks. -/
def beamLossParts (n : Nat) : List Part := portParts n ++ blpBit n ++ strobeParts (8 + n)

theorem Dev.frame_blpDetect (n : Nat) : Dev.Frame (portParts n) d (d.blpDetect n) := by
  have hCount : Dev.Frame (portParts n) d (d.count (F.CHn_BLP_COUNTS.retrains n)) :=
    Frame.count Frame.refl _ _ (by simp [portParts, F.CHn_BLP_COUNTS.retrains])
  unfold Dev.blpDetect
  exact Frame.gate (Frame.put (Frame.put (Frame.modCh (Frame.ite hCount Frame.refl) n _ (by simp [portParts, gateParts])) _ _
    (by simp [portParts, F.CHn_BLP_STATUS.withdraw_cause])) _ _ (by simp [portParts, F.CHn_BLP_STATUS.state])) n (by simp +contextual [portParts])

theorem Dev.frame_blpDetail (n v : Nat) : Dev.Frame (portParts n) d (d.blpDetail n v) :=
  Frame.put Frame.refl _ _ (by simp [portParts, F.CHn_BLP_STATUS.detail])

theorem Dev.frame_blpLost (n detail : Nat) : Dev.Frame (beamLossParts n) d (d.blpLost n detail) := by
  have hReport := Frame.report (ps := beamLossParts n) (d := d) Frame.refl (8 + n) (0x21 <<< 24 + detail) (d.chTag n <<< 16 + (d.chS n).q)
    (by simp [beamLossParts, strobeParts]) (by simp [beamLossParts, strobeParts])
  have hPort (x : Dev) : Dev.Frame (beamLossParts n) x ((x.blpDetail n detail).blpDetect n) :=
    Frame.mono (Frame.trans (Dev.frame_blpDetail n detail) (Dev.frame_blpDetect n)) (by simp +contextual [beamLossParts])
  exact Frame.flag (Frame.trans hReport (hPort _)) _ _ _ _ (by simp [beamLossParts, blpBit]) (by simp +contextual [beamLossParts, blpBit])

theorem Dev.frame_blpLoopLost (n : Nat) : Dev.Frame (beamLossParts n) d (d.blpLoopLost n) := by
  have hMark : Dev.Frame (beamLossParts n) d (if (decide (2 ≤ d.port n) && decide (d.port n ≤ 6)) = true then d.modCh n fun c => { c with lostLoop := true } else d) :=
    Frame.ite (Frame.modCh Frame.refl n _ (by simp [beamLossParts, portParts, gateParts])) Frame.refl
  unfold Dev.blpLoopLost
  dsimp only
  exact Frame.ite (Frame.trans hMark (Dev.frame_blpLost n _)) (Frame.ite (Frame.trans hMark
    (Frame.mono (Frame.trans (Dev.frame_blpDetail n _) (Dev.frame_blpDetect n)) (by simp +contextual [beamLossParts]))) hMark)

theorem Dev.keepsClocks_blpLoopLost {n : Nat} (hn : n < 8) : Dev.KeepsClocks d (d.blpLoopLost n) :=
  Dev.KeepsClocks.refl.ofFrame (Dev.frame_blpLoopLost n) (by
    simp only [beamLossParts, portParts, blpBit, gateParts, irqParts, strobeParts, List.mem_append, List.mem_cons, List.not_mem_nil, or_false, Part.reg.injEq,
      reduceCtorEq, false_or, R.CHn_BLP_STATUS, R.CHn_BLP_COUNTS, R.CHn_FGT_STATUS, R.CHn_FGT_COUNTS, R.CHn_FGT_IRQ_STATUS, R.CHn_BLP_IRQ_STATUS, R.FLT_SRCi_STATE,
      R.MSIX_PBA]
    omega)

theorem Dev.keepsClocks_ownLoss (n cause : Nat) : Dev.KeepsClocks d (d.ownLoss n cause) :=
  .ite (Dev.KeepsClocks.refl.ofFrame (Frame.withdraw_ Frame.refl n cause fun _ h => h) (by
    simp only [withdrawParts, gateParts, irqParts, List.mem_append, List.mem_cons, List.not_mem_nil, or_false, Part.reg.injEq,
      reduceCtorEq, false_or, R.CHn_BLP_STATUS, R.CHn_FGT_STATUS, R.CHn_FGT_COUNTS, R.CHn_FGT_IRQ_STATUS, R.CHn_BLP_IRQ_STATUS, R.MSIX_PBA]
    omega)) .refl

/-- The loss of a synthesizer up to its report: unlocked, counted, noted, flagged. -/
theorem Dev.keepsClocks_relockBegun (n : Nat) : Dev.KeepsClocks d (d.relockBegun n) := by
  have hStatus : (R.CHn_PXS_STATUS n).off / 65536 ≠ 0xC ∧ (R.CHn_PXS_STATUS n).off / 65536 ≠ 0xD := by simp only [R.CHn_PXS_STATUS]; omega
  have hUnlocked : Dev.KeepsClocks d (d.put (F.CHn_PXS_STATUS.locked n) 0) := Dev.KeepsClocks.refl.wr _ _ hStatus.1 hStatus.2
  have hCounted : Dev.KeepsClocks d ((d.put (F.CHn_PXS_STATUS.locked n) 0).count (F.CHn_PXS_STATUS.relocks n)) := hUnlocked.wr _ _ hStatus.1 hStatus.2
  exact (hCounted.ofRegs (f := Dev.lossNoted _ _) rfl).clkEvent 2

/-- What a synthesizer's loss says: its bit, its record, the withdrawn port. -/
def Dev.pxsSaid (d : Dev) (n cause : Nat) (said : Bool) : Dev :=
  if said then ((d.put (F.CHn_PXS_STATUS.lock_lost n) 1).report 25 (0x80 <<< 24 + (8 + n) <<< 16 + cause) (d.now % 2 ^ 32)).ownLoss n 2 else d

theorem Dev.pxsLost_eq (n cause : Nat) (said : Bool) :
    d.pxsLost n cause said = ((((d.relockBegun n).pxsSaid n cause said).lockSaid (8 + n) said).gate n).dropFromSheets n 0x44 0 := rfl

theorem Dev.keepsClocks_pxsSaid (n cause : Nat) (said : Bool) : Dev.KeepsClocks d (d.pxsSaid n cause said) := by
  unfold Dev.pxsSaid
  exact .ite (((Dev.KeepsClocks.refl.put _ _ (by simp only [F.CHn_PXS_STATUS.lock_lost, R.CHn_PXS_STATUS]; omega)
    (by simp only [F.CHn_PXS_STATUS.lock_lost, R.CHn_PXS_STATUS]; omega)).report 25 _ _ (by decide)).trans (Dev.keepsClocks_ownLoss n 2)) .refl

theorem Dev.keepsClocks_pxsLost {n : Nat} (hn : n < 8) (cause : Nat) (said : Bool) : Dev.KeepsClocks d (d.pxsLost n cause said) := by
  rw [Dev.pxsLost_eq]
  exact (((Dev.keepsClocks_relockBegun n).trans (Dev.keepsClocks_pxsSaid n cause said)).lockSaid (by omega) said).trans
    (.ofStays ((Dev.Stays.refl.gate n).dropFromSheets n 0x44 0))

/-- The SerDes loop of a port has unlocked, before the port hears of it. -/
def Dev.blUnlocked (d : Dev) (n : Nat) : Dev :=
  ({ d with clk := { d.clk with blLocked := putBits d.clk.blLocked n n 0, blLosses := Store.set 0 d.clk.blLosses n (satAdd 16 (Store.get 0 d.clk.blLosses n) 1) } } : Dev).lossNoted
    (16 + n)

theorem Dev.blLoopLost_eq (n : Nat) : d.blLoopLost n = ((d.blUnlocked n).lockSaid (16 + n) true).blpLoopLost n := rfl

theorem Dev.keepsClocks_blLoopLost {n : Nat} (hn : n < 8) : Dev.KeepsClocks d (d.blLoopLost n) := by
  rw [Dev.blLoopLost_eq]
  have hUnlocked : Dev.KeepsClocks d (d.blUnlocked n) := Dev.KeepsClocks.refl.ofRegs rfl
  exact (hUnlocked.lockSaid (by omega) true).trans (Dev.keepsClocks_blpLoopLost hn)

/-! ### A member that loses its time, the lanes, the ring and the link -/

theorem Dev.keepsClocks_twnEnter_out (h : 2 ≤ d.twnSt) : Dev.KeepsClocks d (d.twnEnter 5) := by
  have hSlice (b : Nat) (hb : b = 0xC ∨ b = 0xD) : Dev.KeepsSlice b d d.leaving := by
    have hSup : supervisory b := hb.imp_right .inl
    have hPut : Dev.KeepsSlice b d (d.put F.TWN_STATUS.state 5) := Dev.KeepsSlice.refl.put _ _ (by rcases hb with rfl | rfl <;> decide)
    unfold Dev.leaving
    exact .ite (((hPut.trans (Dev.keepsSlice_pairFree hSup)).flag hSup _ _ _ _ (by rcases hb with rfl | rfl <;> decide)).wr _ _
      (by rcases hb with rfl | rfl <;> decide)) hPut
  rw [Dev.twnEnter_out h]
  exact .ofSlices ((hSlice 0xC (.inl rfl)).trans (Dev.keepsSlice_twnPorts (.inl rfl)))
    ((hSlice 0xD (.inr rfl)).trans (Dev.keepsSlice_twnPorts (.inr (.inl rfl))))

theorem Dev.keepsClocks_desync : Dev.KeepsClocks d d.desync := by
  have hPut : Dev.KeepsClocks d (d.put F.TWN_STATUS.time_synced 0) := Dev.KeepsClocks.refl.put _ _ (by decide) (by decide)
  unfold Dev.desync
  dsimp only
  generalize d.put F.TWN_STATUS.time_synced 0 = e at hPut ⊢
  split
  next hIn =>
    simp only [Bool.and_eq_true, decide_eq_true_eq] at hIn
    have hReport : (e.twnReport 32 0x93 (e.get F.TWN_TIME.offset) e.health).twnSt = e.twnSt := Dev.get_report_ne _ _ _ _ _ (by decide)
    exact (hPut.report 32 _ _ (by decide)).trans (Dev.keepsClocks_twnEnter_out (by rw [← Dev.twnReport, hReport]; omega))
  next => exact hPut

theorem Dev.keepsClocks_twnLaneDown (l : Nat) : Dev.KeepsClocks d (d.twnLaneDown l) := by
  cases hLane : d.lane l with
  | false =>
    rw [Dev.twnLaneDown, if_pos (by simp [hLane])]
    exact .refl
  | true =>
    have hLost : Dev.KeepsClocks d (d.laneLost l) := Dev.KeepsClocks.refl.ofFrame (Dev.frame_laneLost l) (by simp [strobeParts, R.TWN_STATUS, R.FLT_SRCi_STATE])
    rw [Dev.twnLaneDown_of_lane hLane]
    exact .ite (hLost.ofRegs rfl) hLost

theorem rxLeftParts_offClocks (o : Nat) (h : Part.reg o ∈ rxLeftParts) : o / 65536 ≠ 0xC ∧ o / 65536 ≠ 0xD := by
  simp only [rxLeftParts, laneParts, strobeParts, freeParts, irqParts, List.mem_append, List.mem_flatMap, List.mem_range, List.mem_cons, List.not_mem_nil, or_false,
    Part.reg.injEq, reduceCtorEq, false_or, R.LG_VID_STAT, R.LG_STATUS, R.FLT_SRCi_STATE, R.RNG_LANE_STATUS, R.RNG_LANE_IRQ_STATUS, R.MSIX_PBA, R.RNG_RXl_STATUS,
    R.RNG_RXl_BITS, R.RNG_RXl_ERRS] at h
  obtain h | h | ⟨l, hl, h⟩ := h <;> omega

theorem Dev.keepsClocks_rxDetect : Dev.KeepsClocks d d.rxDetect := Dev.KeepsClocks.refl.ofFrame d.frame_rxDetect rxLeftParts_offClocks

theorem Dev.keepsClocks_rxLost : Dev.KeepsClocks d d.rxLost := by
  unfold Dev.rxLost
  dsimp only
  split
  · have hChecked : Dev.Frame rxLeftParts d (d.modRng fun x => { x with adapting := d.rng.commit = 5, lockAt := d.sys.now8 }).chkAll :=
      Frame.trans (Frame.modRng Frame.refl _ (by simp [rxLeftParts, laneParts])) (Frame.mono (Dev.frame_chkAll _) laneParts_subset_rxLeftParts)
    have hUnlocked := Frame.each (ps := rxLeftParts) (List.range 8) (fun d l => d.put (F.RNG_RXl_STATUS.locked l) 0)
      (fun x l hl => Frame.put Frame.refl _ _ (by
        simp only [rxLeftParts, laneParts, List.mem_append, List.mem_flatMap]
        exact .inr (.inr ⟨l, hl, by simp [F.RNG_RXl_STATUS.locked]⟩))) hChecked
    have hRate := Frame.put hUnlocked F.RNG_LANE_STATUS.rate d.rng.commit (by simp [rxLeftParts, laneParts, F.RNG_LANE_STATUS.rate])
    have hCommitted := Frame.put hRate F.RNG_LANE_STATUS.committed 1 (by simp [rxLeftParts, laneParts, F.RNG_LANE_STATUS.committed])
    exact Dev.KeepsClocks.refl.ofFrame (Frame.trans hCommitted (Dev.frame_rxEnter _ 2)) rxLeftParts_offClocks
  · have hCount : Dev.KeepsClocks d (d.count F.RNG_LANE_COUNTS.rx_losses) := Dev.KeepsClocks.refl.wr R.RNG_LANE_COUNTS _ (by decide) (by decide)
    exact (hCount.trans Dev.keepsClocks_rxDetect).ofFrame (ps := freeParts ++ strobeParts 16)
      (Frame.reportOpen Frame.refl 16 (by simp [freeParts]) (by simp [strobeParts]) (by simp [strobeParts])) (by simp [freeParts, strobeParts, R.FLT_SRCi_STATE])

/-- The link is down and a host reset waits, before the loss is reported. -/
def Dev.linkFallen (d : Dev) : Dev :=
  { { d with host := { d.host with linkUp := false } } with
    sys := { d.sys with hostReq := if d.sys.hostReq.contains 6 then d.sys.hostReq else d.sys.hostReq ++ [6] } }

theorem Dev.linkDown_eq (h : d.host.linkUp = true) (status : Nat) : d.linkDown status =
    (d.linkFallen.count F.SYS_CFG_HOST_COUNTS.link_downs).hostErr 0xA5 status
      ((d.linkFallen.count F.SYS_CFG_HOST_COUNTS.link_downs).get F.SYS_CFG_HOST_COUNTS.link_downs) := by
  rw [Dev.linkDown, if_neg (by simp [h])]
  rfl

theorem Dev.keepsClocks_linkDown (status : Nat) : Dev.KeepsClocks d (d.linkDown status) := by
  cases hUp : d.host.linkUp with
  | false =>
    rw [Dev.linkDown, if_pos (by simp [hUp])]
    exact .refl
  | true =>
    have hFallen : Dev.KeepsClocks d d.linkFallen := Dev.KeepsClocks.refl.ofRegs rfl
    have hCount : Dev.KeepsClocks d (d.linkFallen.count F.SYS_CFG_HOST_COUNTS.link_downs) := hFallen.wr _ _ (by decide) (by decide)
    rw [Dev.linkDown_eq hUp]
    generalize d.linkFallen.count F.SYS_CFG_HOST_COUNTS.link_downs = e at hCount ⊢
    exact hCount.ofFrame (ps := hostErrParts) (Frame.hostErr Frame.refl 0xA5 status _ (by simp [hostErrParts]) (by simp [hostErrParts]) (by simp [hostErrParts])
      (by simp [hostErrParts, strobeParts]) (by simp [hostErrParts, strobeParts])) (by
        simp [hostErrParts, strobeParts, R.SYS_CFG_HOST_ERR, R.SYS_CFG_HOST_COUNTS, R.FLT_SRCi_STATE])

end
end Sys2Proof.Machine
end

-- ==== Sitting: the loss of a clock loop ====
section
/-! SUPPORT. The loss of a loop as a whole, and what its record says. -/
open Sys2Proof Sys2Proof.Machine Sys2Proof.Claims
set_option maxRecDepth 20000

namespace Sys2Proof.Machine

/-! ### The level and the record of a loss (R358, R364) -/

section
variable {d e f : Dev} {i : Nat}

/-- The mark that a loss stands, or is over, without its level. -/
def Dev.lossMarked (d : Dev) (i : Nat) (b : Bool) : Dev := { d with clk := { d.clk with said := putBits d.clk.said i i (b2n b) } }

theorem Dev.lockSaid_eq (b : Bool) : d.lockSaid i b =
    (d.lossMarked i b).setActive (lockSource i) ((List.range 25).any fun j => bit (d.lossMarked i b).clk.said j && lockSource j = lockSource i) := rfl

theorem Dev.frame_lockSaid (i : Nat) (b : Bool) : Dev.Frame ([Part.clk] ++ activeParts (lockSource i)) d (d.lockSaid i b) := by
  rw [Dev.lockSaid_eq]
  exact Frame.setActive (Frame.setClk Frame.refl _ (by simp)) _ _ (by simp [activeParts]) (by simp [activeParts]) (by simp [activeParts])

theorem Dev.clk_lockSaid (b : Bool) : (d.lockSaid i b).clk = (d.lossMarked i b).clk := Dev.setActive_clk _ _ _

theorem Dev.on_lockSaid (hi : i < 25) : (d.lockSaid i true).on (F.FLT_SRCi_STATE.active (lockSource i)) = true := by
  have hSource : lockSource i < 41 := by
    unfold lockSource
    split <;> (try split) <;> omega
  rw [Dev.lockSaid_eq, Dev.on_setActive_same _ hSource, List.any_eq_true]
  refine ⟨i, List.mem_range.2 hi, ?_⟩
  rw [decide_eq_true rfl, Bool.and_true]
  exact bit_putBits_same d.clk.said i true

theorem Dev.strobed_lockSaid (b : Bool) (d0 d1 : Nat) :
    strobed d ((d.lockSaid i b).report (lockSource i) d0 d1) (lockSource i) d0 d1 :=
  Dev.strobed_report _ _ (by rw [Dev.lockSaid_eq, Dev.strobes_setActive]; rfl) (by rw [Dev.lockSaid_eq, Dev.get_setActive_merged]; rfl)

/-- A loss is said: its source's level, its record with the loop and the cause. -/
def Dev.lossSaid (d : Dev) (i cause : Nat) : Dev := (d.lockSaid i true).report (lockSource i) (0x80 * 2 ^ 24 + i * 2 ^ 16 + cause) (d.now % 2 ^ 32)

/-- What saying a loss changes. -/
def lossSaidParts (i : Nat) : List Part := [Part.clk] ++ strobeParts (lockSource i) ++ activeParts (lockSource i)

theorem Dev.frame_lossSaid (i cause : Nat) : Dev.Frame (lossSaidParts i) d (d.lossSaid i cause) :=
  Frame.report (Frame.mono (Dev.frame_lockSaid i true) (by simp [lossSaidParts]; grind)) _ _ _ (by simp [lossSaidParts, strobeParts])
    (by simp [lossSaidParts, strobeParts])

theorem Dev.keepsClocks_lossSaid (hi : i < 25) (cause : Nat) : Dev.KeepsClocks d (d.lossSaid i cause) :=
  (Dev.KeepsClocks.refl.lockSaid hi true).report _ _ _ (lockSource_lt hi)

theorem Dev.rd_lossSaid (cause : Nat) (r : Reg) (hr : r.off < 0xe0000) : (d.lossSaid i cause).rd r = d.rd r :=
  Frame.rd (Dev.frame_lossSaid i cause) r (by
    simp only [lossSaidParts, strobeParts, activeParts, List.mem_append, List.mem_cons, List.not_mem_nil, or_false, reduceCtorEq, Part.reg.injEq, false_or,
      R.FLT_SRCi_STATE, R.FLT_ACTIVE]
    omega)

end

/-! ### The loss of a loop of the core slice -/

section
variable {d e f : Dev} {i : Nat}

/-- A loop of the core slice is unlocked, its loss counted and noted. -/
def Dev.lossCounted (d : Dev) (i : Nat) : Dev := ((d.putBit F.CLK_STATUS.locked i false).count (F.CLK_LOOPi_COUNTS.losses i)).lossNoted i

/-- The sheets that a core loss spoils: PICKED ones that wait for a synthesizer or for lines (R356). -/
def Dev.hurtSheets (d : Dev) : List Nat :=
  (List.range 32).filter fun k => d.shtState k = 3 && !((d.sheetChans k).all fun n =>
    d.on (F.CHn_PXS_STATUS.locked n) && d.get (F.SHT_Dd_FILLn.lines k n) = d.get (F.SHT_Dd_LINES.input_lines k))

/-- The core loop is lost, up to its sheets. -/
def Dev.coreFallen (d : Dev) (cause : Nat) : Dev := (((d.lossCounted 0).put F.CLK_STATUS.core_fb 1).clkEvent 2).lossSaid 0 cause

theorem Dev.loopLost_core (h : d.loopLocked 0 = true) (cause : Nat) :
    d.loopLost 0 cause true = (d.coreFallen cause).each (d.coreFallen cause).hurtSheets fun d k => d.spoil k 0x45 0xFF 0 := by
  unfold Dev.loopLost
  rw [if_neg (by simp [h])]
  rfl

/-- The time base is lost, up to its sheets. -/
def Dev.baseFallen (d : Dev) (cause : Nat) : Dev :=
  ((((d.lossCounted 1).put F.CLK_STATUS.tbase_fb 1).put F.CLK_STATUS.motion_fb 1).clkEvent 2).lossSaid 1 cause

/-- The loops of a channel that go with the time base. -/
def Dev.chanFallen (d : Dev) (n : Nat) : Dev :=
  let d := if d.on (F.CHn_PXS_STATUS.locked n) then d.pxsLost n 3 true else d
  if bit d.clk.blLocked n then d.blLoopLost n else d

theorem Dev.loopLost_base (h : d.loopLocked 1 = true) (cause : Nat) :
    d.loopLost 1 cause true = (((d.baseFallen cause).spoilPicked 0x46 0).each (List.range 8) Dev.chanFallen).desync := by
  unfold Dev.loopLost
  rw [if_neg (by simp [h])]
  rfl

/-- The memory PHY has lost its loop. -/
def Dev.memLost (d : Dev) : Dev := { d with memx := { d.memx with lost := true } }

/-- The memory PHY is no longer trained. -/
def Dev.memUntrained (d : Dev) : Dev := d.memLost.put F.MEM_STATUS.trained 0

theorem Dev.loopLost_mem (h : d.loopLocked 2 = true) (cause : Nat) : d.loopLost 2 cause true = ((d.lossCounted 2).memUntrained.lockSaid 2 true).report 19 0 0 := by
  unfold Dev.loopLost
  rw [if_neg (by simp [h])]
  rfl

/-- The receive direction without its SerDes loop (R134). -/
def Dev.ringFallen (d : Dev) : Dev :=
  match d.rxSt with | 4 => d.rxLockLost .signal | 2 => d.rxDetect | 3 => d.rxDetect | _ => d

theorem Dev.loopLost_ring (h : d.loopLocked 3 = true) (cause : Nat) :
    d.loopLost 3 cause true = (((d.lossCounted 3).ringFallen).twnLaneDown 0).twnLaneDown 1 := by
  unfold Dev.loopLost
  rw [if_neg (by simp [h])]
  rfl

theorem Dev.loopLost_host (h : d.loopLocked 4 = true) (cause : Nat) :
    d.loopLost 4 cause true = ((d.lossCounted 4).lockSaid 4 true).linkDown (d.lossCounted 4).linkStatus := by
  unfold Dev.loopLost
  rw [if_neg (by simp [h])]
  rfl

theorem Dev.loopLost_pixel {n : Nat} (h : d.loopLocked (8 + n) = true) (hn : n < 8) (cause : Nat) : d.loopLost (8 + n) cause true = d.pxsLost n cause true := by
  have hBack : 8 + n - 8 = n := by omega
  unfold Dev.loopLost
  rw [if_neg (by simp [h]), if_neg (by omega), if_pos (by omega), hBack]

theorem Dev.loopLost_beam {n : Nat} (h : d.loopLocked (16 + n) = true) (cause : Nat) : d.loopLost (16 + n) cause true = d.blLoopLost n := by
  have hBack : 16 + n - 16 = n := by omega
  unfold Dev.loopLost
  rw [if_neg (by simp [h]), if_pos (by omega), hBack]

/-! ### What every loss comes to -/

/-- A loop of the core slice is unlocked, the rest of the clocks as the consequences of a loss leave it. -/
structure Dev.Unlocking (i : Nat) (d e : Dev) : Prop where
  locked : bit (e.get F.CLK_STATUS.locked) i = false
  monitor : e.rd R.CLK_MON_STATUS = d.rd R.CLK_MON_STATUS
  power : e.rd R.PWR_STATUS = d.rd R.PWR_STATUS
  event : bit (d.rd R.CLK_EVENTS) 4 = true → bit (e.rd R.CLK_EVENTS) 4 = true

theorem Dev.Unlocking.keeps (h : Dev.Unlocking i d e) (g : Dev.KeepsClocks e f) : Dev.Unlocking i d f :=
  ⟨by rw [← h.locked, Dev.get, Dev.get, F.CLK_STATUS.locked, g.status], g.monitor.trans h.monitor, g.power.trans h.power, g.event ∘ h.event⟩

/-- Another field of CLK_STATUS takes a value. -/
theorem Dev.Unlocking.shown (h : Dev.Unlocking i d e) (g : Fld) (v : Nat) (hReg : g.reg = R.CLK_STATUS) (hOk : g.ok = true) (hLo : 4 < g.lo) :
    Dev.Unlocking i d (e.put g v) := by
  have hNe (r : Reg) (hr : r.off ≠ R.CLK_STATUS.off) : (e.put g v).rd r = e.rd r := Dev.rd_put_ne _ _ _ _ (by rwa [hReg])
  refine ⟨?_, (hNe _ (by decide)).trans h.monitor, (hNe _ (by decide)).trans h.power, fun hBit => ?_⟩
  · have hApart : (decide (F.CLK_STATUS.locked.hi < g.lo) || decide (g.hi < F.CLK_STATUS.locked.lo)) = true :=
      Bool.or_eq_true_iff.2 (.inl (decide_eq_true hLo))
    rw [← h.locked, Dev.get_put_other e g F.CLK_STATUS.locked v hReg.symm hOk (by decide) hApart]
  · rw [hNe R.CLK_EVENTS (by decide)]
    exact h.event hBit

theorem Dev.unlocking_lossCounted (hi : i < 5) : Dev.Unlocking i d (d.lossCounted i) := by
  have hNe (r : Reg) (hStatus : r.off ≠ R.CLK_STATUS.off) (hCount : r.off < 0xd0040) : (d.lossCounted i).rd r = d.rd r :=
    (Dev.rd_wr_ne _ _ _ _ (by simp only [F.CLK_LOOPi_COUNTS.losses, R.CLK_LOOPi_COUNTS]; omega)).trans (Dev.rd_put_ne _ _ _ _ hStatus)
  refine ⟨?_, hNe _ (by decide) (by decide), hNe _ (by decide) (by decide), fun hBit => ?_⟩
  · have hCount : (d.lossCounted i).get F.CLK_STATUS.locked = (d.putBit F.CLK_STATUS.locked i false).get F.CLK_STATUS.locked :=
      Dev.get_wr_ne _ _ _ _ (by simp only [F.CLK_STATUS.locked, F.CLK_LOOPi_COUNTS.losses, R.CLK_STATUS, R.CLK_LOOPi_COUNTS]; omega)
    rw [hCount, Dev.bit_putBit _ _ _ _ rfl (by simp only [F.CLK_STATUS.locked]; omega), if_pos rfl]
  · rwa [hNe R.CLK_EVENTS (by decide) (by decide)]

/-- A loop is unlocked, the rest of the clocks as the consequences of a loss leave it. -/
structure Dev.Lost (i : Nat) (d e : Dev) : Prop where
  locked : e.loopLocked i = false
  monitor : e.rd R.CLK_MON_STATUS = d.rd R.CLK_MON_STATUS
  power : e.rd R.PWR_STATUS = d.rd R.PWR_STATUS
  event : bit (d.rd R.CLK_EVENTS) 4 = true → bit (e.rd R.CLK_EVENTS) 4 = true

theorem Dev.Unlocking.lost (h : Dev.Unlocking i d e) (hi : i < 5) : Dev.Lost i d e := ⟨by rw [Dev.loopLocked, if_pos hi, h.locked], h.monitor, h.power, h.event⟩

theorem Dev.unlocking_coreFallen (cause : Nat) : Dev.Unlocking 0 d (d.coreFallen cause) :=
  (((Dev.unlocking_lossCounted (by decide)).shown F.CLK_STATUS.core_fb 1 rfl rfl (by decide)).keeps (Dev.KeepsClocks.refl.clkEvent 2)).keeps
    (Dev.keepsClocks_lossSaid (by decide) cause)

theorem Dev.unlocking_baseFallen (cause : Nat) : Dev.Unlocking 1 d (d.baseFallen cause) :=
  ((((Dev.unlocking_lossCounted (by decide)).shown F.CLK_STATUS.tbase_fb 1 rfl rfl (by decide)).shown F.CLK_STATUS.motion_fb 1 rfl rfl (by decide)).keeps
    (Dev.KeepsClocks.refl.clkEvent 2)).keeps (Dev.keepsClocks_lossSaid (by decide) cause)

theorem Dev.keepsClocks_chanFallen {n : Nat} (hn : n < 8) : Dev.KeepsClocks d (d.chanFallen n) := by
  have hPixel : Dev.KeepsClocks d (if d.on (F.CHn_PXS_STATUS.locked n) = true then d.pxsLost n 3 true else d) := .ite (Dev.keepsClocks_pxsLost hn 3 true) .refl
  exact .ite (hPixel.trans (Dev.keepsClocks_blLoopLost hn)) hPixel

theorem Dev.keepsClocks_spoilPicked (cause d1 : Nat) : Dev.KeepsClocks d (d.spoilPicked cause d1) :=
  .ofStays (Dev.Stays.refl.each _ _ fun _ k _ => Dev.Stays.refl.spoil k cause 0xFF d1)

theorem Dev.keepsClocks_ringFallen : Dev.KeepsClocks d d.ringFallen := by
  unfold Dev.ringFallen
  split
  next hAligned =>
    have hLost : d.rxLockLost .signal = d.rxLost := by
      rw [Dev.rxLockLost, if_neg (by simp [Dev.lossCounts])]
      simp only [hAligned]
    rw [hLost]
    exact Dev.keepsClocks_rxLost
  next => exact Dev.keepsClocks_rxDetect
  next => exact Dev.keepsClocks_rxDetect
  next => exact .refl

theorem Dev.lost_core (h : d.loopLocked 0 = true) (cause : Nat) : Dev.Lost 0 d (d.loopLost 0 cause true) := by
  rw [Dev.loopLost_core h]
  have hFallen := Dev.unlocking_coreFallen (d := d) cause
  generalize d.coreFallen cause = e at hFallen ⊢
  exact (hFallen.keeps (.ofStays (Dev.Stays.refl.each _ _ fun _ k _ => Dev.Stays.refl.spoil k 0x45 0xFF 0))).lost (by decide)

theorem Dev.lost_base (h : d.loopLocked 1 = true) (cause : Nat) : Dev.Lost 1 d (d.loopLost 1 cause true) := by
  rw [Dev.loopLost_base h]
  have hFallen := Dev.unlocking_baseFallen (d := d) cause
  generalize d.baseFallen cause = e at hFallen ⊢
  exact (((hFallen.keeps (Dev.keepsClocks_spoilPicked _ _)).keeps (Dev.KeepsClocks.refl.each _ _ fun _ _ hn => Dev.keepsClocks_chanFallen (List.mem_range.1 hn))).keeps
    Dev.keepsClocks_desync).lost (by decide)

theorem Dev.keepsClocks_memUntrained : Dev.KeepsClocks d d.memUntrained := by
  have hLost : Dev.KeepsClocks d d.memLost := Dev.KeepsClocks.refl.ofRegs rfl
  exact hLost.put F.MEM_STATUS.trained 0 (by decide) (by decide)

theorem Dev.lost_mem (h : d.loopLocked 2 = true) (cause : Nat) : Dev.Lost 2 d (d.loopLost 2 cause true) := by
  rw [Dev.loopLost_mem h]
  exact ((((Dev.unlocking_lossCounted (by decide)).keeps Dev.keepsClocks_memUntrained).keeps (Dev.KeepsClocks.refl.lockSaid (by decide) true)).keeps
    (Dev.KeepsClocks.refl.report 19 0 0 (by decide))).lost (by decide)

theorem Dev.lost_ring (h : d.loopLocked 3 = true) (cause : Nat) : Dev.Lost 3 d (d.loopLost 3 cause true) := by
  rw [Dev.loopLost_ring h]
  exact ((((Dev.unlocking_lossCounted (by decide)).keeps Dev.keepsClocks_ringFallen).keeps (Dev.keepsClocks_twnLaneDown 0)).keeps (Dev.keepsClocks_twnLaneDown 1)).lost
    (by decide)

theorem Dev.lost_host (h : d.loopLocked 4 = true) (cause : Nat) : Dev.Lost 4 d (d.loopLost 4 cause true) := by
  rw [Dev.loopLost_host h]
  exact (((Dev.unlocking_lossCounted (by decide)).keeps (Dev.KeepsClocks.refl.lockSaid (by decide) true)).keeps (Dev.keepsClocks_linkDown _)).lost (by decide)

theorem Dev.locked_pxsSaid (n : Fin 8) (cause : Nat) (said : Bool) :
    (d.pxsSaid n cause said).on (F.CHn_PXS_STATUS.locked n) = d.on (F.CHn_PXS_STATUS.locked n) := by
  have hOwn (x : Dev) : (x.ownLoss n 2).on (F.CHn_PXS_STATUS.locked n) = x.on (F.CHn_PXS_STATUS.locked n) := by
    refine Frame.on (ps := withdrawParts n) (Frame.ite (Frame.withdraw_ Frame.refl n 2 fun _ h => h) Frame.refl) _ ?_
    simp only [withdrawParts, gateParts, irqParts, List.mem_append, List.mem_cons, List.not_mem_nil, or_false, Part.reg.injEq,
      reduceCtorEq, false_or, R.CHn_BLP_STATUS, R.CHn_FGT_STATUS, R.CHn_FGT_COUNTS, R.CHn_FGT_IRQ_STATUS, R.CHn_BLP_IRQ_STATUS, R.MSIX_PBA,
      F.CHn_PXS_STATUS.locked, R.CHn_PXS_STATUS]
    omega
  cases said with
  | false => rfl
  | true =>
    rw [Dev.pxsSaid, if_pos rfl, hOwn, Dev.on_report_ne _ _ _ _ _ (by simp only [F.CHn_PXS_STATUS.locked, R.CHn_PXS_STATUS, R.FLT_SRCi_STATE]; omega),
      Dev.on_put_other _ (F.CHn_PXS_STATUS.lock_lost n) (F.CHn_PXS_STATUS.locked n) _ rfl rfl rfl rfl]

theorem Dev.lost_pixel (n : Fin 8) (h : d.loopLocked (8 + n) = true) (cause : Nat) : Dev.Lost (8 + n) d (d.loopLost (8 + n) cause true) := by
  have hKeeps := Dev.keepsClocks_pxsLost (d := d) n.isLt cause true
  rw [Dev.loopLost_pixel h n.isLt]
  refine ⟨?_, hKeeps.monitor, hKeeps.power, hKeeps.event⟩
  have hLocked (e : Dev) : e.loopLocked (8 + n) = e.on (F.CHn_PXS_STATUS.locked n) := by
    rw [Dev.loopLocked, if_neg (by omega), if_neg (by omega), if_pos (by omega), show 8 + n.val - 8 = n by omega]
  have hMarked (x : Dev) : (x.lockSaid (8 + n) true).on (F.CHn_PXS_STATUS.locked n) = x.on (F.CHn_PXS_STATUS.locked n) := by
    have hSource := lockSource_lt (i := 8 + n) (by omega)
    refine Frame.on (Dev.frame_lockSaid _ _) _ ?_
    simp only [activeParts, List.mem_append, List.mem_cons, List.not_mem_nil, or_false, reduceCtorEq, Part.reg.injEq, false_or, R.FLT_SRCi_STATE, R.FLT_ACTIVE,
      F.CHn_PXS_STATUS.locked, R.CHn_PXS_STATUS]
    omega
  rw [hLocked, Dev.pxsLost_eq, ((Dev.Spares.refl.gate n.isLt).dropFromSheets n.isLt 0x44 0).locked, hMarked, Dev.locked_pxsSaid]
  exact Dev.relocking_relockBegun.locked

theorem Dev.lost_beam {n : Nat} (hn : n < 8) (h : d.loopLocked (16 + n) = true) (cause : Nat) : Dev.Lost (16 + n) d (d.loopLost (16 + n) cause true) := by
  have hKeeps := Dev.keepsClocks_blLoopLost (d := d) hn
  rw [Dev.loopLost_beam h]
  refine ⟨?_, hKeeps.monitor, hKeeps.power, hKeeps.event⟩
  have hLocked (e : Dev) : e.loopLocked (16 + n) = bit e.clk.blLocked n := by
    rw [Dev.loopLocked, if_neg (by omega), if_neg (by omega), if_neg (by omega), show 16 + n - 16 = n by omega]
  have hPort (x : Dev) : (x.blpLoopLost n).clk = x.clk := Dev.frame_blpLoopLost n Part.clk (by simp [beamLossParts, portParts, gateParts, irqParts, blpBit, strobeParts])
  rw [hLocked, Dev.blLoopLost_eq, hPort, Dev.clk_lockSaid]
  exact bit_putBits_same d.clk.blLocked n false

theorem Dev.lost_loopLost {i : Fin 24} (hPowered : d.loopPowered i = true) (h : d.loopLocked i = true) (cause : Nat) : Dev.Lost i d (d.loopLost i cause true) := by
  obtain ⟨i, hi⟩ := i
  by_cases hBeam : 16 ≤ i
  · obtain ⟨n, rfl⟩ : ∃ n, i = 16 + n := ⟨i - 16, by omega⟩
    exact Dev.lost_beam (by omega) h cause
  · by_cases hPixel : 8 ≤ i
    · obtain ⟨n, rfl⟩ : ∃ n, i = 8 + n := ⟨i - 8, by omega⟩
      exact Dev.lost_pixel ⟨n, by omega⟩ h cause
    · match i, hi with
      | 0, _ => exact Dev.lost_core h cause
      | 1, _ => exact Dev.lost_base h cause
      | 2, _ => exact Dev.lost_mem h cause
      | 3, _ => exact Dev.lost_ring h cause
      | 4, _ => exact Dev.lost_host h cause
      | i + 5, _ =>
        rw [Dev.loopPowered, if_neg (by simp), if_neg (by simp), if_neg (by simp), if_pos (by simp; omega)] at hPowered
        exact absurd hPowered (by simp)

end
end Sys2Proof.Machine
end

-- ==== Sitting: a clock loop that locks ====
section
/-! SUPPORT. A loop that declares lock, and the loss of the core loop in particular. -/
open Sys2Proof Sys2Proof.Machine Sys2Proof.Claims
set_option maxRecDepth 20000

namespace Sys2Proof.Machine

/-! ### Declaring lock (R353, R354) -/

section
variable {d e : Dev} {i : Nat}

/-- A loop that can declare lock. -/
abbrev Dev.lockable (d : Dev) (i : Nat) : Prop := d.loopPowered i = true ∧ d.loopRef i = true ∧ d.loopLocked i = false

/-- The moment of the loss is forgotten, and that the re-lock was slow. -/
def Dev.lossOver (d : Dev) (i : Nat) : Dev := { d with clk := { d.clk with lostAt := Store.set 0 d.clk.lostAt i 0, slow := putBits d.clk.slow i i 0 } }

/-- The monitor of a loop clears. -/
def Dev.monCleared (d : Dev) (i : Nat) : Dev := if monBit i < 15 then d.wr R.CLK_MON_STATUS (putBits (d.rd R.CLK_MON_STATUS) (monBit i) (monBit i) 0) else d

/-- A loop is about to lock: its loss is over, its monitor clear. -/
def Dev.lockBegun (d : Dev) (i : Nat) : Dev := ((d.lossOver i).lockSaid i false).monCleared i

/-- The microseconds that a loop's domain was on the safe clock. -/
def Dev.fallbackUs (d : Dev) (i : Nat) : Nat := if Store.get 0 d.clk.lostAt i = 0 then 0 else (d.sys.now8 + 1 - Store.get 0 d.clk.lostAt i) / 125

/-- A loop of the core slice shows its lock. -/
def Dev.lockShown (d : Dev) (i : Nat) : Dev := (d.lockBegun i).putBit F.CLK_STATUS.locked i true

/-- Engine time runs. -/
def Dev.timeRuns (d : Dev) : Dev := { d with evt := { d.evt with running := true } }

/-- The SerDes loop of a port is locked. -/
def Dev.beamLocked (d : Dev) (n : Nat) : Dev := { d with clk := { d.clk with blLocked := putBits d.clk.blLocked n n 1 } }

theorem Dev.lockable.open (h : d.lockable i) : ¬(!d.loopPowered i || d.loopLocked i || !d.loopRef i) = true := by
  obtain ⟨hPowered, hRef, hLocked⟩ := h
  simp [hPowered, hRef, hLocked]

theorem Dev.loopLock_core (h : d.lockable 0) :
    d.loopLock 0 = (((d.lockShown 0).put F.CLK_STATUS.core_fb 0).clkEvent 1).put (F.CLK_LOOPi_COUNTS.last_fb_us 0) (min (d.fallbackUs 0) 0xFFFF) := by
  unfold Dev.loopLock
  rw [if_neg h.open]
  rfl

theorem Dev.loopLock_base (h : d.lockable 1) :
    d.loopLock 1 = (((((d.lockShown 1).timeRuns.put F.CLK_MON_STATUS.motion 0).put F.CLK_STATUS.tbase_fb 0).put F.CLK_STATUS.motion_fb 0).clkEvent 1).put
      (F.CLK_LOOPi_COUNTS.last_fb_us 1) (min (d.fallbackUs 1) 0xFFFF) := by
  unfold Dev.loopLock
  rw [if_neg h.open]
  rfl

theorem Dev.loopLock_other (h : d.lockable i) (hi : i = 2 ∨ i = 3 ∨ i = 4) : d.loopLock i = d.lockShown i := by
  unfold Dev.loopLock
  rw [if_neg h.open]
  rcases hi with rfl | rfl | rfl <;> rfl

theorem Dev.loopLock_pixel (h : d.lockable i) (hLo : 8 ≤ i) (hHi : i < 16) :
    d.loopLock i = (((d.lockBegun i).put (F.CHn_PXS_STATUS.locked (i - 8)) 1).clkEvent 1).gate (i - 8) := by
  unfold Dev.loopLock
  rw [if_neg h.open]
  extract_lets us a b n c
  rw [if_neg (by omega), if_pos hLo]
  rfl

theorem Dev.loopLock_beam (h : d.lockable i) (hi : 16 ≤ i) : d.loopLock i = ((d.lockBegun i).beamLocked (i - 16)).blpLoopLocked (i - 16) := by
  unfold Dev.loopLock
  rw [if_neg h.open]
  extract_lets us a b n c
  rw [if_pos hi]
  rfl

theorem Dev.loopLock_closed (h : d.loopPowered i = false ∨ d.loopLocked i = true ∨ d.loopRef i = false) : d.loopLock i = d := by
  unfold Dev.loopLock
  exact if_pos (by rcases h with h | h | h <;> simp [h])

theorem Dev.frame_monCleared : Dev.Frame [Part.reg R.CLK_MON_STATUS.off] d (d.monCleared i) := Frame.ite (Frame.wr Frame.refl _ _ (by simp)) Frame.refl

theorem Dev.frame_lockBegun : Dev.Frame (lockParts ++ activeParts (lockSource i)) d (d.lockBegun i) := by
  have hOver : Dev.Frame [Part.clk] d (d.lossOver i) := Frame.setClk Frame.refl _ (by simp)
  exact Frame.trans (Frame.trans (Frame.mono hOver (by simp [lockParts])) (Frame.mono (Dev.frame_lockSaid i false) (by simp +contextual [lockParts])))
    (Frame.mono Dev.frame_monCleared (by simp [lockParts]))

theorem Dev.clk_lockBegun : (d.lockBegun i).clk = ((d.lossOver i).lossMarked i false).clk := by
  have hClear (x : Dev) : (x.monCleared i).clk = x.clk := Dev.frame_monCleared Part.clk (by simp)
  rw [Dev.lockBegun, hClear, Dev.clk_lockSaid]

theorem Dev.lostAt_lockBegun : Store.get 0 (d.lockBegun i).clk.lostAt i = 0 := by
  rw [Dev.clk_lockBegun]
  exact Store.get_set_same 0 d.clk.lostAt i 0

theorem Dev.said_lockBegun : bit (d.lockBegun i).clk.said i = false := by
  rw [Dev.clk_lockBegun]
  exact bit_putBits_same d.clk.said i false

theorem Dev.monitor_lockBegun (hi : monBit i < 15) : bit ((d.lockBegun i).rd R.CLK_MON_STATUS) (monBit i) = false := by
  rw [Dev.lockBegun, Dev.monCleared, if_pos hi, Dev.rd_wr_same, bit_mod _ _ _ (by omega), bit_mod _ _ _ (by simp only [R.CLK_MON_STATUS]; omega)]
  exact bit_putBits_same _ _ false

theorem Dev.frame_lockShown : Dev.Frame ([Part.reg R.CLK_STATUS.off] ++ lockParts ++ activeParts (lockSource i)) d (d.lockShown i) :=
  Frame.putBit (Frame.mono Dev.frame_lockBegun (by simp +contextual)) _ _ _ (by simp [F.CLK_STATUS.locked])

theorem Dev.bit_lockShown {j : Nat} (hj : j < 5) : bit ((d.lockShown i).get F.CLK_STATUS.locked) j = if j = i then true else bit (d.get F.CLK_STATUS.locked) j := by
  have hSame : (d.lockBegun i).get F.CLK_STATUS.locked = d.get F.CLK_STATUS.locked := Frame.get Dev.frame_lockBegun _ (by
    simp only [lockParts, activeParts, List.mem_append, List.mem_cons, List.not_mem_nil, or_false, reduceCtorEq, Part.reg.injEq, false_or, R.FLT_SRCi_STATE,
      R.FLT_ACTIVE, F.CLK_STATUS.locked, R.CLK_STATUS, R.CLK_MON_STATUS]
    omega)
  rw [Dev.lockShown, Dev.bit_putBit _ _ _ _ rfl (by simp only [F.CLK_STATUS.locked]; omega), hSame]

theorem Dev.clk_lockShown : (d.lockShown i).clk = (d.lockBegun i).clk := rfl
theorem Dev.monitor_lockShown : (d.lockShown i).rd R.CLK_MON_STATUS = (d.lockBegun i).rd R.CLK_MON_STATUS := Dev.rd_put_ne _ _ _ _ (by decide)

/-- Setting an event shows it. -/
theorem Dev.bit_clkEvent (k : Nat) (hk : k < 32) : bit ((d.clkEvent k).rd R.CLK_EVENTS) k = true := by
  rw [Dev.clkEvent, Dev.rd_wr_same, bit_mod _ _ _ (by omega), bit_mod _ _ _ (by simpa [R.CLK_EVENTS] using hk)]
  exact bit_putBits_same _ k true

theorem Dev.loopLocked_congr (hStatus : e.rd R.CLK_STATUS = d.rd R.CLK_STATUS) (hPixel : ∀ n < 8, e.rd (R.CHn_PXS_STATUS n) = d.rd (R.CHn_PXS_STATUS n))
    (hClk : e.clk.blLocked = d.clk.blLocked) : e.loopLocked i = d.loopLocked i := by
  unfold Dev.loopLocked
  split
  · rw [Dev.get, Dev.get, F.CLK_STATUS.locked, hStatus]
  · split
    · rfl
    · split
      · rw [Dev.on, Dev.on, Dev.get, Dev.get, F.CHn_PXS_STATUS.locked, hPixel _ (by omega)]
      · rw [hClk]

theorem Dev.loopLocked_of_get (hi : i < 5) (h : e.get F.CLK_STATUS.locked = d.get F.CLK_STATUS.locked) : e.loopLocked i = d.loopLocked i := by
  rw [Dev.loopLocked, if_pos hi, h, Dev.loopLocked, if_pos hi]

theorem Dev.loopLocked_lockShown (hi : i < 5) : (d.lockShown i).loopLocked i = true := by
  rw [Dev.loopLocked, if_pos hi, Dev.bit_lockShown hi, if_pos rfl]

end

/-! ### The loss of the core loop -/

section
variable {d e : Dev}

/-- What the loss of the core loop changes. -/
def coreLossParts : List Part :=
  [Part.clk, Part.reg R.CLK_STATUS.off, Part.reg R.CLK_EVENTS.off, Part.reg (R.CLK_LOOPi_COUNTS 0).off] ++ strobeParts 23 ++ activeParts 23

theorem Dev.frame_lossCounted (i : Nat) : Dev.Frame [Part.clk, Part.reg R.CLK_STATUS.off, Part.reg (R.CLK_LOOPi_COUNTS i).off] d (d.lossCounted i) :=
  Frame.setClk (Frame.count (Frame.putBit Frame.refl _ _ _ (by simp [F.CLK_STATUS.locked])) _ _ (by simp [F.CLK_LOOPi_COUNTS.losses])) _ (by simp)

theorem Dev.losses_lossCounted (i : Nat) : (d.lossCounted i).get (F.CLK_LOOPi_COUNTS.losses i) = min (d.get (F.CLK_LOOPi_COUNTS.losses i) + 1) (2 ^ 16 - 1) := by
  have hNe : (F.CLK_LOOPi_COUNTS.losses i).reg.off ≠ F.CLK_STATUS.locked.reg.off := by
    simp only [F.CLK_LOOPi_COUNTS.losses, R.CLK_LOOPi_COUNTS, F.CLK_STATUS.locked, R.CLK_STATUS]; omega
  have hCount : (d.lossCounted i).get (F.CLK_LOOPi_COUNTS.losses i) =
      ((d.putBit F.CLK_STATUS.locked i false).count (F.CLK_LOOPi_COUNTS.losses i)).get (F.CLK_LOOPi_COUNTS.losses i) := rfl
  rw [hCount, Dev.get_count_same _ _ _ rfl, Dev.putBit, Dev.get_put_ne _ _ _ _ hNe]
  rfl

/-- The core loop is unlocked and its domain on the safe clock, nothing said yet. -/
def Dev.coreSafe (d : Dev) : Dev := ((d.lossCounted 0).put F.CLK_STATUS.core_fb 1).clkEvent 2

theorem Dev.coreFallen_eq (cause : Nat) : d.coreFallen cause = d.coreSafe.lossSaid 0 cause := rfl

theorem Dev.frame_coreSafe : Dev.Frame [Part.clk, Part.reg R.CLK_STATUS.off, Part.reg R.CLK_EVENTS.off, Part.reg (R.CLK_LOOPi_COUNTS 0).off] d d.coreSafe :=
  Frame.wr (Frame.put (Frame.mono (Dev.frame_lossCounted 0) (by simp)) _ _ (by simp [F.CLK_STATUS.core_fb])) _ _ (by simp)

theorem Dev.frame_coreFallen (cause : Nat) : Dev.Frame coreLossParts d (d.coreFallen cause) := by
  rw [Dev.coreFallen_eq]
  exact Frame.trans (Frame.mono Dev.frame_coreSafe (by simp [coreLossParts])) (Frame.mono (Dev.frame_lossSaid 0 cause) (by
    simp only [lossSaidParts, coreLossParts, show lockSource 0 = 23 from rfl, List.mem_append, List.mem_cons]
    tauto))

theorem Dev.on_coreFallen (cause : Nat) : (d.coreFallen cause).on F.CLK_STATUS.core_fb = true := by
  have hSafe : d.coreSafe.on F.CLK_STATUS.core_fb = ((d.lossCounted 0).put F.CLK_STATUS.core_fb 1).on F.CLK_STATUS.core_fb :=
    Dev.on_wr_ne _ _ _ _ (by decide)
  rw [Dev.coreFallen_eq, Dev.on, Dev.get, Dev.rd_lossSaid _ _ (by decide), ← Dev.get, ← Dev.on, hSafe]
  exact Dev.on_putB_same _ F.CLK_STATUS.core_fb true rfl

theorem Dev.event_coreFallen (cause : Nat) : bit ((d.coreFallen cause).rd R.CLK_EVENTS) 2 = true := by
  rw [Dev.coreFallen_eq, Dev.rd_lossSaid _ _ (by decide), Dev.coreSafe]
  exact Dev.bit_clkEvent 2 (by decide)

theorem Dev.losses_coreFallen (cause : Nat) : (d.coreFallen cause).get (F.CLK_LOOPi_COUNTS.losses 0) = min (d.get (F.CLK_LOOPi_COUNTS.losses 0) + 1) (2 ^ 16 - 1) := by
  rw [Dev.coreFallen_eq, Dev.get, Dev.rd_lossSaid _ _ (by decide), ← Dev.get, Dev.coreSafe, Dev.clkEvent, Dev.get_wr_ne _ _ _ _ (by decide),
    Dev.get_put_ne _ _ _ _ (by decide), Dev.losses_lossCounted]

theorem Dev.strobed_coreFallen (cause : Nat) : strobed d (d.coreFallen cause) 23 (0x80 * 2 ^ 24 + cause) (d.now % 2 ^ 32) := by
  have hNow : d.coreSafe.now = d.now := Frame.rd Dev.frame_coreSafe _ (by decide)
  rw [Dev.coreFallen_eq, ← hNow, show 0x80 * 2 ^ 24 + cause = 0x80 * 2 ^ 24 + 0 * 2 ^ 16 + cause by omega]
  exact strobed_before Dev.frame_coreSafe (Dev.strobed_lockSaid true _ _) (by decide) (by decide)

theorem Dev.active_coreFallen (cause : Nat) : (d.coreFallen cause).on (F.FLT_SRCi_STATE.active 23) = true := by
  rw [Dev.coreFallen_eq, Dev.lossSaid]
  exact (Dev.on_report_source _ _ _ _).trans (Dev.on_lockSaid (by decide))

theorem Dev.hurtSheets_none (h : ∀ k < 32, d.shtState k ≠ 3) : d.hurtSheets = [] := by
  refine List.filter_eq_nil_iff.2 fun k hk => ?_
  simp [h k (List.mem_range.1 hk)]

theorem Dev.loopLost_core_noSheet (h : d.loopLocked 0 = true) (hNone : ∀ k < 32, d.shtState k ≠ 3) (cause : Nat) : d.loopLost 0 cause true = d.coreFallen cause := by
  have hSame (k : Nat) : (d.coreFallen cause).shtState k = d.shtState k := Frame.get (Dev.frame_coreFallen cause) (F.SHT_Dd_STATE.state k) (by
    simp only [coreLossParts, strobeParts, activeParts, List.mem_append, List.mem_cons, List.not_mem_nil, or_false, reduceCtorEq, Part.reg.injEq, false_or,
      R.FLT_SRCi_STATE, R.FLT_ACTIVE, R.CLK_STATUS, R.CLK_EVENTS, R.CLK_LOOPi_COUNTS, F.SHT_Dd_STATE.state, R.SHT_Dd_STATE]
    omega)
  rw [Dev.loopLost_core h, Dev.hurtSheets_none fun k hk => hSame k ▸ hNone k hk, Dev.each, List.foldl_nil]

end

/-! ### A monitor trips (R355) -/

section
variable {d : Dev} {i : Nat}

/-- A trip as the monitor registers show it. -/
def Dev.monShown (d : Dev) (i : Nat) : Dev :=
  let d := (d.wr R.CLK_MON_STATUS (putBits (d.rd R.CLK_MON_STATUS) (monBit i) (monBit i) 1)).clkEvent 4
  if i = 1 then d.put F.CLK_MON_STATUS.motion 1 else d

theorem Dev.monTrip_eq (hMon : monBit i < 15) (hPowered : d.loopPowered i = true)
    (hCheck : (if i < 5 then d.on F.CLK_STATUS.refclk_good else d.loopLocked 1) = true) : d.monTrip i = (d.monShown i).loopLost i 2 true := by
  unfold Dev.monTrip
  extract_lets checked
  rw [if_neg (by simp [hPowered, checked, hCheck]; omega)]
  rfl

theorem Dev.frame_monShown : Dev.Frame [Part.reg R.CLK_MON_STATUS.off, Part.reg R.CLK_EVENTS.off] d (d.monShown i) := by
  have hShown : Dev.Frame [Part.reg R.CLK_MON_STATUS.off, Part.reg R.CLK_EVENTS.off] d
      ((d.wr R.CLK_MON_STATUS (putBits (d.rd R.CLK_MON_STATUS) (monBit i) (monBit i) 1)).clkEvent 4) :=
    Frame.wr (Frame.wr Frame.refl _ _ (by simp)) _ _ (by simp)
  exact Frame.ite (Frame.put hShown _ _ (by simp [F.CLK_MON_STATUS.motion])) hShown

theorem Dev.monitor_monShown (hMon : monBit i < 15) : bit ((d.monShown i).rd R.CLK_MON_STATUS) (monBit i) = true := by
  have hBit : bit (((d.wr R.CLK_MON_STATUS (putBits (d.rd R.CLK_MON_STATUS) (monBit i) (monBit i) 1)).clkEvent 4).rd R.CLK_MON_STATUS) (monBit i) = true := by
    rw [Dev.clkEvent, Dev.rd_wr_ne _ _ _ _ (by decide), Dev.rd_wr_same, bit_mod _ _ _ (by omega), bit_mod _ _ _ (by simp only [R.CLK_MON_STATUS]; omega)]
    exact bit_putBits_same _ _ true
  have hMotion (x : Dev) : bit ((x.put F.CLK_MON_STATUS.motion 1).rd R.CLK_MON_STATUS) 2 = bit (x.rd R.CLK_MON_STATUS) 2 := by
    have hRd := Dev.rd_wr_same x R.CLK_MON_STATUS (putBits (x.rd R.CLK_MON_STATUS) 3 3 1)
    rw [← bit_putBits_ne (x.rd R.CLK_MON_STATUS) 3 3 1 2 (by decide) (by decide)]
    refine (congrArg (bit · 2) hRd).trans ?_
    exact (bit_mod _ _ _ (by decide)).trans (bit_mod _ _ _ (by decide))
  unfold Dev.monShown
  dsimp only
  split
  next h1 =>
    subst h1
    exact (hMotion _).trans hBit
  next => exact hBit

theorem Dev.event_monShown : bit ((d.monShown i).rd R.CLK_EVENTS) 4 = true := by
  unfold Dev.monShown
  dsimp only
  split
  · rw [Dev.rd_put_ne _ _ _ _ (by decide)]
    exact Dev.bit_clkEvent 4 (by decide)
  · exact Dev.bit_clkEvent 4 (by decide)

theorem Dev.loopLocked_monShown (j : Nat) : (d.monShown i).loopLocked j = d.loopLocked j :=
  Dev.loopLocked_congr (Frame.rd Dev.frame_monShown _ (by decide)) (fun n _ => Frame.rd Dev.frame_monShown _ (by
    simp only [List.mem_cons, List.not_mem_nil, or_false, Part.reg.injEq, R.CHn_PXS_STATUS, R.CLK_MON_STATUS, R.CLK_EVENTS]
    omega)) (congrArg ClkSt.blLocked (Dev.frame_monShown Part.clk (by simp)))

end
/-! ### A slow re-lock (R358) -/

section
variable {d : Dev} {a : Nat} {i : Fin 24}

/-- A re-lock is marked as slow. -/
def Dev.slowMarked (d : Dev) (i : Nat) : Dev := { d with clk := { d.clk with slow := putBits d.clk.slow i i 1 } }

/-- The event of a slow re-lock shows, and the host port counts its loop's. -/
def Dev.lateShown (d : Dev) (i : Nat) : Dev := ((d.slowMarked i).clkEvent 5).when (i = 4) (·.count F.SYS_CFG_HOST_COUNTS.errors)

/-- The time has come by which a loop lost at a should have locked. -/
def Dev.lateRelock (d : Dev) (i a : Nat) : Dev := (d.advance8To (a + 2500000)).lateShown i

/-- A slow re-lock is said. -/
def Dev.lateSaid (d : Dev) (i : Nat) : Dev := (d.lockSaid i true).report (lockSource i) (0x83 <<< 24 + i <<< 16 + min (d.lossesOf i) 0xFFFF) (d.rd R.CLK_STATUS)

/-- What the late moment changes before it is said. -/
def lateParts (i : Nat) : List Part := [Part.clk, Part.reg R.CLK_EVENTS.off] ++ (if i = 4 then [Part.reg R.SYS_CFG_HOST_COUNTS.off] else []) ++ timeParts

theorem Dev.frame_lateRelock : Dev.Frame (lateParts i) d (d.lateRelock i a) := by
  have hEvent : Dev.Frame (lateParts i) d (((d.advance8To (a + 2500000)).slowMarked i).clkEvent 5) :=
    Frame.wr (Frame.setClk (Frame.advance8To Frame.refl _ (by simp +contextual [lateParts])) _ (by simp [lateParts])) _ _ (by simp [lateParts])
  unfold Dev.lateRelock Dev.lateShown Dev.when
  split
  next h4 =>
    simp only [decide_eq_true_eq] at h4
    exact Frame.count hEvent _ _ (by simp [lateParts, h4, F.SYS_CFG_HOST_COUNTS.errors])
  next => exact hEvent

theorem Dev.rd_lateRelock (r : Reg) (h : r.off ∉ [R.CLK_EVENTS.off, R.SYS_CFG_HOST_COUNTS.off, R.EVT_TIME.off, R.SYS_SECONDS.off]) :
    (d.lateRelock i a).rd r = d.rd r := by
  refine Frame.rd Dev.frame_lateRelock r ?_
  simp only [List.mem_cons, List.not_mem_nil, or_false, not_or] at h
  unfold lateParts
  split <;> simp [timeParts, h]

theorem Dev.now8_lateRelock : (d.lateRelock i a).sys.now8 = max d.sys.now8 (a + 2500000) := by
  have hShown (x : Dev) : (x.lateShown i).sys.now8 = x.sys.now8 := by
    unfold Dev.lateShown Dev.when
    split <;> rfl
  rw [← Dev.now8_advance8To, Dev.lateRelock, hShown]

theorem Dev.slow_lateRelock : bit (d.lateRelock i a).clk.slow i = true := by
  have hShown (x : Dev) : (x.lateShown i).clk = (x.slowMarked i).clk := by
    unfold Dev.lateShown Dev.when
    split <;> rfl
  rw [Dev.lateRelock, hShown]
  exact bit_putBits_same (d.advance8To (a + 2500000)).clk.slow i true

theorem Dev.event_lateRelock : bit ((d.lateRelock i a).rd R.CLK_EVENTS) 5 = true := by
  rw [Dev.lateRelock]
  generalize d.advance8To (a + 2500000) = x
  unfold Dev.lateShown Dev.when
  split
  · have hCount (y : Dev) : (y.count F.SYS_CFG_HOST_COUNTS.errors).rd R.CLK_EVENTS = y.rd R.CLK_EVENTS := Dev.rd_put_ne _ _ _ _ (by decide)
    exact (congrArg (bit · 5) (hCount _)).trans (Dev.bit_clkEvent 5 (by decide))
  · exact Dev.bit_clkEvent 5 (by decide)

theorem Dev.errors_lateRelock (h : i.val = 4) : (d.lateRelock i a).get F.SYS_CFG_HOST_COUNTS.errors = min (d.get F.SYS_CFG_HOST_COUNTS.errors + 1) (2 ^ 16 - 1) := by
  have hSame : (((d.advance8To (a + 2500000)).slowMarked i).clkEvent 5).get F.SYS_CFG_HOST_COUNTS.errors = d.get F.SYS_CFG_HOST_COUNTS.errors :=
    Frame.get (ps := [Part.clk, Part.reg R.CLK_EVENTS.off] ++ timeParts)
      (Frame.wr (Frame.setClk (Frame.advance8To Frame.refl _ (by simp +contextual)) _ (by simp)) _ _ (by simp)) _ (by decide)
  rw [← hSame]
  rw [Dev.lateRelock, Dev.lateShown, Dev.when, if_pos (decide_eq_true h)]
  exact Dev.get_count_same _ F.SYS_CFG_HOST_COUNTS.errors 1 rfl

theorem Dev.lossesOf_lateRelock : (d.lateRelock i a).lossesOf i = d.lossesOf i := by
  have hBeam : (d.lateRelock i a).clk.blLosses = d.clk.blLosses := by
    have hTime : (d.advance8To (a + 2500000)).clk = d.clk := (Frame.advance8To (ps := timeParts) Frame.refl _ fun _ h => h) Part.clk (by simp [timeParts])
    have hShown (x : Dev) : (x.lateShown i).clk.blLosses = x.clk.blLosses := by
      unfold Dev.lateShown Dev.when
      split <;> rfl
    rw [← hTime, Dev.lateRelock, hShown]
  unfold Dev.lossesOf
  split
  · rw [Dev.get, Dev.get, Dev.rd_lateRelock]
    simp only [F.CLK_LOOPi_COUNTS.losses, R.CLK_LOOPi_COUNTS, R.CLK_EVENTS, R.SYS_CFG_HOST_COUNTS, R.EVT_TIME, R.SYS_SECONDS, List.mem_cons, List.not_mem_nil, or_false]
    omega
  · split
    · rw [Dev.get, Dev.get, Dev.rd_lateRelock]
      simp only [F.CHn_PXS_STATUS.relocks, R.CHn_PXS_STATUS, R.CLK_EVENTS, R.SYS_CFG_HOST_COUNTS, R.EVT_TIME, R.SYS_SECONDS, List.mem_cons, List.not_mem_nil, or_false]
      omega
    · rw [hBeam]

theorem Dev.frame_lateSaid : Dev.Frame (lossSaidParts i) d (d.lateSaid i) :=
  Frame.report (Frame.mono (Dev.frame_lockSaid i true) (by simp [lossSaidParts]; grind)) _ _ _ (by simp [lossSaidParts, strobeParts])
    (by simp [lossSaidParts, strobeParts])

theorem Dev.rd_lateSaid (r : Reg) (hr : r.off < 0xe0000) : (d.lateSaid i).rd r = d.rd r :=
  Frame.rd Dev.frame_lateSaid r (by
    simp only [lossSaidParts, strobeParts, activeParts, List.mem_append, List.mem_cons, List.not_mem_nil, or_false, reduceCtorEq, Part.reg.injEq, false_or,
      R.FLT_SRCi_STATE, R.FLT_ACTIVE]
    omega)

theorem Dev.strobed_lateSaid :
    strobed d (d.lateSaid i) (lockSource i) (0x83 * 2 ^ 24 + i * 2 ^ 16 + min (d.lossesOf i) 65535) (d.rd R.CLK_STATUS) := by
  rw [show 0x83 * 2 ^ 24 + i.val * 2 ^ 16 + min (d.lossesOf i) 65535 = 0x83 <<< 24 + i.val <<< 16 + min (d.lossesOf i) 0xFFFF by omega]
  exact Dev.strobed_lockSaid true _ _

theorem Dev.active_lateSaid : (d.lateSaid i).on (F.FLT_SRCi_STATE.active (lockSource i)) = true :=
  (Dev.on_report_source _ _ _ _).trans (Dev.on_lockSaid (by omega))

theorem Dev.clk_lateSaid : (d.lateSaid i).clk.slow = d.clk.slow := by
  have hReport : (d.lateSaid i).clk = (d.lockSaid i true).clk := (Frame.report (ps := strobeParts (lockSource i)) Frame.refl (lockSource i) _ _ (by simp [strobeParts])
    (by simp [strobeParts])) Part.clk (by simp [strobeParts])
  rw [hReport, Dev.clk_lockSaid]
  rfl

theorem Dev.now8_lateSaid : (d.lateSaid i).sys.now8 = d.sys.now8 :=
  Dev.frame_lateSaid (i := i) Part.clock (by simp [lossSaidParts, strobeParts, activeParts])

end
end Sys2Proof.Machine
end

-- ==== Sitting: clock loops (O48) ====
section
/-! PROOF. The obligation on the clock loops, assembled from the lemma on each command. -/
open Sys2Proof Sys2Proof.Machine Sys2Proof.Claims
set_option maxRecDepth 20000

namespace Sys2Proof.Proofs

section
variable {s : State} {i : Fin 24}

theorem completes_onSheets {c : Instr} {P : State → Prop} (f : Dev → Dev) (hExec : exec c s = s.onSheets f) (hIdle : (f s.dev).idleStart = false)
    (hP : P { s with dev := f s.dev }) : Completes (exec c s) P := by
  refine ⟨{ s with dev := f s.dev }, ?_, hP⟩
  rw [hExec, State.onSheets, State.idleCheck, if_neg (by simp [hIdle])]

/-! ### LOOP_LOCK (R353, R354) -/

theorem loopLock_closed (h : s.dev.loopPowered i = false ∨ s.dev.loopLocked i = true ∨ s.dev.loopRef i = false) : Completes (exec (.loopLock i) s) fun t => t = s := by
  refine completes_onDev (fun d => d.loopLock i) rfl ?_
  rw [Dev.loopLock_closed h]

theorem loopLock_core (hDomain : s.dev.domOn 0 = true) (hRef : s.dev.on F.CLK_STATUS.refclk_good = true) (hOpen : s.dev.loopLocked 0 = false) :
    Completes (exec (.loopLock 0) s) fun t =>
      t.dev.loopLocked 0 = true ∧ t.dev.on F.CLK_STATUS.core_fb = false ∧ bit (t.dev.rd R.CLK_EVENTS) 1 = true ∧ bit (t.dev.rd R.CLK_MON_STATUS) 1 = false ∧
      (Store.get 0 s.dev.clk.lostAt 0 ≠ 0 →
        t.dev.get (F.CLK_LOOPi_COUNTS.last_fb_us 0) = min ((s.dev.sys.now8 + 1 - Store.get 0 s.dev.clk.lostAt 0) / 125) 65535) ∧
      s.Frame ([Part.reg R.CLK_STATUS.off, Part.reg R.CLK_EVENTS.off, Part.reg (R.CLK_LOOPi_COUNTS 0).off] ++ lockParts ++ activeParts 23) t := by
  have hLockable : s.dev.lockable 0 := ⟨hDomain, hRef, hOpen⟩
  have hShown := Dev.frame_lockShown (d := s.dev) (i := 0)
  have hBit := Dev.loopLocked_lockShown (d := s.dev) (i := 0) (by decide)
  have hMon : bit ((s.dev.lockShown 0).rd R.CLK_MON_STATUS) 1 = false := by
    rw [Dev.monitor_lockShown]
    exact Dev.monitor_lockBegun (by decide)
  refine completes_onDev (fun d => d.loopLock 0) rfl ?_
  rw [Dev.loopLock_core hLockable]
  generalize s.dev.lockShown 0 = e at hShown hBit hMon
  have hFb (g : Fld) (hg : g.reg.off = R.CLK_STATUS.off) :
      (((e.put F.CLK_STATUS.core_fb 0).clkEvent 1).put (F.CLK_LOOPi_COUNTS.last_fb_us 0) (min (s.dev.fallbackUs 0) 0xFFFF)).get g =
        (e.put F.CLK_STATUS.core_fb 0).get g :=
    (Dev.get_put_ne _ _ _ _ (by rw [hg]; decide)).trans (Dev.get_wr_ne _ _ _ _ (by rw [hg]; decide))
  refine ⟨(Dev.loopLocked_of_get (by decide) ?_).trans hBit, ?_, ?_, ?_, fun hLost => ?_, Frame.ofDev ?_⟩
  · rw [hFb _ rfl]
    exact Dev.get_put_other _ F.CLK_STATUS.core_fb F.CLK_STATUS.locked _ rfl rfl rfl rfl
  · rw [Dev.on, hFb _ rfl, ← Dev.on]
    exact Dev.on_putB_same _ F.CLK_STATUS.core_fb false rfl
  · rw [Dev.rd_put_ne _ _ _ _ (by decide)]
    exact Dev.bit_clkEvent 1 (by decide)
  · rw [Dev.rd_put_ne _ _ _ _ (by decide), Dev.clkEvent, Dev.rd_wr_ne _ _ _ _ (by decide), Dev.rd_put_ne _ _ _ _ (by decide), hMon]
  · rw [Dev.get_put_same _ _ _ rfl, Dev.fallbackUs, if_neg hLost]
    exact Nat.mod_eq_of_lt (by simp only [F.CLK_LOOPi_COUNTS.last_fb_us]; omega)
  · exact Frame.put (Frame.wr (Frame.put (Frame.mono hShown (by
      simp only [show lockSource 0 = 23 from rfl, List.mem_append, List.mem_cons]
      tauto)) _ _ (by simp [F.CLK_STATUS.core_fb])) _ _ (by simp)) _ _ (by simp [F.CLK_LOOPi_COUNTS.last_fb_us])

theorem loopLock_base (hDomain : s.dev.domOn 0 = true) (hRef : s.dev.on F.CLK_STATUS.refclk_good = true) (hOpen : s.dev.loopLocked 1 = false) :
    Completes (exec (.loopLock 1) s) fun t =>
      t.dev.loopLocked 1 = true ∧ t.dev.evt.running = true ∧ t.dev.on F.CLK_STATUS.tbase_fb = false ∧ t.dev.on F.CLK_STATUS.motion_fb = false ∧
      bit (t.dev.rd R.CLK_EVENTS) 1 = true ∧ t.dev.get F.CLK_MON_STATUS.motion = 0 ∧
      s.Frame ([Part.evt, Part.reg R.CLK_STATUS.off, Part.reg R.CLK_EVENTS.off, Part.reg (R.CLK_LOOPi_COUNTS 1).off] ++ lockParts ++ activeParts 24) t := by
  have hLockable : s.dev.lockable 1 := ⟨hDomain, hRef, hOpen⟩
  have hShown := Dev.frame_lockShown (d := s.dev) (i := 1)
  have hBit := Dev.loopLocked_lockShown (d := s.dev) (i := 1) (by decide)
  refine completes_onDev (fun d => d.loopLock 1) rfl ?_
  rw [Dev.loopLock_base hLockable]
  generalize s.dev.lockShown 1 = x at hShown hBit
  have hRuns : Dev.Frame ([Part.evt, Part.reg R.CLK_STATUS.off, Part.reg R.CLK_EVENTS.off, Part.reg (R.CLK_LOOPi_COUNTS 1).off] ++ lockParts ++ activeParts 24) s.dev x.timeRuns :=
    Frame.setEvt (Frame.mono hShown (by
      simp only [show lockSource 1 = 24 from rfl, List.mem_append, List.mem_cons]
      tauto)) _ (by simp) (.inr rfl)
  have hEvt : x.timeRuns.evt.running = true := rfl
  have hLocked : x.timeRuns.loopLocked 1 = true := hBit
  generalize x.timeRuns = e at hRuns hEvt hLocked
  set u := (e.put F.CLK_MON_STATUS.motion 0).put F.CLK_STATUS.tbase_fb 0 with hu
  have hFb (g : Fld) (hg : g.reg.off = R.CLK_STATUS.off) :
      (((u.put F.CLK_STATUS.motion_fb 0).clkEvent 1).put (F.CLK_LOOPi_COUNTS.last_fb_us 1) (min (s.dev.fallbackUs 1) 0xFFFF)).get g =
        (u.put F.CLK_STATUS.motion_fb 0).get g :=
    (Dev.get_put_ne _ _ _ _ (by rw [hg]; decide)).trans (Dev.get_wr_ne _ _ _ _ (by rw [hg]; decide))
  refine ⟨(Dev.loopLocked_of_get (by decide) ?_).trans hLocked, hEvt, ?_, ?_, ?_, ?_, Frame.ofDev ?_⟩
  · rw [hFb _ rfl]
    exact (Dev.get_put_other u F.CLK_STATUS.motion_fb F.CLK_STATUS.locked _ rfl rfl rfl rfl).trans
      ((Dev.get_put_other _ F.CLK_STATUS.tbase_fb F.CLK_STATUS.locked _ rfl rfl rfl rfl).trans (Dev.get_put_ne _ _ _ _ (by decide)))
  · rw [Dev.on, hFb _ rfl, ← Dev.on]
    exact (Dev.on_put_other u F.CLK_STATUS.motion_fb F.CLK_STATUS.tbase_fb _ rfl rfl rfl rfl).trans (Dev.on_putB_same _ F.CLK_STATUS.tbase_fb false rfl)
  · rw [Dev.on, hFb _ rfl, ← Dev.on]
    exact Dev.on_putB_same _ F.CLK_STATUS.motion_fb false rfl
  · rw [Dev.rd_put_ne _ _ _ _ (by decide)]
    exact Dev.bit_clkEvent 1 (by decide)
  · rw [Dev.get_put_ne _ _ _ _ (by decide), Dev.clkEvent, Dev.get_wr_ne _ _ _ _ (by decide), Dev.get_put_ne _ _ _ _ (by decide), hu, Dev.get_put_ne _ _ _ _ (by decide),
      Dev.get_put_same _ _ _ rfl]
    rfl
  · exact Frame.put (Frame.wr (Frame.put (Frame.put (Frame.put hRuns _ _ (by simp [lockParts, F.CLK_MON_STATUS.motion])) _ _ (by simp [F.CLK_STATUS.tbase_fb])) _ _
      (by simp [F.CLK_STATUS.motion_fb])) _ _ (by simp)) _ _ (by simp [F.CLK_LOOPi_COUNTS.last_fb_us])

theorem loopLock_other (hLoop : i.val = 2 ∨ i.val = 3 ∨ i.val = 4) (hPowered : s.dev.loopPowered i = true) (hRef : s.dev.loopRef i = true)
    (hOpen : s.dev.loopLocked i = false) :
    Completes (exec (.loopLock i) s) fun t =>
      t.dev.loopLocked i = true ∧ bit t.dev.clk.said i = false ∧ (∀ (j : Nat), j < 5 → j ≠ i.val → t.dev.loopLocked j = s.dev.loopLocked j) ∧
      s.Frame ([Part.reg R.CLK_STATUS.off] ++ lockParts ++ activeParts (lockSource i)) t := by
  have hLt : i.val < 5 := by omega
  refine completes_onDev (fun d => d.loopLock i) rfl ?_
  rw [Dev.loopLock_other ⟨hPowered, hRef, hOpen⟩ hLoop]
  refine ⟨Dev.loopLocked_lockShown hLt, ?_, fun j hj hNe => ?_, Frame.ofDev Dev.frame_lockShown⟩
  · change bit (s.dev.lockShown i).clk.said i = false
    rw [Dev.clk_lockShown, Dev.said_lockBegun]
  · rw [Dev.loopLocked, if_pos hj, Dev.bit_lockShown hj, if_neg hNe, Dev.loopLocked, if_pos hj]

/-- A synthesizer shows its lock, with the event and the permit judged anew. -/
theorem Dev.pixelLocked {d : Dev} (n : Nat) :
    (((d.put (F.CHn_PXS_STATUS.locked n) 1).clkEvent 1).gate n).on (F.CHn_PXS_STATUS.locked n) = true ∧
    bit ((((d.put (F.CHn_PXS_STATUS.locked n) 1).clkEvent 1).gate n).rd R.CLK_EVENTS) 1 = true ∧
    (((d.put (F.CHn_PXS_STATUS.locked n) 1).clkEvent 1).gate n).clk = d.clk ∧
    Dev.Frame ([Part.reg (R.CHn_PXS_STATUS n).off, Part.reg R.CLK_EVENTS.off] ++ gateParts n) d (((d.put (F.CHn_PXS_STATUS.locked n) 1).clkEvent 1).gate n) := by
  have hShown : Dev.Frame [Part.reg (R.CHn_PXS_STATUS n).off, Part.reg R.CLK_EVENTS.off] d ((d.put (F.CHn_PXS_STATUS.locked n) 1).clkEvent 1) :=
    Frame.wr (Frame.put Frame.refl _ _ (by simp [F.CHn_PXS_STATUS.locked])) _ _ (by simp)
  have hApart : (F.CHn_PXS_STATUS.locked n).reg.off ≠ R.CLK_EVENTS.off := by simp only [F.CHn_PXS_STATUS.locked, R.CHn_PXS_STATUS, R.CLK_EVENTS]; omega
  have hLocked : ((d.put (F.CHn_PXS_STATUS.locked n) 1).clkEvent 1).on (F.CHn_PXS_STATUS.locked n) = true :=
    (Dev.on_wr_ne _ _ _ _ hApart).trans (Dev.on_putB_same d (F.CHn_PXS_STATUS.locked n) true rfl)
  have hEvent : bit (((d.put (F.CHn_PXS_STATUS.locked n) 1).clkEvent 1).rd R.CLK_EVENTS) 1 = true := Dev.bit_clkEvent 1 (by decide)
  have hClk : ((d.put (F.CHn_PXS_STATUS.locked n) 1).clkEvent 1).clk = d.clk := hShown Part.clk (by simp)
  generalize (d.put (F.CHn_PXS_STATUS.locked n) 1).clkEvent 1 = e at *
  have hGate : Dev.Frame (gateParts n) e (e.gate n) := Frame.gate Frame.refl n fun _ h => h
  have hRd (r : Reg) (hr : r.off = R.CLK_EVENTS.off ∨ r.off = (R.CHn_PXS_STATUS n).off) : (e.gate n).rd r = e.rd r := Frame.rd hGate _ (by
    simp only [gateParts, irqParts, List.mem_append, List.mem_cons, List.not_mem_nil, or_false, Part.reg.injEq, reduceCtorEq, false_or, R.CHn_FGT_STATUS,
      R.CHn_FGT_COUNTS, R.CHn_FGT_IRQ_STATUS, R.MSIX_PBA, R.CLK_EVENTS, R.CHn_PXS_STATUS] at hr ⊢
    omega)
  refine ⟨?_, ?_, ?_, Frame.trans (Frame.mono hShown (by simp)) (Frame.mono hGate (by simp +contextual))⟩
  · rw [← hLocked, Dev.on, Dev.get, hRd (F.CHn_PXS_STATUS.locked n).reg (.inr rfl), ← Dev.get, ← Dev.on]
  · rw [hRd _ (.inl rfl), hEvent]
  · rw [← hClk]
    exact hGate Part.clk (by simp [gateParts, irqParts])

theorem lockSource_pixel : ∀ i : Fin 24, 8 ≤ i.val ∧ i.val < 16 → lockSource i = 25 := by decide

theorem loopLock_pixel (hLoop : 8 ≤ i.val ∧ i.val < 16) (hPowered : s.dev.loopPowered i = true) (hRef : s.dev.loopLocked 1 = true)
    (hOpen : s.dev.loopLocked i = false) :
    Completes (exec (.loopLock i) s) fun t =>
      (t.dev.loopLocked i = true ∧ bit (t.dev.rd R.CLK_EVENTS) 1 = true ∧
      s.Frame ([Part.reg (R.CHn_PXS_STATUS (i - 8)).off, Part.reg R.CLK_EVENTS.off, Part.reg (R.CHn_FGT_STATUS (i - 8)).off, Part.reg (R.CHn_FGT_COUNTS (i - 8)).off, Part.reg (R.CHn_FGT_IRQ_STATUS (i - 8)).off, Part.ch (i - 8)] ++ irqParts ++ lockParts ++ activeParts 25) t) ∧
      Store.get 0 t.dev.clk.lostAt i = 0 := by
  have hRef' : s.dev.loopRef i = true := by rw [Dev.loopRef, if_neg (by omega), if_neg (by omega), hRef]
  have hSource : lockSource i = 25 := lockSource_pixel i hLoop
  refine completes_onDev (fun d => d.loopLock i) rfl ?_
  rw [Dev.loopLock_pixel ⟨hPowered, hRef', hOpen⟩ hLoop.1 hLoop.2]
  have hBegun := Dev.frame_lockBegun (d := s.dev) (i := i)
  have hOver := Dev.lostAt_lockBegun (d := s.dev) (i := i)
  rw [hSource] at hBegun
  generalize s.dev.lockBegun i = e at hBegun hOver
  obtain ⟨hDone, hEvent, hClk, hFrame⟩ := Dev.pixelLocked (d := e) (i - 8)
  refine ⟨⟨?_, hEvent, Frame.ofDev (Frame.trans (Frame.mono hBegun (by simp +contextual)) (Frame.mono hFrame (by simp +contextual [gateParts])))⟩, ?_⟩
  · rw [Dev.loopLocked, if_neg (by omega), if_neg (by omega), if_pos hLoop.2]
    exact hDone
  · exact (congrArg (fun c : ClkSt => Store.get 0 c.lostAt i) hClk).trans hOver

theorem loopLock_beam (hLoop : 16 ≤ i.val) (hPowered : s.dev.loopPowered i = true) (hRef : s.dev.loopRef i = true) (hOpen : s.dev.loopLocked i = false) :
    Completes (exec (.loopLock i) s) fun t => t.dev.loopLocked i = true ∧ Store.get 0 t.dev.clk.lostAt i = 0 := by
  refine completes_onDev (fun d => d.loopLock i) rfl ?_
  rw [Dev.loopLock_beam ⟨hPowered, hRef, hOpen⟩ hLoop]
  have hOver := Dev.lostAt_lockBegun (d := s.dev) (i := i)
  generalize s.dev.lockBegun i = e at hOver
  refine ⟨?_, hOver⟩
  rw [Dev.loopLocked, if_neg (by omega), if_neg (by omega), if_neg (by omega)]
  exact bit_putBits_same e.clk.blLocked (i - 16) true

/-- A command that acts on the device leaves memory and the queue. -/
theorem kept_of_onDev {c : Instr} {P : State → Prop} (f : Dev → Dev) (hExec : exec c s = s.onDev f) (h : Completes (exec c s) P) :
    P { s with dev := f s.dev } := by
  obtain ⟨t, ht, hP⟩ := h
  rw [hExec, State.onDev] at ht
  injection ht with ht
  rwa [ht]

theorem loopLock_low (hLoop : i.val < 5) (hPowered : s.dev.loopPowered i = true) (hRef : s.dev.loopRef i = true) (hOpen : s.dev.loopLocked i = false) :
    Completes (exec (.loopLock i) s) fun t => t.dev.loopLocked i = true ∧ Store.get 0 t.dev.clk.lostAt i = 0 := by
  have hOver := Dev.lostAt_lockBegun (d := s.dev) (i := i)
  have hLockable : s.dev.lockable i := ⟨hPowered, hRef, hOpen⟩
  have hCases : i.val = 0 ∨ i.val = 1 ∨ i.val = 2 ∨ i.val = 3 ∨ i.val = 4 := by omega
  rcases hCases with h0 | h1 | hSome
  · obtain rfl : i = 0 := Fin.ext h0
    have hLocked := kept_of_onDev (fun d => d.loopLock 0) rfl (loopLock_core hPowered hRef hOpen)
    refine completes_onDev (fun d => d.loopLock 0) rfl ⟨hLocked.1, ?_⟩
    rw [Dev.loopLock_core hLockable]
    exact hOver
  · obtain rfl : i = 1 := Fin.ext h1
    have hLocked := kept_of_onDev (fun d => d.loopLock 1) rfl (loopLock_base hPowered hRef hOpen)
    refine completes_onDev (fun d => d.loopLock 1) rfl ⟨hLocked.1, ?_⟩
    rw [Dev.loopLock_base hLockable]
    exact hOver
  · have hLocked := kept_of_onDev (fun d => d.loopLock i) rfl (loopLock_other hSome hPowered hRef hOpen)
    refine completes_onDev (fun d => d.loopLock i) rfl ⟨hLocked.1, ?_⟩
    rw [Dev.loopLock_other hLockable hSome]
    exact hOver

theorem loopLock_locks (hPowered : s.dev.loopPowered i = true) (hRef : s.dev.loopRef i = true) (hOpen : s.dev.loopLocked i = false) :
    Completes (exec (.loopLock i) s) fun t => t.dev.loopLocked i = true ∧ Store.get 0 t.dev.clk.lostAt i = 0 ∧ t.mem = s.mem ∧ t.pending = s.pending := by
  have hLocks : Completes (exec (.loopLock i) s) fun t => t.dev.loopLocked i = true ∧ Store.get 0 t.dev.clk.lostAt i = 0 := by
    by_cases hBeam : 16 ≤ i.val
    · exact loopLock_beam hBeam hPowered hRef hOpen
    · by_cases hPixel : 8 ≤ i.val
      · have hBase : s.dev.loopLocked 1 = true := by rwa [Dev.loopRef, if_neg (by omega), if_neg (by omega)] at hRef
        obtain ⟨t, hExec, ⟨hDone, -, -⟩, hOver⟩ := loopLock_pixel ⟨hPixel, by omega⟩ hPowered hBase hOpen
        exact ⟨t, hExec, hDone, hOver⟩
      · have hLow : i.val < 5 := by
          by_contra hNot
          rw [Dev.loopPowered, if_neg (by omega), if_neg (by omega), if_neg hNot, if_pos (by omega)] at hPowered
          exact absurd hPowered (by simp)
        exact loopLock_low hLow hPowered hRef hOpen
  obtain ⟨hDone, hOver⟩ := kept_of_onDev (fun d => d.loopLock i) rfl hLocks
  exact completes_onDev (fun d => d.loopLock i) rfl ⟨hDone, hOver, rfl, rfl⟩

/-! ### LOOP_UNLOCK (R356) -/

theorem loopUnlock_closed (h : s.dev.loopPowered i = false ∨ s.dev.loopLocked i = false) (hIdle : s.dev.idleStart = false) :
    Completes (exec (.loopUnlock i) s) fun t => t = s := by
  have hSame : s.dev.loopUnlock i = s.dev := by
    unfold Dev.loopUnlock
    rcases h with h | h
    · rw [if_neg (by simp [h])]
    · have hLost : s.dev.loopLoss i 1 true = s.dev := by
        change s.dev.loopLost i 1 true = s.dev
        unfold Dev.loopLost
        rw [if_pos (by simp [h])]
      rw [hLost, ite_self]
  refine completes_onSheets (fun d => d.loopUnlock i) rfl ?_ ?_
  · rw [hSame, hIdle]
  · rw [hSame]

theorem loopUnlock_eq (hPowered : s.dev.loopPowered i = true) : s.dev.loopUnlock i = s.dev.loopLost i 1 true := by
  rw [Dev.loopUnlock, if_pos hPowered]
  rfl

theorem loopUnlock_unlocks (hWarned : s.dev.warned = false) (hPowered : s.dev.loopPowered i = true) :
    Completes (exec (.loopUnlock i) s) fun t =>
      t.dev.loopLocked i = false ∧ (s.dev.loopLocked i = false → t = s) ∧ t.mem = s.mem ∧ t.pending = s.pending := by
  cases hLocked : s.dev.loopLocked i with
  | false =>
    obtain ⟨t, hExec, hSame⟩ := loopUnlock_closed (s := s) (i := i) (.inr hLocked) (Dev.idleStart_of_warned hWarned rfl)
    exact ⟨t, hExec, by rw [hSame, hLocked], fun _ => hSame, by rw [hSame], by rw [hSame]⟩
  | true =>
    have hLost := Dev.lost_loopLost hPowered hLocked 1
    refine completes_onSheets (fun d => d.loopUnlock i) rfl ?_ ⟨?_, fun h => absurd h (by simp), rfl, rfl⟩
    · rw [loopUnlock_eq hPowered, Dev.idleStart_of_warned hWarned hLost.power]
    · rw [loopUnlock_eq hPowered, hLost.locked]

/-- No shut-down waits for the last sheet where power status, host state and settings are the same. -/
theorem idleStart_of_rd {d e : Dev} (h : d.idleStart = false) (hPower : e.rd R.PWR_STATUS = d.rd R.PWR_STATUS) (hHost : e.rd R.SYS_HOST_STATE = d.rd R.SYS_HOST_STATE)
    (hCfg : e.rd R.PWR_PFAIL_CFG = d.rd R.PWR_PFAIL_CFG) : e.idleStart = false := by
  have hOn (g : Fld) (hg : e.rd g.reg = d.rd g.reg) : e.on g = d.on g := by rw [Dev.on, Dev.get, hg, ← Dev.get, ← Dev.on]
  have hFlight : e.get F.SYS_HOST_STATE.in_flight = d.get F.SYS_HOST_STATE.in_flight := by rw [Dev.get, Dev.get, F.SYS_HOST_STATE.in_flight, hHost]
  rw [← h, Dev.idleStart, Dev.idleStart, Dev.warned, Dev.warned, hOn _ hPower, hOn _ hPower, hOn _ hCfg, hFlight]

theorem coreLossParts_apart (r : Reg) (h : r.off < 0xd0000) : Part.reg r.off ∉ coreLossParts := by
  simp only [coreLossParts, strobeParts, activeParts, List.mem_append, List.mem_cons, List.not_mem_nil, or_false, reduceCtorEq, Part.reg.injEq, false_or,
    R.FLT_SRCi_STATE, R.FLT_ACTIVE, R.CLK_STATUS, R.CLK_EVENTS, R.CLK_LOOPi_COUNTS]
  omega

theorem loopUnlock_core (hIdle : s.dev.idleStart = false) (hDomain : s.dev.domOn 0 = true) (hLocked : s.dev.loopLocked 0 = true)
    (hNone : ∀ (k : Nat), k < 32 → s.dev.shtState k ≠ 3) :
    Completes (exec (.loopUnlock 0) s) fun t =>
      t.dev.loopLocked 0 = false ∧ t.dev.on F.CLK_STATUS.core_fb = true ∧ bit (t.dev.rd R.CLK_EVENTS) 2 = true ∧
      t.dev.get (F.CLK_LOOPi_COUNTS.losses 0) = min (s.dev.get (F.CLK_LOOPi_COUNTS.losses 0) + 1) (2 ^ 16 - 1) ∧
      strobed s.dev t.dev 23 (0x80 * 2 ^ 24 + 1) (s.dev.now % 2 ^ 32) ∧
      t.dev.on (F.FLT_SRCi_STATE.active 23) = true ∧
      s.Frame ([Part.clk, Part.reg R.CLK_STATUS.off, Part.reg R.CLK_EVENTS.off, Part.reg (R.CLK_LOOPi_COUNTS 0).off] ++ strobeParts 23 ++ activeParts 23) t := by
  have hFallen : s.dev.loopUnlock 0 = s.dev.coreFallen 1 := (loopUnlock_eq (i := 0) hDomain).trans (Dev.loopLost_core_noSheet hLocked hNone 1)
  have hFrame := Dev.frame_coreFallen (d := s.dev) 1
  refine completes_onSheets (fun d => d.loopUnlock 0) rfl ?_ ?_
  · rw [hFallen]
    exact idleStart_of_rd hIdle (Frame.rd hFrame _ (coreLossParts_apart _ (by decide))) (Frame.rd hFrame _ (coreLossParts_apart _ (by decide)))
      (Frame.rd hFrame _ (coreLossParts_apart _ (by decide)))
  · rw [hFallen]
    exact ⟨((Dev.unlocking_coreFallen 1).lost (by decide)).locked, Dev.on_coreFallen 1, Dev.event_coreFallen 1, Dev.losses_coreFallen 1, Dev.strobed_coreFallen 1,
      Dev.active_coreFallen 1, Frame.ofDev hFrame⟩

theorem loopUnlock_mem (hIdle : s.dev.idleStart = false) (hDomain : s.dev.domOn 1 = true) (hLocked : s.dev.loopLocked 2 = true) :
    Completes (exec (.loopUnlock 2) s) fun t =>
      t.dev.loopLocked 2 = false ∧ t.dev.get F.MEM_STATUS.trained = 0 ∧ strobed s.dev t.dev 19 0 0 ∧
      t.dev.on (F.FLT_SRCi_STATE.active 19) = true ∧
      s.Frame ([Part.clk, Part.memx, Part.reg R.CLK_STATUS.off, Part.reg R.MEM_STATUS.off, Part.reg (R.CLK_LOOPi_COUNTS 2).off] ++ strobeParts 19 ++ activeParts 19) t := by
  have hLost := Dev.lost_mem hLocked 1
  have hUnlock : s.dev.loopUnlock 2 = ((s.dev.lossCounted 2).memUntrained.lockSaid 2 true).report 19 0 0 := (loopUnlock_eq (i := 2) hDomain).trans (Dev.loopLost_mem hLocked 1)
  rw [Dev.loopLost_mem hLocked] at hLost
  have hUntrained : Dev.Frame [Part.clk, Part.memx, Part.reg R.CLK_STATUS.off, Part.reg R.MEM_STATUS.off, Part.reg (R.CLK_LOOPi_COUNTS 2).off] s.dev
      (s.dev.lossCounted 2).memUntrained :=
    Frame.put (Frame.setMemx (Frame.mono (Dev.frame_lossCounted 2) (by simp)) _ (by simp)) _ _ (by simp [F.MEM_STATUS.trained])
  have hTrained : (s.dev.lossCounted 2).memUntrained.get F.MEM_STATUS.trained = 0 := Dev.get_put_same _ F.MEM_STATUS.trained 0 rfl
  generalize (s.dev.lossCounted 2).memUntrained = e at *
  have hSaid : Dev.Frame ([Part.clk] ++ strobeParts 19 ++ activeParts 19) e ((e.lockSaid 2 true).report 19 0 0) :=
    Frame.report (Frame.mono (Dev.frame_lockSaid 2 true) (by
      simp only [show lockSource 2 = 19 from rfl, List.mem_append, List.mem_cons]
      tauto)) _ _ _ (by simp [strobeParts]) (by simp [strobeParts])
  have hAll : Dev.Frame ([Part.clk, Part.memx, Part.reg R.CLK_STATUS.off, Part.reg R.MEM_STATUS.off, Part.reg (R.CLK_LOOPi_COUNTS 2).off] ++ strobeParts 19 ++ activeParts 19)
      s.dev ((e.lockSaid 2 true).report 19 0 0) := Frame.trans (Frame.mono hUntrained (by simp +contextual)) (Frame.mono hSaid (by simp +contextual))
  refine completes_onSheets (fun d => d.loopUnlock 2) rfl ?_ ?_
  · rw [hUnlock]
    exact idleStart_of_rd hIdle (Frame.rd hAll _ (by decide)) (Frame.rd hAll _ (by decide)) (Frame.rd hAll _ (by decide))
  · rw [hUnlock]
    exact ⟨hLost.locked, (Frame.get hSaid F.MEM_STATUS.trained (by decide)).trans hTrained,
      strobed_before hUntrained (Dev.strobed_lockSaid true 0 0) (by decide) (by decide), (Dev.on_report_source _ _ _ _).trans (Dev.on_lockSaid (by decide)), Frame.ofDev hAll⟩

/-! ### CLOCK_MONITOR_TRIP (R355) -/

theorem clockMonitorTrip_unlocks (hWarned : s.dev.warned = false) (hPowered : s.dev.loopPowered i = true) (hLoop : i.val < 5 ∨ (8 ≤ i.val ∧ i.val < 16))
    (hCheck : (if i.val < 5 then s.dev.on F.CLK_STATUS.refclk_good else s.dev.loopLocked 1) = true) :
    Completes (exec (.clockMonitorTrip i) s) fun t =>
      t.dev.loopLocked i = false ∧ bit (t.dev.rd R.CLK_MON_STATUS) (monBit i) = true ∧ bit (t.dev.rd R.CLK_EVENTS) 4 = true ∧ t.mem = s.mem ∧ t.pending = s.pending := by
  have hMon : monBit i < 15 := (by decide : ∀ i : Fin 24, i.val < 5 ∨ (8 ≤ i.val ∧ i.val < 16) → monBit i < 15) i hLoop
  have hPower : (s.dev.monShown i).rd R.PWR_STATUS = s.dev.rd R.PWR_STATUS := Frame.rd Dev.frame_monShown _ (by decide)
  have hLocked := Dev.loopLocked_monShown (d := s.dev) (i := i) i
  have hDomains : (s.dev.monShown i).rd R.PWR_DOMAINS = s.dev.rd R.PWR_DOMAINS := Frame.rd Dev.frame_monShown _ (by decide)
  have hSt : (s.dev.monShown i).loopPowered i = true := by
    rw [← hPowered]
    simp only [Dev.loopPowered, Dev.domOn, hDomains]
  have hEnd : Dev.Lost i (s.dev.monShown i) ((s.dev.monShown i).loopLost i 2 true) := by
    cases h : (s.dev.monShown i).loopLocked i with
    | true => exact Dev.lost_loopLost hSt h 2
    | false =>
      have hSame : (s.dev.monShown i).loopLost i 2 true = s.dev.monShown i := by
        unfold Dev.loopLost
        rw [if_pos (by simp [h])]
      rw [hSame]
      exact ⟨h, rfl, rfl, id⟩
  refine completes_onSheets (fun d => d.monTrip i) rfl ?_ ?_
  · rw [Dev.monTrip_eq hMon hPowered hCheck, Dev.idleStart_of_warned hWarned (hEnd.power.trans hPower)]
  · rw [Dev.monTrip_eq hMon hPowered hCheck]
    refine ⟨hEnd.locked, ?_, hEnd.event Dev.event_monShown, rfl, rfl⟩
    rw [hEnd.monitor, Dev.monitor_monShown hMon]

theorem clockMonitorTrip_core (hIdle : s.dev.idleStart = false) (hDomain : s.dev.domOn 0 = true) (hRef : s.dev.on F.CLK_STATUS.refclk_good = true)
    (hLocked : s.dev.loopLocked 0 = true) (hNone : ∀ (k : Nat), k < 32 → s.dev.shtState k ≠ 3) :
    Completes (exec (.clockMonitorTrip 0) s) fun t =>
      bit (t.dev.rd R.CLK_MON_STATUS) 1 = true ∧ bit (t.dev.rd R.CLK_EVENTS) 4 = true ∧ t.dev.loopLocked 0 = false ∧ t.dev.on F.CLK_STATUS.core_fb = true ∧
      strobed s.dev t.dev 23 (0x80 * 2 ^ 24 + 2) (s.dev.now % 2 ^ 32) ∧
      t.dev.on (F.FLT_SRCi_STATE.active 23) = true ∧
      s.Frame ([Part.clk, Part.reg R.CLK_STATUS.off, Part.reg R.CLK_EVENTS.off, Part.reg R.CLK_MON_STATUS.off, Part.reg (R.CLK_LOOPi_COUNTS 0).off] ++ strobeParts 23 ++ activeParts 23) t := by
  have hTrip : s.dev.monTrip 0 = (s.dev.monShown 0).loopLost 0 2 true := Dev.monTrip_eq (by decide) hDomain hRef
  have hShown := Dev.frame_monShown (d := s.dev) (i := 0)
  have hMon := Dev.monitor_monShown (d := s.dev) (i := 0) (by decide)
  have hEvent := Dev.event_monShown (d := s.dev) (i := 0)
  have hStill := (Dev.loopLocked_monShown (d := s.dev) (i := 0) 0).trans hLocked
  have hNow : (s.dev.monShown 0).now = s.dev.now := Frame.rd hShown _ (by decide)
  have hSheets (k : Nat) (hk : k < 32) : (s.dev.monShown 0).shtState k ≠ 3 := by
    have hSame : (s.dev.monShown 0).shtState k = s.dev.shtState k := Frame.get hShown (F.SHT_Dd_STATE.state k) (by
      simp only [List.mem_cons, List.not_mem_nil, or_false, Part.reg.injEq, R.CLK_MON_STATUS, R.CLK_EVENTS, F.SHT_Dd_STATE.state, R.SHT_Dd_STATE]
      omega)
    rw [hSame]
    exact hNone k hk
  rw [Dev.loopLost_core_noSheet (hStill) hSheets] at hTrip
  generalize s.dev.monShown 0 = e at *
  have hUnlocked := Dev.unlocking_coreFallen (d := e) 2
  have hAll : Dev.Frame ([Part.clk, Part.reg R.CLK_STATUS.off, Part.reg R.CLK_EVENTS.off, Part.reg R.CLK_MON_STATUS.off, Part.reg (R.CLK_LOOPi_COUNTS 0).off] ++ strobeParts 23 ++
      activeParts 23) s.dev (e.coreFallen 2) :=
    Frame.trans (Frame.mono hShown (by simp)) (Frame.mono (Dev.frame_coreFallen 2) (by
      simp only [coreLossParts, List.mem_append, List.mem_cons]
      tauto))
  refine completes_onSheets (fun d => d.monTrip 0) rfl ?_ ?_
  · rw [hTrip]
    exact idleStart_of_rd hIdle (Frame.rd hAll _ (by decide)) (Frame.rd hAll _ (by decide)) (Frame.rd hAll _ (by decide))
  · rw [hTrip]
    refine ⟨?_, hUnlocked.event hEvent, (hUnlocked.lost (by decide)).locked, Dev.on_coreFallen 2, ?_, Dev.active_coreFallen 2, Frame.ofDev hAll⟩
    · rw [hUnlocked.monitor]
      exact hMon
    · rw [← hNow]
      exact strobed_before hShown (Dev.strobed_coreFallen 2) (by decide) (by decide)

/-! ### RELOCK_TIMEOUT (R358) -/

theorem relockTimeout_closed (h : s.dev.loopPowered i = false ∨ s.dev.loopLocked i = true ∨ Store.get 0 s.dev.clk.lostAt i = 0 ∨ bit s.dev.clk.slow i = true) :
    Completes (exec (.relockTimeout i) s) fun t => t = s := by
  have hSame : s.dev.relockTimeout i = s.dev := by
    unfold Dev.relockTimeout
    exact if_pos (by rcases h with h | h | h | h <;> simp [h])
  refine completes_onDev (fun d => d.relockTimeout i) rfl ?_
  rw [hSame]

theorem relockTimeout_records {a : Nat} (hPowered : s.dev.loopPowered i = true) (hOpen : s.dev.loopLocked i = false)
    (hLost : Store.get 0 s.dev.clk.lostAt i = a + 1) (hFirst : bit s.dev.clk.slow i = false) :
    Completes (exec (.relockTimeout i) s) fun t =>
      t.dev.sys.now8 = max s.dev.sys.now8 (a + 2500000) ∧ bit (t.dev.rd R.CLK_EVENTS) 5 = true ∧ bit t.dev.clk.slow i = true ∧
      strobed s.dev t.dev (lockSource i) (0x83 * 2 ^ 24 + i * 2 ^ 16 + min (s.dev.lossesOf i) 65535) (s.dev.rd R.CLK_STATUS) ∧
      t.dev.on (F.FLT_SRCi_STATE.active (lockSource i)) = true ∧
      (i.val = 4 → t.dev.get F.SYS_CFG_HOST_COUNTS.errors = min (s.dev.get F.SYS_CFG_HOST_COUNTS.errors + 1) (2 ^ 16 - 1)) ∧
      s.Frame ([Part.clk, Part.reg R.CLK_EVENTS.off] ++ (if i.val = 4 then [Part.reg R.SYS_CFG_HOST_COUNTS.off] else []) ++ strobeParts (lockSource i) ++ activeParts (lockSource i) ++ timeParts) t := by
  have hRecorded : s.dev.relockTimeout i = (s.dev.lateRelock i a).lateSaid i := by
    unfold Dev.relockTimeout
    extract_lets from_ x
    have hTime : x = s.dev.advance8To (a + 2500000) := by
      simp only [x, from_, hLost, Nat.add_sub_cancel]
    clear_value x
    rw [if_neg (by simp [hPowered, hOpen, from_, hLost, hFirst]), Dev.lateRelock, ← hTime]
    rfl
  have hLate := Dev.frame_lateRelock (d := s.dev) (a := a) (i := i)
  have hNow := Dev.now8_lateRelock (d := s.dev) (a := a) (i := i)
  have hEvent := Dev.event_lateRelock (d := s.dev) (a := a) (i := i)
  have hSlow := Dev.slow_lateRelock (d := s.dev) (a := a) (i := i)
  have hErrors := Dev.errors_lateRelock (d := s.dev) (a := a) (i := i)
  have hLosses := Dev.lossesOf_lateRelock (d := s.dev) (a := a) (i := i)
  have hStatus : (s.dev.lateRelock i a).rd R.CLK_STATUS = s.dev.rd R.CLK_STATUS := Dev.rd_lateRelock _ (by decide)
  generalize s.dev.lateRelock i a = e at *
  refine completes_onDev (fun d => d.relockTimeout i) rfl ?_
  rw [hRecorded]
  refine ⟨Dev.now8_lateSaid.trans hNow, ?_, ?_, ?_, Dev.active_lateSaid, fun h4 => ?_, Frame.ofDev ?_⟩
  · rw [Dev.rd_lateSaid _ (by decide), hEvent]
  · rw [Dev.clk_lateSaid, hSlow]
  · rw [← hLosses, ← hStatus]
    refine strobed_before hLate Dev.strobed_lateSaid ?_ ?_
    · unfold lateParts
      split <;> simp [timeParts]
    · unfold lateParts
      simp only [timeParts, R.FLT_SRCi_STATE, R.CLK_EVENTS, R.SYS_CFG_HOST_COUNTS, R.EVT_TIME, R.SYS_SECONDS]
      split <;> simp <;> omega
  · rw [Frame.get Dev.frame_lateSaid _ (by rw [h4]; decide), hErrors h4]
  · refine Frame.trans (Frame.mono hLate fun p hp => ?_) (Frame.mono Dev.frame_lateSaid fun p hp => ?_)
    · simp only [lateParts, List.mem_append] at hp ⊢
      tauto
    · simp only [lossSaidParts, List.mem_append, List.mem_cons] at hp ⊢
      tauto

end

/-- Settles O48, from the lemmas on declaring lock, losing it, a monitor's trip and a slow re-lock. -/
theorem clockLoops : Obligations.ClockLoops := by
  unfold Obligations.ClockLoops
  exact ⟨fun s i => loopLock_locks, fun s i => loopUnlock_unlocks, fun s i => clockMonitorTrip_unlocks, fun s => loopLock_core, fun s => loopLock_base,
    fun s i => loopLock_other, fun s i hLoop hPowered hRef hOpen => (loopLock_pixel hLoop hPowered hRef hOpen).imp fun t h => ⟨h.1, h.2.1⟩,
    fun s i => ⟨loopLock_closed, loopUnlock_closed, relockTimeout_closed⟩, fun s => loopUnlock_core, fun s => loopUnlock_mem, fun s => clockMonitorTrip_core,
    fun s i a => relockTimeout_records⟩

end Sys2Proof.Proofs
end

-- ==== Sitting: what a domain's power leaves of the sequencer ====
section
/-! SUPPORT. What the power of a domain, coming and going, leaves of the power sequencer itself. -/
open Sys2Proof Sys2Proof.Machine Sys2Proof.Claims
set_option maxRecDepth 20000

namespace Sys2Proof.Machine

/-! ### The registers of the sequencer (R333, R341) -/

/-- A register of the power sequencer; those of a sheet descriptor of any number lie at other places. -/
abbrev powerReg (o : Nat) : Prop := o / 65536 = 0xC ∧ o % 0x200 ≠ 0xC ∧ o % 0x200 ≠ 0x188

/-- Neither a register of the sequencer's slice nor SYS_HOST_STATE. -/
abbrev Dev.OffPower (o : Nat) : Prop := o / 65536 ≠ 0xC ∧ o ≠ R.SYS_HOST_STATE.off

/-- The sequencer shows the same, the time is the same, and a device in safe idle stays there. -/
structure Dev.PowerStays (d e : Dev) : Prop where
  reg : ∀ r : Reg, powerReg r.off → e.rd r = d.rd r
  now8 : e.sys.now8 = d.sys.now8
  host : d.get F.SYS_HOST_STATE.state = 4 → e.get F.SYS_HOST_STATE.state = 4
  pwr : e.pwr = d.pwr

/-- The calibration records of a channel are discarded, before the status shows it. -/
def Dev.calLess (d : Dev) (n : Nat) : Dev :=
  { d with cal := { d.cal with waits := d.cal.waits.filter fun r => !((r.kind = 1 || r.kind = 2) && r.idx = n || r.kind = 3 && r.idx / 2 = n) } }

theorem Dev.calDrop_eq (d : Dev) (n : Nat) : d.calDrop n = (d.calLess n).calShow := rfl

namespace Dev.PowerStays
variable {d e f : Dev}

theorem refl : Dev.PowerStays d d := ⟨fun _ _ => rfl, rfl, id, rfl⟩

theorem trans (h : Dev.PowerStays d e) (g : Dev.PowerStays e f) : Dev.PowerStays d f :=
  ⟨fun r hr => (g.reg r hr).trans (h.reg r hr), g.now8.trans h.now8, g.host ∘ h.host, g.pwr.trans h.pwr⟩

theorem get (h : Dev.PowerStays d e) (g : Fld) (hg : powerReg g.reg.off) : e.get g = d.get g := by rw [Dev.get, h.reg _ hg, Dev.get]
theorem on (h : Dev.PowerStays d e) (g : Fld) (hg : powerReg g.reg.off) : e.on g = d.on g := by rw [Dev.on, h.get g hg, Dev.on]

theorem ofStays (h : Dev.Stays d e) : Dev.PowerStays d e := ⟨fun r hr => h.reg r ⟨.inl hr.1, hr.2⟩, h.now8, h.host, h.pwr⟩

theorem ofFrame {ps : List Part} (h : Dev.PowerStays d e) (hFrame : Dev.Frame ps e f) (hReg : ∀ o, Part.reg o ∈ ps → Dev.OffPower o) (hClock : Part.clock ∉ ps ∧ Part.pwr ∉ ps) :
    Dev.PowerStays d f :=
  h.trans ⟨fun r hr => Frame.rd hFrame r fun hIn => (hReg _ hIn).1 hr.1, hFrame _ hClock.1, fun h4 => by
    rw [← h4]
    exact Frame.get hFrame _ fun hIn => (hReg _ hIn).2 rfl, hFrame _ hClock.2⟩

theorem ofRegs (h : Dev.PowerStays d e) (hRegs : f.regs = e.regs) (hNow : f.sys.now8 = e.sys.now8) (hPwr : f.pwr = e.pwr) : Dev.PowerStays d f := by
  have hRd (r : Reg) : f.rd r = e.rd r := by rw [Dev.rd, Dev.rd, hRegs]
  exact h.trans ⟨fun r _ => hRd r, hNow, fun h4 => by rw [← h4, Dev.get, Dev.get, hRd], hPwr⟩

theorem wr (h : Dev.PowerStays d e) (r : Reg) (v : Nat) (hr : Dev.OffPower r.off) : Dev.PowerStays d (e.wr r v) :=
  h.ofFrame (ps := [Part.reg r.off]) (Frame.wr Frame.refl r v (by simp)) (by rintro o ho; simp only [List.mem_singleton, Part.reg.injEq] at ho; rwa [ho]) (by simp)

theorem put (h : Dev.PowerStays d e) (g : Fld) (v : Nat) (hr : Dev.OffPower g.reg.off) : Dev.PowerStays d (e.put g v) := h.wr _ _ hr

theorem ite {c : Prop} [Decidable c] (h : Dev.PowerStays d e) (g : Dev.PowerStays d f) : Dev.PowerStays d (if c then e else f) := by
  split <;> assumption

theorem each {α : Type} (h : Dev.PowerStays d e) (l : List α) (u : Dev → α → Dev) (hu : ∀ x a, a ∈ l → Dev.PowerStays x (u x a)) : Dev.PowerStays d (e.each l u) := by
  unfold Dev.each
  induction l generalizing e with
  | nil => exact h
  | cons a l ih => exact ih (h.trans (hu e a (by simp))) fun x b hb => hu x b (by simp [hb])

theorem flag (h : Dev.PowerStays d e) (st en : Reg) (k v : Nat) (hr : Dev.OffPower st.off) : Dev.PowerStays d (e.flag st en k v) :=
  h.ofFrame (ps := [Part.reg st.off] ++ irqParts) (Frame.flag Frame.refl st en k v (by simp) (by simp +contextual))
    (by simp only [irqParts, List.mem_append, List.mem_cons, List.not_mem_nil, or_false, Part.reg.injEq, reduceCtorEq, false_or]
        rintro o (rfl | rfl)
        · exact hr
        · decide) (by simp [irqParts])

theorem setActive (h : Dev.PowerStays d e) (src : Nat) (b : Bool) : Dev.PowerStays d (e.setActive src b) :=
  h.ofFrame (ps := activeParts src) (Frame.setActive Frame.refl src b (by simp [activeParts]) (by simp [activeParts]) (by simp [activeParts])) (by
    simp only [activeParts, List.mem_cons, List.not_mem_nil, or_false, Part.reg.injEq, reduceCtorEq, false_or, Dev.OffPower, R.FLT_ACTIVE, R.FLT_SRCi_STATE,
      R.SYS_HOST_STATE]
    omega) (by simp [activeParts])

theorem report (h : Dev.PowerStays d e) (src d0 d1 : Nat) : Dev.PowerStays d (e.report src d0 d1) :=
  h.ofFrame (Dev.frame_report src d0 d1) (by
    simp only [strobeParts, List.mem_cons, List.not_mem_nil, or_false, Part.reg.injEq, reduceCtorEq, false_or, Dev.OffPower, R.FLT_SRCi_STATE, R.SYS_HOST_STATE]
    omega) (by simp [strobeParts])

theorem gate (h : Dev.PowerStays d e) (n : Nat) : Dev.PowerStays d (e.gate n) := h.trans (ofStays (Dev.Stays.refl.gate n))

theorem gateLevels (h : Dev.PowerStays d e) (n : Nat) : Dev.PowerStays d (e.gateLevels n) :=
  h.ofFrame (ps := [Part.reg (R.CHn_FGT_STATUS n).off]) (Frame.gateLevels Frame.refl n (by simp)) (by
    simp only [List.mem_cons, List.not_mem_nil, or_false, Part.reg.injEq, Dev.OffPower, R.CHn_FGT_STATUS, R.SYS_HOST_STATE]
    omega) (by simp)

theorem modCh (h : Dev.PowerStays d e) (n : Nat) (u : ChSt → ChSt) : Dev.PowerStays d (e.modCh n u) := h.ofRegs rfl rfl rfl

/-! ### Interlocks at inputs that lose their power (R253, R289) -/

theorem ilkActive (h : Dev.PowerStays d e) : Dev.PowerStays d e.ilkActive := h.setActive 36 _

theorem fgtFlag (h : Dev.PowerStays d e) (n k : Nat) : Dev.PowerStays d (e.fgtFlag n k) :=
  h.flag _ _ _ _ (by simp only [Dev.OffPower, R.CHn_FGT_IRQ_STATUS, R.SYS_HOST_STATE]; omega)

theorem latchDrop (h : Dev.PowerStays d e) (n kind src esn : Nat) : Dev.PowerStays d (e.latchDrop n kind src esn) := (h.modCh n _).gate n

theorem ilkOpened (h : Dev.PowerStays d e) (kind k : Nat) (chans : List Nat) : Dev.PowerStays d (e.ilkOpened kind k chans) := by
  unfold Dev.ilkOpened
  have h1 := (h.each chans Dev.gateLevels fun _ n _ => refl.gateLevels n).ilkActive
  have h2 (v t : Nat) := (h1.report 36 v t).each chans (fun d n => d.fgtFlag n 0) fun _ n _ => refl.fgtFlag n 0
  refine ite h ?_
  dsimp only
  exact ite ((h2 _ _).each _ _ fun _ n _ => refl.latchDrop n _ _ _) ((h2 _ _).each _ _ fun _ n _ => refl.gate n)

theorem releaseLatches (h : Dev.PowerStays d e) (n : Nat) : Dev.PowerStays d (e.releaseLatches n) := ((h.gateLevels n).modCh n _).gate n

theorem putInp (h : Dev.PowerStays d e) (k : Nat) (x : InSt) : Dev.PowerStays d (e.putInp k x) := h.ofRegs rfl rfl rfl

theorem dinChange (h : Dev.PowerStays d e) (k : Nat) (level : Bool) : Dev.PowerStays d (e.dinChange k level) := by
  unfold Dev.dinChange
  dsimp only
  exact ite ((h.putInp _ _).ilkOpened _ _ _) (((h.putInp _ _).each _ _ fun _ n _ => refl.releaseLatches n).ilkActive)

/-! ### A block whose power goes (R25) -/

theorem dropBlock (h : Dev.PowerStays d e) (lo hi : Nat) (hRange : (0x34 < lo ∧ hi ≤ 0xc0000) ∨ 0xd0000 ≤ lo) : Dev.PowerStays d (e.dropBlock lo hi) := by
  have hRd (r : Reg) (hr : ¬(lo ≤ r.off ∧ r.off < hi)) : (e.dropBlock lo hi).rd r = e.rd r := by
    simp only [Dev.rd, Dev.dropBlock, Store.get_dropRange, if_neg hr]
  refine h.trans ⟨fun r hr => hRd r ?_, rfl, fun h4 => ?_, rfl⟩
  · have := hr.1
    omega
  · rw [← h4, Dev.get, Dev.get, hRd]
    simp only [F.SYS_HOST_STATE.state, R.SYS_HOST_STATE]
    omega

theorem dropTable (h : Dev.PowerStays d e) (lo hi : Nat) : Dev.PowerStays d (e.dropTable lo hi) := h.ofRegs rfl rfl rfl

theorem lockSaid (h : Dev.PowerStays d e) (i : Nat) (b : Bool) : Dev.PowerStays d (e.lockSaid i b) := by
  rw [Dev.lockSaid_eq]
  exact (h.ofRegs (f := e.lossMarked i b) rfl rfl rfl).setActive _ _

theorem loopOff (h : Dev.PowerStays d e) (i : Nat) : Dev.PowerStays d (e.loopOff i) := by
  have hPut : Dev.PowerStays d (e.putBit F.CLK_STATUS.locked i false) := h.wr R.CLK_STATUS _ (by decide)
  exact ((ite hPut h).lockSaid i false).ofRegs rfl rfl rfl

theorem calDrop (h : Dev.PowerStays d e) (n : Nat) : Dev.PowerStays d (e.calDrop n) := by
  have hShow (x : Dev) : Dev.PowerStays x x.calShow := by
    have hPut : Dev.PowerStays x (x.putB F.CAL_STATUS.pending !x.cal.waits.isEmpty) := refl.wr R.CAL_STATUS _ (by decide)
    exact ite (hPut.flag _ _ _ _ (by decide)) hPut
  rw [Dev.calDrop_eq]
  exact (h.ofRegs (f := e.calLess n) rfl rfl rfl).trans (hShow _)

end Dev.PowerStays

/-! ### A domain goes off -/

section
variable {s : State} {d : Dev}

/-- A domain's switches are open, before its blocks lose what they hold. -/
def Dev.domMarked (d : Dev) (k : Nat) : Dev := (d.modPwr fun p => { p with closed := putBits p.closed k k 0 }).putBit F.PWR_DOMAINS.domains k false

/-- The memory PHY without power. -/
def Dev.memGone (d : Dev) : Dev := { (d.dropBlock 0x50000 0x60000).loopOff 2 with memx := {} }

/-- The links without power. -/
def Dev.linkGone (d : Dev) : Dev :=
  let e := ((d.dropBlock 0x60000 0x70000).dropBlock 0xF0000 R.TWN_TOKEN_STATE.off).dropBlock (R.TWN_TOKEN_STATE.off + 4) 0x100000 |>.loopOff 3
  { e with rng := { share := e.rng.share }, twn := { latchCopy := e.twn.latchCopy } }

/-- The inputs of the drives read low. -/
def Dev.dinsGone (d : Dev) : Dev := d.each d.driveDins fun d j => (d.dinChange j false).putInp (128 + j) {}

/-- The drives without power. -/
def Dev.driveGone (d : Dev) : Dev :=
  let e := ((((d.dinsGone.dropBlock 0x80000 0xA0000).dropTable 0x300000 0x302000).setActive 26 false).setActive 27 false).setActive 38 false
  { e with bld := [], stp := [], dcb := [], inp := e.inp.dropRange 64 128 }

/-- The blocks of a channel hold their reset values. -/
def Dev.chanBlocks (d : Dev) (n : Nat) : Dev :=
  ((((({ (d.calDrop n) with lg := { (d.calDrop n).lg with grid := Store.set (0, 0) (d.calDrop n).lg.grid n (0, 0) } } : Dev).dropBlock
    (0x200000 + n * 0x20000) (0x220000 + n * 0x20000)).dropTable (0x100000 + n * 0x2000) (0x102000 + n * 0x2000)).dropTable
    (0x200000 + n * 0x1000) (0x201000 + n * 0x1000)).dropTable (0x1000000 + n * 0x80000) (0x1080000 + n * 0x80000))

/-- The outputs that a channel pulses. -/
def Dev.chanDouts (d : Dev) (n : Nat) : List Nat := (d.cfg.pins.filter fun p => p.func = 2 && p.group = 6 && p.index = n).map Pin.k

/-- A channel's own state is as after reset, its outputs carry nothing. -/
def Dev.chanState (d : Dev) (n : Nat) : Dev :=
  { d with
    ch := Store.set {} d.ch n { dropped := d.holdsDrop n }
    evt := { d.evt with
      dout := (d.chanDouts n).foldl (fun m j => Store.set false m j false) d.evt.dout
      pulse := (d.chanDouts n).foldl (fun m j => Store.set 0 m j 0) d.evt.pulse } }

/-- A channel without power, once its sheets have lost it. -/
def Dev.chanGone (d : Dev) (n : Nat) : Dev := ((((d.chanBlocks n).chanState n).ilkActive).loopOff (8 + n)).loopOff (16 + n)

theorem State.domOff_mem : s.domOff 1 = { s with dev := (s.dev.domMarked 1).memGone, mem := {} } := rfl
theorem State.domOff_link : s.domOff 2 = { s with dev := (s.dev.domMarked 2).linkGone } := rfl
theorem State.domOff_drive : s.domOff 3 = { s with dev := (s.dev.domMarked 3).driveGone } := rfl
theorem State.domOff_chan {k : Nat} (h1 : k ≠ 1) (h2 : k ≠ 2) (h3 : k ≠ 3) :
    s.domOff k = { s with dev := ((s.dev.domMarked k).dropFromSheets (k - 4) 0x49 0).chanGone (k - 4) } := by
  unfold State.domOff
  dsimp only
  split
  · contradiction
  · contradiction
  · contradiction
  · rfl

theorem Dev.powerStays_memGone : Dev.PowerStays d d.memGone := ((Dev.PowerStays.refl.dropBlock _ _ (by decide)).loopOff 2).ofRegs rfl rfl rfl

theorem Dev.powerStays_linkGone : Dev.PowerStays d d.linkGone :=
  ((((Dev.PowerStays.refl.dropBlock _ _ (by decide)).dropBlock _ _ (by decide)).dropBlock _ _ (by decide)).loopOff 3).ofRegs rfl rfl rfl

theorem Dev.powerStays_dinsGone : Dev.PowerStays d d.dinsGone := Dev.PowerStays.refl.each _ _ fun _ j _ => (Dev.PowerStays.refl.dinChange j false).putInp _ _

theorem Dev.powerStays_driveGone : Dev.PowerStays d d.driveGone :=
  (((((Dev.powerStays_dinsGone.dropBlock _ _ (by decide)).dropTable _ _).setActive _ _).setActive _ _).setActive _ _).ofRegs rfl rfl rfl

theorem Dev.powerStays_chanBlocks (n : Nat) : Dev.PowerStays d (d.chanBlocks n) := by
  have hGrid : Dev.PowerStays d { (d.calDrop n) with lg := { (d.calDrop n).lg with grid := Store.set (0, 0) (d.calDrop n).lg.grid n (0, 0) } } :=
    (Dev.PowerStays.refl.calDrop n).ofRegs rfl rfl rfl
  exact (((hGrid.dropBlock _ _ (.inr (by omega))).dropTable _ _).dropTable _ _).dropTable _ _

theorem Dev.powerStays_chanGone (n : Nat) : Dev.PowerStays d (d.chanGone n) := by
  have hState (x : Dev) : Dev.PowerStays x (x.chanState n) := Dev.PowerStays.refl.ofRegs rfl rfl rfl
  exact ((((Dev.powerStays_chanBlocks n).trans (hState _)).ilkActive).loopOff _).loopOff _

theorem Dev.powerStays_domOff (k : Nat) : Dev.PowerStays (s.dev.domMarked k) (s.domOff k).dev := by
  by_cases h1 : k = 1
  · subst h1
    exact Dev.powerStays_memGone
  · by_cases h2 : k = 2
    · subst h2
      exact Dev.powerStays_linkGone
    · by_cases h3 : k = 3
      · subst h3
        exact Dev.powerStays_driveGone
      · rw [State.domOff_chan h1 h2 h3]
        exact (Dev.PowerStays.ofStays (Dev.Stays.refl.dropFromSheets _ _ _)).trans (Dev.powerStays_chanGone _)

theorem State.pending_domOff (k : Nat) : (s.domOff k).pending = s.pending := by
  unfold State.domOff
  dsimp only
  split <;> rfl

end
end Sys2Proof.Machine
end

-- ==== Sitting: the steps of the power sequencer ====
section
/-! SUPPORT. The steps of the power sequencer: what begins with one, and how the sequence goes on. -/
open Sys2Proof Sys2Proof.Machine Sys2Proof.Claims
set_option maxRecDepth 20000

namespace Sys2Proof.Machine

/-! ### The first actions of a step (R333) -/

section
variable {s t : State} {d e : Dev} {i j : Nat} {f : DomEntry} {up : Bool}

/-- PWR_STATE shows the entry of the step that begins now. -/
def Dev.entryShown (d : Dev) (i : Nat) : Dev := (d.put F.PWR_STATE.entry i).modPwr fun p => { p with stepAt := d.sys.now8 }

/-- A rail's enable moves, and its rail with it. -/
def Dev.railMoved (d : Dev) (k : Nat) (up : Bool) : Dev := (d.putBit F.PWR_STATUS.seq_en k up).putBit F.PWR_DOMAINS.rails k up

/-- The switches of a domain close. -/
def Dev.switchClosed (d : Dev) (k : Nat) : Dev := d.modPwr fun p => { p with closed := putBits p.closed k k 1 }

theorem State.stepBegin_rail (h : f.kind = 1) : s.stepBegin i f up = { s with dev := (s.dev.entryShown i).railMoved f.index up } := by
  unfold State.stepBegin
  dsimp only
  rw [if_pos h]
  rfl

theorem State.stepBegin_close (h : f.kind ≠ 1) : s.stepBegin i f true = { s with dev := (s.dev.entryShown i).switchClosed f.index } := by
  unfold State.stepBegin
  dsimp only
  rw [if_neg h, if_pos rfl]
  rfl

theorem State.stepBegin_open (h : f.kind ≠ 1) : s.stepBegin i f false = ({ s with dev := s.dev.entryShown i } : State).domOff f.index := by
  unfold State.stepBegin
  dsimp only
  rw [if_neg h, if_neg (by decide)]
  rfl

theorem Dev.frame_entryShown : Dev.Frame [Part.pwr, Part.reg R.PWR_STATE.off] d (d.entryShown i) :=
  Frame.setPwr (Frame.put Frame.refl _ _ (by simp [F.PWR_STATE.entry])) _ (by simp)

theorem Dev.get_entryShown : (d.entryShown i).get F.PWR_STATE.entry = i % 32 := Dev.get_put_same d F.PWR_STATE.entry i rfl

theorem Dev.get_entryShown_other (g : Fld) (hReg : g.reg = R.PWR_STATE) (hOk : g.ok = true) (hApart : g.hi < 16 ∨ 20 < g.lo) :
    (d.entryShown i).get g = d.get g := by
  refine Dev.get_put_other d F.PWR_STATE.entry g i hReg (by decide) hOk ?_
  rw [Bool.or_eq_true, decide_eq_true_eq, decide_eq_true_eq]
  exact hApart

theorem Dev.stepAt_entryShown : (d.entryShown i).pwr.stepAt = d.sys.now8 := rfl
theorem Dev.pwr_entryShown : (d.entryShown i).pwr = { d.pwr with stepAt := d.sys.now8 } := rfl

theorem Dev.frame_railMoved (k : Nat) : Dev.Frame [Part.reg R.PWR_STATUS.off, Part.reg R.PWR_DOMAINS.off] d (d.railMoved k up) :=
  Frame.putBit (Frame.putBit Frame.refl _ _ _ (by simp [F.PWR_STATUS.seq_en])) _ _ _ (by simp [F.PWR_DOMAINS.rails])

theorem Dev.seqEn_railMoved {k : Nat} (hk : k < 8) : bit ((d.railMoved k up).get F.PWR_STATUS.seq_en) k = up := by
  have hSame : (d.railMoved k up).get F.PWR_STATUS.seq_en = (d.putBit F.PWR_STATUS.seq_en k up).get F.PWR_STATUS.seq_en := Dev.get_put_ne _ _ _ _ (by decide)
  rw [hSame, Dev.bit_putBit _ _ _ _ rfl hk, if_pos rfl]

theorem Dev.rails_railMoved {k : Nat} (hk : k < 8) : bit ((d.railMoved k up).get F.PWR_DOMAINS.rails) k = up := by
  rw [Dev.railMoved, Dev.bit_putBit _ _ _ _ rfl hk, if_pos rfl]

/-- The other fields of PWR_STATUS stay, and the domains. -/
theorem Dev.status_railMoved (k : Nat) (g : Fld) (hReg : g.reg = R.PWR_STATUS) (hOk : g.ok = true) (hApart : 7 < g.lo) : (d.railMoved k up).get g = d.get g := by
  have hSame : (d.railMoved k up).get g = (d.putBit F.PWR_STATUS.seq_en k up).get g := Dev.get_put_ne _ _ _ _ (by rw [hReg]; decide)
  rw [hSame]
  refine Dev.get_put_other d F.PWR_STATUS.seq_en g _ hReg (by decide) hOk ?_
  simp [F.PWR_STATUS.seq_en, hApart]

theorem Dev.domains_railMoved (k : Nat) : (d.railMoved k up).get F.PWR_DOMAINS.domains = d.get F.PWR_DOMAINS.domains := by
  have hOther := Dev.get_put_other (d.putBit F.PWR_STATUS.seq_en k up) F.PWR_DOMAINS.rails F.PWR_DOMAINS.domains
    (putBits ((d.putBit F.PWR_STATUS.seq_en k up).get F.PWR_DOMAINS.rails) k k (b2n up)) rfl rfl rfl rfl
  exact hOther.trans (Dev.get_put_ne _ _ _ _ (by decide))

/-- What every step leaves that begins: the entry shows, the other fields of PWR_STATE and the upper ones of PWR_STATUS, the step times,
the clock and the queue stay, and so does safe idle. -/
structure State.Stepped (i : Nat) (s t : State) : Prop where
  entry : t.dev.get F.PWR_STATE.entry = i % 32
  state : ∀ g : Fld, g.reg = R.PWR_STATE → g.ok = true → g.hi < 16 ∨ 20 < g.lo → t.dev.get g = s.dev.get g
  status : ∀ g : Fld, g.reg = R.PWR_STATUS → g.ok = true → 7 < g.lo → t.dev.get g = s.dev.get g
  times : ∀ k < 32, t.dev.rd (R.PWR_STEP_TIMEi k) = s.dev.rd (R.PWR_STEP_TIMEi k)
  now8 : t.dev.sys.now8 = s.dev.sys.now8
  host : s.dev.get F.SYS_HOST_STATE.state = 4 → t.dev.get F.SYS_HOST_STATE.state = 4
  pending : t.pending = s.pending

theorem powerReg_stepTime {k : Nat} (hk : k < 32) : powerReg (R.PWR_STEP_TIMEi k).off := by
  simp only [powerReg, R.PWR_STEP_TIMEi]; omega

theorem Dev.get_wr_of_reg (r : Reg) (v : Nat) (g : Fld) (h : g.reg.off ≠ r.off) : (d.wr r v).get g = d.get g := Dev.get_wr_ne _ _ _ _ h

/-- The entry shown, and a change that leaves the sequencer's fields. -/
theorem State.Stepped.ofEntry (hState : t.dev.rd R.PWR_STATE = (s.dev.entryShown i).rd R.PWR_STATE)
    (hStatus : ∀ g : Fld, g.reg = R.PWR_STATUS → g.ok = true → 7 < g.lo → t.dev.get g = (s.dev.entryShown i).get g)
    (hTimes : ∀ k < 32, t.dev.rd (R.PWR_STEP_TIMEi k) = (s.dev.entryShown i).rd (R.PWR_STEP_TIMEi k)) (hNow : t.dev.sys.now8 = (s.dev.entryShown i).sys.now8)
    (hHost : (s.dev.entryShown i).get F.SYS_HOST_STATE.state = 4 → t.dev.get F.SYS_HOST_STATE.state = 4) (hPending : t.pending = s.pending) : State.Stepped i s t := by
  have hGet (g : Fld) (hg : g.reg = R.PWR_STATE) : t.dev.get g = (s.dev.entryShown i).get g := by rw [Dev.get, Dev.get, hg, hState]
  have hRd (r : Reg) (hr : r.off ≠ R.PWR_STATE.off) : (s.dev.entryShown i).rd r = s.dev.rd r := Dev.rd_put_ne _ _ _ _ hr
  refine ⟨(hGet _ rfl).trans Dev.get_entryShown, fun g hReg hOk hApart => (hGet g hReg).trans (Dev.get_entryShown_other g hReg hOk hApart), fun g hReg hOk hLo => ?_,
    fun k hk => ?_, hNow, fun h4 => hHost ?_, hPending⟩
  · rw [hStatus g hReg hOk hLo, Dev.get, hRd _ (by rw [hReg]; decide), Dev.get]
  · rw [hTimes k hk, hRd _ (by simp only [R.PWR_STEP_TIMEi, R.PWR_STATE]; omega)]
  · rw [Dev.get, hRd _ (by decide), ← Dev.get, h4]

theorem State.stepped_stepBegin (i : Nat) (f : DomEntry) (up : Bool) : State.Stepped i s (s.stepBegin i f up) := by
  by_cases hRail : f.kind = 1
  · rw [State.stepBegin_rail hRail]
    have hMoved := Dev.frame_railMoved (d := s.dev.entryShown i) (up := up) f.index
    refine .ofEntry (Frame.rd hMoved _ (by decide)) (fun g hReg hOk hLo => Dev.status_railMoved _ g hReg hOk hLo) (fun k hk => Frame.rd hMoved _ ?_) rfl
      (fun h4 => (Frame.get hMoved _ (by decide)).trans h4) rfl
    simp only [R.PWR_STEP_TIMEi, R.PWR_STATUS, R.PWR_DOMAINS, List.mem_cons, List.not_mem_nil, or_false, Part.reg.injEq]
    omega
  · cases up with
    | true =>
      rw [State.stepBegin_close hRail]
      exact .ofEntry rfl (fun _ _ _ _ => rfl) (fun _ _ => rfl) rfl id rfl
    | false =>
      rw [State.stepBegin_open hRail]
      have hOff := Dev.powerStays_domOff (s := { s with dev := s.dev.entryShown i }) f.index
      have hMarked (r : Reg) (hr : r.off ≠ R.PWR_DOMAINS.off) : ((s.dev.entryShown i).domMarked f.index).rd r = (s.dev.entryShown i).rd r := Dev.rd_put_ne _ _ _ _ hr
      have hRd (r : Reg) (hr : r.off ≠ R.PWR_DOMAINS.off) (hPower : powerReg r.off) :
          (({ s with dev := s.dev.entryShown i } : State).domOff f.index).dev.rd r = (s.dev.entryShown i).rd r := (hOff.reg r hPower).trans (hMarked r hr)
      refine .ofEntry (hRd _ (by decide) (by decide)) (fun g hReg hOk hLo => ?_) (fun k hk => hRd _ ?_ (powerReg_stepTime hk)) hOff.now8 (fun h4 => hOff.host ?_)
        (State.pending_domOff f.index)
      · rw [Dev.get, Dev.get, hReg, hRd _ (by decide) (by decide)]
      · simp only [R.PWR_STEP_TIMEi, R.PWR_DOMAINS]; omega
      · rw [← h4, Dev.get, Dev.get]
        exact congrArg (fun v => bits v _ _) (hMarked _ (by decide))

/-! ### Which entry comes next (R333) -/

theorem Dev.entryOn_congr (h : e.rd R.PWR_DOMAINS = d.rd R.PWR_DOMAINS) (f : DomEntry) : e.entryOn f = d.entryOn f := by
  simp only [Dev.entryOn, Dev.domOn, Dev.get, F.PWR_DOMAINS.rails, h]

theorem Dev.nextOn_congr (hFrd : e.frd = d.frd) (hDomains : e.rd R.PWR_DOMAINS = d.rd R.PWR_DOMAINS) (hClosed : e.pwr.closed = d.pwr.closed) (i : Nat) :
    e.nextOn i = d.nextOn i := by
  simp only [Dev.nextOn, Dev.doms, Dev.cfg, hFrd, Dev.entryClosed, Dev.entryOn_congr hDomains, hClosed]

theorem Dev.chan_congr (hFrd : e.frd = d.frd) (n : Nat) : e.chan n = d.chan n := by
  simp only [Dev.chan, hFrd]

theorem Dev.nextOff_congr (hFrd : e.frd = d.frd) (hDomains : e.rd R.PWR_DOMAINS = d.rd R.PWR_DOMAINS) (i : Nat) : e.nextOff i = d.nextOff i := by
  simp only [Dev.nextOff, Dev.doms, Dev.cfg, hFrd, Dev.entryOn_congr hDomains, Dev.mayRise, Dev.chan_congr hFrd]

/-! ### The ways down (R337, R340) -/

/-- A down request has been taken: its purpose shows, what waited is gone. -/
def Dev.downTaken (d : Dev) (p : Nat) : Dev := ((d.put F.PWR_STATE.purpose p).put F.PWR_STATE.pending 0).modPwr fun x => { x with down := 0, up := false, chanQ := [] }

/-- Rails fall. -/
def Dev.falling (d : Dev) : Dev := (d.put F.PWR_STATE.state 4).pwrActive

theorem State.downNow_eq (p i : Nat) : s.downNow p i = ({ s with dev := (s.dev.downTaken p).falling } : State).downNext i := rfl
theorem State.downFrom_eq (i : Nat) : s.downFrom i = ({ s with dev := s.dev.falling } : State).downNext i := rfl

/-- The phases after 5 have not started, 5 waits. -/
def Dev.phasesBack (d : Dev) : Dev := ((d.phaseUndo 5 5).each [6, 7, 8, 9] fun d p => d.phaseUndo p 0).showPhase 5 5 0

/-- The device stands by (R340). -/
def Dev.standingBy (d : Dev) : Dev := ((d.put F.PWR_STATE.state 1).pwrFlag 0).phasesBack

theorem State.downNext_some (h : s.dev.nextOn i = some (j, f)) : s.downNext i = s.stepBegin j f false := by
  simp only [State.downNext, h]

theorem State.downNext_standby (h : s.dev.nextOn i = none) (hPurpose : s.dev.get F.PWR_STATE.purpose = 1) : s.downNext i = { s with dev := s.dev.standingBy } := by
  simp only [State.downNext, h, if_pos hPurpose]
  rfl

theorem Dev.frame_downTaken (p : Nat) : Dev.Frame [Part.pwr, Part.reg R.PWR_STATE.off] d (d.downTaken p) :=
  Frame.setPwr (Frame.put (Frame.put Frame.refl _ _ (by simp [F.PWR_STATE.purpose])) _ _ (by simp [F.PWR_STATE.pending])) _ (by simp)

theorem Dev.frame_pwrActive : Dev.Frame (activeParts 31) d d.pwrActive :=
  Frame.setActive Frame.refl 31 _ (by simp [activeParts]) (by simp [activeParts]) (by simp [activeParts])

theorem Dev.frame_falling : Dev.Frame ([Part.reg R.PWR_STATE.off] ++ activeParts 31) d d.falling :=
  Frame.trans (Frame.put Frame.refl _ _ (by simp [F.PWR_STATE.state])) (Frame.mono Dev.frame_pwrActive (by simp +contextual))

theorem Dev.powerStays_pwrActive : Dev.PowerStays d d.pwrActive := Dev.PowerStays.refl.setActive 31 _

theorem Dev.pwrSt_falling : d.falling.pwrSt = 4 :=
  (Dev.powerStays_pwrActive.get F.PWR_STATE.state (by decide)).trans (Dev.get_put_same d F.PWR_STATE.state 4 rfl)

/-- The other fields of PWR_STATE stay as rails begin to fall. -/
theorem Dev.get_falling (g : Fld) (hReg : g.reg = R.PWR_STATE) (hOk : g.ok = true) (hApart : g.hi < 28) : d.falling.get g = d.get g := by
  have hActive := Dev.powerStays_pwrActive (d := d.put F.PWR_STATE.state 4)
  refine (hActive.get g (by rw [hReg]; decide)).trans (Dev.get_put_other d F.PWR_STATE.state g 4 hReg (by decide) hOk ?_)
  simp [F.PWR_STATE.state, hApart]

theorem Dev.purpose_downTaken {p : Nat} (hp : p < 4) : (d.downTaken p).get F.PWR_STATE.purpose = p := by
  have hPut : (d.downTaken p).get F.PWR_STATE.purpose = (d.put F.PWR_STATE.purpose p).get F.PWR_STATE.purpose :=
    Dev.get_put_other _ F.PWR_STATE.pending F.PWR_STATE.purpose _ rfl rfl rfl rfl
  rw [hPut, Dev.get_put_same _ _ _ rfl]
  exact Nat.mod_eq_of_lt hp

/-! ### Phases that go back (R340) -/

/-- What taking back phases 5 to 9 changes. -/
def backParts : List Part := [Part.sys, Part.reg R.SYS_PHASE.off] ++ (List.range 5).map fun k => Part.reg (R.SYS_PHASE_TIMEk (k + 4)).off

theorem Frame.setPhase {ps : List Part} (h : Dev.Frame ps d e) (p st : Nat) (hSys : Part.sys ∈ ps) : Dev.Frame ps d (e.setPhase p st) :=
  Frame.setSys h _ hSys (.inr rfl)

theorem Frame.phaseUndo {ps : List Part} (h : Dev.Frame ps d e) (p st : Nat) (hSys : Part.sys ∈ ps) (hTime : Part.reg (R.SYS_PHASE_TIMEk (p - 1)).off ∈ ps) :
    Dev.Frame ps d (e.phaseUndo p st) := Frame.put (Frame.setPhase h p st hSys) _ _ hTime

theorem Frame.showPhase {ps : List Part} (h : Dev.Frame ps d e) (p st cause : Nat) (hReg : Part.reg R.SYS_PHASE.off ∈ ps) : Dev.Frame ps d (e.showPhase p st cause) :=
  Frame.put (Frame.put (Frame.put h _ _ hReg) _ _ hReg) _ _ hReg

theorem phaseTime_mem_backParts {k : Nat} (hLo : 4 ≤ k) (hHi : k < 9) : Part.reg (R.SYS_PHASE_TIMEk k).off ∈ backParts := by
  refine List.mem_append_right _ (List.mem_map.2 ⟨k - 4, List.mem_range.2 (by omega), ?_⟩)
  rw [show k - 4 + 4 = k by omega]

theorem Dev.frame_phasesBack : Dev.Frame backParts d d.phasesBack := by
  refine Frame.showPhase (Frame.each _ _ (fun x p hp => Frame.phaseUndo Frame.refl p 0 (by simp [backParts]) (phaseTime_mem_backParts ?_ ?_))
    (Frame.phaseUndo Frame.refl 5 5 (by simp [backParts]) (phaseTime_mem_backParts (by decide) (by decide)))) _ _ _ (by simp [backParts])
  all_goals
    simp only [List.mem_cons, List.not_mem_nil, or_false] at hp
    omega

theorem backParts_offPower (o : Nat) (h : Part.reg o ∈ backParts) : Dev.OffPower o := by
  simp only [backParts, List.mem_append, List.mem_cons, List.not_mem_nil, or_false, reduceCtorEq, Part.reg.injEq, false_or, List.mem_map, List.mem_range, R.SYS_PHASE,
    R.SYS_PHASE_TIMEk] at h
  simp only [Dev.OffPower, R.SYS_HOST_STATE]
  obtain h | ⟨k, hk, h⟩ := h <;> omega

/-- The flag of a sequence that is done leaves the other registers of the sequencer. -/
theorem Dev.get_pwrFlag (k : Nat) (g : Fld) (hReg : g.reg.off ≠ R.PWR_IRQ_STATUS.off) (hPba : g.reg.off ≠ R.MSIX_PBA.off) : (d.pwrFlag k).get g = d.get g :=
  Dev.get_flag_ne _ _ _ _ _ _ hReg hPba

theorem Dev.pwrSt_standingBy : d.standingBy.pwrSt = 1 := by
  have hBack := Dev.PowerStays.refl.ofFrame (Dev.frame_phasesBack (d := (d.put F.PWR_STATE.state 1).pwrFlag 0)) backParts_offPower (by simp [backParts])
  refine (hBack.get F.PWR_STATE.state (by decide)).trans ((Dev.get_pwrFlag 0 _ (by decide) (by decide)).trans ?_)
  exact Dev.get_put_same d F.PWR_STATE.state 1 rfl

theorem Dev.get_standingBy (g : Fld) (hReg : g.reg = R.PWR_STATE) (hOk : g.ok = true) (hApart : g.hi < 28) : d.standingBy.get g = d.get g := by
  have hBack := Dev.PowerStays.refl.ofFrame (Dev.frame_phasesBack (d := (d.put F.PWR_STATE.state 1).pwrFlag 0)) backParts_offPower (by simp [backParts])
  refine (hBack.get g (by rw [hReg]; decide)).trans ((Dev.get_pwrFlag 0 _ (by rw [hReg]; decide) (by rw [hReg]; decide)).trans ?_)
  refine Dev.get_put_other d F.PWR_STATE.state g 1 hReg (by decide) hOk ?_
  simp [F.PWR_STATE.state, hApart]

theorem Dev.host_standingBy (h : d.get F.SYS_HOST_STATE.state = 4) : d.standingBy.get F.SYS_HOST_STATE.state = 4 := by
  have hBack := Dev.PowerStays.refl.ofFrame (Dev.frame_phasesBack (d := (d.put F.PWR_STATE.state 1).pwrFlag 0)) backParts_offPower (by simp [backParts])
  refine hBack.host (((Dev.get_pwrFlag 0 _ (by decide) (by decide)).trans ?_).trans h)
  exact Dev.get_put_ne _ _ _ _ (by decide)

end
end Sys2Proof.Machine
end

-- ==== Sitting: power-ups from standby ====
section
/-! SUPPORT. Power-ups from standby, and the power of one channel. -/
open Sys2Proof Sys2Proof.Machine Sys2Proof.Claims
set_option maxRecDepth 20000

namespace Sys2Proof.Machine

/-! ### The way up (R340) -/

section
variable {s : State} {d e : Dev} {i j : Nat} {f : DomEntry}

/-- ON is reached (R333). -/
def Dev.reachedOn (d : Dev) : Dev := (d.put F.PWR_STATE.state 3).pwrActive.pwrFlag 0

theorem State.upNext_none (h : s.dev.nextOff i = none) : s.upNext i = ({ s with dev := s.dev.reachedOn }, true) := by
  simp only [State.upNext, h]
  rfl

theorem State.upNext_some (h : s.dev.nextOff i = some (j, f)) : s.upNext i = (s.stepBegin j f true, false) := by
  simp only [State.upNext, h]

theorem State.upFrom_eq (i : Nat) : s.upFrom i = ({ s with dev := s.dev.put F.PWR_STATE.state 2 } : State).upNext i := rfl

theorem Dev.nextOff_rising (i : Nat) : (d.put F.PWR_STATE.state 2).nextOff i = d.nextOff i := by
  have hDomains : (d.put F.PWR_STATE.state 2).rd R.PWR_DOMAINS = d.rd R.PWR_DOMAINS := Dev.rd_put_ne _ _ _ _ (by decide)
  rw [Dev.nextOff_congr (Dev.put_frd d F.PWR_STATE.state 2) hDomains]

theorem Dev.frame_reachedOn : Dev.Frame ([Part.reg R.PWR_STATE.off] ++ activeParts 31 ++ pwrFlagParts) d d.reachedOn :=
  Frame.flag (Frame.trans (Frame.put Frame.refl _ _ (by simp [F.PWR_STATE.state])) (Frame.mono Dev.frame_pwrActive (by simp +contextual))) _ _ _ _
    (by simp [pwrFlagParts]) (by simp +contextual [pwrFlagParts])

theorem Dev.get_reachedOn (g : Fld) (hReg : g.reg = R.PWR_STATE) : d.reachedOn.get g = (d.put F.PWR_STATE.state 3).get g :=
  (Dev.get_pwrFlag 0 g (by rw [hReg]; decide) (by rw [hReg]; decide)).trans (Dev.powerStays_pwrActive.get g (by rw [hReg]; decide))

theorem Dev.pwrSt_reachedOn : d.reachedOn.pwrSt = 3 := (Dev.get_reachedOn _ rfl).trans (Dev.get_put_same d F.PWR_STATE.state 3 rfl)

theorem Dev.bit_pwrFlag {k : Nat} (hk : k < 32) : bit ((d.pwrFlag k).rd R.PWR_IRQ_STATUS) k = true := by
  rw [Dev.pwrFlag]
  exact Dev.rd_flag_same d R.PWR_IRQ_STATUS R.PWR_IRQ_EN k 17 (by decide) (by simpa [R.PWR_IRQ_STATUS] using hk) (by decide)

theorem Dev.flag_reachedOn : bit (d.reachedOn.rd R.PWR_IRQ_STATUS) 0 = true := by
  rw [Dev.reachedOn]
  exact Dev.bit_pwrFlag (by decide)

theorem State.pending_upNext (i : Nat) : (s.upNext i).1.pending = s.pending := by
  cases h : s.dev.nextOff i with
  | none => simp only [State.upNext_none h]
  | some p =>
    obtain ⟨j, f⟩ := p
    rw [State.upNext_some h]
    exact (State.stepped_stepBegin _ _ _).pending

theorem State.mem_stepBegin_up (i : Nat) (f : DomEntry) : (s.stepBegin i f true).mem = s.mem := by
  by_cases h : f.kind = 1
  · rw [State.stepBegin_rail h]
  · rw [State.stepBegin_close h]

/-! ### The step times (R348) -/

theorem Dev.frame_stepTimes : Dev.Frame ((List.range 19).map fun k => Part.reg (R.PWR_STEP_TIMEi k).off) d d.stepTimes :=
  Frame.each _ _ (fun _ i hi => Frame.put Frame.refl _ _ (List.mem_map.2 ⟨i, hi, rfl⟩)) Frame.refl

theorem Dev.rd_stepTimes {k : Nat} (hk : k < 19) : d.stepTimes.rd (R.PWR_STEP_TIMEi k) = 0xFFFFFFFF := by
  have hPut (x : Dev) (i : Nat) : (x.put (F.PWR_STEP_TIMEi.us i) 0xFFFFFFFF).rd (R.PWR_STEP_TIMEi k) = if k = i then 0xFFFFFFFF else x.rd (R.PWR_STEP_TIMEi k) := by
    split
    next hSame =>
      subst hSame
      exact Dev.rd_put_whole x (F.PWR_STEP_TIMEi.us k) 0xFFFFFFFF rfl rfl (show (32 : Nat) ≤ 64 by decide)
    next hNe => exact Dev.rd_put_ne _ _ _ _ (by simp only [F.PWR_STEP_TIMEi.us, R.PWR_STEP_TIMEi]; omega)
  have hEach (l : List Nat) (x : Dev) : (x.each l fun d i => d.put (F.PWR_STEP_TIMEi.us i) 0xFFFFFFFF).rd (R.PWR_STEP_TIMEi k) =
      if k ∈ l then 0xFFFFFFFF else x.rd (R.PWR_STEP_TIMEi k) := by
    induction l generalizing x with
    | nil => simp [Dev.each]
    | cons i l ih =>
      rw [show x.each (i :: l) (fun d i => d.put (F.PWR_STEP_TIMEi.us i) 0xFFFFFFFF) =
        (x.put (F.PWR_STEP_TIMEi.us i) 0xFFFFFFFF).each l fun d i => d.put (F.PWR_STEP_TIMEi.us i) 0xFFFFFFFF from rfl, ih, hPut]
      by_cases hl : k ∈ l <;> simp [hl]
  rw [Dev.stepTimes, hEach, if_pos (List.mem_range.2 hk)]

/-! ### Phase 5 runs and ends (R61) -/

/-- What the start of phase 5 changes. -/
def begunParts : List Part := [Part.sys, Part.reg R.SYS_PHASE.off, Part.reg (R.SYS_PHASE_TIMEk 4).off]

theorem Frame.phaseRun {ps : List Part} (h : Dev.Frame ps d e) (p : Nat) (hSys : Part.sys ∈ ps) (hTime : Part.reg (R.SYS_PHASE_TIMEk (p - 1)).off ∈ ps) :
    Dev.Frame ps d (e.phaseRun p) := Frame.setSys (Frame.phaseUndo h p 1 hSys hTime) _ hSys (.inr rfl)

theorem Frame.phaseBegin {ps : List Part} (h : Dev.Frame ps d e) (p : Nat) (hSys : Part.sys ∈ ps) (hTime : Part.reg (R.SYS_PHASE_TIMEk (p - 1)).off ∈ ps)
    (hShown : Part.reg R.SYS_PHASE.off ∈ ps) : Dev.Frame ps d (e.phaseBegin p) := Frame.showPhase (Frame.phaseRun h p hSys hTime) _ _ _ hShown

theorem Dev.phaseSt_setPhase (p st : Nat) : (d.setPhase p st).phaseSt p = st := Store.get_set_same 0 d.sys.ph p st
theorem Dev.phaseSt_setPhase_ne {p q : Nat} (st : Nat) (h : q ≠ p) : (d.setPhase p st).phaseSt q = d.phaseSt q := Store.get_set_ne 0 0 d.sys.ph p q st h

theorem Dev.ph_put (g : Fld) (v : Nat) : (d.put g v).sys.ph = d.sys.ph := rfl
theorem Dev.ph_showPhase (p st cause : Nat) : (d.showPhase p st cause).sys.ph = d.sys.ph := by
  rw [Dev.showPhase, Dev.ph_put, Dev.ph_put, Dev.ph_put]

theorem Dev.ph_phaseBegin (p : Nat) : (d.phaseBegin p).sys.ph = (d.setPhase p 1).sys.ph := by
  rw [Dev.phaseBegin, Dev.ph_showPhase, Dev.phaseRun, Dev.phaseUndo]
  dsimp only
  rw [Dev.ph_put]

theorem Dev.ph_phaseEnd (p st cause : Nat) : (d.phaseEnd p st cause).sys.ph = (d.setPhase p st).sys.ph := by
  rw [Dev.phaseEnd, Dev.ph_showPhase, Dev.phaseNote, Dev.ph_put]

theorem Dev.phaseSt_congr (h : e.sys.ph = d.sys.ph) (p : Nat) : e.phaseSt p = d.phaseSt p := by rw [Dev.phaseSt, h, Dev.phaseSt]

theorem Dev.phaseSt_phaseBegin (p : Nat) : (d.phaseBegin p).phaseSt p = 1 := (Dev.phaseSt_congr (Dev.ph_phaseBegin p) p).trans (Dev.phaseSt_setPhase p 1)
theorem Dev.phaseSt_phaseBegin_ne {p q : Nat} (h : q ≠ p) : (d.phaseBegin p).phaseSt q = d.phaseSt q :=
  (Dev.phaseSt_congr (Dev.ph_phaseBegin p) q).trans (Dev.phaseSt_setPhase_ne 1 h)
theorem Dev.phaseSt_phaseEnd (p st cause : Nat) : (d.phaseEnd p st cause).phaseSt p = st :=
  (Dev.phaseSt_congr (Dev.ph_phaseEnd p st cause) p).trans (Dev.phaseSt_setPhase p st)

/-- SYS_PHASE shows a phase, its state and its cause. -/
theorem Dev.phase_showPhase (p st cause : Nat) : (d.showPhase p st cause).get F.SYS_PHASE.phase = p % 2 ^ (F.SYS_PHASE.phase.hi + 1 - F.SYS_PHASE.phase.lo) := by
  have hPhase := Dev.get_put_same d F.SYS_PHASE.phase p rfl
  exact (Dev.get_put_other _ F.SYS_PHASE.cause F.SYS_PHASE.phase cause rfl rfl rfl rfl).trans
    ((Dev.get_put_other _ F.SYS_PHASE.state F.SYS_PHASE.phase st rfl rfl rfl rfl).trans hPhase)

theorem Dev.state_showPhase (p st cause : Nat) : (d.showPhase p st cause).get F.SYS_PHASE.state = st % 2 ^ (F.SYS_PHASE.state.hi + 1 - F.SYS_PHASE.state.lo) :=
  (Dev.get_put_other _ F.SYS_PHASE.cause F.SYS_PHASE.state cause rfl rfl rfl rfl).trans (Dev.get_put_same _ F.SYS_PHASE.state st rfl)

theorem Dev.cause_showPhase (p st cause : Nat) : (d.showPhase p st cause).get F.SYS_PHASE.cause = cause % 2 ^ (F.SYS_PHASE.cause.hi + 1 - F.SYS_PHASE.cause.lo) :=
  Dev.get_put_same _ F.SYS_PHASE.cause cause rfl

/-- What the end of phase 5 changes, with the start of phase 6 and its walk. -/
def ended5Parts : List Part :=
  [Part.sys, Part.cal, Part.out, Part.reg R.SYS_PHASE.off, Part.reg (R.SYS_PHASE_TIMEk 4).off, Part.reg (R.SYS_PHASE_TIMEk 5).off, Part.reg R.CAL_STATUS.off]

/-- What the start of a walk changes. -/
def walkParts : List Part := [Part.cal, Part.out, Part.reg R.CAL_STATUS.off]

theorem Dev.frame_walkStart (scope : Option Nat) : Dev.Frame walkParts d (d.walkStart scope) := by
  have hWalk : Dev.Frame walkParts d ((({ d with cal := { d.cal with walks := d.cal.walks ++ [scope] } } : Dev)).put F.CAL_STATUS.busy 1) :=
    Frame.put (Frame.setCal Frame.refl _ (by simp [walkParts])) _ _ (by simp [walkParts, F.CAL_STATUS.busy])
  have hFlash (x : Dev) (a l : Nat) : Dev.Frame walkParts x (x.flashRead a l) := Frame.emit Frame.refl _ (by simp [walkParts])
  have hNext (x : Dev) : Dev.Frame walkParts x x.flashNext :=
    Frame.ite Frame.refl (Frame.ite (Frame.ite Frame.refl (hFlash _ _ _)) (Frame.ite Frame.refl (hFlash _ _ _)))
  unfold Dev.walkStart
  exact Frame.ite Frame.refl (Frame.ite (Frame.trans hWalk (hNext _)) hWalk)

theorem Dev.end5_eq : d.end5 = ((d.phaseEnd 5 2 0).phaseBegin 6).walkStart none := rfl

theorem Dev.frame_phaseEnd5 : Dev.Frame ended5Parts d ((d.phaseEnd 5 2 0).phaseBegin 6) :=
  Frame.phaseBegin (Frame.showPhase (Frame.put (Frame.setPhase Frame.refl 5 2 (by simp [ended5Parts])) _ _ (by simp [ended5Parts, F.SYS_PHASE_TIMEk.us])) _ _ _
    (by simp [ended5Parts])) 6 (by simp [ended5Parts]) (by simp [ended5Parts]) (by simp [ended5Parts])

theorem Dev.frame_end5 : Dev.Frame ended5Parts d d.end5 := by
  rw [Dev.end5_eq]
  exact Frame.trans Dev.frame_phaseEnd5 (Frame.mono (Dev.frame_walkStart none) (by simp [walkParts, ended5Parts]))

theorem Dev.ph_of_frame {ps : List Part} (h : Dev.Frame ps d e) (hSys : Part.sys ∉ ps) : e.sys.ph = d.sys.ph := by
  have hKept : { e.sys with now8 := 0 } = { d.sys with now8 := 0 } := h Part.sys hSys
  have hPh := congrArg SysSt.ph hKept
  exact hPh

theorem Dev.phaseSt_end5 : d.end5.phaseSt 5 = 2 := by
  rw [Dev.end5_eq, Dev.phaseSt_congr (Dev.ph_of_frame (Dev.frame_walkStart none) (by simp [walkParts])), Dev.phaseSt_phaseBegin_ne (by decide), Dev.phaseSt_phaseEnd]

theorem Dev.powerStays_walkStart (scope : Option Nat) : Dev.PowerStays d (d.walkStart scope) :=
  Dev.PowerStays.refl.ofFrame (Dev.frame_walkStart scope) (by
    simp only [walkParts, List.mem_cons, List.not_mem_nil, or_false, reduceCtorEq, false_or, Part.reg.injEq]
    rintro o rfl
    decide) (by simp [walkParts])

theorem Dev.powerStays_end5 : Dev.PowerStays d d.end5 :=
  Dev.PowerStays.refl.ofFrame Dev.frame_end5 (by
    simp only [ended5Parts, List.mem_cons, List.not_mem_nil, or_false, reduceCtorEq, false_or, Part.reg.injEq]
    rintro o (rfl | rfl | rfl | rfl) <;> decide) (by simp [ended5Parts])

end
end Sys2Proof.Machine
end

-- ==== Sitting: the power of one channel ====
section
/-! SUPPORT. The power of one channel: the queue of its steps, and what its loss leaves (R341). -/
open Sys2Proof Sys2Proof.Machine Sys2Proof.Claims
set_option maxRecDepth 20000

namespace Sys2Proof.Machine

/-! ### The queue of channel steps (R341) -/

section
variable {s : State} {d e : Dev} {n i : Nat} {f : DomEntry} {on : Bool} {rest : List (Nat × Bool)}

theorem Dev.chanEntry_spec (h : d.chanEntry n = some (i, f)) : f.kind = 0 ∧ f.index = 4 + n := by
  have hFound := List.find?_some h
  simpa using hFound

theorem Dev.entryOn_chan (h : d.chanEntry n = some (i, f)) : d.entryOn f = d.domOn (4 + n) := by
  obtain ⟨hKind, hIndex⟩ := Dev.chanEntry_spec h
  rw [Dev.entryOn, if_neg (by omega), hIndex]

/-- The queue holds these steps. -/
def Dev.withChanQ (d : Dev) (l : List (Nat × Bool)) : Dev := d.modPwr fun p => { p with chanQ := l }

theorem State.chanBegin_none (h : s.dev.pwr.chanQ = []) (k : Nat) : State.chanBegin k s = s := by
  cases k with
  | zero => rfl
  | succ k => simp only [State.chanBegin, h]

theorem State.chanBegin_skip (hQ : s.dev.pwr.chanQ = [(n, on)]) (hEntry : s.dev.chanEntry n = some (i, f)) (hSkip : s.dev.entryOn f = on) :
    State.chanBegin 8 s = { s with dev := s.dev.withChanQ [] } := by
  rw [State.chanBegin]
  simp only [hQ, hEntry]
  rw [if_pos (by simp [hSkip])]
  exact State.chanBegin_none rfl 7

theorem State.chanBegin_step (hQ : s.dev.pwr.chanQ = (n, on) :: rest) (hEntry : s.dev.chanEntry n = some (i, f)) (hStep : s.dev.entryOn f ≠ on)
    (hRise : on = true → s.dev.mayRise f = true) : State.chanBegin 8 s = s.stepBegin i f on := by
  rw [State.chanBegin]
  simp only [hQ, hEntry]
  refine if_neg ?_
  cases on with
  | false => simpa using hStep
  | true => simpa [hRise rfl] using hStep

theorem State.chanQueue_nil : s.chanQueue [] = s := by
  have hSame : ({ s with dev := s.dev.modPwr fun p => { p with chanQ := p.chanQ ++ [] } } : State) = s := by simp only [List.append_nil, Dev.modPwr]
  rw [State.chanQueue, hSame]
  split
  next hIdle => exact State.chanBegin_none (List.isEmpty_iff.1 hIdle) 8
  next => rfl

theorem State.chanQueue_idle (h : s.dev.pwr.chanQ = []) (l : List (Nat × Bool)) : s.chanQueue l = State.chanBegin 8 { s with dev := s.dev.withChanQ l } := by
  unfold State.chanQueue
  dsimp only
  rw [if_pos (by rw [h]; rfl), Dev.withChanQ]
  simp only [h, List.nil_append, Dev.modPwr]

theorem State.chanQueue_busy (h : s.dev.pwr.chanQ ≠ []) (l : List (Nat × Bool)) : s.chanQueue l = { s with dev := s.dev.withChanQ (s.dev.pwr.chanQ ++ l) } := by
  unfold State.chanQueue
  dsimp only
  rw [if_neg (by simpa using h)]
  rfl

theorem chanSteps_off : ∀ n : Fin 8, (((List.range 8).filter fun m => bit (BitVec.ofNat 8 (2 ^ n.val)).toNat m || bit 0 m).map fun m =>
    (m, !bit (BitVec.ofNat 8 (2 ^ n.val)).toNat m)) = [(n.val, false)] := by decide

theorem chanSteps_on : ∀ n : Fin 8, (((List.range 8).filter fun m => bit 0 m || bit (BitVec.ofNat 8 (2 ^ n.val)).toNat m).map fun m =>
    (m, !bit 0 m)) = [(n.val, true)] := by decide

theorem State.chanSwitch_refused (h : s.dev.pwrSt ≠ 3) (off on : Nat) (force : Bool) : s.chanSwitch off on force = { s with dev := s.dev.pwrRefuse } := by
  rw [State.chanSwitch, if_pos h]

theorem State.chanSwitch_off (h : s.dev.pwrSt = 3) (n : Fin 8) (force : Bool) : s.chanSwitch (BitVec.ofNat 8 (2 ^ n.val)).toNat 0 force =
    if (s.dev.chanBusy n && !force) = true then { s with dev := s.dev.pwrRefuse } else s.chanQueue [(n.val, false)] := by
  have hRefused : s.dev.chanRefused force (n.val, false) = (s.dev.chanBusy n && !force) := rfl
  rw [State.chanSwitch, if_neg (by simp [h])]
  dsimp only
  rw [chanSteps_off n, List.any_cons, List.any_nil, Bool.or_false, List.filter_cons, List.filter_nil, hRefused]
  cases s.dev.chanBusy n && !force
  · rfl
  · exact State.chanQueue_nil

theorem State.chanSwitch_on (h : s.dev.pwrSt = 3) (n : Fin 8) (hEntry : (s.dev.chanEntry n).isSome = true) (hChan : (s.dev.chan n).isSome = true) :
    s.chanSwitch 0 (BitVec.ofNat 8 (2 ^ n.val)).toNat false = s.chanQueue [(n.val, true)] := by
  have hOpen : s.dev.chanRefused false (n.val, true) = false := by
    simp only [Dev.chanRefused, if_true, Bool.or_eq_false_iff, Option.isNone_eq_false_iff]
    exact ⟨hEntry, hChan⟩
  rw [State.chanSwitch, if_neg (by simp [h])]
  dsimp only
  rw [chanSteps_on n, List.any_cons, List.any_nil, Bool.or_false, List.filter_cons, List.filter_nil, hOpen]
  rfl

/-! ### What a channel that loses its power leaves -/

/-- What the power of CHn leaves as it goes (R341). -/
def chanKeptParts (n : Nat) : List Part :=
  [Part.reg R.PWR_STATUS.off, Part.reg R.SYS_PHASE.off, Part.sys, Part.clock, Part.strobes, Part.sht, Part.host, Part.ch (n + 1)]

/-- These pieces stay, with the open records, the shadows and what a shut-down on idle is judged by. -/
structure Dev.ChanKeeps (n : Nat) (d e : Dev) : Prop where
  kept : Dev.Kept (chanKeptParts n) d e
  opens : e.flt.opens = d.flt.opens
  shadows : e.flt.shadows = d.flt.shadows
  flight : e.rd R.SYS_HOST_STATE = d.rd R.SYS_HOST_STATE
  cfg : e.rd R.PWR_PFAIL_CFG = d.rd R.PWR_PFAIL_CFG

namespace Dev.ChanKeeps
variable {x : Dev}

theorem refl : Dev.ChanKeeps n d d := ⟨fun _ _ => Frame.refl (ps := []) _ (by simp), rfl, rfl, rfl, rfl⟩

theorem trans (h : Dev.ChanKeeps n d e) (g : Dev.ChanKeeps n e x) : Dev.ChanKeeps n d x :=
  ⟨fun p hp => Frame.kept_trans (h.kept p hp) (g.kept p hp), g.opens.trans h.opens, g.shadows.trans h.shadows, g.flight.trans h.flight, g.cfg.trans h.cfg⟩

theorem ofFrame {ps : List Part} (h : Dev.Frame ps d e) (hKept : ∀ p ∈ chanKeptParts n, p ∉ ps) (hFlight : Part.reg R.SYS_HOST_STATE.off ∉ ps)
    (hCfg : Part.reg R.PWR_PFAIL_CFG.off ∉ ps) (hOpens : e.flt.opens = d.flt.opens) (hShadows : e.flt.shadows = d.flt.shadows) : Dev.ChanKeeps n d e :=
  ⟨fun p hp => h p (hKept p hp), hOpens, hShadows, Frame.rd h _ hFlight, Frame.rd h _ hCfg⟩

theorem setActive (src : Nat) (b : Bool) : Dev.ChanKeeps n d (d.setActive src b) := by
  have hFlt : (d.setActive src b).flt.opens = d.flt.opens ∧ (d.setActive src b).flt.shadows = d.flt.shadows := by
    unfold Dev.setActive
    dsimp only
    split <;> split <;> exact ⟨rfl, rfl⟩
  refine ofFrame (ps := activeParts src) (Frame.setActive Frame.refl src b (by simp [activeParts]) (by simp [activeParts]) (by simp [activeParts])) ?_ ?_ ?_ hFlt.1 hFlt.2
  · intro p hp
    simp only [chanKeptParts, List.mem_cons, List.not_mem_nil, or_false] at hp
    rcases hp with rfl | rfl | rfl | rfl | rfl | rfl | rfl | rfl <;>
      simp [activeParts, R.PWR_STATUS, R.SYS_PHASE, R.FLT_SRCi_STATE, R.FLT_ACTIVE]
    · omega
    · omega
  · simp only [activeParts, List.mem_cons, List.not_mem_nil, or_false, reduceCtorEq, Part.reg.injEq, R.SYS_HOST_STATE, R.FLT_SRCi_STATE, R.FLT_ACTIVE, false_or]
    omega
  · simp only [activeParts, List.mem_cons, List.not_mem_nil, or_false, reduceCtorEq, Part.reg.injEq, R.PWR_PFAIL_CFG, R.FLT_SRCi_STATE, R.FLT_ACTIVE, false_or]
    omega

theorem lossMarked (j : Nat) (b : Bool) : Dev.ChanKeeps n d (d.lossMarked j b) :=
  ofFrame (ps := [Part.clk]) (Frame.setClk Frame.refl _ (by simp)) (by simp [chanKeptParts]) (by simp) (by simp) rfl rfl

/-- The clock state of a channel's loop that is off. -/
theorem loopOff {j : Nat} (hj : 5 ≤ j) : Dev.ChanKeeps n d (d.loopOff j) := by
  have hSaid : Dev.ChanKeeps n d (d.lockSaid j false) := by
    rw [Dev.lockSaid_eq]
    exact (lossMarked j false).trans (setActive _ _)
  have hClk (y : Dev) (c : ClkSt) : Dev.ChanKeeps n y { y with clk := c } :=
    ofFrame (ps := [Part.clk]) (Frame.setClk Frame.refl _ (by simp)) (by simp [chanKeptParts]) (by simp) (by simp) rfl rfl
  unfold Dev.loopOff
  rw [if_neg (by omega)]
  exact hSaid.trans (hClk _ _)

theorem calDrop (m : Nat) : Dev.ChanKeeps n d (d.calDrop m) := by
  have hLess : Dev.Frame [Part.cal] d (d.calLess m) := Frame.setCal Frame.refl _ (by simp)
  have hShow (x : Dev) : Dev.Frame ([Part.reg R.CAL_STATUS.off, Part.reg R.CAL_IRQ_STATUS.off] ++ irqParts) x x.calShow := by
    have hPut : Dev.Frame ([Part.reg R.CAL_STATUS.off, Part.reg R.CAL_IRQ_STATUS.off] ++ irqParts) x (x.putB F.CAL_STATUS.pending !x.cal.waits.isEmpty) :=
      Frame.putB Frame.refl _ _ (by simp [F.CAL_STATUS.pending])
    exact Frame.ite (Frame.flag hPut _ _ _ _ (by simp) (by simp +contextual)) hPut
  have hFlt : (d.calDrop m).flt = d.flt := by
    have hSame := Frame.flt_eq (hShow (d.calLess m)) (by simp [irqParts]) (by simp [irqParts])
    exact hSame
  rw [Dev.calDrop_eq] at hFlt ⊢
  exact ofFrame (ps := [Part.cal, Part.reg R.CAL_STATUS.off, Part.reg R.CAL_IRQ_STATUS.off] ++ irqParts)
    (Frame.trans (Frame.mono hLess (by simp)) (Frame.mono (hShow _) (by simp +contextual)))
    (by simp [chanKeptParts, irqParts, R.PWR_STATUS, R.SYS_PHASE, R.CAL_STATUS, R.CAL_IRQ_STATUS, R.MSIX_PBA])
    (by simp [irqParts, R.SYS_HOST_STATE, R.CAL_STATUS, R.CAL_IRQ_STATUS, R.MSIX_PBA])
    (by simp [irqParts, R.PWR_PFAIL_CFG, R.CAL_STATUS, R.CAL_IRQ_STATUS, R.MSIX_PBA]) (congrArg FltSt.opens hFlt) (congrArg FltSt.shadows hFlt)

theorem setLg (x : LgSt) : Dev.ChanKeeps n d { d with lg := x } :=
  ofFrame (ps := [Part.lg]) (Frame.setLg Frame.refl _ (by simp)) (by simp [chanKeptParts]) (by simp) (by simp) rfl rfl

theorem dropTable (lo hi : Nat) : Dev.ChanKeeps n d (d.dropTable lo hi) := by
  refine ⟨fun p hp => ?_, rfl, rfl, rfl, rfl⟩
  simp only [chanKeptParts, List.mem_cons, List.not_mem_nil, or_false] at hp
  rcases hp with rfl | rfl | rfl | rfl | rfl | rfl | rfl | rfl
  · exact fun _ _ => rfl
  · exact fun _ _ => rfl
  all_goals exact rfl

theorem dropBlock {lo hi : Nat} (hLo : 0xd0000 ≤ lo) : Dev.ChanKeeps n d (d.dropBlock lo hi) := by
  have hRd (r : Reg) (hr : r.off < 0xd0000) : (d.dropBlock lo hi).rd r = d.rd r := by
    simp only [Dev.rd, Dev.dropBlock, Store.get_dropRange, if_neg (show ¬(lo ≤ r.off ∧ r.off < hi) by omega)]
  refine ⟨fun p hp => ?_, rfl, rfl, hRd _ (by decide), hRd _ (by decide)⟩
  simp only [chanKeptParts, List.mem_cons, List.not_mem_nil, or_false] at hp
  rcases hp with rfl | rfl | rfl | rfl | rfl | rfl | rfl | rfl
  · exact fun r hr => hRd r (by rw [hr]; decide)
  · exact fun r hr => hRd r (by rw [hr]; decide)
  all_goals exact rfl

/-- The channel's own state is reset; the next channel's is not. -/
theorem chanState : Dev.ChanKeeps n d (d.chanState n) := by
  refine ⟨fun p hp => ?_, rfl, rfl, rfl, rfl⟩
  simp only [chanKeptParts, List.mem_cons, List.not_mem_nil, or_false] at hp
  rcases hp with rfl | rfl | rfl | rfl | rfl | rfl | rfl | rfl
  · exact fun _ _ => rfl
  · exact fun _ _ => rfl
  · exact rfl
  · exact rfl
  · exact rfl
  · exact rfl
  · exact rfl
  · exact Store.get_set_ne {} {} d.ch n (n + 1) _ (by omega)

theorem chanBlocks : Dev.ChanKeeps n d (d.chanBlocks n) :=
  (((((calDrop n).trans (setLg _)).trans (dropBlock (by omega))).trans (dropTable _ _)).trans (dropTable _ _)).trans (dropTable _ _)

theorem chanGone : Dev.ChanKeeps n d (d.chanGone n) :=
  (((chanBlocks.trans chanState).trans (setActive _ _)).trans (loopOff (by omega))).trans (loopOff (by omega))

end Dev.ChanKeeps

/-! ### The channel itself -/

theorem Dev.rd_dropBlock_in {lo hi : Nat} (r : Reg) (hLo : lo ≤ r.off) (hHi : r.off < hi) (hReset : r.rst = 0) : (d.dropBlock lo hi).rd r = 0 := by
  simp only [Dev.rd, Dev.dropBlock, Store.get_dropRange, if_pos (And.intro hLo hHi), hReset]
  rfl

theorem Dev.rd_loopOff {j : Nat} (hj : 5 ≤ j) (r : Reg) (hState : r.off ≠ (R.FLT_SRCi_STATE (lockSource j)).off) (hActive : r.off ≠ R.FLT_ACTIVE.off) :
    (d.loopOff j).rd r = d.rd r := by
  have hSaid : (d.lockSaid j false).rd r = d.rd r := by
    rw [Dev.lockSaid_eq]
    exact Dev.rd_setActive_ne _ _ _ _ hState hActive
  rw [← hSaid]
  unfold Dev.loopOff
  rw [if_neg (by omega)]
  rfl

theorem Dev.ch_loopOff {j : Nat} (hj : 5 ≤ j) : (d.loopOff j).ch = d.ch := by
  have hSaid : (d.lockSaid j false).ch = d.ch := by
    rw [Dev.lockSaid_eq]
    exact Dev.setActive_ch _ _ _
  rw [← hSaid]
  unfold Dev.loopOff
  rw [if_neg (by omega)]

/-- Every register of the channel reads its reset value of zero. -/
theorem Dev.rd_chanGone (hn : n < 8) (r : Reg) (hLo : 0x200000 + n * 0x20000 ≤ r.off) (hHi : r.off < 0x220000 + n * 0x20000) (hReset : r.rst = 0) :
    (d.chanGone n).rd r = 0 := by
  have hPixel := lockSource_lt (i := 8 + n) (by omega)
  have hBeam := lockSource_lt (i := 16 + n) (by omega)
  have hActive : r.off ≠ R.FLT_ACTIVE.off := by simp only [R.FLT_ACTIVE]; omega
  have hSource {k : Nat} (hk : k < 42) : r.off ≠ (R.FLT_SRCi_STATE k).off := by simp only [R.FLT_SRCi_STATE]; omega
  have hIlk (x : Dev) : x.ilkActive.rd r = x.rd r := Dev.rd_setActive_ne _ _ _ _ (hSource (by decide)) hActive
  have hState (x : Dev) : (x.chanState n).rd r = x.rd r := rfl
  rw [Dev.chanGone, Dev.rd_loopOff (by omega) r (hSource hBeam) hActive, Dev.rd_loopOff (by omega) r (hSource hPixel) hActive, hIlk, hState]
  exact Dev.rd_dropBlock_in r hLo hHi hReset

/-- The registers below the calibration block stay. -/
theorem Dev.rd_chanBlocks (r : Reg) (h : r.off < 0x100000) (hPba : r.off ≠ R.MSIX_PBA.off) : (d.chanBlocks n).rd r = d.rd r := by
  have hShow (x : Dev) : x.calShow.rd r = x.rd r := by
    have hPut : (x.putB F.CAL_STATUS.pending !x.cal.waits.isEmpty).rd r = x.rd r := Dev.rd_put_ne _ _ _ _ (by simp only [F.CAL_STATUS.pending, R.CAL_STATUS]; omega)
    unfold Dev.calShow
    dsimp only
    split
    · exact (Dev.rd_flag_ne _ _ _ _ _ _ (by simp only [R.CAL_IRQ_STATUS]; omega) hPba).trans hPut
    · exact hPut
  have hBlock (x : Dev) : (x.dropBlock (0x200000 + n * 0x20000) (0x220000 + n * 0x20000)).rd r = x.rd r := by
    simp only [Dev.rd, Dev.dropBlock, Store.get_dropRange, if_neg (show ¬(0x200000 + n * 0x20000 ≤ r.off ∧ r.off < 0x220000 + n * 0x20000) by omega)]
  exact (hBlock _).trans ((hShow (d.calLess n)).trans rfl)

theorem Dev.ch_chanGone (hNone : ∀ k < 32, d.shtState k ≠ 3) (n : Nat) : Store.get {} (d.chanGone n).ch n = {} := by
  have hIlk (x : Dev) : x.ilkActive.ch = x.ch := Dev.setActive_ch _ _ _
  have hSheets (k : Nat) (hk : k < 32) : (d.chanBlocks n).shtState k ≠ 3 := by
    have hSame : (d.chanBlocks n).shtState k = d.shtState k := by
      simp only [Dev.shtState, Dev.get]
      rw [Dev.rd_chanBlocks _ (by simp only [F.SHT_Dd_STATE.state, R.SHT_Dd_STATE]; omega) (by simp only [F.SHT_Dd_STATE.state, R.SHT_Dd_STATE, R.MSIX_PBA]; omega)]
    rw [hSame]
    exact hNone k hk
  have hDrop : (d.chanBlocks n).holdsDrop n = false := by
    rw [Dev.holdsDrop, List.any_eq_false]
    intro k hk
    simp [hSheets k (List.mem_range.1 hk)]
  rw [Dev.chanGone, Dev.ch_loopOff (by omega), Dev.ch_loopOff (by omega), hIlk]
  refine (Store.get_set_same {} (d.chanBlocks n).ch n _).trans ?_
  rw [hDrop]

end
end Sys2Proof.Machine
end

-- ==== Sitting: what STANDBY and WAKE ask of the sequencer ====
section
/-! SUPPORT. What STANDBY and WAKE ask of the sequencer. -/
open Sys2Proof Sys2Proof.Machine Sys2Proof.Claims
set_option maxRecDepth 20000

namespace Sys2Proof.Machine

section
variable {s : State} {d : Dev} {p : Nat}

/-! ### Requests in each state of the sequencer (R338, R340) -/

theorem State.downRequest_on (h : s.dev.pwrSt = 3) (hQ : s.dev.pwr.chanQ = []) : s.downRequest p = s.downNow p s.dev.doms.length := by
  unfold State.downRequest
  dsimp only
  split <;> simp_all

theorem State.downRequest_halted (h : s.dev.pwrSt = 5) : s.downRequest p = s.downNow p s.dev.doms.length := by
  unfold State.downRequest
  dsimp only
  split <;> simp_all

theorem State.downRequest_busy (h : s.dev.pwrSt = 3) (hQ : s.dev.pwr.chanQ ≠ []) : s.downRequest p = { s with dev := s.dev.downWaits p } := by
  unfold State.downRequest
  dsimp only
  split <;> simp_all

theorem State.upRequest_standby (h : s.dev.pwrSt = 1) : s.upRequest = ({ s with dev := s.dev.stepTimes } : State).upFrom 0 := by
  unfold State.upRequest
  dsimp only
  split <;> simp_all

theorem State.upRequest_falling (h : s.dev.pwrSt = 4) (hPurpose : s.dev.get F.PWR_STATE.purpose = 1) :
    s.upRequest = ({ s with dev := (s.dev.put F.PWR_STATE.pending 1).modPwr fun x => { x with up := true } }, false) := by
  unfold State.upRequest
  dsimp only
  split <;> simp_all

/-! ### What waits for the step in progress -/

theorem Frame.frd_eq {ps : List Part} {e : Dev} (h : Dev.Frame ps d e) (hFrd : Part.frd ∉ ps) : e.frd = d.frd := h _ hFrd
theorem Frame.pwr_eq {ps : List Part} {e : Dev} (h : Dev.Frame ps d e) (hPwr : Part.pwr ∉ ps) : e.pwr = d.pwr := h _ hPwr
theorem Dev.pwr_modPwr (u : PwrSt → PwrSt) : (d.modPwr u).pwr = u d.pwr := rfl
theorem Dev.get_modPwr (u : PwrSt → PwrSt) (g : Fld) : (d.modPwr u).get g = d.get g := rfl
theorem Dev.phaseSt_modPwr (u : PwrSt → PwrSt) (p : Nat) : (d.modPwr u).phaseSt p = d.phaseSt p := rfl
theorem Dev.phaseSt_put (g : Fld) (v p : Nat) : (d.put g v).phaseSt p = d.phaseSt p := rfl
theorem Dev.pwr_setPhase (p st : Nat) : (d.setPhase p st).pwr = d.pwr := rfl
theorem Dev.closed_downTaken (p : Nat) : (d.downTaken p).pwr.closed = d.pwr.closed := by
  rw [Dev.downTaken, Dev.pwr_modPwr, Dev.put_pwr, Dev.put_pwr]

/-- Phase 5 begins while rails still fall: the way up waits. -/
def Dev.wakeWaits (d : Dev) : Dev := ((d.setPhase 5 1).put F.PWR_STATE.pending 1).modPwr fun x => { x with up := true }

theorem Dev.pwr_wakeWaits : d.wakeWaits.pwr = { d.pwr with up := true } := by
  rw [Dev.wakeWaits, Dev.pwr_modPwr, Dev.put_pwr, Dev.pwr_setPhase]

theorem Dev.pwr_downWaits : (d.downWaits 1).pwr = { d.pwr with down := if d.pwr.down = 3 then 3 else 1, up := false } := by
  rw [Dev.downWaits, Dev.pwr_modPwr, Dev.put_pwr]

theorem Dev.frame_wakeWaits : Dev.Frame [Part.pwr, Part.sys, Part.reg R.PWR_STATE.off] d d.wakeWaits :=
  Frame.setPwr (Frame.put (Frame.setPhase Frame.refl 5 1 (by simp)) _ _ (by simp [F.PWR_STATE.pending])) _ (by simp)

theorem Dev.pending_wakeWaits : d.wakeWaits.get F.PWR_STATE.pending = 1 := by
  rw [Dev.wakeWaits, Dev.get_modPwr, Dev.get_put_same _ _ _ rfl]
  rfl

theorem Dev.frame_downWaits : Dev.Frame [Part.pwr, Part.reg R.PWR_STATE.off] d (d.downWaits 1) :=
  Frame.setPwr (Frame.put Frame.refl _ _ (by simp [F.PWR_STATE.pending])) _ (by simp)

theorem Dev.pending_downWaits : (d.downWaits 1).get F.PWR_STATE.pending = 1 := by
  rw [Dev.downWaits, Dev.get_modPwr, Dev.get_put_same _ _ _ rfl]
  rfl

theorem Dev.phaseSt_wakeWaits : d.wakeWaits.phaseSt 5 = 1 := by
  rw [Dev.wakeWaits, Dev.phaseSt_modPwr, Dev.phaseSt_put, Dev.phaseSt_setPhase]

/-! ### WAKE (R340) -/

/-- Phase 5 of a standby device begins again. -/
def Dev.waking (d : Dev) : Dev := (d.put F.PWR_STATE.purpose 0).phaseBegin 5

theorem State.wake_standby (h : s.dev.pwrSt = 1) (hPhase : s.dev.phaseSt 5 = 5) : s.wake = ({ s with dev := s.dev.waking } : State).upRequest := by
  unfold State.wake
  dsimp only
  rw [if_neg (by simp [h]), if_pos (by simp [h, hPhase]), if_pos h]
  simp only [Dev.waking]

theorem State.wake_falls (h : s.dev.pwrSt = 4) (hPurpose : s.dev.get F.PWR_STATE.purpose = 1) :
    s.wake = ({ s with dev := s.dev.setPhase 5 1 } : State).upRequest := by
  unfold State.wake
  dsimp only
  rw [if_neg (by simp [h]), if_pos (by simp [h, hPurpose]), if_neg (by simp [h])]

theorem State.wake_ignored (h : s.dev.pwrSt = 2 ∨ s.dev.pwrSt = 3) : s.wake = (s, false) := by
  unfold State.wake
  exact if_pos (by rcases h with h | h <;> simp [h])

theorem State.wake_refused (h : s.dev.pwrSt ≠ 2 ∧ s.dev.pwrSt ≠ 3) (h1 : s.dev.pwrSt = 1 → s.dev.phaseSt 5 ≠ 5)
    (h4 : s.dev.pwrSt = 4 → s.dev.get F.PWR_STATE.purpose ≠ 1) : s.wake = ({ s with dev := s.dev.pwrRefuse }, false) := by
  unfold State.wake
  dsimp only
  rw [if_neg (by simp [h.1, h.2]), if_neg ?_]
  simp only [Bool.or_eq_true, Bool.and_eq_true, decide_eq_true_eq, not_or, not_and]
  exact ⟨h1, h4⟩

theorem State.wakeCmd_false {t : State} (h : s.wake = (t, false)) : s.wakeCmd = t := by
  unfold State.wakeCmd
  rw [h]
  rfl

theorem State.wakeCmd_true {t : State} (h : s.wake = (t, true)) (hPhase : t.dev.phaseSt 5 = 1) : s.wakeCmd = { t with dev := t.dev.end5 } := by
  unfold State.wakeCmd
  rw [h]
  simp only [hPhase, decide_true, Bool.and_self, if_true]

theorem State.wakeCmd_falls (h : s.dev.pwrSt = 4) (hPurpose : s.dev.get F.PWR_STATE.purpose = 1) : s.wakeCmd = { s with dev := s.dev.wakeWaits } := by
  have hSt : (s.dev.setPhase 5 1).pwrSt = 4 := h
  have hShown : (s.dev.setPhase 5 1).get F.PWR_STATE.purpose = 1 := hPurpose
  refine State.wakeCmd_false ?_
  rw [State.wake_falls h hPurpose, Dev.wakeWaits]
  generalize s.dev.setPhase 5 1 = d at hSt hShown
  exact State.upRequest_falling (s := { s with dev := d }) hSt hShown

/-! ### A standby device that wakes -/

/-- A standby device whose rails begin to rise. -/
def Dev.rising (d : Dev) : Dev := d.waking.stepTimes.put F.PWR_STATE.state 2

/-- What a standby device that wakes changes before the first step. -/
def wakeParts : List Part := [Part.reg R.PWR_STATE.off] ++ begunParts ++ (List.range 19).map fun k => Part.reg (R.PWR_STEP_TIMEi k).off

theorem Dev.frame_waking : Dev.Frame ([Part.reg R.PWR_STATE.off] ++ begunParts) d d.waking :=
  Frame.phaseBegin (Frame.put Frame.refl _ _ (by simp [F.PWR_STATE.purpose])) 5 (by simp [begunParts]) (by simp [begunParts]) (by simp [begunParts])

theorem Dev.frame_rising : Dev.Frame wakeParts d d.rising :=
  Frame.put (Frame.trans (Frame.mono Dev.frame_waking (by simp +contextual [wakeParts])) (Frame.mono Dev.frame_stepTimes (by simp +contextual [wakeParts]))) _ _
    (by simp [wakeParts, F.PWR_STATE.state])

theorem State.upRequest_waking (h : s.dev.pwrSt = 1) : ({ s with dev := s.dev.waking } : State).upRequest = ({ s with dev := s.dev.rising } : State).upNext 0 := by
  have hSt : s.dev.waking.pwrSt = 1 := by
    have hOther : (s.dev.put F.PWR_STATE.purpose 0).pwrSt = s.dev.pwrSt := Dev.get_put_other s.dev F.PWR_STATE.purpose F.PWR_STATE.state 0 rfl rfl rfl rfl
    have hBegin : Dev.Frame begunParts (s.dev.put F.PWR_STATE.purpose 0) s.dev.waking :=
      Frame.phaseBegin Frame.refl 5 (by simp [begunParts]) (by simp [begunParts]) (by simp [begunParts])
    exact (Frame.get hBegin F.PWR_STATE.state (by decide)).trans (hOther.trans h)
  rw [State.upRequest_standby (s := { s with dev := s.dev.waking }) hSt, State.upFrom_eq]
  rfl

theorem Dev.pwrSt_rising : d.rising.pwrSt = 2 := Dev.get_put_same d.waking.stepTimes F.PWR_STATE.state 2 rfl

theorem Dev.purpose_rising : d.rising.get F.PWR_STATE.purpose = 0 := by
  have hState : d.rising.get F.PWR_STATE.purpose = d.waking.stepTimes.get F.PWR_STATE.purpose :=
    Dev.get_put_other d.waking.stepTimes F.PWR_STATE.state F.PWR_STATE.purpose 2 rfl rfl rfl rfl
  have hTimes : d.waking.stepTimes.get F.PWR_STATE.purpose = d.waking.get F.PWR_STATE.purpose := Frame.get Dev.frame_stepTimes _ (by decide)
  have hBegin : Dev.Frame begunParts (d.put F.PWR_STATE.purpose 0) d.waking :=
    Frame.phaseBegin Frame.refl 5 (by simp [begunParts]) (by simp [begunParts]) (by simp [begunParts])
  rw [hState, hTimes, Frame.get hBegin F.PWR_STATE.purpose (by decide), Dev.get_put_same _ _ _ rfl]
  rfl

theorem Dev.frame_risen : Dev.Frame ((List.range 19).map (fun k => Part.reg (R.PWR_STEP_TIMEi k).off) ++ [Part.reg R.PWR_STATE.off]) d.waking d.rising :=
  Frame.put (Frame.mono Dev.frame_stepTimes (by simp +contextual)) _ _ (by simp [F.PWR_STATE.state])

theorem Dev.phaseSt_rising : d.rising.phaseSt 5 = 1 :=
  (Dev.phaseSt_congr (Dev.ph_of_frame Dev.frame_risen (by simp)) 5).trans (Dev.phaseSt_phaseBegin 5)

theorem Dev.phase_rising : d.rising.get F.SYS_PHASE.phase = 5 ∧ d.rising.get F.SYS_PHASE.state = 1 :=
  ⟨(Frame.get Dev.frame_risen _ (by decide)).trans (Dev.phase_showPhase 5 1 0), (Frame.get Dev.frame_risen _ (by decide)).trans (Dev.state_showPhase 5 1 0)⟩

theorem Dev.stepTime_rising {k : Nat} (hk : k < 19) : d.rising.rd (R.PWR_STEP_TIMEi k) = 0xFFFFFFFF := by
  have hState : d.rising.rd (R.PWR_STEP_TIMEi k) = d.waking.stepTimes.rd (R.PWR_STEP_TIMEi k) :=
    Dev.rd_put_ne _ _ _ _ (by simp only [F.PWR_STATE.state, R.PWR_STATE, R.PWR_STEP_TIMEi]; omega)
  exact hState.trans (Dev.rd_stepTimes hk)

theorem Dev.nextOff_waking (i : Nat) : d.rising.nextOff i = d.nextOff i :=
  Dev.nextOff_congr (Dev.frame_rising Part.frd (by decide)) (Frame.rd Dev.frame_rising _ (by decide)) i

/-- ON is reached at once: phase 5 ends. -/
theorem State.wakeCmd_on (h : s.dev.pwrSt = 1) (hPhase : s.dev.phaseSt 5 = 5) (hNone : s.dev.nextOff 0 = none) :
    s.wakeCmd = { s with dev := s.dev.rising.reachedOn.end5 } := by
  have hNext : s.dev.rising.nextOff 0 = none := (Dev.nextOff_waking 0).trans hNone
  have hRuns : s.dev.rising.reachedOn.phaseSt 5 = 1 :=
    (Dev.phaseSt_congr (Dev.ph_of_frame Dev.frame_reachedOn (by simp [activeParts, pwrFlagParts, irqParts])) 5).trans Dev.phaseSt_rising
  refine State.wakeCmd_true (t := { s with dev := s.dev.rising.reachedOn }) ?_ hRuns
  rw [State.wake_standby h hPhase, State.upRequest_waking h, State.upNext_none (s := { s with dev := s.dev.rising }) hNext]

/-- A first step begins. -/
theorem State.wakeCmd_steps {j : Nat} {f : DomEntry} (h : s.dev.pwrSt = 1) (hPhase : s.dev.phaseSt 5 = 5) (hSome : s.dev.nextOff 0 = some (j, f)) :
    s.wakeCmd = ({ s with dev := s.dev.rising } : State).stepBegin j f true := by
  have hNext : s.dev.rising.nextOff 0 = some (j, f) := (Dev.nextOff_waking 0).trans hSome
  refine State.wakeCmd_false ?_
  rw [State.wake_standby h hPhase, State.upRequest_waking h, State.upNext_some (s := { s with dev := s.dev.rising }) hNext]

/-- The registers that a step begins with; phases stay as they are. -/
theorem State.ph_stepBegin_up (i : Nat) (f : DomEntry) : (s.stepBegin i f true).dev.sys.ph = s.dev.sys.ph := by
  by_cases h : f.kind = 1
  · rw [State.stepBegin_rail h]
    exact (Dev.ph_of_frame (Dev.frame_railMoved _) (by simp)).trans (Dev.ph_of_frame Dev.frame_entryShown (by simp))
  · rw [State.stepBegin_close h]
    have hClosed : Dev.Frame [Part.pwr, Part.reg R.PWR_STATE.off] s.dev ((s.dev.entryShown i).switchClosed f.index) := Frame.setPwr Dev.frame_entryShown _ (by simp)
    exact Dev.ph_of_frame hClosed (by simp)

end
end Sys2Proof.Machine
end

-- ==== Sitting: one channel's domain as the sequencer switches it ====
section
/-! SUPPORT. One channel's domain as the sequencer switches it. -/
open Sys2Proof Sys2Proof.Machine Sys2Proof.Claims
set_option maxRecDepth 20000

namespace Sys2Proof.Machine

section
variable {s : State}

/-! ### Channels (R341) -/

/-- The state whose queue holds one channel step. -/
abbrev State.queued (s : State) (n : Nat) (on : Bool) : State := { s with dev := s.dev.withChanQ [(n, on)] }

/-- The device as the domain of a channel goes off. -/
def Dev.chanMarked (d : Dev) (n i : Nat) : Dev := ((d.withChanQ [(n, false)]).entryShown i).domMarked (4 + n)

theorem Dev.frame_withChanQ {d : Dev} (l : List (Nat × Bool)) : Dev.Frame [Part.pwr] d (d.withChanQ l) := Frame.setPwr Frame.refl _ (by simp)

theorem Dev.frame_domMarked {d : Dev} (k : Nat) : Dev.Frame [Part.pwr, Part.reg R.PWR_DOMAINS.off] d (d.domMarked k) :=
  Frame.putBit (Frame.setPwr Frame.refl _ (by simp)) _ _ _ (by simp [F.PWR_DOMAINS.domains])

theorem Dev.frame_chanMarked {d : Dev} (n i : Nat) : Dev.Frame [Part.pwr, Part.reg R.PWR_STATE.off, Part.reg R.PWR_DOMAINS.off] d (d.chanMarked n i) :=
  Frame.trans (Frame.trans (Frame.mono (Dev.frame_withChanQ _) (by simp)) (Frame.mono Dev.frame_entryShown (by simp))) (Frame.mono (Dev.frame_domMarked _) (by simp))

theorem Dev.domOn_domMarked {d : Dev} {k : Nat} (hk : k < 12) : (d.domMarked k).domOn k = false := by
  have hField (x : Dev) : bit (x.get F.PWR_DOMAINS.domains) k = x.domOn k := bit_mod (x.rd R.PWR_DOMAINS) 12 k hk
  rw [← hField, Dev.domMarked, Dev.bit_putBit _ _ _ _ rfl hk, if_pos rfl]

theorem Dev.pwrSt_withChanQ {d : Dev} (l : List (Nat × Bool)) : (d.withChanQ l).pwrSt = d.pwrSt := rfl
theorem Dev.domOn_withChanQ {d : Dev} (l : List (Nat × Bool)) (k : Nat) : (d.withChanQ l).domOn k = d.domOn k := rfl
theorem Dev.entryOn_withChanQ {d : Dev} (l : List (Nat × Bool)) (e : DomEntry) : (d.withChanQ l).entryOn e = d.entryOn e := rfl
theorem Dev.chanEntry_withChanQ {d : Dev} (l : List (Nat × Bool)) (n : Nat) : (d.withChanQ l).chanEntry n = d.chanEntry n := rfl
theorem Dev.chan_withChanQ {d : Dev} (l : List (Nat × Bool)) (n : Nat) : (d.withChanQ l).chan n = d.chan n := rfl

/-- A channel that is on: its domain goes off. -/
theorem State.chanQueue_off {n : Fin 8} {i : Nat} {e : DomEntry} (hQ : s.dev.pwr.chanQ = []) (hEntry : s.dev.chanEntry n = some (i, e)) (hOn : s.dev.domOn (4 + n) = true) :
    s.chanQueue [(n.val, false)] = (State.queued s n false).stepBegin i e false := by
  have hStep : (s.dev.withChanQ [(n.val, false)]).entryOn e ≠ false := by
    rw [Dev.entryOn_withChanQ, Dev.entryOn_chan hEntry, hOn]
    simp
  rw [State.chanQueue_idle hQ]
  exact State.chanBegin_step (s := State.queued s n false) rfl hEntry hStep (by simp)

/-- A channel that is off already. -/
theorem State.chanQueue_skip {n : Fin 8} {i : Nat} {e : DomEntry} (hQ : s.dev.pwr.chanQ = []) (hEntry : s.dev.chanEntry n = some (i, e)) (hOff : s.dev.domOn (4 + n) = false) :
    s.chanQueue [(n.val, false)] = { s with dev := (s.dev.withChanQ [(n.val, false)]).withChanQ [] } := by
  have hSkip : (s.dev.withChanQ [(n.val, false)]).entryOn e = false := by
    rw [Dev.entryOn_withChanQ, Dev.entryOn_chan hEntry, hOff]
  rw [State.chanQueue_idle hQ]
  exact State.chanBegin_skip (s := State.queued s n false) rfl hEntry hSkip

theorem State.stepBegin_chan {n i : Nat} {e : DomEntry} (hEntry : s.dev.chanEntry n = some (i, e)) :
    Dev.PowerStays (s.dev.chanMarked n i) ((State.queued s n false).stepBegin i e false).dev ∧
      (State.queued s n false).stepBegin i e false = ({ s with dev := (s.dev.withChanQ [(n, false)]).entryShown i } : State).domOff (4 + n) := by
  obtain ⟨hKind, hIndex⟩ := Dev.chanEntry_spec hEntry
  rw [State.stepBegin_open (by omega), hIndex]
  exact ⟨Dev.powerStays_domOff (s := { s with dev := (s.dev.withChanQ [(n, false)]).entryShown i }) (4 + n), rfl⟩

theorem Dev.flt_chanMarked {d : Dev} (n i : Nat) : (d.chanMarked n i).flt = d.flt := Frame.flt_eq (Dev.frame_chanMarked n i) (by simp) (by simp)

theorem Dev.shtState_chanMarked {d : Dev} (n i k : Nat) : (d.chanMarked n i).shtState k = d.shtState k := by
  refine Frame.get (Dev.frame_chanMarked n i) (F.SHT_Dd_STATE.state k) ?_
  simp only [F.SHT_Dd_STATE.state, R.SHT_Dd_STATE, R.PWR_STATE, R.PWR_DOMAINS, List.mem_cons, List.not_mem_nil, or_false, reduceCtorEq, false_or, Part.reg.injEq]
  omega

/-- No sheet holds the channel: only its own state goes. -/
theorem State.stepBegin_chanFree {n i : Nat} {e : DomEntry} (hEntry : s.dev.chanEntry n = some (i, e)) (hNone : ∀ k < 32, s.dev.shtState k ≠ 3) :
    (State.queued s n false).stepBegin i e false = { s with dev := (s.dev.chanMarked n i).chanGone n } := by
  have hSheets (k : Nat) (hk : k < 32) : (s.dev.chanMarked n i).shtState k ≠ 3 := by
    rw [Dev.shtState_chanMarked]
    exact hNone k hk
  rw [(State.stepBegin_chan hEntry).2, State.domOff_chan (by omega) (by omega) (by omega), Nat.add_sub_cancel_left, ← Dev.chanMarked, Dev.dropFromSheets_none hSheets]

theorem Dev.chanKeeps_marked {d : Dev} (n i : Nat) : Dev.ChanKeeps n d (d.chanMarked n i) :=
  .ofFrame (Dev.frame_chanMarked n i) (by simp [chanKeptParts, R.PWR_STATUS, R.SYS_PHASE, R.PWR_STATE, R.PWR_DOMAINS]) (by decide) (by decide)
    (congrArg FltSt.opens (Dev.flt_chanMarked n i)) (congrArg FltSt.shadows (Dev.flt_chanMarked n i))

theorem Dev.chanKeeps_gone {d : Dev} (n i : Nat) : Dev.ChanKeeps n d ((d.chanMarked n i).chanGone n) := (Dev.chanKeeps_marked n i).trans .chanGone

theorem Dev.chanBusy_none {d : Dev} (h : ∀ k < 32, d.shtState k ≠ 2 ∧ d.shtState k ≠ 3) (n : Nat) : d.chanBusy n = false := by
  rw [Dev.chanBusy, List.any_eq_false]
  intro k hk
  simp [h k (List.mem_range.1 hk)]

theorem Dev.mayRise_chan {d : Dev} {n i : Nat} {e : DomEntry} (hEntry : d.chanEntry n = some (i, e)) (hChan : (d.chan n).isSome = true) : d.mayRise e = true := by
  obtain ⟨-, hIndex⟩ := Dev.chanEntry_spec hEntry
  rw [Dev.mayRise, hIndex, Nat.add_sub_cancel_left, hChan, Bool.or_true]

/-- A channel that is off and may rise: its switches close. -/
theorem State.chanQueue_on {n : Fin 8} {i : Nat} {e : DomEntry} (hQ : s.dev.pwr.chanQ = []) (hEntry : s.dev.chanEntry n = some (i, e)) (hOff : s.dev.domOn (4 + n) = false)
    (hChan : (s.dev.chan n).isSome = true) :
    s.chanQueue [(n.val, true)] = { s with dev := ((s.dev.withChanQ [(n.val, true)]).entryShown i).switchClosed e.index } := by
  have hStep : (s.dev.withChanQ [(n.val, true)]).entryOn e ≠ true := by
    rw [Dev.entryOn_withChanQ, Dev.entryOn_chan hEntry, hOff]
    simp
  obtain ⟨hKind, -⟩ := Dev.chanEntry_spec hEntry
  rw [State.chanQueue_idle hQ, State.chanBegin_step (s := State.queued s n true) rfl hEntry hStep fun _ => Dev.mayRise_chan (d := s.dev) hEntry hChan,
    State.stepBegin_close (by omega)]

theorem Dev.pwr_switchClosed {d : Dev} (n i k : Nat) :
    (((d.withChanQ [(n, true)]).entryShown i).switchClosed k).pwr.chanQ = [(n, true)] ∧ (((d.withChanQ [(n, true)]).entryShown i).switchClosed k).pwr.stepAt = d.sys.now8 := ⟨rfl, rfl⟩

theorem Dev.frame_switchClosed {d : Dev} (n i k : Nat) : Dev.Frame [Part.pwr, Part.reg R.PWR_STATE.off] d (((d.withChanQ [(n, true)]).entryShown i).switchClosed k) :=
  Frame.setPwr (Frame.trans (Frame.mono (Dev.frame_withChanQ _) (by simp)) Dev.frame_entryShown) _ (by simp)

end
end Sys2Proof.Machine
end

-- ==== Sitting: requests of the power sequencer ====
section
/-! PROOF. Requests that are refused, STANDBY, and WAKE while rails fall. -/
open Sys2Proof Sys2Proof.Machine Sys2Proof.Claims
set_option maxRecDepth 20000

namespace Sys2Proof.Proofs

section
variable {s : State} {P : State → Prop}

/-! ### Commands that reach the sequencer (R71) -/

theorem State.reach_direct {o : Nat} (h : s.dev.direct o) (f : State → State) : s.reach o f = f s := by
  obtain ⟨hEndpoint, hD3, hDomain, -⟩ := h
  rw [State.reach, Dev.barred, if_neg (by simp [hEndpoint]), if_neg (by simp [hD3]), if_pos hDomain]

theorem completes_standby (h : s.dev.direct R.PWR_CMD.off) (hP : P s.standby) : Completes (exec .standby s) P :=
  ⟨_, congrArg Host.Outcome.next (State.reach_direct h _), hP⟩

theorem completes_wake (h : s.dev.direct R.PWR_CMD.off) (hP : P s.wakeCmd) : Completes (exec .wake s) P :=
  ⟨_, congrArg Host.Outcome.next (State.reach_direct h _), hP⟩

theorem completes_channelPowerOn {mask : Byte} (h : s.dev.direct R.PWR_CHAN_CMD.off) (hP : P (s.chanSwitch 0 mask.toNat false)) :
    Completes (exec (.channelPowerOn mask) s) P :=
  ⟨_, congrArg Host.Outcome.next (State.reach_direct h _), hP⟩

theorem completes_channelPowerOff {mask : Byte} {force : Bool} {t : State} (h : s.dev.direct R.PWR_CHAN_CMD.off) (ht : s.chanSwitch mask.toNat 0 force = t)
    (hIdle : t.dev.idleStart = false) (hP : P t) : Completes (exec (.channelPowerOff mask force) s) P := by
  refine ⟨t, ?_, hP⟩
  change Host.Outcome.next (s.reach R.PWR_CHAN_CMD.off fun s => s.chanSwitch mask.toNat 0 force).idleCheck = _
  rw [State.reach_direct h, ht, State.idleCheck, if_neg (by simp [hIdle])]

/-! ### Requests that are refused or ignored (R338) -/

theorem Dev.pwrRefused_pwrRefuse (d : Dev) : pwrRefused d d.pwrRefuse := by
  refine ⟨?_, Dev.bit_pwrFlag (by decide)⟩
  exact (Dev.get_pwrFlag 6 _ (by decide) (by decide)).trans (Dev.get_count_same d F.PWR_COUNTS.reject 1 rfl)

theorem Dev.frame_pwrRefuse (d : Dev) : Dev.Frame pwrRefuseParts d d.pwrRefuse :=
  Frame.flag (Frame.count Frame.refl _ _ (by simp [pwrRefuseParts, F.PWR_COUNTS.reject])) _ _ _ _ (by simp [pwrRefuseParts, pwrFlagParts])
    (by simp +contextual [pwrRefuseParts, pwrFlagParts])

theorem wake_ignored (hDirect : s.dev.direct R.PWR_CMD.off) (hOn : s.dev.pwrSt = 2 ∨ s.dev.pwrSt = 3) : Completes (exec .wake s) fun t => t = s := by
  refine completes_wake hDirect ?_
  rw [State.wakeCmd_false (State.wake_ignored hOn)]

theorem standby_refused (hDirect : s.dev.direct R.PWR_CMD.off) (hNot : s.dev.get F.SYS_HOST_STATE.state ≠ 4 ∨ (s.dev.pwrSt ≠ 3 ∧ s.dev.pwrSt ≠ 5)) :
    Completes (exec .standby s) fun t => pwrRefused s.dev t.dev ∧ s.Frame pwrRefuseParts t := by
  have hOk : s.dev.standbyOk = false := by
    rw [Dev.standbyOk]
    rcases hNot with h | ⟨h3, h5⟩
    · simp [h]
    · simp [h3, h5]
  refine completes_standby hDirect ?_
  rw [State.standby, if_neg (by simp [hOk])]
  exact ⟨Dev.pwrRefused_pwrRefuse _, Frame.ofDev (Dev.frame_pwrRefuse _)⟩

theorem wake_refused (hDirect : s.dev.direct R.PWR_CMD.off) (hSt : s.dev.pwrSt ≠ 2 ∧ s.dev.pwrSt ≠ 3) (h1 : s.dev.pwrSt = 1 → s.dev.phaseSt 5 ≠ 5)
    (h4 : s.dev.pwrSt = 4 → s.dev.get F.PWR_STATE.purpose ≠ 1) : Completes (exec .wake s) fun t => pwrRefused s.dev t.dev ∧ s.Frame pwrRefuseParts t := by
  refine completes_wake hDirect ?_
  rw [State.wakeCmd_false (State.wake_refused hSt h1 h4)]
  exact ⟨Dev.pwrRefused_pwrRefuse _, Frame.ofDev (Dev.frame_pwrRefuse _)⟩

theorem channelPower_refused (mask : Byte) (force : Bool) (hDirect : s.dev.direct R.PWR_CHAN_CMD.off) (hIdle : s.dev.idleStart = false) (hSt : s.dev.pwrSt ≠ 3) :
    Completes (exec (.channelPowerOff mask force) s) (fun t => pwrRefused s.dev t.dev ∧ s.Frame pwrRefuseParts t) ∧
      Completes (exec (.channelPowerOn mask) s) (fun t => pwrRefused s.dev t.dev ∧ s.Frame pwrRefuseParts t) := by
  have hEnd : pwrRefused s.dev s.dev.pwrRefuse ∧ s.Frame pwrRefuseParts { s with dev := s.dev.pwrRefuse } :=
    ⟨Dev.pwrRefused_pwrRefuse _, Frame.ofDev (Dev.frame_pwrRefuse _)⟩
  have hFrame := Dev.frame_pwrRefuse s.dev
  refine ⟨completes_channelPowerOff hDirect (State.chanSwitch_refused hSt _ _ _) ?_ hEnd, completes_channelPowerOn hDirect ?_⟩
  · exact idleStart_of_rd hIdle (Frame.rd hFrame _ (by decide)) (Frame.rd hFrame _ (by decide)) (Frame.rd hFrame _ (by decide))
  · rw [State.chanSwitch_refused hSt]
    exact hEnd

/-! ### STANDBY (R340) -/

theorem State.standby_taken (hHost : s.dev.get F.SYS_HOST_STATE.state = 4) (hSt : (s.dev.pwrSt = 3 ∧ s.dev.pwr.chanQ = []) ∨ s.dev.pwrSt = 5) :
    s.standby = s.downNow 1 s.dev.doms.length := by
  have hOk : s.dev.standbyOk = true := by
    rw [Dev.standbyOk]
    rcases hSt with ⟨h, -⟩ | h <;> simp [hHost, h]
  rw [State.standby, if_pos hOk]
  rcases hSt with ⟨h, hQ⟩ | h
  · exact State.downRequest_on h hQ
  · exact State.downRequest_halted h

/-- The device as its power-down to standby begins. -/
theorem Dev.downBegun (d : Dev) :
    (d.downTaken 1).falling.pwrSt = 4 ∧ (d.downTaken 1).falling.get F.PWR_STATE.purpose = 1 ∧
    Dev.Frame ([Part.pwr, Part.reg R.PWR_STATE.off] ++ activeParts 31) d (d.downTaken 1).falling ∧
    (∀ i, (d.downTaken 1).falling.nextOn i = d.nextOn i) := by
  have hFrame : Dev.Frame ([Part.pwr, Part.reg R.PWR_STATE.off] ++ activeParts 31) d (d.downTaken 1).falling :=
    Frame.trans (Frame.mono (Dev.frame_downTaken 1) (by simp)) (Frame.mono Dev.frame_falling (by simp +contextual))
  refine ⟨Dev.pwrSt_falling, (Dev.get_falling F.PWR_STATE.purpose rfl rfl (by decide)).trans (Dev.purpose_downTaken (by decide)), hFrame, fun i => ?_⟩
  have hClosed : (d.downTaken 1).falling.pwr.closed = d.pwr.closed := by
    rw [Frame.pwr_eq Dev.frame_falling (by simp [activeParts]), Dev.closed_downTaken]
  exact Dev.nextOn_congr (Frame.frd_eq hFrame (by simp [activeParts])) (Frame.rd hFrame _ (by decide)) hClosed i

theorem standby_begins (hDirect : s.dev.direct R.PWR_CMD.off) (hHost : s.dev.get F.SYS_HOST_STATE.state = 4)
    (hSt : (s.dev.pwrSt = 3 ∧ s.dev.pwr.chanQ = []) ∨ s.dev.pwrSt = 5) :
    Completes (exec .standby s) fun t =>
      (t.dev.pwrSt = if s.dev.nextOn s.dev.doms.length = none then 1 else 4) ∧ t.dev.get F.PWR_STATE.purpose = 1 ∧ t.dev.get F.SYS_HOST_STATE.state = 4 ∧
      t.pending = s.pending := by
  obtain ⟨hFalls, hPurpose, hFrame, hNext⟩ := Dev.downBegun s.dev
  refine completes_standby hDirect ?_
  rw [State.standby_taken hHost hSt, State.downNow_eq, ← hNext]
  have hHost' : (s.dev.downTaken 1).falling.get F.SYS_HOST_STATE.state = 4 := (Frame.get hFrame _ (by decide)).trans hHost
  generalize s.dev.doms.length = l
  generalize (s.dev.downTaken 1).falling = d at hFalls hPurpose hHost'
  cases h : d.nextOn l with
  | none =>
    rw [State.downNext_standby (s := { s with dev := d }) h hPurpose]
    exact ⟨Dev.pwrSt_standingBy, (Dev.get_standingBy F.PWR_STATE.purpose rfl rfl (by decide)).trans hPurpose, Dev.host_standingBy hHost', rfl⟩
  | some p =>
    obtain ⟨j, f⟩ := p
    have hStep := State.stepped_stepBegin (s := { s with dev := d }) j f false
    rw [State.downNext_some (s := { s with dev := d }) h]
    exact ⟨(hStep.state F.PWR_STATE.state rfl rfl (.inr (by decide))).trans hFalls, (hStep.state F.PWR_STATE.purpose rfl rfl (.inr (by decide))).trans hPurpose,
      hStep.host hHost', hStep.pending⟩

theorem standby_waits (hDirect : s.dev.direct R.PWR_CMD.off) (hHost : s.dev.get F.SYS_HOST_STATE.state = 4) (hSt : s.dev.pwrSt = 3) (hQ : s.dev.pwr.chanQ ≠ []) :
    Completes (exec .standby s) fun t =>
      t.dev.get F.PWR_STATE.pending = 1 ∧ t.dev.pwr = { s.dev.pwr with down := if s.dev.pwr.down = 3 then 3 else 1, up := false } ∧
      s.Frame [Part.pwr, Part.reg R.PWR_STATE.off] t := by
  have hStandby : s.standby = { s with dev := s.dev.downWaits 1 } := by
    rw [State.standby, if_pos (by simp [Dev.standbyOk, hHost, hSt])]
    exact State.downRequest_busy hSt hQ
  refine completes_standby hDirect ?_
  rw [hStandby]
  exact ⟨Dev.pending_downWaits, Dev.pwr_downWaits, Frame.ofDev Dev.frame_downWaits⟩

theorem standby_dropsRail {j : Nat} {f : DomEntry} (hDirect : s.dev.direct R.PWR_CMD.off) (hHost : s.dev.get F.SYS_HOST_STATE.state = 4)
    (hSt : s.dev.pwrSt = 3 ∨ s.dev.pwrSt = 5) (hQ : s.dev.pwr.chanQ = []) (hNext : s.dev.nextOn s.dev.doms.length = some (j, f))
    (hRail : f.kind = 1 ∧ f.index < 8 ∧ j < 32) :
    Completes (exec .standby s) fun t =>
      t.dev.pwrSt = 4 ∧ t.dev.get F.PWR_STATE.purpose = 1 ∧ t.dev.get F.PWR_STATE.entry = j ∧
      bit (t.dev.get F.PWR_STATUS.seq_en) f.index = false ∧ bit (t.dev.get F.PWR_DOMAINS.rails) f.index = false ∧
      s.Frame ([Part.pwr, Part.reg R.PWR_STATE.off, Part.reg R.PWR_STATUS.off, Part.reg R.PWR_DOMAINS.off] ++ activeParts 31) t := by
  obtain ⟨hFalls, hPurpose, hFrame, hSame⟩ := Dev.downBegun s.dev
  obtain ⟨hKind, hIndex, hj⟩ := hRail
  have hTaken : s.standby = s.downNow 1 s.dev.doms.length := State.standby_taken hHost (by rcases hSt with h | h; exacts [.inl ⟨h, hQ⟩, .inr h])
  refine completes_standby hDirect ?_
  rw [← hSame] at hNext
  rw [hTaken, State.downNow_eq]
  generalize s.dev.doms.length = l at hNext
  generalize (s.dev.downTaken 1).falling = d at hFalls hPurpose hFrame hNext
  have hStep := State.stepped_stepBegin (s := { s with dev := d }) j f false
  rw [State.downNext_some (s := { s with dev := d }) hNext]
  rw [State.stepBegin_rail hKind] at hStep ⊢
  refine ⟨(hStep.state F.PWR_STATE.state rfl rfl (.inr (by decide))).trans hFalls, (hStep.state F.PWR_STATE.purpose rfl rfl (.inr (by decide))).trans hPurpose,
    hStep.entry.trans (Nat.mod_eq_of_lt hj), Dev.seqEn_railMoved hIndex, Dev.rails_railMoved hIndex, Frame.ofDev ?_⟩
  exact Frame.trans (Frame.trans (Frame.mono hFrame (by simp; tauto)) (Frame.mono Dev.frame_entryShown (by simp))) (Frame.mono (Dev.frame_railMoved _) (by simp))

/-! ### WAKE (R340) -/

theorem wake_turnsBack (hDirect : s.dev.direct R.PWR_CMD.off) (hSt : s.dev.pwrSt = 4) (hPurpose : s.dev.get F.PWR_STATE.purpose = 1) :
    Completes (exec .wake s) fun t =>
      t.dev.get F.PWR_STATE.pending = 1 ∧ t.dev.pwr = { s.dev.pwr with up := true } ∧ t.dev.phaseSt 5 = 1 ∧ s.Frame [Part.pwr, Part.sys, Part.reg R.PWR_STATE.off] t := by
  refine completes_wake hDirect ?_
  rw [State.wakeCmd_falls hSt hPurpose]
  exact ⟨Dev.pending_wakeWaits, Dev.pwr_wakeWaits, Dev.phaseSt_wakeWaits, Frame.ofDev Dev.frame_wakeWaits⟩

end
end Sys2Proof.Proofs
end

-- ==== Sitting: power requests (O45) ====
section
/-! PROOF. Power-ups from standby, the power of a channel, and the obligation. -/
open Sys2Proof Sys2Proof.Machine Sys2Proof.Claims
set_option maxRecDepth 20000

namespace Sys2Proof.Proofs

section
variable {s : State}

theorem wake_fromStandby (hDirect : s.dev.direct R.PWR_CMD.off) (hSt : s.dev.pwrSt = 1) (hPhase : s.dev.phaseSt 5 = 5) :
    Completes (exec .wake s) fun t =>
      (s.dev.nextOff 0 = none → t.dev.pwrSt = 3 ∧ t.dev.phaseSt 5 = 2) ∧
      (∀ p ∈ s.dev.nextOff 0, t.dev.pwrSt = 2 ∧ t.dev.phaseSt 5 = 1 ∧ t.dev.get F.PWR_STATE.entry = p.1 % 32) ∧
      (∀ (k : Nat), k < 19 → t.dev.rd (R.PWR_STEP_TIMEi k) = 0xFFFFFFFF) ∧ t.mem = s.mem ∧ t.pending = s.pending := by
  have hStep {k : Nat} (hk : k < 19) := Dev.stepTime_rising (d := s.dev) hk
  have hRises := Dev.pwrSt_rising (d := s.dev)
  have hRuns := Dev.phaseSt_rising (d := s.dev)
  refine completes_wake hDirect ?_
  cases h : s.dev.nextOff 0 with
  | none =>
    rw [State.wakeCmd_on hSt hPhase h]
    generalize s.dev.rising = d at hStep
    have hOn : d.reachedOn.end5.pwrSt = 3 := (Dev.powerStays_end5.get F.PWR_STATE.state (by decide)).trans Dev.pwrSt_reachedOn
    have hEnded : d.reachedOn.end5.phaseSt 5 = 2 := Dev.phaseSt_end5
    have hTimes (k : Nat) (hk : k < 19) : d.reachedOn.end5.rd (R.PWR_STEP_TIMEi k) = 0xFFFFFFFF := ?_
    · dsimp only
      exact ⟨fun _ => ⟨hOn, hEnded⟩, nofun, hTimes, rfl, rfl⟩
    rw [Dev.powerStays_end5.reg _ (powerReg_stepTime (by omega)), Frame.rd Dev.frame_reachedOn _ ?_, hStep hk]
    simp only [List.mem_append, activeParts, pwrFlagParts, irqParts, List.mem_cons, List.not_mem_nil, or_false, reduceCtorEq, false_or, Part.reg.injEq, R.PWR_STEP_TIMEi,
      R.PWR_STATE, R.FLT_SRCi_STATE, R.FLT_ACTIVE, R.PWR_IRQ_STATUS, R.MSIX_PBA]
    omega
  | some p =>
    obtain ⟨j, f⟩ := p
    rw [State.wakeCmd_steps hSt hPhase h]
    generalize s.dev.rising = d at hStep hRises hRuns
    have hBegun := State.stepped_stepBegin (s := { s with dev := d }) j f true
    refine ⟨nofun, fun p hp => ?_, fun k hk => (hBegun.times k (by omega)).trans (hStep hk), State.mem_stepBegin_up _ _, hBegun.pending⟩
    obtain rfl := Option.some.inj hp
    exact ⟨(hBegun.state F.PWR_STATE.state rfl rfl (.inr (by decide))).trans hRises,
      (Dev.phaseSt_congr (State.ph_stepBegin_up (s := { s with dev := d }) j f) 5).trans hRuns, hBegun.entry⟩

theorem wake_raisesRail {j : Nat} {f : DomEntry} (hDirect : s.dev.direct R.PWR_CMD.off) (hSt : s.dev.pwrSt = 1) (hPhase : s.dev.phaseSt 5 = 5)
    (hNext : s.dev.nextOff 0 = some (j, f)) (hRail : f.kind = 1 ∧ f.index < 8 ∧ j < 32) :
    Completes (exec .wake s) fun t =>
      t.dev.pwrSt = 2 ∧ t.dev.get F.PWR_STATE.purpose = 0 ∧ t.dev.get F.PWR_STATE.entry = j ∧ t.dev.phaseSt 5 = 1 ∧
      t.dev.get F.SYS_PHASE.phase = 5 ∧ t.dev.get F.SYS_PHASE.state = 1 ∧
      bit (t.dev.get F.PWR_STATUS.seq_en) f.index = true ∧ bit (t.dev.get F.PWR_DOMAINS.rails) f.index = true ∧
      s.Frame ([Part.pwr, Part.sys, Part.reg R.SYS_PHASE.off, Part.reg (R.SYS_PHASE_TIMEk 4).off, Part.reg R.PWR_STATE.off, Part.reg R.PWR_STATUS.off, Part.reg R.PWR_DOMAINS.off] ++ (List.range 19).map fun k => Part.reg (R.PWR_STEP_TIMEi k).off) t := by
  obtain ⟨hKind, hIndex, hj⟩ := hRail
  have hRises := Dev.pwrSt_rising (d := s.dev)
  have hPurpose := Dev.purpose_rising (d := s.dev)
  have hRuns := Dev.phaseSt_rising (d := s.dev)
  obtain ⟨hShown, hState⟩ := Dev.phase_rising (d := s.dev)
  have hFrame := Dev.frame_rising (d := s.dev)
  refine completes_wake hDirect ?_
  rw [State.wakeCmd_steps hSt hPhase hNext]
  generalize s.dev.rising = d at hRises hPurpose hRuns hShown hState hFrame
  have hBegun := State.stepped_stepBegin (s := { s with dev := d }) j f true
  have hPh := State.ph_stepBegin_up (s := { s with dev := d }) j f
  have hStep : Dev.Frame [Part.pwr, Part.reg R.PWR_STATE.off, Part.reg R.PWR_STATUS.off, Part.reg R.PWR_DOMAINS.off] d ((d.entryShown j).railMoved f.index true) :=
    Frame.trans (Frame.mono Dev.frame_entryShown (by simp)) (Frame.mono (Dev.frame_railMoved _) (by simp))
  rw [State.stepBegin_rail hKind] at hBegun hPh ⊢
  refine ⟨(hBegun.state F.PWR_STATE.state rfl rfl (.inr (by decide))).trans hRises, (hBegun.state F.PWR_STATE.purpose rfl rfl (.inr (by decide))).trans hPurpose,
    hBegun.entry.trans (Nat.mod_eq_of_lt hj), (Dev.phaseSt_congr hPh 5).trans hRuns, (Frame.get hStep _ (by decide)).trans hShown, (Frame.get hStep _ (by decide)).trans hState,
    Dev.seqEn_railMoved hIndex, Dev.rails_railMoved hIndex, Frame.ofDev ?_⟩
  exact Frame.trans (Frame.mono hFrame (by simp +contextual [wakeParts, begunParts])) (Frame.mono hStep (by simp))

/-! ### Channels (R341) -/

theorem channelOff_step {n : Fin 8} {force : Bool} {i : Nat} {e : DomEntry} (hDirect : s.dev.direct R.PWR_CHAN_CMD.off) (hWarned : s.dev.warned = false)
    (hSt : s.dev.pwrSt = 3) (hEntry : s.dev.chanEntry n = some (i, e)) :
    Completes (exec (.channelPowerOff (BitVec.ofNat 8 (2 ^ n.val)) force) s) fun t =>
      if s.dev.chanBusy n = true ∧ force = false then pwrRefused s.dev t.dev ∧ t.dev.domOn (4 + n) = s.dev.domOn (4 + n)
      else if s.dev.pwr.chanQ = [] then t.dev.domOn (4 + n) = false ∧ t.pending = s.pending
      else t.dev.pwr.chanQ = s.dev.pwr.chanQ ++ [(n.val, false)] ∧ s.Frame [Part.pwr] t := by
  have hSwitch := State.chanSwitch_off hSt n force
  by_cases hBusy : s.dev.chanBusy n = true ∧ force = false
  · have hFrame := Dev.frame_pwrRefuse s.dev
    rw [if_pos (by simp [hBusy.1, hBusy.2])] at hSwitch
    refine completes_channelPowerOff hDirect hSwitch (Dev.idleStart_of_warned hWarned (Frame.rd hFrame _ (by decide))) ?_
    rw [if_pos hBusy]
    exact ⟨Dev.pwrRefused_pwrRefuse _, congrArg (fun v => bit v (4 + n)) (Frame.rd hFrame R.PWR_DOMAINS (by decide))⟩
  · rw [if_neg (by simpa using hBusy)] at hSwitch
    by_cases hQ : s.dev.pwr.chanQ = []
    · cases hOn : s.dev.domOn (4 + n) with
      | true =>
        obtain ⟨hStays, -⟩ := State.stepBegin_chan hEntry
        have hPower := (hStays.reg R.PWR_STATUS (by decide)).trans (Frame.rd (Dev.frame_chanMarked n i) _ (by decide))
        have hOff := (congrArg (fun v => bit v (4 + n)) (hStays.reg R.PWR_DOMAINS (by decide))).trans (Dev.domOn_domMarked (by omega))
        rw [State.chanQueue_off hQ hEntry hOn] at hSwitch
        refine completes_channelPowerOff hDirect hSwitch (Dev.idleStart_of_warned hWarned hPower) ?_
        rw [if_neg hBusy, if_pos hQ]
        exact ⟨hOff, (State.stepped_stepBegin (s := State.queued s n false) i e false).pending⟩
      | false =>
        rw [State.chanQueue_skip hQ hEntry hOn] at hSwitch
        refine completes_channelPowerOff hDirect hSwitch (Dev.idleStart_of_warned hWarned rfl) ?_
        rw [if_neg hBusy, if_pos hQ]
        exact ⟨hOn, rfl⟩
    · rw [State.chanQueue_busy hQ] at hSwitch
      refine completes_channelPowerOff hDirect hSwitch (Dev.idleStart_of_warned hWarned rfl) ?_
      rw [if_neg hBusy, if_neg hQ]
      exact ⟨rfl, Frame.ofDev (Dev.frame_withChanQ _)⟩

theorem channelOff_free {n : Fin 8} {force : Bool} {i : Nat} {e : DomEntry} (hDirect : s.dev.direct R.PWR_CHAN_CMD.off) (hIdle : s.dev.idleStart = false)
    (hSt : s.dev.pwrSt = 3) (hQ : s.dev.pwr.chanQ = []) (hEntry : s.dev.chanEntry n = some (i, e)) (hOn : s.dev.domOn (4 + n) = true)
    (hNone : ∀ (k : Nat), k < 32 → s.dev.shtState k ≠ 2 ∧ s.dev.shtState k ≠ 3) :
    Completes (exec (.channelPowerOff (BitVec.ofNat 8 (2 ^ n.val)) force) s) fun t =>
      t.dev.domOn (4 + n) = false ∧ t.dev.get F.PWR_STATE.entry = i % 32 ∧ t.dev.pwrSt = 3 ∧
      (∀ (k : Nat), k < 0x8000 → t.dev.rd ⟨0x200000 + n * 0x20000 + 4 * k, 64, 0⟩ = 0) ∧
      Store.get {} t.dev.ch n = {} ∧ t.dev.flt.opens = s.dev.flt.opens ∧ t.dev.flt.shadows = s.dev.flt.shadows ∧
      s.dev.Kept [Part.reg R.PWR_STATUS.off, Part.reg R.SYS_PHASE.off, Part.sys, Part.clock, Part.strobes, Part.sht, Part.host, Part.ch (n + 1)] t.dev ∧ t.mem = s.mem ∧ t.pending = s.pending := by
  have hBegun := State.stepped_stepBegin (s := State.queued s n false) i e false
  obtain ⟨hStays, -⟩ := State.stepBegin_chan hEntry
  have hSwitch := State.chanSwitch_off hSt n force
  rw [if_neg (by simp [Dev.chanBusy_none hNone]), State.chanQueue_off hQ hEntry hOn] at hSwitch
  rw [State.stepBegin_chanFree hEntry fun k hk => (hNone k hk).2] at hBegun hStays hSwitch
  have hKeeps := Dev.chanKeeps_gone (d := s.dev) n i
  have hSheets (k : Nat) (hk : k < 32) : (s.dev.chanMarked n i).shtState k ≠ 3 := by
    rw [Dev.shtState_chanMarked]
    exact (hNone k hk).2
  have hPower := hKeeps.kept (Part.reg R.PWR_STATUS.off) (by simp [chanKeptParts])
  have hOff : ((s.dev.chanMarked n i).chanGone n).domOn (4 + n) = false :=
    (congrArg (fun v => bit v (4 + n)) (hStays.reg R.PWR_DOMAINS (by decide))).trans (Dev.domOn_domMarked (by omega))
  have hZero (k : Nat) (hk : k < 0x8000) : ((s.dev.chanMarked n i).chanGone n).rd ⟨0x200000 + n * 0x20000 + 4 * k, 64, 0⟩ = 0 :=
    Dev.rd_chanGone n.isLt _ (by dsimp only; omega) (by dsimp only; omega) rfl
  have hReset := Dev.ch_chanGone hSheets n
  have hState : ((s.dev.chanMarked n i).chanGone n).pwrSt = 3 := (hBegun.state F.PWR_STATE.state rfl rfl (.inr (by decide))).trans hSt
  refine completes_channelPowerOff hDirect hSwitch (idleStart_of_rd hIdle (hPower R.PWR_STATUS rfl) hKeeps.flight hKeeps.cfg) ?_
  exact ⟨hOff, hBegun.entry, hState, hZero, hReset, hKeeps.opens, hKeeps.shadows, hKeeps.kept, rfl, rfl⟩

theorem channelOn_step {n : Fin 8} {i : Nat} {e : DomEntry} (hDirect : s.dev.direct R.PWR_CHAN_CMD.off) (hSt : s.dev.pwrSt = 3) (hQ : s.dev.pwr.chanQ = [])
    (hEntry : s.dev.chanEntry n = some (i, e)) (hOff : s.dev.domOn (4 + n) = false) (hChan : (s.dev.chan n).isSome = true) :
    Completes (exec (.channelPowerOn (BitVec.ofNat 8 (2 ^ n.val))) s) fun t =>
      t.dev.get F.PWR_STATE.entry = i % 32 ∧ t.dev.pwrSt = 3 ∧ t.dev.pwr.chanQ = [(n.val, true)] ∧ t.dev.pwr.stepAt = s.dev.sys.now8 ∧
      s.Frame [Part.pwr, Part.reg R.PWR_STATE.off] t := by
  have hBegun := State.stepped_stepBegin (s := State.queued s n true) i e true
  obtain ⟨hKind, -⟩ := Dev.chanEntry_spec hEntry
  refine completes_channelPowerOn hDirect ?_
  rw [State.stepBegin_close (by omega)] at hBegun
  rw [State.chanSwitch_on hSt n (by simp [hEntry]) hChan, State.chanQueue_on hQ hEntry hOff hChan]
  obtain ⟨hQueue, hAt⟩ := Dev.pwr_switchClosed (d := s.dev) n i e.index
  exact ⟨hBegun.entry, (hBegun.state F.PWR_STATE.state rfl rfl (.inr (by decide))).trans hSt, hQueue, hAt, Frame.ofDev (Dev.frame_switchClosed _ _ _)⟩

end

/-- Settles O45, command by command: what the sequencer does with each request is one equation per state, and each clause reads the device it leaves. -/
theorem powerRequests : Obligations.PowerRequests := by
  unfold Obligations.PowerRequests
  exact ⟨fun _ => wake_ignored, fun _ => standby_begins, fun _ => standby_waits, fun _ => wake_fromStandby, fun _ => wake_turnsBack,
    fun _ _ _ _ _ => channelOff_step, fun _ _ _ => standby_dropsRail, fun _ => standby_refused, fun _ _ _ => wake_raisesRail, fun _ => wake_refused,
    fun _ _ _ _ _ => channelOff_free, fun _ => channelPower_refused, fun _ _ _ _ => channelOn_step⟩

end Sys2Proof.Proofs
end

-- ==== Sitting: how the sequence goes on after a step ====
section
/-! SUPPORT. How the sequence goes on after a step: what every way on leaves. -/
open Sys2Proof Sys2Proof.Machine Sys2Proof.Claims
set_option maxRecDepth 20000

namespace Sys2Proof.Machine

/-! ### CORE goes off (R339) -/

section
variable {s t u : State} {d e : Dev} {i j : Nat} {f : DomEntry}

theorem Store.get_filter_kept {β : Type} (dflt : β) (m : Store β) {f : Nat × β → Bool} {k : Nat} (h : ∀ b, f (k, b) = true) :
    Store.get dflt (m.filter f) k = Store.get dflt m k := by
  induction m with
  | nil => rfl
  | cons p m ih =>
    rw [List.filter_cons]
    split_ifs with hKeep
    · rw [Store.get, Store.get, ih]
    · have hne : k ≠ p.1 := by
        rintro rfl
        exact hKeep (h p.2)
      rw [Store.get, if_neg hne, ih]

/-- The registers of the sequencer outlive CORE (R68). -/
theorem State.rd_coreReset (r : Reg) (h : 0xC0000 ≤ r.off ∧ r.off < 0xD0000) : s.coreReset.dev.rd r = s.dev.rd r := by
  have hOther : r.off ≠ F.FLT_STATUS.alive_level.reg.off := by
    simp only [F.FLT_STATUS.alive_level, R.FLT_STATUS]
    omega
  rw [State.coreReset]
  dsimp only
  rw [Dev.rd_put_ne _ _ _ _ hOther, Dev.rd, Dev.rd]
  dsimp only
  rw [Store.get_filter_kept]
  intro b
  generalize r.off = o at h
  simp [h.1, h.2]

theorem State.now8_coreReset : s.coreReset.dev.sys.now8 = s.dev.sys.now8 := by
  rw [State.coreReset]
  dsimp only
  rw [Dev.put_sys]

theorem State.pending_coreReset : s.coreReset.pending = s.pending := rfl

theorem State.downNext_core (h : s.dev.nextOn i = none) (hPurpose : s.dev.get F.PWR_STATE.purpose ≠ 1) : s.downNext i = s.coreOff := by
  simp only [State.downNext, h, if_neg hPurpose]

/-! ### What every way on leaves (R333-R337) -/

/-- The time is the same, and so are the time of the step that ended, the states of the power-fail warning, and the queue. -/
structure State.GoesOn (s t : State) : Prop where
  now8 : t.dev.sys.now8 = s.dev.sys.now8
  elapsed : t.dev.get F.PWR_STATE.elapsed_us = s.dev.get F.PWR_STATE.elapsed_us
  status : ∀ g : Fld, g.reg = R.PWR_STATUS → g.ok = true → 7 < g.lo → t.dev.get g = s.dev.get g
  pending : t.pending = s.pending

namespace State.GoesOn

theorem refl : State.GoesOn s s := ⟨rfl, rfl, fun _ _ _ _ => rfl, rfl⟩

theorem trans (h : State.GoesOn s t) (g : State.GoesOn t u) : State.GoesOn s u :=
  ⟨g.now8.trans h.now8, g.elapsed.trans h.elapsed, fun x hReg hOk hLo => (g.status x hReg hOk hLo).trans (h.status x hReg hOk hLo), g.pending.trans h.pending⟩

theorem ofStepped (h : State.GoesOn s t) (g : State.Stepped i t u) : State.GoesOn s u :=
  h.trans ⟨g.now8, g.state F.PWR_STATE.elapsed_us rfl rfl (.inl (by decide)), g.status, g.pending⟩

theorem ofStays (h : State.GoesOn s t) (g : Dev.PowerStays t.dev e) : State.GoesOn s { t with dev := e } :=
  h.trans ⟨g.now8, g.get F.PWR_STATE.elapsed_us (by decide), fun x hReg _ _ => g.get x (by rw [hReg]; decide), rfl⟩

/-- A change of the other fields of PWR_STATE, and of what is neither PWR_STATE nor PWR_STATUS. -/
theorem ofFrame {ps : List Part} (h : State.GoesOn s t) (hFrame : Dev.Frame ps t.dev e) (hClock : Part.clock ∉ ps) (hStatus : Part.reg R.PWR_STATUS.off ∉ ps)
    (hElapsed : e.get F.PWR_STATE.elapsed_us = t.dev.get F.PWR_STATE.elapsed_us) : State.GoesOn s { t with dev := e } :=
  h.trans ⟨hFrame _ hClock, hElapsed, fun x hReg _ _ => Frame.get hFrame x (by rw [hReg]; exact hStatus), rfl⟩

theorem putState (h : State.GoesOn s t) (g : Fld) (v : Nat) (hReg : g.reg = R.PWR_STATE) (hOk : g.ok = true) (hLo : 15 < g.lo) : State.GoesOn s { t with dev := t.dev.put g v } := by
  refine h.ofFrame (ps := [Part.reg g.reg.off]) (Frame.put Frame.refl g v (by simp)) (by simp) (by rw [hReg]; decide) ?_
  refine Dev.get_put_other t.dev g F.PWR_STATE.elapsed_us v hReg.symm hOk rfl ?_
  simp [F.PWR_STATE.elapsed_us, hLo]

theorem modPwr (h : State.GoesOn s t) (x : PwrSt → PwrSt) : State.GoesOn s { t with dev := t.dev.modPwr x } :=
  h.trans ⟨rfl, rfl, fun _ _ _ _ => rfl, rfl⟩

theorem pwrActive (h : State.GoesOn s t) : State.GoesOn s { t with dev := t.dev.pwrActive } := h.ofStays Dev.powerStays_pwrActive

theorem reachedOn (h : State.GoesOn s t) : State.GoesOn s { t with dev := t.dev.reachedOn } := by
  refine h.ofFrame Dev.frame_reachedOn (by simp [activeParts, pwrFlagParts, irqParts]) (by decide) ?_
  exact (Dev.get_reachedOn _ rfl).trans (Dev.get_put_other t.dev F.PWR_STATE.state F.PWR_STATE.elapsed_us 3 rfl rfl rfl rfl)

theorem upNext (i : Nat) : State.GoesOn s (s.upNext i).1 := by
  cases h : s.dev.nextOff i with
  | none =>
    rw [State.upNext_none h]
    exact refl.reachedOn
  | some p =>
    obtain ⟨j, f⟩ := p
    rw [State.upNext_some h]
    exact refl.ofStepped (State.stepped_stepBegin _ _ _)

theorem upFrom (i : Nat) : State.GoesOn s (s.upFrom i).1 := by
  rw [State.upFrom_eq]
  exact (refl.putState F.PWR_STATE.state 2 rfl rfl (by decide)).trans (upNext i)

theorem stepTimes (h : State.GoesOn s t) : State.GoesOn s { t with dev := t.dev.stepTimes } :=
  h.ofFrame Dev.frame_stepTimes (by simp) (by decide) (Frame.get Dev.frame_stepTimes _ (by decide))

theorem coreOff : State.GoesOn s s.coreOff := by
  have hReset : State.GoesOn s s.coreReset := by
    refine ⟨State.now8_coreReset, ?_, fun g hReg _ _ => ?_, State.pending_coreReset⟩
    · rw [Dev.get, State.rd_coreReset _ (by decide), Dev.get]
    · rw [Dev.get, hReg, State.rd_coreReset _ (by decide), Dev.get, hReg]
  have hDomain := hReset.ofFrame (e := s.coreReset.dev.putBit F.PWR_DOMAINS.domains 0 false) (ps := [Part.reg R.PWR_DOMAINS.off])
    (Frame.putBit Frame.refl _ _ _ (by simp [F.PWR_DOMAINS.domains])) (by simp) (by decide) (Dev.get_put_ne _ _ _ _ (by decide))
  exact ((hDomain.putState F.PWR_STATE.state 4 rfl rfl (by decide)).putState F.PWR_STATE.entry 0x1F rfl rfl (by decide)).modPwr _

theorem standingBy : State.GoesOn s { s with dev := s.dev.standingBy } := by
  have hFlag := (refl.putState F.PWR_STATE.state 1 rfl rfl (by decide) : State.GoesOn s _).ofFrame (e := (s.dev.put F.PWR_STATE.state 1).pwrFlag 0) (ps := pwrFlagParts)
    (Frame.flag Frame.refl _ _ _ _ (by simp [pwrFlagParts]) (by simp +contextual [pwrFlagParts])) (by simp [pwrFlagParts, irqParts]) (by decide)
    (Dev.get_pwrFlag 0 _ (by decide) (by decide))
  exact hFlag.ofStays (Dev.PowerStays.refl.ofFrame Dev.frame_phasesBack backParts_offPower (by simp [backParts]))

theorem downNext (i : Nat) : State.GoesOn s (s.downNext i) := by
  cases h : s.dev.nextOn i with
  | none =>
    by_cases hPurpose : s.dev.get F.PWR_STATE.purpose = 1
    · rw [State.downNext_standby h hPurpose]
      exact standingBy
    · rw [State.downNext_core h hPurpose]
      exact coreOff
  | some p =>
    obtain ⟨j, f⟩ := p
    rw [State.downNext_some h]
    exact refl.ofStepped (State.stepped_stepBegin _ _ _)

theorem falling : State.GoesOn s { s with dev := s.dev.falling } := (refl.putState F.PWR_STATE.state 4 rfl rfl (by decide) : State.GoesOn s _).pwrActive

theorem downTaken (p : Nat) : State.GoesOn s { s with dev := s.dev.downTaken p } :=
  ((refl.putState F.PWR_STATE.purpose p rfl rfl (by decide) : State.GoesOn s _).putState F.PWR_STATE.pending 0 rfl rfl (by decide)).modPwr _

theorem downFrom (i : Nat) : State.GoesOn s (s.downFrom i) := by
  rw [State.downFrom_eq]
  exact falling.trans (downNext i)

theorem downNow (p i : Nat) : State.GoesOn s (s.downNow p i) := by
  rw [State.downNow_eq]
  exact ((downTaken p).trans falling).trans (downNext i)

theorem chanBegin (k : Nat) : State.GoesOn s (State.chanBegin k s) := by
  induction k generalizing s with
  | zero => exact refl
  | succ k ih =>
    unfold State.chanBegin
    split
    · exact refl
    · dsimp only
      split
      · exact (refl.modPwr _).trans ih
      · split
        · exact (refl.modPwr _).trans ih
        · exact refl.ofStepped (State.stepped_stepBegin _ _ _)

/-- What follows a step leaves how it ended. -/
theorem stepNext (i : Nat) : State.GoesOn s (s.stepNext i).1 := by
  unfold State.stepNext
  dsimp only
  split
  · split
    · exact downNow _ _
    · exact upFrom _
  · split
    · exact ((((refl.putState F.PWR_STATE.purpose 0 rfl rfl (by decide) : State.GoesOn s _).putState F.PWR_STATE.pending 0 rfl rfl (by decide)).stepTimes).modPwr _).trans (upFrom i)
    · exact downFrom _
  · split
    · exact downNow _ _
    · exact (refl.modPwr _).trans (chanBegin 8)

theorem end5 (h : State.GoesOn s t) : State.GoesOn s { t with dev := t.dev.end5 } := h.ofStays Dev.powerStays_end5

end State.GoesOn

end
end Sys2Proof.Machine
end

-- ==== Sitting: a domain comes on ====
section
/-! SUPPORT. A domain comes on, and the end of a step. -/
open Sys2Proof Sys2Proof.Machine Sys2Proof.Claims
set_option maxRecDepth 20000

namespace Sys2Proof.Machine

section
variable {s t : State} {d e : Dev} {n i : Nat} {f : DomEntry}

/-! ### What the power of a domain leaves of the sequencer as it comes (R56) -/

namespace Dev.PowerStays

theorem activate (h : Dev.PowerStays d e) (r : Reg) : Dev.PowerStays d (e.activate r) := h.ofRegs rfl rfl rfl
theorem putTw (h : Dev.PowerStays d e) (o v : Nat) : Dev.PowerStays d (e.putTw o v) := h.ofRegs rfl rfl rfl
theorem modRx (h : Dev.PowerStays d e) (g : Bool) (u : RxStream → RxStream) : Dev.PowerStays d (e.modRx g u) := h.ofRegs rfl rfl rfl

/-- The registers of a channel are none of the sequencer's. -/
theorem offPower_channel {o : Nat} (h : 0x200000 ≤ o) : Dev.OffPower o := by
  simp only [Dev.OffPower, R.SYS_HOST_STATE]
  omega

theorem freqTransfer (h : Dev.PowerStays d e) (n : Nat) : Dev.PowerStays d (e.freqTransfer n) := by
  have hStatus : Dev.OffPower (R.CHn_PXS_STATUS n).off := offPower_channel (by simp only [R.CHn_PXS_STATUS]; omega)
  have hLoss (x : Dev) (j : Nat) : Dev.PowerStays x (x.lossNoted j) := refl.ofRegs rfl rfl rfl
  have hEvent (x : Dev) (k : Nat) : Dev.PowerStays x (x.clkEvent k) := refl.wr R.CLK_EVENTS _ (by decide)
  have hDrop (x : Dev) (c d1 : Nat) : Dev.PowerStays x (x.dropFromSheets n c d1) := ofStays (Dev.Stays.refl.dropFromSheets _ _ _)
  have hTaken := h.activate (R.CHn_PXS_FREQ n)
  have hCounted := (hTaken.put (F.CHn_PXS_STATUS.locked n) 0 hStatus).wr (R.CHn_PXS_STATUS n)
  unfold Dev.freqTransfer
  dsimp only
  exact ite ((((((hCounted _ hStatus).trans (hLoss _ _)).trans (hEvent _ _)).gate n).trans (hDrop _ _ _))) hTaken

theorem gridTransfer (h : Dev.PowerStays d e) (n : Nat) : Dev.PowerStays d (e.gridTransfer n) := by
  have hRestart (x : Dev) (t : Nat) : Dev.PowerStays x (x.gridRestart n t) := refl.ofFrame (Dev.frame_gridRestart t) (by simp) (by simp)
  have hSearch (x : Dev) : Dev.PowerStays x (x.sctSearch n) :=
    refl.ofFrame (Dev.frame_sctSearch 0) (by
      simp only [searchParts, List.mem_cons, List.not_mem_nil, or_false, reduceCtorEq, Part.reg.injEq, false_or]
      rintro o rfl
      exact offPower_channel (by simp only [R.CHn_SCT_STATUS]; omega)) (by simp [searchParts])
  have hTaken (t : Nat) := ((h.activate (R.CHn_SCT_REF_TIME n)).activate (R.CHn_SCT_FACET_PERIOD n)).trans (hRestart _ t)
  exact ite (hTaken _) ((hTaken _).trans (hSearch _))

theorem blpOn (h : Dev.PowerStays d e) (n : Nat) : Dev.PowerStays d (e.blpOn n) := by
  have hDetect (x : Dev) : Dev.PowerStays x (x.blpDetect n) :=
    refl.ofFrame (Dev.frame_blpDetect n) (by
      simp only [portParts, gateParts, irqParts, List.mem_append, List.mem_cons, List.not_mem_nil, or_false, reduceCtorEq, Part.reg.injEq, false_or]
      have hIrq : Dev.OffPower R.MSIX_PBA.off := by decide
      have hStatus : Dev.OffPower (R.CHn_BLP_STATUS n).off := offPower_channel (by simp only [R.CHn_BLP_STATUS]; omega)
      have hCounts : Dev.OffPower (R.CHn_BLP_COUNTS n).off := offPower_channel (by simp only [R.CHn_BLP_COUNTS]; omega)
      have hGate : Dev.OffPower (R.CHn_FGT_STATUS n).off := offPower_channel (by simp only [R.CHn_FGT_STATUS]; omega)
      have hDrops : Dev.OffPower (R.CHn_FGT_COUNTS n).off := offPower_channel (by simp only [R.CHn_FGT_COUNTS]; omega)
      have hBit : Dev.OffPower (R.CHn_FGT_IRQ_STATUS n).off := offPower_channel (by simp only [R.CHn_FGT_IRQ_STATUS]; omega)
      rintro o ((rfl | rfl) | (rfl | rfl | rfl) | rfl)
      exacts [hStatus, hCounts, hGate, hDrops, hBit, hIrq]) (by simp [portParts, gateParts, irqParts])
  exact ite (h.trans (hDetect _)) h

theorem rngInit (h : Dev.PowerStays d e) : Dev.PowerStays d e.rngInit := by
  have hOwn (x : Dev) (v : Nat) : Dev.PowerStays x (x.put (limitF false) v) := refl.put _ _ (by decide)
  have hGroup (x : Dev) (v : Nat) : Dev.PowerStays x (x.put (limitF true) v) := refl.put _ _ (by decide)
  have hRate (x : Dev) (v : Nat) : Dev.PowerStays x (x.put F.RNG_LANE_CFG.max_rate v) := refl.put _ _ (by decide)
  unfold Dev.rngInit
  dsimp only
  exact each (ite ((h.trans (hRate _ _)).trans (hOwn _ _) |>.trans (hGroup _ _)) ((h.trans (hRate _ _)).trans (hOwn _ _))) _ _ fun _ g _ => refl.modRx g _

theorem lgScreen (h : Dev.PowerStays d e) (n : Nat) : Dev.PowerStays d (e.lgScreen n) := by
  have hGeom : Dev.OffPower (R.CHn_SCR_TILEk_GEOM n 0).off := offPower_channel (by simp only [R.CHn_SCR_TILEk_GEOM]; omega)
  have hPhase : Dev.OffPower (R.CHn_SCR_TILEk_PHASE n 0).off := offPower_channel (by simp only [R.CHn_SCR_TILEk_PHASE]; omega)
  have hCtrl : Dev.OffPower (R.CHn_SCR_CTRL n).off := offPower_channel (by simp only [R.CHn_SCR_CTRL]; omega)
  have hTile := ((((h.put (F.CHn_SCR_TILEk_GEOM.width_m1 n 0) 15 hGeom).put (F.CHn_SCR_TILEk_GEOM.height_m1 n 0) 15 hGeom).put
    (F.CHn_SCR_TILEk_GEOM.shift n 0) 0 hGeom).wr _ 0 hPhase).wr _ 0 hCtrl
  exact (hTile.each _ _ fun _ r _ => refl.activate r).each _ _ fun _ t _ => refl.each _ _ fun _ j _ => refl.putTw _ _

theorem lgClock (h : Dev.PowerStays d e) (n : Nat) : Dev.PowerStays d (e.lgClock n) := by
  have hFreq : Dev.OffPower (R.CHn_PXS_FREQ n).off := offPower_channel (by simp only [R.CHn_PXS_FREQ]; omega)
  exact ite h ((h.wr _ _ hFreq).freqTransfer n)

theorem lgDmo (h : Dev.PowerStays d e) (n : Nat) : Dev.PowerStays d (e.lgDmo n) := by
  have hCfg : Dev.OffPower (R.CHn_FGT_DMO_CFG n).off := offPower_channel (by simp only [R.CHn_FGT_DMO_CFG]; omega)
  have hWidth : Dev.OffPower (R.CHn_FGT_DMO_WIDTHc n 3).off := offPower_channel (by simp only [R.CHn_FGT_DMO_WIDTHc]; omega)
  have hStart : Dev.OffPower (R.CHn_PLC_START n).off := offPower_channel (by simp only [R.CHn_PLC_START]; omega)
  have hStatus : Dev.OffPower (R.CHn_PLC_STATUS n).off := offPower_channel (by simp only [R.CHn_PLC_STATUS]; omega)
  have hReady (x : Dev) (r : Reg) (b : Bool) : Dev.PowerStays x (x.setReady r b) := refl.ofRegs rfl rfl rfl
  have hChan (x : Dev) (u : Chan → Chan) : Dev.PowerStays x (x.modChan n u) := refl.ofRegs rfl rfl rfl
  have hJustify (x : Dev) (v : Nat) : Dev.PowerStays x (x.put (F.CHn_FGT_DMO_CFG.justify n) v) := refl.put _ _ hCfg
  have hWide (x : Dev) (v : Nat) : Dev.PowerStays x (x.wr (R.CHn_FGT_DMO_WIDTHc n 3) v) := refl.wr _ _ hWidth
  have hDelay (x : Dev) (v : Nat) : Dev.PowerStays x (x.put (F.CHn_PLC_START.start_delay n) v) := refl.put _ _ hStart
  have hPending (x : Dev) (v : Nat) : Dev.PowerStays x (x.put (F.CHn_PLC_STATUS.shadow_pending n) v) := refl.put _ _ hStatus
  unfold Dev.lgDmo
  dsimp only
  split
  · exact ((((h.trans (hJustify _ _)).trans (hWide _ _)).activate _).activate _).trans (hChan _ _)
  · exact ((((((h.trans (hJustify _ _)).trans (hWide _ _)).activate _).activate _).trans (hChan _ _)).trans (hDelay _ _)).trans ((hReady _ _ _).trans (hPending _ _))

theorem lgMatrix (h : Dev.PowerStays d e) (n : Nat) : Dev.PowerStays d (e.lgMatrix n) := h.each _ _ fun _ _ _ => ite refl (refl.putTw _ _)

theorem lgGrid (h : Dev.PowerStays d e) (n : Nat) : Dev.PowerStays d (e.lgGrid n) := by
  have hPeriod : Dev.OffPower (R.CHn_SCT_FACET_PERIOD n).off := offPower_channel (by simp only [R.CHn_SCT_FACET_PERIOD]; omega)
  have hRef : Dev.OffPower (R.CHn_SCT_REF_TIME n).off := offPower_channel (by simp only [R.CHn_SCT_REF_TIME]; omega)
  have hLg (x : LgSt) (k : Nat) : Dev.PowerStays d { e with free := k, lg := x } := h.ofRegs rfl rfl rfl
  unfold Dev.lgGrid
  dsimp only
  exact ite h ((((hLg _ _).wr _ _ hPeriod).wr _ _ hRef).gridTransfer n)

theorem lgGap (h : Dev.PowerStays d e) (n : Nat) : Dev.PowerStays d (e.lgGap n) := ite ((((h.lgClock n).lgDmo n).lgMatrix n).lgGrid n) h

/-- A channel comes on, its pixel clock set. -/
theorem chanRises (h : Dev.PowerStays d e) (n : Nat) :
    Dev.PowerStays d ((((if e.persC then (e.lgScreen n).lgGap n else e).blpOn n).gate n).ilkActive) :=
  (((ite ((h.lgScreen n).lgGap n) h).blpOn n).gate n).ilkActive

theorem chanClock (h : Dev.PowerStays d e) (n m : Nat) : Dev.PowerStays d ((e.wr (R.CHn_PXS_FREQ n) m).activate (R.CHn_PXS_FREQ n)) :=
  (h.wr _ m (offPower_channel (by simp only [R.CHn_PXS_FREQ]; omega))).activate _

theorem axesRise (h : Dev.PowerStays d e) (l : List Axis) :
    Dev.PowerStays d (e.each l fun d c => if c.axis < 16 then d.put (F.BLD_AXa_SETPOINT.speed c.axis) (16 * c.setpoint) else d) := by
  refine h.each l _ fun x c _ => ?_
  split
  next hc =>
    refine refl.put _ _ ?_
    simp only [Dev.OffPower, F.BLD_AXa_SETPOINT.speed, R.BLD_AXa_SETPOINT, R.SYS_HOST_STATE]
    omega
  next => exact refl

end Dev.PowerStays

/-- A domain's power leaves the sequencer as its own bit has it. -/
theorem Dev.powerStays_domUp (k : Nat) : Dev.PowerStays (d.putBit F.PWR_DOMAINS.domains k true) (d.domUp k) := by
  unfold Dev.domUp
  dsimp only
  generalize d.putBit F.PWR_DOMAINS.domains k true = x
  split
  · exact .refl
  · exact Dev.PowerStays.refl.rngInit
  · exact Dev.PowerStays.refl.axesRise _
  · split
    · exact .refl
    · exact (Dev.PowerStays.refl.chanClock _ _).chanRises _

end
end Sys2Proof.Machine
end

-- ==== Sitting: the end of a step ====
section
/-! SUPPORT. The end of a step. -/
open Sys2Proof Sys2Proof.Machine Sys2Proof.Claims
set_option maxRecDepth 20000

namespace Sys2Proof.Machine

section
variable {s t : State} {d e x : Dev} {i : Nat} {f : DomEntry} {up fell : Bool}

/-- How long the step in progress has run, in µs. -/
def Dev.stepUs (d : Dev) : Nat := (d.sys.now8 - d.pwr.stepAt) / 125

/-- PWR_STATE shows how long the step took (R348). -/
def Dev.timeShown (d : Dev) : Dev := d.put F.PWR_STATE.elapsed_us (min d.stepUs 0xFFFF)

/-- A rail's power-good level shows where its step read it. -/
def Dev.railDone (d : Dev) (f : DomEntry) (up fell : Bool) : Dev := if f.pgUsed && (up || fell) then d.putBit F.PWR_STATUS.pg f.index up else d

/-- A domain's switches have closed. -/
def Dev.domDone (d : Dev) (k : Nat) : Dev :=
  let e := (d.modPwr fun p => { p with closed := putBits p.closed k k 0 }).domUp k
  if e.pwrSt = 3 && 4 ≤ k && e.on F.CAL_CTRL.auto_reapply then e.walkStart (some (k - 4)) else e

/-- The step has ended, but for the time of its entry. -/
def Dev.entryDone (d : Dev) (f : DomEntry) (up fell : Bool) : Dev :=
  if f.kind = 1 then d.railDone f up fell else if up then d.domDone f.index else d

theorem Dev.stepDone_up : d.stepDone i f true fell = (d.timeShown.entryDone f true fell).put (F.PWR_STEP_TIMEi.us i) d.stepUs := rfl
theorem Dev.stepDone_down : d.stepDone i f false fell = d.timeShown.entryDone f false fell := rfl

theorem Dev.entryDone_rail (h : f.kind = 1) : d.entryDone f up fell = d.railDone f up fell := if_pos h
theorem Dev.entryDone_up (h : f.kind ≠ 1) : d.entryDone f true fell = d.domDone f.index := by rw [Dev.entryDone, if_neg h, if_pos rfl]
theorem Dev.entryDone_down (h : f.kind ≠ 1) : d.entryDone f false fell = d := by rw [Dev.entryDone, if_neg h, if_neg (by decide)]

theorem Dev.frame_timeShown : Dev.Frame [Part.reg R.PWR_STATE.off] d d.timeShown := Frame.put Frame.refl _ _ (by simp [F.PWR_STATE.elapsed_us])

theorem Dev.elapsed_timeShown : d.timeShown.get F.PWR_STATE.elapsed_us = min d.stepUs 0xFFFF := by
  rw [Dev.timeShown, Dev.get_put_same _ _ _ rfl]
  exact Nat.mod_eq_of_lt (lt_of_le_of_lt (Nat.min_le_right _ _) (by decide))

theorem Dev.get_timeShown (g : Fld) (hReg : g.reg = R.PWR_STATE) (hOk : g.ok = true) (hLo : 15 < g.lo) : d.timeShown.get g = d.get g := by
  refine Dev.get_put_other d F.PWR_STATE.elapsed_us g _ hReg (by decide) hOk ?_
  simp [F.PWR_STATE.elapsed_us, hLo]

theorem Dev.frame_railDone : Dev.Frame [Part.reg R.PWR_STATUS.off] d (d.railDone f up fell) :=
  Frame.ite (Frame.putBit Frame.refl _ _ _ (by simp [F.PWR_STATUS.pg])) Frame.refl

theorem Dev.status_railDone (g : Fld) (hReg : g.reg = R.PWR_STATUS) (hOk : g.ok = true) (hApart : g.hi < 8 ∨ 15 < g.lo) :
    (d.railDone f up fell).get g = d.get g := by
  unfold Dev.railDone
  split
  · refine Dev.get_put_other d F.PWR_STATUS.pg g _ hReg (by decide) hOk ?_
    rw [Bool.or_eq_true, decide_eq_true_eq, decide_eq_true_eq]
    exact hApart
  · rfl

/-- What a step that has ended leaves: the other fields of PWR_STATE and the upper ones of PWR_STATUS, the time, and what waits. -/
structure Dev.StepEnded (d e : Dev) : Prop where
  now8 : e.sys.now8 = d.sys.now8
  state : ∀ g : Fld, g.reg = R.PWR_STATE → e.get g = d.get g
  status : ∀ g : Fld, g.reg = R.PWR_STATUS → g.ok = true → 15 < g.lo → e.get g = d.get g
  down : e.pwr.down = d.pwr.down

theorem Dev.StepEnded.refl : Dev.StepEnded d d := ⟨rfl, fun _ _ => rfl, fun _ _ _ _ => rfl, rfl⟩

theorem Dev.StepEnded.ofStays (h : Dev.StepEnded d e) (g : Dev.PowerStays e x) : Dev.StepEnded d x :=
  ⟨g.now8.trans h.now8, fun y hy => (g.get y (by rw [hy]; decide)).trans (h.state y hy),
    fun y hy hOk hLo => (g.get y (by rw [hy]; decide)).trans (h.status y hy hOk hLo), (congrArg PwrSt.down g.pwr).trans h.down⟩

theorem Dev.StepEnded.ofFrame {ps : List Part} (h : Dev.StepEnded d e) (hFrame : Dev.Frame ps e x) (hClock : Part.clock ∉ ps) (hPwr : Part.pwr ∉ ps)
    (hState : Part.reg R.PWR_STATE.off ∉ ps) (hStatus : Part.reg R.PWR_STATUS.off ∉ ps) : Dev.StepEnded d x :=
  ⟨(hFrame _ hClock).trans h.now8, fun y hy => (Frame.get hFrame y (by rw [hy]; exact hState)).trans (h.state y hy),
    fun y hy hOk hLo => (Frame.get hFrame y (by rw [hy]; exact hStatus)).trans (h.status y hy hOk hLo), (congrArg PwrSt.down (hFrame _ hPwr)).trans h.down⟩

/-- The switches of a domain are no longer closed without power. -/
def Dev.switchDone (d : Dev) (k : Nat) : Dev := d.modPwr fun p => { p with closed := putBits p.closed k k 0 }

theorem Dev.stepEnded_switchDone (k : Nat) : Dev.StepEnded d (d.switchDone k) := ⟨rfl, fun _ _ => rfl, fun _ _ _ _ => rfl, rfl⟩

theorem Dev.stays_domDone (k : Nat) : Dev.PowerStays ((d.switchDone k).putBit F.PWR_DOMAINS.domains k true) (d.domDone k) := by
  have hUp := Dev.powerStays_domUp (d := d.switchDone k) k
  unfold Dev.domDone
  exact .ite (hUp.trans (Dev.powerStays_walkStart _)) hUp

theorem Dev.stepEnded_domDone (k : Nat) : Dev.StepEnded d (d.domDone k) := by
  have hMarked := (Dev.stepEnded_switchDone (d := d) k).ofFrame (x := (d.switchDone k).putBit F.PWR_DOMAINS.domains k true) (ps := [Part.reg R.PWR_DOMAINS.off])
    (Frame.putBit Frame.refl _ _ _ (by simp [F.PWR_DOMAINS.domains])) (by simp) (by simp) (by decide) (by decide)
  exact hMarked.ofStays (Dev.stays_domDone k)

theorem Dev.stepEnded_entryDone : Dev.StepEnded d (d.entryDone f up fell) := by
  by_cases hKind : f.kind = 1
  · rw [Dev.entryDone_rail hKind]
    have hFrame := Dev.frame_railDone (d := d) (f := f) (up := up) (fell := fell)
    exact ⟨hFrame Part.clock (by simp), fun g hg => Frame.get hFrame g (by rw [hg]; decide), fun g hg hOk hLo => Dev.status_railDone g hg hOk (.inr hLo),
      congrArg PwrSt.down (Frame.pwr_eq hFrame (by simp))⟩
  · cases up with
    | true =>
      rw [Dev.entryDone_up hKind]
      exact Dev.stepEnded_domDone _
    | false =>
      rw [Dev.entryDone_down hKind]
      exact .refl

/-- The step time of an entry leaves the rest. -/
theorem Dev.stepEnded_stepTime (v : Nat) : Dev.StepEnded d (d.put (F.PWR_STEP_TIMEi.us i) v) := by
  refine Dev.StepEnded.refl.ofFrame (ps := [Part.reg (R.PWR_STEP_TIMEi i).off]) (Frame.put Frame.refl _ _ (by simp [F.PWR_STEP_TIMEi.us])) (by simp) (by simp) ?_ ?_ <;>
  · simp only [List.mem_singleton, Part.reg.injEq, R.PWR_STATE, R.PWR_STATUS, R.PWR_STEP_TIMEi]
    omega

theorem Dev.StepEnded.trans (h : Dev.StepEnded d e) (g : Dev.StepEnded e x) : Dev.StepEnded d x :=
  ⟨g.now8.trans h.now8, fun y hy => (g.state y hy).trans (h.state y hy), fun y hy hOk hLo => (g.status y hy hOk hLo).trans (h.status y hy hOk hLo), g.down.trans h.down⟩

/-- The whole end of a step, seen from the time it shows. -/
theorem Dev.stepEnded_stepDone : Dev.StepEnded d.timeShown (d.stepDone i f up fell) := by
  cases up with
  | true =>
    rw [Dev.stepDone_up]
    exact Dev.stepEnded_entryDone.trans (Dev.stepEnded_stepTime _)
  | false =>
    rw [Dev.stepDone_down]
    exact Dev.stepEnded_entryDone

/-- A domain whose step up has ended is on. -/
theorem Dev.domOn_stepDone {k : Nat} (hKind : f.kind ≠ 1) (hIndex : f.index = k) (hk : k < 12) : (d.stepDone i f true fell).domOn k = true := by
  have hTime : ((d.timeShown.entryDone f true fell).put (F.PWR_STEP_TIMEi.us i) d.stepUs).rd R.PWR_DOMAINS = (d.timeShown.entryDone f true fell).rd R.PWR_DOMAINS :=
    Dev.rd_put_ne _ _ _ _ (by simp only [F.PWR_STEP_TIMEi.us, R.PWR_DOMAINS, R.PWR_STEP_TIMEi]; omega)
  have hField (y : Dev) : bit (y.get F.PWR_DOMAINS.domains) k = y.domOn k := bit_mod (y.rd R.PWR_DOMAINS) 12 k hk
  rw [Dev.stepDone_up, Dev.domOn, hTime, Dev.entryDone_up hKind, (Dev.stays_domDone _).reg R.PWR_DOMAINS (by decide), ← Dev.domOn, ← hField, hIndex,
    Dev.bit_putBit _ _ _ _ rfl hk, if_pos rfl]

/-! ### The domains as a power-up goes on -/

theorem State.domOn_stepBegin_up {k : Nat} (hk : k < 12) (j : Nat) (f : DomEntry) : (s.stepBegin j f true).dev.domOn k = s.dev.domOn k := by
  have hShown : (s.dev.entryShown j).rd R.PWR_DOMAINS = s.dev.rd R.PWR_DOMAINS := Frame.rd Dev.frame_entryShown _ (by decide)
  have hField (y : Dev) : bit (y.get F.PWR_DOMAINS.domains) k = y.domOn k := bit_mod (y.rd R.PWR_DOMAINS) 12 k hk
  by_cases hKind : f.kind = 1
  · rw [State.stepBegin_rail hKind]
    dsimp only
    rw [← hField, Dev.domains_railMoved, hField, Dev.domOn, hShown, Dev.domOn]
  · rw [State.stepBegin_close hKind]
    exact congrArg (fun v => bit v k) hShown

theorem State.domOn_upFrom {k : Nat} (hk : k < 12) (j : Nat) : (s.upFrom j).1.dev.domOn k = s.dev.domOn k := by
  have hState : (s.dev.put F.PWR_STATE.state 2).domOn k = s.dev.domOn k := congrArg (fun v => bit v k) (Dev.rd_put_ne _ _ _ _ (by decide))
  rw [State.upFrom_eq, ← hState]
  generalize s.dev.put F.PWR_STATE.state 2 = y
  cases h : y.nextOff j with
  | none =>
    rw [State.upNext_none (s := { s with dev := y }) h]
    exact congrArg (fun v => bit v k) (Frame.rd Dev.frame_reachedOn R.PWR_DOMAINS (by decide))
  | some p =>
    obtain ⟨j, f⟩ := p
    rw [State.upNext_some (s := { s with dev := y }) h]
    exact State.domOn_stepBegin_up (s := { s with dev := y }) hk j f

end
end Sys2Proof.Machine
end

-- ==== Sitting: ends and time-outs of steps ====
section
/-! SUPPORT. The ends and the time-outs of steps, state by state. -/
open Sys2Proof Sys2Proof.Machine Sys2Proof.Claims
set_option maxRecDepth 20000

namespace Sys2Proof.Machine

section
variable {s : State} {d : Dev} {i n : Nat} {f : DomEntry} {up : Bool}

/-! ### The step in progress (R333) -/

theorem Dev.stepNow_rising (hSt : d.pwrSt = 2) (hEntry : d.get F.PWR_STATE.entry = i) (hDom : d.doms[i]? = some f) : d.stepNow = some (i, f, true) := by
  unfold Dev.stepNow
  dsimp only
  simp only [hSt, hEntry, hDom, Option.map_some]

theorem Dev.stepNow_falling (hSt : d.pwrSt = 4) (hEntry : d.get F.PWR_STATE.entry = i) (hDom : d.doms[i]? = some f) : d.stepNow = some (i, f, false) := by
  unfold Dev.stepNow
  dsimp only
  simp only [hSt, hEntry, hDom, Option.map_some]

/-- A step up runs as rails rise, or for a channel. -/
theorem Dev.notFalling_of_stepUp (h : d.stepNow = some (i, f, true)) : d.pwrSt = 2 ∨ d.pwrSt = 3 := by
  unfold Dev.stepNow at h
  dsimp only at h
  split at h
  next hSt => exact .inl hSt
  next hSt =>
    simp at h
  next hSt => exact .inr hSt
  next => simp at h

theorem Dev.coreFalls_of_state (h : d.pwrSt ≠ 4) : d.coreFalls = false := by simp [Dev.coreFalls, h]

/-! ### The end of a step (R333) -/

/-- The device at the moment at which a step has settled. -/
def Dev.settledAt (d : Dev) (f : DomEntry) (up : Bool) : Dev := d.advance8To (d.pwr.stepAt + stepWait f up + f.settleUs * 125)

theorem State.powerStepDone_core (h : s.dev.coreFalls = true) : s.powerStepDone = ({ s with dev := s.dev.parked }, false) := by
  unfold State.powerStepDone
  rw [if_pos h]

theorem State.powerStepDone_none (h : s.dev.coreFalls = false) (hNow : s.dev.stepNow = none) : s.powerStepDone = (s, false) := by
  unfold State.powerStepDone
  simp only [h, hNow, Bool.false_eq_true, if_false]

theorem State.powerStepDone_halt (hNow : s.dev.stepNow = some (i, f, true)) (hKind : f.kind ≠ 1) (hLost : s.dev.pinnaLost f.index = true) :
    s.powerStepDone = ({ s with dev := s.dev.advance8To (s.dev.pwr.stepAt + 2500) } : State).stepHalt 0x74 i f 0 := by
  have hCore : s.dev.coreFalls = false := Dev.coreFalls_of_state (by rcases Dev.notFalling_of_stepUp hNow with h | h <;> omega)
  have hWait : stepWait f true = 2500 := by rw [stepWait, if_neg hKind, if_pos rfl]
  unfold State.powerStepDone
  simp only [hCore, hNow, hLost, hWait, hKind, Bool.false_eq_true, if_false, ne_eq, not_false_eq_true, decide_true, Bool.and_self, if_true]

theorem State.powerStepDone_step (hCore : s.dev.coreFalls = false) (hNow : s.dev.stepNow = some (i, f, up)) (hLost : up = true → f.kind ≠ 1 → s.dev.pinnaLost f.index = false) :
    s.powerStepDone = ({ s with dev := (s.dev.settledAt f up).stepDone i f up true } : State).stepNext i := by
  have hGood : (up && decide (f.kind ≠ 1) && s.dev.pinnaLost f.index) = false := by
    by_cases hUp : up = true ∧ f.kind ≠ 1
    · rw [hLost hUp.1 hUp.2, Bool.and_false]
    · have hNot : (up && decide (f.kind ≠ 1)) = false := by simpa using hUp
      rw [hNot, Bool.false_and]
  unfold State.powerStepDone
  simp only [hCore, hNow, hGood, Bool.false_eq_true, if_false]
  rfl

/-! ### Time-outs (R334, R335) -/

/-- The moment of a time-out. -/
def Dev.outOfTime (d : Dev) (f : DomEntry) : Dev := d.advance8To (d.pwr.stepAt + f.timeoutMs * 125000)

theorem State.powerStepTimeout_core (h : s.dev.coreFalls = true) :
    s.powerStepTimeout = ({ s with dev := (((s.dev.advance8To (s.dev.pwr.stepAt + 2500000)).count F.PWR_COUNTS.step_fail).pwrFlag 5).parked }, false) := by
  unfold State.powerStepTimeout
  rw [if_pos h]

theorem State.powerStepTimeout_none (h : s.dev.coreFalls = false) (hNow : s.dev.stepNow = none) : s.powerStepTimeout = (s, false) := by
  unfold State.powerStepTimeout
  simp only [h, hNow, Bool.false_eq_true, if_false]

theorem State.powerStepTimeout_up (hNow : s.dev.stepNow = some (i, f, true)) (hPg : f.kind = 1 → f.pgUsed = true) :
    s.powerStepTimeout = ({ s with dev := s.dev.outOfTime f } : State).stepHalt 0x70 i f ((s.dev.outOfTime f).rd R.PWR_STATUS) := by
  have hCore : s.dev.coreFalls = false := Dev.coreFalls_of_state (by rcases Dev.notFalling_of_stepUp hNow with h | h <;> omega)
  have hUsed : (decide (f.kind = 1) && !f.pgUsed) = false := by
    by_cases hKind : f.kind = 1
    · rw [hPg hKind, Bool.not_true, Bool.and_false]
    · simp [hKind]
  unfold State.powerStepTimeout
  simp only [hCore, hNow, hUsed, Bool.false_eq_true, if_false, if_true]
  rfl

theorem State.powerStepTimeout_down (hCore : s.dev.coreFalls = false) (hNow : s.dev.stepNow = some (i, f, false)) (hPg : f.pgUsed = true) :
    s.powerStepTimeout = ({ s with dev := ((s.dev.outOfTime f).stepFailed 0x73 i f ((s.dev.outOfTime f).rd R.PWR_STATUS)).stepDone i f false false } : State).stepNext i := by
  unfold State.powerStepTimeout
  simp only [hCore, hNow, hPg, Bool.not_true, Bool.and_false, Bool.false_eq_true, if_false]
  rfl

/-! ### A step that fails (R334) -/

/-- A failed step is counted and flagged. -/
def Dev.failCounted (d : Dev) : Dev := (d.count F.PWR_COUNTS.step_fail).pwrFlag 5

/-- The sequence has halted. -/
def Dev.halted (d : Dev) : Dev := (d.put F.PWR_STATE.state 5).pwrActive.modPwr fun x => { x with chanQ := [] }

theorem Dev.frame_failCounted : Dev.Frame ([Part.reg R.PWR_COUNTS.off] ++ pwrFlagParts) d d.failCounted :=
  Frame.flag (Frame.count Frame.refl _ _ (by simp [F.PWR_COUNTS.step_fail])) _ _ _ _ (by simp [pwrFlagParts]) (by simp +contextual [pwrFlagParts])

theorem Dev.phaseSt_failCounted : d.failCounted.phaseSt 5 = d.phaseSt 5 :=
  Dev.phaseSt_congr (Dev.ph_of_frame Dev.frame_failCounted (by decide)) 5

theorem Dev.stepFailed_plain {sub d1 : Nat} (h : d.phaseSt 5 ≠ 1 ∨ sub = 0x73) : d.stepFailed sub i f d1 = d.failCounted.report 31 (pwrDetail sub i f.code) d1 := by
  have hPhase := Dev.phaseSt_failCounted (d := d)
  unfold Dev.stepFailed
  dsimp only
  rw [← Dev.failCounted, hPhase, if_neg]
  rcases h with h | h <;> simp [h]

theorem Dev.stepFailed_phase {sub d1 : Nat} (h : d.phaseSt 5 = 1) (hSub : sub ≠ 0x73) :
    d.stepFailed sub i f d1 = (d.failCounted.reportClass 3 31 (pwrDetail sub i f.code) d1).phaseEnd 5 3 (i + 1) := by
  have hPhase := Dev.phaseSt_failCounted (d := d)
  unfold Dev.stepFailed
  dsimp only
  rw [← Dev.failCounted, hPhase, if_pos (by simp [h, hSub])]

theorem Dev.pwr_halted : d.halted.pwr = { d.pwr with chanQ := [] } := by
  rw [Dev.halted, Dev.pwr_modPwr, Dev.pwrActive, Dev.setActive_pwr, Dev.put_pwr]

theorem Dev.pwr_failCounted : d.failCounted.pwr = d.pwr := by rw [Dev.failCounted, Dev.pwrFlag, Dev.flag_pwr, Dev.count_pwr]

theorem Dev.pwr_stepFailed (sub d1 : Nat) : (d.stepFailed sub i f d1).pwr = d.pwr := by
  by_cases h : d.phaseSt 5 = 1 ∧ sub ≠ 0x73
  · rw [Dev.stepFailed_phase h.1 h.2, Dev.phaseEnd, Dev.showPhase, Dev.phaseNote, Dev.put_pwr, Dev.put_pwr, Dev.put_pwr, Dev.put_pwr, Dev.pwr_setPhase, Dev.reportClass_pwr,
      Dev.pwr_failCounted]
  · rw [Dev.stepFailed_plain (by tauto), Dev.report_pwr, Dev.pwr_failCounted]

theorem State.stepHalt_eq {sub d1 : Nat} (h : s.dev.pwr.down = 0) : s.stepHalt sub i f d1 = ({ s with dev := (s.dev.stepFailed sub i f d1).halted }, false) := by
  have hDown : (s.dev.stepFailed sub i f d1).halted.pwr.down = 0 := by
    rw [Dev.pwr_halted, Dev.pwr_stepFailed]
    exact h
  unfold State.stepHalt
  dsimp only
  rw [← Dev.halted, hDown, if_neg (by decide)]

theorem Dev.fails_failCounted : d.failCounted.get F.PWR_COUNTS.step_fail = min (d.get F.PWR_COUNTS.step_fail + 1) 255 :=
  (Dev.get_pwrFlag 5 _ (by decide) (by decide)).trans (Dev.get_count_same d F.PWR_COUNTS.step_fail 1 rfl)

theorem Dev.flag_failCounted : bit (d.failCounted.rd R.PWR_IRQ_STATUS) 5 = true := by
  rw [Dev.failCounted]
  exact Dev.bit_pwrFlag (by decide)

theorem pwrDetail_eq (sub i c : Nat) : pwrDetail sub i c = sub * 2 ^ 24 + i * 2 ^ 16 + c := by rw [pwrDetail, Nat.shiftLeft_eq, Nat.shiftLeft_eq]

theorem Dev.strobed_failCounted {c : Dev} {d0 d1 : Nat} (h : Dev.Frame timeParts c d) : strobed c (d.failCounted.report 31 d0 d1) 31 d0 d1 := by
  have hAll : Dev.Frame (timeParts ++ ([Part.reg R.PWR_COUNTS.off] ++ pwrFlagParts)) c d.failCounted :=
    Frame.trans (Frame.mono h (by simp +contextual)) (Frame.mono Dev.frame_failCounted (by simp +contextual))
  exact Dev.strobed_report d0 d1 (hAll Part.strobes (by decide)) (Frame.get hAll _ (by decide))

theorem Dev.frame_halted : Dev.Frame ([Part.pwr, Part.reg R.PWR_STATE.off] ++ activeParts 31) d d.halted :=
  Frame.setPwr (Frame.trans (Frame.put Frame.refl _ _ (by simp [F.PWR_STATE.state])) (Frame.mono Dev.frame_pwrActive (by simp +contextual))) _ (by simp)

theorem Dev.pwrSt_halted : d.halted.pwrSt = 5 := by
  rw [Dev.halted, Dev.pwrSt, Dev.get_modPwr, Dev.powerStays_pwrActive.get F.PWR_STATE.state (by decide), Dev.get_put_same _ _ _ rfl]
  rfl

theorem Dev.on_modPwr (u : PwrSt → PwrSt) (g : Fld) : (d.modPwr u).on g = d.on g := rfl

theorem Dev.active_halted : d.halted.on (F.FLT_SRCi_STATE.active 31) = true := by
  have hSt : (d.put F.PWR_STATE.state 5).pwrSt = 5 := Dev.get_put_same d F.PWR_STATE.state 5 rfl
  rw [Dev.halted, Dev.on_modPwr, Dev.pwrActive, Dev.on_setActive_same _ (by decide), hSt]
  simp

/-- A change of the active level of source 31 leaves its records. -/
theorem strobed_pwrActive {c : Dev} {d0 d1 : Nat} (h : strobed c d 31 d0 d1) : strobed c d.pwrActive 31 d0 d1 :=
  strobed_of_same h (Dev.frame_pwrActive Part.strobes (by decide)) (Dev.get_setActive_merged _ _) (Frame.rd Dev.frame_pwrActive R.EVT_TIME (by decide))

theorem strobed_halted {c : Dev} {d0 d1 : Nat} (h : strobed c d 31 d0 d1) : strobed c d.halted 31 d0 d1 := by
  have hPut : Dev.Frame [Part.reg R.PWR_STATE.off] d (d.put F.PWR_STATE.state 5) := Frame.put Frame.refl _ _ (by simp [F.PWR_STATE.state])
  have hActive := strobed_pwrActive (strobed_after h hPut (by decide) (by decide) (by decide))
  exact strobed_after hActive (ps := [Part.pwr]) (Frame.setPwr Frame.refl _ (by simp)) (by decide) (by decide) (by decide)

/-! ### CORE has fallen (R339) -/

theorem Dev.frame_parked : Dev.Frame [Part.pwr, Part.reg R.PWR_STATE.off, Part.reg R.PWR_LAST_SHUTDOWN.off] d d.parked := by
  have hState : Dev.Frame [Part.pwr, Part.reg R.PWR_STATE.off, Part.reg R.PWR_LAST_SHUTDOWN.off] d
      ((d.put F.PWR_STATE.state 0).modPwr fun p => { p with shutAt := 0, parkAt := d.sys.now8 }) :=
    Frame.setPwr (Frame.put Frame.refl _ _ (by simp [F.PWR_STATE.state])) _ (by simp)
  unfold Dev.parked
  exact Frame.ite hState (Frame.put hState _ _ (by simp [F.PWR_LAST_SHUTDOWN.us]))

theorem Dev.pwrSt_parked : d.parked.pwrSt = 0 := by
  have hState : ((d.put F.PWR_STATE.state 0).modPwr fun p => { p with shutAt := 0, parkAt := d.sys.now8 }).pwrSt = 0 := by
    rw [Dev.pwrSt, Dev.get_modPwr, Dev.get_put_same _ _ _ rfl]
    rfl
  unfold Dev.parked
  dsimp only
  split
  · exact hState
  · exact (Dev.get_put_ne _ _ _ _ (by decide)).trans hState

theorem Dev.shutTime_parked (h : d.pwr.shutAt ≠ 0) : d.parked.rd R.PWR_LAST_SHUTDOWN = min ((d.sys.now8 + 1 - d.pwr.shutAt) / 125) (2 ^ 32 - 1) := by
  unfold Dev.parked
  dsimp only
  rw [if_neg h]
  exact Dev.rd_put_whole _ F.PWR_LAST_SHUTDOWN.us _ rfl rfl (show (32 : Nat) ≤ 64 by decide) |>.trans (Nat.mod_eq_of_lt (lt_of_le_of_lt (Nat.min_le_right _ _) (by decide)))

end
end Sys2Proof.Machine
end

-- ==== Sitting: steps that halt the sequence ====
section
/-! PROOF. The ends and the time-outs of steps, state by state. -/
open Sys2Proof Sys2Proof.Machine Sys2Proof.Claims
set_option maxRecDepth 20000

namespace Sys2Proof.Proofs

section
variable {s t : State} {P : State → Prop} {d e : Dev} {i j k : Nat} {f g : DomEntry} {up : Bool}

/-! ### What follows the sequencer (R343) -/

theorem State.idleCheck_quiet (h : s.dev.idleStart = false) : s.idleCheck = s := by
  rw [State.idleCheck, if_neg (by simp [h])]

theorem completes_stepDone (h : s.powerStepDone = (t, false)) (hIdle : t.dev.idleStart = false) (hP : P t) : Completes (exec .powerStepDone s) P := by
  refine ⟨t, ?_, hP⟩
  change execPowerStepDone s = _
  unfold execPowerStepDone
  rw [h]
  exact congrArg Host.Outcome.next (State.idleCheck_quiet hIdle)

theorem completes_stepTimeout (h : s.powerStepTimeout = (t, false)) (hIdle : t.dev.idleStart = false) (hP : P t) : Completes (exec .powerStepTimeout s) P := by
  refine ⟨t, ?_, hP⟩
  change execPowerStepTimeout s = _
  unfold execPowerStepTimeout
  rw [h]
  exact congrArg Host.Outcome.next (State.idleCheck_quiet hIdle)

/-- ON is reached while phase 5 does not run. -/
theorem completes_stepDone_on (h : s.powerStepDone = (t, true)) (hPhase : t.dev.phaseSt 5 ≠ 1) (hIdle : t.dev.idleStart = false) (hP : P t) :
    Completes (exec .powerStepDone s) P := by
  refine ⟨t, ?_, hP⟩
  change execPowerStepDone s = _
  unfold execPowerStepDone
  rw [h]
  simp only [hPhase, decide_false, Bool.and_false, Bool.false_eq_true, if_false]
  exact congrArg Host.Outcome.next (State.idleCheck_quiet hIdle)

/-- The end of a step, whether or not phase 5 ends with it. -/
theorem completes_stepDone_any (hEnd : (if s.powerStepDone.2 && s.powerStepDone.1.dev.phaseSt 5 = 1 then { s.powerStepDone.1 with dev := s.powerStepDone.1.dev.end5 }
    else s.powerStepDone.1) = t) (hIdle : t.dev.idleStart = false) (hP : P t) : Completes (exec .powerStepDone s) P := by
  refine ⟨t, ?_, hP⟩
  change Host.Outcome.next (if s.powerStepDone.2 && s.powerStepDone.1.dev.phaseSt 5 = 1 then { s.powerStepDone.1 with dev := s.powerStepDone.1.dev.end5 }
    else s.powerStepDone.1 : State).idleCheck = _
  rw [hEnd, State.idleCheck_quiet hIdle]

/-- A shut-down on idle is judged by fields that the sequencer leaves. -/
theorem idleStart_of_fields (h : d.idleStart = false) (hActive : e.on F.PWR_STATUS.pfail_active = d.on F.PWR_STATUS.pfail_active)
    (hShut : e.on F.PWR_STATUS.shutdown = d.on F.PWR_STATUS.shutdown) (hHost : e.rd R.SYS_HOST_STATE = d.rd R.SYS_HOST_STATE)
    (hCfg : e.rd R.PWR_PFAIL_CFG = d.rd R.PWR_PFAIL_CFG) : e.idleStart = false := by
  have hFlight : e.get F.SYS_HOST_STATE.in_flight = d.get F.SYS_HOST_STATE.in_flight := by rw [Dev.get, Dev.get, F.SYS_HOST_STATE.in_flight, hHost]
  have hStart : e.on F.PWR_PFAIL_CFG.start_on_idle = d.on F.PWR_PFAIL_CFG.start_on_idle := by rw [Dev.on, Dev.on, Dev.get, Dev.get, F.PWR_PFAIL_CFG.start_on_idle, hCfg]
  rw [← h, Dev.idleStart, Dev.idleStart, Dev.warned, Dev.warned, hActive, hShut, hStart, hFlight]

theorem idleStart_of_frame {ps : List Part} (h : d.idleStart = false) (hFrame : Dev.Frame ps d e) (hPower : Part.reg R.PWR_STATUS.off ∉ ps)
    (hHost : Part.reg R.SYS_HOST_STATE.off ∉ ps) (hCfg : Part.reg R.PWR_PFAIL_CFG.off ∉ ps) : e.idleStart = false :=
  idleStart_of_rd h (Frame.rd hFrame _ hPower) (Frame.rd hFrame _ hHost) (Frame.rd hFrame _ hCfg)

/-! ### CORE's own step (R339) -/

theorem coreFalls_step (hFalls : s.dev.coreFalls = true) (hIdle : s.dev.idleStart = false) :
    Completes (exec .powerStepDone s) (fun t =>
      t.dev.pwrSt = 0 ∧ t.dev.sys.now8 = s.dev.sys.now8 ∧
      (s.dev.pwr.shutAt ≠ 0 → t.dev.rd R.PWR_LAST_SHUTDOWN = min ((s.dev.sys.now8 + 1 - s.dev.pwr.shutAt) / 125) (2 ^ 32 - 1)) ∧
      s.Frame [Part.pwr, Part.reg R.PWR_STATE.off, Part.reg R.PWR_LAST_SHUTDOWN.off] t) ∧
    Completes (exec .powerStepTimeout s) (fun t =>
      t.dev.pwrSt = 0 ∧ t.dev.sys.now8 = max s.dev.sys.now8 (s.dev.pwr.stepAt + 2500000) ∧
      t.dev.get F.PWR_COUNTS.step_fail = min (s.dev.get F.PWR_COUNTS.step_fail + 1) 255 ∧ bit (t.dev.rd R.PWR_IRQ_STATUS) 5 = true ∧
      s.Frame ([Part.pwr, Part.reg R.PWR_STATE.off, Part.reg R.PWR_COUNTS.off, Part.reg R.PWR_LAST_SHUTDOWN.off] ++ pwrFlagParts ++ timeParts) t) := by
  have hParked := Dev.frame_parked (d := s.dev)
  have hNow (x : Dev) : x.parked.sys.now8 = x.sys.now8 := Dev.frame_parked Part.clock (by simp)
  refine ⟨completes_stepDone (State.powerStepDone_core hFalls) (idleStart_of_frame hIdle hParked (by decide) (by decide) (by decide))
    ⟨Dev.pwrSt_parked, hNow _, Dev.shutTime_parked, Frame.ofDev hParked⟩, ?_⟩
  have hTimeout := State.powerStepTimeout_core hFalls
  generalize s.dev.pwr.stepAt + 2500000 = at_ at hTimeout ⊢
  have hWaited : Dev.Frame timeParts s.dev (s.dev.advance8To at_) := Frame.advance8To Frame.refl _ fun _ h => h
  have hClock := Dev.now8_advance8To (d := s.dev) at_
  rw [← Dev.failCounted] at hTimeout
  generalize s.dev.advance8To at_ = x at hTimeout hWaited hClock
  have hAll : Dev.Frame ([Part.pwr, Part.reg R.PWR_STATE.off, Part.reg R.PWR_COUNTS.off, Part.reg R.PWR_LAST_SHUTDOWN.off] ++ pwrFlagParts ++ timeParts) s.dev
      x.failCounted.parked :=
    Frame.trans (Frame.trans (Frame.mono hWaited (by simp +contextual)) (Frame.mono Dev.frame_failCounted (by simp +contextual)))
      (Frame.mono Dev.frame_parked (by simp +contextual))
  have hCounted : x.failCounted.sys.now8 = x.sys.now8 := Dev.frame_failCounted Part.clock (by decide)
  refine completes_stepTimeout hTimeout (idleStart_of_frame hIdle hAll (by decide) (by decide) (by decide)) ⟨Dev.pwrSt_parked, ?_, ?_, ?_, Frame.ofDev hAll⟩
  · exact ((hNow _).trans hCounted).trans hClock
  · exact (Frame.get Dev.frame_parked _ (by decide)).trans (Dev.fails_failCounted.trans (by rw [Frame.get hWaited _ (by decide)]))
  · exact (congrArg (fun v => bit v 5) (Frame.rd Dev.frame_parked R.PWR_IRQ_STATUS (by decide))).trans Dev.flag_failCounted

/-! ### No step runs -/

theorem noStep (hCore : s.dev.coreFalls = false) (hIdle : s.dev.idleStart = false) (hNow : s.dev.stepNow = none) :
    Completes (exec .powerStepDone s) (fun t => t = s) ∧ Completes (exec .powerStepTimeout s) (fun t => t = s) :=
  ⟨completes_stepDone (State.powerStepDone_none hCore hNow) hIdle rfl, completes_stepTimeout (State.powerStepTimeout_none hCore hNow) hIdle rfl⟩

/-! ### A step up that fails (R56, R334) -/

/-- What a step up that fails changes outside phase 5. -/
def haltParts : List Part :=
  [Part.pwr, Part.reg R.PWR_STATE.off, Part.reg R.PWR_COUNTS.off] ++ strobeParts 31 ++ activeParts 31 ++ pwrFlagParts ++ timeParts

/-- A device that halts at the moment x, as the obligation sees it. -/
theorem halted_facts {c x : Dev} {sub d1 : Nat} (hWaited : Dev.Frame timeParts c x) (hPhase : c.phaseSt 5 ≠ 1) :
    (x.stepFailed sub i f d1).halted.pwrSt = 5 ∧ (x.stepFailed sub i f d1).halted.get F.PWR_COUNTS.step_fail = min (c.get F.PWR_COUNTS.step_fail + 1) 255 ∧
    bit ((x.stepFailed sub i f d1).halted.rd R.PWR_IRQ_STATUS) 5 = true ∧ (x.stepFailed sub i f d1).halted.on (F.FLT_SRCi_STATE.active 31) = true ∧
    strobed c (x.stepFailed sub i f d1).halted 31 (sub * 2 ^ 24 + i * 2 ^ 16 + f.code) d1 ∧ Dev.Frame haltParts c (x.stepFailed sub i f d1).halted ∧
    (x.stepFailed sub i f d1).halted.sys.now8 = x.sys.now8 := by
  have hRuns : x.phaseSt 5 ≠ 1 := by rwa [Dev.phaseSt_congr (Dev.ph_of_frame hWaited (by decide))]
  have hStrobed : strobed c (x.failCounted.report 31 (pwrDetail sub i f.code) d1) 31 (pwrDetail sub i f.code) d1 := Dev.strobed_failCounted hWaited
  have hReport := Dev.frame_report (d := x.failCounted) 31 (pwrDetail sub i f.code) d1
  rw [Dev.stepFailed_plain (.inl hRuns), ← pwrDetail_eq]
  generalize x.failCounted.report 31 (pwrDetail sub i f.code) d1 = y at hStrobed hReport
  have hCounts := Frame.get (Dev.frame_halted (d := y)) F.PWR_COUNTS.step_fail (by decide)
  have hFlag := Frame.rd (Dev.frame_halted (d := y)) R.PWR_IRQ_STATUS (by decide)
  refine ⟨Dev.pwrSt_halted, ?_, ?_, Dev.active_halted, strobed_halted hStrobed, ?_, ?_⟩
  · rw [hCounts, Frame.get hReport _ (by decide), Dev.fails_failCounted, Frame.get hWaited _ (by decide)]
  · rw [hFlag, Frame.rd hReport _ (by decide), Dev.flag_failCounted]
  · exact Frame.trans (Frame.trans (Frame.trans (Frame.mono hWaited (by simp +contextual [haltParts])) (Frame.mono Dev.frame_failCounted (by simp +contextual [haltParts])))
      (Frame.mono hReport (by simp +contextual [haltParts]))) (Frame.mono Dev.frame_halted (by simp +contextual [haltParts]))
  · have hHalted : y.halted.sys.now8 = y.sys.now8 := Dev.frame_halted Part.clock (by decide)
    have hReported : y.sys.now8 = x.failCounted.sys.now8 := hReport Part.clock (by decide)
    have hCounted : x.failCounted.sys.now8 = x.sys.now8 := Dev.frame_failCounted Part.clock (by decide)
    exact hHalted.trans (hReported.trans hCounted)

theorem pinnaLost_step (hNow : s.dev.stepNow = some (i, f, true)) (hKind : f.kind ≠ 1) (hLost : s.dev.pinnaLost f.index = true) (hDown : s.dev.pwr.down = 0)
    (hPhase : s.dev.phaseSt 5 ≠ 1) (hIdle : s.dev.idleStart = false) :
    Completes (exec .powerStepDone s) fun t =>
      t.dev.sys.now8 = max s.dev.sys.now8 (s.dev.pwr.stepAt + 2500) ∧ t.dev.pwrSt = 5 ∧ t.dev.pwr = { s.dev.pwr with chanQ := [] } ∧
      t.dev.domOn f.index = s.dev.domOn f.index ∧ t.dev.get F.PWR_COUNTS.step_fail = min (s.dev.get F.PWR_COUNTS.step_fail + 1) 255 ∧
      bit (t.dev.rd R.PWR_IRQ_STATUS) 5 = true ∧ t.dev.on (F.FLT_SRCi_STATE.active 31) = true ∧
      strobed s.dev t.dev 31 (0x74 * 2 ^ 24 + i * 2 ^ 16 + f.code) 0 ∧
      s.Frame ([Part.pwr, Part.reg R.PWR_STATE.off, Part.reg R.PWR_COUNTS.off] ++ strobeParts 31 ++ activeParts 31 ++ pwrFlagParts ++ timeParts) t := by
  have hDone := State.powerStepDone_halt hNow hKind hLost
  generalize s.dev.pwr.stepAt + 2500 = at_ at hDone ⊢
  have hWaited : Dev.Frame timeParts s.dev (s.dev.advance8To at_) := Frame.advance8To Frame.refl _ fun _ h => h
  have hClock := Dev.now8_advance8To (d := s.dev) at_
  have hPwr : (s.dev.advance8To at_).pwr = s.dev.pwr := Dev.advance8To_pwr _ _
  generalize s.dev.advance8To at_ = x at hDone hWaited hClock hPwr
  rw [State.stepHalt_eq (s := { s with dev := x }) (by rw [hPwr, hDown])] at hDone
  obtain ⟨hSt, hFails, hFlag, hActive, hStrobed, hFrame, hNow8⟩ := halted_facts (i := i) (f := f) (sub := 0x74) (d1 := 0) hWaited hPhase
  have hQueue : (x.stepFailed 0x74 i f 0).halted.pwr = { s.dev.pwr with chanQ := [] } := by rw [Dev.pwr_halted, Dev.pwr_stepFailed, hPwr]
  have hDomain : (x.stepFailed 0x74 i f 0).halted.domOn f.index = s.dev.domOn f.index := congrArg (fun v => bit v f.index) (Frame.rd hFrame R.PWR_DOMAINS (by decide))
  exact completes_stepDone hDone (idleStart_of_frame hIdle hFrame (by decide) (by decide) (by decide))
    ⟨hNow8.trans hClock, hSt, hQueue, hDomain, hFails, hFlag, hActive, hStrobed, Frame.ofDev hFrame⟩

/-- A step up that times out outside phase 5. -/
theorem timeout_halts (hIdle : s.dev.idleStart = false) (hSt : s.dev.pwrSt = 2) (hEntry : s.dev.get F.PWR_STATE.entry = i) (hDom : s.dev.doms[i]? = some f)
    (hPg : f.kind = 1 → f.pgUsed = true) (hDown : s.dev.pwr.down = 0) (hPhase : s.dev.phaseSt 5 ≠ 1) :
    Completes (exec .powerStepTimeout s) fun t =>
      t.dev.sys.now8 = max s.dev.sys.now8 (s.dev.pwr.stepAt + f.timeoutMs * 125000) ∧
      t.dev.pwrSt = 5 ∧ t.dev.get F.PWR_COUNTS.step_fail = min (s.dev.get F.PWR_COUNTS.step_fail + 1) 255 ∧
      bit (t.dev.rd R.PWR_IRQ_STATUS) 5 = true ∧ t.dev.on (F.FLT_SRCi_STATE.active 31) = true ∧
      strobed s.dev t.dev 31 (0x70 * 2 ^ 24 + i * 2 ^ 16 + f.code) (s.dev.rd R.PWR_STATUS) ∧
      s.Frame ([Part.pwr, Part.reg R.PWR_STATE.off, Part.reg R.PWR_COUNTS.off] ++ strobeParts 31 ++ activeParts 31 ++ pwrFlagParts ++ timeParts) t := by
  have hDone := State.powerStepTimeout_up (Dev.stepNow_rising hSt hEntry hDom) hPg
  rw [Dev.outOfTime] at hDone
  generalize s.dev.pwr.stepAt + f.timeoutMs * 125000 = at_ at hDone ⊢
  have hWaited : Dev.Frame timeParts s.dev (s.dev.advance8To at_) := Frame.advance8To Frame.refl _ fun _ h => h
  have hClock := Dev.now8_advance8To (d := s.dev) at_
  have hPwr : (s.dev.advance8To at_).pwr = s.dev.pwr := Dev.advance8To_pwr _ _
  generalize s.dev.advance8To at_ = x at hDone hWaited hClock hPwr
  rw [State.stepHalt_eq (s := { s with dev := x }) (by rw [hPwr, hDown]), Frame.rd hWaited R.PWR_STATUS (by decide)] at hDone
  obtain ⟨hHalted, hFails, hFlag, hActive, hStrobed, hFrame, hNow8⟩ := halted_facts (i := i) (f := f) (sub := 0x70) (d1 := s.dev.rd R.PWR_STATUS) hWaited hPhase
  exact completes_stepTimeout hDone (idleStart_of_frame hIdle hFrame (by decide) (by decide) (by decide))
    ⟨hNow8.trans hClock, hHalted, hFails, hFlag, hActive, hStrobed, Frame.ofDev hFrame⟩

/-- A step up that fails while phase 5 runs fails the phase (R62). -/
theorem halted_phase_facts {c x : Dev} {sub d1 : Nat} (hWaited : Dev.Frame timeParts c x) (hPhase : c.phaseSt 5 = 1) (hSub : sub ≠ 0x73) :
    (x.stepFailed sub i f d1).halted.pwrSt = 5 ∧ (x.stepFailed sub i f d1).halted.get F.PWR_COUNTS.step_fail = min (c.get F.PWR_COUNTS.step_fail + 1) 255 ∧
    bit ((x.stepFailed sub i f d1).halted.rd R.PWR_IRQ_STATUS) 5 = true ∧
    ((x.stepFailed sub i f d1).halted.phaseSt 5 = 3 ∧ (x.stepFailed sub i f d1).halted.get F.SYS_PHASE.cause = (i + 1) % 256) ∧
    Dev.Frame (haltParts ++ begunParts) c (x.stepFailed sub i f d1).halted ∧ (x.stepFailed sub i f d1).halted.sys.now8 = x.sys.now8 := by
  have hRuns : x.phaseSt 5 = 1 := by rwa [Dev.phaseSt_congr (Dev.ph_of_frame hWaited (by decide))]
  have hReport : Dev.Frame (strobeParts 31) x.failCounted (x.failCounted.reportClass 3 31 (pwrDetail sub i f.code) d1) :=
    Frame.reportClass Frame.refl 3 31 _ _ (by simp [strobeParts]) (by simp [strobeParts])
  rw [Dev.stepFailed_phase hRuns hSub]
  generalize x.failCounted.reportClass 3 31 (pwrDetail sub i f.code) d1 = y at hReport
  have hEnded : Dev.Frame begunParts y (y.phaseEnd 5 3 (i + 1)) :=
    Frame.showPhase (Frame.put (Frame.setPhase Frame.refl 5 3 (by simp [begunParts])) _ _ (by simp [begunParts, F.SYS_PHASE_TIMEk.us])) _ _ _ (by simp [begunParts])
  have hPhaseSt := Dev.phaseSt_phaseEnd (d := y) 5 3 (i + 1)
  have hCause : (y.phaseEnd 5 3 (i + 1)).get F.SYS_PHASE.cause = (i + 1) % 256 := Dev.cause_showPhase 5 3 (i + 1)
  generalize y.phaseEnd 5 3 (i + 1) = z at hEnded hPhaseSt hCause
  have hCounts := Frame.get (Dev.frame_halted (d := z)) F.PWR_COUNTS.step_fail (by decide)
  have hFlag := Frame.rd (Dev.frame_halted (d := z)) R.PWR_IRQ_STATUS (by decide)
  refine ⟨Dev.pwrSt_halted, ?_, ?_, ⟨?_, ?_⟩, ?_, ?_⟩
  · rw [hCounts, Frame.get hEnded _ (by decide), Frame.get hReport _ (by decide), Dev.fails_failCounted, Frame.get hWaited _ (by decide)]
  · rw [hFlag, Frame.rd hEnded _ (by decide), Frame.rd hReport _ (by decide), Dev.flag_failCounted]
  · rw [Dev.phaseSt_congr (Dev.ph_of_frame Dev.frame_halted (by decide)), hPhaseSt]
  · rw [Frame.get Dev.frame_halted _ (by decide), hCause]
  · exact Frame.trans (Frame.trans (Frame.trans (Frame.trans (Frame.mono hWaited (by simp +contextual [haltParts]))
      (Frame.mono Dev.frame_failCounted (by simp +contextual [haltParts]))) (Frame.mono hReport (by simp +contextual [haltParts])))
      (Frame.mono hEnded (by simp +contextual [haltParts]))) (Frame.mono Dev.frame_halted (by simp +contextual [haltParts]))
  · have hHalted : z.halted.sys.now8 = z.sys.now8 := Dev.frame_halted Part.clock (by decide)
    have hShown : z.sys.now8 = y.sys.now8 := hEnded Part.clock (by decide)
    have hReported : y.sys.now8 = x.failCounted.sys.now8 := hReport Part.clock (by decide)
    have hCounted : x.failCounted.sys.now8 = x.sys.now8 := Dev.frame_failCounted Part.clock (by decide)
    exact hHalted.trans (hShown.trans (hReported.trans hCounted))

theorem timeout_step (hIdle : s.dev.idleStart = false) (hNow : s.dev.stepNow = some (i, f, true)) (hPg : f.kind = 1 → f.pgUsed = true) (hDown : s.dev.pwr.down = 0) :
    Completes (exec .powerStepTimeout s) fun t =>
      t.dev.pwrSt = 5 ∧ t.dev.pwr.chanQ = [] ∧ t.dev.sys.now8 = max s.dev.sys.now8 (s.dev.pwr.stepAt + f.timeoutMs * 125000) ∧
      t.dev.get F.PWR_COUNTS.step_fail = min (s.dev.get F.PWR_COUNTS.step_fail + 1) 255 ∧ bit (t.dev.rd R.PWR_IRQ_STATUS) 5 = true ∧
      (s.dev.phaseSt 5 = 1 → t.dev.phaseSt 5 = 3 ∧ t.dev.get F.SYS_PHASE.cause = (i + 1) % 256) ∧ t.mem = s.mem ∧ t.pending = s.pending := by
  have hDone := State.powerStepTimeout_up hNow hPg
  rw [Dev.outOfTime] at hDone
  generalize s.dev.pwr.stepAt + f.timeoutMs * 125000 = at_ at hDone ⊢
  have hWaited : Dev.Frame timeParts s.dev (s.dev.advance8To at_) := Frame.advance8To Frame.refl _ fun _ h => h
  have hClock := Dev.now8_advance8To (d := s.dev) at_
  have hPwr : (s.dev.advance8To at_).pwr = s.dev.pwr := Dev.advance8To_pwr _ _
  generalize s.dev.advance8To at_ = x at hDone hWaited hClock hPwr
  rw [State.stepHalt_eq (s := { s with dev := x }) (by rw [hPwr, hDown])] at hDone
  dsimp only at hDone
  generalize x.rd R.PWR_STATUS = v at hDone
  have hQueue : (x.stepFailed 0x70 i f v).halted.pwr.chanQ = [] := congrArg PwrSt.chanQ Dev.pwr_halted
  by_cases hPhase : s.dev.phaseSt 5 = 1
  · obtain ⟨hSt, hFails, hFlag, hEnded, hFrame, hNow8⟩ := halted_phase_facts (i := i) (f := f) (sub := 0x70) (d1 := v) hWaited hPhase (by decide)
    exact completes_stepTimeout hDone (idleStart_of_frame hIdle hFrame (by decide) (by decide) (by decide))
      ⟨hSt, hQueue, hNow8.trans hClock, hFails, hFlag, fun _ => hEnded, rfl, rfl⟩
  · obtain ⟨hSt, hFails, hFlag, -, -, hFrame, hNow8⟩ := halted_facts (i := i) (f := f) (sub := 0x70) (d1 := v) hWaited hPhase
    exact completes_stepTimeout hDone (idleStart_of_frame hIdle hFrame (by decide) (by decide) (by decide))
      ⟨hSt, hQueue, hNow8.trans hClock, hFails, hFlag, fun h => absurd h hPhase, rfl, rfl⟩

end
end Sys2Proof.Proofs
end

-- ==== Sitting: steps that end ====
section
/-! PROOF. How the sequence goes on from the end of a step. -/
open Sys2Proof Sys2Proof.Machine Sys2Proof.Claims
set_option maxRecDepth 20000

namespace Sys2Proof.Machine

section
variable {s : State} {c d x : Dev} {i j : Nat} {f : DomEntry} {up fell : Bool}

theorem State.stepNext_rising (h : s.dev.pwrSt = 2) (hDown : s.dev.pwr.down = 0) (i : Nat) : s.stepNext i = s.upFrom (i + 1) := by
  unfold State.stepNext
  dsimp only
  simp only [h, hDown, ne_eq, not_true_eq_false, if_false]

theorem State.stepNext_falling (h : s.dev.pwrSt = 4) (hUp : s.dev.pwr.up = false) (i : Nat) : s.stepNext i = (s.downFrom i, false) := by
  unfold State.stepNext
  dsimp only
  simp only [h, hUp, Bool.false_eq_true, if_false]

/-! ### The end of a rail's step -/

/-- What the end of a rail's step changes, its way on left out. -/
def railDoneParts : List Part := [Part.reg R.PWR_STATE.off, Part.reg R.PWR_STATUS.off] ++ timeParts

/-- A step that has ended, as it stands against the device in which it ran. -/
structure Dev.Ended (c x e : Dev) : Prop where
  now8 : e.sys.now8 = x.sys.now8
  elapsed : e.get F.PWR_STATE.elapsed_us = min ((x.sys.now8 - c.pwr.stepAt) / 125) 0xFFFF
  state : ∀ g : Fld, g.reg = R.PWR_STATE → g.ok = true → 15 < g.lo → e.get g = c.get g
  status : ∀ g : Fld, g.reg = R.PWR_STATUS → g.ok = true → 15 < g.lo → e.get g = c.get g
  down : e.pwr.down = c.pwr.down

theorem Dev.ended_stepDone (hWaited : Dev.Frame timeParts c x) (hPwr : x.pwr = c.pwr) : Dev.Ended c x (x.stepDone i f up fell) := by
  have hEnded := Dev.stepEnded_stepDone (d := x) (i := i) (f := f) (up := up) (fell := fell)
  have hNow : x.timeShown.sys.now8 = x.sys.now8 := Dev.frame_timeShown Part.clock (by simp)
  refine ⟨hEnded.now8.trans hNow, ?_, fun g hReg hOk hLo => ?_, fun g hReg hOk hLo => ?_, ?_⟩
  · rw [hEnded.state _ rfl, Dev.elapsed_timeShown, Dev.stepUs, hPwr]
  · rw [hEnded.state g hReg, Dev.get_timeShown g hReg hOk hLo, Frame.get hWaited g (by rw [hReg]; decide)]
  · rw [hEnded.status g hReg hOk hLo, Frame.get Dev.frame_timeShown g (by rw [hReg]; decide), Frame.get hWaited g (by rw [hReg]; decide)]
  · rw [hEnded.down, Frame.pwr_eq Dev.frame_timeShown (by simp), hPwr]

theorem Dev.frame_railUp (hWaited : Dev.Frame timeParts c x) (hKind : f.kind = 1) :
    Dev.Frame (railDoneParts ++ [Part.reg (R.PWR_STEP_TIMEi i).off]) c (x.stepDone i f true fell) := by
  rw [Dev.stepDone_up, Dev.entryDone_rail hKind]
  exact Frame.put (Frame.trans (Frame.trans (Frame.mono hWaited (by simp +contextual [railDoneParts])) (Frame.mono Dev.frame_timeShown (by simp [railDoneParts])))
    (Frame.mono Dev.frame_railDone (by simp [railDoneParts]))) _ _ (by simp [F.PWR_STEP_TIMEi.us])

theorem Dev.stepTime_railUp (hPwr : x.pwr = c.pwr) : (x.stepDone i f true fell).rd (R.PWR_STEP_TIMEi i) = (x.sys.now8 - c.pwr.stepAt) / 125 % 2 ^ 32 := by
  rw [← hPwr, Dev.stepDone_up]
  exact Dev.rd_put_whole _ (F.PWR_STEP_TIMEi.us i) _ rfl rfl (show (32 : Nat) ≤ 64 by decide)

theorem Dev.pg_railUp (hKind : f.kind = 1) (hUsed : f.pgUsed = true) (hIndex : f.index < 8) : bit ((x.stepDone i f true fell).get F.PWR_STATUS.pg) f.index = true := by
  have hTime : (x.stepDone i f true fell).get F.PWR_STATUS.pg = (x.timeShown.railDone f true fell).get F.PWR_STATUS.pg := by
    rw [Dev.stepDone_up, Dev.entryDone_rail hKind]
    exact Dev.get_put_ne _ _ _ _ (by simp only [F.PWR_STATUS.pg, R.PWR_STATUS, F.PWR_STEP_TIMEi.us, R.PWR_STEP_TIMEi]; omega)
  rw [hTime, Dev.railDone, hUsed, if_pos (by simp), Dev.bit_putBit _ _ _ _ rfl hIndex, if_pos rfl]

theorem Dev.frame_railDown (hWaited : Dev.Frame timeParts c x) (hKind : f.kind = 1) :
    Dev.Frame railDoneParts c (x.stepDone i f false fell) := by
  rw [Dev.stepDone_down, Dev.entryDone_rail hKind]
  exact Frame.trans (Frame.trans (Frame.mono hWaited (by simp +contextual [railDoneParts])) (Frame.mono Dev.frame_timeShown (by simp [railDoneParts])))
    (Frame.mono Dev.frame_railDone (by simp [railDoneParts]))

theorem Dev.pg_railDown (hKind : f.kind = 1) (hUsed : f.pgUsed = true) (hIndex : f.index < 8) : bit ((x.stepDone i f false true).get F.PWR_STATUS.pg) f.index = false := by
  rw [Dev.stepDone_down, Dev.entryDone_rail hKind, Dev.railDone, hUsed, if_pos (by simp), Dev.bit_putBit _ _ _ _ rfl hIndex, if_pos rfl]

/-- A rail whose power good stayed high shows no change of it. -/
theorem Dev.stepDone_stayed (hKind : f.kind = 1) : x.stepDone i f false false = x.timeShown := by
  rw [Dev.stepDone_down, Dev.entryDone_rail hKind, Dev.railDone, Bool.or_self, Bool.and_false, if_neg (by decide)]

/-- A rail's step that has ended in time. -/
structure Dev.RailEnded (f : DomEntry) (c y : Dev) : Prop where
  now8 : y.sys.now8 = max c.sys.now8 (c.pwr.stepAt + (if f.pgUsed = true then 1250 else 0) + f.settleUs * 125)
  elapsed : y.get F.PWR_STATE.elapsed_us = min ((y.sys.now8 - c.pwr.stepAt) / 125) 0xFFFF
  state : ∀ g : Fld, g.reg = R.PWR_STATE → g.ok = true → 15 < g.lo → y.get g = c.get g
  status : ∀ g : Fld, g.reg = R.PWR_STATUS → g.ok = true → 15 < g.lo → y.get g = c.get g
  pwr : y.pwr = c.pwr
  frd : y.frd = c.frd

/-- The moment at which a rail has settled. -/
theorem Dev.railSettled (hKind : f.kind = 1) : Dev.Frame timeParts c (c.settledAt f up) ∧ (c.settledAt f up).pwr = c.pwr ∧
    (c.settledAt f up).sys.now8 = max c.sys.now8 (c.pwr.stepAt + (if f.pgUsed = true then 1250 else 0) + f.settleUs * 125) := by
  have hClock : (c.settledAt f up).sys.now8 = max c.sys.now8 (c.pwr.stepAt + stepWait f up + f.settleUs * 125) := Dev.now8_advance8To _ _
  rw [stepWait, if_pos hKind] at hClock
  exact ⟨Frame.advance8To Frame.refl _ fun _ h => h, Dev.advance8To_pwr _ _, hClock⟩

theorem Dev.railEnded_of {ps : List Part} (hEnded : Dev.Ended c x d) (hFrame : Dev.Frame ps c d) (hPwr : Part.pwr ∉ ps) (hFrd : Part.frd ∉ ps)
    (hClock : x.sys.now8 = max c.sys.now8 (c.pwr.stepAt + (if f.pgUsed = true then 1250 else 0) + f.settleUs * 125)) : Dev.RailEnded f c d :=
  ⟨hEnded.now8.trans hClock, by rw [hEnded.elapsed, hEnded.now8], hEnded.state, hEnded.status, Frame.pwr_eq hFrame hPwr, Frame.frd_eq hFrame hFrd⟩

/-- A rail that has risen: its time and its level show. -/
theorem State.railUp (hCore : s.dev.coreFalls = false) (hNow : s.dev.stepNow = some (i, f, true)) (hKind : f.kind = 1) :
    ∃ y, s.powerStepDone = ({ s with dev := y } : State).stepNext i ∧ Dev.RailEnded f s.dev y ∧
      Dev.Frame (railDoneParts ++ [Part.reg (R.PWR_STEP_TIMEi i).off]) s.dev y ∧ y.rd (R.PWR_STEP_TIMEi i) = (y.sys.now8 - s.dev.pwr.stepAt) / 125 % 2 ^ 32 ∧
      (f.pgUsed = true → f.index < 8 → bit (y.get F.PWR_STATUS.pg) f.index = true) := by
  obtain ⟨hWaited, hPwr, hClock⟩ := Dev.railSettled (c := s.dev) (up := true) hKind
  refine ⟨_, State.powerStepDone_step hCore hNow fun _ h => absurd hKind h, ?_⟩
  generalize s.dev.settledAt f true = x at hWaited hPwr hClock
  have hEnded := Dev.ended_stepDone (i := i) (f := f) (up := true) (fell := true) hWaited hPwr
  have hFrame := Dev.frame_railUp (i := i) (fell := true) hWaited hKind
  refine ⟨Dev.railEnded_of hEnded hFrame (by simp [railDoneParts, timeParts]) (by simp [railDoneParts, timeParts]) hClock, hFrame, ?_, Dev.pg_railUp hKind⟩
  rw [Dev.stepTime_railUp hPwr, hEnded.now8]

/-- A rail that has fallen: its level shows. -/
theorem State.railDown (hCore : s.dev.coreFalls = false) (hNow : s.dev.stepNow = some (i, f, false)) (hKind : f.kind = 1) :
    ∃ y, s.powerStepDone = ({ s with dev := y } : State).stepNext i ∧ Dev.RailEnded f s.dev y ∧ Dev.Frame railDoneParts s.dev y ∧
      (f.pgUsed = true → f.index < 8 → bit (y.get F.PWR_STATUS.pg) f.index = false) := by
  obtain ⟨hWaited, hPwr, hClock⟩ := Dev.railSettled (c := s.dev) (up := false) hKind
  refine ⟨_, State.powerStepDone_step hCore hNow fun h _ => absurd h (by decide), ?_⟩
  generalize s.dev.settledAt f false = x at hWaited hPwr hClock
  have hEnded := Dev.ended_stepDone (i := i) (f := f) (up := false) (fell := true) hWaited hPwr
  have hFrame := Dev.frame_railDown (i := i) (fell := true) hWaited hKind
  exact ⟨Dev.railEnded_of hEnded hFrame (by decide) (by decide) hClock, hFrame, Dev.pg_railDown hKind⟩

/-! ### A rail whose step begins -/

/-- What the beginning of a rail's step changes. -/
def railBeginParts : List Part := [Part.pwr, Part.reg R.PWR_STATE.off, Part.reg R.PWR_STATUS.off, Part.reg R.PWR_DOMAINS.off]

/-- A rail's step has begun. -/
structure State.RailBegun (j : Nat) (f : DomEntry) (up : Bool) (s t : State) : Prop where
  stepped : State.Stepped j s t
  mem : t.mem = s.mem
  frame : Dev.Frame railBeginParts s.dev t.dev
  stepAt : t.dev.pwr.stepAt = t.dev.sys.now8
  enable : f.index < 8 → bit (t.dev.get F.PWR_STATUS.seq_en) f.index = up
  rail : f.index < 8 → bit (t.dev.get F.PWR_DOMAINS.rails) f.index = up

theorem State.railBegun (j : Nat) (hKind : f.kind = 1) : State.RailBegun j f up s (s.stepBegin j f up) := by
  have hStep := State.stepped_stepBegin (s := s) j f up
  have hMoved := Dev.frame_railMoved (d := s.dev.entryShown j) (up := up) f.index
  have hAt : ((s.dev.entryShown j).railMoved f.index up).pwr.stepAt = s.dev.sys.now8 := by rw [Frame.pwr_eq hMoved (by simp), Dev.stepAt_entryShown]
  rw [State.stepBegin_rail hKind] at hStep ⊢
  refine ⟨hStep, rfl, Frame.trans (Frame.mono Dev.frame_entryShown (by simp [railBeginParts])) (Frame.mono hMoved (by simp [railBeginParts])), ?_,
    fun h => Dev.seqEn_railMoved h, fun h => Dev.rails_railMoved h⟩
  exact hAt.trans hStep.now8.symm

end
end Sys2Proof.Machine

namespace Sys2Proof.Proofs

section
variable {s t : State} {P : State → Prop} {d e : Dev} {i j k : Nat} {f g : DomEntry} {up : Bool}

theorem idleStart_of_warned {d e : Dev} (h : d.warned = false) (hStatus : ∀ g : Fld, g.reg = R.PWR_STATUS → g.ok = true → 15 < g.lo → e.get g = d.get g) :
    e.idleStart = false := by
  have hWarned : e.warned = d.warned := by
    rw [Dev.warned, Dev.warned, Dev.on, Dev.on, Dev.on, Dev.on, hStatus F.PWR_STATUS.pfail_active rfl rfl (by decide), hStatus F.PWR_STATUS.shutdown rfl rfl (by decide)]
  rw [Dev.idleStart, hWarned, h, Bool.false_and, Bool.false_and]

/-- Any step that ends well: what each way on leaves of it (R333). -/
theorem stepDone_any (hCore : s.dev.coreFalls = false) (hWarned : s.dev.warned = false) (hLost : up = true → f.kind ≠ 1 → s.dev.pinnaLost f.index = false)
    (hNow : s.dev.stepNow = some (i, f, up)) :
    Completes (exec .powerStepDone s) fun t =>
      t.dev.sys.now8 = max s.dev.sys.now8 (s.dev.pwr.stepAt + (if f.kind = 1 then (if f.pgUsed = true then 1250 else 0) else if up = true then 2500 else 0) + f.settleUs * 125) ∧
      t.dev.get F.PWR_STATE.elapsed_us = min ((t.dev.sys.now8 - s.dev.pwr.stepAt) / 125) 0xFFFF ∧
      (s.dev.pwrSt = 2 → s.dev.pwr.down = 0 → f.kind = 0 → f.index < 12 → t.dev.domOn f.index = true) ∧ t.pending = s.pending := by
  have hDone := State.powerStepDone_step hCore hNow hLost
  have hWaited : Dev.Frame timeParts s.dev (s.dev.settledAt f up) := Frame.advance8To Frame.refl _ fun _ h => h
  have hClock : (s.dev.settledAt f up).sys.now8 = max s.dev.sys.now8 (s.dev.pwr.stepAt + stepWait f up + f.settleUs * 125) := Dev.now8_advance8To _ _
  have hPwr : (s.dev.settledAt f up).pwr = s.dev.pwr := Dev.advance8To_pwr _ _
  rw [stepWait] at hClock
  generalize s.dev.settledAt f up = x at hDone hWaited hClock hPwr
  have hEnded := Dev.ended_stepDone (i := i) (f := f) (up := up) (fell := true) hWaited hPwr
  have hDomain (hUp : up = true) (hKind : f.kind = 0) (hIndex : f.index < 12) : (x.stepDone i f up true).domOn f.index = true := by
    rw [hUp]
    exact Dev.domOn_stepDone (by omega) rfl hIndex
  generalize x.stepDone i f up true = y at hDone hEnded hDomain
  have hNext := State.GoesOn.stepNext (s := { s with dev := y }) i
  have hOn (hSt : s.dev.pwrSt = 2) (hDown : s.dev.pwr.down = 0) (hKind : f.kind = 0) (hIndex : f.index < 12) : s.powerStepDone.1.dev.domOn f.index = true := by
    have hUp : up = true := by
      unfold Dev.stepNow at hNow
      dsimp only at hNow
      rw [hSt] at hNow
      obtain ⟨_, -, hEq⟩ := Option.map_eq_some_iff.1 hNow
      simp only [Prod.mk.injEq] at hEq
      exact hEq.2.2.symm
    have hRises : y.pwrSt = 2 := (hEnded.state F.PWR_STATE.state rfl rfl (by decide)).trans hSt
    rw [hDone, State.stepNext_rising (s := { s with dev := y }) hRises (hEnded.down.trans hDown), State.domOn_upFrom hIndex]
    exact hDomain hUp hKind hIndex
  rw [← hDone] at hNext
  have hAll : ∃ t : State, (if s.powerStepDone.2 && s.powerStepDone.1.dev.phaseSt 5 = 1 then { s.powerStepDone.1 with dev := s.powerStepDone.1.dev.end5 }
      else s.powerStepDone.1) = t ∧ State.GoesOn { s with dev := y } t ∧ t.dev.rd R.PWR_DOMAINS = s.powerStepDone.1.dev.rd R.PWR_DOMAINS := by
    refine ⟨_, rfl, ?_, ?_⟩ <;> split
    · exact hNext.end5
    · exact hNext
    · exact Dev.powerStays_end5.reg _ (by decide)
    · rfl
  obtain ⟨t, hEnd, hGoes, hDomains⟩ := hAll
  refine completes_stepDone_any hEnd (idleStart_of_warned hWarned fun g hReg hOk hLo => (hGoes.status g hReg hOk (by omega)).trans (hEnded.status g hReg hOk hLo))
    ⟨(hGoes.now8.trans hEnded.now8).trans hClock, ?_, fun hSt hDown hKind hIndex => ?_, hGoes.pending⟩
  · rw [hGoes.elapsed, hEnded.elapsed, hGoes.now8, hEnded.now8]
  · rw [Dev.domOn, hDomains]
    exact hOn hSt hDown hKind hIndex

end
end Sys2Proof.Proofs
end

-- ==== Sitting: standing by, and power good ====
section
/-! SUPPORT. A device that comes to stand by, and the loss of a power-good level. -/
open Sys2Proof Sys2Proof.Machine Sys2Proof.Claims
set_option maxRecDepth 20000

namespace Sys2Proof.Machine

section
variable {s : State} {c d : Dev} {i k : Nat} {f : DomEntry}

/-! ### Phases taken back (R66, R340) -/

theorem Dev.phaseSt_phaseUndo (p st q : Nat) : (d.phaseUndo p st).phaseSt q = if q = p then st else d.phaseSt q := by
  rw [Dev.phaseUndo, Dev.phaseSt_put]
  split
  next h => rw [h, Dev.phaseSt_setPhase]
  next h => rw [Dev.phaseSt_setPhase_ne _ h]

theorem Dev.phaseTime_phaseUndo (p st k : Nat) :
    (d.phaseUndo p st).rd (R.SYS_PHASE_TIMEk k) = if k = p - 1 then 0xFFFFFFFF else d.rd (R.SYS_PHASE_TIMEk k) := by
  have hSet : (d.setPhase p st).rd (R.SYS_PHASE_TIMEk k) = d.rd (R.SYS_PHASE_TIMEk k) := rfl
  rw [Dev.phaseUndo]
  split
  next h =>
    rw [h]
    exact Dev.rd_put_whole _ (F.SYS_PHASE_TIMEk.us (p - 1)) 0xFFFFFFFF rfl rfl (show (32 : Nat) ≤ 64 by decide)
  next h => rw [Dev.rd_put_ne _ _ _ _ (by simp only [F.SYS_PHASE_TIMEk.us, R.SYS_PHASE_TIMEk]; omega), hSet]

/-- Phases 5 to 9 before SYS_PHASE shows it. -/
def Dev.phasesUndone (d : Dev) : Dev := ((((d.phaseUndo 5 5).phaseUndo 6 0).phaseUndo 7 0).phaseUndo 8 0).phaseUndo 9 0

theorem Dev.phasesBack_eq : d.phasesBack = d.phasesUndone.showPhase 5 5 0 := rfl

theorem Dev.frame_showPhase (p st cause : Nat) : Dev.Frame [Part.reg R.SYS_PHASE.off] d (d.showPhase p st cause) := Frame.showPhase Frame.refl _ _ _ (by simp)

theorem Dev.phaseSt_phasesBack : d.phasesBack.phaseSt 5 = 5 := by
  rw [Dev.phasesBack_eq, Dev.phaseSt_congr (Dev.ph_showPhase 5 5 0), Dev.phasesUndone]
  simp only [Dev.phaseSt_phaseUndo, Nat.reduceEqDiff, if_false, if_true]

theorem Dev.later_phasesBack {p : Nat} (hLo : 6 ≤ p) (hHi : p ≤ 9) : d.phasesBack.phaseSt p = 0 ∧ d.phasesBack.rd (R.SYS_PHASE_TIMEk (p - 1)) = 0xFFFFFFFF := by
  have hTime : d.phasesBack.rd (R.SYS_PHASE_TIMEk (p - 1)) = d.phasesUndone.rd (R.SYS_PHASE_TIMEk (p - 1)) := by
    rw [Dev.phasesBack_eq]
    exact Frame.rd (Dev.frame_showPhase 5 5 0) _ (by simp only [List.mem_singleton, Part.reg.injEq, R.SYS_PHASE_TIMEk, R.SYS_PHASE]; omega)
  rw [hTime, Dev.phasesBack_eq, Dev.phaseSt_congr (Dev.ph_showPhase 5 5 0), Dev.phasesUndone]
  simp only [Dev.phaseSt_phaseUndo, Dev.phaseTime_phaseUndo]
  obtain rfl | rfl | rfl | rfl : p = 6 ∨ p = 7 ∨ p = 8 ∨ p = 9 := by omega
  all_goals simp

theorem Dev.shown_phasesBack : d.phasesBack.get F.SYS_PHASE.phase = 5 ∧ d.phasesBack.get F.SYS_PHASE.state = 5 := by
  rw [Dev.phasesBack_eq]
  exact ⟨Dev.phase_showPhase 5 5 0, Dev.state_showPhase 5 5 0⟩

theorem Dev.frame_standingBy : Dev.Frame ([Part.reg R.PWR_STATE.off] ++ pwrFlagParts ++ backParts) d d.standingBy := by
  have hFlag : Dev.Frame ([Part.reg R.PWR_STATE.off] ++ pwrFlagParts ++ backParts) d ((d.put F.PWR_STATE.state 1).pwrFlag 0) :=
    Frame.flag (Frame.put Frame.refl _ _ (by simp [F.PWR_STATE.state])) _ _ _ _ (by simp [pwrFlagParts]) (by simp +contextual [pwrFlagParts])
  exact Frame.trans hFlag (Frame.mono Dev.frame_phasesBack (by simp +contextual))

theorem strobed_falling {d0 d1 : Nat} (h : strobed c d 31 d0 d1) : strobed c d.falling 31 d0 d1 := by
  have hPut : Dev.Frame [Part.reg R.PWR_STATE.off] d (d.put F.PWR_STATE.state 4) := Frame.put Frame.refl _ _ (by simp [F.PWR_STATE.state])
  exact strobed_pwrActive (strobed_after h hPut (by decide) (by decide) (by decide))

theorem strobed_standingBy {d0 d1 : Nat} (h : strobed c d 31 d0 d1) : strobed c d.standingBy 31 d0 d1 :=
  strobed_after h Dev.frame_standingBy (by decide) (by decide) (by decide)

/-! ### Power good lost (R336) -/

/-- The entry whose power-good level is meant. -/
def Dev.pgEntry (d : Dev) (ext : Bool) (k : Nat) : Option (Nat × DomEntry) :=
  (d.doms.zipIdx.map fun p => (p.2, p.1)).find? fun p => (p.2.kind = 1) = ext && p.2.index = k && (!ext || p.2.pgUsed) && d.entryOn p.2

/-- The level as it shows once it is lost. -/
def Dev.pgShown (d : Dev) (ext : Bool) (k : Nat) : Dev := if ext then (d.advance 1250).putBit F.PWR_STATUS.pg k false else d.advance 1250

theorem Dev.now8_advance (n : Nat) : (d.advance n).sys.now8 = d.sys.now8 + n := by
  unfold Dev.advance
  dsimp only
  split_ifs <;> rfl

theorem Dev.pgLost_off (h : d.pwrSt ≠ 3) (ext : Bool) (k : Nat) : d.pgLost ext k = d := by
  unfold Dev.pgLost
  dsimp only
  split
  · exact if_pos h
  · exact if_neg (by simp [h])

theorem Dev.pgLost_on {ext : Bool} (h : d.pwrSt = 3) (hEntry : d.pgEntry ext k = some (i, f)) :
    d.pgLost ext k = ((d.pgShown ext k).pwrActive.pwrFlag 4).report 31 (pwrDetail 0x72 i f.code) ((d.pgShown ext k).rd R.PWR_STATUS) := by
  unfold Dev.pgEntry at hEntry
  unfold Dev.pgLost
  dsimp only
  rw [hEntry]
  exact if_neg (by simp [h])

/-- The first entry of a kind and an index is the one that is meant. -/
theorem Dev.pgEntry_first (hDom : d.doms[i]? = some f) (hUsed : f.pgUsed = true) (hOn : d.entryOn f = true)
    (hFirst : ∀ (j : Nat), j < i → (d.doms[j]?.map fun x => (decide (x.kind = 1), x.index)) ≠ some (decide (f.kind = 1), f.index)) :
    d.pgEntry (decide (f.kind = 1)) f.index = some (i, f) := by
  obtain ⟨hi, hGet⟩ := List.getElem?_eq_some_iff.1 hDom
  refine List.find?_eq_some_iff_getElem.2 ⟨?_, i, by simpa using hi, by simp [hGet], fun j hj => ?_⟩
  · simp [hUsed, hOn]
  · have hNot := hFirst j hj
    rw [List.getElem?_eq_getElem (by omega)] at hNot
    simp only [Option.map_some, ne_eq, Option.some.injEq, Prod.mk.injEq, decide_eq_decide, not_and] at hNot
    simp only [List.getElem_map, List.getElem_zipIdx, Nat.zero_add, Bool.not_eq_true', Bool.and_eq_false_iff, decide_eq_false_iff_not, decide_eq_true_eq, eq_iff_iff]
    by_cases hKind : (d.doms[j].kind = 1 ↔ f.kind = 1)
    · exact .inl (.inl (.inr (hNot hKind)))
    · exact .inl (.inl (.inl hKind))

end
end Sys2Proof.Machine
end

-- ==== Sitting: power steps (O44) ====
section
/-! PROOF. Rails that rise and fall, power good lost, and the obligation. -/
open Sys2Proof Sys2Proof.Machine Sys2Proof.Claims
set_option maxRecDepth 20000

namespace Sys2Proof.Proofs

section
variable {s t : State} {P : State → Prop} {d e : Dev} {i j k : Nat} {f g : DomEntry} {up : Bool}

theorem entry_lt (h : d.get F.PWR_STATE.entry = i) : i < 32 := by
  rw [← h]
  exact Dev.get_lt _ _

/-- What a shut-down on idle is judged by, where a step has ended. -/
theorem idleStart_of_status {ps : List Part} (h : d.idleStart = false) (hFrame : Dev.Frame ps d e) (hHost : Part.reg R.SYS_HOST_STATE.off ∉ ps)
    (hCfg : Part.reg R.PWR_PFAIL_CFG.off ∉ ps) (hStatus : ∀ g : Fld, g.reg = R.PWR_STATUS → g.ok = true → 15 < g.lo → e.get g = d.get g) : e.idleStart = false := by
  have hOn (g : Fld) (hReg : g.reg = R.PWR_STATUS) (hOk : g.ok = true) (hLo : 15 < g.lo) : e.on g = d.on g := by rw [Dev.on, hStatus g hReg hOk hLo, Dev.on]
  exact idleStart_of_fields h (hOn _ rfl rfl (by decide)) (hOn _ rfl rfl (by decide)) (Frame.rd hFrame _ hHost) (Frame.rd hFrame _ hCfg)

theorem railUp_apart {o : Nat} (hi : i < 32) (hApart : o < 0xC0040 ∨ 0xC00C0 ≤ o) (hDone : Part.reg o ∉ railDoneParts) :
    Part.reg o ∉ railDoneParts ++ [Part.reg (R.PWR_STEP_TIMEi i).off] := by
  simp only [List.mem_append, List.mem_singleton, Part.reg.injEq, R.PWR_STEP_TIMEi, not_or]
  exact ⟨hDone, by omega⟩

theorem railParts_apart {o : Nat} (hi : i < 32) (hApart : o < 0xC0040 ∨ 0xC00C0 ≤ o) (hDone : Part.reg o ∉ railDoneParts ++ [Part.reg R.PWR_DOMAINS.off]) :
    Part.reg o ∉ railParts i := by
  simp only [railParts, railDoneParts, List.mem_append, List.mem_cons, List.not_mem_nil, or_false, reduceCtorEq, false_or, Part.reg.injEq, R.PWR_STEP_TIMEi, not_or] at hDone ⊢
  obtain ⟨⟨⟨hState, hStatus⟩, hTime⟩, hDomains⟩ := hDone
  exact ⟨⟨hState, hStatus, hDomains, by omega⟩, hTime⟩

theorem frame_ofMem {ps : List Part} (hFrame : Dev.Frame ps s.dev t.dev) (hMem : t.mem = s.mem) (hPending : t.pending = s.pending) : s.Frame ps t :=
  ⟨hFrame, fun _ => by rw [hMem], fun _ => by rw [hMem], hPending⟩

/-! ### Rails rise (R333) -/

theorem rail_riseNext (hIdle : s.dev.idleStart = false) (hSt : s.dev.pwrSt = 2) (hEntry : s.dev.get F.PWR_STATE.entry = i) (hDom : s.dev.doms[i]? = some f)
    (hKind : f.kind = 1) (hDown : s.dev.pwr.down = 0) (hNext : s.dev.nextOff (i + 1) = some (j, g)) (hRail : g.kind = 1) (hIndex : f.index < 8) (hOther : g.index < 8)
    (hj : j < 32) :
    Completes (exec .powerStepDone s) fun t =>
      t.dev.sys.now8 = max s.dev.sys.now8 (s.dev.pwr.stepAt + (if f.pgUsed = true then 1250 else 0) + f.settleUs * 125) ∧
      t.dev.rd (R.PWR_STEP_TIMEi i) = (t.dev.sys.now8 - s.dev.pwr.stepAt) / 125 % 2 ^ 32 ∧
      t.dev.get F.PWR_STATE.elapsed_us = min ((t.dev.sys.now8 - s.dev.pwr.stepAt) / 125) 65535 ∧
      (f.pgUsed = true → bit (t.dev.get F.PWR_STATUS.pg) f.index = true) ∧
      t.dev.pwrSt = 2 ∧ t.dev.get F.PWR_STATE.entry = j ∧ t.dev.pwr.stepAt = t.dev.sys.now8 ∧
      bit (t.dev.get F.PWR_STATUS.seq_en) g.index = true ∧ bit (t.dev.get F.PWR_DOMAINS.rails) g.index = true ∧
      s.Frame (railParts i) t := by
  have hi := entry_lt hEntry
  obtain ⟨y, hDone, hEnded, hFrame, hTime, hPg⟩ := State.railUp (Dev.coreFalls_of_state (by omega)) (Dev.stepNow_rising hSt hEntry hDom) hKind
  have hRises : y.pwrSt = 2 := (hEnded.state F.PWR_STATE.state rfl rfl (by decide)).trans hSt
  have hPut : Dev.Frame [Part.reg R.PWR_STATE.off] y (y.put F.PWR_STATE.state 2) := Frame.put Frame.refl _ _ (by simp [F.PWR_STATE.state])
  have hNextOff : (y.put F.PWR_STATE.state 2).nextOff (i + 1) = some (j, g) := by
    rw [Dev.nextOff_rising, Dev.nextOff_congr hEnded.frd (Frame.rd hFrame _ (railUp_apart hi (by decide) (by decide))), hNext]
  have hState : (y.put F.PWR_STATE.state 2).pwrSt = 2 := Dev.get_put_same y F.PWR_STATE.state 2 rfl
  have hElapsed : (y.put F.PWR_STATE.state 2).get F.PWR_STATE.elapsed_us = y.get F.PWR_STATE.elapsed_us :=
    Dev.get_put_other y F.PWR_STATE.state F.PWR_STATE.elapsed_us 2 rfl rfl rfl rfl
  rw [State.stepNext_rising (s := { s with dev := y }) hRises ((congrArg PwrSt.down hEnded.pwr).trans hDown), State.upFrom_eq] at hDone
  generalize y.put F.PWR_STATE.state 2 = z at hDone hPut hNextOff hState hElapsed
  have hBegun := State.railBegun (s := { s with dev := z }) (up := true) j hRail
  rw [State.upNext_some (s := { s with dev := z }) hNextOff] at hDone
  generalize ({ s with dev := z } : State).stepBegin j g true = t at hDone hBegun
  obtain ⟨hStep, hMem, hBegin, hAt, hEnable, hRaised⟩ := hBegun
  have hAll : Dev.Frame (railParts i) s.dev t.dev :=
    Frame.trans (Frame.trans (Frame.mono hFrame (by simp +contextual [railDoneParts, railParts]; tauto)) (Frame.mono hPut (by simp [railParts])))
      (Frame.mono hBegin (by simp [railBeginParts, railParts]))
  have hStay (g : Fld) (hReg : g.reg = R.PWR_STATUS) (hOk : g.ok = true) (hLo : 7 < g.lo) : t.dev.get g = y.get g :=
    (hStep.status g hReg hOk hLo).trans (Frame.get hPut g (by rw [hReg]; decide))
  have hTimeKept : z.rd (R.PWR_STEP_TIMEi i) = y.rd (R.PWR_STEP_TIMEi i) :=
    Frame.rd hPut _ (by simp only [List.mem_singleton, Part.reg.injEq, R.PWR_STEP_TIMEi, R.PWR_STATE]; omega)
  have hNow : z.sys.now8 = y.sys.now8 := hPut Part.clock (by simp)
  have hNow8 : t.dev.sys.now8 = y.sys.now8 := hStep.now8.trans hNow
  have hIdle' : t.dev.idleStart = false :=
    idleStart_of_status hIdle hAll (railParts_apart hi (by decide) (by decide)) (railParts_apart hi (by decide) (by decide))
      fun g hReg hOk hLo => (hStay g hReg hOk (by omega)).trans (hEnded.status g hReg hOk hLo)
  refine completes_stepDone hDone hIdle' ⟨hNow8.trans hEnded.now8, ?_, ?_, fun hUsed => ?_, ?_, hStep.entry.trans (Nat.mod_eq_of_lt hj), hAt, hEnable hOther,
    hRaised hOther, frame_ofMem hAll hMem hStep.pending⟩
  · rw [hNow8, hStep.times i hi, hTimeKept, hTime]
  · rw [hNow8, hStep.state F.PWR_STATE.elapsed_us rfl rfl (.inl (by decide)), hElapsed, hEnded.elapsed]
  · rw [hStay _ rfl rfl (by decide)]
    exact hPg hUsed hIndex
  · exact (hStep.state F.PWR_STATE.state rfl rfl (.inr (by decide))).trans hState

theorem reachedParts_apart {o : Nat} (hApart : 0xC0020 ≤ o ∧ o < 0xD0000) : Part.reg o ∉ [Part.reg R.PWR_STATE.off] ++ activeParts 31 ++ pwrFlagParts := by
  simp only [List.mem_append, activeParts, pwrFlagParts, irqParts, List.mem_cons, List.not_mem_nil, or_false, reduceCtorEq, false_or, Part.reg.injEq, R.PWR_STATE,
    R.FLT_SRCi_STATE, R.FLT_ACTIVE, R.PWR_IRQ_STATUS, R.MSIX_PBA]
  omega

theorem rail_reachesOn (hIdle : s.dev.idleStart = false) (hSt : s.dev.pwrSt = 2) (hEntry : s.dev.get F.PWR_STATE.entry = i) (hDom : s.dev.doms[i]? = some f)
    (hKind : f.kind = 1) (hDown : s.dev.pwr.down = 0) (hNone : s.dev.nextOff (i + 1) = none) (hPhase : s.dev.phaseSt 5 ≠ 1) :
    Completes (exec .powerStepDone s) fun t =>
      t.dev.sys.now8 = max s.dev.sys.now8 (s.dev.pwr.stepAt + (if f.pgUsed = true then 1250 else 0) + f.settleUs * 125) ∧
      t.dev.rd (R.PWR_STEP_TIMEi i) = (t.dev.sys.now8 - s.dev.pwr.stepAt) / 125 % 2 ^ 32 ∧
      t.dev.pwrSt = 3 ∧ bit (t.dev.rd R.PWR_IRQ_STATUS) 0 = true ∧
      s.Frame ([Part.reg R.PWR_STATE.off, Part.reg R.PWR_STATUS.off, Part.reg (R.PWR_STEP_TIMEi i).off] ++ activeParts 31 ++ pwrFlagParts ++ timeParts) t := by
  have hi := entry_lt hEntry
  obtain ⟨y, hDone, hEnded, hFrame, hTime, -⟩ := State.railUp (Dev.coreFalls_of_state (by omega)) (Dev.stepNow_rising hSt hEntry hDom) hKind
  have hRises : y.pwrSt = 2 := (hEnded.state F.PWR_STATE.state rfl rfl (by decide)).trans hSt
  have hPut : Dev.Frame [Part.reg R.PWR_STATE.off] y (y.put F.PWR_STATE.state 2) := Frame.put Frame.refl _ _ (by simp [F.PWR_STATE.state])
  have hNextOff : (y.put F.PWR_STATE.state 2).nextOff (i + 1) = none := by
    rw [Dev.nextOff_rising, Dev.nextOff_congr hEnded.frd (Frame.rd hFrame _ (railUp_apart hi (by decide) (by decide))), hNone]
  rw [State.stepNext_rising (s := { s with dev := y }) hRises ((congrArg PwrSt.down hEnded.pwr).trans hDown), State.upFrom_eq] at hDone
  generalize y.put F.PWR_STATE.state 2 = z at hDone hPut hNextOff
  rw [State.upNext_none (s := { s with dev := z }) hNextOff] at hDone
  have hReached := Dev.frame_reachedOn (d := z)
  have hOn := Dev.pwrSt_reachedOn (d := z)
  have hFlag := Dev.flag_reachedOn (d := z)
  dsimp only at hDone
  generalize z.reachedOn = w at hDone hReached hOn hFlag
  have hAll : Dev.Frame ([Part.reg R.PWR_STATE.off, Part.reg R.PWR_STATUS.off, Part.reg (R.PWR_STEP_TIMEi i).off] ++ activeParts 31 ++ pwrFlagParts ++ timeParts) s.dev w :=
    Frame.trans (Frame.trans (Frame.mono hFrame (by simp +contextual [railDoneParts]; tauto)) (Frame.mono hPut (by simp))) (Frame.mono hReached (by simp +contextual; tauto))
  have hRest : Dev.Frame ([Part.reg R.PWR_STATE.off] ++ activeParts 31 ++ pwrFlagParts) y w := Frame.trans (Frame.mono hPut (by simp)) hReached
  have hNow8 : w.sys.now8 = y.sys.now8 := hRest Part.clock (by decide)
  have hStatus (g : Fld) (hReg : g.reg = R.PWR_STATUS) : w.get g = y.get g := Frame.get hRest g (by rw [hReg]; decide)
  have hStill : w.phaseSt 5 ≠ 1 := by
    rwa [Dev.phaseSt_congr (Dev.ph_of_frame hAll (by simp [activeParts, pwrFlagParts, irqParts, timeParts]))]
  have hPart {o : Nat} (hApart : o < 0xC0040) (hOther : Part.reg o ∉ [Part.reg R.PWR_STATE.off, Part.reg R.PWR_STATUS.off] ++ activeParts 31 ++ pwrFlagParts ++ timeParts) :
      Part.reg o ∉ [Part.reg R.PWR_STATE.off, Part.reg R.PWR_STATUS.off, Part.reg (R.PWR_STEP_TIMEi i).off] ++ activeParts 31 ++ pwrFlagParts ++ timeParts := by
    simp only [List.mem_append, List.mem_cons, List.not_mem_nil, or_false, Part.reg.injEq, not_or] at hOther ⊢
    obtain ⟨⟨⟨⟨h1, h2⟩, h3⟩, h4⟩, h5⟩ := hOther
    exact ⟨⟨⟨⟨h1, h2, by simp only [R.PWR_STEP_TIMEi]; omega⟩, h3⟩, h4⟩, h5⟩
  have hQuiet : w.idleStart = false :=
    idleStart_of_status hIdle hAll (hPart (by decide) (by decide)) (hPart (by decide) (by decide))
      fun g hReg hOk hLo => (hStatus g hReg).trans (hEnded.status g hReg hOk hLo)
  refine completes_stepDone_on hDone hStill hQuiet ⟨hNow8.trans hEnded.now8, ?_, hOn, hFlag, Frame.ofDev hAll⟩
  dsimp only
  rw [hNow8, Frame.rd hRest _ (reachedParts_apart (by simp only [R.PWR_STEP_TIMEi]; omega)), hTime]

/-! ### Rails fall (R337) -/

theorem rail_fallNext (hCore : s.dev.coreFalls = false) (hIdle : s.dev.idleStart = false) (hSt : s.dev.pwrSt = 4) (hEntry : s.dev.get F.PWR_STATE.entry = i)
    (hDom : s.dev.doms[i]? = some f) (hKind : f.kind = 1) (hUp : s.dev.pwr.up = false) (hNext : s.dev.nextOn i = some (j, g)) (hRail : g.kind = 1) (hOther : g.index < 8)
    (hIndex : f.index < 8) (hj : j < 32) :
    Completes (exec .powerStepDone s) fun t =>
      t.dev.pwrSt = 4 ∧ t.dev.get F.PWR_STATE.entry = j ∧ t.dev.pwr.stepAt = t.dev.sys.now8 ∧
      (f.pgUsed = true → bit (t.dev.get F.PWR_STATUS.pg) f.index = false) ∧
      bit (t.dev.get F.PWR_STATUS.seq_en) g.index = false ∧ bit (t.dev.get F.PWR_DOMAINS.rails) g.index = false ∧
      s.Frame ([Part.pwr, Part.reg R.PWR_STATE.off, Part.reg R.PWR_STATUS.off, Part.reg R.PWR_DOMAINS.off] ++ activeParts 31 ++ timeParts) t := by
  obtain ⟨y, hDone, hEnded, hFrame, hPg⟩ := State.railDown hCore (Dev.stepNow_falling hSt hEntry hDom) hKind
  have hFalls : y.pwrSt = 4 := (hEnded.state F.PWR_STATE.state rfl rfl (by decide)).trans hSt
  have hFalling := Dev.frame_falling (d := y)
  have hState := Dev.pwrSt_falling (d := y)
  have hNextOn : y.falling.nextOn i = some (j, g) := by
    rw [Dev.nextOn_congr ((Frame.frd_eq hFalling (by decide)).trans hEnded.frd) ((Frame.rd hFalling _ (by decide)).trans (Frame.rd hFrame _ (by decide)))
      ((congrArg PwrSt.closed (Frame.pwr_eq hFalling (by decide))).trans (congrArg PwrSt.closed hEnded.pwr)), hNext]
  rw [State.stepNext_falling (s := { s with dev := y }) hFalls ((congrArg PwrSt.up hEnded.pwr).trans hUp), State.downFrom_eq] at hDone
  dsimp only at hDone
  generalize y.falling = z at hDone hFalling hState hNextOn
  have hBegun := State.railBegun (s := { s with dev := z }) (up := false) j hRail
  rw [State.downNext_some (s := { s with dev := z }) hNextOn] at hDone
  generalize ({ s with dev := z } : State).stepBegin j g false = t at hDone hBegun
  obtain ⟨hStep, hMem, hBegin, hAt, hEnable, hLowered⟩ := hBegun
  have hAll : Dev.Frame ([Part.pwr, Part.reg R.PWR_STATE.off, Part.reg R.PWR_STATUS.off, Part.reg R.PWR_DOMAINS.off] ++ activeParts 31 ++ timeParts) s.dev t.dev :=
    Frame.trans (Frame.trans (Frame.mono hFrame (by simp +contextual [railDoneParts])) (Frame.mono hFalling (by simp +contextual)))
      (Frame.mono hBegin (by simp [railBeginParts]))
  have hStay (g : Fld) (hReg : g.reg = R.PWR_STATUS) (hOk : g.ok = true) (hLo : 7 < g.lo) : t.dev.get g = y.get g :=
    (hStep.status g hReg hOk hLo).trans (Frame.get hFalling g (by rw [hReg]; decide))
  have hQuiet : t.dev.idleStart = false :=
    idleStart_of_status hIdle hAll (by decide) (by decide) fun g hReg hOk hLo => (hStay g hReg hOk (by omega)).trans (hEnded.status g hReg hOk hLo)
  refine completes_stepDone hDone hQuiet ⟨(hStep.state F.PWR_STATE.state rfl rfl (.inr (by decide))).trans hState, hStep.entry.trans (Nat.mod_eq_of_lt hj), hAt,
    fun hUsed => ?_, hEnable hOther, hLowered hOther, frame_ofMem hAll hMem hStep.pending⟩
  rw [hStay _ rfl rfl (by decide)]
  exact hPg hUsed hIndex

/-- What a rail that does not fall in time changes where the device then stands by. -/
def stuckParts : List Part :=
  [Part.pwr, Part.sys, Part.reg R.SYS_PHASE.off, Part.reg R.PWR_STATE.off, Part.reg R.PWR_COUNTS.off] ++
    (List.range 5).map (fun k => Part.reg (R.SYS_PHASE_TIMEk (k + 4)).off) ++ strobeParts 31 ++ activeParts 31 ++ pwrFlagParts ++ timeParts

theorem standing_stuck : ∀ p ∈ [Part.reg R.PWR_STATE.off] ++ pwrFlagParts ++ backParts, p ∈ stuckParts := by
  intro p hp
  simp only [stuckParts, backParts, List.mem_append, List.mem_cons, List.not_mem_nil, or_false] at hp ⊢
  obtain (rfl | h) | (rfl | rfl) | h := hp
  · simp
  · simp [h]
  · simp
  · simp
  · exact .inl (.inl (.inl (.inl (.inr h))))

theorem rail_stuck (hCore : s.dev.coreFalls = false) (hIdle : s.dev.idleStart = false) (hSt : s.dev.pwrSt = 4) (hEntry : s.dev.get F.PWR_STATE.entry = i)
    (hDom : s.dev.doms[i]? = some f) (hRail : f.kind = 1 ∧ f.pgUsed = true ∧ f.index < 8) (hUp : s.dev.pwr.up = false) (hNone : s.dev.nextOn i = none)
    (hPurpose : s.dev.get F.PWR_STATE.purpose = 1) :
    Completes (exec .powerStepTimeout s) fun t =>
      t.dev.pwrSt = 1 ∧ t.dev.phaseSt 5 = 5 ∧ t.dev.get F.SYS_PHASE.phase = 5 ∧ t.dev.get F.SYS_PHASE.state = 5 ∧
      t.dev.get F.PWR_COUNTS.step_fail = min (s.dev.get F.PWR_COUNTS.step_fail + 1) 255 ∧
      strobed s.dev t.dev 31 (0x73 * 2 ^ 24 + i * 2 ^ 16 + f.code) (s.dev.rd R.PWR_STATUS) ∧
      (∀ (p : Nat), 6 ≤ p → p ≤ 9 → t.dev.phaseSt p = 0 ∧ t.dev.rd (R.SYS_PHASE_TIMEk (p - 1)) = 0xFFFFFFFF) ∧
      s.Frame ([Part.pwr, Part.sys, Part.reg R.SYS_PHASE.off, Part.reg R.PWR_STATE.off, Part.reg R.PWR_COUNTS.off] ++
        (List.range 5).map (fun k => Part.reg (R.SYS_PHASE_TIMEk (k + 4)).off) ++ strobeParts 31 ++ activeParts 31 ++ pwrFlagParts ++ timeParts) t := by
  obtain ⟨hKind, hUsed, hIndex⟩ := hRail
  have hDone := State.powerStepTimeout_down hCore (Dev.stepNow_falling hSt hEntry hDom) hUsed
  have hWaited : Dev.Frame timeParts s.dev (s.dev.outOfTime f) := Frame.advance8To Frame.refl _ fun _ h => h
  have hPwr : (s.dev.outOfTime f).pwr = s.dev.pwr := Dev.advance8To_pwr _ _
  generalize s.dev.outOfTime f = x at hDone hWaited hPwr
  rw [Frame.rd hWaited R.PWR_STATUS (by decide), Dev.stepFailed_plain (.inr rfl), Dev.stepDone_stayed hKind] at hDone
  generalize s.dev.rd R.PWR_STATUS = v at hDone ⊢
  have hStrobed : strobed s.dev (x.failCounted.report 31 (pwrDetail 0x73 i f.code) v) 31 (pwrDetail 0x73 i f.code) v := Dev.strobed_failCounted hWaited
  have hReport := Dev.frame_report (d := x.failCounted) 31 (pwrDetail 0x73 i f.code) v
  have hFails := (Frame.get hReport F.PWR_COUNTS.step_fail (by decide)).trans Dev.fails_failCounted
  have hFailed : Dev.Frame ([Part.reg R.PWR_COUNTS.off] ++ pwrFlagParts ++ strobeParts 31 ++ timeParts) s.dev (x.failCounted.report 31 (pwrDetail 0x73 i f.code) v) :=
    Frame.trans (Frame.trans (Frame.mono hWaited (by simp +contextual)) (Frame.mono Dev.frame_failCounted (by simp +contextual))) (Frame.mono hReport (by simp +contextual))
  rw [pwrDetail_eq] at hDone hStrobed hReport hFails hFailed
  have hPwrKept : (x.failCounted.report 31 (0x73 * 2 ^ 24 + i * 2 ^ 16 + f.code) v).pwr = s.dev.pwr := by rw [Dev.report_pwr, Dev.pwr_failCounted, hPwr]
  rw [Frame.get hWaited F.PWR_COUNTS.step_fail (by decide)] at hFails
  generalize x.failCounted.report 31 (0x73 * 2 ^ 24 + i * 2 ^ 16 + f.code) v = w at hDone hStrobed hFails hFailed hPwrKept
  have hShown := Dev.frame_timeShown (d := w)
  have hState : w.timeShown.pwrSt = 4 := (Dev.get_timeShown _ rfl rfl (by decide)).trans ((Frame.get hFailed F.PWR_STATE.state (by decide)).trans hSt)
  have hPurposeKept : w.timeShown.get F.PWR_STATE.purpose = 1 :=
    (Dev.get_timeShown _ rfl rfl (by decide)).trans ((Frame.get hFailed F.PWR_STATE.purpose (by decide)).trans hPurpose)
  have hShownStrobed := strobed_after hStrobed hShown (by decide) (by decide) (by decide)
  have hToShown : Dev.Frame stuckParts s.dev w.timeShown :=
    Frame.trans (Frame.mono hFailed (by simp +contextual [stuckParts]; tauto)) (Frame.mono hShown (by simp [stuckParts]))
  have hShownPwr : w.timeShown.pwr = s.dev.pwr := (Frame.pwr_eq hShown (by decide)).trans hPwrKept
  have hShownFails := (Frame.get hShown F.PWR_COUNTS.step_fail (by decide)).trans hFails
  have hDomains := (Frame.rd hShown R.PWR_DOMAINS (by decide)).trans (Frame.rd hFailed _ (by decide))
  generalize w.timeShown = y at hDone hState hPurposeKept hShownStrobed hToShown hShownPwr hShownFails hDomains
  have hFalling := Dev.frame_falling (d := y)
  have hNextOn : y.falling.nextOn i = none := by
    rw [Dev.nextOn_congr ((Frame.frd_eq hFalling (by decide)).trans (Frame.frd_eq hToShown (by decide))) ((Frame.rd hFalling _ (by decide)).trans hDomains)
      ((congrArg PwrSt.closed (Frame.pwr_eq hFalling (by decide))).trans (congrArg PwrSt.closed hShownPwr)), hNone]
  have hFallPurpose : y.falling.get F.PWR_STATE.purpose = 1 := (Dev.get_falling F.PWR_STATE.purpose rfl rfl (by decide)).trans hPurposeKept
  have hFallStrobed := strobed_falling hShownStrobed
  rw [State.stepNext_falling (s := { s with dev := y }) hState ((congrArg PwrSt.up hShownPwr).trans hUp), State.downFrom_eq] at hDone
  dsimp only at hDone
  have hToFalling : Dev.Frame stuckParts s.dev y.falling := Frame.trans hToShown (Frame.mono hFalling (by simp +contextual [stuckParts]))
  have hFallFails := (Frame.get hFalling F.PWR_COUNTS.step_fail (by decide)).trans hShownFails
  generalize y.falling = z at hDone hNextOn hFallPurpose hFallStrobed hToFalling hFallFails
  rw [State.downNext_standby (s := { s with dev := z }) hNextOn hFallPurpose] at hDone
  have hAll : Dev.Frame stuckParts s.dev z.standingBy :=
    Frame.trans hToFalling (Frame.mono Dev.frame_standingBy standing_stuck)
  have hFailsLast := (Frame.get (Dev.frame_standingBy (d := z)) F.PWR_COUNTS.step_fail (by decide)).trans hFallFails
  exact completes_stepTimeout hDone (idleStart_of_frame hIdle hAll (by decide) (by decide) (by decide))
    ⟨Dev.pwrSt_standingBy, Dev.phaseSt_phasesBack, Dev.shown_phasesBack.1, Dev.shown_phasesBack.2, hFailsLast, strobed_standingBy hFallStrobed,
      fun p hLo hHi => Dev.later_phasesBack hLo hHi, Frame.ofDev hAll⟩

/-! ### Power good lost (R336) -/

theorem pgLost_ignored (ext : Bool) (k : Fin 16) (hSt : s.dev.pwrSt ≠ 3) : Completes (exec (.pgLost ext k) s) fun t => t = s :=
  completes_onDev (·.pgLost ext k) rfl (by rw [Dev.pgLost_off hSt])

theorem frame_pgShown {ext : Bool} : Dev.Frame ([Part.reg R.PWR_STATUS.off] ++ timeParts) d (d.pgShown ext k) := by
  have hWaited : Dev.Frame ([Part.reg R.PWR_STATUS.off] ++ timeParts) d (d.advance 1250) := Frame.mono (Frame.advance Frame.refl _ fun _ h => h) (by simp +contextual)
  exact Frame.ite (Frame.putBit hWaited _ _ _ (by simp [F.PWR_STATUS.pg])) hWaited

/-- A rail in use whose power-good level is low raises the level of source 31 (R364). -/
theorem active_pgLost {x : Dev} (hSt : d.pwrSt = 3) (hDom : d.doms[i]? = some f) (hUsed : f.pgUsed = true) (hOn : d.entryOn f = true) (hKind : f.kind = 1)
    (hShown : Dev.Frame ([Part.reg R.PWR_STATUS.off] ++ timeParts) d x) (hLow : bit (x.get F.PWR_STATUS.pg) f.index = false) :
    x.pwrActive.on (F.FLT_SRCi_STATE.active 31) = true := by
  have hFrd := Frame.frd_eq hShown (by decide)
  have hStays : x.pwrSt = 3 := (Frame.get hShown F.PWR_STATE.state (by decide)).trans hSt
  have hEntryOn : x.entryOn f = true := (Dev.entryOn_congr (Frame.rd hShown _ (by decide)) f).trans hOn
  have hIn : f ∈ x.doms := by
    rw [Dev.doms, Dev.cfg, hFrd]
    exact List.mem_of_getElem? hDom
  have hAny : (x.doms.any fun e => e.kind = 1 && e.pgUsed && x.entryOn e && !bit (x.get F.PWR_STATUS.pg) e.index) = true :=
    List.any_eq_true.2 ⟨f, hIn, by simp [hKind, hUsed, hEntryOn, hLow]⟩
  rw [Dev.pwrActive, Dev.on_setActive_same _ (by decide), hStays, hAny]
  simp

theorem pgLost_step (k : Fin 16) (hSt : s.dev.pwrSt = 3) (hDom : s.dev.doms[i]? = some f) (hEntry : f.index = k ∧ f.pgUsed = true ∧ i < 32) (hk : k < 8)
    (hOn : s.dev.entryOn f = true)
    (hFirst : ∀ (j : Nat), j < i → (s.dev.doms[j]?.map fun x => (decide (x.kind = 1), x.index)) ≠ some (decide (f.kind = 1), f.index)) :
    Completes (exec (.pgLost (decide (f.kind = 1)) k) s) fun t =>
      t.dev.sys.now8 = s.dev.sys.now8 + 1250 ∧ bit (t.dev.rd R.PWR_IRQ_STATUS) 4 = true ∧
      (f.kind = 1 → bit (t.dev.get F.PWR_STATUS.pg) k = false ∧ t.dev.on (F.FLT_SRCi_STATE.active 31) = true) ∧
      strobed s.dev t.dev 31 (0x72 * 2 ^ 24 + i * 2 ^ 16 + f.code) (t.dev.rd R.PWR_STATUS) ∧
      s.Frame ([Part.reg R.PWR_STATUS.off] ++ strobeParts 31 ++ activeParts 31 ++ pwrFlagParts ++ timeParts) t := by
  obtain ⟨hIndex, hUsed, hi⟩ := hEntry
  have hLost := Dev.pgLost_on hSt (Dev.pgEntry_first hDom hUsed hOn hFirst)
  rw [hIndex] at hLost
  refine completes_onDev (·.pgLost (decide (f.kind = 1)) k) rfl ?_
  rw [hLost]
  have hShown := frame_pgShown (d := s.dev) (ext := decide (f.kind = 1)) (k := k.val)
  have hNow : (s.dev.pgShown (decide (f.kind = 1)) k).sys.now8 = s.dev.sys.now8 + 1250 := by
    unfold Dev.pgShown
    split
    · rw [Dev.putBit_sys, Dev.now8_advance]
    · rw [Dev.now8_advance]
  have hLevel (hKind : f.kind = 1) : bit ((s.dev.pgShown (decide (f.kind = 1)) k).get F.PWR_STATUS.pg) k = false := by
    rw [Dev.pgShown, if_pos (by simp [hKind]), Dev.bit_putBit _ _ _ _ rfl hk, if_pos rfl]
  generalize s.dev.pgShown (decide (f.kind = 1)) k = x at hShown hNow hLevel
  have hActive := Dev.frame_pwrActive (d := x)
  have hFlag : Dev.Frame pwrFlagParts x.pwrActive (x.pwrActive.pwrFlag 4) :=
    Frame.flag Frame.refl _ _ _ _ (by simp [pwrFlagParts]) (by simp +contextual [pwrFlagParts])
  have hBit : bit ((x.pwrActive.pwrFlag 4).rd R.PWR_IRQ_STATUS) 4 = true := Dev.bit_pwrFlag (by decide)
  have hMerged : (x.pwrActive.pwrFlag 4).get (F.FLT_SRCi_STATE.merged 31) = s.dev.get (F.FLT_SRCi_STATE.merged 31) :=
    (Frame.get hFlag _ (by decide)).trans ((Dev.get_setActive_merged 31 _).trans (Frame.get hShown _ (by decide)))
  have hStrobes : (x.pwrActive.pwrFlag 4).flt.strobes = s.dev.flt.strobes :=
    (hFlag Part.strobes (by decide)).trans ((hActive Part.strobes (by decide)).trans (hShown Part.strobes (by decide)))
  have hRaised (hKind : f.kind = 1) : (x.pwrActive.pwrFlag 4).on (F.FLT_SRCi_STATE.active 31) = true :=
    (Frame.on hFlag _ (by decide)).trans (active_pgLost hSt hDom hUsed hOn hKind hShown (by rw [hIndex]; exact hLevel hKind))
  have hWhole : Dev.Frame ([Part.reg R.PWR_STATUS.off] ++ activeParts 31 ++ pwrFlagParts ++ timeParts) s.dev (x.pwrActive.pwrFlag 4) :=
    Frame.trans (Frame.trans (Frame.mono hShown (by simp +contextual)) (Frame.mono hActive (by simp +contextual))) (Frame.mono hFlag (by simp +contextual))
  have hSame : (x.pwrActive.pwrFlag 4).rd R.PWR_STATUS = x.rd R.PWR_STATUS := (Frame.rd hFlag _ (by decide)).trans (Frame.rd hActive _ (by decide))
  have hNow8 : (x.pwrActive.pwrFlag 4).sys.now8 = x.sys.now8 := (hFlag Part.clock (by decide)).trans (hActive Part.clock (by decide))
  rw [← hSame, pwrDetail_eq]
  have hPg : (x.pwrActive.pwrFlag 4).get F.PWR_STATUS.pg = x.get F.PWR_STATUS.pg := by rw [Dev.get, Dev.get, F.PWR_STATUS.pg, hSame]
  generalize x.pwrActive.pwrFlag 4 = y at hBit hMerged hStrobes hRaised hWhole hNow8 hPg
  generalize 0x72 * 2 ^ 24 + i * 2 ^ 16 + f.code = d0
  have hReport := Dev.frame_report (d := y) 31 d0 (y.rd R.PWR_STATUS)
  have hRecord : strobed s.dev (y.report 31 d0 (y.rd R.PWR_STATUS)) 31 d0 (y.rd R.PWR_STATUS) := Dev.strobed_report _ _ hStrobes hMerged
  have hStill : (y.report 31 d0 (y.rd R.PWR_STATUS)).rd R.PWR_STATUS = y.rd R.PWR_STATUS := Frame.rd hReport _ (by decide)
  have hReported : (y.report 31 d0 (y.rd R.PWR_STATUS)).sys.now8 = y.sys.now8 := hReport Part.clock (by decide)
  refine ⟨hReported.trans (hNow8.trans hNow), ?_, fun hKind => ⟨?_, ?_⟩, ?_, Frame.ofDev ?_⟩
  · exact (congrArg (fun v => bit v 4) (Frame.rd hReport R.PWR_IRQ_STATUS (by decide))).trans hBit
  · exact (congrArg (fun v => bit v k) ((Frame.get hReport F.PWR_STATUS.pg (by decide)).trans hPg)).trans (hLevel hKind)
  · exact (Dev.on_report_source _ _ _ _).trans (hRaised hKind)
  · dsimp only
    rw [hStill]
    exact hRecord
  · exact Frame.trans (Frame.mono hWhole (by simp +contextual)) (Frame.mono hReport (by simp +contextual))

end

/-- Settles O44: the step in progress, what its end or its time-out does, and each way on are lemmas of their own, and each clause puts them together. -/
theorem powerSteps : Obligations.PowerSteps := by
  unfold Obligations.PowerSteps
  exact ⟨fun _ => coreFalls_step, fun _ _ _ => pinnaLost_step, fun _ _ _ _ => stepDone_any, fun _ => noStep, fun _ _ _ => timeout_step,
    fun _ _ _ _ _ => rail_riseNext, fun _ _ _ => rail_reachesOn, fun _ _ _ _ _ => rail_fallNext, fun _ _ _ => timeout_halts, fun _ _ _ => rail_stuck,
    fun _ _ _ => pgLost_step, fun _ => pgLost_ignored⟩

end Sys2Proof.Proofs
end
